-- ==== Sys2Proof/Word.lean ====
section
/-!
DEFINITION. The word types of the model: bytes and 32-bit register words.
-/

namespace Sys2Proof

/-- A byte of a packet, a frame, a table or a memory. -/
abbrev Byte := BitVec 8

/-- A 32-bit register. -/
abbrev Word := BitVec 32

/-- A string of bytes, the first at the lowest offset (R24). -/
abbrev Bytes := List (BitVec 8)

end Sys2Proof
end

