-- ==== Sys2Proof/Frames.lean ====
section
/-!
DEFINITION. What the commands carry: command packets and the transports that bring them.
-/

namespace Sys2Proof

/-- Where a packet came from and where its reply goes (R86, R90, R92). -/
inductive Transport where
  /-- A UDP datagram on the HOST port, from this IPv4 address and UDP port (R86, R88). -/
  | host (ip : BitVec 32) (port : BitVec 16)
  /-- An ISO 15765-2 message on CAN_D, from this service address (R93, R94). -/
  | canD (sa : BitVec 8)
  /-- A packet carried over the Line, sent by the module with this join number (0x40: the holder of the terminus
  role) in this timetable entry, or in a BE_DATA frame when there is none (R90). -/
  | line (sender : BitVec 7) (entry : Option (BitVec 12))
  deriving DecidableEq, Repr

/-- A UDP datagram from the message bus of other machines: its bytes, and whether it came in IP fragments (R89). -/
structure UdpDatagram where
  bytes : Bytes
  fragmented : Bool := false
  deriving DecidableEq, Repr

/-- A received request, field by field as R75 lays it out, with its parameters and its CRC-32C trailer (R74). The
opcode is given by the command that carries the request. -/
structure Request where
  via : Transport
  /-- Its UDP datagram came in IP fragments (R89). -/
  fragmented : Bool := false
  magic : BitVec 16 := 0x5A47#16
  version : BitVec 8 := 1#8
  flags : BitVec 8 := 0#8
  session : BitVec 16
  target : BitVec 8
  origin : BitVec 8 := 0#8
  sequence : BitVec 32
  paramLen : BitVec 16
  auth : BitVec 64
  params : Bytes
  crc : BitVec 32
  deriving DecidableEq, Repr

/-- A packet that the module sends: a reply, an interim reply or an EVENT, with the reply block of R78, the result and
the trailer. -/
structure Reply where
  version : Nat
  flags : Nat
  session : Nat
  target : Nat
  origin : Nat
  sequence : Nat
  opcode : Nat
  status : Nat
  admitted : Nat
  qpos : Nat
  wait : Nat
  result : Bytes
  auth : Nat
  crc : Nat
  deriving DecidableEq, Repr

/-- The two Line ports of a module (R145). -/
inductive Port where
  | W | E
  deriving DecidableEq, Repr

/-- A Line frame as it stands on the wire: the header of R150, the payload and the FCS (R149). A marked frame carries
the inverse of the correct FCS (R154). -/
structure LineFrame where
  type : BitVec 8
  src : BitVec 8
  entry : BitVec 12
  dir : Bool
  turned : Bool
  pastSender : Bool
  hops : BitVec 8
  len : BitVec 8
  dest : BitVec 8
  cycle : BitVec 32
  setId : BitVec 16
  hcrc : BitVec 16
  payload : Bytes
  fcs : BitVec 32
  deriving DecidableEq, Repr

/-- What a camera frame carries: the pixel format of R277 with its samples, each plane in raster order. -/
inductive Pixels where
  /-- RAW10 and RAW12: one plane of raw samples. -/
  | raw10 (p : List Nat)
  | raw12 (p : List Nat)
  /-- YUV422, 8 bits: luma of every pixel, and chroma of every second one. -/
  | yuv422 (y u v : List Nat)
  deriving DecidableEq, Repr

/-- What the packets of a camera frame bring: the virtual channel of their headers, and the samples (R277). -/
structure CameraData where
  channel : BitVec 2 := 0
  pixels : Pixels
  deriving DecidableEq, Repr

/-- A sample of an input (R274). -/
inductive Reading where
  /-- Analogue input i: its code. -/
  | analogue (i : Nat) (code : BitVec 16)
  /-- Frequency input i: frequency in mHz, or the signed position count in encoder mode (R399). -/
  | frequency (i : Nat) (value : Int)
  /-- Frequency input i: how many ns ago each of the edges came that it counted in the interval of 100 µs that ends, the oldest first
  (R274, R282). -/
  | edges (i : Nat) (ago : List Nat)
  /-- Acoustic input i: its code. -/
  | acoustic (i : Nat) (code : BitVec 16)
  /-- DIN0–DIN15. -/
  | digital (levels : BitVec 16)
  /-- LOGIC_SUPPLY in mV, and the level of IGN_IN (R812). -/
  | logic (mv : Nat) (ign : Bool)
  /-- Three accelerations in mm/s² and three rates in 10 µrad/s, machine frame. -/
  | inertial (ax ay az gx gy gz : Int)
  deriving DecidableEq, Repr

/-- What an Ethernet port answers besides its own traffic (R89, R280). -/
inductive NetProbe where
  /-- An ARP request for this address. -/
  | arp (ip : BitVec 32)
  /-- An ICMP echo request with its data. -/
  | echo (data : Bytes)
  deriving DecidableEq, Repr

/-- What the receiver delivers at a measurement epoch (R501–R509). -/
structure GnssFix where
  /-- Elevation in degrees and C/N0 in dB-Hz of each satellite of the time solution. -/
  used : List (Nat × Nat)
  /-- The system whose time the solution gives: 0 GPS, 1 Galileo, 2 BeiDou, 3 QZSS; its time at the epoch, ns; and the offsets that the
  navigation data of this epoch bring, as system and GPS time minus its time in ns (R488). -/
  system : BitVec 2
  gnssTime : Int
  offsets : List (Nat × Int)
  /-- The satellites, as system and number, whose ephemerides the navigation data of this epoch complete (R495, R499). -/
  orbits : List (Nat × Nat)
  /-- The kind of solution that the measurements allow (R502). -/
  fix : BitVec 3
  /-- Antenna A: 10⁻⁹ degree; mm (R501). -/
  lat : Int
  lon : Int
  hgt : Int
  /-- The resolved baseline from antenna A to antenna B in 0.1 mm and its direction in 0.001° from north (R508). -/
  baseline : Nat
  azimuth : Nat
  /-- mm/s, negative in reverse. -/
  speed : Int
  leap : Option Int
  deriving DecidableEq, Repr

/-- The navigation state as the inertial sensor propagates it between epochs (R501): the position of antenna A in 10⁻⁹ degree and mm, the
heading of the machine in 0.001°, mm/s. -/
structure NavPoint where
  lat : Int
  lon : Int
  hgt : Int
  heading : Nat
  speed : Int
  deriving DecidableEq, Repr

/-- What firmware finds and sets for a tracking channel at a dump (R497, R498). -/
structure ChannelDump where
  chan : Nat
  sig : BitVec 4
  sv : BitVec 8
  antB : Bool
  state : BitVec 3
  cn0 : BitVec 8
  slip : Bool
  doppler : Int
  /-- The five correlators, very early to very late. -/
  corr : List Int
  /-- Code phase in 2⁻³² chip, carrier phase in 2⁻³² cycle and frequency in mHz written to the NCOs. -/
  codePhase : BitVec 32
  carrierPhase : BitVec 32
  frequency : Int
  deriving DecidableEq, Repr

/-- A frame on a CAN bus (R677). -/
structure CanFrame where
  id : Nat
  ide : Bool
  fdf : Bool
  brs : Bool
  remote : Bool
  data : Bytes
  deriving DecidableEq, Repr

/-- A DMA descriptor as its owner writes it (R651). -/
structure Descriptor where
  pattern : BitVec 2
  event : Bool
  src : BitVec 64
  dst : BitVec 64
  srcLen : BitVec 32
  srcStride : BitVec 32
  dstLen : BitVec 32
  dstStride : BitVec 32
  srcCount : BitVec 16
  dstCount : BitVec 16
  indexCount : BitVec 16
  req : BitVec 8
  index : BitVec 64
  tag : BitVec 32
  deriving DecidableEq, Repr

/-- What a transfer meets outside the engine: the first error of its beats (R657). -/
inductive DmaError where
  | none | srcErr | dstErr | lastBeat | readback | ecc
  deriving DecidableEq, Repr

/-- How the beats of a descriptor went: its first error, the destination beats confirmed before it, what the FIFO of a
source port gave, the beats of that FIFO that underflowed (R662), and the errors that inline ECC corrected and could not
correct (R641). -/
structure DmaEnd where
  err : DmaError
  beats : Nat
  fifo : Bytes
  underrun : List Nat
  corrected : Nat
  uncorrected : Nat
  deriving DecidableEq, Repr

/-- What the holder of the terminus role learns of a module of its Line for an update run (R769, R774): its join number,
the 48 bytes of its UPDATE_STATUS, HOLD of its LSW_CFG in ms, whether the target images of its Signal and of its Yard die satisfy
R763, and whether its Yard target image has another MAJOR of the Line protocol. -/
structure RunReport where
  num : Nat
  status : Bytes
  hold : Nat
  formatSig : Bool
  formatYard : Bool
  major : Bool
  deriving DecidableEq, Repr

end Sys2Proof
end

