-- ==== Sys2Proof/Machine/PartsCore.lean ====
section
/-!
DEFINITION. The parts of the state that the events, the logbook, the sessions, the roles and the two dies have beside
their registers. A register field that the register map gives has its home in the register space of State; what stands
here is what no register shows, or what a register shows a summary of.
-/

namespace Sys2Proof.Machine

/-- An event record (R713). -/
structure EventRecord where
  source : Nat
  origin : Nat
  detail : Nat
  stamp : Nat
  merged : Nat
  arg : Nat
  deriving DecidableEq, Repr

/-- A place where event records wait: the records in order, and the overflow counts of the sources that found it full
(R715), each with the record it will become. -/
structure EventHold where
  held : List EventRecord := []
  spill : List EventRecord := []
  deriving DecidableEq, Repr

/-- A record of the fault ring (R725). -/
structure FaultRec where
  seq : Nat
  opsec : Nat
  pcyc : Nat
  cls : Nat
  type : Nat
  source : Nat
  detail : Nat
  repeats : Nat
  arg0 : Nat
  arg1 : Nat
  arg2 : Nat
  deriving DecidableEq, Repr

/-- An entry of the retirement list (R706). -/
structure RetireEntry where
  kind : Nat
  cause : Nat
  index : Nat
  unit : Nat
  opsec : Nat
  pcyc : Nat
  deriving DecidableEq, Repr

/-- An extreme record (R724); FLAGS [7] VALID stands for its being present. -/
structure Extreme where
  value : Int
  opsec : Nat
  pcyc : Nat
  deriving DecidableEq, Repr

/-- Histograms and extreme records, as gathered or as committed: counters by 32 h + bin (unlisted: 0), extremes by
record number (unlisted: not valid). -/
structure LogData where
  hist : List (Nat × Nat) := []
  extremes : List (Nat × Extreme) := []
  deriving DecidableEq, Repr

/-- The readings of a histogram quantity in the operating second that runs: their sum, their number, the lowest and the highest
(R723). -/
structure SecondRun where
  sum : Int
  n : Nat
  lo : Int
  hi : Int
  deriving DecidableEq, Repr

/-- Events, logbook, retirement list and dead-men (R704–R740). -/
structure EventPart where
  /-- The always-on event latch of the Signal die, at most 64 records (R715). -/
  latch : EventHold := {}
  /-- Faults that arose while the Signal firmware was down, oldest first (R729). -/
  faultWait : List FaultRec := []
  /-- The fault ring, oldest first, at most 4,096 records (R725). -/
  ring : List FaultRec := []
  /-- The retirement list, in order of retirement (R707). -/
  retired : List RetireEntry := []
  /-- Blocks and pages retired only until the next power-up (R708). -/
  retiredHere : List RetireEntry := []
  /-- Histograms and extremes as gathered in the always-on domain (R730). -/
  live : LogData := {}
  /-- What the operating second that runs has brought, by histogram (R723). -/
  second : List (Nat × SecondRun) := []
  /-- Histograms and extremes as committed to MRAM (R730). -/
  mram : LogData := {}
  /-- OPSEC and the part second in ns, as committed to MRAM (R722). -/
  opsecMram : Nat := 0
  partMram : Nat := 0
  /-- The part second not yet counted by OPSEC, at the instant awakeFrom (R722). -/
  partNs : Nat := 0
  awakeFrom : Nat := 0
  /-- Instant of the next commit (R730). -/
  commitAt : Nat := 60000000000
  /-- The dead-men: when each was last restarted, none while it is not armed (R734–R736). -/
  sigDeadman : Option Nat := none
  yardDeadman : Option Nat := none
  deriving DecidableEq, Repr

/-- The state of a known request (R111). -/
inductive ReqState where
  | queued | executing | done
  deriving DecidableEq, Repr

/-- The record of a request of the window (R111). -/
structure ReqRecord where
  seq : Nat
  fingerprint : Nat
  state : ReqState
  status : Nat
  admitted : Nat
  result : Bytes
  resultLen : Nat
  /-- ORIGIN of the final reply: the module that executed the request, 0xFF for a broadcast (R75). -/
  origin : Nat := 0
  /-- When the retry-after of a TURNED_AWAY reply has passed, 0 for none (R69, R78). -/
  retryUntil : Nat := 0
  deriving DecidableEq, Repr

/-- A session, or a session number reserved by phase 1 (R96–R103, R111). -/
structure Session where
  num : Nat
  /-- False while only phase 1 has come (R102). -/
  isOpen : Bool
  level : Nat
  key : Bytes
  hostNonce : Bytes
  moduleNonce : Bytes
  /-- When a reserved number is released (R102). -/
  openBy : Nat
  /-- The highest SEQUENCE seen, and the seen bitmap: bit i stands for H − i (R110). -/
  h : Nat
  seen : Nat
  records : List ReqRecord
  /-- The last authenticated packet: when and from where (R107, R88). -/
  lastAuth : Nat
  via : Transport
  /-- Blocks this session has unlocked, by the high half of their base address, with the instant of relocking. -/
  unlocked : List (Nat × Nat)
  /-- Queued event records with the instant each was queued (R718), and LOST since the previous EVENT (R719). -/
  evQueue : List (EventRecord × Nat)
  evLost : Nat
  deriving DecidableEq, Repr

/-- What an executing request waits for. -/
inductive Job where
  /-- Queued behind the Signal die (R46), or behind an earlier request of its session (R117). -/
  | queued
  /-- Forwarded to one module (R90). -/
  | forward (num : Nat)
  /-- A broadcast that waits for replies, from each module with the end of its tFWD_TIMEOUT (none for this module itself); the
  entries of R127 so far: join number, ADMIT and STATUS. -/
  | broadcast (waiting : List (Nat × Option Nat)) (entries : List (Nat × Nat × Nat))
  /-- SIDING_VERIFY in progress (R240). -/
  | verify
  /-- POINTS_THROW accepted with this throw cycle (R251). -/
  | throwing (cycle : Nat)
  /-- LEVEL_SET until the sequencer answers (R630). -/
  | level (l : Nat)
  /-- UPDATE_VERIFY in progress for the slot of a die (R753). -/
  | image (die : Nat)
  /-- The final reply waits for the mirror of R118. -/
  | mirror (r : Reply)
  /-- CONSIST_JOIN while the module listens (R580). -/
  | listen
  /-- UPDATE_ACTIVATE while its run goes on (R769). -/
  | run
  deriving DecidableEq, Repr

/-- A request of this module that is queued or executing (R121, R123). -/
structure Waiting where
  req : Request
  opcode : Nat
  job : Job
  arrived : Nat
  /-- When the next interim reply is due (R123). -/
  interimAt : Nat
  /-- When tFWD_TIMEOUT ends for a forwarded request (R91). -/
  timeoutAt : Nat
  /-- The session has closed since: the reply is discarded (R108). -/
  orphan : Bool
  /-- The request is RESERVED, within the budget of R122. -/
  reserved : Bool := false
  /-- The request needs the Signal die (R830). -/
  signal : Bool := false
  /-- The packets of the forward that wait in an entry's queue (0xFFF: in best-effort frames): the entry, the PKT_ID, and the
  modules that they are for. tFWD_TIMEOUT of a module runs once its packet has left (R91). -/
  leaving : List (Nat × Nat × List Nat) := []
  deriving DecidableEq, Repr

/-- A refusal with a retry-after that still runs (R69). -/
structure Refused where
  session : Nat
  opcode : Nat
  target : Nat
  params : Bytes
  status : Nat
  until_ : Nat
  deriving DecidableEq, Repr

/-- A transfer of ISO 15765-2 on CAN_D (R93, R95). -/
structure IsoTp where
  peer : Nat
  total : Nat
  data : Bytes
  nextSn : Nat
  deadline : Option Nat
  deriving DecidableEq, Repr

/-- Command packets (R74–R144). -/
structure PacketPart where
  sessions : List Session := []
  /-- Requests queued or executing, oldest first (R65, R117). -/
  waiting : List Waiting := []
  refused : List Refused := []
  /-- Service times in ns of the last 64 requests served from the queue, newest first, and the instant at which the last of them
  was served (R68). -/
  service : List Nat := []
  lastServed : Nat := 0
  /-- Grants from the RESERVED budget of R122 in the last second: their instants. -/
  reservedUse : List Nat := []
  /-- The three level keys (MRAM), levels 1–3 (R104). -/
  levelKeys : List Bytes := []
  /-- The failure counters of R106 (MRAM) with the awake time in ns of the latest failure, levels 1–3. -/
  failures : List (Nat × Nat) := [(0, 0), (0, 0), (0, 0)]
  /-- The eight counters of COUNTERS_READ (R130). -/
  received : Nat := 0
  replied : Nat := 0
  badLength : Nat := 0
  badMagic : Nat := 0
  badCrc : Nat := 0
  badAuth : Nat := 0
  authFailed : Nat := 0
  fwdTimeouts : Nat := 0
  /-- The reassembly and the sending of a CAN_D service packet, and the end of N_As while a frame of the service path waits for its
  transmission (R95). -/
  isoRx : Option IsoTp := none
  isoTx : Option IsoTp := none
  asUntil : Option Nat := none
  /-- Packets of CAN_D that the Signal die has put together and that wait for the Crossover, and replies to CAN_D that wait for it,
  with their service addresses (R40). -/
  canIn : List (Nat × Bytes) := []
  canOut : List (Nat × Bytes) := []
  deriving DecidableEq, Repr

/-- The outcome of the role decision (R4–R17). -/
inductive Role where
  /-- The straps are not latched yet. -/
  | unlatched
  | station | terminusClaim | terminus | reliefClaim | relief | stoodDown
  /-- STRAP_FAULT (R13). -/
  | noRole
  deriving DecidableEq, Repr

/-- Straps and role (R3–R17, R53–R59). -/
structure RolePart where
  role : Role := .unlatched
  /-- The samples of the current run, oldest first, and the runs that failed (R10, R11). -/
  samples : List (BitVec 9) := []
  runs : Nat := 0
  /-- When the Signal die may take the first or next sample, none once latched (R10). -/
  strapAt : Option Nat := none
  /-- The end of tMASTER_LISTEN of a claim, and whether a holder was heard meanwhile (R14). -/
  listenEnd : Option Nat := none
  heardHolder : Bool := false
  /-- The module's own first CYCLE_START as holder (R15). -/
  firstCycleStart : Option Nat := none
  /-- The module has its join number: it took the terminus role, or its JOIN was accepted (R713, R94). -/
  joined : Bool := false
  deriving DecidableEq, Repr

/-- The two dies and the Crossover (R36–R54). -/
structure DiePart where
  /-- The Signal firmware runs and has claimed the outputs. -/
  sigUp : Bool := false
  /-- When the Signal die restart began, and when tHOLD ends (R44). -/
  sigRestartAt : Option Nat := none
  holdUntil : Option Nat := none
  /-- The Yard die is in service. -/
  yardUp : Bool := false
  yardRestartAt : Option Nat := none
  /-- The restart notice of the Yard die came first (R50), and when tPLANNED_GRACE ends. -/
  planned : Bool := false
  plannedUntil : Option Nat := none
  /-- The restart notice that the Signal die sent before its restart (R40). -/
  sigNotice : Bool := false
  /-- The Yard die comes up at power-up or at wake, and not after a restart: its ports train for tLINK_UP (R14, R47). -/
  yardCold : Bool := true
  /-- The Crossover is usable; the last valid symbol that each die received (R39). -/
  xoUp : Bool := false
  xoHeardBySignal : Nat := 0
  xoHeardByYard : Nat := 0
  /-- When both dies became ready, for tXO_UP (R39). -/
  xoReadyAt : Option Nat := none
  /-- The Yard die has every channel go off, and the Signal die does not know it yet: the Crossover is down (R37, R44, R188). -/
  offDue : Bool := false
  /-- Requests that left their queue because their die restarted, until they are answered (R66). -/
  dropped : List Waiting := []
  deriving DecidableEq, Repr

end Sys2Proof.Machine
end

