-- ==== Sys2Proof/Machine/PartsLine.lean ====
section
/-!
DEFINITION. The parts of the state that the Line, the configuration sets and the running orders have beside their
registers.
-/

namespace Sys2Proof.Machine

/-! ### Configuration sets -/

/-- A container of *Running and Siding Sets*: its length, the byte that an unlisted offset holds, and the bytes that
differ from it, by offset. -/
structure Container where
  total : Nat
  fill : Byte
  data : List (Nat × Byte)
  deriving DecidableEq, Repr

/-- A throw that this terminus-role holder has accepted (R243–R246). -/
structure Throw where
  cycle : Nat
  crc : Nat
  /-- Join numbers whose arming reply OK has arrived. -/
  armedOk : List Nat
  /-- The decision of R246, once made. -/
  committed : Option Bool
  /-- Join numbers that failed R246. -/
  failed : List Nat
  /-- The arming request has been sent (R244). -/
  asked : Bool
  deriving DecidableEq, Repr

/-- One of the sixteen running orders (R260–R264). -/
structure OrderState where
  active : Bool := false
  step : Nat := 0
  /-- When its next step may execute (tORDER_STEP, or the end of a WAIT). -/
  nextAt : Nat := 0
  /-- The end of the TIME of an UNTIL that is being tried. -/
  untilEnd : Option Nat := none
  /-- The event source of its TRIGGER while the set in force gives it one. -/
  trigger : Option Nat := none
  /-- Its trigger has come and it has not started yet. -/
  triggered : Bool := false
  /-- When its period last expired, or began to run. -/
  periodFrom : Nat := 0
  deriving DecidableEq, Repr

/-- The sets of a module and the throw (R227–R264). -/
structure SetPart where
  running : Option Container := none
  siding : Option Container := none
  /-- The siding area of the MRAM: the sections of the Signal die as they were at the last verification that passed, with type and
  instance (R238). -/
  mramArea : List (Nat × Nat × Bytes) := []
  /-- The manifest of the terminus's own SIDING_VERIFY that passed, and the modules that answered OK under it since
  (R243). -/
  manifest : List (Nat × Nat) := []
  manifestCrc : Nat := 0
  okFrom : List Nat := []
  /-- Model instances of the siding set that MODEL_LOAD has opened and not completed (R302, R303). -/
  modelOpen : List Nat := []
  /-- The throw that this holder runs. -/
  throw : Option Throw := none
  /-- The commit token last accepted: throw cycle and LINE_CRC, and the cycle whose CYCLE_START carried it (R247). -/
  token : Option (Nat × Nat × Nat) := none
  /-- The token that the Signal die has of it: throw cycle and LINE_CRC (R248). -/
  sigToken : Option (Nat × Nat) := none
  /-- The set to which the Yard die has swapped while the Signal die has not: its LINE_CRC and its container (R248). -/
  yardAhead : Option (Nat × Container) := none
  /-- A late swap is due at this cycle (R253). -/
  lateAt : Option Nat := none
  /-- The throw cycle under which the siding set is ARMED (R244). -/
  armedFor : Option Nat := none
  /-- The cycle (not reduced) of the last throw cycle that has begun here, until whose end R245 holds, and the throw cycle
  at which the sets were last swapped (R252). -/
  barred : Option Nat := none
  swappedAt : Option Nat := none
  orders : List OrderState := List.replicate 16 {}
  deriving DecidableEq, Repr

/-! ### The Line -/

/-- What a port knows of its link (R192, R198–R202). -/
structure PortState where
  /-- A link has come up on the port since its Yard die is in service. -/
  linked : Bool := false
  /-- Link errors of the current cycle, and those of the cycle that led to the pending judgement (R200). -/
  errors : Nat := 0
  lastErrors : Nat := 0
  /-- An error awaits its second attempt (R200). -/
  pendingErr : Bool := false
  /-- The CHECK frame that answers this module's request has arrived whole in the current cycle (R200). -/
  checkOk : Bool := false
  /-- A CHECK frame of any kind has arrived whole in the current cycle (R199). -/
  checkSeen : Bool := false
  /-- Consecutive good CHECK frames, and the restoring cycle once named (R199). -/
  goodChecks : Nat := 0
  restoreAt : Option Nat := none
  /-- The module asks the neighbour to remove its entry (R202). -/
  asking : Bool := false
  /-- The neighbour's CHECK frames show an entry for this link. -/
  peerRetired : Bool := false
  /-- Twice the link delays of the last 16 probes (round trips less turnaround), in 1/16 ns, newest first, and when the last DELAY_REQ left (R192). -/
  delays : List Nat := []
  probeAt : Option Nat := none
  /-- The best-effort frames that leave the port or wait in its buffer: the instants at which each begins and ends, in
  units of 0.2 ns, and its bytes (R149, R179). -/
  busy : List (Nat × Nat × Nat) := []
  deriving DecidableEq, Repr

/-- A module that the terminus-role holder, or the relief from its mirror, knows (R170, R186–R190). -/
structure Member where
  num : Nat
  uid : Nat
  posE : Nat
  /-- RESULT of its latest JOIN (R187). -/
  result : Nat
  startCycle : Nat
  /-- It claimed the relief role. -/
  relief : Bool
  absent : Bool
  /-- Consecutive cycles in which no frame from it was accepted (R189). -/
  silent : Nat
  /-- It is in SET_MISMATCH (R255, R270). -/
  mismatch : Bool := false
  /-- The join number of the holder from whose place its posE counts (R183). -/
  origin : Nat := 0
  deriving DecidableEq, Repr

/-- A packet in reassembly from one entry and sender, or from BE_DATA frames of a sender (R165). -/
structure Reassembly where
  entry : Nat
  src : Nat
  pktId : Nat
  nextFrag : Nat
  data : Bytes
  deriving DecidableEq, Repr

/-- The Line (R145–R226). -/
structure LinePart where
  east : PortState := {}
  west : PortState := {}
  /-- The entries accepted in the current cycle (R172). -/
  seen : List Nat := []
  /-- The newest accepted payload of each RESERVED entry, by entry, with its cycle (R166, R175). -/
  values : List (Nat × Nat × Bytes) := []
  /-- Consecutive misses of RESERVED entries, by entry (R175, R206). -/
  misses : List (Nat × Nat) := []
  /-- The frames waiting in the module's STANDING entries, oldest first, with the entry (R164). -/
  queues : List (Nat × Bytes) := []
  /-- When the first frame of each entry's queue came to its head, and the last 64 service times in ns of each queue, newest first, by
  entry (R68). -/
  entryFrom : List (Nat × Nat) := []
  entryService : List (Nat × List Nat) := []
  /-- Replies that wait for room in their queue (R164): entry and packet. -/
  replyWait : List (Nat × Bytes) := []
  /-- The copies of reserved frames sent in this cycle whose offset has not come yet: entry, east, frame (R171). -/
  laterCopies : List (Nat × Bool × LineFrame) := []
  /-- Best-effort frames of the module that wait: type, DEST and payload (R176, R179, R181). A frame of one hop has 0x100 for its
  DEST where it leaves by W, 0x101 where it leaves by E. -/
  beQueue : List (Nat × Nat × Bytes) := []
  pktIds : List (Nat × Nat) := []
  reassembly : List Reassembly := []
  /-- The words that loops and received CAN signals give the module's RESERVED entries, by 1,024 × entry + word
  (R163, R402, R693). -/
  outWords : List (Nat × Word) := []
  /-- The words that received CAN signals publish from the next cycle on (R693). -/
  nextWords : List (Nat × Word) := []
  /-- What the module has done once in the current cycle: 0 the misses of RES_END, 1 and 2 the judgement of W and E, 3 the
  decision of R211, 4 the CHECK frames of the cycle; from 16 on the entries sent (R163, R175, R200, R211). -/
  done : List Nat := []
  /-- SRC codes of modules from which a frame was accepted in the current cycle (R189, R191, R211). -/
  heard : List Nat := []
  /-- CYCLE_START of the current cycle: HOPS of the copy in use (R194). -/
  csHops : Option Nat := none
  /-- That CYCLE_START is of the coming cycle: a step has brought it before this one's end (R517). -/
  csEarly : Bool := false
  /-- HOPS of the eastward and the westward copy last received (R183, R184). -/
  hopsE : Nat := 0
  hopsW : Nat := 0
  /-- The instant of the CYCLE_START last accepted, and its cycle (R249). -/
  lastCycleStart : Option Nat := none
  csCycle : Option Nat := none
  /-- TSTAT of the CYCLE_START last accepted. -/
  tstat : Nat := 0
  /-- MASTER_UID of the CYCLE_START last accepted, and the HEARD this holder last sent (R214). -/
  masterUid : Nat := 0
  /-- HEARD of its last CYCLE_START (R214). -/
  masterHeard : Nat := 0
  /-- The modules heard in the last whole cycle (R224). -/
  heardBefore : List Nat := []
  sentHeard : Nat := 0
  /-- SET_ID of the CYCLE_START last received (R253–R255). -/
  lineSetId : Nat := 0
  /-- Members known on the terminus and, from the mirror, on the relief. -/
  members : List Member := []
  /-- JOIN requests of the current cycle, for R186 and R16: UID, number, POS_E. -/
  joinsNow : List (Nat × Nat × Nat) := []
  /-- The cycle of the last JOIN sent, and START_CYCLE once accepted (R182). -/
  joinSent : Option Nat := none
  /-- The last JOIN has been answered (R182). -/
  joinAnswered : Bool := false
  startCycle : Option Nat := none
  /-- Cycles with CYCLE_START since join (R196). -/
  syncRun : Nat := 0
  /-- The module has joined in this power cycle with this UID-given number (R190). -/
  everJoined : Bool := false
  /-- Cycles without CYCLE_START in which the module has sent (R167). -/
  freeRun : Nat := 0
  /-- What LIN_TERR has grown by since the last CYCLE_START, in 10^−10 ns, and the cycle number at the last cycle boundary (R197). -/
  terrGrown : Nat := 0
  closedCycle : Nat := 0
  /-- The count of R211, and the cycle of the last complete mirror (R210). -/
  run : Nat := 0
  mirrorAt : Option Nat := none
  /-- On the relief terminus, the sessions 1–12 as the mirror gives them (R118); its own records of requests forwarded to it stand in
  the session list (R113). -/
  mirrorSessions : List Session := []
  /-- On the holder, when the first mirror entry of the present cycle left, and the same of the last cycle that has ended with a mirror
  (R118). -/
  mirrorCur : Option Nat := none
  mirrorDone : Option Nat := none
  /-- The requests POINTS_THROW that the mirror shows as accepted (R252). -/
  mirrorThrows : List Waiting := []
  /-- TAKEOVER is due in the next CYCLE_START (R212). -/
  takeoverDue : Bool := false
  takeoverFlag : Bool := false
  /-- The holder that remains after R214 is followed from the next cycle. -/
  yieldRole : Bool := false
  /-- The first cycle whose frames give Line values again after a loss (R208). -/
  valuesFrom : Nat := 0
  deriving DecidableEq, Repr

end Sys2Proof.Machine
end

