-- ==== Sys2Proof/Machine/PartsFusion.lean ====
section
/-!
DEFINITION. The parts of the state that sensor streams, models and fusion have beside their registers (R274–R327).
-/

namespace Sys2Proof.Machine

/-- A cell that a stream has placed: its index on the stream's grid, its confidence and its 16 features (R291, R294). -/
structure Placed where
  cell : Nat
  conf : Nat
  feat : List Int
  deriving DecidableEq, Repr

/-- An input that a stream's model may run on: its stamp, the model input, and the cells that a lidar sweep saw. -/
structure StreamInput where
  stamp : Nat
  tensor : List Int
  seen : List Nat
  deriving DecidableEq, Repr

/-- A model invocation in progress: its input, and for a PROJECT camera the cells with their feature pixels (cell, column,
row) under the map in force when it started (R307). -/
structure Invocation where
  input : StreamInput
  graph : Bytes
  pix : List (Nat × Nat × Nat)
  deriving DecidableEq, Repr

/-- The newest completed invocation of a stream (R313, R314). -/
structure StreamOutput where
  stamp : Nat
  serial : Nat
  cells : List Placed
  /-- The output tensor as delivered, for the Crossover selection of R400. -/
  raw : List Int
  deriving DecidableEq, Repr

/-- A sensor stream slot. -/
structure StreamPart where
  /-- When its last frame or sweep arrived, or its watch began (R283). -/
  lastInput : Nat := 0
  /-- The stamp of the last input its model used (R299). -/
  lastUsed : Option Nat := none
  waiting : Option StreamInput := none
  running : Option Invocation := none
  newest : Option StreamOutput := none
  serial : Nat := 0
  /-- Positions of the newest invocation already sent, the next position of the rotation, and SEQ (R312, R314). -/
  sent : List Nat := []
  nextPos : Nat := 0
  seq : Nat := 0
  /-- When its reconnect began, and when one last succeeded (R283, R284). -/
  reconnectAt : Option Nat := none
  returnedAt : Option Nat := none
  /-- The raw samples that a DIRECT stream has gathered for its next blocks, each with its stamp, oldest first (R282). -/
  gathered : List (Int × Nat) := []
  deriving DecidableEq, Repr

/-- A sweep that is being received: its datagrams so far, the stamp and the sensor's time of the first, and its points
(X, Y, Z, intensity), and its bytes. -/
structure SweepPart where
  packets : Nat := 0
  stamp : Nat := 0
  stime : Nat := 0
  points : List (Int × Int × Int × Nat) := []
  raw : Bytes := []
  deriving DecidableEq, Repr

/-- A feature tile as accepted for a source (R313). -/
structure Tile where
  pos : Nat
  grid : Nat
  stamp : Nat
  serial : Nat
  cells : List Placed
  deriving DecidableEq, Repr

/-- A fused cell (R290) with its run counts (R322), the sources current in it, and its age in ns. -/
structure Cell where
  feat : List Int
  conf : Nat
  age : Nat
  stale : Bool
  skew : Bool
  contra : Bool
  empty : Bool
  top : Nat
  cur : List Nat
  disRun : Nat
  agreeRun : Nat
  deriving DecidableEq, Repr

/-- The registers of FUS and the set by which streams and fusion go, from a throw until the frame boundary at which it takes effect
(R250, R326). -/
structure FusionSet where
  regs : List (Nat × Word)
  set : Option Container
  deriving DecidableEq, Repr

/-- A fusion frame in progress: its boundary, and the tiles and source states as they stood then. -/
structure FusionFrame where
  tb : Nat
  /-- The navigation state at the boundary (R530): latitude, longitude, height and heading in the units of GNS_LAT to
  GNS_HDG. -/
  lat : Int
  lon : Int
  hgt : Int
  hdg : Nat
  tiles : List (Nat × Tile)
  states : List (Nat × Nat)
  fed : List Nat
  /-- What it goes by where a throw has come since it started (R326). -/
  under : Option FusionSet := none
  deriving DecidableEq, Repr

/-- Streams and fusion. -/
structure FusionPart where
  streams : List StreamPart := List.replicate 20 {}
  sweep : SweepPart := {}
  /-- HMAP as the map in force was computed from it, 128 entries (R307). -/
  hmapInForce : List Int := List.replicate 128 0
  /-- Accepted tiles by source (R315), the STATE that each source's region last carried, and the cells that each source
  feeds, as 16,384 × source + cell, process cells from 12,288 on (R318). -/
  tiles : List (Nat × Tile) := []
  states : List (Nat × Nat) := []
  fed : List Nat := []
  /-- The slot whose tiles a region on the Line carries, by 4,194,304 × join number + 1,024 × entry + word of the region (R312). -/
  regionSlots : List (Nat × Nat) := []
  /-- What streams and fusion go by until the first frame boundary at or after the throw cycle, and the device time of the throw (R326). -/
  held : Option FusionSet := none
  heldFrom : Nat := 0
  /-- Regions of this module's own streams of the current cycle (R316). -/
  ownRegions : List (Nat × Nat × List Tile) := []
  /-- TILE_FOREIGN was raised in this frame (R315). -/
  foreign : Bool := false
  frame : Option FusionFrame := none
  /-- The last complete frame: its number and boundary, and its cells in order, process cells from 12,288 on. -/
  frameNo : Nat := 0
  tFrame : Nat := 0
  cells : List Cell := []
  /-- The latest frame boundary that has passed since, to which the ages of the cells have grown (R325). -/
  agesAt : Nat := 0
  /-- Instant since which this module watches its streams. -/
  since : Nat := 0
  deriving DecidableEq, Repr

/-- A measure used by a pending step (R362): its number, and D(m) and sh(m) in ns. -/
structure UsedMeasure where
  m : Nat
  d : Nat
  sh : Int
  deriving DecidableEq, Repr

/-- The pending step (R361, R362). -/
structure PendingStep where
  t1 : Nat
  evalEnd : Nat
  /-- The changed functions with their start values and the values they changed to. -/
  changed : List (Nat × Int × Int)
  used : List UsedMeasure
  deriving DecidableEq, Repr

/-- What a function holds beside its registers. -/
structure FnPart where
  /-- The value sent before the latest change of target, and the cycle that first carries it (R352). -/
  s0 : Int := 0
  c0 : Nat := 0
  /-- SETTLING ends then (R369). -/
  settleEnd : Nat := 0
  /-- Consecutive frames in which the masked feedback was not 0, and was 0 (R353). -/
  fbBad : Nat := 0
  fbGood : Nat := 0
  deriving DecidableEq, Repr

/-- The setting engine (R357–R377). -/
structure SettingPart where
  fns : List FnPart := List.replicate 48 {}
  pending : Option PendingStep := none
  holdUntil : Nat := 0
  /-- The cycle of the last step tick that was run (R359). -/
  lastTick : Option Nat := none
  /-- A policy invocation runs on this input (R361). -/
  invocation : Option (List Int) := none
  /-- The measures of recent frames: the boundary, and the sum and the number of cells of each (R349, R363). -/
  frames : List (Nat × List (Nat × Int × Nat)) := []
  headland : Bool := false
  /-- Mode and target of each function in the always-on domain (R377). -/
  copies : List (Nat × Nat × Int) := []
  deriving DecidableEq, Repr

end Sys2Proof.Machine
end

