-- ==== Sys2Proof/Graphs.lean ====
section
/-!
DEFINITION. The graph of a model as R296 to R298 speak of it: its tensors, its nodes with the attributes that R296 limits, and its
sizes. The document that spells it is of the ONNX standard.
-/

namespace Sys2Proof

/-- Data types of tensors. -/
inductive ElemType where
  | int8 | uint8 | int32 | other
  deriving DecidableEq, Repr

/-- The padding of a convolution. -/
inductive PadRule where
  | explicit | sameUpper | other
  deriving DecidableEq, Repr

/-- The modes of Resize. -/
inductive ResizeMode where
  | nearest | linear | other
  deriving DecidableEq, Repr

/-- The operators of R296, with the attributes that it limits: kernels, strides and dilations by height and width. -/
inductive GraphOp where
  | conv (kh kw sh sw dh dw groups : Nat) (pad : PadRule)
  | convTranspose (kh kw sh sw groups : Nat)
  | matMul (constant : Bool)
  /-- With the first operand transposed or not. -/
  | gemm (constant transA : Bool)
  | add | mul | relu | leakyRelu | clip
  | sigmoid | tanh | hardSigmoid | hardSwish
  | maxPool (kh kw sh sw : Nat)
  | averagePool (kh kw sh sw : Nat) (countPad : Bool)
  | globalAveragePool
  | concat (axis : Nat)
  | split (axis : Nat)
  | slice (axis : Nat) (steps : List Int)
  | reshape (constant : Bool)
  | flatten (constant : Bool)
  | transpose (constant : Bool)
  /-- The scale factors of the two last axes, in quarters. -/
  | resize (mode : ResizeMode) (quartersH quartersW : Nat)
  | pad (modeConstant : Bool)
  /-- Any other operator, or one of another domain. -/
  | other
  deriving DecidableEq, Repr

/-- A tensor of a graph: its type, its shape where it is static, how many scales it has, and whether its zero points are 0. -/
structure GraphTensor where
  type : ElemType
  shape : Option (List Nat)
  scales : Nat
  zeroIsZero : Bool
  deriving DecidableEq, Repr

/-- A compute node. -/
structure GraphNode where
  op : GraphOp
  /-- Its activations in and out, its constant operands, and its biases. -/
  ins : List GraphTensor
  outs : List GraphTensor
  weights : List GraphTensor
  biases : List GraphTensor
  /-- It takes its inputs from DequantizeLinear and feeds QuantizeLinear. -/
  quantised : Bool
  /-- The values that it takes: 0 is the graph input, then come the outputs of the nodes in order. -/
  args : List Nat
  /-- The zero points of its outputs. -/
  zeros : List Int
  deriving DecidableEq, Repr

/-- A graph. -/
structure Graph where
  inputs : List GraphTensor
  outputs : List GraphTensor
  nodes : List GraphNode
  /-- Bytes of its weights, and the peak of live activations in bytes. -/
  weightBytes : Nat
  peakBytes : Nat
  /-- The value that is its output. -/
  result : Nat
  deriving DecidableEq, Repr

end Sys2Proof
end

