-- ==== Sys2Proof/Config.lean ====
section
/-!
DEFINITION. The values that the spec leaves open, as opaque constants: no proof can see what they are.
-/

namespace Sys2Proof.Config

/-- The random nonces of the module's generator (R100), one for each number drawn. -/
opaque moduleNonce : Nat → BitVec 128

/-- The estimated time to completion of an executing request, in ns, by its opcode and the ns since it began (R123 names the estimate
and gives no way to compute it). -/
opaque timeToCompletion : Nat → Nat → BitVec 32

/-- What a Line value reads before any frame of its entry has been accepted (R166 names only accepted frames), by entry
and word. -/
opaque neverReceived : Nat → Nat → BitVec 32

/-- What an input reads before its first sample (R399 names only samples), by kind and index. -/
opaque neverSampled : Nat → Nat → BitVec 16

/-- The graph that a document of the ONNX standard spells, none where it cannot be parsed (R302). The spec names the standard and does
not restate it. -/
opaque graphOf : List (BitVec 8) → Option Graph

/-- The exact value of an element of an output of a node, from the values of its arguments, by the definition of its operator in the
ONNX standard and in units of the output's scale: the numerator, and the denominator less 1. The arguments after the values are the
output and the element. -/
opaque operatorValue : GraphNode → List (List Int) → Nat → Nat → Int × Nat

/-- The exact function of a Sigmoid, Tanh, HardSigmoid or HardSwish node at an int8 input, likewise. -/
opaque activation : GraphNode → Int → Int × Nat

/-- The elementary functions of binary64, whose rounding IEEE 754 leaves open: 0 sine, 1 cosine, 2 arc tangent, of m × 2^e
in radians. The value is a significand and an exponent. -/
opaque elementary : Nat → Int → Int → Int × Int

/-- The integer that a binary64 value which is not finite is rounded to; the spec states none. -/
opaque notFinite : BitVec 32

/-- The rate in ns per second at which a LOCKED terminus steers device time toward GNSS time (R490 gives only its bound),
one for each epoch. -/
opaque steerRate : Nat → BitVec 8

/-- Roll and pitch in 0.01° of the machine, from the inertial sample in the machine frame, three accelerations and three rates, aided by the
baseline with its length in 0.1 mm and its direction in 0.001° (R509 names what they come from and gives no computation). -/
opaque attitude : List Int → Nat → Nat → Int × Int

/-- The bytes of a task data file of ISO 11783-10 (R569), from what the field holds and the file's number; the standard's
text is not restated by the spec. -/
opaque taskFile : List Int → Nat → List (BitVec 8)

/-- STATE [1] "unloading" of a heartbeat (R581); the spec names no input that it follows. One for each number drawn. -/
opaque unloading : Nat → Bool

/-- The estimated arrival in s of an OFFER (R588), of which the spec gives no computation. One for each number drawn. -/
opaque arrival : Nat → BitVec 16

/-- lim(n) of R625, in ps: recorded in the one-time memory of each die at test. -/
opaque canaryLimit : Nat → Nat

/-- The RESERVED DMA demand of a set, in 0.1 GB/s, from the bytes of its container (R664 names what it sums and gives no
computation). -/
opaque dmaDemand : List (Nat × BitVec 8) → BitVec 16

/-- The level keys of a module's delivery record (R104), by level. -/
opaque deliveredKey : Nat → BitVec 256

/-- The address of the HOST port under a running set (R87 calls it a fleet parameter and the register map has no field for
it), from the bytes of its container, for the relief terminus where true. -/
opaque hostAddress : List (Nat × BitVec 8) → Bool → BitVec 32

/-- The subnet mask of the HOST port that the fleet parameters of a set give (R87), by the bytes of its container. -/
opaque hostMask : List (Nat × BitVec 8) → BitVec 32

/-- PROD and CONS of a hardware ring whose entries the model does not hold, at an instant (R648, R675). -/
opaque ringIndices : Nat → Nat → BitVec 32

end Sys2Proof.Config
end

