-- ==== Sys2Proof/Machine/Operands.lean ====
section
/-!
DEFINITION. The arithmetic of fields and operands: bit ranges (R22), little-endian fields (R23, R24), two's
complement, the rounding and saturation of R25, and the WAIT encoding of R79.
-/

namespace Sys2Proof.Machine

/-- Bits [lo + n − 1 : lo] of a number. -/
def bitsAt (v lo n : Nat) : Nat := v / 2 ^ lo % 2 ^ n

/-- A number with bits [lo + n − 1 : lo] replaced by the low n bits of x. -/
def setBitsAt (v lo n x : Nat) : Nat := v - bitsAt v lo n * 2 ^ lo + x % 2 ^ n * 2 ^ lo

/-- Bit i of a number. -/
def bitAt (v i : Nat) : Bool := v / 2 ^ i % 2 == 1

/-- The number 1 or 0 of a Boolean. -/
def b2n (b : Bool) : Nat := if b then 1 else 0

/-- The number whose bit i is 1 for each i of a list of distinct positions. -/
def maskOf : List Nat → Nat
  | [] => 0
  | i :: r => 2 ^ i + maskOf r

/-- The little-endian value of a byte string (R23). -/
def leNat : Bytes → Nat
  | [] => 0
  | b :: r => b.toNat + 256 * leNat r

/-- The n bytes of a value, little-endian (R23). -/
def leBytes : Nat → Nat → Bytes
  | 0, _ => []
  | n + 1, v => BitVec.ofNat 8 v :: leBytes n (v / 256)

/-- The unsigned field of n bytes at a byte offset (R24). A field beyond the end reads its missing bytes as 0. -/
def fieldAt (bs : Bytes) (off n : Nat) : Nat := leNat ((bs.drop off).take n)

/-- The big-endian value of a byte string, as the security standards write numbers. -/
def beNat (bs : Bytes) : Nat := leNat bs.reverse

/-- The n bytes of a value, big-endian. -/
def beBytes (n v : Nat) : Bytes := (leBytes n v).reverse

/-- A string cut or padded with zero bytes to n bytes. -/
def padTo (n : Nat) (bs : Bytes) : Bytes := (bs ++ List.replicate (n - bs.length) 0#8).take n

/-- A byte string with the bytes at an offset replaced. Bytes that would fall beyond the end are dropped. -/
def putAt (bs : Bytes) (off : Nat) (new : Bytes) : Bytes :=
  (bs.take off ++ (new.take (bs.length - off)) ++ bs.drop (off + new.length)).take bs.length

/-- The signed value of the low w bits (two's complement, R22). -/
def sx (w v : Nat) : Int :=
  if v % 2 ^ w < 2 ^ (w - 1) then ((v % 2 ^ w : Nat) : Int) else ((v % 2 ^ w : Nat) : Int) - ((2 ^ w : Nat) : Int)

/-- The low w bits of an integer, two's complement. -/
def toBits (w : Nat) (i : Int) : Nat := (i % ((2 ^ w : Nat) : Int)).toNat

/-- The signed field of n bytes at a byte offset. -/
def sfieldAt (bs : Bytes) (off n : Nat) : Int := sx (8 * n) (fieldAt bs off n)

/-- An integer saturated at the limits of a signed field of w bits (R25). -/
def satS (w : Nat) (i : Int) : Int :=
  if i > ((2 ^ (w - 1) : Nat) : Int) - 1 then ((2 ^ (w - 1) : Nat) : Int) - 1
  else if i < -((2 ^ (w - 1) : Nat) : Int) then -((2 ^ (w - 1) : Nat) : Int)
  else i

/-- An integer saturated at the limits of an unsigned field of w bits (R25). -/
def satU (w : Nat) (i : Int) : Nat :=
  if i < 0 then 0 else if i > ((2 ^ w - 1 : Nat) : Int) then 2 ^ w - 1 else i.toNat

/-- A count saturated at the limit of an unsigned field of w bits. -/
def satN (w n : Nat) : Nat := if n < 2 ^ w then n else 2 ^ w - 1

/-- The quotient n / d rounded to nearest, ties away from zero (R25). Division by 0 gives 0. -/
def roundDiv (n : Int) (d : Nat) : Int :=
  if n < 0 then -(((2 * n.natAbs + d) / (2 * d) : Nat) : Int) else (((2 * n.natAbs + d) / (2 * d) : Nat) : Int)

/-- The quotient n / d rounded to nearest, ties away from zero, with a signed divisor. -/
def roundDivI (n d : Int) : Int := if d < 0 then roundDiv (-n) d.natAbs else roundDiv n d.natAbs

/-- The quotient rounded up to a whole number. -/
def ceilDiv (n d : Nat) : Nat := (n + d - 1) / d

/-- An integer held within two limits. -/
def clampI (lo hi v : Int) : Int := if v < lo then lo else if v > hi then hi else v

/-- The signed field of w bits that holds an integer, after saturation (R25). -/
def fixS (w : Nat) (i : Int) : Nat := toBits w (satS w i)

/-- Nanoseconds in a microsecond, a millisecond and a second. -/
def us : Nat := 1000
def ms : Nat := 1000000
def sec : Nat := 1000000000

/-- The WAIT field of a time in nanoseconds (R79): rounded up, scale 0 of 1 ms while the count fits 15 bits, else
scale 1 of 100 ms, saturating at 0xFFFF. -/
def waitField (t : Nat) : Nat :=
  if ceilDiv t ms < 32768 then ceilDiv t ms
  else if ceilDiv t (100 * ms) < 32768 then 32768 + ceilDiv t (100 * ms)
  else 65535

/-- The time in nanoseconds that a WAIT field names (R79). -/
def waitTime (w : Nat) : Nat := if w < 32768 then w * ms else (w - 32768) * (100 * ms)

/-- The element of a list at a position, with a default. -/
def nth {α : Type} (l : List α) (i : Nat) (d : α) : α :=
  match l, i with
  | [], _ => d
  | a :: _, 0 => a
  | _ :: r, n + 1 => nth r n d

/-- A list with the element at a position replaced. -/
def setNth {α : Type} (l : List α) (i : Nat) (v : α) : List α :=
  match l, i with
  | [], _ => []
  | _ :: r, 0 => v :: r
  | a :: r, n + 1 => a :: setNth r n v

/-- The numbers a, a + 1, … (n of them). -/
def upFrom (a : Nat) : Nat → List Nat
  | 0 => []
  | n + 1 => a :: upFrom (a + 1) n

/-- A fold of a step over a list, from the left. -/
def foldOver {α β : Type} (f : β → α → β) : β → List α → β
  | b, [] => b
  | b, a :: r => foldOver f (f b a) r

/-- The ASCII bytes of a string. -/
def ascii (cs : List Nat) : Bytes := cs.map (BitVec.ofNat 8)

/-- The entry of a numbered list. -/
def lookupNum {α : Type} (l : List (Nat × α)) (k : Nat) : Option α :=
  match l with
  | [] => none
  | (n, v) :: r => if n = k then some v else lookupNum r k

/-- A numbered list with the entry of a number replaced or added, in ascending order. -/
def putNum {α : Type} (l : List (Nat × α)) (k : Nat) (v : α) : List (Nat × α) :=
  match l with
  | [] => [(k, v)]
  | (n, w) :: r => if k < n then (k, v) :: (n, w) :: r else if k = n then (k, v) :: r else (n, w) :: putNum r k v

/-- An exact quotient with a positive divisor (R34). -/
structure Frac where
  n : Int
  d : Nat
  deriving DecidableEq, Repr

/-- A whole number as a quotient. -/
def fInt (n : Int) : Frac := ⟨n, 1⟩

/-- Sum, product and quotient of exact numbers; a quotient by a number that is not positive is 0. -/
def qAdd (a b : Frac) : Frac := ⟨a.n * b.d + b.n * a.d, a.d * b.d⟩
def qMul (a b : Frac) : Frac := ⟨a.n * b.n, a.d * b.d⟩
def qDiv (a b : Frac) : Frac := if b.n ≤ 0 then ⟨0, 1⟩ else ⟨a.n * b.d, a.d * b.n.toNat⟩
def qAbs (a : Frac) : Frac := ⟨a.n.natAbs, a.d⟩
def qNeg (a : Frac) : Frac := ⟨-a.n, a.d⟩

/-- Order of exact numbers. -/
def qLe (a b : Frac) : Bool := decide (a.n * b.d ≤ b.n * a.d)

/-- The mean of exact numbers; none of an empty list. -/
def qMean (l : List Frac) : Option Frac :=
  match l with
  | [] => none
  | _ => let t := l.foldl qAdd (fInt 0); some ⟨t.n, t.d * l.length⟩

end Sys2Proof.Machine
end

