-- ==== Sys2Proof/Machine/Float.lean ====
section
/-!
DEFINITION. The binary32 arithmetic of R306: round to nearest even, no fused operations. A value is a dyadic rational, and
what is not finite is none.
-/

namespace Sys2Proof.Machine

/-- The dyadic rational m × 2^e. -/
structure Dyadic where
  m : Int
  e : Int
  deriving DecidableEq, Repr

/-- The natural 2^n for n ≥ 0 (1 for negative n). -/
def pow2 (n : Int) : Nat := 2 ^ n.toNat

/-- The quotient rounded to the nearest natural, ties to even. -/
def divEven (n d : Nat) : Nat :=
  let q := n / d
  let r := n % d
  if 2 * r < d then q else if 2 * r > d then q + 1 else if q % 2 = 0 then q else q + 1

/-- A non-negative fraction times 2^e against 2^k: true where it is at least that. -/
def fracGe (n d : Nat) (e k : Int) : Bool := decide (n * pow2 (e - k) ≥ d * pow2 (k - e))

/-- A binary format: digits of the significand, exponent of the smallest unit, and the bound of its exponent. -/
structure FloatFormat where
  digits : Int
  unit : Int
  bound : Int
  deriving DecidableEq, Repr

/-- binary32 and binary64. -/
def b32 : FloatFormat := ⟨24, -149, 128⟩
def b64 : FloatFormat := ⟨53, -1074, 1024⟩

/-- n / d × 2^e rounded to a format, to nearest even; none where it is not finite. -/
def roundBin (f : FloatFormat) (neg : Bool) (n d : Nat) (e : Int) : Option Dyadic :=
  if d = 0 then none
  else if n = 0 then some ⟨0, 0⟩
  else
    let k0 : Int := (Nat.log2 n : Int) - (Nat.log2 d : Int) + e
    let k := if fracGe n d e k0 then k0 else k0 - 1
    let u := if k - f.digits + 1 < f.unit then f.unit else k - f.digits + 1
    let q := divEven (n * pow2 (e - u)) (d * pow2 (u - e))
    if fracGe q 1 u f.bound then none else some ⟨if neg then -(q : Int) else (q : Int), u⟩

/-- n / d × 2^e rounded to binary32. -/
def roundF32 (neg : Bool) (n d : Nat) (e : Int) : Option Dyadic := roundBin b32 neg n d e

/-- A dyadic rational rounded to a format. -/
def roundDyadicTo (f : FloatFormat) (a : Dyadic) : Option Dyadic := roundBin f (decide (a.m < 0)) a.m.natAbs 1 a.e

/-- A dyadic rational rounded to binary32. -/
def roundDyadic (a : Dyadic) : Option Dyadic := roundDyadicTo b32 a

/-- The exact sum and the exact product. -/
def dAdd (a b : Dyadic) : Dyadic :=
  let e := if a.e < b.e then a.e else b.e
  ⟨a.m * (pow2 (a.e - e) : Int) + b.m * (pow2 (b.e - e) : Int), e⟩
def dMul (a b : Dyadic) : Dyadic := ⟨a.m * b.m, a.e + b.e⟩
def dNeg (a : Dyadic) : Dyadic := ⟨-a.m, a.e⟩

/-- Sum, difference, product and quotient of binary32. -/
def fAdd (a b : Option Dyadic) : Option Dyadic :=
  match a, b with
  | some a, some b => roundDyadic (dAdd a b)
  | _, _ => none
def fNeg (a : Option Dyadic) : Option Dyadic :=
  match a with
  | some a => some (dNeg a)
  | none => none
def fSub (a b : Option Dyadic) : Option Dyadic := fAdd a (fNeg b)
def fMul (a b : Option Dyadic) : Option Dyadic :=
  match a, b with
  | some a, some b => roundDyadic (dMul a b)
  | _, _ => none
def fDiv (a b : Option Dyadic) : Option Dyadic :=
  match a, b with
  | some a, some b => roundF32 (decide (a.m < 0) != decide (b.m < 0)) a.m.natAbs b.m.natAbs (a.e - b.e)
  | _, _ => none

/-- An exact value. -/
def fixed (v : Int) (fraction : Nat) : Option Dyadic := some ⟨v, -(fraction : Int)⟩

/-- An exact fraction rounded to binary32. -/
def fRat (n : Int) (d : Nat) : Option Dyadic := roundF32 (decide (n < 0)) n.natAbs d 0

/-- A value rounded to an integer under R25. -/
def fRound (a : Dyadic) : Int :=
  if a.e ≥ 0 then a.m * (pow2 a.e : Int) else roundDiv a.m (pow2 (-a.e))

/-- a < n / d. -/
def fLess (a : Dyadic) (n d : Nat) : Bool :=
  decide (a.m * (pow2 a.e : Int) * (d : Int) < (n : Int) * (pow2 (-a.e) : Int))

/-! ### binary64 (R527, R530, R532) -/

/-- A binary64 value; none where it is not finite. -/
abbrev F64 := Option Dyadic

def gLift2 (op : Dyadic → Dyadic → F64) (a b : F64) : F64 :=
  match a, b with
  | some a, some b => op a b
  | _, _ => none
def gAdd : F64 → F64 → F64 := gLift2 (fun a b => roundDyadicTo b64 (dAdd a b))
def gSub : F64 → F64 → F64 := gLift2 (fun a b => roundDyadicTo b64 (dAdd a (dNeg b)))
def gMul : F64 → F64 → F64 := gLift2 (fun a b => roundDyadicTo b64 (dMul a b))
def gDiv : F64 → F64 → F64 :=
  gLift2 (fun a b => roundBin b64 (decide (a.m < 0) != decide (b.m < 0)) a.m.natAbs b.m.natAbs (a.e - b.e))
def gNeg : F64 → F64 := fNeg

/-- A fraction rounded to binary64. -/
def gRat (n : Int) (d : Nat) : F64 := roundBin b64 (decide (n < 0)) n.natAbs d 0

/-- An integer in binary64. -/
def gInt (n : Int) : F64 := gRat n 1

/-- The whole square root of a number: the greatest r ≤ start with r × r ≤ n, found by Newton's steps from above. -/
def sqrtFrom (n : Nat) : Nat → Nat → Nat
  | 0, r => r
  | fuel + 1, r =>
    if r = 0 then 0
    else
      let q := (r + n / r) / 2
      if q < r then sqrtFrom n fuel q else r

/-- The whole square root, rounded down. -/
def natSqrt (n : Nat) : Nat := sqrtFrom n (Nat.log2 n + 8) (2 ^ (Nat.log2 n / 2 + 1))

/-- The square root rounded to nearest (IEEE 754 gives it exactly rounded); none for a negative number. The root is taken
with 120 more bits than it keeps, and an inexact one is marked in the last of them. -/
def gSqrt (a : F64) : F64 :=
  match a with
  | none => none
  | some a =>
    if a.m < 0 then none
    else
      let k : Int := if a.e % 2 = 0 then a.e - 240 else a.e - 241
      let n := a.m.natAbs * pow2 (a.e - k)
      let r := natSqrt n
      roundBin b64 false (2 * r + (if r * r = n then 0 else 1)) 1 (k / 2 - 1)

/-- Order of two values; false where one is not finite. -/
def gLe (a b : F64) : Bool :=
  match a, b with
  | some a, some b => decide ((dAdd b (dNeg a)).m ≥ 0)
  | _, _ => false

/-- The absolute value. -/
def gAbs (a : F64) : F64 :=
  match a with
  | some a => some ⟨a.m.natAbs, a.e⟩
  | none => none

/-- A value held between two limits. -/
def gClamp (lo hi v : F64) : F64 := if gLe hi v then hi else if gLe v lo then lo else v

/-- An elementary function of binary64, by its number in Config. -/
def gElementary (k : Nat) (a : F64) : F64 :=
  match a with
  | none => none
  | some a => let r := Config.elementary k a.m a.e; roundDyadicTo b64 ⟨r.1, r.2⟩

/-- π in binary64. -/
def gPi : F64 := some ⟨7074237752028440, -51⟩

/-- Sine, cosine and arc tangent. -/
def gSin : F64 → F64 := gElementary 0
def gCos : F64 → F64 := gElementary 1
def gAtan : F64 → F64 := gElementary 2

/-- The angle, in rad from −π to π, whose tangent is y / x, in the quadrant of (x, y). -/
def gAtan2 (y x : F64) : F64 :=
  let zero : F64 := some ⟨0, 0⟩
  let half := gDiv gPi (gInt 2)
  if gLe x zero && gLe zero x then (if gLe zero y then half else gNeg half)
  else
    let a := gAtan (gDiv y x)
    if gLe zero x then a else if gLe zero y then gAdd a gPi else gSub a gPi

/-- An angle brought within ±π. -/
def gWrap (a : F64) : F64 :=
  let turn := gMul (gInt 2) gPi
  if gLe a gPi then (if gLe (gNeg gPi) a then a else gAdd a turn) else gSub a turn

/-- A value times n / d as an integer under R25; a free value where it is not finite. -/
def gScaled (a : F64) (n : Int) (d : Nat) : Int :=
  match a with
  | none => Config.notFinite.toInt
  | some a => roundDiv (a.m * (pow2 a.e : Int) * n) (pow2 (-a.e) * d)

/-- The greatest whole number not above a value, and the least not below; a free value where it is not finite. -/
def gFloor (a : F64) : Int :=
  match a with
  | none => Config.notFinite.toInt
  | some a => a.m * (pow2 a.e : Int) / (pow2 (-a.e) : Int)
def gCeil (a : F64) : Int := -(gFloor (gNeg a))

end Sys2Proof.Machine
end

