-- ==== Sys2Proof/Machine/PartsNav.lean ====
section
/-!
DEFINITION. The parts of the state that satellite navigation, device time and steering have beside their registers.
-/

namespace Sys2Proof.Machine

/-- A correction source (R504, R505): bytes not yet framed, the device-independent instants of its newest observation
message and of the first of the present run of them, and its base station. -/
structure CorrSource where
  buffer : Bytes := []
  lastObs : Option Nat := none
  since : Nat := 0
  base : Nat := 0
  deriving DecidableEq, Repr

/-- The NCOs of a tracking channel, code phase in 2⁻³² chip, carrier phase in 2⁻³² cycle and frequency in mHz, and what its five
correlators, very early to very late, have integrated over the last 1 ms, aligned to the primary code (R497). -/
structure Nco where
  codePhase : BitVec 32 := 0#32
  carrierPhase : BitVec 32 := 0#32
  frequency : Int := 0
  corr : List Int := [0, 0, 0, 0, 0]
  deriving DecidableEq, Repr

/-- Since when the bias current of an antenna has read below the limit of open detection, and at its own limit (R492). -/
structure AntWatch where
  lowFrom : Option Nat := none
  limitFrom : Option Nat := none
  deriving DecidableEq, Repr

/-- The guidance in force (R526). -/
structure Guidance where
  mode : Nat
  side : Nat
  lat : Int
  lon : Int
  hgt : Int
  passW : Nat
  shift : Int
  points : List (Int × Int)
  deriving DecidableEq, Repr

/-- The fitted edge in the field frame: a point in m, its direction as cosine and sine from east (R530). -/
structure EdgeLine where
  east : F64
  north : F64
  dirE : F64
  dirN : F64
  deriving DecidableEq, Repr

/-- A step of device time that is scheduled (R516). -/
structure TimeStep where
  h : Nat
  off : Int
  first : Bool
  deriving DecidableEq, Repr

/-- Satellite navigation and steering (R488–R549). -/
structure NavPart where
  /-- The instant of the last valid time solution that disciplined device time in LOCKED (R513), and of the last valid
  one (R514). -/
  lastDisciplined : Nat := 0
  lastValid : Nat := 0
  /-- The growth of the error estimate since then, in 10⁻¹⁰ ns, up to an instant (R513, R608). -/
  errAcc : Nat := 0
  errFrom : Nat := 0
  good : Nat := 0
  acc : Int := 0
  step : Option TimeStep := none
  /-- A station waits for CYCLE_START after one with RESYNC (R517). -/
  resync : Bool := false
  /-- The whole second, in s, that is suppressed, and the one whose pulse is the realigned one (R518). -/
  suppressed : Option Nat := none
  realigned : Option Nat := none
  lastPulse : Option Nat := none
  /-- The instant of the last rising edge of PPS_OUT (R510). -/
  pulseAt : Option Nat := none
  /-- GNS_PPS_DELAY as stored in MRAM, the delay in force before a change, and the first whole second whose pulse goes by the new one
  (R511). -/
  ppsStored : Int := 0
  ppsBefore : Int := 0
  ppsFrom : Option Int := none
  /-- On a module that follows Line time: that time is aligned, and since when TSTAT has shown HOLDOVER without GNSS_LOCK (R489, R512). -/
  lineAligned : Bool := false
  holdFrom : Option Nat := none
  sources : List CorrSource := [{}, {}, {}]
  ncos : List Nco := List.replicate 128 {}
  /-- The two antennas, A and B (R492). -/
  ants : List AntWatch := [{}, {}]
  /-- The receiver runs, and its start was a hot one (R500); the instants from which its 16 search engines are free (R499), and the
  device time of the last epoch (R501). -/
  running : Bool := false
  hot : Bool := false
  engines : List Nat := List.replicate 16 0
  epochAt : Option Nat := none
  posAt : Nat := 0
  /-- Ephemerides and base positions that RTCM messages brought, newest for each: 64 × the message number, and the satellite with it, and
  the bytes. -/
  aiding : List (Nat × Bytes) := []
  /-- The satellites whose orbit is known, as system and number, with the instant of their ephemeris, from RTCM or from navigation data
  (R499, R500, R503), the position last known, and what the systems broadcast of their offsets to GPS time (R488). -/
  orbits : List (Nat × Nat × Nat) := []
  knownAt : Option (Int × Int) := none
  sysOffset : List (Nat × Int) := []
  /-- Ambiguity resolution starts again: the base station has changed (R505). -/
  restart : Bool := false
  /-- GNSS time minus device time at the last valid epoch, ns (R521, R522). -/
  lastOffset : Int := 0
  /-- The observation messages of the source in use at the last epoch, and accepted frames that wait to be relayed:
  source and frame (R593). -/
  relay : List (Nat × Bytes) := []
  guide : Option Guidance := none
  /-- Direction of travel is against the base path; chosen at engagement with the pass (R528). -/
  reversed : Bool := false
  /-- The lateral shift in force in 0.1 mm, which moves toward SHIFT at 0.1 m/s (R529). -/
  shiftNow : Int := 0
  edge : Option EdgeLine := none
  /-- The last frame yielded a fit, and the instant of the last fit (R530, R531). -/
  edgeFit : Bool := false
  edgeAt : Nat := 0
  /-- The operator enable: present, and since when its inputs have read otherwise or the same (R535). -/
  enabled : Bool := false
  enRaw : Bool := false
  enSince : Nat := 0
  ovSince : Option Nat := none
  fixBadSince : Option Nat := none
  hdgBadSince : Option Nat := none
  spdBadSince : Option Nat := none
  /-- Consecutive cycles in which the masked status word was not 0, and the path fault of R536. -/
  stBad : Nat := 0
  /-- Blending after a takeover: its start, and Δy in m and Δψ in rad (R523); due at the first computation. -/
  blendDue : Bool := false
  blend : Option (Nat × F64 × F64) := none
  /-- The device time of the last computation of R532; e_y in m, e_ψ in rad and δ in 0.01° as last computed, and e_y and e_ψ as last mirrored (R521, R523, R532). -/
  steerAt : Option Nat := none
  ey : F64 := some ⟨0, 0⟩
  epsi : F64 := some ⟨0, 0⟩
  delta : F64 := some ⟨0, 0⟩
  mirEy : F64 := some ⟨0, 0⟩
  mirEpsi : F64 := some ⟨0, 0⟩
  /-- The demand and the command word of the present cycle (R533). -/
  spDemand : Int := 0
  spCommand : Nat := 0
  deriving DecidableEq, Repr

end Sys2Proof.Machine
end

