-- ==== Sys2Proof/Machine/PartsUpdate.lean ====
section
/-!
DEFINITION. The parts of the state that images and update runs have beside their registers (R741–R782).
-/

namespace Sys2Proof.Machine

/-- What an image slot holds (R741, R742): its 128-byte header, empty where the slot holds no image, the bytes of its body
that differ from 0xFF, and the parts of the body that have been written, as rising disjoint runs of offset and end. -/
structure ImageSlot where
  header : Bytes := []
  body : List (Nat × Byte) := []
  written : List (Nat × Nat) := []
  deriving DecidableEq, Repr

/-- Where a module stands in a run (R768, R773). -/
structure RunEntry where
  num : Nat
  /-- OUTCOME of R773, none while it is open. -/
  outcome : Option Nat := none
  /-- When it was told to activate, none before. -/
  since : Option Nat := none
  /-- A report has shown its trial since. -/
  seen : Bool := false
  healthy : Bool := false
  deriving DecidableEq, Repr

/-- The run record (R768). -/
structure RunRecord where
  sig : Nat
  yard : Nat
  /-- The terminus at the start, and its relief terminus. -/
  terminus : Nat
  relief : Option Nat
  /-- STEP of R780; 0 until the checks of R769 have been made. -/
  step : Nat
  /-- The modules of the run, in the order of R770. -/
  entries : List RunEntry
  /-- The role has been handed over (step 2). -/
  handed : Bool
  /-- RESULT of R773. -/
  result : Nat
  deriving DecidableEq, Repr

/-- Images and update runs. -/
structure UpdatePart where
  /-- Slots Signal A, Signal B, Yard A, Yard B. -/
  slots : List ImageSlot := List.replicate 4 {}
  /-- The public keys of the four OTP slots: x and y on P-256 (R744). -/
  keys : List (Nat × Nat) := []
  /-- The slot from which each die last ran an image, Signal first; none while it has run none. -/
  ran : List (Option Nat) := [none, none]
  /-- The boot decision of the start in progress has been made, for each die (R748). -/
  booted : List Bool := [false, false]
  /-- When the trial image of each die first started (R759). -/
  trialAt : List (Option Nat) := [none, none]
  /-- Since when every item of R756 has held for the trial image of each die. -/
  healthFrom : List (Option Nat) := [none, none]
  /-- The instant of the activation that set the trial of each die (R760). -/
  activatedAt : List Nat := [0, 0]
  /-- Dies whose planned restart is due once the reply of the present command has left (R754, R760). -/
  restartDue : List Nat := []
  /-- The Yard die is to be activated once the Signal die runs its trial image (R755). -/
  yardNext : Bool := false
  run : Option RunRecord := none
  /-- The UPDATE_ACTIVATE requests that wait for their checks, oldest first: the two versions of each. -/
  asked : List (Nat × Nat) := []
  /-- A handover is wanted to this module, and one is scheduled: H and the IDR_UID of the module that takes the role. -/
  handWanted : Option Nat := none
  handover : Option (Nat × Nat) := none
  /-- On the relief terminus: the handover token last accepted (R766). -/
  handToken : Option (Nat × Nat) := none
  deriving DecidableEq, Repr

end Sys2Proof.Machine
end

