-- ==== Sys2Proof/Machine/PartsYield.lean ====
section
/-!
DEFINITION. The parts of the state that yield mapping and the consist have beside their registers (R550–R599).
-/

namespace Sys2Proof.Machine

/-- A yield sample (R552): device time, flow in g/s, moisture in 0.01 %, the navigation state, the section word and the
headland state; whether its mass has been assigned (R554). -/
structure YieldSample where
  at_ : Nat
  flow : F64
  moist : F64
  lat : Int
  lon : Int
  hgt : Int
  hdg : Nat
  fix : Nat
  sect : Nat
  headland : Bool
  assigned : Bool
  deriving DecidableEq, Repr

/-- A cell of a field map (R556, R558): sums of mass in g, area in m² and moisture × mass, the instant of the last
contribution, and the fields that are no sums. -/
structure YieldCell where
  mass : F64 := some ⟨0, 0⟩
  area : F64 := some ⟨0, 0⟩
  wet : F64 := some ⟨0, 0⟩
  lastAt : Option Nat := none
  passes : Nat := 0
  overlap : Bool := false
  own : Bool := false
  other : Bool := false
  lowFix : Bool := false
  deriving DecidableEq, Repr

/-- A tile (R557, R558): its cells by index, unlisted cells empty. -/
structure YieldTile where
  te : Int
  tn : Int
  first : Nat
  last : Nat
  gen : Nat
  cells : List (Nat × YieldCell)
  deriving DecidableEq, Repr

/-- A record of the time log (R569): device time in s, the position of the cut instant, FIX, flow in g/s, moisture in
0.01 %, working width in mm, and GNS_LEAP. -/
structure TimeLog where
  at_ : Nat
  lat : Int
  lon : Int
  hgt : Int
  east : Int
  north : Int
  fix : Nat
  flow : Int
  moist : Int
  width : Nat
  leap : Int
  deriving DecidableEq, Repr

/-- What a field holds: its tiles in order of creation, its totals in g and m², whether FIELD_FULL has been raised, its
openings as start and end in s, and its time log. -/
structure FieldData where
  tiles : List YieldTile := []
  mass : F64 := some ⟨0, 0⟩
  unmapped : F64 := some ⟨0, 0⟩
  area : F64 := some ⟨0, 0⟩
  full : Bool := false
  openings : List (Nat × Nat) := []
  log : List TimeLog := []
  deriving DecidableEq, Repr

/-- A stored field (R560, R565). -/
structure Field where
  id : Nat
  lat : Int
  lon : Int
  hgt : Int
  name : Bytes
  genF : Nat
  data : FieldData
  deriving DecidableEq, Repr

/-- Yield mapping. -/
structure YieldPart where
  fields : List Field := []
  /-- The open field: its number, when it was opened, and what it holds now. -/
  openId : Option Nat := none
  openedAt : Nat := 0
  live : FieldData := {}
  flushedAt : Nat := 0
  /-- Raw flow and moisture of the last 100 cycles, newest first (R552). -/
  cycles : List (Int × Int) := []
  /-- The samples of the last 32 s, oldest first, and the next cut instant (R553, R554). -/
  samples : List YieldSample := []
  nextCut : Option Nat := none
  /-- The last cut instant was placed on cells. -/
  mapping : Bool := false
  flowNow : Int := 0
  moistNow : Int := 0
  deriving DecidableEq, Repr

/-- A member of the consist (R581, R582), with what its last heartbeat said. -/
structure ConsistMember where
  num : Nat
  machine : Nat
  kind : Nat
  state : Nat
  fix : Nat
  tank : Nat
  lat : Nat
  lon : Nat
  /-- When the last heartbeat was accepted; it is absent once 5 s have passed. -/
  at_ : Nat
  absent : Bool
  deriving DecidableEq, Repr

/-- A key slot (R578), newest last. -/
structure ConsistKey where
  consist : Nat
  keyId : Nat
  key : Bytes
  deriving DecidableEq, Repr

/-- Replay state of a sender (R576): the highest accepted SEQ, bit i for SEQ − i, and when it was last heard. -/
structure Replay where
  sender : Nat
  highest : Nat
  seen : Nat
  heardAt : Nat
  deriving DecidableEq, Repr

/-- What a partner last said of its place (R588). -/
structure RdvPlace where
  time : Nat
  lat : Int
  lon : Int
  heading : Nat
  speed : Int
  refX : Int
  refY : Int
  deriving DecidableEq, Repr

/-- A rendezvous in progress (R588–R592). -/
structure Rdv where
  id : Nat
  side : Nat
  /-- This machine requests; it is the cart otherwise. -/
  requester : Bool
  /-- The member asked, 0xFF for every cart; the partner once tracking. -/
  target : Nat
  firstAt : Nat
  sentAt : Nat
  /-- Offers in order of arrival: member, ETA, place. -/
  offers : List (Nat × Nat × RdvPlace)
  /-- When the last TRACK was accepted, and the 100 ms of the last TRACK sent. -/
  trackAt : Nat
  trackSent : Nat
  place : Option RdvPlace
  deriving DecidableEq, Repr

/-- The consist. -/
structure ConsistPart where
  /-- Key slots and the high-water mark of SEQ, in MRAM (R575, R578). -/
  keys : List ConsistKey := []
  seqMark : Nat := 0
  /-- The next number and the end of the reserved ones. -/
  seqNext : Nat := 0
  seqEnd : Nat := 0
  members : List ConsistMember := []
  replay : List Replay := []
  /-- Listening before a number is taken: its end, and the members heard (R580). -/
  listenEnd : Option Nat := none
  heard : List Nat := []
  /-- The second LEAVE: consist, member number and instant (R583). -/
  leaving : Option (Nat × Nat × Nat) := none
  /-- The second of the last heartbeat, and the instant AUTH_FAIL was last raised. -/
  beatAt : Option Nat := none
  authFailAt : Option Nat := none
  /-- Tile rows whose OWN flags have gained a bit (TE, TN, row), those to be sent again with the instant, and the instant
  of the last coverage (R586). -/
  rows : List (Int × Int × Nat) := []
  again : List (Nat × Int × Int × Nat) := []
  coverAt : Option Nat := none
  rdv : Option Rdv := none
  rdvCount : Nat := 0
  /-- RDV_IDs that this cart has offered itself for, with the requester. -/
  offered : List (Nat × Nat) := []
  deriving DecidableEq, Repr

end Sys2Proof.Machine
end

