-- ==== Sys2Proof/Machine/PartsMirror.lean ====
section
/-!
DEFINITION. What the mirror entries of a cycle carry to the relief terminus (R210, R764). The format of their bytes is
internal to the firmware; a complete mirror therefore reaches the model as what it says.
-/

namespace Sys2Proof.Machine

/-- What the comparison over the Line brings of the relief part of the siding set (R229, R328, R540, R595): its role sections, each with
type, instance, length and SCRC, and its register image. -/
structure ReliefPart where
  sections : List (Nat × Nat × Nat × Nat)
  image : List (Nat × Nat)
  deriving DecidableEq, Repr

/-- A complete mirror, or a complete transfer. -/
structure Mirror where
  /-- A mirror: with the fused grids and run counts, which a transfer does not carry (R764). -/
  grids : Bool
  /-- IDR_YARD_FW of the sending terminus (R210, R764). -/
  yardFw : Nat
  /-- The sessions 1–12 (R118) and the accepted requests POINTS_THROW with their throw cycles (R252). -/
  sessions : List Session
  throws : List Waiting
  /-- Registers of steering, setting, yield, consist and the run (R376, R521, R562, R584, R768). -/
  regs : List (Nat × Word)
  /-- Steering and time (R521, R522). -/
  nav : NavPart
  /-- The setting engine (R376). -/
  fn : SettingPart
  /-- The fused grids, flags and run counts of the newest frame (R327). -/
  frameNo : Nat
  tFrame : Nat
  cells : List Cell
  /-- The open field and the sample history (R562, R563); the consist (R584). -/
  yld : YieldPart
  cst : ConsistPart
  /-- The modules that joined in this power cycle, the terminus with them (R170). -/
  members : List Member
  run : Option RunRecord
  deriving DecidableEq, Repr

end Sys2Proof.Machine

/-- The bytes of the frame of a mirror entry (R118, R210, R764), from what the mirror says, the entry and the position: a free value,
since their format is internal to the firmware. -/
opaque Sys2Proof.Config.mirrorByte : Sys2Proof.Machine.Mirror → Nat → Nat → BitVec 8
end

