-- ==== Sys2Proof/Syntax.lean ====
section
/-!
DEFINITION. The commands that the module takes, one constructor for each row of the opcode table. The first operand t of every
command is the instant at which it comes, in ns since the model's origin.
-/

namespace Sys2Proof

open Sys2Proof.Machine (Mirror ReliefPart)

/-- The commands. -/
inductive Instr where
  /-- The Signal die samples the strap pins (R10): bits 0–1 ROLE0 and ROLE1, 2 NUM_EN, 3–8 NUM0–NUM5, 1 where tied to STRAP_GND. -/
  | strapSample (t : Nat) (v : BitVec 9)
  /-- tMASTER_LISTEN ends (R14). -/
  | masterListenEnd (t : Nat)
  /-- R15, R214: a holder of the terminus role receives the CYCLE_START of another holder, on port E where east. -/
  | cycleStartFromHolder (t : Nat) (east : Bool) (f : LineFrame)
  /-- A keep-alive symbol of the Yard die (or the Signal die) arrives over the Crossover (R39). -/
  | xoKeepAlive (t : Nat) (fromYard : Bool)
  /-- The Yard die (or the Signal die) finds tXO_LOSS passed without a symbol (R39). -/
  | xoLost (t : Nat) (yard : Bool)
  /-- The Crossover becomes usable (R39). -/
  | crossoverUp (t : Nat)
  /-- The Yard die sends the Crossover values named, oldest due first (R400). -/
  | crossoverValueSend (t : Nat) (l : List Nat)
  /-- The oldest record leaves the always-on event latch (R42, R715). -/
  | eventLatchDrain (t : Nat)
  /-- The Signal die restarts unplanned (R43). -/
  | signalDieRestart (t : Nat)
  /-- The Signal firmware reclaims its outputs (R44). -/
  | outputReclaim (t : Nat)
  /-- tHOLD expires (R44). -/
  | holdExpiry (t : Nat)
  /-- The Yard die goes out of service (R47); planned where its notice came first. -/
  | yardDieRestart (t : Nat)
  /-- The Yard die is back in service (R47): whether a partner is present on E and on W, and whether another module holds the terminus role. -/
  | yardDieBack (t : Nat) (linkE linkW holder : Bool)
  /-- tPLANNED_GRACE ends (R50). -/
  | plannedGraceEnd (t : Nat)
  /-- The image of a die is chosen at its start: die 0 Signal, 1 Yard (R748). -/
  | dieBoot (t d : Nat)
  /-- A packet with opcode 0x0001 arrives (R128). -/
  | hello (t : Nat) (p : Request)
  /-- A packet with opcode 0x0005 arrives (R128). -/
  | identify (t : Nat) (p : Request)
  /-- A packet with opcode 0x0002 arrives (R128). -/
  | sessionOpen (t : Nat) (p : Request)
  /-- A packet with opcode 0x0003 arrives (R128). -/
  | sessionClose (t : Nat) (p : Request)
  /-- A packet with opcode 0x0004 arrives (R128). -/
  | sessionKeep (t : Nat) (p : Request)
  /-- A packet with opcode 0x0006 arrives (R128). -/
  | sessionKeySet (t : Nat) (p : Request)
  /-- A packet with opcode 0x0007 arrives (R128). -/
  | requestCancel (t : Nat) (p : Request)
  /-- A packet with opcode 0x0100 arrives (R128). -/
  | regRead (t : Nat) (p : Request)
  /-- A packet with opcode 0x0101 arrives (R128). -/
  | regWrite (t : Nat) (p : Request)
  /-- A packet with opcode 0x0102 arrives (R128). -/
  | regModify (t : Nat) (p : Request)
  /-- A packet with opcode 0x0103 arrives (R128). -/
  | tableInfo (t : Nat) (p : Request)
  /-- A packet with opcode 0x0104 arrives (R128). -/
  | tableRead (t : Nat) (p : Request)
  /-- A packet with opcode 0x0105 arrives (R128). -/
  | tableWrite (t : Nat) (p : Request)
  /-- A packet with opcode 0x0106 arrives (R128). -/
  | blockUnlock (t : Nat) (p : Request)
  /-- A packet with opcode 0x0107 arrives (R128). -/
  | blockLock (t : Nat) (p : Request)
  /-- A packet with opcode 0x0200 arrives (R128). -/
  | sidingLoad (t : Nat) (p : Request)
  /-- A packet with opcode 0x0201 arrives (R128). -/
  | sidingVerify (t : Nat) (p : Request)
  /-- A packet with opcode 0x0202 arrives (R128). -/
  | pointsThrow (t : Nat) (p : Request)
  /-- A packet with opcode 0x0203 arrives (R128). -/
  | sidingClear (t : Nat) (p : Request)
  /-- A packet with opcode 0x0204 arrives (R128). -/
  | setInfo (t : Nat) (p : Request)
  /-- A packet with opcode 0x0300 arrives (R128). -/
  | loadSet (t : Nat) (p : Request)
  /-- A packet with opcode 0x0301 arrives (R128). -/
  | loadStatus (t : Nat) (p : Request)
  /-- A packet with opcode 0x0302 arrives (R128). -/
  | loadReinstate (t : Nat) (p : Request)
  /-- A packet with opcode 0x0303 arrives (R128). -/
  | limpMapRead (t : Nat) (p : Request)
  /-- A packet with opcode 0x0304 arrives (R128). -/
  | limpMapWrite (t : Nat) (p : Request)
  /-- A packet with opcode 0x0400 arrives (R128). -/
  | loopOpen (t : Nat) (p : Request)
  /-- A packet with opcode 0x0401 arrives (R128). -/
  | loopRun (t : Nat) (p : Request)
  /-- A packet with opcode 0x0402 arrives (R128). -/
  | loopHold (t : Nat) (p : Request)
  /-- A packet with opcode 0x0403 arrives (R128). -/
  | loopSetpoint (t : Nat) (p : Request)
  /-- A packet with opcode 0x0404 arrives (R128). -/
  | loopStatus (t : Nat) (p : Request)
  /-- A packet with opcode 0x0500 arrives (R128). -/
  | modelLoad (t : Nat) (p : Request)
  /-- A packet with opcode 0x0501 arrives (R128). -/
  | modelInfo (t : Nat) (p : Request)
  /-- A packet with opcode 0x0502 arrives (R128). -/
  | streamStatus (t : Nat) (p : Request)
  /-- A packet with opcode 0x0503 arrives (R128). -/
  | streamReinstate (t : Nat) (p : Request)
  /-- A packet with opcode 0x0504 arrives (R128). -/
  | gridRead (t : Nat) (p : Request)
  /-- A packet with opcode 0x0600 arrives (R128). -/
  | functionAuto (t : Nat) (p : Request)
  /-- A packet with opcode 0x0601 arrives (R128). -/
  | functionManual (t : Nat) (p : Request)
  /-- A packet with opcode 0x0602 arrives (R128). -/
  | functionStatus (t : Nat) (p : Request)
  /-- A packet with opcode 0x0700 arrives (R128). -/
  | steerEngage (t : Nat) (p : Request)
  /-- A packet with opcode 0x0701 arrives (R128). -/
  | steerRelease (t : Nat) (p : Request)
  /-- A packet with opcode 0x0702 arrives (R128). -/
  | guidanceSet (t : Nat) (p : Request)
  /-- A packet with opcode 0x0703 arrives (R128). -/
  | rtcmFeed (t : Nat) (p : Request)
  /-- A packet with opcode 0x0704 arrives (R128). -/
  | gnssStatus (t : Nat) (p : Request)
  /-- A packet with opcode 0x0705 arrives (R128). -/
  | ppsDelaySet (t : Nat) (p : Request)
  /-- R543: a register write to GNS_PPS_DELAY. -/
  | gnsPpsDelayWrite (t : Nat) (v : BitVec 32)
  /-- A packet with opcode 0x0800 arrives (R128). -/
  | fieldOpen (t : Nat) (p : Request)
  /-- A packet with opcode 0x0801 arrives (R128). -/
  | fieldClose (t : Nat) (p : Request)
  /-- A packet with opcode 0x0802 arrives (R128). -/
  | yieldStatus (t : Nat) (p : Request)
  /-- A packet with opcode 0x0803 arrives (R128). -/
  | yieldTileRead (t : Nat) (p : Request)
  /-- A packet with opcode 0x0804 arrives (R128). -/
  | taskExport (t : Nat) (p : Request)
  /-- A packet with opcode 0x0900 arrives (R128). -/
  | consistJoin (t : Nat) (p : Request)
  /-- A packet with opcode 0x0901 arrives (R128). -/
  | consistLeave (t : Nat) (p : Request)
  /-- A packet with opcode 0x0902 arrives (R128). -/
  | consistKeySet (t : Nat) (p : Request)
  /-- A packet with opcode 0x0903 arrives (R128). -/
  | consistStatus (t : Nat) (p : Request)
  /-- A packet with opcode 0x0904 arrives (R128). -/
  | rendezvousRequest (t : Nat) (p : Request)
  /-- A packet with opcode 0x0A00 arrives (R128). -/
  | streamOpen (t : Nat) (p : Request)
  /-- A packet with opcode 0x0A01 arrives (R128). -/
  | streamClose (t : Nat) (p : Request)
  /-- A packet with opcode 0x0A02 arrives (R128). -/
  | dmaStatus (t : Nat) (p : Request)
  /-- A packet with opcode 0x0B00 arrives (R128). -/
  | logbookRead (t : Nat) (p : Request)
  /-- A packet with opcode 0x0B01 arrives (R128). -/
  | logbookInfo (t : Nat) (p : Request)
  /-- A packet with opcode 0x0B02 arrives (R128). -/
  | retirementRead (t : Nat) (p : Request)
  /-- A packet with opcode 0x0C00 arrives (R128). -/
  | updateBegin (t : Nat) (p : Request)
  /-- A packet with opcode 0x0C01 arrives (R128). -/
  | updateChunk (t : Nat) (p : Request)
  /-- A packet with opcode 0x0C02 arrives (R128). -/
  | updateVerify (t : Nat) (p : Request)
  /-- A packet with opcode 0x0C03 arrives (R128). -/
  | updateActivate (t : Nat) (p : Request)
  /-- A packet with opcode 0x0C04 arrives (R128). -/
  | updateConfirm (t : Nat) (p : Request)
  /-- A packet with opcode 0x0C05 arrives (R128). -/
  | updateStatus (t : Nat) (p : Request)
  /-- A packet with opcode 0x0D00 arrives (R128). -/
  | lineStatus (t : Nat) (p : Request)
  /-- A packet with opcode 0x0D01 arrives (R128). -/
  | linkReinstate (t : Nat) (p : Request)
  /-- A packet with opcode 0x0D02 arrives (R128). -/
  | parkedDeclare (t : Nat) (p : Request)
  /-- A packet with opcode 0x0E00 arrives (R128). -/
  | levelSet (t : Nat) (p : Request)
  /-- A packet with opcode 0x0E01 arrives (R128). -/
  | levelStatus (t : Nat) (p : Request)
  /-- A packet with opcode 0x0E02 arrives (R128). -/
  | resume (t : Nat) (p : Request)
  /-- A packet with opcode 0x0E03 arrives (R128). -/
  | sleep (t : Nat) (p : Request)
  /-- A packet with opcode 0x0F00 arrives (R128). -/
  | event (t : Nat) (p : Request)
  /-- A packet with opcode 0x0F01 arrives (R128). -/
  | eventSubscribe (t : Nat) (p : Request)
  /-- A packet with opcode 0x0F02 arrives (R128). -/
  | echo (t : Nat) (p : Request)
  /-- A packet with opcode 0x0F03 arrives (R128). -/
  | countersRead (t : Nat) (p : Request)
  /-- The module's own software writes the bits of a mask in the register at an address (R26). -/
  | registerWrite (t : Nat) (a mask v : BitVec 32)
  /-- R431: 0xFFFF is written to MIN_SLACK. -/
  | minSlackRestart (t : Nat)
  /-- R307: a value is written to FUS_HMAP_n. -/
  | hmapWrite (t n : Nat) (v : BitVec 32)
  /-- R307: tREMAP has passed since the write. -/
  | remapDone (t : Nat)
  /-- R615: the OPEN bit of island g is set. -/
  | gateOpen (t g : Nat)
  /-- R616: the OPEN bit of island g is cleared. -/
  | gateCloseRequest (t g : Nat)
  /-- R616: the bus port of island g is idle. -/
  | gateClose (t g : Nat)
  /-- R617: tGATE_FORCE of island g has passed. -/
  | gateForced (t g : Nat)
  /-- R661: STOP of a channel is written. -/
  | dmaStopWrite (t c : Nat) (v : Bool)
  /-- tINTERIM_REPEAT ends (R123). -/
  | interimRepeat (t : Nat)
  /-- tFWD_TIMEOUT of forwarded requests ends (R91). -/
  | forwardTimeout (t : Nat)
  /-- tOPEN_PENDING of a reserved session number ends (R102). -/
  | openPendingExpiry (t n : Nat)
  /-- tSESSION_IDLE of a session ends (R107). -/
  | sessionIdleClose (t n : Nat)
  /-- tUNLOCK ends for blocks of a session (R140). -/
  | unlockExpiry (t n : Nat)
  /-- A packet of the module with a join number reaches the holder of the terminus role (R90). -/
  | forwardedReply (t n : Nat) (r : Reply)
  /-- A mirror cycle has carried completed records (R118). -/
  | mirroredReplyRelease (t : Nat)
  /-- The oldest STANDING request is served (R65). -/
  | standingServe (t : Nat)
  /-- Requests dropped by a restart are answered (R66). -/
  | ownerRestartReply (t : Nat)
  /-- R95: a timeout of 1,000 ms of an ISO 15765-2 transfer. -/
  | isoTpTimeout (t : Nat)
  /-- An ARP request or an ICMP echo on the HOST port (R89). -/
  | hostArpIcmp (t : Nat) (q : NetProbe)
  /-- R280: an ARP or ICMP echo request on the SENSOR port. -/
  | sensorArpIcmp (t : Nat) (q : NetProbe)
  /-- R157: a cycle begins. -/
  | cycleBoundary (t : Nat)
  /-- R163, R171: the time of an entry that the module sends. -/
  | entrySend (t entry : Nat)
  /-- R156: a frame that arrives on a port is forwarded, with its residence in 1/16 ns. -/
  | lineFrameForward (t : Nat) (east : Bool) (f : LineFrame) (residence : Nat)
  /-- R172: a DATA frame is whole; the word offsets of the stream regions in it with the KINDs of their streams, and the mirror that it completes. -/
  | reservedFrameReceive (t : Nat) (east : Bool) (f : LineFrame) (regions : List (Nat × Nat)) (mirror : Option Mirror)
  /-- R194: a module that is no holder receives CYCLE_START of the holder with a join number. -/
  | cycleStartReceive (t : Nat) (east : Bool) (f : LineFrame) (holder : Nat)
  /-- R165: a QUEUED frame is whole. -/
  | queuedFrameReceive (t : Nat) (east : Bool) (f : LineFrame)
  /-- R182: JOIN may be due. -/
  | joinSend (t : Nat)
  /-- R184: a JOIN is whole. -/
  | joinReceive (t : Nat) (east : Bool) (f : LineFrame)
  /-- R182: a JOIN_ACCEPT is whole. -/
  | joinAcceptReceive (t : Nat) (east : Bool) (f : LineFrame)
  /-- R182: START_CYCLE begins. -/
  | timetableStart (t : Nat)
  /-- R192: the probe of a link is due. -/
  | delayProbe (t : Nat) (east : Bool)
  /-- R192: a DELAY_REQ is whole; the turnaround in 1/16 ns. -/
  | delayReqReceive (t : Nat) (east : Bool) (f : LineFrame) (turnaround : Nat)
  /-- R192: a DELAY_RESP is whole; the round trip in 1/16 ns. -/
  | delayRespReceive (t : Nat) (east : Bool) (f : LineFrame) (roundTrip : Nat)
  /-- R199: a CHECK frame of the neighbour is whole. -/
  | checkReceive (t : Nat) (east : Bool) (f : LineFrame)
  /-- R176: a best-effort frame of the module may leave. -/
  | beFrameSend (t : Nat)
  /-- R177: a best-effort frame is whole. -/
  | beFrameReceive (t : Nat) (east : Bool) (f : LineFrame)
  /-- R670: a DIAG frame is whole. -/
  | diagReceive (t : Nat) (east : Bool) (f : LineFrame)
  /-- R175: RES_END of the cycle. -/
  | resEndMiss (t : Nat)
  /-- R200: the errors of a link in a cycle are judged. -/
  | linkClassify (t : Nat) (east : Bool)
  /-- R211: the relief terminus decides at the end of a cycle. -/
  | takeoverDecision (t : Nat)
  /-- R212: the takeover of the next cycle is due. -/
  | takeover (t : Nat)
  /-- R198: the PHY link of a port drops. -/
  | phyLinkDrop (t : Nat) (east : Bool)
  /-- R198: the PHY link of a port comes up. -/
  | phyLinkUp (t : Nat) (east : Bool)
  /-- R207: tLINE_LOSS may have passed. -/
  | lineLost (t : Nat)
  /-- R206: the misses of an entry may have reached their limit. -/
  | entryMissLimit (t entry : Nat)
  /-- R189: the silence of a module may have reached its limit. -/
  | stationAbsent (t n : Nat)
  /-- R167: the cycles without CYCLE_START may have reached their limit. -/
  | freeRunLimit (t : Nat)
  /-- R196: the module may be synced. -/
  | syncAchieved (t : Nat)
  /-- R244: the forwarded POINTS_THROW arrives. -/
  | armingRequest (t : Nat) (p : Request)
  /-- R246: the end of cycle N − 2. -/
  | throwCommitDecision (t : Nat)
  /-- R247, R249: the start of cycle N. -/
  | throwSwap (t : Nat)
  /-- R253: a late swap may be due. -/
  | lateThrow (t : Nat)
  /-- R251, R252: the final reply to POINTS_THROW may be due. -/
  | throwFinalReply (t : Nat)
  /-- R262: a running order may start. -/
  | orderStart (t n : Nat)
  /-- R261: a running order may execute its next step. -/
  | orderStep (t n : Nat)
  /-- R274: a camera frame with its size, its embedded time, and its virtual channel and samples. -/
  | cameraFrame (t cam lines len : Nat) (stime : BitVec 64) (px : CameraData)
  /-- R279: a UDP datagram on the SENSOR port. -/
  | lidarDatagram (t : Nat) (port : BitVec 16) (d : Bytes)
  /-- R282: a DIRECT stream has gathered a block of samples, with the readings of this instant that complete it. -/
  | directBlock (t slot : Nat) (l : List Reading)
  /-- R304: the model invocation of a stream completes. -/
  | modelInvocationDone (t slot : Nat)
  /-- R283: tSTREAM_LOSS of a stream ends. -/
  | streamLost (t slot : Nat)
  /-- R284: tRECONNECT of a stream ends. -/
  | streamRetired (t slot : Nat)
  /-- R317: a frame boundary. -/
  | fusionFrame (t : Nat)
  /-- R319: the grids of the frame become readable. -/
  | fusionFrameDone (t : Nat)
  /-- R361: a step tick. -/
  | stepTick (t : Nat)
  /-- R361: the policy invocation completes. -/
  | policyDone (t : Nat)
  /-- R369: SETTLING of function n ends. -/
  | settlingEnd (t n : Nat)
  /-- R392: a tick of loop n; the service of its sample takes upd ns. -/
  | loopTick (t n upd : Nat)
  /-- R407: the deadline of the pending sample of loop n. -/
  | loopDeadline (t n : Nat)
  /-- R422: the grace time of loop n expires. -/
  | loopLossAction (t n : Nat)
  /-- R452: the current of channel c in mA and its junction in 0.1 °C, as the protection sees them. -/
  | overCurrentLatch (t c : Nat) (current tj : Int)
  /-- R454: the junction of channel c in 0.1 °C. -/
  | thermalLatch (t c : Nat) (tj : Int)
  /-- R455: the retry of channel c, with its junction in 0.1 °C. -/
  | retry (t c : Nat) (tj : Int)
  /-- R455: the side window of channel c ends. -/
  | retryOk (t c : Nat)
  /-- R451: the inrush window of channel c ends. -/
  | inrushWindowEnd (t c : Nat)
  /-- R459: the output of channel c has stayed above (or below) 3.2 V for so many units of 100 µs. -/
  | openLoadJudgement (t c : Nat) (above : Bool) (units : Nat)
  /-- R440: the 1 s means are computed; the summed mirror currents of LOAD_A and LOAD_B at this instant, mA. -/
  | studMean (t : Nat) (a b : Int)
  /-- R441: the voltage of LOAD_A (or LOAD_B) in mV. -/
  | supplyLow (t : Nat) (b : Bool) (mv : Nat)
  /-- R465: current in mA and junction in 0.1 °C of each channel in index order. -/
  | currentMeasure (t : Nat) (l : List (Int × Int))
  /-- R462: SEL4–SEL0 and SENSE_EN. -/
  | senseSelect (t : Nat) (sel : BitVec 5) (en : Bool)
  /-- R466: LIMP_REQ has been high for tLIMP_FILT. -/
  | limpReq (t : Nat)
  /-- R467: the levels of LH_IN7–LH_IN0. -/
  | lhInChange (t : Nat) (levels : BitVec 8)
  /-- The limp map is latched at power-up (R473). -/
  | limpMapLatch (t : Nat)
  /-- R498: the correlators of the channels at a dump, and what firmware sets. -/
  | correlatorDump (t : Nat) (l : List ChannelDump)
  /-- R499: a search for a signal completes. -/
  | acquisitionDone (t n sig sv : Nat) (antB aided found : Bool) (doppler : Int)
  /-- R501: a measurement epoch. -/
  | gnssEpoch (t : Nat) (x : GnssFix)
  /-- R515: the slew has removed the offset. -/
  | slewEnd (t : Nat)
  /-- R516: the cycle H. -/
  | timeStep (t : Nat)
  /-- R510: PPS_DELAY before a whole second. -/
  | timePulse (t : Nat)
  /-- R493: the bias current of an antenna, and what has been detected. -/
  | antFault (t : Nat) (antB : Bool) (cur : Nat) (open_ short : Bool)
  /-- R504: a frame of a correction source. -/
  | rtcmFrame (t source : Nat)
  /-- R507: AGE_MAX of the source in use has passed. -/
  | corrStale (t : Nat)
  /-- R532: a steering computation, with the propagated navigation state. -/
  | steerCompute (t : Nat) (x : NavPoint)
  /-- R535: the filter of the operator enable ends. -/
  | enableFilter (t : Nat)
  /-- R531: HOLD has passed without an edge fit. -/
  | edgeHoldTimeout (t : Nat)
  /-- R537: FIX_GRACE has passed. -/
  | fixGraceExpiry (t : Nat)
  /-- R537: OV_TIME has passed. -/
  | overrideExpiry (t : Nat)
  /-- R537: the speed has been out of range for 1 s. -/
  | speedExpiry (t : Nat)
  /-- R523: tBLEND has passed. -/
  | blendEnd (t : Nat)
  /-- R552: a yield sample. -/
  | yieldSample (t : Nat)
  /-- R555: the next cut instant. -/
  | cutInstant (t : Nat)
  /-- R560: the changed tiles are written. -/
  | tileFlush (t : Nat)
  /-- R581: the member's second and offset. -/
  | heartbeatSend (t : Nat)
  /-- R581: a HEARTBEAT datagram. -/
  | heartbeatReceive (t : Nat) (d : UdpDatagram)
  /-- R586: coverage, once per second. -/
  | coverageSend (t : Nat)
  /-- R587: a COVERAGE datagram. -/
  | coverageReceive (t : Nat) (d : UdpDatagram)
  /-- R588: a RENDEZVOUS datagram. -/
  | rendezvousReceive (t : Nat) (d : UdpDatagram)
  /-- R594: a CORRECTIONS datagram. -/
  | correctionsReceive (t : Nat) (d : UdpDatagram)
  /-- R583: a LEAVE datagram. -/
  | leaveReceive (t : Nat) (d : UdpDatagram)
  /-- R583: the second LEAVE. -/
  | leaveRepeat (t : Nat)
  /-- R582: member n has not been heard for 5 s. -/
  | memberLost (t n : Nat)
  /-- R582: member n has not been heard for 60 s. -/
  | memberRemove (t n : Nat)
  /-- R580: the listening time ends. -/
  | joinListenEnd (t : Nat)
  /-- R590: REQUEST is repeated. -/
  | requestSend (t : Nat)
  /-- R590: an offer is taken. -/
  | offerSelect (t : Nat)
  /-- R590: TRACK at 100 ms of device time. -/
  | trackSend (t : Nat)
  /-- R591: no offer within 10 s. -/
  | offerTimeout (t : Nat)
  /-- R591: no TRACK for 3 s. -/
  | trackTimeout (t : Nat)
  /-- R593: accepted frames are relayed. -/
  | correctionRelay (t : Nat)
  /-- R601: a judgement window of the crystal (or the TCXO) with its count. -/
  | refWindow (t : Nat) (xtal coarse : Bool) (count ringT ringX : Nat)
  /-- R603: no edge of the crystal (or the TCXO) for tMISSING. -/
  | refMissing (t : Nat) (xtal : Bool)
  /-- R605: the crystal (or the TCXO) has been stable for 1 s. -/
  | refReturn (t : Nat) (xtal : Bool)
  /-- R614: the wait for a judgement. -/
  | refWaitTimeout (t : Nat)
  /-- R625: a pass of the level sequencer, with the canary delay in ps. -/
  | sequencerCheck (t canary : Nat)
  /-- R625: the canary delay after a raise. -/
  | levelRaiseDone (t canary : Nat)
  /-- R629: face and junction in 0.1 °C, Signal core in mV. -/
  | faceTempRead (t : Nat) (face yard : Int) (sigMv : Nat)
  /-- R651, R663: descriptors that firmware has placed in the ring of a channel since; the channel may start the next one. -/
  | descriptorStart (t c : Nat) (l : List Descriptor)
  /-- R656: the descriptor in progress on a channel ends. -/
  | descriptorComplete (t c : Nat) (e : DmaEnd)
  /-- R660: firmware resubmits a BAD descriptor of a channel. -/
  | descResubmit (t c : Nat)
  /-- R642: a pass of the patrol scrub ends; pages with errors, with those corrected and not corrected. -/
  | patrolScrub (t : Nat) (l : List (Nat × Nat × Nat))
  /-- R642: a marked page is due to be retired. -/
  | pageRetirement (t page : Nat)
  /-- R669: a data stream sends within its rate. -/
  | streamUnitSend (t n : Nat)
  /-- R687: transmit message m may fall due. -/
  | messageDue (t m : Nat)
  /-- R685: the frame that controller n offers meets an error with this code of LAST_ERR. -/
  | txError (t n err : Nat)
  /-- R686: recovery from bus-off ends. -/
  | busOn (t n : Nat)
  /-- R691: a frame is received on controller n. -/
  | canFrameReceive (t n : Nat) (f : CanFrame)
  /-- R680: CAN_A claims its address, or its claim ends. -/
  | addressClaim (t : Nat)
  /-- R694: TIMEOUT of receive message r may have passed. -/
  | rxTimeout (t r : Nat)
  /-- R697: a wake-up pattern on the bus of controller n. -/
  | canWake (t n : Nat)
  /-- An EVENT is due for the session of a number (R719, R720). -/
  | eventSend (t n : Nat)
  /-- An operating second ends (R722, R723): the samples of the quantities that no register holds, by histogram number. -/
  | histogramSecond (t : Nat) (l : List (Nat × Int))
  /-- A commit to MRAM is due (R730), and whether it completes. -/
  | logCommit (t : Nat) (done : Bool)
  /-- The dead-man of the Signal die expires (R734). -/
  | signalDeadmanExpiry (t : Nat)
  /-- The dead-man of the Yard die expires (R735). -/
  | yardDeadmanExpiry (t : Nat)
  /-- A flash operation fails (R705): on a block of the log partition (or the SLC partition), whether its repeat fails too, whether data of the siding set is lost, and the block. -/
  | flashOperationFail (t : Nat) (log again siding : Bool) (block : Nat)
  /-- The verification of the image in the slot of a die that is not running is done (R753). -/
  | verifyDone (t d : Nat)
  /-- The holder of the terminus role instructs the module to activate these versions of its Signal and Yard image (R754, R775). -/
  | moduleActivate (t : Nat) (sig yard : BitVec 32)
  /-- The self-test of a trial image has held for its time (R757). -/
  | trialHealthy (t : Nat)
  /-- tCONFIRM of the trial image of a die ends (R758). -/
  | confirmTimeout (t d : Nat)
  /-- The holder of the terminus role starts the handover of an update run (R771). -/
  | handoverStart (t : Nat)
  /-- R766: the cycle of a handover begins; whether the relief terminus has taken the role. -/
  | handover (t : Nat) (taken : Bool)
  /-- The holder of the terminus role takes the next step of an update run with what it learns of the modules (R769–R774). -/
  | runStep (t : Nat) (l : List RunReport)
  /-- LOGIC_SUPPLY becomes valid, at so many mV (R791, R799). -/
  | powerUp (t mv : Nat)
  /-- A power failure is declared (R801). -/
  | powerFail (t : Nat)
  /-- IGN_IN has been low for IGN_OFF × 10 s (R796). -/
  | ignOffTimeout (t : Nat)
  /-- The DELAY of SLEEP ends (R795). -/
  | sleepEntry (t : Nat)
  /-- A wake source comes: 1 IGN_IN, 3 the Line, 4 LIMP_REQ (R797). -/
  | wake (t src : Nat)
  /-- The power of a camera input reaches its limit (R803). -/
  | camLimit (t cam : Nat)
  /-- The firmware of the Yard die (or the Signal die) restarts its dead-man (R733). -/
  | deadmanRestart (t : Nat) (yard : Bool)
  /-- R466: LIMP_REQ is low. -/
  | limpReqLow (t : Nat)
  /-- R441: the voltage of LOAD_A (or LOAD_B) in mV. -/
  | supplyLowClear (t : Nat) (b : Bool) (mv : Nat)
  /-- R684: the frame that controller n offers completes with acknowledgement. -/
  | canFrameSent (t n : Nat)
  /-- R274: a sample of an input. -/
  | inputSample (t : Nat) (r : Reading)
  /-- R240: the checks complete; with the relief part as the comparison over the Line has it, none where it has none (R229, R328,
  R540, R595). -/
  | sidingVerifyDone (t : Nat) (relief : Option ReliefPart)
  /-- R444: a PWM period of channel c begins. -/
  | pwmPeriodStart (t c : Nat)
  /-- The sensor supplies at their current limit, bit 0 SENS_5V0, bit 1 SENS_5V1 (R812). -/
  | sensLimit (t : Nat) (mask : BitVec 2)
  deriving DecidableEq, Repr

end Sys2Proof
end

