-- ==== Sys2Proof/Decode.lean ====
section
/-!
DEFINITION. Words of commands. The module is a block that takes commands from outside: no row of the spec's table gives its
command any bits, so no word spells one.
-/

namespace Sys2Proof

/-- The command that a word spells: no row of the table has bits, so none. -/
def decodeTableWord (_nbits _w : Nat) : Option Instr := none

end Sys2Proof
end

