-- ==== Sys2Proof/Machine/Aes.lean ====
section
/-!
DEFINITION. AES-128-GCM as NIST SP 800-38D gives it, which consist datagrams use (R574).
-/

namespace Sys2Proof.Machine

/-- The S-box of AES, sixteen entries a row, the first in the lowest byte. -/
def aesSbox : List Nat := [
  0x76abd7fe2b670130c56f6bf27b777c63, 0xc072a49cafa2d4adf04759fa7dc982ca,
  0x1531d871f1e5a534ccf73f362693fdb7, 0x75b227ebe28012079a059618c323c704,
  0x842fe329b3d63b52a05a6e1b1a2c8309, 0xcf584c4a39becb6a5bb1fc20ed00d153,
  0xa89f3c507f02f94585334d43fbaaefd0, 0xd2f3ff1021dab6bcf5389d928f40a351,
  0x73195d643d7ea7c41744975fec130ccd, 0xdb0b5ede14b8ee4688902a22dc4f8160,
  0x79e4959162acd3c25c2406490a3a32e0, 0x08ae7a65eaf4566ca94ed58d6d37c8e7,
  0x8a8bbd4b1f74dde8c6b4a61c2e2578ba, 0x9e1dc186b95735610ef6034866b53e70,
  0xdf2855cee9871e9b948ed9691198f8e1, 0x16bb54b00f2d99416842e6bf0d89a18c]

/-- A byte through the S-box. -/
def subByte (b : Nat) : Nat := bitsAt (nth aesSbox (b / 16) 0) (8 * (b % 16)) 8

/-- A byte doubled in the field of AES. -/
def xtime (b : Nat) : Nat := if b < 128 then 2 * b else Nat.xor (2 * b) 0x11B

/-- The exclusive-or of two lists of numbers. -/
def xorNats (a b : List Nat) : List Nat := List.zipWith Nat.xor a b

/-- The next round key from the present one, with the round constant. -/
def nextKey (rc : Nat) (k : List Nat) : List Nat :=
  let w3 := k.drop 12
  let g := xorNats [subByte (nth w3 1 0), subByte (nth w3 2 0), subByte (nth w3 3 0), subByte (nth w3 0 0)] [rc, 0, 0, 0]
  let w0 := xorNats (k.take 4) g
  let w1 := xorNats ((k.drop 4).take 4) w0
  let w2 := xorNats ((k.drop 8).take 4) w1
  w0 ++ w1 ++ w2 ++ xorNats w3 w2

/-- One column through the mixing of columns. -/
def mixColumn (c : List Nat) : List Nat :=
  match c with
  | [a, b, c, d] =>
    let all := Nat.xor (Nat.xor a b) (Nat.xor c d)
    [Nat.xor (Nat.xor a all) (xtime (Nat.xor a b)), Nat.xor (Nat.xor b all) (xtime (Nat.xor b c)),
      Nat.xor (Nat.xor c all) (xtime (Nat.xor c d)), Nat.xor (Nat.xor d all) (xtime (Nat.xor d a))]
  | _ => c

/-- The shifted rows of a block held column by column. -/
def shiftRows (b : List Nat) : List Nat := (upFrom 0 16).map (fun i => nth b ((i + 4 * (i % 4)) % 16) 0)

/-- The rounds after the first key: the round constants that remain. -/
def aesRounds : List Nat → List Nat → List Nat → List Nat
  | [], _, b => b
  | rc :: l, k, b =>
    let k := nextKey rc k
    let b := shiftRows (b.map subByte)
    let b := if l.isEmpty then b else mixColumn (b.take 4) ++ mixColumn ((b.drop 4).take 4) ++ mixColumn ((b.drop 8).take 4) ++ mixColumn (b.drop 12)
    aesRounds l k (xorNats b k)

/-- AES-128 of a block of 16 bytes. -/
def aes128 (key block : Bytes) : Bytes :=
  let k := key.map BitVec.toNat
  (aesRounds [0x01, 0x02, 0x04, 0x08, 0x10, 0x20, 0x40, 0x80, 0x1B, 0x36] k (xorNats (block.map BitVec.toNat) k)).map (BitVec.ofNat 8)

/-- The product of GCM: the bits of x from the most significant on, with the running multiple of y. -/
def ghashMul (x : Nat) : Nat → Nat → Nat → Nat
  | 0, _, z => z
  | n + 1, v, z =>
    let z := if bitAt x n then Nat.xor z v else z
    ghashMul x n (if v % 2 = 1 then Nat.xor (v / 2) (0xE1 * 2 ^ 120) else v / 2) z

/-- GHASH of n blocks. -/
def ghashRun (h : Nat) : Nat → Nat → Bytes → Nat
  | 0, y, _ => y
  | n + 1, y, b => ghashRun h n (ghashMul (Nat.xor y (beNat (padTo 16 (b.take 16)))) 128 h 0) (b.drop 16)

/-- The key stream of GCM: n blocks from a counter on. -/
def gcmStream (key nonce : Bytes) : Nat → Nat → Bytes
  | 0, _ => []
  | n + 1, c => aes128 key (nonce ++ beBytes 4 c) ++ gcmStream key nonce n (c + 1)

/-- Text under the key stream: encryption and decryption. -/
def gcmText (key nonce text : Bytes) : Bytes := xorBytesN text (gcmStream key nonce (ceilDiv text.length 16) 2)
where xorBytesN (a b : Bytes) : Bytes := List.zipWith BitVec.xor a b

/-- The tag of 16 bytes over additional data and ciphertext. -/
def gcmTag (key nonce aad cipher : Bytes) : Bytes :=
  let h := beNat (aes128 key (List.replicate 16 0#8))
  let y := ghashRun h (ceilDiv aad.length 16) 0 aad
  let y := ghashRun h (ceilDiv cipher.length 16) y cipher
  let y := ghashRun h 1 y (beBytes 8 (8 * aad.length) ++ beBytes 8 (8 * cipher.length))
  List.zipWith BitVec.xor (beBytes 16 y) (aes128 key (nonce ++ beBytes 4 1))

end Sys2Proof.Machine
end

