-- ==== Sys2Proof/Machine/PartsCan.lean ====
section
/-!
DEFINITION. The parts of the state that the CAN controllers have beside their registers (R677–R699).
-/

namespace Sys2Proof.Machine

/-- A transmit buffer beside its register: its frame while it is pending, and the attempts that have failed (R685). -/
structure TxBuffer where
  frame : Option CanFrame := none
  errors : Nat := 0
  deriving DecidableEq, Repr

/-- A controller beside its registers. -/
structure CanControl where
  /-- TXB0–TXB2. -/
  bufs : List TxBuffer := [{}, {}, {}]
  /-- Messages whose instance waits for a buffer, in the order of loading (R687): the due instant and the message. -/
  waiting : List (Nat × Nat) := []
  /-- Frames of the firmware that wait for TXB2 (R683). -/
  firmware : List CanFrame := []
  /-- The firmware queue of received frames (R692). -/
  received : List CanFrame := []
  deriving DecidableEq, Repr

/-- The message bus. -/
structure CanPart where
  controls : List CanControl := List.replicate 4 {}
  /-- Device time from which due instants and time-outs of the set in force count. -/
  since : Nat := 0
  /-- The last due instant of each message, and the signal values that a message with PERIOD 0 last took (R687). -/
  lastDue : List (Nat × Nat) := []
  lastVals : List (Nat × List Int) := []
  /-- Device time of the last reception of each receive message (R694). -/
  lastRx : List (Nat × Nat) := []
  /-- When FIFO_OVF was last raised (R692). -/
  overflowAt : Option Nat := none
  /-- An address claim is due, or was sent at this instant and is not settled (R680, R681). -/
  claimDue : Bool := true
  claimAt : Option Nat := none
  /-- Packets of the service path that wait for the transfer in progress (R93). -/
  packets : List (Nat × Bytes) := []
  deriving DecidableEq, Repr

end Sys2Proof.Machine
end

