-- ==== Sys2Proof/Machine/PartsClock.lean ====
section
/-!
DEFINITION. The parts of the state that the references, the clock gates and the level sequencer have beside their
registers (R600–R639).
-/

namespace Sys2Proof.Machine

/-- What is known of a reference (R601–R605). -/
structure RefPart where
  /-- Edges of it arrive. -/
  present : Bool := false
  /-- Consecutive cross windows in tolerance and out of tolerance, and consecutive coarse windows in tolerance. -/
  good : Nat := 0
  bad : Nat := 0
  coarse : Nat := 0
  /-- When it was judged stable again after a failure, until its islands have returned. -/
  judgedAt : Option Nat := none
  deriving DecidableEq, Repr

/-- References and clock gates. -/
structure ClockPart where
  tcxo : RefPart := {}
  xtal : RefPart := {}
  /-- 20 ms have passed without a judgement (R614), and the REF cause waits for the limp map. -/
  acceptCoarse : Bool := false
  refDue : Bool := false
  /-- When the closing of each island was requested (R617): island and instant. -/
  closing : List (Nat × Nat) := []
  deriving DecidableEq, Repr

/-- The level sequencer (R625–R629). -/
structure LevelPart where
  /-- A raise in progress: its level and when the voltage was set. -/
  raising : Option (Nat × Nat) := none
  retryAt : Nat := 0
  fails : List Nat := [0, 0, 0, 0, 0, 0, 0, 0]
  /-- The last check found the canary above the limit of the present level. -/
  spill : Bool := false
  /-- The caps of R629 in force, and an onset of OVER_TEMP. -/
  cap5 : Bool := false
  cap3 : Bool := false
  hot : Bool := false
  deriving DecidableEq, Repr

end Sys2Proof.Machine
end

