-- ==== Sys2Proof/Machine/PartsDma.lean ====
section
/-!
DEFINITION. The parts of the state that the memories, the DMA engine and the data streams have beside their registers
(R640–R676).
-/

namespace Sys2Proof.Machine

/-- Blocks of the spare pool as delivered (R644, R645). DESIGN CHOICE: the spec gives the pool's size in MiB and no block
size. -/
def spareTotal : Nat := 256

/-- A descriptor in the ring of a channel (R651). -/
structure RingEntry where
  d : Descriptor
  /-- When it was offered, how many entries it waited behind then, and the estimated wait (R651). -/
  at_ : Nat
  ahead : Nat
  wait : Nat
  /-- Firmware has resubmitted it (R660). -/
  again : Bool
  deriving DecidableEq, Repr

/-- What the engine writes back at completion (R656). -/
structure WriteBack where
  status : Nat
  code : Nat
  admitted : Nat
  qpos : Nat
  wait : Nat
  residue : Nat
  deriving DecidableEq, Repr

/-- A DMA channel. -/
structure DmaChannel where
  /-- Its descriptor ring, the next one first; the first is in progress while the channel is active. -/
  ring : List RingEntry := []
  /-- A descriptor is in progress, and since when. -/
  active : Bool := false
  startedAt : Nat := 0
  /-- The island of the descriptor in progress was gated by force (R666). -/
  gated : Bool := false
  /-- BAD descriptors that firmware has not resubmitted yet, with their code (R660). -/
  bad : List (RingEntry × Nat) := []
  /-- The descriptor last completed and what was written back. -/
  last : Option (Descriptor × WriteBack) := none
  /-- Service times of its last 64 descriptors, newest first (R68). -/
  service : List Nat := []
  deriving DecidableEq, Repr

/-- A unit of a data stream: UNIT, its stamp and its bytes (R667, R669). -/
structure StreamUnit where
  unit : Nat
  stamp : Nat
  data : Bytes
  deriving DecidableEq, Repr

/-- A data stream beside its registers. -/
structure DataStream where
  x0 : Nat := 0
  y0 : Nat := 0
  w : Nat := 0
  h : Nat := 0
  /-- Units that came since it opened (R667 DECIM). -/
  count : Nat := 0
  /-- Units in its buffer, the one being sent first, and the bytes of that one already sent. -/
  queue : List StreamUnit := []
  offset : Nat := 0
  /-- A selected unit was lost since the last unit began, and GAP of the unit being sent (R669). -/
  lost : Bool := false
  gap : Bool := false
  /-- The millisecond of device time in which it last sent, and the bytes sent in it (R667 RATE). -/
  msNo : Nat := 0
  used : Nat := 0
  deriving DecidableEq, Repr

/-- Memories, DMA and data streams. -/
structure DmaPart where
  /-- The grid store and LPDDR5X, by address on the Yard bus (R640): the bytes that differ from 0. -/
  mem : List (Nat × Byte) := []
  channels : List DmaChannel := List.replicate 32 {}
  streams : List DataStream := List.replicate 4 {}
  /-- Units counted since power-up, by 2 × slot, + 1 for feature outputs. -/
  units : List (Nat × Nat) := []
  /-- Pages that reported an error on the last pass of the patrol scrub, and pages marked for retirement (R642). -/
  lastErr : List Nat := []
  marked : List Nat := []
  /-- SPARE_LOW has been raised (R645), and blocks by which partitions have shrunk. -/
  spareLow : Bool := false
  shrunk : Nat := 0
  /-- On the terminus: the module of the Line that has a diagnostic stream, the stream, its session and its UDP port
  (R180, R670). -/
  diagAt : Option (Nat × Nat × Nat × Nat) := none
  deriving DecidableEq, Repr

end Sys2Proof.Machine
end

