-- ==== Sys2Proof/Machine/PartsLoads.lean ====
section
/-!
DEFINITION. The parts of the state that the load channels, limp-home, the inputs and the control engine have beside
their registers.
-/

namespace Sys2Proof.Machine

/-- What a load channel holds beside its registers (R443–R461). -/
structure ChannelPart where
  /-- The output is on, or in PWM (R482). -/
  output : Bool := false
  /-- retry_at and window_end of R455. -/
  retryAt : Option Nat := none
  windowEnd : Nat := 0
  /-- The start of the running inrush window (R453). -/
  inrushFrom : Nat := 0
  /-- A latch in limp mode (R468), and the cause it records. -/
  limpLatched : Bool := false
  /-- In limp mode the channel stays off until its input changes (R461, reinstatement in limp mode). -/
  limpWait : Bool := false
  /-- The PWM period in force: its counts of 10 ns, the counts on, and its start (R443, R444); no counts outside PWM. -/
  period : Nat := 0
  onCounts : Nat := 0
  periodAt : Nat := 0
  /-- The last off command that found the output on: its instant, and the threshold in force (R461). -/
  offAt : Option (Nat × Nat) := none
  /-- The instant from which the conditions of open-load judgement hold (R459, R460). -/
  judgedFrom : Nat := 0
  deriving DecidableEq, Repr

/-- Load channels and limp-home (R437–R487). -/
structure LoadPart where
  channels : List ChannelPart := List.replicate 32 {}
  /-- The stored limp map in MRAM with its CRC (R473). As delivered: no channel follows an input. -/
  storedMap : Bytes := []
  storedCrc : Nat := 0
  /-- The latched limp map: SRC of each channel; none until it is latched in this power cycle. -/
  latchedMap : Option (List Nat) := none
  /-- The channel that SEL4–SEL0 routes to SENSE_OUT, none while SENSE_EN is low (R462). -/
  sense : Option Nat := none
  /-- The summed mirror currents of LOAD_A and LOAD_B, mA, as measured in the last second, each with its instant (R440). -/
  studLog : List (Nat × Int × Int) := []
  deriving DecidableEq, Repr

/-- The newest samples of the inputs (R399, R401): code or value by input number, with the device time of the sample. -/
structure InputPart where
  ain : List (Nat × Int × Nat) := []
  freq : List (Nat × Int × Nat) := []
  acoustic : List (Nat × Int × Nat) := []
  /-- The stamps of the edges that each frequency input counted in its last interval with edges (R274). -/
  edgeAt : List (Nat × List Nat) := []
  /-- Levels of DIN0–DIN15, and the instant of the scan at which each changed last (R274). -/
  din : Nat := 0
  dinAt : List (Nat × Nat) := []
  /-- Inertial sample: three accelerations and three rates, raw. -/
  imu : List Int := []
  imuAt : Nat := 0
  deriving DecidableEq, Repr

/-- Where a loop writes its output (R402): KIND, INDEX, WORD, SINK_SCALE and SINK_OFF. -/
structure SinkDef where
  kind : Nat
  index : Nat
  word : Nat
  scale : Int
  off : Int
  deriving DecidableEq, Repr

/-- A sample of a loop between its tick and its deadline (R392, R407). -/
structure Sample where
  /-- Device time of the tick and of the deadline, ns. -/
  tick : Nat
  deadline : Nat
  /-- What its service takes, and the device time at which the engine completes it, once its service has begun
  (R409). -/
  upd : Nat
  done : Option Nat
  iNew : Int
  u : Int
  sat : Bool
  /-- The sink it is written to where a points throw has changed it since the tick (R420); none: the one in force. -/
  sink : Option SinkDef := none
  deriving DecidableEq, Repr

/-- What a loop holds beside its registers (R391, R421–R427). -/
structure LoopPart where
  /-- The integrator, Q16.32 (R391). -/
  integ : Int := 0
  sample : Option Sample := none
  /-- Device time of the last tick (R406). -/
  lastTick : Option Nat := none
  /-- The instant from which the grace time of a lost value runs (R421). -/
  lostAt : Option Nat := none
  /-- A miss since the last status word (R427). -/
  missSince : Bool := false
  deriving DecidableEq, Repr

/-- The control engine (R390–R436). -/
structure EnginePart where
  loops : List LoopPart := List.replicate 32 {}
  /-- Crossover values that the Signal die holds, by number (R400, R401). -/
  xvals : List (Nat × Int) := []
  /-- Crossover values for which no value is delivered (R400). -/
  xlost : List Nat := []
  /-- Running gain tables written while their loop was OPEN, by loop; lost at the next throw (R397, R398). -/
  gainEdits : List (Nat × Bytes) := []
  /-- Timetable entries whose Line value is lost until a frame of them is accepted again (R421, R424). -/
  lostEntries : List Nat := []
  /-- The engine serves a sample until this device time (R409). -/
  busyUntil : Nat := 0
  /-- The values that loops give CAN transmit signals, by signal (R402). -/
  canVals : List (Nat × Int) := []
  /-- The Line words that the Signal die has written, newest only, by 1,024 × entry + word: they cross again when the Crossover comes up
  (R41, R414). -/
  linePending : List (Nat × Word) := []
  /-- The newest payload of each RESERVED entry that has crossed to the Signal die: what its loops and CAN signals take as Line values
  (R48, R50). -/
  lineSeen : List (Nat × Bytes) := []
  /-- Crossover values of the Yard die that have not been sent yet, newest only, by number; none where nothing is delivered (R41,
  R46). -/
  xpending : List (Nat × Option Int) := []
  deriving DecidableEq, Repr

end Sys2Proof.Machine
end

