-- ==== Sys2Proof/Machine/PartsPower.lean ====
section
/-!
DEFINITION. The parts of the state that power and the environment have beside their registers (R790–R820).
-/

namespace Sys2Proof.Machine

/-- Whether the module has power (R791, R795). -/
inductive Power where
  | off | up | asleep
  deriving DecidableEq, Repr

/-- Power. -/
structure PowerPart where
  power : Power := .up
  /-- The instant at which LOGIC_SUPPLY became valid, or at which the module woke. -/
  logicAt : Nat := 0
  /-- The end of the DELAY of a SLEEP that was accepted (R794). -/
  sleepAt : Option Nat := none
  /-- Since when IGN_IN has been low, none while it is high (R796). -/
  ignLowFrom : Option Nat := some 0
  deriving DecidableEq, Repr

end Sys2Proof.Machine
end

