-- ==== Sys2Proof/Machine/RegMap.lean ====
section
/-!
DEFINITION. The register map: every register of the spec's register tables, with the bits, access code and reset
value of each field (R26, R32), the block and die on which it lives (R829), and one named field each for the
operations to use. A bit of an implemented register that no field lists is reserved and reads 0 (R31).
The reset values "strap", "stored", "firmware", "boot" and "wake" of the tables stand here as 0; State.reset and
the power-up operation give such fields their values.
-/

namespace Sys2Proof.Machine

/-- The access codes of R26. -/
inductive Access where
  | RW | RO | WO | W1C | RWL | RWS
  deriving DecidableEq, Repr

/-- One field of a register: lowest bit, width, access code and reset value. -/
structure FieldDesc where
  lo : Nat
  width : Nat
  acc : Access
  reset : Nat
  deriving DecidableEq, Repr

/-- A run of registers of one layout: first address, distance between them, how many, and their fields. -/
structure RegDesc where
  base : Nat
  stride : Nat
  count : Nat
  fields : List FieldDesc
  deriving DecidableEq, Repr

/-- The register blocks of R829. -/
inductive Block where
  | IDR | CLK | PWR | LSW | CLE | MDB | EVR | UPD | LIN | DMA | FUS | SET | GNS | YLD | CST | EVT | CFG
  deriving DecidableEq, Repr

/-- The two dies of R36. -/
inductive Die where
  | signal | yard
  deriving DecidableEq, Repr

/-- One named field of one register: its address, lowest bit and width. -/
structure Fld where
  addr : Nat
  lo : Nat
  width : Nat
  deriving DecidableEq, Repr

namespace RegMap

/-- The registers of block IDR. -/
def mapIDR : List RegDesc := [
  ⟨0x00000, 0x4, 1, [⟨0, 16, .RO, 0x5343⟩, ⟨16, 16, .RO, 0x6401⟩]⟩,  -- IDR_PART
  ⟨0x00004, 0x4, 1, [⟨0, 8, .RO, 2⟩, ⟨8, 8, .RO, 1⟩]⟩,  -- IDR_SIG_REV
  ⟨0x00008, 0x4, 1, [⟨0, 8, .RO, 1⟩, ⟨8, 8, .RO, 1⟩]⟩,  -- IDR_YARD_REV
  ⟨0x0000C, 0x4, 1, [⟨0, 8, .RO, 3⟩, ⟨8, 8, .RO, 1⟩, ⟨16, 8, .RO, 2⟩]⟩,  -- IDR_SIG_FW
  ⟨0x00010, 0x4, 1, [⟨0, 8, .RO, 0⟩, ⟨8, 8, .RO, 3⟩, ⟨16, 8, .RO, 4⟩]⟩,  -- IDR_YARD_FW
  ⟨0x00014, 0x4, 1, [⟨0, 8, .RO, 4⟩, ⟨8, 8, .RO, 1⟩]⟩,  -- IDR_LINE_REV
  ⟨0x00018, 0x4, 1, [⟨0, 8, .RO, 1⟩]⟩,  -- IDR_PKT_REV
  ⟨0x00020, 0x4, 1, [⟨0, 32, .RO, 0⟩]⟩,  -- IDR_UID_LO
  ⟨0x00024, 0x4, 1, [⟨0, 32, .RO, 0⟩]⟩,  -- IDR_UID_HI
  ⟨0x00030, 0x4, 1, [⟨0, 2, .RO, 0⟩, ⟨2, 1, .RO, 0⟩, ⟨8, 6, .RO, 0⟩, ⟨16, 1, .RO, 0⟩, ⟨17, 1, .RO, 0⟩]⟩,  -- IDR_STRAP
  ⟨0x00034, 0x4, 1, [⟨0, 2, .RO, 0⟩, ⟨2, 1, .RO, 0⟩, ⟨8, 6, .RO, 0⟩, ⟨16, 8, .RO, 0⟩]⟩  -- IDR_ROLE
]

/-- The registers of block CLK. -/
def mapCLK : List RegDesc := [
  ⟨0x10000, 0x4, 1, [⟨0, 1, .RWS, 0⟩]⟩,  -- CLK_CFG
  ⟨0x10004, 0x4, 1, [⟨0, 2, .RO, 0⟩, ⟨2, 2, .RO, 0⟩, ⟨4, 1, .RO, 0⟩, ⟨5, 1, .RO, 0⟩]⟩,  -- CLK_STATUS
  ⟨0x10008, 0x4, 1, [⟨0, 16, .RO, 0⟩, ⟨16, 8, .RO, 0⟩]⟩,  -- CLK_JUDGE
  ⟨0x1000C, 0x4, 1, [⟨0, 8, .RO, 0⟩, ⟨8, 8, .RO, 0⟩, ⟨16, 8, .RO, 0⟩, ⟨24, 8, .RO, 0⟩]⟩,  -- CLK_CNT
  ⟨0x10010, 0x4, 1, [⟨0, 2, .RO, 0⟩, ⟨2, 2, .RO, 1⟩, ⟨4, 2, .RO, 1⟩, ⟨6, 2, .RO, 1⟩, ⟨8, 2, .RO, 1⟩, ⟨10, 2, .RO, 0⟩, ⟨12, 2, .RO, 1⟩]⟩,  -- CLK_SRC
  ⟨0x10014, 0x4, 1, [⟨0, 12, .RW, 0xFFF⟩]⟩,  -- CLK_GATE
  ⟨0x10018, 0x4, 1, [⟨0, 24, .RO, 0⟩]⟩,  -- CLK_GATE_STATE
  ⟨0x1001C, 0x4, 1, [⟨0, 1, .W1C, 0⟩, ⟨1, 1, .W1C, 0⟩, ⟨2, 1, .W1C, 0⟩, ⟨3, 1, .W1C, 0⟩, ⟨4, 1, .W1C, 0⟩, ⟨5, 1, .W1C, 0⟩, ⟨6, 1, .W1C, 0⟩]⟩  -- CLK_EVT
]

/-- The registers of block PWR. -/
def mapPWR : List RegDesc := [
  ⟨0x20000, 0x4, 1, [⟨0, 3, .RWS, 7⟩]⟩,  -- PWR_CFG
  ⟨0x20004, 0x4, 1, [⟨0, 3, .RO, 0⟩, ⟨3, 1, .RO, 0⟩, ⟨4, 3, .RO, 0⟩, ⟨8, 3, .RO, 7⟩, ⟨12, 3, .RO, 7⟩]⟩,  -- PWR_LEVEL
  ⟨0x20008, 0x4, 1, [⟨0, 16, .RO, 0⟩, ⟨16, 16, .RO, 0⟩]⟩,  -- PWR_TEMP
  ⟨0x2000C, 0x4, 1, [⟨0, 12, .RO, 0⟩, ⟨16, 12, .RO, 0⟩]⟩,  -- PWR_VCORE
  ⟨0x20010, 0x4, 1, [⟨0, 16, .RO, 0⟩, ⟨16, 3, .RO, 0⟩, ⟨24, 8, .RO, 0⟩]⟩,  -- PWR_CANARY
  ⟨0x20014, 0x4, 1, [⟨0, 1, .W1C, 0⟩, ⟨1, 1, .W1C, 0⟩, ⟨2, 1, .W1C, 0⟩, ⟨3, 1, .W1C, 0⟩, ⟨4, 1, .W1C, 0⟩, ⟨5, 1, .W1C, 0⟩, ⟨6, 1, .W1C, 0⟩]⟩,  -- PWR_EVT
  ⟨0x20020, 0x4, 1, [⟨0, 16, .RO, 0⟩, ⟨16, 1, .RO, 0⟩]⟩,  -- PWR_SUPPLY
  ⟨0x20024, 0x4, 1, [⟨0, 3, .RO, 0⟩, ⟨3, 2, .RO, 0⟩, ⟨5, 1, .W1C, 0⟩, ⟨8, 1, .RWS, 1⟩, ⟨16, 8, .RWS, 0⟩]⟩,  -- PWR_WAKE
  ⟨0x20028, 0x4, 1, [⟨0, 4, .RWS, 0⟩, ⟨4, 2, .RWS, 3⟩, ⟨16, 16, .RWS, 0⟩]⟩,  -- PWR_OUT
  ⟨0x2002C, 0x4, 1, [⟨0, 4, .RO, 0⟩, ⟨4, 2, .RO, 0⟩]⟩  -- PWR_OUT_STAT
]

/-- The registers of block LSW. -/
def mapLSW : List RegDesc := [
  ⟨0x30000, 0x4, 1, [⟨0, 8, .RWS, 0x32⟩]⟩,  -- LSW_CFG
  ⟨0x30004, 0x4, 1, [⟨0, 1, .RO, 0⟩, ⟨1, 1, .RO, 0⟩, ⟨2, 1, .RO, 0⟩, ⟨3, 1, .RO, 0⟩, ⟨4, 1, .RO, 0⟩, ⟨5, 1, .RO, 0⟩, ⟨6, 1, .RO, 0⟩, ⟨8, 8, .RO, 0⟩]⟩,  -- LSW_LIMP
  ⟨0x30008, 0x4, 1, [⟨0, 32, .RO, 0⟩]⟩,  -- LSW_ON
  ⟨0x3000C, 0x4, 1, [⟨0, 32, .RO, 0⟩]⟩,  -- LSW_LATCHED
  ⟨0x30010, 0x4, 1, [⟨0, 32, .RO, 0⟩]⟩,  -- LSW_SIDED
  ⟨0x30014, 0x4, 1, [⟨0, 32, .RO, 0⟩]⟩,  -- LSW_OPEN
  ⟨0x30018, 0x4, 1, [⟨0, 14, .RO, 0⟩, ⟨14, 1, .RO, 0⟩, ⟨15, 1, .RO, 0⟩, ⟨16, 14, .RO, 0⟩, ⟨30, 1, .RO, 0⟩]⟩,  -- LSW_SUPPLY
  ⟨0x3001C, 0x4, 1, [⟨0, 16, .RO, 0⟩, ⟨16, 16, .RO, 0⟩]⟩,  -- LSW_TOTAL
  ⟨0x30020, 0x4, 1, [⟨0, 1, .W1C, 0⟩, ⟨1, 1, .W1C, 0⟩, ⟨2, 1, .W1C, 0⟩, ⟨3, 1, .W1C, 0⟩, ⟨4, 1, .W1C, 0⟩, ⟨5, 1, .W1C, 0⟩, ⟨6, 1, .W1C, 0⟩, ⟨7, 1, .W1C, 0⟩, ⟨8, 1, .W1C, 0⟩, ⟨9, 1, .W1C, 0⟩, ⟨10, 1, .W1C, 0⟩, ⟨11, 1, .W1C, 0⟩]⟩,  -- LSW_EVT
  ⟨0x30024, 0x4, 1, [⟨0, 5, .RO, 0⟩]⟩,  -- LSW_EVT_CH
  ⟨0x30100, 0x20, 8, [⟨0, 11, .RWS, 0x15E⟩, ⟨12, 4, .RWS, 4⟩, ⟨16, 8, .RWS, 0xA⟩, ⟨24, 1, .RWS, 1⟩, ⟨25, 1, .RWS, 0⟩]⟩,  -- LSW_CHc_CFG
  ⟨0x30200, 0x20, 24, [⟨0, 11, .RWS, 0x64⟩, ⟨12, 4, .RWS, 4⟩, ⟨16, 8, .RWS, 0xA⟩, ⟨24, 1, .RWS, 1⟩, ⟨25, 1, .RWS, 0⟩]⟩,  -- LSW_CHc_CFG
  ⟨0x30104, 0x20, 32, [⟨0, 14, .RWS, 0x64⟩, ⟨14, 8, .RWS, 0xA⟩]⟩,  -- LSW_CHc_TIME
  ⟨0x30108, 0x20, 32, [⟨0, 16, .RWS, 0x3E8⟩]⟩,  -- LSW_CHc_PWM
  ⟨0x3010C, 0x20, 32, [⟨0, 2, .RW, 0⟩, ⟨16, 16, .RWL, 0⟩]⟩,  -- LSW_CHc_CMD
  ⟨0x30110, 0x20, 32, [⟨0, 3, .RO, 0⟩, ⟨3, 1, .RO, 0⟩, ⟨4, 1, .RO, 0⟩, ⟨5, 1, .RO, 0⟩, ⟨6, 2, .RO, 0⟩, ⟨8, 1, .RO, 0⟩, ⟨9, 5, .RO, 0⟩]⟩,  -- LSW_CHc_STAT
  ⟨0x30114, 0x20, 32, [⟨0, 32, .RO, 0⟩]⟩,  -- LSW_CHc_CURR
  ⟨0x30118, 0x20, 32, [⟨0, 16, .RO, 0⟩]⟩,  -- LSW_CHc_TJ
  ⟨0x3011C, 0x20, 32, [⟨0, 16, .RO, 0⟩, ⟨16, 16, .RO, 0⟩]⟩  -- LSW_CHc_CNT
]

/-- The registers of block CLE. -/
def mapCLE : List RegDesc := [
  ⟨0x40000, 0x4, 1, [⟨0, 19, .RO, 0⟩, ⟨24, 6, .RO, 0⟩]⟩,  -- CLE_BUDGET
  ⟨0x40004, 0x4, 1, [⟨0, 32, .W1C, 0⟩]⟩,  -- CLE_MISS
  ⟨0x40008, 0x4, 1, [⟨0, 32, .RO, 0⟩]⟩,  -- CLE_LOSS
  ⟨0x4000C, 0x4, 1, [⟨0, 16, .RW, 0xFFFF⟩, ⟨16, 5, .RO, 0⟩]⟩,  -- CLE_SLACK
  ⟨0x40010, 0x4, 1, [⟨0, 1, .W1C, 0⟩, ⟨1, 1, .W1C, 0⟩, ⟨2, 1, .W1C, 0⟩, ⟨3, 1, .W1C, 0⟩, ⟨4, 1, .W1C, 0⟩]⟩,  -- CLE_EVT
  ⟨0x40100, 0x40, 32, [⟨0, 22, .RWS, 0x9C40⟩, ⟨22, 7, .RWS, 0x32⟩, ⟨29, 2, .RWS, 2⟩, ⟨31, 1, .RWS, 0⟩]⟩,  -- CLE_LOOPn_CFG
  ⟨0x40104, 0x40, 32, [⟨0, 22, .RWS, 0⟩]⟩,  -- CLE_LOOPn_PHASE
  ⟨0x40108, 0x40, 32, [⟨0, 4, .RWS, 0⟩, ⟨4, 12, .RWS, 0⟩, ⟨16, 10, .RWS, 0⟩]⟩,  -- CLE_LOOPn_SRC
  ⟨0x4010C, 0x40, 32, [⟨0, 4, .RWS, 0⟩, ⟨4, 12, .RWS, 0⟩, ⟨16, 10, .RWS, 0⟩]⟩,  -- CLE_LOOPn_SP
  ⟨0x40110, 0x40, 32, [⟨0, 4, .RWS, 0⟩, ⟨4, 12, .RWS, 0⟩, ⟨16, 10, .RWS, 0⟩]⟩,  -- CLE_LOOPn_SINK
  ⟨0x40114, 0x40, 32, [⟨0, 32, .RWS, 0⟩]⟩,  -- CLE_LOOPn_SRC_OFF
  ⟨0x40118, 0x40, 32, [⟨0, 32, .RWS, 0x10000⟩]⟩,  -- CLE_LOOPn_SRC_SCALE
  ⟨0x4011C, 0x40, 32, [⟨0, 32, .RWS, 0⟩]⟩,  -- CLE_LOOPn_SP_OFF
  ⟨0x40120, 0x40, 32, [⟨0, 32, .RWS, 0x10000⟩]⟩,  -- CLE_LOOPn_SP_SCALE
  ⟨0x40124, 0x40, 32, [⟨0, 32, .RWS, 0x10000⟩]⟩,  -- CLE_LOOPn_SINK_SCALE
  ⟨0x40128, 0x40, 32, [⟨0, 32, .RWS, 0⟩]⟩,  -- CLE_LOOPn_SINK_OFF
  ⟨0x4012C, 0x40, 32, [⟨0, 14, .RWS, 0x14⟩]⟩,  -- CLE_LOOPn_LOSS
  ⟨0x40130, 0x40, 32, [⟨0, 32, .RWS, 0⟩]⟩,  -- CLE_LOOPn_SAFE
  ⟨0x40134, 0x40, 32, [⟨0, 32, .RWS, 0⟩]⟩,  -- CLE_LOOPn_RAMP
  ⟨0x40138, 0x40, 32, [⟨0, 12, .RWS, 0⟩, ⟨12, 10, .RWS, 0⟩, ⟨22, 1, .RWS, 0⟩]⟩,  -- CLE_LOOPn_PUB
  ⟨0x4013C, 0x40, 32, []⟩,  -- reserved word of loop n
  ⟨0x40A00, 0x4, 64, [⟨0, 4, .RWS, 0⟩, ⟨4, 6, .RWS, 0⟩, ⟨10, 4, .RWS, 0⟩]⟩,  -- CLE_XSEL_v
  ⟨0x41000, 0x20, 32, [⟨0, 2, .RW, 0⟩]⟩,  -- CLE_LOOPn_CTRL
  ⟨0x41004, 0x20, 32, [⟨0, 32, .RW, 0⟩]⟩,  -- CLE_LOOPn_SETPT
  ⟨0x41008, 0x20, 32, [⟨0, 32, .RO, 0⟩]⟩,  -- CLE_LOOPn_RAW
  ⟨0x4100C, 0x20, 32, [⟨0, 32, .RO, 0⟩]⟩,  -- CLE_LOOPn_PV
  ⟨0x41010, 0x20, 32, [⟨0, 32, .RO, 0⟩]⟩,  -- CLE_LOOPn_SPV
  ⟨0x41014, 0x20, 32, [⟨0, 32, .RO, 0⟩]⟩,  -- CLE_LOOPn_OUT
  ⟨0x41018, 0x20, 32, [⟨0, 32, .RO, 0⟩]⟩,  -- CLE_LOOPn_INTEG
  ⟨0x4101C, 0x20, 32, [⟨0, 1, .RO, 0⟩, ⟨1, 1, .RO, 0⟩, ⟨2, 1, .RO, 0⟩, ⟨3, 2, .RO, 0⟩, ⟨16, 16, .RO, 0⟩]⟩  -- CLE_LOOPn_STATUS
]

/-- The registers of block MDB. -/
def mapMDB0 : List RegDesc := [
  ⟨0x50000, 0x100, 3, [⟨0, 3, .RWS, 0⟩, ⟨3, 1, .RWS, 0⟩, ⟨4, 8, .RWS, 0x20⟩, ⟨12, 1, .RWS, 0⟩, ⟨13, 1, .RWS, 1⟩]⟩,  -- MDB_Cn_CFG
  ⟨0x50300, 0x100, 1, [⟨0, 3, .RWS, 4⟩, ⟨3, 1, .RWS, 0⟩, ⟨4, 8, .RWS, 0x20⟩, ⟨12, 1, .RWS, 0⟩, ⟨13, 1, .RWS, 1⟩]⟩,  -- MDB_Cn_CFG
  ⟨0x50004, 0x100, 4, [⟨0, 5, .RWS, 0⟩, ⟨5, 8, .RWS, 0x7E⟩, ⟨13, 7, .RWS, 0x1F⟩, ⟨20, 7, .RWS, 0x1F⟩]⟩,  -- MDB_Cn_NBT
  ⟨0x50008, 0x100, 4, [⟨0, 5, .RWS, 0⟩, ⟨5, 5, .RWS, 0x1C⟩, ⟨10, 4, .RWS, 9⟩, ⟨14, 4, .RWS, 9⟩, ⟨18, 7, .RWS, 0x1E⟩]⟩,  -- MDB_Cn_DBT
  ⟨0x5000C, 0x100, 4, [⟨0, 2, .RO, 0⟩, ⟨2, 1, .RO, 0⟩, ⟨3, 1, .RO, 0⟩, ⟨4, 8, .RO, 0xFE⟩]⟩,  -- MDB_Cn_STATUS
  ⟨0x50010, 0x100, 4, [⟨0, 8, .RO, 0⟩, ⟨8, 8, .RO, 0⟩, ⟨16, 8, .RO, 0⟩, ⟨24, 8, .RO, 0⟩]⟩,  -- MDB_Cn_ERR
  ⟨0x50014, 0x4, 3, [⟨0, 3, .RO, 0⟩, ⟨3, 6, .RO, 0⟩, ⟨9, 8, .RO, 0⟩]⟩,  -- MDB_Cn_TXBk
  ⟨0x50114, 0x4, 3, [⟨0, 3, .RO, 0⟩, ⟨3, 6, .RO, 0⟩, ⟨9, 8, .RO, 0⟩]⟩,  -- MDB_Cn_TXBk
  ⟨0x50214, 0x4, 3, [⟨0, 3, .RO, 0⟩, ⟨3, 6, .RO, 0⟩, ⟨9, 8, .RO, 0⟩]⟩,  -- MDB_Cn_TXBk
  ⟨0x50314, 0x4, 3, [⟨0, 3, .RO, 0⟩, ⟨3, 6, .RO, 0⟩, ⟨9, 8, .RO, 0⟩]⟩,  -- MDB_Cn_TXBk
  ⟨0x50020, 0x100, 4, [⟨0, 16, .RO, 0⟩, ⟨16, 16, .RO, 0⟩]⟩,  -- MDB_Cn_CNT
  ⟨0x50024, 0x100, 4, [⟨0, 8, .RO, 0⟩, ⟨8, 8, .RO, 0⟩, ⟨16, 8, .RO, 0⟩, ⟨24, 8, .RO, 0⟩]⟩,  -- MDB_Cn_DROP
  ⟨0x50040, 0x100, 4, [⟨0, 29, .RO, 0⟩, ⟨29, 1, .RO, 0⟩, ⟨30, 1, .RO, 0⟩, ⟨31, 1, .W1C, 0⟩]⟩,  -- MDB_Cn_HP_ID
  ⟨0x50044, 0x100, 4, [⟨0, 7, .RO, 0⟩, ⟨8, 5, .RO, 0⟩]⟩,  -- MDB_Cn_HP_INFO
  ⟨0x50048, 0x100, 4, [⟨0, 32, .RO, 0⟩]⟩,  -- MDB_Cn_HP_STAMP_LO
  ⟨0x5004C, 0x100, 4, [⟨0, 32, .RO, 0⟩]⟩,  -- MDB_Cn_HP_STAMP_HI
  ⟨0x50080, 0x4, 16, [⟨0, 32, .RO, 0⟩]⟩,  -- MDB_Cn_HP_DATAw
  ⟨0x50180, 0x4, 16, [⟨0, 32, .RO, 0⟩]⟩,  -- MDB_Cn_HP_DATAw
  ⟨0x50280, 0x4, 16, [⟨0, 32, .RO, 0⟩]⟩,  -- MDB_Cn_HP_DATAw
  ⟨0x50380, 0x4, 16, [⟨0, 32, .RO, 0⟩]⟩,  -- MDB_Cn_HP_DATAw
  ⟨0x50F00, 0x4, 1, [⟨0, 1, .W1C, 0⟩, ⟨1, 1, .W1C, 0⟩, ⟨2, 1, .W1C, 0⟩, ⟨3, 1, .W1C, 0⟩, ⟨4, 4, .W1C, 0⟩, ⟨8, 1, .W1C, 0⟩, ⟨9, 1, .W1C, 0⟩, ⟨10, 1, .W1C, 0⟩, ⟨11, 1, .W1C, 0⟩]⟩,  -- MDB_EVT
  ⟨0x50F04, 0x4, 1, [⟨0, 2, .RO, 0⟩]⟩,  -- MDB_EVT_CTL
  ⟨0x50F08, 0x4, 1, [⟨0, 32, .RO, 0⟩]⟩,  -- MDB_RX_STALE
  ⟨0x50F10, 0x4, 1, [⟨0, 32, .RWS, 0⟩]⟩,  -- MDB_NAME_LO
  ⟨0x50F14, 0x4, 1, [⟨0, 32, .RWS, 0⟩]⟩,  -- MDB_NAME_HI
  ⟨0x50F18, 0x4, 1, [⟨0, 8, .RWS, 0x80⟩]⟩,  -- MDB_ADDR
  ⟨0x51000, 0x8, 32, [⟨0, 29, .RWS, 0⟩, ⟨29, 1, .RWS, 0⟩, ⟨30, 2, .RWS, 0⟩]⟩,  -- MDB_Cn_FLTf_ID
  ⟨0x51100, 0x8, 32, [⟨0, 29, .RWS, 0⟩, ⟨29, 1, .RWS, 0⟩, ⟨30, 2, .RWS, 0⟩]⟩,  -- MDB_Cn_FLTf_ID
  ⟨0x51200, 0x8, 32, [⟨0, 29, .RWS, 0⟩, ⟨29, 1, .RWS, 0⟩, ⟨30, 2, .RWS, 0⟩]⟩,  -- MDB_Cn_FLTf_ID
  ⟨0x51300, 0x8, 32, [⟨0, 29, .RWS, 0⟩, ⟨29, 1, .RWS, 0⟩, ⟨30, 2, .RWS, 0⟩]⟩  -- MDB_Cn_FLTf_ID
]

/-- The registers of block MDB, continued. -/
def mapMDB1 : List RegDesc := [
  ⟨0x51004, 0x8, 32, [⟨0, 29, .RWS, 0⟩]⟩,  -- MDB_Cn_FLTf_MASK
  ⟨0x51104, 0x8, 32, [⟨0, 29, .RWS, 0⟩]⟩,  -- MDB_Cn_FLTf_MASK
  ⟨0x51204, 0x8, 32, [⟨0, 29, .RWS, 0⟩]⟩,  -- MDB_Cn_FLTf_MASK
  ⟨0x51304, 0x8, 32, [⟨0, 29, .RWS, 0⟩]⟩,  -- MDB_Cn_FLTf_MASK
  ⟨0x52000, 0x10, 32, [⟨0, 29, .RWS, 0⟩, ⟨29, 1, .RWS, 0⟩, ⟨30, 1, .RWS, 0⟩, ⟨31, 1, .RWS, 0⟩]⟩,  -- MDB_TXm_ID
  ⟨0x52004, 0x10, 32, [⟨0, 2, .RWS, 0⟩, ⟨2, 1, .RWS, 0⟩, ⟨3, 7, .RWS, 0⟩, ⟨10, 14, .RWS, 0⟩]⟩,  -- MDB_TXm_CFG
  ⟨0x52008, 0x10, 32, [⟨0, 14, .RWS, 0⟩]⟩,  -- MDB_TXm_PHASE
  ⟨0x52400, 0x10, 64, [⟨0, 5, .RWS, 0⟩, ⟨5, 10, .RWS, 0⟩, ⟨15, 5, .RWS, 0⟩, ⟨20, 1, .RWS, 0⟩, ⟨21, 1, .RWS, 0⟩, ⟨22, 2, .RWS, 0⟩]⟩,  -- MDB_SIGs_CFG
  ⟨0x52404, 0x10, 64, [⟨0, 12, .RWS, 0⟩, ⟨12, 10, .RWS, 0⟩]⟩,  -- MDB_SIGs_LINE
  ⟨0x52408, 0x10, 64, [⟨0, 32, .RWS, 0x10000⟩]⟩,  -- MDB_SIGs_SCALE
  ⟨0x5240C, 0x10, 64, [⟨0, 32, .RWS, 0⟩]⟩,  -- MDB_SIGs_OFFSET
  ⟨0x52800, 0x10, 32, [⟨0, 29, .RWS, 0⟩, ⟨29, 1, .RWS, 0⟩]⟩,  -- MDB_RXr_ID
  ⟨0x52804, 0x10, 32, [⟨0, 2, .RWS, 0⟩, ⟨2, 1, .RWS, 0⟩, ⟨3, 1, .RWS, 0⟩, ⟨4, 14, .RWS, 0⟩]⟩,  -- MDB_RXr_CFG
  ⟨0x52C00, 0x10, 64, [⟨0, 5, .RWS, 0⟩, ⟨5, 10, .RWS, 0⟩, ⟨15, 5, .RWS, 0⟩, ⟨20, 1, .RWS, 0⟩, ⟨21, 1, .RWS, 0⟩, ⟨23, 1, .RWS, 0⟩]⟩,  -- MDB_RSIGs_CFG
  ⟨0x52C04, 0x10, 64, [⟨0, 12, .RWS, 0⟩, ⟨12, 10, .RWS, 0⟩]⟩,  -- MDB_RSIGs_LINE
  ⟨0x52C08, 0x10, 64, [⟨0, 32, .RWS, 0x10000⟩]⟩,  -- MDB_RSIGs_SCALE
  ⟨0x52C0C, 0x10, 64, [⟨0, 32, .RWS, 0⟩]⟩  -- MDB_RSIGs_OFFSET
]

/-- All registers of block MDB. -/
def mapMDB : List RegDesc := mapMDB0 ++ mapMDB1

/-- The registers of block EVR. -/
def mapEVR : List RegDesc := [
  ⟨0x60000, 0x4, 1, [⟨0, 32, .RO, 0⟩]⟩,  -- EVR_OPSEC
  ⟨0x60004, 0x4, 1, [⟨0, 24, .RO, 0⟩]⟩,  -- EVR_PCYC
  ⟨0x60008, 0x4, 1, [⟨0, 32, .RO, 0⟩]⟩,  -- EVR_HEAD
  ⟨0x6000C, 0x4, 1, [⟨0, 13, .RO, 0⟩, ⟨16, 16, .RO, 0⟩]⟩,  -- EVR_RING
  ⟨0x60010, 0x4, 1, [⟨0, 11, .RO, 0⟩, ⟨16, 1, .RO, 0⟩]⟩,  -- EVR_RETIRE
  ⟨0x60014, 0x4, 1, [⟨0, 8, .RO, 0⟩, ⟨8, 8, .RO, 0⟩, ⟨16, 1, .RO, 0⟩, ⟨17, 1, .RO, 0⟩]⟩,  -- EVR_DEADMAN
  ⟨0x60018, 0x4, 1, [⟨0, 7, .RO, 0⟩, ⟨16, 16, .RO, 0⟩]⟩,  -- EVR_LATCH
  ⟨0x6001C, 0x4, 1, [⟨0, 1, .W1C, 0⟩, ⟨1, 1, .W1C, 0⟩, ⟨2, 1, .W1C, 0⟩, ⟨3, 1, .W1C, 0⟩, ⟨4, 1, .W1C, 0⟩, ⟨5, 1, .W1C, 0⟩, ⟨6, 1, .W1C, 0⟩, ⟨7, 1, .W1C, 0⟩]⟩,  -- EVR_EVT
  ⟨0x60020, 0x4, 1, [⟨0, 32, .RO, 0⟩]⟩  -- EVR_COMMIT
]

/-- The registers of block UPD. -/
def mapUPD : List RegDesc := [
  ⟨0x70000, 0x4, 2, [⟨0, 1, .RO, 0⟩, ⟨1, 2, .RO, 0⟩, ⟨3, 2, .RO, 0⟩, ⟨5, 1, .RO, 0⟩, ⟨8, 3, .RO, 0⟩, ⟨11, 3, .RO, 0⟩]⟩,  -- UPD_SLOT_d
  ⟨0x70008, 0x4, 4, [⟨0, 24, .RO, 0⟩, ⟨24, 8, .RO, 0⟩]⟩,  -- UPD_VER_i
  ⟨0x70018, 0x4, 1, [⟨0, 8, .RO, 0⟩, ⟨8, 8, .RO, 0⟩, ⟨16, 4, .RO, 0⟩]⟩,  -- UPD_SECURITY
  ⟨0x7001C, 0x4, 1, [⟨0, 32, .RO, 0⟩]⟩,  -- UPD_PROGRESS
  ⟨0x70020, 0x4, 1, [⟨0, 3, .RO, 0⟩, ⟨3, 1, .RO, 0⟩, ⟨4, 6, .RO, 0⟩, ⟨16, 8, .RO, 0⟩]⟩,  -- UPD_RUN
  ⟨0x70024, 0x4, 1, [⟨0, 32, .RO, 0⟩]⟩,  -- UPD_RUN_SIG
  ⟨0x70028, 0x4, 1, [⟨0, 32, .RO, 0⟩]⟩,  -- UPD_RUN_YARD
  ⟨0x7002C, 0x4, 1, [⟨0, 1, .W1C, 0⟩, ⟨1, 1, .W1C, 0⟩, ⟨2, 1, .W1C, 0⟩, ⟨3, 1, .W1C, 0⟩, ⟨4, 1, .W1C, 0⟩, ⟨5, 1, .W1C, 0⟩, ⟨6, 1, .W1C, 0⟩, ⟨7, 1, .W1C, 0⟩]⟩  -- UPD_EVT
]

/-- The registers of block LIN. -/
def mapLIN : List RegDesc := [
  ⟨0x80000, 0x4, 1, [⟨0, 16, .RWS, 0xAFC8⟩, ⟨16, 7, .RWS, 0⟩]⟩,  -- LIN_CFG
  ⟨0x80004, 0x4, 1, [⟨0, 1, .RO, 0⟩, ⟨1, 1, .RO, 0⟩, ⟨2, 1, .RO, 0⟩, ⟨3, 1, .RO, 0⟩, ⟨4, 1, .RO, 0⟩, ⟨5, 1, .RO, 0⟩, ⟨6, 1, .RO, 0⟩, ⟨7, 1, .RO, 0⟩, ⟨8, 1, .RO, 0⟩, ⟨9, 3, .RO, 0⟩, ⟨12, 1, .RO, 0⟩, ⟨16, 8, .RO, 0⟩]⟩,  -- LIN_STATUS
  ⟨0x80008, 0x4, 1, [⟨0, 7, .RO, 0x7F⟩, ⟨8, 7, .RO, 0⟩, ⟨16, 6, .RO, 0⟩]⟩,  -- LIN_POS
  ⟨0x8000C, 0x4, 1, [⟨0, 32, .RO, 0⟩]⟩,  -- LIN_CYCLE
  ⟨0x80010, 0x4, 1, [⟨0, 32, .RO, 0⟩]⟩,  -- LIN_TIME_LO
  ⟨0x80014, 0x4, 1, [⟨0, 32, .RO, 0⟩]⟩,  -- LIN_TIME_HI
  ⟨0x80018, 0x4, 1, [⟨0, 16, .RO, 0xFFFF⟩]⟩,  -- LIN_TERR
  ⟨0x80020, 0x4, 1, [⟨0, 16, .RO, 0⟩]⟩,  -- LIN_DELAY_E
  ⟨0x80024, 0x4, 1, [⟨0, 16, .RO, 0⟩]⟩,  -- LIN_DELAY_W
  ⟨0x80028, 0x4, 1, [⟨0, 16, .RO, 0⟩, ⟨16, 16, .RO, 0⟩]⟩,  -- LIN_ERR_E
  ⟨0x8002C, 0x4, 1, [⟨0, 16, .RO, 0⟩, ⟨16, 16, .RO, 0⟩]⟩,  -- LIN_ERR_W
  ⟨0x80030, 0x4, 1, [⟨0, 16, .RO, 0⟩, ⟨16, 8, .RO, 0⟩, ⟨24, 8, .RO, 0⟩]⟩,  -- LIN_DROP
  ⟨0x80038, 0x4, 1, [⟨0, 32, .RO, 0⟩]⟩,  -- LIN_PRESENT_LO
  ⟨0x8003C, 0x4, 1, [⟨0, 32, .RO, 0⟩]⟩,  -- LIN_PRESENT_HI
  ⟨0x80040, 0x4, 1, [⟨0, 1, .W1C, 0⟩, ⟨1, 1, .W1C, 0⟩, ⟨2, 1, .W1C, 0⟩, ⟨3, 1, .W1C, 0⟩, ⟨4, 1, .W1C, 0⟩, ⟨5, 1, .W1C, 0⟩, ⟨6, 1, .W1C, 0⟩, ⟨7, 1, .W1C, 0⟩, ⟨8, 1, .W1C, 0⟩, ⟨9, 1, .W1C, 0⟩, ⟨10, 1, .W1C, 0⟩]⟩  -- LIN_EVT
]

/-- The registers of block DMA. -/
def mapDMA : List RegDesc := [
  ⟨0x90000, 0x4, 1, [⟨0, 16, .RO, 0⟩, ⟨16, 16, .RO, 0x190⟩]⟩,  -- DMA_BUDGET
  ⟨0x90004, 0x4, 1, [⟨0, 16, .RO, 0⟩, ⟨16, 16, .RO, 0⟩]⟩,  -- DMA_ECC
  ⟨0x90008, 0x4, 1, [⟨0, 16, .RO, 0⟩, ⟨16, 16, .RO, 0⟩]⟩,  -- DMA_RETIRED
  ⟨0x9000C, 0x4, 1, [⟨0, 1, .W1C, 0⟩, ⟨1, 1, .W1C, 0⟩, ⟨2, 1, .W1C, 0⟩, ⟨3, 1, .W1C, 0⟩, ⟨4, 1, .W1C, 0⟩]⟩,  -- DMA_EVT
  ⟨0x90100, 0x20, 32, [⟨0, 1, .RWL, 0⟩, ⟨1, 2, .RO, 0⟩]⟩,  -- DMA_CHc_CTRL
  ⟨0x90104, 0x20, 32, [⟨0, 2, .RO, 0⟩, ⟨2, 6, .RO, 0⟩, ⟨8, 4, .RO, 0xF⟩]⟩,  -- DMA_CHc_CFG
  ⟨0x90108, 0x20, 32, [⟨0, 16, .RO, 0⟩, ⟨16, 16, .RO, 0⟩]⟩,  -- DMA_CHc_RING
  ⟨0x9010C, 0x20, 32, [⟨0, 24, .RO, 0⟩, ⟨24, 8, .RO, 0⟩]⟩,  -- DMA_CHc_DONE
  ⟨0x90110, 0x20, 32, [⟨0, 32, .RO, 0⟩]⟩,  -- DMA_CHc_UNDER
  ⟨0x90114, 0x20, 32, [⟨0, 8, .RO, 0⟩, ⟨8, 24, .RO, 0⟩]⟩,  -- DMA_CHc_LAST
  ⟨0x90118, 0x20, 32, [⟨0, 16, .RO, 0⟩]⟩,  -- DMA_CHc_ABANDON
  ⟨0x9011C, 0x20, 32, []⟩,  -- reserved word of channel c
  ⟨0x90800, 0x10, 64, [⟨0, 32, .RO, 0⟩]⟩,  -- DMA_RINGn_BASE_LO
  ⟨0x90804, 0x10, 64, [⟨0, 8, .RO, 0⟩]⟩,  -- DMA_RINGn_BASE_HI
  ⟨0x90808, 0x10, 64, [⟨0, 16, .RO, 0⟩, ⟨16, 16, .RO, 0⟩]⟩,  -- DMA_RINGn_CFG
  ⟨0x9080C, 0x10, 64, [⟨0, 16, .RO, 0⟩, ⟨16, 16, .RO, 0⟩]⟩,  -- DMA_RINGn_IDX
  ⟨0x90C00, 0x10, 4, [⟨0, 1, .RO, 0⟩, ⟨1, 2, .RO, 0⟩, ⟨3, 1, .RO, 0⟩, ⟨4, 5, .RO, 0⟩, ⟨16, 8, .RO, 0⟩, ⟨24, 8, .RO, 0⟩]⟩,  -- DMA_STRs_CFG
  ⟨0x90C04, 0x10, 4, [⟨0, 16, .RO, 0⟩, ⟨16, 16, .RO, 0⟩]⟩,  -- DMA_STRs_PORT
  ⟨0x90C08, 0x10, 4, [⟨0, 32, .RO, 0⟩]⟩,  -- DMA_STRs_UNITS
  ⟨0x90C0C, 0x10, 4, [⟨0, 32, .RO, 0⟩]⟩  -- DMA_STRs_GAPS
]

/-- The registers of block FUS. -/
def mapFUS0 : List RegDesc := [
  ⟨0xA0000, 0x4, 1, [⟨0, 10, .RWS, 0x14D⟩, ⟨10, 4, .RWS, 2⟩, ⟨14, 4, .RWS, 3⟩, ⟨18, 1, .RWS, 0⟩]⟩,  -- FUS_CFG
  ⟨0xA0004, 0x4, 1, [⟨0, 16, .RWS, 0⟩, ⟨16, 16, .RWS, 0⟩]⟩,  -- FUS_GRID
  ⟨0xA0008, 0x4, 1, [⟨0, 16, .RO, 0⟩, ⟨16, 1, .RO, 0⟩, ⟨24, 8, .RO, 0⟩]⟩,  -- FUS_STATUS
  ⟨0xA000C, 0x4, 1, [⟨0, 14, .RO, 0⟩, ⟨16, 14, .RO, 0⟩]⟩,  -- FUS_CELLS
  ⟨0xA0010, 0x4, 1, [⟨0, 1, .W1C, 0⟩, ⟨1, 1, .W1C, 0⟩, ⟨2, 1, .W1C, 0⟩, ⟨3, 1, .W1C, 0⟩, ⟨4, 1, .W1C, 0⟩, ⟨5, 1, .W1C, 0⟩, ⟨6, 1, .W1C, 0⟩, ⟨7, 1, .W1C, 0⟩, ⟨8, 1, .W1C, 0⟩]⟩,  -- FUS_EVT
  ⟨0xA0100, 0x20, 20, [⟨0, 4, .RWS, 0⟩, ⟨4, 4, .RWS, 0⟩, ⟨8, 6, .RWS, 0⟩, ⟨14, 2, .RWS, 0⟩, ⟨16, 1, .RWS, 0⟩, ⟨17, 1, .RWS, 0⟩, ⟨18, 4, .RWS, 0⟩, ⟨22, 4, .RWS, 0⟩]⟩,  -- FUS_STR_CFG
  ⟨0xA0104, 0x20, 20, [⟨0, 8, .RWS, 0⟩, ⟨8, 8, .RWS, 0⟩, ⟨16, 6, .RWS, 0⟩, ⟨22, 7, .RWS, 0⟩]⟩,  -- FUS_STR_WIN
  ⟨0xA0108, 0x20, 20, [⟨0, 12, .RWS, 0⟩, ⟨12, 10, .RWS, 0⟩, ⟨22, 10, .RWS, 0⟩]⟩,  -- FUS_STR_LINE
  ⟨0xA010C, 0x20, 20, [⟨0, 3, .RO, 0⟩, ⟨8, 8, .RO, 0⟩, ⟨16, 8, .RO, 0⟩]⟩,  -- FUS_STR_STATE
  ⟨0xA0110, 0x20, 20, [⟨0, 32, .RO, 0⟩]⟩,  -- FUS_STR_STAMP_LO
  ⟨0xA0114, 0x20, 20, [⟨0, 32, .RO, 0⟩]⟩,  -- FUS_STR_STAMP_HI
  ⟨0xA0118, 0x20, 20, [⟨0, 32, .RO, 0⟩]⟩,  -- FUS_STR_STIME_LO
  ⟨0xA011C, 0x20, 20, [⟨0, 32, .RO, 0⟩]⟩,  -- FUS_STR_STIME_HI
  ⟨0xA0380, 0x4, 1, [⟨0, 16, .RWS, 0xC4E0⟩, ⟨16, 16, .RWS, 0⟩]⟩,  -- FUS_LIDAR_PORT
  ⟨0xA0384, 0x4, 1, [⟨0, 8, .RWS, 0⟩, ⟨8, 8, .RWS, 0⟩, ⟨16, 8, .RWS, 0⟩, ⟨24, 8, .RWS, 0⟩]⟩,  -- FUS_LIDAR_FMT
  ⟨0xA0388, 0x4, 1, [⟨0, 8, .RWS, 0xFF⟩]⟩,  -- FUS_LIDAR_STIME
  ⟨0xA0400, 0x4, 64, [⟨0, 16, .RW, 0⟩, ⟨16, 16, .RW, 0⟩]⟩,  -- FUS_HMAP_n
  ⟨0xA1000, 0x80, 16, [⟨0, 32, .RWS, 0⟩]⟩,  -- FUS_PRJ_TX
  ⟨0xA1004, 0x80, 16, [⟨0, 32, .RWS, 0⟩]⟩,  -- FUS_PRJ_TY
  ⟨0xA1008, 0x80, 16, [⟨0, 32, .RWS, 0⟩]⟩,  -- FUS_PRJ_TZ
  ⟨0xA100C, 0x80, 16, [⟨0, 32, .RWS, 0x40000000⟩]⟩,  -- FUS_PRJ_QW
  ⟨0xA1010, 0x80, 16, [⟨0, 32, .RWS, 0⟩]⟩,  -- FUS_PRJ_QX
  ⟨0xA1014, 0x80, 16, [⟨0, 32, .RWS, 0⟩]⟩,  -- FUS_PRJ_QY
  ⟨0xA1018, 0x80, 16, [⟨0, 32, .RWS, 0⟩]⟩,  -- FUS_PRJ_QZ
  ⟨0xA101C, 0x80, 16, [⟨0, 32, .RWS, 0⟩]⟩,  -- FUS_PRJ_FX
  ⟨0xA1020, 0x80, 16, [⟨0, 32, .RWS, 0⟩]⟩,  -- FUS_PRJ_FY
  ⟨0xA1024, 0x80, 16, [⟨0, 32, .RWS, 0⟩]⟩,  -- FUS_PRJ_CX
  ⟨0xA1028, 0x80, 16, [⟨0, 32, .RWS, 0⟩]⟩,  -- FUS_PRJ_CY
  ⟨0xA102C, 0x80, 16, [⟨0, 32, .RWS, 0⟩]⟩,  -- FUS_PRJ_K1
  ⟨0xA1030, 0x80, 16, [⟨0, 32, .RWS, 0⟩]⟩  -- FUS_PRJ_K2
]

/-- The registers of block FUS, continued. -/
def mapFUS1 : List RegDesc := [
  ⟨0xA1034, 0x80, 16, [⟨0, 32, .RWS, 0⟩]⟩,  -- FUS_PRJ_K3
  ⟨0xA1038, 0x80, 16, [⟨0, 32, .RWS, 0⟩]⟩,  -- FUS_PRJ_P1
  ⟨0xA103C, 0x80, 16, [⟨0, 32, .RWS, 0⟩]⟩,  -- FUS_PRJ_P2
  ⟨0xA1040, 0x80, 16, [⟨0, 16, .RWS, 0⟩, ⟨16, 16, .RWS, 0⟩]⟩,  -- FUS_PRJ_IMG
  ⟨0xA1044, 0x80, 16, [⟨0, 3, .RWS, 0⟩]⟩,  -- FUS_PRJ_FEAT
  ⟨0xA1800, 0x4, 4, [⟨0, 4, .RWS, 0⟩, ⟨4, 4, .RWS, 0⟩]⟩,  -- FUS_TBL_n
  ⟨0xA2000, 0x4, 128, [⟨0, 6, .RWS, 0⟩, ⟨6, 5, .RWS, 0⟩, ⟨11, 1, .RWS, 0⟩, ⟨12, 4, .RWS, 0⟩, ⟨16, 4, .RWS, 0⟩, ⟨20, 4, .RWS, 0⟩]⟩,  -- FUS_SRC_k
  ⟨0xA2200, 0x4, 32, [⟨0, 4, .RWS, 0⟩, ⟨4, 4, .RWS, 0⟩, ⟨8, 4, .RWS, 0⟩, ⟨12, 4, .RWS, 0⟩, ⟨16, 8, .RWS, 0⟩, ⟨24, 1, .RWS, 0⟩]⟩  -- FUS_RULE_r
]

/-- All registers of block FUS. -/
def mapFUS : List RegDesc := mapFUS0 ++ mapFUS1

/-- The registers of block SET. -/
def mapSET : List RegDesc := [
  ⟨0xB0000, 0x4, 1, [⟨0, 9, .RWS, 0x14⟩, ⟨9, 10, .RWS, 0x3C⟩, ⟨19, 4, .RWS, 1⟩, ⟨23, 4, .RWS, 5⟩, ⟨27, 1, .RWS, 0⟩]⟩,  -- SET_CFG
  ⟨0xB0004, 0x4, 1, [⟨0, 6, .RWS, 0⟩, ⟨8, 10, .RWS, 0x64⟩]⟩,  -- SET_POLICY
  ⟨0xB0008, 0x4, 1, [⟨0, 16, .RWS, 0x20⟩, ⟨16, 10, .RWS, 0x32⟩]⟩,  -- SET_TOL
  ⟨0xB000C, 0x4, 1, [⟨0, 16, .RWS, 0x64⟩, ⟨16, 10, .RWS, 0x96⟩]⟩,  -- SET_FLOW
  ⟨0xB0010, 0x4, 1, [⟨0, 12, .RWS, 0⟩, ⟨12, 10, .RWS, 0⟩, ⟨22, 1, .RWS, 0⟩]⟩,  -- SET_HEAD
  ⟨0xB0014, 0x4, 1, [⟨0, 32, .RWS, 0⟩]⟩,  -- SET_HEAD_ON
  ⟨0xB0018, 0x4, 1, [⟨0, 32, .RWS, 0⟩]⟩,  -- SET_HEAD_OFF
  ⟨0xB001C, 0x4, 1, [⟨0, 1, .RW, 0⟩]⟩,  -- SET_CTRL
  ⟨0xB0020, 0x4, 1, [⟨0, 2, .RO, 0⟩, ⟨2, 1, .RO, 0⟩, ⟨3, 1, .RO, 0⟩, ⟨4, 4, .RO, 0⟩, ⟨8, 8, .RO, 0⟩, ⟨16, 8, .RO, 0⟩]⟩,  -- SET_STATUS
  ⟨0xB0024, 0x4, 1, [⟨0, 32, .RO, 0⟩]⟩,  -- SET_EVAL
  ⟨0xB0028, 0x4, 1, [⟨0, 16, .RO, 0⟩, ⟨16, 16, .RO, 0⟩]⟩,  -- SET_COUNT
  ⟨0xB002C, 0x4, 1, [⟨0, 8, .RO, 0⟩, ⟨8, 8, .RO, 0⟩, ⟨16, 8, .RO, 0⟩]⟩,  -- SET_COUNT2
  ⟨0xB0030, 0x4, 1, [⟨0, 1, .W1C, 0⟩, ⟨1, 1, .W1C, 0⟩, ⟨2, 1, .W1C, 0⟩, ⟨3, 1, .W1C, 0⟩, ⟨4, 1, .W1C, 0⟩, ⟨5, 1, .W1C, 0⟩, ⟨6, 1, .W1C, 0⟩, ⟨7, 1, .W1C, 0⟩, ⟨8, 1, .W1C, 0⟩, ⟨9, 1, .W1C, 0⟩, ⟨10, 1, .W1C, 0⟩, ⟨11, 1, .W1C, 0⟩, ⟨12, 1, .W1C, 0⟩]⟩,  -- SET_EVT
  ⟨0xB0100, 0x10, 48, [⟨0, 32, .RO, 0⟩]⟩,  -- SET_FN_TARGET
  ⟨0xB0104, 0x10, 48, [⟨0, 32, .RO, 0⟩]⟩,  -- SET_FN_SENT
  ⟨0xB0108, 0x10, 48, [⟨0, 32, .RO, 0⟩]⟩,  -- SET_FN_START
  ⟨0xB010C, 0x10, 48, [⟨0, 2, .RO, 1⟩, ⟨2, 1, .RO, 0⟩, ⟨3, 1, .RO, 0⟩, ⟨4, 7, .RO, 0⟩, ⟨12, 2, .RO, 0⟩, ⟨14, 2, .RO, 0⟩, ⟨16, 4, .RO, 0⟩]⟩  -- SET_FN_STATE
]

/-- The registers of block GNS. -/
def mapGNS0 : List RegDesc := [
  ⟨0xC0000, 0x4, 1, [⟨0, 1, .RWS, 0⟩, ⟨1, 4, .RWS, 0xF⟩, ⟨5, 2, .RWS, 3⟩, ⟨7, 3, .RWS, 2⟩, ⟨10, 6, .RWS, 0xA⟩, ⟨16, 6, .RWS, 0x1E⟩]⟩,  -- GNS_CFG
  ⟨0xC0004, 0x4, 1, [⟨0, 1, .RWS, 1⟩, ⟨1, 1, .RWS, 1⟩, ⟨8, 10, .RWS, 0⟩]⟩,  -- GNS_ANT_CFG
  ⟨0xC0008, 0x4, 1, [⟨0, 2, .RWS, 1⟩, ⟨2, 2, .RWS, 2⟩, ⟨4, 2, .RWS, 3⟩, ⟨8, 8, .RWS, 0xA⟩, ⟨16, 12, .RWS, 0⟩, ⟨28, 1, .RWS, 0⟩]⟩,  -- GNS_RTK_CFG
  ⟨0xC000C, 0x4, 1, [⟨0, 1, .RWS, 0⟩]⟩,  -- GNS_PPS_CFG
  ⟨0xC0010, 0x4, 1, [⟨0, 32, .RWS, 0⟩]⟩,  -- GNS_ANT_A_X
  ⟨0xC0014, 0x4, 1, [⟨0, 32, .RWS, 0⟩]⟩,  -- GNS_ANT_A_Y
  ⟨0xC0018, 0x4, 1, [⟨0, 32, .RWS, 0⟩]⟩,  -- GNS_ANT_A_Z
  ⟨0xC001C, 0x4, 1, [⟨0, 32, .RWS, 0⟩]⟩,  -- GNS_ANT_B_X
  ⟨0xC0020, 0x4, 1, [⟨0, 32, .RWS, 0⟩]⟩,  -- GNS_ANT_B_Y
  ⟨0xC0024, 0x4, 1, [⟨0, 32, .RWS, 0⟩]⟩,  -- GNS_ANT_B_Z
  ⟨0xC0028, 0x4, 1, [⟨0, 32, .RWS, 0⟩]⟩,  -- GNS_IMU_TX
  ⟨0xC002C, 0x4, 1, [⟨0, 32, .RWS, 0⟩]⟩,  -- GNS_IMU_TY
  ⟨0xC0030, 0x4, 1, [⟨0, 32, .RWS, 0⟩]⟩,  -- GNS_IMU_TZ
  ⟨0xC0034, 0x4, 1, [⟨0, 32, .RWS, 0x40000000⟩]⟩,  -- GNS_IMU_QW
  ⟨0xC0038, 0x4, 1, [⟨0, 32, .RWS, 0⟩]⟩,  -- GNS_IMU_QX
  ⟨0xC003C, 0x4, 1, [⟨0, 32, .RWS, 0⟩]⟩,  -- GNS_IMU_QY
  ⟨0xC0040, 0x4, 1, [⟨0, 32, .RWS, 0⟩]⟩,  -- GNS_IMU_QZ
  ⟨0xC0048, 0x4, 1, [⟨0, 32, .RW, 0⟩]⟩,  -- GNS_PPS_DELAY
  ⟨0xC0080, 0x4, 1, [⟨0, 3, .RO, 0⟩, ⟨3, 1, .RO, 0⟩, ⟨4, 1, .RO, 0⟩, ⟨5, 3, .RO, 0⟩, ⟨8, 1, .RO, 0⟩, ⟨9, 1, .RO, 0⟩, ⟨10, 6, .RO, 0⟩, ⟨16, 8, .RO, 0⟩]⟩,  -- GNS_STATUS
  ⟨0xC0084, 0x4, 1, [⟨0, 32, .RO, 0xFFFFFFFF⟩]⟩,  -- GNS_TERR
  ⟨0xC0088, 0x4, 1, [⟨0, 32, .RO, 0⟩]⟩,  -- GNS_OFFSET
  ⟨0xC008C, 0x4, 1, [⟨0, 32, .RO, 0⟩]⟩,  -- GNS_HOLD
  ⟨0xC0090, 0x4, 1, [⟨0, 32, .RO, 0⟩]⟩,  -- GNS_TOP_LO
  ⟨0xC0094, 0x4, 1, [⟨0, 32, .RO, 0⟩]⟩,  -- GNS_TOP_HI
  ⟨0xC0098, 0x4, 1, [⟨0, 1, .RO, 0⟩, ⟨1, 1, .RO, 0⟩, ⟨2, 1, .RO, 0⟩, ⟨3, 1, .RO, 0⟩, ⟨16, 16, .RO, 0⟩]⟩,  -- GNS_TOP_FLAGS
  ⟨0xC009C, 0x4, 1, [⟨0, 8, .RO, 0⟩, ⟨8, 1, .RO, 0⟩]⟩,  -- GNS_LEAP
  ⟨0xC00A0, 0x4, 1, [⟨0, 32, .RO, 0⟩]⟩,  -- GNS_LAT_LO
  ⟨0xC00A4, 0x4, 1, [⟨0, 32, .RO, 0⟩]⟩,  -- GNS_LAT_HI
  ⟨0xC00A8, 0x4, 1, [⟨0, 32, .RO, 0⟩]⟩,  -- GNS_LON_LO
  ⟨0xC00AC, 0x4, 1, [⟨0, 32, .RO, 0⟩]⟩  -- GNS_LON_HI
]

/-- The registers of block GNS, continued. -/
def mapGNS1 : List RegDesc := [
  ⟨0xC00B0, 0x4, 1, [⟨0, 32, .RO, 0⟩]⟩,  -- GNS_HGT
  ⟨0xC00B4, 0x4, 1, [⟨0, 19, .RO, 0⟩]⟩,  -- GNS_HDG
  ⟨0xC00B8, 0x4, 1, [⟨0, 16, .RO, 0⟩, ⟨16, 16, .RO, 0⟩]⟩,  -- GNS_ATT
  ⟨0xC00BC, 0x4, 1, [⟨0, 16, .RO, 0⟩]⟩,  -- GNS_VEL
  ⟨0xC00C0, 0x4, 1, [⟨0, 8, .RO, 0⟩, ⟨8, 8, .RO, 0⟩, ⟨16, 1, .RO, 0⟩, ⟨17, 1, .RO, 0⟩, ⟨18, 1, .RO, 0⟩, ⟨19, 1, .RO, 0⟩]⟩,  -- GNS_ANT_STAT
  ⟨0xC00C4, 0x4, 1, [⟨0, 12, .RO, 0⟩, ⟨12, 2, .RO, 0⟩, ⟨16, 16, .RO, 0xFFFF⟩]⟩,  -- GNS_CORR
  ⟨0xC00C8, 0x4, 1, [⟨0, 16, .RO, 0⟩, ⟨16, 8, .RO, 0⟩, ⟨24, 8, .RO, 0⟩]⟩,  -- GNS_RTCM_CNT
  ⟨0xC0100, 0x4, 1, [⟨0, 12, .RWS, 0⟩, ⟨12, 10, .RWS, 0⟩, ⟨22, 6, .RWS, 0⟩, ⟨31, 1, .RWS, 0⟩]⟩,  -- GNS_STEER_SP
  ⟨0xC0104, 0x4, 1, [⟨0, 12, .RWS, 0⟩, ⟨12, 10, .RWS, 0⟩]⟩,  -- GNS_STEER_FB
  ⟨0xC0108, 0x4, 1, [⟨0, 12, .RWS, 0⟩, ⟨12, 10, .RWS, 0⟩, ⟨22, 8, .RWS, 0xB⟩]⟩,  -- GNS_STEER_ST
  ⟨0xC010C, 0x4, 1, [⟨0, 12, .RWS, 0⟩, ⟨12, 10, .RWS, 0⟩, ⟨22, 1, .RWS, 0⟩, ⟨23, 5, .RWS, 2⟩]⟩,  -- GNS_STEER_OVR
  ⟨0xC0110, 0x4, 1, [⟨0, 32, .RWS, 0⟩]⟩,  -- GNS_STEER_OVR_THR
  ⟨0xC0114, 0x4, 1, [⟨0, 4, .RWS, 0⟩, ⟨4, 4, .RWS, 0⟩, ⟨8, 1, .RWS, 0⟩]⟩,  -- GNS_STEER_EN
  ⟨0xC0118, 0x4, 1, [⟨0, 14, .RWS, 0⟩, ⟨14, 1, .RWS, 0⟩, ⟨16, 16, .RWS, 0⟩]⟩,  -- GNS_STEER_GEOM
  ⟨0xC011C, 0x4, 1, [⟨0, 13, .RWS, 0xDAC⟩, ⟨16, 16, .RWS, 0xBB8⟩]⟩,  -- GNS_STEER_LIM
  ⟨0xC0120, 0x4, 1, [⟨0, 32, .RWS, 0x147B⟩]⟩,  -- GNS_STEER_KX
  ⟨0xC0124, 0x4, 1, [⟨0, 32, .RWS, 0x6666⟩]⟩,  -- GNS_STEER_KH
  ⟨0xC0128, 0x4, 1, [⟨0, 10, .RWS, 0x64⟩, ⟨10, 10, .RWS, 0xC8⟩, ⟨20, 6, .RWS, 0x1E⟩, ⟨26, 3, .RWS, 4⟩]⟩,  -- GNS_STEER_ENG
  ⟨0xC012C, 0x4, 1, [⟨0, 8, .RWS, 5⟩, ⟨8, 10, .RWS, 0xFA⟩, ⟨18, 7, .RWS, 0x1E⟩]⟩,  -- GNS_STEER_SPD
  ⟨0xC0130, 0x4, 1, [⟨0, 4, .RWS, 0⟩, ⟨4, 8, .RWS, 0⟩, ⟨12, 6, .RWS, 0⟩, ⟨18, 6, .RWS, 0x3F⟩, ⟨24, 7, .RWS, 8⟩]⟩,  -- GNS_EDGE
  ⟨0xC0134, 0x4, 1, [⟨0, 7, .RWS, 0x14⟩]⟩,  -- GNS_EDGE2
  ⟨0xC0140, 0x4, 1, [⟨0, 1, .RO, 0⟩, ⟨1, 1, .RO, 0⟩, ⟨2, 1, .RO, 0⟩, ⟨3, 1, .RO, 0⟩, ⟨4, 4, .RO, 0⟩, ⟨8, 8, .RO, 0⟩, ⟨16, 16, .RO, 0⟩]⟩,  -- GNS_STEER_STATUS
  ⟨0xC0144, 0x4, 1, [⟨0, 32, .RO, 0⟩]⟩,  -- GNS_STEER_XTE
  ⟨0xC0148, 0x4, 1, [⟨0, 32, .RO, 0⟩]⟩,  -- GNS_STEER_HE
  ⟨0xC014C, 0x4, 1, [⟨0, 32, .RO, 0⟩]⟩,  -- GNS_STEER_DELTA
  ⟨0xC0150, 0x4, 1, [⟨0, 32, .RO, 0⟩]⟩,  -- GNS_GUIDE_ID
  ⟨0xC0154, 0x4, 1, [⟨0, 1, .W1C, 0⟩, ⟨1, 1, .W1C, 0⟩, ⟨2, 1, .W1C, 0⟩, ⟨3, 1, .W1C, 0⟩, ⟨4, 1, .W1C, 0⟩, ⟨5, 1, .W1C, 0⟩, ⟨6, 1, .W1C, 0⟩, ⟨7, 1, .W1C, 0⟩, ⟨8, 1, .W1C, 0⟩, ⟨9, 1, .W1C, 0⟩, ⟨10, 1, .W1C, 0⟩]⟩,  -- GNS_EVT
  ⟨0xC1000, 0x10, 128, [⟨0, 4, .RO, 0⟩, ⟨4, 8, .RO, 0⟩, ⟨12, 1, .RO, 0⟩, ⟨13, 3, .RO, 0⟩, ⟨16, 8, .RO, 0⟩, ⟨24, 1, .RO, 0⟩]⟩,  -- GNS_CHn_SIG
  ⟨0xC1004, 0x10, 128, [⟨0, 32, .RO, 0⟩]⟩,  -- GNS_CHn_DOP
  ⟨0xC1008, 0x10, 128, [⟨0, 32, .RO, 0⟩]⟩,  -- GNS_CHn_LOCK
  ⟨0xC100C, 0x10, 128, []⟩  -- reserved word of tracking channel n
]

/-- All registers of block GNS. -/
def mapGNS : List RegDesc := mapGNS0 ++ mapGNS1

/-- The registers of block YLD. -/
def mapYLD : List RegDesc := [
  ⟨0xD0000, 0x4, 1, [⟨0, 1, .RWS, 0⟩, ⟨1, 3, .RWS, 3⟩, ⟨4, 1, .RWS, 1⟩, ⟨5, 5, .RWS, 1⟩]⟩,  -- YLD_CFG
  ⟨0xD0004, 0x4, 1, [⟨0, 12, .RWS, 0⟩, ⟨12, 10, .RWS, 0⟩]⟩,  -- YLD_FLOW
  ⟨0xD0008, 0x4, 1, [⟨0, 12, .RWS, 0⟩, ⟨12, 10, .RWS, 0⟩, ⟨22, 1, .RWS, 0⟩]⟩,  -- YLD_MOIST
  ⟨0xD000C, 0x4, 1, [⟨0, 12, .RWS, 0⟩, ⟨12, 10, .RWS, 0⟩]⟩,  -- YLD_SECT
  ⟨0xD0010, 0x4, 1, [⟨0, 9, .RWS, 0x78⟩, ⟨16, 9, .RWS, 0x8C⟩]⟩,  -- YLD_DELAY
  ⟨0xD0014, 0x4, 1, [⟨0, 16, .RWS, 0x4000⟩, ⟨16, 16, .RWS, 0⟩]⟩,  -- YLD_CAL
  ⟨0xD0040, 0x4, 16, [⟨0, 16, .RWS, 0⟩, ⟨16, 16, .RWS, 0⟩]⟩,  -- YLD_SEC_s
  ⟨0xD0080, 0x4, 1, [⟨0, 1, .RO, 0⟩, ⟨1, 1, .RO, 0⟩, ⟨16, 8, .RO, 0⟩]⟩,  -- YLD_STATUS
  ⟨0xD0084, 0x4, 1, [⟨0, 32, .RO, 0⟩]⟩,  -- YLD_FIELD_ID
  ⟨0xD0088, 0x4, 1, [⟨0, 32, .RO, 0⟩]⟩,  -- YLD_MASS
  ⟨0xD008C, 0x4, 1, [⟨0, 32, .RO, 0⟩]⟩,  -- YLD_UNMAPPED
  ⟨0xD0090, 0x4, 1, [⟨0, 32, .RO, 0⟩]⟩,  -- YLD_AREA
  ⟨0xD0094, 0x4, 1, [⟨0, 16, .RO, 0⟩, ⟨16, 16, .RO, 0⟩]⟩,  -- YLD_NOW
  ⟨0xD0098, 0x4, 1, [⟨0, 16, .RO, 0⟩, ⟨16, 16, .RO, 0⟩]⟩,  -- YLD_TILES
  ⟨0xD009C, 0x4, 1, [⟨0, 1, .W1C, 0⟩, ⟨1, 1, .W1C, 0⟩, ⟨2, 1, .W1C, 0⟩, ⟨3, 1, .W1C, 0⟩]⟩  -- YLD_EVT
]

/-- The registers of block CST. -/
def mapCST : List RegDesc := [
  ⟨0xE0000, 0x4, 1, [⟨0, 1, .RWS, 0⟩, ⟨1, 3, .RWS, 0⟩, ⟨4, 1, .RWS, 0⟩, ⟨5, 1, .RWS, 1⟩, ⟨16, 16, .RWS, 0xC0A9⟩]⟩,  -- CST_CFG
  ⟨0xE0004, 0x4, 1, [⟨0, 32, .RWS, 0⟩]⟩,  -- CST_PEER
  ⟨0xE0008, 0x4, 1, [⟨0, 32, .RWS, 0⟩]⟩,  -- CST_MACHINE_LO
  ⟨0xE000C, 0x4, 1, [⟨0, 32, .RWS, 0⟩]⟩,  -- CST_MACHINE_HI
  ⟨0xE0010, 0x4, 1, [⟨0, 12, .RWS, 0⟩, ⟨12, 10, .RWS, 0⟩, ⟨22, 1, .RWS, 0⟩, ⟨24, 8, .RWS, 0xFF⟩]⟩,  -- CST_TANK
  ⟨0xE0014, 0x4, 1, [⟨0, 12, .RWS, 0⟩, ⟨12, 10, .RWS, 0⟩, ⟨22, 1, .RWS, 0⟩]⟩,  -- CST_RDV_OUT
  ⟨0xE0018, 0x4, 1, [⟨0, 16, .RWS, 0⟩, ⟨16, 16, .RWS, 0⟩]⟩,  -- CST_SPOUT
  ⟨0xE0040, 0x4, 1, [⟨0, 2, .RO, 0⟩, ⟨8, 5, .RO, 0⟩, ⟨16, 8, .RO, 0⟩, ⟨24, 6, .RO, 0⟩]⟩,  -- CST_STATUS
  ⟨0xE0044, 0x4, 1, [⟨0, 32, .RO, 0⟩]⟩,  -- CST_CONSIST
  ⟨0xE0048, 0x4, 1, [⟨0, 32, .RO, 0⟩]⟩,  -- CST_HEARD
  ⟨0xE004C, 0x4, 1, [⟨0, 2, .RO, 0⟩, ⟨2, 1, .RO, 0⟩, ⟨8, 8, .RO, 0xFF⟩, ⟨16, 8, .RO, 0⟩]⟩,  -- CST_RDV
  ⟨0xE0050, 0x4, 1, [⟨0, 8, .RO, 0⟩, ⟨8, 8, .RO, 0⟩, ⟨16, 8, .RO, 0⟩, ⟨24, 8, .RO, 0⟩]⟩,  -- CST_CNT
  ⟨0xE0054, 0x4, 1, [⟨0, 1, .W1C, 0⟩, ⟨1, 1, .W1C, 0⟩, ⟨2, 1, .W1C, 0⟩, ⟨3, 1, .W1C, 0⟩, ⟨4, 1, .W1C, 0⟩]⟩  -- CST_EVT
]

/-- The registers of block EVT. -/
def mapEVT : List RegDesc := [
  ⟨0xF0000, 0x4, 4, [⟨0, 32, .RW, 0xFFFFFFFF⟩]⟩,  -- EVT_MASKn
  ⟨0xF0100, 0x4, 4, [⟨0, 32, .RO, 0⟩]⟩,  -- EVT_SUBs_w
  ⟨0xF0120, 0x4, 4, [⟨0, 32, .RO, 0⟩]⟩,  -- EVT_SUBs_w
  ⟨0xF0140, 0x4, 4, [⟨0, 32, .RO, 0⟩]⟩,  -- EVT_SUBs_w
  ⟨0xF0160, 0x4, 4, [⟨0, 32, .RO, 0⟩]⟩,  -- EVT_SUBs_w
  ⟨0xF0180, 0x4, 4, [⟨0, 32, .RO, 0⟩]⟩,  -- EVT_SUBs_w
  ⟨0xF01A0, 0x4, 4, [⟨0, 32, .RO, 0⟩]⟩,  -- EVT_SUBs_w
  ⟨0xF01C0, 0x4, 4, [⟨0, 32, .RO, 0⟩]⟩,  -- EVT_SUBs_w
  ⟨0xF01E0, 0x4, 4, [⟨0, 32, .RO, 0⟩]⟩,  -- EVT_SUBs_w
  ⟨0xF0200, 0x4, 4, [⟨0, 32, .RO, 0⟩]⟩,  -- EVT_SUBs_w
  ⟨0xF0220, 0x4, 4, [⟨0, 32, .RO, 0⟩]⟩,  -- EVT_SUBs_w
  ⟨0xF0240, 0x4, 4, [⟨0, 32, .RO, 0⟩]⟩,  -- EVT_SUBs_w
  ⟨0xF0260, 0x4, 4, [⟨0, 32, .RO, 0⟩]⟩,  -- EVT_SUBs_w
  ⟨0xF0280, 0x4, 4, [⟨0, 32, .RO, 0⟩]⟩,  -- EVT_SUBs_w
  ⟨0xF02A0, 0x4, 4, [⟨0, 32, .RO, 0⟩]⟩,  -- EVT_SUBs_w
  ⟨0xF02C0, 0x4, 4, [⟨0, 32, .RO, 0⟩]⟩,  -- EVT_SUBs_w
  ⟨0xF02E0, 0x4, 4, [⟨0, 32, .RO, 0⟩]⟩,  -- EVT_SUBs_w
  ⟨0xF0110, 0x20, 16, [⟨0, 8, .RO, 0⟩, ⟨16, 16, .RO, 0⟩]⟩,  -- EVT_QUEUEs
  ⟨0xF0114, 0x20, 16, [⟨0, 32, .RO, 0⟩]⟩  -- EVT_SEQs
]

/-- The registers of block CFG. -/
def mapCFG : List RegDesc := [
  ⟨0x100000, 0x4, 1, [⟨0, 2, .RO, 0⟩, ⟨2, 1, .RO, 0⟩, ⟨3, 1, .RO, 0⟩, ⟨16, 16, .RO, 0⟩]⟩,  -- CFG_STATE
  ⟨0x100004, 0x4, 1, [⟨0, 32, .RO, 0⟩]⟩,  -- CFG_RUN_CRC
  ⟨0x100008, 0x4, 1, [⟨0, 32, .RO, 0⟩]⟩,  -- CFG_SIDING_CRC
  ⟨0x10000C, 0x4, 1, [⟨0, 32, .RO, 0⟩]⟩,  -- CFG_PART_CRC
  ⟨0x100010, 0x4, 1, [⟨0, 32, .RO, 0⟩]⟩,  -- CFG_THROW_CYC
  ⟨0x100014, 0x4, 1, [⟨0, 16, .RO, 0⟩, ⟨16, 8, .RO, 0⟩, ⟨24, 8, .RO, 0⟩]⟩,  -- CFG_COUNT
  ⟨0x100018, 0x4, 1, [⟨0, 8, .RO, 0⟩, ⟨8, 8, .RO, 0⟩, ⟨16, 8, .RO, 0⟩]⟩,  -- CFG_FMT
  ⟨0x10001C, 0x4, 1, [⟨0, 8, .RW, 8⟩]⟩,  -- CFG_LEAD
  ⟨0x100020, 0x4, 1, [⟨0, 32, .RO, 0⟩]⟩,  -- CFG_MISMATCH_LO
  ⟨0x100024, 0x4, 1, [⟨0, 32, .RO, 0⟩]⟩,  -- CFG_MISMATCH_HI
  ⟨0x100028, 0x4, 1, [⟨0, 1, .W1C, 0⟩, ⟨1, 1, .W1C, 0⟩, ⟨2, 1, .W1C, 0⟩, ⟨3, 1, .W1C, 0⟩, ⟨4, 1, .W1C, 0⟩, ⟨5, 1, .W1C, 0⟩, ⟨6, 1, .W1C, 0⟩]⟩,  -- CFG_EVT
  ⟨0x10002C, 0x4, 1, [⟨0, 4, .RO, 0⟩, ⟨4, 6, .RO, 0⟩, ⟨16, 8, .RO, 0⟩, ⟨24, 4, .RO, 0⟩]⟩  -- CFG_ORDER
]

end RegMap

/-- The block that holds an address, by R829. -/
def blockOf (a : Nat) : Option Block :=
  if 0x0 ≤ a ∧ a ≤ 0x3F then some .IDR
  else if 0x10000 ≤ a ∧ a ≤ 0x1001F then some .CLK
  else if 0x20000 ≤ a ∧ a ≤ 0x2002F then some .PWR
  else if 0x30000 ≤ a ∧ a ≤ 0x304FF then some .LSW
  else if 0x40000 ≤ a ∧ a ≤ 0x4FFFF then some .CLE
  else if 0x50000 ≤ a ∧ a ≤ 0x52FFF then some .MDB
  else if 0x60000 ≤ a ∧ a ≤ 0x60023 then some .EVR
  else if 0x70000 ≤ a ∧ a ≤ 0x7002F then some .UPD
  else if 0x80000 ≤ a ∧ a ≤ 0x80043 then some .LIN
  else if 0x90000 ≤ a ∧ a ≤ 0x90C3F then some .DMA
  else if 0xA0000 ≤ a ∧ a ≤ 0xA227F then some .FUS
  else if 0xB0000 ≤ a ∧ a ≤ 0xB03FF then some .SET
  else if 0xC0000 ≤ a ∧ a ≤ 0xC17FF then some .GNS
  else if 0xD0000 ≤ a ∧ a ≤ 0xD009F then some .YLD
  else if 0xE0000 ≤ a ∧ a ≤ 0xE0057 then some .CST
  else if 0xF0000 ≤ a ∧ a ≤ 0xF02FF then some .EVT
  else if 0x100000 ≤ a ∧ a ≤ 0x10002F then some .CFG
  else none

/-- The registers of a block. -/
def blockMap : Block → List RegDesc
  | .IDR => RegMap.mapIDR
  | .CLK => RegMap.mapCLK
  | .PWR => RegMap.mapPWR
  | .LSW => RegMap.mapLSW
  | .CLE => RegMap.mapCLE
  | .MDB => RegMap.mapMDB
  | .EVR => RegMap.mapEVR
  | .UPD => RegMap.mapUPD
  | .LIN => RegMap.mapLIN
  | .DMA => RegMap.mapDMA
  | .FUS => RegMap.mapFUS
  | .SET => RegMap.mapSET
  | .GNS => RegMap.mapGNS
  | .YLD => RegMap.mapYLD
  | .CST => RegMap.mapCST
  | .EVT => RegMap.mapEVT
  | .CFG => RegMap.mapCFG

/-- The die on which a block lives (R829). -/
def blockDie : Block → Die
  | .IDR | .CLK | .PWR | .LSW | .CLE | .MDB | .EVR | .UPD | .CFG => .signal
  | .LIN | .DMA | .FUS | .SET | .GNS | .YLD | .CST | .EVT => .yard

/-- The description covers the address. -/
def RegDesc.covers (d : RegDesc) (a : Nat) : Bool :=
  decide (d.base ≤ a) && decide (a < d.base + d.stride * d.count) && (a - d.base) % d.stride == 0

/-- The description of the register at an address; none where no register is implemented. -/
def regDesc (a : Nat) : Option RegDesc :=
  match blockOf a with
  | none => none
  | some b => (blockMap b).find? (fun d => d.covers a)

/-- The reset value that a list of fields gives a register. -/
def fieldsReset : List FieldDesc → Nat
  | [] => 0
  | f :: r => f.reset * 2 ^ f.lo + fieldsReset r

/-- The reset value of the register at an address (R32). -/
def regReset (a : Nat) : Nat :=
  match regDesc a with
  | none => 0
  | some d => fieldsReset d.fields

/-- The bits of a register whose access code satisfies p. -/
def fieldsMask (p : Access → Bool) : List FieldDesc → Nat
  | [] => 0
  | f :: r => (if p f.acc then (2 ^ f.width - 1) * 2 ^ f.lo else 0) + fieldsMask p r

/-- The bits of the register at an address whose access code satisfies p. -/
def regMask (p : Access → Bool) (a : Nat) : Nat :=
  match regDesc a with
  | none => 0
  | some d => fieldsMask p d.fields

/-! Register addresses. -/
namespace Reg

def IDR_PART : Nat := 0x00000
def IDR_SIG_REV : Nat := 0x00004
def IDR_YARD_REV : Nat := 0x00008
def IDR_SIG_FW : Nat := 0x0000C
def IDR_YARD_FW : Nat := 0x00010
def IDR_LINE_REV : Nat := 0x00014
def IDR_PKT_REV : Nat := 0x00018
def IDR_UID_LO : Nat := 0x00020
def IDR_UID_HI : Nat := 0x00024
def IDR_STRAP : Nat := 0x00030
def IDR_ROLE : Nat := 0x00034
def CLK_CFG : Nat := 0x10000
def CLK_STATUS : Nat := 0x10004
def CLK_JUDGE : Nat := 0x10008
def CLK_CNT : Nat := 0x1000C
def CLK_SRC : Nat := 0x10010
def CLK_GATE : Nat := 0x10014
def CLK_GATE_STATE : Nat := 0x10018
def CLK_EVT : Nat := 0x1001C
def PWR_CFG : Nat := 0x20000
def PWR_LEVEL : Nat := 0x20004
def PWR_TEMP : Nat := 0x20008
def PWR_VCORE : Nat := 0x2000C
def PWR_CANARY : Nat := 0x20010
def PWR_EVT : Nat := 0x20014
def PWR_SUPPLY : Nat := 0x20020
def PWR_WAKE : Nat := 0x20024
def PWR_OUT : Nat := 0x20028
def PWR_OUT_STAT : Nat := 0x2002C
def LSW_CFG : Nat := 0x30000
def LSW_LIMP : Nat := 0x30004
def LSW_ON : Nat := 0x30008
def LSW_LATCHED : Nat := 0x3000C
def LSW_SIDED : Nat := 0x30010
def LSW_OPEN : Nat := 0x30014
def LSW_SUPPLY : Nat := 0x30018
def LSW_TOTAL : Nat := 0x3001C
def LSW_EVT : Nat := 0x30020
def LSW_EVT_CH : Nat := 0x30024
def LSW_CH_CFG (c : Nat) : Nat := 0x30100 + 0x20 * c
def LSW_CH_TIME (c : Nat) : Nat := 0x30104 + 0x20 * c
def LSW_CH_PWM (c : Nat) : Nat := 0x30108 + 0x20 * c
def LSW_CH_CMD (c : Nat) : Nat := 0x3010C + 0x20 * c
def LSW_CH_STAT (c : Nat) : Nat := 0x30110 + 0x20 * c
def LSW_CH_CURR (c : Nat) : Nat := 0x30114 + 0x20 * c
def LSW_CH_TJ (c : Nat) : Nat := 0x30118 + 0x20 * c
def LSW_CH_CNT (c : Nat) : Nat := 0x3011C + 0x20 * c
def CLE_BUDGET : Nat := 0x40000
def CLE_MISS : Nat := 0x40004
def CLE_LOSS : Nat := 0x40008
def CLE_SLACK : Nat := 0x4000C
def CLE_EVT : Nat := 0x40010
def CLE_LOOP_CFG (n : Nat) : Nat := 0x40100 + 0x40 * n
def CLE_LOOP_PHASE (n : Nat) : Nat := 0x40104 + 0x40 * n
def CLE_LOOP_SRC (n : Nat) : Nat := 0x40108 + 0x40 * n
def CLE_LOOP_SP (n : Nat) : Nat := 0x4010C + 0x40 * n
def CLE_LOOP_SINK (n : Nat) : Nat := 0x40110 + 0x40 * n
def CLE_LOOP_SRC_OFF (n : Nat) : Nat := 0x40114 + 0x40 * n
def CLE_LOOP_SRC_SCALE (n : Nat) : Nat := 0x40118 + 0x40 * n
def CLE_LOOP_SP_OFF (n : Nat) : Nat := 0x4011C + 0x40 * n
def CLE_LOOP_SP_SCALE (n : Nat) : Nat := 0x40120 + 0x40 * n
def CLE_LOOP_SINK_SCALE (n : Nat) : Nat := 0x40124 + 0x40 * n
def CLE_LOOP_SINK_OFF (n : Nat) : Nat := 0x40128 + 0x40 * n
def CLE_LOOP_LOSS (n : Nat) : Nat := 0x4012C + 0x40 * n
def CLE_LOOP_SAFE (n : Nat) : Nat := 0x40130 + 0x40 * n
def CLE_LOOP_RAMP (n : Nat) : Nat := 0x40134 + 0x40 * n
def CLE_LOOP_PUB (n : Nat) : Nat := 0x40138 + 0x40 * n
def CLE_XSEL (v : Nat) : Nat := 0x40A00 + 0x4 * v
def CLE_LOOP_CTRL (n : Nat) : Nat := 0x41000 + 0x20 * n
def CLE_LOOP_SETPT (n : Nat) : Nat := 0x41004 + 0x20 * n
def CLE_LOOP_RAW (n : Nat) : Nat := 0x41008 + 0x20 * n
def CLE_LOOP_PV (n : Nat) : Nat := 0x4100C + 0x20 * n
def CLE_LOOP_SPV (n : Nat) : Nat := 0x41010 + 0x20 * n
def CLE_LOOP_OUT (n : Nat) : Nat := 0x41014 + 0x20 * n
def CLE_LOOP_INTEG (n : Nat) : Nat := 0x41018 + 0x20 * n
def CLE_LOOP_STATUS (n : Nat) : Nat := 0x4101C + 0x20 * n
def MDB_C_CFG (n : Nat) : Nat := 0x50000 + 0x100 * n
def MDB_C_NBT (n : Nat) : Nat := 0x50004 + 0x100 * n
def MDB_C_DBT (n : Nat) : Nat := 0x50008 + 0x100 * n
def MDB_C_STATUS (n : Nat) : Nat := 0x5000C + 0x100 * n
def MDB_C_ERR (n : Nat) : Nat := 0x50010 + 0x100 * n
def MDB_C_TXB (n : Nat) (k : Nat) : Nat := 0x50014 + 0x100 * n + 0x4 * k
def MDB_C_CNT (n : Nat) : Nat := 0x50020 + 0x100 * n
def MDB_C_DROP (n : Nat) : Nat := 0x50024 + 0x100 * n
def MDB_C_HP_ID (n : Nat) : Nat := 0x50040 + 0x100 * n
def MDB_C_HP_INFO (n : Nat) : Nat := 0x50044 + 0x100 * n
def MDB_C_HP_STAMP_LO (n : Nat) : Nat := 0x50048 + 0x100 * n
def MDB_C_HP_STAMP_HI (n : Nat) : Nat := 0x5004C + 0x100 * n
def MDB_C_HP_DATA (n : Nat) (w : Nat) : Nat := 0x50080 + 0x100 * n + 0x4 * w
def MDB_EVT : Nat := 0x50F00
def MDB_EVT_CTL : Nat := 0x50F04
def MDB_RX_STALE : Nat := 0x50F08
def MDB_NAME_LO : Nat := 0x50F10
def MDB_NAME_HI : Nat := 0x50F14
def MDB_ADDR : Nat := 0x50F18
def MDB_C_FLT_ID (n : Nat) (f : Nat) : Nat := 0x51000 + 0x100 * n + 0x8 * f
def MDB_C_FLT_MASK (n : Nat) (f : Nat) : Nat := 0x51004 + 0x100 * n + 0x8 * f
def MDB_TX_ID (m : Nat) : Nat := 0x52000 + 0x10 * m
def MDB_TX_CFG (m : Nat) : Nat := 0x52004 + 0x10 * m
def MDB_TX_PHASE (m : Nat) : Nat := 0x52008 + 0x10 * m
def MDB_SIG_CFG (s : Nat) : Nat := 0x52400 + 0x10 * s
def MDB_SIG_LINE (s : Nat) : Nat := 0x52404 + 0x10 * s
def MDB_SIG_SCALE (s : Nat) : Nat := 0x52408 + 0x10 * s
def MDB_SIG_OFFSET (s : Nat) : Nat := 0x5240C + 0x10 * s
def MDB_RX_ID (r : Nat) : Nat := 0x52800 + 0x10 * r
def MDB_RX_CFG (r : Nat) : Nat := 0x52804 + 0x10 * r
def MDB_RSIG_CFG (s : Nat) : Nat := 0x52C00 + 0x10 * s
def MDB_RSIG_LINE (s : Nat) : Nat := 0x52C04 + 0x10 * s
def MDB_RSIG_SCALE (s : Nat) : Nat := 0x52C08 + 0x10 * s
def MDB_RSIG_OFFSET (s : Nat) : Nat := 0x52C0C + 0x10 * s
def EVR_OPSEC : Nat := 0x60000
def EVR_PCYC : Nat := 0x60004
def EVR_HEAD : Nat := 0x60008
def EVR_RING : Nat := 0x6000C
def EVR_RETIRE : Nat := 0x60010
def EVR_DEADMAN : Nat := 0x60014
def EVR_LATCH : Nat := 0x60018
def EVR_EVT : Nat := 0x6001C
def EVR_COMMIT : Nat := 0x60020
def UPD_SLOT (d : Nat) : Nat := 0x70000 + 0x4 * d
def UPD_VER (i : Nat) : Nat := 0x70008 + 0x4 * i
def UPD_SECURITY : Nat := 0x70018
def UPD_PROGRESS : Nat := 0x7001C
def UPD_RUN : Nat := 0x70020
def UPD_RUN_SIG : Nat := 0x70024
def UPD_RUN_YARD : Nat := 0x70028
def UPD_EVT : Nat := 0x7002C
def LIN_CFG : Nat := 0x80000
def LIN_STATUS : Nat := 0x80004
def LIN_POS : Nat := 0x80008
def LIN_CYCLE : Nat := 0x8000C
def LIN_TIME_LO : Nat := 0x80010
def LIN_TIME_HI : Nat := 0x80014
def LIN_TERR : Nat := 0x80018
def LIN_DELAY_E : Nat := 0x80020
def LIN_DELAY_W : Nat := 0x80024
def LIN_ERR_E : Nat := 0x80028
def LIN_ERR_W : Nat := 0x8002C
def LIN_DROP : Nat := 0x80030
def LIN_PRESENT_LO : Nat := 0x80038
def LIN_PRESENT_HI : Nat := 0x8003C
def LIN_EVT : Nat := 0x80040
def DMA_BUDGET : Nat := 0x90000
def DMA_ECC : Nat := 0x90004
def DMA_RETIRED : Nat := 0x90008
def DMA_EVT : Nat := 0x9000C
def DMA_CH_CTRL (c : Nat) : Nat := 0x90100 + 0x20 * c
def DMA_CH_CFG (c : Nat) : Nat := 0x90104 + 0x20 * c
def DMA_CH_RING (c : Nat) : Nat := 0x90108 + 0x20 * c
def DMA_CH_DONE (c : Nat) : Nat := 0x9010C + 0x20 * c
def DMA_CH_UNDER (c : Nat) : Nat := 0x90110 + 0x20 * c
def DMA_CH_LAST (c : Nat) : Nat := 0x90114 + 0x20 * c
def DMA_CH_ABANDON (c : Nat) : Nat := 0x90118 + 0x20 * c
def DMA_RING_BASE_LO (n : Nat) : Nat := 0x90800 + 0x10 * n
def DMA_RING_BASE_HI (n : Nat) : Nat := 0x90804 + 0x10 * n
def DMA_RING_CFG (n : Nat) : Nat := 0x90808 + 0x10 * n
def DMA_RING_IDX (n : Nat) : Nat := 0x9080C + 0x10 * n
def DMA_STR_CFG (s : Nat) : Nat := 0x90C00 + 0x10 * s
def DMA_STR_PORT (s : Nat) : Nat := 0x90C04 + 0x10 * s
def DMA_STR_UNITS (s : Nat) : Nat := 0x90C08 + 0x10 * s
def DMA_STR_GAPS (s : Nat) : Nat := 0x90C0C + 0x10 * s
def FUS_CFG : Nat := 0xA0000
def FUS_GRID : Nat := 0xA0004
def FUS_STATUS : Nat := 0xA0008
def FUS_CELLS : Nat := 0xA000C
def FUS_EVT : Nat := 0xA0010
def FUS_STR_CFG (s : Nat) : Nat := 0xA0100 + 0x20 * s
def FUS_STR_WIN (s : Nat) : Nat := 0xA0104 + 0x20 * s
def FUS_STR_LINE (s : Nat) : Nat := 0xA0108 + 0x20 * s
def FUS_STR_STATE (s : Nat) : Nat := 0xA010C + 0x20 * s
def FUS_STR_STAMP_LO (s : Nat) : Nat := 0xA0110 + 0x20 * s
def FUS_STR_STAMP_HI (s : Nat) : Nat := 0xA0114 + 0x20 * s
def FUS_STR_STIME_LO (s : Nat) : Nat := 0xA0118 + 0x20 * s
def FUS_STR_STIME_HI (s : Nat) : Nat := 0xA011C + 0x20 * s
def FUS_LIDAR_PORT : Nat := 0xA0380
def FUS_LIDAR_FMT : Nat := 0xA0384
def FUS_LIDAR_STIME : Nat := 0xA0388
def FUS_HMAP (n : Nat) : Nat := 0xA0400 + 0x4 * n
def FUS_PRJ_TX (s : Nat) : Nat := 0xA1000 + 0x80 * s
def FUS_PRJ_TY (s : Nat) : Nat := 0xA1004 + 0x80 * s
def FUS_PRJ_TZ (s : Nat) : Nat := 0xA1008 + 0x80 * s
def FUS_PRJ_QW (s : Nat) : Nat := 0xA100C + 0x80 * s
def FUS_PRJ_QX (s : Nat) : Nat := 0xA1010 + 0x80 * s
def FUS_PRJ_QY (s : Nat) : Nat := 0xA1014 + 0x80 * s
def FUS_PRJ_QZ (s : Nat) : Nat := 0xA1018 + 0x80 * s
def FUS_PRJ_FX (s : Nat) : Nat := 0xA101C + 0x80 * s
def FUS_PRJ_FY (s : Nat) : Nat := 0xA1020 + 0x80 * s
def FUS_PRJ_CX (s : Nat) : Nat := 0xA1024 + 0x80 * s
def FUS_PRJ_CY (s : Nat) : Nat := 0xA1028 + 0x80 * s
def FUS_PRJ_K1 (s : Nat) : Nat := 0xA102C + 0x80 * s
def FUS_PRJ_K2 (s : Nat) : Nat := 0xA1030 + 0x80 * s
def FUS_PRJ_K3 (s : Nat) : Nat := 0xA1034 + 0x80 * s
def FUS_PRJ_P1 (s : Nat) : Nat := 0xA1038 + 0x80 * s
def FUS_PRJ_P2 (s : Nat) : Nat := 0xA103C + 0x80 * s
def FUS_PRJ_IMG (s : Nat) : Nat := 0xA1040 + 0x80 * s
def FUS_PRJ_FEAT (s : Nat) : Nat := 0xA1044 + 0x80 * s
def FUS_TBL (n : Nat) : Nat := 0xA1800 + 0x4 * n
def FUS_SRC (k : Nat) : Nat := 0xA2000 + 0x4 * k
def FUS_RULE (r : Nat) : Nat := 0xA2200 + 0x4 * r
def SET_CFG : Nat := 0xB0000
def SET_POLICY : Nat := 0xB0004
def SET_TOL : Nat := 0xB0008
def SET_FLOW : Nat := 0xB000C
def SET_HEAD : Nat := 0xB0010
def SET_HEAD_ON : Nat := 0xB0014
def SET_HEAD_OFF : Nat := 0xB0018
def SET_CTRL : Nat := 0xB001C
def SET_STATUS : Nat := 0xB0020
def SET_EVAL : Nat := 0xB0024
def SET_COUNT : Nat := 0xB0028
def SET_COUNT2 : Nat := 0xB002C
def SET_EVT : Nat := 0xB0030
def SET_FN_TARGET (n : Nat) : Nat := 0xB0100 + 0x10 * n
def SET_FN_SENT (n : Nat) : Nat := 0xB0104 + 0x10 * n
def SET_FN_START (n : Nat) : Nat := 0xB0108 + 0x10 * n
def SET_FN_STATE (n : Nat) : Nat := 0xB010C + 0x10 * n
def GNS_CFG : Nat := 0xC0000
def GNS_ANT_CFG : Nat := 0xC0004
def GNS_RTK_CFG : Nat := 0xC0008
def GNS_PPS_CFG : Nat := 0xC000C
def GNS_ANT_A_X : Nat := 0xC0010
def GNS_ANT_A_Y : Nat := 0xC0014
def GNS_ANT_A_Z : Nat := 0xC0018
def GNS_ANT_B_X : Nat := 0xC001C
def GNS_ANT_B_Y : Nat := 0xC0020
def GNS_ANT_B_Z : Nat := 0xC0024
def GNS_IMU_TX : Nat := 0xC0028
def GNS_IMU_TY : Nat := 0xC002C
def GNS_IMU_TZ : Nat := 0xC0030
def GNS_IMU_QW : Nat := 0xC0034
def GNS_IMU_QX : Nat := 0xC0038
def GNS_IMU_QY : Nat := 0xC003C
def GNS_IMU_QZ : Nat := 0xC0040
def GNS_PPS_DELAY : Nat := 0xC0048
def GNS_STATUS : Nat := 0xC0080
def GNS_TERR : Nat := 0xC0084
def GNS_OFFSET : Nat := 0xC0088
def GNS_HOLD : Nat := 0xC008C
def GNS_TOP_LO : Nat := 0xC0090
def GNS_TOP_HI : Nat := 0xC0094
def GNS_TOP_FLAGS : Nat := 0xC0098
def GNS_LEAP : Nat := 0xC009C
def GNS_LAT_LO : Nat := 0xC00A0
def GNS_LAT_HI : Nat := 0xC00A4
def GNS_LON_LO : Nat := 0xC00A8
def GNS_LON_HI : Nat := 0xC00AC
def GNS_HGT : Nat := 0xC00B0
def GNS_HDG : Nat := 0xC00B4
def GNS_ATT : Nat := 0xC00B8
def GNS_VEL : Nat := 0xC00BC
def GNS_ANT_STAT : Nat := 0xC00C0
def GNS_CORR : Nat := 0xC00C4
def GNS_RTCM_CNT : Nat := 0xC00C8
def GNS_STEER_SP : Nat := 0xC0100
def GNS_STEER_FB : Nat := 0xC0104
def GNS_STEER_ST : Nat := 0xC0108
def GNS_STEER_OVR : Nat := 0xC010C
def GNS_STEER_OVR_THR : Nat := 0xC0110
def GNS_STEER_EN : Nat := 0xC0114
def GNS_STEER_GEOM : Nat := 0xC0118
def GNS_STEER_LIM : Nat := 0xC011C
def GNS_STEER_KX : Nat := 0xC0120
def GNS_STEER_KH : Nat := 0xC0124
def GNS_STEER_ENG : Nat := 0xC0128
def GNS_STEER_SPD : Nat := 0xC012C
def GNS_EDGE : Nat := 0xC0130
def GNS_EDGE2 : Nat := 0xC0134
def GNS_STEER_STATUS : Nat := 0xC0140
def GNS_STEER_XTE : Nat := 0xC0144
def GNS_STEER_HE : Nat := 0xC0148
def GNS_STEER_DELTA : Nat := 0xC014C
def GNS_GUIDE_ID : Nat := 0xC0150
def GNS_EVT : Nat := 0xC0154
def GNS_CH_SIG (n : Nat) : Nat := 0xC1000 + 0x10 * n
def GNS_CH_DOP (n : Nat) : Nat := 0xC1004 + 0x10 * n
def GNS_CH_LOCK (n : Nat) : Nat := 0xC1008 + 0x10 * n
def YLD_CFG : Nat := 0xD0000
def YLD_FLOW : Nat := 0xD0004
def YLD_MOIST : Nat := 0xD0008
def YLD_SECT : Nat := 0xD000C
def YLD_DELAY : Nat := 0xD0010
def YLD_CAL : Nat := 0xD0014
def YLD_SEC (s : Nat) : Nat := 0xD0040 + 0x4 * s
def YLD_STATUS : Nat := 0xD0080
def YLD_FIELD_ID : Nat := 0xD0084
def YLD_MASS : Nat := 0xD0088
def YLD_UNMAPPED : Nat := 0xD008C
def YLD_AREA : Nat := 0xD0090
def YLD_NOW : Nat := 0xD0094
def YLD_TILES : Nat := 0xD0098
def YLD_EVT : Nat := 0xD009C
def CST_CFG : Nat := 0xE0000
def CST_PEER : Nat := 0xE0004
def CST_MACHINE_LO : Nat := 0xE0008
def CST_MACHINE_HI : Nat := 0xE000C
def CST_TANK : Nat := 0xE0010
def CST_RDV_OUT : Nat := 0xE0014
def CST_SPOUT : Nat := 0xE0018
def CST_STATUS : Nat := 0xE0040
def CST_CONSIST : Nat := 0xE0044
def CST_HEARD : Nat := 0xE0048
def CST_RDV : Nat := 0xE004C
def CST_CNT : Nat := 0xE0050
def CST_EVT : Nat := 0xE0054
def EVT_MASK (n : Nat) : Nat := 0xF0000 + 0x4 * n
def EVT_SUB (s : Nat) (w : Nat) : Nat := 0xF0100 + 0x20 * s + 0x4 * w
def EVT_QUEUE (s : Nat) : Nat := 0xF0110 + 0x20 * s
def EVT_SEQ (s : Nat) : Nat := 0xF0114 + 0x20 * s
def CFG_STATE : Nat := 0x100000
def CFG_RUN_CRC : Nat := 0x100004
def CFG_SIDING_CRC : Nat := 0x100008
def CFG_PART_CRC : Nat := 0x10000C
def CFG_THROW_CYC : Nat := 0x100010
def CFG_COUNT : Nat := 0x100014
def CFG_FMT : Nat := 0x100018
def CFG_LEAD : Nat := 0x10001C
def CFG_MISMATCH_LO : Nat := 0x100020
def CFG_MISMATCH_HI : Nat := 0x100024
def CFG_EVT : Nat := 0x100028
def CFG_ORDER : Nat := 0x10002C

end Reg

/-! Register fields. -/
namespace F

def IDR_PART_VENDOR : Fld := ⟨Reg.IDR_PART, 0, 16⟩
def IDR_PART_PART : Fld := ⟨Reg.IDR_PART, 16, 16⟩
def IDR_SIG_REV_MINOR : Fld := ⟨Reg.IDR_SIG_REV, 0, 8⟩
def IDR_SIG_REV_MAJOR : Fld := ⟨Reg.IDR_SIG_REV, 8, 8⟩
def IDR_YARD_REV_MINOR : Fld := ⟨Reg.IDR_YARD_REV, 0, 8⟩
def IDR_YARD_REV_MAJOR : Fld := ⟨Reg.IDR_YARD_REV, 8, 8⟩
def IDR_SIG_FW_PATCH : Fld := ⟨Reg.IDR_SIG_FW, 0, 8⟩
def IDR_SIG_FW_MINOR : Fld := ⟨Reg.IDR_SIG_FW, 8, 8⟩
def IDR_SIG_FW_MAJOR : Fld := ⟨Reg.IDR_SIG_FW, 16, 8⟩
def IDR_YARD_FW_PATCH : Fld := ⟨Reg.IDR_YARD_FW, 0, 8⟩
def IDR_YARD_FW_MINOR : Fld := ⟨Reg.IDR_YARD_FW, 8, 8⟩
def IDR_YARD_FW_MAJOR : Fld := ⟨Reg.IDR_YARD_FW, 16, 8⟩
def IDR_LINE_REV_MINOR : Fld := ⟨Reg.IDR_LINE_REV, 0, 8⟩
def IDR_LINE_REV_MAJOR : Fld := ⟨Reg.IDR_LINE_REV, 8, 8⟩
def IDR_PKT_REV_VERSION : Fld := ⟨Reg.IDR_PKT_REV, 0, 8⟩
def IDR_UID_LO_UID : Fld := ⟨Reg.IDR_UID_LO, 0, 32⟩
def IDR_UID_HI_UID : Fld := ⟨Reg.IDR_UID_HI, 0, 32⟩
def IDR_STRAP_ROLE : Fld := ⟨Reg.IDR_STRAP, 0, 2⟩
def IDR_STRAP_NUM_EN : Fld := ⟨Reg.IDR_STRAP, 2, 1⟩
def IDR_STRAP_NUM : Fld := ⟨Reg.IDR_STRAP, 8, 6⟩
def IDR_STRAP_STRAP_FAULT : Fld := ⟨Reg.IDR_STRAP, 16, 1⟩
def IDR_STRAP_ROLE_CONFLICT : Fld := ⟨Reg.IDR_STRAP, 17, 1⟩
def IDR_ROLE_CUR_ROLE : Fld := ⟨Reg.IDR_ROLE, 0, 2⟩
def IDR_ROLE_TAKEN_OVER : Fld := ⟨Reg.IDR_ROLE, 2, 1⟩
def IDR_ROLE_JOIN_NUM : Fld := ⟨Reg.IDR_ROLE, 8, 6⟩
def IDR_ROLE_TAKEOVERS : Fld := ⟨Reg.IDR_ROLE, 16, 8⟩
def CLK_CFG_AUTO_RESUME : Fld := ⟨Reg.CLK_CFG, 0, 1⟩
def CLK_STATUS_TCXO : Fld := ⟨Reg.CLK_STATUS, 0, 2⟩
def CLK_STATUS_XTAL : Fld := ⟨Reg.CLK_STATUS, 2, 2⟩
def CLK_STATUS_BOTH_LOST : Fld := ⟨Reg.CLK_STATUS, 4, 1⟩
def CLK_STATUS_WAIT_RESUME : Fld := ⟨Reg.CLK_STATUS, 5, 1⟩
def CLK_JUDGE_DEV : Fld := ⟨Reg.CLK_JUDGE, 0, 16⟩
def CLK_JUDGE_RUN : Fld := ⟨Reg.CLK_JUDGE, 16, 8⟩
def CLK_CNT_TCXO_FAILS : Fld := ⟨Reg.CLK_CNT, 0, 8⟩
def CLK_CNT_XTAL_FAILS : Fld := ⟨Reg.CLK_CNT, 8, 8⟩
def CLK_CNT_TRANSIENTS : Fld := ⟨Reg.CLK_CNT, 16, 8⟩
def CLK_CNT_BOTH_LOST : Fld := ⟨Reg.CLK_CNT, 24, 8⟩
def CLK_SRC_TIME : Fld := ⟨Reg.CLK_SRC, 0, 2⟩
def CLK_SRC_PWM : Fld := ⟨Reg.CLK_SRC, 2, 2⟩
def CLK_SRC_CAN : Fld := ⟨Reg.CLK_SRC, 4, 2⟩
def CLK_SRC_NET : Fld := ⟨Reg.CLK_SRC, 6, 2⟩
def CLK_SRC_CAM : Fld := ⟨Reg.CLK_SRC, 8, 2⟩
def CLK_SRC_GNSS : Fld := ⟨Reg.CLK_SRC, 10, 2⟩
def CLK_SRC_METER : Fld := ⟨Reg.CLK_SRC, 12, 2⟩
def CLK_GATE_OPEN : Fld := ⟨Reg.CLK_GATE, 0, 12⟩
def CLK_GATE_STATE_STATE : Fld := ⟨Reg.CLK_GATE_STATE, 0, 24⟩
def CLK_EVT_REF_FAIL : Fld := ⟨Reg.CLK_EVT, 0, 1⟩
def CLK_EVT_REF_TRANSIENT : Fld := ⟨Reg.CLK_EVT, 1, 1⟩
def CLK_EVT_REF_SWITCH : Fld := ⟨Reg.CLK_EVT, 2, 1⟩
def CLK_EVT_REF_JUDGED : Fld := ⟨Reg.CLK_EVT, 3, 1⟩
def CLK_EVT_BOTH_LOST : Fld := ⟨Reg.CLK_EVT, 4, 1⟩
def CLK_EVT_AUTO_RESUMED : Fld := ⟨Reg.CLK_EVT, 5, 1⟩
def CLK_EVT_GATE_FORCED : Fld := ⟨Reg.CLK_EVT, 6, 1⟩
def PWR_CFG_BOOT_LEVEL : Fld := ⟨Reg.PWR_CFG, 0, 3⟩
def PWR_LEVEL_CUR : Fld := ⟨Reg.PWR_LEVEL, 0, 3⟩
def PWR_LEVEL_STEPPING : Fld := ⟨Reg.PWR_LEVEL, 3, 1⟩
def PWR_LEVEL_REQ : Fld := ⟨Reg.PWR_LEVEL, 4, 3⟩
def PWR_LEVEL_CAP : Fld := ⟨Reg.PWR_LEVEL, 8, 3⟩
def PWR_LEVEL_CEIL : Fld := ⟨Reg.PWR_LEVEL, 12, 3⟩
def PWR_TEMP_FACE : Fld := ⟨Reg.PWR_TEMP, 0, 16⟩
def PWR_TEMP_YARD_TJ : Fld := ⟨Reg.PWR_TEMP, 16, 16⟩
def PWR_VCORE_YARD_MV : Fld := ⟨Reg.PWR_VCORE, 0, 12⟩
def PWR_VCORE_SIG_MV : Fld := ⟨Reg.PWR_VCORE, 16, 12⟩
def PWR_CANARY_SLACK : Fld := ⟨Reg.PWR_CANARY, 0, 16⟩
def PWR_CANARY_FAIL_LEVEL : Fld := ⟨Reg.PWR_CANARY, 16, 3⟩
def PWR_CANARY_FAILS : Fld := ⟨Reg.PWR_CANARY, 24, 8⟩
def PWR_EVT_LEVEL_CHANGE : Fld := ⟨Reg.PWR_EVT, 0, 1⟩
def PWR_EVT_CAP_IN : Fld := ⟨Reg.PWR_EVT, 1, 1⟩
def PWR_EVT_CAP_OUT : Fld := ⟨Reg.PWR_EVT, 2, 1⟩
def PWR_EVT_CANARY_FAIL : Fld := ⟨Reg.PWR_EVT, 3, 1⟩
def PWR_EVT_CEILING : Fld := ⟨Reg.PWR_EVT, 4, 1⟩
def PWR_EVT_LEVEL_FAULT : Fld := ⟨Reg.PWR_EVT, 5, 1⟩
def PWR_EVT_OVER_TEMP : Fld := ⟨Reg.PWR_EVT, 6, 1⟩
def PWR_SUPPLY_LOGIC_MV : Fld := ⟨Reg.PWR_SUPPLY, 0, 16⟩
def PWR_SUPPLY_IGN : Fld := ⟨Reg.PWR_SUPPLY, 16, 1⟩
def PWR_WAKE_WAKE_SRC : Fld := ⟨Reg.PWR_WAKE, 0, 3⟩
def PWR_WAKE_WAKE_CAN : Fld := ⟨Reg.PWR_WAKE, 3, 2⟩
def PWR_WAKE_SLEEP_CANCELLED : Fld := ⟨Reg.PWR_WAKE, 5, 1⟩
def PWR_WAKE_LINE_WAKE : Fld := ⟨Reg.PWR_WAKE, 8, 1⟩
def PWR_WAKE_IGN_OFF : Fld := ⟨Reg.PWR_WAKE, 16, 8⟩
def PWR_OUT_CAM_PWR : Fld := ⟨Reg.PWR_OUT, 0, 4⟩
def PWR_OUT_SENS_EN : Fld := ⟨Reg.PWR_OUT, 4, 2⟩
def PWR_OUT_AIN_MA : Fld := ⟨Reg.PWR_OUT, 16, 16⟩
def PWR_OUT_STAT_CAM_LIMIT : Fld := ⟨Reg.PWR_OUT_STAT, 0, 4⟩
def PWR_OUT_STAT_SENS_LIMIT : Fld := ⟨Reg.PWR_OUT_STAT, 4, 2⟩
def LSW_CFG_HOLD : Fld := ⟨Reg.LSW_CFG, 0, 8⟩
def LSW_LIMP_LIMP : Fld := ⟨Reg.LSW_LIMP, 0, 1⟩
def LSW_LIMP_REQ : Fld := ⟨Reg.LSW_LIMP, 1, 1⟩
def LSW_LIMP_DEADMAN : Fld := ⟨Reg.LSW_LIMP, 2, 1⟩
def LSW_LIMP_REF : Fld := ⟨Reg.LSW_LIMP, 3, 1⟩
def LSW_LIMP_HOLD : Fld := ⟨Reg.LSW_LIMP, 4, 1⟩
def LSW_LIMP_MAP_BAD : Fld := ⟨Reg.LSW_LIMP, 5, 1⟩
def LSW_LIMP_MAP_LATCHED : Fld := ⟨Reg.LSW_LIMP, 6, 1⟩
def LSW_LIMP_LH_IN : Fld := ⟨Reg.LSW_LIMP, 8, 8⟩
def LSW_ON_ON : Fld := ⟨Reg.LSW_ON, 0, 32⟩
def LSW_LATCHED_LATCHED : Fld := ⟨Reg.LSW_LATCHED, 0, 32⟩
def LSW_SIDED_SIDED : Fld := ⟨Reg.LSW_SIDED, 0, 32⟩
def LSW_OPEN_OPEN : Fld := ⟨Reg.LSW_OPEN, 0, 32⟩
def LSW_SUPPLY_VOLT_A : Fld := ⟨Reg.LSW_SUPPLY, 0, 14⟩
def LSW_SUPPLY_SUPPLY_LOW_A : Fld := ⟨Reg.LSW_SUPPLY, 14, 1⟩
def LSW_SUPPLY_OVER : Fld := ⟨Reg.LSW_SUPPLY, 15, 1⟩
def LSW_SUPPLY_VOLT_B : Fld := ⟨Reg.LSW_SUPPLY, 16, 14⟩
def LSW_SUPPLY_SUPPLY_LOW_B : Fld := ⟨Reg.LSW_SUPPLY, 30, 1⟩
def LSW_TOTAL_MEAN_A : Fld := ⟨Reg.LSW_TOTAL, 0, 16⟩
def LSW_TOTAL_MEAN_B : Fld := ⟨Reg.LSW_TOTAL, 16, 16⟩
def LSW_EVT_LATCH : Fld := ⟨Reg.LSW_EVT, 0, 1⟩
def LSW_EVT_RETRY_OK : Fld := ⟨Reg.LSW_EVT, 1, 1⟩
def LSW_EVT_SIDED : Fld := ⟨Reg.LSW_EVT, 2, 1⟩
def LSW_EVT_RETRY_CANCELLED : Fld := ⟨Reg.LSW_EVT, 3, 1⟩
def LSW_EVT_REINSTATED : Fld := ⟨Reg.LSW_EVT, 4, 1⟩
def LSW_EVT_OPEN_LOAD : Fld := ⟨Reg.LSW_EVT, 5, 1⟩
def LSW_EVT_OPEN_LOAD_CLEAR : Fld := ⟨Reg.LSW_EVT, 6, 1⟩
def LSW_EVT_LIMP_ENTER : Fld := ⟨Reg.LSW_EVT, 7, 1⟩
def LSW_EVT_LIMP_EXIT : Fld := ⟨Reg.LSW_EVT, 8, 1⟩
def LSW_EVT_LOAD_OVER : Fld := ⟨Reg.LSW_EVT, 9, 1⟩
def LSW_EVT_SUPPLY_LOW : Fld := ⟨Reg.LSW_EVT, 10, 1⟩
def LSW_EVT_MAP_BAD : Fld := ⟨Reg.LSW_EVT, 11, 1⟩
def LSW_EVT_CH_CH : Fld := ⟨Reg.LSW_EVT_CH, 0, 5⟩
def LSW_CH_CFG_OC_THR (c : Nat) : Fld := ⟨Reg.LSW_CH_CFG c, 0, 11⟩
def LSW_CH_CFG_INRUSH_MULT (c : Nat) : Fld := ⟨Reg.LSW_CH_CFG c, 12, 4⟩
def LSW_CH_CFG_INRUSH_TIME (c : Nat) : Fld := ⟨Reg.LSW_CH_CFG c, 16, 8⟩
def LSW_CH_CFG_OL_EN (c : Nat) : Fld := ⟨Reg.LSW_CH_CFG c, 24, 1⟩
def LSW_CH_CFG_PWM (c : Nat) : Fld := ⟨Reg.LSW_CH_CFG c, 25, 1⟩
def LSW_CH_TIME_RETRY_DLY (c : Nat) : Fld := ⟨Reg.LSW_CH_TIME c, 0, 14⟩
def LSW_CH_TIME_OL_TIME (c : Nat) : Fld := ⟨Reg.LSW_CH_TIME c, 14, 8⟩
def LSW_CH_PWM_FREQ (c : Nat) : Fld := ⟨Reg.LSW_CH_PWM c, 0, 16⟩
def LSW_CH_CMD_STATE (c : Nat) : Fld := ⟨Reg.LSW_CH_CMD c, 0, 2⟩
def LSW_CH_CMD_DUTY (c : Nat) : Fld := ⟨Reg.LSW_CH_CMD c, 16, 16⟩
def LSW_CH_STAT_CSTATE (c : Nat) : Fld := ⟨Reg.LSW_CH_STAT c, 0, 3⟩
def LSW_CH_STAT_WINDOW (c : Nat) : Fld := ⟨Reg.LSW_CH_STAT c, 3, 1⟩
def LSW_CH_STAT_INRUSH (c : Nat) : Fld := ⟨Reg.LSW_CH_STAT c, 4, 1⟩
def LSW_CH_STAT_OPEN_LOAD (c : Nat) : Fld := ⟨Reg.LSW_CH_STAT c, 5, 1⟩
def LSW_CH_STAT_CAUSE (c : Nat) : Fld := ⟨Reg.LSW_CH_STAT c, 6, 2⟩
def LSW_CH_STAT_OWNED (c : Nat) : Fld := ⟨Reg.LSW_CH_STAT c, 8, 1⟩
def LSW_CH_STAT_OWNER (c : Nat) : Fld := ⟨Reg.LSW_CH_STAT c, 9, 5⟩
def LSW_CH_CURR_CURR (c : Nat) : Fld := ⟨Reg.LSW_CH_CURR c, 0, 32⟩
def LSW_CH_TJ_TJ (c : Nat) : Fld := ⟨Reg.LSW_CH_TJ c, 0, 16⟩
def LSW_CH_CNT_LATCHES (c : Nat) : Fld := ⟨Reg.LSW_CH_CNT c, 0, 16⟩
def LSW_CH_CNT_RETRIES_OK (c : Nat) : Fld := ⟨Reg.LSW_CH_CNT c, 16, 16⟩
def CLE_BUDGET_RATE_SUM : Fld := ⟨Reg.CLE_BUDGET, 0, 19⟩
def CLE_BUDGET_DEFINED : Fld := ⟨Reg.CLE_BUDGET, 24, 6⟩
def CLE_MISS_MISS : Fld := ⟨Reg.CLE_MISS, 0, 32⟩
def CLE_LOSS_LOSS : Fld := ⟨Reg.CLE_LOSS, 0, 32⟩
def CLE_SLACK_MIN_SLACK : Fld := ⟨Reg.CLE_SLACK, 0, 16⟩
def CLE_SLACK_MIN_LOOP : Fld := ⟨Reg.CLE_SLACK, 16, 5⟩
def CLE_EVT_LOOP_MISS : Fld := ⟨Reg.CLE_EVT, 0, 1⟩
def CLE_EVT_LOOP_GRACE : Fld := ⟨Reg.CLE_EVT, 1, 1⟩
def CLE_EVT_LOOP_LOSS_ACTION : Fld := ⟨Reg.CLE_EVT, 2, 1⟩
def CLE_EVT_LOOP_REGAINED : Fld := ⟨Reg.CLE_EVT, 3, 1⟩
def CLE_EVT_SINK_BLOCKED : Fld := ⟨Reg.CLE_EVT, 4, 1⟩
def CLE_LOOP_CFG_PERIOD (n : Nat) : Fld := ⟨Reg.CLE_LOOP_CFG n, 0, 22⟩
def CLE_LOOP_CFG_DEADLINE (n : Nat) : Fld := ⟨Reg.CLE_LOOP_CFG n, 22, 7⟩
def CLE_LOOP_CFG_LOSS_ACT (n : Nat) : Fld := ⟨Reg.CLE_LOOP_CFG n, 29, 2⟩
def CLE_LOOP_CFG_EN (n : Nat) : Fld := ⟨Reg.CLE_LOOP_CFG n, 31, 1⟩
def CLE_LOOP_PHASE_PHASE (n : Nat) : Fld := ⟨Reg.CLE_LOOP_PHASE n, 0, 22⟩
def CLE_LOOP_SRC_KIND (n : Nat) : Fld := ⟨Reg.CLE_LOOP_SRC n, 0, 4⟩
def CLE_LOOP_SRC_INDEX (n : Nat) : Fld := ⟨Reg.CLE_LOOP_SRC n, 4, 12⟩
def CLE_LOOP_SRC_WORD (n : Nat) : Fld := ⟨Reg.CLE_LOOP_SRC n, 16, 10⟩
def CLE_LOOP_SP_KIND (n : Nat) : Fld := ⟨Reg.CLE_LOOP_SP n, 0, 4⟩
def CLE_LOOP_SP_INDEX (n : Nat) : Fld := ⟨Reg.CLE_LOOP_SP n, 4, 12⟩
def CLE_LOOP_SP_WORD (n : Nat) : Fld := ⟨Reg.CLE_LOOP_SP n, 16, 10⟩
def CLE_LOOP_SINK_KIND (n : Nat) : Fld := ⟨Reg.CLE_LOOP_SINK n, 0, 4⟩
def CLE_LOOP_SINK_INDEX (n : Nat) : Fld := ⟨Reg.CLE_LOOP_SINK n, 4, 12⟩
def CLE_LOOP_SINK_WORD (n : Nat) : Fld := ⟨Reg.CLE_LOOP_SINK n, 16, 10⟩
def CLE_LOOP_SRC_OFF_SRC_OFF (n : Nat) : Fld := ⟨Reg.CLE_LOOP_SRC_OFF n, 0, 32⟩
def CLE_LOOP_SRC_SCALE_SRC_SCALE (n : Nat) : Fld := ⟨Reg.CLE_LOOP_SRC_SCALE n, 0, 32⟩
def CLE_LOOP_SP_OFF_SP_OFF (n : Nat) : Fld := ⟨Reg.CLE_LOOP_SP_OFF n, 0, 32⟩
def CLE_LOOP_SP_SCALE_SP_SCALE (n : Nat) : Fld := ⟨Reg.CLE_LOOP_SP_SCALE n, 0, 32⟩
def CLE_LOOP_SINK_SCALE_SINK_SCALE (n : Nat) : Fld := ⟨Reg.CLE_LOOP_SINK_SCALE n, 0, 32⟩
def CLE_LOOP_SINK_OFF_SINK_OFF (n : Nat) : Fld := ⟨Reg.CLE_LOOP_SINK_OFF n, 0, 32⟩
def CLE_LOOP_LOSS_GRACE (n : Nat) : Fld := ⟨Reg.CLE_LOOP_LOSS n, 0, 14⟩
def CLE_LOOP_SAFE_SAFE (n : Nat) : Fld := ⟨Reg.CLE_LOOP_SAFE n, 0, 32⟩
def CLE_LOOP_RAMP_RAMP (n : Nat) : Fld := ⟨Reg.CLE_LOOP_RAMP n, 0, 32⟩
def CLE_LOOP_PUB_PUB_ENTRY (n : Nat) : Fld := ⟨Reg.CLE_LOOP_PUB n, 0, 12⟩
def CLE_LOOP_PUB_PUB_WORD (n : Nat) : Fld := ⟨Reg.CLE_LOOP_PUB n, 12, 10⟩
def CLE_LOOP_PUB_PUB_EN (n : Nat) : Fld := ⟨Reg.CLE_LOOP_PUB n, 22, 1⟩
def CLE_XSEL_SEL (v : Nat) : Fld := ⟨Reg.CLE_XSEL v, 0, 4⟩
def CLE_XSEL_INDEX (v : Nat) : Fld := ⟨Reg.CLE_XSEL v, 4, 6⟩
def CLE_XSEL_CHAN (v : Nat) : Fld := ⟨Reg.CLE_XSEL v, 10, 4⟩
def CLE_LOOP_CTRL_STATE (n : Nat) : Fld := ⟨Reg.CLE_LOOP_CTRL n, 0, 2⟩
def CLE_LOOP_SETPT_SETPT (n : Nat) : Fld := ⟨Reg.CLE_LOOP_SETPT n, 0, 32⟩
def CLE_LOOP_RAW_RAW (n : Nat) : Fld := ⟨Reg.CLE_LOOP_RAW n, 0, 32⟩
def CLE_LOOP_PV_PV (n : Nat) : Fld := ⟨Reg.CLE_LOOP_PV n, 0, 32⟩
def CLE_LOOP_SPV_SPV (n : Nat) : Fld := ⟨Reg.CLE_LOOP_SPV n, 0, 32⟩
def CLE_LOOP_OUT_OUT (n : Nat) : Fld := ⟨Reg.CLE_LOOP_OUT n, 0, 32⟩
def CLE_LOOP_INTEG_INTEG (n : Nat) : Fld := ⟨Reg.CLE_LOOP_INTEG n, 0, 32⟩
def CLE_LOOP_STATUS_MISS_LAST (n : Nat) : Fld := ⟨Reg.CLE_LOOP_STATUS n, 0, 1⟩
def CLE_LOOP_STATUS_SINK_BLOCKED (n : Nat) : Fld := ⟨Reg.CLE_LOOP_STATUS n, 1, 1⟩
def CLE_LOOP_STATUS_SAT (n : Nat) : Fld := ⟨Reg.CLE_LOOP_STATUS n, 2, 1⟩
def CLE_LOOP_STATUS_LOSS (n : Nat) : Fld := ⟨Reg.CLE_LOOP_STATUS n, 3, 2⟩
def CLE_LOOP_STATUS_MISSES (n : Nat) : Fld := ⟨Reg.CLE_LOOP_STATUS n, 16, 16⟩
def MDB_C_CFG_MODE (n : Nat) : Fld := ⟨Reg.MDB_C_CFG n, 0, 3⟩
def MDB_C_CFG_TXORDER (n : Nat) : Fld := ⟨Reg.MDB_C_CFG n, 3, 1⟩
def MDB_C_CFG_RETRY (n : Nat) : Fld := ⟨Reg.MDB_C_CFG n, 4, 8⟩
def MDB_C_CFG_LISTEN (n : Nat) : Fld := ⟨Reg.MDB_C_CFG n, 12, 1⟩
def MDB_C_CFG_WAKE_EN (n : Nat) : Fld := ⟨Reg.MDB_C_CFG n, 13, 1⟩
def MDB_C_NBT_NBRP (n : Nat) : Fld := ⟨Reg.MDB_C_NBT n, 0, 5⟩
def MDB_C_NBT_NTSEG1 (n : Nat) : Fld := ⟨Reg.MDB_C_NBT n, 5, 8⟩
def MDB_C_NBT_NTSEG2 (n : Nat) : Fld := ⟨Reg.MDB_C_NBT n, 13, 7⟩
def MDB_C_NBT_NSJW (n : Nat) : Fld := ⟨Reg.MDB_C_NBT n, 20, 7⟩
def MDB_C_DBT_DBRP (n : Nat) : Fld := ⟨Reg.MDB_C_DBT n, 0, 5⟩
def MDB_C_DBT_DTSEG1 (n : Nat) : Fld := ⟨Reg.MDB_C_DBT n, 5, 5⟩
def MDB_C_DBT_DTSEG2 (n : Nat) : Fld := ⟨Reg.MDB_C_DBT n, 10, 4⟩
def MDB_C_DBT_DSJW (n : Nat) : Fld := ⟨Reg.MDB_C_DBT n, 14, 4⟩
def MDB_C_DBT_TDCO (n : Nat) : Fld := ⟨Reg.MDB_C_DBT n, 18, 7⟩
def MDB_C_STATUS_STATE (n : Nat) : Fld := ⟨Reg.MDB_C_STATUS n, 0, 2⟩
def MDB_C_STATUS_GATED (n : Nat) : Fld := ⟨Reg.MDB_C_STATUS n, 2, 1⟩
def MDB_C_STATUS_CLAIMED (n : Nat) : Fld := ⟨Reg.MDB_C_STATUS n, 3, 1⟩
def MDB_C_STATUS_ADDRESS (n : Nat) : Fld := ⟨Reg.MDB_C_STATUS n, 4, 8⟩
def MDB_C_ERR_TEC (n : Nat) : Fld := ⟨Reg.MDB_C_ERR n, 0, 8⟩
def MDB_C_ERR_REC (n : Nat) : Fld := ⟨Reg.MDB_C_ERR n, 8, 8⟩
def MDB_C_ERR_BUSOFFS (n : Nat) : Fld := ⟨Reg.MDB_C_ERR n, 16, 8⟩
def MDB_C_ERR_LAST_ERR (n : Nat) : Fld := ⟨Reg.MDB_C_ERR n, 24, 8⟩
def MDB_C_TXB_TSTATE (n : Nat) (k : Nat) : Fld := ⟨Reg.MDB_C_TXB n k, 0, 3⟩
def MDB_C_TXB_SRC (n : Nat) (k : Nat) : Fld := ⟨Reg.MDB_C_TXB n k, 3, 6⟩
def MDB_C_TXB_RETRIES (n : Nat) (k : Nat) : Fld := ⟨Reg.MDB_C_TXB n k, 9, 8⟩
def MDB_C_CNT_TX_FRAMES (n : Nat) : Fld := ⟨Reg.MDB_C_CNT n, 0, 16⟩
def MDB_C_CNT_RX_FRAMES (n : Nat) : Fld := ⟨Reg.MDB_C_CNT n, 16, 16⟩
def MDB_C_DROP_NO_MATCH (n : Nat) : Fld := ⟨Reg.MDB_C_DROP n, 0, 8⟩
def MDB_C_DROP_FIFO_OVF (n : Nat) : Fld := ⟨Reg.MDB_C_DROP n, 8, 8⟩
def MDB_C_DROP_ABORTS (n : Nat) : Fld := ⟨Reg.MDB_C_DROP n, 16, 8⟩
def MDB_C_DROP_HPMB (n : Nat) : Fld := ⟨Reg.MDB_C_DROP n, 24, 8⟩
def MDB_C_HP_ID_ID (n : Nat) : Fld := ⟨Reg.MDB_C_HP_ID n, 0, 29⟩
def MDB_C_HP_ID_IDE (n : Nat) : Fld := ⟨Reg.MDB_C_HP_ID n, 29, 1⟩
def MDB_C_HP_ID_FDF (n : Nat) : Fld := ⟨Reg.MDB_C_HP_ID n, 30, 1⟩
def MDB_C_HP_ID_FULL (n : Nat) : Fld := ⟨Reg.MDB_C_HP_ID n, 31, 1⟩
def MDB_C_HP_INFO_LEN (n : Nat) : Fld := ⟨Reg.MDB_C_HP_INFO n, 0, 7⟩
def MDB_C_HP_INFO_FILTER (n : Nat) : Fld := ⟨Reg.MDB_C_HP_INFO n, 8, 5⟩
def MDB_C_HP_STAMP_LO_STAMP (n : Nat) : Fld := ⟨Reg.MDB_C_HP_STAMP_LO n, 0, 32⟩
def MDB_C_HP_STAMP_HI_STAMP (n : Nat) : Fld := ⟨Reg.MDB_C_HP_STAMP_HI n, 0, 32⟩
def MDB_C_HP_DATA_DATA (n : Nat) (w : Nat) : Fld := ⟨Reg.MDB_C_HP_DATA n w, 0, 32⟩
def MDB_EVT_TX_ABORT : Fld := ⟨Reg.MDB_EVT, 0, 1⟩
def MDB_EVT_BUS_OFF : Fld := ⟨Reg.MDB_EVT, 1, 1⟩
def MDB_EVT_BUS_ON : Fld := ⟨Reg.MDB_EVT, 2, 1⟩
def MDB_EVT_ERR_PASSIVE : Fld := ⟨Reg.MDB_EVT, 3, 1⟩
def MDB_EVT_HPMB : Fld := ⟨Reg.MDB_EVT, 4, 4⟩
def MDB_EVT_RX_TIMEOUT : Fld := ⟨Reg.MDB_EVT, 8, 1⟩
def MDB_EVT_FIFO_OVF : Fld := ⟨Reg.MDB_EVT, 9, 1⟩
def MDB_EVT_ADDR_LOST : Fld := ⟨Reg.MDB_EVT, 10, 1⟩
def MDB_EVT_CAN_WAKE : Fld := ⟨Reg.MDB_EVT, 11, 1⟩
def MDB_EVT_CTL_CTRL : Fld := ⟨Reg.MDB_EVT_CTL, 0, 2⟩
def MDB_RX_STALE_STALE : Fld := ⟨Reg.MDB_RX_STALE, 0, 32⟩
def MDB_NAME_LO_NAME : Fld := ⟨Reg.MDB_NAME_LO, 0, 32⟩
def MDB_NAME_HI_NAME : Fld := ⟨Reg.MDB_NAME_HI, 0, 32⟩
def MDB_ADDR_PREF_ADDR : Fld := ⟨Reg.MDB_ADDR, 0, 8⟩
def MDB_C_FLT_ID_ID (n : Nat) (f : Nat) : Fld := ⟨Reg.MDB_C_FLT_ID n f, 0, 29⟩
def MDB_C_FLT_ID_IDE (n : Nat) (f : Nat) : Fld := ⟨Reg.MDB_C_FLT_ID n f, 29, 1⟩
def MDB_C_FLT_ID_ACTION (n : Nat) (f : Nat) : Fld := ⟨Reg.MDB_C_FLT_ID n f, 30, 2⟩
def MDB_C_FLT_MASK_MASK (n : Nat) (f : Nat) : Fld := ⟨Reg.MDB_C_FLT_MASK n f, 0, 29⟩
def MDB_TX_ID_ID (m : Nat) : Fld := ⟨Reg.MDB_TX_ID m, 0, 29⟩
def MDB_TX_ID_IDE (m : Nat) : Fld := ⟨Reg.MDB_TX_ID m, 29, 1⟩
def MDB_TX_ID_FDF (m : Nat) : Fld := ⟨Reg.MDB_TX_ID m, 30, 1⟩
def MDB_TX_ID_BRS (m : Nat) : Fld := ⟨Reg.MDB_TX_ID m, 31, 1⟩
def MDB_TX_CFG_CTRL (m : Nat) : Fld := ⟨Reg.MDB_TX_CFG m, 0, 2⟩
def MDB_TX_CFG_EN (m : Nat) : Fld := ⟨Reg.MDB_TX_CFG m, 2, 1⟩
def MDB_TX_CFG_LEN (m : Nat) : Fld := ⟨Reg.MDB_TX_CFG m, 3, 7⟩
def MDB_TX_CFG_PERIOD (m : Nat) : Fld := ⟨Reg.MDB_TX_CFG m, 10, 14⟩
def MDB_TX_PHASE_PHASE (m : Nat) : Fld := ⟨Reg.MDB_TX_PHASE m, 0, 14⟩
def MDB_SIG_CFG_MSG (s : Nat) : Fld := ⟨Reg.MDB_SIG_CFG s, 0, 5⟩
def MDB_SIG_CFG_START (s : Nat) : Fld := ⟨Reg.MDB_SIG_CFG s, 5, 10⟩
def MDB_SIG_CFG_SLEN (s : Nat) : Fld := ⟨Reg.MDB_SIG_CFG s, 15, 5⟩
def MDB_SIG_CFG_SIGNED (s : Nat) : Fld := ⟨Reg.MDB_SIG_CFG s, 20, 1⟩
def MDB_SIG_CFG_BE (s : Nat) : Fld := ⟨Reg.MDB_SIG_CFG s, 21, 1⟩
def MDB_SIG_CFG_SRC (s : Nat) : Fld := ⟨Reg.MDB_SIG_CFG s, 22, 2⟩
def MDB_SIG_LINE_ENTRY (s : Nat) : Fld := ⟨Reg.MDB_SIG_LINE s, 0, 12⟩
def MDB_SIG_LINE_WORD (s : Nat) : Fld := ⟨Reg.MDB_SIG_LINE s, 12, 10⟩
def MDB_SIG_SCALE_SCALE (s : Nat) : Fld := ⟨Reg.MDB_SIG_SCALE s, 0, 32⟩
def MDB_SIG_OFFSET_OFFSET (s : Nat) : Fld := ⟨Reg.MDB_SIG_OFFSET s, 0, 32⟩
def MDB_RX_ID_ID (r : Nat) : Fld := ⟨Reg.MDB_RX_ID r, 0, 29⟩
def MDB_RX_ID_IDE (r : Nat) : Fld := ⟨Reg.MDB_RX_ID r, 29, 1⟩
def MDB_RX_CFG_CTRL (r : Nat) : Fld := ⟨Reg.MDB_RX_CFG r, 0, 2⟩
def MDB_RX_CFG_EN (r : Nat) : Fld := ⟨Reg.MDB_RX_CFG r, 2, 1⟩
def MDB_RX_CFG_STREAM (r : Nat) : Fld := ⟨Reg.MDB_RX_CFG r, 3, 1⟩
def MDB_RX_CFG_TIMEOUT (r : Nat) : Fld := ⟨Reg.MDB_RX_CFG r, 4, 14⟩
def MDB_RSIG_CFG_MSG (s : Nat) : Fld := ⟨Reg.MDB_RSIG_CFG s, 0, 5⟩
def MDB_RSIG_CFG_START (s : Nat) : Fld := ⟨Reg.MDB_RSIG_CFG s, 5, 10⟩
def MDB_RSIG_CFG_SLEN (s : Nat) : Fld := ⟨Reg.MDB_RSIG_CFG s, 15, 5⟩
def MDB_RSIG_CFG_SIGNED (s : Nat) : Fld := ⟨Reg.MDB_RSIG_CFG s, 20, 1⟩
def MDB_RSIG_CFG_BE (s : Nat) : Fld := ⟨Reg.MDB_RSIG_CFG s, 21, 1⟩
def MDB_RSIG_CFG_EN (s : Nat) : Fld := ⟨Reg.MDB_RSIG_CFG s, 23, 1⟩
def MDB_RSIG_LINE_ENTRY (s : Nat) : Fld := ⟨Reg.MDB_RSIG_LINE s, 0, 12⟩
def MDB_RSIG_LINE_WORD (s : Nat) : Fld := ⟨Reg.MDB_RSIG_LINE s, 12, 10⟩
def MDB_RSIG_SCALE_SCALE (s : Nat) : Fld := ⟨Reg.MDB_RSIG_SCALE s, 0, 32⟩
def MDB_RSIG_OFFSET_OFFSET (s : Nat) : Fld := ⟨Reg.MDB_RSIG_OFFSET s, 0, 32⟩
def EVR_OPSEC_OPSEC : Fld := ⟨Reg.EVR_OPSEC, 0, 32⟩
def EVR_PCYC_PCYC : Fld := ⟨Reg.EVR_PCYC, 0, 24⟩
def EVR_HEAD_HEAD : Fld := ⟨Reg.EVR_HEAD, 0, 32⟩
def EVR_RING_RECORDS : Fld := ⟨Reg.EVR_RING, 0, 13⟩
def EVR_RING_REPEAT : Fld := ⟨Reg.EVR_RING, 16, 16⟩
def EVR_RETIRE_USED : Fld := ⟨Reg.EVR_RETIRE, 0, 11⟩
def EVR_RETIRE_FULL : Fld := ⟨Reg.EVR_RETIRE, 16, 1⟩
def EVR_DEADMAN_SIG_EXP : Fld := ⟨Reg.EVR_DEADMAN, 0, 8⟩
def EVR_DEADMAN_YARD_EXP : Fld := ⟨Reg.EVR_DEADMAN, 8, 8⟩
def EVR_DEADMAN_SIG_ARMED : Fld := ⟨Reg.EVR_DEADMAN, 16, 1⟩
def EVR_DEADMAN_YARD_ARMED : Fld := ⟨Reg.EVR_DEADMAN, 17, 1⟩
def EVR_LATCH_HELD : Fld := ⟨Reg.EVR_LATCH, 0, 7⟩
def EVR_LATCH_MERGED : Fld := ⟨Reg.EVR_LATCH, 16, 16⟩
def EVR_EVT_DEADMAN_EXPIRED : Fld := ⟨Reg.EVR_EVT, 0, 1⟩
def EVR_EVT_DIE_RESTART : Fld := ⟨Reg.EVR_EVT, 1, 1⟩
def EVR_EVT_XO_LOST : Fld := ⟨Reg.EVR_EVT, 2, 1⟩
def EVR_EVT_RETIRED : Fld := ⟨Reg.EVR_EVT, 3, 1⟩
def EVR_EVT_RETIRE_FULL : Fld := ⟨Reg.EVR_EVT, 4, 1⟩
def EVR_EVT_EVENT_LOST : Fld := ⟨Reg.EVR_EVT, 5, 1⟩
def EVR_EVT_FAULT_LOGGED : Fld := ⟨Reg.EVR_EVT, 6, 1⟩
def EVR_EVT_LOG_COMMIT : Fld := ⟨Reg.EVR_EVT, 7, 1⟩
def EVR_COMMIT_LAST : Fld := ⟨Reg.EVR_COMMIT, 0, 32⟩
def UPD_SLOT_ACTIVE (d : Nat) : Fld := ⟨Reg.UPD_SLOT d, 0, 1⟩
def UPD_SLOT_TRIAL (d : Nat) : Fld := ⟨Reg.UPD_SLOT d, 1, 2⟩
def UPD_SLOT_TRIES (d : Nat) : Fld := ⟨Reg.UPD_SLOT d, 3, 2⟩
def UPD_SLOT_HEALTHY (d : Nat) : Fld := ⟨Reg.UPD_SLOT d, 5, 1⟩
def UPD_SLOT_STATE_A (d : Nat) : Fld := ⟨Reg.UPD_SLOT d, 8, 3⟩
def UPD_SLOT_STATE_B (d : Nat) : Fld := ⟨Reg.UPD_SLOT d, 11, 3⟩
def UPD_VER_VERSION (i : Nat) : Fld := ⟨Reg.UPD_VER i, 0, 24⟩
def UPD_VER_ROLLBACK (i : Nat) : Fld := ⟨Reg.UPD_VER i, 24, 8⟩
def UPD_SECURITY_SIG_RB : Fld := ⟨Reg.UPD_SECURITY, 0, 8⟩
def UPD_SECURITY_YARD_RB : Fld := ⟨Reg.UPD_SECURITY, 8, 8⟩
def UPD_SECURITY_REVOKED : Fld := ⟨Reg.UPD_SECURITY, 16, 4⟩
def UPD_PROGRESS_FIRST_MISSING : Fld := ⟨Reg.UPD_PROGRESS, 0, 32⟩
def UPD_RUN_STEP : Fld := ⟨Reg.UPD_RUN, 0, 3⟩
def UPD_RUN_PARKED : Fld := ⟨Reg.UPD_RUN, 3, 1⟩
def UPD_RUN_CURRENT : Fld := ⟨Reg.UPD_RUN, 4, 6⟩
def UPD_RUN_DONE : Fld := ⟨Reg.UPD_RUN, 16, 8⟩
def UPD_RUN_SIG_VERSION : Fld := ⟨Reg.UPD_RUN_SIG, 0, 32⟩
def UPD_RUN_YARD_VERSION : Fld := ⟨Reg.UPD_RUN_YARD, 0, 32⟩
def UPD_EVT_IMAGE_VERIFIED : Fld := ⟨Reg.UPD_EVT, 0, 1⟩
def UPD_EVT_IMAGE_ACTIVATED : Fld := ⟨Reg.UPD_EVT, 1, 1⟩
def UPD_EVT_IMAGE_HEALTHY : Fld := ⟨Reg.UPD_EVT, 2, 1⟩
def UPD_EVT_IMAGE_CONFIRMED : Fld := ⟨Reg.UPD_EVT, 3, 1⟩
def UPD_EVT_FALLBACK : Fld := ⟨Reg.UPD_EVT, 4, 1⟩
def UPD_EVT_RUN_STEP : Fld := ⟨Reg.UPD_EVT, 5, 1⟩
def UPD_EVT_RUN_DONE : Fld := ⟨Reg.UPD_EVT, 6, 1⟩
def UPD_EVT_RUN_ROLLBACK : Fld := ⟨Reg.UPD_EVT, 7, 1⟩
def LIN_CFG_RES_END : Fld := ⟨Reg.LIN_CFG, 0, 16⟩
def LIN_CFG_N_LINE : Fld := ⟨Reg.LIN_CFG, 16, 7⟩
def LIN_STATUS_IN_TIMETABLE : Fld := ⟨Reg.LIN_STATUS, 0, 1⟩
def LIN_STATUS_SYNCED : Fld := ⟨Reg.LIN_STATUS, 1, 1⟩
def LIN_STATUS_LINE_LOST : Fld := ⟨Reg.LIN_STATUS, 2, 1⟩
def LIN_STATUS_E_UP : Fld := ⟨Reg.LIN_STATUS, 3, 1⟩
def LIN_STATUS_W_UP : Fld := ⟨Reg.LIN_STATUS, 4, 1⟩
def LIN_STATUS_E_END : Fld := ⟨Reg.LIN_STATUS, 5, 1⟩
def LIN_STATUS_W_END : Fld := ⟨Reg.LIN_STATUS, 6, 1⟩
def LIN_STATUS_E_RETIRED : Fld := ⟨Reg.LIN_STATUS, 7, 1⟩
def LIN_STATUS_W_RETIRED : Fld := ⟨Reg.LIN_STATUS, 8, 1⟩
def LIN_STATUS_HOLD_OUT : Fld := ⟨Reg.LIN_STATUS, 9, 3⟩
def LIN_STATUS_MIRROR_OK : Fld := ⟨Reg.LIN_STATUS, 12, 1⟩
def LIN_STATUS_MISSED : Fld := ⟨Reg.LIN_STATUS, 16, 8⟩
def LIN_POS_POS_E : Fld := ⟨Reg.LIN_POS, 0, 7⟩
def LIN_POS_HEARD : Fld := ⟨Reg.LIN_POS, 8, 7⟩
def LIN_POS_MASTER_NUM : Fld := ⟨Reg.LIN_POS, 16, 6⟩
def LIN_CYCLE_CYCLE : Fld := ⟨Reg.LIN_CYCLE, 0, 32⟩
def LIN_TIME_LO_TIME_LO : Fld := ⟨Reg.LIN_TIME_LO, 0, 32⟩
def LIN_TIME_HI_TIME_HI : Fld := ⟨Reg.LIN_TIME_HI, 0, 32⟩
def LIN_TERR_TERR : Fld := ⟨Reg.LIN_TERR, 0, 16⟩
def LIN_DELAY_E_DELAY : Fld := ⟨Reg.LIN_DELAY_E, 0, 16⟩
def LIN_DELAY_W_DELAY : Fld := ⟨Reg.LIN_DELAY_W, 0, 16⟩
def LIN_ERR_E_LINK_ERR : Fld := ⟨Reg.LIN_ERR_E, 0, 16⟩
def LIN_ERR_E_MARKED : Fld := ⟨Reg.LIN_ERR_E, 16, 16⟩
def LIN_ERR_W_LINK_ERR : Fld := ⟨Reg.LIN_ERR_W, 0, 16⟩
def LIN_ERR_W_MARKED : Fld := ⟨Reg.LIN_ERR_W, 16, 16⟩
def LIN_DROP_DUPLICATES : Fld := ⟨Reg.LIN_DROP, 0, 16⟩
def LIN_DROP_LATE : Fld := ⟨Reg.LIN_DROP, 16, 8⟩
def LIN_DROP_BE_DROP : Fld := ⟨Reg.LIN_DROP, 24, 8⟩
def LIN_PRESENT_LO_PRESENT : Fld := ⟨Reg.LIN_PRESENT_LO, 0, 32⟩
def LIN_PRESENT_HI_PRESENT : Fld := ⟨Reg.LIN_PRESENT_HI, 0, 32⟩
def LIN_EVT_LINE_LOST : Fld := ⟨Reg.LIN_EVT, 0, 1⟩
def LIN_EVT_LINE_REGAINED : Fld := ⟨Reg.LIN_EVT, 1, 1⟩
def LIN_EVT_WRAP : Fld := ⟨Reg.LIN_EVT, 2, 1⟩
def LIN_EVT_UNWRAP : Fld := ⟨Reg.LIN_EVT, 3, 1⟩
def LIN_EVT_LINK_RETIRED : Fld := ⟨Reg.LIN_EVT, 4, 1⟩
def LIN_EVT_LINK_TRANSIENT : Fld := ⟨Reg.LIN_EVT, 5, 1⟩
def LIN_EVT_STATION_ABSENT : Fld := ⟨Reg.LIN_EVT, 6, 1⟩
def LIN_EVT_STATION_JOINED : Fld := ⟨Reg.LIN_EVT, 7, 1⟩
def LIN_EVT_ROLE_TAKEOVER : Fld := ⟨Reg.LIN_EVT, 8, 1⟩
def LIN_EVT_MASTER_MERGE : Fld := ⟨Reg.LIN_EVT, 9, 1⟩
def LIN_EVT_HELD_OUT : Fld := ⟨Reg.LIN_EVT, 10, 1⟩
def DMA_BUDGET_RES_BW : Fld := ⟨Reg.DMA_BUDGET, 0, 16⟩
def DMA_BUDGET_CAP : Fld := ⟨Reg.DMA_BUDGET, 16, 16⟩
def DMA_ECC_CORRECTED : Fld := ⟨Reg.DMA_ECC, 0, 16⟩
def DMA_ECC_UNCORRECTED : Fld := ⟨Reg.DMA_ECC, 16, 16⟩
def DMA_RETIRED_PAGES : Fld := ⟨Reg.DMA_RETIRED, 0, 16⟩
def DMA_RETIRED_SPARES : Fld := ⟨Reg.DMA_RETIRED, 16, 16⟩
def DMA_EVT_DESC_DONE : Fld := ⟨Reg.DMA_EVT, 0, 1⟩
def DMA_EVT_DESC_BAD : Fld := ⟨Reg.DMA_EVT, 1, 1⟩
def DMA_EVT_DMA_ABANDON : Fld := ⟨Reg.DMA_EVT, 2, 1⟩
def DMA_EVT_ECC_FATAL : Fld := ⟨Reg.DMA_EVT, 3, 1⟩
def DMA_EVT_SPARE_LOW : Fld := ⟨Reg.DMA_EVT, 4, 1⟩
def DMA_CH_CTRL_STOP (c : Nat) : Fld := ⟨Reg.DMA_CH_CTRL c, 0, 1⟩
def DMA_CH_CTRL_STATE (c : Nat) : Fld := ⟨Reg.DMA_CH_CTRL c, 1, 2⟩
def DMA_CH_CFG_CLASS (c : Nat) : Fld := ⟨Reg.DMA_CH_CFG c, 0, 2⟩
def DMA_CH_CFG_REQ (c : Nat) : Fld := ⟨Reg.DMA_CH_CFG c, 2, 6⟩
def DMA_CH_CFG_BURST (c : Nat) : Fld := ⟨Reg.DMA_CH_CFG c, 8, 4⟩
def DMA_CH_RING_PROD (c : Nat) : Fld := ⟨Reg.DMA_CH_RING c, 0, 16⟩
def DMA_CH_RING_CONS (c : Nat) : Fld := ⟨Reg.DMA_CH_RING c, 16, 16⟩
def DMA_CH_DONE_DESCS (c : Nat) : Fld := ⟨Reg.DMA_CH_DONE c, 0, 24⟩
def DMA_CH_DONE_BAD (c : Nat) : Fld := ⟨Reg.DMA_CH_DONE c, 24, 8⟩
def DMA_CH_UNDER_UNDERRUN (c : Nat) : Fld := ⟨Reg.DMA_CH_UNDER c, 0, 32⟩
def DMA_CH_LAST_CODE (c : Nat) : Fld := ⟨Reg.DMA_CH_LAST c, 0, 8⟩
def DMA_CH_LAST_RESIDUE (c : Nat) : Fld := ⟨Reg.DMA_CH_LAST c, 8, 24⟩
def DMA_CH_ABANDON_ABANDONED (c : Nat) : Fld := ⟨Reg.DMA_CH_ABANDON c, 0, 16⟩
def DMA_RING_BASE_LO_BASE (n : Nat) : Fld := ⟨Reg.DMA_RING_BASE_LO n, 0, 32⟩
def DMA_RING_BASE_HI_BASE (n : Nat) : Fld := ⟨Reg.DMA_RING_BASE_HI n, 0, 8⟩
def DMA_RING_CFG_ENTRIES (n : Nat) : Fld := ⟨Reg.DMA_RING_CFG n, 0, 16⟩
def DMA_RING_CFG_ENTRY (n : Nat) : Fld := ⟨Reg.DMA_RING_CFG n, 16, 16⟩
def DMA_RING_IDX_PROD (n : Nat) : Fld := ⟨Reg.DMA_RING_IDX n, 0, 16⟩
def DMA_RING_IDX_CONS (n : Nat) : Fld := ⟨Reg.DMA_RING_IDX n, 16, 16⟩
def DMA_STR_CFG_OPEN (s : Nat) : Fld := ⟨Reg.DMA_STR_CFG s, 0, 1⟩
def DMA_STR_CFG_SOURCE (s : Nat) : Fld := ⟨Reg.DMA_STR_CFG s, 1, 2⟩
def DMA_STR_CFG_SINK (s : Nat) : Fld := ⟨Reg.DMA_STR_CFG s, 3, 1⟩
def DMA_STR_CFG_SLOT (s : Nat) : Fld := ⟨Reg.DMA_STR_CFG s, 4, 5⟩
def DMA_STR_CFG_DECIM (s : Nat) : Fld := ⟨Reg.DMA_STR_CFG s, 16, 8⟩
def DMA_STR_CFG_SESSION (s : Nat) : Fld := ⟨Reg.DMA_STR_CFG s, 24, 8⟩
def DMA_STR_PORT_UDP_PORT (s : Nat) : Fld := ⟨Reg.DMA_STR_PORT s, 0, 16⟩
def DMA_STR_PORT_RATE (s : Nat) : Fld := ⟨Reg.DMA_STR_PORT s, 16, 16⟩
def DMA_STR_UNITS_UNITS (s : Nat) : Fld := ⟨Reg.DMA_STR_UNITS s, 0, 32⟩
def DMA_STR_GAPS_GAPS (s : Nat) : Fld := ⟨Reg.DMA_STR_GAPS s, 0, 32⟩
def FUS_CFG_FRAME_PERIOD : Fld := ⟨Reg.FUS_CFG, 0, 10⟩
def FUS_CFG_STALE_DEF : Fld := ⟨Reg.FUS_CFG, 10, 4⟩
def FUS_CFG_CONTRA_FRAMES : Fld := ⟨Reg.FUS_CFG, 14, 4⟩
def FUS_CFG_FUSE_EN : Fld := ⟨Reg.FUS_CFG, 18, 1⟩
def FUS_GRID_AHEAD_X0 : Fld := ⟨Reg.FUS_GRID, 0, 16⟩
def FUS_GRID_GROUND_Z : Fld := ⟨Reg.FUS_GRID, 16, 16⟩
def FUS_STATUS_FRAME : Fld := ⟨Reg.FUS_STATUS, 0, 16⟩
def FUS_STATUS_GRID_VALID : Fld := ⟨Reg.FUS_STATUS, 16, 1⟩
def FUS_STATUS_OVERRUNS : Fld := ⟨Reg.FUS_STATUS, 24, 8⟩
def FUS_CELLS_STALE_CELLS : Fld := ⟨Reg.FUS_CELLS, 0, 14⟩
def FUS_CELLS_CONTRA_CELLS : Fld := ⟨Reg.FUS_CELLS, 16, 14⟩
def FUS_EVT_STREAM_LOST : Fld := ⟨Reg.FUS_EVT, 0, 1⟩
def FUS_EVT_STREAM_RECONNECTED : Fld := ⟨Reg.FUS_EVT, 1, 1⟩
def FUS_EVT_STREAM_RETIRED : Fld := ⟨Reg.FUS_EVT, 2, 1⟩
def FUS_EVT_SOURCE_STALE : Fld := ⟨Reg.FUS_EVT, 3, 1⟩
def FUS_EVT_SKEW : Fld := ⟨Reg.FUS_EVT, 4, 1⟩
def FUS_EVT_CONTRADICTION : Fld := ⟨Reg.FUS_EVT, 5, 1⟩
def FUS_EVT_CONTRA_CLEAR : Fld := ⟨Reg.FUS_EVT, 6, 1⟩
def FUS_EVT_FRAME_OVERRUN : Fld := ⟨Reg.FUS_EVT, 7, 1⟩
def FUS_EVT_TILE_FOREIGN : Fld := ⟨Reg.FUS_EVT, 8, 1⟩
def FUS_STR_CFG_KIND (s : Nat) : Fld := ⟨Reg.FUS_STR_CFG s, 0, 4⟩
def FUS_STR_CFG_INDEX (s : Nat) : Fld := ⟨Reg.FUS_STR_CFG s, 4, 4⟩
def FUS_STR_CFG_MODEL (s : Nat) : Fld := ⟨Reg.FUS_STR_CFG s, 8, 6⟩
def FUS_STR_CFG_MODE (s : Nat) : Fld := ⟨Reg.FUS_STR_CFG s, 14, 2⟩
def FUS_STR_CFG_GRID (s : Nat) : Fld := ⟨Reg.FUS_STR_CFG s, 16, 1⟩
def FUS_STR_CFG_HEIGHT (s : Nat) : Fld := ⟨Reg.FUS_STR_CFG s, 17, 1⟩
def FUS_STR_CFG_BLOCK_LOG2 (s : Nat) : Fld := ⟨Reg.FUS_STR_CFG s, 18, 4⟩
def FUS_STR_CFG_SHIFT (s : Nat) : Fld := ⟨Reg.FUS_STR_CFG s, 22, 4⟩
def FUS_STR_WIN_X0 (s : Nat) : Fld := ⟨Reg.FUS_STR_WIN s, 0, 8⟩
def FUS_STR_WIN_W (s : Nat) : Fld := ⟨Reg.FUS_STR_WIN s, 8, 8⟩
def FUS_STR_WIN_Y0 (s : Nat) : Fld := ⟨Reg.FUS_STR_WIN s, 16, 6⟩
def FUS_STR_WIN_H (s : Nat) : Fld := ⟨Reg.FUS_STR_WIN s, 22, 7⟩
def FUS_STR_LINE_ENTRY (s : Nat) : Fld := ⟨Reg.FUS_STR_LINE s, 0, 12⟩
def FUS_STR_LINE_WORD (s : Nat) : Fld := ⟨Reg.FUS_STR_LINE s, 12, 10⟩
def FUS_STR_LINE_WORDS (s : Nat) : Fld := ⟨Reg.FUS_STR_LINE s, 22, 10⟩
def FUS_STR_STATE_STATE (s : Nat) : Fld := ⟨Reg.FUS_STR_STATE s, 0, 3⟩
def FUS_STR_STATE_SKIPS (s : Nat) : Fld := ⟨Reg.FUS_STR_STATE s, 8, 8⟩
def FUS_STR_STATE_RECONNECTS (s : Nat) : Fld := ⟨Reg.FUS_STR_STATE s, 16, 8⟩
def FUS_STR_STAMP_LO_STAMP (s : Nat) : Fld := ⟨Reg.FUS_STR_STAMP_LO s, 0, 32⟩
def FUS_STR_STAMP_HI_STAMP (s : Nat) : Fld := ⟨Reg.FUS_STR_STAMP_HI s, 0, 32⟩
def FUS_STR_STIME_LO_SENSOR_TIME (s : Nat) : Fld := ⟨Reg.FUS_STR_STIME_LO s, 0, 32⟩
def FUS_STR_STIME_HI_SENSOR_TIME (s : Nat) : Fld := ⟨Reg.FUS_STR_STIME_HI s, 0, 32⟩
def FUS_LIDAR_PORT_UDP_PORT : Fld := ⟨Reg.FUS_LIDAR_PORT, 0, 16⟩
def FUS_LIDAR_PORT_SWEEP_PKTS : Fld := ⟨Reg.FUS_LIDAR_PORT, 16, 16⟩
def FUS_LIDAR_FMT_HDR_LEN : Fld := ⟨Reg.FUS_LIDAR_FMT, 0, 8⟩
def FUS_LIDAR_FMT_STRIDE : Fld := ⟨Reg.FUS_LIDAR_FMT, 8, 8⟩
def FUS_LIDAR_FMT_XYZ_OFF : Fld := ⟨Reg.FUS_LIDAR_FMT, 16, 8⟩
def FUS_LIDAR_FMT_I_OFF : Fld := ⟨Reg.FUS_LIDAR_FMT, 24, 8⟩
def FUS_LIDAR_STIME_STIME_OFF : Fld := ⟨Reg.FUS_LIDAR_STIME, 0, 8⟩
def FUS_HMAP_LO (n : Nat) : Fld := ⟨Reg.FUS_HMAP n, 0, 16⟩
def FUS_HMAP_HI (n : Nat) : Fld := ⟨Reg.FUS_HMAP n, 16, 16⟩
def FUS_PRJ_TX_TX (s : Nat) : Fld := ⟨Reg.FUS_PRJ_TX s, 0, 32⟩
def FUS_PRJ_TY_TY (s : Nat) : Fld := ⟨Reg.FUS_PRJ_TY s, 0, 32⟩
def FUS_PRJ_TZ_TZ (s : Nat) : Fld := ⟨Reg.FUS_PRJ_TZ s, 0, 32⟩
def FUS_PRJ_QW_QW (s : Nat) : Fld := ⟨Reg.FUS_PRJ_QW s, 0, 32⟩
def FUS_PRJ_QX_QX (s : Nat) : Fld := ⟨Reg.FUS_PRJ_QX s, 0, 32⟩
def FUS_PRJ_QY_QY (s : Nat) : Fld := ⟨Reg.FUS_PRJ_QY s, 0, 32⟩
def FUS_PRJ_QZ_QZ (s : Nat) : Fld := ⟨Reg.FUS_PRJ_QZ s, 0, 32⟩
def FUS_PRJ_FX_FX (s : Nat) : Fld := ⟨Reg.FUS_PRJ_FX s, 0, 32⟩
def FUS_PRJ_FY_FY (s : Nat) : Fld := ⟨Reg.FUS_PRJ_FY s, 0, 32⟩
def FUS_PRJ_CX_CX (s : Nat) : Fld := ⟨Reg.FUS_PRJ_CX s, 0, 32⟩
def FUS_PRJ_CY_CY (s : Nat) : Fld := ⟨Reg.FUS_PRJ_CY s, 0, 32⟩
def FUS_PRJ_K1_K1 (s : Nat) : Fld := ⟨Reg.FUS_PRJ_K1 s, 0, 32⟩
def FUS_PRJ_K2_K2 (s : Nat) : Fld := ⟨Reg.FUS_PRJ_K2 s, 0, 32⟩
def FUS_PRJ_K3_K3 (s : Nat) : Fld := ⟨Reg.FUS_PRJ_K3 s, 0, 32⟩
def FUS_PRJ_P1_P1 (s : Nat) : Fld := ⟨Reg.FUS_PRJ_P1 s, 0, 32⟩
def FUS_PRJ_P2_P2 (s : Nat) : Fld := ⟨Reg.FUS_PRJ_P2 s, 0, 32⟩
def FUS_PRJ_IMG_IMG_W (s : Nat) : Fld := ⟨Reg.FUS_PRJ_IMG s, 0, 16⟩
def FUS_PRJ_IMG_IMG_H (s : Nat) : Fld := ⟨Reg.FUS_PRJ_IMG s, 16, 16⟩
def FUS_PRJ_FEAT_STRIDE_LOG2 (s : Nat) : Fld := ⟨Reg.FUS_PRJ_FEAT s, 0, 3⟩
def FUS_TBL_REG_W1 (n : Nat) : Fld := ⟨Reg.FUS_TBL n, 0, 4⟩
def FUS_TBL_REG_H1 (n : Nat) : Fld := ⟨Reg.FUS_TBL n, 4, 4⟩
def FUS_SRC_JOIN (k : Nat) : Fld := ⟨Reg.FUS_SRC k, 0, 6⟩
def FUS_SRC_SLOT (k : Nat) : Fld := ⟨Reg.FUS_SRC k, 6, 5⟩
def FUS_SRC_EN (k : Nat) : Fld := ⟨Reg.FUS_SRC k, 11, 1⟩
def FUS_SRC_KIND (k : Nat) : Fld := ⟨Reg.FUS_SRC k, 12, 4⟩
def FUS_SRC_TRUST (k : Nat) : Fld := ⟨Reg.FUS_SRC k, 16, 4⟩
def FUS_SRC_STALE (k : Nat) : Fld := ⟨Reg.FUS_SRC k, 20, 4⟩
def FUS_RULE_KIND_A (r : Nat) : Fld := ⟨Reg.FUS_RULE r, 0, 4⟩
def FUS_RULE_CHAN_A (r : Nat) : Fld := ⟨Reg.FUS_RULE r, 4, 4⟩
def FUS_RULE_KIND_B (r : Nat) : Fld := ⟨Reg.FUS_RULE r, 8, 4⟩
def FUS_RULE_CHAN_B (r : Nat) : Fld := ⟨Reg.FUS_RULE r, 12, 4⟩
def FUS_RULE_THRESH (r : Nat) : Fld := ⟨Reg.FUS_RULE r, 16, 8⟩
def FUS_RULE_EN (r : Nat) : Fld := ⟨Reg.FUS_RULE r, 24, 1⟩
def SET_CFG_STEP_PERIOD : Fld := ⟨Reg.SET_CFG, 0, 9⟩
def SET_CFG_EVAL_WIN : Fld := ⟨Reg.SET_CFG, 9, 10⟩
def SET_CFG_MAX_CHANGES : Fld := ⟨Reg.SET_CFG, 19, 4⟩
def SET_CFG_BACKOFF : Fld := ⟨Reg.SET_CFG, 23, 4⟩
def SET_CFG_SET_EN : Fld := ⟨Reg.SET_CFG, 27, 1⟩
def SET_POLICY_POLICY : Fld := ⟨Reg.SET_POLICY, 0, 6⟩
def SET_POLICY_FREEZE_HOLD : Fld := ⟨Reg.SET_POLICY, 8, 10⟩
def SET_TOL_ABS_TOL : Fld := ⟨Reg.SET_TOL, 0, 16⟩
def SET_TOL_TOL : Fld := ⟨Reg.SET_TOL, 16, 10⟩
def SET_FLOW_FLOW_REF : Fld := ⟨Reg.SET_FLOW, 0, 16⟩
def SET_FLOW_FLOW_TOL : Fld := ⟨Reg.SET_FLOW, 16, 10⟩
def SET_HEAD_HEAD_ENTRY : Fld := ⟨Reg.SET_HEAD, 0, 12⟩
def SET_HEAD_HEAD_WORD : Fld := ⟨Reg.SET_HEAD, 12, 10⟩
def SET_HEAD_HEAD_EN : Fld := ⟨Reg.SET_HEAD, 22, 1⟩
def SET_HEAD_ON_ON : Fld := ⟨Reg.SET_HEAD_ON, 0, 32⟩
def SET_HEAD_OFF_OFF : Fld := ⟨Reg.SET_HEAD_OFF, 0, 32⟩
def SET_CTRL_HEADLAND_FORCE : Fld := ⟨Reg.SET_CTRL, 0, 1⟩
def SET_STATUS_ENGINE : Fld := ⟨Reg.SET_STATUS, 0, 2⟩
def SET_STATUS_HEADLAND : Fld := ⟨Reg.SET_STATUS, 2, 1⟩
def SET_STATUS_MEASURES_OK : Fld := ⟨Reg.SET_STATUS, 3, 1⟩
def SET_STATUS_CHANGED : Fld := ⟨Reg.SET_STATUS, 4, 4⟩
def SET_STATUS_AUTO : Fld := ⟨Reg.SET_STATUS, 8, 8⟩
def SET_STATUS_FROZEN : Fld := ⟨Reg.SET_STATUS, 16, 8⟩
def SET_EVAL_EVAL : Fld := ⟨Reg.SET_EVAL, 0, 32⟩
def SET_COUNT_KEPT : Fld := ⟨Reg.SET_COUNT, 0, 16⟩
def SET_COUNT_REVERTED : Fld := ⟨Reg.SET_COUNT, 16, 16⟩
def SET_COUNT2_INCONCLUSIVE : Fld := ⟨Reg.SET_COUNT2, 0, 8⟩
def SET_COUNT2_ABANDONED : Fld := ⟨Reg.SET_COUNT2, 8, 8⟩
def SET_COUNT2_STEP_SKIPS : Fld := ⟨Reg.SET_COUNT2, 16, 8⟩
def SET_EVT_FREEZE : Fld := ⟨Reg.SET_EVT, 0, 1⟩
def SET_EVT_UNFREEZE : Fld := ⟨Reg.SET_EVT, 1, 1⟩
def SET_EVT_STEP_KEPT : Fld := ⟨Reg.SET_EVT, 2, 1⟩
def SET_EVT_STEP_REVERTED : Fld := ⟨Reg.SET_EVT, 3, 1⟩
def SET_EVT_STEP_INCONCLUSIVE : Fld := ⟨Reg.SET_EVT, 4, 1⟩
def SET_EVT_STEP_ABANDONED : Fld := ⟨Reg.SET_EVT, 5, 1⟩
def SET_EVT_OVERRIDE : Fld := ⟨Reg.SET_EVT, 6, 1⟩
def SET_EVT_AUTO_RETURN : Fld := ⟨Reg.SET_EVT, 7, 1⟩
def SET_EVT_AUTO_DROPPED : Fld := ⟨Reg.SET_EVT, 8, 1⟩
def SET_EVT_STEP_SKIP : Fld := ⟨Reg.SET_EVT, 9, 1⟩
def SET_EVT_HEADLAND_IN : Fld := ⟨Reg.SET_EVT, 10, 1⟩
def SET_EVT_HEADLAND_OUT : Fld := ⟨Reg.SET_EVT, 11, 1⟩
def SET_EVT_PATH_FAULT : Fld := ⟨Reg.SET_EVT, 12, 1⟩
def SET_FN_TARGET_TARGET (n : Nat) : Fld := ⟨Reg.SET_FN_TARGET n, 0, 32⟩
def SET_FN_SENT_SENT (n : Nat) : Fld := ⟨Reg.SET_FN_SENT n, 0, 32⟩
def SET_FN_START_START (n : Nat) : Fld := ⟨Reg.SET_FN_START n, 0, 32⟩
def SET_FN_STATE_MODE (n : Nat) : Fld := ⟨Reg.SET_FN_STATE n, 0, 2⟩
def SET_FN_STATE_PENDING (n : Nat) : Fld := ⟨Reg.SET_FN_STATE n, 2, 1⟩
def SET_FN_STATE_SETTLING (n : Nat) : Fld := ⟨Reg.SET_FN_STATE n, 3, 1⟩
def SET_FN_STATE_CAUSES (n : Nat) : Fld := ⟨Reg.SET_FN_STATE n, 4, 7⟩
def SET_FN_STATE_LAST (n : Nat) : Fld := ⟨Reg.SET_FN_STATE n, 12, 2⟩
def SET_FN_STATE_BAR_DIR (n : Nat) : Fld := ⟨Reg.SET_FN_STATE n, 14, 2⟩
def SET_FN_STATE_BAR_LEFT (n : Nat) : Fld := ⟨Reg.SET_FN_STATE n, 16, 4⟩
def GNS_CFG_EN : Fld := ⟨Reg.GNS_CFG, 0, 1⟩
def GNS_CFG_CONST : Fld := ⟨Reg.GNS_CFG, 1, 4⟩
def GNS_CFG_BANDS : Fld := ⟨Reg.GNS_CFG, 5, 2⟩
def GNS_CFG_EPOCH : Fld := ⟨Reg.GNS_CFG, 7, 3⟩
def GNS_CFG_ELEV : Fld := ⟨Reg.GNS_CFG, 10, 6⟩
def GNS_CFG_CN0_MIN : Fld := ⟨Reg.GNS_CFG, 16, 6⟩
def GNS_ANT_CFG_BIAS_A : Fld := ⟨Reg.GNS_ANT_CFG, 0, 1⟩
def GNS_ANT_CFG_BIAS_B : Fld := ⟨Reg.GNS_ANT_CFG, 1, 1⟩
def GNS_ANT_CFG_ANT_DELAY : Fld := ⟨Reg.GNS_ANT_CFG, 8, 10⟩
def GNS_RTK_CFG_SRC1 : Fld := ⟨Reg.GNS_RTK_CFG, 0, 2⟩
def GNS_RTK_CFG_SRC2 : Fld := ⟨Reg.GNS_RTK_CFG, 2, 2⟩
def GNS_RTK_CFG_SRC3 : Fld := ⟨Reg.GNS_RTK_CFG, 4, 2⟩
def GNS_RTK_CFG_AGE_MAX : Fld := ⟨Reg.GNS_RTK_CFG, 8, 8⟩
def GNS_RTK_CFG_BASE_ID : Fld := ⟨Reg.GNS_RTK_CFG, 16, 12⟩
def GNS_RTK_CFG_BASE_FILT : Fld := ⟨Reg.GNS_RTK_CFG, 28, 1⟩
def GNS_PPS_CFG_PPS_EN : Fld := ⟨Reg.GNS_PPS_CFG, 0, 1⟩
def GNS_ANT_A_X_V : Fld := ⟨Reg.GNS_ANT_A_X, 0, 32⟩
def GNS_ANT_A_Y_V : Fld := ⟨Reg.GNS_ANT_A_Y, 0, 32⟩
def GNS_ANT_A_Z_V : Fld := ⟨Reg.GNS_ANT_A_Z, 0, 32⟩
def GNS_ANT_B_X_V : Fld := ⟨Reg.GNS_ANT_B_X, 0, 32⟩
def GNS_ANT_B_Y_V : Fld := ⟨Reg.GNS_ANT_B_Y, 0, 32⟩
def GNS_ANT_B_Z_V : Fld := ⟨Reg.GNS_ANT_B_Z, 0, 32⟩
def GNS_IMU_TX_V : Fld := ⟨Reg.GNS_IMU_TX, 0, 32⟩
def GNS_IMU_TY_V : Fld := ⟨Reg.GNS_IMU_TY, 0, 32⟩
def GNS_IMU_TZ_V : Fld := ⟨Reg.GNS_IMU_TZ, 0, 32⟩
def GNS_IMU_QW_V : Fld := ⟨Reg.GNS_IMU_QW, 0, 32⟩
def GNS_IMU_QX_V : Fld := ⟨Reg.GNS_IMU_QX, 0, 32⟩
def GNS_IMU_QY_V : Fld := ⟨Reg.GNS_IMU_QY, 0, 32⟩
def GNS_IMU_QZ_V : Fld := ⟨Reg.GNS_IMU_QZ, 0, 32⟩
def GNS_PPS_DELAY_DELAY : Fld := ⟨Reg.GNS_PPS_DELAY, 0, 32⟩
def GNS_STATUS_TSTATE : Fld := ⟨Reg.GNS_STATUS, 0, 3⟩
def GNS_STATUS_TIME_VALID : Fld := ⟨Reg.GNS_STATUS, 3, 1⟩
def GNS_STATUS_SLEWING : Fld := ⟨Reg.GNS_STATUS, 4, 1⟩
def GNS_STATUS_FIX : Fld := ⟨Reg.GNS_STATUS, 5, 3⟩
def GNS_STATUS_HEADING_VALID : Fld := ⟨Reg.GNS_STATUS, 8, 1⟩
def GNS_STATUS_CORR_OK : Fld := ⟨Reg.GNS_STATUS, 9, 1⟩
def GNS_STATUS_SATS : Fld := ⟨Reg.GNS_STATUS, 10, 6⟩
def GNS_STATUS_CHANNELS : Fld := ⟨Reg.GNS_STATUS, 16, 8⟩
def GNS_TERR_TERR : Fld := ⟨Reg.GNS_TERR, 0, 32⟩
def GNS_OFFSET_OFFSET : Fld := ⟨Reg.GNS_OFFSET, 0, 32⟩
def GNS_HOLD_HOLD_S : Fld := ⟨Reg.GNS_HOLD, 0, 32⟩
def GNS_TOP_LO_TOP : Fld := ⟨Reg.GNS_TOP_LO, 0, 32⟩
def GNS_TOP_HI_TOP : Fld := ⟨Reg.GNS_TOP_HI, 0, 32⟩
def GNS_TOP_FLAGS_LOCK : Fld := ⟨Reg.GNS_TOP_FLAGS, 0, 1⟩
def GNS_TOP_FLAGS_HOLDOVER : Fld := ⟨Reg.GNS_TOP_FLAGS, 1, 1⟩
def GNS_TOP_FLAGS_RESYNC : Fld := ⟨Reg.GNS_TOP_FLAGS, 2, 1⟩
def GNS_TOP_FLAGS_SLEWING : Fld := ⟨Reg.GNS_TOP_FLAGS, 3, 1⟩
def GNS_TOP_FLAGS_TERR_P : Fld := ⟨Reg.GNS_TOP_FLAGS, 16, 16⟩
def GNS_LEAP_LEAP : Fld := ⟨Reg.GNS_LEAP, 0, 8⟩
def GNS_LEAP_LEAP_VALID : Fld := ⟨Reg.GNS_LEAP, 8, 1⟩
def GNS_LAT_LO_LAT : Fld := ⟨Reg.GNS_LAT_LO, 0, 32⟩
def GNS_LAT_HI_LAT : Fld := ⟨Reg.GNS_LAT_HI, 0, 32⟩
def GNS_LON_LO_LON : Fld := ⟨Reg.GNS_LON_LO, 0, 32⟩
def GNS_LON_HI_LON : Fld := ⟨Reg.GNS_LON_HI, 0, 32⟩
def GNS_HGT_HGT : Fld := ⟨Reg.GNS_HGT, 0, 32⟩
def GNS_HDG_HEADING : Fld := ⟨Reg.GNS_HDG, 0, 19⟩
def GNS_ATT_ROLL : Fld := ⟨Reg.GNS_ATT, 0, 16⟩
def GNS_ATT_PITCH : Fld := ⟨Reg.GNS_ATT, 16, 16⟩
def GNS_VEL_SPEED : Fld := ⟨Reg.GNS_VEL, 0, 16⟩
def GNS_ANT_STAT_CUR_A : Fld := ⟨Reg.GNS_ANT_STAT, 0, 8⟩
def GNS_ANT_STAT_CUR_B : Fld := ⟨Reg.GNS_ANT_STAT, 8, 8⟩
def GNS_ANT_STAT_OPEN_A : Fld := ⟨Reg.GNS_ANT_STAT, 16, 1⟩
def GNS_ANT_STAT_SHORT_A : Fld := ⟨Reg.GNS_ANT_STAT, 17, 1⟩
def GNS_ANT_STAT_OPEN_B : Fld := ⟨Reg.GNS_ANT_STAT, 18, 1⟩
def GNS_ANT_STAT_SHORT_B : Fld := ⟨Reg.GNS_ANT_STAT, 19, 1⟩
def GNS_CORR_BASE : Fld := ⟨Reg.GNS_CORR, 0, 12⟩
def GNS_CORR_SRC : Fld := ⟨Reg.GNS_CORR, 12, 2⟩
def GNS_CORR_AGE : Fld := ⟨Reg.GNS_CORR, 16, 16⟩
def GNS_RTCM_CNT_ACCEPTED : Fld := ⟨Reg.GNS_RTCM_CNT, 0, 16⟩
def GNS_RTCM_CNT_CRC_FAIL : Fld := ⟨Reg.GNS_RTCM_CNT, 16, 8⟩
def GNS_RTCM_CNT_UNSUPPORTED : Fld := ⟨Reg.GNS_RTCM_CNT, 24, 8⟩
def GNS_STEER_SP_SP_ENTRY : Fld := ⟨Reg.GNS_STEER_SP, 0, 12⟩
def GNS_STEER_SP_SP_WORD : Fld := ⟨Reg.GNS_STEER_SP, 12, 10⟩
def GNS_STEER_SP_STATION : Fld := ⟨Reg.GNS_STEER_SP, 22, 6⟩
def GNS_STEER_SP_S_EN : Fld := ⟨Reg.GNS_STEER_SP, 31, 1⟩
def GNS_STEER_FB_FB_ENTRY : Fld := ⟨Reg.GNS_STEER_FB, 0, 12⟩
def GNS_STEER_FB_FB_WORD : Fld := ⟨Reg.GNS_STEER_FB, 12, 10⟩
def GNS_STEER_ST_ST_ENTRY : Fld := ⟨Reg.GNS_STEER_ST, 0, 12⟩
def GNS_STEER_ST_ST_WORD : Fld := ⟨Reg.GNS_STEER_ST, 12, 10⟩
def GNS_STEER_ST_ST_MASK : Fld := ⟨Reg.GNS_STEER_ST, 22, 8⟩
def GNS_STEER_OVR_OV_ENTRY : Fld := ⟨Reg.GNS_STEER_OVR, 0, 12⟩
def GNS_STEER_OVR_OV_WORD : Fld := ⟨Reg.GNS_STEER_OVR, 12, 10⟩
def GNS_STEER_OVR_OV_EN : Fld := ⟨Reg.GNS_STEER_OVR, 22, 1⟩
def GNS_STEER_OVR_OV_TIME : Fld := ⟨Reg.GNS_STEER_OVR, 23, 5⟩
def GNS_STEER_OVR_THR_OV_THR : Fld := ⟨Reg.GNS_STEER_OVR_THR, 0, 32⟩
def GNS_STEER_EN_EN_A : Fld := ⟨Reg.GNS_STEER_EN, 0, 4⟩
def GNS_STEER_EN_EN_B : Fld := ⟨Reg.GNS_STEER_EN, 4, 4⟩
def GNS_STEER_EN_B_USED : Fld := ⟨Reg.GNS_STEER_EN, 8, 1⟩
def GNS_STEER_GEOM_WB : Fld := ⟨Reg.GNS_STEER_GEOM, 0, 14⟩
def GNS_STEER_GEOM_SIGN : Fld := ⟨Reg.GNS_STEER_GEOM, 14, 1⟩
def GNS_STEER_GEOM_CP_X : Fld := ⟨Reg.GNS_STEER_GEOM, 16, 16⟩
def GNS_STEER_LIM_DELTA_MAX : Fld := ⟨Reg.GNS_STEER_LIM, 0, 13⟩
def GNS_STEER_LIM_DELTA_RATE : Fld := ⟨Reg.GNS_STEER_LIM, 16, 16⟩
def GNS_STEER_KX_KX : Fld := ⟨Reg.GNS_STEER_KX, 0, 32⟩
def GNS_STEER_KH_KH : Fld := ⟨Reg.GNS_STEER_KH, 0, 32⟩
def GNS_STEER_ENG_ENG_XTE : Fld := ⟨Reg.GNS_STEER_ENG, 0, 10⟩
def GNS_STEER_ENG_REL_XTE : Fld := ⟨Reg.GNS_STEER_ENG, 10, 10⟩
def GNS_STEER_ENG_ENG_HE : Fld := ⟨Reg.GNS_STEER_ENG, 20, 6⟩
def GNS_STEER_ENG_FIX_MIN : Fld := ⟨Reg.GNS_STEER_ENG, 26, 3⟩
def GNS_STEER_SPD_SPEED_MIN : Fld := ⟨Reg.GNS_STEER_SPD, 0, 8⟩
def GNS_STEER_SPD_SPEED_MAX : Fld := ⟨Reg.GNS_STEER_SPD, 8, 10⟩
def GNS_STEER_SPD_FIX_GRACE : Fld := ⟨Reg.GNS_STEER_SPD, 18, 7⟩
def GNS_EDGE_CHAN : Fld := ⟨Reg.GNS_EDGE, 0, 4⟩
def GNS_EDGE_THR : Fld := ⟨Reg.GNS_EDGE, 4, 8⟩
def GNS_EDGE_J0 : Fld := ⟨Reg.GNS_EDGE, 12, 6⟩
def GNS_EDGE_J1 : Fld := ⟨Reg.GNS_EDGE, 18, 6⟩
def GNS_EDGE_MIN_ROWS : Fld := ⟨Reg.GNS_EDGE, 24, 7⟩
def GNS_EDGE2_HOLD : Fld := ⟨Reg.GNS_EDGE2, 0, 7⟩
def GNS_STEER_STATUS_ENGAGED : Fld := ⟨Reg.GNS_STEER_STATUS, 0, 1⟩
def GNS_STEER_STATUS_EDGE_HOLD : Fld := ⟨Reg.GNS_STEER_STATUS, 1, 1⟩
def GNS_STEER_STATUS_BLEND : Fld := ⟨Reg.GNS_STEER_STATUS, 2, 1⟩
def GNS_STEER_STATUS_GRACE : Fld := ⟨Reg.GNS_STEER_STATUS, 3, 1⟩
def GNS_STEER_STATUS_MODE : Fld := ⟨Reg.GNS_STEER_STATUS, 4, 4⟩
def GNS_STEER_STATUS_REASON : Fld := ⟨Reg.GNS_STEER_STATUS, 8, 8⟩
def GNS_STEER_STATUS_PASS : Fld := ⟨Reg.GNS_STEER_STATUS, 16, 16⟩
def GNS_STEER_XTE_XTE : Fld := ⟨Reg.GNS_STEER_XTE, 0, 32⟩
def GNS_STEER_HE_HE : Fld := ⟨Reg.GNS_STEER_HE, 0, 32⟩
def GNS_STEER_DELTA_DELTA : Fld := ⟨Reg.GNS_STEER_DELTA, 0, 32⟩
def GNS_GUIDE_ID_GUIDE_ID : Fld := ⟨Reg.GNS_GUIDE_ID, 0, 32⟩
def GNS_EVT_TIME_ALIGNED : Fld := ⟨Reg.GNS_EVT, 0, 1⟩
def GNS_EVT_HOLDOVER_IN : Fld := ⟨Reg.GNS_EVT, 1, 1⟩
def GNS_EVT_TIME_SLEW : Fld := ⟨Reg.GNS_EVT, 2, 1⟩
def GNS_EVT_TIME_RESYNC : Fld := ⟨Reg.GNS_EVT, 3, 1⟩
def GNS_EVT_FIX_CHANGE : Fld := ⟨Reg.GNS_EVT, 4, 1⟩
def GNS_EVT_HEADING_LOST : Fld := ⟨Reg.GNS_EVT, 5, 1⟩
def GNS_EVT_CORR_STALE : Fld := ⟨Reg.GNS_EVT, 6, 1⟩
def GNS_EVT_ANT_FAULT : Fld := ⟨Reg.GNS_EVT, 7, 1⟩
def GNS_EVT_STEER_ENGAGED : Fld := ⟨Reg.GNS_EVT, 8, 1⟩
def GNS_EVT_STEER_RELEASED : Fld := ⟨Reg.GNS_EVT, 9, 1⟩
def GNS_EVT_EDGE_HOLD : Fld := ⟨Reg.GNS_EVT, 10, 1⟩
def GNS_CH_SIG_SIG (n : Nat) : Fld := ⟨Reg.GNS_CH_SIG n, 0, 4⟩
def GNS_CH_SIG_SV (n : Nat) : Fld := ⟨Reg.GNS_CH_SIG n, 4, 8⟩
def GNS_CH_SIG_ANT (n : Nat) : Fld := ⟨Reg.GNS_CH_SIG n, 12, 1⟩
def GNS_CH_SIG_STATE (n : Nat) : Fld := ⟨Reg.GNS_CH_SIG n, 13, 3⟩
def GNS_CH_SIG_CN0 (n : Nat) : Fld := ⟨Reg.GNS_CH_SIG n, 16, 8⟩
def GNS_CH_SIG_SLIP (n : Nat) : Fld := ⟨Reg.GNS_CH_SIG n, 24, 1⟩
def GNS_CH_DOP_DOPPLER (n : Nat) : Fld := ⟨Reg.GNS_CH_DOP n, 0, 32⟩
def GNS_CH_LOCK_LOCK_MS (n : Nat) : Fld := ⟨Reg.GNS_CH_LOCK n, 0, 32⟩
def YLD_CFG_EN : Fld := ⟨Reg.YLD_CFG, 0, 1⟩
def YLD_CFG_MAP_FIX_MIN : Fld := ⟨Reg.YLD_CFG, 1, 3⟩
def YLD_CFG_HEAD_ZERO : Fld := ⟨Reg.YLD_CFG, 4, 1⟩
def YLD_CFG_SECTIONS : Fld := ⟨Reg.YLD_CFG, 5, 5⟩
def YLD_FLOW_FLOW_ENTRY : Fld := ⟨Reg.YLD_FLOW, 0, 12⟩
def YLD_FLOW_FLOW_WORD : Fld := ⟨Reg.YLD_FLOW, 12, 10⟩
def YLD_MOIST_MOIST_ENTRY : Fld := ⟨Reg.YLD_MOIST, 0, 12⟩
def YLD_MOIST_MOIST_WORD : Fld := ⟨Reg.YLD_MOIST, 12, 10⟩
def YLD_MOIST_MOIST_EN : Fld := ⟨Reg.YLD_MOIST, 22, 1⟩
def YLD_SECT_SECT_ENTRY : Fld := ⟨Reg.YLD_SECT, 0, 12⟩
def YLD_SECT_SECT_WORD : Fld := ⟨Reg.YLD_SECT, 12, 10⟩
def YLD_DELAY_FLOW_DELAY : Fld := ⟨Reg.YLD_DELAY, 0, 9⟩
def YLD_DELAY_MOIST_DELAY : Fld := ⟨Reg.YLD_DELAY, 16, 9⟩
def YLD_CAL_FACTOR : Fld := ⟨Reg.YLD_CAL, 0, 16⟩
def YLD_CAL_CUT_X : Fld := ⟨Reg.YLD_CAL, 16, 16⟩
def YLD_SEC_WIDTH (s : Nat) : Fld := ⟨Reg.YLD_SEC s, 0, 16⟩
def YLD_SEC_OFF_Y (s : Nat) : Fld := ⟨Reg.YLD_SEC s, 16, 16⟩
def YLD_STATUS_OPEN : Fld := ⟨Reg.YLD_STATUS, 0, 1⟩
def YLD_STATUS_MAPPING : Fld := ⟨Reg.YLD_STATUS, 1, 1⟩
def YLD_STATUS_FIELDS : Fld := ⟨Reg.YLD_STATUS, 16, 8⟩
def YLD_FIELD_ID_FIELD_ID : Fld := ⟨Reg.YLD_FIELD_ID, 0, 32⟩
def YLD_MASS_MASS : Fld := ⟨Reg.YLD_MASS, 0, 32⟩
def YLD_UNMAPPED_UNMAPPED : Fld := ⟨Reg.YLD_UNMAPPED, 0, 32⟩
def YLD_AREA_AREA : Fld := ⟨Reg.YLD_AREA, 0, 32⟩
def YLD_NOW_FLOW_NOW : Fld := ⟨Reg.YLD_NOW, 0, 16⟩
def YLD_NOW_MOIST_NOW : Fld := ⟨Reg.YLD_NOW, 16, 16⟩
def YLD_TILES_TILES : Fld := ⟨Reg.YLD_TILES, 0, 16⟩
def YLD_TILES_STORE_FREE : Fld := ⟨Reg.YLD_TILES, 16, 16⟩
def YLD_EVT_FIELD_OPENED : Fld := ⟨Reg.YLD_EVT, 0, 1⟩
def YLD_EVT_FIELD_CLOSED : Fld := ⟨Reg.YLD_EVT, 1, 1⟩
def YLD_EVT_YIELD_GAP : Fld := ⟨Reg.YLD_EVT, 2, 1⟩
def YLD_EVT_FIELD_FULL : Fld := ⟨Reg.YLD_EVT, 3, 1⟩
def CST_CFG_EN : Fld := ⟨Reg.CST_CFG, 0, 1⟩
def CST_CFG_KIND : Fld := ⟨Reg.CST_CFG, 1, 3⟩
def CST_CFG_RELAY_TX : Fld := ⟨Reg.CST_CFG, 4, 1⟩
def CST_CFG_RELAY_RX : Fld := ⟨Reg.CST_CFG, 5, 1⟩
def CST_CFG_UDP_PORT : Fld := ⟨Reg.CST_CFG, 16, 16⟩
def CST_PEER_PEER_IP : Fld := ⟨Reg.CST_PEER, 0, 32⟩
def CST_MACHINE_LO_MACHINE_ID : Fld := ⟨Reg.CST_MACHINE_LO, 0, 32⟩
def CST_MACHINE_HI_MACHINE_ID : Fld := ⟨Reg.CST_MACHINE_HI, 0, 32⟩
def CST_TANK_TANK_ENTRY : Fld := ⟨Reg.CST_TANK, 0, 12⟩
def CST_TANK_TANK_WORD : Fld := ⟨Reg.CST_TANK, 12, 10⟩
def CST_TANK_TANK_EN : Fld := ⟨Reg.CST_TANK, 22, 1⟩
def CST_TANK_RELAY_FROM : Fld := ⟨Reg.CST_TANK, 24, 8⟩
def CST_RDV_OUT_OUT_ENTRY : Fld := ⟨Reg.CST_RDV_OUT, 0, 12⟩
def CST_RDV_OUT_OUT_WORD : Fld := ⟨Reg.CST_RDV_OUT, 12, 10⟩
def CST_RDV_OUT_OUT_EN : Fld := ⟨Reg.CST_RDV_OUT, 22, 1⟩
def CST_SPOUT_REF_X : Fld := ⟨Reg.CST_SPOUT, 0, 16⟩
def CST_SPOUT_REF_Y : Fld := ⟨Reg.CST_SPOUT, 16, 16⟩
def CST_STATUS_STATE : Fld := ⟨Reg.CST_STATUS, 0, 2⟩
def CST_STATUS_MEMBER : Fld := ⟨Reg.CST_STATUS, 8, 5⟩
def CST_STATUS_KEY_ID : Fld := ⟨Reg.CST_STATUS, 16, 8⟩
def CST_STATUS_MEMBERS : Fld := ⟨Reg.CST_STATUS, 24, 6⟩
def CST_CONSIST_CONSIST_ID : Fld := ⟨Reg.CST_CONSIST, 0, 32⟩
def CST_HEARD_HEARD : Fld := ⟨Reg.CST_HEARD, 0, 32⟩
def CST_RDV_RDV_STATE : Fld := ⟨Reg.CST_RDV, 0, 2⟩
def CST_RDV_AVAILABLE : Fld := ⟨Reg.CST_RDV, 2, 1⟩
def CST_RDV_PARTNER : Fld := ⟨Reg.CST_RDV, 8, 8⟩
def CST_RDV_REASON : Fld := ⟨Reg.CST_RDV, 16, 8⟩
def CST_CNT_AUTH_FAIL : Fld := ⟨Reg.CST_CNT, 0, 8⟩
def CST_CNT_REPLAY : Fld := ⟨Reg.CST_CNT, 8, 8⟩
def CST_CNT_SKIPPED : Fld := ⟨Reg.CST_CNT, 16, 8⟩
def CST_CNT_FOREIGN : Fld := ⟨Reg.CST_CNT, 24, 8⟩
def CST_EVT_MEMBER_JOINED : Fld := ⟨Reg.CST_EVT, 0, 1⟩
def CST_EVT_MEMBER_LOST : Fld := ⟨Reg.CST_EVT, 1, 1⟩
def CST_EVT_MEMBER_CONFLICT : Fld := ⟨Reg.CST_EVT, 2, 1⟩
def CST_EVT_RDV_CHANGE : Fld := ⟨Reg.CST_EVT, 3, 1⟩
def CST_EVT_AUTH_FAIL : Fld := ⟨Reg.CST_EVT, 4, 1⟩
def EVT_MASK_MASK (n : Nat) : Fld := ⟨Reg.EVT_MASK n, 0, 32⟩
def EVT_SUB_SUB (s : Nat) (w : Nat) : Fld := ⟨Reg.EVT_SUB s w, 0, 32⟩
def EVT_QUEUE_QUEUED (s : Nat) : Fld := ⟨Reg.EVT_QUEUE s, 0, 8⟩
def EVT_QUEUE_LOST (s : Nat) : Fld := ⟨Reg.EVT_QUEUE s, 16, 16⟩
def EVT_SEQ_SEQ (s : Nat) : Fld := ⟨Reg.EVT_SEQ s, 0, 32⟩
def CFG_STATE_SIDING : Fld := ⟨Reg.CFG_STATE, 0, 2⟩
def CFG_STATE_RUNNING : Fld := ⟨Reg.CFG_STATE, 2, 1⟩
def CFG_STATE_SET_MISMATCH : Fld := ⟨Reg.CFG_STATE, 3, 1⟩
def CFG_STATE_LAST_STATUS : Fld := ⟨Reg.CFG_STATE, 16, 16⟩
def CFG_RUN_CRC_CRC : Fld := ⟨Reg.CFG_RUN_CRC, 0, 32⟩
def CFG_SIDING_CRC_CRC : Fld := ⟨Reg.CFG_SIDING_CRC, 0, 32⟩
def CFG_PART_CRC_CRC : Fld := ⟨Reg.CFG_PART_CRC, 0, 32⟩
def CFG_THROW_CYC_CYCLE : Fld := ⟨Reg.CFG_THROW_CYC, 0, 32⟩
def CFG_COUNT_THROWS : Fld := ⟨Reg.CFG_COUNT, 0, 16⟩
def CFG_COUNT_ABORTS : Fld := ⟨Reg.CFG_COUNT, 16, 8⟩
def CFG_COUNT_LATE : Fld := ⟨Reg.CFG_COUNT, 24, 8⟩
def CFG_FMT_FMT_MINOR : Fld := ⟨Reg.CFG_FMT, 0, 8⟩
def CFG_FMT_FMT_MAJOR : Fld := ⟨Reg.CFG_FMT, 8, 8⟩
def CFG_FMT_OLDEST_MAJOR : Fld := ⟨Reg.CFG_FMT, 16, 8⟩
def CFG_LEAD_THROW_LEAD : Fld := ⟨Reg.CFG_LEAD, 0, 8⟩
def CFG_MISMATCH_LO_MISMATCH : Fld := ⟨Reg.CFG_MISMATCH_LO, 0, 32⟩
def CFG_MISMATCH_HI_MISMATCH : Fld := ⟨Reg.CFG_MISMATCH_HI, 0, 32⟩
def CFG_EVT_THROW_DONE : Fld := ⟨Reg.CFG_EVT, 0, 1⟩
def CFG_EVT_THROW_ABORTED : Fld := ⟨Reg.CFG_EVT, 1, 1⟩
def CFG_EVT_LATE_THROW : Fld := ⟨Reg.CFG_EVT, 2, 1⟩
def CFG_EVT_SET_MISMATCH : Fld := ⟨Reg.CFG_EVT, 3, 1⟩
def CFG_EVT_READY_LOST : Fld := ⟨Reg.CFG_EVT, 4, 1⟩
def CFG_EVT_ORDER_FAILED : Fld := ⟨Reg.CFG_EVT, 5, 1⟩
def CFG_EVT_ORDER_EVENT : Fld := ⟨Reg.CFG_EVT, 6, 1⟩
def CFG_ORDER_FAIL_ORDER : Fld := ⟨Reg.CFG_ORDER, 0, 4⟩
def CFG_ORDER_FAIL_STEP : Fld := ⟨Reg.CFG_ORDER, 4, 6⟩
def CFG_ORDER_RAISE_CODE : Fld := ⟨Reg.CFG_ORDER, 16, 8⟩
def CFG_ORDER_RAISE_ORDER : Fld := ⟨Reg.CFG_ORDER, 24, 4⟩

end F

/-! Event source numbers (R711): the base of the register plus the bit of the flag. -/
namespace Src

def LIN_LINE_LOST : Nat := 0
def LIN_LINE_REGAINED : Nat := 1
def LIN_WRAP : Nat := 2
def LIN_UNWRAP : Nat := 3
def LIN_LINK_RETIRED : Nat := 4
def LIN_LINK_TRANSIENT : Nat := 5
def LIN_STATION_ABSENT : Nat := 6
def LIN_STATION_JOINED : Nat := 7
def LIN_ROLE_TAKEOVER : Nat := 8
def LIN_MASTER_MERGE : Nat := 9
def LIN_HELD_OUT : Nat := 10
def CFG_THROW_DONE : Nat := 11
def CFG_THROW_ABORTED : Nat := 12
def CFG_LATE_THROW : Nat := 13
def CFG_SET_MISMATCH : Nat := 14
def CFG_READY_LOST : Nat := 15
def CFG_ORDER_FAILED : Nat := 16
def CFG_ORDER_EVENT : Nat := 17
def FUS_STREAM_LOST : Nat := 18
def FUS_STREAM_RECONNECTED : Nat := 19
def FUS_STREAM_RETIRED : Nat := 20
def FUS_SOURCE_STALE : Nat := 21
def FUS_SKEW : Nat := 22
def FUS_CONTRADICTION : Nat := 23
def FUS_CONTRA_CLEAR : Nat := 24
def FUS_FRAME_OVERRUN : Nat := 25
def FUS_TILE_FOREIGN : Nat := 26
def SET_FREEZE : Nat := 27
def SET_UNFREEZE : Nat := 28
def SET_STEP_KEPT : Nat := 29
def SET_STEP_REVERTED : Nat := 30
def SET_STEP_INCONCLUSIVE : Nat := 31
def SET_STEP_ABANDONED : Nat := 32
def SET_OVERRIDE : Nat := 33
def SET_AUTO_RETURN : Nat := 34
def SET_AUTO_DROPPED : Nat := 35
def SET_STEP_SKIP : Nat := 36
def SET_HEADLAND_IN : Nat := 37
def SET_HEADLAND_OUT : Nat := 38
def SET_PATH_FAULT : Nat := 39
def CLE_LOOP_MISS : Nat := 40
def CLE_LOOP_GRACE : Nat := 41
def CLE_LOOP_LOSS_ACTION : Nat := 42
def CLE_LOOP_REGAINED : Nat := 43
def CLE_SINK_BLOCKED : Nat := 44
def LSW_LATCH : Nat := 45
def LSW_RETRY_OK : Nat := 46
def LSW_SIDED : Nat := 47
def LSW_RETRY_CANCELLED : Nat := 48
def LSW_REINSTATED : Nat := 49
def LSW_OPEN_LOAD : Nat := 50
def LSW_OPEN_LOAD_CLEAR : Nat := 51
def LSW_LIMP_ENTER : Nat := 52
def LSW_LIMP_EXIT : Nat := 53
def LSW_LOAD_OVER : Nat := 54
def LSW_SUPPLY_LOW : Nat := 55
def LSW_MAP_BAD : Nat := 56
def GNS_TIME_ALIGNED : Nat := 57
def GNS_HOLDOVER_IN : Nat := 58
def GNS_TIME_SLEW : Nat := 59
def GNS_TIME_RESYNC : Nat := 60
def GNS_FIX_CHANGE : Nat := 61
def GNS_HEADING_LOST : Nat := 62
def GNS_CORR_STALE : Nat := 63
def GNS_ANT_FAULT : Nat := 64
def GNS_STEER_ENGAGED : Nat := 65
def GNS_STEER_RELEASED : Nat := 66
def GNS_EDGE_HOLD : Nat := 67
def YLD_FIELD_OPENED : Nat := 68
def YLD_FIELD_CLOSED : Nat := 69
def YLD_YIELD_GAP : Nat := 70
def YLD_FIELD_FULL : Nat := 71
def CST_MEMBER_JOINED : Nat := 72
def CST_MEMBER_LOST : Nat := 73
def CST_MEMBER_CONFLICT : Nat := 74
def CST_RDV_CHANGE : Nat := 75
def CST_AUTH_FAIL : Nat := 76
def CLK_REF_FAIL : Nat := 77
def CLK_REF_TRANSIENT : Nat := 78
def CLK_REF_SWITCH : Nat := 79
def CLK_REF_JUDGED : Nat := 80
def CLK_BOTH_LOST : Nat := 81
def CLK_AUTO_RESUMED : Nat := 82
def CLK_GATE_FORCED : Nat := 83
def PWR_LEVEL_CHANGE : Nat := 84
def PWR_CAP_IN : Nat := 85
def PWR_CAP_OUT : Nat := 86
def PWR_CANARY_FAIL : Nat := 87
def PWR_CEILING : Nat := 88
def PWR_LEVEL_FAULT : Nat := 89
def PWR_OVER_TEMP : Nat := 90
def DMA_DESC_DONE : Nat := 91
def DMA_DESC_BAD : Nat := 92
def DMA_DMA_ABANDON : Nat := 93
def DMA_ECC_FATAL : Nat := 94
def DMA_SPARE_LOW : Nat := 95
def MDB_TX_ABORT : Nat := 96
def MDB_BUS_OFF : Nat := 97
def MDB_BUS_ON : Nat := 98
def MDB_ERR_PASSIVE : Nat := 99
def MDB_HPMB : Nat := 100
def MDB_RX_TIMEOUT : Nat := 104
def MDB_FIFO_OVF : Nat := 105
def MDB_ADDR_LOST : Nat := 106
def MDB_CAN_WAKE : Nat := 107
def EVR_DEADMAN_EXPIRED : Nat := 108
def EVR_DIE_RESTART : Nat := 109
def EVR_XO_LOST : Nat := 110
def EVR_RETIRED : Nat := 111
def EVR_RETIRE_FULL : Nat := 112
def EVR_EVENT_LOST : Nat := 113
def EVR_FAULT_LOGGED : Nat := 114
def EVR_LOG_COMMIT : Nat := 115
def UPD_IMAGE_VERIFIED : Nat := 116
def UPD_IMAGE_ACTIVATED : Nat := 117
def UPD_IMAGE_HEALTHY : Nat := 118
def UPD_IMAGE_CONFIRMED : Nat := 119
def UPD_FALLBACK : Nat := 120
def UPD_RUN_STEP : Nat := 121
def UPD_RUN_DONE : Nat := 122
def UPD_RUN_ROLLBACK : Nat := 123

end Src

/-- The event registers with the base of their source numbers and their number of flags (R711). -/
def sourceTable : List (Nat × Nat × Nat) := [
  (0, Reg.LIN_EVT, 11),
  (11, Reg.CFG_EVT, 7),
  (18, Reg.FUS_EVT, 9),
  (27, Reg.SET_EVT, 13),
  (40, Reg.CLE_EVT, 5),
  (45, Reg.LSW_EVT, 12),
  (57, Reg.GNS_EVT, 11),
  (68, Reg.YLD_EVT, 4),
  (72, Reg.CST_EVT, 5),
  (77, Reg.CLK_EVT, 7),
  (84, Reg.PWR_EVT, 7),
  (91, Reg.DMA_EVT, 5),
  (96, Reg.MDB_EVT, 12),
  (108, Reg.EVR_EVT, 8),
  (116, Reg.UPD_EVT, 8)]

end Sys2Proof.Machine
end

