-- ==== Sys2Proof/Machine/Store.lean ====
section
/-!
DEFINITION. Sparse data in one canonical form: a list of pairs of a number and a value, numbers strictly rising and
no pair that holds what an unlisted number reads as. The register space, the memory of the Yard bus and the MRAM
tables are held so, so that equal contents are equal data.
-/

namespace Sys2Proof.Machine

/-- What a number reads as. -/
def storeGet {β : Type} (dflt : Nat → β) : List (Nat × β) → Nat → β
  | [], a => dflt a
  | (k, v) :: r, a => if a = k then v else storeGet dflt r a

/-- The list after a number is given a value. Giving it what an unlisted number reads as removes the pair. -/
def storeSet {β : Type} [DecidableEq β] (dflt : Nat → β) : List (Nat × β) → Nat → β → List (Nat × β)
  | [], a, v => if v = dflt a then [] else [(a, v)]
  | (k, w) :: r, a, v =>
    if a < k then (if v = dflt a then (k, w) :: r else (a, v) :: (k, w) :: r)
    else if a = k then (if v = dflt a then r else (k, v) :: r)
    else (k, w) :: storeSet dflt r a v

/-- Every number of the list is at least a bound, they rise strictly, and no pair holds the default. -/
def storeWf {β : Type} [DecidableEq β] (dflt : Nat → β) : Nat → List (Nat × β) → Bool
  | _, [] => true
  | b, (k, v) :: r => decide (b ≤ k) && !decide (v = dflt k) && storeWf dflt (k + 1) r

/-- The list without the numbers that satisfy a test: they read as unlisted again. -/
def storeDrop {β : Type} (p : Nat → Bool) (l : List (Nat × β)) : List (Nat × β) :=
  l.filter (fun e => !p e.1)

end Sys2Proof.Machine
end

