-- ==== Sys2Proof/Machine/State.lean ====
section
/-!
DEFINITION. The state of one module, its faults and refusals, and its state at reset.
-/

namespace Sys2Proof.Machine

/-- Something that the module sends or drives outward while it carries out one command. -/
inductive Emit where
  /-- A reply, an interim reply or an EVENT, to a requester's transport (R88, R90, R93). -/
  | packet (dest : Transport) (r : Reply)
  /-- PPS_OUT rises for 100 ms (R510). -/
  | pps
  /-- A channel begins a PWM period of so many counts of 10 ns, on for the first of them (R443). -/
  | pwm (chan counts onCounts : Nat)
  /-- A UDP datagram from a port of the module's HOST port to a UDP port of an address (R571). -/
  | datagram (ip port : Nat) (d : Bytes)
  /-- A message on the Line to one module that the spec gives no packet of its own: an instruction of an update run, with
  its parameters (R754, R770, R775). -/
  | instruct (num opcode : Nat) (params : Bytes)
  /-- The wake burst of 1 ms on a Line port, east where true (R798). -/
  | wakeBurst (east : Bool)
  /-- A Line frame leaves a port, east where true, its FCS in place (R149, R171). -/
  | lineFrame (east : Bool) (f : LineFrame)
  /-- A frame that CAN controller ctrl has sent (R684). -/
  | canFrame (ctrl : Nat) (f : CanFrame)
  /-- An ARP reply or an ICMP echo reply on the HOST port (true) or the SENSOR port (R89, R280). -/
  | netReply (hostPort : Bool) (q : NetProbe)
  /-- SENSE_OUT carries the mirror current of a channel: the channel, its ratio and its output current in mA, 0 while its output is off;
  high impedance without a channel (R462). -/
  | sense (pin : Option (Nat × Nat × Int))
  deriving DecidableEq, Repr

/-- A frequency steering of device time in progress: from an instant and an offset on, so many ns are added evenly over a
time. -/
structure Steer where
  start : Nat
  base : Int
  off : Int
  dur : Nat
  deriving DecidableEq, Repr

/-- The state of one module. -/
structure State where
  /-- The commands that wait, first in, first out. -/
  pending : List Instr
  /-- The instant the module has reached, in ns of true time since the model's origin. -/
  now : Nat
  /-- Device time minus the instant, in ns. -/
  devOff : Int
  /-- The steering of device time that goes on. -/
  steer : Option Steer
  /-- The register space: the registers that differ from their reset value, by address. -/
  regs : List (Nat × Word)
  /-- High halves that reads of their low halves have latched, by address (R219, R544, R700). -/
  hiLatch : List (Nat × Word)
  /-- What the last command made the module send, oldest first. -/
  out : List Emit
  /-- How many free values have been drawn. -/
  drawn : Nat
  ev : EventPart
  pk : PacketPart
  role : RolePart
  die : DiePart
  sets : SetPart
  line : LinePart
  load : LoadPart
  inp : InputPart
  eng : EnginePart
  fus : FusionPart
  fn : SettingPart
  nav : NavPart
  yld : YieldPart
  cst : ConsistPart
  clk : ClockPart
  lvl : LevelPart
  dma : DmaPart
  can : CanPart
  pwr : PowerPart
  upd : UpdatePart
  deriving DecidableEq, Repr

/-- Why the machine stops with a fault. No meaning of this model answers one: the spec gives every command an effect. -/
inductive Fault where
  /-- Not raised by any meaning. Safe: nothing rests on it. -/
  | none
  deriving DecidableEq, Repr

/-- Why a command has no meaning. -/
inductive Refusal where
  /-- The command has no meaning in this model yet. Raised by an arm of exec only. Safe: nothing is proved of it. -/
  | notModelled (mnemonic : String)
  deriving DecidableEq, Repr

/-- What every meaning answers. -/
abbrev Res := Host.Outcome State Fault Refusal

namespace State

/-- The header of the Signal image in slot A (R742): fields, body digest, r and s, each as the number that its bytes spell
from the least significant on. -/
def resetSignalHeader : Bytes :=
  leBytes 32 0x0000000000000004000304050002030200000104000201030000640100015a49 ++
  leBytes 32 0x1911b814c02405e88c49bc52dc8a77ea48d73dc42d195740db2fa90498613fdf ++
  leBytes 32 0xee9678dc1188892d09fa1bc3ab2e7e2b8a9f37ee7746f32d2629ddefb655ace3 ++
  leBytes 32 0x7864b734d12415ec5111a7c11d7d0235f5b9022726103ccb0ec19a56056ea306

/-- The header of the Yard image in slot A (R742): fields, body digest, r and s, each as the number that its bytes spell
from the least significant on. -/
def resetYardHeader : Bytes :=
  leBytes 32 0x0000000000000004000704050002030200000104000403000000640101015a49 ++
  leBytes 32 0xd19d086f7541259078e484e3eae80399110adf27d464d22f8a6fe798a5d0ec27 ++
  leBytes 32 0x8a30cf442dacf904ab56b25b96ee435423ff5f7f6685afd57080f0659b22190a ++
  leBytes 32 0x8380dc4c7317533d6b77ea6304f672dde5449966135ee1fbb7249e19f3c213e2

/-- The body of either reset image: so many bytes of its die number. -/
def resetBody (die : Nat) : List (Nat × Byte) := (upFrom 0 4).map (fun (i : Nat) => (i, BitVec.ofNat 8 die))

/-- The four image slots of a new module: slot A of each die holds the image of this release, slot B is empty (R741,
R827). DESIGN CHOICE: the spec gives no image. -/
def resetSlots : List ImageSlot :=
  [{ header := resetSignalHeader, body := resetBody 0, written := [(0, 4)] }, {},
   { header := resetYardHeader, body := resetBody 1, written := [(0, 4)] }, {}]

/-- The public key in OTP key slot 0 (R744). DESIGN CHOICE: the spec gives no key. -/
def resetKey : Nat × Nat :=
  (0x60fed4ba255a9d31c961eb74c6356d68c049b8923b61fa6ce669622e60f29fb6,
   0x7903fe1008b8bc99a41ae9e95628bc64f2f1b20c2d7e9f5177a3c294d4462299)

/-- Entries and bytes of an entry of hardware ring n, as DMA_RINGn_CFG gives them (R647). -/
def resetRing (n : Nat) : Word :=
  if n < 32 then 0x00400100#32
  else if n < 48 then 0x05A00020#32
  else if n < 56 then 0x06400080#32
  else if n < 58 then 0x00100400#32
  else 0x00400100#32

/-- DMA channels of class STANDING (R649). -/
def standingChannels : List Nat := [14, 15, 24, 25, 26, 27, 28, 30, 31]

/-- The registers that are not at the value of the Reset column when supply first comes, by rising address: what silicon
and images fix (R647, R649, R742, R779, R827), IDR_UID (R826; DESIGN CHOICE 1), the first power cycle (R722), and the
spares of a new module (R645). -/
def resetRegs : List (Nat × Word) :=
  [(Reg.IDR_UID_LO, 1#32), (Reg.EVR_PCYC, 1#32)] ++
  [(Reg.UPD_SLOT 0, 0x00000500#32), (Reg.UPD_SLOT 1, 0x00000500#32), (Reg.UPD_VER 0, 0x03020103#32),
   (Reg.UPD_VER 2, 0x07040300#32), (Reg.UPD_SECURITY, 0x00000703#32), (Reg.DMA_RETIRED, 0x01000000#32)] ++
  standingChannels.map (fun (c : Nat) => (Reg.DMA_CH_CFG c, 0x00000F01#32)) ++
  (upFrom 0 64).map (fun (n : Nat) => (Reg.DMA_RING_CFG n, resetRing n)) ++
  [(Reg.CFG_FMT, 0x00020302#32)]

/-- The module at the instant LOGIC_SUPPLY becomes valid for the first time (R799): power-up begins, neither die runs yet,
and the straps may be sampled from 4.5 ms on (R10). -/
def reset : State where
  pending := []
  now := 0
  devOff := 0
  steer := none
  regs := resetRegs
  hiLatch := []
  out := []
  drawn := 0
  ev := {}
  pk := {}
  role := { strapAt := some 4500000 }
  die := {}
  sets := {}
  line := {}
  load := {}
  inp := {}
  eng := {}
  fus := {}
  fn := {}
  nav := {}
  yld := {}
  cst := {}
  clk := {}
  lvl := {}
  dma := {}
  can := {}
  pwr := {}
  upd := { slots := resetSlots, keys := [resetKey] }

end State

end Sys2Proof.Machine
end

