-- ==== Sys2Proof/Machine/Ops.lean ====
section
/-!
DEFINITION. The named operations over the state that every family uses: the instant, the register space, what is sent,
event sources (R711–R718), fault records (R725–R729) and the retirement list (R706–R709).
-/

namespace Sys2Proof.Machine

/-! ### The instant and what is sent -/

/-- Device time minus the instant as a steering leaves it at an instant: the part of the offset that the time since its
start removes. -/
def steeredOffset (v : Steer) (now : Nat) : Int :=
  if v.dur ≤ now - v.start then v.base + v.off else v.base + v.off * ((now - v.start : Nat) : Int) / (v.dur : Int)

/-- Device time follows a steering that goes on (R195, R490, R515). -/
def steerOn (s : State) : State :=
  match s.steer with
  | none => s
  | some v =>
    { s with devOff := steeredOffset v s.now, steer := if v.dur ≤ s.now - v.start then none else some v }

/-- A steering of so many ns, spread evenly over a time, begins. -/
def beginSteer (off : Int) (dur : Nat) (s : State) : State :=
  { s with steer := if off = 0 then none else some { start := s.now, base := s.devOff, off := off, dur := dur } }

/-- An instant of device time as it reads after a step of device time. -/
def shiftInstant (off : Int) (t : Nat) : Nat := ((t : Int) + off).toNat

/-- A loop as it reads after a step of device time: its previous tick and the sample it serves keep their distance from the present
(DEDUCED of R406, log entry 184). -/
def shiftLoop (off : Int) (x : LoopPart) : LoopPart :=
  { x with
    lastTick := x.lastTick.map (shiftInstant off),
    sample := x.sample.map (fun y =>
      { y with tick := shiftInstant off y.tick, deadline := shiftInstant off y.deadline, done := y.done.map (shiftInstant off) }) }

/-- The control engine as it reads after a step of device time (R406). -/
def shiftEngine (off : Int) (e : EnginePart) : EnginePart :=
  { e with loops := e.loops.map (shiftLoop off), busyUntil := shiftInstant off e.busyUntil }

/-- Device time is stepped (R195, R208, R517); ticks that the step passes over are not made up (R406). -/
def stepTime (off : Int) (s : State) : State := { s with devOff := s.devOff + off, steer := none, eng := shiftEngine off s.eng }

/-- The state when a command at instant t begins: the instant never runs back, and nothing has been sent yet. -/
def begin_ (t : Nat) (s : State) : State := steerOn { s with now := max s.now t, out := [] }

/-- The state with one thing more sent. -/
def emit (e : Emit) (s : State) : State := { s with out := s.out ++ [e] }

/-- Device time in ns (R713, *The Line*). -/
def deviceTime (s : State) : Nat := ((s.now : Int) + s.devOff).toNat

/-- The module has power (R791, R795). -/
def powered (s : State) : Bool := s.pwr.power == .up

/-- A deadline has been reached. -/
def due (deadline : Option Nat) (s : State) : Bool :=
  match deadline with
  | none => false
  | some d => decide (d ≤ s.now)

/-! ### Readings for the histograms -/

/-- A reading of histogram quantity h comes in the operating second that runs (R723). -/
def gather (h : Nat) (v : Int) (s : State) : State :=
  let r : SecondRun := match lookupNum s.ev.second h with
    | none => { sum := v, n := 1, lo := v, hi := v }
    | some r => { sum := r.sum + v, n := r.n + 1, lo := min r.lo v, hi := max r.hi v }
  { s with ev := { s.ev with second := putNum s.ev.second h r } }

/-! ### The register space -/

/-- What a register reads as while nothing has changed it (R32). -/
def regDefault (a : Nat) : Word := BitVec.ofNat 32 (regReset a)

/-- The word that the register space holds at an address. -/
def State.reg (s : State) (a : Nat) : Nat := (storeGet regDefault s.regs a).toNat

/-- The register space with the word at an address replaced. -/
def State.setReg (s : State) (a v : Nat) : State :=
  { s with regs := storeSet regDefault s.regs a (BitVec.ofNat 32 v) }

/-- The value of a register field. -/
def State.get (s : State) (f : Fld) : Nat := bitsAt (s.reg f.addr) f.lo f.width

/-- The value of a register field read as signed. -/
def State.gets (s : State) (f : Fld) : Int := sx f.width (s.get f)

/-- The field is not 0. -/
def State.flag (s : State) (f : Fld) : Bool := s.get f != 0

/-- The state with a register field replaced; the value is cut to the field's width. -/
def State.put (s : State) (f : Fld) (v : Nat) : State := s.setReg f.addr (setBitsAt (s.reg f.addr) f.lo f.width v)

/-- The state with a register field set to a signed value, saturated (R25). -/
def State.puts (s : State) (f : Fld) (v : Int) : State := s.put f (fixS f.width v)

/-- The state with a counting field advanced, saturating at the limit of the field. -/
def State.bump (s : State) (f : Fld) (n : Nat) : State := s.put f (satN f.width (s.get f + n))

/-- The state with a counting field advanced, wrapping. -/
def State.wrapUp (s : State) (f : Fld) (n : Nat) : State := s.put f (s.get f + n)

/-- One bit of a field. -/
def State.bit (s : State) (f : Fld) (i : Nat) : Bool := bitAt (s.get f) i

/-- The state with one bit of a field set or cleared. -/
def State.putBit (s : State) (f : Fld) (i : Nat) (b : Bool) : State := s.put f (setBitsAt (s.get f) i 1 (b2n b))

/-- The value of a pair of registers that hold the halves of 64 bits. -/
def State.get64 (s : State) (lo hi : Nat) : Nat := s.reg lo + 4294967296 * s.reg hi

/-- The state with the halves of 64 bits written to a pair of registers. -/
def State.put64 (s : State) (lo hi v : Nat) : State := (s.setReg lo (v % 4294967296)).setReg hi (v / 4294967296)

/-- IDR_UID (R141). -/
def ownUid (s : State) : Nat := s.get64 Reg.IDR_UID_LO Reg.IDR_UID_HI

/-- The join number of the module (R59). -/
def joinNum (s : State) : Nat := s.get F.IDR_ROLE_JOIN_NUM

/-- ORIGIN of the records and packets of this module: its join number, 0x7F before join (R713). -/
def originNum (s : State) : Nat := if s.role.joined then joinNum s else 0x7F

/-- The module holds the terminus role. -/
def isTerminus (s : State) : Bool := s.role.role == .terminus

/-- The module holds the relief terminus role. -/
def isRelief (s : State) : Bool := s.role.role == .relief

/-- STATE of island g (R637): 0 open, 1 pending, 2 closed, 3 forced. -/
def gateState (s : State) (g : Nat) : Nat := bitsAt (s.get F.CLK_GATE_STATE_STATE) (2 * g) 2

/-- The group of island g is stopped (R609). -/
def groupStopped (s : State) (g : Nat) : Bool :=
  if 2 ≤ g ∧ g ≤ 5 then s.get F.CLK_SRC_CAN == 3
  else if 6 ≤ g ∧ g ≤ 9 then s.get F.CLK_SRC_CAM == 3
  else if g = 10 then s.get F.CLK_SRC_NET == 3
  else g == 11 && s.get F.CLK_SRC_GNSS == 3

/-- Island g works (R616–R619): it is not closed, its group has a reference, and the GNSS island not at P0. -/
def islandOpen (s : State) (g : Nat) : Bool :=
  decide (gateState s g < 2) && !groupStopped s g && !(g == 11 && s.get F.PWR_LEVEL_CUR == 0)

/-! ### Event sources (R711–R718) -/

/-- The flag of an event source (R711). -/
def sourceFlag (src : Nat) : Option Fld :=
  match sourceTable.find? (fun e => decide (e.1 ≤ src) && decide (src < e.1 + e.2.2)) with
  | none => none
  | some e => some ⟨e.2.1, src - e.1, 1⟩

/-- The source arises on the Signal die: the block of its flag lives there (R829). -/
def sourceOnSignal (src : Nat) : Bool :=
  match sourceFlag src with
  | none => false
  | some f =>
    match blockOf f.addr with
    | none => false
    | some b => blockDie b == .signal

/-- The record that a raise of a source produces (R713). -/
def eventRecord (src detail arg : Nat) (s : State) : EventRecord :=
  { source := src, origin := originNum s, detail := detail, stamp := deviceTime s, merged := 1, arg := arg }

/-- The newest record of a source takes the stamp, the detail and one count more (R715); the list is newest first. -/
def mergeNewest (r : EventRecord) : List EventRecord → Option (List EventRecord)
  | [] => none
  | e :: l =>
    if e.source = r.source then some ({ e with stamp := r.stamp, detail := r.detail, merged := satN 16 (e.merged + 1) } :: l)
    else
      match mergeNewest r l with
      | none => none
      | some l' => some (e :: l')

/-- The overflow count of the record's source goes up by one, and the last raise is kept (R715). -/
def countOver (r : EventRecord) : List EventRecord → List EventRecord
  | [] => [r]
  | e :: l => if e.source = r.source then { r with merged := satN 16 (e.merged + 1) } :: l else e :: countOver r l

/-- A record offered to a place that holds at most cap records, and whether it merged (R715). -/
def holdOffer (cap : Nat) (h : EventHold) (r : EventRecord) : EventHold × Bool :=
  if h.held.length < cap then ({ h with held := h.held ++ [r] }, false)
  else
    match mergeNewest r h.held.reverse with
    | some l => ({ h with held := l.reverse }, true)
    | none => ({ h with spill := countOver r h.spill }, h.spill.any (fun e => e.source == r.source))

/-- EVT_MASK and the subscription of a session both hold the bit of a source (R716, R717). -/
def subscribed (s : State) (num src : Nat) : Bool :=
  s.bit (F.EVT_MASK_MASK (src / 32)) (src % 32) && s.bit (F.EVT_SUB_SUB (num - 1) (src / 32)) (src % 32)

/-- A record offered to the queue of a session: queued, or discarded and counted where 128 are queued (R718). -/
def queueEvent (r : EventRecord) (now : Nat) (x : Session) : Session × Bool :=
  if x.evQueue.length < 128 then ({ x with evQueue := x.evQueue ++ [(r, now)] }, false)
  else ({ x with evLost := satN 8 (x.evLost + 1) }, true)

/-- A record offered to every open session that subscribes to it; the numbers of the sessions that lost it (R718). -/
def offerSessions (s : State) (r : EventRecord) : List Session → List Session × List Nat
  | [] => ([], [])
  | x :: l =>
    let (l', lost) := offerSessions s r l
    if x.isOpen && subscribed s x.num r.source then
      let (x', full) := queueEvent r s.now x
      (x' :: l', if full then x.num :: lost else lost)
    else (x :: l', lost)

/-- An entry passes through a hardware ring and is taken at once (R648). -/
def passRing (n : Nat) (s : State) : State :=
  (s.wrapUp (F.DMA_RING_IDX_PROD n) 1).wrapUp (F.DMA_RING_IDX_CONS n) 1

/-- Yard firmware takes a record from ring 56 (from the Signal die) or ring 57 and queues it for the sessions; the
numbers of the sessions that lost it. -/
def deliver (r : EventRecord) (s : State) : State × List Nat :=
  let (l, lost) := offerSessions s r s.pk.sessions
  let s := passRing (if sourceOnSignal r.source then 56 else 57) { s with pk := { s.pk with sessions := l } }
  (foldOver (fun s n => s.bump (F.EVT_QUEUE_LOST (n - 1)) 1) s lost, lost)

/-- A hardware ring has room for an entry (R648). -/
def ringRoom (n : Nat) (s : State) : Bool :=
  decide ((s.get (F.DMA_RING_IDX_PROD n) + 65536 - s.get (F.DMA_RING_IDX_CONS n)) % 65536 < s.get (F.DMA_RING_CFG_ENTRIES n))

/-- The Yard firmware takes events: its die is in service, and for those of the Signal die the Crossover is usable, its event queue,
ring 56, has room, and nothing older waits in the latch (R42). -/
def eventPath (src : Nat) (s : State) : Bool :=
  s.die.yardUp &&
    (!sourceOnSignal src || (s.die.xoUp && ringRoom 56 s && s.ev.latch.held.isEmpty && s.ev.latch.spill.isEmpty))

/-- A record goes on its way: delivered, or held in the always-on latch (R42, R715). -/
def routeEvent (r : EventRecord) (s : State) : State × List Nat :=
  if eventPath r.source s then deliver r s
  else if sourceOnSignal r.source then
    let (h, merged) := holdOffer 64 s.ev.latch r
    let s := { s with ev := { s.ev with latch := h } }
    (if merged then s.bump F.EVR_LATCH_MERGED 1 else s, [])
  else (s, [])

/-- The flag of a source is set (R712). -/
def setFlag (src : Nat) (s : State) : State :=
  match sourceFlag src with
  | none => s
  | some f => s.put f 1

/-- The running orders that a source triggers, and that are not in progress, are to start (R262). The Signal die executes them:
a source of the Yard die reaches it over the Crossover. -/
def triggerOrders (src : Nat) (s : State) : State :=
  if s.die.sigUp && (sourceOnSignal src || s.die.xoUp) then
    { s with sets := { s.sets with orders := s.sets.orders.map (fun o =>
        if o.trigger = some src ∧ o.active = false then { o with triggered := true } else o) } }
  else s

/-- One raise without its consequences for EVENT_LOST. -/
def raiseOnce (src detail arg : Nat) (s : State) : State × List Nat :=
  let s := triggerOrders src (setFlag src s)
  routeEvent (eventRecord src detail arg s) s

/-- A source is raised: its flag is set, a record is made and delivered, held or merged (R712, R715, R718). A record
discarded for a session raises EVENT_LOST. -/
def raiseArg (src detail arg : Nat) (s : State) : State :=
  let (s, lost) := raiseOnce src detail arg s
  if lost.isEmpty || src == Src.EVR_EVENT_LOST then s else (raiseOnce Src.EVR_EVENT_LOST 0xFFFF 0 s).1

/-- A source is raised with DETAIL and no ARG. -/
def raise (src detail : Nat) (s : State) : State := raiseArg src detail 0 s

/-- A source without DETAIL is raised (R714). -/
def raise0 (src : Nat) (s : State) : State := raiseArg src 0xFFFF 0 s

/-! ### Fault records (R725–R729) -/

/-- SEQ of the newest record; 0 where the ring is empty (R731). -/
def newestSeq (s : State) : Nat :=
  match s.ev.ring.getLast? with
  | none => 0
  | some r => r.seq

/-- The number of the next record: it wraps from 0xFFFF_FFFF to 1 (R725). -/
def nextSeq (s : State) : Nat := if newestSeq s ≥ 4294967295 then 1 else newestSeq s + 1

/-- A fault equals the newest record in TYPE, SOURCE, DETAIL and ARG0 (R726). -/
def sameFault (a b : FaultRec) : Bool :=
  a.type == b.type && a.source == b.source && a.detail == b.detail && a.arg0 == b.arg0

/-- The last n of a list. -/
def lastN {α : Type} (n : Nat) (l : List α) : List α := l.drop (l.length - n)

/-- A fault record is written: REPEAT of the newest record goes up where the fault is the same, else a new record
follows, over the oldest of 4,096; a new record of CLASS 2 or 4 raises FAULT_LOGGED (R725, R726, R739). -/
def writeFault (f : FaultRec) (s : State) : State :=
  match s.ev.ring.getLast? with
  | some r =>
    if sameFault f r then
      { s with ev := { s.ev with ring := s.ev.ring.dropLast ++ [{ r with repeats := satN 16 (r.repeats + 1) }] } }
    else
      let s := { s with ev := { s.ev with ring := lastN 4096 (s.ev.ring ++ [{ f with seq := nextSeq s }]) } }
      if f.cls = 2 ∨ f.cls = 4 then raise0 Src.EVR_FAULT_LOGGED s else s
  | none =>
    let s := { s with ev := { s.ev with ring := [{ f with seq := 1 }] } }
    if f.cls = 2 ∨ f.cls = 4 then raise0 Src.EVR_FAULT_LOGGED s else s

/-- The record of a fault that occurs now (R725). -/
def faultRec (type cls source detail a0 a1 a2 : Nat) (s : State) : FaultRec :=
  { seq := 0, opsec := s.get F.EVR_OPSEC_OPSEC, pcyc := s.get F.EVR_PCYC_PCYC, cls := cls, type := type,
    source := source, detail := detail, repeats := 1, arg0 := a0 % 4294967296, arg1 := a1 % 4294967296,
    arg2 := a2 % 4294967296 }

/-- A fault is logged; while the Signal firmware is down it waits for reclaim with the time at which it occurred
(R729). -/
def fault (type cls source detail a0 a1 a2 : Nat) (s : State) : State :=
  if s.die.sigUp then writeFault (faultRec type cls source detail a0 a1 a2 s) s
  else { s with ev := { s.ev with faultWait := s.ev.faultWait ++ [faultRec type cls source detail a0 a1 a2 s] } }

/-- The faults that waited for the Signal firmware are written in order (R729). -/
def flushFaults (s : State) : State :=
  foldOver (fun s f => writeFault f s) { s with ev := { s.ev with faultWait := [] } } s.ev.faultWait

/-! ### The retirement list (R706–R709) -/

/-- Entries of load channels, Line ports and sensor streams (R708). -/
def smallKind (k : Nat) : Bool := decide (1 ≤ k) && decide (k ≤ 3)

/-- The entry that retires a part now. -/
def retireEntry (kind cause index unit : Nat) (s : State) : RetireEntry :=
  { kind := kind, cause := cause, index := index, unit := unit, opsec := s.get F.EVR_OPSEC_OPSEC,
    pcyc := s.get F.EVR_PCYC_PCYC }

/-- There is room for one more entry of a kind: 64 for kinds 1–3, 960 for kinds 4–6 (R708). -/
def retireRoom (kind : Nat) (s : State) : Bool :=
  if smallKind kind then decide ((s.ev.retired.filter (fun e => smallKind e.kind)).length < 64)
  else decide ((s.ev.retired.filter (fun e => !smallKind e.kind)).length < 960)

/-- A part is retired: its entry joins the list and RETIRED is raised, or, where the list is full for its kind, it is
retired only until the next power-up (R707, R708, R739). -/
def retire (kind cause index unit : Nat) (s : State) : State :=
  if retireRoom kind s then
    raise0 Src.EVR_RETIRED { s with ev := { s.ev with retired := s.ev.retired ++ [retireEntry kind cause index unit s] } }
  else
    fault 0x52 2 Src.EVR_RETIRE_FULL kind unit 0 0
      (raise0 Src.EVR_RETIRE_FULL
        (State.put { s with ev := { s.ev with retiredHere := s.ev.retiredHere ++ [retireEntry kind cause index unit s] } }
          F.EVR_RETIRE_FULL 1))

/-- The entry names a part. -/
def entryIs (kind index unit : Nat) (e : RetireEntry) : Bool := e.kind == kind && e.index == index && e.unit == unit

/-- A part is in the retirement list (R706). -/
def isRetired (kind index unit : Nat) (s : State) : Bool :=
  s.ev.retired.any (entryIs kind index unit) || s.ev.retiredHere.any (entryIs kind index unit)

/-- The first entry that satisfies a test is taken out; the later ones move up (R707). -/
def removeFirst {α : Type} (p : α → Bool) : List α → List α
  | [] => []
  | a :: l => if p a then l else a :: removeFirst p l

/-- A part is reinstated: its entry leaves the list, and REINSTATED is logged (R707, R727). -/
def unretire (kind index src : Nat) (s : State) : State :=
  fault 0x05 0 src (kind * 256 + index) 0 0 0
    { s with ev := { s.ev with retired := removeFirst (entryIs kind index 0) s.ev.retired } }

end Sys2Proof.Machine
end

