-- ==== Sys2Proof/Machine/Units.lean ====
section
/-!
DEFINITION. Units of data streams (R667–R671): how they come to a stream's buffer, and how a stream closes.
-/

namespace Sys2Proof.Machine

/-- A data stream. -/
def dataStream (s : State) (n : Nat) : DataStream := nth s.dma.streams n {}

/-- The state with a data stream changed. -/
def modData (n : Nat) (f : DataStream → DataStream) (s : State) : State :=
  { s with dma := { s.dma with streams := setNth s.dma.streams n (f (nth s.dma.streams n {})) } }

/-- Data stream n is open on the output of a slot: 1 raw input, 2 feature output. -/
def dataOpenOn (s : State) (slot source n : Nat) : Bool :=
  s.flag (F.DMA_STR_CFG_OPEN n) && s.get (F.DMA_STR_CFG_SLOT n) == slot && s.get (F.DMA_STR_CFG_SOURCE n) == source

/-- A selected unit of a stream is lost: the next one sent carries GAP (R669, R670). -/
def unitLost (n : Nat) (s : State) : State := (modData n (fun d => { d with lost := true }) s).bump (F.DMA_STR_GAPS_GAPS n) 1

/-- Bytes that wait in a stream's buffer. -/
def bufferedUnits (d : DataStream) : Nat := (d.queue.map (fun u => u.data.length)).foldl (· + ·) 0

/-- A unit comes to a stream: every DECIM-th enters its buffer of 64 MiB (R643, R667). -/
def unitFor (unit stamp : Nat) (make : DataStream → Bytes) (s : State) (n : Nat) : State :=
  let s := modData n (fun d => { d with count := d.count + 1 }) s
  let d := dataStream s n
  if d.count % max 1 (s.get (F.DMA_STR_CFG_DECIM n)) ≠ 0 then s
  else if bufferedUnits d + (make d).length > 67108864 then unitLost n s
  else modData n (fun d => { d with queue := d.queue ++ [{ unit := unit, stamp := stamp, data := make d }] }) s

/-- A unit of a slot arrives: it is counted, and offered to every stream open on it. -/
def unitArrives (slot source stamp : Nat) (make : DataStream → Bytes) (s : State) : State :=
  let k := 2 * slot + (source - 1)
  let unit := (storeGet (fun _ => 0) s.dma.units k + 1) % 4294967296
  foldOver (unitFor unit stamp make) { s with dma := { s.dma with units := storeSet (fun _ => 0) s.dma.units k unit } }
    ((upFrom 0 4).filter (dataOpenOn s slot source))

/-- Values as bytes, two's complement. -/
def int8Bytes (l : List Int) : Bytes := l.map (fun v => BitVec.ofInt 8 v)

/-- A camera tensor of so many lines of so many values a plane, within the crop of a stream, line by line (R669). -/
def cropTensor (lines len : Nat) (tensor : List Int) (d : DataStream) : Bytes :=
  if d.w = 0 then int8Bytes tensor
  else
    (upFrom 0 (tensor.length / max 1 (lines * len))).flatMap (fun p =>
      (upFrom d.y0 d.h).flatMap (fun y => int8Bytes ((tensor.drop (p * lines * len + y * len + d.x0)).take d.w)))

/-- A stream closes (R671). -/
def closeData (n : Nat) (s : State) : State := (modData n (fun _ => {}) s).put (F.DMA_STR_CFG_OPEN n) 0

/-- The open streams that satisfy a test close. -/
def closeDataOf (p : Nat → Bool) (s : State) : State :=
  foldOver (fun s n => closeData n s) s ((upFrom 0 4).filter (fun n => s.flag (F.DMA_STR_CFG_OPEN n) && p n))

/-- A slot is retired: its streams close (R671). -/
def closeDataOfSlot (slot : Nat) (s : State) : State := closeDataOf (fun n => s.get (F.DMA_STR_CFG_SLOT n) == slot) s

/-- A session closes: its streams close (R671). -/
def closeDataOfSession (num : Nat) (s : State) : State := closeDataOf (fun n => s.get (F.DMA_STR_CFG_SESSION n) == num) s

/-- A diagnostic stream exists on this module, or, as the terminus knows, elsewhere on the Line (R180). -/
def diagExists (s : State) : Bool :=
  (upFrom 0 4).any (fun n => s.flag (F.DMA_STR_CFG_OPEN n) && s.flag (F.DMA_STR_CFG_SINK n)) || s.dma.diagAt.isSome

end Sys2Proof.Machine
end

