-- ==== Sys2Proof/Machine/Graph.lean ====
section
/-!
DEFINITION. The graphs of models: the conditions of R296, the arithmetic of R297 and the count of R298.
-/

namespace Sys2Proof.Machine

/-! ### The conditions (R296) -/

/-- A shape is static, with N = 1, of rank 4 at most, with every dimension 4,096 at most. -/
def shapeMeets (t : GraphTensor) : Bool :=
  match t.shape with
  | none => false
  | some l => l.headD 1 == 1 && decide (l.length ≤ 4) && l.all (fun d => decide (d ≤ 4096))

/-- An activation: int8 with a per-tensor scale; what is the graph input may be uint8. -/
def activationMeets (graphInput : Bool) (t : GraphTensor) : Bool :=
  (t.type == .int8 || (graphInput && t.type == .uint8)) && t.scales == 1 && shapeMeets t

/-- The output channels of a node: the last dimension of a product of matrices, the second one of any other output. -/
def outChannels (n : GraphNode) : Nat :=
  match n.op, n.outs.map (fun o => o.shape) with
  | .matMul _, some l :: _ => l.getLastD 1
  | _, some (_ :: c :: _) :: _ => c
  | _, _ => 1

/-- Weights: int8, a scale for the tensor or one for each output channel, zero point 0. -/
def weightMeets (n : GraphNode) (t : GraphTensor) : Bool :=
  let channels := outChannels n
  t.type == .int8 && t.zeroIsZero && (t.scales == 1 || t.scales == channels)

/-- A number lies in a range. -/
def within (lo hi n : Nat) : Bool := decide (lo ≤ n) && decide (n ≤ hi)

/-- The row of the operator. -/
def operatorMeets (op : GraphOp) : Bool :=
  match op with
  | .conv kh kw sh sw dh dw groups pad =>
    within 1 7 kh && within 1 7 kw && within 1 2 sh && within 1 2 sw && within 1 4 dh && within 1 4 dw && decide (1 ≤ groups) && pad != .other
  | .convTranspose kh kw sh sw _ => within 2 4 kh && within 2 4 kw && sh == 2 && sw == 2
  | .matMul constant | .gemm constant _ => constant
  | .add | .mul | .relu | .leakyRelu | .clip | .sigmoid | .tanh | .hardSigmoid | .hardSwish | .globalAveragePool => true
  | .maxPool kh kw sh sw => within 1 7 kh && within 1 7 kw && within 1 4 sh && within 1 4 sw
  | .averagePool kh kw sh sw countPad => within 1 7 kh && within 1 7 kw && within 1 4 sh && within 1 4 sw && !countPad
  | .concat axis | .split axis => within 1 3 axis
  | .slice axis steps => within 1 3 axis && steps.all (fun k => k == 1)
  | .reshape constant | .flatten constant | .transpose constant => constant
  | .resize mode h w => mode != .other && [1, 2, 8, 16].contains h && [1, 2, 8, 16].contains w
  | .pad modeConstant => modeConstant
  | .other => false

/-- A compute node meets R296. -/
def nodeMeets (n : GraphNode) : Bool :=
  n.quantised && operatorMeets n.op && (n.ins.zip n.args).all (fun e => activationMeets (e.2 == 0) e.1) &&
    n.outs.all (activationMeets false) && n.weights.all (weightMeets n) && n.biases.all (fun t => t.type == .int32)

/-- The graph satisfies R296 with the shapes IN_SHAPE and OUT_SHAPE. -/
def graphMeets (g : Graph) (inShape outShape : List Nat) : Bool :=
  let port := fun (types : List ElemType) (l : List GraphTensor) (shape : List Nat) =>
    match l with
    | [t] => types.contains t.type && t.shape == some shape && shapeMeets t && shape.headD 0 == 1
    | _ => false
  port [.uint8, .int8] g.inputs inShape && port [.int8] g.outputs outShape && decide (g.nodes.length ≤ 1024) &&
    decide (g.weightBytes ≤ 67108864) && decide (g.peakBytes ≤ 25165824) && g.nodes.all nodeMeets

/-! ### The count (R298) -/

/-- The elements of a tensor, and one of its dimensions. -/
def elements (t : GraphTensor) : Nat := (t.shape.getD []).foldl (· * ·) 1
def dimension (t : GraphTensor) (i : Nat) : Nat := nth (t.shape.getD []) i 1

/-- The multiply-accumulates of a node: those of convolutions and matrix products. -/
def nodeMacs (n : GraphNode) : Nat :=
  match n.ins, n.outs with
  | x :: _, y :: _ =>
    match n.op with
    | .conv kh kw _ _ _ _ groups _ => elements y * (dimension x 1 / max 1 groups) * kh * kw
    | .convTranspose kh kw _ _ groups => elements x * (dimension y 1 / max 1 groups) * kh * kw
    | .matMul _ | .gemm _ false => elements y * (x.shape.getD []).getLastD 1
    | .gemm _ true => elements y * dimension x 0
    | _ => 0
  | _, _ => 0

/-- MACS of a graph; 0 for one that cannot be parsed. -/
def graphMacs (bytes : Bytes) : Nat :=
  match Config.graphOf bytes with
  | none => 0
  | some g => (g.nodes.map nodeMacs).foldl (· + ·) 0

/-! ### The arithmetic (R297) -/

/-- A requantisation: an exact value, as its numerator and its denominator less 1, rounded to nearest with ties away from zero,
moved by the zero point and saturated to int8 (R25, R297). -/
def requantise (zero : Int) (v : Int × Nat) : Int := satS 8 (roundDiv v.1 (v.2 + 1) + zero)

/-- The operators that are executed as tables (R297). -/
def isTableOp (op : GraphOp) : Bool :=
  match op with
  | .sigmoid | .tanh | .hardSigmoid | .hardSwish => true
  | _ => false

/-- The table of 256 entries of such a node, by the input plus 128 (R297). -/
def activationTable (n : GraphNode) : List Int :=
  (upFrom 0 256).map (fun (k : Nat) => requantise (n.zeros.headD 0) (Config.activation n ((k : Int) - 128)))

/-- The outputs of a node on the values that it takes. -/
def nodeOutputs (n : GraphNode) (xs : List (List Int)) : List (List Int) :=
  if isTableOp n.op then
    let table := activationTable n
    [(xs.headD []).map (fun v => nth table (v + 128).toNat 0)]
  else
    (n.outs.zip (upFrom 0 n.outs.length)).map (fun e =>
      (upFrom 0 (elements e.1)).map (fun k => requantise (nth n.zeros e.2 0) (Config.operatorValue n xs e.2 k)))

/-- The values of a graph, grown node by node. -/
def graphValues (nodes : List GraphNode) (input : List Int) : List (List Int) :=
  nodes.foldl (fun vs n => vs ++ nodeOutputs n (n.args.map (fun a => nth vs a []))) [input]

/-- The output tensor of a model's graph for an input tensor (R293); nothing of one that cannot be parsed. -/
def graphOutput (bytes : Bytes) (input : List Int) : List Int :=
  match Config.graphOf bytes with
  | none => []
  | some g => nth (graphValues g.nodes input) g.result []

end Sys2Proof.Machine
end

