-- ==== Sys2Proof/Machine/CanOut.lean ====
section
/-!
DEFINITION. What a CAN controller sends: its transmit buffers and the frames of the Signal firmware (R683–R686), and the
ISO 15765-2 transfers of the service path (R92–R95).
-/

namespace Sys2Proof.Machine

/-- A controller. -/
def control (s : State) (n : Nat) : CanControl := nth s.can.controls n {}

/-- The state with a controller changed. -/
def modControl (n : Nat) (f : CanControl → CanControl) (s : State) : State :=
  { s with can := { s.can with controls := setNth s.can.controls n (f (nth s.can.controls n {})) } }

/-- MODE in force (R679, R682): CAN_D serves without a running set, with STRAP_FAULT and once the module has stood down, whatever its
register says (R92); the others are off without a running set. -/
def canMode (s : State) (n : Nat) : Nat :=
  if n = 3 ∧ (s.sets.running.isNone || s.flag F.IDR_STRAP_STRAP_FAULT || s.role.role == .stoodDown) = true then 4
  else if s.sets.running.isNone then 0
  else s.get (F.MDB_C_CFG_MODE n)

/-- The controller takes part in its bus: its mode is not OFF and its island works (R618, R679). -/
def canOn (s : State) (n : Nat) : Bool := powered s && canMode s n != 0 && islandOpen s (2 + n)

/-- Fields of MDB_Cn_TXBk (R700). -/
def txState (n k : Nat) : Fld := ⟨Reg.MDB_C_TXB n k, 0, 3⟩
def txSrc (n k : Nat) : Fld := ⟨Reg.MDB_C_TXB n k, 3, 6⟩
def txRetries (n k : Nat) : Fld := ⟨Reg.MDB_C_TXB n k, 9, 8⟩

/-- A buffer of a controller, and the state with it changed. -/
def txBuffer (s : State) (n k : Nat) : TxBuffer := nth (control s n).bufs k {}
def modBuffer (n k : Nat) (f : TxBuffer → TxBuffer) (s : State) : State :=
  modControl n (fun c => { c with bufs := setNth c.bufs k (f (nth c.bufs k {})) }) s

/-- The buffer is pending. -/
def txPending (s : State) (n k : Nat) : Bool := s.get (txState n k) == 1

/-- A frame is loaded into a buffer: SRC is its message, or 63 for firmware. -/
def loadBuffer (n k src : Nat) (f : CanFrame) (s : State) : State :=
  (((modBuffer n k (fun _ => { frame := some f, errors := 0 }) s).put (txState n k) 1).put (txSrc n k) src).put (txRetries n k) 0

/-- A frame of the firmware enters TXB2, or waits for it (R683). -/
def sendFirmware (n : Nat) (f : CanFrame) (s : State) : State :=
  if txPending s n 2 then modControl n (fun c => { c with firmware := c.firmware ++ [f] }) s else loadBuffer n 2 63 f s

/-- The next firmware frame enters a free TXB2. -/
def nextFirmware (n : Nat) (s : State) : State :=
  match (control s n).firmware with
  | [] => s
  | f :: rest => if txPending s n 2 then s else loadBuffer n 2 63 f (modControl n (fun c => { c with firmware := rest }) s)

/-! ### The service path (R92–R95) -/

/-- The module's service address (R94). -/
def serviceAddress (s : State) : Nat :=
  if s.flag F.IDR_STRAP_STRAP_FAULT then 0x80
  else if s.role.joined then 0x40 + joinNum s
  else if s.flag F.IDR_STRAP_NUM_EN then 0x40 + s.get F.IDR_STRAP_NUM % 64
  else 0x80

/-- The data lengths of CAN FD frames above 8 bytes. -/
def fdLength (n : Nat) : Nat := ([8, 12, 16, 20, 24, 32, 48, 64].find? (fun k => decide (n ≤ k))).getD 64

/-- A frame of the service path to an address, padded with 0xCC (R93). -/
def serviceFrame (s : State) (dest : Nat) (d : Bytes) : CanFrame :=
  { id := 0x18DA0000 + 256 * dest + serviceAddress s, ide := true, fdf := true, brs := true, remote := false,
    data := d ++ List.replicate (fdLength d.length - d.length) 0xCC#8 }

/-- The consecutive frames of a message from a sequence number on, at most so many of them. -/
def consecutive (s : State) (dest : Nat) : Nat → Nat → Bytes → List CanFrame
  | 0, _, _ => []
  | fuel + 1, sn, d =>
    if d.isEmpty then [] else serviceFrame s dest (leBytes 1 (0x20 + sn % 16) ++ d.take 63) :: consecutive s dest fuel (sn + 1) (d.drop 63)

/-- A frame of the service path enters TXB2 of CAN_D or waits for it; N_As runs while it waits for its transmission (R95). -/
def sendSegment (f : CanFrame) (s : State) : State :=
  let until_ := if txPending s 3 2 && s.pk.asUntil.isSome then s.pk.asUntil else some (s.now + sec)
  sendFirmware 3 f { s with pk := { s.pk with asUntil := until_ } }

/-- A packet goes out in one ISO 15765-2 message: in a single frame, or a first frame after which the flow control of the
receiver is awaited for N_Bs from its transmission on (R93, R95). -/
def startTransfer (dest : Nat) (bs : Bytes) (s : State) : State :=
  let n := bs.length
  if n ≤ 7 then sendSegment (serviceFrame s dest (leBytes 1 n ++ bs)) s
  else if n ≤ 62 then sendSegment (serviceFrame s dest (leBytes 1 0 ++ leBytes 1 n ++ bs)) s
  else
    let s := sendSegment (serviceFrame s dest (leBytes 1 (0x10 + n / 256) ++ leBytes 1 n ++ bs.take 62)) s
    { s with pk := { s.pk with isoTx := some { peer := dest, total := n, data := bs.drop 62, nextSn := 1, deadline := none } } }

/-- A packet of the service path goes out, or waits for the transfer in progress. -/
def sendService (dest : Nat) (bs : Bytes) (s : State) : State :=
  if s.pk.isoTx.isSome then { s with can := { s.can with packets := s.can.packets ++ [(dest, bs)] } } else startTransfer dest bs s

/-- Packets that wait start until one of them awaits flow control. -/
def nextTransfers : List (Nat × Bytes) → State → State
  | [], s => { s with can := { s.can with packets := [] } }
  | p :: l, s =>
    if s.pk.isoTx.isSome then { s with can := { s.can with packets := p :: l } } else nextTransfers l (startTransfer p.1 p.2 s)

/-- The sending transfer ends. -/
def endTransfer (s : State) : State := nextTransfers s.can.packets { s with pk := { s.pk with isoTx := none } }

/-- A flow control frame comes from an address (R95): its status and block size. -/
def flowControl (from_ status bs : Nat) (s : State) : State :=
  match s.pk.isoTx with
  | none => s
  | some x =>
    if x.peer ≠ from_ then s
    else if status = 0 then
      let k := if bs = 0 then ceilDiv x.data.length 63 else bs
      let s := foldOver (fun s f => sendSegment f s) s (consecutive s x.peer k x.nextSn x.data)
      let rest := x.data.drop (63 * k)
      if rest.isEmpty then endTransfer s
      else { s with pk := { s.pk with isoTx := some { x with data := rest, nextSn := x.nextSn + k, deadline := none } } }
    else if status = 1 then { s with pk := { s.pk with isoTx := some { x with deadline := some (s.now + sec) } } }
    else endTransfer s

/-- A frame of the service path with its sender: the message that it completes, if it does (R93, R95). DESIGN CHOICE: one message is put
together at a time, and a first frame replaces the one in progress, from another sender too; R95 says nothing of two (log entry
160); one that announces more than the longest packet is left without an answer and counted nowhere (log entry 200). -/
def takeSegment (from_ : Nat) (d : Bytes) (s : State) : State × Option Bytes :=
  let pci := fieldAt d 0 1
  let clear := fun (s : State) => { s with pk := { s.pk with isoRx := none } }
  if pci / 16 = 0 then
    let n := if pci = 0 then fieldAt d 1 1 else pci
    let body := if pci = 0 then d.drop 2 else d.drop 1
    if n = 0 ∨ body.length < n then (s, none) else (clear s, some (body.take n))
  else if pci / 16 = 1 then
    let n := pci % 16 * 256 + fieldAt d 1 1
    if n ≤ 62 ∨ 1428 < n then (s, none)
    else
      let s := sendSegment (serviceFrame s from_ (leBytes 1 0x30 ++ leBytes 1 0 ++ leBytes 1 0)) s
      ({ s with pk := { s.pk with isoRx := some { peer := from_, total := n, data := d.drop 2, nextSn := 1, deadline := none } } }, none)
  else if pci / 16 = 2 then
    match s.pk.isoRx with
    | none => (s, none)
    | some x =>
      if x.peer ≠ from_ then (s, none)
      else if pci % 16 ≠ x.nextSn % 16 then (clear s, none)
      else
        let data := x.data ++ d.drop 1
        if x.total ≤ data.length then (clear s, some (data.take x.total))
        else
          ({ s with pk := { s.pk with isoRx := some { x with data := data, nextSn := x.nextSn + 1, deadline := some (s.now + sec) } } }, none)
  else if pci / 16 = 3 then (flowControl from_ (pci % 16) (fieldAt d 1 1) s, none)
  else (s, none)

/-- N_As has ended for a frame of the service path that still waits for its transmission: the message is given up with the frames that
wait behind it, and the next packet starts (R95). -/
def asTimeout (s : State) : State :=
  match s.pk.asUntil with
  | none => s
  | some e =>
    if s.now < e || !txPending s 3 2 then s
    else
      let s := modBuffer 3 2 (fun _ => {}) (modControl 3 (fun c => { c with firmware := [] }) s)
      endTransfer (State.put { s with pk := { s.pk with asUntil := none } } (txState 3 2) 0)

/-- A frame of the service path has left CAN_D: N_Bs of a transfer runs from its first frame or the last consecutive frame before the
next flow control, N_Cr of the one received from its flow control; N_As of the next frame begins (R95). -/
def segmentSent (f : CanFrame) (s : State) : State :=
  let kind := fieldAt f.data 0 1 / 16
  let from_ := some (s.now + sec)
  let tx := s.pk.isoTx.map (fun x => if x.deadline.isNone && (kind == 1 || kind == 2) then { x with deadline := from_ } else x)
  let rx := s.pk.isoRx.map (fun x => if x.deadline.isNone && kind == 3 then { x with deadline := from_ } else x)
  { s with pk := { s.pk with isoTx := tx, isoRx := rx } }

/-- N_As of the frame that stands in TXB2 of CAN_D begins, or none runs (R95). -/
def restartAs (s : State) : State :=
  { s with pk := { s.pk with asUntil := if txPending s 3 2 then some (s.now + sec) else none } }

/-- N_As, N_Bs or N_Cr ends a transfer (R95). -/
def isoTimeout (s : State) : State :=
  let s := asTimeout s
  let s := match s.pk.isoRx with
    | some x => if due x.deadline s then { s with pk := { s.pk with isoRx := none } } else s
    | none => s
  match s.pk.isoTx with
  | some x => if due x.deadline s then endTransfer s else s
  | none => s

end Sys2Proof.Machine
end

