-- ==== Sys2Proof/Machine/Crypto.lean ====
section
/-!
DEFINITION. The checks and the cryptography that the spec names: CRC-32C (R82), HMAC-SHA-256 (R83, R101).
The further ones of the Line, the consist, RTCM and the image signatures stand beside them.
-/

namespace Sys2Proof.Machine

/-! ### CRC-32C (R82) -/

/-- One bit of a reflected CRC with the given polynomial. -/
def crcBit (poly c : Nat) : Nat := if c % 2 = 1 then Nat.xor (c / 2) poly else c / 2

/-- Eight bits of a reflected CRC. -/
def crcByte (poly c : Nat) : Nat :=
  crcBit poly (crcBit poly (crcBit poly (crcBit poly (crcBit poly (crcBit poly (crcBit poly (crcBit poly c)))))))

/-- A reflected CRC over a byte string, from a running value. -/
def crcRun (poly : Nat) : Nat → Bytes → Nat
  | c, [] => c
  | c, b :: r => crcRun poly (crcByte poly (Nat.xor c b.toNat)) r

/-- CRC-32C: reflected polynomial 0x82F6_3B78, initial value and final exclusive-or 0xFFFF_FFFF (R82). -/
def crc32c (bs : Bytes) : Nat := Nat.xor (crcRun 0x82F63B78 0xFFFFFFFF bs) 0xFFFFFFFF

/-- The CRC-32 of IEEE 802.3: reflected polynomial 0xEDB8_8320, initial value and final exclusive-or 0xFFFF_FFFF (R153). -/
def crc32 (bs : Bytes) : Nat := Nat.xor (crcRun 0xEDB88320 0xFFFFFFFF bs) 0xFFFFFFFF

/-! ### SHA-256 -/

/-- The words of 32 bits of a number that holds n of them, the most significant first. -/
def wordsOf (v : Nat) : Nat → List Nat
  | 0 => []
  | n + 1 => v / 2 ^ (32 * n) % 2 ^ 32 :: wordsOf v n

/-- The round constants of SHA-256, eight to a number. -/
def shaRows : List Nat := [
  0x428A2F9871374491B5C0FBCFE9B5DBA53956C25B59F111F1923F82A4AB1C5ED5,
  0xD807AA9812835B01243185BE550C7DC372BE5D7480DEB1FE9BDC06A7C19BF174,
  0xE49B69C1EFBE47860FC19DC6240CA1CC2DE92C6F4A7484AA5CB0A9DC76F988DA,
  0x983E5152A831C66DB00327C8BF597FC7C6E00BF3D5A7914706CA635114292967,
  0x27B70A852E1B21384D2C6DFC53380D13650A7354766A0ABB81C2C92E92722C85,
  0xA2BFE8A1A81A664BC24B8B70C76C51A3D192E819D6990624F40E3585106AA070,
  0x19A4C1161E376C082748774C34B0BCB5391C0CB34ED8AA4A5B9CCA4F682E6FF3,
  0x748F82EE78A5636F84C878148CC7020890BEFFFAA4506CEBBEF9A3F7C67178F2]

/-- The constant of each round. -/
def shaKeys : List Nat := shaRows.flatMap (fun v => wordsOf v 8)

/-- The hash value before the first block, its eight words as one number. -/
def shaStart : Nat := 0x6A09E667BB67AE853C6EF372A54FF53A510E527F9B05688C1F83D9AB5BE0CD19

/-- A word turned right by n places: the part of the doubled word that begins n places up. -/
def turn32 (x n : Nat) : Nat := x * (2 ^ 32 + 1) / 2 ^ n % 2 ^ 32

/-- The exclusive-or of a word turned by two distances and of a third word. -/
def shaMix (x i j z : Nat) : Nat := Nat.xor z (Nat.xor (turn32 x i) (turn32 x j))

/-- The two halves of the working value: its words a to d, and its words e to h. -/
structure ShaHalves where
  low : List Nat
  high : List Nat

/-- One round, with the sum of its constant and its message word. -/
def shaRound (v : ShaHalves) (kw : Nat) : ShaHalves :=
  let a := nth v.low 0 0
  let b := nth v.low 1 0
  let e := nth v.high 0 0
  let g := nth v.high 2 0
  let pick := Nat.xor g (Nat.land e (Nat.xor (nth v.high 1 0) g))
  let vote := Nat.lor (Nat.land a b) (Nat.land (nth v.low 2 0) (Nat.lor a b))
  let t := kw + nth v.high 3 0 + pick + shaMix e 6 11 (turn32 e 25)
  { low := (t + vote + shaMix a 2 13 (turn32 a 22)) % 2 ^ 32 :: v.low.take 3
    high := (t + nth v.low 3 0) % 2 ^ 32 :: v.high.take 3 }

/-- The message words grow by n, the newest in front. -/
def shaGrow : Nat → List Nat → List Nat
  | 0, l => l
  | n + 1, l =>
    let near := nth l 1 0
    let far := nth l 14 0
    shaGrow n ((nth l 15 0 + nth l 6 0 + shaMix far 7 18 (far / 8) + shaMix near 17 19 (near / 1024)) % 2 ^ 32 :: l)

/-- The hash value after one more block of 64 bytes. -/
def shaBlock (h : List Nat) (blk : Bytes) : List Nat :=
  let words := (shaGrow 48 (wordsOf (beNat blk) 16).reverse).reverse
  let v := (List.zipWith (· + ·) shaKeys words).foldl shaRound { low := h.take 4, high := h.drop 4 }
  List.zipWith (fun x y => (x + y) % 2 ^ 32) h (v.low ++ v.high)

/-- The hash value after n more blocks. -/
def shaBlocks : Nat → List Nat → Bytes → List Nat
  | 0, h, _ => h
  | n + 1, h, bs => shaBlocks n (shaBlock h (bs.take 64)) (bs.drop 64)

/-- The bytes that are hashed for a message: the message, a one bit, zeros up to 8 bytes short of a block, and the count of its
bits. -/
def shaPadded (m : Bytes) : Bytes :=
  m ++ (0x80#8 :: List.replicate ((119 - m.length % 64) % 64) 0#8) ++ beBytes 8 (8 * m.length)

/-- SHA-256 of a byte string, 32 bytes. -/
def sha256 (m : Bytes) : Bytes :=
  (shaBlocks ((m.length + 72) / 64) (wordsOf shaStart 8) (shaPadded m)).flatMap (beBytes 4)

/-- The exclusive-or of two byte strings, as long as the shorter. -/
def xorBytes (a b : Bytes) : Bytes := List.zipWith BitVec.xor a b

/-- HMAC-SHA-256 under a key, 32 bytes (R83, R101). -/
def hmacSha256 (key m : Bytes) : Bytes :=
  let k := padTo 64 (if key.length > 64 then sha256 key else key)
  sha256 (xorBytes k (List.replicate 64 0x5C#8) ++ sha256 (xorBytes k (List.replicate 64 0x36#8) ++ m))

/-- One byte into a register of w bits, most significant bit first, with a polynomial. -/
def crcBits (w poly : Nat) : Nat → Nat → Nat → Nat
  | 0, _, c => c
  | n + 1, b, c =>
    let top := (c / 2 ^ (w - 1) + b / 2 ^ n) % 2
    let c := c * 2 % 2 ^ w
    crcBits w poly n b (if top = 1 then Nat.xor c poly else c)

/-- A CRC of w bits, most significant bit first. -/
def crcMsb (w poly init : Nat) : Bytes → Nat
  | [] => init
  | b :: l => crcMsb w poly (crcBits w poly 8 b.toNat init) l

/-- CRC-24Q of RTCM 3 transport frames (R504). -/
def crc24q (bs : Bytes) : Nat := crcMsb 24 0x864CFB 0 bs

end Sys2Proof.Machine
end

