-- ==== Sys2Proof/Machine/Containers.lean ====
section
/-!
DEFINITION. Containers of configuration data (R230–R236): reading, the directory, sections, the register image and the
tables of a set (R137, R834).
-/

namespace Sys2Proof.Machine

/-! ### Bytes of a container -/

/-- The byte at an offset. -/
def cByte (c : Container) (off : Nat) : Byte := storeGet (fun _ => c.fill) c.data off

/-- The bytes from an offset on. -/
def cBytes (c : Container) (off : Nat) : Nat → Bytes
  | 0 => []
  | n + 1 => cByte c off :: cBytes c (off + 1) n

/-- The unsigned field of n bytes at an offset (R23). -/
def cField (c : Container) (off n : Nat) : Nat := leNat (cBytes c off n)

/-- The container with bytes written from an offset on. -/
def cWrite (c : Container) (off : Nat) : Bytes → Container
  | [] => c
  | b :: r => cWrite { c with data := storeSet (fun _ => c.fill) c.data off b } (off + 1) r

/-- Every byte of a list of the container from an offset on, in one walk along its sparse data. -/
def walkBytes (fill : Byte) : Nat → Nat → List (Nat × Byte) → Bytes
  | _, 0, _ => []
  | off, n + 1, [] => fill :: walkBytes fill (off + 1) n []
  | off, n + 1, (k, b) :: r =>
    if k = off then b :: walkBytes fill (off + 1) n r else fill :: walkBytes fill (off + 1) n ((k, b) :: r)

/-- n bytes of a container from an offset on. -/
def cSlice (c : Container) (off n : Nat) : Bytes :=
  walkBytes c.fill off n (c.data.filter (fun e => decide (off ≤ e.1)))

/-- PART_CRC: CRC-32C of the whole container as held (R232). -/
def partCrc (c : Container) : Nat := crc32c (cSlice c 0 c.total)

/-! ### Header and directory (R230, R231) -/

/-- A directory entry of R231, with its place in the directory. -/
structure Section where
  slot : Nat
  type : Nat
  inst : Nat
  flags : Nat
  offset : Nat
  length : Nat
  scrc : Nat
  deriving DecidableEq, Repr

/-- Directory entry i. -/
def sectionAt (c : Container) (i : Nat) : Section :=
  let o := 32 + 16 * i
  { slot := i, type := cField c o 1, inst := cField c (o + 1) 1, flags := cField c (o + 2) 1,
    offset := cField c (o + 4) 4, length := cField c (o + 8) 4, scrc := cField c (o + 12) 4 }

/-- SECTIONS of the header. -/
def sectionCount (c : Container) : Nat := cField c 10 2

/-- The directory. -/
def directory (c : Container) : List Section := (upFrom 0 (min (sectionCount c) 256)).map (sectionAt c)

/-- The section of a type and instance. -/
def findSection (c : Container) (type inst : Nat) : Option Section :=
  (directory c).find? (fun x => x.type == type && x.inst == inst)

/-- The data of a section. -/
def sectionData (c : Container) (x : Section) : Bytes := cSlice c x.offset x.length

/-- The SCRC of a section computed again over its data (R235). -/
def resealSection (c : Container) (x : Section) : Container :=
  cWrite c (32 + 16 * x.slot + 12) (leBytes 4 (crc32c (sectionData c x)))

/-- Bytes of a section rewritten, and its SCRC recomputed (R235). -/
def writeSection (c : Container) (x : Section) (off : Nat) (new : Bytes) : Container :=
  resealSection (cWrite c (x.offset + off) new) x

/-- The next multiple of 64. -/
def align64 (n : Nat) : Nat := (n + 63) / 64 * 64

/-- A section given new data of any length: in place where it fits its old length, else moved to a new 64-byte boundary
after the container's end, which grows by it. DESIGN CHOICE: where the section comes to lie (log entry 17), and that the container may grow
beyond the 67,108,864 bytes with which one can be loaded (log entry 211). -/
def replaceSection (c : Container) (x : Section) (new : Bytes) : Container :=
  if new.length ≤ x.length then
    let c := cWrite (cWrite c x.offset new) (32 + 16 * x.slot + 8) (leBytes 4 new.length)
    resealSection c { x with length := new.length }
  else
    let at_ := align64 c.total
    let c := { c with total := at_ + new.length }
    let c := cWrite (cWrite c at_ new) 4 (leBytes 4 (at_ + new.length))
    let c := cWrite c (32 + 16 * x.slot + 4) (leBytes 4 at_ ++ leBytes 4 new.length)
    resealSection c { x with offset := at_, length := new.length }

/-! ### The register image (R228, R235) -/

/-- The entries of a register image: address and value. -/
def imageEntries : Nat → Bytes → List (Nat × Nat)
  | 0, _ => []
  | n + 1, bs => (leNat (bs.take 4), leNat ((bs.drop 4).take 4)) :: imageEntries n (bs.drop 8)

/-- The register image of a container, empty where it has none. -/
def registerImage (c : Container) : List (Nat × Nat) :=
  match findSection c 0x10 0 with
  | none => []
  | some x => imageEntries (x.length / 8) (sectionData c x)

/-- An image with the entry of an address added or replaced, in ascending address order (R228). -/
def imageSet (a v : Nat) : List (Nat × Nat) → List (Nat × Nat)
  | [] => [(a, v)]
  | (k, w) :: r => if a < k then (a, v) :: (k, w) :: r else if a = k then (a, v) :: r else (k, w) :: imageSet a v r

/-- The bytes of an image. -/
def imageBytes (l : List (Nat × Nat)) : Bytes := l.flatMap (fun e => leBytes 4 e.1 ++ leBytes 4 e.2)

/-- The value that a container gives a register: the entry of its image, or the reset value (R228). -/
def imageValue (c : Container) (a : Nat) : Nat :=
  match (registerImage c).find? (fun e => e.1 == a) with
  | some e => e.2
  | none => regReset a

/-- A container with the register image entry of an address added or replaced (R235). A container without an image
section is left as it is. -/
def imageWrite (c : Container) (a v : Nat) : Container :=
  match findSection c 0x10 0 with
  | none => c
  | some x => replaceSection c x (imageBytes (imageSet a v (registerImage c)))

/-! ### Tables (R137, R834) -/

/-- Entry size and entry count of a table kind (R834, R706, R475). -/
def tableShape (kind : Nat) : Option (Nat × Nat) :=
  if kind = 0x01 then some (16, 4096)
  else if kind = 0x02 then some (16, 64)
  else if kind = 0x03 then some (4, 32)
  else if kind = 0x04 then some (12, 72)
  else if kind = 0x05 then some (8, 4096)
  else if kind = 0x06 then some (128, 64)
  else if kind = 0x0B then some (16, 1024)
  else none

/-- Instances that a table kind has (R137). -/
def tableInstances (kind : Nat) : Nat :=
  if kind = 0x02 then 16 else if kind = 0x04 then 32 else if kind = 0x05 then 4 else 1

/-- The set that the Yard die has in force: the running set, or the one to which it has swapped alone (R248). -/
def yardSet (s : State) : Option Container :=
  match s.sets.yardAhead with
  | some (_, c) => some c
  | none => s.sets.running

/-- The set from which a die takes a table: the Signal die holds the running orders and the gain tables (R227, R248). -/
def setFor (s : State) (kind : Nat) : Option Container := if kind = 0x02 ∨ kind = 0x04 then s.sets.running else yardSet s

/-- A table of the running set: its bytes. -/
def runningTable (s : State) (kind inst : Nat) : Option Bytes :=
  match setFor s kind with
  | none => none
  | some c =>
    match findSection c kind inst with
    | none => none
    | some x => some (sectionData c x)

/-- One entry of a table of the running set, without reading the rest of the section. -/
def runningEntry (s : State) (kind inst size i : Nat) : Bytes :=
  match setFor s kind with
  | none => []
  | some c =>
    match findSection c kind inst with
    | none => []
    | some x => if (i + 1) * size ≤ x.length then cSlice c (x.offset + i * size) size else []

/-! ### The timetable (R160–R173) -/

/-- A timetable entry (R160). -/
structure Slot where
  entry : Nat
  sender : Nat
  cls : Nat
  offE : Nat
  offW : Nat
  len : Nat
  roles : Nat
  dest : Nat
  deriving DecidableEq, Repr

/-- dur(LEN) in units of 0.2 ns: 128 ns + LEN × 204.8 ns (R149). -/
def duration5 (len : Nat) : Nat := 640 + 1024 * len

/-- The entry whose bytes these are. -/
def slotOf (i : Nat) (b : Bytes) : Slot :=
  { entry := i, sender := fieldAt b 0 1, cls := bitsAt (fieldAt b 1 1) 0 2, offE := fieldAt b 2 2,
    offW := fieldAt b 4 2, len := fieldAt b 6 1, roles := bitsAt (fieldAt b 7 1) 0 2, dest := fieldAt b 8 8 }

/-- The entry 0 that the terminus sends also without a running set (R161, R181). -/
def slotZero : Slot :=
  { entry := 0, sender := 0x40, cls := 0, offE := 0, offW := 0, len := 1, roles := 3, dest := 2 ^ 64 - 1 }

/-- The used entries among the bytes of a timetable (SENDER 0xFF: unused). -/
def slotsFrom : Nat → Nat → Bytes → List Slot
  | _, 0, _ => []
  | i, n + 1, b =>
    if fieldAt b 0 1 = 0xFF then slotsFrom (i + 1) n (b.drop 16)
    else slotOf i (b.take 16) :: slotsFrom (i + 1) n (b.drop 16)

/-- The used entries of the timetable in force; only entry 0 while no running set is (R181). -/
def slots (s : State) : List Slot :=
  match runningTable s 0x01 0 with
  | none => [slotZero]
  | some b => slotsFrom 0 (b.length / 16) b

/-- One entry of the timetable in force. -/
def slotNo (s : State) (i : Nat) : Option Slot :=
  match yardSet s with
  | none => if i = 0 then some slotZero else none
  | some _ =>
    match runningEntry s 0x01 0 16 i with
    | [] => none
    | b => if fieldAt b 0 1 = 0xFF then none else some (slotOf i b)

/-- The module is addressed by an entry (R173). -/
def addressed (s : State) (x : Slot) : Bool :=
  (s.role.joined && bitAt x.dest (joinNum s)) || (isTerminus s && bitAt x.roles 0) || (isRelief s && bitAt x.roles 1)

/-- The module sends an entry: it holds the join number or the role of SENDER (R162, R163). -/
def sends (s : State) (x : Slot) : Bool :=
  (x.sender == 0x40 && isTerminus s) || (x.sender == 0x41 && isRelief s) ||
    (decide (x.sender < 64) && s.role.joined && x.sender == joinNum s)

/-- A command entry: STANDING with SENDER 0x40 (R90). -/
def isCommandEntry (x : Slot) : Bool := x.cls == 1 && x.sender == 0x40

/-- An entry addresses the module with a join number that holds the relief role or not (R173). -/
def addresses (x : Slot) (num : Nat) (relief : Bool) : Bool := bitAt x.dest num || (relief && bitAt x.roles 1)

/-- The lowest-numbered command entry that addresses a module (R90). -/
def commandEntryFor (s : State) (num : Nat) (relief : Bool) : Option Slot :=
  (slots s).find? (fun x => isCommandEntry x && addresses x num relief)

/-- The lowest-numbered command entry that addresses this module (R90). -/
def ownCommandEntry (s : State) : Option Slot := (slots s).find? (fun x => isCommandEntry x && addressed s x)

/-- The entry for the replies of this module: the lowest-numbered STANDING entry whose SENDER is its join number and
which the terminus-role holder receives (R90). The holder's number is MASTER_NUM. -/
def replyEntry (s : State) : Option Slot :=
  (slots s).find? (fun x => x.cls == 1 && x.sender == joinNum s &&
    (bitAt x.roles 0 || bitAt x.dest (s.get F.LIN_POS_MASTER_NUM)))

/-- SET_ID: the low 16 bits of the LINE_CRC of the set in force on the Yard die, 0 without one (R150, R232, R248). -/
def ownSetId (s : State) : Nat :=
  match s.sets.yardAhead with
  | some (crc, _) => crc % 65536
  | none => s.get F.CFG_RUN_CRC_CRC % 65536

/-- The register lies on the Signal die (R829, R830). -/
def regOnSignal (a : Nat) : Bool :=
  match blockOf a with
  | none => false
  | some b => blockDie b == .signal

/-! ### The running set comes into force -/

/-- The register space after a swap: every RWS field at the value that the new image gives it, every other field as it
was (R26, R228). -/
def swapRegs (c : Container) (regs : List (Nat × Word)) : List (Nat × Word) :=
  let isRws := fun a => a == Access.RWS
  let base := foldOver (fun (l : List (Nat × Word)) (e : Nat × Word) =>
      let m := regMask isRws e.1
      let w := e.2.toNat
      storeSet regDefault l e.1 (BitVec.ofNat 32 (w - Nat.land w m + Nat.land (regReset e.1) m))) regs regs
  foldOver (fun (l : List (Nat × Word)) (e : Nat × Nat) =>
      let m := regMask isRws e.1
      let w := (storeGet regDefault l e.1).toNat
      storeSet regDefault l e.1 (BitVec.ofNat 32 (w - Nat.land w m + Nat.land e.2 m))) base (registerImage c)

/-- The register space after a swap of one die alone (R248). -/
def swapDie (signal : Bool) (c : Container) (regs : List (Nat × Word)) : List (Nat × Word) :=
  let new := swapRegs c regs
  foldOver (fun (l : List (Nat × Word)) (e : Nat × Word) =>
    if regOnSignal e.1 == signal then storeSet regDefault l e.1 (storeGet regDefault new e.1) else l) regs (regs ++ new)

/-- A container without sections: without a running set the RWS fields are at their reset values. -/
def noContainer : Container := { total := 0, fill := 0#8, data := [] }

/-- A Yard die that restarts goes back to the set that the Signal die holds (R248). -/
def yardTakesSet (s : State) : State :=
  match s.sets.yardAhead with
  | none => s
  | some _ =>
    { s with regs := swapDie false (s.sets.running.getD noContainer) s.regs, sets := { s.sets with yardAhead := none } }

end Sys2Proof.Machine
end

