-- ==== Sys2Proof/Machine/Requests.lean ====
section
/-!
DEFINITION. Command packets: layout, integrity and authentication (R74–R85), replies and their classes (R78–R80, R132),
sessions and their sequence state (R96–R116), admission and waiting (R117–R125), forwarding and broadcast (R90, R91,
R126, R127). What each opcode does is given by its family; the acceptance of R110 takes it as an argument.
-/

namespace Sys2Proof.Machine

/-! ### Status codes (R132) -/
namespace St
def ok : Nat := 0x0000
def queued : Nat := 0x0001
def partialOk : Nat := 0x0002
def cancelled : Nat := 0x0003
def notCancelled : Nat := 0x0004
def badVersion : Nat := 0x0010
def badOpcode : Nat := 0x0011
def badLength : Nat := 0x0012
def badParam : Nat := 0x0013
def badTarget : Nat := 0x0014
def noBroadcast : Nat := 0x0015
def badAddress : Nat := 0x0016
def badAlign : Nat := 0x0017
def noSession : Nat := 0x0020
def privilege : Nat := 0x0021
def authLockout : Nat := 0x0022
def authFailed : Nat := 0x0023
def sessionsFull : Nat := 0x0024
def staleSequence : Nat := 0x0025
def seqReused : Nat := 0x0026
def locked : Nat := 0x0030
def loopRunning : Nat := 0x0031
def throwPending : Nat := 0x0032
def notTerminus : Nat := 0x0033
def stationAbsent : Nat := 0x0034
def signalDown : Nat := 0x0035
def runningSet : Nat := 0x0036
def forwardTimeout : Nat := 0x0037
def queueFull : Nat := 0x0040
def overBudget : Nat := 0x0041
def ownerRestart : Nat := 0x0042
def setCrc : Nat := 0x1201
def setInconsistent : Nat := 0x1202
def setFormat : Nat := 0x1203
def notVerified : Nat := 0x1204
def throwAborted : Nat := 0x1205
def channelSided : Nat := 0x1301
def channelLatched : Nat := 0x1302
def limpActive : Nat := 0x1303
def loopUndefined : Nat := 0x1401
def modelFormat : Nat := 0x1501
def modelOperator : Nat := 0x1502
def streamRetired : Nat := 0x1503
def functionUnknown : Nat := 0x1601
def functionFrozen : Nat := 0x1602
def noOperatorEnable : Nat := 0x1701
def noFix : Nat := 0x1702
def noGuidance : Nat := 0x1703
def consistFull : Nat := 0x1901
def consistKey : Nat := 0x1902
def imageSignature : Nat := 0x1C01
def imageRollback : Nat := 0x1C02
def noRelief : Nat := 0x1C03
def slotState : Nat := 0x1C04
def protocolRevision : Nat := 0x1D01
def noReference : Nat := 0x1E01
end St

/-- A status reported as served and not as TURNED_AWAY (the Class column of R132). -/
def servedStatus (st : Nat) : Bool :=
  st == St.ok || st == St.queued || st == St.partialOk || st == St.notCancelled

/-- The opcodes with a side effect (the Eff column of R128). -/
def effectOpcodes : List Nat :=
  [0x0002, 0x0003, 0x0006, 0x0007, 0x0101, 0x0102, 0x0105, 0x0106, 0x0107, 0x0200, 0x0201, 0x0202, 0x0203, 0x0300, 0x0302, 0x0304,
    0x0400, 0x0401, 0x0402, 0x0403, 0x0500, 0x0503, 0x0600, 0x0601, 0x0700, 0x0701, 0x0702, 0x0703, 0x0705, 0x0800, 0x0801, 0x0900,
    0x0901, 0x0902, 0x0904, 0x0A00, 0x0A01, 0x0C00, 0x0C01, 0x0C02, 0x0C03, 0x0C04, 0x0D01, 0x0D02, 0x0E00, 0x0E02, 0x0E03, 0x0F01]

/-- An opcode has a side effect. -/
def hasEffect (op : Nat) : Bool := effectOpcodes.contains op

/-- What carrying out a request answers: the state it leaves, STATUS, the result, a retry-after in ns (R69), and what
it still waits for where it goes on executing. -/
structure Answer where
  st : State
  status : Nat := 0
  result : Bytes := []
  retry : Nat := 0
  job : Option Job := none
  /-- The session ends once the reply has left (R107). -/
  closes : Bool := false
  deriving DecidableEq, Repr

/-- OK with a result. -/
def ok (s : State) (r : Bytes) : Answer := { st := s, result := r }

/-- A refusal: nothing is changed. -/
def refuse (s : State) (status : Nat) : Answer := { st := s, status := status }

/-- What the opcode table says of an opcode (R128) beside its side effect, the check of its PARAM_LEN, whether a request of it
needs the Signal die (R830), and its execution. -/
structure OpInfo where
  code : Nat
  level : Nat
  bcast : Bool
  lenOk : Bytes → Bool
  needsSignal : Request → Bool
  run : Request → State → Answer

/-! ### Layout, integrity and authentication -/

/-- Header bytes 4–15: SESSION, TARGET, ORIGIN, SEQUENCE, OPCODE and PARAM_LEN (R75). -/
def headerMid (session target origin seq op len : Nat) : Bytes :=
  leBytes 2 session ++ leBytes 1 target ++ leBytes 1 origin ++ leBytes 4 seq ++ leBytes 2 op ++ leBytes 2 len

/-- The 24 header bytes (R75). -/
def headerBytes (magic version flags session target origin seq op len auth : Nat) : Bytes :=
  leBytes 2 magic ++ leBytes 1 version ++ leBytes 1 flags ++ headerMid session target origin seq op len ++
    leBytes 8 auth

/-- The header and parameters of a request with a given AUTH. -/
def requestBytes (op : Nat) (p : Request) (auth : Nat) : Bytes :=
  headerBytes p.magic.toNat p.version.toNat p.flags.toNat p.session.toNat p.target.toNat p.origin.toNat
    p.sequence.toNat op p.paramLen.toNat auth ++ p.params

/-- The trailer of a request is right (R82). -/
def crcGood (op : Nat) (p : Request) : Bool := crc32c (requestBytes op p p.auth.toNat) == p.crc.toNat

/-- The authentication tag of R83: the first 8 bytes of HMAC-SHA-256. -/
def tagOf (key body : Bytes) : Nat := leNat ((hmacSha256 key body).take 8)

/-- The fingerprint of a request (R112). -/
def fingerprint (op : Nat) (p : Request) : Nat :=
  crc32c (headerMid p.session.toNat p.target.toNat p.origin.toNat p.sequence.toNat op p.paramLen.toNat ++ p.params)

/-- The bytes of a packet that the module sends, before the trailer, with a given AUTH (R74, R78). -/
def replyBody (r : Reply) (auth : Nat) : Bytes :=
  headerBytes 0x5A47 r.version r.flags r.session r.target r.origin r.sequence r.opcode r.result.length auth ++
    leBytes 2 r.status ++ leBytes 1 r.admitted ++ [0#8] ++ leBytes 2 r.qpos ++ leBytes 2 r.wait ++ r.result

/-- The packet with its AUTH under a key (none: 0, R84) and its trailer (R83). -/
def sealReply (key : Option Bytes) (r : Reply) : Reply :=
  let a := match key with
    | none => 0
    | some k => tagOf k (replyBody r 0)
  { r with auth := a, crc := crc32c (replyBody r a) }

/-- All bytes of a packet that the module sends. -/
def replyBytes (r : Reply) : Bytes := replyBody r r.auth ++ leBytes 4 r.crc

/-! ### Sessions -/

/-- The session of a number. -/
def findSession (s : State) (n : Nat) : Option Session := s.pk.sessions.find? (fun x => x.num == n)

/-- The session list with the entry of a number replaced or added, in ascending order. -/
def putSessionIn (x : Session) : List Session → List Session
  | [] => [x]
  | y :: l => if x.num < y.num then x :: y :: l else if x.num = y.num then x :: l else y :: putSessionIn x l

/-- The state with a session replaced or added. -/
def putSession (x : Session) (s : State) : State := { s with pk := { s.pk with sessions := putSessionIn x s.pk.sessions } }

/-- The state with a session changed. -/
def modSession (n : Nat) (f : Session → Session) (s : State) : State :=
  match findSession s n with
  | none => s
  | some x => putSession (f x) s

/-- The numbers of sessions (R98). -/
def sessionNumber (n : Nat) : Bool := decide (1 ≤ n) && decide (n ≤ 16)

/-- A session that forwarded requests open on a station: only sequence state (R113, R831). -/
def blankSession (n now h : Nat) (via : Transport) : Session :=
  { num := n, isOpen := true, level := 0, key := [], hostNonce := [], moduleNonce := [], openBy := 0, h := h,
    seen := 1, records := [], lastAuth := now, via := via, unlocked := [], evQueue := [], evLost := 0 }

/-- The subscription, the LOST count and the EVENT counter of a session at their reset values (R717, R740). -/
def clearDelivery (n : Nat) (s : State) : State :=
  let s := foldOver (fun s w => s.setReg (Reg.EVT_SUB (n - 1) w) 0) s [0, 1, 2, 3]
  (s.setReg (Reg.EVT_QUEUE (n - 1)) 0).setReg (Reg.EVT_SEQ (n - 1)) 0

/-- A session ends: its queued requests are cancelled, the replies of its executing ones are discarded, its blocks are
locked again, its subscription is cleared, and its diagnostic stream is gone (R107, R108, R180, R717). -/
def endSession (n : Nat) (s : State) : State :=
  let gone := match s.dma.diagAt with
    | some (_, _, k, _) => k == n
    | none => false
  closeDataOfSession n <| clearDelivery n
    { s with dma := { s.dma with diagAt := if gone then none else s.dma.diagAt }, pk := { s.pk with
        sessions := s.pk.sessions.filter (fun x => x.num != n)
        waiting := (s.pk.waiting.filter (fun w => !(w.req.session.toNat == n && w.job == Job.queued))).map
          (fun w => if w.req.session.toNat == n then { w with orphan := true } else w) } }

/-- A session has a block unlocked now (R140). -/
def unlockedBy (x : Session) (block now : Nat) : Bool := x.unlocked.any (fun e => e.1 == block && decide (now < e.2))

/-! ### Replies -/

/-- The module answers this request over the Line (R90). -/
def forwardedIn (p : Request) : Bool :=
  match p.via with
  | .line _ _ => true
  | _ => false

/-- FLAGS of a reply: REPLY, RESEND echoed, FORWARDED for a reply over the Line, INTERIM (R76). -/
def replyFlags (p : Request) (interim : Bool) : Nat :=
  1 + 2 * bitsAt p.flags.toNat 1 1 + 4 * b2n (forwardedIn p) + 16 * b2n interim

/-- The session under which a packet of a host is examined: on the relief terminus, sessions 1–12 are those of the mirror (R118,
R119); its own records of requests forwarded to it (R113) stand apart. -/
def heldSession (s : State) (n : Nat) : Option Session :=
  if isRelief s && decide (n ≤ 12) then s.line.mirrorSessions.find? (fun x => x.num == n) else findSession s n

/-- The key under which the reply to a request is tagged: none over the Line, for the opcodes and statuses of R84, and
where no session is open. -/
def replyKey (s : State) (op : Nat) (p : Request) (status : Nat) : Option Bytes :=
  if forwardedIn p || op == 0x0001 || op == 0x0002 || status == St.noSession || status == St.authFailed ||
      status == St.badVersion then none
  else
    match heldSession s p.session.toNat with
    | none => none
    | some x => if x.isOpen && !x.key.isEmpty then some x.key else none

/-- A reply to a request with every field given. -/
def buildReply (s : State) (op : Nat) (p : Request) (interim : Bool) (origin status admitted qpos wait : Nat)
    (result : Bytes) : Reply :=
  sealReply (replyKey s op p status)
    { version := 1, flags := replyFlags p interim, session := p.session.toNat, target := p.target.toNat,
      origin := origin, sequence := p.sequence.toNat, opcode := op, status := status, admitted := admitted, qpos := qpos,
      wait := wait, result := result, auth := 0, crc := 0 }

/-- The class a final reply reports: TURNED_AWAY for refusals, else RESERVED within the budget of R122 and STANDING
otherwise (R62, R80). -/
def admitOf (reserved : Bool) (status : Nat) : Nat := if servedStatus status then (if reserved then 0 else 1) else 2

/-! ### Packets onto the Line (R90, R164, R165) -/

/-- The fragments of a packet for frames of LEN blocks, each with its fragment header (R165). -/
def fragments (len pktId : Nat) : Nat → Nat → Bytes → List Bytes
  | 0, _, _ => []
  | fuel + 1, i, bs =>
    let room := 64 * len - 4
    if bs.length ≤ room then
      [leBytes 1 pktId ++ leBytes 1 (i + 128) ++ leBytes 2 bs.length ++ bs]
    else
      (leBytes 1 pktId ++ leBytes 1 i ++ leBytes 2 room ++ bs.take room) :: fragments len pktId fuel (i + 1) (bs.drop room)

/-- The rolling PKT_ID of an entry. -/
def pktIdOf (s : State) (entry : Nat) : Nat := storeGet (fun _ => 0) s.line.pktIds entry

/-- Frames that wait in an entry's queue (R164). -/
def queuedIn (s : State) (entry : Nat) : Nat := (s.line.queues.filter (fun e => e.1 == entry)).length

/-- An entry's queue begins to serve its first frame (R68). -/
def startEntry (entry : Nat) (s : State) : State :=
  if queuedIn s entry = 0 then { s with line := { s.line with entryFrom := putNum s.line.entryFrom entry s.now } } else s

/-- A frame leaves an entry's queue: its service time joins the last 64 of that queue (R68). -/
def noteEntryServed (entry : Nat) (s : State) : State :=
  let took := s.now - (lookupNum s.line.entryFrom entry).getD s.now
  { s with line := { s.line with
      entryFrom := putNum s.line.entryFrom entry s.now
      entryService := putNum s.line.entryService entry ((took :: (lookupNum s.line.entryService entry).getD []).take 64) } }

/-- A packet offered to a STANDING entry's queue of 64 frames; none where it does not fit (R164). DESIGN CHOICE: a packet of several
fragments for which the room left is too short does not fit, though the queue is not full (log entry 208). -/
def offerQueue (x : Slot) (bs : Bytes) (s : State) : Option State :=
  let fr := fragments x.len (pktIdOf s x.entry) 128 0 bs
  if queuedIn s x.entry + fr.length ≤ 64 then
    let s := startEntry x.entry s
    some { s with line := { s.line with
      queues := s.line.queues ++ fr.map (fun f => (x.entry, f))
      pktIds := storeSet (fun _ => 0) s.line.pktIds x.entry ((pktIdOf s x.entry + 1) % 256) } }
  else none

/-- A packet that waits in an entry (0xFFF: in best-effort frames) belongs to a RESERVED request. -/
def reservedPacket (s : State) (entry pktId : Nat) : Bool :=
  s.pk.waiting.any (fun w => w.reserved && w.leaving.any (fun e => e.1 == entry && e.2.1 == pktId))

/-- Frames enter a queue ahead of the first frame that begins a packet of the STANDING class: RESERVED requests never wait behind
STANDING ones (R64). What a queue element holds is told by its test and its fragment. -/
def insertAhead {α : Type} (begins : α → Bool) (l : List α) : List α → List α
  | [] => l
  | e :: r => if begins e then l ++ e :: r else e :: insertAhead begins l r

/-- A RESERVED packet enters a STANDING entry's queue, ahead of the STANDING packets and whether they fill the queue or not (R64,
R122). -/
def offerReserved (x : Slot) (bs : Bytes) (s : State) : State :=
  let fr := (fragments x.len (pktIdOf s x.entry) 128 0 bs).map (fun f => (x.entry, f))
  let begins := fun (e : Nat × Bytes) =>
    e.1 == x.entry && bitsAt (fieldAt e.2 1 1) 0 7 == 0 && !reservedPacket s x.entry (fieldAt e.2 0 1)
  let s := startEntry x.entry s
  { s with line := { s.line with
      queues := insertAhead begins fr s.line.queues
      pktIds := storeSet (fun _ => 0) s.line.pktIds x.entry ((pktIdOf s x.entry + 1) % 256) } }

/-- A best-effort frame of the module waits for the best-effort window (R176). -/
def offerBe (type dest : Nat) (payload : Bytes) (s : State) : State :=
  { s with line := { s.line with beQueue := s.line.beQueue ++ [(type, dest, payload)] } }

/-- A packet in BE_DATA frames has room among the best-effort frames that wait, ring 52 (R647, R648). -/
def beRoom (s : State) (bs : Bytes) : Bool :=
  decide (s.line.beQueue.length + (fragments 24 0 128 0 bs).length ≤ s.get (F.DMA_RING_CFG_ENTRIES 52))

/-- A packet for a module leaves in BE_DATA frames of at most 24 blocks, fragmented as QUEUED frames are (R90, R181). -/
def offerBePacket (dest : Nat) (bs : Bytes) (s : State) : State :=
  let fr := fragments 24 (pktIdOf s 0xFFF) 128 0 bs
  foldOver (fun s f => offerBe 0x16 dest f s)
    { s with line := { s.line with pktIds := storeSet (fun _ => 0) s.line.pktIds 0xFFF ((pktIdOf s 0xFFF + 1) % 256) } } fr

/-- The same for a RESERVED packet, ahead of the STANDING ones (R64). -/
def offerBeReserved (dest : Nat) (bs : Bytes) (s : State) : State :=
  let fr := (fragments 24 (pktIdOf s 0xFFF) 128 0 bs).map (fun f => ((0x16, dest, f) : Nat × Nat × Bytes))
  let begins := fun (e : Nat × Nat × Bytes) =>
    e.1 == 0x16 && bitsAt (fieldAt e.2.2 1 1) 0 7 == 0 && !reservedPacket s 0xFFF (fieldAt e.2.2 0 1)
  { s with line := { s.line with
      beQueue := insertAhead begins fr s.line.beQueue
      pktIds := storeSet (fun _ => 0) s.line.pktIds 0xFFF ((pktIdOf s 0xFFF + 1) % 256) } }

/-- The reply of this module to a forwarded request: in its reply entry, where it waits for room if there is none
(R164), or in BE_DATA frames to the holder where the timetable gives it no such entry (R90). -/
def replyOverLine (r : Reply) (s : State) : State :=
  match replyEntry s with
  | none =>
    if beRoom s (replyBytes r) then offerBePacket (s.get F.LIN_POS_MASTER_NUM) (replyBytes r) s
    else { s with line := { s.line with replyWait := s.line.replyWait ++ [(0xFFF, replyBytes r)] } }
  | some x =>
    match offerQueue x (replyBytes r) s with
    | some s' => s'
    | none => { s with line := { s.line with replyWait := s.line.replyWait ++ [(x.entry, replyBytes r)] } }

/-- The Yard die stays down, because its boot decision has found no valid image: the Signal die serves CAN_D itself (R749). -/
def yardless (s : State) : Bool :=
  s.die.sigUp && !s.die.yardUp && nth s.upd.booted 1 false && (nth s.upd.ran 1 none).isNone

/-- Requests are served: by the Yard die, or by the Signal die while that has no image (R749). -/
def serving (s : State) : Bool := s.die.yardUp || yardless s

/-- The Signal die runs, and register traffic and command packets of CAN_D reach it: over the Crossover (R40, R46), or within the die
while the Yard die has no image (R749). -/
def signalReady (s : State) : Bool := s.die.sigUp && (s.die.xoUp || yardless s)

/-- A packet takes the way of a transport (R88, R90, R93); one for CAN_D waits for the Crossover where it is down (R40). -/
def transmit (dest : Transport) (r : Reply) (s : State) : State :=
  match dest with
  | .line _ _ => emit (.packet dest r) (replyOverLine r s)
  | .canD sa =>
    emit (.packet dest r)
      (if signalReady s then sendService sa.toNat (replyBytes r) s
      else { s with pk := { s.pk with canOut := s.pk.canOut ++ [(sa.toNat, replyBytes r)] } })
  | .host _ _ => emit (.packet dest r) s

/-- A reply leaves for a requester, and is counted, one with status FORWARD_TIMEOUT also among those (R130). -/
def sendPacket (dest : Transport) (r : Reply) (s : State) : State :=
  let late := if r.status = St.forwardTimeout then 1 else 0
  transmit dest r { s with pk := { s.pk with
    replied := (s.pk.replied + 1) % 4294967296, fwdTimeouts := (s.pk.fwdTimeouts + late) % 4294967296 } }

/-! ### Records and waiting requests -/

/-- The record of a SEQUENCE (R111). -/
def findRecord (x : Session) (seq : Nat) : Option ReqRecord := x.records.find? (fun r => r.seq == seq)

/-- A session with the record of a SEQUENCE replaced or added. -/
def putRecord (r : ReqRecord) (x : Session) : Session :=
  { x with records := x.records.filter (fun q => q.seq != r.seq) ++ [r] }

/-- The records that still lie in the window of 64 below H (R111). -/
def trimRecords (x : Session) : Session :=
  { x with records := x.records.filter (fun r => decide ((x.h + 4294967296 - r.seq) % 4294967296 < 64)) }

/-- The record of a request that has not completed. -/
def openRecord (op : Nat) (p : Request) (st : ReqState) : ReqRecord :=
  { seq := p.sequence.toNat, fingerprint := fingerprint op p, state := st, status := 0, admitted := 0, result := [],
    resultLen := 0 }

/-- The record of a completed request: STATUS, ADMIT and the first 64 bytes of its result (R111). -/
def doneRecord (op : Nat) (p : Request) (status admitted : Nat) (result : Bytes) : ReqRecord :=
  { seq := p.sequence.toNat, fingerprint := fingerprint op p, state := .done, status := status, admitted := admitted,
    result := result.take 64, resultLen := result.length }

/-- The waiting entry is of this request. -/
def isWaitingFor (session seq : Nat) (w : Waiting) : Bool :=
  w.req.session.toNat == session && w.req.sequence.toNat == seq

/-- The mean of a list of service times. -/
def meanOf : List Nat → Nat
  | [] => 0
  | l => (l.foldl (· + ·) 0) / l.length

/-- The mean of the last 64 service times of the queue of requests (R68). -/
def meanService (s : State) : Nat := meanOf s.pk.service

/-- The mean of the last 64 service times of an entry's queue (R68). -/
def entryMean (s : State) (entry : Nat) : Nat := meanOf ((lookupNum s.line.entryService entry).getD [])

/-- The queue position of a waiting request: 1 = next; 0 once it executes (R78, R123). -/
def queuePos (session seq : Nat) : Nat → List Waiting → Nat
  | _, [] => 0
  | n, w :: l =>
    if isWaitingFor session seq w then (if w.job == .queued then n + 1 else 0)
    else queuePos session seq (if w.job == .queued then n + 1 else n) l

/-- ORIGIN of the replies to a waiting request (R75): the module that executes it, 0xFF for a broadcast. -/
def originOf (s : State) (w : Waiting) : Nat :=
  match w.job with
  | .forward n => n
  | .broadcast _ _ => 0xFF
  | .mirror r => r.origin
  | _ => if w.req.target == 0xFF#8 && !forwardedIn w.req then 0xFF else joinNum s

/-- A frame carries the last fragment of its packet (R165). -/
def lastFragment (b : Bytes) : Bool := bitAt (fieldAt b 1 1) 7

/-- The position of the packet with a PKT_ID in the queue of an entry, 1 = next; 0 where it does not wait there (R78, R164). -/
def entryPos (s : State) (entry id : Nat) : Nat :=
  let l := (s.line.queues.filter (fun q => q.1 == entry)).map (fun q => q.2)
  let ahead := l.takeWhile (fun b => fieldAt b 0 1 != id)
  if ahead.length = l.length then 0 else (ahead.filter lastFragment).length + 1

/-- The queue position and the estimated wait of a waiting request (R68, R78, R123): in the queue of this module, or, of one forwarded
in a command entry, in the queue of that entry; both 0 once it executes. -/
def waitingPlace (s : State) (w : Waiting) : Nat × Nat :=
  match w.job, w.leaving with
  | .forward _, (entry, id, _) :: _ => (entryPos s entry id, entryPos s entry id * entryMean s entry)
  | _, _ =>
    let q := queuePos w.req.session.toNat w.req.sequence.toNat 0 s.pk.waiting
    (q, q * meanService s)

/-- The interim reply of a queued or executing request (R123): a queued one has its position and its estimated wait (R68), an
executing one the estimated time to its completion, which the spec does not compute: a free value. -/
def interimReply (s : State) (w : Waiting) : Reply :=
  let (q, wait) := waitingPlace s w
  let left := if q = 0 then (Config.timeToCompletion w.opcode (s.now - w.arrived)).toNat else wait
  buildReply s w.opcode w.req true (originOf s w) St.queued 1 q (waitField left) []

/-- A request that waits or goes on from now. -/
def newWaiting (op : Nat) (p : Request) (j : Job) (s : State) : Waiting :=
  { req := p, opcode := op, job := j, arrived := s.now, interimAt := s.now + 20 * ms, timeoutAt := s.now + 50 * ms, orphan := false }

/-- A request joins the waiting ones, and its interim reply is sent at once where it is queued or will go on (R123). -/
def joinWaiting (w : Waiting) (quiet : Bool) (s : State) : State :=
  let s := { s with pk := { s.pk with waiting := s.pk.waiting ++ [w] } }
  if quiet then s else sendPacket w.req.via (interimReply s w) s

/-- A request with a job joins the waiting ones. -/
def addWaiting (op : Nat) (p : Request) (j : Job) (quiet : Bool) (s : State) : State := joinWaiting (newWaiting op p j s) quiet s

/-- The last fragment of a packet has left an entry (0xFFF: in a best-effort frame): tFWD_TIMEOUT of the modules that it is for
runs from here on (R91). -/
def packetLeft (entry : Nat) (frag : Bytes) (s : State) : State :=
  let id := fieldAt frag 0 1
  if !bitAt (fieldAt frag 1 1) 7 then s
  else
    { s with pk := { s.pk with waiting := s.pk.waiting.map (fun w =>
      match w.leaving.find? (fun e => e.1 == entry && e.2.1 == id) with
      | none => w
      | some (_, _, nums) =>
        { w with
          leaving := w.leaving.filter (fun e => !(e.1 == entry && e.2.1 == id))
          timeoutAt := s.now + 50 * ms
          job := match w.job with
            | .broadcast l es => .broadcast (l.map (fun k => if nums.contains k.1 then (k.1, some (s.now + 50 * ms)) else k)) es
            | j => j }) } }

/-- A packet of the request still waits to leave for a module (R91). -/
def stillLeaving (w : Waiting) (n : Nat) : Bool := w.leaving.any (fun e => e.2.2.contains n)

/-- A request leaves the waiting ones. -/
def dropWaiting (session seq : Nat) (s : State) : State :=
  { s with pk := { s.pk with waiting := s.pk.waiting.filter (fun w => !isWaitingFor session seq w) } }

/-- A relief terminus is in the timetable and not absent (R118). -/
def reliefPresent (s : State) : Bool := s.line.members.any (fun m => m.relief && m.result == 0 && !m.absent)

/-- A mirror entry (R210). -/
def isMirrorEntry (x : Slot) : Bool := x.cls == 0 && x.sender == 0x40 && x.roles == 2 && x.dest == 0

/-- The final reply of a request waits for the mirror: its opcode has a side effect, its session is Line-wide, this module holds the
terminus role and a relief terminus is present (R118). -/
def mirrorHolds (op : Nat) (p : Request) (s : State) : Bool :=
  hasEffect op && isTerminus s && reliefPresent s && !forwardedIn p && decide (1 ≤ p.session.toNat) && decide (p.session.toNat ≤ 12)

/-- A module in the timetable runs another set than the Line (R255, R270). -/
def inMismatch (s : State) (n : Nat) : Bool := s.line.members.any (fun m => m.num == n && m.result == 0 && m.mismatch)

/-- The record of a request is kept in its session (R111); HELLO and SESSION_OPEN, examined without a session, leave none (R110). -/
def noteRecord (op : Nat) (p : Request) (r : ReqRecord) (s : State) : State :=
  if op ≤ 2 then s else modSession p.session.toNat (putRecord r) s

/-- The final reply of a request leaves, or waits for the mirror where R118 asks it: a side effect, a session 1–12 and
a relief terminus present. The record is complete in either case. -/
def finishAs (eff reserved : Bool) (op : Nat) (p : Request) (origin status retry : Nat) (result : Bytes) (s : State) : State :=
  let a := admitOf reserved status
  let w := if a = 2 && retry != 0 then waitField retry else 0
  let r := buildReply s op p false origin status a 0 w result
  let hold := eff && isTerminus s && reliefPresent s && !forwardedIn p && decide (1 ≤ p.session.toNat) &&
    decide (p.session.toNat ≤ 12)
  let done := { doneRecord op p status a result with origin := origin, retryUntil := if a = 2 && retry != 0 then s.now + retry else 0 }
  let s := noteRecord op p (if hold then { done with state := .executing } else done) s
  if hold then addWaiting op p (.mirror r) true s else sendPacket p.via r s

/-- The final reply of a request, whose opcode says whether it has a side effect. -/
def finish (reserved : Bool) (op : Nat) (p : Request) (origin status retry : Nat) (result : Bytes) (s : State) : State :=
  finishAs (hasEffect op) reserved op p origin status retry result s

/-- A reply that leaves no record: the refusals before the sequence check (R109, R110). -/
def answerNow (op : Nat) (p : Request) (status retry : Nat) (s : State) : State :=
  sendPacket p.via
    (buildReply s op p false (joinNum s) status (admitOf false status) 0 (if retry = 0 then 0 else waitField retry) []) s

/-! ### Admission -/

/-- The refusal of the same request with a retry-after that still runs (R69). -/
def heldOff (s : State) (op : Nat) (p : Request) : Option Refused :=
  s.pk.refused.find? (fun r => r.session == p.session.toNat && r.opcode == op && r.target == p.target.toNat &&
    r.params == p.params && decide (s.now < r.until_))

/-- A refusal with a retry-after is kept until it has passed (R69). -/
def holdOff (op : Nat) (p : Request) (status retry : Nat) (s : State) : State :=
  if retry = 0 then s
  else
    { s with pk := { s.pk with refused := s.pk.refused.filter (fun r => decide (s.now < r.until_)) ++
        [{ session := p.session.toNat, opcode := op, target := p.target.toNat, params := p.params, status := status,
           until_ := s.now + retry }] } }

/-- The answer NOT_TERMINUS of the relief terminus; its retry-after of 1 ms holds a repetition off (R69, R119). -/
def answerNotTerminus (op : Nat) (p : Request) (s : State) : State :=
  answerNow op p St.notTerminus ms (holdOff op p St.notTerminus ms s)

/-- The opcodes of the RESERVED budget of R122; LOAD_SET only with every state off. -/
def reservedOpcode (op : Nat) (p : Request) : Bool :=
  op == 0x0701 || op == 0x0601 || op == 0x0402 ||
    (op == 0x0300 && (upFrom 0 (fieldAt p.params 0 1)).all (fun i => fieldAt p.params (4 + 4 * i + 1) 1 == 0))

/-- The grants of the RESERVED budget within the last second. -/
def recentReserved (s : State) : List Nat := s.pk.reservedUse.filter (fun t => decide (s.now < t + sec))

/-- A request takes a grant of the RESERVED budget of 64 a second, where one is left (R122). The budget is the terminus's: a request
that it has forwarded takes none here. -/
def takeReserved (op : Nat) (p : Request) (s : State) : Bool × State :=
  if forwardedIn p then (reservedOpcode op p, s)
  else if reservedOpcode op p && decide ((recentReserved s).length < 64) then
    (true, { s with pk := { s.pk with reservedUse := recentReserved s ++ [s.now] } })
  else (false, s)

/-- The 32 places of a session's ring hold requests that are queued or executing, not those whose reply only waits for the mirror
(R121). -/
def ringFull (s : State) (p : Request) : Bool :=
  decide (32 ≤ (s.pk.waiting.filter (fun w =>
    w.req.session == p.session && !w.orphan &&
      (match w.job with
        | .mirror _ => false
        | _ => true))).length)

/-- A queued request waits for the Signal die, and not for the throw that goes on. -/
def waitsForSignal (busy : Bool) (w : Waiting) : Bool := w.job == .queued && w.signal && !(w.opcode == 0x0202 && busy)

/-- The Signal die has not reclaimed in time: the HOLD cause is latched while it is still down (R44, R46). -/
def signalLost (s : State) : Bool := !s.die.sigUp && s.flag F.LSW_LIMP_HOLD

/-- The module that a TARGET names on this one: 0, 0xFD and its own number are all this module (R77, R117). -/
def targetModule (s : State) (t : Byte) : Nat :=
  if t == 0#8 || t == 0xFD#8 || (s.role.joined && t.toNat == joinNum s) || (isRelief s && t == 0xFE#8) then 0xFD else t.toNat

/-- Two requests of one session are for the same target (R117). -/
def sameTarget (s : State) (p q : Request) : Bool :=
  p.session == q.session && targetModule s p.target == targetModule s q.target

/-- An earlier request of the same session for the same target has not completed on this module (R117). -/
def behind (s : State) (p : Request) : Bool := s.pk.waiting.any (fun w => sameTarget s w.req p && w.job == .queued)

/-- The privilege level of a request: that of its session, or, over the Line, the first byte of AUTH (R85, R99). -/
def levelOf (s : State) (p : Request) : Nat :=
  if forwardedIn p then p.auth.toNat % 256
  else
    match findSession s p.session.toNat with
    | none => 0
    | some x => x.level

/-- Where a request is to be carried out. -/
inductive Place where
  | here
  | module (num : Nat)
  | all
  | refused (status : Nat)
  deriving DecidableEq, Repr

/-- Packets go to a module: it is in the timetable and not absent, or is in SET_MISMATCH, where R255 has them forwarded to it all the
same (R91, R189). -/
def packetsReach (m : Member) : Bool := m.result == 0 && (!m.absent || m.mismatch)

/-- The module to which packets for a join number go (R91, R189, R255). -/
def memberPresent (s : State) (n : Nat) : Option Member :=
  s.line.members.find? (fun m => m.num == n && packetsReach m)

/-- The status for a number that no module in the timetable holds (R91, R187). -/
def absentStatus (s : State) (n : Nat) : Nat :=
  match s.line.members.find? (fun m => m.num == n && m.result != 0) with
  | some m => if m.result = 1 then St.protocolRevision else St.stationAbsent
  | none => St.stationAbsent

/-- Where the TARGET of a request leads on the holder of the terminus role (R58, R77, R91, R126). -/
def placeOnTerminus (s : State) (bcast : Bool) (t : Nat) : Place :=
  if t = 0x00 ∨ t = 0xFD then .here
  else if t = 0xFF then (if bcast then .all else .refused St.noBroadcast)
  else if t = 0xFE then
    match s.line.members.find? (fun m => m.relief && packetsReach m) with
    | some m => .module m.num
    | none => .refused St.stationAbsent
  else if t ≤ 0x3F then
    if t = joinNum s then .here
    else if (memberPresent s t).isSome then .module t
    else .refused (absentStatus s t)
  else .refused St.badTarget

/-- The opcodes that are accepted only with TARGET 0 (R129, R371, R506, R525, R564, R578, R580, R583, R589). -/
def lineWideOpcode (op : Nat) : Bool :=
  [0x0202, 0x0C03, 0x0D02, 0x0600, 0x0601, 0x0602, 0x0700, 0x0701, 0x0702, 0x0703, 0x0800, 0x0801, 0x0804, 0x0900, 0x0901, 0x0902,
    0x0904].contains op

/-- Where the TARGET of a request leads on this module (R77, R97, R119, R126, R129). -/
def placeOf (s : State) (op : Nat) (bcast : Bool) (p : Request) : Place :=
  let t := p.target.toNat
  match p.via with
  | .line _ _ =>
    if lineWideOpcode op && t != 0 then .refused St.badTarget
    else if t = 0xFF ∧ bcast = false then .refused St.noBroadcast
    else .here
  | _ =>
    let localSession := decide (13 ≤ p.session.toNat) || (p.session.toNat == 0 && !isTerminus s)
    if lineWideOpcode op && t != 0 then .refused St.badTarget
    else if localSession then
      if t = 0xFD ∨ (s.role.joined ∧ t = joinNum s) ∨ ((p.session.toNat = 0 ∨ op = 0x0002) ∧ isRelief s ∧ t = 0xFE) then .here
      else if p.session.toNat = 0 ∧ isRelief s ∧ (t ≤ 0x3F ∨ t = 0xFE ∨ t = 0xFF) then .refused St.notTerminus
      else .refused St.badTarget
    else placeOnTerminus s bcast t

/-- The time until the end of the throw cycle N (R69): N of the throw that this module runs, or of the token it has accepted;
8 cycles, the default lead, where it knows neither. -/
def throwEnds (s : State) : Nat :=
  let cyc := s.get F.LIN_CYCLE_CYCLE
  let n := match s.sets.throw, s.sets.token with
    | some t, _ => t.cycle
    | none, some (n, _, _) => n
    | none, none => cyc + 8
  (n + 1 - cyc) * ms - deviceTime s % ms

/-- R245 holds: the siding set is ARMED, or the throw cycle goes on. -/
def throwBars (s : State) : Bool := s.get F.CFG_STATE_SIDING == 3 || s.sets.barred == some (deviceTime s / ms)

/-- A throw is pending on the holder of the terminus role, or an update run is in progress: POINTS_THROW waits (R243, R776). -/
def throwBusy (s : State) : Bool := s.sets.throw.isSome || s.upd.run.isSome || !s.upd.asked.isEmpty

/-- The retry-after of an answer (R69): THROW_PENDING reports the end of the throw. -/
def retryOf (s : State) (a : Answer) : Nat := if a.status = St.throwPending then throwEnds s else a.retry

/-- A request that has been carried out is answered: with its final reply, or as going on. A session that closes does so with its
reply, which waits for the mirror as every reply of a side effect does (R118). -/
def concludeRun (reserved quiet : Bool) (op : Nat) (p : Request) (a : Answer) : State :=
  let retry := retryOf a.st a
  match a.job with
  | some j =>
    joinWaiting { newWaiting op p j a.st with reserved := reserved, signal := j == .queued } quiet
      (modSession p.session.toNat (putRecord (openRecord op p (if j == .queued then .queued else .executing))) a.st)
  | none =>
    let held := holdOff op p a.status retry a.st
    if a.closes then
      let r := buildReply held op p false (joinNum held) a.status (admitOf reserved a.status) 0 0 a.result
      let s := endSession p.session.toNat held
      if mirrorHolds op p held then addWaiting op p (.mirror r) true s else sendPacket p.via r s
    else finishAs (hasEffect op) reserved op p (joinNum a.st) a.status retry a.result held

/-- A request is turned away from a full queue whose mean service time is known (R67, R69). -/
def queueFull (op : Nat) (p : Request) (mean : Nat) (s : State) : State :=
  finish false op p (joinNum s) St.queueFull (max ms mean) [] (holdOff op p St.queueFull (max ms mean) s)

/-- A request is to wait in the queue of this module: for the Signal die (R46), behind an earlier request of its session and target
(R117), or behind those that wait for the Signal die already (R65). A RESERVED one waits behind none (R64, R122), and
REQUEST_CANCEL is executed at admission (R117, R125). -/
def mustQueue (info : OpInfo) (reserved : Bool) (p : Request) (s : State) : Bool :=
  (info.needsSignal p && !signalReady s) ||
    (!reserved && info.code != 0x0007 &&
      (behind s p || (info.needsSignal p && s.pk.waiting.any (waitsForSignal (throwBusy s)))))

/-- A request joins the queue of this module. -/
def queueHere (info : OpInfo) (reserved : Bool) (p : Request) (s : State) : State :=
  joinWaiting { newWaiting info.code p .queued s with reserved := reserved, signal := info.needsSignal p } false
    (modSession p.session.toNat (putRecord (openRecord info.code p .queued)) s)

/-- Execution of a request on this module, or its wait: SIGNAL_DOWN (R46), the order of R65 and R117. -/
def executeHere (info : OpInfo) (reserved : Bool) (p : Request) (s : State) : State :=
  let op := info.code
  if info.needsSignal p && signalLost s then
    finish reserved op p (joinNum s) St.signalDown (20 * ms) [] (holdOff op p St.signalDown (20 * ms) s)
  else if mustQueue info reserved p s then queueHere info reserved p s
  else concludeRun reserved false op p (info.run p s)

/-- The parameters that travel with a forwarded request: SESSION_KEY_SET carries the plain key (R104). -/
def forwardParams (s : State) (op : Nat) (p : Request) : Bytes :=
  if op = 0x0006 then
    match findSession s p.session.toNat with
    | none => p.params
    | some x =>
      p.params.take 4 ++ xorBytes (p.params.drop 4)
        (hmacSha256 x.key (ascii [0x47, 0x5A, 0x56, 0x2D, 0x57, 0x52, 0x41, 0x50] ++ leBytes 4 p.sequence.toNat))
  else p.params

/-- The bytes of a request as the terminus forwards it: FORWARDED set, the level in AUTH, the trailer recomputed
(R85). DESIGN CHOICE: the reserved FLAGS bits that the host has set travel on as they came; R76 has a sender send them as 0 and does
not say which of both a forwarding terminus is (log entry 152). -/
def forwardBytes (s : State) (op : Nat) (p : Request) : Bytes :=
  let ps := forwardParams s op p
  let body := headerBytes 0x5A47 1 (setBitsAt p.flags.toNat 2 1 1) p.session.toNat p.target.toNat 0 p.sequence.toNat op
    ps.length (levelOf s p) ++ ps
  body ++ leBytes 4 (crc32c body)

/-- A packet for one module onto the Line: in its lowest-numbered command entry, else in BE_DATA frames; none where the
queue has no room (R90, R164). A module in SET_MISMATCH receives BE_DATA frames only (R255). With it the entry and PKT_ID under
which the packet waits. -/
def offerToModule (m : Member) (reserved : Bool) (bs : Bytes) (s : State) : Option (State × Nat × Nat) :=
  match (if inMismatch s m.num then none else commandEntryFor s m.num m.relief) with
  | some x =>
    if reserved then some (offerReserved x bs s, x.entry, pktIdOf s x.entry)
    else (offerQueue x bs s).map (fun u => (u, x.entry, pktIdOf s x.entry))
  | none =>
    if reserved then some (offerBeReserved m.num bs s, 0xFFF, pktIdOf s 0xFFF)
    else if beRoom s bs then some (offerBePacket m.num bs s, 0xFFF, pktIdOf s 0xFFF)
    else none

/-- The mean service time of the queue that leads to a module. -/
def meanTowards (m : Member) (s : State) : Nat :=
  match commandEntryFor s m.num m.relief with
  | some x => entryMean s x.entry
  | none => 0

/-- A request opens the diagnostic stream of a module (R670). -/
def opensDiag (op : Nat) (ps : Bytes) : Bool := op == 0x0A00 && fieldAt ps 2 1 == 1

/-- A diagnostic stream is open on the Line, or a request for one has been forwarded and is not answered yet (R180). -/
def diagTaken (s : State) : Bool :=
  diagExists s || s.pk.waiting.any (fun w =>
    match w.job with
    | .forward _ => opensDiag w.opcode w.req.params
    | _ => false)

/-- A forwarded opening of a diagnostic stream has timed out: the module may have opened it (R91, R180), and the same session may ask it
again. Its number on the module is not known: 0xFF. -/
def diagUnknown (s : State) (n : Nat) (p : Request) : Bool :=
  match s.dma.diagAt with
  | some (m, k, x, _) => k == 0xFF && m == n && x == p.session.toNat
  | none => false

/-- A request that goes on elsewhere: its first interim reply is due once its execution has not ended within 10 ms (R123). -/
def goesOn (op : Nat) (p : Request) (j : Job) (s : State) : Waiting := { newWaiting op p j s with interimAt := s.now + 10 * ms }

/-- A request forwarded to one module (R90, R91). One that is queued behind others in its command entry has its interim reply at once
(R123). -/
def forwardTo (info : OpInfo) (n : Nat) (reserved : Bool) (p : Request) (s : State) : State :=
  let op := info.code
  match memberPresent s n with
  | none => finish false op p (joinNum s) (absentStatus s n) 0 [] s
  | some m =>
    if opensDiag op p.params ∧ diagTaken s = true ∧ diagUnknown s n p = false then finish false op p (joinNum s) St.overBudget 0 [] s
    else
      match offerToModule m reserved (forwardBytes s op p) s with
      | none => queueFull op p (meanTowards m s) s
      | some (s', entry, id) =>
        let ahead := decide (1 < entryPos s' entry id)
        let w := { goesOn op p (.forward n) s' with reserved := reserved, leaving := [(entry, id, [n])] }
        joinWaiting (if ahead then { w with interimAt := s.now + 20 * ms } else w) (!ahead)
          (noteRecord op p (openRecord op p .executing) s')

/-- The command entries that carry a broadcast: each that is the lowest-numbered one for some module (R90). -/
def broadcastEntries (s : State) (ms_ : List Member) : List Slot :=
  (slots s).filter (fun x => ms_.any (fun m =>
    match commandEntryFor s m.num m.relief with
    | some y => y.entry == x.entry
    | none => false))

/-- The modules that a command entry carries a broadcast to. -/
def carriedBy (s : State) (ms_ : List Member) (x : Slot) : List Nat :=
  (ms_.filter (fun m =>
    match commandEntryFor s m.num m.relief with
    | some y => y.entry == x.entry
    | none => false)).map (·.num)

/-- The entries of a broadcast reply in order of join number with the terminus first (R127). -/
def broadcastResult (own : Nat) (l : List (Nat × Nat × Nat)) : Bytes :=
  ((l.filter (fun e => e.1 == own)) ++ ((upFrom 0 64).flatMap (fun n => l.filter (fun e => e.1 == n && n != own)))).flatMap
    (fun e => leBytes 1 e.1 ++ leBytes 1 e.2.1 ++ leBytes 2 e.2.2)

/-- A broadcast leaves in its command entries and in BE_DATA frames: the state, the packets that wait with their modules, and the
modules whose queue had no room (R90, R164, R255). -/
def offerBroadcast (ms_ : List Member) (bs : Bytes) (s : State) : State × List (Nat × Nat × List Nat) × List Nat :=
  let byEntry := ms_.filter (fun m => !inMismatch s m.num)
  let first := foldOver (fun (acc : State × List (Nat × Nat × List Nat) × List Nat) x =>
    let nums := carriedBy s byEntry x
    match offerQueue x bs acc.1 with
    | some u => (u, acc.2.1 ++ [(x.entry, pktIdOf acc.1 x.entry, nums)], acc.2.2)
    | none => (acc.1, acc.2.1, acc.2.2 ++ nums)) (s, [], []) (broadcastEntries s byEntry)
  foldOver (fun (acc : State × List (Nat × Nat × List Nat) × List Nat) (m : Member) =>
    if inMismatch s m.num || (commandEntryFor s m.num m.relief).isNone then
      if beRoom acc.1 bs then (offerBePacket m.num bs acc.1, acc.2.1 ++ [(0xFFF, pktIdOf acc.1 0xFFF, [m.num])], acc.2.2)
      else (acc.1, acc.2.1, acc.2.2 ++ [m.num])
    else acc) first ms_

/-- A broadcast: carried out here, forwarded to every module in the timetable, and answered once all have replied or
timed out (R127). What goes on here, a verification, is waited for as the modules are, with an interim reply at once (R123). One that
is served from the queue waits behind none again (R117). -/
def broadcastAll (info : OpInfo) (served : Bool) (p : Request) (s : State) : State :=
  let op := info.code
  if !served && ((info.needsSignal p && !signalReady s && !signalLost s) || behind s p) then queueHere info false p s
  else
    let a := if info.needsSignal p && signalLost s then refuse s St.signalDown else info.run p s
    let s := a.st
    let here := a.job.isNone
    let ms_ := s.line.members.filter (fun m => packetsReach m && m.num != joinNum s)
    let (s, leaving, full) := offerBroadcast ms_ (forwardBytes s op p) s
    let own := (joinNum s, admitOf false a.status, a.status)
    let entries := (if here then [own] else []) ++ full.map (fun n => (n, 2, St.queueFull))
    let waits := (ms_.filter (fun m => !full.contains m.num)).map (fun m => (m.num, some (s.now + 50 * ms)))
    if waits.isEmpty && here then
      finish false op p 0xFF (if entries.all (fun e => e.2.2 == St.ok) then St.ok else St.partialOk) 0
        (broadcastResult (joinNum s) entries) s
    else
      joinWaiting { goesOn op p (.broadcast (if here then waits else (joinNum s, none) :: waits) entries) s with leaving := leaving } here
        (modSession p.session.toNat (putRecord (openRecord op p .executing)) s)

/-- A request that has passed every check is carried out where its TARGET leads, unless the ring of its session is full (R121); a
RESERVED one is always served (R62, R122), and REQUEST_CANCEL, which never waits, needs no place. -/
def admitAt (info : OpInfo) (place : Place) (p : Request) (s : State) : State :=
  let (reserved, s) := takeReserved info.code p s
  if ringFull s p && !reserved && info.code != 0x0007 then queueFull info.code p (meanService s) s
  else
    match place with
    | .here => executeHere info reserved p s
    | .module n => forwardTo info n reserved p s
    | .all => broadcastAll info false p s
    | .refused st => finish false info.code p (joinNum s) st 0 [] s

/-- admit_and_execute of R110: opcode, level, target, length, admission, then execution. DESIGN CHOICE: a SESSION_CLOSE for a station is
forwarded as every request is, and ends the session there only; R107 does not say which module ends what (log entry 158). -/
def admitAndExecute (tbl : Nat → Option OpInfo) (op : Nat) (p : Request) (s : State) : State :=
  match heldOff s op p with
  | some r => finish false op p (joinNum s) r.status (r.until_ - s.now) [] s
  | none =>
    match tbl op with
    | none => finish false op p (joinNum s) St.badOpcode 0 [] s
    | some info =>
      if levelOf s p < info.level then finish false op p (joinNum s) St.privilege 0 [] s
      else
        match placeOf s op info.bcast p with
        | .refused st => finish false op p (joinNum s) st 0 [] s
        | place =>
          if info.lenOk p.params then admitAt info place p s
          else finish false op p (joinNum s) St.badLength 0 [] s

/-! ### Acceptance (R110) -/

/-- The sequence check of R110 on a session, then admission. A repeat of a request that is queued or executing draws its interim
reply; where it waits on another module's mirror or for a die it has no place in the queue. DEDUCED: a repeat of one that ended with
FORWARD_TIMEOUT is forwarded again, and draws the reply that the module has stored (R91, R113, R164; log entry 199).
DESIGN CHOICE: SEQUENCE 0, and a number
of the window that is marked as seen and has no record, are answered STALE_SEQUENCE: R110 compares a repeat with its record, and
there is none (log entry 151). -/
def examineSequence (tbl : Nat → Option OpInfo) (op : Nat) (p : Request) (x : Session) (s : State) : State :=
  let seq := p.sequence.toNat
  let d := (seq + 4294967296 - x.h) % 4294967296
  let b := (x.h + 4294967296 - seq) % 4294967296
  if d ≠ 0 ∧ d < 2147483648 then
    let seen := if d < 64 then (x.seen * 2 ^ d + 1) % 2 ^ 64 else 1
    admitAndExecute tbl op p (putSession (trimRecords { x with h := seq, seen := seen }) s)
  else if b < 64 ∧ bitAt x.seen b = false then
    admitAndExecute tbl op p (putSession { x with seen := setBitsAt x.seen b 1 1 } s)
  else if b < 64 then
    match findRecord x seq with
    | none => answerNow op p St.staleSequence 0 s
    | some r =>
      if r.fingerprint ≠ fingerprint op p then answerNow op p St.seqReused 0 s
      else if r.state = .done then
        if r.resultLen > 64 ∨ r.status = St.forwardTimeout then admitAndExecute tbl op p s
        else
          let left := if r.retryUntil ≤ s.now then 0 else waitField (r.retryUntil - s.now)
          sendPacket p.via (buildReply s op p false r.origin r.status r.admitted 0 left r.result) s
      else
        let w := (s.pk.waiting.find? (isWaitingFor p.session.toNat seq)).getD (newWaiting op p .queued s)
        sendPacket p.via (interimReply s { w with req := { w.req with flags := p.flags, via := p.via } }) s
  else answerNow op p St.staleSequence 0 s

/-- A forwarded request that this module does not execute: it came from another sender than the holder of the terminus
role, or in another entry than its lowest-numbered command entry, or names another module (R85, R90). -/
def foreignForward (s : State) (p : Request) : Bool :=
  match p.via with
  | .line sender entry =>
    !(bitAt p.flags.toNat 2) || sender.toNat != 0x40 ||
      (match entry, ownCommandEntry s with
        | some e, some x => e.toNat != x.entry
        | none, none => false
        | none, some _ => !s.flag F.CFG_STATE_SET_MISMATCH
        | some _, none => true) ||
      !(p.target.toNat == 0xFF || (isRelief s && p.target.toNat == 0xFE) ||
        (s.role.joined && p.target.toNat == joinNum s))
  | _ => bitAt p.flags.toNat 2

/-- CAN_D carries command packets: no running set, STRAP_FAULT or stood down, or CAN_D in service mode (R92), or a Yard die without a
valid image (R749). -/
def canDService (s : State) : Bool :=
  s.sets.running.isNone || yardless s || s.flag F.IDR_STRAP_STRAP_FAULT || s.role.role == .stoodDown || s.get (F.MDB_C_CFG_MODE 3) == 4

/-- The transport takes requests on this module now: the Yard die is in service, or is missing its image (R749; log entry 187); the HOST port on the terminus and the
relief terminus, CAN_D in service mode from 0xF0–0xFE; a module with STRAP_FAULT on CAN_D only (R13, R17, R86, R92,
R94). -/
def transportOpen (s : State) (t : Transport) : Bool :=
  !s.flag F.CLK_STATUS_BOTH_LOST &&
    match t with
    | .host _ _ => s.die.yardUp && (isTerminus s || isRelief s) && !s.flag F.IDR_STRAP_STRAP_FAULT
    | .canD sa => serving s && canDService s && decide (0xF0 ≤ sa.toNat) && decide (sa.toNat ≤ 0xFE)
    | .line _ _ => s.die.yardUp && !s.flag F.IDR_STRAP_STRAP_FAULT

/-- A session marks the arrival of an authenticated packet (R88, R107). -/
def touch (p : Request) (now : Nat) (x : Session) : Session :=
  { x with lastAuth := now, via := if forwardedIn p then x.via else p.via }

/-- The retry-after of an answer NOT_TERMINUS still holds a repetition off: the answer changes no sequence state (R69, R119). -/
def heldOffTerminus (s : State) (op : Nat) (p : Request) : Bool :=
  match heldOff s op p with
  | some r => r.status == St.notTerminus
  | none => false

/-- The time for which a refusal still holds. -/
def heldFor (s : State) (op : Nat) (p : Request) : Nat :=
  match heldOff s op p with
  | some r => r.until_ - s.now
  | none => 0

/-- The examination of R110 of a packet that is whole, of the known version, and neither HELLO nor SESSION_OPEN. -/
def examineSession (tbl : Nat → Option OpInfo) (op : Nat) (p : Request) (s : State) : State :=
  if forwardedIn p then
    match findSession s p.session.toNat with
    | some x => examineSequence tbl op p (touch p s.now x) s
    | none =>
      if sessionNumber p.session.toNat then
        admitAndExecute tbl op p (putSession (blankSession p.session.toNat s.now p.sequence.toNat p.via) s)
      else answerNow op p St.noSession 0 s
  else
    match heldSession s p.session.toNat with
    | none => answerNow op p St.noSession 0 s
    | some x =>
      if !x.isOpen || x.key.isEmpty then answerNow op p St.noSession 0 s
      else if tagOf x.key (requestBytes op p 0) ≠ p.auth.toNat then
        { s with pk := { s.pk with badAuth := (s.pk.badAuth + 1) % 4294967296 } }
      else if isRelief s && decide (x.num ≤ 12) then answerNotTerminus op p s
      else if heldOffTerminus s op p then answerNow op p St.notTerminus (heldFor s op p) s
      else examineSequence tbl op p (touch p s.now x) (putSession (touch p s.now x) s)

/-- HELLO and SESSION_OPEN are carried out; they leave no record (R110). A refusal with a retry-after that still runs is
repeated (R69). The reply of a SESSION_OPEN that has opened or reserved a Line-wide session leaves after the mirror (R118). -/
def answerOpen (info : OpInfo) (p : Request) (s : State) : State :=
  let reply := fun (status retry : Nat) (result : Bytes) (s : State) =>
    let r := buildReply s info.code p false (joinNum s) status (admitOf false status) 0
      (if retry = 0 then 0 else waitField retry) result
    let n := if p.session.toNat = 0 then fieldAt result 0 2 else p.session.toNat
    if status == St.ok && mirrorHolds info.code { p with session := BitVec.ofNat 16 n } s then addWaiting info.code p (.mirror r) true s
    else sendPacket p.via r s
  match heldOff s info.code p with
  | some r => reply r.status (r.until_ - s.now) [] s
  | none =>
    let a := info.run p s
    reply a.status a.retry a.result (holdOff info.code p a.status a.retry a.st)

/-- HELLO and SESSION_OPEN on this module: both need the Signal die and wait for it (R46, R830). The opening of a session that
the holder of the terminus role passes on resets the sequence state here (R103). -/
def openHere (info : OpInfo) (p : Request) (s : State) : State :=
  if info.code = 0x0002 ∧ forwardedIn p = true then
    if !sessionNumber p.session.toNat then answerNow info.code p St.noSession 0 s
    else putSession (blankSession p.session.toNat s.now 0 p.via) (endSession p.session.toNat s)
  else if signalLost s then answerNow info.code p St.signalDown (20 * ms) (holdOff info.code p St.signalDown (20 * ms) s)
  else if !signalReady s || s.pk.waiting.any (waitsForSignal (throwBusy s)) then
    joinWaiting { newWaiting info.code p .queued s with signal := true } false s
  else answerOpen info p s

/-- A packet is received and examined in the order of R110. A fragmented datagram is none (R89). -/
def acceptPacket (tbl : Nat → Option OpInfo) (op : Nat) (p : Request) (s : State) : State :=
  if !transportOpen s p.via || p.fragmented then s
  else
    let s := { s with pk := { s.pk with received := (s.pk.received + 1) % 4294967296 } }
    if p.paramLen.toNat ≠ p.params.length ∨ p.paramLen.toNat > 1400 then
      { s with pk := { s.pk with badLength := (s.pk.badLength + 1) % 4294967296 } }
    else if p.magic.toNat ≠ 0x5A47 then
      { s with pk := { s.pk with badMagic := (s.pk.badMagic + 1) % 4294967296 } }
    else if !crcGood op p then
      { s with pk := { s.pk with badCrc := (s.pk.badCrc + 1) % 4294967296 } }
    else if foreignForward s p then s
    else if p.version.toNat ≠ 1 ∧ op ≠ 0x0001 then answerNow op p St.badVersion 0 s
    else if op = 0x0001 ∨ op = 0x0002 then
      match tbl op with
      | none => s
      | some info =>
        if isRelief s && !forwardedIn p && decide (1 ≤ p.session.toNat) && decide (p.session.toNat ≤ 12) then answerNotTerminus op p s
        else
        match placeOf s op info.bcast p with
        | .refused st => if st = St.notTerminus then answerNotTerminus op p s else answerNow op p st 0 s
        | .module n =>
          if op = 0x0002 then answerNow op p St.badTarget 0 s
          else if info.lenOk p.params then forwardTo info n false p s
          else answerNow op p St.badLength 0 s
        | .all => answerNow op p St.noBroadcast 0 s
        | .here =>
          if !info.lenOk p.params then answerNow op p St.badLength 0 s
          else
            openHere info p s
    else examineSession tbl op p s

/-! ### What happens to waiting requests -/

/-- A request that goes on after its service keeps the instant of its next interim reply (R123). -/
def keepInterim (w : Waiting) (s : State) : State :=
  { s with pk := { s.pk with waiting := s.pk.waiting.map (fun v =>
    if isWaitingFor w.req.session.toNat w.req.sequence.toNat v then { v with interimAt := min v.interimAt w.interimAt } else v) } }

/-- A queued request is served: it runs, and its service time joins the last 64 (R65, R68): the time since it came to the head of the
queue, with its arrival or with the service of the one before it. -/
def serveOne (tbl : Nat → Option OpInfo) (w : Waiting) (s : State) : State :=
  let s := dropWaiting w.req.session.toNat w.req.sequence.toNat s
  let s := { s with pk := { s.pk with
    service := ((s.now - max w.arrived s.pk.lastServed) :: s.pk.service).take 64, lastServed := s.now } }
  match tbl w.opcode with
  | none => s
  | some info =>
    if w.opcode ≤ 2 then answerOpen info w.req s
    else
      keepInterim w
        (if placeOf s w.opcode info.bcast w.req == .all then broadcastAll info true w.req s
        else concludeRun w.reserved true w.opcode w.req (info.run w.req s))

/-- A queued request can be served now: the Signal die is there if it needs it, and no throw goes on before a POINTS_THROW (R46,
R776). -/
def servable (tbl : Nat → Option OpInfo) (s : State) (w : Waiting) : Bool :=
  w.job == .queued &&
    (match tbl w.opcode with
      | none => true
      | some info => !info.needsSignal w.req || signalReady s) &&
    !(w.opcode == 0x0202 && throwBusy s)

/-- A request waits behind earlier ones of its session for the same target (R117); a RESERVED one does not (R64). -/
def blockedBy (s : State) (earlier : List Waiting) (w : Waiting) : Bool :=
  !w.reserved && w.req.session != 0#16 && earlier.any (fun v => v.job == .queued && sameTarget s v.req w.req)

/-- The requests that can be served now, oldest first (R65, R117). -/
def servableIn (tbl : Nat → Option OpInfo) (s : State) : List Waiting → List Waiting → List Waiting
  | _, [] => []
  | earlier, w :: l =>
    if servable tbl s w && !blockedBy s earlier w then w :: servableIn tbl s (earlier ++ [w]) l
    else servableIn tbl s (earlier ++ [w]) l

/-- The oldest of a list of requests; of those that arrived together, the one of the lowest session number (R65). -/
def oldestOf : List Waiting → Option Waiting
  | [] => none
  | w :: l => some ((l.filter (fun v => v.arrived == w.arrived)).foldl
      (fun u v => if v.req.session.toNat < u.req.session.toNat then v else u) w)

/-- The request that is served next: RESERVED ones first (R64), of either class the oldest (R65). -/
def oldestServable (tbl : Nat → Option OpInfo) (s : State) : Option Waiting :=
  let l := servableIn tbl s [] s.pk.waiting
  match oldestOf (l.filter (fun w => w.reserved)) with
  | some w => some w
  | none => oldestOf l

/-- A waiting request completes with a status and a result, in its own reply (R123). -/
def completeWaiting (w : Waiting) (origin status retry : Nat) (result : Bytes) (s : State) : State :=
  let s := dropWaiting w.req.session.toNat w.req.sequence.toNat s
  if w.orphan then s
  else finish w.reserved w.opcode w.req origin status retry result (holdOff w.opcode w.req status retry s)

/-- Every waiting request that satisfies a test completes with a status. -/
def completeAll (p : Waiting → Bool) (status retry : Nat) (s : State) : State :=
  foldOver (fun s w => completeWaiting w (joinNum s) status retry [] s) s (s.pk.waiting.filter p)

/-- The reply of one module to a broadcast is noted; the last one completes it (R127). -/
def noteBroadcast (w : Waiting) (waiting : List (Nat × Option Nat)) (entries : List (Nat × Nat × Nat)) (n admitted status : Nat)
    (s : State) : State :=
  let rest := waiting.filter (fun k => k.1 != n)
  let all := entries ++ [(n, admitted, status)]
  if rest.isEmpty then
    completeWaiting w 0xFF (if all.all (fun e => e.2.2 == St.ok) then St.ok else St.partialOk) 0
      (broadcastResult (joinNum s) all) s
  else
    { s with pk := { s.pk with waiting := s.pk.waiting.map (fun v =>
        if isWaitingFor w.req.session.toNat w.req.sequence.toNat v then { v with job := .broadcast rest all } else v) } }

/-- The oldest request for which this module itself is still doing something of a kind, alone or as part of a broadcast. -/
def ownRequest (op : Nat) (isJob : Job → Bool) (s : State) : Option Waiting :=
  s.pk.waiting.find? (fun w => isJob w.job ||
    (match w.job with
      | .broadcast waiting _ => w.opcode == op && waiting.any (fun k => k.1 == joinNum s)
      | _ => false))

/-- What this module itself was still doing for a request is done: the oldest request with such a job completes, or, where
it is part of a broadcast, its own part is noted (R127). -/
def completeOwn (op : Nat) (isJob : Job → Bool) (status retry : Nat) (result : Bytes) (s : State) : State :=
  match ownRequest op isJob s with
  | none => s
  | some w =>
    match w.job with
    | .broadcast waiting entries => noteBroadcast w waiting entries (joinNum s) (admitOf false status) status s
    | _ => completeWaiting w (joinNum s) status retry result s

/-- The terminus notes a module that answered OK to SIDING_VERIFY under the LINE_CRC of its own READY set (R243). -/
def noteVerified (n status : Nat) (w : Waiting) (s : State) : State :=
  if w.opcode = 0x0201 ∧ status = St.ok ∧ s.get F.CFG_STATE_SIDING ≥ 2 ∧
      fieldAt w.req.params 0 4 = s.get F.CFG_SIDING_CRC_CRC ∧ s.sets.okFrom.contains n = false then
    { s with sets := { s.sets with okFrom := s.sets.okFrom ++ [n] } }
  else s

/-- The terminus notes where the diagnostic stream of the Line is (R180, R670). -/
def noteDiag (n status : Nat) (result : Bytes) (w : Waiting) (s : State) : State :=
  if w.opcode = 0x0A00 ∧ status = St.ok ∧ fieldAt w.req.params 2 1 = 1 then
    { s with dma := { s.dma with diagAt := some (n, fieldAt result 0 1, w.req.session.toNat, fieldAt w.req.params 14 2) } }
  else if opensDiag w.opcode w.req.params ∧ diagUnknown s n w.req = true then { s with dma := { s.dma with diagAt := none } }
  else if w.opcode = 0x0A01 ∧ status = St.ok then
    match s.dma.diagAt with
    | some (m, k, _) => if m = n ∧ k = fieldAt w.req.params 0 1 then { s with dma := { s.dma with diagAt := none } } else s
    | none => s
  else s

/-- A module's reply to a forwarded request reaches the terminus: an interim one is passed on and starts the timing
again, a final one completes the request under the terminus's own AUTH, with FORWARDED cleared (R90, R91). A module cannot tell a
request beyond the budget of R122: the terminus reports that one as STANDING. -/
def takeForwardedReply (n : Nat) (r : Reply) (s : State) : State :=
  match s.pk.waiting.find? (isWaitingFor r.session r.sequence) with
  | none => s
  | some w =>
    match w.job with
    | .forward k =>
      if k ≠ n then s
      else if bitAt r.flags 4 then
        let s := { s with pk := { s.pk with waiting := s.pk.waiting.map (fun v =>
            if isWaitingFor r.session r.sequence v then { v with timeoutAt := s.now + 50 * ms, interimAt := s.now + 20 * ms }
            else v) } }
        if w.orphan then s
        else sendPacket w.req.via (buildReply s w.opcode w.req true n r.status r.admitted r.qpos r.wait r.result) s
      else
        let s := noteDiag n r.status r.result w (noteVerified n r.status w (dropWaiting r.session r.sequence s))
        if w.orphan then s
        else
          let class_ := if r.admitted = 0 ∧ w.reserved = false then 1 else r.admitted
          let rep := buildReply s w.opcode w.req false n r.status class_ r.qpos r.wait r.result
          let hold := hasEffect w.opcode && reliefPresent s && decide (r.session ≤ 12)
          let left := if class_ = 2 then waitTime r.wait else 0
          let done : ReqRecord := { doneRecord w.opcode w.req r.status class_ r.result with
            state := if hold then .executing else .done, origin := n, retryUntil := if left = 0 then 0 else s.now + left }
          let s := holdOff w.opcode w.req r.status left (noteRecord w.opcode w.req done s)
          if hold then addWaiting w.opcode w.req (.mirror rep) true s else sendPacket w.req.via rep s
    | .broadcast waiting entries =>
      if !waiting.any (fun k => k.1 == n) then s
      else if bitAt r.flags 4 then
        { s with pk := { s.pk with waiting := s.pk.waiting.map (fun v =>
            if isWaitingFor r.session r.sequence v then
              { v with job := .broadcast (waiting.map (fun k => if k.1 = n then (n, some (s.now + 50 * ms)) else k)) entries }
            else v) } }
      else noteBroadcast w waiting entries n r.admitted r.status (noteVerified n r.status w s)
    | _ => s

/-- tFWD_TIMEOUT of a forwarded request, or of modules of a broadcast, has ended (R91). -/
def forwardTimedOut (w : Waiting) (s : State) : State :=
  match w.job with
  | .forward n =>
    if !w.leaving.isEmpty || decide (s.now < w.timeoutAt) then s
    else
      let s :=
        if opensDiag w.opcode w.req.params && !diagExists s then
          { s with dma := { s.dma with diagAt := some (n, 0xFF, w.req.session.toNat, fieldAt w.req.params 14 2) } }
        else s
      completeWaiting w (joinNum s) St.forwardTimeout (20 * ms) [] s
  | .broadcast waiting entries =>
    let late := waiting.filter (fun k => due k.2 s && !stillLeaving w k.1)
    let rest := waiting.filter (fun k => !(due k.2 s && !stillLeaving w k.1))
    let all := entries ++ late.map (fun k => (k.1, 2, St.forwardTimeout))
    if late.isEmpty then s
    else if rest.isEmpty then completeWaiting w 0xFF St.partialOk 0 (broadcastResult (joinNum s) all) s
    else
      { s with pk := { s.pk with waiting := s.pk.waiting.map (fun v =>
          if isWaitingFor w.req.session.toNat w.req.sequence.toNat v then { v with job := .broadcast rest all } else v) } }
  | _ => s

/-- tFWD_TIMEOUT of every request whose end has come (FORWARD_TIMEOUT). -/
def forwardTimeouts (s : State) : State := foldOver (fun s w => forwardTimedOut w s) s s.pk.waiting

end Sys2Proof.Machine
end

