-- ==== Sys2Proof/Machine/Loads.lean ====
section
/-!
DEFINITION. *Protected Load Channels* and the sinks and ownership of *Closed-Loop Control Engine* that they meet:
commanded states, protection, retry and siding, open-load detection, current sense and limp-home (R437–R487, R404,
R449).
-/

namespace Sys2Proof.Machine

/-! ### Channels -/

/-- What a channel holds beside its registers. -/
def chan (s : State) (c : Nat) : ChannelPart := nth s.load.channels c {}

/-- The state with what a channel holds changed. -/
def modChan (c : Nat) (f : ChannelPart → ChannelPart) (s : State) : State :=
  { s with load := { s.load with channels := setNth s.load.channels c (f (chan s c)) } }

/-- The hard limit of a channel, mA (R437). -/
def hardLimit (c : Nat) : Nat := if c < 8 then 120000 else 32000

/-- The mirror ratio of a channel (R437). -/
def mirrorRatio (c : Nat) : Nat := if c < 8 then 25000 else 5000

/-- CSTATE codes (R486). -/
def cOff : Nat := 0
def cOn : Nat := 1
def cPwm : Nat := 2
def cLatched : Nat := 3
def cSided : Nat := 4
def cLimp : Nat := 5

/-- The module is in limp mode (R466). -/
def inLimp (s : State) : Bool := s.flag F.LSW_LIMP_LIMP

/-- A channel is in the retirement list (R456). -/
def channelSided (s : State) (c : Nat) : Bool := isRetired 1 c 0 s

/-- The effective over-current threshold, mA (R451). -/
def threshold (s : State) (c : Nat) : Nat :=
  let thr := s.get (F.LSW_CH_CFG_OC_THR c) * 100
  if s.flag (F.LSW_CH_STAT_INRUSH c) then min (thr * (4 + s.get (F.LSW_CH_CFG_INRUSH_MULT c)) / 4) (hardLimit c) else thr

/-- An event of a channel: LSW_EVT_CH takes its index, and the source is raised with it (R485, R714). -/
def raiseCh (src c : Nat) (s : State) : State := raise src c (s.put F.LSW_EVT_CH_CH c)

/-- A PWM channel is in the off part of its period (R443, R464). -/
def pwmGap (s : State) (c : Nat) : Bool :=
  let x := chan s c
  x.period != 0 && decide (10 * x.onCounts ≤ (s.now - x.periodAt) % (10 * x.period))

/-- The high-side switch of a channel conducts now: its output is on, and a PWM channel is in the on part of its period. -/
def conducts (s : State) (c : Nat) : Bool := (chan s c).output && !pwmGap s c

/-- A PWM period begins with the DUTY and FREQ loaded by then; an on or off time shorter than 100 counts is not emitted (R443, R444). -/
def startPeriod (c : Nat) (s : State) : State :=
  if s.get (F.LSW_CH_PWM_FREQ c) = 0 then s
  else
    let p := (roundDiv 100000000 (s.get (F.LSW_CH_PWM_FREQ c))).toNat
    let on_ := (roundDiv ((s.get (F.LSW_CH_CMD_DUTY c) * p : Nat) : Int) 65536).toNat
    let on_ := if on_ < 100 then 0 else if p - on_ < 100 then p else on_
    modChan c (fun x => { x with period := p, onCounts := on_, periodAt := s.now }) s

/-- The stud of a channel: true for LOAD_B (R439). -/
def onStudB (c : Nat) : Bool := (decide (4 ≤ c) && decide (c < 8)) || decide (20 ≤ c)

/-- Open-load judgement is made: OL_EN, commanded OFF, not latched, sided or in limp mode, and the stud's supply not low
(R441, R459). -/
def openLoadJudged (s : State) (c : Nat) : Bool :=
  s.flag (F.LSW_CH_CFG_OL_EN c) && s.get (F.LSW_CH_CMD_STATE c) == 0 && s.get (F.LSW_CH_STAT_CSTATE c) == cOff &&
    !inLimp s && !channelSided s c &&
    !(if onStudB c then s.flag F.LSW_SUPPLY_SUPPLY_LOW_B else s.flag F.LSW_SUPPLY_SUPPLY_LOW_A)

/-- A channel that meets the conditions of R459 where it did not before: judgement begins anew (R460). -/
def judgeAnew (before : State) (c : Nat) (s : State) : State :=
  if openLoadJudged s c && !openLoadJudged before c then modChan c (fun x => { x with judgedFrom := s.now }) s else s

/-- An inrush window starts; one of 0 ms has no effect (R453). -/
def startInrush (c : Nat) (s : State) : State :=
  if s.get (F.LSW_CH_CFG_INRUSH_TIME c) = 0 then s
  else (modChan c (fun x => { x with inrushFrom := s.now }) s).put (F.LSW_CH_STAT_INRUSH c) 1

/-- The output of a channel goes off; an inrush window that runs ends with it. -/
def outputOff (c : Nat) (s : State) : State :=
  (modChan c (fun x => { x with output := false, period := 0, onCounts := 0 }) s).put (F.LSW_CH_STAT_INRUSH c) 0

/-! ### Sinks of loops (R404, R449) -/

/-- The loop states of R413. -/
def lOpen : Nat := 0
def lRun : Nat := 1
def lHold : Nat := 2

/-- The sink of a loop is a PWM channel: its index (R402). -/
def pwmSink (s : State) (n : Nat) : Option Nat :=
  if s.get (F.CLE_LOOP_SINK_KIND n) = 1 then some (s.get (F.CLE_LOOP_SINK_INDEX n)) else none

/-- The sink of a loop is blocked: its PWM channel is switched off by command, latched off, sided or under limp mode
(R404). -/
def sinkBlocked (s : State) (n : Nat) : Bool :=
  match pwmSink s n with
  | none => false
  | some c =>
    let st := s.get (F.LSW_CH_STAT_CSTATE c)
    s.get (F.LSW_CH_CMD_STATE c) == 0 || st == cLatched || st == cSided || st == cLimp

/-- SINK_BLOCKED of a loop in RUN or HOLD follows its condition, and is raised when the condition begins (R404). -/
def refreshBlocked (s : State) (n : Nat) : State :=
  let running := s.get (F.CLE_LOOP_CTRL_STATE n) != lOpen
  if running && sinkBlocked s n then
    if s.flag (F.CLE_LOOP_STATUS_SINK_BLOCKED n) then s
    else raise Src.CLE_SINK_BLOCKED n (s.put (F.CLE_LOOP_STATUS_SINK_BLOCKED n) 1)
  else s.put (F.CLE_LOOP_STATUS_SINK_BLOCKED n) 0

/-- The same for every loop. -/
def refreshSinks (s : State) : State := foldOver refreshBlocked s (upFrom 0 32)

/-! ### Latches, retry and siding (R452–R457) -/

/-- A latch is logged as unclassified (R457, R461, R470): ARG0 0 for an off command and 1 for limp mode. -/
def logUnclassified (c why : Nat) (s : State) : State :=
  fault 0x04 3 Src.LSW_RETRY_CANCELLED c why (s.get (F.LSW_CH_STAT_CAUSE c)) 0 s

/-- A channel latches with a cause (1 over-current, 2 hard limit, 3 thermal): the classification of R455. -/
def latchChannel (c cause : Nat) (s : State) : State :=
  let s := outputOff c s
  let s := (s.put (F.LSW_CH_STAT_CAUSE c) cause).bump (F.LSW_CH_CNT_LATCHES c) 1
  let s :=
    if inLimp s then
      (modChan c (fun x => { x with limpLatched := true }) s).put (F.LSW_CH_STAT_CSTATE c) cLimp
    else if s.flag (F.LSW_CH_STAT_WINDOW c) then
      let s := (s.put (F.LSW_CH_STAT_WINDOW c) 0).put (F.LSW_CH_STAT_CSTATE c) cSided
      raiseCh Src.LSW_SIDED c (fault 0x03 2 Src.LSW_SIDED c cause 0 0 (retire 1 cause c 0 s))
    else
      let s := modChan c (fun x => { x with retryAt := some (s.now + s.get (F.LSW_CH_TIME_RETRY_DLY c) * ms) })
        (s.put (F.LSW_CH_STAT_CSTATE c) cLatched)
      raiseCh Src.LSW_LATCH c
        (fault 0x01 5 Src.LSW_LATCH c cause (s.reg (Reg.LSW_CH_CURR c)) (s.get (F.LSW_CH_TJ_TJ c)) s)
  refreshSinks s

/-- The output of a channel goes on, static or in PWM, with an inrush window where it was off; a junction at or above 175 °C latches it
at once (R453, R454). In PWM the window starts when the channel leaves OFF, and the first period with it. -/
def switchOn (pwm : Bool) (c : Nat) (s : State) : State :=
  let x := chan s c
  if s.gets (F.LSW_CH_TJ_TJ c) ≥ 1750 then latchChannel c 3 s
  else if pwm then
    let s := modChan c (fun x => { x with output := true }) s
    if !x.output then startInrush c (startPeriod c s) else if x.period = 0 then startPeriod c s else s
  else
    let on_ := conducts s c
    let s := modChan c (fun x => { x with output := true, period := 0, onCounts := 0 }) s
    if on_ then s else startInrush c s

/-- What an off command does to a pending classification (R457). -/
def cancelRetry (c : Nat) (s : State) : State :=
  if s.get (F.LSW_CH_STAT_CSTATE c) = cLatched ∨ s.flag (F.LSW_CH_STAT_WINDOW c) = true then
    raiseCh Src.LSW_RETRY_CANCELLED c
      (logUnclassified c 0 (modChan c (fun x => { x with retryAt := none }) (s.put (F.LSW_CH_STAT_WINDOW c) 0)))
  else s

/-- A module that has STRAP_FAULT set, has stood down or is held out (R13, R17, R188, R450). -/
def loadsBarred (s : State) : Bool :=
  s.flag F.IDR_STRAP_STRAP_FAULT || s.role.role == .stoodDown || s.flag F.LIN_STATUS_HOLD_OUT

/-- A channel goes off by command, and keeps the instant for a latch in the same access cycle (R457, R461). -/
def commandOff (c : Nat) (s : State) : State :=
  let x := chan s c
  let s := modChan c (fun y => { y with offAt := if x.output then some (s.now, threshold s c) else y.offAt }) s
  (outputOff c (cancelRetry c s)).put (F.LSW_CH_STAT_CSTATE c) cOff

/-- A channel is commanded OFF, ON or PWM; the conditions of limp mode, siding and a latch override the command without
changing it, and an off command on a sided channel changes nothing (R442, R449, R457). A module that keeps its channels off turns every
command into OFF (R13, R17, R188). -/
def commandChannel (c st duty : Nat) (s : State) : State :=
  let st := if loadsBarred s then 0 else st
  if st = 0 ∧ channelSided s c = true then s
  else
    let before := s
    let s := s.put (F.LSW_CH_CMD_STATE c) st
    let s := if st = 2 then s.put (F.LSW_CH_CMD_DUTY c) duty else s
    let cs := s.get (F.LSW_CH_STAT_CSTATE c)
    let s :=
      if cs = cSided ∨ cs = cLimp then s
      else if st = 0 then commandOff c s
      else if cs = cLatched then s
      else switchOn (st == 2) c (s.put (F.LSW_CH_STAT_CSTATE c) st)
    refreshSinks (judgeAnew before c s)

/-- Every channel goes off, except as limp mode directs (R13, R17, R188). -/
def allChannelsOff (s : State) : State := foldOver (fun s c => commandChannel c 0 0 s) s (upFrom 0 32)

/-! ### LOAD_SET (R445–R450) -/

/-- An entry of LOAD_SET: channel, state and duty (R445). -/
def loadEntry (ps : Bytes) (i : Nat) : Nat × Nat × Nat :=
  (fieldAt ps (4 + 4 * i) 1, fieldAt ps (5 + 4 * i) 1, fieldAt ps (6 + 4 * i) 2)


/-- The status of one entry, in the order of R446; none where it passes. -/
def loadCheck (s : State) (seen : List Nat) (e : Nat × Nat × Nat) : Option Nat :=
  let (c, st, _) := e
  if c > 31 ∨ seen.contains c = true ∨ st > 2 ∨ (st = 2 ∧ s.flag (F.LSW_CH_CFG_PWM c) = false) then some St.badParam
  else if inLimp s then some St.limpActive
  else if s.flag (F.LSW_CH_STAT_OWNED c) = true ∧ st ≠ 0 then some St.loopRunning
  else if channelSided s c = true ∧ st ≠ 0 then some St.channelSided
  else if s.get (F.LSW_CH_STAT_CSTATE c) = cLatched ∧ st ≠ 0 then some St.channelLatched
  else none

/-- The first failing entry of a list: its status and its channel. -/
def loadCheckAll (s : State) : List Nat → List (Nat × Nat × Nat) → Option (Nat × Nat)
  | _, [] => none
  | seen, e :: l =>
    match loadCheck s seen e with
    | some st => some (st, e.1)
    | none => loadCheckAll s (e.1 :: seen) l

/-- The checks of R446 and R450 on a list of entries; none where all pass. -/
def loadRefusal (s : State) (l : List (Nat × Nat × Nat)) : Option (Nat × Nat) :=
  if loadsBarred s && l.any (fun e => e.2.1 != 0) then some (St.badTarget, 0) else loadCheckAll s [] l

/-- The retry-after of CHANNEL_LATCHED: until retry_at, or 100 ms while the junction cools (R69). -/
def latchedRetryAfter (s : State) (c : Nat) : Nat :=
  match (chan s c).retryAt with
  | none => 100 * ms
  | some r => if s.now < r then r - s.now else 100 * ms

/-- The entries executed, all in one access cycle (R446). -/
def loadExecute (l : List (Nat × Nat × Nat)) (s : State) : State :=
  foldOver (fun s e => commandChannel e.1 e.2.1 e.2.2 s) s l

/-- LOAD_SET (R445, R446). -/
def runLoadSet (p : Request) (s : State) : Answer :=
  let n := fieldAt p.params 0 1
  let l := (upFrom 0 n).map (loadEntry p.params)
  match loadRefusal s l with
  | some (st, c) => { refuse s st with retry := if st = St.channelLatched then latchedRetryAfter s c else 0 }
  | none => ok (loadExecute l s) []

/-- PARAM_LEN of LOAD_SET: COUNT 1–32 and that many entries (R445). -/
def lenLoadSet (ps : Bytes) : Bool :=
  decide (1 ≤ fieldAt ps 0 1) && decide (fieldAt ps 0 1 ≤ 32) && ps.length == 4 + 4 * fieldAt ps 0 1

/-- LOAD_REINSTATE (R458). -/
def runLoadReinstate (p : Request) (s : State) : Answer :=
  let c := fieldAt p.params 0 1
  if c > 31 then refuse s St.badParam
  else if !channelSided s c then ok s []
  else
    let before := s
    let s := unretire 1 c Src.LSW_REINSTATED s
    let s := (s.put (F.LSW_CH_CMD_STATE c) 0).put (F.LSW_CH_STAT_CAUSE c) 0
    let s :=
      if inLimp s then modChan c (fun x => { x with limpWait := true }) (s.put (F.LSW_CH_STAT_CSTATE c) cLimp)
      else s.put (F.LSW_CH_STAT_CSTATE c) cOff
    ok (refreshSinks (raiseCh Src.LSW_REINSTATED c (judgeAnew before c s))) []

/-! ### Limp-home (R466–R475) -/

/-- SRC of a channel in the latched map; 15 for none, and until the map is latched (R467, R473, R477). -/
def limpSrc (s : State) (c : Nat) : Nat :=
  match s.load.latchedMap with
  | none => 15
  | some l => nth l c 15

/-- The output that limp mode gives a channel (R467). -/
def limpOutput (s : State) (c : Nat) : Bool :=
  !(channelSided s c || limpSrc s c == 15 || (chan s c).limpLatched || (chan s c).limpWait) &&
    s.bit F.LSW_LIMP_LH_IN (limpSrc s c)

/-- A channel under limp mode takes the output that R467 gives it. -/
def limpFollow (s : State) (c : Nat) : State :=
  if limpOutput s c then switchOn false c s else outputOff c s

/-- Limp mode takes a channel: a pending retry or window is cancelled and logged as unclassified (R461, R467). -/
def limpTake (s : State) (c : Nat) : State :=
  if channelSided s c then outputOff c s
  else
    let s :=
      if s.get (F.LSW_CH_STAT_CSTATE c) = cLatched ∨ s.flag (F.LSW_CH_STAT_WINDOW c) = true then
        logUnclassified c 1 (modChan c (fun x => { x with retryAt := none }) (s.put (F.LSW_CH_STAT_WINDOW c) 0))
      else s
    limpFollow (s.put (F.LSW_CH_STAT_CSTATE c) cLimp) c

/-- The causes of R466. -/
inductive LimpCause where
  | req | deadman | ref | hold
  deriving DecidableEq, Repr

/-- The bit of a cause (R481). -/
def causeFld : LimpCause → Fld
  | .req => F.LSW_LIMP_REQ
  | .deadman => F.LSW_LIMP_DEADMAN
  | .ref => F.LSW_LIMP_REF
  | .hold => F.LSW_LIMP_HOLD

/-- LSW_LIMP [4:1]: the causes that remain (R466). -/
def limpCauses (s : State) : Nat := bitsAt (s.reg Reg.LSW_LIMP) 1 4

/-- Limp mode begins where a cause is latched, unless it is in force already (R466, R467, R484). Before the limp map is latched
no cause takes effect (R477, R799). -/
def limpBegin (s : State) : State :=
  if inLimp s || s.load.latchedMap.isNone || limpCauses s == 0 then s
  else
    let s := s.put F.LSW_LIMP_LIMP 1
    let s := foldOver limpTake s (upFrom 0 32)
    refreshSinks (raise0 Src.LSW_LIMP_ENTER (fault 0x08 4 Src.LSW_LIMP_ENTER (limpCauses s) 0 0 0 s))

/-- A cause is latched, and limp mode begins with it (R466). -/
def limpEnter (k : LimpCause) (s : State) : State := limpBegin (s.put (causeFld k) 1)

/-- A channel at the end of limp mode: commanded OFF, its limp latch cleared and logged as unclassified (R470). -/
def limpRelease (s : State) (c : Nat) : State :=
  let s := if (chan s c).limpLatched then logUnclassified c 1 s else s
  let s := modChan c (fun x => { x with limpLatched := false, limpWait := false }) (outputOff c s)
  let s := s.put (F.LSW_CH_CMD_STATE c) 0
  if channelSided s c then s.put (F.LSW_CH_STAT_CSTATE c) cSided else s.put (F.LSW_CH_STAT_CSTATE c) cOff

/-- Limp mode ends (R470). -/
def limpExit (s : State) : State :=
  let before := s
  let s := ((foldOver limpRelease s (upFrom 0 32)).put F.LSW_LIMP_LIMP 0).put F.CLK_STATUS_WAIT_RESUME 0
  raise0 Src.LSW_LIMP_EXIT (refreshSinks (foldOver (fun s c => judgeAnew before c s) s (upFrom 0 32)))

/-- The limp-home inputs take new levels: channels whose input changed follow it (R461, R467). -/
def lhChange (levels : Nat) (s : State) : State :=
  let old := s.get F.LSW_LIMP_LH_IN
  let s := s.put F.LSW_LIMP_LH_IN levels
  if !inLimp s then s
  else
    foldOver (fun s c =>
      let src := limpSrc s c
      if src < 8 ∧ bitAt old src ≠ bitAt levels src ∧ channelSided s c = false then
        limpFollow (modChan c (fun x => { x with limpWait := false }) s) c
      else s) s (upFrom 0 32)

/-- The entries of a limp map of 128 bytes: SRC of each channel. -/
def mapSources (b : Bytes) : List Nat := (upFrom 0 32).map (fun c => fieldAt b (4 * c) 4)

/-- An entry of a limp map is allowed: SRC 0–7 or 15, reserved bits 0 (R472). -/
def mapEntryOk (v : Nat) : Bool := decide (v < 8) || v == 15

/-- A limp map with its CRC is good (R473, R474). -/
def mapGood (b : Bytes) (crc : Nat) : Bool := crc32c b == crc && (mapSources b).all mapEntryOk

/-- The bytes of a map given by the SRC of each channel. -/
def mapBytes (l : List Nat) : Bytes := l.flatMap (leBytes 4)

/-- The map as delivered: no channel follows an input (R473). -/
def deliveredMap : Bytes := mapBytes (List.replicate 32 15)

/-- The stored map: as delivered until one is written. -/
def storedMap (s : State) : Bytes := if s.load.storedMap.isEmpty then deliveredMap else s.load.storedMap

/-- The CRC stored with the map. -/
def storedMapCrc (s : State) : Nat := if s.load.storedMap.isEmpty then crc32c deliveredMap else s.load.storedCrc

/-- The hardware latches the stored map, or all none and MAP_BAD (R473). Limp causes present take effect at once
(R477). -/
def latchMap (s : State) : State :=
  let good := mapGood (storedMap s) (storedMapCrc s)
  let l := if good then mapSources (storedMap s) else List.replicate 32 15
  let s := { s with load := { s.load with latchedMap := some l } }
  let s := s.put F.LSW_LIMP_MAP_LATCHED 1
  let s := if good then s.put F.LSW_LIMP_MAP_BAD 0 else raise0 Src.LSW_MAP_BAD (s.put F.LSW_LIMP_MAP_BAD 1)
  limpBegin s

/-- LIMP_MAP_READ (R475): the latched map reads as none before it is latched. -/
def limpMapResult (which : Nat) (s : State) : Bytes :=
  let b := if which = 0 then mapBytes ((upFrom 0 32).map (limpSrc s)) else storedMap s
  b ++ leBytes 4 (crc32c b)

/-- LIMP_MAP_READ. -/
def runLimpMapRead (p : Request) (s : State) : Answer :=
  let w := fieldAt p.params 0 1
  if w > 1 then refuse s St.badParam else ok s (limpMapResult w s)

/-- The issuing session has a block unlocked (R140). Over the Line the session's unlock is held by the module itself. -/
def blockUnlocked (s : State) (session block : Nat) : Bool :=
  match findSession s session with
  | none => false
  | some x => unlockedBy x block s.now

/-- LIMP_MAP_WRITE (R259, R474). -/
def runLimpMapWrite (p : Request) (s : State) : Answer :=
  if !blockUnlocked s p.session.toNat 0x0003 then refuse s St.locked
  else
    let b := p.params.take 128
    let crc := fieldAt p.params 128 4
    if !mapGood b crc then refuse s St.badParam
    else
      ok (fault 0x07 0 0xFF 0xFFFF crc 0 0 { s with load := { s.load with storedMap := b, storedCrc := crc } }) []

/-- RESUME (R470, R613): refused while the REF cause remains, or another; otherwise limp mode ends. A RESUME outside limp
mode finds its state reached (R116). -/
def resumeStatus (s : State) : Nat :=
  if s.flag F.LSW_LIMP_REF then St.noReference else if limpCauses s ≠ 0 then St.limpActive else St.ok

/-! ### Protection events -/

/-- An off command has switched the output off in the access cycle of this event (R461): the threshold that was in force. DESIGN CHOICE:
two happenings are in one access cycle where their instants are the same (log entry 214). -/
def offNow (s : State) (c : Nat) : Option Nat :=
  match (chan s c).offAt with
  | none => none
  | some (at_, thr) => if at_ = s.now ∧ (chan s c).output = false ∧ s.get (F.LSW_CH_STAT_CSTATE c) = cOff then some thr else none

/-- A latch and an off command in one access cycle: the channel latches, and the retry is cancelled (R457, R461). -/
def latchOff (c cause : Nat) (s : State) : State := commandChannel c 0 0 (latchChannel c cause s)

/-- The cause of a latch on a current, against a threshold and the hard limit (R452). -/
def currentCause (c : Nat) (current : Int) (thr : Nat) : Option Nat :=
  if current > (hardLimit c : Int) then some 2 else if current > (thr : Int) then some 1 else none

/-- Over-current or hard limit (R452, R461): a channel whose output is on and whose current exceeds its effective threshold
or the hard limit latches; the measured current and junction are those of the event. -/
def overCurrent (c : Nat) (current tj : Int) (s : State) : State :=
  let s := (s.puts (F.LSW_CH_CURR_CURR c) current).puts (F.LSW_CH_TJ_TJ c) tj
  if (chan s c).output then
    match currentCause c current (threshold s c) with
    | none => s
    | some k => latchChannel c k s
  else
    match (offNow s c).bind (currentCause c current) with
    | none => s
    | some k => latchOff c k s

/-- The commanded state is ON or PWM and nothing else holds the output off (R454). -/
def wantsOn (s : State) (c : Nat) : Bool :=
  let st := s.get (F.LSW_CH_STAT_CSTATE c)
  st == cOn || st == cPwm || (st == cLimp && (chan s c).output)

/-- A junction at or above 175 °C latches a channel that is on or commanded on (R454, R461). -/
def thermal (c : Nat) (tj : Int) (s : State) : State :=
  let s := s.puts (F.LSW_CH_TJ_TJ c) tj
  if tj < 1750 then s
  else if (chan s c).output || wantsOn s c then latchChannel c 3 s
  else if (offNow s c).isSome then latchOff c 3 s
  else s

/-- The retry of R455: due, and the junction below 150 °C. -/
def retryChannel (c : Nat) (tj : Int) (s : State) : State :=
  let s := s.puts (F.LSW_CH_TJ_TJ c) tj
  if s.get (F.LSW_CH_STAT_CSTATE c) = cLatched ∧ due (chan s c).retryAt s = true ∧ tj < 1500 then
    let st := s.get (F.LSW_CH_CMD_STATE c)
    let s := modChan c (fun x => { x with retryAt := none, windowEnd := s.now + 500 * ms, output := st != 0 }) s
    let s := if st = 2 then startPeriod c s else s
    let s := (s.put (F.LSW_CH_STAT_CSTATE c) st).put (F.LSW_CH_STAT_WINDOW c) 1
    refreshSinks (startInrush c s)
  else s

/-- The side window ends without a latch (R455). -/
def retryOk (c : Nat) (s : State) : State :=
  if s.flag (F.LSW_CH_STAT_WINDOW c) = true ∧ (chan s c).windowEnd ≤ s.now then
    let s := (s.put (F.LSW_CH_STAT_WINDOW c) 0).bump (F.LSW_CH_CNT_RETRIES_OK c) 1
    raiseCh Src.LSW_RETRY_OK c (fault 0x02 1 Src.LSW_RETRY_OK c (s.get (F.LSW_CH_STAT_CAUSE c)) 0 0 s)
  else s

/-- The shortest that an inrush window lasts, ns: INRUSH_TIME of the set in force, and 30 % less in limp mode, whose delay element is
within ±30 % (R453, R468). -/
def inrushLasts (s : State) (c : Nat) : Nat :=
  let d := s.get (F.LSW_CH_CFG_INRUSH_TIME c) * ms
  if inLimp s then d * 7 / 10 else d

/-- An inrush window ends INRUSH_TIME of the set in force after its start (R451, R461, R468). -/
def inrushEnd (c : Nat) (s : State) : State :=
  if s.flag (F.LSW_CH_STAT_INRUSH c) = true ∧ (chan s c).inrushFrom + inrushLasts s c ≤ s.now then
    s.put (F.LSW_CH_STAT_INRUSH c) 0
  else s

/-- How long a judgement has been under way, in units of 100 µs: the output has stayed above or below 3.2 V for so many, and no longer
than the conditions of R459 have held (R460). -/
def judgedFor (s : State) (c units : Nat) : Nat := min units ((s.now - (chan s c).judgedFrom) / (100 * us))

/-- The output has stayed above or below 3.2 V for so many units of 100 µs: a completed judgement sets or clears
OPEN_LOAD (R459, R460). -/
def openLoad (c : Nat) (above : Bool) (units : Nat) (s : State) : State :=
  if !openLoadJudged s c || decide (judgedFor s c units < s.get (F.LSW_CH_TIME_OL_TIME c)) then s
  else if above && !s.flag (F.LSW_CH_STAT_OPEN_LOAD c) then
    raiseCh Src.LSW_OPEN_LOAD c (fault 0x06 4 Src.LSW_OPEN_LOAD c 0 0 0 (s.put (F.LSW_CH_STAT_OPEN_LOAD c) 1))
  else if !above && s.flag (F.LSW_CH_STAT_OPEN_LOAD c) then
    raiseCh Src.LSW_OPEN_LOAD_CLEAR c (s.put (F.LSW_CH_STAT_OPEN_LOAD c) 0)
  else s

/-- The summed current of the channels of a stud, mA (R439, R440). -/
def studSum (b : Bool) (s : State) : Int :=
  ((upFrom 0 32).filter (fun c => onStudB c == b)).foldl (fun n c => n + s.gets (F.LSW_CH_CURR_CURR c)) 0

/-- The summed mirror currents of LOAD_A and LOAD_B at this instant, kept for a second (R440). -/
def logStuds (a b : Int) (s : State) : State :=
  { s with load := { s.load with studLog := s.load.studLog.filter (fun e => decide (s.now < e.1 + sec)) ++ [(s.now, a, b)] } }

/-- The 1 s stud means over the sums that the last second has brought, those of this instant with them, in units of 10 mA; OVER where they
exceed the limits of the studs, and LOAD_OVER once per onset (R440, R483, R836). DESIGN CHOICE: each measurement of the second counts alike
(log entry 215). -/
def studMean (a b : Int) (s : State) : State :=
  let s := logStuds a b s
  let l := s.load.studLog
  let n := l.length
  let sumA := l.foldl (fun x e => x + e.2.1) 0
  let sumB := l.foldl (fun x e => x + e.2.2) 0
  let s := (s.put F.LSW_TOTAL_MEAN_A (satU 16 (roundDiv sumA (10 * n)))).put F.LSW_TOTAL_MEAN_B (satU 16 (roundDiv sumB (10 * n)))
  let high := decide (sumA > 100000 * n) || decide (sumB > 100000 * n) || decide (sumA + sumB > 140000 * n)
  if high && !s.flag F.LSW_SUPPLY_OVER then raise0 Src.LSW_LOAD_OVER (s.put F.LSW_SUPPLY_OVER 1)
  else s.put F.LSW_SUPPLY_OVER (b2n high)

/-- A stud's voltage in mV is measured: SUPPLY_LOW_A or _B follows the limit of 6.0 V, and SUPPLY_LOW is raised at onset
(R441, R483). -/
def studVoltage (b : Bool) (mv : Nat) (s : State) : State :=
  let vf := if b then F.LSW_SUPPLY_VOLT_B else F.LSW_SUPPLY_VOLT_A
  let lf := if b then F.LSW_SUPPLY_SUPPLY_LOW_B else F.LSW_SUPPLY_SUPPLY_LOW_A
  let s := gather (if b then 5 else 4) mv (s.put vf (satU 14 (roundDiv mv 5)))
  if mv < 6000 then
    if s.flag lf then s else raise0 Src.LSW_SUPPLY_LOW (s.put lf 1)
  else foldOver (fun u c => judgeAnew s c u) (s.put lf 0) (upFrom 0 32)

/-- The histogram of a channel's junction: one for each H channel, and one for four M channels (R723). -/
def junctionHist (c : Nat) : Nat := if c < 8 then 44 + c else 52 + (c - 8) / 4

/-- Load current and junction temperature of every channel, and the sums of the studs (R440, R465, R723, R836). -/
def measureAll (l : List (Int × Int)) (s : State) : State :=
  let s := foldOver (fun s c =>
    let m := nth l c (s.gets (F.LSW_CH_CURR_CURR c), s.gets (F.LSW_CH_TJ_TJ c))
    gather (12 + c) m.1.natAbs (gather (junctionHist c) m.2
      ((s.puts (F.LSW_CH_CURR_CURR c) m.1).puts (F.LSW_CH_TJ_TJ c) m.2))) s (upFrom 0 32)
  logStuds (studSum false s) (studSum true s) s

/-- The pin SENSE_OUT in a state (R462, R464): the channel selected, its ratio and its output current in mA, which is 0 while the
high-side switch does not conduct; none while it is of high impedance. The mirror current is the current divided by the ratio. -/
def senseOut (s : State) : Option (Nat × Nat × Int) :=
  s.load.sense.map (fun c => (c, mirrorRatio c, if conducts s c then s.gets (F.LSW_CH_CURR_CURR c) else 0))

/-- SEL4–SEL0 and SENSE_EN route a channel to SENSE_OUT (R462). -/
def senseSelect (sel : Nat) (en : Bool) (s : State) : State :=
  let s : State := { s with load := { s.load with sense := if en then some sel else none } }
  emit (.sense (senseOut s)) s

/-- A PWM channel begins a period (R443, R444); where SENSE_OUT carries it, the pin follows (R464). -/
def pwmPeriod (c : Nat) (s : State) : State :=
  if s.get (F.LSW_CH_STAT_CSTATE c) = cPwm ∧ s.get (F.LSW_CH_PWM_FREQ c) ≠ 0 then
    let s := startPeriod c s
    emit (.pwm c (chan s c).period (chan s c).onCounts) s
  else s

end Sys2Proof.Machine
end

