-- ==== Sys2Proof/Machine/Loops.lean ====
section
/-!
DEFINITION. *Closed-Loop Control Engine*: the control law (R391–R398), sources and sinks (R399–R404), ticks, service
and deadlines (R405–R409), loop states (R413–R419), loss (R421–R424) and the status word (R427).
-/

namespace Sys2Proof.Machine

/-- What a loop holds beside its registers. -/
def loop (s : State) (n : Nat) : LoopPart := nth s.eng.loops n {}

/-- The state with what a loop holds changed. -/
def modLoop (n : Nat) (f : LoopPart → LoopPart) (s : State) : State :=
  { s with eng := { s.eng with loops := setNth s.eng.loops n (f (loop s n)) } }

/-- A loop is defined (R390). -/
def loopDefined (s : State) (n : Nat) : Bool := s.flag (F.CLE_LOOP_CFG_EN n)

/-- STATE of a loop (R413). -/
def loopState (s : State) (n : Nat) : Nat := s.get (F.CLE_LOOP_CTRL_STATE n)

/-! ### Gain tables (R393–R398) -/

/-- A gain table as its bytes. -/
abbrev GainTable := Bytes

/-- Field j (0, 1, 2) of entry k of a gain table, signed. -/
def gainAt (g : GainTable) (k j : Nat) : Int := sfieldAt g (12 * k + 4 * j) 4

/-- The tuning block (R395). -/
def outMin (g : GainTable) : Int := gainAt g 64 0
def outMax (g : GainTable) : Int := gainAt g 64 1
def gainRate (g : GainTable) : Nat := fieldAt g (12 * 64 + 8) 4
def iMin (g : GainTable) : Int := gainAt g 65 0
def iMax (g : GainTable) : Int := gainAt g 65 1
def iInit (g : GainTable) : Int := gainAt g 65 2
def ffGain (g : GainTable) : Int := gainAt g 66 0
def ffBias (g : GainTable) : Int := gainAt g 66 1
def tflags (g : GainTable) : Nat := fieldAt g (12 * 66 + 8) 4
def nbp (g : GainTable) : Nat := bitsAt (tflags g) 0 7
def symTable (g : GainTable) : Bool := bitAt (tflags g) 8
def antiWindup (g : GainTable) : Bool := bitAt (tflags g) 9

/-- Each element is less than the next. -/
def ascending : List Int → Bool
  | a :: b :: l => decide (a < b) && ascending (b :: l)
  | _ => true

/-- A gain table is valid (R396). -/
def gainValid (g : GainTable) : Bool :=
  g.length == 864 && decide (2 ≤ nbp g) && decide (nbp g ≤ 64) &&
    ascending ((upFrom 0 (nbp g)).map (fun k => gainAt g k 0)) &&
    (!symTable g || gainAt g 0 0 == 0) &&
    decide (outMin g < outMax g) && decide (iMin g ≤ iInit g) && decide (iInit g ≤ iMax g) &&
    decide (iMin g ≤ 0) && decide (0 ≤ iMax g)

/-- The gain table in force of a loop, empty where it has none: that of the running set, or what has been written over
it since (R397, R398). -/
def runningGains (s : State) (n : Nat) : GainTable := (lookupNum s.eng.gainEdits n).getD ((runningTable s 0x04 n).getD [])

/-- The interpolation between breakpoint k and the next, rounded to Q8.24 (R393). -/
def interpolate (g : GainTable) (k j : Nat) (x : Int) : Int :=
  let e0 := gainAt g k 0
  let d := gainAt g (k + 1) 0 - e0
  satS 32 (roundDivI (gainAt g k j * d + (x - e0) * (gainAt g (k + 1) j - gainAt g k j)) d)

/-- The largest index of the first m breakpoints with E[k] ≤ x, 0 where there is none. -/
def lastBelow (g : GainTable) (x : Int) : Nat → Nat
  | 0 => 0
  | m + 1 => if gainAt g m 0 ≤ x then m else lastBelow g x m

/-- The gains for an error (R393). -/
def lookupGains (g : GainTable) (e : Int) : Int × Int :=
  let x := if symTable g then (e.natAbs : Int) else e
  if x ≤ gainAt g 0 0 then (gainAt g 0 1, gainAt g 0 2)
  else if x ≥ gainAt g (nbp g - 1) 0 then (gainAt g (nbp g - 1) 1, gainAt g (nbp g - 1) 2)
  else
    let k := lastBelow g x (nbp g - 1)
    (interpolate g k 1 x, interpolate g k 2 x)

/-! ### The control law (R392) -/

/-- What one sample computes: y, r, i_new, u and whether the output was limited (R427). -/
structure LawResult where
  y : Int
  r : Int
  iNew : Int
  u : Int
  sat : Bool
  deriving DecidableEq, Repr

/-- The output of a sample under the rate limit (R392), from u_c in units of 2^−32, and whether RATE limited it. RATE × T
is held exactly in units of 2^−32 / 40,000,000. -/
def rateLimited (rate period : Nat) (uPrev uc : Int) : Int × Bool :=
  if rate = 0 then (satS 32 (roundDiv uc 65536), false)
  else
    let unit : Int := 40000000
    let step : Int := (rate : Int) * 65536 * (period : Int)
    let prev := uPrev * 65536 * unit
    let c := clampI (prev - step) (prev + step) (uc * unit)
    (satS 32 (roundDivI c (65536 * unit)), decide (c ≠ uc * unit))

/-- One sample of a loop from its raw values (R392). I is in units of 2^−32, u_prev in units of 2^−16. -/
def controlLaw (g : GainTable) (srcOff srcScale spOff spScale : Int) (period : Nat) (blocked : Bool) (i uPrev rawSrc rawSp : Int) :
    LawResult :=
  let y := satS 32 ((rawSrc - srcOff) * srcScale)
  let r := satS 32 ((rawSp - spOff) * spScale)
  let e := satS 32 (r - y)
  let (kp, ki) := lookupGains g e
  let uff := satS 32 (roundDiv (ffGain g * r + ffBias g * 16777216) 16777216)
  let p := satS 32 (roundDiv (kp * e) 16777216)
  let inc := if blocked then 0 else satS 48 (roundDiv (ki * e * (period : Int)) (256 * 40000000))
  let i1 := satS 48 (clampI (iMin g * 65536) (iMax g * 65536) (i + inc))
  let lo := outMin g * 65536
  let hi := outMax g * 65536
  let raw1 := (uff + p) * 65536 + i1
  let wind := antiWindup g && ((decide (raw1 > hi) && decide (inc > 0)) || (decide (raw1 < lo) && decide (inc < 0)))
  let iNew := if wind then i else i1
  let uRaw := if wind then (uff + p) * 65536 + i else raw1
  let uc := clampI lo hi uRaw
  let (u, lim) := rateLimited (gainRate g) period uPrev uc
  { y := y, r := r, iNew := iNew, u := u, sat := decide (uc ≠ uRaw) || lim }

/-! ### Sources (R399–R401) -/

/-- A Line value: the word of the newest accepted frame of an entry, signed (R166). -/
def lineValue (s : State) (entry word : Nat) : Int :=
  match s.line.values.find? (fun e => e.1 == entry) with
  | none => (Config.neverReceived entry word).toInt
  | some e => sfieldAt e.2.2 (4 * word) 4

/-- A Line value as the Signal die holds it: the word of the newest payload of an entry that has crossed to it, signed (R48, R50,
R166). -/
def seenValue (s : State) (entry word : Nat) : Int :=
  match lookupNum s.eng.lineSeen entry with
  | none => (Config.neverReceived entry word).toInt
  | some b => sfieldAt b (4 * word) 4

/-- What an input reads that has no sample yet. -/
def unsampled (kind i : Nat) : Int := ((Config.neverSampled kind i).toNat : Int)

/-- The raw value of a source or setpoint (R399, R401). -/
def rawValue (s : State) (n kind index word : Nat) : Int :=
  if kind = 1 then
    match s.inp.ain.find? (fun e => e.1 == index) with
    | none => unsampled 1 index
    | some e => e.2.1
  else if kind = 2 then
    match s.inp.freq.find? (fun e => e.1 == index) with
    | none => unsampled 2 index
    | some e => e.2.1
  else if kind = 3 then s.gets (F.LSW_CH_CURR_CURR index)
  else if kind = 4 then seenValue s index word
  else if kind = 5 then (lookupNum s.eng.xvals index).getD (unsampled 5 index)
  else if kind = 6 then s.gets (F.CLE_LOOP_SETPT_SETPT n)
  else unsampled kind index

/-- raw_src and raw_sp of a loop. -/
def rawSource (s : State) (n : Nat) : Int :=
  rawValue s n (s.get (F.CLE_LOOP_SRC_KIND n)) (s.get (F.CLE_LOOP_SRC_INDEX n)) (s.get (F.CLE_LOOP_SRC_WORD n))
def rawSetpoint (s : State) (n : Nat) : Int :=
  rawValue s n (s.get (F.CLE_LOOP_SP_KIND n)) (s.get (F.CLE_LOOP_SP_INDEX n)) (s.get (F.CLE_LOOP_SP_WORD n))

/-! ### Sinks (R402, R414) -/

/-- A word of a RESERVED entry of this module, carried in the next frame of the entry once it has crossed the
Crossover (R40, R41, R402). The Signal die keeps what it has written, for a Yard die that comes back without it (R414). -/
def writeLineWord (entry word : Nat) (v : Int) (s : State) : State :=
  let k := 1024 * entry + word
  let w := BitVec.ofInt 32 v
  let s : State := { s with eng := { s.eng with linePending := putNum s.eng.linePending k w } }
  if s.die.xoUp then { s with line := { s.line with outWords := storeSet (fun _ => 0#32) s.line.outWords k w } } else s

/-- A word of a RESERVED entry of this module, carried from the next cycle on (R693). -/
def publishWord (entry word : Nat) (v : Int) (s : State) : State :=
  let k := 1024 * entry + word
  let w := BitVec.ofInt 32 v
  let s : State := { s with eng := { s.eng with linePending := putNum s.eng.linePending k w } }
  if s.die.xoUp then { s with line := { s.line with nextWords := putNum s.line.nextWords k w } } else s

/-- The words published in the past cycle come into force (R693). -/
def takeNextWords (s : State) : State :=
  let l := foldOver (fun l (e : Nat × Word) => storeSet (fun _ => 0#32) l e.1 e.2) s.line.outWords s.line.nextWords
  { s with line := { s.line with outWords := l, nextWords := [] } }

/-- The newest words that the Signal die has written are delivered over a Crossover that comes up (R41, R46, R414). -/
def flushLineWords (s : State) : State :=
  let l := foldOver (fun l (e : Nat × Word) => storeSet (fun _ => 0#32) l e.1 e.2) s.line.outWords s.eng.linePending
  { s with line := { s.line with outWords := l } }

/-- The sink of a loop as its registers define it (R402, R433). -/
def sinkOf (s : State) (n : Nat) : SinkDef :=
  { kind := s.get (F.CLE_LOOP_SINK_KIND n), index := s.get (F.CLE_LOOP_SINK_INDEX n), word := s.get (F.CLE_LOOP_SINK_WORD n),
    scale := s.gets (F.CLE_LOOP_SINK_SCALE_SINK_SCALE n), off := s.gets (F.CLE_LOOP_SINK_OFF_SINK_OFF n) }

/-- An output in units of 2^−16 written to a sink (R402). -/
def writeTo (d : SinkDef) (u : Int) (s : State) : State :=
  let v := roundDiv (u * d.scale) 4294967296 + d.off
  if d.kind = 1 then s.put (F.LSW_CH_CMD_DUTY d.index) (satU 16 v)
  else if d.kind = 2 then { s with eng := { s.eng with canVals := putNum s.eng.canVals d.index (satS 32 v) } }
  else if d.kind = 3 then writeLineWord d.index d.word (satS 32 v) s
  else s

/-- An output in units of 2^−16 written to the sink of a loop (R402). -/
def writeSink (n : Nat) (u : Int) (s : State) : State := writeTo (sinkOf s n) u s

/-- A loop takes its PWM channel: it owns it and commands it PWM (R449). -/
def ownSink (n : Nat) (s : State) : State :=
  match pwmSink s n with
  | none => s
  | some c =>
    let s := (s.put (F.LSW_CH_STAT_OWNED c) 1).put (F.LSW_CH_STAT_OWNER c) n
    commandChannel c 2 (s.get (F.LSW_CH_CMD_DUTY c)) s

/-- The sink of a loop is released (R414); on a channel commanded OFF a pending classification ends with it (R457). -/
def releaseSink (n : Nat) (s : State) : State :=
  let s := writeSink n (s.gets (F.CLE_LOOP_SAFE_SAFE n)) s
  match pwmSink s n with
  | none => s
  | some c =>
    let s := s.put (F.LSW_CH_STAT_OWNED c) 0
    if s.get (F.LSW_CH_CMD_STATE c) = 0 then commandChannel c 0 0 s else s

/-! ### Loop states (R413–R419) -/

/-- A loop takes a state; a sample in service is discarded and no miss is counted (R417). -/
def setLoopState (n st : Nat) (s : State) : State :=
  (modLoop n (fun x => { x with sample := none }) s).put (F.CLE_LOOP_CTRL_STATE n) st

/-- The integrator of a loop, and INTEG with it. -/
def setInteg (n : Nat) (i : Int) (s : State) : State :=
  (modLoop n (fun x => { x with integ := i }) s).puts (F.CLE_LOOP_INTEG_INTEG n) (roundDiv i 65536)

/-- A loop goes to OPEN and its sink is released (R413). -/
def loopToOpen (n : Nat) (s : State) : State := refreshBlocked (releaseSink n (setLoopState n lOpen s)) n

/-- The loss action off (R422): the sink is released and a PWM sink channel switched off. -/
def loopOff (n : Nat) (s : State) : State :=
  let s := loopToOpen n s
  match pwmSink s n with
  | none => s
  | some c => commandChannel c 0 0 s

/-! ### Loss of a setpoint or source (R421–R424) -/

/-- A value of a kind and index is lost (R421). -/
def valueLost (s : State) (kind index : Nat) : Bool :=
  (kind == 4 && (!s.die.xoUp || s.eng.lostEntries.contains index)) ||
    (kind == 5 && (!s.die.xoUp || s.eng.xlost.contains index))

/-- The source or the setpoint of a loop is lost. -/
def loopLost (s : State) (n : Nat) : Bool :=
  valueLost s (s.get (F.CLE_LOOP_SRC_KIND n)) (s.get (F.CLE_LOOP_SRC_INDEX n)) ||
    valueLost s (s.get (F.CLE_LOOP_SP_KIND n)) (s.get (F.CLE_LOOP_SP_INDEX n))

/-- The end of the grace time of a loop whose value is lost (R50, R421). -/
def graceEnd (s : State) (n : Nat) : Nat :=
  match s.die.plannedUntil with
  | some e => e
  | none => ((loop s n).lostAt.getD s.now) + s.get (F.CLE_LOOP_LOSS_GRACE n) * ms

/-- A loop in RUN begins its grace time (R422). -/
def beginGrace (n : Nat) (s : State) : State := raise Src.CLE_LOOP_GRACE n (s.put (F.CLE_LOOP_STATUS_LOSS n) 1)

/-- No value of a loop is lost: LOSS reads 0 (R422). -/
def noLoss (n : Nat) (s : State) : State :=
  (modLoop n (fun x => { x with lostAt := none }) s).put (F.CLE_LOOP_STATUS_LOSS n) 0

/-- The loss timing of a loop follows the loss of its values: it starts at the onset, also while the Signal die is down, and ends when
they return, with LOOP_REGAINED whatever the loop's state (R421, R423, R424). -/
def refreshLoopLoss (s : State) (n : Nat) : State :=
  if !loopDefined s n then s
  else
    match (loop s n).lostAt, loopLost s n with
    | none, true =>
      let s := modLoop n (fun x => { x with lostAt := some s.now }) s
      if s.die.sigUp && loopState s n == lRun then beginGrace n s else s
    | some _, false => if s.die.sigUp then raise Src.CLE_LOOP_REGAINED n (noLoss n s) else s
    | _, _ => s

/-- The same for every loop. -/
def refreshLoss (s : State) : State := foldOver refreshLoopLoss s (upFrom 0 32)

/-- A loop in RUN takes its loss action (R422). -/
def lossAction (n : Nat) (s : State) : State :=
  let s := raise Src.CLE_LOOP_LOSS_ACTION n (s.put (F.CLE_LOOP_STATUS_LOSS n) 2)
  if s.get (F.CLE_LOOP_CFG_LOSS_ACT n) = 2 then loopOff n s
  else modLoop n (fun x => { x with sample := none }) s

/-- A loop in RUN whose grace time has run out takes its loss action, once the Signal firmware runs (R44, R422, R423). -/
def lossDue (n : Nat) (s : State) : State :=
  if s.die.sigUp = true ∧ loopState s n = lRun ∧ (loop s n).lostAt.isSome = true ∧ s.get (F.CLE_LOOP_STATUS_LOSS n) ≠ 2 ∧ graceEnd s n ≤ s.now then
    lossAction n s
  else s

/-- The output of a loop under the loss action ramp at one tick (R422): toward SAFE by at most RAMP × T. -/
def rampOutput (s : State) (n : Nat) : Int :=
  let safe := s.gets (F.CLE_LOOP_SAFE_SAFE n)
  let ramp := s.get (F.CLE_LOOP_RAMP_RAMP n)
  if ramp = 0 then safe
  else (rateLimited ramp (s.get (F.CLE_LOOP_CFG_PERIOD n)) (s.gets (F.CLE_LOOP_OUT_OUT n)) (safe * 65536)).1

/-! ### Commands on loops (R413–R418, R436) -/

/-- What a loop that enters RUN while a value is lost does: it starts its grace time where that has not expired, and takes its loss
action at its first tick where it has (R423, log entry 100). -/
def enterLost (n : Nat) (s : State) : State :=
  if (loop s n).lostAt.isSome = false then s
  else if graceEnd s n ≤ s.now then s.put (F.CLE_LOOP_STATUS_LOSS n) 0
  else if s.flag (F.CLE_LOOP_STATUS_LOSS n) then s
  else beginGrace n s

/-- The loss timing when the Signal die is back: a loop in RUN whose value was lost meanwhile goes on as one that enters RUN (R44, R421,
R423). -/
def lossAtReturn (s : State) : State :=
  foldOver (fun s n =>
    if loopState s n = lRun ∧ s.flag (F.CLE_LOOP_STATUS_LOSS n) = false then enterLost n s else s) (refreshLoss s) (upFrom 0 32)

/-- LOOP_RUN of a defined loop with a valid table. -/
def loopToRun (n : Nat) (s : State) : State :=
  let s :=
    if loopState s n = lOpen then
      (setInteg n (iInit (runningGains s n) * 65536) s).puts (F.CLE_LOOP_OUT_OUT n) (s.gets (F.CLE_LOOP_SAFE_SAFE n))
    else s
  refreshBlocked (enterLost n (ownSink n (setLoopState n lRun s))) n

/-- The answer to a request that a loop go to a state (R415). -/
def loopRequest (n st : Nat) (s : State) : Answer :=
  if n > 31 ∨ st > 2 then refuse s St.badParam
  else if loopState s n = st then ok s []
  else if st = lOpen then ok (loopToOpen n s) []
  else if !loopDefined s n then refuse s St.loopUndefined
  else if st = lRun then (if gainValid (runningGains s n) then ok (loopToRun n s) [] else refuse s St.badParam)
  else if loopState s n = lRun then ok (setLoopState n lHold s) []
  else refuse s St.badParam

/-- LOOP_OPEN, LOOP_RUN, LOOP_HOLD (R415). -/
def runLoopOpen (p : Request) (s : State) : Answer := loopRequest (fieldAt p.params 0 1) lOpen s
def runLoopRun (p : Request) (s : State) : Answer := loopRequest (fieldAt p.params 0 1) lRun s
def runLoopHold (p : Request) (s : State) : Answer := loopRequest (fieldAt p.params 0 1) lHold s

/-- LOOP_SETPOINT (R418). -/
def runLoopSetpoint (p : Request) (s : State) : Answer :=
  let n := fieldAt p.params 0 1
  if n > 31 ∨ s.get (F.CLE_LOOP_SP_KIND n) ≠ 6 then refuse s St.badParam
  else ok (s.setReg (Reg.CLE_LOOP_SETPT n) (fieldAt p.params 4 4)) []

/-- The eight run-time registers of a loop as bytes (R435). -/
def loopRegisters (s : State) (n : Nat) : Bytes :=
  (upFrom 0 8).flatMap (fun i => leBytes 4 (s.reg (Reg.CLE_LOOP_CTRL n + 4 * i)))

/-- LOOP_STATUS (R436). -/
def runLoopStatus (p : Request) (s : State) : Answer :=
  let n := fieldAt p.params 0 1
  if n = 0xFF then ok s ((upFrom 0 32).flatMap (loopRegisters s))
  else if n > 31 then refuse s St.badParam
  else ok s (loopRegisters s n)

/-! ### Ticks, service and deadlines (R405–R409) -/

/-- D of R407, ns. -/
def deadlineAfter (s : State) (n : Nat) : Nat := s.get (F.CLE_LOOP_CFG_PERIOD n) * s.get (F.CLE_LOOP_CFG_DEADLINE n) / 100 * 25

/-- The tick instant of a loop within tTICK of the present device time (R405). -/
def tickInstant (s : State) (n : Nat) : Option Nat :=
  let per := 25 * s.get (F.CLE_LOOP_CFG_PERIOD n)
  let ph := 25 * s.get (F.CLE_LOOP_PHASE_PHASE n)
  let d := deviceTime s + 25
  if per = 0 ∨ d < ph then none
  else
    let k := (d - ph) / per * per + ph
    if deviceTime s ≤ k + 25 then some k else none

/-- A tick comes far enough after the previous one (R406): a loop is not ticked twice at one instant. -/
def tickAllowed (s : State) (n k : Nat) : Bool :=
  match (loop s n).lastTick with
  | none => true
  | some l => decide (2 * l + 25 * s.get (F.CLE_LOOP_CFG_PERIOD n) ≤ 2 * k)

/-- The samples that wait for service, with their loops. -/
def waitingSamples (s : State) : List (Nat × Sample) :=
  (upFrom 0 32).flatMap (fun n =>
    match (loop s n).sample with
    | none => []
    | some x => if x.done.isNone then [(n, x)] else [])

/-- Of the samples whose tick has come by an instant, the one of the earliest deadline and the lowest loop (R409). -/
def nextSample (at_ : Nat) : List (Nat × Sample) → Option (Nat × Sample)
  | [] => none
  | e :: l =>
    match nextSample at_ l with
    | none => if e.2.tick ≤ at_ then some e else none
    | some b => if decide (e.2.tick ≤ at_) && decide (e.2.deadline ≤ b.2.deadline) then some e else some b

/-- The engine serves samples, one at a time, until device time reaches a limit (R409). -/
def serveUntil (limit : Nat) : Nat → State → State
  | 0, s => s
  | fuel + 1, s =>
    let l := waitingSamples s
    match l.map (fun e => e.2.tick) with
    | [] => s
    | t0 :: ts =>
      let from_ := max s.eng.busyUntil (ts.foldl min t0)
      if limit ≤ from_ then s
      else
        match nextSample from_ l with
        | none => s
        | some (n, x) =>
          let e := from_ + x.upd
          let s := modLoop n (fun y => { y with sample := some { x with done := some e } }) s
          serveUntil limit fuel { s with eng := { s.eng with busyUntil := e } }

/-- A miss of a loop (R408, R431). -/
def loopMiss (n : Nat) (s : State) : State :=
  let first := !s.flag (F.CLE_LOOP_STATUS_MISS_LAST n)
  let s := modLoop n (fun x => { x with sample := none, missSince := true }) s
  let s := (((s.put (F.CLE_LOOP_STATUS_MISS_LAST n) 1).putBit F.CLE_MISS_MISS n true).bump (F.CLE_LOOP_STATUS_MISSES n) 1)
  let s := (s.put F.CLE_SLACK_MIN_SLACK 0).put F.CLE_SLACK_MIN_LOOP n
  let s := raise Src.CLE_LOOP_MISS n s
  if first then fault 0x28 4 Src.CLE_LOOP_MISS n (s.get (F.CLE_LOOP_STATUS_MISSES n)) 0 0 s else s

/-- A complete sample takes effect at its deadline with a margin in ns (R407, R420, R431). -/
def loopApply (n : Nat) (x : Sample) (margin : Nat) (s : State) : State :=
  let s := setInteg n x.iNew (modLoop n (fun y => { y with sample := none }) s)
  let s := ((s.puts (F.CLE_LOOP_OUT_OUT n) x.u).put (F.CLE_LOOP_STATUS_SAT n) (b2n x.sat)).put (F.CLE_LOOP_STATUS_MISS_LAST n) 0
  let s :=
    if satN 16 margin < s.get F.CLE_SLACK_MIN_SLACK then
      (s.put F.CLE_SLACK_MIN_SLACK (satN 16 margin)).put F.CLE_SLACK_MIN_LOOP n
    else s
  writeTo (x.sink.getD (sinkOf s n)) x.u s

/-- The deadline of a loop's pending sample, once reached (R407, R408). -/
def loopDeadline (n : Nat) (s : State) : State :=
  match (loop s n).sample with
  | none => s
  | some x =>
    if deviceTime s < x.deadline then s
    else
      let s := serveUntil (deviceTime s) 64 s
      match (loop s n).sample with
      | none => s
      | some x =>
        match x.done with
        | none => loopMiss n s
        | some d => if d ≤ x.deadline then loopApply n x (x.deadline - d) s else loopMiss n s

/-- The sample of a tick becomes pending; its service takes upd ns. -/
def loopPend (n k upd : Nat) (iNew u : Int) (sat : Bool) (s : State) : State :=
  let x : Sample :=
    { tick := k, deadline := k + deadlineAfter s n, upd := upd, done := none, iNew := iNew, u := u, sat := sat }
  modLoop n (fun y => { y with sample := some x }) s

/-- The sample of a loop in RUN (R392). -/
def loopSample (n k upd : Nat) (s : State) : State :=
  let src := rawSource s n
  let s := refreshBlocked s n
  let r := controlLaw (runningGains s n) (s.gets (F.CLE_LOOP_SRC_OFF_SRC_OFF n)) (s.gets (F.CLE_LOOP_SRC_SCALE_SRC_SCALE n))
    (s.gets (F.CLE_LOOP_SP_OFF_SP_OFF n)) (s.gets (F.CLE_LOOP_SP_SCALE_SP_SCALE n)) (s.get (F.CLE_LOOP_CFG_PERIOD n))
    (sinkBlocked s n) (loop s n).integ (s.gets (F.CLE_LOOP_OUT_OUT n)) src (rawSetpoint s n)
  let s := ((s.put (F.CLE_LOOP_RAW_RAW n) (toBits 32 src)).puts (F.CLE_LOOP_PV_PV n) r.y).puts (F.CLE_LOOP_SPV_SPV n) r.r
  loopPend n k upd r.iNew r.u r.sat s

/-- What a loop in HOLD does at a tick: RAW and PV follow the source (R414). -/
def loopObserve (n : Nat) (s : State) : State :=
  let src := rawSource s n
  let y := satS 32 ((src - s.gets (F.CLE_LOOP_SRC_OFF_SRC_OFF n)) * s.gets (F.CLE_LOOP_SRC_SCALE_SRC_SCALE n))
  (s.put (F.CLE_LOOP_RAW_RAW n) (toBits 32 src)).puts (F.CLE_LOOP_PV_PV n) y

/-- A tick of a loop (R392, R401, R405, R419, R422). A deadline that has passed is taken first. -/
def loopTick (n upd : Nat) (s : State) : State :=
  if !loopDefined s n || !s.die.sigUp then s
  else
    let s := loopDeadline n s
    match tickInstant s n with
    | none => s
    | some k =>
      if !tickAllowed s n k then s
      else
        let s := serveUntil k 64 (modLoop n (fun x => { x with lastTick := some k }) s)
        let s := lossDue n s
        if loopState s n = lHold then loopObserve n s
        else if loopState s n = lRun then
          if s.get (F.CLE_LOOP_STATUS_LOSS n) = 2 then
            (if s.get (F.CLE_LOOP_CFG_LOSS_ACT n) = 1 then loopPend n k upd (loop s n).integ (rampOutput s n) false s else s)
          else loopSample n k upd s
        else s

/-- The status word of a loop, and the misses since the last one forgotten (R427). -/
def statusWord (s : State) (n : Nat) : Nat :=
  b2n (loop s n).missSince + 2 * s.get (F.CLE_LOOP_STATUS_SINK_BLOCKED n) + 4 * s.get (F.CLE_LOOP_STATUS_SAT n) +
    8 * b2n (s.flag (F.CLE_LOOP_STATUS_LOSS n)) + 16 * loopState s n + 65536 * s.get (F.CLE_LOOP_STATUS_MISSES n)

/-- The loops of a list whose status words go into an entry: each word of the entry and its value (R427). -/
def statusWordsOf (s : State) (entry : Nat) : List (Nat × Nat) :=
  (upFrom 0 32).flatMap (fun n =>
    if loopDefined s n && s.flag (F.CLE_LOOP_PUB_PUB_EN n) && s.get (F.CLE_LOOP_PUB_PUB_ENTRY n) == entry then
      [(s.get (F.CLE_LOOP_PUB_PUB_WORD n), statusWord s n)]
    else [])

/-- The status words of an entry have been taken (R427). -/
def statusTaken (entry : Nat) (s : State) : State :=
  foldOver (fun s n =>
    if s.flag (F.CLE_LOOP_PUB_PUB_EN n) && s.get (F.CLE_LOOP_PUB_PUB_ENTRY n) == entry then
      modLoop n (fun x => { x with missSince := false }) s
    else s) s (upFrom 0 32)

/-! ### Budget (R410, R411, R429) -/

/-- The defined loops among 32, given their definitions. -/
def definedLoops (en : Nat → Bool) : List Nat := (upFrom 0 32).filter en

/-- The sum of the update rates as a fraction: numerator over the product of the periods (R410). -/
def rateFraction (period : Nat → Nat) : List Nat → Nat × Nat
  | [] => (0, 1)
  | n :: l =>
    let (a, b) := rateFraction period l
    (a * period n + 40000000 * b, b * period n)

/-- CLE_BUDGET of the running set (R429). -/
def budgetWord (s : State) : Nat :=
  let l := definedLoops (loopDefined s)
  let (a, b) := rateFraction (fun n => s.get (F.CLE_LOOP_CFG_PERIOD n)) l
  satN 19 (if b = 0 then 0 else ceilDiv a b) + 16777216 * l.length

/-- CLE_LOSS (R430). -/
def lossMask (s : State) : Nat :=
  maskOf ((upFrom 0 32).filter (fun n => s.flag (F.CLE_LOOP_STATUS_LOSS n)))

/-! ### The rows -/

/-- LOOP_TICK (R392): a tick of a loop; the service of its sample takes upd ns. -/
def execLoopTick (t n upd : Nat) (s : State) : Res :=
  let s := begin_ t s
  .next (if n < 32 then loopTick n upd s else s)

/-- LOOP_DEADLINE (R407). -/
def execLoopDeadline (t n : Nat) (s : State) : Res :=
  let s := begin_ t s
  .next (if n < 32 then loopDeadline n s else s)

/-- LOOP_LOSS_ACTION (R422): the grace time of a loop expires. -/
def execLoopLossAction (t n : Nat) (s : State) : Res :=
  let s := begin_ t s
  .next (if n < 32 then lossDue n s else s)

/-- MIN_SLACK_RESTART (R431): 0xFFFF written to MIN_SLACK. -/
def execMinSlackRestart (t : Nat) (s : State) : Res := .next ((begin_ t s).put F.CLE_SLACK_MIN_SLACK 0xFFFF)

end Sys2Proof.Machine
end

