-- ==== Sys2Proof/Machine/Sets.lean ====
section
/-!
DEFINITION. The siding set: loading, changing, clearing and the registers that report it (R233–R242, R265–R273).
-/

namespace Sys2Proof.Machine

/-- Siding states (R265). -/
def sEmpty : Nat := 0
def sLoaded : Nat := 1
def sReady : Nat := 2
def sArmed : Nat := 3

/-- The siding state. -/
def sidingState (s : State) : Nat := s.get F.CFG_STATE_SIDING

/-- The siding set is changed to a container: LOADED, and READY_LOST where it was READY (R235, R242, R266). -/
def putSiding (c : Container) (s : State) : State :=
  let was := sidingState s
  let s := State.put { s with sets := { s.sets with siding := some c } } F.CFG_STATE_SIDING sLoaded
  let s := (s.put F.CFG_SIDING_CRC_CRC 0)
  if was = sReady then raise0 Src.CFG_READY_LOST { s with sets := { s.sets with okFrom := [] } } else s

/-- The siding container that a change applies to, with a copy of the running one where it is EMPTY; none where no
running set is in force (R236). -/
def sidingForChange (s : State) : Option Container :=
  if sidingState s = sEmpty then s.sets.running else s.sets.siding

/-- While the siding set is EMPTY, a change first copies the running container into it and sets it LOADED; it is then made on the copy,
whatever its answer is (R236). -/
def copiedSiding (s : State) : State :=
  match s.sets.running with
  | none => s
  | some c => if sidingState s = sEmpty then putSiding c s else s

/-- A write to the siding set: THROW_PENDING while ARMED, BAD_ADDRESS where there is nothing to copy, else the change
made on the container (R29, R30, R235, R236, R245). -/
def changeSiding (f : Container → Container) (s : State) : State × Nat :=
  if throwBars s then (s, St.throwPending)
  else
    match sidingForChange s with
    | none => (s, St.badAddress)
    | some c => (putSiding (f c) s, St.ok)

/-! ### SIDING_LOAD, SIDING_CLEAR, SET_INFO -/

/-- A new container of so many bytes, filled with 0xFF (R233). -/
def freshContainer (total : Nat) : Container := { total := total, fill := 0xFF#8, data := [] }

/-- A chunk at OFFSET 0 opens a new load (R233). -/
def opensLoad (s : State) (d : Bytes) : Bool :=
  match (if sidingState s = sEmpty then none else s.sets.siding) with
  | none => true
  | some c => cSlice c 0 (min d.length 32) != d.take 32

/-- SIDING_LOAD (R233, R245). -/
def runSidingLoad (p : Request) (s : State) : Answer :=
  let off := fieldAt p.params 0 4
  let d := p.params.drop 4
  if throwBars s then refuse s St.throwPending
  else if off = 0 ∧ opensLoad s d = true then
    let total := fieldAt d 4 4
    if d.length < 8 ∨ total < 64 ∨ total > 67108864 ∨ d.length > total then refuse s St.badParam
    else
      let s := { s with sets := { s.sets with modelOpen := [] } }
      ok (putSiding (cWrite (freshContainer total) 0 d) s) []
  else
    match (if sidingState s = sEmpty then none else s.sets.siding) with
    | none => refuse s St.badParam
    | some c => if off + d.length > c.total then refuse s St.badParam else ok (putSiding (cWrite c off d) s) []

/-- PARAM_LEN of SIDING_LOAD: 4 bytes and 1–1,396 bytes of data. -/
def lenSidingLoad (ps : Bytes) : Bool := decide (5 ≤ ps.length) && decide (ps.length ≤ 1400)

/-- SIDING_CLEAR (R237, R245). -/
def runSidingClear (_ : Request) (s : State) : Answer :=
  if throwBars s then refuse s St.throwPending
  else
    ok ((State.put { s with sets := { s.sets with siding := none, okFrom := [], modelOpen := [] } } F.CFG_STATE_SIDING sEmpty).put
      F.CFG_SIDING_CRC_CRC 0) []

/-- CFG_PART_CRC (R266). -/
def sidingPartCrc (s : State) : Nat :=
  if sidingState s = sEmpty then 0
  else
    match s.sets.siding with
    | none => 0
    | some c => partCrc c

/-- The join numbers of the modules in SET_MISMATCH, on the terminus (R270). -/
def mismatchMask (s : State) : Nat := if isTerminus s then maskOf ((upFrom 0 64).filter (inMismatch s)) else 0

/-- The CFG registers that are computed (R266, R270). -/
def setOverlay (s : State) (a : Nat) : Option Nat :=
  if a = Reg.CFG_PART_CRC then some (sidingPartCrc s)
  else if a = Reg.CFG_MISMATCH_LO then some (mismatchMask s % 4294967296)
  else if a = Reg.CFG_MISMATCH_HI then some (mismatchMask s / 4294967296)
  else none

/-- SET_INFO (R273). -/
def runSetInfo (_ : Request) (s : State) : Answer :=
  ok s ((upFrom 0 12).flatMap (fun i => leBytes 4 ((setOverlay s (Reg.CFG_STATE + 4 * i)).getD (s.reg (Reg.CFG_STATE + 4 * i)))))

/-! ### SIDING_VERIFY, the request (R239) -/

/-- The manifest entries of SIDING_VERIFY: join number and PART_CRC. -/
def manifestOf (ps : Bytes) : List (Nat × Nat) :=
  (upFrom 0 (fieldAt ps 4 2)).map (fun i => (fieldAt ps (8 + 8 * i) 1, fieldAt ps (12 + 8 * i) 4))

/-- PARAM_LEN of SIDING_VERIFY. -/
def lenSidingVerify (ps : Bytes) : Bool :=
  decide (1 ≤ fieldAt ps 4 2) && decide (fieldAt ps 4 2 ≤ 64) && ps.length == 8 + 8 * fieldAt ps 4 2

/-- SIDING_VERIFY: its LINE_CRC is checked at once, and the verification goes on (R239, R245). -/
def runSidingVerify (p : Request) (s : State) : Answer :=
  if throwBars s then refuse s St.throwPending
  else if crc32c (p.params.drop 8) ≠ fieldAt p.params 0 4 then refuse s St.badParam
  else { st := s, status := St.queued, job := some .verify }

/-! ### The orders of a set (R259–R262) -/

/-- A step of a running order (R260). -/
structure OrderEntry where
  op : Nat
  onFail : Nat
  time : Nat
  addr : Nat
  mask : Nat
  value : Nat
  deriving DecidableEq, Repr

/-- The step whose 16 bytes these are. -/
def orderEntryOf (b : Bytes) : OrderEntry :=
  { op := fieldAt b 0 1, onFail := fieldAt b 1 1, time := fieldAt b 2 2, addr := fieldAt b 4 4, mask := fieldAt b 8 4,
    value := fieldAt b 12 4 }

/-- Step i of order n in the running set; an END where the set has no such order. -/
def orderEntry (s : State) (n i : Nat) : OrderEntry := orderEntryOf (runningEntry s 0x02 n 16 i)

/-- The entry 0 of an order that is used (R261). -/
def isTrigger (e : OrderEntry) : Bool := e.op == 0x10

/-- The orders of a set that comes into force wait for their triggers (R250). -/
def loadOrders (s : State) : State :=
  { s with sets := { s.sets with orders := (upFrom 0 16).map (fun n =>
      let e := orderEntry s n 0
      { trigger := if isTrigger e && e.addr % 256 != 0xFF then some (e.addr % 256) else none, periodFrom := s.now }) } }

end Sys2Proof.Machine
end

