-- ==== Sys2Proof/Machine/Fusion.lean ====
section
/-!
DEFINITION. *Sensor Inputs and Fusion*: streams, models, projection, feature tiles and fusion frames (R274–R327).
-/

namespace Sys2Proof.Machine

/-! ### Streams -/

/-- A stream slot. -/
def stream (s : State) (i : Nat) : StreamPart := nth s.fus.streams i {}

/-- The state with a stream slot changed. -/
def modStream (i : Nat) (f : StreamPart → StreamPart) (s : State) : State :=
  { s with fus := { s.fus with streams := setNth s.fus.streams i (f (stream s i)) } }

/-- The RWS bits of the FUS registers of a register space given to another. -/
def giveFus (from_ into : List (Nat × Word)) : List (Nat × Word) :=
  foldOver (fun (l : List (Nat × Word)) a =>
    let m := regMask (fun x => x == Access.RWS) a
    let w := (storeGet regDefault l a).toNat
    storeSet regDefault l a (BitVec.ofNat 32 (w - Nat.land w m + Nat.land (storeGet regDefault from_ a).toNat m))) into
    (((from_ ++ into).map (·.1)).filter (fun a => blockOf a == some .FUS))

/-- What streams and fusion go by in a state. -/
def presentSet (s : State) : FusionSet := { regs := s.regs.filter (fun e => blockOf e.1 == some .FUS), set := yardSet s }

/-- The state seen with another set for streams and fusion. -/
def withSet (v : FusionSet) (s : State) : State :=
  { s with regs := giveFus v.regs s.regs, sets := { s.sets with running := v.set, yardAhead := none } }

/-- The map is computed from the present height map (R307). -/
def remap (s : State) : State :=
  { s with fus := { s.fus with
    hmapInForce := (upFrom 0 128).map (fun n => sx 16 (bitsAt (s.reg (Reg.FUS_HMAP (n / 2))) (16 * (n % 2)) 16)) } }

/-- Tiles are kept where the new source names the same join number and slot (R326); what feeds a cell is gathered anew (R318). -/
def fusionAfter (before s : State) : State :=
  let same := fun k =>
    s.flag (F.FUS_SRC_EN k) && before.get (F.FUS_SRC_JOIN k) == s.get (F.FUS_SRC_JOIN k) &&
      before.get (F.FUS_SRC_SLOT k) == s.get (F.FUS_SRC_SLOT k)
  remap { s with fus := { s.fus with
    tiles := s.fus.tiles.filter (fun e => same e.1), states := s.fus.states.filter (fun e => same e.1), fed := [] } }

/-- A throw holds streams and fusion to the set before it until the next frame boundary, and a frame in progress to its end (R250,
R326). -/
def holdFusion (before s : State) : State :=
  let v := s.fus.held.getD (presentSet before)
  { s with fus := { s.fus with
    held := some v, heldFrom := deviceTime s, frame := s.fus.frame.map (fun f => { f with under := some (f.under.getD v) }) } }

/-- FRAME_PERIOD in ns (R317). -/
def framePeriod (s : State) : Nat := s.get F.FUS_CFG_FRAME_PERIOD * 100 * us

/-- A throw takes effect in streams and fusion once a frame boundary has come since (R326). DEDUCED: the boundary is one of the set that
is still in force for them (log entry 180). -/
def settleFusion (s : State) : State :=
  match s.fus.held with
  | none => s
  | some v =>
    let before := withSet v s
    let p := framePeriod before
    if p ≠ 0 ∧ deviceTime s < ceilDiv s.fus.heldFrom p * p then s
    else fusionAfter before { s with fus := { s.fus with held := none } }

/-- The state as streams and fusion see it. -/
def fusionView (s : State) : State :=
  match s.fus.held with
  | none => s
  | some v => withSet v s

/-- What is done on the set by which streams and fusion go. -/
def underHeld (f : State → State) (s : State) : State :=
  let s := settleFusion s
  match s.fus.held with
  | none => f s
  | some v => withSet (presentSet s) (f (withSet v s))

/-- STATE of a stream (R335). -/
def stUnused : Nat := 0
def stRunning : Nat := 1
def stLost : Nat := 2
def stReconnecting : Nat := 3
def stRetired : Nat := 4

/-- A stream is in the retirement list (R284). -/
def streamRetired (s : State) (i : Nat) : Bool := isRetired 3 i 0 s

/-- A camera or lidar stream that runs. -/
def watchedStream (s : State) (i : Nat) : Bool :=
  s.die.yardUp && !streamRetired s i && (s.get (F.FUS_STR_CFG_KIND i) == 1 || s.get (F.FUS_STR_CFG_KIND i) == 2)

/-- No frame or sweep has arrived for tSTREAM_LOSS (R283). -/
def inputMissing (s : State) (i : Nat) : Bool :=
  watchedStream s i && (stream s i).reconnectAt.isNone && decide (max (stream s i).lastInput s.fus.since + 200 * ms ≤ s.now)

/-- STATE of a stream slot (R335): retired while it stands in the retirement list, unused without a source, lost from the loss to its
reconnect. -/
def streamState (s : State) (i : Nat) : Nat :=
  if streamRetired s i then stRetired
  else if s.get (F.FUS_STR_CFG_KIND i) = 0 then stUnused
  else if s.get (F.FUS_STR_STATE_STATE i) = stReconnecting then stReconnecting
  else if inputMissing s i then stLost
  else stRunning

/-- An input is passed over (R278, R299). -/
def skipInput (i : Nat) (s : State) : State := s.bump (F.FUS_STR_STATE_SKIPS i) 1

/-! ### Models (R292–R303) -/

/-- Fields of a model container (R292). -/
def mMagic (b : Bytes) : Nat := fieldAt b 0 2
def mMajor (b : Bytes) : Nat := fieldAt b 3 1
def mKind (b : Bytes) : Nat := fieldAt b 4 1
def mBinding (b : Bytes) : Nat := fieldAt b 5 1
def mLen (b : Bytes) : Nat := fieldAt b 8 4
def mOffset (b : Bytes) : Nat := fieldAt b 12 4
def mShape (b : Bytes) (off : Nat) : List Nat := (upFrom 0 4).map (fun i => fieldAt b (off + 2 * i) 2)
def mIn (b : Bytes) : List Nat := mShape b 20
def mOut (b : Bytes) : List Nat := mShape b 28
def mRate (b : Bytes) : Nat := fieldAt b 36 2
def mGraph (b : Bytes) : Bytes := (b.drop 64).take (mLen b)

/-- The header is in range (R301). -/
def modelHeaderOk (b : Bytes) : Bool :=
  mMagic b == 0x5A4D && mMajor b == 1 && decide (1 ≤ mKind b) && decide (mKind b ≤ 4) &&
    mOffset b == 64 && decide (1 ≤ mLen b) && decide (mLen b ≤ 62914560)

/-- The states of MODEL_INFO that depend on the container alone (R302, R303): 2 valid, 3 format fault, 4 operator
fault. -/
def modelCheck (b : Bytes) : Nat :=
  if !modelHeaderOk b || crc32c (mGraph b) != fieldAt b 56 4 then 3
  else
    match Config.graphOf (mGraph b) with
    | none => 3
    | some g => if graphMeets g (mIn b) (mOut b) then 2 else 4

/-- The model container of an instance in a set. -/
def modelIn (c : Option Container) (inst : Nat) : Option Bytes :=
  match c with
  | none => none
  | some c =>
    match findSection c 0x11 inst with
    | none => none
    | some x => some (sectionData c x)

/-- The model of a stream in the running set. -/
def streamModel (s : State) (i : Nat) : Option Bytes := modelIn (yardSet s) (s.get (F.FUS_STR_CFG_MODEL i))

/-- The input shape that a slot's mode and registers ask of its model, and its output shape (R304, R305, R308), where
reg gives the registers of a set. -/
def streamShapes (reg : Fld → Nat) (i : Nat) : List Nat × List Nat :=
  let w := reg (F.FUS_STR_WIN_W i)
  let h := reg (F.FUS_STR_WIN_H i)
  let k := reg (F.FUS_STR_CFG_KIND i)
  if k = 1 then
    let iw := reg (F.FUS_PRJ_IMG_IMG_W i)
    let ih := reg (F.FUS_PRJ_IMG_IMG_H i)
    let st := 2 ^ reg (F.FUS_PRJ_FEAT_STRIDE_LOG2 i)
    ([1, 1, ih, iw], [1, 17, ceilDiv ih st, ceilDiv iw st])
  else if k = 2 then ([1, 8, h, w], [1, 17, h, w])
  else ([1, 1, 1, 2 ^ reg (F.FUS_STR_CFG_BLOCK_LOG2 i)], [1, 17, 1, w])

/-! ### Projection (R304–R311) -/

/-- The rotation matrix of the quaternion of a slot in binary32, entry (a, b). -/
def rotEntry (w x y z : Option Dyadic) (a b : Nat) : Option Dyadic :=
  let one := fixed 1 0
  let two := fixed 2 0
  let diag := fun p q => fSub one (fMul two (fAdd (fMul p p) (fMul q q)))
  let plus := fun p q r t => fMul two (fAdd (fMul p q) (fMul r t))
  let minus := fun p q r t => fMul two (fSub (fMul p q) (fMul r t))
  if a = 0 ∧ b = 0 then diag y z
  else if a = 0 ∧ b = 1 then minus x y w z
  else if a = 0 ∧ b = 2 then plus x z w y
  else if a = 1 ∧ b = 0 then plus x y w z
  else if a = 1 ∧ b = 1 then diag x z
  else if a = 1 ∧ b = 2 then minus y z w x
  else if a = 2 ∧ b = 0 then minus x z w y
  else if a = 2 ∧ b = 1 then plus y z w x
  else diag x y

/-- Steps 2 to 9 of R305 from P in units of 0.1 mm: the feature pixel of a point, none where it is not seen. -/
def projectPoint (s : State) (i : Nat) (px py pz : Int) (wf hf : Nat) : Option (Nat × Nat) :=
  let q := fun f => fixed (s.gets f) 30
  let qw := q (F.FUS_PRJ_QW_QW i)
  let qx := q (F.FUS_PRJ_QX_QX i)
  let qy := q (F.FUS_PRJ_QY_QY i)
  let qz := q (F.FUS_PRJ_QZ_QZ i)
  let dx := fRat (px - s.gets (F.FUS_PRJ_TX_TX i)) 10000
  let dy := fRat (py - s.gets (F.FUS_PRJ_TY_TY i)) 10000
  let dz := fRat (pz - s.gets (F.FUS_PRJ_TZ_TZ i)) 10000
  let row := fun b =>
    fAdd (fAdd (fMul (rotEntry qw qx qy qz 0 b) dx) (fMul (rotEntry qw qx qy qz 1 b) dy)) (fMul (rotEntry qw qx qy qz 2 b) dz)
  match row 2 with
  | none => none
  | some cz =>
    if fLess cz 1 10 then none
    else
      let xn := fDiv (row 0) (some cz)
      let yn := fDiv (row 1) (some cz)
      let k := fun f => fixed (s.gets f) 28
      let two := fixed 2 0
      let r2 := fAdd (fMul xn xn) (fMul yn yn)
      let r4 := fMul r2 r2
      let r6 := fMul r4 r2
      let g := fAdd (fAdd (fAdd (fixed 1 0) (fMul (k (F.FUS_PRJ_K1_K1 i)) r2)) (fMul (k (F.FUS_PRJ_K2_K2 i)) r4))
        (fMul (k (F.FUS_PRJ_K3_K3 i)) r6)
      let p1 := k (F.FUS_PRJ_P1_P1 i)
      let p2 := k (F.FUS_PRJ_P2_P2 i)
      let xd := fAdd (fAdd (fMul xn g) (fMul (fMul (fMul two p1) xn) yn)) (fMul p2 (fAdd r2 (fMul two (fMul xn xn))))
      let yd := fAdd (fAdd (fMul yn g) (fMul p1 (fAdd r2 (fMul two (fMul yn yn))))) (fMul (fMul (fMul two p2) xn) yn)
      let u := fAdd (fMul (fixed (s.get (F.FUS_PRJ_FX_FX i)) 16) xd) (fixed (s.gets (F.FUS_PRJ_CX_CX i)) 16)
      let v := fAdd (fMul (fixed (s.get (F.FUS_PRJ_FY_FY i)) 16) yd) (fixed (s.gets (F.FUS_PRJ_CY_CY i)) 16)
      let st : Nat := 2 ^ s.get (F.FUS_PRJ_FEAT_STRIDE_LOG2 i)
      let half := fixed ((st : Int) - 1) 1
      match fDiv (fSub u half) (fixed st 0), fDiv (fSub v half) (fixed st 0) with
      | some a, some b =>
        let fu := fRound a
        let fv := fRound b
        if fu < 0 ∨ fv < 0 ∨ fu ≥ (wf : Int) ∨ fv ≥ (hf : Int) then none else some (fu.toNat, fv.toNat)
      | _, _ => none

/-- The cells of a slot's window, in the order j, then i, ascending; process cells for the process grid. -/
def windowCells (s : State) (i : Nat) : List (Nat × Nat) :=
  let x0 := s.get (F.FUS_STR_WIN_X0 i)
  let w := s.get (F.FUS_STR_WIN_W i)
  (upFrom (s.get (F.FUS_STR_WIN_Y0 i)) (s.get (F.FUS_STR_WIN_H i))).flatMap (fun j => (upFrom x0 w).map (fun c => (c, j)))

/-- AHEAD_X0 in 0.1 mm and GROUND_Z in mm (R331). -/
def aheadX0 (s : State) : Int := s.gets F.FUS_GRID_AHEAD_X0 * 100
def groundZ (s : State) : Int := s.gets F.FUS_GRID_GROUND_Z

/-- The cell-to-pixel map of a PROJECT camera stream under the map in force (R305, R307): cell, column, row. -/
def pixelMap (s : State) (i wf hf : Nat) : List (Nat × Nat × Nat) :=
  (windowCells s i).flatMap (fun (c, j) =>
    let z := groundZ s + (if s.flag (F.FUS_STR_CFG_HEIGHT i) then nth s.fus.hmapInForce (j / 8 * 16 + c / 12) 0 else 0)
    match projectPoint s i (aheadX0 s + 1000 * j + 500) (96000 - 1000 * (c : Int) - 500) (z * 10) wf hf with
    | none => []
    | some (u, v) => [(j * 192 + c, u, v)])

/-- Element (channel, row, column) of the output tensor of a model with these dimensions. -/
def outAt (raw : List Int) (h w ch r c : Nat) : Int := nth raw (ch * h * w + r * w + c) 0

/-- The confidence of a seen cell from channel 16 (R291, R294). -/
def seenConf (v : Int) : Nat := max 1 (v + 128).toNat

/-- A placed cell from one feature pixel. -/
def placeFrom (raw : List Int) (h w cell r c : Nat) : Placed :=
  { cell := cell, conf := seenConf (outAt raw h w 16 r c), feat := (upFrom 0 16).map (fun ch => outAt raw h w ch r c) }

/-- The used entries of a transform table: SRC_U, SRC_V, CELL, WEIGHT (R310). -/
def transformEntries (b : Bytes) : List (Nat × Nat × Nat × Nat) :=
  (upFrom 0 (b.length / 8)).flatMap (fun i =>
    let e := (b.drop (8 * i)).take 8
    if fieldAt e 6 1 = 0 then [] else [(fieldAt e 0 2, fieldAt e 2 2, bitsAt (fieldAt e 4 2) 0 14, fieldAt e 6 1)])

/-- The mean of a channel over a region of feature pixels (R311). -/
def regionMean (raw : List Int) (h w ch u v rw rh : Nat) : Int :=
  roundDiv (((upFrom v rh).flatMap (fun r => (upFrom u rw).map (fun c => outAt raw h w ch r c))).foldl (· + ·) 0) (rw * rh)

/-- The weighted value of a channel over the entries that name a cell (R311). -/
def weightedMean (raw : List Int) (h w ch rw rh : Nat) (es : List (Nat × Nat × Nat × Nat)) : Int :=
  roundDiv ((es.map (fun e => (e.2.2.2 : Int) * regionMean raw h w ch e.1 e.2.1 rw rh)).foldl (· + ·) 0)
    ((es.map (fun e => e.2.2.2)).foldl (· + ·) 0)

/-- Distinct elements of a list of numbers, first occurrences. -/
def distinct : List Nat → List Nat
  | [] => []
  | a :: l => a :: (distinct l).filter (fun b => b != a)

/-- The cells of a privileged stream (R311). -/
def transformPlace (s : State) (n : Nat) (raw : List Int) (h w : Nat) : List Placed :=
  let es := transformEntries ((runningTable s 0x05 n).getD [])
  let rw := s.get (F.FUS_TBL_REG_W1 n) + 1
  let rh := s.get (F.FUS_TBL_REG_H1 n) + 1
  (distinct (es.map (fun e => e.2.2.1))).map (fun c =>
    let mine := es.filter (fun e => e.2.2.1 == c)
    { cell := c, conf := seenConf (weightedMean raw h w 16 rw rh mine),
      feat := (upFrom 0 16).map (fun ch => weightedMean raw h w ch rw rh mine) })

/-- The output of a stream's model placed on its grid (R305, R308, R309, R311). -/
def placeOutput (s : State) (i : Nat) (v : Invocation) (raw : List Int) (out : List Nat) : List Placed :=
  let h := nth out 2 0
  let w := nth out 3 0
  let mode := s.get (F.FUS_STR_CFG_MODE i)
  if mode = 2 then transformPlace s (i - 16) raw h w
  else if mode = 1 then
    if s.get (F.FUS_STR_CFG_KIND i) = 1 then v.pix.map (fun (c, fu, fv) => placeFrom raw h w c fv fu)
    else
      let x0 := s.get (F.FUS_STR_WIN_X0 i)
      let y0 := s.get (F.FUS_STR_WIN_Y0 i)
      v.input.seen.map (fun c => placeFrom raw h w c (c / 192 - y0) (c % 192 - x0))
  else (upFrom 0 w).map (fun k => placeFrom raw h w (s.get (F.FUS_STR_WIN_X0 i) + k) 0 k)

/-! ### Invocations (R299) -/

/-- A model invocation starts on an input (R299, R307). -/
def startInvocation (i : Nat) (b : Bytes) (x : StreamInput) (s : State) : State :=
  let out := mOut b
  let pix :=
    if s.get (F.FUS_STR_CFG_KIND i) = 1 ∧ s.get (F.FUS_STR_CFG_MODE i) = 1 then pixelMap s i (nth out 3 0) (nth out 2 0)
    else []
  modStream i (fun y => { y with running := some { input := x, graph := mGraph b, pix := pix },
                                 lastUsed := some x.stamp, waiting := none }) s

/-- An input of a stream is at least 1/MAX_RATE after the last one its model used (R299). -/
def rateAllows (p : StreamPart) (rate stamp : Nat) : Bool :=
  match p.lastUsed with
  | none => true
  | some l => decide (l * rate + sec ≤ stamp * rate)

/-- An input is offered to a stream's model (R299). -/
def offerInput (i : Nat) (x : StreamInput) (s : State) : State :=
  match streamModel s i with
  | none => s
  | some b =>
    if !rateAllows (stream s i) (mRate b) x.stamp then skipInput i s
    else if (stream s i).running.isSome then
      let s := if (stream s i).waiting.isSome then skipInput i s else s
      modStream i (fun y => { y with waiting := some x }) s
    else startInvocation i b x s

/-- The invocation of a stream completes (R304): its output is placed and its serial advances; the input that waits is
taken if the rate allows it. -/
def invocationDone (i : Nat) (s : State) : State :=
  match (stream s i).running with
  | none => s
  | some v =>
    let out := match streamModel s i with
      | some b => mOut b
      | none => []
    let n := out.foldl (· * ·) 1
    let y := graphOutput v.graph v.input.tensor
    let raw := (upFrom 0 n).map (fun k => nth y k 0)
    let cells := placeOutput s i v raw out
    let serial := ((stream s i).serial + 1) % 65536
    let s := modStream i (fun y => { y with
      running := none, serial := serial, sent := [],
      newest := some { stamp := v.input.stamp, serial := serial, cells := cells, raw := raw } }) s
    let s := unitArrives i 2 v.input.stamp (fun _ => int8Bytes raw) s
    match (stream s i).waiting, streamModel s i with
    | some x, some b =>
      if rateAllows (stream s i) (mRate b) x.stamp then startInvocation i b x s
      else skipInput i (modStream i (fun y => { y with waiting := none }) s)
    | _, _ => s

/-! ### Arrival, loss and retirement (R274, R283, R284) -/

/-- The stream takes the stamp and the sensor's time of an input (R274, R276). -/
def stampInput (i stamp stime : Nat) (s : State) : State :=
  (s.put64 (Reg.FUS_STR_STAMP_LO i) (Reg.FUS_STR_STAMP_HI i) stamp).put64 (Reg.FUS_STR_STIME_LO i) (Reg.FUS_STR_STIME_HI i) stime

/-- Input arrives on a camera or lidar stream: a reconnect that it ends succeeds (R284). -/
def inputArrives (i : Nat) (s : State) : State :=
  let s := modStream i (fun y => { y with lastInput := s.now }) s
  match (stream s i).reconnectAt with
  | none => s
  | some _ =>
    let s := modStream i (fun y => { y with reconnectAt := none, returnedAt := some s.now }) s
    let s := s.put (F.FUS_STR_STATE_STATE i) stRunning
    raise Src.FUS_STREAM_RECONNECTED i (fault 0x18 1 Src.FUS_STREAM_RECONNECTED i 0 0 0 s)

/-- A stream is retired (R284). -/
def retireStream (i : Nat) (s : State) : State :=
  let s := modStream i (fun y => { y with reconnectAt := none, running := none, waiting := none, newest := none }) s
  let s := closeDataOfSlot i (retire 3 0 i 0 s)
  raise Src.FUS_STREAM_RETIRED i (fault 0x19 2 Src.FUS_STREAM_RETIRED i 0 0 0 (s.put (F.FUS_STR_STATE_STATE i) stRetired))

/-- One reconnect is made (R283); the power of a camera is applied once more (R803). -/
def reconnect (i : Nat) (s : State) : State :=
  let s := modStream i (fun y => { y with reconnectAt := some s.now }) s
  let s := if s.get (F.FUS_STR_CFG_KIND i) = 1 then s.putBit F.PWR_OUT_STAT_CAM_LIMIT (s.get (F.FUS_STR_CFG_INDEX i)) false else s
  (s.put (F.FUS_STR_STATE_STATE i) stReconnecting).bump (F.FUS_STR_STATE_RECONNECTS i) 1

/-- tSTREAM_LOSS without a frame or sweep (R283); a stream lost again within tRETIRE_WIN of a successful reconnect is
retired (R284). -/
def streamLost (i : Nat) (s : State) : State :=
  let p := stream s i
  if !inputMissing s i then s
  else
    let s := raise Src.FUS_STREAM_LOST i s
    match p.returnedAt with
    | some r => if s.now ≤ r + 10 * sec then retireStream i s else reconnect i s
    | none => reconnect i s

/-- tRECONNECT after a reconnect without input (R284). -/
def streamExpired (i : Nat) (s : State) : State :=
  match (stream s i).reconnectAt with
  | none => s
  | some r => if watchedStream s i && decide (r + 500 * ms ≤ s.now) then retireStream i s else s

/-- A reconnect has brought no input within tRECONNECT: the stream is to be retired (R284). -/
def reconnectOver (s : State) (i : Nat) : Bool :=
  match (stream s i).reconnectAt with
  | none => false
  | some r => decide (r + 500 * ms < s.now)

/-- A stream takes input: its Yard die is in service, it is not retired, and no reconnect of it has failed (R52, R284, R285). -/
def takesInput (s : State) (i kind index : Nat) : Bool :=
  s.die.yardUp && !streamRetired s i && !reconnectOver s i && s.get (F.FUS_STR_CFG_KIND i) == kind && s.get (F.FUS_STR_CFG_INDEX i) == index

/-- The tensor of a camera frame (R277). -/
def cameraTensor (w : Nat) : Pixels → List Int
  | .raw10 p => p.map (fun v => (v / 4 : Nat))
  | .raw12 p => p.map (fun v => (v / 16 : Nat))
  | .yuv422 y u v =>
    let wide := fun (l : List Nat) =>
      (upFrom 0 (y.length / max 1 w)).flatMap (fun r => (upFrom 0 w).map (fun c => ((nth l (r * ((w + 1) / 2) + c / 2) 0 : Nat) : Int)))
    y.map (fun v => Int.ofNat v) ++ wide u ++ wide v

/-- A frame larger than the largest that the camera inputs support, 3,840 × 2,160 (R277). -/
def largerThanLargest (lines len : Nat) : Bool := decide (2160 < lines) || decide (3840 < len)

/-- A camera frame for one slot (R274, R278, R299). A TABLE slot has no FUS_PRJ_IMG, so its frame has the size of its
model's input. -/
def cameraFrameFor (cam lines len stime : Nat) (px : Pixels) (stamp : Nat) (s : State) (i : Nat) : State :=
  if !takesInput s i 1 cam then s
  else
    let s := inputArrives i s
    let size := if i < 16 then (s.get (F.FUS_PRJ_IMG_IMG_H i), s.get (F.FUS_PRJ_IMG_IMG_W i))
      else match streamModel s i with
        | some b => (nth (mIn b) 2 0, nth (mIn b) 3 0)
        | none => (lines, len)
    if (lines, len) ≠ size ∨ largerThanLargest lines len = true then skipInput i s
    else
      let x := cameraTensor len px
      offerInput i { stamp := stamp, tensor := x, seen := [] }
        (unitArrives i 1 stamp (cropTensor lines len x) (stampInput i stamp stime s))

/-- A camera frame (R274). A frame of another virtual channel than 0 is discarded. DESIGN CHOICE: one larger than the largest that the
inputs support is discarded and counted in SKIPS, whatever the size of the slot is (R277, R278; log entry 181). -/
def cameraFrame (cam lines len stime : Nat) (px : CameraData) (s : State) : State :=
  if px.channel ≠ 0 then s
  else foldOver (cameraFrameFor cam lines len stime px.pixels (deviceTime s)) s (upFrom 0 20)

/-! ### Lidar (R279, R308) -/

/-- The rotation matrix entry of a slot's quaternion, exact, in units of 2^−60. -/
def rotExact (s : State) (i a b : Nat) : Int :=
  let w := s.gets (F.FUS_PRJ_QW_QW i)
  let x := s.gets (F.FUS_PRJ_QX_QX i)
  let y := s.gets (F.FUS_PRJ_QY_QY i)
  let z := s.gets (F.FUS_PRJ_QZ_QZ i)
  let one : Int := 2 ^ 60
  if a = 0 ∧ b = 0 then one - 2 * (y * y + z * z)
  else if a = 0 ∧ b = 1 then 2 * (x * y - w * z)
  else if a = 0 ∧ b = 2 then 2 * (x * z + w * y)
  else if a = 1 ∧ b = 0 then 2 * (x * y + w * z)
  else if a = 1 ∧ b = 1 then one - 2 * (x * x + z * z)
  else if a = 1 ∧ b = 2 then 2 * (y * z - w * x)
  else if a = 2 ∧ b = 0 then 2 * (x * z - w * y)
  else if a = 2 ∧ b = 1 then 2 * (y * z + w * x)
  else one - 2 * (x * x + y * y)

/-- A coordinate of a lidar point in the machine frame, in units of 0.1 mm / 2^60 (R308). -/
def lidarCoord (s : State) (i a : Nat) (p : Int × Int × Int × Nat) : Int :=
  10 * (rotExact s i a 0 * p.1 + rotExact s i a 1 * p.2.1 + rotExact s i a 2 * p.2.2.1) +
    s.gets (⟨Reg.FUS_PRJ_TX i + 4 * a, 0, 32⟩ : Fld) * 2 ^ 60

/-- The ahead-grid cell of a lidar point inside a slot's window, and its height over GROUND_Z in 0.1 mm / 2^60. -/
def lidarCell (s : State) (i : Nat) (p : Int × Int × Int × Nat) : Option (Nat × Int × Nat) :=
  let cellSize : Int := 1000 * 2 ^ 60
  let j := (lidarCoord s i 0 p - aheadX0 s * 2 ^ 60) / cellSize
  let c := (96000 * 2 ^ 60 - lidarCoord s i 1 p) / cellSize
  let x0 : Int := s.get (F.FUS_STR_WIN_X0 i)
  let y0 : Int := s.get (F.FUS_STR_WIN_Y0 i)
  if c < x0 ∨ c ≥ x0 + s.get (F.FUS_STR_WIN_W i) ∨ j < y0 ∨ j ≥ y0 + s.get (F.FUS_STR_WIN_H i) then none
  else some ((j * 192 + c).toNat, lidarCoord s i 2 p - groundZ s * 10 * 2 ^ 60, p.2.2.2)

/-- A number saturated to int8. -/
def sat8 (v : Int) : Int := satS 8 v

/-- The eight channels of a cell from its points: height and intensity of each (R308). -/
def lidarChannel (l : List (Int × Nat)) (ch : Nat) : Int :=
  let unit : Nat := 400 * 2 ^ 60
  match l with
  | [] => 0
  | (z0, i0) :: rest =>
    let zs := z0 :: rest.map (·.1)
    let is := i0 :: rest.map (·.2)
    if ch = 0 then sat8 l.length
    else if ch = 1 then sat8 (roundDiv (zs.foldl min z0) unit)
    else if ch = 2 then sat8 (roundDiv (zs.foldl max z0) unit)
    else if ch = 3 then sat8 (roundDiv (zs.foldl (· + ·) 0) (unit * l.length))
    else if ch = 4 then sat8 (roundDiv ((is.foldl (· + ·) 0 : Nat) : Int) (2 * l.length))
    else if ch = 5 then sat8 (roundDiv ((is.foldl max i0 : Nat) : Int) 2)
    else 0

/-- A sweep as the input of a lidar slot (R308). -/
def sweepInput (s : State) (i stamp : Nat) (pts : List (Int × Int × Int × Nat)) : StreamInput :=
  let binned := pts.filterMap (lidarCell s i)
  let cells := (windowCells s i).map (fun (c, j) => j * 192 + c)
  let at_ := fun c => (binned.filter (fun e => e.1 == c)).map (fun e => (e.2.1, e.2.2))
  { stamp := stamp, tensor := (upFrom 0 8).flatMap (fun ch => cells.map (fun c => lidarChannel (at_ c) ch)),
    seen := cells.filter (fun c => !(at_ c).isEmpty) }

/-- The points of a datagram (R279). -/
def datagramPoints (s : State) (d : Bytes) : List (Int × Int × Int × Nat) :=
  let stride := s.get F.FUS_LIDAR_FMT_STRIDE
  let body := d.drop (s.get F.FUS_LIDAR_FMT_HDR_LEN)
  let xo := s.get F.FUS_LIDAR_FMT_XYZ_OFF
  if stride = 0 then []
  else
    ((upFrom 0 (body.length / stride)).map (fun k =>
      let p := (body.drop (k * stride)).take stride
      (sfieldAt p xo 4, sfieldAt p (xo + 4) 4, sfieldAt p (xo + 8) 4, fieldAt p (s.get F.FUS_LIDAR_FMT_I_OFF) 1))).filter
      (fun p => !(p.1 == 0 && p.2.1 == 0 && p.2.2.1 == 0))

/-- The sensor's time of a sweep (R276). -/
def sweepTime (s : State) (d : Bytes) : Nat :=
  let o := s.get F.FUS_LIDAR_STIME_STIME_OFF
  if o = 0xFF then 0 else fieldAt d o 8

/-- A whole sweep is offered to one lidar slot. -/
def sweepFor (s : State) (i : Nat) : State :=
  if !takesInput s i 2 0 then s
  else
    let w := s.fus.sweep
    offerInput i (sweepInput s i w.stamp w.points)
      (unitArrives i 1 w.stamp (fun _ => w.raw) (stampInput i w.stamp w.stime (inputArrives i s)))

/-- A datagram on the SENSOR port (R279, R280). -/
def lidarDatagram (port : Nat) (d : Bytes) (s : State) : State :=
  if !s.die.yardUp || port != s.get F.FUS_LIDAR_PORT_UDP_PORT then s
  else
    let w := s.fus.sweep
    let w := if w.packets = 0 then { w with stamp := deviceTime s, stime := sweepTime s d } else w
    let w := { w with packets := w.packets + 1, points := w.points ++ datagramPoints s d, raw := w.raw ++ d }
    let s := { s with fus := { s.fus with sweep := w } }
    if w.packets < s.get F.FUS_LIDAR_PORT_SWEEP_PKTS then s
    else
      let s := foldOver sweepFor s (upFrom 0 16)
      { s with fus := { s.fus with sweep := {} } }

/-! ### DIRECT blocks (R282) -/

/-- A sample of a DIRECT stream as int8 (R282). -/
def directSample (kind shift : Nat) (v : Int) : Int :=
  let v := if kind = 5 then v else v - 32768
  sat8 (v / ((2 ^ shift : Nat) : Int))

/-- A DIRECT stream in a slot takes the samples of an input of a kind, while the Crossover carries them (R276, R282). -/
def gathers (s : State) (kind index i : Nat) : Bool := takesInput s i kind index && s.die.xoUp

/-- A raw sample of an input goes to the DIRECT streams that gather it. -/
def gatherSample (kind index : Nat) (v : Int) (stamp : Nat) (s : State) : State :=
  foldOver (fun s i =>
    if gathers s kind index i then modStream i (fun y => { y with gathered := y.gathered ++ [(v, stamp)] }) s else s) s (upFrom 0 16)

/-- A DIRECT stream has gathered 2^BLOCK_LOG2 samples: they are a block, stamped as its last sample (R274, R282). -/
def directBlock (i : Nat) (s : State) : State :=
  let k := s.get (F.FUS_STR_CFG_KIND i)
  let e := s.get (F.FUS_STR_CFG_BLOCK_LOG2 i)
  let l := (stream s i).gathered.take (2 ^ e)
  if !s.die.yardUp || streamRetired s i || !(k == 3 || k == 4 || k == 5) || e < 4 || 12 < e || l.length < 2 ^ e then s
  else
    let stamp := (l.getLastD (0, 0)).2
    let s := modStream i (fun y => { y with gathered := y.gathered.drop (2 ^ e) }) s
    let s := s.put64 (Reg.FUS_STR_STAMP_LO i) (Reg.FUS_STR_STAMP_HI i) stamp
    let s := unitArrives i 1 stamp (fun _ => l.flatMap (fun x => leBytes 2 (toBits 16 x.1))) s
    offerInput i { stamp := stamp, tensor := l.map (fun x => directSample k (s.get (F.FUS_STR_CFG_SHIFT i)) x.1), seen := [] } s

/-! ### Feature tiles (R312–R316) -/

/-- The tile positions of a stream: POS and CELLS, ascending (R313, R314). -/
def tilePositions (s : State) (i : Nat) : List (Nat × Nat) :=
  let x0 := s.get (F.FUS_STR_WIN_X0 i)
  let w := s.get (F.FUS_STR_WIN_W i)
  if s.get (F.FUS_STR_CFG_GRID i) = 1 then
    (upFrom 0 (ceilDiv w 16)).map (fun k => (x0 + 16 * k, min 16 (w - 16 * k)))
  else
    (upFrom (s.get (F.FUS_STR_WIN_Y0 i) / 4) (s.get (F.FUS_STR_WIN_H i) / 4)).flatMap (fun ty =>
      (upFrom (x0 / 4) (w / 4)).map (fun tx => (ty * 48 + tx, 16)))

/-- The cell indices of a tile, in its order (R313). -/
def tileCells (grid pos n : Nat) : List Nat :=
  if grid = 1 then upFrom pos n
  else (upFrom 0 n).map (fun k => (pos / 48 * 4 + k / 4) * 192 + pos % 48 * 4 + k % 4)

/-- The tile of a position from an output; a cell not placed has confidence 0. -/
def tileOf (o : StreamOutput) (grid pos n : Nat) : Tile :=
  { pos := pos, grid := grid, stamp := o.stamp, serial := o.serial,
    cells := (tileCells grid pos n).map (fun c =>
      (o.cells.find? (fun p => p.cell == c)).getD { cell := c, conf := 0, feat := List.replicate 16 0 }) }

/-- Bytes of a tile record (R313). -/
def tileBytes (slot : Nat) (t : Tile) : Bytes :=
  let b := leBytes 2 t.pos ++ leBytes 1 t.cells.length ++ leBytes 1 t.grid ++ leBytes 8 t.stamp ++ leBytes 2 t.serial ++
    leBytes 1 slot ++ [0#8] ++ t.cells.map (fun c => BitVec.ofNat 8 c.conf) ++
    t.cells.flatMap (fun c => c.feat.map (fun v => BitVec.ofInt 8 v))
  padTo ((b.length + 3) / 4 * 4) b

/-- Bytes of a record of n cells. -/
def recordSize (n : Nat) : Nat := (16 + 17 * n + 3) / 4 * 4

/-- The positions that go into a region with room, in rotation from an index on, those already sent passed over (R314);
with the index after the last one taken. -/
def pickTiles (ps : List (Nat × Nat)) (sent : List Nat) : Nat → Nat → Nat → List (Nat × Nat) × Nat
  | 0, idx, _ => ([], idx)
  | fuel + 1, idx, room =>
    match ps[idx % max 1 ps.length]? with
    | none => ([], idx)
    | some (pos, n) =>
      if sent.contains pos then
        let (l, e) := pickTiles ps sent fuel (idx + 1) room
        (l, if l.isEmpty then idx else e)
      else if recordSize n ≤ room then
        let (l, e) := pickTiles ps (pos :: sent) fuel (idx + 1) (room - recordSize n)
        ((pos, n) :: l, if l.isEmpty then (idx + 1) % max 1 ps.length else e)
      else ([], idx)

/-- The region of a stream for this cycle: its tiles, and the stream with its rotation advanced (R312, R314). -/
def fillRegion (s : State) (i : Nat) : List Tile × StreamPart :=
  let p := { stream s i with seq := ((stream s i).seq + 1) % 65536 }
  match p.newest with
  | none => ([], p)
  | some o =>
    if streamRetired s i then ([], p)
    else
      let v := fusionView s
      let ps := tilePositions v i
      let (l, nxt) := pickTiles ps p.sent ps.length p.nextPos (4 * s.get (F.FUS_STR_LINE_WORDS i) - 8)
      (l.map (fun (pos, n) => tileOf o (v.get (F.FUS_STR_CFG_GRID i)) pos n),
        { p with sent := l.map (·.1) ++ p.sent, nextPos := nxt })

/-- The bytes of a region (R312). -/
def regionBytes (s : State) (i seq : Nat) (l : List Tile) : Bytes :=
  leBytes 1 l.length ++ leBytes 1 (streamState s i) ++ leBytes 2 seq ++ leBytes 4 ((fusionView s).reg Reg.FUS_GRID) ++ l.flatMap (tileBytes i)

/-- A tile record read from bytes: its slot, the tile and its size (R313). -/
def readTile (b : Bytes) : Nat × Tile × Nat :=
  let n := fieldAt b 2 1
  let grid := fieldAt b 3 1
  let pos := fieldAt b 0 2
  let cells := (upFrom 0 n).map (fun k =>
    ({ cell := nth (tileCells grid pos n) k 0, conf := fieldAt b (16 + k) 1,
       feat := (upFrom 0 16).map (fun f => sfieldAt b (16 + n + 16 * k + f) 1) } : Placed))
  (fieldAt b 14 1, { pos := pos, grid := grid, stamp := fieldAt b 4 8, serial := fieldAt b 12 2, cells := cells }, recordSize n)

/-- n tile records read one after another. -/
def readTiles : Nat → Bytes → List (Nat × Tile)
  | 0, _ => []
  | n + 1, b =>
    let (slot, t, size) := readTile b
    (slot, t) :: readTiles n (b.drop size)

/-- A source of this module's fusion: enabled, with this join number, slot (R315, R340). -/
def sourceFor (s : State) (join slot : Nat) : Option Nat :=
  (upFrom 0 128).find? (fun k => s.flag (F.FUS_SRC_EN k) && s.get (F.FUS_SRC_JOIN k) == join && s.get (F.FUS_SRC_SLOT k) == slot)

/-- Number of a cell over both grids. -/
def cellNo (grid c : Nat) : Nat := 12288 * grid + c

/-- A tile is accepted for a source, in place of its older one at that position (R315, R318). -/
def acceptTile (k : Nat) (t : Tile) (s : State) : State :=
  let more := (t.cells.filter (fun c => c.conf != 0)).map (fun c => 16384 * k + cellNo t.grid c.cell)
  let fed := s.fus.fed ++ more.filter (fun x => !s.fus.fed.contains x)
  { s with fus := { s.fus with
      tiles := s.fus.tiles.filter (fun e => !(e.1 == k && e.2.grid == t.grid && e.2.pos == t.pos)) ++ [(k, t)], fed := fed } }

/-- A tile that no source matches is discarded; TILE_FOREIGN at most once per frame (R315). -/
def foreignTile (s : State) : State :=
  if s.fus.foreign then s else raise0 Src.FUS_TILE_FOREIGN { s with fus := { s.fus with foreign := true } }

/-- The STATE of a region goes to the source of its slot (R312, R319). -/
def noteState (k state : Nat) (s : State) : State := { s with fus := { s.fus with states := putNum s.fus.states k state } }

/-- A region of a module's streams, at a place on the Line (1,024 × entry + word), is accepted or discarded (R312, R315). DESIGN CHOICE: no
frame carries the KIND of its sender's stream, which comes with the region; a region without tiles is that of the slot whose tiles the
place carried before (log entry 182). -/
def acceptRegion (join place kind : Nat) (b : Bytes) (s : State) : State :=
  if !(isTerminus s || isRelief s) then s
  else
    let s := settleFusion s
    let v := fusionView s
    let key := 4194304 * join + place
    let l := readTiles (fieldAt b 0 1) (b.drop 8)
    let state := fieldAt b 1 1
    let geomOk := fieldAt b 4 4 == v.reg Reg.FUS_GRID
    let slot := match l with
      | [] => lookupNum s.fus.regionSlots key
      | e :: _ => some e.1
    let s := match slot with
      | none => s
      | some x =>
        let s := { s with fus := { s.fus with regionSlots := putNum s.fus.regionSlots key x } }
        match sourceFor v join x with
        | none => s
        | some k => noteState k state s
    foldOver (fun s (x, t) =>
      match sourceFor v join x with
      | none => foreignTile s
      | some k => if geomOk && v.get (F.FUS_SRC_KIND k) == kind then acceptTile k t s else foreignTile s) s l

/-- The module's own regions of the cycle reach its fusion (R316). -/
def acceptOwnRegions (s : State) : State :=
  let l := s.fus.ownRegions
  let s := { s with fus := { s.fus with ownRegions := [] } }
  if !isTerminus s then s
  else
    let s := settleFusion s
    let v := fusionView s
    foldOver (fun s (slot, state, ts) =>
      match sourceFor v (joinNum s) slot with
      | none => foldOver (fun s _ => foreignTile s) s ts
      | some k =>
        let same := v.get (F.FUS_SRC_KIND k) == v.get (F.FUS_STR_CFG_KIND slot)
        foldOver (fun s t => if same then acceptTile k t s else foreignTile s) (noteState k state s) ts) s l

/-! ### Fusion frames (R317–R325) -/

/-- The boundary at the present device time, within the accuracy of the command's instant. -/
def frameBoundary (s : State) : Option Nat :=
  let p := framePeriod s
  if p ≠ 0 ∧ deviceTime s % p = 0 then some (deviceTime s) else none

/-- A fusion frame starts, or is skipped where the previous one is not complete (R317, R325): the ages of the cells then grow to the
boundary. Every module that accepts tiles may tell of foreign ones again (R315). -/
def fusionFrame (s : State) : State :=
  let s := settleFusion s
  match frameBoundary s with
  | none => s
  | some tb =>
    let s := { s with fus := { s.fus with foreign := false } }
    if !(isTerminus s && s.flag F.FUS_CFG_FUSE_EN && s.die.yardUp) then s
    else
      match s.fus.frame with
      | some _ => raise0 Src.FUS_FRAME_OVERRUN (State.bump { s with fus := { s.fus with agesAt := tb } } F.FUS_STATUS_OVERRUNS 1)
      | none =>
        let f : FusionFrame :=
          { tb := tb, lat := sx 64 (s.get64 Reg.GNS_LAT_LO Reg.GNS_LAT_HI), lon := sx 64 (s.get64 Reg.GNS_LON_LO Reg.GNS_LON_HI),
            hgt := sx 32 (s.reg Reg.GNS_HGT), hdg := s.get F.GNS_HDG_HEADING,
            tiles := s.fus.tiles, states := s.fus.states, fed := s.fus.fed }
        { s with fus := { s.fus with frame := some f } }

/-- The cell before any frame (R319: nothing feeds it). -/
def emptyCell : Cell :=
  { feat := List.replicate 16 0, conf := 0, age := 255 * ms, stale := false, skew := false, contra := false, empty := true,
    top := 0xFF, cur := [], disRun := 0, agreeRun := 0 }

/-- A cell of the last complete frame, by number. -/
def cellAt (s : State) (c : Nat) : Cell := nth s.fus.cells c emptyCell

/-- How much the ages of the cells have grown since their frame, ns (R325). -/
def agesGrown (s : State) : Nat := s.fus.agesAt - s.fus.tFrame

/-- AGE of a cell: whole ms, saturating (R290). -/
def ageField (grown : Nat) (x : Cell) : Nat := satN 8 ((x.age + grown) / ms)

/-- Rank of a source (R318). -/
def rankOf (s : State) (k : Nat) : Nat := s.get (F.FUS_SRC_TRUST k) + (if s.get (F.FUS_SRC_SLOT k) ≥ 16 then 16 else 0)

/-- A source put into a list ordered by descending rank, equal ranks by lower number. -/
def insertRanked (s : State) (k : Nat) : List Nat → List Nat
  | [] => [k]
  | a :: l => if rankOf s k > rankOf s a then k :: a :: l else a :: insertRanked s k l

/-- The sources used for a cell: the four of highest rank among those that feed it (R318). -/
def usedSources (s : State) (f : FusionFrame) (c : Nat) : List Nat :=
  let feeding := (upFrom 0 128).filter (fun k => f.fed.contains (16384 * k + c))
  (feeding.foldl (fun l k => insertRanked s k l) []).take 4

/-- The newest accepted tile of a source that holds a cell, with the cell's place in it. -/
def tileOfCell (f : FusionFrame) (k c : Nat) : Option (Tile × Placed) :=
  let grid := c / 12288
  match (f.tiles.filter (fun e => e.1 == k && e.2.grid == grid && e.2.cells.any (fun p => cellNo grid p.cell == c))).getLast? with
  | none => none
  | some e =>
    match e.2.cells.find? (fun p => cellNo grid p.cell == c) with
    | none => none
    | some p => some (e.2, p)

/-- limit(k) of R319 in ns. -/
def staleLimit (s : State) (k : Nat) : Nat :=
  let n := s.get (F.FUS_SRC_STALE k)
  (if n = 0 then s.get F.FUS_CFG_STALE_DEF else n) * framePeriod s

/-- The newest tile of a source that holds a cell is older than its limit (R319). -/
def pastLimit (s : State) (f : FusionFrame) (c k : Nat) : Bool :=
  match tileOfCell f k c with
  | none => true
  | some (t, _) => decide (t.stamp + staleLimit s k < f.tb)

/-- A source is dropped from a cell (R319). -/
def dropped (s : State) (f : FusionFrame) (c k : Nat) : Bool := (lookupNum f.states k).getD 0 == 4 || pastLimit s f c k

/-- The stamp and the placed value of a current source in a cell. -/
def stampIn (f : FusionFrame) (c k : Nat) : Nat :=
  match tileOfCell f k c with
  | none => 0
  | some (t, _) => t.stamp
def placedIn (f : FusionFrame) (c k : Nat) : Placed :=
  match tileOfCell f k c with
  | none => { cell := 0, conf := 0, feat := [] }
  | some (_, p) => p

/-- The least and the greatest of the stamps of sources. -/
def minStamp (f : FusionFrame) (c : Nat) : List Nat → Nat
  | [] => f.tb
  | k :: l => min (stampIn f c k) (minStamp f c l)
def maxStamp (f : FusionFrame) (c : Nat) : List Nat → Nat
  | [] => 0
  | k :: l => max (stampIn f c k) (maxStamp f c l)

/-- A kind matches the kind of a rule (R322). -/
def kindIs (kind rule : Nat) : Bool := rule == 0xF || kind == rule

/-- Two current sources disagree under a rule in a cell (R322). -/
def disagreeUnder (s : State) (f : FusionFrame) (c r a b : Nat) : Bool :=
  a != b && kindIs (s.get (F.FUS_SRC_KIND a)) (s.get (F.FUS_RULE_KIND_A r)) &&
    kindIs (s.get (F.FUS_SRC_KIND b)) (s.get (F.FUS_RULE_KIND_B r)) &&
    decide ((nth (placedIn f c a).feat (s.get (F.FUS_RULE_CHAN_A r)) 0 -
      nth (placedIn f c b).feat (s.get (F.FUS_RULE_CHAN_B r)) 0).natAbs > s.get (F.FUS_RULE_THRESH r))

/-- The first disagreeing pair of a cell, rules, then a, then b in order (R322, R324). -/
def disagreePair (s : State) (f : FusionFrame) (c : Nat) (cur : List Nat) : Option (Nat × Nat) :=
  (((upFrom 0 32).filter (fun r => s.flag (F.FUS_RULE_EN r))).flatMap (fun r =>
    cur.flatMap (fun a => (cur.filter (fun b => disagreeUnder s f c r a b)).map (fun b => (a, b))))).head?

/-- The model input of a fusion frame over one grid (R320), channel, then cell. -/
def fusionTensor (s : State) (f : FusionFrame) (cells : List Nat) : List Int :=
  let cur := cells.map (fun c => (usedSources s f c).filter (fun k => !dropped s f c k))
  let both := (cells.zip cur)
  (upFrom 0 4).flatMap (fun slot =>
    (upFrom 0 18).flatMap (fun ch =>
      both.map (fun (c, l) =>
        match l[slot]? with
        | none => if ch < 16 then 0 else -128
        | some k =>
          if ch < 16 then nth (placedIn f c k).feat ch 0
          else if ch = 16 then ((placedIn f c k).conf : Int) - 128
          else sat8 (((f.tb - stampIn f c k) / ms : Nat) - 128))))

/-- The fusion model of a grid: the first container of its KIND in the running set (R293). -/
def fusionModel (s : State) (kind : Nat) : Option Bytes :=
  match yardSet s with
  | none => none
  | some c =>
    ((directory c).filter (fun x => x.type == 0x11)).findSome? (fun x =>
      let b := sectionData c x
      if mKind b = kind then some b else none)

/-- The contradiction test of one cell (R322): the cell with its run counts and flag; true where it newly contradicts, and
where it clears. -/
def contraTest (f_ : Nat) (disagree : Bool) (x : Cell) : Cell × Bool × Bool :=
  if disagree then
    let d := min (x.disRun + 1) 15
    let new := decide (d ≥ f_) && !x.contra
    ({ x with agreeRun := 0, disRun := d, contra := x.contra || new }, new, false)
  else if x.contra then
    let a := min (x.agreeRun + 1) 15
    if a ≥ f_ then ({ x with disRun := 0, agreeRun := 0, contra := false }, false, true)
    else ({ x with disRun := 0, agreeRun := a }, false, false)
  else ({ x with disRun := 0 }, false, false)

/-- What a frame makes of one cell (R319): the new cell, and what it raises: newly contradicted with its pair, cleared, and
the sources that went stale in it. -/
structure CellResult where
  cell : Cell
  contra : Option (Nat × Nat)
  clear : Bool
  stale : List Nat
  deriving DecidableEq, Repr

/-- R319 for cell c, whose fusion model output is value and conf. An age that goes on grows by the time since the last complete frame,
which is the frame period while none is skipped (R325). -/
def fuseCell (s : State) (f : FusionFrame) (c : Nat) (modelFeat : List Int) (modelConf : Nat) : CellResult :=
  let old := cellAt s c
  let used := usedSources s f c
  let cur := used.filter (fun k => !dropped s f c k)
  let skew := decide (cur.length ≥ 2) && decide (minStamp f c cur + framePeriod s < maxStamp f c cur)
  let pair := disagreePair s f c cur
  let (x, new, clear) := contraTest (s.get F.FUS_CFG_CONTRA_FRAMES) pair.isSome old
  let base := { x with stale := decide (cur.length < used.length), skew := skew, empty := false,
                       top := cur.headD 0xFF, cur := cur }
  let cell :=
    if used.isEmpty then { base with feat := List.replicate 16 0, conf := 0, age := 255 * ms, empty := true }
    else
      match cur with
      | [] => { base with feat := old.feat, conf := 0, age := old.age + (f.tb - s.fus.tFrame) }
      | k :: _ =>
        if x.contra then
          { base with feat := (placedIn f c k).feat, conf := (placedIn f c k).conf, age := f.tb - stampIn f c k }
        else { base with feat := modelFeat, conf := modelConf, age := f.tb - minStamp f c cur }
  { cell := cell, contra := if new then pair else none, clear := clear,
    stale := used.filter (fun k => old.cur.contains k && pastLimit s f c k) }

/-- Every cell of one grid (R317–R324). -/
def fuseGrid (s : State) (f : FusionFrame) (kind grid rows cols : Nat) : List CellResult :=
  let cells := (upFrom 0 (rows * cols)).map (cellNo grid)
  let graph := ((fusionModel s kind).map mGraph).getD []
  let y := graphOutput graph (fusionTensor s f cells)
  let n := rows * cols
  (upFrom 0 n).map (fun i =>
    fuseCell s f (cellNo grid i) ((upFrom 0 16).map (fun ch => nth y (ch * n + i) 0)) (nth y (16 * n + i) 0 + 128).toNat)

/-- DETAIL of a contradiction (R714). -/
def contraDetail (c : Nat) : Nat := if c < 12288 then c else (c - 12288) + 32768

/-- What the results of a frame raise and log (R321, R322, R324). The pairs already logged in this frame are carried. -/
def raiseResults (frame : Nat) : Nat → List (Nat × Nat) → List CellResult → State → State
  | _, _, [], s => s
  | c, logged, r :: l, s =>
    let s := foldOver (fun s k => raise Src.FUS_SOURCE_STALE k s) s r.stale
    let s := if r.clear then raise Src.FUS_CONTRA_CLEAR (contraDetail c) s else s
    match r.contra with
    | none => raiseResults frame (c + 1) logged l s
    | some p =>
      let s := raise Src.FUS_CONTRADICTION (contraDetail c) s
      let q := (min p.1 p.2, max p.1 p.2)
      if logged.contains q then raiseResults frame (c + 1) logged l s
      else raiseResults frame (c + 1) (q :: logged) l (fault 0x20 4 Src.FUS_CONTRADICTION (contraDetail c) p.1 p.2 frame s)

/-- The sources that went stale in a frame, each once (R321). -/
def onceStale : List Nat → List CellResult → List CellResult
  | _, [] => []
  | seen, r :: l =>
    let new := r.stale.filter (fun k => !seen.contains k)
    { r with stale := new } :: onceStale (new ++ seen) l

/-- The fused grids of the frame in progress become readable (R317, R319, R332, R333). -/
def frameReadable (s : State) : State :=
  match s.fus.frame with
  | none => s
  | some f =>
    let v := match f.under with
      | none => s
      | some x => withSet x s
    let l : List CellResult := onceStale [] (fuseGrid v f 2 0 64 192 ++ fuseGrid v f 3 1 1 128)
    let no := f.tb / max 1 (framePeriod v)
    let s := { s with fus := { s.fus with frame := none, frameNo := no, tFrame := f.tb, agesAt := max s.fus.agesAt f.tb, cells := l.map CellResult.cell } }
    let s := (s.put F.FUS_STATUS_FRAME (no % 65536)).put F.FUS_STATUS_GRID_VALID 1
    let s := (s.put F.FUS_CELLS_STALE_CELLS ((l.filter (fun (r : CellResult) => r.cell.stale)).length)).put F.FUS_CELLS_CONTRA_CELLS
      ((l.filter (fun (r : CellResult) => r.cell.contra)).length)
    let s := if l.any (fun (r : CellResult) => r.cell.skew) then raise0 Src.FUS_SKEW s else s
    raiseResults no 0 [] l s

/-! ### Requests -/

/-- The eight registers of a stream slot (R335, R342). -/
def streamRegisters (s : State) (i : Nat) : Bytes :=
  (upFrom 0 8).flatMap (fun k =>
    let a := Reg.FUS_STR_CFG i + 4 * k
    leBytes 4 (if k = 3 then setBitsAt (s.reg a) 0 3 (streamState s i) else s.reg a))

/-- STREAM_STATUS (R342). -/
def runStreamStatus (p : Request) (s : State) : Answer :=
  let i := fieldAt p.params 0 1
  if i = 0xFF then ok s ((upFrom 0 20).flatMap (streamRegisters s))
  else if i > 19 then refuse s St.badParam
  else ok s (streamRegisters s i)

/-- STREAM_REINSTATE (R286). -/
def runStreamReinstate (p : Request) (s : State) : Answer :=
  let i := fieldAt p.params 0 1
  if i > 19 then refuse s St.badParam
  else if !streamRetired s i then ok s []
  else
    let s := unretire 3 i 0xFF s
    ok (reconnect i (modStream i (fun y => { y with lastInput := s.now, returnedAt := none }) s)) []

/-- A cell record of R290, its age grown by a time in ns since its frame (R325). -/
def cellBytes (grown : Nat) (x : Cell) : Bytes :=
  x.feat.map (fun v => BitVec.ofInt 8 v) ++ leBytes 1 x.conf ++ leBytes 1 (ageField grown x) ++
    leBytes 1 (b2n x.stale + 2 * b2n x.skew + 4 * b2n x.contra + 8 * b2n x.empty) ++ leBytes 1 x.top

/-- GRID_READ (R343). -/
def runGridRead (p : Request) (s : State) : Answer :=
  let g := fieldAt p.params 0 1
  let x0 := fieldAt p.params 1 1
  let y0 := fieldAt p.params 2 1
  let w := fieldAt p.params 3 1
  let h := fieldAt p.params 4 1
  if g > 1 ∨ w * h > 69 ∨ w = 0 ∨ h = 0 ∨ (g = 1 ∧ (y0 ≠ 0 ∨ h ≠ 1 ∨ x0 + w > 128)) ∨
      (g = 0 ∧ (x0 + w > 192 ∨ y0 + h > 64)) then refuse s St.badParam
  else if !s.flag F.FUS_STATUS_GRID_VALID then refuse s St.badAddress
  else
    ok s (leBytes 4 s.fus.frameNo ++ leBytes 8 s.fus.tFrame ++
      (upFrom y0 h).flatMap (fun j => (upFrom x0 w).flatMap (fun i =>
        cellBytes (agesGrown s) (cellAt s (if g = 1 then cellNo 1 i else j * 192 + i)))))

/-! ### MODEL_LOAD and MODEL_INFO (R300–R303) -/

/-- A directory entry added to a container, its section filled with 0xFF (R301). -/
def addSection (c : Container) (type inst flags len : Nat) : Container :=
  let n := sectionCount c
  let at_ := align64 (max c.total (32 + 16 * (n + 1)))
  let c := { c with total := at_ + len }
  let c := cWrite c at_ (List.replicate len 0xFF#8)
  let c := cWrite c 4 (leBytes 4 (at_ + len) ++ leBytes 1 (cField c 8 1) ++ leBytes 1 (cField c 9 1) ++ leBytes 2 (n + 1))
  cWrite c (32 + 16 * n) (leBytes 1 type ++ leBytes 1 inst ++ leBytes 1 flags ++ [0#8] ++ leBytes 4 at_ ++ leBytes 4 len ++
    leBytes 4 0)

/-- A directory without the entry of a section; the later entries move up. -/
def removeSection (c : Container) (x : Section) : Container :=
  let n := sectionCount c
  let rest := cSlice c (32 + 16 * (x.slot + 1)) (16 * (n - x.slot - 1))
  cWrite (cWrite c (32 + 16 * x.slot) rest) 10 (leBytes 2 (n - 1))

/-- The room that the directory of a container has before its first section. -/
def directoryRoom (c : Container) : Bool :=
  (directory c).all (fun x => decide (x.length = 0) || decide (32 + 16 * (sectionCount c + 1) ≤ x.offset))

/-- The container laid out again with each section moved up by 64 bytes, so that its directory can grow (R301). -/
def shiftSections (c : Container) : Container :=
  let ds := directory c
  let moved := foldOver (fun (d : Container) (x : Section) =>
      cWrite (cWrite d (x.offset + 64) (sectionData c x)) (32 + 16 * x.slot + 4) (leBytes 4 (x.offset + 64)))
    { c with total := c.total + 64 } ds
  cWrite moved 4 (leBytes 4 (c.total + 64))

/-- A new model section of an instance (R301); none where the directory is full. -/
def openModel (c : Container) (inst flags len : Nat) : Option Container :=
  let c := match findSection c 0x11 inst with
    | none => c
    | some x => removeSection c x
  if sectionCount c ≥ 256 then none
  else some (addSection (if directoryRoom c then c else shiftSections c) 0x11 inst flags len)

/-- The model chunk is written into its section, and its SCRC follows (R300, R302). -/
def writeModel (c : Container) (inst off : Nat) (d : Bytes) : Container :=
  match findSection c 0x11 inst with
  | none => c
  | some x => writeSection c x off d

/-- MODEL_LOAD (R300–R302). -/
def runModelLoad (p : Request) (s : State) : Answer :=
  let inst := fieldAt p.params 0 1
  let flags := bitsAt (fieldAt p.params 1 1) 0 1
  let off := fieldAt p.params 4 4
  let d := p.params.drop 8
  if inst > 63 then refuse s St.badParam
  else if throwBars s then refuse s St.throwPending
  else
    match sidingForChange s with
    | none => refuse s St.badAddress
    | some c =>
      let s := copiedSiding s
      if off = 0 ∧ d.length < 64 then refuse s St.badParam
      else if off = 0 ∧ modelHeaderOk d = false then refuse s St.modelFormat
      else
        let opened := if off = 0 then openModel c inst flags (64 + mLen d) else some c
        match opened with
        | none => refuse s St.badParam
        | some c =>
          match findSection c 0x11 inst with
          | none => refuse s St.badParam
          | some x =>
            if off + d.length > x.length then refuse s St.badParam
            else
              let c := writeModel c inst off d
              let last := off + d.length == x.length
              let open_ := (if off = 0 then inst :: s.sets.modelOpen else s.sets.modelOpen).filter (fun k => !(last && k == inst))
              let s := putSiding c { s with sets := { s.sets with modelOpen := open_ } }
              if last then
                let k := modelCheck ((modelIn (some c) inst).getD [])
                ok s [] |> fun a => { a with status := if k = 3 then St.modelFormat else if k = 4 then St.modelOperator else St.ok }
              else ok s []

/-- PARAM_LEN of MODEL_LOAD: 8 bytes and 1–1,392 bytes of data. -/
def lenModelLoad (ps : Bytes) : Bool := decide (9 ≤ ps.length) && decide (ps.length ≤ 1400)

/-- Register values of a container, as verification reads them. -/
def imageField (c : Container) (f : Fld) : Nat := bitsAt (imageValue c f.addr) f.lo f.width

/-- The shapes of a feature model are those that its slot asks for (R304). The image of a camera has one channel or three
(R277); a privileged slot has no registers that give its size. -/
def shapesBind (reg : Fld → Nat) (i : Nat) (b : Bytes) : Bool :=
  let image := (mIn b).take 1 == [1] && (nth (mIn b) 1 0 == 1 || nth (mIn b) 1 0 == 3)
  if i ≥ 16 then image && (mOut b).take 2 == [1, 17]
  else
    let (inS, outS) := streamShapes reg i
    mOut b == outS && (if reg (F.FUS_STR_CFG_KIND i) = 1 then image && (mIn b).drop 2 == inS.drop 2 else mIn b == inS)

/-- The binding of a valid feature model is right in its set: some slot names it as R328 asks (R329). -/
def modelBound (c : Container) (inst : Nat) (b : Bytes) : Bool :=
  if mKind b ≠ 1 then true
  else
    let i := mBinding b
    decide (i < 20) && imageField c (F.FUS_STR_CFG_KIND i) != 0 && imageField c (F.FUS_STR_CFG_MODEL i) == inst &&
      shapesBind (imageField c) i b

/-- STATE of MODEL_INFO (R303), where open holds the instances whose last chunk has not come. -/
def modelState (open_ : List Nat) (c : Option Container) (inst : Nat) : Nat :=
  match c with
  | none => 0
  | some k =>
    match modelIn c inst with
    | none => 0
    | some b => if open_.contains inst then 1 else if modelCheck b = 2 ∧ modelBound k inst b = false then 5 else modelCheck b

/-- MODEL_INFO (R303). -/
def runModelInfo (p : Request) (s : State) : Answer :=
  let inst := fieldAt p.params 0 1
  let set := fieldAt p.params 1 1
  if inst > 63 ∨ set > 1 then refuse s St.badParam
  else
    let c := if set = 0 then yardSet s else (if sidingState s = sEmpty then none else s.sets.siding)
    let b := (modelIn c inst).getD []
    let st := modelState (if set = 1 then s.sets.modelOpen else []) c inst
    let macs := if st = 2 ∨ st = 5 then graphMacs (mGraph b) else 0
    ok s (padTo 64 b ++ leBytes 1 st ++ leBytes 3 0 ++ leBytes 8 macs ++ leBytes 4 (ceilDiv (2 * macs * mRate b) 1000000000))

end Sys2Proof.Machine
end

