-- ==== Sys2Proof/Machine/Setting.lean ====
section
/-!
DEFINITION. *Machine Function Setting* (R344–R389).
-/

namespace Sys2Proof.Machine

/-! ### The registry (R344–R349) -/

/-- A function entry (R345). -/
structure FnEntry where
  id : Nat
  path : Nat
  autoOk : Bool
  min : Int
  max : Int
  autoLo : Int
  autoHi : Int
  init : Int
  stepMax : Int
  stepMin : Int
  slew : Nat
  act : Nat
  resp : Nat
  join : Nat
  target : Nat
  entry : Nat
  word : Nat
  fbEntry : Nat
  fbWord : Nat
  fbMask : Nat
  deps : List Nat
  deriving DecidableEq, Repr

/-- The entry whose 128 bytes these are. -/
def fnEntryOf (b : Bytes) : FnEntry :=
  { id := fieldAt b 0 2, path := bitsAt (fieldAt b 3 1) 0 1, autoOk := bitAt (fieldAt b 3 1) 1, min := sfieldAt b 20 4,
    max := sfieldAt b 24 4, autoLo := sfieldAt b 28 4, autoHi := sfieldAt b 32 4, init := sfieldAt b 36 4,
    stepMax := sfieldAt b 40 4, stepMin := sfieldAt b 44 4, slew := fieldAt b 48 4, act := fieldAt b 52 2,
    resp := fieldAt b 54 2, join := fieldAt b 56 1, target := fieldAt b 57 1, entry := bitsAt (fieldAt b 58 2) 0 12,
    word := bitsAt (fieldAt b 60 2) 0 10, fbEntry := fieldAt b 62 2, fbWord := bitsAt (fieldAt b 64 2) 0 10,
    fbMask := fieldAt b 68 4, deps := (upFrom 0 14).map (fun k => fieldAt b (72 + 4 * k) 4) }

/-- Function entry n of the registry in force; FUNC_ID 0 where it is unused. -/
def fnEntry (s : State) (n : Nat) : FnEntry := fnEntryOf (runningEntry s 0x06 0 128 n)

/-- The used functions. -/
def usedFns (s : State) : List Nat := (upFrom 0 48).filter (fun n => (fnEntry s n).id != 0)

/-- A measure entry (R348). -/
structure MeasureEntry where
  role : Nat
  chan : Nat
  x0 : Nat
  w : Nat
  pos : Nat
  norm : Bool
  weight : Nat
  deriving DecidableEq, Repr

/-- The measure entry whose bytes these are. -/
def measureOf (b : Bytes) : MeasureEntry :=
  { role := fieldAt b 0 1, chan := fieldAt b 1 1, x0 := fieldAt b 2 1, w := fieldAt b 3 1, pos := fieldAt b 4 2,
    norm := bitAt (fieldAt b 6 1) 0, weight := fieldAt b 7 1 }

/-- Measure m of the registry in force. -/
def measure (s : State) (m : Nat) : MeasureEntry := measureOf (runningEntry s 0x06 0 128 (48 + m))

/-- The measures of a role. -/
def measuresOf (s : State) (role : Nat) : List Nat := (upFrom 0 16).filter (fun m => (measure s m).role == role)

/-- The sum of FEAT[CHAN] of a measure over its cells in the last complete frame, and their number (R349). -/
def measureNow (s : State) (m : Nat) : Int × Nat :=
  let e := measure s m
  (((upFrom e.x0 e.w).map (fun x => nth (cellAt s (cellNo 1 x)).feat e.chan 0)).foldl (· + ·) 0, e.w)

/-- A cell is usable (R367). -/
def usable (x : Cell) : Bool := !x.stale && !x.contra && !x.empty

/-- Every cell of a measure's range is usable. -/
def measureUsable (s : State) (m : Nat) : Bool :=
  (upFrom (measure s m).x0 (measure s m).w).all (fun x => usable (cellAt s (cellNo 1 x)))

/-! ### Registers of a function -/

/-- MODE codes (R389). -/
def mUnused : Nat := 0
def mManual : Nat := 1
def mAuto : Nat := 2

def fnMode (s : State) (n : Nat) : Nat := s.get (F.SET_FN_STATE_MODE n)
def fnTarget (s : State) (n : Nat) : Int := s.gets (F.SET_FN_TARGET_TARGET n)
def fnCauses (s : State) (n : Nat) : Nat := s.get (F.SET_FN_STATE_CAUSES n)
def fnPart (s : State) (n : Nat) : FnPart := nth s.fn.fns n {}
def modFn (n : Nat) (f : FnPart → FnPart) (s : State) : State :=
  { s with fn := { s.fn with fns := setNth s.fn.fns n (f (fnPart s n)) } }

/-- The number of the cycle at the present device time, not reduced (R157). -/
def cycleNow (s : State) : Nat := deviceTime s / ms

/-- The 32-bit number of the cycle now (R157). -/
def cycle32 (s : State) : Nat := cycleNow s % 4294967296

/-- The cycle of LIN_CYCLE is at its end: device time has reached the next one, and CYCLE_BOUNDARY has not come yet. -/
def cycleOver (s : State) : Bool := s.die.yardUp && s.get F.LIN_CYCLE_CYCLE != cycle32 s

/-- The start of the next cycle, ns of device time. -/
def nextCycleStart (s : State) : Nat := (cycleNow s + 1) * ms

/-- The mode and target of a function are copied to the always-on domain (R377). -/
def copyFn (n : Nat) (s : State) : State :=
  { s with fn := { s.fn with copies := putNum s.fn.copies n (fnMode s n, fnTarget s n) } }

/-- A function takes a target, sent from cycle c on (R352). -/
def setFnTargetFrom (c n : Nat) (v : Int) (s : State) : State :=
  let s := modFn n (fun x => { x with s0 := s.gets (F.SET_FN_SENT_SENT n), c0 := c }) s
  copyFn n (s.puts (F.SET_FN_TARGET_TARGET n) v)

/-- A function takes a target, sent from the next cycle (R352, R372). -/
def setFnTarget (n : Nat) (v : Int) (s : State) : State := setFnTargetFrom (cycleNow s + 1) n v s

/-- A function takes a mode. -/
def setFnMode (n m : Nat) (s : State) : State := copyFn n (s.put (F.SET_FN_STATE_MODE n) m)

/-- The value of a function sent in a cycle (R352). -/
def slewValue (s : State) (n c : Nat) : Int :=
  let p := fnPart s n
  let t := fnTarget s n
  if c < p.c0 then p.s0
  else
    let k := c - p.c0
    let step := min (t - p.s0).natAbs ((fnEntry s n).slew * (k + 1) / 1000)
    if t ≥ p.s0 then p.s0 + step else p.s0 - step

/-- SENT of every used function takes the value of the present cycle (R352). -/
def slewAll (s : State) : State :=
  foldOver (fun s n => s.puts (F.SET_FN_SENT_SENT n) (slewValue s n (cycleNow s))) s (usedFns s)

/-- The engine runs: SET_EN and the terminus role (R357, R379). -/
def settingOn (s : State) : Bool := s.flag F.SET_CFG_SET_EN && isTerminus s && s.die.yardUp

/-- Every used function starts MANUAL at INIT (R357). -/
def startFn (s : State) (n : Nat) : State :=
  let i := (fnEntry s n).init
  let s := modFn n (fun _ => { s0 := i, c0 := 0 }) s
  let s := (s.puts (F.SET_FN_TARGET_TARGET n) i).puts (F.SET_FN_SENT_SENT n) i
  copyFn n (s.setReg (Reg.SET_FN_STATE n) mManual)

/-- A function that the registry does not hold. -/
def clearFn (s : State) (n : Nat) : State :=
  let s := modFn n (fun _ => {}) s
  ((s.setReg (Reg.SET_FN_TARGET n) 0).setReg (Reg.SET_FN_SENT n) 0).setReg (Reg.SET_FN_STATE n) 0

/-- The engine as it stands when a running set first comes into force or a module powers up (R357). -/
def startSetting (s : State) : State :=
  foldOver (fun s n => if (fnEntry s n).id = 0 then clearFn s n else startFn s n) { s with fn := {} } (upFrom 0 48)

/-! ### The decision (R362–R366) -/

/-- The mean of a measure over the frames of a window of device time (R363). -/
def windowMean (s : State) (m : Nat) (a b : Int) : Option Frac :=
  qMean ((s.fn.frames.filter (fun f => decide (a ≤ (f.1 : Int)) && decide ((f.1 : Int) < b))).filterMap (fun f =>
    match lookupNum f.2 m with
    | none => none
    | some (v, n) => some ⟨v, max 1 n⟩))

/-- W in ns (R362). -/
def evalWindow (s : State) : Nat := s.get F.SET_CFG_EVAL_WIN * 100 * ms

/-- The outcomes of a step. -/
inductive StepOutcome where
  | kept | reverted | inconclusive | abandoned
  deriving DecidableEq, Repr

/-- The cost before and after that a used measure adds; none where it is inconclusive (R364). -/
def measureCosts (s : State) (p : PendingStep) (u : UsedMeasure) : Option (Frac × Frac) :=
  let w : Int := evalWindow s
  let t1 : Int := p.t1
  let d : Int := u.d
  let e := measure s u.m
  let wt := fInt e.weight
  match windowMean s u.m (t1 - w) t1, windowMean s u.m (t1 + d) (t1 + d + w) with
  | some b, some a =>
    if !e.norm then some (qMul wt b, qMul wt a)
    else
      match (measuresOf s 2).head? with
      | none => none
      | some fm =>
        match windowMean s fm (t1 - w + u.sh) (t1 + u.sh), windowMean s fm (t1 + d + u.sh) (t1 + d + w + u.sh) with
        | some fb, some fa =>
          let moved := qMul (qAbs (qAdd fa (qNeg fb))) (fInt 1000)
          if qLe fb (fInt 0) || qLe fa (fInt 0) || !qLe moved (qMul (fInt (s.get F.SET_FLOW_FLOW_TOL)) fb) then none
          else
            let r := fInt (s.get F.SET_FLOW_FLOW_REF)
            some (qMul wt (qDiv (qMul b r) fb), qMul wt (qDiv (qMul a r) fa))
        | _, _ => none
  | _, _ => none

/-- The sums of the costs of the used measures; none where one is inconclusive. -/
def stepCosts (s : State) (p : PendingStep) : List UsedMeasure → Option (Frac × Frac)
  | [] => some (fInt 0, fInt 0)
  | u :: l =>
    match measureCosts s p u, stepCosts s p l with
    | some (b, a), some (cb, ca) => some (qAdd b cb, qAdd a ca)
    | _, _ => none

/-- The outcome of a pending step (R364). -/
def stepOutcome (s : State) (p : PendingStep) : StepOutcome :=
  match stepCosts s p p.used with
  | none => .inconclusive
  | some (cb, ca) =>
    let rel := qDiv (qMul (fInt (s.get F.SET_TOL_TOL)) (qAbs cb)) (fInt 1000)
    let lim := qAdd (qAdd cb rel) ⟨s.get F.SET_TOL_ABS_TOL, 16⟩
    if qLe ca lim then .kept else .reverted

/-- LAST of R389 for an outcome. -/
def lastCode : StepOutcome → Nat
  | .kept => 1
  | .reverted => 2
  | .inconclusive => 2
  | .abandoned => 3

/-- The pending step ends: PENDING clears and LAST is noted. -/
def endStep (o : StepOutcome) (p : PendingStep) (s : State) : State :=
  foldOver (fun s (c : Nat × Int × Int) =>
    (s.put (F.SET_FN_STATE_PENDING c.1) 0).put (F.SET_FN_STATE_LAST c.1) (lastCode o))
    { s with fn := { s.fn with pending := none } } p.changed

/-- revert_step, with the first cycle that carries the reverted targets (R365). -/
def revertStep (first : Nat) (o : StepOutcome) (p : PendingStep) (s : State) : State :=
  let s := foldOver (fun s (c : Nat × Int × Int) =>
      if fnMode s c.1 = mAuto then
        let s := setFnTargetFrom first c.1 c.2.1 s
        (s.put (F.SET_FN_STATE_BAR_DIR c.1) (if c.2.2 > c.2.1 then 1 else 2)).put (F.SET_FN_STATE_BAR_LEFT c.1)
          (s.get F.SET_CFG_BACKOFF)
      else s) s p.changed
  let hold := first * ms + (p.evalEnd - p.t1)
  let s := endStep o p { s with fn := { s.fn with holdUntil := hold } }
  match o with
  | .kept => s
  | .reverted => raise0 Src.SET_STEP_REVERTED (s.bump F.SET_COUNT_REVERTED 1)
  | .inconclusive => raise0 Src.SET_STEP_INCONCLUSIVE (s.bump F.SET_COUNT2_INCONCLUSIVE 1)
  | .abandoned => raise0 Src.SET_STEP_ABANDONED (s.bump F.SET_COUNT2_ABANDONED 1)

/-- The decision of the pending step (R364). -/
def decideStep (s : State) : State :=
  match s.fn.pending with
  | none => s
  | some p =>
    match stepOutcome s p with
    | .kept => raise0 Src.SET_STEP_KEPT ((endStep .kept p s).bump F.SET_COUNT_KEPT 1)
    | o => revertStep (cycleNow s + 1) o p s

/-- A pending step is abandoned, its revert carried from a cycle on (R366). -/
def abandonStep (first : Nat) (s : State) : State :=
  match s.fn.pending with
  | none => s
  | some p => revertStep first .abandoned p s

/-- The pending step is abandoned where it changed a function (R366). -/
def abandonIfChanged (n : Nat) (s : State) : State :=
  match s.fn.pending with
  | none => s
  | some p => if p.changed.any (fun c => c.1 == n) then abandonStep (cycleNow s + 1) s else s

/-! ### The step (R359–R362) -/

/-- A function is eligible (R360). -/
def eligible (s : State) (n : Nat) : Bool :=
  fnMode s n == mAuto && fnCauses s n == 0 && !s.flag (F.SET_FN_STATE_SETTLING n)

/-- The policy model (R354). -/
def policyModel (s : State) : Option Bytes := modelIn (yardSet s) (s.get F.SET_POLICY_POLICY)

/-- The input of the policy model (R355). -/
def policyInput (s : State) : List Int :=
  let cell := fun w => cellAt s (cellNo 1 w)
  let pos := upFrom 0 128
  let scale := fun n =>
    let e := fnEntry s n
    roundDivI (255 * (fnTarget s n - e.min)) (e.max - e.min) - 128
  let value := fun m => let (v, n) := measureNow s m; sat8 (roundDiv v (max 1 n))
  (upFrom 0 16).flatMap (fun ch => pos.map (fun w => nth (cell w).feat ch 0)) ++
    pos.map (fun w => ((cell w).conf : Int) - 128) ++
    pos.map (fun w => (ageField (agesGrown s) (cell w) : Int) - 128) ++
    pos.map (fun w =>
      if w < 48 then (if (fnEntry s w).id = 0 then -128 else sat8 (scale w))
      else if w < 64 then (if (measure s (w - 48)).role = 0 then 0 else value (w - 48))
      else 0) ++
    pos.map (fun w =>
      if w < 48 then
        (if (fnEntry s w).id = 0 then -128 else if fnMode s w = mAuto then (if eligible s w then 127 else 0) else -64)
      else if w < 64 then (if measureUsable s (w - 48) && (measure s (w - 48)).role != 0 then 127 else 0)
      else 0)

/-- A step tick falls in the present cycle, at its start, and has not been run: it comes after the command packets of the cycle and the
freezes (R359). -/
def tickNow (s : State) : Bool :=
  let p := s.get F.SET_CFG_STEP_PERIOD * 100
  p != 0 && cycleNow s % p == 0 && s.fn.lastTick != some (cycleNow s)

/-- A step tick (R361). -/
def stepTick (s : State) : State :=
  if !settingOn s || !tickNow s then s
  else
    let t := cycleNow s * ms
    let s := { s with fn := { s.fn with lastTick := some (cycleNow s) } }
    let s := foldOver (fun s n => s.put (F.SET_FN_STATE_BAR_LEFT n) (s.get (F.SET_FN_STATE_BAR_LEFT n) - 1)) s (usedFns s)
    let s :=
      if s.fn.invocation.isSome then
        raise0 Src.SET_STEP_SKIP
          (State.bump { s with fn := { s.fn with invocation := none } } F.SET_COUNT2_STEP_SKIPS 1)
      else s
    match s.fn.pending with
    | some p => if p.evalEnd + 8 * ms ≤ t then decideStep s else s
    | none =>
      if t < s.fn.holdUntil ∨ (usedFns s).any (eligible s) = false ∨ (policyModel s).isNone = true ∨
          s.flag F.FUS_STATUS_GRID_VALID = false then s
      else { s with fn := { s.fn with invocation := some (policyInput s) } }

/-- The candidate change of an eligible function for a proposal: the new target and the weight of the proposal (R358,
R361). -/
def candidate (s : State) (n : Nat) (out : Int) : Option (Nat × Int × Nat) :=
  let e := fnEntry s n
  let o := if out < -127 then -127 else out
  let d := roundDiv (o * e.stepMax) 127
  let dir := s.get (F.SET_FN_STATE_BAR_DIR n)
  let barred := s.get (F.SET_FN_STATE_BAR_LEFT n) != 0 && ((decide (d > 0) && dir == 1) || (decide (d < 0) && dir == 2))
  let d := if barred then 0 else d
  let v := fnTarget s n
  let new := clampI (min v e.autoLo) (max v e.autoHi) (v + d)
  if ((new - v).natAbs : Int) ≥ e.stepMin then some (n, new, o.natAbs) else none

/-- A candidate put in order: |o| descending, then the function ascending (the list is built in ascending order). -/
def insertCand (c : Nat × Int × Nat) : List (Nat × Int × Nat) → List (Nat × Int × Nat)
  | [] => [c]
  | x :: l => if c.2.2 > x.2.2 then c :: x :: l else x :: insertCand c l

/-- The slew time of a change in ms (R352). -/
def slewTime (e : FnEntry) (delta : Nat) : Nat := ceilDiv (1000 * delta) (max 1 e.slew)

/-- D(m) in ms over the changed functions that act upstream of the measure (R362). -/
def settleDelay (s : State) (m : Nat) (ch : List (Nat × Int × Int)) : Nat :=
  ((ch.filter (fun c => decide ((fnEntry s c.1).act ≤ (measure s m).pos))).map (fun c =>
    let e := fnEntry s c.1
    10 * e.resp + slewTime e (c.2.2 - c.2.1).natAbs + 10 * ((measure s m).pos - e.act))).foldl max 0

/-- The used measures of a step (R362). -/
def usedMeasures (s : State) (ch : List (Nat × Int × Int)) : List UsedMeasure :=
  let flow := match (measuresOf s 2).head? with
    | none => 0
    | some f => (measure s f).pos
  ((measuresOf s 1).filter (fun m => ch.any (fun c => decide ((fnEntry s c.1).act ≤ (measure s m).pos)))).map (fun m =>
    { m := m, d := settleDelay s m ch * ms,
      sh := if (measure s m).norm then (10 * ((flow : Int) - (measure s m).pos)) * ms else 0 })

/-- The changes that a policy invocation on an input makes, each as function, target before and new target: of the candidates of the
eligible functions, in order, no more than MAX_CHANGES (R361). -/
def stepChanges (s : State) (inp : List Int) : List (Nat × Int × Int) :=
  let y := graphOutput (((policyModel s).map mGraph).getD []) inp
  let cands := (((usedFns s).filter (eligible s)).filterMap (fun n => candidate s n (nth y n 0))).foldl
    (fun l c => insertCand c l) []
  (cands.take (s.get F.SET_CFG_MAX_CHANGES)).map (fun c => (c.1, fnTarget s c.1, c.2.1))

/-- How long after t1 a step with these used measures is evaluated, ns (R362). -/
def evalLength (s : State) (used : List UsedMeasure) : Nat :=
  (used.map (fun u => u.d + evalWindow s + u.sh.toNat)).foldl max 0

/-- The policy invocation completes (R361). -/
def policyDone (s : State) : State :=
  match s.fn.invocation with
  | none => s
  | some inp =>
    let s := { s with fn := { s.fn with invocation := none } }
    if !settingOn s then s
    else
      let ch := stepChanges s inp
      if ch.isEmpty then s
      else
        let used := usedMeasures s ch
        let t1 := nextCycleStart s
        let len := evalLength s used
        let s := foldOver (fun s (c : Nat × Int × Int) =>
          (setFnTarget c.1 c.2.2 (s.puts (F.SET_FN_START_START c.1) c.2.1)).put (F.SET_FN_STATE_PENDING c.1) 1) s ch
        { s with fn := { s.fn with pending := some { t1 := t1, evalEnd := t1 + len, changed := ch, used := used } } }

/-! ### Freezes (R353, R367–R370) -/

/-- The cells of a dependency word (R347). -/
def depCells (d : Nat) : List Nat :=
  let c := bitsAt d 0 28
  if d / 268435456 = 1 then
    let tx := bitsAt c 0 6
    let tw := bitsAt c 6 6 + 1
    let ty := bitsAt c 12 4
    let th := bitsAt c 16 4 + 1
    (upFrom (4 * ty) (4 * th)).flatMap (fun j => (upFrom (4 * tx) (4 * tw)).map (fun i => j * 192 + i))
  else if d / 268435456 = 2 then (upFrom (bitsAt c 0 7) (bitsAt c 7 7 + 1)).map (cellNo 1)
  else []

/-- A dependency source of a function. -/
def depSources (e : FnEntry) : List Nat := (e.deps.filter (fun d => d / 268435456 == 3)).map (fun d => bitsAt d 0 7)

/-- The functions that a function depends on. -/
def depFns (e : FnEntry) : List Nat := (e.deps.filter (fun d => d / 268435456 == 4)).map (fun d => bitsAt d 0 6)

/-- STATE that the region of a source last carried. -/
def sourceState (s : State) (k : Nat) : Nat := (lookupNum s.fus.states k).getD 0

/-- The station of a function cannot be reached: it is absent or in SET_MISMATCH, or no module of the timetable has its number and one
that asked for it is held out (R353). -/
def joinFault (s : State) (j : Nat) : Bool :=
  match s.line.members.find? (fun m => m.num == j && m.result == 0) with
  | some m => m.absent || m.mismatch
  | none => s.line.members.any (fun m => m.num == j && m.result != 0)

/-- The path fault of a function at a frame (R353). -/
def pathFault (s : State) (n : Nat) : State × Bool :=
  let e := fnEntry s n
  let p := fnPart s n
  let bad := e.fbEntry != 0xFFFF && Nat.land (toBits 32 (lineValue s (bitsAt e.fbEntry 0 12) e.fbWord)) e.fbMask != 0
  let p := if bad then { p with fbBad := min (p.fbBad + 1) 2, fbGood := 0 } else { p with fbBad := 0, fbGood := min (p.fbGood + 1) 2 }
  let s := modFn n (fun _ => p) s
  let set := joinFault s e.join || p.fbBad == 2
  let was := bitAt (fnCauses s n) 4
  (s, set || (was && !(p.fbGood == 2)))

/-- FAULT of a function as R353 leaves it, with its onset raised and logged. -/
def faultStep (s : State) (n : Nat) : State :=
  let was := bitAt (fnCauses s n) 4
  let (s, f) := pathFault s n
  let s := s.put (F.SET_FN_STATE_CAUSES n) (setBitsAt (fnCauses s n) 4 1 (b2n f))
  if f && !was then raise Src.SET_PATH_FAULT n (fault 0x21 4 Src.SET_PATH_FAULT n (fnEntry s n).id 0 0 s) else s

/-- CAUSES [6:0] of a function, FAULT being given (R367). -/
def causesOf (s : State) (n : Nat) : Nat :=
  let e := fnEntry s n
  let cs := (e.deps.flatMap depCells).map (cellAt s)
  let st := (depSources e).map (sourceState s)
  let stale := cs.any (·.stale) || st.any (fun x => x == 2 || x == 3)
  let depFault := st.any (fun x => x == 4) || (depFns e).any (fun k => bitAt (fnCauses s k) 4)
  let meas := (measuresOf s 1 ++ measuresOf s 2).any (fun m => !measureUsable s m)
  b2n stale + 2 * b2n (cs.any (·.contra)) + 4 * b2n (cs.any (·.empty)) + 8 * b2n s.fn.headland +
    16 * b2n (bitAt (fnCauses s n) 4) + 32 * b2n depFault + 64 * b2n meas

/-- FREEZE_HOLD in ns (R369). -/
def freezeHold (s : State) : Nat := s.get F.SET_POLICY_FREEZE_HOLD * 100 * ms

/-- A function enters SETTLING (R369). -/
def startSettling (n : Nat) (s : State) : State :=
  (modFn n (fun x => { x with settleEnd := s.now + freezeHold s }) s).put (F.SET_FN_STATE_SETTLING n) 1

/-- The causes of a function are evaluated, with what follows for a function in AUTO (R366–R369); old are its causes before the frame. -/
def freezeStep (old : Nat) (s : State) (n : Nat) : State :=
  let new := causesOf s n
  let s := s.put (F.SET_FN_STATE_CAUSES n) new
  if fnMode s n ≠ mAuto then s
  else if new ≠ 0 then
    let s := s.put (F.SET_FN_STATE_SETTLING n) 0
    let s := if old = 0 then raise Src.SET_FREEZE n s else s
    if new ≠ old ∧ Nat.land new old ≠ new then abandonIfChanged n s else s
  else if old ≠ 0 then startSettling n s
  else s

/-- The headland state at a frame boundary, on the terminus (R370). -/
def headlandStep (s : State) : State :=
  if !isTerminus s || !s.die.yardUp || (frameBoundary s).isNone then s else
  let force := s.flag F.SET_CTRL_HEADLAND_FORCE
  let v := lineValue s (s.get F.SET_HEAD_HEAD_ENTRY) (s.get F.SET_HEAD_HEAD_WORD)
  let en := s.flag F.SET_HEAD_HEAD_EN
  let on_ := force || (en && decide (v > s.gets F.SET_HEAD_ON_ON))
  let off := !force && (!en || decide (v < s.gets F.SET_HEAD_OFF_OFF))
  if on_ && !s.fn.headland then raise0 Src.SET_HEADLAND_IN { s with fn := { s.fn with headland := true } }
  else if off && s.fn.headland && !on_ then raise0 Src.SET_HEADLAND_OUT { s with fn := { s.fn with headland := false } }
  else s

/-- The measures of a frame are held (R349, R363). Dropped are those that no window of the pending step, or of one that begins now, can
reach back to: W is 60 s and sh(m) 30 s at most. -/
def holdMeasures (s : State) : State :=
  let tb := s.fus.tFrame
  let from_ := match s.fn.pending with
    | none => tb
    | some p => min tb p.t1
  let l := (measuresOf s 1 ++ measuresOf s 2).map (fun m => (m, measureNow s m))
  { s with fn := { s.fn with frames := s.fn.frames.filter (fun f => decide (from_ < f.1 + 120 * sec)) ++ [(tb, l)] } }

/-- What the setting engine does once the grids of a frame are readable (R349, R367). -/
def settingFrame (s : State) : State :=
  if !isTerminus s then s
  else
    let before := holdMeasures s
    let s := foldOver faultStep before (usedFns before)
    foldOver (fun s n => freezeStep (fnCauses before n) s n) s (usedFns s)

/-- SETTLING of a function ends (R369). -/
def settlingEnd (n : Nat) (s : State) : State :=
  if s.flag (F.SET_FN_STATE_SETTLING n) = true ∧ (fnPart s n).settleEnd ≤ s.now ∧ fnCauses s n = 0 then
    raise Src.SET_UNFREEZE n (s.put (F.SET_FN_STATE_SETTLING n) 0)
  else s

/-! ### Override (R371–R374) -/

/-- FUNCTION_AUTO, FUNCTION_MANUAL and FUNCTION_STATUS come with TARGET 0 only (R371). -/
def fnTargetOk (p : Request) : Bool := p.target == 0#8

/-- FUNCTION_MANUAL (R372). -/
def runFunctionManual (p : Request) (s : State) : Answer :=
  let n := fieldAt p.params 0 1
  let has := bitAt (fieldAt p.params 1 1) 0
  let e := fnEntry s n
  let v := sfieldAt p.params 4 4
  if !fnTargetOk p then refuse s St.badTarget
  else if n > 47 then refuse s St.badParam
  else if e.id = 0 ∨ e.id ≠ fieldAt p.params 2 2 then refuse s St.functionUnknown
  else if has && (decide (v < e.min) || decide (v > e.max)) then refuse s St.badParam
  else
    let was := fnMode s n
    let sent := s.gets (F.SET_FN_SENT_SENT n)
    let s := (setFnMode n mManual s).put (F.SET_FN_STATE_SETTLING n) 0
    let s := if was = mAuto then abandonIfChanged n s else s
    let s := setFnTarget n (if has then v else sent) s
    ok (if was = mAuto then raise Src.SET_OVERRIDE n s else s) []

/-- FUNCTION_AUTO (R373). A cause that is set already ends the SETTLING at the next frame (R369, log entry 107). -/
def runFunctionAuto (p : Request) (s : State) : Answer :=
  let n := fieldAt p.params 0 1
  let e := fnEntry s n
  if !fnTargetOk p then refuse s St.badTarget
  else if n > 47 then refuse s St.badParam
  else if e.id = 0 ∨ e.id ≠ fieldAt p.params 2 2 then refuse s St.functionUnknown
  else if fnMode s n = mAuto then ok s []
  else if !e.autoOk || !s.flag F.SET_CFG_SET_EN then refuse s St.badParam
  else if bitAt (fnCauses s n) 4 || bitAt (fnCauses s n) 5 then refuse s St.functionFrozen
  else
    let s := startSettling n (setFnMode n mAuto s)
    ok (raise Src.SET_AUTO_RETURN n s) []

/-- The SET registers that are computed: START without a pending step, SET_STATUS and SET_EVAL (R385, R386, R389). -/
def settingOverlay (s : State) (a : Nat) : Option Nat :=
  if a = Reg.SET_STATUS then
    let autos := (usedFns s).filter (fun n => fnMode s n == mAuto)
    let frozen := autos.filter (fun n => fnCauses s n != 0 || s.flag (F.SET_FN_STATE_SETTLING n))
    let engine :=
      if !settingOn s then 0 else if s.fn.pending.isSome then 2 else if deviceTime s < s.fn.holdUntil then 3 else 1
    let okm := (measuresOf s 1 ++ measuresOf s 2).all (measureUsable s) && s.flag F.FUS_STATUS_GRID_VALID
    let changed := match s.fn.pending with
      | none => 0
      | some p => p.changed.length
    some (engine + 4 * b2n s.fn.headland + 8 * b2n okm + 16 * (changed % 16) + 256 * autos.length + 65536 * frozen.length)
  else if a = Reg.SET_EVAL then
    match s.fn.pending with
    | none => some 0
    | some p => some (p.evalEnd / ms % 4294967296)
  else
    match (upFrom 0 48).find? (fun n => a == Reg.SET_FN_START n) with
    | none => none
    | some n => if s.flag (F.SET_FN_STATE_PENDING n) then none else some (s.reg (Reg.SET_FN_TARGET n))

/-- The four registers of a function. -/
def fnRegisters (s : State) (n : Nat) : Bytes :=
  (upFrom 0 4).flatMap (fun k =>
    let a := Reg.SET_FN_TARGET n + 4 * k
    leBytes 4 ((settingOverlay s a).getD (s.reg a)))

/-- FUNCTION_STATUS (R374). -/
def runFunctionStatus (p : Request) (s : State) : Answer :=
  let n := fieldAt p.params 0 1
  if !fnTargetOk p then refuse s St.badTarget
  else if n = 0xFF then ok s ((upFrom 0 48).flatMap (fnRegisters s))
  else if n > 47 then refuse s St.badParam
  else ok s (fnRegisters s n)

/-! ### Throw, takeover and restart (R375–R377) -/

/-- What a throw needs of a function before it: FUNC_ID, target, sent value, SET_FN_STATE and the rest. -/
structure FnBefore where
  id : Nat
  target : Int
  sent : Int
  word : Nat
  part : FnPart

/-- The functions as they are before a throw. -/
def settingBefore (s : State) : List FnBefore :=
  (usedFns s).map (fun n =>
    { id := (fnEntry s n).id, target := fnTarget s n, sent := s.gets (F.SET_FN_SENT_SENT n), word := s.reg (Reg.SET_FN_STATE n),
      part := fnPart s n })

/-- A function that both registries hold goes on under the new one: its mode, its causes until the next frame and its last outcome stay,
its bar is cleared and its target is clamped (R375). While SET_EN is 0 it is MANUAL (R357). -/
def carryFn (n : Nat) (o : FnBefore) (s : State) : State :=
  let e := fnEntry s n
  let v := clampI e.min e.max o.target
  let s := (modFn n (fun _ => o.part) s).setReg (Reg.SET_FN_STATE n) o.word
  let s := (s.put (F.SET_FN_STATE_BAR_DIR n) 0).put (F.SET_FN_STATE_BAR_LEFT n) 0
  let s := if s.flag F.SET_CFG_SET_EN then s else (s.put (F.SET_FN_STATE_MODE n) mManual).put (F.SET_FN_STATE_SETTLING n) 0
  let s := (s.puts (F.SET_FN_SENT_SENT n) o.sent).puts (F.SET_FN_TARGET_TARGET n) o.target
  if v = o.target then copyFn n s else setFnTargetFrom (cycleNow s) n v s

/-- Functions are matched across two registries by FUNC_ID at a throw (R375). The new set is in force already. DESIGN CHOICE: the spec
does not say what becomes of a policy invocation in progress; it is dropped (log entry 191). -/
def throwSetting (old : List FnBefore) (s : State) : State :=
  foldOver (fun s n =>
    if (fnEntry s n).id = 0 then clearFn s n
    else
      match old.find? (fun o => o.id == (fnEntry s n).id) with
      | none => startFn s n
      | some o => carryFn n o s) { s with fn := { s.fn with invocation := none } } (upFrom 0 48)

/-- A takeover: the pending step is abandoned and every function in AUTO enters SETTLING (R376). The new holder copies the modes and
targets that it takes over to its own Signal die (R377). -/
def takeoverSetting (s : State) : State :=
  let s := abandonStep (cycleNow s + 1) { s with fn := { s.fn with invocation := none } }
  foldOver (fun s n => copyFn n (if fnMode s n = mAuto then startSettling n s else s)) s (usedFns s)

/-- The Yard die of the terminus is back without a takeover: every function resumes in MANUAL with its copied target
(R377). -/
def resumeSetting (s : State) : State :=
  let copies := s.fn.copies
  let s := startSetting s
  foldOver (fun s (c : Nat × Nat × Int) =>
    if (fnEntry s c.1).id = 0 then s
    else
      let s := (s.puts (F.SET_FN_TARGET_TARGET c.1) c.2.2).puts (F.SET_FN_SENT_SENT c.1) c.2.2
      let s := copyFn c.1 (modFn c.1 (fun _ => { s0 := c.2.2, c0 := 0 }) s)
      if c.2.1 = mAuto then raise Src.SET_AUTO_DROPPED c.1 s else s) s copies

/-! ### The rows -/

/-- STEP_TICK (R361). -/
def execStepTick (t : Nat) (s : State) : Res := .next (stepTick (begin_ t s))

/-- POLICY_DONE (R361). -/
def execPolicyDone (t : Nat) (s : State) : Res := .next (policyDone (begin_ t s))

/-- SETTLING_END (R369). -/
def execSettlingEnd (t n : Nat) (s : State) : Res :=
  let s := begin_ t s
  .next (if n < 48 then settlingEnd n s else s)

end Sys2Proof.Machine
end

