-- ==== Sys2Proof/Machine/FusionRows.lean ====
section
/-!
DEFINITION. The rows of *Sensor Inputs and Fusion* that bring inputs and carry streams and frames forward (R274–R325).
-/

namespace Sys2Proof.Machine

/-- Device time d lies on the grid of analogue instants, of inertial instants, or of acoustic instants (R275). DEDUCED: an acoustic
instant that is no whole ns is told rounded down (log entry 183). -/
def analogueInstant (d : Nat) : Bool := d % (100 * us) == 0
def inertialInstant (d : Nat) : Bool := d % (2500 * us) == 0
def acousticInstant (d : Nat) : Bool :=
  let x := d % sec
  decide (ceilDiv (x * 192000) sec * sec < (x + 1) * 192000)

/-- The digital inputs are scanned: a change is stamped with the instant of the scan that sees it (R274). -/
def scanDigital (l d : Nat) (s : State) : State :=
  let changed := (upFrom 0 16).filter (fun i => bitAt l i != bitAt s.inp.din i)
  { s with inp := { s.inp with din := l, dinAt := foldOver (fun m i => putNum m i d) s.inp.dinAt changed } }

/-- The edges that a frequency input has counted in the interval of 100 µs that ends, each with its stamp (R274, R282). -/
def countEdges (i : Nat) (ago : List Nat) (d : Nat) (s : State) : State :=
  let s := if ago.isEmpty then s else { s with inp := { s.inp with edgeAt := putNum s.inp.edgeAt i (ago.map (fun a => d - a)) } }
  underHeld (gatherSample 5 i ago.length d) s

/-- A sample of an input is held by the Signal die with the device time of its instant (R274, R399, R401), and sent as telemetry to the
streams that it feeds (R276). Analogue, acoustic and inertial samples, and the counts of edges, are taken at their instants only (R275,
R282). -/
def takeReading (r : Reading) (s : State) : State :=
  let d := deviceTime s
  if !powered s then s
  else
  match r with
  | .analogue i c =>
    if !islandOpen s 0 || !analogueInstant d then s
    else underHeld (gatherSample 4 i c.toNat d) { s with inp := { s.inp with ain := putNum s.inp.ain i ((c.toNat : Int), d) } }
  | .frequency i v => { s with inp := { s.inp with freq := putNum s.inp.freq i (v, d) } }
  | .edges i ago => if !analogueInstant d || ago.any (fun a => decide (100 * us ≤ a)) then s else countEdges i ago d s
  | .acoustic i c =>
    if !islandOpen s 1 || !acousticInstant d then s
    else underHeld (gatherSample 3 i c.toNat d) { s with inp := { s.inp with acoustic := putNum s.inp.acoustic i ((c.toNat : Int), d) } }
  | .logic mv ign =>
    let s := (gather 3 mv (s.put F.PWR_SUPPLY_LOGIC_MV (satN 16 mv))).put F.PWR_SUPPLY_IGN (b2n ign)
    { s with pwr := { s.pwr with ignLowFrom := if ign then none else if s.pwr.ignLowFrom.isSome then s.pwr.ignLowFrom else some s.now } }
  | .digital l => scanDigital l.toNat d s
  | .inertial ax ay az gx gy gz =>
    if !inertialInstant d then s else { s with inp := { s.inp with imu := [ax, ay, az, gx, gy, gz], imuAt := d } }

/-- CAMERA_FRAME (R274): a frame of so many lines and so many pixels a line on a virtual channel of a camera input, with the first 8
bytes of its embedded data line. -/
def execCameraFrame (t cam lines len : Nat) (stime : BitVec 64) (px : CameraData) (s : State) : Res :=
  let s := begin_ t s
  .next (if islandOpen s (6 + cam) then underHeld (cameraFrame cam lines len stime.toNat px) s else s)

/-- LIDAR_DATAGRAM (R279): a UDP datagram on the SENSOR port. -/
def execLidarDatagram (t : Nat) (port : BitVec 16) (d : Bytes) (s : State) : Res :=
  let s := begin_ t s
  .next (if islandOpen s 10 then underHeld (lidarDatagram port.toNat d) s else s)

/-- MODEL_INVOCATION_DONE (R304): the invocation of a stream's model completes. -/
def execModelInvocationDone (t slot : Nat) (s : State) : Res :=
  let s := begin_ t s
  .next (if slot < 20 ∧ s.die.yardUp = true then underHeld (invocationDone slot) s else s)

/-- STREAM_LOST (R283). -/
def execStreamLost (t slot : Nat) (s : State) : Res :=
  let s := begin_ t s
  .next (if slot < 20 then streamLost slot s else s)

/-- STREAM_RETIRED (R284). -/
def execStreamRetired (t slot : Nat) (s : State) : Res :=
  let s := begin_ t s
  .next (if slot < 20 then streamExpired slot s else s)

/-- FUSION_FRAME (R317, R370): a frame boundary. -/
def execFusionFrame (t : Nat) (s : State) : Res := .next (headlandStep (fusionFrame (begin_ t s)))

/-- HMAP_WRITE (R307): a value is written to FUS_HMAP_n. -/
def execHmapWrite (t n : Nat) (v : BitVec 32) (s : State) : Res :=
  let s := begin_ t s
  .next (if n < 64 ∧ s.die.yardUp = true then s.setReg (Reg.FUS_HMAP n) v.toNat else s)

/-- REMAP_DONE (R307): tREMAP has passed since the write. -/
def execRemapDone (t : Nat) (s : State) : Res :=
  let s := begin_ t s
  .next (if s.die.yardUp then remap s else s)

/-- SENSOR_ARP_ICMP (R280): an ARP request or an ICMP echo request with its data on the SENSOR port. -/
def execSensorArpIcmp (t : Nat) (q : NetProbe) (s : State) : Res :=
  let s := begin_ t s
  .next (if s.die.yardUp && islandOpen s 10 then emit (.netReply false q) s else s)

end Sys2Proof.Machine
end

