-- ==== Sys2Proof/Machine/Nav.lean ====
section
/-!
DEFINITION. *Satellite Navigation*: the receiver, corrections, device time and the time pulse (R488–R524).
-/

namespace Sys2Proof.Machine

/-- The receiver runs: EN, and the terminus or relief role, with the Yard die in service (R57, R541). -/
def gnssOn (s : State) : Bool := s.flag F.GNS_CFG_EN && (isTerminus s || isRelief s) && s.die.yardUp && islandOpen s 11

/-- TSTATE codes (R512). -/
def tsOff : Nat := 0
def tsAcquiring : Nat := 1
def tsLocked : Nat := 2
def tsHoldover : Nat := 3
def tsStepPending : Nat := 4

def tstate (s : State) : Nat := s.get F.GNS_STATUS_TSTATE
def timeValid (s : State) : Bool := s.flag F.GNS_STATUS_TIME_VALID

/-! ### Corrections (R503–R507) -/

/-- A correction source by its code 1–3. -/
def corrSource (s : State) (k : Nat) : CorrSource := nth s.nav.sources (k - 1) {}

/-- The state with a correction source changed. -/
def modSource (k : Nat) (f : CorrSource → CorrSource) (s : State) : State :=
  { s with nav := { s.nav with sources := setNth s.nav.sources (k - 1) (f (corrSource s k)) } }

/-- AGE_MAX in ns. -/
def ageMax (s : State) : Nat := s.get F.GNS_RTK_CFG_AGE_MAX * sec

/-- A source is current: its newest observation message is not older than AGE_MAX (R505, R507). -/
def sourceCurrent (s : State) (k : Nat) : Bool :=
  match (corrSource s k).lastObs with
  | none => false
  | some o => decide (s.now ≤ o + ageMax s)

/-- The sources in priority order (R505). -/
def sourceOrder (s : State) : List Nat :=
  [s.get F.GNS_RTK_CFG_SRC1, s.get F.GNS_RTK_CFG_SRC2, s.get F.GNS_RTK_CFG_SRC3].filter (fun k => k != 0)

/-- A source has delivered 5 s of observations. -/
def sourceSteady (s : State) (k : Nat) : Bool := sourceCurrent s k && decide ((corrSource s k).since + 5 * sec ≤ s.now)

/-- The sources before one in a list. -/
def before (k : Nat) : List Nat → List Nat
  | [] => []
  | a :: l => if a = k then [] else a :: before k l

/-- The sources after one in a list. -/
def after (k : Nat) : List Nat → List Nat
  | [] => []
  | a :: l => if a = k then l else after k l

/-- The source to use (R505): a higher one once it has delivered 5 s of observations, a lower one once the source in use is stale. -/
def chooseSource (s : State) : Nat :=
  let l := sourceOrder s
  let use := s.get F.GNS_CORR_SRC
  if !l.contains use then (l.find? (sourceCurrent s)).getD 0
  else
    match (before use l).find? (sourceSteady s) with
    | some k => k
    | none => if sourceCurrent s use then use else ((after use l).find? (sourceCurrent s)).getD use

/-- The source in use and its base station follow the choice of R505, a change of base station restarts ambiguity resolution, and CORR_OK
follows the age of the observations (R507). -/
def refreshSource (s : State) : State :=
  let k := chooseSource s
  let was := s.get F.GNS_CORR_BASE
  let s := (s.put F.GNS_CORR_SRC k).put F.GNS_CORR_BASE (if k = 0 then 0 else (corrSource s k).base)
  let s := if k ≠ 0 ∧ s.get F.GNS_CORR_BASE ≠ was then { s with nav := { s.nav with restart := true } } else s
  let fresh := k != 0 && sourceCurrent s k
  if s.flag F.GNS_STATUS_CORR_OK && !fresh then raise0 Src.GNS_CORR_STALE (s.put F.GNS_STATUS_CORR_OK 0)
  else s.put F.GNS_STATUS_CORR_OK (b2n fresh)

/-- Message numbers of R503: observations, base positions, ephemerides, and those accepted and not used. -/
def obsMessages : List Nat := [1074, 1077, 1094, 1097, 1114, 1117, 1124, 1127]
def aidMessages : List Nat := [1005, 1006, 1019, 1042, 1044, 1045, 1046]
def idleMessages : List Nat := [1007, 1008, 1033]

/-- Number and station of an RTCM message. -/
def rtcmNumber (b : Bytes) : Nat := beNat (b.take 2) / 16
def rtcmStation (b : Bytes) : Nat := beNat ((b.drop 1).take 2) % 4096

/-- The satellite of an ephemeris message, as system and number (R499, R503). PRESUMED: the fields are those of the RTCM 3 standard (log
entry 216). -/
def rtcmOrbit (n : Nat) (b : Bytes) : Option (Nat × Nat) :=
  let v := beNat (b.take 3)
  if n = 1019 then some (0, v / 64 % 64)
  else if n = 1042 then some (2, v / 64 % 64)
  else if n = 1044 then some (3, v / 256 % 16)
  else if n = 1045 ∨ n = 1046 then some (1, v / 64 % 64)
  else none

/-- The identifiers that the signals of R495 have in the signal mask of an observation message. PRESUMED: as in the RTCM 3 standard (log
entry 216). -/
def maskSignals (n : Nat) : List Nat :=
  if n < 1090 then [2, 23, 24, 31, 32] else if n < 1110 then [2, 4, 5, 23, 24] else if n < 1120 then [2, 23, 24] else [23, 24, 30, 31, 32]

/-- An observation message has observations of a signal of R495. -/
def observesTracked (n : Nat) (b : Bytes) : Bool :=
  let mask := beNat ((b ++ List.replicate 22 0#8).take 22) / 128
  (maskSignals n).any (fun i => bitAt mask (32 - i))

/-- The orbit of a satellite is known from an instant on. -/
def learnOrbit (sys sv : Nat) (s : State) : State :=
  { s with nav := { s.nav with
    orbits := s.nav.orbits.filter (fun e => !(e.1 == sys && e.2.1 == sv)) ++ [(sys, sv, s.now)] } }

/-- A message of a source is used or counted (R499, R503, R505). Ephemerides are kept for each satellite. -/
def takeRtcm (k : Nat) (frame msg : Bytes) (s : State) : State :=
  let n := rtcmNumber msg
  let relay := fun (s : State) => if k = 2 || !isTerminus s || !s.flag F.CST_CFG_RELAY_TX || s.get F.CST_STATUS_STATE != 2 then s else { s with nav := { s.nav with relay := s.nav.relay ++ [(k, frame)] } }
  if obsMessages.contains n then
    if s.flag F.GNS_RTK_CFG_BASE_FILT && rtcmStation msg != s.get F.GNS_RTK_CFG_BASE_ID then s
    else if !observesTracked n msg then relay s
    else
      let s := relay (s.wrapUp F.GNS_RTCM_CNT_ACCEPTED 1)
      let steady := sourceCurrent s k
      refreshSource
        (modSource k (fun x => { x with lastObs := some s.now, base := rtcmStation msg,
                                        since := if steady then x.since else s.now }) s)
  else if aidMessages.contains n then
    let sat := match rtcmOrbit n msg with
      | none => 0
      | some o => o.2
    let s := { s with nav := { s.nav with aiding := putNum s.nav.aiding (64 * n + sat) msg } }
    let s := match rtcmOrbit n msg with
      | none => s
      | some o => learnOrbit o.1 o.2 s
    relay (State.wrapUp s F.GNS_RTCM_CNT_ACCEPTED 1)
  else if idleMessages.contains n then relay s
  else s.bump F.GNS_RTCM_CNT_UNSUPPORTED 1

/-- The bytes from the next preamble on (R504). -/
def toPreamble : Bytes → Bytes
  | [] => []
  | b :: l => if b = 0xD3#8 then b :: l else toPreamble l

/-- One transport frame is framed from the stream of a source, if it is whole (R504). -/
def rtcmFrame (k : Nat) (s : State) : State :=
  let b := toPreamble (corrSource s k).buffer
  let len := beNat ((b.drop 1).take 2) % 1024
  if b.length < 3 ∨ b.length < len + 6 then modSource k (fun x => { x with buffer := b }) s
  else if crc24q (b.take (len + 3)) ≠ beNat ((b.drop (len + 3)).take 3) then
    (modSource k (fun x => { x with buffer := toPreamble (b.drop 1) }) s).bump F.GNS_RTCM_CNT_CRC_FAIL 1
  else
    takeRtcm k (b.take (len + 6)) ((b.drop 3).take len) (modSource k (fun x => { x with buffer := b.drop (len + 6) }) s)

/-- Bytes of a correction source arrive. -/
def feedSource (k : Nat) (b : Bytes) (s : State) : State := modSource k (fun x => { x with buffer := x.buffer ++ b }) s

/-- RTCM_FEED (R506). -/
def runRtcmFeed (p : Request) (s : State) : Answer :=
  if p.target ≠ 0#8 then refuse s St.badTarget
  else if fieldAt p.params 0 1 ≠ 1 then refuse s St.badParam
  else ok (feedSource 1 (p.params.drop 4) s) []

/-- PARAM_LEN of RTCM_FEED. -/
def lenRtcmFeed (ps : Bytes) : Bool := decide (5 ≤ ps.length) && decide (ps.length ≤ 1400)

/-! ### Time states (R488–R491, R512–R516) -/

/-- How fast the error estimate grows, in 10⁻¹⁰ ns per ns, on the reference of the time base: 13.8 ns, 100 µs or 50 ms
per second (R513, R608). -/
def growthRate (s : State) : Nat :=
  if s.get F.CLK_SRC_TIME = 0 then 138 else if s.get F.CLK_SRC_TIME = 1 then 1000000 else 500000000

/-- The growth of the estimate since the last solution that disciplined device time, in 10⁻¹⁰ ns. -/
def errorGrowth (s : State) : Nat :=
  if s.nav.errFrom ≤ s.nav.lastDisciplined then growthRate s * (s.now - s.nav.lastDisciplined)
  else s.nav.errAcc + growthRate s * (s.now - s.nav.errFrom)

/-- The estimate E(t) of R513 in ns, rounded up. -/
def holdoverError (s : State) : Nat := ceilDiv (20 * 10000000000 + errorGrowth s) 10000000000

/-- What the slew that goes on has still to remove, ns. -/
def slewLeft (s : State) : Nat :=
  match s.steer with
  | none => 0
  | some v => (v.base + v.off - s.devOff).natAbs

/-- GNS_TERR (R513, R544). A station reads 0 (R549). -/
def terr (s : State) : Nat :=
  if !(isTerminus s || isRelief s) then 0
  else if !timeValid s then 4294967295
  else if tstate s = tsLocked then 20 + (if s.flag F.GNS_STATUS_SLEWING then slewLeft s else 0)
  else satN 32 (holdoverError s)

/-- The status registers of the receiver, but for those of the pulse, which stations emit as well (R510, R519, R549). -/
def receiverReg (a : Nat) : Bool :=
  decide (Reg.GNS_STATUS ≤ a) && decide (a ≤ Reg.GNS_RTCM_CNT) && a != Reg.GNS_TOP_LO && a != Reg.GNS_TOP_HI && a != Reg.GNS_TOP_FLAGS

/-- The GNS registers that are computed: those of the receiver on a station, which read 0 (R549), TERR, HOLD_S, AGE, and GRACE of steering that goes on while the fix or heading is
degraded (R537). -/
def navOverlay (s : State) (a : Nat) : Option Nat :=
  if receiverReg a && !(isTerminus s || isRelief s) then some 0
  else if a = Reg.GNS_TERR then some (terr s)
  else if a = Reg.GNS_HOLD then
    some (if tstate s = tsHoldover ∨ tstate s = tsStepPending then (s.now - s.nav.lastDisciplined) / sec else 0)
  else if a = Reg.GNS_CORR then
    let k := s.get F.GNS_CORR_SRC
    let age := if !(isTerminus s || isRelief s) then 0 else if k = 0 then 65535 else match (corrSource s k).lastObs with
      | none => 65535
      | some o => satN 16 (roundDiv (s.now - o : Nat) (100 * ms)).toNat
    some (setBitsAt (s.reg a) 16 16 age)
  else if a = Reg.GNS_STEER_STATUS then
    let grace := s.flag F.GNS_STEER_STATUS_ENGAGED && (s.nav.fixBadSince.isSome || s.nav.hdgBadSince.isSome)
    some (setBitsAt (s.reg a) 3 1 (b2n grace))
  else none

/-- The GPS time of a solution: the time of another system is converted with the offset that it broadcasts (R488). DEDUCED: without it the
solution gives no GPS time (log entry 217). -/
def gpsTime (s : State) (x : GnssFix) : Option Int :=
  if x.system = 0#2 then some x.gnssTime else (lookupNum s.nav.sysOffset x.system.toNat).map (fun o => x.gnssTime + o)

/-- A time solution is valid (R512). -/
def timeSolution (s : State) (x : GnssFix) : Bool :=
  decide (4 ≤ (x.used.filter (fun e =>
    decide (s.get F.GNS_CFG_ELEV ≤ e.1) && decide (s.get F.GNS_CFG_CN0_MIN ≤ e.2))).length) && (gpsTime s x).isSome

/-- A step is scheduled (R516): H is the first half-second at least 100 ms ahead. -/
def scheduleStep (off : Int) (s : State) : State :=
  let d := deviceTime s + 100 * ms
  let h := (d + 500 * ms - 1) / sec * sec + 500 * ms
  State.put { s with nav := { s.nav with step := some { h := h, off := off, first := !timeValid s } } }
    F.GNS_STATUS_TSTATE tsStepPending

/-- A slew begins: 50 ns per second until the offset is removed (R515). -/
def beginSlew (off : Int) (s : State) : State :=
  (beginSteer off (off.natAbs * 20000000) s).put F.GNS_STATUS_SLEWING (b2n (off != 0))

/-- A valid solution disciplines device time in LOCKED: frequency only, at most 50 ns per second (R490). A slew goes on
undisturbed. -/
def disciplineLocked (off : Int) (s : State) : State :=
  let s := { s with nav := { s.nav with lastDisciplined := s.now } }
  if s.flag F.GNS_STATUS_SLEWING then s
  else
    let r := min 50 (Config.steerRate s.drawn).toNat
    let s := { s with drawn := s.drawn + 1 }
    if r = 0 then { s with steer := none } else beginSteer off (off.natAbs * sec / r) s

/-- HOLDOVER begins (R513). -/
def enterHoldover (s : State) : State :=
  raise0 Src.GNS_HOLDOVER_IN ({ (s.put F.GNS_STATUS_TSTATE tsHoldover) with steer := none }.put F.GNS_STATUS_SLEWING 0)

/-- The time discipline of one epoch (R514); the mean offset is compared exactly, and applied in whole ns. -/
def discipline (valid : Bool) (off : Int) (s : State) : State :=
  let st := tstate s
  let lastBefore := s.nav.lastValid
  let s := if valid then { s with nav := { s.nav with lastValid := s.now } } else s
  if st = tsLocked then
    if valid then disciplineLocked off s
    else if lastBefore + sec ≤ s.now then enterHoldover s
    else s
  else if st = tsAcquiring ∨ st = tsHoldover then
    if valid then
      let good := s.nav.good + 1
      let acc := s.nav.acc + off
      if good < 10 then { s with nav := { s.nav with good := good, acc := acc } }
      else
        let mean := roundDiv acc 10
        let s := { s with nav := { s.nav with good := 0, acc := 0 } }
        if st = tsAcquiring ∨ acc.natAbs ≥ 10000 then scheduleStep mean s
        else
          raise0 Src.GNS_TIME_SLEW
            (beginSlew mean (State.put { s with nav := { s.nav with lastDisciplined := s.now } } F.GNS_STATUS_TSTATE tsLocked))
    else { s with nav := { s.nav with good := 0, acc := 0 } }
  else s

/-- The terminus starts its time state when it takes the role or its receiver starts (R512, R53). -/
def startTimeState (s : State) : State :=
  if !s.flag F.GNS_CFG_EN || !isTerminus s then s.put F.GNS_STATUS_TSTATE tsOff
  else if tstate s ≠ tsOff then s
  else s.put F.GNS_STATUS_TSTATE (if timeValid s then tsHoldover else tsAcquiring)

/-! ### Channels, starts and attitude (R495–R501, R508, R509) -/

/-- The system of a signal (R495): 0 GPS, 1 Galileo, 2 BeiDou, 3 QZSS. -/
def sigSystem (sig : Nat) : Nat := if sig ≤ 3 then 0 else if sig ≤ 6 then 1 else if sig ≤ 9 then 2 else 3

/-- The baseband tracks a signal: one of R495, of a system and a band that are in use (R541). -/
def trackable (s : State) (sig : Nat) : Bool :=
  decide (1 ≤ sig) && decide (sig ≤ 11) && s.bit F.GNS_CFG_CONST (sigSystem sig) &&
    s.bit F.GNS_CFG_BANDS (if [3, 6, 9, 11].contains sig then 1 else 0)

/-- The orbit of the satellite of a signal is known (R499). -/
def orbitKnown (s : State) (sig sv : Nat) : Bool := s.nav.orbits.any (fun e => e.1 == sigSystem sig && e.2.1 == sv)

/-- The start is a hot one (R500): an ephemeris less than 2 h old, a position, and TIME_VALID. DEDUCED: the position last reported is within
10 km, since it is dropped with the power (log entry 218). -/
def hotStart (s : State) : Bool :=
  timeValid s && s.nav.knownAt.isSome && s.nav.orbits.any (fun e => decide (s.now < e.2.2 + 7200 * sec))

/-- The receiver starts, where it runs and did not (R499, R500). -/
def receiverStart (s : State) : State :=
  if !gnssOn s || s.nav.running then s
  else { s with nav := { s.nav with running := true, hot := hotStart s, engines := List.replicate 16 s.now, epochAt := none } }

/-- The channels of the receiver are idle. -/
def channelsIdle (s : State) : State :=
  { s with regs := storeDrop (fun a => decide (Reg.GNS_CH_SIG 0 ≤ a) && decide (a < Reg.GNS_CH_SIG 128)) s.regs }.put F.GNS_STATUS_CHANNELS 0

/-- The receiver stops, where it ran (R57, R502, R508): no fix, no heading, no channel. -/
def receiverStop (s : State) : State :=
  if gnssOn s || !s.nav.running then s
  else
    let fix := s.get F.GNS_STATUS_FIX
    let hdg := s.flag F.GNS_STATUS_HEADING_VALID
    let s := channelsIdle { s with nav := { s.nav with running := false } }
    let s := ((s.put F.GNS_STATUS_FIX 0).put F.GNS_STATUS_SATS 0).put F.GNS_STATUS_HEADING_VALID 0
    let s := if fix = 0 then s else raise0 Src.GNS_FIX_CHANGE s
    if hdg then raise0 Src.GNS_HEADING_LOST s else s

/-- A terminus whose receiver does not run enters HOLDOVER as well once no time solution has been valid for 1 s (R513). -/
def holdoverWatch (s : State) : State :=
  if isTerminus s ∧ s.die.yardUp = true ∧ gnssOn s = false ∧ tstate s = tsLocked ∧ s.nav.lastValid + sec ≤ s.now then enterHoldover s else s

/-- What follows the receiver in every cycle. -/
def receiverWatch (s : State) : State := holdoverWatch (receiverStop (receiverStart s))

/-- The configured distance of the antennas squared, in (0.1 mm)². -/
def baselineSquare (s : State) : Int :=
  let dx := s.gets F.GNS_ANT_B_X_V - s.gets F.GNS_ANT_A_X_V
  let dy := s.gets F.GNS_ANT_B_Y_V - s.gets F.GNS_ANT_A_Y_V
  let dz := s.gets F.GNS_ANT_B_Z_V - s.gets F.GNS_ANT_A_Z_V
  dx * dx + dy * dy + dz * dz

/-- The channels that track: signal, satellite, and antenna B. -/
def trackedSignals (s : State) : List (Nat × Nat × Bool) :=
  ((upFrom 0 128).filter (fun n => s.get (F.GNS_CH_SIG_STATE n) == 3)).map (fun n =>
    (s.get (F.GNS_CH_SIG_SIG n), s.get (F.GNS_CH_SIG_SV n), s.flag (F.GNS_CH_SIG_ANT n)))

/-- The satellites of which the same signal is tracked on both antennas (R496, R508). -/
def onBoth (s : State) : Nat :=
  let l := trackedSignals s
  (distinct ((l.filter (fun e => !e.2.2 && l.contains (e.1, e.2.1, true))).map (fun e => 256 * sigSystem e.1 + e.2.1))).length

/-- HEADING_VALID of an epoch (R508): at least 5 satellites on both antennas and the baseline within 20 mm. -/
def headingOk (s : State) (x : GnssFix) : Bool :=
  let l : Int := x.baseline
  let c := baselineSquare s
  decide (5 ≤ onBoth s) && decide (c ≤ (l + 200) * (l + 200)) && (decide (l ≤ 200) || decide ((l - 200) * (l - 200) ≤ c))

/-- The corrected GPS time minus device time at an epoch (R488, R494). -/
def timeOffset (s : State) (x : GnssFix) : Int :=
  (gpsTime s x).getD x.gnssTime - s.get F.GNS_ANT_CFG_ANT_DELAY - (deviceTime s : Int)

/-- Degrees × 10⁻⁹ in radians. -/
def gRadians (v : Int) : F64 := gMul (gRat v 180000000000) gPi

/-- A heading in 0.001° in radians. -/
def headingRad (h : Nat) : F64 := gMul (gRat h 180000) gPi

/-- A point of the machine frame, in m forward and to the left, seen from a machine position with a heading. -/
def fromMachine (pos : F64 × F64) (heading : F64) (x y : F64) : F64 × F64 :=
  let sn := gSin heading
  let cs := gCos heading
  (gAdd pos.1 (gSub (gMul x sn) (gMul y cs)), gAdd pos.2 (gAdd (gMul x cs) (gMul y sn)))

/-- The heading of the machine in 0.001° from the direction of the baseline: less the direction that the configured antenna positions give
the baseline in the machine frame (R508). -/
def machineHeading (s : State) (azimuth : Nat) : Nat :=
  let dx := s.gets F.GNS_ANT_B_X_V - s.gets F.GNS_ANT_A_X_V
  let dy := s.gets F.GNS_ANT_B_Y_V - s.gets F.GNS_ANT_A_Y_V
  let rel : Int := if dy = 0 ∧ 0 ≤ dx then 0 else gScaled (gDiv (gAtan2 (gInt (-dy)) (gInt dx)) gPi) 180000 1
  (((azimuth : Int) - rel) % 360000).toNat

/-- The inertial sample rotated into the machine frame by GNS_IMU_QW–QZ, Q2.30, rounded to its own units (R509). -/
def imuMachine (s : State) : List Int :=
  let w := s.gets F.GNS_IMU_QW_V
  let x := s.gets F.GNS_IMU_QX_V
  let y := s.gets F.GNS_IMU_QY_V
  let z := s.gets F.GNS_IMU_QZ_V
  let turn := fun (a b c : Int) =>
    [(w * w + x * x - y * y - z * z) * a + 2 * (x * y - w * z) * b + 2 * (x * z + w * y) * c,
     2 * (x * y + w * z) * a + (w * w - x * x + y * y - z * z) * b + 2 * (y * z - w * x) * c,
     2 * (x * z - w * y) * a + 2 * (y * z + w * x) * b + (w * w - x * x - y * y + z * z) * c]
  let i := fun k => nth s.inp.imu k 0
  (turn (i 0) (i 1) (i 2) ++ turn (i 3) (i 4) (i 5)).map (fun v => roundDiv v (2 ^ 60))

/-- ROLL and PITCH, from the inertial sample in the machine frame, aided by the baseline (R509). -/
def setAttitude (baseline azimuth : Nat) (s : State) : State :=
  let a := Config.attitude (imuMachine s) baseline azimuth
  (s.puts F.GNS_ATT_ROLL a.1).puts F.GNS_ATT_PITCH a.2

/-- The origin of the machine frame, 10⁻⁹ degree and mm, from the position of antenna A, through its lever arm and the attitude that is
reported (R501). DESIGN CHOICE: the arm is turned by roll about x, then by pitch, nose up, then by heading, and taken off along the
principal radii of the WGS 84 ellipsoid, in binary64 (log entry 219). -/
def machineOrigin (s : State) (lat lon hgt : Int) : Int × Int × Int :=
  let ax := s.gets F.GNS_ANT_A_X_V
  let ay := s.gets F.GNS_ANT_A_Y_V
  let az := s.gets F.GNS_ANT_A_Z_V
  if ax = 0 ∧ ay = 0 ∧ az = 0 then (lat, lon, hgt)
  else
    let m := fun (v : Int) => gRat v 10000
    let deg := fun (v : Int) => gMul (gRat v 18000) gPi
    let roll := deg (s.gets F.GNS_ATT_ROLL)
    let pitch := deg (s.gets F.GNS_ATT_PITCH)
    let y := gSub (gMul (m ay) (gCos roll)) (gMul (m az) (gSin roll))
    let z := gAdd (gMul (m ay) (gSin roll)) (gMul (m az) (gCos roll))
    let x := gSub (gMul (m ax) (gCos pitch)) (gMul z (gSin pitch))
    let up := gAdd (gMul (m ax) (gSin pitch)) (gMul z (gCos pitch))
    let en := fromMachine (some ⟨0, 0⟩, some ⟨0, 0⟩) (headingRad (s.get F.GNS_HDG_HEADING)) x y
    let a := gInt 6378137
    let f := gDiv (gInt 1) (gRat 298257223563 1000000000)
    let e2 := gMul f (gSub (gInt 2) f)
    let sn := gSin (gRadians lat)
    let q := gSub (gInt 1) (gMul e2 (gMul sn sn))
    let n := gDiv a (gSqrt q)
    let mer := gDiv (gMul n (gSub (gInt 1) e2)) q
    let h := gRat hgt 1000
    let nano := fun (v : F64) => gScaled (gDiv v gPi) 180000000000 1
    (lat - nano (gDiv en.2 (gAdd mer h)), lon - nano (gDiv en.1 (gMul (gAdd n h) (gCos (gRadians lat)))), hgt - gScaled up 1000 1)

/-- The position of antenna A is reported as that of the origin of the machine frame (R501). -/
def reportPosition (lat lon hgt : Int) (s : State) : State :=
  let o := machineOrigin s lat lon hgt
  let s := ((s.put64 Reg.GNS_LAT_LO Reg.GNS_LAT_HI (toBits 64 o.1)).put64 Reg.GNS_LON_LO Reg.GNS_LON_HI (toBits 64 o.2.1)).puts
    (⟨Reg.GNS_HGT, 0, 32⟩ : Fld) o.2.2
  { s with nav := { s.nav with knownAt := some (o.1, o.2.1), posAt := deviceTime s } }

/-- A carrier phase may be used in RTK (R498): some channel has held lock without a slip for 1 s. -/
def carrierUsable (s : State) : Bool :=
  (upFrom 0 128).any (fun n =>
    s.get (F.GNS_CH_SIG_STATE n) == 3 && decide (1000 ≤ s.get (F.GNS_CH_LOCK_LOCK_MS n)) && !s.flag (F.GNS_CH_SIG_SLIP n))

/-- The kind of a solution (R502, R505, R507): none beyond FIXED; SPS without corrections; no RTK without a carrier phase of R498; FLOAT at
the epoch at which ambiguity resolution starts again. -/
def fixKind (s : State) (x : GnssFix) : Nat :=
  let k := min x.fix.toNat 4
  let k := if s.flag F.GNS_STATUS_CORR_OK then k else min k 1
  let k := if carrierUsable s then k else min k 2
  if s.nav.restart then min k 3 else k

/-- The solution of an epoch is reported (R501–R509). -/
def reportFix (x : GnssFix) (s : State) : State :=
  let fix := fixKind s x
  let wasFix := s.get F.GNS_STATUS_FIX
  let s := { s with nav := { s.nav with restart := false } }
  let s := (s.put F.GNS_STATUS_FIX fix).put F.GNS_STATUS_SATS (satN 6 x.used.length)
  let s := if fix ≠ wasFix then raise0 Src.GNS_FIX_CHANGE s else s
  let s := s.puts F.GNS_VEL_SPEED x.speed
  let ok_ := headingOk s x
  let was := s.flag F.GNS_STATUS_HEADING_VALID
  let s := if ok_ then s.put F.GNS_HDG_HEADING (machineHeading s x.azimuth) else s
  let s := setAttitude x.baseline x.azimuth (s.put F.GNS_STATUS_HEADING_VALID (b2n ok_))
  let s := if was && !ok_ then raise0 Src.GNS_HEADING_LOST s else s
  let s := if fix = 0 then s else reportPosition x.lat x.lon x.hgt s
  match x.leap with
  | none => s
  | some l => (s.puts F.GNS_LEAP_LEAP l).put F.GNS_LEAP_LEAP_VALID 1

/-- When the fix and the heading became worse than steering asks (R537). -/
def fixWatch (s : State) : State :=
  let since := fun (bad : Bool) (o : Option Nat) => if bad then some (o.getD s.now) else none
  let fb := decide (s.get F.GNS_STATUS_FIX < s.get F.GNS_STEER_ENG_FIX_MIN)
  let hb := !s.flag F.GNS_STATUS_HEADING_VALID
  let v := s.gets F.GNS_VEL_SPEED
  -- 0.1 km/h is 1,000 / 36 mm/s
  let sb := decide (v * 36 < s.get F.GNS_STEER_SPD_SPEED_MIN * 1000) || decide (v * 36 > s.get F.GNS_STEER_SPD_SPEED_MAX * 1000)
  { s with nav := { s.nav with fixBadSince := since fb s.nav.fixBadSince, hdgBadSince := since hb s.nav.hdgBadSince,
                               spdBadSince := since sb s.nav.spdBadSince } }

/-- Epochs in a second (R541): the codes 0–3 of EPOCH, which R540 holds to them. -/
def epochRate (s : State) : Nat := nth [1, 5, 10, 20] (s.get F.GNS_CFG_EPOCH) 20

/-- A measurement epoch is due: the first instant in a period of EPOCH on device time (R501). -/
def epochDue (s : State) : Bool :=
  let per := sec / epochRate s
  match s.nav.epochAt with
  | none => true
  | some d => d / per != deviceTime s / per

/-- What the measurements and the navigation data of an epoch bring: the C/N0 of the satellites used, orbits, and the offsets of the
systems (R488, R499, R723). -/
def takeNavData (x : GnssFix) (s : State) : State :=
  let s := { s with nav := { s.nav with
    epochAt := some (deviceTime s), sysOffset := foldOver (fun l (e : Nat × Int) => putNum l e.1 e.2) s.nav.sysOffset x.offsets } }
  let s := foldOver (fun s (e : Nat × Nat) => gather 59 e.2 s) s x.used
  foldOver (fun s (o : Nat × Nat) => learnOrbit o.1 o.2 s) s x.orbits

/-- A measurement epoch (R501, R514, R521). -/
def gnssEpoch (x : GnssFix) (s : State) : State :=
  let s := receiverWatch s
  if !gnssOn s || !epochDue s then s
  else
    let s := takeNavData x (startTimeState s)
    let valid := timeSolution s x
    let off := timeOffset s x
    let s := if valid then State.puts { s with nav := { s.nav with lastOffset := off } } F.GNS_OFFSET_OFFSET off else s
    let s := fixWatch (reportFix x (refreshSource s))
    if isTerminus s then discipline valid off s
    else if valid then { s with nav := { s.nav with lastValid := s.now } } else s

/-- SLEWING clears once the offset is removed (R515). -/
def slewEnd (s : State) : State :=
  if s.steer.isNone then s.put F.GNS_STATUS_SLEWING 0 else s

/-- The instant of device time at which the step is due: where H begins on the corrected time, so that the cycle before H lasts 1 ms less the
step; a step of a cycle or more forward, as a first alignment is, at the end of that cycle (R516). -/
def stepDue (s : State) (x : TimeStep) : Bool :=
  if x.off < (ms : Int) then decide ((x.h : Int) ≤ (deviceTime s : Int) + x.off) else decide (x.h ≤ deviceTime s)

/-- The cycle before H has not ended while the step at its end is to come (R516). -/
def stepHolds (s : State) : Bool :=
  match s.nav.step with
  | none => false
  | some x => isTerminus s && decide (x.h ≤ deviceTime s)

/-- The pulse of the first whole second after a step is suppressed, and the next is the realigned one (R518). -/
def suppressPulse (s : State) : State :=
  let k := deviceTime s / sec + 1
  { s with nav := { s.nav with suppressed := some k, realigned := some (k + 1) } }

/-- The step of R516, on the terminus. -/
def timeStep (s : State) : State :=
  match s.nav.step with
  | none => s
  | some x =>
    if !isTerminus s || !stepDue s x then s
    else
      let s := stepTime x.off { s with nav := { s.nav with step := none, lastDisciplined := s.now, lastValid := s.now } }
      let s := (s.put F.GNS_STATUS_TSTATE tsLocked).put F.GNS_STATUS_TIME_VALID 1
      raise0 (if x.first then Src.GNS_TIME_ALIGNED else Src.GNS_TIME_RESYNC) (suppressPulse s)

/-- Device time is disciplined by this module no longer (R521): a step that is pending, the solutions gathered and a slew are dropped. -/
def dropDiscipline (s : State) : State :=
  State.put { s with nav := { s.nav with step := none, good := 0, acc := 0 } } F.GNS_STATUS_SLEWING 0

/-- CYCLE_START of a cycle that starts at a device time carries RESYNC: it is one of the 8 before H (R516). -/
def resyncIn (s : State) (start : Nat) : Bool :=
  match s.nav.step with
  | none => false
  | some x => decide (x.h ≤ start + 8 * ms) && decide (start < x.h)

/-! ### The time pulse (R510, R511, R518, R519) -/

/-- PPS_DELAY for the pulse of a whole second (R511). -/
def ppsDelayOf (s : State) (k : Int) : Int :=
  match s.nav.ppsFrom with
  | some f => if k < f then s.nav.ppsBefore else s.gets F.GNS_PPS_DELAY_DELAY
  | none => s.gets F.GNS_PPS_DELAY_DELAY

/-- The whole second, in s, whose pulse rises now: its delay before it, or within 1 µs after (R510). -/
def pulseSecond (s : State) : Option Nat :=
  let at_ := fun (v : Int) =>
    let d := (deviceTime s : Int) + v
    if 0 ≤ d ∧ d % (sec : Int) < 1000 ∧ ppsDelayOf s (d / (sec : Int)) = v then some (d / (sec : Int)).toNat else none
  match at_ (s.gets F.GNS_PPS_DELAY_DELAY) with
  | some k => some k
  | none => at_ s.nav.ppsBefore

/-- TSTAT of the CYCLE_START that a module follows says whether Line time is aligned (R489, R512). DEDUCED: GNSS_LOCK says so; HOLDOVER says
so where it was aligned, or once it lasts longer than a pending first step may (log entry 221). -/
def noteTstat (tstat : Nat) (s : State) : State :=
  let from_ := if bitAt tstat 0 || !bitAt tstat 1 then none else some (s.nav.holdFrom.getD s.now)
  let held := match from_ with
    | none => false
    | some a => s.nav.lineAligned || decide (a + 1100 * ms ≤ s.now)
  { s with nav := { s.nav with lineAligned := bitAt tstat 0 || held, holdFrom := from_ } }

/-- The module's device time is valid for pulses: TIME_VALID, or Line time that is aligned (R510). -/
def pulseTime (s : State) : Bool :=
  timeValid s || (!(isTerminus s) && s.flag F.LIN_STATUS_SYNCED && s.nav.lineAligned)

/-- PPS_OUT is high: for 100 ms from its rising edge (R510). -/
def ppsOut (s : State) : Bool :=
  match s.nav.pulseAt with
  | none => false
  | some a => s.die.yardUp && decide (s.now < a + 100 * ms)

/-- PPS_OUT rises at the present instant (R510), PPS_DELAY before a whole second. -/
def timePulse (s : State) : State :=
  match pulseSecond s with
  | none => s
  | some k =>
    if !(s.flag F.GNS_PPS_CFG_PPS_EN && pulseTime s && s.die.yardUp) || s.nav.lastPulse == some k then s
    else
      let s := { s with nav := { s.nav with lastPulse := some k } }
      if s.nav.suppressed = some k then s
      else
        let s := s.put64 Reg.GNS_TOP_LO Reg.GNS_TOP_HI (k * sec)
        let st := tstate s
        let s := s.setReg Reg.GNS_TOP_FLAGS
          (b2n (st == tsLocked) + 2 * b2n (st == tsHoldover || st == tsStepPending) + 4 * b2n (s.nav.realigned == some k) +
            8 * s.get F.GNS_STATUS_SLEWING + 65536 * satN 16 (roundDiv (terr s) 10).toNat)
        emit .pps { s with nav := { s.nav with pulseAt := some s.now } }

/-- The first whole second whose pulse, with a delay, comes at least 100 ms after the present instant (R511). -/
def firstPulse (s : State) (delay : Int) : Int := -((-((deviceTime s : Int) + 100 * ms + delay)) / (sec : Int))

/-- DELAY is written and stored (R511); the status of the write. -/
def writePpsDelay (v : Int) (s : State) : State × Nat :=
  if v < -1000000 ∨ v > 1000000 then (s, St.badParam)
  else
    let before := ppsDelayOf s ((deviceTime s : Int) / (sec : Int) + 1)
    let s := { s with nav := { s.nav with ppsBefore := before, ppsFrom := some (firstPulse s v), ppsStored := v } }
    (s.puts F.GNS_PPS_DELAY_DELAY v, St.ok)

/-- PPS_DELAY_SET (R511). -/
def runPpsDelaySet (p : Request) (s : State) : Answer :=
  let (s', st) := writePpsDelay (sfieldAt p.params 0 4) s
  if st = St.ok then ok s' [] else refuse s st

/-! ### Antennas and channels (R492–R499) -/

/-- An input supplies bias (R493). -/
def biasOn (s : State) (antB : Bool) : Bool :=
  gnssOn s && (if antB then s.flag F.GNS_ANT_CFG_BIAS_B else s.flag F.GNS_ANT_CFG_BIAS_A)

/-- Since when a reading has held: from an earlier instant where it has gone on since the last reading, else from now. -/
def readsFrom (s : State) (now on_ : Bool) (from_ : Option Nat) : Option Nat :=
  if now then some (if on_ then from_.getD s.now else s.now) else none

/-- A reading has held for a time. -/
def readsFor (s : State) (from_ : Option Nat) (t : Nat) : Bool :=
  match from_ with
  | none => false
  | some a => decide (a + t ≤ s.now)

/-- The bias current of an antenna is read, mA; low and limit say that it has been below 3 mA, or at its limit, ever since the last reading.
Open and short are detected after 1 s and 10 ms (R492, R493). -/
def antFault (antB : Bool) (cur : Nat) (low limit : Bool) (s : State) : State :=
  let on_ := biasOn s antB
  let fc := if antB then F.GNS_ANT_STAT_CUR_B else F.GNS_ANT_STAT_CUR_A
  let fo := if antB then F.GNS_ANT_STAT_OPEN_B else F.GNS_ANT_STAT_OPEN_A
  let fs := if antB then F.GNS_ANT_STAT_SHORT_B else F.GNS_ANT_STAT_SHORT_A
  let w := nth s.nav.ants (b2n antB) {}
  let w : AntWatch := {
    lowFrom := readsFrom s (on_ && decide (cur < 3)) low w.lowFrom
    limitFrom := readsFrom s (on_ && decide (110 ≤ cur)) limit w.limitFrom }
  let o := readsFor s w.lowFrom sec
  let h := readsFor s w.limitFrom (10 * ms)
  let onset := (o && !s.flag fo) || (h && !s.flag fs)
  let s := { s with nav := { s.nav with ants := setNth s.nav.ants (b2n antB) w } }
  let s := ((s.put fc (if on_ then satN 8 cur else 0)).put fo (b2n o)).put fs (b2n h)
  if onset then raise0 Src.GNS_ANT_FAULT s else s

/-- The very early or the very late correlator of a channel with a BOC signal exceeds the prompt one: a false lock on a side peak (R498).
DESIGN CHOICE: that comparison detects it, and the lock does not count (log entry 222). -/
def falseLock (sig : Nat) (corr : List Int) : Bool :=
  let c := fun k => (nth corr k 0).natAbs
  [2, 4, 5, 7, 8].contains sig && (decide (c 2 < c 0) || decide (c 2 < c 4))

/-- A dump of a channel is of a state of R548, and of a signal that the baseband tracks where it is not idle (R495). -/
def dumpFits (s : State) (x : ChannelDump) : Bool :=
  decide (x.chan < 128) && decide (x.state.toNat ≤ 4) && decide (x.sig.toNat ≤ 11) && (x.state == 0#3 || trackable s x.sig.toNat)

/-- A channel after a dump of 1 ms (R497, R498, R548). -/
def dumpChannel (s : State) (x : ChannelDump) : State :=
  if !dumpFits s x then s
  else
    let n := x.chan
    let held := x.state == 3#3 && s.get (F.GNS_CH_SIG_STATE n) == 3 && !x.slip && s.get (F.GNS_CH_SIG_SV n) == x.sv.toNat &&
      s.get (F.GNS_CH_SIG_SIG n) == x.sig.toNat && !falseLock x.sig.toNat x.corr
    let lock := if held then satN 32 (s.get (F.GNS_CH_LOCK_LOCK_MS n) + 1) else 0
    let s := s.setReg (Reg.GNS_CH_SIG n)
      (x.sig.toNat + 16 * x.sv.toNat + 4096 * b2n x.antB + 8192 * x.state.toNat + 65536 * x.cn0.toNat + 16777216 * b2n x.slip)
    let s := (s.puts (F.GNS_CH_DOP_DOPPLER n) x.doppler).setReg (Reg.GNS_CH_LOCK n) lock
    let nco : Nco := { codePhase := x.codePhase, carrierPhase := x.carrierPhase, frequency := x.frequency, corr := x.corr.take 5 }
    { s with nav := { s.nav with ncos := setNth s.nav.ncos n nco } }

/-- The number of channels that track. -/
def countTracking (s : State) : State :=
  s.put F.GNS_STATUS_CHANNELS (((upFrom 0 128).filter (fun n => s.get (F.GNS_CH_SIG_STATE n) == 3)).length)

/-- How long one search takes an engine: 10 sums of 1 ms in each Doppler bin, 25 bins without aiding and 5 with it (R499). -/
def searchTime (aided : Bool) : Nat := if aided then 50 * ms else 250 * ms

/-- A search may be made: without aiding only of L1 C/A of GPS and QZSS, else with GPS time and the orbit of the satellite (R499). -/
def searchable (s : State) (sig sv : Nat) (aided : Bool) : Bool :=
  trackable s sig && (if aided then timeValid s && orbitKnown s sig sv else sig == 1 || sig == 10)

/-- The engine whose search ends: the first that has been free for as long as the search takes (R499). -/
def searchEngine (s : State) (aided : Bool) : Option Nat :=
  (upFrom 0 16).find? (fun i => decide (nth s.nav.engines i s.now + searchTime aided ≤ s.now))

/-- A search of one of the 16 engines completes (R499). -/
def acquisitionDone (n sig sv : Nat) (antB aided found : Bool) (doppler : Int) (s : State) : State :=
  let s := receiverStart s
  if n ≥ 128 || !gnssOn s || !searchable s sig sv aided then s
  else
    match searchEngine s aided with
    | none => s
    | some i =>
      let s := { s with nav := { s.nav with engines := setNth s.nav.engines i s.now } }
      let s := s.setReg (Reg.GNS_CH_SIG n) (sig % 16 + 16 * (sv % 256) + 4096 * b2n antB + 8192 * (if found then 2 else 0))
      (s.setReg (Reg.GNS_CH_LOCK n) 0).puts (F.GNS_CH_DOP_DOPPLER n) (if found then doppler else 0)

/-- n registers from an address on, as bytes. -/
def navRegisters (s : State) (a n : Nat) : Bytes :=
  (upFrom 0 n).flatMap (fun i => leBytes 4 ((navOverlay s (a + 4 * i)).getD (s.reg (a + 4 * i))))

/-- GNSS_STATUS (R549). -/
def runGnssStatus (p : Request) (s : State) : Answer :=
  let w := fieldAt p.params 0 1
  if w = 0 then ok s (navRegisters s Reg.GNS_STATUS 19 ++ navRegisters s Reg.GNS_STEER_STATUS 6)
  else if w = 1 then ok s (navRegisters s (Reg.GNS_CH_SIG 0) 256)
  else if w = 2 then ok s (navRegisters s (Reg.GNS_CH_SIG 64) 256)
  else refuse s St.badParam

/-! ### The rows -/

/-- CORRELATOR_DUMP (R498). -/
def execCorrelatorDump (t : Nat) (l : List ChannelDump) (s : State) : Res :=
  let s := begin_ t s
  .next (if gnssOn s then countTracking (foldOver dumpChannel (receiverStart s) l) else s)

/-- ACQUISITION_DONE (R499). -/
def execAcquisitionDone (t n sig sv : Nat) (antB aided found : Bool) (doppler : Int) (s : State) : Res :=
  .next (acquisitionDone n sig sv antB aided found doppler (begin_ t s))

/-- GNSS_EPOCH (R501). -/
def execGnssEpoch (t : Nat) (x : GnssFix) (s : State) : Res := .next (gnssEpoch x (begin_ t s))

/-- SLEW_END (R515). -/
def execSlewEnd (t : Nat) (s : State) : Res := .next (slewEnd (begin_ t s))

/-- TIME_STEP (R516). -/
def execTimeStep (t : Nat) (s : State) : Res := .next (timeStep (begin_ t s))

/-- TIME_PULSE (R510). -/
def execTimePulse (t : Nat) (s : State) : Res := .next (timePulse (begin_ t s))

/-- ANT_FAULT (R493): the bias current of an antenna in mA, and whether it has been below 3 mA, or at its limit, ever since the last
reading. -/
def execAntFault (t : Nat) (antB : Bool) (cur : Nat) (low limit : Bool) (s : State) : Res :=
  .next (antFault antB cur low limit (begin_ t s))

/-- RTCM_FRAME (R504): a frame of a correction source is taken from its stream. -/
def execRtcmFrame (t source : Nat) (s : State) : Res :=
  let s := begin_ t s
  .next (if gnssOn s ∧ 1 ≤ source ∧ source ≤ 3 then rtcmFrame source s else s)

/-- CORR_STALE (R507). -/
def execCorrStale (t : Nat) (s : State) : Res :=
  let s := begin_ t s
  .next (if gnssOn s then refreshSource s else s)

/-- GNS_PPS_DELAY_WRITE (R543): a register write to GNS_PPS_DELAY. -/
def execGnsPpsDelayWrite (t : Nat) (v : BitVec 32) (s : State) : Res := .next (writePpsDelay v.toInt (begin_ t s)).1

end Sys2Proof.Machine
end

