-- ==== Sys2Proof/Machine/Steering.lean ====
section
/-!
DEFINITION. *Satellite Navigation*, steering: guidance, the target path, the crop edge, the steering law, engagement and
release (R521–R539), and with them the rows that bring input samples and complete a fusion frame.
-/

namespace Sys2Proof.Machine

def engaged (s : State) : Bool := s.flag F.GNS_STEER_STATUS_ENGAGED

/-- Steering ends with a REASON (R537), where this module holds it engaged: on the relief terminus the flag is the mirrored one, and
follows that of the terminus (R521, log entry 193). -/
def releaseSteer (reason : Nat) (s : State) : State :=
  if engaged s && !isRelief s then
    raise0 Src.GNS_STEER_RELEASED ((s.put F.GNS_STEER_STATUS_ENGAGED 0).put F.GNS_STEER_STATUS_REASON reason)
  else s

/-! ### Guidance (R526) -/

/-- The points of guidance parameters, in mm. -/
def guidePoints : Nat → Bytes → List (Int × Int)
  | 0, _ => []
  | n + 1, b => (sfieldAt b 0 4, sfieldAt b 4 4) :: guidePoints n (b.drop 8)

/-- Guidance parameters. -/
def guideOf (ps : Bytes) : Guidance :=
  { mode := fieldAt ps 0 1, side := fieldAt ps 1 1, lat := sfieldAt ps 4 8, lon := sfieldAt ps 12 8, hgt := sfieldAt ps 20 4,
    passW := fieldAt ps 24 4, shift := sfieldAt ps 28 4, points := guidePoints (fieldAt ps 32 2) (ps.drop 36) }

/-- GUIDE_ID: the CRC-32C of the parameters with SHIFT 0. -/
def guideId (ps : Bytes) : Nat := crc32c (putAt ps 28 (leBytes 4 0))

/-- The ranges of R526. -/
def guideOk (ps : Bytes) : Bool :=
  let m := fieldAt ps 0 1
  let side := fieldAt ps 1 1
  let n := fieldAt ps 32 2
  decide (m ≤ 3) && (if m = 3 then decide (side ≤ 1) else side == 0) && decide (fieldAt ps 24 4 ≤ 100000) &&
    (if m = 1 then n == 2 else if m = 2 then decide (2 ≤ n) && decide (n ≤ 160) else n == 0)

/-- PARAM_LEN of GUIDANCE_SET. -/
def lenGuidanceSet (ps : Bytes) : Bool := decide (36 ≤ ps.length) && ps.length == 36 + 8 * fieldAt ps 32 2

/-- GUIDANCE_SET (R526, R529). The pass and the direction of travel hold until the next engagement (R528). -/
def runGuidanceSet (p : Request) (s : State) : Answer :=
  let g := guideOf p.params
  let same := match s.nav.guide with
    | none => false
    | some o => decide ({ o with shift := g.shift } = g)
  if p.target ≠ 0#8 then refuse s St.badTarget
  else if !guideOk p.params || (engaged s && !same) then refuse s St.badParam
  else
    let now := if same then s.nav.shiftNow else g.shift * 10
    let nav := if same then { s.nav with guide := some g, shiftNow := now }
      else { s.nav with guide := some g, shiftNow := now, edge := none, edgeFit := false }
    let s := { s with nav := nav }
    let s := if same then s else s.put F.GNS_STEER_STATUS_EDGE_HOLD 0
    ok ((s.put F.GNS_STEER_STATUS_MODE g.mode).setReg Reg.GNS_GUIDE_ID (guideId p.params)) (leBytes 4 (guideId p.params))

/-! ### The field frame (R527) -/

/-- Earth-centred Cartesian coordinates, in m, of latitude and longitude in 10⁻⁹ degree and height in mm (WGS 84). -/
def earthCentred (lat lon hgt : Int) : F64 × F64 × F64 :=
  let a := gInt 6378137
  let f := gDiv (gInt 1) (gRat 298257223563 1000000000)
  let e2 := gMul f (gSub (gInt 2) f)
  let sn := gSin (gRadians lat)
  let cs := gCos (gRadians lat)
  let n := gDiv a (gSqrt (gSub (gInt 1) (gMul e2 (gMul sn sn))))
  let h := gRat hgt 1000
  let r := gMul (gAdd n h) cs
  (gMul r (gCos (gRadians lon)), gMul r (gSin (gRadians lon)), gMul (gAdd (gMul n (gSub (gInt 1) e2)) h) sn)

/-- East and north in m of a position in the frame of an origin. -/
def fieldPosition (oLat oLon oHgt lat lon hgt : Int) : F64 × F64 :=
  let o := earthCentred oLat oLon oHgt
  let p := earthCentred lat lon hgt
  let dx := gSub p.1 o.1
  let dy := gSub p.2.1 o.2.1
  let dz := gSub p.2.2 o.2.2
  let sl := gSin (gRadians oLon)
  let cl := gCos (gRadians oLon)
  let sp := gSin (gRadians oLat)
  let cp := gCos (gRadians oLat)
  (gSub (gMul cl dy) (gMul sl dx), gSub (gMul cp dz) (gMul sp (gAdd (gMul cl dx) (gMul sl dy))))

/-- The position that the module reports, in the frame of an origin. -/
def ownPosition (s : State) (oLat oLon oHgt : Int) : F64 × F64 :=
  fieldPosition oLat oLon oHgt (sx 64 (s.get64 Reg.GNS_LAT_LO Reg.GNS_LAT_HI)) (sx 64 (s.get64 Reg.GNS_LON_LO Reg.GNS_LON_HI))
    (sx 32 (s.reg Reg.GNS_HGT))

/-- The reported heading in radians. -/
def ownHeading (s : State) : F64 := headingRad (s.get F.GNS_HDG_HEADING)

/-- The control point (CP_X, 0) in the frame of a guidance (R532). -/
def controlPoint (s : State) (g : Guidance) : F64 × F64 :=
  fromMachine (ownPosition s g.lat g.lon g.hgt) (ownHeading s) (gRat (s.gets F.GNS_STEER_GEOM_CP_X) 100) (some ⟨0, 0⟩)

/-! ### The target path (R528) -/

/-- A straight piece of a base path: a point, its direction, its length, and κ of the path along it. -/
structure Piece where
  east : F64
  north : F64
  dirE : F64
  dirN : F64
  len : F64
  deriving DecidableEq, Repr

/-- The piece from one point to the next, in mm. -/
def pieceOf (a b : Int × Int) : Piece :=
  let de := gRat (b.1 - a.1) 1000
  let dn := gRat (b.2 - a.2) 1000
  let len := gSqrt (gAdd (gMul de de) (gMul dn dn))
  { east := gRat a.1 1000, north := gRat a.2 1000, dirE := gDiv de len, dirN := gDiv dn len, len := len }

/-- The pieces of a polyline. -/
def piecesOf : List (Int × Int) → List Piece
  | [] => []
  | a :: l =>
    match l with
    | [] => []
    | b :: _ => pieceOf a b :: piecesOf l

/-- A point's distance along a piece from its start, and its offset to the left of it. -/
def along (c : F64 × F64) (x : Piece) : F64 := gAdd (gMul (gSub c.1 x.east) x.dirE) (gMul (gSub c.2 x.north) x.dirN)
def leftOf (c : F64 × F64) (x : Piece) : F64 := gSub (gMul (gSub c.2 x.north) x.dirE) (gMul (gSub c.1 x.east) x.dirN)

/-- The square of the distance of a point from a piece; the first and the last are extended. -/
def distSquare (c : F64 × F64) (first last : Bool) (x : Piece) : F64 :=
  let zero : F64 := some ⟨0, 0⟩
  let t := along c x
  let spill := if gLe t zero && !first then t else if gLe x.len t && !last then gSub t x.len else zero
  let d := leftOf c x
  gAdd (gMul spill spill) (gMul d d)

/-- The index of the nearest piece, ties to the lower. -/
def nearestPiece (c : F64 × F64) (n : Nat) : Nat → Nat × F64 → List Piece → Nat
  | _, b, [] => b.1
  | i, b, x :: l =>
    let d := distSquare c (i == 0) (i + 1 == n) x
    nearestPiece c n (i + 1) (if i = 0 ∨ gLe b.2 d = false then (i, d) else b) l

/-- What steering needs of the base path: the nearest piece as a line, and κ of the base path there. -/
structure BaseAt where
  piece : Piece
  kappa : F64
  deriving DecidableEq, Repr

/-- κ at a piece: the turning angle to the next over the mean of the lengths; 0 on the last piece and the extensions. -/
def kappaAt (c : F64 × F64) (i : Nat) (x : Piece) (next : Option Piece) : F64 :=
  let zero : F64 := some ⟨0, 0⟩
  match next with
  | none => zero
  | some y =>
    if i = 0 ∧ gLe zero (along c x) = false then zero
    else
      let turn := gAtan2 (gSub (gMul x.dirE y.dirN) (gMul x.dirN y.dirE)) (gAdd (gMul x.dirE y.dirE) (gMul x.dirN y.dirN))
      gDiv turn (gDiv (gAdd x.len y.len) (gInt 2))

/-- The base path of a guidance at a point; none without a path. -/
def baseAt (s : State) (g : Guidance) (c : F64 × F64) : Option BaseAt :=
  let zero : F64 := some ⟨0, 0⟩
  if g.mode = 3 then
    match s.nav.edge with
    | none => none
    | some e => some { piece := { east := e.east, north := e.north, dirE := e.dirE, dirN := e.dirN, len := zero }, kappa := zero }
  else if g.mode = 1 ∨ g.mode = 2 then
    let l := piecesOf g.points
    let i := nearestPiece c l.length 0 (0, zero) l
    match l[i]? with
    | none => none
    | some x => some { piece := x, kappa := kappaAt c i x l[i + 1]? }
  else none

/-- The direction of travel is against the base path: it is the one within 90° of the machine's heading (R528). -/
def against (s : State) (g : Guidance) (b : BaseAt) : Bool :=
  let h := ownHeading s
  g.mode != 3 && !gLe (some ⟨0, 0⟩) (gAdd (gMul (gSin h) b.piece.dirE) (gMul (gCos h) b.piece.dirN))

/-- The pass k at engagement (R528). -/
def passAt (g : Guidance) (b : BaseAt) (c : F64 × F64) : Int :=
  if g.passW = 0 ∨ g.mode = 3 then 0
  else satS 16 (gScaled (gDiv (gSub (gMul (leftOf c b.piece) (gInt 1000)) (gInt g.shift)) (gInt g.passW)) 1 1)

/-- e_y, e_ψ and κ_path with a pass, a lateral shift in 0.1 mm and a direction of travel (R528, R532). -/
def steerErrors (s : State) (g : Guidance) (b : BaseAt) (c : F64 × F64) (k shift : Int) (rev : Bool) : F64 × F64 × F64 :=
  let off := gRat (k * (g.passW : Int) * 10 + shift) 10000
  let lat := gSub off (leftOf c b.piece)
  let dir := if rev then gAtan2 (gNeg b.piece.dirE) (gNeg b.piece.dirN) else gAtan2 b.piece.dirE b.piece.dirN
  let kap := gDiv b.kappa (gSub (gInt 1) (gMul b.kappa off))
  (if rev then gNeg lat else lat, gWrap (gWrap (gSub (ownHeading s) dir)), if rev then gNeg kap else kap)

/-! ### The crop edge (R530, R531) -/

/-- The edge point of a row, x and y in mm: the first cell of the scan at the threshold, with every cell up to it
usable. -/
def edgeScan (s : State) (j : Nat) (right : Bool) : Nat → Nat → Option (Int × Int)
  | 0, _ => none
  | n + 1, step =>
    let i := if right then 191 - step else step
    let x := cellAt s (j * 192 + i)
    if !usable x then none
    else if nth x.feat (s.get F.GNS_EDGE_CHAN) 0 ≥ s.gets F.GNS_EDGE_THR then
      let y : Int := 9600 - 100 * (i : Int) - 50
      some (s.gets F.FUS_GRID_AHEAD_X0 * 10 + 100 * (j : Int) + 50, if right then y - 50 else y + 50)
    else edgeScan s j right n (step + 1)

/-- The points that the rows yield. -/
def edgePoints (s : State) (right : Bool) : List (Int × Int) :=
  (upFrom (s.get F.GNS_EDGE_J0) (s.get F.GNS_EDGE_J1 + 1 - s.get F.GNS_EDGE_J0)).filterMap (fun j => edgeScan s j right 192 0)

/-- A sum in binary64, in order. -/
def gSum (l : List F64) : F64 := l.foldl gAdd (some ⟨0, 0⟩)

/-- The least-squares line y = a + b·x, in m. -/
def fitLine (l : List (Int × Int)) : F64 × F64 :=
  let n := gInt l.length
  let x := l.map (fun p => gRat p.1 1000)
  let y := l.map (fun p => gRat p.2 1000)
  let sx_ := gSum x
  let sy := gSum y
  let sxx := gSum (x.map (fun v => gMul v v))
  let sxy := gSum ((x.zip y).map (fun v => gMul v.1 v.2))
  let b := gDiv (gSub (gMul n sxy) (gMul sx_ sy)) (gSub (gMul n sxx) (gMul sx_ sx_))
  (gDiv (gSub sy (gMul b sx_)) n, b)

/-- The edge line in the field frame, from the navigation state at the frame boundary (R530). -/
def edgeLine (g : Guidance) (f : FusionFrame) (a b : F64) : EdgeLine :=
  let one := gInt 1
  let h := headingRad f.hdg
  let pos := fieldPosition g.lat g.lon g.hgt f.lat f.lon f.hgt
  let q := fromMachine pos h (some ⟨0, 0⟩) a
  let d := fromMachine (some ⟨0, 0⟩, some ⟨0, 0⟩) h one b
  let len := gSqrt (gAdd one (gMul b b))
  { east := q.1, north := q.2, dirE := gDiv d.1 len, dirN := gDiv d.2 len }

/-- The crop edge is fitted at a fusion frame (R530, R531). -/
def edgeFrame (f : FusionFrame) (s : State) : State :=
  match s.nav.guide with
  | none => s
  | some g =>
    if g.mode ≠ 3 ∨ !isTerminus s then s
    else
      let l := edgePoints s (g.side == 1)
      if s.get F.GNS_EDGE_MIN_ROWS ≤ l.length ∧ 2 ≤ l.length then
        let ab := fitLine l
        State.put { s with nav := { s.nav with edge := some (edgeLine g f ab.1 ab.2), edgeFit := true, edgeAt := s.now } }
          F.GNS_STEER_STATUS_EDGE_HOLD 0
      else
        let held := s.flag F.GNS_STEER_STATUS_EDGE_HOLD
        let s := State.put { s with nav := { s.nav with edgeFit := false } } F.GNS_STEER_STATUS_EDGE_HOLD 1
        if held then s else raise0 Src.GNS_EDGE_HOLD s

/-- No fit has been made for HOLD (R531). -/
def edgeTimeout (s : State) : State :=
  if s.get F.GNS_STEER_STATUS_MODE = 3 ∧ s.nav.edgeAt + s.get F.GNS_EDGE2_HOLD * 100 * ms ≤ s.now then
    releaseSteer 10 s
  else s

/-! ### Conditions (R534–R537) -/

/-- The inputs of the operator enable as they read now. -/
def enableNow (s : State) : Bool :=
  bitAt s.inp.din (s.get F.GNS_STEER_EN_EN_A) &&
    (!s.flag F.GNS_STEER_EN_B_USED || !bitAt s.inp.din (s.get F.GNS_STEER_EN_EN_B))

/-- The enable inputs have changed, or not (R535). -/
def enableWatch (s : State) : State :=
  if enableNow s = s.nav.enRaw then s else { s with nav := { s.nav with enRaw := enableNow s, enSince := s.now } }

/-- The filter of the enable ends (R535); without the enable steering is released. -/
def enableFilter (s : State) : State :=
  let s := enableWatch s
  if s.nav.enRaw ≠ s.nav.enabled ∧ s.nav.enSince + 20 * ms ≤ s.now then
    let s := { s with nav := { s.nav with enabled := s.nav.enRaw } }
    if s.nav.enabled then s else releaseSteer 2 s
  else s

/-- The override value exceeds its threshold. -/
def overrideNow (s : State) : Bool :=
  s.flag F.GNS_STEER_OVR_OV_EN &&
    decide (((lineValue s (s.get F.GNS_STEER_OVR_OV_ENTRY) (s.get F.GNS_STEER_OVR_OV_WORD)).natAbs : Int) >
      s.gets F.GNS_STEER_OVR_THR_OV_THR)

/-- Since when the override value has exceeded its threshold. -/
def overrideWatch (s : State) : State :=
  { s with nav := { s.nav with ovSince := if overrideNow s then some (s.nav.ovSince.getD s.now) else none } }

/-- OV_TIME has passed with the override (R537). -/
def overrideExpiry (s : State) : State :=
  match s.nav.ovSince with
  | none => s
  | some t => if t + s.get F.GNS_STEER_OVR_OV_TIME * 10 * ms ≤ s.now then releaseSteer 3 s else s

/-- FIX_GRACE has passed with a degraded fix or heading (R537). -/
def graceExpiry (s : State) : State :=
  let g := s.get F.GNS_STEER_SPD_FIX_GRACE * 100 * ms
  let spill := fun (o : Option Nat) => match o with
    | none => false
    | some t => decide (t + g ≤ s.now)
  if spill s.nav.fixBadSince then releaseSteer 4 s else if spill s.nav.hdgBadSince then releaseSteer 5 s else s

/-- The speed has been out of range for 1 s (R537). -/
def speedExpiry (s : State) : State :=
  match s.nav.spdBadSince with
  | none => s
  | some t => if t + sec ≤ s.now then releaseSteer 8 s else s

/-- Consecutive misses of an entry. -/
def missesOf (s : State) (entry : Nat) : Nat := (lookupNum s.line.misses entry).getD 0

/-- Steering has a path fault (R536). -/
def steerPathFault (s : State) : Bool :=
  joinFault s (s.get F.GNS_STEER_SP_STATION) || decide (5 ≤ missesOf s (s.get F.GNS_STEER_FB_FB_ENTRY)) || decide (2 ≤ s.nav.stBad)

/-- The demand of R533: δ while engaged, else the wheel angle last received. -/
def steerDemand (s : State) : Int :=
  if engaged s then gScaled s.nav.delta 1 1
  else lineValue s (s.get F.GNS_STEER_FB_FB_ENTRY) (s.get F.GNS_STEER_FB_FB_WORD)

/-- The words of R533 for a cycle, and the status word of the steering loop in that cycle (R536). -/
def steerCycle (s : State) : State :=
  if !s.flag F.GNS_STEER_SP_S_EN then s
  else
    let st := toBits 32 (lineValue s (s.get F.GNS_STEER_ST_ST_ENTRY) (s.get F.GNS_STEER_ST_ST_WORD))
    let bad := Nat.land st (s.get F.GNS_STEER_ST_ST_MASK) != 0
    let d := satS 32 (steerDemand s)
    let n := if bad then min 2 (s.nav.stBad + 1) else 0
    let w := b2n (engaged s) + 256 * s.get F.GNS_STEER_STATUS_REASON
    State.puts { s with nav := { s.nav with stBad := n, spDemand := d, spCommand := w } } F.GNS_STEER_DELTA_DELTA d

/-! ### The steering law (R532) -/

/-- The lateral shift moves toward SHIFT: 1 mm in 10 ms (R529). -/
def shiftStep (g : Guidance) (now : Int) : Int := now + clampI (-10) 10 (g.shift * 10 - now)

/-- The blended errors after a takeover (R523). -/
def blendErrors (s : State) (e : F64 × F64) : State × F64 × F64 :=
  let first := (s.now, gSub s.nav.mirEy e.1, gSub s.nav.mirEpsi e.2)
  let s := if s.nav.blendDue then
      State.put { s with nav := { s.nav with blendDue := false, blend := some first } } F.GNS_STEER_STATUS_BLEND 1
    else s
  match s.nav.blend with
  | none => (s, e.1, e.2)
  | some (t0, dy, dp) =>
    if t0 + 2 * sec ≤ s.now then (s, e.1, e.2)
    else
      let w := gSub (gInt 1) (gRat ((s.now - t0 : Nat) : Int) (2 * sec))
      (s, gAdd e.1 (gMul dy w), gAdd e.2 (gMul dp w))

/-- δ in 0.01° from errors and κ_path, limited in angle and in rate from the previous value. -/
def wheelAngle (s : State) (ey epsi kap : F64) : F64 :=
  let kx := gRat (s.get F.GNS_STEER_KX_KX) 65536
  let kh := gRat (s.get F.GNS_STEER_KH_KH) 65536
  let k := gAdd (gAdd kap (gMul kx ey)) (gMul kh epsi)
  let a := gAtan (gMul (gRat (s.get F.GNS_STEER_GEOM_WB) 1000) k)
  let d := gMul (gDiv a gPi) (gInt 18000)
  let d := if s.flag F.GNS_STEER_GEOM_SIGN then gNeg d else d
  let m := gInt (s.get F.GNS_STEER_LIM_DELTA_MAX)
  let d := gClamp (gNeg m) m d
  let r := gRat (s.get F.GNS_STEER_LIM_DELTA_RATE) 100
  gClamp (gSub s.nav.delta r) (gAdd s.nav.delta r) d

/-- The errors at the present position on the pass and in the direction of travel of the last engagement; none without a path. A
fitted edge has neither (R528, R530). -/
def errorsNow (s : State) (g : Guidance) : Option (F64 × F64 × F64) :=
  let c := controlPoint s g
  match baseAt s g c with
  | none => none
  | some b =>
    let k := if g.mode = 3 then 0 else s.gets F.GNS_STEER_STATUS_PASS
    some (steerErrors s g b c k s.nav.shiftNow (g.mode != 3 && s.nav.reversed))

/-- |e_y| exceeds a limit in cm. -/
def offBy (ey : F64) (cm : Nat) : Bool := !gLe (gAbs ey) (gRat cm 100)

/-- The propagated navigation state is reported (R501, R509). -/
def propagate (x : NavPoint) (s : State) : State :=
  let s := setAttitude 0 0 (s.put F.GNS_HDG_HEADING x.heading)
  fixWatch (State.puts (reportPosition x.lat x.lon x.hgt s) F.GNS_VEL_SPEED x.speed)

/-- A computation is due: the first instant in 10 ms of device time (R532). -/
def steerDue (s : State) : Bool :=
  match s.nav.steerAt with
  | none => true
  | some d => d / (10 * ms) != deviceTime s / (10 * ms)

/-- The computation of R532 with the release causes that it sees (R537). -/
def steerCompute (s : State) : State :=
  let s := overrideWatch s
  let s : State :=
    match s.nav.guide with
    | none => s
    | some g =>
      let s := { s with nav := { s.nav with shiftNow := shiftStep g s.nav.shiftNow } }
      match errorsNow s g with
      | none => s
      | some (ey, epsi, kap) =>
        let (s, by_, bp) := blendErrors s (ey, epsi)
        let d := wheelAngle s by_ bp kap
        let s := { s with nav := { s.nav with ey := ey, epsi := epsi, delta := d } }
        let s := (s.puts F.GNS_STEER_XTE_XTE (gScaled ey 1000 1)).puts F.GNS_STEER_HE_HE (gScaled (gDiv epsi gPi) 180000 1)
        if offBy ey (s.get F.GNS_STEER_ENG_REL_XTE) then releaseSteer 7 s else s
  let s := if 3000 < (0 - s.gets F.GNS_VEL_SPEED) * 36 then releaseSteer 8 s else s
  if steerPathFault s then releaseSteer 9 s else s

/-! ### Engagement (R534, R538) -/

/-- The result of STEER_ENGAGE. -/
def engageResult (reason : Nat) (k : Int) : Bytes := leBytes 1 reason ++ leBytes 3 0 ++ leBytes 2 (toBits 16 k) ++ leBytes 2 0

/-- The first condition of R534 that fails, as REASON and status, with the guidance in force. -/
def engageRefusal (s : State) (g : Guidance) (id : Nat) (e : Option (F64 × F64 × F64)) : Option (Nat × Nat) :=
  let v := s.gets F.GNS_VEL_SPEED
  if id ≠ s.reg Reg.GNS_GUIDE_ID ∨ g.mode = 0 then some (6, St.noGuidance)
  else if !s.nav.enabled then some (2, St.noOperatorEnable)
  else if s.get F.GNS_STATUS_FIX < s.get F.GNS_STEER_ENG_FIX_MIN then some (4, St.noFix)
  else if !s.flag F.GNS_STATUS_HEADING_VALID then some (5, St.noFix)
  else if steerPathFault s then some (9, St.badParam)
  else if v * 36 < s.get F.GNS_STEER_SPD_SPEED_MIN * 1000 ∨ v * 36 > s.get F.GNS_STEER_SPD_SPEED_MAX * 1000 ∨ v ≤ 0 then
    some (8, St.badParam)
  else if overrideNow s then some (3, St.badParam)
  else if g.mode = 3 ∧ s.nav.edgeFit = false then some (10, St.noGuidance)
  else
    match e with
    | none => some (10, St.noGuidance)
    | some (ey, epsi, _) =>
      if offBy ey (s.get F.GNS_STEER_ENG_ENG_XTE) ||
          !gLe (gAbs epsi) (gMul (gRat (s.get F.GNS_STEER_ENG_ENG_HE) 180) gPi) then some (7, St.noGuidance)
      else none

/-- STEER_ENGAGE (R534). PARKED clears when it is executed (R772). -/
def runSteerEngage (p : Request) (s : State) : Answer :=
  let id := fieldAt p.params 0 4
  let kNow := s.gets F.GNS_STEER_STATUS_PASS
  if p.target ≠ 0#8 then refuse s St.badTarget
  else
    if engaged s ∧ id = s.reg Reg.GNS_GUIDE_ID then ok (s.put F.UPD_RUN_PARKED 0) (engageResult 0 kNow)
    else
      let fail := fun (k : Int) (r : Nat × Nat) =>
        ({ st := s.put F.GNS_STEER_STATUS_REASON r.1, status := r.2, result := engageResult r.1 k } : Answer)
      match s.nav.guide with
      | none => fail kNow (6, St.noGuidance)
      | some g =>
        let c := controlPoint s g
        match baseAt s g c with
        | none =>
          match engageRefusal s g id none with
          | none => fail kNow (10, St.noGuidance)
          | some r => fail kNow r
        | some b =>
          let k := passAt g b c
          let rev := against s g b
          match engageRefusal s g id (some (steerErrors s g b c k (g.shift * 10) rev)) with
          | some r => fail (if r.1 = 7 then k else kNow) r
          | none =>
            let s := { s with nav := { s.nav with reversed := rev, shiftNow := g.shift * 10 } }
            let s := ((s.puts F.GNS_STEER_STATUS_PASS k).put F.GNS_STEER_STATUS_ENGAGED 1).put F.UPD_RUN_PARKED 0
            ok (raise0 Src.GNS_STEER_ENGAGED s) (engageResult 0 k)

/-- STEER_RELEASE (R538). -/
def runSteerRelease (p : Request) (s : State) : Answer :=
  if p.target ≠ 0#8 then refuse s St.badTarget else ok (releaseSteer 1 s) []

/-! ### The rows -/

/-- A reading is taken, and the enable of steering follows it (R274, R535). -/
def readInput (r : Reading) (s : State) : State := enableWatch (takeReading r s)

/-- INPUT_SAMPLE (R274). -/
def execInputSample (t : Nat) (r : Reading) (s : State) : Res := .next (readInput r (begin_ t s))

/-- DIRECT_BLOCK (R282): a DIRECT stream has a block of samples, with the readings that the command brings. -/
def execDirectBlock (t slot : Nat) (l : List Reading) (s : State) : Res :=
  let s := foldOver (fun s r => readInput r s) (begin_ t s) l
  .next (if slot < 16 then underHeld (directBlock slot) s else s)

/-- FUSION_FRAME_DONE (R319): the grids are readable; the setting engine evaluates them and the crop edge is fitted. -/
def execFusionFrameDone (t : Nat) (s : State) : Res :=
  let s := begin_ t s
  .next (match s.fus.frame with
    | none => s
    | some f => if isTerminus s ∧ s.die.yardUp = true then edgeFrame f (settingFrame (frameReadable s)) else s)

/-- STEER_COMPUTE (R532), with the navigation state as propagated to this instant. -/
def execSteerCompute (t : Nat) (x : NavPoint) (s : State) : Res :=
  let s := begin_ t s
  .next (if gnssOn s && steerDue s then
    steerCompute (propagate x { s with nav := { s.nav with steerAt := some (deviceTime s) } }) else s)

/-- ENABLE_FILTER (R535). -/
def execEnableFilter (t : Nat) (s : State) : Res := .next (enableFilter (begin_ t s))

/-- EDGE_HOLD_TIMEOUT (R531). -/
def execEdgeHoldTimeout (t : Nat) (s : State) : Res := .next (edgeTimeout (begin_ t s))

/-- FIX_GRACE_EXPIRY (R537). -/
def execFixGraceExpiry (t : Nat) (s : State) : Res := .next (graceExpiry (begin_ t s))

/-- OVERRIDE_EXPIRY (R537). -/
def execOverrideExpiry (t : Nat) (s : State) : Res := .next (overrideExpiry (overrideWatch (begin_ t s)))

/-- SPEED_EXPIRY (R537). -/
def execSpeedExpiry (t : Nat) (s : State) : Res := .next (speedExpiry (begin_ t s))

/-- BLEND_END (R523). -/
def execBlendEnd (t : Nat) (s : State) : Res :=
  let s := begin_ t s
  .next (match s.nav.blend with
    | none => s
    | some (b, _) =>
      if b + 2 * sec ≤ s.now then State.put { s with nav := { s.nav with blend := none } } F.GNS_STEER_STATUS_BLEND 0 else s)

end Sys2Proof.Machine
end

