-- ==== Sys2Proof/Machine/Yield.lean ====
section
/-!
DEFINITION. *Yield Mapping*: samples, cut instants, field maps and their store (R550–R570).
-/

namespace Sys2Proof.Machine

/-- Yield mapping runs (R550). -/
def yieldOn (s : State) : Bool := isTerminus s && s.flag F.YLD_CFG_EN && s.die.yardUp

/-- Device time is a whole multiple of a period, within the accuracy of the command's instant: the multiple. -/
def onMultiple (s : State) (period : Nat) : Option Nat :=
  if deviceTime s % period < us then some (deviceTime s / period * period) else none

/-! ### Tiles and cells (R556–R558) -/

/-- MASS, AREA and MOIST of a cell (R556, R558). -/
def cellMass (c : YieldCell) : Nat := satU 32 (gScaled c.mass 1 1)
def cellArea (c : YieldCell) : Nat := satU 16 (gScaled c.area 1000 1)
def cellMoist (c : YieldCell) : Nat := if cellMass c = 0 then 0 else satU 16 (gScaled (gDiv c.wet c.mass) 1 1)

/-- A cell record of 12 bytes (R558). -/
def cellRecord (c : YieldCell) : Bytes :=
  leBytes 4 (cellMass c) ++ leBytes 2 (cellArea c) ++ leBytes 2 (cellMoist c) ++ leBytes 1 c.passes ++
    leBytes 1 (b2n c.overlap + 2 * b2n c.own + 4 * b2n c.other + 8 * b2n c.lowFix) ++ leBytes 2 0

/-- A cell of a tile. -/
def tileCell (t : YieldTile) (i : Nat) : YieldCell := (lookupNum t.cells i).getD {}

/-- The cell bytes of a tile from an index on. -/
def tileCellBytes (t : YieldTile) (i n : Nat) : Bytes := (upFrom i n).flatMap (fun k => cellRecord (tileCell t k))

/-- The header of a tile (R558). -/
def tileHeader (id : Nat) (t : YieldTile) : Bytes :=
  let used := (t.cells.filter (fun e => decide (0 < cellArea e.2) || e.2.other)).length
  leBytes 2 0x5A59 ++ leBytes 1 1 ++ leBytes 1 0 ++ leBytes 4 id ++ leBytes 2 (toBits 16 t.te) ++ leBytes 2 (toBits 16 t.tn) ++
    leBytes 2 used ++ leBytes 2 0 ++ leBytes 4 t.first ++ leBytes 4 t.last ++ leBytes 4 t.gen ++
    leBytes 4 (crc32c (tileCellBytes t 0 1024))

/-- A cell as its record gives it back: the sums are those of its fields (R560, R563). -/
def storedCell (c : YieldCell) : YieldCell :=
  { c with mass := gInt (cellMass c), area := gRat (cellArea c) 1000, wet := gInt (cellMass c * cellMoist c) }

/-- A field's data as it reads back from the store. -/
def reload (d : FieldData) : FieldData :=
  { d with tiles := d.tiles.map (fun t => { t with cells := t.cells.map (fun e => (e.1, storedCell e.2)) }) }

/-- The tile at an index of tiles. -/
def findTile (l : List YieldTile) (te tn : Int) : Option YieldTile := l.find? (fun t => t.te == te && t.tn == tn)

/-! ### The store (R560, R561) -/

/-- A stored field. -/
def findField (s : State) (id : Nat) : Option Field := s.yld.fields.find? (fun f => f.id == id)

/-- What a field holds now: the live data while it is open. -/
def fieldData (s : State) (f : Field) : FieldData := if s.yld.openId = some f.id then s.yld.live else f.data

/-- Free bytes of the store: every tile takes 12,320 bytes of 8 GiB. -/
def storeFree (s : State) : Nat :=
  8589934592 - (s.yld.fields.map (fun f => (fieldData s f).tiles.length * 12320)).foldl (· + ·) 0

/-- The store with a field changed. -/
def modField (id : Nat) (f : Field → Field) (s : State) : State :=
  { s with yld := { s.yld with fields := s.yld.fields.map (fun x => if x.id = id then f x else x) } }

/-- The open field's tiles are written (R560). -/
def flushField (s : State) : State :=
  match s.yld.openId with
  | none => s
  | some id =>
    let d := s.yld.live
    modField id (fun f => { f with data := d }) { s with yld := { s.yld with flushedAt := s.now } }

/-- A tile may be created (R559, R561). -/
def tileRoom (s : State) : Bool := decide (s.yld.live.tiles.length < 16384) && decide (12320 ≤ storeFree s)

/-- FIELD_FULL is raised, once per field (R559, R561). -/
def fieldFull (s : State) : State :=
  if s.yld.live.full then s
  else raise0 Src.YLD_FIELD_FULL { s with yld := { s.yld with live := { s.yld.live with full := true } } }

/-- The live data changed. -/
def modLive (f : FieldData → FieldData) (s : State) : State := { s with yld := { s.yld with live := f s.yld.live } }

/-- Mass that is not mapped. -/
def addUnmapped (m : F64) (s : State) : State :=
  if s.yld.openId.isSome then modLive (fun d => { d with unmapped := gAdd d.unmapped m }) s else s

/-- A cell changes; its tile is created where it does not exist and there is room, and none answers where there is none
(R557, R559). -/
def changeCell (e n : Int) (f : YieldCell → YieldCell) (s : State) : Option State :=
  let te := e / 32
  let tn := n / 32
  let i := ((n - 32 * tn) * 32 + (e - 32 * te)).toNat
  let sec_ := deviceTime s / sec
  match findTile s.yld.live.tiles te tn with
  | some _ =>
    some (modLive (fun d => { d with tiles := d.tiles.map (fun t =>
      if t.te == te && t.tn == tn then
        { t with cells := putNum t.cells i (f (tileCell t i)), last := sec_, gen := (t.gen + 1) % 4294967296 }
      else t) }) s)
  | none =>
    if tileRoom s then
      let t : YieldTile := { te := te, tn := tn, first := sec_, last := sec_, gen := 1, cells := [(i, f {})] }
      some (modLive (fun d => { d with tiles := d.tiles ++ [t] }) s)
    else none

/-- The OWN flag of a cell is set. -/
def cellOwn (s : State) (e n : Int) : Bool :=
  match findTile s.yld.live.tiles (e / 32) (n / 32) with
  | none => false
  | some t => (tileCell t ((n - 32 * (n / 32)) * 32 + (e - 32 * (e / 32))).toNat).own

/-- The tile row of a cell waits to be sent as coverage (R586). -/
def noteRow (e n : Int) (s : State) : State :=
  let r := (e / 32, n / 32, (n - 32 * (n / 32)).toNat)
  if s.cst.rows.contains r then s else { s with cst := { s.cst with rows := s.cst.rows ++ [r] } }

/-- A contribution reaches a cell (R555, R556). -/
def contributeTo (mass area moist : F64) (lowFix : Bool) (now : Nat) (c : YieldCell) : YieldCell :=
  let again := match c.lastAt with
    | none => false
    | some t => decide (t + 10 * sec < now)
  let first := c.lastAt.isNone
  { c with mass := gAdd c.mass mass, area := gAdd c.area area, wet := gAdd c.wet (gMul mass moist), lastAt := some now,
           passes := if again || first then satN 8 (c.passes + 1) else c.passes, overlap := c.overlap || again, own := true,
           lowFix := c.lowFix || lowFix }

/-- A contribution at a point. -/
def contribute (pt : F64 × F64) (mass area moist : F64) (lowFix : Bool) (s : State) : State :=
  let e := gFloor pt.1
  let n := gFloor pt.2
  let fresh := !cellOwn s e n
  match changeCell e n (contributeTo mass area moist lowFix s.now) s with
  | none => fieldFull (addUnmapped mass s)
  | some s =>
    let s := modLive (fun d => { d with mass := gAdd d.mass mass, area := gAdd d.area area }) s
    if fresh then noteRow e n s else s

/-! ### Samples (R552–R554) -/

/-- The values of a cycle (R551, R552). -/
def yieldCycle (s : State) : State :=
  if !yieldOn s then s
  else
    let f := lineValue s (s.get F.YLD_FLOW_FLOW_ENTRY) (s.get F.YLD_FLOW_FLOW_WORD)
    let m := lineValue s (s.get F.YLD_MOIST_MOIST_ENTRY) (s.get F.YLD_MOIST_MOIST_WORD)
    { s with yld := { s.yld with cycles := ((f, m) :: s.yld.cycles).take 100 } }

/-- The sum of a list of integers. -/
def sumInt (l : List Int) : Int := l.foldl (· + ·) 0

/-- The mass of a sample, g. -/
def sampleMass (x : YieldSample) : F64 := gDiv x.flow (gInt 10)

/-- Samples older than 32 s leave; mass not assigned is not mapped (R553, R554). -/
def dropSamples (now : Nat) (s : State) : State :=
  let old := s.yld.samples.filter (fun x => decide (x.at_ + 32 * sec ≤ now))
  let s := { s with yld := { s.yld with samples := s.yld.samples.filter (fun x => !decide (x.at_ + 32 * sec ≤ now)) } }
  foldOver (fun s x => if x.assigned then s else addUnmapped (sampleMass x) s) s old

/-- A yield sample is taken (R552), once the cycle that ends at the instant has given its values. Cut instants go on from it where no sample of the history remains, as after a step of device time
(R554, R520). -/
def yieldSample (s : State) : State :=
  match (if yieldOn s && !cycleOver s then onMultiple s (100 * ms) else none) with
  | none => s
  | some t =>
    if s.yld.samples.any (fun x => x.at_ == t) then s
    else
      let l := s.yld.cycles
      let flow := gRat (sumInt (l.map Prod.fst) * s.get F.YLD_CAL_FACTOR) (16384 * max 1 l.length)
      let moist := if s.flag F.YLD_MOIST_MOIST_EN then gRat (sumInt (l.map Prod.snd)) (max 1 l.length) else some ⟨0, 0⟩
      let x : YieldSample :=
        { at_ := t, flow := flow, moist := moist, lat := sx 64 (s.get64 Reg.GNS_LAT_LO Reg.GNS_LAT_HI),
          lon := sx 64 (s.get64 Reg.GNS_LON_LO Reg.GNS_LON_HI), hgt := sx 32 (s.reg Reg.GNS_HGT),
          hdg := s.get F.GNS_HDG_HEADING, fix := s.get F.GNS_STATUS_FIX,
          sect := toBits 32 (lineValue s (s.get F.YLD_SECT_SECT_ENTRY) (s.get F.YLD_SECT_SECT_WORD)),
          headland := s.fn.headland, assigned := false }
      let cut := if s.yld.samples.all (fun x => decide (x.at_ + 32 * sec ≤ t)) then t else s.yld.nextCut.getD t
      let fi := gScaled flow 1 1
      let mi := gScaled moist 1 1
      dropSamples t { s with yld := { s.yld with samples := s.yld.samples ++ [x], nextCut := some cut, flowNow := fi, moistNow := mi } }

/-- The sample at a device time. -/
def sampleAt (s : State) (t : Nat) : Option YieldSample := s.yld.samples.find? (fun x => x.at_ == t)

/-- The width of a section, and the sections set in a section word. -/
def sectionsSet (s : State) (w : Nat) : List Nat := (upFrom 0 (min 16 (s.get F.YLD_CFG_SECTIONS))).filter (fun i => bitAt w i)
def widthOf (s : State) (i : Nat) : Nat := s.get (F.YLD_SEC_WIDTH i)

/-- W in mm (R555). -/
def cutWidth (s : State) (sect : Nat) (headland : Bool) : Nat :=
  if s.flag F.YLD_CFG_HEAD_ZERO && headland then 0 else ((sectionsSet s sect).map (widthOf s)).foldl (· + ·) 0

/-- P(t) of a sample in the frame of a field (R552). -/
def samplePlace (s : State) (f : Field) (x : YieldSample) : F64 × F64 :=
  fromMachine (fieldPosition f.lat f.lon f.hgt x.lat x.lon x.hgt) (headingRad x.hdg) (gRat (s.gets F.YLD_CAL_CUT_X) 100) (some ⟨0, 0⟩)

/-! ### Cut instants (R555) -/

/-- One section of a cut instant is placed. -/
def placeSection (m w : F64) (wTotal k : Nat) (p0 p1 left : F64 × F64) (d : F64) (low : Bool) (s : State) (i : Nat) : State :=
  let width := widthOf s i
  let n := ceilDiv width 250
  let half := gRat 1 2
  let mass := gDiv (gMul m (gInt width)) (gInt ((n * wTotal * k : Nat) : Int))
  let area := gDiv (gMul (gRat width 1000) d) (gInt ((n * k : Nat) : Int))
  foldOver (fun s (q : Nat) =>
    let y := gAdd (gRat (s.gets (F.YLD_SEC_OFF_Y i)) 100)
      (gMul (gRat width 1000) (gSub (gDiv (gAdd (gInt q) half) (gInt n)) half))
    foldOver (fun s (r : Nat) =>
      let at_ := fun (a b l : F64) => gAdd (gAdd a (gDiv (gMul (gSub b a) (gAdd (gInt r) half)) (gInt k))) (gMul y l)
      contribute (at_ p0.1 p1.1 left.1, at_ p0.2 p1.2 left.2) mass area w low s) s (upFrom 0 k)) s (upFrom 0 n)

/-- The mass sample of a cut instant is assigned (R554): its mass, 0 where it is missing or assigned already. -/
def assignMass (t : Nat) (s : State) : F64 × State :=
  match sampleAt s t with
  | none => (some ⟨0, 0⟩, s)
  | some x =>
    if x.assigned then (some ⟨0, 0⟩, s)
    else
      let l := s.yld.samples.map (fun y => if y.at_ = t then { y with assigned := true } else y)
      (sampleMass x, { s with yld := { s.yld with samples := l } })

/-- The moisture of the sample at a time, 0 where it is missing. -/
def moistAt (s : State) (t : Nat) : F64 :=
  match sampleAt s t with
  | none => some ⟨0, 0⟩
  | some x => x.moist

/-- A record of the time log for a cut instant on a whole second while the field is open: the reported position and the cut-instant
position P(τ) in the frame of the field, in 0.1 mm, from which the WGS 84 position of the file follows (R552, R569). -/
def logCut (tau : Nat) (x : YieldSample) (p : F64 × F64) (w : Nat) (s : State) : State :=
  if tau % sec = 0 then
    let r : TimeLog := { at_ := tau / sec, lat := x.lat, lon := x.lon, hgt := x.hgt, east := gScaled p.1 10000 1,
                         north := gScaled p.2 10000 1, fix := x.fix, flow := gScaled x.flow 1 1, moist := gScaled x.moist 1 1, width := w,
                         leap := s.gets F.GNS_LEAP_LEAP }
    modLive (fun d => { d with log := d.log ++ [r] }) s
  else s

/-- Cut instant τ is placed, or its mass is not mapped. -/
def placeCut (tau : Nat) (s : State) : State :=
  let (m, s) := assignMass (tau + s.get F.YLD_DELAY_FLOW_DELAY * 100 * ms) s
  let w := moistAt s (tau + s.get F.YLD_DELAY_MOIST_DELAY * 100 * ms)
  let s := { s with yld := { s.yld with mapping := false } }
  let field := s.yld.openId.bind (findField s)
  let s := match field, sampleAt s tau with
    | some f, some x => logCut tau x (samplePlace s f x) (cutWidth s x.sect x.headland) s
    | _, _ => s
  match field, sampleAt s (tau - 100 * ms), sampleAt s tau with
  | some f, some s0, some s1 =>
    let width := cutWidth s s1.sect s1.headland
    let p0 := samplePlace s f s0
    let p1 := samplePlace s f s1
    let de := gSub p1.1 p0.1
    let dn := gSub p1.2 p0.2
    let d := gSqrt (gAdd (gMul de de) (gMul dn dn))
    if width = 0 ∨ gLe (gRat 2 100) d = false ∨ s0.fix < s.get F.YLD_CFG_MAP_FIX_MIN ∨ s1.fix < s.get F.YLD_CFG_MAP_FIX_MIN then
      addUnmapped m s
    else
      let k := max 1 (gCeil (gDiv d (gRat 1 4))).toNat
      let h := headingRad s1.hdg
      let left := (gNeg (gCos h), gSin h)
      foldOver (placeSection m w width k p0 p1 left d (decide (s0.fix < 4) || decide (s1.fix < 4)))
        { s with yld := { s.yld with mapping := true } } (sectionsSet s s1.sect)
  | _, _, _ => addUnmapped m s

/-- The lowest cut instant not yet processed, once its delays have passed (R554). -/
def cutInstant (s : State) : State :=
  match s.yld.nextCut with
  | none => s
  | some tau =>
    if !yieldOn s || deviceTime s < tau + (max (s.get F.YLD_DELAY_FLOW_DELAY) (s.get F.YLD_DELAY_MOIST_DELAY)) * 100 * ms then s
    else placeCut tau { s with yld := { s.yld with nextCut := some (tau + 100 * ms) } }

/-- A Yard die restart without a takeover: the open field continues from its stored tiles, and the history is lost
(R563). -/
def restartYield (s : State) : State :=
  let d := match s.yld.openId.bind (findField s) with
    | none => {}
    | some f => reload f.data
  { s with yld := { s.yld with live := d, samples := [], nextCut := none, cycles := [] } }

/-! ### Registers (R597) -/

/-- The YLD status registers. -/
def yieldOverlay (s : State) (a : Nat) : Option Nat :=
  let d := s.yld.live
  let opened := s.yld.openId.isSome
  let kg := fun (v : F64) => if opened then satU 32 (gScaled v 1 1000) else 0
  if a = Reg.YLD_STATUS then some (b2n opened + 2 * b2n (opened && s.yld.mapping) + 65536 * satN 8 s.yld.fields.length)
  else if a = Reg.YLD_FIELD_ID then some (s.yld.openId.getD 0)
  else if a = Reg.YLD_MASS then some (kg d.mass)
  else if a = Reg.YLD_UNMAPPED then some (kg d.unmapped)
  else if a = Reg.YLD_AREA then some (if opened then satU 32 (gScaled d.area 1 1) else 0)
  else if a = Reg.YLD_NOW then some (if opened then satU 16 s.yld.flowNow + 65536 * satU 16 s.yld.moistNow else 0)
  else if a = Reg.YLD_TILES then some ((if opened then satN 16 d.tiles.length else 0) + 65536 * satN 16 (storeFree s / 1048576))
  else none

/-! ### Requests (R564–R570) -/

/-- Close writes the tiles and increments GEN_F (R566). COVERAGE names the open field, so rows that have not been sent are not sent
(R585, R586). -/
def closeField (s : State) : State :=
  match s.yld.openId with
  | none => s
  | some id =>
    let span := (s.yld.openedAt, deviceTime s / sec)
    let s := flushField (modLive (fun d => { d with openings := d.openings ++ [span] }) s)
    let s := modField id (fun f => { f with genF := (f.genF + 1) % 4294967296 }) s
    raise0 Src.YLD_FIELD_CLOSED
      { s with
        yld := { s.yld with openId := none, live := {}, mapping := false }
        cst := { s.cst with rows := [], again := [] } }

/-- A stored field is opened. -/
def openField (f : Field) (s : State) : State :=
  let t := deviceTime s / sec
  raise0 Src.YLD_FIELD_OPENED
    { s with yld := { s.yld with openId := some f.id, live := reload f.data, openedAt := t, flushedAt := s.now, mapping := false } }

/-- FIELD_OPEN (R565). -/
def runFieldOpen (p : Request) (s : State) : Answer :=
  let id := fieldAt p.params 0 4
  let lat := sfieldAt p.params 4 8
  let lon := sfieldAt p.params 12 8
  let hgt := sfieldAt p.params 20 4
  if p.target ≠ 0#8 then refuse s St.badTarget
  else if id = 0 then refuse s St.badParam
  else if s.yld.openId = some id then ok s []
  else
    match findField s id with
    | some f =>
      if f.lat ≠ lat ∨ f.lon ≠ lon ∨ f.hgt ≠ hgt then refuse s St.badParam
      else ok (openField f (closeField s)) []
    | none =>
      if storeFree s < 268435456 ∨ 128 ≤ s.yld.fields.length then refuse s St.overBudget
      else
        let f : Field := { id := id, lat := lat, lon := lon, hgt := hgt, name := (p.params.drop 24).take 16, genF := 0, data := {} }
        let s := closeField s
        ok (openField f { s with yld := { s.yld with fields := s.yld.fields ++ [f] } }) []

/-- FIELD_CLOSE (R566). -/
def runFieldClose (p : Request) (s : State) : Answer :=
  let id := fieldAt p.params 0 4
  let act := fieldAt p.params 4 1
  if p.target ≠ 0#8 then refuse s St.badTarget
  else if act = 0 then ok (if s.yld.openId = some id then closeField s else s) []
  else if act = 1 then
    if s.yld.openId = some id then refuse s St.badParam
    else ok { s with yld := { s.yld with fields := s.yld.fields.filter (fun f => f.id != id) } } []
  else refuse s St.badParam

/-- Tile indexes from a position on (R567). -/
def tileIndexes (l : List YieldTile) : Bytes := l.flatMap (fun t => leBytes 2 (toBits 16 t.te) ++ leBytes 2 (toBits 16 t.tn))

/-- YIELD_TILE_READ (R567). -/
def runYieldTileRead (p : Request) (s : State) : Answer :=
  let id := fieldAt p.params 0 4
  let kind := fieldAt p.params 4 1
  let row := fieldAt p.params 5 1
  let rows := fieldAt p.params 6 1
  let te := sfieldAt p.params 8 2
  let tn := sfieldAt p.params 10 2
  match findField s id with
  | none => refuse s St.badAddress
  | some f =>
    let d := fieldData s f
    if kind = 0 then
      if rows = 0 ∨ rows > 3 ∨ row + rows > 32 then refuse s St.badParam
      else
        let t := (findTile d.tiles te tn).getD { te := te, tn := tn, first := 0, last := 0, gen := 0, cells := [] }
        ok s (tileHeader id t ++ tileCellBytes t (32 * row) (32 * rows))
    else if kind = 1 then
      ok s (leBytes 2 d.tiles.length ++ leBytes 2 0 ++ tileIndexes ((d.tiles.drop (fieldAt p.params 8 2)).take 344))
    else refuse s St.badParam

/-- YIELD_STATUS (R568). -/
def runYieldStatus (_ : Request) (s : State) : Answer :=
  ok s ((upFrom 0 8).flatMap (fun i =>
    let a := Reg.YLD_STATUS + 4 * i
    leBytes 4 ((yieldOverlay s a).getD (s.reg a))))

/-- What the task data files are made from: the field with its openings and its time log (R569). -/
def taskSource (f : Field) : List Int :=
  [(f.id : Int), f.lat, f.lon, f.hgt, (f.genF : Int)] ++ f.name.map (fun b => (b.toNat : Int)) ++
    f.data.openings.flatMap (fun o => [(o.1 : Int), (o.2 : Int)]) ++
    [gScaled f.data.mass 1 1, gScaled f.data.area 1000 1] ++
    f.data.log.flatMap (fun r => [(r.at_ : Int), r.lat, r.lon, r.hgt, r.east, r.north, (r.fix : Int), r.flow, r.moist, (r.width : Int), r.leap])

/-- TASK_EXPORT (R570). The text of the files is that of ISO 11783-10, which the spec names and does not restate. -/
def runTaskExport (p : Request) (s : State) : Answer :=
  let id := fieldAt p.params 0 4
  let file := fieldAt p.params 4 1
  let off := fieldAt p.params 8 4
  let len := fieldAt p.params 12 2
  if p.target ≠ 0#8 then refuse s St.badTarget
  else if file > 2 ∨ len = 0 ∨ len > 1384 ∨ s.yld.openId = some id then refuse s St.badParam
  else
    match findField s id with
    | none => refuse s St.badAddress
    | some f =>
      let b := Config.taskFile (taskSource f) file
      ok s (leBytes 4 f.genF ++ leBytes 4 b.length ++ (b.drop off).take len)

/-! ### The rows -/

/-- YIELD_SAMPLE (R552). -/
def execYieldSample (t : Nat) (s : State) : Res := .next (yieldSample (begin_ t s))

/-- CUT_INSTANT (R555). -/
def execCutInstant (t : Nat) (s : State) : Res := .next (cutInstant (begin_ t s))

/-- TILE_FLUSH (R560): tiles are written every 10 s. -/
def execTileFlush (t : Nat) (s : State) : Res :=
  let s := begin_ t s
  .next (if s.die.yardUp = true ∧ s.yld.flushedAt + 10 * sec ≤ s.now then flushField s else s)

end Sys2Proof.Machine
end

