-- ==== Sys2Proof/Machine/Consist.lean ====
section
/-!
DEFINITION. *Yield Mapping and the Consist*, the consist: datagrams, keys, membership, coverage, rendezvous and the relay
of corrections (R571–R599).
-/

namespace Sys2Proof.Machine

/-- The consist runs (R550). -/
def consistOn (s : State) : Bool := isTerminus s && s.flag F.CST_CFG_EN && s.die.yardUp

/-- STATE of CST_STATUS (R598). -/
def cstOut : Nat := 0
def cstJoining : Nat := 1
def cstMember : Nat := 2
def cstConflict : Nat := 3
def cstState (s : State) : Nat := s.get F.CST_STATUS_STATE
def ownMember (s : State) : Nat := s.get F.CST_STATUS_MEMBER
def consistId (s : State) : Nat := s.reg Reg.CST_CONSIST
def machineId (s : State) : Nat := s.get64 Reg.CST_MACHINE_LO Reg.CST_MACHINE_HI

/-- The consist part changed. -/
def modCst (f : ConsistPart → ConsistPart) (s : State) : State := { s with cst := f s.cst }

/-! ### Datagrams (R573–R576) -/

/-- The sender key of R574. -/
def senderKey (key : Bytes) (sender keyId : Nat) : Bytes :=
  (hmacSha256 key (ascii [0x47, 0x5A, 0x56, 0x2D, 0x43, 0x53, 0x54] ++ leBytes 8 sender ++ leBytes 1 keyId)).take 16

/-- The nonce of R574: SEQ, then the low 4 bytes of SENDER. -/
def consistNonce (seq sender : Nat) : Bytes := leBytes 8 seq ++ leBytes 4 sender

/-- The header of R573. -/
def consistHeader (type consist member keyId len sender seq : Nat) : Bytes :=
  leBytes 2 0x5A43 ++ leBytes 1 1 ++ leBytes 1 type ++ leBytes 4 consist ++ leBytes 1 member ++ leBytes 1 keyId ++
    leBytes 2 len ++ leBytes 8 sender ++ leBytes 8 seq

/-- A whole datagram. -/
def sealDatagram (key : Bytes) (type consist member keyId sender seq : Nat) (payload : Bytes) : Bytes :=
  let h := consistHeader type consist member keyId payload.length sender seq
  let k := senderKey key sender keyId
  let n := consistNonce seq sender
  let c := gcmText k n payload
  h ++ c ++ gcmTag k n h c

/-- Numbers are reserved when those reserved are used up, and at every start of the Yard die (R575). -/
def reserveSeq (s : State) : State :=
  modCst (fun c => { c with seqNext := c.seqMark, seqEnd := c.seqMark + 1048576, seqMark := c.seqMark + 1048576 }) s

/-- The key that the module sends with in a consist (R579): the newest slot of it. -/
def sendKey (s : State) (consist : Nat) : Option ConsistKey := s.cst.keys.reverse.find? (fun k => k.consist == consist)

/-- A message leaves to PEER_IP at UDP_PORT while the consist runs (R550, R571). -/
def sendConsist (type consist member : Nat) (payload : Bytes) (s : State) : State :=
  match (if consistOn s then sendKey s consist else none) with
  | none => s
  | some k =>
    let s := if s.cst.seqNext < s.cst.seqEnd then s else reserveSeq s
    let n := s.cst.seqNext
    let s := (modCst (fun c => { c with seqNext := n + 1 }) s).put F.CST_STATUS_KEY_ID k.keyId
    emit (.datagram (s.reg Reg.CST_PEER) (s.get F.CST_CFG_UDP_PORT) (sealDatagram k.key type consist member k.keyId (ownUid s) n payload)) s

/-- A received datagram that passed every check: TYPE, MEMBER, SENDER and payload. -/
structure Datagram where
  type : Nat
  member : Nat
  sender : Nat
  payload : Bytes
  deriving DecidableEq, Repr

/-- A datagram is discarded and counted; AUTH_FAIL is raised at most once per second (R576). -/
def authFail (s : State) : State :=
  let s := s.bump F.CST_CNT_AUTH_FAIL 1
  let held := match s.cst.authFailAt with
    | none => false
    | some t => decide (s.now < t + sec)
  if held then s else raise0 Src.CST_AUTH_FAIL (modCst (fun c => { c with authFailAt := some s.now }) s)

/-- Replay state of a sender. -/
def replayOf (s : State) (sender : Nat) : Option Replay := s.cst.replay.find? (fun r => r.sender == sender)

/-- SEQ may be accepted from a sender (R576). -/
def seqFresh (s : State) (sender seq : Nat) : Bool :=
  match replayOf s sender with
  | none => true
  | some r => decide (r.highest < seq) || (decide (r.highest < seq + 64) && !bitAt r.seen (r.highest - seq))

/-- The sender heard least recently. -/
def oldestSender : List Replay → Option Replay
  | [] => none
  | r :: l =>
    match oldestSender l with
    | none => some r
    | some q => if q.heardAt < r.heardAt then some q else some r

/-- SEQ is noted as accepted; the state of the sender heard least recently makes room beyond 64. -/
def noteSeq (sender seq : Nat) (s : State) : State :=
  match replayOf s sender with
  | some r =>
    let r' : Replay :=
      if r.highest < seq then { r with highest := seq, seen := (r.seen * 2 ^ (min 64 (seq - r.highest)) + 1) % 2 ^ 64, heardAt := s.now }
      else { r with seen := setBitsAt r.seen (r.highest - seq) 1 1, heardAt := s.now }
    modCst (fun c => { c with replay := c.replay.map (fun q => if q.sender == sender then r' else q) }) s
  | none =>
    let l := if s.cst.replay.length < 64 then s.cst.replay
      else match oldestSender s.cst.replay with
        | none => s.cst.replay
        | some o => s.cst.replay.filter (fun q => q.sender != o.sender)
    modCst (fun c => { c with replay := l ++ [{ sender := sender, highest := seq, seen := 1, heardAt := s.now }] }) s

/-- The checks of R576 on a datagram. -/
def openDatagram (d : Bytes) (s : State) : State × Option Datagram :=
  let h := d.take 28
  let len := fieldAt d 10 2
  let keyId := fieldAt d 9 1
  let sender := fieldAt d 12 8
  let seq := fieldAt d 20 8
  if fieldAt d 0 2 ≠ 0x5A43 ∨ fieldAt d 2 1 ≠ 1 ∨ d.length ≠ 44 + len ∨ cstState s = cstOut ∨ fieldAt d 4 4 ≠ consistId s then
    (authFail s, none)
  else
    match s.cst.keys.find? (fun k => k.keyId == keyId) with
    | none => (authFail s, none)
    | some k =>
      let c := (d.drop 28).take len
      let key := senderKey k.key sender keyId
      let n := consistNonce seq sender
      if gcmTag key n h c ≠ d.drop (28 + len) then (authFail s, none)
      else if !seqFresh s sender seq then (s.bump F.CST_CNT_REPLAY 1, none)
      else
        (noteSeq sender seq s, some { type := fieldAt d 3 1, member := fieldAt d 8 1, sender := sender, payload := gcmText key n c })

/-- TYPE is one of R577. -/
def knownType (type : Nat) : Bool := decide (1 ≤ type) && decide (type ≤ 5)

/-- What a checked datagram of a type does (R571, R576); a fragmented one is discarded (R89). A TYPE that R577 does not list is checked
and counted as any other and has no effect of its own. -/
def receiveDatagram (type : Nat) (f : Datagram → State → State) (d : UdpDatagram) (s : State) : State :=
  if d.fragmented || !consistOn s || (knownType (fieldAt d.bytes 3 1) && fieldAt d.bytes 3 1 != type) then s
  else
    match openDatagram d.bytes s with
    | (s, none) => s
    | (s, some x) => if x.type = type then f x s else s

/-! ### Keys (R578, R579) -/

/-- A key joins the slots (R578). -/
def setConsistKey (k : ConsistKey) (l : List ConsistKey) : List ConsistKey :=
  let rest := l.filter (fun x => x.keyId != k.keyId)
  (if rest.length < 2 then rest else rest.drop 1) ++ [k]

/-- CONSIST_KEY_SET (R578). -/
def runConsistKeySet (p : Request) (s : State) : Answer :=
  if p.target ≠ 0#8 then refuse s St.badTarget
  else
    let wrap := match findSession s p.session.toNat with
      | none => []
      | some x => hmacSha256 x.key (ascii [0x47, 0x5A, 0x56, 0x2D, 0x57, 0x52, 0x41, 0x50] ++ leBytes 4 p.sequence.toNat)
    let k : ConsistKey := { consist := fieldAt p.params 0 4, keyId := fieldAt p.params 4 1,
                            key := xorBytes ((p.params.drop 8).take 16) (wrap.take 16) }
    ok (modCst (fun c => { c with keys := setConsistKey k c.keys }) s) []

/-! ### Rendezvous state (R590, R591) -/

/-- RDV_STATE changes; each change raises RDV_CHANGE. -/
def setRdvState (st partner : Nat) (s : State) : State :=
  let was := s.get F.CST_RDV_RDV_STATE
  let s := (s.put F.CST_RDV_RDV_STATE st).put F.CST_RDV_PARTNER partner
  if was = st then s else raise0 Src.CST_RDV_CHANGE s

/-- A RENDEZVOUS payload of this machine (R588). -/
def rdvPayload (s : State) (id kind target side reason eta : Nat) : Bytes :=
  leBytes 4 id ++ leBytes 1 kind ++ leBytes 1 target ++ leBytes 1 side ++ leBytes 1 reason ++ leBytes 8 s.nav.posAt ++
    leBytes 8 (s.get64 Reg.GNS_LAT_LO Reg.GNS_LAT_HI) ++ leBytes 8 (s.get64 Reg.GNS_LON_LO Reg.GNS_LON_HI) ++
    leBytes 4 (s.get F.GNS_HDG_HEADING) ++ leBytes 2 (s.get F.GNS_VEL_SPEED) ++ leBytes 2 (s.get F.CST_SPOUT_REF_X) ++
    leBytes 2 (s.get F.CST_SPOUT_REF_Y) ++ leBytes 2 eta ++ leBytes 4 0

/-- A RENDEZVOUS message to a member; a module that a conflict of numbers has stopped sends none (R582). -/
def sendRdv (id kind target side reason eta : Nat) (s : State) : State :=
  if cstState s ≠ cstMember then s
  else sendConsist 0x03 (consistId s) (ownMember s) (rdvPayload s id kind target side reason eta) s

/-- The rendezvous ends with a REASON; RELEASE goes to the partner except under REASON 2 (R591). -/
def endRdv (reason : Nat) (s : State) : State :=
  match s.cst.rdv with
  | none => s
  | some r =>
    let s := if reason = 2 then s else sendRdv r.id 6 r.target r.side reason 0 s
    setRdvState 0 0xFF ((modCst (fun c => { c with rdv := none }) s).put F.CST_RDV_REASON reason)

/-- The partner has gone (R591). -/
def partnerGone (m : Nat) (s : State) : State :=
  if s.get F.CST_RDV_RDV_STATE = 2 ∧ s.get F.CST_RDV_PARTNER = m then endRdv 5 s else s

/-! ### Membership (R580–R584) -/

/-- The member table with a member added or replaced, in ascending order. -/
def putMember (m : ConsistMember) : List ConsistMember → List ConsistMember
  | [] => [m]
  | x :: l => if m.num < x.num then m :: x :: l else if m.num = x.num then m :: l else x :: putMember m l

/-- CST_STATUS, CST_CONSIST and the listening of R580. -/
def startListening (consist st : Nat) (s : State) : State :=
  let s := (s.put F.CST_STATUS_STATE st).setReg Reg.CST_CONSIST consist
  modCst (fun c => { c with listenEnd := some (s.now + 3 * sec), heard := [] }) s

/-- The module is no longer a member: it keeps nothing of the consist but its keys, SEQ and replay state. -/
def leaveTable (s : State) : State :=
  let s := ((s.put F.CST_STATUS_STATE cstOut).put F.CST_STATUS_MEMBER 0).setReg Reg.CST_CONSIST 0
  modCst (fun c => { c with members := [], listenEnd := none, heard := [], rows := [], again := [], offered := [] }) s

/-- The member leaves its consist: LEAVE now and once more after 100 ms (R583). A module that a conflict of numbers has stopped leaves
without a message (R582, log entry 192). -/
def leaveConsist (s : State) : State :=
  if cstState s = cstConflict then leaveTable (endRdv 1 s)
  else if cstState s ≠ cstMember then s
  else
    let id := consistId s
    let m := ownMember s
    let s := endRdv 1 s
    let s := sendConsist 0x05 id m (leBytes 8 (machineId s)) s
    leaveTable (modCst (fun c => { c with leaving := some (id, m, s.now + 100 * ms) }) s)

/-- The second LEAVE (R583). -/
def leaveRepeat (s : State) : State :=
  match (if consistOn s then s.cst.leaving else none) with
  | none => s
  | some (id, m, t) =>
    if s.now < t then s
    else sendConsist 0x05 id m (leBytes 8 (machineId s)) (modCst (fun c => { c with leaving := none }) s)

/-- CONSIST_JOIN (R580). -/
def runConsistJoin (p : Request) (s : State) : Answer :=
  let id := fieldAt p.params 0 4
  if p.target ≠ 0#8 then refuse s St.badTarget
  else if cstState s = cstMember ∧ consistId s = id then ok s (leBytes 1 (ownMember s))
  else if !consistOn s then refuse s St.badParam
  else if s.cst.keys.any (fun k => k.consist == id) = false then refuse s St.consistKey
  else
    let s := startListening id cstJoining (leaveTable (leaveConsist s))
    { st := s, job := some .listen }

/-- The listening ends: the lowest number not heard, or CONSIST_FULL (R580). The requests that wait are completed by the
caller's answer: a number, or none. -/
def listenOver (s : State) : Option (State × Option Nat) :=
  match s.cst.listenEnd with
  | none => none
  | some t =>
    if s.now < t then none
    else
      match (upFrom 0 32).find? (fun n => !s.cst.heard.contains n) with
      | none => some (leaveTable s, none)
      | some n =>
        -- the heartbeat instant of the second that runs has passed for it (R581)
        let beat := if deviceTime s < n * 20 * ms then none else some ((deviceTime s - n * 20 * ms) / sec)
        let s := modCst (fun c => { c with listenEnd := none, heard := [], beatAt := beat }) s
        let key := match sendKey s (consistId s) with
          | none => 0
          | some k => k.keyId
        let s := ((s.put F.CST_STATUS_STATE cstMember).put F.CST_STATUS_MEMBER n).put F.CST_STATUS_KEY_ID key
        some (raise0 Src.CST_MEMBER_JOINED s, some n)

/-- JOIN_LISTEN_END with the completion of CONSIST_JOIN. -/
def joinListenEnd (s : State) : State :=
  match (if consistOn s then listenOver s else none) with
  | none => s
  | some (s, r) =>
    foldOver (fun s w =>
      match r with
      | some n => completeWaiting w (joinNum s) St.ok 0 (leBytes 1 n) s
      | none => completeWaiting w (joinNum s) St.consistFull 0 [] s) s (s.pk.waiting.filter (fun w => w.job == Job.listen))

/-- CONSIST_LEAVE (R583). -/
def runConsistLeave (p : Request) (s : State) : Answer :=
  if p.target ≠ 0#8 then refuse s St.badTarget else ok (leaveConsist s) []

/-- A heartbeat payload of this machine (R581), with STATE and TANK. -/
def heartbeatPayload (s : State) (state tank width : Nat) : Bytes :=
  let heard := maskOf ((s.cst.members.filter (fun m => decide (s.now < m.at_ + 5 * sec))).map (·.num))
  leBytes 8 (machineId s) ++ leBytes 1 (s.get F.CST_CFG_KIND) ++ leBytes 1 state ++ leBytes 1 (s.get F.GNS_STATUS_FIX) ++
    leBytes 1 tank ++ leBytes 8 s.nav.posAt ++ leBytes 8 (s.get64 Reg.GNS_LAT_LO Reg.GNS_LAT_HI) ++
    leBytes 8 (s.get64 Reg.GNS_LON_LO Reg.GNS_LON_HI) ++ leBytes 4 (s.reg Reg.GNS_HGT) ++ leBytes 4 (s.get F.GNS_HDG_HEADING) ++
    leBytes 2 (s.get F.GNS_VEL_SPEED) ++ leBytes 2 (satU 16 (roundDiv width 10)) ++ leBytes 4 (s.yld.openId.getD 0) ++ leBytes 4 heard ++ leBytes 8 0

/-- TANK (R581). -/
def tankFill (s : State) : Nat :=
  if s.flag F.CST_TANK_TANK_EN then
    (clampI 0 100 (roundDiv (lineValue s (s.get F.CST_TANK_TANK_ENTRY) (s.get F.CST_TANK_TANK_WORD)) 10)).toNat
  else 255

/-- A heartbeat is sent in its second, or skipped where it cannot leave within 100 ms (R581). -/
def heartbeatSend (s : State) : State :=
  let off := ownMember s * 20 * ms
  let d := deviceTime s
  if !consistOn s || cstState s ≠ cstMember || d < off || s.cst.beatAt = some ((d - off) / sec) then s
  else
    let s := modCst (fun c => { c with beatAt := some ((d - off) / sec) }) s
    if (d - off) % sec > 100 * ms then s.bump F.CST_CNT_SKIPPED 1
    else
      let sect := toBits 32 (lineValue s (s.get F.YLD_SECT_SECT_ENTRY) (s.get F.YLD_SECT_SECT_WORD))
      let w := if s.flag F.YLD_CFG_EN then cutWidth s sect s.fn.headland else 0
      let un := Config.unloading s.drawn
      let st := b2n (decide (0 < w)) + 2 * b2n un + 4 * b2n (engaged s) + 8 * s.get F.CST_CFG_RELAY_TX + 16 * s.get F.CST_RDV_AVAILABLE
      sendConsist 0x01 (consistId s) (ownMember s) (heartbeatPayload s st (tankFill s) w) { s with drawn := s.drawn + 1 }

/-- A member's heartbeat (R581, R582). -/
def takeHeartbeat (x : Datagram) (s : State) : State :=
  let p := x.payload
  let s := if s.cst.listenEnd.isSome then modCst (fun c => { c with heard := if c.heard.contains x.member then c.heard else c.heard ++ [x.member] }) s else s
  if cstState s = cstMember ∧ x.member = ownMember s then
    if fieldAt p 0 8 < machineId s then raise0 Src.CST_MEMBER_CONFLICT (startListening (consistId s) cstConflict s) else s
  else if x.member > 31 then s
  else
    let m : ConsistMember :=
      { num := x.member, machine := fieldAt p 0 8, kind := fieldAt p 8 1, state := fieldAt p 9 1, fix := fieldAt p 10 1,
        tank := fieldAt p 11 1, lat := fieldAt p 20 8, lon := fieldAt p 28 8, at_ := s.now, absent := false }
    modCst (fun c => { c with members := putMember m c.members }) s

/-- A member has not been heard for 5 s (R582). -/
def memberLost (n : Nat) (s : State) : State :=
  match (if consistOn s then s.cst.members.find? (fun m => m.num == n && !m.absent) else none) with
  | none => s
  | some m =>
    if s.now < m.at_ + 5 * sec then s
    else partnerGone n (raise0 Src.CST_MEMBER_LOST (modCst (fun c => { c with members := putMember { m with absent := true } c.members }) s))

/-- A member has not been heard for 60 s (R582). -/
def memberRemove (n : Nat) (s : State) : State :=
  if !consistOn s then s
  else modCst (fun c => { c with members := c.members.filter (fun m => !(m.num == n && decide (m.at_ + 60 * sec ≤ s.now))) }) s

/-- LEAVE of a member (R583). -/
def takeLeave (x : Datagram) (s : State) : State :=
  let id := fieldAt x.payload 0 8
  match s.cst.members.find? (fun m => m.machine == id) with
  | none => s
  | some m => partnerGone m.num (modCst (fun c => { c with members := c.members.filter (fun y => y.machine != id) }) s)

/-- A Yard die restart without a takeover ends the membership (R584). -/
def restartConsist (s : State) : State :=
  let s := ((s.put F.CST_RDV_RDV_STATE 0).put F.CST_RDV_PARTNER 0xFF).put F.CST_RDV_AVAILABLE 0
  modCst (fun c => { c with rdv := none, replay := [], leaving := none }) (leaveTable s)

/-! ### Coverage (R585–R587) -/

/-- ORIG_CRC of the open field (R585). -/
def originCrc (f : Field) : Nat := crc32c (leBytes 8 (toBits 64 f.lat) ++ leBytes 8 (toBits 64 f.lon) ++ leBytes 4 (toBits 32 f.hgt))

/-- A row entry: bit c is the OWN flag of column c. -/
def rowEntry (s : State) (r : Int × Int × Nat) : Bytes :=
  let bits := match findTile s.yld.live.tiles r.1 r.2.1 with
    | none => 0
    | some t => maskOf ((upFrom 0 32).filter (fun c => (tileCell t (32 * r.2.2 + c)).own))
  leBytes 2 (toBits 16 r.1) ++ leBytes 2 (toBits 16 r.2.1) ++ leBytes 1 r.2.2 ++ leBytes 3 0 ++ leBytes 4 bits

/-- Rows in messages of at most 99. -/
def chunks {α : Type} (n : Nat) : Nat → List α → List (List α)
  | 0, _ => []
  | fuel + 1, l => if l.isEmpty then [] else l.take n :: chunks n fuel (l.drop n)

/-- Coverage is sent once per second, at most 8 messages (R586). -/
def coverageSend (s : State) : State :=
  let wait := match s.cst.coverAt with
    | none => false
    | some t => decide (s.now < t + sec)
  match (if consistOn s && cstState s == cstMember && !wait then s.yld.openId.bind (findField s) else none) with
  | none => s
  | some f =>
    let due := (s.cst.again.filter (fun a => decide (a.1 ≤ s.now))).map Prod.snd
    let later := s.cst.again.filter (fun a => !decide (a.1 ≤ s.now))
    let fresh := s.cst.rows
    let all := fresh ++ due.filter (fun r => !fresh.contains r)
    let now := all.take 792
    let rest := all.drop 792
    let again := (now.filter (fun r => fresh.contains r)).map (fun r => (s.now + 5 * sec, r)) ++
      (rest.filter (fun r => !fresh.contains r)).map (fun r => (s.now, r))
    let s' := modCst (fun c => { c with coverAt := some s.now, rows := rest.filter (fun r => fresh.contains r), again := later ++ again }) s
    foldOver (fun s l =>
      sendConsist 0x02 (consistId s) (ownMember s)
        (leBytes 4 f.id ++ leBytes 4 (originCrc f) ++ leBytes 1 l.length ++ leBytes 3 0 ++ l.flatMap (rowEntry s)) s) s' (chunks 99 8 now)

/-- The OTHER flag of a cell is set (R587); a tile beyond the limit of a field is not created, and one that the store has no room for
neither (R559, R561). A flag that is set already is no change. -/
def coverCell (te tn : Int) (row c : Nat) (s : State) : State :=
  let set := match findTile s.yld.live.tiles te tn with
    | none => false
    | some t => (tileCell t (32 * row + c)).other
  if set then s
  else
    match changeCell (32 * te + (c : Nat)) (32 * tn + (row : Nat)) (fun x => { x with other := true }) s with
    | none => if s.yld.live.tiles.length < 16384 then s else fieldFull s
    | some s => s

/-- The OTHER flags of a received row entry are set (R587). -/
def takeRow (s : State) (b : Bytes) : State :=
  let te := sfieldAt b 0 2
  let tn := sfieldAt b 2 2
  let row := fieldAt b 4 1
  if row > 31 then s
  else
    foldOver (fun s c => if bitAt (fieldAt b 8 4) c then coverCell te tn row c s else s) s (upFrom 0 32)

/-- The row entries of a COVERAGE payload. -/
def rowEntries : Nat → Bytes → List Bytes
  | 0, _ => []
  | n + 1, b => b.take 12 :: rowEntries n (b.drop 12)

/-- COVERAGE of another member (R587). -/
def takeCoverage (x : Datagram) (s : State) : State :=
  let p := x.payload
  match s.yld.openId.bind (findField s) with
  | none => s.bump F.CST_CNT_FOREIGN 1
  | some f =>
    if f.id ≠ fieldAt p 0 4 ∨ originCrc f ≠ fieldAt p 4 4 then s.bump F.CST_CNT_FOREIGN 1
    else foldOver takeRow s (rowEntries (fieldAt p 8 1) (p.drop 12))

/-! ### Rendezvous (R588–R592) -/

/-- The place that a payload gives. -/
def placeOfPayload (p : Bytes) : RdvPlace :=
  { time := fieldAt p 8 8, lat := sfieldAt p 16 8, lon := sfieldAt p 24 8, heading := fieldAt p 32 4, speed := sfieldAt p 36 2,
    refX := sfieldAt p 38 2, refY := sfieldAt p 40 2 }

/-- The rendezvous changed. -/
def modRdv (f : Rdv → Rdv) (s : State) : State := modCst (fun c => { c with rdv := c.rdv.map f }) s

/-- The best offer: lowest ETA, ties to the lower member number. -/
def bestOffer : List (Nat × Nat × RdvPlace) → Option (Nat × Nat × RdvPlace)
  | [] => none
  | a :: l =>
    match bestOffer l with
    | none => some a
    | some b => if a.2.1 < b.2.1 ∨ (a.2.1 = b.2.1 ∧ a.1 ≤ b.1) then some a else some b

/-- The offer is taken once 1 s has passed since the first REQUEST (R590). -/
def offerSelect (s : State) : State :=
  match (if consistOn s then s.cst.rdv else none) with
  | none => s
  | some r =>
    if cstState s ≠ cstMember ∨ s.get F.CST_RDV_RDV_STATE ≠ 1 ∨ s.now < r.firstAt + sec then s
    else
      match bestOffer r.offers with
      | none => s
      | some o =>
        let s := sendRdv r.id 3 o.1 r.side 0 0 s
        let s := foldOver (fun s (q : Nat × Nat × RdvPlace) => if q.1 = o.1 then s else sendRdv r.id 4 q.1 r.side 0 0 s) s r.offers
        let s := modRdv (fun r => { r with target := o.1, offers := [], trackAt := s.now, place := some o.2.2 }) s
        setRdvState 2 o.1 s

/-- No OFFER within 10 s (R591). -/
def offerTimeout (s : State) : State :=
  match (if consistOn s then s.cst.rdv else none) with
  | none => s
  | some r => if s.get F.CST_RDV_RDV_STATE = 1 ∧ r.offers.isEmpty = true ∧ r.firstAt + 10 * sec ≤ s.now then endRdv 3 s else s

/-- No TRACK for 3 s (R591). -/
def trackTimeout (s : State) : State :=
  match (if consistOn s then s.cst.rdv else none) with
  | none => s
  | some r => if s.get F.CST_RDV_RDV_STATE = 2 ∧ r.trackAt + 3 * sec ≤ s.now then endRdv 4 s else s

/-- REQUEST every 1 s (R590). -/
def requestSend (s : State) : State :=
  match (if consistOn s then s.cst.rdv else none) with
  | none => s
  | some r =>
    if cstState s = cstMember ∧ s.get F.CST_RDV_RDV_STATE = 1 ∧ r.sentAt + sec ≤ s.now then
      sendRdv r.id 1 r.target r.side 0 0 (modRdv (fun r => { r with sentAt := s.now }) s)
    else s

/-- TRACK at every 100 ms of device time (R590). -/
def trackSend (s : State) : State :=
  match (if consistOn s then s.cst.rdv else none), onMultiple s (100 * ms) with
  | some r, some t =>
    if cstState s = cstMember ∧ s.get F.CST_RDV_RDV_STATE = 2 ∧ r.trackSent ≠ t then
      sendRdv r.id 5 r.target r.side 0 0 (modRdv (fun r => { r with trackSent := t }) s)
    else s
  | _, _ => s

/-- RENDEZVOUS of another member (R590, R591). -/
def takeRdv (x : Datagram) (s : State) : State :=
  let p := x.payload
  let id := fieldAt p 0 4
  let kind := fieldAt p 4 1
  let target := fieldAt p 5 1
  let mine := target == ownMember s
  if cstState s ≠ cstMember then s
  else if kind = 1 then
    if (mine || target == 0xFF) && s.flag F.CST_RDV_AVAILABLE && s.cst.rdv.isNone then
      let eta := (Config.arrival s.drawn).toNat
      let s := modCst (fun c => { c with offered := (c.offered.filter (fun o => o.2 != x.member)) ++ [(id, x.member)] }) { s with drawn := s.drawn + 1 }
      sendRdv id 2 x.member (fieldAt p 6 1) 0 eta s
    else s
  else if !mine then s
  else if kind = 2 then
    match s.cst.rdv with
    | none => s
    | some r =>
      if r.requester && r.id == id && s.get F.CST_RDV_RDV_STATE == 1 && !r.offers.any (fun o => o.1 == x.member) then
        offerSelect (modRdv (fun r => { r with offers := r.offers ++ [(x.member, fieldAt p 42 2, placeOfPayload p)] }) s)
      else s
  else if kind = 3 then
    if s.cst.rdv.isNone && s.cst.offered.contains (id, x.member) then
      let r : Rdv := { id := id, side := fieldAt p 6 1, requester := false, target := x.member, firstAt := s.now, sentAt := s.now,
                       offers := [], trackAt := s.now, trackSent := 0, place := some (placeOfPayload p) }
      setRdvState 2 x.member (modCst (fun c => { c with rdv := some r, offered := [] }) s)
    else s
  else if kind = 4 then modCst (fun c => { c with offered := c.offered.filter (fun o => o != (id, x.member)) }) s
  else
    match s.cst.rdv with
    | none => s
    | some r =>
      if r.id ≠ id ∨ s.get F.CST_RDV_RDV_STATE ≠ 2 ∨ r.target ≠ x.member then s
      else if kind = 5 then modRdv (fun r => { r with trackAt := s.now, place := some (placeOfPayload p) }) s
      else if kind = 6 then endRdv 2 s
      else s

/-- RENDEZVOUS_REQUEST (R589). -/
def runRendezvousRequest (p : Request) (s : State) : Answer :=
  let act := fieldAt p.params 0 1
  let m := fieldAt p.params 1 1
  let side := fieldAt p.params 2 1
  if p.target ≠ 0#8 then refuse s St.badTarget
  else if act = 1 then
    if s.cst.rdv.isSome || cstState s ≠ cstMember || side > 1 || !(m ≤ 31 || m == 0xFF) then refuse s St.badParam
    else
      let id := ownMember s * 16777216 + s.cst.rdvCount % 16777216
      let r : Rdv := { id := id, side := side, requester := true, target := m, firstAt := s.now, sentAt := s.now, offers := [],
                       trackAt := s.now, trackSent := 0, place := none }
      let s := modCst (fun c => { c with rdv := some r, rdvCount := (c.rdvCount + 1) % 16777216 }) s
      ok (setRdvState 1 0xFF (sendRdv id 1 m side 0 0 s)) []
  else if act = 2 then ok (endRdv 1 s) []
  else if act = 3 then ok (s.put F.CST_RDV_AVAILABLE 1) []
  else if act = 4 then ok (s.put F.CST_RDV_AVAILABLE 0) []
  else refuse s St.badParam

/-- DX, DY and the status word of R592 for a cycle that starts at a device time; none while they are not sent. -/
def rdvWords (s : State) (start : Nat) : Option (List Int) :=
  match (if consistOn s then s.cst.rdv else none) with
  | none => none
  | some r =>
    if !s.flag F.CST_RDV_OUT_OUT_EN || s.get F.CST_RDV_RDV_STATE ≠ 2 || !r.requester then none
    else
      match r.place with
      | none => none
      | some q =>
        let dt : Int := (start : Int) - q.time
        let h := ownHeading s
        let zero : F64 × F64 := (some ⟨0, 0⟩, some ⟨0, 0⟩)
        let c := fieldPosition (sx 64 (s.get64 Reg.GNS_LAT_LO Reg.GNS_LAT_HI)) (sx 64 (s.get64 Reg.GNS_LON_LO Reg.GNS_LON_HI))
          (sx 32 (s.reg Reg.GNS_HGT)) q.lat q.lon (sx 32 (s.reg Reg.GNS_HGT))
        let way := gRat (q.speed * dt) 1000000000000
        let c := fromMachine c (headingRad q.heading) (gAdd way (gRat q.refX 100)) (gRat q.refY 100)
        let o := fromMachine zero h (gRat (s.gets F.CST_SPOUT_REF_X) 100) (gRat (s.gets F.CST_SPOUT_REF_Y) 100)
        let de := gSub c.1 o.1
        let dn := gSub c.2 o.2
        let dx := gAdd (gMul de (gSin h)) (gMul dn (gCos h))
        let dy := gSub (gMul dn (gSin h)) (gMul de (gCos h))
        let age := satU 16 (dt / (ms : Int))
        some [satS 32 (gScaled dx 1000 1), satS 32 (gScaled dy 1000 1),
          sx 32 (b2n (decide (age ≤ 300)) + 2 * 2 + 256 * s.get F.CST_RDV_PARTNER + 65536 * age)]

/-! ### Correction relay (R593, R594) -/

/-- The frames of one source at the front that fit one message: base, frames and the rest. -/
def relayGroup (src : Nat) (room : Nat) : List (Nat × Bytes) → List Bytes × List (Nat × Bytes)
  | [] => ([], [])
  | (k, b) :: l =>
    if k = src ∧ b.length ≤ room then
      let r := relayGroup src (room - b.length) l
      (b :: r.1, r.2)
    else ([], (k, b) :: l)

/-- Accepted frames leave in CORRECTIONS messages (R593). -/
def relayAll : Nat → State → State
  | 0, s => s
  | fuel + 1, s =>
    match s.nav.relay with
    | [] => s
    | (k, _) :: _ =>
      let g := relayGroup k 1196 s.nav.relay
      let s := { s with nav := { s.nav with relay := g.2 } }
      if g.1.isEmpty then { s with nav := { s.nav with relay := s.nav.relay.drop 1 } }
      else
        relayAll fuel (sendConsist 0x04 (consistId s) (ownMember s)
          (leBytes 2 (corrSource s k).base ++ leBytes 1 g.1.length ++ leBytes 1 0 ++ g.1.flatten) s)

/-- CORRECTIONS of a member pass to correction source 2 (R594). -/
def takeCorrections (x : Datagram) (s : State) : State :=
  let from_ := s.get F.CST_TANK_RELAY_FROM
  let lowest := (s.cst.members.find? (fun m => bitAt m.state 3 && !m.absent)).map (·.num)
  if s.flag F.CST_CFG_RELAY_RX && (if from_ = 0xFF then lowest == some x.member else from_ == x.member) then
    feedSource 2 (x.payload.drop 4) s
  else s

/-! ### Registers and status (R598, R599) -/

/-- The CST registers that are computed: MEMBERS and HEARD. -/
def consistOverlay (s : State) (a : Nat) : Option Nat :=
  let present := s.cst.members.filter (fun m => !m.absent)
  if a = Reg.CST_STATUS then some (setBitsAt (s.reg a) 24 6 present.length)
  else if a = Reg.CST_HEARD then some (maskOf (present.map (·.num)))
  else none

/-- An entry of the member table (R599). -/
def memberEntry (s : State) (n : Nat) : Bytes :=
  match s.cst.members.find? (fun m => m.num == n) with
  | none => List.replicate 32 0#8
  | some m =>
    leBytes 8 m.machine ++ leBytes 1 m.kind ++ leBytes 1 m.state ++ leBytes 1 m.fix ++ leBytes 1 m.tank ++
      leBytes 2 (satN 16 (roundDiv (s.now - m.at_ : Nat) (100 * ms)).toNat) ++ leBytes 2 0 ++ leBytes 8 m.lat ++ leBytes 8 m.lon

/-- CONSIST_STATUS (R599). -/
def runConsistStatus (p : Request) (s : State) : Answer :=
  let w := fieldAt p.params 0 1
  if w = 0 then
    ok s ((upFrom 0 6).flatMap (fun i =>
      let a := Reg.CST_STATUS + 4 * i
      leBytes 4 ((consistOverlay s a).getD (s.reg a))))
  else if w = 1 then ok s ((upFrom 0 32).flatMap (memberEntry s))
  else refuse s St.badParam

/-! ### The rows -/

/-- HEARTBEAT_SEND (R581). -/
def execHeartbeatSend (t : Nat) (s : State) : Res := .next (heartbeatSend (begin_ t s))

/-- HEARTBEAT_RECEIVE (R581): a datagram on UDP_PORT. -/
def execHeartbeatReceive (t : Nat) (d : UdpDatagram) (s : State) : Res := .next (receiveDatagram 0x01 takeHeartbeat d (begin_ t s))

/-- COVERAGE_SEND (R586). -/
def execCoverageSend (t : Nat) (s : State) : Res := .next (coverageSend (begin_ t s))

/-- COVERAGE_RECEIVE (R587). -/
def execCoverageReceive (t : Nat) (d : UdpDatagram) (s : State) : Res := .next (receiveDatagram 0x02 takeCoverage d (begin_ t s))

/-- RENDEZVOUS_RECEIVE (R588). -/
def execRendezvousReceive (t : Nat) (d : UdpDatagram) (s : State) : Res := .next (receiveDatagram 0x03 takeRdv d (begin_ t s))

/-- CORRECTIONS_RECEIVE (R594). -/
def execCorrectionsReceive (t : Nat) (d : UdpDatagram) (s : State) : Res := .next (receiveDatagram 0x04 takeCorrections d (begin_ t s))

/-- LEAVE_RECEIVE (R583). -/
def execLeaveReceive (t : Nat) (d : UdpDatagram) (s : State) : Res := .next (receiveDatagram 0x05 takeLeave d (begin_ t s))

/-- LEAVE_REPEAT (R583). -/
def execLeaveRepeat (t : Nat) (s : State) : Res := .next (leaveRepeat (begin_ t s))

/-- MEMBER_LOST (R582). -/
def execMemberLost (t n : Nat) (s : State) : Res := .next (memberLost n (begin_ t s))

/-- MEMBER_REMOVE (R582). -/
def execMemberRemove (t n : Nat) (s : State) : Res := .next (memberRemove n (begin_ t s))

/-- JOIN_LISTEN_END (R580). -/
def execJoinListenEnd (t : Nat) (s : State) : Res := .next (joinListenEnd (begin_ t s))

/-- REQUEST_SEND (R590). -/
def execRequestSend (t : Nat) (s : State) : Res := .next (requestSend (begin_ t s))

/-- OFFER_SELECT (R590). -/
def execOfferSelect (t : Nat) (s : State) : Res := .next (offerSelect (begin_ t s))

/-- TRACK_SEND (R590). -/
def execTrackSend (t : Nat) (s : State) : Res := .next (trackSend (begin_ t s))

/-- OFFER_TIMEOUT (R591). -/
def execOfferTimeout (t : Nat) (s : State) : Res := .next (offerTimeout (begin_ t s))

/-- TRACK_TIMEOUT (R591). -/
def execTrackTimeout (t : Nat) (s : State) : Res := .next (trackTimeout (begin_ t s))

/-- CORRECTION_RELAY (R593). -/
def execCorrectionRelay (t : Nat) (s : State) : Res :=
  let s := begin_ t s
  .next (if consistOn s ∧ cstState s = cstMember then relayAll s.nav.relay.length s else s)

end Sys2Proof.Machine
end

