-- ==== Sys2Proof/Machine/Clock.lean ====
section
/-!
DEFINITION. *Clocks, Islands and Performance Levels*: the judgement of the references, clock gates, the level sequencer,
caps, and RESUME (R600–R639).
-/

namespace Sys2Proof.Machine

/-! ### References (R600–R605) -/

/-- A reference: TCXO, or the crystal. -/
def refPart (s : State) (xtal : Bool) : RefPart := if xtal then s.clk.xtal else s.clk.tcxo

/-- The state with a reference changed. -/
def modRef (xtal : Bool) (f : RefPart → RefPart) (s : State) : State :=
  if xtal then { s with clk := { s.clk with xtal := f s.clk.xtal } } else { s with clk := { s.clk with tcxo := f s.clk.tcxo } }

/-- The field of CLK_STATUS of a reference: 0 not judged, 1 stable, 2 stable coarse only, 3 failed. -/
def refField (xtal : Bool) : Fld := if xtal then F.CLK_STATUS_XTAL else F.CLK_STATUS_TCXO
def refState (s : State) (xtal : Bool) : Nat := s.get (refField xtal)

/-- A reference may be used. -/
def refUsable (s : State) (xtal : Bool) : Bool := refState s xtal == 1 || refState s xtal == 2

/-- The nominal count of a window times a divisor: of the judged reference in 1,024 periods of the other (R601), or of the
ring oscillator (R602), in units of 1/256 of its period. -/
def crossNominal (xtal : Bool) : Nat × Nat := if xtal then (1024 * 25 * 256, 26) else (1024 * 26 * 256, 25)
def ringNominal (xtal : Bool) : Nat × Nat := if xtal then (1024 * 25 * 256, 100) else (1024 * 26 * 256, 100)

/-- A count lies within a tolerance of n / d relative to nominal. -/
def inTolerance (nom : Nat × Nat) (count n d : Nat) : Bool :=
  decide ((((count * nom.2 : Nat) : Int) - (nom.1 : Int)).natAbs * d ≤ n * nom.1)

/-- DEV of a cross window: the crystal relative to the TCXO, in 0.1 ppm (R635). -/
def crossDev (xtal : Bool) (count : Nat) : Int :=
  let nom := crossNominal xtal
  if xtal then roundDiv ((((count * nom.2 : Nat) : Int) - (nom.1 : Int)) * 10000000) nom.1
  else roundDiv (((nom.1 : Int) - ((count * nom.2 : Nat) : Int)) * 10000000) (max 1 (count * nom.2))

/-! ### Islands (R606–R612) -/

/-- The groups of R606: their field in CLK_SRC, whether the crystal is their primary, and whether they have a secondary. -/
def clockGroups : List (Fld × Bool × Bool) :=
  [(F.CLK_SRC_TIME, false, true), (F.CLK_SRC_PWM, true, true), (F.CLK_SRC_CAN, true, true), (F.CLK_SRC_NET, true, true),
   (F.CLK_SRC_CAM, true, true), (F.CLK_SRC_GNSS, false, false), (F.CLK_SRC_METER, true, true)]

/-- A group takes a reference, 2 the ring oscillator or 3 none; each change raises REF_SWITCH (R607). The error estimate
grows from here on at the rate of the time base's reference (R608). -/
def setSource (f : Fld) (v : Nat) (s : State) : State :=
  if s.get f = v then s
  else
    let s := if f = F.CLK_SRC_TIME then
        { s with nav := { s.nav with errAcc := errorGrowth s, errFrom := s.now } }
      else s
    raise0 Src.CLK_REF_SWITCH (s.put f v)

/-- The groups on a failed reference go to the other, where it may be used, TIME else to the ring oscillator (R607). -/
def leaveRef (xtal : Bool) (s : State) : State :=
  foldOver (fun s (g : Fld × Bool × Bool) =>
    if s.get g.1 ≠ b2n xtal then s
    else if g.2.2 && refUsable s (!xtal) then setSource g.1 (b2n (!xtal)) s
    else setSource g.1 (if g.1 = F.CLK_SRC_TIME then 2 else 3) s) s clockGroups

/-- The groups that no reference has driven, TIME among them on the ring oscillator, take one that has become usable, as their primary or
their secondary (R606, R607). -/
def takeIdle (xtal : Bool) (s : State) : State :=
  foldOver (fun s (g : Fld × Bool × Bool) => if 2 ≤ s.get g.1 ∧ g.2.2 = true then setSource g.1 (b2n xtal) s else s) s clockGroups

/-- Both references are lost (R609). -/
def bothLost (s : State) : State :=
  let s := foldOver (fun s (g : Fld × Bool × Bool) => setSource g.1 (if g.1 = F.CLK_SRC_TIME then 2 else 3) s) s clockGroups
  let s := (s.put F.CLK_STATUS_BOTH_LOST 1).bump F.CLK_CNT_BOTH_LOST 1
  limpEnter .ref (raise0 Src.CLK_BOTH_LOST (fault 0x3A 4 Src.CLK_BOTH_LOST 0xFFFF 0 0 0 s))

/-- A reference fails (R603, R607, R609). -/
def failRef (xtal : Bool) (s : State) : State :=
  if refState s xtal = 3 then s
  else
    let s := modRef xtal (fun r => { r with good := 0, bad := 0, coarse := 0, judgedAt := none }) (s.put (refField xtal) 3)
    let s := s.bump (if xtal then F.CLK_CNT_XTAL_FAILS else F.CLK_CNT_TCXO_FAILS) 1
    let s := raise0 Src.CLK_REF_FAIL (fault 0x39 4 Src.CLK_REF_FAIL (b2n xtal) 0 0 0 s)
    if refState s (!xtal) = 3 then bothLost s else leaveRef xtal s

/-- One of both lost references is judged stable: the islands restart on it (R611), and limp mode may end by itself
(R612). -/
def regain (xtal : Bool) (s : State) : State :=
  let s := foldOver (fun s (g : Fld × Bool × Bool) =>
    if g.2.2 || g.2.1 == xtal then setSource g.1 (b2n xtal) s else s) s clockGroups
  let s := (s.put F.CLK_STATUS_BOTH_LOST 0).put F.LSW_LIMP_REF 0
  if !inLimp s then s
  else
    let s := s.put F.CLK_STATUS_WAIT_RESUME 1
    if s.flag F.CLK_CFG_AUTO_RESUME && limpCauses s == 0 then raise0 Src.CLK_AUTO_RESUMED (limpExit s) else s

/-- A reference is judged stable, by cross windows (1) or coarse only (2) (R601, R602, R605). -/
def judgeRef (xtal : Bool) (code : Nat) (s : State) : State :=
  let was := refState s xtal
  if was = code ∨ (was = 1 ∧ code = 2) then s
  else
    let s := s.put (refField xtal) code
    let s := { s with clk := { s.clk with refDue := false, acceptCoarse := false } }
    let s := if was = 3 then
        raise0 Src.CLK_REF_JUDGED (modRef xtal (fun r => { r with judgedAt := some s.now }) s)
      else s
    if s.flag F.CLK_STATUS_BOTH_LOST || s.flag F.LSW_LIMP_REF then regain xtal s else takeIdle xtal s

/-- A cross window: a reference is judged against the other (R601, R603, R604). A healthy reference is not judged by a
failed one. -/
def crossWindow (xtal : Bool) (count ringT ringX : Nat) (s : State) : State :=
  let ok_ := inTolerance (crossNominal xtal) count 100 1000000
  let dev := crossDev xtal count
  let s := modRef xtal (fun r => { r with present := true }) (s.puts F.CLK_JUDGE_DEV dev)
  let s := s.put F.CLK_JUDGE_RUN (if ok_ then satN 8 (s.get F.CLK_JUDGE_RUN + 1) else 0)
  if refState s (!xtal) = 3 ∧ refState s xtal ≠ 3 then s
  else if ok_ then
    let s := if (refPart s xtal).bad = 1 ∧ refState s xtal ≠ 3 then
        raise0 Src.CLK_REF_TRANSIENT
          (fault 0x38 1 Src.CLK_REF_TRANSIENT (b2n xtal) (toBits 32 dev) 0 0 (s.bump F.CLK_CNT_TRANSIENTS 1))
      else s
    let s := modRef xtal (fun r => { r with good := r.good + 1, bad := 0 }) s
    if 8 ≤ (refPart s xtal).good then judgeRef xtal 1 s else s
  else
    let s := modRef xtal (fun r => { r with good := 0, bad := r.bad + 1 }) s
    if (refPart s xtal).bad < 2 ∨ refState s xtal = 3 then s
    else
      let outT := !inTolerance (ringNominal false) ringT 7 100
      let outX := !inTolerance (ringNominal true) ringX 7 100
      let s := modRef xtal (fun r => { r with bad := 0 }) s
      let s := if outT then failRef false s else s
      if outX || !outT then failRef true s else s

/-- A coarse window against the ring oscillator: while one reference only is present, or from 20 ms on while none is
judged (R602, R603, R614). -/
def coarseWindow (xtal : Bool) (count : Nat) (s : State) : State :=
  let s := modRef xtal (fun r => { r with present := true }) s
  let only := !(refPart s (!xtal)).present || (s.clk.acceptCoarse && !refUsable s false && !refUsable s true)
  if !only then s
  else if inTolerance (ringNominal xtal) count 7 100 then
    let s := modRef xtal (fun r => { r with coarse := r.coarse + 1 }) s
    if 8 ≤ (refPart s xtal).coarse then judgeRef xtal 2 s else s
  else
    let s := modRef xtal (fun r => { r with coarse := 0 }) s
    if (refPart s (!xtal)).present then s else failRef xtal s

/-- No edge of a reference for tMISSING (R603). -/
def refMissing (xtal : Bool) (s : State) : State :=
  failRef xtal (modRef xtal (fun r => { r with present := false, good := 0, coarse := 0 }) s)

/-- A reference judged again and stable for 1 s takes back its islands (R605). -/
def refReturn (xtal : Bool) (s : State) : State :=
  match (refPart s xtal).judgedAt with
  | none => s
  | some t =>
    if s.now < t + sec || !refUsable s xtal then s
    else
      let s := modRef xtal (fun r => { r with judgedAt := none }) s
      foldOver (fun s (g : Fld × Bool × Bool) => if g.2.1 = xtal then setSource g.1 (b2n xtal) s else s) s clockGroups

/-- The wait for a judgement at power-up, so long after LOGIC_SUPPLY became valid (R614). -/
def refWait (s : State) : State :=
  let since := s.now - s.pwr.logicAt
  let none_ := !refUsable s false && !refUsable s true
  if !none_ || since < 20 * ms then s
  else
    let s := { s with clk := { s.clk with acceptCoarse := true } }
    if since < 50 * ms then s
    else if s.load.latchedMap.isSome then limpEnter .ref s
    else { s with clk := { s.clk with refDue := true } }

/-! ### Clock gates (R615–R619) -/

/-- STATE of island g is set. -/
def setGate (g v : Nat) (s : State) : State := s.put F.CLK_GATE_STATE_STATE (setBitsAt (s.get F.CLK_GATE_STATE_STATE) (2 * g) 2 v)

/-- Island g is opened (R615). -/
def gateOpen (g : Nat) (s : State) : State :=
  setGate g 0 (s.putBit F.CLK_GATE_OPEN g true) |> fun s => { s with clk := { s.clk with closing := s.clk.closing.filter (fun e => e.1 != g) } }

/-- The closing of island g is requested (R615, R616, R632). -/
def gateRequest (g : Nat) (s : State) : State :=
  let s := s.putBit F.CLK_GATE_OPEN g false
  if gateState s g = 0 then
    setGate g 1 { s with clk := { s.clk with closing := s.clk.closing.filter (fun e => e.1 != g) ++ [(g, s.now)] } }
  else s

/-- The bus port of island g is idle, and its gate closes (R616). -/
def gateClose (g : Nat) (s : State) : State :=
  if gateState s g = 1 then
    setGate g 2 { s with clk := { s.clk with closing := s.clk.closing.filter (fun e => e.1 != g) } }
  else s

/-- tGATE_FORCE has passed, and the gate of island g closes by force (R617). -/
def gateForce (g : Nat) (s : State) : State :=
  match s.clk.closing.find? (fun e => e.1 == g) with
  | none => s
  | some e =>
    if gateState s g = 1 ∧ e.2 + 64 * us ≤ s.now then
      raise0 Src.CLK_GATE_FORCED (setGate g 3 { s with clk := { s.clk with closing := s.clk.closing.filter (fun e => e.1 != g) } })
    else s

/-- A value is written to CLK_GATE (R615). -/
def writeGates (v : Nat) (s : State) : State :=
  foldOver (fun s g => if bitAt v g then gateOpen g s else gateRequest g s) s (upFrom 0 12)

/-! ### Levels (R620–R632) -/

/-- Core voltage in mV, capacity at 125 °C junction in TOPS, and Crossover updates per cycle, of a level (R620). -/
def levelVolts (n : Nat) : Nat := 550 + 50 * n
def levelTops (n : Nat) : Nat := nth [0, 7, 11, 16, 20, 24, 27, 31] n 0
def levelUpdates (n : Nat) : Nat := nth [8, 16, 32] n 64

/-- The level in force, and the target (R625). -/
def curLevel (s : State) : Nat := s.get F.PWR_LEVEL_CUR
def targetLevel (s : State) : Nat := min (s.get F.PWR_LEVEL_REQ) (min (s.get F.PWR_LEVEL_CAP) (s.get F.PWR_LEVEL_CEIL))

/-- The RESERVED tensor demand of a set, in operations per second: 2 × MACS × MAX_RATE of its feature and fusion models
(R298). -/
def tensorDemand (c : Container) : Nat :=
  (((directory c).filter (fun x => x.type == 0x11)).map (fun x =>
    let b := sectionData c x
    if mKind b = 1 ∨ mKind b = 2 ∨ mKind b = 3 then 2 * graphMacs (mGraph b) * mRate b else 0)).foldl (· + ·) 0

/-- CUR changes (R639). -/
def setLevel (n : Nat) (s : State) : State :=
  if curLevel s = n then s else let s := (s.put F.PWR_LEVEL_CUR n).put F.PWR_VCORE_YARD_MV (levelVolts n); raise Src.PWR_LEVEL_CHANGE n s

/-- Failures of a level. -/
def levelFails (s : State) (n : Nat) : Nat := nth s.lvl.fails n 0

/-- The part changed. -/
def modLvl (f : LevelPart → LevelPart) (s : State) : State := { s with lvl := f s.lvl }

/-- CANARY_FAIL of a level with the delay measured: counted, raised and logged (R625). -/
def canaryFail (n delay : Nat) (s : State) : State :=
  let s := modLvl (fun l => { l with fails := setNth l.fails n (nth l.fails n 0 + 1) }) s
  let s := (s.put F.PWR_CANARY_FAIL_LEVEL n).bump F.PWR_CANARY_FAILS 1
  raise Src.PWR_CANARY_FAIL (curLevel s) (fault 0x40 4 Src.PWR_CANARY_FAIL n delay 0 0 s)

/-- CEIL is lowered and logged (R627). -/
def lowerCeiling (n delay : Nat) (s : State) : State :=
  fault 0x41 2 Src.PWR_CEILING n delay 0 0 (s.put F.PWR_LEVEL_CEIL n)

/-- LEVEL_SET completes once the sequencer has reached min(LEVEL, CAP, CEIL) or has stopped there (R630). -/
def levelAnswer (s : State) : State :=
  if curLevel s = targetLevel s ∧ s.lvl.raising.isNone = true then
    completeOwn 0x0E00 (fun j => match j with
      | .level _ => true
      | _ => false) St.ok 0 (leBytes 1 (s.get F.PWR_LEVEL_REQ) ++ leBytes 1 (curLevel s) ++ leBytes 2 0) s
  else s

/-- SLACK of a measured canary delay (R639). -/
def noteSlack (delay : Nat) (s : State) : State :=
  s.puts F.PWR_CANARY_SLACK ((Config.canaryLimit (curLevel s) : Int) - (delay : Int))

/-- The watch at the present level (R625): whether this pass lowers. -/
def watchLevel (delay : Nat) (s : State) : State × Bool :=
  let c := curLevel s
  let bad := decide (Config.canaryLimit c < delay)
  if bad && s.lvl.spill then
    let s := canaryFail c delay (modLvl (fun l => { l with spill := false }) s)
    let s := if 2 ≤ levelFails s c then lowerCeiling (c - 1) delay s else s
    (s, true)
  else (modLvl (fun l => { l with spill := bad }) s, false)

/-- One pass of the sequencer with the canary delay that it measures (R625). A lowering is complete within the pass. -/
def sequencerCheck (delay : Nat) (s : State) : State :=
  if !s.die.yardUp || s.flag F.CLK_STATUS_BOTH_LOST || s.lvl.raising.isSome || curLevel s = 0 then s
  else
    let (s, lower) := watchLevel delay (noteSlack delay s)
    let c := curLevel s
    let t := if lower then min (c - 1) (targetLevel s) else targetLevel s
    let s :=
      if c < t ∧ s.lvl.retryAt ≤ s.now then
        modLvl (fun l => { l with raising := some (c + 1, s.now) })
          ((s.put F.PWR_VCORE_YARD_MV (levelVolts (c + 1))).put F.PWR_LEVEL_STEPPING 1)
      else if t < c ∧ 1 < c then setLevel (c - 1) s
      else s
    levelAnswer (if s.get F.PWR_LEVEL_CEIL < 3 then raise Src.PWR_LEVEL_FAULT (curLevel s) s else s)

/-- A raise ends: the canary confirms it, fails, or it is abandoned (R625, R632). DEDUCED: it may fail from 2 ms after the voltage has
been set (log entry 194). -/
def raiseDone (delay : Nat) (s : State) : State :=
  match s.lvl.raising with
  | none => s
  | some (n, t0) =>
    let back := fun (s : State) =>
      modLvl (fun l => { l with raising := none }) ((s.put F.PWR_VCORE_YARD_MV (levelVolts (curLevel s))).put F.PWR_LEVEL_STEPPING 0)
    if s.flag F.CLK_STATUS_BOTH_LOST then s
    else if targetLevel s < n then levelAnswer (back s)
    else if delay ≤ Config.canaryLimit n then
      let s := modLvl (fun l => { l with raising := none, fails := setNth l.fails n 0, spill := false }) (s.put F.PWR_LEVEL_STEPPING 0)
      levelAnswer (noteSlack delay (setLevel n s))
    else if s.now < t0 + 2 * ms then s
    else
      let s := canaryFail n delay (back s)
      if 2 ≤ levelFails s n then levelAnswer (raise Src.PWR_CEILING (curLevel s) (lowerCeiling (curLevel s) delay s))
      else modLvl (fun l => { l with retryAt := s.now + 100 * ms }) s

/-- The caps of a face temperature in 0.1 °C (R629). -/
def faceTemp (face yard : Int) (sigMv : Nat) (s : State) : State :=
  let cap5 := decide (face > 800) || (s.lvl.cap5 && decide (face ≥ 770))
  let cap3 := decide (face > 950) || (s.lvl.cap3 && decide (face ≥ 920))
  let hot := decide (face > 1050)
  let onset := hot && !s.lvl.hot
  let cap := if cap3 then 3 else if cap5 then 5 else 7
  let was := s.get F.PWR_LEVEL_CAP
  let s := modLvl (fun l => { l with cap5 := cap5, cap3 := cap3, hot := hot }) s
  let s := ((s.puts F.PWR_TEMP_FACE face).puts F.PWR_TEMP_YARD_TJ yard).put F.PWR_VCORE_SIG_MV sigMv
  let s := gather 0 face (gather 1 yard (s.put F.PWR_LEVEL_CAP cap))
  let s := if cap < was then raise Src.PWR_CAP_IN (curLevel s) s else if was < cap then raise Src.PWR_CAP_OUT (curLevel s) s else s
  if onset then raise Src.PWR_OVER_TEMP (curLevel s) s else s

/-- LEVEL_SET (R73, R624, R630). A change to or from P0 is made by a planned Yard die restart (R623). DESIGN CHOICE: one that names the
present REQ is answered OK and changes nothing (R630) before the demand is compared with its capacity (R73); the spec does not say which
of both comes first (log entry 157). -/
def runLevelSet (p : Request) (s : State) : Answer :=
  let l := fieldAt p.params 0 1
  let demand := match yardSet s with
    | none => 0
    | some c => tensorDemand c
  let done := fun (s : State) => leBytes 1 (s.get F.PWR_LEVEL_REQ) ++ leBytes 1 (curLevel s) ++ leBytes 2 0
  if l > 7 then refuse s St.badParam
  else if l = s.get F.PWR_LEVEL_REQ then ok s (done s)
  else if levelTops l * 1000000000000 < demand then refuse s St.overBudget
  else if l = 0 ∧ (isTerminus s || isRelief s) = true ∧ s.flag F.GNS_CFG_EN = true then refuse s St.badParam
  else
    let s := s.put F.PWR_LEVEL_REQ l
    if l = 0 ∨ curLevel s = 0 then
      { st := { s with die := { s.die with planned := true } }, status := St.queued, job := some (.level l) }
    else if curLevel s = targetLevel s then ok s (done s)
    else { st := s, status := St.queued, job := some (.level l) }

/-- The CLK register that is computed: at P0 the GNSS island reads closed (R637). -/
def clockOverlay (s : State) (a : Nat) : Option Nat :=
  if a = Reg.CLK_GATE_STATE then
    some (if s.get F.PWR_LEVEL_CUR = 0 ∧ gateState s 11 < 2 then setBitsAt (s.reg a) 22 2 2 else s.reg a)
  else none

/-- A CLK or PWR register as it reads. -/
def levelWord (s : State) (a : Nat) : Nat := (clockOverlay s a).getD (s.reg a)

/-- LEVEL_STATUS (R631). -/
def runLevelStatus (_ : Request) (s : State) : Answer :=
  ok s ((upFrom 0 8).flatMap (fun i => leBytes 4 (levelWord s (Reg.CLK_CFG + 4 * i))) ++
    (upFrom 0 6).flatMap (fun i => leBytes 4 (levelWord s (Reg.PWR_CFG + 4 * i))))

/-- RESUME (R470, R613). -/
def runResume (_ : Request) (s : State) : Answer :=
  if !inLimp s then ok s []
  else if resumeStatus s = St.ok then ok (limpExit s) []
  else refuse s (resumeStatus s)

/-! ### The rows -/

/-- REF_WINDOW (R601, R602): a window of the crystal or the TCXO with its count; a coarse one against the ring oscillator;
for a cross window the counts of both in 1,024 periods of the ring oscillator. -/
def execRefWindow (t : Nat) (xtal coarse : Bool) (count ringT ringX : Nat) (s : State) : Res :=
  let s := begin_ t s
  .next (if !powered s then s else if coarse then coarseWindow xtal count s else crossWindow xtal count ringT ringX s)

/-- REF_MISSING (R603). -/
def execRefMissing (t : Nat) (xtal : Bool) (s : State) : Res :=
  let s := begin_ t s
  .next (if powered s then refMissing xtal s else s)

/-- REF_RETURN (R605). -/
def execRefReturn (t : Nat) (xtal : Bool) (s : State) : Res :=
  let s := begin_ t s
  .next (if powered s then refReturn xtal s else s)

/-- REF_WAIT_TIMEOUT (R614). -/
def execRefWaitTimeout (t : Nat) (s : State) : Res :=
  let s := begin_ t s
  .next (if powered s then refWait s else s)

/-- SEQUENCER_CHECK (R625) with the canary delay in ps. -/
def execSequencerCheck (t canary : Nat) (s : State) : Res :=
  let s := begin_ t s
  .next (if powered s then sequencerCheck canary s else s)

/-- LEVEL_RAISE_DONE (R625) with the canary delay in ps. -/
def execLevelRaiseDone (t canary : Nat) (s : State) : Res :=
  let s := begin_ t s
  .next (if powered s then raiseDone canary s else s)

/-- FACE_TEMP_READ (R629): mounting face and Yard junction in 0.1 °C, Signal core in mV. -/
def execFaceTempRead (t : Nat) (face yard : Int) (sigMv : Nat) (s : State) : Res :=
  let s := begin_ t s
  .next (if powered s then faceTemp face yard sigMv s else s)

/-- GATE_OPEN (R615). -/
def execGateOpen (t g : Nat) (s : State) : Res :=
  let s := begin_ t s
  .next (if g < 12 ∧ powered s = true then gateOpen g s else s)

/-- GATE_CLOSE_REQUEST (R616). -/
def execGateCloseRequest (t g : Nat) (s : State) : Res :=
  let s := begin_ t s
  .next (if g < 12 ∧ powered s = true then gateRequest g s else s)

/-- GATE_CLOSE (R616). -/
def execGateClose (t g : Nat) (s : State) : Res :=
  let s := begin_ t s
  .next (if g < 12 ∧ powered s = true then gateClose g s else s)

end Sys2Proof.Machine
end

