-- ==== Sys2Proof/Machine/Dma.lean ====
section
/-!
DEFINITION. *Memory, Storage and DMA*: the Yard bus, descriptors, the patrol scrub, and data streams (R640–R676).
-/

namespace Sys2Proof.Machine

/-! ### The Yard bus (R640) -/

/-- The region of an address: grid store, LPDDR5X and a port, each with its base and its last address. -/
def yardRegion (a : Int) : Option (Int × Int) :=
  if 0 ≤ a ∧ a ≤ 0x05FFFFFF then some (0, 0x05FFFFFF)
  else if 0x0100000000 ≤ a ∧ a ≤ 0x04BFFFFFFF then some (0x0100000000, 0x04BFFFFFFF)
  else if 0xFF00000000 ≤ a ∧ a ≤ 0xFF003FFFFF then some (0xFF00000000, 0xFF003FFFFF)
  else none

/-- The address lies in port space. -/
def inPorts (a : Int) : Bool := decide (0xFF00000000 ≤ a) && decide (a ≤ 0xFF003FFFFF)

/-- The address lies in LPDDR5X. -/
def inDram (a : Int) : Bool := decide (0x0100000000 ≤ a) && decide (a ≤ 0x04BFFFFFFF)

/-- The byte of the memories at an address. -/
def memByte (s : State) (a : Nat) : Byte := storeGet (fun _ => 0#8) s.dma.mem a

/-- The memories with bytes written at their addresses. -/
def memWrite (l : List (Nat × Byte)) (s : State) : State :=
  { s with dma := { s.dma with mem := foldOver (fun m (e : Nat × Byte) => storeSet (fun _ => 0#8) m e.1 e.2) s.dma.mem l } }

/-! ### Descriptors (R651–R654) -/

/-- The offset table of a descriptor; none where it cannot be read (R653). -/
def offsetTable (s : State) (d : Descriptor) : Option (List Nat) :=
  if d.pattern.toNat < 2 then some []
  else
    let i := d.index.toNat
    let n := 4 * d.indexCount.toNat
    match yardRegion i with
    | none => none
    | some (_, last) =>
      if inPorts i ∨ (i : Int) + n > last + 1 then none
      else some ((upFrom 0 d.indexCount.toNat).map (fun b => leNat ((upFrom (i + 4 * b) 4).map (memByte s))))

/-- Lines of one block of a side. -/
def lineRuns (base stride : Int) (len count : Nat) : List (Int × Nat) :=
  (upFrom 0 count).map (fun (l : Nat) => (base + (l : Int) * stride, len))

/-- The byte runs of a side (R652): src true. -/
def sideRuns (d : Descriptor) (off : List Nat) (src : Bool) : List (Int × Nat) :=
  let addr : Int := if src then d.src.toNat else d.dst.toNat
  let stride := if src then d.srcStride.toInt else d.dstStride.toInt
  let len := if src then d.srcLen.toNat else d.dstLen.toNat
  let count := if src then d.srcCount.toNat else d.dstCount.toNat
  let p := d.pattern.toNat
  if p = 0 then [(addr, d.srcLen.toNat)]
  else if p = 1 then lineRuns addr stride len count
  else if (p = 2 ∧ src = true) ∨ (p = 3 ∧ src = false) then off.flatMap (fun (o : Nat) => lineRuns (addr + (o : Int)) stride len count)
  else lineRuns addr stride len (d.indexCount.toNat * count)

/-- The bytes of all runs. -/
def runTotal (l : List (Int × Nat)) : Nat := (l.map (·.2)).foldl (· + ·) 0

/-- Beats that cover a run (R650, R654). -/
def runBeats (r : Int × Nat) : Nat := if r.2 = 0 then 0 else ((r.1 + r.2 + 63) / 64 - r.1 / 64).toNat

/-- The beats of a side. -/
def sideBeats (l : List (Int × Nat)) : Nat := (l.map runBeats).foldl (· + ·) 0

/-- A run stays in the region in which it starts, and on a port side keeps to whole beats (R653). A run that starts in no
region meets a bus error instead (R640). -/
def runSound (r : Int × Nat) : Bool :=
  match yardRegion r.1 with
  | none => true
  | some (_, last) => decide (r.1 + r.2 ≤ last + 1) && (!inPorts r.1 || (decide (r.1 % 64 = 0) && decide (r.2 % 64 = 0)))

/-- A descriptor is malformed (R653). -/
def malformed (s : State) (d : Descriptor) : Bool :=
  match offsetTable s d with
  | none => true
  | some off =>
    let a := sideRuns d off true
    let b := sideRuns d off false
    runTotal a != runTotal b || !(a.all runSound && b.all runSound)

/-- The bytes of the runs up to the first that starts in no region. -/
def reachable : List (Int × Nat) → Nat
  | [] => 0
  | r :: l => if (yardRegion r.1).isNone then 0 else r.2 + reachable l

/-- Destination beats whose bytes all lie within the first n bytes of the destination (R657). -/
def beatsWithin : Nat → List (Int × Nat) → Nat
  | _, [] => 0
  | n, r :: l =>
    if r.2 ≤ n then runBeats r + beatsWithin (n - r.2) l
    else ((r.1 + n) / 64 - r.1 / 64).toNat

/-- The bytes that the first k beats of the destination write. -/
def bytesOfBeats : Nat → List (Int × Nat) → Nat
  | _, [] => 0
  | k, r :: l =>
    if runBeats r ≤ k then r.2 + bytesOfBeats (k - runBeats r) l
    else if k = 0 then 0
    else ((r.1 / 64 + k) * 64 - r.1).toNat

/-- The addresses of the bytes of runs, in order (R652). -/
def runAddrs (l : List (Int × Nat)) : List Nat := l.flatMap (fun r => (upFrom 0 r.2).map (fun i => (r.1 + i).toNat))

/-- What a source FIFO gives: the beats that underflowed are 0x00 (R662). -/
def fifoBytes (e : DmaEnd) (n : Nat) : Bytes :=
  (upFrom 0 n).map (fun i => if e.underrun.contains (i / 64) then 0#8 else nth e.fifo i 0#8)

/-! ### Channels (R649, R656–R663) -/

/-- A DMA channel. -/
def dmaChan (s : State) (c : Nat) : DmaChannel := nth s.dma.channels c {}

/-- The state with a channel changed. -/
def modDma (c : Nat) (f : DmaChannel → DmaChannel) (s : State) : State :=
  { s with dma := { s.dma with channels := setNth s.dma.channels c (f (nth s.dma.channels c {})) } }

/-- The class of a channel: 0 RESERVED, 1 STANDING (R649). -/
def dmaClass (c : Nat) : Nat :=
  if c = 14 ∨ c = 15 ∨ (24 ≤ c ∧ c ≤ 28) ∨ c = 30 ∨ c = 31 then 1 else 0

/-- The gated island behind a channel: a camera input, or the SENSOR port. -/
def dmaIsland (c : Nat) : Option Nat := if c < 4 then some (6 + c) else if c = 4 ∨ c = 5 then some 10 else none

/-- The mean of the last 64 service times of a channel (R68). -/
def dmaMean (ch : DmaChannel) : Nat :=
  match ch.service with
  | [] => 0
  | l => l.foldl (· + ·) 0 / l.length

/-- A descriptor is offered to the ring of a channel; a full ring refuses it (R648). -/
def offerDescriptor (c : Nat) (again : Bool) (d : Descriptor) (s : State) : State :=
  let ch := dmaChan s c
  let n := ch.ring.length
  if 256 ≤ n then s
  else
    let e : RingEntry := { d := d, at_ := s.now, ahead := n, wait := waitField (n * dmaMean ch), again := again }
    (modDma c (fun ch => { ch with ring := ch.ring ++ [e] }) s).wrapUp (F.DMA_CH_RING_PROD c) 1

/-- The channel could start a descriptor now (R661). -/
def dmaReady (s : State) (c : Nat) : Bool :=
  !(dmaChan s c).ring.isEmpty && !(dmaChan s c).active && !s.flag (F.DMA_CH_CTRL_STOP c)

/-- When the descriptor at the head of a channel's ring was offered. -/
def headAt (s : State) (c : Nat) : Nat :=
  match (dmaChan s c).ring with
  | [] => 0
  | e :: _ => e.at_

/-- A channel is granted: RESERVED before STANDING, and among those the oldest, ties to the lower number (R64, R65,
R663). -/
def dmaGranted (s : State) (c : Nat) : Bool :=
  dmaReady s c &&
    (dmaClass c == 0 ||
      (upFrom 0 32).all (fun k => !dmaReady s k || k == c ||
        (dmaClass k == 1 && (decide (headAt s c < headAt s k) || (headAt s c == headAt s k && decide (c < k))))))

/-- The owner of the work of a channel counts the loss in its own terms (R660): a camera frame in SKIPS of the streams of
its input, a unit of a data stream with GAP. -/
def ownerLoss (c : Nat) (s : State) : State :=
  if c < 4 then
    foldOver (fun s i => skipInput i s) s
      ((upFrom 0 20).filter (fun i => s.get (F.FUS_STR_CFG_KIND i) == 1 && s.get (F.FUS_STR_CFG_INDEX i) == c))
  else if 24 ≤ c ∧ c < 28 then
    let n := c - 24
    if !s.flag (F.DMA_STR_CFG_OPEN n) then s
    else
      unitLost n (modData n (fun d => if d.offset = 0 then { d with queue := d.queue.drop 1 }
        else { d with queue := d.queue.take 1 ++ d.queue.drop 2 }) s)
  else s

/-- A descriptor has ended BAD: it waits for its resubmission, or is abandoned (R660). -/
def descriptorBad (c : Nat) (e : RingEntry) (code : Nat) (s : State) : State :=
  if e.again then
    ownerLoss c (fault 0x48 4 Src.DMA_DMA_ABANDON c code e.d.tag.toNat 0
      (raise Src.DMA_DMA_ABANDON c (s.bump (F.DMA_CH_ABANDON_ABANDONED c) 1)))
  else if code = 7 then s
  else modDma c (fun ch => { ch with bad := ch.bad ++ [(e, code)] }) s

/-- The descriptor at the head of a ring completes with a code and a residue: the engine writes back, raises what it must
and leaves the entry (R656, R657, R661). -/
def completeDescriptor (c code residue : Nat) (s : State) : State :=
  let ch := dmaChan s c
  match ch.ring with
  | [] => s
  | e :: rest =>
    let wb : WriteBack :=
      { status := if code = 0 then 1 else 2, code := code, admitted := dmaClass c, qpos := min 255 e.ahead, wait := e.wait,
        residue := residue }
    let s := modDma c (fun ch => { ch with
      ring := rest, active := false, gated := false, last := some (e.d, wb),
      service := ((s.now - ch.startedAt) :: ch.service).take 64 }) s
    let s := ((s.wrapUp (F.DMA_CH_RING_CONS c) 1).wrapUp (F.DMA_CH_DONE_DESCS c) 1).put (F.DMA_CH_CTRL_STATE c)
      (if s.flag (F.DMA_CH_CTRL_STOP c) then 3 else 0)
    let s := if e.d.event then raise Src.DMA_DESC_DONE c s else s
    if code = 0 then s
    else
      let s := ((s.bump (F.DMA_CH_DONE_BAD c) 1).put (F.DMA_CH_LAST_CODE c) code).put (F.DMA_CH_LAST_RESIDUE c) (satN 24 residue)
      descriptorBad c e code (raise Src.DMA_DESC_BAD c s)

/-- A granted channel starts the next descriptor of its ring; a malformed one ends before any beat (R651, R653). -/
def startDescriptor (c : Nat) (s : State) : State :=
  if !s.die.yardUp || !dmaGranted s c then s
  else
    match (dmaChan s c).ring with
    | [] => s
    | e :: _ =>
      let s := modDma c (fun ch => { ch with active := true, startedAt := s.now, gated := false }) s
      let s := (s.put (F.DMA_CH_CTRL_STATE c) 1).put (F.DMA_CH_CFG_REQ c) (if e.d.req.toNat = 0xFF then 0 else e.d.req.toNat)
      if malformed s e.d then
        completeDescriptor c 7 (match offsetTable s e.d with
          | none => sideBeats (sideRuns e.d (List.replicate e.d.indexCount.toNat 0) false)
          | some off => sideBeats (sideRuns e.d off false)) s
      else s

/-- Errors that inline ECC meets (R641). -/
def noteEcc (corrected uncorrected : Nat) (s : State) : State :=
  let s := gather 60 corrected ((s.bump F.DMA_ECC_CORRECTED corrected).bump F.DMA_ECC_UNCORRECTED uncorrected)
  if uncorrected = 0 then s else raise0 Src.DMA_ECC_FATAL s

/-- The code of the first error, and the destination beats confirmed before it: an access outside the regions (R640), a
forced gate (R666), or what the transfer met (R657–R659). -/
def firstError (a b : List (Int × Nat)) (gated : Bool) (e : DmaEnd) : Nat × Nat :=
  let all := sideBeats b
  let srcLimit := beatsWithin (reachable a) b
  let dstLimit := beatsWithin (reachable b) b
  let dram := a.any (fun r => inDram r.1)
  let memDst := b.any (fun r => !inPorts r.1)
  let met : Nat × Nat :=
    if gated then (6, min e.beats all)
    else match e.err with
      | .none => (0, all)
      | .srcErr => (1, min e.beats all)
      | .dstErr => (2, min e.beats all)
      | .lastBeat => (3, all - 1)
      | .readback => if memDst then (4, all) else (0, all)
      | .ecc => (if dram then 5 else 1, min e.beats all)
  if srcLimit < all ∧ srcLimit ≤ dstLimit ∧ srcLimit ≤ met.2 then (1, srcLimit)
  else if dstLimit < all ∧ dstLimit ≤ met.2 then (2, dstLimit)
  else met

/-- The descriptor in progress on a channel ends (R654–R659): the bytes of its confirmed beats stand at the destination. -/
def endDescriptor (c : Nat) (e : DmaEnd) (s : State) : State :=
  let ch := dmaChan s c
  if !s.die.yardUp || !ch.active then s
  else
    match ch.ring with
    | [] => s
    | r :: _ =>
      let off := (offsetTable s r.d).getD []
      let a := sideRuns r.d off true
      let b := sideRuns r.d off false
      let (code, done) := firstError a b ch.gated e
      let n := bytesOfBeats done b
      let from_ := if a.any (fun x => inPorts x.1) then fifoBytes e n else ((runAddrs a).take n).map (memByte s)
      let into_ := if b.any (fun x => inPorts x.1) then [] else ((runAddrs b).zip from_)
      let s := memWrite into_ s
      let s := if c ≤ 4 ∧ a.any (fun x => inPorts x.1) then s.bump (F.DMA_CH_UNDER_UNDERRUN c) e.underrun.length else s
      let s := noteEcc e.corrected (if code = 5 then max 1 e.uncorrected else e.uncorrected) s
      completeDescriptor c code (if code = 0 then 0 else if code = 4 then 1 else sideBeats b - done) s

/-- Firmware resubmits the first BAD descriptor of a channel that may go again (R660). -/
def resubmit (c : Nat) (s : State) : State :=
  let may := fun (e : RingEntry × Nat) =>
    e.2 != 6 || (match dmaIsland c with
      | some g => islandOpen s g
      | none => true)
  if !s.die.yardUp || decide (256 ≤ (dmaChan s c).ring.length) then s
  else
    match (dmaChan s c).bad.find? may with
    | none => s
    | some e =>
      offerDescriptor c true e.1.d (modDma c (fun ch => { ch with bad := removeFirst may ch.bad }) s)

/-- STOP of a channel is written (R661). -/
def writeStop (c : Nat) (v : Bool) (s : State) : State :=
  if !s.die.yardUp then s
  else
    let a := (dmaChan s c).active
    (s.put (F.DMA_CH_CTRL_STOP c) (b2n v)).put (F.DMA_CH_CTRL_STATE c) (if v then (if a then 2 else 3) else b2n a)

/-- The Yard die restarts: every channel stops without write-back, descriptors in progress and in the rings are lost, and
every stream closes (R665). -/
def stopDma (s : State) : State :=
  let s := closeDataOf (fun _ => true) s
  let s := { s with dma := { s.dma with channels := List.replicate 32 {}, mem := [] } }
  foldOver (fun s c => ((s.setReg (Reg.DMA_CH_CTRL c) 0).setReg (Reg.DMA_CH_RING c) 0)) s (upFrom 0 32)

/-- An island is gated by force: the descriptors in progress to or from it end with code GATE (R617, R666). -/
def gateDescriptors (g : Nat) (s : State) : State :=
  foldOver (fun s c => if (dmaChan s c).active then modDma c (fun ch => { ch with gated := true }) s else s) s
    ((upFrom 0 32).filter (fun c => dmaIsland c == some g))

/-! ### The patrol scrub (R642) -/

/-- A pass of the patrol scrub ends: the pages that reported an error in it, with the errors corrected and not corrected.
A page that did so on two consecutive passes is marked. -/
def patrolPass (l : List (Nat × Nat × Nat)) (s : State) : State :=
  if !s.die.yardUp then s
  else
    let s := foldOver (fun s (e : Nat × Nat × Nat) => noteEcc e.2.1 e.2.2 s) s l
    let errs := (l.filter (fun e => decide (0 < e.2.1 + e.2.2) && decide (e.1 < 3932160))).map (·.1)
    let two := errs.filter (fun p => s.dma.lastErr.contains p && !s.dma.marked.contains p && !isRetired 6 0 p s)
    { s with dma := { s.dma with lastErr := errs, marked := s.dma.marked ++ two } }

/-- A descriptor addresses a page of LPDDR5X. -/
def addressesPage (s : State) (page : Nat) (d : Descriptor) : Bool :=
  let lo : Int := 0x0100000000 + 4096 * (page : Int)
  let hit := fun (a : Int) (n : Nat) => decide (a < lo + 4096) && decide (lo < a + n)
  let off := (offsetTable s d).getD []
  (sideRuns d off true).any (fun r => hit r.1 r.2) || (sideRuns d off false).any (fun r => hit r.1 r.2) ||
    (decide (2 ≤ d.pattern.toNat) && hit d.index.toNat (4 * d.indexCount.toNat))

/-- Some descriptor in a ring, or one that waits for its resubmission, addresses a page (R666). -/
def pageInUse (s : State) (page : Nat) : Bool :=
  s.dma.channels.any (fun ch =>
    ch.ring.any (fun e => addressesPage s page e.d) || ch.bad.any (fun e => addressesPage s page e.1.d))

/-- A marked page is retired once no descriptor addresses it (R642, R666). -/
def retirePage (page : Nat) (s : State) : State :=
  if !s.die.yardUp || !s.dma.marked.contains page || pageInUse s page then s
  else
    let s := { s with dma := { s.dma with marked := s.dma.marked.filter (fun p => p != page) } }
    fault 0x49 2 Src.EVR_RETIRED 0xFFFF page 0 0 (retire 6 0 0 page s)

/-- Pages in the retirement list (R642, R706). -/
def retiredPages (s : State) : Nat :=
  ((s.ev.retired.filter (fun e => e.kind == 6)).length + (s.ev.retiredHere.filter (fun e => e.kind == 6)).length)

/-! ### Data streams (R667–R671) -/

/-- The frame of a camera slot: lines and pixels a line. -/
def cameraSize (s : State) (i : Nat) : Nat × Nat :=
  if i < 16 then (s.get (F.FUS_PRJ_IMG_IMG_H i), s.get (F.FUS_PRJ_IMG_IMG_W i))
  else match streamModel s i with
    | some b => (nth (mIn b) 2 0, nth (mIn b) 3 0)
    | none => (0, 0)

/-- The parameters of STREAM_OPEN are in order (R668, 1). -/
def streamParamsGood (s : State) (ps : Bytes) : Bool :=
  let src := fieldAt ps 0 1
  let slot := fieldAt ps 1 1
  let sink := fieldAt ps 2 1
  let w := fieldAt ps 8 2
  let rate := fieldAt ps 12 2
  let kind := s.get (F.FUS_STR_CFG_KIND slot)
  let size := cameraSize s slot
  decide (slot < 20) && kind != 0 && (src == 1 || src == 2) && decide (sink < 2) && fieldAt ps 3 1 != 0 &&
    decide (1472 ≤ rate) && (sink == 0 || decide (rate ≤ 31250)) &&
    (w == 0 || (kind == 1 && decide (fieldAt ps 4 2 + w ≤ size.2) && decide (fieldAt ps 6 2 + fieldAt ps 10 2 ≤ size.1))) &&
    (sink == 1 || isTerminus s || isRelief s)

/-- The open stream that a request with these parameters has opened already for its session (R114). -/
def sameStream (s : State) (p : Request) : Option Nat :=
  let ps := p.params
  (upFrom 0 4).find? (fun n =>
    s.flag (F.DMA_STR_CFG_OPEN n) && s.get (F.DMA_STR_CFG_SESSION n) == p.session.toNat &&
      s.get (F.DMA_STR_CFG_SOURCE n) == fieldAt ps 0 1 && s.get (F.DMA_STR_CFG_SLOT n) == fieldAt ps 1 1 &&
      s.get (F.DMA_STR_CFG_SINK n) == fieldAt ps 2 1 && s.get (F.DMA_STR_CFG_DECIM n) == fieldAt ps 3 1 &&
      s.get (F.DMA_STR_PORT_RATE n) == fieldAt ps 12 2 && s.get (F.DMA_STR_PORT_UDP_PORT n) == fieldAt ps 14 2 &&
      (dataStream s n).x0 == fieldAt ps 4 2 && (dataStream s n).y0 == fieldAt ps 6 2 && (dataStream s n).w == fieldAt ps 8 2 &&
      (dataStream s n).h == fieldAt ps 10 2)

/-- STREAM_OPEN (R667, R668). DEDUCED: one that names a stream which its session has open already answers with it, and opens no second
one (R114, log entry 206). -/
def runStreamOpen (p : Request) (s : State) : Answer :=
  let ps := p.params
  if !streamParamsGood s ps then refuse s St.badParam
  else if streamRetired s (fieldAt ps 1 1) then refuse s St.streamRetired
  else
    match sameStream s p, (upFrom 0 4).find? (fun n => !s.flag (F.DMA_STR_CFG_OPEN n)) with
    | some n, _ => ok s (leBytes 1 n ++ leBytes 3 0)
    | none, none => refuse s St.overBudget
    | none, some n =>
      if fieldAt ps 2 1 = 1 ∧ diagTaken s = true then refuse s St.overBudget
      else
        let s := modData n (fun _ => { x0 := fieldAt ps 4 2, y0 := fieldAt ps 6 2, w := fieldAt ps 8 2, h := fieldAt ps 10 2 }) s
        let s := ((((s.put (F.DMA_STR_CFG_OPEN n) 1).put (F.DMA_STR_CFG_SOURCE n) (fieldAt ps 0 1)).put (F.DMA_STR_CFG_SINK n)
          (fieldAt ps 2 1)).put (F.DMA_STR_CFG_SLOT n) (fieldAt ps 1 1)).put (F.DMA_STR_CFG_DECIM n) (fieldAt ps 3 1)
        let s := ((s.put (F.DMA_STR_CFG_SESSION n) p.session.toNat).put (F.DMA_STR_PORT_UDP_PORT n) (fieldAt ps 14 2)).put
          (F.DMA_STR_PORT_RATE n) (fieldAt ps 12 2)
        ok s (leBytes 1 n ++ leBytes 3 0)

/-- STREAM_CLOSE (R671). -/
def runStreamClose (p : Request) (s : State) : Answer :=
  let n := fieldAt p.params 0 1
  if 4 ≤ n then refuse s St.badParam
  else ok (if s.flag (F.DMA_STR_CFG_OPEN n) then closeData n s else s) []

/-- The datagram of a unit from an offset on (R669). -/
def unitDatagram (n : Nat) (d : DataStream) (u : StreamUnit) (gap : Bool) : Bytes :=
  let part := (u.data.drop d.offset).take 1408
  leBytes 2 0x5A44 ++ leBytes 1 n ++
    leBytes 1 (b2n (d.offset == 0) + 2 * b2n (decide (u.data.length ≤ d.offset + 1408)) + 4 * b2n gap) ++
    leBytes 4 u.unit ++ leBytes 4 d.offset ++ leBytes 8 u.stamp ++ leBytes 2 part.length ++ leBytes 2 0 ++ part

/-- The IPv4 address of a session that opened over the HOST port (R88). -/
def sessionAddress (s : State) (num : Nat) : Option Nat :=
  match s.pk.sessions.find? (fun x => x.num == num) with
  | none => none
  | some x => match x.via with
    | .host ip _ => some ip.toNat
    | _ => none

/-- A datagram of a stream leaves: in UDP to the opening session, or as a DIAG frame to the terminus; one that finds no room among the
best-effort frames that wait (ring 52, R647) is discarded, and the next unit sent carries GAP (R669, R670). -/
def sendDatagram (n : Nat) (bs : Bytes) (s : State) : State :=
  if s.flag (F.DMA_STR_CFG_SINK n) && !isTerminus s then
    if s.get (F.DMA_RING_CFG_ENTRIES 52) ≤ s.line.beQueue.length then modData n (fun d => { d with lost := true }) s
    else offerBe 0x15 (s.get F.LIN_POS_MASTER_NUM) (padTo (64 * ceilDiv bs.length 64) bs) s
  else
    match sessionAddress s (s.get (F.DMA_STR_CFG_SESSION n)) with
    | none => s
    | some ip => emit (.datagram ip (s.get (F.DMA_STR_PORT_UDP_PORT n)) bs) s

/-- Datagrams of a stream leave while its RATE allows (R667, R670). -/
def sendUnits (n : Nat) : Nat → State → State
  | 0, s => s
  | fuel + 1, s =>
    let d := dataStream s n
    match d.queue with
    | [] => s
    | u :: rest =>
      if u.data.length ≤ d.offset then
        sendUnits n fuel ((modData n (fun d => { d with queue := rest, offset := 0 }) s).wrapUp (F.DMA_STR_UNITS_UNITS n) 1)
      else
        let gap := if d.offset = 0 then d.lost else d.gap
        let bs := unitDatagram n d u gap
        let cost := if s.flag (F.DMA_STR_CFG_SINK n) then 64 * ceilDiv bs.length 64 else bs.length
        if s.get (F.DMA_STR_PORT_RATE n) < d.used + cost then s
        else
          sendUnits n fuel (sendDatagram n bs (modData n (fun d =>
            { d with offset := d.offset + 1408, used := d.used + cost, gap := gap, lost := if d.offset = 0 then false else d.lost }) s))

/-- A stream sends in this millisecond of device time (R669, R670). -/
def streamUnitSend (n : Nat) (s : State) : State :=
  if !s.die.yardUp || !s.flag (F.DMA_STR_CFG_OPEN n) then s
  else
    let m := deviceTime s / ms
    let s := modData n (fun d => if d.msNo = m then d else { d with msNo := m, used := 0 }) s
    sendUnits n (2 * 65536) s

/-! ### Status -/

/-- PROD and CONS of a ring that belongs to no channel (R648, R675): the event rings count their records; what firmware counts in the
others is a free value once power has been up for some time (log entry 25). -/
def ringIndices (s : State) (n : Nat) : Nat :=
  if n = 56 ∨ n = 57 ∨ s.now ≤ s.pwr.logicAt then s.reg (Reg.DMA_RING_IDX n) else (Config.ringIndices n s.now).toNat

/-- The registers that show what lies elsewhere: the demand and the budget, the retired pages, the rings of the
channels. -/
def dmaOverlay (s : State) (a : Nat) : Option Nat :=
  if a = Reg.DMA_BUDGET then
    some ((match yardSet s with
      | none => 0
      | some c => (Config.dmaDemand c.data).toNat) + 400 * 65536)
  else if a = Reg.DMA_RETIRED then some (setBitsAt (s.reg a) 0 16 (satN 16 (retiredPages s)))
  else if Reg.DMA_RING_IDX 0 ≤ a ∧ a < Reg.DMA_RING_IDX 32 ∧ (a - Reg.DMA_RING_IDX 0) % 16 = 0 then
    some (s.reg (Reg.DMA_CH_RING ((a - Reg.DMA_RING_IDX 0) / 16)))
  else if Reg.DMA_RING_IDX 32 ≤ a ∧ a ≤ Reg.DMA_RING_IDX 63 ∧ (a - Reg.DMA_RING_IDX 0) % 16 = 0 then
    some (ringIndices s ((a - Reg.DMA_RING_IDX 0) / 16))
  else none

/-- n registers from an address on. -/
def dmaRegs (s : State) (a n : Nat) : Bytes :=
  (upFrom 0 n).flatMap (fun i => leBytes 4 ((dmaOverlay s (a + 4 * i)).getD (s.reg (a + 4 * i))))

/-- DMA_STATUS (R672). -/
def runDmaStatus (p : Request) (s : State) : Answer :=
  let c := fieldAt p.params 0 1
  if c = 0xFF then ok s (dmaRegs s Reg.DMA_BUDGET 4 ++ dmaRegs s (Reg.DMA_CH_CTRL 0) 256)
  else if c < 32 then ok s (dmaRegs s Reg.DMA_BUDGET 4 ++ dmaRegs s (Reg.DMA_CH_CTRL c) 8)
  else refuse s St.badParam

/-! ### Rows -/

/-- DESCRIPTOR_START (R651, R663): firmware has placed these descriptors in the ring of a channel since; the channel starts
the next one if it is granted. -/
def execDescriptorStart (t c : Nat) (l : List Descriptor) (s : State) : Res :=
  let s := begin_ t s
  .next (if c < 32 ∧ s.die.yardUp = true then startDescriptor c (foldOver (fun s d => offerDescriptor c false d s) s l) else s)

/-- DESCRIPTOR_COMPLETE (R656): the descriptor in progress on a channel ends as given. -/
def execDescriptorComplete (t c : Nat) (e : DmaEnd) (s : State) : Res :=
  let s := begin_ t s
  .next (if c < 32 then endDescriptor c e s else s)

/-- DESC_RESUBMIT (R660). -/
def execDescResubmit (t c : Nat) (s : State) : Res :=
  let s := begin_ t s
  .next (if c < 32 then resubmit c s else s)

/-- DMA_STOP_WRITE (R661): STOP of a channel is written. -/
def execDmaStopWrite (t c : Nat) (v : Bool) (s : State) : Res :=
  let s := begin_ t s
  .next (if c < 32 then writeStop c v s else s)

/-- PATROL_SCRUB (R642): a pass ends; the pages with errors in it, with those corrected and not corrected. -/
def execPatrolScrub (t : Nat) (l : List (Nat × Nat × Nat)) (s : State) : Res := .next (patrolPass l (begin_ t s))

/-- PAGE_RETIREMENT (R642): a marked page is due to be retired. -/
def execPageRetirement (t page : Nat) (s : State) : Res := .next (retirePage page (begin_ t s))

/-- STREAM_UNIT_SEND (R669): a data stream sends within its rate. -/
def execStreamUnitSend (t n : Nat) (s : State) : Res :=
  let s := begin_ t s
  .next (if n < 4 then streamUnitSend n s else s)

end Sys2Proof.Machine
end

