-- ==== Sys2Proof/Machine/Can.lean ====
section
/-!
DEFINITION. *CAN FD Message Bus*: transmit messages and signals, transmit errors, reception, address claim and the match
buffer (R677–R698).
-/

namespace Sys2Proof.Machine

/-- An event of a controller: MDB_EVT_CTL names it, and DETAIL carries it (R703, R714). -/
def mdbEvent (src n : Nat) (s : State) : State := raise src n (s.put F.MDB_EVT_CTL_CTRL n)

/-- STATE of a controller: 0 off, 1 error active, 2 error passive, 3 bus-off. -/
def busState (s : State) (n : Nat) : Nat :=
  if canMode s n = 0 then 0 else if s.get (F.MDB_C_STATUS_STATE n) = 0 then 1 else s.get (F.MDB_C_STATUS_STATE n)

/-- The registers that follow from others: STATE and GATED. -/
def canOverlay (s : State) (a : Nat) : Option Nat :=
  match (upFrom 0 4).find? (fun n => a == Reg.MDB_C_STATUS n) with
  | none => none
  | some n => some (setBitsAt (setBitsAt (s.reg a) 0 2 (busState s n)) 2 1 (b2n (decide (2 ≤ gateState s (2 + n)))))

/-! ### Signals (R689) -/

/-- A field with its bytes in reverse order; of a width that is not a multiple of 8 the highest byte is the short one. -/
def reverseField (n raw : Nat) : Nat :=
  let r := n % 8
  raw / 2 ^ (n - r) + 2 ^ r * beNat (leBytes (n / 8) (raw % 2 ^ (n - r)))

/-- The field whose bytes in reverse order these are. -/
def unreverseField (n f : Nat) : Nat :=
  let r := n % 8
  f % 2 ^ r * 2 ^ (n - r) + beNat (leBytes (n / 8) (f / 2 ^ r))

/-- The value of the source of a transmit signal. -/
def signalValue (s : State) (i : Nat) : Int :=
  if s.get (F.MDB_SIG_CFG_SRC i) = 1 then (lookupNum s.eng.canVals i).getD (unsampled 6 i)
  else seenValue s (s.get (F.MDB_SIG_LINE_ENTRY i)) (s.get (F.MDB_SIG_LINE_WORD i))

/-- The raw value that a transmit signal writes, as the bits of its field. -/
def signalRaw (s : State) (i : Nat) : Nat :=
  let n := s.get (F.MDB_SIG_CFG_SLEN i) + 1
  let v := roundDiv (signalValue s i * s.gets (F.MDB_SIG_SCALE_SCALE i)) 65536 + s.gets (F.MDB_SIG_OFFSET_OFFSET i)
  if s.flag (F.MDB_SIG_CFG_SIGNED i) then fixS n v else satU n v

/-- The signals of a transmit message. -/
def signalsOf (s : State) (m : Nat) : List Nat :=
  (upFrom 0 64).filter (fun i => s.get (F.MDB_SIG_CFG_SRC i) != 0 && s.get (F.MDB_SIG_CFG_MSG i) == m)

/-- The frame of a transmit message with the signal values held now (R689, R690). -/
def messageFrame (s : State) (m : Nat) : CanFrame :=
  let len := s.get (F.MDB_TX_CFG_LEN m)
  let bits := foldOver (fun f i =>
    let n := s.get (F.MDB_SIG_CFG_SLEN i) + 1
    let raw := if s.flag (F.MDB_SIG_CFG_BE i) then reverseField n (signalRaw s i) else signalRaw s i
    setBitsAt f (s.get (F.MDB_SIG_CFG_START i)) n raw) (2 ^ (8 * len) - 1) (signalsOf s m)
  let id := s.get (F.MDB_TX_ID_ID m)
  let iso := s.get (F.MDB_TX_CFG_CTRL m) == 0 && canMode s 0 == 3 && s.flag (F.MDB_TX_ID_IDE m)
  { id := if iso then setBitsAt id 0 8 (s.get (F.MDB_C_STATUS_ADDRESS 0)) else id,
    ide := s.flag (F.MDB_TX_ID_IDE m), fdf := s.flag (F.MDB_TX_ID_FDF m), brs := s.flag (F.MDB_TX_ID_BRS m), remote := false,
    data := leBytes len bits }

/-! ### Transmit messages (R687–R690) -/

/-- A controller sends frames of messages: it is on, not listening only, not bus-off, and on CAN_A as an implement bus it has
claimed its address (R677, R681, R686). -/
def canSend (s : State) (n : Nat) : Bool :=
  canOn s n && !s.flag (F.MDB_C_CFG_LISTEN n) && busState s n != 3 &&
    !(canMode s n == 3 && !s.flag (F.MDB_C_STATUS_CLAIMED n))

/-- A due instance is loaded into a buffer with the content it has now. -/
def loadMessage (n k m : Nat) (s : State) : State := loadBuffer n k m (messageFrame s m) s

/-- Instances that wait are loaded while TXB0 or TXB1 is free (R687). -/
def loadWaiting (n : Nat) : Nat → State → State
  | 0, s => s
  | fuel + 1, s =>
    match (control s n).waiting, [0, 1].find? (fun k => !txPending s n k) with
    | e :: rest, some k => loadWaiting n fuel (loadMessage n k e.2 (modControl n (fun c => { c with waiting := rest }) s))
    | _, _ => s

/-- An instance joins those that wait, in the order of due instant and then of message (R687). -/
def waitIn (e : Nat × Nat) : List (Nat × Nat) → List (Nat × Nat)
  | [] => [e]
  | x :: l => if e.1 < x.1 ∨ (e.1 = x.1 ∧ e.2 < x.2) then e :: x :: l else x :: waitIn e l

/-- An instance of a message is due (R687, R688). -/
def sendInstance (m due_ : Nat) (s : State) : State :=
  let n := s.get (F.MDB_TX_CFG_CTRL m)
  if !canSend s n then s
  else if (control s n).waiting.any (fun e => e.2 == m) then s
  else
    match [0, 1].find? (fun k => txPending s n k && s.get (txSrc n k) == m && (txBuffer s n k).errors == 0) with
    | some k =>
      let s := (modBuffer n k (fun _ => {}) s).put (txState n k) 6
      loadMessage n (if txPending s n (1 - k) then k else 1 - k) m s
    | none => loadWaiting n 2 (modControl n (fun c => { c with waiting := waitIn (due_, m) c.waiting }) s)

/-- The newest due instant of a message at or before now, device time. -/
def dueInstant (s : State) (m : Nat) : Option Nat :=
  let p := s.get (F.MDB_TX_CFG_PERIOD m)
  let ph := s.get (F.MDB_TX_PHASE_PHASE m)
  let d := deviceTime s / ms
  if p = 0 ∨ d < ph then none else some (((d - ph) / p * p + ph) * ms)

/-- Message m falls due: at a multiple of its period, or at a cycle start after one of its signals has changed (R687). -/
def messageDue (m : Nat) (s : State) : State :=
  if !s.flag (F.MDB_TX_CFG_EN m) then s
  else if s.get (F.MDB_TX_CFG_PERIOD m) = 0 then
    if onMultiple s ms = none then s
    else
    let vals := (signalsOf s m).map (signalValue s)
    if lookupNum s.can.lastVals m = some vals then s
    else sendInstance m (deviceTime s) { s with can := { s.can with lastVals := putNum s.can.lastVals m vals } }
  else
    match dueInstant s m with
    | none => s
    | some d =>
      if d < s.can.since ∨ lookupNum s.can.lastDue m = some d then s
      else sendInstance m d { s with can := { s.can with lastDue := putNum s.can.lastDue m d } }

/-! ### Transmission (R684–R686) -/

/-- What arbitration compares: a base identifier as its 11 bits and 18 ones (R684). -/
def arbitrationKey (f : CanFrame) : Nat := if f.ide then f.id else f.id % 2048 * 262144 + 262143

/-- The buffer that the controller offers to arbitration (R684). -/
def offeredBuffer (s : State) (n : Nat) : Option Nat :=
  let l := [0, 1, 2].filter (txPending s n)
  if s.flag (F.MDB_C_CFG_TXORDER n) then l.head?
  else
    l.foldl (fun b k =>
      match b with
      | none => some k
      | some j =>
        match (txBuffer s n k).frame, (txBuffer s n j).frame with
        | some x, some y => if arbitrationKey x < arbitrationKey y then some k else some j
        | _, _ => some j) none

/-- Free buffers take what waits. -/
def refill (n : Nat) (s : State) : State := nextFirmware n (if canSend s n then loadWaiting n 2 s else s)

/-- The controller may send dominant bits: it is on, not bus-off, and not listening only (R677, R686). -/
def mayDrive (s : State) (n : Nat) : Bool := canOn s n && busState s n != 3 && !s.flag (F.MDB_C_CFG_LISTEN n)

/-- The state of a controller that is error active or passive follows its error counters (R677): one that goes beyond 127 makes it
passive. -/
def judgePassive (n : Nat) (s : State) : State :=
  let high := decide (128 ≤ s.get (F.MDB_C_ERR_TEC n)) || decide (128 ≤ s.get (F.MDB_C_ERR_REC n))
  if busState s n = 1 ∧ high = true then mdbEvent Src.MDB_ERR_PASSIVE n (s.put (F.MDB_C_STATUS_STATE n) 2)
  else if busState s n = 2 ∧ high = false then s.put (F.MDB_C_STATUS_STATE n) 1
  else s

/-- A frame completes transmission with acknowledgement (R684), and N_As of the next frame of the service path begins (R95); TEC goes down by one, and below 128 the controller is error
active again. -/
def frameSent (n : Nat) (s : State) : State :=
  if !mayDrive s n then s
  else
    match offeredBuffer s n with
    | none => s
    | some k =>
      let b := txBuffer s n k
      let s := ((modBuffer n k (fun _ => {}) s).put (txState n k) 2).put (txRetries n k) (satN 8 b.errors)
      let tec := s.get (F.MDB_C_ERR_TEC n) - 1
      let s := judgePassive n ((s.wrapUp (F.MDB_C_CNT_TX_FRAMES n) 1).put (F.MDB_C_ERR_TEC n) tec)
      let s := match b.frame with
        | some f => emit (.canFrame n f) s
        | none => s
      let service := n = 3 ∧ k = 2
      let s := match b.frame with
        | some f => if service then segmentSent f s else s
        | none => s
      if service then restartAs (refill n s) else refill n s

/-- Bus-off: every pending buffer is aborted, and what waits is not sent (R686). -/
def busOff (n : Nat) (s : State) : State :=
  let s := foldOver (fun s k =>
    if txPending s n k then ((modBuffer n k (fun _ => {}) s).put (txState n k) 4).bump (F.MDB_C_DROP_ABORTS n) 1 else s) s [0, 1, 2]
  let s := modControl n (fun c => { c with waiting := [], firmware := [] }) s
  let s := if n = 3 then restartAs s else s
  mdbEvent Src.MDB_BUS_OFF n ((s.put (F.MDB_C_STATUS_STATE n) 3).bump (F.MDB_C_ERR_BUSOFFS n) 1)

/-- A frame is given up after its last retransmission (R685). -/
def abortRetry (n k err : Nat) (s : State) : State :=
  let src := s.get (txSrc n k)
  let s := ((modBuffer n k (fun _ => {}) s).put (txState n k) 3).bump (F.MDB_C_DROP_ABORTS n) 1
  let s := refill n (fault 0x30 4 Src.MDB_TX_ABORT n src err 0 (mdbEvent Src.MDB_TX_ABORT n s))
  if n = 3 ∧ k = 2 then restartAs s else s

/-- A transmit error (R685), with the code of LAST_ERR. TEC goes up by eight, but not for a missing acknowledgement of an
error-passive controller; above 255 the controller is bus-off, which goes before the retry limit (R698). -/
def transmitError (n err : Nat) (s : State) : State :=
  if !mayDrive s n then s
  else
    match offeredBuffer s n with
    | none => s
    | some k =>
      let e := (txBuffer s n k).errors
      let tec := s.get (F.MDB_C_ERR_TEC n) + (if err = 3 ∧ busState s n = 2 then 0 else 8)
      let s := (((modBuffer n k (fun b => { b with errors := e + 1 }) s).put (F.MDB_C_ERR_LAST_ERR n) err).put (F.MDB_C_ERR_TEC n)
        (satN 8 tec)).put (txRetries n k) (satN 8 e)
      if 255 < tec then busOff n s
      else
        let s := judgePassive n s
        if s.get (F.MDB_C_CFG_RETRY n) ≤ e then abortRetry n k err s else s

/-- Recovery from bus-off ends: the counters are 0, and CAN_A claims its address again (R681, R686). -/
def busOn (n : Nat) (s : State) : State :=
  if !canOn s n || busState s n != 3 then s
  else
    let s := ((s.put (F.MDB_C_STATUS_STATE n) 1).put (F.MDB_C_ERR_TEC n) 0).put (F.MDB_C_ERR_REC n) 0
    let s := if canMode s n = 3 then
        State.put { s with can := { s.can with claimDue := true, claimAt := none } } (F.MDB_C_STATUS_CLAIMED n) 0
      else s
    mdbEvent Src.MDB_BUS_ON n s

/-- A forced gate: the buffer in transmission reads ABORT_GATE (R698). -/
def gateController (n : Nat) (s : State) : State :=
  match offeredBuffer s n with
  | none => s
  | some k => (modBuffer n k (fun _ => {}) s).put (txState n k) 5

/-! ### Address claim (R680, R681) -/

/-- NAME. -/
def isoName (s : State) : Nat := s.get64 Reg.MDB_NAME_LO Reg.MDB_NAME_HI

/-- The address claimed message of ISO 11783-5 from an address; 0xFE says that no address can be claimed. -/
def claimFrame (s : State) (addr : Nat) : CanFrame :=
  { id := 0x18EEFF00 + addr, ide := true, fdf := false, brs := false, remote := false, data := leBytes 8 (isoName s) }

/-- CAN_A runs as an implement bus and can send. -/
def isoBus (s : State) : Bool := canMode s 0 == 3 && mayDrive s 0 && s.die.sigUp

/-- The address that the module holds or is claiming. -/
def isoAddress (s : State) : Option Nat :=
  if s.flag (F.MDB_C_STATUS_CLAIMED 0) then some (s.get (F.MDB_C_STATUS_ADDRESS 0))
  else if s.can.claimAt.isSome then some (s.get F.MDB_ADDR_PREF_ADDR)
  else none

/-- An address claim is sent where one is due, and 250 ms later without contention the address is claimed. -/
def addressClaim (s : State) : State :=
  if !isoBus s then s
  else if s.can.claimDue then
    let s := (s.put (F.MDB_C_STATUS_CLAIMED 0) 0).put (F.MDB_C_STATUS_ADDRESS 0) 0xFE
    sendFirmware 0 (claimFrame s (s.get F.MDB_ADDR_PREF_ADDR)) { s with can := { s.can with claimDue := false, claimAt := some s.now } }
  else
    match s.can.claimAt with
    | none => s
    | some c =>
      if s.now < c + 250 * ms then s
      else
        (State.put { s with can := { s.can with claimAt := none } } (F.MDB_C_STATUS_CLAIMED 0) 1).put (F.MDB_C_STATUS_ADDRESS 0)
          (s.get F.MDB_ADDR_PREF_ADDR)

/-- Another claims the module's address: the lower NAME keeps it (R681). -/
def contend (other : Nat) (s : State) : State :=
  match isoAddress s with
  | none => s
  | some a =>
    if isoName s ≤ other then sendFirmware 0 (claimFrame s a) s
    else
      let s := (s.put (F.MDB_C_STATUS_CLAIMED 0) 0).put (F.MDB_C_STATUS_ADDRESS 0) 0xFE
      let s := sendFirmware 0 (claimFrame s 0xFE) { s with can := { s.can with claimAt := none } }
      mdbEvent Src.MDB_ADDR_LOST 0 s

/-- PDU format and destination of an extended identifier. -/
def pduFormat (f : CanFrame) : Nat := f.id / 65536 % 1024
def pduSpecific (f : CanFrame) : Nat := f.id / 256 % 256

/-- The frame belongs to address claim: an address claimed message, or a request for it (R680). -/
def isoFrame (f : CanFrame) : Bool :=
  f.ide && ((pduFormat f == 0xEE && pduSpecific f == 0xFF) || (pduFormat f == 0xEA && fieldAt f.data 0 3 == 0xEE00))

/-- The Signal firmware takes a frame of address claim (R680, R681). -/
def takeIsoFrame (f : CanFrame) (s : State) : State :=
  if !isoBus s then s
  else if pduFormat f = 0xEE then (if isoAddress s = some (f.id % 256) then contend (fieldAt f.data 0 8) s else s)
  else if pduSpecific f = 0xFF ∨ isoAddress s = some (pduSpecific f) then
    (if s.can.claimDue then s else sendFirmware 0 (claimFrame s ((isoAddress s).getD 0xFE)) s)
  else s

/-! ### Receiving (R691–R696) -/

/-- The first filter that decides about a frame, with its action. -/
def filterFor (s : State) (n : Nat) (f : CanFrame) : Option (Nat × Nat) :=
  let hit := fun k =>
    let w := s.reg (Reg.MDB_C_FLT_ID n k)
    let m := bitsAt (s.reg (Reg.MDB_C_FLT_MASK n k)) 0 29
    let a := bitsAt w 30 2
    (a == 1 || a == 2) && Nat.land f.id m == Nat.land (bitsAt w 0 29) m && bitAt w 29 == f.ide
  match (upFrom 0 32).find? hit with
  | none => none
  | some k => some (k, bitsAt (s.reg (Reg.MDB_C_FLT_ID n k)) 30 2)

/-- A frame is copied to the match buffer (R696). -/
def copyMatch (n k : Nat) (f : CanFrame) (s : State) : State :=
  let s := if s.flag (F.MDB_C_HP_ID_FULL n) then s.bump (F.MDB_C_DROP_HPMB n) 1 else s
  let s := s.setReg (Reg.MDB_C_HP_ID n) (f.id % 536870912 + 536870912 * b2n f.ide + 1073741824 * b2n f.fdf + 2147483648)
  let s := (s.setReg (Reg.MDB_C_HP_INFO n) (f.data.length % 128 + 256 * k)).put64 (Reg.MDB_C_HP_STAMP_LO n) (Reg.MDB_C_HP_STAMP_HI n)
    (deviceTime s)
  let s := foldOver (fun s w => s.setReg (Reg.MDB_C_HP_DATA n w) (fieldAt f.data (4 * w) 4)) s (upFrom 0 16)
  raise0 (Src.MDB_HPMB + n) s

/-- The value of a receive signal in a frame; none where the frame is too short (R693). -/
def receivedValue (s : State) (i : Nat) (f : CanFrame) : Option Int :=
  let n := s.get (F.MDB_RSIG_CFG_SLEN i) + 1
  let at_ := s.get (F.MDB_RSIG_CFG_START i)
  if 8 * f.data.length < at_ + n then none
  else
    let bits := bitsAt (leNat f.data) at_ n
    let raw := if s.flag (F.MDB_RSIG_CFG_BE i) then unreverseField n bits else bits
    let v : Int := if s.flag (F.MDB_RSIG_CFG_SIGNED i) then sx n raw else raw
    some (satS 32 (roundDiv (v * s.gets (F.MDB_RSIG_SCALE_SCALE i)) 65536 + s.gets (F.MDB_RSIG_OFFSET_OFFSET i)))

/-- A receive signal publishes the value of a frame (R693). -/
def publish (f : CanFrame) (s : State) (i : Nat) : State :=
  match receivedValue s i f with
  | none => s
  | some v => publishWord (s.get (F.MDB_RSIG_LINE_ENTRY i)) (s.get (F.MDB_RSIG_LINE_WORD i)) v s

/-- A frame is received as message r (R693–R695). DEDUCED: while the Yard die or the Crossover is down nothing is appended (log entry 198). -/
def receiveMessage (f : CanFrame) (s : State) (r : Nat) : State :=
  let s := State.putBit { s with can := { s.can with lastRx := putNum s.can.lastRx r (deviceTime s) } } F.MDB_RX_STALE_STALE r false
  if s.flag (F.MDB_RX_CFG_STREAM r) then (if isTerminus s && s.die.yardUp && s.die.xoUp then feedSource 3 f.data s else s)
  else
    foldOver (publish f) s
      ((upFrom 0 64).filter (fun i => s.flag (F.MDB_RSIG_CFG_EN i) && s.get (F.MDB_RSIG_CFG_MSG i) == r))

/-- The receive messages that a frame matches (R692). -/
def messagesFor (s : State) (n : Nat) (f : CanFrame) : List Nat :=
  (upFrom 0 32).filter (fun r => s.flag (F.MDB_RX_CFG_EN r) && s.get (F.MDB_RX_CFG_CTRL r) == n &&
    s.get (F.MDB_RX_ID_ID r) == f.id && s.flag (F.MDB_RX_ID_IDE r) == f.ide)

/-- The frame carries a segment of the service path to this module (R92–R94). DESIGN CHOICE: a classical frame with the identifier is
taken too: R93 has the frames of the path be CAN FD and does not say what becomes of another (log entry 159). -/
def serviceSegment (s : State) (n : Nat) (f : CanFrame) : Bool :=
  n == 3 && canDService s && f.ide && f.id / 65536 == 0x18DA && f.id / 256 % 256 == serviceAddress s &&
    decide (0xF0 ≤ f.id % 256) && decide (f.id % 256 ≤ 0xFE)

/-- A frame enters the firmware queue of a controller (R692). -/
def queueFirmware (n : Nat) (f : CanFrame) (s : State) : State :=
  if (control s n).received.length < 64 then modControl n (fun c => { c with received := c.received ++ [f] }) s
  else
    let s := s.bump (F.MDB_C_DROP_FIFO_OVF n) 1
    let soon := match s.can.overflowAt with
      | some t => decide (s.now < t + sec)
      | none => false
    if soon then s else mdbEvent Src.MDB_FIFO_OVF n { s with can := { s.can with overflowAt := some s.now } }

/-- A frame is received on a controller (R677, R691, R692). -/
def receiveFrame (n : Nat) (f : CanFrame) (s : State) : State :=
  if !canOn s n || busState s n == 3 then s
  else if f.fdf && (canMode s n == 2 || canMode s n == 3) then
    judgePassive n ((s.bump (F.MDB_C_ERR_REC n) 1).put (F.MDB_C_ERR_LAST_ERR n) 2)
  else
    let s := judgePassive n (s.put (F.MDB_C_ERR_REC n) (s.get (F.MDB_C_ERR_REC n) - 1))
    if f.remote then s.bump (F.MDB_C_DROP_NO_MATCH n) 1
    else if serviceSegment s n f then
      queueFirmware n f (foldOver (receiveMessage f) (s.wrapUp (F.MDB_C_CNT_RX_FRAMES n) 1) (messagesFor s n f))
    else
      match filterFor s n f with
      | none => s.bump (F.MDB_C_DROP_NO_MATCH n) 1
      | some (k, action) =>
        let s := s.wrapUp (F.MDB_C_CNT_RX_FRAMES n) 1
        let s := if action = 2 then copyMatch n k f s else s
        let s := foldOver (receiveMessage f) s (messagesFor s n f)
        if n = 0 ∧ canMode s 0 = 3 ∧ isoFrame f = true then queueFirmware n f s else s

/-- The Signal firmware takes the frames of its queues, those of the service path with what they complete (R692). -/
def takeQueued (handle : Nat → Bytes → State → State) (n : Nat) (s : State) : State :=
  if !s.die.sigUp then s
  else
    let l := (control s n).received
    let s := modControl n (fun c => { c with received := [] }) s
    foldOver (fun s f =>
      if n = 3 then
        match takeSegment (f.id % 256) f.data s with
        | (s, none) => s
        | (s, some bs) => handle (f.id % 256) bs s
      else takeIsoFrame f s) s l

/-- A receive message unseen for TIMEOUT sets its stale bit (R694). -/
def rxTimeout (r : Nat) (s : State) : State :=
  let last := max s.can.since ((lookupNum s.can.lastRx r).getD 0)
  let tmo := s.get (F.MDB_RX_CFG_TIMEOUT r)
  if !s.flag (F.MDB_RX_CFG_EN r) || tmo == 0 || s.bit F.MDB_RX_STALE_STALE r || decide (deviceTime s < last + tmo * ms) then s
  else mdbEvent Src.MDB_RX_TIMEOUT (s.get (F.MDB_RX_CFG_CTRL r)) (s.putBit F.MDB_RX_STALE_STALE r true)

/-! ### The set in force changes, the Signal die restarts (R698) -/

/-- The signal values of the messages that are sent on change. -/
def changeSnapshot (s : State) : List (Nat × List Int) :=
  ((upFrom 0 32).filter (fun m => s.flag (F.MDB_TX_CFG_EN m) && s.get (F.MDB_TX_CFG_PERIOD m) == 0)).map
    (fun m => (m, (signalsOf s m).map (signalValue s)))

/-- A set has come into force over the set that was before: its messages, signals and filters apply from here on; a change of
NAME or PREF_ADDR calls for a claim (R681, R698). -/
def canSwap (before s : State) : State :=
  let changed := isoName before != isoName s || before.get F.MDB_ADDR_PREF_ADDR != s.get F.MDB_ADDR_PREF_ADDR
  let s := foldOver (fun s n => modControl n (fun c => { c with waiting := [] }) s) s (upFrom 0 4)
  let s := { s with can := { s.can with
    since := deviceTime s / ms * ms, lastDue := [], lastVals := changeSnapshot s, claimDue := s.can.claimDue || changed } }
  if changed then
    (State.put { s with can := { s.can with claimAt := none } } (F.MDB_C_STATUS_CLAIMED 0) 0).put (F.MDB_C_STATUS_ADDRESS 0) 0xFE
  else s

/-- The Signal die restarts: its firmware queues and the transfers in progress are lost; service packets wait (R43, R46, R698). -/
def canSignalRestart (s : State) : State :=
  let s := foldOver (fun s n => modControl n (fun c => { c with received := [], firmware := [] }) s) s (upFrom 0 4)
  { s with pk := { s.pk with isoRx := none, isoTx := none, asUntil := none } }

/-! ### Rows -/

/-- MESSAGE_DUE (R687): a transmit message may fall due. -/
def execMessageDue (t m : Nat) (s : State) : Res :=
  let s := begin_ t s
  .next (if m < 32 then messageDue m s else s)

/-- CAN_FRAME_SENT (R684): the frame that a controller offers completes with acknowledgement. -/
def execCanFrameSent (t n : Nat) (s : State) : Res :=
  let s := begin_ t s
  .next (if n < 4 then frameSent n s else s)

/-- TX_ERROR (R685): the frame that a controller offers meets an error with this code. -/
def execTxError (t n err : Nat) (s : State) : Res :=
  let s := begin_ t s
  .next (if n < 4 ∧ 1 ≤ err ∧ err ≤ 6 then transmitError n err s else s)

/-- BUS_ON (R686). -/
def execBusOn (t n : Nat) (s : State) : Res :=
  let s := begin_ t s
  .next (if n < 4 then busOn n s else s)

/-- ADDRESS_CLAIM (R680). -/
def execAddressClaim (t : Nat) (s : State) : Res := .next (addressClaim (begin_ t s))

/-- RX_TIMEOUT (R694). -/
def execRxTimeout (t r : Nat) (s : State) : Res :=
  let s := begin_ t s
  .next (if r < 32 then rxTimeout r s else s)

/-- ISO_TP_TIMEOUT (R95). -/
def execIsoTpTimeout (t : Nat) (s : State) : Res := .next (isoTimeout (begin_ t s))

/-- GATE_FORCED (R617, R666, R698): tGATE_FORCE after the request the gate of an island closes by force. -/
def execGateForced (t g : Nat) (s : State) : Res :=
  let s := begin_ t s
  let s' := gateForce g s
  .next (if gateState s g ≠ 3 ∧ gateState s' g = 3 then
      gateDescriptors g (if 2 ≤ g ∧ g ≤ 5 then gateController (g - 2) s' else s')
    else s')

end Sys2Proof.Machine
end

