-- ==== Sys2Proof/Machine/Dies.lean ====
section
/-!
DEFINITION. The two dies: the Crossover (R39–R42), what a restart of either die resets and keeps (R32, R43–R52, R829,
R831), reclaim and return.
-/

namespace Sys2Proof.Machine

/-- The part changed. -/
def modDie (f : DiePart → DiePart) (s : State) : State := { s with die := f s.die }

/-! ### Registers at a restart (R26, R32, R829) -/

/-- Registers of a list of addresses return to their reset values, but for the RWS fields, which keep the value that the
running set gives them, and for the bits to keep. -/
def resetWords (inBlock : Nat → Bool) (keep : Nat → Nat) (regs : List (Nat × Word)) : List (Nat × Word) :=
  foldOver (fun (l : List (Nat × Word)) (e : Nat × Word) =>
    if inBlock e.1 then
      let m := Nat.lor (regMask (fun a => a == Access.RWS) e.1) (keep e.1)
      let r := (regDefault e.1).toNat
      storeSet regDefault l e.1 (BitVec.ofNat 32 (Nat.land e.2.toNat m + (r - Nat.land r m)))
    else l) regs regs

/-- The state with those registers reset. -/
def resetBlock (inBlock : Nat → Bool) (keep : Nat → Nat) (s : State) : State :=
  { s with regs := resetWords inBlock keep s.regs, hiLatch := storeDrop inBlock s.hiLatch }

/-- All bits of a register. -/
def allBits : Nat := 4294967295

/-- The registers of the Signal die that no always-on domain holds and no description lets survive: the gates and the flags of CLK, the
LSW and CLE registers that belong to no channel and to no loop, the flags of UPD, the lead, the flags, the order report and LAST_STATUS
of CFG, and the limit flags of the sensor outputs. -/
def signalVolatile (a : Nat) : Bool :=
  a == Reg.CFG_LEAD || a == Reg.CFG_EVT || a == Reg.CFG_ORDER || a == Reg.CFG_STATE || a == Reg.PWR_OUT_STAT || a == Reg.CLK_GATE || a == Reg.CLK_GATE_STATE || a == Reg.CLK_EVT ||
    (decide (Reg.LSW_CFG ≤ a) && decide (a < Reg.LSW_CH_CFG 0) && a != Reg.LSW_LIMP) ||
    (decide (Reg.CLE_BUDGET ≤ a) && decide (a < 0x40100)) || a == Reg.UPD_PROGRESS || a == Reg.UPD_EVT

/-- What a Signal die restart keeps of those registers: the state of the sets, which the configuration store holds, but not SET_MISMATCH
(R238, R265, R829). -/
def signalKeep (a : Nat) : Nat := if a = Reg.CFG_STATE then 0xFFF7 else 0

/-- The blocks of the Yard die. -/
def yardVolatile (a : Nat) : Bool :=
  match blockOf a with
  | none => false
  | some b => blockDie b == .yard

/-- What a Yard die restart keeps of its registers: fields that survive by their description, stored ones, and those that silicon fixes
(R222, R329, R335, R490, R511, R524, R526, R642, R647, R649). -/
def yardKeep (a : Nat) : Nat :=
  if a = Reg.LIN_ERR_E ∨ a = Reg.LIN_ERR_W ∨ a = Reg.GNS_PPS_DELAY ∨ a = Reg.GNS_GUIDE_ID ∨ a = Reg.DMA_RETIRED then allBits
  else if (upFrom 0 64).any (fun n => a == Reg.DMA_RING_CFG n) then allBits
  else if (upFrom 0 32).any (fun n => a == Reg.DMA_CH_CFG n) then 3
  else if a = Reg.GNS_STATUS then 2 ^ F.GNS_STATUS_TIME_VALID.lo
  else if a = Reg.GNS_STEER_STATUS then 0xFF00
  else if (upFrom 0 20).any (fun i => a == Reg.FUS_STR_STATE i) then 0xFF0000
  else 0

/-! ### The Crossover (R39–R42) -/

/-- tXO_LOSS and tPLANNED_GRACE. -/
def tXoLoss : Nat := 30 * us
def tPlannedGrace : Nat := 400 * ms

/-- The Line entries and Crossover values that loops use. -/
def usedEntries (s : State) (kind : Nat) : List Nat :=
  distinct ((upFrom 0 32).flatMap (fun n =>
    (if loopDefined s n && s.get (F.CLE_LOOP_SRC_KIND n) == kind then [s.get (F.CLE_LOOP_SRC_INDEX n)] else []) ++
      (if loopDefined s n && s.get (F.CLE_LOOP_SP_KIND n) == kind then [s.get (F.CLE_LOOP_SP_INDEX n)] else [])))

/-- The Line values that loops use, and the Crossover values, are lost until they are received and computed again (R49, R421). -/
def loseValues (s : State) : State :=
  { s with eng := { s.eng with
    lostEntries := distinct (s.eng.lostEntries ++ usedEntries s 4), xlost := distinct (s.eng.xlost ++ usedEntries s 5) } }

/-- Crossover loss is declared: XO_LOST is raised, and the loops that take values over it lose them; the values of a Yard die that
restarts come back only as they are received and computed again, but the loops hold them through a planned restart (R39, R49, R50,
R421). DESIGN CHOICE: after a loss the link comes up only once a die has become ready again: R39 counts tXO_UP from both dies ready,
and says nothing of a link that is lost while both run (log entry 154). -/
def xoLoss (s : State) : State :=
  if !s.die.xoUp then s
  else
    let s := modDie (fun d => { d with xoUp := false, xoReadyAt := none }) { s with upd := { s.upd with healthFrom := [none, none] } }
    let s := raise0 Src.EVR_XO_LOST s
    refreshLoss (if s.die.yardUp || s.die.plannedUntil.isSome then s else loseValues s)

/-- A die declares loss once tXO_LOSS has passed without a valid symbol; a die that is down declares none. -/
def xoWatch (yard : Bool) (s : State) : State :=
  let heard := if yard then s.die.xoHeardByYard else s.die.xoHeardBySignal
  let up := if yard then s.die.yardUp else s.die.sigUp
  if up && decide (heard + tXoLoss ≤ s.now) then xoLoss s else s

/-- A valid keep-alive symbol of the other die arrives. -/
def xoHeard (yard : Bool) (s : State) : State :=
  if yard then (if s.die.sigUp then modDie (fun d => { d with xoHeardByYard := s.now }) s else s)
  else (if s.die.yardUp then modDie (fun d => { d with xoHeardBySignal := s.now }) s else s)

/-- Both dies are ready: the link comes up within tXO_UP. -/
def bothReady (s : State) : State :=
  if s.die.sigUp && s.die.yardUp && !s.die.xoUp then modDie (fun d => { d with xoReadyAt := some s.now }) s else s

/-- Records leave the always-on event latch in order: held ones, then counted overflows (R42, R715). -/
def drainLatch : Nat → State → State
  | 0, s => s
  | n + 1, s =>
    if !(s.die.yardUp && s.die.xoUp && ringRoom 56 s) then s
    else
      match s.ev.latch.held, s.ev.latch.spill with
      | r :: l, spill =>
        let (s, lost) := deliver r { s with ev := { s.ev with latch := { held := l, spill := spill } } }
        drainLatch n (if lost.isEmpty || r.source == Src.EVR_EVENT_LOST then s else (raiseOnce Src.EVR_EVENT_LOST 0xFFFF 0 s).1)
      | [], r :: l =>
        let (s, lost) := deliver r { s with ev := { s.ev with latch := { held := [], spill := l } } }
        drainLatch n (if lost.isEmpty || r.source == Src.EVR_EVENT_LOST then s else (raiseOnce Src.EVR_EVENT_LOST 0xFFFF 0 s).1)
      | [], [] => s

/-- Space in the latch frees: the oldest record crosses, and an overflow count becomes a record (R715). -/
def drainOne (s : State) : State :=
  if !(s.die.yardUp && s.die.xoUp && ringRoom 56 s) then s
  else
    let s := drainLatch 1 s
    match s.ev.latch.spill with
    | [] => s
    | r :: l =>
      if s.ev.latch.held.length < 64 then
        { s with ev := { s.ev with latch := { held := s.ev.latch.held ++ [r], spill := l } } }
      else s

/-- A Crossover value reaches the Signal die; one whose selection delivers nothing is lost (R400). -/
def takeCross (e : Nat × Option Int) (s : State) : State :=
  match e.2 with
  | some x => { s with eng := { s.eng with xvals := putNum s.eng.xvals e.1 x, xlost := s.eng.xlost.filter (fun k => k != e.1) } }
  | none => { s with eng := { s.eng with xlost := s.eng.xlost.filter (fun k => k != e.1) ++ [e.1] } }

/-- Crossover values that wait are sent, as many as the level allows in a cycle (R41, R621). -/
def flushCross (s : State) : State :=
  if !(s.die.xoUp && s.die.yardUp && s.die.sigUp) then s
  else
    let n := levelUpdates (curLevel s)
    refreshLoss (foldOver (fun s e => takeCross e s)
      { s with eng := { s.eng with xpending := s.eng.xpending.drop n } } (s.eng.xpending.take n))

/-- The Line values that the Yard die holds reach the Signal die (R41, R48). -/
def flushSeen (s : State) : State :=
  { s with eng := { s.eng with
    lineSeen := foldOver (fun l (e : Nat × Nat × Bytes) => putNum l e.1 e.2.2) s.eng.lineSeen s.line.values } }

/-- Replies to CAN_D that waited for the Crossover leave (R40). -/
def flushCanOut (s : State) : State :=
  foldOver (fun s (e : Nat × Bytes) => sendService e.1 e.2 s) { s with pk := { s.pk with canOut := [] } } s.pk.canOut

/-- The Yard die passes the commit token that it holds to the Signal die over the Crossover, during cycle N − 1 (R248). -/
def passToken (s : State) : State :=
  match s.sets.token with
  | none => s
  | some (n, crc, _) =>
    if s.die.sigUp && s.die.yardUp && s.die.xoUp && (deviceTime s / ms + 1) % 4294967296 == n then
      { s with sets := { s.sets with sigToken := some (n, crc) } }
    else s

/-- Every channel goes off on the word of the Yard die, at once or when the Crossover is back: outputs hold while the Signal die is down
(R17, R37, R44, R188, R476). -/
def channelsOff (s : State) : State :=
  if signalReady s then allChannelsOff (modDie (fun d => { d with offDue := false }) s) else modDie (fun d => { d with offDue := true }) s

/-- The Crossover becomes usable (R39): what waited on either side crosses, the newest of each value (R40, R41, R46), and the loops
find their values again (R424). -/
def xoComesUp (s : State) : State :=
  match s.die.xoReadyAt with
  | none => s
  | some _ =>
    if !(s.die.sigUp && s.die.yardUp) then s
    else
      let s := modDie (fun d => { d with
        xoUp := true, xoReadyAt := none, xoHeardBySignal := s.now, xoHeardByYard := s.now, plannedUntil := none }) s
      let s := if s.die.offDue then channelsOff s else s
      refreshLoss (passToken (flushCanOut (flushCross (flushSeen (flushLineWords s)))))

/-! ### Signal die restart (R43–R46) -/

/-- The orders stop (R264). -/
def stopOrders (s : State) : State :=
  { s with sets := { s.sets with orders := s.sets.orders.map (fun o => { o with
    active := false, triggered := false, untilEnd := none, periodFrom := s.now }) } }

/-- A restart of a die is logged and raised (R714, R727). -/
def logRestart (die : Nat) (planned : Bool) (s : State) : State :=
  raise Src.EVR_DIE_RESTART die (fault 0x59 0 Src.EVR_DIE_RESTART die (b2n (!planned)) 0 0 s)

/-- A verification of an image ends with the restart of the die that makes it: the slot is LOADED again and its request
leaves (R66). -/
def dropVerify (s : State) : State :=
  let isV := fun (w : Waiting) => match w.job with
    | .image _ => true
    | _ => false
  let s := foldOver (fun s d =>
    let s := if s.get (F.UPD_SLOT_STATE_A d) = 3 then s.put (F.UPD_SLOT_STATE_A d) 2 else s
    if s.get (F.UPD_SLOT_STATE_B d) = 3 then s.put (F.UPD_SLOT_STATE_B d) 2 else s) s [0, 1]
  { s with
    pk := { s.pk with waiting := s.pk.waiting.filter (fun w => !isV w) },
    die := { s.die with dropped := s.die.dropped ++ s.pk.waiting.filter isV } }

/-- The Signal die restarts: processors and SRAM are reset, the outputs hold for tHOLD (R43, R44, R264, R829). -/
def signalDown (planned : Bool) (s : State) : State :=
  if !powered s then s
  else
    let hold := s.get F.LSW_CFG_HOLD * ms
    let s := logRestart 0 planned s
    let s := modDie (fun d => { d with
      sigUp := false, sigRestartAt := some s.now, holdUntil := some (s.now + hold), xoReadyAt := none,
      sigNotice := planned && d.xoUp }) s
    let s := { s with
      upd := { s.upd with booted := setNth s.upd.booted 0 false, healthFrom := [none, none] },
      eng := { s.eng with loops := s.eng.loops.map (fun x => { x with sample := none }), busyUntil := 0 },
      sets := { s.sets with sigToken := none }, load := { s.load with studLog := [] } }
    resetBlock signalVolatile signalKeep (canSignalRestart (dropVerify (stopOrders s)))

/-- tHOLD expires before reclaim: the HOLD cause is latched, and the requests that wait for the Signal die are answered
SIGNAL_DOWN (R44, R46, R466). -/
def holdExpires (s : State) : State :=
  match s.die.holdUntil with
  | none => s
  | some e =>
    if s.die.sigUp || s.now < e then s
    else
      let s := limpEnter .hold (modDie (fun d => { d with holdUntil := none }) s)
      completeAll (fun w => w.job == .queued && w.signal) St.signalDown (20 * ms) s

/-- The dead-man of a die is restarted by its firmware (R733): tDM_SIG or tDM_YARD runs from here. The first restart after a
restart of the die arms it again and clears the DEADMAN cause (R736). -/
def restartDeadman (yard : Bool) (s : State) : State :=
  if yard then
    State.put { s with ev := { s.ev with yardDeadman := some s.now } } F.EVR_DEADMAN_YARD_ARMED 1
  else
    (State.put { s with ev := { s.ev with sigDeadman := some s.now } } F.EVR_DEADMAN_SIG_ARMED 1).put F.LSW_LIMP_DEADMAN 0

/-- The Signal die has reclaimed its outputs: the HOLD cause clears, faults that waited are written, the dead-man is armed
again once the map was latched, loops in RUN go on from their retained state, and service packets that waited leave (R44, R45, R466,
R698, R729, R736). -/
def signalBack (s : State) : State :=
  let s := stopOrders (modDie (fun d => { d with sigUp := true, sigRestartAt := none, holdUntil := none, sigNotice := false }) s)
  let s := nextTransfers s.can.packets (s.put F.LSW_LIMP_HOLD 0)
  let s := flushFaults s
  let s := if s.flag F.LSW_LIMP_MAP_LATCHED then restartDeadman false s else s
  bothReady (lossAtReturn (refreshSinks s))

/-! ### Yard die restart (R47–R52, R831) -/

/-- What the packet layer keeps: the level keys and failure counters in MRAM (R831), and the transfers of CAN_D with the packets that
they have brought, which the Signal die holds. -/
def endAllSessions (s : State) : State :=
  { s with pk := {
      levelKeys := s.pk.levelKeys, failures := s.pk.failures, isoRx := s.pk.isoRx, isoTx := s.pk.isoTx, asUntil := s.pk.asUntil,
      canIn := s.pk.canIn } }

/-- What the Line keeps: the modules that joined in this power cycle (R170, R190), the growth of the time error (R197), and that the
module asks a neighbour to remove a retirement entry (R202). The ports are out of service. -/
def lineDown (s : State) : State :=
  { s with line := {
      east := { asking := s.line.east.asking }, west := { asking := s.line.west.asking },
      terrGrown := s.line.terrGrown, closedCycle := s.line.closedCycle,
      members := s.line.members.map (fun m => { m with silent := 0 }), everJoined := s.line.everJoined,
      startCycle := s.line.startCycle, masterUid := s.line.masterUid, lineSetId := s.line.lineSetId } }

/-- The lateral shift of the guidance in force, 0.1 mm (R528). -/
def guideShift (s : State) : Int :=
  match s.nav.guide with
  | none => 0
  | some g => g.shift * 10

/-- What satellite navigation keeps: the stored delay and guidance, with the target path at its SHIFT, the time state's record, and the
ephemerides of a hot start (R490, R500, R511, R513, R524, R526, R528). -/
def navDown (s : State) : State :=
  { s with nav := {
      ppsStored := s.nav.ppsStored, ppsBefore := s.nav.ppsStored, guide := s.nav.guide, shiftNow := guideShift s,
      lastDisciplined := s.nav.lastDisciplined, lastValid := s.nav.lastValid, errAcc := s.nav.errAcc, errFrom := s.nav.errFrom,
      good := 0, aiding := s.nav.aiding, orbits := s.nav.orbits, knownAt := s.nav.knownAt, sysOffset := s.nav.sysOffset } }

/-- The Yard die goes out of service (R47, R665, R740, R829, R831). Engaged steering is released. The restart notice of a planned one
crosses while the Crossover is usable (R40, R50). -/
def yardDown (planned : Bool) (s : State) : State :=
  if !powered s then s
  else
    let s := logRestart 1 planned (if s.die.yardUp then releaseSteer 11 s else s)
    let s := stopDma (yardTakesSet s)
    let s := modDie (fun d => { d with
      yardUp := false, yardRestartAt := some s.now, planned := planned, xoReadyAt := none,
      plannedUntil := if planned && d.xoUp then some (s.now + tPlannedGrace) else none }) s
    let s := navDown (lineDown (endAllSessions s))
    let s := { s with
      eng := { s.eng with xpending := [] },
      upd := { s.upd with
        booted := setNth s.upd.booted 1 false, healthFrom := [none, none], asked := [], handover := none, handToken := none,
        handWanted := none },
      sets := { s.sets with throw := none, okFrom := [], token := none },
      fus := { hmapInForce := s.fus.hmapInForce },
      fn := { copies := s.fn.copies },
      steer := none,
      lvl := { s.lvl with raising := none } }
    (resetBlock yardVolatile yardKeep s).put F.PWR_LEVEL_STEPPING 0

/-- tPLANNED_GRACE has passed without the Crossover: each loop in RUN takes its loss action (R50), which the Signal firmware does. -/
def plannedEnd (s : State) : State :=
  match s.die.plannedUntil with
  | none => s
  | some e =>
    if s.now < e || s.die.xoUp || !s.die.sigUp then s
    else foldOver (fun s n => lossDue n s) (refreshLoss (loseValues s)) (upFrom 0 32)

end Sys2Proof.Machine
end

