-- ==== Sys2Proof/Machine/Ecdsa.lean ====
section
/-!
DEFINITION. ECDSA verification over the curve P-256, as FIPS 186-4 specifies it (R743).
-/

namespace Sys2Proof.Machine

/-- The field prime, the order, the coefficient b and the base point of P-256. -/
def p256 : Nat := 0xFFFFFFFF00000001000000000000000000000000FFFFFFFFFFFFFFFFFFFFFFFF
def n256 : Nat := 0xFFFFFFFF00000000FFFFFFFFFFFFFFFFBCE6FAADA7179E84F3B9CAC2FC632551
def b256 : Nat := 0x5AC635D8AA3A93E7B3EBBD55769886BC651D06B0CC53B0F63BCE3C3E27D2604B
def g256x : Nat := 0x6B17D1F2E12C4247F8BCE6E563A440F277037D812DEB33A0F4A13945D898C296
def g256y : Nat := 0x4FE342E2FE1A7F9B8EE7EB4A7C0F9E162BCE33576B315ECECBB6406837BF51F5

/-- b ^ e modulo m, over so many bits of e. -/
def powMod (m : Nat) : Nat → Nat → Nat → Nat
  | 0, _, _ => 1 % m
  | bits + 1, b, e =>
    let h := powMod m bits (b * b % m) (e / 2)
    if e % 2 = 1 then h * b % m else h

/-- The inverse modulo a prime. -/
def invMod (m a : Nat) : Nat := powMod m 256 (a % m) (m - 2)

/-- A point in Jacobian coordinates; Z = 0 for the point at infinity. -/
structure Jac where
  x : Nat
  y : Nat
  z : Nat
  deriving DecidableEq, Repr

/-- The difference modulo the field prime. -/
def subP (a b : Nat) : Nat := (a + p256 - b) % p256

/-- Twice a point. -/
def jacDouble (a : Jac) : Jac :=
  let zz := a.z * a.z % p256
  let yy := a.y * a.y % p256
  let s := 4 * a.x * yy % p256
  let m := 3 * subP a.x zz * (a.x + zz) % p256
  let x := subP (m * m % p256) (2 * s % p256)
  { x := x, y := subP (m * subP s x % p256) (8 * yy * yy % p256), z := 2 * a.y * a.z % p256 }

/-- The sum of two points. -/
def jacAdd (a b : Jac) : Jac :=
  if a.z = 0 then b
  else if b.z = 0 then a
  else
    let az := a.z * a.z % p256
    let bz := b.z * b.z % p256
    let u1 := a.x * bz % p256
    let u2 := b.x * az % p256
    let s1 := a.y * bz * b.z % p256
    let s2 := b.y * az * a.z % p256
    if u1 = u2 then (if s1 = s2 then jacDouble a else { x := 1, y := 1, z := 0 })
    else
      let h := subP u2 u1
      let r := subP s2 s1
      let hh := h * h % p256
      let hhh := h * hh % p256
      let v := u1 * hh % p256
      let x := subP (subP (r * r % p256) hhh) (2 * v % p256)
      { x := x, y := subP (r * subP v x % p256) (s1 * hhh % p256), z := h * a.z * b.z % p256 }

/-- The points u1 · G + u2 · Q, over so many bits, from the highest down (the bits come as lists). -/
def jacCombine (g q gq : Jac) : List (Nat × Nat) → Jac → Jac
  | [], acc => acc
  | (i, j) :: l, acc =>
    let d := jacDouble acc
    jacCombine g q gq l
      (if i = 1 then (if j = 1 then jacAdd d gq else jacAdd d g) else if j = 1 then jacAdd d q else d)

/-- The bits of two numbers from bit n − 1 down. -/
def bitPairs (u v : Nat) : Nat → List (Nat × Nat)
  | 0 => []
  | n + 1 => (u / 2 ^ n % 2, v / 2 ^ n % 2) :: bitPairs u v n

/-- The point lies on the curve. -/
def onCurve (x y : Nat) : Bool :=
  decide (x < p256) && decide (y < p256) && y * y % p256 == (x * x * x + (p256 - 3) * x + b256) % p256

/-- The signature (r, s) of a digest verifies under the public key (x, y). -/
def ecdsaGood (key : Nat × Nat) (digest r s : Nat) : Bool :=
  if r = 0 ∨ n256 ≤ r ∨ s = 0 ∨ n256 ≤ s ∨ onCurve key.1 key.2 = false then false
  else
    let w := invMod n256 s
    let g : Jac := { x := g256x, y := g256y, z := 1 }
    let q : Jac := { x := key.1, y := key.2, z := 1 }
    let p := jacCombine g q (jacAdd g q) (bitPairs (digest % n256 * w % n256) (r * w % n256) 256) { x := 1, y := 1, z := 0 }
    if p.z = 0 then false
    else
      let zi := invMod p256 p.z
      p.x * (zi * zi % p256) % p256 % n256 == r

end Sys2Proof.Machine
end

