-- ==== Sys2Proof/Machine/Update.lean ====
section
/-!
DEFINITION. *Firmware Update and Security*: images and slots, the boot decision, download and verification, activation,
health, confirmation and fallback of one module (R741–R763).
-/

namespace Sys2Proof.Machine

/-! ### Images and slots (R741–R746) -/

/-- Slot k (0 A, 1 B) of die d (0 Signal, 1 Yard). -/
def imageSlot (s : State) (d k : Nat) : ImageSlot := nth s.upd.slots (2 * d + k) {}

/-- The part changed. -/
def modUpd (f : UpdatePart → UpdatePart) (s : State) : State := { s with upd := f s.upd }

/-- The state of a slot (R746). -/
def slotFld (d k : Nat) : Fld := if k = 0 then F.UPD_SLOT_STATE_A d else F.UPD_SLOT_STATE_B d
def slotState (s : State) (d k : Nat) : Nat := s.get (slotFld d k)
def setSlotState (d k v : Nat) (s : State) : State := s.put (slotFld d k) v

/-- Slot states. -/
def uEmpty : Nat := 0
def uLoading : Nat := 1
def uLoaded : Nat := 2
def uVerifying : Nat := 3
def uVerified : Nat := 4
def uRunning : Nat := 5
def uFormer : Nat := 6

/-- Fields of an image header (R742). -/
def imDie (h : Bytes) : Nat := fieldAt h 3 1
def imKey (h : Bytes) : Nat := fieldAt h 6 1
def imRevoke (h : Bytes) : Bool := bitAt (fieldAt h 7 1) 0
def imVersion (h : Bytes) : Nat := fieldAt h 8 4
def imLineRev (h : Bytes) : Nat := fieldAt h 12 4
def imCfgFmt (h : Bytes) : Nat := fieldAt h 16 4
def imStoreFmt (h : Bytes) : Nat := fieldAt h 20 1
def imStoreOldest (h : Bytes) : Nat := fieldAt h 21 1
def imRollback (h : Bytes) : Nat := fieldAt h 22 1
def imBodyLen (h : Bytes) : Nat := fieldAt h 24 4

/-- Bytes of a slot of a die, its header included (R741). -/
def slotSize (d : Nat) : Nat := if d = 0 then 8388608 else 536870912

/-- ACTIVE and TRIAL of a die (R747), and the target slot (R750). -/
def activeSlot (s : State) (d : Nat) : Nat := s.get (F.UPD_SLOT_ACTIVE d)
def trialSlot (s : State) (d : Nat) : Option Nat :=
  if s.get (F.UPD_SLOT_TRIAL d) = 1 then some 0 else if s.get (F.UPD_SLOT_TRIAL d) = 2 then some 1 else none
def targetSlot (s : State) (d : Nat) : Nat := 1 - activeSlot s d

/-- The anti-rollback counter of a die (R745), and whether a key slot is revoked (R744). -/
def rollbackFld (d : Nat) : Fld := if d = 0 then F.UPD_SECURITY_SIG_RB else F.UPD_SECURITY_YARD_RB
def keyRevoked (s : State) (k : Nat) : Bool := s.bit F.UPD_SECURITY_REVOKED k

/-- VERSION and ROLLBACK of a slot in its register (R779). -/
def showVersion (d k version rollback : Nat) (s : State) : State :=
  (s.put (F.UPD_VER_VERSION (2 * d + k)) version).put (F.UPD_VER_ROLLBACK (2 * d + k)) rollback

/-- A slot gets new content and a state. -/
def setSlot (d k st : Nat) (x : ImageSlot) (s : State) : State :=
  let s := modUpd (fun u => { u with slots := setNth u.slots (2 * d + k) x }) (setSlotState d k st s)
  showVersion d k (imVersion x.header) (imRollback x.header) s

/-- A slot becomes EMPTY. -/
def emptySlot (d k : Nat) (s : State) : State := setSlot d k uEmpty {} s

/-- The body of an image as held. -/
def imageBody (x : ImageSlot) : Bytes := walkBytes 0xFF#8 0 (imBodyLen x.header) x.body

/-- The first body offset not yet written, or BODY_LEN (R750). -/
def firstMissing (x : ImageSlot) : Nat :=
  match x.written with
  | [] => 0
  | (a, b) :: _ => if a = 0 then min b (imBodyLen x.header) else 0

/-- A run of bytes joins the written ones. -/
def addRun (a b : Nat) : List (Nat × Nat) → List (Nat × Nat)
  | [] => [(a, b)]
  | (c, d) :: l => if b < c then (a, b) :: (c, d) :: l else if d < a then (c, d) :: addRun a b l else addRun (min a c) (max b d) l

/-- The signature of a header verifies, its key is not revoked, and the body has the digest it names (R743). -/
def imageSigned (s : State) (x : ImageSlot) : Bool :=
  let h := x.header
  h.length == 128 && decide (imKey h < 4) && !keyRevoked s (imKey h) && firstMissing x == imBodyLen h &&
    ecdsaGood (nth s.upd.keys (imKey h) (0, 0)) (beNat (sha256 (h.take 64))) (fieldAt h 64 32) (fieldAt h 96 32) &&
    sha256 (imageBody x) == (h.drop 32).take 32

/-- ROLLBACK is not below the counter (R745). -/
def rollbackOk (s : State) (d : Nat) (h : Bytes) : Bool := decide (s.get (rollbackFld d) ≤ imRollback h)

/-- valid() of R748: R743 and R745 in full. -/
def imageValid (s : State) (d k : Nat) : Bool :=
  let x := imageSlot s d k
  imageSigned s x && rollbackOk s d x.header && imDie x.header == d

/-- The header of the image that a die runs or last ran. -/
def ranHeader (s : State) (d : Nat) : Bytes :=
  match nth s.upd.ran d none with
  | none => []
  | some k => (imageSlot s d k).header

/-- A container format is accepted under a CFG_FMT (R256). -/
def formatAccepted (cfgFmt minor major : Nat) : Bool :=
  decide (bitsAt cfgFmt 16 8 ≤ major) && decide (major ≤ bitsAt cfgFmt 8 8) &&
    (major != bitsAt cfgFmt 8 8 || decide (minor ≤ bitsAt cfgFmt 0 8))

/-- The running container is accepted under a CFG_FMT. -/
def runningAccepted (s : State) (cfgFmt : Nat) : Bool :=
  match s.sets.running with
  | none => true
  | some c => formatAccepted cfgFmt (cField c 2 1) (cField c 3 1)

/-! ### Download and verification (R750–R753) -/

/-- The result of UPDATE_VERIFY. -/
def verifyResult (s : State) (d : Nat) : Bytes :=
  leBytes 1 (slotState s d (targetSlot s d)) ++ leBytes 3 0 ++ leBytes 4 (firstMissing (imageSlot s d (targetSlot s d)))

/-- The requests that wait for the verification of a die's slot complete. -/
def verifyAnswer (d status : Nat) (s : State) : State :=
  let r := verifyResult s d
  let s := foldOver (fun s w => completeWaiting w (joinNum s) status 0 r s) s (s.pk.waiting.filter (fun w => w.job == .image d))
  completeOwn 0x0C02 (fun j => j == .image d) status 0 r s

/-- UPDATE_BEGIN (R751). DESIGN CHOICE: a KEY_SLOT beyond the four of the OTP is answered as a revoked one (log entry 196). DESIGN CHOICE: a verification that it cuts short is answered as R753 answers for a slot that is LOADING
(log entry 188). -/
def runUpdateBegin (p : Request) (s : State) : Answer :=
  let d := fieldAt p.params 0 1
  let h := (p.params.drop 4).take 128
  let len := imBodyLen h
  if d > 1 ∨ fieldAt h 0 2 ≠ 0x5A49 ∨ fieldAt h 2 1 ≠ 1 ∨ fieldAt h 4 2 ≠ 0x6401 ∨ imDie h ≠ d ∨ len = 0 ∨ slotSize d < len + 128 then
    refuse s St.badParam
  else if (trialSlot s d).isSome then refuse s St.slotState
  else if imKey h > 3 ∨ keyRevoked s (imKey h) = true then refuse s St.imageSignature
  else if !rollbackOk s d h then refuse s St.imageRollback
  else
    let k := targetSlot s d
    let st := slotState s d k
    if 1 ≤ st ∧ st ≤ 4 ∧ (imageSlot s d k).header = h then ok s []
    else
      let s := (setSlot d k uLoading { header := h } s).put F.UPD_PROGRESS_FIRST_MISSING 0
      ok (if st = uVerifying then verifyAnswer d St.slotState s else s) []

/-- UPDATE_CHUNK (R752). -/
def runUpdateChunk (p : Request) (s : State) : Answer :=
  let d := fieldAt p.params 0 1
  let off := fieldAt p.params 4 4
  let b := p.params.drop 8
  if d > 1 then refuse s St.badParam
  else
    let k := targetSlot s d
    let x := imageSlot s d k
    if slotState s d k ≠ uLoading then refuse s St.slotState
    else if off + b.length > imBodyLen x.header then refuse s St.badParam
    else
      let c := cWrite { total := imBodyLen x.header, fill := 0xFF#8, data := x.body } off b
      let x := { x with body := c.data, written := addRun off (off + b.length) x.written }
      let all := firstMissing x == imBodyLen x.header
      ok ((setSlot d k (if all then uLoaded else uLoading) x s).put F.UPD_PROGRESS_FIRST_MISSING (firstMissing x)) []

/-- PARAM_LEN of UPDATE_CHUNK: 1–1,392 bytes of body. -/
def lenUpdateChunk (ps : Bytes) : Bool := decide (9 ≤ ps.length) && decide (ps.length ≤ 1400)

/-- UPDATE_VERIFY, the request (R753). DESIGN CHOICE: a slot without an image names no VERSION (BAD_PARAM), and the image on trial is not
verified again (SLOT_STATE; log entry 196). -/
def runUpdateVerify (p : Request) (s : State) : Answer :=
  let d := fieldAt p.params 0 1
  let k := targetSlot s d
  let st := slotState s d k
  let s' := s.put F.UPD_PROGRESS_FIRST_MISSING (firstMissing (imageSlot s d k))
  if d > 1 ∨ st = uEmpty ∨ fieldAt p.params 4 4 ≠ imVersion (imageSlot s d k).header then refuse s St.badParam
  else if st = uVerified then ok s' (verifyResult s d)
  else if st = uLoading ∨ st = uRunning then { st := s', status := St.slotState, result := verifyResult s d }
  else { st := setSlotState d k uVerifying s', status := St.queued, job := some (.image d) }

/-- The verification of the target slot of a die is done (R753). -/
def verifyDone (d : Nat) (s : State) : State :=
  let k := targetSlot s d
  let x := imageSlot s d k
  if slotState s d k ≠ uVerifying ∨ s.die.sigUp = false then s
  else
    let signed := imageSigned s x
    if signed && rollbackOk s d x.header then
      verifyAnswer d St.ok (raise0 Src.UPD_IMAGE_VERIFIED (setSlotState d k uVerified s))
    else
      let s := fault 0x68 4 0xFF d (imVersion x.header) (b2n signed) 0 (emptySlot d k s)
      verifyAnswer d (if signed then St.imageRollback else St.imageSignature) s

/-! ### Boot (R747–R749) -/

/-- A die is down and waits for its image. -/
def dieDown (s : State) (d : Nat) : Bool := if d = 0 then !s.die.sigUp else !s.die.yardUp

/-- An image starts on a die: the registers that name it (R742, R746, R268). -/
def runImage (d k : Nat) (s : State) : State :=
  let h := (imageSlot s d k).header
  let o := 1 - k
  let s := if slotState s d o = uRunning then setSlotState d o uFormer s else s
  let s := modUpd (fun u => { u with ran := setNth u.ran d (some k), booted := setNth u.booted d true }) (setSlotState d k uRunning s)
  if d = 0 then s.setReg Reg.IDR_SIG_FW (imVersion h % 16777216)
  else
    reserveSeq (((s.setReg Reg.IDR_YARD_FW (imVersion h % 16777216)).setReg Reg.IDR_LINE_REV (imLineRev h % 65536)).setReg Reg.CFG_FMT
      (imCfgFmt h % 16777216))

/-- TRIAL of a die becomes none after a trial: the slot is VERIFIED again, FALLBACK is raised and logged (R760). -/
def dropTrial (d cause : Nat) (s : State) : State :=
  match trialSlot s d with
  | none => s
  | some k =>
    let v := imVersion (imageSlot s d k).header
    let s := setSlotState d k uVerified (s.put (F.UPD_SLOT_TRIAL d) 0)
    let s := modUpd (fun u => { u with trialAt := setNth u.trialAt d none, healthFrom := setNth u.healthFrom d none }) s
    raise0 Src.UPD_FALLBACK (fault 0x6B 2 Src.UPD_FALLBACK d v cause 0 s)

/-- A planned restart of a die becomes due. -/
def wantRestart (d : Nat) (s : State) : State :=
  modUpd (fun u => { u with restartDue := u.restartDue.filter (fun x => x != d) ++ [d] }) s

/-- The other die falls back with a die whose trial came from the same activation (R760). -/
def dropTogether (d cause : Nat) (s : State) : State :=
  let o := 1 - d
  let s := modUpd (fun u => { u with yardNext := false }) s
  if (trialSlot s o).isSome && nth s.upd.activatedAt o 0 == nth s.upd.activatedAt d 0 then wantRestart o (dropTrial o cause s) else s

/-- A die that runs a trial image falls back (R759, R760): its restart is due. -/
def fallBack (d cause : Nat) (s : State) : State :=
  if (trialSlot s d).isNone then s else dropTogether d cause (wantRestart d (dropTrial d cause s))

/-- The image of a trial starts: TRIES counts it, and its first start is reported (R748, R754). -/
def runTrial (d k : Nat) (s : State) : State :=
  let first := s.get (F.UPD_SLOT_TRIES d) == 0
  let s := runImage d k (s.put (F.UPD_SLOT_TRIES d) (s.get (F.UPD_SLOT_TRIES d) + 1))
  if first then
    let s := modUpd (fun u => { u with trialAt := setNth u.trialAt d (some s.now) }) s
    raise0 Src.UPD_IMAGE_ACTIVATED (fault 0x69 0 Src.UPD_IMAGE_ACTIVATED d (imVersion (imageSlot s d k).header) k 0 s)
  else s

/-- The boot decision of R748 without a trial. -/
def bootActive (d : Nat) (s : State) : State :=
  let a := activeSlot s d
  let o := 1 - a
  if imageValid s d a then runImage d a s
  else if imageValid s d o && slotState s d o == uFormer then runImage d o (s.put (F.UPD_SLOT_ACTIVE d) o)
  else modUpd (fun u => { u with ran := setNth u.ran d none, booted := setNth u.booted d true }) s

/-- The boot decision of R748, once at each start of a die. -/
def boot (d : Nat) (s : State) : State :=
  if d > 1 ∨ nth s.upd.booted d true = true ∨ dieDown s d = false ∨ powered s = false then s
  else
    match trialSlot s d with
    | none => bootActive d s
    | some k =>
      let tries := s.get (F.UPD_SLOT_TRIES d)
      if tries ≥ 3 ∨ imageValid s d k = false then
        bootActive d (dropTogether d (if tries ≥ 3 then 2 else 4) (dropTrial d (if tries ≥ 3 then 2 else 4) s))
      else runTrial d k s

/-- The die has an image to run (R749). -/
def hasImage (s : State) (d : Nat) : Bool := (nth s.upd.ran d none).isSome

/-- The restarts that are due are made, each as a planned one (R754, R760). -/
def settle (s : State) : State :=
  let due_ := s.upd.restartDue
  let s := modUpd (fun u => { u with restartDue := [] }) s
  let s := if due_.contains 0 then signalDown true s else s
  if due_.contains 1 then yardDown true s else s

/-! ### Activation of one module (R754, R755, R763) -/

/-- The target slot of a die holds a VERIFIED image of a version. -/
def hasVerified (s : State) (d version : Nat) : Bool :=
  slotState s d (targetSlot s d) == uVerified && imVersion (imageSlot s d (targetSlot s d)).header == version

/-- R763 for the image in a slot. -/
def formatsOk (s : State) (d k : Nat) : Bool :=
  let h := (imageSlot s d k).header
  decide (imStoreOldest h ≤ imStoreFmt (imageSlot s d (activeSlot s d)).header) && runningAccepted s (imCfgFmt h)

/-- A die needs activation for a version, and can have it. -/
def canActivate (s : State) (d version : Nat) : Bool :=
  (trialSlot s d).isNone && hasVerified s d version && formatsOk s d (targetSlot s d) &&
    rollbackOk s d (imageSlot s d (targetSlot s d)).header

/-- Activation of a die: the boot record takes the target slot as trial in one write, and a planned restart is due. -/
def activateDie (d : Nat) (s : State) : State :=
  let s := ((s.put (F.UPD_SLOT_TRIAL d) (targetSlot s d + 1)).put (F.UPD_SLOT_TRIES d) 0).put (F.UPD_SLOT_HEALTHY d) 0
  wantRestart d s

/-- A module activates its target slots of two versions: the Signal die first, the Yard die once the Signal die runs its
trial image (R754, R755). -/
def activateModule (sig yard : Nat) (s : State) : State :=
  let doSig := canActivate s 0 sig
  let doYard := canActivate s 1 yard
  let at_ := (if doSig then s.now else nth s.upd.activatedAt 0 0) :: [if doYard then s.now else nth s.upd.activatedAt 1 0]
  let s := modUpd (fun u => { u with activatedAt := at_ }) s
  if doSig then modUpd (fun u => { u with yardNext := doYard }) (activateDie 0 s)
  else if doYard then activateDie 1 s
  else s

/-- The Yard die follows the Signal die's trial (R755). -/
def activateYardNext (s : State) : State :=
  if s.upd.yardNext && s.die.sigUp && (trialSlot s 0).isSome && nth s.upd.ran 0 none == trialSlot s 0 then
    activateDie 1 (modUpd (fun u => { u with yardNext := false }) s)
  else s

/-! ### Health, confirmation, fallback (R756–R760) -/

/-- The items of R756 for the trial image of a die. DEDUCED: a loop in RUN has resumed once it is in no loss action (log entry
197). -/
def healthItems (s : State) (d : Nat) : Bool :=
  s.die.sigUp && s.die.yardUp && s.die.xoUp &&
    runningAccepted s (imCfgFmt (ranHeader s d)) &&
    (upFrom 0 32).all (fun n => loopState s n != lRun || s.get (F.CLE_LOOP_STATUS_LOSS n) == 0) &&
    (s.sets.running.isNone || (s.flag F.LIN_STATUS_IN_TIMETABLE && s.flag F.LIN_STATUS_SYNCED)) &&
    (!((isTerminus s || isRelief s) && s.flag F.GNS_CFG_EN) || (timeValid s && decide (0 < s.get F.GNS_STATUS_CHANNELS))) &&
    (!isRelief s || s.flag F.LIN_STATUS_MIRROR_OK)

/-- Since when the items have held is kept, for each die that runs a trial image. They are looked at at each cycle and where the
health is judged; a restart of a die and a loss of the Crossover end the time at once (log entry 189). -/
def noteHealth (s : State) : State :=
  foldOver (fun s d =>
    if (trialSlot s d).isNone then s
    else
      match nth s.upd.healthFrom d none, healthItems s d with
      | none, true => modUpd (fun u => { u with healthFrom := setNth u.healthFrom d (some s.now) }) s
      | some _, false => modUpd (fun u => { u with healthFrom := setNth u.healthFrom d none }) s
      | _, _ => s) s [0, 1]

/-- tSOAK and tCONFIRM. -/
def tSoak : Nat := 3 * sec
def tConfirm : Nat := 120 * sec

/-- A trial image has been healthy for tSOAK (R756). -/
def trialHealthy (s : State) : State :=
  let s := noteHealth s
  foldOver (fun s d =>
    match nth s.upd.healthFrom d none with
    | none => s
    | some t =>
      if (trialSlot s d).isSome ∧ s.get (F.UPD_SLOT_HEALTHY d) = 0 ∧ t + tSoak ≤ s.now then
        raise0 Src.UPD_IMAGE_HEALTHY (s.put (F.UPD_SLOT_HEALTHY d) 1)
      else s) s [0, 1]

/-- HEALTHY is still 0 tCONFIRM after the first start of the trial image (R759). -/
def confirmTimeout (d : Nat) (s : State) : State :=
  match nth s.upd.trialAt d none with
  | none => s
  | some t => if powered s = true ∧ s.get (F.UPD_SLOT_HEALTHY d) = 0 ∧ t + tConfirm ≤ s.now then fallBack d 0 s else s

/-- The revoke bits below a key slot are burned (R744, R757). -/
def revokeBelow (k : Nat) (s : State) : State :=
  let was := s.get F.UPD_SECURITY_REVOKED
  let new := Nat.lor was (2 ^ k - 1)
  if new = was then s else fault 0x6D 0 0xFF (new - was) 0 0 0 (s.put F.UPD_SECURITY_REVOKED new)

/-- Confirmation of the trial image of a die, in the order of R757. -/
def confirmDie (d : Nat) (s : State) : State :=
  match trialSlot s d with
  | none => s
  | some k =>
    let h := (imageSlot s d k).header
    let s := s.put (rollbackFld d) (imRollback h)
    let s := if imRevoke h then revokeBelow (imKey h) s else s
    let was := activeSlot s d
    let s := setSlotState d was uFormer ((s.put (F.UPD_SLOT_ACTIVE d) k).put (F.UPD_SLOT_TRIAL d) 0)
    let s := modUpd (fun u => { u with trialAt := setNth u.trialAt d none, healthFrom := setNth u.healthFrom d none }) s
    fault 0x6A 0 Src.UPD_IMAGE_CONFIRMED d (imVersion h) (imRollback h) 0 (raise0 Src.UPD_IMAGE_CONFIRMED s)

/-- The version that a die runs: that of its trial, else of its ACTIVE slot. -/
def runningVersion (s : State) (d : Nat) : Nat := imVersion (imageSlot s d ((trialSlot s d).getD (activeSlot s d))).header

/-- What forbids the confirmation of a die under a version (R758). DESIGN CHOICE: a version that the die does not run is BAD_PARAM (log
entry 141). -/
def confirmRefusal (s : State) (d version : Nat) : Option Nat :=
  if runningVersion s d ≠ version then some St.badParam
  else if (trialSlot s d).isSome && !s.flag (F.UPD_SLOT_HEALTHY d) then some St.slotState
  else none

/-- UPDATE_CONFIRM (R757, R758, R760). DESIGN CHOICE: both dies are confirmed or neither, and ACTION 2 does not look at the versions
(log entry 141). -/
def confirmModule (action sig yard : Nat) (s : State) : State × Nat :=
  if action = 1 then
    match confirmRefusal s 0 sig, confirmRefusal s 1 yard with
    | none, none => (confirmDie 1 (confirmDie 0 s), St.ok)
    | some st, _ => (s, st)
    | none, some st => (s, st)
  else if action = 2 then (fallBack 1 3 (fallBack 0 3 s), St.ok)
  else (s, St.badParam)

/-- UPDATE_CONFIRM. -/
def runUpdateConfirm (p : Request) (s : State) : Answer :=
  let (s, st) := confirmModule (fieldAt p.params 0 1) (fieldAt p.params 4 4) (fieldAt p.params 8 4) s
  { st := s, status := st }

/-! ### Power (R761) -/

/-- What is found at power-up of a slot that a power failure left (R761). -/
def slotsAtPowerUp (s : State) : State :=
  foldOver (fun s (e : Nat × Nat) =>
    let d := e.1
    let k := e.2
    if slotState s d k = uLoading then fault 0x6E 1 0xFF d k 0 0 (emptySlot d k s)
    else s) s [(0, 0), (0, 1), (1, 0), (1, 1)]

end Sys2Proof.Machine
end

