-- ==== Sys2Proof/Machine/Runs.lean ====
section
/-!
DEFINITION. Line-wide activation (R768–R776): UPDATE_ACTIVATE, the steps of a run, its rollback, and the handover that it
asks for (R765–R767).
-/

namespace Sys2Proof.Machine

/-- The run record changed. -/
def modRun (f : RunRecord → RunRecord) (s : State) : State := modUpd (fun u => { u with run := u.run.map f }) s

/-- UPD_RUN, UPD_RUN_SIG and UPD_RUN_YARD follow the run record (R780). -/
def showRun (s : State) : State :=
  match s.upd.run with
  | none =>
    ((((s.put F.UPD_RUN_STEP 0).put F.UPD_RUN_CURRENT 0).put F.UPD_RUN_DONE 0).setReg Reg.UPD_RUN_SIG 0).setReg Reg.UPD_RUN_YARD 0
  | some r =>
    let cur := match r.entries.find? (fun e => e.since.isSome && !e.healthy && e.outcome.isNone) with
      | none => 0
      | some e => e.num
    let done := (r.entries.filter (fun e => e.healthy && e.since.isSome)).length
    ((((s.put F.UPD_RUN_STEP r.step).put F.UPD_RUN_CURRENT cur).put F.UPD_RUN_DONE done).setReg Reg.UPD_RUN_SIG r.sig).setReg
      Reg.UPD_RUN_YARD r.yard

/-- The UPD registers that are computed: the run registers read 0 on a module with neither the terminus role nor a run
record (R780). -/
def updOverlay (s : State) (a : Nat) : Option Nat :=
  if (a = Reg.UPD_RUN ∨ a = Reg.UPD_RUN_SIG ∨ a = Reg.UPD_RUN_YARD) ∧ isTerminus s = false ∧ s.upd.run.isNone = true then some 0
  else none

/-- The 48 bytes of the UPD registers (R781). -/
def updateStatus (s : State) : Bytes :=
  (upFrom 0 12).flatMap (fun i => leBytes 4 ((updOverlay s (Reg.UPD_SLOT 0 + 4 * i)).getD (s.reg (Reg.UPD_SLOT 0 + 4 * i))))

/-- UPDATE_STATUS. -/
def runUpdateStatus (_ : Request) (s : State) : Answer := ok s (updateStatus s)

/-- PARKED_DECLARE (R772). -/
def runParkedDeclare (p : Request) (s : State) : Answer :=
  let v := fieldAt p.params 0 1
  if v > 1 then refuse s St.badParam else ok (s.put F.UPD_RUN_PARKED v) []

/-! ### Reports -/

/-- The Yard image of a version has a LINE_REV with another MAJOR than the Line (R769, order 6). -/
def majorChange (s : State) (yard : Nat) : Bool :=
  hasVerified s 1 yard &&
    bitsAt (imLineRev (imageSlot s 1 (targetSlot s 1)).header) 8 8 != s.get F.IDR_LINE_REV_MAJOR

/-- What this module reports of itself. -/
def ownReport (s : State) : RunReport :=
  { num := joinNum s, status := updateStatus s, hold := s.get F.LSW_CFG_HOLD,
    formatSig := formatsOk s 0 (targetSlot s 0), formatYard := formatsOk s 1 (targetSlot s 1), major := majorChange s (imVersion (imageSlot s 1 (targetSlot s 1)).header) }

/-- The boot record word of a die in a report, its running slot and the version it runs. -/
def repWord (r : RunReport) (d : Nat) : Nat := fieldAt r.status (4 * d) 4
def repTrial (r : RunReport) (d : Nat) : Nat := bitsAt (repWord r d) 1 2
def repHealthy (r : RunReport) (d : Nat) : Bool := bitAt (repWord r d) 5
def repSlot (r : RunReport) (d : Nat) : Nat := if repTrial r d = 0 then bitsAt (repWord r d) 0 1 else repTrial r d - 1
def repVersion (r : RunReport) (d k : Nat) : Nat := bitsAt (fieldAt r.status (8 + 8 * d + 4 * k) 4) 0 24

/-- A die of the report runs a version. -/
def repRuns (r : RunReport) (d v : Nat) : Bool := repVersion r d (repSlot r d) == v % 16777216

/-- The target slot of a die of the report is VERIFIED under a version. -/
def repVerified (r : RunReport) (d v : Nat) : Bool :=
  let k := 1 - bitsAt (repWord r d) 0 1
  bitsAt (repWord r d) (8 + 3 * k) 3 == uVerified && repVersion r d k == v % 16777216

/-- Both dies of the report run the versions. -/
def repAt (r : RunReport) (sig yard : Nat) : Bool := repRuns r 0 sig && repRuns r 1 yard

/-- Every trial of the report is HEALTHY. -/
def repWell (r : RunReport) : Bool := (repTrial r 0 == 0 || repHealthy r 0) && (repTrial r 1 == 0 || repHealthy r 1)

/-- The report shows a trial. -/
def repOnTrial (r : RunReport) : Bool := repTrial r 0 != 0 || repTrial r 1 != 0

/-- The report of a module: that of this module is its own. -/
def reportOf (l : List RunReport) (s : State) (n : Nat) : Option RunReport :=
  if n = joinNum s then some (ownReport s) else l.find? (fun r => r.num == n)

/-- The modules in the timetable with this one, in ascending join number (R768). -/
def lineModules (s : State) : List Nat :=
  (upFrom 0 64).filter (fun n => n == joinNum s || (memberPresent s n).isSome)

/-! ### The checks of R769 -/

/-- What a module lacks for its activation: 0 nothing, else the status (order 5). -/
def lacks (sig yard : Nat) (r : RunReport) : Nat :=
  let needS := !repRuns r 0 sig
  let needY := !repRuns r 1 yard
  if (needS && !repVerified r 0 sig) || (needY && !repVerified r 1 yard) || (needS && decide (r.hold < 25)) then St.slotState
  else if (needS && !r.formatSig) || (needY && !r.formatYard) then St.setFormat
  else 0

/-- The Yard image that a run activates on a module changes the MAJOR of the Line protocol (order 6). -/
def repMajor (yard : Nat) (r : RunReport) : Bool := r.major && !repRuns r 1 yard && repVerified r 1 yard

/-- The two versions that UPDATE_ACTIVATE names (R768). -/
def namedVersions (p : Request) : Nat × Nat := (fieldAt p.params 0 4, fieldAt p.params 4 4)

/-- The requests for a run of two versions complete. -/
def completeRun (v : Nat × Nat) (status : Nat) (result : Bytes) (s : State) : State :=
  foldOver (fun s w => completeWaiting w (joinNum s) status 0 result s) s
    (s.pk.waiting.filter (fun w => w.job == .run && namedVersions w.req == v))

/-- RESULT, COUNT and the entries of R773. -/
def runResult (r : RunRecord) : Bytes :=
  let l := r.entries.filterMap (fun e => e.outcome.map (fun o => (e.num, o)))
  leBytes 1 r.result ++ leBytes 1 l.length ++ leBytes 2 0 ++ l.flatMap (fun e => leBytes 1 e.1 ++ leBytes 1 e.2)

/-- The join number of the relief terminus in the timetable. -/
def reliefNum (s : State) : Option Nat := (s.line.members.find? (fun m => m.relief && m.result == 0 && !m.absent)).map (·.num)

/-- No relief terminus, and steering engaged or not parked (order 7 of R769). -/
def noReliefNow (s : State) : Bool := !reliefPresent s && (engaged s || !s.flag F.UPD_RUN_PARKED)

/-- The order of R770: relief terminus, stations by join number, terminus. -/
def runOrder (s : State) : List Nat :=
  let r := reliefNum s
  let own := joinNum s
  (match r with
    | none => []
    | some n => [n]) ++ (lineModules s).filter (fun n => n != own && some n != r) ++ [own]

/-- A run is accepted under the checks of R769, or its answer. None while a module has not reported or a throw is
pending; beside a run of other versions only orders 1 and 3 are left. DESIGN CHOICE: where modules lack different things the first of
them gives the status (log entry 195). -/
def decideRun (sig yard : Nat) (l : List RunReport) (s : State) : State :=
  let reps := (lineModules s).filterMap (reportOf l s)
  let v := (sig, yard)
  let clear := fun (s : State) => modUpd (fun u => { u with asked := u.asked.filter (fun w => w != v) }) s
  let entries := (runOrder s).map (fun n =>
    match reps.find? (fun r => r.num == n) with
    | some r => ({ num := n, outcome := if repAt r sig yard && !repOnTrial r then some 1 else none } : RunEntry)
    | none => { num := n })
  let rec_ : RunRecord :=
    { sig := sig, yard := yard, terminus := joinNum s, relief := reliefNum s, step := 0, entries := entries, handed := false, result := 0 }
  if reps.length < (lineModules s).length then s
  else if reps.all (fun r => repAt r sig yard && !repOnTrial r) then completeRun v St.ok (runResult rec_) (clear s)
  else if s.upd.run.isSome then completeRun v St.slotState [] (clear s)
  else if s.sets.throw.isSome then s
  else
    let bad := reps.filter (fun r => lacks sig yard r != 0)
    match bad with
    | b :: _ => completeRun v (lacks sig yard b) (bad.flatMap (fun r => leBytes 1 r.num)) (clear s)
    | [] =>
      if reps.any (repMajor yard) && !s.flag F.UPD_RUN_PARKED then completeRun v St.slotState [] (clear s)
      else if noReliefNow s then completeRun v St.noRelief [] (clear s)
      else showRun (modUpd (fun u => { u with run := some rec_ }) (clear s))

/-! ### Steps (R770–R775) -/

/-- An entry changed. -/
def modEntry (n : Nat) (f : RunEntry → RunEntry) (r : RunRecord) : RunRecord :=
  { r with entries := r.entries.map (fun e => if e.num = n then f e else e) }

/-- A step of R770 begins. -/
def beginStep (k : Nat) (s : State) : State :=
  match s.upd.run with
  | none => s
  | some r => if r.step = k then s else raise0 Src.UPD_RUN_STEP (modRun (fun r => { r with step := k }) s)

/-- A module is told to activate the versions of the run; this module does so itself. -/
def instructActivate (n : Nat) (s : State) : State :=
  match s.upd.run with
  | none => s
  | some r =>
    let s := modRun (modEntry n (fun e => { e with since := some s.now })) s
    if n = joinNum s then activateModule r.sig r.yard s
    else emit (.instruct n 0x0C03 (leBytes 4 r.sig ++ leBytes 4 r.yard)) s

/-- UPDATE_CONFIRM to a module of the run; this module executes it itself (R758). -/
def instructConfirm (action n : Nat) (s : State) : State :=
  match s.upd.run with
  | none => s
  | some r =>
    if n = joinNum s then (confirmModule action r.sig r.yard s).1
    else emit (.instruct n 0x0C04 (leBytes 1 action ++ leBytes 3 0 ++ leBytes 4 r.sig ++ leBytes 4 r.yard)) s

/-- A run ends with a status: its requests are answered, RUN_DONE is raised, and the record goes. -/
def endRun (status : Nat) (s : State) : State :=
  match s.upd.run with
  | none => s
  | some r =>
    showRun (modUpd (fun u => { u with run := none, handWanted := none }) (raise0 Src.UPD_RUN_DONE (completeRun (r.sig, r.yard) status (runResult r) s)))

/-- Step 5: every module activated in the run is confirmed, and the run ends (R770, R771). -/
def confirmAll (status : Nat) (s : State) : State :=
  match s.upd.run with
  | none => s
  | some r =>
    let l := r.entries.filter (fun e => e.since.isSome && e.outcome.isNone)
    let s := beginStep 5 s
    let s := foldOver (fun s (e : RunEntry) => modRun (modEntry e.num (fun e => { e with outcome := some 0 })) (instructConfirm 1 e.num s)) s l
    endRun status s

/-- The role is handed to a module before the run goes on. -/
def wantHandover (n : Nat) (s : State) : State := modUpd (fun u => { u with handWanted := some n }) s

/-- A rollback goes on (R775): the modules other than this one are rejected in reverse order; a holder activated in the run
hands the role back first; the run then ends. -/
def rollOn (s : State) : State :=
  match s.upd.run with
  | none => s
  | some r =>
    let own := joinNum s
    let todo := (r.entries.reverse).filter (fun e => e.since.isSome && e.outcome.isNone && e.num != own)
    let s := foldOver (fun s (e : RunEntry) =>
      modRun (modEntry e.num (fun e => { e with outcome := some 4 })) (instructConfirm 2 e.num s)) s todo
    let mine := r.entries.any (fun e => e.num == own && e.since.isSome && e.outcome.isNone)
    if !mine then endRun St.ok s
    else if own ≠ r.terminus ∧ (memberPresent s r.terminus).isSome = true then wantHandover r.terminus s
    else endRun St.ok (instructConfirm 2 own (modRun (modEntry own (fun e => { e with outcome := some 4 })) s))

/-- A rollback begins after a module has failed (R775). -/
def rollBack (failing : Nat) (s : State) : State :=
  match s.upd.run with
  | none => s
  | some r =>
    let s := modRun (fun r => { (modEntry failing (fun e => { e with outcome := some 3 }) r) with step := 6, result := 1 }) s
    rollOn (raise0 Src.UPD_RUN_ROLLBACK (fault 0x6C 0 Src.UPD_RUN_ROLLBACK failing r.yard r.sig 0 s))

/-- What a report says of an entry: it has shown its trial, and it is HEALTHY at the versions. -/
def absorb (r : RunRecord) (l : List RunReport) (s : State) (e : RunEntry) : RunEntry :=
  match reportOf l s e.num with
  | none => e
  | some p =>
    if e.since.isNone then e
    else { e with seen := e.seen || repOnTrial p, healthy := e.healthy || (repAt p r.sig r.yard && repWell p) }

/-- An activated module has failed: it has fallen back, or is not HEALTHY tCONFIRM after its activation (R774). -/
def entryFailed (r : RunRecord) (l : List RunReport) (s : State) (e : RunEntry) : Bool :=
  match e.since, e.outcome with
  | some t, none =>
    (match reportOf l s e.num with
      | none => false
      | some p => e.seen && !repOnTrial p && !repAt p r.sig r.yard) ||
      (!e.healthy && decide (t + tConfirm ≤ s.now))
  | _, _ => false

/-- The next module of the order begins, absent ones are skipped; without one left, the modules are confirmed (R770, R771,
R773). -/
def nextModule : Nat → State → State
  | 0, s => s
  | fuel + 1, s =>
    match s.upd.run with
    | none => s
    | some r =>
      let own := joinNum s
      match r.entries.find? (fun e => e.since.isNone && e.outcome.isNone) with
      | none => confirmAll St.ok s
      | some e =>
        let isRel := r.relief == some e.num
        if !isRel && r.relief.isSome && !r.handed && own == r.terminus && reliefPresent s then
          match r.relief with
          | none => s
          | some n => wantHandover n (beginStep 2 s)
        else if e.num ≠ own ∧ (memberPresent s e.num).isNone = true then
          nextModule fuel (modRun (modEntry e.num (fun e => { e with outcome := some 2 })) s)
        else if e.num = r.terminus then
          if noReliefNow s then confirmAll St.noRelief (modRun (fun r => { r with result := 2 }) s)
          else instructActivate e.num (beginStep 4 s)
        else instructActivate e.num (beginStep (if isRel then 1 else 3) s)

/-- Every module is activated in the same cycle, the terminus last, when the MAJOR of the Line protocol changes (R770). -/
def activateAll (s : State) : State :=
  match s.upd.run with
  | none => s
  | some r =>
    let l := (r.entries.filter (fun e => e.since.isNone && e.outcome.isNone)).map (·.num)
    let own := joinNum s
    foldOver (fun s n => instructActivate n s) (beginStep 4 s) (l.filter (fun n => n != own) ++ l.filter (fun n => n == own))

/-- A run goes on with the reports of its modules (R770, R774, R775). -/
def runStep (l : List RunReport) (s : State) : State :=
  if !isTerminus s || !s.die.yardUp || !s.die.sigUp then s
  else
    let was := s.upd.run
    let s := foldOver (fun s (v : Nat × Nat) => decideRun v.1 v.2 l s) s s.upd.asked
    match was with
    | none => s
    | some r =>
      let s := modRun (fun r => { r with entries := r.entries.map (absorb r l s) }) s
      let es := match s.upd.run with
        | none => []
        | some r => r.entries
      let s :=
        if r.step = 6 then rollOn s
        else
          match es.find? (entryFailed r l s) with
          | some e => rollBack e.num s
          | none =>
            if es.any (fun e => e.since.isSome && e.outcome.isNone && !e.healthy) || s.upd.handWanted.isSome then s
            else if r.step = 0 && ((reportOf l s (joinNum s)).any (repMajor r.yard) || l.any (repMajor r.yard)) then activateAll s
            else nextModule 70 s
      showRun s

/-- UPDATE_ACTIVATE (R116, R768, R769). A terminus alone on its Line has every report at once. DESIGN CHOICE: one that
comes before the reports are in waits for them (log entry 195). -/
def runUpdateActivate (p : Request) (s : State) : Answer :=
  let v := namedVersions p
  let wait := fun (s : State) => ({ st := s, status := St.queued, job := some .run } : Answer)
  if lineModules s = [joinNum s] ∧ repAt (ownReport s) v.1 v.2 = true ∧ repOnTrial (ownReport s) = false then
    ok s (leBytes 1 0 ++ leBytes 1 1 ++ leBytes 2 0 ++ leBytes 1 (joinNum s) ++ leBytes 1 1)
  else if s.upd.run.any (fun r => (r.sig, r.yard) == v) then wait s
  else
    wait (if s.upd.asked.contains v then s else modUpd (fun u => { u with asked := u.asked ++ [v] }) s)

/-! ### Handover (R765–R767) -/

/-- The IDR_UID of a module of the Line. -/
def uidOf (s : State) (n : Nat) : Nat :=
  match s.line.members.find? (fun m => m.num == n) with
  | none => 0
  | some m => m.uid

/-- A handover is scheduled: H lies 9 cycles ahead, behind the 8 that carry the token; never while a throw is pending or a
commit token is due (R765, R767). -/
def scheduleHandover (s : State) : State :=
  match s.upd.handWanted with
  | none => s
  | some n =>
    if !isTerminus s || s.upd.handover.isSome || s.sets.throw.isSome || (memberPresent s n).isNone then s
    else
      let h := (cycleNow s + 9) % 4294967296
      fault 0x6F 0 0xFF n h 0 0 (modUpd (fun u => { u with handover := some (h, uidOf s n) }) s)

/-- The handover token for COMMIT of a CYCLE_START of a cycle, none when none is due (R765). -/
def handoverToken (s : State) (c : Nat) : Option Bytes :=
  match s.upd.handover with
  | none => none
  | some (h, uid) =>
    let ahead := (h + 4294967296 - c) % 4294967296
    if 1 ≤ ahead ∧ ahead ≤ 8 then some (leBytes 1 2 ++ leBytes 3 0 ++ leBytes 4 h ++ leBytes 8 uid) else none

/-! ### The rows -/

/-- VERIFY_DONE (R753). -/
def execVerifyDone (t d : Nat) (s : State) : Res :=
  let s := begin_ t s
  .next (if d < 2 then verifyDone d s else s)

/-- MODULE_ACTIVATE (R754): the holder of the terminus role names two versions. -/
def execModuleActivate (t : Nat) (sig yard : BitVec 32) (s : State) : Res :=
  let s := begin_ t s
  .next (if s.die.sigUp && powered s then settle (activateModule sig.toNat yard.toNat s) else s)

/-- TRIAL_HEALTHY (R756). -/
def execTrialHealthy (t : Nat) (s : State) : Res := .next (trialHealthy (begin_ t s))

/-- CONFIRM_TIMEOUT (R759). -/
def execConfirmTimeout (t d : Nat) (s : State) : Res :=
  let s := begin_ t s
  .next (if d < 2 then settle (confirmTimeout d s) else s)

/-- RUN_STEP (R770) with the reports of the other modules. -/
def execRunStep (t : Nat) (l : List RunReport) (s : State) : Res := .next (settle (runStep l (begin_ t s)))

/-- HANDOVER_START (R765). -/
def execHandoverStart (t : Nat) (s : State) : Res := .next (scheduleHandover (begin_ t s))

end Sys2Proof.Machine
end

