-- ==== Sys2Proof/Machine/DieRows.lean ====
section
/-!
DEFINITION. Straps and roles (R3–R19, R53–R59), the rows of the two dies (R36–R54), Crossover values (R400), and the
limp map at power-up (R473).
-/

namespace Sys2Proof.Machine

/-! ### What fills the Crossover values (R400) -/

/-- A slot holds a DIRECT stream: acoustic, analogue or frequency, with MODE 0b00 (R281, R335). -/
def directStream (s : State) (i : Nat) : Bool :=
  s.get (F.FUS_STR_CFG_MODE i) == 0 && [3, 4, 5].contains (s.get (F.FUS_STR_CFG_KIND i))

/-- What CLE_XSEL_v selects now, as the 32-bit value that is sent; none where nothing is delivered (R400). A mean is rounded
under R25. -/
def crossValue (s : State) (v : Nat) : Option Int :=
  let i := s.get (F.CLE_XSEL_INDEX v)
  let sel := s.get (F.CLE_XSEL_SEL v)
  if sel = 1 then (if isTerminus s && decide (i < 48) then some (s.gets (F.SET_FN_SENT_SENT i)) else none)
  else if sel = 2 then
    (if isTerminus s && decide (i < 16) then
      let m := measureNow s i
      if m.2 = 0 then none else some (roundDiv m.1 m.2)
    else none)
  else if sel = 3 then
    match if directStream s i then (stream s i).newest else none with
    | none => none
    | some x =>
      let ch := s.get (F.CLE_XSEL_CHAN v)
      let n := x.raw.length / 17
      if n = 0 then none else some (roundDiv (((x.raw.drop (ch * n)).take n).foldl (· + ·) 0) n)
  else none

/-- Where a change of role or of set ends the delivery of Crossover values that loops use, they are lost (R400, R421). -/
def dropUndelivered (s : State) : State :=
  if !s.die.yardUp then refreshLoss s
  else
    refreshLoss { s with eng := { s.eng with
      xlost := distinct (s.eng.xlost ++ (usedEntries s 5).filter (fun v => (crossValue s v).isNone)) } }

/-! ### Roles (R4–R19, R54, R59) -/

/-- A role with its code in CUR_ROLE: 0 station, 1 relief terminus, 2 terminus, 3 none (R59). -/
def setRole (r : Role) (s : State) : State :=
  let code := match r with
    | .unlatched | .station => 0
    | .reliefClaim | .relief => 1
    | .terminusClaim | .terminus => 2
    | .stoodDown | .noRole => 3
  State.put { s with role := { s.role with role := r } } F.IDR_ROLE_CUR_ROLE code

/-- The module stands down with ROLE_CONFLICT (R14–R17): its channels go off, except as limp mode directs. DESIGN CHOICE: TAKEOVERS,
the role changes in this power cycle (R59), does not count it: a stand-down ends a claim of the join sequence and passes no role on
(log entry 155). -/
def standDown (s : State) : State :=
  let s := (setRole .stoodDown { s with role := { s.role with joined := false } }).put F.IDR_STRAP_ROLE_CONFLICT 1
  let s := (s.put F.LIN_STATUS_HOLD_OUT 4).put F.LIN_STATUS_IN_TIMETABLE 0
  channelsOff (dropUndelivered (dropDiscipline (s.put F.GNS_STATUS_TSTATE tsOff)))

/-- The module has STRAP_FAULT (R11, R13). -/
def strapFault (s : State) : State :=
  setRole .noRole ((State.put { s with role := { s.role with strapAt := none, samples := [] } } F.IDR_STRAP_STRAP_FAULT 1))

/-- The straps are latched, bits 0–1 ROLE, 2 NUM_EN and 3–8 NUM, and the role is decoded (R3–R9). -/
def latchStraps (v : Nat) (s : State) : State :=
  let code := bitsAt v 0 2
  let en := bitAt v 2
  let num := bitsAt v 3 6
  let s := { s with role := { s.role with strapAt := none, samples := [] } }
  let s := ((s.put F.IDR_STRAP_ROLE code).put F.IDR_STRAP_NUM_EN (b2n en)).put F.IDR_STRAP_NUM num
  if code = 3 then strapFault s
  else if code = 2 then setRole .terminusClaim s
  else if en && num == 0 then strapFault s
  else setRole (if code = 1 then .reliefClaim else .station) s

/-- A sample of the strap pins (R10, R11): eight that agree latch, three runs without agreement are a fault. -/
def strapSample (v : Nat) (s : State) : State :=
  if !powered s || !due s.role.strapAt s then s
  else
    let l := s.role.samples ++ [BitVec.ofNat 9 v]
    let s := { s with role := { s.role with strapAt := some (s.now + 900 * us) } }
    if l.length < 8 then { s with role := { s.role with samples := l } }
    else if l.all (fun x => x == BitVec.ofNat 9 v) then latchStraps (v % 512) s
    else if s.role.runs ≥ 2 then strapFault s
    else { s with role := { s.role with samples := [], runs := s.role.runs + 1 } }

/-- The module becomes the holder of the terminus role at power-up (R14): it takes its join number 0, its time state starts,
and its setting engine with it. -/
def becomeTerminus (s : State) : State :=
  let s := setRole .terminus { s with role := { s.role with joined := true, listenEnd := none, firstCycleStart := none } }
  let s := ((s.put F.LIN_STATUS_IN_TIMETABLE 1).put F.LIN_STATUS_SYNCED 1).put F.LIN_POS_MASTER_NUM (joinNum s)
  let s := (s.put F.LIN_POS_POS_E 0).put F.LIN_TERR_TERR 0
  startSetting (startTimeState s)

/-- A module that held the terminus role goes on as relief terminus (R54): what only a holder does ends. -/
def becomeRelief (s : State) : State :=
  let s := setRole .relief s
  let s := (s.put F.IDR_ROLE_TAKEN_OVER 1).bump F.IDR_ROLE_TAKEOVERS 1
  let s := dropDiscipline (s.put F.GNS_STATUS_TSTATE tsOff)
  dropUndelivered { s with
    pk := { s.pk with waiting := s.pk.waiting.filter (fun w => decide (13 ≤ w.req.session.toNat)) },
    sets := { s.sets with throw := none, okFrom := [] },
    line := { s.line with
      run := 0, mirrorAt := none, lastCycleStart := none, joinAnswered := false, everJoined := true, startCycle := some (cycleNow s % 4294967296) },
    fus := { s.fus with frame := none },
    upd := { s.upd with handover := none, handWanted := none, asked := [] } }

/-- The end of tMASTER_LISTEN (R14). -/
def masterListenEnd (s : State) : State :=
  if s.role.role == .terminusClaim && due s.role.listenEnd s && s.die.yardUp then
    (if s.role.heardHolder then standDown { s with role := { s.role with listenEnd := none } } else becomeTerminus s)
  else s

/-! ### Signal die -/

/-- The Signal die reclaims its outputs after a restart, with the image that its boot decision gives it (R44, R748, R755).
At power-up LIMP_MAP_LATCH starts it. -/
def outputReclaim (s : State) : State :=
  if !powered s || s.die.sigUp || s.die.sigRestartAt.isNone then s
  else
    let s := boot 0 s
    if !hasImage s 0 then s
    else
      let s := signalBack s
      settle (activateYardNext s)

/-- The Signal sections of the running set come into force at power-up (R799): registers, the level of R628, the height map of R307, and
the orders, which wait for their triggers (R262). -/
def runningInForce (s : State) : State :=
  match s.sets.running with
  | none => (s.put F.PWR_LEVEL_REQ 3).put F.CFG_STATE_RUNNING 0
  | some c =>
    let s := loadOrders (remap { s with regs := swapRegs c s.regs })
    (s.put F.PWR_LEVEL_REQ (s.get F.PWR_CFG_BOOT_LEVEL)).put F.CFG_STATE_RUNNING 1

/-- The limp map is latched at power-up once the straps are settled and the Signal image has started (R473, R477, R734,
R799); the Signal sections of the running set come into force and the Yard die is supplied. -/
def limpMapLatch (s : State) : State :=
  if !powered s || s.load.latchedMap.isSome || s.role.role == .unlatched then s
  else
    let s := boot 0 s
    let s := latchMap s
    let s := State.put { s with ev := { s.ev with sigDeadman := some s.now } } F.EVR_DEADMAN_SIG_ARMED 1
    let s := if s.clk.refDue then limpEnter .ref { s with clk := { s.clk with refDue := false } } else s
    if !hasImage s 0 then s
    else
      let s := runningInForce s
      let s := stopOrders (modDie (fun d => { d with sigUp := true, sigRestartAt := none, holdUntil := none, yardRestartAt := some s.now }) s)
      let s := { s with can := { s.can with since := deviceTime s / ms * ms, lastVals := changeSnapshot s } }
      flushFaults (refreshLoss (loseValues (refreshSinks s)))

/-! ### Yard die -/

/-- The level at which the Yard die comes up (R623, R628). -/
def levelAtReturn (s : State) : State :=
  setLevel (if s.die.planned && s.get F.PWR_LEVEL_REQ == 0 then 0 else 3) s

/-- A port at the return of the Yard die: linked where its partner is present, a ring end while it is retired or has no
link (R47, R198, R201). -/
def portReturns (east link : Bool) (s : State) : State :=
  let retired := isRetired 2 (b2n east) 0 s
  let (up, end_) := if east then (F.LIN_STATUS_E_UP, F.LIN_STATUS_E_END) else (F.LIN_STATUS_W_UP, F.LIN_STATUS_W_END)
  let mark : PortState → PortState := fun p => { p with linked := link }
  let l := s.line
  let s : State := { s with line := if east then { l with east := mark l.east } else { l with west := mark l.west } }
  (s.put up (b2n link)).put end_ (b2n (retired || !link))

/-- The Yard work of the role goes on after a restart (R53, R54, R377, R500, R563, R584): a terminus whose role has been
taken over meanwhile joins as relief terminus. A claim of the role listens for tMASTER_LISTEN, at power-up and at wake once tLINK_UP has
passed (R14, R47). DESIGN CHOICE: that tLINK_UP is its typical 60 ms (log entry 203). -/
def resumeRole (holder : Bool) (s : State) : State :=
  if isTerminus s then
    if holder then becomeRelief s
    else
      let s := ((s.put F.LIN_STATUS_IN_TIMETABLE 1).put F.LIN_STATUS_SYNCED 1).put F.LIN_POS_MASTER_NUM (joinNum s)
      let s := (s.put F.LIN_POS_POS_E 0).put F.LIN_TERR_TERR 0
      let s := resumeSetting (startTimeState s)
      let gap := s.yld.openId.isSome
      let s := restartConsist (restartYield s)
      if gap then raise0 Src.YLD_YIELD_GAP s else s
  else if s.role.role == .terminusClaim then
    let train := if s.die.yardCold then 60 * ms else 0
    { s with role := { s.role with listenEnd := some (s.now + train + 10 * ms), heardHolder := false } }
  else s

/-- The functions of a registry in force stand at their reset values when the Yard die comes up (R357, R389); those of a terminus go on
with what its Signal die holds (R377). -/
def functionsAtReturn (holder : Bool) (s : State) : State :=
  if (isTerminus s && !holder) || s.sets.running.isNone then s else startSetting s

/-- The Yard die is back in service with the image that its boot decision gives it (R47, R735, R736, R748). -/
def yardBack (linkE linkW holder : Bool) (s : State) : State :=
  if !powered s || s.die.yardUp || s.die.yardRestartAt.isNone then s
  else
    let s := boot 1 s
    if !hasImage s 1 then s
    else
      let s := levelAtReturn s
      let s := modDie (fun d => { d with yardUp := true, yardRestartAt := none, planned := false }) s
      let s := remap { s with fus := { s.fus with since := s.now } }
      let s := portReturns false linkW (portReturns true linkE s)
      let s := restartDeadman true s
      settle (bothReady (modDie (fun d => { d with yardCold := false }) (resumeRole holder (functionsAtReturn holder s))))

/-! ### Crossover values (R400, R401, R621) -/

/-- A list of values that wait for the Crossover with the one of a number replaced, in its place, or added (R41). -/
def replacePending (v : Nat) (x : Option Int) (l : List (Nat × Option Int)) : List (Nat × Option Int) :=
  if l.any (fun e => e.1 == v) then l.map (fun e => if e.1 = v then (v, x) else e) else l ++ [(v, x)]

/-- Crossover values that are due are computed, those named first; each replaces an earlier one that has not been sent (R41, R400). What
the level allows of them in a cycle is sent while the link is there; the rest waits (R46, R621). -/
def sendCross (l : List Nat) (s : State) : State :=
  if !s.die.yardUp then s
  else
    flushCross (foldOver (fun s v => { s with eng := { s.eng with xpending := replacePending v (crossValue s v) s.eng.xpending } }) s
      (l.filter (fun v => decide (v < 64))))

/-! ### The rows -/

/-- STRAP_SAMPLE (R10): the pins, bits 0–1 ROLE0 and ROLE1, 2 NUM_EN, 3–8 NUM0–NUM5, 1 where tied to STRAP_GND. -/
def execStrapSample (t : Nat) (v : BitVec 9) (s : State) : Res := .next (strapSample v.toNat (begin_ t s))

/-- MASTER_LISTEN_END (R14). -/
def execMasterListenEnd (t : Nat) (s : State) : Res := .next (masterListenEnd (begin_ t s))

/-- XO_KEEP_ALIVE (R39): a keep-alive symbol from the Yard die (or the Signal die) arrives. -/
def execXoKeepAlive (t : Nat) (fromYard : Bool) (s : State) : Res := .next (xoHeard (!fromYard) (begin_ t s))

/-- XO_LOST (R39): tXO_LOSS of the Yard die (or the Signal die) ends. -/
def execXoLost (t : Nat) (yard : Bool) (s : State) : Res := .next (xoWatch yard (begin_ t s))

/-- CROSSOVER_UP (R39). -/
def execCrossoverUp (t : Nat) (s : State) : Res := .next (xoComesUp (begin_ t s))

/-- CROSSOVER_VALUE_SEND (R400): the values that the Yard die sends in a cycle. -/
def execCrossoverValueSend (t : Nat) (l : List Nat) (s : State) : Res := .next (sendCross l (begin_ t s))

/-- EVENT_LATCH_DRAIN (R42, R715). -/
def execEventLatchDrain (t : Nat) (s : State) : Res := .next (drainOne (begin_ t s))

/-- SIGNAL_DIE_RESTART (R43): unplanned. -/
def execSignalDieRestart (t : Nat) (s : State) : Res := .next (signalDown false (begin_ t s))

/-- OUTPUT_RECLAIM (R44). -/
def execOutputReclaim (t : Nat) (s : State) : Res := .next (outputReclaim (begin_ t s))

/-- HOLD_EXPIRY (R44). -/
def execHoldExpiry (t : Nat) (s : State) : Res := .next (holdExpires (begin_ t s))

/-- YARD_DIE_RESTART (R47): planned where a restart notice came first (R623). -/
def execYardDieRestart (t : Nat) (s : State) : Res :=
  let s := begin_ t s
  .next (yardDown s.die.planned s)

/-- YARD_DIE_BACK (R47): whether a partner is present on E and on W, and whether another holder of the terminus role sends
CYCLE_START. -/
def execYardDieBack (t : Nat) (linkE linkW holder : Bool) (s : State) : Res := .next (yardBack linkE linkW holder (begin_ t s))

/-- PLANNED_GRACE_END (R50). -/
def execPlannedGraceEnd (t : Nat) (s : State) : Res := .next (plannedEnd (begin_ t s))

/-- DIE_BOOT (R748). -/
def execDieBoot (t d : Nat) (s : State) : Res := .next (settle (boot d (begin_ t s)))

end Sys2Proof.Machine
end

