-- ==== Sys2Proof/Machine/LoadRows.lean ====
section
/-!
DEFINITION. The rows of *Protected Load Channels*: what happens on the channels, their inputs and limp-home (R440–R487),
and LOAD_STATUS.
-/

namespace Sys2Proof.Machine

/-- The channels that satisfy a test, bit c for channel c. -/
def channelMask (p : Nat → Bool) : Nat := maskOf ((upFrom 0 32).filter p)

/-- The registers of R482 with one bit for each channel. -/
def loadOverlay (s : State) (a : Nat) : Option Nat :=
  if a = Reg.LSW_ON then some (channelMask (fun c => (chan s c).output))
  else if a = Reg.LSW_LATCHED then
    some (channelMask (fun c => s.get (F.LSW_CH_STAT_CSTATE c) == cLatched || (chan s c).limpLatched))
  else if a = Reg.LSW_SIDED then some (channelMask (channelSided s))
  else if a = Reg.LSW_OPEN then some (channelMask (fun c => s.flag (F.LSW_CH_STAT_OPEN_LOAD c)))
  else none

/-- n registers of the load channels from an address on, as bytes. -/
def loadRegisters (s : State) (a n : Nat) : Bytes :=
  (upFrom 0 n).flatMap (fun i => leBytes 4 ((loadOverlay s (a + 4 * i)).getD (s.reg (a + 4 * i))))

/-- LOAD_STATUS (R487). -/
def runLoadStatus (p : Request) (s : State) : Answer :=
  let c := fieldAt p.params 0 1
  if c = 0xFF then
    ok s (loadRegisters s Reg.LSW_CFG 10 ++ (upFrom 0 32).flatMap (fun c => loadRegisters s (Reg.LSW_CH_CFG c) 8))
  else if c > 31 then refuse s St.badParam
  else ok s (loadRegisters s Reg.LSW_CFG 10 ++ loadRegisters s (Reg.LSW_CH_CFG c) 8)

/-! ### The rows -/

/-- OVER_CURRENT_LATCH (R452): the current of a channel, mA, with its junction, 0.1 °C, at the protection's sampling. -/
def execOverCurrentLatch (t c : Nat) (current tj : Int) (s : State) : Res :=
  let s := begin_ t s
  .next (if c < 32 ∧ powered s = true then overCurrent c current tj s else s)

/-- THERMAL_LATCH (R454): the junction of a channel, 0.1 °C. -/
def execThermalLatch (t c : Nat) (tj : Int) (s : State) : Res :=
  let s := begin_ t s
  .next (if c < 32 ∧ powered s = true then thermal c tj s else s)

/-- RETRY (R455), with the junction read when the retry delay has passed. -/
def execRetry (t c : Nat) (tj : Int) (s : State) : Res :=
  let s := begin_ t s
  .next (if c < 32 ∧ powered s = true then retryChannel c tj s else s)

/-- RETRY_OK (R455): the side window ends. -/
def execRetryOk (t c : Nat) (s : State) : Res :=
  let s := begin_ t s
  .next (if c < 32 ∧ powered s = true then retryOk c s else s)

/-- INRUSH_WINDOW_END (R451, R453). -/
def execInrushWindowEnd (t c : Nat) (s : State) : Res :=
  let s := begin_ t s
  .next (if c < 32 ∧ powered s = true then inrushEnd c s else s)

/-- OPEN_LOAD_JUDGEMENT (R459): the output has stayed above (or below) 3.2 V for so many units of 100 µs. -/
def execOpenLoadJudgement (t c : Nat) (above : Bool) (units : Nat) (s : State) : Res :=
  let s := begin_ t s
  .next (if c < 32 ∧ powered s = true then openLoad c above units s else s)

/-- STUD_MEAN (R440), with the summed mirror currents of LOAD_A and LOAD_B at its instant, mA. -/
def execStudMean (t : Nat) (a b : Int) (s : State) : Res :=
  let s := begin_ t s
  .next (if powered s then studMean a b s else s)

/-- SUPPLY_LOW (R441): the voltage of a stud in mV, true for LOAD_B. -/
def execSupplyLow (t : Nat) (b : Bool) (mv : Nat) (s : State) : Res := 
  let s := begin_ t s
  .next (if powered s then studVoltage b mv s else s)

/-- SUPPLY_LOW_CLEAR (R441): the voltage of a stud in mV, which follows the same limit. -/
def execSupplyLowClear (t : Nat) (b : Bool) (mv : Nat) (s : State) : Res := 
  let s := begin_ t s
  .next (if powered s then studVoltage b mv s else s)

/-- CURRENT_MEASURE (R465): load current in mA and junction in 0.1 °C of each channel in index order, while the Signal die runs and, at
power-up, before the limp map is latched (R836). -/
def execCurrentMeasure (t : Nat) (l : List (Int × Int)) (s : State) : Res :=
  let s := begin_ t s
  .next (if s.die.sigUp || (powered s && s.load.latchedMap.isNone) then measureAll l s else s)

/-- SENSE_SELECT (R462): SEL4–SEL0 and SENSE_EN. -/
def execSenseSelect (t : Nat) (sel : BitVec 5) (en : Bool) (s : State) : Res := 
  let s := begin_ t s
  .next (if powered s then senseSelect sel.toNat en s else s)

/-- LIMP_REQ_LOW (R466): LIMP_REQ is low, and its cause clears. -/
def execLimpReqLow (t : Nat) (s : State) : Res := .next ((begin_ t s).put F.LSW_LIMP_REQ 0)

/-- LH_IN_CHANGE (R467): the levels of LH_IN7–LH_IN0. Without power they have no effect (R795); the register shows them once power is
there (R481). -/
def execLhInChange (t : Nat) (levels : BitVec 8) (s : State) : Res :=
  let s := begin_ t s
  .next (if powered s then lhChange levels.toNat s else s.put F.LSW_LIMP_LH_IN levels.toNat)

/-- PWM_PERIOD_START (R444). -/
def execPwmPeriodStart (t c : Nat) (s : State) : Res :=
  let s := begin_ t s
  .next (if c < 32 ∧ powered s = true then pwmPeriod c s else s)

end Sys2Proof.Machine
end

