-- ==== Sys2Proof/Machine/Logbook.lean ====
section
/-!
DEFINITION. *Faults, Events and the Logbook*: the time base, histograms and extreme records, commits, reading, the dead-men,
flash blocks, and the delivery of events (R704–R740).
-/

namespace Sys2Proof.Machine

/-- The part changed. -/
def modEv (f : EventPart → EventPart) (s : State) : State := { s with ev := f s.ev }

/-! ### Time base (R722) -/

/-- The time awake that OPSEC has not counted yet, in ns. -/
def partSecond (s : State) : Nat := s.ev.partNs + (s.now - s.ev.awakeFrom)

/-! ### Histograms and extreme records (R723, R724) -/

/-- LO and WIDTH of a histogram; none for the reserved ones. -/
def histShape (h : Nat) : Option (Int × Nat) :=
  if h ≤ 2 then some (-400, 50)
  else if h ≤ 5 then some (6000, 1500)
  else if h ≤ 7 then some (0, 50)
  else if h = 8 then some (0, 25)
  else if h = 9 then some (0, 100)
  else if h = 10 then some (0, 1)
  else if h ≤ 43 then some (0, 5)
  else if h ≤ 57 then some (-400, 50)
  else if h = 58 then some (0, 2000)
  else if h = 59 then some (20, 1)
  else if h = 60 then some (0, 1)
  else none

/-- The bin of a sample. -/
def histBin (lo : Int) (width : Nat) (v : Int) : Nat := (clampI 0 31 ((v - lo) / (width : Int))).toNat

/-- The counter of a bin. -/
def histCount (d : LogData) (h b : Nat) : Nat := (lookupNum d.hist (32 * h + b)).getD 0

/-- An extreme record takes a sample that goes beyond it. -/
def takeExtreme (i : Nat) (isMax : Bool) (v : Int) (opsec pcyc : Nat) (d : LogData) : LogData :=
  let beyond := match lookupNum d.extremes i with
    | none => true
    | some e => if isMax then decide (e.value < v) else decide (v < e.value)
  if beyond then { d with extremes := putNum d.extremes i { value := v, opsec := opsec, pcyc := pcyc } } else d

/-- The sample of a quantity at the end of a second, num / den in its unit: its bin is that of the exact sample, and the extreme
records take it rounded to their unit (R25, R723, R724). -/
def takeSample (h : Nat) (x : Int × Nat) (opsec pcyc : Nat) (d : LogData) : LogData :=
  match histShape h with
  | none => d
  | some (lo, width) =>
    let b := histBin (lo * x.2) (width * x.2) x.1
    let d := { d with hist := putNum d.hist (32 * h + b) (satN 32 (histCount d h b + 1)) }
    let v := satS 32 (roundDiv x.1 x.2)
    takeExtreme (129 + 2 * h) true v opsec pcyc (takeExtreme (128 + 2 * h) false v opsec pcyc
      (takeExtreme (2 * h + 1) true v opsec pcyc (takeExtreme (2 * h) false v opsec pcyc d)))

/-- The continuous rating of a channel in A (R437). -/
def ratedAmps (c : Nat) : Nat := if c < 8 then 30 else 8

/-- The sample that the readings of a second give, as R723 says for the quantity: a mean, of abs(CURR) in % of the continuous rating;
the sum of the errors; a minimum; a maximum. -/
def sampleOf (h : Nat) (r : SecondRun) : Int × Nat :=
  if h = 0 ∨ h = 59 then (r.sum, r.n)
  else if 12 ≤ h ∧ h ≤ 43 then (r.sum, r.n * (10 * ratedAmps (h - 12)))
  else if h = 60 then (r.sum, 1)
  else if 3 ≤ h ∧ h ≤ 5 then (r.lo, 1)
  else (r.hi, 1)

/-- The module gathers this quantity from its readings: the supplies, temperatures, currents and junctions, LIN_TERR, C/N0 and the
corrected errors. -/
def gathered (h : Nat) : Bool := h ≤ 1 || (3 ≤ h && h ≤ 5) || (11 ≤ h && h ≤ 57) || h == 59 || h == 60

/-- The quantities that registers hold: the stud means in 0.01 A, the level, and the smallest slack where there has been one. -/
def ownQuantity (h : Nat) : Bool := h == 6 || h == 7 || h == 10 || h == 58

/-- The samples of a second that the module's own readings and registers give (R723): a quantity without a reading has none, but for
the corrected errors, of which there are then none. -/
def ownSamples (s : State) : List (Nat × Int × Nat) :=
  let reg : List (Nat × Int × Nat) :=
    [(6, (s.get F.LSW_TOTAL_MEAN_A : Int), 10), (7, (s.get F.LSW_TOTAL_MEAN_B : Int), 10), (10, (curLevel s : Int), 1)] ++
      (if s.get F.CLE_SLACK_MIN_SLACK = 0xFFFF then [] else [(58, (s.get F.CLE_SLACK_MIN_SLACK : Int), 1)])
  let errors := if (lookupNum s.ev.second 60).isSome then [] else [(60, 0, 1)]
  reg ++ errors ++ (s.ev.second.filter (fun e => gathered e.1)).map (fun e => (e.1, sampleOf e.1 e.2))

/-- The end of an operating second: OPSEC counts it, and each quantity that has a value in it is counted (R722–R724). The samples of the
quantities that no register holds, of the Signal die's junction, vibration and shock, come with the command. -/
def histogramSecond (l : List (Nat × Int)) (s : State) : State :=
  if !powered s || partSecond s < sec then s
  else
    let s := modEv (fun e => { e with partNs := partSecond s - sec, awakeFrom := s.now }) (s.bump F.EVR_OPSEC_OPSEC 1)
    let given := (l.filter (fun e => !ownQuantity e.1 && !gathered e.1 && decide (e.1 < 61))).map (fun e => (e.1, e.2, 1))
    let d := foldOver (fun d (e : Nat × Int × Nat) => takeSample e.1 e.2 (s.get F.EVR_OPSEC_OPSEC) (s.get F.EVR_PCYC_PCYC) d) s.ev.live
      (ownSamples s ++ given)
    modEv (fun e => { e with live := d, second := [] }) s

/-! ### Commit (R730) -/

/-- tCOMMIT. -/
def tCommit : Nat := 60 * sec

/-- Histograms, extremes, OPSEC and the part second reach MRAM. -/
def commitLog (s : State) : State :=
  (modEv (fun e => { e with
    mram := e.live, opsecMram := s.get F.EVR_OPSEC_OPSEC, partMram := partSecond s, commitAt := s.now + tCommit }) s).put
    F.EVR_COMMIT_LAST (s.get F.EVR_OPSEC_OPSEC)

/-- A commit is due; one that fails to complete raises LOG_COMMIT (R739). -/
def logCommit (done : Bool) (s : State) : State :=
  if !powered s || s.now < s.ev.commitAt then s
  else if done then commitLog s
  else raise0 Src.EVR_LOG_COMMIT (modEv (fun e => { e with commitAt := s.now + tCommit }) s)

/-! ### Reading (R710, R731, R732, R739) -/

/-- The EVR registers that are computed (R739). -/
def logOverlay (s : State) (a : Nat) : Option Nat :=
  if a = Reg.EVR_HEAD then some (newestSeq s)
  else if a = Reg.EVR_RING then
    some (s.ev.ring.length + 65536 * (match s.ev.ring.getLast? with
      | none => 0
      | some r => r.repeats))
  else if a = Reg.EVR_RETIRE then some (satN 11 s.ev.retired.length + 65536 * s.get F.EVR_RETIRE_FULL)
  else if a = Reg.EVR_LATCH then some (min 64 s.ev.latch.held.length + 65536 * s.get F.EVR_LATCH_MERGED)
  else
    match (upFrom 1 16).find? (fun n => a == Reg.EVT_QUEUE (n - 1)) with
    | none => none
    | some n =>
      match findSession s n with
      | none => none
      | some x => some (satN 8 x.evQueue.length + 65536 * s.get (F.EVT_QUEUE_LOST (n - 1)))

/-- The 32 bytes of a fault record (R725). -/
def faultBytes (r : FaultRec) : Bytes :=
  leBytes 4 r.seq ++ leBytes 4 r.opsec ++ leBytes 3 r.pcyc ++ leBytes 1 r.cls ++ leBytes 1 r.type ++ leBytes 1 r.source ++
    leBytes 2 r.detail ++ leBytes 2 r.repeats ++ leBytes 2 0 ++ leBytes 4 r.arg0 ++ leBytes 4 r.arg1 ++ leBytes 4 r.arg2

/-- The 12 bytes of an extreme record (R724). -/
def extremeBytes (d : LogData) (i : Nat) : Bytes :=
  match lookupNum d.extremes i with
  | none => leBytes 11 0 ++ leBytes 1 (i % 2)
  | some e => leBytes 4 (toBits 32 e.value) ++ leBytes 4 e.opsec ++ leBytes 3 e.pcyc ++ leBytes 1 (i % 2 + 128)

/-- The 128 bytes of a histogram. -/
def histBytes (d : LogData) (h : Nat) : Bytes := (upFrom 0 32).flatMap (fun b => leBytes 4 (histCount d h b))

/-- SEQ of the oldest record held; 1 where there is none (R731). -/
def oldestSeq (s : State) : Nat :=
  match s.ev.ring with
  | [] => 1
  | r :: _ => r.seq

/-- Records of the fault ring in order from one SEQ on; from the oldest on where that SEQ is older (R731). SEQ wraps after
2³² − 1 to 1, so order is by place in the ring. -/
def ringFrom (s : State) (first count : Nat) : List FaultRec :=
  match s.ev.ring.findIdx? (fun r => r.seq == first) with
  | some i => (s.ev.ring.drop i).take count
  | none =>
    let ahead := (first + 4294967296 - newestSeq s) % 4294967296
    if newestSeq s ≠ 0 ∧ 1 ≤ ahead ∧ ahead < 2147483648 then [] else s.ev.ring.take count

/-- LOGBOOK_READ (R731). -/
def runLogbookRead (p : Request) (s : State) : Answer :=
  let part := fieldAt p.params 0 1
  let first := fieldAt p.params 4 4
  let count := fieldAt p.params 8 2
  let head := fun (n : Nat) => leBytes 4 (s.get F.EVR_OPSEC_OPSEC) ++ leBytes 3 (s.get F.EVR_PCYC_PCYC) ++ leBytes 1 part ++
    leBytes 4 (newestSeq s) ++ leBytes 4 (oldestSeq s) ++ leBytes 2 n ++ leBytes 2 0
  let d := s.ev.live
  if part = 0 then
    if first > 63 ∨ count = 0 ∨ count > 10 then refuse s St.badParam
    else
      let n := min count (64 - first)
      ok s (head n ++ (upFrom first n).flatMap (histBytes d))
  else if part = 1 then
    if first > 255 ∨ count = 0 ∨ count > 114 then refuse s St.badParam
    else
      let n := min count (256 - first)
      ok s (head n ++ (upFrom first n).flatMap (extremeBytes d))
  else if part = 2 then
    if count = 0 ∨ count > 43 then refuse s St.badParam
    else
      let l := ringFrom s first count
      ok s (head l.length ++ l.flatMap faultBytes)
  else refuse s St.badParam

/-- LOGBOOK_INFO (R732). -/
def runLogbookInfo (_ : Request) (s : State) : Answer :=
  ok s ((upFrom 0 9).flatMap (fun i => leBytes 4 ((logOverlay s (Reg.EVR_OPSEC + 4 * i)).getD (s.reg (Reg.EVR_OPSEC + 4 * i)))))

/-- The 16 bytes of an entry of the retirement list (R706). -/
def retireBytes (e : RetireEntry) : Bytes :=
  leBytes 1 e.kind ++ leBytes 1 e.cause ++ leBytes 2 e.index ++ leBytes 4 e.unit ++ leBytes 4 e.opsec ++ leBytes 3 e.pcyc ++ leBytes 1 0

/-- RETIREMENT_READ (R710). -/
def runRetirementRead (p : Request) (s : State) : Answer :=
  let first := fieldAt p.params 0 2
  let count := fieldAt p.params 2 2
  if count = 0 ∨ count > 87 then refuse s St.badParam
  else ok s (leBytes 2 s.ev.retired.length ++ leBytes 2 0 ++ ((s.ev.retired.drop first).take count).flatMap retireBytes)

/-! ### The dead-men (R733–R737) -/

/-- tDM_SIG and tDM_YARD at their shortest: an expiry comes no sooner after the last restart. -/
def tDmSig : Nat := 95 * ms
def tDmYard : Nat := 475 * ms

/-- A die runs an image that is not confirmed and not HEALTHY (R737, R759). -/
def unhealthyTrial (s : State) (d : Nat) : Bool :=
  (trialSlot s d).isSome && nth s.upd.ran d none == trialSlot s d && !s.flag (F.UPD_SLOT_HEALTHY d)

/-- The expiry of a dead-man is raised and logged (R734, R735). -/
def deadmanExpired (die : Nat) (s : State) : State :=
  raise Src.EVR_DEADMAN_EXPIRED die (fault 0x58 4 Src.EVR_DEADMAN_EXPIRED die 0 0 0 s)

/-- The dead-man of the Signal die expires (R734): limp mode, then a restart of the die, or the fallback of a trial (R759). -/
def signalDeadman (s : State) : State :=
  match s.ev.sigDeadman with
  | none => s
  | some t =>
    if !powered s || s.now < t + tDmSig then s
    else
      let s := (State.put (modEv (fun e => { e with sigDeadman := none }) s) F.EVR_DEADMAN_SIG_ARMED 0).bump F.EVR_DEADMAN_SIG_EXP 1
      let s := limpEnter .deadman s
      deadmanExpired 0 (if unhealthyTrial s 0 then settle (fallBack 0 1 s) else signalDown false s)

/-- The dead-man of the Yard die expires (R735): an unplanned restart, or the fallback of a trial (R759). -/
def yardDeadman (s : State) : State :=
  match s.ev.yardDeadman with
  | none => s
  | some t =>
    if !powered s || s.now < t + tDmYard then s
    else
      let s := (State.put (modEv (fun e => { e with yardDeadman := none }) s) F.EVR_DEADMAN_YARD_ARMED 0).bump F.EVR_DEADMAN_YARD_EXP 1
      deadmanExpired 1 (if unhealthyTrial s 1 then settle (fallBack 1 1 s) else yardDown false s)

/-- The firmware of a die restarts its dead-man (R733); that of a die that is down restarts none. -/
def firmwareRestart (yard : Bool) (s : State) : State :=
  if yard then (if s.die.yardUp then restartDeadman true s else s)
  else if s.die.sigUp && s.flag F.LSW_LIMP_MAP_LATCHED then restartDeadman false s
  else s

/-! ### Flash blocks (R645, R646, R705) -/

/-- A flash block of the SLC partition is retired: it is replaced from the spare pool while that lasts, and SPARE_LOW is
raised once when fewer than 10 % of it remain (R645). -/
def useSpare (s : State) : State :=
  let left := s.get F.DMA_RETIRED_SPARES
  if left = 0 then { s with dma := { s.dma with shrunk := s.dma.shrunk + 1 } }
  else
    let s := s.put F.DMA_RETIRED_SPARES (left - 1)
    if (left - 1) * 10 < spareTotal ∧ s.dma.spareLow = false then
      raise0 Src.DMA_SPARE_LOW { s with dma := { s.dma with spareLow := true } }
    else s

/-- A flash operation on a block fails and is repeated (R705): a repeat that succeeds is logged, one that fails retires the
block. Where the block held data of the siding set that is lost with it, a READY set is LOADED again (R242). -/
def flashFail (log again siding : Bool) (block : Nat) (s : State) : State :=
  let kind := if log then 5 else 4
  if !s.die.yardUp then s
  else if !again then fault 0x50 1 0xFF kind block 0 0 s
  else
    let s := fault 0x51 2 Src.EVR_RETIRED kind block 0 0 (retire kind 0 0 block s)
    let s := if log then s else useSpare s
    if siding && sidingState s == sReady then
      raise0 Src.CFG_READY_LOST ((State.put { s with sets := { s.sets with okFrom := [] } } F.CFG_STATE_SIDING sLoaded).put F.CFG_SIDING_CRC_CRC 0)
    else s

/-! ### Delivery (R716–R720) -/

/-- EVENT_SUBSCRIBE (R717). A forwarded one sets the subscription of the session on this module. -/
def runEventSubscribe (p : Request) (s : State) : Answer :=
  let n := p.session.toNat
  if n = 0 ∨ 16 < n then refuse s St.noSession
  else ok (foldOver (fun s w => s.setReg (Reg.EVT_SUB (n - 1) w) (fieldAt p.params (4 * w) 4)) s [0, 1, 2, 3]) (p.params.take 16)

/-- The 16 bytes of an event record (R713). -/
def recordBytes (r : EventRecord) : Bytes :=
  leBytes 1 r.source ++ leBytes 1 r.origin ++ leBytes 2 r.detail ++ leBytes 8 r.stamp ++ leBytes 2 r.merged ++ leBytes 2 r.arg

/-- An EVENT is due for a session: its oldest record has waited 2 ms, or 87 are queued (R720). -/
def eventDue (now : Nat) (x : Session) : Bool :=
  match x.evQueue with
  | [] => false
  | (_, t) :: _ => decide (t + 2 * ms ≤ now) || decide (87 ≤ x.evQueue.length)

/-- The key of an EVENT: the session's, none over the Line (R84, R720). -/
def eventKey (x : Session) : Option Bytes :=
  match x.via with
  | .line _ _ => none
  | _ => some x.key

/-- The EVENT packet of a session with the first records of its queue (R719). -/
def eventPacket (s : State) (x : Session) (seq : Nat) : Reply :=
  let l := x.evQueue.take 87
  sealReply (eventKey x)
    { version := 1, flags := 1 + 8, session := x.num, target := 0xFD, origin := originNum s, sequence := seq, opcode := 0x0F00,
      status := 0, admitted := 1, qpos := 0, wait := 0,
      result := leBytes 1 l.length ++ leBytes 1 x.evLost ++ leBytes 2 0 ++ l.flatMap (fun e => recordBytes e.1), auth := 0, crc := 0 }

/-- An EVENT leaves for a session where one is due (R719, R720). -/
def sendEvent (n : Nat) (s : State) : State :=
  match findSession s n with
  | none => s
  | some x =>
    if !x.isOpen || !s.die.yardUp || !eventDue s.now x then s
    else
      let seq := (s.get (F.EVT_SEQ_SEQ (n - 1)) + 1) % 4294967296
      let s := s.put (F.EVT_SEQ_SEQ (n - 1)) seq
      transmit x.via (eventPacket s x seq)
        (putSession { x with evQueue := x.evQueue.drop 87, evLost := 0 } s)

/-! ### The rows -/

/-- HISTOGRAM_SECOND (R723): the samples of the second, by histogram. -/
def execHistogramSecond (t : Nat) (l : List (Nat × Int)) (s : State) : Res := .next (histogramSecond l (begin_ t s))

/-- LOG_COMMIT (R730), and whether it completes. -/
def execLogCommit (t : Nat) (done : Bool) (s : State) : Res := .next (logCommit done (begin_ t s))

/-- SIGNAL_DEADMAN_EXPIRY (R734). -/
def execSignalDeadmanExpiry (t : Nat) (s : State) : Res := .next (signalDeadman (begin_ t s))

/-- YARD_DEADMAN_EXPIRY (R735). -/
def execYardDeadmanExpiry (t : Nat) (s : State) : Res := .next (yardDeadman (begin_ t s))

/-- DEADMAN_RESTART (R733). -/
def execDeadmanRestart (t : Nat) (yard : Bool) (s : State) : Res := .next (firmwareRestart yard (begin_ t s))

/-- FLASH_OPERATION_FAIL (R705): a block of the log partition (or the SLC partition), whether the repeat fails too, whether
data of the siding set is lost with it, and the block number. -/
def execFlashOperationFail (t : Nat) (log again siding : Bool) (block : Nat) (s : State) : Res :=
  .next (flashFail log again siding block (begin_ t s))

/-- EVENT_SEND (R720). -/
def execEventSend (t n : Nat) (s : State) : Res := .next (sendEvent n (begin_ t s))

end Sys2Proof.Machine
end

