-- ==== Sys2Proof/Machine/Power.lean ====
section
/-!
DEFINITION. Power: power-up, sleep and wake, power-down (R790–R803), LIMP_REQ with its wake (R466, R797), and the supplies
of cameras and sensors (R803, R812).
-/

namespace Sys2Proof.Machine

/-! ### What power removes and what is stored -/

/-- The bits of a register that are stored, fixed by silicon or by the image, or configured by Reset only at manufacture, and the
present levels of pins (R481): everything else returns to its reset value when power comes (R32). -/
def storedBits (a : Nat) : Nat :=
  if (decide (Reg.IDR_PART ≤ a) && decide (a ≤ Reg.IDR_UID_HI)) || a == Reg.EVR_OPSEC || a == Reg.EVR_PCYC ||
      a == Reg.CFG_FMT || a == Reg.CFG_RUN_CRC || a == Reg.CFG_SIDING_CRC || a == Reg.CFG_THROW_CYC || a == Reg.GNS_PPS_DELAY || a == Reg.GNS_GUIDE_ID ||
      a == Reg.DMA_RETIRED || a == Reg.UPD_SECURITY || a == Reg.EVR_COMMIT ||
      (decide (Reg.UPD_SLOT 0 ≤ a) && decide (a < Reg.UPD_SECURITY)) ||
      (upFrom 0 64).any (fun n => a == Reg.DMA_RING_CFG n) then allBits
  else if a = Reg.EVR_DEADMAN then 65535
  else if a = Reg.CFG_STATE then 7
  else if a = Reg.LSW_LIMP then 0xFF00
  else if (upFrom 0 32).any (fun n => a == Reg.DMA_CH_CFG n) then 3
  else 0

/-- What the wake domain still needs asleep: LINE_WAKE, and WAKE_EN and MODE of the CAN controllers. -/
def wakeBits (a : Nat) : Nat :=
  if a = Reg.PWR_WAKE ∨ (upFrom 0 4).any (fun n => a == Reg.MDB_C_CFG n) = true then allBits else 0

/-- The register space with only the named bits kept. -/
def keepWords (keep : Nat → Nat) (regs : List (Nat × Word)) : List (Nat × Word) :=
  foldOver (fun (l : List (Nat × Word)) (e : Nat × Word) =>
    let m := keep e.1
    let r := (regDefault e.1).toNat
    storeSet regDefault l e.1 (BitVec.ofNat 32 (Nat.land e.2.toNat m + (r - Nat.land r m)))) regs regs

/-- Extreme records 128–255 are those of the present power cycle (R724). -/
def lifeExtremes (d : LogData) : LogData := { d with extremes := d.extremes.filter (fun e => decide (e.1 < 128)) }

/-- What is left of the state without power: what MRAM, flash, OTP and the hold-up store keep, and what the wake domain
needs (R238, R473, R560, R578, R645, R706, R722, R725, R730, R742, R768, R831). DEDUCED: no field is open afterwards, since OPEN has the
reset value 0 (log entry 224). -/
def cleared (keep : Nat → Nat) (s : State) : State :=
  let ev : EventPart := {
    ring := s.ev.ring, retired := s.ev.retired, live := lifeExtremes s.ev.mram, mram := s.ev.mram, opsecMram := s.ev.opsecMram,
    partMram := s.ev.partMram, partNs := s.ev.partMram, awakeFrom := s.now, commitAt := s.now + tCommit }
  let sets : SetPart := {
    running := s.sets.running, siding := s.sets.siding, mramArea := s.sets.mramArea, manifest := s.sets.manifest, manifestCrc := s.sets.manifestCrc,
    modelOpen := s.sets.modelOpen, armedFor := s.sets.armedFor }
  let load : LoadPart := { storedMap := s.load.storedMap, storedCrc := s.load.storedCrc }
  let nav : NavPart := {
    ppsStored := s.nav.ppsStored, ppsBefore := s.nav.ppsStored, guide := s.nav.guide, shiftNow := guideShift s, aiding := s.nav.aiding,
    orbits := s.nav.orbits }
  let yld : YieldPart := { fields := s.yld.fields }
  let cst : ConsistPart := { keys := s.cst.keys, seqMark := s.cst.seqMark }
  let dma : DmaPart := { spareLow := s.dma.spareLow, shrunk := s.dma.shrunk, marked := s.dma.marked }
  let upd : UpdatePart := {
    slots := s.upd.slots, keys := s.upd.keys, trialAt := s.upd.trialAt, activatedAt := s.upd.activatedAt, run := s.upd.run }
  let pk : PacketPart := { levelKeys := s.pk.levelKeys, failures := s.pk.failures }
  let s : State := { s with
    steer := none, hiLatch := [], regs := keepWords (fun a => Nat.lor (storedBits a) (keep a)) s.regs, ev := ev, pk := pk, role := {}, die := {},
    sets := sets, line := {}, load := load, inp := {}, eng := {}, fus := {}, fn := {}, nav := nav, yld := yld, cst := cst,
    clk := {}, lvl := {}, dma := dma, can := {}, upd := upd }
  restartYield (showRun (s.put F.EVR_OPSEC_OPSEC s.ev.opsecMram))

/-! ### Power-up (R799) -/

/-- A channel in the retirement list is sided from power-up (R456, R477). -/
def sideRetired (s : State) (c : Nat) : State := if channelSided s c then s.put (F.LSW_CH_STAT_CSTATE c) cSided else s

/-- The logic supply comes, or the module wakes: power-up from its origin, with the source of the wake (R799, R797, R722,
R489). -/
def powerOn (src ctrl : Nat) (s : State) : State :=
  let s := foldOver sideRetired (cleared (fun _ => 0) s) (upFrom 0 32)
  let s := slotsAtPowerUp s
  let s : State := { s with
    load := { s.load with channels := s.load.channels.map (fun x => { x with judgedFrom := s.now }) },
    devOff := -(s.now : Int), pwr := { s.pwr with power := .up, logicAt := s.now, sleepAt := none },
    role := { strapAt := some (s.now + 4500 * us) } }
  let s := if src = 1 then { s with pwr := { s.pwr with ignLowFrom := none } } else s
  let s := s.put F.PWR_SUPPLY_IGN (b2n s.pwr.ignLowFrom.isNone)
  (((s.bump F.EVR_PCYC_PCYC 1).put F.PWR_WAKE_WAKE_SRC src).put F.PWR_WAKE_WAKE_CAN ctrl)

/-! ### Power-down (R795, R801) -/

/-- Power leaves the dies: outputs off, pending records and the logbook committed (R795, R801). -/
def goDark (p : Power) (s : State) : State :=
  let s := foldOver (fun s c => outputOff c s) s (upFrom 0 32)
  let s := emit (.sense none) { s with load := { s.load with sense := none } }
  let s := cleared wakeBits (commitLog (flushFaults s))
  { s with pwr := { s.pwr with power := p, sleepAt := none } }

/-! ### Sleep (R794–R796) -/

/-- A throw is pending on this module (R245). -/
def throwIsPending (s : State) : Bool := sidingState s == sArmed || s.sets.throw.isSome

/-- The checks of R794 after that of DELAY: the status of the first condition that holds. -/
def sleepCheck (s : State) : Nat :=
  if inLimp s then St.limpActive
  else if s.flag F.PWR_SUPPLY_IGN || engaged s then St.badParam
  else if throwIsPending s then St.throwPending
  else if s.upd.run.isSome || !s.upd.asked.isEmpty || (trialSlot s 0).isSome || (trialSlot s 1).isSome then St.slotState
  else St.ok

/-- SLEEP (R794). -/
def runSleep (p : Request) (s : State) : Answer :=
  let delay := fieldAt p.params 0 2
  if delay < 100 ∨ 60000 < delay then refuse s St.badParam
  else
    let st := sleepCheck s
    if st = St.ok then ok { s with pwr := { s.pwr with sleepAt := some (s.now + delay * ms) } } [] else refuse s st

/-- PARAM_LEN of SLEEP. -/
def lenSleep (ps : Bytes) : Bool := ps.length == 4

/-- The end of DELAY (R795). -/
def sleepEntry (s : State) : State := if powered s && due s.pwr.sleepAt s then goDark .asleep s else s

/-- IGN_IN has been low for IGN_OFF × 10 s: sleep as SLEEP with DELAY 100 would bring, or postponed (R796). -/
def ignOff (s : State) : State :=
  let n := s.get F.PWR_WAKE_IGN_OFF
  match s.pwr.ignLowFrom with
  | none => s
  | some t =>
    if !powered s || !s.die.sigUp || n = 0 || s.now < t + n * 10 * sec || s.pwr.sleepAt.isSome || sleepCheck s ≠ St.ok then s
    else { s with pwr := { s.pwr with sleepAt := some (s.now + 100 * ms) } }

/-! ### Wake (R797, R798, R803) -/

/-- A source that wakes the sleeping module: the Line while LINE_WAKE is 1, a CAN controller with WAKE_EN 1 and another MODE
than 0 (R697, R797). -/
def wakesModule (src ctrl : Nat) (s : State) : Bool :=
  src == 1 || src == 4 || (src == 3 && s.flag F.PWR_WAKE_LINE_WAKE) ||
    (src == 2 && decide (ctrl < 4) && s.flag (F.MDB_C_CFG_WAKE_EN ctrl) && s.get (F.MDB_C_CFG_MODE ctrl) != 0)

/-- A wake source comes: asleep, the module powers up and, while LINE_WAKE is 1, sends its wake burst; during the DELAY of
SLEEP, sleep is cancelled. -/
def wakeUp (src ctrl : Nat) (s : State) : State :=
  if !wakesModule src ctrl s then s
  else if s.pwr.power == .asleep then
    let burst := s.flag F.PWR_WAKE_LINE_WAKE
    let s := powerOn src (if src = 2 then ctrl else 0) s
    if burst then emit (.wakeBurst true) (emit (.wakeBurst false) s) else s
  else if s.pwr.power == .up && s.pwr.sleepAt.isSome then
    State.put { s with pwr := { s.pwr with sleepAt := none } } F.PWR_WAKE_SLEEP_CANCELLED 1
  else s

/-- The wake by a CAN bus is told once the Signal die runs (R697). -/
def tellCanWake (s : State) : State :=
  if s.get F.PWR_WAKE_WAKE_SRC = 2 then mdbEvent Src.MDB_CAN_WAKE (s.get F.PWR_WAKE_WAKE_CAN) s else s

/-! ### The rows -/

/-- POWER_UP (R791, R799): LOGIC_SUPPLY becomes valid, at so many mV. -/
def execPowerUp (t mv : Nat) (s : State) : Res :=
  let s := begin_ t s
  .next (if s.pwr.power == .off && decide (8600 < mv) then (powerOn 0 0 s).put F.PWR_SUPPLY_LOGIC_MV mv else s)

/-- POWER_FAIL (R801): a power failure is declared. -/
def execPowerFail (t : Nat) (s : State) : Res :=
  let s := begin_ t s
  .next (if s.pwr.power == .off then s else if powered s then goDark .off s else { s with pwr := { s.pwr with power := .off } })

/-- IGN_OFF_TIMEOUT (R796). -/
def execIgnOffTimeout (t : Nat) (s : State) : Res := .next (ignOff (begin_ t s))

/-- SLEEP_ENTRY (R795). -/
def execSleepEntry (t : Nat) (s : State) : Res := .next (sleepEntry (begin_ t s))

/-- WAKE (R797): source 1 IGN_IN, 3 the Line, 4 LIMP_REQ. -/
def execWake (t src : Nat) (s : State) : Res := .next (wakeUp src 0 (begin_ t s))

/-- CAN_WAKE (R697): a wake-up pattern on a controller. -/
def execCanWake (t n : Nat) (s : State) : Res := .next (wakeUp 2 n (begin_ t s))

/-- LIMP_MAP_LATCH (R473), and CAN_WAKE of R697. -/
def execLimpMapLatch (t : Nat) (s : State) : Res :=
  let s := begin_ t s
  let was := s.die.sigUp
  let s := limpMapLatch s
  .next (if !was && s.die.sigUp then tellCanWake s else s)

/-- LIMP_REQ (R466): it has been high for tLIMP_FILT; it wakes a sleeping module and cancels a sleep that is due
(R797, R803). -/
def execLimpReq (t : Nat) (s : State) : Res :=
  let s := wakeUp 4 0 (begin_ t s)
  .next (if powered s then limpEnter .req s else s)

/-- CAM_LIMIT (R803): the power of a camera input reaches its limit; while it is on it is switched off. -/
def execCamLimit (t i : Nat) (s : State) : Res :=
  let s := begin_ t s
  .next (if i < 4 ∧ powered s = true ∧ s.bit F.PWR_OUT_CAM_PWR i = true then s.putBit F.PWR_OUT_STAT_CAM_LIMIT i true else s)

/-- SENS_LIMIT (R812): the sensor supplies that are at their current limit, bit 0 SENS_5V0, bit 1 SENS_5V1; one that is
switched off is not. -/
def execSensLimit (t : Nat) (mask : BitVec 2) (s : State) : Res :=
  let s := begin_ t s
  .next (if powered s then s.put F.PWR_OUT_STAT_SENS_LIMIT (Nat.land mask.toNat (s.get F.PWR_OUT_SENS_EN)) else s)

end Sys2Proof.Machine
end

