-- ==== Sys2Proof/Machine/RegAccess.lean ====
section
/-!
DEFINITION. Access to registers and tables (R26–R32, R134–R140, R235, R397, R398, R832): the registers that are computed,
reads, the checks of a write and its effect under each access code.
-/

namespace Sys2Proof.Machine

/-! ### The register map with its computed registers -/

/-- The register of the map of running gain tables at an address: loop and byte offset in the table (R397). -/
def gainReg (a : Nat) : Option (Nat × Nat) :=
  if 0x48000 ≤ a ∧ a < 0x50000 ∧ (a - 0x48000) % 0x400 < 864 then some ((a - 0x48000) / 0x400, (a - 0x48000) % 0x400) else none

/-- A register is implemented at an address. The map of a gain table has registers while the running set has that table. -/
def implemented (s : State) (a : Nat) : Bool :=
  match gainReg a with
  | some (n, _) => decide ((runningGains s n).length = 864)
  | none => (regDesc a).isSome

/-- The modules in the timetable that are not absent, as the list of members of the holder has them. -/
def presentMembers (s : State) : List Nat := (s.line.members.filter (fun m => m.result == 0 && !m.absent)).map (·.num)

/-- The join numbers of the modules in the timetable that are not absent (R224): on the holder of the terminus role its own list, and
itself; on the relief terminus the mirrored list. DESIGN CHOICE: a relief terminus without a mirror yet goes by the modules that it has
heard in the last cycle, itself and its holder with them (log entry 213). -/
def presentMask (s : State) : Nat :=
  let l :=
    if isTerminus s then joinNum s :: presentMembers s
    else if !isRelief s then []
    else if s.line.mirrorAt.isSome then presentMembers s
    else (if s.role.joined then [joinNum s] else []) ++
      (if s.line.heardBefore.isEmpty then [] else s.get F.LIN_POS_MASTER_NUM :: s.line.heardBefore)
  maskOf ((upFrom 0 64).filter (fun n => l.contains n))

/-- The LIN registers that are computed (R216, R219, R224). -/
def lineOverlay (s : State) (a : Nat) : Option Nat :=
  if a = Reg.LIN_STATUS then
    some (setBitsAt (setBitsAt (s.reg a) 7 1 (b2n (isRetired 2 1 0 s))) 8 1 (b2n (isRetired 2 0 0 s)))
  else if a = Reg.LIN_TIME_LO then some (deviceTime s % 4294967296)
  else if a = Reg.LIN_PRESENT_LO then some (presentMask s % 4294967296)
  else if a = Reg.LIN_PRESENT_HI then some (presentMask s / 4294967296)
  else none

/-- The CLE, FUS and CLK registers that are computed (R333, R335, R430, R435, R637). -/
def engineOverlay (s : State) (a : Nat) : Option Nat :=
  if a = Reg.CLE_BUDGET then some (budgetWord s)
  else if a = Reg.CLE_LOSS then some (lossMask s)
  else if a = Reg.CLK_GATE_STATE then clockOverlay s a
  else if a = Reg.FUS_CELLS then (if isTerminus s || isRelief s then none else some 0)
  else
    match gainReg a with
    | some (n, off) => some (fieldAt (runningGains s n) off 4)
    | none =>
      match (upFrom 0 20).find? (fun i => a == Reg.FUS_STR_STATE i) with
      | none => none
      | some i => some (setBitsAt (s.reg a) 0 3 (streamState s i))

/-- The first answer of a list of computed-register functions. -/
def firstOf : List (State → Nat → Option Nat) → State → Nat → Option Nat
  | [], _, _ => none
  | f :: l, s, a =>
    match f s a with
    | some v => some v
    | none => firstOf l s a

/-- The value of a computed register. -/
def overlay (s : State) (a : Nat) : Option Nat :=
  firstOf [lineOverlay, engineOverlay, loadOverlay, setOverlay, settingOverlay, navOverlay, yieldOverlay, consistOverlay, dmaOverlay,
    canOverlay, updOverlay, logOverlay] s a

/-- The low halves whose read latches the high half (R219, R335, R544, R700). -/
def latchesHigh (a : Nat) : Bool :=
  a == Reg.LIN_TIME_LO || a == Reg.GNS_LAT_LO || a == Reg.GNS_LON_LO || a == Reg.GNS_TOP_LO ||
    (upFrom 0 4).any (fun n => a == Reg.MDB_C_HP_STAMP_LO n) ||
    (upFrom 0 20).any (fun i => a == Reg.FUS_STR_STAMP_LO i || a == Reg.FUS_STR_STIME_LO i)

/-- The high half that belongs to a low half now. -/
def highHalf (s : State) (lo : Nat) : Nat :=
  if lo = Reg.LIN_TIME_LO then deviceTime s / 4294967296 % 4294967296 else s.reg (lo + 4)

/-- The present value of a register (R26, R31). -/
def readWord (s : State) (a : Nat) : Nat :=
  let v :=
    if 4 ≤ a ∧ latchesHigh (a - 4) = true then (storeGet (fun _ => 0#32) s.hiLatch a).toNat
    else (overlay s a).getD (s.reg a)
  v - Nat.land v (regMask (fun c => c == Access.WO) a)

/-- A read of a register: its value, and the latching of a high half. -/
def readReg (a : Nat) (s : State) : Nat × State :=
  (readWord s a,
    if latchesHigh a then
      { s with hiLatch := storeSet (fun _ => 0#32) s.hiLatch (a + 4) (BitVec.ofNat 32 (highHalf s a)) }
    else s)

/-- A register in one reading of its whole block: a high half is the one that belongs to the low half read with it (R219). -/
def snapWord (s : State) (a : Nat) : Nat :=
  if 4 ≤ a ∧ latchesHigh (a - 4) = true then highHalf s (a - 4) else readWord s a

/-! ### Writes -/

/-- A write of the bits that a mask sets in the register at an address (R135). -/
structure RegWrite where
  addr : Nat
  mask : Nat
  value : Nat
  deriving DecidableEq, Repr

/-- Bits of a word replaced under a mask. -/
def mergeBits (old mask value : Nat) : Nat := old - Nat.land old mask + Nat.land value mask

/-- The word that a write leaves, with no account of the access code. -/
def writtenWord (s : State) (w : RegWrite) : Nat := mergeBits (readWord s w.addr) w.mask w.value

/-- The bits of a write that lie in fields with an access code. -/
def maskIn (w : RegWrite) (c : Access) : Nat := Nat.land w.mask (regMask (fun x => x == c) w.addr)

/-- The loop, channel or function that a register of a row belongs to. -/
def indexIn (count : Nat) (reg : Nat → Nat) (a : Nat) : Option Nat := (upFrom 0 count).find? (fun n => a == reg n)

/-- The masked bits of a field in a write. -/
def touches (w : RegWrite) (f : Fld) : Bool := f.addr == w.addr && bitsAt w.mask f.lo f.width != 0

/-- The entry of LOAD_SET that a write to LSW_CHc_CMD stands for (R448). -/
def commandEntry (s : State) (c : Nat) (w : RegWrite) : Nat × Nat × Nat :=
  (c, bitsAt (writtenWord s w) 0 2, bitsAt (writtenWord s w) 16 16)

/-- The checks of single registers; 0 where they pass: R269, R397, R416, R448, R511, R661. -/
def checkValue (s : State) (session : Nat) (w : RegWrite) : Nat :=
  let v := writtenWord s w
  match gainReg w.addr with
  | some (n, _) => if w.mask = 0 ∨ loopState s n = lOpen then St.ok else St.loopRunning
  | none =>
    if touches w F.CFG_LEAD_THROW_LEAD then (if 4 ≤ v % 256 ∧ v % 256 ≤ 250 then St.ok else St.badParam)
    else if touches w F.GNS_PPS_DELAY_DELAY then (if sx 32 v < -1000000 ∨ sx 32 v > 1000000 then St.badParam else St.ok)
    else
      match indexIn 32 Reg.LSW_CH_CMD w.addr with
      | some c =>
        if touches w (F.LSW_CH_CMD_STATE c) || touches w (F.LSW_CH_CMD_DUTY c) then
          (match loadRefusal s [commandEntry s c w] with
            | some (st, _) => st
            | none => if touches w (F.LSW_CH_CMD_DUTY c) && s.flag (F.LSW_CH_STAT_OWNED c) then St.loopRunning else St.ok)
        else St.ok
      | none =>
        match indexIn 32 Reg.CLE_LOOP_CTRL w.addr with
        | some n => if touches w (F.CLE_LOOP_CTRL_STATE n) then (loopRequest n (v % 4) s).status else St.ok
        | none =>
          match indexIn 32 Reg.DMA_CH_CTRL w.addr with
          | some c => if touches w (F.DMA_CH_CTRL_STOP c) && !blockUnlocked s session 9 then St.locked else St.ok
          | none => St.ok

/-- The checks of one entry of REG_WRITE and REG_MODIFY (R26–R30, R134, R236): 0 where they pass. -/
def checkWrite (s : State) (session : Nat) (w : RegWrite) : Nat :=
  if w.addr % 4 ≠ 0 then St.badAlign
  else if !implemented s w.addr then St.badAddress
  else if maskIn w .RWS ≠ 0 ∧ throwBars s = true then St.throwPending
  else if maskIn w .RWS ≠ 0 ∧ (sidingForChange s).isNone = true then St.badAddress
  else checkValue s session w

/-- The RWS fields of a write enter the register image of the siding set (R26, R235). -/
def writeImage (w : RegWrite) (s : State) : State :=
  let m := maskIn w .RWS
  if m = 0 then s else (changeSiding (fun c => imageWrite c w.addr (mergeBits (imageValue c w.addr) m w.value)) s).1

/-- W1C bits that the write carries as 1 are cleared (R26). -/
def writeClear (w : RegWrite) (s : State) : State :=
  let m := Nat.land (maskIn w .W1C) w.value
  if m = 0 then s else s.setReg w.addr (s.reg w.addr - Nat.land (s.reg w.addr) m)

/-- The RW, WO and RWL fields of a write, with what a write to them starts. -/
def writeNow (w : RegWrite) (s : State) : State :=
  let m := Nat.lor (Nat.lor (maskIn w .RW) (maskIn w .RWL)) (maskIn w .WO)
  match gainReg w.addr with
  | some (n, off) =>
    let g := runningGains s n
    let v := mergeBits (fieldAt g off 4) w.mask w.value
    { s with eng := { s.eng with gainEdits := putNum s.eng.gainEdits n (putAt g off (leBytes 4 v)) } }
  | none =>
    if m = 0 then s
    else if w.addr = Reg.CLK_GATE then
      foldOver (fun s g => if bitAt w.mask g then (if bitAt w.value g then gateOpen g s else gateRequest g s) else s) s (upFrom 0 12)
    else if w.addr = Reg.GNS_PPS_DELAY then (writePpsDelay (sx 32 (writtenWord s w)) s).1
    else
      match indexIn 32 Reg.LSW_CH_CMD w.addr with
      | some c => loadExecute [commandEntry s c w] s
      | none =>
        match indexIn 32 Reg.CLE_LOOP_CTRL w.addr with
        | some n => (loopRequest n (writtenWord s w % 4) s).st
        | none =>
          match indexIn 32 Reg.DMA_CH_CTRL w.addr with
          | some c => writeStop c (bitAt w.value 0) s
          | none => s.setReg w.addr (mergeBits (s.reg w.addr) m w.value)

/-- One checked entry is written. What it sets wins over what it clears (R27). -/
def writeOne (w : RegWrite) (s : State) : State := writeNow w (writeImage w (writeClear w s))

/-- The status of the first failing entry of a list; 0 where all pass (R136). -/
def checkAll (s : State) (session : Nat) : List RegWrite → Nat
  | [] => St.ok
  | w :: l => if checkWrite s session w = St.ok then checkAll s session l else checkWrite s session w

/-- The entries of one die take effect in one access cycle, in list order (R136): a W1C bit that one of them makes the hardware set
reads 1 afterwards, whichever of them clears it (R27). -/
def writeGroup (l : List RegWrite) (s : State) : State :=
  foldOver (fun s w => writeNow w (writeImage w s)) (foldOver (fun s w => writeClear w s) s l) l

/-- All entries written: those of the die that the first one addresses, then those of the other (R136). -/
def writeAll (l : List RegWrite) (s : State) : State :=
  match l with
  | [] => s
  | w :: _ =>
    let same := fun (v : RegWrite) => regOnSignal v.addr == regOnSignal w.addr
    writeGroup (l.filter (fun v => !same v)) (writeGroup (l.filter same) s)

/-! ### REG_READ, REG_WRITE, REG_MODIFY (R134–R136) -/

/-- PARAM_LEN of a register opcode: COUNT 1–64, and that many entries of a size. -/
def lenRegs (size : Nat) (ps : Bytes) : Bool :=
  let n := fieldAt ps 0 2
  decide (1 ≤ n) && decide (n ≤ 64) && ps.length == 4 + size * n

/-- The addresses of a list of entries. -/
def regAddrs (size : Nat) (ps : Bytes) : List Nat := (upFrom 0 (fieldAt ps 0 2)).map (fun i => fieldAt ps (4 + size * i) 4)

/-- The status of the first address that cannot be read; 0 where all can. -/
def checkReads (s : State) : List Nat → Nat
  | [] => St.ok
  | a :: l => if a % 4 ≠ 0 then St.badAlign else if !implemented s a then St.badAddress else checkReads s l

/-- Registers read in order: their values, and the state with what the reads latch. -/
def readAll : List Nat → State → Bytes × State
  | [], s => ([], s)
  | a :: l, s =>
    let (v, s) := readReg a s
    let (r, s) := readAll l s
    (leBytes 4 v ++ r, s)

/-- REG_READ. -/
def runRegRead (p : Request) (s : State) : Answer :=
  let l := regAddrs 4 p.params
  if checkReads s l = St.ok then
    let (r, s') := readAll l s
    ok s' r
  else refuse s (checkReads s l)

/-- The writes that REG_WRITE and REG_MODIFY name. -/
def regWrites (p : Bytes) : List RegWrite :=
  (upFrom 0 (fieldAt p 0 2)).map (fun i => { addr := fieldAt p (4 + 8 * i) 4, mask := allBits, value := fieldAt p (8 + 8 * i) 4 })
def regModifies (p : Bytes) : List RegWrite :=
  (upFrom 0 (fieldAt p 0 2)).map (fun i =>
    { addr := fieldAt p (4 + 12 * i) 4, mask := fieldAt p (8 + 12 * i) 4, value := fieldAt p (12 + 12 * i) 4 })

/-- A refused REG_WRITE or REG_MODIFY; CHANNEL_LATCHED names the time until the channel of the first failing entry is tried again
(R69, R448). -/
def refuseWrites (s : State) (session st : Nat) (l : List RegWrite) : Answer :=
  let retry := match l.find? (fun w => checkWrite s session w != St.ok) with
    | none => 0
    | some w => if st = St.channelLatched then latchedRetryAfter s ((indexIn 32 Reg.LSW_CH_CMD w.addr).getD 0) else 0
  { refuse s st with retry := retry }

/-- REG_WRITE. -/
def runRegWrite (p : Request) (s : State) : Answer :=
  let l := regWrites p.params
  let st := checkAll s p.session.toNat l
  if st = St.ok then ok (writeAll l s) [] else refuseWrites s p.session.toNat st l

/-- The previous values of the entries of REG_MODIFY: each reads its register with the entries before it written (R135, R136). -/
def modifyOld (s : State) : List RegWrite → List RegWrite → Bytes
  | _, [] => []
  | before, w :: l => leBytes 4 (readWord (writeAll before s) w.addr) ++ modifyOld s (before ++ [w]) l

/-- REG_MODIFY. -/
def runRegModify (p : Request) (s : State) : Answer :=
  let l := regModifies p.params
  let st := checkAll s p.session.toNat l
  if st = St.ok then ok (writeAll l s) (modifyOld s [] l) else refuseWrites s p.session.toNat st l

/-- A register opcode needs the Signal die where it names a register of it (R830). -/
def regsOnSignal (size : Nat) (p : Request) : Bool := (regAddrs size p.params).any regOnSignal

/-! ### Tables (R137–R139, R832, R834) -/

/-- Kind and instance of a TABLE_ID. -/
def tableKind (id : Nat) : Nat := id / 256
def tableInst (id : Nat) : Nat := id % 256

/-- The shape of the table of a TABLE_ID; none where there is no such table. -/
def tableOf (id : Nat) : Option (Nat × Nat) :=
  if tableInst id < tableInstances (tableKind id) then tableShape (tableKind id) else none

/-- A table of the Signal die (R829, R830). -/
def tableOnSignal (id : Nat) : Bool :=
  tableKind id == 2 || tableKind id == 3 || tableKind id == 4 || tableKind id == 0x0B

/-- TABLE_INFO (R137). -/
def runTableInfo (p : Request) (s : State) : Answer :=
  match tableOf (fieldAt p.params 0 2) with
  | none => refuse s St.badAddress
  | some (size, count) => ok s (leBytes 2 size ++ leBytes 2 count)

/-- The bytes of a section of a container. -/
def containerTable (c : Option Container) (kind inst : Nat) : Option Bytes :=
  match c with
  | none => none
  | some c =>
    match findSection c kind inst with
    | none => none
    | some x => some (sectionData c x)

/-- The bytes that TABLE_READ reads from; none where the set or the section is absent (R832). A running gain table is read as
edited (R398). -/
def tableBytes (s : State) (id : Nat) (siding : Bool) : Option Bytes :=
  let k := tableKind id
  if k = 3 then some (if siding then storedMap s else mapBytes ((upFrom 0 32).map (limpSrc s)))
  else if k = 0x0B then some (s.ev.retired.flatMap retireBytes)
  else if siding then (if sidingState s = sEmpty then none else containerTable s.sets.siding k (tableInst id))
  else if k = 4 then
    (match containerTable (setFor s k) k (tableInst id) with
      | none => none
      | some _ => some (runningGains s (tableInst id)))
  else containerTable (setFor s k) k (tableInst id)

/-- The byte that entries beyond the end of a table's bytes are read as: 0xFF for the timetable, whose unused entries are so
(R160), and 0 elsewhere. -/
def tableFill (id : Nat) : Byte := if tableKind id = 1 then 0xFF#8 else 0#8

/-- TABLE_READ (R138, R832). -/
def runTableRead (p : Request) (s : State) : Answer :=
  let id := fieldAt p.params 0 2
  let set := fieldAt p.params 2 1
  let first := fieldAt p.params 4 2
  let count := fieldAt p.params 6 2
  match tableOf id with
  | none => refuse s St.badAddress
  | some (size, total) =>
    if set > 1 ∧ tableKind id ≠ 0x0B then refuse s St.badParam
    else if count * size > 1400 ∨ first + count > total then refuse s St.badLength
    else
      match tableBytes s id (set = 1) with
      | none => refuse s St.badAddress
      | some b =>
        let r := (b.drop (first * size)).take (count * size)
        ok s (r ++ List.replicate (count * size - r.length) (tableFill id))

/-- A container with bytes of a table written (R834, R835): a section shorter than the write reaches grows to hold it. -/
def containerWrite (c : Container) (kind inst off : Nat) (fill : Byte) (d : Bytes) : Container :=
  match findSection c kind inst with
  | none => c
  | some x =>
    if off + d.length ≤ x.length then writeSection c x off d
    else
      let b := sectionData c x
      replaceSection c x (putAt (b ++ List.replicate (off + d.length - b.length) fill) off d)

/-- TABLE_WRITE (R138, R139, R397, R832). DESIGN CHOICE: a SET or kind that cannot be written is answered before a length (log entry
204). -/
def runTableWrite (p : Request) (s : State) : Answer :=
  let id := fieldAt p.params 0 2
  let set := fieldAt p.params 2 1
  let first := fieldAt p.params 4 2
  let count := fieldAt p.params 6 2
  let k := tableKind id
  match tableOf id with
  | none => refuse s St.badAddress
  | some (size, total) =>
    let d := p.params.drop 8
    if set > 1 ∨ k = 3 ∨ k = 0x0B then refuse s St.badParam
    else if count * size > 1392 ∨ first + count > total ∨ d.length ≠ count * size then refuse s St.badLength
    else if set = 0 then
      if (containerTable (setFor s k) k (tableInst id)).isNone then refuse s St.badAddress
      else if k ≠ 4 then refuse s St.runningSet
      else
        let n := tableInst id
        if loopState s n ≠ lOpen then refuse s St.loopRunning
        else
          match containerTable s.sets.running 4 n with
          | none => refuse s St.badAddress
          | some _ =>
            ok { s with eng := { s.eng with gainEdits := putNum s.eng.gainEdits n (putAt (runningGains s n) (first * size) d) } } []
    else
      let absent :=
        match sidingForChange s with
        | none => true
        | some c => (findSection c k (tableInst id)).isNone
      if absent then refuse (if throwBars s then s else copiedSiding s) St.badAddress
      else if throwBars s then refuse s St.throwPending
      else ok (changeSiding (fun c => containerWrite c k (tableInst id) (first * size) (tableFill id) d) s).1 []

/-- PARAM_LEN of the table opcodes. -/
def lenTableInfo (ps : Bytes) : Bool := ps.length == 2
def lenTableRead (ps : Bytes) : Bool := ps.length == 8
def lenTableWrite (ps : Bytes) : Bool := decide (8 ≤ ps.length)

/-! ### BLOCK_UNLOCK and BLOCK_LOCK (R140) -/

/-- The base addresses of register blocks, by their high half. -/
def blockHalf (h : Nat) : Bool := h ≤ 0x10

/-- tUNLOCK. -/
def tUnlock : Nat := 300 * sec

/-- BLOCK_UNLOCK. -/
def runBlockUnlock (p : Request) (s : State) : Answer :=
  let h := fieldAt p.params 0 2
  if !blockHalf h then refuse s St.badParam
  else
    ok (modSession p.session.toNat (fun x =>
      { x with unlocked := x.unlocked.filter (fun e => e.1 != h) ++ [(h, s.now + tUnlock)] }) s) []

/-- BLOCK_LOCK. -/
def runBlockLock (p : Request) (s : State) : Answer :=
  let h := fieldAt p.params 0 2
  if !blockHalf h then refuse s St.badParam
  else ok (modSession p.session.toNat (fun x => { x with unlocked := x.unlocked.filter (fun e => e.1 != h) }) s) []

/-- An unlock or a lock needs the Signal die where it names a block of it. -/
def blockOnSignal (p : Request) : Bool := regOnSignal (fieldAt p.params 0 2 * 65536)

/-- UNLOCK_EXPIRY (R140): blocks of a session whose tUNLOCK has passed are locked again. -/
def unlockExpiry (n : Nat) (s : State) : State :=
  modSession n (fun x => { x with unlocked := x.unlocked.filter (fun e => decide (s.now < e.2)) }) s

/-! ### The rows -/

/-- REGISTER_WRITE (R26): the module's own software writes the bits of a mask in a register. -/
def execRegisterWrite (t : Nat) (a mask v : BitVec 32) (s : State) : Res :=
  let s := begin_ t s
  let w : RegWrite := { addr := a.toNat, mask := mask.toNat, value := v.toNat }
  let up := if regOnSignal a.toNat then s.die.sigUp else s.die.yardUp
  .next (if up && checkWrite s 0 w == St.ok then writeOne w s else s)

/-- UNLOCK_EXPIRY. -/
def execUnlockExpiry (t n : Nat) (s : State) : Res := .next (unlockExpiry n (begin_ t s))

end Sys2Proof.Machine
end

