-- ==== Sys2Proof/Machine/Sessions.lean ====
section
/-!
DEFINITION. The session opcodes (R96–R108, R125, R130), and what happens to sessions and requests with time (R66, R90, R91,
R102, R107, R118, R123).
-/

namespace Sys2Proof.Machine

/-! ### HELLO, IDENTIFY, ECHO, COUNTERS_READ (R130, R131) -/

/-- HELLO. -/
def runHello (_ : Request) (s : State) : Answer :=
  ok s (leBytes 4 (s.reg Reg.IDR_PART) ++ leBytes 1 (s.reg Reg.IDR_PKT_REV) ++ leBytes 1 (s.get F.IDR_ROLE_CUR_ROLE) ++
    leBytes 1 (joinNum s) ++ leBytes 1 0 ++ leBytes 8 (ownUid s) ++ leBytes 4 (s.reg Reg.IDR_SIG_FW) ++
    leBytes 4 (s.reg Reg.IDR_YARD_FW) ++ leBytes 4 (s.reg Reg.IDR_LINE_REV))

/-- IDENTIFY: the 64 bytes of the IDR block. -/
def runIdentify (_ : Request) (s : State) : Answer := ok s ((upFrom 0 16).flatMap (fun i => leBytes 4 (readWord s (4 * i))))

/-- ECHO. -/
def runEcho (p : Request) (s : State) : Answer := ok s p.params

/-- COUNTERS_READ. -/
def runCountersRead (_ : Request) (s : State) : Answer :=
  let k := s.pk
  ok s ([k.received, k.replied, k.badLength, k.badMagic, k.badCrc, k.badAuth, k.authFailed, k.fwdTimeouts].flatMap (leBytes 4))

/-! ### Opening (R98, R100–R103, R106) -/

/-- tOPEN_PENDING and tSESSION_IDLE. -/
def tOpenPending : Nat := 5 * sec
def tSessionIdle : Nat := 30 * sec

/-- The 32-byte key of a level; the key of the delivery record while none has been set. -/
def levelKey (s : State) (l : Nat) : Bytes :=
  match nth s.pk.levelKeys (l - 1) [] with
  | [] => leBytes 32 (Config.deliveredKey l).toNat
  | k => k

/-- M of R101. -/
def openingText (s : State) (x : Session) : Bytes :=
  leBytes 1 x.level ++ leBytes 2 x.num ++ x.hostNonce ++ x.moduleNonce ++ leBytes 8 (ownUid s)

/-- "GZV-HOST", "GZV-MOD" and "GZV-KEY". -/
def labelHost : Bytes := ascii [0x47, 0x5A, 0x56, 0x2D, 0x48, 0x4F, 0x53, 0x54]
def labelMod : Bytes := ascii [0x47, 0x5A, 0x56, 0x2D, 0x4D, 0x4F, 0x44]
def labelKey : Bytes := ascii [0x47, 0x5A, 0x56, 0x2D, 0x4B, 0x45, 0x59]

/-- A value of R101 for a session. -/
def proofOf (label : Bytes) (s : State) (x : Session) : Bytes := hmacSha256 (levelKey s x.level) (label ++ openingText s x)

/-- The time awake since manufacture, ns (R106, R722). -/
def timeAwake (s : State) : Nat := s.get F.EVR_OPSEC_OPSEC * sec + partSecond s

/-- The lockout of a level that remains, ns (R106). -/
def lockout (s : State) (l : Nat) : Nat :=
  let (n, at_) := nth s.pk.failures (l - 1) (0, 0)
  if n < 8 then 0 else at_ + 2 ^ min 8 (n - 8) * sec - timeAwake s

/-- The failure counter of a level changed. -/
def setFailures (l : Nat) (v : Nat × Nat) (s : State) : State :=
  { s with pk := { s.pk with failures := setNth s.pk.failures (l - 1) v } }

/-- The numbers that a SESSION_OPEN allocates from: 1–12 on the HOST port of the terminus, else 13–16 (R98). -/
def openRange (s : State) (via : Transport) : List Nat :=
  match via with
  | .host _ _ => if isTerminus s then upFrom 1 12 else upFrom 13 4
  | _ => upFrom 13 4

/-- Reserved numbers whose tOPEN_PENDING has passed are released (R102). -/
def dropPending (s : State) : State :=
  { s with pk := { s.pk with sessions := s.pk.sessions.filter (fun x => x.isOpen || decide (s.now < x.openBy)) } }

/-- When a session of the range would be free again (R69). -/
def freeAt (x : Session) : Nat := if x.isOpen then x.lastAuth + tSessionIdle else x.openBy

/-- The retry-after of SESSIONS_FULL (R69). -/
def fullRetry (s : State) (range : List Nat) : Nat :=
  match (s.pk.sessions.filter (fun x => range.contains x.num)).map freeAt with
  | [] => ms
  | t :: l => max 1 (l.foldl min t - s.now)

/-- Phase 1: a number is reserved (R98, R100). A repetition, with the HOST_NONCE and LEVEL of an opening that goes on, finds its
number reserved and reserves no other (R114). -/
def openPhase1 (p : Request) (s : State) : Answer :=
  let l := fieldAt p.params 1 1
  let s := dropPending s
  let range := openRange s p.via
  if p.session.toNat ≠ 0 then refuse s St.noSession
  else if l = 0 ∨ 3 < l then refuse s St.badParam
  else if lockout s l ≠ 0 then { refuse s St.authLockout with retry := lockout s l }
  else
    match s.pk.sessions.find? (fun x => range.contains x.num && x.level == l && x.hostNonce == (p.params.drop 4).take 16) with
    | some x => ok s (leBytes 2 x.num ++ leBytes 2 0 ++ x.moduleNonce ++ leBytes 8 (ownUid s))
    | none =>
    match range.find? (fun n => (findSession s n).isNone) with
    | none => { refuse s St.sessionsFull with retry := fullRetry s range }
    | some n =>
      let nonce := leBytes 16 (Config.moduleNonce s.drawn).toNat
      let x : Session := {
        num := n, isOpen := false, level := l, key := [], hostNonce := (p.params.drop 4).take 16, moduleNonce := nonce,
        openBy := s.now + tOpenPending, h := 0, seen := 1, records := [], lastAuth := s.now, via := p.via, unlocked := [],
        evQueue := [], evLost := 0 }
      ok { putSession x s with drawn := s.drawn + 1 } (leBytes 2 n ++ leBytes 2 0 ++ nonce ++ leBytes 8 (ownUid s))

/-- The holder of the terminus role tells the modules in the timetable that a Line-wide session has opened or closed (R103,
R108). -/
def tellSession (opcode n : Nat) (s : State) : State :=
  if isTerminus s && decide (n ≤ 12) then
    foldOver (fun s (m : Member) => emit (.instruct m.num opcode (leBytes 2 n)) s) s
      (s.line.members.filter (fun m => packetsReach m && m.num != joinNum s))
  else s

/-- A phase 2 fails: the number is released while it is only reserved, and the failure counted (R102, R106). -/
def openFails (x : Session) (s : State) : Answer :=
  let n := (nth s.pk.failures (x.level - 1) (0, 0)).1
  let s := setFailures x.level (n + 1, timeAwake s) (if x.isOpen then s else endSession x.num s)
  refuse { s with pk := { s.pk with authFailed := (s.pk.authFailed + 1) % 4294967296 } } St.authFailed

/-- Phase 2 (R100–R103). A repeated one, on the session it has opened, is answered as before (R114); one whose proof or LEVEL does not
match is AUTH_FAILED on an open number too, and ends nothing there. -/
def openPhase2 (p : Request) (s : State) : Answer :=
  match findSession s p.session.toNat with
  | none => refuse s St.noSession
  | some x =>
    let good := fieldAt p.params 1 1 == x.level && decide ((p.params.drop 4).take 32 = proofOf labelHost s x)
    if x.isOpen then (if good then ok s (proofOf labelMod s x) else openFails x s)
    else if x.openBy ≤ s.now then refuse (dropPending s) St.noSession
    else if !good then openFails x s
    else
      let y : Session := { x with
        isOpen := true, key := proofOf labelKey s x, h := 0, seen := 1, records := [], lastAuth := s.now, via := p.via }
      ok (tellSession 0x0002 x.num (setFailures x.level (0, 0) (putSession y s))) (proofOf labelMod s x)

/-- SESSION_OPEN (R100). -/
def runSessionOpen (p : Request) (s : State) : Answer :=
  if fieldAt p.params 0 1 = 1 then openPhase1 p s
  else if fieldAt p.params 0 1 = 2 then openPhase2 p s
  else refuse s St.badParam

/-- PARAM_LEN of SESSION_OPEN. -/
def lenSessionOpen (ps : Bytes) : Bool := ps.length == (if fieldAt ps 0 1 = 2 then 36 else 20)

/-! ### Close, keep, key, cancel (R104, R107, R108, R125) -/

/-- SESSION_CLOSE. -/
def runSessionClose (p : Request) (s : State) : Answer :=
  { ok (if forwardedIn p then s else tellSession 0x0003 p.session.toNat s) [] with closes := true }

/-- SESSION_KEEP: the arrival of the packet has reset the idle timer. -/
def runSessionKeep (_ : Request) (s : State) : Answer := ok s []

/-- The key that SESSION_KEY_SET carries, unwrapped where it came from a host (R104). -/
def newKey (p : Request) (s : State) : Bytes :=
  let k := (p.params.drop 4).take 32
  if forwardedIn p then k
  else
    match findSession s p.session.toNat with
    | none => k
    | some x => xorBytes k (hmacSha256 x.key (ascii [0x47, 0x5A, 0x56, 0x2D, 0x57, 0x52, 0x41, 0x50] ++ leBytes 4 p.sequence.toNat))

/-- SESSION_KEY_SET. -/
def runSessionKeySet (p : Request) (s : State) : Answer :=
  let l := fieldAt p.params 0 1
  if l = 0 ∨ 3 < l then refuse s St.badParam
  else
    let keys := (s.pk.levelKeys ++ List.replicate (3 - s.pk.levelKeys.length) []).take 3
    ok { s with pk := { s.pk with levelKeys := setNth keys (l - 1) (newKey p s) } } []

/-- REQUEST_CANCEL: a queued request of the same session is removed (R125). -/
def runRequestCancel (p : Request) (s : State) : Answer :=
  let seq := fieldAt p.params 0 4
  match s.pk.waiting.find? (fun w => isWaitingFor p.session.toNat seq w && w.job == .queued) with
  | none => refuse s St.notCancelled
  | some w => ok (completeWaiting w (joinNum s) St.cancelled 0 [] s) []

/-! ### Time (R102, R107, R123) -/

/-- The interim replies whose tINTERIM_REPEAT has ended (R123). -/
def repeatInterims (s : State) : State :=
  if !serving s then s
  else
    let isDue := fun (w : Waiting) => !w.orphan && decide (w.interimAt ≤ s.now)
    let l := s.pk.waiting.filter isDue
    let s := { s with pk := { s.pk with waiting := s.pk.waiting.map (fun w =>
      if isDue w then { w with interimAt := w.interimAt + 20 * ms } else w) } }
    foldOver (fun s (w : Waiting) => sendPacket w.req.via (interimReply s w) s) s l

/-- The reply of the phase 1 that has reserved a number still waits for the mirror (R102, R118). -/
def replyHeld (n : Nat) (s : State) : Bool :=
  s.pk.waiting.any (fun w =>
    match w.job with
    | .mirror r => w.opcode == 0x0002 && r.session == 0 && fieldAt r.result 0 2 == n
    | _ => false)

/-- A reserved number is released (R102). -/
def openPendingExpiry (n : Nat) (s : State) : State :=
  match findSession s n with
  | none => s
  | some x => if !x.isOpen && !replyHeld n s && decide (x.openBy ≤ s.now) then endSession n s else s

/-- This module holds a session itself, not as a record of the holder's (R113, R118). -/
def ownsSession (n : Nat) (s : State) : Bool := isTerminus s || decide (13 ≤ n)

/-- A session closes after tSESSION_IDLE (R107). -/
def idleClose (n : Nat) (s : State) : State :=
  match findSession s n with
  | none => s
  | some x =>
    if x.isOpen && ownsSession n s && decide (x.lastAuth + tSessionIdle ≤ s.now) then endSession n (tellSession 0x0003 n s) else s

/-! ### Replies that came or wait (R66, R90, R118, R718) -/

/-- An arming reply OK of a module for the throw that this holder runs (R244, R246). -/
def noteArmed (n : Nat) (r : Reply) (s : State) : State :=
  match s.sets.throw with
  | none => s
  | some t =>
    if r.sequence = t.cycle ∧ r.status = St.ok ∧ t.armedOk.contains n = false then
      { s with sets := { s.sets with throw := some { t with armedOk := t.armedOk ++ [n] } } }
    else s

/-- A packet of a module reaches the holder of the terminus role (R90): an EVENT goes to the host of its session, a reply to the
request it answers. A packet whose trailer is wrong is not examined. -/
def forwardedReply (n : Nat) (r : Reply) (s : State) : State :=
  if !isTerminus s || !s.die.yardUp || crc32c (replyBody r r.auth) != r.crc then s
  else if r.session = 0 ∧ r.opcode = 0x0202 then noteArmed n r s
  else if bitAt r.flags 3 then
    match findSession s r.session with
    | none => s
    | some x => if x.isOpen then transmit x.via (sealReply (eventKey x) { r with flags := setBitsAt r.flags 2 1 0, auth := 0, crc := 0 }) s else s
  else takeForwardedReply n r s

/-- The completed record of a request has been mirrored (R118): the mirror entries of a cycle that has ended have all left after it
completed. DESIGN CHOICE: while the running set has no mirror entry nothing can carry it, and the reply leaves after the cycle in which
the request completed (log entry 153). -/
def mirrored (s : State) (w : Waiting) : Bool :=
  if !reliefPresent s then true
  else if (slots s).any isMirrorEntry then
    match s.line.mirrorDone with
    | none => false
    | some t => decide (w.arrived ≤ t)
  else decide (((w.arrived : Int) + s.devOff) / (ms : Int) < (deviceTime s / ms : Nat))

/-- tOPEN_PENDING of a reserved number runs from the reply of its phase 1 (R102). -/
def openFrom (op : Nat) (r : Reply) (s : State) : State :=
  if op = 0x0002 then
    modSession (if r.session = 0 then fieldAt r.result 0 2 else r.session)
      (fun x => if x.isOpen then x else { x with openBy := s.now + tOpenPending }) s
  else s

/-- The final replies whose records the mirror has carried leave (R118). -/
def releaseMirrored (s : State) : State :=
  if !s.die.yardUp then s
  else
    foldOver (fun s (w : Waiting) =>
      match w.job with
      | .mirror r =>
        if !mirrored s w then s
        else
          let s := dropWaiting w.req.session.toNat w.req.sequence.toNat s
          let s := modSession w.req.session.toNat (fun x =>
            match findRecord x w.req.sequence.toNat with
            | none => x
            | some q => putRecord { q with state := .done } x) s
          if w.orphan then s else sendPacket w.req.via r (openFrom w.opcode r s)
      | _ => s) s s.pk.waiting

/-- The oldest servable request is served (R65). -/
def serveStanding (tbl : Nat → Option OpInfo) (s : State) : State :=
  if !serving s then s
  else
    match oldestServable tbl s with
    | none => s
    | some w => serveOne tbl w s

/-- Requests that left their queue with a restart of their die are answered once it runs again (R66). -/
def answerDropped (s : State) : State :=
  if !s.die.sigUp || !s.die.yardUp || s.die.dropped.isEmpty then s
  else
    let l := s.die.dropped.filter (fun w => transportOpen s w.req.via)
    let s := { s with die := { s.die with dropped := s.die.dropped.filter (fun w => !transportOpen s w.req.via) } }
    foldOver (fun s (w : Waiting) =>
      if w.orphan || (findSession s w.req.session.toNat).isNone then s
      else
        finish false w.opcode w.req (joinNum s) St.ownerRestart ms [] (holdOff w.opcode w.req St.ownerRestart ms s)) s l

/-! ### ARP and ICMP on the HOST port (R87, R89) -/

/-- The address of the HOST port without a running set: 192.168.64.10 on the terminus, 192.168.64.11 on the relief terminus;
with one, that of its fleet parameters (R87). DESIGN CHOICE: without a running set the address follows the role at a takeover (log
entry 207). -/
def hostAddress (s : State) : BitVec 32 :=
  match yardSet s with
  | none => if isRelief s then 0xC0A8400B#32 else 0xC0A8400A#32
  | some c => Config.hostAddress c.data (isRelief s)

/-- The subnet mask of the HOST port: 255.255.255.0 without a running set, with one that of its fleet parameters (R87). -/
def hostMask (s : State) : BitVec 32 :=
  match yardSet s with
  | none => 0xFFFFFF00#32
  | some c => Config.hostMask c.data

/-- The don't-fragment bit of what leaves as an IPv4 datagram (R89); none where something else leaves. -/
def dontFragment : Emit → Option Bool
  | .packet (.host _ _) _ => some true
  | .datagram _ _ _ => some true
  | .netReply _ (.echo _) => some true
  | _ => none

/-- The HOST port answers an ARP request for its address and an ICMP echo. -/
def hostProbe (q : NetProbe) (s : State) : State :=
  let up := s.die.yardUp && islandOpen s 10 && (isTerminus s || isRelief s) && !s.flag F.IDR_STRAP_STRAP_FAULT
  let mine := match q with
    | .arp ip => ip == hostAddress s
    | .echo _ => true
  if up && mine then emit (.netReply true q) s else s

/-! ### The rows -/

/-- INTERIM_REPEAT (R123). -/
def execInterimRepeat (t : Nat) (s : State) : Res := .next (repeatInterims (begin_ t s))

/-- FORWARD_TIMEOUT (R91). -/
def execForwardTimeout (t : Nat) (s : State) : Res :=
  let s := begin_ t s
  .next (if s.die.yardUp then forwardTimeouts s else s)

/-- OPEN_PENDING_EXPIRY (R102). -/
def execOpenPendingExpiry (t n : Nat) (s : State) : Res := .next (openPendingExpiry n (begin_ t s))

/-- SESSION_IDLE_CLOSE (R107). -/
def execSessionIdleClose (t n : Nat) (s : State) : Res := .next (idleClose n (begin_ t s))

/-- FORWARDED_REPLY (R90): a packet of the module with a join number. -/
def execForwardedReply (t n : Nat) (r : Reply) (s : State) : Res := .next (forwardedReply n r (begin_ t s))

/-- MIRRORED_REPLY_RELEASE (R118). -/
def execMirroredReplyRelease (t : Nat) (s : State) : Res := .next (releaseMirrored (begin_ t s))

/-- OWNER_RESTART_REPLY (R66). -/
def execOwnerRestartReply (t : Nat) (s : State) : Res := .next (answerDropped (begin_ t s))

/-- HOST_ARP_ICMP (R89). -/
def execHostArpIcmp (t : Nat) (q : NetProbe) (s : State) : Res := .next (hostProbe q (begin_ t s))

end Sys2Proof.Machine
end

