-- ==== Sys2Proof/Machine/LineFrames.lean ====
section
/-!
DEFINITION. Frames of the Line (R149–R156): layout, checks, what a port counts, and the sending of best-effort frames
(R158, R159, R176–R179).
-/

namespace Sys2Proof.Machine

/-! ### Layout (R149–R155) -/

/-- Header bytes 0–13 (R150). -/
def frameHead (f : LineFrame) : Bytes :=
  leBytes 1 f.type.toNat ++ leBytes 1 f.src.toNat ++
    leBytes 2 (f.entry.toNat + 4096 * b2n f.dir + 8192 * b2n f.turned + 16384 * b2n f.pastSender) ++
    leBytes 1 f.hops.toNat ++ leBytes 1 f.len.toNat ++ leBytes 1 f.dest.toNat ++ [0#8] ++
    leBytes 4 f.cycle.toNat ++ leBytes 2 f.setId.toNat

/-- HCRC of a header: CRC-16, polynomial 0x1021, initial value 0xFFFF (R150). -/
def headCrc (f : LineFrame) : Nat := crcMsb 16 0x1021 0xFFFF (frameHead f)

/-- The FCS of a frame: CRC-32 over the header and the payload (R153). -/
def frameCheck (f : LineFrame) : Nat := crc32 (frameHead f ++ leBytes 2 f.hcrc.toNat ++ f.payload)

/-- The frame with its HCRC and FCS right. -/
def sealFrame (f : LineFrame) : LineFrame :=
  let f := { f with hcrc := BitVec.ofNat 16 (headCrc f) }
  { f with fcs := BitVec.ofNat 32 (frameCheck f) }

/-- The header passes HCRC (R154). -/
def headGood (f : LineFrame) : Bool := f.hcrc.toNat == headCrc f

/-- The frame is whole: header and FCS right, the payload of the length that LEN gives. -/
def frameGood (f : LineFrame) : Bool :=
  headGood f && f.fcs.toNat == frameCheck f && f.payload.length == 64 * f.len.toNat

/-- The frame is marked: it ends with the inverse of the correct FCS (R154). -/
def frameMarked (f : LineFrame) : Bool := headGood f && f.fcs.toNat == 4294967295 - frameCheck f

/-- Bytes that a frame occupies (R149). -/
def frameBytes (f : LineFrame) : Nat := 40 + 64 * f.len.toNat

/-- A frame of the reserved window (R152). -/
def isReserved (f : LineFrame) : Bool := f.type.toNat == 1 || f.type.toNat == 2 || f.type.toNat == 3

/-- A frame that crosses one link only (R152, R156). -/
def oneHop (f : LineFrame) : Bool := f.type.toNat == 0x12 || f.type.toNat == 0x13 || f.type.toNat == 0x14

/-- A frame as it is passed on: with its checks right, or, where the received frame was bad, with the inverse of the FCS, which marks
it (R154, R833). -/
def passedOn (received next : LineFrame) : LineFrame :=
  let g := sealFrame next
  if frameGood received then g else { g with fcs := ~~~g.fcs }

/-! ### Ports -/

/-- The ports, east where true. -/
def port (s : State) (east : Bool) : PortState := if east then s.line.east else s.line.west

/-- A port changed. -/
def modPort (east : Bool) (f : PortState → PortState) (s : State) : State :=
  if east then { s with line := { s.line with east := f s.line.east } }
  else { s with line := { s.line with west := f s.line.west } }

/-- E_UP or W_UP; E_END or W_END; E_RETIRED or W_RETIRED (R216). -/
def upField (east : Bool) : Fld := if east then F.LIN_STATUS_E_UP else F.LIN_STATUS_W_UP
def endField (east : Bool) : Fld := if east then F.LIN_STATUS_E_END else F.LIN_STATUS_W_END
def retiredField (east : Bool) : Fld := if east then F.LIN_STATUS_E_RETIRED else F.LIN_STATUS_W_RETIRED
def delayField (east : Bool) : Fld := if east then F.LIN_DELAY_E_DELAY else F.LIN_DELAY_W_DELAY

/-- The port is linked, and the Yard die drives it. The Line ports stop while no reference is left (R609). -/
def portUp (s : State) (east : Bool) : Bool := s.die.yardUp && s.flag (upField east) && !s.flag F.CLK_STATUS_BOTH_LOST

/-- The port is a ring end (R198, R201). -/
def portEnd (s : State) (east : Bool) : Bool := s.flag (endField east)

/-- Frames other than CHECK pass the port. -/
def portOpen (s : State) (east : Bool) : Bool := portUp s east && !portEnd s east

/-- A frame leaves a port. -/
def sendPort (east : Bool) (f : LineFrame) (s : State) : State := emit (.lineFrame east f) s

/-- A link error is counted (R155, R200). -/
def linkError (east : Bool) (s : State) : State :=
  modPort east (fun p => { p with errors := p.errors + 1, goodChecks := if p.restoreAt.isSome then p.goodChecks else 0 })
    (s.bump (if east then F.LIN_ERR_E_LINK_ERR else F.LIN_ERR_W_LINK_ERR) 1)

/-- What a port counts of a frame that it does not deliver: marked, or bad on its own link (R155, R833). -/
def countBad (east : Bool) (f : LineFrame) (s : State) : State :=
  if frameMarked f then s.bump (if east then F.LIN_ERR_E_MARKED else F.LIN_ERR_W_MARKED) 1 else linkError east s

/-! ### Codes and counts -/

/-- SRC of a best-effort frame of this module: its role, else its join number, else 0x7F (R151). -/
def ownSrc (s : State) : Nat :=
  if isTerminus s then 0x40 else if isRelief s then 0x41 else if s.role.joined then joinNum s else 0x7F

/-- SRC names this module: its join number or a role that it holds (R156). -/
def srcIsOwn (s : State) (src : Nat) : Bool :=
  (s.role.joined && decide (src < 64) && src == joinNum s) || (isTerminus s && src == 0x40) || (isRelief s && src == 0x41)

/-- The join number of the module that an SRC names, where this module knows it: 0x40 is the holder of the terminus role. -/
def numOfSrc (s : State) (src : Nat) : Option Nat :=
  if src < 64 then some src
  else if src = 0x40 then some (s.get F.LIN_POS_MASTER_NUM)
  else if src = 0x41 then (s.line.members.find? (fun m => m.relief && m.result == 0)).map (fun m => m.num)
  else none

/-- A frame from a module has been accepted in this cycle (R189, R191, R211). -/
def noteHeard (src : Nat) (s : State) : State :=
  match numOfSrc s src with
  | none => s
  | some n => if s.line.heard.contains n then s else { s with line := { s.line with heard := n :: s.line.heard } }

/-- The modules heard in this cycle, this one with them. -/
def heardCount (s : State) : Nat :=
  if s.role.joined && s.line.heard.contains (joinNum s) then s.line.heard.length else s.line.heard.length + 1

/-- A cycle number of 32 bits is reached or past. -/
def cycleReached (now c : Nat) : Bool := decide ((now + 4294967296 - c) % 4294967296 < 2147483648)

/-- The frame is one of this module's own: by SRC, and by IDR_UID for a JOIN of a module without a number (R151, R177). -/
def beOwn (s : State) (f : LineFrame) : Bool :=
  srcIsOwn s f.src.toNat || (f.src.toNat == 0x7F && f.type.toNat == 0x10 && fieldAt f.payload 0 8 == ownUid s)


/-- RES_END in ns (R158). -/
def resEnd (s : State) : Nat := s.get F.LIN_CFG_RES_END * 20

/-- Device time within the cycle, ns. -/
def inCycle (s : State) : Nat := deviceTime s % ms

/-- The best-effort window (R158). -/
def inBestEffort (s : State) : Bool := decide (resEnd s ≤ inCycle s)

/-- A mark of the cycle is set. -/
def doneNow (s : State) (k : Nat) : Bool := s.line.done.contains k
def markDone (k : Nat) (s : State) : State := { s with line := { s.line with done := k :: s.line.done } }


/-! ### Best-effort frames (R159, R176–R179) -/

/-- A best-effort frame is discarded and counted (R159, R179, R223). -/
def dropBe (s : State) : State := s.bump F.LIN_DROP_BE_DROP 1

/-- The frames that still leave a port or wait in it. -/
def portBusy (s : State) (east : Bool) : List (Nat × Nat × Nat) := (port s east).busy.filter (fun e => decide (5 * s.now < e.2.1))

/-- How long the best-effort window is still away, ns; 0 within it (R152, R158). -/
def windowWait (s : State) : Nat := resEnd s - inCycle s

/-- A best-effort frame leaves a port in the best-effort window, after those before it, from its buffer of 16 KiB where it waits, if
its last bit leaves before the next cycle begins; else it is discarded and counted (R152, R159, R179). Times are in units of 0.2 ns.
DESIGN CHOICE: a frame takes of the buffer the bytes that it occupies on the wire, 40 + 64 × LEN; R179 does not say what it takes
(log entry 163). -/
def leaveBe (east : Bool) (f : LineFrame) (s : State) : State :=
  let l := portBusy s east
  let opens := 5 * (s.now + windowWait s)
  let start := match l.getLast? with
    | none => opens
    | some e => max opens e.2.1
  let finish_ := start + duration5 f.len.toNat
  let waits := ((l.filter (fun e => decide (5 * s.now < e.1))).map (fun e => e.2.2)).foldl (· + ·) 0
  if !portUp s east then dropBe s
  else if start ≠ 5 * s.now ∧ waits + frameBytes f > 16384 then dropBe s
  else if 5 * ms ≤ 5 * inCycle s + (finish_ - 5 * s.now) then dropBe s
  else sendPort east f (modPort east (fun p => { p with busy := l ++ [(start, finish_, frameBytes f)] }) s)

/-- A best-effort frame of this module, without its direction. -/
def beFrame (s : State) (type dest : Nat) (payload : Bytes) : LineFrame :=
  let len := (payload.length + 63) / 64
  { type := BitVec.ofNat 8 type, src := BitVec.ofNat 8 (ownSrc s), entry := 0xFFF#12, dir := false, turned := false,
    pastSender := false, hops := 1#8, len := BitVec.ofNat 8 len, dest := BitVec.ofNat 8 dest,
    cycle := BitVec.ofNat 32 (cycle32 s), setId := BitVec.ofNat 16 (ownSetId s), hcrc := 0#16,
    payload := padTo (64 * len) payload, fcs := 0#32 }

/-- The links to the holder of the terminus role, eastward and westward, as the copies of CYCLE_START of this cycle counted them: the
westward copy has come over the eastward way, and the other over the westward way. -/
def holderHops (s : State) : Option (Nat × Nat) :=
  let n := s.get F.LIN_CFG_N_LINE
  if 0 < s.line.hopsW ∧ 0 < s.line.hopsE then some (s.line.hopsW, s.line.hopsE)
  else if 0 < s.line.hopsW ∧ 0 < n then some (s.line.hopsW, n - s.line.hopsW)
  else if 0 < s.line.hopsE ∧ 0 < n then some (n - s.line.hopsE, s.line.hopsE)
  else none

/-- The links eastward from the place of a holder, named by its join number, to a module whose JOIN it answered, where this module
knows them (R170, R183). -/
def ringPlace (s : State) (origin num : Nat) : Option Nat :=
  if num = origin then some 0
  else (s.line.members.find? (fun m => m.num == num && m.result == 0 && m.origin == origin)).map (fun m => m.posE)

/-- The links eastward from this module to another one: both places are known from one holder's place (R176). After a takeover the
modules that have joined again count from the new holder's place, and the others from the former one's. -/
def eastHops (s : State) (num : Nat) : Option Nat :=
  let n := s.get F.LIN_CFG_N_LINE
  let between := fun o =>
    match ringPlace s o (joinNum s), ringPlace s o num with
    | some a, some b => some ((b + n - a % n) % n)
    | _, _ => none
  (joinNum s :: 0 :: s.line.members.map (fun m => m.origin)).findSome? between

/-- The direction of a best-effort frame: that of fewer hops to its DEST, eastward where equal, for 0xFF, and where the
module does not know both counts (R176). -/
def beEast (s : State) (dest : Nat) : Bool :=
  let n := s.get F.LIN_CFG_N_LINE
  let known := if dest = s.get F.LIN_POS_MASTER_NUM && !isTerminus s then holderHops s else none
  match known, eastHops s dest with
  | some (e, w), _ => decide (e ≤ w)
  | none, none => true
  | none, some e => decide (dest = 0xFF ∨ n = 0 ∨ e ≤ (n - e) % n)

/-- A frame of this module may leave a port now: the window is open, no frame is before it, and no request CHECK is owed on the port,
which goes first (R179, R200). -/
def ownMayLeave (s : State) (east : Bool) : Bool :=
  inBestEffort s && (portBusy s east).isEmpty && !((port s east).pendingErr && !doneNow s 4)

/-- The port of a best-effort frame of this module: where its direction is a ring end, the other one (R176). -/
def bePort (s : State) (dest : Nat) : Bool := if portOpen s (beEast s dest) then beEast s dest else !beEast s dest

/-- A best-effort frame of this module leaves, one way only; with both ports ring ends it is discarded and counted (R176). -/
def sendBeNow (type dest : Nat) (payload : Bytes) (s : State) : State :=
  let e := bePort s dest
  if portOpen s e then leaveBe e (sealFrame { beFrame s type dest payload with dir := !e }) s else dropBe s

/-- A best-effort frame of this module leaves at once or, while forwarded frames take precedence, waits (R176, R179). -/
def sendBe (type dest : Nat) (payload : Bytes) (s : State) : State :=
  if portOpen s (bePort s dest) && !ownMayLeave s (bePort s dest) then offerBe type dest payload s else sendBeNow type dest payload s

/-- What stands for the DEST of a waiting frame of one hop. -/
def hopDest (east : Bool) : Nat := 0x100 + b2n east

/-- A one-hop frame leaves a port; one that waited while its link was retired is discarded, unless it is a CHECK frame (R201). -/
def sendHopNow (east : Bool) (type : Nat) (payload : Bytes) (s : State) : State :=
  if type ≠ 0x14 ∧ isRetired 2 (b2n east) 0 s = true then dropBe s
  else leaveBe east (sealFrame { beFrame s type 0 payload with dir := !east }) s

/-- A one-hop frame leaves a port at once or waits; a CHECK frame waits ahead of the module's other frames (R179, R200). -/
def sendHop (east : Bool) (type : Nat) (payload : Bytes) (s : State) : State :=
  if !portUp s east then sendHopNow east type payload s
  else if type = 0x14 then
    (if inBestEffort s && (portBusy s east).isEmpty then sendHopNow east type payload s
    else { s with line := { s.line with beQueue := (type, hopDest east, payload) :: s.line.beQueue } })
  else if ownMayLeave s east then sendHopNow east type payload s
  else offerBe type (hopDest east) payload s

/-- A waiting frame of this module leaves. -/
def sendWaiting (type dest : Nat) (payload : Bytes) (s : State) : State :=
  if 0x100 ≤ dest then sendHopNow (dest == hopDest true) type payload s else sendBeNow type dest payload s

/-- The port that a waiting frame of this module leaves by. -/
def waitingPort (s : State) (dest : Nat) : Bool := if 0x100 ≤ dest then dest == hopDest true else bePort s dest

/-! ### CHECK frames (R199–R202) -/

/-- The payload of a CHECK frame: byte 0 its flags: 0 a request of R200, 1 the sender holds a retirement entry, 2 it asks for
removal of the receiver's, 3 it names the restoring cycle, 4 the sender's port is a ring end, 5 it answers a request of
R200; bytes 4–7 that cycle. The spec gives no layout. -/
def checkBytes (s : State) (east request answer : Bool) (restore : Option Nat) : Bytes :=
  leBytes 1 (b2n request + 32 * b2n answer + 2 * b2n (isRetired 2 (b2n east) 0 s) + 4 * b2n (port s east).asking + 8 * b2n restore.isSome +
      16 * b2n (portEnd s east)) ++ leBytes 3 0 ++ leBytes 4 (restore.getD 0)

/-- The E side names the restoring cycle once 16 CHECK frames in a row have crossed the link and neither end holds an entry
(R199, R202). -/
def namesRestore (s : State) (east : Bool) : Option Nat :=
  let p := port s east
  if p.restoreAt.isSome then p.restoreAt
  else if east && decide (16 ≤ p.goodChecks) && !isRetired 2 1 0 s && !p.peerRetired then some ((cycle32 s + 1) % 4294967296)
  else none

/-- A CHECK frame leaves a port. -/
def sendCheck (east request answer : Bool) (s : State) : State :=
  let r := namesRestore s east
  sendHop east 0x14 (checkBytes s east request answer r) (modPort east (fun p => { p with restoreAt := r }) s)

/-- A port sends a CHECK frame in this cycle: towards its restoration, to ask for removal, or to ask for one (R199, R200,
R202). -/
def checkOwed (s : State) (east : Bool) : Bool :=
  portUp s east && (portEnd s east || (port s east).asking || (port s east).pendingErr)

/-- The CHECK frames of the cycle, ahead of the module's other best-effort frames (R200). -/
def sendChecks (s : State) : State :=
  let s := markDone 4 s
  let one := fun (east : Bool) (s : State) => if checkOwed s east then sendCheck east (port s east).pendingErr false s else s
  one true (one false s)

/-! ### Retirement of a link (R200–R202) -/

/-- A link is retired: its port is a ring end, and the entry survives power cycles (R201). -/
def retireLink (east : Bool) (s : State) : State :=
  let i := b2n east
  let s := retire 2 0 i 0 s
  let s := (s.put (retiredField east) 1).put (endField east) 1
  let s := modPort east (fun p => { p with pendingErr := false, goodChecks := 0, restoreAt := none, asking := false }) s
  raise Src.LIN_LINK_RETIRED i (fault 0x11 2 Src.LIN_LINK_RETIRED i 0 0 0 s)

/-- The judgement of R200 at the end of a cycle. -/
def linkClassify (east : Bool) (s : State) : State :=
  let k := 1 + b2n east
  if !cycleOver s || doneNow s k then s
  else
    let p := port s east
    let s := markDone k s
    if isRetired 2 (b2n east) 0 s then s
    else if p.errors > 0 then
      if p.pendingErr then retireLink east s
      else modPort east (fun p => { p with pendingErr := true, lastErrors := p.errors }) s
    else if p.pendingErr then
      if !p.checkOk then retireLink east s
      else
        let s := modPort east (fun p => { p with pendingErr := false }) s
        raise Src.LIN_LINK_TRANSIENT (b2n east) (fault 0x10 1 Src.LIN_LINK_TRANSIENT (b2n east) p.lastErrors 0 0 s)
    else s

/-- A retirement entry of a port is removed (R202). -/
def unretireLink (east : Bool) (s : State) : State := (unretire 2 (b2n east) 0xFF s).put (retiredField east) 0

/-- LINK_REINSTATE (R202). -/
def runLinkReinstate (p : Request) (s : State) : Answer :=
  let i := fieldAt p.params 0 1
  if i > 1 then refuse s St.badParam
  else if !isRetired 2 i 0 s then ok s []
  else ok (modPort (i == 1) (fun p => { p with asking := true, goodChecks := 0 }) (unretireLink (i == 1) s)) []

/-- A CHECK frame of the neighbour arrives (R199–R202). One that shows a retirement entry of the neighbour for this link has this end
retire it too (R201), but while this module asks for the removal of that entry (R202). -/
def checkReceive (east : Bool) (f : LineFrame) (s : State) : State :=
  if !portUp s east then s
  else if !frameGood f then countBad east f s
  else if f.type.toNat ≠ 0x14 then s
  else
    let b := fieldAt f.payload 0 1
    let named := fieldAt f.payload 4 4
    let s := if bitAt b 2 && isRetired 2 (b2n east) 0 s then unretireLink east s else s
    let s := if bitAt b 1 && !(port s east).asking && !isRetired 2 (b2n east) 0 s then retireLink east s else s
    let s := modPort east (fun p => { p with
      checkSeen := true, checkOk := p.checkOk || bitAt b 5, goodChecks := p.goodChecks + 1, peerRetired := bitAt b 1,
      asking := p.asking && bitAt b 1,
      restoreAt := if !east && bitAt b 3 && !isRetired 2 (b2n east) 0 s then some named else p.restoreAt }) s
    let answer := bitAt b 0 || (bitAt b 4 && !checkOwed s east) || (bitAt b 2 && !bitAt b 1)
    if answer then sendCheck east ((port s east).pendingErr && !doneNow s 4) (bitAt b 0) s else s

/-- A ring end is restored at the start of the cycle that the last CHECK frame named (R199). -/
def restorePort (east : Bool) (s : State) : State :=
  match (port s east).restoreAt with
  | none => s
  | some c =>
    if !cycleReached (cycle32 s) c then s
    else
      let s := modPort east (fun p => { p with restoreAt := none, goodChecks := 0 }) s
      if portEnd s east && portUp s east && !isRetired 2 (b2n east) 0 s then
        raise Src.LIN_UNWRAP (b2n east) (s.put (endField east) 0)
      else s

/-! ### Links (R146, R182, R198) -/

/-- A PHY link drops: the port becomes a ring end (R198). -/
def linkDrop (east : Bool) (s : State) : State :=
  if !s.die.yardUp || !s.flag (upField east) then s
  else
    let s := modPort east (fun p => { p with
      linked := true, errors := 0, pendingErr := false, checkOk := false, goodChecks := 0, restoreAt := none, delays := [], busy := [] }) s
    let s := s.put (upField east) 0
    if portEnd s east then s else raise Src.LIN_WRAP (b2n east) (s.put (endField east) 1)

/-- A PHY link comes up: the first one forwards at once (R182), a later one stays a ring end until R199 restores it. A cable
that joins two masters or two slaves never links (R146): no such command comes. -/
def linkUp (east : Bool) (s : State) : State :=
  if !s.die.yardUp || s.flag (upField east) then s
  else
    let first := !(port s east).linked
    let s := modPort east (fun p => { p with linked := true, goodChecks := 0, restoreAt := none }) (s.put (upField east) 1)
    if first && !isRetired 2 (b2n east) 0 s then s.put (endField east) 0 else s

/-! ### Link delays (R192, R221) -/

/-- DELAY_REQ leaves a linked port once a cycle. -/
def delayProbe (east : Bool) (s : State) : State :=
  if !portUp s east || isRetired 2 (b2n east) 0 s || !inBestEffort s || (port s east).probeAt == some (cycleNow s) then s
  else sendHop east 0x12 [] (modPort east (fun p => { p with probeAt := some (cycleNow s) }) s)

/-- A DELAY_REQ is answered, but not on a retired link, which carries only CHECK frames (R201); the answer carries the turnaround time in 1/16 ns in bytes 0–3. The spec gives no layout. -/
def delayReqReceive (east : Bool) (f : LineFrame) (turnaround : Nat) (s : State) : State :=
  if !portUp s east then s
  else if !frameGood f then countBad east f s
  else if f.type.toNat ≠ 0x12 || isRetired 2 (b2n east) 0 s then s
  else sendHop east 0x13 (leBytes 4 turnaround) s

/-- DELAY_RESP: the link delay is half the round trip less the turnaround; the mean of the last 16 is reported, rounded once (R25,
R192). -/
def delayRespReceive (east : Bool) (f : LineFrame) (roundTrip : Nat) (s : State) : State :=
  if !portUp s east then s
  else if !frameGood f then countBad east f s
  else if f.type.toNat ≠ 0x13 || (port s east).probeAt != some (cycleNow s) then s
  else
    let d := roundTrip - fieldAt f.payload 0 4
    let l := (d :: (port s east).delays).take 16
    let mean := (roundDiv ((l.foldl (· + ·) 0 : Nat) : Int) (2 * l.length)).toNat
    (modPort east (fun p => { p with delays := l }) s).put (delayField east) (satN 16 mean)

end Sys2Proof.Machine
end

