-- ==== Sys2Proof/Machine/Orders.lean ====
section
/-!
DEFINITION. Running orders (R260–R264, R272).
-/

namespace Sys2Proof.Machine

/-- One of the orders. -/
def order (s : State) (n : Nat) : OrderState := nth s.sets.orders n {}

/-- An order changed. -/
def modOrder (n : Nat) (f : OrderState → OrderState) (s : State) : State :=
  { s with sets := { s.sets with orders := setNth s.sets.orders n (f (order s n)) } }

/-- tORDER_STEP. -/
def tOrderStep : Nat := 100 * us

/-- The whole periods of an order, in ns, that have passed since the last that it counted. -/
def periodsPassed (o : OrderState) (per now : Nat) : Nat := if per = 0 then 0 else (now - o.periodFrom) / per * per

/-- An order starts at step 1 where its trigger has come or its period has expired; what comes while it is in progress is
ignored (R262). -/
def orderStart (n : Nat) (s : State) : State :=
  let e := orderEntry s n 0
  let o := order s n
  let passed := periodsPassed o (e.value * ms) s.now
  if !s.die.sigUp || !isTrigger e then s
  else
    modOrder n (fun o =>
      let o := { o with periodFrom := o.periodFrom + passed, triggered := false }
      if o.active then o
      else if (order s n).triggered || passed != 0 then { o with active := true, step := 1, nextAt := max s.now o.nextAt, untilEnd := none }
      else o) s

/-- An order ends with a step; triggered again, it executes its next one tORDER_STEP later at the earliest (R262). -/
def orderEnd (n : Nat) (s : State) : State :=
  modOrder n (fun o => { o with active := false, untilEnd := none, nextAt := s.now + tOrderStep }) s

/-- An order goes on at a step, not before a time has passed; it ends behind its last entry. -/
def orderGo (n step wait : Nat) (s : State) : State :=
  if step < 64 then modOrder n (fun o => { o with step := step, untilEnd := none, nextAt := s.now + max tOrderStep wait }) s
  else orderEnd n s

/-- A step fails: the order goes on at ON_FAIL, or stops and raises ORDER_FAILED (R260, R272). -/
def orderFail (n : Nat) (e : OrderEntry) (s : State) : State :=
  let step := (order s n).step
  if 1 ≤ e.onFail ∧ e.onFail < 64 then orderGo n e.onFail 0 s
  else
    let s := ((orderEnd n s).put F.CFG_ORDER_FAIL_ORDER n).put F.CFG_ORDER_FAIL_STEP step
    raiseArg Src.CFG_ORDER_FAILED 0xFFFF (n + 256 * step) s

/-- A step succeeds or fails. -/
def orderResult (n : Nat) (e : OrderEntry) (good : Bool) (s : State) : State :=
  if good then orderGo n ((order s n).step + 1) 0 s else orderFail n e s

/-- FUS_HMAP_0–FUS_HMAP_63 (R261). -/
def isHmap (a : Nat) : Bool := (upFrom 0 64).any (fun k => a == Reg.FUS_HMAP k)

/-- A WRITE of an order can be made: its address is of the Signal die, or a FUS_HMAP that the Crossover reaches, its masked bits
lie in RW fields, and the write is not rejected (R261). -/
def orderWriteOk (s : State) (w : RegWrite) : Bool :=
  (regOnSignal w.addr || (isHmap w.addr && s.die.xoUp)) && maskIn w .RW == w.mask && checkWrite s 0 w == St.ok

/-- A WRITE of an order. -/
def orderWrite (n : Nat) (e : OrderEntry) (s : State) : State :=
  let w : RegWrite := { addr := e.addr, mask := e.mask, value := e.value }
  if orderWriteOk s w then orderResult n e true (writeOne w s) else orderFail n e s

/-- UNTIL: the step waits, and fails after TIME (R261). -/
def orderUntil (n : Nat) (e : OrderEntry) (good : Bool) (s : State) : State :=
  let ends := match (order s n).untilEnd with
    | some d => d
    | none => s.now + e.time * ms
  if good then orderResult n e true s
  else if ends ≤ s.now then orderFail n e s
  else modOrder n (fun o => { o with untilEnd := some ends, nextAt := s.now + tOrderStep }) s

/-- RAISE (R261, R272). -/
def orderRaise (n : Nat) (e : OrderEntry) (s : State) : State :=
  let code := e.value % 256
  let s := (s.put F.CFG_ORDER_RAISE_CODE code).put F.CFG_ORDER_RAISE_ORDER n
  orderResult n e true (raiseArg Src.CFG_ORDER_EVENT 0xFFFF (n + 256 * code) s)

/-- One step of an order is executed (R261). An OP that R261 does not list fails. -/
def orderExecute (n : Nat) (e : OrderEntry) (s : State) : State :=
  let equal := fun (v : Nat) => Nat.land v e.mask == e.value
  let within := fun (v : Nat) => decide (sx 32 e.mask ≤ sx 32 v) && decide (sx 32 v ≤ sx 32 e.value)
  if e.op = 0x00 then orderEnd n s
  else if e.op = 0x01 then orderWrite n e s
  else if e.op = 0x02 then orderGo n ((order s n).step + 1) (e.time * ms) s
  else if e.op = 0x03 then orderUntil n e (equal (readReg e.addr s).1) (readReg e.addr s).2
  else if e.op = 0x04 then orderResult n e (equal (readReg e.addr s).1) (readReg e.addr s).2
  else if e.op = 0x05 then orderResult n e (within (readReg e.addr s).1) (readReg e.addr s).2
  else if e.op = 0x06 then orderGo n (e.value % 64) 0 s
  else if e.op = 0x07 then orderRaise n e s
  else orderFail n e s

/-- An order in progress executes its next step once tORDER_STEP, or its WAIT, has passed (R262). -/
def orderStep (n : Nat) (s : State) : State :=
  let o := order s n
  if s.die.sigUp && o.active && decide (o.nextAt ≤ s.now) then orderExecute n (orderEntry s n o.step) s else s

/-! ### The rows -/

/-- ORDER_START (R262). -/
def execOrderStart (t n : Nat) (s : State) : Res := .next (orderStart n (begin_ t s))

/-- ORDER_STEP (R261, R262). -/
def execOrderStep (t n : Nat) (s : State) : Res := .next (orderStep n (begin_ t s))

end Sys2Proof.Machine
end

