-- ==== Sys2Proof/Machine/Throw.lean ====
section
/-!
DEFINITION. The points throw (R243–R255): acceptance, arming, the commit decision, the swap and its effects, the late swap,
and the final reply.
-/

namespace Sys2Proof.Machine

/-! ### The swap (R247–R250, R307, R326, R375, R398, R420, R478, R537, R698) -/

/-- The definition of loop n in a container (R250): the RWS bits of its registers. -/
def loopDefIn (c : Container) (n : Nat) : List Nat :=
  (upFrom 0 15).map (fun i => let a := Reg.CLE_LOOP_CFG n + 4 * i
    Nat.land (imageValue c a) (regMask (fun x => x == Access.RWS) a))

/-- The definition of loop n in force. -/
def loopDefNow (s : State) (n : Nat) : List Nat :=
  (upFrom 0 15).map (fun i => let a := Reg.CLE_LOOP_CFG n + 4 * i
    Nat.land (s.reg a) (regMask (fun x => x == Access.RWS) a))

/-- A table of a container. -/
def tableIn (c : Container) (kind inst : Nat) : Option Bytes := (findSection c kind inst).map (sectionData c)

/-- Loop n is defined in a container. -/
def loopIn (c : Container) (n : Nat) : Bool := bitAt (imageValue c (Reg.CLE_LOOP_CFG n)) 31

/-- Before the swap: a loop that the new set does not define goes to OPEN; a loop whose definition changes keeps, for the sample
that waits for its deadline, the sink it was taken for (R250, R420). -/
def loopBefore (c : Container) (s : State) (n : Nat) : State :=
  if !loopDefined s n then s
  else if !loopIn c n then noLoss n (if loopState s n = lOpen then s else loopToOpen n s)
  else if loopDefIn c n = loopDefNow s n then s
  else
    match (loop s n).sample with
    | none => s
    | some x => modLoop n (fun y => { y with sample := some { x with sink := some (sinkOf s n) } }) s

/-- A loop has another PWM channel as its sink than before the swap, and owns it: it is not OPEN (R449). -/
def sinkMoved (before s : State) (n : Nat) : Bool :=
  loopDefined s n && loopDefined before n && pwmSink before n != pwmSink s n && loopState s n != lOpen

/-- The channel that a loop owned before the swap is its own no longer (R449). -/
def disownAfter (before : State) (s : State) (n : Nat) : State :=
  match pwmSink before n with
  | none => s
  | some c => if sinkMoved before s n then s.put (F.LSW_CH_STAT_OWNED c) 0 else s

/-- The channel that a loop takes at the swap: no command goes to it, which only an entry into RUN gives (R449). -/
def ownAfter (before : State) (s : State) (n : Nat) : State :=
  match pwmSink s n with
  | none => s
  | some c =>
    if sinkMoved before s n then (s.put (F.LSW_CH_STAT_OWNED c) 1).put (F.LSW_CH_STAT_OWNER c) n else s

/-- A loop whose PERIOD or PHASE changes takes its first tick at or after the start of the cycle (R420). -/
def retimed (before : State) (s : State) (n : Nat) : State :=
  let from_ := cycleNow s * ms
  let half := 25 * s.get (F.CLE_LOOP_CFG_PERIOD n)
  if s.get (F.CLE_LOOP_CFG_PERIOD n) = before.get (F.CLE_LOOP_CFG_PERIOD n) ∧
      s.get (F.CLE_LOOP_PHASE_PHASE n) = before.get (F.CLE_LOOP_PHASE_PHASE n) then s
  else modLoop n (fun x => { x with lastTick := if 2 * from_ < half then none else some ((2 * from_ - half) / 2) }) s

/-- After the swap: the integrator is clamped to the new limits, and a loop defined anew is OPEN, with no integrator and no loss of its
own yet (R250, R420, R435). -/
def loopAfter (before : State) (s : State) (n : Nat) : State :=
  if !loopDefined s n then s
  else if !loopDefined before n then
    (setInteg n 0 (modLoop n (fun _ => {}) (s.put (F.CLE_LOOP_CTRL_STATE n) lOpen))).put (F.CLE_LOOP_STATUS_LOSS n) 0
  else
    let g := runningGains s n
    retimed before (setInteg n (clampI (iMin g * 65536) (iMax g * 65536) (loop s n).integ) s) n

/-- A channel commanded PWM whose new set clears its PWM bit becomes OFF (R478). -/
def channelAfter (s : State) (c : Nat) : State :=
  if s.get (F.LSW_CH_CMD_STATE c) = 2 ∧ s.get (F.LSW_CH_CFG_PWM c) = 0 then commandChannel c 0 0 s else s

/-- The RWS bits of the GNS registers that differ from their reset values (R537). -/
def gnsSettings (s : State) : List (Nat × Nat) :=
  ((s.regs.filter (fun e => blockOf e.1 == some .GNS)).map (fun e =>
    (e.1, Nat.land e.2.toNat (regMask (fun x => x == Access.RWS) e.1)))).filter (fun e =>
      e.2 != Nat.land (regReset e.1) (regMask (fun x => x == Access.RWS) e.1))

/-- The queues and what is being put together of entries that the new timetable gives the module no longer are dropped; tFWD_TIMEOUT of
a request whose packet went with them runs from here on (R91, log entry 81). -/
def lineAfter (s : State) : State :=
  let keep := fun e => match slotNo s e with
    | some x => x.cls == 1 && sends s x
    | none => false
  let gone := fun (e : Nat × Nat × List Nat) => e.1 != 0xFFF && !keep e.1
  { s with
    line := { s.line with
      queues := s.line.queues.filter (fun q => keep q.1), replyWait := s.line.replyWait.filter (fun q => q.1 == 0xFFF || keep q.1),
      reassembly := [], misses := [] }
    pk := { s.pk with waiting := s.pk.waiting.map (fun w =>
      if w.leaving.any gone then
        { w with leaving := w.leaving.filter (fun e => !gone e), timeoutAt := s.now + 50 * ms }
      else w) } }

/-- What a swap does in the Yard die (R250, R326, R375, R537). -/
def yardSwap (before : State) (old : List FnBefore) (s : State) : State :=
  let s := holdFusion before (lineAfter (throwSetting old s))
  startTimeState (if gnsSettings before = gnsSettings s then s else releaseSteer 12 s)

/-- A swap while the Yard die is out of service: the copies of the functions follow their FUNC_ID into the new registry, each target held
to the new MIN–MAX (R248, R375, R377). -/
def copiesAfter (before s : State) : State :=
  let place := fun (c : Nat × Nat × Int) =>
    let id := (fnEntry before c.1).id
    if id = 0 then none
    else ((upFrom 0 48).find? (fun n => (fnEntry s n).id == id)).map (fun n =>
      (n, c.2.1, clampI (fnEntry s n).min (fnEntry s n).max c.2.2))
  { s with fn := { s.fn with copies := s.fn.copies.filterMap place } }

/-- The Yard die swaps its own sections at the throw cycle, where the token has not reached the Signal die, or that is out of service
(R248). -/
def swapYard (crc cyc : Nat) (s : State) : State :=
  match s.sets.siding with
  | none => s
  | some c =>
    let s := abandonStep (cycleNow s) s
    yardSwap s (settingBefore s) { s with
      regs := swapDie false c s.regs
      sets := { s.sets with yardAhead := some (crc, c), token := none, barred := some (cycleNow s), swappedAt := some cyc } }

/-- The siding set becomes the running set, and the former running set the siding set in state LOADED (R247, R250). Where the Yard die
has swapped already, the sections of the Signal die follow. -/
def swapSets (crc cyc : Nat) (late : Bool) (s : State) : State :=
  match s.sets.siding with
  | none => s
  | some c =>
    let ahead := s.sets.yardAhead.isSome
    let s := foldOver (loopBefore c) (if ahead then s else abandonStep (cycleNow s) s) (upFrom 0 32)
    let before := s
    let old := settingBefore s
    let former := s.sets.running
    let s := { s with
      regs := if ahead then swapDie true c s.regs else swapRegs c s.regs,
      sets := { s.sets with
        running := some c, yardAhead := none, siding := former, okFrom := [], modelOpen := [], token := none, sigToken := none, lateAt := none, armedFor := none,
        barred := if late then none else some (cycleNow s), swappedAt := some cyc },
      eng := { s.eng with gainEdits := [] } }
    let s := (s.put F.CFG_STATE_SIDING (if former.isSome then sLoaded else sEmpty)).put F.CFG_STATE_RUNNING 1
    let s := ((s.put F.CFG_RUN_CRC_CRC crc).put F.CFG_SIDING_CRC_CRC 0).put F.CFG_STATE_SET_MISMATCH 0
    let s := s.bump F.CFG_COUNT_THROWS 1
    let s := raise0 Src.CFG_THROW_DONE (fault 0x60 0 Src.CFG_THROW_DONE 0xFFFF crc cyc 0 s)
    let s := if late then raise0 Src.CFG_LATE_THROW (s.bump F.CFG_COUNT_LATE 1) else s
    let s := foldOver (loopAfter before) s (upFrom 0 32)
    let s := foldOver (ownAfter before) (foldOver (disownAfter before) s (upFrom 0 32)) (upFrom 0 32)
    let s := foldOver (fun s c => judgeAnew before c s) (foldOver channelAfter s (upFrom 0 32)) (upFrom 0 32)
    let s := canSwap before (dropUndelivered (refreshSinks (loadOrders s)))
    if ahead then foldOver (fun s n => copyFn n s) s (usedFns s)
    else if s.die.yardUp then yardSwap before old s
    else copiesAfter before s

/-- The siding set returns to READY (R249, R254); until the throw cycle ends, R245 holds on. -/
def disarm (s : State) : State :=
  let barred := if s.sets.armedFor = some (cycle32 s) then some (cycleNow s) else none
  (State.put { s with sets := { s.sets with armedFor := none, barred := barred } } F.CFG_STATE_SIDING sReady)

/-- A copy of the CYCLE_START of the cycle before the throw cycle n, the holder's own with it, has been accepted without a token that
names n (R249). -/
def noToken (s : State) (n : Nat) : Bool :=
  s.line.csCycle == some ((n + 4294967295) % 4294967296) &&
    (match s.sets.token with
      | some (m, _, _) => m != n
      | none => true)

/-- The token that the Yard die has of the CYCLE_START of the cycle before names the throw cycle n and a LINE_CRC (R247). -/
def yardToken (s : State) (n crc : Nat) : Bool :=
  match s.sets.token with
  | none => false
  | some (m, k, c) => s.die.yardUp && m == n && k == crc && (c + 1) % 4294967296 == n

/-- What the start of the throw cycle brings to an ARMED module (R247–R249): both dies swap where the Signal die holds the token. DEDUCED:
where the Signal die is out of service at the start of the cycle, or the token did not reach it, the Yard die swaps its own sections, and
the Signal die follows under R253 (log entry 179). -/
def throwStart (s : State) : State :=
  match s.sets.armedFor with
  | none => s
  | some n =>
    let crc := s.get F.CFG_SIDING_CRC_CRC
    if sidingState s ≠ sArmed ∨ cycle32 s ≠ n ∨ powered s = false ∨ s.sets.yardAhead.isSome = true then s
    else if s.die.sigUp = true ∧ s.sets.sigToken = some (n, crc) then swapSets crc n false s
    else if noToken s n then disarm s
    else if yardToken s n crc then swapYard crc n s
    else s

/-- A late swap falls due (R253). -/
def lateThrow (s : State) : State :=
  match s.sets.lateAt with
  | none => s
  | some c =>
    if cycleNow s < c ∨ s.die.sigUp = false ∨ powered s = false ∨ (s.sets.yardAhead.isSome && !s.die.xoUp) = true then s
    else if sidingState s = sReady ∨ sidingState s = sArmed then
      swapSets (s.get F.CFG_SIDING_CRC_CRC) (s.get F.CFG_THROW_CYC_CYCLE) true s
    else { s with sets := { s.sets with lateAt := none } }

/-! ### Acceptance and arming (R243, R244) -/

/-- siding_ready(crc) of R243. -/
def sidingReady (s : State) (crc : Nat) : Bool :=
  let listed := s.sets.manifest.map (·.1)
  sidingState s == sReady && s.get F.CFG_SIDING_CRC_CRC == crc && s.sets.manifestCrc == crc &&
    (lineModules s).all (fun n => listed.contains n) &&
    listed.all (fun n => n == joinNum s || s.sets.okFrom.contains n)

/-- The module's siding set is ARMED for a throw cycle (R244). -/
def armSiding (n : Nat) (s : State) : State :=
  (State.put { s with sets := { s.sets with armedFor := some n } } F.CFG_STATE_SIDING sArmed).put F.CFG_THROW_CYC_CYCLE n

/-- POINTS_THROW on the holder of the terminus role (R243). -/
def runPointsThrow (p : Request) (s : State) : Answer :=
  let crc := fieldAt p.params 0 4
  if s.get F.CFG_RUN_CRC_CRC = crc ∧ s.flag F.CFG_STATE_RUNNING = true then ok s []
  else if throwBusy s then { st := s, status := St.queued, job := some .queued }
  else if !sidingReady s crc then refuse s St.notVerified
  else
    let n := (cycle32 s + s.get F.CFG_LEAD_THROW_LEAD) % 4294967296
    let t : Throw := {
      cycle := n, crc := crc, armedOk := [joinNum s], committed := none, failed := [], asked := false }
    { st := armSiding n { s with sets := { s.sets with throw := some t } }, status := St.queued, job := some (.throwing n) }

/-- The arming request as it is forwarded (R244). -/
def armingBytes (crc n : Nat) : Bytes :=
  let b := headerBytes 0x5A47 1 4 0 0xFF 0 n 0x0202 8 2 ++ leBytes 4 crc ++ leBytes 4 n
  b ++ leBytes 4 (crc32c b)

/-- The holder forwards the arming request, once, in the cycle after acceptance (R244); a module in SET_MISMATCH gets it in best-effort
frames (R255). -/
def sendArming (s : State) : State :=
  match s.sets.throw with
  | none => s
  | some t =>
    if t.asked || s.get F.CFG_THROW_CYC_CYCLE != t.cycle then s
    else
      let ms_ := s.line.members.filter (fun m => packetsReach m && m.num != joinNum s)
      let bs := armingBytes t.crc t.cycle
      let s := { s with sets := { s.sets with throw := some { t with asked := true } } }
      let byEntry := fun (m : Member) => !inMismatch s m.num && (commandEntryFor s m.num m.relief).isSome
      let s := foldOver (fun s x => (offerQueue x bs s).getD s) s (broadcastEntries s (ms_.filter byEntry))
      foldOver (fun s (m : Member) => offerBePacket m.num bs s) s (ms_.filter (fun m => !byEntry m))

/-- The packet is the arming request of R244: the one form of POINTS_THROW with SESSION 0 and TARGET 0xFF, over the Line. -/
def isArming (op : Nat) (p : Request) : Bool :=
  op == 0x0202 && forwardedIn p && p.session == 0#16 && p.target == 0xFF#8

/-- A module receives the arming request (R244): from the command ring of the holder of the terminus role, whole, at privilege level 2.
DEDUCED: while its Signal die, which holds the state of its sets, is out of service, it is one of the modules that answer NOT_VERIFIED
(log entry 43). -/
def armingRequest (p : Request) (s : State) : State :=
  let crc := fieldAt p.params 0 4
  let n := fieldAt p.params 4 4
  let from_ := match p.via with
    | .line _ _ => !foreignForward s p
    | _ => false
  if !s.die.yardUp || isTerminus s || !from_ || !bitAt p.flags.toNat 2 || p.magic != 0x5A47#16 ||
      p.params.length != 8 || p.paramLen.toNat != 8 || !crcGood 0x0202 p || p.sequence.toNat != n ||
      decide (p.auth.toNat % 256 < 2) then s
  else
    let ready := s.die.sigUp && sidingState s == sReady && s.get F.CFG_SIDING_CRC_CRC == crc
    let armed := s.die.sigUp && sidingState s == sArmed && s.get F.CFG_SIDING_CRC_CRC == crc && s.sets.armedFor == some n
    let s := if ready then armSiding n s else s
    let status := if ready || armed then St.ok else St.notVerified
    sendPacket p.via (buildReply s 0x0202 p false (joinNum s) status (admitOf false status) 0 0 []) s

/-! ### The decision and the final reply (R246, R251, R252) -/

/-- The modules of the manifest that fail R246 at the end of cycle N − 2. -/
def throwFailed (s : State) (t : Throw) : List Nat :=
  (s.sets.manifest.map (·.1)).filter (fun n =>
    n != joinNum s &&
      !(t.armedOk.contains n &&
        (if s.flag F.CFG_STATE_RUNNING then s.line.heard.contains n else (memberPresent s n).isSome)))

/-- The decision of R246, at the end of cycle N − 2. -/
def commitDecision (s : State) : State :=
  match s.sets.throw with
  | none => s
  | some t =>
    if !isTerminus s || !cycleOver s || t.committed.isSome || (s.get F.LIN_CYCLE_CYCLE + 2) % 4294967296 != t.cycle then s
    else
      let l := throwFailed s t
      { s with sets := { s.sets with throw := some { t with committed := some l.isEmpty, failed := l } } }

/-- The commit token for CYCLE_START of a cycle (R246); none when none is due. -/
def commitToken (s : State) (c : Nat) : Option Bytes :=
  match s.sets.throw with
  | none => none
  | some t =>
    if t.committed = some true ∧ (c + 1) % 4294967296 = t.cycle then
      some (leBytes 1 1 ++ leBytes 3 0 ++ leBytes 4 t.cycle ++ leBytes 4 t.crc ++ leBytes 4 (s.get F.CFG_RUN_CRC_CRC))
    else none

/-- The holder takes the token that its own CYCLE_START carries (R247, R248). -/
def ownToken (c : Nat) (s : State) : State :=
  match s.sets.throw with
  | none => s
  | some t =>
    if (commitToken s c).isSome then passToken { s with sets := { s.sets with token := some (t.cycle, t.crc, c) } } else s

/-- The throw cycle of a waiting POINTS_THROW. -/
def throwOf (w : Waiting) : Option Nat :=
  match w.job with
  | .throwing n => some n
  | _ => none

/-- The throw of cycle n was committed: this holder committed it, or its token has reached this module (R246, R252). -/
def wasCommitted (s : State) (n : Nat) : Bool :=
  s.sets.swappedAt == some n ||
    (match s.sets.throw with
      | some t => t.cycle == n && t.committed == some true
      | none => false) ||
    (match s.sets.token with
      | some (m, _, _) => m == n
      | none => false)

/-- A request is answered after its throw cycle: OK where the throw was committed, else THROW_ABORTED with the modules that failed
(R251); a new holder names none (R252). -/
def answerThrow (s : State) (w : Waiting) : State :=
  match throwOf w with
  | none => s
  | some n =>
    if !cycleReached (cycle32 s) ((n + 1) % 4294967296) then s
    else if wasCommitted s n then completeWaiting w (joinNum s) St.ok 0 (leBytes 4 n) s
    else
      let l := match s.sets.throw with
        | some t => if t.cycle = n then t.failed else []
        | none => []
      let s := raise0 Src.CFG_THROW_ABORTED (s.bump F.CFG_COUNT_ABORTS 1)
      completeWaiting w (joinNum s) St.throwAborted 0 (leBytes 4 n ++ leBytes 1 l.length ++ l.flatMap (leBytes 1)) s

/-- After the throw cycle: the requests are answered and the throw ends (R251, R252). -/
def throwFinal (s : State) : State :=
  if !isTerminus s || !s.die.yardUp then s
  else
    let s := foldOver answerThrow s s.pk.waiting
    match s.sets.throw with
    | none => s
    | some t =>
      if cycleReached (cycle32 s) ((t.cycle + 1) % 4294967296) then { s with sets := { s.sets with throw := none } } else s

/-! ### The rows -/

/-- THROW_COMMIT_DECISION (R246). -/
def execThrowCommitDecision (t : Nat) (s : State) : Res := .next (commitDecision (begin_ t s))

/-- THROW_SWAP (R247). -/
def execThrowSwap (t : Nat) (s : State) : Res := .next (throwStart (begin_ t s))

/-- LATE_THROW (R253). -/
def execLateThrow (t : Nat) (s : State) : Res := .next (lateThrow (begin_ t s))

/-- THROW_FINAL_REPLY (R251, R252). -/
def execThrowFinalReply (t : Nat) (s : State) : Res := .next (throwFinal (begin_ t s))

/-- ARMING_REQUEST (R244). -/
def execArmingRequest (t : Nat) (p : Request) (s : State) : Res := .next (armingRequest p (begin_ t s))

end Sys2Proof.Machine
end

