-- ==== Sys2Proof/Machine/Line.lean ====
section
/-!
DEFINITION. The reserved window of the Line (R157–R175, R189–R197, R204–R210): cycles, the frames that a module sends in its
entries, their forwarding and reception, misses and losses.
-/

namespace Sys2Proof.Machine

/-! ### Sending (R161–R166, R171, R191) -/

/-- A reserved frame of an entry, the copy of one direction (R150, R171). -/
def reservedFrame (s : State) (type sender entry len : Nat) (east : Bool) (payload : Bytes) : LineFrame :=
  sealFrame {
    type := BitVec.ofNat 8 type, src := BitVec.ofNat 8 sender, entry := BitVec.ofNat 12 entry, dir := !east, turned := false,
    pastSender := false, hops := 1#8, len := BitVec.ofNat 8 len, dest := 0#8, cycle := BitVec.ofNat 32 (cycle32 s),
    setId := BitVec.ofNat 16 (ownSetId s), hcrc := 0#16, payload := padTo (64 * len) payload, fcs := 0#32 }

/-- A copy of a reserved frame leaves a port that is open. -/
def sendCopy (east : Bool) (f : LineFrame) (s : State) : State := if portOpen s east then sendPort east f s else s

/-- Both copies of a reserved frame leave together (R161, R171). -/
def sendBoth (type sender entry len : Nat) (payload : Bytes) (s : State) : State :=
  sendCopy false (reservedFrame s type sender entry len false payload)
    (sendCopy true (reservedFrame s type sender entry len true payload) s)

/-- The time of a copy in the cycle has come: OFFSET_E of the eastward, OFFSET_W of the westward one (R160, R171). -/
def copyDue (s : State) (x : Slot) (east : Bool) : Bool :=
  decide (20 * (if east then x.offE else x.offW) ≤ inCycle s) && !cycleOver s

/-- The copies of a frame of an entry: one whose offset has come leaves, the other one waits for its own (R171). -/
def sendCopies (x : Slot) (type : Nat) (payload : Bytes) (s : State) : State :=
  let one := fun (east : Bool) (t : State) =>
    let f := reservedFrame s type x.sender x.entry x.len east payload
    if copyDue s x east then sendCopy east f t
    else { t with line := { t.line with laterCopies := t.line.laterCopies ++ [(x.entry, east, f)] } }
  one false (one true s)

/-- The copy of an entry that waits for its offset leaves once that has come (R171). -/
def sendLater (x : Slot) (s : State) : State :=
  let l := s.line.laterCopies.filter (fun e => e.1 == x.entry && copyDue s x e.2.1)
  foldOver (fun s e => sendCopy e.2.1 e.2.2 s)
    { s with line := { s.line with laterCopies := s.line.laterCopies.filter (fun e => !(e.1 == x.entry && copyDue s x e.2.1)) } } l

/-- TSTAT of CYCLE_START (R191). -/
def tstatByte (s : State) (start : Nat) : Nat :=
  let st := tstate s
  b2n (st == tsLocked) + 2 * b2n (st == tsHoldover || st == tsStepPending) + 4 * b2n (resyncIn s start) +
    8 * b2n s.line.takeoverFlag

/-- The payload of CYCLE_START (R191). -/
def cycleStartBytes (start tstat heard uid : Nat) (commit : Bytes) : Bytes :=
  leBytes 8 start ++ leBytes 4 0 ++ leBytes 1 tstat ++ leBytes 1 heard ++ leBytes 2 0 ++ leBytes 8 uid ++ padTo 16 commit

/-- The holder does not send in a cycle at whose start a handover is to be made, until it is known whether it was (R766). -/
def handoverNow (s : State) : Bool :=
  match s.upd.handover with
  | none => false
  | some (h, _) => h == cycle32 s

/-- The holder of the terminus role sends CYCLE_START of the present cycle, once (R161, R191). -/
def sendCycleStart (s : State) : State :=
  if !isTerminus s || !s.die.yardUp || s.flag F.CLK_STATUS_BOTH_LOST || doneNow s 5 || handoverNow s then s
  else
    let start := cycleNow s * ms
    let c := cycle32 s
    let heard := s.get F.LIN_POS_HEARD
    let commit := match commitToken s c with
      | some b => b
      | none => (handoverToken s c).getD []
    let s := ownToken c s
    let s := sendBoth 1 0x40 0 1 (cycleStartBytes start (tstatByte s start) heard (ownUid s) commit) s
    let first := match s.role.firstCycleStart with
      | some x => some x
      | none => some s.now
    markDone 5 { s with
      role := { s.role with firstCycleStart := first },
      line := { s.line with
        takeoverFlag := false, sentHeard := heard, masterUid := ownUid s, lastCycleStart := some s.now, csCycle := some c, lineSetId := ownSetId s } }

/-- The words of an entry as loops, received signals, functions, steering and the rendezvous give them (R166, R350, R427,
R533, R592, R693). -/
def entryWords (s : State) (x : Slot) : Bytes :=
  let base := (s.line.outWords.filter (fun e => e.1 / 1024 == x.entry)).map (fun e => (e.1 % 1024, e.2.toNat))
  let fns := if isTerminus s then
      ((usedFns s).filter (fun n => (fnEntry s n).entry == x.entry)).map (fun n =>
        ((fnEntry s n).word, toBits 32 (s.gets (F.SET_FN_SENT_SENT n))))
    else []
  let steer := if isTerminus s && s.flag F.GNS_STEER_SP_S_EN && s.get F.GNS_STEER_SP_SP_ENTRY == x.entry then
      [(s.get F.GNS_STEER_SP_SP_WORD, toBits 32 s.nav.spDemand), (s.get F.GNS_STEER_SP_SP_WORD + 1, s.nav.spCommand)]
    else []
  let rdv := if isTerminus s && s.get F.CST_RDV_OUT_OUT_ENTRY == x.entry then
      match rdvWords s (cycleNow s * ms) with
      | none => []
      | some l => (upFrom 0 l.length).map (fun i => (s.get F.CST_RDV_OUT_OUT_WORD + i, toBits 32 (nth l i 0)))
    else []
  foldOver (fun b (e : Nat × Nat) => putAt b (4 * e.1) (leBytes 4 e.2)) (List.replicate (64 * x.len) 0#8)
    ((base ++ statusWordsOf s x.entry ++ fns ++ steer ++ rdv).filter (fun e => decide (e.1 < 16 * x.len)))

/-- The regions of this module's streams in an entry are filled (R312, R314). -/
def fillRegions (x : Slot) (b : Bytes) (s : State) : Bytes × State :=
  foldOver (fun (acc : Bytes × State) i =>
    let s := acc.2
    if s.get (F.FUS_STR_LINE_ENTRY i) ≠ x.entry ∨ s.get (F.FUS_STR_LINE_WORDS i) < 2 ∨ streamState s i = stUnused then acc
    else
      let (l, p) := fillRegion s i
      let own := if isTerminus s then s.fus.ownRegions ++ [(i, streamState s i, l)] else s.fus.ownRegions
      let b := putAt acc.1 (4 * s.get (F.FUS_STR_LINE_WORD i)) (regionBytes s i p.seq l)
      (b, modStream i (fun _ => p) { s with fus := { s.fus with ownRegions := own } })) (b, s) (upFrom 0 20)

/-- The module sends its entries in the present cycle: it is in the timetable, its set is the Line's, it has had CYCLE_START
within 32 cycles, and it has resynchronised (R163, R167, R208, R255, R517). The holder of the terminus role sends entry 0 only
while no running set is in force (R181). -/
def sendsNow (s : State) : Bool :=
  s.die.yardUp && !s.flag F.CLK_STATUS_BOTH_LOST && s.flag F.LIN_STATUS_IN_TIMETABLE &&
    (s.flag F.CFG_STATE_RUNNING || s.sets.yardAhead.isSome) &&
    !s.flag F.CFG_STATE_SET_MISMATCH &&
    (isTerminus s || (decide (s.line.freeRun < 32) && decide (s.line.valuesFrom ≤ cycleNow s) &&
      (!s.nav.resync || s.line.csHops.isSome)))

/-- Frames taken into the values of an entry (R166); they cross to the Signal die while the Crossover is usable (R48). -/
def putValue (entry : Nat) (payload : Bytes) (s : State) : State :=
  { s with
    line := { s.line with
      values := s.line.values.filter (fun e => e.1 != entry) ++ [(entry, cycleNow s, payload)],
      misses := s.line.misses.filter (fun e => e.1 != entry) }
    eng := if s.die.xoUp then { s.eng with lineSeen := putNum s.eng.lineSeen entry payload } else s.eng }

/-- The Line value of an entry is there again (R209, R424). -/
def entryFound (entry : Nat) (s : State) : State :=
  if s.eng.lostEntries.contains entry then
    refreshLoss { s with eng := { s.eng with lostEntries := s.eng.lostEntries.filter (fun e => e != entry) } }
  else s

/-- Replies that wait for room go into their queues (R164), those without a reply entry (0xFFF) into ring 52. -/
def offerWaiting (s : State) : State :=
  let l := s.line.replyWait
  foldOver (fun s (e : Nat × Bytes) =>
    let again : State := { s with line := { s.line with replyWait := s.line.replyWait ++ [e] } }
    let behind_ := s.line.replyWait.any (fun w => w.1 == e.1)
    if e.1 = 0xFFF then
      if !behind_ && beRoom s e.2 then offerBePacket (s.get F.LIN_POS_MASTER_NUM) e.2 s else again
    else
    match slotNo s e.1 with
    | none => s
    | some x =>
      if behind_ then again
      else
        match offerQueue x e.2 s with
        | some s' => s'
        | none => again)
    { s with line := { s.line with replyWait := [] } } l

/-- The registers whose state the mirror carries: the functions and counts of the setting engine, steering, the field, the
consist and the run. -/
def mirroredReg (a : Nat) : Bool :=
  blockOf a == some .SET || blockOf a == some .YLD || a == Reg.CST_STATUS || a == Reg.CST_CONSIST || a == Reg.CST_MACHINE_LO ||
    a == Reg.CST_MACHINE_HI || a == Reg.CST_RDV || a == Reg.GNS_STEER_STATUS || a == Reg.GNS_GUIDE_ID || a == Reg.UPD_RUN

/-- What the mirror says of this module's role state, the sessions 1–12 first (R118, R210, R252, R376, R521–R523, R562–R563, R584). -/
def mirrorOf (s : State) : Mirror :=
  { grids := true, yardFw := s.reg Reg.IDR_YARD_FW, sessions := s.pk.sessions.filter (fun x => decide (x.num ≤ 12)),
    throws := s.pk.waiting.filter (fun w => w.opcode == 0x0202 && decide (w.req.session.toNat ≤ 12)),
    regs := s.regs.filter (fun e => mirroredReg e.1), nav := s.nav, fn := s.fn, frameNo := s.fus.frameNo, tFrame := s.fus.tFrame,
    cells := s.fus.cells, yld := s.yld, cst := s.cst, members := s.line.members, run := s.upd.run }

/-- The DATA frame of a RESERVED entry (R163, R166, R210). -/
def sendData (x : Slot) (s : State) : State :=
  if isMirrorEntry x then
    let b := (upFrom 0 (64 * x.len)).map (Config.mirrorByte (mirrorOf s) x.entry)
    let first := match s.line.mirrorCur with
      | some t => some t
      | none => some s.now
    sendCopies x 2 b { s with line := { s.line with mirrorCur := first } }
  else
    let (b, s) := fillRegions x (entryWords s x) s
    let s := sendCopies x 2 b (statusTaken x.entry s)
    if addressed s x then entryFound x.entry (putValue x.entry b s) else s

/-- The QUEUED frame of a STANDING entry, where its queue holds data (R163, R164, R207). -/
def sendQueued (x : Slot) (s : State) : State :=
  if s.flag F.LIN_STATUS_LINE_LOST then s
  else
    match s.line.queues.find? (fun q => q.1 == x.entry) with
    | none => s
    | some q =>
      let s := { s with line := { s.line with queues := removeFirst (fun e => e.1 == x.entry) s.line.queues } }
      offerWaiting (packetLeft x.entry q.2 (noteEntryServed x.entry (sendCopies x 3 q.2 s)))

/-- An entry falls due in the cycle: the earlier of its two offsets has come (R160, R171). -/
def entryDue (s : State) (x : Slot) : Bool := copyDue s x true || copyDue s x false

/-- ENTRY_SEND (R163, R171): the frame of the entry, and at the later one of two offsets its second copy. -/
def entrySend (entry : Nat) (s : State) : State :=
  match slotNo s entry with
  | none => s
  | some x =>
    if entry = 0 ∨ !sends s x ∨ !sendsNow s ∨ !entryDue s x then s
    else if doneNow s (16 + entry) then sendLater x s
    else
      let s := markDone (16 + entry) s
      if x.cls = 0 then sendData x s else if x.cls = 1 then sendQueued x s else s

/-! ### Forwarding (R148, R154, R156, R159, R188, R193) -/

/-- A frame as it is forwarded: one hop more, CORR advanced in CYCLE_START, and the FCS right, or inverted where the received
frame was bad (R150, R154, R193). The residence time is in 1/16 ns. -/
def forwarded (f : LineFrame) (residence delay : Nat) : LineFrame :=
  let corr := (fieldAt f.payload 8 4 + residence + delay) % 4294967296
  let p := if f.type.toNat = 1 then putAt f.payload 8 (leBytes 4 corr) else f.payload
  passedOn f { f with hops := f.hops + 1#8, payload := p }

/-- A frame that R156 keeps from being forwarded whatever the other port is; an own best-effort frame goes its way under R177.
DESIGN CHOICE: while N_LINE is 0, without a running set, no limit of HOPS applies: N_LINE − 1 and 2 × N_LINE have no meaning then (log
entry 162). -/
def notForwarded (s : State) (f : LineFrame) : Bool :=
  let n := s.get F.LIN_CFG_N_LINE
  if isReserved f then (decide (0 < n) && decide (n - 1 ≤ f.hops.toNat)) || srcIsOwn s f.src.toNat
  else
    (decide (0 < n) && decide (2 * n ≤ f.hops.toNat)) || oneHop f || (s.role.joined && f.dest.toNat == joinNum s) ||
      beOwn s f

/-- LINE_FRAME_FORWARD (R156): a frame that arrives on a port leaves by the other one. What a ring end does with a best-effort
frame follows when the frame is whole (R177). -/
def lineForward (east : Bool) (f : LineFrame) (residence : Nat) (s : State) : State :=
  if !portOpen s east || !headGood f || notForwarded s f || !portOpen s (!east) then s
  else
    let g := forwarded f residence (s.get (delayField east))
    if isReserved f then sendPort (!east) g s else leaveBe (!east) g s

/-! ### Reception (R155, R172, R173, R208) -/

/-- The check of the sequence number of a whole reserved frame (R172): the first copy is fresh, every other frame is counted. -/
def firstOfSequence (f : LineFrame) (s : State) : State × Bool :=
  let e := f.entry.toNat
  if f.cycle.toNat ≠ s.get F.LIN_CYCLE_CYCLE ∨ f.setId.toNat ≠ ownSetId s then (s.bump F.LIN_DROP_LATE 1, false)
  else if s.line.seen.contains e then (s.wrapUp F.LIN_DROP_DUPLICATES 1, false)
  else ({ s with line := { s.line with seen := e :: s.line.seen } }, true)

/-- A module that the holder had in SET_MISMATCH sends its entries again (R255, R270). -/
def endMismatch (n : Nat) (s : State) : State :=
  if isTerminus s && inMismatch s n then
    raise Src.LIN_STATION_JOINED n { s with line := { s.line with members := s.line.members.map (fun (m : Member) =>
      if m.num = n then { m with mismatch := false, absent := false, silent := 0 } else m) } }
  else s

/-- A whole reserved frame of another module: accepted as the first copy of its sequence number, or dropped and counted
(R172). DESIGN CHOICE: a module's own reserved frame that comes back is dropped and not counted (log entry 209). -/
def acceptReserved (east : Bool) (f : LineFrame) (s : State) : State × Bool :=
  if !portOpen s east then (s, false)
  else if !frameGood f then (countBad east f s, false)
  else if srcIsOwn s f.src.toNat then (s, false)
  else
    match firstOfSequence f s with
    | (s, false) => (s, false)
    | (s, true) =>
      let s := noteHeard f.src.toNat s
      match numOfSrc s f.src.toNat with
      | none => (s, true)
      | some n => (endMismatch n s, true)

/-- Mirroring runs while MAJOR and MINOR of IDR_YARD_FW are the same on both termini, the transfer while they differ (R210, R764). -/
def mirrorFits (m : Mirror) (s : State) : Bool := m.grids == (m.yardFw / 65536 == s.reg Reg.IDR_YARD_FW / 65536)

/-- The relief terminus takes a complete mirror or transfer (R118, R210, R252, R327, R376, R521–R523, R562–R563, R584, R764). -/
def takeMirror (m : Mirror) (s : State) : State :=
  let mirrored := foldOver (fun l x => putSessionIn x l) [] (m.sessions.filter (fun x => decide (1 ≤ x.num) && decide (x.num ≤ 12)))
  let regs := foldOver (fun (l : List (Nat × Word)) (e : Nat × Word) =>
      if mirroredReg e.1 then
        let k := regMask (fun a => a == Access.RWS) e.1
        let w := (storeGet regDefault l e.1).toNat
        storeSet regDefault l e.1 (BitVec.ofNat 32 (Nat.land w k + (e.2.toNat - Nat.land e.2.toNat k)))
      else l) s.regs m.regs
  let nav : NavPart := { s.nav with
    guide := m.nav.guide, reversed := m.nav.reversed, shiftNow := m.nav.shiftNow, edge := m.nav.edge, edgeFit := m.nav.edgeFit,
    edgeAt := m.nav.edgeAt, delta := m.nav.delta, orbits := m.nav.orbits, mirEy := m.nav.ey, mirEpsi := m.nav.epsi, lastDisciplined := m.nav.lastDisciplined,
    errAcc := m.nav.errAcc, errFrom := m.nav.errFrom, aiding := m.nav.aiding, sources := m.nav.sources,
    spDemand := m.nav.spDemand, spCommand := m.nav.spCommand }
  let fus : FusionPart :=
    if m.grids then { s.fus with frameNo := m.frameNo, tFrame := m.tFrame, cells := m.cells }
    else { s.fus with cells := s.fus.cells.map (fun c => { c with disRun := 0, agreeRun := 0 }) }
  { s with
    regs := regs, nav := nav, fus := fus,
    fn := { m.fn with copies := s.fn.copies },
    yld := { m.yld with fields := (m.yld.fields.filter (fun f => some f.id == m.yld.openId)) ++
      s.yld.fields.filter (fun f => some f.id != m.yld.openId) },
    cst := { m.cst with
      seqMark := s.cst.seqMark, seqNext := s.cst.seqNext, seqEnd := s.cst.seqEnd },
    upd := { s.upd with run := m.run },
    line := { s.line with members := m.members, mirrorSessions := mirrored, mirrorThrows := m.throws, mirrorAt := some (cycleNow s) } }

/-- The tile regions of a frame of an entry, at these word offsets and of streams of these KINDs, reach fusion (R315). -/
def takeRegions (src entry : Nat) (regions : List (Nat × Nat)) (payload : Bytes) (s : State) : State :=
  match numOfSrc s src with
  | none => s
  | some n => foldOver (fun s w => acceptRegion n (1024 * entry + w.1) w.2 (payload.drop (4 * w.1)) s) s regions

/-- RESERVED_FRAME_RECEIVE (R172): a DATA frame, with the word offsets of the tile regions in it, and the mirror that it
completes. While the Line is lost, and until the first cycle that begins after it has been regained, no Line value is taken (R205,
R208). -/
def dataReceive (east : Bool) (f : LineFrame) (regions : List (Nat × Nat)) (mirror : Option Mirror) (s : State) : State :=
  if f.type.toNat ≠ 2 then s
  else
    let (s, fresh) := acceptReserved east f s
    match slotNo s f.entry.toNat with
    | none => s
    | some x =>
      if !fresh || !addressed s x || x.cls != 0 then s
      else if isMirrorEntry x then
        match mirror with
        | some m => if isRelief s && mirrorFits m s then takeMirror m s else s
        | none => s
      else if s.flag F.LIN_STATUS_LINE_LOST || decide (cycleNow s < s.line.valuesFrom) then s
      else entryFound x.entry (putValue x.entry f.payload (takeRegions f.src.toNat x.entry regions f.payload s))

/-! ### CYCLE_START (R182, R183, R194, R195, R208, R214, R247–R255, R517) -/

/-- The terminus time minus device time when a copy of CYCLE_START arrives on a port (R194): T_START + CORR + the delay of the
receiving link, in whole ns. -/
def timeError (s : State) (east : Bool) (f : LineFrame) : Int :=
  (fieldAt f.payload 0 8 : Int) + roundDiv ((fieldAt f.payload 8 4 + s.get (delayField east) : Nat) : Int) 16 - (deviceTime s : Int)

/-- Device time follows the terminus (R195, R208, R517): stepped where so asked and the error exceeds a bound, else steered by
frequency over the coming cycle. -/
def followTime (step : Bool) (bound : Nat) (err : Int) (s : State) : State :=
  if step && decide (bound < err.natAbs) then stepTime err s else beginSteer err ms s

/-- POS_E, taken from CYCLE_START (R183). DESIGN CHOICE: a module that has joined keeps the POS_E that it joined with while LIN_POS
holds it, since R183 takes it as a step of joining; it is taken again where the restart of the Yard die has cleared it (log entry
164). -/
def takePosition (f : LineFrame) (s : State) : State :=
  let n := s.get F.LIN_CFG_N_LINE
  let s := if f.dir then { s with line := { s.line with hopsW := f.hops.toNat } }
    else { s with line := { s.line with hopsE := f.hops.toNat } }
  if s.line.everJoined && s.get F.LIN_POS_POS_E != 0x7F then s
  else if !f.dir then s.put F.LIN_POS_POS_E f.hops.toNat
  else if s.line.hopsE = 0 ∧ 0 < n then s.put F.LIN_POS_POS_E (n - f.hops.toNat)
  else s

/-- The time of a CYCLE_START is taken: a step at the first one of a module that has never joined; a step of more than 1 µs
after a loss, after RESYNC has cleared, and when a merged holder is followed; steering otherwise. The pulse after RESYNC is suppressed on
every module (R517, R518). -/
def takeTime (east merged : Bool) (f : LineFrame) (s : State) : State :=
  let err := timeError s east f
  let resync := bitAt (fieldAt f.payload 12 1) 2
  if !s.line.everJoined && s.line.lastCycleStart.isNone then followTime true 0 err s
  else if s.nav.resync && !resync then
    suppressPulse (followTime true 1000 err { s with nav := { s.nav with resync := false } })
  else if resync then { s with nav := { s.nav with resync := true } }
  else followTime (s.flag F.LIN_STATUS_LINE_LOST || s.line.lastCycleStart.isNone || merged) 1000 err s

/-- The tokens of CYCLE_START (R247, R765). -/
def takeToken (f : LineFrame) (s : State) : State :=
  let b := f.payload.drop 24
  let kind := fieldAt b 0 1
  if kind = 1 then
    passToken { s with sets := { s.sets with token := some (fieldAt b 4 4, fieldAt b 8 4, f.cycle.toNat) } }
  else if kind = 2 then { s with upd := { s.upd with handToken := some (fieldAt b 4 4, fieldAt b 8 8) } }
  else s

/-- What the SET_ID of an accepted CYCLE_START means for the sets (R253–R255). Where the Yard die has swapped alone, the set of the Line is
not that of the Signal die yet, which swaps late (R248, R253). -/
def compareSets (f : LineFrame) (s : State) : State :=
  let id := f.setId.toNat
  let st := sidingState s
  let s := { s with line := { s.line with lineSetId := id } }
  if id = ownSetId s ∧ s.sets.yardAhead = none then
    let s := s.put F.CFG_STATE_SET_MISMATCH 0
    let begun := match s.sets.armedFor with
      | none => false
      | some n => cycleReached f.cycle.toNat n && cycleReached (cycle32 s) n
    if st = sArmed ∧ begun = true then disarm s else s
  else if (st = sReady ∨ st = sArmed) ∧ s.get F.CFG_SIDING_CRC_CRC % 65536 = id then
    if s.sets.lateAt.isSome then s else { s with sets := { s.sets with lateAt := some (cycleNow s + 1) } }
  else if s.flag F.CFG_STATE_SET_MISMATCH then s
  else raise0 Src.CFG_SET_MISMATCH ((s.put F.CFG_STATE_SET_MISMATCH 1).put F.LIN_STATUS_IN_TIMETABLE 0)

/-- A module that has joined sends its entries again from the next cycle start (R208): after a loss of the Line, after free
running, after its Yard die has returned, and when its set is the Line's again. -/
def resumeEntries (s : State) : State :=
  let started := match s.line.startCycle with
    | none => false
    | some c => cycleReached (cycle32 s) c
  if s.role.joined && s.line.everJoined && started && !s.flag F.LIN_STATUS_IN_TIMETABLE && !s.flag F.CFG_STATE_SET_MISMATCH &&
      s.get F.LIN_STATUS_HOLD_OUT == 0 then
    State.put { s with line := { s.line with valuesFrom := max s.line.valuesFrom (cycleNow s + 1) } } F.LIN_STATUS_IN_TIMETABLE 1
  else s

/-- A CYCLE_START comes from another holder of the terminus role than the one that this module follows and still hears (R214). -/
def otherHolderNow (s : State) (f : LineFrame) : Bool :=
  s.line.masterUid != 0 && s.line.masterUid != fieldAt f.payload 16 8 && !bitAt (fieldAt f.payload 12 1) 3 &&
    s.get F.LIN_STATUS_MISSED == 0

/-- The other holder is the one that gives up the role: its HEARD is the smaller one, or its IDR_UID the greater one where they are
equal (R214). -/
def yieldingHolder (s : State) (f : LineFrame) : Bool :=
  otherHolderNow s f &&
    (decide (fieldAt f.payload 13 1 < s.line.masterHeard) ||
      (fieldAt f.payload 13 1 == s.line.masterHeard && decide (s.line.masterUid < fieldAt f.payload 16 8)))

/-- The first good copy of CYCLE_START in a cycle; holder is the join number of its sender, and fresh says that R172 accepts the frame.
One of another cycle or set is no accepted frame, but its time and its SET_ID are what R182, R194 and R253–R255 go by. -/
def firstCopy (east fresh : Bool) (f : LineFrame) (holder : Nat) (s : State) : State :=
  let uid := fieldAt f.payload 16 8
  let tstat := fieldAt f.payload 12 1
  let merged := otherHolderNow s f
  let lost := s.flag F.LIN_STATUS_LINE_LOST
  let s := noteTstat tstat (takeTime east merged f (takePosition f s))
  let s := (s.put F.LIN_POS_MASTER_NUM holder).put F.LIN_STATUS_MISSED 0
  let s := { s with line := { s.line with
    csHops := some f.hops.toNat, lastCycleStart := some s.now, tstat := tstat, masterUid := uid, masterHeard := fieldAt f.payload 13 1, freeRun := 0 } }
  let s := if fresh then noteHeard 0x40 { s with line := { s.line with misses := s.line.misses.filter (fun e => e.1 != 0) } } else s
  let s := compareSets f s
  let s := if f.setId.toNat = ownSetId s then takeToken f { s with line := { s.line with csCycle := some f.cycle.toNat } } else s
  let s := if merged then raise0 Src.LIN_MASTER_MERGE s else s
  let s := if lost then
      raise0 Src.LIN_LINE_REGAINED
        (State.put { s with line := { s.line with valuesFrom := cycleNow s + 1 } } F.LIN_STATUS_LINE_LOST 0)
    else s
  resumeEntries s

/-- CYCLE_START_RECEIVE (R194) at a module that does not hold the terminus role. While it hears two holders, it follows the one that
keeps the role (R214). After RESYNC the CYCLE_START of the coming cycle, which a step has moved, may be here before the module's own
cycle ends, and stands for that cycle (R517). -/
def cycleStartReceive (east : Bool) (f : LineFrame) (holder : Nat) (s : State) : State :=
  if isTerminus s || !portOpen s east || f.type.toNat ≠ 1 then s
  else if !frameGood f then countBad east f s
  else
    let s := if s.role.role == .terminusClaim then { s with role := { s.role with heardHolder := true } } else s
    let stray := decide (f.cycle.toNat ≠ s.get F.LIN_CYCLE_CYCLE)
    let loose := !s.flag F.LIN_STATUS_SYNCED || s.flag F.LIN_STATUS_LINE_LOST || s.nav.resync ||
      s.line.masterUid != fieldAt f.payload 16 8
    let (s, fresh) := firstOfSequence f s
    if (stray && !loose) || yieldingHolder s f then s
    else
      match s.line.csHops with
      | none => firstCopy east fresh f holder s
      | some h =>
        if s.nav.resync && f.cycle.toNat != s.get F.LIN_CYCLE_CYCLE && s.line.csCycle != some f.cycle.toNat && !s.line.csEarly then
          let s := firstCopy east fresh f holder s
          { s with line := { s.line with csEarly := true } }
        else
        let s := takePosition f s
        if f.hops.toNat < h && s.line.masterUid == fieldAt f.payload 16 8 then
          takeTime east false f { s with line := { s.line with csHops := some f.hops.toNat } }
        else s

/-! ### The cycle (R157, R172, R175, R189, R197, R204, R206) -/

/-- Consecutive cycles without an accepted frame, of every member in the timetable (R189). DEDUCED: one in SET_MISMATCH that has become
absent, since it sends no reserved frames (R255), stays so until its set is the Line's; a JOIN of it ends nothing (log entry 170). -/
def countSilent (s : State) : State :=
  if !isTerminus s then s
  else
    { s with line := { s.line with members := s.line.members.map (fun m =>
      if s.line.heard.contains m.num && !(m.mismatch && m.absent) then { m with silent := 0, absent := false }
      else if m.result == 0 && cycleReached (s.get F.LIN_CYCLE_CYCLE) m.startCycle && m.num != joinNum s then
        { m with silent := m.silent + 1 }
      else m) } }

/-- The error estimate of a station (R196, R197): ±40 ns with CYCLE_START, growing with the tolerance of the reference in each
cycle without; 0 on the holder, unknown before the first join. -/
def stationTerr (s : State) : Nat :=
  if isTerminus s then 0
  else if !s.line.everJoined then 0xFFFF
  else satN 16 (40 + (roundDiv s.line.terrGrown 10000000000).toNat)

/-- A cycle ends without CYCLE_START: the error estimate grows by the tolerance of the reference now selected; cycles in which the Yard
die was down count with it (R197). One with CYCLE_START ends the growth. -/
def growTerr (got : Bool) (s : State) : State :=
  let cycles := max 1 (cycleNow s - s.line.closedCycle)
  { s with line := { s.line with
      closedCycle := cycleNow s
      terrGrown := if got || isTerminus s then 0 else s.line.terrGrown + growthRate s * ms * cycles } }

/-- The end of a cycle: what the module counts of it (R175, R189, R197, R204, R211, R216, R217). -/
def closeCycle (s : State) : State :=
  let got := s.line.csHops.isSome
  let s := if isTerminus s then s.put F.LIN_STATUS_MISSED 0
    else if got then { s with line := { s.line with freeRun := 0, syncRun := s.line.syncRun + 1 } }
    else { s with line := { s.line with freeRun := s.line.freeRun + 1, syncRun := 0 } }.bump F.LIN_STATUS_MISSED 1
  let s := growTerr got s
  let s := (gather 11 (stationTerr s) (s.put F.LIN_TERR_TERR (stationTerr s))).put F.LIN_POS_HEARD (satN 7 (heardCount s))
  let s := s.put F.LIN_STATUS_MIRROR_OK (b2n (isRelief s && decide (s.line.mirrorAt = some (cycleNow s - 1))))
  let s := countSilent s
  let onePort := fun (p : PortState) => { p with
    errors := 0, checkOk := false, checkSeen := false, goodChecks := if p.checkSeen then p.goodChecks else 0 }
  { s with line := { s.line with
      east := onePort s.line.east, west := onePort s.line.west, seen := [], heardBefore := s.line.heard, heard := if s.line.csEarly then [0x40] else [], csHops := if s.line.csEarly then s.line.csHops else none, csEarly := false, hopsE := 0, hopsW := 0,
      joinsNow := [], done := [], laterCopies := [], mirrorCur := none, mirrorDone := if s.line.mirrorCur.isSome then s.line.mirrorCur else s.line.mirrorDone } }

/-- CYCLE_BOUNDARY (R157): the cycle that ends is closed, a throw or a late throw takes effect, ring ends are restored, what is
computed once a cycle is computed in the order of the ranks of R70, and the holder of the terminus role sends CYCLE_START. The cycle before
a step ends only with the step (R516). -/
def cycleBoundary (s : State) : State :=
  if !cycleOver s || stepHolds s then s
  else
    let s := closeCycle s
    let s := s.put F.LIN_CYCLE_CYCLE (cycle32 s)
    let s := lateThrow (throwStart s)
    let s := restorePort true (restorePort false s)
    let s := if s.line.yieldRole then
        becomeRelief { s with line := { s.line with yieldRole := false } }
      else s
    let s := acceptOwnRegions (takeNextWords s)
    let s := if isTerminus s then steerCycle s else s
    let s := if isTerminus s then slewAll s else s
    let s := noteHealth (yieldCycle (receiverWatch s))
    sendCycleStart (if isTerminus s then sendArming s else s)

/-- RES_END_MISS (R175): each RESERVED entry that addresses the module and was not accepted counts a miss, entry 0 (R161) with them. -/
def resEndMiss (s : State) : State :=
  if !s.die.yardUp || cycleOver s || !inBestEffort s || doneNow s 0 then s
  else
    let l := ((slots s).filter (fun x =>
      x.cls == 0 && addressed s x && !sends s x && !s.line.seen.contains x.entry)).map (·.entry)
    markDone 0 { s with line := { s.line with
      misses := foldOver (fun m e => putNum m e (min 255 ((lookupNum m e).getD 0 + 1))) s.line.misses l } }

/-- ENTRY_MISS_LIMIT (R206). -/
def entryMissLimit (entry : Nat) (s : State) : State :=
  if missesOf s entry < 5 || s.flag F.LIN_STATUS_LINE_LOST || s.eng.lostEntries.contains entry || !(usedEntries s 4).contains entry then s
  else refreshLoss { s with eng := { s.eng with lostEntries := s.eng.lostEntries ++ [entry] } }

/-- LINE_LOST (R197, R204, R205, R421). -/
def lineLost (s : State) : State :=
  if isTerminus s || !s.die.yardUp || s.flag F.LIN_STATUS_LINE_LOST || decide (s.get F.LIN_STATUS_MISSED < 5) then s
  else
    let s := raise0 Src.LIN_LINE_LOST ((s.put F.LIN_STATUS_LINE_LOST 1).put F.LIN_STATUS_SYNCED 0)
    refreshLoss { s with eng := { s.eng with lostEntries := distinct (s.eng.lostEntries ++ usedEntries s 4) } }

/-- FREE_RUN_LIMIT (R167). -/
def freeRunLimit (s : State) : State :=
  if !isTerminus s && decide (32 ≤ s.line.freeRun) then s.put F.LIN_STATUS_IN_TIMETABLE 0 else s

/-- SYNC_ACHIEVED (R196). -/
def syncAchieved (s : State) : State :=
  if !isTerminus s && s.die.yardUp && decide (16 ≤ s.line.syncRun) then s.put F.LIN_STATUS_SYNCED 1 else s

/-- STATION_ABSENT (R189). A diagnostic stream of the module is gone with it (R180). -/
def stationAbsent (n : Nat) (s : State) : State :=
  match s.line.members.find? (fun m => m.num == n && m.result == 0) with
  | none => s
  | some m =>
    if !isTerminus s || m.absent || decide (m.silent < 5) then s
    else
      let s := { s with line := { s.line with members := s.line.members.map (fun (k : Member) =>
        if k.num = n ∧ k.result = 0 then { k with absent := true } else k) } }
      let gone := match s.dma.diagAt with
        | none => false
        | some d => d.1 == n
      raise Src.LIN_STATION_ABSENT n (if gone then { s with dma := { s.dma with diagAt := none } } else s)

end Sys2Proof.Machine
end

