-- ==== Sys2Proof/Machine/Joins.lean ====
section
/-!
DEFINITION. Joining (R182–R190), the relief terminus and the change of the terminus role (R15, R16, R54, R58, R119,
R211–R214, R522, R523, R765–R767), the best-effort frames of a module (R176–R179) and the relay of the diagnostic stream
(R670); the rows of the Line.
-/

namespace Sys2Proof.Machine

/-! ### Best-effort frames, whole (R155, R177, R178) -/

/-- A whole best-effort frame on an open port is for this module (R178). -/
def beForMe (s : State) (east : Bool) (f : LineFrame) : Bool :=
  portOpen s east && frameGood f && !beOwn s f && (!f.turned || f.pastSender) &&
    (f.dest == 0xFF#8 || (s.role.joined && f.dest.toNat == joinNum s))

/-- A ring end, or the sender, treats a best-effort frame (R177): a frame with TURNED clear is turned back at a ring end, one
with TURNED set is removed there; the sender's own frame goes on past it once, unless its way is a ring end. A frame for this
module alone ends here (R156). -/
def beTurn (east : Bool) (f : LineFrame) (s : State) : State :=
  let next := { f with hops := f.hops + 1#8 }
  let n := s.get F.LIN_CFG_N_LINE
  if beOwn s f then
    if f.turned && !f.pastSender && portOpen s (!east) then leaveBe (!east) (passedOn f { next with pastSender := true }) s
    else s
  else if portOpen s (!east) || (s.role.joined && f.dest.toNat == joinNum s) || (0 < n && decide (2 * n ≤ f.hops.toNat)) then s
  else if f.turned then s
  else leaveBe east (passedOn f { next with turned := true }) s

/-- BE_FRAME_SEND (R176, R179, R200): the CHECK frames of the cycle, then the oldest waiting frame of this module; forwarded
frames that leave a port go first. -/
def beFrameSend (s : State) : State :=
  if !s.die.yardUp || !inBestEffort s then s
  else
    let t := if doneNow s 4 then s else sendChecks s
    if t.out.length > s.out.length then t
    else
      match t.line.beQueue with
      | [] => t
      | (type, dest, payload) :: rest =>
        if portUp t (waitingPort t dest) && !(portBusy t (waitingPort t dest)).isEmpty then t
        else
          let u := sendWaiting type dest payload { t with line := { t.line with beQueue := rest } }
          if type = 0x16 then packetLeft 0xFFF payload u else u

/-! ### JOIN (R182–R190) -/

/-- A synced module sends JOIN until it is answered, every 100 cycles, and while it is in SET_MISMATCH (R182, R255). -/
def joinSend (s : State) : State :=
  let asks := match s.role.role with
    | .station | .reliefClaim | .relief | .stoodDown | .noRole => true
    | _ => false
  let again := match s.line.joinSent with
    | none => true
    | some c => decide (c + 100 ≤ cycleNow s)
  if !s.die.yardUp || !asks || !again || !inBestEffort s || !s.flag F.LIN_STATUS_SYNCED || s.get F.LIN_POS_POS_E == 0x7F ||
      (s.line.joinAnswered && !s.flag F.CFG_STATE_SET_MISMATCH) then s
  else
    let payload := leBytes 8 (ownUid s) ++ leBytes 4 (s.reg Reg.IDR_LINE_REV) ++ leBytes 4 (s.reg Reg.IDR_STRAP) ++
      leBytes 1 (s.get F.LIN_POS_POS_E) ++ leBytes 1 s.line.hopsW
    sendBe 0x10 (s.get F.LIN_POS_MASTER_NUM) (padTo 64 payload)
      { s with line := { s.line with joinSent := some (cycleNow s) } }

/-- JOIN_ACCEPT to the module with an IDR_UID, to every module since it may have no number (R182, R184). -/
def sendJoinAccept (uid result num start : Nat) (s : State) : State :=
  sendBe 0x11 0xFF (padTo 64 (leBytes 8 uid ++ leBytes 1 result ++ leBytes 1 num ++ leBytes 2 0 ++ leBytes 4 start)) s

/-- The member of an IDR_UID. -/
def memberOfUid (s : State) (uid : Nat) : Option Member := s.line.members.find? (fun m => m.uid == uid)

/-- The members with the one of an IDR_UID replaced. One that is absent stays in the timetable: only R91 takes its number for free
(R189). -/
def putLineMember (m : Member) (s : State) : State :=
  { s with line := { s.line with members := s.line.members.filter (fun (k : Member) => k.uid != m.uid) ++ [m] } }

/-- A module is held out with a code (R187). -/
def holdOut (uid num posE code : Nat) (s : State) : State :=
  let m : Member := {
    num := num, uid := uid, posE := posE, result := code, startCycle := 0, relief := false, absent := false, silent := 0 }
  raiseArg Src.LIN_HELD_OUT num code (sendJoinAccept uid code num 0 (putLineMember m s))

/-- A module is accepted into the timetable; START_CYCLE lies three cycles ahead. One whose SET_ID is not the Line's is known
as in SET_MISMATCH (R182, R255, R270). -/
def admitted (uid num posE : Nat) (relief mismatch : Bool) (s : State) : State :=
  let start := (cycle32 s + 3) % 4294967296
  let m : Member := {
    num := num, uid := uid, posE := posE, result := 0, startCycle := start, relief := relief, silent := 0,
    absent := mismatch && (memberOfUid s uid).any (fun k => k.result == 0 && k.mismatch && k.absent),
    mismatch := mismatch, origin := joinNum s }
  let known := (memberOfUid s uid).any (fun k => k.result == 0 && !k.absent)
  let s := putLineMember m s
  let s := { s with line := { s.line with joinsNow := s.line.joinsNow ++ [(uid, num, posE)] } }
  let s := sendJoinAccept uid 0 num start s
  if known || mismatch then s else raise Src.LIN_STATION_JOINED num s

/-- The module with an IDR_UID was accepted in this very cycle. -/
def joinedNow (s : State) (uid : Nat) : Bool := s.line.joinsNow.any (fun e => e.1 == uid)

/-- The relief terminus in the timetable other than the module with an IDR_UID (R16). -/
def otherRelief (s : State) (uid : Nat) : Option Member :=
  s.line.members.find? (fun m => m.relief && m.result == 0 && m.uid != uid)

/-- The module in the timetable that holds a number, other than the one with an IDR_UID (R186). -/
def otherHolder (s : State) (uid num : Nat) : Option Member :=
  s.line.members.find? (fun m => m.num == num && m.result == 0 && m.uid != uid)

/-- A claim of the relief role (R16): refused while another relief terminus is in the timetable, but for one whose claim came
in the same cycle from a module with a higher IDR_UID. DESIGN CHOICE: a claim that is itself held out counts against no other (log entry
202). -/
def admitRelief (uid num posE : Nat) (mismatch : Bool) (s : State) : State :=
  match otherRelief s uid with
  | none => admitted uid num posE true mismatch s
  | some m =>
    if joinedNow s m.uid && decide (uid < m.uid) then
      admitted uid num posE true mismatch (holdOut m.uid m.num m.posE 4 s)
    else holdOut uid num posE 4 s

/-- The holder's answer to a JOIN (R13, R16, R54, R144, R182–R190). A module accepted before in this power cycle is accepted again
under its number (R190); one that now has STRAP_FAULT or has stood down has been through a power-up of its own, and the checks apply
to it. DESIGN CHOICE: a module whose number by position would be 64 or more has no answer: a Line holds 63 numbered modules, and R187 has no
RESULT for it (R61, log entry 156). DEDUCED: the number straps of a module strapped as terminus that has stood down are ignored here
too: it is numbered by its position (R7, log entry 201). -/
def joinDecide (uid rev strap posE setId : Nat) (s : State) : State :=
  let code := bitsAt strap 0 2
  let num := if bitAt strap 2 && code != 2 then bitsAt strap 8 6 else posE
  let mismatch := decide (setId ≠ ownSetId s)
  let earlier := (memberOfUid s uid).any (fun m => m.result == 0) && !bitAt strap 16 && !bitAt strap 17
  if !earlier && decide (64 ≤ num) then s
  else if earlier then
    let n := match memberOfUid s uid with
      | none => num
      | some m => m.num
    let t := if code = 0 then admitted uid n posE false mismatch s else admitRelief uid n posE mismatch s
    { t with line := { t.line with joinsNow := s.line.joinsNow } }
  else if bitsAt rev 8 8 ≠ bitsAt (s.reg Reg.IDR_LINE_REV) 8 8 then holdOut uid num posE 1 s
  else if bitAt strap 16 then holdOut uid num posE 3 s
  else if bitAt strap 17 then holdOut uid num posE 4 s
  else if num = joinNum s then holdOut uid num posE 2 s
  else
    match otherHolder s uid num with
    | some m =>
      if joinedNow s m.uid && decide (posE < m.posE) then
        let s := holdOut m.uid num m.posE 2 s
        if code = 1 then admitRelief uid num posE mismatch s else admitted uid num posE false mismatch s
      else holdOut uid num posE 2 s
    | none => if code = 1 then admitRelief uid num posE mismatch s else admitted uid num posE false mismatch s

/-- JOIN_RECEIVE (R186). -/
def joinReceive (east : Bool) (f : LineFrame) (s : State) : State :=
  if !isTerminus s || f.type.toNat ≠ 0x10 || !beForMe s east f then s
  else
    let b := f.payload
    joinDecide (fieldAt b 0 8) (fieldAt b 8 4) (fieldAt b 12 4) (fieldAt b 16 1) f.setId.toNat s

/-- JOIN_ACCEPT_RECEIVE (R182, R187, R188): the module takes its number and START_CYCLE, is held out with its channels off, or stands
down. -/
def joinAcceptReceive (east : Bool) (f : LineFrame) (s : State) : State :=
  let b := f.payload
  if isTerminus s || f.type.toNat ≠ 0x11 || !beForMe s east f || fieldAt b 0 8 ≠ ownUid s then s
  else
    let result := fieldAt b 8 1
    let s := { s with line := { s.line with joinAnswered := true } }
    if result = 0 then
      let s := if s.role.role == .reliefClaim then setRole .relief s else s
      let s := State.put { s with
        role := { s.role with joined := true },
        line := { s.line with everJoined := true, startCycle := some (fieldAt b 12 4) } } F.IDR_ROLE_JOIN_NUM (fieldAt b 9 1)
      s.put F.LIN_STATUS_HOLD_OUT 0
    else if result = 4 then standDown { s with line := { s.line with startCycle := none } }
    else
      channelsOff ((State.put { s with role := { s.role with joined := false }, line := { s.line with startCycle := none } }
        F.LIN_STATUS_HOLD_OUT result).put F.LIN_STATUS_IN_TIMETABLE 0)

/-- TIMETABLE_START (R182). -/
def timetableStart (s : State) : State :=
  match s.line.startCycle with
  | none => s
  | some c =>
    if s.die.yardUp && s.role.joined && cycleReached (cycle32 s) c && s.get F.LIN_STATUS_HOLD_OUT == 0 &&
        !s.flag F.CFG_STATE_SET_MISMATCH && !s.flag F.LIN_STATUS_LINE_LOST then
      s.put F.LIN_STATUS_IN_TIMETABLE 1
    else s

/-! ### The terminus role changes (R15, R119, R211–R214, R252, R376, R522, R523, R766) -/

/-- ROLE_TAKEOVER goes to every mirrored session, subscribed or not (R119). -/
def tellTakeover (s : State) : State :=
  let r := eventRecord Src.LIN_ROLE_TAKEOVER 0xFFFF 0 s
  let t := raise0 Src.LIN_ROLE_TAKEOVER s
  { t with pk := { t.pk with sessions := t.pk.sessions.map (fun x =>
    if x.isOpen && decide (x.num ≤ 12) && !subscribed t x.num Src.LIN_ROLE_TAKEOVER then (queueEvent r t.now x).1 else x) } }

/-- The time state of a new holder (R213, R522): LOCKED where its own solution is valid, with the difference slewed out, else
HOLDOVER from the former holder's last solution. -/
def takeoverTime (s : State) : State :=
  let s := { s with steer := none }
  let s := if s.nav.lineAligned then s.put F.GNS_STATUS_TIME_VALID 1 else s
  if !s.flag F.GNS_CFG_EN then s.put F.GNS_STATUS_TSTATE tsOff
  else if s.now < s.nav.lastValid + sec then
    beginSlew s.nav.lastOffset
      (State.put { s with nav := { s.nav with lastDisciplined := s.now } } F.GNS_STATUS_TSTATE tsLocked)
  else s.put F.GNS_STATUS_TSTATE tsHoldover

/-- The bitmap of seen SEQUENCE numbers below H without some of them (R110). -/
def unmark (h seen : Nat) (l : List Nat) : Nat :=
  foldOver (fun m q => let b := (h + 4294967296 - q) % 4294967296; if b < 64 then setBitsAt m b 1 0 else m) seen l

/-- A mirrored session as the new holder goes on with it: of its records those of completed requests count, and those of the accepted
throws (R118, R252), and a request that had not completed is executed when it is sent again (R119); the module's own records of
requests that had been forwarded to it stand beside them (R113), and the blocks that those have unlocked on it stay so (R140). -/
def takenSession (s : State) (x : Session) : Session :=
  let kept := x.records.filter (fun (r : ReqRecord) =>
    r.state == .done || s.line.mirrorThrows.any (isWaitingFor x.num r.seq))
  let own := (findSession s x.num).getD { x with records := [], unlocked := [] }
  let records := kept ++ own.records.filter (fun (r : ReqRecord) => r.state == .done && !kept.any (fun q => q.seq == r.seq))
  let open_ := x.records.filter (fun (r : ReqRecord) => !records.any (fun q => q.seq == r.seq))
  { x with
    seen := unmark x.h x.seen (open_.map (fun (r : ReqRecord) => r.seq))
    records := records, lastAuth := s.now, unlocked := own.unlocked }

/-- The sessions 1–12 go on under the mirrored session state (R118, R119), with the accepted throws (R252). -/
def takeoverRecords (s : State) : State :=
  { s with
    line := { s.line with mirrorSessions := [] }
    pk := { s.pk with
    sessions := foldOver (fun l x => putSessionIn (takenSession s x) l) (s.pk.sessions.filter (fun x => decide (13 ≤ x.num)))
      s.line.mirrorSessions
    waiting := s.pk.waiting.filter (fun w => decide (13 ≤ w.req.session.toNat)) ++ s.line.mirrorThrows } }

/-- The former holder as the new one knows it: it keeps its number when it joins again (R58, R190). -/
def withFormer (former : Nat) (s : State) : List Member :=
  if s.line.members.any (fun m => m.num == former && m.result == 0) then s.line.members
  else
    let m : Member := {
      num := former, uid := s.line.masterUid, posE := 0, result := 0, startCycle := 0, relief := false, absent := false, silent := 0,
      origin := former }
    s.line.members ++ [m]

/-- The relief terminus takes the terminus role (R212, R213), at a takeover or at a handover. The former holder of a handover is
the relief terminus from then on. -/
def takeRole (byHandover : Bool) (s : State) : State :=
  let former := s.get F.LIN_POS_MASTER_NUM
  let s := takeoverTime (setRole .terminus { s with role := { s.role with firstCycleStart := some 0 } })
  let s := (s.put F.IDR_ROLE_TAKEN_OVER 1).bump F.IDR_ROLE_TAKEOVERS 1
  let s := ((s.put F.LIN_POS_MASTER_NUM (joinNum s)).put F.LIN_STATUS_MIRROR_OK 0).put F.LIN_STATUS_LINE_LOST 0
  let s := tellTakeover (takeoverRecords s)
  let s := { s with
    sets := { s.sets with throw := none, okFrom := [] },
    line := { s.line with
      run := 0, takeoverDue := false, takeoverFlag := true, mirrorThrows := [], mirrorAt := none,
      members := (withFormer former s).map (fun m =>
        if m.num = joinNum s then { m with relief := false }
        else if m.num = former ∧ byHandover = true then { m with relief := true, absent := false, silent := 0 }
        else { m with relief := m.relief && m.num != former, silent := 0 }) },
    fus := { s.fus with fed := [], frame := none },
    nav := { s.nav with blendDue := engaged s },
    upd := { s.upd with handToken := none, handover := none } }
  takeoverSetting s

/-- TAKEOVER_DECISION (R211), at the end of a cycle. -/
def takeoverDecision (s : State) : State :=
  if !isRelief s || !cycleOver s || doneNow s 3 then s
  else
    let s := markDone 3 s
    let ended := cycleNow s - 1
    let firstMiss := ended - s.get F.LIN_STATUS_MISSED
    let run := if s.line.csHops.isSome then 0
      else if heardCount s * 2 > s.get F.LIN_CFG_N_LINE then s.line.run + 1
      else 0
    let s := { s with line := { s.line with run := run } }
    let mirrored := match s.line.mirrorAt with
      | none => false
      | some c => decide (firstMiss ≤ c + 4)
    if run ≥ 3 && mirrored then { s with line := { s.line with takeoverDue := true } } else s

/-- TAKEOVER (R212): in the cycle after the decision; CYCLE_START of the cycle follows where its start has passed. -/
def takeover (s : State) : State :=
  if !s.line.takeoverDue || !isRelief s || !s.die.yardUp then s
  else
    let s := takeRole false s
    if cycleOver s then s else sendCycleStart s

/-- HANDOVER (R766): the former holder goes on as relief terminus where the relief terminus has taken the role, else it keeps
it; the named relief terminus takes the role where it holds a complete mirror or transfer of cycle H − 1. -/
def handover (taken : Bool) (s : State) : State :=
  if !s.die.yardUp then s
  else if isTerminus s then
    match s.upd.handover with
    | none => s
    | some (h, _) =>
      if !cycleReached (cycle32 s) h then s
      else if taken then
        let s := becomeRelief s
        { s with line := { s.line with takeoverFlag := false } }
      else
        let s := modUpd (fun u => { u with handover := none }) s
        if cycleOver s then s else sendCycleStart s
  else if isRelief s then
    match s.upd.handToken with
    | none => s
    | some (h, uid) =>
      if uid ≠ ownUid s ∨ cycle32 s ≠ h then s
      else if s.line.mirrorAt = some (cycleNow s - 1) then
        let s := takeRole true s
        if cycleOver s then s else sendCycleStart s
      else modUpd (fun u => { u with handToken := none }) s
  else s

/-- CYCLE_START_FROM_HOLDER (R15, R214): a holder receives the CYCLE_START of another one. -/
def otherCycleStart (east : Bool) (f : LineFrame) (s : State) : State :=
  let uid := fieldAt f.payload 16 8
  if !isTerminus s || !portOpen s east || f.type.toNat ≠ 1 then s
  else if !frameGood f then countBad east f s
  else if uid = ownUid s then s
  else
    let s := (firstOfSequence f s).1
    let inWindow := !s.flag F.IDR_ROLE_TAKEN_OVER && (match s.role.firstCycleStart with
      | none => true
      | some x => decide (s.now < x + 100 * ms))
    if inWindow then (if uid < ownUid s then standDown s else s)
    else
      let theirs := fieldAt f.payload 13 1
      let loses := decide (s.line.sentHeard < theirs) || (decide (theirs = s.line.sentHeard) && decide (uid < ownUid s))
      if loses && !s.line.yieldRole then
        raise0 Src.LIN_MASTER_MERGE { s with line := { s.line with yieldRole := true, masterUid := uid, masterHeard := theirs } }
      else s

/-! ### The diagnostic stream and LINE_STATUS (R226, R670) -/

/-- DIAG_RECEIVE (R670): the holder relays the datagram to the address of the opening session; its length follows from its own
LEN. -/
def diagReceive (east : Bool) (f : LineFrame) (s : State) : State :=
  if !isTerminus s || f.type.toNat ≠ 0x15 || !beForMe s east f then s
  else
    match s.dma.diagAt with
    | none => s
    | some (_, _, session, udp) =>
      match sessionAddress s session with
      | none => s
      | some ip => emit (.datagram ip udp (f.payload.take (24 + fieldAt f.payload 20 2))) s

/-- LINE_STATUS: the 68 bytes of the LIN registers (R226). -/
def runLineStatus (_ : Request) (s : State) : Answer := ok s ((upFrom 0 17).flatMap (fun i => leBytes 4 (snapWord s (0x80000 + 4 * i))))

/-! ### The rows -/

/-- CYCLE_START_FROM_HOLDER (R214). -/
def execCycleStartFromHolder (t : Nat) (east : Bool) (f : LineFrame) (s : State) : Res := .next (otherCycleStart east f (begin_ t s))

/-- CYCLE_BOUNDARY (R157). -/
def execCycleBoundary (t : Nat) (s : State) : Res := .next (cycleBoundary (begin_ t s))

/-- ENTRY_SEND (R171). -/
def execEntrySend (t entry : Nat) (s : State) : Res := .next (entrySend entry (begin_ t s))

/-- LINE_FRAME_FORWARD (R156). -/
def execLineFrameForward (t : Nat) (east : Bool) (f : LineFrame) (residence : Nat) (s : State) : Res :=
  .next (lineForward east f residence (begin_ t s))

/-- RESERVED_FRAME_RECEIVE (R172). -/
def execReservedFrameReceive (t : Nat) (east : Bool) (f : LineFrame) (regions : List (Nat × Nat)) (mirror : Option Mirror) (s : State) : Res :=
  .next (dataReceive east f regions mirror (begin_ t s))

/-- CYCLE_START_RECEIVE (R194). -/
def execCycleStartReceive (t : Nat) (east : Bool) (f : LineFrame) (holder : Nat) (s : State) : Res :=
  .next (cycleStartReceive east f holder (begin_ t s))

/-- JOIN_SEND (R182). -/
def execJoinSend (t : Nat) (s : State) : Res := .next (joinSend (begin_ t s))

/-- JOIN_RECEIVE (R186). -/
def execJoinReceive (t : Nat) (east : Bool) (f : LineFrame) (s : State) : Res := .next (joinReceive east f (begin_ t s))

/-- JOIN_ACCEPT_RECEIVE (R182). -/
def execJoinAcceptReceive (t : Nat) (east : Bool) (f : LineFrame) (s : State) : Res := .next (joinAcceptReceive east f (begin_ t s))

/-- TIMETABLE_START (R182). -/
def execTimetableStart (t : Nat) (s : State) : Res := .next (timetableStart (begin_ t s))

/-- DELAY_PROBE (R192). -/
def execDelayProbe (t : Nat) (east : Bool) (s : State) : Res := .next (delayProbe east (begin_ t s))

/-- DELAY_REQ_RECEIVE (R192). -/
def execDelayReqReceive (t : Nat) (east : Bool) (f : LineFrame) (turnaround : Nat) (s : State) : Res :=
  .next (delayReqReceive east f turnaround (begin_ t s))

/-- DELAY_RESP_RECEIVE (R192). -/
def execDelayRespReceive (t : Nat) (east : Bool) (f : LineFrame) (roundTrip : Nat) (s : State) : Res :=
  .next (delayRespReceive east f roundTrip (begin_ t s))

/-- CHECK_RECEIVE (R199). -/
def execCheckReceive (t : Nat) (east : Bool) (f : LineFrame) (s : State) : Res := .next (checkReceive east f (begin_ t s))

/-- BE_FRAME_SEND (R176). -/
def execBeFrameSend (t : Nat) (s : State) : Res := .next (beFrameSend (begin_ t s))

/-- DIAG_RECEIVE (R670). -/
def execDiagReceive (t : Nat) (east : Bool) (f : LineFrame) (s : State) : Res := .next (diagReceive east f (begin_ t s))

/-- RES_END_MISS (R175). -/
def execResEndMiss (t : Nat) (s : State) : Res := .next (resEndMiss (begin_ t s))

/-- LINK_CLASSIFY (R200). -/
def execLinkClassify (t : Nat) (east : Bool) (s : State) : Res := .next (linkClassify east (begin_ t s))

/-- TAKEOVER_DECISION (R211). -/
def execTakeoverDecision (t : Nat) (s : State) : Res := .next (takeoverDecision (begin_ t s))

/-- TAKEOVER (R212). -/
def execTakeover (t : Nat) (s : State) : Res := .next (takeover (begin_ t s))

/-- PHY_LINK_DROP (R198). -/
def execPhyLinkDrop (t : Nat) (east : Bool) (s : State) : Res := .next (linkDrop east (begin_ t s))

/-- PHY_LINK_UP (R199). -/
def execPhyLinkUp (t : Nat) (east : Bool) (s : State) : Res := .next (linkUp east (begin_ t s))

/-- LINE_LOST (R204). -/
def execLineLost (t : Nat) (s : State) : Res := .next (lineLost (begin_ t s))

/-- ENTRY_MISS_LIMIT (R206). -/
def execEntryMissLimit (t entry : Nat) (s : State) : Res := .next (entryMissLimit entry (begin_ t s))

/-- STATION_ABSENT (R189). -/
def execStationAbsent (t n : Nat) (s : State) : Res := .next (stationAbsent n (begin_ t s))

/-- FREE_RUN_LIMIT (R167). -/
def execFreeRunLimit (t : Nat) (s : State) : Res := .next (freeRunLimit (begin_ t s))

/-- SYNC_ACHIEVED (R196). -/
def execSyncAchieved (t : Nat) (s : State) : Res := .next (syncAchieved (begin_ t s))

/-- HANDOVER (R766). -/
def execHandover (t : Nat) (taken : Bool) (s : State) : Res := .next (handover taken (begin_ t s))

end Sys2Proof.Machine
end

