-- ==== Sys2Proof/Machine/Verify.lean ====
section
/-!
DEFINITION. Verification of the siding set (R240, R241, R256, R257) with the checks of the owning chapters: R168–R170, R227–R231,
R263, R295, R298, R302, R328, R354, R378, R396, R410, R411, R428, R479, R540, R595, R664, R699, R834, R835.

The checks read a set through the state v that it would give: the state with the siding set in force.
-/

namespace Sys2Proof.Machine

/-- The state in which a container is the running set, for the checks to read. -/
def trial (c : Container) (s : State) : State :=
  { s with regs := swapRegs c s.regs, sets := { s.sets with running := some c, yardAhead := none }, eng := { s.eng with gainEdits := [] } }

/-- ROLE of the header of a part: 0 station, 1 relief terminus, 2 terminus (R4, R230). -/
def partRole (c : Container) : Nat := cField c 9 1

/-- The part is a terminus or relief part. -/
def terminiPart (c : Container) : Bool := partRole c == 1 || partRole c == 2

/-! ### Checks 1 to 4 of R240 -/

/-- Check 1: the module's join number appears once in the manifest. -/
def manifestNames (s : State) (l : List (Nat × Nat)) : Bool := (l.filter (fun e => e.1 == joinNum s)).length == 1

/-- Two stretches of bytes or words overlap. -/
def overlaps (a n b m : Nat) : Bool := decide (a < b + m) && decide (b < a + n)

/-- The directory meets R231. DESIGN CHOICE: TOTAL_LEN is the length with which the chunk at OFFSET 0 opened the container; a later chunk
that writes over the field moves no end (log entry 210). -/
def directoryOk (c : Container) : Bool :=
  let n := sectionCount c
  let l := directory c
  decide (1 ≤ n) && decide (n ≤ 256) && decide (32 + 16 * n ≤ c.total) &&
    l.all (fun x => x.offset % 64 == 0 && decide (32 + 16 * n ≤ x.offset) && decide (x.offset + x.length ≤ c.total) &&
      l.all (fun y => x.slot == y.slot ||
        (!(x.type == y.type && x.inst == y.inst) && !overlaps x.offset x.length y.offset y.length)))

/-- Check 2: header and directory. -/
def headerOk (s : State) (c : Container) : Bool :=
  cField c 0 2 == 0x5A53 && (cField c 8 1 == joinNum s || cField c 8 1 == 0xFF) && partRole c == s.get F.IDR_STRAP_ROLE &&
    directoryOk c

/-- R256. -/
def formatOk (s : State) (c : Container) : Bool :=
  let major := cField c 3 1
  decide (s.get F.CFG_FMT_OLDEST_MAJOR ≤ major) && decide (major ≤ s.get F.CFG_FMT_FMT_MAJOR) &&
    (major != s.get F.CFG_FMT_FMT_MAJOR || decide (cField c 2 1 ≤ s.get F.CFG_FMT_FMT_MINOR))

/-- Check 3: the format is accepted, and the images are confirmed and no run is in progress (R256, R257, R776). -/
def imagesOk (s : State) : Bool :=
  (trialSlot s 0).isNone && (trialSlot s 1).isNone && s.upd.run.isNone && s.upd.asked.isEmpty

/-- Check 4: the checksums. -/
def checksumsOk (s : State) (c : Container) (l : List (Nat × Nat)) : Bool :=
  (directory c).all (fun x => crc32c (sectionData c x) == x.scrc) && l.contains (joinNum s, partCrc c)

/-! ### Sections (R227–R229, R295, R302, R834) -/

/-- The instances of a section type; none for a type that belongs to no set (R227). -/
def sectionInstances (type : Nat) : Nat :=
  if type = 0x01 ∨ type = 0x06 ∨ type = 0x10 then 1
  else if type = 0x02 then 16
  else if type = 0x04 then 32
  else if type = 0x05 then 4
  else if type = 0x11 then 64
  else 0

/-- The length of a section is what its type asks for (R834). -/
def sectionLengthOk (x : Section) : Bool :=
  if x.type = 0x10 then x.length % 8 == 0
  else if x.type = 0x11 then true
  else
    match tableShape x.type with
    | none => false
    | some (size, count) => x.length == size * count

/-- A model container meets the checks of R302, and sits in a role section where R295 asks it. -/
def modelSectionOk (c : Container) (x : Section) : Bool :=
  x.type != 0x11 ||
    (modelCheck (sectionData c x) == 2 && (decide (mKind (sectionData c x) < 2) || bitAt x.flags 0))

/-- The addresses of a register image ascend and name registers with an RWS field (R228). -/
def imageOk : List (Nat × Nat) → Bool
  | [] => true
  | [e] => (regDesc e.1).isSome && regMask (fun a => a == Access.RWS) e.1 != 0
  | e :: f :: l =>
    (regDesc e.1).isSome && regMask (fun a => a == Access.RWS) e.1 != 0 && decide (e.1 < f.1) && imageOk (f :: l)

/-- The sections are such as a part holds. -/
def sectionsOk (c : Container) : Bool :=
  (directory c).all (fun x => decide (x.inst < sectionInstances x.type) && sectionLengthOk x && modelSectionOk c x &&
    (x.type != 0x06 || terminiPart c)) &&
    (findSection c 0x01 0).isSome && (findSection c 0x10 0).isSome && imageOk (registerImage c)

/-! ### Entries that a check names -/

/-- The RESERVED entry of a number. -/
def reservedEntry (v : State) (e : Nat) : Option Slot :=
  match slotNo v e with
  | none => none
  | some x => if x.cls = 0 then some x else none

/-- A RESERVED entry meets a test, and holds a word and n − 1 more. -/
def entryOk (v : State) (e word n : Nat) (p : Slot → Bool) : Bool :=
  match reservedEntry v e with
  | none => false
  | some x => p x && decide (word + n ≤ 16 * x.len)

/-- The entry addresses the module (R835). -/
def addressesPart (v : State) (c : Container) (x : Slot) : Bool :=
  bitAt x.dest (joinNum v) || (partRole c == 2 && bitAt x.roles 0) || (partRole c == 1 && bitAt x.roles 1)

/-- The SENDER is the module's join number. -/
def fromModule (v : State) (x : Slot) : Bool := x.sender == joinNum v

/-- The words that a set places in the module's own entries: owner, entry, first word and words. Owners are 0–31 loops, 64–83
streams and 128–191 received signals. -/
def ownWords (v : State) : List (Nat × Nat × Nat × Nat) :=
  ((upFrom 0 32).flatMap (fun n =>
    (if loopDefined v n && v.get (F.CLE_LOOP_SINK_KIND n) == 3 then
      [(n, v.get (F.CLE_LOOP_SINK_INDEX n), v.get (F.CLE_LOOP_SINK_WORD n), 1)] else []) ++
    (if loopDefined v n && v.flag (F.CLE_LOOP_PUB_PUB_EN n) then
      [(n, v.get (F.CLE_LOOP_PUB_PUB_ENTRY n), v.get (F.CLE_LOOP_PUB_PUB_WORD n), 1)] else []))) ++
  ((upFrom 0 20).flatMap (fun i =>
    if v.get (F.FUS_STR_CFG_KIND i) = 0 then []
    else [(64 + i, v.get (F.FUS_STR_LINE_ENTRY i), v.get (F.FUS_STR_LINE_WORD i), v.get (F.FUS_STR_LINE_WORDS i))])) ++
  ((upFrom 0 64).flatMap (fun i =>
    if v.flag (F.MDB_RSIG_CFG_EN i) then [(128 + i, v.get (F.MDB_RSIG_LINE_ENTRY i), v.get (F.MDB_RSIG_LINE_WORD i), 1)] else []))

/-- No two owners use one word. -/
def wordsApart (l : List (Nat × Nat × Nat × Nat)) : Bool :=
  l.all (fun a => l.all (fun b => a.1 == b.1 || a.2.1 != b.2.1 || !overlaps a.2.2.1 a.2.2.2 b.2.2.1 b.2.2.2))

/-- The elements of a list are distinct. -/
def allDistinct {α : Type} [BEq α] : List α → Bool
  | [] => true
  | a :: l => !l.contains a && allDistinct l

/-! ### The timetable (R161, R168–R170) -/

/-- A used entry has a valid SENDER, CLASS and LEN, and a receiver. -/
def slotOk (x : Slot) : Bool :=
  decide (x.sender ≤ 0x41) && decide (x.cls ≤ 1) && decide (1 ≤ x.len) && decide (x.len ≤ 24) && (x.roles != 0 || x.dest != 0)

/-- The first two rows of R168. -/
def timetableOk (v : State) (c : Container) : Bool :=
  let n := v.get F.LIN_CFG_N_LINE
  slotNo v 0 == some slotZero && (slots v).all slotOk && decide (1 ≤ n) && decide (n ≤ 64) &&
    decide (5000 ≤ v.get F.LIN_CFG_RES_END) && decide (v.get F.LIN_CFG_RES_END ≤ 45000) &&
    (!terminiPart c || decide (((upFrom 0 64).filter (bitAt (presentMask v))).length ≤ n))

/-- The ring positions of a join number: 0 for number 0, which only the module that joined as terminus has (R7, R58), the POS_E of
its latest JOIN for another, every position where it has not joined (R170). -/
def numberPositions (v : State) (num : Nat) : List Nat :=
  if num = 0 then [0]
  else
    match v.line.members.find? (fun m => m.num == num && m.result == 0) with
    | some m => [m.posE]
    | none =>
      if v.role.joined && num == joinNum v then [v.get F.LIN_POS_POS_E] else upFrom 0 (v.get F.LIN_CFG_N_LINE)

/-- positions(e) (R170). -/
def positions (v : State) (x : Slot) : List Nat :=
  if x.sender < 64 then numberPositions v x.sender
  else 0 :: (v.line.members.filter (fun m => m.relief && m.result == 0)).map (·.posE)

/-- hops of R169. -/
def hops (east : Bool) (n p q : Nat) : Nat :=
  if east then (q + n - p % max 1 n) % max 1 n else (p + n - q % max 1 n) % max 1 n

/-- Two entries keep their distance in one direction (R169); times in units of 0.2 ns. -/
def spaced (v : State) (east : Bool) (a b : Slot) : Bool :=
  let off := fun (x : Slot) => 100 * (if east then x.offE else x.offW)
  a.entry == b.entry || decide (off b < off a) ||
    (positions v a).all (fun pa => (positions v b).all (fun pb =>
      decide (off a + duration5 a.len + 1750 * hops east (v.get F.LIN_CFG_N_LINE) pa pb + 500 ≤ off b)))

/-- The spacing check (R169). -/
def spacingOk (v : State) : Bool :=
  let l := slots v
  [true, false].all (fun east => l.all (fun a => l.all (fun b => spaced v east a b)))

/-- The rows of R168 that report OVER_BUDGET. -/
def timetableFits (v : State) : Bool :=
  let l := slots v
  let tail := fun (x : Slot) => duration5 x.len + 1750 * v.get F.LIN_CFG_N_LINE
  decide ((l.map (·.len)).foldl (· + ·) 0 ≤ 3906) &&
    l.all (fun x => decide (100 * x.offE + tail x ≤ 100 * v.get F.LIN_CFG_RES_END) &&
      decide (100 * x.offW + tail x ≤ 100 * v.get F.LIN_CFG_RES_END))

/-! ### Running orders (R263) -/

/-- The steps of order n in a set. -/
def orderSteps (v : State) (n : Nat) : List OrderEntry := (upFrom 0 64).map (orderEntry v n)

/-- The steps 1 to the last that is not an END, and the END behind it, are used. -/
def usedSteps (l : List OrderEntry) : Nat :=
  foldOver (fun k i => if (nth l i ⟨0, 0, 0, 0, 0, 0⟩).op != 0 then i + 1 else k) 0 (upFrom 1 63)

/-- A step number is that of a used step. -/
def isUsedStep (l : List OrderEntry) (k : Nat) : Bool := decide (1 ≤ k) && decide (k ≤ usedSteps l) && decide (k < 64)

/-- The address of a step lies on the Signal die, or, for a WRITE, is a FUS_HMAP. -/
def stepAddressOk (v : State) (e : OrderEntry) : Bool :=
  (regOnSignal e.addr && e.addr % 4 == 0 && implemented v e.addr) || (e.op == 0x01 && isHmap e.addr)

/-- One step of an order meets R263. DESIGN CHOICE: ON_FAIL of the TRIGGER at entry 0, which cannot fail, is not looked at (log entry
212). -/
def orderStepOk (v : State) (l : List OrderEntry) (i : Nat) : Bool :=
  let e := nth l i ⟨0, 0, 0, 0, 0, 0⟩
  let canFail := e.op == 0x01 || e.op == 0x03 || e.op == 0x04 || e.op == 0x05
  (e.op != 0x10 || i == 0) && (!isUsedStep l i || e.op == 0 || e.onFail == 0xFF || isUsedStep l e.onFail) &&
    (e.op != 0x06 || isUsedStep l (e.value % 64)) && (!canFail || stepAddressOk v e)

/-- The orders of a set meet R263. -/
def ordersOk (v : State) : Bool :=
  (upFrom 0 16).all (fun n =>
    let l := orderSteps v n
    (nth l 0 ⟨0, 0, 0, 0, 0, 0⟩).op == 0 || (upFrom 0 64).all (orderStepOk v l))

/-! ### Streams and fusion (R281, R298, R328) -/

/-- KIND, MODE and GRID form a row of R281, and INDEX names an existing input. -/
def streamRowOk (v : State) (i : Nat) : Bool :=
  let k := v.get (F.FUS_STR_CFG_KIND i)
  let x := v.get (F.FUS_STR_CFG_INDEX i)
  let m := v.get (F.FUS_STR_CFG_MODE i)
  let g := v.get (F.FUS_STR_CFG_GRID i)
  if i ≥ 16 then k == 1 && decide (x < 4) && m == 2
  else if k = 1 then decide (x < 4) && m == 1 && g == 0
  else if k = 2 then x == 0 && m == 1 && g == 0
  else if k = 3 ∨ k = 5 then decide (x < 8) && m == 0 && g == 1
  else k == 4 && m == 0 && g == 1

/-- The window of a slot (R328). -/
def windowOk (v : State) (i : Nat) : Bool :=
  let x := v.get (F.FUS_STR_WIN_X0 i)
  let w := v.get (F.FUS_STR_WIN_W i)
  let y := v.get (F.FUS_STR_WIN_Y0 i)
  let h := v.get (F.FUS_STR_WIN_H i)
  if v.get (F.FUS_STR_CFG_GRID i) = 0 then
    x % 4 == 0 && w % 4 == 0 && y % 4 == 0 && h % 4 == 0 && decide (x + w ≤ 192) && decide (y + h ≤ 64)
  else y == 0 && h == 1 && decide (x + w ≤ 128)

/-- The largest tile record of a slot's window. -/
def largestRecord (v : State) (i : Nat) : Nat :=
  if v.get (F.FUS_STR_CFG_GRID i) = 0 then recordSize 16 else recordSize (max 1 (min 16 (v.get (F.FUS_STR_WIN_W i))))

/-- The region of a slot in its entry (R328). -/
def streamRegionOk (v : State) (i : Nat) : Bool :=
  let n := v.get (F.FUS_STR_LINE_WORDS i)
  entryOk v (v.get (F.FUS_STR_LINE_ENTRY i)) (v.get (F.FUS_STR_LINE_WORD i)) n
    (fun x => fromModule v x || (isTerminus v && x.sender == 0x40)) && decide (8 + largestRecord v i ≤ 4 * n)

/-- The sum of the squares of four numbers in Q2.30, in units of 2^−60. -/
def squares4 (w x y z : Int) : Nat := (w * w + x * x + y * y + z * z).toNat

/-- The projection registers of a PROJECT slot (R328). -/
def projectionOk (v : State) (i : Nat) : Bool :=
  let q := squares4 (v.gets (F.FUS_PRJ_QW_QW i)) (v.gets (F.FUS_PRJ_QX_QX i)) (v.gets (F.FUS_PRJ_QY_QY i)) (v.gets (F.FUS_PRJ_QZ_QZ i))
  decide (9999 * 2 ^ 60 ≤ 10000 * q) && decide (10000 * q ≤ 10001 * 2 ^ 60) && v.flag (F.FUS_PRJ_FX_FX i) &&
    v.flag (F.FUS_PRJ_FY_FY i) && v.flag (F.FUS_PRJ_IMG_IMG_W i) && v.flag (F.FUS_PRJ_IMG_IMG_H i)

/-- The datagram format of a lidar slot (R328). -/
def lidarOk (v : State) : Bool :=
  decide (1 ≤ v.get F.FUS_LIDAR_PORT_SWEEP_PKTS) && decide (v.get F.FUS_LIDAR_FMT_XYZ_OFF + 12 ≤ v.get F.FUS_LIDAR_FMT_STRIDE) &&
    decide (v.get F.FUS_LIDAR_FMT_I_OFF < v.get F.FUS_LIDAR_FMT_STRIDE)

/-- The transform table of a TABLE slot (R310, R328): regions inside the feature map, cells within the grid. -/
def transformOk (v : State) (i : Nat) (model : Bytes) : Bool :=
  let n := i - 16
  let t := (runningTable v 0x05 n).getD []
  let cells := if v.get (F.FUS_STR_CFG_GRID i) = 0 then 12288 else 128
  (upFrom 0 (t.length / 8)).all (fun k =>
    let b := (t.drop (8 * k)).take 8
    fieldAt b 6 1 == 0 ||
      (decide (fieldAt b 0 2 + v.get (F.FUS_TBL_REG_W1 n) + 1 ≤ nth (mOut model) 3 0) &&
        decide (fieldAt b 2 2 + v.get (F.FUS_TBL_REG_H1 n) + 1 ≤ nth (mOut model) 2 0) &&
        decide (bitsAt (fieldAt b 4 2) 0 14 < cells)))

/-- The model of a slot (R328). -/
def slotModelOk (v : State) (i : Nat) : Bool :=
  match streamModel v i with
  | none => false
  | some b =>
    modelCheck b == 2 && mKind b == 1 && mBinding b == i && shapesBind v.get i b && (decide (i < 16) || transformOk v i b)

/-- One used slot meets R328. -/
def streamOk (v : State) (i : Nat) : Bool :=
  v.get (F.FUS_STR_CFG_KIND i) == 0 ||
    (streamRowOk v i && slotModelOk v i && windowOk v i && streamRegionOk v i &&
      (v.get (F.FUS_STR_CFG_MODE i) != 1 || projectionOk v i) && (v.get (F.FUS_STR_CFG_KIND i) != 2 || lidarOk v))

/-- The fusion settings of a terminus or relief part (R298, R328). -/
def fusionOk (v : State) : Bool :=
  let models := fun k => match fusionModel v k with
    | none => false
    | some b => decide (ceilDiv 10000 (v.get F.FUS_CFG_FRAME_PERIOD) ≤ mRate b)
  let srcs := (upFrom 0 128).filter (fun k => v.flag (F.FUS_SRC_EN k))
  v.flag F.FUS_CFG_FUSE_EN && models 2 && models 3 &&
    allDistinct (srcs.map (fun k => (v.get (F.FUS_SRC_JOIN k), v.get (F.FUS_SRC_SLOT k))))

/-! ### The registry (R354, R378) -/

/-- A dependency word meets R378. -/
def dependencyOk (v : State) (n w : Nat) : Bool :=
  let type := w / 2 ^ 28
  if type = 0 then true
  else if type = 1 then
    decide (bitsAt w 0 6 + bitsAt w 6 6 + 1 ≤ 48) && decide (bitsAt w 12 4 + bitsAt w 16 4 + 1 ≤ 16)
  else if type = 2 then decide (bitsAt w 0 7 + bitsAt w 7 7 + 1 ≤ 128)
  else if type = 3 then v.flag (F.FUS_SRC_EN (bitsAt w 0 7))
  else type == 4 && bitsAt w 0 6 != n && (usedFns v).contains (bitsAt w 0 6)

/-- The numbers of a used function (R378). -/
def functionRangesOk (e : FnEntry) : Bool :=
  decide (e.min ≤ e.autoLo) && decide (e.autoLo ≤ e.autoHi) && decide (e.autoHi ≤ e.max) && decide (e.min ≤ e.init) &&
    decide (e.init ≤ e.max) && decide (1 ≤ e.stepMin) && decide (e.stepMin ≤ e.stepMax) && decide (e.stepMax ≤ e.max - e.min) &&
    decide (1 ≤ e.slew) && decide (e.act ≤ 3000) && decide (e.resp ≤ 1000)

/-- The Line words of a used function (R378). -/
def functionWordsOk (v : State) (e : FnEntry) : Bool :=
  decide (e.target < (if e.path = 0 then 32 else 4)) &&
    entryOk v e.entry e.word 1 (fun x => x.sender == 0x40 && bitAt x.dest e.join) &&
    (e.fbEntry == 0xFFFF || entryOk v (bitsAt e.fbEntry 0 12) e.fbWord 1 (fun x => x.sender == e.join && bitAt x.roles 0))

/-- A used function meets R378. -/
def functionOk (v : State) (n : Nat) : Bool :=
  let e := fnEntry v n
  functionRangesOk e && functionWordsOk v e && e.deps.all (dependencyOk v n) &&
    (!e.autoOk || (measuresOf v 1).any (fun m => decide (e.act ≤ (measure v m).pos)))

/-- The used measures meet R378. -/
def measuresOk (v : State) : Bool :=
  (upFrom 0 16).all (fun m =>
    let e := measure v m
    e.role == 0 || (decide (1 ≤ e.w) && decide (e.x0 + e.w ≤ 128) && (e.weight != 0) == (e.role == 1) &&
      (!e.norm || !(measuresOf v 2).isEmpty))) && decide ((measuresOf v 2).length ≤ 1)

/-- The policy model, whose MAX_RATE is checked for range only (R292, R354). -/
def policyOk (v : State) (c : Container) : Bool :=
  match findSection c 0x11 (v.get F.SET_POLICY_POLICY) with
  | none => false
  | some x =>
    let b := sectionData c x
    mKind b == 4 && mIn b == [1, 20, 1, 128] && mOut b == [1, 1, 1, 48] && bitAt x.flags 0 && decide (1 ≤ mRate b) &&
      decide (mRate b ≤ 1000)

/-- A field lies within limits. -/
def inRange (v : State) (f : Fld) (lo hi : Nat) : Bool := decide (lo ≤ v.get f) && decide (v.get f ≤ hi)

/-- The SET registers with SET_EN (R378). -/
def engineOk (v : State) (c : Container) : Bool :=
  !v.flag F.SET_CFG_SET_EN ||
    (!(measuresOf v 1).isEmpty && policyOk v c && inRange v F.SET_CFG_STEP_PERIOD 5 300 && inRange v F.SET_CFG_EVAL_WIN 10 600 &&
      inRange v F.SET_CFG_MAX_CHANGES 1 8 && inRange v F.SET_CFG_BACKOFF 0 15 && inRange v F.SET_POLICY_FREEZE_HOLD 0 1000 &&
      inRange v F.SET_TOL_TOL 0 1000 && inRange v F.SET_FLOW_FLOW_REF 1 65535 && inRange v F.SET_FLOW_FLOW_TOL 1 1000)

/-- The headland source (R378). -/
def headlandOk (v : State) : Bool :=
  !v.flag F.SET_HEAD_HEAD_EN ||
    (entryOk v (v.get F.SET_HEAD_HEAD_ENTRY) 0 0 (fun x => bitAt x.roles 0) && decide (v.gets F.SET_HEAD_OFF_OFF ≤ v.gets F.SET_HEAD_ON_ON))

/-- The registry and the SET registers meet R378. -/
def registryOk (v : State) (c : Container) : Bool :=
  let l := usedFns v
  allDistinct (l.map (fun n => (fnEntry v n).id)) && allDistinct (l.map (fun n => ((fnEntry v n).entry, (fnEntry v n).word))) &&
    l.all (functionOk v) && measuresOk v && engineOk v c && headlandOk v

/-! ### Loops (R396, R410, R411, R428) -/

/-- A source or setpoint of a loop names what exists, among the kinds allowed (R399, R428). -/
def loopReadOk (v : State) (c : Container) (kinds : List Nat) (kind index word : Nat) : Bool :=
  kinds.contains kind &&
    (if kind = 1 then decide (index < 16)
    else if kind = 2 then decide (index < 8)
    else if kind = 3 then decide (index < 32)
    else if kind = 4 then entryOk v index word 1 (addressesPart v c)
    else if kind = 5 then decide (index < 64) && v.flag (F.CLE_XSEL_SEL index)
    else true)

/-- The sink and the status word of a loop (R402, R427, R428). -/
def loopSinkOk (v : State) (n : Nat) : Bool :=
  let k := v.get (F.CLE_LOOP_SINK_KIND n)
  let i := v.get (F.CLE_LOOP_SINK_INDEX n)
  (if k = 1 then decide (i < 32) && v.flag (F.LSW_CH_CFG_PWM i)
    else if k = 2 then decide (i < 64) && v.get (F.MDB_SIG_CFG_SRC i) == 1
    else if k = 3 then entryOk v i (v.get (F.CLE_LOOP_SINK_WORD n)) 1 (fromModule v)
    else k == 0) &&
    (!v.flag (F.CLE_LOOP_PUB_PUB_EN n) ||
      entryOk v (v.get (F.CLE_LOOP_PUB_PUB_ENTRY n)) (v.get (F.CLE_LOOP_PUB_PUB_WORD n)) 1 (fromModule v))

/-- One defined loop meets R428. -/
def loopOk (v : State) (c : Container) (n : Nat) : Bool :=
  !loopDefined v n ||
    (inRange v (F.CLE_LOOP_CFG_PERIOD n) 1000 4000000 && decide (v.get (F.CLE_LOOP_PHASE_PHASE n) < v.get (F.CLE_LOOP_CFG_PERIOD n)) &&
      inRange v (F.CLE_LOOP_CFG_DEADLINE n) 10 90 && inRange v (F.CLE_LOOP_LOSS_GRACE n) 0 10000 &&
      inRange v (F.CLE_LOOP_CFG_LOSS_ACT n) 0 2 &&
      loopReadOk v c [1, 2, 3, 4, 5] (v.get (F.CLE_LOOP_SRC_KIND n)) (v.get (F.CLE_LOOP_SRC_INDEX n)) (v.get (F.CLE_LOOP_SRC_WORD n)) &&
      loopReadOk v c [4, 5, 6] (v.get (F.CLE_LOOP_SP_KIND n)) (v.get (F.CLE_LOOP_SP_INDEX n)) (v.get (F.CLE_LOOP_SP_WORD n)) &&
      loopSinkOk v n && gainValid (runningGains v n))

/-- The defined loops. -/
def loopsOf (v : State) : List Nat := (upFrom 0 32).filter (loopDefined v)

/-- The loops of a set meet R428. -/
def loopsOk (v : State) (c : Container) : Bool :=
  let sinks := (loopsOf v).filter (fun n => v.get (F.CLE_LOOP_SINK_KIND n) == 1 || v.get (F.CLE_LOOP_SINK_KIND n) == 2)
  (upFrom 0 32).all (loopOk v c) &&
    allDistinct (sinks.map (fun n => (v.get (F.CLE_LOOP_SINK_KIND n), v.get (F.CLE_LOOP_SINK_INDEX n)))) &&
    (terminiPart c || (upFrom 0 64).all (fun k => v.get (F.CLE_XSEL_SEL k) != 1 && v.get (F.CLE_XSEL_SEL k) != 2))

/-- The sum of a number over the periods of the defined loops, exactly. -/
def perPeriod (v : State) (k : Int) : Frac :=
  (loopsOf v).foldl (fun a n => qAdd a ⟨k, v.get (F.CLE_LOOP_CFG_PERIOD n)⟩) (fInt 0)

/-- D of a loop in units of 25 ns (R407). -/
def deadlineUnits (v : State) (n : Nat) : Nat := v.get (F.CLE_LOOP_CFG_PERIOD n) * v.get (F.CLE_LOOP_CFG_DEADLINE n) / 100

/-- The budgets of R410 and R411. -/
def loopsFit (v : State) : Bool :=
  match loopsOf v with
  | [] => true
  | n :: l =>
    let dMin := l.foldl (fun d k => min d (deadlineUnits v k)) (deadlineUnits v n)
    qLe (perPeriod v 40000000) (fInt 320000) &&
      qLe (fInt (12 * ((l.length + 2 : Nat) : Int))) (qMul (fInt dMin) (qAdd (fInt 1) (qNeg (perPeriod v 12))))

/-! ### Load channels (R479) -/

/-- One channel meets R479. -/
def channelOk (v : State) (c : Nat) : Bool :=
  inRange v (F.LSW_CH_CFG_OC_THR c) (if c < 8 then 100 else 20) (if c < 8 then 1200 else 320) &&
    inRange v (F.LSW_CH_CFG_INRUSH_MULT c) 0 12 && inRange v (F.LSW_CH_CFG_INRUSH_TIME c) 0 200 &&
    inRange v (F.LSW_CH_TIME_RETRY_DLY c) 10 10000 && inRange v (F.LSW_CH_TIME_OL_TIME c) 1 255 &&
    (!v.flag (F.LSW_CH_CFG_PWM c) || (decide (24 ≤ c) && inRange v (F.LSW_CH_PWM_FREQ c) 100 25000))

/-- The channels meet R479. -/
def channelsOk (v : State) : Bool := (upFrom 0 32).all (channelOk v) && inRange v F.LSW_CFG_HOLD 10 200

/-! ### Satellite navigation and steering (R540) -/

/-- The square of the distance of the antennas, in units of 0.01 mm². -/
def antennaSpan (v : State) : Int :=
  let sq := fun (a b : Fld) => let d := v.gets a - v.gets b; d * d
  sq F.GNS_ANT_A_X_V F.GNS_ANT_B_X_V + sq F.GNS_ANT_A_Y_V F.GNS_ANT_B_Y_V + sq F.GNS_ANT_A_Z_V F.GNS_ANT_B_Z_V

/-- A Line word of steering is used by no function. -/
def noFunctionWord (v : State) (entry word : Nat) : Bool :=
  (usedFns v).all (fun n => !((fnEntry v n).entry == entry && (fnEntry v n).word == word))

/-- The Line words of steering with S_EN (R540). -/
def steerWordsOk (v : State) : Bool :=
  let st := v.get F.GNS_STEER_SP_STATION
  let back := fun (x : Slot) => x.sender == st && bitAt x.roles 0
  let e := v.get F.GNS_STEER_SP_SP_ENTRY
  let w := v.get F.GNS_STEER_SP_SP_WORD
  !v.flag F.GNS_STEER_SP_S_EN ||
    (entryOk v e w 2 (fun x => x.sender == 0x40 && bitAt x.dest st) && noFunctionWord v e w && noFunctionWord v e (w + 1) &&
      entryOk v (v.get F.GNS_STEER_FB_FB_ENTRY) 0 0 back && entryOk v (v.get F.GNS_STEER_ST_ST_ENTRY) 0 0 back &&
      (!v.flag F.GNS_STEER_OVR_OV_EN || entryOk v (v.get F.GNS_STEER_OVR_OV_ENTRY) 0 0 back))

/-- The GNS block of a terminus or relief part meets R540. -/
def navigationOk (v : State) : Bool :=
  let q := squares4 (v.gets F.GNS_IMU_QW_V) (v.gets F.GNS_IMU_QX_V) (v.gets F.GNS_IMU_QY_V) (v.gets F.GNS_IMU_QZ_V)
  inRange v F.GNS_CFG_EPOCH 0 3 && inRange v F.GNS_CFG_ELEV 0 45 && inRange v F.GNS_CFG_CN0_MIN 20 45 &&
    inRange v F.GNS_RTK_CFG_AGE_MAX 1 60 &&
    (!v.flag F.GNS_CFG_EN || (v.flag F.GNS_CFG_CONST && v.flag F.GNS_CFG_BANDS)) &&
    decide (10000 * 10000 ≤ antennaSpan v) && decide (antennaSpan v ≤ 30000 * 30000) &&
    decide (9999 * 9999 * 2 ^ 60 ≤ 100000000 * q) && decide (100000000 * q ≤ 10001 * 10001 * 2 ^ 60) && steerWordsOk v &&
    inRange v F.GNS_STEER_GEOM_WB 1000 10000 && inRange v F.GNS_STEER_LIM_DELTA_MAX 100 4500 &&
    inRange v F.GNS_STEER_LIM_DELTA_RATE 100 65535 && inRange v F.GNS_STEER_SPD_SPEED_MAX 1 1000 &&
    inRange v F.GNS_STEER_ENG_FIX_MIN 1 4 && decide (v.get F.GNS_STEER_ENG_ENG_XTE ≤ v.get F.GNS_STEER_ENG_REL_XTE) &&
    decide (v.get F.GNS_STEER_SPD_SPEED_MIN < v.get F.GNS_STEER_SPD_SPEED_MAX) &&
    (!v.flag F.GNS_STEER_EN_B_USED || v.get F.GNS_STEER_EN_EN_A != v.get F.GNS_STEER_EN_EN_B) &&
    decide (v.get F.GNS_EDGE_J0 ≤ v.get F.GNS_EDGE_J1) &&
    inRange v F.GNS_EDGE_MIN_ROWS 2 (v.get F.GNS_EDGE_J1 - v.get F.GNS_EDGE_J0 + 1)

/-! ### Yield and consist (R595) -/

/-- The YLD and CST blocks of a terminus or relief part meet R595. -/
def yieldOk (v : State) : Bool :=
  let toTerm := fun (x : Slot) => bitAt x.roles 0
  !v.flag F.YLD_CFG_EN ||
    (entryOk v (v.get F.YLD_FLOW_FLOW_ENTRY) (v.get F.YLD_FLOW_FLOW_WORD) 1 toTerm &&
      entryOk v (v.get F.YLD_SECT_SECT_ENTRY) (v.get F.YLD_SECT_SECT_WORD) 1 toTerm &&
      (!v.flag F.YLD_MOIST_MOIST_EN || entryOk v (v.get F.YLD_MOIST_MOIST_ENTRY) (v.get F.YLD_MOIST_MOIST_WORD) 1 toTerm) &&
      inRange v F.YLD_DELAY_FLOW_DELAY 0 300 && inRange v F.YLD_DELAY_MOIST_DELAY 0 300 && inRange v F.YLD_CFG_SECTIONS 1 16 &&
      (upFrom 0 (v.get F.YLD_CFG_SECTIONS)).all (fun i => inRange v (F.YLD_SEC_WIDTH i) 100 20000) &&
      inRange v F.YLD_CFG_MAP_FIX_MIN 1 4)

/-- A word is one of the two of steering. -/
def steerWord (v : State) (entry word : Nat) : Bool :=
  v.flag F.GNS_STEER_SP_S_EN && v.get F.GNS_STEER_SP_SP_ENTRY == entry &&
    (v.get F.GNS_STEER_SP_SP_WORD == word || v.get F.GNS_STEER_SP_SP_WORD + 1 == word)

/-- The CST block of a terminus or relief part meets R595. -/
def consistOk (v : State) : Bool :=
  let e := v.get F.CST_RDV_OUT_OUT_ENTRY
  let w := v.get F.CST_RDV_OUT_OUT_WORD
  !v.flag F.CST_CFG_EN ||
    ((v.flag F.CST_MACHINE_LO_MACHINE_ID || v.flag F.CST_MACHINE_HI_MACHINE_ID) && v.flag F.CST_PEER_PEER_IP &&
      v.get F.CST_CFG_UDP_PORT != 49320 &&
      (!v.flag F.CST_RDV_OUT_OUT_EN ||
        (entryOk v e w 3 (fun x => x.sender == 0x40) &&
          (upFrom w 3).all (fun k => noFunctionWord v e k && !steerWord v e k))))

/-! ### The message bus (R699) -/

/-- Quanta of 12.5 ns in a nominal and in a data bit of a controller (R678). -/
def nominalQuanta (v : State) (n : Nat) : Nat :=
  (v.get (F.MDB_C_NBT_NBRP n) + 1) * (v.get (F.MDB_C_NBT_NTSEG1 n) + v.get (F.MDB_C_NBT_NTSEG2 n) + 3)
def dataQuanta (v : State) (n : Nat) : Nat :=
  (v.get (F.MDB_C_DBT_DBRP n) + 1) * (v.get (F.MDB_C_DBT_DTSEG1 n) + v.get (F.MDB_C_DBT_DTSEG2 n) + 3)

/-- MODE of a controller sends CAN FD frames. -/
def fdMode (v : State) (n : Nat) : Bool := v.get (F.MDB_C_CFG_MODE n) == 1 || v.get (F.MDB_C_CFG_MODE n) == 4

/-- Mode and bit timing of a controller. -/
def controllerOk (v : State) (n : Nat) : Bool :=
  let m := v.get (F.MDB_C_CFG_MODE n)
  let q := nominalQuanta v n
  (decide (m < 3) || (m == 3 && n == 0) || (m == 4 && n == 3)) && decide (80 ≤ q) && decide (q ≤ 640) &&
    (!fdMode v n || (decide (dataQuanta v n ≤ q) && decide (16 ≤ dataQuanta v n)))

/-- A used transmit message. -/
def txMessageOk (v : State) (m : Nat) : Bool :=
  let fd := v.flag (F.MDB_TX_ID_FDF m)
  let len := v.get (F.MDB_TX_CFG_LEN m)
  let per := v.get (F.MDB_TX_CFG_PERIOD m)
  !v.flag (F.MDB_TX_CFG_EN m) ||
    ((!fd || fdMode v (v.get (F.MDB_TX_CFG_CTRL m))) && (!v.flag (F.MDB_TX_ID_BRS m) || fd) &&
      (decide (len ≤ 8) || (fd && [12, 16, 20, 24, 32, 48, 64].contains len)) && decide (per ≤ 10000) &&
      (per == 0 || decide (v.get (F.MDB_TX_PHASE_PHASE m) < per)))

/-- The used signals as message, first bit and bits. -/
def txSignals (v : State) : List (Nat × Nat × Nat × Nat) :=
  ((upFrom 0 64).filter (fun i => v.flag (F.MDB_SIG_CFG_SRC i))).map (fun i =>
    (i, v.get (F.MDB_SIG_CFG_MSG i), v.get (F.MDB_SIG_CFG_START i), v.get (F.MDB_SIG_CFG_SLEN i) + 1))
def rxSignals (v : State) : List (Nat × Nat × Nat × Nat) :=
  ((upFrom 0 64).filter (fun i => v.flag (F.MDB_RSIG_CFG_EN i))).map (fun i =>
    (i, v.get (F.MDB_RSIG_CFG_MSG i), v.get (F.MDB_RSIG_CFG_START i), v.get (F.MDB_RSIG_CFG_SLEN i) + 1))

/-- The sources of the used transmit signals: a loop sink, or an entry that addresses the module. -/
def txSourceOk (v : State) (c : Container) (i : Nat) : Bool :=
  let k := v.get (F.MDB_SIG_CFG_SRC i)
  if k = 1 then (loopsOf v).any (fun n => v.get (F.CLE_LOOP_SINK_KIND n) == 2 && v.get (F.CLE_LOOP_SINK_INDEX n) == i)
  else if k = 2 then entryOk v (v.get (F.MDB_SIG_LINE_ENTRY i)) 0 0 (addressesPart v c)
  else true

/-- The MDB block meets R699. -/
def busOk (v : State) (c : Container) : Bool :=
  (upFrom 0 4).all (controllerOk v) && (upFrom 0 32).all (txMessageOk v) &&
    (txSignals v).all (fun x => decide (x.2.2.1 + x.2.2.2 ≤ 8 * v.get (F.MDB_TX_CFG_LEN x.2.1)) && txSourceOk v c x.1) &&
    wordsApart (txSignals v) && wordsApart (rxSignals v) &&
    (rxSignals v).all (fun x => entryOk v (v.get (F.MDB_RSIG_LINE_ENTRY x.1)) 0 0 (fromModule v)) &&
    (terminiPart c || (upFrom 0 32).all (fun r => !(v.flag (F.MDB_RX_CFG_EN r) && v.flag (F.MDB_RX_CFG_STREAM r))))

/-! ### Checks 5 and 6, and R241 -/

/-- The role sections of a container: those with the ROLE flag and the one of type 0x06, with type, instance, length and SCRC
(R229). -/
def roleSections (c : Container) : List (Nat × Nat × Nat × Nat) :=
  ((directory c).filter (fun x => bitAt x.flags 0 || x.type == 0x06)).map (fun x => (x.type, x.inst, x.length, x.scrc))

/-- The RWS bits that the relief part must share with the terminus part: FUS_CFG, FUS_SRC and FUS_RULE (R328), GNS but for the fields of
the module's own antennas, inputs and IMU (R540), YLD and CST (R595). -/
def sharedBits (a : Nat) : Nat :=
  let all := regMask (fun x => x == Access.RWS) a
  let fusion := a == Reg.FUS_CFG || (upFrom 0 128).any (fun k => a == Reg.FUS_SRC k) || (upFrom 0 32).any (fun r => a == Reg.FUS_RULE r)
  let own := if a = Reg.GNS_ANT_CFG then 3 else if a = Reg.GNS_STEER_EN then 0x1FF
    else if Reg.GNS_IMU_TX ≤ a ∧ a ≤ Reg.GNS_IMU_QZ then all else 0
  if fusion then all
  else
    match blockOf a with
    | some .GNS => all - Nat.land all own
    | some .YLD | some .CST => all
    | _ => 0

/-- The relief part equals the terminus part where R229, R328, R540 and R595 ask. -/
def reliefEqual (c : Container) (p : ReliefPart) : Bool :=
  let own := registerImage c
  let at_ := fun (l : List (Nat × Nat)) a => ((l.find? (fun e => e.1 == a)).map (·.2)).getD (regReset a)
  (roleSections c).all (fun x => p.sections.contains x) && p.sections.all (fun x => (roleSections c).contains x) &&
    ((own ++ p.image).map (·.1)).all (fun a => Nat.land (at_ own a) (sharedBits a) == Nat.land (at_ p.image a) (sharedBits a))

/-- R241 on the holder of the terminus role. DESIGN CHOICE: while a relief terminus is present, a relief part that the comparison does not
have fails it (log entry 178). -/
def terminusOk (s : State) (c : Container) (crc : Nat) (l : List (Nat × Nat)) (relief : Option ReliefPart) : Bool :=
  let alike := match relief with
    | none => false
    | some p => reliefEqual c p
  !isTerminus s ||
    (l.all (fun e => (lineModules s).contains e.1) && (lineModules s).all (fun n => l.any (fun e => e.1 == n)) &&
      (s.sets.running.isNone || crc % 65536 != ownSetId s) && (!reliefPresent s || alike))

/-- Check 5. -/
def consistent (s : State) (c : Container) (crc : Nat) (l : List (Nat × Nat)) (relief : Option ReliefPart) : Bool :=
  let v := trial c s
  sectionsOk c && timetableOk v c && (!terminiPart c || spacingOk v) && ordersOk v && (upFrom 0 20).all (streamOk v) &&
    wordsApart (ownWords v) && loopsOk v c && channelsOk v && busOk v c &&
    (!terminiPart c || (fusionOk v && registryOk v c && navigationOk v && yieldOk v && consistOk v)) && terminusOk s c crc l relief

/-- Check 6: the capacity of level P3 is 16 TOPS, that of the DMA engine 40.0 GB/s (R72, R664). -/
def withinBudgets (s : State) (c : Container) : Bool :=
  let v := trial c s
  (!terminiPart c || timetableFits v) && loopsFit v && decide (tensorDemand c ≤ 16000000000000) &&
    decide ((Config.dmaDemand c.data).toNat ≤ 400)

/-- The status of the checks of R240, in order. -/
def verifyStatus (s : State) (crc : Nat) (l : List (Nat × Nat)) (relief : Option ReliefPart) : Nat :=
  match (if sidingState s = sEmpty then none else s.sets.siding) with
  | none => St.setInconsistent
  | some c =>
    if !manifestNames s l || !headerOk s c then St.setInconsistent
    else if !formatOk s c || !imagesOk s then St.setFormat
    else if !checksumsOk s c l then St.setCrc
    else if !consistent s c crc l relief then St.setInconsistent
    else if !withinBudgets s c then St.overBudget
    else St.ok

/-! ### Completion (R240, R243) -/

/-- The sections of a container that the Signal die holds, the register image with them (R227). -/
def signalSections (c : Container) : List (Nat × Nat × Bytes) :=
  ((directory c).filter (fun x => x.type == 0x02 || x.type == 0x04 || x.type == 0x10)).map (fun x => (x.type, x.inst, sectionData c x))

/-- The siding set becomes READY under a LINE_CRC, and the Signal die copies its sections into the siding area of its MRAM (R238); the holder of the terminus role keeps the manifest, and asks afresh for the OK
of every module unless its set was READY under it. -/
def becomeReady (crc : Nat) (l : List (Nat × Nat)) (s : State) : State :=
  if sidingState s = sArmed then s
  else
    let again := sidingState s == sReady && s.get F.CFG_SIDING_CRC_CRC == crc
    let area := match s.sets.siding with
      | none => []
      | some c => signalSections c
    let s := (State.put { s with sets := { s.sets with mramArea := area } } F.CFG_STATE_SIDING sReady).put F.CFG_SIDING_CRC_CRC crc
    if isTerminus s then
      { s with sets := { s.sets with manifest := l, manifestCrc := crc, okFrom := if again then s.sets.okFrom else [] } }
    else s

/-- The request of a verification that goes on here. -/
def verifyRequest (s : State) : Option Waiting := ownRequest 0x0201 (fun j => j == .verify) s

/-- The verification ends, and its request is answered (R240). -/
def sidingVerified (relief : Option ReliefPart) (s : State) : State :=
  match verifyRequest s with
  | none => s
  | some w =>
    if !s.die.sigUp || !s.die.yardUp then s
    else
      let crc := fieldAt w.req.params 0 4
      let l := manifestOf w.req.params
      let st := verifyStatus s crc l relief
      let s := if st = St.ok then becomeReady crc l s else s.put F.CFG_STATE_LAST_STATUS st
      completeOwn 0x0201 (fun j => j == .verify) st 0 (leBytes 4 (sidingPartCrc s) ++ leBytes 1 (sidingState s)) s

/-! ### The row -/

/-- SIDING_VERIFY_DONE (R240), with the relief part as the comparison over the Line has it. -/
def execSidingVerifyDone (t : Nat) (relief : Option ReliefPart) (s : State) : Res := .next (sidingVerified relief (begin_ t s))

end Sys2Proof.Machine
end

