-- ==== Sys2Proof/Machine/OpTable.lean ====
section
/-!
DEFINITION. The opcode table (R128, R830): for each opcode its level, whether it may be broadcast, the check of its PARAM_LEN,
whether it needs the Signal die, and what it does. EVENT is not in it: a request with it meets BAD_OPCODE (R130).
-/

namespace Sys2Proof.Machine

/-- PARAM_LEN is n. -/
def lenIs (n : Nat) (ps : Bytes) : Bool := ps.length == n

/-- Any PARAM_LEN. -/
def lenAny (_ : Bytes) : Bool := true

/-- The opcode always needs the Signal die. DEDUCED: so do PARKED_DECLARE, LINK_REINSTATE, STREAM_REINSTATE and CONSIST_KEY_SET, whose
execution writes a register of UPD or a record in its MRAM (R830, first sentence; log entry 205). -/
def always (_ : Request) : Bool := true

/-- The opcode never needs the Signal die. -/
def never (_ : Request) : Bool := false

/-- A table opcode needs the Signal die where it names a table that this die holds. -/
def tableNeedsSignal (p : Request) : Bool := tableOnSignal (fieldAt p.params 0 2)

/-- Opcodes from HELLO to LOAD_SET. -/
def opsA : List OpInfo := [
  ⟨0x0001, 0, false, (lenIs 0), always, runHello⟩,
  ⟨0x0002, 0, false, lenSessionOpen, always, runSessionOpen⟩,
  ⟨0x0003, 1, false, (lenIs 0), never, runSessionClose⟩,
  ⟨0x0004, 1, false, (lenIs 0), never, runSessionKeep⟩,
  ⟨0x0005, 1, true, (lenIs 0), always, runIdentify⟩,
  ⟨0x0006, 3, true, (lenIs 36), always, runSessionKeySet⟩,
  ⟨0x0007, 1, false, (lenIs 4), never, runRequestCancel⟩,
  ⟨0x0100, 1, true, (lenRegs 4), (regsOnSignal 4), runRegRead⟩,
  ⟨0x0101, 2, true, (lenRegs 8), (regsOnSignal 8), runRegWrite⟩,
  ⟨0x0102, 2, true, (lenRegs 12), (regsOnSignal 12), runRegModify⟩,
  ⟨0x0103, 1, false, lenTableInfo, tableNeedsSignal, runTableInfo⟩,
  ⟨0x0104, 1, false, lenTableRead, tableNeedsSignal, runTableRead⟩,
  ⟨0x0105, 2, false, lenTableWrite, tableNeedsSignal, runTableWrite⟩,
  ⟨0x0106, 3, true, (lenIs 2), blockOnSignal, runBlockUnlock⟩,
  ⟨0x0107, 3, true, (lenIs 2), blockOnSignal, runBlockLock⟩,
  ⟨0x0200, 2, true, lenSidingLoad, never, runSidingLoad⟩,
  ⟨0x0201, 2, true, lenSidingVerify, always, runSidingVerify⟩,
  ⟨0x0202, 2, false, (lenIs 8), always, runPointsThrow⟩,
  ⟨0x0203, 2, true, (lenIs 0), never, runSidingClear⟩,
  ⟨0x0204, 1, true, (lenIs 0), always, runSetInfo⟩,
  ⟨0x0300, 1, false, lenLoadSet, always, runLoadSet⟩]

/-- Opcodes from LOAD_STATUS to RTCM_FEED. -/
def opsB : List OpInfo := [
  ⟨0x0301, 1, false, (lenIs 4), always, runLoadStatus⟩,
  ⟨0x0302, 3, false, (lenIs 4), always, runLoadReinstate⟩,
  ⟨0x0303, 1, true, (lenIs 4), always, runLimpMapRead⟩,
  ⟨0x0304, 3, false, (lenIs 132), always, runLimpMapWrite⟩,
  ⟨0x0400, 2, false, (lenIs 4), always, runLoopOpen⟩,
  ⟨0x0401, 2, false, (lenIs 4), always, runLoopRun⟩,
  ⟨0x0402, 1, false, (lenIs 4), always, runLoopHold⟩,
  ⟨0x0403, 1, false, (lenIs 8), always, runLoopSetpoint⟩,
  ⟨0x0404, 1, false, (lenIs 4), always, runLoopStatus⟩,
  ⟨0x0500, 2, true, lenModelLoad, never, runModelLoad⟩,
  ⟨0x0501, 1, false, (lenIs 4), never, runModelInfo⟩,
  ⟨0x0502, 1, false, (lenIs 4), never, runStreamStatus⟩,
  ⟨0x0503, 3, false, (lenIs 4), always, runStreamReinstate⟩,
  ⟨0x0504, 1, false, (lenIs 8), never, runGridRead⟩,
  ⟨0x0600, 1, false, (lenIs 4), never, runFunctionAuto⟩,
  ⟨0x0601, 1, false, (lenIs 8), never, runFunctionManual⟩,
  ⟨0x0602, 1, false, (lenIs 4), never, runFunctionStatus⟩,
  ⟨0x0700, 1, false, (lenIs 4), never, runSteerEngage⟩,
  ⟨0x0701, 1, false, (lenIs 4), never, runSteerRelease⟩,
  ⟨0x0702, 1, false, lenGuidanceSet, never, runGuidanceSet⟩,
  ⟨0x0703, 1, false, lenRtcmFeed, never, runRtcmFeed⟩]

/-- Opcodes from GNSS_STATUS to UPDATE_VERIFY. -/
def opsC : List OpInfo := [
  ⟨0x0704, 1, false, (lenIs 4), never, runGnssStatus⟩,
  ⟨0x0705, 2, false, (lenIs 4), always, runPpsDelaySet⟩,
  ⟨0x0800, 1, false, (lenIs 40), never, runFieldOpen⟩,
  ⟨0x0801, 1, false, (lenIs 8), never, runFieldClose⟩,
  ⟨0x0802, 1, false, (lenIs 0), never, runYieldStatus⟩,
  ⟨0x0803, 1, false, (lenIs 12), never, runYieldTileRead⟩,
  ⟨0x0804, 1, false, (lenIs 16), never, runTaskExport⟩,
  ⟨0x0900, 1, false, (lenIs 8), never, runConsistJoin⟩,
  ⟨0x0901, 1, false, (lenIs 4), never, runConsistLeave⟩,
  ⟨0x0902, 2, false, (lenIs 24), always, runConsistKeySet⟩,
  ⟨0x0903, 1, false, (lenIs 4), never, runConsistStatus⟩,
  ⟨0x0904, 1, false, (lenIs 4), never, runRendezvousRequest⟩,
  ⟨0x0A00, 2, false, (lenIs 20), never, runStreamOpen⟩,
  ⟨0x0A01, 2, false, (lenIs 4), never, runStreamClose⟩,
  ⟨0x0A02, 1, false, (lenIs 4), never, runDmaStatus⟩,
  ⟨0x0B00, 1, false, (lenIs 12), always, runLogbookRead⟩,
  ⟨0x0B01, 1, true, (lenIs 0), always, runLogbookInfo⟩,
  ⟨0x0B02, 1, false, (lenIs 4), always, runRetirementRead⟩,
  ⟨0x0C00, 3, true, (lenIs 132), always, runUpdateBegin⟩,
  ⟨0x0C01, 3, true, lenUpdateChunk, always, runUpdateChunk⟩,
  ⟨0x0C02, 3, true, (lenIs 8), always, runUpdateVerify⟩]

/-- Opcodes from UPDATE_ACTIVATE to COUNTERS_READ. -/
def opsD : List OpInfo := [
  ⟨0x0C03, 3, false, (lenIs 8), always, runUpdateActivate⟩,
  ⟨0x0C04, 3, true, (lenIs 12), always, runUpdateConfirm⟩,
  ⟨0x0C05, 1, true, (lenIs 0), always, runUpdateStatus⟩,
  ⟨0x0D00, 1, false, (lenIs 0), never, runLineStatus⟩,
  ⟨0x0D01, 3, false, (lenIs 4), always, runLinkReinstate⟩,
  ⟨0x0D02, 2, false, (lenIs 4), always, runParkedDeclare⟩,
  ⟨0x0E00, 2, true, (lenIs 4), always, runLevelSet⟩,
  ⟨0x0E01, 1, true, (lenIs 0), always, runLevelStatus⟩,
  ⟨0x0E02, 2, true, (lenIs 4), always, runResume⟩,
  ⟨0x0E03, 2, true, (lenIs 4), always, runSleep⟩,
  ⟨0x0F01, 1, false, (lenIs 16), never, runEventSubscribe⟩,
  ⟨0x0F02, 1, true, lenAny, never, runEcho⟩,
  ⟨0x0F03, 1, true, (lenIs 0), never, runCountersRead⟩]

/-- The table of opcodes. -/
def ops : List OpInfo := opsA ++ opsB ++ opsC ++ opsD

/-- What the table says of an opcode. -/
def opTable (code : Nat) : Option OpInfo := ops.find? (fun o => o.code == code)

end Sys2Proof.Machine
end

