-- ==== Sys2Proof/Machine/PacketCommands.lean ====
section
/-!
DEFINITION. The commands that bring command packets: one row for each opcode (R128), the packets of the Line and of CAN_D, and the
service of queued requests.
-/

namespace Sys2Proof.Machine

/-! ### Packets as bytes (R74, R75, R78) -/

/-- The opcode and the request of a packet's bytes. -/
def parseRequest (via : Transport) (b : Bytes) : Nat × Request :=
  (fieldAt b 12 2,
    { via := via, magic := BitVec.ofNat 16 (fieldAt b 0 2), version := BitVec.ofNat 8 (fieldAt b 2 1),
      flags := BitVec.ofNat 8 (fieldAt b 3 1), session := BitVec.ofNat 16 (fieldAt b 4 2), target := BitVec.ofNat 8 (fieldAt b 6 1),
      origin := BitVec.ofNat 8 (fieldAt b 7 1), sequence := BitVec.ofNat 32 (fieldAt b 8 4),
      paramLen := BitVec.ofNat 16 (fieldAt b 14 2), auth := BitVec.ofNat 64 (fieldAt b 16 8),
      params := (b.drop 24).take (b.length - 28), crc := BitVec.ofNat 32 (fieldAt b (b.length - 4) 4) })

/-- The reply of a packet's bytes. -/
def parseReply (b : Bytes) : Reply :=
  { version := fieldAt b 2 1, flags := fieldAt b 3 1, session := fieldAt b 4 2, target := fieldAt b 6 1, origin := fieldAt b 7 1,
    sequence := fieldAt b 8 4, opcode := fieldAt b 12 2, status := fieldAt b 24 2, admitted := fieldAt b 26 1, qpos := fieldAt b 28 2,
    wait := fieldAt b 30 2, result := (b.drop 32).take (b.length - 36), auth := fieldAt b 16 8, crc := fieldAt b (b.length - 4) 4 }

/-- A request is examined; what falls due with it, a planned restart, follows its reply. -/
def examine (op : Nat) (p : Request) (s : State) : State :=
  if isArming op p then armingRequest p s else settle (acceptPacket opTable op p s)

/-- A packet shorter than a header and a trailer is discarded and counted (R110). -/
def shortPacket (via : Transport) (s : State) : State :=
  if transportOpen s via then
    { s with pk := { s.pk with
        received := (s.pk.received + 1) % 4294967296, badLength := (s.pk.badLength + 1) % 4294967296 } }
  else s

/-- A request arrives as bytes. -/
def acceptBytes (via : Transport) (b : Bytes) (s : State) : State :=
  if b.length < 28 then shortPacket via s else examine (parseRequest via b).1 (parseRequest via b).2 s

/-- A packet of the Line arrives whole, from the module with this SENDER code, and with this join number: a reply goes to the
request it answers, a request is examined (R90). -/
def linePacket (sender : Nat) (num : Option Nat) (entry : Option Nat) (b : Bytes) (s : State) : State :=
  let via := Transport.line (BitVec.ofNat 7 sender) (entry.map (BitVec.ofNat 12))
  if 36 ≤ b.length ∧ bitAt (fieldAt b 3 1) 0 = true then
    match num with
    | none => s
    | some n => forwardedReply n (parseReply b) s
  else acceptBytes via b s

/-! ### Reassembly (R165) -/

/-- The packet that is put together from an entry (0xFFF: BE_DATA) and sender. -/
def partialPacket (s : State) (entry src : Nat) : Option Reassembly :=
  s.line.reassembly.find? (fun r => r.entry == entry && r.src == src)

/-- What is put together from an entry and sender is replaced or dropped. -/
def setPartial (entry src : Nat) (r : Option Reassembly) (s : State) : State :=
  { s with line := { s.line with
      reassembly := s.line.reassembly.filter (fun q => !(q.entry == entry && q.src == src)) ++ r.toList } }

/-- A fragment joins its packet; the bytes of a packet that it completes. One that does not follow its predecessor discards the
packet. -/
def takeFragment (entry src : Nat) (payload : Bytes) (s : State) : State × Option Bytes :=
  let id := fieldAt payload 0 1
  let idx := bitsAt (fieldAt payload 1 1) 0 7
  let last := bitAt (fieldAt payload 1 1) 7
  let n := fieldAt payload 2 2
  let d := (payload.drop 4).take n
  let start := fun (b : Bytes) =>
    if last then (setPartial entry src none s, some b)
    else (setPartial entry src (some { entry := entry, src := src, pktId := id, nextFrag := idx + 1, data := b }) s, none)
  if n = 0 ∨ n + 4 > payload.length then (setPartial entry src none s, none)
  else if idx = 0 then start d
  else
    match partialPacket s entry src with
    | none => (s, none)
    | some r => if r.pktId = id ∧ r.nextFrag = idx then start (r.data ++ d) else (setPartial entry src none s, none)

/-- QUEUED_FRAME_RECEIVE (R165, R172): a QUEUED frame of an entry that addresses this module. -/
def queuedReceive (east : Bool) (f : LineFrame) (s : State) : State :=
  if f.type.toNat ≠ 3 then s
  else
    let (s, fresh) := acceptReserved east f s
    match slotNo s f.entry.toNat with
    | none => s
    | some x =>
      if !fresh || !addressed s x || x.cls != 1 then s
      else
        match takeFragment x.entry f.src.toNat f.payload s with
        | (s, none) => s
        | (s, some b) => linePacket x.sender (numOfSrc s f.src.toNat) (some x.entry) b s

/-- BE_FRAME_RECEIVE (R155, R177, R178, R833): a best-effort frame is turned, forwarded past its sender or removed, and a packet
that BE_DATA frames bring to this module is examined. -/
def bestEffortReceive (east : Bool) (f : LineFrame) (s : State) : State :=
  let type := f.type.toNat
  if isReserved f || oneHop f || !portOpen s east then s
  else if !frameGood f then (if headGood f then beTurn east f (countBad east f s) else countBad east f s)
  else
    let mine := beForMe s east f
    let s := if mine then noteHeard f.src.toNat s else s
    let s := beTurn east f s
    if !mine || type != 0x16 then s
    else
      match takeFragment 0xFFF f.src.toNat f.payload s with
      | (s, none) => s
      | (s, some b) => linePacket (f.src.toNat % 128) (numOfSrc s f.src.toNat) none b s

/-- A packet of CAN_D, put together on the Signal die, crosses and is examined; it waits while the Crossover is down (R40). -/
def canPacket (sa : Nat) (b : Bytes) (s : State) : State :=
  if signalReady s && s.pk.canIn.isEmpty then acceptBytes (.canD (BitVec.ofNat 8 sa)) b s
  else { s with pk := { s.pk with canIn := s.pk.canIn ++ [(sa, b)] } }

/-- The oldest request that waits is served (R65), and what falls due with it follows; a packet of CAN_D that has waited for the
Crossover comes first. -/
def serve (s : State) : State :=
  match s.pk.canIn with
  | e :: l =>
    if signalReady s then acceptBytes (.canD (BitVec.ofNat 8 e.1)) e.2 { s with pk := { s.pk with canIn := l } }
    else settle (serveStanding opTable s)
  | [] => settle (serveStanding opTable s)

/-- A CAN frame is received, and the Signal firmware takes what its queue holds (R691, R692). -/
def canReceive (n : Nat) (f : CanFrame) (s : State) : State := takeQueued canPacket n (receiveFrame n f s)

/-! ### The rows -/

/-- QUEUED_FRAME_RECEIVE (R165). -/
def execQueuedFrameReceive (t : Nat) (east : Bool) (f : LineFrame) (s : State) : Res := .next (queuedReceive east f (begin_ t s))

/-- BE_FRAME_RECEIVE (R177). -/
def execBeFrameReceive (t : Nat) (east : Bool) (f : LineFrame) (s : State) : Res := .next (bestEffortReceive east f (begin_ t s))

/-- STANDING_SERVE (R65). -/
def execStandingServe (t : Nat) (s : State) : Res := .next (serve (begin_ t s))

/-- CAN_FRAME_RECEIVE (R691). -/
def execCanFrameReceive (t n : Nat) (f : CanFrame) (s : State) : Res :=
  let s := begin_ t s
  .next (if n < 4 then canReceive n f s else s)

/-- A packet with opcode HELLO (0x0001). -/
def execHello (t : Nat) (p : Request) (s : State) : Res := .next (examine 0x0001 p (begin_ t s))

/-- A packet with opcode SESSION_OPEN (0x0002). -/
def execSessionOpen (t : Nat) (p : Request) (s : State) : Res := .next (examine 0x0002 p (begin_ t s))

/-- A packet with opcode SESSION_CLOSE (0x0003). -/
def execSessionClose (t : Nat) (p : Request) (s : State) : Res := .next (examine 0x0003 p (begin_ t s))

/-- A packet with opcode SESSION_KEEP (0x0004). -/
def execSessionKeep (t : Nat) (p : Request) (s : State) : Res := .next (examine 0x0004 p (begin_ t s))

/-- A packet with opcode IDENTIFY (0x0005). -/
def execIdentify (t : Nat) (p : Request) (s : State) : Res := .next (examine 0x0005 p (begin_ t s))

/-- A packet with opcode SESSION_KEY_SET (0x0006). -/
def execSessionKeySet (t : Nat) (p : Request) (s : State) : Res := .next (examine 0x0006 p (begin_ t s))

/-- A packet with opcode REQUEST_CANCEL (0x0007). -/
def execRequestCancel (t : Nat) (p : Request) (s : State) : Res := .next (examine 0x0007 p (begin_ t s))

/-- A packet with opcode REG_READ (0x0100). -/
def execRegRead (t : Nat) (p : Request) (s : State) : Res := .next (examine 0x0100 p (begin_ t s))

/-- A packet with opcode REG_WRITE (0x0101). -/
def execRegWrite (t : Nat) (p : Request) (s : State) : Res := .next (examine 0x0101 p (begin_ t s))

/-- A packet with opcode REG_MODIFY (0x0102). -/
def execRegModify (t : Nat) (p : Request) (s : State) : Res := .next (examine 0x0102 p (begin_ t s))

/-- A packet with opcode TABLE_INFO (0x0103). -/
def execTableInfo (t : Nat) (p : Request) (s : State) : Res := .next (examine 0x0103 p (begin_ t s))

/-- A packet with opcode TABLE_READ (0x0104). -/
def execTableRead (t : Nat) (p : Request) (s : State) : Res := .next (examine 0x0104 p (begin_ t s))

/-- A packet with opcode TABLE_WRITE (0x0105). -/
def execTableWrite (t : Nat) (p : Request) (s : State) : Res := .next (examine 0x0105 p (begin_ t s))

/-- A packet with opcode BLOCK_UNLOCK (0x0106). -/
def execBlockUnlock (t : Nat) (p : Request) (s : State) : Res := .next (examine 0x0106 p (begin_ t s))

/-- A packet with opcode BLOCK_LOCK (0x0107). -/
def execBlockLock (t : Nat) (p : Request) (s : State) : Res := .next (examine 0x0107 p (begin_ t s))

/-- A packet with opcode SIDING_LOAD (0x0200). -/
def execSidingLoad (t : Nat) (p : Request) (s : State) : Res := .next (examine 0x0200 p (begin_ t s))

/-- A packet with opcode SIDING_VERIFY (0x0201). -/
def execSidingVerify (t : Nat) (p : Request) (s : State) : Res := .next (examine 0x0201 p (begin_ t s))

/-- A packet with opcode POINTS_THROW (0x0202). -/
def execPointsThrow (t : Nat) (p : Request) (s : State) : Res := .next (examine 0x0202 p (begin_ t s))

/-- A packet with opcode SIDING_CLEAR (0x0203). -/
def execSidingClear (t : Nat) (p : Request) (s : State) : Res := .next (examine 0x0203 p (begin_ t s))

/-- A packet with opcode SET_INFO (0x0204). -/
def execSetInfo (t : Nat) (p : Request) (s : State) : Res := .next (examine 0x0204 p (begin_ t s))

/-- A packet with opcode LOAD_SET (0x0300). -/
def execLoadSet (t : Nat) (p : Request) (s : State) : Res := .next (examine 0x0300 p (begin_ t s))

/-- A packet with opcode LOAD_STATUS (0x0301). -/
def execLoadStatus (t : Nat) (p : Request) (s : State) : Res := .next (examine 0x0301 p (begin_ t s))

/-- A packet with opcode LOAD_REINSTATE (0x0302). -/
def execLoadReinstate (t : Nat) (p : Request) (s : State) : Res := .next (examine 0x0302 p (begin_ t s))

/-- A packet with opcode LIMP_MAP_READ (0x0303). -/
def execLimpMapRead (t : Nat) (p : Request) (s : State) : Res := .next (examine 0x0303 p (begin_ t s))

/-- A packet with opcode LIMP_MAP_WRITE (0x0304). -/
def execLimpMapWrite (t : Nat) (p : Request) (s : State) : Res := .next (examine 0x0304 p (begin_ t s))

/-- A packet with opcode LOOP_OPEN (0x0400). -/
def execLoopOpen (t : Nat) (p : Request) (s : State) : Res := .next (examine 0x0400 p (begin_ t s))

/-- A packet with opcode LOOP_RUN (0x0401). -/
def execLoopRun (t : Nat) (p : Request) (s : State) : Res := .next (examine 0x0401 p (begin_ t s))

/-- A packet with opcode LOOP_HOLD (0x0402). -/
def execLoopHold (t : Nat) (p : Request) (s : State) : Res := .next (examine 0x0402 p (begin_ t s))

/-- A packet with opcode LOOP_SETPOINT (0x0403). -/
def execLoopSetpoint (t : Nat) (p : Request) (s : State) : Res := .next (examine 0x0403 p (begin_ t s))

/-- A packet with opcode LOOP_STATUS (0x0404). -/
def execLoopStatus (t : Nat) (p : Request) (s : State) : Res := .next (examine 0x0404 p (begin_ t s))

/-- A packet with opcode MODEL_LOAD (0x0500). -/
def execModelLoad (t : Nat) (p : Request) (s : State) : Res := .next (examine 0x0500 p (begin_ t s))

/-- A packet with opcode MODEL_INFO (0x0501). -/
def execModelInfo (t : Nat) (p : Request) (s : State) : Res := .next (examine 0x0501 p (begin_ t s))

/-- A packet with opcode STREAM_STATUS (0x0502). -/
def execStreamStatus (t : Nat) (p : Request) (s : State) : Res := .next (examine 0x0502 p (begin_ t s))

/-- A packet with opcode STREAM_REINSTATE (0x0503). -/
def execStreamReinstate (t : Nat) (p : Request) (s : State) : Res := .next (examine 0x0503 p (begin_ t s))

/-- A packet with opcode GRID_READ (0x0504). -/
def execGridRead (t : Nat) (p : Request) (s : State) : Res := .next (examine 0x0504 p (begin_ t s))

/-- A packet with opcode FUNCTION_AUTO (0x0600). -/
def execFunctionAuto (t : Nat) (p : Request) (s : State) : Res := .next (examine 0x0600 p (begin_ t s))

/-- A packet with opcode FUNCTION_MANUAL (0x0601). -/
def execFunctionManual (t : Nat) (p : Request) (s : State) : Res := .next (examine 0x0601 p (begin_ t s))

/-- A packet with opcode FUNCTION_STATUS (0x0602). -/
def execFunctionStatus (t : Nat) (p : Request) (s : State) : Res := .next (examine 0x0602 p (begin_ t s))

/-- A packet with opcode STEER_ENGAGE (0x0700). -/
def execSteerEngage (t : Nat) (p : Request) (s : State) : Res := .next (examine 0x0700 p (begin_ t s))

/-- A packet with opcode STEER_RELEASE (0x0701). -/
def execSteerRelease (t : Nat) (p : Request) (s : State) : Res := .next (examine 0x0701 p (begin_ t s))

/-- A packet with opcode GUIDANCE_SET (0x0702). -/
def execGuidanceSet (t : Nat) (p : Request) (s : State) : Res := .next (examine 0x0702 p (begin_ t s))

/-- A packet with opcode RTCM_FEED (0x0703). -/
def execRtcmFeed (t : Nat) (p : Request) (s : State) : Res := .next (examine 0x0703 p (begin_ t s))

/-- A packet with opcode GNSS_STATUS (0x0704). -/
def execGnssStatus (t : Nat) (p : Request) (s : State) : Res := .next (examine 0x0704 p (begin_ t s))

/-- A packet with opcode PPS_DELAY_SET (0x0705). -/
def execPpsDelaySet (t : Nat) (p : Request) (s : State) : Res := .next (examine 0x0705 p (begin_ t s))

/-- A packet with opcode FIELD_OPEN (0x0800). -/
def execFieldOpen (t : Nat) (p : Request) (s : State) : Res := .next (examine 0x0800 p (begin_ t s))

/-- A packet with opcode FIELD_CLOSE (0x0801). -/
def execFieldClose (t : Nat) (p : Request) (s : State) : Res := .next (examine 0x0801 p (begin_ t s))

/-- A packet with opcode YIELD_STATUS (0x0802). -/
def execYieldStatus (t : Nat) (p : Request) (s : State) : Res := .next (examine 0x0802 p (begin_ t s))

/-- A packet with opcode YIELD_TILE_READ (0x0803). -/
def execYieldTileRead (t : Nat) (p : Request) (s : State) : Res := .next (examine 0x0803 p (begin_ t s))

/-- A packet with opcode TASK_EXPORT (0x0804). -/
def execTaskExport (t : Nat) (p : Request) (s : State) : Res := .next (examine 0x0804 p (begin_ t s))

/-- A packet with opcode CONSIST_JOIN (0x0900). -/
def execConsistJoin (t : Nat) (p : Request) (s : State) : Res := .next (examine 0x0900 p (begin_ t s))

/-- A packet with opcode CONSIST_LEAVE (0x0901). -/
def execConsistLeave (t : Nat) (p : Request) (s : State) : Res := .next (examine 0x0901 p (begin_ t s))

/-- A packet with opcode CONSIST_KEY_SET (0x0902). -/
def execConsistKeySet (t : Nat) (p : Request) (s : State) : Res := .next (examine 0x0902 p (begin_ t s))

/-- A packet with opcode CONSIST_STATUS (0x0903). -/
def execConsistStatus (t : Nat) (p : Request) (s : State) : Res := .next (examine 0x0903 p (begin_ t s))

/-- A packet with opcode RENDEZVOUS_REQUEST (0x0904). -/
def execRendezvousRequest (t : Nat) (p : Request) (s : State) : Res := .next (examine 0x0904 p (begin_ t s))

/-- A packet with opcode STREAM_OPEN (0x0A00). -/
def execStreamOpen (t : Nat) (p : Request) (s : State) : Res := .next (examine 0x0A00 p (begin_ t s))

/-- A packet with opcode STREAM_CLOSE (0x0A01). -/
def execStreamClose (t : Nat) (p : Request) (s : State) : Res := .next (examine 0x0A01 p (begin_ t s))

/-- A packet with opcode DMA_STATUS (0x0A02). -/
def execDmaStatus (t : Nat) (p : Request) (s : State) : Res := .next (examine 0x0A02 p (begin_ t s))

/-- A packet with opcode LOGBOOK_READ (0x0B00). -/
def execLogbookRead (t : Nat) (p : Request) (s : State) : Res := .next (examine 0x0B00 p (begin_ t s))

/-- A packet with opcode LOGBOOK_INFO (0x0B01). -/
def execLogbookInfo (t : Nat) (p : Request) (s : State) : Res := .next (examine 0x0B01 p (begin_ t s))

/-- A packet with opcode RETIREMENT_READ (0x0B02). -/
def execRetirementRead (t : Nat) (p : Request) (s : State) : Res := .next (examine 0x0B02 p (begin_ t s))

/-- A packet with opcode UPDATE_BEGIN (0x0C00). -/
def execUpdateBegin (t : Nat) (p : Request) (s : State) : Res := .next (examine 0x0C00 p (begin_ t s))

/-- A packet with opcode UPDATE_CHUNK (0x0C01). -/
def execUpdateChunk (t : Nat) (p : Request) (s : State) : Res := .next (examine 0x0C01 p (begin_ t s))

/-- A packet with opcode UPDATE_VERIFY (0x0C02). -/
def execUpdateVerify (t : Nat) (p : Request) (s : State) : Res := .next (examine 0x0C02 p (begin_ t s))

/-- A packet with opcode UPDATE_ACTIVATE (0x0C03). -/
def execUpdateActivate (t : Nat) (p : Request) (s : State) : Res := .next (examine 0x0C03 p (begin_ t s))

/-- A packet with opcode UPDATE_CONFIRM (0x0C04). -/
def execUpdateConfirm (t : Nat) (p : Request) (s : State) : Res := .next (examine 0x0C04 p (begin_ t s))

/-- A packet with opcode UPDATE_STATUS (0x0C05). -/
def execUpdateStatus (t : Nat) (p : Request) (s : State) : Res := .next (examine 0x0C05 p (begin_ t s))

/-- A packet with opcode LINE_STATUS (0x0D00). -/
def execLineStatus (t : Nat) (p : Request) (s : State) : Res := .next (examine 0x0D00 p (begin_ t s))

/-- A packet with opcode LINK_REINSTATE (0x0D01). -/
def execLinkReinstate (t : Nat) (p : Request) (s : State) : Res := .next (examine 0x0D01 p (begin_ t s))

/-- A packet with opcode PARKED_DECLARE (0x0D02). -/
def execParkedDeclare (t : Nat) (p : Request) (s : State) : Res := .next (examine 0x0D02 p (begin_ t s))

/-- A packet with opcode LEVEL_SET (0x0E00). -/
def execLevelSet (t : Nat) (p : Request) (s : State) : Res := .next (examine 0x0E00 p (begin_ t s))

/-- A packet with opcode LEVEL_STATUS (0x0E01). -/
def execLevelStatus (t : Nat) (p : Request) (s : State) : Res := .next (examine 0x0E01 p (begin_ t s))

/-- A packet with opcode RESUME (0x0E02). -/
def execResume (t : Nat) (p : Request) (s : State) : Res := .next (examine 0x0E02 p (begin_ t s))

/-- A packet with opcode SLEEP (0x0E03). -/
def execSleep (t : Nat) (p : Request) (s : State) : Res := .next (examine 0x0E03 p (begin_ t s))

/-- A packet with opcode EVENT (0x0F00). -/
def execEvent (t : Nat) (p : Request) (s : State) : Res := .next (examine 0x0F00 p (begin_ t s))

/-- A packet with opcode EVENT_SUBSCRIBE (0x0F01). -/
def execEventSubscribe (t : Nat) (p : Request) (s : State) : Res := .next (examine 0x0F01 p (begin_ t s))

/-- A packet with opcode ECHO (0x0F02). -/
def execEcho (t : Nat) (p : Request) (s : State) : Res := .next (examine 0x0F02 p (begin_ t s))

/-- A packet with opcode COUNTERS_READ (0x0F03). -/
def execCountersRead (t : Nat) (p : Request) (s : State) : Res := .next (examine 0x0F03 p (begin_ t s))

end Sys2Proof.Machine
end

