-- ==== Sys2Proof/Machine/Dispatch.lean ====
section
/-!
DEFINITION. The meaning of every command: one arm for each constructor of Instr.
-/

namespace Sys2Proof.Machine

def exec (i : Instr) (s : State) : Host.Outcome State Fault Refusal :=
  match i with
  | .strapSample t v => Sys2Proof.Machine.execStrapSample t v s
  | .masterListenEnd t => Sys2Proof.Machine.execMasterListenEnd t s
  | .cycleStartFromHolder t east f => Sys2Proof.Machine.execCycleStartFromHolder t east f s
  | .xoKeepAlive t fromYard => Sys2Proof.Machine.execXoKeepAlive t fromYard s
  | .xoLost t yard => Sys2Proof.Machine.execXoLost t yard s
  | .crossoverUp t => Sys2Proof.Machine.execCrossoverUp t s
  | .crossoverValueSend t l => Sys2Proof.Machine.execCrossoverValueSend t l s
  | .eventLatchDrain t => Sys2Proof.Machine.execEventLatchDrain t s
  | .signalDieRestart t => Sys2Proof.Machine.execSignalDieRestart t s
  | .outputReclaim t => Sys2Proof.Machine.execOutputReclaim t s
  | .holdExpiry t => Sys2Proof.Machine.execHoldExpiry t s
  | .yardDieRestart t => Sys2Proof.Machine.execYardDieRestart t s
  | .yardDieBack t linkE linkW holder => Sys2Proof.Machine.execYardDieBack t linkE linkW holder s
  | .plannedGraceEnd t => Sys2Proof.Machine.execPlannedGraceEnd t s
  | .dieBoot t d => Sys2Proof.Machine.execDieBoot t d s
  | .hello t p => Sys2Proof.Machine.execHello t p s
  | .identify t p => Sys2Proof.Machine.execIdentify t p s
  | .sessionOpen t p => Sys2Proof.Machine.execSessionOpen t p s
  | .sessionClose t p => Sys2Proof.Machine.execSessionClose t p s
  | .sessionKeep t p => Sys2Proof.Machine.execSessionKeep t p s
  | .sessionKeySet t p => Sys2Proof.Machine.execSessionKeySet t p s
  | .requestCancel t p => Sys2Proof.Machine.execRequestCancel t p s
  | .regRead t p => Sys2Proof.Machine.execRegRead t p s
  | .regWrite t p => Sys2Proof.Machine.execRegWrite t p s
  | .regModify t p => Sys2Proof.Machine.execRegModify t p s
  | .tableInfo t p => Sys2Proof.Machine.execTableInfo t p s
  | .tableRead t p => Sys2Proof.Machine.execTableRead t p s
  | .tableWrite t p => Sys2Proof.Machine.execTableWrite t p s
  | .blockUnlock t p => Sys2Proof.Machine.execBlockUnlock t p s
  | .blockLock t p => Sys2Proof.Machine.execBlockLock t p s
  | .sidingLoad t p => Sys2Proof.Machine.execSidingLoad t p s
  | .sidingVerify t p => Sys2Proof.Machine.execSidingVerify t p s
  | .pointsThrow t p => Sys2Proof.Machine.execPointsThrow t p s
  | .sidingClear t p => Sys2Proof.Machine.execSidingClear t p s
  | .setInfo t p => Sys2Proof.Machine.execSetInfo t p s
  | .loadSet t p => Sys2Proof.Machine.execLoadSet t p s
  | .loadStatus t p => Sys2Proof.Machine.execLoadStatus t p s
  | .loadReinstate t p => Sys2Proof.Machine.execLoadReinstate t p s
  | .limpMapRead t p => Sys2Proof.Machine.execLimpMapRead t p s
  | .limpMapWrite t p => Sys2Proof.Machine.execLimpMapWrite t p s
  | .loopOpen t p => Sys2Proof.Machine.execLoopOpen t p s
  | .loopRun t p => Sys2Proof.Machine.execLoopRun t p s
  | .loopHold t p => Sys2Proof.Machine.execLoopHold t p s
  | .loopSetpoint t p => Sys2Proof.Machine.execLoopSetpoint t p s
  | .loopStatus t p => Sys2Proof.Machine.execLoopStatus t p s
  | .modelLoad t p => Sys2Proof.Machine.execModelLoad t p s
  | .modelInfo t p => Sys2Proof.Machine.execModelInfo t p s
  | .streamStatus t p => Sys2Proof.Machine.execStreamStatus t p s
  | .streamReinstate t p => Sys2Proof.Machine.execStreamReinstate t p s
  | .gridRead t p => Sys2Proof.Machine.execGridRead t p s
  | .functionAuto t p => Sys2Proof.Machine.execFunctionAuto t p s
  | .functionManual t p => Sys2Proof.Machine.execFunctionManual t p s
  | .functionStatus t p => Sys2Proof.Machine.execFunctionStatus t p s
  | .steerEngage t p => Sys2Proof.Machine.execSteerEngage t p s
  | .steerRelease t p => Sys2Proof.Machine.execSteerRelease t p s
  | .guidanceSet t p => Sys2Proof.Machine.execGuidanceSet t p s
  | .rtcmFeed t p => Sys2Proof.Machine.execRtcmFeed t p s
  | .gnssStatus t p => Sys2Proof.Machine.execGnssStatus t p s
  | .ppsDelaySet t p => Sys2Proof.Machine.execPpsDelaySet t p s
  | .gnsPpsDelayWrite t v => Sys2Proof.Machine.execGnsPpsDelayWrite t v s
  | .fieldOpen t p => Sys2Proof.Machine.execFieldOpen t p s
  | .fieldClose t p => Sys2Proof.Machine.execFieldClose t p s
  | .yieldStatus t p => Sys2Proof.Machine.execYieldStatus t p s
  | .yieldTileRead t p => Sys2Proof.Machine.execYieldTileRead t p s
  | .taskExport t p => Sys2Proof.Machine.execTaskExport t p s
  | .consistJoin t p => Sys2Proof.Machine.execConsistJoin t p s
  | .consistLeave t p => Sys2Proof.Machine.execConsistLeave t p s
  | .consistKeySet t p => Sys2Proof.Machine.execConsistKeySet t p s
  | .consistStatus t p => Sys2Proof.Machine.execConsistStatus t p s
  | .rendezvousRequest t p => Sys2Proof.Machine.execRendezvousRequest t p s
  | .streamOpen t p => Sys2Proof.Machine.execStreamOpen t p s
  | .streamClose t p => Sys2Proof.Machine.execStreamClose t p s
  | .dmaStatus t p => Sys2Proof.Machine.execDmaStatus t p s
  | .logbookRead t p => Sys2Proof.Machine.execLogbookRead t p s
  | .logbookInfo t p => Sys2Proof.Machine.execLogbookInfo t p s
  | .retirementRead t p => Sys2Proof.Machine.execRetirementRead t p s
  | .updateBegin t p => Sys2Proof.Machine.execUpdateBegin t p s
  | .updateChunk t p => Sys2Proof.Machine.execUpdateChunk t p s
  | .updateVerify t p => Sys2Proof.Machine.execUpdateVerify t p s
  | .updateActivate t p => Sys2Proof.Machine.execUpdateActivate t p s
  | .updateConfirm t p => Sys2Proof.Machine.execUpdateConfirm t p s
  | .updateStatus t p => Sys2Proof.Machine.execUpdateStatus t p s
  | .lineStatus t p => Sys2Proof.Machine.execLineStatus t p s
  | .linkReinstate t p => Sys2Proof.Machine.execLinkReinstate t p s
  | .parkedDeclare t p => Sys2Proof.Machine.execParkedDeclare t p s
  | .levelSet t p => Sys2Proof.Machine.execLevelSet t p s
  | .levelStatus t p => Sys2Proof.Machine.execLevelStatus t p s
  | .resume t p => Sys2Proof.Machine.execResume t p s
  | .sleep t p => Sys2Proof.Machine.execSleep t p s
  | .event t p => Sys2Proof.Machine.execEvent t p s
  | .eventSubscribe t p => Sys2Proof.Machine.execEventSubscribe t p s
  | .echo t p => Sys2Proof.Machine.execEcho t p s
  | .countersRead t p => Sys2Proof.Machine.execCountersRead t p s
  | .registerWrite t a mask v => Sys2Proof.Machine.execRegisterWrite t a mask v s
  | .minSlackRestart t => Sys2Proof.Machine.execMinSlackRestart t s
  | .hmapWrite t n v => Sys2Proof.Machine.execHmapWrite t n v s
  | .remapDone t => Sys2Proof.Machine.execRemapDone t s
  | .gateOpen t g => Sys2Proof.Machine.execGateOpen t g s
  | .gateCloseRequest t g => Sys2Proof.Machine.execGateCloseRequest t g s
  | .gateClose t g => Sys2Proof.Machine.execGateClose t g s
  | .gateForced t g => Sys2Proof.Machine.execGateForced t g s
  | .dmaStopWrite t c v => Sys2Proof.Machine.execDmaStopWrite t c v s
  | .interimRepeat t => Sys2Proof.Machine.execInterimRepeat t s
  | .forwardTimeout t => Sys2Proof.Machine.execForwardTimeout t s
  | .openPendingExpiry t n => Sys2Proof.Machine.execOpenPendingExpiry t n s
  | .sessionIdleClose t n => Sys2Proof.Machine.execSessionIdleClose t n s
  | .unlockExpiry t n => Sys2Proof.Machine.execUnlockExpiry t n s
  | .forwardedReply t n r => Sys2Proof.Machine.execForwardedReply t n r s
  | .mirroredReplyRelease t => Sys2Proof.Machine.execMirroredReplyRelease t s
  | .standingServe t => Sys2Proof.Machine.execStandingServe t s
  | .ownerRestartReply t => Sys2Proof.Machine.execOwnerRestartReply t s
  | .isoTpTimeout t => Sys2Proof.Machine.execIsoTpTimeout t s
  | .hostArpIcmp t q => Sys2Proof.Machine.execHostArpIcmp t q s
  | .sensorArpIcmp t q => Sys2Proof.Machine.execSensorArpIcmp t q s
  | .cycleBoundary t => Sys2Proof.Machine.execCycleBoundary t s
  | .entrySend t entry => Sys2Proof.Machine.execEntrySend t entry s
  | .lineFrameForward t east f residence => Sys2Proof.Machine.execLineFrameForward t east f residence s
  | .reservedFrameReceive t east f regions mirror => Sys2Proof.Machine.execReservedFrameReceive t east f regions mirror s
  | .cycleStartReceive t east f holder => Sys2Proof.Machine.execCycleStartReceive t east f holder s
  | .queuedFrameReceive t east f => Sys2Proof.Machine.execQueuedFrameReceive t east f s
  | .joinSend t => Sys2Proof.Machine.execJoinSend t s
  | .joinReceive t east f => Sys2Proof.Machine.execJoinReceive t east f s
  | .joinAcceptReceive t east f => Sys2Proof.Machine.execJoinAcceptReceive t east f s
  | .timetableStart t => Sys2Proof.Machine.execTimetableStart t s
  | .delayProbe t east => Sys2Proof.Machine.execDelayProbe t east s
  | .delayReqReceive t east f turnaround => Sys2Proof.Machine.execDelayReqReceive t east f turnaround s
  | .delayRespReceive t east f roundTrip => Sys2Proof.Machine.execDelayRespReceive t east f roundTrip s
  | .checkReceive t east f => Sys2Proof.Machine.execCheckReceive t east f s
  | .beFrameSend t => Sys2Proof.Machine.execBeFrameSend t s
  | .beFrameReceive t east f => Sys2Proof.Machine.execBeFrameReceive t east f s
  | .diagReceive t east f => Sys2Proof.Machine.execDiagReceive t east f s
  | .resEndMiss t => Sys2Proof.Machine.execResEndMiss t s
  | .linkClassify t east => Sys2Proof.Machine.execLinkClassify t east s
  | .takeoverDecision t => Sys2Proof.Machine.execTakeoverDecision t s
  | .takeover t => Sys2Proof.Machine.execTakeover t s
  | .phyLinkDrop t east => Sys2Proof.Machine.execPhyLinkDrop t east s
  | .phyLinkUp t east => Sys2Proof.Machine.execPhyLinkUp t east s
  | .lineLost t => Sys2Proof.Machine.execLineLost t s
  | .entryMissLimit t entry => Sys2Proof.Machine.execEntryMissLimit t entry s
  | .stationAbsent t n => Sys2Proof.Machine.execStationAbsent t n s
  | .freeRunLimit t => Sys2Proof.Machine.execFreeRunLimit t s
  | .syncAchieved t => Sys2Proof.Machine.execSyncAchieved t s
  | .armingRequest t p => Sys2Proof.Machine.execArmingRequest t p s
  | .throwCommitDecision t => Sys2Proof.Machine.execThrowCommitDecision t s
  | .throwSwap t => Sys2Proof.Machine.execThrowSwap t s
  | .lateThrow t => Sys2Proof.Machine.execLateThrow t s
  | .throwFinalReply t => Sys2Proof.Machine.execThrowFinalReply t s
  | .orderStart t n => Sys2Proof.Machine.execOrderStart t n s
  | .orderStep t n => Sys2Proof.Machine.execOrderStep t n s
  | .cameraFrame t cam lines len stime px => Sys2Proof.Machine.execCameraFrame t cam lines len stime px s
  | .lidarDatagram t port d => Sys2Proof.Machine.execLidarDatagram t port d s
  | .directBlock t slot l => Sys2Proof.Machine.execDirectBlock t slot l s
  | .modelInvocationDone t slot => Sys2Proof.Machine.execModelInvocationDone t slot s
  | .streamLost t slot => Sys2Proof.Machine.execStreamLost t slot s
  | .streamRetired t slot => Sys2Proof.Machine.execStreamRetired t slot s
  | .fusionFrame t => Sys2Proof.Machine.execFusionFrame t s
  | .fusionFrameDone t => Sys2Proof.Machine.execFusionFrameDone t s
  | .stepTick t => Sys2Proof.Machine.execStepTick t s
  | .policyDone t => Sys2Proof.Machine.execPolicyDone t s
  | .settlingEnd t n => Sys2Proof.Machine.execSettlingEnd t n s
  | .loopTick t n upd => Sys2Proof.Machine.execLoopTick t n upd s
  | .loopDeadline t n => Sys2Proof.Machine.execLoopDeadline t n s
  | .loopLossAction t n => Sys2Proof.Machine.execLoopLossAction t n s
  | .overCurrentLatch t c current tj => Sys2Proof.Machine.execOverCurrentLatch t c current tj s
  | .thermalLatch t c tj => Sys2Proof.Machine.execThermalLatch t c tj s
  | .retry t c tj => Sys2Proof.Machine.execRetry t c tj s
  | .retryOk t c => Sys2Proof.Machine.execRetryOk t c s
  | .inrushWindowEnd t c => Sys2Proof.Machine.execInrushWindowEnd t c s
  | .openLoadJudgement t c above units => Sys2Proof.Machine.execOpenLoadJudgement t c above units s
  | .studMean t a b => Sys2Proof.Machine.execStudMean t a b s
  | .supplyLow t b mv => Sys2Proof.Machine.execSupplyLow t b mv s
  | .currentMeasure t l => Sys2Proof.Machine.execCurrentMeasure t l s
  | .senseSelect t sel en => Sys2Proof.Machine.execSenseSelect t sel en s
  | .limpReq t => Sys2Proof.Machine.execLimpReq t s
  | .lhInChange t levels => Sys2Proof.Machine.execLhInChange t levels s
  | .limpMapLatch t => Sys2Proof.Machine.execLimpMapLatch t s
  | .correlatorDump t l => Sys2Proof.Machine.execCorrelatorDump t l s
  | .acquisitionDone t n sig sv antB aided found doppler => Sys2Proof.Machine.execAcquisitionDone t n sig sv antB aided found doppler s
  | .gnssEpoch t x => Sys2Proof.Machine.execGnssEpoch t x s
  | .slewEnd t => Sys2Proof.Machine.execSlewEnd t s
  | .timeStep t => Sys2Proof.Machine.execTimeStep t s
  | .timePulse t => Sys2Proof.Machine.execTimePulse t s
  | .antFault t antB cur open_ short => Sys2Proof.Machine.execAntFault t antB cur open_ short s
  | .rtcmFrame t source => Sys2Proof.Machine.execRtcmFrame t source s
  | .corrStale t => Sys2Proof.Machine.execCorrStale t s
  | .steerCompute t x => Sys2Proof.Machine.execSteerCompute t x s
  | .enableFilter t => Sys2Proof.Machine.execEnableFilter t s
  | .edgeHoldTimeout t => Sys2Proof.Machine.execEdgeHoldTimeout t s
  | .fixGraceExpiry t => Sys2Proof.Machine.execFixGraceExpiry t s
  | .overrideExpiry t => Sys2Proof.Machine.execOverrideExpiry t s
  | .speedExpiry t => Sys2Proof.Machine.execSpeedExpiry t s
  | .blendEnd t => Sys2Proof.Machine.execBlendEnd t s
  | .yieldSample t => Sys2Proof.Machine.execYieldSample t s
  | .cutInstant t => Sys2Proof.Machine.execCutInstant t s
  | .tileFlush t => Sys2Proof.Machine.execTileFlush t s
  | .heartbeatSend t => Sys2Proof.Machine.execHeartbeatSend t s
  | .heartbeatReceive t d => Sys2Proof.Machine.execHeartbeatReceive t d s
  | .coverageSend t => Sys2Proof.Machine.execCoverageSend t s
  | .coverageReceive t d => Sys2Proof.Machine.execCoverageReceive t d s
  | .rendezvousReceive t d => Sys2Proof.Machine.execRendezvousReceive t d s
  | .correctionsReceive t d => Sys2Proof.Machine.execCorrectionsReceive t d s
  | .leaveReceive t d => Sys2Proof.Machine.execLeaveReceive t d s
  | .leaveRepeat t => Sys2Proof.Machine.execLeaveRepeat t s
  | .memberLost t n => Sys2Proof.Machine.execMemberLost t n s
  | .memberRemove t n => Sys2Proof.Machine.execMemberRemove t n s
  | .joinListenEnd t => Sys2Proof.Machine.execJoinListenEnd t s
  | .requestSend t => Sys2Proof.Machine.execRequestSend t s
  | .offerSelect t => Sys2Proof.Machine.execOfferSelect t s
  | .trackSend t => Sys2Proof.Machine.execTrackSend t s
  | .offerTimeout t => Sys2Proof.Machine.execOfferTimeout t s
  | .trackTimeout t => Sys2Proof.Machine.execTrackTimeout t s
  | .correctionRelay t => Sys2Proof.Machine.execCorrectionRelay t s
  | .refWindow t xtal coarse count ringT ringX => Sys2Proof.Machine.execRefWindow t xtal coarse count ringT ringX s
  | .refMissing t xtal => Sys2Proof.Machine.execRefMissing t xtal s
  | .refReturn t xtal => Sys2Proof.Machine.execRefReturn t xtal s
  | .refWaitTimeout t => Sys2Proof.Machine.execRefWaitTimeout t s
  | .sequencerCheck t canary => Sys2Proof.Machine.execSequencerCheck t canary s
  | .levelRaiseDone t canary => Sys2Proof.Machine.execLevelRaiseDone t canary s
  | .faceTempRead t face yard sigMv => Sys2Proof.Machine.execFaceTempRead t face yard sigMv s
  | .descriptorStart t c l => Sys2Proof.Machine.execDescriptorStart t c l s
  | .descriptorComplete t c e => Sys2Proof.Machine.execDescriptorComplete t c e s
  | .descResubmit t c => Sys2Proof.Machine.execDescResubmit t c s
  | .patrolScrub t l => Sys2Proof.Machine.execPatrolScrub t l s
  | .pageRetirement t page => Sys2Proof.Machine.execPageRetirement t page s
  | .streamUnitSend t n => Sys2Proof.Machine.execStreamUnitSend t n s
  | .messageDue t m => Sys2Proof.Machine.execMessageDue t m s
  | .txError t n err => Sys2Proof.Machine.execTxError t n err s
  | .busOn t n => Sys2Proof.Machine.execBusOn t n s
  | .canFrameReceive t n f => Sys2Proof.Machine.execCanFrameReceive t n f s
  | .addressClaim t => Sys2Proof.Machine.execAddressClaim t s
  | .rxTimeout t r => Sys2Proof.Machine.execRxTimeout t r s
  | .canWake t n => Sys2Proof.Machine.execCanWake t n s
  | .eventSend t n => Sys2Proof.Machine.execEventSend t n s
  | .histogramSecond t l => Sys2Proof.Machine.execHistogramSecond t l s
  | .logCommit t done => Sys2Proof.Machine.execLogCommit t done s
  | .signalDeadmanExpiry t => Sys2Proof.Machine.execSignalDeadmanExpiry t s
  | .yardDeadmanExpiry t => Sys2Proof.Machine.execYardDeadmanExpiry t s
  | .flashOperationFail t log again siding block => Sys2Proof.Machine.execFlashOperationFail t log again siding block s
  | .verifyDone t d => Sys2Proof.Machine.execVerifyDone t d s
  | .moduleActivate t sig yard => Sys2Proof.Machine.execModuleActivate t sig yard s
  | .trialHealthy t => Sys2Proof.Machine.execTrialHealthy t s
  | .confirmTimeout t d => Sys2Proof.Machine.execConfirmTimeout t d s
  | .handoverStart t => Sys2Proof.Machine.execHandoverStart t s
  | .handover t taken => Sys2Proof.Machine.execHandover t taken s
  | .runStep t l => Sys2Proof.Machine.execRunStep t l s
  | .powerUp t mv => Sys2Proof.Machine.execPowerUp t mv s
  | .powerFail t => Sys2Proof.Machine.execPowerFail t s
  | .ignOffTimeout t => Sys2Proof.Machine.execIgnOffTimeout t s
  | .sleepEntry t => Sys2Proof.Machine.execSleepEntry t s
  | .wake t src => Sys2Proof.Machine.execWake t src s
  | .camLimit t cam => Sys2Proof.Machine.execCamLimit t cam s
  | .deadmanRestart t yard => Sys2Proof.Machine.execDeadmanRestart t yard s
  | .limpReqLow t => Sys2Proof.Machine.execLimpReqLow t s
  | .supplyLowClear t b mv => Sys2Proof.Machine.execSupplyLowClear t b mv s
  | .canFrameSent t n => Sys2Proof.Machine.execCanFrameSent t n s
  | .inputSample t r => Sys2Proof.Machine.execInputSample t r s
  | .sidingVerifyDone t relief => Sys2Proof.Machine.execSidingVerifyDone t relief s
  | .pwmPeriodStart t c => Sys2Proof.Machine.execPwmPeriodStart t c s
  | .sensLimit t mask => Sys2Proof.Machine.execSensLimit t mask s

end Sys2Proof.Machine
end

