-- ==== Sys2Proof/Machine/Step.lean ====
section
/-!
DEFINITION. One step of the module: the command at the front of the queue.
-/

namespace Sys2Proof.Machine

/-- One step: the command at the front of the queue is carried out on the state with the rest of the queue. On an empty
queue the module idles: everything it does of its own accord is a command too, with the instant at which it happens. -/
def step (s : State) : Host.Outcome State Fault Refusal :=
  match s.pending with
  | [] => .next s
  | c :: rest => exec c { s with pending := rest }

/-- The state with a command put at the front of the queue. -/
def State.push (c : Instr) (s : State) : State := { s with pending := c :: s.pending }

/-- The state with the command that a word spells at the front of its queue; unchanged where the word spells none. -/
def State.withFetchWord (s : State) (nbits w : Nat) : State :=
  match decodeTableWord nbits w with
  | none => s
  | some c => s.push c

end Sys2Proof.Machine
end

