-- ==== Sys2Proof/WellFormed.lean ====
section
/-!
DEFINITION. Which commands are well formed: an index names something that the module has, and a frame, a packet or a report has
the size that the spec gives it.
-/

namespace Sys2Proof

open Sys2Proof.Machine (Mirror)

/-- A number less than a bound. -/
def below (n k : Nat) : Bool := decide (k < n)

/-- A session number (R98). -/
def sessionNo (n : Nat) : Bool := decide (1 ≤ n) && decide (n ≤ 16)

/-- The parameters of a request fit a datagram (R86). -/
def requestWf (p : Request) : Bool := below 65508 p.params.length

/-- The result of a reply fits a packet (R74). -/
def replyWf (r : Reply) : Bool := below 1401 r.result.length

/-- A Line frame has at most 24 blocks of 64 bytes, and at least one in the reserved window (R149, R150, R152). -/
def frameWf (f : LineFrame) : Bool :=
  (decide (1 ≤ f.len.toNat) || decide (4 ≤ f.type.toNat)) && decide (f.len.toNat ≤ 24) && f.payload.length == 64 * f.len.toNat

/-- A CAN frame has an identifier of 29 or 11 bits, and at most 64 or 8 bytes (R677). -/
def canFrameWf (f : CanFrame) : Bool :=
  below (if f.ide then 536870912 else 2048) f.id && below (if f.fdf then 65 else 9) f.data.length

/-- A report holds a join number and 48 bytes of UPDATE_STATUS (R781). -/
def reportWf (r : RunReport) : Bool := below 64 r.num && r.status.length == 48

/-- A reading names an input of the module (R274). -/
def readingWf (r : Reading) : Bool :=
  match r with
  | .analogue i _ => below 16 i
  | .frequency i _ => below 8 i
  | .edges i _ => below 8 i
  | .acoustic i _ => below 8 i
  | .digital _ => true
  | .logic _ _ => true
  | .inertial _ _ _ _ _ _ => true

/-- A mirror holds the 48 setting functions and the three correction sources (R376, R504, R521). -/
def mirrorWf (m : Mirror) : Bool := m.fn.fns.length == 48 && m.nav.sources.length == 3

/-- The command is well formed. -/
def Instr.wf (i : Instr) : Bool :=
  match i with
  | .strapSample _ _ => true
  | .masterListenEnd _ => true
  | .cycleStartFromHolder _ _ f => frameWf f
  | .xoKeepAlive _ _ => true
  | .xoLost _ _ => true
  | .crossoverUp _ => true
  | .crossoverValueSend _ l => l.all (below 64)
  | .eventLatchDrain _ => true
  | .signalDieRestart _ => true
  | .outputReclaim _ => true
  | .holdExpiry _ => true
  | .yardDieRestart _ => true
  | .yardDieBack _ _ _ _ => true
  | .plannedGraceEnd _ => true
  | .dieBoot _ d => below 2 d
  | .hello _ p => requestWf p
  | .identify _ p => requestWf p
  | .sessionOpen _ p => requestWf p
  | .sessionClose _ p => requestWf p
  | .sessionKeep _ p => requestWf p
  | .sessionKeySet _ p => requestWf p
  | .requestCancel _ p => requestWf p
  | .regRead _ p => requestWf p
  | .regWrite _ p => requestWf p
  | .regModify _ p => requestWf p
  | .tableInfo _ p => requestWf p
  | .tableRead _ p => requestWf p
  | .tableWrite _ p => requestWf p
  | .blockUnlock _ p => requestWf p
  | .blockLock _ p => requestWf p
  | .sidingLoad _ p => requestWf p
  | .sidingVerify _ p => requestWf p
  | .pointsThrow _ p => requestWf p
  | .sidingClear _ p => requestWf p
  | .setInfo _ p => requestWf p
  | .loadSet _ p => requestWf p
  | .loadStatus _ p => requestWf p
  | .loadReinstate _ p => requestWf p
  | .limpMapRead _ p => requestWf p
  | .limpMapWrite _ p => requestWf p
  | .loopOpen _ p => requestWf p
  | .loopRun _ p => requestWf p
  | .loopHold _ p => requestWf p
  | .loopSetpoint _ p => requestWf p
  | .loopStatus _ p => requestWf p
  | .modelLoad _ p => requestWf p
  | .modelInfo _ p => requestWf p
  | .streamStatus _ p => requestWf p
  | .streamReinstate _ p => requestWf p
  | .gridRead _ p => requestWf p
  | .functionAuto _ p => requestWf p
  | .functionManual _ p => requestWf p
  | .functionStatus _ p => requestWf p
  | .steerEngage _ p => requestWf p
  | .steerRelease _ p => requestWf p
  | .guidanceSet _ p => requestWf p
  | .rtcmFeed _ p => requestWf p
  | .gnssStatus _ p => requestWf p
  | .ppsDelaySet _ p => requestWf p
  | .gnsPpsDelayWrite _ _ => true
  | .fieldOpen _ p => requestWf p
  | .fieldClose _ p => requestWf p
  | .yieldStatus _ p => requestWf p
  | .yieldTileRead _ p => requestWf p
  | .taskExport _ p => requestWf p
  | .consistJoin _ p => requestWf p
  | .consistLeave _ p => requestWf p
  | .consistKeySet _ p => requestWf p
  | .consistStatus _ p => requestWf p
  | .rendezvousRequest _ p => requestWf p
  | .streamOpen _ p => requestWf p
  | .streamClose _ p => requestWf p
  | .dmaStatus _ p => requestWf p
  | .logbookRead _ p => requestWf p
  | .logbookInfo _ p => requestWf p
  | .retirementRead _ p => requestWf p
  | .updateBegin _ p => requestWf p
  | .updateChunk _ p => requestWf p
  | .updateVerify _ p => requestWf p
  | .updateActivate _ p => requestWf p
  | .updateConfirm _ p => requestWf p
  | .updateStatus _ p => requestWf p
  | .lineStatus _ p => requestWf p
  | .linkReinstate _ p => requestWf p
  | .parkedDeclare _ p => requestWf p
  | .levelSet _ p => requestWf p
  | .levelStatus _ p => requestWf p
  | .resume _ p => requestWf p
  | .sleep _ p => requestWf p
  | .event _ p => requestWf p
  | .eventSubscribe _ p => requestWf p
  | .echo _ p => requestWf p
  | .countersRead _ p => requestWf p
  | .registerWrite _ _ _ _ => true
  | .minSlackRestart _ => true
  | .hmapWrite _ n _ => below 64 n
  | .remapDone _ => true
  | .gateOpen _ g => below 12 g
  | .gateCloseRequest _ g => below 12 g
  | .gateClose _ g => below 12 g
  | .gateForced _ g => below 12 g
  | .dmaStopWrite _ c _ => below 32 c
  | .interimRepeat _ => true
  | .forwardTimeout _ => true
  | .openPendingExpiry _ n => sessionNo n
  | .sessionIdleClose _ n => sessionNo n
  | .unlockExpiry _ n => sessionNo n
  | .forwardedReply _ n r => below 64 n && replyWf r
  | .mirroredReplyRelease _ => true
  | .standingServe _ => true
  | .ownerRestartReply _ => true
  | .isoTpTimeout _ => true
  | .hostArpIcmp _ _ => true
  | .sensorArpIcmp _ _ => true
  | .cycleBoundary _ => true
  | .entrySend _ entry => below 4096 entry
  | .lineFrameForward _ _ f _ => frameWf f
  | .reservedFrameReceive _ _ f _ mirror => frameWf f && mirror.all mirrorWf
  | .cycleStartReceive _ _ f holder => frameWf f && below 64 holder
  | .queuedFrameReceive _ _ f => frameWf f
  | .joinSend _ => true
  | .joinReceive _ _ f => frameWf f
  | .joinAcceptReceive _ _ f => frameWf f
  | .timetableStart _ => true
  | .delayProbe _ _ => true
  | .delayReqReceive _ _ f _ => frameWf f
  | .delayRespReceive _ _ f _ => frameWf f
  | .checkReceive _ _ f => frameWf f
  | .beFrameSend _ => true
  | .beFrameReceive _ _ f => frameWf f
  | .diagReceive _ _ f => frameWf f
  | .resEndMiss _ => true
  | .linkClassify _ _ => true
  | .takeoverDecision _ => true
  | .takeover _ => true
  | .phyLinkDrop _ _ => true
  | .phyLinkUp _ _ => true
  | .lineLost _ => true
  | .entryMissLimit _ entry => below 4096 entry
  | .stationAbsent _ n => below 64 n
  | .freeRunLimit _ => true
  | .syncAchieved _ => true
  | .armingRequest _ p => requestWf p
  | .throwCommitDecision _ => true
  | .throwSwap _ => true
  | .lateThrow _ => true
  | .throwFinalReply _ => true
  | .orderStart _ n => below 16 n
  | .orderStep _ n => below 16 n
  | .cameraFrame _ cam _ _ _ _ => below 4 cam
  | .lidarDatagram _ _ d => below 65508 d.length
  | .directBlock _ slot l => below 16 slot && l.all readingWf
  | .modelInvocationDone _ slot => below 20 slot
  | .streamLost _ slot => below 20 slot
  | .streamRetired _ slot => below 20 slot
  | .fusionFrame _ => true
  | .fusionFrameDone _ => true
  | .stepTick _ => true
  | .policyDone _ => true
  | .settlingEnd _ n => below 48 n
  | .loopTick _ n _ => below 32 n
  | .loopDeadline _ n => below 32 n
  | .loopLossAction _ n => below 32 n
  | .overCurrentLatch _ c _ _ => below 32 c
  | .thermalLatch _ c _ => below 32 c
  | .retry _ c _ => below 32 c
  | .retryOk _ c => below 32 c
  | .inrushWindowEnd _ c => below 32 c
  | .openLoadJudgement _ c _ _ => below 32 c
  | .studMean _ _ _ => true
  | .supplyLow _ _ _ => true
  | .currentMeasure _ l => l.length == 32
  | .senseSelect _ _ _ => true
  | .limpReq _ => true
  | .lhInChange _ _ => true
  | .limpMapLatch _ => true
  | .correlatorDump _ l => l.all (fun x => below 128 x.chan && x.corr.length == 5)
  | .acquisitionDone _ n sig sv _ _ _ _ => below 128 n && below 12 sig && below 256 sv
  | .gnssEpoch _ x => below 5 x.fix.toNat && x.offsets.all (fun e => below 4 e.1) && x.orbits.all (fun e => below 4 e.1 && below 256 e.2)
  | .slewEnd _ => true
  | .timeStep _ => true
  | .timePulse _ => true
  | .antFault _ _ _ _ _ => true
  | .rtcmFrame _ source => below 4 source
  | .corrStale _ => true
  | .steerCompute _ _ => true
  | .enableFilter _ => true
  | .edgeHoldTimeout _ => true
  | .fixGraceExpiry _ => true
  | .overrideExpiry _ => true
  | .speedExpiry _ => true
  | .blendEnd _ => true
  | .yieldSample _ => true
  | .cutInstant _ => true
  | .tileFlush _ => true
  | .heartbeatSend _ => true
  | .heartbeatReceive _ d => below 65508 d.bytes.length
  | .coverageSend _ => true
  | .coverageReceive _ d => below 65508 d.bytes.length
  | .rendezvousReceive _ d => below 65508 d.bytes.length
  | .correctionsReceive _ d => below 65508 d.bytes.length
  | .leaveReceive _ d => below 65508 d.bytes.length
  | .leaveRepeat _ => true
  | .memberLost _ n => below 32 n
  | .memberRemove _ n => below 32 n
  | .joinListenEnd _ => true
  | .requestSend _ => true
  | .offerSelect _ => true
  | .trackSend _ => true
  | .offerTimeout _ => true
  | .trackTimeout _ => true
  | .correctionRelay _ => true
  | .refWindow _ _ _ _ _ _ => true
  | .refMissing _ _ => true
  | .refReturn _ _ => true
  | .refWaitTimeout _ => true
  | .sequencerCheck _ _ => true
  | .levelRaiseDone _ _ => true
  | .faceTempRead _ _ _ sigMv => below 65536 sigMv
  | .descriptorStart _ c _ => below 32 c
  | .descriptorComplete _ c _ => below 32 c
  | .descResubmit _ c => below 32 c
  | .patrolScrub _ _ => true
  | .pageRetirement _ _ => true
  | .streamUnitSend _ n => below 4 n
  | .messageDue _ m => below 32 m
  | .txError _ n err => below 4 n && below 256 err
  | .busOn _ n => below 4 n
  | .canFrameReceive _ n f => below 4 n && canFrameWf f
  | .addressClaim _ => true
  | .rxTimeout _ r => below 32 r
  | .canWake _ n => below 4 n
  | .eventSend _ n => sessionNo n
  | .histogramSecond _ l => l.all (fun e => below 64 e.1)
  | .logCommit _ _ => true
  | .signalDeadmanExpiry _ => true
  | .yardDeadmanExpiry _ => true
  | .flashOperationFail _ _ _ _ _ => true
  | .verifyDone _ d => below 2 d
  | .moduleActivate _ _ _ => true
  | .trialHealthy _ => true
  | .confirmTimeout _ d => below 2 d
  | .handoverStart _ => true
  | .handover _ _ => true
  | .runStep _ l => l.all reportWf
  | .powerUp _ _ => true
  | .powerFail _ => true
  | .ignOffTimeout _ => true
  | .sleepEntry _ => true
  | .wake _ src => src == 1 || src == 3 || src == 4
  | .camLimit _ cam => below 4 cam
  | .deadmanRestart _ _ => true
  | .limpReqLow _ => true
  | .supplyLowClear _ _ _ => true
  | .canFrameSent _ n => below 4 n
  | .inputSample _ r => readingWf r
  | .sidingVerifyDone _ _ => true
  | .pwmPeriodStart _ c => below 32 c
  | .sensLimit _ _ => true

end Sys2Proof
end

