-- ==== Sys2Proof/Safety.lean ====
section
/-!
DEFINITION. The terms in which claims about the module are stated: what it is for a command to complete, and what a sound state is.
-/

namespace Sys2Proof.Machine

/-- A command completes: the module answers a next state, no fault and no refusal. -/
def Completes (r : Res) (t : State) : Prop := r = .next t

/-- The register space is in its canonical form: addresses rise strictly, and no pair holds the reset value of its address. -/
def State.regsWf (s : State) : Bool := storeWf regDefault 0 s.regs

/-- The latched high halves are in canonical form. -/
def State.latchWf (s : State) : Bool := storeWf (fun _ => 0#32) 0 s.hiLatch

/-- The memories of the Yard bus are in canonical form. -/
def Memory.wf (m : List (Nat × Byte)) : Bool := storeWf (fun _ => 0#8) 0 m

/-- Registers, latched halves and memories are in canonical form: equal contents are equal data. -/
def State.wf (s : State) : Bool := s.regsWf && s.latchWf && Memory.wf s.dma.mem

/-- Every numbered list of the state has as many entries as the module has parts, and the sessions have numbers of R98. -/
def State.sized (s : State) : Bool :=
  s.pk.sessions.all (fun x => sessionNumber x.num) && s.pk.failures.length == 3 && s.load.channels.length == 32 &&
    s.eng.loops.length == 32 && s.fus.streams.length == 20 && s.fus.hmapInForce.length == 128 && s.fn.fns.length == 48 &&
    s.sets.orders.length == 16 && s.nav.sources.length == 3 && s.lvl.fails.length == 8 && s.dma.channels.length == 32 &&
    s.dma.streams.length == 4 && s.can.controls.length == 4 && s.can.controls.all (fun c => c.bufs.length == 3) &&
    s.upd.slots.length == 4 && s.upd.ran.length == 2 && s.upd.booted.length == 2 && s.upd.trialAt.length == 2 &&
    s.upd.healthFrom.length == 2 && s.upd.activatedAt.length == 2 && s.nav.ncos.length == 128 && s.nav.ants.length == 2 &&
    s.nav.engines.length == 16

/-- The state is sound: its stores are in canonical form, and its lists have their sizes. -/
def State.sound (s : State) : Bool := s.wf && s.sized

/-- Every command that waits is well formed. -/
def State.queueWf (s : State) : Bool := s.pending.all Instr.wf

/-- From every state in which a condition holds once the command's instant is reached, the command completes, and P relates that
state to the next one. -/
def Does (c : Nat → Instr) (cond : State → Prop) (P : State → State → Prop) : Prop :=
  ∀ (t : Nat) (s : State), cond (begin_ t s) → ∃ u, exec (c t) s = .next u ∧ P (begin_ t s) u

/-- An event source is raised: its flag is set (R712). -/
def Flagged (src : Nat) (s : State) : Prop := ∃ f, sourceFlag src = some f ∧ s.flag f = true

/-- A loop names no load channel but the 32 that exist, as source, setpoint or sink. -/
def channelsExist (s : State) (n : Nat) : Bool :=
  (s.get (F.CLE_LOOP_SRC_KIND n) != 3 || decide (s.get (F.CLE_LOOP_SRC_INDEX n) < 32)) &&
    (s.get (F.CLE_LOOP_SP_KIND n) != 3 || decide (s.get (F.CLE_LOOP_SP_INDEX n) < 32)) &&
    (s.get (F.CLE_LOOP_SINK_KIND n) != 1 || decide (s.get (F.CLE_LOOP_SINK_INDEX n) < 32))

/-- Steering has been released with a REASON (R537). -/
abbrev Released (reason : Nat) (s : State) : Prop :=
  s.flag F.GNS_STEER_STATUS_ENGAGED = false ∧ s.get F.GNS_STEER_STATUS_REASON = reason ∧ Flagged Src.GNS_STEER_RELEASED s

/-- A cause of release falls due: it releases steering that this module holds engaged, and else leaves the state (R521, R537). -/
abbrev ReleasedIfHeld (reason : Nat) (b u : State) : Prop :=
  (engaged b = true ∧ isRelief b = false → Released reason u ∧ u.nav = b.nav) ∧ (engaged b = false ∨ isRelief b = true → u = b)

/-- A datagram of a TYPE passes the checks of R576 on a module that listens to a consist or belongs to one. -/
abbrev Heard (type : Nat) (d : Bytes) (x : Datagram) (b : State) : Prop :=
  consistOn b = true ∧ cstState b ≠ cstOut ∧ fieldAt d 3 1 = type ∧ (openDatagram d b).2 = some x

/-- SEQ of the next message to a consist: the next number in reserve, or the first of those that are reserved then (R575). -/
def sendSeq (b : State) : Nat := if b.cst.seqNext < b.cst.seqEnd then b.cst.seqNext else b.cst.seqMark

/-- n messages draw their numbers from one reserve: the one that runs, or a whole new one (R575). -/
abbrev seqRoom (b : State) (n : Nat) : Prop := b.cst.seqNext + n ≤ b.cst.seqEnd ∨ (b.cst.seqEnd ≤ b.cst.seqNext ∧ n ≤ 1048576)

/-- Datagrams of a TYPE with payloads, sealed under a key with numbers from a first one on (R571–R575). -/
def datagramsFrom (b : State) (k : ConsistKey) (type consist member : Nat) : Nat → List Bytes → List Emit
  | _, [] => []
  | n, p :: l =>
    .datagram (b.reg Reg.CST_PEER) (b.get F.CST_CFG_UDP_PORT) (sealDatagram k.key type consist member k.keyId (ownUid b) n p) ::
      datagramsFrom b k type consist member (n + 1) l

/-- What has left is messages of a TYPE with payloads, in this order, sealed under the newest key of the consist; a module without a key
of the consist sends nothing (R571–R575, R579). -/
def Sent (type consist member : Nat) (payloads : List Bytes) (b u : State) : Prop :=
  match sendKey b consist with
  | none => u.out = [] ∧ u.cst.seqNext = b.cst.seqNext
  | some k => u.out = datagramsFrom b k type consist member (sendSeq b) payloads ∧
      u.cst.seqNext = (if payloads.isEmpty then b.cst.seqNext else sendSeq b + payloads.length)

/-- The rows that COVERAGE sends in this second: those just covered, then those due again, at most 792 (R586). -/
def coverageRows (b : State) : List (Int × Int × Nat) :=
  (b.cst.rows ++ ((b.cst.again.filter (fun a => decide (a.1 ≤ b.now))).map Prod.snd).filter (fun r => !b.cst.rows.contains r)).take 792

/-- A COVERAGE payload over rows of the open field (R586). -/
def coveragePayload (b : State) (f : Field) (l : List (Int × Int × Nat)) : Bytes :=
  leBytes 4 f.id ++ leBytes 4 (originCrc f) ++ leBytes 1 l.length ++ leBytes 3 0 ++ l.flatMap (rowEntry b)

/-- The CORRECTIONS payloads for accepted frames: the frames of one source in a row, as many as fit 1,196 bytes (R593). -/
def relayPayloads (b : State) : Nat → List (Nat × Bytes) → List Bytes
  | 0, _ => []
  | _, [] => []
  | n + 1, (k, x) :: l =>
    let g := relayGroup k 1196 ((k, x) :: l)
    (leBytes 2 (corrSource b k).base ++ leBytes 1 g.1.length ++ leBytes 1 0 ++ g.1.flatten) :: relayPayloads b n g.2

/-- The rendezvous is over with a REASON (R591). -/
abbrev RdvOver (reason : Nat) (u : State) : Prop :=
  u.cst.rdv = none ∧ u.get F.CST_RDV_RDV_STATE = 0 ∧ u.get F.CST_RDV_PARTNER = 0xFF ∧ u.get F.CST_RDV_REASON = reason ∧
    Flagged Src.CST_RDV_CHANGE u

/-- Every register field that shares no bit with those named reads the same in two states. -/
def FieldsKept (but : List Fld) (s t : State) : Prop :=
  ∀ g : Fld, (∀ f ∈ but, f.addr ≠ g.addr ∨ f.lo + f.width ≤ g.lo ∨ g.lo + g.width ≤ f.lo) → t.get g = s.get g

/-- Every register at another address than those named holds the same word in two states. -/
def RegsKept (but : List Nat) (s t : State) : Prop := ∀ a : Nat, a ∉ but → t.reg a = s.reg a

/-- n registers in a row from an address on, as they read, four bytes each from the least significant on. -/
def registerBytes (s : State) (a n : Nat) : Bytes := (upFrom 0 n).flatMap (fun i => leBytes 4 (readWord s (a + 4 * i)))

/-- A register that is written by storing the word: no register of the map of running gain tables, and none whose write starts
something. -/
def plainRegister (a : Nat) : Bool :=
  (gainReg a).isNone && a != Reg.CLK_GATE && a != Reg.GNS_PPS_DELAY && (indexIn 32 Reg.LSW_CH_CMD a).isNone &&
    (indexIn 32 Reg.CLE_LOOP_CTRL a).isNone && (indexIn 32 Reg.DMA_CH_CTRL a).isNone

/-! ### What the rows of a family leave alone -/

/-- What every row may change beside its own part of the state: registers, the events and faults that it logs, the event queues of
sessions, the running orders that its events trigger, and what it sends. The rest stands as in b. -/
def eventsOnly (b u : State) : State :=
  { b with
    regs := u.regs, ev := u.ev, out := u.out, pk := { b.pk with sessions := u.pk.sessions },
    sets := { b.sets with orders := u.sets.orders } }

/-- Registers outside these blocks hold what they held; the blocks of events, of the logbook and of the DMA rings count what any row
raises. -/
def blocksKept (but : List Block) (b u : State) : Prop :=
  ∀ a : Nat, (∀ k ∈ [Block.EVR, Block.EVT, Block.DMA] ++ but, blockOf a ≠ some k) → u.reg a = b.reg a

/-- The rows of load channels and of the studs. -/
def isLoadRow : Instr → Bool
  | .overCurrentLatch .. | .thermalLatch .. | .retry .. | .retryOk .. | .inrushWindowEnd .. | .openLoadJudgement .. | .studMean ..
  | .supplyLow .. | .supplyLowClear .. | .currentMeasure .. | .senseSelect .. | .limpReqLow .. | .lhInChange ..
  | .pwmPeriodStart .. => true
  | _ => false

/-- The rows of the satellite receiver and of steering, but for the step of device time. -/
def isNavigationRow : Instr → Bool
  | .correlatorDump .. | .acquisitionDone .. | .gnssEpoch .. | .slewEnd .. | .timePulse .. | .antFault .. | .rtcmFrame ..
  | .corrStale .. | .steerCompute .. | .enableFilter .. | .edgeHoldTimeout .. | .fixGraceExpiry .. | .overrideExpiry ..
  | .speedExpiry .. | .blendEnd .. => true
  | _ => false

/-- The rows that take a consist datagram. -/
def isConsistRow : Instr → Bool
  | .heartbeatReceive .. | .coverageReceive .. | .rendezvousReceive .. | .correctionsReceive .. | .leaveReceive .. => true
  | _ => false

/-- The rows of transfers on the Yard bus. -/
def isTransferRow : Instr → Bool
  | .descriptorStart .. | .descriptorComplete .. | .descResubmit .. => true
  | _ => false

/-- The rows of transmission on a CAN controller. -/
def isTransmitRow : Instr → Bool
  | .messageDue .. | .canFrameSent .. | .txError .. | .busOn .. | .addressClaim .. | .rxTimeout .. => true
  | _ => false

/-- The rows in which no request is carried out that a packet brings: all but the packets themselves, the service of those that
wait, and the frames of the Line and of CAN that bring one. -/
def bringsNoRequest (c : Instr) : Bool :=
  isLoadRow c || isNavigationRow c || isConsistRow c || isTransferRow c || isTransmitRow c ||
    match c with
    | .powerUp .. | .powerFail .. | .wake .. | .sleepEntry .. | .signalDieRestart .. | .yardDieRestart .. | .outputReclaim ..
    | .yardDieBack .. | .throwSwap .. | .lateThrow .. | .takeover .. | .handover .. | .cycleBoundary .. | .orderStep ..
    | .limpReq .. | .registerWrite .. => true
    | _ => false

/-! ### Load channels -/

/-- A load channel is as it was: what it holds, and its eight registers. -/
abbrev channelKept (c : Nat) (b u : State) : Prop :=
  chan u c = chan b c ∧ ∀ i, i < 8 → u.reg (Reg.LSW_CH_CFG c + 4 * i) = b.reg (Reg.LSW_CH_CFG c + 4 * i)

/-- Every load channel but one is as it was. -/
abbrev otherChannelsKept (c : Nat) (b u : State) : Prop := ∀ k, k < 32 → k ≠ c → channelKept k b u

/-- The registers of a happening on a channel: its last measured current and junction, 0.1 °C. -/
abbrev Measured (c : Nat) (current tj : Int) (u : State) : Prop :=
  u.gets (F.LSW_CH_CURR_CURR c) = satS (F.LSW_CH_CURR_CURR c).width current ∧
    u.gets (F.LSW_CH_TJ_TJ c) = satS (F.LSW_CH_TJ_TJ c).width tj

/-- A channel has latched with a cause, and its hardware has classified the latch (R455, R456, R468): in limp mode it is noted, in the
window of a retry the channel is sided, and else the retry is set. -/
abbrev HasLatched (c cause : Nat) (b u : State) : Prop :=
  (chan u c).output = false ∧ u.flag (F.LSW_CH_STAT_INRUSH c) = false ∧ u.get (F.LSW_CH_STAT_CAUSE c) = cause ∧
    u.get (F.LSW_CH_CNT_LATCHES c) = satN (F.LSW_CH_CNT_LATCHES c).width (b.get (F.LSW_CH_CNT_LATCHES c) + 1) ∧
    u.get (F.LSW_CH_CMD_STATE c) = b.get (F.LSW_CH_CMD_STATE c) ∧
    if inLimp b then
      u.get (F.LSW_CH_STAT_CSTATE c) = cLimp ∧ (chan u c).limpLatched = true ∧ (chan u c).retryAt = (chan b c).retryAt
    else if b.flag (F.LSW_CH_STAT_WINDOW c) then
      u.get (F.LSW_CH_STAT_CSTATE c) = cSided ∧ u.flag (F.LSW_CH_STAT_WINDOW c) = false ∧ channelSided u c = true ∧
        u.get F.LSW_EVT_CH_CH = c ∧ Flagged Src.LSW_SIDED u
    else
      u.get (F.LSW_CH_STAT_CSTATE c) = cLatched ∧
        (chan u c).retryAt = some (b.now + b.get (F.LSW_CH_TIME_RETRY_DLY c) * ms) ∧ u.get F.LSW_EVT_CH_CH = c ∧
        Flagged Src.LSW_LATCH u

/-- A channel has latched in the access cycle of an off command: the retry is cancelled, and the channel is OFF (R457, R461). -/
abbrev LatchCancelled (c cause : Nat) (b u : State) : Prop :=
  (chan u c).output = false ∧ u.get (F.LSW_CH_STAT_CSTATE c) = cOff ∧ u.get (F.LSW_CH_CMD_STATE c) = 0 ∧
    (chan u c).retryAt = none ∧ u.get (F.LSW_CH_STAT_CAUSE c) = cause ∧
    u.get (F.LSW_CH_CNT_LATCHES c) = satN (F.LSW_CH_CNT_LATCHES c).width (b.get (F.LSW_CH_CNT_LATCHES c) + 1) ∧
    u.get F.LSW_EVT_CH_CH = c ∧ Flagged Src.LSW_LATCH u ∧ Flagged Src.LSW_RETRY_CANCELLED u

/-- The voltage of a stud and its flag of low supply, true for LOAD_B. -/
abbrev studVolt (d : Bool) : Fld := if d then F.LSW_SUPPLY_VOLT_B else F.LSW_SUPPLY_VOLT_A
abbrev studLow (d : Bool) : Fld := if d then F.LSW_SUPPLY_SUPPLY_LOW_B else F.LSW_SUPPLY_SUPPLY_LOW_A

/-- A stud's voltage in mV falls below 6.0 V: its flag is set, the other stud's stands, and SUPPLY_LOW is raised (R441). -/
abbrev SupplyFalls (d : Bool) (mv : Nat) (b u : State) : Prop :=
  u.flag (studLow d) = true ∧ u.get (studVolt d) = satU 14 (roundDiv mv 5) ∧ u.get (studLow !d) = b.get (studLow !d) ∧
    u.get (studVolt !d) = b.get (studVolt !d) ∧ u.load = b.load ∧ Flagged Src.LSW_SUPPLY_LOW u

/-- A stud's voltage stays below 6.0 V: only the reading changes, and is gathered for its histogram (R441, R723). -/
abbrev SupplyStaysLow (d : Bool) (mv : Nat) (b u : State) : Prop :=
  u = { b with regs := u.regs, ev := (gather (if d then 5 else 4) mv b).ev } ∧ u.get (studVolt d) = satU 14 (roundDiv mv 5) ∧
    FieldsKept [studVolt d] b u

/-- A stud's voltage is 6.0 V or more: its flag is clear, and the open-load judgement of its channels begins anew where the flag held it up
(R441, R459, R460). -/
abbrev SupplyHolds (d : Bool) (mv : Nat) (b u : State) : Prop :=
  u = { b with regs := u.regs, ev := (gather (if d then 5 else 4) mv b).ev, load := u.load } ∧ u.flag (studLow d) = false ∧
    u.get (studVolt d) = satU 14 (roundDiv mv 5) ∧ FieldsKept [studVolt d, studLow d] b u ∧
    u.load = { b.load with channels := u.load.channels } ∧
    ∀ c, c < 32 → chan u c =
      (if openLoadJudged u c && !openLoadJudged b c then { chan b c with judgedFrom := b.now } else chan b c)

/-! ### Satellite navigation and steering -/

/-- The fields of an antenna: its bias current, and open and short (R493). -/
abbrev antCur (antB : Bool) : Fld := if antB then F.GNS_ANT_STAT_CUR_B else F.GNS_ANT_STAT_CUR_A
abbrev antOpen (antB : Bool) : Fld := if antB then F.GNS_ANT_STAT_OPEN_B else F.GNS_ANT_STAT_OPEN_A
abbrev antShort (antB : Bool) : Fld := if antB then F.GNS_ANT_STAT_SHORT_B else F.GNS_ANT_STAT_SHORT_A

/-- The three registers of a tracking channel are as they were. -/
abbrev trackKept (n : Nat) (b u : State) : Prop :=
  u.reg (Reg.GNS_CH_SIG n) = b.reg (Reg.GNS_CH_SIG n) ∧ u.reg (Reg.GNS_CH_DOP n) = b.reg (Reg.GNS_CH_DOP n) ∧
    u.reg (Reg.GNS_CH_LOCK n) = b.reg (Reg.GNS_CH_LOCK n)

/-- A channel goes on holding the lock that it had: the same signal of the same satellite, no slip and no false lock (R498). -/
abbrev lockGoesOn (b : State) (x : ChannelDump) : Bool :=
  x.state == 3#3 && b.get (F.GNS_CH_SIG_STATE x.chan) == 3 && !x.slip && b.get (F.GNS_CH_SIG_SV x.chan) == x.sv.toNat &&
    b.get (F.GNS_CH_SIG_SIG x.chan) == x.sig.toNat && !falseLock x.sig.toNat x.corr

/-- A tracking channel is as firmware found and set it at a dump (R497, R498, R548). -/
abbrev Dumped (x : ChannelDump) (b u : State) : Prop :=
  u.get (F.GNS_CH_SIG_SIG x.chan) = x.sig.toNat ∧ u.get (F.GNS_CH_SIG_SV x.chan) = x.sv.toNat ∧
    u.flag (F.GNS_CH_SIG_ANT x.chan) = x.antB ∧ u.get (F.GNS_CH_SIG_STATE x.chan) = x.state.toNat ∧
    u.get (F.GNS_CH_SIG_CN0 x.chan) = x.cn0.toNat ∧ u.flag (F.GNS_CH_SIG_SLIP x.chan) = x.slip ∧
    u.gets (F.GNS_CH_DOP_DOPPLER x.chan) = satS 32 x.doppler ∧
    u.get (F.GNS_CH_LOCK_LOCK_MS x.chan) = (if lockGoesOn b x then satN 32 (b.get (F.GNS_CH_LOCK_LOCK_MS x.chan) + 1) else 0) ∧
    nth u.nav.ncos x.chan {} = ({ codePhase := x.codePhase, carrierPhase := x.carrierPhase, frequency := x.frequency,
                                  corr := x.corr.take 5 } : Nco)

/-- The stream of a correction source holds a whole frame at its first preamble, and more after it; the frame's bytes but for its CRC are
the header and the message (R504). -/
abbrev Framed (k : Nat) (frame msg rest : Bytes) (b : State) : Prop :=
  let l := toPreamble (corrSource b k).buffer
  let n := beNat ((l.drop 1).take 2) % 1024
  3 ≤ l.length ∧ n + 6 ≤ l.length ∧ frame = l.take (n + 6) ∧ msg = (l.drop 3).take n ∧ rest = l.drop (n + 6)

/-- The CRC of a framed message is right (R504). -/
abbrev frameChecks (frame : Bytes) : Prop := crc24q (frame.take (frame.length - 3)) = beNat (frame.drop (frame.length - 3))

/-- An accepted frame is to be relayed to the consist (R593). -/
abbrev isRelayed (k : Nat) (b : State) : Bool :=
  k != 2 && isTerminus b && b.flag F.CST_CFG_RELAY_TX && b.get F.CST_STATUS_STATE == 2

/-- A frame has left the stream of its source, and waits for the consist where it is to be relayed there. -/
abbrev FrameTaken (k : Nat) (frame rest : Bytes) (b u : State) : Prop :=
  (corrSource u k).buffer = rest ∧ u.nav.relay = b.nav.relay ++ (if isRelayed k b then [(k, frame)] else [])

/-- The navigation state as propagated to a computation of the steering law that is due (R501, R532). -/
def steerState (x : NavPoint) (b : State) : State :=
  overrideWatch (propagate x { b with nav := { b.nav with steerAt := some (deviceTime b) } })

/-- The same with the lateral shift of a guidance moved on (R529). -/
def steerShifted (x : NavPoint) (g : Guidance) (b : State) : State :=
  let s := steerState x b
  { s with nav := { s.nav with shiftNow := shiftStep g s.nav.shiftNow } }

/-! ### Frames of the Line -/

/-- A best-effort frame of so many blocks leaves a port at once: nothing leaves or waits there, the window is open, and the frame ends
within the cycle
(R152, R158, R159, R179). Times are in units of 0.2 ns. -/
abbrev LeavesNow (b : State) (east : Bool) (len : Nat) : Prop :=
  portOpen b east = true ∧ portBusy b east = [] ∧ inBestEffort b = true ∧ 5 * inCycle b + duration5 len < 5 * ms

/-- No request CHECK is owed on a port, or it has left in this cycle (R200). -/
abbrev NoCheckOwed (b : State) (east : Bool) : Prop := (port b east).pendingErr = false ∨ doneNow b 4 = true

/-- A reserved frame that R172 accepts: whole, of the present cycle and set, the first copy in it. -/
abbrev FreshFrame (b : State) (east : Bool) (f : LineFrame) : Prop :=
  portOpen b east = true ∧ frameGood f = true ∧ f.cycle.toNat = b.get F.LIN_CYCLE_CYCLE ∧ f.setId.toNat = ownSetId b ∧
    b.line.seen.contains f.entry.toNat = false ∧ srcIsOwn b f.src.toNat = false

/-! ### Requests -/

/-- The SEQUENCE of a request lies ahead of the highest that its session has seen (R110). -/
def newSequence (x : Session) (p : Request) : Bool :=
  let d := (p.sequence.toNat + 4294967296 - x.h) % 4294967296
  d != 0 && decide (d < 2147483648)

/-- A packet is whole and is meant for this module, in the order of R110: its transport takes requests, it came in one datagram
(R89), its length, MAGIC and trailer are right, and it is no forwarded request that another module is to execute. -/
def wholeHere (op : Nat) (p : Request) (s : State) : Bool :=
  transportOpen s p.via && !p.fragmented && p.paramLen.toNat == p.params.length && decide (p.paramLen.toNat ≤ 1400) && p.magic.toNat == 0x5A47 &&
    crcGood op p && !foreignForward s p

/-- A packet of an opcode other than HELLO and SESSION_OPEN passes R110 up to its sequence: it is whole, of VERSION 1, comes
from a host of this module in an open session, is authentic and new, and no refusal with a retry-after holds it off. -/
def authentic (op : Nat) (p : Request) (x : Session) (s : State) : Bool :=
  wholeHere op p s && p.version.toNat == 1 && !forwardedIn p && decide (2 < op) && x.isOpen && !x.key.isEmpty &&
    tagOf x.key (requestBytes op p 0) == p.auth.toNat && !(isRelief s && decide (p.session.toNat ≤ 12)) &&
    newSequence x p && (heldOff s op p).isNone

/-- A request passes every check of R110 and executes at once on this module: it is authentic, at a level that its opcode
allows, with a target that is this module and a right PARAM_LEN; the die that it needs is in service and nothing waits before it (R46,
R65, R117), and the ring of its session has a place for it, where it needs one (R121, R122). -/
def acceptable (op : Nat) (p : Request) (s : State) : Bool :=
  match opTable op, findSession s p.session.toNat with
  | some info, some x =>
    authentic op p x s && decide (info.level ≤ x.level) && placeOf s op info.bcast p == .here && info.lenOk p.params &&
      !mustQueue info (takeReserved op p s).1 p s && ((takeReserved op p s).1 || op == 0x0007 || !ringFull s p)
  | _, _ => false

/-- The hypotheses under which HELLO and SESSION_OPEN execute here for a host on the HOST port. -/
def opensHere (op : Nat) (p : Request) (s : State) : Prop :=
  wholeHere op p s = true ∧ forwardedIn p = false ∧ placeOf s op false p = .here ∧ signalReady s = true ∧
    s.pk.waiting.any (waitsForSignal (throwBusy s)) = false ∧ heldOff s op p = none ∧
    (isRelief s = true → 1 ≤ p.session.toNat → 12 < p.session.toNat) ∧ s.upd.restartDue = [] ∧ ∃ ip port, p.via = .host ip port

/-- The reply of a request leaves, or waits for the mirror where R118 asks it of the session it concerns. -/
def Replied (op session : Nat) (p : Request) (r : Reply) (b u : State) : Prop :=
  if mirrorHolds op { p with session := BitVec.ofNat 16 session } b = true then ∃ w ∈ u.pk.waiting, w.req = p ∧ w.job = .mirror r
  else .packet p.via r ∈ u.out

/-- What the examination of an accepted request changes: the packet counter, the budget of R122, and its session, which takes the
SEQUENCE, the instant and the transport of the packet (R88, R107, R110). -/
def Admitted (p : Request) (s s1 : State) : Prop :=
  s1 = { s with pk := { s.pk with
    sessions := s1.pk.sessions, reservedUse := s1.pk.reservedUse, received := (s.pk.received + 1) % 4294967296 } } ∧
  ∃ x y, findSession s p.session.toNat = some x ∧ findSession s1 p.session.toNat = some y ∧
    y = { x with h := p.sequence.toNat, seen := y.seen, records := y.records, lastAuth := s.now, via := p.via }

/-- A request is carried out: the command completes in the state that its reply, its record and what falls due with it leave of an
answer, and the answer is as P says for the state in which the request was admitted. -/
def Served (c : Instr) (op : Nat) (p : Request) (t : Nat) (s : State) (P : State → Answer → Prop) : Prop :=
  ∃ (s1 : State) (reserved : Bool) (a : Answer),
    Admitted p (begin_ t s) s1 ∧ exec c s = .next (settle (concludeRun reserved false op p a)) ∧ P s1 a

/-- Every request of an opcode that passes R110 and meets a condition is carried out so. -/
def Serves (c : Nat → Request → Instr) (op : Nat) (cond : Request → State → Prop) (P : Request → State → Answer → Prop) : Prop :=
  ∀ (t : Nat) (p : Request) (s : State), acceptable op p (begin_ t s) = true → cond p (begin_ t s) → Served (c t p) op p t s (P p)

/-- No condition beyond R110. -/
def anyRequest (_ : Request) (_ : State) : Prop := True

/-- The answer leaves the state as it is and reports OK with a result. -/
def Reports (result : Request → State → Bytes) (p : Request) (s : State) (a : Answer) : Prop := a = ok s (result p s)

end Sys2Proof.Machine
end

