-- ==== Sys2Proof/Certificates/Slice0/Obligations.lean ====
section
/-!
DEFINITION. The statements of this model for the provers.
-/

open Sys2Proof Sys2Proof.Machine

/-! ### Packets and sessions -/

/-- Every request that passes R110 and executes on this module is carried out: its opcode's answer is concluded in the state in
which it was admitted. -/
def Obligations.AcceptedRequestIsServed : Prop :=
  ∀ (op : Nat) (info : OpInfo) (p : Request) (s : State), opTable op = some info → acceptable op p s = true →
    ∃ (s1 : State) (reserved : Bool), Admitted p s s1 ∧
      examine op p s = settle (concludeRun reserved false op p (info.run p s1))

/-- The discards of R110, in its order: a packet that is not whole is counted and has no other effect. -/
def Obligations.BadPacketIsCounted : Prop :=
  ∀ (op : Nat) (p : Request) (s : State), transportOpen s p.via = true → p.fragmented = false → isArming op p = false →
    s.upd.restartDue = [] →
    let got : PacketPart := { s.pk with received := (s.pk.received + 1) % 4294967296 }
    (p.paramLen.toNat ≠ p.params.length ∨ 1400 < p.paramLen.toNat →
      examine op p s = { s with pk := { got with badLength := (s.pk.badLength + 1) % 4294967296 } }) ∧
    (p.paramLen.toNat = p.params.length → p.paramLen.toNat ≤ 1400 → p.magic.toNat ≠ 0x5A47 →
      examine op p s = { s with pk := { got with badMagic := (s.pk.badMagic + 1) % 4294967296 } }) ∧
    (p.paramLen.toNat = p.params.length → p.paramLen.toNat ≤ 1400 → p.magic.toNat = 0x5A47 → crcGood op p = false →
      examine op p s = { s with pk := { got with badCrc := (s.pk.badCrc + 1) % 4294967296 } })

/-- R109: without an open session the answer is NO_SESSION; with a wrong AUTH a packet is counted and has no other effect, so nothing
answers it. On the relief terminus, sessions 1–12 are those of the mirror. -/
def Obligations.SessionAndAuthAreChecked : Prop :=
  ∀ (op : Nat) (p : Request) (s : State), wholeHere op p s = true → isArming op p = false → s.upd.restartDue = [] →
    p.version.toNat = 1 → forwardedIn p = false → op ≠ 0x0001 → op ≠ 0x0002 →
    let got : PacketPart := { s.pk with received := (s.pk.received + 1) % 4294967296 }
    ((∀ x, heldSession s p.session.toNat = some x → x.isOpen = false) →
      examine op p s = answerNow op p St.noSession 0 { s with pk := got }) ∧
    (∀ x, heldSession s p.session.toNat = some x → x.isOpen = true → x.key.isEmpty = false →
      tagOf x.key (requestBytes op p 0) ≠ p.auth.toNat →
      examine op p s = { s with pk := { got with badAuth := (s.pk.badAuth + 1) % 4294967296 } })

/-- HELLO answers OK with the identity of the module; phase 1 of SESSION_OPEN reserves a free number for 5 s with a level, and
phase 2 with the right proof opens it (R100–R103, R131). A request with opcode EVENT meets BAD_OPCODE (R130). -/
def Obligations.OpeningRequests : Prop :=
  (∀ (t : Nat) (p : Request) (s : State), opensHere 0x0001 p (begin_ t s) → p.params = [] →
    ∃ u r, exec (.hello t p) s = .next u ∧ u.out = [.packet p.via r] ∧ r.status = St.ok ∧ r.sequence = p.sequence.toNat ∧
      r.result = leBytes 4 (s.reg Reg.IDR_PART) ++ leBytes 1 (s.reg Reg.IDR_PKT_REV) ++ leBytes 1 (s.get F.IDR_ROLE_CUR_ROLE) ++
        leBytes 1 (joinNum s) ++ leBytes 1 0 ++ leBytes 8 (ownUid s) ++ leBytes 4 (s.reg Reg.IDR_SIG_FW) ++
        leBytes 4 (s.reg Reg.IDR_YARD_FW) ++ leBytes 4 (s.reg Reg.IDR_LINE_REV)) ∧
  (∀ (t : Nat) (p : Request) (s : State) (l n : Nat), opensHere 0x0002 p (begin_ t s) → p.version.toNat = 1 → p.params.length = 20 →
    fieldAt p.params 0 1 = 1 → p.session.toNat = 0 → fieldAt p.params 1 1 = l → 1 ≤ l → l ≤ 3 → lockout (begin_ t s) l = 0 →
    (dropPending (begin_ t s)).pk.sessions.find? (fun x => (openRange s p.via).contains x.num && x.level == l &&
      x.hostNonce == (p.params.drop 4).take 16) = none →
    (openRange s p.via).find? (fun k => (findSession (dropPending (begin_ t s)) k).isNone) = some n →
    ∃ u r x, exec (.sessionOpen t p) s = .next u ∧ Replied 0x0002 n p r (begin_ t s) u ∧ r.status = St.ok ∧
      r.result = leBytes 2 n ++ leBytes 2 0 ++ leBytes 16 (Config.moduleNonce s.drawn).toNat ++ leBytes 8 (ownUid s) ∧
      findSession u n = some x ∧ x.isOpen = false ∧ x.level = l ∧ x.hostNonce = (p.params.drop 4).take 16 ∧
      x.openBy = max s.now t + 5 * sec) ∧
  (∀ (t : Nat) (p : Request) (s : State) (x : Session), opensHere 0x0002 p (begin_ t s) → p.version.toNat = 1 → p.params.length = 36 →
    fieldAt p.params 0 1 = 2 → 1 ≤ p.session.toNat → findSession s p.session.toNat = some x → x.isOpen = false → max s.now t < x.openBy →
    fieldAt p.params 1 1 = x.level → (p.params.drop 4).take 32 = proofOf labelHost s x →
    ∃ u r y, exec (.sessionOpen t p) s = .next u ∧ Replied 0x0002 p.session.toNat p r (begin_ t s) u ∧ r.status = St.ok ∧ r.result = proofOf labelMod s x ∧
      findSession u x.num = some y ∧ y.isOpen = true ∧ y.level = x.level ∧ y.key = proofOf labelKey s x ∧ y.h = 0) ∧
  (∀ (t : Nat) (p : Request) (s : State) (x : Session), findSession s p.session.toNat = some x → authentic 0x0F00 p x (begin_ t s) = true →
    s.upd.restartDue = [] → (∃ ip port, p.via = .host ip port) →
    ∃ u r, exec (.event t p) s = .next u ∧ u.out = [.packet p.via r] ∧ r.status = St.badOpcode ∧ r.admitted = 2)

/-- The session opcodes (R104, R107, R108, R125, R130). -/
def Obligations.SessionRequests : Prop :=
  Serves .identify 0x0005 anyRequest (Reports fun _ s => (upFrom 0 16).flatMap (fun i => leBytes 4 (readWord s (4 * i)))) ∧
  Serves .sessionKeep 0x0004 anyRequest (Reports fun _ _ => []) ∧
  (∀ (t : Nat) (p : Request) (s : State), acceptable 0x0003 p (begin_ t s) = true → s.upd.restartDue = [] →
    ∃ u, exec (.sessionClose t p) s = .next u ∧ findSession u p.session.toNat = none) ∧
  Serves .sessionKeySet 0x0006 (fun p _ => 1 ≤ fieldAt p.params 0 1 ∧ fieldAt p.params 0 1 ≤ 3)
    (fun p s a => a.status = St.ok ∧ nth a.st.pk.levelKeys (fieldAt p.params 0 1 - 1) [] = newKey p s ∧
      ∀ k, k < 3 → k ≠ fieldAt p.params 0 1 - 1 → nth a.st.pk.levelKeys k [] = nth s.pk.levelKeys k []) ∧
  Serves .requestCancel 0x0007
    (fun p s => s.pk.waiting.find? (fun w => isWaitingFor p.session.toNat (fieldAt p.params 0 4) w && w.job == .queued) = none)
    (fun _ s a => a = refuse s St.notCancelled) ∧
  (∀ w, Serves .requestCancel 0x0007
    (fun p s => s.pk.waiting.find? (fun x => isWaitingFor p.session.toNat (fieldAt p.params 0 4) x && x.job == .queued) = some w)
    (fun _ s a => a = ok (completeWaiting w (joinNum s) St.cancelled 0 [] s) [])) ∧
  Serves .eventSubscribe 0x0F01 (fun p s => s.regsWf = true ∧ 1 ≤ p.session.toNat ∧ p.session.toNat ≤ 16)
    (fun p _ a => a.status = St.ok ∧ a.result = p.params.take 16 ∧
      ∀ w, w < 4 → a.st.reg (Reg.EVT_SUB (p.session.toNat - 1) w) = fieldAt p.params (4 * w) 4) ∧
  Serves .echo 0x0F02 anyRequest (Reports fun p _ => p.params) ∧
  Serves .countersRead 0x0F03 anyRequest (Reports fun _ s =>
    [s.pk.received, s.pk.replied, s.pk.badLength, s.pk.badMagic, s.pk.badCrc, s.pk.badAuth, s.pk.authFailed,
      s.pk.fwdTimeouts].flatMap (leBytes 4))

/-- The register and table opcodes, the block locks (R134–R140, R832), and the module's own register writes (R26): one that passes its
checks is made. A register whose write starts nothing takes the masked bits of its writable fields, and its W1C bits that are written as
1 read 0. -/
def Obligations.RegisterAccess : Prop :=
  Serves .regRead 0x0100 (fun p s => checkReads s (regAddrs 4 p.params) = St.ok)
    (fun p s a => a.status = St.ok ∧ a.st.regs = s.regs ∧ a.result.length = 4 * fieldAt p.params 0 2 ∧
      a.st = (readAll (regAddrs 4 p.params) s).2 ∧
      ∀ k, k < fieldAt p.params 0 2 → (a.result.drop (4 * k)).take 4 =
        leBytes 4 (readWord (readAll ((regAddrs 4 p.params).take k) s).2 (nth (regAddrs 4 p.params) k 0))) ∧
  Serves .regWrite 0x0101 (fun p s => checkAll s p.session.toNat (regWrites p.params) = St.ok)
    (fun p s a => a = ok (writeAll (regWrites p.params) s) []) ∧
  Serves .regModify 0x0102 (fun p s => checkAll s p.session.toNat (regModifies p.params) = St.ok)
    (fun p s a => a.status = St.ok ∧ a.st = writeAll (regModifies p.params) s ∧ a.result.length = 4 * fieldAt p.params 0 2 ∧
      ∀ k w, k < fieldAt p.params 0 2 → (regModifies p.params)[k]? = some w → (a.result.drop (4 * k)).take 4 =
        leBytes 4 (readWord (writeAll ((regModifies p.params).take k) s) w.addr)) ∧
  Serves .tableInfo 0x0103 (fun p _ => (tableOf (fieldAt p.params 0 2)).isSome = true)
    (fun p s a => ∀ size count, tableOf (fieldAt p.params 0 2) = some (size, count) → a = ok s (leBytes 2 size ++ leBytes 2 count)) ∧
  (∀ size total, Serves .tableRead 0x0104
    (fun p s => tableOf (fieldAt p.params 0 2) = some (size, total) ∧ (fieldAt p.params 2 1 ≤ 1 ∨ tableKind (fieldAt p.params 0 2) = 0x0B) ∧
      fieldAt p.params 6 2 * size ≤ 1400 ∧ fieldAt p.params 4 2 + fieldAt p.params 6 2 ≤ total ∧ (tableBytes s (fieldAt p.params 0 2) (fieldAt p.params 2 1 = 1)).isSome = true)
    (fun p s a => a.result.length = fieldAt p.params 6 2 * size ∧
      ∀ b, tableBytes s (fieldAt p.params 0 2) (fieldAt p.params 2 1 = 1) = some b →
        let there := (b.drop (fieldAt p.params 4 2 * size)).take (fieldAt p.params 6 2 * size)
        a = ok s (there ++ List.replicate (fieldAt p.params 6 2 * size - there.length) (tableFill (fieldAt p.params 0 2))))) ∧
  (∀ size total c, Serves .tableWrite 0x0105
    (fun p s => tableOf (fieldAt p.params 0 2) = some (size, total) ∧ fieldAt p.params 2 1 = 1 ∧ tableKind (fieldAt p.params 0 2) ≠ 3 ∧
      tableKind (fieldAt p.params 0 2) ≠ 0x0B ∧ fieldAt p.params 6 2 * size ≤ 1392 ∧ fieldAt p.params 4 2 + fieldAt p.params 6 2 ≤ total ∧
      (p.params.drop 8).length = fieldAt p.params 6 2 * size ∧ throwBars s = false ∧
      sidingForChange s = some c ∧ (findSection c (tableKind (fieldAt p.params 0 2)) (tableInst (fieldAt p.params 0 2))).isSome = true)
    (fun p s a => a = ok (putSiding (containerWrite c (tableKind (fieldAt p.params 0 2)) (tableInst (fieldAt p.params 0 2)) (fieldAt p.params 4 2 * size)
        (tableFill (fieldAt p.params 0 2)) (p.params.drop 8)) s) [])) ∧
  (∀ size total n, Serves .tableWrite 0x0105
    (fun p s => tableOf (fieldAt p.params 0 2) = some (size, total) ∧ fieldAt p.params 2 1 = 0 ∧ tableKind (fieldAt p.params 0 2) = 4 ∧
      tableInst (fieldAt p.params 0 2) = n ∧ fieldAt p.params 6 2 * size ≤ 1392 ∧ fieldAt p.params 4 2 + fieldAt p.params 6 2 ≤ total ∧
      (p.params.drop 8).length = fieldAt p.params 6 2 * size ∧ (containerTable s.sets.running 4 n).isSome = true ∧ loopState s n = lOpen)
    (fun p s a => a = ok { s with eng := { s.eng with
      gainEdits := putNum s.eng.gainEdits n (putAt (runningGains s n) (fieldAt p.params 4 2 * size) (p.params.drop 8)) } } [])) ∧
  Serves .blockUnlock 0x0106 (fun p _ => fieldAt p.params 0 2 ≤ 16)
    (fun p _ a => a.status = St.ok ∧ a.result = [] ∧ ∃ x, findSession a.st p.session.toNat = some x ∧
      ∀ now, unlockedBy x (fieldAt p.params 0 2) now = decide (now < a.st.now + 300 * sec)) ∧
  Serves .blockLock 0x0107 (fun p _ => fieldAt p.params 0 2 ≤ 16)
    (fun p _ a => a.status = St.ok ∧ ∃ x, findSession a.st p.session.toNat = some x ∧
      ∀ now, unlockedBy x (fieldAt p.params 0 2) now = false) ∧
  (∀ (t : Nat) (a mask v : BitVec 32) (s : State),
    (if regOnSignal a.toNat then s.die.sigUp else s.die.yardUp) = true →
    checkWrite (begin_ t s) 0 { addr := a.toNat, mask := mask.toNat, value := v.toNat } = St.ok →
    exec (.registerWrite t a mask v) s = .next (writeOne { addr := a.toNat, mask := mask.toNat, value := v.toNat } (begin_ t s))) ∧
  (∀ (s : State) (w : RegWrite), s.regsWf = true → plainRegister w.addr = true → w.mask < 4294967296 → w.value < 4294967296 →
    maskIn w .RWS = 0 →
    (writeOne w s).reg w.addr = mergeBits (s.reg w.addr - Nat.land (s.reg w.addr) (Nat.land (maskIn w .W1C) w.value))
      (Nat.lor (Nat.lor (maskIn w .RW) (maskIn w .RWL)) (maskIn w .WO)) w.value ∧
    RegsKept [w.addr] s (writeOne w s)) ∧
  (∀ (s : State) (mask v : Nat), s.regsWf = true → mask < 4294967296 → v < 4294967296 →
    (writeOne { addr := Reg.EVT_MASK 0, mask := mask, value := v } s).reg (Reg.EVT_MASK 0) =
      mergeBits (s.reg (Reg.EVT_MASK 0)) mask v ∧
    RegsKept [Reg.EVT_MASK 0] s (writeOne { addr := Reg.EVT_MASK 0, mask := mask, value := v } s)) ∧
  (∀ (s : State) (mask v : Nat), s.regsWf = true → v < 4294967296 →
    (writeOne { addr := Reg.CFG_EVT, mask := mask, value := v } s).reg (Reg.CFG_EVT) =
      s.reg Reg.CFG_EVT - Nat.land (s.reg Reg.CFG_EVT) (Nat.land (Nat.land mask (regMask (fun x => x == .W1C) Reg.CFG_EVT)) v))

/-! ### Requests of the families -/

/-- The requests of the siding set and of the throw (R233, R237, R239, R243, R273). -/
def Obligations.SetRequests : Prop :=
  Serves .sidingLoad 0x0200 (fun p s => throwBars s = false ∧ fieldAt p.params 0 4 = 0 ∧ opensLoad s (p.params.drop 4) = true ∧
      8 ≤ (p.params.drop 4).length ∧ 64 ≤ fieldAt p.params 8 4 ∧ fieldAt p.params 8 4 ≤ 67108864 ∧
      (p.params.drop 4).length ≤ fieldAt p.params 8 4 ∧ s.regsWf = true)
    (fun p _ a => a.status = St.ok ∧ a.result = [] ∧ sidingState a.st = sLoaded ∧ a.st.get F.CFG_SIDING_CRC_CRC = 0 ∧
      a.st.sets.siding = some (cWrite (freshContainer (fieldAt p.params 8 4)) 0 (p.params.drop 4))) ∧
  (∀ c, Serves .sidingLoad 0x0200 (fun p s => throwBars s = false ∧ ¬ (fieldAt p.params 0 4 = 0 ∧ opensLoad s (p.params.drop 4) = true) ∧
      sidingState s ≠ sEmpty ∧ s.sets.siding = some c ∧ fieldAt p.params 0 4 + (p.params.drop 4).length ≤ c.total)
    (fun p s a => a = ok (putSiding (cWrite c (fieldAt p.params 0 4) (p.params.drop 4)) s) [])) ∧
  Serves .sidingClear 0x0203 (fun _ s => throwBars s = false ∧ s.regsWf = true)
    (fun _ _ a => a.status = St.ok ∧ sidingState a.st = sEmpty ∧ a.st.get F.CFG_SIDING_CRC_CRC = 0 ∧ a.st.sets.siding = none) ∧
  Serves .sidingVerify 0x0201 (fun p s => throwBars s = false ∧ crc32c (p.params.drop 8) = fieldAt p.params 0 4)
    (fun _ s a => a = { st := s, status := St.queued, job := some .verify }) ∧
  Serves .pointsThrow 0x0202 (fun p s => s.get F.CFG_RUN_CRC_CRC = fieldAt p.params 0 4 ∧ s.flag F.CFG_STATE_RUNNING = true)
    (Reports fun _ _ => []) ∧
  Serves .pointsThrow 0x0202 (fun p s => ¬ (s.get F.CFG_RUN_CRC_CRC = fieldAt p.params 0 4 ∧ s.flag F.CFG_STATE_RUNNING = true) ∧
      throwBusy s = true)
    (fun _ s a => a = { st := s, status := St.queued, job := some .queued }) ∧
  Serves .pointsThrow 0x0202 (fun p s => ¬ (s.get F.CFG_RUN_CRC_CRC = fieldAt p.params 0 4 ∧ s.flag F.CFG_STATE_RUNNING = true) ∧
      throwBusy s = false ∧
      sidingReady s (fieldAt p.params 0 4) = true ∧ s.regsWf = true)
    (fun p s a => a.status = St.queued ∧
      a.job = some (.throwing ((cycle32 s + s.get F.CFG_LEAD_THROW_LEAD) % 4294967296)) ∧ sidingState a.st = sArmed ∧
      ∃ th, a.st.sets.throw = some th ∧ th.cycle = (cycle32 s + s.get F.CFG_LEAD_THROW_LEAD) % 4294967296 ∧
        th.crc = fieldAt p.params 0 4 ∧ th.armedOk = [joinNum s]) ∧
  Serves .setInfo 0x0204 anyRequest (Reports fun _ s =>
    (upFrom 0 12).flatMap (fun i => leBytes 4 ((setOverlay s (Reg.CFG_STATE + 4 * i)).getD (s.reg (Reg.CFG_STATE + 4 * i)))))

/-- The requests of the load channels and of the limp map (R445, R446, R458, R474, R475, R487). -/
def Obligations.LoadRequests : Prop :=
  Serves .loadSet 0x0300 (fun p s => loadRefusal s ((upFrom 0 (fieldAt p.params 0 1)).map (loadEntry p.params)) = none)
    (fun p s a => a = ok (loadExecute ((upFrom 0 (fieldAt p.params 0 1)).map (loadEntry p.params)) s) []) ∧
  Serves .loadStatus 0x0301 (fun p _ => fieldAt p.params 0 1 ≤ 31)
    (Reports fun p s => loadRegisters s Reg.LSW_CFG 10 ++ loadRegisters s (Reg.LSW_CH_CFG (fieldAt p.params 0 1)) 8) ∧
  Serves .loadStatus 0x0301 (fun p _ => fieldAt p.params 0 1 = 0xFF)
    (Reports fun _ s => loadRegisters s Reg.LSW_CFG 10 ++ (upFrom 0 32).flatMap (fun c => loadRegisters s (Reg.LSW_CH_CFG c) 8)) ∧
  Serves .loadReinstate 0x0302 (fun p s => fieldAt p.params 0 1 ≤ 31 ∧ channelSided s (fieldAt p.params 0 1) = false)
    (Reports fun _ _ => []) ∧
  Serves .loadReinstate 0x0302 (fun p s => fieldAt p.params 0 1 ≤ 31 ∧ channelSided s (fieldAt p.params 0 1) = true ∧ s.ev.retiredHere = [] ∧
      (s.ev.retired.filter (entryIs 1 (fieldAt p.params 0 1) 0)).length = 1)
    (fun p _ a => a.status = St.ok ∧ a.result = [] ∧ channelSided a.st (fieldAt p.params 0 1) = false) ∧
  Serves .limpMapRead 0x0303 (fun p _ => fieldAt p.params 0 1 ≤ 1) (Reports fun p s => limpMapResult (fieldAt p.params 0 1) s) ∧
  Serves .limpMapWrite 0x0304 (fun p s => blockUnlocked s p.session.toNat 0x0003 = true ∧
      mapGood (p.params.take 128) (fieldAt p.params 128 4) = true)
    (fun p s a => a.status = St.ok ∧ a.st.load.storedMap = p.params.take 128 ∧ a.st.load.storedCrc = fieldAt p.params 128 4 ∧
      a.st.load.latchedMap = s.load.latchedMap)

/-- The requests of the loops (R415, R418). -/
def Obligations.LoopRequests : Prop :=
  Serves .loopOpen 0x0400 (fun p s => fieldAt p.params 0 1 ≤ 31 ∧ s.regsWf = true)
    (fun p _ a => a.status = St.ok ∧ a.result = [] ∧ loopState a.st (fieldAt p.params 0 1) = lOpen) ∧
  Serves .loopRun 0x0401 (fun p s => fieldAt p.params 0 1 ≤ 31 ∧ loopDefined s (fieldAt p.params 0 1) = true ∧
      gainValid (runningGains s (fieldAt p.params 0 1)) = true ∧ s.regsWf = true)
    (fun p _ a => a.status = St.ok ∧ a.result = [] ∧ loopState a.st (fieldAt p.params 0 1) = lRun) ∧
  Serves .loopHold 0x0402 (fun p s => fieldAt p.params 0 1 ≤ 31 ∧ loopDefined s (fieldAt p.params 0 1) = true ∧
      loopState s (fieldAt p.params 0 1) = lRun ∧ s.regsWf = true)
    (fun p _ a => a.status = St.ok ∧ a.result = [] ∧ loopState a.st (fieldAt p.params 0 1) = lHold) ∧
  Serves .loopSetpoint 0x0403 (fun p s => fieldAt p.params 0 1 ≤ 31 ∧ s.get (F.CLE_LOOP_SP_KIND (fieldAt p.params 0 1)) = 6 ∧ s.regsWf = true)
    (fun p s a => a.status = St.ok ∧ a.st.reg (Reg.CLE_LOOP_SETPT (fieldAt p.params 0 1)) = fieldAt p.params 4 4 ∧
      RegsKept [Reg.CLE_LOOP_SETPT (fieldAt p.params 0 1)] s a.st)

/-- The requests of models, streams and the fused grids (R286, R300–R303, R342, R343). -/
def Obligations.FusionRequests : Prop :=
  (∀ c x, Serves .modelLoad 0x0500 (fun p s => fieldAt p.params 0 1 ≤ 63 ∧ throwBars s = false ∧ sidingForChange s = some c ∧
      fieldAt p.params 4 4 ≠ 0 ∧ findSection c 0x11 (fieldAt p.params 0 1) = some x ∧
      fieldAt p.params 4 4 + (p.params.drop 8).length ≤ x.length)
    (fun p _ a =>
      let c := writeModel c (fieldAt p.params 0 1) (fieldAt p.params 4 4) (p.params.drop 8)
      a.result = [] ∧ a.st.sets.siding = some c ∧
      (fieldAt p.params 4 4 + (p.params.drop 8).length < x.length → a.status = St.ok) ∧
      (fieldAt p.params 4 4 + (p.params.drop 8).length = x.length → modelCheck ((modelIn (some c) (fieldAt p.params 0 1)).getD []) = 2 →
        a.status = St.ok))) ∧
  (∀ c k x, Serves .modelLoad 0x0500 (fun p s => fieldAt p.params 0 1 ≤ 63 ∧ throwBars s = false ∧ sidingForChange s = some c ∧
      fieldAt p.params 4 4 = 0 ∧ 64 ≤ (p.params.drop 8).length ∧ modelHeaderOk (p.params.drop 8) = true ∧
      openModel c (fieldAt p.params 0 1) (bitsAt (fieldAt p.params 1 1) 0 1) (64 + mLen (p.params.drop 8)) = some k ∧
      findSection k 0x11 (fieldAt p.params 0 1) = some x ∧ (p.params.drop 8).length < x.length)
    (fun p _ a => a.status = St.ok ∧ a.result = [] ∧ sidingState a.st = sLoaded ∧ fieldAt p.params 0 1 ∈ a.st.sets.modelOpen ∧
      a.st.sets.siding = some (writeModel k (fieldAt p.params 0 1) 0 (p.params.drop 8)))) ∧
  Serves .modelInfo 0x0501 (fun p _ => fieldAt p.params 0 1 ≤ 63 ∧ fieldAt p.params 1 1 ≤ 1)
    (Reports fun p s =>
      let c := if fieldAt p.params 1 1 = 0 then s.sets.running else if sidingState s = sEmpty then none else s.sets.siding
      let b := (modelIn c (fieldAt p.params 0 1)).getD []
      let st := modelState (if fieldAt p.params 1 1 = 1 then s.sets.modelOpen else []) c (fieldAt p.params 0 1)
      let macs := if st = 2 ∨ st = 5 then graphMacs (mGraph b) else 0
      padTo 64 b ++ leBytes 1 st ++ leBytes 3 0 ++ leBytes 8 macs ++ leBytes 4 (ceilDiv (2 * macs * mRate b) 1000000000)) ∧
  Serves .streamStatus 0x0502 (fun p _ => fieldAt p.params 0 1 ≤ 19) (Reports fun p s => streamRegisters s (fieldAt p.params 0 1)) ∧
  Serves .streamStatus 0x0502 (fun p _ => fieldAt p.params 0 1 = 0xFF) (Reports fun _ s => (upFrom 0 20).flatMap (streamRegisters s)) ∧
  Serves .streamReinstate 0x0503 (fun p s => fieldAt p.params 0 1 ≤ 19 ∧ streamRetired s (fieldAt p.params 0 1) = false)
    (Reports fun _ _ => []) ∧
  Serves .streamReinstate 0x0503 (fun p s => fieldAt p.params 0 1 ≤ 19 ∧ streamRetired s (fieldAt p.params 0 1) = true ∧ s.ev.retiredHere = [] ∧
      (s.ev.retired.filter (entryIs 3 (fieldAt p.params 0 1) 0)).length = 1)
    (fun p _ a => a.status = St.ok ∧ a.result = [] ∧ streamRetired a.st (fieldAt p.params 0 1) = false) ∧
  Serves .gridRead 0x0504 (fun p s => fieldAt p.params 0 1 = 0 ∧ 1 ≤ fieldAt p.params 3 1 ∧ 1 ≤ fieldAt p.params 4 1 ∧
      fieldAt p.params 3 1 * fieldAt p.params 4 1 ≤ 69 ∧ fieldAt p.params 1 1 + fieldAt p.params 3 1 ≤ 192 ∧
      fieldAt p.params 2 1 + fieldAt p.params 4 1 ≤ 64 ∧ s.flag F.FUS_STATUS_GRID_VALID = true)
    (Reports fun p s => leBytes 4 s.fus.frameNo ++ leBytes 8 s.fus.tFrame ++
      (upFrom (fieldAt p.params 2 1) (fieldAt p.params 4 1)).flatMap (fun j =>
        (upFrom (fieldAt p.params 1 1) (fieldAt p.params 3 1)).flatMap (fun i => cellBytes (agesGrown s) (cellAt s (j * 192 + i))))) ∧
  Serves .gridRead 0x0504 (fun p s => fieldAt p.params 0 1 = 1 ∧ fieldAt p.params 2 1 = 0 ∧ 1 ≤ fieldAt p.params 3 1 ∧
      fieldAt p.params 3 1 ≤ 69 ∧ fieldAt p.params 4 1 = 1 ∧ fieldAt p.params 1 1 + fieldAt p.params 3 1 ≤ 128 ∧
      s.flag F.FUS_STATUS_GRID_VALID = true)
    (Reports fun p s => leBytes 4 s.fus.frameNo ++ leBytes 8 s.fus.tFrame ++
      (upFrom (fieldAt p.params 1 1) (fieldAt p.params 3 1)).flatMap (fun i => cellBytes (agesGrown s) (cellAt s (cellNo 1 i))))

/-- The requests of the setting functions (R371–R374): MANUAL takes the function out of AUTO with its new target, AUTO brings it
back. -/
def Obligations.FunctionRequests : Prop :=
  Serves .functionManual 0x0601 (fun p s => fnTargetOk p = true ∧ fieldAt p.params 0 1 ≤ 47 ∧ (fnEntry s (fieldAt p.params 0 1)).id ≠ 0 ∧
      (fnEntry s (fieldAt p.params 0 1)).id = fieldAt p.params 2 2 ∧ (bitAt (fieldAt p.params 1 1) 0 = true →
        (fnEntry s (fieldAt p.params 0 1)).min ≤ sfieldAt p.params 4 4 ∧ sfieldAt p.params 4 4 ≤ (fnEntry s (fieldAt p.params 0 1)).max) ∧
      s.regsWf = true)
    (fun p s a => a.status = St.ok ∧ a.result = [] ∧ fnMode a.st (fieldAt p.params 0 1) = mManual ∧
      a.st.flag (F.SET_FN_STATE_SETTLING (fieldAt p.params 0 1)) = false ∧
      (fnMode s (fieldAt p.params 0 1) = mAuto → Flagged Src.SET_OVERRIDE a.st) ∧
      a.st.gets (F.SET_FN_TARGET_TARGET (fieldAt p.params 0 1)) =
        if bitAt (fieldAt p.params 1 1) 0 = true then sfieldAt p.params 4 4 else s.gets (F.SET_FN_SENT_SENT (fieldAt p.params 0 1))) ∧
  Serves .functionAuto 0x0600 (fun p s => fnTargetOk p = true ∧ fieldAt p.params 0 1 ≤ 47 ∧ (fnEntry s (fieldAt p.params 0 1)).id ≠ 0 ∧
      (fnEntry s (fieldAt p.params 0 1)).id = fieldAt p.params 2 2 ∧ fnMode s (fieldAt p.params 0 1) = mAuto) (Reports fun _ _ => []) ∧
  Serves .functionAuto 0x0600 (fun p s => fnTargetOk p = true ∧ fieldAt p.params 0 1 ≤ 47 ∧ (fnEntry s (fieldAt p.params 0 1)).id ≠ 0 ∧
      (fnEntry s (fieldAt p.params 0 1)).id = fieldAt p.params 2 2 ∧ fnMode s (fieldAt p.params 0 1) ≠ mAuto ∧
      (fnEntry s (fieldAt p.params 0 1)).autoOk = true ∧ s.flag F.SET_CFG_SET_EN = true ∧
      bitAt (fnCauses s (fieldAt p.params 0 1)) 4 = false ∧ bitAt (fnCauses s (fieldAt p.params 0 1)) 5 = false ∧ s.regsWf = true)
    (fun p _ a => a.status = St.ok ∧ a.result = [] ∧ fnMode a.st (fieldAt p.params 0 1) = mAuto ∧
      a.st.flag (F.SET_FN_STATE_SETTLING (fieldAt p.params 0 1)) = true ∧ Flagged Src.SET_AUTO_RETURN a.st) ∧
  Serves .functionStatus 0x0602 (fun p _ => fnTargetOk p = true ∧ fieldAt p.params 0 1 ≤ 47)
    (Reports fun p s => fnRegisters s (fieldAt p.params 0 1)) ∧
  Serves .functionStatus 0x0602 (fun p _ => fnTargetOk p = true ∧ fieldAt p.params 0 1 = 0xFF)
    (Reports fun _ s => (upFrom 0 48).flatMap (fnRegisters s))

/-- The requests of navigation and steering (R506, R511, R526, R534, R538, R549): a release with reason 1, a refused engagement
with its reason, an engagement where the same guidance is engaged already, and one where every condition but the errors holds,
which the errors decide. -/
def Obligations.SteeringRequests : Prop :=
  (∀ (t : Nat) (p : Request) (s : State), acceptable 0x0700 p (begin_ t s) = true → p.target = 0#8 → s.nav.guide = none →
    engaged s = false → s.regsWf = true →
    Served (.steerEngage t p) 0x0700 p t s (fun s1 a => a.status = St.noGuidance ∧ a.st = s1.put F.GNS_STEER_STATUS_REASON 6)) ∧
  Serves .steerEngage 0x0700 (fun p s => p.target = 0#8 ∧ engaged s = true ∧ fieldAt p.params 0 4 = s.reg Reg.GNS_GUIDE_ID)
    (fun _ s a => a = ok (s.put F.UPD_RUN_PARKED 0) (engageResult 0 (s.gets F.GNS_STEER_STATUS_PASS))) ∧
  (∀ g b, Serves .steerEngage 0x0700 (fun p s => p.target = 0#8 ∧ engaged s = false ∧ s.nav.guide = some g ∧
      baseAt s g (controlPoint s g) = some b ∧
      engageRefusal s g (fieldAt p.params 0 4) (some (some ⟨0, 0⟩, some ⟨0, 0⟩, some ⟨0, 0⟩)) = none ∧ s.regsWf = true)
    (fun _ s a =>
      let k := passAt g b (controlPoint s g)
      let e := steerErrors s g b (controlPoint s g) k (g.shift * 10) (against s g b)
      if offBy e.1 (s.get F.GNS_STEER_ENG_ENG_XTE) = false ∧
          gLe (gAbs e.2.1) (gMul (gRat (s.get F.GNS_STEER_ENG_ENG_HE) 180) gPi) = true then
        a.status = St.ok ∧ engaged a.st = true ∧ a.st.get F.UPD_RUN_PARKED = 0 ∧ a.result = engageResult 0 k
      else a.status = St.noGuidance ∧ a.st = s.put F.GNS_STEER_STATUS_REASON 7 ∧ a.result = engageResult 7 k)) ∧
  Serves .steerRelease 0x0701 (fun p s => p.target = 0#8 ∧ engaged s = true ∧ isRelief s = false ∧ s.regsWf = true)
    (fun _ _ a => a.status = St.ok ∧ a.result = [] ∧ Released 1 a.st) ∧
  Serves .steerRelease 0x0701 (fun p s => p.target = 0#8 ∧ engaged s = false) (Reports fun _ _ => []) ∧
  Serves .guidanceSet 0x0702 (fun p s => p.target = 0#8 ∧ guideOk p.params = true ∧ s.regsWf = true ∧
      (engaged s = false ∨ (s.nav.guide.map (fun o => { o with shift := (guideOf p.params).shift })) = some (guideOf p.params)))
    (fun p _ a => a.status = St.ok ∧ a.result = leBytes 4 (guideId p.params) ∧ a.st.nav.guide = some (guideOf p.params) ∧
      a.st.reg Reg.GNS_GUIDE_ID = guideId p.params % 4294967296) ∧
  Serves .rtcmFeed 0x0703 (fun p _ => p.target = 0#8 ∧ fieldAt p.params 0 1 = 1)
    (fun p s a => a = ok (feedSource 1 (p.params.drop 4) s) []) ∧
  Serves .gnssStatus 0x0704 (fun p _ => fieldAt p.params 0 1 = 0)
    (Reports fun _ s => navRegisters s Reg.GNS_STATUS 19 ++ navRegisters s Reg.GNS_STEER_STATUS 6) ∧
  Serves .gnssStatus 0x0704 (fun p _ => fieldAt p.params 0 1 = 1 ∨ fieldAt p.params 0 1 = 2)
    (Reports fun p s => navRegisters s (Reg.GNS_CH_SIG (64 * (fieldAt p.params 0 1 - 1))) 256) ∧
  Serves .ppsDelaySet 0x0705 (fun p s => -1000000 ≤ sfieldAt p.params 0 4 ∧ sfieldAt p.params 0 4 ≤ 1000000 ∧ s.regsWf = true)
    (fun p _ a => a.status = St.ok ∧ a.st.gets F.GNS_PPS_DELAY_DELAY = sfieldAt p.params 0 4 ∧ a.st.nav.ppsStored = sfieldAt p.params 0 4)

/-- The requests of yield mapping (R565–R568, R570). -/
def Obligations.YieldRequests : Prop :=
  (∀ f, Serves .fieldOpen 0x0800 (fun p s => p.target = 0#8 ∧ fieldAt p.params 0 4 ≠ 0 ∧ s.yld.openId ≠ some (fieldAt p.params 0 4) ∧
      findField s (fieldAt p.params 0 4) = some f ∧ f.id = fieldAt p.params 0 4 ∧ f.lat = sfieldAt p.params 4 8 ∧
      f.lon = sfieldAt p.params 12 8 ∧ f.hgt = sfieldAt p.params 20 4)
    (fun p _ a => a.status = St.ok ∧ a.st.yld.openId = some (fieldAt p.params 0 4))) ∧
  Serves .fieldOpen 0x0800 (fun p s => p.target = 0#8 ∧ fieldAt p.params 0 4 ≠ 0 ∧ s.yld.openId ≠ some (fieldAt p.params 0 4) ∧
      findField s (fieldAt p.params 0 4) = none ∧ 268435456 ≤ storeFree s ∧ s.yld.fields.length < 128)
    (fun p _ a => a.status = St.ok ∧ a.st.yld.openId = some (fieldAt p.params 0 4) ∧
      ∃ f, findField a.st (fieldAt p.params 0 4) = some f ∧ f.lat = sfieldAt p.params 4 8 ∧ f.lon = sfieldAt p.params 12 8 ∧
        f.hgt = sfieldAt p.params 20 4 ∧ f.name = (p.params.drop 24).take 16 ∧ f.genF = 0) ∧
  Serves .fieldOpen 0x0800 (fun p s => p.target = 0#8 ∧ fieldAt p.params 0 4 ≠ 0 ∧ s.yld.openId = some (fieldAt p.params 0 4))
    (Reports fun _ _ => []) ∧
  Serves .fieldClose 0x0801 (fun p s => p.target = 0#8 ∧ fieldAt p.params 4 1 = 0 ∧ s.yld.openId = some (fieldAt p.params 0 4))
    (fun _ _ a => a.status = St.ok ∧ a.st.yld.openId = none) ∧
  Serves .fieldClose 0x0801 (fun p s => p.target = 0#8 ∧ fieldAt p.params 4 1 = 0 ∧ s.yld.openId ≠ some (fieldAt p.params 0 4))
    (Reports fun _ _ => []) ∧
  Serves .fieldClose 0x0801 (fun p s => p.target = 0#8 ∧ fieldAt p.params 4 1 = 1 ∧ s.yld.openId ≠ some (fieldAt p.params 0 4))
    (fun p s a => a = ok { s with yld := { s.yld with fields := s.yld.fields.filter (fun f => f.id != fieldAt p.params 0 4) } } []) ∧
  Serves .yieldStatus 0x0802 anyRequest (Reports fun _ s => (upFrom 0 8).flatMap (fun i =>
    leBytes 4 ((yieldOverlay s (Reg.YLD_STATUS + 4 * i)).getD (s.reg (Reg.YLD_STATUS + 4 * i))))) ∧
  (∀ f, Serves .yieldTileRead 0x0803 (fun p s => findField s (fieldAt p.params 0 4) = some f ∧ fieldAt p.params 4 1 = 0 ∧
      1 ≤ fieldAt p.params 6 1 ∧ fieldAt p.params 6 1 ≤ 3 ∧ fieldAt p.params 5 1 + fieldAt p.params 6 1 ≤ 32)
    (Reports fun p s =>
      let t := (findTile (fieldData s f).tiles (sfieldAt p.params 8 2) (sfieldAt p.params 10 2)).getD
        { te := sfieldAt p.params 8 2, tn := sfieldAt p.params 10 2, first := 0, last := 0, gen := 0, cells := [] }
      tileHeader (fieldAt p.params 0 4) t ++ tileCellBytes t (32 * fieldAt p.params 5 1) (32 * fieldAt p.params 6 1))) ∧
  (∀ f, Serves .yieldTileRead 0x0803 (fun p s => findField s (fieldAt p.params 0 4) = some f ∧ fieldAt p.params 4 1 = 1)
    (Reports fun p s => leBytes 2 (fieldData s f).tiles.length ++ leBytes 2 0 ++
      tileIndexes (((fieldData s f).tiles.drop (fieldAt p.params 8 2)).take 344))) ∧
  (∀ f, Serves .taskExport 0x0804 (fun p s => p.target = 0#8 ∧ fieldAt p.params 4 1 ≤ 2 ∧ 1 ≤ fieldAt p.params 12 2 ∧
      fieldAt p.params 12 2 ≤ 1384 ∧ s.yld.openId ≠ some (fieldAt p.params 0 4) ∧ findField s (fieldAt p.params 0 4) = some f)
    (Reports fun p _ => leBytes 4 f.genF ++ leBytes 4 (Config.taskFile (taskSource f) (fieldAt p.params 4 1)).length ++
      ((Config.taskFile (taskSource f) (fieldAt p.params 4 1)).drop (fieldAt p.params 8 4)).take (fieldAt p.params 12 2)))

/-- The requests of the consist (R578, R580, R583, R589, R599). -/
def Obligations.ConsistRequests : Prop :=
  Serves .consistJoin 0x0900 (fun p s => p.target = 0#8 ∧ ¬ (cstState s = cstMember ∧ consistId s = fieldAt p.params 0 4) ∧ consistOn s = true ∧ s.regsWf = true ∧
      s.cst.keys.any (fun k => k.consist == fieldAt p.params 0 4) = true)
    (fun p _ a => a.job = some .listen ∧ cstState a.st = cstJoining ∧ consistId a.st = fieldAt p.params 0 4 ∧
      a.st.cst.listenEnd = some (a.st.now + 3 * sec)) ∧
  Serves .consistJoin 0x0900 (fun p s => p.target = 0#8 ∧ cstState s = cstMember ∧ consistId s = fieldAt p.params 0 4)
    (Reports fun _ s => leBytes 1 (ownMember s)) ∧
  Serves .consistLeave 0x0901 (fun p s => p.target = 0#8 ∧ (cstState s = cstMember ∨ cstState s = cstConflict) ∧ s.regsWf = true)
    (fun _ _ a => a.status = St.ok ∧ cstState a.st = cstOut ∧ consistId a.st = 0 ∧ a.st.cst.members = []) ∧
  Serves .consistKeySet 0x0902 (fun p _ => p.target = 0#8)
    (fun p s a => a.status = St.ok ∧ ∃ k, a.st.cst.keys = setConsistKey k s.cst.keys ∧ k.consist = fieldAt p.params 0 4 ∧
      k.keyId = fieldAt p.params 4 1 ∧ ∀ x, findSession s p.session.toNat = some x →
        k.key = xorBytes ((p.params.drop 8).take 16)
          ((hmacSha256 x.key (ascii [0x47, 0x5A, 0x56, 0x2D, 0x57, 0x52, 0x41, 0x50] ++ leBytes 4 p.sequence.toNat)).take 16)) ∧
  Serves .consistStatus 0x0903 (fun p _ => fieldAt p.params 0 1 = 0) (Reports fun _ s => registerBytes s Reg.CST_STATUS 6) ∧
  Serves .consistStatus 0x0903 (fun p _ => fieldAt p.params 0 1 = 1) (Reports fun _ s => (upFrom 0 32).flatMap (memberEntry s)) ∧
  Serves .rendezvousRequest 0x0904 (fun p s => p.target = 0#8 ∧ fieldAt p.params 0 1 = 1 ∧ s.cst.rdv = none ∧ cstState s = cstMember ∧
      fieldAt p.params 2 1 ≤ 1 ∧ (fieldAt p.params 1 1 ≤ 31 ∨ fieldAt p.params 1 1 = 0xFF))
    (fun p s a => a.status = St.ok ∧ ∃ r, a.st.cst.rdv = some r ∧ r.requester = true ∧ r.side = fieldAt p.params 2 1 ∧
      r.target = fieldAt p.params 1 1 ∧
      r.id = ownMember s * 16777216 + s.cst.rdvCount % 16777216) ∧
  Serves .rendezvousRequest 0x0904 (fun p s => p.target = 0#8 ∧ fieldAt p.params 0 1 = 2 ∧ s.cst.rdv.isSome = true ∧ s.regsWf = true)
    (fun _ _ a => a.status = St.ok ∧ a.st.cst.rdv = none ∧ a.st.get F.CST_RDV_RDV_STATE = 0 ∧ a.st.get F.CST_RDV_REASON = 1) ∧
  Serves .rendezvousRequest 0x0904 (fun p s => p.target = 0#8 ∧ fieldAt p.params 0 1 = 2 ∧ s.cst.rdv = none) (Reports fun _ _ => []) ∧
  Serves .rendezvousRequest 0x0904 (fun p s => p.target = 0#8 ∧ 3 ≤ fieldAt p.params 0 1 ∧ fieldAt p.params 0 1 ≤ 4 ∧ s.regsWf = true)
    (fun p s a => a = ok (s.put F.CST_RDV_AVAILABLE (4 - fieldAt p.params 0 1)) [])

/-- The requests of data streams (R667, R671), and of the logbook (R710, R731). -/
def Obligations.TransferAndLogbookRequests : Prop :=
  (∀ n, Serves .streamOpen 0x0A00 (fun p s => streamParamsGood s p.params = true ∧ streamRetired s (fieldAt p.params 1 1) = false ∧
      (upFrom 0 4).find? (fun k => !s.flag (F.DMA_STR_CFG_OPEN k)) = some n ∧
      (fieldAt p.params 2 1 = 0 ∨ diagTaken s = false) ∧ sameStream s p = none ∧ s.regsWf = true)
    (fun p _ a => a.status = St.ok ∧ a.result = leBytes 1 n ++ leBytes 3 0 ∧ a.st.flag (F.DMA_STR_CFG_OPEN n) = true ∧
      a.st.get (F.DMA_STR_CFG_SINK n) = fieldAt p.params 2 1 ∧ a.st.get (F.DMA_STR_PORT_RATE n) = fieldAt p.params 12 2 ∧
      a.st.get (F.DMA_STR_CFG_SLOT n) = fieldAt p.params 1 1 % 2 ^ (F.DMA_STR_CFG_SLOT n).width ∧
      a.st.get (F.DMA_STR_PORT_UDP_PORT n) = fieldAt p.params 14 2)) ∧
  Serves .streamClose 0x0A01 (fun p s => fieldAt p.params 0 1 ≤ 3 ∧ s.flag (F.DMA_STR_CFG_OPEN (fieldAt p.params 0 1)) = true)
    (fun p s a => a = ok (closeData (fieldAt p.params 0 1) s) []) ∧
  Serves .streamClose 0x0A01 (fun p s => fieldAt p.params 0 1 ≤ 3 ∧ s.flag (F.DMA_STR_CFG_OPEN (fieldAt p.params 0 1)) = false)
    (Reports fun _ _ => []) ∧
  Serves .logbookRead 0x0B00 (fun p _ => fieldAt p.params 0 1 = 2 ∧ 1 ≤ fieldAt p.params 8 2 ∧ fieldAt p.params 8 2 ≤ 43)
    (Reports fun p s => leBytes 4 (s.get F.EVR_OPSEC_OPSEC) ++ leBytes 3 (s.get F.EVR_PCYC_PCYC) ++ leBytes 1 2 ++ leBytes 4 (newestSeq s) ++
      leBytes 4 (oldestSeq s) ++ leBytes 2 (ringFrom s (fieldAt p.params 4 4) (fieldAt p.params 8 2)).length ++ leBytes 2 0 ++
      (ringFrom s (fieldAt p.params 4 4) (fieldAt p.params 8 2)).flatMap faultBytes) ∧
  Serves .logbookRead 0x0B00 (fun p _ => fieldAt p.params 0 1 = 0 ∧ fieldAt p.params 4 4 ≤ 63 ∧ 1 ≤ fieldAt p.params 8 2 ∧
      fieldAt p.params 8 2 ≤ 10)
    (Reports fun p s => leBytes 4 (s.get F.EVR_OPSEC_OPSEC) ++ leBytes 3 (s.get F.EVR_PCYC_PCYC) ++ leBytes 1 0 ++ leBytes 4 (newestSeq s) ++
      leBytes 4 (oldestSeq s) ++ leBytes 2 (min (fieldAt p.params 8 2) (64 - fieldAt p.params 4 4)) ++ leBytes 2 0 ++
      (upFrom (fieldAt p.params 4 4) (min (fieldAt p.params 8 2) (64 - fieldAt p.params 4 4))).flatMap (histBytes s.ev.live)) ∧
  Serves .logbookRead 0x0B00 (fun p _ => fieldAt p.params 0 1 = 1 ∧ fieldAt p.params 4 4 ≤ 255 ∧ 1 ≤ fieldAt p.params 8 2 ∧
      fieldAt p.params 8 2 ≤ 114)
    (Reports fun p s => leBytes 4 (s.get F.EVR_OPSEC_OPSEC) ++ leBytes 3 (s.get F.EVR_PCYC_PCYC) ++ leBytes 1 1 ++ leBytes 4 (newestSeq s) ++
      leBytes 4 (oldestSeq s) ++ leBytes 2 (min (fieldAt p.params 8 2) (256 - fieldAt p.params 4 4)) ++ leBytes 2 0 ++
      (upFrom (fieldAt p.params 4 4) (min (fieldAt p.params 8 2) (256 - fieldAt p.params 4 4))).flatMap (extremeBytes s.ev.live)) ∧
  Serves .retirementRead 0x0B02 (fun p _ => 1 ≤ fieldAt p.params 2 2 ∧ fieldAt p.params 2 2 ≤ 87)
    (Reports fun p s => leBytes 2 s.ev.retired.length ++ leBytes 2 0 ++
      ((s.ev.retired.drop (fieldAt p.params 0 2)).take (fieldAt p.params 2 2)).flatMap retireBytes)

/-- The requests of images and update runs (R751–R755, R758, R769). -/
def Obligations.UpdateRequests : Prop :=
  (∀ d, Serves .updateBegin 0x0C00 (fun p s => d ≤ 1 ∧ fieldAt p.params 0 1 = d ∧ fieldAt p.params 4 2 = 0x5A49 ∧ fieldAt p.params 6 1 = 1 ∧
      fieldAt p.params 8 2 = 0x6401 ∧ imDie ((p.params.drop 4).take 128) = d ∧ imBodyLen ((p.params.drop 4).take 128) ≠ 0 ∧
      imBodyLen ((p.params.drop 4).take 128) + 128 ≤ slotSize d ∧ trialSlot s d = none ∧ imKey ((p.params.drop 4).take 128) ≤ 3 ∧
      keyRevoked s (imKey ((p.params.drop 4).take 128)) = false ∧ rollbackOk s d ((p.params.drop 4).take 128) = true ∧
      ¬ (1 ≤ slotState s d (targetSlot s d) ∧ slotState s d (targetSlot s d) ≤ 4 ∧
        (imageSlot s d (targetSlot s d)).header = (p.params.drop 4).take 128) ∧ slotState s d (targetSlot s d) ≠ uVerifying)
    (fun p s a => a = ok ((setSlot d (targetSlot s d) uLoading { header := (p.params.drop 4).take 128 } s).put F.UPD_PROGRESS_FIRST_MISSING 0) [])) ∧
  (∀ d x, Serves .updateChunk 0x0C01 (fun p s => d ≤ 1 ∧ fieldAt p.params 0 1 = d ∧ slotState s d (targetSlot s d) = uLoading ∧
      imageSlot s d (targetSlot s d) = x ∧ fieldAt p.params 4 4 + (p.params.drop 8).length ≤ imBodyLen x.header ∧ s.upd.slots.length = 4 ∧
      targetSlot s d ≤ 1)
    (fun p s a => a.status = St.ok ∧ a.result = [] ∧ (imageSlot a.st d (targetSlot s d)).header = x.header ∧
      (imageSlot a.st d (targetSlot s d)).written = addRun (fieldAt p.params 4 4) (fieldAt p.params 4 4 + (p.params.drop 8).length) x.written)) ∧
  (∀ d, Serves .updateVerify 0x0C02 (fun p s => d ≤ 1 ∧ fieldAt p.params 0 1 = d ∧ slotState s d (targetSlot s d) = uLoaded ∧
      fieldAt p.params 4 4 = imVersion (imageSlot s d (targetSlot s d)).header ∧ s.regsWf = true)
    (fun _ s a => a.status = St.queued ∧ a.job = some (.image d) ∧ slotState a.st d (targetSlot s d) = uVerifying)) ∧
  (∀ d, Serves .updateVerify 0x0C02 (fun p s => d ≤ 1 ∧ fieldAt p.params 0 1 = d ∧ slotState s d (targetSlot s d) = uVerified ∧
      fieldAt p.params 4 4 = imVersion (imageSlot s d (targetSlot s d)).header ∧ s.regsWf = true)
    (fun _ s a => a.status = St.ok ∧ a.result = verifyResult s d ∧ slotState a.st d (targetSlot s d) = uVerified)) ∧
  Serves .updateActivate 0x0C03 (fun p s => lineModules s = [joinNum s] ∧ repAt (ownReport s) (fieldAt p.params 0 4) (fieldAt p.params 4 4) = true ∧
      repOnTrial (ownReport s) = false)
    (Reports fun _ s => leBytes 1 0 ++ leBytes 1 1 ++ leBytes 2 0 ++ leBytes 1 (joinNum s) ++ leBytes 1 1) ∧
  Serves .updateActivate 0x0C03 (fun p s => s.upd.run = none ∧ s.upd.asked = [] ∧
      ¬ (lineModules s = [joinNum s] ∧ repAt (ownReport s) (fieldAt p.params 0 4) (fieldAt p.params 4 4) = true ∧
        repOnTrial (ownReport s) = false))
    (fun p _ a => a.status = St.queued ∧ a.job = some .run ∧ a.st.upd.asked = [(fieldAt p.params 0 4, fieldAt p.params 4 4)]) ∧
  (∀ k, Serves .updateConfirm 0x0C04 (fun p s => fieldAt p.params 0 1 = 1 ∧ trialSlot s 0 = some k ∧ trialSlot s 1 = none ∧
      confirmRefusal s 0 (fieldAt p.params 4 4) = none ∧ confirmRefusal s 1 (fieldAt p.params 8 4) = none ∧
      imRevoke (imageSlot s 0 k).header = false ∧ s.regsWf = true)
    (fun _ s a => a.status = St.ok ∧ activeSlot a.st 0 = k ∧ trialSlot a.st 0 = none ∧
      a.st.get F.UPD_SECURITY_SIG_RB = imRollback (imageSlot s 0 k).header)) ∧
  Serves .updateConfirm 0x0C04 (fun p s => fieldAt p.params 0 1 = 1 ∧ trialSlot s 0 = none ∧ trialSlot s 1 = none ∧
      runningVersion s 0 = fieldAt p.params 4 4 ∧ runningVersion s 1 = fieldAt p.params 8 4) (Reports fun _ _ => [])

/-- The requests of the Line, of performance levels, of limp mode and of sleep (R202, R226, R613, R630, R772, R794). -/
def Obligations.PlantRequests : Prop :=
  Serves .lineStatus 0x0D00 anyRequest (Reports fun _ s => (upFrom 0 17).flatMap (fun i => leBytes 4 (snapWord s (0x80000 + 4 * i)))) ∧
  Serves .linkReinstate 0x0D01 (fun p s => fieldAt p.params 0 1 ≤ 1 ∧ isRetired 2 (fieldAt p.params 0 1) 0 s = false) (Reports fun _ _ => []) ∧
  Serves .linkReinstate 0x0D01 (fun p s => fieldAt p.params 0 1 ≤ 1 ∧ isRetired 2 (fieldAt p.params 0 1) 0 s = true)
    (fun p s a => a = ok (modPort (fieldAt p.params 0 1 == 1) (fun x => { x with asking := true, goodChecks := 0 })
      (unretireLink (fieldAt p.params 0 1 == 1) s)) []) ∧
  Serves .parkedDeclare 0x0D02 (fun p s => fieldAt p.params 0 1 ≤ 1 ∧ s.regsWf = true)
    (fun p s a => a.status = St.ok ∧ a.st.get F.UPD_RUN_PARKED = fieldAt p.params 0 1 ∧ FieldsKept [F.UPD_RUN_PARKED] s a.st) ∧
  Serves .levelSet 0x0E00 (fun p s => fieldAt p.params 0 1 ≤ 7 ∧ fieldAt p.params 0 1 = s.get F.PWR_LEVEL_REQ)
    (Reports fun _ s => leBytes 1 (s.get F.PWR_LEVEL_REQ) ++ leBytes 1 (s.get F.PWR_LEVEL_CUR) ++ leBytes 2 0) ∧
  Serves .levelSet 0x0E00 (fun p s => 1 ≤ fieldAt p.params 0 1 ∧ fieldAt p.params 0 1 ≤ 7 ∧ fieldAt p.params 0 1 ≠ s.get F.PWR_LEVEL_REQ ∧
      (s.sets.running.map tensorDemand).getD 0 ≤ levelTops (fieldAt p.params 0 1) * 1000000000000 ∧ s.regsWf = true)
    (fun p _ a => a.st.get F.PWR_LEVEL_REQ = fieldAt p.params 0 1 ∧
      if curLevel a.st ≠ 0 ∧ curLevel a.st = targetLevel a.st then a.status = St.ok ∧ a.job = none
      else a.status = St.queued ∧ a.job = some (.level (fieldAt p.params 0 1))) ∧
  Serves .levelSet 0x0E00 (fun p s => fieldAt p.params 0 1 = 0 ∧ s.get F.PWR_LEVEL_REQ ≠ 0 ∧ s.sets.running = none ∧
      ((isTerminus s || isRelief s) = true → s.flag F.GNS_CFG_EN = false) ∧ s.regsWf = true)
    (fun _ _ a => a.status = St.queued ∧ a.job = some (.level 0) ∧ a.st.get F.PWR_LEVEL_REQ = 0 ∧ a.st.die.planned = true) ∧
  Serves .resume 0x0E02 (fun _ s => inLimp s = true ∧ resumeStatus s = St.ok ∧ s.regsWf = true)
    (fun _ _ a => a.status = St.ok ∧ a.result = [] ∧ inLimp a.st = false) ∧
  Serves .resume 0x0E02 (fun _ s => inLimp s = false) (Reports fun _ _ => []) ∧
  Serves .sleep 0x0E03 (fun p s => 100 ≤ fieldAt p.params 0 2 ∧ fieldAt p.params 0 2 ≤ 60000 ∧ sleepCheck s = St.ok)
    (fun p s a => a = ok { s with pwr := { s.pwr with sleepAt := some (s.now + fieldAt p.params 0 2 * ms) } } [])


/-! ### Straps, roles, dies and power -/

/-- The straps (R10, R11): a sample joins its run of eight; eight that agree are latched and decode the role; a third run without
agreement is STRAP_FAULT. The role claim (R14): without another holder heard the terminus takes its role at the end of tMASTER_LISTEN;
else it stands down with ROLE_CONFLICT. -/
def Obligations.StrapAndRoleRows : Prop :=
  (∀ v : BitVec 9, Does (fun t => .strapSample t v)
    (fun b => powered b = true ∧ due b.role.strapAt b = true ∧ b.role.samples.length < 7)
    (fun b u => u = { b with role := { b.role with strapAt := some (b.now + 900 * us), samples := b.role.samples ++ [v] } })) ∧
  (∀ v : BitVec 9, Does (fun t => .strapSample t v)
    (fun b => b.sound = true ∧ powered b = true ∧ due b.role.strapAt b = true ∧ b.role.samples = List.replicate 7 v ∧
      bitsAt v.toNat 0 2 ≠ 3 ∧ (bitsAt v.toNat 0 2 = 2 ∨ bitAt v.toNat 2 = false ∨ bitsAt v.toNat 3 6 ≠ 0))
    (fun _ u => u.role.strapAt = none ∧ u.get F.IDR_STRAP_ROLE = bitsAt v.toNat 0 2 ∧ u.get F.IDR_STRAP_NUM_EN = b2n (bitAt v.toNat 2) ∧
      u.get F.IDR_STRAP_NUM = bitsAt v.toNat 3 6 ∧
      u.role.role = (if bitsAt v.toNat 0 2 = 2 then .terminusClaim else if bitsAt v.toNat 0 2 = 1 then .reliefClaim else .station) ∧
      u.get F.IDR_ROLE_CUR_ROLE = bitsAt v.toNat 0 2)) ∧
  (∀ v : BitVec 9, Does (fun t => .strapSample t v)
    (fun b => b.sound = true ∧ powered b = true ∧ due b.role.strapAt b = true ∧ b.role.samples = List.replicate 7 v ∧
      (bitsAt v.toNat 0 2 = 3 ∨ bitsAt v.toNat 0 2 ≤ 1 ∧ bitAt v.toNat 2 = true ∧ bitsAt v.toNat 3 6 = 0))
    (fun _ u => u.role.strapAt = none ∧ u.flag F.IDR_STRAP_STRAP_FAULT = true ∧ u.role.role = .noRole ∧ u.get F.IDR_ROLE_CUR_ROLE = 3)) ∧
  (∀ (v w : BitVec 9), v ≠ w → Does (fun t => .strapSample t v)
    (fun b => b.sound = true ∧ powered b = true ∧ due b.role.strapAt b = true ∧ b.role.samples.length = 7 ∧ w ∈ b.role.samples ∧
      b.role.runs = 2)
    (fun _ u => u.role.strapAt = none ∧ u.flag F.IDR_STRAP_STRAP_FAULT = true ∧ u.role.role = .noRole)) ∧
  Does .masterListenEnd
    (fun b => b.sound = true ∧ b.role.role = .terminusClaim ∧ due b.role.listenEnd b = true ∧ b.die.yardUp = true ∧
      b.role.heardHolder = false)
    (fun _ u => u.role.role = .terminus ∧ u.role.joined = true ∧ u.role.listenEnd = none ∧ u.get F.IDR_ROLE_CUR_ROLE = 2 ∧
      u.flag F.LIN_STATUS_IN_TIMETABLE = true ∧ u.flag F.LIN_STATUS_SYNCED = true) ∧
  Does .masterListenEnd
    (fun b => b.sound = true ∧ b.role.role = .terminusClaim ∧ due b.role.listenEnd b = true ∧ b.die.yardUp = true ∧
      b.role.heardHolder = true)
    (fun _ u => u.role.role = .stoodDown ∧ u.role.joined = false ∧ u.flag F.IDR_STRAP_ROLE_CONFLICT = true ∧
      u.get F.IDR_ROLE_CUR_ROLE = 3 ∧ u.flag F.LIN_STATUS_IN_TIMETABLE = false)

/-- The Crossover (R39–R42): its symbols are noted, tXO_LOSS without one declares loss with XO_LOST, it comes up for both dies, a value
that the Yard die sends reaches the Signal die or waits for the link, the newest of its number, and the oldest record of the latch
crosses. -/
def Obligations.CrossoverRows : Prop :=
  Does (fun t => .xoKeepAlive t true) (fun b => b.die.yardUp = true)
    (fun b u => u = { b with die := { b.die with xoHeardBySignal := b.now } }) ∧
  Does (fun t => .xoKeepAlive t false) (fun b => b.die.sigUp = true)
    (fun b u => u = { b with die := { b.die with xoHeardByYard := b.now } }) ∧
  (∀ yard, Does (fun t => .xoLost t yard)
    (fun b => b.sound = true ∧ b.die.xoUp = true ∧ (if yard then b.die.yardUp else b.die.sigUp) = true ∧
      (if yard then b.die.xoHeardByYard else b.die.xoHeardBySignal) + 30 * us ≤ b.now)
    (fun _ u => u.die.xoUp = false ∧ Flagged Src.EVR_XO_LOST u)) ∧
  Does .crossoverUp (fun b => b.die.xoReadyAt.isSome = true ∧ b.die.sigUp = true ∧ b.die.yardUp = true)
    (fun b u => u.die.xoUp = true ∧ u.die.xoReadyAt = none ∧ u.die.plannedUntil = none ∧ u.die.xoHeardBySignal = b.now ∧
      u.die.xoHeardByYard = b.now) ∧
  (∀ (v : Nat) (x : Int), v < 64 → Does (fun t => .crossoverValueSend t [v])
    (fun b => b.die.xoUp = true ∧ b.die.yardUp = true ∧ b.die.sigUp = true ∧ 1 ≤ levelUpdates (curLevel b) ∧ b.eng.xpending = [] ∧
      crossValue b v = some x)
    (fun b u => lookupNum u.eng.xvals v = some x ∧ v ∉ u.eng.xlost ∧ u.eng.xpending = [] ∧
      ∀ k, k ≠ v → lookupNum u.eng.xvals k = lookupNum b.eng.xvals k)) ∧
  (∀ v : Nat, v < 64 → Does (fun t => .crossoverValueSend t [v]) (fun b => b.die.yardUp = true ∧ b.die.xoUp = false)
    (fun b u => u = { b with eng := { b.eng with xpending := replacePending v (crossValue b v) b.eng.xpending } })) ∧
  (∀ (r : EventRecord) (l : List EventRecord), Does .eventLatchDrain
    (fun b => b.die.yardUp = true ∧ b.die.xoUp = true ∧ ringRoom 56 b = true ∧ b.ev.latch = { held := r :: l, spill := [] } ∧
      b.pk.sessions.all (fun x => decide (x.evQueue.length < 128)) = true)
    (fun b u => u.ev.latch = { held := l, spill := [] } ∧ u.pk.sessions = (offerSessions b r b.pk.sessions).1))

/-- The Signal die (R43, R44, R729): a restart drops the Signal firmware, starts tHOLD and leaves every output as it is; reclaim ends it;
tHOLD that ends first latches the HOLD cause. -/
def Obligations.SignalDieRows : Prop :=
  Does .signalDieRestart (fun b => powered b = true)
    (fun b u => u.die.sigUp = false ∧ u.die.sigRestartAt = some b.now ∧
      u.die.holdUntil = some (b.now + b.get F.LSW_CFG_HOLD * ms) ∧ u.load = b.load ∧ u.die.yardUp = b.die.yardUp ∧
      u.sets.sigToken = none ∧ u.pk.sessions.length = b.pk.sessions.length ∧
      (∀ n, (nth u.eng.loops n {}).sample = none ∧ (nth u.eng.loops n {}).integ = (nth b.eng.loops n {}).integ)) ∧
  Does .outputReclaim
    (fun b => b.sound = true ∧ powered b = true ∧ b.die.sigUp = false ∧ b.die.sigRestartAt.isSome = true ∧
      hasImage (boot 0 b) 0 = true ∧ b.upd.restartDue = [] ∧ b.upd.yardNext = false ∧ trialSlot b 0 = none)
    (fun _ u => u.die.sigUp = true ∧ u.die.sigRestartAt = none ∧ u.die.holdUntil = none ∧ u.flag F.LSW_LIMP_HOLD = false ∧
      u.ev.faultWait = []) ∧
  (∀ e, Does .holdExpiry (fun b => b.sound = true ∧ b.die.holdUntil = some e ∧ b.die.sigUp = false ∧ e ≤ b.now)
    (fun _ u => u.die.holdUntil = none ∧ u.flag F.LSW_LIMP_HOLD = true)) ∧
  (∀ (d : Nat), d < 2 → Does (fun t => .dieBoot t d)
    (fun b => b.sound = true ∧ powered b = true ∧ nth b.upd.booted d true = false ∧ dieDown b d = true ∧ trialSlot b d = none ∧
      imageValid b d (activeSlot b d) = true ∧ b.upd.restartDue = [])
    (fun b u => nth u.upd.ran d none = some (activeSlot b d) ∧ nth u.upd.booted d false = true ∧
      slotState u d (activeSlot b d) = uRunning ∧
      (if d = 0 then u.reg Reg.IDR_SIG_FW else u.reg Reg.IDR_YARD_FW) = imVersion (imageSlot b d (activeSlot b d)).header % 16777216))

/-- The Yard die (R47, R50, R831): a restart ends the sessions, the packet queues and what the Line held; its return brings the ports up
with their partners; tPLANNED_GRACE that ends without the Crossover gives each loop its loss action. -/
def Obligations.YardDieRows : Prop :=
  Does .yardDieRestart (fun b => powered b = true)
    (fun b u => u.die.yardUp = false ∧ u.die.yardRestartAt = some b.now ∧ u.pk.sessions = [] ∧ u.pk.waiting = [] ∧
      u.pk.levelKeys = b.pk.levelKeys ∧ u.pk.failures = b.pk.failures ∧ u.line.members.length = b.line.members.length ∧
      u.sets.throw = none ∧ u.sets.token = none ∧ u.nav.guide = b.nav.guide ∧ u.die.sigUp = b.die.sigUp) ∧
  (∀ linkE linkW holder, Does (fun t => .yardDieBack t linkE linkW holder)
    (fun b => b.sound = true ∧ powered b = true ∧ b.die.yardUp = false ∧ b.die.yardRestartAt.isSome = true ∧
      hasImage (boot 1 b) 1 = true ∧ b.upd.restartDue = [] ∧ trialSlot b 1 = none ∧ isTerminus b = false)
    (fun _ u => u.die.yardUp = true ∧ u.die.yardRestartAt = none ∧ u.die.planned = false ∧ u.flag F.LIN_STATUS_E_UP = linkE ∧
      u.flag F.LIN_STATUS_W_UP = linkW ∧ u.flag F.EVR_DEADMAN_YARD_ARMED = true)) ∧
  (∀ e, Does .plannedGraceEnd (fun b => b.die.plannedUntil = some e ∧ e ≤ b.now ∧ b.die.xoUp = false ∧ b.die.sigUp = true)
    (fun b u => u = foldOver (fun s n => lossDue n s) (refreshLoss (loseValues b)) (upFrom 0 32)))

/-- Power (R791–R803): power-up begins the next power cycle from what is stored, a failure and the end of the DELAY of SLEEP switch
every output off, wake sources wake the sleeping module and cancel a sleep that is due, and camera and sensor limits show. -/
def Obligations.PowerRows : Prop :=
  (∀ mv, 8600 < mv → mv < 65536 → Does (fun t => .powerUp t mv) (fun b => b.sound = true ∧ b.pwr.power = .off)
    (fun b u => u.pwr.power = .up ∧ deviceTime u = 0 ∧ u.die = {} ∧ u.role = { strapAt := some (b.now + 4500 * us) } ∧
      u.get F.EVR_PCYC_PCYC = satN 24 (b.get F.EVR_PCYC_PCYC + 1) ∧ u.pk.levelKeys = b.pk.levelKeys ∧ u.pk.sessions = [] ∧
      u.ev.ring = b.ev.ring ∧ u.sets.running = b.sets.running)) ∧
  Does .powerFail (fun b => b.sound = true ∧ b.pwr.power = .up)
    (fun b u => u.pwr.power = .off ∧ (∀ c, c < 32 → (chan u c).output = false) ∧ u.pk.levelKeys = b.pk.levelKeys ∧
      u.sets.running = b.sets.running ∧ u.upd.slots = b.upd.slots) ∧
  (∀ f, Does .ignOffTimeout
    (fun b => powered b = true ∧ b.die.sigUp = true ∧ b.pwr.ignLowFrom = some f ∧ b.get F.PWR_WAKE_IGN_OFF ≠ 0 ∧
      f + b.get F.PWR_WAKE_IGN_OFF * 10 * sec ≤ b.now ∧ b.pwr.sleepAt = none ∧ sleepCheck b = St.ok)
    (fun b u => u = { b with pwr := { b.pwr with sleepAt := some (b.now + 100 * ms) } })) ∧
  Does .sleepEntry (fun b => b.sound = true ∧ powered b = true ∧ due b.pwr.sleepAt b = true)
    (fun _ u => u.pwr.power = .asleep ∧ u.pwr.sleepAt = none ∧ ∀ c, c < 32 → (chan u c).output = false) ∧
  (∀ src, src = 1 ∨ src = 4 → Does (fun t => .wake t src) (fun b => b.sound = true ∧ b.pwr.power = .asleep)
    (fun b u => u.pwr.power = .up ∧ u.get F.PWR_WAKE_WAKE_SRC = src ∧
      u.get F.EVR_PCYC_PCYC = satN 24 (b.get F.EVR_PCYC_PCYC + 1) ∧
      (b.flag F.PWR_WAKE_LINE_WAKE = true → .wakeBurst true ∈ u.out ∧ .wakeBurst false ∈ u.out))) ∧
  Does (fun t => .wake t 3) (fun b => b.sound = true ∧ b.pwr.power = .up ∧ b.pwr.sleepAt.isSome = true ∧ b.flag F.PWR_WAKE_LINE_WAKE = true)
    (fun b u => u.pwr = { b.pwr with sleepAt := none } ∧ u.flag F.PWR_WAKE_SLEEP_CANCELLED = true) ∧
  (∀ n, n < 4 → Does (fun t => .canWake t n)
    (fun b => b.sound = true ∧ b.pwr.power = .asleep ∧ b.flag (F.MDB_C_CFG_WAKE_EN n) = true ∧ b.get (F.MDB_C_CFG_MODE n) ≠ 0)
    (fun _ u => u.pwr.power = .up ∧ u.get F.PWR_WAKE_WAKE_SRC = 2 ∧ u.get F.PWR_WAKE_WAKE_CAN = n)) ∧
  (∀ i, i < 4 → Does (fun t => .camLimit t i)
    (fun b => b.sound = true ∧ powered b = true ∧ b.bit F.PWR_OUT_CAM_PWR i = true)
    (fun b u => u.bit F.PWR_OUT_STAT_CAM_LIMIT i = true ∧ FieldsKept [F.PWR_OUT_STAT_CAM_LIMIT] b u)) ∧
  (∀ mask : BitVec 2, Does (fun t => .sensLimit t mask) (fun b => b.sound = true ∧ powered b = true)
    (fun b u => u.get F.PWR_OUT_STAT_SENS_LIMIT = Nat.land mask.toNat (b.get F.PWR_OUT_SENS_EN) ∧
      FieldsKept [F.PWR_OUT_STAT_SENS_LIMIT] b u)) ∧
  Does .limpMapLatch
    (fun b => b.sound = true ∧ powered b = true ∧ b.load.latchedMap = none ∧ b.role.role ≠ .unlatched ∧ hasImage (boot 0 b) 0 = true ∧
      trialSlot b 0 = none ∧ mapGood (storedMap b) (storedMapCrc b) = true)
    (fun b u => u.die.sigUp = true ∧ u.load.latchedMap = some (mapSources (storedMap b)) ∧ u.flag F.LSW_LIMP_MAP_LATCHED = true ∧
      u.flag F.EVR_DEADMAN_SIG_ARMED = true)

/-! ### Sessions and requests with time -/

/-- What ends with time in the packet layer (R90, R91, R95, R102, R107, R140): a reserved number, an idle session, unlocks, and a transfer
of ISO 15765-2. -/
def Obligations.SessionExpiryRows : Prop :=
  (∀ n x, Does (fun t => .openPendingExpiry t n) (fun b => findSession b n = some x ∧ x.isOpen = false ∧ x.openBy ≤ b.now)
    (fun _ u => findSession u n = none)) ∧
  (∀ n x, Does (fun t => .openPendingExpiry t n) (fun b => findSession b n = some x ∧ (x.isOpen = true ∨ b.now < x.openBy))
    (fun b u => u = b)) ∧
  (∀ n x, Does (fun t => .sessionIdleClose t n)
    (fun b => findSession b n = some x ∧ x.isOpen = true ∧ ownsSession n b = true ∧ x.lastAuth + 30 * sec ≤ b.now)
    (fun _ u => findSession u n = none)) ∧
  (∀ n x, Does (fun t => .sessionIdleClose t n) (fun b => findSession b n = some x ∧ b.now < x.lastAuth + 30 * sec) (fun b u => u = b)) ∧
  (∀ n x, Does (fun t => .unlockExpiry t n) (fun b => findSession b n = some x)
    (fun b u => ∃ y, findSession u n = some y ∧ y.unlocked = x.unlocked.filter (fun e => decide (b.now < e.2)) ∧ u.regs = b.regs ∧
      ∀ k, k ≠ n → findSession u k = findSession b k)) ∧
  (∀ x : IsoTp, Does .isoTpTimeout (fun b => b.pk.isoRx = some x ∧ x.deadline.any (fun e => decide (e ≤ b.now)) = true ∧ b.pk.isoTx = none ∧ b.pk.asUntil = none)
    (fun b u => u = { b with pk := { b.pk with isoRx := none } }))

/-- Requests that wait (R65, R66, R90, R91, R118, R123): the interim reply every 20 ms, the end of tFWD_TIMEOUT, the service of the
queue, the release of a mirrored reply, and the answer after a restart of the owning die. -/
def Obligations.WaitingRequestRows : Prop :=
  (∀ (w : Waiting) ip port, Does .interimRepeat
    (fun b => b.die.yardUp = true ∧ b.pk.waiting = [w] ∧ w.orphan = false ∧ w.interimAt ≤ b.now ∧ w.req.via = .host ip port)
    (fun b u => u.pk.waiting = [{ w with interimAt := w.interimAt + 20 * ms }] ∧ u.regs = b.regs ∧
      ∃ r, u.out = [.packet w.req.via r] ∧ r.status = St.queued ∧ bitAt r.flags 4 = true ∧ r.sequence = w.req.sequence.toNat)) ∧
  (∀ (w : Waiting) (n : Nat) ip port, Does .forwardTimeout
    (fun b => b.die.yardUp = true ∧ b.pk.waiting = [w] ∧ w.job = .forward n ∧ w.timeoutAt ≤ b.now ∧ w.leaving = [] ∧ w.orphan = false ∧
      w.req.via = .host ip port ∧ reliefPresent b = false)
    (fun b u => u.pk.waiting = [] ∧ u.pk.fwdTimeouts = (b.pk.fwdTimeouts + 1) % 4294967296 ∧
      ∃ r, u.out = [.packet w.req.via r] ∧ r.status = St.forwardTimeout ∧ r.admitted = 2)) ∧
  (∀ (w : Waiting) (info : OpInfo), Does .standingServe
    (fun b => b.die.yardUp = true ∧ b.pk.waiting = [w] ∧ servable opTable b w = true ∧ opTable w.opcode = some info ∧
      2 < w.opcode ∧ placeOf b w.opcode info.bcast w.req ≠ .all)
    (fun b u => u = settle (concludeRun w.reserved true w.opcode w.req (info.run w.req { b with
      pk := { b.pk with
        waiting := [], service := ((b.now - max w.arrived b.pk.lastServed) :: b.pk.service).take 64, lastServed := b.now } })))) ∧
  (∀ (w : Waiting) (r : Reply) ip port, Does .mirroredReplyRelease
    (fun b => b.die.yardUp = true ∧ b.pk.waiting = [w] ∧ w.job = .mirror r ∧ mirrored b w = true ∧ w.orphan = false ∧
      w.req.via = .host ip port)
    (fun b u => u.pk.waiting = [] ∧ u.out = [.packet w.req.via r] ∧ u.regs = b.regs)) ∧
  (∀ (w : Waiting) (x : Session), Does .ownerRestartReply
    (fun b => b.die.sigUp = true ∧ b.die.yardUp = true ∧ b.die.dropped = [w] ∧ transportOpen b w.req.via = true ∧ w.orphan = false ∧
      findSession b w.req.session.toNat = some x ∧ reliefPresent b = false)
    (fun _ u => u.die.dropped = [] ∧ ∃ r, .packet w.req.via r ∈ u.out ∧ r.status = St.ownerRestart ∧ r.admitted = 2 ∧
      r.sequence = w.req.sequence.toNat)) ∧
  (∀ (w : Waiting) (n : Nat) (r : Reply) ip port, Does (fun t => .forwardedReply t n r)
    (fun b => isTerminus b = true ∧ b.die.yardUp = true ∧ crc32c (replyBody r r.auth) = r.crc ∧ r.session ≠ 0 ∧ bitAt r.flags 3 = false ∧
      bitAt r.flags 4 = false ∧ b.pk.waiting = [w] ∧ isWaitingFor r.session r.sequence w = true ∧ w.job = .forward n ∧ w.orphan = false ∧
      w.req.via = .host ip port ∧ reliefPresent b = false)
    (fun _ u => u.pk.waiting = [] ∧ ∃ q, u.out = [.packet w.req.via q] ∧ q.status = r.status ∧ q.origin = n ∧
      q.admitted = (if r.admitted = 0 ∧ w.reserved = false then 1 else r.admitted) ∧ q.result = r.result)) ∧
  (∀ (th : Throw) (n : Nat) (r : Reply), Does (fun t => .forwardedReply t n r)
    (fun b => isTerminus b = true ∧ b.die.yardUp = true ∧ crc32c (replyBody r r.auth) = r.crc ∧ r.session = 0 ∧ r.opcode = 0x0202 ∧
      b.sets.throw = some th ∧ r.sequence = th.cycle ∧ r.status = St.ok ∧ th.armedOk.contains n = false)
    (fun b u => u = { b with sets := { b.sets with throw := some { th with armedOk := th.armedOk ++ [n] } } }))

/-- Events leave for a session in one EVENT packet of at most 87 records, its EVENT counter advanced and LOST reported (R718–R720). -/
def Obligations.EventRows : Prop :=
  ∀ (n : Nat) (x : Session) (ip : BitVec 32) (port : BitVec 16), Does (fun t => .eventSend t n)
    (fun b => b.sound = true ∧ findSession b n = some x ∧ x.isOpen = true ∧ b.die.yardUp = true ∧ eventDue b.now x = true ∧
      x.via = .host ip port)
    (fun b u => ∃ r y, u.out = [.packet x.via r] ∧ r.opcode = 0x0F00 ∧ bitAt r.flags 3 = true ∧
      r.sequence = (b.get (F.EVT_SEQ_SEQ (n - 1)) + 1) % 4294967296 ∧
      u.get (F.EVT_SEQ_SEQ (n - 1)) = (b.get (F.EVT_SEQ_SEQ (n - 1)) + 1) % 4294967296 ∧
      r.result = leBytes 1 (x.evQueue.take 87).length ++ leBytes 1 x.evLost ++ leBytes 2 0 ++
        (x.evQueue.take 87).flatMap (fun e => recordBytes e.1) ∧
      findSession u n = some y ∧ y.evQueue = x.evQueue.drop 87 ∧ y.evLost = 0)

/-- ARP and ICMP are answered on both network ports (R89, R280); MIN_SLACK, the height map and its remap, GNS_PPS_DELAY and STOP of a DMA
channel have effects of their own (R307, R431, R511, R543, R661); readings of the inputs are held with the device time of their instant
(R274, R275, R399), a digital input that has changed with that of the scan, and a frequency input with that of its last edge. -/
def Obligations.InputAndRegisterRows : Prop :=
  (∀ q, Does (fun t => .hostArpIcmp t q)
    (fun b => b.die.yardUp = true ∧ islandOpen b 10 = true ∧ (isTerminus b = true ∨ isRelief b = true) ∧
      b.flag F.IDR_STRAP_STRAP_FAULT = false ∧ (∀ ip, q = .arp ip → ip = hostAddress b))
    (fun b u => u = { b with out := [.netReply true q] })) ∧
  (∀ q, Does (fun t => .sensorArpIcmp t q) (fun b => b.die.yardUp = true ∧ islandOpen b 10 = true)
    (fun b u => u = { b with out := [.netReply false q] })) ∧
  (∀ ip, Does (fun t => .hostArpIcmp t (.arp ip)) (fun b => ip ≠ hostAddress b) (fun b u => u = b)) ∧
  Does .minSlackRestart (fun b => b.sound = true)
    (fun b u => u.get F.CLE_SLACK_MIN_SLACK = 0xFFFF ∧ FieldsKept [F.CLE_SLACK_MIN_SLACK] b u) ∧
  (∀ n (v : BitVec 32), n < 64 → Does (fun t => .hmapWrite t n v) (fun b => b.sound = true ∧ b.die.yardUp = true)
    (fun b u => u.reg (Reg.FUS_HMAP n) = v.toNat ∧ RegsKept [Reg.FUS_HMAP n] b u ∧ u.fus = b.fus)) ∧
  Does .remapDone (fun b => b.die.yardUp = true)
    (fun b u => u = { b with fus := { b.fus with hmapInForce := (upFrom 0 128).map (fun n =>
      sx 16 (bitsAt (b.reg (Reg.FUS_HMAP (n / 2))) (16 * (n % 2)) 16)) } }) ∧
  (∀ v : BitVec 32, -1000000 ≤ v.toInt → v.toInt ≤ 1000000 → Does (fun t => .gnsPpsDelayWrite t v) (fun b => b.sound = true)
    (fun b u => u.gets F.GNS_PPS_DELAY_DELAY = v.toInt ∧ u.nav.ppsStored = v.toInt ∧ RegsKept [Reg.GNS_PPS_DELAY] b u)) ∧
  (∀ v : BitVec 32, v.toInt < -1000000 ∨ 1000000 < v.toInt → Does (fun t => .gnsPpsDelayWrite t v) (fun _ => True) (fun b u => u = b)) ∧
  (∀ c v, c < 32 → Does (fun t => .dmaStopWrite t c v) (fun b => b.sound = true ∧ b.die.yardUp = true)
    (fun b u => u.get (F.DMA_CH_CTRL_STOP c) = b2n v ∧
      u.get (F.DMA_CH_CTRL_STATE c) = (if v then (if (dmaChan b c).active then 2 else 3) else b2n (dmaChan b c).active) ∧
      RegsKept [Reg.DMA_CH_CTRL c] b u)) ∧
  (∀ i c, Does (fun t => .inputSample t (.analogue i c))
    (fun b => b.sound = true ∧ powered b = true ∧ islandOpen b 0 = true ∧ analogueInstant (deviceTime b) = true)
    (fun b u => lookupNum u.inp.ain i = some ((c.toNat : Int), deviceTime b) ∧ RegsKept [] b u ∧
      ∀ k, k ≠ i → lookupNum u.inp.ain k = lookupNum b.inp.ain k)) ∧
  (∀ i c, Does (fun t => .inputSample t (.acoustic i c))
    (fun b => b.sound = true ∧ powered b = true ∧ islandOpen b 1 = true ∧ acousticInstant (deviceTime b) = true)
    (fun b u => lookupNum u.inp.acoustic i = some ((c.toNat : Int), deviceTime b) ∧ RegsKept [] b u)) ∧
  (∀ i v, Does (fun t => .inputSample t (.frequency i v)) (fun b => powered b = true)
    (fun b u => lookupNum u.inp.freq i = some (v, deviceTime b) ∧ u.regs = b.regs)) ∧
  (∀ i ago, ago ≠ [] → ago.all (fun a => decide (a < 100 * us)) = true → Does (fun t => .inputSample t (.edges i ago))
    (fun b => b.sound = true ∧ powered b = true ∧ analogueInstant (deviceTime b) = true)
    (fun b u => u.inp = { b.inp with edgeAt := putNum b.inp.edgeAt i (ago.map (fun a => deviceTime b - a)) } ∧ RegsKept [] b u)) ∧
  (∀ l, Does (fun t => .inputSample t (.digital l)) (fun b => powered b = true)
    (fun b u => u.inp.din = l.toNat ∧ u.regs = b.regs ∧ ∀ k, k < 16 → lookupNum u.inp.dinAt k =
      if bitAt l.toNat k = bitAt b.inp.din k then lookupNum b.inp.dinAt k else some (deviceTime b))) ∧
  (∀ ax ay az gx gy gz, Does (fun t => .inputSample t (.inertial ax ay az gx gy gz))
    (fun b => powered b = true ∧ inertialInstant (deviceTime b) = true)
    (fun b u => u.inp = { b.inp with imu := [ax, ay, az, gx, gy, gz], imuAt := deviceTime b } ∧ u.regs = b.regs)) ∧
  (∀ mv ign, mv < 65536 → Does (fun t => .inputSample t (.logic mv ign)) (fun b => b.sound = true ∧ powered b = true)
    (fun _ u => u.get F.PWR_SUPPLY_LOGIC_MV = mv ∧ u.get F.PWR_SUPPLY_IGN = b2n ign ∧ (ign = true → u.pwr.ignLowFrom = none)))


/-! ### References, gates, levels and the logbook -/

/-- The judgement of the references (R601–R605, R607, R609, R614): the eighth window in tolerance judges a reference stable, the second
out of tolerance or tMISSING without an edge fails it, and without both the REF cause is latched; one that is stable again for 1 s takes
back its groups. Clock gates (R615–R617): open, close request, close once idle, close by force after tGATE_FORCE. -/
def Obligations.ClockRows : Prop :=
  (∀ xtal count ringT ringX, inTolerance (crossNominal xtal) count 100 1000000 = true →
    Does (fun t => .refWindow t xtal false count ringT ringX)
      (fun b => b.sound = true ∧ powered b = true ∧ ¬ (refState b (!xtal) = 3 ∧ refState b xtal ≠ 3) ∧ 7 ≤ (refPart b xtal).good)
      (fun _ u => refState u xtal = 1)) ∧
  (∀ xtal count ringT ringX, inTolerance (crossNominal xtal) count 100 1000000 = false → inTolerance (ringNominal false) ringT 7 100 = true →
    Does (fun t => .refWindow t xtal false count ringT ringX)
      (fun b => b.sound = true ∧ powered b = true ∧ refState b xtal ≠ 3 ∧ refState b (!xtal) ≠ 3 ∧ (refPart b xtal).bad = 1)
      (fun b u => refState u true = 3 ∧ refState u false = refState b false ∧ Flagged Src.CLK_REF_FAIL u ∧
        u.get F.CLK_CNT_XTAL_FAILS = satN F.CLK_CNT_XTAL_FAILS.width (b.get F.CLK_CNT_XTAL_FAILS + 1))) ∧
  (∀ xtal count ringT ringX, inTolerance (ringNominal xtal) count 7 100 = true → Does (fun t => .refWindow t xtal true count ringT ringX)
    (fun b => b.sound = true ∧ powered b = true ∧ (refPart b (!xtal)).present = false ∧ 7 ≤ (refPart b xtal).coarse ∧ refState b xtal ≠ 1)
    (fun _ u => refState u xtal = 2)) ∧
  (∀ xtal, Does (fun t => .refMissing t xtal)
    (fun b => b.sound = true ∧ powered b = true ∧ (refPart b xtal).present = true ∧ refState b xtal ≠ 3 ∧ refState b (!xtal) ≠ 3)
    (fun _ u => refState u xtal = 3 ∧ (refPart u xtal).present = false ∧ Flagged Src.CLK_REF_FAIL u)) ∧
  (∀ xtal, Does (fun t => .refMissing t xtal)
    (fun b => b.sound = true ∧ powered b = true ∧ (refPart b xtal).present = true ∧ refState b xtal ≠ 3 ∧ refState b (!xtal) = 3)
    (fun _ u => u.flag F.CLK_STATUS_BOTH_LOST = true ∧ u.flag F.LSW_LIMP_REF = true ∧ u.get F.CLK_SRC_TIME = 2 ∧
      u.get F.CLK_SRC_CAN = 3 ∧ Flagged Src.CLK_BOTH_LOST u)) ∧
  (∀ xtal at_, Does (fun t => .refReturn t xtal)
    (fun b => b.sound = true ∧ powered b = true ∧ (refPart b xtal).judgedAt = some at_ ∧ at_ + sec ≤ b.now ∧ refUsable b xtal = true)
    (fun _ u => (refPart u xtal).judgedAt = none ∧ ∀ g ∈ clockGroups, g.2.1 = xtal → u.get g.1 = b2n xtal)) ∧
  Does .refWaitTimeout
    (fun b => b.sound = true ∧ powered b = true ∧ refUsable b false = false ∧ refUsable b true = false ∧ 50 * ms ≤ b.now - b.pwr.logicAt ∧
      b.load.latchedMap.isSome = true)
    (fun _ u => u.flag F.LSW_LIMP_REF = true ∧ inLimp u = true ∧ u.clk.acceptCoarse = true) ∧
  Does .refWaitTimeout
    (fun b => powered b = true ∧ refUsable b false = false ∧ refUsable b true = false ∧ 20 * ms ≤ b.now - b.pwr.logicAt ∧
      b.now - b.pwr.logicAt < 50 * ms)
    (fun b u => u = { b with clk := { b.clk with acceptCoarse := true } }) ∧
  (∀ g, g < 12 → Does (fun t => .gateOpen t g) (fun b => b.sound = true ∧ powered b = true)
    (fun b u => gateState u g = 0 ∧ u.bit F.CLK_GATE_OPEN g = true ∧ (∀ k, k < 12 → k ≠ g → gateState u k = gateState b k) ∧
      FieldsKept [F.CLK_GATE_OPEN, F.CLK_GATE_STATE_STATE] b u)) ∧
  (∀ g, g < 12 → Does (fun t => .gateCloseRequest t g) (fun b => b.sound = true ∧ powered b = true ∧ gateState b g = 0)
    (fun b u => gateState u g = 1 ∧ u.bit F.CLK_GATE_OPEN g = false ∧ (g, b.now) ∈ u.clk.closing ∧
      (∀ k, k < 12 → k ≠ g → gateState u k = gateState b k) ∧ FieldsKept [F.CLK_GATE_OPEN, F.CLK_GATE_STATE_STATE] b u)) ∧
  (∀ g, g < 12 → Does (fun t => .gateClose t g) (fun b => b.sound = true ∧ powered b = true ∧ gateState b g = 1)
    (fun b u => gateState u g = 2 ∧ (∀ k, k < 12 → k ≠ g → gateState u k = gateState b k) ∧ FieldsKept [F.CLK_GATE_STATE_STATE] b u)) ∧
  (∀ g at_, g < 12 → Does (fun t => .gateForced t g)
    (fun b => b.sound = true ∧ b.clk.closing.find? (fun e => e.1 == g) = some (g, at_) ∧ gateState b g = 1 ∧ at_ + 64 * us ≤ b.now)
    (fun _ u => gateState u g = 3 ∧ Flagged Src.CLK_GATE_FORCED u))

/-- The level sequencer and its caps (R625, R627, R629): a check starts a raise or lowers by one level, a raise that the canary confirms
is in force, a failed one is counted and waits 100 ms, and the face temperature caps the level. -/
def Obligations.LevelRows : Prop :=
  (∀ canary, Does (fun t => .sequencerCheck t canary)
    (fun b => b.sound = true ∧ powered b = true ∧ b.die.yardUp = true ∧ b.flag F.CLK_STATUS_BOTH_LOST = false ∧ b.lvl.raising = none ∧
      curLevel b ≠ 0 ∧ canary ≤ Config.canaryLimit (curLevel b) ∧ curLevel b < targetLevel b ∧ b.lvl.retryAt ≤ b.now)
    (fun b u => u.lvl.raising = some (curLevel b + 1, b.now) ∧ u.flag F.PWR_LEVEL_STEPPING = true ∧ curLevel u = curLevel b ∧
      u.get F.PWR_VCORE_YARD_MV = 550 + 50 * (curLevel b + 1))) ∧
  (∀ canary, Does (fun t => .sequencerCheck t canary)
    (fun b => b.sound = true ∧ powered b = true ∧ b.die.yardUp = true ∧ b.flag F.CLK_STATUS_BOTH_LOST = false ∧ b.lvl.raising = none ∧
      canary ≤ Config.canaryLimit (curLevel b) ∧ targetLevel b < curLevel b ∧ 1 < curLevel b)
    (fun b u => curLevel u = curLevel b - 1 ∧ Flagged Src.PWR_LEVEL_CHANGE u ∧ u.get F.PWR_VCORE_YARD_MV = 550 + 50 * (curLevel b - 1))) ∧
  (∀ canary n from_, Does (fun t => .levelRaiseDone t canary)
    (fun b => b.sound = true ∧ powered b = true ∧ b.flag F.CLK_STATUS_BOTH_LOST = false ∧ b.lvl.raising = some (n, from_) ∧
      n ≤ targetLevel b ∧ canary ≤ Config.canaryLimit n)
    (fun _ u => curLevel u = n ∧ u.lvl.raising = none ∧ u.flag F.PWR_LEVEL_STEPPING = false ∧ levelFails u n = 0)) ∧
  (∀ canary n from_, Does (fun t => .levelRaiseDone t canary)
    (fun b => b.sound = true ∧ powered b = true ∧ b.flag F.CLK_STATUS_BOTH_LOST = false ∧ b.lvl.raising = some (n, from_) ∧
      n ≤ targetLevel b ∧ Config.canaryLimit n < canary ∧ from_ + 2 * ms ≤ b.now ∧ levelFails b n = 0)
    (fun b u => curLevel u = curLevel b ∧ u.lvl.raising = none ∧ levelFails u n = 1 ∧ u.lvl.retryAt = b.now + 100 * ms ∧
      Flagged Src.PWR_CANARY_FAIL u)) ∧
  (∀ face yard sigMv, face < 770 → Does (fun t => .faceTempRead t face yard sigMv) (fun b => b.sound = true ∧ powered b = true)
    (fun _ u => u.get F.PWR_LEVEL_CAP = 7)) ∧
  (∀ face yard sigMv, 800 < face → face < 920 → Does (fun t => .faceTempRead t face yard sigMv)
    (fun b => b.sound = true ∧ powered b = true)
    (fun b u => u.get F.PWR_LEVEL_CAP = 5 ∧ (b.get F.PWR_LEVEL_CAP = 7 → Flagged Src.PWR_CAP_IN u))) ∧
  (∀ face yard sigMv, 1050 < face → Does (fun t => .faceTempRead t face yard sigMv)
    (fun b => b.sound = true ∧ powered b = true ∧ b.lvl.hot = false)
    (fun _ u => u.get F.PWR_LEVEL_CAP = 3 ∧ Flagged Src.PWR_OVER_TEMP u))

/-- The logbook (R705, R722, R723, R730): an operating second is counted with the level in its histogram, a commit reaches MRAM or
raises LOG_COMMIT, a flash block whose repeat fails is retired. The dead-men (R733–R736): a restart by the firmware arms them again, an
expiry is counted and restarts its die; that of the Signal die latches limp mode. -/
def Obligations.LogbookAndDeadmanRows : Prop :=
  (∀ l, Does (fun t => .histogramSecond t l) (fun b => b.sound = true ∧ powered b = true ∧ sec ≤ partSecond b)
    (fun b u => u.get F.EVR_OPSEC_OPSEC = satN 32 (b.get F.EVR_OPSEC_OPSEC + 1) ∧ partSecond u + sec = partSecond b ∧
      histCount u.ev.live 10 (curLevel b) = satN 32 (histCount b.ev.live 10 (curLevel b) + 1) ∧ u.ev.second = [] ∧
      RegsKept [Reg.EVR_OPSEC] b u)) ∧
  (∀ l, Does (fun t => .histogramSecond t l) (fun b => powered b = false ∨ partSecond b < sec) (fun b u => u = b)) ∧
  Does (fun t => .logCommit t true) (fun b => b.sound = true ∧ powered b = true ∧ b.ev.commitAt ≤ b.now)
    (fun b u => u.ev.mram = b.ev.live ∧ u.ev.commitAt = b.now + 60 * sec ∧ u.get F.EVR_COMMIT_LAST = b.get F.EVR_OPSEC_OPSEC ∧
      u.ev.opsecMram = b.get F.EVR_OPSEC_OPSEC ∧ u.ev.ring = b.ev.ring) ∧
  Does (fun t => .logCommit t false) (fun b => b.sound = true ∧ powered b = true ∧ b.ev.commitAt ≤ b.now)
    (fun b u => u.ev.mram = b.ev.mram ∧ Flagged Src.EVR_LOG_COMMIT u) ∧
  (∀ log siding block, Does (fun t => .flashOperationFail t log false siding block) (fun b => b.die.yardUp = true)
    (fun b u => u = fault 0x50 1 0xFF (if log then 5 else 4) block 0 0 b)) ∧
  (∀ siding block, Does (fun t => .flashOperationFail t true true siding block) (fun b => b.sound = true ∧ b.die.yardUp = true)
    (fun b u => isRetired 5 0 block u = true ∧ u.reg Reg.UPD_SECURITY = b.reg Reg.UPD_SECURITY)) ∧
  (∀ block, Does (fun t => .flashOperationFail t false true false block)
    (fun b => b.sound = true ∧ b.die.yardUp = true ∧ b.get F.DMA_RETIRED_SPARES ≠ 0)
    (fun b u => isRetired 4 0 block u = true ∧ u.get F.DMA_RETIRED_SPARES = b.get F.DMA_RETIRED_SPARES - 1)) ∧
  Does (fun t => .deadmanRestart t true) (fun b => b.sound = true ∧ b.die.yardUp = true)
    (fun b u => u.ev.yardDeadman = some b.now ∧ u.flag F.EVR_DEADMAN_YARD_ARMED = true ∧ FieldsKept [F.EVR_DEADMAN_YARD_ARMED] b u) ∧
  Does (fun t => .deadmanRestart t false) (fun b => b.sound = true ∧ b.die.sigUp = true ∧ b.flag F.LSW_LIMP_MAP_LATCHED = true)
    (fun b u => u.ev.sigDeadman = some b.now ∧ u.flag F.EVR_DEADMAN_SIG_ARMED = true ∧ u.flag F.LSW_LIMP_DEADMAN = false ∧
      FieldsKept [F.EVR_DEADMAN_SIG_ARMED, F.LSW_LIMP_DEADMAN] b u) ∧
  (∀ at_, Does .signalDeadmanExpiry
    (fun b => b.sound = true ∧ powered b = true ∧ b.ev.sigDeadman = some at_ ∧ at_ + 95 * ms ≤ b.now ∧ unhealthyTrial b 0 = false)
    (fun b u => u.die.sigUp = false ∧ u.ev.sigDeadman = none ∧ u.flag F.LSW_LIMP_DEADMAN = true ∧
      u.get F.EVR_DEADMAN_SIG_EXP = satN 8 (b.get F.EVR_DEADMAN_SIG_EXP + 1) ∧ Flagged Src.EVR_DEADMAN_EXPIRED u ∧
      (b.load.latchedMap.isSome = true → inLimp u = true))) ∧
  (∀ at_, Does .yardDeadmanExpiry
    (fun b => b.sound = true ∧ powered b = true ∧ b.ev.yardDeadman = some at_ ∧ at_ + 475 * ms ≤ b.now ∧ unhealthyTrial b 1 = false)
    (fun b u => u.die.yardUp = false ∧ u.ev.yardDeadman = none ∧ u.die.sigUp = b.die.sigUp ∧
      u.get F.EVR_DEADMAN_YARD_EXP = satN 8 (b.get F.EVR_DEADMAN_YARD_EXP + 1) ∧ Flagged Src.EVR_DEADMAN_EXPIRED u))


/-! ### The Line -/

/-- Cycles (R157, R167, R175, R196, R197, R204, R206): the boundary counts what the cycle brought and begins the next one, RES_END counts
misses, and the limits of lost frames take effect. -/
def Obligations.LineCycleRows : Prop :=
  Does .cycleBoundary
    (fun b => b.sound = true ∧ cycleOver b = true ∧ b.line.yieldRole = false ∧ b.sets.sigToken = none ∧ b.sets.lateAt = none ∧
      isTerminus b = false)
    (fun b u => u.get F.LIN_CYCLE_CYCLE = cycle32 b ∧ u.line.seen = [] ∧ u.line.done = [] ∧ u.line.csEarly = false ∧
      u.line.heard = (if b.line.csEarly then [0x40] else []) ∧ u.line.csHops = (if b.line.csEarly then b.line.csHops else none) ∧
      (b.line.csHops.isSome = true → u.line.freeRun = 0 ∧ u.line.syncRun = b.line.syncRun + 1) ∧
      (b.line.csHops = none → u.line.freeRun = b.line.freeRun + 1 ∧ u.line.syncRun = 0 ∧
        u.get F.LIN_STATUS_MISSED = satN 8 (b.get F.LIN_STATUS_MISSED + 1))) ∧
  (∀ x, Does .resEndMiss
    (fun b => b.die.yardUp = true ∧ cycleOver b = false ∧ inBestEffort b = true ∧ doneNow b 0 = false ∧
      x ∈ slots b ∧ x.cls = 0 ∧ addressed b x = true ∧ sends b x = false ∧
      b.line.seen.contains x.entry = false)
    (fun b u => missesOf u x.entry = min 255 (missesOf b x.entry + 1) ∧ doneNow u 0 = true ∧ u.regs = b.regs)) ∧
  Does .lineLost
    (fun b => b.sound = true ∧ isTerminus b = false ∧ b.die.yardUp = true ∧ b.flag F.LIN_STATUS_LINE_LOST = false ∧
      5 ≤ b.get F.LIN_STATUS_MISSED)
    (fun b u => u.flag F.LIN_STATUS_LINE_LOST = true ∧ u.flag F.LIN_STATUS_SYNCED = false ∧ Flagged Src.LIN_LINE_LOST u ∧
      ∀ e ∈ usedEntries b 4, e ∈ u.eng.lostEntries) ∧
  (∀ entry, Does (fun t => .entryMissLimit t entry)
    (fun b => 5 ≤ missesOf b entry ∧ b.flag F.LIN_STATUS_LINE_LOST = false ∧ b.eng.lostEntries.contains entry = false ∧
      (usedEntries b 4).contains entry = true)
    (fun b u => u.eng.lostEntries = b.eng.lostEntries ++ [entry] ∧ u.line = b.line)) ∧
  Does .freeRunLimit (fun b => b.sound = true ∧ isTerminus b = false ∧ 32 ≤ b.line.freeRun)
    (fun b u => u.flag F.LIN_STATUS_IN_TIMETABLE = false ∧ FieldsKept [F.LIN_STATUS_IN_TIMETABLE] b u) ∧
  Does .syncAchieved (fun b => b.sound = true ∧ isTerminus b = false ∧ b.die.yardUp = true ∧ 16 ≤ b.line.syncRun)
    (fun b u => u.flag F.LIN_STATUS_SYNCED = true ∧ FieldsKept [F.LIN_STATUS_SYNCED] b u) ∧
  (∀ c, Does .timetableStart
    (fun b => b.sound = true ∧ b.line.startCycle = some c ∧ b.die.yardUp = true ∧ b.role.joined = true ∧ cycleReached (cycle32 b) c = true ∧
      b.get F.LIN_STATUS_HOLD_OUT = 0 ∧ b.flag F.CFG_STATE_SET_MISMATCH = false ∧ b.flag F.LIN_STATUS_LINE_LOST = false)
    (fun b u => u.flag F.LIN_STATUS_IN_TIMETABLE = true ∧ FieldsKept [F.LIN_STATUS_IN_TIMETABLE] b u))

/-- Frames of the reserved window (R156, R163–R166, R171, R172): a queued frame leaves in both copies, each at its own offset, a frame is
forwarded with one hop more, the first copy of a DATA frame gives the entry's value and its second is counted, a fragment begins its packet. -/
def Obligations.ReservedFrameRows : Prop :=
  (∀ x q, Does (fun t => .entrySend t x.entry)
    (fun b => slotNo b x.entry = some x ∧ x.entry ≠ 0 ∧ sends b x = true ∧ sendsNow b = true ∧ copyDue b x true = true ∧ copyDue b x false = true ∧
      doneNow b (16 + x.entry) = false ∧ x.cls = 1 ∧ b.flag F.LIN_STATUS_LINE_LOST = false ∧ b.line.replyWait = [] ∧
      b.line.queues.find? (fun e => e.1 == x.entry) = some q ∧ portOpen b true = true ∧ portOpen b false = true)
    (fun b u => u.out = [.lineFrame true (reservedFrame b 3 x.sender x.entry x.len true q.2),
        .lineFrame false (reservedFrame b 3 x.sender x.entry x.len false q.2)] ∧
      u.line.queues = removeFirst (fun e => e.1 == x.entry) b.line.queues ∧ doneNow u (16 + x.entry) = true ∧ u.regs = b.regs)) ∧
  (∀ x q east, Does (fun t => .entrySend t x.entry)
    (fun b => slotNo b x.entry = some x ∧ x.entry ≠ 0 ∧ sends b x = true ∧ sendsNow b = true ∧ copyDue b x east = true ∧
      copyDue b x (!east) = false ∧ doneNow b (16 + x.entry) = false ∧ x.cls = 1 ∧ b.flag F.LIN_STATUS_LINE_LOST = false ∧
      b.line.queues.find? (fun e => e.1 == x.entry) = some q ∧ portOpen b east = true)
    (fun b u => u.out = [.lineFrame east (reservedFrame b 3 x.sender x.entry x.len east q.2)] ∧
      (x.entry, !east, reservedFrame b 3 x.sender x.entry x.len (!east) q.2) ∈ u.line.laterCopies)) ∧
  (∀ east f residence, Does (fun t => .lineFrameForward t east f residence)
    (fun b => isReserved f = true ∧ portOpen b east = true ∧ portOpen b (!east) = true ∧ headGood f = true ∧ notForwarded b f = false)
    (fun b u => u = { b with out := [.lineFrame (!east) (forwarded f residence (b.get (delayField east)))] })) ∧
  (∀ east f x, Does (fun t => .reservedFrameReceive t east f [] none)
    (fun b => f.type = 2#8 ∧ FreshFrame b east f ∧ slotNo b f.entry.toNat = some x ∧ x.entry = f.entry.toNat ∧
      addressed b x = true ∧ x.cls = 0 ∧ isMirrorEntry x = false ∧ b.flag F.LIN_STATUS_LINE_LOST = false ∧
      b.line.valuesFrom ≤ cycleNow b)
    (fun b u => (x.entry, cycleNow b, f.payload) ∈ u.line.values ∧ x.entry ∈ u.line.seen ∧ missesOf u x.entry = 0)) ∧
  (∀ east f x, Does (fun t => .reservedFrameReceive t east f [] none)
    (fun b => f.type = 2#8 ∧ FreshFrame b east f ∧ slotNo b f.entry.toNat = some x ∧ x.entry = f.entry.toNat ∧
      (addressed b x = false ∨ cycleNow b < b.line.valuesFrom))
    (fun b u => u.line.values = b.line.values ∧ x.entry ∈ u.line.seen)) ∧
  (∀ east f regions mirror, Does (fun t => .reservedFrameReceive t east f regions mirror)
    (fun b => f.type = 2#8 ∧ srcIsOwn b f.src.toNat = false ∧ portOpen b east = true ∧ frameGood f = true ∧
      f.cycle.toNat = b.get F.LIN_CYCLE_CYCLE ∧ f.setId.toNat = ownSetId b ∧ b.line.seen.contains f.entry.toNat = true)
    (fun b u => u = b.wrapUp F.LIN_DROP_DUPLICATES 1)) ∧
  (∀ east f x, Does (fun t => .queuedFrameReceive t east f)
    (fun b => f.type = 3#8 ∧ FreshFrame b east f ∧ slotNo b f.entry.toNat = some x ∧ x.entry = f.entry.toNat ∧
      addressed b x = true ∧ x.cls = 1 ∧ fieldAt f.payload 1 1 = 0 ∧ 1 ≤ fieldAt f.payload 2 2 ∧
      fieldAt f.payload 2 2 + 4 ≤ f.payload.length)
    (fun _ u => partialPacket u x.entry f.src.toNat = some {
      entry := x.entry, src := f.src.toNat, pktId := fieldAt f.payload 0 1, nextFrag := 1,
      data := (f.payload.drop 4).take (fieldAt f.payload 2 2) }))

/-- CYCLE_START (R15, R194, R214): a module takes the first copy of its cycle; a holder that hears another stands down within 100 ms of
its first own, and later, or once it has taken over, yields with MASTER_MERGE where the other is preferred. -/
def Obligations.CycleStartRows : Prop :=
  (∀ east f holder, holder < 64 → Does (fun t => .cycleStartReceive t east f holder)
    (fun b => b.sound = true ∧ isTerminus b = false ∧ portOpen b east = true ∧ f.type = 1#8 ∧ frameGood f = true ∧
      f.cycle.toNat = b.get F.LIN_CYCLE_CYCLE ∧ b.line.csHops = none)
    (fun b u => u.line.csHops = some f.hops.toNat ∧ u.get F.LIN_POS_MASTER_NUM = holder ∧ u.get F.LIN_STATUS_MISSED = 0 ∧
      u.line.freeRun = 0 ∧ u.line.masterUid = fieldAt f.payload 16 8 ∧ u.line.lastCycleStart = some b.now ∧
      u.flag F.LIN_STATUS_LINE_LOST = false)) ∧
  (∀ east f, Does (fun t => .cycleStartFromHolder t east f)
    (fun b => b.sound = true ∧ isTerminus b = true ∧ portOpen b east = true ∧ f.type = 1#8 ∧ frameGood f = true ∧
      fieldAt f.payload 16 8 < ownUid b ∧ b.flag F.IDR_ROLE_TAKEN_OVER = false ∧
      (∀ x, b.role.firstCycleStart = some x → b.now < x + 100 * ms))
    (fun _ u => u.role.role = .stoodDown ∧ u.flag F.IDR_STRAP_ROLE_CONFLICT = true)) ∧
  (∀ east f x, Does (fun t => .cycleStartFromHolder t east f)
    (fun b => b.sound = true ∧ isTerminus b = true ∧ portOpen b east = true ∧ f.type = 1#8 ∧ frameGood f = true ∧
      fieldAt f.payload 16 8 ≠ ownUid b ∧
      (b.flag F.IDR_ROLE_TAKEN_OVER = true ∨ b.role.firstCycleStart = some x ∧ x + 100 * ms ≤ b.now) ∧
      (b.line.sentHeard < fieldAt f.payload 13 1 ∨ b.line.sentHeard = fieldAt f.payload 13 1 ∧ fieldAt f.payload 16 8 < ownUid b) ∧
      b.line.yieldRole = false)
    (fun _ u => u.line.yieldRole = true ∧ Flagged Src.LIN_MASTER_MERGE u))

/-- Joining (R182–R189): JOIN leaves, the holder accepts a new module for START_CYCLE three cycles ahead (the model's choice, log
entry 52) or holds it out, the module takes its number or code, and a silent module becomes absent. -/
def Obligations.JoinRows : Prop :=
  Does .joinSend
    (fun b => b.sound = true ∧ b.role.role ∈ [.station, .reliefClaim, .relief, .stoodDown, .noRole] ∧
      (∀ c, b.line.joinSent = some c → c + 100 ≤ cycleNow b) ∧ b.flag F.LIN_STATUS_SYNCED = true ∧ b.get F.LIN_POS_POS_E ≠ 0x7F ∧
      (b.line.joinAnswered = false ∨ b.flag F.CFG_STATE_SET_MISMATCH = true) ∧
      NoCheckOwed b (bePort b (b.get F.LIN_POS_MASTER_NUM)) ∧ LeavesNow b (bePort b (b.get F.LIN_POS_MASTER_NUM)) 1)
    (fun b u => u.line.joinSent = some (cycleNow b) ∧ ∃ e f, u.out = [.lineFrame e f] ∧ f.type = 0x10#8 ∧
      f.payload.take 8 = leBytes 8 (ownUid b)) ∧
  (∀ east f, Does (fun t => .joinReceive t east f)
    (fun b => b.sound = true ∧ isTerminus b = true ∧ f.type = 0x10#8 ∧ beForMe b east f = true ∧
      (memberOfUid b (fieldAt f.payload 0 8)).any (fun m => m.result == 0) = false ∧
      bitsAt (fieldAt f.payload 8 4) 8 8 = bitsAt (b.reg Reg.IDR_LINE_REV) 8 8 ∧ bitsAt (fieldAt f.payload 12 4) 0 2 ≠ 1 ∧ bitAt (fieldAt f.payload 12 4) 16 = false ∧ bitAt (fieldAt f.payload 12 4) 17 = false ∧
      bitAt (fieldAt f.payload 12 4) 2 = false ∧ fieldAt f.payload 16 1 ≠ joinNum b ∧ fieldAt f.payload 16 1 < 64 ∧
      otherHolder b (fieldAt f.payload 0 8) (fieldAt f.payload 16 1) = none ∧ f.setId.toNat = ownSetId b)
    (fun b u => Flagged Src.LIN_STATION_JOINED u ∧ ∃ m ∈ u.line.members, m.uid = fieldAt f.payload 0 8 ∧
      m.num = fieldAt f.payload 16 1 ∧ m.result = 0 ∧ m.relief = false ∧ m.mismatch = false ∧ m.startCycle = (cycle32 b + 3) % 4294967296)) ∧
  (∀ east f, Does (fun t => .joinReceive t east f)
    (fun b => b.sound = true ∧ isTerminus b = true ∧ f.type = 0x10#8 ∧ beForMe b east f = true ∧
      (memberOfUid b (fieldAt f.payload 0 8)).any (fun m => m.result == 0) = false ∧
      bitsAt (fieldAt f.payload 8 4) 8 8 ≠ bitsAt (b.reg Reg.IDR_LINE_REV) 8 8 ∧ fieldAt f.payload 16 1 < 64)
    (fun _ u => Flagged Src.LIN_HELD_OUT u ∧ ∃ m ∈ u.line.members, m.uid = fieldAt f.payload 0 8 ∧ m.result = 1)) ∧
  (∀ east f, Does (fun t => .joinAcceptReceive t east f)
    (fun b => b.sound = true ∧ isTerminus b = false ∧ f.type = 0x11#8 ∧ beForMe b east f = true ∧ fieldAt f.payload 0 8 = ownUid b ∧
      fieldAt f.payload 8 1 = 0)
    (fun _ u => u.role.joined = true ∧ u.line.everJoined = true ∧ u.line.joinAnswered = true ∧
      u.get F.IDR_ROLE_JOIN_NUM = fieldAt f.payload 9 1 % 64 ∧ u.line.startCycle = some (fieldAt f.payload 12 4) ∧
      u.get F.LIN_STATUS_HOLD_OUT = 0)) ∧
  (∀ east f, Does (fun t => .joinAcceptReceive t east f)
    (fun b => b.sound = true ∧ isTerminus b = false ∧ f.type = 0x11#8 ∧ beForMe b east f = true ∧ fieldAt f.payload 0 8 = ownUid b ∧
      1 ≤ fieldAt f.payload 8 1 ∧ fieldAt f.payload 8 1 ≤ 3)
    (fun _ u => u.role.joined = false ∧ u.line.startCycle = none ∧ u.get F.LIN_STATUS_HOLD_OUT = fieldAt f.payload 8 1 ∧
      u.flag F.LIN_STATUS_IN_TIMETABLE = false)) ∧
  (∀ n m, Does (fun t => .stationAbsent t n)
    (fun b => b.sound = true ∧ isTerminus b = true ∧ b.line.members = [m] ∧ m.num = n ∧ m.result = 0 ∧ m.absent = false ∧ 5 ≤ m.silent)
    (fun _ u => u.line.members = [{ m with absent := true }] ∧ Flagged Src.LIN_STATION_ABSENT u))

/-- Links (R155, R192, R198–R201): a link that drops makes a ring end, the first link up forwards at once and a later one stays a ring
end, the delay is measured, a CHECK frame is counted, one that answers a request clears the link, and an error that its second attempt
does not clear retires it at both ends. The bits of a CHECK frame are the model's (log entry 56). -/
def Obligations.LinkRows : Prop :=
  (∀ east, Does (fun t => .phyLinkDrop t east) (fun b => b.sound = true ∧ b.die.yardUp = true ∧ b.flag (upField east) = true)
    (fun b u => u.flag (upField east) = false ∧ portEnd u east = true ∧ (portEnd b east = false → Flagged Src.LIN_WRAP u) ∧
      u.flag (upField (!east)) = b.flag (upField (!east)) ∧ portEnd u (!east) = portEnd b (!east))) ∧
  (∀ east, Does (fun t => .phyLinkUp t east)
    (fun b => b.sound = true ∧ b.die.yardUp = true ∧ b.flag (upField east) = false ∧ isRetired 2 (b2n east) 0 b = false)
    (fun b u => u.flag (upField east) = true ∧ (port u east).linked = true ∧
      portEnd u east = ((port b east).linked && portEnd b east) ∧ FieldsKept [upField east, endField east] b u)) ∧
  (∀ east, Does (fun t => .linkClassify t east)
    (fun b => cycleOver b = true ∧ doneNow b (1 + b2n east) = false ∧ isRetired 2 (b2n east) 0 b = false ∧ 0 < (port b east).errors ∧
      (port b east).pendingErr = false)
    (fun b u => (port u east).pendingErr = true ∧ (port u east).lastErrors = (port b east).errors ∧ u.regs = b.regs)) ∧
  (∀ east, Does (fun t => .linkClassify t east)
    (fun b => b.sound = true ∧ cycleOver b = true ∧ doneNow b (1 + b2n east) = false ∧ isRetired 2 (b2n east) 0 b = false ∧
      0 < (port b east).errors ∧ (port b east).pendingErr = true)
    (fun _ u => isRetired 2 (b2n east) 0 u = true ∧ portEnd u east = true ∧ u.flag (retiredField east) = true ∧
      Flagged Src.LIN_LINK_RETIRED u)) ∧
  (∀ east, Does (fun t => .linkClassify t east)
    (fun b => b.sound = true ∧ cycleOver b = true ∧ doneNow b (1 + b2n east) = false ∧ isRetired 2 (b2n east) 0 b = false ∧
      (port b east).errors = 0 ∧ (port b east).pendingErr = true ∧ (port b east).checkOk = true)
    (fun _ u => (port u east).pendingErr = false ∧ isRetired 2 (b2n east) 0 u = false ∧ Flagged Src.LIN_LINK_TRANSIENT u)) ∧
  (∀ east, Does (fun t => .delayProbe t east)
    (fun b => LeavesNow b east 0 ∧ NoCheckOwed b east ∧ isRetired 2 (b2n east) 0 b = false ∧ (port b east).probeAt ≠ some (cycleNow b))
    (fun b u => (port u east).probeAt = some (cycleNow b) ∧ ∃ f, u.out = [.lineFrame east f] ∧ f.type = 0x12#8)) ∧
  (∀ east f turnaround, Does (fun t => .delayReqReceive t east f turnaround)
    (fun b => LeavesNow b east 1 ∧ NoCheckOwed b east ∧ isRetired 2 (b2n east) 0 b = false ∧ frameGood f = true ∧ f.type = 0x12#8)
    (fun _ u => ∃ g, u.out = [.lineFrame east g] ∧ g.type = 0x13#8 ∧ g.payload.take 4 = leBytes 4 turnaround)) ∧
  (∀ east f roundTrip, Does (fun t => .delayRespReceive t east f roundTrip)
    (fun b => b.sound = true ∧ portUp b east = true ∧ frameGood f = true ∧ f.type = 0x13#8 ∧ (port b east).probeAt = some (cycleNow b) ∧
      (port b east).delays = [])
    (fun b u => u.get (delayField east) = satN 16 (roundDiv ((roundTrip - fieldAt f.payload 0 4 : Nat) : Int) 2).toNat ∧
      (port u east).delays = [roundTrip - fieldAt f.payload 0 4] ∧ FieldsKept [delayField east] b u)) ∧
  (∀ east f, Does (fun t => .checkReceive t east f)
    (fun b => portUp b east = true ∧ frameGood f = true ∧ f.type = 0x14#8 ∧ fieldAt f.payload 0 1 = 0)
    (fun b u => port u east = { port b east with
        checkSeen := true, goodChecks := (port b east).goodChecks + 1, peerRetired := false, asking := false } ∧
      port u (!east) = port b (!east) ∧ u.regs = b.regs ∧ u.out = [])) ∧
  (∀ east f, Does (fun t => .checkReceive t east f)
    (fun b => portUp b east = true ∧ frameGood f = true ∧ f.type = 0x14#8 ∧ fieldAt f.payload 0 1 = 0x20)
    (fun b u => (port u east).checkOk = true ∧ (port u east).goodChecks = (port b east).goodChecks + 1 ∧ u.regs = b.regs)) ∧
  (∀ east f, Does (fun t => .checkReceive t east f)
    (fun b => b.sound = true ∧ portUp b east = true ∧ frameGood f = true ∧ f.type = 0x14#8 ∧ fieldAt f.payload 0 1 = 2 ∧
      (port b east).asking = false ∧ isRetired 2 (b2n east) 0 b = false)
    (fun _ u => isRetired 2 (b2n east) 0 u = true ∧ portEnd u east = true ∧ u.flag (retiredField east) = true ∧
      Flagged Src.LIN_LINK_RETIRED u))

/-- Best-effort frames (R155, R176–R178, R670): the oldest waiting one leaves, a bad one is a link error and is passed on
marked, a ring end turns one back, and the holder relays a diagnostic datagram. -/
def Obligations.BestEffortRows : Prop :=
  (∀ type dest payload rest, Does .beFrameSend
    (fun b => b.die.yardUp = true ∧ inBestEffort b = true ∧ doneNow b 4 = true ∧ b.line.beQueue = (type, dest, payload) :: rest ∧
      dest < 0x100 ∧ payload.length ≤ 1536 ∧ LeavesNow b (bePort b dest) ((payload.length + 63) / 64))
    (fun b u => u.line.beQueue = rest ∧ ∃ f, u.out = [.lineFrame (bePort b dest) f] ∧ f.type = BitVec.ofNat 8 type ∧
      f.dest = BitVec.ofNat 8 dest ∧ f.payload.take payload.length = payload)) ∧
  (∀ east f, Does (fun t => .beFrameReceive t east f)
    (fun b => b.sound = true ∧ isReserved f = false ∧ oneHop f = false ∧ portOpen b east = true ∧ frameGood f = false ∧
      frameMarked f = false)
    (fun b u => (port u east).errors = (port b east).errors + 1 ∧
      u.get (if east then F.LIN_ERR_E_LINK_ERR else F.LIN_ERR_W_LINK_ERR) =
        satN (if east then F.LIN_ERR_E_LINK_ERR else F.LIN_ERR_W_LINK_ERR).width
          (b.get (if east then F.LIN_ERR_E_LINK_ERR else F.LIN_ERR_W_LINK_ERR) + 1))) ∧
  (∀ east f, Does (fun t => .beFrameReceive t east f)
    (fun b => isReserved f = false ∧ oneHop f = false ∧ frameGood f = true ∧ f.turned = false ∧ beOwn b f = false ∧
      portOpen b (!east) = false ∧ f.dest.toNat ≠ joinNum b ∧
      (b.get F.LIN_CFG_N_LINE = 0 ∨ f.hops.toNat < 2 * b.get F.LIN_CFG_N_LINE) ∧ (f.dest = 0xFF#8 → f.type ≠ 0x16#8) ∧
      LeavesNow b east f.len.toNat)
    (fun _ u => ∃ g, u.out = [.lineFrame east g] ∧ g.turned = true ∧ g.hops = f.hops + 1#8 ∧ g.payload = f.payload)) ∧
  (∀ east f, Does (fun t => .beFrameReceive t east f)
    (fun b => isReserved f = false ∧ oneHop f = false ∧ headGood f = true ∧ frameGood f = false ∧ f.turned = false ∧ beOwn b f = false ∧
      portOpen b (!east) = false ∧ f.dest.toNat ≠ joinNum b ∧
      (b.get F.LIN_CFG_N_LINE = 0 ∨ f.hops.toNat < 2 * b.get F.LIN_CFG_N_LINE) ∧ LeavesNow b east f.len.toNat)
    (fun _ u => ∃ g, u.out = [.lineFrame east g] ∧ g.turned = true ∧ g.payload = f.payload ∧ g.fcs = ~~~BitVec.ofNat 32 (frameCheck g))) ∧
  (∀ east f num n session udp ip, Does (fun t => .diagReceive t east f)
    (fun b => isTerminus b = true ∧ f.type = 0x15#8 ∧ beForMe b east f = true ∧ b.dma.diagAt = some (num, n, session, udp) ∧
      sessionAddress b session = some ip)
    (fun b u => u = { b with out := [.datagram ip udp (f.payload.take (24 + fieldAt f.payload 20 2))] }))

/-- The terminus role changes (R211–R213, R765, R766): the relief terminus decides after three cycles, takes the role, and a handover
exchanges the roles. -/
def Obligations.RoleChangeRows : Prop :=
  (∀ c, Does .takeoverDecision
    (fun b => isRelief b = true ∧ cycleOver b = true ∧ doneNow b 3 = false ∧ b.line.csHops = none ∧
      b.get F.LIN_CFG_N_LINE < heardCount b * 2 ∧ 2 ≤ b.line.run ∧ b.line.mirrorAt = some c ∧
      cycleNow b - 1 - b.get F.LIN_STATUS_MISSED ≤ c + 4)
    (fun b u => u.line.takeoverDue = true ∧ u.line.run = b.line.run + 1 ∧ u.role = b.role ∧ u.regs = b.regs)) ∧
  Does .takeover (fun b => b.sound = true ∧ b.line.takeoverDue = true ∧ isRelief b = true ∧ b.die.yardUp = true ∧ cycleOver b = true)
    (fun b u => u.role.role = .terminus ∧ u.line.takeoverDue = false ∧ u.line.takeoverFlag = true ∧ u.flag F.IDR_ROLE_TAKEN_OVER = true ∧
      u.get F.IDR_ROLE_CUR_ROLE = 2 ∧ u.get F.LIN_POS_MASTER_NUM = joinNum b ∧ Flagged Src.LIN_ROLE_TAKEOVER u) ∧
  (∀ h uid, Does (fun t => .handover t true)
    (fun b => b.sound = true ∧ b.die.yardUp = true ∧ isTerminus b = true ∧ b.upd.handover = some (h, uid) ∧ cycleReached (cycle32 b) h = true)
    (fun _ u => u.role.role = .relief ∧ u.upd.handover = none ∧ u.get F.IDR_ROLE_CUR_ROLE = 1 ∧ u.sets.throw = none)) ∧
  (∀ h, Does (fun t => .handover t false)
    (fun b => b.sound = true ∧ b.die.yardUp = true ∧ isRelief b = true ∧ b.upd.handToken = some (h, ownUid b) ∧ cycle32 b = h ∧
      b.line.mirrorAt = some (cycleNow b - 1))
    (fun _ u => u.role.role = .terminus ∧ u.upd.handToken = none ∧ Flagged Src.LIN_ROLE_TAKEOVER u)) ∧
  (∀ n, Does .handoverStart
    (fun b => b.upd.handWanted = some n ∧ isTerminus b = true ∧ b.upd.handover = none ∧ b.sets.throw = none ∧
      (memberPresent b n).isSome = true)
    (fun b u => u.upd.handover = some ((cycleNow b + 9) % 4294967296, uidOf b n) ∧ u.role = b.role))

/-! ### The throw, the siding set and running orders -/

/-- The throw (R244, R246, R247, R249, R251–R253): arming, the decision at the end of cycle N − 2, the swap or its absence at the start
of cycle N, the late swap and the final reply. -/
def Obligations.ThrowRows : Prop :=
  (∀ (p : Request) x e n, Does (fun t => .armingRequest t p)
    (fun b => b.sound = true ∧ b.die.yardUp = true ∧ b.die.sigUp = true ∧ isTerminus b = false ∧ p.via = .line x e ∧
      foreignForward b p = false ∧ p.magic = 0x5A47#16 ∧ p.params.length = 8 ∧ p.paramLen = 8#16 ∧ crcGood 0x0202 p = true ∧
      p.sequence.toNat = n ∧ fieldAt p.params 4 4 = n ∧ 2 ≤ p.auth.toNat % 256 ∧ sidingState b = sReady ∧
      b.get F.CFG_SIDING_CRC_CRC = fieldAt p.params 0 4)
    (fun _ u => sidingState u = sArmed ∧ u.sets.armedFor = some n ∧ u.get F.CFG_THROW_CYC_CYCLE = n ∧
      ∃ r, .packet p.via r ∈ u.out ∧ r.status = St.ok ∧ r.sequence = n)) ∧
  (∀ th : Throw, Does .throwCommitDecision
    (fun b => isTerminus b = true ∧ cycleOver b = true ∧ b.sets.throw = some th ∧ th.committed = none ∧
      (b.get F.LIN_CYCLE_CYCLE + 2) % 4294967296 = th.cycle)
    (fun b u => u = { b with sets := { b.sets with
      throw := some { th with committed := some (throwFailed b th).isEmpty, failed := throwFailed b th } } })) ∧
  (∀ c n crc, Does .throwSwap
    (fun b => b.sound = true ∧ powered b = true ∧ b.die.sigUp = true ∧ sidingState b = sArmed ∧ b.sets.armedFor = some n ∧
      cycle32 b = n ∧ b.sets.sigToken = some (n, crc) ∧ b.get F.CFG_SIDING_CRC_CRC = crc ∧ b.sets.siding = some c)
    (fun b u => u.sets.running = some c ∧ u.sets.siding = b.sets.running ∧ u.get F.CFG_RUN_CRC_CRC = crc ∧
      u.flag F.CFG_STATE_RUNNING = true ∧ sidingState u = (if b.sets.running.isSome then sLoaded else sEmpty) ∧
      u.sets.swappedAt = some n ∧ u.sets.token = none ∧ u.sets.sigToken = none ∧
      u.get F.CFG_COUNT_THROWS = satN 16 (b.get F.CFG_COUNT_THROWS + 1) ∧
      Flagged Src.CFG_THROW_DONE u)) ∧
  (∀ n, Does .throwSwap
    (fun b => b.sound = true ∧ powered b = true ∧ b.die.sigUp = true ∧ sidingState b = sArmed ∧ b.sets.armedFor = some n ∧
      cycle32 b = n ∧ b.sets.sigToken ≠ some (n, b.get F.CFG_SIDING_CRC_CRC) ∧ b.sets.token.all (fun x => x.1 != n) = true ∧
      b.line.csCycle = some ((n + 4294967295) % 4294967296))
    (fun b u => sidingState u = sReady ∧ u.sets.armedFor = none ∧ u.sets.running = b.sets.running ∧ u.sets.siding = b.sets.siding ∧
      FieldsKept [F.CFG_STATE_SIDING] b u)) ∧
  (∀ c at_, Does .lateThrow
    (fun b => b.sound = true ∧ powered b = true ∧ b.die.sigUp = true ∧ b.sets.lateAt = some at_ ∧ at_ ≤ cycleNow b ∧
      (sidingState b = sReady ∨ sidingState b = sArmed) ∧ b.sets.siding = some c ∧ (b.sets.yardAhead = none ∨ b.die.xoUp = true))
    (fun b u => u.sets.running = some c ∧ u.sets.siding = b.sets.running ∧ u.sets.lateAt = none ∧
      u.get F.CFG_RUN_CRC_CRC = b.get F.CFG_SIDING_CRC_CRC ∧ u.get F.CFG_COUNT_LATE = satN 8 (b.get F.CFG_COUNT_LATE + 1) ∧
      Flagged Src.CFG_LATE_THROW u)) ∧
  (∀ (w : Waiting) n ip port, Does .throwFinalReply
    (fun b => isTerminus b = true ∧ b.die.yardUp = true ∧ b.pk.waiting = [w] ∧ w.job = .throwing n ∧
      cycleReached (cycle32 b) ((n + 1) % 4294967296) = true ∧ wasCommitted b n = true ∧ w.orphan = false ∧ w.req.via = .host ip port ∧ reliefPresent b = false)
    (fun b u => u.pk.waiting = [] ∧ u.regs = b.regs ∧ ∃ r, u.out = [.packet w.req.via r] ∧ r.status = St.ok ∧ r.result = leBytes 4 n)) ∧
  (∀ (w : Waiting) (th : Throw) ip port, Does .throwFinalReply
    (fun b => b.sound = true ∧ isTerminus b = true ∧ b.die.yardUp = true ∧ b.pk.waiting = [w] ∧ w.job = .throwing th.cycle ∧
      cycleReached (cycle32 b) ((th.cycle + 1) % 4294967296) = true ∧ wasCommitted b th.cycle = false ∧ b.sets.throw = some th ∧
      w.orphan = false ∧ w.req.via = .host ip port ∧ reliefPresent b = false)
    (fun b u => u.pk.waiting = [] ∧ u.sets.throw = none ∧ u.get F.CFG_COUNT_ABORTS = satN 8 (b.get F.CFG_COUNT_ABORTS + 1) ∧
      Flagged Src.CFG_THROW_ABORTED u ∧ ∃ r, u.out = [.packet w.req.via r] ∧ r.status = St.throwAborted ∧
      r.result = leBytes 4 th.cycle ++ leBytes 1 th.failed.length ++ th.failed.flatMap (leBytes 1)))

/-- Running orders (R260–R263, R272): a trigger starts one at step 1, a step ends, writes, waits, checks, goes to another, raises or fails it. -/
def Obligations.OrderRows : Prop :=
  (∀ n, n < 16 → Does (fun t => .orderStart t n)
    (fun b => b.sound = true ∧ b.die.sigUp = true ∧ isTrigger (orderEntry b n 0) = true ∧ (order b n).active = false ∧
      ((order b n).triggered = true ∨ periodsPassed (order b n) ((orderEntry b n 0).value * ms) b.now ≠ 0))
    (fun b u => (order u n).active = true ∧ (order u n).step = 1 ∧ (order u n).nextAt = max b.now (order b n).nextAt ∧ (order u n).triggered = false ∧
      u.regs = b.regs ∧ ∀ k, k ≠ n → order u k = order b k)) ∧
  (∀ n, n < 16 → Does (fun t => .orderStep t n)
    (fun b => b.sound = true ∧ b.die.sigUp = true ∧ (order b n).active = true ∧ (order b n).nextAt ≤ b.now ∧
      (orderEntry b n (order b n).step).op = 0)
    (fun b u => (order u n).active = false ∧ (order u n).nextAt = b.now + 100 * us ∧ u.regs = b.regs ∧
      ∀ k, k ≠ n → order u k = order b k)) ∧
  (∀ n e, n < 16 → e.op = 1 → Does (fun t => .orderStep t n)
    (fun b => b.sound = true ∧ b.die.sigUp = true ∧ (order b n).active = true ∧ (order b n).nextAt ≤ b.now ∧
      orderEntry b n (order b n).step = e ∧ orderWriteOk b { addr := e.addr, mask := e.mask, value := e.value } = true ∧
      (order b n).step < 63)
    (fun b u => u.regs = (writeOne { addr := e.addr, mask := e.mask, value := e.value } b).regs)) ∧
  (∀ n e, n < 16 → e.op = 2 → Does (fun t => .orderStep t n)
    (fun b => b.sound = true ∧ b.die.sigUp = true ∧ (order b n).active = true ∧ (order b n).nextAt ≤ b.now ∧
      orderEntry b n (order b n).step = e ∧ (order b n).step < 63)
    (fun b u => (order u n).active = true ∧ (order u n).step = (order b n).step + 1 ∧
      (order u n).nextAt = b.now + max (100 * us) (e.time * ms) ∧ u.regs = b.regs)) ∧
  (∀ n e, n < 16 → e.op = 4 → 1 ≤ e.onFail → e.onFail < 64 → Does (fun t => .orderStep t n)
    (fun b => b.sound = true ∧ b.die.sigUp = true ∧ (order b n).active = true ∧ (order b n).nextAt ≤ b.now ∧
      orderEntry b n (order b n).step = e ∧ (order b n).step < 63)
    (fun b u => (order u n).active = true ∧ (order u n).nextAt = b.now + 100 * us ∧
      (order u n).step = if Nat.land (readReg e.addr b).1 e.mask = e.value then (order b n).step + 1 else e.onFail)) ∧
  (∀ n e, n < 16 → e.op = 6 → Does (fun t => .orderStep t n)
    (fun b => b.sound = true ∧ b.die.sigUp = true ∧ (order b n).active = true ∧ (order b n).nextAt ≤ b.now ∧
      orderEntry b n (order b n).step = e)
    (fun b u => (order u n).active = true ∧ (order u n).step = e.value % 64 ∧ (order u n).nextAt = b.now + 100 * us ∧ u.regs = b.regs)) ∧
  (∀ n e, n < 16 → e.op = 7 → Does (fun t => .orderStep t n)
    (fun b => b.sound = true ∧ b.die.sigUp = true ∧ (order b n).active = true ∧ (order b n).nextAt ≤ b.now ∧
      orderEntry b n (order b n).step = e)
    (fun _ u => Flagged Src.CFG_ORDER_EVENT u ∧ u.get F.CFG_ORDER_RAISE_CODE = e.value % 256 ∧ u.get F.CFG_ORDER_RAISE_ORDER = n)) ∧
  (∀ n e, n < 16 → 7 < e.op → e.onFail = 0 → Does (fun t => .orderStep t n)
    (fun b => b.sound = true ∧ b.die.sigUp = true ∧ (order b n).active = true ∧ (order b n).nextAt ≤ b.now ∧
      orderEntry b n (order b n).step = e ∧ (order b n).step < 64)
    (fun b u => (order u n).active = false ∧ Flagged Src.CFG_ORDER_FAILED u ∧ u.get F.CFG_ORDER_FAIL_ORDER = n ∧
      u.get F.CFG_ORDER_FAIL_STEP = (order b n).step))

/-- The end of a verification (R240, R243): the request is answered with the status of the checks; a siding set that passes is READY
under its LINE_CRC, with the sections of the Signal die in MRAM (R238); one that fails stays as it is, and LAST_STATUS names the check. -/
def Obligations.VerifyRows : Prop :=
  ∀ (w : Waiting) relief ip port, Does (fun t => .sidingVerifyDone t relief)
    (fun b => b.sound = true ∧ b.die.sigUp = true ∧ b.die.yardUp = true ∧ b.pk.waiting = [w] ∧ w.opcode = 0x0201 ∧ w.job = .verify ∧
      w.orphan = false ∧ w.req.via = .host ip port ∧ reliefPresent b = false)
    (fun b u =>
      let st := verifyStatus b (fieldAt w.req.params 0 4) (manifestOf w.req.params) relief
      u.pk.waiting = [] ∧ (∃ r, u.out = [.packet w.req.via r] ∧ r.status = st ∧ r.sequence = w.req.sequence.toNat) ∧
      (st = St.ok → sidingState b ≠ sArmed → sidingState u = sReady ∧ u.get F.CFG_SIDING_CRC_CRC = fieldAt w.req.params 0 4 ∧
        u.sets.mramArea = (b.sets.siding.map signalSections).getD []) ∧
      (st ≠ St.ok → u.sets = b.sets ∧ u.get F.CFG_STATE_LAST_STATUS = st ∧ FieldsKept [F.CFG_STATE_LAST_STATUS] b u))

/-! ### Sensor streams, fusion and setting -/

/-- The rows of sensor streams (R274, R278–R280, R282–R284, R304): what a frame, a datagram, a block and a completed invocation leave,
and the loss and retirement of a stream. -/
def Obligations.StreamRows : Prop :=
  (∀ cam lines len stime px i, i < 16 → Does (fun t => .cameraFrame t cam lines len stime px)
    (fun b => b.sound = true ∧ b.fus.held = none ∧ islandOpen b (6 + cam) = true ∧ takesInput b i 1 cam = true ∧ px.channel = 0 ∧
      lines ≤ 2160 ∧ len ≤ 3840 ∧ (∀ j, j < 20 → j ≠ i → takesInput b j 1 cam = false) ∧ lines = b.get (F.FUS_PRJ_IMG_IMG_H i) ∧ len = b.get (F.FUS_PRJ_IMG_IMG_W i))
    (fun b u => u.get64 (Reg.FUS_STR_STAMP_LO i) (Reg.FUS_STR_STAMP_HI i) = deviceTime b % 2 ^ 64 ∧
      u.get64 (Reg.FUS_STR_STIME_LO i) (Reg.FUS_STR_STIME_HI i) = stime.toNat ∧ (stream u i).lastInput = b.now ∧
      (stream u i).reconnectAt = none ∧ ∀ j, j < 20 → j ≠ i → stream u j = stream b j)) ∧
  (∀ cam lines len stime px i, i < 16 → Does (fun t => .cameraFrame t cam lines len stime px)
    (fun b => b.sound = true ∧ b.fus.held = none ∧ islandOpen b (6 + cam) = true ∧ takesInput b i 1 cam = true ∧ px.channel = 0 ∧
      lines ≤ 2160 ∧ len ≤ 3840 ∧ (stream b i).reconnectAt = none ∧
      (∀ j, j < 20 → j ≠ i → takesInput b j 1 cam = false) ∧
      (lines ≠ b.get (F.FUS_PRJ_IMG_IMG_H i) ∨ len ≠ b.get (F.FUS_PRJ_IMG_IMG_W i)))
    (fun b u => u.get (F.FUS_STR_STATE_SKIPS i) = satN (F.FUS_STR_STATE_SKIPS i).width (b.get (F.FUS_STR_STATE_SKIPS i) + 1) ∧
      (stream u i).newest = (stream b i).newest ∧ (stream u i).running = (stream b i).running ∧ u.dma = b.dma ∧
      FieldsKept [F.FUS_STR_STATE_SKIPS i] b u)) ∧
  (∀ cam lines len stime px, px.channel ≠ 0 → Does (fun t => .cameraFrame t cam lines len stime px) (fun b => b.fus.held = none)
    (fun b u => u = b)) ∧
  (∀ port d, Does (fun t => .lidarDatagram t port d)
    (fun b => b.fus.held = none ∧
      (islandOpen b 10 = false ∨ b.die.yardUp = false ∨ port.toNat ≠ b.get F.FUS_LIDAR_PORT_UDP_PORT))
    (fun b u => u = b)) ∧
  (∀ port d, Does (fun t => .lidarDatagram t port d)
    (fun b => b.fus.held = none ∧ islandOpen b 10 = true ∧ b.die.yardUp = true ∧ port.toNat = b.get F.FUS_LIDAR_PORT_UDP_PORT ∧
      b.fus.sweep.packets + 1 < b.get F.FUS_LIDAR_PORT_SWEEP_PKTS)
    (fun b u => u = { b with fus := { b.fus with sweep := u.fus.sweep } } ∧ u.fus.sweep.packets = b.fus.sweep.packets + 1 ∧
      u.fus.sweep.raw = b.fus.sweep.raw ++ d ∧ u.fus.sweep.points = b.fus.sweep.points ++ datagramPoints b d ∧
      (b.fus.sweep.packets = 0 → u.fus.sweep.stamp = deviceTime b))) ∧
  (∀ port d, Does (fun t => .lidarDatagram t port d)
    (fun b => b.fus.held = none ∧ islandOpen b 10 = true ∧ b.die.yardUp = true ∧ port.toNat = b.get F.FUS_LIDAR_PORT_UDP_PORT ∧
      b.get F.FUS_LIDAR_PORT_SWEEP_PKTS ≤ b.fus.sweep.packets + 1)
    (fun _ u => u.fus.sweep = {})) ∧
  (∀ i, i < 16 → Does (fun t => .directBlock t i [])
    (fun b => b.sound = true ∧ b.fus.held = none ∧ b.die.yardUp = true ∧ streamRetired b i = false ∧
      3 ≤ b.get (F.FUS_STR_CFG_KIND i) ∧ b.get (F.FUS_STR_CFG_KIND i) ≤ 5 ∧ 4 ≤ b.get (F.FUS_STR_CFG_BLOCK_LOG2 i) ∧
      b.get (F.FUS_STR_CFG_BLOCK_LOG2 i) ≤ 12 ∧ 2 ^ b.get (F.FUS_STR_CFG_BLOCK_LOG2 i) ≤ (stream b i).gathered.length)
    (fun b u =>
      let n := 2 ^ b.get (F.FUS_STR_CFG_BLOCK_LOG2 i)
      u.get64 (Reg.FUS_STR_STAMP_LO i) (Reg.FUS_STR_STAMP_HI i) = (nth (stream b i).gathered (n - 1) (0, 0)).2 % 2 ^ 64 ∧
      (stream u i).gathered = (stream b i).gathered.drop n ∧ ∀ j, j < 20 → j ≠ i → stream u j = stream b j)) ∧
  (∀ i k c, i < 16 → Does (fun t => .directBlock t i [.acoustic k c])
    (fun b => b.sound = true ∧ powered b = true ∧ b.fus.held = none ∧ islandOpen b 1 = true ∧ acousticInstant (deviceTime b) = true ∧
      gathers b 3 k i = true ∧ (stream b i).gathered.length + 1 < 2 ^ b.get (F.FUS_STR_CFG_BLOCK_LOG2 i))
    (fun b u => (stream u i).gathered = (stream b i).gathered ++ [((c.toNat : Int), deviceTime b)] ∧ RegsKept [] b u)) ∧
  (∀ i (v : Invocation), i < 20 → Does (fun t => .modelInvocationDone t i)
    (fun b => b.sound = true ∧ b.fus.held = none ∧ b.die.yardUp = true ∧ (stream b i).running = some v ∧ (streamModel b i).isSome = true)
    (fun b u => (stream u i).serial = ((stream b i).serial + 1) % 65536 ∧ (stream u i).waiting = none ∧
      (∃ o, (stream u i).newest = some o ∧ o.stamp = v.input.stamp ∧ o.serial = (stream u i).serial) ∧
      ((stream b i).waiting = none → (stream u i).running = none))) ∧
  (∀ i, i < 20 → Does (fun t => .streamLost t i)
    (fun b => b.sound = true ∧ watchedStream b i = true ∧ (stream b i).reconnectAt = none ∧ (stream b i).returnedAt = none ∧
      max (stream b i).lastInput b.fus.since + 200 * ms ≤ b.now)
    (fun b u => (stream u i).reconnectAt = some b.now ∧ u.get (F.FUS_STR_STATE_STATE i) = stReconnecting ∧
      u.get (F.FUS_STR_STATE_RECONNECTS i) =
        satN (F.FUS_STR_STATE_RECONNECTS i).width (b.get (F.FUS_STR_STATE_RECONNECTS i) + 1) ∧
      Flagged Src.FUS_STREAM_LOST u)) ∧
  (∀ i r, i < 20 → Does (fun t => .streamLost t i)
    (fun b => b.sound = true ∧ watchedStream b i = true ∧ (stream b i).reconnectAt = none ∧ (stream b i).returnedAt = some r ∧
      max (stream b i).lastInput b.fus.since + 200 * ms ≤ b.now ∧ b.now ≤ r + 10 * sec)
    (fun _ u => streamRetired u i = true ∧ (stream u i).newest = none ∧ Flagged Src.FUS_STREAM_LOST u ∧
      Flagged Src.FUS_STREAM_RETIRED u)) ∧
  (∀ i r, i < 20 → Does (fun t => .streamRetired t i)
    (fun b => b.sound = true ∧ watchedStream b i = true ∧ (stream b i).reconnectAt = some r ∧ r + 500 * ms ≤ b.now)
    (fun _ u => streamRetired u i = true ∧ (stream u i).reconnectAt = none ∧ (stream u i).newest = none ∧
      Flagged Src.FUS_STREAM_RETIRED u))

/-- Fusion frames and setting steps (R317, R325, R359, R361, R369): a frame takes the tiles as they stand, or is skipped; its grids
become readable; a step tick without a pending step counts bars down and starts an invocation; when it completes, the chosen changes take
effect from the next cycle and their step is pending; SETTLING ends. -/
def Obligations.FusionRows : Prop :=
  (Does .fusionFrame
    (fun b => isTerminus b = true ∧ b.flag F.FUS_CFG_FUSE_EN = true ∧ b.die.yardUp = true ∧ frameBoundary b = some (deviceTime b) ∧
      b.fus.frame = none ∧ b.fus.held = none)
    (fun b u => u.fus = { b.fus with foreign := false, frame := u.fus.frame } ∧
      ∃ f, u.fus.frame = some f ∧ f.tb = deviceTime b ∧ f.tiles = b.fus.tiles ∧ f.states = b.fus.states ∧ f.fed = b.fus.fed)) ∧
  (∀ f, Does .fusionFrame
    (fun b => b.sound = true ∧ isTerminus b = true ∧ b.flag F.FUS_CFG_FUSE_EN = true ∧ b.die.yardUp = true ∧ frameBoundary b = some (deviceTime b) ∧
      b.fus.frame = some f ∧ b.fus.held = none)
    (fun b u => u.fus = { b.fus with foreign := false, agesAt := deviceTime b } ∧ u.get F.FUS_STATUS_OVERRUNS =
        satN F.FUS_STATUS_OVERRUNS.width (b.get F.FUS_STATUS_OVERRUNS + 1) ∧ Flagged Src.FUS_FRAME_OVERRUN u)) ∧
  (Does .fusionFrame
    (fun b => b.sound = true ∧ isTerminus b = true ∧ b.die.yardUp = true ∧ frameBoundary b = some (deviceTime b) ∧ b.fus.held = none ∧
      b.flag F.SET_CTRL_HEADLAND_FORCE = true ∧ b.fn.headland = false)
    (fun _ u => u.fn.headland = true ∧ Flagged Src.SET_HEADLAND_IN u)) ∧
  (∀ f, Does .fusionFrameDone
    (fun b => b.sound = true ∧ isTerminus b = true ∧ b.die.yardUp = true ∧ b.fus.frame = some f)
    (fun b u => u.fus.frame = none ∧ u.fus.tFrame = f.tb ∧ u.fus.frameNo = f.tb / max 1 (framePeriod ((f.under.map (fun x => withSet x b)).getD b)) ∧
      u.fus.agesAt = max b.fus.agesAt f.tb ∧ u.fus.cells.length = 12416 ∧ u.flag F.FUS_STATUS_GRID_VALID = true)) ∧
  (Does .stepTick (fun b => settingOn b = false ∨ tickNow b = false) (fun b u => u = b)) ∧
  (Does .stepTick
    (fun b => b.sound = true ∧ settingOn b = true ∧ tickNow b = true ∧ b.fn.invocation = none ∧ b.fn.pending = none ∧
      b.fn.holdUntil ≤ deviceTime b ∧ (usedFns b).any (eligible b) = true ∧ (policyModel b).isSome = true ∧
      b.flag F.FUS_STATUS_GRID_VALID = true)
    (fun b u => u.fn.invocation.isSome = true ∧ u.fn.pending = none ∧
      ∀ n, n ∈ usedFns b → u.get (F.SET_FN_STATE_BAR_LEFT n) = b.get (F.SET_FN_STATE_BAR_LEFT n) - 1)) ∧
  Does .policyDone (fun b => b.fn.invocation = none) (fun b u => u = b) ∧
  (∀ inp, Does .policyDone
    (fun b => b.fn.invocation = some inp ∧ (settingOn b = false ∨ (usedFns b).all (fun n => !eligible b n) = true ∨ stepChanges b inp = []))
    (fun b u => u = { b with fn := { b.fn with invocation := none } })) ∧
  (∀ inp, Does .policyDone
    (fun b => b.sound = true ∧ settingOn b = true ∧ b.fn.invocation = some inp ∧ stepChanges b inp ≠ [])
    (fun b u =>
      u.fn.invocation = none ∧ (stepChanges b inp).length ≤ b.get F.SET_CFG_MAX_CHANGES ∧
      u.fn.pending = some { t1 := nextCycleStart b, changed := stepChanges b inp, used := usedMeasures b (stepChanges b inp),
                            evalEnd := nextCycleStart b + evalLength b (usedMeasures b (stepChanges b inp)) } ∧
      (∀ c ∈ stepChanges b inp, eligible b c.1 = true ∧ c.2.1 = fnTarget b c.1 ∧ fnTarget u c.1 = c.2.2 ∧
        u.gets (F.SET_FN_START_START c.1) = c.2.1 ∧ u.flag (F.SET_FN_STATE_PENDING c.1) = true ∧
        (fnPart u c.1).c0 = cycleNow b + 1 ∧ lookupNum u.fn.copies c.1 = some (mAuto, c.2.2)) ∧
      RegsKept ((stepChanges b inp).flatMap (fun c => [Reg.SET_FN_TARGET c.1, Reg.SET_FN_START c.1, Reg.SET_FN_STATE c.1])) b u ∧
      u = { b with regs := u.regs, fn := u.fn })) ∧
  (∀ n, n < 48 → Does (fun t => .settlingEnd t n)
    (fun b => b.sound = true ∧ b.flag (F.SET_FN_STATE_SETTLING n) = true ∧ (fnPart b n).settleEnd ≤ b.now ∧ fnCauses b n = 0)
    (fun b u => u.flag (F.SET_FN_STATE_SETTLING n) = false ∧ fnMode u n = fnMode b n ∧ fnTarget u n = fnTarget b n ∧
      Flagged Src.SET_UNFREEZE u))

/-! ### Loops and load channels -/

/-- The rows of the control engine (R392, R401, R407, R408, R414, R422): a tick observes or computes a sample, the deadline makes it take
effect or counts a miss, and a loss that outlasts its grace takes the loss action. -/
def Obligations.LoopRows : Prop :=
  (∀ n cost k, n < 32 → Does (fun t => .loopTick t n cost)
    (fun b => b.sound = true ∧ b.die.sigUp = true ∧ loopDefined b n = true ∧ (loop b n).sample = none ∧
      tickInstant b n = some k ∧ tickAllowed b n k = true ∧ loopState b n = lHold)
    (fun b u => u.get (F.CLE_LOOP_RAW_RAW n) = toBits 32 (rawSource b n) ∧ (loop u n).lastTick = some k ∧ (loop u n).sample = none ∧
      u.gets (F.CLE_LOOP_PV_PV n) = satS 32 ((rawSource b n - b.gets (F.CLE_LOOP_SRC_OFF_SRC_OFF n)) *
        b.gets (F.CLE_LOOP_SRC_SCALE_SRC_SCALE n)) ∧
      FieldsKept [F.CLE_LOOP_RAW_RAW n, F.CLE_LOOP_PV_PV n] b u)) ∧
  (∀ n cost k, n < 32 → Does (fun t => .loopTick t n cost)
    (fun b => b.sound = true ∧ b.die.sigUp = true ∧ loopDefined b n = true ∧ (loop b n).sample = none ∧ channelsExist b n = true ∧
      tickInstant b n = some k ∧ tickAllowed b n k = true ∧ loopState b n = lRun ∧ (loop b n).lostAt = none ∧
      b.flag (F.CLE_LOOP_STATUS_LOSS n) = false)
    (fun b v =>
      let r := controlLaw (runningGains b n) (b.gets (F.CLE_LOOP_SRC_OFF_SRC_OFF n))
        (b.gets (F.CLE_LOOP_SRC_SCALE_SRC_SCALE n)) (b.gets (F.CLE_LOOP_SP_OFF_SP_OFF n)) (b.gets (F.CLE_LOOP_SP_SCALE_SP_SCALE n))
        (b.get (F.CLE_LOOP_CFG_PERIOD n)) (sinkBlocked b n) (loop b n).integ (b.gets (F.CLE_LOOP_OUT_OUT n)) (rawSource b n)
        (rawSetpoint b n)
      (loop v n).sample = some { tick := k, deadline := k + deadlineAfter b n, upd := cost, done := none, iNew := r.iNew, u := r.u,
                                 sat := r.sat } ∧
      v.gets (F.CLE_LOOP_PV_PV n) = r.y ∧ v.gets (F.CLE_LOOP_SPV_SPV n) = r.r ∧ v.reg (Reg.CLE_LOOP_OUT n) = b.reg (Reg.CLE_LOOP_OUT n) ∧
      (loop v n).integ = (loop b n).integ)) ∧
  (∀ n, n < 32 → Does (fun t => .loopDeadline t n)
    (fun b => ∀ x, (loop b n).sample = some x → deviceTime b < x.deadline) (fun b u => u = b)) ∧
  (∀ n x d, n < 32 → Does (fun t => .loopDeadline t n)
    (fun b => b.sound = true ∧ channelsExist b n = true ∧ (loop b n).sample = some x ∧ x.deadline ≤ deviceTime b ∧ x.done = some d ∧
      d ≤ x.deadline)
    (fun _ u => (loop u n).sample = none ∧ (loop u n).integ = x.iNew ∧ u.gets (F.CLE_LOOP_OUT_OUT n) = satS 32 x.u ∧
      u.gets (F.CLE_LOOP_INTEG_INTEG n) = satS 32 (roundDiv x.iNew 65536) ∧ u.flag (F.CLE_LOOP_STATUS_SAT n) = x.sat ∧
      u.flag (F.CLE_LOOP_STATUS_MISS_LAST n) = false)) ∧
  (∀ n x d, n < 32 → Does (fun t => .loopDeadline t n)
    (fun b => b.sound = true ∧ (loop b n).sample = some x ∧ x.deadline ≤ deviceTime b ∧ x.done = some d ∧ x.deadline < d)
    (fun b u => (loop u n).sample = none ∧ (loop u n).integ = (loop b n).integ ∧
      u.reg (Reg.CLE_LOOP_OUT n) = b.reg (Reg.CLE_LOOP_OUT n) ∧ u.flag (F.CLE_LOOP_STATUS_MISS_LAST n) = true ∧
      u.get (F.CLE_LOOP_STATUS_MISSES n) = satN (F.CLE_LOOP_STATUS_MISSES n).width (b.get (F.CLE_LOOP_STATUS_MISSES n) + 1) ∧
      u.get F.CLE_SLACK_MIN_SLACK = 0 ∧ Flagged Src.CLE_LOOP_MISS u)) ∧
  (∀ n, n < 32 → Does (fun t => .loopLossAction t n)
    (fun b => b.sound = true ∧ b.die.sigUp = true ∧ channelsExist b n = true ∧ loopState b n = lRun ∧ (loop b n).lostAt.isSome = true ∧
      b.get (F.CLE_LOOP_STATUS_LOSS n) ≠ 2 ∧ graceEnd b n ≤ b.now)
    (fun b u => u.get (F.CLE_LOOP_STATUS_LOSS n) = 2 ∧ (loop u n).sample = none ∧ Flagged Src.CLE_LOOP_LOSS_ACTION u ∧
      loopState u n = (if b.get (F.CLE_LOOP_CFG_LOSS_ACT n) = 2 then lOpen else lRun)))

/-- The protection of load channels (R449, R451–R461, R468), on every path of its six rows: a current or a junction that latches a
channel, in limp mode, in the window of a retry, in the access cycle of an off command, or not at all; the retry, made or not; the end
of the window and of an inrush window; open-load judgement, completed or not. What each leaves alone is said with it: the other channels
are as they were, or all but the named fields is. Without power nothing happens. Model's choices: one access cycle is one instant (log
entry 214), and in limp mode an inrush window lasts the shortest that R468 allows. -/
def Obligations.ProtectionRows : Prop :=
  (∀ c current tj, c < 32 → Does (fun t => .overCurrentLatch t c current tj)
    (fun b => b.sound = true ∧ powered b = true ∧ (chan b c).output = true ∧
      ((threshold b c : Int) < current ∨ (hardLimit c : Int) < current))
    (fun b u => HasLatched c (if (hardLimit c : Int) < current then 2 else 1) b u ∧ Measured c current tj u ∧ otherChannelsKept c b u)) ∧
  (∀ c current tj thr, c < 32 → Does (fun t => .overCurrentLatch t c current tj)
    (fun b => b.sound = true ∧ powered b = true ∧ offNow b c = some thr ∧ inLimp b = false ∧ channelSided b c = false ∧
      b.flag (F.LSW_CH_STAT_WINDOW c) = false ∧ ((thr : Int) < current ∨ (hardLimit c : Int) < current))
    (fun b u => LatchCancelled c (if (hardLimit c : Int) < current then 2 else 1) b u ∧ Measured c current tj u ∧
      otherChannelsKept c b u)) ∧
  (∀ c current tj, c < 32 → Does (fun t => .overCurrentLatch t c current tj)
    (fun b => b.sound = true ∧ powered b = true ∧
      ((chan b c).output = true → current ≤ (threshold b c : Int) ∧ current ≤ (hardLimit c : Int)) ∧
      ∀ thr ∈ offNow b c, current ≤ (thr : Int) ∧ current ≤ (hardLimit c : Int))
    (fun b u => u = { b with regs := u.regs } ∧ Measured c current tj u ∧
      FieldsKept [F.LSW_CH_CURR_CURR c, F.LSW_CH_TJ_TJ c] b u)) ∧
  (∀ c tj, c < 32 → 1750 ≤ tj → Does (fun t => .thermalLatch t c tj)
    (fun b => b.sound = true ∧ powered b = true ∧ ((chan b c).output = true ∨ wantsOn b c = true))
    (fun b u => HasLatched c 3 b u ∧ Measured c (b.gets (F.LSW_CH_CURR_CURR c)) tj u ∧ otherChannelsKept c b u)) ∧
  (∀ c tj thr, c < 32 → 1750 ≤ tj → Does (fun t => .thermalLatch t c tj)
    (fun b => b.sound = true ∧ powered b = true ∧ offNow b c = some thr ∧ inLimp b = false ∧ channelSided b c = false ∧
      b.flag (F.LSW_CH_STAT_WINDOW c) = false)
    (fun b u => LatchCancelled c 3 b u ∧ Measured c (b.gets (F.LSW_CH_CURR_CURR c)) tj u ∧ otherChannelsKept c b u)) ∧
  (∀ c tj, c < 32 → Does (fun t => .thermalLatch t c tj)
    (fun b => b.sound = true ∧ powered b = true ∧
      (tj < 1750 ∨ ((chan b c).output = false ∧ wantsOn b c = false ∧ offNow b c = none)))
    (fun b u => u = { b with regs := u.regs } ∧ u.gets (F.LSW_CH_TJ_TJ c) = satS (F.LSW_CH_TJ_TJ c).width tj ∧
      FieldsKept [F.LSW_CH_TJ_TJ c] b u)) ∧
  (∀ c tj r, c < 32 → tj < 1500 → Does (fun t => .retry t c tj)
    (fun b => b.sound = true ∧ powered b = true ∧ b.get (F.LSW_CH_STAT_CSTATE c) = cLatched ∧ (chan b c).retryAt = some r ∧ r ≤ b.now)
    (fun b u => u.get (F.LSW_CH_STAT_CSTATE c) = b.get (F.LSW_CH_CMD_STATE c) ∧
      u.get (F.LSW_CH_CMD_STATE c) = b.get (F.LSW_CH_CMD_STATE c) ∧ u.flag (F.LSW_CH_STAT_WINDOW c) = true ∧
      (chan u c).retryAt = none ∧ (chan u c).windowEnd = b.now + 500 * ms ∧
      (chan u c).output = (b.get (F.LSW_CH_CMD_STATE c) != 0) ∧
      (b.get (F.LSW_CH_CFG_INRUSH_TIME c) ≠ 0 → u.flag (F.LSW_CH_STAT_INRUSH c) = true ∧ (chan u c).inrushFrom = b.now) ∧
      u.gets (F.LSW_CH_TJ_TJ c) = satS (F.LSW_CH_TJ_TJ c).width tj ∧ otherChannelsKept c b u)) ∧
  (∀ c tj, c < 32 → Does (fun t => .retry t c tj)
    (fun b => b.sound = true ∧ powered b = true ∧ (1500 ≤ tj ∨ b.get (F.LSW_CH_STAT_CSTATE c) ≠ cLatched ∨ due (chan b c).retryAt b = false))
    (fun b u => u = { b with regs := u.regs } ∧ u.gets (F.LSW_CH_TJ_TJ c) = satS (F.LSW_CH_TJ_TJ c).width tj ∧
      FieldsKept [F.LSW_CH_TJ_TJ c] b u)) ∧
  (∀ c, c < 32 → Does (fun t => .retryOk t c)
    (fun b => b.sound = true ∧ powered b = true ∧ b.flag (F.LSW_CH_STAT_WINDOW c) = true ∧ (chan b c).windowEnd ≤ b.now)
    (fun b u => u.flag (F.LSW_CH_STAT_WINDOW c) = false ∧ u.load = b.load ∧
      u.get (F.LSW_CH_CNT_RETRIES_OK c) = satN (F.LSW_CH_CNT_RETRIES_OK c).width (b.get (F.LSW_CH_CNT_RETRIES_OK c) + 1) ∧
      u.get (F.LSW_CH_STAT_CSTATE c) = b.get (F.LSW_CH_STAT_CSTATE c) ∧ u.get F.LSW_EVT_CH_CH = c ∧ Flagged Src.LSW_RETRY_OK u ∧
      otherChannelsKept c b u)) ∧
  (∀ c, c < 32 → Does (fun t => .retryOk t c)
    (fun b => b.flag (F.LSW_CH_STAT_WINDOW c) = false ∨ b.now < (chan b c).windowEnd) (fun b u => u = b)) ∧
  (∀ c, c < 32 → Does (fun t => .inrushWindowEnd t c)
    (fun b => b.sound = true ∧ powered b = true ∧ b.flag (F.LSW_CH_STAT_INRUSH c) = true ∧
      (chan b c).inrushFrom + (if inLimp b then b.get (F.LSW_CH_CFG_INRUSH_TIME c) * ms * 7 / 10
        else b.get (F.LSW_CH_CFG_INRUSH_TIME c) * ms) ≤ b.now)
    (fun b u => u = { b with regs := u.regs } ∧ u.flag (F.LSW_CH_STAT_INRUSH c) = false ∧ FieldsKept [F.LSW_CH_STAT_INRUSH c] b u)) ∧
  (∀ c, c < 32 → Does (fun t => .inrushWindowEnd t c)
    (fun b => b.flag (F.LSW_CH_STAT_INRUSH c) = false ∨ b.now < (chan b c).inrushFrom + inrushLasts b c) (fun b u => u = b)) ∧
  (∀ c above units, c < 32 → Does (fun t => .openLoadJudgement t c above units)
    (fun b => b.sound = true ∧ powered b = true ∧ openLoadJudged b c = true ∧ b.get (F.LSW_CH_TIME_OL_TIME c) ≤ judgedFor b c units ∧
      b.flag (F.LSW_CH_STAT_OPEN_LOAD c) ≠ above)
    (fun b u => u.flag (F.LSW_CH_STAT_OPEN_LOAD c) = above ∧ u.load = b.load ∧ u.get F.LSW_EVT_CH_CH = c ∧
      Flagged (if above then Src.LSW_OPEN_LOAD else Src.LSW_OPEN_LOAD_CLEAR) u ∧ otherChannelsKept c b u)) ∧
  (∀ c above units, c < 32 → Does (fun t => .openLoadJudgement t c above units)
    (fun b => openLoadJudged b c = false ∨ judgedFor b c units < b.get (F.LSW_CH_TIME_OL_TIME c) ∨
      b.flag (F.LSW_CH_STAT_OPEN_LOAD c) = above) (fun b u => u = b)) ∧
  (∀ c current tj, Does (fun t => .overCurrentLatch t c current tj) (fun b => powered b = false) (fun b u => u = b)) ∧
  (∀ c tj, Does (fun t => .thermalLatch t c tj) (fun b => powered b = false) (fun b u => u = b)) ∧
  (∀ c tj, Does (fun t => .retry t c tj) (fun b => powered b = false) (fun b u => u = b)) ∧
  (∀ c, Does (fun t => .retryOk t c) (fun b => powered b = false) (fun b u => u = b)) ∧
  (∀ c, Does (fun t => .inrushWindowEnd t c) (fun b => powered b = false) (fun b u => u = b)) ∧
  (∀ c above units, Does (fun t => .openLoadJudgement t c above units) (fun b => powered b = false) (fun b u => u = b))

/-- The other rows of load channels (R440, R441, R443, R444, R453, R454, R462, R465–R467, R836), on every path: the stud means over the
last second, a stud's voltage, the measurement of every channel, the pin SENSE_OUT, the causes and inputs of limp mode, and the periods
of PWM. Model's choices: a mean counts each measurement of the second alike (log entry 215). -/
def Obligations.ChannelRows : Prop :=
  (∀ x y, Does (fun t => .studMean t x y)
    (fun b => b.sound = true ∧ powered b = true)
    (fun b u =>
      let l := b.load.studLog.filter (fun e => decide (b.now < e.1 + sec)) ++ [(b.now, x, y)]
      u.load = { b.load with studLog := l } ∧
      u.get F.LSW_TOTAL_MEAN_A = satU 16 (roundDiv (l.map (·.2.1)).sum (10 * l.length)) ∧
      u.get F.LSW_TOTAL_MEAN_B = satU 16 (roundDiv (l.map (·.2.2)).sum (10 * l.length)) ∧
      (u.flag F.LSW_SUPPLY_OVER = true ↔ 100000 * (l.length : Int) < (l.map (·.2.1)).sum ∨
        100000 * (l.length : Int) < (l.map (·.2.2)).sum ∨ 140000 * (l.length : Int) < (l.map (·.2.1)).sum + (l.map (·.2.2)).sum) ∧
      (u.flag F.LSW_SUPPLY_OVER = true → b.flag F.LSW_SUPPLY_OVER = false → Flagged Src.LSW_LOAD_OVER u) ∧
      (∀ c, c < 32 → channelKept c b u) ∧
      (u.flag F.LSW_SUPPLY_OVER = false ∨ b.flag F.LSW_SUPPLY_OVER = true → u = { b with regs := u.regs, load := u.load } ∧
        FieldsKept [F.LSW_SUPPLY_OVER, F.LSW_TOTAL_MEAN_A, F.LSW_TOTAL_MEAN_B] b u))) ∧
  (∀ (d : Bool) (mv : Nat), mv < 6000 → Does (fun t => .supplyLow t d mv)
    (fun b => b.sound = true ∧ powered b = true ∧ b.flag (studLow d) = false) (fun b u => SupplyFalls d mv b u)) ∧
  (∀ (d : Bool) (mv : Nat), mv < 6000 → Does (fun t => .supplyLow t d mv)
    (fun b => b.sound = true ∧ powered b = true ∧ b.flag (studLow d) = true) (fun b u => SupplyStaysLow d mv b u)) ∧
  (∀ (d : Bool) (mv : Nat), 6000 ≤ mv → Does (fun t => .supplyLow t d mv)
    (fun b => b.sound = true ∧ powered b = true) (fun b u => SupplyHolds d mv b u)) ∧
  (∀ (d : Bool) (mv : Nat), Does (fun t => .supplyLow t d mv) (fun b => powered b = false) (fun b u => u = b)) ∧
  (∀ (d : Bool) (mv : Nat), mv < 6000 → Does (fun t => .supplyLowClear t d mv)
    (fun b => b.sound = true ∧ powered b = true ∧ b.flag (studLow d) = false) (fun b u => SupplyFalls d mv b u)) ∧
  (∀ (d : Bool) (mv : Nat), mv < 6000 → Does (fun t => .supplyLowClear t d mv)
    (fun b => b.sound = true ∧ powered b = true ∧ b.flag (studLow d) = true) (fun b u => SupplyStaysLow d mv b u)) ∧
  (∀ (d : Bool) (mv : Nat), 6000 ≤ mv → Does (fun t => .supplyLowClear t d mv)
    (fun b => b.sound = true ∧ powered b = true) (fun b u => SupplyHolds d mv b u)) ∧
  (∀ (d : Bool) (mv : Nat), Does (fun t => .supplyLowClear t d mv) (fun b => powered b = false) (fun b u => u = b)) ∧
  (∀ l : List (Int × Int), Does (fun t => .currentMeasure t l)
    (fun b => b.sound = true ∧ (b.die.sigUp = true ∨ (powered b = true ∧ b.load.latchedMap = none)))
    (fun b u => u = { b with regs := u.regs, load := u.load, ev := { b.ev with second := u.ev.second } } ∧
      u.load = { b.load with
        studLog := b.load.studLog.filter (fun e => decide (b.now < e.1 + sec)) ++ [(b.now, studSum false u, studSum true u)] } ∧
      FieldsKept ((upFrom 0 32).flatMap (fun c => [F.LSW_CH_CURR_CURR c, F.LSW_CH_TJ_TJ c])) b u ∧
      ∀ c, c < 32 → Measured c (nth l c (b.gets (F.LSW_CH_CURR_CURR c), b.gets (F.LSW_CH_TJ_TJ c))).1
        (nth l c (b.gets (F.LSW_CH_CURR_CURR c), b.gets (F.LSW_CH_TJ_TJ c))).2 u)) ∧
  (∀ l : List (Int × Int), Does (fun t => .currentMeasure t l)
    (fun b => b.die.sigUp = false ∧ (powered b = false ∨ b.load.latchedMap ≠ none)) (fun b u => u = b)) ∧
  (∀ sel : BitVec 5, Does (fun t => .senseSelect t sel true) (fun b => powered b = true)
    (fun b u => u = { b with load := { b.load with sense := some sel.toNat },
                             out := [.sense (some (sel.toNat, mirrorRatio sel.toNat,
                               if conducts b sel.toNat then b.gets (F.LSW_CH_CURR_CURR sel.toNat) else 0))] })) ∧
  (∀ sel : BitVec 5, Does (fun t => .senseSelect t sel false) (fun b => powered b = true)
    (fun b u => u = { b with load := { b.load with sense := none }, out := [.sense none] })) ∧
  (∀ (sel : BitVec 5) en, Does (fun t => .senseSelect t sel en) (fun b => powered b = false) (fun b u => u = b)) ∧
  Does .limpReq (fun b => b.sound = true ∧ powered b = true ∧ inLimp b = false ∧ b.load.latchedMap.isSome = true)
    (fun b u => inLimp u = true ∧ u.flag F.LSW_LIMP_REQ = true ∧ Flagged Src.LSW_LIMP_ENTER u ∧ ∀ c, c < 32 →
      u.flag (F.LSW_CH_STAT_WINDOW c) = (channelSided b c && b.flag (F.LSW_CH_STAT_WINDOW c)) ∧
      u.get (F.LSW_CH_CMD_STATE c) = b.get (F.LSW_CH_CMD_STATE c) ∧
      (b.gets (F.LSW_CH_TJ_TJ c) < 1750 → (chan u c).output = limpOutput b c) ∧
      (channelSided b c = false → u.get (F.LSW_CH_STAT_CSTATE c) = cLimp)) ∧
  Does .limpReq (fun b => b.sound = true ∧ powered b = true ∧ (inLimp b = true ∨ b.load.latchedMap = none) ∧ b.pwr.sleepAt = none)
    (fun b u => u = { b with regs := u.regs } ∧ u.flag F.LSW_LIMP_REQ = true ∧ FieldsKept [F.LSW_LIMP_REQ] b u) ∧
  Does .limpReq (fun b => b.sound = true ∧ powered b = true ∧ b.pwr.sleepAt.isSome = true)
    (fun _ u => u.pwr.sleepAt = none ∧ u.flag F.PWR_WAKE_SLEEP_CANCELLED = true ∧ u.flag F.LSW_LIMP_REQ = true) ∧
  Does .limpReq (fun b => b.sound = true ∧ b.pwr.power = .asleep)
    (fun _ u => powered u = true ∧ u.get F.PWR_WAKE_WAKE_SRC = 4 ∧ u.flag F.LSW_LIMP_REQ = true) ∧
  Does .limpReq (fun b => b.pwr.power = .off) (fun b u => u = b) ∧
  Does .limpReqLow (fun b => b.sound = true)
    (fun b u => u = { b with regs := u.regs } ∧ u.flag F.LSW_LIMP_REQ = false ∧ FieldsKept [F.LSW_LIMP_REQ] b u) ∧
  (∀ levels : BitVec 8, Does (fun t => .lhInChange t levels) (fun b => b.sound = true ∧ (powered b = false ∨ inLimp b = false))
    (fun b u => u = { b with regs := u.regs } ∧ u.get F.LSW_LIMP_LH_IN = levels.toNat ∧ FieldsKept [F.LSW_LIMP_LH_IN] b u)) ∧
  (∀ levels : BitVec 8, Does (fun t => .lhInChange t levels) (fun b => b.sound = true ∧ powered b = true ∧ inLimp b = true)
    (fun b u => u.get F.LSW_LIMP_LH_IN = levels.toNat ∧ ∀ c, c < 32 →
      if limpSrc b c < 8 ∧ bitAt (b.get F.LSW_LIMP_LH_IN) (limpSrc b c) ≠ bitAt levels.toNat (limpSrc b c) ∧
          channelSided b c = false then
        u.get (F.LSW_CH_CMD_STATE c) = b.get (F.LSW_CH_CMD_STATE c) ∧ (chan u c).limpWait = false ∧
        (b.gets (F.LSW_CH_TJ_TJ c) < 1750 →
          (chan u c).output = (bitAt levels.toNat (limpSrc b c) && !(chan b c).limpLatched)) ∧
        (1750 ≤ b.gets (F.LSW_CH_TJ_TJ c) → bitAt levels.toNat (limpSrc b c) = true → (chan b c).limpLatched = false →
          HasLatched c 3 b u)
      else channelKept c b u)) ∧
  (∀ c, c < 32 → Does (fun t => .pwmPeriodStart t c)
    (fun b => powered b = false ∨ b.get (F.LSW_CH_STAT_CSTATE c) ≠ cPwm ∨ b.get (F.LSW_CH_PWM_FREQ c) = 0) (fun b u => u = b)) ∧
  (∀ c, c < 32 → Does (fun t => .pwmPeriodStart t c)
    (fun b => b.sound = true ∧ powered b = true ∧ b.get (F.LSW_CH_STAT_CSTATE c) = cPwm ∧ b.get (F.LSW_CH_PWM_FREQ c) ≠ 0)
    (fun b u =>
      let p := (roundDiv 100000000 (b.get (F.LSW_CH_PWM_FREQ c))).toNat
      let on_ := (roundDiv ((b.get (F.LSW_CH_CMD_DUTY c) * p : Nat) : Int) 65536).toNat
      chan u c = { chan b c with period := p, periodAt := b.now,
                                 onCounts := if on_ < 100 then 0 else if p - on_ < 100 then p else on_ } ∧
      u = { b with load := { b.load with channels := u.load.channels }, out := [.pwm c p (chan u c).onCounts] } ∧
      ∀ k, k < 32 → k ≠ c → chan u k = chan b k))

/-! ### Satellite navigation and steering -/

/-- The rows of the receiver (R488, R490, R492–R519): dumps and searches set a channel, an epoch reports the solution and moves the time
state, a step sets device time, the pulse, the antennas and the frames of correction sources, on every path. Model's choices: what the
spec leaves open of frames and masks of RTCM (log entry 216), of a solution in another system's time (217), of a hot start (218), of the
lever arm (219), of aligned Line time (221) and of a false lock (222); the rate of a frequency correction is a free value. -/
def Obligations.ReceiverRows : Prop :=
  (∀ l, Does (fun t => .correlatorDump t l) (fun b => gnssOn b = false) (fun b u => u = b)) ∧
  (∀ l : List ChannelDump, (l.map (·.chan)).Nodup → Does (fun t => .correlatorDump t l) (fun b => b.sound = true ∧ gnssOn b = true)
    (fun b u => u = { receiverStart b with regs := u.regs, nav := { (receiverStart b).nav with ncos := u.nav.ncos } } ∧
      (∀ x ∈ l, if dumpFits b x then Dumped x b u else trackKept x.chan b u) ∧
      (∀ n, n < 128 → n ∉ l.map (·.chan) → trackKept n b u ∧ nth u.nav.ncos n {} = nth b.nav.ncos n {}) ∧
      u.get F.GNS_STATUS_CHANNELS = ((upFrom 0 128).filter (fun n => u.get (F.GNS_CH_SIG_STATE n) == 3)).length)) ∧
  (∀ n sig sv antB aided found doppler i, n < 128 → sig < 12 → sv < 256 →
    Does (fun t => .acquisitionDone t n sig sv antB aided found doppler)
      (fun b => b.sound = true ∧ gnssOn b = true ∧ searchable b sig sv aided = true ∧ searchEngine (receiverStart b) aided = some i)
      (fun b u =>
        u = { receiverStart b with
          regs := u.regs, nav := { (receiverStart b).nav with engines := setNth (receiverStart b).nav.engines i b.now } } ∧
        u.get (F.GNS_CH_SIG_SIG n) = sig ∧ u.get (F.GNS_CH_SIG_SV n) = sv ∧ u.flag (F.GNS_CH_SIG_ANT n) = antB ∧
        u.get (F.GNS_CH_SIG_STATE n) = (if found then 2 else 0) ∧ u.get (F.GNS_CH_LOCK_LOCK_MS n) = 0 ∧
        u.gets (F.GNS_CH_DOP_DOPPLER n) = (if found then satS 32 doppler else 0) ∧
        RegsKept [Reg.GNS_CH_SIG n, Reg.GNS_CH_DOP n, Reg.GNS_CH_LOCK n] b u)) ∧
  (∀ n sig sv antB aided found doppler, Does (fun t => .acquisitionDone t n sig sv antB aided found doppler)
    (fun b => gnssOn b = false ∨ searchable b sig sv aided = false ∨ searchEngine (receiverStart b) aided = none)
    (fun b u => u = receiverStart b)) ∧
  (∀ x, Does (fun t => .gnssEpoch t x) (fun b => gnssOn b = true ∧ b.nav.running = true ∧ epochDue b = false) (fun b u => u = b)) ∧
  (∀ x, Does (fun t => .gnssEpoch t x)
    (fun b => gnssOn b = false ∧ b.nav.running = false ∧
      (isTerminus b = false ∨ b.die.yardUp = false ∨ tstate b ≠ tsLocked ∨ b.now < b.nav.lastValid + sec)) (fun b u => u = b)) ∧
  (∀ x, Does (fun t => .gnssEpoch t x) (fun b => b.sound = true ∧ gnssOn b = false ∧ b.nav.running = true)
    (fun b u => u.nav = { b.nav with running := false } ∧ u.get F.GNS_STATUS_FIX = 0 ∧ u.get F.GNS_STATUS_SATS = 0 ∧
      u.get F.GNS_STATUS_CHANNELS = 0 ∧ u.flag F.GNS_STATUS_HEADING_VALID = false ∧
      (∀ n, n < 128 → u.get (F.GNS_CH_SIG_STATE n) = 0) ∧ (b.get F.GNS_STATUS_FIX ≠ 0 → Flagged Src.GNS_FIX_CHANGE u) ∧
      (b.flag F.GNS_STATUS_HEADING_VALID = true → Flagged Src.GNS_HEADING_LOST u))) ∧
  (∀ x, Does (fun t => .gnssEpoch t x)
    (fun b => b.sound = true ∧ gnssOn b = false ∧ isTerminus b = true ∧ b.die.yardUp = true ∧ tstate b = tsLocked ∧
      b.nav.lastValid + sec ≤ b.now)
    (fun _ u => tstate u = tsHoldover ∧ u.steer = none ∧ u.flag F.GNS_STATUS_SLEWING = false ∧ Flagged Src.GNS_HOLDOVER_IN u)) ∧
  (∀ x : GnssFix, Does (fun t => .gnssEpoch t x)
    (fun b => b.sound = true ∧ gnssOn b = true ∧ (b.nav.running = true → epochDue b = true))
    (fun b u => u.nav.running = true ∧ u.nav.epochAt = some (deviceTime b) ∧ (b.nav.running = false → u.nav.hot = hotStart b) ∧
      u.get F.GNS_STATUS_FIX = fixKind (refreshSource b) x ∧ u.nav.restart = false ∧
      u.flag F.GNS_STATUS_CORR_OK = (refreshSource b).flag F.GNS_STATUS_CORR_OK ∧
      (u.get F.GNS_STATUS_FIX ≠ b.get F.GNS_STATUS_FIX → Flagged Src.GNS_FIX_CHANGE u) ∧
      u.get F.GNS_STATUS_SATS = satN 6 x.used.length ∧ u.gets F.GNS_VEL_SPEED = satS 16 x.speed ∧
      u.flag F.GNS_STATUS_HEADING_VALID = headingOk b x ∧
      u.get F.GNS_HDG_HEADING = (if headingOk b x then machineHeading b x.azimuth else b.get F.GNS_HDG_HEADING) ∧
      (b.flag F.GNS_STATUS_HEADING_VALID = true → headingOk b x = false → Flagged Src.GNS_HEADING_LOST u) ∧
      u.gets F.GNS_ATT_ROLL = satS 16 (Config.attitude (imuMachine b) x.baseline x.azimuth).1 ∧
      u.gets F.GNS_ATT_PITCH = satS 16 (Config.attitude (imuMachine b) x.baseline x.azimuth).2 ∧
      (u.get F.GNS_STATUS_FIX ≠ 0 →
        u.get64 Reg.GNS_LAT_LO Reg.GNS_LAT_HI = toBits 64 (machineOrigin u x.lat x.lon x.hgt).1 ∧
        u.get64 Reg.GNS_LON_LO Reg.GNS_LON_HI = toBits 64 (machineOrigin u x.lat x.lon x.hgt).2.1 ∧ u.nav.posAt = deviceTime b) ∧
      (u.get F.GNS_STATUS_FIX = 0 → u.reg Reg.GNS_LAT_LO = b.reg Reg.GNS_LAT_LO ∧ u.reg Reg.GNS_LAT_HI = b.reg Reg.GNS_LAT_HI ∧
        u.reg Reg.GNS_LON_LO = b.reg Reg.GNS_LON_LO ∧ u.reg Reg.GNS_LON_HI = b.reg Reg.GNS_LON_HI) ∧
      (∀ v ∈ x.leap, u.gets F.GNS_LEAP_LEAP = satS 8 v ∧ u.flag F.GNS_LEAP_LEAP_VALID = true) ∧
      (∀ o ∈ x.orbits, (o.1, o.2, b.now) ∈ u.nav.orbits) ∧
      u.gets F.GNS_OFFSET_OFFSET = (if timeSolution (takeNavData x b) x then satS 32 (timeOffset (takeNavData x b) x)
        else b.gets F.GNS_OFFSET_OFFSET) ∧
      u.nav.lastValid = (if timeSolution (takeNavData x b) x then b.now else b.nav.lastValid))) ∧
  (∀ x : GnssFix, Does (fun t => .gnssEpoch t x)
    (fun b => b.sound = true ∧ gnssOn b = true ∧ (b.nav.running = true → epochDue b = true) ∧ isTerminus b = true ∧
      timeSolution (takeNavData x b) x = true ∧ (tstate b = tsAcquiring ∨ tstate b = tsHoldover) ∧ b.nav.good < 9)
    (fun b u => tstate u = tstate b ∧ u.nav.good = b.nav.good + 1 ∧ u.nav.acc = b.nav.acc + timeOffset (takeNavData x b) x ∧
      u.devOff = b.devOff ∧ u.steer = b.steer)) ∧
  (∀ x : GnssFix, Does (fun t => .gnssEpoch t x)
    (fun b => b.sound = true ∧ gnssOn b = true ∧ (b.nav.running = true → epochDue b = true) ∧ isTerminus b = true ∧
      timeSolution (takeNavData x b) x = true ∧ tstate b = tsOff ∧ b.nav.good < 9)
    (fun b u => tstate u = (if timeValid b then tsHoldover else tsAcquiring) ∧ u.nav.good = b.nav.good + 1)) ∧
  (∀ x : GnssFix, Does (fun t => .gnssEpoch t x)
    (fun b => b.sound = true ∧ gnssOn b = true ∧ (b.nav.running = true → epochDue b = true) ∧ isTerminus b = true ∧
      timeSolution (takeNavData x b) x = true ∧ b.nav.good = 9 ∧
      (tstate b = tsAcquiring ∨ (tstate b = tsHoldover ∧ 10000 ≤ (b.nav.acc + timeOffset (takeNavData x b) x).natAbs)))
    (fun b u => tstate u = tsStepPending ∧ u.nav.good = 0 ∧ u.nav.acc = 0 ∧ ∃ h first, u.nav.step =
      some { h := h, off := roundDiv (b.nav.acc + timeOffset (takeNavData x b) x) 10, first := first } ∧
        deviceTime b + 100 * ms ≤ h ∧ h % sec = 500 * ms ∧ h < deviceTime b + 1100 * ms ∧ first = !timeValid b)) ∧
  (∀ x : GnssFix, Does (fun t => .gnssEpoch t x)
    (fun b => b.sound = true ∧ gnssOn b = true ∧ (b.nav.running = true → epochDue b = true) ∧ isTerminus b = true ∧
      timeSolution (takeNavData x b) x = true ∧ b.nav.good = 9 ∧ tstate b = tsHoldover ∧
      (b.nav.acc + timeOffset (takeNavData x b) x).natAbs < 10000)
    (fun b u =>
      let off := roundDiv (b.nav.acc + timeOffset (takeNavData x b) x) 10
      tstate u = tsLocked ∧ u.nav.good = 0 ∧ u.nav.acc = 0 ∧ u.nav.lastDisciplined = b.now ∧ Flagged Src.GNS_TIME_SLEW u ∧
      u.flag F.GNS_STATUS_SLEWING = (off != 0) ∧
      u.steer = if off = 0 then none else some { start := b.now, base := b.devOff, off := off, dur := off.natAbs * 20000000 })) ∧
  (∀ x : GnssFix, Does (fun t => .gnssEpoch t x)
    (fun b => b.sound = true ∧ gnssOn b = true ∧ (b.nav.running = true → epochDue b = true) ∧ isTerminus b = true ∧
      timeSolution (takeNavData x b) x = false ∧ (tstate b = tsAcquiring ∨ tstate b = tsHoldover))
    (fun b u => tstate u = tstate b ∧ u.nav.good = 0 ∧ u.nav.acc = 0)) ∧
  (∀ x : GnssFix, Does (fun t => .gnssEpoch t x)
    (fun b => b.sound = true ∧ gnssOn b = true ∧ (b.nav.running = true → epochDue b = true) ∧ isTerminus b = true ∧
      timeSolution (takeNavData x b) x = true ∧ tstate b = tsLocked)
    (fun b u => tstate u = tsLocked ∧ u.nav.lastDisciplined = b.now ∧ u.devOff = b.devOff ∧
      (b.flag F.GNS_STATUS_SLEWING = true → u.steer = b.steer) ∧
      (b.flag F.GNS_STATUS_SLEWING = false → ∀ v ∈ u.steer, v.start = b.now ∧ v.base = b.devOff ∧
        v.off = timeOffset (takeNavData x b) x ∧ v.off.natAbs * 20000000 ≤ v.dur))) ∧
  (∀ x : GnssFix, Does (fun t => .gnssEpoch t x)
    (fun b => b.sound = true ∧ gnssOn b = true ∧ (b.nav.running = true → epochDue b = true) ∧ isTerminus b = true ∧
      timeSolution (takeNavData x b) x = false ∧ tstate b = tsLocked)
    (fun b u => tstate u = (if b.nav.lastValid + sec ≤ b.now then tsHoldover else tsLocked) ∧
      (b.nav.lastValid + sec ≤ b.now → u.steer = none ∧ Flagged Src.GNS_HOLDOVER_IN u))) ∧
  Does .slewEnd (fun b => b.sound = true ∧ b.steer = none)
    (fun b u => u = { b with regs := u.regs } ∧ u.flag F.GNS_STATUS_SLEWING = false ∧ FieldsKept [F.GNS_STATUS_SLEWING] b u) ∧
  Does .slewEnd (fun b => b.steer.isSome = true) (fun b u => u = b) ∧
  (∀ x, Does .timeStep (fun b => b.sound = true ∧ isTerminus b = true ∧ b.nav.step = some x ∧ stepDue b x = true)
    (fun b u => u.devOff = b.devOff + x.off ∧ u.steer = none ∧ u.nav.step = none ∧ u.nav.lastDisciplined = b.now ∧
      tstate u = tsLocked ∧ timeValid u = true ∧ Flagged (if x.first then Src.GNS_TIME_ALIGNED else Src.GNS_TIME_RESYNC) u ∧
      u.nav.suppressed = some (deviceTime u / sec + 1) ∧ u.nav.realigned = some (deviceTime u / sec + 2))) ∧
  Does .timeStep (fun b => isTerminus b = false ∨ ∀ x ∈ b.nav.step, stepDue b x = false) (fun b u => u = b) ∧
  (∀ k : Nat, Does .timePulse
    (fun b => b.sound = true ∧ b.flag F.GNS_PPS_CFG_PPS_EN = true ∧ pulseTime b = true ∧ b.die.yardUp = true ∧
      pulseSecond b = some k ∧ b.nav.lastPulse ≠ some k ∧ b.nav.suppressed ≠ some k)
    (fun b u => u = { b with
        regs := u.regs, out := [.pps], nav := { b.nav with lastPulse := some k, pulseAt := some b.now } } ∧
      u.get64 Reg.GNS_TOP_LO Reg.GNS_TOP_HI = k * sec % 2 ^ 64 ∧
      u.flag F.GNS_TOP_FLAGS_LOCK = (tstate b == tsLocked) ∧
      u.flag F.GNS_TOP_FLAGS_HOLDOVER = (tstate b == tsHoldover || tstate b == tsStepPending) ∧
      u.flag F.GNS_TOP_FLAGS_RESYNC = (b.nav.realigned == some k) ∧
      u.get F.GNS_TOP_FLAGS_SLEWING = b.get F.GNS_STATUS_SLEWING ∧
      u.get F.GNS_TOP_FLAGS_TERR_P = satN 16 (roundDiv (terr b) 10).toNat ∧
      RegsKept [Reg.GNS_TOP_LO, Reg.GNS_TOP_HI, Reg.GNS_TOP_FLAGS] b u)) ∧
  (∀ k : Nat, Does .timePulse
    (fun b => b.flag F.GNS_PPS_CFG_PPS_EN = true ∧ pulseTime b = true ∧ b.die.yardUp = true ∧ b.nav.ppsFrom = none ∧
      (k : Int) * sec ≤ (deviceTime b : Int) + b.gets F.GNS_PPS_DELAY_DELAY ∧
      (deviceTime b : Int) + b.gets F.GNS_PPS_DELAY_DELAY < (k : Int) * sec + 1000 ∧
      b.nav.lastPulse ≠ some k ∧ b.nav.suppressed ≠ some k)
    (fun _ u => u.out = [.pps] ∧ u.nav.lastPulse = some k)) ∧
  (∀ k : Nat, Does .timePulse
    (fun b => b.flag F.GNS_PPS_CFG_PPS_EN = true ∧ pulseTime b = true ∧ b.die.yardUp = true ∧
      pulseSecond b = some k ∧ b.nav.lastPulse ≠ some k ∧ b.nav.suppressed = some k)
    (fun b u => u = { b with nav := { b.nav with lastPulse := some k } })) ∧
  Does .timePulse
    (fun b => b.flag F.GNS_PPS_CFG_PPS_EN = false ∨ pulseTime b = false ∨ b.die.yardUp = false ∨ pulseSecond b = none ∨
      (b.nav.lastPulse.isSome = true ∧ pulseSecond b = b.nav.lastPulse)) (fun b u => u = b) ∧
  (∀ antB cur low limit, Does (fun t => .antFault t antB cur low limit) (fun b => b.sound = true)
    (fun b u =>
      let w := nth u.nav.ants (b2n antB) {}
      w.lowFrom = (if biasOn b antB = true ∧ cur < 3 then
        some (if low then (nth b.nav.ants (b2n antB) {}).lowFrom.getD b.now else b.now) else none) ∧
      w.limitFrom = (if biasOn b antB = true ∧ 110 ≤ cur then
        some (if limit then (nth b.nav.ants (b2n antB) {}).limitFrom.getD b.now else b.now) else none) ∧
      u.get (antCur antB) = (if biasOn b antB then satN 8 cur else 0) ∧
      u.flag (antOpen antB) = w.lowFrom.any (fun a => decide (a + sec ≤ b.now)) ∧
      u.flag (antShort antB) = w.limitFrom.any (fun a => decide (a + 10 * ms ≤ b.now)) ∧
      (u.flag (antOpen antB) = true → b.flag (antOpen antB) = false → Flagged Src.GNS_ANT_FAULT u) ∧
      (u.flag (antShort antB) = true → b.flag (antShort antB) = false → Flagged Src.GNS_ANT_FAULT u) ∧
      u.get (antCur !antB) = b.get (antCur !antB) ∧ u.get (antOpen !antB) = b.get (antOpen !antB) ∧
      u.get (antShort !antB) = b.get (antShort !antB) ∧
      u.nav = { b.nav with ants := u.nav.ants } ∧ nth u.nav.ants (b2n !antB) {} = nth b.nav.ants (b2n !antB) {})) ∧
  (∀ k, Does (fun t => .rtcmFrame t k) (fun b => gnssOn b = false ∨ k = 0 ∨ 3 < k) (fun b u => u = b)) ∧
  (∀ k, 1 ≤ k → k ≤ 3 → Does (fun t => .rtcmFrame t k)
    (fun b => b.sound = true ∧ gnssOn b = true ∧
      ((toPreamble (corrSource b k).buffer).length < 3 ∨ (toPreamble (corrSource b k).buffer).length <
        beNat (((toPreamble (corrSource b k).buffer).drop 1).take 2) % 1024 + 6))
    (fun b u => (corrSource u k).buffer = toPreamble (corrSource b k).buffer ∧
      u = { b with nav := { b.nav with sources := u.nav.sources } })) ∧
  (∀ k frame msg rest, 1 ≤ k → k ≤ 3 → Does (fun t => .rtcmFrame t k)
    (fun b => b.sound = true ∧ gnssOn b = true ∧ Framed k frame msg rest b ∧ ¬ frameChecks frame)
    (fun b u => u = { b with regs := u.regs, nav := { b.nav with sources := u.nav.sources } } ∧
      u.get F.GNS_RTCM_CNT_CRC_FAIL = satN 8 (b.get F.GNS_RTCM_CNT_CRC_FAIL + 1) ∧
      (corrSource u k).buffer = toPreamble ((toPreamble (corrSource b k).buffer).drop 1) ∧
      (corrSource u k).lastObs = (corrSource b k).lastObs ∧ FieldsKept [F.GNS_RTCM_CNT_CRC_FAIL] b u)) ∧
  (∀ k frame msg rest, 1 ≤ k → k ≤ 3 → Does (fun t => .rtcmFrame t k)
    (fun b => b.sound = true ∧ gnssOn b = true ∧ Framed k frame msg rest b ∧ frameChecks frame ∧
      obsMessages.contains (rtcmNumber msg) = true ∧ observesTracked (rtcmNumber msg) msg = true ∧
      (b.flag F.GNS_RTK_CFG_BASE_FILT = true → rtcmStation msg = b.get F.GNS_RTK_CFG_BASE_ID))
    (fun b u => FrameTaken k frame rest b u ∧ (corrSource u k).lastObs = some b.now ∧ (corrSource u k).base = rtcmStation msg ∧
      (corrSource u k).since = (if sourceCurrent b k then (corrSource b k).since else b.now) ∧
      u.get F.GNS_RTCM_CNT_ACCEPTED = (b.get F.GNS_RTCM_CNT_ACCEPTED + 1) % 65536)) ∧
  (∀ k frame msg rest, 1 ≤ k → k ≤ 3 → Does (fun t => .rtcmFrame t k)
    (fun b => b.sound = true ∧ gnssOn b = true ∧ Framed k frame msg rest b ∧ frameChecks frame ∧
      obsMessages.contains (rtcmNumber msg) = true ∧
      b.flag F.GNS_RTK_CFG_BASE_FILT = true ∧ rtcmStation msg ≠ b.get F.GNS_RTK_CFG_BASE_ID)
    (fun b u => u = { b with nav := { b.nav with sources := u.nav.sources } } ∧ (corrSource u k).buffer = rest ∧
      (corrSource u k).lastObs = (corrSource b k).lastObs)) ∧
  (∀ k frame msg rest, 1 ≤ k → k ≤ 3 → Does (fun t => .rtcmFrame t k)
    (fun b => b.sound = true ∧ gnssOn b = true ∧ Framed k frame msg rest b ∧ frameChecks frame ∧
      (idleMessages.contains (rtcmNumber msg) = true ∨
        (obsMessages.contains (rtcmNumber msg) = true ∧ observesTracked (rtcmNumber msg) msg = false ∧
          (b.flag F.GNS_RTK_CFG_BASE_FILT = true → rtcmStation msg = b.get F.GNS_RTK_CFG_BASE_ID))))
    (fun b u => FrameTaken k frame rest b u ∧ u = { b with nav := { b.nav with sources := u.nav.sources, relay := u.nav.relay } } ∧
      (corrSource u k).lastObs = (corrSource b k).lastObs)) ∧
  (∀ k frame msg rest, 1 ≤ k → k ≤ 3 → Does (fun t => .rtcmFrame t k)
    (fun b => b.sound = true ∧ gnssOn b = true ∧ Framed k frame msg rest b ∧ frameChecks frame ∧
      aidMessages.contains (rtcmNumber msg) = true)
    (fun b u => FrameTaken k frame rest b u ∧ u.get F.GNS_RTCM_CNT_ACCEPTED = (b.get F.GNS_RTCM_CNT_ACCEPTED + 1) % 65536 ∧
      msg ∈ u.nav.aiding.map (·.2) ∧ (∀ o ∈ rtcmOrbit (rtcmNumber msg) msg, (o.1, o.2, b.now) ∈ u.nav.orbits) ∧
      u = { b with regs := u.regs, nav := { b.nav with
        sources := u.nav.sources, relay := u.nav.relay, aiding := u.nav.aiding, orbits := u.nav.orbits } } ∧
      FieldsKept [F.GNS_RTCM_CNT_ACCEPTED] b u)) ∧
  (∀ k frame msg rest, 1 ≤ k → k ≤ 3 → Does (fun t => .rtcmFrame t k)
    (fun b => b.sound = true ∧ gnssOn b = true ∧ Framed k frame msg rest b ∧ frameChecks frame ∧
      (obsMessages ++ aidMessages ++ idleMessages).contains (rtcmNumber msg) = false)
    (fun b u => (corrSource u k).buffer = rest ∧
      u.get F.GNS_RTCM_CNT_UNSUPPORTED = satN 8 (b.get F.GNS_RTCM_CNT_UNSUPPORTED + 1) ∧
      u = { b with regs := u.regs, nav := { b.nav with sources := u.nav.sources } } ∧
      FieldsKept [F.GNS_RTCM_CNT_UNSUPPORTED] b u)) ∧
  Does .corrStale (fun b => gnssOn b = false) (fun b u => u = b) ∧
  Does .corrStale (fun b => b.sound = true ∧ gnssOn b = true)
    (fun b u => u.get F.GNS_CORR_SRC = chooseSource b ∧
      u.get F.GNS_CORR_BASE = (if chooseSource b = 0 then 0 else (corrSource b (chooseSource b)).base % 4096) ∧
      u.flag F.GNS_STATUS_CORR_OK = (chooseSource b != 0 && sourceCurrent b (chooseSource b)) ∧
      u.get F.GNS_STATUS_FIX = b.get F.GNS_STATUS_FIX ∧
      u.nav = { b.nav with
        restart := b.nav.restart || (chooseSource b != 0 && u.get F.GNS_CORR_BASE != b.get F.GNS_CORR_BASE) } ∧
      (b.flag F.GNS_STATUS_CORR_OK = true → u.flag F.GNS_STATUS_CORR_OK = false → Flagged Src.GNS_CORR_STALE u) ∧
      (b.flag F.GNS_STATUS_CORR_OK = false ∨ u.flag F.GNS_STATUS_CORR_OK = true →
        u = { b with regs := u.regs, nav := u.nav } ∧
        FieldsKept [F.GNS_CORR_SRC, F.GNS_CORR_BASE, F.GNS_STATUS_CORR_OK] b u))

/-- The rows of steering (R501, R509, R523, R529, R531–R537), on every path: the law, blended after a takeover or not, the operator enable,
and each cause that releases steering; on the relief terminus a cause releases nothing (R521). Roll and pitch between epochs are a free
value. Model's choices: the lever arm (log entry 219), and that the flag of a relief terminus follows the mirror (193). -/
def Obligations.SteeringRows : Prop :=
  (∀ x, Does (fun t => .steerCompute t x) (fun b => gnssOn b = false ∨ steerDue b = false) (fun b u => u = b)) ∧
  (∀ x : NavPoint, Does (fun t => .steerCompute t x) (fun b => b.sound = true ∧ gnssOn b = true ∧ steerDue b = true)
    (fun b u => u.nav.steerAt = some (deviceTime b) ∧ u.get F.GNS_HDG_HEADING = x.heading % 524288 ∧
      u.gets F.GNS_VEL_SPEED = satS 16 x.speed ∧ u.nav.posAt = deviceTime b ∧
      u.gets F.GNS_ATT_ROLL = satS 16 (Config.attitude (imuMachine b) 0 0).1 ∧
      u.gets F.GNS_ATT_PITCH = satS 16 (Config.attitude (imuMachine b) 0 0).2 ∧
      u.get64 Reg.GNS_LAT_LO Reg.GNS_LAT_HI = toBits 64 (machineOrigin u x.lat x.lon x.hgt).1 ∧
      u.get64 Reg.GNS_LON_LO Reg.GNS_LON_HI = toBits 64 (machineOrigin u x.lat x.lon x.hgt).2.1 ∧
      u.nav.shiftNow = (match b.nav.guide with | none => b.nav.shiftNow | some g => shiftStep g b.nav.shiftNow) ∧
      u.nav.guide = b.nav.guide ∧ (u.nav.ovSince = none ↔ overrideNow b = false))) ∧
  (∀ (x : NavPoint) g ey epsi kap, Does (fun t => .steerCompute t x)
    (fun b => b.sound = true ∧ gnssOn b = true ∧ steerDue b = true ∧ b.nav.guide = some g ∧ b.nav.blend = none ∧ b.nav.blendDue = false ∧
      errorsNow (steerShifted x g b) g = some (ey, epsi, kap))
    (fun b u => u.nav.ey = ey ∧ u.nav.epsi = epsi ∧ u.nav.delta = wheelAngle (steerState x b) ey epsi kap ∧
      u.gets F.GNS_STEER_XTE_XTE = satS 32 (gScaled ey 1000 1) ∧
      u.gets F.GNS_STEER_HE_HE = satS 32 (gScaled (gDiv epsi gPi) 180000 1))) ∧
  (∀ (x : NavPoint) g ey epsi kap, Does (fun t => .steerCompute t x)
    (fun b => b.sound = true ∧ gnssOn b = true ∧ steerDue b = true ∧ b.nav.guide = some g ∧ b.nav.blendDue = true ∧
      errorsNow (steerShifted x g b) g = some (ey, epsi, kap))
    (fun b u => u.nav.blendDue = false ∧ u.nav.blend = some (b.now, gSub b.nav.mirEy ey, gSub b.nav.mirEpsi epsi) ∧
      u.flag F.GNS_STEER_STATUS_BLEND = true ∧ u.nav.ey = ey ∧ u.nav.epsi = epsi)) ∧
  (∀ (x : NavPoint) g ey epsi kap t0 dy dp, Does (fun t => .steerCompute t x)
    (fun b => b.sound = true ∧ gnssOn b = true ∧ steerDue b = true ∧ b.nav.guide = some g ∧ b.nav.blendDue = false ∧
      b.nav.blend = some (t0, dy, dp) ∧ errorsNow (steerShifted x g b) g = some (ey, epsi, kap))
    (fun b u => u.nav.ey = ey ∧ u.nav.epsi = epsi ∧ u.nav.blend = b.nav.blend ∧
      u.nav.delta = (if t0 + 2 * sec ≤ b.now then wheelAngle (steerState x b) ey epsi kap
        else
          let w := gSub (gInt 1) (gRat ((b.now - t0 : Nat) : Int) (2 * sec))
          wheelAngle (steerState x b) (gAdd ey (gMul dy w)) (gAdd epsi (gMul dp w)) kap))) ∧
  (∀ (x : NavPoint) g ey epsi kap, Does (fun t => .steerCompute t x)
    (fun b => b.sound = true ∧ gnssOn b = true ∧ steerDue b = true ∧ engaged b = true ∧ isTerminus b = true ∧ b.nav.guide = some g ∧
      errorsNow (steerShifted x g b) g = some (ey, epsi, kap) ∧ offBy ey (b.get F.GNS_STEER_ENG_REL_XTE) = true)
    (fun _ u => Released 7 u)) ∧
  (∀ x : NavPoint, Does (fun t => .steerCompute t x)
    (fun b => b.sound = true ∧ gnssOn b = true ∧ steerDue b = true ∧ engaged b = true ∧ isTerminus b = true ∧
      (∀ g ∈ b.nav.guide, ∀ e ∈ errorsNow (steerShifted x g b) g, offBy e.1 (b.get F.GNS_STEER_ENG_REL_XTE) = false) ∧
      3000 < (0 - satS 16 x.speed) * 36)
    (fun _ u => Released 8 u)) ∧
  (∀ x : NavPoint, Does (fun t => .steerCompute t x)
    (fun b => b.sound = true ∧ gnssOn b = true ∧ steerDue b = true ∧ engaged b = true ∧ isTerminus b = true ∧
      (∀ g ∈ b.nav.guide, ∀ e ∈ errorsNow (steerShifted x g b) g, offBy e.1 (b.get F.GNS_STEER_ENG_REL_XTE) = false) ∧
      (0 - satS 16 x.speed) * 36 ≤ 3000 ∧ steerPathFault b = true)
    (fun _ u => Released 9 u)) ∧
  (∀ x : NavPoint, Does (fun t => .steerCompute t x)
    (fun b => b.sound = true ∧ gnssOn b = true ∧ steerDue b = true ∧
      (engaged b = false ∨ isRelief b = true ∨
        ((∀ g ∈ b.nav.guide, ∀ e ∈ errorsNow (steerShifted x g b) g, offBy e.1 (b.get F.GNS_STEER_ENG_REL_XTE) = false) ∧
          (0 - satS 16 x.speed) * 36 ≤ 3000 ∧ steerPathFault b = false)))
    (fun b u => engaged u = engaged b ∧ u.get F.GNS_STEER_STATUS_REASON = b.get F.GNS_STEER_STATUS_REASON)) ∧
  Does .enableFilter (fun b => enableNow b ≠ b.nav.enRaw)
    (fun b u => u = { b with nav := { b.nav with enRaw := enableNow b, enSince := b.now } }) ∧
  Does .enableFilter
    (fun b => enableNow b = b.nav.enRaw ∧ (b.nav.enRaw = b.nav.enabled ∨ b.now < b.nav.enSince + 20 * ms)) (fun b u => u = b) ∧
  Does .enableFilter
    (fun b => b.nav.enabled = false ∧ b.nav.enRaw = true ∧ enableNow b = true ∧ b.nav.enSince + 20 * ms ≤ b.now)
    (fun b u => u = { b with nav := { b.nav with enabled := true } }) ∧
  Does .enableFilter
    (fun b => b.sound = true ∧ b.nav.enabled = true ∧ b.nav.enRaw = false ∧ enableNow b = false ∧ b.nav.enSince + 20 * ms ≤ b.now)
    (fun b u => u.nav = { b.nav with enabled := false } ∧ ReleasedIfHeld 2 { b with nav := { b.nav with enabled := false } } u) ∧
  Does .edgeHoldTimeout
    (fun b => b.sound = true ∧ b.get F.GNS_STEER_STATUS_MODE = 3 ∧ b.nav.edgeAt + b.get F.GNS_EDGE2_HOLD * 100 * ms ≤ b.now)
    (fun b u => ReleasedIfHeld 10 b u) ∧
  Does .edgeHoldTimeout
    (fun b => b.get F.GNS_STEER_STATUS_MODE ≠ 3 ∨ b.now < b.nav.edgeAt + b.get F.GNS_EDGE2_HOLD * 100 * ms) (fun b u => u = b) ∧
  (∀ since, Does .fixGraceExpiry
    (fun b => b.sound = true ∧ b.nav.fixBadSince = some since ∧ since + b.get F.GNS_STEER_SPD_FIX_GRACE * 100 * ms ≤ b.now)
    (fun b u => ReleasedIfHeld 4 b u)) ∧
  (∀ since, Does .fixGraceExpiry
    (fun b => b.sound = true ∧ (∀ a ∈ b.nav.fixBadSince, b.now < a + b.get F.GNS_STEER_SPD_FIX_GRACE * 100 * ms) ∧
      b.nav.hdgBadSince = some since ∧ since + b.get F.GNS_STEER_SPD_FIX_GRACE * 100 * ms ≤ b.now)
    (fun b u => ReleasedIfHeld 5 b u)) ∧
  Does .fixGraceExpiry
    (fun b => (∀ a ∈ b.nav.fixBadSince, b.now < a + b.get F.GNS_STEER_SPD_FIX_GRACE * 100 * ms) ∧
      ∀ a ∈ b.nav.hdgBadSince, b.now < a + b.get F.GNS_STEER_SPD_FIX_GRACE * 100 * ms) (fun b u => u = b) ∧
  (∀ since, Does .overrideExpiry
    (fun b => b.sound = true ∧ overrideNow b = true ∧ b.nav.ovSince = some since ∧
      since + b.get F.GNS_STEER_OVR_OV_TIME * 10 * ms ≤ b.now)
    (fun b u => ReleasedIfHeld 3 b u)) ∧
  (∀ since, Does .overrideExpiry
    (fun b => overrideNow b = true ∧ b.nav.ovSince = some since ∧ b.now < since + b.get F.GNS_STEER_OVR_OV_TIME * 10 * ms)
    (fun b u => u = b)) ∧
  Does .overrideExpiry
    (fun b => overrideNow b = true ∧ b.nav.ovSince = none ∧ b.get F.GNS_STEER_OVR_OV_TIME ≠ 0)
    (fun b u => u = { b with nav := { b.nav with ovSince := some b.now } }) ∧
  Does .overrideExpiry (fun b => overrideNow b = false) (fun b u => u = { b with nav := { b.nav with ovSince := none } }) ∧
  (∀ since, Does .speedExpiry (fun b => b.sound = true ∧ b.nav.spdBadSince = some since ∧ since + sec ≤ b.now) (fun b u => ReleasedIfHeld 8 b u)) ∧
  Does .speedExpiry (fun b => ∀ a ∈ b.nav.spdBadSince, b.now < a + sec) (fun b u => u = b) ∧
  (∀ start err, Does .blendEnd (fun b => b.sound = true ∧ b.nav.blend = some (start, err) ∧ start + 2 * sec ≤ b.now)
    (fun b u => u = { b with regs := u.regs, nav := { b.nav with blend := none } } ∧ u.flag F.GNS_STEER_STATUS_BLEND = false ∧
      FieldsKept [F.GNS_STEER_STATUS_BLEND] b u)) ∧
  Does .blendEnd (fun b => ∀ x ∈ b.nav.blend, b.now < x.1 + 2 * sec) (fun b u => u = b)

/-! ### Yield mapping and the consist -/

/-- The rows of yield mapping (R552–R554, R560): samples are taken at whole 100 ms, a cut instant waits for its delays and assigns its
mass once, and the open field's tiles are written every 10 s. -/
def Obligations.YieldRows : Prop :=
  Does .yieldSample (fun b => yieldOn b = false ∨ cycleOver b = true ∨ onMultiple b (100 * ms) = none) (fun b u => u = b) ∧
  (∀ t0, Does .yieldSample
    (fun b => yieldOn b = true ∧ cycleOver b = false ∧ onMultiple b (100 * ms) = some t0 ∧ b.yld.samples.any (fun x => x.at_ == t0) = false)
    (fun b u => u = { b with yld := u.yld } ∧ u.yld.fields = b.yld.fields ∧ u.yld.openId = b.yld.openId ∧
      u.yld.nextCut = some (if b.yld.samples.all (fun x => decide (x.at_ + 32 * sec ≤ t0)) then t0 else b.yld.nextCut.getD t0) ∧
      (∃ x ∈ u.yld.samples, x.at_ = t0 ∧ x.assigned = false ∧
        x.fix = b.get F.GNS_STATUS_FIX ∧ x.headland = b.fn.headland) ∧
      ∀ x ∈ b.yld.samples, t0 < x.at_ + 32 * sec → x ∈ u.yld.samples)) ∧
  Does .cutInstant
    (fun b => yieldOn b = false ∨ b.yld.nextCut = none ∨ ∃ tau, b.yld.nextCut = some tau ∧
      deviceTime b < tau + max (b.get F.YLD_DELAY_FLOW_DELAY) (b.get F.YLD_DELAY_MOIST_DELAY) * 100 * ms)
    (fun b u => u = b) ∧
  (∀ tau, Does .cutInstant
    (fun b => yieldOn b = true ∧ b.yld.nextCut = some tau ∧ b.yld.openId = none ∧
      tau + max (b.get F.YLD_DELAY_FLOW_DELAY) (b.get F.YLD_DELAY_MOIST_DELAY) * 100 * ms ≤ deviceTime b)
    (fun b u => u = { b with yld := u.yld } ∧ u.yld.nextCut = some (tau + 100 * ms) ∧ u.yld.mapping = false ∧
      u.yld.live = b.yld.live ∧
      ∀ x, sampleAt u (tau + b.get F.YLD_DELAY_FLOW_DELAY * 100 * ms) = some x → x.assigned = true)) ∧
  (∀ id, Does .tileFlush (fun b => b.die.yardUp = true ∧ b.yld.flushedAt + 10 * sec ≤ b.now ∧ b.yld.openId = some id)
    (fun b u => u = { b with yld := u.yld } ∧ u.yld.flushedAt = b.now ∧ u.yld.live = b.yld.live ∧
      ∀ f ∈ u.yld.fields, f.id = id → f.data = b.yld.live)) ∧
  Does .tileFlush (fun b => b.now < b.yld.flushedAt + 10 * sec) (fun b u => u = b)

/-- What consist datagrams do (R89, R576, R581, R583, R587, R588, R594): a fragmented one does nothing, one that fails a check changes a
count and nothing of the consist; one that passes is taken by its TYPE. -/
def Obligations.ConsistDatagramRows : Prop :=
  (∀ d : UdpDatagram, d.fragmented = true → Does (fun t => .heartbeatReceive t d) (fun _ => True) (fun b u => u = b)) ∧
  (∀ d : UdpDatagram, d.fragmented = true → Does (fun t => .coverageReceive t d) (fun _ => True) (fun b u => u = b)) ∧
  (∀ d : UdpDatagram, d.fragmented = true → Does (fun t => .rendezvousReceive t d) (fun _ => True) (fun b u => u = b)) ∧
  (∀ d : UdpDatagram, d.fragmented = true → Does (fun t => .correctionsReceive t d) (fun _ => True) (fun b u => u = b)) ∧
  (∀ d : UdpDatagram, d.fragmented = true → Does (fun t => .leaveReceive t d) (fun _ => True) (fun b u => u = b)) ∧
  (∀ d, Does (fun t => .heartbeatReceive t { bytes := d })
    (fun b => b.sound = true ∧ consistOn b = true ∧ cstState b ≠ cstOut ∧ fieldAt d 3 1 = 1 ∧ (openDatagram d b).2 = none)
    (fun b u => u.cst.members = b.cst.members ∧ u.cst.replay = b.cst.replay ∧ u.cst.rdv = b.cst.rdv ∧ cstState u = cstState b ∧
      (u.get F.CST_CNT_AUTH_FAIL = satN 8 (b.get F.CST_CNT_AUTH_FAIL + 1) ∨
        u.get F.CST_CNT_REPLAY = satN 8 (b.get F.CST_CNT_REPLAY + 1)))) ∧
  (∀ d x, Does (fun t => .heartbeatReceive t { bytes := d })
    (fun b => Heard 1 d x b ∧ x.member ≤ 31 ∧ (cstState b ≠ cstMember ∨ x.member ≠ ownMember b))
    (fun b u => (∃ m ∈ u.cst.members, m.num = x.member ∧ m.absent = false ∧ m.at_ = b.now ∧ m.machine = fieldAt x.payload 0 8 ∧
        m.kind = fieldAt x.payload 8 1 ∧ m.fix = fieldAt x.payload 10 1) ∧
      (∀ m : ConsistMember, m.num ≠ x.member → (m ∈ u.cst.members ↔ m ∈ b.cst.members)) ∧ u.regs = b.regs)) ∧
  (∀ d x, Does (fun t => .heartbeatReceive t { bytes := d })
    (fun b => b.sound = true ∧ Heard 1 d x b ∧ cstState b = cstMember ∧ x.member = ownMember b ∧ fieldAt x.payload 0 8 < machineId b)
    (fun b u => cstState u = cstConflict ∧ u.cst.listenEnd = some (b.now + 3 * sec) ∧ Flagged Src.CST_MEMBER_CONFLICT u)) ∧
  (∀ d x, Does (fun t => .coverageReceive t { bytes := d })
    (fun b => b.sound = true ∧ Heard 2 d x b ∧ (b.yld.openId.bind (findField b) = none ∨
      ∃ f, b.yld.openId.bind (findField b) = some f ∧ (f.id ≠ fieldAt x.payload 0 4 ∨ originCrc f ≠ fieldAt x.payload 4 4)))
    (fun b u => u.yld = b.yld ∧ u.get F.CST_CNT_FOREIGN = satN 8 (b.get F.CST_CNT_FOREIGN + 1) ∧ FieldsKept [F.CST_CNT_FOREIGN] b u)) ∧
  (∀ d x f tile, Does (fun t => .coverageReceive t { bytes := d })
    (fun b => Heard 2 d x b ∧ b.yld.openId.bind (findField b) = some f ∧ f.id = fieldAt x.payload 0 4 ∧
      originCrc f = fieldAt x.payload 4 4 ∧ fieldAt x.payload 8 1 = 1 ∧ x.payload.length = 24 ∧ fieldAt x.payload 16 1 ≤ 31 ∧
      b.yld.live.tiles = [tile] ∧ tile.te = sfieldAt x.payload 12 2 ∧ tile.tn = sfieldAt x.payload 14 2)
    (fun _ u => u.yld.live.tiles.length = 1 ∧ ∀ c, c < 32 → bitAt (fieldAt x.payload 20 4) c = true →
      ∃ t' ∈ u.yld.live.tiles, (tileCell t' (32 * fieldAt x.payload 16 1 + c)).other = true ∧
        (tileCell t' (32 * fieldAt x.payload 16 1 + c)).own = (tileCell tile (32 * fieldAt x.payload 16 1 + c)).own)) ∧
  (∀ d x r, Does (fun t => .rendezvousReceive t { bytes := d })
    (fun b => b.sound = true ∧ Heard 3 d x b ∧ cstState b = cstMember ∧ fieldAt x.payload 4 1 = 6 ∧ fieldAt x.payload 5 1 = ownMember b ∧
      b.cst.rdv = some r ∧ r.id = fieldAt x.payload 0 4 ∧ b.get F.CST_RDV_RDV_STATE = 2 ∧ r.target = x.member)
    (fun _ u => u.cst.rdv = none ∧ u.get F.CST_RDV_RDV_STATE = 0 ∧ u.get F.CST_RDV_PARTNER = 0xFF ∧ u.get F.CST_RDV_REASON = 2 ∧
      u.out = [] ∧ Flagged Src.CST_RDV_CHANGE u)) ∧
  (∀ d x r, Does (fun t => .rendezvousReceive t { bytes := d })
    (fun b => Heard 3 d x b ∧ cstState b = cstMember ∧ fieldAt x.payload 4 1 = 2 ∧ fieldAt x.payload 5 1 = ownMember b ∧
      b.cst.rdv = some r ∧ r.requester = true ∧ r.id = fieldAt x.payload 0 4 ∧ b.get F.CST_RDV_RDV_STATE = 1 ∧
      r.offers.any (fun o => o.1 == x.member) = false ∧ b.now < r.firstAt + sec)
    (fun b u => u.regs = b.regs ∧ u.cst.rdv = some { r with
      offers := r.offers ++ [(x.member, fieldAt x.payload 42 2, placeOfPayload x.payload)] })) ∧
  (∀ d x, Does (fun t => .correctionsReceive t { bytes := d })
    (fun b => b.sound = true ∧ Heard 4 d x b ∧ b.flag F.CST_CFG_RELAY_RX = true ∧ b.get F.CST_TANK_RELAY_FROM = x.member ∧ x.member ≤ 31)
    (fun b u => (corrSource u 2).buffer = (corrSource b 2).buffer ++ x.payload.drop 4 ∧ u.regs = b.regs)) ∧
  (∀ d x, Does (fun t => .leaveReceive t { bytes := d })
    (fun b => Heard 5 d x b ∧ b.get F.CST_RDV_RDV_STATE ≠ 2)
    (fun b u => u.regs = b.regs ∧ ∀ m, m ∈ u.cst.members ↔ m ∈ b.cst.members ∧ m.machine ≠ fieldAt x.payload 0 8))

/-- What the consist sends and when its times run out, on a terminus whose consist runs, and in every other state nothing (R550,
R580–R583, R586, R590, R591, R593). STATE of a heartbeat carries the free value of log entry 123; the messages of a module that a
conflict of numbers has stopped follow log entry 192. -/
def Obligations.ConsistTimeRows : Prop :=
  (∀ w st, Does .heartbeatSend
    (fun b => b.sound = true ∧ consistOn b = true ∧ cstState b = cstMember ∧ ownMember b * 20 * ms ≤ deviceTime b ∧
      b.cst.beatAt ≠ some ((deviceTime b - ownMember b * 20 * ms) / sec) ∧ (deviceTime b - ownMember b * 20 * ms) % sec ≤ 100 * ms ∧
      w = (if b.flag F.YLD_CFG_EN then cutWidth b (toBits 32 (lineValue b (b.get F.YLD_SECT_SECT_ENTRY) (b.get F.YLD_SECT_SECT_WORD)))
        b.fn.headland else 0) ∧
      st = b2n (decide (0 < w)) + 2 * b2n (Config.unloading b.drawn) + 4 * b2n (engaged b) + 8 * b.get F.CST_CFG_RELAY_TX +
        16 * b.get F.CST_RDV_AVAILABLE)
    (fun b u => Sent 1 (consistId b) (ownMember b) [heartbeatPayload b st (tankFill b) w] b u ∧ u.drawn = b.drawn + 1 ∧
      u.cst.beatAt = some ((deviceTime b - ownMember b * 20 * ms) / sec) ∧ u.cst.members = b.cst.members)) ∧
  Does .heartbeatSend
    (fun b => b.sound = true ∧ consistOn b = true ∧ cstState b = cstMember ∧ ownMember b * 20 * ms ≤ deviceTime b ∧
      b.cst.beatAt ≠ some ((deviceTime b - ownMember b * 20 * ms) / sec) ∧ 100 * ms < (deviceTime b - ownMember b * 20 * ms) % sec)
    (fun b u => u.out = [] ∧ u.get F.CST_CNT_SKIPPED = satN 8 (b.get F.CST_CNT_SKIPPED + 1) ∧ FieldsKept [F.CST_CNT_SKIPPED] b u ∧
      u.cst = { b.cst with beatAt := some ((deviceTime b - ownMember b * 20 * ms) / sec) }) ∧
  Does .heartbeatSend
    (fun b => consistOn b = false ∨ cstState b ≠ cstMember ∨ deviceTime b < ownMember b * 20 * ms ∨
      b.cst.beatAt = some ((deviceTime b - ownMember b * 20 * ms) / sec))
    (fun b u => u = b) ∧
  (∀ f, Does .coverageSend
    (fun b => b.sound = true ∧ consistOn b = true ∧ cstState b = cstMember ∧ b.cst.coverAt.all (fun t0 => decide (t0 + sec ≤ b.now)) = true ∧
      b.yld.openId.bind (findField b) = some f ∧ seqRoom b 8)
    (fun b u => Sent 2 (consistId b) (ownMember b) ((chunks 99 8 (coverageRows b)).map (coveragePayload b f)) b u ∧
      u.cst.rows = b.cst.rows.drop 792 ∧ u.cst.coverAt = some b.now ∧ u.yld = b.yld ∧
      (∀ r ∈ b.cst.rows.take 792, (b.now + 5 * sec, r) ∈ u.cst.again) ∧ ∀ a ∈ b.cst.again, b.now < a.1 → a ∈ u.cst.again)) ∧
  Does .coverageSend
    (fun b => consistOn b = false ∨ cstState b ≠ cstMember ∨ b.yld.openId.bind (findField b) = none ∨
      b.cst.coverAt.any (fun t0 => decide (b.now < t0 + sec)) = true)
    (fun b u => u = b) ∧
  (∀ id m at_, Does .leaveRepeat
    (fun b => b.sound = true ∧ consistOn b = true ∧ b.cst.leaving = some (id, m, at_) ∧ at_ ≤ b.now)
    (fun b u => u.cst.leaving = none ∧ Sent 5 id m [leBytes 8 (machineId b)] b u)) ∧
  Does .leaveRepeat
    (fun b => consistOn b = false ∨ b.cst.leaving.all (fun e => decide (b.now < e.2.2)) = true)
    (fun b u => u = b) ∧
  (∀ n (m : ConsistMember), Does (fun t => .memberLost t n)
    (fun b => b.sound = true ∧ consistOn b = true ∧ b.cst.members.find? (fun x => x.num == n && !x.absent) = some m ∧
      m.at_ + 5 * sec ≤ b.now ∧ (b.get F.CST_RDV_RDV_STATE ≠ 2 ∨ b.get F.CST_RDV_PARTNER ≠ n))
    (fun b u => u.cst = { b.cst with members := putMember { m with absent := true } b.cst.members } ∧ Flagged Src.CST_MEMBER_LOST u ∧
      u.out = [])) ∧
  (∀ n (m : ConsistMember) r, Does (fun t => .memberLost t n)
    (fun b => b.sound = true ∧ consistOn b = true ∧ b.cst.members.find? (fun x => x.num == n && !x.absent) = some m ∧
      m.at_ + 5 * sec ≤ b.now ∧ cstState b = cstMember ∧ b.get F.CST_RDV_RDV_STATE = 2 ∧ b.get F.CST_RDV_PARTNER = n ∧ b.cst.rdv = some r)
    (fun b u => u.cst.members = putMember { m with absent := true } b.cst.members ∧ Flagged Src.CST_MEMBER_LOST u ∧ RdvOver 5 u ∧
      Sent 3 (consistId b) (ownMember b) [rdvPayload b r.id 6 r.target r.side 5 0] b u)) ∧
  (∀ n, Does (fun t => .memberLost t n)
    (fun b => consistOn b = false ∨ (b.cst.members.find? (fun x => x.num == n && !x.absent)).all (fun m => decide (b.now < m.at_ + 5 * sec)) = true)
    (fun b u => u = b)) ∧
  (∀ n, Does (fun t => .memberRemove t n) (fun b => consistOn b = true)
    (fun b u => u = { b with cst := { b.cst with members := u.cst.members } } ∧
      ∀ m, m ∈ u.cst.members ↔ m ∈ b.cst.members ∧ (m.num ≠ n ∨ b.now < m.at_ + 60 * sec))) ∧
  (∀ n, Does (fun t => .memberRemove t n) (fun b => consistOn b = false) (fun b u => u = b)) ∧
  (∀ at_ n, n < 32 → Does .joinListenEnd
    (fun b => b.sound = true ∧ consistOn b = true ∧ b.cst.listenEnd = some at_ ∧ at_ ≤ b.now ∧ b.cst.heard.contains n = false ∧
      (∀ k, k < n → b.cst.heard.contains k = true) ∧ b.pk.waiting.any (fun w => w.job == Job.listen) = false)
    (fun b u => cstState u = cstMember ∧ ownMember u = n ∧ u.cst.listenEnd = none ∧ u.cst.members = b.cst.members ∧
      Flagged Src.CST_MEMBER_JOINED u ∧ u.out = [])) ∧
  (∀ at_ n (w : Waiting) ip port, n < 32 → Does .joinListenEnd
    (fun b => b.sound = true ∧ consistOn b = true ∧ b.cst.listenEnd = some at_ ∧ at_ ≤ b.now ∧ b.cst.heard.contains n = false ∧
      (∀ k, k < n → b.cst.heard.contains k = true) ∧ b.pk.waiting = [w] ∧ w.job = .listen ∧ w.orphan = false ∧
      w.req.via = .host ip port ∧ reliefPresent b = false)
    (fun _ u => cstState u = cstMember ∧ ownMember u = n ∧ u.pk.waiting = [] ∧ Flagged Src.CST_MEMBER_JOINED u ∧
      ∃ r, u.out = [.packet w.req.via r] ∧ r.status = St.ok ∧ r.result = leBytes 1 n ∧ r.sequence = w.req.sequence.toNat)) ∧
  (∀ at_ (w : Waiting) ip port, Does .joinListenEnd
    (fun b => b.sound = true ∧ consistOn b = true ∧ b.cst.listenEnd = some at_ ∧ at_ ≤ b.now ∧
      (upFrom 0 32).all (fun k => b.cst.heard.contains k) = true ∧ b.pk.waiting = [w] ∧ w.job = .listen ∧ w.orphan = false ∧
      w.req.via = .host ip port ∧ reliefPresent b = false)
    (fun _ u => cstState u = cstOut ∧ consistId u = 0 ∧ u.cst.members = [] ∧ u.cst.listenEnd = none ∧ u.pk.waiting = [] ∧
      ∃ r, u.out = [.packet w.req.via r] ∧ r.status = St.consistFull ∧ r.sequence = w.req.sequence.toNat)) ∧
  Does .joinListenEnd
    (fun b => consistOn b = false ∨ b.cst.listenEnd.all (fun e => decide (b.now < e)) = true) (fun b u => u = b) ∧
  (∀ r, Does .requestSend
    (fun b => b.sound = true ∧ consistOn b = true ∧ cstState b = cstMember ∧ b.cst.rdv = some r ∧ b.get F.CST_RDV_RDV_STATE = 1 ∧
      r.sentAt + sec ≤ b.now)
    (fun b u => u.cst.rdv = some { r with sentAt := b.now } ∧
      Sent 3 (consistId b) (ownMember b) [rdvPayload b r.id 1 r.target r.side 0 0] b u)) ∧
  Does .requestSend
    (fun b => consistOn b = false ∨ cstState b ≠ cstMember ∨ b.get F.CST_RDV_RDV_STATE ≠ 1 ∨
      b.cst.rdv.all (fun r => decide (b.now < r.sentAt + sec)) = true)
    (fun b u => u = b) ∧
  (∀ r o, Does .offerSelect
    (fun b => b.sound = true ∧ consistOn b = true ∧ cstState b = cstMember ∧ b.cst.rdv = some r ∧ b.get F.CST_RDV_RDV_STATE = 1 ∧
      r.firstAt + sec ≤ b.now ∧ bestOffer r.offers = some o ∧ o.1 < 256 ∧ seqRoom b r.offers.length)
    (fun b u => o ∈ r.offers ∧ (∀ q ∈ r.offers, o.2.1 < q.2.1 ∨ (o.2.1 = q.2.1 ∧ o.1 ≤ q.1)) ∧
      u.get F.CST_RDV_RDV_STATE = 2 ∧ u.get F.CST_RDV_PARTNER = o.1 ∧ Flagged Src.CST_RDV_CHANGE u ∧
      u.cst.rdv = some { r with target := o.1, offers := [], trackAt := b.now, place := some o.2.2 } ∧
      Sent 3 (consistId b) (ownMember b) (rdvPayload b r.id 3 o.1 r.side 0 0 ::
        (r.offers.filter (fun q => q.1 != o.1)).map (fun q => rdvPayload b r.id 4 q.1 r.side 0 0)) b u)) ∧
  Does .offerSelect
    (fun b => consistOn b = false ∨ cstState b ≠ cstMember ∨ b.get F.CST_RDV_RDV_STATE ≠ 1 ∨
      b.cst.rdv.all (fun r => decide (b.now < r.firstAt + sec) || r.offers.isEmpty) = true)
    (fun b u => u = b) ∧
  (∀ r t0, Does .trackSend
    (fun b => b.sound = true ∧ consistOn b = true ∧ cstState b = cstMember ∧ b.cst.rdv = some r ∧ b.get F.CST_RDV_RDV_STATE = 2 ∧
      onMultiple b (100 * ms) = some t0 ∧ r.trackSent ≠ t0)
    (fun b u => u.cst.rdv = some { r with trackSent := t0 } ∧
      Sent 3 (consistId b) (ownMember b) [rdvPayload b r.id 5 r.target r.side 0 0] b u)) ∧
  Does .trackSend
    (fun b => consistOn b = false ∨ cstState b ≠ cstMember ∨ b.get F.CST_RDV_RDV_STATE ≠ 2 ∨ onMultiple b (100 * ms) = none ∨
      b.cst.rdv.all (fun r => onMultiple b (100 * ms) == some r.trackSent) = true)
    (fun b u => u = b) ∧
  (∀ r, Does .offerTimeout
    (fun b => b.sound = true ∧ consistOn b = true ∧ cstState b = cstMember ∧ b.cst.rdv = some r ∧ b.get F.CST_RDV_RDV_STATE = 1 ∧
      r.offers = [] ∧ r.firstAt + 10 * sec ≤ b.now)
    (fun b u => RdvOver 3 u ∧ Sent 3 (consistId b) (ownMember b) [rdvPayload b r.id 6 r.target r.side 3 0] b u)) ∧
  Does .offerTimeout
    (fun b => consistOn b = false ∨ b.get F.CST_RDV_RDV_STATE ≠ 1 ∨
      b.cst.rdv.all (fun r => decide (b.now < r.firstAt + 10 * sec) || !r.offers.isEmpty) = true)
    (fun b u => u = b) ∧
  (∀ r, Does .trackTimeout
    (fun b => b.sound = true ∧ consistOn b = true ∧ cstState b = cstMember ∧ b.cst.rdv = some r ∧ b.get F.CST_RDV_RDV_STATE = 2 ∧
      r.trackAt + 3 * sec ≤ b.now)
    (fun b u => RdvOver 4 u ∧ Sent 3 (consistId b) (ownMember b) [rdvPayload b r.id 6 r.target r.side 4 0] b u)) ∧
  Does .trackTimeout
    (fun b => consistOn b = false ∨ b.get F.CST_RDV_RDV_STATE ≠ 2 ∨ b.cst.rdv.all (fun r => decide (b.now < r.trackAt + 3 * sec)) = true)
    (fun b u => u = b) ∧
  Does .correctionRelay
    (fun b => b.sound = true ∧ consistOn b = true ∧ cstState b = cstMember ∧ b.nav.relay.all (fun e => decide (e.2.length ≤ 1196)) = true ∧
      seqRoom b b.nav.relay.length)
    (fun b u => u.nav = { b.nav with relay := [] } ∧
      Sent 4 (consistId b) (ownMember b) (relayPayloads b b.nav.relay.length b.nav.relay) b u) ∧
  Does .correctionRelay (fun b => consistOn b = false ∨ cstState b ≠ cstMember) (fun b u => u = b)

/-! ### Memory, the message bus and images -/

/-- The rows of the DMA engine and of data streams (R640, R642, R651–R661, R666, R669): a granted channel starts its next descriptor, a
linear copy between memories moves exactly its bytes, an error is written back, and pages and units follow. -/
def Obligations.TransferRows : Prop :=
  (∀ c d, c < 32 → dmaClass c = 0 → Does (fun t => .descriptorStart t c [d])
    (fun b => b.sound = true ∧ b.die.yardUp = true ∧ (dmaChan b c).ring = [] ∧ (dmaChan b c).active = false ∧
      b.flag (F.DMA_CH_CTRL_STOP c) = false ∧ malformed b d = false)
    (fun b u => (dmaChan u c).active = true ∧ (dmaChan u c).startedAt = b.now ∧ u.get (F.DMA_CH_CTRL_STATE c) = 1 ∧
      (∃ e, (dmaChan u c).ring = [e] ∧ e.d = d ∧ e.again = false ∧ e.at_ = b.now) ∧
      u.get (F.DMA_CH_RING_PROD c) = (b.get (F.DMA_CH_RING_PROD c) + 1) % 65536 ∧ u.dma.mem = b.dma.mem ∧
      ∀ k, k < 32 → k ≠ c → dmaChan u k = dmaChan b k)) ∧
  (∀ c d, c < 32 → Does (fun t => .descriptorStart t c [d])
    (fun b => b.sound = true ∧ b.die.yardUp = true ∧ b.flag (F.DMA_CH_CTRL_STOP c) = true ∧ (dmaChan b c).ring.length < 256)
    (fun b u => (dmaChan u c).active = (dmaChan b c).active ∧ (dmaChan u c).ring.length = (dmaChan b c).ring.length + 1)) ∧
  (∀ c (e : DmaEnd) r rest lastA lastB, c < 32 → e.err = .none → e.corrected = 0 → e.uncorrected = 0 →
    Does (fun t => .descriptorComplete t c e)
      (fun b => b.sound = true ∧ b.die.yardUp = true ∧ (dmaChan b c).active = true ∧ (dmaChan b c).gated = false ∧
        (dmaChan b c).ring = r :: rest ∧ r.d.pattern.toNat = 0 ∧ inPorts r.d.src.toNat = false ∧ inPorts r.d.dst.toNat = false ∧
        yardRegion r.d.src.toNat = some lastA ∧ yardRegion r.d.dst.toNat = some lastB)
      (fun b u => (dmaChan u c).ring = rest ∧ (dmaChan u c).active = false ∧
        (∃ wb, (dmaChan u c).last = some (r.d, wb) ∧ wb.status = 1 ∧ wb.code = 0 ∧ wb.residue = 0) ∧
        u.get (F.DMA_CH_DONE_DESCS c) = (b.get (F.DMA_CH_DONE_DESCS c) + 1) % 2 ^ 24 ∧
        u.get (F.DMA_CH_DONE_BAD c) = b.get (F.DMA_CH_DONE_BAD c) ∧
        (∀ i, i < r.d.srcLen.toNat → memByte u (r.d.dst.toNat + i) = memByte b (r.d.src.toNat + i)) ∧
        ∀ a, a < r.d.dst.toNat ∨ r.d.dst.toNat + r.d.srcLen.toNat ≤ a → memByte u a = memByte b a)) ∧
  (∀ c (e : DmaEnd) r rest lastA lastB, c < 32 → e.err = .readback → e.corrected = 0 → e.uncorrected = 0 →
    Does (fun t => .descriptorComplete t c e)
      (fun b => b.sound = true ∧ b.die.yardUp = true ∧ (dmaChan b c).active = true ∧ (dmaChan b c).gated = false ∧
        (dmaChan b c).ring = r :: rest ∧ r.again = false ∧ r.d.pattern.toNat = 0 ∧ inPorts r.d.src.toNat = false ∧
        inPorts r.d.dst.toNat = false ∧ yardRegion r.d.src.toNat = some lastA ∧ yardRegion r.d.dst.toNat = some lastB)
      (fun b u => (dmaChan u c).ring = rest ∧ (dmaChan u c).bad = (dmaChan b c).bad ++ [(r, 4)] ∧
        u.get (F.DMA_CH_LAST_CODE c) = 4 ∧ u.get (F.DMA_CH_LAST_RESIDUE c) = 1 ∧
        u.get (F.DMA_CH_DONE_BAD c) = satN 8 (b.get (F.DMA_CH_DONE_BAD c) + 1) ∧ Flagged Src.DMA_DESC_BAD u)) ∧
  (∀ c (r : RingEntry) code, c < 32 → code ≠ 6 → Does (fun t => .descResubmit t c)
    (fun b => b.sound = true ∧ b.die.yardUp = true ∧ (dmaChan b c).ring = [] ∧ (dmaChan b c).bad = [(r, code)])
    (fun b u => (dmaChan u c).bad = [] ∧ (∃ e, (dmaChan u c).ring = [e] ∧ e.d = r.d ∧ e.again = true) ∧ u.dma.mem = b.dma.mem)) ∧
  (∀ page cor, page < 3932160 → 0 < cor → Does (fun t => .patrolScrub t [(page, cor, 0)])
    (fun b => b.sound = true ∧ b.die.yardUp = true ∧ b.dma.lastErr.contains page = true ∧ b.dma.marked.contains page = false ∧ isRetired 6 0 page b = false)
    (fun b u => u.dma.marked = b.dma.marked ++ [page] ∧ u.dma.lastErr = [page] ∧
      u.get F.DMA_ECC_CORRECTED = satN 16 (b.get F.DMA_ECC_CORRECTED + cor))) ∧
  (∀ page, Does (fun t => .pageRetirement t page)
    (fun b => b.die.yardUp = true ∧ b.dma.marked.contains page = true ∧ pageInUse b page = false)
    (fun _ u => isRetired 6 0 page u = true ∧ u.dma.marked.contains page = false)) ∧
  (∀ page, Does (fun t => .pageRetirement t page)
    (fun b => b.dma.marked.contains page = false ∨ pageInUse b page = true) (fun b u => u = b)) ∧
  (∀ n, n < 4 → Does (fun t => .streamUnitSend t n) (fun b => b.flag (F.DMA_STR_CFG_OPEN n) = false) (fun b u => u = b)) ∧
  (∀ n (x : StreamUnit) ip, n < 4 → 0 < x.data.length → x.data.length ≤ 1408 → Does (fun t => .streamUnitSend t n)
    (fun b => b.sound = true ∧ b.die.yardUp = true ∧ b.flag (F.DMA_STR_CFG_OPEN n) = true ∧ b.flag (F.DMA_STR_CFG_SINK n) = false ∧
      (dataStream b n).queue = [x] ∧ (dataStream b n).offset = 0 ∧ (dataStream b n).msNo ≠ deviceTime b / ms ∧
      24 + x.data.length ≤ b.get (F.DMA_STR_PORT_RATE n) ∧ sessionAddress b (b.get (F.DMA_STR_CFG_SESSION n)) = some ip)
    (fun b u => (dataStream u n).queue = [] ∧ u.get (F.DMA_STR_UNITS_UNITS n) = (b.get (F.DMA_STR_UNITS_UNITS n) + 1) % 2 ^ 32 ∧
      ∃ bs, u.out = [.datagram ip (b.get (F.DMA_STR_PORT_UDP_PORT n)) bs] ∧ bs.length = 24 + x.data.length ∧
        bs.drop 24 = x.data ∧ fieldAt bs 0 2 = 0x5A44))

/-- The rows of the CAN controllers (R680–R694): a message falls due, a frame is sent or meets an error, bus-off and its end, the
address claim, reception, and a time-out. -/
def Obligations.MessageBusRows : Prop :=
  (∀ m, m < 32 → Does (fun t => .messageDue t m) (fun b => b.flag (F.MDB_TX_CFG_EN m) = false) (fun b u => u = b)) ∧
  (∀ m n at_, m < 32 → Does (fun t => .messageDue t m)
    (fun b => b.sound = true ∧ b.flag (F.MDB_TX_CFG_EN m) = true ∧ b.get (F.MDB_TX_CFG_PERIOD m) ≠ 0 ∧ dueInstant b m = some at_ ∧
      b.can.since ≤ at_ ∧ lookupNum b.can.lastDue m ≠ some at_ ∧ b.get (F.MDB_TX_CFG_CTRL m) = n ∧ canSend b n = true ∧
      (control b n).waiting = [] ∧ txPending b n 0 = false ∧ txPending b n 1 = false)
    (fun b u => (txBuffer u n 0).frame = some (messageFrame b m) ∧ txPending u n 0 = true ∧ u.get (txSrc n 0) = m ∧
      u.get (txRetries n 0) = 0 ∧ lookupNum u.can.lastDue m = some at_ ∧ txBuffer u n 1 = txBuffer b n 1)) ∧
  (∀ n k f, n < 4 → k < 3 → Does (fun t => .canFrameSent t n)
    (fun b => b.sound = true ∧ mayDrive b n = true ∧ offeredBuffer b n = some k ∧ (txBuffer b n k).frame = some f ∧
      (control b n).waiting = [] ∧ (control b n).firmware = [])
    (fun b u => u.out = [.canFrame n f] ∧ u.get (txState n k) = 2 ∧ txBuffer u n k = {} ∧
      u.get (F.MDB_C_CNT_TX_FRAMES n) = (b.get (F.MDB_C_CNT_TX_FRAMES n) + 1) % 65536 ∧
      u.get (F.MDB_C_ERR_TEC n) = b.get (F.MDB_C_ERR_TEC n) - 1)) ∧
  (∀ n k err, n < 4 → k < 3 → 1 ≤ err → err ≤ 6 → Does (fun t => .txError t n err)
    (fun b => b.sound = true ∧ mayDrive b n = true ∧ busState b n = 1 ∧ offeredBuffer b n = some k ∧
      b.get (F.MDB_C_ERR_TEC n) < 120 ∧ (txBuffer b n k).errors < b.get (F.MDB_C_CFG_RETRY n))
    (fun b u => (txBuffer u n k).errors = (txBuffer b n k).errors + 1 ∧ (txBuffer u n k).frame = (txBuffer b n k).frame ∧
      u.get (F.MDB_C_ERR_TEC n) = b.get (F.MDB_C_ERR_TEC n) + 8 ∧ u.get (F.MDB_C_ERR_LAST_ERR n) = err ∧ u.out = [] ∧
      txPending u n k = true)) ∧
  (∀ n k err, n < 4 → k < 3 → 1 ≤ err → err ≤ 6 → err ≠ 3 → Does (fun t => .txError t n err)
    (fun b => b.sound = true ∧ mayDrive b n = true ∧ offeredBuffer b n = some k ∧ 247 < b.get (F.MDB_C_ERR_TEC n))
    (fun b u => u.get (F.MDB_C_STATUS_STATE n) = 3 ∧ (∀ j, j < 3 → txPending u n j = false) ∧ (control u n).waiting = [] ∧
      u.get (F.MDB_C_ERR_BUSOFFS n) = satN 8 (b.get (F.MDB_C_ERR_BUSOFFS n) + 1) ∧ Flagged Src.MDB_BUS_OFF u)) ∧
  (∀ n, n < 4 → Does (fun t => .busOn t n) (fun b => b.sound = true ∧ canOn b n = true ∧ busState b n = 3)
    (fun _ u => u.get (F.MDB_C_STATUS_STATE n) = 1 ∧ u.get (F.MDB_C_ERR_TEC n) = 0 ∧ u.get (F.MDB_C_ERR_REC n) = 0 ∧
      Flagged Src.MDB_BUS_ON u)) ∧
  Does .addressClaim (fun b => b.sound = true ∧ isoBus b = true ∧ b.can.claimDue = true ∧ txPending b 0 2 = false)
    (fun b u => u.can.claimDue = false ∧ u.can.claimAt = some b.now ∧ u.flag (F.MDB_C_STATUS_CLAIMED 0) = false ∧
      u.get (F.MDB_C_STATUS_ADDRESS 0) = 0xFE ∧ (txBuffer u 0 2).frame = some (claimFrame b (b.get F.MDB_ADDR_PREF_ADDR))) ∧
  (∀ at_, Does .addressClaim
    (fun b => b.sound = true ∧ isoBus b = true ∧ b.can.claimDue = false ∧ b.can.claimAt = some at_ ∧ at_ + 250 * ms ≤ b.now)
    (fun b u => u.can.claimAt = none ∧ u.flag (F.MDB_C_STATUS_CLAIMED 0) = true ∧
      u.get (F.MDB_C_STATUS_ADDRESS 0) = b.get F.MDB_ADDR_PREF_ADDR)) ∧
  (∀ n (f : CanFrame), n < 3 → Does (fun t => .canFrameReceive t n f)
    (fun b => b.sound = true ∧ canOn b n = true ∧ busState b n ≠ 3 ∧ b.die.sigUp = true ∧ (control b n).received = [] ∧ f.fdf = false ∧
      f.remote = false ∧ filterFor b n f = none)
    (fun b u => u.get (F.MDB_C_DROP_NO_MATCH n) = satN 8 (b.get (F.MDB_C_DROP_NO_MATCH n) + 1) ∧
      u.get (F.MDB_C_CNT_RX_FRAMES n) = b.get (F.MDB_C_CNT_RX_FRAMES n) ∧ u.can.lastRx = b.can.lastRx ∧ u.line = b.line ∧
      (busState u n = busState b n → FieldsKept [F.MDB_C_DROP_NO_MATCH n, F.MDB_C_ERR_REC n] b u))) ∧
  (∀ n k r (f : CanFrame), n = 1 ∨ n = 2 → r < 32 → Does (fun t => .canFrameReceive t n f)
    (fun b => b.sound = true ∧ canOn b n = true ∧ busState b n ≠ 3 ∧ b.die.sigUp = true ∧ (control b n).received = [] ∧ f.fdf = false ∧
      f.remote = false ∧ filterFor b n f = some (k, 1) ∧ messagesFor b n f = [r])
    (fun b u => u.get (F.MDB_C_CNT_RX_FRAMES n) = (b.get (F.MDB_C_CNT_RX_FRAMES n) + 1) % 65536 ∧
      lookupNum u.can.lastRx r = some (deviceTime b) ∧ u.bit F.MDB_RX_STALE_STALE r = false)) ∧
  (∀ r, r < 32 → Does (fun t => .rxTimeout t r)
    (fun b => b.sound = true ∧ b.flag (F.MDB_RX_CFG_EN r) = true ∧ b.get (F.MDB_RX_CFG_TIMEOUT r) ≠ 0 ∧ b.bit F.MDB_RX_STALE_STALE r = false ∧
      max b.can.since ((lookupNum b.can.lastRx r).getD 0) + b.get (F.MDB_RX_CFG_TIMEOUT r) * ms ≤ deviceTime b)
    (fun _ u => u.bit F.MDB_RX_STALE_STALE r = true ∧ Flagged Src.MDB_RX_TIMEOUT u))

/-- The rows of images and update runs (R753–R756, R759, R760, R768–R770): verification, activation, health, the fallback of a trial,
and the acceptance or refusal of a run. -/
def Obligations.ImageRows : Prop :=
  (∀ d, d < 2 → Does (fun t => .verifyDone t d)
    (fun b => b.sound = true ∧ slotState b d (targetSlot b d) = uVerifying ∧ b.die.sigUp = true ∧ b.pk.waiting = [] ∧
      imageSigned b (imageSlot b d (targetSlot b d)) = true ∧ rollbackOk b d (imageSlot b d (targetSlot b d)).header = true)
    (fun b u => slotState u d (targetSlot b d) = uVerified ∧ u.upd = b.upd ∧ Flagged Src.UPD_IMAGE_VERIFIED u)) ∧
  (∀ d, d < 2 → Does (fun t => .verifyDone t d)
    (fun b => b.sound = true ∧ slotState b d (targetSlot b d) = uVerifying ∧ b.die.sigUp = true ∧ b.pk.waiting = [] ∧
      (imageSigned b (imageSlot b d (targetSlot b d)) = false ∨ rollbackOk b d (imageSlot b d (targetSlot b d)).header = false))
    (fun b u => slotState u d (targetSlot b d) = uEmpty ∧ imageSlot u d (targetSlot b d) = {} ∧
      u.get (F.UPD_SLOT_TRIAL d) = b.get (F.UPD_SLOT_TRIAL d))) ∧
  (∀ sig yard, Does (fun t => .moduleActivate t sig yard)
    (fun b => b.sound = true ∧ b.die.sigUp = true ∧ powered b = true ∧ b.upd.restartDue = [] ∧ canActivate b 0 sig.toNat = true)
    (fun b u => u.get (F.UPD_SLOT_TRIAL 0) = targetSlot b 0 + 1 ∧ u.get (F.UPD_SLOT_TRIES 0) = 0 ∧
      u.flag (F.UPD_SLOT_HEALTHY 0) = false ∧ u.die.sigUp = false ∧ u.upd.yardNext = canActivate b 1 yard.toNat ∧
      u.get (F.UPD_SLOT_ACTIVE 0) = b.get (F.UPD_SLOT_ACTIVE 0))) ∧
  (∀ sig yard, Does (fun t => .moduleActivate t sig yard)
    (fun b => b.upd.restartDue = [] ∧ canActivate b 0 sig.toNat = false ∧ canActivate b 1 yard.toNat = false)
    (fun b u => u.regs = b.regs ∧ u.die = b.die ∧ u.upd.slots = b.upd.slots)) ∧
  (∀ d from_, d < 2 → Does .trialHealthy
    (fun b => b.sound = true ∧ (trialSlot b d).isSome = true ∧ nth b.upd.healthFrom d none = some from_ ∧ healthItems b d = true ∧
      b.get (F.UPD_SLOT_HEALTHY d) = 0 ∧ from_ + tSoak ≤ b.now)
    (fun _ u => u.flag (F.UPD_SLOT_HEALTHY d) = true ∧ Flagged Src.UPD_IMAGE_HEALTHY u)) ∧
  (∀ d k at_, d < 2 → Does (fun t => .confirmTimeout t d)
    (fun b => b.sound = true ∧ powered b = true ∧ b.upd.restartDue = [] ∧ trialSlot b d = some k ∧ trialSlot b (1 - d) = none ∧
      nth b.upd.trialAt d none = some at_ ∧ b.get (F.UPD_SLOT_HEALTHY d) = 0 ∧ at_ + tConfirm ≤ b.now)
    (fun b u => trialSlot u d = none ∧ slotState u d k = uVerified ∧ u.get (F.UPD_SLOT_ACTIVE d) = b.get (F.UPD_SLOT_ACTIVE d) ∧
      dieDown u d = true ∧ (d = 1 → Flagged Src.UPD_FALLBACK u))) ∧
  (∀ l, Does (fun t => .runStep t l)
    (fun b => b.upd.restartDue = [] ∧ (isTerminus b = false ∨ b.die.yardUp = false ∨ b.die.sigUp = false ∨
      b.upd.run = none ∧ b.upd.asked = []))
    (fun b u => u = b)) ∧
  (∀ l sig yard, Does (fun t => .runStep t l)
    (fun b => b.sound = true ∧ isTerminus b = true ∧ b.die.yardUp = true ∧ b.die.sigUp = true ∧ b.upd.restartDue = [] ∧ b.upd.run = none ∧
      b.upd.asked = [(sig, yard)] ∧ b.sets.throw = none ∧
      ((lineModules b).filterMap (reportOf l b)).length = (lineModules b).length ∧
      ((lineModules b).filterMap (reportOf l b)).any (fun r => !(repAt r sig yard && !repOnTrial r)) = true ∧
      ((lineModules b).filterMap (reportOf l b)).all (fun r => lacks sig yard r == 0 && !repMajor yard r) = true ∧ noReliefNow b = false)
    (fun b u => u.upd.asked = [] ∧ u.get F.UPD_RUN_STEP = 0 ∧
      ∃ r, u.upd.run = some r ∧ r.sig = sig ∧ r.yard = yard ∧ r.terminus = joinNum b ∧ r.entries.map (fun e => e.num) = runOrder b)) ∧
  (∀ l sig yard (w : Waiting) ip port, Does (fun t => .runStep t l)
    (fun b => isTerminus b = true ∧ b.die.yardUp = true ∧ b.die.sigUp = true ∧ b.upd.restartDue = [] ∧ b.upd.run = none ∧
      b.upd.asked = [(sig, yard)] ∧ b.pk.waiting = [w] ∧ w.job = .run ∧ namedVersions w.req = (sig, yard) ∧ w.orphan = false ∧ w.req.via = .host ip port ∧
      reliefPresent b = false ∧ ((lineModules b).filterMap (reportOf l b)).length = (lineModules b).length ∧
      ((lineModules b).filterMap (reportOf l b)).all (fun r => repAt r sig yard && !repOnTrial r) = true)
    (fun _ u => u.upd.asked = [] ∧ u.upd.run = none ∧ u.pk.waiting = [] ∧
      ∃ r, u.out = [.packet w.req.via r] ∧ r.status = St.ok))

/-! ### The machine as a whole -/

/-- A step carries out the command at the front of the queue, with the rest of the queue behind it. With an empty queue the block
idles, which is the model's choice (log entry 2). -/
def Obligations.StepRunsFrontCommand : Prop :=
  (∀ (c : Instr) (rest : List Instr) (s : State), s.pending = c :: rest → step s = exec c { s with pending := rest }) ∧
  (∀ s : State, s.pending = [] → step s = .next s)

/-- No command stops the block: each has a next state in every state. -/
def Obligations.EveryCommandCompletes : Prop := ∀ (c : Instr) (s : State), ∃ u, exec c s = .next u

/-- The identity of this release (R825, R826), as the IDR block of a new module reads. -/
def Obligations.IdentityOfThisRelease : Prop :=
  registerBytes State.reset 0 8 = [0x64015343, 0x00000102, 0x00000101, 0x00020103, 0x00040300, 0x00000104, 0x00000001, 0].flatMap (leBytes 4) ∧
  registerBytes State.reset 0x28 2 = List.replicate 8 0#8 ∧ registerBytes State.reset 0x38 2 = List.replicate 8 0#8 ∧
  ownUid State.reset ≠ 0 ∧ ownUid State.reset ≠ 0xFFFFFFFFFFFFFFFF

/-- The status requests that return registers (R436, R631, R672, R732, R781). -/
def Obligations.StatusReads : Prop :=
  Serves .loopStatus 0x0404 (fun p _ => fieldAt p.params 0 1 ≤ 31)
    (Reports fun p s => registerBytes s (0x41000 + 0x20 * fieldAt p.params 0 1) 8) ∧
  Serves .loopStatus 0x0404 (fun p _ => fieldAt p.params 0 1 = 0xFF) (Reports fun _ s => registerBytes s 0x41000 256) ∧
  Serves .levelStatus 0x0E01 anyRequest (Reports fun _ s => registerBytes s 0x10000 8 ++ registerBytes s 0x20000 6) ∧
  Serves .dmaStatus 0x0A02 (fun p _ => fieldAt p.params 0 1 ≤ 31)
    (Reports fun p s => registerBytes s 0x90000 4 ++ registerBytes s (Reg.DMA_CH_CTRL (fieldAt p.params 0 1)) 8) ∧
  Serves .dmaStatus 0x0A02 (fun p _ => fieldAt p.params 0 1 = 0xFF)
    (Reports fun _ s => registerBytes s 0x90000 4 ++ registerBytes s (Reg.DMA_CH_CTRL 0) 256) ∧
  Serves .logbookInfo 0x0B01 anyRequest (Reports fun _ s => registerBytes s 0x60000 9) ∧
  Serves .updateStatus 0x0C05 anyRequest (Reports fun _ s => registerBytes s 0x70000 12)

/-- The state after reset is sound, and nothing waits in it. -/
def Obligations.ResetIsSound : Prop :=
  State.reset.sound = true ∧ State.reset.queueWf = true ∧ State.reset.pending = [] ∧ State.reset.die.sigUp = false ∧
  State.reset.die.yardUp = false

/-- Every step keeps the state sound: registers, latched halves and memories stay in canonical form, every numbered list keeps its size,
and every session its number of R98, whatever well-formed commands come. -/
def Obligations.StepKeepsSound : Prop :=
  ∀ s u : State, s.sound = true → s.queueWf = true → step s = .next u → u.sound = true ∧ u.queueWf = true

/-- Frames of the families whose rows only measure, protect, navigate, listen and transfer: beside registers and events they change
their own part of the state only, and registers of their own blocks only; the rows of the CAN controllers also the transfer of the service
path. -/
def Obligations.FamiliesKeepTheRest : Prop :=
  ∀ (c : Instr) (s u : State), s.sound = true → exec c s = .next u →
    (isLoadRow c = true → ∃ t, u = { eventsOnly (begin_ t s) u with load := u.load } ∧ blocksKept [.LSW, .CLE] (begin_ t s) u) ∧
    (isNavigationRow c = true → ∃ t, u = { eventsOnly (begin_ t s) u with nav := u.nav, steer := u.steer, drawn := u.drawn } ∧
      blocksKept [.GNS] (begin_ t s) u) ∧
    (isConsistRow c = true → ∃ t, u = { eventsOnly (begin_ t s) u with cst := u.cst, yld := u.yld, nav := u.nav, drawn := u.drawn } ∧
      blocksKept [.CST, .YLD] (begin_ t s) u) ∧
    (isTransferRow c = true → ∃ t, u = { eventsOnly (begin_ t s) u with dma := u.dma } ∧ blocksKept [.FUS] (begin_ t s) u) ∧
    (isTransmitRow c = true → ∃ t, u = { eventsOnly (begin_ t s) u with
        can := u.can
        pk := { s.pk with
          sessions := u.pk.sessions, isoRx := u.pk.isoRx, isoTx := u.pk.isoTx, asUntil := u.pk.asUntil } } ∧
      blocksKept [.MDB] (begin_ t s) u)

/-- What stands under every command: the queue and the order of time, and the keys in OTP (R744). What is stored outlasts every row that
brings no request: the level keys and the stored limp map stand. The bytes of the memories change by a completed descriptor only, or
are lost whole. -/
def Obligations.QueueTimeAndStoresStand : Prop :=
  ∀ (c : Instr) (s u : State), exec c s = .next u →
    (s.now ≤ u.now ∧ u.pending = s.pending ∧ u.upd.keys = s.upd.keys) ∧
    (bringsNoRequest c = true → u.pk.levelKeys = s.pk.levelKeys ∧ u.load.storedMap = s.load.storedMap ∧ u.load.storedCrc = s.load.storedCrc) ∧
    ((∀ t n e, c ≠ .descriptorComplete t n e) → u.dma.mem = s.dma.mem ∨ u.dma.mem = [])
end

