-- ==== Sys2Proof/Laws/Bits.lean ====
section
/-!
SUPPORT. Bit ranges of numbers: what reading a range after replacing one gives, and small facts about the operands.
-/

namespace Sys2Proof.Machine

/-- A bit of a range. -/
theorem testBit_bitsAt (v lo n i : Nat) : (bitsAt v lo n).testBit i = (decide (i < n) && v.testBit (lo + i)) := by
  simp [bitsAt, Nat.testBit_mod_two_pow, Nat.testBit_div_two_pow, Nat.add_comm]

/-- A range replaced, as the parts above, within and below. -/
theorem setBitsAt_eq (v lo n x : Nat) : setBitsAt v lo n x = 2 ^ (lo + n) * (v / 2 ^ (lo + n)) + (2 ^ lo * (x % 2 ^ n) + v % 2 ^ lo) := by
  unfold setBitsAt bitsAt
  have h1 : v = 2 ^ lo * (v / 2 ^ lo) + v % 2 ^ lo := (Nat.div_add_mod v (2 ^ lo)).symm
  have h2 : v / 2 ^ lo = 2 ^ n * (v / 2 ^ lo / 2 ^ n) + v / 2 ^ lo % 2 ^ n := (Nat.div_add_mod _ (2 ^ n)).symm
  rw [Nat.div_div_eq_div_mul, ← Nat.pow_add] at h2
  generalize hq : v / 2 ^ lo % 2 ^ n = q at *
  generalize hr : v % 2 ^ lo = r at *
  generalize hu : v / 2 ^ (lo + n) = u at *
  have h3 : v = 2 ^ (lo + n) * u + 2 ^ lo * q + r := by
    rw [h1, h2, Nat.mul_add, ← Nat.mul_assoc, ← Nat.pow_add]
  rw [h3, Nat.mul_comm q]
  have : 2 ^ (lo + n) * u + 2 ^ lo * q + r - 2 ^ lo * q = 2 ^ (lo + n) * u + r := by omega
  rw [this, Nat.mul_comm (x % 2 ^ n)]
  omega

/-- A bit of a number with a range replaced. -/
theorem testBit_setBitsAt (v lo n x i : Nat) :
    (setBitsAt v lo n x).testBit i = if lo ≤ i ∧ i < lo + n then x.testBit (i - lo) else v.testBit i := by
  have hx : x % 2 ^ n < 2 ^ n := Nat.mod_lt _ (Nat.two_pow_pos n)
  have hv : v % 2 ^ lo < 2 ^ lo := Nat.mod_lt _ (Nat.two_pow_pos lo)
  have hin : 2 ^ lo * (x % 2 ^ n) + v % 2 ^ lo < 2 ^ (lo + n) := by
    rw [Nat.pow_add]
    calc 2 ^ lo * (x % 2 ^ n) + v % 2 ^ lo < 2 ^ lo * (x % 2 ^ n) + 2 ^ lo := by omega
      _ = 2 ^ lo * (x % 2 ^ n + 1) := by ring
      _ ≤ 2 ^ lo * 2 ^ n := Nat.mul_le_mul_left _ hx
  rw [setBitsAt_eq, Nat.testBit_two_pow_mul_add _ hin, Nat.testBit_two_pow_mul_add _ hv]
  by_cases h1 : i < lo
  · have : i < lo + n := by omega
    have h' : ¬ lo ≤ i := by omega
    simp [h1, this, h', Nat.testBit_mod_two_pow]
  · by_cases h2 : i < lo + n
    · have h' : lo ≤ i := by omega
      have h3 : i - lo < n := by omega
      simp [h1, h2, h', h3, Nat.testBit_mod_two_pow]
    · have h' : lo + n ≤ i := by omega
      simp only [h2, if_false, and_false, Nat.testBit_div_two_pow]
      congr 1
      omega

/-- The range just replaced. -/
theorem bitsAt_setBitsAt_same (v lo n x : Nat) : bitsAt (setBitsAt v lo n x) lo n = x % 2 ^ n := by
  apply Nat.eq_of_testBit_eq
  intro i
  rw [testBit_bitsAt, testBit_setBitsAt, Nat.testBit_mod_two_pow]
  by_cases h : i < n <;> simp [h]

/-- A range that the replaced one does not meet. -/
theorem bitsAt_setBitsAt_apart (v lo n x lo' n' : Nat) (h : lo + n ≤ lo' ∨ lo' + n' ≤ lo) :
    bitsAt (setBitsAt v lo n x) lo' n' = bitsAt v lo' n' := by
  apply Nat.eq_of_testBit_eq
  intro i
  rw [testBit_bitsAt, testBit_bitsAt, testBit_setBitsAt]
  by_cases hi : i < n'
  · have : ¬ (lo ≤ lo' + i ∧ lo' + i < lo + n) := by omega
    simp [hi, this]
  · simp [hi]

/-- A number with a range replaced keeps below a power of two that bounds it and the range. -/
theorem setBitsAt_lt (v lo n x k : Nat) (hv : v < 2 ^ k) (hk : lo + n ≤ k) : setBitsAt v lo n x < 2 ^ k := by
  apply Nat.lt_pow_two_of_testBit
  intro i hi
  rw [testBit_setBitsAt]
  have h1 : ¬ (lo ≤ i ∧ i < lo + n) := by omega
  simp only [h1, if_false]
  exact Nat.testBit_lt_two_pow (lt_of_lt_of_le hv (Nat.pow_le_pow_right (by norm_num) hi))

/-- A value of so many bits. -/
theorem bitsAt_lt (v lo n : Nat) : bitsAt v lo n < 2 ^ n := Nat.mod_lt _ (Nat.two_pow_pos n)

/-- The number of a Boolean is one of one bit. -/
@[simp] theorem b2n_mod_two (b : Bool) : b2n b % 2 ^ 1 = b2n b := by cases b <;> rfl

/-- A fold of a step that keeps something keeps it. -/
theorem foldOver_keeps {α β γ : Type} (g : β → γ) (f : β → α → β) (h : ∀ b a, g (f b a) = g b) :
    ∀ (l : List α) (b : β), g (foldOver f b l) = g b
  | [], _ => rfl
  | a :: r, b => by rw [foldOver, foldOver_keeps g f h r, h]

/-- A fold of a step that preserves a property preserves it. -/
theorem foldOver_preserves {α β : Type} (P : β → Prop) (f : β → α → β) (h : ∀ b a, P b → P (f b a)) :
    ∀ (l : List α) (b : β), P b → P (foldOver f b l)
  | [], _, hb => hb
  | a :: r, b, hb => foldOver_preserves P f h r (f b a) (h b a hb)

/-- A fold over no list. -/
@[simp] theorem foldOver_nil {α β : Type} (f : β → α → β) (b : β) : foldOver f b [] = b := rfl

/-- A fold over a list with a head. -/
@[simp] theorem foldOver_cons {α β : Type} (f : β → α → β) (b : β) (a : α) (l : List α) :
    foldOver f b (a :: l) = foldOver f (f b a) l := rfl

end Sys2Proof.Machine
end

