-- ==== Sys2Proof/Laws/Crypto.lean ====
section
/-!
SUPPORT. The ranges of the checks and tags, and that neither AUTH nor the trailer of a request is under its own check.
-/

namespace Sys2Proof.Machine

theorem leNat_lt (b : Bytes) : leNat b < 256 ^ b.length := by
  induction b with
  | nil => simp [leNat]
  | cons x r ih =>
    have := x.isLt
    simp only [leNat, List.length_cons, Nat.pow_succ]
    omega

theorem crcBit_lt {poly c : Nat} (hp : poly < 2 ^ 32) (hc : c < 2 ^ 32) : crcBit poly c < 2 ^ 32 := by
  unfold crcBit
  split
  · exact Nat.xor_lt_two_pow (by omega) hp
  · omega

theorem crcByte_lt {poly c : Nat} (hp : poly < 2 ^ 32) (hc : c < 2 ^ 32) : crcByte poly c < 2 ^ 32 := by
  unfold crcByte
  repeat (first | exact hc | apply crcBit_lt hp)

theorem crcRun_lt {poly : Nat} (hp : poly < 2 ^ 32) (b : Bytes) : ∀ c, c < 2 ^ 32 → crcRun poly c b < 2 ^ 32 := by
  induction b with
  | nil => exact fun c h => h
  | cons x r ih =>
    intro c hc
    have hx : x.toNat < 2 ^ 32 := by have := x.isLt; omega
    exact ih _ (crcByte_lt hp (Nat.xor_lt_two_pow hc hx))

/-- A CRC-32C is a 32-bit number. -/
theorem crc32c_lt (b : Bytes) : crc32c b < 2 ^ 32 :=
  Nat.xor_lt_two_pow (crcRun_lt (by decide) b _ (by decide)) (by decide)

/-- A tag is a 64-bit number. -/
theorem tagOf_lt (key body : Bytes) : tagOf key body < 2 ^ 64 := by
  have h := leNat_lt ((hmacSha256 key body).take 8)
  have hl : ((hmacSha256 key body).take 8).length ≤ 8 := List.length_take_le 8 _
  exact Nat.lt_of_lt_of_le h (Nat.pow_le_pow_right (by decide) hl)

/-- The bytes under the tag and under the trailer do not hold the AUTH field's own register. -/
@[simp] theorem requestBytes_auth (op : Nat) (p : Request) (x : BitVec 64) (a : Nat) :
    requestBytes op { p with auth := x } a = requestBytes op p a := rfl

@[simp] theorem requestBytes_crc (op : Nat) (p : Request) (x : BitVec 32) (a : Nat) :
    requestBytes op { p with crc := x } a = requestBytes op p a := rfl

end Sys2Proof.Machine
end

