-- ==== Sys2Proof/Laws/Cipher.lean ====
section
/-!
SUPPORT. Lengths of hashes and of AES blocks, and that a consist datagram opens to what was sealed in it.
-/

namespace Sys2Proof.Machine

@[simp] theorem leBytes_length (n v : Nat) : (leBytes n v).length = n := by
  induction n generalizing v with
  | zero => rfl
  | succ n ih => simp [leBytes, ih]

@[simp] theorem beBytes_length (n v : Nat) : (beBytes n v).length = n := by simp [beBytes]

@[simp] theorem upFrom_length (a n : Nat) : (upFrom a n).length = n := by
  induction n generalizing a with
  | zero => rfl
  | succ n ih => simp [upFrom, ih]

/-! ### SHA-256 and HMAC -/

/-- A round keeps the four words of either half. -/
theorem shaRound_halves {v : ShaHalves} (kw : Nat) (h : v.low.length = 4 ∧ v.high.length = 4) :
    (shaRound v kw).low.length = 4 ∧ (shaRound v kw).high.length = 4 := by simp [shaRound, h]

theorem shaRounds_halves (l : List Nat) : ∀ {v : ShaHalves}, v.low.length = 4 ∧ v.high.length = 4 →
    (l.foldl shaRound v).low.length = 4 ∧ (l.foldl shaRound v).high.length = 4 := by
  induction l with
  | nil => exact fun h => h
  | cons x r ih => exact fun h => ih (shaRound_halves x h)

theorem shaBlock_length {h : List Nat} (b : Bytes) (hh : h.length = 8) : (shaBlock h b).length = 8 := by
  have hv : (h.take 4).length = 4 ∧ (h.drop 4).length = 4 := by simp [hh]
  simp [shaBlock, hh, shaRounds_halves _ (v := { low := h.take 4, high := h.drop 4 }) hv]

theorem flatMap_beBytes_length (l : List Nat) : (l.flatMap (beBytes 4)).length = 4 * l.length := by
  induction l with
  | nil => rfl
  | cons x r ih => simp only [List.flatMap_cons, List.length_append, beBytes_length, ih, List.length_cons]; omega

theorem shaBlocks_length (n : Nat) : ∀ {h : List Nat} (b : Bytes), h.length = 8 → (shaBlocks n h b).length = 8 := by
  induction n with
  | zero => exact fun _ h => h
  | succ n ih => exact fun b h => ih _ (shaBlock_length _ h)

@[simp] theorem sha256_length (m : Bytes) : (sha256 m).length = 32 := by
  simp only [sha256, flatMap_beBytes_length, shaBlocks_length _ _ (show (wordsOf shaStart 8).length = 8 from rfl)]

@[simp] theorem hmacSha256_length (k m : Bytes) : (hmacSha256 k m).length = 32 := by simp [hmacSha256]

/-! ### AES-128-GCM -/

theorem mixColumn_length (c : List Nat) : (mixColumn c).length = c.length := by
  unfold mixColumn
  split <;> rfl

theorem nextKey_length (rc : Nat) (k : List Nat) (h : k.length = 16) : (nextKey rc k).length = 16 := by
  simp [nextKey, xorNats, h]

theorem aesRounds_length (l k b : List Nat) (hk : k.length = 16) (hb : b.length = 16) : (aesRounds l k b).length = 16 := by
  induction l generalizing k b with
  | nil => exact hb
  | cons rc l ih =>
    apply ih _ _ (nextKey_length rc k hk)
    have hn := nextKey_length rc k hk
    split <;> simp [xorNats, hn, shiftRows, mixColumn_length]

@[simp] theorem aes128_length (k b : Bytes) (hk : k.length = 16) (hb : b.length = 16) : (aes128 k b).length = 16 := by
  simp only [aes128, List.length_map]
  exact aesRounds_length _ _ _ (by simp [hk]) (by simp [xorNats, hk, hb])

theorem gcmStream_length (k n : Bytes) (hk : k.length = 16) (hn : n.length = 12) (m c : Nat) : (gcmStream k n m c).length = 16 * m := by
  induction m generalizing c with
  | zero => rfl
  | succ m ih =>
    rw [gcmStream, List.length_append, ih, aes128_length _ _ hk (by simp [hn])]
    omega

theorem zipXor_twice (a b : Bytes) (h : a.length ≤ b.length) : List.zipWith BitVec.xor (List.zipWith BitVec.xor a b) b = a := by
  induction a generalizing b with
  | nil => simp
  | cons x r ih =>
    cases b with
    | nil => simp at h
    | cons y t =>
      simp only [List.zipWith_cons_cons, List.cons.injEq]
      refine ⟨?_, ih t (by simpa using h)⟩
      show x ^^^ y ^^^ y = x
      simp [BitVec.xor_assoc]

theorem gcmText_length (k n t : Bytes) (hk : k.length = 16) (hn : n.length = 12) : (gcmText k n t).length = t.length := by
  simp only [gcmText, gcmText.xorBytesN, List.length_zipWith, gcmStream_length k n hk hn, ceilDiv]
  omega

/-- Decryption is encryption again. -/
theorem gcmText_twice (k n t : Bytes) (hk : k.length = 16) (hn : n.length = 12) : gcmText k n (gcmText k n t) = t := by
  have hl := gcmText_length k n t hk hn
  unfold gcmText gcmText.xorBytesN at hl ⊢
  rw [hl]
  apply zipXor_twice
  rw [gcmStream_length k n hk hn]
  simp only [ceilDiv]
  omega

/-! ### Datagrams -/

theorem consistHeader_length (ty c m k l sn sq : Nat) : (consistHeader ty c m k l sn sq).length = 28 := by simp [consistHeader]

/-- A field within the header is a field of the header. -/
theorem fieldAt_append (h r : Bytes) (o n : Nat) (hn : o + n ≤ h.length) : fieldAt (h ++ r) o n = fieldAt h o n := by
  have h1 : o - h.length = 0 := by omega
  have h2 : n - (h.length - o) = 0 := by omega
  simp [fieldAt, List.drop_append, List.take_append, h1, h2]

/-- A datagram opens to what was sealed in it, where the key is held and the number is new (R573–R576). -/
theorem open_seal (ty m sn sq : Nat) (k : ConsistKey) (p : Bytes) (s : State)
    (hh : let h := consistHeader ty (consistId s) m k.keyId p.length sn sq
      fieldAt h 0 2 = 0x5A43 ∧ fieldAt h 2 1 = 1 ∧ fieldAt h 3 1 = ty ∧ fieldAt h 4 4 = consistId s ∧ fieldAt h 8 1 = m ∧
        fieldAt h 9 1 = k.keyId ∧ fieldAt h 10 2 = p.length ∧ fieldAt h 12 8 = sn ∧ fieldAt h 20 8 = sq)
    (hk : s.cst.keys.find? (fun x => x.keyId == k.keyId) = some k) (hf : seqFresh s sn sq = true)
    (ho : cstState s ≠ cstOut) :
    (openDatagram (sealDatagram k.key ty (consistId s) m k.keyId sn sq p) s).2 =
      some { type := ty, member := m, sender := sn, payload := p } := by
  have hl := consistHeader_length ty (consistId s) m k.keyId p.length sn sq
  have hkl : (senderKey k.key sn k.keyId).length = 16 := by simp [senderKey]
  have hnl : (consistNonce sq sn).length = 12 := by simp [consistNonce]
  have hcl := gcmText_length (senderKey k.key sn k.keyId) (consistNonce sq sn) p hkl hnl
  generalize hH : consistHeader ty (consistId s) m k.keyId p.length sn sq = h at hh hl
  simp only at hh
  obtain ⟨h0, h2, h3, h4, h8, h9, h10, h12, h20⟩ := hh
  have ht : (gcmTag (senderKey k.key sn k.keyId) (consistNonce sq sn) h
      (gcmText (senderKey k.key sn k.keyId) (consistNonce sq sn) p)).length = 16 := by
    simp [gcmTag, hkl, hnl]
  have hd : sealDatagram k.key ty (consistId s) m k.keyId sn sq p = h ++ (gcmText (senderKey k.key sn k.keyId) (consistNonce sq sn) p ++
      gcmTag (senderKey k.key sn k.keyId) (consistNonce sq sn) h (gcmText (senderKey k.key sn k.keyId) (consistNonce sq sn) p)) := by
    simp only [sealDatagram, hH, List.append_assoc]
  generalize hC : gcmText (senderKey k.key sn k.keyId) (consistNonce sq sn) p = c at hd hcl ht
  have hg : gcmText (senderKey k.key sn k.keyId) (consistNonce sq sn) c = p := by rw [← hC]; exact gcmText_twice _ _ _ hkl hnl
  generalize hT : gcmTag (senderKey k.key sn k.keyId) (consistNonce sq sn) h c = t at hd ht
  have hf' : ∀ o n, o + n ≤ 28 → fieldAt (h ++ (c ++ t)) o n = fieldAt h o n := fun o n hn => fieldAt_append h _ o n (by omega)
  have e1 : (h ++ (c ++ t)).take 28 = h := by simp [hl]
  have e2 : ((h ++ (c ++ t)).drop 28).take p.length = c := by
    rw [List.drop_append, hl, List.drop_eq_nil_of_le (by omega)]; simp [hcl]
  have e3 : (h ++ (c ++ t)).drop (28 + p.length) = t := by
    rw [← List.append_assoc, List.drop_append, List.drop_eq_nil_of_le (by simp [hl, hcl])]; simp [hl, hcl]
  have e4 : (h ++ (c ++ t)).length = 44 + p.length := by simp [hl, hcl, ht]; omega
  rw [hd]
  unfold openDatagram
  simp only [e1, hf' 10 2 (by omega), hf' 9 1 (by omega), hf' 12 8 (by omega), hf' 20 8 (by omega), hf' 0 2 (by omega),
    hf' 2 1 (by omega), hf' 4 4 (by omega), hf' 3 1 (by omega), hf' 8 1 (by omega), h0, h2, h3, h4, h8, h9, h10, h12, h20, hk, hf]
  rw [e2, e3, hT, hg]
  simp [e4, ho]

end Sys2Proof.Machine
end

