-- ==== Sys2Proof/Laws/Store.lean ====
section
/-!
SUPPORT. Sparse stores: a read after a write, and the canonical form that every write keeps.
-/

namespace Sys2Proof.Machine

variable {β : Type} [DecidableEq β] (dflt : Nat → β)

/-- A canonical store with a bound reads as unlisted below the bound. -/
theorem storeGet_below : ∀ (l : List (Nat × β)) (b a : Nat), storeWf dflt b l = true → a < b → storeGet dflt l a = dflt a
  | [], _, _, _, _ => rfl
  | (k, v) :: r, b, a, h, hab => by
    simp only [storeWf, Bool.and_eq_true, decide_eq_true_eq] at h
    have hk : a ≠ k := by omega
    simp only [storeGet, hk, if_false]
    exact storeGet_below r (k + 1) a h.2 (by omega)

/-- A canonical store stays canonical under a smaller bound. -/
theorem storeWf_mono : ∀ (l : List (Nat × β)) (b c : Nat), storeWf dflt b l = true → c ≤ b → storeWf dflt c l = true
  | [], _, _, _, _ => rfl
  | (k, v) :: r, b, c, h, hcb => by
    simp only [storeWf, Bool.and_eq_true, decide_eq_true_eq] at h ⊢
    exact ⟨⟨by omega, h.1.2⟩, h.2⟩

/-- Reading the address just written. -/
theorem storeGet_storeSet_same : ∀ (l : List (Nat × β)) (b a : Nat) (v : β), storeWf dflt b l = true →
    storeGet dflt (storeSet dflt l a v) a = v
  | [], _, a, v, _ => by
    by_cases hv : v = dflt a <;> simp [storeSet, storeGet, hv]
  | (k, w) :: r, b, a, v, h => by
    have h' := h
    simp only [storeWf, Bool.and_eq_true, decide_eq_true_eq] at h
    by_cases h1 : a < k
    · by_cases hv : v = dflt a
      · have := storeGet_below dflt ((k, w) :: r) k a (by simp only [storeWf, Bool.and_eq_true, decide_eq_true_eq]; exact ⟨⟨Nat.le_refl k, h.1.2⟩, h.2⟩) h1
        simp only [storeSet, h1, hv, if_true]
        rw [this]
      · simp [storeSet, h1, hv, storeGet]
    · by_cases h2 : a = k
      · subst h2
        by_cases hv : v = dflt a
        · have := storeGet_below dflt r (a + 1) a h.2 (by omega)
          simp only [storeSet, Nat.lt_irrefl, if_false, hv, if_true]
          rw [this]
        · simp [storeSet, hv, storeGet]
      · simp only [storeSet, h1, h2, if_false, storeGet]
        exact storeGet_storeSet_same r (k + 1) a v h.2

/-- Reading another address than the one written. -/
theorem storeGet_storeSet_ne : ∀ (l : List (Nat × β)) (a c : Nat) (v : β), c ≠ a →
    storeGet dflt (storeSet dflt l a v) c = storeGet dflt l c
  | [], a, c, v, h => by
    by_cases hv : v = dflt a <;> simp [storeSet, storeGet, hv, h]
  | (k, w) :: r, a, c, v, h => by
    by_cases h1 : a < k
    · by_cases hv : v = dflt a <;> simp [storeSet, h1, hv, storeGet, h]
    · by_cases h2 : a = k
      · subst h2
        by_cases hv : v = dflt a <;> simp [storeSet, hv, storeGet, h]
      · simp only [storeSet, h1, h2, if_false, storeGet]
        by_cases hc : c = k
        · simp [hc]
        · simp only [hc, if_false]
          exact storeGet_storeSet_ne r a c v h

/-- A write keeps the canonical form under a bound that it respects. -/
theorem storeWf_storeSet_bound : ∀ (l : List (Nat × β)) (b a : Nat) (v : β), storeWf dflt b l = true → b ≤ a →
    storeWf dflt b (storeSet dflt l a v) = true
  | [], b, a, v, _, hb => by
    by_cases hv : v = dflt a <;> simp [storeSet, storeWf, hv, hb]
  | (k, w) :: r, b, a, v, h, hb => by
    have h0 := h
    simp only [storeWf, Bool.and_eq_true, decide_eq_true_eq, Bool.not_eq_true', decide_eq_false_iff_not] at h
    by_cases h1 : a < k
    · by_cases hv : v = dflt a
      · simp only [storeSet, h1, hv, if_true]; exact h0
      · rw [show storeSet dflt ((k, w) :: r) a v = (a, v) :: (k, w) :: r by simp [storeSet, h1, hv]]
        simp only [storeWf, Bool.and_eq_true, decide_eq_true_eq, Bool.not_eq_true', decide_eq_false_iff_not]
        exact ⟨⟨hb, hv⟩, ⟨by omega, h.1.2⟩, h.2⟩
    · by_cases h2 : a = k
      · subst h2
        by_cases hv : v = dflt a
        · simp only [storeSet, Nat.lt_irrefl, if_false, hv, if_true]
          exact storeWf_mono dflt r (a + 1) b h.2 (by omega)
        · rw [show storeSet dflt ((a, w) :: r) a v = (a, v) :: r by simp [storeSet, hv]]
          simp only [storeWf, Bool.and_eq_true, decide_eq_true_eq, Bool.not_eq_true', decide_eq_false_iff_not]
          exact ⟨⟨hb, hv⟩, h.2⟩
      · simp only [storeSet, h1, h2, if_false, storeWf, Bool.and_eq_true, decide_eq_true_eq, Bool.not_eq_true', decide_eq_false_iff_not]
        exact ⟨h.1, storeWf_storeSet_bound r (k + 1) a v h.2 (by omega)⟩

/-- A write keeps the canonical form. -/
theorem storeWf_storeSet (l : List (Nat × β)) (a : Nat) (v : β) (h : storeWf dflt 0 l = true) :
    storeWf dflt 0 (storeSet dflt l a v) = true :=
  storeWf_storeSet_bound dflt l 0 a v h (Nat.zero_le a)

omit [DecidableEq β] in
/-- A filter of a list keeps its head bound or drops its head. -/
theorem storeWf_filter [DecidableEq β] (p : Nat × β → Bool) : ∀ (l : List (Nat × β)) (b : Nat), storeWf dflt b l = true →
    storeWf dflt b (l.filter p) = true
  | [], _, _ => rfl
  | (k, w) :: r, b, h => by
    simp only [storeWf, Bool.and_eq_true, decide_eq_true_eq] at h
    by_cases hp : p (k, w) = true
    · simp only [List.filter_cons_of_pos hp, storeWf, Bool.and_eq_true, decide_eq_true_eq]
      exact ⟨h.1, storeWf_filter p r (k + 1) h.2⟩
    · rw [List.filter_cons_of_neg hp]
      exact storeWf_mono dflt _ (k + 1) b (storeWf_filter p r (k + 1) h.2) (by omega)

/-- Dropping addresses keeps the canonical form. -/
theorem storeWf_storeDrop (p : Nat → Bool) (l : List (Nat × β)) (h : storeWf dflt 0 l = true) :
    storeWf dflt 0 (storeDrop p l) = true :=
  storeWf_filter dflt _ l 0 h

end Sys2Proof.Machine
end

