-- ==== Sys2Proof/Laws/Fields.lean ====
section
/-!
SUPPORT. Register fields: what a field reads after a field, a register or one bit is written, and that every write keeps the
register space canonical.
-/

namespace Sys2Proof.Machine

/-- The field lies in its 32-bit register. -/
def Fld.Fits (f : Fld) : Prop := f.lo + f.width ≤ 32

/-- Two fields share no bit. -/
def Fld.Apart (f g : Fld) : Prop := f.addr ≠ g.addr ∨ f.lo + f.width ≤ g.lo ∨ g.lo + g.width ≤ f.lo

/-- A register holds 32 bits. -/
theorem State.reg_lt (s : State) (a : Nat) : s.reg a < 2 ^ 32 := (storeGet regDefault s.regs a).isLt

/-- The register just written. -/
theorem State.reg_setReg_same (s : State) (a v : Nat) (h : s.regsWf = true) : (s.setReg a v).reg a = v % 2 ^ 32 := by
  simp only [State.reg, State.setReg]
  rw [storeGet_storeSet_same regDefault s.regs 0 a _ h, BitVec.toNat_ofNat]

/-- Another register than the one written. -/
theorem State.reg_setReg_ne (s : State) (a b v : Nat) (h : b ≠ a) : (s.setReg a v).reg b = s.reg b := by
  simp only [State.reg, State.setReg]
  rw [storeGet_storeSet_ne regDefault s.regs a b _ h]

/-- A register write keeps the register space canonical. -/
theorem State.regsWf_setReg (s : State) (a v : Nat) (h : s.regsWf = true) : (s.setReg a v).regsWf = true :=
  storeWf_storeSet regDefault s.regs a _ h

/-- A field write keeps the register space canonical. -/
theorem State.regsWf_put (s : State) (f : Fld) (v : Nat) (h : s.regsWf = true) : (s.put f v).regsWf = true :=
  State.regsWf_setReg s _ _ h

/-- The field just written. -/
theorem State.get_put_same (s : State) (f : Fld) (v : Nat) (h : s.regsWf = true) (hf : f.Fits) :
    (s.put f v).get f = v % 2 ^ f.width := by
  have hlt : setBitsAt (s.reg f.addr) f.lo f.width v < 2 ^ 32 := setBitsAt_lt _ _ _ _ _ (State.reg_lt s f.addr) hf
  simp only [State.get, State.put]
  rw [State.reg_setReg_same s _ _ h, Nat.mod_eq_of_lt hlt, bitsAt_setBitsAt_same]

/-- A field that shares no bit with the one written. -/
theorem State.get_put_apart (s : State) (f g : Fld) (v : Nat) (h : s.regsWf = true) (hf : f.Fits) (ha : f.Apart g) :
    (s.put f v).get g = s.get g := by
  by_cases hfg : g.addr = f.addr
  · have hlt : setBitsAt (s.reg f.addr) f.lo f.width v < 2 ^ 32 := setBitsAt_lt _ _ _ _ _ (State.reg_lt s f.addr) hf
    have hb : f.lo + f.width ≤ g.lo ∨ g.lo + g.width ≤ f.lo := by
      rcases ha with h1 | h1
      · exact absurd hfg.symm h1
      · exact h1
    simp only [State.get, State.put, hfg]
    rw [State.reg_setReg_same s _ _ h, Nat.mod_eq_of_lt hlt, bitsAt_setBitsAt_apart _ _ _ _ _ _ hb]
  · simp only [State.get, State.put]
    rw [State.reg_setReg_ne s _ _ _ hfg]

/-- Another register is not changed by a field write. -/
theorem State.reg_put_ne (s : State) (f : Fld) (v b : Nat) (h : b ≠ f.addr) : (s.put f v).reg b = s.reg b :=
  State.reg_setReg_ne s _ _ _ h

/-- A field of another register is not changed by a register write. -/
theorem State.get_setReg_ne (s : State) (a v : Nat) (g : Fld) (h : g.addr ≠ a) : (s.setReg a v).get g = s.get g := by
  simp only [State.get]
  rw [State.reg_setReg_ne s _ _ _ h]

/-- A value read from a field fits its width. -/
theorem State.get_lt (s : State) (f : Fld) : s.get f < 2 ^ f.width := bitsAt_lt _ _ _

/-- The bit just written. -/
theorem State.bit_putBit_same (s : State) (f : Fld) (i : Nat) (b : Bool) (h : s.regsWf = true) (hf : f.Fits) (hi : i < f.width) :
    (s.putBit f i b).bit f i = b := by
  simp only [State.bit, State.putBit]
  rw [State.get_put_same s f _ h hf]
  have hlt : setBitsAt (s.get f) i 1 (b2n b) < 2 ^ f.width := setBitsAt_lt _ _ _ _ _ (State.get_lt s f) (by omega)
  rw [Nat.mod_eq_of_lt hlt]
  have h1 : bitsAt (setBitsAt (s.get f) i 1 (b2n b)) i 1 = b2n b := by rw [bitsAt_setBitsAt_same, b2n_mod_two]
  unfold bitsAt at h1
  unfold bitAt
  rw [show (2 : Nat) = 2 ^ 1 by norm_num] at *
  simp only [pow_one] at h1 ⊢
  rw [h1]
  cases b <;> rfl

/-- Register reads depend on the register space alone. -/
theorem State.get_of_regs {s t : State} (h : t.regs = s.regs) (f : Fld) : t.get f = s.get f := by
  simp only [State.get, State.reg, h]

end Sys2Proof.Machine
end

