-- ==== Sys2Proof/Laws/State.lean ====
section
/-!
SUPPORT. What each named update of the state leaves alone, one lemma for each field: no later proof unfolds a record update.
-/

namespace Sys2Proof.Machine

/-! A register is written. -/

@[simp] theorem State.setReg_pending (s : State) (a v : Nat) : (State.setReg s a v).pending = s.pending := rfl
@[simp] theorem State.setReg_now (s : State) (a v : Nat) : (State.setReg s a v).now = s.now := rfl
@[simp] theorem State.setReg_devOff (s : State) (a v : Nat) : (State.setReg s a v).devOff = s.devOff := rfl
@[simp] theorem State.setReg_steer (s : State) (a v : Nat) : (State.setReg s a v).steer = s.steer := rfl
@[simp] theorem State.setReg_hiLatch (s : State) (a v : Nat) : (State.setReg s a v).hiLatch = s.hiLatch := rfl
@[simp] theorem State.setReg_out (s : State) (a v : Nat) : (State.setReg s a v).out = s.out := rfl
@[simp] theorem State.setReg_drawn (s : State) (a v : Nat) : (State.setReg s a v).drawn = s.drawn := rfl
@[simp] theorem State.setReg_ev (s : State) (a v : Nat) : (State.setReg s a v).ev = s.ev := rfl
@[simp] theorem State.setReg_pk (s : State) (a v : Nat) : (State.setReg s a v).pk = s.pk := rfl
@[simp] theorem State.setReg_role (s : State) (a v : Nat) : (State.setReg s a v).role = s.role := rfl
@[simp] theorem State.setReg_die (s : State) (a v : Nat) : (State.setReg s a v).die = s.die := rfl
@[simp] theorem State.setReg_sets (s : State) (a v : Nat) : (State.setReg s a v).sets = s.sets := rfl
@[simp] theorem State.setReg_line (s : State) (a v : Nat) : (State.setReg s a v).line = s.line := rfl
@[simp] theorem State.setReg_load (s : State) (a v : Nat) : (State.setReg s a v).load = s.load := rfl
@[simp] theorem State.setReg_inp (s : State) (a v : Nat) : (State.setReg s a v).inp = s.inp := rfl
@[simp] theorem State.setReg_eng (s : State) (a v : Nat) : (State.setReg s a v).eng = s.eng := rfl
@[simp] theorem State.setReg_fus (s : State) (a v : Nat) : (State.setReg s a v).fus = s.fus := rfl
@[simp] theorem State.setReg_fn (s : State) (a v : Nat) : (State.setReg s a v).fn = s.fn := rfl
@[simp] theorem State.setReg_nav (s : State) (a v : Nat) : (State.setReg s a v).nav = s.nav := rfl
@[simp] theorem State.setReg_yld (s : State) (a v : Nat) : (State.setReg s a v).yld = s.yld := rfl
@[simp] theorem State.setReg_cst (s : State) (a v : Nat) : (State.setReg s a v).cst = s.cst := rfl
@[simp] theorem State.setReg_clk (s : State) (a v : Nat) : (State.setReg s a v).clk = s.clk := rfl
@[simp] theorem State.setReg_lvl (s : State) (a v : Nat) : (State.setReg s a v).lvl = s.lvl := rfl
@[simp] theorem State.setReg_dma (s : State) (a v : Nat) : (State.setReg s a v).dma = s.dma := rfl
@[simp] theorem State.setReg_can (s : State) (a v : Nat) : (State.setReg s a v).can = s.can := rfl
@[simp] theorem State.setReg_pwr (s : State) (a v : Nat) : (State.setReg s a v).pwr = s.pwr := rfl
@[simp] theorem State.setReg_upd (s : State) (a v : Nat) : (State.setReg s a v).upd = s.upd := rfl

/-! A field is written. -/

@[simp] theorem State.put_pending (s : State) (f : Fld) (v : Nat) : (State.put s f v).pending = s.pending := rfl
@[simp] theorem State.put_now (s : State) (f : Fld) (v : Nat) : (State.put s f v).now = s.now := rfl
@[simp] theorem State.put_devOff (s : State) (f : Fld) (v : Nat) : (State.put s f v).devOff = s.devOff := rfl
@[simp] theorem State.put_steer (s : State) (f : Fld) (v : Nat) : (State.put s f v).steer = s.steer := rfl
@[simp] theorem State.put_hiLatch (s : State) (f : Fld) (v : Nat) : (State.put s f v).hiLatch = s.hiLatch := rfl
@[simp] theorem State.put_out (s : State) (f : Fld) (v : Nat) : (State.put s f v).out = s.out := rfl
@[simp] theorem State.put_drawn (s : State) (f : Fld) (v : Nat) : (State.put s f v).drawn = s.drawn := rfl
@[simp] theorem State.put_ev (s : State) (f : Fld) (v : Nat) : (State.put s f v).ev = s.ev := rfl
@[simp] theorem State.put_pk (s : State) (f : Fld) (v : Nat) : (State.put s f v).pk = s.pk := rfl
@[simp] theorem State.put_role (s : State) (f : Fld) (v : Nat) : (State.put s f v).role = s.role := rfl
@[simp] theorem State.put_die (s : State) (f : Fld) (v : Nat) : (State.put s f v).die = s.die := rfl
@[simp] theorem State.put_sets (s : State) (f : Fld) (v : Nat) : (State.put s f v).sets = s.sets := rfl
@[simp] theorem State.put_line (s : State) (f : Fld) (v : Nat) : (State.put s f v).line = s.line := rfl
@[simp] theorem State.put_load (s : State) (f : Fld) (v : Nat) : (State.put s f v).load = s.load := rfl
@[simp] theorem State.put_inp (s : State) (f : Fld) (v : Nat) : (State.put s f v).inp = s.inp := rfl
@[simp] theorem State.put_eng (s : State) (f : Fld) (v : Nat) : (State.put s f v).eng = s.eng := rfl
@[simp] theorem State.put_fus (s : State) (f : Fld) (v : Nat) : (State.put s f v).fus = s.fus := rfl
@[simp] theorem State.put_fn (s : State) (f : Fld) (v : Nat) : (State.put s f v).fn = s.fn := rfl
@[simp] theorem State.put_nav (s : State) (f : Fld) (v : Nat) : (State.put s f v).nav = s.nav := rfl
@[simp] theorem State.put_yld (s : State) (f : Fld) (v : Nat) : (State.put s f v).yld = s.yld := rfl
@[simp] theorem State.put_cst (s : State) (f : Fld) (v : Nat) : (State.put s f v).cst = s.cst := rfl
@[simp] theorem State.put_clk (s : State) (f : Fld) (v : Nat) : (State.put s f v).clk = s.clk := rfl
@[simp] theorem State.put_lvl (s : State) (f : Fld) (v : Nat) : (State.put s f v).lvl = s.lvl := rfl
@[simp] theorem State.put_dma (s : State) (f : Fld) (v : Nat) : (State.put s f v).dma = s.dma := rfl
@[simp] theorem State.put_can (s : State) (f : Fld) (v : Nat) : (State.put s f v).can = s.can := rfl
@[simp] theorem State.put_pwr (s : State) (f : Fld) (v : Nat) : (State.put s f v).pwr = s.pwr := rfl
@[simp] theorem State.put_upd (s : State) (f : Fld) (v : Nat) : (State.put s f v).upd = s.upd := rfl

/-! A signed field is written. -/

@[simp] theorem State.puts_pending (s : State) (f : Fld) (v : Int) : (State.puts s f v).pending = s.pending := rfl
@[simp] theorem State.puts_now (s : State) (f : Fld) (v : Int) : (State.puts s f v).now = s.now := rfl
@[simp] theorem State.puts_devOff (s : State) (f : Fld) (v : Int) : (State.puts s f v).devOff = s.devOff := rfl
@[simp] theorem State.puts_steer (s : State) (f : Fld) (v : Int) : (State.puts s f v).steer = s.steer := rfl
@[simp] theorem State.puts_hiLatch (s : State) (f : Fld) (v : Int) : (State.puts s f v).hiLatch = s.hiLatch := rfl
@[simp] theorem State.puts_out (s : State) (f : Fld) (v : Int) : (State.puts s f v).out = s.out := rfl
@[simp] theorem State.puts_drawn (s : State) (f : Fld) (v : Int) : (State.puts s f v).drawn = s.drawn := rfl
@[simp] theorem State.puts_ev (s : State) (f : Fld) (v : Int) : (State.puts s f v).ev = s.ev := rfl
@[simp] theorem State.puts_pk (s : State) (f : Fld) (v : Int) : (State.puts s f v).pk = s.pk := rfl
@[simp] theorem State.puts_role (s : State) (f : Fld) (v : Int) : (State.puts s f v).role = s.role := rfl
@[simp] theorem State.puts_die (s : State) (f : Fld) (v : Int) : (State.puts s f v).die = s.die := rfl
@[simp] theorem State.puts_sets (s : State) (f : Fld) (v : Int) : (State.puts s f v).sets = s.sets := rfl
@[simp] theorem State.puts_line (s : State) (f : Fld) (v : Int) : (State.puts s f v).line = s.line := rfl
@[simp] theorem State.puts_load (s : State) (f : Fld) (v : Int) : (State.puts s f v).load = s.load := rfl
@[simp] theorem State.puts_inp (s : State) (f : Fld) (v : Int) : (State.puts s f v).inp = s.inp := rfl
@[simp] theorem State.puts_eng (s : State) (f : Fld) (v : Int) : (State.puts s f v).eng = s.eng := rfl
@[simp] theorem State.puts_fus (s : State) (f : Fld) (v : Int) : (State.puts s f v).fus = s.fus := rfl
@[simp] theorem State.puts_fn (s : State) (f : Fld) (v : Int) : (State.puts s f v).fn = s.fn := rfl
@[simp] theorem State.puts_nav (s : State) (f : Fld) (v : Int) : (State.puts s f v).nav = s.nav := rfl
@[simp] theorem State.puts_yld (s : State) (f : Fld) (v : Int) : (State.puts s f v).yld = s.yld := rfl
@[simp] theorem State.puts_cst (s : State) (f : Fld) (v : Int) : (State.puts s f v).cst = s.cst := rfl
@[simp] theorem State.puts_clk (s : State) (f : Fld) (v : Int) : (State.puts s f v).clk = s.clk := rfl
@[simp] theorem State.puts_lvl (s : State) (f : Fld) (v : Int) : (State.puts s f v).lvl = s.lvl := rfl
@[simp] theorem State.puts_dma (s : State) (f : Fld) (v : Int) : (State.puts s f v).dma = s.dma := rfl
@[simp] theorem State.puts_can (s : State) (f : Fld) (v : Int) : (State.puts s f v).can = s.can := rfl
@[simp] theorem State.puts_pwr (s : State) (f : Fld) (v : Int) : (State.puts s f v).pwr = s.pwr := rfl
@[simp] theorem State.puts_upd (s : State) (f : Fld) (v : Int) : (State.puts s f v).upd = s.upd := rfl

/-! A count advances. -/

@[simp] theorem State.bump_pending (s : State) (f : Fld) (n : Nat) : (State.bump s f n).pending = s.pending := rfl
@[simp] theorem State.bump_now (s : State) (f : Fld) (n : Nat) : (State.bump s f n).now = s.now := rfl
@[simp] theorem State.bump_devOff (s : State) (f : Fld) (n : Nat) : (State.bump s f n).devOff = s.devOff := rfl
@[simp] theorem State.bump_steer (s : State) (f : Fld) (n : Nat) : (State.bump s f n).steer = s.steer := rfl
@[simp] theorem State.bump_hiLatch (s : State) (f : Fld) (n : Nat) : (State.bump s f n).hiLatch = s.hiLatch := rfl
@[simp] theorem State.bump_out (s : State) (f : Fld) (n : Nat) : (State.bump s f n).out = s.out := rfl
@[simp] theorem State.bump_drawn (s : State) (f : Fld) (n : Nat) : (State.bump s f n).drawn = s.drawn := rfl
@[simp] theorem State.bump_ev (s : State) (f : Fld) (n : Nat) : (State.bump s f n).ev = s.ev := rfl
@[simp] theorem State.bump_pk (s : State) (f : Fld) (n : Nat) : (State.bump s f n).pk = s.pk := rfl
@[simp] theorem State.bump_role (s : State) (f : Fld) (n : Nat) : (State.bump s f n).role = s.role := rfl
@[simp] theorem State.bump_die (s : State) (f : Fld) (n : Nat) : (State.bump s f n).die = s.die := rfl
@[simp] theorem State.bump_sets (s : State) (f : Fld) (n : Nat) : (State.bump s f n).sets = s.sets := rfl
@[simp] theorem State.bump_line (s : State) (f : Fld) (n : Nat) : (State.bump s f n).line = s.line := rfl
@[simp] theorem State.bump_load (s : State) (f : Fld) (n : Nat) : (State.bump s f n).load = s.load := rfl
@[simp] theorem State.bump_inp (s : State) (f : Fld) (n : Nat) : (State.bump s f n).inp = s.inp := rfl
@[simp] theorem State.bump_eng (s : State) (f : Fld) (n : Nat) : (State.bump s f n).eng = s.eng := rfl
@[simp] theorem State.bump_fus (s : State) (f : Fld) (n : Nat) : (State.bump s f n).fus = s.fus := rfl
@[simp] theorem State.bump_fn (s : State) (f : Fld) (n : Nat) : (State.bump s f n).fn = s.fn := rfl
@[simp] theorem State.bump_nav (s : State) (f : Fld) (n : Nat) : (State.bump s f n).nav = s.nav := rfl
@[simp] theorem State.bump_yld (s : State) (f : Fld) (n : Nat) : (State.bump s f n).yld = s.yld := rfl
@[simp] theorem State.bump_cst (s : State) (f : Fld) (n : Nat) : (State.bump s f n).cst = s.cst := rfl
@[simp] theorem State.bump_clk (s : State) (f : Fld) (n : Nat) : (State.bump s f n).clk = s.clk := rfl
@[simp] theorem State.bump_lvl (s : State) (f : Fld) (n : Nat) : (State.bump s f n).lvl = s.lvl := rfl
@[simp] theorem State.bump_dma (s : State) (f : Fld) (n : Nat) : (State.bump s f n).dma = s.dma := rfl
@[simp] theorem State.bump_can (s : State) (f : Fld) (n : Nat) : (State.bump s f n).can = s.can := rfl
@[simp] theorem State.bump_pwr (s : State) (f : Fld) (n : Nat) : (State.bump s f n).pwr = s.pwr := rfl
@[simp] theorem State.bump_upd (s : State) (f : Fld) (n : Nat) : (State.bump s f n).upd = s.upd := rfl

/-! A wrapping count advances. -/

@[simp] theorem State.wrapUp_pending (s : State) (f : Fld) (n : Nat) : (State.wrapUp s f n).pending = s.pending := rfl
@[simp] theorem State.wrapUp_now (s : State) (f : Fld) (n : Nat) : (State.wrapUp s f n).now = s.now := rfl
@[simp] theorem State.wrapUp_devOff (s : State) (f : Fld) (n : Nat) : (State.wrapUp s f n).devOff = s.devOff := rfl
@[simp] theorem State.wrapUp_steer (s : State) (f : Fld) (n : Nat) : (State.wrapUp s f n).steer = s.steer := rfl
@[simp] theorem State.wrapUp_hiLatch (s : State) (f : Fld) (n : Nat) : (State.wrapUp s f n).hiLatch = s.hiLatch := rfl
@[simp] theorem State.wrapUp_out (s : State) (f : Fld) (n : Nat) : (State.wrapUp s f n).out = s.out := rfl
@[simp] theorem State.wrapUp_drawn (s : State) (f : Fld) (n : Nat) : (State.wrapUp s f n).drawn = s.drawn := rfl
@[simp] theorem State.wrapUp_ev (s : State) (f : Fld) (n : Nat) : (State.wrapUp s f n).ev = s.ev := rfl
@[simp] theorem State.wrapUp_pk (s : State) (f : Fld) (n : Nat) : (State.wrapUp s f n).pk = s.pk := rfl
@[simp] theorem State.wrapUp_role (s : State) (f : Fld) (n : Nat) : (State.wrapUp s f n).role = s.role := rfl
@[simp] theorem State.wrapUp_die (s : State) (f : Fld) (n : Nat) : (State.wrapUp s f n).die = s.die := rfl
@[simp] theorem State.wrapUp_sets (s : State) (f : Fld) (n : Nat) : (State.wrapUp s f n).sets = s.sets := rfl
@[simp] theorem State.wrapUp_line (s : State) (f : Fld) (n : Nat) : (State.wrapUp s f n).line = s.line := rfl
@[simp] theorem State.wrapUp_load (s : State) (f : Fld) (n : Nat) : (State.wrapUp s f n).load = s.load := rfl
@[simp] theorem State.wrapUp_inp (s : State) (f : Fld) (n : Nat) : (State.wrapUp s f n).inp = s.inp := rfl
@[simp] theorem State.wrapUp_eng (s : State) (f : Fld) (n : Nat) : (State.wrapUp s f n).eng = s.eng := rfl
@[simp] theorem State.wrapUp_fus (s : State) (f : Fld) (n : Nat) : (State.wrapUp s f n).fus = s.fus := rfl
@[simp] theorem State.wrapUp_fn (s : State) (f : Fld) (n : Nat) : (State.wrapUp s f n).fn = s.fn := rfl
@[simp] theorem State.wrapUp_nav (s : State) (f : Fld) (n : Nat) : (State.wrapUp s f n).nav = s.nav := rfl
@[simp] theorem State.wrapUp_yld (s : State) (f : Fld) (n : Nat) : (State.wrapUp s f n).yld = s.yld := rfl
@[simp] theorem State.wrapUp_cst (s : State) (f : Fld) (n : Nat) : (State.wrapUp s f n).cst = s.cst := rfl
@[simp] theorem State.wrapUp_clk (s : State) (f : Fld) (n : Nat) : (State.wrapUp s f n).clk = s.clk := rfl
@[simp] theorem State.wrapUp_lvl (s : State) (f : Fld) (n : Nat) : (State.wrapUp s f n).lvl = s.lvl := rfl
@[simp] theorem State.wrapUp_dma (s : State) (f : Fld) (n : Nat) : (State.wrapUp s f n).dma = s.dma := rfl
@[simp] theorem State.wrapUp_can (s : State) (f : Fld) (n : Nat) : (State.wrapUp s f n).can = s.can := rfl
@[simp] theorem State.wrapUp_pwr (s : State) (f : Fld) (n : Nat) : (State.wrapUp s f n).pwr = s.pwr := rfl
@[simp] theorem State.wrapUp_upd (s : State) (f : Fld) (n : Nat) : (State.wrapUp s f n).upd = s.upd := rfl

/-! One bit is written. -/

@[simp] theorem State.putBit_pending (s : State) (f : Fld) (i : Nat) (b : Bool) : (State.putBit s f i b).pending = s.pending := rfl
@[simp] theorem State.putBit_now (s : State) (f : Fld) (i : Nat) (b : Bool) : (State.putBit s f i b).now = s.now := rfl
@[simp] theorem State.putBit_devOff (s : State) (f : Fld) (i : Nat) (b : Bool) : (State.putBit s f i b).devOff = s.devOff := rfl
@[simp] theorem State.putBit_steer (s : State) (f : Fld) (i : Nat) (b : Bool) : (State.putBit s f i b).steer = s.steer := rfl
@[simp] theorem State.putBit_hiLatch (s : State) (f : Fld) (i : Nat) (b : Bool) : (State.putBit s f i b).hiLatch = s.hiLatch := rfl
@[simp] theorem State.putBit_out (s : State) (f : Fld) (i : Nat) (b : Bool) : (State.putBit s f i b).out = s.out := rfl
@[simp] theorem State.putBit_drawn (s : State) (f : Fld) (i : Nat) (b : Bool) : (State.putBit s f i b).drawn = s.drawn := rfl
@[simp] theorem State.putBit_ev (s : State) (f : Fld) (i : Nat) (b : Bool) : (State.putBit s f i b).ev = s.ev := rfl
@[simp] theorem State.putBit_pk (s : State) (f : Fld) (i : Nat) (b : Bool) : (State.putBit s f i b).pk = s.pk := rfl
@[simp] theorem State.putBit_role (s : State) (f : Fld) (i : Nat) (b : Bool) : (State.putBit s f i b).role = s.role := rfl
@[simp] theorem State.putBit_die (s : State) (f : Fld) (i : Nat) (b : Bool) : (State.putBit s f i b).die = s.die := rfl
@[simp] theorem State.putBit_sets (s : State) (f : Fld) (i : Nat) (b : Bool) : (State.putBit s f i b).sets = s.sets := rfl
@[simp] theorem State.putBit_line (s : State) (f : Fld) (i : Nat) (b : Bool) : (State.putBit s f i b).line = s.line := rfl
@[simp] theorem State.putBit_load (s : State) (f : Fld) (i : Nat) (b : Bool) : (State.putBit s f i b).load = s.load := rfl
@[simp] theorem State.putBit_inp (s : State) (f : Fld) (i : Nat) (b : Bool) : (State.putBit s f i b).inp = s.inp := rfl
@[simp] theorem State.putBit_eng (s : State) (f : Fld) (i : Nat) (b : Bool) : (State.putBit s f i b).eng = s.eng := rfl
@[simp] theorem State.putBit_fus (s : State) (f : Fld) (i : Nat) (b : Bool) : (State.putBit s f i b).fus = s.fus := rfl
@[simp] theorem State.putBit_fn (s : State) (f : Fld) (i : Nat) (b : Bool) : (State.putBit s f i b).fn = s.fn := rfl
@[simp] theorem State.putBit_nav (s : State) (f : Fld) (i : Nat) (b : Bool) : (State.putBit s f i b).nav = s.nav := rfl
@[simp] theorem State.putBit_yld (s : State) (f : Fld) (i : Nat) (b : Bool) : (State.putBit s f i b).yld = s.yld := rfl
@[simp] theorem State.putBit_cst (s : State) (f : Fld) (i : Nat) (b : Bool) : (State.putBit s f i b).cst = s.cst := rfl
@[simp] theorem State.putBit_clk (s : State) (f : Fld) (i : Nat) (b : Bool) : (State.putBit s f i b).clk = s.clk := rfl
@[simp] theorem State.putBit_lvl (s : State) (f : Fld) (i : Nat) (b : Bool) : (State.putBit s f i b).lvl = s.lvl := rfl
@[simp] theorem State.putBit_dma (s : State) (f : Fld) (i : Nat) (b : Bool) : (State.putBit s f i b).dma = s.dma := rfl
@[simp] theorem State.putBit_can (s : State) (f : Fld) (i : Nat) (b : Bool) : (State.putBit s f i b).can = s.can := rfl
@[simp] theorem State.putBit_pwr (s : State) (f : Fld) (i : Nat) (b : Bool) : (State.putBit s f i b).pwr = s.pwr := rfl
@[simp] theorem State.putBit_upd (s : State) (f : Fld) (i : Nat) (b : Bool) : (State.putBit s f i b).upd = s.upd := rfl

/-! A pair of registers is written. -/

@[simp] theorem State.put64_pending (s : State) (lo hi v : Nat) : (State.put64 s lo hi v).pending = s.pending := rfl
@[simp] theorem State.put64_now (s : State) (lo hi v : Nat) : (State.put64 s lo hi v).now = s.now := rfl
@[simp] theorem State.put64_devOff (s : State) (lo hi v : Nat) : (State.put64 s lo hi v).devOff = s.devOff := rfl
@[simp] theorem State.put64_steer (s : State) (lo hi v : Nat) : (State.put64 s lo hi v).steer = s.steer := rfl
@[simp] theorem State.put64_hiLatch (s : State) (lo hi v : Nat) : (State.put64 s lo hi v).hiLatch = s.hiLatch := rfl
@[simp] theorem State.put64_out (s : State) (lo hi v : Nat) : (State.put64 s lo hi v).out = s.out := rfl
@[simp] theorem State.put64_drawn (s : State) (lo hi v : Nat) : (State.put64 s lo hi v).drawn = s.drawn := rfl
@[simp] theorem State.put64_ev (s : State) (lo hi v : Nat) : (State.put64 s lo hi v).ev = s.ev := rfl
@[simp] theorem State.put64_pk (s : State) (lo hi v : Nat) : (State.put64 s lo hi v).pk = s.pk := rfl
@[simp] theorem State.put64_role (s : State) (lo hi v : Nat) : (State.put64 s lo hi v).role = s.role := rfl
@[simp] theorem State.put64_die (s : State) (lo hi v : Nat) : (State.put64 s lo hi v).die = s.die := rfl
@[simp] theorem State.put64_sets (s : State) (lo hi v : Nat) : (State.put64 s lo hi v).sets = s.sets := rfl
@[simp] theorem State.put64_line (s : State) (lo hi v : Nat) : (State.put64 s lo hi v).line = s.line := rfl
@[simp] theorem State.put64_load (s : State) (lo hi v : Nat) : (State.put64 s lo hi v).load = s.load := rfl
@[simp] theorem State.put64_inp (s : State) (lo hi v : Nat) : (State.put64 s lo hi v).inp = s.inp := rfl
@[simp] theorem State.put64_eng (s : State) (lo hi v : Nat) : (State.put64 s lo hi v).eng = s.eng := rfl
@[simp] theorem State.put64_fus (s : State) (lo hi v : Nat) : (State.put64 s lo hi v).fus = s.fus := rfl
@[simp] theorem State.put64_fn (s : State) (lo hi v : Nat) : (State.put64 s lo hi v).fn = s.fn := rfl
@[simp] theorem State.put64_nav (s : State) (lo hi v : Nat) : (State.put64 s lo hi v).nav = s.nav := rfl
@[simp] theorem State.put64_yld (s : State) (lo hi v : Nat) : (State.put64 s lo hi v).yld = s.yld := rfl
@[simp] theorem State.put64_cst (s : State) (lo hi v : Nat) : (State.put64 s lo hi v).cst = s.cst := rfl
@[simp] theorem State.put64_clk (s : State) (lo hi v : Nat) : (State.put64 s lo hi v).clk = s.clk := rfl
@[simp] theorem State.put64_lvl (s : State) (lo hi v : Nat) : (State.put64 s lo hi v).lvl = s.lvl := rfl
@[simp] theorem State.put64_dma (s : State) (lo hi v : Nat) : (State.put64 s lo hi v).dma = s.dma := rfl
@[simp] theorem State.put64_can (s : State) (lo hi v : Nat) : (State.put64 s lo hi v).can = s.can := rfl
@[simp] theorem State.put64_pwr (s : State) (lo hi v : Nat) : (State.put64 s lo hi v).pwr = s.pwr := rfl
@[simp] theorem State.put64_upd (s : State) (lo hi v : Nat) : (State.put64 s lo hi v).upd = s.upd := rfl

/-! Something is sent. -/

@[simp] theorem emit_pending (e : Emit) (s : State) : (emit e s).pending = s.pending := rfl
@[simp] theorem emit_now (e : Emit) (s : State) : (emit e s).now = s.now := rfl
@[simp] theorem emit_devOff (e : Emit) (s : State) : (emit e s).devOff = s.devOff := rfl
@[simp] theorem emit_steer (e : Emit) (s : State) : (emit e s).steer = s.steer := rfl
@[simp] theorem emit_regs (e : Emit) (s : State) : (emit e s).regs = s.regs := rfl
@[simp] theorem emit_hiLatch (e : Emit) (s : State) : (emit e s).hiLatch = s.hiLatch := rfl
@[simp] theorem emit_drawn (e : Emit) (s : State) : (emit e s).drawn = s.drawn := rfl
@[simp] theorem emit_ev (e : Emit) (s : State) : (emit e s).ev = s.ev := rfl
@[simp] theorem emit_pk (e : Emit) (s : State) : (emit e s).pk = s.pk := rfl
@[simp] theorem emit_role (e : Emit) (s : State) : (emit e s).role = s.role := rfl
@[simp] theorem emit_die (e : Emit) (s : State) : (emit e s).die = s.die := rfl
@[simp] theorem emit_sets (e : Emit) (s : State) : (emit e s).sets = s.sets := rfl
@[simp] theorem emit_line (e : Emit) (s : State) : (emit e s).line = s.line := rfl
@[simp] theorem emit_load (e : Emit) (s : State) : (emit e s).load = s.load := rfl
@[simp] theorem emit_inp (e : Emit) (s : State) : (emit e s).inp = s.inp := rfl
@[simp] theorem emit_eng (e : Emit) (s : State) : (emit e s).eng = s.eng := rfl
@[simp] theorem emit_fus (e : Emit) (s : State) : (emit e s).fus = s.fus := rfl
@[simp] theorem emit_fn (e : Emit) (s : State) : (emit e s).fn = s.fn := rfl
@[simp] theorem emit_nav (e : Emit) (s : State) : (emit e s).nav = s.nav := rfl
@[simp] theorem emit_yld (e : Emit) (s : State) : (emit e s).yld = s.yld := rfl
@[simp] theorem emit_cst (e : Emit) (s : State) : (emit e s).cst = s.cst := rfl
@[simp] theorem emit_clk (e : Emit) (s : State) : (emit e s).clk = s.clk := rfl
@[simp] theorem emit_lvl (e : Emit) (s : State) : (emit e s).lvl = s.lvl := rfl
@[simp] theorem emit_dma (e : Emit) (s : State) : (emit e s).dma = s.dma := rfl
@[simp] theorem emit_can (e : Emit) (s : State) : (emit e s).can = s.can := rfl
@[simp] theorem emit_pwr (e : Emit) (s : State) : (emit e s).pwr = s.pwr := rfl
@[simp] theorem emit_upd (e : Emit) (s : State) : (emit e s).upd = s.upd := rfl

/-! A steering of device time begins. -/

@[simp] theorem beginSteer_pending (x : Int) (d : Nat) (s : State) : (beginSteer x d s).pending = s.pending := rfl
@[simp] theorem beginSteer_now (x : Int) (d : Nat) (s : State) : (beginSteer x d s).now = s.now := rfl
@[simp] theorem beginSteer_devOff (x : Int) (d : Nat) (s : State) : (beginSteer x d s).devOff = s.devOff := rfl
@[simp] theorem beginSteer_regs (x : Int) (d : Nat) (s : State) : (beginSteer x d s).regs = s.regs := rfl
@[simp] theorem beginSteer_hiLatch (x : Int) (d : Nat) (s : State) : (beginSteer x d s).hiLatch = s.hiLatch := rfl
@[simp] theorem beginSteer_out (x : Int) (d : Nat) (s : State) : (beginSteer x d s).out = s.out := rfl
@[simp] theorem beginSteer_drawn (x : Int) (d : Nat) (s : State) : (beginSteer x d s).drawn = s.drawn := rfl
@[simp] theorem beginSteer_ev (x : Int) (d : Nat) (s : State) : (beginSteer x d s).ev = s.ev := rfl
@[simp] theorem beginSteer_pk (x : Int) (d : Nat) (s : State) : (beginSteer x d s).pk = s.pk := rfl
@[simp] theorem beginSteer_role (x : Int) (d : Nat) (s : State) : (beginSteer x d s).role = s.role := rfl
@[simp] theorem beginSteer_die (x : Int) (d : Nat) (s : State) : (beginSteer x d s).die = s.die := rfl
@[simp] theorem beginSteer_sets (x : Int) (d : Nat) (s : State) : (beginSteer x d s).sets = s.sets := rfl
@[simp] theorem beginSteer_line (x : Int) (d : Nat) (s : State) : (beginSteer x d s).line = s.line := rfl
@[simp] theorem beginSteer_load (x : Int) (d : Nat) (s : State) : (beginSteer x d s).load = s.load := rfl
@[simp] theorem beginSteer_inp (x : Int) (d : Nat) (s : State) : (beginSteer x d s).inp = s.inp := rfl
@[simp] theorem beginSteer_eng (x : Int) (d : Nat) (s : State) : (beginSteer x d s).eng = s.eng := rfl
@[simp] theorem beginSteer_fus (x : Int) (d : Nat) (s : State) : (beginSteer x d s).fus = s.fus := rfl
@[simp] theorem beginSteer_fn (x : Int) (d : Nat) (s : State) : (beginSteer x d s).fn = s.fn := rfl
@[simp] theorem beginSteer_nav (x : Int) (d : Nat) (s : State) : (beginSteer x d s).nav = s.nav := rfl
@[simp] theorem beginSteer_yld (x : Int) (d : Nat) (s : State) : (beginSteer x d s).yld = s.yld := rfl
@[simp] theorem beginSteer_cst (x : Int) (d : Nat) (s : State) : (beginSteer x d s).cst = s.cst := rfl
@[simp] theorem beginSteer_clk (x : Int) (d : Nat) (s : State) : (beginSteer x d s).clk = s.clk := rfl
@[simp] theorem beginSteer_lvl (x : Int) (d : Nat) (s : State) : (beginSteer x d s).lvl = s.lvl := rfl
@[simp] theorem beginSteer_dma (x : Int) (d : Nat) (s : State) : (beginSteer x d s).dma = s.dma := rfl
@[simp] theorem beginSteer_can (x : Int) (d : Nat) (s : State) : (beginSteer x d s).can = s.can := rfl
@[simp] theorem beginSteer_pwr (x : Int) (d : Nat) (s : State) : (beginSteer x d s).pwr = s.pwr := rfl
@[simp] theorem beginSteer_upd (x : Int) (d : Nat) (s : State) : (beginSteer x d s).upd = s.upd := rfl

/-! Device time is stepped. -/

@[simp] theorem stepTime_pending (x : Int) (s : State) : (stepTime x s).pending = s.pending := rfl
@[simp] theorem stepTime_now (x : Int) (s : State) : (stepTime x s).now = s.now := rfl
@[simp] theorem stepTime_regs (x : Int) (s : State) : (stepTime x s).regs = s.regs := rfl
@[simp] theorem stepTime_hiLatch (x : Int) (s : State) : (stepTime x s).hiLatch = s.hiLatch := rfl
@[simp] theorem stepTime_out (x : Int) (s : State) : (stepTime x s).out = s.out := rfl
@[simp] theorem stepTime_drawn (x : Int) (s : State) : (stepTime x s).drawn = s.drawn := rfl
@[simp] theorem stepTime_ev (x : Int) (s : State) : (stepTime x s).ev = s.ev := rfl
@[simp] theorem stepTime_pk (x : Int) (s : State) : (stepTime x s).pk = s.pk := rfl
@[simp] theorem stepTime_role (x : Int) (s : State) : (stepTime x s).role = s.role := rfl
@[simp] theorem stepTime_die (x : Int) (s : State) : (stepTime x s).die = s.die := rfl
@[simp] theorem stepTime_sets (x : Int) (s : State) : (stepTime x s).sets = s.sets := rfl
@[simp] theorem stepTime_line (x : Int) (s : State) : (stepTime x s).line = s.line := rfl
@[simp] theorem stepTime_load (x : Int) (s : State) : (stepTime x s).load = s.load := rfl
@[simp] theorem stepTime_inp (x : Int) (s : State) : (stepTime x s).inp = s.inp := rfl
@[simp] theorem stepTime_eng (x : Int) (s : State) : (stepTime x s).eng = shiftEngine x s.eng := rfl
@[simp] theorem stepTime_fus (x : Int) (s : State) : (stepTime x s).fus = s.fus := rfl
@[simp] theorem stepTime_fn (x : Int) (s : State) : (stepTime x s).fn = s.fn := rfl
@[simp] theorem stepTime_nav (x : Int) (s : State) : (stepTime x s).nav = s.nav := rfl
@[simp] theorem stepTime_yld (x : Int) (s : State) : (stepTime x s).yld = s.yld := rfl
@[simp] theorem stepTime_cst (x : Int) (s : State) : (stepTime x s).cst = s.cst := rfl
@[simp] theorem stepTime_clk (x : Int) (s : State) : (stepTime x s).clk = s.clk := rfl
@[simp] theorem stepTime_lvl (x : Int) (s : State) : (stepTime x s).lvl = s.lvl := rfl
@[simp] theorem stepTime_dma (x : Int) (s : State) : (stepTime x s).dma = s.dma := rfl
@[simp] theorem stepTime_can (x : Int) (s : State) : (stepTime x s).can = s.can := rfl
@[simp] theorem stepTime_pwr (x : Int) (s : State) : (stepTime x s).pwr = s.pwr := rfl
@[simp] theorem stepTime_upd (x : Int) (s : State) : (stepTime x s).upd = s.upd := rfl

/-! A command is put at the front of the queue. -/

@[simp] theorem State.push_now (c : Instr) (s : State) : (State.push c s).now = s.now := rfl
@[simp] theorem State.push_devOff (c : Instr) (s : State) : (State.push c s).devOff = s.devOff := rfl
@[simp] theorem State.push_steer (c : Instr) (s : State) : (State.push c s).steer = s.steer := rfl
@[simp] theorem State.push_regs (c : Instr) (s : State) : (State.push c s).regs = s.regs := rfl
@[simp] theorem State.push_hiLatch (c : Instr) (s : State) : (State.push c s).hiLatch = s.hiLatch := rfl
@[simp] theorem State.push_out (c : Instr) (s : State) : (State.push c s).out = s.out := rfl
@[simp] theorem State.push_drawn (c : Instr) (s : State) : (State.push c s).drawn = s.drawn := rfl
@[simp] theorem State.push_ev (c : Instr) (s : State) : (State.push c s).ev = s.ev := rfl
@[simp] theorem State.push_pk (c : Instr) (s : State) : (State.push c s).pk = s.pk := rfl
@[simp] theorem State.push_role (c : Instr) (s : State) : (State.push c s).role = s.role := rfl
@[simp] theorem State.push_die (c : Instr) (s : State) : (State.push c s).die = s.die := rfl
@[simp] theorem State.push_sets (c : Instr) (s : State) : (State.push c s).sets = s.sets := rfl
@[simp] theorem State.push_line (c : Instr) (s : State) : (State.push c s).line = s.line := rfl
@[simp] theorem State.push_load (c : Instr) (s : State) : (State.push c s).load = s.load := rfl
@[simp] theorem State.push_inp (c : Instr) (s : State) : (State.push c s).inp = s.inp := rfl
@[simp] theorem State.push_eng (c : Instr) (s : State) : (State.push c s).eng = s.eng := rfl
@[simp] theorem State.push_fus (c : Instr) (s : State) : (State.push c s).fus = s.fus := rfl
@[simp] theorem State.push_fn (c : Instr) (s : State) : (State.push c s).fn = s.fn := rfl
@[simp] theorem State.push_nav (c : Instr) (s : State) : (State.push c s).nav = s.nav := rfl
@[simp] theorem State.push_yld (c : Instr) (s : State) : (State.push c s).yld = s.yld := rfl
@[simp] theorem State.push_cst (c : Instr) (s : State) : (State.push c s).cst = s.cst := rfl
@[simp] theorem State.push_clk (c : Instr) (s : State) : (State.push c s).clk = s.clk := rfl
@[simp] theorem State.push_lvl (c : Instr) (s : State) : (State.push c s).lvl = s.lvl := rfl
@[simp] theorem State.push_dma (c : Instr) (s : State) : (State.push c s).dma = s.dma := rfl
@[simp] theorem State.push_can (c : Instr) (s : State) : (State.push c s).can = s.can := rfl
@[simp] theorem State.push_pwr (c : Instr) (s : State) : (State.push c s).pwr = s.pwr := rfl
@[simp] theorem State.push_upd (c : Instr) (s : State) : (State.push c s).upd = s.upd := rfl

/-! Device time follows a steering. -/

@[simp] theorem steerOn_pending (s : State) : (steerOn s).pending = s.pending := by unfold steerOn; split <;> rfl
@[simp] theorem steerOn_now (s : State) : (steerOn s).now = s.now := by unfold steerOn; split <;> rfl
@[simp] theorem steerOn_regs (s : State) : (steerOn s).regs = s.regs := by unfold steerOn; split <;> rfl
@[simp] theorem steerOn_hiLatch (s : State) : (steerOn s).hiLatch = s.hiLatch := by unfold steerOn; split <;> rfl
@[simp] theorem steerOn_out (s : State) : (steerOn s).out = s.out := by unfold steerOn; split <;> rfl
@[simp] theorem steerOn_drawn (s : State) : (steerOn s).drawn = s.drawn := by unfold steerOn; split <;> rfl
@[simp] theorem steerOn_ev (s : State) : (steerOn s).ev = s.ev := by unfold steerOn; split <;> rfl
@[simp] theorem steerOn_pk (s : State) : (steerOn s).pk = s.pk := by unfold steerOn; split <;> rfl
@[simp] theorem steerOn_role (s : State) : (steerOn s).role = s.role := by unfold steerOn; split <;> rfl
@[simp] theorem steerOn_die (s : State) : (steerOn s).die = s.die := by unfold steerOn; split <;> rfl
@[simp] theorem steerOn_sets (s : State) : (steerOn s).sets = s.sets := by unfold steerOn; split <;> rfl
@[simp] theorem steerOn_line (s : State) : (steerOn s).line = s.line := by unfold steerOn; split <;> rfl
@[simp] theorem steerOn_load (s : State) : (steerOn s).load = s.load := by unfold steerOn; split <;> rfl
@[simp] theorem steerOn_inp (s : State) : (steerOn s).inp = s.inp := by unfold steerOn; split <;> rfl
@[simp] theorem steerOn_eng (s : State) : (steerOn s).eng = s.eng := by unfold steerOn; split <;> rfl
@[simp] theorem steerOn_fus (s : State) : (steerOn s).fus = s.fus := by unfold steerOn; split <;> rfl
@[simp] theorem steerOn_fn (s : State) : (steerOn s).fn = s.fn := by unfold steerOn; split <;> rfl
@[simp] theorem steerOn_nav (s : State) : (steerOn s).nav = s.nav := by unfold steerOn; split <;> rfl
@[simp] theorem steerOn_yld (s : State) : (steerOn s).yld = s.yld := by unfold steerOn; split <;> rfl
@[simp] theorem steerOn_cst (s : State) : (steerOn s).cst = s.cst := by unfold steerOn; split <;> rfl
@[simp] theorem steerOn_clk (s : State) : (steerOn s).clk = s.clk := by unfold steerOn; split <;> rfl
@[simp] theorem steerOn_lvl (s : State) : (steerOn s).lvl = s.lvl := by unfold steerOn; split <;> rfl
@[simp] theorem steerOn_dma (s : State) : (steerOn s).dma = s.dma := by unfold steerOn; split <;> rfl
@[simp] theorem steerOn_can (s : State) : (steerOn s).can = s.can := by unfold steerOn; split <;> rfl
@[simp] theorem steerOn_pwr (s : State) : (steerOn s).pwr = s.pwr := by unfold steerOn; split <;> rfl
@[simp] theorem steerOn_upd (s : State) : (steerOn s).upd = s.upd := by unfold steerOn; split <;> rfl

/-! A command begins. -/

@[simp] theorem begin__pending (t : Nat) (s : State) : (begin_ t s).pending = s.pending := by simp [begin_]
@[simp] theorem begin__regs (t : Nat) (s : State) : (begin_ t s).regs = s.regs := by simp [begin_]
@[simp] theorem begin__hiLatch (t : Nat) (s : State) : (begin_ t s).hiLatch = s.hiLatch := by simp [begin_]
@[simp] theorem begin__drawn (t : Nat) (s : State) : (begin_ t s).drawn = s.drawn := by simp [begin_]
@[simp] theorem begin__ev (t : Nat) (s : State) : (begin_ t s).ev = s.ev := by simp [begin_]
@[simp] theorem begin__pk (t : Nat) (s : State) : (begin_ t s).pk = s.pk := by simp [begin_]
@[simp] theorem begin__role (t : Nat) (s : State) : (begin_ t s).role = s.role := by simp [begin_]
@[simp] theorem begin__die (t : Nat) (s : State) : (begin_ t s).die = s.die := by simp [begin_]
@[simp] theorem begin__sets (t : Nat) (s : State) : (begin_ t s).sets = s.sets := by simp [begin_]
@[simp] theorem begin__line (t : Nat) (s : State) : (begin_ t s).line = s.line := by simp [begin_]
@[simp] theorem begin__load (t : Nat) (s : State) : (begin_ t s).load = s.load := by simp [begin_]
@[simp] theorem begin__inp (t : Nat) (s : State) : (begin_ t s).inp = s.inp := by simp [begin_]
@[simp] theorem begin__eng (t : Nat) (s : State) : (begin_ t s).eng = s.eng := by simp [begin_]
@[simp] theorem begin__fus (t : Nat) (s : State) : (begin_ t s).fus = s.fus := by simp [begin_]
@[simp] theorem begin__fn (t : Nat) (s : State) : (begin_ t s).fn = s.fn := by simp [begin_]
@[simp] theorem begin__nav (t : Nat) (s : State) : (begin_ t s).nav = s.nav := by simp [begin_]
@[simp] theorem begin__yld (t : Nat) (s : State) : (begin_ t s).yld = s.yld := by simp [begin_]
@[simp] theorem begin__cst (t : Nat) (s : State) : (begin_ t s).cst = s.cst := by simp [begin_]
@[simp] theorem begin__clk (t : Nat) (s : State) : (begin_ t s).clk = s.clk := by simp [begin_]
@[simp] theorem begin__lvl (t : Nat) (s : State) : (begin_ t s).lvl = s.lvl := by simp [begin_]
@[simp] theorem begin__dma (t : Nat) (s : State) : (begin_ t s).dma = s.dma := by simp [begin_]
@[simp] theorem begin__can (t : Nat) (s : State) : (begin_ t s).can = s.can := by simp [begin_]
@[simp] theorem begin__pwr (t : Nat) (s : State) : (begin_ t s).pwr = s.pwr := by simp [begin_]
@[simp] theorem begin__upd (t : Nat) (s : State) : (begin_ t s).upd = s.upd := by simp [begin_]

/-! A setting function changes. -/

@[simp] theorem modFn_pending (n : Nat) (f : FnPart → FnPart) (s : State) : (modFn n f s).pending = s.pending := rfl
@[simp] theorem modFn_now (n : Nat) (f : FnPart → FnPart) (s : State) : (modFn n f s).now = s.now := rfl
@[simp] theorem modFn_devOff (n : Nat) (f : FnPart → FnPart) (s : State) : (modFn n f s).devOff = s.devOff := rfl
@[simp] theorem modFn_steer (n : Nat) (f : FnPart → FnPart) (s : State) : (modFn n f s).steer = s.steer := rfl
@[simp] theorem modFn_regs (n : Nat) (f : FnPart → FnPart) (s : State) : (modFn n f s).regs = s.regs := rfl
@[simp] theorem modFn_hiLatch (n : Nat) (f : FnPart → FnPart) (s : State) : (modFn n f s).hiLatch = s.hiLatch := rfl
@[simp] theorem modFn_out (n : Nat) (f : FnPart → FnPart) (s : State) : (modFn n f s).out = s.out := rfl
@[simp] theorem modFn_drawn (n : Nat) (f : FnPart → FnPart) (s : State) : (modFn n f s).drawn = s.drawn := rfl
@[simp] theorem modFn_ev (n : Nat) (f : FnPart → FnPart) (s : State) : (modFn n f s).ev = s.ev := rfl
@[simp] theorem modFn_pk (n : Nat) (f : FnPart → FnPart) (s : State) : (modFn n f s).pk = s.pk := rfl
@[simp] theorem modFn_role (n : Nat) (f : FnPart → FnPart) (s : State) : (modFn n f s).role = s.role := rfl
@[simp] theorem modFn_die (n : Nat) (f : FnPart → FnPart) (s : State) : (modFn n f s).die = s.die := rfl
@[simp] theorem modFn_sets (n : Nat) (f : FnPart → FnPart) (s : State) : (modFn n f s).sets = s.sets := rfl
@[simp] theorem modFn_line (n : Nat) (f : FnPart → FnPart) (s : State) : (modFn n f s).line = s.line := rfl
@[simp] theorem modFn_load (n : Nat) (f : FnPart → FnPart) (s : State) : (modFn n f s).load = s.load := rfl
@[simp] theorem modFn_inp (n : Nat) (f : FnPart → FnPart) (s : State) : (modFn n f s).inp = s.inp := rfl
@[simp] theorem modFn_eng (n : Nat) (f : FnPart → FnPart) (s : State) : (modFn n f s).eng = s.eng := rfl
@[simp] theorem modFn_fus (n : Nat) (f : FnPart → FnPart) (s : State) : (modFn n f s).fus = s.fus := rfl
@[simp] theorem modFn_nav (n : Nat) (f : FnPart → FnPart) (s : State) : (modFn n f s).nav = s.nav := rfl
@[simp] theorem modFn_yld (n : Nat) (f : FnPart → FnPart) (s : State) : (modFn n f s).yld = s.yld := rfl
@[simp] theorem modFn_cst (n : Nat) (f : FnPart → FnPart) (s : State) : (modFn n f s).cst = s.cst := rfl
@[simp] theorem modFn_clk (n : Nat) (f : FnPart → FnPart) (s : State) : (modFn n f s).clk = s.clk := rfl
@[simp] theorem modFn_lvl (n : Nat) (f : FnPart → FnPart) (s : State) : (modFn n f s).lvl = s.lvl := rfl
@[simp] theorem modFn_dma (n : Nat) (f : FnPart → FnPart) (s : State) : (modFn n f s).dma = s.dma := rfl
@[simp] theorem modFn_can (n : Nat) (f : FnPart → FnPart) (s : State) : (modFn n f s).can = s.can := rfl
@[simp] theorem modFn_pwr (n : Nat) (f : FnPart → FnPart) (s : State) : (modFn n f s).pwr = s.pwr := rfl
@[simp] theorem modFn_upd (n : Nat) (f : FnPart → FnPart) (s : State) : (modFn n f s).upd = s.upd := rfl

/-! A running order changes. -/

@[simp] theorem modOrder_pending (n : Nat) (f : OrderState → OrderState) (s : State) : (modOrder n f s).pending = s.pending := rfl
@[simp] theorem modOrder_now (n : Nat) (f : OrderState → OrderState) (s : State) : (modOrder n f s).now = s.now := rfl
@[simp] theorem modOrder_devOff (n : Nat) (f : OrderState → OrderState) (s : State) : (modOrder n f s).devOff = s.devOff := rfl
@[simp] theorem modOrder_steer (n : Nat) (f : OrderState → OrderState) (s : State) : (modOrder n f s).steer = s.steer := rfl
@[simp] theorem modOrder_regs (n : Nat) (f : OrderState → OrderState) (s : State) : (modOrder n f s).regs = s.regs := rfl
@[simp] theorem modOrder_hiLatch (n : Nat) (f : OrderState → OrderState) (s : State) : (modOrder n f s).hiLatch = s.hiLatch := rfl
@[simp] theorem modOrder_out (n : Nat) (f : OrderState → OrderState) (s : State) : (modOrder n f s).out = s.out := rfl
@[simp] theorem modOrder_drawn (n : Nat) (f : OrderState → OrderState) (s : State) : (modOrder n f s).drawn = s.drawn := rfl
@[simp] theorem modOrder_ev (n : Nat) (f : OrderState → OrderState) (s : State) : (modOrder n f s).ev = s.ev := rfl
@[simp] theorem modOrder_pk (n : Nat) (f : OrderState → OrderState) (s : State) : (modOrder n f s).pk = s.pk := rfl
@[simp] theorem modOrder_role (n : Nat) (f : OrderState → OrderState) (s : State) : (modOrder n f s).role = s.role := rfl
@[simp] theorem modOrder_die (n : Nat) (f : OrderState → OrderState) (s : State) : (modOrder n f s).die = s.die := rfl
@[simp] theorem modOrder_line (n : Nat) (f : OrderState → OrderState) (s : State) : (modOrder n f s).line = s.line := rfl
@[simp] theorem modOrder_load (n : Nat) (f : OrderState → OrderState) (s : State) : (modOrder n f s).load = s.load := rfl
@[simp] theorem modOrder_inp (n : Nat) (f : OrderState → OrderState) (s : State) : (modOrder n f s).inp = s.inp := rfl
@[simp] theorem modOrder_eng (n : Nat) (f : OrderState → OrderState) (s : State) : (modOrder n f s).eng = s.eng := rfl
@[simp] theorem modOrder_fus (n : Nat) (f : OrderState → OrderState) (s : State) : (modOrder n f s).fus = s.fus := rfl
@[simp] theorem modOrder_fn (n : Nat) (f : OrderState → OrderState) (s : State) : (modOrder n f s).fn = s.fn := rfl
@[simp] theorem modOrder_nav (n : Nat) (f : OrderState → OrderState) (s : State) : (modOrder n f s).nav = s.nav := rfl
@[simp] theorem modOrder_yld (n : Nat) (f : OrderState → OrderState) (s : State) : (modOrder n f s).yld = s.yld := rfl
@[simp] theorem modOrder_cst (n : Nat) (f : OrderState → OrderState) (s : State) : (modOrder n f s).cst = s.cst := rfl
@[simp] theorem modOrder_clk (n : Nat) (f : OrderState → OrderState) (s : State) : (modOrder n f s).clk = s.clk := rfl
@[simp] theorem modOrder_lvl (n : Nat) (f : OrderState → OrderState) (s : State) : (modOrder n f s).lvl = s.lvl := rfl
@[simp] theorem modOrder_dma (n : Nat) (f : OrderState → OrderState) (s : State) : (modOrder n f s).dma = s.dma := rfl
@[simp] theorem modOrder_can (n : Nat) (f : OrderState → OrderState) (s : State) : (modOrder n f s).can = s.can := rfl
@[simp] theorem modOrder_pwr (n : Nat) (f : OrderState → OrderState) (s : State) : (modOrder n f s).pwr = s.pwr := rfl
@[simp] theorem modOrder_upd (n : Nat) (f : OrderState → OrderState) (s : State) : (modOrder n f s).upd = s.upd := rfl

/-! A sensor stream changes. -/

@[simp] theorem modStream_pending (i : Nat) (f : StreamPart → StreamPart) (s : State) : (modStream i f s).pending = s.pending := rfl
@[simp] theorem modStream_now (i : Nat) (f : StreamPart → StreamPart) (s : State) : (modStream i f s).now = s.now := rfl
@[simp] theorem modStream_devOff (i : Nat) (f : StreamPart → StreamPart) (s : State) : (modStream i f s).devOff = s.devOff := rfl
@[simp] theorem modStream_steer (i : Nat) (f : StreamPart → StreamPart) (s : State) : (modStream i f s).steer = s.steer := rfl
@[simp] theorem modStream_regs (i : Nat) (f : StreamPart → StreamPart) (s : State) : (modStream i f s).regs = s.regs := rfl
@[simp] theorem modStream_hiLatch (i : Nat) (f : StreamPart → StreamPart) (s : State) : (modStream i f s).hiLatch = s.hiLatch := rfl
@[simp] theorem modStream_out (i : Nat) (f : StreamPart → StreamPart) (s : State) : (modStream i f s).out = s.out := rfl
@[simp] theorem modStream_drawn (i : Nat) (f : StreamPart → StreamPart) (s : State) : (modStream i f s).drawn = s.drawn := rfl
@[simp] theorem modStream_ev (i : Nat) (f : StreamPart → StreamPart) (s : State) : (modStream i f s).ev = s.ev := rfl
@[simp] theorem modStream_pk (i : Nat) (f : StreamPart → StreamPart) (s : State) : (modStream i f s).pk = s.pk := rfl
@[simp] theorem modStream_role (i : Nat) (f : StreamPart → StreamPart) (s : State) : (modStream i f s).role = s.role := rfl
@[simp] theorem modStream_die (i : Nat) (f : StreamPart → StreamPart) (s : State) : (modStream i f s).die = s.die := rfl
@[simp] theorem modStream_sets (i : Nat) (f : StreamPart → StreamPart) (s : State) : (modStream i f s).sets = s.sets := rfl
@[simp] theorem modStream_line (i : Nat) (f : StreamPart → StreamPart) (s : State) : (modStream i f s).line = s.line := rfl
@[simp] theorem modStream_load (i : Nat) (f : StreamPart → StreamPart) (s : State) : (modStream i f s).load = s.load := rfl
@[simp] theorem modStream_inp (i : Nat) (f : StreamPart → StreamPart) (s : State) : (modStream i f s).inp = s.inp := rfl
@[simp] theorem modStream_eng (i : Nat) (f : StreamPart → StreamPart) (s : State) : (modStream i f s).eng = s.eng := rfl
@[simp] theorem modStream_fn (i : Nat) (f : StreamPart → StreamPart) (s : State) : (modStream i f s).fn = s.fn := rfl
@[simp] theorem modStream_nav (i : Nat) (f : StreamPart → StreamPart) (s : State) : (modStream i f s).nav = s.nav := rfl
@[simp] theorem modStream_yld (i : Nat) (f : StreamPart → StreamPart) (s : State) : (modStream i f s).yld = s.yld := rfl
@[simp] theorem modStream_cst (i : Nat) (f : StreamPart → StreamPart) (s : State) : (modStream i f s).cst = s.cst := rfl
@[simp] theorem modStream_clk (i : Nat) (f : StreamPart → StreamPart) (s : State) : (modStream i f s).clk = s.clk := rfl
@[simp] theorem modStream_lvl (i : Nat) (f : StreamPart → StreamPart) (s : State) : (modStream i f s).lvl = s.lvl := rfl
@[simp] theorem modStream_dma (i : Nat) (f : StreamPart → StreamPart) (s : State) : (modStream i f s).dma = s.dma := rfl
@[simp] theorem modStream_can (i : Nat) (f : StreamPart → StreamPart) (s : State) : (modStream i f s).can = s.can := rfl
@[simp] theorem modStream_pwr (i : Nat) (f : StreamPart → StreamPart) (s : State) : (modStream i f s).pwr = s.pwr := rfl
@[simp] theorem modStream_upd (i : Nat) (f : StreamPart → StreamPart) (s : State) : (modStream i f s).upd = s.upd := rfl

/-! A control loop changes. -/

@[simp] theorem modLoop_pending (n : Nat) (f : LoopPart → LoopPart) (s : State) : (modLoop n f s).pending = s.pending := rfl
@[simp] theorem modLoop_now (n : Nat) (f : LoopPart → LoopPart) (s : State) : (modLoop n f s).now = s.now := rfl
@[simp] theorem modLoop_devOff (n : Nat) (f : LoopPart → LoopPart) (s : State) : (modLoop n f s).devOff = s.devOff := rfl
@[simp] theorem modLoop_steer (n : Nat) (f : LoopPart → LoopPart) (s : State) : (modLoop n f s).steer = s.steer := rfl
@[simp] theorem modLoop_regs (n : Nat) (f : LoopPart → LoopPart) (s : State) : (modLoop n f s).regs = s.regs := rfl
@[simp] theorem modLoop_hiLatch (n : Nat) (f : LoopPart → LoopPart) (s : State) : (modLoop n f s).hiLatch = s.hiLatch := rfl
@[simp] theorem modLoop_out (n : Nat) (f : LoopPart → LoopPart) (s : State) : (modLoop n f s).out = s.out := rfl
@[simp] theorem modLoop_drawn (n : Nat) (f : LoopPart → LoopPart) (s : State) : (modLoop n f s).drawn = s.drawn := rfl
@[simp] theorem modLoop_ev (n : Nat) (f : LoopPart → LoopPart) (s : State) : (modLoop n f s).ev = s.ev := rfl
@[simp] theorem modLoop_pk (n : Nat) (f : LoopPart → LoopPart) (s : State) : (modLoop n f s).pk = s.pk := rfl
@[simp] theorem modLoop_role (n : Nat) (f : LoopPart → LoopPart) (s : State) : (modLoop n f s).role = s.role := rfl
@[simp] theorem modLoop_die (n : Nat) (f : LoopPart → LoopPart) (s : State) : (modLoop n f s).die = s.die := rfl
@[simp] theorem modLoop_sets (n : Nat) (f : LoopPart → LoopPart) (s : State) : (modLoop n f s).sets = s.sets := rfl
@[simp] theorem modLoop_line (n : Nat) (f : LoopPart → LoopPart) (s : State) : (modLoop n f s).line = s.line := rfl
@[simp] theorem modLoop_load (n : Nat) (f : LoopPart → LoopPart) (s : State) : (modLoop n f s).load = s.load := rfl
@[simp] theorem modLoop_inp (n : Nat) (f : LoopPart → LoopPart) (s : State) : (modLoop n f s).inp = s.inp := rfl
@[simp] theorem modLoop_fus (n : Nat) (f : LoopPart → LoopPart) (s : State) : (modLoop n f s).fus = s.fus := rfl
@[simp] theorem modLoop_fn (n : Nat) (f : LoopPart → LoopPart) (s : State) : (modLoop n f s).fn = s.fn := rfl
@[simp] theorem modLoop_nav (n : Nat) (f : LoopPart → LoopPart) (s : State) : (modLoop n f s).nav = s.nav := rfl
@[simp] theorem modLoop_yld (n : Nat) (f : LoopPart → LoopPart) (s : State) : (modLoop n f s).yld = s.yld := rfl
@[simp] theorem modLoop_cst (n : Nat) (f : LoopPart → LoopPart) (s : State) : (modLoop n f s).cst = s.cst := rfl
@[simp] theorem modLoop_clk (n : Nat) (f : LoopPart → LoopPart) (s : State) : (modLoop n f s).clk = s.clk := rfl
@[simp] theorem modLoop_lvl (n : Nat) (f : LoopPart → LoopPart) (s : State) : (modLoop n f s).lvl = s.lvl := rfl
@[simp] theorem modLoop_dma (n : Nat) (f : LoopPart → LoopPart) (s : State) : (modLoop n f s).dma = s.dma := rfl
@[simp] theorem modLoop_can (n : Nat) (f : LoopPart → LoopPart) (s : State) : (modLoop n f s).can = s.can := rfl
@[simp] theorem modLoop_pwr (n : Nat) (f : LoopPart → LoopPart) (s : State) : (modLoop n f s).pwr = s.pwr := rfl
@[simp] theorem modLoop_upd (n : Nat) (f : LoopPart → LoopPart) (s : State) : (modLoop n f s).upd = s.upd := rfl

/-! A load channel changes. -/

@[simp] theorem modChan_pending (c : Nat) (f : ChannelPart → ChannelPart) (s : State) : (modChan c f s).pending = s.pending := rfl
@[simp] theorem modChan_now (c : Nat) (f : ChannelPart → ChannelPart) (s : State) : (modChan c f s).now = s.now := rfl
@[simp] theorem modChan_devOff (c : Nat) (f : ChannelPart → ChannelPart) (s : State) : (modChan c f s).devOff = s.devOff := rfl
@[simp] theorem modChan_steer (c : Nat) (f : ChannelPart → ChannelPart) (s : State) : (modChan c f s).steer = s.steer := rfl
@[simp] theorem modChan_regs (c : Nat) (f : ChannelPart → ChannelPart) (s : State) : (modChan c f s).regs = s.regs := rfl
@[simp] theorem modChan_hiLatch (c : Nat) (f : ChannelPart → ChannelPart) (s : State) : (modChan c f s).hiLatch = s.hiLatch := rfl
@[simp] theorem modChan_out (c : Nat) (f : ChannelPart → ChannelPart) (s : State) : (modChan c f s).out = s.out := rfl
@[simp] theorem modChan_drawn (c : Nat) (f : ChannelPart → ChannelPart) (s : State) : (modChan c f s).drawn = s.drawn := rfl
@[simp] theorem modChan_ev (c : Nat) (f : ChannelPart → ChannelPart) (s : State) : (modChan c f s).ev = s.ev := rfl
@[simp] theorem modChan_pk (c : Nat) (f : ChannelPart → ChannelPart) (s : State) : (modChan c f s).pk = s.pk := rfl
@[simp] theorem modChan_role (c : Nat) (f : ChannelPart → ChannelPart) (s : State) : (modChan c f s).role = s.role := rfl
@[simp] theorem modChan_die (c : Nat) (f : ChannelPart → ChannelPart) (s : State) : (modChan c f s).die = s.die := rfl
@[simp] theorem modChan_sets (c : Nat) (f : ChannelPart → ChannelPart) (s : State) : (modChan c f s).sets = s.sets := rfl
@[simp] theorem modChan_line (c : Nat) (f : ChannelPart → ChannelPart) (s : State) : (modChan c f s).line = s.line := rfl
@[simp] theorem modChan_inp (c : Nat) (f : ChannelPart → ChannelPart) (s : State) : (modChan c f s).inp = s.inp := rfl
@[simp] theorem modChan_eng (c : Nat) (f : ChannelPart → ChannelPart) (s : State) : (modChan c f s).eng = s.eng := rfl
@[simp] theorem modChan_fus (c : Nat) (f : ChannelPart → ChannelPart) (s : State) : (modChan c f s).fus = s.fus := rfl
@[simp] theorem modChan_fn (c : Nat) (f : ChannelPart → ChannelPart) (s : State) : (modChan c f s).fn = s.fn := rfl
@[simp] theorem modChan_nav (c : Nat) (f : ChannelPart → ChannelPart) (s : State) : (modChan c f s).nav = s.nav := rfl
@[simp] theorem modChan_yld (c : Nat) (f : ChannelPart → ChannelPart) (s : State) : (modChan c f s).yld = s.yld := rfl
@[simp] theorem modChan_cst (c : Nat) (f : ChannelPart → ChannelPart) (s : State) : (modChan c f s).cst = s.cst := rfl
@[simp] theorem modChan_clk (c : Nat) (f : ChannelPart → ChannelPart) (s : State) : (modChan c f s).clk = s.clk := rfl
@[simp] theorem modChan_lvl (c : Nat) (f : ChannelPart → ChannelPart) (s : State) : (modChan c f s).lvl = s.lvl := rfl
@[simp] theorem modChan_dma (c : Nat) (f : ChannelPart → ChannelPart) (s : State) : (modChan c f s).dma = s.dma := rfl
@[simp] theorem modChan_can (c : Nat) (f : ChannelPart → ChannelPart) (s : State) : (modChan c f s).can = s.can := rfl
@[simp] theorem modChan_pwr (c : Nat) (f : ChannelPart → ChannelPart) (s : State) : (modChan c f s).pwr = s.pwr := rfl
@[simp] theorem modChan_upd (c : Nat) (f : ChannelPart → ChannelPart) (s : State) : (modChan c f s).upd = s.upd := rfl

/-! A DMA channel changes. -/

@[simp] theorem modDma_pending (c : Nat) (f : DmaChannel → DmaChannel) (s : State) : (modDma c f s).pending = s.pending := rfl
@[simp] theorem modDma_now (c : Nat) (f : DmaChannel → DmaChannel) (s : State) : (modDma c f s).now = s.now := rfl
@[simp] theorem modDma_devOff (c : Nat) (f : DmaChannel → DmaChannel) (s : State) : (modDma c f s).devOff = s.devOff := rfl
@[simp] theorem modDma_steer (c : Nat) (f : DmaChannel → DmaChannel) (s : State) : (modDma c f s).steer = s.steer := rfl
@[simp] theorem modDma_regs (c : Nat) (f : DmaChannel → DmaChannel) (s : State) : (modDma c f s).regs = s.regs := rfl
@[simp] theorem modDma_hiLatch (c : Nat) (f : DmaChannel → DmaChannel) (s : State) : (modDma c f s).hiLatch = s.hiLatch := rfl
@[simp] theorem modDma_out (c : Nat) (f : DmaChannel → DmaChannel) (s : State) : (modDma c f s).out = s.out := rfl
@[simp] theorem modDma_drawn (c : Nat) (f : DmaChannel → DmaChannel) (s : State) : (modDma c f s).drawn = s.drawn := rfl
@[simp] theorem modDma_ev (c : Nat) (f : DmaChannel → DmaChannel) (s : State) : (modDma c f s).ev = s.ev := rfl
@[simp] theorem modDma_pk (c : Nat) (f : DmaChannel → DmaChannel) (s : State) : (modDma c f s).pk = s.pk := rfl
@[simp] theorem modDma_role (c : Nat) (f : DmaChannel → DmaChannel) (s : State) : (modDma c f s).role = s.role := rfl
@[simp] theorem modDma_die (c : Nat) (f : DmaChannel → DmaChannel) (s : State) : (modDma c f s).die = s.die := rfl
@[simp] theorem modDma_sets (c : Nat) (f : DmaChannel → DmaChannel) (s : State) : (modDma c f s).sets = s.sets := rfl
@[simp] theorem modDma_line (c : Nat) (f : DmaChannel → DmaChannel) (s : State) : (modDma c f s).line = s.line := rfl
@[simp] theorem modDma_load (c : Nat) (f : DmaChannel → DmaChannel) (s : State) : (modDma c f s).load = s.load := rfl
@[simp] theorem modDma_inp (c : Nat) (f : DmaChannel → DmaChannel) (s : State) : (modDma c f s).inp = s.inp := rfl
@[simp] theorem modDma_eng (c : Nat) (f : DmaChannel → DmaChannel) (s : State) : (modDma c f s).eng = s.eng := rfl
@[simp] theorem modDma_fus (c : Nat) (f : DmaChannel → DmaChannel) (s : State) : (modDma c f s).fus = s.fus := rfl
@[simp] theorem modDma_fn (c : Nat) (f : DmaChannel → DmaChannel) (s : State) : (modDma c f s).fn = s.fn := rfl
@[simp] theorem modDma_nav (c : Nat) (f : DmaChannel → DmaChannel) (s : State) : (modDma c f s).nav = s.nav := rfl
@[simp] theorem modDma_yld (c : Nat) (f : DmaChannel → DmaChannel) (s : State) : (modDma c f s).yld = s.yld := rfl
@[simp] theorem modDma_cst (c : Nat) (f : DmaChannel → DmaChannel) (s : State) : (modDma c f s).cst = s.cst := rfl
@[simp] theorem modDma_clk (c : Nat) (f : DmaChannel → DmaChannel) (s : State) : (modDma c f s).clk = s.clk := rfl
@[simp] theorem modDma_lvl (c : Nat) (f : DmaChannel → DmaChannel) (s : State) : (modDma c f s).lvl = s.lvl := rfl
@[simp] theorem modDma_can (c : Nat) (f : DmaChannel → DmaChannel) (s : State) : (modDma c f s).can = s.can := rfl
@[simp] theorem modDma_pwr (c : Nat) (f : DmaChannel → DmaChannel) (s : State) : (modDma c f s).pwr = s.pwr := rfl
@[simp] theorem modDma_upd (c : Nat) (f : DmaChannel → DmaChannel) (s : State) : (modDma c f s).upd = s.upd := rfl

/-! A data stream changes. -/

@[simp] theorem modData_pending (n : Nat) (f : DataStream → DataStream) (s : State) : (modData n f s).pending = s.pending := rfl
@[simp] theorem modData_now (n : Nat) (f : DataStream → DataStream) (s : State) : (modData n f s).now = s.now := rfl
@[simp] theorem modData_devOff (n : Nat) (f : DataStream → DataStream) (s : State) : (modData n f s).devOff = s.devOff := rfl
@[simp] theorem modData_steer (n : Nat) (f : DataStream → DataStream) (s : State) : (modData n f s).steer = s.steer := rfl
@[simp] theorem modData_regs (n : Nat) (f : DataStream → DataStream) (s : State) : (modData n f s).regs = s.regs := rfl
@[simp] theorem modData_hiLatch (n : Nat) (f : DataStream → DataStream) (s : State) : (modData n f s).hiLatch = s.hiLatch := rfl
@[simp] theorem modData_out (n : Nat) (f : DataStream → DataStream) (s : State) : (modData n f s).out = s.out := rfl
@[simp] theorem modData_drawn (n : Nat) (f : DataStream → DataStream) (s : State) : (modData n f s).drawn = s.drawn := rfl
@[simp] theorem modData_ev (n : Nat) (f : DataStream → DataStream) (s : State) : (modData n f s).ev = s.ev := rfl
@[simp] theorem modData_pk (n : Nat) (f : DataStream → DataStream) (s : State) : (modData n f s).pk = s.pk := rfl
@[simp] theorem modData_role (n : Nat) (f : DataStream → DataStream) (s : State) : (modData n f s).role = s.role := rfl
@[simp] theorem modData_die (n : Nat) (f : DataStream → DataStream) (s : State) : (modData n f s).die = s.die := rfl
@[simp] theorem modData_sets (n : Nat) (f : DataStream → DataStream) (s : State) : (modData n f s).sets = s.sets := rfl
@[simp] theorem modData_line (n : Nat) (f : DataStream → DataStream) (s : State) : (modData n f s).line = s.line := rfl
@[simp] theorem modData_load (n : Nat) (f : DataStream → DataStream) (s : State) : (modData n f s).load = s.load := rfl
@[simp] theorem modData_inp (n : Nat) (f : DataStream → DataStream) (s : State) : (modData n f s).inp = s.inp := rfl
@[simp] theorem modData_eng (n : Nat) (f : DataStream → DataStream) (s : State) : (modData n f s).eng = s.eng := rfl
@[simp] theorem modData_fus (n : Nat) (f : DataStream → DataStream) (s : State) : (modData n f s).fus = s.fus := rfl
@[simp] theorem modData_fn (n : Nat) (f : DataStream → DataStream) (s : State) : (modData n f s).fn = s.fn := rfl
@[simp] theorem modData_nav (n : Nat) (f : DataStream → DataStream) (s : State) : (modData n f s).nav = s.nav := rfl
@[simp] theorem modData_yld (n : Nat) (f : DataStream → DataStream) (s : State) : (modData n f s).yld = s.yld := rfl
@[simp] theorem modData_cst (n : Nat) (f : DataStream → DataStream) (s : State) : (modData n f s).cst = s.cst := rfl
@[simp] theorem modData_clk (n : Nat) (f : DataStream → DataStream) (s : State) : (modData n f s).clk = s.clk := rfl
@[simp] theorem modData_lvl (n : Nat) (f : DataStream → DataStream) (s : State) : (modData n f s).lvl = s.lvl := rfl
@[simp] theorem modData_can (n : Nat) (f : DataStream → DataStream) (s : State) : (modData n f s).can = s.can := rfl
@[simp] theorem modData_pwr (n : Nat) (f : DataStream → DataStream) (s : State) : (modData n f s).pwr = s.pwr := rfl
@[simp] theorem modData_upd (n : Nat) (f : DataStream → DataStream) (s : State) : (modData n f s).upd = s.upd := rfl

/-! A CAN controller changes. -/

@[simp] theorem modControl_pending (n : Nat) (f : CanControl → CanControl) (s : State) : (modControl n f s).pending = s.pending := rfl
@[simp] theorem modControl_now (n : Nat) (f : CanControl → CanControl) (s : State) : (modControl n f s).now = s.now := rfl
@[simp] theorem modControl_devOff (n : Nat) (f : CanControl → CanControl) (s : State) : (modControl n f s).devOff = s.devOff := rfl
@[simp] theorem modControl_steer (n : Nat) (f : CanControl → CanControl) (s : State) : (modControl n f s).steer = s.steer := rfl
@[simp] theorem modControl_regs (n : Nat) (f : CanControl → CanControl) (s : State) : (modControl n f s).regs = s.regs := rfl
@[simp] theorem modControl_hiLatch (n : Nat) (f : CanControl → CanControl) (s : State) : (modControl n f s).hiLatch = s.hiLatch := rfl
@[simp] theorem modControl_out (n : Nat) (f : CanControl → CanControl) (s : State) : (modControl n f s).out = s.out := rfl
@[simp] theorem modControl_drawn (n : Nat) (f : CanControl → CanControl) (s : State) : (modControl n f s).drawn = s.drawn := rfl
@[simp] theorem modControl_ev (n : Nat) (f : CanControl → CanControl) (s : State) : (modControl n f s).ev = s.ev := rfl
@[simp] theorem modControl_pk (n : Nat) (f : CanControl → CanControl) (s : State) : (modControl n f s).pk = s.pk := rfl
@[simp] theorem modControl_role (n : Nat) (f : CanControl → CanControl) (s : State) : (modControl n f s).role = s.role := rfl
@[simp] theorem modControl_die (n : Nat) (f : CanControl → CanControl) (s : State) : (modControl n f s).die = s.die := rfl
@[simp] theorem modControl_sets (n : Nat) (f : CanControl → CanControl) (s : State) : (modControl n f s).sets = s.sets := rfl
@[simp] theorem modControl_line (n : Nat) (f : CanControl → CanControl) (s : State) : (modControl n f s).line = s.line := rfl
@[simp] theorem modControl_load (n : Nat) (f : CanControl → CanControl) (s : State) : (modControl n f s).load = s.load := rfl
@[simp] theorem modControl_inp (n : Nat) (f : CanControl → CanControl) (s : State) : (modControl n f s).inp = s.inp := rfl
@[simp] theorem modControl_eng (n : Nat) (f : CanControl → CanControl) (s : State) : (modControl n f s).eng = s.eng := rfl
@[simp] theorem modControl_fus (n : Nat) (f : CanControl → CanControl) (s : State) : (modControl n f s).fus = s.fus := rfl
@[simp] theorem modControl_fn (n : Nat) (f : CanControl → CanControl) (s : State) : (modControl n f s).fn = s.fn := rfl
@[simp] theorem modControl_nav (n : Nat) (f : CanControl → CanControl) (s : State) : (modControl n f s).nav = s.nav := rfl
@[simp] theorem modControl_yld (n : Nat) (f : CanControl → CanControl) (s : State) : (modControl n f s).yld = s.yld := rfl
@[simp] theorem modControl_cst (n : Nat) (f : CanControl → CanControl) (s : State) : (modControl n f s).cst = s.cst := rfl
@[simp] theorem modControl_clk (n : Nat) (f : CanControl → CanControl) (s : State) : (modControl n f s).clk = s.clk := rfl
@[simp] theorem modControl_lvl (n : Nat) (f : CanControl → CanControl) (s : State) : (modControl n f s).lvl = s.lvl := rfl
@[simp] theorem modControl_dma (n : Nat) (f : CanControl → CanControl) (s : State) : (modControl n f s).dma = s.dma := rfl
@[simp] theorem modControl_pwr (n : Nat) (f : CanControl → CanControl) (s : State) : (modControl n f s).pwr = s.pwr := rfl
@[simp] theorem modControl_upd (n : Nat) (f : CanControl → CanControl) (s : State) : (modControl n f s).upd = s.upd := rfl

/-! A correction source changes. -/

@[simp] theorem modSource_pending (k : Nat) (f : CorrSource → CorrSource) (s : State) : (modSource k f s).pending = s.pending := rfl
@[simp] theorem modSource_now (k : Nat) (f : CorrSource → CorrSource) (s : State) : (modSource k f s).now = s.now := rfl
@[simp] theorem modSource_devOff (k : Nat) (f : CorrSource → CorrSource) (s : State) : (modSource k f s).devOff = s.devOff := rfl
@[simp] theorem modSource_steer (k : Nat) (f : CorrSource → CorrSource) (s : State) : (modSource k f s).steer = s.steer := rfl
@[simp] theorem modSource_regs (k : Nat) (f : CorrSource → CorrSource) (s : State) : (modSource k f s).regs = s.regs := rfl
@[simp] theorem modSource_hiLatch (k : Nat) (f : CorrSource → CorrSource) (s : State) : (modSource k f s).hiLatch = s.hiLatch := rfl
@[simp] theorem modSource_out (k : Nat) (f : CorrSource → CorrSource) (s : State) : (modSource k f s).out = s.out := rfl
@[simp] theorem modSource_drawn (k : Nat) (f : CorrSource → CorrSource) (s : State) : (modSource k f s).drawn = s.drawn := rfl
@[simp] theorem modSource_ev (k : Nat) (f : CorrSource → CorrSource) (s : State) : (modSource k f s).ev = s.ev := rfl
@[simp] theorem modSource_pk (k : Nat) (f : CorrSource → CorrSource) (s : State) : (modSource k f s).pk = s.pk := rfl
@[simp] theorem modSource_role (k : Nat) (f : CorrSource → CorrSource) (s : State) : (modSource k f s).role = s.role := rfl
@[simp] theorem modSource_die (k : Nat) (f : CorrSource → CorrSource) (s : State) : (modSource k f s).die = s.die := rfl
@[simp] theorem modSource_sets (k : Nat) (f : CorrSource → CorrSource) (s : State) : (modSource k f s).sets = s.sets := rfl
@[simp] theorem modSource_line (k : Nat) (f : CorrSource → CorrSource) (s : State) : (modSource k f s).line = s.line := rfl
@[simp] theorem modSource_load (k : Nat) (f : CorrSource → CorrSource) (s : State) : (modSource k f s).load = s.load := rfl
@[simp] theorem modSource_inp (k : Nat) (f : CorrSource → CorrSource) (s : State) : (modSource k f s).inp = s.inp := rfl
@[simp] theorem modSource_eng (k : Nat) (f : CorrSource → CorrSource) (s : State) : (modSource k f s).eng = s.eng := rfl
@[simp] theorem modSource_fus (k : Nat) (f : CorrSource → CorrSource) (s : State) : (modSource k f s).fus = s.fus := rfl
@[simp] theorem modSource_fn (k : Nat) (f : CorrSource → CorrSource) (s : State) : (modSource k f s).fn = s.fn := rfl
@[simp] theorem modSource_yld (k : Nat) (f : CorrSource → CorrSource) (s : State) : (modSource k f s).yld = s.yld := rfl
@[simp] theorem modSource_cst (k : Nat) (f : CorrSource → CorrSource) (s : State) : (modSource k f s).cst = s.cst := rfl
@[simp] theorem modSource_clk (k : Nat) (f : CorrSource → CorrSource) (s : State) : (modSource k f s).clk = s.clk := rfl
@[simp] theorem modSource_lvl (k : Nat) (f : CorrSource → CorrSource) (s : State) : (modSource k f s).lvl = s.lvl := rfl
@[simp] theorem modSource_dma (k : Nat) (f : CorrSource → CorrSource) (s : State) : (modSource k f s).dma = s.dma := rfl
@[simp] theorem modSource_can (k : Nat) (f : CorrSource → CorrSource) (s : State) : (modSource k f s).can = s.can := rfl
@[simp] theorem modSource_pwr (k : Nat) (f : CorrSource → CorrSource) (s : State) : (modSource k f s).pwr = s.pwr := rfl
@[simp] theorem modSource_upd (k : Nat) (f : CorrSource → CorrSource) (s : State) : (modSource k f s).upd = s.upd := rfl

/-! A field map changes. -/

@[simp] theorem modField_pending (id : Nat) (f : Field → Field) (s : State) : (modField id f s).pending = s.pending := rfl
@[simp] theorem modField_now (id : Nat) (f : Field → Field) (s : State) : (modField id f s).now = s.now := rfl
@[simp] theorem modField_devOff (id : Nat) (f : Field → Field) (s : State) : (modField id f s).devOff = s.devOff := rfl
@[simp] theorem modField_steer (id : Nat) (f : Field → Field) (s : State) : (modField id f s).steer = s.steer := rfl
@[simp] theorem modField_regs (id : Nat) (f : Field → Field) (s : State) : (modField id f s).regs = s.regs := rfl
@[simp] theorem modField_hiLatch (id : Nat) (f : Field → Field) (s : State) : (modField id f s).hiLatch = s.hiLatch := rfl
@[simp] theorem modField_out (id : Nat) (f : Field → Field) (s : State) : (modField id f s).out = s.out := rfl
@[simp] theorem modField_drawn (id : Nat) (f : Field → Field) (s : State) : (modField id f s).drawn = s.drawn := rfl
@[simp] theorem modField_ev (id : Nat) (f : Field → Field) (s : State) : (modField id f s).ev = s.ev := rfl
@[simp] theorem modField_pk (id : Nat) (f : Field → Field) (s : State) : (modField id f s).pk = s.pk := rfl
@[simp] theorem modField_role (id : Nat) (f : Field → Field) (s : State) : (modField id f s).role = s.role := rfl
@[simp] theorem modField_die (id : Nat) (f : Field → Field) (s : State) : (modField id f s).die = s.die := rfl
@[simp] theorem modField_sets (id : Nat) (f : Field → Field) (s : State) : (modField id f s).sets = s.sets := rfl
@[simp] theorem modField_line (id : Nat) (f : Field → Field) (s : State) : (modField id f s).line = s.line := rfl
@[simp] theorem modField_load (id : Nat) (f : Field → Field) (s : State) : (modField id f s).load = s.load := rfl
@[simp] theorem modField_inp (id : Nat) (f : Field → Field) (s : State) : (modField id f s).inp = s.inp := rfl
@[simp] theorem modField_eng (id : Nat) (f : Field → Field) (s : State) : (modField id f s).eng = s.eng := rfl
@[simp] theorem modField_fus (id : Nat) (f : Field → Field) (s : State) : (modField id f s).fus = s.fus := rfl
@[simp] theorem modField_fn (id : Nat) (f : Field → Field) (s : State) : (modField id f s).fn = s.fn := rfl
@[simp] theorem modField_nav (id : Nat) (f : Field → Field) (s : State) : (modField id f s).nav = s.nav := rfl
@[simp] theorem modField_cst (id : Nat) (f : Field → Field) (s : State) : (modField id f s).cst = s.cst := rfl
@[simp] theorem modField_clk (id : Nat) (f : Field → Field) (s : State) : (modField id f s).clk = s.clk := rfl
@[simp] theorem modField_lvl (id : Nat) (f : Field → Field) (s : State) : (modField id f s).lvl = s.lvl := rfl
@[simp] theorem modField_dma (id : Nat) (f : Field → Field) (s : State) : (modField id f s).dma = s.dma := rfl
@[simp] theorem modField_can (id : Nat) (f : Field → Field) (s : State) : (modField id f s).can = s.can := rfl
@[simp] theorem modField_pwr (id : Nat) (f : Field → Field) (s : State) : (modField id f s).pwr = s.pwr := rfl
@[simp] theorem modField_upd (id : Nat) (f : Field → Field) (s : State) : (modField id f s).upd = s.upd := rfl

/-! The open field changes. -/

@[simp] theorem modLive_pending (f : FieldData → FieldData) (s : State) : (modLive f s).pending = s.pending := rfl
@[simp] theorem modLive_now (f : FieldData → FieldData) (s : State) : (modLive f s).now = s.now := rfl
@[simp] theorem modLive_devOff (f : FieldData → FieldData) (s : State) : (modLive f s).devOff = s.devOff := rfl
@[simp] theorem modLive_steer (f : FieldData → FieldData) (s : State) : (modLive f s).steer = s.steer := rfl
@[simp] theorem modLive_regs (f : FieldData → FieldData) (s : State) : (modLive f s).regs = s.regs := rfl
@[simp] theorem modLive_hiLatch (f : FieldData → FieldData) (s : State) : (modLive f s).hiLatch = s.hiLatch := rfl
@[simp] theorem modLive_out (f : FieldData → FieldData) (s : State) : (modLive f s).out = s.out := rfl
@[simp] theorem modLive_drawn (f : FieldData → FieldData) (s : State) : (modLive f s).drawn = s.drawn := rfl
@[simp] theorem modLive_ev (f : FieldData → FieldData) (s : State) : (modLive f s).ev = s.ev := rfl
@[simp] theorem modLive_pk (f : FieldData → FieldData) (s : State) : (modLive f s).pk = s.pk := rfl
@[simp] theorem modLive_role (f : FieldData → FieldData) (s : State) : (modLive f s).role = s.role := rfl
@[simp] theorem modLive_die (f : FieldData → FieldData) (s : State) : (modLive f s).die = s.die := rfl
@[simp] theorem modLive_sets (f : FieldData → FieldData) (s : State) : (modLive f s).sets = s.sets := rfl
@[simp] theorem modLive_line (f : FieldData → FieldData) (s : State) : (modLive f s).line = s.line := rfl
@[simp] theorem modLive_load (f : FieldData → FieldData) (s : State) : (modLive f s).load = s.load := rfl
@[simp] theorem modLive_inp (f : FieldData → FieldData) (s : State) : (modLive f s).inp = s.inp := rfl
@[simp] theorem modLive_eng (f : FieldData → FieldData) (s : State) : (modLive f s).eng = s.eng := rfl
@[simp] theorem modLive_fus (f : FieldData → FieldData) (s : State) : (modLive f s).fus = s.fus := rfl
@[simp] theorem modLive_fn (f : FieldData → FieldData) (s : State) : (modLive f s).fn = s.fn := rfl
@[simp] theorem modLive_nav (f : FieldData → FieldData) (s : State) : (modLive f s).nav = s.nav := rfl
@[simp] theorem modLive_cst (f : FieldData → FieldData) (s : State) : (modLive f s).cst = s.cst := rfl
@[simp] theorem modLive_clk (f : FieldData → FieldData) (s : State) : (modLive f s).clk = s.clk := rfl
@[simp] theorem modLive_lvl (f : FieldData → FieldData) (s : State) : (modLive f s).lvl = s.lvl := rfl
@[simp] theorem modLive_dma (f : FieldData → FieldData) (s : State) : (modLive f s).dma = s.dma := rfl
@[simp] theorem modLive_can (f : FieldData → FieldData) (s : State) : (modLive f s).can = s.can := rfl
@[simp] theorem modLive_pwr (f : FieldData → FieldData) (s : State) : (modLive f s).pwr = s.pwr := rfl
@[simp] theorem modLive_upd (f : FieldData → FieldData) (s : State) : (modLive f s).upd = s.upd := rfl

/-! The consist part changes. -/

@[simp] theorem modCst_pending (f : ConsistPart → ConsistPart) (s : State) : (modCst f s).pending = s.pending := rfl
@[simp] theorem modCst_now (f : ConsistPart → ConsistPart) (s : State) : (modCst f s).now = s.now := rfl
@[simp] theorem modCst_devOff (f : ConsistPart → ConsistPart) (s : State) : (modCst f s).devOff = s.devOff := rfl
@[simp] theorem modCst_steer (f : ConsistPart → ConsistPart) (s : State) : (modCst f s).steer = s.steer := rfl
@[simp] theorem modCst_regs (f : ConsistPart → ConsistPart) (s : State) : (modCst f s).regs = s.regs := rfl
@[simp] theorem modCst_hiLatch (f : ConsistPart → ConsistPart) (s : State) : (modCst f s).hiLatch = s.hiLatch := rfl
@[simp] theorem modCst_out (f : ConsistPart → ConsistPart) (s : State) : (modCst f s).out = s.out := rfl
@[simp] theorem modCst_drawn (f : ConsistPart → ConsistPart) (s : State) : (modCst f s).drawn = s.drawn := rfl
@[simp] theorem modCst_ev (f : ConsistPart → ConsistPart) (s : State) : (modCst f s).ev = s.ev := rfl
@[simp] theorem modCst_pk (f : ConsistPart → ConsistPart) (s : State) : (modCst f s).pk = s.pk := rfl
@[simp] theorem modCst_role (f : ConsistPart → ConsistPart) (s : State) : (modCst f s).role = s.role := rfl
@[simp] theorem modCst_die (f : ConsistPart → ConsistPart) (s : State) : (modCst f s).die = s.die := rfl
@[simp] theorem modCst_sets (f : ConsistPart → ConsistPart) (s : State) : (modCst f s).sets = s.sets := rfl
@[simp] theorem modCst_line (f : ConsistPart → ConsistPart) (s : State) : (modCst f s).line = s.line := rfl
@[simp] theorem modCst_load (f : ConsistPart → ConsistPart) (s : State) : (modCst f s).load = s.load := rfl
@[simp] theorem modCst_inp (f : ConsistPart → ConsistPart) (s : State) : (modCst f s).inp = s.inp := rfl
@[simp] theorem modCst_eng (f : ConsistPart → ConsistPart) (s : State) : (modCst f s).eng = s.eng := rfl
@[simp] theorem modCst_fus (f : ConsistPart → ConsistPart) (s : State) : (modCst f s).fus = s.fus := rfl
@[simp] theorem modCst_fn (f : ConsistPart → ConsistPart) (s : State) : (modCst f s).fn = s.fn := rfl
@[simp] theorem modCst_nav (f : ConsistPart → ConsistPart) (s : State) : (modCst f s).nav = s.nav := rfl
@[simp] theorem modCst_yld (f : ConsistPart → ConsistPart) (s : State) : (modCst f s).yld = s.yld := rfl
@[simp] theorem modCst_clk (f : ConsistPart → ConsistPart) (s : State) : (modCst f s).clk = s.clk := rfl
@[simp] theorem modCst_lvl (f : ConsistPart → ConsistPart) (s : State) : (modCst f s).lvl = s.lvl := rfl
@[simp] theorem modCst_dma (f : ConsistPart → ConsistPart) (s : State) : (modCst f s).dma = s.dma := rfl
@[simp] theorem modCst_can (f : ConsistPart → ConsistPart) (s : State) : (modCst f s).can = s.can := rfl
@[simp] theorem modCst_pwr (f : ConsistPart → ConsistPart) (s : State) : (modCst f s).pwr = s.pwr := rfl
@[simp] theorem modCst_upd (f : ConsistPart → ConsistPart) (s : State) : (modCst f s).upd = s.upd := rfl

/-! The part of the dies changes. -/

@[simp] theorem modDie_pending (f : DiePart → DiePart) (s : State) : (modDie f s).pending = s.pending := rfl
@[simp] theorem modDie_now (f : DiePart → DiePart) (s : State) : (modDie f s).now = s.now := rfl
@[simp] theorem modDie_devOff (f : DiePart → DiePart) (s : State) : (modDie f s).devOff = s.devOff := rfl
@[simp] theorem modDie_steer (f : DiePart → DiePart) (s : State) : (modDie f s).steer = s.steer := rfl
@[simp] theorem modDie_regs (f : DiePart → DiePart) (s : State) : (modDie f s).regs = s.regs := rfl
@[simp] theorem modDie_hiLatch (f : DiePart → DiePart) (s : State) : (modDie f s).hiLatch = s.hiLatch := rfl
@[simp] theorem modDie_out (f : DiePart → DiePart) (s : State) : (modDie f s).out = s.out := rfl
@[simp] theorem modDie_drawn (f : DiePart → DiePart) (s : State) : (modDie f s).drawn = s.drawn := rfl
@[simp] theorem modDie_ev (f : DiePart → DiePart) (s : State) : (modDie f s).ev = s.ev := rfl
@[simp] theorem modDie_pk (f : DiePart → DiePart) (s : State) : (modDie f s).pk = s.pk := rfl
@[simp] theorem modDie_role (f : DiePart → DiePart) (s : State) : (modDie f s).role = s.role := rfl
@[simp] theorem modDie_sets (f : DiePart → DiePart) (s : State) : (modDie f s).sets = s.sets := rfl
@[simp] theorem modDie_line (f : DiePart → DiePart) (s : State) : (modDie f s).line = s.line := rfl
@[simp] theorem modDie_load (f : DiePart → DiePart) (s : State) : (modDie f s).load = s.load := rfl
@[simp] theorem modDie_inp (f : DiePart → DiePart) (s : State) : (modDie f s).inp = s.inp := rfl
@[simp] theorem modDie_eng (f : DiePart → DiePart) (s : State) : (modDie f s).eng = s.eng := rfl
@[simp] theorem modDie_fus (f : DiePart → DiePart) (s : State) : (modDie f s).fus = s.fus := rfl
@[simp] theorem modDie_fn (f : DiePart → DiePart) (s : State) : (modDie f s).fn = s.fn := rfl
@[simp] theorem modDie_nav (f : DiePart → DiePart) (s : State) : (modDie f s).nav = s.nav := rfl
@[simp] theorem modDie_yld (f : DiePart → DiePart) (s : State) : (modDie f s).yld = s.yld := rfl
@[simp] theorem modDie_cst (f : DiePart → DiePart) (s : State) : (modDie f s).cst = s.cst := rfl
@[simp] theorem modDie_clk (f : DiePart → DiePart) (s : State) : (modDie f s).clk = s.clk := rfl
@[simp] theorem modDie_lvl (f : DiePart → DiePart) (s : State) : (modDie f s).lvl = s.lvl := rfl
@[simp] theorem modDie_dma (f : DiePart → DiePart) (s : State) : (modDie f s).dma = s.dma := rfl
@[simp] theorem modDie_can (f : DiePart → DiePart) (s : State) : (modDie f s).can = s.can := rfl
@[simp] theorem modDie_pwr (f : DiePart → DiePart) (s : State) : (modDie f s).pwr = s.pwr := rfl
@[simp] theorem modDie_upd (f : DiePart → DiePart) (s : State) : (modDie f s).upd = s.upd := rfl

/-! The part of the images changes. -/

@[simp] theorem modUpd_pending (f : UpdatePart → UpdatePart) (s : State) : (modUpd f s).pending = s.pending := rfl
@[simp] theorem modUpd_now (f : UpdatePart → UpdatePart) (s : State) : (modUpd f s).now = s.now := rfl
@[simp] theorem modUpd_devOff (f : UpdatePart → UpdatePart) (s : State) : (modUpd f s).devOff = s.devOff := rfl
@[simp] theorem modUpd_steer (f : UpdatePart → UpdatePart) (s : State) : (modUpd f s).steer = s.steer := rfl
@[simp] theorem modUpd_regs (f : UpdatePart → UpdatePart) (s : State) : (modUpd f s).regs = s.regs := rfl
@[simp] theorem modUpd_hiLatch (f : UpdatePart → UpdatePart) (s : State) : (modUpd f s).hiLatch = s.hiLatch := rfl
@[simp] theorem modUpd_out (f : UpdatePart → UpdatePart) (s : State) : (modUpd f s).out = s.out := rfl
@[simp] theorem modUpd_drawn (f : UpdatePart → UpdatePart) (s : State) : (modUpd f s).drawn = s.drawn := rfl
@[simp] theorem modUpd_ev (f : UpdatePart → UpdatePart) (s : State) : (modUpd f s).ev = s.ev := rfl
@[simp] theorem modUpd_pk (f : UpdatePart → UpdatePart) (s : State) : (modUpd f s).pk = s.pk := rfl
@[simp] theorem modUpd_role (f : UpdatePart → UpdatePart) (s : State) : (modUpd f s).role = s.role := rfl
@[simp] theorem modUpd_die (f : UpdatePart → UpdatePart) (s : State) : (modUpd f s).die = s.die := rfl
@[simp] theorem modUpd_sets (f : UpdatePart → UpdatePart) (s : State) : (modUpd f s).sets = s.sets := rfl
@[simp] theorem modUpd_line (f : UpdatePart → UpdatePart) (s : State) : (modUpd f s).line = s.line := rfl
@[simp] theorem modUpd_load (f : UpdatePart → UpdatePart) (s : State) : (modUpd f s).load = s.load := rfl
@[simp] theorem modUpd_inp (f : UpdatePart → UpdatePart) (s : State) : (modUpd f s).inp = s.inp := rfl
@[simp] theorem modUpd_eng (f : UpdatePart → UpdatePart) (s : State) : (modUpd f s).eng = s.eng := rfl
@[simp] theorem modUpd_fus (f : UpdatePart → UpdatePart) (s : State) : (modUpd f s).fus = s.fus := rfl
@[simp] theorem modUpd_fn (f : UpdatePart → UpdatePart) (s : State) : (modUpd f s).fn = s.fn := rfl
@[simp] theorem modUpd_nav (f : UpdatePart → UpdatePart) (s : State) : (modUpd f s).nav = s.nav := rfl
@[simp] theorem modUpd_yld (f : UpdatePart → UpdatePart) (s : State) : (modUpd f s).yld = s.yld := rfl
@[simp] theorem modUpd_cst (f : UpdatePart → UpdatePart) (s : State) : (modUpd f s).cst = s.cst := rfl
@[simp] theorem modUpd_clk (f : UpdatePart → UpdatePart) (s : State) : (modUpd f s).clk = s.clk := rfl
@[simp] theorem modUpd_lvl (f : UpdatePart → UpdatePart) (s : State) : (modUpd f s).lvl = s.lvl := rfl
@[simp] theorem modUpd_dma (f : UpdatePart → UpdatePart) (s : State) : (modUpd f s).dma = s.dma := rfl
@[simp] theorem modUpd_can (f : UpdatePart → UpdatePart) (s : State) : (modUpd f s).can = s.can := rfl
@[simp] theorem modUpd_pwr (f : UpdatePart → UpdatePart) (s : State) : (modUpd f s).pwr = s.pwr := rfl

/-! The part of the events changes. -/

@[simp] theorem modEv_pending (f : EventPart → EventPart) (s : State) : (modEv f s).pending = s.pending := rfl
@[simp] theorem modEv_now (f : EventPart → EventPart) (s : State) : (modEv f s).now = s.now := rfl
@[simp] theorem modEv_devOff (f : EventPart → EventPart) (s : State) : (modEv f s).devOff = s.devOff := rfl
@[simp] theorem modEv_steer (f : EventPart → EventPart) (s : State) : (modEv f s).steer = s.steer := rfl
@[simp] theorem modEv_regs (f : EventPart → EventPart) (s : State) : (modEv f s).regs = s.regs := rfl
@[simp] theorem modEv_hiLatch (f : EventPart → EventPart) (s : State) : (modEv f s).hiLatch = s.hiLatch := rfl
@[simp] theorem modEv_out (f : EventPart → EventPart) (s : State) : (modEv f s).out = s.out := rfl
@[simp] theorem modEv_drawn (f : EventPart → EventPart) (s : State) : (modEv f s).drawn = s.drawn := rfl
@[simp] theorem modEv_pk (f : EventPart → EventPart) (s : State) : (modEv f s).pk = s.pk := rfl
@[simp] theorem modEv_role (f : EventPart → EventPart) (s : State) : (modEv f s).role = s.role := rfl
@[simp] theorem modEv_die (f : EventPart → EventPart) (s : State) : (modEv f s).die = s.die := rfl
@[simp] theorem modEv_sets (f : EventPart → EventPart) (s : State) : (modEv f s).sets = s.sets := rfl
@[simp] theorem modEv_line (f : EventPart → EventPart) (s : State) : (modEv f s).line = s.line := rfl
@[simp] theorem modEv_load (f : EventPart → EventPart) (s : State) : (modEv f s).load = s.load := rfl
@[simp] theorem modEv_inp (f : EventPart → EventPart) (s : State) : (modEv f s).inp = s.inp := rfl
@[simp] theorem modEv_eng (f : EventPart → EventPart) (s : State) : (modEv f s).eng = s.eng := rfl
@[simp] theorem modEv_fus (f : EventPart → EventPart) (s : State) : (modEv f s).fus = s.fus := rfl
@[simp] theorem modEv_fn (f : EventPart → EventPart) (s : State) : (modEv f s).fn = s.fn := rfl
@[simp] theorem modEv_nav (f : EventPart → EventPart) (s : State) : (modEv f s).nav = s.nav := rfl
@[simp] theorem modEv_yld (f : EventPart → EventPart) (s : State) : (modEv f s).yld = s.yld := rfl
@[simp] theorem modEv_cst (f : EventPart → EventPart) (s : State) : (modEv f s).cst = s.cst := rfl
@[simp] theorem modEv_clk (f : EventPart → EventPart) (s : State) : (modEv f s).clk = s.clk := rfl
@[simp] theorem modEv_lvl (f : EventPart → EventPart) (s : State) : (modEv f s).lvl = s.lvl := rfl
@[simp] theorem modEv_dma (f : EventPart → EventPart) (s : State) : (modEv f s).dma = s.dma := rfl
@[simp] theorem modEv_can (f : EventPart → EventPart) (s : State) : (modEv f s).can = s.can := rfl
@[simp] theorem modEv_pwr (f : EventPart → EventPart) (s : State) : (modEv f s).pwr = s.pwr := rfl
@[simp] theorem modEv_upd (f : EventPart → EventPart) (s : State) : (modEv f s).upd = s.upd := rfl

/-! The part of the level sequencer changes. -/

@[simp] theorem modLvl_pending (f : LevelPart → LevelPart) (s : State) : (modLvl f s).pending = s.pending := rfl
@[simp] theorem modLvl_now (f : LevelPart → LevelPart) (s : State) : (modLvl f s).now = s.now := rfl
@[simp] theorem modLvl_devOff (f : LevelPart → LevelPart) (s : State) : (modLvl f s).devOff = s.devOff := rfl
@[simp] theorem modLvl_steer (f : LevelPart → LevelPart) (s : State) : (modLvl f s).steer = s.steer := rfl
@[simp] theorem modLvl_regs (f : LevelPart → LevelPart) (s : State) : (modLvl f s).regs = s.regs := rfl
@[simp] theorem modLvl_hiLatch (f : LevelPart → LevelPart) (s : State) : (modLvl f s).hiLatch = s.hiLatch := rfl
@[simp] theorem modLvl_out (f : LevelPart → LevelPart) (s : State) : (modLvl f s).out = s.out := rfl
@[simp] theorem modLvl_drawn (f : LevelPart → LevelPart) (s : State) : (modLvl f s).drawn = s.drawn := rfl
@[simp] theorem modLvl_ev (f : LevelPart → LevelPart) (s : State) : (modLvl f s).ev = s.ev := rfl
@[simp] theorem modLvl_pk (f : LevelPart → LevelPart) (s : State) : (modLvl f s).pk = s.pk := rfl
@[simp] theorem modLvl_role (f : LevelPart → LevelPart) (s : State) : (modLvl f s).role = s.role := rfl
@[simp] theorem modLvl_die (f : LevelPart → LevelPart) (s : State) : (modLvl f s).die = s.die := rfl
@[simp] theorem modLvl_sets (f : LevelPart → LevelPart) (s : State) : (modLvl f s).sets = s.sets := rfl
@[simp] theorem modLvl_line (f : LevelPart → LevelPart) (s : State) : (modLvl f s).line = s.line := rfl
@[simp] theorem modLvl_load (f : LevelPart → LevelPart) (s : State) : (modLvl f s).load = s.load := rfl
@[simp] theorem modLvl_inp (f : LevelPart → LevelPart) (s : State) : (modLvl f s).inp = s.inp := rfl
@[simp] theorem modLvl_eng (f : LevelPart → LevelPart) (s : State) : (modLvl f s).eng = s.eng := rfl
@[simp] theorem modLvl_fus (f : LevelPart → LevelPart) (s : State) : (modLvl f s).fus = s.fus := rfl
@[simp] theorem modLvl_fn (f : LevelPart → LevelPart) (s : State) : (modLvl f s).fn = s.fn := rfl
@[simp] theorem modLvl_nav (f : LevelPart → LevelPart) (s : State) : (modLvl f s).nav = s.nav := rfl
@[simp] theorem modLvl_yld (f : LevelPart → LevelPart) (s : State) : (modLvl f s).yld = s.yld := rfl
@[simp] theorem modLvl_cst (f : LevelPart → LevelPart) (s : State) : (modLvl f s).cst = s.cst := rfl
@[simp] theorem modLvl_clk (f : LevelPart → LevelPart) (s : State) : (modLvl f s).clk = s.clk := rfl
@[simp] theorem modLvl_dma (f : LevelPart → LevelPart) (s : State) : (modLvl f s).dma = s.dma := rfl
@[simp] theorem modLvl_can (f : LevelPart → LevelPart) (s : State) : (modLvl f s).can = s.can := rfl
@[simp] theorem modLvl_pwr (f : LevelPart → LevelPart) (s : State) : (modLvl f s).pwr = s.pwr := rfl
@[simp] theorem modLvl_upd (f : LevelPart → LevelPart) (s : State) : (modLvl f s).upd = s.upd := rfl

/-! A port of the Line changes. -/

@[simp] theorem modPort_pending (east : Bool) (f : PortState → PortState) (s : State) : (modPort east f s).pending = s.pending := by cases east <;> rfl
@[simp] theorem modPort_now (east : Bool) (f : PortState → PortState) (s : State) : (modPort east f s).now = s.now := by cases east <;> rfl
@[simp] theorem modPort_devOff (east : Bool) (f : PortState → PortState) (s : State) : (modPort east f s).devOff = s.devOff := by cases east <;> rfl
@[simp] theorem modPort_steer (east : Bool) (f : PortState → PortState) (s : State) : (modPort east f s).steer = s.steer := by cases east <;> rfl
@[simp] theorem modPort_regs (east : Bool) (f : PortState → PortState) (s : State) : (modPort east f s).regs = s.regs := by cases east <;> rfl
@[simp] theorem modPort_hiLatch (east : Bool) (f : PortState → PortState) (s : State) : (modPort east f s).hiLatch = s.hiLatch := by cases east <;> rfl
@[simp] theorem modPort_out (east : Bool) (f : PortState → PortState) (s : State) : (modPort east f s).out = s.out := by cases east <;> rfl
@[simp] theorem modPort_drawn (east : Bool) (f : PortState → PortState) (s : State) : (modPort east f s).drawn = s.drawn := by cases east <;> rfl
@[simp] theorem modPort_ev (east : Bool) (f : PortState → PortState) (s : State) : (modPort east f s).ev = s.ev := by cases east <;> rfl
@[simp] theorem modPort_pk (east : Bool) (f : PortState → PortState) (s : State) : (modPort east f s).pk = s.pk := by cases east <;> rfl
@[simp] theorem modPort_role (east : Bool) (f : PortState → PortState) (s : State) : (modPort east f s).role = s.role := by cases east <;> rfl
@[simp] theorem modPort_die (east : Bool) (f : PortState → PortState) (s : State) : (modPort east f s).die = s.die := by cases east <;> rfl
@[simp] theorem modPort_sets (east : Bool) (f : PortState → PortState) (s : State) : (modPort east f s).sets = s.sets := by cases east <;> rfl
@[simp] theorem modPort_load (east : Bool) (f : PortState → PortState) (s : State) : (modPort east f s).load = s.load := by cases east <;> rfl
@[simp] theorem modPort_inp (east : Bool) (f : PortState → PortState) (s : State) : (modPort east f s).inp = s.inp := by cases east <;> rfl
@[simp] theorem modPort_eng (east : Bool) (f : PortState → PortState) (s : State) : (modPort east f s).eng = s.eng := by cases east <;> rfl
@[simp] theorem modPort_fus (east : Bool) (f : PortState → PortState) (s : State) : (modPort east f s).fus = s.fus := by cases east <;> rfl
@[simp] theorem modPort_fn (east : Bool) (f : PortState → PortState) (s : State) : (modPort east f s).fn = s.fn := by cases east <;> rfl
@[simp] theorem modPort_nav (east : Bool) (f : PortState → PortState) (s : State) : (modPort east f s).nav = s.nav := by cases east <;> rfl
@[simp] theorem modPort_yld (east : Bool) (f : PortState → PortState) (s : State) : (modPort east f s).yld = s.yld := by cases east <;> rfl
@[simp] theorem modPort_cst (east : Bool) (f : PortState → PortState) (s : State) : (modPort east f s).cst = s.cst := by cases east <;> rfl
@[simp] theorem modPort_clk (east : Bool) (f : PortState → PortState) (s : State) : (modPort east f s).clk = s.clk := by cases east <;> rfl
@[simp] theorem modPort_lvl (east : Bool) (f : PortState → PortState) (s : State) : (modPort east f s).lvl = s.lvl := by cases east <;> rfl
@[simp] theorem modPort_dma (east : Bool) (f : PortState → PortState) (s : State) : (modPort east f s).dma = s.dma := by cases east <;> rfl
@[simp] theorem modPort_can (east : Bool) (f : PortState → PortState) (s : State) : (modPort east f s).can = s.can := by cases east <;> rfl
@[simp] theorem modPort_pwr (east : Bool) (f : PortState → PortState) (s : State) : (modPort east f s).pwr = s.pwr := by cases east <;> rfl
@[simp] theorem modPort_upd (east : Bool) (f : PortState → PortState) (s : State) : (modPort east f s).upd = s.upd := by cases east <;> rfl

/-! A reference changes. -/

@[simp] theorem modRef_pending (xtal : Bool) (f : RefPart → RefPart) (s : State) : (modRef xtal f s).pending = s.pending := by cases xtal <;> rfl
@[simp] theorem modRef_now (xtal : Bool) (f : RefPart → RefPart) (s : State) : (modRef xtal f s).now = s.now := by cases xtal <;> rfl
@[simp] theorem modRef_devOff (xtal : Bool) (f : RefPart → RefPart) (s : State) : (modRef xtal f s).devOff = s.devOff := by cases xtal <;> rfl
@[simp] theorem modRef_steer (xtal : Bool) (f : RefPart → RefPart) (s : State) : (modRef xtal f s).steer = s.steer := by cases xtal <;> rfl
@[simp] theorem modRef_regs (xtal : Bool) (f : RefPart → RefPart) (s : State) : (modRef xtal f s).regs = s.regs := by cases xtal <;> rfl
@[simp] theorem modRef_hiLatch (xtal : Bool) (f : RefPart → RefPart) (s : State) : (modRef xtal f s).hiLatch = s.hiLatch := by cases xtal <;> rfl
@[simp] theorem modRef_out (xtal : Bool) (f : RefPart → RefPart) (s : State) : (modRef xtal f s).out = s.out := by cases xtal <;> rfl
@[simp] theorem modRef_drawn (xtal : Bool) (f : RefPart → RefPart) (s : State) : (modRef xtal f s).drawn = s.drawn := by cases xtal <;> rfl
@[simp] theorem modRef_ev (xtal : Bool) (f : RefPart → RefPart) (s : State) : (modRef xtal f s).ev = s.ev := by cases xtal <;> rfl
@[simp] theorem modRef_pk (xtal : Bool) (f : RefPart → RefPart) (s : State) : (modRef xtal f s).pk = s.pk := by cases xtal <;> rfl
@[simp] theorem modRef_role (xtal : Bool) (f : RefPart → RefPart) (s : State) : (modRef xtal f s).role = s.role := by cases xtal <;> rfl
@[simp] theorem modRef_die (xtal : Bool) (f : RefPart → RefPart) (s : State) : (modRef xtal f s).die = s.die := by cases xtal <;> rfl
@[simp] theorem modRef_sets (xtal : Bool) (f : RefPart → RefPart) (s : State) : (modRef xtal f s).sets = s.sets := by cases xtal <;> rfl
@[simp] theorem modRef_line (xtal : Bool) (f : RefPart → RefPart) (s : State) : (modRef xtal f s).line = s.line := by cases xtal <;> rfl
@[simp] theorem modRef_load (xtal : Bool) (f : RefPart → RefPart) (s : State) : (modRef xtal f s).load = s.load := by cases xtal <;> rfl
@[simp] theorem modRef_inp (xtal : Bool) (f : RefPart → RefPart) (s : State) : (modRef xtal f s).inp = s.inp := by cases xtal <;> rfl
@[simp] theorem modRef_eng (xtal : Bool) (f : RefPart → RefPart) (s : State) : (modRef xtal f s).eng = s.eng := by cases xtal <;> rfl
@[simp] theorem modRef_fus (xtal : Bool) (f : RefPart → RefPart) (s : State) : (modRef xtal f s).fus = s.fus := by cases xtal <;> rfl
@[simp] theorem modRef_fn (xtal : Bool) (f : RefPart → RefPart) (s : State) : (modRef xtal f s).fn = s.fn := by cases xtal <;> rfl
@[simp] theorem modRef_nav (xtal : Bool) (f : RefPart → RefPart) (s : State) : (modRef xtal f s).nav = s.nav := by cases xtal <;> rfl
@[simp] theorem modRef_yld (xtal : Bool) (f : RefPart → RefPart) (s : State) : (modRef xtal f s).yld = s.yld := by cases xtal <;> rfl
@[simp] theorem modRef_cst (xtal : Bool) (f : RefPart → RefPart) (s : State) : (modRef xtal f s).cst = s.cst := by cases xtal <;> rfl
@[simp] theorem modRef_lvl (xtal : Bool) (f : RefPart → RefPart) (s : State) : (modRef xtal f s).lvl = s.lvl := by cases xtal <;> rfl
@[simp] theorem modRef_dma (xtal : Bool) (f : RefPart → RefPart) (s : State) : (modRef xtal f s).dma = s.dma := by cases xtal <;> rfl
@[simp] theorem modRef_can (xtal : Bool) (f : RefPart → RefPart) (s : State) : (modRef xtal f s).can = s.can := by cases xtal <;> rfl
@[simp] theorem modRef_pwr (xtal : Bool) (f : RefPart → RefPart) (s : State) : (modRef xtal f s).pwr = s.pwr := by cases xtal <;> rfl
@[simp] theorem modRef_upd (xtal : Bool) (f : RefPart → RefPart) (s : State) : (modRef xtal f s).upd = s.upd := by cases xtal <;> rfl

/-! A session changes. -/

@[simp] theorem modSession_pending (n : Nat) (f : Session → Session) (s : State) : (modSession n f s).pending = s.pending := by unfold modSession; split <;> rfl
@[simp] theorem modSession_now (n : Nat) (f : Session → Session) (s : State) : (modSession n f s).now = s.now := by unfold modSession; split <;> rfl
@[simp] theorem modSession_devOff (n : Nat) (f : Session → Session) (s : State) : (modSession n f s).devOff = s.devOff := by unfold modSession; split <;> rfl
@[simp] theorem modSession_steer (n : Nat) (f : Session → Session) (s : State) : (modSession n f s).steer = s.steer := by unfold modSession; split <;> rfl
@[simp] theorem modSession_regs (n : Nat) (f : Session → Session) (s : State) : (modSession n f s).regs = s.regs := by unfold modSession; split <;> rfl
@[simp] theorem modSession_hiLatch (n : Nat) (f : Session → Session) (s : State) : (modSession n f s).hiLatch = s.hiLatch := by unfold modSession; split <;> rfl
@[simp] theorem modSession_out (n : Nat) (f : Session → Session) (s : State) : (modSession n f s).out = s.out := by unfold modSession; split <;> rfl
@[simp] theorem modSession_drawn (n : Nat) (f : Session → Session) (s : State) : (modSession n f s).drawn = s.drawn := by unfold modSession; split <;> rfl
@[simp] theorem modSession_ev (n : Nat) (f : Session → Session) (s : State) : (modSession n f s).ev = s.ev := by unfold modSession; split <;> rfl
@[simp] theorem modSession_role (n : Nat) (f : Session → Session) (s : State) : (modSession n f s).role = s.role := by unfold modSession; split <;> rfl
@[simp] theorem modSession_die (n : Nat) (f : Session → Session) (s : State) : (modSession n f s).die = s.die := by unfold modSession; split <;> rfl
@[simp] theorem modSession_sets (n : Nat) (f : Session → Session) (s : State) : (modSession n f s).sets = s.sets := by unfold modSession; split <;> rfl
@[simp] theorem modSession_line (n : Nat) (f : Session → Session) (s : State) : (modSession n f s).line = s.line := by unfold modSession; split <;> rfl
@[simp] theorem modSession_load (n : Nat) (f : Session → Session) (s : State) : (modSession n f s).load = s.load := by unfold modSession; split <;> rfl
@[simp] theorem modSession_inp (n : Nat) (f : Session → Session) (s : State) : (modSession n f s).inp = s.inp := by unfold modSession; split <;> rfl
@[simp] theorem modSession_eng (n : Nat) (f : Session → Session) (s : State) : (modSession n f s).eng = s.eng := by unfold modSession; split <;> rfl
@[simp] theorem modSession_fus (n : Nat) (f : Session → Session) (s : State) : (modSession n f s).fus = s.fus := by unfold modSession; split <;> rfl
@[simp] theorem modSession_fn (n : Nat) (f : Session → Session) (s : State) : (modSession n f s).fn = s.fn := by unfold modSession; split <;> rfl
@[simp] theorem modSession_nav (n : Nat) (f : Session → Session) (s : State) : (modSession n f s).nav = s.nav := by unfold modSession; split <;> rfl
@[simp] theorem modSession_yld (n : Nat) (f : Session → Session) (s : State) : (modSession n f s).yld = s.yld := by unfold modSession; split <;> rfl
@[simp] theorem modSession_cst (n : Nat) (f : Session → Session) (s : State) : (modSession n f s).cst = s.cst := by unfold modSession; split <;> rfl
@[simp] theorem modSession_clk (n : Nat) (f : Session → Session) (s : State) : (modSession n f s).clk = s.clk := by unfold modSession; split <;> rfl
@[simp] theorem modSession_lvl (n : Nat) (f : Session → Session) (s : State) : (modSession n f s).lvl = s.lvl := by unfold modSession; split <;> rfl
@[simp] theorem modSession_dma (n : Nat) (f : Session → Session) (s : State) : (modSession n f s).dma = s.dma := by unfold modSession; split <;> rfl
@[simp] theorem modSession_can (n : Nat) (f : Session → Session) (s : State) : (modSession n f s).can = s.can := by unfold modSession; split <;> rfl
@[simp] theorem modSession_pwr (n : Nat) (f : Session → Session) (s : State) : (modSession n f s).pwr = s.pwr := by unfold modSession; split <;> rfl
@[simp] theorem modSession_upd (n : Nat) (f : Session → Session) (s : State) : (modSession n f s).upd = s.upd := by unfold modSession; split <;> rfl

/-! What the updates change. -/

@[simp] theorem emit_out (e : Emit) (s : State) : (emit e s).out = s.out ++ [e] := rfl
@[simp] theorem State.push_pending (c : Instr) (s : State) : (s.push c).pending = c :: s.pending := rfl
@[simp] theorem begin_now (t : Nat) (s : State) : (begin_ t s).now = max s.now t := by simp [begin_]
@[simp] theorem begin_out (t : Nat) (s : State) : (begin_ t s).out = [] := by simp [begin_]

/-! What is read after them. -/

@[simp] theorem begin_reg (t : Nat) (s : State) (a : Nat) : (begin_ t s).reg a = s.reg a := by simp [State.reg]
@[simp] theorem begin_get (t : Nat) (s : State) (f : Fld) : (begin_ t s).get f = s.get f := by simp [State.get]
@[simp] theorem begin_gets (t : Nat) (s : State) (f : Fld) : (begin_ t s).gets f = s.gets f := by simp [State.gets]
@[simp] theorem begin_flag (t : Nat) (s : State) (f : Fld) : (begin_ t s).flag f = s.flag f := by simp [State.flag]
@[simp] theorem begin_bit (t : Nat) (s : State) (f : Fld) (i : Nat) : (begin_ t s).bit f i = s.bit f i := by simp [State.bit]
@[simp] theorem begin_powered (t : Nat) (s : State) : powered (begin_ t s) = powered s := by simp [powered]
@[simp] theorem begin_isTerminus (t : Nat) (s : State) : isTerminus (begin_ t s) = isTerminus s := by simp [isTerminus]
@[simp] theorem begin_isRelief (t : Nat) (s : State) : isRelief (begin_ t s) = isRelief s := by simp [isRelief]
@[simp] theorem emit_reg (e : Emit) (s : State) (a : Nat) : (emit e s).reg a = s.reg a := rfl
@[simp] theorem emit_get (e : Emit) (s : State) (f : Fld) : (emit e s).get f = s.get f := rfl

end Sys2Proof.Machine
end

