-- ==== Sys2Proof/Laws/Events.lean ====
section
/-!
SUPPORT. What raising an event source can do (R712–R718): one lemma for each step of a raise, and what a raise leaves alone.
-/

namespace Sys2Proof.Machine

/-- The registers that a raise of a source may write: the register of its flag and of EVENT_LOST, EVR_LATCH, the indices of the
event rings and the counters of lost records. -/
def EventReg (src b : Nat) : Prop :=
  (∃ f, sourceFlag src = some f ∧ b = f.addr) ∨ (∃ f, sourceFlag Src.EVR_EVENT_LOST = some f ∧ b = f.addr) ∨ b = Reg.EVR_LATCH ∨
    b = Reg.DMA_RING_IDX 56 ∨ b = Reg.DMA_RING_IDX 57 ∨ ∃ n, b = Reg.EVT_QUEUE n

/-- What a raise keeps of the state outside the register space. -/
structure SameButEvents (s t : State) : Prop where
  pending : t.pending = s.pending
  now : t.now = s.now
  devOff : t.devOff = s.devOff
  steer : t.steer = s.steer
  hiLatch : t.hiLatch = s.hiLatch
  out : t.out = s.out
  drawn : t.drawn = s.drawn
  ev : t.ev = { s.ev with latch := t.ev.latch }
  pk : t.pk = { s.pk with sessions := t.pk.sessions }
  role : t.role = s.role
  die : t.die = s.die
  sets : t.sets = { s.sets with orders := t.sets.orders }
  line : t.line = s.line
  load : t.load = s.load
  inp : t.inp = s.inp
  eng : t.eng = s.eng
  fus : t.fus = s.fus
  fn : t.fn = s.fn
  nav : t.nav = s.nav
  yld : t.yld = s.yld
  cst : t.cst = s.cst
  clk : t.clk = s.clk
  lvl : t.lvl = s.lvl
  dma : t.dma = s.dma
  can : t.can = s.can
  pwr : t.pwr = s.pwr
  upd : t.upd = s.upd

theorem SameButEvents.refl (s : State) : SameButEvents s s := by constructor <;> rfl

theorem SameButEvents.trans {s t u : State} (h : SameButEvents s t) (k : SameButEvents t u) : SameButEvents s u where
  pending := k.pending.trans h.pending
  now := k.now.trans h.now
  devOff := k.devOff.trans h.devOff
  steer := k.steer.trans h.steer
  hiLatch := k.hiLatch.trans h.hiLatch
  out := k.out.trans h.out
  drawn := k.drawn.trans h.drawn
  ev := by rw [k.ev, h.ev]
  pk := by rw [k.pk, h.pk]
  role := k.role.trans h.role
  die := k.die.trans h.die
  sets := by rw [k.sets, h.sets]
  line := k.line.trans h.line
  load := k.load.trans h.load
  inp := k.inp.trans h.inp
  eng := k.eng.trans h.eng
  fus := k.fus.trans h.fus
  fn := k.fn.trans h.fn
  nav := k.nav.trans h.nav
  yld := k.yld.trans h.yld
  cst := k.cst.trans h.cst
  clk := k.clk.trans h.clk
  lvl := k.lvl.trans h.lvl
  dma := k.dma.trans h.dma
  can := k.can.trans h.can
  pwr := k.pwr.trans h.pwr
  upd := k.upd.trans h.upd

/-- A register write is one of what a raise may do outside the register space: nothing. -/
theorem SameButEvents.setReg (s : State) (a v : Nat) : SameButEvents s (s.setReg a v) := by constructor <;> rfl

theorem SameButEvents.put (s : State) (f : Fld) (v : Nat) : SameButEvents s (s.put f v) := by constructor <;> rfl

theorem passRing_same (n : Nat) (s : State) : SameButEvents s (passRing n s) := by constructor <;> rfl

theorem setFlag_same (src : Nat) (s : State) : SameButEvents s (setFlag src s) := by
  unfold setFlag; split <;> constructor <;> rfl

theorem triggerOrders_same (src : Nat) (s : State) : SameButEvents s (triggerOrders src s) := by
  unfold triggerOrders; split <;> constructor <;> rfl

theorem foldOver_same {α : Type} (f : State → α → State) (h : ∀ s a, SameButEvents s (f s a)) :
    ∀ (l : List α) (s : State), SameButEvents s (foldOver f s l)
  | [], s => SameButEvents.refl s
  | a :: r, s => (h s a).trans (foldOver_same f h r (f s a))

theorem deliver_same (r : EventRecord) (s : State) : SameButEvents s (deliver r s).1 := by
  unfold deliver
  refine SameButEvents.trans (t := { s with pk := { s.pk with sessions := (offerSessions s r s.pk.sessions).1 } }) ?_ ?_
  · constructor <;> rfl
  · exact (passRing_same _ _).trans (foldOver_same _ (fun s n => SameButEvents.put s _ _) _ _)

theorem routeEvent_same (r : EventRecord) (s : State) : SameButEvents s (routeEvent r s).1 := by
  unfold routeEvent
  split
  · exact deliver_same r s
  · split
    · cases h : holdOffer 64 s.ev.latch r with
      | mk q m => cases m <;> constructor <;> rfl
    · exact SameButEvents.refl s

theorem raiseOnce_same (src detail arg : Nat) (s : State) : SameButEvents s (raiseOnce src detail arg s).1 := by
  unfold raiseOnce
  exact ((setFlag_same _ _).trans (triggerOrders_same _ _)).trans (routeEvent_same _ _)

/-- A raise changes, outside the register space, the event latch, the queues of the sessions and the running orders that it
triggers, and nothing else. -/
theorem raiseArg_same (src detail arg : Nat) (s : State) : SameButEvents s (raiseArg src detail arg s) := by
  unfold raiseArg
  cases h : raiseOnce src detail arg s with
  | mk t l =>
    have ht : SameButEvents s t := by have := raiseOnce_same src detail arg s; rwa [h] at this
    simp only
    split
    · exact ht
    · exact ht.trans (raiseOnce_same _ _ _ _)

theorem raise_same (src detail : Nat) (s : State) : SameButEvents s (raise src detail s) := raiseArg_same _ _ _ _

theorem raise0_same (src : Nat) (s : State) : SameButEvents s (raise0 src s) := raiseArg_same _ _ _ _

/-! ### The register space -/

theorem setFlag_reg (src : Nat) (s : State) (b : Nat) (h : ∀ f, sourceFlag src = some f → b ≠ f.addr) :
    (setFlag src s).reg b = s.reg b := by
  unfold setFlag
  split
  · rfl
  · rename_i f hf; exact State.reg_put_ne _ _ _ _ (h f hf)

theorem triggerOrders_regs (src : Nat) (s : State) : (triggerOrders src s).regs = s.regs := by
  unfold triggerOrders; split <;> rfl

theorem reg_of_regs {s t : State} (h : t.regs = s.regs) (a : Nat) : t.reg a = s.reg a := by simp only [State.reg, h]

theorem passRing_reg (n : Nat) (s : State) (b : Nat) (h : b ≠ Reg.DMA_RING_IDX n) : (passRing n s).reg b = s.reg b := by
  unfold passRing State.wrapUp
  rw [State.reg_put_ne _ _ _ _ h, State.reg_put_ne _ _ _ _ h]

theorem bumpQueues_reg (b : Nat) (h : ∀ n, b ≠ Reg.EVT_QUEUE n) : ∀ (l : List Nat) (s : State),
    (foldOver (fun s n => s.bump (F.EVT_QUEUE_LOST (n - 1)) 1) s l).reg b = s.reg b
  | [], s => rfl
  | n :: l, s => by
    rw [foldOver_cons, bumpQueues_reg b h l]
    exact State.reg_put_ne _ _ _ _ (h _)

theorem deliver_reg (r : EventRecord) (s : State) (b : Nat) (h1 : b ≠ Reg.DMA_RING_IDX 56) (h2 : b ≠ Reg.DMA_RING_IDX 57)
    (h3 : ∀ n, b ≠ Reg.EVT_QUEUE n) : (deliver r s).1.reg b = s.reg b := by
  unfold deliver
  simp only
  rw [bumpQueues_reg b h3]
  split
  · rw [passRing_reg _ _ _ h1]; rfl
  · rw [passRing_reg _ _ _ h2]; rfl

theorem routeEvent_reg (r : EventRecord) (s : State) (b : Nat) (h0 : b ≠ Reg.EVR_LATCH) (h1 : b ≠ Reg.DMA_RING_IDX 56)
    (h2 : b ≠ Reg.DMA_RING_IDX 57) (h3 : ∀ n, b ≠ Reg.EVT_QUEUE n) : (routeEvent r s).1.reg b = s.reg b := by
  unfold routeEvent
  split
  · exact deliver_reg r s b h1 h2 h3
  · split
    · cases h : holdOffer 64 s.ev.latch r with
      | mk q m =>
        cases m
        · rfl
        · exact State.reg_put_ne _ _ _ _ h0
    · rfl

theorem raiseOnce_reg (src detail arg : Nat) (s : State) (b : Nat) (h : ∀ f, sourceFlag src = some f → b ≠ f.addr)
    (h0 : b ≠ Reg.EVR_LATCH) (h1 : b ≠ Reg.DMA_RING_IDX 56) (h2 : b ≠ Reg.DMA_RING_IDX 57) (h3 : ∀ n, b ≠ Reg.EVT_QUEUE n) :
    (raiseOnce src detail arg s).1.reg b = s.reg b := by
  unfold raiseOnce
  rw [routeEvent_reg _ _ _ h0 h1 h2 h3, reg_of_regs (triggerOrders_regs _ _), setFlag_reg _ _ _ h]

/-- A raise writes no other register than those of EventReg. -/
theorem raiseArg_reg (src detail arg : Nat) (s : State) (b : Nat) (h : ¬ EventReg src b) : (raiseArg src detail arg s).reg b = s.reg b := by
  simp only [EventReg, not_or, not_exists, not_and] at h
  obtain ⟨h1, h2, h3, h4, h5, h6⟩ := h
  unfold raiseArg
  cases hr : raiseOnce src detail arg s with
  | mk t l =>
    have ht : t.reg b = s.reg b := by
      have := raiseOnce_reg src detail arg s b h1 h3 h4 h5 h6; rwa [hr] at this
    simp only
    split
    · exact ht
    · rw [raiseOnce_reg _ _ _ _ b h2 h3 h4 h5 h6, ht]

theorem raise_reg (src detail : Nat) (s : State) (b : Nat) (h : ¬ EventReg src b) : (raise src detail s).reg b = s.reg b :=
  raiseArg_reg _ _ _ _ _ h

theorem raise0_reg (src : Nat) (s : State) (b : Nat) (h : ¬ EventReg src b) : (raise0 src s).reg b = s.reg b :=
  raiseArg_reg _ _ _ _ _ h

/-! ### The canonical form -/

theorem setFlag_regsWf (src : Nat) (s : State) (h : s.regsWf = true) : (setFlag src s).regsWf = true := by
  unfold setFlag; split
  · exact h
  · exact State.regsWf_put _ _ _ h

theorem regsWf_of_regs {s t : State} (h : t.regs = s.regs) (hs : s.regsWf = true) : t.regsWf = true := by
  unfold State.regsWf at *; rw [h]; exact hs

theorem foldOver_regsWf {α : Type} (f : State → α → State) (h : ∀ s a, s.regsWf = true → (f s a).regsWf = true) :
    ∀ (l : List α) (s : State), s.regsWf = true → (foldOver f s l).regsWf = true :=
  foldOver_preserves (fun s => s.regsWf = true) f (fun s a hs => h s a hs)

theorem deliver_regsWf (r : EventRecord) (s : State) (h : s.regsWf = true) : (deliver r s).1.regsWf = true := by
  unfold deliver passRing State.wrapUp
  simp only
  refine foldOver_regsWf _ (fun s n hs => State.regsWf_put _ _ _ hs) _ _ ?_
  exact State.regsWf_put _ _ _ (State.regsWf_put _ _ _ (regsWf_of_regs (s := s) rfl h))

theorem routeEvent_regsWf (r : EventRecord) (s : State) (h : s.regsWf = true) : (routeEvent r s).1.regsWf = true := by
  unfold routeEvent
  split
  · exact deliver_regsWf r s h
  · split
    · cases hq : holdOffer 64 s.ev.latch r with
      | mk q m =>
        cases m
        · exact regsWf_of_regs (s := s) rfl h
        · exact State.regsWf_put _ _ _ (regsWf_of_regs (s := s) rfl h)
    · exact h

theorem raiseOnce_regsWf (src detail arg : Nat) (s : State) (h : s.regsWf = true) : (raiseOnce src detail arg s).1.regsWf = true := by
  unfold raiseOnce
  exact routeEvent_regsWf _ _ (regsWf_of_regs (triggerOrders_regs _ _) (setFlag_regsWf _ _ h))

/-- A raise keeps the register space canonical. -/
theorem raiseArg_regsWf (src detail arg : Nat) (s : State) (h : s.regsWf = true) : (raiseArg src detail arg s).regsWf = true := by
  unfold raiseArg
  cases hr : raiseOnce src detail arg s with
  | mk t l =>
    have ht : t.regsWf = true := by have := raiseOnce_regsWf src detail arg s h; rwa [hr] at this
    simp only
    split
    · exact ht
    · exact raiseOnce_regsWf _ _ _ _ ht

theorem raise_regsWf (src detail : Nat) (s : State) (h : s.regsWf = true) : (raise src detail s).regsWf = true := raiseArg_regsWf _ _ _ _ h

theorem raise0_regsWf (src : Nat) (s : State) (h : s.regsWf = true) : (raise0 src s).regsWf = true := raiseArg_regsWf _ _ _ _ h

end Sys2Proof.Machine
end

