-- ==== Sys2Proof/Tests/Slice0.lean ====
section
/-!
SUPPORT. Small tests: the checks of WellFormed refuse, and for every statement states and operands that meet its hypotheses.
-/

namespace Sys2Proof.Tests

open Sys2Proof Sys2Proof.Machine

set_option maxRecDepth 4000
set_option Elab.async false

/-- Some state with the command's instant reached meets a condition. -/
def Met (P : State → Prop) : Prop := ∃ t s, P (begin_ t s)

/-- Some request meets R110 for an opcode and, with its state, a condition. -/
def MetBy (op : Nat) (P : Request → State → Prop) : Prop := ∃ t p s, acceptable op p (begin_ t s) = true ∧ P p (begin_ t s)

theorem Met.of {P : State → Prop} (s : State) (h : P (begin_ 0 s)) : Met P := ⟨0, s, h⟩

/-- A session of level 3 with a host on the HOST port. -/
def sess : Session :=
  { num := 1, isOpen := true, level := 3, key := [1#8, 2#8, 3#8], hostNonce := [], moduleNonce := [], openBy := 0, h := 5, seen := 1,
    records := [], lastAuth := 10 * sec, via := .host 7#32 9#16, unlocked := [], evQueue := [], evLost := 0 }

/-- A terminus in service, 10 s after power-up, with that session. -/
def up : State :=
  { State.reset with
    now := 10 * sec, regs := [], role := { role := .terminus, joined := true }, die := { sigUp := true, yardUp := true, xoUp := true },
    pk := { sessions := [sess] } }

/-- The same as a station. -/
def stat : State := { up with role := { role := .station, joined := true } }

/-- The same as the relief terminus. -/
def rel : State := { up with role := { role := .relief, joined := true } }

/-- A request on that session, without its tag and trailer. -/
def plain (params : Bytes) (target : BitVec 8) : Request :=
  { via := .host 7#32 9#16, session := 1#16, target := target, sequence := 6#32, paramLen := BitVec.ofNat 16 params.length, auth := 0#64,
    params := params, crc := 0#32 }

/-- A request on that session, authentic and whole. -/
def req (op : Nat) (params : Bytes) (target : BitVec 8 := 0#8) : Request :=
  let p : Request := { plain params target with auth := BitVec.ofNat 64 (tagOf sess.key (requestBytes op (plain params target) 0)) }
  { p with crc := BitVec.ofNat 32 (crc32c (requestBytes op p p.auth.toNat)) }

/-- All that R110 asks but the right tag and trailer. -/
def fits (op : Nat) (p : Request) (s : State) : Bool :=
  match opTable op, findSession s p.session.toNat with
  | some info, some x =>
    transportOpen s p.via && !p.fragmented && p.paramLen.toNat == p.params.length && decide (p.paramLen.toNat ≤ 1400) && p.magic.toNat == 0x5A47 &&
      !foreignForward s p && p.version.toNat == 1 && !forwardedIn p && decide (2 < op) && x.isOpen && x.key == sess.key &&
      !(isRelief s && decide (p.session.toNat ≤ 12)) && newSequence x p && (heldOff s op p).isNone && decide (info.level ≤ x.level) &&
      placeOf s op info.bcast p == .here && info.lenOk p.params &&
      !mustQueue info (takeReserved op p s).1 p s && ((takeReserved op p s).1 || op == 0x0007 || !ringFull s p)
  | _, _ => false

theorem crcGood_req (op : Nat) (params : Bytes) (target : BitVec 8) : crcGood op (req op params target) = true := by
  have h := crc32c_lt (requestBytes op (req op params target) (req op params target).auth.toNat)
  simp only [crcGood, beq_iff_eq]
  exact (Nat.mod_eq_of_lt h).symm

theorem tag_req (op : Nat) (params : Bytes) (target : BitVec 8) :
    tagOf sess.key (requestBytes op (req op params target) 0) = (req op params target).auth.toNat :=
  (Nat.mod_eq_of_lt (tagOf_lt _ _)).symm

/-- Such a request passes R110: its tag and trailer are right by construction. -/
theorem acceptable_req (op : Nat) (params : Bytes) (target : BitVec 8) (s : State) (h : fits op (req op params target) s = true) :
    acceptable op (req op params target) s = true := by
  unfold fits at h
  unfold acceptable
  split at h
  · rename_i info x ho hx
    try simp only [ho, hx]
    simp only [Bool.and_eq_true] at h
    obtain ⟨⟨⟨⟨⟨⟨⟨⟨⟨⟨⟨⟨⟨⟨⟨⟨⟨⟨h1, h0⟩, h2⟩, h3⟩, h4⟩, h5⟩, h6⟩, h7⟩, h8⟩, h9⟩, h10⟩, h11⟩, h12⟩, h13⟩, h14⟩, h15⟩, h16⟩, h17⟩, h18⟩ := h
    have hk : x.key = sess.key := by simpa using h10
    have ht : tagOf x.key (requestBytes op (req op params target) 0) = (req op params target).auth.toNat := by rw [hk, tag_req]
    have hn : x.key.isEmpty = false := by rw [hk]; rfl
    simp only [authentic, wholeHere, crcGood_req, h0, h1, h2, h3, h4, h5, h6, h7, h8, h9, h11, h12, h13, h14, h15, h16, h17, h18, ht, hn,
      Bool.and_true, Bool.not_false, beq_self_eq_true]
  · cases h

theorem authentic_req (op : Nat) (params : Bytes) (target : BitVec 8) (s : State)
    (h : 2 < op ∧ transportOpen s (.host 7#32 9#16) = true ∧ (req op params target).paramLen.toNat = params.length ∧ params.length ≤ 1400 ∧
      foreignForward s (req op params target) = false ∧ (isRelief s && decide ((req op params target).session.toNat ≤ 12)) = false ∧
      newSequence sess (req op params target) = true ∧ (heldOff s op (req op params target)).isNone = true) :
    authentic op (req op params target) sess s = true := by
  obtain ⟨h1, h2, h3, h4, h5, h6, h7, h8⟩ := h
  have ht := tag_req op params target
  have hv : (req op params target).via = .host 7#32 9#16 := rfl
  have hp : (req op params target).params = params := rfl
  have hm : ((req op params target).magic.toNat == 0x5A47) = true := rfl
  have he : ((req op params target).version.toNat == 1) = true := rfl
  have hw : forwardedIn (req op params target) = false := rfl
  have hf : (req op params target).fragmented = false := rfl
  have ho : sess.isOpen = true := rfl
  have hn : sess.key.isEmpty = false := rfl
  simp only [authentic, wholeHere, crcGood_req, h1, h2, h3, h4, h5, h6, h7, h8, ht, hv, hp, hm, he, hw, hf, ho, hn, Bool.and_true, Bool.not_false,
    beq_self_eq_true, decide_true]

theorem MetBy.of {op : Nat} {P : Request → State → Prop} (params : Bytes) (target : BitVec 8) (s : State)
    (h : fits op (req op params target) (begin_ 0 s) = true ∧ P (req op params target) (begin_ 0 s)) : MetBy op P :=
  ⟨0, req op params target, s, acceptable_req _ _ _ _ h.1, h.2⟩

/-- A request without a session, as HELLO and SESSION_OPEN are. -/
def bare (op sess : Nat) (params : Bytes) (target : BitVec 8 := 0#8) : Request :=
  let p : Request := { plain params target with session := BitVec.ofNat 16 sess }
  { p with crc := BitVec.ofNat 32 (crc32c (requestBytes op p 0)) }

/-- A request of that session that waits. -/
def waits (op : Nat) (job : Job) (params : Bytes := []) : Waiting :=
  { req := req op params, opcode := op, job := job, arrived := 9 * sec, interimAt := 10 * sec, timeoutAt := 10 * sec, orphan := false }
/-- The module without power. -/
def dark : State := { up with pwr := { up.pwr with power := .off }, die := { up.die with sigUp := false, yardUp := false } }
def aField : Field := { id := 5, lat := 1, lon := 2, hgt := 3, name := [], genF := 1, data := {} }
def aKey : ConsistKey := { consist := 9, keyId := 1, key := leBytes 16 0x0F0E0D0C0B0A09080706050403020100 }
def aFault : FaultRec := { seq := 1, opsec := 2, pcyc := 3, cls := 4, type := 5, source := 6, detail := 7, repeats := 1, arg0 := 8, arg1 := 9, arg2 := 10 }
/-- Bytes at an offset, as the pairs of a container whose fill is 0. -/
def bytesAt (o : Nat) (b : Bytes) : List (Nat × Byte) := (b.zipIdx.map (fun x => (o + x.2, x.1))).filter (fun x => x.2 != 0#8)

/-- The directory and the data of sections from a slot and an offset on: type, instance, length, and pieces of data. -/
def layOut : Nat → Nat → List (Nat × Nat × Nat × List (Nat × Bytes)) → List (Nat × Byte) × List (Nat × Byte) × Nat
  | _, off, [] => ([], [], off)
  | slot, off, (ty, inst, len, ps) :: r =>
    let x := layOut (slot + 1) (off + len) r
    (bytesAt (32 + 16 * slot) (leBytes 1 ty ++ leBytes 1 inst ++ leBytes 2 0 ++ leBytes 4 off ++ leBytes 4 len) ++ x.1,
      ps.flatMap (fun p => bytesAt (off + p.1) p.2) ++ x.2.1, x.2.2)

/-- A container with these sections. -/
def setOf (l : List (Nat × Nat × Nat × List (Nat × Bytes))) : Container :=
  let x := layOut 0 (32 + 16 * l.length) l
  { total := x.2.2, fill := 0#8, data := bytesAt 10 (leBytes 2 l.length) ++ x.1 ++ x.2.1 }

/-- A gain table that R396 finds valid. -/
def goodGains : Bytes :=
  List.replicate 12 0#8 ++ [1#8] ++ List.replicate 759 0#8 ++ [1#8] ++ List.replicate 27 0#8 ++ [2#8] ++ List.replicate 63 0#8

/-- A running set with function 47, whose FUNC_ID is 7, AUTO allowed, MIN 0, MAX 100. -/
def fnSet : Container := setOf [(6, 0, 6144, [(47 * 128, leBytes 2 7 ++ [0#8, 2#8] ++ List.replicate 20 0#8 ++ leBytes 4 100)])]
def gainSet : Container := setOf [(4, 3, 864, [(0, goodGains)])]
def fnState : State := { up with sets := { running := some fnSet } }
def setBytes : Container := setOf [(1, 0, 65536, [])]
/-- A state with something in every block that status requests read. -/
def messy : State :=
  let s := (((up.put (F.CLE_LOOP_OUT_OUT 31) 77).put F.PWR_LEVEL_CUR 0).put F.CLK_GATE_STATE_STATE 3).put (F.DMA_CH_DONE_DESCS 31) 5
  { s with ev := { ring := [aFault] }, devOff := 5000000000 }

/-- A set with room for a model in instance 63, and its section. -/
def modelSet : Container := setOf [(0x11, 63, 256, [])]
def modelSec : Section := { slot := 0, type := 0x11, inst := 63, flags := 0, offset := 48, length := 256, scrc := 0 }

def aModel : Bytes :=
  leBytes 2 0x5A4D ++ [0#8, 1#8] ++ leBytes 4 1 ++ leBytes 4 100 ++ leBytes 4 64 ++ List.replicate 48 0#8
def openedSet : Container := (openModel modelSet 63 0 (64 + mLen aModel)).getD modelSet
def openedSec : Section := (findSection openedSet 0x11 63).getD modelSec

/-- The header of a Yard image and of a Signal image, bodies of 6 bytes, version 01020304. -/
def goodHeader : Bytes :=
  leBytes 2 0x5A49 ++ [1#8, 1#8] ++ leBytes 2 0x6401 ++ [0#8, 0#8] ++ leBytes 4 0x01020304 ++ List.replicate 12 0#8 ++ leBytes 4 6 ++
    List.replicate 100 0#8
def sigHeader : Bytes := goodHeader.set 3 0#8

def loadingState : State := setSlot 1 1 uLoading { header := goodHeader } up
def loadedState : State := setSlot 1 1 uLoaded { header := goodHeader } up
def verifiedState : State := setSlot 1 1 uVerified { header := goodHeader } up
def trialState : State :=
  let s := ((setSlot 0 1 uVerified { header := sigHeader } up).put (F.UPD_SLOT_TRIAL 0) 2).put (F.UPD_SLOT_HEALTHY 0) 1
  { s with upd := { s.upd with ran := [some 1, some 0] } }

/-- Guidance along a crop edge, and a machine that may engage on it. -/
def edgeGuide : Guidance := { mode := 3, side := 0, lat := 0, lon := 0, hgt := 0, passW := 0, shift := 0, points := [] }
def anEdge : EdgeLine := { east := some ⟨0, 0⟩, north := some ⟨0, 0⟩, dirE := some ⟨1, 0⟩, dirN := some ⟨0, 0⟩ }
def edgeBase : BaseAt :=
  { piece := { east := some ⟨0, 0⟩, north := some ⟨0, 0⟩, dirE := some ⟨1, 0⟩, dirN := some ⟨0, 0⟩, len := some ⟨0, 0⟩ }, kappa := some ⟨0, 0⟩ }
def edgeState : State :=
  let s := ((((up.setReg Reg.GNS_GUIDE_ID 9).put F.GNS_STATUS_FIX 5).put F.GNS_STATUS_HEADING_VALID 1).put F.GNS_VEL_SPEED 2000).put
    F.GNS_STEER_SPD_SPEED_MAX 200
  { s with nav := { guide := some edgeGuide, enabled := true, edge := some anEdge, edgeFit := true } }

/-- A module at the start of its straps' settling, both images at hand. -/
def cold : State := { State.reset with now := 5 * ms, pwr := { State.reset.pwr with power := .up } }

/-- A session that awaits its second phase, a transfer half received, a reply forwarded back, an arming reply and its throw. -/
def pend : Session := { sess with isOpen := false, openBy := 10 * sec }
def rxIso : IsoTp := { peer := 5, total := 20, data := [], nextSn := 1, deadline := some (10 * sec) }
def okReply : Reply :=
  let r : Reply := { version := 1, flags := 1, session := 1, target := 4, origin := 4, sequence := 6, opcode := 5, status := 0,
                     admitted := 1, qpos := 0, wait := 0, result := [1#8], auth := 0, crc := 0 }
  { r with crc := crc32c (replyBody r 0) }
def armReply : Reply := let r := { okReply with session := 0, opcode := 0x0202, sequence := 40, result := [] }; { r with crc := crc32c (replyBody r 0) }
def aThrow : Throw := { cycle := 40, crc := 77, armedOk := [0], committed := none, failed := [], asked := true }
def evSess : Session :=
  { sess with evQueue := [({ source := 5, origin := 0, detail := 0, stamp := 7, merged := 0, arg := 0 }, 9 * sec)], evLost := 2 }

/-- A station with both ports open; the terminus and the station with a timetable: entry 1 a command entry of the terminus for all,
entry 2 a RESERVED entry of module 9 for all. -/
def openPorts (s : State) : State := ((s.put F.LIN_STATUS_E_UP 1).put F.LIN_STATUS_W_UP 1).put F.LIN_CFG_RES_END 0
def stPorts : State := openPorts stat
def lineSet : Container :=
  setOf [(1, 0, 48, [(0, leBytes 1 0x40 ++ [0#8, 0#8, 0#8, 0#8, 0#8, 1#8, 3#8] ++ List.replicate 8 0xFF#8),
    (16, leBytes 1 0x40 ++ [1#8, 0#8, 0#8, 0#8, 0#8, 1#8, 3#8] ++ List.replicate 8 0xFF#8),
    (32, leBytes 1 9 ++ [0#8, 0#8, 0#8, 0#8, 0#8, 1#8, 3#8] ++ List.replicate 8 0xFF#8)])]
/-- The same set, whose entry 1 leaves westward later than eastward. -/
def splitSet : Container :=
  setOf [(1, 0, 48, [(16, leBytes 1 0x40 ++ [1#8, 0#8, 0#8, 0#8, 0x10#8, 1#8, 3#8] ++ List.replicate 8 0xFF#8)])]
def withSet (s : State) : State :=
  let s := (((openPorts s).put F.CFG_STATE_RUNNING 1).put F.LIN_STATUS_IN_TIMETABLE 1).put F.LIN_CYCLE_CYCLE 10000
  { s with sets := { running := some lineSet } }
def lineOn : State := withSet up
def splitOn : State := { lineOn with sets := { running := some splitSet } }
def lineSt : State := withSet stat
def cmdSlot : Slot := { entry := 1, sender := 0x40, cls := 1, offE := 0, offW := 0, len := 1, roles := 3, dest := 2 ^ 64 - 1 }
def splitSlot : Slot := { cmdSlot with offW := 0x1000 }
def dataSlot : Slot := { entry := 2, sender := 9, cls := 0, offE := 0, offW := 0, len := 1, roles := 3, dest := 2 ^ 64 - 1 }
def lineMember : Member :=
  { num := 9, uid := 77, posE := 1, result := 0, startCycle := 0, relief := false, absent := false, silent := 0 }

/-- A step of a running order, and sets with order 15: its last steps, or its trigger by PERIOD. -/
def stepBytes (op onFail time addr mask value : Nat) : Bytes :=
  leBytes 1 op ++ leBytes 1 onFail ++ leBytes 2 time ++ leBytes 4 addr ++ leBytes 4 mask ++ leBytes 4 value
def orderSet (b : Bytes) : Container := setOf [(2, 15, 1024, [(16 * 62, b)])]

/-- The terminus with running order 15 at a step, its last step being these bytes. -/
def orderAt (k : Nat) (b : Bytes) : State :=
  { up with sets := { running := some (orderSet b), orders := setNth State.reset.sets.orders 15 { active := true, step := k } } }
def trigSet : Container := setOf [(2, 15, 1024, [(0, stepBytes 0x10 0 0 5 0 0)])]
/-- A verification that waits. -/
def armReq : Request :=
  let p : Request := { via := .line 0x40#7 (some 1#12), flags := 4#8, session := 0#16, target := 0xFF#8, sequence := 10008#32,
                       paramLen := 8#16, auth := 2#64, params := leBytes 4 77 ++ leBytes 4 10008, crc := 0#32 }
  { p with crc := BitVec.ofNat 32 (crc32c (requestBytes 0x0202 p p.auth.toNat)) }

/-- Camera 3 on slot 15, images of 2 × 2; an invocation; a fusion frame; a setting engine with a step to make. -/
def camState : State :=
  (((up.put (F.FUS_STR_CFG_KIND 15) 1).put (F.FUS_STR_CFG_INDEX 15) 3).put (F.FUS_PRJ_IMG_IMG_H 15) 2).put (F.FUS_PRJ_IMG_IMG_W 15) 2
def anInvocation : Invocation := { input := { stamp := 5, tensor := [], seen := [] }, graph := [], pix := [] }
def modelSet0 : Container := setOf [(0x11, 0, 256, [])]
def aFrame : FusionFrame := { tb := 9 * sec, lat := 0, lon := 0, hgt := 0, hdg := 0, tiles := [], states := [], fed := [] }
def stepSet : Container :=
  setOf [(6, 0, 6144, [(47 * 128, leBytes 2 7 ++ [0#8, 2#8] ++ List.replicate 20 0#8 ++ leBytes 4 100)]), (0x11, 0, 256, [])]
def stepState : State :=
  let s := ((((up.put F.SET_CFG_SET_EN 1).put F.SET_CFG_STEP_PERIOD 5).put (F.SET_FN_STATE_MODE 47) 2).put F.FUS_STATUS_GRID_VALID 1).put
    (F.SET_FN_STATE_BAR_LEFT 47) 4
  { s with sets := { running := some stepSet } }

/-- A solution, a dump of channel 127, a propagated state. -/
def aFix : GnssFix :=
  { used := [], system := 0#2, gnssTime := 0, offsets := [], orbits := [(1, 5)], fix := 4#3, lat := -5, lon := 7, hgt := 9, baseline := 0,
    azimuth := 90000, speed := 3000, leap := some 18 }
def aDump : ChannelDump :=
  { chan := 127, sig := 9#4, sv := 30#8, antB := true, state := 3#3, cn0 := 44#8, slip := true, doppler := -1500, corr := [1, 2, 3, 4, 5],
    codePhase := 6#32, carrierPhase := 7#32, frequency := 8 }
def aPoint : NavPoint := { lat := -5, lon := 7, hgt := 9, heading := 90000, speed := 2000 }
def edgeRun : State := { (edgeState.put F.GNS_CFG_EN 1).put F.PWR_LEVEL_CUR 3 with nav := edgeState.nav }
/-- The same after a takeover: the errors are to be blended, or have been since an instant. -/
def blendDueRun : State := { edgeRun with nav := { edgeRun.nav with blendDue := true } }
def blendRun : State := { edgeRun with nav := { edgeRun.nav with blend := some (9 * sec, some ⟨1, 0⟩, some ⟨1, -4⟩) } }
/-- The same engaged, with an edge whose place is lost: its error is not finite. -/
def offRun : State :=
  { edgeRun.put F.GNS_STEER_STATUS_ENGAGED 1 with
    nav := { edgeRun.nav with edge := some { anEdge with north := none } } }
def edgeErrors (s : State) : F64 × F64 × F64 :=
  (errorsNow (steerShifted aPoint edgeGuide (begin_ 0 s)) edgeGuide).getD (some ⟨0, 0⟩, some ⟨0, 0⟩, some ⟨0, 0⟩)

theorem edgeErrors_eq (s : State) (h : (errorsNow (steerShifted aPoint edgeGuide (begin_ 0 s)) edgeGuide).isSome = true) :
    errorsNow (steerShifted aPoint edgeGuide (begin_ 0 s)) edgeGuide = some ((edgeErrors s).1, (edgeErrors s).2.1, (edgeErrors s).2.2) := by
  obtain ⟨e, he⟩ := Option.isSome_iff_exists.mp h
  simp only [edgeErrors, he, Option.getD_some]

/-- A difference from or to a value that is not finite is not finite, and a product with one neither. -/
theorem gSub_none (a : F64) : gSub a none = none := by cases a <;> rfl
theorem none_gSub (a : F64) : gSub none a = none := rfl
theorem none_gMul (a : F64) : gMul none a = none := rfl

/-- An edge without a finite place gives no finite lateral error, and one that is not finite lies beyond every limit. -/
theorem errors_lost {s : State} {g : Guidance} {e : EdgeLine} {er : F64 × F64 × F64} (hm : g.mode = 3) (he : s.nav.edge = some e)
    (hn : e.north = none) (h : errorsNow s g = some er) (cm : Nat) : offBy er.1 cm = true := by
  have h' : er.1 = none := by
    simp only [errorsNow, baseAt, hm, he, if_true, steerErrors, leftOf, hn, gSub_none, none_gSub, none_gMul, bne_self_eq_false,
      Bool.false_and, Option.some.injEq] at h
    rw [← h]
    rfl
  rw [h']
  rfl

/-- A frame of a correction source; messages of observations of L1 C/A, of none, of an ephemeris and of an unknown number. -/
def rtcmOf (msg : Bytes) : Bytes :=
  let h := [0xD3#8, 0#8, BitVec.ofNat 8 msg.length] ++ msg
  h ++ [BitVec.ofNat 8 (crc24q h / 65536), BitVec.ofNat 8 (crc24q h / 256), BitVec.ofNat 8 (crc24q h)]
def obsMsg (mask : Byte) : Bytes := [0x43#8, 0x20#8, 5#8] ++ List.replicate 14 0#8 ++ [mask] ++ List.replicate 4 0#8
def ephMsg : Bytes := [0x3F#8, 0xB1#8, 0x40#8]
def oddMsg : Bytes := [0xFF#8, 0xF0#8]
def feedOf (s : State) (b : Bytes) : State := { s with nav := { s.nav with sources := [{}, {}, { buffer := 7#8 :: b ++ [9#8] }] } }

/-- A yield sample, a tile; a member, a place and a rendezvous of member 3 with member 4; a datagram opened in consist 9. -/
def aSample : YieldSample :=
  { at_ := 0, flow := some ⟨5, 0⟩, moist := some ⟨1400, 0⟩, lat := 0, lon := 0, hgt := 0, hdg := 0, fix := 4, sect := 1, headland := false,
    assigned := false }
def aTile : YieldTile := { te := 0, tn := 0, first := 1, last := 1, gen := 1, cells := [] }
def aMate : ConsistMember :=
  { num := 4, machine := 55, kind := 1, state := 0, fix := 4, tank := 0, lat := 0, lon := 0, at_ := 5 * sec, absent := false }
def aPlace : RdvPlace := { time := 1, lat := 2, lon := 3, heading := 4, speed := 5, refX := 6, refY := 7 }
def aRdv : Rdv :=
  { id := 8, side := 1, requester := true, target := 4, firstAt := 10 * sec - 1, sentAt := 9 * sec, offers := [], trackAt := 7 * sec,
    trackSent := 0, place := none }

/-- A datagram of machine 77, its first, sealed in consist 9; and that it is heard by a module that holds the key. -/
def sealed (ty m : Nat) (p : Bytes) : Bytes := sealDatagram aKey.key ty 9 m aKey.keyId 77 1 p

theorem heard {ty m : Nat} {p : Bytes} {s : State}
    (h : (consistOn s = true ∧ cstState s ≠ cstOut ∧ consistId s = 9 ∧ s.cst.keys.find? (fun x => x.keyId == aKey.keyId) = some aKey ∧
        seqFresh s 77 1 = true) ∧
      let h := consistHeader ty 9 m aKey.keyId p.length 77 1
      fieldAt h 0 2 = 0x5A43 ∧ fieldAt h 2 1 = 1 ∧ fieldAt h 3 1 = ty ∧ fieldAt h 4 4 = 9 ∧ fieldAt h 8 1 = m ∧
        fieldAt h 9 1 = aKey.keyId ∧ fieldAt h 10 2 = p.length ∧ fieldAt h 12 8 = 77 ∧ fieldAt h 20 8 = 1) :
    Heard ty (sealed ty m p) { type := ty, member := m, sender := 77, payload := p } s := by
  obtain ⟨⟨h1, h2, h3, h4, h5⟩, hh⟩ := h
  refine ⟨h1, h2, ?_, ?_⟩
  · rw [sealed, sealDatagram, List.append_assoc, fieldAt_append _ _ _ _ (by rw [consistHeader_length]; omega)]
    exact hh.2.2.1
  · have := open_seal ty m 77 1 aKey p s (by rw [h3]; exact hh) h4 h5
    rw [h3] at this
    exact this h2

/-- A linear copy of 128 bytes from the grid store to LPDDR; its ring entry; a CAN frame. -/
def aDesc : Descriptor :=
  { pattern := 0#2, event := false, src := 0x1000#64, dst := 0x0100000000#64, srcLen := 128#32, srcStride := 0#32, dstLen := 128#32,
    dstStride := 0#32, srcCount := 1#16, dstCount := 1#16, indexCount := 0#16, req := 0#8, index := 0#64, tag := 5#32 }
def anEntry : RingEntry := { d := aDesc, at_ := 9 * sec, ahead := 0, wait := 0, again := false }
def aCan : CanFrame := { id := 0x123, ide := false, fdf := false, brs := false, remote := false, data := [1#8, 2#8] }

/-- The terminus with a set in force. -/
def upSet : State := { up with sets := { running := some lineSet } }

/-- The terminus with the registers of a module as delivered. -/
def upr : State := { up with regs := State.reset.regs }

/-- A terminus asked for a run to the images in its target slots. -/
def newHeader : Bytes := (imageSlot up 1 0).header.set 8 0x77#8
def runState : State :=
  let s := (setSlot 1 1 uVerified { imageSlot up 1 0 with header := newHeader } upr).put F.UPD_RUN_PARKED 1
  { s with upd := { s.upd with asked := [(runningVersion upr 0, imVersion newHeader)] } }

/-- A request that waits behind another module's. -/
def cancelled : Waiting := { waits 0x0202 .queued with req := req 0x0202 [] 9#8 }

/-- Requests for HELLO, the two phases of SESSION_OPEN, and a level being raised. -/
def hello : Request := bare 0x0001 0 [] 0xFD#8
def open1 : Request := bare 0x0002 0 ([1#8, 3#8, 0#8, 0#8] ++ List.replicate 16 7#8)
def pend2 : Session := { pend with openBy := 10 * sec + 1 }
def pendUp : State := { up with pk := { up.pk with sessions := [pend2] } }
def open2 : Request := bare 0x0002 1 ([2#8, 3#8, 0#8, 0#8] ++ proofOf labelHost pendUp pend2)

theorem wholeHere_bare (op n : Nat) (params : Bytes) (target : BitVec 8) (s : State) (hl : params.length ≤ 1400)
    (h : transportOpen s (.host 7#32 9#16) = true ∧ foreignForward s (bare op n params target) = false) :
    wholeHere op (bare op n params target) s = true := by
  have hc : crcGood op (bare op n params target) = true := by
    simp only [crcGood, beq_iff_eq]
    exact (Nat.mod_eq_of_lt (crc32c_lt _)).symm
  have hp : (bare op n params target).paramLen.toNat = params.length := Nat.mod_eq_of_lt (by omega)
  have hq : (bare op n params target).params = params := rfl
  have hm : ((bare op n params target).magic.toNat == 0x5A47) = true := rfl
  have hv : (bare op n params target).via = .host 7#32 9#16 := rfl
  have hf : (bare op n params target).fragmented = false := rfl
  simp only [wholeHere, hc, hp, hq, hm, hv, hf, h.1, h.2, hl, Bool.and_true, Bool.not_false, beq_self_eq_true, decide_true]

theorem open2_length : open2.params.length = 36 := by
  show ([2#8, 3#8, 0#8, 0#8] ++ proofOf labelHost pendUp pend2).length = 36
  simp [proofOf]

theorem open2_proof : (open2.params.drop 4).take 32 = proofOf labelHost pendUp pend2 := by
  show (proofOf labelHost pendUp pend2).take 32 = _
  exact List.take_of_length_le (by simp [proofOf])

def raisingState : State :=
  { (((up.put F.PWR_LEVEL_CUR 6).put F.PWR_LEVEL_REQ 7).put F.PWR_LEVEL_CAP 7).put F.PWR_LEVEL_CEIL 7 with
    lvl := { raising := some (7, 9 * sec) } }

/-- An outcome is a next state. -/
def isNext : Host.Outcome State Fault Refusal → Bool
  | .next _ => true
  | _ => false

theorem ofNext {x : Host.Outcome State Fault Refusal} (h : isNext x = true) : ∃ u, x = .next u := by
  cases x with
  | next u => exact ⟨u, rfl⟩
  | fault f => cases h
  | refused r => cases h

/-- Some command of a kind runs in some sound state. -/
def Runs (kind : Instr → Bool) : Prop := ∃ c s u, s.sound = true ∧ exec c s = .next u ∧ kind c = true

theorem Runs.of {kind : Instr → Bool} (c : Instr) (s : State) (h : s.sound = true ∧ isNext (exec c s) = true ∧ kind c = true) : Runs kind :=
  let ⟨u, e⟩ := ofNext h.2.1
  ⟨c, s, u, h.1, e, h.2.2⟩

/-- Member 0 of consist 9 at its instant, and STATE of its heartbeat with a width. -/
def beatRun : State :=
  { ((up.put F.CST_CFG_EN 1).put F.CST_STATUS_STATE 2).setReg Reg.CST_CONSIST 9 with
    cst := { keys := [aKey], seqNext := 5, seqEnd := 5, seqMark := 70 } }
def beatState (b : State) (w : Nat) : Nat :=
  b2n (decide (0 < w)) + 2 * b2n (Config.unloading b.drawn) + 4 * b2n (engaged b) + 8 * b.get F.CST_CFG_RELAY_TX +
    16 * b.get F.CST_RDV_AVAILABLE

/-! ### Ill-formed commands are refused -/

/-- Parameters longer than a datagram; the longest pass. -/
theorem test_wf_length (b c : Bytes) (h : b.length = 65508) (k : c.length = 65507) :
    Instr.wf (.echo 0 (plain b 0#8)) = false ∧ Instr.wf (.echo 0 (plain c 0#8)) = true ∧
    Instr.wf (.armingRequest 0 (plain b 0#8)) = false ∧ Instr.wf (.lidarDatagram 0 6 b) = false ∧ Instr.wf (.leaveReceive 0 { bytes := b }) = false := by
  have hb : decide (b.length < 65508) = false := by rw [h]; rfl
  have hc : decide (c.length < 65508) = true := by rw [k]; rfl
  exact ⟨hb, hc, hb, hb, hb⟩

/-- Replies and reports: a result longer than a packet, a reply of another module than 0–63, a report of no module and a short one. -/
theorem test_wf_packets :
    Instr.wf (.forwardedReply 0 3 { okReply with result := List.replicate 1401 0#8 }) = false ∧
    Instr.wf (.forwardedReply 0 64 okReply) = false ∧
    Instr.wf (.runStep 0 [{ num := 64, status := List.replicate 48 0#8, hold := 0, formatSig := true, formatYard := true, major := true }]) = false ∧
    Instr.wf (.runStep 0 [{ num := 63, status := [], hold := 0, formatSig := true, formatYard := true, major := true }]) = false := by decide +kernel

/-- A mirror without setting functions. -/
def smallMirror : Mirror :=
  { grids := true, yardFw := 0, sessions := [], throws := [], regs := [], nav := {}, fn := { fns := [] }, frameNo := 0, tFrame := 0, cells := [], yld := {},
    cst := {}, members := [], run := none }

/-- Frames of the Line: no block in the reserved window, more than 24 blocks, a payload of another length, a holder above 63, a mirror of
another size, an entry above 4,095. -/
theorem test_wf_frames :
    Instr.wf (.queuedFrameReceive 0 true (reservedFrame lineOn 1 9 2 0 true [])) = false ∧
    Instr.wf (.beFrameReceive 0 true { beFrame lineOn 0x15 9 (List.replicate 1600 0#8) with len := 25#8 }) = false ∧
    Instr.wf (.beFrameReceive 0 true { beFrame lineOn 0x15 9 [] with payload := [1#8] }) = false ∧
    Instr.wf (.cycleStartReceive 0 true (reservedFrame lineOn 1 9 2 1 true []) 64) = false ∧
    Instr.wf (.reservedFrameReceive 0 true (reservedFrame lineOn 1 9 2 1 true []) []
      (some smallMirror)) = false ∧
    Instr.wf (.entrySend 0 4096) = false ∧ Instr.wf (.entryMissLimit 0 4096) = false ∧ Instr.wf (.stationAbsent 0 64) = false := by
  decide +kernel

/-- CAN frames and controllers, readings of inputs, and what the further rows name. -/
theorem test_wf_plant :
    Instr.wf (.canFrameReceive 0 0 { aCan with id := 2048 }) = false ∧
    Instr.wf (.canFrameReceive 0 0 { aCan with ide := true, id := 536870912 }) = false ∧
    Instr.wf (.canFrameReceive 0 0 { aCan with data := List.replicate 9 0#8 }) = false ∧
    Instr.wf (.canFrameReceive 0 0 { aCan with fdf := true, data := List.replicate 65 0#8 }) = false ∧
    Instr.wf (.canFrameReceive 0 4 aCan) = false ∧ Instr.wf (.canFrameSent 0 4) = false ∧ Instr.wf (.busOn 0 4) = false ∧
    Instr.wf (.canWake 0 4) = false ∧ Instr.wf (.txError 0 0 256) = false ∧ Instr.wf (.messageDue 0 32) = false ∧
    Instr.wf (.rxTimeout 0 32) = false ∧ Instr.wf (.inputSample 0 (.analogue 16 0)) = false ∧
    Instr.wf (.inputSample 0 (.frequency 8 0)) = false ∧ Instr.wf (.inputSample 0 (.acoustic 8 0)) = false ∧
    Instr.wf (.camLimit 0 4) = false ∧ Instr.wf (.cameraFrame 0 4 0 0 0 { pixels := .raw10 [] }) = false ∧ Instr.wf (.wake 0 2) = false ∧
    Instr.wf (.currentMeasure 0 []) = false := by
  decide +kernel

/-- Numbers of channels, loops, functions, streams, orders, gates, sessions, members, dies and entries above their last. -/
theorem test_wf_numbers :
    Instr.wf (.retry 0 32 0) = false ∧ Instr.wf (.loopLossAction 0 32) = false ∧ Instr.wf (.settlingEnd 0 48) = false ∧
    Instr.wf (.streamLost 0 20) = false ∧ Instr.wf (.directBlock 0 16 []) = false ∧ Instr.wf (.orderStep 0 16) = false ∧
    Instr.wf (.gateOpen 0 12) = false ∧ Instr.wf (.eventSend 0 0) = false ∧ Instr.wf (.eventSend 0 17) = false ∧
    Instr.wf (.memberLost 0 32) = false ∧ Instr.wf (.confirmTimeout 0 2) = false ∧ Instr.wf (.hmapWrite 0 64 0) = false ∧
    Instr.wf (.descResubmit 0 32) = false ∧ Instr.wf (.streamUnitSend 0 4) = false ∧ Instr.wf (.rtcmFrame 0 4) = false ∧
    Instr.wf (.correlatorDump 0 [{ aDump with chan := 128 }]) = false ∧ Instr.wf (.correlatorDump 0 [{ aDump with corr := [] }]) = false ∧
    Instr.wf (.acquisitionDone 0 0 16 0 false false false 0) = false ∧ Instr.wf (.acquisitionDone 0 0 0 256 false false false 0) = false ∧
    Instr.wf (.crossoverValueSend 0 [64]) = false ∧ Instr.wf (.histogramSecond 0 [(64, 1)]) = false ∧
    Instr.wf (.faceTempRead 0 0 0 65536) = false := by
  decide +kernel

/-! ### Published values of the checks and the cryptography -/

/-- The digits 1 to 9 in ASCII, the string over which check values of CRCs are published. -/
def nineDigits : Bytes := [0x31#8, 0x32#8, 0x33#8, 0x34#8, 0x35#8, 0x36#8, 0x37#8, 0x38#8, 0x39#8]

theorem test_crc32c : crc32c nineDigits = 0xE3069283 := by decide +kernel
theorem test_crc32 : crc32 nineDigits = 0xCBF43926 := by decide +kernel

/-- SHA-256 of "abc" (FIPS 180-4). -/
theorem test_sha256 : (sha256 [0x61#8, 0x62#8, 0x63#8]).take 8 = beBytes 8 0xBA7816BF8F01CFEA := by decide +kernel

/-- The example of AES-128 in FIPS 197. -/
theorem test_aes128 : aes128 (beBytes 16 0x000102030405060708090A0B0C0D0E0F) (beBytes 16 0x00112233445566778899AABBCCDDEEFF) =
    beBytes 16 0x69C4E0D86A7B0430D8CDB78070B4C55A := by decide +kernel

/-- Test case 2 of GCM: one block of zeros under a key and a nonce of zeros. -/
theorem test_gcm : gcmTag (List.replicate 16 0#8) (List.replicate 12 0#8) [] (gcmText (List.replicate 16 0#8) (List.replicate 12 0#8)
    (List.replicate 16 0#8)) = beBytes 16 0xAB6E47D42CEC13BDF53A67B21257BDDF := by decide +kernel

/-! ### Worked examples of the manual -/

/-- The gain table of the header-height loop (07_control_engine.md, The table). -/
def headerGains : GainTable :=
  let e := fun a b c : Nat => leBytes 4 a ++ leBytes 4 b ++ leBytes 4 c
  e 0xFF380000 0x00400000 0 ++ e 0xFFCE0000 0x00400000 0x00800000 ++ e 0xFFFB0000 0x0019999A 0x01000000 ++ e 0 0x000CCCCD 0x01000000 ++
    e 0x00050000 0x00266666 0x01000000 ++ e 0x00320000 0x00666666 0x00800000 ++ e 0x00C80000 0x00666666 0 ++
    List.replicate (12 * 57) 0#8 ++ e 0xFF9C0000 0x00640000 0x03E80000 ++ e 0xFFE20000 0x001E0000 0 ++ e 0 0 0x207 ++
    List.replicate 60 0#8

/-- Its one sample: the gains, y, r, and the duty that the sink gets (07_control_engine.md, One sample). -/
theorem test_loop_sample : gainValid headerGains = true ∧ lookupGains headerGains 630320 = (2947003, 15916373) ∧
    (let r := controlLaw headerGains 6554 1500 0 65536 40000 false 10737418240 265421 33222 620
     r.y = 40002000 ∧ r.r = 40632320 ∧ r.sat = false ∧ roundDiv (r.u * 17179869) 4294967296 + 32768 = 33869) := by decide +kernel

/-- The left centre camera sees the cell (80, 30) in feature pixel (83, 73), and a point off its image not at all
(05_sensor_fusion.md, One cell). -/
theorem test_projection :
    (let s := ((((((State.reset.put (F.FUS_PRJ_TX_TX 0) 32000).put (F.FUS_PRJ_TY_TY 0) 6000).put (F.FUS_PRJ_TZ_TZ 0) 24000).put
        (F.FUS_PRJ_QW_QW 0) 379625062).puts (F.FUS_PRJ_QX_QX 0) (-657529896)).put (F.FUS_PRJ_QY_QY 0) 657529896).puts (F.FUS_PRJ_QZ_QZ 0)
        (-379625062)
     let s := (((((s.put (F.FUS_PRJ_FX_FX 0) 91750400).put (F.FUS_PRJ_FY_FY 0) 91750400).put (F.FUS_PRJ_CX_CX 0) 62914560).put
        (F.FUS_PRJ_CY_CY 0) 35389440).puts (F.FUS_PRJ_K1_K1 0) (-32212255)).put (F.FUS_PRJ_K2_K2 0) 8053064
     let s := s.put (F.FUS_PRJ_FEAT_STRIDE_LOG2 0) 3
     projectPoint s 0 70500 15500 0 240 135 = some (83, 73) ∧ projectPoint s 0 72000 48000 0 240 135 = none) := by decide +kernel

/-- Its tiles: 96 of them, of which tile 356 is the one at index 92, with cell 5,840 as its ninth (05_sensor_fusion.md). -/
theorem test_tiles :
    (let s := (((State.reset.put (F.FUS_STR_WIN_X0 0) 48).put (F.FUS_STR_WIN_W 0) 48).put (F.FUS_STR_WIN_Y0 0) 0).put (F.FUS_STR_WIN_H 0) 32
     (tilePositions s 0).length = 96 ∧ nth (tilePositions s 0) 92 (0, 0) = (356, 16) ∧ nth (tileCells 0 356 16) 8 0 = 5840) := by
  decide +kernel

/-- The inrush thresholds of H2 and H3 (08_load_channels.md, the work-light feed). -/
theorem test_inrush :
    (let s := ((State.reset.put (F.LSW_CH_CFG_OC_THR 2) 250).put (F.LSW_CH_CFG_INRUSH_MULT 2) 4).put (F.LSW_CH_STAT_INRUSH 2) 1
     let s := ((s.put (F.LSW_CH_CFG_OC_THR 3) 120).put (F.LSW_CH_CFG_INRUSH_MULT 3) 12).put (F.LSW_CH_STAT_INRUSH 3) 1
     threshold s 2 = 50000 ∧ threshold s 3 = 48000 ∧ threshold (s.put (F.LSW_CH_STAT_INRUSH 3) 0) 3 = 12000) := by decide +kernel

/-- The source of the cropped camera view reads 3,960 beats, and a frame of 23 blocks takes 4,838.4 ns, 24,192 units of 0.2 ns (12_memory_and_dma.md). -/
theorem test_beats : sideBeats (lineRuns 691800 1920 640 360) = 3960 ∧ duration5 23 = 24192 := by decide +kernel

/-- The engine speed request on CAN_B carries FF A0 41 FF FF FF FF FF (13_message_bus.md). -/
theorem test_can_message :
    (let s := (((State.reset.put (F.MDB_TX_CFG_CTRL 0) 1).put (F.MDB_TX_CFG_LEN 0) 8).put (F.MDB_TX_ID_ID 0) 0x0CFF4A27).put (F.MDB_TX_ID_IDE 0) 1
     let s := ((((s.put (F.MDB_SIG_CFG_MSG 0) 0).put (F.MDB_SIG_CFG_START 0) 8).put (F.MDB_SIG_CFG_SLEN 0) 15).put (F.MDB_SIG_CFG_SRC 0) 2).put
        (F.MDB_SIG_LINE_ENTRY 0) 1
     let s := (s.put (F.MDB_SIG_LINE_WORD 0) 32).put (F.MDB_SIG_SCALE_SCALE 0) 0x80000
     let s := { s with eng := { lineSeen := [(1, List.replicate 128 0#8 ++ leBytes 4 2100)] } }
     (messageFrame s 0).data = [0xFF#8, 0xA0#8, 0x41#8, 0xFF#8, 0xFF#8, 0xFF#8, 0xFF#8, 0xFF#8] ∧ (messageFrame s 0).id = 0x0CFF4A27) := by
  decide +kernel

/-! ### Commands -/

/-- The first 28 bytes that IDENTIFY of the reference machine's terminus returns (17_specifications.md, Identifying the terminus). -/
theorem test_identify : (registerBytes State.reset 0 7) =
    [0x43#8, 0x53#8, 1#8, 0x64#8, 2#8, 1#8, 0#8, 0#8, 1#8, 1#8, 0#8, 0#8, 3#8, 1#8, 2#8, 0#8, 0#8, 3#8, 4#8, 0#8, 4#8, 1#8, 0#8, 0#8,
      1#8, 0#8, 0#8, 0#8] := by decide +kernel

/-- A queue of two commands: a step carries out the first, and the second waits (R26; log entry 2). -/
theorem test_first_in_first_out :
    (match step { up with pending := [.limpReqLow 5, .enableFilter 6] } with | .next u => u.pending | _ => []) = [.enableFilter 6] := by
  decide +kernel

/-- Reset idles, and a supply of 8.6 V is not enough to power up (R791). -/
theorem test_power_up :
    step State.reset = .next State.reset ∧
    (match step { State.reset with pwr := { power := .off }, pending := [.powerUp 5 8600] } with | .next u => u.pwr.power | _ => .up) = .off ∧
    (match step { State.reset with pwr := { power := .off }, pending := [.powerUp 5 8601] } with | .next u => u.pwr.power | _ => .off) = .up := by
  refine ⟨rfl, ?_, ?_⟩ <;> decide +kernel

/-! ### Hypotheses are met -/

/-- The hypotheses of AcceptedRequestIsServed are met. -/
theorem witness_AcceptedRequestIsServed :
    ∃ (op : Nat) (info : OpInfo) (p : Request) (s : State), opTable op = some info ∧ acceptable op p s = true :=
  ⟨0x0005, _, req 5 [], up, rfl, acceptable_req _ _ _ _ (by decide +kernel)⟩

/-- The hypotheses of BadPacketIsCounted are met. -/
theorem witness_BadPacketIsCounted :
    ∃ (op : Nat) (s : State) (p q r : Request), (transportOpen s p.via = true ∧ p.fragmented = false ∧ isArming op p = false ∧
      s.upd.restartDue = [] ∧ p.paramLen.toNat ≠ p.params.length) ∧ (transportOpen s q.via = true ∧ q.fragmented = false ∧ isArming op q =
      false ∧ q.paramLen.toNat = q.params.length ∧ q.paramLen.toNat ≤ 1400 ∧ q.magic.toNat ≠ 0x5A47) ∧ (transportOpen s r.via = true ∧
      r.fragmented = false ∧ isArming op r = false ∧ r.paramLen.toNat = r.params.length ∧ r.paramLen.toNat ≤ 1400 ∧ r.magic.toNat = 0x5A47
      ∧ crcGood op r = false) :=
  ⟨0x0005, up, { plain [] 0#8 with paramLen := 1401#16 }, { plain (List.replicate 1400 0#8) 0#8 with magic := 5#16 }, plain [] 0#8,
    by decide +kernel⟩

/-- The hypotheses of SessionAndAuthAreChecked are met. -/
theorem witness_SessionAndAuthAreChecked :
    ∃ (op : Nat) (s : State) (p q : Request) (x : Session), (wholeHere op p s = true ∧ isArming op p = false ∧ s.upd.restartDue = [] ∧
      p.version.toNat = 1 ∧ forwardedIn p = false ∧ 2 < op ∧ heldSession s p.session.toNat = none) ∧ (wholeHere op q s = true ∧ isArming op
      q = false ∧ q.version.toNat = 1 ∧ forwardedIn q = false ∧ heldSession s q.session.toNat = some x ∧ x.isOpen = true ∧ x.key.isEmpty =
      false ∧ tagOf x.key (requestBytes op q 0) ≠ q.auth.toNat) :=
  ⟨0x0005, up, bare 5 2 [], bare 5 1 [], sess, by decide +kernel⟩

/-- The hypotheses of OpeningRequests are met, each clause's by itself. -/
theorem witness_OpeningRequests :
    (∃ t p s, opensHere 0x0001 p (begin_ t s) ∧ p.params = []) ∧
    (∃ (t : Nat) (p : Request) (s : State) (l n : Nat), opensHere 0x0002 p (begin_ t s) ∧ p.version.toNat = 1 ∧ p.params.length = 20 ∧
      fieldAt p.params 0 1 = 1 ∧ p.session.toNat = 0 ∧ fieldAt p.params 1 1 = l ∧ 1 ≤ l ∧ l ≤ 3 ∧ lockout (begin_ t s) l = 0 ∧ (dropPending
      (begin_ t s)).pk.sessions.find? (fun x => (openRange s p.via).contains x.num && x.level == l && x.hostNonce == (p.params.drop 4).take
      16) = none ∧ (openRange s p.via).find? (fun k => (findSession (dropPending (begin_ t s)) k).isNone) = some n) ∧
    (∃ (t : Nat) (p : Request) (s : State) (x : Session), opensHere 0x0002 p (begin_ t s) ∧ p.version.toNat = 1 ∧ p.params.length = 36 ∧
      fieldAt p.params 0 1 = 2 ∧ 1 ≤ p.session.toNat ∧ findSession s p.session.toNat = some x ∧ x.isOpen = false ∧ max s.now t < x.openBy ∧
      fieldAt p.params 1 1 = x.level ∧ (p.params.drop 4).take 32 = proofOf labelHost s x) ∧
    (∃ (t : Nat) (p : Request) (s : State) (x : Session), findSession s p.session.toNat = some x ∧ authentic 0x0F00 p x (begin_ t s) = true
      ∧ s.upd.restartDue = [] ∧ (∃ ip port, p.via = .host ip port)) :=
  ⟨⟨0, hello, up, ⟨by decide +kernel, by decide +kernel, by decide +kernel, by decide +kernel, by decide +kernel, by decide +kernel,
      by decide +kernel, by decide +kernel, 7#32, 9#16, rfl⟩, rfl⟩,
    ⟨0, open1, { up with pk := {} }, 3, 1, ⟨by decide +kernel, by decide +kernel, by decide +kernel, by decide +kernel, by decide +kernel,
      by decide +kernel, by decide +kernel, by decide +kernel, 7#32, 9#16, rfl⟩, by decide +kernel⟩,
    ⟨0, open2, pendUp, pend2, ⟨wholeHere_bare _ _ _ _ _ (Nat.le_trans (Nat.le_of_eq open2_length) (by decide)) (by decide +kernel), rfl,
      by decide +kernel, by decide +kernel, by decide +kernel, by decide +kernel, by decide +kernel, by decide +kernel, 7#32, 9#16, rfl⟩,
      rfl, open2_length, rfl, by decide +kernel, by decide +kernel, rfl, by decide +kernel, rfl, open2_proof⟩,
    ⟨0, req 0x0F00 [], up, sess, by decide +kernel, authentic_req _ _ _ _ (by decide +kernel), by decide +kernel, 7#32, 9#16, rfl⟩⟩

/-- The hypotheses of SessionRequests are met, each clause's by itself. -/
theorem witness_SessionRequests :
    (MetBy 0x0005 anyRequest) ∧
    (MetBy 0x0004 anyRequest) ∧
    (∃ t p s, acceptable 0x0003 p (begin_ t s) = true ∧ s.upd.restartDue = []) ∧
    (MetBy 0x0006 (fun p _ => 1 ≤ fieldAt p.params 0 1 ∧ fieldAt p.params 0 1 ≤ 3)) ∧
    (MetBy 0x0007 (fun p s => s.pk.waiting.find? (fun w => isWaitingFor p.session.toNat (fieldAt p.params 0 4) w && w.job == .queued) =
      none)) ∧
    (∃ w, MetBy 0x0007 (fun p s => s.pk.waiting.find? (fun x => isWaitingFor p.session.toNat (fieldAt p.params 0 4) x && x.job == .queued)
      = some w)) ∧
    (MetBy 0x0F01 (fun p s => s.regsWf = true ∧ 1 ≤ p.session.toNat ∧ p.session.toNat ≤ 16)) ∧
    (MetBy 0x0F02 anyRequest) ∧
    (MetBy 0x0F03 anyRequest) :=
  ⟨.of [] 0#8 up ⟨by decide +kernel, trivial⟩,
    .of [] 0#8 up ⟨by decide +kernel, trivial⟩,
    ⟨0, req 3 [], up, acceptable_req _ _ _ _ (by decide +kernel), by decide +kernel⟩,
    .of (leBytes 1 3 ++ leBytes 35 77) 0#8 up (by decide +kernel),
    .of (leBytes 4 6) 0#8 { up with pk := { up.pk with waiting := [waits 0x0202 .run] } } (by decide +kernel),
    ⟨cancelled, .of (leBytes 4 6) 0#8 { up with pk := { up.pk with waiting := [cancelled] } } (by decide +kernel)⟩,
    .of (leBytes 16 0x0123456789ABCDEF0F) 0#8 up (by decide +kernel),
    .of [5#8, 6#8] 0#8 up ⟨by decide +kernel, trivial⟩,
    .of [] 0#8 { up with pk := { up.pk with badCrc := 3 } } ⟨by decide +kernel, trivial⟩⟩

/-- The hypotheses of RegisterAccess are met, each clause's by itself. -/
theorem witness_RegisterAccess :
    (MetBy 0x0100 (fun p s => checkReads s (regAddrs 4 p.params) = St.ok)) ∧
    (MetBy 0x0101 (fun p s => checkAll s p.session.toNat (regWrites p.params) = St.ok)) ∧
    (MetBy 0x0102 (fun p s => checkAll s p.session.toNat (regModifies p.params) = St.ok)) ∧
    (MetBy 0x0103 (fun p _ => (tableOf (fieldAt p.params 0 2)).isSome = true)) ∧
    (∃ size total, MetBy 0x0104 (fun p s => tableOf (fieldAt p.params 0 2) = some (size, total) ∧ (fieldAt p.params 2 1 ≤ 1 ∨ tableKind
      (fieldAt p.params 0 2) = 0x0B) ∧ fieldAt p.params 6 2 * size ≤ 1400 ∧ fieldAt p.params 4 2 + fieldAt p.params 6 2 ≤ total ∧
      (tableBytes s (fieldAt p.params 0 2) (fieldAt p.params 2 1 = 1)).isSome = true)) ∧
    (∃ size total c, MetBy 0x0105 (fun p s => tableOf (fieldAt p.params 0 2) = some (size, total) ∧ fieldAt p.params 2 1 = 1 ∧ tableKind
      (fieldAt p.params 0 2) ≠ 3 ∧ tableKind (fieldAt p.params 0 2) ≠ 0x0B ∧ fieldAt p.params 6 2 * size ≤ 1392 ∧ fieldAt p.params 4 2 +
      fieldAt p.params 6 2 ≤ total ∧ (p.params.drop 8).length = fieldAt p.params 6 2 * size ∧ throwBars s = false ∧ sidingForChange s =
      some c ∧ (findSection c (tableKind (fieldAt p.params 0 2)) (tableInst (fieldAt p.params 0 2))).isSome = true)) ∧
    (∃ size total n, MetBy 0x0105 (fun p s => tableOf (fieldAt p.params 0 2) = some (size, total) ∧ fieldAt p.params 2 1 = 0 ∧ tableKind
      (fieldAt p.params 0 2) = 4 ∧ tableInst (fieldAt p.params 0 2) = n ∧ fieldAt p.params 6 2 * size ≤ 1392 ∧ fieldAt p.params 4 2 +
      fieldAt p.params 6 2 ≤ total ∧ (p.params.drop 8).length = fieldAt p.params 6 2 * size ∧ (containerTable s.sets.running 4 n).isSome =
      true ∧ loopState s n = lOpen)) ∧
    (MetBy 0x0106 (fun p _ => fieldAt p.params 0 2 ≤ 16)) ∧
    (MetBy 0x0107 (fun p _ => fieldAt p.params 0 2 ≤ 16)) ∧
    (∃ (t : Nat) (a mask v : BitVec 32) (s : State), (if regOnSignal a.toNat then s.die.sigUp else s.die.yardUp) = true ∧ checkWrite
      (begin_ t s) 0 { addr := a.toNat, mask := mask.toNat, value := v.toNat } = St.ok) ∧
    (∃ (s : State) (w : RegWrite), s.regsWf = true ∧ plainRegister w.addr = true ∧ w.mask < 4294967296 ∧ w.value < 4294967296 ∧ maskIn w
      .RWS = 0) ∧
    (∃ (s : State) (mask v : Nat), s.regsWf = true ∧ mask < 4294967296 ∧ v < 4294967296) ∧
    (∃ (s : State) (v : Nat), s.regsWf = true ∧ v < 4294967296) :=
  ⟨.of (leBytes 2 1 ++ leBytes 2 0 ++ leBytes 4 0x80010) 0#8 up (by decide +kernel),
    .of (leBytes 2 1 ++ leBytes 2 0 ++ leBytes 4 (Reg.EVT_MASK 1) ++ leBytes 4 0xABCD) 0#8 up (by decide +kernel),
    .of (leBytes 2 1 ++ leBytes 2 0 ++ leBytes 4 (Reg.EVT_MASK 1) ++ leBytes 4 0xFF ++ leBytes 4 0xABCD) 0#8 up (by decide +kernel),
    .of (leBytes 2 0x0300) 0#8 up (by decide +kernel),
    ⟨4, 32, .of (leBytes 2 0x0300 ++ leBytes 2 0 ++ leBytes 2 31 ++ leBytes 2 1) 0#8 up (by decide +kernel)⟩,
    ⟨16, 4096, setBytes, .of (leBytes 2 0x0100 ++ leBytes 2 1 ++ leBytes 2 4095 ++ leBytes 2 1 ++ List.replicate 16 9#8) 0#8 { (up.put
      F.CFG_STATE_SIDING 1) with sets := { siding := some setBytes } } (by decide +kernel)⟩,
    ⟨12, 72, 3, .of (leBytes 2 0x0403 ++ leBytes 2 0 ++ leBytes 2 71 ++ leBytes 2 1 ++ leBytes 12 5) 0#8
      { up with sets := { running := some gainSet } } (by decide +kernel)⟩,
    .of (leBytes 2 16) 0#8 up (by decide +kernel),
    .of (leBytes 2 0) 0#8 up (by decide +kernel),
    ⟨0, BitVec.ofNat 32 (Reg.EVT_MASK 1), 0xFFFF#32, 0x1234#32, up, by decide +kernel⟩,
    ⟨up, { addr := Reg.EVT_MASK 1, mask := 0xFF00, value := 0xFFFFFFFF }, by decide +kernel⟩,
    ⟨up, 0xFF00, 0xFFFFFFFF, by decide +kernel⟩,
    ⟨up, 0xFFFFFFFF, by decide +kernel⟩⟩

/-- The hypotheses of SetRequests are met, each clause's by itself. -/
theorem witness_SetRequests :
    (MetBy 0x0200 (fun p s => throwBars s = false ∧ fieldAt p.params 0 4 = 0 ∧ opensLoad s (p.params.drop 4) = true ∧ 8 ≤ (p.params.drop
      4).length ∧ 64 ≤ fieldAt p.params 8 4 ∧ fieldAt p.params 8 4 ≤ 67108864 ∧ (p.params.drop 4).length ≤ fieldAt p.params 8 4 ∧ s.regsWf
      = true)) ∧
    (∃ c, MetBy 0x0200 (fun p s => throwBars s = false ∧ ¬ (fieldAt p.params 0 4 = 0 ∧ opensLoad s (p.params.drop 4) = true) ∧ sidingState
      s ≠ sEmpty ∧ s.sets.siding = some c ∧ fieldAt p.params 0 4 + (p.params.drop 4).length ≤ c.total)) ∧
    (MetBy 0x0203 (fun _ s => throwBars s = false ∧ s.regsWf = true)) ∧
    (MetBy 0x0201 (fun p s => throwBars s = false ∧ crc32c (p.params.drop 8) = fieldAt p.params 0 4)) ∧
    (MetBy 0x0202 (fun p s => s.get F.CFG_RUN_CRC_CRC = fieldAt p.params 0 4 ∧ s.flag F.CFG_STATE_RUNNING = true)) ∧
    (MetBy 0x0202 (fun p s => ¬ (s.get F.CFG_RUN_CRC_CRC = fieldAt p.params 0 4 ∧ s.flag F.CFG_STATE_RUNNING = true) ∧ throwBusy s = true)) ∧
    (MetBy 0x0202 (fun p s => ¬ (s.get F.CFG_RUN_CRC_CRC = fieldAt p.params 0 4 ∧ s.flag F.CFG_STATE_RUNNING = true) ∧ throwBusy s = false
      ∧ sidingReady s (fieldAt p.params 0 4) = true ∧ s.regsWf = true)) ∧
    (MetBy 0x0204 anyRequest) :=
  ⟨.of (leBytes 4 0 ++ List.replicate 4 1#8 ++ leBytes 4 64 ++ List.replicate 24 0#8) 0#8 up (by decide +kernel),
    ⟨setBytes, .of (leBytes 4 (setBytes.total - 4) ++ [1#8, 2#8, 3#8, 4#8]) 0#8 { (up.put F.CFG_STATE_SIDING 2) with
      sets := { siding := some setBytes } } (by decide +kernel)⟩,
    .of [] 0#8 { (up.put F.CFG_STATE_SIDING 2) with sets := { siding := some setBytes } } (by decide +kernel),
    .of (leBytes 4 (crc32c [1#8, 2#8, 3#8, 4#8, 5#8, 6#8, 7#8, 8#8]) ++ leBytes 4 1 ++ [1#8, 2#8, 3#8, 4#8, 5#8, 6#8, 7#8, 8#8]) 0#8 up
      (by decide +kernel),
    .of (leBytes 8 77) 0#8 ((up.put F.CFG_STATE_RUNNING 1).put F.CFG_RUN_CRC_CRC 77) (by decide +kernel),
    .of (leBytes 8 77) 0#8 { ((up.put F.CFG_STATE_SIDING sReady).put F.CFG_SIDING_CRC_CRC 77) with sets := { throw := some aThrow } }
      (by decide +kernel),
    .of (leBytes 8 77) 0#8 { ((up.put F.CFG_STATE_SIDING sReady).put F.CFG_SIDING_CRC_CRC 77) with
      sets := { siding := some setBytes, manifest := [(0, 5)], manifestCrc := 77 } } (by decide +kernel),
    .of [] 0#8 messy ⟨by decide +kernel, trivial⟩⟩

/-- The hypotheses of LoadRequests are met, each clause's by itself. -/
theorem witness_LoadRequests :
    (MetBy 0x0300 (fun p s => loadRefusal s ((upFrom 0 (fieldAt p.params 0 1)).map (loadEntry p.params)) = none)) ∧
    (MetBy 0x0301 (fun p _ => fieldAt p.params 0 1 ≤ 31)) ∧
    (MetBy 0x0301 (fun p _ => fieldAt p.params 0 1 = 0xFF)) ∧
    (MetBy 0x0302 (fun p s => fieldAt p.params 0 1 ≤ 31 ∧ channelSided s (fieldAt p.params 0 1) = false)) ∧
    (MetBy 0x0302 (fun p s => fieldAt p.params 0 1 ≤ 31 ∧ channelSided s (fieldAt p.params 0 1) = true ∧ s.ev.retiredHere = [] ∧
      (s.ev.retired.filter (entryIs 1 (fieldAt p.params 0 1) 0)).length = 1)) ∧
    (MetBy 0x0303 (fun p _ => fieldAt p.params 0 1 ≤ 1)) ∧
    (MetBy 0x0304 (fun p s => blockUnlocked s p.session.toNat 0x0003 = true ∧ mapGood (p.params.take 128) (fieldAt p.params 128 4) = true)) :=
  ⟨.of (leBytes 1 2 ++ leBytes 3 0 ++ [31#8, 1#8, 0#8, 0#8] ++ [0#8, 0#8, 0#8, 0#8]) 0#8 up (by decide +kernel),
    .of (leBytes 4 31) 0#8 up (by decide +kernel),
    .of (leBytes 4 255) 0#8 messy (by decide +kernel),
    .of (leBytes 4 31) 0#8 up (by decide +kernel),
    .of (leBytes 4 31) 0#8 { up with ev := { retired := [{ kind := 1, cause := 2, index := 31, unit := 0, opsec := 0, pcyc := 0 }] } }
      (by decide +kernel),
    .of (leBytes 4 1) 0#8 up (by decide +kernel),
    .of (deliveredMap ++ leBytes 4 (crc32c deliveredMap)) 0#8 { up with
      pk := { up.pk with sessions := [{ sess with unlocked := [(3, 20 * sec)] }] } } (by decide +kernel)⟩

/-- The hypotheses of LoopRequests are met, each clause's by itself. -/
theorem witness_LoopRequests :
    (MetBy 0x0400 (fun p s => fieldAt p.params 0 1 ≤ 31 ∧ s.regsWf = true)) ∧
    (MetBy 0x0401 (fun p s => fieldAt p.params 0 1 ≤ 31 ∧ loopDefined s (fieldAt p.params 0 1) = true ∧ gainValid (runningGains s (fieldAt
      p.params 0 1)) = true ∧ s.regsWf = true)) ∧
    (MetBy 0x0402 (fun p s => fieldAt p.params 0 1 ≤ 31 ∧ loopDefined s (fieldAt p.params 0 1) = true ∧ loopState s (fieldAt p.params 0 1)
      = lRun ∧ s.regsWf = true)) ∧
    (MetBy 0x0403 (fun p s => fieldAt p.params 0 1 ≤ 31 ∧ s.get (F.CLE_LOOP_SP_KIND (fieldAt p.params 0 1)) = 6 ∧ s.regsWf = true)) :=
  ⟨.of (leBytes 4 31) 0#8 up (by decide +kernel),
    .of (leBytes 4 3) 0#8 { ((up.put (F.CLE_LOOP_CFG_EN 3) 1).put (F.CLE_LOOP_CFG_PERIOD 3) 10) with
      eng := { gainEdits := [(3, goodGains)] } } (by decide +kernel),
    .of (leBytes 4 3) 0#8 (((up.put (F.CLE_LOOP_CFG_EN 3) 1).put (F.CLE_LOOP_CFG_PERIOD 3) 10).put (F.CLE_LOOP_CTRL_STATE 3) 1)
      (by decide +kernel),
    .of (leBytes 4 0 ++ leBytes 4 0x80000000) 0#8 (up.put (F.CLE_LOOP_SP_KIND 0) 6) (by decide +kernel)⟩

/-- The hypotheses of FusionRequests are met, each clause's by itself. -/
theorem witness_FusionRequests :
    (∃ c x, MetBy 0x0500 (fun p s => fieldAt p.params 0 1 ≤ 63 ∧ throwBars s = false ∧ sidingForChange s = some c ∧ fieldAt p.params 4 4 ≠
      0 ∧ findSection c 0x11 (fieldAt p.params 0 1) = some x ∧ fieldAt p.params 4 4 + (p.params.drop 8).length ≤ x.length)) ∧
    (∃ c k x, MetBy 0x0500 (fun p s => fieldAt p.params 0 1 ≤ 63 ∧ throwBars s = false ∧ sidingForChange s = some c ∧ fieldAt p.params 4 4
      = 0 ∧ 64 ≤ (p.params.drop 8).length ∧ modelHeaderOk (p.params.drop 8) = true ∧ openModel c (fieldAt p.params 0 1) (bitsAt (fieldAt
      p.params 1 1) 0 1) (64 + mLen (p.params.drop 8)) = some k ∧ findSection k 0x11 (fieldAt p.params 0 1) = some x ∧ (p.params.drop
      8).length < x.length)) ∧
    (MetBy 0x0501 (fun p _ => fieldAt p.params 0 1 ≤ 63 ∧ fieldAt p.params 1 1 ≤ 1)) ∧
    (MetBy 0x0502 (fun p _ => fieldAt p.params 0 1 ≤ 19)) ∧
    (MetBy 0x0502 (fun p _ => fieldAt p.params 0 1 = 0xFF)) ∧
    (MetBy 0x0503 (fun p s => fieldAt p.params 0 1 ≤ 19 ∧ streamRetired s (fieldAt p.params 0 1) = false)) ∧
    (MetBy 0x0503 (fun p s => fieldAt p.params 0 1 ≤ 19 ∧ streamRetired s (fieldAt p.params 0 1) = true ∧ s.ev.retiredHere = [] ∧
      (s.ev.retired.filter (entryIs 3 (fieldAt p.params 0 1) 0)).length = 1)) ∧
    (MetBy 0x0504 (fun p s => fieldAt p.params 0 1 = 0 ∧ 1 ≤ fieldAt p.params 3 1 ∧ 1 ≤ fieldAt p.params 4 1 ∧ fieldAt p.params 3 1 *
      fieldAt p.params 4 1 ≤ 69 ∧ fieldAt p.params 1 1 + fieldAt p.params 3 1 ≤ 192 ∧ fieldAt p.params 2 1 + fieldAt p.params 4 1 ≤ 64 ∧
      s.flag F.FUS_STATUS_GRID_VALID = true)) ∧
    (MetBy 0x0504 (fun p s => fieldAt p.params 0 1 = 1 ∧ fieldAt p.params 2 1 = 0 ∧ 1 ≤ fieldAt p.params 3 1 ∧ fieldAt p.params 3 1 ≤ 69 ∧
      fieldAt p.params 4 1 = 1 ∧ fieldAt p.params 1 1 + fieldAt p.params 3 1 ≤ 128 ∧ s.flag F.FUS_STATUS_GRID_VALID = true)) :=
  ⟨⟨modelSet, modelSec, .of (leBytes 4 63 ++ leBytes 4 1 ++ [9#8, 8#8]) 0#8 { (up.put F.CFG_STATE_SIDING 1) with
      sets := { siding := some modelSet } } (by decide +kernel)⟩,
    ⟨modelSet, openedSet, openedSec, .of (leBytes 8 63 ++ aModel) 0#8 { (up.put F.CFG_STATE_SIDING 1) with
      sets := { siding := some modelSet } } (by decide +kernel)⟩,
    .of (leBytes 4 63) 0#8 { up with sets := { running := some setBytes } } (by decide +kernel),
    .of (leBytes 4 19) 0#8 up (by decide +kernel),
    .of (leBytes 4 255) 0#8 messy (by decide +kernel),
    .of (leBytes 4 19) 0#8 up (by decide +kernel),
    .of (leBytes 4 19) 0#8 { up with ev := { retired := [{ kind := 3, cause := 2, index := 19, unit := 0, opsec := 0, pcyc := 0 }] } }
      (by decide +kernel),
    .of [0#8, 123#8, 63#8, 69#8, 1#8, 0#8, 0#8, 0#8] 0#8 (up.put F.FUS_STATUS_GRID_VALID 1) (by decide +kernel),
    .of [1#8, 59#8, 0#8, 69#8, 1#8, 0#8, 0#8, 0#8] 0#8 (up.put F.FUS_STATUS_GRID_VALID 1) (by decide +kernel)⟩

/-- The hypotheses of FunctionRequests are met, each clause's by itself. -/
theorem witness_FunctionRequests :
    (MetBy 0x0601 (fun p s => fnTargetOk p = true ∧ fieldAt p.params 0 1 ≤ 47 ∧ (fnEntry s (fieldAt p.params 0 1)).id ≠ 0 ∧ (fnEntry s
      (fieldAt p.params 0 1)).id = fieldAt p.params 2 2 ∧ (bitAt (fieldAt p.params 1 1) 0 = true → (fnEntry s (fieldAt p.params 0 1)).min ≤
      sfieldAt p.params 4 4 ∧ sfieldAt p.params 4 4 ≤ (fnEntry s (fieldAt p.params 0 1)).max) ∧ s.regsWf = true)) ∧
    (MetBy 0x0600 (fun p s => fnTargetOk p = true ∧ fieldAt p.params 0 1 ≤ 47 ∧ (fnEntry s (fieldAt p.params 0 1)).id ≠ 0 ∧ (fnEntry s
      (fieldAt p.params 0 1)).id = fieldAt p.params 2 2 ∧ fnMode s (fieldAt p.params 0 1) = mAuto)) ∧
    (MetBy 0x0600 (fun p s => fnTargetOk p = true ∧ fieldAt p.params 0 1 ≤ 47 ∧ (fnEntry s (fieldAt p.params 0 1)).id ≠ 0 ∧ (fnEntry s
      (fieldAt p.params 0 1)).id = fieldAt p.params 2 2 ∧ fnMode s (fieldAt p.params 0 1) ≠ mAuto ∧ (fnEntry s (fieldAt p.params 0
      1)).autoOk = true ∧ s.flag F.SET_CFG_SET_EN = true ∧ bitAt (fnCauses s (fieldAt p.params 0 1)) 4 = false ∧ bitAt (fnCauses s (fieldAt
      p.params 0 1)) 5 = false ∧ s.regsWf = true)) ∧
    (MetBy 0x0602 (fun p _ => fnTargetOk p = true ∧ fieldAt p.params 0 1 ≤ 47)) ∧
    (MetBy 0x0602 (fun p _ => fnTargetOk p = true ∧ fieldAt p.params 0 1 = 0xFF)) :=
  ⟨.of ([47#8, 1#8] ++ leBytes 2 7 ++ leBytes 4 50) 0#8 (fnState.put (F.SET_FN_STATE_MODE 47) 1) (by decide +kernel),
    .of ([47#8, 0#8] ++ leBytes 2 7) 0#8 ((fnState.put F.SET_CFG_SET_EN 1).put (F.SET_FN_STATE_MODE 47) mAuto) (by decide +kernel),
    .of ([47#8, 0#8] ++ leBytes 2 7) 0#8 (fnState.put F.SET_CFG_SET_EN 1) (by decide +kernel),
    .of ([47#8, 0#8] ++ leBytes 2 7) 0#8 up (by decide +kernel),
    .of (leBytes 4 255) 0#8 messy (by decide +kernel)⟩

/-- The hypotheses of SteeringRequests are met, each clause's by itself. -/
theorem witness_SteeringRequests :
    (∃ t p s, acceptable 0x0700 p (begin_ t s) = true ∧ p.target = 0#8 ∧ s.nav.guide = none ∧ engaged s = false ∧ s.regsWf = true) ∧
    (MetBy 0x0700 (fun p s => p.target = 0#8 ∧ engaged s = true ∧ fieldAt p.params 0 4 = s.reg Reg.GNS_GUIDE_ID)) ∧
    (∃ g b, MetBy 0x0700 (fun p s => p.target = 0#8 ∧ engaged s = false ∧ s.nav.guide = some g ∧ baseAt s g (controlPoint s g) = some b ∧
      engageRefusal s g (fieldAt p.params 0 4) (some (some ⟨0, 0⟩, some ⟨0, 0⟩, some ⟨0, 0⟩)) = none ∧ s.regsWf = true)) ∧
    (MetBy 0x0701 (fun p s => p.target = 0#8 ∧ engaged s = true ∧ isRelief s = false ∧ s.regsWf = true)) ∧
    (MetBy 0x0701 (fun p s => p.target = 0#8 ∧ engaged s = false)) ∧
    (MetBy 0x0702 (fun p s => p.target = 0#8 ∧ guideOk p.params = true ∧ s.regsWf = true ∧ (engaged s = false ∨ (s.nav.guide.map (fun o =>
      { o with shift := (guideOf p.params).shift })) = some (guideOf p.params)))) ∧
    (MetBy 0x0703 (fun p _ => p.target = 0#8 ∧ fieldAt p.params 0 1 = 1)) ∧
    (MetBy 0x0704 (fun p _ => fieldAt p.params 0 1 = 0)) ∧
    (MetBy 0x0704 (fun p _ => fieldAt p.params 0 1 = 1 ∨ fieldAt p.params 0 1 = 2)) ∧
    (MetBy 0x0705 (fun p s => -1000000 ≤ sfieldAt p.params 0 4 ∧ sfieldAt p.params 0 4 ≤ 1000000 ∧ s.regsWf = true)) :=
  ⟨⟨0, req 0x0700 (leBytes 4 9), up, acceptable_req _ _ _ _ (by decide +kernel), by decide +kernel⟩,
    .of (leBytes 4 9) 0#8 ((up.put F.GNS_STEER_STATUS_ENGAGED 1).setReg Reg.GNS_GUIDE_ID 9) (by decide +kernel),
    ⟨edgeGuide, edgeBase, .of (leBytes 4 9) 0#8 edgeState (by decide +kernel)⟩,
    .of (leBytes 4 0) 0#8 (up.put F.GNS_STEER_STATUS_ENGAGED 1) (by decide +kernel),
    .of (leBytes 4 0) 0#8 up (by decide +kernel),
    .of (leBytes 36 0) 0#8 up (by decide +kernel),
    .of (leBytes 4 1 ++ [0xD3#8]) 0#8 up (by decide +kernel),
    .of (leBytes 4 0) 0#8 up (by decide +kernel),
    .of (leBytes 4 2) 0#8 up (by decide +kernel),
    .of (leBytes 4 1000000) 0#8 up (by decide +kernel)⟩

/-- The hypotheses of YieldRequests are met, each clause's by itself. -/
theorem witness_YieldRequests :
    (∃ f, MetBy 0x0800 (fun p s => p.target = 0#8 ∧ fieldAt p.params 0 4 ≠ 0 ∧ s.yld.openId ≠ some (fieldAt p.params 0 4) ∧ findField s
      (fieldAt p.params 0 4) = some f ∧ f.id = fieldAt p.params 0 4 ∧ f.lat = sfieldAt p.params 4 8 ∧ f.lon = sfieldAt p.params 12 8 ∧
      f.hgt = sfieldAt p.params 20 4)) ∧
    (MetBy 0x0800 (fun p s => p.target = 0#8 ∧ fieldAt p.params 0 4 ≠ 0 ∧ s.yld.openId ≠ some (fieldAt p.params 0 4) ∧ findField s (fieldAt
      p.params 0 4) = none ∧ 268435456 ≤ storeFree s ∧ s.yld.fields.length < 128)) ∧
    (MetBy 0x0800 (fun p s => p.target = 0#8 ∧ fieldAt p.params 0 4 ≠ 0 ∧ s.yld.openId = some (fieldAt p.params 0 4))) ∧
    (MetBy 0x0801 (fun p s => p.target = 0#8 ∧ fieldAt p.params 4 1 = 0 ∧ s.yld.openId = some (fieldAt p.params 0 4))) ∧
    (MetBy 0x0801 (fun p s => p.target = 0#8 ∧ fieldAt p.params 4 1 = 0 ∧ s.yld.openId ≠ some (fieldAt p.params 0 4))) ∧
    (MetBy 0x0801 (fun p s => p.target = 0#8 ∧ fieldAt p.params 4 1 = 1 ∧ s.yld.openId ≠ some (fieldAt p.params 0 4))) ∧
    (MetBy 0x0802 anyRequest) ∧
    (∃ f, MetBy 0x0803 (fun p s => findField s (fieldAt p.params 0 4) = some f ∧ fieldAt p.params 4 1 = 0 ∧ 1 ≤ fieldAt p.params 6 1 ∧
      fieldAt p.params 6 1 ≤ 3 ∧ fieldAt p.params 5 1 + fieldAt p.params 6 1 ≤ 32)) ∧
    (∃ f, MetBy 0x0803 (fun p s => findField s (fieldAt p.params 0 4) = some f ∧ fieldAt p.params 4 1 = 1)) ∧
    (∃ f, MetBy 0x0804 (fun p s => p.target = 0#8 ∧ fieldAt p.params 4 1 ≤ 2 ∧ 1 ≤ fieldAt p.params 12 2 ∧ fieldAt p.params 12 2 ≤ 1384 ∧
      s.yld.openId ≠ some (fieldAt p.params 0 4) ∧ findField s (fieldAt p.params 0 4) = some f)) :=
  ⟨⟨aField, .of (leBytes 4 5 ++ leBytes 8 1 ++ leBytes 8 2 ++ leBytes 20 3) 0#8 { up with yld := { fields := [aField] } }
      (by decide +kernel)⟩,
    .of (leBytes 4 5 ++ leBytes 8 1 ++ leBytes 8 2 ++ leBytes 20 3) 0#8 up (by decide +kernel),
    .of (leBytes 4 5 ++ leBytes 8 1 ++ leBytes 8 2 ++ leBytes 20 3) 0#8 { up with yld := { fields := [aField], openId := some 5 } }
      (by decide +kernel),
    .of (leBytes 8 5) 0#8 { up with yld := { fields := [aField], openId := some 5 } } (by decide +kernel),
    .of (leBytes 8 5) 0#8 { up with yld := { fields := [aField] } } (by decide +kernel),
    .of (leBytes 4 5 ++ leBytes 4 1) 0#8 { up with yld := { fields := [aField] } } (by decide +kernel),
    .of [] 0#8 up ⟨by decide +kernel, trivial⟩,
    ⟨aField, .of (leBytes 4 5 ++ leBytes 8 0x010000) 0#8 { up with yld := { fields := [aField] } } (by decide +kernel)⟩,
    ⟨aField, .of (leBytes 4 5 ++ leBytes 8 1) 0#8 { up with yld := { fields := [aField] } } (by decide +kernel)⟩,
    ⟨aField, .of (leBytes 4 5 ++ leBytes 4 2 ++ leBytes 4 0 ++ leBytes 4 1384) 0#8 { up with yld := { fields := [aField] } }
      (by decide +kernel)⟩⟩

/-- The hypotheses of ConsistRequests are met, each clause's by itself. -/
theorem witness_ConsistRequests :
    (MetBy 0x0900 (fun p s => p.target = 0#8 ∧ ¬ (cstState s = cstMember ∧ consistId s = fieldAt p.params 0 4) ∧ consistOn s = true ∧
      s.regsWf = true ∧ s.cst.keys.any (fun k => k.consist == fieldAt p.params 0 4) = true)) ∧
    (MetBy 0x0900 (fun p s => p.target = 0#8 ∧ cstState s = cstMember ∧ consistId s = fieldAt p.params 0 4)) ∧
    (MetBy 0x0901 (fun p s => p.target = 0#8 ∧ (cstState s = cstMember ∨ cstState s = cstConflict) ∧ s.regsWf = true)) ∧
    (MetBy 0x0902 (fun p _ => p.target = 0#8)) ∧
    (MetBy 0x0903 (fun p _ => fieldAt p.params 0 1 = 0)) ∧
    (MetBy 0x0903 (fun p _ => fieldAt p.params 0 1 = 1)) ∧
    (MetBy 0x0904 (fun p s => p.target = 0#8 ∧ fieldAt p.params 0 1 = 1 ∧ s.cst.rdv = none ∧ cstState s = cstMember ∧ fieldAt p.params 2 1
      ≤ 1 ∧ (fieldAt p.params 1 1 ≤ 31 ∨ fieldAt p.params 1 1 = 0xFF))) ∧
    (MetBy 0x0904 (fun p s => p.target = 0#8 ∧ fieldAt p.params 0 1 = 2 ∧ s.cst.rdv.isSome = true ∧ s.regsWf = true)) ∧
    (MetBy 0x0904 (fun p s => p.target = 0#8 ∧ fieldAt p.params 0 1 = 2 ∧ s.cst.rdv = none)) ∧
    (MetBy 0x0904 (fun p s => p.target = 0#8 ∧ 3 ≤ fieldAt p.params 0 1 ∧ fieldAt p.params 0 1 ≤ 4 ∧ s.regsWf = true)) :=
  ⟨.of (leBytes 8 9) 0#8 { (up.put F.CST_CFG_EN 1) with cst := { keys := [aKey] } } (by decide +kernel),
    .of (leBytes 8 9) 0#8 (((up.put F.CST_CFG_EN 1).put F.CST_STATUS_STATE 2).setReg Reg.CST_CONSIST 9) (by decide +kernel),
    .of (leBytes 4 0) 0#8 (up.put F.CST_STATUS_STATE 2) (by decide +kernel),
    .of (leBytes 24 9) 0#8 up (by decide +kernel),
    .of (leBytes 4 0) 0#8 up (by decide +kernel),
    .of (leBytes 4 1) 0#8 up (by decide +kernel),
    .of [1#8, 0xFF#8, 1#8, 0#8] 0#8 (up.put F.CST_STATUS_STATE 2) (by decide +kernel),
    .of [2#8, 0#8, 0#8, 0#8] 0#8 { up with cst := { rdv := some aRdv } } (by decide +kernel),
    .of [2#8, 0#8, 0#8, 0#8] 0#8 up (by decide +kernel),
    .of [3#8, 0#8, 0#8, 0#8] 0#8 up (by decide +kernel)⟩

/-- The hypotheses of TransferAndLogbookRequests are met, each clause's by itself. -/
theorem witness_TransferAndLogbookRequests :
    (∃ n, MetBy 0x0A00 (fun p s => streamParamsGood s p.params = true ∧ streamRetired s (fieldAt p.params 1 1) = false ∧ (upFrom 0 4).find?
      (fun k => !s.flag (F.DMA_STR_CFG_OPEN k)) = some n ∧ (fieldAt p.params 2 1 = 0 ∨ diagTaken s = false) ∧ sameStream s p = none ∧
      s.regsWf = true)) ∧
    (MetBy 0x0A01 (fun p s => fieldAt p.params 0 1 ≤ 3 ∧ s.flag (F.DMA_STR_CFG_OPEN (fieldAt p.params 0 1)) = true)) ∧
    (MetBy 0x0A01 (fun p s => fieldAt p.params 0 1 ≤ 3 ∧ s.flag (F.DMA_STR_CFG_OPEN (fieldAt p.params 0 1)) = false)) ∧
    (MetBy 0x0B00 (fun p _ => fieldAt p.params 0 1 = 2 ∧ 1 ≤ fieldAt p.params 8 2 ∧ fieldAt p.params 8 2 ≤ 43)) ∧
    (MetBy 0x0B00 (fun p _ => fieldAt p.params 0 1 = 0 ∧ fieldAt p.params 4 4 ≤ 63 ∧ 1 ≤ fieldAt p.params 8 2 ∧ fieldAt p.params 8 2 ≤ 10)) ∧
    (MetBy 0x0B00 (fun p _ => fieldAt p.params 0 1 = 1 ∧ fieldAt p.params 4 4 ≤ 255 ∧ 1 ≤ fieldAt p.params 8 2 ∧ fieldAt p.params 8 2 ≤
      114)) ∧
    (MetBy 0x0B02 (fun p _ => 1 ≤ fieldAt p.params 2 2 ∧ fieldAt p.params 2 2 ≤ 87)) :=
  ⟨⟨1, .of ([1#8, 3#8, 0#8, 1#8] ++ leBytes 8 0 ++ leBytes 2 1472 ++ leBytes 2 7000 ++ leBytes 4 0) 0#8 ((up.put (F.DMA_STR_CFG_OPEN 0)
      1).put (F.FUS_STR_CFG_KIND 3) 1) (by decide +kernel)⟩,
    .of (leBytes 4 3) 0#8 (up.put (F.DMA_STR_CFG_OPEN 3) 1) (by decide +kernel),
    .of (leBytes 4 3) 0#8 up (by decide +kernel),
    .of (leBytes 4 2 ++ leBytes 4 0 ++ leBytes 4 43) 0#8 { up with ev := { ring := [aFault] } } (by decide +kernel),
    .of (leBytes 4 0 ++ leBytes 4 63 ++ leBytes 4 10) 0#8 messy (by decide +kernel),
    .of (leBytes 4 1 ++ leBytes 4 255 ++ leBytes 4 114) 0#8 messy (by decide +kernel),
    .of (leBytes 2 0 ++ leBytes 2 87) 0#8 up (by decide +kernel)⟩

/-- The hypotheses of UpdateRequests are met, each clause's by itself. -/
theorem witness_UpdateRequests :
    (∃ d, MetBy 0x0C00 (fun p s => d ≤ 1 ∧ fieldAt p.params 0 1 = d ∧ fieldAt p.params 4 2 = 0x5A49 ∧ fieldAt p.params 6 1 = 1 ∧ fieldAt
      p.params 8 2 = 0x6401 ∧ imDie ((p.params.drop 4).take 128) = d ∧ imBodyLen ((p.params.drop 4).take 128) ≠ 0 ∧ imBodyLen
      ((p.params.drop 4).take 128) + 128 ≤ slotSize d ∧ trialSlot s d = none ∧ imKey ((p.params.drop 4).take 128) ≤ 3 ∧ keyRevoked s (imKey
      ((p.params.drop 4).take 128)) = false ∧ rollbackOk s d ((p.params.drop 4).take 128) = true ∧ ¬ (1 ≤ slotState s d (targetSlot s d) ∧
      slotState s d (targetSlot s d) ≤ 4 ∧ (imageSlot s d (targetSlot s d)).header = (p.params.drop 4).take 128) ∧ slotState s d
      (targetSlot s d) ≠ uVerifying)) ∧
    (∃ d x, MetBy 0x0C01 (fun p s => d ≤ 1 ∧ fieldAt p.params 0 1 = d ∧ slotState s d (targetSlot s d) = uLoading ∧ imageSlot s d
      (targetSlot s d) = x ∧ fieldAt p.params 4 4 + (p.params.drop 8).length ≤ imBodyLen x.header ∧ s.upd.slots.length = 4 ∧ targetSlot s d
      ≤ 1)) ∧
    (∃ d, MetBy 0x0C02 (fun p s => d ≤ 1 ∧ fieldAt p.params 0 1 = d ∧ slotState s d (targetSlot s d) = uLoaded ∧ fieldAt p.params 4 4 =
      imVersion (imageSlot s d (targetSlot s d)).header ∧ s.regsWf = true)) ∧
    (∃ d, MetBy 0x0C02 (fun p s => d ≤ 1 ∧ fieldAt p.params 0 1 = d ∧ slotState s d (targetSlot s d) = uVerified ∧ fieldAt p.params 4 4 =
      imVersion (imageSlot s d (targetSlot s d)).header ∧ s.regsWf = true)) ∧
    (MetBy 0x0C03 (fun p s => lineModules s = [joinNum s] ∧ repAt (ownReport s) (fieldAt p.params 0 4) (fieldAt p.params 4 4) = true ∧
      repOnTrial (ownReport s) = false)) ∧
    (MetBy 0x0C03 (fun p s => s.upd.run = none ∧ s.upd.asked = [] ∧ ¬ (lineModules s = [joinNum s] ∧ repAt (ownReport s) (fieldAt p.params
      0 4) (fieldAt p.params 4 4) = true ∧ repOnTrial (ownReport s) = false))) ∧
    (∃ k, MetBy 0x0C04 (fun p s => fieldAt p.params 0 1 = 1 ∧ trialSlot s 0 = some k ∧ trialSlot s 1 = none ∧ confirmRefusal s 0 (fieldAt
      p.params 4 4) = none ∧ confirmRefusal s 1 (fieldAt p.params 8 4) = none ∧ imRevoke (imageSlot s 0 k).header = false ∧ s.regsWf =
      true)) ∧
    (MetBy 0x0C04 (fun p s => fieldAt p.params 0 1 = 1 ∧ trialSlot s 0 = none ∧ trialSlot s 1 = none ∧ runningVersion s 0 = fieldAt
      p.params 4 4 ∧ runningVersion s 1 = fieldAt p.params 8 4)) :=
  ⟨⟨1, .of ([1#8, 0#8, 0#8, 0#8] ++ goodHeader) 0#8 up (by decide +kernel)⟩,
    ⟨1, { header := goodHeader }, .of ([1#8, 0#8, 0#8, 0#8] ++ leBytes 4 4 ++ [1#8, 2#8]) 0#8 loadingState (by decide +kernel)⟩,
    ⟨1, .of ([1#8, 0#8, 0#8, 0#8] ++ leBytes 4 0x01020304) 0#8 loadedState (by decide +kernel)⟩,
    ⟨1, .of ([1#8, 0#8, 0#8, 0#8] ++ leBytes 4 0x01020304) 0#8 verifiedState (by decide +kernel)⟩,
    .of (leBytes 4 (runningVersion upr 0) ++ leBytes 4 (runningVersion upr 1)) 0#8 upr (by decide +kernel),
    .of (leBytes 4 1 ++ leBytes 4 2) 0#8 { up with
      line := { members := [{ uid := 5, num := 9, posE := 1, result := 0, startCycle := 0, relief := false, absent := false, silent := 0 }] } }
      (by decide +kernel),
    ⟨1, .of ([1#8, 0#8, 0#8, 0#8] ++ leBytes 4 0x01020304 ++ leBytes 4 (runningVersion up 1)) 0#8 trialState (by decide +kernel)⟩,
    .of ([1#8, 0#8, 0#8, 0#8] ++ leBytes 4 (runningVersion up 0) ++ leBytes 4 (runningVersion up 1)) 0#8 up (by decide +kernel)⟩

/-- The hypotheses of PlantRequests are met, each clause's by itself. -/
theorem witness_PlantRequests :
    (MetBy 0x0D00 anyRequest) ∧
    (MetBy 0x0D01 (fun p s => fieldAt p.params 0 1 ≤ 1 ∧ isRetired 2 (fieldAt p.params 0 1) 0 s = false)) ∧
    (MetBy 0x0D01 (fun p s => fieldAt p.params 0 1 ≤ 1 ∧ isRetired 2 (fieldAt p.params 0 1) 0 s = true)) ∧
    (MetBy 0x0D02 (fun p s => fieldAt p.params 0 1 ≤ 1 ∧ s.regsWf = true)) ∧
    (MetBy 0x0E00 (fun p s => fieldAt p.params 0 1 ≤ 7 ∧ fieldAt p.params 0 1 = s.get F.PWR_LEVEL_REQ)) ∧
    (MetBy 0x0E00 (fun p s => 1 ≤ fieldAt p.params 0 1 ∧ fieldAt p.params 0 1 ≤ 7 ∧ fieldAt p.params 0 1 ≠ s.get F.PWR_LEVEL_REQ ∧
      (s.sets.running.map tensorDemand).getD 0 ≤ levelTops (fieldAt p.params 0 1) * 1000000000000 ∧ s.regsWf = true)) ∧
    (MetBy 0x0E00 (fun p s => fieldAt p.params 0 1 = 0 ∧ s.get F.PWR_LEVEL_REQ ≠ 0 ∧ s.sets.running = none ∧ ((isTerminus s || isRelief s)
      = true → s.flag F.GNS_CFG_EN = false) ∧ s.regsWf = true)) ∧
    (MetBy 0x0E02 (fun _ s => inLimp s = true ∧ resumeStatus s = St.ok ∧ s.regsWf = true)) ∧
    (MetBy 0x0E02 (fun _ s => inLimp s = false)) ∧
    (MetBy 0x0E03 (fun p s => 100 ≤ fieldAt p.params 0 2 ∧ fieldAt p.params 0 2 ≤ 60000 ∧ sleepCheck s = St.ok)) :=
  ⟨.of [] 0#8 messy ⟨by decide +kernel, trivial⟩,
    .of (leBytes 4 1) 0#8 up (by decide +kernel),
    .of (leBytes 4 1) 0#8 { up with ev := { retired := [{ kind := 2, cause := 0, index := 1, unit := 0, opsec := 0, pcyc := 0 }] } }
      (by decide +kernel),
    .of (leBytes 4 1) 0#8 up (by decide +kernel),
    .of (leBytes 4 7) 0#8 (up.put F.PWR_LEVEL_REQ 7) (by decide +kernel),
    .of (leBytes 4 7) 0#8 (up.put F.PWR_LEVEL_CUR 3) (by decide +kernel),
    .of (leBytes 4 0) 0#8 (up.put F.PWR_LEVEL_REQ 1) (by decide +kernel),
    .of (leBytes 4 0) 0#8 (up.put F.LSW_LIMP_LIMP 1) (by decide +kernel),
    .of (leBytes 4 0) 0#8 up (by decide +kernel),
    .of (leBytes 2 100 ++ leBytes 2 0) 0#8 (up.put F.UPD_RUN_PARKED 1) (by decide +kernel)⟩

/-- The hypotheses of StrapAndRoleRows are met, each clause's by itself. -/
theorem witness_StrapAndRoleRows :
    (Met (fun b => powered b = true ∧ due b.role.strapAt b = true ∧ b.role.samples.length < 7)) ∧
    (∃ v : BitVec 9, Met (fun b => b.sound = true ∧ powered b = true ∧ due b.role.strapAt b = true ∧ b.role.samples = List.replicate 7 v ∧
      bitsAt v.toNat 0 2 ≠ 3 ∧ (bitsAt v.toNat 0 2 = 2 ∨ bitAt v.toNat 2 = false ∨ bitsAt v.toNat 3 6 ≠ 0))) ∧
    (∃ v : BitVec 9, Met (fun b => b.sound = true ∧ powered b = true ∧ due b.role.strapAt b = true ∧ b.role.samples = List.replicate 7 v ∧
      (bitsAt v.toNat 0 2 = 3 ∨ bitsAt v.toNat 0 2 ≤ 1 ∧ bitAt v.toNat 2 = true ∧ bitsAt v.toNat 3 6 = 0))) ∧
    (∃ v w : BitVec 9, v ≠ w ∧ Met (fun b => b.sound = true ∧ powered b = true ∧ due b.role.strapAt b = true ∧ b.role.samples.length = 7 ∧
      w ∈ b.role.samples ∧ b.role.runs = 2)) ∧
    (Met (fun b => b.sound = true ∧ b.role.role = .terminusClaim ∧ due b.role.listenEnd b = true ∧ b.die.yardUp = true ∧ b.role.heardHolder
      = false)) ∧
    (Met (fun b => b.sound = true ∧ b.role.role = .terminusClaim ∧ due b.role.listenEnd b = true ∧ b.die.yardUp = true ∧ b.role.heardHolder
      = true)) :=
  ⟨.of { State.reset with
      now := 5 * ms, pwr := { State.reset.pwr with power := .up }, role := { strapAt := some (5 * ms), samples := [1#9] } }
      (by decide +kernel),
    ⟨2#9, .of { cold with role := { strapAt := some (5 * ms), samples := List.replicate 7 2#9 } } (by decide +kernel)⟩,
    ⟨3#9, .of { cold with role := { strapAt := some (5 * ms), samples := List.replicate 7 3#9 } } (by decide +kernel)⟩,
    ⟨0#9, 1#9, by decide +kernel, .of { cold with
      role := { strapAt := some (5 * ms), samples := List.replicate 6 0#9 ++ [1#9], runs := 2 } } (by decide +kernel)⟩,
    .of { up with role := { role := .terminusClaim, listenEnd := some (9 * sec) } } (by decide +kernel),
    .of { up with role := { role := .terminusClaim, listenEnd := some (9 * sec), heardHolder := true } } (by decide +kernel)⟩

/-- The hypotheses of CrossoverRows are met, each clause's by itself. -/
theorem witness_CrossoverRows :
    (Met (fun b => b.die.yardUp = true)) ∧
    (Met (fun b => b.die.sigUp = true)) ∧
    (∃ yard : Bool, Met (fun b => b.sound = true ∧ b.die.xoUp = true ∧ (if yard then b.die.yardUp else b.die.sigUp) = true ∧ (if yard then
      b.die.xoHeardByYard else b.die.xoHeardBySignal) + 30 * us ≤ b.now)) ∧
    (Met (fun b => b.die.xoReadyAt.isSome = true ∧ b.die.sigUp = true ∧ b.die.yardUp = true)) ∧
    (∃ v : Nat, ∃ x : Int, v < 64 ∧ Met (fun b => b.die.xoUp = true ∧ b.die.yardUp = true ∧ b.die.sigUp = true ∧ 1 ≤ levelUpdates (curLevel
      b) ∧ b.eng.xpending = [] ∧ crossValue b v = some x)) ∧
    (∃ v : Nat, v < 64 ∧ Met (fun b => b.die.yardUp = true ∧ b.die.xoUp = false)) ∧
    (∃ r : EventRecord, ∃ l : List EventRecord, Met (fun b => b.die.yardUp = true ∧ b.die.xoUp = true ∧ ringRoom 56 b = true ∧ b.ev.latch =
      { held := r :: l, spill := [] } ∧ b.pk.sessions.all (fun x => decide (x.evQueue.length < 128)) = true)) :=
  ⟨.of up (by decide +kernel),
    .of up (by decide +kernel),
    ⟨true, .of up (by decide +kernel)⟩,
    .of { up with die := { up.die with xoUp := false, xoReadyAt := some 5 } } (by decide +kernel),
    ⟨1, 0, by decide +kernel, .of { (up.put (F.CLE_XSEL_SEL 1) 1) with die := { up.die with xoUp := true } } (by decide +kernel)⟩,
    ⟨63, by decide +kernel, .of { up with die := { up.die with xoUp := false } } (by decide +kernel)⟩,
    ⟨{ source := 5, origin := 0, detail := 0, stamp := 7, merged := 0, arg := 0 }, [], .of { upr with
      ev := { latch := { held := [{ source := 5, origin := 0, detail := 0, stamp := 7, merged := 0, arg := 0 }], spill := [] } } }
      (by decide +kernel)⟩⟩

/-- The hypotheses of SignalDieRows are met, each clause's by itself. -/
theorem witness_SignalDieRows :
    (Met (fun b => powered b = true)) ∧
    (Met (fun b => b.sound = true ∧ powered b = true ∧ b.die.sigUp = false ∧ b.die.sigRestartAt.isSome = true ∧ hasImage (boot 0 b) 0 =
      true ∧ b.upd.restartDue = [] ∧ b.upd.yardNext = false ∧ trialSlot b 0 = none)) ∧
    (∃ e, Met (fun b => b.sound = true ∧ b.die.holdUntil = some e ∧ b.die.sigUp = false ∧ e ≤ b.now)) ∧
    (∃ d : Nat, d < 2 ∧ Met (fun b => b.sound = true ∧ powered b = true ∧ nth b.upd.booted d true = false ∧ dieDown b d = true ∧ trialSlot
      b d = none ∧ imageValid b d (activeSlot b d) = true ∧ b.upd.restartDue = [])) :=
  ⟨.of up (by decide +kernel),
    .of { up with die := { up.die with sigUp := false, sigRestartAt := some 1 } } (by decide +kernel),
    ⟨9 * sec, .of { up with die := { up.die with sigUp := false, sigRestartAt := some 1, holdUntil := some (9 * sec) } }
      (by decide +kernel)⟩,
    ⟨1, by decide +kernel, .of { up with die := { up.die with yardUp := false, yardRestartAt := some 1 } } (by decide +kernel)⟩⟩

/-- The hypotheses of YardDieRows are met, each clause's by itself. -/
theorem witness_YardDieRows :
    (Met (fun b => powered b = true)) ∧
    (Met (fun b => b.sound = true ∧ powered b = true ∧ b.die.yardUp = false ∧ b.die.yardRestartAt.isSome = true ∧ hasImage (boot 1 b) 1 =
      true ∧ b.upd.restartDue = [] ∧ trialSlot b 1 = none ∧ isTerminus b = false)) ∧
    (∃ e, Met (fun b => b.die.plannedUntil = some e ∧ e ≤ b.now ∧ b.die.xoUp = false ∧ b.die.sigUp = true)) :=
  ⟨.of up (by decide +kernel),
    .of { stat with die := { up.die with yardUp := false, yardRestartAt := some 1 } } (by decide +kernel),
    ⟨9 * sec, .of { up with die := { up.die with xoUp := false, plannedUntil := some (9 * sec) } } (by decide +kernel)⟩⟩

/-- The hypotheses of PowerRows are met, each clause's by itself. -/
theorem witness_PowerRows :
    (∃ mv, 8600 < mv ∧ mv < 65536 ∧ Met (fun b => b.sound = true ∧ b.pwr.power = .off)) ∧
    (Met (fun b => b.sound = true ∧ b.pwr.power = .up)) ∧
    (∃ f, Met (fun b => powered b = true ∧ b.die.sigUp = true ∧ b.pwr.ignLowFrom = some f ∧ b.get F.PWR_WAKE_IGN_OFF ≠ 0 ∧ f + b.get
      F.PWR_WAKE_IGN_OFF * 10 * sec ≤ b.now ∧ b.pwr.sleepAt = none ∧ sleepCheck b = St.ok)) ∧
    (Met (fun b => b.sound = true ∧ powered b = true ∧ due b.pwr.sleepAt b = true)) ∧
    (∃ src, (src = 1 ∨ src = 4) ∧ Met (fun b => b.sound = true ∧ b.pwr.power = .asleep)) ∧
    (Met (fun b => b.sound = true ∧ b.pwr.power = .up ∧ b.pwr.sleepAt.isSome = true ∧ b.flag F.PWR_WAKE_LINE_WAKE = true)) ∧
    (∃ n, n < 4 ∧ Met (fun b => b.sound = true ∧ b.pwr.power = .asleep ∧ b.flag (F.MDB_C_CFG_WAKE_EN n) = true ∧ b.get (F.MDB_C_CFG_MODE n)
      ≠ 0)) ∧
    (∃ i, i < 4 ∧ Met (fun b => b.sound = true ∧ powered b = true ∧ b.bit F.PWR_OUT_CAM_PWR i = true)) ∧
    (Met (fun b => b.sound = true ∧ powered b = true)) ∧
    (Met (fun b => b.sound = true ∧ powered b = true ∧ b.load.latchedMap = none ∧ b.role.role ≠ .unlatched ∧ hasImage (boot 0 b) 0 = true ∧
      trialSlot b 0 = none ∧ mapGood (storedMap b) (storedMapCrc b) = true)) :=
  ⟨⟨8601, by decide +kernel, by decide +kernel, .of { State.reset with now := 10 * sec, pwr := { power := .off } } (by decide +kernel)⟩,
    .of up (by decide +kernel),
    ⟨0, .of { (up.put F.PWR_WAKE_IGN_OFF 1) with now := 300 * sec, pwr := { up.pwr with ignLowFrom := some 0 } } (by decide +kernel)⟩,
    .of { up with pwr := { up.pwr with sleepAt := some 1 } } (by decide +kernel),
    ⟨4, by decide +kernel, .of { (up.put F.PWR_WAKE_LINE_WAKE 1) with pwr := { power := .asleep } } (by decide +kernel)⟩,
    .of { (up.put F.PWR_WAKE_LINE_WAKE 1) with pwr := { power := .up, sleepAt := some (11 * sec) } } (by decide +kernel),
    ⟨3, by decide +kernel, .of { ((up.put (F.MDB_C_CFG_WAKE_EN 3) 1).put (F.MDB_C_CFG_MODE 3) 1) with pwr := { power := .asleep } }
      (by decide +kernel)⟩,
    ⟨3, by decide +kernel, .of (up.put F.PWR_OUT_CAM_PWR 15) (by decide +kernel)⟩,
    .of (up.put F.PWR_OUT_SENS_EN 3) (by decide +kernel),
    .of { cold with role := { role := .station } } (by decide +kernel)⟩

/-- The hypotheses of SessionExpiryRows are met, each clause's by itself. -/
theorem witness_SessionExpiryRows :
    (∃ n x, Met (fun b => findSession b n = some x ∧ x.isOpen = false ∧ x.openBy ≤ b.now)) ∧
    (∃ n x, Met (fun b => findSession b n = some x ∧ (x.isOpen = true ∨ b.now < x.openBy))) ∧
    (∃ n x, Met (fun b => findSession b n = some x ∧ x.isOpen = true ∧ ownsSession n b = true ∧ x.lastAuth + 30 * sec ≤ b.now)) ∧
    (∃ n x, Met (fun b => findSession b n = some x ∧ b.now < x.lastAuth + 30 * sec)) ∧
    (∃ n x, Met (fun b => findSession b n = some x)) ∧
    (∃ x : IsoTp, Met (fun b => b.pk.isoRx = some x ∧ x.deadline.any (fun e => decide (e ≤ b.now)) = true ∧ b.pk.isoTx = none ∧
      b.pk.asUntil = none)) :=
  ⟨⟨1, pend, .of { up with pk := { up.pk with sessions := [pend] } } (by decide +kernel)⟩,
    ⟨1, sess, .of up (by decide +kernel)⟩,
    ⟨1, sess, .of { up with now := 40 * sec } (by decide +kernel)⟩,
    ⟨1, sess, .of up (by decide +kernel)⟩,
    ⟨1, { sess with unlocked := [(3, 9 * sec), (4, 11 * sec)] }, .of { up with
      pk := { up.pk with sessions := [{ sess with unlocked := [(3, 9 * sec), (4, 11 * sec)] }] } } (by decide +kernel)⟩,
    ⟨rxIso, .of { up with pk := { up.pk with isoRx := some rxIso } } (by decide +kernel)⟩⟩

/-- The hypotheses of WaitingRequestRows are met, each clause's by itself. -/
theorem witness_WaitingRequestRows :
    (∃ w : Waiting, ∃ ip port, Met (fun b => b.die.yardUp = true ∧ b.pk.waiting = [w] ∧ w.orphan = false ∧ w.interimAt ≤ b.now ∧ w.req.via
      = .host ip port)) ∧
    (∃ w : Waiting, ∃ n : Nat, ∃ ip port, Met (fun b => b.die.yardUp = true ∧ b.pk.waiting = [w] ∧ w.job = .forward n ∧ w.timeoutAt ≤ b.now
      ∧ w.leaving = [] ∧ w.orphan = false ∧ w.req.via = .host ip port ∧ reliefPresent b = false)) ∧
    (∃ (w : Waiting) (info : OpInfo), Met (fun b => b.die.yardUp = true ∧ b.pk.waiting = [w] ∧ servable opTable b w = true ∧ opTable
      w.opcode = some info ∧ 2 < w.opcode ∧ placeOf b w.opcode info.bcast w.req ≠ .all)) ∧
    (∃ w : Waiting, ∃ r : Reply, ∃ ip port, Met (fun b => b.die.yardUp = true ∧ b.pk.waiting = [w] ∧ w.job = .mirror r ∧ mirrored b w =
      true ∧ w.orphan = false ∧ w.req.via = .host ip port)) ∧
    (∃ w : Waiting, ∃ x : Session, Met (fun b => b.die.sigUp = true ∧ b.die.yardUp = true ∧ b.die.dropped = [w] ∧ transportOpen b w.req.via
      = true ∧ w.orphan = false ∧ findSession b w.req.session.toNat = some x ∧ reliefPresent b = false)) ∧
    (∃ w : Waiting, ∃ n : Nat, ∃ r : Reply, ∃ ip port, Met (fun b => isTerminus b = true ∧ b.die.yardUp = true ∧ crc32c (replyBody r
      r.auth) = r.crc ∧ r.session ≠ 0 ∧ bitAt r.flags 3 = false ∧ bitAt r.flags 4 = false ∧ b.pk.waiting = [w] ∧ isWaitingFor r.session
      r.sequence w = true ∧ w.job = .forward n ∧ w.orphan = false ∧ w.req.via = .host ip port ∧ reliefPresent b = false)) ∧
    (∃ th : Throw, ∃ n : Nat, ∃ r : Reply, Met (fun b => isTerminus b = true ∧ b.die.yardUp = true ∧ crc32c (replyBody r r.auth) = r.crc ∧
      r.session = 0 ∧ r.opcode = 0x0202 ∧ b.sets.throw = some th ∧ r.sequence = th.cycle ∧ r.status = St.ok ∧ th.armedOk.contains n =
      false)) :=
  ⟨⟨waits 0x0202 .queued, 7#32, 9#16, .of { up with pk := { up.pk with waiting := [waits 0x0202 .queued] } } (by decide +kernel)⟩,
    ⟨waits 0x0005 (.forward 4), 4, 7#32, 9#16, .of { up with pk := { up.pk with waiting := [waits 0x0005 (.forward 4)] } }
      (by decide +kernel)⟩,
    ⟨waits 0x0005 .queued, _, .of { up with pk := { up.pk with waiting := [waits 0x0005 .queued] } } ⟨by decide +kernel, by decide +kernel,
      by decide +kernel, rfl, by decide +kernel, by decide +kernel⟩⟩,
    ⟨waits 0x0005 (.mirror okReply), okReply, 7#32, 9#16, .of { up with pk := { up.pk with waiting := [waits 0x0005 (.mirror okReply)] } }
      (by decide +kernel)⟩,
    ⟨waits 0x0005 .queued, sess, .of { up with die := { up.die with dropped := [waits 0x0005 .queued] } } (by decide +kernel)⟩,
    ⟨waits 0x0005 (.forward 4), 4, okReply, 7#32, 9#16, .of { up with pk := { up.pk with waiting := [waits 0x0005 (.forward 4)] } }
      (by decide +kernel)⟩,
    ⟨aThrow, 4, armReply, .of { up with sets := { throw := some aThrow } } (by decide +kernel)⟩⟩

/-- The hypotheses of EventRows are met. -/
theorem witness_EventRows :
    ∃ n : Nat, ∃ x : Session, ∃ ip : BitVec 32, ∃ port : BitVec 16, Met (fun b => b.sound = true ∧ findSession b n = some x ∧ x.isOpen =
      true ∧ b.die.yardUp = true ∧ eventDue b.now x = true ∧ x.via = .host ip port) :=
  ⟨1, evSess, 7#32, 9#16, .of { up with pk := { up.pk with sessions := [evSess] } } (by decide +kernel)⟩

/-- The hypotheses of InputAndRegisterRows are met, each clause's by itself. -/
theorem witness_InputAndRegisterRows :
    (∃ q : NetProbe, Met (fun b => b.die.yardUp = true ∧ islandOpen b 10 = true ∧ (isTerminus b = true ∨ isRelief b = true) ∧ b.flag
      F.IDR_STRAP_STRAP_FAULT = false ∧ (∀ ip, q = .arp ip → ip = hostAddress b))) ∧
    (Met (fun b => b.die.yardUp = true ∧ islandOpen b 10 = true)) ∧
    (∃ ip, Met (fun b => ip ≠ hostAddress b)) ∧
    (Met (fun b => b.sound = true)) ∧
    (∃ n, n < 64 ∧ Met (fun b => b.sound = true ∧ b.die.yardUp = true)) ∧
    (Met (fun b => b.die.yardUp = true)) ∧
    (∃ v : BitVec 32, -1000000 ≤ v.toInt ∧ v.toInt ≤ 1000000 ∧ Met (fun b => b.sound = true)) ∧
    (∃ v : BitVec 32, (v.toInt < -1000000 ∨ 1000000 < v.toInt) ∧ Met (fun _ => True)) ∧
    (∃ c, c < 32 ∧ Met (fun b => b.sound = true ∧ b.die.yardUp = true)) ∧
    (Met (fun b => b.sound = true ∧ powered b = true ∧ islandOpen b 0 = true ∧ analogueInstant (deviceTime b) = true)) ∧
    (Met (fun b => b.sound = true ∧ powered b = true ∧ islandOpen b 1 = true ∧ acousticInstant (deviceTime b) = true)) ∧
    (Met (fun b => powered b = true)) ∧
    (∃ ago, ago ≠ [] ∧ ago.all (fun a => decide (a < 100 * us)) = true ∧ Met (fun b => b.sound = true ∧ powered b = true ∧ analogueInstant
      (deviceTime b) = true)) ∧
    (Met (fun b => powered b = true)) ∧
    (Met (fun b => powered b = true ∧ inertialInstant (deviceTime b) = true)) ∧
    (∃ mv, mv < 65536 ∧ Met (fun b => b.sound = true ∧ powered b = true)) :=
  ⟨⟨.arp (hostAddress up), .of up ⟨by decide +kernel, by decide +kernel, by decide +kernel, by decide +kernel, fun ip h =>
      (NetProbe.arp.inj h).symm⟩⟩,
    .of up (by decide +kernel),
    ⟨hostAddress up + 1, .of up (by decide +kernel)⟩,
    .of (up.put F.CLE_SLACK_MIN_SLACK 5) (by decide +kernel),
    ⟨63, by decide +kernel, .of up (by decide +kernel)⟩,
    .of (up.put F.CLE_SLACK_MIN_SLACK 5) (by decide +kernel),
    ⟨BitVec.ofInt 32 (-1000000), by decide +kernel, by decide +kernel, .of up (by decide +kernel)⟩,
    ⟨BitVec.ofInt 32 1000001, by decide +kernel, .of up (by decide +kernel)⟩,
    ⟨31, by decide +kernel, .of up (by decide +kernel)⟩,
    .of up (by decide +kernel),
    .of up (by decide +kernel),
    .of up (by decide +kernel),
    ⟨[50 * us, 0], by decide +kernel, by decide +kernel, .of up (by decide +kernel)⟩,
    .of up (by decide +kernel),
    .of up (by decide +kernel),
    ⟨65535, by decide +kernel, .of up (by decide +kernel)⟩⟩

/-- The hypotheses of ClockRows are met, each clause's by itself. -/
theorem witness_ClockRows :
    (∃ xtal count, inTolerance (crossNominal xtal) count 100 1000000 = true ∧ Met (fun b => b.sound = true ∧ powered b = true ∧ ¬ (refState
      b (!xtal) = 3 ∧ refState b xtal ≠ 3) ∧ 7 ≤ (refPart b xtal).good)) ∧
    (∃ xtal count ringT, inTolerance (crossNominal xtal) count 100 1000000 = false ∧ inTolerance (ringNominal false) ringT 7 100 = true ∧
      Met (fun b => b.sound = true ∧ powered b = true ∧ refState b xtal ≠ 3 ∧ refState b (!xtal) ≠ 3 ∧ (refPart b xtal).bad = 1)) ∧
    (∃ xtal count, inTolerance (ringNominal xtal) count 7 100 = true ∧ Met (fun b => b.sound = true ∧ powered b = true ∧ (refPart b
      (!xtal)).present = false ∧ 7 ≤ (refPart b xtal).coarse ∧ refState b xtal ≠ 1)) ∧
    (∃ xtal, Met (fun b => b.sound = true ∧ powered b = true ∧ (refPart b xtal).present = true ∧ refState b xtal ≠ 3 ∧ refState b (!xtal) ≠
      3)) ∧
    (∃ xtal, Met (fun b => b.sound = true ∧ powered b = true ∧ (refPart b xtal).present = true ∧ refState b xtal ≠ 3 ∧ refState b (!xtal) =
      3)) ∧
    (∃ xtal at_, Met (fun b => b.sound = true ∧ powered b = true ∧ (refPart b xtal).judgedAt = some at_ ∧ at_ + sec ≤ b.now ∧ refUsable b
      xtal = true)) ∧
    (Met (fun b => b.sound = true ∧ powered b = true ∧ refUsable b false = false ∧ refUsable b true = false ∧ 50 * ms ≤ b.now -
      b.pwr.logicAt ∧ b.load.latchedMap.isSome = true)) ∧
    (Met (fun b => powered b = true ∧ refUsable b false = false ∧ refUsable b true = false ∧ 20 * ms ≤ b.now - b.pwr.logicAt ∧ b.now -
      b.pwr.logicAt < 50 * ms)) ∧
    (∃ g, g < 12 ∧ Met (fun b => b.sound = true ∧ powered b = true)) ∧
    (∃ g, g < 12 ∧ Met (fun b => b.sound = true ∧ powered b = true ∧ gateState b g = 0)) ∧
    (∃ g, g < 12 ∧ Met (fun b => b.sound = true ∧ powered b = true ∧ gateState b g = 1)) ∧
    (∃ g at_, g < 12 ∧ Met (fun b => b.sound = true ∧ b.clk.closing.find? (fun e => e.1 == g) = some (g, at_) ∧ gateState b g = 1 ∧ at_ +
      64 * us ≤ b.now)) :=
  ⟨⟨true, 252062, by decide +kernel, .of { up with clk := { xtal := { present := true, good := 7 } } } (by decide +kernel)⟩,
    ⟨true, 260000, 66560, by decide +kernel, by decide +kernel, .of { (up.put F.CLK_STATUS_TCXO 1) with
      clk := { xtal := { present := true, bad := 1 }, tcxo := { present := true } } } (by decide +kernel)⟩,
    ⟨false, 66560, by decide +kernel, .of { up with clk := { tcxo := { present := true, coarse := 7 } } } (by decide +kernel)⟩,
    ⟨true, .of { (up.put F.CLK_STATUS_XTAL 1) with clk := { xtal := { present := true } } } (by decide +kernel)⟩,
    ⟨true, .of { ((up.put F.CLK_STATUS_XTAL 1).put F.CLK_STATUS_TCXO 3) with clk := { xtal := { present := true } } } (by decide +kernel)⟩,
    ⟨true, 9 * sec, .of { (up.put F.CLK_STATUS_XTAL 1) with clk := { xtal := { present := true, judgedAt := some (9 * sec) } } }
      (by decide +kernel)⟩,
    .of { up with load := { up.load with latchedMap := some [] } } (by decide +kernel),
    .of { up with now := 30 * ms } (by decide +kernel),
    ⟨11, by decide +kernel, .of (up.put F.CLK_GATE_STATE_STATE 0xFFFFFF) (by decide +kernel)⟩,
    ⟨11, by decide +kernel, .of up (by decide +kernel)⟩,
    ⟨11, by decide +kernel, .of (up.put F.CLK_GATE_STATE_STATE 0x400000) (by decide +kernel)⟩,
    ⟨11, 9 * sec, by decide +kernel, .of { (up.put F.CLK_GATE_STATE_STATE 0x400000) with clk := { closing := [(11, 9 * sec)] } }
      (by decide +kernel)⟩⟩

/-- The hypotheses of LevelRows are met, each clause's by itself. -/
theorem witness_LevelRows :
    (∃ canary, Met (fun b => b.sound = true ∧ powered b = true ∧ b.die.yardUp = true ∧ b.flag F.CLK_STATUS_BOTH_LOST = false ∧
      b.lvl.raising = none ∧ curLevel b ≠ 0 ∧ canary ≤ Config.canaryLimit (curLevel b) ∧ curLevel b < targetLevel b ∧ b.lvl.retryAt ≤
      b.now)) ∧
    (∃ canary, Met (fun b => b.sound = true ∧ powered b = true ∧ b.die.yardUp = true ∧ b.flag F.CLK_STATUS_BOTH_LOST = false ∧
      b.lvl.raising = none ∧ canary ≤ Config.canaryLimit (curLevel b) ∧ targetLevel b < curLevel b ∧ 1 < curLevel b)) ∧
    (∃ canary n from_, Met (fun b => b.sound = true ∧ powered b = true ∧ b.flag F.CLK_STATUS_BOTH_LOST = false ∧ b.lvl.raising = some (n,
      from_) ∧ n ≤ targetLevel b ∧ canary ≤ Config.canaryLimit n)) ∧
    (∃ canary n from_, Met (fun b => b.sound = true ∧ powered b = true ∧ b.flag F.CLK_STATUS_BOTH_LOST = false ∧ b.lvl.raising = some (n,
      from_) ∧ n ≤ targetLevel b ∧ Config.canaryLimit n < canary ∧ from_ + 2 * ms ≤ b.now ∧ levelFails b n = 0)) ∧
    (∃ face, face < 770 ∧ Met (fun b => b.sound = true ∧ powered b = true)) ∧
    (∃ face, 800 < face ∧ face < 920 ∧ Met (fun b => b.sound = true ∧ powered b = true)) ∧
    (∃ face, 1050 < face ∧ Met (fun b => b.sound = true ∧ powered b = true ∧ b.lvl.hot = false)) :=
  ⟨⟨0, .of ((((up.put F.PWR_LEVEL_CUR 6).put F.PWR_LEVEL_REQ 7).put F.PWR_LEVEL_CAP 7).put F.PWR_LEVEL_CEIL 7) (by decide +kernel)⟩,
    ⟨0, .of ((((up.put F.PWR_LEVEL_CUR 7).put F.PWR_LEVEL_REQ 1).put F.PWR_LEVEL_CAP 7).put F.PWR_LEVEL_CEIL 7) (by decide +kernel)⟩,
    ⟨0, 7, 9 * sec, .of { ((((up.put F.PWR_LEVEL_CUR 6).put F.PWR_LEVEL_REQ 7).put F.PWR_LEVEL_CAP 7).put F.PWR_LEVEL_CEIL 7) with
      lvl := { raising := some (7, 9 * sec) } } (by decide +kernel)⟩,
    ⟨Config.canaryLimit 7 + 1, 7, 9 * sec, .of raisingState ⟨by decide +kernel, by decide +kernel, by decide +kernel, by decide +kernel,
      by decide +kernel, Nat.lt_succ_self _, by decide +kernel⟩⟩,
    ⟨769, by decide +kernel, .of up (by decide +kernel)⟩,
    ⟨801, by decide +kernel, by decide +kernel, .of (up.put F.PWR_LEVEL_CAP 7) (by decide +kernel)⟩,
    ⟨1051, by decide +kernel, .of up (by decide +kernel)⟩⟩

/-- The hypotheses of LogbookAndDeadmanRows are met, each clause's by itself. -/
theorem witness_LogbookAndDeadmanRows :
    (Met (fun b => b.sound = true ∧ powered b = true ∧ sec ≤ partSecond b)) ∧
    (Met (fun b => powered b = false ∨ partSecond b < sec)) ∧
    (Met (fun b => b.sound = true ∧ powered b = true ∧ b.ev.commitAt ≤ b.now)) ∧
    (Met (fun b => b.sound = true ∧ powered b = true ∧ b.ev.commitAt ≤ b.now)) ∧
    (Met (fun b => b.die.yardUp = true)) ∧
    (Met (fun b => b.sound = true ∧ b.die.yardUp = true)) ∧
    (Met (fun b => b.sound = true ∧ b.die.yardUp = true ∧ b.get F.DMA_RETIRED_SPARES ≠ 0)) ∧
    (Met (fun b => b.sound = true ∧ b.die.yardUp = true)) ∧
    (Met (fun b => b.sound = true ∧ b.die.sigUp = true ∧ b.flag F.LSW_LIMP_MAP_LATCHED = true)) ∧
    (∃ at_, Met (fun b => b.sound = true ∧ powered b = true ∧ b.ev.sigDeadman = some at_ ∧ at_ + 95 * ms ≤ b.now ∧ unhealthyTrial b 0 =
      false)) ∧
    (∃ at_, Met (fun b => b.sound = true ∧ powered b = true ∧ b.ev.yardDeadman = some at_ ∧ at_ + 475 * ms ≤ b.now ∧ unhealthyTrial b 1 =
      false)) :=
  ⟨.of up (by decide +kernel),
    .of (State.reset) (by decide +kernel),
    .of { up with now := 60 * sec } (by decide +kernel),
    .of { up with now := 60 * sec } (by decide +kernel),
    .of up (by decide +kernel),
    .of up (by decide +kernel),
    .of (up.put F.DMA_RETIRED_SPARES 5) (by decide +kernel),
    .of up (by decide +kernel),
    .of ((up.put F.LSW_LIMP_MAP_LATCHED 1).put F.LSW_LIMP_DEADMAN 1) (by decide +kernel),
    ⟨9 * sec, .of { up with ev := { sigDeadman := some (9 * sec) } } (by decide +kernel)⟩,
    ⟨9 * sec, .of { up with ev := { yardDeadman := some (9 * sec) } } (by decide +kernel)⟩⟩

/-- The hypotheses of LineCycleRows are met, each clause's by itself. -/
theorem witness_LineCycleRows :
    (Met (fun b => b.sound = true ∧ cycleOver b = true ∧ b.line.yieldRole = false ∧ b.sets.sigToken = none ∧ b.sets.lateAt = none ∧
      isTerminus b = false)) ∧
    (∃ x, Met (fun b => b.die.yardUp = true ∧ cycleOver b = false ∧ inBestEffort b = true ∧ doneNow b 0 = false ∧ x ∈ slots b ∧ x.cls = 0 ∧
      addressed b x = true ∧ sends b x = false ∧ b.line.seen.contains x.entry = false)) ∧
    (Met (fun b => b.sound = true ∧ isTerminus b = false ∧ b.die.yardUp = true ∧ b.flag F.LIN_STATUS_LINE_LOST = false ∧ 5 ≤ b.get
      F.LIN_STATUS_MISSED)) ∧
    (∃ entry, Met (fun b => 5 ≤ missesOf b entry ∧ b.flag F.LIN_STATUS_LINE_LOST = false ∧ b.eng.lostEntries.contains entry = false ∧
      (usedEntries b 4).contains entry = true)) ∧
    (Met (fun b => b.sound = true ∧ isTerminus b = false ∧ 32 ≤ b.line.freeRun)) ∧
    (Met (fun b => b.sound = true ∧ isTerminus b = false ∧ b.die.yardUp = true ∧ 16 ≤ b.line.syncRun)) ∧
    (∃ c, Met (fun b => b.sound = true ∧ b.line.startCycle = some c ∧ b.die.yardUp = true ∧ b.role.joined = true ∧ cycleReached (cycle32 b)
      c = true ∧ b.get F.LIN_STATUS_HOLD_OUT = 0 ∧ b.flag F.CFG_STATE_SET_MISMATCH = false ∧ b.flag F.LIN_STATUS_LINE_LOST = false)) :=
  ⟨.of { (stat.put F.LIN_CYCLE_CYCLE 9999) with line := { seen := [1], heard := [2], csHops := some 3, syncRun := 4, freeRun := 2 } }
      (by decide +kernel),
    ⟨dataSlot, .of { lineOn with role := { role := .station, joined := true }, now := 10 * sec + 500 * us } (by decide +kernel)⟩,
    .of ((stat.put F.LIN_STATUS_MISSED 5).put F.LIN_STATUS_SYNCED 1) (by decide +kernel),
    ⟨5, .of { (((stat.put (F.CLE_LOOP_CFG_EN 0) 1).put (F.CLE_LOOP_SRC_KIND 0) 4).put (F.CLE_LOOP_SRC_INDEX 0) 5) with
      line := { misses := [(5, 5)] } } (by decide +kernel)⟩,
    .of { (stat.put F.LIN_STATUS_IN_TIMETABLE 1) with line := { freeRun := 32 } } (by decide +kernel),
    .of { stat with line := { syncRun := 16 } } (by decide +kernel),
    ⟨10000, .of { stat with line := { startCycle := some 10000 } } (by decide +kernel)⟩⟩

/-- The hypotheses of ReservedFrameRows are met, each clause's by itself. -/
theorem witness_ReservedFrameRows :
    (∃ x q, Met (fun b => slotNo b x.entry = some x ∧ x.entry ≠ 0 ∧ sends b x = true ∧ sendsNow b = true ∧ copyDue b x true = true ∧
      copyDue b x false = true ∧ doneNow b (16 + x.entry) = false ∧ x.cls = 1 ∧ b.flag F.LIN_STATUS_LINE_LOST = false ∧ b.line.replyWait =
      [] ∧ b.line.queues.find? (fun e => e.1 == x.entry) = some q ∧ portOpen b true = true ∧ portOpen b false = true)) ∧
    (∃ x q east, Met (fun b => slotNo b x.entry = some x ∧ x.entry ≠ 0 ∧ sends b x = true ∧ sendsNow b = true ∧ copyDue b x east = true ∧
      copyDue b x (!east) = false ∧ doneNow b (16 + x.entry) = false ∧ x.cls = 1 ∧ b.flag F.LIN_STATUS_LINE_LOST = false ∧
      b.line.queues.find? (fun e => e.1 == x.entry) = some q ∧ portOpen b east = true)) ∧
    (∃ east f, Met (fun b => isReserved f = true ∧ portOpen b east = true ∧ portOpen b (!east) = true ∧ headGood f = true ∧ notForwarded b
      f = false)) ∧
    (∃ east f x, Met (fun b => f.type = 2#8 ∧ FreshFrame b east f ∧ slotNo b f.entry.toNat = some x ∧ x.entry = f.entry.toNat ∧ addressed b
      x = true ∧ x.cls = 0 ∧ isMirrorEntry x = false ∧ b.flag F.LIN_STATUS_LINE_LOST = false ∧ b.line.valuesFrom ≤ cycleNow b)) ∧
    (∃ east f x, Met (fun b => f.type = 2#8 ∧ FreshFrame b east f ∧ slotNo b f.entry.toNat = some x ∧ x.entry = f.entry.toNat ∧ (addressed
      b x = false ∨ cycleNow b < b.line.valuesFrom))) ∧
    (∃ east f, Met (fun b => f.type = 2#8 ∧ srcIsOwn b f.src.toNat = false ∧ portOpen b east = true ∧ frameGood f = true ∧ f.cycle.toNat =
      b.get F.LIN_CYCLE_CYCLE ∧ f.setId.toNat = ownSetId b ∧ b.line.seen.contains f.entry.toNat = true)) ∧
    (∃ east f x, Met (fun b => f.type = 3#8 ∧ FreshFrame b east f ∧ slotNo b f.entry.toNat = some x ∧ x.entry = f.entry.toNat ∧ addressed b
      x = true ∧ x.cls = 1 ∧ fieldAt f.payload 1 1 = 0 ∧ 1 ≤ fieldAt f.payload 2 2 ∧ fieldAt f.payload 2 2 + 4 ≤ f.payload.length)) :=
  ⟨⟨cmdSlot, (1, [7#8]), .of { lineOn with line := { queues := [(1, [7#8])] } } (by decide +kernel)⟩,
    ⟨splitSlot, (1, [7#8]), true, .of { splitOn with line := { queues := [(1, [7#8])] } } (by decide +kernel)⟩,
    ⟨true, reservedFrame stat 2 3 5 1 true [9#8], .of stPorts (by decide +kernel)⟩,
    ⟨true, reservedFrame lineOn 2 9 2 1 true [9#8], dataSlot, .of lineSt (by decide +kernel)⟩,
    ⟨true, reservedFrame lineOn 2 9 2 1 true [9#8], dataSlot, .of { lineSt with line := { lineSt.line with valuesFrom := 10001 } }
      (by decide +kernel)⟩,
    ⟨true, reservedFrame lineOn 2 9 2 1 true [9#8], .of { lineSt with line := { seen := [2] } } (by decide +kernel)⟩,
    ⟨true, reservedFrame lineOn 3 0x40 1 1 true ([3#8, 0#8, 2#8, 0#8] ++ [1#8, 2#8]), cmdSlot, .of lineSt (by decide +kernel)⟩⟩

/-- The hypotheses of CycleStartRows are met, each clause's by itself. -/
theorem witness_CycleStartRows :
    (∃ east f holder, holder < 64 ∧ Met (fun b => b.sound = true ∧ isTerminus b = false ∧ portOpen b east = true ∧ f.type = 1#8 ∧ frameGood
      f = true ∧ f.cycle.toNat = b.get F.LIN_CYCLE_CYCLE ∧ b.line.csHops = none)) ∧
    (∃ east f, Met (fun b => b.sound = true ∧ isTerminus b = true ∧ portOpen b east = true ∧ f.type = 1#8 ∧ frameGood f = true ∧ fieldAt
      f.payload 16 8 < ownUid b ∧ b.flag F.IDR_ROLE_TAKEN_OVER = false ∧ (∀ x, b.role.firstCycleStart = some x → b.now < x + 100 * ms))) ∧
    (∃ east f x, Met (fun b => b.sound = true ∧ isTerminus b = true ∧ portOpen b east = true ∧ f.type = 1#8 ∧ frameGood f = true ∧ fieldAt
      f.payload 16 8 ≠ ownUid b ∧ (b.flag F.IDR_ROLE_TAKEN_OVER = true ∨ b.role.firstCycleStart = some x ∧ x + 100 * ms ≤ b.now) ∧
      (b.line.sentHeard < fieldAt f.payload 13 1 ∨ b.line.sentHeard = fieldAt f.payload 13 1 ∧ fieldAt f.payload 16 8 < ownUid b) ∧
      b.line.yieldRole = false)) :=
  ⟨⟨true, reservedFrame lineOn 1 0x40 0 1 true [], 63, by decide +kernel, .of lineSt (by decide +kernel)⟩,
    ⟨true, reservedFrame lineOn 1 0x40 0 1 true [], .of (lineOn.setReg Reg.IDR_UID_LO 5) (by decide +kernel)⟩,
    ⟨true, reservedFrame lineOn 1 0x40 0 1 true (List.replicate 13 0#8 ++ [5#8, 0#8, 0#8] ++ leBytes 8 77), 9 * sec, .of { lineOn with
      role := { role := .terminus, joined := true, firstCycleStart := some (9 * sec) } } (by decide +kernel)⟩⟩

/-- The hypotheses of JoinRows are met, each clause's by itself. -/
theorem witness_JoinRows :
    (Met (fun b => b.sound = true ∧ b.role.role ∈ [.station, .reliefClaim, .relief, .stoodDown, .noRole] ∧ (∀ c, b.line.joinSent = some c →
      c + 100 ≤ cycleNow b) ∧ b.flag F.LIN_STATUS_SYNCED = true ∧ b.get F.LIN_POS_POS_E ≠ 0x7F ∧ (b.line.joinAnswered = false ∨ b.flag
      F.CFG_STATE_SET_MISMATCH = true) ∧ NoCheckOwed b (bePort b (b.get F.LIN_POS_MASTER_NUM)) ∧ LeavesNow b (bePort b (b.get
      F.LIN_POS_MASTER_NUM)) 1)) ∧
    (∃ east f, Met (fun b => b.sound = true ∧ isTerminus b = true ∧ f.type = 0x10#8 ∧ beForMe b east f = true ∧ (memberOfUid b (fieldAt
      f.payload 0 8)).any (fun m => m.result == 0) = false ∧ bitsAt (fieldAt f.payload 8 4) 8 8 = bitsAt (b.reg Reg.IDR_LINE_REV) 8 8 ∧
      bitsAt (fieldAt f.payload 12 4) 0 2 ≠ 1 ∧ bitAt (fieldAt f.payload 12 4) 16 = false ∧ bitAt (fieldAt f.payload 12 4) 17 = false ∧
      bitAt (fieldAt f.payload 12 4) 2 = false ∧ fieldAt f.payload 16 1 ≠ joinNum b ∧ fieldAt f.payload 16 1 < 64 ∧ otherHolder b (fieldAt
      f.payload 0 8) (fieldAt f.payload 16 1) = none ∧ f.setId.toNat = ownSetId b)) ∧
    (∃ east f, Met (fun b => b.sound = true ∧ isTerminus b = true ∧ f.type = 0x10#8 ∧ beForMe b east f = true ∧ (memberOfUid b (fieldAt
      f.payload 0 8)).any (fun m => m.result == 0) = false ∧ bitsAt (fieldAt f.payload 8 4) 8 8 ≠ bitsAt (b.reg Reg.IDR_LINE_REV) 8 8 ∧
      fieldAt f.payload 16 1 < 64)) ∧
    (∃ east f, Met (fun b => b.sound = true ∧ isTerminus b = false ∧ f.type = 0x11#8 ∧ beForMe b east f = true ∧ fieldAt f.payload 0 8 =
      ownUid b ∧ fieldAt f.payload 8 1 = 0)) ∧
    (∃ east f, Met (fun b => b.sound = true ∧ isTerminus b = false ∧ f.type = 0x11#8 ∧ beForMe b east f = true ∧ fieldAt f.payload 0 8 =
      ownUid b ∧ 1 ≤ fieldAt f.payload 8 1 ∧ fieldAt f.payload 8 1 ≤ 3)) ∧
    (∃ n m, Met (fun b => b.sound = true ∧ isTerminus b = true ∧ b.line.members = [m] ∧ m.num = n ∧ m.result = 0 ∧ m.absent = false ∧ 5 ≤
      m.silent)) :=
  ⟨.of { ((stPorts.put F.LIN_STATUS_SYNCED 1).put F.LIN_POS_POS_E 1) with role := { role := .station } } (by decide +kernel),
    ⟨true, sealFrame { beFrame lineSt 0x10 0xFF (leBytes 8 77 ++ leBytes 4 (up.reg Reg.IDR_LINE_REV) ++ leBytes 4 0 ++ leBytes 4 63) with
      src := 0x7F#8 }, .of lineOn (by decide +kernel)⟩,
    ⟨true, sealFrame { beFrame lineSt 0x10 0xFF (leBytes 8 77 ++ leBytes 4 65280 ++ leBytes 4 0 ++ leBytes 4 63) with src := 0x7F#8 }, .of
      lineOn (by decide +kernel)⟩,
    ⟨true, sealFrame { beFrame lineOn 0x11 0xFF (leBytes 8 (ownUid up) ++ [0#8, 63#8, 0#8, 0#8] ++ leBytes 4 10003) with src := 0x40#8 },
      .of { lineSt with role := { role := .station } } (by decide +kernel)⟩,
    ⟨true, sealFrame { beFrame lineOn 0x11 0xFF (leBytes 8 (ownUid up) ++ [3#8, 63#8, 0#8, 0#8] ++ leBytes 4 10003) with src := 0x40#8 },
      .of { lineSt with role := { role := .station } } (by decide +kernel)⟩,
    ⟨9, { lineMember with silent := 5 }, .of { up with line := { members := [{ lineMember with silent := 5 }] } } (by decide +kernel)⟩⟩

/-- The hypotheses of LinkRows are met, each clause's by itself. -/
theorem witness_LinkRows :
    (∃ east, Met (fun b => b.sound = true ∧ b.die.yardUp = true ∧ b.flag (upField east) = true)) ∧
    (∃ east, Met (fun b => b.sound = true ∧ b.die.yardUp = true ∧ b.flag (upField east) = false ∧ isRetired 2 (b2n east) 0 b = false)) ∧
    (∃ east, Met (fun b => cycleOver b = true ∧ doneNow b (1 + b2n east) = false ∧ isRetired 2 (b2n east) 0 b = false ∧ 0 < (port b
      east).errors ∧ (port b east).pendingErr = false)) ∧
    (∃ east, Met (fun b => b.sound = true ∧ cycleOver b = true ∧ doneNow b (1 + b2n east) = false ∧ isRetired 2 (b2n east) 0 b = false ∧ 0
      < (port b east).errors ∧ (port b east).pendingErr = true)) ∧
    (∃ east, Met (fun b => b.sound = true ∧ cycleOver b = true ∧ doneNow b (1 + b2n east) = false ∧ isRetired 2 (b2n east) 0 b = false ∧
      (port b east).errors = 0 ∧ (port b east).pendingErr = true ∧ (port b east).checkOk = true)) ∧
    (∃ east, Met (fun b => LeavesNow b east 0 ∧ NoCheckOwed b east ∧ isRetired 2 (b2n east) 0 b = false ∧ (port b east).probeAt ≠ some
      (cycleNow b))) ∧
    (∃ east f, Met (fun b => LeavesNow b east 1 ∧ NoCheckOwed b east ∧ isRetired 2 (b2n east) 0 b = false ∧ frameGood f = true ∧ f.type =
      0x12#8)) ∧
    (∃ east f, Met (fun b => b.sound = true ∧ portUp b east = true ∧ frameGood f = true ∧ f.type = 0x13#8 ∧ (port b east).probeAt = some
      (cycleNow b) ∧ (port b east).delays = [])) ∧
    (∃ east f, Met (fun b => portUp b east = true ∧ frameGood f = true ∧ f.type = 0x14#8 ∧ fieldAt f.payload 0 1 = 0)) ∧
    (∃ east f, Met (fun b => portUp b east = true ∧ frameGood f = true ∧ f.type = 0x14#8 ∧ fieldAt f.payload 0 1 = 0x20)) ∧
    (∃ east f, Met (fun b => b.sound = true ∧ portUp b east = true ∧ frameGood f = true ∧ f.type = 0x14#8 ∧ fieldAt f.payload 0 1 = 2 ∧
      (port b east).asking = false ∧ isRetired 2 (b2n east) 0 b = false)) :=
  ⟨⟨true, .of stPorts (by decide +kernel)⟩,
    ⟨true, .of { (stat.put F.LIN_STATUS_E_END 1) with line := { east := { linked := true } } } (by decide +kernel)⟩,
    ⟨true, .of { (stat.put F.LIN_STATUS_E_UP 1) with line := { east := { linked := true, errors := 1 } } } (by decide +kernel)⟩,
    ⟨true, .of { (stat.put F.LIN_STATUS_E_UP 1) with line := { east := { linked := true, errors := 1, pendingErr := true } } }
      (by decide +kernel)⟩,
    ⟨true, .of { (stat.put F.LIN_STATUS_E_UP 1) with line := { east := { linked := true, pendingErr := true, checkOk := true } } }
      (by decide +kernel)⟩,
    ⟨true, .of stPorts (by decide +kernel)⟩,
    ⟨true, sealFrame { beFrame lineOn 18 0xFF ([]) with src := 5#8 }, .of stPorts (by decide +kernel)⟩,
    ⟨true, sealFrame { beFrame lineOn 19 0xFF (leBytes 4 100) with src := 5#8 }, .of { stPorts with
      line := { east := { probeAt := some 10000 } } } (by decide +kernel)⟩,
    ⟨true, sealFrame { beFrame lineOn 20 0xFF ([]) with src := 5#8 }, .of stPorts (by decide +kernel)⟩,
    ⟨true, sealFrame { beFrame lineOn 20 0xFF ([0x20#8]) with src := 5#8 }, .of stPorts (by decide +kernel)⟩,
    ⟨true, sealFrame { beFrame lineOn 20 0xFF ([2#8]) with src := 5#8 }, .of stPorts (by decide +kernel)⟩⟩

/-- The hypotheses of BestEffortRows are met, each clause's by itself. -/
theorem witness_BestEffortRows :
    (∃ type dest payload rest, Met (fun b => b.die.yardUp = true ∧ inBestEffort b = true ∧ doneNow b 4 = true ∧ b.line.beQueue = (type,
      dest, payload) :: rest ∧ dest < 0x100 ∧ payload.length ≤ 1536 ∧ LeavesNow b (bePort b dest) ((payload.length + 63) / 64))) ∧
    (∃ east f, Met (fun b => b.sound = true ∧ isReserved f = false ∧ oneHop f = false ∧ portOpen b east = true ∧ frameGood f = false ∧
      frameMarked f = false)) ∧
    (∃ east f, Met (fun b => isReserved f = false ∧ oneHop f = false ∧ frameGood f = true ∧ f.turned = false ∧ beOwn b f = false ∧ portOpen
      b (!east) = false ∧ f.dest.toNat ≠ joinNum b ∧ (b.get F.LIN_CFG_N_LINE = 0 ∨ f.hops.toNat < 2 * b.get F.LIN_CFG_N_LINE) ∧ (f.dest =
      0xFF#8 → f.type ≠ 0x16#8) ∧ LeavesNow b east f.len.toNat)) ∧
    (∃ east f, Met (fun b => isReserved f = false ∧ oneHop f = false ∧ headGood f = true ∧ frameGood f = false ∧ f.turned = false ∧ beOwn b
      f = false ∧ portOpen b (!east) = false ∧ f.dest.toNat ≠ joinNum b ∧ (b.get F.LIN_CFG_N_LINE = 0 ∨ f.hops.toNat < 2 * b.get
      F.LIN_CFG_N_LINE) ∧ LeavesNow b east f.len.toNat)) ∧
    (∃ east f num n session udp ip, Met (fun b => isTerminus b = true ∧ f.type = 0x15#8 ∧ beForMe b east f = true ∧ b.dma.diagAt = some
      (num, n, session, udp) ∧ sessionAddress b session = some ip)) :=
  ⟨⟨0x10, 9, [1#8, 2#8], [], .of { stPorts with line := { done := [4], beQueue := [(0x10, 9, [1#8, 2#8])] } } (by decide +kernel)⟩,
    ⟨true, { beFrame lineOn 0x15 9 [] with payload := [1#8] }, .of stPorts (by decide +kernel)⟩,
    ⟨true, sealFrame { beFrame lineOn 0x15 9 [1#8] with src := 5#8 }, .of (stPorts.put F.LIN_STATUS_W_UP 0) (by decide +kernel)⟩,
    ⟨true, { sealFrame { beFrame lineOn 0x15 9 [1#8] with src := 5#8 } with fcs := 1#32 }, .of (stPorts.put F.LIN_STATUS_W_UP 0)
      (by decide +kernel)⟩,
    ⟨true, sealFrame { beFrame lineOn 21 0xFF (List.replicate 64 0#8) with src := 5#8 }, 9, 1, 1, 7000, 7, .of { lineOn with
      dma := { lineOn.dma with diagAt := some (9, 1, 1, 7000) } } (by decide +kernel)⟩⟩

/-- The hypotheses of RoleChangeRows are met, each clause's by itself. -/
theorem witness_RoleChangeRows :
    (∃ c, Met (fun b => isRelief b = true ∧ cycleOver b = true ∧ doneNow b 3 = false ∧ b.line.csHops = none ∧ b.get F.LIN_CFG_N_LINE <
      heardCount b * 2 ∧ 2 ≤ b.line.run ∧ b.line.mirrorAt = some c ∧ cycleNow b - 1 - b.get F.LIN_STATUS_MISSED ≤ c + 4)) ∧
    (Met (fun b => b.sound = true ∧ b.line.takeoverDue = true ∧ isRelief b = true ∧ b.die.yardUp = true ∧ cycleOver b = true)) ∧
    (∃ h uid, Met (fun b => b.sound = true ∧ b.die.yardUp = true ∧ isTerminus b = true ∧ b.upd.handover = some (h, uid) ∧ cycleReached
      (cycle32 b) h = true)) ∧
    (∃ h, Met (fun b => b.sound = true ∧ b.die.yardUp = true ∧ isRelief b = true ∧ b.upd.handToken = some (h, ownUid b) ∧ cycle32 b = h ∧
      b.line.mirrorAt = some (cycleNow b - 1))) ∧
    (∃ n, Met (fun b => b.upd.handWanted = some n ∧ isTerminus b = true ∧ b.upd.handover = none ∧ b.sets.throw = none ∧ (memberPresent b
      n).isSome = true)) :=
  ⟨⟨9999, .of { rel with line := { run := 2, mirrorAt := some 9999, heard := [1, 2] } } (by decide +kernel)⟩,
    .of { rel with line := { takeoverDue := true } } (by decide +kernel),
    ⟨10000, 5, .of { up with upd := { up.upd with handover := some (10000, 5) } } (by decide +kernel)⟩,
    ⟨10000, .of { rel with upd := { up.upd with handToken := some (10000, ownUid rel) }, line := { mirrorAt := some 9999 } }
      (by decide +kernel)⟩,
    ⟨9, .of { up with upd := { up.upd with handWanted := some 9 }, line := { members := [lineMember] } } (by decide +kernel)⟩⟩

/-- The hypotheses of ThrowRows are met, each clause's by itself. -/
theorem witness_ThrowRows :
    (∃ p : Request, ∃ x e n, Met (fun b => b.sound = true ∧ b.die.yardUp = true ∧ b.die.sigUp = true ∧ isTerminus b = false ∧ p.via = .line
      x e ∧ foreignForward b p = false ∧ p.magic = 0x5A47#16 ∧ p.params.length = 8 ∧ p.paramLen = 8#16 ∧ crcGood 0x0202 p = true ∧
      p.sequence.toNat = n ∧ fieldAt p.params 4 4 = n ∧ 2 ≤ p.auth.toNat % 256 ∧ sidingState b = sReady ∧ b.get F.CFG_SIDING_CRC_CRC =
      fieldAt p.params 0 4)) ∧
    (∃ th : Throw, Met (fun b => isTerminus b = true ∧ cycleOver b = true ∧ b.sets.throw = some th ∧ th.committed = none ∧ (b.get
      F.LIN_CYCLE_CYCLE + 2) % 4294967296 = th.cycle)) ∧
    (∃ c n crc, Met (fun b => b.sound = true ∧ powered b = true ∧ b.die.sigUp = true ∧ sidingState b = sArmed ∧ b.sets.armedFor = some n ∧
      cycle32 b = n ∧ b.sets.sigToken = some (n, crc) ∧ b.get F.CFG_SIDING_CRC_CRC = crc ∧ b.sets.siding = some c)) ∧
    (∃ n, Met (fun b => b.sound = true ∧ powered b = true ∧ b.die.sigUp = true ∧ sidingState b = sArmed ∧ b.sets.armedFor = some n ∧
      cycle32 b = n ∧ b.sets.sigToken ≠ some (n, b.get F.CFG_SIDING_CRC_CRC) ∧ b.sets.token.all (fun x => x.1 != n) = true ∧ b.line.csCycle
      = some ((n + 4294967295) % 4294967296))) ∧
    (∃ c at_, Met (fun b => b.sound = true ∧ powered b = true ∧ b.die.sigUp = true ∧ b.sets.lateAt = some at_ ∧ at_ ≤ cycleNow b ∧
      (sidingState b = sReady ∨ sidingState b = sArmed) ∧ b.sets.siding = some c ∧ (b.sets.yardAhead = none ∨ b.die.xoUp = true))) ∧
    (∃ w : Waiting, ∃ n ip port, Met (fun b => isTerminus b = true ∧ b.die.yardUp = true ∧ b.pk.waiting = [w] ∧ w.job = .throwing n ∧
      cycleReached (cycle32 b) ((n + 1) % 4294967296) = true ∧ wasCommitted b n = true ∧ w.orphan = false ∧ w.req.via = .host ip port ∧
      reliefPresent b = false)) ∧
    (∃ w : Waiting, ∃ th : Throw, ∃ ip port, Met (fun b => b.sound = true ∧ isTerminus b = true ∧ b.die.yardUp = true ∧ b.pk.waiting = [w]
      ∧ w.job = .throwing th.cycle ∧ cycleReached (cycle32 b) ((th.cycle + 1) % 4294967296) = true ∧ wasCommitted b th.cycle = false ∧
      b.sets.throw = some th ∧ w.orphan = false ∧ w.req.via = .host ip port ∧ reliefPresent b = false)) :=
  ⟨⟨armReq, 0x40#7, some 1#12, 10008, .of { ((lineSt.put F.CFG_STATE_SIDING sReady).put F.CFG_SIDING_CRC_CRC 77) with
      sets := { siding := some lineSet, running := some lineSet } } (by decide +kernel)⟩,
    ⟨aThrow, .of { ((openPorts up).put F.LIN_CYCLE_CYCLE 38) with sets := { throw := some aThrow } } (by decide +kernel)⟩,
    ⟨fnSet, 10000, 77, .of { ((lineSt.put F.CFG_STATE_SIDING sArmed).put F.CFG_SIDING_CRC_CRC 77) with
      sets := { siding := some fnSet, armedFor := some 10000, sigToken := some (10000, 77) } } (by decide +kernel)⟩,
    ⟨10000, .of { (lineSt.put F.CFG_STATE_SIDING sArmed) with
      line := { csCycle := some 9999 }, sets := { siding := some fnSet, armedFor := some 10000 } } (by decide +kernel)⟩,
    ⟨fnSet, 9990, .of { ((lineSt.put F.CFG_STATE_SIDING sReady).put F.CFG_SIDING_CRC_CRC 77) with
      sets := { siding := some fnSet, running := some lineSet, lateAt := some 9990 } } (by decide +kernel)⟩,
    ⟨waits 0x0202 (.throwing 40), 40, 7#32, 9#16, .of { up with
      pk := { up.pk with waiting := [waits 0x0202 (.throwing 40)] }, sets := { swappedAt := some 40 } } (by decide +kernel)⟩,
    ⟨waits 0x0202 (.throwing 40), { aThrow with failed := [9] }, 7#32, 9#16, .of { up with
      pk := { up.pk with waiting := [waits 0x0202 (.throwing 40)] }, sets := { throw := some { aThrow with failed := [9] } } }
      (by decide +kernel)⟩⟩

/-- The hypotheses of OrderRows are met, each clause's by itself. -/
theorem witness_OrderRows :
    (∃ n, n < 16 ∧ Met (fun b => b.sound = true ∧ b.die.sigUp = true ∧ isTrigger (orderEntry b n 0) = true ∧ (order b n).active = false ∧
      ((order b n).triggered = true ∨ periodsPassed (order b n) ((orderEntry b n 0).value * ms) b.now ≠ 0))) ∧
    (∃ n, n < 16 ∧ Met (fun b => b.sound = true ∧ b.die.sigUp = true ∧ (order b n).active = true ∧ (order b n).nextAt ≤ b.now ∧ (orderEntry
      b n (order b n).step).op = 0)) ∧
    (∃ n e, n < 16 ∧ e.op = 1 ∧ Met (fun b => b.sound = true ∧ b.die.sigUp = true ∧ (order b n).active = true ∧ (order b n).nextAt ≤ b.now
      ∧ orderEntry b n (order b n).step = e ∧ orderWriteOk b { addr := e.addr, mask := e.mask, value := e.value } = true ∧ (order b n).step
      < 63)) ∧
    (∃ n e, n < 16 ∧ e.op = 2 ∧ Met (fun b => b.sound = true ∧ b.die.sigUp = true ∧ (order b n).active = true ∧ (order b n).nextAt ≤ b.now
      ∧ orderEntry b n (order b n).step = e ∧ (order b n).step < 63)) ∧
    (∃ n e, n < 16 ∧ e.op = 4 ∧ 1 ≤ e.onFail ∧ e.onFail < 64 ∧ Met (fun b => b.sound = true ∧ b.die.sigUp = true ∧ (order b n).active =
      true ∧ (order b n).nextAt ≤ b.now ∧ orderEntry b n (order b n).step = e ∧ (order b n).step < 63)) ∧
    (∃ n e, n < 16 ∧ e.op = 6 ∧ Met (fun b => b.sound = true ∧ b.die.sigUp = true ∧ (order b n).active = true ∧ (order b n).nextAt ≤ b.now
      ∧ orderEntry b n (order b n).step = e)) ∧
    (∃ n e, n < 16 ∧ e.op = 7 ∧ Met (fun b => b.sound = true ∧ b.die.sigUp = true ∧ (order b n).active = true ∧ (order b n).nextAt ≤ b.now
      ∧ orderEntry b n (order b n).step = e)) ∧
    (∃ n e, n < 16 ∧ 7 < e.op ∧ e.onFail = 0 ∧ Met (fun b => b.sound = true ∧ b.die.sigUp = true ∧ (order b n).active = true ∧ (order b
      n).nextAt ≤ b.now ∧ orderEntry b n (order b n).step = e ∧ (order b n).step < 64)) :=
  ⟨⟨15, by decide +kernel, .of { up with
      sets := { running := some trigSet, orders := setNth State.reset.sets.orders 15 { triggered := true } } } (by decide +kernel)⟩,
    ⟨15, by decide +kernel, .of (orderAt 63 []) (by decide +kernel)⟩,
    ⟨15, orderEntry (orderAt 62 (stepBytes 1 0 0 (Reg.CLE_LOOP_SETPT 31) 0xFFFF 5)) 15 62, by decide +kernel, by decide +kernel, .of
      (orderAt 62 (stepBytes 1 0 0 (Reg.CLE_LOOP_SETPT 31) 0xFFFF 5)) (by decide +kernel)⟩,
    ⟨15, orderEntry (orderAt 62 (stepBytes 2 0 7 0 0 0)) 15 62, by decide +kernel, by decide +kernel, .of (orderAt 62 (stepBytes 2 0 7 0 0
      0)) (by decide +kernel)⟩,
    ⟨15, orderEntry (orderAt 62 (stepBytes 4 63 0 (Reg.CLE_LOOP_SETPT 0) 0xFFFF 5)) 15 62, by decide +kernel, by decide +kernel,
      by decide +kernel, by decide +kernel, .of (orderAt 62 (stepBytes 4 63 0 (Reg.CLE_LOOP_SETPT 0) 0xFFFF 5)) (by decide +kernel)⟩,
    ⟨15, orderEntry (orderAt 62 (stepBytes 6 0 0 0 0 300)) 15 62, by decide +kernel, by decide +kernel, .of (orderAt 62 (stepBytes 6 0 0 0
      0 300)) (by decide +kernel)⟩,
    ⟨15, orderEntry (orderAt 62 (stepBytes 7 0 0 0 0 300)) 15 62, by decide +kernel, by decide +kernel, .of (orderAt 62 (stepBytes 7 0 0 0
      0 300)) (by decide +kernel)⟩,
    ⟨15, orderEntry (orderAt 62 (stepBytes 9 0 0 0 0 0)) 15 62, by decide +kernel, by decide +kernel, by decide +kernel, .of (orderAt 62
      (stepBytes 9 0 0 0 0 0)) (by decide +kernel)⟩⟩

/-- The hypotheses of VerifyRows are met. -/
theorem witness_VerifyRows :
    ∃ w : Waiting, ∃ ip port, Met (fun b => b.sound = true ∧ b.die.sigUp = true ∧ b.die.yardUp = true ∧ b.pk.waiting = [w] ∧ w.opcode =
      0x0201 ∧ w.job = .verify ∧ w.orphan = false ∧ w.req.via = .host ip port ∧ reliefPresent b = false) :=
  ⟨waits 0x0201 .verify, 7#32, 9#16, .of { up with pk := { up.pk with waiting := [waits 0x0201 .verify] } } (by decide +kernel)⟩

/-- The hypotheses of StreamRows are met, each clause's by itself. -/
theorem witness_StreamRows :
    (∃ cam lines len, ∃ px : CameraData, ∃ i, i < 16 ∧ Met (fun b => b.sound = true ∧ b.fus.held = none ∧ islandOpen b (6 + cam) = true ∧
      takesInput b i 1 cam = true ∧ px.channel = 0 ∧ lines ≤ 2160 ∧ len ≤ 3840 ∧ (∀ j, j < 20 → j ≠ i → takesInput b j 1 cam = false) ∧
      lines = b.get (F.FUS_PRJ_IMG_IMG_H i) ∧ len = b.get (F.FUS_PRJ_IMG_IMG_W i))) ∧
    (∃ cam lines len, ∃ px : CameraData, ∃ i, i < 16 ∧ Met (fun b => b.sound = true ∧ b.fus.held = none ∧ islandOpen b (6 + cam) = true ∧
      takesInput b i 1 cam = true ∧ px.channel = 0 ∧ lines ≤ 2160 ∧ len ≤ 3840 ∧ (stream b i).reconnectAt = none ∧ (∀ j, j < 20 → j ≠ i →
      takesInput b j 1 cam = false) ∧ (lines ≠ b.get (F.FUS_PRJ_IMG_IMG_H i) ∨ len ≠ b.get (F.FUS_PRJ_IMG_IMG_W i)))) ∧
    (∃ px : CameraData, px.channel ≠ 0 ∧ Met (fun b => b.fus.held = none)) ∧
    (∃ port : BitVec 16, Met (fun b => b.fus.held = none ∧ (islandOpen b 10 = false ∨ b.die.yardUp = false ∨ port.toNat ≠ b.get
      F.FUS_LIDAR_PORT_UDP_PORT))) ∧
    (∃ port : BitVec 16, Met (fun b => b.fus.held = none ∧ islandOpen b 10 = true ∧ b.die.yardUp = true ∧ port.toNat = b.get
      F.FUS_LIDAR_PORT_UDP_PORT ∧ b.fus.sweep.packets + 1 < b.get F.FUS_LIDAR_PORT_SWEEP_PKTS)) ∧
    (∃ port : BitVec 16, Met (fun b => b.fus.held = none ∧ islandOpen b 10 = true ∧ b.die.yardUp = true ∧ port.toNat = b.get
      F.FUS_LIDAR_PORT_UDP_PORT ∧ b.get F.FUS_LIDAR_PORT_SWEEP_PKTS ≤ b.fus.sweep.packets + 1)) ∧
    (∃ i, i < 16 ∧ Met (fun b => b.sound = true ∧ b.fus.held = none ∧ b.die.yardUp = true ∧ streamRetired b i = false ∧ 3 ≤ b.get
      (F.FUS_STR_CFG_KIND i) ∧ b.get (F.FUS_STR_CFG_KIND i) ≤ 5 ∧ 4 ≤ b.get (F.FUS_STR_CFG_BLOCK_LOG2 i) ∧ b.get (F.FUS_STR_CFG_BLOCK_LOG2
      i) ≤ 12 ∧ 2 ^ b.get (F.FUS_STR_CFG_BLOCK_LOG2 i) ≤ (stream b i).gathered.length)) ∧
    (∃ i k, i < 16 ∧ Met (fun b => b.sound = true ∧ powered b = true ∧ b.fus.held = none ∧ islandOpen b 1 = true ∧ acousticInstant
      (deviceTime b) = true ∧ gathers b 3 k i = true ∧ (stream b i).gathered.length + 1 < 2 ^ b.get (F.FUS_STR_CFG_BLOCK_LOG2 i))) ∧
    (∃ i, ∃ v : Invocation, i < 20 ∧ Met (fun b => b.sound = true ∧ b.fus.held = none ∧ b.die.yardUp = true ∧ (stream b i).running = some v
      ∧ (streamModel b i).isSome = true)) ∧
    (∃ i, i < 20 ∧ Met (fun b => b.sound = true ∧ watchedStream b i = true ∧ (stream b i).reconnectAt = none ∧ (stream b i).returnedAt =
      none ∧ max (stream b i).lastInput b.fus.since + 200 * ms ≤ b.now)) ∧
    (∃ i r, i < 20 ∧ Met (fun b => b.sound = true ∧ watchedStream b i = true ∧ (stream b i).reconnectAt = none ∧ (stream b i).returnedAt =
      some r ∧ max (stream b i).lastInput b.fus.since + 200 * ms ≤ b.now ∧ b.now ≤ r + 10 * sec)) ∧
    (∃ i r, i < 20 ∧ Met (fun b => b.sound = true ∧ watchedStream b i = true ∧ (stream b i).reconnectAt = some r ∧ r + 500 * ms ≤ b.now)) :=
  ⟨⟨3, 2, 2, { pixels := .raw10 [4, 8, 12, 16] }, 15, by decide +kernel, .of camState (by decide +kernel)⟩,
    ⟨3, 1, 2, { pixels := .raw10 [4, 8] }, 15, by decide +kernel, .of camState (by decide +kernel)⟩,
    ⟨{ channel := 1, pixels := .raw10 [4, 8, 12, 16] }, by decide +kernel, .of camState (by decide +kernel)⟩,
    ⟨5#16, .of (up.put F.FUS_LIDAR_PORT_UDP_PORT 6) (by decide +kernel)⟩,
    ⟨6#16, .of (((up.put F.FUS_LIDAR_PORT_UDP_PORT 6).put F.FUS_LIDAR_PORT_SWEEP_PKTS 2).put F.FUS_LIDAR_FMT_STRIDE 16)
      (by decide +kernel)⟩,
    ⟨6#16, .of (((up.put F.FUS_LIDAR_PORT_UDP_PORT 6).put F.FUS_LIDAR_PORT_SWEEP_PKTS 1).put F.FUS_LIDAR_FMT_STRIDE 16)
      (by decide +kernel)⟩,
    ⟨15, by decide +kernel, .of { ((up.put (F.FUS_STR_CFG_KIND 15) 3).put (F.FUS_STR_CFG_BLOCK_LOG2 15) 4) with
      fus := { streams := setNth State.reset.fus.streams 15 { gathered := List.replicate 16 (5, 7) } } } (by decide +kernel)⟩,
    ⟨15, 1, by decide +kernel, .of (((up.put (F.FUS_STR_CFG_KIND 15) 3).put (F.FUS_STR_CFG_INDEX 15) 1).put (F.FUS_STR_CFG_BLOCK_LOG2 15)
      4) (by decide +kernel)⟩,
    ⟨15, anInvocation, by decide +kernel, .of { (up.put (F.FUS_STR_CFG_KIND 15) 1) with
      sets := { running := some modelSet0 }, fus := { streams := setNth State.reset.fus.streams 15 { running := some anInvocation } } }
      (by decide +kernel)⟩,
    ⟨15, by decide +kernel, .of (up.put (F.FUS_STR_CFG_KIND 15) 1) (by decide +kernel)⟩,
    ⟨15, 5 * sec, by decide +kernel, .of { (up.put (F.FUS_STR_CFG_KIND 15) 1) with
      fus := { streams := setNth State.reset.fus.streams 15 { returnedAt := some (5 * sec) } } } (by decide +kernel)⟩,
    ⟨15, 9 * sec, by decide +kernel, .of { (up.put (F.FUS_STR_CFG_KIND 15) 1) with
      fus := { streams := setNth State.reset.fus.streams 15 { reconnectAt := some (9 * sec) } } } (by decide +kernel)⟩⟩

/-- The hypotheses of FusionRows are met, each clause's by itself. -/
theorem witness_FusionRows :
    (Met (fun b => isTerminus b = true ∧ b.flag F.FUS_CFG_FUSE_EN = true ∧ b.die.yardUp = true ∧ frameBoundary b = some (deviceTime b) ∧
      b.fus.frame = none ∧ b.fus.held = none)) ∧
    (∃ f, Met (fun b => b.sound = true ∧ isTerminus b = true ∧ b.flag F.FUS_CFG_FUSE_EN = true ∧ b.die.yardUp = true ∧ frameBoundary b =
      some (deviceTime b) ∧ b.fus.frame = some f ∧ b.fus.held = none)) ∧
    (Met (fun b => b.sound = true ∧ isTerminus b = true ∧ b.die.yardUp = true ∧ frameBoundary b = some (deviceTime b) ∧ b.fus.held = none ∧
      b.flag F.SET_CTRL_HEADLAND_FORCE = true ∧ b.fn.headland = false)) ∧
    (∃ f, Met (fun b => b.sound = true ∧ isTerminus b = true ∧ b.die.yardUp = true ∧ b.fus.frame = some f)) ∧
    (Met (fun b => settingOn b = false ∨ tickNow b = false)) ∧
    (Met (fun b => b.sound = true ∧ settingOn b = true ∧ tickNow b = true ∧ b.fn.invocation = none ∧ b.fn.pending = none ∧ b.fn.holdUntil ≤
      deviceTime b ∧ (usedFns b).any (eligible b) = true ∧ (policyModel b).isSome = true ∧ b.flag F.FUS_STATUS_GRID_VALID = true)) ∧
    (Met (fun b => b.fn.invocation = none)) ∧
    (∃ inp, Met (fun b => b.fn.invocation = some inp ∧ (settingOn b = false ∨ (usedFns b).all (fun n => !eligible b n) = true ∨ stepChanges
      b inp = []))) ∧
    (∃ inp, Met (fun b => b.sound = true ∧ settingOn b = true ∧ b.fn.invocation = some inp ∧ stepChanges b inp ≠ [])) ∧
    (∃ n, n < 48 ∧ Met (fun b => b.sound = true ∧ b.flag (F.SET_FN_STATE_SETTLING n) = true ∧ (fnPart b n).settleEnd ≤ b.now ∧ fnCauses b n
      = 0)) :=
  ⟨.of { ((up.put F.FUS_CFG_FUSE_EN 1).put F.FUS_CFG_FRAME_PERIOD 100) with fus := { tiles := [] } } (by decide +kernel),
    ⟨aFrame, .of { ((up.put F.FUS_CFG_FUSE_EN 1).put F.FUS_CFG_FRAME_PERIOD 100) with fus := { frame := some aFrame } }
      (by decide +kernel)⟩,
    .of ((up.put F.FUS_CFG_FRAME_PERIOD 100).put F.SET_CTRL_HEADLAND_FORCE 1) (by decide +kernel),
    ⟨aFrame, .of { ((up.put F.FUS_CFG_FUSE_EN 1).put F.FUS_CFG_FRAME_PERIOD 100) with fus := { frame := some aFrame } }
      (by decide +kernel)⟩,
    .of up (by decide +kernel),
    .of stepState (by decide +kernel),
    .of up (by decide +kernel),
    ⟨[1], .of { (up.put F.SET_CFG_SET_EN 1) with fn := { invocation := some [1] } } (by decide +kernel)⟩,
    ⟨[1], .of { stepState.put F.SET_CFG_MAX_CHANGES 1 with fn := { invocation := some [1] } } (by decide +kernel)⟩,
    ⟨47, by decide +kernel, .of (up.put (F.SET_FN_STATE_SETTLING 47) 1) (by decide +kernel)⟩⟩

/-- The hypotheses of LoopRows are met, each clause's by itself. -/
theorem witness_LoopRows :
    (∃ n k, n < 32 ∧ Met (fun b => b.sound = true ∧ b.die.sigUp = true ∧ loopDefined b n = true ∧ (loop b n).sample = none ∧ tickInstant b
      n = some k ∧ tickAllowed b n k = true ∧ loopState b n = lHold)) ∧
    (∃ n k, n < 32 ∧ Met (fun b => b.sound = true ∧ b.die.sigUp = true ∧ loopDefined b n = true ∧ (loop b n).sample = none ∧ channelsExist
      b n = true ∧ tickInstant b n = some k ∧ tickAllowed b n k = true ∧ loopState b n = lRun ∧ (loop b n).lostAt = none ∧ b.flag
      (F.CLE_LOOP_STATUS_LOSS n) = false)) ∧
    (∃ n, n < 32 ∧ Met (fun b => ∀ x, (loop b n).sample = some x → deviceTime b < x.deadline)) ∧
    (∃ n x d, n < 32 ∧ Met (fun b => b.sound = true ∧ channelsExist b n = true ∧ (loop b n).sample = some x ∧ x.deadline ≤ deviceTime b ∧
      x.done = some d ∧ d ≤ x.deadline)) ∧
    (∃ n x d, n < 32 ∧ Met (fun b => b.sound = true ∧ (loop b n).sample = some x ∧ x.deadline ≤ deviceTime b ∧ x.done = some d ∧ x.deadline
      < d)) ∧
    (∃ n, n < 32 ∧ Met (fun b => b.sound = true ∧ b.die.sigUp = true ∧ channelsExist b n = true ∧ loopState b n = lRun ∧ (loop b
      n).lostAt.isSome = true ∧ b.get (F.CLE_LOOP_STATUS_LOSS n) ≠ 2 ∧ graceEnd b n ≤ b.now)) :=
  ⟨⟨31, 10 * sec, by decide +kernel, .of (((((up.put (F.CLE_LOOP_CFG_EN 31) 1).put (F.CLE_LOOP_CFG_PERIOD 31) 1000).put
      (F.CLE_LOOP_SRC_KIND 31) 1).put (F.CLE_LOOP_CFG_DEADLINE 31) 50).put (F.CLE_LOOP_CTRL_STATE 31) 2) (by decide +kernel)⟩,
    ⟨31, 10 * sec, by decide +kernel, .of { (((((up.put (F.CLE_LOOP_CFG_EN 31) 1).put (F.CLE_LOOP_CFG_PERIOD 31) 1000).put
      (F.CLE_LOOP_SRC_KIND 31) 1).put (F.CLE_LOOP_CFG_DEADLINE 31) 50).put (F.CLE_LOOP_CTRL_STATE 31) 1) with
      eng := { loops := setNth State.reset.eng.loops 31 { }, gainEdits := [(31, goodGains)] } } (by decide +kernel)⟩,
    ⟨31, by decide +kernel, .of (((((up.put (F.CLE_LOOP_CFG_EN 31) 1).put (F.CLE_LOOP_CFG_PERIOD 31) 1000).put (F.CLE_LOOP_SRC_KIND 31)
      1).put (F.CLE_LOOP_CFG_DEADLINE 31) 50).put (F.CLE_LOOP_CTRL_STATE 31) 1) (by decide +kernel)⟩,
    ⟨31, { tick := 9 * sec, deadline := 9 * sec + 100, upd := 5, done := some (9 * sec + 100), iNew := 70000, u := 7, sat := true }, 9 *
      sec + 100, by decide +kernel, .of { (((((up.put (F.CLE_LOOP_CFG_EN 31) 1).put (F.CLE_LOOP_CFG_PERIOD 31) 1000).put
      (F.CLE_LOOP_SRC_KIND 31) 1).put (F.CLE_LOOP_CFG_DEADLINE 31) 50).put (F.CLE_LOOP_CTRL_STATE 31) 1) with
      eng := { loops := setNth State.reset.eng.loops 31 { sample := some { tick := 9 * sec, deadline := 9 * sec + 100, upd := 5, done := some (9 * sec + 100), iNew := 70000, u := 7, sat := true } }, gainEdits := [(31, goodGains)] } }
      (by decide +kernel)⟩,
    ⟨31, { tick := 9 * sec, deadline := 9 * sec + 100, upd := 5, done := some (9 * sec + 101), iNew := 70000, u := 7, sat := true }, 9 *
      sec + 101, by decide +kernel, .of { (((((up.put (F.CLE_LOOP_CFG_EN 31) 1).put (F.CLE_LOOP_CFG_PERIOD 31) 1000).put
      (F.CLE_LOOP_SRC_KIND 31) 1).put (F.CLE_LOOP_CFG_DEADLINE 31) 50).put (F.CLE_LOOP_CTRL_STATE 31) 1) with
      eng := { loops := setNth State.reset.eng.loops 31 { sample := some { tick := 9 * sec, deadline := 9 * sec + 100, upd := 5, done := some (9 * sec + 101), iNew := 70000, u := 7, sat := true } }, gainEdits := [(31, goodGains)] } }
      (by decide +kernel)⟩,
    ⟨31, by decide +kernel, .of { ((((((up.put (F.CLE_LOOP_CFG_EN 31) 1).put (F.CLE_LOOP_CFG_PERIOD 31) 1000).put (F.CLE_LOOP_SRC_KIND 31)
      1).put (F.CLE_LOOP_CFG_DEADLINE 31) 50).put (F.CLE_LOOP_CTRL_STATE 31) 1).put (F.CLE_LOOP_STATUS_LOSS 31) 1) with
      eng := { loops := setNth State.reset.eng.loops 31 { lostAt := some 5 }, gainEdits := [(31, goodGains)] } } (by decide +kernel)⟩⟩

/-- The hypotheses of ProtectionRows are met, each clause's by itself. -/
theorem witness_ProtectionRows :
    (∃ c current, c < 32 ∧ Met (fun b => b.sound = true ∧ powered b = true ∧ (chan b c).output = true ∧ ((threshold b c : Int) < current ∨
      (hardLimit c : Int) < current))) ∧
    (∃ c current thr, c < 32 ∧ Met (fun b => b.sound = true ∧ powered b = true ∧ offNow b c = some thr ∧ inLimp b = false ∧ channelSided b
      c = false ∧ b.flag (F.LSW_CH_STAT_WINDOW c) = false ∧ ((thr : Int) < current ∨ (hardLimit c : Int) < current))) ∧
    (∃ c current, c < 32 ∧ Met (fun b => b.sound = true ∧ powered b = true ∧ ((chan b c).output = true → current ≤ (threshold b c : Int) ∧
      current ≤ (hardLimit c : Int)) ∧ ∀ thr ∈ offNow b c, current ≤ (thr : Int) ∧ current ≤ (hardLimit c : Int))) ∧
    (∃ c tj, c < 32 ∧ 1750 ≤ tj ∧ Met (fun b => b.sound = true ∧ powered b = true ∧ ((chan b c).output = true ∨ wantsOn b c = true))) ∧
    (∃ c tj thr, c < 32 ∧ 1750 ≤ tj ∧ Met (fun b => b.sound = true ∧ powered b = true ∧ offNow b c = some thr ∧ inLimp b = false ∧
      channelSided b c = false ∧ b.flag (F.LSW_CH_STAT_WINDOW c) = false)) ∧
    (∃ c tj, c < 32 ∧ Met (fun b => b.sound = true ∧ powered b = true ∧ (tj < 1750 ∨ ((chan b c).output = false ∧ wantsOn b c = false ∧
      offNow b c = none)))) ∧
    (∃ c tj r, c < 32 ∧ tj < 1500 ∧ Met (fun b => b.sound = true ∧ powered b = true ∧ b.get (F.LSW_CH_STAT_CSTATE c) = cLatched ∧ (chan b
      c).retryAt = some r ∧ r ≤ b.now)) ∧
    (∃ c tj, c < 32 ∧ Met (fun b => b.sound = true ∧ powered b = true ∧ (1500 ≤ tj ∨ b.get (F.LSW_CH_STAT_CSTATE c) ≠ cLatched ∨ due (chan
      b c).retryAt b = false))) ∧
    (∃ c, c < 32 ∧ Met (fun b => b.sound = true ∧ powered b = true ∧ b.flag (F.LSW_CH_STAT_WINDOW c) = true ∧ (chan b c).windowEnd ≤
      b.now)) ∧
    (∃ c, c < 32 ∧ Met (fun b => b.flag (F.LSW_CH_STAT_WINDOW c) = false ∨ b.now < (chan b c).windowEnd)) ∧
    (∃ c, c < 32 ∧ Met (fun b => b.sound = true ∧ powered b = true ∧ b.flag (F.LSW_CH_STAT_INRUSH c) = true ∧ (chan b c).inrushFrom + (if
      inLimp b then b.get (F.LSW_CH_CFG_INRUSH_TIME c) * ms * 7 / 10 else b.get (F.LSW_CH_CFG_INRUSH_TIME c) * ms) ≤ b.now)) ∧
    (∃ c, c < 32 ∧ Met (fun b => b.flag (F.LSW_CH_STAT_INRUSH c) = false ∨ b.now < (chan b c).inrushFrom + inrushLasts b c)) ∧
    (∃ c above units, c < 32 ∧ Met (fun b => b.sound = true ∧ powered b = true ∧ openLoadJudged b c = true ∧ b.get (F.LSW_CH_TIME_OL_TIME
      c) ≤ judgedFor b c units ∧ b.flag (F.LSW_CH_STAT_OPEN_LOAD c) ≠ above)) ∧
    (∃ c above units, c < 32 ∧ Met (fun b => openLoadJudged b c = false ∨ judgedFor b c units < b.get (F.LSW_CH_TIME_OL_TIME c) ∨ b.flag
      (F.LSW_CH_STAT_OPEN_LOAD c) = above)) ∧
    (Met (fun b => powered b = false)) ∧
    (Met (fun b => powered b = false)) ∧
    (Met (fun b => powered b = false)) ∧
    (Met (fun b => powered b = false)) ∧
    (Met (fun b => powered b = false)) ∧
    (Met (fun b => powered b = false)) :=
  ⟨⟨31, 10001, by decide +kernel, .of { ((up.put (F.LSW_CH_CFG_OC_THR 31) 100).put (F.LSW_CH_STAT_WINDOW 31) 1) with
      load := { up.load with channels := setNth up.load.channels 31 { output := true } } } (by decide +kernel)⟩,
    ⟨31, 9001, 9000, by decide +kernel, .of { (up.put (F.LSW_CH_CFG_OC_THR 31) 100) with
      load := { up.load with channels := setNth up.load.channels 31 { output := false, offAt := some (10 * sec, 9000) } } }
      (by decide +kernel)⟩,
    ⟨31, 9000, by decide +kernel, .of { (up.put (F.LSW_CH_CFG_OC_THR 31) 100) with
      load := { up.load with channels := setNth up.load.channels 31 { output := false, offAt := some (10 * sec, 9000) } } }
      (by decide +kernel)⟩,
    ⟨31, 1750, by decide +kernel, by decide +kernel, .of { (up.put (F.LSW_CH_CFG_OC_THR 31) 100).put (F.LSW_CH_STAT_CSTATE 31) cPwm with
      load := { up.load with channels := setNth up.load.channels 31 { output := false } } } (by decide +kernel)⟩,
    ⟨31, 1750, 9000, by decide +kernel, by decide +kernel, .of { (up.put (F.LSW_CH_CFG_OC_THR 31) 100) with
      load := { up.load with channels := setNth up.load.channels 31 { output := false, offAt := some (10 * sec, 9000) } } }
      (by decide +kernel)⟩,
    ⟨31, 1750, by decide +kernel, .of up (by decide +kernel)⟩,
    ⟨31, 1499, 10 * sec, by decide +kernel, by decide +kernel, .of { (((up.put (F.LSW_CH_CFG_OC_THR 31) 100).put (F.LSW_CH_STAT_CSTATE 31)
      cLatched).put (F.LSW_CH_CMD_STATE 31) 1) with
      load := { up.load with channels := setNth up.load.channels 31 { retryAt := some (10 * sec) } } } (by decide +kernel)⟩,
    ⟨31, 1500, by decide +kernel, .of { (((up.put (F.LSW_CH_CFG_OC_THR 31) 100).put (F.LSW_CH_STAT_CSTATE 31) cLatched).put
      (F.LSW_CH_CMD_STATE 31) 1) with load := { up.load with channels := setNth up.load.channels 31 { retryAt := some (10 * sec) } } }
      (by decide +kernel)⟩,
    ⟨31, by decide +kernel, .of { (up.put (F.LSW_CH_STAT_WINDOW 31) 1) with
      load := { up.load with channels := setNth up.load.channels 31 { windowEnd := 10 * sec } } } (by decide +kernel)⟩,
    ⟨31, by decide +kernel, .of { (up.put (F.LSW_CH_STAT_WINDOW 31) 1) with
      load := { up.load with channels := setNth up.load.channels 31 { windowEnd := 10 * sec + 1 } } } (by decide +kernel)⟩,
    ⟨31, by decide +kernel, .of { ((up.put (F.LSW_CH_STAT_INRUSH 31) 1).put (F.LSW_CH_CFG_INRUSH_TIME 31) 10) with
      load := { up.load with channels := setNth up.load.channels 31 { inrushFrom := 10 * sec - 10 * ms } } } (by decide +kernel)⟩,
    ⟨31, by decide +kernel, .of { ((up.put (F.LSW_CH_STAT_INRUSH 31) 1).put (F.LSW_CH_CFG_INRUSH_TIME 31) 10) with
      load := { up.load with channels := setNth up.load.channels 31 { inrushFrom := 10 * sec - 10 * ms + 1 } } } (by decide +kernel)⟩,
    ⟨31, true, 255, by decide +kernel, .of ((up.put (F.LSW_CH_CFG_OL_EN 31) 1).put (F.LSW_CH_TIME_OL_TIME 31) 255) (by decide +kernel)⟩,
    ⟨31, false, 254, by decide +kernel, .of (((up.put (F.LSW_CH_CFG_OL_EN 31) 1).put (F.LSW_CH_STAT_OPEN_LOAD 31) 1).put
      (F.LSW_CH_TIME_OL_TIME 31) 255) (by decide +kernel)⟩,
    .of dark (by decide +kernel),
    .of dark (by decide +kernel),
    .of dark (by decide +kernel),
    .of dark (by decide +kernel),
    .of dark (by decide +kernel),
    .of dark (by decide +kernel)⟩

/-- The hypotheses of ChannelRows are met, each clause's by itself. -/
theorem witness_ChannelRows :
    (Met (fun b => b.sound = true ∧ powered b = true)) ∧
    (∃ d : Bool, ∃ mv : Nat, mv < 6000 ∧ Met (fun b => b.sound = true ∧ powered b = true ∧ b.flag (studLow d) = false)) ∧
    (∃ d : Bool, ∃ mv : Nat, mv < 6000 ∧ Met (fun b => b.sound = true ∧ powered b = true ∧ b.flag (studLow d) = true)) ∧
    (∃ mv : Nat, 6000 ≤ mv ∧ Met (fun b => b.sound = true ∧ powered b = true)) ∧
    (Met (fun b => powered b = false)) ∧
    (∃ d : Bool, ∃ mv : Nat, mv < 6000 ∧ Met (fun b => b.sound = true ∧ powered b = true ∧ b.flag (studLow d) = false)) ∧
    (∃ d : Bool, ∃ mv : Nat, mv < 6000 ∧ Met (fun b => b.sound = true ∧ powered b = true ∧ b.flag (studLow d) = true)) ∧
    (∃ mv : Nat, 6000 ≤ mv ∧ Met (fun b => b.sound = true ∧ powered b = true)) ∧
    (Met (fun b => powered b = false)) ∧
    (Met (fun b => b.sound = true ∧ (b.die.sigUp = true ∨ (powered b = true ∧ b.load.latchedMap = none)))) ∧
    (Met (fun b => b.die.sigUp = false ∧ (powered b = false ∨ b.load.latchedMap ≠ none))) ∧
    (Met (fun b => powered b = true)) ∧
    (Met (fun b => powered b = true)) ∧
    (Met (fun b => powered b = false)) ∧
    (Met (fun b => b.sound = true ∧ powered b = true ∧ inLimp b = false ∧ b.load.latchedMap.isSome = true)) ∧
    (Met (fun b => b.sound = true ∧ powered b = true ∧ (inLimp b = true ∨ b.load.latchedMap = none) ∧ b.pwr.sleepAt = none)) ∧
    (Met (fun b => b.sound = true ∧ powered b = true ∧ b.pwr.sleepAt.isSome = true)) ∧
    (Met (fun b => b.sound = true ∧ b.pwr.power = .asleep)) ∧
    (Met (fun b => b.pwr.power = .off)) ∧
    (Met (fun b => b.sound = true)) ∧
    (Met (fun b => b.sound = true ∧ (powered b = false ∨ inLimp b = false))) ∧
    (Met (fun b => b.sound = true ∧ powered b = true ∧ inLimp b = true)) ∧
    (∃ c, c < 32 ∧ Met (fun b => powered b = false ∨ b.get (F.LSW_CH_STAT_CSTATE c) ≠ cPwm ∨ b.get (F.LSW_CH_PWM_FREQ c) = 0)) ∧
    (∃ c, c < 32 ∧ Met (fun b => b.sound = true ∧ powered b = true ∧ b.get (F.LSW_CH_STAT_CSTATE c) = cPwm ∧ b.get (F.LSW_CH_PWM_FREQ c) ≠
      0)) :=
  ⟨.of { up with load := { up.load with studLog := [(9 * sec, 900000, 900000)] } } (by decide +kernel),
    ⟨true, 5999, by decide +kernel, .of up (by decide +kernel)⟩,
    ⟨false, 5999, by decide +kernel, .of (up.put F.LSW_SUPPLY_SUPPLY_LOW_A 1) (by decide +kernel)⟩,
    ⟨6000, by decide +kernel, .of ((up.put F.LSW_SUPPLY_SUPPLY_LOW_B 1).put (F.LSW_CH_CFG_OL_EN 31) 1) (by decide +kernel)⟩,
    .of dark (by decide +kernel),
    ⟨true, 5999, by decide +kernel, .of up (by decide +kernel)⟩,
    ⟨false, 5999, by decide +kernel, .of (up.put F.LSW_SUPPLY_SUPPLY_LOW_A 1) (by decide +kernel)⟩,
    ⟨6000, by decide +kernel, .of ((up.put F.LSW_SUPPLY_SUPPLY_LOW_B 1).put (F.LSW_CH_CFG_OL_EN 31) 1) (by decide +kernel)⟩,
    .of dark (by decide +kernel),
    .of up (by decide +kernel),
    .of { dark with load := { up.load with latchedMap := some [] } } (by decide +kernel),
    .of { (up.put (F.LSW_CH_CURR_CURR 31) 50) with load := { up.load with channels := setNth up.load.channels 31 { output := true } } }
      (by decide +kernel),
    .of up (by decide +kernel),
    .of dark (by decide +kernel),
    .of { up with load := { up.load with latchedMap := some (List.replicate 32 7) } } (by decide +kernel),
    .of up (by decide +kernel),
    .of { up with pwr := { up.pwr with sleepAt := some (11 * sec) } } (by decide +kernel),
    .of { up with pwr := { up.pwr with power := .asleep } } (by decide +kernel),
    .of dark (by decide +kernel),
    .of (up.put F.LSW_LIMP_REQ 1) (by decide +kernel),
    .of up (by decide +kernel),
    .of { (up.put F.LSW_LIMP_LIMP 1) with load := { up.load with latchedMap := some (List.replicate 32 7) } } (by decide +kernel),
    ⟨31, by decide +kernel, .of up (by decide +kernel)⟩,
    ⟨31, by decide +kernel, .of (((up.put (F.LSW_CH_STAT_CSTATE 31) cPwm).put (F.LSW_CH_PWM_FREQ 31) 25000).put (F.LSW_CH_CMD_DUTY 31) 500)
      (by decide +kernel)⟩⟩

/-- The hypotheses of ReceiverRows are met, each clause's by itself. -/
theorem witness_ReceiverRows :
    (Met (fun b => gnssOn b = false)) ∧
    (∃ l : List ChannelDump, (l.map (·.chan)).Nodup ∧ Met (fun b => b.sound = true ∧ gnssOn b = true)) ∧
    (∃ n sig sv aided i, n < 128 ∧ sig < 12 ∧ sv < 256 ∧ Met (fun b => b.sound = true ∧ gnssOn b = true ∧ searchable b sig sv aided = true
      ∧ searchEngine (receiverStart b) aided = some i)) ∧
    (∃ sig sv aided, Met (fun b => gnssOn b = false ∨ searchable b sig sv aided = false ∨ searchEngine (receiverStart b) aided = none)) ∧
    (Met (fun b => gnssOn b = true ∧ b.nav.running = true ∧ epochDue b = false)) ∧
    (Met (fun b => gnssOn b = false ∧ b.nav.running = false ∧ (isTerminus b = false ∨ b.die.yardUp = false ∨ tstate b ≠ tsLocked ∨ b.now <
      b.nav.lastValid + sec))) ∧
    (Met (fun b => b.sound = true ∧ gnssOn b = false ∧ b.nav.running = true)) ∧
    (Met (fun b => b.sound = true ∧ gnssOn b = false ∧ isTerminus b = true ∧ b.die.yardUp = true ∧ tstate b = tsLocked ∧ b.nav.lastValid +
      sec ≤ b.now)) ∧
    (Met (fun b => b.sound = true ∧ gnssOn b = true ∧ (b.nav.running = true → epochDue b = true))) ∧
    (∃ x : GnssFix, Met (fun b => b.sound = true ∧ gnssOn b = true ∧ (b.nav.running = true → epochDue b = true) ∧ isTerminus b = true ∧
      timeSolution (takeNavData x b) x = true ∧ (tstate b = tsAcquiring ∨ tstate b = tsHoldover) ∧ b.nav.good < 9)) ∧
    (∃ x : GnssFix, Met (fun b => b.sound = true ∧ gnssOn b = true ∧ (b.nav.running = true → epochDue b = true) ∧ isTerminus b = true ∧
      timeSolution (takeNavData x b) x = true ∧ tstate b = tsOff ∧ b.nav.good < 9)) ∧
    (∃ x : GnssFix, Met (fun b => b.sound = true ∧ gnssOn b = true ∧ (b.nav.running = true → epochDue b = true) ∧ isTerminus b = true ∧
      timeSolution (takeNavData x b) x = true ∧ b.nav.good = 9 ∧ (tstate b = tsAcquiring ∨ (tstate b = tsHoldover ∧ 10000 ≤ (b.nav.acc +
      timeOffset (takeNavData x b) x).natAbs)))) ∧
    (∃ x : GnssFix, Met (fun b => b.sound = true ∧ gnssOn b = true ∧ (b.nav.running = true → epochDue b = true) ∧ isTerminus b = true ∧
      timeSolution (takeNavData x b) x = true ∧ b.nav.good = 9 ∧ tstate b = tsHoldover ∧ (b.nav.acc + timeOffset (takeNavData x b)
      x).natAbs < 10000)) ∧
    (∃ x : GnssFix, Met (fun b => b.sound = true ∧ gnssOn b = true ∧ (b.nav.running = true → epochDue b = true) ∧ isTerminus b = true ∧
      timeSolution (takeNavData x b) x = false ∧ (tstate b = tsAcquiring ∨ tstate b = tsHoldover))) ∧
    (∃ x : GnssFix, Met (fun b => b.sound = true ∧ gnssOn b = true ∧ (b.nav.running = true → epochDue b = true) ∧ isTerminus b = true ∧
      timeSolution (takeNavData x b) x = true ∧ tstate b = tsLocked)) ∧
    (∃ x : GnssFix, Met (fun b => b.sound = true ∧ gnssOn b = true ∧ (b.nav.running = true → epochDue b = true) ∧ isTerminus b = true ∧
      timeSolution (takeNavData x b) x = false ∧ tstate b = tsLocked)) ∧
    (Met (fun b => b.sound = true ∧ b.steer = none)) ∧
    (Met (fun b => b.steer.isSome = true)) ∧
    (∃ x, Met (fun b => b.sound = true ∧ isTerminus b = true ∧ b.nav.step = some x ∧ stepDue b x = true)) ∧
    (Met (fun b => isTerminus b = false ∨ ∀ x ∈ b.nav.step, stepDue b x = false)) ∧
    (∃ k : Nat, Met (fun b => b.sound = true ∧ b.flag F.GNS_PPS_CFG_PPS_EN = true ∧ pulseTime b = true ∧ b.die.yardUp = true ∧ pulseSecond
      b = some k ∧ b.nav.lastPulse ≠ some k ∧ b.nav.suppressed ≠ some k)) ∧
    (∃ k : Nat, Met (fun b => b.flag F.GNS_PPS_CFG_PPS_EN = true ∧ pulseTime b = true ∧ b.die.yardUp = true ∧ b.nav.ppsFrom = none ∧ (k :
      Int) * sec ≤ (deviceTime b : Int) + b.gets F.GNS_PPS_DELAY_DELAY ∧ (deviceTime b : Int) + b.gets F.GNS_PPS_DELAY_DELAY < (k : Int) *
      sec + 1000 ∧ b.nav.lastPulse ≠ some k ∧ b.nav.suppressed ≠ some k)) ∧
    (∃ k : Nat, Met (fun b => b.flag F.GNS_PPS_CFG_PPS_EN = true ∧ pulseTime b = true ∧ b.die.yardUp = true ∧ pulseSecond b = some k ∧
      b.nav.lastPulse ≠ some k ∧ b.nav.suppressed = some k)) ∧
    (Met (fun b => b.flag F.GNS_PPS_CFG_PPS_EN = false ∨ pulseTime b = false ∨ b.die.yardUp = false ∨ pulseSecond b = none ∨
      (b.nav.lastPulse.isSome = true ∧ pulseSecond b = b.nav.lastPulse))) ∧
    (Met (fun b => b.sound = true)) ∧
    (∃ k, Met (fun b => gnssOn b = false ∨ k = 0 ∨ 3 < k)) ∧
    (∃ k, 1 ≤ k ∧ k ≤ 3 ∧ Met (fun b => b.sound = true ∧ gnssOn b = true ∧ ((toPreamble (corrSource b k).buffer).length < 3 ∨ (toPreamble
      (corrSource b k).buffer).length < beNat (((toPreamble (corrSource b k).buffer).drop 1).take 2) % 1024 + 6))) ∧
    (∃ k frame msg rest, 1 ≤ k ∧ k ≤ 3 ∧ Met (fun b => b.sound = true ∧ gnssOn b = true ∧ Framed k frame msg rest b ∧ ¬ frameChecks frame)) ∧
    (∃ k frame msg rest, 1 ≤ k ∧ k ≤ 3 ∧ Met (fun b => b.sound = true ∧ gnssOn b = true ∧ Framed k frame msg rest b ∧ frameChecks frame ∧
      obsMessages.contains (rtcmNumber msg) = true ∧ observesTracked (rtcmNumber msg) msg = true ∧ (b.flag F.GNS_RTK_CFG_BASE_FILT = true →
      rtcmStation msg = b.get F.GNS_RTK_CFG_BASE_ID))) ∧
    (∃ k frame msg rest, 1 ≤ k ∧ k ≤ 3 ∧ Met (fun b => b.sound = true ∧ gnssOn b = true ∧ Framed k frame msg rest b ∧ frameChecks frame ∧
      obsMessages.contains (rtcmNumber msg) = true ∧ b.flag F.GNS_RTK_CFG_BASE_FILT = true ∧ rtcmStation msg ≠ b.get
      F.GNS_RTK_CFG_BASE_ID)) ∧
    (∃ k frame msg rest, 1 ≤ k ∧ k ≤ 3 ∧ Met (fun b => b.sound = true ∧ gnssOn b = true ∧ Framed k frame msg rest b ∧ frameChecks frame ∧
      (idleMessages.contains (rtcmNumber msg) = true ∨ (obsMessages.contains (rtcmNumber msg) = true ∧ observesTracked (rtcmNumber msg) msg
      = false ∧ (b.flag F.GNS_RTK_CFG_BASE_FILT = true → rtcmStation msg = b.get F.GNS_RTK_CFG_BASE_ID))))) ∧
    (∃ k frame msg rest, 1 ≤ k ∧ k ≤ 3 ∧ Met (fun b => b.sound = true ∧ gnssOn b = true ∧ Framed k frame msg rest b ∧ frameChecks frame ∧
      aidMessages.contains (rtcmNumber msg) = true)) ∧
    (∃ k frame msg rest, 1 ≤ k ∧ k ≤ 3 ∧ Met (fun b => b.sound = true ∧ gnssOn b = true ∧ Framed k frame msg rest b ∧ frameChecks frame ∧
      (obsMessages ++ aidMessages ++ idleMessages).contains (rtcmNumber msg) = false)) ∧
    (Met (fun b => gnssOn b = false)) ∧
    (Met (fun b => b.sound = true ∧ gnssOn b = true)) :=
  ⟨.of up (by decide +kernel),
    ⟨[aDump, { aDump with chan := 3, sig := 12#4 }], by decide +kernel, .of ((((((((up.put F.GNS_CFG_EN 1).put F.PWR_LEVEL_CUR 3).put
      F.GNS_CFG_CONST 15).put F.GNS_CFG_BANDS 3).put (F.GNS_CH_LOCK_LOCK_MS 127) 9).put (F.GNS_CH_SIG_STATE 127) 3).put (F.GNS_CH_SIG_SV
      127) 30).put (F.GNS_CH_SIG_SIG 127) 9) (by decide +kernel)⟩,
    ⟨127, 10, 255, false, 15, by decide +kernel, by decide +kernel, by decide +kernel, .of { (((up.put F.GNS_CFG_EN 1).put F.PWR_LEVEL_CUR
      3).put F.GNS_CFG_CONST 15).put F.GNS_CFG_BANDS 3 with
      nav := { running := true, engines := List.replicate 15 (10 * sec) ++ [10 * sec - 250 * ms] } } (by decide +kernel)⟩,
    ⟨2, 5, false, .of ((((up.put F.GNS_CFG_EN 1).put F.PWR_LEVEL_CUR 3).put F.GNS_CFG_CONST 15).put F.GNS_CFG_BANDS 3) (by decide +kernel)⟩,
    .of { ((up.put F.GNS_CFG_EN 1).put F.PWR_LEVEL_CUR 3) with nav := { running := true, epochAt := some (10 * sec) } } (by decide +kernel),
    .of up (by decide +kernel),
    .of { ((up.put F.GNS_STATUS_FIX 4).put F.GNS_STATUS_HEADING_VALID 1) with nav := { running := true } } (by decide +kernel),
    .of { (up.put F.GNS_STATUS_TSTATE 2) with nav := { lastValid := 9 * sec } } (by decide +kernel),
    .of ((((up.put F.GNS_CFG_EN 1).put F.PWR_LEVEL_CUR 3).put F.GNS_RTK_CFG_AGE_MAX 60).put F.GNS_RTK_CFG_SRC1 1) (by decide +kernel),
    ⟨{ aFix with used := List.replicate 4 (90, 60), gnssTime := 12000000000 }, .of { (((up.put F.GNS_CFG_EN 1).put F.PWR_LEVEL_CUR 3).put
      F.GNS_STATUS_TSTATE 1) with nav := { good := 8, acc := 5, running := true, epochAt := some 0 } } (by decide +kernel)⟩,
    ⟨{ aFix with used := List.replicate 4 (90, 60), gnssTime := 12000000000 }, .of { (((up.put F.GNS_CFG_EN 1).put F.PWR_LEVEL_CUR 3).put
      F.GNS_STATUS_TSTATE 0) with nav := { good := 8 } } (by decide +kernel)⟩,
    ⟨{ aFix with used := List.replicate 4 (90, 60), gnssTime := 12000000000 }, .of { (((up.put F.GNS_CFG_EN 1).put F.PWR_LEVEL_CUR 3).put
      F.GNS_STATUS_TSTATE 1) with nav := { good := 9, acc := 5 } } (by decide +kernel)⟩,
    ⟨{ aFix with used := List.replicate 4 (90, 60), gnssTime := 10000000000 }, .of { (((up.put F.GNS_CFG_EN 1).put F.PWR_LEVEL_CUR 3).put
      F.GNS_STATUS_TSTATE 3) with nav := { good := 9, acc := -9999 } } (by decide +kernel)⟩,
    ⟨{ aFix with used := [], gnssTime := 0 }, .of { (((up.put F.GNS_CFG_EN 1).put F.PWR_LEVEL_CUR 3).put F.GNS_STATUS_TSTATE 3) with
      nav := { good := 9, acc := 5 } } (by decide +kernel)⟩,
    ⟨{ aFix with used := List.replicate 4 (90, 60), gnssTime := 10000000007 }, .of { (((up.put F.GNS_CFG_EN 1).put F.PWR_LEVEL_CUR 3).put
      F.GNS_STATUS_TSTATE 2) with nav := { lastValid := 9 * sec } } (by decide +kernel)⟩,
    ⟨{ aFix with used := [], gnssTime := 0 }, .of { (((up.put F.GNS_CFG_EN 1).put F.PWR_LEVEL_CUR 3).put F.GNS_STATUS_TSTATE 2) with
      nav := { lastValid := 9 * sec } } (by decide +kernel)⟩,
    .of (up.put F.GNS_STATUS_SLEWING 1) (by decide +kernel),
    .of { up.put F.GNS_STATUS_SLEWING 1 with steer := some { start := 10 * sec, base := 0, off := 9, dur := sec } } (by decide +kernel),
    ⟨{ h := 10 * sec, off := 5000000, first := true }, .of { (((up.put F.GNS_CFG_EN 1).put F.PWR_LEVEL_CUR 3).put F.GNS_STATUS_TSTATE 4)
      with nav := { step := some { h := 10 * sec, off := 5000000, first := true } } } (by decide +kernel)⟩,
    .of { ((up.put F.GNS_CFG_EN 1).put F.PWR_LEVEL_CUR 3) with
      nav := { step := some { h := 10 * sec + 1, off := 5000000, first := true } } } (by decide +kernel),
    ⟨10, .of { ((up.put F.GNS_PPS_CFG_PPS_EN 1).put F.GNS_STATUS_TIME_VALID 1) with nav := { realigned := some 10, lastPulse := some 9 } }
      (by decide +kernel)⟩,
    ⟨10, .of { ((up.put F.GNS_PPS_CFG_PPS_EN 1).put F.GNS_STATUS_TIME_VALID 1) with nav := { lastPulse := some 9 } } (by decide +kernel)⟩,
    ⟨10, .of { ((up.put F.GNS_PPS_CFG_PPS_EN 1).put F.GNS_STATUS_TIME_VALID 1) with nav := { suppressed := some 10, lastPulse := some 9 } }
      (by decide +kernel)⟩,
    .of { ((up.put F.GNS_PPS_CFG_PPS_EN 1).put F.GNS_STATUS_TIME_VALID 1) with nav := { lastPulse := some 10 } } (by decide +kernel),
    .of { ((up.put F.GNS_CFG_EN 1).put F.PWR_LEVEL_CUR 3).put F.GNS_ANT_CFG_BIAS_B 1 with
      nav := { ants := [{}, { limitFrom := some (10 * sec - 10 * ms) }] } } (by decide +kernel),
    ⟨4, .of (((up.put F.GNS_CFG_EN 1).put F.PWR_LEVEL_CUR 3)) (by decide +kernel)⟩,
    ⟨3, by decide +kernel, by decide +kernel, .of (feedOf ((up.put F.GNS_CFG_EN 1).put F.PWR_LEVEL_CUR 3) [0xD3#8, 0#8, 3#8, 1#8, 2#8, 3#8,
      4#8]) (by decide +kernel)⟩,
    ⟨3, ([0xD3#8, 0#8, 2#8, 255#8, 240#8, 1#8, 2#8, 3#8] : Bytes), oddMsg, [9#8], by decide +kernel, by decide +kernel, .of (feedOf
      ((up.put F.GNS_CFG_EN 1).put F.PWR_LEVEL_CUR 3) ([0xD3#8, 0#8, 2#8, 255#8, 240#8, 1#8, 2#8, 3#8] : Bytes)) (by decide +kernel)⟩,
    ⟨3, rtcmOf (obsMsg 0x20#8), obsMsg 0x20#8, [9#8], by decide +kernel, by decide +kernel, .of (feedOf ((up.put F.GNS_CFG_EN 1).put
      F.PWR_LEVEL_CUR 3) (rtcmOf (obsMsg 0x20#8))) (by decide +kernel)⟩,
    ⟨3, rtcmOf (obsMsg 0x20#8), obsMsg 0x20#8, [9#8], by decide +kernel, by decide +kernel, .of (feedOf (((up.put F.GNS_CFG_EN 1).put
      F.PWR_LEVEL_CUR 3).put F.GNS_RTK_CFG_BASE_FILT 1) (rtcmOf (obsMsg 0x20#8))) (by decide +kernel)⟩,
    ⟨3, rtcmOf (obsMsg 0#8), obsMsg 0#8, [9#8], by decide +kernel, by decide +kernel, .of (feedOf ((up.put F.GNS_CFG_EN 1).put
      F.PWR_LEVEL_CUR 3) (rtcmOf (obsMsg 0#8))) (by decide +kernel)⟩,
    ⟨3, rtcmOf (ephMsg), ephMsg, [9#8], by decide +kernel, by decide +kernel, .of (feedOf ((((up.put F.GNS_CFG_EN 1).put F.PWR_LEVEL_CUR
      3).put F.CST_CFG_RELAY_TX 1).put F.CST_STATUS_STATE 2) (rtcmOf ephMsg)) (by decide +kernel)⟩,
    ⟨3, rtcmOf (oddMsg), oddMsg, [9#8], by decide +kernel, by decide +kernel, .of (feedOf ((up.put F.GNS_CFG_EN 1).put F.PWR_LEVEL_CUR 3)
      (rtcmOf oddMsg)) (by decide +kernel)⟩,
    .of up (by decide +kernel),
    .of { (((up.put F.GNS_CFG_EN 1).put F.PWR_LEVEL_CUR 3).put F.GNS_STATUS_CORR_OK 1) with nav := { lastValid := 5 } } (by decide +kernel)⟩

/-- The hypotheses of SteeringRows are met, each clause's by itself. -/
theorem witness_SteeringRows :
    (Met (fun b => gnssOn b = false ∨ steerDue b = false)) ∧
    (Met (fun b => b.sound = true ∧ gnssOn b = true ∧ steerDue b = true)) ∧
    (∃ x : NavPoint, ∃ g ey epsi kap, Met (fun b => b.sound = true ∧ gnssOn b = true ∧ steerDue b = true ∧ b.nav.guide = some g ∧
      b.nav.blend = none ∧ b.nav.blendDue = false ∧ errorsNow (steerShifted x g b) g = some (ey, epsi, kap))) ∧
    (∃ x : NavPoint, ∃ g ey epsi kap, Met (fun b => b.sound = true ∧ gnssOn b = true ∧ steerDue b = true ∧ b.nav.guide = some g ∧
      b.nav.blendDue = true ∧ errorsNow (steerShifted x g b) g = some (ey, epsi, kap))) ∧
    (∃ x : NavPoint, ∃ g ey epsi kap t0 dy dp, Met (fun b => b.sound = true ∧ gnssOn b = true ∧ steerDue b = true ∧ b.nav.guide = some g ∧
      b.nav.blendDue = false ∧ b.nav.blend = some (t0, dy, dp) ∧ errorsNow (steerShifted x g b) g = some (ey, epsi, kap))) ∧
    (∃ x : NavPoint, ∃ g ey epsi kap, Met (fun b => b.sound = true ∧ gnssOn b = true ∧ steerDue b = true ∧ engaged b = true ∧ isTerminus b
      = true ∧ b.nav.guide = some g ∧ errorsNow (steerShifted x g b) g = some (ey, epsi, kap) ∧ offBy ey (b.get F.GNS_STEER_ENG_REL_XTE) =
      true)) ∧
    (∃ x : NavPoint, Met (fun b => b.sound = true ∧ gnssOn b = true ∧ steerDue b = true ∧ engaged b = true ∧ isTerminus b = true ∧ (∀ g ∈
      b.nav.guide, ∀ e ∈ errorsNow (steerShifted x g b) g, offBy e.1 (b.get F.GNS_STEER_ENG_REL_XTE) = false) ∧ 3000 < (0 - satS 16
      x.speed) * 36)) ∧
    (∃ x : NavPoint, Met (fun b => b.sound = true ∧ gnssOn b = true ∧ steerDue b = true ∧ engaged b = true ∧ isTerminus b = true ∧ (∀ g ∈
      b.nav.guide, ∀ e ∈ errorsNow (steerShifted x g b) g, offBy e.1 (b.get F.GNS_STEER_ENG_REL_XTE) = false) ∧ (0 - satS 16 x.speed) * 36
      ≤ 3000 ∧ steerPathFault b = true)) ∧
    (∃ x : NavPoint, Met (fun b => b.sound = true ∧ gnssOn b = true ∧ steerDue b = true ∧ (engaged b = false ∨ isRelief b = true ∨ ((∀ g ∈
      b.nav.guide, ∀ e ∈ errorsNow (steerShifted x g b) g, offBy e.1 (b.get F.GNS_STEER_ENG_REL_XTE) = false) ∧ (0 - satS 16 x.speed) * 36
      ≤ 3000 ∧ steerPathFault b = false)))) ∧
    (Met (fun b => enableNow b ≠ b.nav.enRaw)) ∧
    (Met (fun b => enableNow b = b.nav.enRaw ∧ (b.nav.enRaw = b.nav.enabled ∨ b.now < b.nav.enSince + 20 * ms))) ∧
    (Met (fun b => b.nav.enabled = false ∧ b.nav.enRaw = true ∧ enableNow b = true ∧ b.nav.enSince + 20 * ms ≤ b.now)) ∧
    (Met (fun b => b.sound = true ∧ b.nav.enabled = true ∧ b.nav.enRaw = false ∧ enableNow b = false ∧ b.nav.enSince + 20 * ms ≤ b.now)) ∧
    (Met (fun b => b.sound = true ∧ b.get F.GNS_STEER_STATUS_MODE = 3 ∧ b.nav.edgeAt + b.get F.GNS_EDGE2_HOLD * 100 * ms ≤ b.now)) ∧
    (Met (fun b => b.get F.GNS_STEER_STATUS_MODE ≠ 3 ∨ b.now < b.nav.edgeAt + b.get F.GNS_EDGE2_HOLD * 100 * ms)) ∧
    (∃ since, Met (fun b => b.sound = true ∧ b.nav.fixBadSince = some since ∧ since + b.get F.GNS_STEER_SPD_FIX_GRACE * 100 * ms ≤ b.now)) ∧
    (∃ since, Met (fun b => b.sound = true ∧ (∀ a ∈ b.nav.fixBadSince, b.now < a + b.get F.GNS_STEER_SPD_FIX_GRACE * 100 * ms) ∧
      b.nav.hdgBadSince = some since ∧ since + b.get F.GNS_STEER_SPD_FIX_GRACE * 100 * ms ≤ b.now)) ∧
    (Met (fun b => (∀ a ∈ b.nav.fixBadSince, b.now < a + b.get F.GNS_STEER_SPD_FIX_GRACE * 100 * ms) ∧ ∀ a ∈ b.nav.hdgBadSince, b.now < a +
      b.get F.GNS_STEER_SPD_FIX_GRACE * 100 * ms)) ∧
    (∃ since, Met (fun b => b.sound = true ∧ overrideNow b = true ∧ b.nav.ovSince = some since ∧ since + b.get F.GNS_STEER_OVR_OV_TIME * 10
      * ms ≤ b.now)) ∧
    (∃ since, Met (fun b => overrideNow b = true ∧ b.nav.ovSince = some since ∧ b.now < since + b.get F.GNS_STEER_OVR_OV_TIME * 10 * ms)) ∧
    (Met (fun b => overrideNow b = true ∧ b.nav.ovSince = none ∧ b.get F.GNS_STEER_OVR_OV_TIME ≠ 0)) ∧
    (Met (fun b => overrideNow b = false)) ∧
    (∃ since, Met (fun b => b.sound = true ∧ b.nav.spdBadSince = some since ∧ since + sec ≤ b.now)) ∧
    (Met (fun b => ∀ a ∈ b.nav.spdBadSince, b.now < a + sec)) ∧
    (∃ start err, Met (fun b => b.sound = true ∧ b.nav.blend = some (start, err) ∧ start + 2 * sec ≤ b.now)) ∧
    (Met (fun b => ∀ x ∈ b.nav.blend, b.now < x.1 + 2 * sec)) :=
  ⟨.of { ((up.put F.GNS_CFG_EN 1).put F.PWR_LEVEL_CUR 3) with nav := { steerAt := some (10 * sec) } } (by decide +kernel),
    .of (((up.put F.GNS_CFG_EN 1).put F.PWR_LEVEL_CUR 3)) (by decide +kernel),
    ⟨aPoint, edgeGuide, (edgeErrors edgeRun).1, (edgeErrors edgeRun).2.1, (edgeErrors edgeRun).2.2, .of edgeRun ⟨by decide +kernel,
      by decide +kernel, by decide +kernel, by decide +kernel, by decide +kernel, by decide +kernel, edgeErrors_eq _ (by decide +kernel)⟩⟩,
    ⟨aPoint, edgeGuide, (edgeErrors blendDueRun).1, (edgeErrors blendDueRun).2.1, (edgeErrors blendDueRun).2.2, .of blendDueRun
      ⟨by decide +kernel, by decide +kernel, by decide +kernel, by decide +kernel, by decide +kernel, edgeErrors_eq _ (by decide +kernel)⟩⟩,
    ⟨aPoint, edgeGuide, (edgeErrors blendRun).1, (edgeErrors blendRun).2.1, (edgeErrors blendRun).2.2, 9 * sec, some ⟨1, 0⟩, some ⟨1, -4⟩,
      .of blendRun ⟨by decide +kernel, by decide +kernel, by decide +kernel, by decide +kernel, by decide +kernel, by decide +kernel,
      edgeErrors_eq _ (by decide +kernel)⟩⟩,
    ⟨aPoint, edgeGuide, (edgeErrors offRun).1, (edgeErrors offRun).2.1, (edgeErrors offRun).2.2, .of offRun ⟨by decide +kernel,
      by decide +kernel, by decide +kernel, by decide +kernel, by decide +kernel, by decide +kernel, edgeErrors_eq _ (by decide +kernel),
      errors_lost (e := { anEdge with north := none }) rfl rfl rfl (edgeErrors_eq offRun (by decide +kernel)) _⟩⟩,
    ⟨{ aPoint with speed := -84 }, .of ((((up.put F.GNS_CFG_EN 1).put F.PWR_LEVEL_CUR 3).put F.GNS_STEER_STATUS_ENGAGED 1))
      (by decide +kernel)⟩,
    ⟨{ aPoint with speed := -83 }, .of { (((up.put F.GNS_CFG_EN 1).put F.PWR_LEVEL_CUR 3).put F.GNS_STEER_STATUS_ENGAGED 1) with
      nav := { stBad := 2 } } (by decide +kernel)⟩,
    ⟨aPoint, .of ((((up.put F.GNS_CFG_EN 1).put F.PWR_LEVEL_CUR 3).put F.GNS_STEER_STATUS_ENGAGED 1)) (by decide +kernel)⟩,
    .of { up with inp := { din := 1 } } (by decide +kernel),
    .of up (by decide +kernel),
    .of { up with inp := { din := 1 }, nav := { enRaw := true, enSince := 10 * sec - 20 * ms } } (by decide +kernel),
    .of { (((up.put F.GNS_CFG_EN 1).put F.PWR_LEVEL_CUR 3).put F.GNS_STEER_STATUS_ENGAGED 1).put F.GNS_STEER_EN_EN_A 0 with
      nav := { enabled := true, enRaw := false, enSince := 9 * sec } } (by decide +kernel),
    .of { ((((up.put F.GNS_CFG_EN 1).put F.PWR_LEVEL_CUR 3).put F.GNS_STEER_STATUS_ENGAGED 1).put F.GNS_STEER_STATUS_MODE 3) with
      nav := { edgeAt := 1 } } (by decide +kernel),
    .of up (by decide +kernel),
    ⟨1 * sec, .of { (((up.put F.GNS_CFG_EN 1).put F.PWR_LEVEL_CUR 3).put F.GNS_STEER_STATUS_ENGAGED 1) with
      nav := { fixBadSince := some (1 * sec) } } (by decide +kernel)⟩,
    ⟨1 * sec, .of { (((up.put F.GNS_CFG_EN 1).put F.PWR_LEVEL_CUR 3).put F.GNS_STEER_STATUS_ENGAGED 1) with
      nav := { hdgBadSince := some (1 * sec) } } (by decide +kernel)⟩,
    .of ((((up.put F.GNS_CFG_EN 1).put F.PWR_LEVEL_CUR 3).put F.GNS_STEER_STATUS_ENGAGED 1)) (by decide +kernel),
    ⟨1 * sec, .of { ((((((up.put F.GNS_CFG_EN 1).put F.PWR_LEVEL_CUR 3).put F.GNS_STEER_STATUS_ENGAGED 1).put F.GNS_STEER_OVR_OV_EN 1).put
      F.GNS_STEER_OVR_OV_ENTRY 2).put F.GNS_STEER_OVR_THR_OV_THR 4) with
      nav := { ovSince := some (1 * sec) }, line := { values := [(2, 9999, [5#8, 0#8, 0#8, 0#8])] } } (by decide +kernel)⟩,
    ⟨10 * sec, .of { ((((((up.put F.GNS_CFG_EN 1).put F.PWR_LEVEL_CUR 3).put F.GNS_STEER_STATUS_ENGAGED 1).put F.GNS_STEER_OVR_OV_EN 1).put
      F.GNS_STEER_OVR_OV_ENTRY 2).put F.GNS_STEER_OVR_THR_OV_THR 4).put F.GNS_STEER_OVR_OV_TIME 1 with
      nav := { ovSince := some (10 * sec) }, line := { values := [(2, 9999, [5#8, 0#8, 0#8, 0#8])] } } (by decide +kernel)⟩,
    .of { ((((((up.put F.GNS_CFG_EN 1).put F.PWR_LEVEL_CUR 3).put F.GNS_STEER_STATUS_ENGAGED 1).put F.GNS_STEER_OVR_OV_EN 1).put
      F.GNS_STEER_OVR_OV_ENTRY 2).put F.GNS_STEER_OVR_THR_OV_THR 4).put F.GNS_STEER_OVR_OV_TIME 1 with
      line := { values := [(2, 9999, [5#8, 0#8, 0#8, 0#8])] } } (by decide +kernel),
    .of { up with nav := { ovSince := some 5 } } (by decide +kernel),
    ⟨9 * sec, .of { (((up.put F.GNS_CFG_EN 1).put F.PWR_LEVEL_CUR 3).put F.GNS_STEER_STATUS_ENGAGED 1) with
      nav := { spdBadSince := some (9 * sec) } } (by decide +kernel)⟩,
    .of { (((up.put F.GNS_CFG_EN 1).put F.PWR_LEVEL_CUR 3).put F.GNS_STEER_STATUS_ENGAGED 1) with
      nav := { spdBadSince := some (9 * sec + 1) } } (by decide +kernel),
    ⟨8 * sec, (some ⟨0, 0⟩, some ⟨0, 0⟩), .of { (up.put F.GNS_STEER_STATUS_BLEND 1) with
      nav := { blend := some (8 * sec, some ⟨0, 0⟩, some ⟨0, 0⟩) } } (by decide +kernel)⟩,
    .of { up with nav := { blend := some (8 * sec + 1, some ⟨0, 0⟩, some ⟨0, 0⟩) } } (by decide +kernel)⟩

/-- The hypotheses of YieldRows are met, each clause's by itself. -/
theorem witness_YieldRows :
    (Met (fun b => yieldOn b = false ∨ cycleOver b = true ∨ onMultiple b (100 * ms) = none)) ∧
    (∃ t0, Met (fun b => yieldOn b = true ∧ cycleOver b = false ∧ onMultiple b (100 * ms) = some t0 ∧ b.yld.samples.any (fun x => x.at_ ==
      t0) = false)) ∧
    (Met (fun b => yieldOn b = false ∨ b.yld.nextCut = none ∨ ∃ tau, b.yld.nextCut = some tau ∧ deviceTime b < tau + max (b.get
      F.YLD_DELAY_FLOW_DELAY) (b.get F.YLD_DELAY_MOIST_DELAY) * 100 * ms)) ∧
    (∃ tau, Met (fun b => yieldOn b = true ∧ b.yld.nextCut = some tau ∧ b.yld.openId = none ∧ tau + max (b.get F.YLD_DELAY_FLOW_DELAY)
      (b.get F.YLD_DELAY_MOIST_DELAY) * 100 * ms ≤ deviceTime b)) ∧
    (∃ id, Met (fun b => b.die.yardUp = true ∧ b.yld.flushedAt + 10 * sec ≤ b.now ∧ b.yld.openId = some id)) ∧
    (Met (fun b => b.now < b.yld.flushedAt + 10 * sec)) :=
  ⟨.of up (by decide +kernel),
    ⟨10 * sec, .of { (up.put F.YLD_CFG_EN 1).put F.LIN_CYCLE_CYCLE 10000 with yld := { samples := [{ aSample with at_ := 9 * sec }] } }
      (by decide +kernel)⟩,
    .of { (up.put F.YLD_CFG_EN 1) with yld := { nextCut := some (10 * sec + 1) } } (by decide +kernel),
    ⟨9 * sec, .of { (((up.put F.YLD_CFG_EN 1).put F.YLD_DELAY_FLOW_DELAY 10).put F.YLD_DELAY_MOIST_DELAY 0) with
      yld := { nextCut := some (9 * sec), samples := [{ aSample with at_ := 10 * sec }] } } (by decide +kernel)⟩,
    ⟨5, .of { up with yld := { fields := [aField], openId := some 5, live := { full := true } } } (by decide +kernel)⟩,
    .of { up with yld := { flushedAt := 1 } } (by decide +kernel)⟩

/-- The hypotheses of ConsistDatagramRows are met, each clause's by itself. -/
theorem witness_ConsistDatagramRows :
    (∃ d : UdpDatagram, d.fragmented = true ∧ Met (fun _ => True)) ∧
    (∃ d : UdpDatagram, d.fragmented = true ∧ Met (fun _ => True)) ∧
    (∃ d : UdpDatagram, d.fragmented = true ∧ Met (fun _ => True)) ∧
    (∃ d : UdpDatagram, d.fragmented = true ∧ Met (fun _ => True)) ∧
    (∃ d : UdpDatagram, d.fragmented = true ∧ Met (fun _ => True)) ∧
    (∃ d, Met (fun b => b.sound = true ∧ consistOn b = true ∧ cstState b ≠ cstOut ∧ fieldAt d 3 1 = 1 ∧ (openDatagram d b).2 = none)) ∧
    (∃ d x, Met (fun b => Heard 1 d x b ∧ x.member ≤ 31 ∧ (cstState b ≠ cstMember ∨ x.member ≠ ownMember b))) ∧
    (∃ d x, Met (fun b => b.sound = true ∧ Heard 1 d x b ∧ cstState b = cstMember ∧ x.member = ownMember b ∧ fieldAt x.payload 0 8 <
      machineId b)) ∧
    (∃ d x, Met (fun b => b.sound = true ∧ Heard 2 d x b ∧ (b.yld.openId.bind (findField b) = none ∨ ∃ f, b.yld.openId.bind (findField b) =
      some f ∧ (f.id ≠ fieldAt x.payload 0 4 ∨ originCrc f ≠ fieldAt x.payload 4 4)))) ∧
    (∃ d x f tile, Met (fun b => Heard 2 d x b ∧ b.yld.openId.bind (findField b) = some f ∧ f.id = fieldAt x.payload 0 4 ∧ originCrc f =
      fieldAt x.payload 4 4 ∧ fieldAt x.payload 8 1 = 1 ∧ x.payload.length = 24 ∧ fieldAt x.payload 16 1 ≤ 31 ∧ b.yld.live.tiles = [tile] ∧
      tile.te = sfieldAt x.payload 12 2 ∧ tile.tn = sfieldAt x.payload 14 2)) ∧
    (∃ d x r, Met (fun b => b.sound = true ∧ Heard 3 d x b ∧ cstState b = cstMember ∧ fieldAt x.payload 4 1 = 6 ∧ fieldAt x.payload 5 1 =
      ownMember b ∧ b.cst.rdv = some r ∧ r.id = fieldAt x.payload 0 4 ∧ b.get F.CST_RDV_RDV_STATE = 2 ∧ r.target = x.member)) ∧
    (∃ d x r, Met (fun b => Heard 3 d x b ∧ cstState b = cstMember ∧ fieldAt x.payload 4 1 = 2 ∧ fieldAt x.payload 5 1 = ownMember b ∧
      b.cst.rdv = some r ∧ r.requester = true ∧ r.id = fieldAt x.payload 0 4 ∧ b.get F.CST_RDV_RDV_STATE = 1 ∧ r.offers.any (fun o => o.1
      == x.member) = false ∧ b.now < r.firstAt + sec)) ∧
    (∃ d x, Met (fun b => b.sound = true ∧ Heard 4 d x b ∧ b.flag F.CST_CFG_RELAY_RX = true ∧ b.get F.CST_TANK_RELAY_FROM = x.member ∧
      x.member ≤ 31)) ∧
    (∃ d x, Met (fun b => Heard 5 d x b ∧ b.get F.CST_RDV_RDV_STATE ≠ 2)) :=
  ⟨⟨{ bytes := [0x43#8], fragmented := true }, by decide +kernel, .of { ((((up.put F.CST_CFG_EN 1).put F.CST_STATUS_STATE 2).setReg
      Reg.CST_CONSIST 9).put F.CST_STATUS_MEMBER 3) with cst := { keys := [aKey] } } (by decide +kernel)⟩,
    ⟨{ bytes := [0x43#8], fragmented := true }, by decide +kernel, .of { ((((up.put F.CST_CFG_EN 1).put F.CST_STATUS_STATE 2).setReg
      Reg.CST_CONSIST 9).put F.CST_STATUS_MEMBER 3) with cst := { keys := [aKey] } } (by decide +kernel)⟩,
    ⟨{ bytes := [0x43#8], fragmented := true }, by decide +kernel, .of { ((((up.put F.CST_CFG_EN 1).put F.CST_STATUS_STATE 2).setReg
      Reg.CST_CONSIST 9).put F.CST_STATUS_MEMBER 3) with cst := { keys := [aKey] } } (by decide +kernel)⟩,
    ⟨{ bytes := [0x43#8], fragmented := true }, by decide +kernel, .of { ((((up.put F.CST_CFG_EN 1).put F.CST_STATUS_STATE 2).setReg
      Reg.CST_CONSIST 9).put F.CST_STATUS_MEMBER 3) with cst := { keys := [aKey] } } (by decide +kernel)⟩,
    ⟨{ bytes := [0x43#8], fragmented := true }, by decide +kernel, .of { ((((up.put F.CST_CFG_EN 1).put F.CST_STATUS_STATE 2).setReg
      Reg.CST_CONSIST 9).put F.CST_STATUS_MEMBER 3) with cst := { keys := [aKey] } } (by decide +kernel)⟩,
    ⟨[0x43#8, 0x5A#8, 1#8, 1#8], .of { ((((up.put F.CST_CFG_EN 1).put F.CST_STATUS_STATE 2).setReg Reg.CST_CONSIST 9).put
      F.CST_STATUS_MEMBER 3) with cst := { keys := [aKey] } } (by decide +kernel)⟩,
    ⟨sealed 1 31 (leBytes 8 5 ++ [2#8, 1#8, 4#8, 0#8] ++ List.replicate 52 0#8),
      { type := 1, member := 31, sender := 77, payload := leBytes 8 5 ++ [2#8, 1#8, 4#8, 0#8] ++ List.replicate 52 0#8 }, .of { ((((up.put
      F.CST_CFG_EN 1).put F.CST_STATUS_STATE 2).setReg Reg.CST_CONSIST 9).put F.CST_STATUS_MEMBER 3) with cst := { keys := [aKey] } }
      ⟨heard (by decide +kernel), by decide +kernel⟩⟩,
    ⟨sealed 1 3 (leBytes 8 5 ++ [2#8, 1#8, 4#8, 0#8] ++ List.replicate 52 0#8),
      { type := 1, member := 3, sender := 77, payload := leBytes 8 5 ++ [2#8, 1#8, 4#8, 0#8] ++ List.replicate 52 0#8 }, .of { (((((up.put
      F.CST_CFG_EN 1).put F.CST_STATUS_STATE 2).setReg Reg.CST_CONSIST 9).put F.CST_STATUS_MEMBER 3).setReg Reg.CST_MACHINE_LO 6) with
      cst := { keys := [aKey] } } ⟨by decide +kernel, heard (by decide +kernel), by decide +kernel⟩⟩,
    ⟨sealed 2 4 (leBytes 4 5 ++ leBytes 4 (originCrc aField) ++ leBytes 1 1 ++ leBytes 3 0 ++ leBytes 2 0 ++ leBytes 2 0 ++ [31#8, 0#8,
      0#8, 0#8] ++ leBytes 4 0x80000001),
      { type := 2, member := 4, sender := 77, payload := leBytes 4 5 ++ leBytes 4 (originCrc aField) ++ leBytes 1 1 ++ leBytes 3 0 ++ leBytes 2 0 ++ leBytes 2 0 ++ [31#8, 0#8, 0#8, 0#8] ++ leBytes 4 0x80000001 },
      .of { ((((up.put F.CST_CFG_EN 1).put F.CST_STATUS_STATE 2).setReg Reg.CST_CONSIST 9).put F.CST_STATUS_MEMBER 3) with
      cst := { keys := [aKey] } } ⟨by decide +kernel, heard (by decide +kernel), by decide +kernel⟩⟩,
    ⟨sealed 2 4 (leBytes 4 5 ++ leBytes 4 (originCrc aField) ++ leBytes 1 1 ++ leBytes 3 0 ++ leBytes 2 0 ++ leBytes 2 0 ++ [31#8, 0#8,
      0#8, 0#8] ++ leBytes 4 0x80000001),
      { type := 2, member := 4, sender := 77, payload := leBytes 4 5 ++ leBytes 4 (originCrc aField) ++ leBytes 1 1 ++ leBytes 3 0 ++ leBytes 2 0 ++ leBytes 2 0 ++ [31#8, 0#8, 0#8, 0#8] ++ leBytes 4 0x80000001 },
      aField, aTile, .of { ((((up.put F.CST_CFG_EN 1).put F.CST_STATUS_STATE 2).setReg Reg.CST_CONSIST 9).put F.CST_STATUS_MEMBER 3) with
      cst := { keys := [aKey] }, yld := { fields := [aField], openId := some 5, live := { tiles := [aTile] } } } ⟨heard
      (by decide +kernel), by decide +kernel⟩⟩,
    ⟨sealed 3 4 (leBytes 4 8 ++ [6#8, 3#8] ++ List.replicate 58 0#8),
      { type := 3, member := 4, sender := 77, payload := leBytes 4 8 ++ [6#8, 3#8] ++ List.replicate 58 0#8 }, aRdv, .of { (((((up.put
      F.CST_CFG_EN 1).put F.CST_STATUS_STATE 2).setReg Reg.CST_CONSIST 9).put F.CST_STATUS_MEMBER 3).put F.CST_RDV_RDV_STATE 2) with
      cst := { keys := [aKey], rdv := some aRdv } } ⟨by decide +kernel, heard (by decide +kernel), by decide +kernel⟩⟩,
    ⟨sealed 3 4 (leBytes 4 8 ++ [2#8, 3#8] ++ List.replicate 58 0#8),
      { type := 3, member := 4, sender := 77, payload := leBytes 4 8 ++ [2#8, 3#8] ++ List.replicate 58 0#8 }, aRdv, .of { (((((up.put
      F.CST_CFG_EN 1).put F.CST_STATUS_STATE 2).setReg Reg.CST_CONSIST 9).put F.CST_STATUS_MEMBER 3).put F.CST_RDV_RDV_STATE 1) with
      cst := { keys := [aKey], rdv := some aRdv } } ⟨heard (by decide +kernel), by decide +kernel⟩⟩,
    ⟨sealed 4 4 ([0#8, 0#8, 1#8, 0#8, 0xD3#8]), { type := 4, member := 4, sender := 77, payload := [0#8, 0#8, 1#8, 0#8, 0xD3#8] }, .of {
      ((((((up.put F.CST_CFG_EN 1).put F.CST_STATUS_STATE 2).setReg Reg.CST_CONSIST 9).put F.CST_STATUS_MEMBER 3).put F.CST_CFG_RELAY_RX
      1).put F.CST_TANK_RELAY_FROM 4) with cst := { keys := [aKey] } } ⟨by decide +kernel, heard (by decide +kernel), by decide +kernel⟩⟩,
    ⟨sealed 5 4 (leBytes 8 55), { type := 5, member := 4, sender := 77, payload := leBytes 8 55 }, .of { ((((up.put F.CST_CFG_EN 1).put
      F.CST_STATUS_STATE 2).setReg Reg.CST_CONSIST 9).put F.CST_STATUS_MEMBER 3) with cst := { keys := [aKey], members := [aMate] } }
      ⟨heard (by decide +kernel), by decide +kernel⟩⟩⟩

/-- The hypotheses of ConsistTimeRows are met, each clause's by itself. -/
theorem witness_ConsistTimeRows :
    (∃ w st, Met (fun b => b.sound = true ∧ consistOn b = true ∧ cstState b = cstMember ∧ ownMember b * 20 * ms ≤ deviceTime b ∧
      b.cst.beatAt ≠ some ((deviceTime b - ownMember b * 20 * ms) / sec) ∧ (deviceTime b - ownMember b * 20 * ms) % sec ≤ 100 * ms ∧ w =
      (if b.flag F.YLD_CFG_EN then cutWidth b (toBits 32 (lineValue b (b.get F.YLD_SECT_SECT_ENTRY) (b.get F.YLD_SECT_SECT_WORD)))
      b.fn.headland else 0) ∧ st = b2n (decide (0 < w)) + 2 * b2n (Config.unloading b.drawn) + 4 * b2n (engaged b) + 8 * b.get
      F.CST_CFG_RELAY_TX + 16 * b.get F.CST_RDV_AVAILABLE)) ∧
    (Met (fun b => b.sound = true ∧ consistOn b = true ∧ cstState b = cstMember ∧ ownMember b * 20 * ms ≤ deviceTime b ∧ b.cst.beatAt ≠
      some ((deviceTime b - ownMember b * 20 * ms) / sec) ∧ 100 * ms < (deviceTime b - ownMember b * 20 * ms) % sec)) ∧
    (Met (fun b => consistOn b = false ∨ cstState b ≠ cstMember ∨ deviceTime b < ownMember b * 20 * ms ∨ b.cst.beatAt = some ((deviceTime b
      - ownMember b * 20 * ms) / sec))) ∧
    (∃ f, Met (fun b => b.sound = true ∧ consistOn b = true ∧ cstState b = cstMember ∧ b.cst.coverAt.all (fun t0 => decide (t0 + sec ≤
      b.now)) = true ∧ b.yld.openId.bind (findField b) = some f ∧ seqRoom b 8)) ∧
    (Met (fun b => consistOn b = false ∨ cstState b ≠ cstMember ∨ b.yld.openId.bind (findField b) = none ∨ b.cst.coverAt.any (fun t0 =>
      decide (b.now < t0 + sec)) = true)) ∧
    (∃ id m at_, Met (fun b => b.sound = true ∧ consistOn b = true ∧ b.cst.leaving = some (id, m, at_) ∧ at_ ≤ b.now)) ∧
    (Met (fun b => consistOn b = false ∨ b.cst.leaving.all (fun e => decide (b.now < e.2.2)) = true)) ∧
    (∃ n, ∃ m : ConsistMember, Met (fun b => b.sound = true ∧ consistOn b = true ∧ b.cst.members.find? (fun x => x.num == n && !x.absent) =
      some m ∧ m.at_ + 5 * sec ≤ b.now ∧ (b.get F.CST_RDV_RDV_STATE ≠ 2 ∨ b.get F.CST_RDV_PARTNER ≠ n))) ∧
    (∃ n, ∃ m : ConsistMember, ∃ r, Met (fun b => b.sound = true ∧ consistOn b = true ∧ b.cst.members.find? (fun x => x.num == n &&
      !x.absent) = some m ∧ m.at_ + 5 * sec ≤ b.now ∧ cstState b = cstMember ∧ b.get F.CST_RDV_RDV_STATE = 2 ∧ b.get F.CST_RDV_PARTNER = n
      ∧ b.cst.rdv = some r)) ∧
    (∃ n, Met (fun b => consistOn b = false ∨ (b.cst.members.find? (fun x => x.num == n && !x.absent)).all (fun m => decide (b.now < m.at_
      + 5 * sec)) = true)) ∧
    (Met (fun b => consistOn b = true)) ∧
    (Met (fun b => consistOn b = false)) ∧
    (∃ at_ n, n < 32 ∧ Met (fun b => b.sound = true ∧ consistOn b = true ∧ b.cst.listenEnd = some at_ ∧ at_ ≤ b.now ∧ b.cst.heard.contains
      n = false ∧ (∀ k, k < n → b.cst.heard.contains k = true) ∧ b.pk.waiting.any (fun w => w.job == Job.listen) = false)) ∧
    (∃ at_ n, ∃ w : Waiting, ∃ ip port, n < 32 ∧ Met (fun b => b.sound = true ∧ consistOn b = true ∧ b.cst.listenEnd = some at_ ∧ at_ ≤
      b.now ∧ b.cst.heard.contains n = false ∧ (∀ k, k < n → b.cst.heard.contains k = true) ∧ b.pk.waiting = [w] ∧ w.job = .listen ∧
      w.orphan = false ∧ w.req.via = .host ip port ∧ reliefPresent b = false)) ∧
    (∃ at_, ∃ w : Waiting, ∃ ip port, Met (fun b => b.sound = true ∧ consistOn b = true ∧ b.cst.listenEnd = some at_ ∧ at_ ≤ b.now ∧
      (upFrom 0 32).all (fun k => b.cst.heard.contains k) = true ∧ b.pk.waiting = [w] ∧ w.job = .listen ∧ w.orphan = false ∧ w.req.via =
      .host ip port ∧ reliefPresent b = false)) ∧
    (Met (fun b => consistOn b = false ∨ b.cst.listenEnd.all (fun e => decide (b.now < e)) = true)) ∧
    (∃ r, Met (fun b => b.sound = true ∧ consistOn b = true ∧ cstState b = cstMember ∧ b.cst.rdv = some r ∧ b.get F.CST_RDV_RDV_STATE = 1 ∧
      r.sentAt + sec ≤ b.now)) ∧
    (Met (fun b => consistOn b = false ∨ cstState b ≠ cstMember ∨ b.get F.CST_RDV_RDV_STATE ≠ 1 ∨ b.cst.rdv.all (fun r => decide (b.now <
      r.sentAt + sec)) = true)) ∧
    (∃ r o, Met (fun b => b.sound = true ∧ consistOn b = true ∧ cstState b = cstMember ∧ b.cst.rdv = some r ∧ b.get F.CST_RDV_RDV_STATE = 1
      ∧ r.firstAt + sec ≤ b.now ∧ bestOffer r.offers = some o ∧ o.1 < 256 ∧ seqRoom b r.offers.length)) ∧
    (Met (fun b => consistOn b = false ∨ cstState b ≠ cstMember ∨ b.get F.CST_RDV_RDV_STATE ≠ 1 ∨ b.cst.rdv.all (fun r => decide (b.now <
      r.firstAt + sec) || r.offers.isEmpty) = true)) ∧
    (∃ r t0, Met (fun b => b.sound = true ∧ consistOn b = true ∧ cstState b = cstMember ∧ b.cst.rdv = some r ∧ b.get F.CST_RDV_RDV_STATE =
      2 ∧ onMultiple b (100 * ms) = some t0 ∧ r.trackSent ≠ t0)) ∧
    (Met (fun b => consistOn b = false ∨ cstState b ≠ cstMember ∨ b.get F.CST_RDV_RDV_STATE ≠ 2 ∨ onMultiple b (100 * ms) = none ∨
      b.cst.rdv.all (fun r => onMultiple b (100 * ms) == some r.trackSent) = true)) ∧
    (∃ r, Met (fun b => b.sound = true ∧ consistOn b = true ∧ cstState b = cstMember ∧ b.cst.rdv = some r ∧ b.get F.CST_RDV_RDV_STATE = 1 ∧
      r.offers = [] ∧ r.firstAt + 10 * sec ≤ b.now)) ∧
    (Met (fun b => consistOn b = false ∨ b.get F.CST_RDV_RDV_STATE ≠ 1 ∨ b.cst.rdv.all (fun r => decide (b.now < r.firstAt + 10 * sec) ||
      !r.offers.isEmpty) = true)) ∧
    (∃ r, Met (fun b => b.sound = true ∧ consistOn b = true ∧ cstState b = cstMember ∧ b.cst.rdv = some r ∧ b.get F.CST_RDV_RDV_STATE = 2 ∧
      r.trackAt + 3 * sec ≤ b.now)) ∧
    (Met (fun b => consistOn b = false ∨ b.get F.CST_RDV_RDV_STATE ≠ 2 ∨ b.cst.rdv.all (fun r => decide (b.now < r.trackAt + 3 * sec)) =
      true)) ∧
    (Met (fun b => b.sound = true ∧ consistOn b = true ∧ cstState b = cstMember ∧ b.nav.relay.all (fun e => decide (e.2.length ≤ 1196)) =
      true ∧ seqRoom b b.nav.relay.length)) ∧
    (Met (fun b => consistOn b = false ∨ cstState b ≠ cstMember)) :=
  ⟨⟨0, beatState (begin_ 0 beatRun) 0, .of beatRun ⟨by decide +kernel, by decide +kernel, by decide +kernel, by decide +kernel,
      by decide +kernel, by decide +kernel, by decide +kernel, rfl⟩⟩,
    .of { ((((up.put F.CST_CFG_EN 1).put F.CST_STATUS_STATE 2).setReg Reg.CST_CONSIST 9).put F.CST_STATUS_MEMBER 3) with
      now := 10 * sec + 500 * ms } (by decide +kernel),
    .of ((((((up.put F.CST_CFG_EN 1).put F.CST_STATUS_STATE 2).setReg Reg.CST_CONSIST 9).put F.CST_STATUS_MEMBER 3).put F.CST_CFG_EN 0))
      (by decide +kernel),
    ⟨aField, .of { ((((up.put F.CST_CFG_EN 1).put F.CST_STATUS_STATE 2).setReg Reg.CST_CONSIST 9).put F.CST_STATUS_MEMBER 3) with
      cst := { keys := [aKey], seqNext := 5, seqEnd := 20, rows := [(0, 0, 31)], again := [(10 * sec, (0, 0, 30)), (11 * sec, (0, 0, 29))] }, yld := { fields := [aField], openId := some 5, live := { tiles := [aTile] } } }
      (by decide +kernel)⟩,
    .of { ((((up.put F.CST_CFG_EN 1).put F.CST_STATUS_STATE 2).setReg Reg.CST_CONSIST 9).put F.CST_STATUS_MEMBER 3) with
      cst := { keys := [aKey], coverAt := some (10 * sec - 1) }, yld := { fields := [aField], openId := some 5 } } (by decide +kernel),
    ⟨9, 3, 10 * sec, .of { ((((up.put F.CST_CFG_EN 1).put F.CST_STATUS_STATE 2).setReg Reg.CST_CONSIST 9).put F.CST_STATUS_MEMBER 3) with
      cst := { keys := [aKey], seqNext := 5, seqEnd := 9, leaving := some (9, 3, 10 * sec) } } (by decide +kernel)⟩,
    .of { ((((up.put F.CST_CFG_EN 1).put F.CST_STATUS_STATE 2).setReg Reg.CST_CONSIST 9).put F.CST_STATUS_MEMBER 3) with
      cst := { keys := [aKey], seqNext := 5, seqEnd := 9, leaving := some (9, 3, 10 * sec + 1) } } (by decide +kernel),
    ⟨4, aMate, .of { ((((up.put F.CST_CFG_EN 1).put F.CST_STATUS_STATE 2).setReg Reg.CST_CONSIST 9).put F.CST_STATUS_MEMBER 3) with
      cst := { keys := [aKey], members := [aMate] } } (by decide +kernel)⟩,
    ⟨4, aMate, aRdv, .of { ((((((up.put F.CST_CFG_EN 1).put F.CST_STATUS_STATE 2).setReg Reg.CST_CONSIST 9).put F.CST_STATUS_MEMBER 3).put
      F.CST_RDV_RDV_STATE 2).put F.CST_RDV_PARTNER 4) with
      cst := { keys := [aKey], seqNext := 5, seqEnd := 9, rdv := some aRdv, members := [aMate] } } (by decide +kernel)⟩,
    ⟨4, .of { ((((up.put F.CST_CFG_EN 1).put F.CST_STATUS_STATE 2).setReg Reg.CST_CONSIST 9).put F.CST_STATUS_MEMBER 3) with
      cst := { keys := [aKey], members := [{ aMate with at_ := 5 * sec + 1 }] } } (by decide +kernel)⟩,
    .of { ((((up.put F.CST_CFG_EN 1).put F.CST_STATUS_STATE 2).setReg Reg.CST_CONSIST 9).put F.CST_STATUS_MEMBER 3) with
      cst := { keys := [aKey], members := [aMate] } } (by decide +kernel),
    .of up (by decide +kernel),
    ⟨10 * sec, 31, by decide +kernel, .of { ((((up.put F.CST_CFG_EN 1).put F.CST_STATUS_STATE 2).setReg Reg.CST_CONSIST 9).put
      F.CST_STATUS_MEMBER 3) with cst := { keys := [aKey], listenEnd := some (10 * sec), heard := upFrom 0 31 } } (by decide +kernel)⟩,
    ⟨10 * sec, 31, waits 0x0900 .listen, 7#32, 9#16, by decide +kernel, .of { ((((up.put F.CST_CFG_EN 1).put F.CST_STATUS_STATE 2).setReg
      Reg.CST_CONSIST 9).put F.CST_STATUS_MEMBER 3) with
      cst := { keys := [aKey], listenEnd := some (10 * sec), heard := upFrom 0 31 }, pk := { up.pk with waiting := [(waits 0x0900 .listen)] } }
      (by decide +kernel)⟩,
    ⟨10 * sec, waits 0x0900 .listen, 7#32, 9#16, .of { ((((up.put F.CST_CFG_EN 1).put F.CST_STATUS_STATE 2).setReg Reg.CST_CONSIST 9).put
      F.CST_STATUS_MEMBER 3) with
      cst := { keys := [aKey], listenEnd := some (10 * sec), heard := upFrom 0 32 }, pk := { up.pk with waiting := [(waits 0x0900 .listen)] } }
      (by decide +kernel)⟩,
    .of { ((((up.put F.CST_CFG_EN 1).put F.CST_STATUS_STATE 2).setReg Reg.CST_CONSIST 9).put F.CST_STATUS_MEMBER 3) with
      cst := { listenEnd := some (10 * sec + 1) } } (by decide +kernel),
    ⟨aRdv, .of { ((((((up.put F.CST_CFG_EN 1).put F.CST_STATUS_STATE 2).setReg Reg.CST_CONSIST 9).put F.CST_STATUS_MEMBER 3).put
      F.CST_RDV_RDV_STATE 1).put F.CST_RDV_PARTNER 4) with cst := { keys := [aKey], seqNext := 5, seqEnd := 9, rdv := some aRdv } }
      (by decide +kernel)⟩,
    .of { ((((((up.put F.CST_CFG_EN 1).put F.CST_STATUS_STATE 2).setReg Reg.CST_CONSIST 9).put F.CST_STATUS_MEMBER 3).put
      F.CST_RDV_RDV_STATE 1).put F.CST_RDV_PARTNER 4) with
      cst := { keys := [aKey], seqNext := 5, seqEnd := 9, rdv := some { aRdv with sentAt := 9 * sec + 1 } } } (by decide +kernel),
    ⟨{ aRdv with firstAt := 9 * sec, offers := [(31, 7, aPlace), (4, 9, aPlace)] }, (31, 7, aPlace), .of { ((((((up.put F.CST_CFG_EN 1).put
      F.CST_STATUS_STATE 2).setReg Reg.CST_CONSIST 9).put F.CST_STATUS_MEMBER 3).put F.CST_RDV_RDV_STATE 1).put F.CST_RDV_PARTNER 4) with
      cst := { keys := [aKey], seqNext := 5, seqEnd := 9, rdv := some ({ aRdv with firstAt := 9 * sec, offers := [(31, 7, aPlace), (4, 9, aPlace)] } : Rdv) } }
      (by decide +kernel)⟩,
    .of { ((((((up.put F.CST_CFG_EN 1).put F.CST_STATUS_STATE 2).setReg Reg.CST_CONSIST 9).put F.CST_STATUS_MEMBER 3).put
      F.CST_RDV_RDV_STATE 1).put F.CST_RDV_PARTNER 4) with
      cst := { keys := [aKey], seqNext := 5, seqEnd := 9, rdv := some { aRdv with firstAt := 9 * sec } } } (by decide +kernel),
    ⟨aRdv, 10 * sec, .of { ((((((up.put F.CST_CFG_EN 1).put F.CST_STATUS_STATE 2).setReg Reg.CST_CONSIST 9).put F.CST_STATUS_MEMBER 3).put
      F.CST_RDV_RDV_STATE 2).put F.CST_RDV_PARTNER 4) with cst := { keys := [aKey], seqNext := 5, seqEnd := 9, rdv := some aRdv } }
      (by decide +kernel)⟩,
    .of { ((((((up.put F.CST_CFG_EN 1).put F.CST_STATUS_STATE 2).setReg Reg.CST_CONSIST 9).put F.CST_STATUS_MEMBER 3).put
      F.CST_RDV_RDV_STATE 2).put F.CST_RDV_PARTNER 4) with
      cst := { keys := [aKey], seqNext := 5, seqEnd := 9, rdv := some { aRdv with trackSent := 10 * sec } } } (by decide +kernel),
    ⟨{ aRdv with firstAt := 0 }, .of { ((((((up.put F.CST_CFG_EN 1).put F.CST_STATUS_STATE 2).setReg Reg.CST_CONSIST 9).put
      F.CST_STATUS_MEMBER 3).put F.CST_RDV_RDV_STATE 1).put F.CST_RDV_PARTNER 4) with
      cst := { keys := [aKey], seqNext := 5, seqEnd := 9, rdv := some { aRdv with firstAt := 0 } } } (by decide +kernel)⟩,
    .of { ((((((up.put F.CST_CFG_EN 1).put F.CST_STATUS_STATE 2).setReg Reg.CST_CONSIST 9).put F.CST_STATUS_MEMBER 3).put
      F.CST_RDV_RDV_STATE 1).put F.CST_RDV_PARTNER 4) with cst := { keys := [aKey], seqNext := 5, seqEnd := 9, rdv := some aRdv } }
      (by decide +kernel),
    ⟨aRdv, .of { ((((((up.put F.CST_CFG_EN 1).put F.CST_STATUS_STATE 2).setReg Reg.CST_CONSIST 9).put F.CST_STATUS_MEMBER 3).put
      F.CST_RDV_RDV_STATE 2).put F.CST_RDV_PARTNER 4) with cst := { keys := [aKey], seqNext := 5, seqEnd := 9, rdv := some aRdv } }
      (by decide +kernel)⟩,
    .of { ((((((up.put F.CST_CFG_EN 1).put F.CST_STATUS_STATE 2).setReg Reg.CST_CONSIST 9).put F.CST_STATUS_MEMBER 3).put
      F.CST_RDV_RDV_STATE 2).put F.CST_RDV_PARTNER 4) with
      cst := { keys := [aKey], seqNext := 5, seqEnd := 9, rdv := some { aRdv with trackAt := 7 * sec + 1 } } } (by decide +kernel),
    .of { ((((up.put F.CST_CFG_EN 1).put F.CST_STATUS_STATE 2).setReg Reg.CST_CONSIST 9).put F.CST_STATUS_MEMBER 3) with
      cst := { keys := [aKey], seqNext := 5, seqEnd := 9 }, nav := { relay := [(2, [0xD3#8, 0#8, 0#8]), (2, [0xD3#8, 0#8, 1#8]), (1, [0xD3#8])] } }
      (by decide +kernel),
    .of { up with nav := { relay := [(2, [0xD3#8, 0#8, 0#8])] } } (by decide +kernel)⟩

/-- The hypotheses of TransferRows are met, each clause's by itself. -/
theorem witness_TransferRows :
    (∃ c d, c < 32 ∧ dmaClass c = 0 ∧ Met (fun b => b.sound = true ∧ b.die.yardUp = true ∧ (dmaChan b c).ring = [] ∧ (dmaChan b c).active =
      false ∧ b.flag (F.DMA_CH_CTRL_STOP c) = false ∧ malformed b d = false)) ∧
    (∃ c, c < 32 ∧ Met (fun b => b.sound = true ∧ b.die.yardUp = true ∧ b.flag (F.DMA_CH_CTRL_STOP c) = true ∧ (dmaChan b c).ring.length <
      256)) ∧
    (∃ c, ∃ e : DmaEnd, ∃ r rest lastA lastB, c < 32 ∧ e.err = .none ∧ e.corrected = 0 ∧ e.uncorrected = 0 ∧ Met (fun b => b.sound = true ∧
      b.die.yardUp = true ∧ (dmaChan b c).active = true ∧ (dmaChan b c).gated = false ∧ (dmaChan b c).ring = r :: rest ∧ r.d.pattern.toNat
      = 0 ∧ inPorts r.d.src.toNat = false ∧ inPorts r.d.dst.toNat = false ∧ yardRegion r.d.src.toNat = some lastA ∧ yardRegion
      r.d.dst.toNat = some lastB)) ∧
    (∃ c, ∃ e : DmaEnd, ∃ r rest lastA lastB, c < 32 ∧ e.err = .readback ∧ e.corrected = 0 ∧ e.uncorrected = 0 ∧ Met (fun b => b.sound =
      true ∧ b.die.yardUp = true ∧ (dmaChan b c).active = true ∧ (dmaChan b c).gated = false ∧ (dmaChan b c).ring = r :: rest ∧ r.again =
      false ∧ r.d.pattern.toNat = 0 ∧ inPorts r.d.src.toNat = false ∧ inPorts r.d.dst.toNat = false ∧ yardRegion r.d.src.toNat = some lastA
      ∧ yardRegion r.d.dst.toNat = some lastB)) ∧
    (∃ c, ∃ r : RingEntry, ∃ code, c < 32 ∧ code ≠ 6 ∧ Met (fun b => b.sound = true ∧ b.die.yardUp = true ∧ (dmaChan b c).ring = [] ∧
      (dmaChan b c).bad = [(r, code)])) ∧
    (∃ page cor, page < 3932160 ∧ 0 < cor ∧ Met (fun b => b.sound = true ∧ b.die.yardUp = true ∧ b.dma.lastErr.contains page = true ∧
      b.dma.marked.contains page = false ∧ isRetired 6 0 page b = false)) ∧
    (∃ page, Met (fun b => b.die.yardUp = true ∧ b.dma.marked.contains page = true ∧ pageInUse b page = false)) ∧
    (∃ page, Met (fun b => b.dma.marked.contains page = false ∨ pageInUse b page = true)) ∧
    (∃ n, n < 4 ∧ Met (fun b => b.flag (F.DMA_STR_CFG_OPEN n) = false)) ∧
    (∃ n, ∃ x : StreamUnit, ∃ ip, n < 4 ∧ 0 < x.data.length ∧ x.data.length ≤ 1408 ∧ Met (fun b => b.sound = true ∧ b.die.yardUp = true ∧
      b.flag (F.DMA_STR_CFG_OPEN n) = true ∧ b.flag (F.DMA_STR_CFG_SINK n) = false ∧ (dataStream b n).queue = [x] ∧ (dataStream b n).offset
      = 0 ∧ (dataStream b n).msNo ≠ deviceTime b / ms ∧ 24 + x.data.length ≤ b.get (F.DMA_STR_PORT_RATE n) ∧ sessionAddress b (b.get
      (F.DMA_STR_CFG_SESSION n)) = some ip)) :=
  ⟨⟨29, aDesc, by decide +kernel, by decide +kernel, .of up (by decide +kernel)⟩,
    ⟨31, by decide +kernel, .of (up.put (F.DMA_CH_CTRL_STOP 31) 1) (by decide +kernel)⟩,
    ⟨31, { err := .none, beats := 1, fifo := [], underrun := [], corrected := 0, uncorrected := 0 }, anEntry, [], (0, 0x05FFFFFF),
      (0x0100000000, 0x04BFFFFFFF), by decide +kernel, by decide +kernel, by decide +kernel, by decide +kernel, .of { up with
      dma := { channels := setNth State.reset.dma.channels 31 { ring := [anEntry], active := true, startedAt := 9 * sec }, mem := [(0x1000, 7#8), (0x1040, 8#8), (0x0100000000, 9#8)] } }
      (by decide +kernel)⟩,
    ⟨31, { err := .readback, beats := 0, fifo := [], underrun := [], corrected := 0, uncorrected := 0 }, anEntry, [], (0, 0x05FFFFFF),
      (0x0100000000, 0x04BFFFFFFF), by decide +kernel, by decide +kernel, by decide +kernel, by decide +kernel, .of { up with
      dma := { channels := setNth State.reset.dma.channels 31 { ring := [anEntry], active := true, startedAt := 9 * sec } } }
      (by decide +kernel)⟩,
    ⟨31, anEntry, 4, by decide +kernel, by decide +kernel, .of { up with
      dma := { channels := setNth State.reset.dma.channels 31 { bad := [(anEntry, 4)] } } } (by decide +kernel)⟩,
    ⟨3932159, 1, by decide +kernel, by decide +kernel, .of { up with dma := { lastErr := [3932159, 4] } } (by decide +kernel)⟩,
    ⟨5, .of { up with dma := { marked := [5] } } (by decide +kernel)⟩,
    ⟨5, .of up (by decide +kernel)⟩,
    ⟨3, by decide +kernel, .of up (by decide +kernel)⟩,
    ⟨3, { unit := 5, stamp := 6, data := List.replicate 1408 7#8 }, 7, by decide +kernel, by decide +kernel, by decide +kernel, .of {
      (((up.put (F.DMA_STR_CFG_OPEN 3) 1).put (F.DMA_STR_PORT_RATE 3) 1472).put (F.DMA_STR_CFG_SESSION 3) 1) with
      dma := { streams := setNth State.reset.dma.streams 3 { queue := [{ unit := 5, stamp := 6, data := List.replicate 1408 7#8 }], msNo := 1 } } }
      (by decide +kernel)⟩⟩

/-- The hypotheses of MessageBusRows are met, each clause's by itself. -/
theorem witness_MessageBusRows :
    (∃ m, m < 32 ∧ Met (fun b => b.flag (F.MDB_TX_CFG_EN m) = false)) ∧
    (∃ m n at_, m < 32 ∧ Met (fun b => b.sound = true ∧ b.flag (F.MDB_TX_CFG_EN m) = true ∧ b.get (F.MDB_TX_CFG_PERIOD m) ≠ 0 ∧ dueInstant
      b m = some at_ ∧ b.can.since ≤ at_ ∧ lookupNum b.can.lastDue m ≠ some at_ ∧ b.get (F.MDB_TX_CFG_CTRL m) = n ∧ canSend b n = true ∧
      (control b n).waiting = [] ∧ txPending b n 0 = false ∧ txPending b n 1 = false)) ∧
    (∃ n k f, n < 4 ∧ k < 3 ∧ Met (fun b => b.sound = true ∧ mayDrive b n = true ∧ offeredBuffer b n = some k ∧ (txBuffer b n k).frame =
      some f ∧ (control b n).waiting = [] ∧ (control b n).firmware = [])) ∧
    (∃ n k err, n < 4 ∧ k < 3 ∧ 1 ≤ err ∧ err ≤ 6 ∧ Met (fun b => b.sound = true ∧ mayDrive b n = true ∧ busState b n = 1 ∧ offeredBuffer b
      n = some k ∧ b.get (F.MDB_C_ERR_TEC n) < 120 ∧ (txBuffer b n k).errors < b.get (F.MDB_C_CFG_RETRY n))) ∧
    (∃ n k err, n < 4 ∧ k < 3 ∧ 1 ≤ err ∧ err ≤ 6 ∧ err ≠ 3 ∧ Met (fun b => b.sound = true ∧ mayDrive b n = true ∧ offeredBuffer b n = some
      k ∧ 247 < b.get (F.MDB_C_ERR_TEC n))) ∧
    (∃ n, n < 4 ∧ Met (fun b => b.sound = true ∧ canOn b n = true ∧ busState b n = 3)) ∧
    (Met (fun b => b.sound = true ∧ isoBus b = true ∧ b.can.claimDue = true ∧ txPending b 0 2 = false)) ∧
    (∃ at_, Met (fun b => b.sound = true ∧ isoBus b = true ∧ b.can.claimDue = false ∧ b.can.claimAt = some at_ ∧ at_ + 250 * ms ≤ b.now)) ∧
    (∃ n, ∃ f : CanFrame, n < 3 ∧ Met (fun b => b.sound = true ∧ canOn b n = true ∧ busState b n ≠ 3 ∧ b.die.sigUp = true ∧ (control b
      n).received = [] ∧ f.fdf = false ∧ f.remote = false ∧ filterFor b n f = none)) ∧
    (∃ n k r, ∃ f : CanFrame, (n = 1 ∨ n = 2) ∧ r < 32 ∧ Met (fun b => b.sound = true ∧ canOn b n = true ∧ busState b n ≠ 3 ∧ b.die.sigUp =
      true ∧ (control b n).received = [] ∧ f.fdf = false ∧ f.remote = false ∧ filterFor b n f = some (k, 1) ∧ messagesFor b n f = [r])) ∧
    (∃ r, r < 32 ∧ Met (fun b => b.sound = true ∧ b.flag (F.MDB_RX_CFG_EN r) = true ∧ b.get (F.MDB_RX_CFG_TIMEOUT r) ≠ 0 ∧ b.bit
      F.MDB_RX_STALE_STALE r = false ∧ max b.can.since ((lookupNum b.can.lastRx r).getD 0) + b.get (F.MDB_RX_CFG_TIMEOUT r) * ms ≤
      deviceTime b)) :=
  ⟨⟨31, by decide +kernel, .of up (by decide +kernel)⟩,
    ⟨31, 2, 10 * sec, by decide +kernel, .of ((((((upSet.put (F.MDB_C_CFG_MODE 2) 1).put F.PWR_LEVEL_CUR 3).put (F.MDB_TX_CFG_EN 31) 1).put
      (F.MDB_TX_CFG_PERIOD 31) 10).put (F.MDB_TX_CFG_CTRL 31) 2)) (by decide +kernel)⟩,
    ⟨3, 1, aCan, by decide +kernel, by decide +kernel, .of { (((upSet.put (F.MDB_C_CFG_MODE 3) 1).put F.PWR_LEVEL_CUR 3).put (txState 3 1)
      1) with can := { controls := setNth State.reset.can.controls 3 { bufs := setNth [{}, {}, {}] 1 { frame := some aCan } } } }
      (by decide +kernel)⟩,
    ⟨3, 2, 6, by decide +kernel, by decide +kernel, by decide +kernel, by decide +kernel, .of { (((upSet.put (F.MDB_C_CFG_MODE 3) 1).put
      F.PWR_LEVEL_CUR 3).put (txState 3 2) 1).put (F.MDB_C_CFG_RETRY 3) 5 with
      can := { controls := setNth State.reset.can.controls 3 { bufs := setNth [{}, {}, {}] 2 { frame := some aCan } } } }
      (by decide +kernel)⟩,
    ⟨3, 2, 6, by decide +kernel, by decide +kernel, by decide +kernel, by decide +kernel, by decide +kernel, .of { (((upSet.put
      (F.MDB_C_CFG_MODE 3) 1).put F.PWR_LEVEL_CUR 3).put (txState 3 2) 1).put (F.MDB_C_ERR_TEC 3) 250 with
      can := { controls := setNth State.reset.can.controls 3 { bufs := setNth [{}, {}, {}] 2 { frame := some aCan } } } }
      (by decide +kernel)⟩,
    ⟨3, by decide +kernel, .of (((upSet.put (F.MDB_C_CFG_MODE 3) 1).put F.PWR_LEVEL_CUR 3).put (F.MDB_C_STATUS_STATE 3) 3)
      (by decide +kernel)⟩,
    .of (((upSet.put (F.MDB_C_CFG_MODE 0) 3).put F.PWR_LEVEL_CUR 3)) (by decide +kernel),
    ⟨9 * sec, .of { ((upSet.put (F.MDB_C_CFG_MODE 0) 3).put F.PWR_LEVEL_CUR 3) with
      can := { claimDue := false, claimAt := some (9 * sec) } } (by decide +kernel)⟩,
    ⟨2, aCan, by decide +kernel, .of (((upSet.put (F.MDB_C_CFG_MODE 2) 1).put F.PWR_LEVEL_CUR 3)) (by decide +kernel)⟩,
    ⟨2, 0, 31, aCan, by decide +kernel, by decide +kernel, .of (((((((upSet.put (F.MDB_C_CFG_MODE 2) 1).put F.PWR_LEVEL_CUR 3).setReg
      (Reg.MDB_C_FLT_ID 2 0) (0x40000000 + 0x123)).setReg (Reg.MDB_C_FLT_MASK 2 0) 0x1FFFFFFF).put (F.MDB_RX_CFG_EN 31) 1).put
      (F.MDB_RX_CFG_CTRL 31) 2).put (F.MDB_RX_ID_ID 31) 0x123) (by decide +kernel)⟩,
    ⟨31, by decide +kernel, .of ((up.put (F.MDB_RX_CFG_EN 31) 1).put (F.MDB_RX_CFG_TIMEOUT 31) 100) (by decide +kernel)⟩⟩

/-- The hypotheses of ImageRows are met, each clause's by itself. -/
theorem witness_ImageRows :
    (∃ d, d < 2 ∧ Met (fun b => b.sound = true ∧ slotState b d (targetSlot b d) = uVerifying ∧ b.die.sigUp = true ∧ b.pk.waiting = [] ∧
      imageSigned b (imageSlot b d (targetSlot b d)) = true ∧ rollbackOk b d (imageSlot b d (targetSlot b d)).header = true)) ∧
    (∃ d, d < 2 ∧ Met (fun b => b.sound = true ∧ slotState b d (targetSlot b d) = uVerifying ∧ b.die.sigUp = true ∧ b.pk.waiting = [] ∧
      (imageSigned b (imageSlot b d (targetSlot b d)) = false ∨ rollbackOk b d (imageSlot b d (targetSlot b d)).header = false))) ∧
    (∃ sig : BitVec 32, Met (fun b => b.sound = true ∧ b.die.sigUp = true ∧ powered b = true ∧ b.upd.restartDue = [] ∧ canActivate b 0
      sig.toNat = true)) ∧
    (∃ sig yard : BitVec 32, Met (fun b => b.upd.restartDue = [] ∧ canActivate b 0 sig.toNat = false ∧ canActivate b 1 yard.toNat = false)) ∧
    (∃ d from_, d < 2 ∧ Met (fun b => b.sound = true ∧ (trialSlot b d).isSome = true ∧ nth b.upd.healthFrom d none = some from_ ∧
      healthItems b d = true ∧ b.get (F.UPD_SLOT_HEALTHY d) = 0 ∧ from_ + tSoak ≤ b.now)) ∧
    (∃ d k at_, d < 2 ∧ Met (fun b => b.sound = true ∧ powered b = true ∧ b.upd.restartDue = [] ∧ trialSlot b d = some k ∧ trialSlot b (1 -
      d) = none ∧ nth b.upd.trialAt d none = some at_ ∧ b.get (F.UPD_SLOT_HEALTHY d) = 0 ∧ at_ + tConfirm ≤ b.now)) ∧
    (Met (fun b => b.upd.restartDue = [] ∧ (isTerminus b = false ∨ b.die.yardUp = false ∨ b.die.sigUp = false ∨ b.upd.run = none ∧
      b.upd.asked = []))) ∧
    (∃ l sig yard, Met (fun b => b.sound = true ∧ isTerminus b = true ∧ b.die.yardUp = true ∧ b.die.sigUp = true ∧ b.upd.restartDue = [] ∧
      b.upd.run = none ∧ b.upd.asked = [(sig, yard)] ∧ b.sets.throw = none ∧ ((lineModules b).filterMap (reportOf l b)).length =
      (lineModules b).length ∧ ((lineModules b).filterMap (reportOf l b)).any (fun r => !(repAt r sig yard && !repOnTrial r)) = true ∧
      ((lineModules b).filterMap (reportOf l b)).all (fun r => lacks sig yard r == 0 && !repMajor yard r) = true ∧ noReliefNow b = false)) ∧
    (∃ l sig yard, ∃ w : Waiting, ∃ ip port, Met (fun b => isTerminus b = true ∧ b.die.yardUp = true ∧ b.die.sigUp = true ∧
      b.upd.restartDue = [] ∧ b.upd.run = none ∧ b.upd.asked = [(sig, yard)] ∧ b.pk.waiting = [w] ∧ w.job = .run ∧ namedVersions w.req =
      (sig, yard) ∧ w.orphan = false ∧ w.req.via = .host ip port ∧ reliefPresent b = false ∧ ((lineModules b).filterMap (reportOf l
      b)).length = (lineModules b).length ∧ ((lineModules b).filterMap (reportOf l b)).all (fun r => repAt r sig yard && !repOnTrial r) =
      true)) :=
  ⟨⟨1, by decide +kernel, .of (((up.put (F.UPD_SLOT_ACTIVE 1) 1).put (slotFld 1 0) 3)) (by decide +kernel)⟩,
    ⟨1, by decide +kernel, .of { ((up.put (F.UPD_SLOT_ACTIVE 1) 1).put (slotFld 1 0) 3) with upd := { up.upd with keys := [] } }
      (by decide +kernel)⟩,
    ⟨BitVec.ofNat 32 (imVersion (imageSlot up 0 0).header), .of (setSlot 0 1 uVerified (imageSlot up 0 0) upr) (by decide +kernel)⟩,
    ⟨1#32, 2#32, .of up (by decide +kernel)⟩,
    ⟨1, 7 * sec, by decide +kernel, .of { ((up.put (F.UPD_SLOT_TRIAL 1) 1)) with
      die := { up.die with xoUp := true }, upd := { up.upd with ran := [some 0, some 0], healthFrom := [none, some (7 * sec)] } }
      (by decide +kernel)⟩,
    ⟨1, 1, 1 * sec, by decide +kernel, .of { (up.put (F.UPD_SLOT_TRIAL 1) 2) with
      now := 121 * sec, upd := { up.upd with trialAt := [none, some (1 * sec)] } } (by decide +kernel)⟩,
    .of up (by decide +kernel),
    ⟨[], runningVersion upr 0, imVersion newHeader, .of runState (by decide +kernel)⟩,
    ⟨[], runningVersion upr 0, runningVersion upr 1, waits 0x0C03 .run (leBytes 4 (runningVersion upr 0) ++ leBytes 4 (runningVersion upr
      1)), 7#32, 9#16, .of { upr with
      pk := { up.pk with waiting := [waits 0x0C03 .run (leBytes 4 (runningVersion upr 0) ++ leBytes 4 (runningVersion upr 1))] }, upd := { up.upd with asked := [(runningVersion upr 0, runningVersion up 1)] } }
      (by decide +kernel)⟩⟩

/-- The hypotheses of StepRunsFrontCommand are met, each clause's by itself. -/
theorem witness_StepRunsFrontCommand :
    (∃ (c : Instr) (rest : List Instr) (s : State), s.pending = c :: rest) ∧
    (∃ s : State, s.pending = []) :=
  ⟨⟨.powerUp 5 9000, [], { up with pending := [.powerUp 5 9000] }, rfl⟩,
    ⟨State.reset, rfl⟩⟩

/-- The hypotheses of StatusReads are met, each clause's by itself. -/
theorem witness_StatusReads :
    (MetBy 0x0404 (fun p _ => fieldAt p.params 0 1 ≤ 31)) ∧
    (MetBy 0x0404 (fun p _ => fieldAt p.params 0 1 = 0xFF)) ∧
    (MetBy 0x0E01 anyRequest) ∧
    (MetBy 0x0A02 (fun p _ => fieldAt p.params 0 1 ≤ 31)) ∧
    (MetBy 0x0A02 (fun p _ => fieldAt p.params 0 1 = 0xFF)) ∧
    (MetBy 0x0B01 anyRequest) ∧
    (MetBy 0x0C05 anyRequest) :=
  ⟨.of (leBytes 4 31) 0#8 messy (by decide +kernel),
    .of (leBytes 4 255) 0#8 messy (by decide +kernel),
    .of [] 0#8 messy ⟨by decide +kernel, trivial⟩,
    .of (leBytes 4 31) 0#8 messy (by decide +kernel),
    .of (leBytes 4 255) 0#8 messy (by decide +kernel),
    .of [] 0#8 messy ⟨by decide +kernel, trivial⟩,
    .of [] 0#8 messy ⟨by decide +kernel, trivial⟩⟩

/-- The hypotheses of StepKeepsSound are met. -/
theorem witness_StepKeepsSound :
    ∃ s u : State, s.sound = true ∧ s.queueWf = true ∧ step s = .next u :=
  let ⟨u, h⟩ := ofNext (x := step { up with pending := [.limpReqLow 5] }) (by decide +kernel); ⟨_, u, by decide +kernel, by decide +kernel,
    h⟩

/-- The hypotheses of FamiliesKeepTheRest are met. -/
theorem witness_FamiliesKeepTheRest :
    Runs isLoadRow ∧ Runs isNavigationRow ∧ Runs isConsistRow ∧ Runs isTransferRow ∧ Runs isTransmitRow :=
  ⟨.of (.limpReqLow 5) up (by decide +kernel), .of (.enableFilter 5) up (by decide +kernel), .of (.heartbeatReceive 5 { bytes := [1#8] })
    up (by decide +kernel), .of (.descResubmit 5 31) up (by decide +kernel), .of (.rxTimeout 5 31) up (by decide +kernel)⟩

/-- The hypotheses of QueueTimeAndStoresStand are met. -/
theorem witness_QueueTimeAndStoresStand :
    Runs bringsNoRequest ∧ Runs (fun c => match c with | .descriptorComplete .. => false | _ => true) :=
  ⟨.of (.orderStep 5 3) up (by decide +kernel), .of (.orderStep 5 3) up (by decide +kernel)⟩

end Sys2Proof.Tests
end

section
/-!
SUPPORT. Command packets: a packet that passes the first checks of R110 is examined under its session, and a reply makes no
restart due.
-/

namespace Sys2Proof.Machine

/-! ### A reply leaves the update part alone -/

@[simp] theorem startEntry_upd (entry : Nat) (s : State) : (startEntry entry s).upd = s.upd := by
  unfold startEntry
  split <;> rfl

theorem offerQueue_upd {x : Slot} {bs : Bytes} {s u : State} (h : offerQueue x bs s = some u) : u.upd = s.upd := by
  simp only [offerQueue, Option.ite_none_right_eq_some, Option.some.injEq] at h
  obtain ⟨-, rfl⟩ := h
  exact startEntry_upd x.entry s

@[simp] theorem offerBePacket_upd (dest : Nat) (bs : Bytes) (s : State) : (offerBePacket dest bs s).upd = s.upd :=
  foldOver_keeps State.upd (fun s f => offerBe 0x16 dest f s) (fun _ _ => rfl) _ _

@[simp] theorem replyOverLine_upd (r : Reply) (s : State) : (replyOverLine r s).upd = s.upd := by
  unfold replyOverLine
  split
  · split
    · exact offerBePacket_upd _ _ s
    · rfl
  · split
    next u hq => exact offerQueue_upd hq
    next => rfl

@[simp] theorem loadBuffer_upd (n k src : Nat) (f : CanFrame) (s : State) : (loadBuffer n k src f s).upd = s.upd := rfl

@[simp] theorem sendFirmware_upd (n : Nat) (f : CanFrame) (s : State) : (sendFirmware n f s).upd = s.upd := by
  unfold sendFirmware
  split <;> simp

@[simp] theorem sendSegment_upd (f : CanFrame) (s : State) : (sendSegment f s).upd = s.upd := sendFirmware_upd 3 f _

@[simp] theorem startTransfer_upd (dest : Nat) (bs : Bytes) (s : State) : (startTransfer dest bs s).upd = s.upd := by
  unfold startTransfer
  dsimp only
  split
  · exact sendSegment_upd _ s
  · split <;> exact sendSegment_upd _ s

@[simp] theorem sendService_upd (dest : Nat) (bs : Bytes) (s : State) : (sendService dest bs s).upd = s.upd := by
  unfold sendService
  split
  · rfl
  · exact startTransfer_upd dest bs s

@[simp] theorem transmit_upd (dest : Transport) (r : Reply) (s : State) : (transmit dest r s).upd = s.upd := by
  cases dest with
  | line sender entry => exact replyOverLine_upd r s
  | canD sa =>
    simp only [transmit, emit_upd]
    split
    · exact sendService_upd _ _ s
    · rfl
  | host ip port => rfl

@[simp] theorem sendPacket_upd (dest : Transport) (r : Reply) (s : State) : (sendPacket dest r s).upd = s.upd :=
  transmit_upd dest r _

@[simp] theorem answerNow_upd (op : Nat) (p : Request) (status retry : Nat) (s : State) :
    (answerNow op p status retry s).upd = s.upd := sendPacket_upd p.via _ s

/-- Without a restart that is due, nothing follows the examination of a packet. -/
theorem settle_of_none_due {s : State} (h : s.upd.restartDue = []) : settle s = s := by
  have same : modUpd (fun u => { u with restartDue := [] }) s = s := by
    simp only [modUpd, ← h]
  simp [settle, h, same]

/-! ### The first checks of R110 -/

/-- The state in which a packet has been counted as received. -/
def countReceived (s : State) : State := { s with pk := { s.pk with received := (s.pk.received + 1) % 4294967296 } }

@[simp] theorem countReceived_upd (s : State) : (countReceived s).upd = s.upd := rfl

@[simp] theorem countReceived_heldSession (s : State) (n : Nat) : heldSession (countReceived s) n = heldSession s n := rfl

@[simp] theorem countReceived_foreignForward (s : State) (p : Request) : foreignForward (countReceived s) p = foreignForward s p := rfl

/-- A whole packet of VERSION 1, neither HELLO nor SESSION_OPEN, is counted and goes on to the examination of its session. -/
theorem acceptPacket_of_wholeHere {op : Nat} {p : Request} {s : State} (tbl : Nat → Option OpInfo) (hw : wholeHere op p s = true)
    (hv : p.version.toNat = 1) (hello : op ≠ 0x0001) (sessionOpen : op ≠ 0x0002) :
    acceptPacket tbl op p s = examineSession tbl op p (countReceived s) := by
  simp only [wholeHere, Bool.and_eq_true, Bool.not_eq_true', beq_iff_eq, decide_eq_true_eq] at hw
  obtain ⟨⟨⟨⟨⟨⟨ht, hfrag⟩, hlen⟩, hmax⟩, hmagic⟩, hcrc⟩, hforeign⟩ := hw
  have hmax' : ¬ p.paramLen.toNat > 1400 := Nat.not_lt.mpr hmax
  simp [acceptPacket, ← countReceived.eq_def, ht, hfrag, ← hlen, hmax', hmagic, hcrc, hforeign, hv, hello, sessionOpen]

/-! ### The session of a packet from a host (R109) -/

section
variable {op : Nat} {p : Request} {s : State} (tbl : Nat → Option OpInfo) (hf : forwardedIn p = false)
include hf

/-- Under a number with no open session the answer is NO_SESSION. -/
theorem examineSession_of_no_open (h : ∀ x, heldSession s p.session.toNat = some x → x.isOpen = false) :
    examineSession tbl op p s = answerNow op p St.noSession 0 s := by
  simp only [examineSession, hf]
  cases hx : heldSession s p.session.toNat with
  | none => simp
  | some x => simp [h x hx]

/-- A packet of an open session with a wrong AUTH only counts. -/
theorem examineSession_of_bad_auth {x : Session} (hx : heldSession s p.session.toNat = some x) (hopen : x.isOpen = true)
    (hkey : x.key.isEmpty = false) (htag : tagOf x.key (requestBytes op p 0) ≠ p.auth.toNat) :
    examineSession tbl op p s = { s with pk := { s.pk with badAuth := (s.pk.badAuth + 1) % 4294967296 } } := by
  simp [examineSession, hf, hx, hopen, hkey, htag]

end

/-- A whole packet of VERSION 1 that is no arming request, HELLO or SESSION_OPEN: its examination is that of its session, when
this makes no restart due. -/
theorem examine_of_wholeHere {op : Nat} {p : Request} {s u : State} (hw : wholeHere op p s = true) (ha : isArming op p = false)
    (hv : p.version.toNat = 1) (hello : op ≠ 0x0001) (sessionOpen : op ≠ 0x0002)
    (hu : examineSession opTable op p (countReceived s) = u) (hdue : u.upd.restartDue = []) : examine op p s = u := by
  simp only [examine, ha, acceptPacket_of_wholeHere opTable hw hv hello sessionOpen, hu]
  exact settle_of_none_due hdue

/-- Settles O3: the packet is counted and reaches the examination of its session, whose first two checks are those of R109; neither
outcome makes a restart due. -/
theorem sessionAndAuthAreChecked : Obligations.SessionAndAuthAreChecked := by
  intro op p s hw ha hdue hv hf hello sessionOpen
  refine ⟨fun noOpen => ?_, fun x hx hopen hkey htag => ?_⟩
  · have answered := examineSession_of_no_open opTable (op := op) (s := countReceived s) hf (by simpa using noOpen)
    exact examine_of_wholeHere hw ha hv hello sessionOpen answered (by simpa using hdue)
  · have counted := examineSession_of_bad_auth opTable (s := countReceived s) hf (by simpa using hx) hopen hkey htag
    exact examine_of_wholeHere hw ha hv hello sessionOpen counted (by simpa using hdue)

end Sys2Proof.Machine
end

section
/-!
SUPPORT. Accepted requests: one that passes R110 and executes on this module is carried out as its entry of the opcode table says.
-/

namespace Sys2Proof.Machine

/-! ### Sessions after an arrival -/

/-- The session just put into a list is the first of its number there. -/
theorem find?_putSessionIn (x : Session) : ∀ l : List Session, (putSessionIn x l).find? (fun y => y.num == x.num) = some x
  | [] => by simp [putSessionIn]
  | y :: l => by
    unfold putSessionIn
    split
    · simp
    · split
      · simp
      next hne => simp [Ne.symm hne, find?_putSessionIn x l]

/-- The session just put is the one found under its number. -/
theorem findSession_putSession {x : Session} {n : Nat} (s : State) (hn : x.num = n) : findSession (putSession x s) n = some x := by
  subst hn
  exact find?_putSessionIn x s.pk.sessions

theorem num_of_findSession {s : State} {n : Nat} {x : Session} (h : findSession s n = some x) : x.num = n := by
  simpa using List.find?_some h

/-- The session of a request with a new SEQUENCE: its window and its records moved on to it (R110). -/
def advance (p : Request) (x : Session) : Session :=
  let d := (p.sequence.toNat + 4294967296 - x.h) % 4294967296
  trimRecords { x with h := p.sequence.toNat, seen := if d < 64 then (x.seen * 2 ^ d + 1) % 2 ^ 64 else 1 }

/-- The state in which a request that is authentic and new has been noted in its session. -/
def noteArrival (p : Request) (x : Session) (s : State) : State :=
  putSession (advance p (touch p s.now x)) (putSession (touch p s.now x) s)

@[simp] theorem advance_level (p : Request) (x : Session) : (advance p x).level = x.level := rfl
@[simp] theorem touch_level (p : Request) (now : Nat) (x : Session) : (touch p now x).level = x.level := rfl

theorem findSession_noteArrival {p : Request} {x : Session} {n : Nat} (s : State) (hn : x.num = n) :
    findSession (noteArrival p x s) n = some (advance p (touch p s.now x)) := findSession_putSession _ hn

/-! ### A request that is authentic and new (R110) -/

/-- What R110 asks of an authentic request, one by one. -/
theorem authentic_iff {op : Nat} {p : Request} {x : Session} {s : State} :
    authentic op p x s = true ↔
      wholeHere op p s = true ∧ p.version.toNat = 1 ∧ forwardedIn p = false ∧ 2 < op ∧ x.isOpen = true ∧ x.key.isEmpty = false ∧
        tagOf x.key (requestBytes op p 0) = p.auth.toNat ∧ (isRelief s && decide (p.session.toNat ≤ 12)) = false ∧
        newSequence x p = true ∧ heldOff s op p = none := by
  simp only [authentic, Bool.and_eq_true, Bool.not_eq_true', beq_iff_eq, decide_eq_true_eq, Option.isNone_iff_eq_none, and_assoc]

/-- The examination of a new SEQUENCE notes it in the session and goes on to the admission. -/
theorem examineSequence_of_new {op : Nat} {p : Request} {x : Session} {s : State} (tbl : Nat → Option OpInfo)
    (h : newSequence x p = true) : examineSequence tbl op p x s = admitAndExecute tbl op p (putSession (advance p x) s) := by
  simp only [newSequence, Bool.and_eq_true, bne_iff_ne, decide_eq_true_eq] at h
  simp [examineSequence, h, advance]

/-- An authentic request is noted in its session and goes on to the admission. -/
theorem examineSession_of_authentic {op : Nat} {p : Request} {x : Session} {s : State} (tbl : Nat → Option OpInfo)
    (hx : findSession s p.session.toNat = some x) (h : authentic op p x s = true) :
    examineSession tbl op p s = admitAndExecute tbl op p (noteArrival p x s) := by
  obtain ⟨-, -, hf, -, hopen, hkey, htag, hrelief, hnew, hheld⟩ := authentic_iff.mp h
  have found : heldSession s p.session.toNat = some x := by rw [heldSession, hrelief, ← hx]; rfl
  have ownSession : (isRelief s && decide (x.num ≤ 12)) = false := by rw [num_of_findSession hx, hrelief]
  have free : heldOffTerminus s op p = false := by simp [heldOffTerminus, hheld]
  have new : newSequence (touch p s.now x) p = true := hnew
  simp [examineSession, hf, found, hopen, hkey, htag, ownSession, free, examineSequence_of_new tbl new, noteArrival]

/-- An authentic request is counted as received, noted in its session and goes on to the admission. -/
theorem examine_of_authentic {op : Nat} {p : Request} {x : Session} {s : State} (hx : findSession s p.session.toNat = some x)
    (h : authentic op p x s = true) :
    examine op p s = settle (admitAndExecute opTable op p (noteArrival p x (countReceived s))) := by
  obtain ⟨whole, version, hf, hop, -⟩ := authentic_iff.mp h
  simp only [examine, isArming, hf, acceptPacket_of_wholeHere opTable whole version (by omega) (by omega),
    examineSession_of_authentic (s := countReceived s) opTable hx h]
  simp

/-! ### Admission and execution on this module -/

theorem code_of_opTable {op : Nat} {info : OpInfo} (h : opTable op = some info) : info.code = op := by
  simpa using List.find?_some h

/-- Admission of a request that nothing holds off, at a level that its opcode allows, for this module, and of the right length. -/
theorem admitAndExecute_of_here {tbl : Nat → Option OpInfo} {op : Nat} {info : OpInfo} {p : Request} {s : State}
    (hop : tbl op = some info) (hheld : heldOff s op p = none) (hlevel : info.level ≤ levelOf s p)
    (hplace : placeOf s op info.bcast p = .here) (hlen : info.lenOk p.params = true) :
    admitAndExecute tbl op p s = admitAt info .here p s := by
  simp [admitAndExecute, hop, hheld, Nat.not_lt.mpr hlevel, hplace, hlen]

/-- What is not to wait for the Signal die is not refused for its loss. -/
theorem signalLost_of_not_mustQueue {info : OpInfo} {reserved : Bool} {p : Request} {s : State}
    (h : mustQueue info reserved p s = false) : (info.needsSignal p && signalLost s) = false := by
  cases hn : info.needsSignal p with
  | false => rfl
  | true =>
    simp only [mustQueue, hn, Bool.true_and, Bool.or_eq_false_iff, Bool.not_eq_false', signalReady, Bool.and_eq_true] at h
    simp [signalLost, h.1.1]

/-- A request that need not wait is carried out at once. -/
theorem executeHere_of_not_mustQueue {info : OpInfo} {reserved : Bool} {p : Request} {s : State}
    (h : mustQueue info reserved p s = false) :
    executeHere info reserved p s = concludeRun reserved false info.code p (info.run p s) := by
  simp [executeHere, signalLost_of_not_mustQueue h, h]

/-- Taking a grant of the RESERVED budget changes the list of grants alone. -/
theorem takeReserved_snd (op : Nat) (p : Request) (s : State) :
    (takeReserved op p s).2 = { s with pk := { s.pk with reservedUse := (takeReserved op p s).2.pk.reservedUse } } := by
  unfold takeReserved
  split
  · rfl
  · split <;> rfl

/-- Whether there is a grant does not depend on the sessions. -/
theorem takeReserved_noteArrival (op : Nat) (p : Request) (x : Session) (s : State) :
    (takeReserved op p (noteArrival p x (countReceived s))).1 = (takeReserved op p s).1 := by
  simp only [takeReserved, apply_ite Prod.fst]
  rfl

/-- A request with a place in the ring of its session, or that needs none, and that need not wait, is carried out in the state that the
budget of R122 leaves. -/
theorem admitAt_here {info : OpInfo} {p : Request} {s : State}
    (hring : ((takeReserved info.code p s).1 || info.code == 0x0007 || !ringFull s p) = true)
    (hwait : mustQueue info (takeReserved info.code p s).1 p s = false) :
    admitAt info .here p s =
      concludeRun (takeReserved info.code p s).1 false info.code p (info.run p (takeReserved info.code p s).2) := by
  have ring : (ringFull (takeReserved info.code p s).2 p && !(takeReserved info.code p s).1 && info.code != 0x0007) = false := by
    rw [takeReserved_snd]
    change (ringFull s p && _ && _) = false
    revert hring
    cases ringFull s p <;> cases (takeReserved info.code p s).1 <;> simp
  have wait : mustQueue info (takeReserved info.code p s).1 p (takeReserved info.code p s).2 = false := by
    rw [takeReserved_snd]
    exact hwait
  simp only [admitAt, ring, executeHere_of_not_mustQueue wait]
  rfl

/-- The state in which a request of a host is carried out: its session is noted, and the budget of R122 has given its grant. -/
theorem admitted_takeReserved {op : Nat} {p : Request} {x : Session} {s : State} (hx : findSession s p.session.toNat = some x)
    (hf : forwardedIn p = false) : Admitted p s (takeReserved op p (noteArrival p x (countReceived s))).2 := by
  rw [takeReserved_snd]
  refine ⟨rfl, x, _, hx, findSession_noteArrival (countReceived s) (num_of_findSession hx), ?_⟩
  simp [advance, trimRecords, touch, hf, countReceived]

/-- A request that passes R110 and executes here is carried out: its opcode's answer is concluded in the state of its admission. -/
theorem examine_of_acceptable {op : Nat} {info : OpInfo} {p : Request} {s : State} (hop : opTable op = some info)
    (h : acceptable op p s = true) :
    ∃ (s1 : State) (reserved : Bool), Admitted p s s1 ∧
      examine op p s = settle (concludeRun reserved false op p (info.run p s1)) := by
  simp only [acceptable, hop] at h
  split at h
  next info' x hinfo hx =>
    obtain rfl : info = info' := by simpa using hinfo
    simp only [Bool.and_eq_true, Bool.not_eq_true', decide_eq_true_eq, beq_iff_eq] at h
    obtain ⟨⟨⟨⟨⟨hauth, hlevel⟩, hplace⟩, hlen⟩, hwait⟩, hring⟩ := h
    obtain ⟨-, -, hf, -, -, -, -, -, -, hheld⟩ := authentic_iff.mp hauth
    obtain rfl := code_of_opTable hop
    let arrived := noteArrival p x (countReceived s)
    have level : info.level ≤ levelOf arrived p := by
      simpa [levelOf, hf, arrived, findSession_noteArrival (countReceived s) (num_of_findSession hx)] using hlevel
    have grant := takeReserved_noteArrival info.code p x s
    refine ⟨(takeReserved info.code p arrived).2, (takeReserved info.code p arrived).1, admitted_takeReserved hx hf, ?_⟩
    rw [examine_of_authentic hx hauth, admitAndExecute_of_here (s := arrived) hop hheld level hplace hlen, admitAt_here]
    · rw [grant]
      exact hring
    · rw [grant]
      exact hwait
  next => simp at h

/-- Every request of an opcode is carried out as its entry of the opcode table says. -/
theorem serves_of_run {c : Nat → Request → Instr} {op : Nat} {info : OpInfo} {cond : Request → State → Prop}
    {P : Request → State → Answer → Prop} (hexec : ∀ t p s, exec (c t p) s = .next (examine op p (begin_ t s)))
    (hop : opTable op = some info) (hrun : ∀ p s s1, cond p s → Admitted p s s1 → P p s1 (info.run p s1)) : Serves c op cond P := by
  intro t p s hacc hcond
  obtain ⟨s1, reserved, hadm, hexam⟩ := examine_of_acceptable hop hacc
  exact ⟨s1, reserved, info.run p s1, hadm, by rw [hexec, hexam], hrun p _ s1 hcond hadm⟩

end Sys2Proof.Machine
end

section
/-!
SUPPORT. Register reads: the computed registers are each in their block, and a register of a block without wide registers reads as it
is computed or stored.
-/

namespace Sys2Proof.Machine

/-! ### Runs of numbers and of registers -/

theorem upFrom_eq_range' (a n : Nat) : upFrom a n = List.range' a n := by
  induction n generalizing a with
  | zero => rfl
  | succ n ih => simp [upFrom, ih, List.range'_succ]

@[simp] theorem mem_upFrom {a n i : Nat} : i ∈ upFrom a n ↔ a ≤ i ∧ i < a + n := by
  rw [upFrom_eq_range', List.mem_range'_1]

/-- m runs of k numbers each, one after the other, are one run. -/
theorem flatMap_upFrom_mul {α : Type} (g : Nat → List α) (m k : Nat) :
    (upFrom 0 m).flatMap (fun n => (upFrom 0 k).flatMap (fun i => g (k * n + i))) = (upFrom 0 (k * m)).flatMap g := by
  simp only [upFrom_eq_range', ← List.range_eq_range']
  induction m with
  | zero => simp
  | succ m ih => simp [List.range_succ, Nat.mul_succ, List.range_add, List.flatMap_map, ih]

/-- Registers in a row that read as a function says. -/
theorem registerBytes_eq {s : State} {a n : Nat} (f : Nat → Nat) (h : ∀ i < n, readWord s (a + 4 * i) = f (a + 4 * i)) :
    registerBytes s a n = (upFrom 0 n).flatMap (fun i => leBytes 4 (f (a + 4 * i))) := by
  refine List.flatMap_congr fun i hi => ?_
  rw [h i (by simpa using hi)]

/-! ### The blocks of the register map (R829) -/

/-- The first address of a block. -/
def Block.first : Block → Nat
  | .IDR => 0 | .CLK => 0x10000 | .PWR => 0x20000 | .LSW => 0x30000 | .CLE => 0x40000 | .MDB => 0x50000 | .EVR => 0x60000
  | .UPD => 0x70000 | .LIN => 0x80000 | .DMA => 0x90000 | .FUS => 0xA0000 | .SET => 0xB0000 | .GNS => 0xC0000
  | .YLD => 0xD0000 | .CST => 0xE0000 | .EVT => 0xF0000 | .CFG => 0x100000

/-- The last address of a block. -/
def Block.last : Block → Nat
  | .IDR => 0x3F | .CLK => 0x1001F | .PWR => 0x2002F | .LSW => 0x304FF | .CLE => 0x4FFFF | .MDB => 0x52FFF | .EVR => 0x60023
  | .UPD => 0x7002F | .LIN => 0x80043 | .DMA => 0x90C3F | .FUS => 0xA227F | .SET => 0xB03FF | .GNS => 0xC17FF
  | .YLD => 0xD009F | .CST => 0xE0057 | .EVT => 0xF02FF | .CFG => 0x10002F

/-- An address between the ends of a block lies in it. -/
theorem blockOf_of_bounds (b : Block) {a : Nat} (lo : b.first ≤ a) (hi : a ≤ b.last) : blockOf a = some b := by
  cases b <;> simp only [Block.first, Block.last] at lo hi <;> simp (disch := omega) only [blockOf, if_pos, if_neg]

/-- No field of the register map is write-only. -/
theorem regMask_writeOnly (a : Nat) : regMask (fun c => c == Access.WO) a = 0 := by
  unfold regMask regDesc
  cases blockOf a with
  | none => rfl
  | some b =>
    cases hd : (blockMap b).find? (fun d => d.covers a) with
    | none => simp [hd]
    | some d =>
      have all : ∀ d ∈ blockMap b, fieldsMask (fun c => c == Access.WO) d.fields = 0 := by cases b <;> decide
      simpa [hd] using all d (List.mem_of_find?_eq_some hd)

/-! ### The computed registers, each in its block -/

/-- A function of computed registers answers in the blocks of a list only. -/
def AnswersIn (bs : List Block) (f : State → Nat → Option Nat) : Prop :=
  ∀ s a v, f s a = some v → ∃ b ∈ bs, blockOf a = some b

/-- Such a function answers nothing in another block. -/
theorem AnswersIn.eq_none {bs : List Block} {f : State → Nat → Option Nat} (h : AnswersIn bs f) {s : State} {a : Nat} {b : Block}
    (hb : blockOf a = some b) (hn : b ∉ bs) : f s a = none := by
  cases hf : f s a with
  | none => rfl
  | some v =>
    obtain ⟨c, hc, hac⟩ := h s a v hf
    obtain rfl : b = c := by simpa [hb] using hac
    exact absurd hc hn

/-- A register of a numbered family that a search finds lies in the block of the family. -/
theorem blockOf_of_find? {reg : Nat → Nat} {k n a i : Nat} {b : Block} (hf : (upFrom k n).find? (fun i => a == reg i) = some i)
    (hb : ∀ i, i < k + n → blockOf (reg i) = some b) : blockOf a = some b := by
  have mem := mem_upFrom.mp (List.mem_of_find?_eq_some hf)
  have same : a = reg i := by simpa using List.find?_some hf
  rw [same, hb i mem.2]

/-- A function that answers at no address. -/
theorem AnswersIn.nowhere (bs : List Block) : AnswersIn bs (fun _ _ => none) := fun _ _ _ h => nomatch h

/-- A function that treats one address of its blocks apart. -/
theorem AnswersIn.atAddress {bs : List Block} {f g : State → Nat → Option Nat} {c : Nat} (hc : ∃ b ∈ bs, blockOf c = some b)
    (hf : AnswersIn bs f) : AnswersIn bs (fun s a => if a = c then g s a else f s a) := by
  intro s a v h
  dsimp only at h
  split at h
  next same => rwa [same]
  next => exact hf s a v h

theorem lineOverlay_answersIn : AnswersIn [.LIN] lineOverlay :=
  .atAddress (by decide) <| .atAddress (by decide) <| .atAddress (by decide) <| .atAddress (by decide) <| .nowhere _

theorem loadOverlay_answersIn : AnswersIn [.LSW] loadOverlay :=
  .atAddress (by decide) <| .atAddress (by decide) <| .atAddress (by decide) <| .atAddress (by decide) <| .nowhere _

theorem setOverlay_answersIn : AnswersIn [.CFG] setOverlay :=
  .atAddress (by decide) <| .atAddress (by decide) <| .atAddress (by decide) <| .nowhere _

theorem yieldOverlay_answersIn : AnswersIn [.YLD] yieldOverlay :=
  .atAddress (by decide) <| .atAddress (by decide) <| .atAddress (by decide) <| .atAddress (by decide) <|
    .atAddress (by decide) <| .atAddress (by decide) <| .atAddress (by decide) <| .nowhere _

theorem consistOverlay_answersIn : AnswersIn [.CST] consistOverlay :=
  .atAddress (by decide) <| .atAddress (by decide) <| .nowhere _

theorem clockOverlay_answersIn : AnswersIn [.CLK] clockOverlay := .atAddress (by decide) <| .nowhere _

theorem updOverlay_answersIn : AnswersIn [.UPD] updOverlay := by
  intro s a v h
  simp only [updOverlay, Option.ite_none_right_eq_some] at h
  obtain ⟨⟨rfl | rfl | rfl, -⟩, -⟩ := h <;> exact ⟨_, List.mem_singleton_self _, rfl⟩

theorem settingOverlay_answersIn : AnswersIn [.SET] settingOverlay :=
  .atAddress (by decide) <| .atAddress (by decide) <| by
    intro s a v h
    cases hf : (upFrom 0 48).find? (fun n => a == Reg.SET_FN_START n) with
    | none => simp [hf] at h
    | some n => exact ⟨_, List.mem_singleton_self _, blockOf_of_find? hf (by decide)⟩

theorem canOverlay_answersIn : AnswersIn [.MDB] canOverlay := by
  intro s a v h
  cases hf : (upFrom 0 4).find? (fun n => a == Reg.MDB_C_STATUS n) with
  | none => simp [canOverlay, hf] at h
  | some n => exact ⟨_, List.mem_singleton_self _, blockOf_of_find? hf (by decide)⟩

theorem logOverlay_answersIn : AnswersIn [.EVR, .EVT] logOverlay :=
  .atAddress (by decide) <| .atAddress (by decide) <| .atAddress (by decide) <| .atAddress (by decide) <| by
    intro s a v h
    cases hf : (upFrom 1 16).find? (fun n => a == Reg.EVT_QUEUE (n - 1)) with
    | none => simp [hf] at h
    | some n => exact ⟨.EVT, by simp, blockOf_of_find? hf (by decide)⟩

theorem navOverlay_answersIn : AnswersIn [.GNS] navOverlay := by
  intro s a v h
  refine ⟨_, List.mem_singleton_self _, ?_⟩
  unfold navOverlay at h
  split_ifs at h with receiver
  · simp only [receiverReg, Bool.and_eq_true, decide_eq_true_eq] at receiver
    obtain ⟨⟨⟨⟨⟨lo, hi⟩, -⟩, -⟩, -⟩, -⟩ := receiver
    exact blockOf_of_bounds .GNS (le_trans (by decide) lo) (le_trans hi (by decide))
  all_goals subst a; rfl

theorem dmaOverlay_answersIn : AnswersIn [.DMA] dmaOverlay :=
  .atAddress (by decide) <| .atAddress (by decide) <| by
    intro s a v h
    refine ⟨_, List.mem_singleton_self _, ?_⟩
    dsimp only at h
    split_ifs at h with channels others
    · obtain ⟨lo, hi, -⟩ := channels
      exact blockOf_of_bounds .DMA (le_trans (by decide) lo) (le_trans hi.le (by decide))
    · obtain ⟨lo, hi, -⟩ := others
      exact blockOf_of_bounds .DMA (le_trans (by decide) lo) (le_trans hi (by decide))

theorem engineOverlay_answersIn : AnswersIn [.CLE, .CLK, .FUS] engineOverlay :=
  .atAddress (by decide) <| .atAddress (by decide) <| .atAddress (by decide) <| .atAddress (by decide) <| by
    intro s a v h
    dsimp only at h
    split at h
    next n off gain =>
      simp only [gainReg, Option.ite_none_right_eq_some] at gain
      obtain ⟨⟨lo, hi, -⟩, -⟩ := gain
      exact ⟨.CLE, by simp, blockOf_of_bounds .CLE (le_trans (by decide) lo) (Nat.le_of_lt_succ hi)⟩
    next =>
      cases hf : (upFrom 0 20).find? (fun i => a == Reg.FUS_STR_STATE i) with
      | none => simp [hf] at h
      | some i => exact ⟨.FUS, by simp, blockOf_of_find? hf (by decide)⟩

/-- Below the map of gain tables, what CLE and CLK compute is the budget, the losses and the gates. -/
theorem engineOverlay_of_lt {s : State} {a : Nat} (ha : a < 0x48000) (budget : a ≠ Reg.CLE_BUDGET) (loss : a ≠ Reg.CLE_LOSS) :
    engineOverlay s a = clockOverlay s a := by
  have noGain : gainReg a = none := by simp [gainReg]; omega
  have cells : a ≠ Reg.FUS_CELLS := by simp only [Reg.FUS_CELLS]; omega
  have noStream : (upFrom 0 20).find? (fun i => a == Reg.FUS_STR_STATE i) = none := by
    simp [Reg.FUS_STR_STATE]; omega
  rw [engineOverlay, if_neg budget, if_neg loss]
  by_cases gate : a = Reg.CLK_GATE_STATE
  · rw [if_pos gate]
  · simp [clockOverlay, gate, cells, noGain, noStream]

/-- The computed registers of a block. -/
def blockOverlay : Block → State → Nat → Option Nat
  | .LIN => lineOverlay | .CLE | .CLK | .FUS => engineOverlay | .LSW => loadOverlay | .CFG => setOverlay | .SET => settingOverlay
  | .GNS => navOverlay | .YLD => yieldOverlay | .CST => consistOverlay | .DMA => dmaOverlay | .MDB => canOverlay | .UPD => updOverlay
  | .EVR | .EVT => logOverlay | .IDR | .PWR => fun _ _ => none

@[simp] theorem firstOf_cons (f : State → Nat → Option Nat) (l : List (State → Nat → Option Nat)) (s : State) (a : Nat) :
    firstOf (f :: l) s a = (f s a).or (firstOf l s a) := by
  simp only [firstOf]
  cases f s a <;> rfl

@[simp] theorem firstOf_nil (s : State) (a : Nat) : firstOf [] s a = none := rfl

/-- What a register computes is said by the functions of its block. -/
theorem overlay_of_block {s : State} {a : Nat} {b : Block} (hb : blockOf a = some b) : overlay s a = blockOverlay b s a := by
  cases b <;>
    simp [overlay, blockOverlay, lineOverlay_answersIn.eq_none hb, engineOverlay_answersIn.eq_none hb,
      loadOverlay_answersIn.eq_none hb, setOverlay_answersIn.eq_none hb, settingOverlay_answersIn.eq_none hb,
      navOverlay_answersIn.eq_none hb, yieldOverlay_answersIn.eq_none hb, consistOverlay_answersIn.eq_none hb,
      dmaOverlay_answersIn.eq_none hb, canOverlay_answersIn.eq_none hb, updOverlay_answersIn.eq_none hb,
      logOverlay_answersIn.eq_none hb]

/-! ### Registers as they read -/

/-- A register with a low half before it lies in a block with wide registers (R219, R335, R544, R700). -/
theorem blockOf_of_latchesHigh {a : Nat} (h4 : 4 ≤ a) (h : latchesHigh (a - 4) = true) :
    ∃ b ∈ [Block.LIN, .GNS, .MDB, .FUS], blockOf a = some b := by
  obtain ⟨c, rfl⟩ := Nat.exists_eq_add_of_le' h4
  simp only [Nat.add_sub_cancel, latchesHigh, Bool.or_eq_true, beq_iff_eq, List.any_eq_true] at h
  obtain ((((rfl | rfl) | rfl) | rfl) | ⟨n, hn, rfl⟩) | ⟨i, hi, rfl | rfl⟩ := h
  iterate 4 decide
  · revert n; decide
  · revert i; decide
  · revert i; decide

/-- A register of a block without wide registers reads as it is computed or stored. -/
theorem readWord_of_block {s : State} {a : Nat} {b : Block} (hb : blockOf a = some b) (hn : b ∉ [Block.LIN, .GNS, .MDB, .FUS]) :
    readWord s a = (blockOverlay b s a).getD (s.reg a) := by
  have plain : ¬ (4 ≤ a ∧ latchesHigh (a - 4) = true) := by
    rintro ⟨h4, h⟩
    obtain ⟨c, hc, hac⟩ := blockOf_of_latchesHigh h4 h
    obtain rfl : b = c := by simpa [hb] using hac
    exact hn hc
  simp [readWord, plain, overlay_of_block hb, regMask_writeOnly]

end Sys2Proof.Machine
end

section
/-!
The status requests that return registers (R436, R631, R672, R732, R781).
-/

namespace Sys2Proof.Machine

/-! ### The registers of status requests -/

/-- Runs of k registers, one after the other, are one run. -/
theorem registerBytes_mul (s : State) (a m k : Nat) :
    (upFrom 0 m).flatMap (fun n => registerBytes s (a + 4 * k * n) k) = registerBytes s a (k * m) := by
  simp only [registerBytes, ← flatMap_upFrom_mul, Nat.mul_add, Nat.mul_assoc, Nat.add_assoc]

/-- A run-time register of a loop reads as it is stored (R435). -/
theorem readWord_loop {s : State} {a : Nat} (lo : 0x41000 ≤ a) (hi : a < 0x41400) : readWord s a = s.reg a := by
  have cle : blockOf a = some .CLE := blockOf_of_bounds .CLE (by simp [Block.first]; omega) (by simp [Block.last]; omega)
  have stored : engineOverlay s a = none := by
    rw [engineOverlay_of_lt (by omega) (by simp [Reg.CLE_BUDGET]; omega) (by simp [Reg.CLE_LOSS]; omega)]
    exact clockOverlay_answersIn.eq_none cle (by decide)
  simp [readWord_of_block cle (by decide), blockOverlay, stored]

/-- The registers of a loop, as LOOP_STATUS gives them (R436). -/
theorem loopRegisters_eq {s : State} {n : Nat} (hn : n < 32) : loopRegisters s n = registerBytes s (0x41000 + 0x20 * n) 8 :=
  (registerBytes_eq (a := 0x41000 + 0x20 * n) s.reg fun i hi => readWord_loop (by omega) (by omega)).symm

/-- The registers of every loop, as LOOP_STATUS gives them (R436). -/
theorem allLoopRegisters_eq (s : State) : (upFrom 0 32).flatMap (loopRegisters s) = registerBytes s 0x41000 256 := by
  rw [← registerBytes_mul s 0x41000 32 8]
  exact List.flatMap_congr fun n hn => loopRegisters_eq (by simpa using hn)

/-- Registers of the block DMA, as DMA_STATUS gives them (R672). -/
theorem dmaRegs_eq {s : State} {a n : Nat} (lo : 0x90000 ≤ a) (hi : a + 4 * n ≤ 0x90C40) : dmaRegs s a n = registerBytes s a n := by
  refine (registerBytes_eq (fun a => (dmaOverlay s a).getD (s.reg a)) fun i hi => ?_).symm
  exact readWord_of_block (b := .DMA) (blockOf_of_bounds .DMA (by simp [Block.first]; omega) (by simp [Block.last]; omega)) (by decide)

/-- A register of CLK reads as LEVEL_STATUS gives it (R631). -/
theorem readWord_clk {s : State} {a : Nat} (lo : 0x10000 ≤ a) (hi : a < 0x10020) : readWord s a = levelWord s a := by
  have clk : blockOf a = some .CLK := blockOf_of_bounds .CLK lo (Nat.le_of_lt_succ hi)
  rw [readWord_of_block clk (by decide), blockOverlay,
    engineOverlay_of_lt (by omega) (by simp [Reg.CLE_BUDGET]; omega) (by simp [Reg.CLE_LOSS]; omega), levelWord]

/-- A register of PWR reads as LEVEL_STATUS gives it (R631). -/
theorem readWord_pwr {s : State} {a : Nat} (lo : 0x20000 ≤ a) (hi : a < 0x20030) : readWord s a = levelWord s a := by
  have pwr : blockOf a = some .PWR := blockOf_of_bounds .PWR lo (Nat.le_of_lt_succ hi)
  rw [readWord_of_block pwr (by decide), levelWord, clockOverlay_answersIn.eq_none pwr (by decide)]
  rfl

/-- The registers of both blocks, as LEVEL_STATUS gives them (R631). -/
theorem levelRegisters_eq (s : State) :
    (upFrom 0 8).flatMap (fun i => leBytes 4 (levelWord s (Reg.CLK_CFG + 4 * i))) ++
        (upFrom 0 6).flatMap (fun i => leBytes 4 (levelWord s (Reg.PWR_CFG + 4 * i))) =
      registerBytes s 0x10000 8 ++ registerBytes s 0x20000 6 := by
  rw [registerBytes_eq (levelWord s) fun i hi => readWord_clk (by omega) (by omega),
    registerBytes_eq (levelWord s) fun i hi => readWord_pwr (by omega) (by omega)]
  rfl

/-- The registers of the logbook, as LOGBOOK_INFO gives them (R732). -/
theorem logRegisters_eq (s : State) :
    (upFrom 0 9).flatMap (fun i => leBytes 4 ((logOverlay s (Reg.EVR_OPSEC + 4 * i)).getD (s.reg (Reg.EVR_OPSEC + 4 * i)))) =
      registerBytes s 0x60000 9 := by
  refine (registerBytes_eq (a := 0x60000) (fun a => (logOverlay s a).getD (s.reg a)) fun i hi => ?_).symm
  exact readWord_of_block (b := .EVR) (blockOf_of_bounds .EVR (by simp [Block.first]) (by simp [Block.last]; omega)) (by decide)

/-- The registers of updates, as UPDATE_STATUS gives them (R781). -/
theorem updateStatus_eq (s : State) : updateStatus s = registerBytes s 0x70000 12 := by
  refine (registerBytes_eq (a := 0x70000) (fun a => (updOverlay s a).getD (s.reg a)) fun i hi => ?_).symm
  exact readWord_of_block (b := .UPD) (blockOf_of_bounds .UPD (by simp [Block.first]) (by simp [Block.last]; omega)) (by decide)

/-! ### The status requests -/

theorem runLoopStatus_of_loop {p : Request} {s : State} (h : fieldAt p.params 0 1 ≤ 31) :
    runLoopStatus p s = ok s (registerBytes s (0x41000 + 0x20 * fieldAt p.params 0 1) 8) := by
  have one : fieldAt p.params 0 1 ≠ 0xFF := by omega
  simp only [runLoopStatus, one, if_false, Nat.not_lt.mpr h, loopRegisters_eq (Nat.lt_succ_of_le h)]

theorem runLoopStatus_of_all {p : Request} {s : State} (h : fieldAt p.params 0 1 = 0xFF) :
    runLoopStatus p s = ok s (registerBytes s 0x41000 256) := by
  simp only [runLoopStatus, h, if_true, allLoopRegisters_eq]

theorem runDmaStatus_of_channel {p : Request} {s : State} (h : fieldAt p.params 0 1 ≤ 31) :
    runDmaStatus p s = ok s (registerBytes s 0x90000 4 ++ registerBytes s (Reg.DMA_CH_CTRL (fieldAt p.params 0 1)) 8) := by
  have one : fieldAt p.params 0 1 ≠ 0xFF := by omega
  have channel : fieldAt p.params 0 1 < 32 := Nat.lt_succ_of_le h
  have head : dmaRegs s Reg.DMA_BUDGET 4 = registerBytes s 0x90000 4 := dmaRegs_eq (by decide) (by decide)
  simp only [runDmaStatus, one, if_false, channel, if_true, head]
  rw [dmaRegs_eq (by simp only [Reg.DMA_CH_CTRL]; omega) (by simp only [Reg.DMA_CH_CTRL]; omega)]

theorem runDmaStatus_of_all {p : Request} {s : State} (h : fieldAt p.params 0 1 = 0xFF) :
    runDmaStatus p s = ok s (registerBytes s 0x90000 4 ++ registerBytes s (Reg.DMA_CH_CTRL 0) 256) := by
  have head : dmaRegs s Reg.DMA_BUDGET 4 = registerBytes s 0x90000 4 := dmaRegs_eq (by decide) (by decide)
  simp only [runDmaStatus, h, if_true, head]
  rw [dmaRegs_eq (by decide) (by decide)]

/-- Settles O56: a status request that is accepted runs as its entry of the opcode table says, and what it gathers is its registers
as they read. -/
theorem statusReads : Obligations.StatusReads := by
  refine ⟨?_, ?_, ?_, ?_, ?_, ?_, ?_⟩
  · exact serves_of_run (fun _ _ _ => rfl) rfl fun _ _ _ h _ => runLoopStatus_of_loop h
  · exact serves_of_run (fun _ _ _ => rfl) rfl fun _ _ _ h _ => runLoopStatus_of_all h
  · exact serves_of_run (fun _ _ _ => rfl) rfl fun _ _ s1 _ _ => congrArg (ok s1) (levelRegisters_eq s1)
  · exact serves_of_run (fun _ _ _ => rfl) rfl fun _ _ _ h _ => runDmaStatus_of_channel h
  · exact serves_of_run (fun _ _ _ => rfl) rfl fun _ _ _ h _ => runDmaStatus_of_all h
  · exact serves_of_run (fun _ _ _ => rfl) rfl fun _ _ s1 _ _ => congrArg (ok s1) (logRegisters_eq s1)
  · exact serves_of_run (fun _ _ _ => rfl) rfl fun _ _ s1 _ _ => congrArg (ok s1) (updateStatus_eq s1)

end Sys2Proof.Machine
end

section
/-!
The identity of this release: an identity register reads as it is stored, and a new module stores IDR_UID alone of its block
(R825, R826).
-/

namespace Sys2Proof.Machine

/-- Registers of the block IDR read as they are stored. -/
theorem registerBytes_idr {s : State} {a n : Nat} (h : a + 4 * n ≤ 0x40) :
    registerBytes s a n = (upFrom 0 n).flatMap (fun i => leBytes 4 (s.reg (a + 4 * i))) := by
  refine registerBytes_eq s.reg fun i hi => ?_
  rw [readWord_of_block (b := .IDR) (blockOf_of_bounds .IDR (Nat.zero_le _) (by simp only [Block.last]; omega)) (by decide)]
  rfl

/-- Of the block IDR a new module stores IDR_UID_LO alone; the other registers are at the value of the Reset column. -/
theorem reg_reset_idr {a : Nat} (h : a ≤ 0x3F) (uid : a ≠ Reg.IDR_UID_LO) : State.reset.reg a = (regDefault a).toNat := by
  have rest : storeWf regDefault 0x40 State.resetRegs.tail = true := by decide
  change (storeGet regDefault ((Reg.IDR_UID_LO, 1#32) :: State.resetRegs.tail) a).toNat = _
  rw [storeGet, if_neg uid, storeGet_below regDefault _ 0x40 a rest (by omega)]

/-- Registers of the block IDR before or after IDR_UID_LO read in a new module as the Reset column says. -/
theorem registerBytes_reset_idr {a n : Nat} (h : a + 4 * n ≤ 0x40) (uid : a + 4 * n ≤ Reg.IDR_UID_LO ∨ Reg.IDR_UID_LO < a) :
    registerBytes State.reset a n = (upFrom 0 n).flatMap (fun i => leBytes 4 (regDefault (a + 4 * i)).toNat) := by
  rw [registerBytes_idr h]
  refine List.flatMap_congr fun i hi => ?_
  have inRun := mem_upFrom.mp hi
  rw [reg_reset_idr (by omega) (by omega)]

/-- IDR_UID of the new module of the model (log entry 1). -/
theorem ownUid_reset : ownUid State.reset = 1 := by
  have lo : State.reset.reg Reg.IDR_UID_LO = 1 := rfl
  have hi : State.reset.reg Reg.IDR_UID_HI = 0 := reg_reset_idr (by decide) (by decide)
  rw [ownUid, State.get64, lo, hi]

/-- Settles O55: the block IDR of a new module reads as its Reset column says, and its IDR_UID is 1. -/
theorem identityOfThisRelease : Obligations.IdentityOfThisRelease := by
  refine ⟨?_, ?_, ?_, ?_, ?_⟩
  · exact (registerBytes_reset_idr (by decide) (by decide)).trans (by decide)
  · exact (registerBytes_reset_idr (by decide) (by decide)).trans (by decide)
  · exact (registerBytes_reset_idr (by decide) (by decide)).trans (by decide)
  · simp [ownUid_reset]
  · simp [ownUid_reset]

end Sys2Proof.Machine
end

section
/-!
The machine as a whole: steps, completion and the state after reset.
-/

namespace Sys2Proof.Machine

/-- Settles O53: both equations are the two arms of step. -/
theorem stepRunsFrontCommand : Obligations.StepRunsFrontCommand := by
  refine ⟨fun c rest s waits => ?_, fun s idle => ?_⟩
  · simp only [step, waits]
  · simp only [step, idle]

/-- Settles O54: each arm of exec answers a next state. -/
theorem everyCommandCompletes : Obligations.EveryCommandCompletes := by
  intro c s
  cases c <;> exact ⟨_, rfl⟩

/-- Settles O57: the registers and lists of a new module are canonical and of their sizes, as they stand in the state after reset. -/
theorem resetIsSound : Obligations.ResetIsSound := ⟨by decide +kernel, rfl, rfl, rfl, rfl⟩

/-- Settles O1: an accepted request is noted in its session, takes its grant of the budget, and is carried out by its opcode's entry. -/
theorem acceptedRequestIsServed : Obligations.AcceptedRequestIsServed :=
  fun _ _ _ _ hop accepted => examine_of_acceptable hop accepted

/-! ### Packets that are not whole (R110) -/

/-- Without a restart that is due, the examination of a packet that is no arming request is its acceptance. -/
theorem examine_of_accepted {op : Nat} {p : Request} {s u : State} (ha : isArming op p = false)
    (hu : acceptPacket opTable op p s = u) (hdue : u.upd.restartDue = []) : examine op p s = u := by
  simp only [examine, ha, hu]
  exact settle_of_none_due hdue

section
variable {op : Nat} {p : Request} {s : State} (tbl : Nat → Option OpInfo) (open_ : transportOpen s p.via = true)
  (whole : p.fragmented = false)
include open_ whole

/-- A packet whose length is not that of its fields counts as one of a bad length. -/
theorem acceptPacket_of_bad_length (len : p.paramLen.toNat ≠ p.params.length ∨ 1400 < p.paramLen.toNat) :
    acceptPacket tbl op p s =
      { s with pk := { (countReceived s).pk with badLength := (s.pk.badLength + 1) % 4294967296 } } := by
  simp [acceptPacket, open_, whole, len, countReceived]

/-- A packet of the right length with another MAGIC counts as one. -/
theorem acceptPacket_of_bad_magic (len : p.paramLen.toNat = p.params.length) (max : p.paramLen.toNat ≤ 1400)
    (magic : p.magic.toNat ≠ 0x5A47) :
    acceptPacket tbl op p s = { s with pk := { (countReceived s).pk with badMagic := (s.pk.badMagic + 1) % 4294967296 } } := by
  simp [acceptPacket, open_, whole, ← len, Nat.not_lt.mpr max, magic, countReceived]

/-- A packet with a wrong trailer counts as one. -/
theorem acceptPacket_of_bad_crc (len : p.paramLen.toNat = p.params.length) (max : p.paramLen.toNat ≤ 1400)
    (magic : p.magic.toNat = 0x5A47) (crc : crcGood op p = false) :
    acceptPacket tbl op p s = { s with pk := { (countReceived s).pk with badCrc := (s.pk.badCrc + 1) % 4294967296 } } := by
  simp [acceptPacket, open_, whole, ← len, Nat.not_lt.mpr max, magic, crc, countReceived]

end

/-- Settles O2: each discard of R110 ends the acceptance of the packet with its own counter, and no restart falls due with it. -/
theorem badPacketIsCounted : Obligations.BadPacketIsCounted := by
  intro op p s open_ whole arming due
  refine ⟨fun len => ?_, fun len max magic => ?_, fun len max magic crc => ?_⟩
  · exact examine_of_accepted arming (acceptPacket_of_bad_length opTable open_ whole len) due
  · exact examine_of_accepted arming (acceptPacket_of_bad_magic opTable open_ whole len max magic) due
  · exact examine_of_accepted arming (acceptPacket_of_bad_crc opTable open_ whole len max magic crc) due

end Sys2Proof.Machine
end

section
/-!
A counterexample to the invariant of soundness: the sessions that a relief terminus mirrors become its own sessions at a takeover, and the
invariant says nothing of their numbers.
-/

namespace Sys2Proof.Machine

/-- A mirrored session with a number that R98 does not give. -/
def strayMirror : Session :=
  { num := 17, isOpen := true, level := 3, key := [], hostNonce := [], moduleNonce := [], openBy := 0, h := 0, seen := 1, records := [],
    lastAuth := 0, via := .host 0#32 0#16, unlocked := [], evQueue := [], evLost := 0 }

/-- A relief terminus whose takeover is due and which mirrors that session. -/
def strayRelief : State :=
  { State.reset with
    pending := [.takeover 0]
    role := { role := .relief }
    die := { yardUp := true }
    line := { takeoverDue := true, mirrorSessions := [strayMirror] } }

/-- The relief terminus after its takeover. -/
def strayHolder : State := takeover (begin_ 0 { strayRelief with pending := [] })

/-- The mirrored session is among the sessions of the new holder. -/
theorem strayHolder_sessions : strayHolder.pk.sessions.map (·.num) = [17] := by decide +kernel

/-- Refutes O58: State.sized bounds the numbers of the sessions but not of line.mirrorSessions, which a takeover makes the sessions of the
module; so the sound relief terminus strayRelief steps to a state with a session of number 17, outside of R98. -/
theorem not_stepKeepsSound : ¬ Obligations.StepKeepsSound := by
  intro keeps
  have stepped : step strayRelief = .next strayHolder := rfl
  have sound : strayHolder.sound = true := (keeps strayRelief strayHolder (by decide +kernel) (by decide +kernel) stepped).1
  have unsound : strayHolder.sound = false := by decide +kernel
  exact Bool.noConfusion (unsound.symm.trans sound)

end Sys2Proof.Machine
end

section
/-!
SUPPORT. Reads after writes, in the form in which simp uses them: whether two fields share bits, and whether a raise may touch a register,
are closed questions that evaluation answers; the canonical form of the register space passes through every operation.
-/

namespace Sys2Proof.Machine

/-! ### Numbered lists -/

@[simp] theorem setNth_length {α : Type} (v : α) : ∀ (l : List α) (i : Nat), (setNth l i v).length = l.length
  | [], _ => rfl
  | _ :: _, 0 => rfl
  | _ :: l, i + 1 => congrArg (· + 1) (setNth_length v l i)

theorem nth_setNth_same {α : Type} (v d : α) : ∀ {l : List α} {i : Nat}, i < l.length → nth (setNth l i v) i d = v
  | _ :: _, 0, _ => rfl
  | _ :: l, _ + 1, h => nth_setNth_same v d (l := l) (Nat.lt_of_succ_lt_succ h)

theorem nth_setNth_ne {α : Type} (v d : α) : ∀ {l : List α} {i k : Nat}, k ≠ i → nth (setNth l i v) k d = nth l k d
  | [], _, _, _ => rfl
  | _ :: _, 0, 0, h => absurd rfl h
  | _ :: _, 0, _ + 1, _ => rfl
  | _ :: _, _ + 1, 0, _ => rfl
  | _ :: l, _ + 1, _ + 1, h => nth_setNth_ne v d (l := l) (fun e => h (congrArg (· + 1) e))

/-- Reading a numbered list is reading with a default. -/
theorem nth_eq_getD {α : Type} (d : α) : ∀ (l : List α) (i : Nat), nth l i d = l.getD i d
  | [], _ => by simp [nth]
  | _ :: _, 0 => rfl
  | _ :: l, i + 1 => nth_eq_getD d l i

/-! ### Registers and fields after a write -/

/-- The field lies in its register, as evaluation answers it. -/
def Fld.fits (f : Fld) : Bool := decide (f.lo + f.width ≤ 32)

/-- A field to be written and another share no bit, as evaluation answers it. -/
def Fld.apart (f g : Fld) : Bool :=
  f.fits && (decide (f.lo + f.width ≤ g.lo) || decide (g.lo + g.width ≤ f.lo) || f.addr != g.addr)

theorem Fld.fits_iff {f : Fld} : f.fits = true ↔ f.Fits := decide_eq_true_iff

theorem Fld.apart_iff {f g : Fld} : f.apart g = true ↔ f.Fits ∧ f.Apart g := by
  simp [Fld.apart, Fld.fits, Fld.Fits, Fld.Apart]
  tauto

/-- Whether the register space of a state is canonical once it was before; a name that simp leaves alone. -/
def wfAfter (u : State) : Bool := u.regsWf

/-- An operation that keeps the register space canonical. -/
theorem regsWf_eq_or {s u : State} (h : s.regsWf = true → u.regsWf = true) : u.regsWf = (s.regsWf || wfAfter u) := by
  unfold wfAfter
  cases hs : s.regsWf
  · rfl
  · exact h hs

@[simp] theorem regsWf_of_put (s : State) (f : Fld) (v : Nat) : (s.put f v).regsWf = (s.regsWf || wfAfter (s.put f v)) :=
  regsWf_eq_or (State.regsWf_put s f v)

@[simp] theorem regsWf_of_setReg (s : State) (a v : Nat) : (s.setReg a v).regsWf = (s.regsWf || wfAfter (s.setReg a v)) :=
  regsWf_eq_or (State.regsWf_setReg s a v)

@[simp] theorem regsWf_of_raiseArg (src detail arg : Nat) (s : State) :
    (raiseArg src detail arg s).regsWf = (s.regsWf || wfAfter (raiseArg src detail arg s)) :=
  regsWf_eq_or (raiseArg_regsWf src detail arg s)

/-- The other writes of fields are writes of a field. -/
@[simp] theorem State.puts_eq_put (s : State) (f : Fld) (v : Int) : s.puts f v = s.put f (fixS f.width v) := rfl
@[simp] theorem State.bump_eq_put (s : State) (f : Fld) (n : Nat) : s.bump f n = s.put f (satN f.width (s.get f + n)) := rfl
@[simp] theorem State.wrapUp_eq_put (s : State) (f : Fld) (n : Nat) : s.wrapUp f n = s.put f (s.get f + n) := rfl
@[simp] theorem State.putBit_eq_put (s : State) (f : Fld) (i : Nat) (b : Bool) :
    s.putBit f i b = s.put f (setBitsAt (s.get f) i 1 (b2n b)) := rfl

theorem State.get_put_mod {s : State} {f : Fld} {v : Nat} (hf : f.fits = true) (h : s.regsWf = true) :
    (s.put f v).get f = v % 2 ^ f.width := State.get_put_same s f v h (Fld.fits_iff.mp hf)

/-- The field just written, with a value of its width. -/
@[simp] theorem State.get_put_of_lt {s : State} {f : Fld} {v : Nat} (hf : f.fits = true) (hv : v < 2 ^ f.width) (h : s.regsWf = true) :
    (s.put f v).get f = v := by rw [State.get_put_mod hf h, Nat.mod_eq_of_lt hv]

theorem b2n_lt (b : Bool) {w : Nat} (hw : 1 ≤ w) : b2n b < 2 ^ w :=
  lt_of_lt_of_le (by cases b <;> decide : b2n b < 2 ^ 1) (Nat.pow_le_pow_right (by decide) hw)

theorem satN_lt (w n : Nat) : satN w n < 2 ^ w := by
  unfold satN
  split
  · assumption
  · exact Nat.sub_lt (Nat.two_pow_pos w) (by decide)

@[simp] theorem State.get_put_b2n {s : State} {f : Fld} {b : Bool} (hf : f.fits = true) (hw : decide (1 ≤ f.width) = true)
    (h : s.regsWf = true) : (s.put f (b2n b)).get f = b2n b :=
  State.get_put_of_lt hf (b2n_lt b (of_decide_eq_true hw)) h

@[simp] theorem State.get_put_satN {s : State} {f : Fld} {n : Nat} (hf : f.fits = true) (h : s.regsWf = true) :
    (s.put f (satN f.width n)).get f = satN f.width n := State.get_put_of_lt hf (satN_lt _ n) h

@[simp] theorem State.get_put_of_apart {s : State} {f g : Fld} {v : Nat} (ha : f.apart g = true) (h : s.regsWf = true) :
    (s.put f v).get g = s.get g :=
  State.get_put_apart s f g v h (Fld.apart_iff.mp ha).1 (Fld.apart_iff.mp ha).2

@[simp] theorem State.reg_put_of_ne {s : State} {f : Fld} {v a : Nat} (ha : (f.addr != a) = true) : (s.put f v).reg a = s.reg a :=
  State.reg_put_ne s f v a (fun e => by simp [e] at ha)

@[simp] theorem State.reg_setReg_of_ne {s : State} {a v b : Nat} (ha : (a != b) = true) : (s.setReg a v).reg b = s.reg b :=
  State.reg_setReg_ne s a b v (fun e => by simp [e] at ha)

@[simp] theorem State.get_setReg_of_ne {s : State} {a v : Nat} {g : Fld} (ha : (a != g.addr) = true) : (s.setReg a v).get g = s.get g :=
  State.get_setReg_ne s a v g (fun e => by simp [e] at ha)

/-- A field of a register just written. -/
theorem State.get_setReg_same {s : State} {a v : Nat} {f : Fld} (hf : f.addr = a) (h : s.regsWf = true) :
    (s.setReg a v).get f = bitsAt (v % 2 ^ 32) f.lo f.width := by
  rw [State.get, hf, State.reg_setReg_same s a v h]

/-- The bits of a field are those of its register. -/
theorem State.flag_eq (s : State) (f : Fld) : s.flag f = (s.get f != 0) := rfl

/-- A flag that is not set reads 0. -/
theorem State.get_of_flag_false {s : State} {f : Fld} (h : s.flag f = false) : s.get f = 0 := by
  simpa [State.flag] using h

/-! ### A state whose other parts change -/

/-- The word at an address of a register space. -/
def wordIn (regs : List (Nat × Word)) (a : Nat) : Nat := (storeGet regDefault regs a).toNat

@[simp] theorem wordIn_regs (s : State) (a : Nat) : wordIn s.regs a = s.reg a := rfl

/-- A field in a register space. -/
def fieldIn (regs : List (Nat × Word)) (f : Fld) : Nat := bitsAt (wordIn regs f.addr) f.lo f.width

@[simp] theorem fieldIn_regs (s : State) (f : Fld) : fieldIn s.regs f = s.get f := rfl

/-- A register space is canonical. -/
def canonical (regs : List (Nat × Word)) : Bool := storeWf regDefault 0 regs

@[simp] theorem canonical_regs (s : State) : canonical s.regs = s.regsWf := rfl

@[simp] theorem reg_mk (pending : List Instr) (now : Nat) (devOff : Int) (steer : Option Steer) (regs : List (Nat × Word)) (hiLatch : List (Nat × Word)) (out : List Emit) (drawn : Nat) (ev : EventPart) (pk : PacketPart) (role : RolePart) (die : DiePart) (sets : SetPart) (line : LinePart) (load : LoadPart) (inp : InputPart) (eng : EnginePart) (fus : FusionPart) (fn : SettingPart) (nav : NavPart) (yld : YieldPart) (cst : ConsistPart) (clk : ClockPart) (lvl : LevelPart) (dma : DmaPart) (can : CanPart) (pwr : PowerPart) (upd : UpdatePart) (a : Nat) : State.reg ⟨pending, now, devOff, steer, regs, hiLatch, out, drawn, ev, pk, role, die, sets, line, load, inp, eng, fus, fn, nav, yld, cst, clk, lvl, dma, can, pwr, upd⟩ a = wordIn regs a := rfl
@[simp] theorem get_mk (pending : List Instr) (now : Nat) (devOff : Int) (steer : Option Steer) (regs : List (Nat × Word)) (hiLatch : List (Nat × Word)) (out : List Emit) (drawn : Nat) (ev : EventPart) (pk : PacketPart) (role : RolePart) (die : DiePart) (sets : SetPart) (line : LinePart) (load : LoadPart) (inp : InputPart) (eng : EnginePart) (fus : FusionPart) (fn : SettingPart) (nav : NavPart) (yld : YieldPart) (cst : ConsistPart) (clk : ClockPart) (lvl : LevelPart) (dma : DmaPart) (can : CanPart) (pwr : PowerPart) (upd : UpdatePart) (f : Fld) : State.get ⟨pending, now, devOff, steer, regs, hiLatch, out, drawn, ev, pk, role, die, sets, line, load, inp, eng, fus, fn, nav, yld, cst, clk, lvl, dma, can, pwr, upd⟩ f = fieldIn regs f := rfl
@[simp] theorem regsWf_mk (pending : List Instr) (now : Nat) (devOff : Int) (steer : Option Steer) (regs : List (Nat × Word)) (hiLatch : List (Nat × Word)) (out : List Emit) (drawn : Nat) (ev : EventPart) (pk : PacketPart) (role : RolePart) (die : DiePart) (sets : SetPart) (line : LinePart) (load : LoadPart) (inp : InputPart) (eng : EnginePart) (fus : FusionPart) (fn : SettingPart) (nav : NavPart) (yld : YieldPart) (cst : ConsistPart) (clk : ClockPart) (lvl : LevelPart) (dma : DmaPart) (can : CanPart) (pwr : PowerPart) (upd : UpdatePart) : State.regsWf ⟨pending, now, devOff, steer, regs, hiLatch, out, drawn, ev, pk, role, die, sets, line, load, inp, eng, fus, fn, nav, yld, cst, clk, lvl, dma, can, pwr, upd⟩ = canonical regs := rfl

/-! ### Event sources -/

/-- No raise but of the sources of its register writes the register. -/
def eventPlace (a : Nat) : Bool :=
  a == Reg.EVR_LATCH || a == Reg.DMA_RING_IDX 56 || a == Reg.DMA_RING_IDX 57 || decide (0xF0110 ≤ a ∧ (a - 0xF0110) % 0x20 = 0)

/-- A raise of a source writes no bit of a field. -/
def quiet (src : Nat) (g : Fld) : Bool :=
  !eventPlace g.addr && (sourceFlag src).all (fun f => f.apart g) && (sourceFlag Src.EVR_EVENT_LOST).all (fun f => f.apart g)

/-- A raise of a source leaves a register as it is. -/
def quietReg (src a : Nat) : Bool :=
  !eventPlace a && (sourceFlag src).all (fun f => f.addr != a) && (sourceFlag Src.EVR_EVENT_LOST).all (fun f => f.addr != a)

theorem ne_of_not_eventPlace {a : Nat} (h : eventPlace a = false) :
    a ≠ Reg.EVR_LATCH ∧ a ≠ Reg.DMA_RING_IDX 56 ∧ a ≠ Reg.DMA_RING_IDX 57 ∧ ∀ n, a ≠ Reg.EVT_QUEUE n := by
  simp only [eventPlace, Bool.or_eq_false_iff, beq_eq_false_iff_ne, decide_eq_false_iff_not] at h
  obtain ⟨⟨⟨latch, ring⟩, ring'⟩, queue⟩ := h
  refine ⟨latch, ring, ring', fun n e => queue ?_⟩
  simp only [Reg.EVT_QUEUE] at e
  omega

@[simp] theorem reg_raiseArg {src detail arg a : Nat} {s : State} (h : quietReg src a = true) : (raiseArg src detail arg s).reg a = s.reg a := by
  simp only [quietReg, Bool.and_eq_true, Bool.not_eq_true'] at h
  obtain ⟨⟨place, own⟩, lost⟩ := h
  obtain ⟨h1, h2, h3, h4⟩ := ne_of_not_eventPlace place
  refine raiseArg_reg src detail arg s a ?_
  rintro (⟨f, hf, rfl⟩ | ⟨f, hf, rfl⟩ | e | e | e | ⟨n, e⟩)
  · simp [hf] at own
  · simp [hf] at lost
  · exact h1 e
  · exact h2 e
  · exact h3 e
  · exact h4 n e

theorem get_setFlag {src : Nat} {g : Fld} {s : State} (h : (sourceFlag src).all (fun f => f.apart g) = true) (hs : s.regsWf = true) :
    (setFlag src s).get g = s.get g := by
  unfold setFlag
  split
  · rfl
  next f hf => exact State.get_put_of_apart (by simpa [hf] using h) hs

theorem get_routeEvent {r : EventRecord} {g : Fld} {s : State} (h : eventPlace g.addr = false) : (routeEvent r s).1.get g = s.get g := by
  obtain ⟨h1, h2, h3, h4⟩ := ne_of_not_eventPlace h
  simp only [State.get, routeEvent_reg r s g.addr h1 h2 h3 h4]

theorem get_raiseOnce {src detail arg : Nat} {g : Fld} {s : State} (place : eventPlace g.addr = false)
    (h : (sourceFlag src).all (fun f => f.apart g) = true) (hs : s.regsWf = true) : (raiseOnce src detail arg s).1.get g = s.get g := by
  unfold raiseOnce
  rw [get_routeEvent place, State.get_of_regs (triggerOrders_regs _ _), get_setFlag h hs]

/-- What a raise does not write reads as before. -/
@[simp] theorem get_raiseArg {src detail arg : Nat} {g : Fld} {s : State} (h : quiet src g = true) (hs : s.regsWf = true) :
    (raiseArg src detail arg s).get g = s.get g := by
  simp only [quiet, Bool.and_eq_true, Bool.not_eq_true'] at h
  obtain ⟨⟨place, own⟩, lost⟩ := h
  unfold raiseArg
  cases hr : raiseOnce src detail arg s with
  | mk t l =>
    have ht : t.get g = s.get g := by simpa [hr] using get_raiseOnce (detail := detail) (arg := arg) place own hs
    have wf : t.regsWf = true := by simpa [hr] using raiseOnce_regsWf src detail arg s hs
    dsimp only
    split
    · exact ht
    · rw [get_raiseOnce place lost wf, ht]

/-- A raise sets a flag of its source that nothing else of a raise writes. -/
def raisable (src : Nat) : Bool :=
  (sourceFlag src).any (fun f => f.fits && f.width == 1 && !eventPlace f.addr &&
    (src == Src.EVR_EVENT_LOST || (sourceFlag Src.EVR_EVENT_LOST).all (fun g => g.apart f)))

/-- A source that is raised is flagged. -/
@[simp] theorem flagged_raiseArg {src detail arg : Nat} {s : State} (h : raisable src = true) (hs : s.regsWf = true) :
    Flagged src (raiseArg src detail arg s) := by
  cases hf : sourceFlag src with
  | none => simp [raisable, hf] at h
  | some f =>
    simp only [raisable, hf, Option.any_some, Bool.and_eq_true, Bool.not_eq_true', beq_iff_eq] at h
    obtain ⟨⟨⟨fits, width⟩, place⟩, lost⟩ := h
    have once : ∀ t : State, t.regsWf = true → (raiseOnce src detail arg t).1.get f = 1 := by
      intro t ht
      unfold raiseOnce
      rw [get_routeEvent place, State.get_of_regs (triggerOrders_regs _ _), setFlag, hf]
      exact State.get_put_of_lt fits (by simp [width]) ht
    refine ⟨f, hf, ?_⟩
    have read : (raiseArg src detail arg s).get f = 1 := by
      unfold raiseArg
      cases hr : raiseOnce src detail arg s with
      | mk t l =>
        have ht : t.get f = 1 := by simpa [hr] using once s hs
        have wf : t.regsWf = true := by simpa [hr] using raiseOnce_regsWf src detail arg s hs
        dsimp only
        split
        · exact ht
        next more =>
          have other : (sourceFlag Src.EVR_EVENT_LOST).all (fun g => g.apart f) = true := by
            simp only [Bool.or_eq_true, not_or, Bool.not_eq_true] at more
            simpa [more.2] using lost
          rw [get_raiseOnce place other wf, ht]
    simp [State.flag, read]

/-- The flag of a source lies apart from a field. -/
def flagApart (src : Nat) (f : Fld) : Bool := (sourceFlag src).all (fun g => f.apart g)

@[simp] theorem flagged_put {src : Nat} {f : Fld} {v : Nat} {s : State} (h : flagApart src f = true) (hs : s.regsWf = true) :
    Flagged src (s.put f v) ↔ Flagged src s := by
  cases hf : sourceFlag src with
  | none => simp [Flagged, hf]
  | some g =>
    have ha : f.apart g = true := by simpa [flagApart, hf] using h
    simp [Flagged, hf, State.flag, State.get_put_of_apart ha hs]

@[simp] theorem flagged_setReg {src a v : Nat} {s : State} (h : (sourceFlag src).all (fun g => a != g.addr) = true) :
    Flagged src (s.setReg a v) ↔ Flagged src s := by
  cases hf : sourceFlag src with
  | none => simp [Flagged, hf]
  | some g =>
    have ha : (a != g.addr) = true := by simpa [hf] using h
    simp [Flagged, hf, State.flag, State.get_setReg_of_ne ha]

/-- A raise of a source does not write the flag of another. -/
def quietFlag (src other : Nat) : Bool := (sourceFlag other).all (fun g => quiet src g)

@[simp] theorem flagged_raiseArg_other {src detail arg other : Nat} {s : State} (h : quietFlag src other = true) (hs : s.regsWf = true) :
    Flagged other (raiseArg src detail arg s) ↔ Flagged other s := by
  cases hf : sourceFlag other with
  | none => simp [Flagged, hf]
  | some g =>
    have ha : quiet src g = true := by simpa [quietFlag, hf] using h
    simp [Flagged, hf, State.flag, get_raiseArg ha hs]

/-- A source is flagged in a register space. -/
def flaggedIn (src : Nat) (regs : List (Nat × Word)) : Prop := ∃ f, sourceFlag src = some f ∧ fieldIn regs f ≠ 0

@[simp] theorem flaggedIn_regs (src : Nat) (s : State) : flaggedIn src s.regs ↔ Flagged src s := by simp [flaggedIn, Flagged, State.flag]

@[simp] theorem flagged_mk (pending : List Instr) (now : Nat) (devOff : Int) (steer : Option Steer) (regs : List (Nat × Word)) (hiLatch : List (Nat × Word)) (out : List Emit) (drawn : Nat) (ev : EventPart) (pk : PacketPart) (role : RolePart) (die : DiePart) (sets : SetPart) (line : LinePart) (load : LoadPart) (inp : InputPart) (eng : EnginePart) (fus : FusionPart) (fn : SettingPart) (nav : NavPart) (yld : YieldPart) (cst : ConsistPart) (clk : ClockPart) (lvl : LevelPart) (dma : DmaPart) (can : CanPart) (pwr : PowerPart) (upd : UpdatePart) (src : Nat) : Flagged src ⟨pending, now, devOff, steer, regs, hiLatch, out, drawn, ev, pk, role, die, sets, line, load, inp, eng, fus, fn, nav, yld, cst, clk, lvl, dma, can, pwr, upd⟩ ↔ flaggedIn src regs := by
  simp [flaggedIn, Flagged, State.flag]

theorem flagged_of_regs {src : Nat} {s t : State} (h : t.regs = s.regs) : Flagged src t ↔ Flagged src s := by
  simp [Flagged, State.flag, State.get_of_regs h]

/-! ### What a raise leaves alone -/

@[simp] theorem raise_eq (src detail : Nat) (s : State) : raise src detail s = raiseArg src detail 0 s := rfl
@[simp] theorem raise0_eq (src : Nat) (s : State) : raise0 src s = raiseArg src 0xFFFF 0 s := rfl

@[simp] theorem raiseArg_pending (src detail arg : Nat) (s : State) : (raiseArg src detail arg s).pending = s.pending := (raiseArg_same src detail arg s).pending
@[simp] theorem raiseArg_now (src detail arg : Nat) (s : State) : (raiseArg src detail arg s).now = s.now := (raiseArg_same src detail arg s).now
@[simp] theorem raiseArg_devOff (src detail arg : Nat) (s : State) : (raiseArg src detail arg s).devOff = s.devOff := (raiseArg_same src detail arg s).devOff
@[simp] theorem raiseArg_steer (src detail arg : Nat) (s : State) : (raiseArg src detail arg s).steer = s.steer := (raiseArg_same src detail arg s).steer
@[simp] theorem raiseArg_hiLatch (src detail arg : Nat) (s : State) : (raiseArg src detail arg s).hiLatch = s.hiLatch := (raiseArg_same src detail arg s).hiLatch
@[simp] theorem raiseArg_out (src detail arg : Nat) (s : State) : (raiseArg src detail arg s).out = s.out := (raiseArg_same src detail arg s).out
@[simp] theorem raiseArg_drawn (src detail arg : Nat) (s : State) : (raiseArg src detail arg s).drawn = s.drawn := (raiseArg_same src detail arg s).drawn
@[simp] theorem raiseArg_role (src detail arg : Nat) (s : State) : (raiseArg src detail arg s).role = s.role := (raiseArg_same src detail arg s).role
@[simp] theorem raiseArg_die (src detail arg : Nat) (s : State) : (raiseArg src detail arg s).die = s.die := (raiseArg_same src detail arg s).die
@[simp] theorem raiseArg_line (src detail arg : Nat) (s : State) : (raiseArg src detail arg s).line = s.line := (raiseArg_same src detail arg s).line
@[simp] theorem raiseArg_load (src detail arg : Nat) (s : State) : (raiseArg src detail arg s).load = s.load := (raiseArg_same src detail arg s).load
@[simp] theorem raiseArg_inp (src detail arg : Nat) (s : State) : (raiseArg src detail arg s).inp = s.inp := (raiseArg_same src detail arg s).inp
@[simp] theorem raiseArg_eng (src detail arg : Nat) (s : State) : (raiseArg src detail arg s).eng = s.eng := (raiseArg_same src detail arg s).eng
@[simp] theorem raiseArg_fus (src detail arg : Nat) (s : State) : (raiseArg src detail arg s).fus = s.fus := (raiseArg_same src detail arg s).fus
@[simp] theorem raiseArg_fn (src detail arg : Nat) (s : State) : (raiseArg src detail arg s).fn = s.fn := (raiseArg_same src detail arg s).fn
@[simp] theorem raiseArg_nav (src detail arg : Nat) (s : State) : (raiseArg src detail arg s).nav = s.nav := (raiseArg_same src detail arg s).nav
@[simp] theorem raiseArg_yld (src detail arg : Nat) (s : State) : (raiseArg src detail arg s).yld = s.yld := (raiseArg_same src detail arg s).yld
@[simp] theorem raiseArg_cst (src detail arg : Nat) (s : State) : (raiseArg src detail arg s).cst = s.cst := (raiseArg_same src detail arg s).cst
@[simp] theorem raiseArg_clk (src detail arg : Nat) (s : State) : (raiseArg src detail arg s).clk = s.clk := (raiseArg_same src detail arg s).clk
@[simp] theorem raiseArg_lvl (src detail arg : Nat) (s : State) : (raiseArg src detail arg s).lvl = s.lvl := (raiseArg_same src detail arg s).lvl
@[simp] theorem raiseArg_dma (src detail arg : Nat) (s : State) : (raiseArg src detail arg s).dma = s.dma := (raiseArg_same src detail arg s).dma
@[simp] theorem raiseArg_can (src detail arg : Nat) (s : State) : (raiseArg src detail arg s).can = s.can := (raiseArg_same src detail arg s).can
@[simp] theorem raiseArg_pwr (src detail arg : Nat) (s : State) : (raiseArg src detail arg s).pwr = s.pwr := (raiseArg_same src detail arg s).pwr
@[simp] theorem raiseArg_upd (src detail arg : Nat) (s : State) : (raiseArg src detail arg s).upd = s.upd := (raiseArg_same src detail arg s).upd
@[simp] theorem raiseArg_ev_faultWait (src detail arg : Nat) (s : State) : (raiseArg src detail arg s).ev.faultWait = s.ev.faultWait := by
  rw [(raiseArg_same src detail arg s).ev]
@[simp] theorem raiseArg_ev_ring (src detail arg : Nat) (s : State) : (raiseArg src detail arg s).ev.ring = s.ev.ring := by
  rw [(raiseArg_same src detail arg s).ev]
@[simp] theorem raiseArg_ev_retired (src detail arg : Nat) (s : State) : (raiseArg src detail arg s).ev.retired = s.ev.retired := by
  rw [(raiseArg_same src detail arg s).ev]
@[simp] theorem raiseArg_ev_retiredHere (src detail arg : Nat) (s : State) : (raiseArg src detail arg s).ev.retiredHere = s.ev.retiredHere := by
  rw [(raiseArg_same src detail arg s).ev]
@[simp] theorem raiseArg_ev_live (src detail arg : Nat) (s : State) : (raiseArg src detail arg s).ev.live = s.ev.live := by
  rw [(raiseArg_same src detail arg s).ev]
@[simp] theorem raiseArg_ev_second (src detail arg : Nat) (s : State) : (raiseArg src detail arg s).ev.second = s.ev.second := by
  rw [(raiseArg_same src detail arg s).ev]
@[simp] theorem raiseArg_ev_mram (src detail arg : Nat) (s : State) : (raiseArg src detail arg s).ev.mram = s.ev.mram := by
  rw [(raiseArg_same src detail arg s).ev]
@[simp] theorem raiseArg_ev_opsecMram (src detail arg : Nat) (s : State) : (raiseArg src detail arg s).ev.opsecMram = s.ev.opsecMram := by
  rw [(raiseArg_same src detail arg s).ev]
@[simp] theorem raiseArg_ev_partMram (src detail arg : Nat) (s : State) : (raiseArg src detail arg s).ev.partMram = s.ev.partMram := by
  rw [(raiseArg_same src detail arg s).ev]
@[simp] theorem raiseArg_ev_partNs (src detail arg : Nat) (s : State) : (raiseArg src detail arg s).ev.partNs = s.ev.partNs := by
  rw [(raiseArg_same src detail arg s).ev]
@[simp] theorem raiseArg_ev_awakeFrom (src detail arg : Nat) (s : State) : (raiseArg src detail arg s).ev.awakeFrom = s.ev.awakeFrom := by
  rw [(raiseArg_same src detail arg s).ev]
@[simp] theorem raiseArg_ev_commitAt (src detail arg : Nat) (s : State) : (raiseArg src detail arg s).ev.commitAt = s.ev.commitAt := by
  rw [(raiseArg_same src detail arg s).ev]
@[simp] theorem raiseArg_ev_sigDeadman (src detail arg : Nat) (s : State) : (raiseArg src detail arg s).ev.sigDeadman = s.ev.sigDeadman := by
  rw [(raiseArg_same src detail arg s).ev]
@[simp] theorem raiseArg_ev_yardDeadman (src detail arg : Nat) (s : State) : (raiseArg src detail arg s).ev.yardDeadman = s.ev.yardDeadman := by
  rw [(raiseArg_same src detail arg s).ev]
@[simp] theorem raiseArg_pk_waiting (src detail arg : Nat) (s : State) : (raiseArg src detail arg s).pk.waiting = s.pk.waiting := by
  rw [(raiseArg_same src detail arg s).pk]
@[simp] theorem raiseArg_pk_refused (src detail arg : Nat) (s : State) : (raiseArg src detail arg s).pk.refused = s.pk.refused := by
  rw [(raiseArg_same src detail arg s).pk]
@[simp] theorem raiseArg_pk_service (src detail arg : Nat) (s : State) : (raiseArg src detail arg s).pk.service = s.pk.service := by
  rw [(raiseArg_same src detail arg s).pk]
@[simp] theorem raiseArg_pk_lastServed (src detail arg : Nat) (s : State) : (raiseArg src detail arg s).pk.lastServed = s.pk.lastServed := by
  rw [(raiseArg_same src detail arg s).pk]
@[simp] theorem raiseArg_pk_reservedUse (src detail arg : Nat) (s : State) : (raiseArg src detail arg s).pk.reservedUse = s.pk.reservedUse := by
  rw [(raiseArg_same src detail arg s).pk]
@[simp] theorem raiseArg_pk_levelKeys (src detail arg : Nat) (s : State) : (raiseArg src detail arg s).pk.levelKeys = s.pk.levelKeys := by
  rw [(raiseArg_same src detail arg s).pk]
@[simp] theorem raiseArg_pk_failures (src detail arg : Nat) (s : State) : (raiseArg src detail arg s).pk.failures = s.pk.failures := by
  rw [(raiseArg_same src detail arg s).pk]
@[simp] theorem raiseArg_pk_received (src detail arg : Nat) (s : State) : (raiseArg src detail arg s).pk.received = s.pk.received := by
  rw [(raiseArg_same src detail arg s).pk]
@[simp] theorem raiseArg_pk_replied (src detail arg : Nat) (s : State) : (raiseArg src detail arg s).pk.replied = s.pk.replied := by
  rw [(raiseArg_same src detail arg s).pk]
@[simp] theorem raiseArg_pk_badLength (src detail arg : Nat) (s : State) : (raiseArg src detail arg s).pk.badLength = s.pk.badLength := by
  rw [(raiseArg_same src detail arg s).pk]
@[simp] theorem raiseArg_pk_badMagic (src detail arg : Nat) (s : State) : (raiseArg src detail arg s).pk.badMagic = s.pk.badMagic := by
  rw [(raiseArg_same src detail arg s).pk]
@[simp] theorem raiseArg_pk_badCrc (src detail arg : Nat) (s : State) : (raiseArg src detail arg s).pk.badCrc = s.pk.badCrc := by
  rw [(raiseArg_same src detail arg s).pk]
@[simp] theorem raiseArg_pk_badAuth (src detail arg : Nat) (s : State) : (raiseArg src detail arg s).pk.badAuth = s.pk.badAuth := by
  rw [(raiseArg_same src detail arg s).pk]
@[simp] theorem raiseArg_pk_authFailed (src detail arg : Nat) (s : State) : (raiseArg src detail arg s).pk.authFailed = s.pk.authFailed := by
  rw [(raiseArg_same src detail arg s).pk]
@[simp] theorem raiseArg_pk_fwdTimeouts (src detail arg : Nat) (s : State) : (raiseArg src detail arg s).pk.fwdTimeouts = s.pk.fwdTimeouts := by
  rw [(raiseArg_same src detail arg s).pk]
@[simp] theorem raiseArg_pk_isoRx (src detail arg : Nat) (s : State) : (raiseArg src detail arg s).pk.isoRx = s.pk.isoRx := by
  rw [(raiseArg_same src detail arg s).pk]
@[simp] theorem raiseArg_pk_isoTx (src detail arg : Nat) (s : State) : (raiseArg src detail arg s).pk.isoTx = s.pk.isoTx := by
  rw [(raiseArg_same src detail arg s).pk]
@[simp] theorem raiseArg_pk_asUntil (src detail arg : Nat) (s : State) : (raiseArg src detail arg s).pk.asUntil = s.pk.asUntil := by
  rw [(raiseArg_same src detail arg s).pk]
@[simp] theorem raiseArg_pk_canIn (src detail arg : Nat) (s : State) : (raiseArg src detail arg s).pk.canIn = s.pk.canIn := by
  rw [(raiseArg_same src detail arg s).pk]
@[simp] theorem raiseArg_pk_canOut (src detail arg : Nat) (s : State) : (raiseArg src detail arg s).pk.canOut = s.pk.canOut := by
  rw [(raiseArg_same src detail arg s).pk]
@[simp] theorem raiseArg_sets_running (src detail arg : Nat) (s : State) : (raiseArg src detail arg s).sets.running = s.sets.running := by
  rw [(raiseArg_same src detail arg s).sets]
@[simp] theorem raiseArg_sets_siding (src detail arg : Nat) (s : State) : (raiseArg src detail arg s).sets.siding = s.sets.siding := by
  rw [(raiseArg_same src detail arg s).sets]
@[simp] theorem raiseArg_sets_mramArea (src detail arg : Nat) (s : State) : (raiseArg src detail arg s).sets.mramArea = s.sets.mramArea := by
  rw [(raiseArg_same src detail arg s).sets]
@[simp] theorem raiseArg_sets_manifest (src detail arg : Nat) (s : State) : (raiseArg src detail arg s).sets.manifest = s.sets.manifest := by
  rw [(raiseArg_same src detail arg s).sets]
@[simp] theorem raiseArg_sets_manifestCrc (src detail arg : Nat) (s : State) : (raiseArg src detail arg s).sets.manifestCrc = s.sets.manifestCrc := by
  rw [(raiseArg_same src detail arg s).sets]
@[simp] theorem raiseArg_sets_okFrom (src detail arg : Nat) (s : State) : (raiseArg src detail arg s).sets.okFrom = s.sets.okFrom := by
  rw [(raiseArg_same src detail arg s).sets]
@[simp] theorem raiseArg_sets_modelOpen (src detail arg : Nat) (s : State) : (raiseArg src detail arg s).sets.modelOpen = s.sets.modelOpen := by
  rw [(raiseArg_same src detail arg s).sets]
@[simp] theorem raiseArg_sets_throw (src detail arg : Nat) (s : State) : (raiseArg src detail arg s).sets.throw = s.sets.throw := by
  rw [(raiseArg_same src detail arg s).sets]
@[simp] theorem raiseArg_sets_token (src detail arg : Nat) (s : State) : (raiseArg src detail arg s).sets.token = s.sets.token := by
  rw [(raiseArg_same src detail arg s).sets]
@[simp] theorem raiseArg_sets_sigToken (src detail arg : Nat) (s : State) : (raiseArg src detail arg s).sets.sigToken = s.sets.sigToken := by
  rw [(raiseArg_same src detail arg s).sets]
@[simp] theorem raiseArg_sets_yardAhead (src detail arg : Nat) (s : State) : (raiseArg src detail arg s).sets.yardAhead = s.sets.yardAhead := by
  rw [(raiseArg_same src detail arg s).sets]
@[simp] theorem raiseArg_sets_lateAt (src detail arg : Nat) (s : State) : (raiseArg src detail arg s).sets.lateAt = s.sets.lateAt := by
  rw [(raiseArg_same src detail arg s).sets]
@[simp] theorem raiseArg_sets_armedFor (src detail arg : Nat) (s : State) : (raiseArg src detail arg s).sets.armedFor = s.sets.armedFor := by
  rw [(raiseArg_same src detail arg s).sets]
@[simp] theorem raiseArg_sets_barred (src detail arg : Nat) (s : State) : (raiseArg src detail arg s).sets.barred = s.sets.barred := by
  rw [(raiseArg_same src detail arg s).sets]
@[simp] theorem raiseArg_sets_swappedAt (src detail arg : Nat) (s : State) : (raiseArg src detail arg s).sets.swappedAt = s.sets.swappedAt := by
  rw [(raiseArg_same src detail arg s).sets]

/-! ### Fault records -/

/-- A fault that is logged changes the ring, or the faults that wait, and may raise FAULT_LOGGED. -/
theorem fault_cases (type cls source detail a0 a1 a2 : Nat) (s : State) :
    ∃ r q, fault type cls source detail a0 a1 a2 s = { s with ev := { s.ev with ring := r, faultWait := q } } ∨
      fault type cls source detail a0 a1 a2 s =
        raiseArg Src.EVR_FAULT_LOGGED 0xFFFF 0 { s with ev := { s.ev with ring := r, faultWait := q } } := by
  unfold fault
  split
  · unfold writeFault
    split
    · split
      · exact ⟨_, _, .inl rfl⟩
      · dsimp only
        split
        · exact ⟨_, _, .inr rfl⟩
        · exact ⟨_, _, .inl rfl⟩
    · dsimp only
      split
      · exact ⟨_, _, .inr rfl⟩
      · exact ⟨_, _, .inl rfl⟩
  · exact ⟨_, _, .inl rfl⟩

/-- What neither the log nor a raise changes stands after a fault. -/
theorem fault_keeps {α : Type} (g : State → α) (type cls source detail a0 a1 a2 : Nat) (s : State)
    (log : ∀ r q, g { s with ev := { s.ev with ring := r, faultWait := q } } = g s)
    (raised : ∀ e, g (raiseArg Src.EVR_FAULT_LOGGED 0xFFFF 0 { s with ev := e }) = g { s with ev := e }) :
    g (fault type cls source detail a0 a1 a2 s) = g s := by
  obtain ⟨r, q, h | h⟩ := fault_cases type cls source detail a0 a1 a2 s
  · rw [h, log]
  · rw [h, raised, log]

@[simp] theorem regsWf_of_fault (type cls source detail a0 a1 a2 : Nat) (s : State) :
    (fault type cls source detail a0 a1 a2 s).regsWf = (s.regsWf || wfAfter (fault type cls source detail a0 a1 a2 s)) :=
  regsWf_eq_or fun h => by
    obtain ⟨r, q, k | k⟩ := fault_cases type cls source detail a0 a1 a2 s
    · rw [k]; exact h
    · rw [k]; exact raiseArg_regsWf _ _ _ { s with ev := { s.ev with ring := r, faultWait := q } } h

@[simp] theorem reg_fault {type cls source detail a0 a1 a2 a : Nat} {s : State} (h : quietReg Src.EVR_FAULT_LOGGED a = true) :
    (fault type cls source detail a0 a1 a2 s).reg a = s.reg a :=
  fault_keeps (fun u => u.reg a) _ _ _ _ _ _ _ s (fun _ _ => rfl) (fun _ => reg_raiseArg h)

@[simp] theorem get_fault {type cls source detail a0 a1 a2 : Nat} {g : Fld} {s : State} (h : quiet Src.EVR_FAULT_LOGGED g = true)
    (hs : s.regsWf = true) : (fault type cls source detail a0 a1 a2 s).get g = s.get g :=
  fault_keeps (fun u => u.get g) _ _ _ _ _ _ _ s (fun _ _ => rfl) (fun _ => get_raiseArg h hs)

@[simp] theorem flagged_fault_other {type cls source detail a0 a1 a2 src : Nat} {s : State}
    (h : quietFlag Src.EVR_FAULT_LOGGED src = true) (hs : s.regsWf = true) :
    Flagged src (fault type cls source detail a0 a1 a2 s) ↔ Flagged src s :=
  iff_of_eq <| fault_keeps (fun u => Flagged src u) _ _ _ _ _ _ _ s (fun _ _ => by simp) (fun e => propext (flagged_raiseArg_other h hs))

@[simp] theorem fault_pending (type cls source detail a0 a1 a2 : Nat) (s : State) : (fault type cls source detail a0 a1 a2 s).pending = s.pending :=
  fault_keeps (fun u => u.pending) _ _ _ _ _ _ _ s (fun _ _ => rfl) (fun _ => raiseArg_pending _ _ _ _)
@[simp] theorem fault_now (type cls source detail a0 a1 a2 : Nat) (s : State) : (fault type cls source detail a0 a1 a2 s).now = s.now :=
  fault_keeps (fun u => u.now) _ _ _ _ _ _ _ s (fun _ _ => rfl) (fun _ => raiseArg_now _ _ _ _)
@[simp] theorem fault_devOff (type cls source detail a0 a1 a2 : Nat) (s : State) : (fault type cls source detail a0 a1 a2 s).devOff = s.devOff :=
  fault_keeps (fun u => u.devOff) _ _ _ _ _ _ _ s (fun _ _ => rfl) (fun _ => raiseArg_devOff _ _ _ _)
@[simp] theorem fault_steer (type cls source detail a0 a1 a2 : Nat) (s : State) : (fault type cls source detail a0 a1 a2 s).steer = s.steer :=
  fault_keeps (fun u => u.steer) _ _ _ _ _ _ _ s (fun _ _ => rfl) (fun _ => raiseArg_steer _ _ _ _)
@[simp] theorem fault_hiLatch (type cls source detail a0 a1 a2 : Nat) (s : State) : (fault type cls source detail a0 a1 a2 s).hiLatch = s.hiLatch :=
  fault_keeps (fun u => u.hiLatch) _ _ _ _ _ _ _ s (fun _ _ => rfl) (fun _ => raiseArg_hiLatch _ _ _ _)
@[simp] theorem fault_out (type cls source detail a0 a1 a2 : Nat) (s : State) : (fault type cls source detail a0 a1 a2 s).out = s.out :=
  fault_keeps (fun u => u.out) _ _ _ _ _ _ _ s (fun _ _ => rfl) (fun _ => raiseArg_out _ _ _ _)
@[simp] theorem fault_drawn (type cls source detail a0 a1 a2 : Nat) (s : State) : (fault type cls source detail a0 a1 a2 s).drawn = s.drawn :=
  fault_keeps (fun u => u.drawn) _ _ _ _ _ _ _ s (fun _ _ => rfl) (fun _ => raiseArg_drawn _ _ _ _)
@[simp] theorem fault_role (type cls source detail a0 a1 a2 : Nat) (s : State) : (fault type cls source detail a0 a1 a2 s).role = s.role :=
  fault_keeps (fun u => u.role) _ _ _ _ _ _ _ s (fun _ _ => rfl) (fun _ => raiseArg_role _ _ _ _)
@[simp] theorem fault_die (type cls source detail a0 a1 a2 : Nat) (s : State) : (fault type cls source detail a0 a1 a2 s).die = s.die :=
  fault_keeps (fun u => u.die) _ _ _ _ _ _ _ s (fun _ _ => rfl) (fun _ => raiseArg_die _ _ _ _)
@[simp] theorem fault_line (type cls source detail a0 a1 a2 : Nat) (s : State) : (fault type cls source detail a0 a1 a2 s).line = s.line :=
  fault_keeps (fun u => u.line) _ _ _ _ _ _ _ s (fun _ _ => rfl) (fun _ => raiseArg_line _ _ _ _)
@[simp] theorem fault_load (type cls source detail a0 a1 a2 : Nat) (s : State) : (fault type cls source detail a0 a1 a2 s).load = s.load :=
  fault_keeps (fun u => u.load) _ _ _ _ _ _ _ s (fun _ _ => rfl) (fun _ => raiseArg_load _ _ _ _)
@[simp] theorem fault_inp (type cls source detail a0 a1 a2 : Nat) (s : State) : (fault type cls source detail a0 a1 a2 s).inp = s.inp :=
  fault_keeps (fun u => u.inp) _ _ _ _ _ _ _ s (fun _ _ => rfl) (fun _ => raiseArg_inp _ _ _ _)
@[simp] theorem fault_eng (type cls source detail a0 a1 a2 : Nat) (s : State) : (fault type cls source detail a0 a1 a2 s).eng = s.eng :=
  fault_keeps (fun u => u.eng) _ _ _ _ _ _ _ s (fun _ _ => rfl) (fun _ => raiseArg_eng _ _ _ _)
@[simp] theorem fault_fus (type cls source detail a0 a1 a2 : Nat) (s : State) : (fault type cls source detail a0 a1 a2 s).fus = s.fus :=
  fault_keeps (fun u => u.fus) _ _ _ _ _ _ _ s (fun _ _ => rfl) (fun _ => raiseArg_fus _ _ _ _)
@[simp] theorem fault_fn (type cls source detail a0 a1 a2 : Nat) (s : State) : (fault type cls source detail a0 a1 a2 s).fn = s.fn :=
  fault_keeps (fun u => u.fn) _ _ _ _ _ _ _ s (fun _ _ => rfl) (fun _ => raiseArg_fn _ _ _ _)
@[simp] theorem fault_nav (type cls source detail a0 a1 a2 : Nat) (s : State) : (fault type cls source detail a0 a1 a2 s).nav = s.nav :=
  fault_keeps (fun u => u.nav) _ _ _ _ _ _ _ s (fun _ _ => rfl) (fun _ => raiseArg_nav _ _ _ _)
@[simp] theorem fault_yld (type cls source detail a0 a1 a2 : Nat) (s : State) : (fault type cls source detail a0 a1 a2 s).yld = s.yld :=
  fault_keeps (fun u => u.yld) _ _ _ _ _ _ _ s (fun _ _ => rfl) (fun _ => raiseArg_yld _ _ _ _)
@[simp] theorem fault_cst (type cls source detail a0 a1 a2 : Nat) (s : State) : (fault type cls source detail a0 a1 a2 s).cst = s.cst :=
  fault_keeps (fun u => u.cst) _ _ _ _ _ _ _ s (fun _ _ => rfl) (fun _ => raiseArg_cst _ _ _ _)
@[simp] theorem fault_clk (type cls source detail a0 a1 a2 : Nat) (s : State) : (fault type cls source detail a0 a1 a2 s).clk = s.clk :=
  fault_keeps (fun u => u.clk) _ _ _ _ _ _ _ s (fun _ _ => rfl) (fun _ => raiseArg_clk _ _ _ _)
@[simp] theorem fault_lvl (type cls source detail a0 a1 a2 : Nat) (s : State) : (fault type cls source detail a0 a1 a2 s).lvl = s.lvl :=
  fault_keeps (fun u => u.lvl) _ _ _ _ _ _ _ s (fun _ _ => rfl) (fun _ => raiseArg_lvl _ _ _ _)
@[simp] theorem fault_dma (type cls source detail a0 a1 a2 : Nat) (s : State) : (fault type cls source detail a0 a1 a2 s).dma = s.dma :=
  fault_keeps (fun u => u.dma) _ _ _ _ _ _ _ s (fun _ _ => rfl) (fun _ => raiseArg_dma _ _ _ _)
@[simp] theorem fault_can (type cls source detail a0 a1 a2 : Nat) (s : State) : (fault type cls source detail a0 a1 a2 s).can = s.can :=
  fault_keeps (fun u => u.can) _ _ _ _ _ _ _ s (fun _ _ => rfl) (fun _ => raiseArg_can _ _ _ _)
@[simp] theorem fault_pwr (type cls source detail a0 a1 a2 : Nat) (s : State) : (fault type cls source detail a0 a1 a2 s).pwr = s.pwr :=
  fault_keeps (fun u => u.pwr) _ _ _ _ _ _ _ s (fun _ _ => rfl) (fun _ => raiseArg_pwr _ _ _ _)
@[simp] theorem fault_upd (type cls source detail a0 a1 a2 : Nat) (s : State) : (fault type cls source detail a0 a1 a2 s).upd = s.upd :=
  fault_keeps (fun u => u.upd) _ _ _ _ _ _ _ s (fun _ _ => rfl) (fun _ => raiseArg_upd _ _ _ _)
@[simp] theorem fault_pk_waiting (type cls source detail a0 a1 a2 : Nat) (s : State) : (fault type cls source detail a0 a1 a2 s).pk.waiting = s.pk.waiting :=
  fault_keeps (fun u => u.pk.waiting) _ _ _ _ _ _ _ s (fun _ _ => rfl) (fun _ => raiseArg_pk_waiting _ _ _ _)
@[simp] theorem fault_pk_refused (type cls source detail a0 a1 a2 : Nat) (s : State) : (fault type cls source detail a0 a1 a2 s).pk.refused = s.pk.refused :=
  fault_keeps (fun u => u.pk.refused) _ _ _ _ _ _ _ s (fun _ _ => rfl) (fun _ => raiseArg_pk_refused _ _ _ _)
@[simp] theorem fault_pk_service (type cls source detail a0 a1 a2 : Nat) (s : State) : (fault type cls source detail a0 a1 a2 s).pk.service = s.pk.service :=
  fault_keeps (fun u => u.pk.service) _ _ _ _ _ _ _ s (fun _ _ => rfl) (fun _ => raiseArg_pk_service _ _ _ _)
@[simp] theorem fault_pk_lastServed (type cls source detail a0 a1 a2 : Nat) (s : State) : (fault type cls source detail a0 a1 a2 s).pk.lastServed = s.pk.lastServed :=
  fault_keeps (fun u => u.pk.lastServed) _ _ _ _ _ _ _ s (fun _ _ => rfl) (fun _ => raiseArg_pk_lastServed _ _ _ _)
@[simp] theorem fault_pk_reservedUse (type cls source detail a0 a1 a2 : Nat) (s : State) : (fault type cls source detail a0 a1 a2 s).pk.reservedUse = s.pk.reservedUse :=
  fault_keeps (fun u => u.pk.reservedUse) _ _ _ _ _ _ _ s (fun _ _ => rfl) (fun _ => raiseArg_pk_reservedUse _ _ _ _)
@[simp] theorem fault_pk_levelKeys (type cls source detail a0 a1 a2 : Nat) (s : State) : (fault type cls source detail a0 a1 a2 s).pk.levelKeys = s.pk.levelKeys :=
  fault_keeps (fun u => u.pk.levelKeys) _ _ _ _ _ _ _ s (fun _ _ => rfl) (fun _ => raiseArg_pk_levelKeys _ _ _ _)
@[simp] theorem fault_pk_failures (type cls source detail a0 a1 a2 : Nat) (s : State) : (fault type cls source detail a0 a1 a2 s).pk.failures = s.pk.failures :=
  fault_keeps (fun u => u.pk.failures) _ _ _ _ _ _ _ s (fun _ _ => rfl) (fun _ => raiseArg_pk_failures _ _ _ _)
@[simp] theorem fault_pk_received (type cls source detail a0 a1 a2 : Nat) (s : State) : (fault type cls source detail a0 a1 a2 s).pk.received = s.pk.received :=
  fault_keeps (fun u => u.pk.received) _ _ _ _ _ _ _ s (fun _ _ => rfl) (fun _ => raiseArg_pk_received _ _ _ _)
@[simp] theorem fault_pk_replied (type cls source detail a0 a1 a2 : Nat) (s : State) : (fault type cls source detail a0 a1 a2 s).pk.replied = s.pk.replied :=
  fault_keeps (fun u => u.pk.replied) _ _ _ _ _ _ _ s (fun _ _ => rfl) (fun _ => raiseArg_pk_replied _ _ _ _)
@[simp] theorem fault_pk_badLength (type cls source detail a0 a1 a2 : Nat) (s : State) : (fault type cls source detail a0 a1 a2 s).pk.badLength = s.pk.badLength :=
  fault_keeps (fun u => u.pk.badLength) _ _ _ _ _ _ _ s (fun _ _ => rfl) (fun _ => raiseArg_pk_badLength _ _ _ _)
@[simp] theorem fault_pk_badMagic (type cls source detail a0 a1 a2 : Nat) (s : State) : (fault type cls source detail a0 a1 a2 s).pk.badMagic = s.pk.badMagic :=
  fault_keeps (fun u => u.pk.badMagic) _ _ _ _ _ _ _ s (fun _ _ => rfl) (fun _ => raiseArg_pk_badMagic _ _ _ _)
@[simp] theorem fault_pk_badCrc (type cls source detail a0 a1 a2 : Nat) (s : State) : (fault type cls source detail a0 a1 a2 s).pk.badCrc = s.pk.badCrc :=
  fault_keeps (fun u => u.pk.badCrc) _ _ _ _ _ _ _ s (fun _ _ => rfl) (fun _ => raiseArg_pk_badCrc _ _ _ _)
@[simp] theorem fault_pk_badAuth (type cls source detail a0 a1 a2 : Nat) (s : State) : (fault type cls source detail a0 a1 a2 s).pk.badAuth = s.pk.badAuth :=
  fault_keeps (fun u => u.pk.badAuth) _ _ _ _ _ _ _ s (fun _ _ => rfl) (fun _ => raiseArg_pk_badAuth _ _ _ _)
@[simp] theorem fault_pk_authFailed (type cls source detail a0 a1 a2 : Nat) (s : State) : (fault type cls source detail a0 a1 a2 s).pk.authFailed = s.pk.authFailed :=
  fault_keeps (fun u => u.pk.authFailed) _ _ _ _ _ _ _ s (fun _ _ => rfl) (fun _ => raiseArg_pk_authFailed _ _ _ _)
@[simp] theorem fault_pk_fwdTimeouts (type cls source detail a0 a1 a2 : Nat) (s : State) : (fault type cls source detail a0 a1 a2 s).pk.fwdTimeouts = s.pk.fwdTimeouts :=
  fault_keeps (fun u => u.pk.fwdTimeouts) _ _ _ _ _ _ _ s (fun _ _ => rfl) (fun _ => raiseArg_pk_fwdTimeouts _ _ _ _)
@[simp] theorem fault_pk_isoRx (type cls source detail a0 a1 a2 : Nat) (s : State) : (fault type cls source detail a0 a1 a2 s).pk.isoRx = s.pk.isoRx :=
  fault_keeps (fun u => u.pk.isoRx) _ _ _ _ _ _ _ s (fun _ _ => rfl) (fun _ => raiseArg_pk_isoRx _ _ _ _)
@[simp] theorem fault_pk_isoTx (type cls source detail a0 a1 a2 : Nat) (s : State) : (fault type cls source detail a0 a1 a2 s).pk.isoTx = s.pk.isoTx :=
  fault_keeps (fun u => u.pk.isoTx) _ _ _ _ _ _ _ s (fun _ _ => rfl) (fun _ => raiseArg_pk_isoTx _ _ _ _)
@[simp] theorem fault_pk_asUntil (type cls source detail a0 a1 a2 : Nat) (s : State) : (fault type cls source detail a0 a1 a2 s).pk.asUntil = s.pk.asUntil :=
  fault_keeps (fun u => u.pk.asUntil) _ _ _ _ _ _ _ s (fun _ _ => rfl) (fun _ => raiseArg_pk_asUntil _ _ _ _)
@[simp] theorem fault_pk_canIn (type cls source detail a0 a1 a2 : Nat) (s : State) : (fault type cls source detail a0 a1 a2 s).pk.canIn = s.pk.canIn :=
  fault_keeps (fun u => u.pk.canIn) _ _ _ _ _ _ _ s (fun _ _ => rfl) (fun _ => raiseArg_pk_canIn _ _ _ _)
@[simp] theorem fault_pk_canOut (type cls source detail a0 a1 a2 : Nat) (s : State) : (fault type cls source detail a0 a1 a2 s).pk.canOut = s.pk.canOut :=
  fault_keeps (fun u => u.pk.canOut) _ _ _ _ _ _ _ s (fun _ _ => rfl) (fun _ => raiseArg_pk_canOut _ _ _ _)
@[simp] theorem fault_sets_running (type cls source detail a0 a1 a2 : Nat) (s : State) : (fault type cls source detail a0 a1 a2 s).sets.running = s.sets.running :=
  fault_keeps (fun u => u.sets.running) _ _ _ _ _ _ _ s (fun _ _ => rfl) (fun _ => raiseArg_sets_running _ _ _ _)
@[simp] theorem fault_sets_siding (type cls source detail a0 a1 a2 : Nat) (s : State) : (fault type cls source detail a0 a1 a2 s).sets.siding = s.sets.siding :=
  fault_keeps (fun u => u.sets.siding) _ _ _ _ _ _ _ s (fun _ _ => rfl) (fun _ => raiseArg_sets_siding _ _ _ _)
@[simp] theorem fault_sets_mramArea (type cls source detail a0 a1 a2 : Nat) (s : State) : (fault type cls source detail a0 a1 a2 s).sets.mramArea = s.sets.mramArea :=
  fault_keeps (fun u => u.sets.mramArea) _ _ _ _ _ _ _ s (fun _ _ => rfl) (fun _ => raiseArg_sets_mramArea _ _ _ _)
@[simp] theorem fault_sets_manifest (type cls source detail a0 a1 a2 : Nat) (s : State) : (fault type cls source detail a0 a1 a2 s).sets.manifest = s.sets.manifest :=
  fault_keeps (fun u => u.sets.manifest) _ _ _ _ _ _ _ s (fun _ _ => rfl) (fun _ => raiseArg_sets_manifest _ _ _ _)
@[simp] theorem fault_sets_manifestCrc (type cls source detail a0 a1 a2 : Nat) (s : State) : (fault type cls source detail a0 a1 a2 s).sets.manifestCrc = s.sets.manifestCrc :=
  fault_keeps (fun u => u.sets.manifestCrc) _ _ _ _ _ _ _ s (fun _ _ => rfl) (fun _ => raiseArg_sets_manifestCrc _ _ _ _)
@[simp] theorem fault_sets_okFrom (type cls source detail a0 a1 a2 : Nat) (s : State) : (fault type cls source detail a0 a1 a2 s).sets.okFrom = s.sets.okFrom :=
  fault_keeps (fun u => u.sets.okFrom) _ _ _ _ _ _ _ s (fun _ _ => rfl) (fun _ => raiseArg_sets_okFrom _ _ _ _)
@[simp] theorem fault_sets_modelOpen (type cls source detail a0 a1 a2 : Nat) (s : State) : (fault type cls source detail a0 a1 a2 s).sets.modelOpen = s.sets.modelOpen :=
  fault_keeps (fun u => u.sets.modelOpen) _ _ _ _ _ _ _ s (fun _ _ => rfl) (fun _ => raiseArg_sets_modelOpen _ _ _ _)
@[simp] theorem fault_sets_throw (type cls source detail a0 a1 a2 : Nat) (s : State) : (fault type cls source detail a0 a1 a2 s).sets.throw = s.sets.throw :=
  fault_keeps (fun u => u.sets.throw) _ _ _ _ _ _ _ s (fun _ _ => rfl) (fun _ => raiseArg_sets_throw _ _ _ _)
@[simp] theorem fault_sets_token (type cls source detail a0 a1 a2 : Nat) (s : State) : (fault type cls source detail a0 a1 a2 s).sets.token = s.sets.token :=
  fault_keeps (fun u => u.sets.token) _ _ _ _ _ _ _ s (fun _ _ => rfl) (fun _ => raiseArg_sets_token _ _ _ _)
@[simp] theorem fault_sets_sigToken (type cls source detail a0 a1 a2 : Nat) (s : State) : (fault type cls source detail a0 a1 a2 s).sets.sigToken = s.sets.sigToken :=
  fault_keeps (fun u => u.sets.sigToken) _ _ _ _ _ _ _ s (fun _ _ => rfl) (fun _ => raiseArg_sets_sigToken _ _ _ _)
@[simp] theorem fault_sets_yardAhead (type cls source detail a0 a1 a2 : Nat) (s : State) : (fault type cls source detail a0 a1 a2 s).sets.yardAhead = s.sets.yardAhead :=
  fault_keeps (fun u => u.sets.yardAhead) _ _ _ _ _ _ _ s (fun _ _ => rfl) (fun _ => raiseArg_sets_yardAhead _ _ _ _)
@[simp] theorem fault_sets_lateAt (type cls source detail a0 a1 a2 : Nat) (s : State) : (fault type cls source detail a0 a1 a2 s).sets.lateAt = s.sets.lateAt :=
  fault_keeps (fun u => u.sets.lateAt) _ _ _ _ _ _ _ s (fun _ _ => rfl) (fun _ => raiseArg_sets_lateAt _ _ _ _)
@[simp] theorem fault_sets_armedFor (type cls source detail a0 a1 a2 : Nat) (s : State) : (fault type cls source detail a0 a1 a2 s).sets.armedFor = s.sets.armedFor :=
  fault_keeps (fun u => u.sets.armedFor) _ _ _ _ _ _ _ s (fun _ _ => rfl) (fun _ => raiseArg_sets_armedFor _ _ _ _)
@[simp] theorem fault_sets_barred (type cls source detail a0 a1 a2 : Nat) (s : State) : (fault type cls source detail a0 a1 a2 s).sets.barred = s.sets.barred :=
  fault_keeps (fun u => u.sets.barred) _ _ _ _ _ _ _ s (fun _ _ => rfl) (fun _ => raiseArg_sets_barred _ _ _ _)
@[simp] theorem fault_sets_swappedAt (type cls source detail a0 a1 a2 : Nat) (s : State) : (fault type cls source detail a0 a1 a2 s).sets.swappedAt = s.sets.swappedAt :=
  fault_keeps (fun u => u.sets.swappedAt) _ _ _ _ _ _ _ s (fun _ _ => rfl) (fun _ => raiseArg_sets_swappedAt _ _ _ _)
@[simp] theorem fault_ev_retired (type cls source detail a0 a1 a2 : Nat) (s : State) : (fault type cls source detail a0 a1 a2 s).ev.retired = s.ev.retired :=
  fault_keeps (fun u => u.ev.retired) _ _ _ _ _ _ _ s (fun _ _ => rfl) (fun _ => raiseArg_ev_retired _ _ _ _)
@[simp] theorem fault_ev_retiredHere (type cls source detail a0 a1 a2 : Nat) (s : State) : (fault type cls source detail a0 a1 a2 s).ev.retiredHere = s.ev.retiredHere :=
  fault_keeps (fun u => u.ev.retiredHere) _ _ _ _ _ _ _ s (fun _ _ => rfl) (fun _ => raiseArg_ev_retiredHere _ _ _ _)
@[simp] theorem fault_ev_live (type cls source detail a0 a1 a2 : Nat) (s : State) : (fault type cls source detail a0 a1 a2 s).ev.live = s.ev.live :=
  fault_keeps (fun u => u.ev.live) _ _ _ _ _ _ _ s (fun _ _ => rfl) (fun _ => raiseArg_ev_live _ _ _ _)
@[simp] theorem fault_ev_second (type cls source detail a0 a1 a2 : Nat) (s : State) : (fault type cls source detail a0 a1 a2 s).ev.second = s.ev.second :=
  fault_keeps (fun u => u.ev.second) _ _ _ _ _ _ _ s (fun _ _ => rfl) (fun _ => raiseArg_ev_second _ _ _ _)
@[simp] theorem fault_ev_mram (type cls source detail a0 a1 a2 : Nat) (s : State) : (fault type cls source detail a0 a1 a2 s).ev.mram = s.ev.mram :=
  fault_keeps (fun u => u.ev.mram) _ _ _ _ _ _ _ s (fun _ _ => rfl) (fun _ => raiseArg_ev_mram _ _ _ _)
@[simp] theorem fault_ev_opsecMram (type cls source detail a0 a1 a2 : Nat) (s : State) : (fault type cls source detail a0 a1 a2 s).ev.opsecMram = s.ev.opsecMram :=
  fault_keeps (fun u => u.ev.opsecMram) _ _ _ _ _ _ _ s (fun _ _ => rfl) (fun _ => raiseArg_ev_opsecMram _ _ _ _)
@[simp] theorem fault_ev_partMram (type cls source detail a0 a1 a2 : Nat) (s : State) : (fault type cls source detail a0 a1 a2 s).ev.partMram = s.ev.partMram :=
  fault_keeps (fun u => u.ev.partMram) _ _ _ _ _ _ _ s (fun _ _ => rfl) (fun _ => raiseArg_ev_partMram _ _ _ _)
@[simp] theorem fault_ev_partNs (type cls source detail a0 a1 a2 : Nat) (s : State) : (fault type cls source detail a0 a1 a2 s).ev.partNs = s.ev.partNs :=
  fault_keeps (fun u => u.ev.partNs) _ _ _ _ _ _ _ s (fun _ _ => rfl) (fun _ => raiseArg_ev_partNs _ _ _ _)
@[simp] theorem fault_ev_awakeFrom (type cls source detail a0 a1 a2 : Nat) (s : State) : (fault type cls source detail a0 a1 a2 s).ev.awakeFrom = s.ev.awakeFrom :=
  fault_keeps (fun u => u.ev.awakeFrom) _ _ _ _ _ _ _ s (fun _ _ => rfl) (fun _ => raiseArg_ev_awakeFrom _ _ _ _)
@[simp] theorem fault_ev_commitAt (type cls source detail a0 a1 a2 : Nat) (s : State) : (fault type cls source detail a0 a1 a2 s).ev.commitAt = s.ev.commitAt :=
  fault_keeps (fun u => u.ev.commitAt) _ _ _ _ _ _ _ s (fun _ _ => rfl) (fun _ => raiseArg_ev_commitAt _ _ _ _)
@[simp] theorem fault_ev_sigDeadman (type cls source detail a0 a1 a2 : Nat) (s : State) : (fault type cls source detail a0 a1 a2 s).ev.sigDeadman = s.ev.sigDeadman :=
  fault_keeps (fun u => u.ev.sigDeadman) _ _ _ _ _ _ _ s (fun _ _ => rfl) (fun _ => raiseArg_ev_sigDeadman _ _ _ _)
@[simp] theorem fault_ev_yardDeadman (type cls source detail a0 a1 a2 : Nat) (s : State) : (fault type cls source detail a0 a1 a2 s).ev.yardDeadman = s.ev.yardDeadman :=
  fault_keeps (fun u => u.ev.yardDeadman) _ _ _ _ _ _ _ s (fun _ _ => rfl) (fun _ => raiseArg_ev_yardDeadman _ _ _ _)

/-! ### Sound states -/

theorem regsWf_of_sound {s : State} (h : s.sound = true) : s.regsWf = true := by
  simp only [State.sound, State.wf, Bool.and_eq_true] at h
  exact h.1.1.1

/-! ### Changes of a part leave the register space -/

@[simp] theorem reg_modChan (c : Nat) (f : ChannelPart → ChannelPart) (s : State) (a : Nat) : (modChan c f s).reg a = s.reg a := reg_of_regs (modChan_regs c f s) a
@[simp] theorem get_modChan (c : Nat) (f : ChannelPart → ChannelPart) (s : State) (g : Fld) : (modChan c f s).get g = s.get g := State.get_of_regs (modChan_regs c f s) g
@[simp] theorem regsWf_modChan (c : Nat) (f : ChannelPart → ChannelPart) (s : State) : (modChan c f s).regsWf = s.regsWf := congrArg canonical (modChan_regs c f s)
@[simp] theorem flagged_modChan (c : Nat) (f : ChannelPart → ChannelPart) (src : Nat) (s : State) : Flagged src (modChan c f s) ↔ Flagged src s := flagged_of_regs (modChan_regs c f s)
@[simp] theorem reg_modLoop (n : Nat) (f : LoopPart → LoopPart) (s : State) (a : Nat) : (modLoop n f s).reg a = s.reg a := reg_of_regs (modLoop_regs n f s) a
@[simp] theorem get_modLoop (n : Nat) (f : LoopPart → LoopPart) (s : State) (g : Fld) : (modLoop n f s).get g = s.get g := State.get_of_regs (modLoop_regs n f s) g
@[simp] theorem regsWf_modLoop (n : Nat) (f : LoopPart → LoopPart) (s : State) : (modLoop n f s).regsWf = s.regsWf := congrArg canonical (modLoop_regs n f s)
@[simp] theorem flagged_modLoop (n : Nat) (f : LoopPart → LoopPart) (src : Nat) (s : State) : Flagged src (modLoop n f s) ↔ Flagged src s := flagged_of_regs (modLoop_regs n f s)
@[simp] theorem reg_modStream (i : Nat) (f : StreamPart → StreamPart) (s : State) (a : Nat) : (modStream i f s).reg a = s.reg a := reg_of_regs (modStream_regs i f s) a
@[simp] theorem get_modStream (i : Nat) (f : StreamPart → StreamPart) (s : State) (g : Fld) : (modStream i f s).get g = s.get g := State.get_of_regs (modStream_regs i f s) g
@[simp] theorem regsWf_modStream (i : Nat) (f : StreamPart → StreamPart) (s : State) : (modStream i f s).regsWf = s.regsWf := congrArg canonical (modStream_regs i f s)
@[simp] theorem flagged_modStream (i : Nat) (f : StreamPart → StreamPart) (src : Nat) (s : State) : Flagged src (modStream i f s) ↔ Flagged src s := flagged_of_regs (modStream_regs i f s)
@[simp] theorem reg_modFn (n : Nat) (f : FnPart → FnPart) (s : State) (a : Nat) : (modFn n f s).reg a = s.reg a := reg_of_regs (modFn_regs n f s) a
@[simp] theorem get_modFn (n : Nat) (f : FnPart → FnPart) (s : State) (g : Fld) : (modFn n f s).get g = s.get g := State.get_of_regs (modFn_regs n f s) g
@[simp] theorem regsWf_modFn (n : Nat) (f : FnPart → FnPart) (s : State) : (modFn n f s).regsWf = s.regsWf := congrArg canonical (modFn_regs n f s)
@[simp] theorem flagged_modFn (n : Nat) (f : FnPart → FnPart) (src : Nat) (s : State) : Flagged src (modFn n f s) ↔ Flagged src s := flagged_of_regs (modFn_regs n f s)
@[simp] theorem reg_modSource (k : Nat) (f : CorrSource → CorrSource) (s : State) (a : Nat) : (modSource k f s).reg a = s.reg a := reg_of_regs (modSource_regs k f s) a
@[simp] theorem get_modSource (k : Nat) (f : CorrSource → CorrSource) (s : State) (g : Fld) : (modSource k f s).get g = s.get g := State.get_of_regs (modSource_regs k f s) g
@[simp] theorem regsWf_modSource (k : Nat) (f : CorrSource → CorrSource) (s : State) : (modSource k f s).regsWf = s.regsWf := congrArg canonical (modSource_regs k f s)
@[simp] theorem flagged_modSource (k : Nat) (f : CorrSource → CorrSource) (src : Nat) (s : State) : Flagged src (modSource k f s) ↔ Flagged src s := flagged_of_regs (modSource_regs k f s)
@[simp] theorem reg_modField (id : Nat) (f : Field → Field) (s : State) (a : Nat) : (modField id f s).reg a = s.reg a := reg_of_regs (modField_regs id f s) a
@[simp] theorem get_modField (id : Nat) (f : Field → Field) (s : State) (g : Fld) : (modField id f s).get g = s.get g := State.get_of_regs (modField_regs id f s) g
@[simp] theorem regsWf_modField (id : Nat) (f : Field → Field) (s : State) : (modField id f s).regsWf = s.regsWf := congrArg canonical (modField_regs id f s)
@[simp] theorem flagged_modField (id : Nat) (f : Field → Field) (src : Nat) (s : State) : Flagged src (modField id f s) ↔ Flagged src s := flagged_of_regs (modField_regs id f s)
@[simp] theorem reg_modLive (f : FieldData → FieldData) (s : State) (a : Nat) : (modLive f s).reg a = s.reg a := reg_of_regs (modLive_regs f s) a
@[simp] theorem get_modLive (f : FieldData → FieldData) (s : State) (g : Fld) : (modLive f s).get g = s.get g := State.get_of_regs (modLive_regs f s) g
@[simp] theorem regsWf_modLive (f : FieldData → FieldData) (s : State) : (modLive f s).regsWf = s.regsWf := congrArg canonical (modLive_regs f s)
@[simp] theorem flagged_modLive (f : FieldData → FieldData) (src : Nat) (s : State) : Flagged src (modLive f s) ↔ Flagged src s := flagged_of_regs (modLive_regs f s)
@[simp] theorem reg_modCst (f : ConsistPart → ConsistPart) (s : State) (a : Nat) : (modCst f s).reg a = s.reg a := reg_of_regs (modCst_regs f s) a
@[simp] theorem get_modCst (f : ConsistPart → ConsistPart) (s : State) (g : Fld) : (modCst f s).get g = s.get g := State.get_of_regs (modCst_regs f s) g
@[simp] theorem regsWf_modCst (f : ConsistPart → ConsistPart) (s : State) : (modCst f s).regsWf = s.regsWf := congrArg canonical (modCst_regs f s)
@[simp] theorem flagged_modCst (f : ConsistPart → ConsistPart) (src : Nat) (s : State) : Flagged src (modCst f s) ↔ Flagged src s := flagged_of_regs (modCst_regs f s)
@[simp] theorem reg_modRdv (f : Rdv → Rdv) (s : State) (a : Nat) : (modRdv f s).reg a = s.reg a := reg_of_regs (rfl) a
@[simp] theorem get_modRdv (f : Rdv → Rdv) (s : State) (g : Fld) : (modRdv f s).get g = s.get g := State.get_of_regs (rfl) g
@[simp] theorem regsWf_modRdv (f : Rdv → Rdv) (s : State) : (modRdv f s).regsWf = s.regsWf := congrArg canonical (rfl)
@[simp] theorem flagged_modRdv (f : Rdv → Rdv) (src : Nat) (s : State) : Flagged src (modRdv f s) ↔ Flagged src s := flagged_of_regs (rfl)
@[simp] theorem reg_modRef (xtal : Bool) (f : RefPart → RefPart) (s : State) (a : Nat) : (modRef xtal f s).reg a = s.reg a := reg_of_regs (modRef_regs xtal f s) a
@[simp] theorem get_modRef (xtal : Bool) (f : RefPart → RefPart) (s : State) (g : Fld) : (modRef xtal f s).get g = s.get g := State.get_of_regs (modRef_regs xtal f s) g
@[simp] theorem regsWf_modRef (xtal : Bool) (f : RefPart → RefPart) (s : State) : (modRef xtal f s).regsWf = s.regsWf := congrArg canonical (modRef_regs xtal f s)
@[simp] theorem flagged_modRef (xtal : Bool) (f : RefPart → RefPart) (src : Nat) (s : State) : Flagged src (modRef xtal f s) ↔ Flagged src s := flagged_of_regs (modRef_regs xtal f s)
@[simp] theorem reg_modLvl (f : LevelPart → LevelPart) (s : State) (a : Nat) : (modLvl f s).reg a = s.reg a := reg_of_regs (modLvl_regs f s) a
@[simp] theorem get_modLvl (f : LevelPart → LevelPart) (s : State) (g : Fld) : (modLvl f s).get g = s.get g := State.get_of_regs (modLvl_regs f s) g
@[simp] theorem regsWf_modLvl (f : LevelPart → LevelPart) (s : State) : (modLvl f s).regsWf = s.regsWf := congrArg canonical (modLvl_regs f s)
@[simp] theorem flagged_modLvl (f : LevelPart → LevelPart) (src : Nat) (s : State) : Flagged src (modLvl f s) ↔ Flagged src s := flagged_of_regs (modLvl_regs f s)
@[simp] theorem reg_modDma (c : Nat) (f : DmaChannel → DmaChannel) (s : State) (a : Nat) : (modDma c f s).reg a = s.reg a := reg_of_regs (modDma_regs c f s) a
@[simp] theorem get_modDma (c : Nat) (f : DmaChannel → DmaChannel) (s : State) (g : Fld) : (modDma c f s).get g = s.get g := State.get_of_regs (modDma_regs c f s) g
@[simp] theorem regsWf_modDma (c : Nat) (f : DmaChannel → DmaChannel) (s : State) : (modDma c f s).regsWf = s.regsWf := congrArg canonical (modDma_regs c f s)
@[simp] theorem flagged_modDma (c : Nat) (f : DmaChannel → DmaChannel) (src : Nat) (s : State) : Flagged src (modDma c f s) ↔ Flagged src s := flagged_of_regs (modDma_regs c f s)
@[simp] theorem reg_modDie (f : DiePart → DiePart) (s : State) (a : Nat) : (modDie f s).reg a = s.reg a := reg_of_regs (modDie_regs f s) a
@[simp] theorem get_modDie (f : DiePart → DiePart) (s : State) (g : Fld) : (modDie f s).get g = s.get g := State.get_of_regs (modDie_regs f s) g
@[simp] theorem regsWf_modDie (f : DiePart → DiePart) (s : State) : (modDie f s).regsWf = s.regsWf := congrArg canonical (modDie_regs f s)
@[simp] theorem flagged_modDie (f : DiePart → DiePart) (src : Nat) (s : State) : Flagged src (modDie f s) ↔ Flagged src s := flagged_of_regs (modDie_regs f s)
@[simp] theorem reg_modUpd (f : UpdatePart → UpdatePart) (s : State) (a : Nat) : (modUpd f s).reg a = s.reg a := reg_of_regs (modUpd_regs f s) a
@[simp] theorem get_modUpd (f : UpdatePart → UpdatePart) (s : State) (g : Fld) : (modUpd f s).get g = s.get g := State.get_of_regs (modUpd_regs f s) g
@[simp] theorem regsWf_modUpd (f : UpdatePart → UpdatePart) (s : State) : (modUpd f s).regsWf = s.regsWf := congrArg canonical (modUpd_regs f s)
@[simp] theorem flagged_modUpd (f : UpdatePart → UpdatePart) (src : Nat) (s : State) : Flagged src (modUpd f s) ↔ Flagged src s := flagged_of_regs (modUpd_regs f s)
@[simp] theorem reg_modEv (f : EventPart → EventPart) (s : State) (a : Nat) : (modEv f s).reg a = s.reg a := reg_of_regs (modEv_regs f s) a
@[simp] theorem get_modEv (f : EventPart → EventPart) (s : State) (g : Fld) : (modEv f s).get g = s.get g := State.get_of_regs (modEv_regs f s) g
@[simp] theorem regsWf_modEv (f : EventPart → EventPart) (s : State) : (modEv f s).regsWf = s.regsWf := congrArg canonical (modEv_regs f s)
@[simp] theorem flagged_modEv (f : EventPart → EventPart) (src : Nat) (s : State) : Flagged src (modEv f s) ↔ Flagged src s := flagged_of_regs (modEv_regs f s)
@[simp] theorem reg_modPort (east : Bool) (f : PortState → PortState) (s : State) (a : Nat) : (modPort east f s).reg a = s.reg a := reg_of_regs (modPort_regs east f s) a
@[simp] theorem get_modPort (east : Bool) (f : PortState → PortState) (s : State) (g : Fld) : (modPort east f s).get g = s.get g := State.get_of_regs (modPort_regs east f s) g
@[simp] theorem regsWf_modPort (east : Bool) (f : PortState → PortState) (s : State) : (modPort east f s).regsWf = s.regsWf := congrArg canonical (modPort_regs east f s)
@[simp] theorem flagged_modPort (east : Bool) (f : PortState → PortState) (src : Nat) (s : State) : Flagged src (modPort east f s) ↔ Flagged src s := flagged_of_regs (modPort_regs east f s)
@[simp] theorem reg_modOrder (n : Nat) (f : OrderState → OrderState) (s : State) (a : Nat) : (modOrder n f s).reg a = s.reg a := reg_of_regs (modOrder_regs n f s) a
@[simp] theorem get_modOrder (n : Nat) (f : OrderState → OrderState) (s : State) (g : Fld) : (modOrder n f s).get g = s.get g := State.get_of_regs (modOrder_regs n f s) g
@[simp] theorem regsWf_modOrder (n : Nat) (f : OrderState → OrderState) (s : State) : (modOrder n f s).regsWf = s.regsWf := congrArg canonical (modOrder_regs n f s)
@[simp] theorem flagged_modOrder (n : Nat) (f : OrderState → OrderState) (src : Nat) (s : State) : Flagged src (modOrder n f s) ↔ Flagged src s := flagged_of_regs (modOrder_regs n f s)
@[simp] theorem reg_modSession (n : Nat) (f : Session → Session) (s : State) (a : Nat) : (modSession n f s).reg a = s.reg a := reg_of_regs (modSession_regs n f s) a
@[simp] theorem get_modSession (n : Nat) (f : Session → Session) (s : State) (g : Fld) : (modSession n f s).get g = s.get g := State.get_of_regs (modSession_regs n f s) g
@[simp] theorem regsWf_modSession (n : Nat) (f : Session → Session) (s : State) : (modSession n f s).regsWf = s.regsWf := congrArg canonical (modSession_regs n f s)
@[simp] theorem flagged_modSession (n : Nat) (f : Session → Session) (src : Nat) (s : State) : Flagged src (modSession n f s) ↔ Flagged src s := flagged_of_regs (modSession_regs n f s)
@[simp] theorem reg_modData (n : Nat) (f : DataStream → DataStream) (s : State) (a : Nat) : (modData n f s).reg a = s.reg a := reg_of_regs (modData_regs n f s) a
@[simp] theorem get_modData (n : Nat) (f : DataStream → DataStream) (s : State) (g : Fld) : (modData n f s).get g = s.get g := State.get_of_regs (modData_regs n f s) g
@[simp] theorem regsWf_modData (n : Nat) (f : DataStream → DataStream) (s : State) : (modData n f s).regsWf = s.regsWf := congrArg canonical (modData_regs n f s)
@[simp] theorem flagged_modData (n : Nat) (f : DataStream → DataStream) (src : Nat) (s : State) : Flagged src (modData n f s) ↔ Flagged src s := flagged_of_regs (modData_regs n f s)
@[simp] theorem reg_modControl (n : Nat) (f : CanControl → CanControl) (s : State) (a : Nat) : (modControl n f s).reg a = s.reg a := reg_of_regs (modControl_regs n f s) a
@[simp] theorem get_modControl (n : Nat) (f : CanControl → CanControl) (s : State) (g : Fld) : (modControl n f s).get g = s.get g := State.get_of_regs (modControl_regs n f s) g
@[simp] theorem regsWf_modControl (n : Nat) (f : CanControl → CanControl) (s : State) : (modControl n f s).regsWf = s.regsWf := congrArg canonical (modControl_regs n f s)
@[simp] theorem flagged_modControl (n : Nat) (f : CanControl → CanControl) (src : Nat) (s : State) : Flagged src (modControl n f s) ↔ Flagged src s := flagged_of_regs (modControl_regs n f s)
@[simp] theorem reg_modBuffer (n k : Nat) (f : TxBuffer → TxBuffer) (s : State) (a : Nat) : (modBuffer n k f s).reg a = s.reg a := reg_of_regs (rfl) a
@[simp] theorem get_modBuffer (n k : Nat) (f : TxBuffer → TxBuffer) (s : State) (g : Fld) : (modBuffer n k f s).get g = s.get g := State.get_of_regs (rfl) g
@[simp] theorem regsWf_modBuffer (n k : Nat) (f : TxBuffer → TxBuffer) (s : State) : (modBuffer n k f s).regsWf = s.regsWf := congrArg canonical (rfl)
@[simp] theorem flagged_modBuffer (n k : Nat) (f : TxBuffer → TxBuffer) (src : Nat) (s : State) : Flagged src (modBuffer n k f s) ↔ Flagged src s := flagged_of_regs (rfl)
@[simp] theorem reg_emit (e : Emit) (s : State) (a : Nat) : (emit e s).reg a = s.reg a := reg_of_regs (emit_regs e s) a
@[simp] theorem get_emit (e : Emit) (s : State) (g : Fld) : (emit e s).get g = s.get g := State.get_of_regs (emit_regs e s) g
@[simp] theorem regsWf_emit (e : Emit) (s : State) : (emit e s).regsWf = s.regsWf := congrArg canonical (emit_regs e s)
@[simp] theorem flagged_emit (e : Emit) (src : Nat) (s : State) : Flagged src (emit e s) ↔ Flagged src s := flagged_of_regs (emit_regs e s)
end Sys2Proof.Machine
end

section
/-!
SUPPORT. What the sending of a packet changes: the registers of the CAN controllers, the Line's queues, what has left, and the transfers
of the service path.
-/

namespace Sys2Proof.Machine

/-- The state b with what a packet that leaves may change as in u. -/
def sentFrom (b u : State) : State :=
  { b with
    regs := u.regs, line := u.line, can := u.can, out := u.out
    pk := { b.pk with isoTx := u.pk.isoTx, asUntil := u.pk.asUntil, canOut := u.pk.canOut, replied := u.pk.replied,
                      fwdTimeouts := u.pk.fwdTimeouts } }

/-- Two states differ at most in what a packet that leaves may change. -/
def Sends (b u : State) : Prop := u = sentFrom b u

theorem Sends.refl (s : State) : Sends s s := rfl

theorem Sends.trans {s t u : State} (h : Sends s t) (k : Sends t u) : Sends s u := by
  unfold Sends at *
  rw [k, h]
  rfl

theorem foldOver_sends {α : Type} {f : State → α → State} (h : ∀ s a, Sends s (f s a)) :
    ∀ (l : List α) (s : State), Sends s (foldOver f s l)
  | [], s => .refl s
  | a :: l, s => (h s a).trans (foldOver_sends h l (f s a))

theorem startEntry_sends (entry : Nat) (s : State) : Sends s (startEntry entry s) := by
  unfold startEntry
  split <;> rfl

theorem offerQueue_sends {x : Slot} {bs : Bytes} {s u : State} (h : offerQueue x bs s = some u) : Sends s u := by
  simp only [offerQueue, Option.ite_none_right_eq_some, Option.some.injEq] at h
  obtain ⟨-, rfl⟩ := h
  exact (startEntry_sends x.entry s).trans rfl

theorem offerBePacket_sends (dest : Nat) (bs : Bytes) (s : State) : Sends s (offerBePacket dest bs s) :=
  Sends.trans (t := { s with line := { s.line with pktIds := _ } }) rfl
    (foldOver_sends (f := fun s f => offerBe 0x16 dest f s) (fun _ _ => rfl) _ _)

theorem replyOverLine_sends (r : Reply) (s : State) : Sends s (replyOverLine r s) := by
  unfold replyOverLine
  split
  · split
    · exact offerBePacket_sends _ _ s
    · rfl
  · split
    next u hq => exact offerQueue_sends hq
    next => rfl

theorem sendFirmware_sends (n : Nat) (f : CanFrame) (s : State) : Sends s (sendFirmware n f s) := by
  unfold sendFirmware
  split <;> rfl

theorem sendSegment_sends (f : CanFrame) (s : State) : Sends s (sendSegment f s) :=
  Sends.trans (t := { s with pk := { s.pk with asUntil := _ } }) rfl (sendFirmware_sends 3 f _)

theorem startTransfer_sends (dest : Nat) (bs : Bytes) (s : State) : Sends s (startTransfer dest bs s) := by
  unfold startTransfer
  dsimp only
  split
  · exact sendSegment_sends _ s
  · split
    · exact sendSegment_sends _ s
    · exact (sendSegment_sends _ s).trans rfl

theorem sendService_sends (dest : Nat) (bs : Bytes) (s : State) : Sends s (sendService dest bs s) := by
  unfold sendService
  split
  · rfl
  · exact startTransfer_sends dest bs s

theorem transmit_sends (dest : Transport) (r : Reply) (s : State) : Sends s (transmit dest r s) := by
  cases dest with
  | line sender entry => exact (replyOverLine_sends r s).trans rfl
  | canD sa =>
    simp only [transmit]
    split
    · exact (sendService_sends _ _ s).trans rfl
    · rfl
  | host ip port => rfl

theorem sendPacket_sends (dest : Transport) (r : Reply) (s : State) : Sends s (sendPacket dest r s) := by
  have counted : Sends s { s with pk := { s.pk with
      replied := (s.pk.replied + 1) % 4294967296
      fwdTimeouts := (s.pk.fwdTimeouts + if r.status = St.forwardTimeout then 1 else 0) % 4294967296 } } := rfl
  exact counted.trans (transmit_sends dest r _)

@[simp] theorem sendPacket_pending (dest : Transport) (r : Reply) (s : State) : (sendPacket dest r s).pending = s.pending := by
  rw [sendPacket_sends dest r s]; rfl
@[simp] theorem sendPacket_now (dest : Transport) (r : Reply) (s : State) : (sendPacket dest r s).now = s.now := by
  rw [sendPacket_sends dest r s]; rfl
@[simp] theorem sendPacket_devOff (dest : Transport) (r : Reply) (s : State) : (sendPacket dest r s).devOff = s.devOff := by
  rw [sendPacket_sends dest r s]; rfl
@[simp] theorem sendPacket_steer (dest : Transport) (r : Reply) (s : State) : (sendPacket dest r s).steer = s.steer := by
  rw [sendPacket_sends dest r s]; rfl
@[simp] theorem sendPacket_hiLatch (dest : Transport) (r : Reply) (s : State) : (sendPacket dest r s).hiLatch = s.hiLatch := by
  rw [sendPacket_sends dest r s]; rfl
@[simp] theorem sendPacket_drawn (dest : Transport) (r : Reply) (s : State) : (sendPacket dest r s).drawn = s.drawn := by
  rw [sendPacket_sends dest r s]; rfl
@[simp] theorem sendPacket_ev (dest : Transport) (r : Reply) (s : State) : (sendPacket dest r s).ev = s.ev := by
  rw [sendPacket_sends dest r s]; rfl
@[simp] theorem sendPacket_role (dest : Transport) (r : Reply) (s : State) : (sendPacket dest r s).role = s.role := by
  rw [sendPacket_sends dest r s]; rfl
@[simp] theorem sendPacket_die (dest : Transport) (r : Reply) (s : State) : (sendPacket dest r s).die = s.die := by
  rw [sendPacket_sends dest r s]; rfl
@[simp] theorem sendPacket_sets (dest : Transport) (r : Reply) (s : State) : (sendPacket dest r s).sets = s.sets := by
  rw [sendPacket_sends dest r s]; rfl
@[simp] theorem sendPacket_load (dest : Transport) (r : Reply) (s : State) : (sendPacket dest r s).load = s.load := by
  rw [sendPacket_sends dest r s]; rfl
@[simp] theorem sendPacket_inp (dest : Transport) (r : Reply) (s : State) : (sendPacket dest r s).inp = s.inp := by
  rw [sendPacket_sends dest r s]; rfl
@[simp] theorem sendPacket_eng (dest : Transport) (r : Reply) (s : State) : (sendPacket dest r s).eng = s.eng := by
  rw [sendPacket_sends dest r s]; rfl
@[simp] theorem sendPacket_fus (dest : Transport) (r : Reply) (s : State) : (sendPacket dest r s).fus = s.fus := by
  rw [sendPacket_sends dest r s]; rfl
@[simp] theorem sendPacket_fn (dest : Transport) (r : Reply) (s : State) : (sendPacket dest r s).fn = s.fn := by
  rw [sendPacket_sends dest r s]; rfl
@[simp] theorem sendPacket_nav (dest : Transport) (r : Reply) (s : State) : (sendPacket dest r s).nav = s.nav := by
  rw [sendPacket_sends dest r s]; rfl
@[simp] theorem sendPacket_yld (dest : Transport) (r : Reply) (s : State) : (sendPacket dest r s).yld = s.yld := by
  rw [sendPacket_sends dest r s]; rfl
@[simp] theorem sendPacket_cst (dest : Transport) (r : Reply) (s : State) : (sendPacket dest r s).cst = s.cst := by
  rw [sendPacket_sends dest r s]; rfl
@[simp] theorem sendPacket_clk (dest : Transport) (r : Reply) (s : State) : (sendPacket dest r s).clk = s.clk := by
  rw [sendPacket_sends dest r s]; rfl
@[simp] theorem sendPacket_lvl (dest : Transport) (r : Reply) (s : State) : (sendPacket dest r s).lvl = s.lvl := by
  rw [sendPacket_sends dest r s]; rfl
@[simp] theorem sendPacket_dma (dest : Transport) (r : Reply) (s : State) : (sendPacket dest r s).dma = s.dma := by
  rw [sendPacket_sends dest r s]; rfl
@[simp] theorem sendPacket_pwr (dest : Transport) (r : Reply) (s : State) : (sendPacket dest r s).pwr = s.pwr := by
  rw [sendPacket_sends dest r s]; rfl
@[simp] theorem sendPacket_pk_sessions (dest : Transport) (r : Reply) (s : State) : (sendPacket dest r s).pk.sessions = s.pk.sessions := by
  rw [sendPacket_sends dest r s]; rfl
@[simp] theorem sendPacket_pk_waiting (dest : Transport) (r : Reply) (s : State) : (sendPacket dest r s).pk.waiting = s.pk.waiting := by
  rw [sendPacket_sends dest r s]; rfl
@[simp] theorem sendPacket_pk_refused (dest : Transport) (r : Reply) (s : State) : (sendPacket dest r s).pk.refused = s.pk.refused := by
  rw [sendPacket_sends dest r s]; rfl
@[simp] theorem sendPacket_pk_service (dest : Transport) (r : Reply) (s : State) : (sendPacket dest r s).pk.service = s.pk.service := by
  rw [sendPacket_sends dest r s]; rfl
@[simp] theorem sendPacket_pk_lastServed (dest : Transport) (r : Reply) (s : State) : (sendPacket dest r s).pk.lastServed = s.pk.lastServed := by
  rw [sendPacket_sends dest r s]; rfl
@[simp] theorem sendPacket_pk_reservedUse (dest : Transport) (r : Reply) (s : State) : (sendPacket dest r s).pk.reservedUse = s.pk.reservedUse := by
  rw [sendPacket_sends dest r s]; rfl
@[simp] theorem sendPacket_pk_levelKeys (dest : Transport) (r : Reply) (s : State) : (sendPacket dest r s).pk.levelKeys = s.pk.levelKeys := by
  rw [sendPacket_sends dest r s]; rfl
@[simp] theorem sendPacket_pk_failures (dest : Transport) (r : Reply) (s : State) : (sendPacket dest r s).pk.failures = s.pk.failures := by
  rw [sendPacket_sends dest r s]; rfl
@[simp] theorem sendPacket_pk_received (dest : Transport) (r : Reply) (s : State) : (sendPacket dest r s).pk.received = s.pk.received := by
  rw [sendPacket_sends dest r s]; rfl
@[simp] theorem sendPacket_pk_badLength (dest : Transport) (r : Reply) (s : State) : (sendPacket dest r s).pk.badLength = s.pk.badLength := by
  rw [sendPacket_sends dest r s]; rfl
@[simp] theorem sendPacket_pk_badMagic (dest : Transport) (r : Reply) (s : State) : (sendPacket dest r s).pk.badMagic = s.pk.badMagic := by
  rw [sendPacket_sends dest r s]; rfl
@[simp] theorem sendPacket_pk_badCrc (dest : Transport) (r : Reply) (s : State) : (sendPacket dest r s).pk.badCrc = s.pk.badCrc := by
  rw [sendPacket_sends dest r s]; rfl
@[simp] theorem sendPacket_pk_badAuth (dest : Transport) (r : Reply) (s : State) : (sendPacket dest r s).pk.badAuth = s.pk.badAuth := by
  rw [sendPacket_sends dest r s]; rfl
@[simp] theorem sendPacket_pk_authFailed (dest : Transport) (r : Reply) (s : State) : (sendPacket dest r s).pk.authFailed = s.pk.authFailed := by
  rw [sendPacket_sends dest r s]; rfl
@[simp] theorem sendPacket_pk_canIn (dest : Transport) (r : Reply) (s : State) : (sendPacket dest r s).pk.canIn = s.pk.canIn := by
  rw [sendPacket_sends dest r s]; rfl

/-- The packet itself is what leaves last. -/
theorem packet_mem_sendPacket (dest : Transport) (r : Reply) (s : State) : .packet dest r ∈ (sendPacket dest r s).out := by
  cases dest <;> simp [sendPacket, transmit]

@[simp] theorem sendPacket_host_out (ip : BitVec 32) (port : BitVec 16) (r : Reply) (s : State) :
    (sendPacket (.host ip port) r s).out = s.out ++ [.packet (.host ip port) r] := rfl

/-! ### Requests that are carried out -/

/-- What the admission of a request leaves as it is. -/
theorem Admitted.keeps {α : Type} {p : Request} {s s1 : State} (h : Admitted p s s1) (g : State → α)
    (hg : ∀ l r n, g { s with pk := { s.pk with sessions := l, reservedUse := r, received := n } } = g s) : g s1 = g s := by
  rw [h.1]
  exact hg _ _ _

theorem Admitted.regsWf {p : Request} {s s1 : State} (h : Admitted p s s1) : s1.regsWf = s.regsWf :=
  h.keeps State.regsWf fun _ _ _ => rfl

@[simp] theorem ok_code : St.ok = 0 := rfl

@[simp] theorem refuse_eq (s : State) (status : Nat) : refuse s status = { st := s, status := status } := rfl

end Sys2Proof.Machine
end

section
/-!
The session opcodes (R104, R107, R108, R125, R130).
-/

namespace Sys2Proof.Machine

/-! ### The end of a session -/

@[simp] theorem closeData_upd (n : Nat) (s : State) : (closeData n s).upd = s.upd := rfl
@[simp] theorem closeData_pk (n : Nat) (s : State) : (closeData n s).pk = s.pk := rfl

@[simp] theorem closeDataOf_upd (p : Nat → Bool) (s : State) : (closeDataOf p s).upd = s.upd :=
  foldOver_keeps State.upd (fun s n => closeData n s) (fun _ _ => rfl) _ _

@[simp] theorem closeDataOf_pk (p : Nat → Bool) (s : State) : (closeDataOf p s).pk = s.pk :=
  foldOver_keeps State.pk (fun s n => closeData n s) (fun _ _ => rfl) _ _

@[simp] theorem clearDelivery_upd (n : Nat) (s : State) : (clearDelivery n s).upd = s.upd := rfl
@[simp] theorem clearDelivery_pk (n : Nat) (s : State) : (clearDelivery n s).pk = s.pk := rfl

@[simp] theorem endSession_upd (n : Nat) (s : State) : (endSession n s).upd = s.upd := by
  simp [endSession, closeDataOfSession]

/-- A session that has ended is found no more. -/
@[simp] theorem findSession_endSession (n : Nat) (s : State) : findSession (endSession n s) n = none := by
  simp [findSession, endSession, closeDataOfSession]

@[simp] theorem holdOff_upd (op : Nat) (p : Request) (status retry : Nat) (s : State) : (holdOff op p status retry s).upd = s.upd := by
  unfold holdOff
  split <;> rfl

theorem foldOver_instruct_upd (f : Member → Emit) (l : List Member) (s : State) :
    (foldOver (fun s m => emit (f m) s) s l).upd = s.upd := foldOver_keeps State.upd (fun s m => emit (f m) s) (fun _ _ => rfl) _ _

@[simp] theorem tellSession_upd (opcode n : Nat) (s : State) : (tellSession opcode n s).upd = s.upd := by
  unfold tellSession
  split
  · exact foldOver_instruct_upd _ _ s
  · rfl

theorem findSession_sendPacket (dest : Transport) (r : Reply) (s : State) (n : Nat) :
    findSession (sendPacket dest r s) n = findSession s n := by simp [findSession]

/-- A request whose reply ends its session leaves no session of its number, and its update part as it is. -/
theorem concludeRun_of_closes (reserved : Bool) (op : Nat) (p : Request) {a : Answer} (hjob : a.job = none) (hcloses : a.closes = true) :
    findSession (concludeRun reserved false op p a) p.session.toNat = none ∧ (concludeRun reserved false op p a).upd = a.st.upd := by
  unfold concludeRun
  simp only [hjob, hcloses, if_true]
  split
  · exact ⟨findSession_endSession _ _, by simp [addWaiting, joinWaiting]⟩
  · exact ⟨(findSession_sendPacket _ _ _ _).trans (findSession_endSession _ _), by simp⟩

/-- SESSION_CLOSE ends its session (R107). -/
theorem sessionClose_ends {t : Nat} {p : Request} {s : State} (hacc : acceptable 0x0003 p (begin_ t s) = true) (hdue : s.upd.restartDue = []) :
    ∃ u, exec (.sessionClose t p) s = .next u ∧ findSession u p.session.toNat = none := by
  obtain ⟨s1, reserved, admitted, examined⟩ := examine_of_acceptable (op := 0x0003) rfl hacc
  obtain ⟨gone, upd⟩ := concludeRun_of_closes reserved 0x0003 p (a := runSessionClose p s1) rfl rfl
  have due : (concludeRun reserved false 0x0003 p (runSessionClose p s1)).upd.restartDue = [] := by
    have same : s1.upd = (begin_ t s).upd := admitted.keeps State.upd fun _ _ _ => rfl
    have ran : (runSessionClose p s1).st.upd = s1.upd := by
      simp only [runSessionClose, ok, apply_ite State.upd, tellSession_upd, ite_self]
    rw [upd, ran, same]
    simpa using hdue
  exact ⟨_, congrArg Host.Outcome.next (examined.trans (settle_of_none_due due)), gone⟩

/-! ### Keys, cancelling and subscriptions -/

/-- A list read with a default reads the same filled up with it. -/
theorem nth_filled {α : Type} (d : α) {l : List α} {k m n : Nat} (h : k < n) : nth ((l ++ List.replicate m d).take n) k d = nth l k d := by
  rw [nth_eq_getD, nth_eq_getD, List.getD_eq_getElem?_getD, List.getD_eq_getElem?_getD, List.getElem?_take_of_lt h]
  rcases Nat.lt_or_ge k l.length with lt | ge
  · rw [List.getElem?_append_left lt]
  · rw [List.getElem?_append_right ge, List.getElem?_eq_none ge, List.getElem?_replicate]
    split <;> rfl

/-- SESSION_KEY_SET sets the key of its level and no other (R104). -/
theorem runSessionKeySet_of_level {p : Request} {s : State} (lo : 1 ≤ fieldAt p.params 0 1) (hi : fieldAt p.params 0 1 ≤ 3) :
    (runSessionKeySet p s).status = St.ok ∧
      nth (runSessionKeySet p s).st.pk.levelKeys (fieldAt p.params 0 1 - 1) [] = newKey p s ∧
      ∀ k, k < 3 → k ≠ fieldAt p.params 0 1 - 1 → nth (runSessionKeySet p s).st.pk.levelKeys k [] = nth s.pk.levelKeys k [] := by
  have level : ¬ (fieldAt p.params 0 1 = 0 ∨ 3 < fieldAt p.params 0 1) := by omega
  simp only [runSessionKeySet, level, if_false, ok]
  refine ⟨rfl, nth_setNth_same _ _ ?_, fun k hk other => ?_⟩
  · simp
    omega
  · rw [nth_setNth_ne _ _ other]
    exact nth_filled _ hk

/-- A cancelled request is answered CANCELLED, or was not queued (R125). -/
theorem runRequestCancel_of_none {p : Request} {s : State}
    (h : s.pk.waiting.find? (fun w => isWaitingFor p.session.toNat (fieldAt p.params 0 4) w && w.job == .queued) = none) :
    runRequestCancel p s = refuse s St.notCancelled := by simp only [runRequestCancel, h]

theorem runRequestCancel_of_some {p : Request} {s : State} {w : Waiting}
    (h : s.pk.waiting.find? (fun x => isWaitingFor p.session.toNat (fieldAt p.params 0 4) x && x.job == .queued) = some w) :
    runRequestCancel p s = ok (completeWaiting w (joinNum s) St.cancelled 0 [] s) [] := by simp only [runRequestCancel, h]

/-- The four words of a subscription, written in a row, read as given. -/
theorem reg_subscription {n w : Nat} (v : Nat → Nat) {s : State} (hs : s.regsWf = true) (hw : w < 4) :
    (foldOver (fun s w => s.setReg (Reg.EVT_SUB n w) (v w)) s [0, 1, 2, 3]).reg (Reg.EVT_SUB n w) = v w % 2 ^ 32 := by
  have apart : ∀ i, i ≠ w → Reg.EVT_SUB n w ≠ Reg.EVT_SUB n i := fun i hi => by simp only [Reg.EVT_SUB]; omega
  simp only [foldOver_cons, foldOver_nil]
  rcases (by omega : w = 0 ∨ w = 1 ∨ w = 2 ∨ w = 3) with rfl | rfl | rfl | rfl
  · rw [State.reg_setReg_ne _ _ _ _ (apart 3 (by decide)), State.reg_setReg_ne _ _ _ _ (apart 2 (by decide)),
      State.reg_setReg_ne _ _ _ _ (apart 1 (by decide)), State.reg_setReg_same _ _ _ hs]
  · rw [State.reg_setReg_ne _ _ _ _ (apart 3 (by decide)), State.reg_setReg_ne _ _ _ _ (apart 2 (by decide)),
      State.reg_setReg_same _ _ _ (by simp [hs])]
  · rw [State.reg_setReg_ne _ _ _ _ (apart 3 (by decide)), State.reg_setReg_same _ _ _ (by simp [hs])]
  · rw [State.reg_setReg_same _ _ _ (by simp [hs])]

theorem fieldAt_lt (b : Bytes) (o n : Nat) : fieldAt b o n < 256 ^ n := by
  refine lt_of_lt_of_le (leNat_lt _) (Nat.pow_le_pow_right (by decide) ?_)
  simp

/-- EVENT_SUBSCRIBE sets the four words of the subscription of its session. -/
theorem runEventSubscribe_of_session {p : Request} {s : State} (hs : s.regsWf = true) (lo : 1 ≤ p.session.toNat) (hi : p.session.toNat ≤ 16) :
    (runEventSubscribe p s).status = St.ok ∧ (runEventSubscribe p s).result = p.params.take 16 ∧
      ∀ w, w < 4 → (runEventSubscribe p s).st.reg (Reg.EVT_SUB (p.session.toNat - 1) w) = fieldAt p.params (4 * w) 4 := by
  have session : ¬ (p.session.toNat = 0 ∨ 16 < p.session.toNat) := by omega
  rw [show runEventSubscribe p s = _ from if_neg session]
  refine ⟨rfl, rfl, fun w hw => (reg_subscription _ hs hw).trans ?_⟩
  exact Nat.mod_eq_of_lt (fieldAt_lt _ _ 4)

/-- Settles O5: each opcode's entry of the table answers as said; only the reply of SESSION_CLOSE ends its session. -/
theorem sessionRequests : Obligations.SessionRequests := by
  refine ⟨?_, ?_, fun _ _ _ => sessionClose_ends, ?_, ?_, fun w => ?_, ?_, ?_, ?_⟩
  · exact serves_of_run (fun _ _ _ => rfl) rfl fun _ _ _ _ _ => rfl
  · exact serves_of_run (fun _ _ _ => rfl) rfl fun _ _ _ _ _ => rfl
  · exact serves_of_run (fun _ _ _ => rfl) rfl fun _ _ _ h _ => runSessionKeySet_of_level h.1 h.2
  · exact serves_of_run (fun _ _ _ => rfl) rfl fun _ _ _ h admitted =>
      runRequestCancel_of_none ((congrArg _ (admitted.keeps (·.pk.waiting) fun _ _ _ => rfl)).trans h)
  · exact serves_of_run (fun _ _ _ => rfl) rfl fun _ _ _ h admitted =>
      runRequestCancel_of_some ((congrArg _ (admitted.keeps (·.pk.waiting) fun _ _ _ => rfl)).trans h)
  · exact serves_of_run (fun _ _ _ => rfl) rfl fun _ _ _ h admitted =>
      runEventSubscribe_of_session (admitted.regsWf.trans h.1) h.2.1 h.2.2
  · exact serves_of_run (fun _ _ _ => rfl) rfl fun _ _ _ _ _ => rfl
  · exact serves_of_run (fun _ _ _ => rfl) rfl fun _ _ _ _ _ => rfl

end Sys2Proof.Machine
end

section
/-!
HELLO, SESSION_OPEN and EVENT as requests (R100–R103, R130, R131).
-/

namespace Sys2Proof.Machine

/-! ### Numbers as bytes -/

theorem leNat_leBytes : ∀ n v : Nat, leNat (leBytes n v) = v % 256 ^ n
  | 0, v => by simp [leBytes, leNat, Nat.mod_one]
  | n + 1, v => by
    rw [leBytes, leNat, leNat_leBytes n, BitVec.toNat_ofNat]
    have split : v % 256 ^ (n + 1) = v % 256 + 256 * (v / 256 % 256 ^ n) := by rw [pow_succ', Nat.mod_mul]
    exact split.symm

/-- The field at the front of a result. -/
theorem fieldAt_leBytes {n v : Nat} (rest : Bytes) (h : v < 256 ^ n) : fieldAt (leBytes n v ++ rest) 0 n = v := by
  have front : (leBytes n v ++ rest).take n = leBytes n v := by
    rw [List.take_append_of_le_length (by simp), List.take_of_length_le (by simp)]
  simp [fieldAt, front, leNat_leBytes, Nat.mod_eq_of_lt h]

/-! ### An opening that executes here -/

/-- The session that phase 1 reserves under a number. -/
def reservedSession (p : Request) (n : Nat) (s : State) : Session :=
  { num := n, isOpen := false, level := fieldAt p.params 1 1, key := [], hostNonce := (p.params.drop 4).take 16,
    moduleNonce := leBytes 16 (Config.moduleNonce s.drawn).toNat, openBy := s.now + tOpenPending, h := 0, seen := 1, records := [],
    lastAuth := s.now, via := p.via, unlocked := [], evQueue := [], evLost := 0 }

/-- A reserved session once phase 2 has opened it. -/
def openedSession (p : Request) (x : Session) (s : State) : Session :=
  { x with isOpen := true, key := proofOf labelKey s x, h := 0, seen := 1, records := [], lastAuth := s.now, via := p.via }

/-- The reply of an opening that is answered OK, and the state after it. -/
def openedReply (op : Nat) (p : Request) (a : Answer) : Reply :=
  buildReply a.st op p false (joinNum a.st) St.ok (admitOf false St.ok) 0 0 a.result

/-- The session that an opening concerns. -/
def openedFor (p : Request) (a : Answer) : Nat := if p.session.toNat = 0 then fieldAt a.result 0 2 else p.session.toNat

def openedState (op : Nat) (p : Request) (a : Answer) : State :=
  if mirrorHolds op { p with session := BitVec.ofNat 16 (openedFor p a) } a.st then
    addWaiting op p (.mirror (openedReply op p a)) true a.st
  else sendPacket p.via (openedReply op p a) a.st

theorem openedState_upd (op : Nat) (p : Request) (a : Answer) : (openedState op p a).upd = a.st.upd := by
  unfold openedState
  split
  · rfl
  · simp

theorem openedState_sessions (op : Nat) (p : Request) (a : Answer) : (openedState op p a).pk.sessions = a.st.pk.sessions := by
  unfold openedState
  split
  · rfl
  · simp

theorem answerOpen_of_ok {info : OpInfo} {p : Request} {s : State} (free : heldOff s info.code p = none)
    (status : (info.run p s).status = St.ok) (retry : (info.run p s).retry = 0) :
    answerOpen info p s = openedState info.code p (info.run p s) := by
  simp only [answerOpen, free, status, retry, holdOff, if_true, beq_self_eq_true, Bool.true_and]
  rfl

theorem signalLost_of_ready {s : State} (h : signalReady s = true) : signalLost s = false := by
  simp only [signalReady, Bool.and_eq_true] at h
  simp [signalLost, h.1]

/-- An opening that meets the hypotheses of opensHere and is answered OK, with the update part as it is, ends so. -/
theorem examine_of_opensHere {op : Nat} {info : OpInfo} {p : Request} {s : State} (hop : opTable op = some info)
    (opening : op = 0x0001 ∨ op = 0x0002) (version : op = 0x0002 → p.version.toNat = 1) (h : opensHere op p s)
    (bcast : info.bcast = false) (len : info.lenOk p.params = true) (status : (info.run p (countReceived s)).status = St.ok)
    (retry : (info.run p (countReceived s)).retry = 0) (upd : (info.run p (countReceived s)).st.upd = s.upd) :
    examine op p s = openedState op p (info.run p (countReceived s)) := by
  obtain ⟨whole, hf, place, ready, waiting, free, relief, due, -⟩ := h
  simp only [wholeHere, Bool.and_eq_true, Bool.not_eq_true', beq_iff_eq, decide_eq_true_eq] at whole
  obtain ⟨⟨⟨⟨⟨⟨ht, hfrag⟩, hlen⟩, hmax⟩, hmagic⟩, hcrc⟩, hforeign⟩ := whole
  obtain rfl := code_of_opTable hop
  have known : ¬ (p.version.toNat ≠ 1 ∧ info.code ≠ 0x0001) := by
    rintro ⟨hv, hne⟩
    exact hv (version (opening.resolve_left hne))
  have own : (isRelief (countReceived s) && !forwardedIn p && decide (1 ≤ p.session.toNat) && decide (p.session.toNat ≤ 12)) = false := by
    cases hr : isRelief s
    · exact by simp [show isRelief (countReceived s) = false from hr]
    · have := relief hr
      simp only [Bool.and_eq_false_iff, decide_eq_false_iff_not]
      omega
  have here : placeOf (countReceived s) info.code info.bcast p = .here := by rw [bcast]; exact place
  have opened : openHere info p (countReceived s) = openedState info.code p (info.run p (countReceived s)) := by
    have lost : signalLost (countReceived s) = false := signalLost_of_ready (s := countReceived s) ready
    have goes : (!signalReady (countReceived s) || (countReceived s).pk.waiting.any (waitsForSignal (throwBusy (countReceived s)))) = false := by
      rw [show signalReady (countReceived s) = true from ready]
      exact waiting
    simp only [openHere, hf, lost, goes, Bool.false_eq_true, and_false, if_false]
    exact answerOpen_of_ok (s := countReceived s) free status retry
  have accepted : acceptPacket opTable info.code p s = openedState info.code p (info.run p (countReceived s)) := by
    simp [acceptPacket, ← countReceived.eq_def, ht, hfrag, ← hlen, Nat.not_lt.mpr hmax, hmagic, hcrc, hforeign, known, opening, hop,
      own, here, len, opened]
  have noArming : isArming info.code p = false := by simp [isArming, hf]
  exact examine_of_accepted noArming accepted (by rw [openedState_upd, upd, due])

theorem mirrorHolds_congr {op : Nat} {q : Request} {a b : State} (role : a.role = b.role) (line : a.line = b.line) :
    mirrorHolds op q a = mirrorHolds op q b := by simp only [mirrorHolds, isTerminus, reliefPresent, role, line]

/-- The reply of an opening leaves, or waits for the mirror. -/
theorem replied_openedState (op : Nat) (p : Request) (a : Answer) {b : State}
    (role : a.st.role = b.role) (line : a.st.line = b.line) :
    Replied op (openedFor p a) p (openedReply op p a) b (openedState op p a) := by
  unfold Replied openedState
  rw [mirrorHolds_congr role line]
  split
  · exact ⟨newWaiting op p (.mirror (openedReply op p a)) a.st, by simp [addWaiting, joinWaiting], rfl, rfl⟩
  · exact packet_mem_sendPacket _ _ _

/-! ### HELLO -/

theorem mirrorHolds_hello (p : Request) (s : State) : mirrorHolds 0x0001 p s = false := by
  simp [mirrorHolds, show hasEffect 0x0001 = false from by decide]

/-- HELLO answers with the identity of the module (R130). -/
theorem hello_answers {t : Nat} {p : Request} {s : State} (h : opensHere 0x0001 p (begin_ t s)) (none_ : p.params = []) :
    ∃ u r, exec (.hello t p) s = .next u ∧ u.out = [.packet p.via r] ∧ r.status = St.ok ∧ r.sequence = p.sequence.toNat ∧
      r.result = (runHello p s).result := by
  obtain ⟨-, -, -, -, -, -, -, -, ip, port, via⟩ := id h
  have examined := examine_of_opensHere (info := ⟨0x0001, 0, false, (lenIs 0), always, runHello⟩) rfl (.inl rfl) (fun no => absurd no (by decide)) h rfl
    (by rw [none_]; rfl) rfl rfl rfl
  refine ⟨_, openedReply 0x0001 p (runHello p (countReceived (begin_ t s))), congrArg Host.Outcome.next examined, ?_, rfl, rfl, ?_⟩
  · simp only [openedState, mirrorHolds_hello, via]
    change (begin_ t s).out ++ _ = _
    simp
  · simp [openedReply, buildReply, sealReply, runHello, ok, joinNum, ownUid, State.get64, countReceived]

/-! ### SESSION_OPEN -/

/-- Phase 1 with a LEVEL that is not locked out, no opening of its HOST_NONCE and a free number reserves that number (R98, R100). -/
theorem openPhase1_of_free {p : Request} {s : State} {n : Nat} (session : p.session.toNat = 0) (lo : 1 ≤ fieldAt p.params 1 1)
    (hi : fieldAt p.params 1 1 ≤ 3) (unlocked : lockout s (fieldAt p.params 1 1) = 0)
    (fresh : (dropPending s).pk.sessions.find? (fun x => (openRange s p.via).contains x.num && x.level == fieldAt p.params 1 1 &&
      x.hostNonce == (p.params.drop 4).take 16) = none)
    (free : (openRange s p.via).find? (fun k => (findSession (dropPending s) k).isNone) = some n) :
    openPhase1 p s = ok { putSession (reservedSession p n s) (dropPending s) with drawn := s.drawn + 1 }
      (leBytes 2 n ++ leBytes 2 0 ++ leBytes 16 (Config.moduleNonce s.drawn).toNat ++ leBytes 8 (ownUid s)) := by
  have level : ¬ (fieldAt p.params 1 1 = 0 ∨ 3 < fieldAt p.params 1 1) := by omega
  have locked : lockout (dropPending s) (fieldAt p.params 1 1) = 0 := unlocked
  have range : openRange (dropPending s) p.via = openRange s p.via := rfl
  simp only [openPhase1, session, level, locked, range, fresh, free, ne_eq, not_true_eq_false, if_false]
  rfl

/-- Phase 2 with the right proof, before its time is over, opens the session (R100–R103). -/
theorem openPhase2_of_good {p : Request} {s : State} {x : Session} (found : findSession s p.session.toNat = some x)
    (closed : x.isOpen = false) (inTime : s.now < x.openBy) (level : fieldAt p.params 1 1 = x.level)
    (proof : (p.params.drop 4).take 32 = proofOf labelHost s x) :
    openPhase2 p s = ok (tellSession 0x0002 x.num (setFailures x.level (0, 0) (putSession (openedSession p x s) s))) (proofOf labelMod s x) := by
  simp [openPhase2, found, closed, Nat.not_le.mpr inTime, level, proof, openedSession]

/-- What phase 1 and phase 2 read of the state in which the packet begins. -/
theorem proofOf_begin (label : Bytes) (t : Nat) (s : State) (x : Session) :
    proofOf label (begin_ t s) x = proofOf label s x := by
  simp [proofOf, levelKey, openingText, ownUid, State.get64]

@[simp] theorem tellSession_pk (opcode n : Nat) (s : State) : (tellSession opcode n s).pk = s.pk := by
  unfold tellSession
  split
  · exact foldOver_keeps State.pk (fun s (m : Member) => emit (.instruct m.num opcode (leBytes 2 n)) s) (fun _ _ => rfl) _ _
  · rfl

@[simp] theorem tellSession_role (opcode n : Nat) (s : State) : (tellSession opcode n s).role = s.role := by
  unfold tellSession
  split
  · exact foldOver_keeps State.role (fun s (m : Member) => emit (.instruct m.num opcode (leBytes 2 n)) s) (fun _ _ => rfl) _ _
  · rfl

@[simp] theorem tellSession_line (opcode n : Nat) (s : State) : (tellSession opcode n s).line = s.line := by
  unfold tellSession
  split
  · exact foldOver_keeps State.line (fun s (m : Member) => emit (.instruct m.num opcode (leBytes 2 n)) s) (fun _ _ => rfl) _ _
  · rfl

theorem openRange_begin (t : Nat) (s : State) (via : Transport) : openRange (begin_ t s) via = openRange s via := by
  simp only [openRange, begin_isTerminus]

theorem mem_openRange {s : State} {via : Transport} {n : Nat} (h : n ∈ openRange s via) : 1 ≤ n ∧ n ≤ 16 := by
  unfold openRange at h
  split at h
  · split at h <;> simp at h <;> omega
  · simp at h
    omega

/-- An opening that executes here and is answered OK: the packet ends in openedState, with the reply sent or held for the mirror. -/
theorem opened_of_opensHere {n : Nat} {p : Request} {b : State} (h : opensHere 0x0002 p b) (version : p.version.toNat = 1)
    (len : lenSessionOpen p.params = true) {a : Answer} (ran : runSessionOpen p (countReceived b) = a)
    (status : a.status = St.ok) (retry : a.retry = 0) (upd : a.st.upd = b.upd) (role : a.st.role = b.role) (line : a.st.line = b.line)
    (concerned : openedFor p a = n) :
    ∃ r, Replied 0x0002 n p r b (examine 0x0002 p b) ∧ r.status = St.ok ∧ r.result = a.result ∧
      (examine 0x0002 p b).pk.sessions = a.st.pk.sessions := by
  subst ran
  have examined := examine_of_opensHere (info := ⟨0x0002, 0, false, lenSessionOpen, always, runSessionOpen⟩) rfl (.inr rfl)
    (fun _ => version) h rfl len status retry upd
  rw [examined]
  exact ⟨_, concerned ▸ replied_openedState 0x0002 p _ role line, rfl, rfl, openedState_sessions _ _ _⟩

/-- Phase 1 as a packet (R100). -/
theorem phase1_reserves {n : Nat} {p : Request} {b : State} (h : opensHere 0x0002 p b) (version : p.version.toNat = 1)
    (len : p.params.length = 20) (phase : fieldAt p.params 0 1 = 1) (session : p.session.toNat = 0) (lo : 1 ≤ fieldAt p.params 1 1)
    (hi : fieldAt p.params 1 1 ≤ 3) (unlocked : lockout b (fieldAt p.params 1 1) = 0)
    (fresh : (dropPending b).pk.sessions.find? (fun x => (openRange b p.via).contains x.num && x.level == fieldAt p.params 1 1 &&
      x.hostNonce == (p.params.drop 4).take 16) = none)
    (free : (openRange b p.via).find? (fun k => (findSession (dropPending b) k).isNone) = some n) :
    ∃ r, Replied 0x0002 n p r b (examine 0x0002 p b) ∧ r.status = St.ok ∧
      r.result = leBytes 2 n ++ leBytes 2 0 ++ leBytes 16 (Config.moduleNonce b.drawn).toNat ++ leBytes 8 (ownUid b) ∧
      findSession (examine 0x0002 p b) n = some (reservedSession p n b) := by
  have opened := openPhase1_of_free (s := countReceived b) session lo hi unlocked fresh free
  have small : n < 256 ^ 2 := by have := mem_openRange (List.mem_of_find?_eq_some free); omega
  have ran : runSessionOpen p (countReceived b) = openPhase1 p (countReceived b) := by simp [runSessionOpen, phase]
  obtain ⟨r, replied, status, result, sessions⟩ := opened_of_opensHere (n := n) h version (by simp [lenSessionOpen, phase, len])
    (ran.trans opened) rfl rfl rfl rfl rfl (by simp only [openedFor, session, if_true, ok, List.append_assoc, fieldAt_leBytes _ small])
  refine ⟨r, replied, status, result, ?_⟩
  rw [findSession, sessions]
  exact findSession_putSession (x := reservedSession p n b) (dropPending (countReceived b)) rfl

/-- Phase 2 as a packet (R100–R103). -/
theorem phase2_opens {p : Request} {b : State} {x : Session} (h : opensHere 0x0002 p b) (version : p.version.toNat = 1)
    (len : p.params.length = 36) (phase : fieldAt p.params 0 1 = 2) (session : 1 ≤ p.session.toNat)
    (found : findSession b p.session.toNat = some x) (closed : x.isOpen = false) (inTime : b.now < x.openBy)
    (level : fieldAt p.params 1 1 = x.level) (proof : (p.params.drop 4).take 32 = proofOf labelHost b x) :
    ∃ r, Replied 0x0002 p.session.toNat p r b (examine 0x0002 p b) ∧ r.status = St.ok ∧ r.result = proofOf labelMod b x ∧
      findSession (examine 0x0002 p b) x.num = some (openedSession p x b) := by
  have opened := openPhase2_of_good (s := countReceived b) (p := p) (x := x) found closed inTime level proof
  have ran : runSessionOpen p (countReceived b) = openPhase2 p (countReceived b) := by simp [runSessionOpen, phase]
  have occupied : p.session.toNat ≠ 0 := by omega
  obtain ⟨r, replied, status, result, sessions⟩ := opened_of_opensHere (n := p.session.toNat) h version (by simp [lenSessionOpen, phase, len])
    (ran.trans opened) rfl rfl (tellSession_upd _ _ _) (tellSession_role _ _ _) (tellSession_line _ _ _) (by simp [openedFor, occupied])
  refine ⟨r, replied, status, result, ?_⟩
  rw [findSession, sessions]
  simp only [ok, tellSession_pk]
  exact findSession_putSession (x := openedSession p x b) (countReceived b) rfl

/-! ### EVENT as a request -/

@[simp] theorem noteRecord_out (op : Nat) (p : Request) (r : ReqRecord) (s : State) : (noteRecord op p r s).out = s.out := by
  unfold noteRecord
  split <;> simp

@[simp] theorem noteRecord_upd (op : Nat) (p : Request) (r : ReqRecord) (s : State) : (noteRecord op p r s).upd = s.upd := by
  unfold noteRecord
  split <;> simp

@[simp] theorem noteArrival_upd (p : Request) (x : Session) (s : State) : (noteArrival p x (countReceived s)).upd = s.upd := rfl
@[simp] theorem noteArrival_out (p : Request) (x : Session) (s : State) : (noteArrival p x (countReceived s)).out = s.out := rfl

/-- A request with an opcode that has no entry, and without effect, is refused to its host (R131). -/
theorem event_refused {p : Request} {x : Session} {b : State} (found : findSession b p.session.toNat = some x)
    (auth : authentic 0x0F00 p x b = true) (due : b.upd.restartDue = []) {ip : BitVec 32} {port : BitVec 16} (via : p.via = .host ip port)
    (out : b.out = []) : ∃ r, (examine 0x0F00 p b).out = [.packet p.via r] ∧ r.status = St.badOpcode ∧ r.admitted = 2 := by
  obtain ⟨-, -, -, -, -, -, -, -, -, free⟩ := authentic_iff.mp auth
  have noEffect : hasEffect 0x0F00 = false := by decide
  have noOpcode : opTable 0x0F00 = none := by decide
  have noted : heldOff (noteArrival p x (countReceived b)) 0x0F00 p = none := free
  rw [examine_of_authentic found auth, admitAndExecute, noted]
  simp only [noOpcode, finish, finishAs, noEffect, Bool.false_and]
  rw [settle_of_none_due (by simpa using due)]
  simp only [via, sendPacket_host_out, noteRecord_out, noteArrival_out, out, Bool.false_eq_true, if_false, List.nil_append]
  exact ⟨_, rfl, rfl, rfl⟩

/-- Settles O4: the openings pass the checks of R110 and run at once; what their entries of the opcode table leave is read off, and an EVENT
has no entry. -/
theorem openingRequests : Obligations.OpeningRequests := by
  refine ⟨fun t p s h none_ => hello_answers h none_, fun t p s l n h version len phase session level lo hi unlocked fresh free => ?_,
    fun t p s x h version len phase session found closed inTime level proof => ?_, fun t p s x found auth due via => ?_⟩
  · subst level
    have range : openRange (begin_ t s) p.via = openRange s p.via := openRange_begin t s p.via
    obtain ⟨r, replied, status, result, reserved⟩ := phase1_reserves h version len phase session lo hi unlocked (by rw [range]; exact fresh)
      (by rw [range]; exact free)
    refine ⟨_, r, reservedSession p n (begin_ t s), rfl, replied, status, ?_, reserved, rfl, rfl, rfl, ?_⟩
    · simpa [ownUid, State.get64] using result
    · simp [reservedSession, tOpenPending]
  · obtain ⟨r, replied, status, result, opened⟩ := phase2_opens h version len phase session (x := x) (by simpa [findSession] using found)
      closed (by simpa using inTime) level (proof.trans (proofOf_begin labelHost t s x).symm)
    exact ⟨_, r, openedSession p x (begin_ t s), rfl, replied, status, result.trans (proofOf_begin labelMod t s x), opened, rfl, rfl,
      proofOf_begin labelKey t s x, rfl⟩
  · obtain ⟨ip, port, via⟩ := via
    obtain ⟨r, out, status, admitted⟩ := event_refused (by simpa [findSession] using found) auth (by simpa using due) via (by simp)
    exact ⟨_, r, rfl, out, status, admitted⟩

end Sys2Proof.Machine
end

section
/-!
The register and table opcodes, the block locks, and register writes (R26, R134–R140, R832).
-/

namespace Sys2Proof.Machine

/-! ### What register accesses read of the packet layer -/

/-- Registers outside the blocks of events and of the logbook read the same whatever the packet layer holds. -/
theorem readWord_of_pk {s : State} {a : Nat} {b : Block} (k : PacketPart) (hb : blockOf a = some b) (evr : b ≠ .EVR) (evt : b ≠ .EVT) :
    readWord { s with pk := k } a = readWord s a := by
  have same : overlay { s with pk := k } a = overlay s a := by
    rw [overlay_of_block hb, overlay_of_block hb]
    cases b with
    | EVR => exact absurd rfl evr
    | EVT => exact absurd rfl evt
    | _ => rfl
  simp only [readWord, same]
  rfl

theorem checkReads_of_pk (s : State) (k : PacketPart) : ∀ l, checkReads { s with pk := k } l = checkReads s l
  | [] => rfl
  | a :: l => by
    simp only [checkReads, checkReads_of_pk s k l]
    rfl

/-- The status of a request for a loop's state depends on the loop and the set alone. -/
theorem loopRequest_status (n st : Nat) (s : State) :
    (loopRequest n st s).status =
      if n > 31 ∨ st > 2 then St.badParam
      else if loopState s n = st then St.ok
      else if st = lOpen then St.ok
      else if !loopDefined s n then St.loopUndefined
      else if st = lRun then (if gainValid (runningGains s n) then St.ok else St.badParam)
      else if loopState s n = lRun then St.ok
      else St.badParam := by
  unfold loopRequest
  split_ifs <;> rfl

theorem loadCheckAll_of_pk (s : State) (k : PacketPart) : ∀ (l : List (Nat × Nat × Nat)) (seen : List Nat),
    loadCheckAll { s with pk := k } seen l = loadCheckAll s seen l
  | [], _ => rfl
  | e :: l, seen => by
    simp only [loadCheckAll, loadCheckAll_of_pk s k l]
    rfl

theorem loadRefusal_of_pk (s : State) (k : PacketPart) (l : List (Nat × Nat × Nat)) :
    loadRefusal { s with pk := k } l = loadRefusal s l := by
  simp only [loadRefusal, loadCheckAll_of_pk]
  rfl

/-- The value of a write to a register outside the blocks of events and of the logbook is judged the same, when the locks stand the
same. -/
theorem checkValue_of_pk {s : State} {k : PacketPart} {session : Nat} {w : RegWrite}
    (locks : ∀ block, blockUnlocked { s with pk := k } session block = blockUnlocked s session block)
    (same : writtenWord { s with pk := k } w = writtenWord s w) : checkValue { s with pk := k } session w = checkValue s session w := by
  have entry : ∀ c, commandEntry { s with pk := k } c w = commandEntry s c w := fun c => by simp only [commandEntry, same]
  simp only [checkValue, loopRequest_status, loadRefusal_of_pk, locks, same, entry]
  rfl

/-- A register that no write of which is judged by its value. -/
theorem checkValue_of_unjudged {s : State} {session : Nat} {w : RegWrite} (gain : gainReg w.addr = none)
    (lead : Reg.CFG_LEAD ≠ w.addr) (pps : Reg.GNS_PPS_DELAY ≠ w.addr) (load : indexIn 32 Reg.LSW_CH_CMD w.addr = none)
    (loop_ : indexIn 32 Reg.CLE_LOOP_CTRL w.addr = none) (dma : indexIn 32 Reg.DMA_CH_CTRL w.addr = none) :
    checkValue s session w = St.ok := by
  have noLead : touches w F.CFG_LEAD_THROW_LEAD = false := by
    simp only [touches, Bool.and_eq_false_iff, beq_eq_false_iff_ne]
    exact .inl lead
  have noPps : touches w F.GNS_PPS_DELAY_DELAY = false := by
    simp only [touches, Bool.and_eq_false_iff, beq_eq_false_iff_ne]
    exact .inl pps
  simp [checkValue, gain, noLead, noPps, load, loop_, dma]

theorem indexIn_eq_none {reg : Nat → Nat} {a : Nat} {b : Block} (h : ∀ i, i < 32 → blockOf (reg i) = some b) (hb : blockOf a ≠ some b) :
    indexIn 32 reg a = none := by
  cases hf : indexIn 32 reg a with
  | none => rfl
  | some n => exact absurd (blockOf_of_find? hf (by simpa using h)) hb

theorem gainReg_eq_none {a : Nat} (h : blockOf a ≠ some .CLE) : gainReg a = none := by
  unfold gainReg
  split
  next inMap => exact absurd (blockOf_of_bounds .CLE (by simp [Block.first]; omega) (by simp [Block.last]; omega)) h
  · rfl

theorem checkWrite_of_pk {s : State} {k : PacketPart} {session : Nat}
    (locks : ∀ block, blockUnlocked { s with pk := k } session block = blockUnlocked s session block) (w : RegWrite) :
    checkWrite { s with pk := k } session w = checkWrite s session w := by
  have value : checkValue { s with pk := k } session w = checkValue s session w := by
    by_cases judged : ∃ b, blockOf w.addr = some b ∧ b ≠ .EVR ∧ b ≠ .EVT
    · obtain ⟨b, hb, evr, evt⟩ := judged
      exact checkValue_of_pk locks (by simp only [writtenWord, readWord_of_pk k hb evr evt])
    · have other : ∀ b, b ≠ .EVR → b ≠ .EVT → blockOf w.addr ≠ some b := fun b evr evt hb => judged ⟨b, hb, evr, evt⟩
      have away : ∀ a b, blockOf a = some b → b ≠ .EVR → b ≠ .EVT → a ≠ w.addr := fun a b ha evr evt e =>
        other b evr evt (e ▸ ha)
      have unjudged : ∀ u : State, checkValue u session w = St.ok := fun u =>
        checkValue_of_unjudged (gainReg_eq_none (other _ (by decide) (by decide))) (away _ .CFG rfl (by decide) (by decide))
          (away _ .GNS rfl (by decide) (by decide)) (indexIn_eq_none (b := .LSW) (by decide) (other _ (by decide) (by decide)))
          (indexIn_eq_none (b := .CLE) (by decide) (other _ (by decide) (by decide)))
          (indexIn_eq_none (b := .DMA) (by decide) (other _ (by decide) (by decide)))
      rw [unjudged, unjudged]
  simp only [checkWrite, value]
  rfl

theorem checkAll_of_pk {s : State} {k : PacketPart} {session : Nat}
    (locks : ∀ block, blockUnlocked { s with pk := k } session block = blockUnlocked s session block) :
    ∀ l, checkAll { s with pk := k } session l = checkAll s session l
  | [] => rfl
  | w :: l => by simp only [checkAll, checkWrite_of_pk locks, checkAll_of_pk locks l]

/-- The admission of a request leaves the locks of its session as they are. -/
theorem Admitted.blockUnlocked {p : Request} {s s1 : State} (h : Admitted p s s1) (block : Nat) :
    blockUnlocked s1 p.session.toNat block = blockUnlocked s p.session.toNat block := by
  obtain ⟨rest, x, y, hx, hy, hxy⟩ := h
  have now : s1.now = s.now := by rw [rest]
  have unlocked : y.unlocked = x.unlocked := by rw [hxy]
  simp only [Machine.blockUnlocked, hx, hy, now, unlockedBy, unlocked]

theorem Admitted.checkAll {p : Request} {s s1 : State} (h : Admitted p s s1) (l : List RegWrite) :
    checkAll s1 p.session.toNat l = checkAll s p.session.toNat l := by
  have locks := h.blockUnlocked
  rw [h.1] at locks ⊢
  exact checkAll_of_pk locks l

theorem Admitted.checkReads {p : Request} {s s1 : State} (h : Admitted p s s1) (l : List Nat) : checkReads s1 l = checkReads s l :=
  h.keeps (fun u => Machine.checkReads u l) fun _ _ _ => checkReads_of_pk s _ l

/-! ### Reads and writes in a row -/

theorem readReg_regs (a : Nat) (s : State) : (readReg a s).2.regs = s.regs := by
  unfold readReg
  dsimp only
  split <;> rfl

theorem readAll_regs : ∀ (l : List Nat) (s : State), (readAll l s).2.regs = s.regs
  | [], _ => rfl
  | a :: l, s => (readAll_regs l _).trans (readReg_regs a s)

theorem readAll_length : ∀ (l : List Nat) (s : State), (readAll l s).1.length = 4 * l.length
  | [], _ => rfl
  | a :: l, s => by
    have rest := readAll_length l (readReg a s).2
    simp only [readAll, List.length_append, leBytes_length, rest, List.length_cons]
    omega

/-- After the first word of a row. -/
theorem drop_word {a b : Bytes} (ha : a.length = 4) (k : Nat) : (a ++ b).drop (4 * (k + 1)) = b.drop (4 * k) := by
  rw [show 4 * (k + 1) = a.length + 4 * k from by omega, ← List.drop_drop, List.drop_left]

theorem readReg_fst (a : Nat) (s : State) : (readReg a s).1 = readWord s a := rfl

theorem readAll_cons (a : Nat) (l : List Nat) (s : State) :
    readAll (a :: l) s = (leBytes 4 (readWord s a) ++ (readAll l (readReg a s).2).1, (readAll l (readReg a s).2).2) := rfl

/-- The word at a place of a read in a row is what its register reads after those before it. -/
theorem readAll_word (l : List Nat) : ∀ (s : State) (k : Nat), k < l.length →
    ((readAll l s).1.drop (4 * k)).take 4 = leBytes 4 (readWord (readAll (l.take k) s).2 (nth l k 0)) := by
  induction l with
  | nil => exact fun _ _ h => absurd h (Nat.not_lt_zero _)
  | cons a l ih =>
    intro s k h
    cases k with
    | zero => simp [nth, readAll, readReg_fst]
    | succ k =>
      rw [readAll_cons, drop_word (leBytes_length _ _), ih _ _ (Nat.lt_of_succ_lt_succ h)]
      rfl

theorem modifyOld_length (s : State) : ∀ (l before : List RegWrite), (modifyOld s before l).length = 4 * l.length
  | [], _ => rfl
  | w :: l, before => by
    simp only [modifyOld, List.length_append, leBytes_length, modifyOld_length s l, List.length_cons]
    omega

/-- The old word at a place of a modification in a row is what its register reads after those before it. -/
theorem modifyOld_word (s : State) (l : List RegWrite) : ∀ (before : List RegWrite) (k : Nat) (w : RegWrite), l[k]? = some w →
    ((modifyOld s before l).drop (4 * k)).take 4 = leBytes 4 (readWord (writeAll (before ++ l.take k) s) w.addr) := by
  induction l with
  | nil => exact fun _ _ _ h => by simp at h
  | cons v l ih =>
    intro before k w h
    cases k with
    | zero =>
      obtain rfl : v = w := by simpa using h
      simp [modifyOld]
    | succ k =>
      rw [modifyOld, drop_word (leBytes_length _ _), ih _ _ w (by simpa using h)]
      simp

@[simp] theorem regAddrs_length (size : Nat) (ps : Bytes) : (regAddrs size ps).length = fieldAt ps 0 2 := by simp [regAddrs]
@[simp] theorem regModifies_length (ps : Bytes) : (regModifies ps).length = fieldAt ps 0 2 := by simp [regModifies]

/-! ### One register write -/

/-- What is merged from a word and a value of so many bits has no more. -/
theorem mergeBits_lt : ∀ {n old mask value : Nat}, old < 2 ^ n → value < 2 ^ n → mergeBits old mask value < 2 ^ n
  | 0, old, mask, value, ho, hv => by
    obtain rfl : old = 0 := by simpa using ho
    obtain rfl : value = 0 := by simpa using hv
    simp [mergeBits]
  | n + 1, old, mask, value, ho, hv => by
    have half := mergeBits_lt (n := n) (old := old / 2) (mask := mask / 2) (value := value / 2) (by omega) (by omega)
    have kept : (old &&& mask) / 2 = old / 2 &&& mask / 2 := Nat.and_div_two
    have given : (value &&& mask) / 2 = value / 2 &&& mask / 2 := Nat.and_div_two
    have keptLow : (old &&& mask) % 2 = 1 ↔ old % 2 = 1 ∧ mask % 2 = 1 := Nat.and_mod_two_eq_one
    have givenLow : (value &&& mask) % 2 = 1 ↔ value % 2 = 1 ∧ mask % 2 = 1 := Nat.and_mod_two_eq_one
    have le : old &&& mask ≤ old := Nat.and_le_left
    change old - (old &&& mask) + (value &&& mask) < 2 ^ (n + 1)
    change old / 2 - (old / 2 &&& mask / 2) + (value / 2 &&& mask / 2) < 2 ^ n at half
    rw [← kept, ← given] at half
    omega

@[simp] theorem mergeBits_zero (old value : Nat) : mergeBits old 0 value = old := by
  change old - (old &&& 0) + (value &&& 0) = old
  simp

/-- The bits that a write clears. -/
def clearedBits (w : RegWrite) : Nat := Nat.land (maskIn w .W1C) w.value

/-- The bits that a write sets to its value. -/
def writtenBits (w : RegWrite) : Nat := Nat.lor (Nat.lor (maskIn w .RW) (maskIn w .RWL)) (maskIn w .WO)

theorem writeClear_reg {w : RegWrite} {s : State} (hs : s.regsWf = true) :
    (writeClear w s).reg w.addr = s.reg w.addr - Nat.land (s.reg w.addr) (clearedBits w) := by
  unfold writeClear
  dsimp only
  split
  next zero =>
    rw [clearedBits, zero]
    exact (congrArg (s.reg w.addr - ·) (Nat.and_zero _)).symm
  · rw [State.reg_setReg_same _ _ _ hs, Nat.mod_eq_of_lt (lt_of_le_of_lt (Nat.sub_le _ _) (State.reg_lt s _))]
    rfl

theorem writeClear_kept (w : RegWrite) (s : State) : RegsKept [w.addr] s (writeClear w s) := by
  intro a ha
  unfold writeClear
  dsimp only
  split
  · rfl
  · exact State.reg_setReg_ne _ _ _ _ (by simpa using ha)

theorem writeClear_regsWf {w : RegWrite} {s : State} (hs : s.regsWf = true) : (writeClear w s).regsWf = true := by
  unfold writeClear
  dsimp only
  split
  · exact hs
  · exact State.regsWf_setReg _ _ _ hs

theorem writeImage_of_none {w : RegWrite} {s : State} (h : maskIn w .RWS = 0) : writeImage w s = s := by simp [writeImage, h]

/-- A register whose write starts nothing takes the bits that the write sets. -/
theorem writeNow_of_plain {w : RegWrite} {s : State} (plain : plainRegister w.addr = true) :
    writeNow w s = if writtenBits w = 0 then s else s.setReg w.addr (mergeBits (s.reg w.addr) (writtenBits w) w.value) := by
  simp only [plainRegister, Bool.and_eq_true, Option.isNone_iff_eq_none, bne_iff_ne] at plain
  obtain ⟨⟨⟨⟨⟨gain, gate⟩, pps⟩, load⟩, loop_⟩, dma⟩ := plain
  simp only [writeNow, gain, gate, pps, load, loop_, dma, if_false]
  rfl

theorem writeNow_reg {w : RegWrite} {s : State} (plain : plainRegister w.addr = true) (hs : s.regsWf = true) (value : w.value < 2 ^ 32) :
    (writeNow w s).reg w.addr = mergeBits (s.reg w.addr) (writtenBits w) w.value := by
  rw [writeNow_of_plain plain]
  split
  next zero => rw [zero, mergeBits_zero]
  · rw [State.reg_setReg_same _ _ _ hs, Nat.mod_eq_of_lt (mergeBits_lt (State.reg_lt s _) value)]

theorem writeNow_kept {w : RegWrite} {s : State} (plain : plainRegister w.addr = true) : RegsKept [w.addr] s (writeNow w s) := by
  intro a ha
  rw [writeNow_of_plain plain]
  split
  · rfl
  · exact State.reg_setReg_ne _ _ _ _ (by simpa using ha)

/-- A write to a plain register clears and sets the bits that its masks say, and leaves the other registers. -/
theorem writeOne_of_plain {w : RegWrite} {s : State} (hs : s.regsWf = true) (plain : plainRegister w.addr = true) (value : w.value < 2 ^ 32)
    (noImage : maskIn w .RWS = 0) :
    (writeOne w s).reg w.addr = mergeBits (s.reg w.addr - Nat.land (s.reg w.addr) (clearedBits w)) (writtenBits w) w.value ∧
      RegsKept [w.addr] s (writeOne w s) := by
  simp only [writeOne, writeImage_of_none noImage]
  refine ⟨?_, fun a ha => ?_⟩
  · rw [writeNow_reg plain (writeClear_regsWf hs) value, writeClear_reg hs]
  · rw [writeNow_kept plain a ha, writeClear_kept w s a ha]

/-- A write has no bits of an access code that its register has no field of. -/
theorem maskIn_of_none {w : RegWrite} {c : Access} (h : regMask (fun x => x == c) w.addr = 0) : maskIn w c = 0 := by
  rw [maskIn, h]
  exact Nat.and_zero _

/-- EVT_MASK takes the masked bits of its value (R716). -/
theorem writeOne_evtMask {s : State} {mask v : Nat} (hs : s.regsWf = true) (hm : mask < 2 ^ 32) (hv : v < 2 ^ 32) :
    (writeOne { addr := Reg.EVT_MASK 0, mask := mask, value := v } s).reg (Reg.EVT_MASK 0) = mergeBits (s.reg (Reg.EVT_MASK 0)) mask v ∧
      RegsKept [Reg.EVT_MASK 0] s (writeOne { addr := Reg.EVT_MASK 0, mask := mask, value := v } s) := by
  have none_ : ∀ c, regMask (fun x => x == c) (Reg.EVT_MASK 0) = 0 → maskIn { addr := Reg.EVT_MASK 0, mask := mask, value := v } c = 0 :=
    fun _ h => maskIn_of_none h
  have all : maskIn { addr := Reg.EVT_MASK 0, mask := mask, value := v } .RW = mask := by
    rw [maskIn, show regMask (fun x => x == .RW) (Reg.EVT_MASK 0) = 2 ^ 32 - 1 from by decide]
    exact Nat.and_two_pow_sub_one_of_lt_two_pow hm
  have cleared : clearedBits { addr := Reg.EVT_MASK 0, mask := mask, value := v } = 0 := by
    rw [clearedBits, none_ .W1C (by decide)]
    exact Nat.zero_and _
  have written : writtenBits { addr := Reg.EVT_MASK 0, mask := mask, value := v } = mask := by
    rw [writtenBits, all, none_ .RWL (by decide), none_ .WO (by decide)]
    exact (Nat.or_zero _).trans (Nat.or_zero _)
  obtain ⟨read, kept⟩ := writeOne_of_plain (w := { addr := Reg.EVT_MASK 0, mask := mask, value := v }) hs (rfl : plainRegister _ = true) hv
    (none_ .RWS (by decide))
  refine ⟨read.trans ?_, kept⟩
  rw [cleared, written]
  exact congrArg (mergeBits · mask v) (congrArg (s.reg (Reg.EVT_MASK 0) - ·) (Nat.and_zero _))

/-- The flags of CFG_EVT that are written as 1 read 0 (R26). -/
theorem writeOne_cfgEvt {s : State} {mask v : Nat} (hs : s.regsWf = true) (hv : v < 2 ^ 32) :
    (writeOne { addr := Reg.CFG_EVT, mask := mask, value := v } s).reg Reg.CFG_EVT =
      s.reg Reg.CFG_EVT - Nat.land (s.reg Reg.CFG_EVT) (Nat.land (Nat.land mask (regMask (fun x => x == .W1C) Reg.CFG_EVT)) v) := by
  have none_ : ∀ c, regMask (fun x => x == c) Reg.CFG_EVT = 0 → maskIn { addr := Reg.CFG_EVT, mask := mask, value := v } c = 0 :=
    fun _ h => maskIn_of_none h
  have written : writtenBits { addr := Reg.CFG_EVT, mask := mask, value := v } = 0 := by
    rw [writtenBits, none_ .RW (by decide), none_ .RWL (by decide), none_ .WO (by decide)]
    rfl
  obtain ⟨read, -⟩ := writeOne_of_plain (w := { addr := Reg.CFG_EVT, mask := mask, value := v }) hs (rfl : plainRegister _ = true) hv (none_ .RWS (by decide))
  rw [read, written, mergeBits_zero]
  rfl

/-! ### Tables and locks -/

theorem tableBytes_of_pk (s : State) (k : PacketPart) (id : Nat) (siding : Bool) :
    tableBytes { s with pk := k } id siding = tableBytes s id siding := rfl

/-- A read of a table within its bounds. -/
theorem runTableRead_of_bounds {p : Request} {s : State} {size total : Nat} {b : Bytes}
    (shape : tableOf (fieldAt p.params 0 2) = some (size, total)) (set : fieldAt p.params 2 1 ≤ 1 ∨ tableKind (fieldAt p.params 0 2) = 0x0B)
    (len : fieldAt p.params 6 2 * size ≤ 1400) (last : fieldAt p.params 4 2 + fieldAt p.params 6 2 ≤ total)
    (bytes : tableBytes s (fieldAt p.params 0 2) (fieldAt p.params 2 1 = 1) = some b) :
    runTableRead p s =
      let there := (b.drop (fieldAt p.params 4 2 * size)).take (fieldAt p.params 6 2 * size)
      ok s (there ++ List.replicate (fieldAt p.params 6 2 * size - there.length) (tableFill (fieldAt p.params 0 2))) := by
  have noParam : ¬ (fieldAt p.params 2 1 > 1 ∧ tableKind (fieldAt p.params 0 2) ≠ 0x0B) := by omega
  have noLength : ¬ (fieldAt p.params 6 2 * size > 1400 ∨ fieldAt p.params 4 2 + fieldAt p.params 6 2 > total) := by omega
  simp only [runTableRead, shape, noParam, noLength, bytes, if_false]

/-- A write of a table of the siding set within its bounds. -/
theorem runTableWrite_of_siding {p : Request} {s : State} {size total : Nat} {c : Container}
    (shape : tableOf (fieldAt p.params 0 2) = some (size, total)) (set : fieldAt p.params 2 1 = 1)
    (limp : tableKind (fieldAt p.params 0 2) ≠ 3) (retired : tableKind (fieldAt p.params 0 2) ≠ 0x0B)
    (len : fieldAt p.params 6 2 * size ≤ 1392) (last : fieldAt p.params 4 2 + fieldAt p.params 6 2 ≤ total)
    (data : (p.params.drop 8).length = fieldAt p.params 6 2 * size) (free : throwBars s = false) (change : sidingForChange s = some c)
    (there : (findSection c (tableKind (fieldAt p.params 0 2)) (tableInst (fieldAt p.params 0 2))).isSome = true) :
    runTableWrite p s =
      ok (putSiding (containerWrite c (tableKind (fieldAt p.params 0 2)) (tableInst (fieldAt p.params 0 2)) (fieldAt p.params 4 2 * size)
        (tableFill (fieldAt p.params 0 2)) (p.params.drop 8)) s) [] := by
  have noLength : ¬ (fieldAt p.params 6 2 * size > 1392 ∨ fieldAt p.params 4 2 + fieldAt p.params 6 2 > total ∨
      (p.params.drop 8).length ≠ fieldAt p.params 6 2 * size) := by omega
  have present := Option.isSome_iff_ne_none.mp there
  have changed : ∀ f, (changeSiding f s).1 = putSiding (f c) s := fun f => by simp [changeSiding, free, change]
  simp only [runTableWrite, shape, noLength, set, change, free, changed, if_false]
  simp [present, limp, retired]

/-- A write of the gain table of an open loop within its bounds. -/
theorem runTableWrite_of_gains {p : Request} {s : State} {size total n : Nat}
    (shape : tableOf (fieldAt p.params 0 2) = some (size, total)) (set : fieldAt p.params 2 1 = 0)
    (kind : tableKind (fieldAt p.params 0 2) = 4) (inst : tableInst (fieldAt p.params 0 2) = n)
    (len : fieldAt p.params 6 2 * size ≤ 1392) (last : fieldAt p.params 4 2 + fieldAt p.params 6 2 ≤ total)
    (data : (p.params.drop 8).length = fieldAt p.params 6 2 * size) (there : (containerTable s.sets.running 4 n).isSome = true)
    (loop_ : loopState s n = lOpen) :
    runTableWrite p s = ok { s with eng := { s.eng with
      gainEdits := putNum s.eng.gainEdits n (putAt (runningGains s n) (fieldAt p.params 4 2 * size) (p.params.drop 8)) } } [] := by
  have noLength : ¬ (fieldAt p.params 6 2 * size > 1392 ∨ fieldAt p.params 4 2 + fieldAt p.params 6 2 > total ∨
      (p.params.drop 8).length ≠ fieldAt p.params 6 2 * size) := by omega
  obtain ⟨b, hb⟩ := Option.isSome_iff_exists.mp there
  have running : setFor s 4 = s.sets.running := by simp [setFor]
  simp only [runTableWrite, shape, noLength, set, kind, inst, running, hb, loop_, if_false]
  simp

theorem findSession_modSession {s : State} {n : Nat} {f : Session → Session} {x : Session} (hx : findSession s n = some x)
    (hf : (f x).num = x.num) : findSession (modSession n f s) n = some (f x) := by
  simp only [modSession, hx]
  exact findSession_putSession s (hf.trans (num_of_findSession hx))

/-- Settles O6: the entries of the opcode table read, write and lock as said; the admission of a request changes nothing that their checks
read. -/
theorem registerAccess : Obligations.RegisterAccess := by
  refine ⟨?_, ?_, ?_, ?_, fun size total => ?_, fun size total c => ?_, fun size total n => ?_, ?_, ?_, fun t a mask v s up good => ?_,
    fun s w hs plain _ value noImage => writeOne_of_plain hs plain value noImage, fun s mask v hs hm hv => writeOne_evtMask hs hm hv,
    fun s mask v hs hv => writeOne_cfgEvt hs hv⟩
  · refine serves_of_run (fun _ _ _ => rfl) rfl fun p s s1 good admitted => ?_
    rw [← admitted.checkReads] at good
    have ran : runRegRead p s1 = ok (readAll (regAddrs 4 p.params) s1).2 (readAll (regAddrs 4 p.params) s1).1 := by simp [runRegRead, good]
    rw [show OpInfo.run _ p s1 = _ from ran]
    refine ⟨rfl, readAll_regs _ s1, by simp [ok, readAll_length], rfl, fun k hk => readAll_word _ s1 k (by simpa using hk)⟩
  · refine serves_of_run (fun _ _ _ => rfl) rfl fun p s s1 good admitted => ?_
    rw [← admitted.checkAll] at good
    simp [runRegWrite, good]
  · refine serves_of_run (fun _ _ _ => rfl) rfl fun p s s1 good admitted => ?_
    rw [← admitted.checkAll] at good
    have ran : runRegModify p s1 = ok (writeAll (regModifies p.params) s1) (modifyOld s1 [] (regModifies p.params)) := by
      simp [runRegModify, good]
    rw [show OpInfo.run _ p s1 = _ from ran]
    exact ⟨rfl, rfl, by simp [ok, modifyOld_length], fun k w _ hw => modifyOld_word s1 _ [] k w hw⟩
  · refine serves_of_run (fun _ _ _ => rfl) rfl fun p s s1 _ _ size count shape => ?_
    simp [runTableInfo, shape]
  · refine serves_of_run (fun _ _ _ => rfl) rfl fun p s s1 ⟨shape, set, len, last, there⟩ admitted => ?_
    have same : tableBytes s1 (fieldAt p.params 0 2) (fieldAt p.params 2 1 = 1) = tableBytes s (fieldAt p.params 0 2) (fieldAt p.params 2 1 = 1) :=
      admitted.keeps (fun u => tableBytes u (fieldAt p.params 0 2) (fieldAt p.params 2 1 = 1)) fun _ _ _ => rfl
    obtain ⟨b, hb⟩ := Option.isSome_iff_exists.mp (same ▸ there)
    have ran := runTableRead_of_bounds (s := s1) shape set len last hb
    rw [show OpInfo.run _ p s1 = _ from ran]
    refine ⟨by simp [ok], fun b' hb' => ?_⟩
    obtain rfl : b = b' := by simpa [hb] using hb'
    rfl
  · refine serves_of_run (fun _ _ _ => rfl) rfl fun p s s1 ⟨shape, set, limp, retired, len, last, data, free, change, there⟩ admitted => ?_
    exact runTableWrite_of_siding shape set limp retired len last data ((admitted.keeps throwBars fun _ _ _ => rfl).trans free)
      ((admitted.keeps sidingForChange fun _ _ _ => rfl).trans change) there
  · refine serves_of_run (fun _ _ _ => rfl) rfl fun p s s1 ⟨shape, set, kind, inst, len, last, data, there, loop_⟩ admitted => ?_
    exact runTableWrite_of_gains shape set kind inst len last data
      ((admitted.keeps (fun u => (containerTable u.sets.running 4 n).isSome) fun _ _ _ => rfl).trans there)
      ((admitted.keeps (fun u => loopState u n) fun _ _ _ => rfl).trans loop_)
  · refine serves_of_run (fun _ _ _ => rfl) rfl fun p s s1 half admitted => ?_
    obtain ⟨-, x, y, -, found, -⟩ := admitted
    have block : blockHalf (fieldAt p.params 0 2) = true := by simpa [blockHalf] using half
    simp only [runBlockUnlock, block]
    refine ⟨rfl, rfl, _, findSession_modSession found rfl, fun now => ?_⟩
    simp [ok, unlockedBy, tUnlock, List.any_filter]
  · refine serves_of_run (fun _ _ _ => rfl) rfl fun p s s1 half admitted => ?_
    obtain ⟨-, x, y, -, found, -⟩ := admitted
    have block : blockHalf (fieldAt p.params 0 2) = true := by simpa [blockHalf] using half
    simp only [runBlockLock, block]
    refine ⟨rfl, _, findSession_modSession found rfl, fun now => ?_⟩
    simp only [unlockedBy, List.any_filter, List.any_eq_false]
    simp
    exact fun _ _ _ other same => absurd same other
  · have stands : (if regOnSignal a.toNat then (begin_ t s).die.sigUp else (begin_ t s).die.yardUp) = true := by simpa using up
    simp only [exec, execRegisterWrite, stands, good]
    rfl

end Sys2Proof.Machine
end

section
/-!
SUPPORT. Footprints: which registers and which parts of the state an operation may change. Every operation may raise events; what that
changes is no part of a footprint, and a raised flag stands.
-/

namespace Sys2Proof.Machine

/-- A register of event flags (R711). -/
def flagReg (a : Nat) : Bool := sourceTable.any (fun e => e.2.1 == a)

/-- A part of the state. Raises may change the event latch, the sessions and the running orders: the parts log, packets and sets are what
remains beside them. -/
inductive Part where
  | now
  | devOff
  | steer
  | hiLatch
  | out
  | drawn
  | log
  | packets
  | role
  | die
  | sets
  | line
  | load
  | inp
  | eng
  | fus
  | fn
  | nav
  | yld
  | cst
  | clk
  | lvl
  | dma
  | can
  | pwr
  | upd
  deriving DecidableEq

/-- A part is the same in two states. -/
def Part.Same : Part → State → State → Prop
  | .now, s, t => t.now = s.now
  | .devOff, s, t => t.devOff = s.devOff
  | .steer, s, t => t.steer = s.steer
  | .hiLatch, s, t => t.hiLatch = s.hiLatch
  | .out, s, t => t.out = s.out
  | .drawn, s, t => t.drawn = s.drawn
  | .log, s, t => t.ev = { s.ev with latch := t.ev.latch }
  | .packets, s, t => t.pk = { s.pk with sessions := t.pk.sessions }
  | .role, s, t => t.role = s.role
  | .die, s, t => t.die = s.die
  | .sets, s, t => t.sets = { s.sets with orders := t.sets.orders }
  | .line, s, t => t.line = s.line
  | .load, s, t => t.load = s.load
  | .inp, s, t => t.inp = s.inp
  | .eng, s, t => t.eng = s.eng
  | .fus, s, t => t.fus = s.fus
  | .fn, s, t => t.fn = s.fn
  | .nav, s, t => t.nav = s.nav
  | .yld, s, t => t.yld = s.yld
  | .cst, s, t => t.cst = s.cst
  | .clk, s, t => t.clk = s.clk
  | .lvl, s, t => t.lvl = s.lvl
  | .dma, s, t => t.dma = s.dma
  | .can, s, t => t.can = s.can
  | .pwr, s, t => t.pwr = s.pwr
  | .upd, s, t => t.upd = s.upd

/-- What an operation may change: registers and parts. -/
structure Footprint where
  reg : Nat → Bool
  parts : List Part

/-- A register that an operation of a footprint, or a raise, may write. -/
def Footprint.touches (w : Footprint) (a : Nat) : Bool := eventPlace a || flagReg a || w.reg a

/-- The register of a source's flag is one that an operation of a footprint may write. -/
def Footprint.flagsOf (w : Footprint) (src : Nat) : Bool := (sourceFlag src).any (fun f => w.reg f.addr)

/-- The state u differs from b at most by a footprint and by raises. -/
structure Within (w : Footprint) (b u : State) : Prop where
  wf : b.regsWf = true → u.regsWf = true
  reg : ∀ a, w.touches a = false → u.reg a = b.reg a
  flags : b.regsWf = true → ∀ src, w.flagsOf src = false → Flagged src b → Flagged src u
  part : ∀ p, p ∉ w.parts → p.Same b u

theorem Part.Same.refl (p : Part) (s : State) : p.Same s s := by cases p <;> rfl

theorem Part.Same.trans {p : Part} {s t u : State} (h : p.Same s t) (k : p.Same t u) : p.Same s u := by
  cases p with
  | log | packets | sets =>
    simp only [Part.Same] at h k ⊢
    rw [k, h]
  | _ => exact Eq.trans k h

section
variable {w : Footprint} {b s t : State}

theorem Within.refl : Within w b b := ⟨id, fun _ _ => rfl, fun _ _ _ => id, fun p _ => .refl p b⟩

theorem Within.trans (h : Within w b s) (k : Within w s t) : Within w b t where
  wf wf := k.wf (h.wf wf)
  reg a ha := (k.reg a ha).trans (h.reg a ha)
  flags wf src free raised := k.flags (h.wf wf) src free (h.flags wf src free raised)
  part p hp := (h.part p hp).trans (k.part p hp)

/-- A footprint may grow. -/
theorem Within.mono {v : Footprint} (h : Within v b s) (reg : ∀ a, v.reg a = true → w.reg a = true) (parts : v.parts ⊆ w.parts) :
    Within w b s where
  wf := h.wf
  reg a ha := h.reg a (by
    simp only [Footprint.touches, Bool.or_eq_false_iff] at ha ⊢
    refine ⟨ha.1, ?_⟩
    cases hv : v.reg a
    · rfl
    · rw [reg a hv] at ha
      exact absurd ha.2 (by decide))
  flags wf src free := h.flags wf src (by
    cases hf : sourceFlag src with
    | none => simp [Footprint.flagsOf, hf]
    | some f =>
      have other : w.reg f.addr = false := by simpa [Footprint.flagsOf, hf] using free
      cases hv : v.reg f.addr
      · simp [Footprint.flagsOf, hf, hv]
      · rw [reg _ hv] at other
        exact absurd other (by decide))
  part p hp := h.part p (fun mem => hp (parts mem))

/-- A field that the footprint does not touch reads as before. -/
theorem Within.get (h : Within w b s) {f : Fld} (hf : w.touches f.addr = false) : s.get f = b.get f := by
  simp only [State.get, h.reg f.addr hf]

theorem Within.flag (h : Within w b s) {f : Fld} (hf : w.touches f.addr = false) : s.flag f = b.flag f := by
  simp only [State.flag, h.get hf]

theorem Within.bit (h : Within w b s) {f : Fld} {i : Nat} (hf : w.touches f.addr = false) : s.bit f i = b.bit f i := by
  simp only [State.bit, h.get hf]

theorem flagReg_of_sourceFlag {src : Nat} {f : Fld} (h : sourceFlag src = some f) : flagReg f.addr = true := by
  unfold sourceFlag at h
  split at h
  · simp at h
  next e he =>
    obtain rfl := Option.some.inj h
    exact List.any_eq_true.mpr ⟨e, List.mem_of_find?_eq_some he, by simp⟩

/-- A change of other registers leaves a flag. -/
theorem flagged_of_reg {src : Nat} (h : ∀ f, sourceFlag src = some f → t.reg f.addr = s.reg f.addr) (hs : Flagged src s) : Flagged src t := by
  obtain ⟨f, hf, raised⟩ := hs
  refine ⟨f, hf, ?_⟩
  simpa only [State.flag, State.get, h f hf] using raised

/-- A register of the footprint is written. -/
theorem setReg_within (h : Within w b s) {a v : Nat} (ha : w.reg a = true) : Within w b (s.setReg a v) :=
  h.trans {
    wf := State.regsWf_setReg s a v
    reg := fun c hc => State.reg_setReg_ne s a c v (fun e => by simp [Footprint.touches, e, ha] at hc)
    flags := fun _ src free raised => flagged_of_reg (fun f hf => State.reg_setReg_ne s a f.addr v (fun e => by
      simp [Footprint.flagsOf, hf, e, ha] at free)) raised
    part := fun p _ => by cases p <;> rfl }

/-- A field of the footprint is written. -/
theorem put_within (h : Within w b s) {f : Fld} {v : Nat} (hf : w.reg f.addr = true) : Within w b (s.put f v) := setReg_within h hf

theorem puts_within (h : Within w b s) {f : Fld} {v : Int} (hf : w.reg f.addr = true) : Within w b (s.puts f v) := setReg_within h hf

theorem bump_within (h : Within w b s) {f : Fld} {n : Nat} (hf : w.reg f.addr = true) : Within w b (s.bump f n) := setReg_within h hf

/-- The flags of two sources are the same or share no bit, and each is one bit of its register. -/
theorem sourceFlag_fits {src : Nat} {f : Fld} (h : sourceFlag src = some f) : f.fits = true ∧ f.width = 1 := by
  have small : ∀ e ∈ sourceTable, e.2.2 ≤ 32 := by decide
  unfold sourceFlag at h
  split at h
  · simp at h
  next e he =>
    obtain rfl := Option.some.inj h
    have inTable := small e (List.mem_of_find?_eq_some he)
    have inRange := List.find?_some he
    simp only [Bool.and_eq_true, decide_eq_true_eq] at inRange
    exact ⟨by simp [Fld.fits]; omega, rfl⟩

theorem sourceFlag_eq_or_apart {src other : Nat} {f g : Fld} (hf : sourceFlag src = some f) (hg : sourceFlag other = some g) :
    f = g ∨ f.apart g = true := by
  obtain ⟨fits, one⟩ := sourceFlag_fits hf
  obtain ⟨-, one'⟩ := sourceFlag_fits hg
  obtain ⟨a, l, w⟩ := f
  obtain ⟨a', l', w'⟩ := g
  obtain rfl : w = 1 := one
  obtain rfl : w' = 1 := one'
  by_cases addr : a = a'
  · by_cases lo : l = l'
    · exact .inl (by rw [addr, lo])
    · refine .inr ?_
      simp [Fld.apart, fits]
      omega
  · exact .inr (by simp [Fld.apart, fits, addr])

/-- A flag that is set stays set. -/
theorem flagged_setFlag {src other : Nat} (hs : s.regsWf = true) (h : Flagged other s) : Flagged other (setFlag src s) := by
  unfold setFlag
  split
  · exact h
  next f hf =>
    obtain ⟨g, hg, raised⟩ := h
    refine ⟨g, hg, ?_⟩
    obtain rfl | apart := sourceFlag_eq_or_apart hf hg
    · have one : (s.put f 1).get f = 1 := by
        rw [State.get_put_mod (sourceFlag_fits hf).1 hs, (sourceFlag_fits hf).2]
        rfl
      simp [State.flag, one]
    · rw [State.flag, State.get_put_of_apart apart hs]
      exact raised

theorem not_eventPlace_of_flagReg {a : Nat} (h : flagReg a = true) : eventPlace a = false := by
  have apart : ∀ e ∈ sourceTable, eventPlace e.2.1 = false := by decide
  obtain ⟨e, mem, rfl⟩ : ∃ e ∈ sourceTable, e.2.1 = a := by simpa [flagReg] using h
  exact apart e mem

theorem flagged_raiseOnce {src detail arg other : Nat} (hs : s.regsWf = true) (h : Flagged other s) :
    Flagged other (raiseOnce src detail arg s).1 := by
  unfold raiseOnce
  refine flagged_of_reg (fun f hf => ?_) (flagged_setFlag (src := src) hs h)
  obtain ⟨h1, h2, h3, h4⟩ := ne_of_not_eventPlace (not_eventPlace_of_flagReg (flagReg_of_sourceFlag hf))
  rw [routeEvent_reg _ _ _ h1 h2 h3 h4, reg_of_regs (triggerOrders_regs _ _)]

theorem flagged_of_raiseArg {src detail arg other : Nat} (hs : s.regsWf = true) (h : Flagged other s) :
    Flagged other (raiseArg src detail arg s) := by
  unfold raiseArg
  cases hr : raiseOnce src detail arg s with
  | mk t l =>
    have ht : Flagged other t := by simpa [hr] using flagged_raiseOnce (src := src) (detail := detail) (arg := arg) hs h
    have wf : t.regsWf = true := by simpa [hr] using raiseOnce_regsWf src detail arg s hs
    dsimp only
    split
    · exact ht
    · exact flagged_raiseOnce wf ht

/-- A source is raised. -/
theorem raiseArg_within (h : Within w b s) {src detail arg : Nat} : Within w b (raiseArg src detail arg s) :=
  h.trans {
    wf := raiseArg_regsWf src detail arg s
    reg := fun a ha => by
      simp only [Footprint.touches, Bool.or_eq_false_iff] at ha
      obtain ⟨⟨place, flags⟩, -⟩ := ha
      have apart : ∀ other, (sourceFlag other).all (fun f => f.addr != a) = true := fun other => by
        cases hf : sourceFlag other with
        | none => rfl
        | some f =>
          have := flagReg_of_sourceFlag hf
          simp only [Option.all_some, bne_iff_ne]
          rintro rfl
          rw [this] at flags
          exact absurd flags (by decide)
      exact reg_raiseArg (by simp [quietReg, place, apart])
    flags := fun wf _ _ raised => flagged_of_raiseArg wf raised
    part := fun p _ => by
      have same := raiseArg_same src detail arg s
      cases p with
      | log => exact same.ev
      | packets => exact same.pk
      | sets => exact same.sets
      | now => exact same.now
      | devOff => exact same.devOff
      | steer => exact same.steer
      | hiLatch => exact same.hiLatch
      | out => exact same.out
      | drawn => exact same.drawn
      | role => exact same.role
      | die => exact same.die
      | line => exact same.line
      | load => exact same.load
      | inp => exact same.inp
      | eng => exact same.eng
      | fus => exact same.fus
      | fn => exact same.fn
      | nav => exact same.nav
      | yld => exact same.yld
      | cst => exact same.cst
      | clk => exact same.clk
      | lvl => exact same.lvl
      | dma => exact same.dma
      | can => exact same.can
      | pwr => exact same.pwr
      | upd => exact same.upd }

theorem raise_within (h : Within w b s) {src detail : Nat} : Within w b (raise src detail s) := raiseArg_within h
theorem raise0_within (h : Within w b s) {src : Nat} : Within w b (raise0 src s) := raiseArg_within h

/-! ### Parts of the footprint change -/

theorem ev_within (h : Within w b s) {x : EventPart} (hp : .log ∈ w.parts) : Within w b { s with ev := x } :=
  h.trans ⟨id, fun _ _ => rfl, fun _ _ _ raised => (flagged_of_regs rfl).mpr raised, fun q hq => by
    cases q with
    | log => exact absurd hp hq
    | _ => rfl⟩

theorem pk_within (h : Within w b s) {x : PacketPart} (hp : .packets ∈ w.parts) : Within w b { s with pk := x } :=
  h.trans ⟨id, fun _ _ => rfl, fun _ _ _ raised => (flagged_of_regs rfl).mpr raised, fun q hq => by
    cases q with
    | packets => exact absurd hp hq
    | _ => rfl⟩

theorem die_within (h : Within w b s) {x : DiePart} (hp : .die ∈ w.parts) : Within w b { s with die := x } :=
  h.trans ⟨id, fun _ _ => rfl, fun _ _ _ raised => (flagged_of_regs rfl).mpr raised, fun q hq => by
    cases q with
    | die => exact absurd hp hq
    | _ => rfl⟩

theorem role_within (h : Within w b s) {x : RolePart} (hp : .role ∈ w.parts) : Within w b { s with role := x } :=
  h.trans ⟨id, fun _ _ => rfl, fun _ _ _ raised => (flagged_of_regs rfl).mpr raised, fun q hq => by
    cases q with
    | role => exact absurd hp hq
    | _ => rfl⟩

theorem sets_within (h : Within w b s) {x : SetPart} (hp : .sets ∈ w.parts) : Within w b { s with sets := x } :=
  h.trans ⟨id, fun _ _ => rfl, fun _ _ _ raised => (flagged_of_regs rfl).mpr raised, fun q hq => by
    cases q with
    | sets => exact absurd hp hq
    | _ => rfl⟩

theorem line_within (h : Within w b s) {x : LinePart} (hp : .line ∈ w.parts) : Within w b { s with line := x } :=
  h.trans ⟨id, fun _ _ => rfl, fun _ _ _ raised => (flagged_of_regs rfl).mpr raised, fun q hq => by
    cases q with
    | line => exact absurd hp hq
    | _ => rfl⟩

theorem load_within (h : Within w b s) {x : LoadPart} (hp : .load ∈ w.parts) : Within w b { s with load := x } :=
  h.trans ⟨id, fun _ _ => rfl, fun _ _ _ raised => (flagged_of_regs rfl).mpr raised, fun q hq => by
    cases q with
    | load => exact absurd hp hq
    | _ => rfl⟩

theorem inp_within (h : Within w b s) {x : InputPart} (hp : .inp ∈ w.parts) : Within w b { s with inp := x } :=
  h.trans ⟨id, fun _ _ => rfl, fun _ _ _ raised => (flagged_of_regs rfl).mpr raised, fun q hq => by
    cases q with
    | inp => exact absurd hp hq
    | _ => rfl⟩

theorem eng_within (h : Within w b s) {x : EnginePart} (hp : .eng ∈ w.parts) : Within w b { s with eng := x } :=
  h.trans ⟨id, fun _ _ => rfl, fun _ _ _ raised => (flagged_of_regs rfl).mpr raised, fun q hq => by
    cases q with
    | eng => exact absurd hp hq
    | _ => rfl⟩

theorem fus_within (h : Within w b s) {x : FusionPart} (hp : .fus ∈ w.parts) : Within w b { s with fus := x } :=
  h.trans ⟨id, fun _ _ => rfl, fun _ _ _ raised => (flagged_of_regs rfl).mpr raised, fun q hq => by
    cases q with
    | fus => exact absurd hp hq
    | _ => rfl⟩

theorem fn_within (h : Within w b s) {x : SettingPart} (hp : .fn ∈ w.parts) : Within w b { s with fn := x } :=
  h.trans ⟨id, fun _ _ => rfl, fun _ _ _ raised => (flagged_of_regs rfl).mpr raised, fun q hq => by
    cases q with
    | fn => exact absurd hp hq
    | _ => rfl⟩

theorem nav_within (h : Within w b s) {x : NavPart} (hp : .nav ∈ w.parts) : Within w b { s with nav := x } :=
  h.trans ⟨id, fun _ _ => rfl, fun _ _ _ raised => (flagged_of_regs rfl).mpr raised, fun q hq => by
    cases q with
    | nav => exact absurd hp hq
    | _ => rfl⟩

theorem yld_within (h : Within w b s) {x : YieldPart} (hp : .yld ∈ w.parts) : Within w b { s with yld := x } :=
  h.trans ⟨id, fun _ _ => rfl, fun _ _ _ raised => (flagged_of_regs rfl).mpr raised, fun q hq => by
    cases q with
    | yld => exact absurd hp hq
    | _ => rfl⟩

theorem cst_within (h : Within w b s) {x : ConsistPart} (hp : .cst ∈ w.parts) : Within w b { s with cst := x } :=
  h.trans ⟨id, fun _ _ => rfl, fun _ _ _ raised => (flagged_of_regs rfl).mpr raised, fun q hq => by
    cases q with
    | cst => exact absurd hp hq
    | _ => rfl⟩

theorem clk_within (h : Within w b s) {x : ClockPart} (hp : .clk ∈ w.parts) : Within w b { s with clk := x } :=
  h.trans ⟨id, fun _ _ => rfl, fun _ _ _ raised => (flagged_of_regs rfl).mpr raised, fun q hq => by
    cases q with
    | clk => exact absurd hp hq
    | _ => rfl⟩

theorem lvl_within (h : Within w b s) {x : LevelPart} (hp : .lvl ∈ w.parts) : Within w b { s with lvl := x } :=
  h.trans ⟨id, fun _ _ => rfl, fun _ _ _ raised => (flagged_of_regs rfl).mpr raised, fun q hq => by
    cases q with
    | lvl => exact absurd hp hq
    | _ => rfl⟩

theorem dma_within (h : Within w b s) {x : DmaPart} (hp : .dma ∈ w.parts) : Within w b { s with dma := x } :=
  h.trans ⟨id, fun _ _ => rfl, fun _ _ _ raised => (flagged_of_regs rfl).mpr raised, fun q hq => by
    cases q with
    | dma => exact absurd hp hq
    | _ => rfl⟩

theorem can_within (h : Within w b s) {x : CanPart} (hp : .can ∈ w.parts) : Within w b { s with can := x } :=
  h.trans ⟨id, fun _ _ => rfl, fun _ _ _ raised => (flagged_of_regs rfl).mpr raised, fun q hq => by
    cases q with
    | can => exact absurd hp hq
    | _ => rfl⟩

theorem pwr_within (h : Within w b s) {x : PowerPart} (hp : .pwr ∈ w.parts) : Within w b { s with pwr := x } :=
  h.trans ⟨id, fun _ _ => rfl, fun _ _ _ raised => (flagged_of_regs rfl).mpr raised, fun q hq => by
    cases q with
    | pwr => exact absurd hp hq
    | _ => rfl⟩

theorem upd_within (h : Within w b s) {x : UpdatePart} (hp : .upd ∈ w.parts) : Within w b { s with upd := x } :=
  h.trans ⟨id, fun _ _ => rfl, fun _ _ _ raised => (flagged_of_regs rfl).mpr raised, fun q hq => by
    cases q with
    | upd => exact absurd hp hq
    | _ => rfl⟩

theorem out_within (h : Within w b s) {x : List Emit} (hp : .out ∈ w.parts) : Within w b { s with out := x } :=
  h.trans ⟨id, fun _ _ => rfl, fun _ _ _ raised => (flagged_of_regs rfl).mpr raised, fun q hq => by
    cases q with
    | out => exact absurd hp hq
    | _ => rfl⟩

theorem drawn_within (h : Within w b s) {x : Nat} (hp : .drawn ∈ w.parts) : Within w b { s with drawn := x } :=
  h.trans ⟨id, fun _ _ => rfl, fun _ _ _ raised => (flagged_of_regs rfl).mpr raised, fun q hq => by
    cases q with
    | drawn => exact absurd hp hq
    | _ => rfl⟩


/-- A fault is logged. -/
theorem fault_within (h : Within w b s) {type cls source detail a0 a1 a2 : Nat} (hp : .log ∈ w.parts) :
    Within w b (fault type cls source detail a0 a1 a2 s) := by
  obtain ⟨r, q, k | k⟩ := fault_cases type cls source detail a0 a1 a2 s
  · rw [k]
    exact ev_within h hp
  · rw [k]
    exact raiseArg_within (ev_within h hp)

/-- A part is retired. -/
theorem retire_within (h : Within w b s) {kind cause index unit : Nat} (hp : .log ∈ w.parts) (hr : w.reg Reg.EVR_RETIRE = true) :
    Within w b (retire kind cause index unit s) := by
  unfold retire
  split
  · exact raise0_within (ev_within h hp)
  · exact fault_within (raise0_within (put_within (ev_within h hp) hr)) hp

/-! ### Registers that raises write -/

/-- The registers below 0xF0110 that a raise may write, by their addresses. -/
def raisePlaces : List Nat :=
  [0x80040, 0xA0010, 0xB0030, 0x40010, 0x30020, 0xC0154, 0xD009C, 0xE0054, 0x1001C, 0x20014, 0x9000C, 0x50F00, 0x6001C, 0x7002C, 0x60018,
    0x90B8C, 0x90B9C]

theorem eventPlace_eq_false {a : Nat} (low : a < 0xF0110) (other : a ∉ raisePlaces) : eventPlace a = false := by
  simp only [raisePlaces, List.mem_cons, List.not_mem_nil, or_false, not_or] at other
  simp only [eventPlace, Reg.EVR_LATCH, Reg.DMA_RING_IDX, Bool.or_eq_false_iff, beq_eq_false_iff_ne, decide_eq_false_iff_not]
  omega

theorem flagReg_eq_false {a : Nat} (low : a < 0xF0110) (other : a ∉ raisePlaces) : flagReg a = false := by
  simp only [raisePlaces, List.mem_cons, List.not_mem_nil, or_false, not_or] at other
  refine List.any_eq_false.mpr fun e he same => ?_
  have listed : ∀ e ∈ sourceTable, 0xF0110 ≤ e.2.1 ∨ e.2.1 ∈ raisePlaces := by decide
  have place := listed e he
  rw [beq_iff_eq.mp same] at place
  simp only [raisePlaces, List.mem_cons, List.not_mem_nil, or_false] at place
  omega

/-- A register that neither a raise nor the operation itself writes. -/
theorem touches_eq_false {w : Footprint} {a : Nat} (reg : w.reg a = false) (low : a < 0xF0110) (other : a ∉ raisePlaces) :
    w.touches a = false := by
  rw [Footprint.touches, eventPlace_eq_false low other, flagReg_eq_false low other, reg]
  rfl

/-! ### Branches and repetitions -/

theorem ite_within {c : Prop} [Decidable c] (hs : Within w b s) (ht : Within w b t) : Within w b (if c then s else t) := by
  split
  · exact hs
  · exact ht

theorem foldOver_within {α : Type} {f : State → α → State} {l : List α} (h : Within w b s)
    (hf : ∀ s a, a ∈ l → Within w b s → Within w b (f s a)) : Within w b (foldOver f s l) := by
  induction l generalizing s with
  | nil => exact h
  | cons a l ih =>
    exact ih (hf s a List.mem_cons_self h) fun s x hx => hf s x (List.mem_cons_of_mem a hx)

end

end Sys2Proof.Machine
end

section
/-!
SUPPORT. The load channels and the sinks of loops: what their operations may change.
-/

namespace Sys2Proof.Machine

/-- The registers CMD, STAT and CNT of the first k load channels, in the layout of the block LSW. A sink of a loop may name a channel up to
4095 (R402), so k may exceed the 32 channels that exist. -/
def channelPlace (k a : Nat) : Bool :=
  decide (0x30100 ≤ a ∧ a < 0x30100 + 0x20 * k ∧ (a % 0x20 = 0x0C ∨ a % 0x20 = 0x10 ∨ a % 0x20 = 0x1C))

/-- The register STATUS of one of the 32 loops. -/
def loopStatusPlace (a : Nat) : Bool := decide (0x41000 ≤ a ∧ a < 0x41400 ∧ a % 0x20 = 0x1C)

/-- What an operation on one of the first k load channels may change. -/
def loadFoot (k : Nat) : Footprint where
  reg a := a == Reg.LSW_EVT_CH || a == Reg.EVR_RETIRE || channelPlace k a || loopStatusPlace a
  parts := [.log, .load]

/-- What the blocking of sinks may change. -/
def blockFoot : Footprint where
  reg a := loopStatusPlace a
  parts := []

/-- What an operation on the sink of a loop may change. -/
def sinkFoot : Footprint where
  reg := (loadFoot 4096).reg
  parts := [.log, .load, .eng, .line]

theorem loadFoot_evtCh (k : Nat) : (loadFoot k).reg Reg.LSW_EVT_CH = true := by simp [loadFoot]
theorem loadFoot_retire (k : Nat) : (loadFoot k).reg Reg.EVR_RETIRE = true := by simp [loadFoot]
theorem loadFoot_log (k : Nat) : Part.log ∈ (loadFoot k).parts := by simp [loadFoot]
theorem loadFoot_load (k : Nat) : Part.load ∈ (loadFoot k).parts := by simp [loadFoot]

theorem loadFoot_cmd {k c : Nat} (hc : c < k) : (loadFoot k).reg (Reg.LSW_CH_CMD c) = true := by
  have place : channelPlace k (Reg.LSW_CH_CMD c) = true := decide_eq_true (by simp only [Reg.LSW_CH_CMD]; omega)
  simp [loadFoot, place]

theorem loadFoot_stat {k c : Nat} (hc : c < k) : (loadFoot k).reg (Reg.LSW_CH_STAT c) = true := by
  have place : channelPlace k (Reg.LSW_CH_STAT c) = true := decide_eq_true (by simp only [Reg.LSW_CH_STAT]; omega)
  simp [loadFoot, place]

theorem loadFoot_cnt {k c : Nat} (hc : c < k) : (loadFoot k).reg (Reg.LSW_CH_CNT c) = true := by
  have place : channelPlace k (Reg.LSW_CH_CNT c) = true := decide_eq_true (by simp only [Reg.LSW_CH_CNT]; omega)
  simp [loadFoot, place]

theorem loopStatusPlace_status {n : Nat} (hn : n < 32) : loopStatusPlace (Reg.CLE_LOOP_STATUS n) = true := by
  refine decide_eq_true ?_
  simp only [Reg.CLE_LOOP_STATUS]
  omega

theorem loadFoot_loopStatus (k : Nat) {n : Nat} (hn : n < 32) : (loadFoot k).reg (Reg.CLE_LOOP_STATUS n) = true := by
  simp [loadFoot, loopStatusPlace_status hn]

section
variable {w : Footprint} {b s : State} {k c : Nat}

/-! ### The blocking of sinks -/

theorem refreshBlocked_within (h : Within w b s) {n : Nat} (hw : w.reg (Reg.CLE_LOOP_STATUS n) = true) : Within w b (refreshBlocked s n) := by
  unfold refreshBlocked
  exact ite_within (ite_within h (raise_within (put_within h hw))) (put_within h hw)

theorem refreshSinks_within (h : Within w b s) (hw : ∀ n, n < 32 → w.reg (Reg.CLE_LOOP_STATUS n) = true) : Within w b (refreshSinks s) :=
  foldOver_within h fun s n hn hs => refreshBlocked_within hs (hw n (by simpa using hn))

/-- The blocking of sinks changes STATUS of loops only. -/
theorem refreshSinks_blockFoot (s : State) : Within blockFoot s (refreshSinks s) :=
  refreshSinks_within .refl fun _ hn => loopStatusPlace_status hn

/-! ### One load channel -/

theorem modChan_within (h : Within (loadFoot k) b s) {f : ChannelPart → ChannelPart} : Within (loadFoot k) b (modChan c f s) :=
  load_within h (loadFoot_load k)

theorem raiseCh_within (h : Within (loadFoot k) b s) {src : Nat} : Within (loadFoot k) b (raiseCh src c s) :=
  raise_within (put_within h (loadFoot_evtCh k))

theorem logUnclassified_within (h : Within (loadFoot k) b s) {why : Nat} : Within (loadFoot k) b (logUnclassified c why s) :=
  fault_within h (loadFoot_log k)

theorem judgeAnew_within (h : Within (loadFoot k) b s) {before : State} : Within (loadFoot k) b (judgeAnew before c s) :=
  ite_within (modChan_within h) h

theorem startPeriod_within (h : Within (loadFoot k) b s) : Within (loadFoot k) b (startPeriod c s) :=
  ite_within h (modChan_within h)

theorem refreshSinks_load (h : Within (loadFoot k) b s) : Within (loadFoot k) b (refreshSinks s) :=
  refreshSinks_within h fun _ hn => loadFoot_loopStatus k hn

section
variable (hc : c < k)
include hc

theorem putStat_within (h : Within (loadFoot k) b s) {lo width v : Nat} : Within (loadFoot k) b (s.put ⟨Reg.LSW_CH_STAT c, lo, width⟩ v) :=
  put_within h (loadFoot_stat hc)

theorem outputOff_within (h : Within (loadFoot k) b s) : Within (loadFoot k) b (outputOff c s) := putStat_within hc (modChan_within h)

theorem cancelRetry_within (h : Within (loadFoot k) b s) : Within (loadFoot k) b (cancelRetry c s) :=
  ite_within (raiseCh_within (logUnclassified_within (modChan_within (putStat_within hc h)))) h

theorem startInrush_within (h : Within (loadFoot k) b s) : Within (loadFoot k) b (startInrush c s) :=
  ite_within h (putStat_within hc (modChan_within h))

theorem latchChannel_within (h : Within (loadFoot k) b s) {cause : Nat} : Within (loadFoot k) b (latchChannel c cause s) := by
  have latched := bump_within (n := 1) (putStat_within (lo := 6) (width := 2) (v := cause) hc (outputOff_within hc h))
    (f := F.LSW_CH_CNT_LATCHES c) (loadFoot_cnt hc)
  unfold latchChannel
  refine refreshSinks_load (ite_within (putStat_within hc (modChan_within latched)) (ite_within ?_ ?_))
  · exact raiseCh_within (fault_within (retire_within (putStat_within hc (putStat_within hc latched)) (loadFoot_log k) (loadFoot_retire k))
      (loadFoot_log k))
  · exact raiseCh_within (fault_within (modChan_within (putStat_within hc latched)) (loadFoot_log k))

theorem switchOn_within (h : Within (loadFoot k) b s) {pwm : Bool} : Within (loadFoot k) b (switchOn pwm c s) := by
  unfold switchOn
  refine ite_within (latchChannel_within hc h) (ite_within ?_ ?_)
  · exact ite_within (startInrush_within hc (startPeriod_within (modChan_within h)))
      (ite_within (startPeriod_within (modChan_within h)) (modChan_within h))
  · exact ite_within (modChan_within h) (startInrush_within hc (modChan_within h))

theorem commandOff_within (h : Within (loadFoot k) b s) : Within (loadFoot k) b (commandOff c s) :=
  putStat_within hc (outputOff_within hc (cancelRetry_within hc (modChan_within h)))

theorem commandChannel_within (h : Within (loadFoot k) b s) {st duty : Nat} : Within (loadFoot k) b (commandChannel c st duty s) := by
  have commanded : ∀ st, Within (loadFoot k) b (s.put (F.LSW_CH_CMD_STATE c) st) := fun st => put_within h (loadFoot_cmd hc)
  unfold commandChannel
  refine ite_within h (refreshSinks_load (judgeAnew_within ?_))
  have dutied : ∀ {st : Nat} {p : Prop} [Decidable p], Within (loadFoot k) b
      (if p then (s.put (F.LSW_CH_CMD_STATE c) st).put (F.LSW_CH_CMD_DUTY c) duty else s.put (F.LSW_CH_CMD_STATE c) st) :=
    fun {st} _ _ => ite_within (put_within (commanded st) (loadFoot_cmd hc)) (commanded st)
  exact ite_within dutied (ite_within (commandOff_within hc dutied) (ite_within dutied (switchOn_within hc (putStat_within hc dutied))))

end

/-! ### The sink of a loop -/

theorem Within.sink (h : Within (loadFoot 4096) b s) : Within sinkFoot b s :=
  h.mono (fun _ ha => ha) (by simp [loadFoot, sinkFoot])

theorem pwmSink_lt {n : Nat} (h : pwmSink s n = some c) : c < 4096 := by
  simp only [pwmSink, Option.ite_none_right_eq_some, Option.some.injEq] at h
  obtain ⟨-, rfl⟩ := h
  exact State.get_lt s (F.CLE_LOOP_SINK_INDEX n)

theorem writeLineWord_within (h : Within sinkFoot b s) {entry word : Nat} {v : Int} : Within sinkFoot b (writeLineWord entry word v s) := by
  unfold writeLineWord
  exact ite_within (line_within (eng_within h (by simp [sinkFoot])) (by simp [sinkFoot])) (eng_within h (by simp [sinkFoot]))

theorem writeTo_within (h : Within sinkFoot b s) {d : SinkDef} {u : Int} (hd : d.index < 4096) : Within sinkFoot b (writeTo d u s) := by
  unfold writeTo
  exact ite_within (put_within h (loadFoot_cmd hd)) (ite_within (eng_within h (by simp [sinkFoot]))
    (ite_within (writeLineWord_within h) h))

theorem writeSink_within (h : Within sinkFoot b s) {n : Nat} {u : Int} : Within sinkFoot b (writeSink n u s) :=
  writeTo_within h (State.get_lt s (F.CLE_LOOP_SINK_INDEX n))

theorem releaseSink_within (h : Within sinkFoot b s) {n : Nat} : Within sinkFoot b (releaseSink n s) := by
  have written := writeSink_within h (n := n) (u := s.gets (F.CLE_LOOP_SAFE_SAFE n))
  unfold releaseSink
  dsimp only
  split
  · exact written
  next c sink =>
    have hc := pwmSink_lt sink
    have freed : Within sinkFoot b ((writeSink n (s.gets (F.CLE_LOOP_SAFE_SAFE n)) s).put (F.LSW_CH_STAT_OWNED c) 0) :=
      put_within written (loadFoot_stat hc)
    exact ite_within (freed.trans (commandChannel_within hc .refl).sink) freed

theorem ownSink_within (h : Within sinkFoot b s) {n : Nat} : Within sinkFoot b (ownSink n s) := by
  unfold ownSink
  split
  · exact h
  next c sink =>
    have hc := pwmSink_lt sink
    have owned := put_within (f := F.LSW_CH_STAT_OWNER c) (v := n) (put_within (f := F.LSW_CH_STAT_OWNED c) (v := 1) h (loadFoot_stat hc))
      (loadFoot_stat hc)
    exact owned.trans (commandChannel_within hc .refl).sink

end

end Sys2Proof.Machine
end

section
/-!
The requests of the load channels and of the limp map (R445, R446, R458, R474, R475, R487).
-/

namespace Sys2Proof.Machine

/-- What is left of a test after its first hit is taken out. -/
theorem filter_removeFirst {α : Type} (p : α → Bool) : ∀ l : List α, (removeFirst p l).filter p = (l.filter p).tail
  | [] => rfl
  | a :: l => by
    by_cases ha : p a = true
    · simp [removeFirst, ha]
    · simp [removeFirst, ha, filter_removeFirst p l]

/-- A part with one entry is reinstated with it. -/
theorem any_removeFirst {α : Type} {p : α → Bool} {l : List α} (h : (l.filter p).length = 1) : (removeFirst p l).any p = false := by
  obtain ⟨a, ha⟩ := List.length_eq_one_iff.mp h
  have none_ : (removeFirst p l).filter p = [] := by rw [filter_removeFirst, ha]; rfl
  simpa [List.filter_eq_nil_iff] using none_

/-- Whether a channel is sided is said by the retirement lists alone. -/
theorem channelSided_congr {s t : State} (retired : t.ev.retired = s.ev.retired) (here : t.ev.retiredHere = s.ev.retiredHere) (c : Nat) :
    channelSided t c = channelSided s c := by
  simp only [channelSided, isRetired, retired, here]

theorem Within.retired {w : Footprint} {b u : State} (h : Within w b u) (hp : .log ∉ w.parts) :
    u.ev.retired = b.ev.retired ∧ u.ev.retiredHere = b.ev.retiredHere := by
  have same : u.ev = { b.ev with latch := u.ev.latch } := h.part .log hp
  rw [same]
  exact ⟨rfl, rfl⟩

@[simp] theorem judgeAnew_ev (before : State) (c : Nat) (s : State) : (judgeAnew before c s).ev = s.ev := by
  unfold judgeAnew
  split <;> rfl

/-- A sided channel with one entry in the retirement list is reinstated (R458). -/
theorem runLoadReinstate_of_sided {p : Request} {s : State} (hc : fieldAt p.params 0 1 ≤ 31)
    (sided : channelSided s (fieldAt p.params 0 1) = true) (here : s.ev.retiredHere = [])
    (one : (s.ev.retired.filter (entryIs 1 (fieldAt p.params 0 1) 0)).length = 1) :
    (runLoadReinstate p s).status = St.ok ∧ (runLoadReinstate p s).result = [] ∧
      channelSided (runLoadReinstate p s).st (fieldAt p.params 0 1) = false := by
  have exists_ : ¬ fieldAt p.params 0 1 > 31 := by omega
  simp only [runLoadReinstate, exists_, sided, Bool.not_true, Bool.false_eq_true, if_false, ok]
  refine ⟨rfl, trivial, ?_⟩
  obtain ⟨listed, listedHere⟩ := (refreshSinks_blockFoot _).retired (by simp [blockFoot])
  rw [channelSided_congr listed listedHere, channelSided, isRetired]
  split <;> simp [raiseCh, unretire, here, any_removeFirst one]

/-- Settles O8: the entries of the opcode table answer as said; the admission of a request changes nothing of the load channels. -/
theorem loadRequests : Obligations.LoadRequests := by
  refine ⟨?_, ?_, ?_, ?_, ?_, ?_, ?_⟩
  · refine serves_of_run (fun _ _ _ => rfl) rfl fun p s s1 free admitted => ?_
    have free1 := (admitted.keeps (fun u => loadRefusal u ((upFrom 0 (fieldAt p.params 0 1)).map (loadEntry p.params)))
      fun _ _ _ => loadRefusal_of_pk s _ _).trans free
    simp only [runLoadSet, free1]
  · refine serves_of_run (fun _ _ _ => rfl) rfl fun p s s1 hc _ => ?_
    have one : fieldAt p.params 0 1 ≠ 0xFF := by omega
    simp only [Reports, runLoadStatus, one, if_false, Nat.not_lt.mpr hc]
  · refine serves_of_run (fun _ _ _ => rfl) rfl fun p s s1 all _ => ?_
    simp only [Reports, runLoadStatus, all, if_true]
  · refine serves_of_run (fun _ _ _ => rfl) rfl fun p s s1 ⟨hc, free⟩ admitted => ?_
    have free1 : channelSided s1 (fieldAt p.params 0 1) = false := (admitted.keeps (channelSided · _) fun _ _ _ => rfl).trans free
    simp [Reports, runLoadReinstate, Nat.not_lt.mpr hc, free1]
  · refine serves_of_run (fun _ _ _ => rfl) rfl fun p s s1 ⟨hc, sided, here, one⟩ admitted => ?_
    have log : s1.ev = s.ev := admitted.keeps State.ev fun _ _ _ => rfl
    exact runLoadReinstate_of_sided hc ((admitted.keeps (channelSided · _) fun _ _ _ => rfl).trans sided) (log ▸ here) (log ▸ one)
  · refine serves_of_run (fun _ _ _ => rfl) rfl fun p s s1 which _ => ?_
    simp [Reports, runLimpMapRead, Nat.not_lt.mpr which]
  · refine serves_of_run (fun _ _ _ => rfl) rfl fun p s s1 ⟨unlocked, good⟩ admitted => ?_
    rw [← admitted.blockUnlocked] at unlocked
    have load : s1.load = s.load := admitted.keeps State.load fun _ _ _ => rfl
    simp [runLimpMapWrite, unlocked, good, ok, load]

end Sys2Proof.Machine
end

section
/-!
The requests of the loops (R413–R418).
-/

namespace Sys2Proof.Machine

/-- A run-time register of a loop other than PV, SPV and STATUS stands under operations on sinks. -/
theorem sinkFoot_loop {a : Nat} (lo : 0x41000 ≤ a) (hi : a < 0x41400) (cmd : a % 0x20 ≠ 0x0C) (stat : a % 0x20 ≠ 0x10)
    (cnt : a % 0x20 ≠ 0x1C) : sinkFoot.touches a = false := by
  refine touches_eq_false ?_ (by omega) (by simp [raisePlaces]; omega)
  have noChannel : channelPlace 4096 a = false := decide_eq_false (by omega)
  have noStatus : loopStatusPlace a = false := decide_eq_false (by omega)
  have noOther : a ≠ Reg.LSW_EVT_CH ∧ a ≠ Reg.EVR_RETIRE := by simp only [Reg.LSW_EVT_CH, Reg.EVR_RETIRE]; omega
  simp [sinkFoot, loadFoot, noChannel, noStatus, noOther]

theorem sinkFoot_ctrl {n : Nat} (hn : n ≤ 31) : sinkFoot.touches (F.CLE_LOOP_CTRL_STATE n).addr = false := by
  refine sinkFoot_loop ?_ ?_ ?_ ?_ ?_ <;> simp only [F.CLE_LOOP_CTRL_STATE, Reg.CLE_LOOP_CTRL] <;> omega

/-- The state of a loop stands while its sink changes. -/
theorem loopState_of_sink {n : Nat} (hn : n ≤ 31) {b u : State} (h : Within sinkFoot b u) : loopState u n = loopState b n :=
  h.get (sinkFoot_ctrl hn)

theorem loopState_setLoopState {n st : Nat} {s : State} (hs : s.regsWf = true) (hst : st < 4) : loopState (setLoopState n st s) n = st :=
  State.get_put_of_lt rfl hst hs

theorem refreshBlocked_sink {b s : State} (h : Within sinkFoot b s) {n : Nat} (hn : n ≤ 31) : Within sinkFoot b (refreshBlocked s n) :=
  refreshBlocked_within h (loadFoot_loopStatus 4096 (by omega))

theorem enterLost_within {b s : State} (h : Within sinkFoot b s) {n : Nat} (hn : n ≤ 31) : Within sinkFoot b (enterLost n s) := by
  have loss : ∀ {v}, Within sinkFoot b (s.put (F.CLE_LOOP_STATUS_LOSS n) v) := put_within h (loadFoot_loopStatus 4096 (by omega))
  exact ite_within h (ite_within loss (ite_within h (raise_within loss)))

theorem loopToOpen_state {n : Nat} (hn : n ≤ 31) {s : State} (hs : s.regsWf = true) : loopState (loopToOpen n s) n = lOpen := by
  have sink : Within sinkFoot (setLoopState n lOpen s) (loopToOpen n s) := refreshBlocked_sink (releaseSink_within .refl) hn
  rw [loopState_of_sink hn sink, loopState_setLoopState hs (by decide)]

theorem loopToRun_state {n : Nat} (hn : n ≤ 31) {s : State} (hs : s.regsWf = true) : loopState (loopToRun n s) n = lRun := by
  unfold loopToRun
  dsimp only
  rw [loopState_of_sink hn (refreshBlocked_sink (enterLost_within (ownSink_within .refl) hn) hn), loopState_setLoopState _ (by decide)]
  split
  · simp [setInteg, hs]
  · exact hs

/-- A loop that exists opens (R415). -/
theorem loopRequest_open {n : Nat} (hn : n ≤ 31) {s : State} (hs : s.regsWf = true) :
    (loopRequest n lOpen s).status = St.ok ∧ (loopRequest n lOpen s).result = [] ∧ loopState (loopRequest n lOpen s).st n = lOpen := by
  have exists_ : ¬ (n > 31 ∨ lOpen > 2) := by simp [lOpen]; omega
  rw [show loopRequest n lOpen s = _ from if_neg exists_]
  split
  next open_ => exact ⟨rfl, rfl, open_⟩
  · exact ⟨rfl, rfl, loopToOpen_state hn hs⟩

/-- A defined loop with a valid gain table runs (R415). -/
theorem loopRequest_run {n : Nat} (hn : n ≤ 31) {s : State} (defined : loopDefined s n = true) (valid : gainValid (runningGains s n) = true)
    (hs : s.regsWf = true) :
    (loopRequest n lRun s).status = St.ok ∧ (loopRequest n lRun s).result = [] ∧ loopState (loopRequest n lRun s).st n = lRun := by
  have exists_ : ¬ (n > 31 ∨ lRun > 2) := by simp [lRun]; omega
  rw [show loopRequest n lRun s = _ from if_neg exists_]
  split
  next runs => exact ⟨rfl, rfl, runs⟩
  · simp only [defined]
    exact ⟨rfl, rfl, loopToRun_state hn hs⟩

/-- A defined loop that runs holds (R415). -/
theorem loopRequest_hold {n : Nat} (hn : n ≤ 31) {s : State} (defined : loopDefined s n = true) (runs : loopState s n = lRun)
    (hs : s.regsWf = true) :
    (loopRequest n lHold s).status = St.ok ∧ (loopRequest n lHold s).result = [] ∧ loopState (loopRequest n lHold s).st n = lHold := by
  have held : loopRequest n lHold s = ok (setLoopState n lHold s) [] := by
    simp [loopRequest, defined, runs, lHold, lRun, lOpen]
    omega
  rw [held]
  exact ⟨rfl, rfl, loopState_setLoopState hs (by decide)⟩

/-- Settles O9: each request of a loop leaves it in its state, which no operation on its sink touches. -/
theorem loopRequests : Obligations.LoopRequests := by
  refine ⟨?_, ?_, ?_, ?_⟩
  · exact serves_of_run (fun _ _ _ => rfl) rfl fun p s s1 ⟨hn, hs⟩ admitted => loopRequest_open hn (admitted.regsWf.trans hs)
  · exact serves_of_run (fun _ _ _ => rfl) rfl fun p s s1 ⟨hn, defined, valid, hs⟩ admitted =>
      loopRequest_run hn ((admitted.keeps (loopDefined · _) fun _ _ _ => rfl).trans defined)
        ((admitted.keeps (fun u => gainValid (runningGains u _)) fun _ _ _ => rfl).trans valid) (admitted.regsWf.trans hs)
  · exact serves_of_run (fun _ _ _ => rfl) rfl fun p s s1 ⟨hn, defined, runs, hs⟩ admitted =>
      loopRequest_hold hn ((admitted.keeps (loopDefined · _) fun _ _ _ => rfl).trans defined)
        ((admitted.keeps (loopState · _) fun _ _ _ => rfl).trans runs) (admitted.regsWf.trans hs)
  · refine serves_of_run (fun _ _ _ => rfl) rfl fun p s s1 ⟨hn, kind, hs⟩ admitted => ?_
    have kind1 : s1.get (F.CLE_LOOP_SP_KIND (fieldAt p.params 0 1)) = 6 :=
      (admitted.keeps (State.get · _) fun _ _ _ => rfl).trans kind
    have ran : runLoopSetpoint p s1 = ok (s1.setReg (Reg.CLE_LOOP_SETPT (fieldAt p.params 0 1)) (fieldAt p.params 4 4)) [] := by
      simp [runLoopSetpoint, kind1, Nat.not_lt.mpr hn]
    rw [show OpInfo.run _ p s1 = _ from ran]
    refine ⟨rfl, ?_, fun a ha => State.reg_setReg_ne _ _ _ _ (by simpa using ha)⟩
    exact (State.reg_setReg_same _ _ _ (admitted.regsWf.trans hs)).trans (Nat.mod_eq_of_lt (fieldAt_lt _ _ 4))

end Sys2Proof.Machine
end

section
/-!
SUPPORT. One field over an operation: it stands, field by field where a footprint, which names whole registers, says too little.
-/

namespace Sys2Proof.Machine

/-! ### Signed values -/

theorem sx_bounds {w : Nat} (hw : 0 < w) (v : Nat) : -((2 ^ (w - 1) : Nat) : Int) ≤ sx w v ∧ sx w v < ((2 ^ (w - 1) : Nat) : Int) := by
  have double : 2 ^ w = 2 * 2 ^ (w - 1) := by rw [← Nat.pow_succ']; congr 1; omega
  have small : v % 2 ^ w < 2 ^ w := Nat.mod_lt _ (Nat.two_pow_pos w)
  unfold sx
  split <;> omega

theorem fixS_lt (w : Nat) (i : Int) : fixS w i < 2 ^ w := by
  have pos : (0 : Int) < ((2 ^ w : Nat) : Int) := by exact_mod_cast Nat.two_pow_pos w
  unfold fixS toBits
  have := Int.emod_lt_of_pos (satS w i) pos
  have := Int.emod_nonneg (satS w i) pos.ne'
  omega

/-- A value in the range of a signed field is kept by it. -/
theorem sx_fixS {w : Nat} (hw : 0 < w) {i : Int} (lo : -((2 ^ (w - 1) : Nat) : Int) ≤ i) (hi : i < ((2 ^ (w - 1) : Nat) : Int)) :
    sx w (fixS w i) = i := by
  have double : 2 ^ w = 2 * 2 ^ (w - 1) := by rw [← Nat.pow_succ']; congr 1; omega
  have inRange : satS w i = i := by
    unfold satS
    split
    · omega
    · split <;> omega
  rw [fixS, inRange, sx, Nat.mod_eq_of_lt (by rw [← show fixS w i = toBits w i by rw [fixS, inRange]]; exact fixS_lt w i), toBits]
  obtain nonneg | neg := lt_or_ge i 0
  · rw [Int.emod_eq_add_self_emod, Int.emod_eq_of_lt (by omega) (by omega)]
    split <;> omega
  · rw [Int.emod_eq_of_lt neg (by omega)]
    split <;> omega

theorem gets_puts {f : Fld} {s : State} {v : Int} (hf : f.fits = true) (hw : 0 < f.width) (hs : s.regsWf = true)
    (lo : -((2 ^ (f.width - 1) : Nat) : Int) ≤ v) (hi : v < ((2 ^ (f.width - 1) : Nat) : Int)) : (s.puts f v).gets f = v := by
  rw [State.gets, State.puts, State.get_put_of_lt hf (fixS_lt _ _) hs, sx_fixS hw lo hi]

/-! ### Fields that stand -/

/-- A register that no raise writes. -/
def calmReg (a : Nat) : Bool := !(eventPlace a || flagReg a)

theorem calmReg_of_low {a : Nat} (low : a < 0xF0110) (other : a ∉ raisePlaces) : calmReg a = true := by
  simp [calmReg, eventPlace_eq_false low other, flagReg_eq_false low other]

/-- A field reads the same in u as in b, in register spaces in canonical form. -/
def FieldStands (g : Fld) (b u : State) : Prop := b.regsWf = true → u.regsWf = true ∧ u.get g = b.get g

section
variable {g f : Fld} {b s t : State}

theorem FieldStands.refl : FieldStands g b b := fun h => ⟨h, rfl⟩

theorem FieldStands.trans (h : FieldStands g b s) (k : FieldStands g s t) : FieldStands g b t := fun wf =>
  have ⟨ws, hs⟩ := h wf
  have ⟨wt, ht⟩ := k ws
  ⟨wt, ht.trans hs⟩

/-- An operation that leaves the registers. -/
theorem FieldStands.parts (h : FieldStands g b s) (regs : t.regs = s.regs := by rfl) : FieldStands g b t := fun wf => by
  obtain ⟨ws, hs⟩ := h wf
  exact ⟨by simpa only [State.regsWf, regs] using ws, by simpa only [State.get, State.reg, regs] using hs⟩

theorem FieldStands.put (h : FieldStands g b s) {v : Nat} (ha : f.apart g = true) : FieldStands g b (s.put f v) := fun wf =>
  have ⟨ws, hs⟩ := h wf
  ⟨State.regsWf_setReg s _ _ ws, (State.get_put_of_apart ha ws).trans hs⟩

theorem FieldStands.puts (h : FieldStands g b s) {v : Int} (ha : f.apart g = true) : FieldStands g b (s.puts f v) := h.put ha
theorem FieldStands.bump (h : FieldStands g b s) {n : Nat} (ha : f.apart g = true) : FieldStands g b (s.bump f n) := h.put ha

theorem FieldStands.raiseArg (h : FieldStands g b s) {src detail arg : Nat} (calm : calmReg g.addr = true) :
    FieldStands g b (raiseArg src detail arg s) := fun wf =>
  have ⟨ws, hs⟩ := h wf
  have quiet := (raiseArg_within .refl (src := src) (detail := detail) (arg := arg) : Within ⟨fun _ => false, []⟩ s _)
  ⟨quiet.wf ws, (quiet.get (by simpa [calmReg, Footprint.touches] using calm)).trans hs⟩

theorem FieldStands.ite {c : Prop} [Decidable c] (hs : FieldStands g b s) (ht : FieldStands g b t) :
    FieldStands g b (if c then s else t) := by
  split
  · exact hs
  · exact ht

theorem FieldStands.foldOver {α : Type} {f : State → α → State} (h : FieldStands g b s) (l : List α)
    (hf : ∀ s a, FieldStands g s (f s a)) : FieldStands g b (foldOver f s l) := by
  induction l generalizing s with
  | nil => exact h
  | cons a l ih => exact ih (h.trans (hf s a))

/-- A field that a footprint does not touch stands. -/
theorem Within.stands {w : Footprint} (h : Within w b s) (hg : w.touches g.addr = false) : FieldStands g b s := fun wf => ⟨h.wf wf, h.get hg⟩

end

end Sys2Proof.Machine
end

section
/-!
The requests of the setting functions (R371–R374).
-/

namespace Sys2Proof.Machine

theorem calm_fnState {n : Nat} (hn : n ≤ 47) : calmReg (Reg.SET_FN_STATE n) = true := by
  refine calmReg_of_low ?_ ?_ <;> simp [Reg.SET_FN_STATE, raisePlaces] <;> omega

theorem calm_fnTarget {n : Nat} (hn : n ≤ 47) : calmReg (Reg.SET_FN_TARGET n) = true := by
  refine calmReg_of_low ?_ ?_ <;> simp [Reg.SET_FN_TARGET, raisePlaces] <;> omega

/-- A field of SET_FN_STATE that the end of a step leaves: MODE or SETTLING of a function. -/
structure StepLeaves (g : Fld) : Prop where
  calm : calmReg g.addr = true
  target : ∀ k, (F.SET_FN_TARGET_TARGET k).apart g = true
  pending : ∀ k, (F.SET_FN_STATE_PENDING k).apart g = true
  last : ∀ k, (F.SET_FN_STATE_LAST k).apart g = true
  barDir : ∀ k, (F.SET_FN_STATE_BAR_DIR k).apart g = true
  barLeft : ∀ k, (F.SET_FN_STATE_BAR_LEFT k).apart g = true
  reverted : F.SET_COUNT_REVERTED.apart g = true
  inconclusive : F.SET_COUNT2_INCONCLUSIVE.apart g = true
  abandoned : F.SET_COUNT2_ABANDONED.apart g = true

theorem stepLeaves_mode {n : Nat} (hn : n ≤ 47) : StepLeaves (F.SET_FN_STATE_MODE n) := by
  refine ⟨calm_fnState hn, ?_, ?_, ?_, ?_, ?_, ?_, ?_, ?_⟩ <;> intros <;>
    simp [Fld.apart, Fld.fits, F.SET_FN_TARGET_TARGET, F.SET_FN_STATE_MODE, F.SET_FN_STATE_PENDING, F.SET_FN_STATE_LAST, F.SET_FN_STATE_BAR_DIR,
      F.SET_FN_STATE_BAR_LEFT, F.SET_COUNT_REVERTED, F.SET_COUNT2_INCONCLUSIVE, F.SET_COUNT2_ABANDONED, Reg.SET_FN_TARGET, Reg.SET_FN_STATE,
      Reg.SET_COUNT, Reg.SET_COUNT2] <;> omega

theorem stepLeaves_settling {n : Nat} (hn : n ≤ 47) : StepLeaves (F.SET_FN_STATE_SETTLING n) := by
  refine ⟨calm_fnState hn, ?_, ?_, ?_, ?_, ?_, ?_, ?_, ?_⟩ <;> intros <;>
    simp [Fld.apart, Fld.fits, F.SET_FN_TARGET_TARGET, F.SET_FN_STATE_SETTLING, F.SET_FN_STATE_PENDING, F.SET_FN_STATE_LAST, F.SET_FN_STATE_BAR_DIR,
      F.SET_FN_STATE_BAR_LEFT, F.SET_COUNT_REVERTED, F.SET_COUNT2_INCONCLUSIVE, F.SET_COUNT2_ABANDONED, Reg.SET_FN_TARGET, Reg.SET_FN_STATE,
      Reg.SET_COUNT, Reg.SET_COUNT2] <;> omega

/-- The undoing of one change of a step, as `revertStep` does it. -/
def backOne (first : Nat) (s : State) (c : Nat × Int × Int) : State :=
  if fnMode s c.1 = mAuto then
    let s := setFnTargetFrom first c.1 c.2.1 s
    (s.put (F.SET_FN_STATE_BAR_DIR c.1) (if c.2.2 > c.2.1 then 1 else 2)).put (F.SET_FN_STATE_BAR_LEFT c.1) (s.get F.SET_CFG_BACKOFF)
  else s

section
variable {g : Fld} {b s : State} {n : Nat}

theorem setFnTargetFrom_stands (h : FieldStands g b s) {c : Nat} {v : Int} (ha : (F.SET_FN_TARGET_TARGET n).apart g = true) :
    FieldStands g b (setFnTargetFrom c n v s) :=
  (h.trans ((FieldStands.refl.parts : FieldStands g s (modFn n _ s)).puts ha)).parts

variable (leaves : StepLeaves g)
include leaves

theorem endStep_stands (h : FieldStands g b s) {o : StepOutcome} {p : PendingStep} : FieldStands g b (endStep o p s) :=
  FieldStands.foldOver (s := { s with fn := { s.fn with pending := none } }) (h.parts) p.changed fun _ c =>
    (FieldStands.refl.put (leaves.pending c.1)).put (leaves.last c.1)

theorem revertStep_stands (h : FieldStands g b s) {first : Nat} {o : StepOutcome} {p : PendingStep} :
    FieldStands g b (revertStep first o p s) := by
  have ended : ∀ {u hold}, FieldStands g b u → FieldStands g b (endStep o p { u with fn := { u.fn with holdUntil := hold } }) :=
    fun h => endStep_stands leaves (h.parts)
  have bars : FieldStands g b (foldOver (backOne first) s p.changed) := h.foldOver p.changed fun s c => .ite
    (((setFnTargetFrom_stands .refl (leaves.target c.1)).put (leaves.barDir c.1)).put (leaves.barLeft c.1)) .refl
  cases o with
  | kept => exact ended bars
  | reverted => exact ((ended bars).bump leaves.reverted).raiseArg leaves.calm
  | inconclusive => exact ((ended bars).bump leaves.inconclusive).raiseArg leaves.calm
  | abandoned => exact ((ended bars).bump leaves.abandoned).raiseArg leaves.calm

theorem abandonIfChanged_stands (h : FieldStands g b s) : FieldStands g b (abandonIfChanged n s) := by
  unfold abandonIfChanged
  split
  · exact h
  · refine .ite ?_ h
    unfold abandonStep
    split
    · exact h
    · exact revertStep_stands leaves h

end

/-- The state of a function that is taken over by hand, before its new target. -/
def manualState (n : Nat) (s : State) : State :=
  let t := (setFnMode n mManual s).put (F.SET_FN_STATE_SETTLING n) 0
  if fnMode s n = mAuto then abandonIfChanged n t else t

theorem manualState_regsWf_mode_settling {n : Nat} (hn : n ≤ 47) {s : State} (hs : s.regsWf = true) :
    (manualState n s).regsWf = true ∧ fnMode (manualState n s) n = mManual ∧ (manualState n s).get (F.SET_FN_STATE_SETTLING n) = 0 := by
  have moded : (setFnMode n mManual s).regsWf = true := State.regsWf_setReg s _ _ hs
  have mode : (setFnMode n mManual s).get (F.SET_FN_STATE_MODE n) = mManual := State.get_put_of_lt (s := s) rfl (show mManual < 2 ^ 2 by decide) hs
  have later : ∀ {g}, StepLeaves g → FieldStands g ((setFnMode n mManual s).put (F.SET_FN_STATE_SETTLING n) 0) (manualState n s) :=
    fun leaves => .ite (abandonIfChanged_stands leaves .refl) .refl
  have wf : ((setFnMode n mManual s).put (F.SET_FN_STATE_SETTLING n) 0).regsWf = true := State.regsWf_setReg _ _ _ moded
  obtain ⟨wf', mode'⟩ := later (stepLeaves_mode hn) wf
  obtain ⟨-, settling⟩ := later (stepLeaves_settling hn) wf
  exact ⟨wf', mode'.trans ((State.get_put_of_apart rfl moded).trans mode), settling.trans (State.get_put_of_lt rfl (show 0 < 2 ^ 1 by decide) moded)⟩

/-- A new target of a function leaves its mode. -/
theorem setFnTarget_stands {n : Nat} {v : Int} {g : Fld} {s : State} (ha : (F.SET_FN_TARGET_TARGET n).apart g = true) :
    FieldStands g s (setFnTarget n v s) := setFnTargetFrom_stands .refl ha

theorem gets_setFnTarget {n : Nat} {v : Int} {s : State} (hs : s.regsWf = true) (lo : -2 ^ 31 ≤ v) (hi : v < 2 ^ 31) :
    (setFnTarget n v s).gets (F.SET_FN_TARGET_TARGET n) = v :=
  gets_puts (s := modFn n _ s) rfl (by norm_num [F.SET_FN_TARGET_TARGET]) hs lo hi

/-- The last raise of a takeover by hand, or none. -/
theorem overridden_stands {n : Nat} {g : Fld} {s : State} {p : Prop} [Decidable p] (calm : calmReg g.addr = true) :
    FieldStands g s (if p then raise Src.SET_OVERRIDE n s else s) := .ite (FieldStands.refl.raiseArg calm) .refl

/-- The target that FUNCTION_MANUAL gives: its own, or the value sent last. -/
def manualTarget (p : Request) (s : State) : Int :=
  if bitAt (fieldAt p.params 1 1) 0 then sfieldAt p.params 4 4 else s.gets (F.SET_FN_SENT_SENT (fieldAt p.params 0 1))

theorem manualTarget_bounds (p : Request) (s : State) : -2 ^ 31 ≤ manualTarget p s ∧ manualTarget p s < 2 ^ 31 := by
  have bounds : ∀ v, -2 ^ 31 ≤ sx 32 v ∧ sx 32 v < 2 ^ 31 := fun v => by simpa using sx_bounds (w := 32) (by decide) v
  unfold manualTarget
  split <;> exact bounds _

/-- What FUNCTION_MANUAL leaves. -/
def manualResult (n : Nat) (v : Int) (s : State) : State :=
  if fnMode s n = mAuto then raise Src.SET_OVERRIDE n (setFnTarget n v (manualState n s)) else setFnTarget n v (manualState n s)

/-- A function is taken over by hand (R371). -/
theorem manual_result {n : Nat} (hn : n ≤ 47) {v : Int} {s : State} (hs : s.regsWf = true) (lo : -2 ^ 31 ≤ v) (hi : v < 2 ^ 31) :
    fnMode (manualResult n v s) n = mManual ∧ (manualResult n v s).flag (F.SET_FN_STATE_SETTLING n) = false ∧
      (fnMode s n = mAuto → Flagged Src.SET_OVERRIDE (manualResult n v s)) ∧
      (manualResult n v s).gets (F.SET_FN_TARGET_TARGET n) = v := by
  obtain ⟨wf, mode, settling⟩ := manualState_regsWf_mode_settling hn hs
  obtain ⟨wf', mode'⟩ := setFnTarget_stands (v := v) ((stepLeaves_mode hn).target n) wf
  obtain ⟨-, settling'⟩ := setFnTarget_stands (v := v) ((stepLeaves_settling hn).target n) wf
  have last : ∀ {g : Fld}, calmReg g.addr = true → (manualResult n v s).get g = (setFnTarget n v (manualState n s)).get g :=
    fun calm => (overridden_stands calm wf').2
  refine ⟨(last (calm_fnState hn)).trans (mode'.trans mode), ?_, fun auto => ?_, ?_⟩
  · rw [State.flag, last (calm_fnState hn), settling', settling]
    rfl
  · rw [manualResult, if_pos auto]
    exact flagged_raiseArg rfl wf'
  · rw [State.gets, last (calm_fnTarget hn)]
    exact gets_setFnTarget wf lo hi

/-- A function is given back to the engine (R372). -/
theorem auto_result {n : Nat} (hn : n ≤ 47) {s : State} (hs : s.regsWf = true) :
    fnMode (raise Src.SET_AUTO_RETURN n (startSettling n (setFnMode n mAuto s))) n = mAuto ∧
      (raise Src.SET_AUTO_RETURN n (startSettling n (setFnMode n mAuto s))).flag (F.SET_FN_STATE_SETTLING n) = true ∧
      Flagged Src.SET_AUTO_RETURN (raise Src.SET_AUTO_RETURN n (startSettling n (setFnMode n mAuto s))) := by
  have moded : (modFn n (fun x => { x with settleEnd := (setFnMode n mAuto s).now + freezeHold (setFnMode n mAuto s) })
      (setFnMode n mAuto s)).regsWf = true := State.regsWf_setReg s _ _ hs
  have mode : (setFnMode n mAuto s).get (F.SET_FN_STATE_MODE n) = mAuto :=
    State.get_put_of_lt (s := s) rfl (show mAuto < 2 ^ 2 by decide) hs
  have settled : (startSettling n (setFnMode n mAuto s)).regsWf = true := State.regsWf_setReg _ _ _ moded
  have last : ∀ {g : Fld}, calmReg g.addr = true →
      (raise Src.SET_AUTO_RETURN n (startSettling n (setFnMode n mAuto s))).get g = (startSettling n (setFnMode n mAuto s)).get g :=
    fun calm => (FieldStands.refl.raiseArg calm settled).2
  refine ⟨(last (calm_fnState hn)).trans ((State.get_put_of_apart rfl moded).trans mode), ?_, flagged_raiseArg rfl settled⟩
  rw [State.flag, last (calm_fnState hn), startSettling, State.get_put_of_lt rfl (show 1 < 2 ^ 1 by decide) moded]
  rfl

/-- Settles O11: the requests of the setting functions, in the order of the statement. -/
theorem functionRequests : Obligations.FunctionRequests := by
  refine ⟨?_, ?_, ?_, ?_, ?_⟩
  · refine serves_of_run (fun _ _ _ => rfl) rfl fun p s s1 ⟨target, hn, hid, same, inRange, hs⟩ admitted => ?_
    have entry : ∀ n, fnEntry s1 n = fnEntry s n := fun n => admitted.keeps (fnEntry · n) fun _ _ _ => rfl
    have mode : ∀ n, fnMode s1 n = fnMode s n := fun n => admitted.keeps (fnMode · n) fun _ _ _ => rfl
    have sent : ∀ f, s1.gets f = s.gets f := fun f => admitted.keeps (State.gets · f) fun _ _ _ => rfl
    have range1 : (bitAt (fieldAt p.params 1 1) 0 && (decide (sfieldAt p.params 4 4 < (fnEntry s (fieldAt p.params 0 1)).min) ||
        decide (sfieldAt p.params 4 4 > (fnEntry s (fieldAt p.params 0 1)).max))) = false := by
      cases has : bitAt (fieldAt p.params 1 1) 0
      · rfl
      · obtain ⟨lo, hi⟩ := inRange has
        simp [lo, hi]
    have wf := admitted.regsWf.trans hs
    have hid' : fieldAt p.params 2 2 ≠ 0 := same ▸ hid
    have ran : runFunctionManual p s1 = ok (manualResult (fieldAt p.params 0 1) (manualTarget p s1) s1) [] := by
      simp only [runFunctionManual, target, entry, range1, hid', same, Nat.not_lt.mpr hn, Bool.not_true, Bool.false_eq_true, if_false, gt_iff_lt,
        not_true, or_self, ne_eq, manualState, manualResult, manualTarget]
    rw [show OpInfo.run _ p s1 = _ from ran]
    obtain ⟨lo, hi⟩ := manualTarget_bounds p s1
    obtain ⟨mode', settling, overridden, reached⟩ := manual_result hn wf lo hi
    exact ⟨rfl, rfl, mode', settling, overridden, reached.trans (by rw [manualTarget, sent])⟩
  · refine serves_of_run (fun _ _ _ => rfl) rfl fun p s s1 ⟨target, hn, hid, same, auto⟩ admitted => ?_
    have entry : ∀ n, fnEntry s1 n = fnEntry s n := fun n => admitted.keeps (fnEntry · n) fun _ _ _ => rfl
    have mode : ∀ n, fnMode s1 n = fnMode s n := fun n => admitted.keeps (fnMode · n) fun _ _ _ => rfl
    simp [Reports, runFunctionAuto, target, entry, mode, Nat.not_lt.mpr hn, hid, ← same, auto]
  · refine serves_of_run (fun _ _ _ => rfl) rfl fun p s s1 ⟨target, hn, hid, same, manual, may, enabled, thaw, thaw', hs⟩ admitted => ?_
    have entry : ∀ n, fnEntry s1 n = fnEntry s n := fun n => admitted.keeps (fnEntry · n) fun _ _ _ => rfl
    have mode : ∀ n, fnMode s1 n = fnMode s n := fun n => admitted.keeps (fnMode · n) fun _ _ _ => rfl
    have flag : ∀ f, s1.flag f = s.flag f := fun f => admitted.keeps (State.flag · f) fun _ _ _ => rfl
    have causes : ∀ n, fnCauses s1 n = fnCauses s n := fun n => admitted.keeps (fnCauses · n) fun _ _ _ => rfl
    have ran : runFunctionAuto p s1 = ok (raise Src.SET_AUTO_RETURN (fieldAt p.params 0 1)
        (startSettling (fieldAt p.params 0 1) (setFnMode (fieldAt p.params 0 1) mAuto s1))) [] := by
      simp [runFunctionAuto, target, entry, mode, flag, causes, Nat.not_lt.mpr hn, hid, ← same, manual, may, enabled, thaw, thaw']
    rw [show OpInfo.run _ p s1 = _ from ran]
    exact ⟨rfl, rfl, auto_result hn (admitted.regsWf.trans hs)⟩
  · refine serves_of_run (fun _ _ _ => rfl) rfl fun p s s1 ⟨target, hn⟩ _ => ?_
    have one : fieldAt p.params 0 1 ≠ 0xFF := by omega
    simp only [Reports, runFunctionStatus, target, Bool.not_true, Bool.false_eq_true, if_false, one, Nat.not_lt.mpr hn]
  · refine serves_of_run (fun _ _ _ => rfl) rfl fun p s s1 ⟨target, all⟩ _ => ?_
    simp only [Reports, runFunctionStatus, target, Bool.not_true, Bool.false_eq_true, if_false, all, if_true]

end Sys2Proof.Machine
end

section
/-!
SUPPORT. Counterexamples by request: the reply of a request without effect leaves at once, and carries its result; so a request whose result
is not the stated one refutes the statement.
-/

namespace Sys2Proof.Machine

/-- A session of level 3 with a host on the HOST port. -/
def knownSession : Session :=
  { num := 1, isOpen := true, level := 3, key := [1#8], hostNonce := [], moduleNonce := [], openBy := 0, h := 5, seen := 1, records := [],
    lastAuth := 0, via := .host 7#32 9#16, unlocked := [], evQueue := [], evLost := 0 }

/-- A terminus in service with that session. -/
def servingState : State :=
  { State.reset with
    regs := [], role := { role := .terminus, joined := true }, die := { sigUp := true, yardUp := true, xoUp := true }
    pk := { sessions := [knownSession] } }

/-- A request on that session, with its tag and trailer. -/
def hostRequest (params : Bytes) (tag : BitVec 64) (trailer : BitVec 32) : Request :=
  { via := .host 7#32 9#16, session := 1#16, target := 0#8, sequence := 6#32, paramLen := BitVec.ofNat 16 params.length, auth := tag,
    params := params, crc := trailer }

/-- The reply to a request without effect is the last that leaves, and carries the result. -/
theorem out_of_concludeRun {op : Nat} (free : hasEffect op = false) {p : Request} {ip : BitVec 32} {port : BitVec 16}
    (via : p.via = .host ip port) (reserved : Bool) {s : State} (due : s.upd.restartDue = []) (result : Bytes) :
    ∃ r, (settle (concludeRun reserved false op p (ok s result))).out = s.out ++ [.packet p.via r] ∧ r.result = result := by
  have run : concludeRun reserved false op p (ok s result) =
      finishAs false reserved op p (joinNum s) St.ok 0 result s := by
    rw [← free]
    rfl
  have upd : (concludeRun reserved false op p (ok s result)).upd = s.upd := by simp [run, finishAs]
  rw [settle_of_none_due (by rw [upd, due]), run]
  let r := buildReply s op p false (joinNum s) St.ok (admitOf reserved St.ok) 0 0 result
  have sent : finishAs false reserved op p (joinNum s) St.ok 0 result s = sendPacket p.via r (noteRecord op p
    { doneRecord op p St.ok (admitOf reserved St.ok) result with origin := joinNum s, retryUntil := 0 } s) := by
    simp [finishAs, r]
  exact ⟨r, by rw [sent, via, sendPacket_host_out, noteRecord_out], rfl⟩

/-- A request whose result is not the stated one refutes a statement of results. -/
theorem not_serves_reports {c : Nat → Request → Instr} {op : Nat} {info : OpInfo} {cond : Request → State → Prop}
    {result : Request → State → Bytes} (hexec : ∀ t p s, exec (c t p) s = .next (examine op p (begin_ t s))) (hop : opTable op = some info)
    (free : hasEffect op = false) {t : Nat} {p : Request} {s : State} {ip : BitVec 32} {port : BitVec 16} (via : p.via = .host ip port)
    (due : s.upd.restartDue = []) (hacc : acceptable op p (begin_ t s) = true) (hcond : cond p (begin_ t s)) {actual stated : Bytes}
    (run : ∀ s1, Admitted p (begin_ t s) s1 → info.run p s1 = ok s1 actual) (claimed : ∀ s1, Admitted p (begin_ t s) s1 → result p s1 = stated)
    (differ : actual ≠ stated) : ¬ Serves c op cond (Reports result) := by
  intro serves
  obtain ⟨s1, r1, hadm1, hexam⟩ := examine_of_acceptable hop hacc
  obtain ⟨s2, r2, a, hadm2, hex, rfl⟩ := serves t p s hacc hcond
  rw [hexec, hexam, run s1 hadm1, claimed s2 hadm2] at hex
  have same := Host.Outcome.next.inj hex
  have due' : ∀ {u}, Admitted p (begin_ t s) u → u.upd.restartDue = [] := fun h =>
    (h.keeps State.upd fun _ _ _ => rfl).symm ▸ by rw [begin__upd]; exact due
  have out : ∀ {u}, Admitted p (begin_ t s) u → u.out = (begin_ t s).out := fun h => h.keeps State.out fun _ _ _ => rfl
  obtain ⟨x, hx, rx⟩ := out_of_concludeRun free via r1 (due' hadm1) actual
  obtain ⟨y, hy, ry⟩ := out_of_concludeRun free via r2 (due' hadm2) stated
  rw [same, hy, out hadm1, out hadm2] at hx
  have replies : y = x := by simpa using hx
  exact differ (by rw [← rx, ← ry, replies])

end Sys2Proof.Machine
end

section
/-!
The requests of models, streams and grids: the set that MODEL_INFO reports.
-/

namespace Sys2Proof.Machine

/-- A container whose directory names one empty model, of instance 63. -/
def emptyModelSet : Container := { total := 48, fill := 0#8, data := [(10, 1#8), (32, 0x11#8), (33, 63#8)] }

/-- A terminus without a running set, whose Yard die has already swapped to that container (log entry 44). -/
def swappedAhead : State := { servingState with sets := { yardAhead := some (0, emptyModelSet) } }

/-- MODEL_INFO of instance 63 in the set that runs. -/
def modelInfoRequest : Request := hostRequest (leBytes 4 63) 8627785354162646767#64 765706769#32

theorem modelInfo_acceptable : acceptable 0x0501 modelInfoRequest (begin_ 0 swappedAhead) = true := by decide +kernel

/-- What MODEL_INFO reports of a set. -/
def modelReport (inst : Nat) (open_ : List Nat) (c : Option Container) : Bytes :=
  let b := (modelIn c inst).getD []
  let st := modelState open_ c inst
  let macs := if st = 2 ∨ st = 5 then graphMacs (mGraph b) else 0
  padTo 64 b ++ leBytes 1 st ++ leBytes 3 0 ++ leBytes 8 macs ++ leBytes 4 (ceilDiv (2 * macs * mRate b) 1000000000)

/-- MODEL_INFO of the set that runs reports the set of the Yard die. -/
theorem runModelInfo_of_running {p : Request} (hinst : fieldAt p.params 0 1 ≤ 63) (hset : fieldAt p.params 1 1 = 0) (s : State) :
    runModelInfo p s = ok s (modelReport (fieldAt p.params 0 1) [] (yardSet s)) := by
  simp [runModelInfo, hset, Nat.not_lt.mpr hinst, modelReport]

/-- Refutes O10: MODEL_INFO of the set that runs reports the set that the Yard die runs, which differs from sets.running between the swap of
the Yard die and that of the Signal die; in swappedAhead it reports the model of emptyModelSet, and sets.running holds none. -/
theorem not_fusionRequests : ¬ Obligations.FusionRequests := by
  rintro ⟨-, -, info, -⟩
  have ahead : ∀ s1, Admitted modelInfoRequest (begin_ 0 swappedAhead) s1 → s1.sets = swappedAhead.sets := fun s1 h =>
    h.keeps State.sets fun _ _ _ => rfl
  refine not_serves_reports (fun _ _ _ => rfl) rfl rfl (t := 0) (p := modelInfoRequest)
    (s := swappedAhead) rfl rfl modelInfo_acceptable (by decide +kernel)
    (actual := modelReport 63 [] (some emptyModelSet)) (stated := modelReport 63 [] none) (fun s1 h => ?_) (fun s1 h => ?_)
    (by decide +kernel) info
  · exact (runModelInfo_of_running (p := modelInfoRequest) (by decide) rfl s1).trans (by rw [yardSet, ahead s1 h]; rfl)
  · simp only [ahead s1 h]
    rfl

end Sys2Proof.Machine
end

section
/-!
The requests of the siding set and of the points throw (R228–R253).
-/

namespace Sys2Proof.Machine

theorem fieldAt_drop (bs : Bytes) (k off n : Nat) : fieldAt (bs.drop k) off n = fieldAt bs (k + off) n := by
  simp [fieldAt, List.drop_drop]

/-- A changed siding set is loaded, without a CRC (R233). -/
theorem putSiding_result (c : Container) {s : State} (hs : s.regsWf = true) :
    sidingState (putSiding c s) = sLoaded ∧ (putSiding c s).get F.CFG_SIDING_CRC_CRC = 0 ∧ (putSiding c s).sets.siding = some c := by
  unfold putSiding
  dsimp only
  split <;> simp +decide [sidingState, sLoaded, hs]

theorem armSiding_result (n : Nat) {s : State} (hs : s.regsWf = true) :
    sidingState (armSiding n s) = sArmed ∧ (armSiding n s).sets.throw = s.sets.throw := by
  simp +decide [armSiding, sidingState, sArmed, hs]

/-- Settles O7: the requests of the siding set, in the order of the statement. -/
theorem setRequests : Obligations.SetRequests := by
  refine ⟨?_, fun c => ?_, ?_, ?_, ?_, ?_, ?_, ?_⟩
  · refine serves_of_run (fun _ _ _ => rfl) rfl fun p s s1 ⟨free, first, opens, len, lo, hi, fit, hs⟩ admitted => ?_
    have free1 : throwBars s1 = false := (admitted.keeps throwBars fun _ _ _ => rfl).trans free
    have opens1 : opensLoad s1 (p.params.drop 4) = true := (admitted.keeps (opensLoad · _) fun _ _ _ => rfl).trans opens
    have ran : runSidingLoad p s1 = ok (putSiding (cWrite (freshContainer (fieldAt p.params 8 4)) 0 (p.params.drop 4))
        { s1 with sets := { s1.sets with modelOpen := [] } }) [] := by
      rw [List.length_drop] at len fit
      simp [runSidingLoad, free1, first, opens1, fieldAt_drop]
      omega
    rw [show OpInfo.run _ p s1 = _ from ran]
    exact ⟨rfl, rfl, putSiding_result _ (admitted.regsWf.trans hs)⟩
  · refine serves_of_run (fun _ _ _ => rfl) rfl fun p s s1 ⟨free, later, loaded, siding, fit⟩ admitted => ?_
    have free1 : throwBars s1 = false := (admitted.keeps throwBars fun _ _ _ => rfl).trans free
    have opens1 : opensLoad s1 (p.params.drop 4) = opensLoad s (p.params.drop 4) := admitted.keeps (opensLoad · _) fun _ _ _ => rfl
    have state1 : sidingState s1 = sidingState s := admitted.keeps sidingState fun _ _ _ => rfl
    have sets1 : s1.sets = s.sets := admitted.keeps State.sets fun _ _ _ => rfl
    simp only [runSidingLoad, free1, Bool.false_eq_true, if_false, opens1, later, state1, loaded, sets1, siding, Nat.not_lt.mpr fit, gt_iff_lt]
  · refine serves_of_run (fun _ _ _ => rfl) rfl fun p s s1 ⟨free, hs⟩ admitted => ?_
    have free1 : throwBars s1 = false := (admitted.keeps throwBars fun _ _ _ => rfl).trans free
    have wf := admitted.regsWf.trans hs
    simp +decide [runSidingClear, free1, ok, sidingState, sEmpty, wf]
  · refine serves_of_run (fun _ _ _ => rfl) rfl fun p s s1 ⟨free, whole⟩ admitted => ?_
    have free1 : throwBars s1 = false := (admitted.keeps throwBars fun _ _ _ => rfl).trans free
    simp [runSidingVerify, free1, whole]
  · refine serves_of_run (fun _ _ _ => rfl) rfl fun p s s1 ⟨crc, running⟩ admitted => ?_
    have crc1 : s1.get F.CFG_RUN_CRC_CRC = fieldAt p.params 0 4 := (admitted.keeps (State.get · _) fun _ _ _ => rfl).trans crc
    have running1 : s1.flag F.CFG_STATE_RUNNING = true := (admitted.keeps (State.flag · _) fun _ _ _ => rfl).trans running
    simp [Reports, runPointsThrow, crc1, running1]
  · refine serves_of_run (fun _ _ _ => rfl) rfl fun p s s1 ⟨other, busy⟩ admitted => ?_
    have other1 : ¬ (s1.get F.CFG_RUN_CRC_CRC = fieldAt p.params 0 4 ∧ s1.flag F.CFG_STATE_RUNNING = true) :=
      (admitted.keeps (fun u => u.get F.CFG_RUN_CRC_CRC = fieldAt p.params 0 4 ∧ u.flag F.CFG_STATE_RUNNING = true) fun _ _ _ => rfl) ▸ other
    have busy1 : throwBusy s1 = true := (admitted.keeps throwBusy fun _ _ _ => rfl).trans busy
    simp only [runPointsThrow, other1, if_false, busy1, if_true]
  · refine serves_of_run (fun _ _ _ => rfl) rfl fun p s s1 ⟨other, idle, ready, hs⟩ admitted => ?_
    have other1 : ¬ (s1.get F.CFG_RUN_CRC_CRC = fieldAt p.params 0 4 ∧ s1.flag F.CFG_STATE_RUNNING = true) :=
      (admitted.keeps (fun u => u.get F.CFG_RUN_CRC_CRC = fieldAt p.params 0 4 ∧ u.flag F.CFG_STATE_RUNNING = true) fun _ _ _ => rfl) ▸ other
    have idle1 : throwBusy s1 = false := (admitted.keeps throwBusy fun _ _ _ => rfl).trans idle
    have ready1 : sidingReady s1 (fieldAt p.params 0 4) = true := (admitted.keeps (sidingReady · _) fun _ _ _ => rfl).trans ready
    simp only [runPointsThrow, other1, if_false, idle1, Bool.false_eq_true, ready1, Bool.not_true]
    obtain ⟨armed, throw_⟩ := armSiding_result ((cycle32 s1 + s1.get F.CFG_LEAD_THROW_LEAD) % 4294967296)
      (s := { s1 with sets := { s1.sets with throw := some _ } }) (admitted.regsWf.trans hs)
    exact ⟨trivial, trivial, armed, _, throw_, rfl, rfl, rfl⟩
  · exact serves_of_run (fun _ _ _ => rfl) rfl fun p s s1 _ admitted => rfl

end Sys2Proof.Machine
end

section
/-!
The requests of navigation and steering (R500–R537).
-/

namespace Sys2Proof.Machine

/-- What a refused engagement answers. -/
def refusedEngage (k : Int) (r : Nat × Nat) (s : State) : Answer :=
  { st := s.put F.GNS_STEER_STATUS_REASON r.1, status := r.2, result := engageResult r.1 k }

theorem runSteerEngage_of_engaged {p : Request} {s : State} (target : p.target = 0#8) (on : engaged s = true)
    (same : fieldAt p.params 0 4 = s.reg Reg.GNS_GUIDE_ID) :
    runSteerEngage p s = ok (s.put F.UPD_RUN_PARKED 0) (engageResult 0 (s.gets F.GNS_STEER_STATUS_PASS)) := by
  simp [runSteerEngage, target, on, same]

theorem runSteerEngage_of_no_guide {p : Request} {s : State} (target : p.target = 0#8) (off : engaged s = false) (guide : s.nav.guide = none) :
    runSteerEngage p s = refusedEngage (s.gets F.GNS_STEER_STATUS_PASS) (6, St.noGuidance) s := by
  simp [runSteerEngage, target, off, guide, refusedEngage]

/-- The state after an engagement, before its event. -/
def engagedState (g : Guidance) (k : Int) (rev : Bool) (s : State) : State :=
  ((({ s with nav := { s.nav with reversed := rev, shiftNow := g.shift * 10 } } : State).puts F.GNS_STEER_STATUS_PASS k).put
    F.GNS_STEER_STATUS_ENGAGED 1).put F.UPD_RUN_PARKED 0

/-- Where all but the errors allow an engagement, the errors decide. -/
theorem engageRefusal_of_errors {s : State} {g : Guidance} {id : Nat} (e : F64 × F64 × F64)
    (free : engageRefusal s g id (some (some ⟨0, 0⟩, some ⟨0, 0⟩, some ⟨0, 0⟩)) = none) :
    engageRefusal s g id (some e) =
      if offBy e.1 (s.get F.GNS_STEER_ENG_ENG_XTE) = false ∧
          gLe (gAbs e.2.1) (gMul (gRat (s.get F.GNS_STEER_ENG_ENG_HE) 180) gPi) = true then none
      else some (7, St.noGuidance) := by
  obtain ⟨ey, epsi, kap⟩ := e
  unfold engageRefusal at *
  dsimp only at *
  repeat'
    split at free
    · cases free
  rename_i h1 h2 h3 h4 h5 h6 h7 h8 _
  rw [if_neg h1, if_neg h2, if_neg h3, if_neg h4, if_neg h5, if_neg h6, if_neg h7, if_neg h8]
  cases offBy ey (s.get F.GNS_STEER_ENG_ENG_XTE) <;> cases gLe (gAbs epsi) (gMul (gRat (s.get F.GNS_STEER_ENG_ENG_HE) 180) gPi) <;> rfl

/-- An engagement where every condition but the errors holds: the errors decide. -/
theorem runSteerEngage_of_errors {p : Request} {s : State} {g : Guidance} {b : BaseAt} (target : p.target = 0#8) (off : engaged s = false)
    (guide : s.nav.guide = some g) (base : baseAt s g (controlPoint s g) = some b)
    (free : engageRefusal s g (fieldAt p.params 0 4) (some (some ⟨0, 0⟩, some ⟨0, 0⟩, some ⟨0, 0⟩)) = none) :
    let k := passAt g b (controlPoint s g)
    let e := steerErrors s g b (controlPoint s g) k (g.shift * 10) (against s g b)
    runSteerEngage p s =
      if offBy e.1 (s.get F.GNS_STEER_ENG_ENG_XTE) = false ∧
          gLe (gAbs e.2.1) (gMul (gRat (s.get F.GNS_STEER_ENG_ENG_HE) 180) gPi) = true then
        ok (raise0 Src.GNS_STEER_ENGAGED (engagedState g k (against s g b) s)) (engageResult 0 k)
      else refusedEngage k (7, St.noGuidance) s := by
  intro k e
  have refusal := engageRefusal_of_errors e free
  have ran : runSteerEngage p s = match engageRefusal s g (fieldAt p.params 0 4) (some e) with
      | some r => refusedEngage (if r.1 = 7 then k else s.gets F.GNS_STEER_STATUS_PASS) r s
      | none => ok (raise0 Src.GNS_STEER_ENGAGED (engagedState g k (against s g b) s)) (engageResult 0 k) := by
    simp only [runSteerEngage, target, ne_eq, not_true_eq_false, if_false, off, Bool.false_eq_true, false_and, guide, base, engagedState]
    rfl
  rw [ran, refusal]
  split
  next r hr =>
    split at hr
    · cases hr
    next no =>
      obtain rfl := (Option.some.inj hr).symm
      rw [if_neg no]
      rfl
  next hr =>
    split at hr
    next yes => rw [if_pos yes]
    · cases hr

theorem engagedState_engaged (g : Guidance) (k : Int) (rev : Bool) {s : State} (hs : s.regsWf = true) :
    engaged (raise0 Src.GNS_STEER_ENGAGED (engagedState g k rev s)) = true ∧
      (raise0 Src.GNS_STEER_ENGAGED (engagedState g k rev s)).get F.UPD_RUN_PARKED = 0 := by
  simp +decide [engaged, engagedState, State.flag, hs]

/-- Steering that is engaged is released (R536). -/
theorem releaseSteer_released {reason : Nat} (fits : reason < 256) {s : State} (on : engaged s = true) (holder : isRelief s = false)
    (hs : s.regsWf = true) : Released reason (releaseSteer reason s) := by
  have small : reason < 2 ^ F.GNS_STEER_STATUS_REASON.width := fits
  simp +decide [Released, releaseSteer, on, holder, State.flag, hs, small]

theorem releaseSteer_of_off {reason : Nat} {s : State} (off : engaged s = false) : releaseSteer reason s = s := by
  simp [releaseSteer, off]

/-- New guidance, given while steering is off or changing SHIFT only (R530). -/
theorem runGuidanceSet_result {p : Request} {s : State} (target : p.target = 0#8) (good : guideOk p.params = true)
    (may : engaged s = false ∨ s.nav.guide.map (fun o => { o with shift := (guideOf p.params).shift }) = some (guideOf p.params))
    (hs : s.regsWf = true) :
    (runGuidanceSet p s).status = St.ok ∧ (runGuidanceSet p s).result = leBytes 4 (guideId p.params) ∧
      (runGuidanceSet p s).st.nav.guide = some (guideOf p.params) ∧
      (runGuidanceSet p s).st.reg Reg.GNS_GUIDE_ID = guideId p.params % 4294967296 := by
  cases hg : s.nav.guide with
  | none =>
    have off : engaged s = false := by simpa [hg] using may
    simp [runGuidanceSet, target, hg, good, off, ok, State.reg_setReg_same, hs]
  | some o =>
    by_cases same : { o with shift := (guideOf p.params).shift } = guideOf p.params
    · simp [runGuidanceSet, target, hg, good, same, ok, State.reg_setReg_same, hs]
    · have off : engaged s = false := by simpa [hg, same] using may
      simp [runGuidanceSet, target, hg, good, same, off, ok, State.reg_setReg_same, hs]

/-- The delay of the time pulse is set and stored (R512). -/
theorem runPpsDelaySet_result {p : Request} {s : State} (lo : -1000000 ≤ sfieldAt p.params 0 4) (hi : sfieldAt p.params 0 4 ≤ 1000000)
    (hs : s.regsWf = true) :
    (runPpsDelaySet p s).status = St.ok ∧ (runPpsDelaySet p s).st.gets F.GNS_PPS_DELAY_DELAY = sfieldAt p.params 0 4 ∧
      (runPpsDelaySet p s).st.nav.ppsStored = sfieldAt p.params 0 4 := by
  have inRange : ¬ (sfieldAt p.params 0 4 < -1000000 ∨ sfieldAt p.params 0 4 > 1000000) := by omega
  simp only [runPpsDelaySet, writePpsDelay, inRange, if_false, if_true, ok]
  exact ⟨rfl, gets_puts (s := { s with nav := _ }) rfl (by decide) hs (lo.trans' (by decide)) (hi.trans_lt (by decide)), by simp⟩

/-- Settles O12: the requests of navigation and steering, in the order of the statement. -/
theorem steeringRequests : Obligations.SteeringRequests := by
  refine ⟨?_, ?_, fun g b => ?_, ?_, ?_, ?_, ?_, ?_, ?_, ?_⟩
  · intro t p s acc target guide off _
    refine serves_of_run (op := 0x0700) (cond := fun p u => p.target = 0#8 ∧ u.nav.guide = none ∧ engaged u = false)
      (P := fun _ s a => a.status = St.noGuidance ∧ a.st = s.put F.GNS_STEER_STATUS_REASON 6)
      (fun _ _ _ => rfl) rfl (fun p u s1 ⟨target, guide, off⟩ admitted => ?_) t p s acc ⟨target, by simpa using guide, by simpa [engaged] using off⟩
    have nav1 : s1.nav = u.nav := admitted.keeps State.nav fun _ _ _ => rfl
    have off1 : engaged s1 = false := (admitted.keeps engaged fun _ _ _ => rfl).trans off
    rw [show OpInfo.run _ p s1 = _ from runSteerEngage_of_no_guide target off1 (by rw [nav1, guide])]
    exact ⟨rfl, rfl⟩
  · refine serves_of_run (fun _ _ _ => rfl) rfl fun p s s1 ⟨target, on, same⟩ admitted => ?_
    have on1 : engaged s1 = true := (admitted.keeps engaged fun _ _ _ => rfl).trans on
    exact runSteerEngage_of_engaged target on1 (same.trans (admitted.keeps (State.reg · _) fun _ _ _ => rfl).symm)
  · refine serves_of_run (fun _ _ _ => rfl) rfl fun p s s1 ⟨target, off, guide, base, free, hs⟩ admitted => ?_
    have off1 : engaged s1 = false := (admitted.keeps engaged fun _ _ _ => rfl).trans off
    have guide1 : s1.nav.guide = some g := (admitted.keeps (fun u => u.nav.guide) fun _ _ _ => rfl).trans guide
    have base1 : baseAt s1 g (controlPoint s1 g) = some b :=
      (admitted.keeps (fun u => baseAt u g (controlPoint u g)) fun _ _ _ => rfl).trans base
    have free1 := (admitted.keeps (fun u => engageRefusal u g (fieldAt p.params 0 4) (some (some ⟨0, 0⟩, some ⟨0, 0⟩, some ⟨0, 0⟩)))
      fun _ _ _ => rfl).trans free
    rw [show OpInfo.run _ p s1 = _ from runSteerEngage_of_errors target off1 guide1 base1 free1]
    dsimp only
    split
    · exact ⟨rfl, (engagedState_engaged _ _ _ (admitted.regsWf.trans hs)).1, (engagedState_engaged _ _ _ (admitted.regsWf.trans hs)).2, rfl⟩
    · exact ⟨rfl, rfl, rfl⟩
  · refine serves_of_run (fun _ _ _ => rfl) rfl fun p s s1 ⟨target, on, holder, hs⟩ admitted => ?_
    have on1 : engaged s1 = true := (admitted.keeps engaged fun _ _ _ => rfl).trans on
    have holder1 : isRelief s1 = false := (admitted.keeps isRelief fun _ _ _ => rfl).trans holder
    rw [show OpInfo.run _ p s1 = ok (releaseSteer 1 s1) [] from if_neg (fun k => k target)]
    exact ⟨rfl, rfl, releaseSteer_released (by decide) on1 holder1 (admitted.regsWf.trans hs)⟩
  · refine serves_of_run (fun _ _ _ => rfl) rfl fun p s s1 ⟨target, off⟩ admitted => ?_
    have off1 : engaged s1 = false := (admitted.keeps engaged fun _ _ _ => rfl).trans off
    simp [Reports, runSteerRelease, target, releaseSteer_of_off off1]
  · refine serves_of_run (fun _ _ _ => rfl) rfl fun p s s1 ⟨target, good, hs, may⟩ admitted => ?_
    have may1 := (admitted.keeps (fun u => engaged u = false ∨
      u.nav.guide.map (fun (o : Guidance) => { o with shift := (guideOf p.params).shift }) = some (guideOf p.params)) fun _ _ _ => rfl).symm ▸ may
    exact runGuidanceSet_result target good may1 (admitted.regsWf.trans hs)
  · refine serves_of_run (fun _ _ _ => rfl) rfl fun p s s1 ⟨target, one⟩ _ => ?_
    simp [runRtcmFeed, target, one]
  · refine serves_of_run (fun _ _ _ => rfl) rfl fun p s s1 which _ => ?_
    simp only [Reports, runGnssStatus, which, if_true]
  · refine serves_of_run (fun _ _ _ => rfl) rfl fun p s s1 which _ => ?_
    obtain one | two := which
    · simp [Reports, runGnssStatus, one]
    · simp [Reports, runGnssStatus, two]
  · exact serves_of_run (fun _ _ _ => rfl) rfl fun p s s1 ⟨lo, hi, hs⟩ admitted => runPpsDelaySet_result lo hi (admitted.regsWf.trans hs)

end Sys2Proof.Machine
end

section
/-!
The requests of yield mapping (R565–R570).
-/

namespace Sys2Proof.Machine

/-- The numbers of the fields in the store. -/
def fieldIds (s : State) : List Nat := s.yld.fields.map (·.id)

theorem findField_eq_none {s : State} {id : Nat} : findField s id = none ↔ id ∉ fieldIds s := by
  simp [findField, fieldIds, List.find?_eq_none]

theorem fieldIds_modField {f : Field → Field} (keeps : ∀ x, (f x).id = x.id) (id : Nat) (s : State) :
    fieldIds (modField id f s) = fieldIds s := by
  simp only [fieldIds, modField, List.map_map]
  refine List.map_congr_left fun x _ => ?_
  simp only [Function.comp]
  split
  · exact keeps x
  · rfl

theorem fieldIds_flushField (s : State) : fieldIds (flushField s) = fieldIds s := by
  unfold flushField
  split
  · rfl
  · exact fieldIds_modField (f := fun f => { f with data := s.yld.live }) (fun _ => rfl) _ _

theorem fieldIds_closeField (s : State) : fieldIds (closeField s) = fieldIds s := by
  unfold closeField
  split
  · rfl
  next id _ =>
    simp only [fieldIds, raise0_eq, raiseArg_yld]
    exact (fieldIds_modField (f := fun f => { f with genF := (f.genF + 1) % 4294967296 }) (fun _ => rfl) id _).trans
      (fieldIds_flushField (modLive _ s))

theorem closeField_openId (s : State) : (closeField s).yld.openId = none := by
  unfold closeField
  split
  next none_ => exact none_
  · simp

theorem openField_yld (f : Field) (s : State) : (openField f s).yld.openId = some f.id ∧ (openField f s).yld.fields = s.yld.fields := by
  simp [openField]

/-- Settles O13: the requests of yield mapping, in the order of the statement. -/
theorem yieldRequests : Obligations.YieldRequests := by
  refine ⟨fun f => ?_, ?_, ?_, ?_, ?_, ?_, ?_, fun f => ?_, fun f => ?_, fun f => ?_⟩
  · refine serves_of_run (fun _ _ _ => rfl) rfl fun p s s1 ⟨target, given, other, found, id, lat, lon, hgt⟩ admitted => ?_
    have yld : s1.yld = s.yld := admitted.keeps State.yld fun _ _ _ => rfl
    have found1 : findField s1 (fieldAt p.params 0 4) = some f := by rw [findField, yld]; exact found
    have ran : runFieldOpen p s1 = ok (openField f (closeField s1)) [] := by
      simp [runFieldOpen, target, given, yld, other, found1, lat, lon, hgt]
    rw [show OpInfo.run _ p s1 = _ from ran]
    exact ⟨rfl, (openField_yld _ _).1.trans (by rw [id])⟩
  · refine serves_of_run (fun _ _ _ => rfl) rfl fun p s s1 ⟨target, given, other, new, free, room⟩ admitted => ?_
    have yld : s1.yld = s.yld := admitted.keeps State.yld fun _ _ _ => rfl
    have new1 : findField s1 (fieldAt p.params 0 4) = none := by rw [findField, yld]; exact new
    have free1 : ¬ (storeFree s1 < 268435456 ∨ 128 ≤ s.yld.fields.length) := by
      have same : storeFree s1 = storeFree s := admitted.keeps storeFree fun _ _ _ => rfl
      omega
    obtain ⟨f, id, lat, lon, hgt, name, gen, ran⟩ : ∃ f : Field, f.id = fieldAt p.params 0 4 ∧ f.lat = sfieldAt p.params 4 8 ∧
        f.lon = sfieldAt p.params 12 8 ∧ f.hgt = sfieldAt p.params 20 4 ∧ f.name = (p.params.drop 24).take 16 ∧ f.genF = 0 ∧
        runFieldOpen p s1 = ok (openField f { closeField s1 with
          yld := { (closeField s1).yld with fields := (closeField s1).yld.fields ++ [f] } }) [] := by
      refine ⟨_, ?_, ?_, ?_, ?_, ?_, ?_, by simp only [runFieldOpen, target, given, yld, other, new1, free1, ne_eq, not_true_eq_false, if_false]; rfl⟩ <;> rfl
    rw [show OpInfo.run _ p s1 = _ from ran]
    refine ⟨rfl, (openField_yld _ _).1.trans (by rw [id]), f, ?_, lat, lon, hgt, name, gen⟩
    have closed : findField (closeField s1) (fieldAt p.params 0 4) = none := by
      rw [findField_eq_none, fieldIds_closeField]
      exact findField_eq_none.mp new1
    simp only [findField, ok, openField_yld] at closed ⊢
    simp [List.find?_append, closed, id]
  · refine serves_of_run (fun _ _ _ => rfl) rfl fun p s s1 ⟨target, given, same⟩ admitted => ?_
    have yld : s1.yld = s.yld := admitted.keeps State.yld fun _ _ _ => rfl
    simp [Reports, runFieldOpen, target, given, yld, same]
  · refine serves_of_run (fun _ _ _ => rfl) rfl fun p s s1 ⟨target, act, same⟩ admitted => ?_
    have yld : s1.yld = s.yld := admitted.keeps State.yld fun _ _ _ => rfl
    have ran : runFieldClose p s1 = ok (closeField s1) [] := by simp [runFieldClose, target, act, yld, same]
    rw [show OpInfo.run _ p s1 = _ from ran]
    exact ⟨rfl, closeField_openId s1⟩
  · refine serves_of_run (fun _ _ _ => rfl) rfl fun p s s1 ⟨target, act, other⟩ admitted => ?_
    have yld : s1.yld = s.yld := admitted.keeps State.yld fun _ _ _ => rfl
    simp [Reports, runFieldClose, target, act, yld, other]
  · refine serves_of_run (fun _ _ _ => rfl) rfl fun p s s1 ⟨target, act, other⟩ admitted => ?_
    have yld : s1.yld = s.yld := admitted.keeps State.yld fun _ _ _ => rfl
    simp [runFieldClose, target, act, yld, other]
  · exact serves_of_run (fun _ _ _ => rfl) rfl fun p s s1 _ _ => rfl
  · refine serves_of_run (fun _ _ _ => rfl) rfl fun p s s1 ⟨found, kind, lo, hi, fit⟩ admitted => ?_
    have found1 : findField s1 (fieldAt p.params 0 4) = some f := (admitted.keeps (findField · _) fun _ _ _ => rfl).trans found
    have range1 : ¬ (fieldAt p.params 6 1 = 0 ∨ fieldAt p.params 6 1 > 3 ∨ fieldAt p.params 5 1 + fieldAt p.params 6 1 > 32) := by omega
    simp only [Reports, runYieldTileRead, found1, kind, if_true, range1, if_false]
  · refine serves_of_run (fun _ _ _ => rfl) rfl fun p s s1 ⟨found, kind⟩ admitted => ?_
    have found1 : findField s1 (fieldAt p.params 0 4) = some f := (admitted.keeps (findField · _) fun _ _ _ => rfl).trans found
    simp [Reports, runYieldTileRead, found1, kind]
  · refine serves_of_run (fun _ _ _ => rfl) rfl fun p s s1 ⟨target, file, lo, hi, other, found⟩ admitted => ?_
    have yld : s1.yld = s.yld := admitted.keeps State.yld fun _ _ _ => rfl
    have found1 : findField s1 (fieldAt p.params 0 4) = some f := (admitted.keeps (findField · _) fun _ _ _ => rfl).trans found
    have range1 : ¬ (fieldAt p.params 4 1 > 2 ∨ fieldAt p.params 12 2 = 0 ∨ fieldAt p.params 12 2 > 1384 ∨
        s.yld.openId = some (fieldAt p.params 0 4)) := by
      rintro (k | k | k | k)
      · omega
      · omega
      · omega
      · exact other k
    simp only [Reports, runTaskExport, target, ne_eq, not_true_eq_false, if_false, yld, range1, found1]

end Sys2Proof.Machine
end

section
/-!
The requests of the consist (R580–R594).
-/

namespace Sys2Proof.Machine

/-! ### A consist datagram that leaves -/

/-- What the sending of a consist datagram changes: the sequence, KEY_ID and what has left. -/
theorem sendConsist_cases (type consist member : Nat) (payload : Bytes) (s : State) :
    sendConsist type consist member payload s = s ∨ ∃ next end_ mark key e, sendConsist type consist member payload s =
      emit e ((modCst (fun c => { c with seqNext := next, seqEnd := end_, seqMark := mark }) s).put F.CST_STATUS_KEY_ID key) := by
  unfold sendConsist
  split
  · exact .inl rfl
  next k _ =>
    refine .inr ?_
    dsimp only
    split
    · exact ⟨_, s.cst.seqEnd, s.cst.seqMark, k.keyId, _, rfl⟩
    · exact ⟨_, _, _, k.keyId, _, rfl⟩

theorem sendConsist_stands {type consist member : Nat} {payload : Bytes} {s : State} {g : Fld} (ha : F.CST_STATUS_KEY_ID.apart g = true) :
    FieldStands g s (sendConsist type consist member payload s) := by
  obtain h | ⟨_, _, _, _, _, h⟩ := sendConsist_cases type consist member payload s
  · rw [h]
    exact .refl
  · rw [h]
    exact ((FieldStands.refl.parts : FieldStands g s (modCst _ s)).put ha).parts

theorem sendConsist_regsWf {type consist member : Nat} {payload : Bytes} {s : State} (hs : s.regsWf = true) :
    (sendConsist type consist member payload s).regsWf = true := (sendConsist_stands (g := F.CST_RDV_REASON) rfl hs).1

theorem sendConsist_rdv (type consist member : Nat) (payload : Bytes) (s : State) :
    (sendConsist type consist member payload s).cst.rdv = s.cst.rdv := by
  obtain h | ⟨_, _, _, _, _, h⟩ := sendConsist_cases type consist member payload s <;> rw [h]
  rfl

/-! ### The rendezvous -/

theorem sendRdv_rdv (id kind target side reason eta : Nat) (s : State) :
    (sendRdv id kind target side reason eta s).cst.rdv = s.cst.rdv := by
  unfold sendRdv
  split
  · rfl
  · exact sendConsist_rdv _ _ _ _ s

theorem sendRdv_stands {id kind target side reason eta : Nat} {s : State} {g : Fld} (ha : F.CST_STATUS_KEY_ID.apart g = true) :
    FieldStands g s (sendRdv id kind target side reason eta s) := .ite .refl (sendConsist_stands ha)

theorem setRdvState_rdv (st partner : Nat) (s : State) : (setRdvState st partner s).cst.rdv = s.cst.rdv := by
  unfold setRdvState
  dsimp only
  split <;> simp

theorem setRdvState_result {st : Nat} (hst : st < 2 ^ F.CST_RDV_RDV_STATE.width) (partner : Nat) {s : State} (hs : s.regsWf = true) :
    (setRdvState st partner s).regsWf = true ∧ (setRdvState st partner s).get F.CST_RDV_RDV_STATE = st ∧
      (setRdvState st partner s).get F.CST_RDV_REASON = s.get F.CST_RDV_REASON := by
  unfold setRdvState
  dsimp only
  split <;> simp +decide [hs, hst]

/-- A rendezvous is ended (R593). -/
theorem endRdv_of_some {reason : Nat} {s : State} (hr : s.cst.rdv.isSome = true) : ∃ u, FieldStands F.CST_RDV_RDV_STATE s u ∧
    endRdv reason s = setRdvState 0 0xFF ((modCst (fun c => { c with rdv := none }) u).put F.CST_RDV_REASON reason) := by
  obtain ⟨r, hr⟩ := Option.isSome_iff_exists.mp hr
  unfold endRdv
  rw [hr]
  exact ⟨_, .ite .refl (sendRdv_stands rfl), rfl⟩

theorem endRdv_regsWf {reason : Nat} {s : State} (hs : s.regsWf = true) : (endRdv reason s).regsWf = true := by
  cases hr : s.cst.rdv with
  | none => simpa [endRdv, hr] using hs
  | some r =>
    obtain ⟨u, stands, ended⟩ := endRdv_of_some (reason := reason) (s := s) (by rw [hr]; rfl)
    have wf : ((modCst (fun c => { c with rdv := none }) u).put F.CST_RDV_REASON reason).regsWf = true :=
      State.regsWf_setReg (modCst _ u) _ _ (stands hs).1
    rw [ended]
    exact (setRdvState_result (by decide) _ wf).1

/-! ### The consist left -/

theorem leaveTable_result {s : State} (hs : s.regsWf = true) :
    (leaveTable s).regsWf = true ∧ cstState (leaveTable s) = cstOut ∧ consistId (leaveTable s) = 0 ∧ (leaveTable s).cst.members = [] := by
  refine ⟨?_, ?_, ?_, rfl⟩ <;> simp +decide [leaveTable, cstState, cstOut, consistId, State.reg_setReg_same, hs]

theorem leaveConsist_regsWf {s : State} (hs : s.regsWf = true) : (leaveConsist s).regsWf = true := by
  unfold leaveConsist
  split
  · exact (leaveTable_result (endRdv_regsWf hs)).1
  · split
    · exact hs
    · exact (leaveTable_result (s := modCst _ _) (sendConsist_regsWf (endRdv_regsWf hs))).1

/-- A member, or a module stopped by a conflict, leaves (R583). -/
theorem leaveConsist_result {s : State} (in_ : cstState s = cstMember ∨ cstState s = cstConflict) (hs : s.regsWf = true) :
    cstState (leaveConsist s) = cstOut ∧ consistId (leaveConsist s) = 0 ∧ (leaveConsist s).cst.members = [] := by
  unfold leaveConsist
  split
  · exact (leaveTable_result (endRdv_regsWf hs)).2
  next other =>
    rw [if_neg (not_not.mpr (in_.resolve_right other))]
    exact (leaveTable_result (s := modCst _ _) (sendConsist_regsWf (endRdv_regsWf hs))).2

/-- A module listens for the members of its consist (R581). -/
theorem startListening_result {id st : Nat} (fits : id < 2 ^ 32) (hst : st < 2 ^ F.CST_STATUS_STATE.width) {s : State} (hs : s.regsWf = true) :
    cstState (startListening id st s) = st ∧ consistId (startListening id st s) = id ∧
      (startListening id st s).cst.listenEnd = some ((startListening id st s).now + 3 * sec) := by
  refine ⟨?_, ?_, rfl⟩
  · simp +decide [startListening, cstState, hs, hst]
  · simp +decide [startListening, consistId, State.reg_setReg_same, hs]; exact fits

/-- A rendezvous is asked for (R588). -/
theorem runRendezvousRequest_ask {p : Request} {s : State} (target : p.target = 0#8) (act : fieldAt p.params 0 1 = 1) (free : s.cst.rdv = none)
    (member : cstState s = cstMember) (side : fieldAt p.params 2 1 ≤ 1) (whom : fieldAt p.params 1 1 ≤ 31 ∨ fieldAt p.params 1 1 = 0xFF) :
    (runRendezvousRequest p s).status = St.ok ∧ ∃ r, (runRendezvousRequest p s).st.cst.rdv = some r ∧ r.requester = true ∧
      r.side = fieldAt p.params 2 1 ∧ r.target = fieldAt p.params 1 1 ∧ r.id = ownMember s * 16777216 + s.cst.rdvCount % 16777216 := by
  have may : (s.cst.rdv.isSome || cstState s ≠ cstMember || fieldAt p.params 2 1 > 1 ||
      !(fieldAt p.params 1 1 ≤ 31 || fieldAt p.params 1 1 == 0xFF)) = false := by
    simp [free, member]
    omega
  simp only [runRendezvousRequest, target, ne_eq, not_true_eq_false, if_false, act, if_true]
  rw [if_neg (by simpa using may)]
  refine ⟨rfl, _, (setRdvState_rdv _ _ _).trans (sendRdv_rdv _ _ _ _ _ _ _), rfl, rfl, rfl, rfl⟩

/-- A rendezvous is ended by request (R593). -/
theorem endRdv_result {s : State} (hr : s.cst.rdv.isSome = true) (hs : s.regsWf = true) :
    (endRdv 1 s).cst.rdv = none ∧ (endRdv 1 s).get F.CST_RDV_RDV_STATE = 0 ∧ (endRdv 1 s).get F.CST_RDV_REASON = 1 := by
  obtain ⟨u, stands, ended⟩ := endRdv_of_some (reason := 1) hr
  have wf : (modCst (fun c => { c with rdv := none }) u).regsWf = true := (stands hs).1
  obtain ⟨-, state, reason⟩ := setRdvState_result (st := 0) (by decide) 0xFF (State.regsWf_setReg _ F.CST_RDV_REASON.addr
    (setBitsAt ((modCst (fun c => { c with rdv := none }) u).reg F.CST_RDV_REASON.addr) F.CST_RDV_REASON.lo F.CST_RDV_REASON.width 1) wf)
  rw [ended]
  exact ⟨setRdvState_rdv _ _ _, state, reason.trans (State.get_put_of_lt rfl (by decide) wf)⟩

/-- Settles O14: the requests of the consist, in the order of the statement. -/
theorem consistRequests : Obligations.ConsistRequests := by
  refine ⟨?_, ?_, ?_, ?_, ?_, ?_, ?_, ?_, ?_, ?_⟩
  · refine serves_of_run (fun _ _ _ => rfl) rfl fun p s s1 ⟨target, other, on, hs, keyed⟩ admitted => ?_
    have other1 := (admitted.keeps (fun u => cstState u = cstMember ∧ consistId u = fieldAt p.params 0 4) fun _ _ _ => rfl).symm ▸ other
    have on1 : consistOn s1 = true := (admitted.keeps consistOn fun _ _ _ => rfl).trans on
    have cst : s1.cst = s.cst := admitted.keeps State.cst fun _ _ _ => rfl
    have ran : runConsistJoin p s1 =
        { st := startListening (fieldAt p.params 0 4) cstJoining (leaveTable (leaveConsist s1)), job := some .listen } := by
      simp [runConsistJoin, target, other1, on1, cst, keyed]
    rw [show OpInfo.run _ p s1 = _ from ran]
    exact ⟨rfl, startListening_result (fieldAt_lt _ _ 4) (by decide)
      (leaveTable_result (leaveConsist_regsWf (admitted.regsWf.trans hs))).1⟩
  · refine serves_of_run (fun _ _ _ => rfl) rfl fun p s s1 ⟨target, member, same⟩ admitted => ?_
    have member1 : cstState s1 = cstMember := (admitted.keeps cstState fun _ _ _ => rfl).trans member
    have same1 : consistId s1 = fieldAt p.params 0 4 := (admitted.keeps consistId fun _ _ _ => rfl).trans same
    simp [Reports, runConsistJoin, target, member1, same1]
  · refine serves_of_run (fun _ _ _ => rfl) rfl fun p s s1 ⟨target, in_, hs⟩ admitted => ?_
    have in1 := (admitted.keeps (fun u => cstState u = cstMember ∨ cstState u = cstConflict) fun _ _ _ => rfl).symm ▸ in_
    rw [show OpInfo.run _ p s1 = ok (leaveConsist s1) [] from if_neg (fun k => k target)]
    exact ⟨rfl, leaveConsist_result in1 (admitted.regsWf.trans hs)⟩
  · refine serves_of_run (fun _ _ _ => rfl) rfl fun p s s1 target _ => ?_
    rw [show OpInfo.run _ p s1 = _ from if_neg (fun k => k target)]
    exact ⟨rfl, _, rfl, rfl, rfl, fun x hx => by rw [hx]⟩
  · refine serves_of_run (fun _ _ _ => rfl) rfl fun p s s1 first _ => ?_
    have words := registerBytes_eq (s := s1) (a := Reg.CST_STATUS) (n := 6) (fun a => (consistOverlay s1 a).getD (s1.reg a)) fun i hi =>
      readWord_of_block (b := .CST) (blockOf_of_bounds .CST (by simp [Block.first, Reg.CST_STATUS]; omega)
        (by simp [Block.last, Reg.CST_STATUS]; omega)) (by decide)
    simp [Reports, runConsistStatus, first, words]
  · refine serves_of_run (fun _ _ _ => rfl) rfl fun p s s1 second _ => ?_
    simp [Reports, runConsistStatus, second]
  · refine serves_of_run (fun _ _ _ => rfl) rfl fun p s s1 ⟨target, act, free, member, side, whom⟩ admitted => ?_
    have cst : s1.cst = s.cst := admitted.keeps State.cst fun _ _ _ => rfl
    have member1 : cstState s1 = cstMember := (admitted.keeps cstState fun _ _ _ => rfl).trans member
    exact runRendezvousRequest_ask target act (by rw [cst, free]) member1 side whom
  · refine serves_of_run (fun _ _ _ => rfl) rfl fun p s s1 ⟨target, act, open_, hs⟩ admitted => ?_
    have cst : s1.cst = s.cst := admitted.keeps State.cst fun _ _ _ => rfl
    have ran : runRendezvousRequest p s1 = ok (endRdv 1 s1) [] := by simp [runRendezvousRequest, target, act]
    rw [show OpInfo.run _ p s1 = _ from ran]
    exact ⟨rfl, endRdv_result (by rw [cst, open_]) (admitted.regsWf.trans hs)⟩
  · refine serves_of_run (fun _ _ _ => rfl) rfl fun p s s1 ⟨target, act, free⟩ admitted => ?_
    have cst : s1.cst = s.cst := admitted.keeps State.cst fun _ _ _ => rfl
    simp [Reports, runRendezvousRequest, target, act, endRdv, cst, free]
  · refine serves_of_run (fun _ _ _ => rfl) rfl fun p s s1 ⟨target, lo, hi, _⟩ _ => ?_
    obtain act | act : fieldAt p.params 0 1 = 3 ∨ fieldAt p.params 0 1 = 4 := by omega
    · simp [runRendezvousRequest, target, act]
    · simp [runRendezvousRequest, target, act]

end Sys2Proof.Machine
end

section
/-!
The requests of data streams and of the logbook (R690–R697, R730, R731).
-/

namespace Sys2Proof.Machine

/-- The registers of a data stream that has been opened. -/
def openedStream (n : Nat) (p : Request) (s : State) : State :=
  let ps := p.params
  let s := modData n (fun _ => { x0 := fieldAt ps 4 2, y0 := fieldAt ps 6 2, w := fieldAt ps 8 2, h := fieldAt ps 10 2 }) s
  let s := ((((s.put (F.DMA_STR_CFG_OPEN n) 1).put (F.DMA_STR_CFG_SOURCE n) (fieldAt ps 0 1)).put (F.DMA_STR_CFG_SINK n)
    (fieldAt ps 2 1)).put (F.DMA_STR_CFG_SLOT n) (fieldAt ps 1 1)).put (F.DMA_STR_CFG_DECIM n) (fieldAt ps 3 1)
  ((s.put (F.DMA_STR_CFG_SESSION n) p.session.toNat).put (F.DMA_STR_PORT_UDP_PORT n) (fieldAt ps 14 2)).put
    (F.DMA_STR_PORT_RATE n) (fieldAt ps 12 2)

theorem openedStream_gets {n : Nat} (hn : n < 4) {p : Request} {s : State} (hs : s.regsWf = true) :
    (openedStream n p s).flag (F.DMA_STR_CFG_OPEN n) = true ∧
      (openedStream n p s).get (F.DMA_STR_CFG_SINK n) = fieldAt p.params 2 1 % 2 ^ (F.DMA_STR_CFG_SINK n).width ∧
      (openedStream n p s).get (F.DMA_STR_PORT_RATE n) = fieldAt p.params 12 2 % 2 ^ (F.DMA_STR_PORT_RATE n).width ∧
      (openedStream n p s).get (F.DMA_STR_CFG_SLOT n) = fieldAt p.params 1 1 % 2 ^ (F.DMA_STR_CFG_SLOT n).width ∧
      (openedStream n p s).get (F.DMA_STR_PORT_UDP_PORT n) = fieldAt p.params 14 2 % 2 ^ (F.DMA_STR_PORT_UDP_PORT n).width := by
  interval_cases n <;> refine ⟨?_, ?_, ?_, ?_, ?_⟩ <;> simp +decide [openedStream, State.flag, State.get_put_mod, hs]

theorem openedStream_result {n : Nat} (hn : n < 4) {p : Request} {s : State} (sink : fieldAt p.params 2 1 < 2) (hs : s.regsWf = true) :
    (openedStream n p s).flag (F.DMA_STR_CFG_OPEN n) = true ∧ (openedStream n p s).get (F.DMA_STR_CFG_SINK n) = fieldAt p.params 2 1 ∧
      (openedStream n p s).get (F.DMA_STR_PORT_RATE n) = fieldAt p.params 12 2 ∧
      (openedStream n p s).get (F.DMA_STR_CFG_SLOT n) = fieldAt p.params 1 1 % 2 ^ (F.DMA_STR_CFG_SLOT n).width ∧
      (openedStream n p s).get (F.DMA_STR_PORT_UDP_PORT n) = fieldAt p.params 14 2 := by
  obtain ⟨open_, sink_, rate, slot, port⟩ := openedStream_gets hn (p := p) hs
  exact ⟨open_, sink_.trans (Nat.mod_eq_of_lt sink), rate.trans (Nat.mod_eq_of_lt (fieldAt_lt _ _ 2)), slot,
    port.trans (Nat.mod_eq_of_lt (fieldAt_lt _ _ 2))⟩

theorem streamParamsGood_sink {s : State} {ps : Bytes} (good : streamParamsGood s ps = true) : fieldAt ps 2 1 < 2 := by
  simp only [streamParamsGood, Bool.and_eq_true, decide_eq_true_eq] at good
  omega

/-- A data stream is opened in the first slot that is free (R690). -/
theorem runStreamOpen_of_free {p : Request} {s : State} {n : Nat} (good : streamParamsGood s p.params = true)
    (live : streamRetired s (fieldAt p.params 1 1) = false) (free : (upFrom 0 4).find? (fun k => !s.flag (F.DMA_STR_CFG_OPEN k)) = some n)
    (sink : fieldAt p.params 2 1 = 0 ∨ diagTaken s = false) (new : sameStream s p = none) :
    runStreamOpen p s = ok (openedStream n p s) (leBytes 1 n ++ leBytes 3 0) := by
  have may : ¬ (fieldAt p.params 2 1 = 1 ∧ diagTaken s = true) := by
    rintro ⟨one, taken⟩
    obtain zero | no := sink
    · omega
    · simp [no] at taken
  simp only [runStreamOpen, good, live, free, new, may, Bool.not_true, Bool.false_eq_true, if_false, openedStream]

/-- Settles O15: the requests of data streams and of the logbook, in the order of the statement. -/
theorem transferAndLogbookRequests : Obligations.TransferAndLogbookRequests := by
  refine ⟨fun n => ?_, ?_, ?_, ?_, ?_, ?_, ?_⟩
  · refine serves_of_run (fun _ _ _ => rfl) rfl fun p s s1 ⟨good, live, free, sink, new, hs⟩ admitted => ?_
    have good1 : streamParamsGood s1 p.params = true := (admitted.keeps (streamParamsGood · _) fun _ _ _ => rfl).trans good
    have live1 : streamRetired s1 (fieldAt p.params 1 1) = false := (admitted.keeps (streamRetired · _) fun _ _ _ => rfl).trans live
    have free1 := (admitted.keeps (fun u => (upFrom 0 4).find? (fun k => !u.flag (F.DMA_STR_CFG_OPEN k))) fun _ _ _ => rfl).trans free
    have sink1 := (admitted.keeps (fun u => fieldAt p.params 2 1 = 0 ∨ diagTaken u = false) fun _ _ _ => rfl).symm ▸ sink
    have new1 : sameStream s1 p = none := (admitted.keeps (sameStream · p) fun _ _ _ => rfl).trans new
    have hn : n < 4 := by simpa using List.mem_of_find?_eq_some free
    rw [show OpInfo.run _ p s1 = _ from runStreamOpen_of_free good1 live1 free1 sink1 new1]
    exact ⟨rfl, rfl, openedStream_result hn (streamParamsGood_sink good) (admitted.regsWf.trans hs)⟩
  · refine serves_of_run (fun _ _ _ => rfl) rfl fun p s s1 ⟨hn, open_⟩ admitted => ?_
    have open1 := (admitted.keeps (State.flag · (F.DMA_STR_CFG_OPEN (fieldAt p.params 0 1))) fun _ _ _ => rfl).trans open_
    have exists_ : ¬ 4 ≤ fieldAt p.params 0 1 := by omega
    simp [runStreamClose, exists_, open1]
  · refine serves_of_run (fun _ _ _ => rfl) rfl fun p s s1 ⟨hn, closed⟩ admitted => ?_
    have closed1 := (admitted.keeps (State.flag · (F.DMA_STR_CFG_OPEN (fieldAt p.params 0 1))) fun _ _ _ => rfl).trans closed
    have exists_ : ¬ 4 ≤ fieldAt p.params 0 1 := by omega
    simp [Reports, runStreamClose, exists_, closed1]
  · refine serves_of_run (fun _ _ _ => rfl) rfl fun p s s1 ⟨part, lo, hi⟩ _ => ?_
    have may : ¬ (fieldAt p.params 8 2 = 0 ∨ fieldAt p.params 8 2 > 43) := by omega
    simp [Reports, runLogbookRead, part, may]
  · refine serves_of_run (fun _ _ _ => rfl) rfl fun p s s1 ⟨part, first, lo, hi⟩ _ => ?_
    have may : ¬ (fieldAt p.params 4 4 > 63 ∨ fieldAt p.params 8 2 = 0 ∨ fieldAt p.params 8 2 > 10) := by omega
    simp [Reports, runLogbookRead, part, may]
  · refine serves_of_run (fun _ _ _ => rfl) rfl fun p s s1 ⟨part, first, lo, hi⟩ _ => ?_
    have may : ¬ (fieldAt p.params 4 4 > 255 ∨ fieldAt p.params 8 2 = 0 ∨ fieldAt p.params 8 2 > 114) := by omega
    simp [Reports, runLogbookRead, part, may]
  · refine serves_of_run (fun _ _ _ => rfl) rfl fun p s s1 ⟨lo, hi⟩ _ => ?_
    have may : ¬ (fieldAt p.params 2 2 = 0 ∨ fieldAt p.params 2 2 > 87) := by omega
    simp only [Reports, runRetirementRead, may, if_false]

end Sys2Proof.Machine
end

section
/-!
The requests of images and update runs (R752–R769).
-/

namespace Sys2Proof.Machine

theorem fieldAt_take {bs : Bytes} {k off n : Nat} (h : off + n ≤ k) : fieldAt (bs.take k) off n = fieldAt bs off n := by
  simp only [fieldAt, List.drop_take, List.take_take]
  rw [Nat.min_eq_left (by omega)]

theorem slotFld_lt {d k : Nat} : (slotFld d k).fits = true := by
  unfold slotFld
  split <;> rfl

theorem slotState_setSlotState {d k v : Nat} (hv : v < 8) {s : State} (hs : s.regsWf = true) : slotState (setSlotState d k v s) d k = v := by
  unfold slotState setSlotState slotFld
  split
  · exact State.get_put_of_lt rfl hv hs
  · exact State.get_put_of_lt rfl hv hs

/-- The first missing byte is no state of a slot. -/
theorem slotState_putProgress {d k v : Nat} (hd : d ≤ 1) {s : State} (hs : s.regsWf = true) :
    slotState (s.put F.UPD_PROGRESS_FIRST_MISSING v) d k = slotState s d k := by
  have apart : F.UPD_PROGRESS_FIRST_MISSING.apart (slotFld d k) = true := by
    unfold slotFld
    obtain rfl | rfl : d = 0 ∨ d = 1 := by omega
    all_goals split <;> rfl
  exact State.get_put_of_apart apart hs

/-- A slot that is set holds its image. -/
theorem imageSlot_setSlot {d k st : Nat} {x : ImageSlot} {s : State} (hd : d ≤ 1) (hk : k ≤ 1) (four : s.upd.slots.length = 4) :
    imageSlot (setSlot d k st x s) d k = x := by
  have inList : 2 * d + k < s.upd.slots.length := by omega
  exact nth_setNth_same x _ inList

theorem trialSlot_eq_none {s : State} {d : Nat} (h : s.get (F.UPD_SLOT_TRIAL d) = 0) : trialSlot s d = none := by simp [trialSlot, h]

theorem trialSlot_le {s : State} {d k : Nat} (h : trialSlot s d = some k) : k ≤ 1 := by
  unfold trialSlot at h
  split at h
  · simp at h; omega
  · split at h <;> simp at h; omega

/-- The trial of the Signal die is confirmed (R764). -/
theorem confirmDie_signal {k : Nat} {s : State} (trial : trialSlot s 0 = some k) (plain : imRevoke (imageSlot s 0 k).header = false)
    (hs : s.regsWf = true) :
    activeSlot (confirmDie 0 s) 0 = k ∧ trialSlot (confirmDie 0 s) 0 = none ∧ trialSlot (confirmDie 0 s) 1 = trialSlot s 1 ∧
      (confirmDie 0 s).get F.UPD_SECURITY_SIG_RB = imRollback (imageSlot s 0 k).header := by
  have small : k < 2 ^ 1 := by have := trialSlot_le trial; omega
  have byte : imRollback (imageSlot s 0 k).header < 2 ^ 8 := fieldAt_lt _ _ 1
  have active : (confirmDie 0 s).get (F.UPD_SLOT_ACTIVE 0) = k % 2 ^ (F.UPD_SLOT_ACTIVE 0).width ∧ (confirmDie 0 s).get (F.UPD_SLOT_TRIAL 0) = 0 ∧
      (confirmDie 0 s).get (F.UPD_SLOT_TRIAL 1) = s.get (F.UPD_SLOT_TRIAL 1) ∧
      (confirmDie 0 s).get F.UPD_SECURITY_SIG_RB = imRollback (imageSlot s 0 k).header % 2 ^ F.UPD_SECURITY_SIG_RB.width := by
    unfold confirmDie
    rw [trial]
    by_cases was : s.get (F.UPD_SLOT_ACTIVE 0) = 0 <;>
      simp +decide [plain, activeSlot, was, setSlotState, slotFld, modUpd, rollbackFld, State.get_put_mod, hs]
  obtain ⟨act, tri, other, rb⟩ := active
  exact ⟨act.trans (Nat.mod_eq_of_lt small), trialSlot_eq_none tri, by simp only [trialSlot, other], rb.trans (Nat.mod_eq_of_lt byte)⟩

theorem confirmDie_of_none {d : Nat} {s : State} (none_ : trialSlot s d = none) : confirmDie d s = s := by simp [confirmDie, none_]

/-- An image begins to load into the target slot (R754). -/
theorem runUpdateBegin_new {p : Request} {s : State} {d : Nat} (hd : d ≤ 1) (die : fieldAt p.params 0 1 = d) (magic : fieldAt p.params 4 2 = 0x5A49)
    (form : fieldAt p.params 6 1 = 1) (part : fieldAt p.params 8 2 = 0x6401) (own : imDie ((p.params.drop 4).take 128) = d)
    (some_ : imBodyLen ((p.params.drop 4).take 128) ≠ 0) (room : imBodyLen ((p.params.drop 4).take 128) + 128 ≤ slotSize d)
    (free : trialSlot s d = none) (key : imKey ((p.params.drop 4).take 128) ≤ 3) (live : keyRevoked s (imKey ((p.params.drop 4).take 128)) = false)
    (rollback : rollbackOk s d ((p.params.drop 4).take 128) = true)
    (new : ¬ (1 ≤ slotState s d (targetSlot s d) ∧ slotState s d (targetSlot s d) ≤ 4 ∧
      (imageSlot s d (targetSlot s d)).header = (p.params.drop 4).take 128)) (idle : slotState s d (targetSlot s d) ≠ uVerifying) :
    runUpdateBegin p s =
      ok ((setSlot d (targetSlot s d) uLoading { header := (p.params.drop 4).take 128 } s).put F.UPD_PROGRESS_FIRST_MISSING 0) [] := by
  have head : ∀ off n, off + n ≤ 128 → fieldAt ((p.params.drop 4).take 128) off n = fieldAt p.params (4 + off) n := fun off n h => by
    rw [fieldAt_take h, fieldAt_drop]
  have good : ¬ (fieldAt p.params 0 1 > 1 ∨ fieldAt ((p.params.drop 4).take 128) 0 2 ≠ 0x5A49 ∨ fieldAt ((p.params.drop 4).take 128) 2 1 ≠ 1 ∨
      fieldAt ((p.params.drop 4).take 128) 4 2 ≠ 0x6401 ∨ imDie ((p.params.drop 4).take 128) ≠ fieldAt p.params 0 1 ∨
      imBodyLen ((p.params.drop 4).take 128) = 0 ∨ slotSize (fieldAt p.params 0 1) < imBodyLen ((p.params.drop 4).take 128) + 128) := by
    simp only [head 0 2 (by omega), head 2 1 (by omega), head 4 2 (by omega), die, Nat.reduceAdd]
    omega
  have keyed : ¬ (imKey ((p.params.drop 4).take 128) > 3 ∨ keyRevoked s (imKey ((p.params.drop 4).take 128)) = true) := by
    simp [live]
    omega
  simp only [runUpdateBegin]
  rw [if_neg good]
  simp only [die, free, Option.isSome_none, Bool.false_eq_true, if_false, keyed, rollback, Bool.not_true, new, idle]

/-- A verification is asked for (R757). -/
theorem runUpdateVerify_start {p : Request} {s : State} {d : Nat} (hd : d ≤ 1) (die : fieldAt p.params 0 1 = d)
    (loaded : slotState s d (targetSlot s d) = uLoaded) (version : fieldAt p.params 4 4 = imVersion (imageSlot s d (targetSlot s d)).header)
    (hs : s.regsWf = true) : (runUpdateVerify p s).status = St.queued ∧ (runUpdateVerify p s).job = some (.image d) ∧
      slotState (runUpdateVerify p s).st d (targetSlot s d) = uVerifying := by
  have good : ¬ (d > 1 ∨ uLoaded = uEmpty ∨ fieldAt p.params 4 4 ≠ imVersion (imageSlot s d (targetSlot s d)).header) := by
    simp [version, uLoaded, uEmpty, Nat.not_lt.mpr hd]
  have ran : runUpdateVerify p s =
      { st := setSlotState d (targetSlot s d) uVerifying (s.put F.UPD_PROGRESS_FIRST_MISSING (firstMissing (imageSlot s d (targetSlot s d))))
        status := St.queued, job := some (.image d) } := by
    simp only [runUpdateVerify, die, loaded]
    rw [if_neg good]
    rfl
  rw [ran]
  exact ⟨rfl, rfl, slotState_setSlotState (by decide) (State.regsWf_setReg _ _ _ hs)⟩

theorem runUpdateVerify_done {p : Request} {s : State} {d : Nat} (hd : d ≤ 1) (die : fieldAt p.params 0 1 = d)
    (verified : slotState s d (targetSlot s d) = uVerified) (version : fieldAt p.params 4 4 = imVersion (imageSlot s d (targetSlot s d)).header)
    (hs : s.regsWf = true) : (runUpdateVerify p s).status = St.ok ∧ (runUpdateVerify p s).result = verifyResult s d ∧
      slotState (runUpdateVerify p s).st d (targetSlot s d) = uVerified := by
  have good : ¬ (d > 1 ∨ uVerified = uEmpty ∨ fieldAt p.params 4 4 ≠ imVersion (imageSlot s d (targetSlot s d)).header) := by
    simp [version, uVerified, uEmpty, Nat.not_lt.mpr hd]
  have ran : runUpdateVerify p s = ok (s.put F.UPD_PROGRESS_FIRST_MISSING (firstMissing (imageSlot s d (targetSlot s d)))) (verifyResult s d) := by
    simp only [runUpdateVerify, die, verified]
    rw [if_neg good]
    rfl
  rw [ran]
  exact ⟨rfl, rfl, (slotState_putProgress hd hs).trans verified⟩

/-- A loading image with bytes written to its body. -/
def chunkWritten (x : ImageSlot) (off : Nat) (b : Bytes) : ImageSlot :=
  { x with
    body := (cWrite { total := imBodyLen x.header, fill := 0xFF#8, data := x.body } off b).data, written := addRun off (off + b.length) x.written }

/-- Bytes of an image arrive (R755). -/
theorem runUpdateChunk_of_loading {p : Request} {s : State} {d : Nat} (hd : d ≤ 1) (die : fieldAt p.params 0 1 = d)
    (loading : slotState s d (targetSlot s d) = uLoading)
    (fit : fieldAt p.params 4 4 + (p.params.drop 8).length ≤ imBodyLen (imageSlot s d (targetSlot s d)).header) :
    ∃ st v, runUpdateChunk p s = ok ((setSlot d (targetSlot s d) st
      (chunkWritten (imageSlot s d (targetSlot s d)) (fieldAt p.params 4 4) (p.params.drop 8)) s).put F.UPD_PROGRESS_FIRST_MISSING v) [] := by
  simp only [runUpdateChunk, die, loading, ne_eq, not_true_eq_false, if_false, Nat.not_lt.mpr hd, Nat.not_lt.mpr fit]
  exact ⟨_, _, rfl⟩

theorem imageSlot_put (f : Fld) (v d k : Nat) (s : State) : imageSlot (s.put f v) d k = imageSlot s d k := rfl

theorem runUpdateChunk_result {p : Request} {s : State} {d : Nat} (hd : d ≤ 1) (die : fieldAt p.params 0 1 = d)
    (loading : slotState s d (targetSlot s d) = uLoading)
    (fit : fieldAt p.params 4 4 + (p.params.drop 8).length ≤ imBodyLen (imageSlot s d (targetSlot s d)).header)
    (four : s.upd.slots.length = 4) (slot : targetSlot s d ≤ 1) :
    (runUpdateChunk p s).status = St.ok ∧ (runUpdateChunk p s).result = [] ∧
      (imageSlot (runUpdateChunk p s).st d (targetSlot s d)).header = (imageSlot s d (targetSlot s d)).header ∧
      (imageSlot (runUpdateChunk p s).st d (targetSlot s d)).written =
        addRun (fieldAt p.params 4 4) (fieldAt p.params 4 4 + (p.params.drop 8).length) (imageSlot s d (targetSlot s d)).written := by
  obtain ⟨st, v, ran⟩ := runUpdateChunk_of_loading hd die loading fit
  have image : imageSlot (runUpdateChunk p s).st d (targetSlot s d) =
      chunkWritten (imageSlot s d (targetSlot s d)) (fieldAt p.params 4 4) (p.params.drop 8) := by
    rw [ran, ok, imageSlot_put, imageSlot_setSlot hd slot four]
  rw [image]
  exact ⟨by rw [ran]; rfl, by rw [ran]; rfl, rfl, rfl⟩

theorem runUpdateActivate_wait {p : Request} {s : State} (none_ : s.upd.run = none) (empty : s.upd.asked = [])
    (other : ¬ (lineModules s = [joinNum s] ∧ repAt (ownReport s) (fieldAt p.params 0 4) (fieldAt p.params 4 4) = true ∧
      repOnTrial (ownReport s) = false)) :
    runUpdateActivate p s = { st := modUpd (fun u => { u with asked := u.asked ++ [namedVersions p] }) s, status := St.queued, job := some .run } := by
  have named : ¬ (lineModules s = [joinNum s] ∧ repAt (ownReport s) (namedVersions p).1 (namedVersions p).2 = true ∧
      repOnTrial (ownReport s) = false) := other
  simp only [runUpdateActivate]
  rw [if_neg named]
  simp [none_, empty]

/-- Settles O16: the requests of images and update runs, in the order of the statement. -/
theorem updateRequests : Obligations.UpdateRequests := by
  refine ⟨fun d => ?_, fun d x => ?_, fun d => ?_, fun d => ?_, ?_, ?_, fun k => ?_, ?_⟩
  · refine serves_of_run (fun _ _ _ => rfl) rfl
      fun p s s1 ⟨hd, die, magic, form, part, own, some_, room, free, key, live, rollback, new, idle⟩ admitted => ?_
    have keeps : ∀ {α : Type} (g : State → α), (∀ l r n, g { s with pk := { s.pk with sessions := l, reservedUse := r, received := n } } = g s) →
        g s1 = g s := fun g h => admitted.keeps g h
    rw [← keeps (trialSlot · d) fun _ _ _ => rfl] at free
    rw [← keeps (keyRevoked · _) fun _ _ _ => rfl] at live
    rw [← keeps (rollbackOk · d _) fun _ _ _ => rfl] at rollback
    rw [← keeps (fun u => slotState u d (targetSlot u d)) fun _ _ _ => rfl] at idle
    rw [← keeps (fun u => 1 ≤ slotState u d (targetSlot u d) ∧ slotState u d (targetSlot u d) ≤ 4 ∧
      (imageSlot u d (targetSlot u d)).header = (p.params.drop 4).take 128) fun _ _ _ => rfl] at new
    exact runUpdateBegin_new hd die magic form part own some_ room free key live rollback new idle
  · refine serves_of_run (fun _ _ _ => rfl) rfl fun p s s1 ⟨hd, die, loading, image, fit, four, slot⟩ admitted => ?_
    subst image
    rw [← admitted.keeps (fun u => slotState u d (targetSlot u d)) fun _ _ _ => rfl] at loading
    rw [← admitted.keeps (fun u => imageSlot u d (targetSlot u d)) fun _ _ _ => rfl] at fit ⊢
    rw [← admitted.keeps (fun u => u.upd.slots) fun _ _ _ => rfl] at four
    rw [← admitted.keeps (targetSlot · d) fun _ _ _ => rfl] at slot
    exact runUpdateChunk_result hd die loading fit four slot
  · refine serves_of_run (fun _ _ _ => rfl) rfl fun p s s1 ⟨hd, die, loaded, version, hs⟩ admitted => ?_
    rw [← admitted.keeps (fun u => slotState u d (targetSlot u d)) fun _ _ _ => rfl] at loaded
    rw [← admitted.keeps (fun u => imVersion (imageSlot u d (targetSlot u d)).header) fun _ _ _ => rfl] at version
    exact runUpdateVerify_start hd die loaded version (admitted.regsWf.trans hs)
  · refine serves_of_run (fun _ _ _ => rfl) rfl fun p s s1 ⟨hd, die, verified, version, hs⟩ admitted => ?_
    rw [← admitted.keeps (fun u => slotState u d (targetSlot u d)) fun _ _ _ => rfl] at verified
    rw [← admitted.keeps (fun u => imVersion (imageSlot u d (targetSlot u d)).header) fun _ _ _ => rfl] at version
    exact runUpdateVerify_done hd die verified version (admitted.regsWf.trans hs)
  · refine serves_of_run (fun _ _ _ => rfl) rfl fun p s s1 done admitted => ?_
    rw [← admitted.keeps (fun u => lineModules u = [joinNum u] ∧ repAt (ownReport u) (fieldAt p.params 0 4) (fieldAt p.params 4 4) = true ∧
        repOnTrial (ownReport u) = false) fun _ _ _ => rfl] at done
    exact if_pos done
  · refine serves_of_run (fun _ _ _ => rfl) rfl fun p s s1 ⟨none_, empty, other⟩ admitted => ?_
    rw [← admitted.keeps (fun u => lineModules u = [joinNum u] ∧ repAt (ownReport u) (fieldAt p.params 0 4) (fieldAt p.params 4 4) = true ∧
        repOnTrial (ownReport u) = false) fun _ _ _ => rfl] at other
    have upd : s1.upd = s.upd := admitted.keeps State.upd fun _ _ _ => rfl
    rw [show OpInfo.run _ p s1 = _ from runUpdateActivate_wait (by rw [upd, none_]) (by rw [upd, empty]) other]
    exact ⟨rfl, rfl, by simp [modUpd, upd, empty, namedVersions]⟩
  · refine serves_of_run (fun _ _ _ => rfl) rfl fun p s s1 ⟨act, trial, other, may0, may1, plain, hs⟩ admitted => ?_
    rw [← admitted.keeps (trialSlot · _) fun _ _ _ => rfl] at trial other
    rw [← admitted.keeps (confirmRefusal · _ _) fun _ _ _ => rfl] at may0 may1
    rw [← admitted.keeps (imageSlot · _ _) fun _ _ _ => rfl] at plain
    obtain ⟨active, done, kept, rollback⟩ := confirmDie_signal trial plain (admitted.regsWf.trans hs)
    have ran : runUpdateConfirm p s1 = { st := confirmDie 0 s1, status := St.ok } := by
      simp [runUpdateConfirm, confirmModule, act, may0, may1, confirmDie_of_none (kept.trans other)]
    rw [show OpInfo.run _ p s1 = _ from ran]
    exact ⟨rfl, active, done, rollback⟩
  · refine serves_of_run (fun _ _ _ => rfl) rfl fun p s s1 ⟨act, trial0, trial1, run0, run1⟩ admitted => ?_
    rw [← admitted.keeps (trialSlot · _) fun _ _ _ => rfl] at trial0 trial1
    rw [← admitted.keeps (runningVersion · _) fun _ _ _ => rfl] at run0 run1
    simp [Reports, runUpdateConfirm, confirmModule, act, confirmRefusal, run0, run1, trial0, trial1, confirmDie_of_none, ok]

end Sys2Proof.Machine
end

section
/-!
SUPPORT. Rows as functions of the state in which they begin, and footprints of the operations that many rows share.
-/

namespace Sys2Proof.Machine

/-- A row is the function that it carries out in the state of its instant. -/
theorem does_of_run {c : Nat → Instr} {cond : State → Prop} {P : State → State → Prop} (f : State → State)
    (hexec : ∀ t s, exec (c t) s = .next (f (begin_ t s))) (h : ∀ b, cond b → P b (f b)) : Does c cond P :=
  fun t s hc => ⟨_, hexec t s, h _ hc⟩

/-- A footprint within another. -/
structure Footprint.Sub (v w : Footprint) : Prop where
  reg : ∀ a, v.reg a = true → w.reg a = true
  parts : v.parts ⊆ w.parts

theorem Footprint.Sub.refl (w : Footprint) : w.Sub w := ⟨fun _ h => h, fun _ h => h⟩

theorem Within.grow {v w : Footprint} {b s t : State} (h : Within w b s) (k : Within v s t) (sub : v.Sub w) : Within w b t :=
  h.trans (k.mono sub.reg sub.parts)

/-- The registers of a part of the register space, and parts of the state. -/
def spanFoot (lo hi : Nat) (parts : List Part) : Footprint where
  reg a := decide (lo ≤ a ∧ a < hi)
  parts := parts

section
variable {w : Footprint} {b s : State}

/-! ### Loops -/

theorem modLoop_within (h : Within w b s) (hp : .eng ∈ w.parts) {n : Nat} {f : LoopPart → LoopPart} : Within w b (modLoop n f s) :=
  eng_within h hp

theorem beginGrace_within (h : Within w b s) {n : Nat} (hw : w.reg (Reg.CLE_LOOP_STATUS n) = true) : Within w b (beginGrace n s) :=
  raise_within (put_within h hw)

theorem noLoss_within (h : Within w b s) (hp : .eng ∈ w.parts) {n : Nat} (hw : w.reg (Reg.CLE_LOOP_STATUS n) = true) :
    Within w b (noLoss n s) := put_within (modLoop_within h hp) hw

theorem refreshLoopLoss_within (h : Within w b s) (hp : .eng ∈ w.parts) {n : Nat} (hw : w.reg (Reg.CLE_LOOP_STATUS n) = true) :
    Within w b (refreshLoopLoss s n) := by
  unfold refreshLoopLoss
  refine ite_within h ?_
  split
  · exact ite_within (beginGrace_within (modLoop_within h hp) hw) (modLoop_within h hp)
  · exact ite_within (raise_within (noLoss_within h hp hw)) h
  · exact h

theorem refreshLoss_within (h : Within w b s) (hp : .eng ∈ w.parts) (hw : ∀ n < 32, w.reg (Reg.CLE_LOOP_STATUS n) = true) :
    Within w b (refreshLoss s) :=
  foldOver_within h fun _ n hn hs => refreshLoopLoss_within hs hp (hw n (by simpa using hn))

theorem dropUndelivered_within (h : Within w b s) (hp : .eng ∈ w.parts) (hw : ∀ n < 32, w.reg (Reg.CLE_LOOP_STATUS n) = true) :
    Within w b (dropUndelivered s) := by
  unfold dropUndelivered
  exact ite_within (refreshLoss_within h hp hw) (refreshLoss_within (eng_within h hp) hp hw)

/-! ### Load channels -/

theorem allChannelsOff_within (h : Within w b s) (sub : (loadFoot 32).Sub w) : Within w b (allChannelsOff s) :=
  foldOver_within h fun _ _ hc hs => hs.grow (commandChannel_within (by simpa using hc) .refl) sub

theorem modDie_within (h : Within w b s) (hp : .die ∈ w.parts) {f : DiePart → DiePart} : Within w b (modDie f s) := die_within h hp

theorem channelsOff_within (h : Within w b s) (sub : (loadFoot 32).Sub w) (hp : .die ∈ w.parts) : Within w b (channelsOff s) := by
  unfold channelsOff
  exact ite_within (allChannelsOff_within (modDie_within h hp) sub) (modDie_within h hp)

/-! ### Time, and setting functions -/

theorem dropDiscipline_within (h : Within w b s) (hp : .nav ∈ w.parts) (hw : w.reg Reg.GNS_STATUS = true) : Within w b (dropDiscipline s) :=
  put_within (nav_within h hp) hw

theorem startTimeState_within (h : Within w b s) (hw : w.reg Reg.GNS_STATUS = true) : Within w b (startTimeState s) := by
  unfold startTimeState
  exact ite_within (put_within h hw) (ite_within h (put_within h hw))

/-- What the start of the setting functions may change. -/
def settingFoot : Footprint := spanFoot 0xB0100 0xB0400 [.fn]

theorem settingFoot_fn {n k : Nat} (hn : n < 48) (hk : k < 0x10) : settingFoot.reg (0xB0100 + k + 0x10 * n) = true :=
  decide_eq_true (by omega)

theorem clearFn_within (h : Within settingFoot b s) {n : Nat} (hn : n < 48) : Within settingFoot b (clearFn s n) :=
  setReg_within (setReg_within (setReg_within (fn_within h (by simp [settingFoot, spanFoot])) (settingFoot_fn (k := 0) hn (by omega)))
    (settingFoot_fn (k := 4) hn (by omega))) (settingFoot_fn (k := 0xC) hn (by omega))

theorem startFn_within (h : Within settingFoot b s) {n : Nat} (hn : n < 48) : Within settingFoot b (startFn s n) :=
  fn_within (setReg_within (puts_within (puts_within (fn_within h (by simp [settingFoot, spanFoot])) (settingFoot_fn (k := 0) hn (by omega)))
    (settingFoot_fn (k := 4) hn (by omega))) (settingFoot_fn (k := 0xC) hn (by omega))) (by simp [settingFoot, spanFoot])

theorem startSetting_within (h : Within settingFoot b s) : Within settingFoot b (startSetting s) :=
  foldOver_within (fn_within h (by simp [settingFoot, spanFoot])) fun _ _ hn hs =>
    ite_within (clearFn_within hs (by simpa using hn)) (startFn_within hs (by simpa using hn))

end

end Sys2Proof.Machine
end

section
/-!
The rows of straps and of the terminus's claim (R10–R14).
-/

namespace Sys2Proof.Machine

/-- The code of a role in IDR_ROLE. -/
def roleCode : Role → Nat
  | .unlatched | .station => 0
  | .reliefClaim | .relief => 1
  | .terminusClaim | .terminus => 2
  | .stoodDown | .noRole => 3

theorem setRole_eq (r : Role) (s : State) :
    setRole r s = State.put { s with role := { s.role with role := r } } F.IDR_ROLE_CUR_ROLE (roleCode r) := by
  cases r <;> rfl

/-- A role that is taken shows. -/
theorem setRole_result (r : Role) {s : State} (hs : s.regsWf = true) :
    (setRole r s).regsWf = true ∧ (setRole r s).role = { s.role with role := r } ∧ (setRole r s).get F.IDR_ROLE_CUR_ROLE = roleCode r ∧
      ∀ g, F.IDR_ROLE_CUR_ROLE.apart g = true → (setRole r s).get g = s.get g := by
  have code : roleCode r < 2 ^ F.IDR_ROLE_CUR_ROLE.width := by cases r <;> decide
  rw [setRole_eq]
  exact ⟨State.regsWf_setReg _ _ _ hs, rfl, State.get_put_of_lt rfl code hs, fun g hg => State.get_put_of_apart hg hs⟩

/-- The straps disagree or are not a role: no role (R10). -/
theorem strapFault_result {s : State} (hs : s.regsWf = true) :
    (strapFault s).role.strapAt = none ∧ (strapFault s).flag F.IDR_STRAP_STRAP_FAULT = true ∧ (strapFault s).role.role = .noRole ∧
      (strapFault s).get F.IDR_ROLE_CUR_ROLE = 3 := by
  simp +decide [strapFault, setRole_eq, roleCode, State.flag, hs]

/-- Eight samples that agree are latched (R11). -/
theorem strapSample_agree {v : BitVec 9} {b : State} (on : powered b = true) (due_ : due b.role.strapAt b = true)
    (seven : b.role.samples = List.replicate 7 v) :
    strapSample v.toNat b = latchStraps v.toNat { b with role := { b.role with strapAt := some (b.now + 900 * us) } } := by
  have small : v.toNat % 512 = v.toNat := Nat.mod_eq_of_lt v.isLt
  simp [strapSample, on, due_, seven, small]

/-- Straps that spell a role are latched (R11). -/
theorem latchStraps_of_role {v : Nat} {s : State} (role : bitsAt v 0 2 ≠ 3)
    (number : bitsAt v 0 2 = 2 ∨ bitAt v 2 = false ∨ bitsAt v 3 6 ≠ 0) (hs : s.regsWf = true) :
    (latchStraps v s).role.strapAt = none ∧ (latchStraps v s).get F.IDR_STRAP_ROLE = bitsAt v 0 2 ∧
      (latchStraps v s).get F.IDR_STRAP_NUM_EN = b2n (bitAt v 2) ∧ (latchStraps v s).get F.IDR_STRAP_NUM = bitsAt v 3 6 ∧
      (latchStraps v s).role.role = (if bitsAt v 0 2 = 2 then .terminusClaim else if bitsAt v 0 2 = 1 then .reliefClaim else .station) ∧
      (latchStraps v s).get F.IDR_ROLE_CUR_ROLE = bitsAt v 0 2 := by
  have code : bitsAt v 0 2 < 2 ^ 2 := bitsAt_lt v 0 2
  have num : bitsAt v 3 6 < 2 ^ 6 := bitsAt_lt v 3 6
  have latched : latchStraps v s = setRole
      (if bitsAt v 0 2 = 2 then .terminusClaim else if bitsAt v 0 2 = 1 then .reliefClaim else .station)
      (((State.put { s with role := { s.role with strapAt := none, samples := [] } } F.IDR_STRAP_ROLE (bitsAt v 0 2)).put F.IDR_STRAP_NUM_EN
        (b2n (bitAt v 2))).put F.IDR_STRAP_NUM (bitsAt v 3 6)) := by
    have spelled : ¬ ((bitAt v 2 && bitsAt v 3 6 == 0) = true ∧ bitsAt v 0 2 ≠ 2) := by
      rintro ⟨bad, other⟩
      simp [other] at number bad
      simp [bad] at number
    simp only [latchStraps]
    rw [if_neg role]
    by_cases two : bitsAt v 0 2 = 2
    · rw [if_pos two, if_pos two]
    · rw [if_neg two, if_neg two, if_neg fun bad => spelled ⟨bad, two⟩]
  have codes : roleCode (if bitsAt v 0 2 = 2 then .terminusClaim else if bitsAt v 0 2 = 1 then .reliefClaim else .station) = bitsAt v 0 2 := by
    split
    next two => exact two.symm
    · split
      next one => exact one.symm
      · simp only [roleCode]
        omega
  rw [latched, setRole_eq, codes]
  refine ⟨rfl, ?_, ?_, ?_, rfl, ?_⟩
  · simp +decide [State.get_put_mod, hs]
    exact Nat.mod_eq_of_lt code
  · simp +decide [hs]
  · simp +decide [State.get_put_mod, hs]
    exact Nat.mod_eq_of_lt num
  · simp +decide [State.get_put_mod, hs]
    exact Nat.mod_eq_of_lt code

/-- Straps that spell no role. -/
theorem latchStraps_of_fault {v : Nat} {s : State} (bad : bitsAt v 0 2 = 3 ∨ bitsAt v 0 2 ≤ 1 ∧ bitAt v 2 = true ∧ bitsAt v 3 6 = 0) :
    latchStraps v s = strapFault (((State.put { s with role := { s.role with strapAt := none, samples := [] } } F.IDR_STRAP_ROLE
      (bitsAt v 0 2)).put F.IDR_STRAP_NUM_EN (b2n (bitAt v 2))).put F.IDR_STRAP_NUM (bitsAt v 3 6)) := by
  obtain three | ⟨low, en, num⟩ := bad
  · simp [latchStraps, three]
  · have no3 : bitsAt v 0 2 ≠ 3 := by omega
    have no2 : bitsAt v 0 2 ≠ 2 := by omega
    simp [latchStraps, no3, no2, en, num]

/-- A claimant that takes the role: what it starts leaves the role and LIN_STATUS. -/
theorem becomeTerminus_result {s : State} (hs : s.regsWf = true) :
    (becomeTerminus s).role.role = .terminus ∧ (becomeTerminus s).role.joined = true ∧ (becomeTerminus s).role.listenEnd = none ∧
      (becomeTerminus s).get F.IDR_ROLE_CUR_ROLE = 2 ∧ (becomeTerminus s).flag F.LIN_STATUS_IN_TIMETABLE = true ∧
      (becomeTerminus s).flag F.LIN_STATUS_SYNCED = true := by
  obtain ⟨u, wf, role, code, timetable, synced, started⟩ : ∃ u : State, u.regsWf = true ∧
      u.role = { s.role with role := .terminus, joined := true, listenEnd := none, firstCycleStart := none } ∧
      u.get F.IDR_ROLE_CUR_ROLE = 2 ∧ u.flag F.LIN_STATUS_IN_TIMETABLE = true ∧ u.flag F.LIN_STATUS_SYNCED = true ∧
      becomeTerminus s = startSetting (startTimeState u) := by
    refine ⟨_, ?_, ?_, ?_, ?_, ?_, rfl⟩
    · simp +decide [setRole_eq, roleCode, hs]
    · rfl
    all_goals simp +decide [setRole_eq, roleCode, State.flag, hs]
  have timed : Within ⟨(· == Reg.GNS_STATUS), []⟩ u (startTimeState u) := startTimeState_within .refl (by simp)
  have set_ : Within settingFoot (startTimeState u) (startSetting (startTimeState u)) := startSetting_within .refl
  have stands : ∀ g : Fld, g.addr < 0x90000 → g.addr ∉ raisePlaces → (becomeTerminus s).get g = u.get g := fun g low calm => by
    rw [started, set_.get (touches_eq_false (decide_eq_false (by omega)) (by omega) calm),
      timed.get (touches_eq_false (by simp [Reg.GNS_STATUS]; omega) (by omega) calm)]
  have role' : (becomeTerminus s).role = u.role := by
    have kept : (startTimeState u).role = u.role := timed.part .role (by decide)
    rw [started, ← kept]
    exact set_.part .role (by decide)
  simp only [State.flag] at timetable synced ⊢
  rw [role', role, stands _ (by decide) (by decide), stands _ (by decide) (by decide), stands _ (by decide) (by decide)]
  exact ⟨rfl, rfl, rfl, code, timetable, synced⟩

/-- What a module that stands down switches off. -/
def offFoot : Footprint where
  reg a := (loadFoot 32).reg a || a == Reg.GNS_STATUS
  parts := [.log, .load, .eng, .nav, .die]

theorem offFoot_load : (loadFoot 32).Sub offFoot := ⟨fun a h => by simp [offFoot, h], by simp [loadFoot, offFoot]⟩

/-- A claimant that stands down: what it switches off leaves the role and LIN_STATUS. -/
theorem standDown_result {s : State} (hs : s.regsWf = true) :
    (standDown s).role.role = .stoodDown ∧ (standDown s).role.joined = false ∧ (standDown s).flag F.IDR_STRAP_ROLE_CONFLICT = true ∧
      (standDown s).get F.IDR_ROLE_CUR_ROLE = 3 ∧ (standDown s).flag F.LIN_STATUS_IN_TIMETABLE = false := by
  obtain ⟨u, wf, role, conflict, code, timetable, stood⟩ : ∃ u : State, u.regsWf = true ∧
      u.role = { s.role with role := .stoodDown, joined := false } ∧ u.flag F.IDR_STRAP_ROLE_CONFLICT = true ∧
      u.get F.IDR_ROLE_CUR_ROLE = 3 ∧ u.flag F.LIN_STATUS_IN_TIMETABLE = false ∧
      standDown s = channelsOff (dropUndelivered (dropDiscipline (u.put F.GNS_STATUS_TSTATE tsOff))) := by
    refine ⟨_, ?_, ?_, ?_, ?_, ?_, rfl⟩
    · simp +decide [setRole_eq, roleCode, hs]
    · rfl
    all_goals simp +decide [setRole_eq, roleCode, State.flag, hs]
  have loops : ∀ n < 32, offFoot.reg (Reg.CLE_LOOP_STATUS n) = true := fun n hn => offFoot_load.reg _ (loadFoot_loopStatus 32 hn)
  have off : Within offFoot u (standDown s) := by
    rw [stood]
    exact channelsOff_within (dropUndelivered_within (dropDiscipline_within (put_within .refl (by simp [offFoot, F.GNS_STATUS_TSTATE]))
      (by simp [offFoot]) (by simp [offFoot])) (by simp [offFoot]) loops) offFoot_load (by simp [offFoot])
  have role' : (standDown s).role = u.role := off.part .role (by simp [offFoot])
  simp only [State.flag] at conflict timetable ⊢
  rw [role', role, off.get (by decide), off.get (by decide), off.get (by decide)]
  exact ⟨rfl, rfl, conflict, code, timetable⟩

/-- Settles O18: the paths of a strap sample and of the end of tMASTER_LISTEN, in the order of the statement. -/
theorem strapAndRoleRows : Obligations.StrapAndRoleRows := by
  refine ⟨fun v => ?_, fun v => ?_, fun v => ?_, fun v w differ => ?_, ?_, ?_⟩
  · refine does_of_run (strapSample v.toNat) (fun _ _ => rfl) fun b ⟨on, due_, few⟩ => ?_
    have more : b.role.samples.length + 1 < 8 := by omega
    simp [strapSample, on, due_, more]
  · refine does_of_run (strapSample v.toNat) (fun _ _ => rfl) fun b ⟨sound, on, due_, seven, role, number⟩ => ?_
    rw [strapSample_agree on due_ seven]
    exact latchStraps_of_role role number (regsWf_of_sound sound)
  · refine does_of_run (strapSample v.toNat) (fun _ _ => rfl) fun b ⟨sound, on, due_, seven, bad⟩ => ?_
    rw [strapSample_agree on due_ seven, latchStraps_of_fault bad]
    exact strapFault_result (by simp [regsWf_of_sound sound])
  · refine does_of_run (strapSample v.toNat) (fun _ _ => rfl) fun b ⟨sound, on, due_, seven, heard, runs⟩ => ?_
    have mixed : ¬ ((b.role.samples ++ [v]).all (fun x => x == v) = true) := by
      simp only [List.all_append, Bool.and_eq_true, not_and]
      intro all
      exact absurd (by simpa using List.all_eq_true.mp all w heard) differ.symm
    have ran : strapSample v.toNat b = strapFault { b with role := { b.role with strapAt := some (b.now + 900 * us) } } := by
      simp only [strapSample, on, due_, Bool.not_true, Bool.or_self, Bool.false_eq_true, if_false, List.length_append, seven, List.length_singleton,
        Nat.reduceAdd, Nat.lt_irrefl, BitVec.ofNat_toNat, BitVec.setWidth_eq, mixed, runs, ge_iff_le, Nat.le_refl, if_true]
    rw [ran]
    obtain ⟨at_, fault, role, -⟩ := strapFault_result (s := { b with role := { b.role with strapAt := some (b.now + 900 * us) } })
      (regsWf_of_sound sound)
    exact ⟨at_, fault, role⟩
  · refine does_of_run masterListenEnd (fun _ _ => rfl) fun b ⟨sound, claim, due_, up, alone⟩ => ?_
    have ran : masterListenEnd b = becomeTerminus b := by simp [masterListenEnd, claim, due_, up, alone]
    rw [ran]
    exact becomeTerminus_result (regsWf_of_sound sound)
  · refine does_of_run masterListenEnd (fun _ _ => rfl) fun b ⟨sound, claim, due_, up, heard⟩ => ?_
    have ran : masterListenEnd b = standDown { b with role := { b.role with listenEnd := none } } := by
      simp [masterListenEnd, claim, due_, up, heard]
    rw [ran]
    exact standDown_result (regsWf_of_sound sound)

end Sys2Proof.Machine
end

section
/-!
The rows of the Crossover (R31–R42).
-/

namespace Sys2Proof.Machine

/-! ### Numbered values -/

theorem lookupNum_putNum_same {α : Type} (k : Nat) (v : α) : ∀ l : List (Nat × α), lookupNum (putNum l k v) k = some v
  | [] => by simp [putNum, lookupNum]
  | (n, w) :: l => by
    unfold putNum
    split
    · simp [lookupNum]
    · split
      · simp [lookupNum]
      next other => simp [lookupNum, Ne.symm other, lookupNum_putNum_same k v l]

theorem lookupNum_putNum_ne {α : Type} {k j : Nat} (other : j ≠ k) (v : α) : ∀ l : List (Nat × α), lookupNum (putNum l k v) j = lookupNum l j
  | [] => by simp [putNum, lookupNum, other.symm]
  | (n, w) :: l => by
    unfold putNum
    split
    · simp [lookupNum, other.symm]
    · split
      next same => simp [lookupNum, ← same, other.symm]
      · simp [lookupNum, lookupNum_putNum_ne other v l]

/-! ### The loss of loops -/

/-- What the judgement of lost loops may change. -/
def lossFoot : Footprint where
  reg := loopStatusPlace
  parts := [.eng]

theorem refreshLoss_lossFoot (s : State) : Within lossFoot s (refreshLoss s) :=
  refreshLoss_within .refl (by simp [lossFoot]) fun _ hn => loopStatusPlace_status hn

/-- The judgement of lost loops changes the loops alone of the engine. -/
theorem refreshLoss_eng {α : Type} (g : EnginePart → α) (hg : ∀ e l, g { e with loops := l } = g e) (s : State) :
    g (refreshLoss s).eng = g s.eng := by
  refine foldOver_keeps (fun u : State => g u.eng) _ (fun u n => ?_) _ s
  unfold refreshLoopLoss
  split
  · rfl
  · split
    · dsimp only
      split
      · simp only [beginGrace, raise_eq, raiseArg_eng]
        exact hg _ _
      · exact hg _ _
    · split
      · simp only [noLoss, raise_eq, raiseArg_eng]
        exact hg _ _
      · rfl
    · rfl

/-! ### Values that cross -/

/-- One value is pending, the link is up, and the level lets one through: it arrives (R39). -/
theorem flushCross_one {v : Nat} {x : Int} {s : State} (up : (s.die.xoUp && s.die.yardUp && s.die.sigUp) = true)
    (level : 1 ≤ levelUpdates (curLevel s)) (one : s.eng.xpending = [(v, some x)]) :
    flushCross s = refreshLoss { s with eng := { s.eng with
      xpending := [], xvals := putNum s.eng.xvals v x, xlost := s.eng.xlost.filter (fun k => k != v) } } := by
  obtain ⟨n, hn⟩ : ∃ n, levelUpdates (curLevel s) = n + 1 := ⟨_, (Nat.sub_add_cancel level).symm⟩
  simp [flushCross, up, one, hn, foldOver, takeCross]

/-! ### Event records -/

/-- A record is offered by the subscriptions alone. -/
theorem offerSessions_congr {s t : State} (same : ∀ num src, subscribed t num src = subscribed s num src) (now : t.now = s.now)
    (r : EventRecord) : ∀ l, offerSessions t r l = offerSessions s r l
  | [] => rfl
  | x :: l => by simp only [offerSessions, offerSessions_congr same now r l, same, now]

/-- Sessions with room lose no record. -/
theorem offerSessions_lost (s : State) (r : EventRecord) :
    ∀ l : List Session, l.all (fun x => decide (x.evQueue.length < 128)) = true → (offerSessions s r l).2 = []
  | [], _ => rfl
  | x :: l, room => by
    simp only [List.all_cons, Bool.and_eq_true, decide_eq_true_eq] at room
    obtain ⟨here, others⟩ := room
    have none_ := offerSessions_lost s r l others
    unfold offerSessions
    dsimp only
    split
    · simp [queueEvent, here, none_]
    · exact none_

/-- A record that no session loses is delivered. -/
theorem deliver_of_room {r : EventRecord} {s : State} (room : s.pk.sessions.all (fun x => decide (x.evQueue.length < 128)) = true) :
    deliver r s = (passRing (if sourceOnSignal r.source then 56 else 57) { s with pk := { s.pk with
      sessions := (offerSessions s r s.pk.sessions).1 } }, []) := by
  simp only [deliver, offerSessions_lost s r _ room, foldOver]

/-! ### The link comes up -/

theorem channelsOff_die (s : State) : ∃ due_, (channelsOff s).die = { s.die with offDue := due_ } := by
  unfold channelsOff
  split
  · have kept := (allChannelsOff_within .refl (.refl _) : Within (loadFoot 32) (modDie (fun d => { d with offDue := false }) s) _).part
      .die (by decide)
    exact ⟨false, kept⟩
  · exact ⟨true, rfl⟩

theorem refreshLoss_die (s : State) : (refreshLoss s).die = s.die := (refreshLoss_lossFoot s).part .die (by decide)

theorem flushCross_die (s : State) : (flushCross s).die = s.die := by
  unfold flushCross
  split
  · rfl
  · refine (refreshLoss_die _).trans ((foldOver_keeps State.die _ (fun u e => ?_) _ _).trans rfl)
    unfold takeCross
    split <;> rfl

theorem flushCanOut_die (s : State) : (flushCanOut s).die = s.die := by
  have sent : Sends { s with pk := { s.pk with canOut := [] } } (flushCanOut s) := 
    foldOver_sends (f := fun s (e : Nat × Bytes) => sendService e.1 e.2 s) (fun u e => sendService_sends e.1 e.2 u) _ _
  rw [sent]
  rfl

theorem passToken_die (s : State) : (passToken s).die = s.die := by
  unfold passToken
  split
  · rfl
  · split <;> rfl

theorem xoComesUp_die {at_ : Nat} {s : State} (ready : s.die.xoReadyAt = some at_) (up : (s.die.sigUp && s.die.yardUp) = true) :
    ∃ due_, (xoComesUp s).die = { s.die with
      xoUp := true, xoReadyAt := none, xoHeardBySignal := s.now, xoHeardByYard := s.now, plannedUntil := none, offDue := due_ } := by
  have flushed : ∀ u, (refreshLoss (passToken (flushCanOut (flushCross (flushSeen (flushLineWords u)))))).die = u.die := fun u => by
    rw [refreshLoss_die, passToken_die, flushCanOut_die, flushCross_die]
    rfl
  unfold xoComesUp
  rw [ready]
  dsimp only
  rw [if_neg (by simp [up]), flushed]
  split
  · obtain ⟨due_, h⟩ := channelsOff_die (modDie (fun d => { d with
      xoUp := true, xoReadyAt := none, xoHeardBySignal := s.now, xoHeardByYard := s.now, plannedUntil := none }) s)
    exact ⟨due_, h⟩
  · exact ⟨_, rfl⟩

/-- The loss of the Crossover (R32). -/
theorem xoLoss_result {s : State} (up : s.die.xoUp = true) (hs : s.regsWf = true) :
    (xoLoss s).die.xoUp = false ∧ Flagged Src.EVR_XO_LOST (xoLoss s) := by
  obtain ⟨u, die, flagged, lost⟩ : ∃ u, u.die.xoUp = false ∧ (u.regsWf = true ∧ Flagged Src.EVR_XO_LOST u) ∧ xoLoss s = refreshLoss u := by
    unfold xoLoss
    rw [if_neg (by simp [up])]
    refine ⟨_, ?_, ?_, rfl⟩
    · split <;> simp [modDie, loseValues]
    · split <;> simp +decide [modDie, loseValues, hs]
  rw [lost, refreshLoss_die]
  exact ⟨die, (refreshLoss_lossFoot u).flags flagged.1 _ (by decide) flagged.2⟩

/-- Settles O19: the rows of the Crossover, in the order of the statement. -/
theorem crossoverRows : Obligations.CrossoverRows := by
  refine ⟨?_, ?_, fun yard => ?_, ?_, fun v x hv => ?_, fun v hv => ?_, fun r l => ?_⟩
  · refine does_of_run (xoHeard false) (fun _ _ => rfl) fun b up => ?_
    simp [xoHeard, up, modDie]
  · refine does_of_run (xoHeard true) (fun _ _ => rfl) fun b up => ?_
    simp [xoHeard, up, modDie]
  · refine does_of_run (xoWatch yard) (fun _ _ => rfl) fun b ⟨sound, linked, up, silent⟩ => ?_
    have ran : xoWatch yard b = xoLoss b := by
      have late : (if yard then b.die.xoHeardByYard else b.die.xoHeardBySignal) + tXoLoss ≤ b.now := silent
      simp only [xoWatch, up, late, decide_true, Bool.and_self, if_true]
    rw [ran]
    exact xoLoss_result linked (regsWf_of_sound sound)
  · refine does_of_run xoComesUp (fun _ _ => rfl) fun b ⟨ready, sig, yard⟩ => ?_
    obtain ⟨at_, ready⟩ := Option.isSome_iff_exists.mp ready
    obtain ⟨due_, die⟩ := xoComesUp_die ready (by simp [sig, yard])
    rw [die]
    exact ⟨rfl, rfl, rfl, rfl, rfl⟩
  · refine does_of_run (sendCross [v]) (fun _ _ => rfl) fun b ⟨linked, yard, sig, level, empty, value⟩ => ?_
    have ran : sendCross [v] b = refreshLoss { b with eng := { b.eng with
        xpending := [], xvals := putNum b.eng.xvals v x, xlost := b.eng.xlost.filter (fun k => k != v) } } := by
      have filled : sendCross [v] b = flushCross { b with eng := { b.eng with xpending := [(v, some x)] } } := by
        simp [sendCross, yard, hv, foldOver, replacePending, empty, value]
      rw [filled]
      exact flushCross_one (s := { b with eng := { b.eng with xpending := [(v, some x)] } }) (by simp [linked, yard, sig]) level rfl
    rw [ran, refreshLoss_eng (·.xvals) (fun _ _ => rfl), refreshLoss_eng (·.xlost) (fun _ _ => rfl), refreshLoss_eng (·.xpending) (fun _ _ => rfl)]
    refine ⟨lookupNum_putNum_same _ _ _, by simp, rfl, fun k other => ?_⟩
    exact lookupNum_putNum_ne other _ _
  · refine does_of_run (sendCross [v]) (fun _ _ => rfl) fun b ⟨yard, down⟩ => ?_
    simp [sendCross, yard, hv, foldOver, flushCross, down]
  · refine does_of_run drainOne (fun _ _ => rfl) fun b ⟨yard, linked, room, latch, sessions⟩ => ?_
    have drained : drainLatch 1 b = (deliver r { b with ev := { b.ev with latch := { held := l, spill := [] } } }).1 := by
      simp [drainLatch, yard, linked, room, latch, deliver_of_room (s := { b with ev := { b.ev with latch := { held := l, spill := [] } } }) sessions]
    have delivered := congrArg Prod.fst (deliver_of_room (r := r)
      (s := { b with ev := { b.ev with latch := { held := l, spill := [] } } }) sessions)
    rw [delivered] at drained
    have ran : drainOne b = drainLatch 1 b := by
      simp only [drainOne, yard, linked, room, Bool.and_self, Bool.not_true, Bool.false_eq_true, if_false, drained]
      rfl
    rw [ran, drained]
    exact ⟨rfl, congrArg Prod.fst (offerSessions_congr (s := b) (t := { b with ev := { b.ev with latch := { held := l, spill := [] } } })
      (fun _ _ => rfl) rfl r b.pk.sessions)⟩

end Sys2Proof.Machine
end

section
/-!
The rows of the Signal die: a restart clears the log of the studs.
-/

namespace Sys2Proof.Machine

/-- A powered terminus in whose last second the studs were measured. -/
def studsMeasured : State := { servingState with pwr := { power := .up }, load := { studLog := [(0, 0, 0)] } }

/-- Refutes O20: a restart of the Signal die clears load.studLog, so the part of the load channels is not as it was; studsMeasured shows it. -/
theorem not_signalDieRows : ¬ Obligations.SignalDieRows := by
  rintro ⟨restart, -⟩
  obtain ⟨u, hu, -, -, -, load, -⟩ := restart 0 studsMeasured (by decide +kernel)
  have ran : signalDown false (begin_ 0 studsMeasured) = u := Host.Outcome.next.inj hu
  have cleared : (signalDown false (begin_ 0 studsMeasured)).load.studLog = [] := by decide +kernel
  rw [ran, load] at cleared
  exact absurd cleared (by decide +kernel)

end Sys2Proof.Machine
end

section
/-!
The rows of the Yard die (R46–R50).
-/

namespace Sys2Proof.Machine

/-! ### The restart -/

/-- The end of transfers changes registers and the DMA part alone. -/
theorem stopDma_eq (s : State) : ∃ regs dma, stopDma s = { s with regs := regs, dma := dma } := by
  have closed : ∀ l : List Nat, ∃ regs dma, foldOver (fun s n => closeData n s) s l = { s with regs := regs, dma := dma } := fun l =>
    foldOver_preserves (fun u : State => ∃ regs dma, u = { s with regs := regs, dma := dma }) _
      (fun u n ⟨_, _, h⟩ => h ▸ ⟨_, _, rfl⟩) l s ⟨_, _, rfl⟩
  obtain ⟨regs, dma, h⟩ := closed ((upFrom 0 4).filter (fun n => s.flag (F.DMA_STR_CFG_OPEN n) && true))
  unfold stopDma closeDataOf
  rw [h]
  exact foldOver_preserves (fun u : State => ∃ regs dma, u = { s with regs := regs, dma := dma }) _
    (fun u c ⟨_, _, h⟩ => h ▸ ⟨_, _, rfl⟩) _ _ ⟨_, _, rfl⟩

theorem yardTakesSet_eq (s : State) : ∃ regs ahead, yardTakesSet s = { s with regs := regs, sets := { s.sets with yardAhead := ahead } } := by
  unfold yardTakesSet
  split
  · exact ⟨_, _, rfl⟩
  · exact ⟨_, _, rfl⟩

/-- The Yard die before its restart takes effect: steering is released and the restart is logged. -/
def restartLogged (planned : Bool) (s : State) : State := logRestart 1 planned (if s.die.yardUp then releaseSteer 11 s else s)

theorem restartLogged_keeps (planned : Bool) (s : State) :
    (restartLogged planned s).now = s.now ∧ (restartLogged planned s).die = s.die ∧ (restartLogged planned s).line = s.line ∧
      (restartLogged planned s).nav = s.nav ∧ (restartLogged planned s).pk.levelKeys = s.pk.levelKeys ∧
      (restartLogged planned s).pk.failures = s.pk.failures := by
  unfold restartLogged logRestart releaseSteer
  split
  · split <;> simp
  · simp

theorem yardDown_result (planned : Bool) {b : State} (on : powered b = true) :
    (yardDown planned b).die.yardUp = false ∧ (yardDown planned b).die.yardRestartAt = some b.now ∧ (yardDown planned b).pk.sessions = [] ∧
      (yardDown planned b).pk.waiting = [] ∧ (yardDown planned b).pk.levelKeys = b.pk.levelKeys ∧
      (yardDown planned b).pk.failures = b.pk.failures ∧ (yardDown planned b).line.members.length = b.line.members.length ∧
      (yardDown planned b).sets.throw = none ∧ (yardDown planned b).sets.token = none ∧ (yardDown planned b).nav.guide = b.nav.guide ∧
      (yardDown planned b).die.sigUp = b.die.sigUp := by
  obtain ⟨t, ht, now, die, line, nav, keys, failures⟩ : ∃ t, stopDma (yardTakesSet (restartLogged planned b)) = t ∧ t.now = b.now ∧
      t.die = b.die ∧ t.line = b.line ∧ t.nav = b.nav ∧ t.pk.levelKeys = b.pk.levelKeys ∧ t.pk.failures = b.pk.failures := by
    obtain ⟨_, _, taken⟩ := yardTakesSet_eq (restartLogged planned b)
    obtain ⟨_, _, stopped⟩ := stopDma_eq (yardTakesSet (restartLogged planned b))
    exact ⟨_, rfl, by rw [stopped, taken]; exact restartLogged_keeps planned b⟩
  unfold restartLogged at ht
  unfold yardDown
  rw [if_neg (by simp [on])]
  dsimp only
  rw [ht]
  exact ⟨rfl, congrArg some now, rfl, rfl, keys, failures, (List.length_map _).trans (congrArg (·.members.length) line), rfl, rfl,
    congrArg (·.guide) nav, congrArg (·.sigUp) die⟩

/-! ### The return -/

/-- What the return of the Yard die may change before its links are marked. -/
def returnFoot : Footprint where
  reg _ := true
  parts := [.upd, .cst, .fus]

theorem setLevel_within {w : Footprint} {b s : State} (h : Within w b s) {n : Nat} (hl : w.reg Reg.PWR_LEVEL = true)
    (hv : w.reg Reg.PWR_VCORE = true) : Within w b (setLevel n s) := by
  unfold setLevel
  exact ite_within h (raise_within (put_within (put_within h hl) hv))

theorem runImage_within {w : Footprint} {b s : State} (h : Within w b s) (hr : ∀ a, w.reg a = true) (hu : .upd ∈ w.parts) (hc : .cst ∈ w.parts)
    {d k : Nat} : Within w b (runImage d k s) := by
  unfold runImage
  have ran : ∀ {u}, Within w b u → Within w b (modUpd (fun x => { x with ran := setNth x.ran d (some k), booted := setNth x.booted d true })
      (setSlotState d k uRunning u)) := fun h => upd_within (put_within h (hr _)) hu
  have state := ran (ite_within (c := slotState s d (1 - k) = uRunning) (put_within (f := slotFld d (1 - k)) (v := uFormer) h (hr _)) h)
  exact ite_within (setReg_within state (hr _)) (cst_within (setReg_within (setReg_within (setReg_within state (hr _)) (hr _)) (hr _)) hc)

theorem bootActive_within {w : Footprint} {b s : State} (h : Within w b s) (hr : ∀ a, w.reg a = true) (hu : .upd ∈ w.parts)
    (hc : .cst ∈ w.parts) {d : Nat} : Within w b (bootActive d s) := by
  unfold bootActive
  exact ite_within (runImage_within h hr hu hc) (ite_within (runImage_within (put_within h (hr _)) hr hu hc) (upd_within h hu))

/-- A die without a trial boots the image of its active slot, or stays without one. -/
theorem boot_within {d : Nat} {s : State} (untried : trialSlot s d = none) : Within returnFoot s (boot d s) := by
  unfold boot
  rw [untried]
  exact ite_within .refl (bootActive_within .refl (fun _ => rfl) (by decide) (by decide))

theorem runImage_restartDue (d k : Nat) (s : State) : (runImage d k s).upd.restartDue = s.upd.restartDue := by
  unfold runImage
  dsimp only
  split <;> split <;> rfl

theorem boot_restartDue {d : Nat} {s : State} (untried : trialSlot s d = none) : (boot d s).upd.restartDue = s.upd.restartDue := by
  unfold boot
  rw [untried]
  dsimp only
  split
  · rfl
  · unfold bootActive
    dsimp only
    split
    · exact runImage_restartDue _ _ _
    · split
      · exact runImage_restartDue _ _ _
      · rfl

/-- The ports and the dead-man of a die that has returned. -/
def portsBack (linkE linkW : Bool) (x : State) : State := restartDeadman true (portReturns false linkW (portReturns true linkE x))

/-- The ports of a die that has returned show their partners, and its dead-man is armed. -/
theorem portsBack_gets (linkE linkW : Bool) {x : State} (hx : x.regsWf = true) :
    (portsBack linkE linkW x).regsWf = true ∧
      (portsBack linkE linkW x).flag F.LIN_STATUS_E_UP = linkE ∧
      (portsBack linkE linkW x).flag F.LIN_STATUS_W_UP = linkW ∧
      (portsBack linkE linkW x).flag F.EVR_DEADMAN_YARD_ARMED = true := by
  refine ⟨?_, ?_, ?_, ?_⟩ <;> simp +decide [portsBack, restartDeadman, portReturns, State.flag, hx]
  · cases linkE <;> rfl
  · cases linkW <;> rfl

theorem functionsAtReturn_within (holder : Bool) (s : State) : Within settingFoot s (functionsAtReturn holder s) := by
  unfold functionsAtReturn
  exact ite_within .refl (startSetting_within .refl)

/-- The end of the return, at a die that is not the holder: the fields that are ready stand. -/
theorem yardReturned (holder : Bool) {z : State} (other : isTerminus z = false) (due_ : z.upd.restartDue = []) :
    ∃ ready cold, (settle (bothReady (modDie (fun d => { d with yardCold := false }) (resumeRole holder z)))).regs = z.regs ∧
      (settle (bothReady (modDie (fun d => { d with yardCold := false }) (resumeRole holder z)))).die =
        { z.die with xoReadyAt := ready, yardCold := cold } := by
  obtain ⟨r, resumed⟩ : ∃ r, resumeRole holder z = { z with role := r } := by
    unfold resumeRole
    rw [if_neg (by simp [other])]
    split
    · exact ⟨_, rfl⟩
    · exact ⟨_, rfl⟩
  obtain ⟨ready, ended⟩ : ∃ ready, bothReady (modDie (fun d => { d with yardCold := false }) { z with role := r }) =
      modDie (fun d => { d with xoReadyAt := ready, yardCold := false }) { z with role := r } := by
    unfold bothReady
    split
    · exact ⟨_, rfl⟩
    · exact ⟨_, rfl⟩
  rw [resumed, ended, settle_of_none_due (by exact due_)]
  exact ⟨ready, false, rfl, rfl⟩

/-- The Yard die as its image runs again, before its ports return. -/
def yardRunning (s : State) : State :=
  let s := modDie (fun d => { d with yardUp := true, yardRestartAt := none, planned := false }) (levelAtReturn s)
  remap { s with fus := { s.fus with since := s.now } }

theorem yardRunning_within (s : State) : Within ⟨fun _ => true, [.die, .fus]⟩ s (yardRunning s) :=
  fus_within (fus_within (die_within (setLevel_within .refl rfl rfl) (by decide)) (by decide)) (by decide)

section
variable (holder linkE linkW : Bool) (s : State)

theorem functionsAtReturn_role : (functionsAtReturn holder s).role = s.role := (functionsAtReturn_within holder s).part .role (by decide)
theorem functionsAtReturn_upd : (functionsAtReturn holder s).upd = s.upd := (functionsAtReturn_within holder s).part .upd (by decide)
theorem functionsAtReturn_die : (functionsAtReturn holder s).die = s.die := (functionsAtReturn_within holder s).part .die (by decide)
theorem portsBack_role : (portsBack linkE linkW s).role = s.role := rfl
theorem portsBack_upd : (portsBack linkE linkW s).upd = s.upd := rfl
theorem portsBack_die : (portsBack linkE linkW s).die = s.die := rfl
theorem yardRunning_role : (yardRunning s).role = s.role := (yardRunning_within s).part .role (by decide)
theorem yardRunning_upd : (yardRunning s).upd = s.upd := (yardRunning_within s).part .upd (by decide)

theorem yardRunning_die : (yardRunning s).die.yardUp = true ∧ (yardRunning s).die.yardRestartAt = none ∧ (yardRunning s).die.planned = false :=
  ⟨rfl, rfl, rfl⟩

theorem boot_role {d : Nat} {s : State} (untried : trialSlot s d = none) : (boot d s).role = s.role :=
  (boot_within untried).part .role (by decide)

end

/-- The Yard die with an image runs again, and its ports are back. -/
theorem yardBack_of_image (linkE linkW holder : Bool) {b : State} (on : powered b = true) (down : b.die.yardUp = false)
    (restarted : b.die.yardRestartAt.isSome = true) (image : hasImage (boot 1 b) 1 = true) :
    yardBack linkE linkW holder b = settle (bothReady (modDie (fun d => { d with yardCold := false }) (resumeRole holder
      (functionsAtReturn holder (portsBack linkE linkW (yardRunning (boot 1 b))))))) := by
  unfold yardBack
  rw [if_neg (by simp [on, down, Option.isNone_eq_false_iff.mpr restarted])]
  dsimp only
  rw [if_neg (by simp [image])]
  rfl

theorem yardBack_result (linkE linkW holder : Bool) {b : State} (hs : b.regsWf = true) (on : powered b = true) (down : b.die.yardUp = false)
    (restarted : b.die.yardRestartAt.isSome = true) (image : hasImage (boot 1 b) 1 = true) (due_ : b.upd.restartDue = [])
    (untried : trialSlot b 1 = none) (other : isTerminus b = false) :
    (yardBack linkE linkW holder b).die.yardUp = true ∧ (yardBack linkE linkW holder b).die.yardRestartAt = none ∧
      (yardBack linkE linkW holder b).die.planned = false ∧ (yardBack linkE linkW holder b).flag F.LIN_STATUS_E_UP = linkE ∧
      (yardBack linkE linkW holder b).flag F.LIN_STATUS_W_UP = linkW ∧
      (yardBack linkE linkW holder b).flag F.EVR_DEADMAN_YARD_ARMED = true := by
  rw [yardBack_of_image linkE linkW holder on down restarted image]
  have role := boot_role untried
  have due1 := boot_restartDue untried
  have wf := (boot_within untried).wf hs
  generalize boot 1 b = x at role due1 wf ⊢
  obtain ⟨-, east, west, armed⟩ := portsBack_gets linkE linkW ((yardRunning_within x).wf wf)
  have functions := functionsAtReturn_within holder (portsBack linkE linkW (yardRunning x))
  obtain ⟨ready, cold, regs, die⟩ := yardReturned holder (z := functionsAtReturn holder (portsBack linkE linkW (yardRunning x)))
    (by rw [isTerminus, functionsAtReturn_role, portsBack_role, yardRunning_role, role]; exact other)
    (by rw [functionsAtReturn_upd, portsBack_upd, yardRunning_upd, due1, due_])
  rw [functionsAtReturn_die, portsBack_die] at die
  obtain ⟨up, at_, planned⟩ := yardRunning_die x
  rw [die]
  have flags : ∀ f : Fld, settingFoot.touches f.addr = false → (settle (bothReady (modDie (fun d => { d with yardCold := false })
      (resumeRole holder (functionsAtReturn holder (portsBack linkE linkW (yardRunning x))))))).flag f =
        (portsBack linkE linkW (yardRunning x)).flag f := fun f hf => by
    rw [← functions.flag hf]
    simp only [State.flag, State.get, State.reg, regs]
  rw [flags _ (by decide), flags _ (by decide), flags _ (by decide)]
  exact ⟨up, at_, planned, east, west, armed⟩

/-- Settles O21: the restart of the Yard die, its return, and the end of the planned grace. -/
theorem yardDieRows : Obligations.YardDieRows := by
  refine ⟨?_, fun linkE linkW holder => ?_, fun e => ?_⟩
  · exact does_of_run (fun b => yardDown b.die.planned b) (fun _ _ => rfl) fun b on => yardDown_result b.die.planned on
  · exact does_of_run (yardBack linkE linkW holder) (fun _ _ => rfl)
      fun b ⟨sound, on, down, restarted, image, due_, untried, other⟩ =>
        yardBack_result linkE linkW holder (regsWf_of_sound sound) on down restarted image due_ untried other
  · refine does_of_run plannedEnd (fun _ _ => rfl) fun b ⟨until_, passed, down, up⟩ => ?_
    simp [plannedEnd, until_, Nat.not_lt.mpr passed, down, up]

end Sys2Proof.Machine
end

section
/-!
SUPPORT. The register space under operations that rewrite it whole: the swap of a set's registers, power-up, and the restart of a die. A
register of which such an operation keeps every bit reads as before.
-/

namespace Sys2Proof.Machine

/-- The addresses of a canonical store respect its bound. -/
theorem le_of_mem_store : ∀ (l : List (Nat × Word)) (b : Nat) (e : Nat × Word), storeWf regDefault b l = true → e ∈ l → b ≤ e.1
  | (k, v) :: r, b, e, wf, mem => by
    simp only [storeWf, Bool.and_eq_true, decide_eq_true_eq] at wf
    obtain ⟨⟨lo, _⟩, wf'⟩ := wf
    obtain rfl | later := List.mem_cons.mp mem
    · exact lo
    · have := le_of_mem_store r (k + 1) e wf' later
      omega

theorem storeGet_of_mem : ∀ (l : List (Nat × Word)) (b : Nat) (e : Nat × Word), storeWf regDefault b l = true → e ∈ l →
    storeGet regDefault l e.1 = e.2
  | (k, v) :: r, b, e, wf, mem => by
    simp only [storeWf, Bool.and_eq_true, decide_eq_true_eq] at wf
    obtain ⟨_, wf'⟩ := wf
    obtain rfl | later := List.mem_cons.mp mem
    · simp [storeGet]
    · have beyond := le_of_mem_store r (k + 1) e wf' later
      have other : e.1 ≠ k := by omega
      simpa [storeGet, other] using storeGet_of_mem r (k + 1) e wf' later

/-- A store that is written entry by entry: an address at which every write leaves its value keeps it. -/
theorem foldOver_store {α : Type} {g : List (Nat × Word) → α → List (Nat × Word)} {a : Nat} {v : Word} : ∀ (l : List α),
    (∀ m e, e ∈ l → storeGet regDefault m a = v → g m e = m ∨ ∃ k w, g m e = storeSet regDefault m k w ∧ (k = a → w = v)) →
    ∀ m : List (Nat × Word), storeWf regDefault 0 m = true → storeGet regDefault m a = v →
      storeWf regDefault 0 (foldOver g m l) = true ∧ storeGet regDefault (foldOver g m l) a = v
  | [], _, _, wf, hv => ⟨wf, hv⟩
  | e :: l, step, m, wf, hv => by
    have later := foldOver_store (g := g) (a := a) (v := v) l fun m e he => step m e (List.mem_cons_of_mem _ he)
    obtain same | ⟨k, w, set_, keeps⟩ := step m e List.mem_cons_self hv
    · rw [foldOver, same]
      exact later m wf hv
    · rw [foldOver, set_]
      refine later _ (storeWf_storeSet regDefault m k w wf) ?_
      by_cases here : k = a
      · subst here
        rw [storeGet_storeSet_same regDefault m 0 k w wf, keeps rfl]
      · rw [storeGet_storeSet_ne regDefault m k a w (Ne.symm here), hv]

/-- The bits of a word outside an empty mask are the word. -/
theorem word_of_mask_zero (w : Word) (r : Nat) : BitVec.ofNat 32 (w.toNat - Nat.land w.toNat 0 + Nat.land r 0) = w := by
  simp

theorem land_allBits {v : Nat} (hv : v < 2 ^ 32) : Nat.land v allBits = v := by
  have := Nat.and_two_pow_sub_one_eq_mod v 32
  rw [Nat.mod_eq_of_lt hv] at this
  exact this

/-- The bits of a word within a full mask are the word. -/
theorem word_of_mask_all (w d : Word) : BitVec.ofNat 32 (Nat.land w.toNat allBits + (d.toNat - Nat.land d.toNat allBits)) = w := by
  rw [land_allBits w.isLt, land_allBits d.isLt]
  simp

/-- A register of which a swap of sets takes no bit stands. -/
theorem swapRegs_keeps (c : Container) {regs : List (Nat × Word)} (wf : canonical regs = true) {a : Nat}
    (free : regMask (fun x => x == Access.RWS) a = 0) :
    canonical (swapRegs c regs) = true ∧ storeGet regDefault (swapRegs c regs) a = storeGet regDefault regs a := by
  have base := foldOver_store (a := a) (v := storeGet regDefault regs a)
    (g := fun (l : List (Nat × Word)) (e : Nat × Word) =>
      storeSet regDefault l e.1 (BitVec.ofNat 32 (e.2.toNat - Nat.land e.2.toNat (regMask (fun x => x == Access.RWS) e.1) +
        Nat.land (regReset e.1) (regMask (fun x => x == Access.RWS) e.1)))) regs (fun m e he _ => .inr ⟨e.1, _, rfl, fun here => by
      rw [here, free, word_of_mask_zero, ← here]
      exact (storeGet_of_mem regs 0 e wf he).symm⟩) regs wf rfl
  exact foldOver_store (registerImage c) (fun m e he hv => .inr ⟨e.1, _, rfl, fun here => by
    rw [here, free, word_of_mask_zero, hv]⟩) _ base.1 base.2

/-- A register of which every bit is kept stands when the rest is cleared. -/
theorem keepWords_keeps {keep : Nat → Nat} {regs : List (Nat × Word)} (wf : canonical regs = true) {a : Nat} (all : keep a = allBits) :
    canonical (keepWords keep regs) = true ∧ storeGet regDefault (keepWords keep regs) a = storeGet regDefault regs a :=
  foldOver_store regs (fun m e he _ => .inr ⟨e.1, _, rfl, fun here => by
    rw [here, all, word_of_mask_all, ← here]
    exact (storeGet_of_mem regs 0 e wf he).symm⟩) regs wf rfl

end Sys2Proof.Machine
end

section
/-!
SUPPORT. Limp mode (R481–R488), and what operations on load channels leave of their part of the state: all but the channels.
-/

namespace Sys2Proof.Machine

/-! ### What the write of a field leaves -/

theorem State.flag_put_one {s : State} {f : Fld} (hf : f.fits = true) (hw : decide (1 ≤ f.width) = true) (hs : s.regsWf = true) :
    (s.put f 1).flag f = true := by
  have read : (s.put f 1).get f = 1 := State.get_put_b2n (b := true) hf hw hs
  rw [State.flag, read]
  rfl

theorem fieldsKept_put {f : Fld} (hf : f.fits = true) {s : State} (hs : s.regsWf = true) (v : Nat) : FieldsKept [f] s (s.put f v) := by
  intro g other
  have apart := other f (by simp)
  exact State.get_put_apart s f g v hs (Fld.fits_iff.mp hf) (by unfold Fld.Apart; tauto)

/-! ### What operations on load channels leave -/

/-- A view of the state that the channels, their registers, their events and their faults do not change. -/
structure ChannelBlind {α : Type} (g : State → α) : Prop where
  put : ∀ s f v, g (State.put s f v) = g s
  chan : ∀ c f s, g (modChan c f s) = g s
  raiseArg : ∀ src detail arg s, g (raiseArg src detail arg s) = g s
  fault : ∀ type cls source detail a0 a1 a2 s, g (fault type cls source detail a0 a1 a2 s) = g s
  retire : ∀ kind cause index unit s, g (retire kind cause index unit s) = g s

section
variable {α : Type} {g : State → α} (blind : ChannelBlind g) (c : Nat) (s : State)
include blind

theorem ChannelBlind.raiseCh (src : Nat) : g (raiseCh src c s) = g s := (blind.raiseArg _ _ _ _).trans (blind.put _ _ _)

theorem ChannelBlind.outputOff : g (outputOff c s) = g s := (blind.put _ _ _).trans (blind.chan _ _ _)

theorem ChannelBlind.refreshBlocked (n : Nat) : g (refreshBlocked s n) = g s := by
  unfold Machine.refreshBlocked
  dsimp only
  split
  · split
    · rfl
    · exact (blind.raiseArg _ _ _ _).trans (blind.put _ _ _)
  · exact blind.put _ _ _

theorem ChannelBlind.refreshSinks : g (refreshSinks s) = g s := foldOver_keeps g _ (fun u n => blind.refreshBlocked u n) _ s

theorem ChannelBlind.startInrush : g (startInrush c s) = g s := by
  unfold Machine.startInrush
  split
  · rfl
  · exact (blind.put _ _ _).trans (blind.chan _ _ _)

theorem ChannelBlind.startPeriod : g (startPeriod c s) = g s := by
  unfold Machine.startPeriod
  split
  · rfl
  · exact blind.chan _ _ _

theorem ChannelBlind.latchChannel (cause : Nat) : g (latchChannel c cause s) = g s := by
  have counted : g (((Machine.outputOff c s).put (F.LSW_CH_STAT_CAUSE c) cause).bump (F.LSW_CH_CNT_LATCHES c) 1) = g s :=
    (blind.put _ _ _).trans ((blind.put _ _ _).trans (blind.outputOff c s))
  unfold Machine.latchChannel
  dsimp only
  rw [blind.refreshSinks, ← counted]
  generalize ((Machine.outputOff c s).put (F.LSW_CH_STAT_CAUSE c) cause).bump (F.LSW_CH_CNT_LATCHES c) 1 = u
  split
  · exact (blind.put _ _ _).trans (blind.chan _ _ _)
  · split
    · rw [blind.raiseCh, blind.fault, blind.retire, blind.put, blind.put]
    · rw [blind.raiseCh, blind.fault, blind.chan, blind.put]

theorem ChannelBlind.switchOn (pwm : Bool) : g (switchOn pwm c s) = g s := by
  unfold Machine.switchOn
  dsimp only
  split
  · exact blind.latchChannel c s 3
  · split
    · split
      · rw [blind.startInrush, blind.startPeriod, blind.chan]
      · split
        · rw [blind.startPeriod, blind.chan]
        · exact blind.chan _ _ _
    · split
      · exact blind.chan _ _ _
      · rw [blind.startInrush, blind.chan]

/-! ### The entry of limp mode -/

theorem ChannelBlind.limpFollow : g (limpFollow s c) = g s := by
  unfold Machine.limpFollow
  split
  · exact blind.switchOn c s false
  · exact blind.outputOff c s

theorem ChannelBlind.limpTake : g (limpTake s c) = g s := by
  unfold Machine.limpTake
  dsimp only
  split
  · exact blind.outputOff c s
  · rw [blind.limpFollow, blind.put]
    split
    · exact (blind.fault _ _ _ _ _ _ _ _).trans ((blind.chan _ _ _).trans (blind.put _ _ _))
    · rfl

end

/-- What the load channels hold beside the channels themselves. -/
def loadRest (s : State) : LoadPart := { s.load with channels := [] }

theorem retire_load (kind cause index unit : Nat) (s : State) : (retire kind cause index unit s).load = s.load := by
  unfold retire
  split <;> simp [raise0]

theorem loadRest_blind : ChannelBlind loadRest where
  put _ _ _ := rfl
  chan _ _ _ := rfl
  raiseArg _ _ _ _ := by simp [loadRest]
  fault _ _ _ _ _ _ _ _ := by simp [loadRest]
  retire _ _ _ _ _ := by simp [loadRest, retire_load]

theorem retire_sigDeadman (kind cause index unit : Nat) (s : State) :
    (retire kind cause index unit s).ev.sigDeadman = s.ev.sigDeadman := by
  unfold retire
  split
  · exact raiseArg_ev_sigDeadman _ _ _ _
  · rw [fault_ev_sigDeadman, raise0, raiseArg_ev_sigDeadman]
    rfl

theorem sigDeadman_blind : ChannelBlind (fun s : State => s.ev.sigDeadman) where
  put _ _ _ := rfl
  chan _ _ _ := rfl
  raiseArg _ _ _ _ := by simp
  fault _ _ _ _ _ _ _ _ := by simp
  retire _ _ _ _ _ := retire_sigDeadman _ _ _ _ _

theorem limpFollow_within {b s : State} (h : Within (loadFoot 32) b s) {c : Nat} (hc : c < 32) : Within (loadFoot 32) b (limpFollow s c) :=
  ite_within (switchOn_within hc h) (outputOff_within hc h)

theorem limpTake_within {b s : State} (h : Within (loadFoot 32) b s) {c : Nat} (hc : c < 32) : Within (loadFoot 32) b (limpTake s c) :=
  ite_within (outputOff_within hc h)
    (limpFollow_within (putStat_within hc (ite_within (logUnclassified_within (modChan_within (putStat_within hc h))) h)) hc)

/-- Limp mode takes every channel, and says so. -/
def takeLimp (s : State) : State :=
  let s := foldOver limpTake s (upFrom 0 32)
  refreshSinks (raise0 Src.LSW_LIMP_ENTER (fault 0x08 4 Src.LSW_LIMP_ENTER (limpCauses s) 0 0 0 s))

theorem limpBegin_eq (s : State) : limpBegin s =
    if inLimp s || s.load.latchedMap.isNone || limpCauses s == 0 then s else takeLimp (s.put F.LSW_LIMP_LIMP 1) := rfl

theorem takeLimp_within (s : State) : Within (loadFoot 32) s (takeLimp s) :=
  refreshSinks_load (raise_within (fault_within (foldOver_within .refl fun _ _ hc hu => limpTake_within hu (by simpa using hc)) (by decide)))

theorem ChannelBlind.takeLimp {α : Type} {g : State → α} (blind : ChannelBlind g) (s : State) : g (takeLimp s) = g s := by
  unfold Machine.takeLimp raise0
  dsimp only
  rw [blind.refreshSinks, blind.raiseArg, blind.fault, foldOver_keeps g Machine.limpTake fun u c => blind.limpTake c u]

theorem ChannelBlind.limpBegin {α : Type} {g : State → α} (blind : ChannelBlind g) (s : State) : g (limpBegin s) = g s := by
  rw [limpBegin_eq]
  split
  · rfl
  · rw [blind.takeLimp, blind.put]

theorem ChannelBlind.limpEnter {α : Type} {g : State → α} (blind : ChannelBlind g) (k : LimpCause) (s : State) : g (limpEnter k s) = g s :=
  (blind.limpBegin _).trans (blind.put _ _ _)

/-- The entry of limp mode changes the channels, and of the register LIMP the bit LIMP. -/
theorem limpBegin_stands {g : Fld} (far : (loadFoot 32).touches g.addr = false) (other : F.LSW_LIMP_LIMP.apart g = true) (s : State) :
    FieldStands g s (limpBegin s) := by
  rw [limpBegin_eq]
  exact .ite .refl (.trans (.put .refl other) ((takeLimp_within _).stands far))

/-- What the entry of limp mode may change. -/
def limpFoot : Footprint where
  reg a := (loadFoot 32).reg a || a == Reg.LSW_LIMP
  parts := [.log, .load]

theorem limpFoot_load : (loadFoot 32).Sub limpFoot := ⟨fun a ha => by simp [limpFoot, ha], by simp [loadFoot, limpFoot]⟩

theorem limpBegin_within {b s : State} (h : Within limpFoot b s) : Within limpFoot b (limpBegin s) := by
  rw [limpBegin_eq]
  exact ite_within h ((put_within h (by decide)).grow (takeLimp_within _) limpFoot_load)

end Sys2Proof.Machine
end

section
/-!
The rows of power (R781–R829).
-/

namespace Sys2Proof.Machine

/-! ### What power-up and power-down clear -/

/-- What shows OPSEC and the update run. -/
def runFoot : Footprint where
  reg a := [Reg.EVR_OPSEC, Reg.UPD_RUN, Reg.UPD_RUN_SIG, Reg.UPD_RUN_YARD].contains a
  parts := [.yld]

theorem showRun_within {b s : State} (h : Within runFoot b s) : Within runFoot b (showRun s) := by
  unfold showRun
  split <;> exact setReg_within (setReg_within (put_within (put_within (put_within h rfl) rfl) rfl) rfl) rfl

/-- A register of which power-up or power-down keeps every bit. -/
theorem cleared_get {keep : Nat → Nat} {s : State} (hs : s.regsWf = true) {g : Fld} (all : Nat.lor (storedBits g.addr) (keep g.addr) = allBits)
    (other : runFoot.touches g.addr = false) : (cleared keep s).regsWf = true ∧ (cleared keep s).get g = s.get g := by
  obtain ⟨wf, kept⟩ := keepWords_keeps (keep := fun a => Nat.lor (storedBits a) (keep a)) hs (a := g.addr) all
  have shown : ∀ u : State, Within runFoot u (restartYield (showRun (u.put F.EVR_OPSEC_OPSEC s.ev.opsecMram))) := fun u =>
    yld_within (showRun_within (put_within .refl rfl)) (by decide)
  refine ⟨(shown _).wf wf, ((shown _).get other).trans ?_⟩
  exact congrArg (fun w : Word => bitsAt w.toNat g.lo g.width) kept

theorem cleared_parts (keep : Nat → Nat) (s : State) :
    (cleared keep s).now = s.now ∧ (cleared keep s).steer = none ∧ (cleared keep s).die = {} ∧ (cleared keep s).pk.sessions = [] ∧
      (cleared keep s).pk.levelKeys = s.pk.levelKeys ∧ (cleared keep s).ev.ring = s.ev.ring ∧
      (cleared keep s).sets.running = s.sets.running ∧ (cleared keep s).upd.slots = s.upd.slots ∧
      (cleared keep s).load.channels = List.replicate 32 {} := by
  unfold cleared showRun restartYield
  dsimp only
  split <;> exact ⟨rfl, rfl, rfl, rfl, rfl, rfl, rfl, rfl, rfl⟩

/-! ### Power-up -/

/-- What power-up may change of what is stored: the states of channels that are sided, and of slots that were loading. -/
def slotFoot : Footprint where
  reg a := channelPlace 32 a || decide (0x70000 ≤ a ∧ a < 0x70018)
  parts := [.log, .upd]

theorem sideRetired_within {b s : State} (h : Within slotFoot b s) {c : Nat} (hc : c < 32) : Within slotFoot b (sideRetired s c) := by
  have place : channelPlace 32 (Reg.LSW_CH_STAT c) = true := decide_eq_true (by simp only [Reg.LSW_CH_STAT]; omega)
  exact ite_within (put_within h (by simp [slotFoot, F.LSW_CH_STAT_CSTATE, place])) h

theorem setSlot_within {w : Footprint} {b s : State} (h : Within w b s) (hu : .upd ∈ w.parts) {d k st : Nat} {x : ImageSlot}
    (slot : w.reg (Reg.UPD_SLOT d) = true) (version : w.reg (Reg.UPD_VER (2 * d + k)) = true) : Within w b (setSlot d k st x s) := by
  have state : (slotFld d k).addr = Reg.UPD_SLOT d := by unfold slotFld; split <;> rfl
  exact put_within (put_within (upd_within (put_within h (by rw [state]; exact slot)) hu) version) version

/-- The slots of both dies. -/
theorem slotsAtPowerUp_within {b s : State} (h : Within slotFoot b s) : Within slotFoot b (slotsAtPowerUp s) := by
  refine foldOver_within h fun u e he hu => ?_
  have small : e.1 ≤ 1 ∧ e.2 ≤ 1 := by revert e; decide
  have slot : slotFoot.reg (Reg.UPD_SLOT e.1) = true := by simp [slotFoot, Reg.UPD_SLOT]; omega
  have version : slotFoot.reg (Reg.UPD_VER (2 * e.1 + e.2)) = true := by simp [slotFoot, Reg.UPD_VER]; omega
  exact ite_within (fault_within (setSlot_within hu (by decide) slot version) (by decide)) hu

/-- What an empty slot logs before the Signal die is up waits: the fault ring stands, and no session is offered an event. -/
theorem slotsAtPowerUp_ring {s : State} (down : s.die.sigUp = false) :
    (slotsAtPowerUp s).ev.ring = s.ev.ring ∧ (slotsAtPowerUp s).pk = s.pk := by
  refine (foldOver_preserves (fun u : State => u.die.sigUp = false ∧ u.ev.ring = s.ev.ring ∧ u.pk = s.pk) _
    (fun u e ⟨hd, hr, hp⟩ => ?_) _ s ⟨down, rfl, rfl⟩).2
  dsimp only
  split
  · have off : (emptySlot e.1 e.2 u).die.sigUp = false := hd
    have ring : (emptySlot e.1 e.2 u).ev.ring = s.ev.ring := hr
    have packets : (emptySlot e.1 e.2 u).pk = s.pk := hp
    simp [fault, off, ring, packets]
  · exact ⟨hd, hr, hp⟩

/-- The state that power-up begins with: what is stored, with channels and slots set right. -/
def storedState (s : State) : State := slotsAtPowerUp (foldOver sideRetired (cleared (fun _ => 0) s) (upFrom 0 32))

theorem storedState_within (s : State) : Within slotFoot (cleared (fun _ => 0) s) (storedState s) :=
  slotsAtPowerUp_within (foldOver_within .refl fun _ _ hc hu => sideRetired_within hu (by simpa using hc))

theorem sidedRing (s : State) (l : List Nat) : (foldOver sideRetired s l).die = s.die ∧ (foldOver sideRetired s l).ev.ring = s.ev.ring ∧
    (foldOver sideRetired s l).pk = s.pk := by
  have kept : ∀ (u : State) c, ((sideRetired u c).die, (sideRetired u c).ev.ring, (sideRetired u c).pk) = (u.die, u.ev.ring, u.pk) :=
    fun u c => by
      unfold sideRetired
      split <;> rfl
  have all := foldOver_keeps (fun u : State => (u.die, u.ev.ring, u.pk)) sideRetired kept l s
  simpa only [Prod.mk.injEq] using all

theorem storedState_ring (s : State) : (storedState s).ev.ring = s.ev.ring ∧ (storedState s).pk = (cleared (fun _ => 0) s).pk := by
  obtain ⟨die, ring, pk⟩ := sidedRing (cleared (fun _ => 0) s) (upFrom 0 32)
  obtain ⟨-, -, off, -, -, kept, -⟩ := cleared_parts (fun _ => 0) s
  obtain ⟨ring', pk'⟩ := slotsAtPowerUp_ring (s := foldOver sideRetired (cleared (fun _ => 0) s) (upFrom 0 32)) (by rw [die, off])
  exact ⟨ring'.trans (ring.trans kept), pk'.trans pk⟩

theorem cleared_pcyc {s : State} (hs : s.regsWf = true) :
    (cleared (fun _ => 0) s).regsWf = true ∧ (cleared (fun _ => 0) s).get F.EVR_PCYC_PCYC = s.get F.EVR_PCYC_PCYC :=
  cleared_get hs (by decide) (by decide)

/-- What power-up sets on the state that it begins with. -/
def poweredOn (src ctrl : Nat) (s : State) : State :=
  let s : State := { s with
    load := { s.load with channels := s.load.channels.map (fun x => { x with judgedFrom := s.now }) },
    devOff := -(s.now : Int), pwr := { s.pwr with power := .up, logicAt := s.now, sleepAt := none },
    role := { strapAt := some (s.now + 4500 * us) } }
  let s := if src = 1 then { s with pwr := { s.pwr with ignLowFrom := none } } else s
  let s := s.put F.PWR_SUPPLY_IGN (b2n s.pwr.ignLowFrom.isNone)
  (((s.bump F.EVR_PCYC_PCYC 1).put F.PWR_WAKE_WAKE_SRC src).put F.PWR_WAKE_WAKE_CAN ctrl)

theorem powerOn_eq (src ctrl : Nat) (s : State) : powerOn src ctrl s = poweredOn src ctrl (storedState s) := rfl

theorem poweredOn_parts (src ctrl : Nat) (s : State) :
    (poweredOn src ctrl s).pwr.power = .up ∧ (poweredOn src ctrl s).now = s.now ∧ (poweredOn src ctrl s).devOff = -(s.now : Int) ∧
      (poweredOn src ctrl s).die = s.die ∧ (poweredOn src ctrl s).role = { strapAt := some (s.now + 4500 * us) } ∧
      (poweredOn src ctrl s).pk = s.pk ∧ (poweredOn src ctrl s).ev = s.ev ∧ (poweredOn src ctrl s).sets = s.sets := by
  unfold poweredOn
  dsimp only
  split <;> exact ⟨rfl, rfl, rfl, rfl, rfl, rfl, rfl, rfl⟩

theorem poweredOn_gets {src ctrl : Nat} (hsrc : src < 2 ^ 3) (hctrl : ctrl < 2 ^ 2) {s : State} (hs : s.regsWf = true) :
    (poweredOn src ctrl s).regsWf = true ∧ (poweredOn src ctrl s).get F.EVR_PCYC_PCYC = satN F.EVR_PCYC_PCYC.width (s.get F.EVR_PCYC_PCYC + 1) ∧
      (poweredOn src ctrl s).get F.PWR_WAKE_WAKE_SRC = src ∧ (poweredOn src ctrl s).get F.PWR_WAKE_WAKE_CAN = ctrl := by
  have src_ : src < 2 ^ F.PWR_WAKE_WAKE_SRC.width := hsrc
  have ctrl_ : ctrl < 2 ^ F.PWR_WAKE_WAKE_CAN.width := hctrl
  unfold poweredOn
  dsimp only
  split <;> refine ⟨?_, ?_, ?_, ?_⟩ <;> simp +decide [hs, src_, ctrl_]

/-- Power-up: what is stored stays, the power cycle is counted, and every part that is not stored begins anew. -/
theorem powerOn_result {src ctrl : Nat} (hsrc : src < 2 ^ 3) (hctrl : ctrl < 2 ^ 2) {s : State} (hs : s.regsWf = true) :
    (powerOn src ctrl s).regsWf = true ∧ (powerOn src ctrl s).pwr.power = .up ∧
      (powerOn src ctrl s).now = s.now ∧ (powerOn src ctrl s).devOff = -(s.now : Int) ∧ (powerOn src ctrl s).die = {} ∧
      (powerOn src ctrl s).role = { strapAt := some (s.now + 4500 * us) } ∧ (powerOn src ctrl s).pk.levelKeys = s.pk.levelKeys ∧
      (powerOn src ctrl s).pk.sessions = [] ∧ (powerOn src ctrl s).ev.ring = s.ev.ring ∧
      (powerOn src ctrl s).sets.running = s.sets.running ∧
      (powerOn src ctrl s).get F.EVR_PCYC_PCYC = satN 24 (s.get F.EVR_PCYC_PCYC + 1) ∧
      (powerOn src ctrl s).get F.PWR_WAKE_WAKE_SRC = src ∧ (powerOn src ctrl s).get F.PWR_WAKE_WAKE_CAN = ctrl := by
  obtain ⟨now, -, die, sessions, keys, -, running, -, -⟩ := cleared_parts (fun _ => 0) s
  obtain ⟨wf, pcyc⟩ := cleared_pcyc hs
  obtain ⟨ring, hpk⟩ := storedState_ring s
  have kept := storedState_within s
  rw [powerOn_eq]
  generalize storedState s = u at kept ring hpk ⊢
  have hnow : u.now = (cleared (fun _ => 0) s).now := kept.part .now (by decide)
  have hdie : u.die = (cleared (fun _ => 0) s).die := kept.part .die (by decide)
  have hsets : u.sets = { (cleared (fun _ => 0) s).sets with orders := u.sets.orders } := kept.part .sets (by decide)
  rw [now] at hnow
  rw [die] at hdie
  have hpcyc : u.get F.EVR_PCYC_PCYC = s.get F.EVR_PCYC_PCYC := (kept.get (by decide)).trans pcyc
  obtain ⟨up, now', dev, die', role, pk, ev, sets⟩ := poweredOn_parts src ctrl u
  obtain ⟨wf', count, source, can⟩ := poweredOn_gets hsrc hctrl (kept.wf wf)
  rw [hpcyc] at count
  exact ⟨wf', up, now'.trans hnow, by rw [dev, hnow], die'.trans hdie, by rw [role, hnow], by rw [pk, hpk, keys], by rw [pk, hpk, sessions],
    by rw [ev, ring], by rw [sets, hsets, running], count, source, can⟩

/-! ### Power-down -/

theorem writeFault_within {w : Footprint} {b s : State} (h : Within w b s) (hp : .log ∈ w.parts) (f : FaultRec) :
    Within w b (writeFault f s) := by
  unfold writeFault
  split
  · exact ite_within (ev_within h hp) (ite_within (raise_within (ev_within h hp)) (ev_within h hp))
  · exact ite_within (raise_within (ev_within h hp)) (ev_within h hp)

theorem flushFaults_within {w : Footprint} {b s : State} (h : Within w b s) (hp : .log ∈ w.parts) : Within w b (flushFaults s) :=
  foldOver_within (ev_within h hp) fun _ f _ hu => writeFault_within hu hp f

/-- What the outputs, the fault ring and the commit change on the way down. -/
def downFoot : Footprint where
  reg a := (loadFoot 32).reg a || a == Reg.EVR_COMMIT
  parts := [.log, .load, .out]

theorem downFoot_load : (loadFoot 32).Sub downFoot := ⟨fun a ha => by simp [downFoot, ha], by simp [loadFoot, downFoot]⟩

/-- The state that a power-down leaves to be cleared. -/
def committed (s : State) : State :=
  let s := foldOver (fun s c => outputOff c s) s (upFrom 0 32)
  commitLog (flushFaults (emit (.sense none) { s with load := { s.load with sense := none } }))

theorem committed_within (s : State) : Within downFoot s (committed s) := by
  have off : Within downFoot s (foldOver (fun s c => outputOff c s) s (upFrom 0 32)) :=
    Within.refl.grow (foldOver_within .refl fun _ c hc hu => outputOff_within (by simpa using hc) hu) downFoot_load
  exact put_within (ev_within (flushFaults_within (out_within (load_within off (by decide)) (by decide)) (by decide)) (by decide)) rfl

theorem goDark_eq (p : Power) (s : State) :
    goDark p s = { cleared wakeBits (committed s) with pwr := { (cleared wakeBits (committed s)).pwr with power := p, sleepAt := none } } := rfl

theorem goDark_result (p : Power) (s : State) :
    (goDark p s).pwr.power = p ∧ (goDark p s).pwr.sleepAt = none ∧ (∀ c, c < 32 → (chan (goDark p s) c).output = false) ∧
      (goDark p s).pk.levelKeys = s.pk.levelKeys ∧ (goDark p s).sets.running = s.sets.running ∧ (goDark p s).upd.slots = s.upd.slots := by
  have kept := committed_within s
  rw [goDark_eq]
  generalize committed s = u at kept ⊢
  obtain ⟨-, -, -, -, keys, -, running, slots, channels⟩ := cleared_parts wakeBits u
  have packets : u.pk = { s.pk with sessions := u.pk.sessions } := kept.part .packets (by decide)
  have sets : u.sets = { s.sets with orders := u.sets.orders } := kept.part .sets (by decide)
  have updates : u.upd = s.upd := kept.part .upd (by decide)
  refine ⟨rfl, rfl, fun c hc => ?_, keys.trans (by rw [packets]), running.trans (by rw [sets]), slots.trans (by rw [updates])⟩
  have at_ : ∀ l : List ChannelPart, l = List.replicate 32 {} → (nth l c {}).output = false := fun l hl => by
    subst hl
    have all : (upFrom 0 32).all (fun c => (nth (List.replicate 32 ({} : ChannelPart)) c {}).output == false) = true := by decide
    simpa using List.all_eq_true.mp all c (by simpa using hc)
  exact at_ _ channels

/-! ### The start of the Signal firmware -/

/-- The Signal firmware is up, its orders at rest and its messages counted from now. -/
def signalUp (s : State) : State :=
  let s := stopOrders (modDie (fun d => { d with sigUp := true, sigRestartAt := none, holdUntil := none, yardRestartAt := some s.now }) s)
  { s with can := { s.can with since := deviceTime s / ms * ms, lastVals := changeSnapshot s } }

/-- The loops of the Signal die as its firmware starts. -/
def loopsStart (s : State) : State := flushFaults (refreshLoss (loseValues (refreshSinks s)))

/-- The Signal firmware starts under the set that runs. -/
def signalStarts (s : State) : State := loopsStart (signalUp (runningInForce s))

theorem signalUp_parts (s : State) : (signalUp s).die.sigUp = true ∧ (signalUp s).load = s.load ∧ (signalUp s).regs = s.regs :=
  ⟨rfl, rfl, rfl⟩

theorem runningInForce_parts (s : State) : (runningInForce s).die = s.die ∧ (runningInForce s).load = s.load := by
  unfold runningInForce
  split
  · exact ⟨rfl, rfl⟩
  · next c _ =>
    generalize swapRegs c s.regs = regs
    exact ⟨rfl, rfl⟩

/-- A field of a register that neither the running set nor the loops write stands under the start of the Signal firmware. -/
theorem runningInForce_stands {g : Fld} (free : regMask (fun x => x == Access.RWS) g.addr = 0) (level : F.PWR_LEVEL_REQ.apart g = true)
    (state : F.CFG_STATE_RUNNING.apart g = true) (s : State) : FieldStands g s (runningInForce s) := by
  unfold runningInForce
  split
  · exact .put (.put .refl level) state
  · refine .put (.put (s := loadOrders _) (fun wf => ?_) level) state
    obtain ⟨wf', kept⟩ := swapRegs_keeps _ wf free
    exact ⟨wf', congrArg (fun w : Word => bitsAt w.toNat g.lo g.width) kept⟩

/-- What the loops of the Signal die may change as it starts. -/
def startFoot : Footprint where
  reg := loopStatusPlace
  parts := [.log, .eng]

theorem loopsStart_within (s : State) : Within startFoot s (loopsStart s) :=
  flushFaults_within (refreshLoss_within (eng_within (refreshSinks_within .refl fun _ hn => loopStatusPlace_status hn) (by decide)) (by decide)
    fun _ hn => loopStatusPlace_status hn) (by decide)

theorem signalStarts_parts (s : State) : (signalStarts s).die.sigUp = true ∧ (signalStarts s).load = s.load := by
  obtain ⟨-, load⟩ := runningInForce_parts s
  obtain ⟨up, load', -⟩ := signalUp_parts (runningInForce s)
  have kept := loopsStart_within (signalUp (runningInForce s))
  have die : (signalStarts s).die = (signalUp (runningInForce s)).die := kept.part .die (by decide)
  have loads : (signalStarts s).load = (signalUp (runningInForce s)).load := kept.part .load (by decide)
  exact ⟨by rw [die, up], by rw [loads, load', load]⟩

theorem signalStarts_stands {g : Fld} (free : regMask (fun x => x == Access.RWS) g.addr = 0) (level : F.PWR_LEVEL_REQ.apart g = true)
    (state : F.CFG_STATE_RUNNING.apart g = true) (far : startFoot.touches g.addr = false) (s : State) : FieldStands g s (signalStarts s) := by
  obtain ⟨-, -, regs⟩ := signalUp_parts (runningInForce s)
  exact ((runningInForce_stands free level state s).parts regs).trans ((loopsStart_within _).stands far)

/-! ### The latch of the limp map -/

/-- The limp map is latched, the dead-man armed, and a REF cause that waited is taken. -/
def mapLatched (s : State) : State :=
  let s := latchMap s
  let s := State.put { s with ev := { s.ev with sigDeadman := some s.now } } F.EVR_DEADMAN_SIG_ARMED 1
  if s.clk.refDue then limpEnter .ref { s with clk := { s.clk with refDue := false } } else s

theorem limpMapLatch_eq {s : State} (h : (!powered s || s.load.latchedMap.isSome || s.role.role == .unlatched) = false) :
    limpMapLatch s = if hasImage (mapLatched (boot 0 s)) 0 then signalStarts (mapLatched (boot 0 s)) else mapLatched (boot 0 s) := by
  have ran : limpMapLatch s = if !hasImage (mapLatched (boot 0 s)) 0 then mapLatched (boot 0 s) else signalStarts (mapLatched (boot 0 s)) :=
    if_neg (by rw [h]; decide)
  rw [ran]
  cases hasImage (mapLatched (boot 0 s)) 0 <;> rfl

/-- What the latch of the limp map may change. -/
def latchFoot : Footprint where
  reg a := limpFoot.reg a || a == Reg.EVR_DEADMAN
  parts := [.log, .load, .clk]

theorem latchFoot_limp : limpFoot.Sub latchFoot := ⟨fun a ha => by simp [latchFoot, ha], by simp [limpFoot, latchFoot]⟩

theorem limpEnter_within {b s : State} (h : Within limpFoot b s) (k : LimpCause) : Within limpFoot b (limpEnter k s) :=
  limpBegin_within (put_within h (by cases k <;> decide))

theorem limpEnter_stands {g : Fld} (far : (loadFoot 32).touches g.addr = false) (other : F.LSW_LIMP_LIMP.apart g = true) (k : LimpCause)
    (cause : (causeFld k).apart g = true) (s : State) : FieldStands g s (limpEnter k s) :=
  (FieldStands.put .refl cause).trans (limpBegin_stands far other _)

theorem latchMap_within (s : State) : Within limpFoot s (latchMap s) :=
  limpBegin_within (ite_within (put_within (put_within (load_within .refl (by decide)) (by decide)) (by decide))
    (raise_within (put_within (put_within (load_within .refl (by decide)) (by decide)) (by decide))))

theorem mapLatched_within (s : State) : Within latchFoot s (mapLatched s) := by
  have first := (Within.refl (w := latchFoot) (b := s)).grow (latchMap_within s) latchFoot_limp
  unfold mapLatched
  generalize latchMap s = u at first ⊢
  have armed : Within latchFoot s (State.put { u with ev := { u.ev with sigDeadman := some u.now } } F.EVR_DEADMAN_SIG_ARMED 1) :=
    put_within (ev_within first (by decide)) (by decide)
  dsimp only
  generalize State.put { u with ev := { u.ev with sigDeadman := some u.now } } F.EVR_DEADMAN_SIG_ARMED 1 = v at armed ⊢
  exact ite_within ((clk_within armed (by decide)).grow (limpEnter_within .refl .ref) latchFoot_limp) armed

theorem hasImage_mapLatched (s : State) : hasImage (mapLatched s) 0 = hasImage s 0 := by
  have same : (mapLatched s).upd = s.upd := (mapLatched_within s).part .upd (by decide)
  rw [hasImage, hasImage, same]

/-- A good map is latched, and shown. -/
def mapShown (s : State) : State :=
  (State.put { s with load := { s.load with latchedMap := some (mapSources (storedMap s)) } } F.LSW_LIMP_MAP_LATCHED 1).put F.LSW_LIMP_MAP_BAD 0

theorem mapShown_result {s : State} (hs : s.regsWf = true) :
    (mapShown s).regsWf = true ∧ (mapShown s).get F.LSW_LIMP_MAP_LATCHED = 1 ∧
      (mapShown s).load.latchedMap = some (mapSources (storedMap s)) := by
  have wf : ({ s with load := { s.load with latchedMap := some (mapSources (storedMap s)) } } : State).regsWf = true := hs
  unfold mapShown
  generalize hu : ({ s with load := { s.load with latchedMap := some (mapSources (storedMap s)) } } : State) = u at wf
  refine ⟨by simp [wf], ?_, ?_⟩
  · rw [State.get_put_of_apart (by decide) (by simp [wf]), State.get_put_of_lt (by decide) (by decide) wf]
  · rw [← hu]
    rfl

/-- Arming the dead-man and taking a REF cause leave the latched map and its flag. -/
theorem armedEntry_result {u : State} {m : List Nat} (wf : u.regsWf = true) (flag : u.get F.LSW_LIMP_MAP_LATCHED = 1)
    (map_ : u.load.latchedMap = some m) :
    let v := State.put { u with ev := { u.ev with sigDeadman := some u.now } } F.EVR_DEADMAN_SIG_ARMED 1
    let w := if v.clk.refDue then limpEnter .ref { v with clk := { v.clk with refDue := false } } else v
    w.regsWf = true ∧ w.load.latchedMap = some m ∧ w.get F.LSW_LIMP_MAP_LATCHED = 1 ∧ w.get F.EVR_DEADMAN_SIG_ARMED = 1 := by
  have hv : (State.put { u with ev := { u.ev with sigDeadman := some u.now } } F.EVR_DEADMAN_SIG_ARMED 1).get F.EVR_DEADMAN_SIG_ARMED = 1 :=
    State.get_put_of_lt (by decide) (by decide) wf
  have hf : (State.put { u with ev := { u.ev with sigDeadman := some u.now } } F.EVR_DEADMAN_SIG_ARMED 1).get F.LSW_LIMP_MAP_LATCHED = 1 :=
    (State.get_put_of_apart (by decide) wf).trans flag
  have hwf : (State.put { u with ev := { u.ev with sigDeadman := some u.now } } F.EVR_DEADMAN_SIG_ARMED 1).regsWf = true :=
    State.regsWf_put _ _ _ wf
  have hm : (State.put { u with ev := { u.ev with sigDeadman := some u.now } } F.EVR_DEADMAN_SIG_ARMED 1).load.latchedMap = some m := map_
  generalize State.put { u with ev := { u.ev with sigDeadman := some u.now } } F.EVR_DEADMAN_SIG_ARMED 1 = v at hv hf hwf hm ⊢
  dsimp only
  split
  · obtain ⟨wf', armed⟩ := limpEnter_stands (g := F.EVR_DEADMAN_SIG_ARMED) (by decide) (by decide) .ref (by decide)
      { v with clk := { v.clk with refDue := false } } hwf
    obtain ⟨-, latched⟩ := limpEnter_stands (g := F.LSW_LIMP_MAP_LATCHED) (by decide) (by decide) .ref (by decide)
      { v with clk := { v.clk with refDue := false } } hwf
    exact ⟨wf', (congrArg LoadPart.latchedMap (loadRest_blind.limpEnter .ref { v with clk := { v.clk with refDue := false } })).trans hm,
      latched.trans hf, armed.trans hv⟩
  · exact ⟨hwf, hm, hf, hv⟩

theorem mapLatched_result {s : State} (hs : s.regsWf = true) (good : mapGood (storedMap s) (storedMapCrc s) = true) :
    (mapLatched s).regsWf = true ∧ (mapLatched s).load.latchedMap = some (mapSources (storedMap s)) ∧
      (mapLatched s).get F.LSW_LIMP_MAP_LATCHED = 1 ∧ (mapLatched s).get F.EVR_DEADMAN_SIG_ARMED = 1 := by
  have latch : latchMap s = limpBegin (mapShown s) := by simp only [latchMap, good, if_true, mapShown]
  have begun := limpBegin_stands (g := F.LSW_LIMP_MAP_LATCHED) (by decide) (by decide) (mapShown s)
  have rest := loadRest_blind.limpBegin (mapShown s)
  obtain ⟨wf, shown, map_⟩ := mapShown_result hs
  rw [← latch] at begun rest
  unfold mapLatched
  generalize latchMap s = u at begun rest ⊢
  obtain ⟨wf', flag⟩ := begun wf
  have map' : u.load.latchedMap = some (mapSources (storedMap s)) := (congrArg LoadPart.latchedMap rest : _).trans map_
  exact armedEntry_result wf' (flag.trans shown) map'

/-- What the report of a wake over a CAN port may change. -/
def canFoot : Footprint where
  reg a := a == Reg.MDB_EVT_CTL
  parts := []

theorem tellCanWake_within (s : State) : Within canFoot s (tellCanWake s) := ite_within (raise_within (put_within .refl (by decide))) .refl

/-! ### Waking -/

theorem wakeUp_result {src ctrl : Nat} {b : State} (wakes : wakesModule src ctrl b = true) (asleep : b.pwr.power = .asleep)
    (wf : b.regsWf = true) (hsrc : src < 2 ^ 3) (hctrl : (if src = 2 then ctrl else 0) < 2 ^ 2) :
    (wakeUp src ctrl b).pwr.power = .up ∧ (wakeUp src ctrl b).get F.PWR_WAKE_WAKE_SRC = src ∧
      (wakeUp src ctrl b).get F.PWR_WAKE_WAKE_CAN = (if src = 2 then ctrl else 0) ∧
      (wakeUp src ctrl b).get F.EVR_PCYC_PCYC = satN 24 (b.get F.EVR_PCYC_PCYC + 1) ∧
      (b.flag F.PWR_WAKE_LINE_WAKE = true → .wakeBurst true ∈ (wakeUp src ctrl b).out ∧ .wakeBurst false ∈ (wakeUp src ctrl b).out) := by
  obtain ⟨-, up, -, -, -, -, -, -, -, -, pcyc, source, can⟩ := powerOn_result hsrc hctrl wf
  have ran : wakeUp src ctrl b = if b.flag F.PWR_WAKE_LINE_WAKE
      then emit (.wakeBurst true) (emit (.wakeBurst false) (powerOn src (if src = 2 then ctrl else 0) b))
      else powerOn src (if src = 2 then ctrl else 0) b := by
    simp only [wakeUp, wakes, asleep, Bool.not_true, Bool.false_eq_true, if_false, beq_self_eq_true, if_true]
  rw [ran]
  generalize powerOn src (if src = 2 then ctrl else 0) b = u at *
  split
  · exact ⟨up, source, can, pcyc, fun _ => ⟨by simp [emit], by simp [emit]⟩⟩
  · next quiet => exact ⟨up, source, can, pcyc, fun line => absurd line quiet⟩

/-- Without the limp map latched, the Signal die boots, latches the map and starts. -/
theorem limpMapLatch_result {b : State} (wf : b.regsWf = true) (on : powered b = true) (fresh : b.load.latchedMap = none)
    (role : b.role.role ≠ .unlatched) (image : hasImage (boot 0 b) 0 = true) (untried : trialSlot b 0 = none)
    (good : mapGood (storedMap b) (storedMapCrc b) = true) :
    (limpMapLatch b).die.sigUp = true ∧ (limpMapLatch b).load.latchedMap = some (mapSources (storedMap b)) ∧
      (limpMapLatch b).flag F.LSW_LIMP_MAP_LATCHED = true ∧ (limpMapLatch b).flag F.EVR_DEADMAN_SIG_ARMED = true ∧
      (limpMapLatch b).regsWf = true := by
  have open_ : (!powered b || b.load.latchedMap.isSome || b.role.role == .unlatched) = false := by simp [on, fresh, role]
  have booted : Within returnFoot b (boot 0 b) := boot_within untried
  have load : (boot 0 b).load = b.load := booted.part .load (by decide)
  have map_ : storedMap (boot 0 b) = storedMap b := by rw [storedMap, storedMap, load]
  have crc : storedMapCrc (boot 0 b) = storedMapCrc b := by rw [storedMapCrc, storedMapCrc, load]
  have ran : limpMapLatch b = signalStarts (mapLatched (boot 0 b)) := by
    rw [limpMapLatch_eq open_, if_pos]
    rw [hasImage_mapLatched]
    exact image
  rw [ran]
  obtain ⟨wf', latched, flag, armed⟩ := mapLatched_result (booted.wf wf) (by rw [map_, crc]; exact good)
  obtain ⟨up, load'⟩ := signalStarts_parts (mapLatched (boot 0 b))
  obtain ⟨wf'', flag'⟩ := signalStarts_stands (g := F.LSW_LIMP_MAP_LATCHED) (by decide) (by decide) (by decide) (by decide) _ wf'
  obtain ⟨-, armed'⟩ := signalStarts_stands (g := F.EVR_DEADMAN_SIG_ARMED) (by decide) (by decide) (by decide) (by decide) _ wf'
  refine ⟨up, by rw [load', latched, map_], ?_, ?_, wf''⟩
  · rw [State.flag, flag', flag]
    rfl
  · rw [State.flag, armed', armed]
    rfl

/-- Settles O22: the rows of power, in the order of the statement. -/
theorem powerRows : Obligations.PowerRows := by
  refine ⟨fun mv high _ => ?_, ?_, fun f => ?_, ?_, fun src which => ?_, ?_, fun n hn => ?_, fun i hi => ?_, fun mask => ?_, ?_⟩
  · refine does_of_run (fun s => if s.pwr.power == .off && decide (8600 < mv) then (powerOn 0 0 s).put F.PWR_SUPPLY_LOGIC_MV mv else s)
      (fun _ _ => rfl) fun b ⟨sound, off⟩ => ?_
    obtain ⟨wf, up, now, dev, die, role, keys, sessions, ring, running, pcyc, -⟩ :=
      powerOn_result (src := 0) (ctrl := 0) (by decide) (by decide) (regsWf_of_sound sound)
    simp only [off, high, decide_true, Bool.and_true, beq_self_eq_true, if_true]
    refine ⟨up, ?_, die, role, ?_, keys, sessions, ring, running⟩
    · simp only [deviceTime, State.put, State.setReg, dev, now]
      omega
    · rw [State.get_put_of_apart (by decide) wf, pcyc]
  · refine does_of_run (fun s => if s.pwr.power == .off then s else if powered s then goDark .off s
      else { s with pwr := { s.pwr with power := .off } }) (fun _ _ => rfl) fun b ⟨_, up⟩ => ?_
    obtain ⟨power, -, dark, keys, running, slots⟩ := goDark_result .off b
    simp only [up, powered, beq_self_eq_true, if_true, show (Power.up == Power.off) = false from rfl, Bool.false_eq_true, if_false]
    exact ⟨power, dark, keys, running, slots⟩
  · refine does_of_run ignOff (fun _ _ => rfl) fun b ⟨on, up, low, some_, late, awake, ok⟩ => ?_
    have late' : ¬ b.now < f + b.get F.PWR_WAKE_IGN_OFF * 10 * sec := by omega
    simp [ignOff, on, up, low, some_, late', awake, ok]
  · refine does_of_run sleepEntry (fun _ _ => rfl) fun b ⟨_, on, due_⟩ => ?_
    obtain ⟨power, asleep, dark, -⟩ := goDark_result .asleep b
    simp only [sleepEntry, on, due_, Bool.and_self, if_true]
    exact ⟨power, asleep, dark⟩
  · refine does_of_run (wakeUp src 0) (fun _ _ => rfl) fun b ⟨sound, asleep⟩ => ?_
    have wakes : wakesModule src 0 b = true := by obtain rfl | rfl := which <;> rfl
    have small : src < 2 ^ 3 := by obtain rfl | rfl := which <;> decide
    obtain ⟨up, source, -, pcyc, burst⟩ := wakeUp_result wakes asleep (regsWf_of_sound sound) small (by split <;> decide)
    exact ⟨up, source, pcyc, burst⟩
  · refine does_of_run (wakeUp 3 0) (fun _ _ => rfl) fun b ⟨sound, up, due_, line⟩ => ?_
    have wakes : wakesModule 3 0 b = true := by simp [wakesModule, line]
    have notAsleep : (Power.up == Power.asleep) = false := rfl
    simp only [wakeUp, wakes, up, due_, notAsleep, Bool.not_true, Bool.false_eq_true, if_false, beq_self_eq_true, Bool.and_self, if_true]
    refine ⟨rfl, ?_⟩
    exact State.flag_put_one (s := { b with pwr := { b.pwr with sleepAt := none } }) (by decide) (by decide) (regsWf_of_sound sound)
  · refine does_of_run (wakeUp 2 n) (fun _ _ => rfl) fun b ⟨sound, asleep, enabled, mode⟩ => ?_
    have wakes : wakesModule 2 n b = true := by simp [wakesModule, hn, enabled, mode]
    obtain ⟨up, src, can, -⟩ := wakeUp_result wakes asleep (regsWf_of_sound sound) (by decide) hn
    exact ⟨up, src, can⟩
  · refine does_of_run (fun s => if i < 4 ∧ powered s = true ∧ s.bit F.PWR_OUT_CAM_PWR i = true then s.putBit F.PWR_OUT_STAT_CAM_LIMIT i true
      else s) (fun _ _ => rfl) fun b ⟨sound, on, bit_⟩ => ?_
    have wf := regsWf_of_sound sound
    simp only [hi, on, bit_, and_self, if_true]
    exact ⟨State.bit_putBit_same _ _ _ _ wf (Fld.fits_iff.mp (by decide)) hi, fieldsKept_put (by decide) wf _⟩
  · refine does_of_run (fun s => if powered s then s.put F.PWR_OUT_STAT_SENS_LIMIT (Nat.land mask.toNat (s.get F.PWR_OUT_SENS_EN)) else s)
      (fun _ _ => rfl) fun b ⟨sound, on⟩ => ?_
    have wf := regsWf_of_sound sound
    simp only [on, if_true]
    exact ⟨State.get_put_of_lt (by decide) (lt_of_le_of_lt Nat.and_le_left mask.isLt) wf, fieldsKept_put (by decide) wf _⟩
  · refine does_of_run (fun s => if !s.die.sigUp && (limpMapLatch s).die.sigUp then tellCanWake (limpMapLatch s) else limpMapLatch s)
      (fun _ _ => rfl) fun b ⟨sound, on, fresh, role, image, untried, good⟩ => ?_
    obtain ⟨up, map_, latched, armed, wf⟩ := limpMapLatch_result (regsWf_of_sound sound) on fresh role image untried good
    have kept : Within canFoot (limpMapLatch b)
        (if !b.die.sigUp && (limpMapLatch b).die.sigUp then tellCanWake (limpMapLatch b) else limpMapLatch b) :=
      ite_within (tellCanWake_within _) .refl
    refine ⟨?_, ?_, (kept.flag (by decide)).trans latched, (kept.flag (by decide)).trans armed⟩
    · exact (congrArg DiePart.sigUp (kept.part .die (by decide))).trans up
    · exact (congrArg LoadPart.latchedMap (kept.part .load (by decide))).trans map_

end Sys2Proof.Machine
end

section
/-!
The expiries of the packet layer: a reserved number whose reply still waits for the mirror is not released.
-/

namespace Sys2Proof.Machine

/-- A session number that phase 1 of SESSION_OPEN has reserved. -/
def openingSession : Session := { knownSession with isOpen := false }

/-- The request of phase 1 whose reply, naming the reserved number, waits for the mirror of the relief terminus. -/
def heldOpening : Waiting :=
  { req := hostRequest [] 0 0, opcode := 0x0002
    job := .mirror { version := 1, flags := 0, session := 0, target := 0, origin := 0, sequence := 6, opcode := 0x0002, status := 0, admitted := 0,
                     qpos := 0, wait := 0, result := [1#8, 0#8],
                     auth := 0, crc := 0 }
    arrived := 0, interimAt := 0, timeoutAt := 0, orphan := false }

/-- A terminus where the time of a reserved number has run out while its reply waits for the mirror. -/
def openingHeld : State := { servingState with pk := { sessions := [openingSession], waiting := [heldOpening] } }

/-- Refutes O23: a reserved number outlasts its 5 s while the reply that names it waits for the mirror (replyHeld); openingHeld shows it. -/
theorem not_sessionExpiryRows : ¬ Obligations.SessionExpiryRows := by
  rintro ⟨release, -⟩
  obtain ⟨u, hu, gone⟩ := release 1 openingSession 0 openingHeld (by decide +kernel)
  have ran : openPendingExpiry 1 (begin_ 0 openingHeld) = u := Host.Outcome.next.inj hu
  have stays : findSession (openPendingExpiry 1 (begin_ 0 openingHeld)) 1 = some openingSession := by decide +kernel
  rw [ran, gone] at stays
  exact absurd stays (by decide)

end Sys2Proof.Machine
end

section
/-!
The rows of waiting requests: a packet of CAN_D that waits is taken before the queue is served.
-/

namespace Sys2Proof.Machine

/-- A SESSION_KEEP that waits in the queue of a terminus. -/
def queuedRequest : Waiting :=
  { req := hostRequest [] 0 0, opcode := 0x0004, job := .queued, arrived := 0, interimAt := 20, timeoutAt := 0, orphan := false }

/-- A terminus with that request in its queue and a packet of CAN_D that the Signal die has put together. -/
def packetAhead : State := { servingState with pk := { sessions := [knownSession], waiting := [queuedRequest], canIn := [(0xF0, [])] } }

/-- What the table says of that request's opcode. -/
def queuedInfo : OpInfo := (opTable 0x0004).get (by decide)

/-- Refutes O24: a packet that waits from CAN_D is taken before the queue is served, so the waiting request is not served; packetAhead
shows it. -/
theorem not_waitingRequestRows : ¬ Obligations.WaitingRequestRows := by
  rintro ⟨-, -, served, -⟩
  obtain ⟨u, hu, result⟩ := served queuedRequest queuedInfo 0 packetAhead
    ⟨by decide +kernel, by decide +kernel, by decide +kernel, (Option.some_get _).symm, by decide +kernel, by decide +kernel⟩
  have ran : serve (begin_ 0 packetAhead) = u := Host.Outcome.next.inj hu
  have taken : (serve (begin_ 0 packetAhead)).pk.canIn = [] := by decide +kernel
  rw [ran, result] at taken
  exact absurd taken (by decide +kernel)

end Sys2Proof.Machine
end

section
/-!
The row of event packets (R718–R720).
-/

namespace Sys2Proof.Machine

/-- One EVENT packet leaves to the host of a session whose records are due. -/
theorem sendEvent_of_due {n : Nat} {x : Session} {ip : BitVec 32} {port : BitVec 16} {b : State} (found : findSession b n = some x)
    (opened : x.isOpen = true) (up : b.die.yardUp = true) (due_ : eventDue b.now x = true) (via : x.via = .host ip port) :
    sendEvent n b = emit (.packet x.via (eventPacket (b.put (F.EVT_SEQ_SEQ (n - 1)) ((b.get (F.EVT_SEQ_SEQ (n - 1)) + 1) % 4294967296)) x
        ((b.get (F.EVT_SEQ_SEQ (n - 1)) + 1) % 4294967296)))
      (putSession { x with evQueue := x.evQueue.drop 87, evLost := 0 }
        (b.put (F.EVT_SEQ_SEQ (n - 1)) ((b.get (F.EVT_SEQ_SEQ (n - 1)) + 1) % 4294967296))) := by
  simp only [sendEvent, found, opened, up, due_, Bool.not_true, Bool.or_self, Bool.false_eq_true, if_false, via, transmit]

/-- Settles O25: the packet, the counter and the session after it. -/
theorem eventRows : Obligations.EventRows := by
  intro n x ip port t s ⟨sound, found, opened, up, due_, via⟩
  have empty : (begin_ t s).out = [] := by simp [begin_]
  refine ⟨sendEvent n (begin_ t s), rfl, ?_⟩
  generalize begin_ t s = b at *
  have num : x.num = n := by simpa using List.find?_some found
  have count : (b.get (F.EVT_SEQ_SEQ (n - 1)) + 1) % 4294967296 < 2 ^ (F.EVT_SEQ_SEQ (n - 1)).width := Nat.mod_lt _ (by decide)
  rw [sendEvent_of_due found opened up due_ via]
  generalize (b.get (F.EVT_SEQ_SEQ (n - 1)) + 1) % 4294967296 = seq at *
  refine ⟨_, { x with evQueue := x.evQueue.drop 87, evLost := 0 }, congrArg (· ++ _) empty, rfl, (by decide : bitAt (1 + 8) 3 = true), rfl,
    State.get_put_of_lt (of_decide_eq_true rfl) count (regsWf_of_sound sound), rfl, ?_, rfl, rfl⟩
  exact findSession_putSession _ num

end Sys2Proof.Machine
end

section
/-!
SUPPORT. A fusion frame in progress reads the registers of the set that it began under: they are given to the register space and taken back
(underHeld), after which every register reads as before.
-/

namespace Sys2Proof.Machine

/-! ### A word mixed from two -/

/-- A word with the bits of a mask taken from another. -/
def mixWord (m : Nat) (w f : Word) : Word := BitVec.ofNat 32 (w.toNat - Nat.land w.toNat m + Nat.land f.toNat m)

theorem land_toNat_ofNat (w : Word) (m : Nat) : Nat.land w.toNat m = (w &&& BitVec.ofNat 32 m).toNat := by
  rw [BitVec.toNat_and, BitVec.toNat_ofNat]
  refine Nat.eq_of_testBit_eq fun i => ?_
  change (w.toNat &&& m).testBit i = _
  simp only [Nat.testBit_and, Nat.testBit_mod_two_pow]
  by_cases hi : i < 32
  · simp [hi]
  · have high : w.toNat.testBit i = false := Nat.testBit_lt_two_pow (lt_of_lt_of_le w.isLt (Nat.pow_le_pow_right (by decide) (by omega)))
    simp [high]

theorem mixWord_eq (m : Nat) (w f : Word) : mixWord m w f = (w &&& ~~~(BitVec.ofNat 32 m)) ||| (f &&& BitVec.ofNat 32 m) := by
  have split_ : (w &&& ~~~(BitVec.ofNat 32 m)) + (w &&& BitVec.ofNat 32 m) = w := by
    rw [BitVec.add_eq_or_of_and_eq_zero _ _ (by ext i hi; simp; intros; simp_all)]
    ext i hi
    simp [← Bool.and_or_distrib_left]
  have rest : w.toNat - (w &&& BitVec.ofNat 32 m).toNat = (w &&& ~~~(BitVec.ofNat 32 m)).toNat := by
    have below : w &&& BitVec.ofNat 32 m ≤ w := by
      rw [BitVec.le_def, BitVec.toNat_and]
      exact Nat.and_le_left
    rw [← BitVec.toNat_sub_of_le below]
    exact congrArg BitVec.toNat (eq_sub_of_add_eq split_).symm
  unfold mixWord
  rw [land_toNat_ofNat, land_toNat_ofNat, rest, BitVec.ofNat_add, BitVec.ofNat_toNat, BitVec.ofNat_toNat, BitVec.setWidth_eq, BitVec.setWidth_eq]
  exact BitVec.add_eq_or_of_and_eq_zero _ _ (by ext i hi; simp; intros; simp_all)

/-- Bits that are taken from the word that a mix began with give that word back. -/
theorem mixWord_back (m : Nat) (w f : Word) : mixWord m (mixWord m w f) w = w := by
  rw [mixWord_eq, mixWord_eq]
  ext i hi
  simp only [BitVec.getElem_or, BitVec.getElem_and, BitVec.getElem_not]
  cases (BitVec.ofNat 32 m)[i] <;> simp

theorem mixWord_twice (m : Nat) (w f : Word) : mixWord m (mixWord m w f) f = mixWord m w f := by
  rw [mixWord_eq, mixWord_eq]
  ext i hi
  simp only [BitVec.getElem_or, BitVec.getElem_and, BitVec.getElem_not]
  cases (BitVec.ofNat 32 m)[i] <;> simp

theorem mixWord_self (m : Nat) (w : Word) : mixWord m w w = w := by
  rw [mixWord_eq]
  ext i hi
  simp only [BitVec.getElem_or, BitVec.getElem_and, BitVec.getElem_not]
  cases (BitVec.ofNat 32 m)[i] <;> simp

/-! ### Registers given and taken back -/

/-- A store in which the words of some addresses are mixed with those of another. -/
def mixStore (from_ : List (Nat × Word)) (l : List (Nat × Word)) (a : Nat) : List (Nat × Word) :=
  storeSet regDefault l a (mixWord (regMask (fun x => x == Access.RWS) a) (storeGet regDefault l a) (storeGet regDefault from_ a))

theorem giveFus_eq (from_ into : List (Nat × Word)) :
    giveFus from_ into = foldOver (mixStore from_) into (((from_ ++ into).map (·.1)).filter (fun a => blockOf a == some .FUS)) := rfl

theorem mixStore_get (from_ : List (Nat × Word)) {l : List (Nat × Word)} (wf : canonical l = true) (a k : Nat) :
    storeGet regDefault (mixStore from_ l k) a = if a = k then
      mixWord (regMask (fun x => x == Access.RWS) a) (storeGet regDefault l a) (storeGet regDefault from_ a) else storeGet regDefault l a := by
  unfold mixStore
  split
  · next here =>
    subst here
    exact storeGet_storeSet_same regDefault l 0 a _ wf
  · next there => exact storeGet_storeSet_ne regDefault l k a _ there

theorem mixStore_wf (from_ : List (Nat × Word)) {l : List (Nat × Word)} (wf : canonical l = true) (k : Nat) :
    canonical (mixStore from_ l k) = true := storeWf_storeSet regDefault l k _ wf

theorem foldOver_mixStore_wf (from_ : List (Nat × Word)) (ks : List Nat) {l : List (Nat × Word)} (wf : canonical l = true) :
    canonical (foldOver (mixStore from_) l ks) = true :=
  foldOver_preserves (fun l => canonical l = true) _ (fun _ k h => mixStore_wf from_ h k) ks l wf

theorem foldOver_mixStore_get (from_ : List (Nat × Word)) (a : Nat) : ∀ (ks : List Nat) {l : List (Nat × Word)}, canonical l = true →
    storeGet regDefault (foldOver (mixStore from_) l ks) a = if a ∈ ks then
      mixWord (regMask (fun x => x == Access.RWS) a) (storeGet regDefault l a) (storeGet regDefault from_ a) else storeGet regDefault l a
  | [], _, _ => by simp
  | k :: ks, l, wf => by
    rw [foldOver_cons, foldOver_mixStore_get from_ a ks (mixStore_wf from_ wf k), mixStore_get from_ wf]
    by_cases here : a = k <;> by_cases later : a ∈ ks <;> simp [here, later, mixWord_twice]

theorem storeGet_of_absent (a : Nat) : ∀ l : List (Nat × Word), a ∉ l.map (·.1) → storeGet regDefault l a = regDefault a
  | [], _ => rfl
  | (k, v) :: l, h => by
    simp only [List.map_cons, List.mem_cons, not_or] at h
    simp [storeGet, h.1, storeGet_of_absent a l h.2]

theorem storeGet_filter {p : Nat → Bool} {a : Nat} (keep : p a = true) : ∀ l : List (Nat × Word),
    storeGet regDefault (l.filter (fun e => p e.1)) a = storeGet regDefault l a
  | [] => rfl
  | (k, v) :: l => by
    by_cases here : a = k
    · subst here
      simp [storeGet, keep]
    · by_cases kept : p k = true <;> simp [storeGet, kept, here, storeGet_filter keep l]

/-- The registers of another set are given and taken back: every register is as before. -/
theorem giveFus_back (v : List (Nat × Word)) {l : List (Nat × Word)} (wf : canonical l = true) (a : Nat) :
    storeGet regDefault (giveFus (l.filter (fun e => blockOf e.1 == some .FUS)) (giveFus v l)) a = storeGet regDefault l a := by
  have wf' : canonical (giveFus v l) = true := foldOver_mixStore_wf v _ wf
  rw [giveFus_eq (l.filter _), foldOver_mixStore_get _ _ _ wf']
  by_cases fus : (blockOf a == some .FUS) = true
  · rw [storeGet_filter (p := fun a => blockOf a == some .FUS) fus]
    have given : storeGet regDefault (giveFus v l) a = storeGet regDefault l a ∨
        storeGet regDefault (giveFus v l) a = mixWord (regMask (fun x => x == Access.RWS) a) (storeGet regDefault l a) (storeGet regDefault v a) := by
      rw [giveFus_eq, foldOver_mixStore_get _ _ _ wf]
      split
      · exact .inr rfl
      · exact .inl rfl
    split
    · obtain same | mixed := given
      · rw [same, mixWord_self]
      · rw [mixed, mixWord_back]
    · next absent =>
      simp only [List.mem_filter, fus, and_true, List.map_append, List.mem_append, not_or] at absent
      obtain ⟨ours, theirs⟩ := absent
      rw [storeGet_of_absent a _ theirs, ← storeGet_filter (p := fun a => blockOf a == some .FUS) fus l, storeGet_of_absent a _ ours]
  · rw [if_neg (by simp [fus]), giveFus_eq, foldOver_mixStore_get _ _ _ wf, if_neg (by simp [fus])]

/-! ### What runs under the set of a frame -/

theorem giveFus_wf (v : List (Nat × Word)) {l : List (Nat × Word)} (wf : canonical l = true) : canonical (giveFus v l) = true :=
  foldOver_mixStore_wf v _ wf

theorem settleFusion_keeps (s : State) : ∃ fus, settleFusion s = { s with fus := fus } := by
  unfold settleFusion
  split
  · exact ⟨_, rfl⟩
  · dsimp only
    split
    · exact ⟨_, rfl⟩
    · exact ⟨_, rfl⟩

/-- Where the operation leaves the registers, they read as before under the set of a frame too; and so do the inputs. -/
theorem underHeld_keeps {f : State → State} (hf : ∀ s, (f s).regs = s.regs) {s : State} (hs : s.regsWf = true) :
    RegsKept [] s (underHeld f s) := by
  obtain ⟨fus, settled⟩ := settleFusion_keeps s
  intro a _
  unfold underHeld
  rw [settled]
  dsimp only
  cases fus.held with
  | none => simp only [State.reg, hf]
  | some v =>
    simp only [State.reg, withSet, presentSet, hf]
    exact congrArg BitVec.toNat (giveFus_back v.regs hs a)

theorem underHeld_inp {f : State → State} (hf : ∀ s, (f s).inp = s.inp) (s : State) : (underHeld f s).inp = s.inp := by
  obtain ⟨fus, settled⟩ := settleFusion_keeps s
  unfold underHeld
  rw [settled]
  dsimp only
  cases fus.held with
  | none => exact hf _
  | some v => exact hf _

end Sys2Proof.Machine
end

section
/-!
The rows of network probes, of registers with an effect of their own, and of inputs.
-/

namespace Sys2Proof.Machine

/-- A row that begins with nothing sent. -/
theorem does_from_silence {c : Nat → Instr} {cond : State → Prop} {P : State → State → Prop} (f : State → State)
    (hexec : ∀ t s, exec (c t) s = .next (f (begin_ t s))) (h : ∀ b, b.out = [] → cond b → P b (f b)) : Does c cond P :=
  fun t s hc => ⟨_, hexec t s, h _ (by simp [begin_]) hc⟩

theorem emit_of_silent {b : State} (silent : b.out = []) (e : Emit) : emit e b = { b with out := [e] } := by
  rw [emit, silent]
  rfl

theorem regsKept_of_regs {b u : State} (h : u.regs = b.regs) (but : List Nat) : RegsKept but b u := fun a _ => by rw [State.reg, State.reg, h]

theorem regsKept_setReg {s : State} {a : Nat} (v : Nat) : RegsKept [a] s (s.setReg a v) := fun k other =>
  State.reg_setReg_ne s _ _ _ (by simpa using other)

theorem RegsKept.trans {but : List Nat} {s t u : State} (h : RegsKept but s t) (k : RegsKept but t u) : RegsKept but s u := fun a ha =>
  (k a ha).trans (h a ha)

/-! ### Readings -/

theorem enableWatch_keeps (s : State) : ∃ nav, enableWatch s = { s with nav := nav } := by
  unfold enableWatch
  split <;> exact ⟨_, rfl⟩

theorem gatherSample_keeps {α : Type} (g : State → α) (hg : ∀ s i f, g (modStream i f s) = g s) (kind index : Nat) (v : Int) (stamp : Nat)
    (s : State) : g (gatherSample kind index v stamp s) = g s :=
  foldOver_keeps g _ (fun u i => by split <;> simp [hg]) _ s

/-- A sample that is gathered under the set of a frame leaves the inputs and every register. -/
theorem underHeld_gatherSample {kind index : Nat} {v : Int} {stamp : Nat} {s : State} (hs : s.regsWf = true) :
    (underHeld (gatherSample kind index v stamp) s).inp = s.inp ∧ RegsKept [] s (underHeld (gatherSample kind index v stamp) s) :=
  ⟨underHeld_inp (fun u => gatherSample_keeps State.inp (fun _ _ _ => rfl) kind index v stamp u) s,
    underHeld_keeps (fun u => gatherSample_keeps State.regs (fun _ _ _ => rfl) kind index v stamp u) hs⟩

/-- What a reading that leaves the inputs x and the registers shows. -/
theorem readInput_of {r : Reading} {b u : State} (taken : takeReading r b = u) :
    (readInput r b).inp = u.inp ∧ (readInput r b).regs = u.regs ∧ (readInput r b).pwr = u.pwr := by
  obtain ⟨nav, kept⟩ := enableWatch_keeps u
  rw [readInput, taken, kept]
  exact ⟨rfl, rfl, rfl⟩

theorem lookupNum_scan {d k : Nat} : ∀ (l : List Nat) (m : List (Nat × Nat)),
    lookupNum (foldOver (fun m i => putNum m i d) m l) k = if k ∈ l then some d else lookupNum m k
  | [], m => by simp
  | i :: l, m => by
    rw [foldOver_cons, lookupNum_scan l]
    by_cases later : k ∈ l
    · simp [later]
    · by_cases here : k = i
      · subst here
        simp [later, lookupNum_putNum_same]
      · simp [later, here, lookupNum_putNum_ne here]

theorem get_of_regs {s u : State} (h : u.regs = s.regs) (g : Fld) : u.get g = s.get g := by rw [State.get, State.get, State.reg, State.reg, h]

theorem gather_keeps (h : Nat) (v : Int) (s : State) : ∃ ev, gather h v s = { s with ev := ev } := ⟨_, rfl⟩

theorem takeReading_logic {mv : Nat} {ign : Bool} (small : mv < 65536) {s : State} (on : powered s = true) (hs : s.regsWf = true) :
    (takeReading (.logic mv ign) s).get F.PWR_SUPPLY_LOGIC_MV = mv ∧ (takeReading (.logic mv ign) s).get F.PWR_SUPPLY_IGN = b2n ign ∧
      (ign = true → (takeReading (.logic mv ign) s).pwr.ignLowFrom = none) := by
  have sat : satN 16 mv = mv := if_pos small
  have volts : (s.put F.PWR_SUPPLY_LOGIC_MV mv).get F.PWR_SUPPLY_LOGIC_MV = mv := State.get_put_of_lt (by decide) small hs
  have wf : (s.put F.PWR_SUPPLY_LOGIC_MV mv).regsWf = true := State.regsWf_put _ _ _ hs
  simp only [takeReading, on, Bool.not_true, Bool.false_eq_true, if_false, sat]
  generalize s.put F.PWR_SUPPLY_LOGIC_MV mv = u at volts wf ⊢
  obtain ⟨ev, kept⟩ := gather_keeps 3 mv u
  rw [kept]
  refine ⟨?_, ?_, fun high => if_pos high⟩
  · exact (get_of_regs (s := u.put F.PWR_SUPPLY_IGN (b2n ign)) rfl _).trans ((State.get_put_of_apart (by decide) wf).trans volts)
  · exact (get_of_regs (s := u.put F.PWR_SUPPLY_IGN (b2n ign)) rfl _).trans (State.get_put_b2n (by decide) (by decide) wf)

/-! ### Registers with an effect of their own -/

theorem writePpsDelay_result {v : Int} (low : -1000000 ≤ v) (high : v ≤ 1000000) {s : State} (hs : s.regsWf = true) :
    (writePpsDelay v s).1.gets F.GNS_PPS_DELAY_DELAY = v ∧ (writePpsDelay v s).1.nav.ppsStored = v ∧
      RegsKept [Reg.GNS_PPS_DELAY] s (writePpsDelay v s).1 := by
  have inside : ¬ (v < -1000000 ∨ v > 1000000) := by omega
  rw [writePpsDelay, if_neg inside]
  refine ⟨?_, rfl, ?_⟩
  · exact gets_puts (by decide) (by decide) hs (by simp only [F.GNS_PPS_DELAY_DELAY]; omega) (by simp only [F.GNS_PPS_DELAY_DELAY]; omega)
  · intro a other
    exact State.reg_setReg_ne _ _ _ _ (by simpa [F.GNS_PPS_DELAY_DELAY] using other)

theorem writeStop_result {c : Nat} {v : Bool} {s : State} (up : s.die.yardUp = true) (hs : s.regsWf = true) :
    (writeStop c v s).get (F.DMA_CH_CTRL_STOP c) = b2n v ∧
      (writeStop c v s).get (F.DMA_CH_CTRL_STATE c) = (if v then (if (dmaChan s c).active then 2 else 3) else b2n (dmaChan s c).active) ∧
      RegsKept [Reg.DMA_CH_CTRL c] s (writeStop c v s) := by
  have small : (if v then (if (dmaChan s c).active then 2 else 3) else b2n (dmaChan s c).active) < 2 ^ (F.DMA_CH_CTRL_STATE c).width := by
    change _ < 4
    cases v <;> cases (dmaChan s c).active <;> decide
  have wf := State.regsWf_put s (F.DMA_CH_CTRL_STOP c) (b2n v) hs
  have apart : (F.DMA_CH_CTRL_STATE c).apart (F.DMA_CH_CTRL_STOP c) = true := by
    simp +decide [Fld.apart, Fld.fits, F.DMA_CH_CTRL_STATE, F.DMA_CH_CTRL_STOP]
  have ran : writeStop c v s = (s.put (F.DMA_CH_CTRL_STOP c) (b2n v)).put (F.DMA_CH_CTRL_STATE c)
      (if v then (if (dmaChan s c).active then 2 else 3) else b2n (dmaChan s c).active) := by simp only [writeStop, up, Bool.not_true,
        Bool.false_eq_true, if_false]
  rw [ran]
  refine ⟨?_, State.get_put_of_lt (of_decide_eq_true rfl) small wf, .trans (regsKept_setReg _) (regsKept_setReg _)⟩
  rw [State.get_put_of_apart apart wf]
  exact State.get_put_b2n (of_decide_eq_true rfl) (of_decide_eq_true rfl) hs

/-- Settles O26: the probes, the registers and the readings, in the order of the statement. -/
theorem inputAndRegisterRows : Obligations.InputAndRegisterRows := by
  refine ⟨fun q => ?_, fun q => ?_, fun ip => ?_, ?_, fun n v hn => ?_, ?_, fun v low high => ?_, fun v out_ => ?_, fun c v hc => ?_,
    fun i c => ?_, fun i c => ?_, fun i v => ?_, fun i ago some_ recent => ?_, fun l => ?_, fun ax ay az gx gy gz => ?_, fun mv ign small => ?_⟩
  · refine does_from_silence (hostProbe q) (fun _ _ => rfl) fun b silent ⟨up, island, holder, straps, mine⟩ => ?_
    rw [← emit_of_silent silent]
    cases q with
    | arp ip => simp [hostProbe, up, island, holder, straps, mine ip rfl]
    | echo data => simp [hostProbe, up, island, holder, straps]
  · refine does_from_silence (fun s => if s.die.yardUp && islandOpen s 10 then emit (.netReply false q) s else s) (fun _ _ => rfl)
      fun b silent ⟨up, island⟩ => ?_
    rw [← emit_of_silent silent]
    simp [up, island]
  · refine does_of_run (hostProbe (.arp ip)) (fun _ _ => rfl) fun b other => ?_
    simp [hostProbe, other]
  · refine does_of_run (fun s => s.put F.CLE_SLACK_MIN_SLACK 0xFFFF) (fun _ _ => rfl) fun b sound => ?_
    have wf := regsWf_of_sound sound
    exact ⟨State.get_put_of_lt (by decide) (by decide) wf, fieldsKept_put (by decide) wf _⟩
  · refine does_of_run (fun s => if n < 64 ∧ s.die.yardUp = true then s.setReg (Reg.FUS_HMAP n) v.toNat else s) (fun _ _ => rfl)
      fun b ⟨sound, up⟩ => ?_
    simp only [hn, up, and_self, if_true]
    exact ⟨(State.reg_setReg_same b _ _ (regsWf_of_sound sound)).trans (Nat.mod_eq_of_lt v.isLt), regsKept_setReg _, rfl⟩
  · refine does_of_run (fun s => if s.die.yardUp then remap s else s) (fun _ _ => rfl) fun b up => ?_
    simp only [up, if_true]
    rfl
  · refine does_of_run (fun s => (writePpsDelay v.toInt s).1) (fun _ _ => rfl) fun b sound => ?_
    exact writePpsDelay_result low high (regsWf_of_sound sound)
  · refine does_of_run (fun s => (writePpsDelay v.toInt s).1) (fun _ _ => rfl) fun b _ => ?_
    rw [writePpsDelay, if_pos out_]
  · refine does_of_run (fun s => if c < 32 then writeStop c v s else s) (fun _ _ => rfl) fun b ⟨sound, up⟩ => ?_
    simp only [hc, if_true]
    exact writeStop_result up (regsWf_of_sound sound)
  · refine does_of_run (readInput (.analogue i c)) (fun _ _ => rfl) fun b ⟨sound, on, island, instant⟩ => ?_
    obtain ⟨inp, regs, -⟩ := readInput_of (r := .analogue i c) (b := b) rfl
    have taken : takeReading (.analogue i c) b = underHeld (gatherSample 4 i c.toNat (deviceTime b))
        { b with inp := { b.inp with ain := putNum b.inp.ain i ((c.toNat : Int), deviceTime b) } } := by simp [takeReading, on, island, instant]
    obtain ⟨inp', regs'⟩ := underHeld_gatherSample (kind := 4) (index := i) (v := c.toNat) (stamp := deviceTime b)
      (s := { b with inp := { b.inp with ain := putNum b.inp.ain i ((c.toNat : Int), deviceTime b) } }) (regsWf_of_sound sound)
    rw [← taken] at inp' regs'
    refine ⟨by rw [inp, inp', lookupNum_putNum_same], .trans regs' (regsKept_of_regs regs []), fun k hk => ?_⟩
    rw [inp, inp', lookupNum_putNum_ne hk]
  · refine does_of_run (readInput (.acoustic i c)) (fun _ _ => rfl) fun b ⟨sound, on, island, instant⟩ => ?_
    obtain ⟨inp, regs, -⟩ := readInput_of (r := .acoustic i c) (b := b) rfl
    have taken : takeReading (.acoustic i c) b = underHeld (gatherSample 3 i c.toNat (deviceTime b))
        { b with inp := { b.inp with acoustic := putNum b.inp.acoustic i ((c.toNat : Int), deviceTime b) } } := by
      simp [takeReading, on, island, instant]
    obtain ⟨inp', regs'⟩ := underHeld_gatherSample (kind := 3) (index := i) (v := c.toNat) (stamp := deviceTime b)
      (s := { b with inp := { b.inp with acoustic := putNum b.inp.acoustic i ((c.toNat : Int), deviceTime b) } }) (regsWf_of_sound sound)
    rw [← taken] at inp' regs'
    exact ⟨by rw [inp, inp', lookupNum_putNum_same], .trans regs' (regsKept_of_regs regs [])⟩
  · refine does_of_run (readInput (.frequency i v)) (fun _ _ => rfl) fun b on => ?_
    obtain ⟨inp, regs, -⟩ := readInput_of (r := .frequency i v) (b := b)
      (u := { b with inp := { b.inp with freq := putNum b.inp.freq i (v, deviceTime b) } }) (by simp [takeReading, on])
    exact ⟨by rw [inp, lookupNum_putNum_same], regs⟩
  · refine does_of_run (readInput (.edges i ago)) (fun _ _ => rfl) fun b ⟨sound, on, instant⟩ => ?_
    obtain ⟨inp, regs, -⟩ := readInput_of (r := .edges i ago) (b := b) rfl
    have inside : ago.any (fun a => decide (100 * us ≤ a)) = false := by
      rw [List.any_eq_false]
      intro a ha
      have := List.all_eq_true.mp recent a ha
      simp only [decide_eq_true_eq] at this ⊢
      omega
    have taken : takeReading (.edges i ago) b = underHeld (gatherSample 5 i ago.length (deviceTime b))
        { b with inp := { b.inp with edgeAt := putNum b.inp.edgeAt i (ago.map (fun a => deviceTime b - a)) } } := by
      simp [takeReading, on, instant, inside, countEdges, some_]
    obtain ⟨inp', regs'⟩ := underHeld_gatherSample (kind := 5) (index := i) (v := ago.length) (stamp := deviceTime b)
      (s := { b with inp := { b.inp with edgeAt := putNum b.inp.edgeAt i (ago.map (fun a => deviceTime b - a)) } }) (regsWf_of_sound sound)
    rw [← taken] at inp' regs'
    exact ⟨inp.trans inp', .trans regs' (regsKept_of_regs regs [])⟩
  · refine does_of_run (readInput (.digital l)) (fun _ _ => rfl) fun b on => ?_
    obtain ⟨inp, regs, -⟩ := readInput_of (r := .digital l) (b := b) (u := scanDigital l.toNat (deviceTime b) b) (by simp [takeReading, on])
    refine ⟨by rw [inp]; rfl, regs, fun k hk => ?_⟩
    rw [inp]
    simp only [scanDigital, lookupNum_scan, List.mem_filter, mem_upFrom, hk]
    by_cases same : bitAt l.toNat k = bitAt b.inp.din k <;> simp [same]
  · refine does_of_run (readInput (.inertial ax ay az gx gy gz)) (fun _ _ => rfl) fun b ⟨on, instant⟩ => ?_
    obtain ⟨inp, regs, -⟩ := readInput_of (r := .inertial ax ay az gx gy gz) (b := b)
      (u := { b with inp := { b.inp with imu := [ax, ay, az, gx, gy, gz], imuAt := deviceTime b } }) (by simp [takeReading, on, instant])
    exact ⟨inp, regs⟩
  · refine does_of_run (readInput (.logic mv ign)) (fun _ _ => rfl) fun b ⟨sound, on⟩ => ?_
    obtain ⟨-, regs, pwr⟩ := readInput_of (r := .logic mv ign) (b := b) rfl
    obtain ⟨volts, level, low⟩ := takeReading_logic (mv := mv) (ign := ign) small on (regsWf_of_sound sound)
    exact ⟨(get_of_regs regs _).trans volts, (get_of_regs regs _).trans level, fun high => by rw [pwr, low high]⟩

end Sys2Proof.Machine
end

section
/-!
The rows of the references and of the clock gates (R601–R617).
-/

namespace Sys2Proof.Machine

theorem FieldStands.foldOver_mem {α : Type} {g : Fld} {f : State → α → State} {b : State} : ∀ {l : List α} {s : State}, FieldStands g b s →
    (∀ a ∈ l, ∀ u, FieldStands g u (f u a)) → FieldStands g b (Machine.foldOver f s l)
  | [], _, h, _ => h
  | _ :: _, _, h, step => by
    rw [foldOver_cons]
    exact foldOver_mem (h.trans (step _ List.mem_cons_self _)) fun a ha => step a (List.mem_cons_of_mem _ ha)

/-! ### The sources of the clock groups -/

/-- What the switch of a clock group to another source may change. -/
def sourceFoot : Footprint where
  reg a := a == Reg.CLK_SRC
  parts := [.nav]

theorem clockGroups_addr : ∀ g ∈ clockGroups, g.1.addr = Reg.CLK_SRC ∧ g.1.fits = true ∧ 2 ≤ g.1.width := by decide

theorem setSource_within {b s : State} (h : Within sourceFoot b s) {f : Fld} (hf : f.addr = Reg.CLK_SRC) (v : Nat) :
    Within sourceFoot b (setSource f v s) := by
  have place : sourceFoot.reg f.addr = true := by
    rw [hf]
    decide
  exact ite_within h (raise_within (put_within (ite_within (nav_within h (by decide)) h) place))

theorem leaveRef_within (xtal : Bool) (s : State) : Within sourceFoot s (leaveRef xtal s) :=
  foldOver_within .refl fun _ g hg hu => ite_within hu
    (ite_within (setSource_within hu (clockGroups_addr g hg).1 _) (setSource_within hu (clockGroups_addr g hg).1 _))

theorem takeIdle_within (xtal : Bool) (s : State) : Within sourceFoot s (takeIdle xtal s) :=
  foldOver_within .refl fun _ g hg hu => ite_within (setSource_within hu (clockGroups_addr g hg).1 _) hu

/-- A field apart from the group's stands. -/
theorem setSource_stands {f g : Fld} (apart : f.apart g = true) (calm : calmReg g.addr = true) (v : Nat) (s : State) :
    FieldStands g s (setSource f v s) := by
  unfold setSource
  refine .ite .refl (.raiseArg (.put ?_ apart) calm)
  exact .ite (.parts .refl) .refl

/-- A group reads its new source. -/
theorem setSource_get {f : Fld} (hf : f.addr = Reg.CLK_SRC) (fits : f.fits = true) {v : Nat} (hv : v < 2 ^ f.width) {s : State}
    (hs : s.regsWf = true) : (setSource f v s).get f = v := by
  have calm : calmReg f.addr = true := by
    rw [hf]
    decide
  have write : ∀ u : State, u.regsWf = true → (raise0 Src.CLK_REF_SWITCH (u.put f v)).get f = v := fun u hu =>
    ((FieldStands.raiseArg .refl calm (State.regsWf_put u f v hu)).2).trans (State.get_put_of_lt fits hv hu)
  unfold setSource
  split
  · assumption
  · exact write _ (by split <;> exact hs)

/-- Groups that are set one after the other read their new sources. -/
theorem foldOver_setSource {f : State → Fld × Bool × Bool → State} {val : Fld × Bool × Bool → Nat} : ∀ {l : List (Fld × Bool × Bool)},
    l.Pairwise (fun a b => b.1.apart a.1 = true) → (∀ g ∈ l, g.1.addr = Reg.CLK_SRC ∧ g.1.fits = true ∧ val g < 2 ^ g.1.width) →
    (∀ s, ∀ g ∈ l, f s g = setSource g.1 (val g) s ∨ f s g = s) → ∀ {s : State}, s.regsWf = true →
    ∀ g ∈ l, (∀ s, f s g = setSource g.1 (val g) s) → (foldOver f s l).get g.1 = val g
  | [], _, _, _, _, _, g, hg, _ => absurd hg List.not_mem_nil
  | e :: l, pairs, fields, step, s, hs, g, hg, sets => by
    obtain ⟨first, rest⟩ := List.pairwise_cons.mp pairs
    have wf : (f s e).regsWf = true := by
      obtain set_ | same := step s e List.mem_cons_self
      · rw [set_]
        exact (setSource_within .refl (fields e List.mem_cons_self).1 _).wf hs
      · rw [same]
        exact hs
    rw [foldOver_cons]
    obtain rfl | later := List.mem_cons.mp hg
    · obtain ⟨addr, fits, small⟩ := fields g List.mem_cons_self
      have calm : calmReg g.1.addr = true := by
        rw [addr]
        decide
      have after : FieldStands g.1 (f s g) (foldOver f (f s g) l) := .foldOver_mem .refl fun k hk u => by
        obtain set_ | same := step u k (List.mem_cons_of_mem _ hk)
        · rw [set_]
          exact setSource_stands (first k hk) calm _ _
        · rw [same]
          exact .refl
      rw [(after wf).2, sets, setSource_get addr fits small hs]
    · exact foldOver_setSource rest (fun k hk => fields k (List.mem_cons_of_mem _ hk)) (fun u k hk => step u k (List.mem_cons_of_mem _ hk)) wf g
        later sets

theorem clockGroups_apart : clockGroups.Pairwise (fun a b => b.1.apart a.1 = true) := by decide

/-! ### Limp mode for want of a reference -/

theorem limpEnter_cause (k : LimpCause) {s : State} (hs : s.regsWf = true) : (limpEnter k s).flag (causeFld k) = true := by
  have set_ : (s.put (causeFld k) 1).get (causeFld k) = 1 := State.get_put_of_lt (by cases k <;> decide) (by cases k <;> decide) hs
  have stands := (limpBegin_stands (g := causeFld k) (by cases k <;> decide) (by cases k <;> decide) (s.put (causeFld k) 1)
    (State.regsWf_put _ _ _ hs)).2
  have same : (limpEnter k s).get (causeFld k) = 1 := stands.trans set_
  rw [State.flag, same]
  rfl

/-- A cause that is set is among the causes. -/
theorem limpCauses_put (k : LimpCause) {s : State} (hs : s.regsWf = true) : limpCauses (s.put (causeFld k) 1) ≠ 0 := by
  have set_ : (s.put (causeFld k) 1).get (causeFld k) = 1 := State.get_put_of_lt (by cases k <;> decide) (by cases k <;> decide) hs
  generalize s.put (causeFld k) 1 = u at set_
  simp only [limpCauses, bitsAt]
  cases k <;> simp only [causeFld, State.get, bitsAt, F.LSW_LIMP_REQ, F.LSW_LIMP_DEADMAN, F.LSW_LIMP_REF, F.LSW_LIMP_HOLD] at set_ <;> omega

/-- With the limp map latched, a cause is limp mode. -/
theorem limpEnter_inLimp (k : LimpCause) {s : State} (hs : s.regsWf = true) (latched : s.load.latchedMap.isSome = true) :
    inLimp (limpEnter k s) = true := by
  have caused := limpCauses_put k hs
  have wf : (s.put (causeFld k) 1).regsWf = true := State.regsWf_put _ _ _ hs
  have map_ : (s.put (causeFld k) 1).load.latchedMap.isSome = true := latched
  unfold limpEnter
  generalize s.put (causeFld k) 1 = u at caused wf map_ ⊢
  rw [limpBegin_eq]
  split
  · next stays =>
    obtain ⟨m, some_⟩ := Option.isSome_iff_exists.mp map_
    simpa [some_, caused] using stays
  · have shown : (u.put F.LSW_LIMP_LIMP 1).flag F.LSW_LIMP_LIMP = true := State.flag_put_one (by decide) (by decide) wf
    exact ((takeLimp_within _).flag (by decide)).trans shown

/-! ### The judgement of a reference -/

theorem limpRelease_within {b s : State} (h : Within (loadFoot 32) b s) {c : Nat} (hc : c < 32) : Within (loadFoot 32) b (limpRelease s c) := by
  unfold limpRelease
  have off : Within (loadFoot 32) b ((modChan c (fun x => { x with limpLatched := false, limpWait := false })
      (outputOff c (if (chan s c).limpLatched then logUnclassified c 1 s else s))).put (F.LSW_CH_CMD_STATE c) 0) :=
    put_within (modChan_within (outputOff_within hc (ite_within (logUnclassified_within h) h))) (loadFoot_cmd hc)
  exact ite_within (putStat_within hc off) (putStat_within hc off)

/-- The channels are released from limp mode. -/
def released (s : State) : State := foldOver limpRelease s (upFrom 0 32)

/-- The channels are judged anew as limp mode ends. -/
def judgedAnew (before s : State) : State :=
  raise0 Src.LSW_LIMP_EXIT (refreshSinks (foldOver (fun s c => judgeAnew before c s) s (upFrom 0 32)))

theorem limpExit_eq (s : State) :
    limpExit s = judgedAnew s (((released s).put F.LSW_LIMP_LIMP 0).put F.CLK_STATUS_WAIT_RESUME 0) := rfl

theorem released_within (s : State) : Within (loadFoot 32) s (released s) :=
  foldOver_within .refl fun _ c hc hu => limpRelease_within hu (by simpa using hc)

theorem judgedAnew_within (before s : State) : Within (loadFoot 32) s (judgedAnew before s) :=
  raise_within (refreshSinks_load (foldOver_within .refl fun _ _ _ hu => judgeAnew_within hu))

/-- The end of limp mode changes the channels, and the two bits that show it. -/
theorem limpExit_stands {g : Fld} (far : (loadFoot 32).touches g.addr = false) (limp : F.LSW_LIMP_LIMP.apart g = true)
    (wait : F.CLK_STATUS_WAIT_RESUME.apart g = true) (s : State) : FieldStands g s (limpExit s) := by
  rw [limpExit_eq]
  exact .trans (.put (.put ((released_within s).stands far) limp) wait) ((judgedAnew_within _ _).stands far)

theorem refField_addr (xtal : Bool) : (refField xtal).addr = Reg.CLK_STATUS := by cases xtal <;> rfl

theorem regain_stands (xtal x : Bool) (s : State) : FieldStands (refField x) s (regain xtal s) := by
  have groups : FieldStands (refField x) s (foldOver (fun s (g : Fld × Bool × Bool) =>
      if g.2.2 || g.2.1 == xtal then setSource g.1 (b2n xtal) s else s) s clockGroups) :=
    (foldOver_within (w := sourceFoot) .refl fun _ g hg hu => ite_within (setSource_within hu (clockGroups_addr g hg).1 _) hu).stands
      (by cases x <;> decide)
  unfold regain
  generalize foldOver (fun s (g : Fld × Bool × Bool) => if g.2.2 || g.2.1 == xtal then setSource g.1 (b2n xtal) s else s) s clockGroups = u at groups ⊢
  have cleared : FieldStands (refField x) s ((u.put F.CLK_STATUS_BOTH_LOST 0).put F.LSW_LIMP_REF 0) :=
    .put (.put groups (by cases x <;> decide)) (by cases x <;> decide)
  dsimp only
  generalize (u.put F.CLK_STATUS_BOTH_LOST 0).put F.LSW_LIMP_REF 0 = v at cleared ⊢
  refine .ite cleared ?_
  have waits : FieldStands (refField x) s (v.put F.CLK_STATUS_WAIT_RESUME 1) := .put cleared (by cases x <;> decide)
  generalize v.put F.CLK_STATUS_WAIT_RESUME 1 = w at waits ⊢
  exact .ite (.raiseArg (waits.trans (limpExit_stands (by cases x <;> decide) (by cases x <;> decide) (by cases x <;> decide) w))
    (by cases x <;> decide)) waits

theorem refPart_modRef_same (xtal : Bool) (f : RefPart → RefPart) (s : State) : refPart (modRef xtal f s) xtal = f (refPart s xtal) := by
  cases xtal <;> rfl

theorem refPart_modRef_other (xtal : Bool) (f : RefPart → RefPart) (s : State) : refPart (modRef xtal f s) (!xtal) = refPart s (!xtal) := by
  cases xtal <;> rfl

theorem refState_modRef (xtal x : Bool) (f : RefPart → RefPart) (s : State) : refState (modRef xtal f s) x = refState s x :=
  get_of_regs (modRef_regs xtal f s) _

/-- What follows the judgement of a reference. -/
def afterJudgement (xtal : Bool) (was : Nat) (s : State) : State :=
  let s := { s with clk := { s.clk with refDue := false, acceptCoarse := false } }
  let s := if was = 3 then raise0 Src.CLK_REF_JUDGED (modRef xtal (fun r => { r with judgedAt := some s.now }) s) else s
  if s.flag F.CLK_STATUS_BOTH_LOST || s.flag F.LSW_LIMP_REF then regain xtal s else takeIdle xtal s

theorem judgeRef_eq (xtal : Bool) (code : Nat) (s : State) : judgeRef xtal code s =
    if refState s xtal = code ∨ (refState s xtal = 1 ∧ code = 2) then s
    else afterJudgement xtal (refState s xtal) (s.put (refField xtal) code) := rfl

theorem refField_calm (x : Bool) : calmReg (refField x).addr = true := by cases x <;> decide

theorem afterJudgement_stands (xtal x : Bool) (was : Nat) (s : State) : FieldStands (refField x) s (afterJudgement xtal was s) := by
  have told : FieldStands (refField x) s (if was = 3 then
      raise0 Src.CLK_REF_JUDGED (modRef xtal (fun r => { r with judgedAt := some s.now })
        { s with clk := { s.clk with refDue := false, acceptCoarse := false } })
      else { s with clk := { s.clk with refDue := false, acceptCoarse := false } }) :=
    .ite (.raiseArg (.parts (.parts .refl) (modRef_regs _ _ _)) (refField_calm x)) (.parts .refl)
  unfold afterJudgement
  dsimp only
  revert told
  generalize (if was = 3 then
      raise0 Src.CLK_REF_JUDGED (modRef xtal (fun r => { r with judgedAt := some s.now })
        { s with clk := { s.clk with refDue := false, acceptCoarse := false } })
      else { s with clk := { s.clk with refDue := false, acceptCoarse := false } }) = u
  intro told
  exact .ite (told.trans (regain_stands xtal x u)) (told.trans ((takeIdle_within xtal u).stands (by cases x <;> decide)))

/-- A reference is judged: its state is the code. -/
theorem judgeRef_get {xtal : Bool} {code : Nat} (small : code < 4) {s : State} (hs : s.regsWf = true)
    (other : ¬ (refState s xtal = 1 ∧ code = 2)) : refState (judgeRef xtal code s) xtal = code := by
  rw [judgeRef_eq]
  split
  · next same => exact same.resolve_right other
  · exact ((afterJudgement_stands xtal xtal _ _ (State.regsWf_put _ _ _ hs)).2).trans
      (State.get_put_of_lt (by cases xtal <;> decide) (by cases xtal <;> exact small) hs)

/-! ### The failure of a reference -/

/-- A reference fails: its state, and its count. -/
def failedRef (xtal : Bool) (s : State) : State :=
  let s := modRef xtal (fun r => { r with good := 0, bad := 0, coarse := 0, judgedAt := none }) (s.put (refField xtal) 3)
  s.bump (if xtal then F.CLK_CNT_XTAL_FAILS else F.CLK_CNT_TCXO_FAILS) 1

/-- What the log and the events say of the failure. -/
def toldFailure (xtal : Bool) (s : State) : State := raise0 Src.CLK_REF_FAIL (fault 0x39 4 Src.CLK_REF_FAIL (b2n xtal) 0 0 0 s)

theorem failRef_eq (xtal : Bool) (s : State) : failRef xtal s = if refState s xtal = 3 then s
    else if refState (toldFailure xtal (failedRef xtal s)) (!xtal) = 3 then bothLost (toldFailure xtal (failedRef xtal s))
    else leaveRef xtal (toldFailure xtal (failedRef xtal s)) := rfl

theorem failedRef_result (xtal : Bool) {s : State} (hs : s.regsWf = true) :
    (failedRef xtal s).regsWf = true ∧ refState (failedRef xtal s) xtal = 3 ∧ refState (failedRef xtal s) (!xtal) = refState s (!xtal) ∧
      (refPart (failedRef xtal s) xtal).present = (refPart s xtal).present := by
  unfold failedRef refState
  dsimp only
  have hs' : (s.put (refField xtal) 3).regsWf = true := State.regsWf_put _ _ _ hs
  have own : (s.put (refField xtal) 3).get (refField xtal) = 3 :=
    State.get_put_of_lt (by cases xtal <;> decide) (by cases xtal <;> decide) hs
  have other : (s.put (refField xtal) 3).get (refField (!xtal)) = s.get (refField (!xtal)) :=
    State.get_put_of_apart (by cases xtal <;> decide) hs
  have part : refPart (s.put (refField xtal) 3) xtal = refPart s xtal := by cases xtal <;> rfl
  generalize s.put (refField xtal) 3 = u at hs' own other part ⊢
  have counts : ∀ x, ((if xtal then F.CLK_CNT_XTAL_FAILS else F.CLK_CNT_TCXO_FAILS)).apart (refField x) = true := by
    cases xtal <;> decide
  have wf : (modRef xtal (fun r => { r with good := 0, bad := 0, coarse := 0, judgedAt := none }) u).regsWf = true := by
    cases xtal <;> exact hs'
  refine ⟨State.regsWf_put _ _ _ wf, ?_, ?_, ?_⟩
  · rw [State.bump_eq_put, State.get_put_of_apart (counts xtal) wf, get_of_regs (modRef_regs _ _ _), own]
  · rw [State.bump_eq_put, State.get_put_of_apart (counts _) wf, get_of_regs (modRef_regs _ _ _), other]
  · rw [← part]
    cases xtal <;> rfl

theorem failedRef_xtal_count {s : State} (hs : s.regsWf = true) : (failedRef true s).get F.CLK_CNT_XTAL_FAILS =
    satN F.CLK_CNT_XTAL_FAILS.width (s.get F.CLK_CNT_XTAL_FAILS + 1) := by
  have hs' : (s.put (refField true) 3).regsWf = true := State.regsWf_put _ _ _ hs
  have count : (s.put (refField true) 3).get F.CLK_CNT_XTAL_FAILS = s.get F.CLK_CNT_XTAL_FAILS := State.get_put_of_apart (by decide) hs
  unfold failedRef
  dsimp only
  generalize s.put (refField true) 3 = u at hs' count ⊢
  rw [if_pos rfl, State.bump_eq_put]
  exact (State.get_put_satN (by decide) hs').trans (by rw [get_of_regs (modRef_regs _ _ _), count])

/-- What the report of a failure may change. -/
def tellFoot : Footprint where
  reg _ := false
  parts := [.log]

theorem toldFailure_within (xtal : Bool) (s : State) : Within tellFoot s (toldFailure xtal s) :=
  raise_within (fault_within .refl (by decide))

theorem toldFailure_flagged (xtal : Bool) {s : State} (hs : s.regsWf = true) : Flagged Src.CLK_REF_FAIL (toldFailure xtal s) :=
  flagged_raiseArg (by decide) ((fault_within (w := tellFoot) .refl (by decide)).wf hs)

/-- One of two references fails: its groups go over to the other. -/
theorem failRef_one {xtal : Bool} {s : State} (hs : s.regsWf = true) (own : refState s xtal ≠ 3) (other : refState s (!xtal) ≠ 3) :
    (failRef xtal s).regsWf = true ∧ refState (failRef xtal s) xtal = 3 ∧ refState (failRef xtal s) (!xtal) = refState s (!xtal) ∧
      (refPart (failRef xtal s) xtal).present = (refPart s xtal).present ∧ Flagged Src.CLK_REF_FAIL (failRef xtal s) ∧
      ∀ f : Fld, f.addr = Reg.CLK_CNT → (failRef xtal s).get f = (failedRef xtal s).get f := by
  obtain ⟨wf, state, kept, present⟩ := failedRef_result xtal hs
  have told := toldFailure_within xtal (failedRef xtal s)
  have flagged := toldFailure_flagged xtal wf
  have state' : refState (toldFailure xtal (failedRef xtal s)) xtal = 3 := (told.get (by cases xtal <;> decide)).trans state
  have kept' : refState (toldFailure xtal (failedRef xtal s)) (!xtal) = refState s (!xtal) := (told.get (by cases xtal <;> decide)).trans kept
  have clk : (toldFailure xtal (failedRef xtal s)).clk = (failedRef xtal s).clk := told.part .clk (by decide)
  have wf' := told.wf wf
  have count : ∀ f : Fld, f.addr = Reg.CLK_CNT → (toldFailure xtal (failedRef xtal s)).get f = (failedRef xtal s).get f := fun f hf =>
    told.get (by rw [hf]; decide)
  rw [failRef_eq, if_neg own, if_neg (by rw [kept']; exact other)]
  generalize toldFailure xtal (failedRef xtal s) = u at *
  have left := leaveRef_within xtal u
  have clk' : (leaveRef xtal u).clk = u.clk := left.part .clk (by decide)
  refine ⟨left.wf wf', (left.get (by cases xtal <;> decide)).trans state', (left.get (by cases xtal <;> decide)).trans kept', ?_,
    left.flags wf' _ (by decide) flagged, fun f hf => (left.get (by rw [hf]; decide)).trans (count f hf)⟩
  rw [← present]
  cases xtal <;> simp [refPart, clk', clk]

/-! ### The loss of both references -/

/-- The groups go over to what runs without a reference. -/
def groupsLost (s : State) : State :=
  foldOver (fun s (g : Fld × Bool × Bool) => setSource g.1 (if g.1 = F.CLK_SRC_TIME then 2 else 3) s) s clockGroups

theorem groupsLost_gets {s : State} (hs : s.regsWf = true) :
    (groupsLost s).regsWf = true ∧ ∀ g ∈ clockGroups, (groupsLost s).get g.1 = if g.1 = F.CLK_SRC_TIME then 2 else 3 := by
  refine ⟨(foldOver_within (w := sourceFoot) .refl fun _ g hg hu => setSource_within hu (clockGroups_addr g hg).1 _).wf hs, fun g hg => ?_⟩
  exact foldOver_setSource (f := fun s (g : Fld × Bool × Bool) => setSource g.1 (if g.1 = F.CLK_SRC_TIME then 2 else 3) s)
    (val := fun g => if g.1 = F.CLK_SRC_TIME then 2 else 3) clockGroups_apart
    (by decide) (fun _ _ _ => .inl rfl) hs g hg fun _ => rfl

/-- The loss of both references before limp mode takes it. -/
def lossShown (s : State) : State := ((groupsLost s).put F.CLK_STATUS_BOTH_LOST 1).bump F.CLK_CNT_BOTH_LOST 1

def lossTold (s : State) : State := raise0 Src.CLK_BOTH_LOST (fault 0x3A 4 Src.CLK_BOTH_LOST 0xFFFF 0 0 0 s)

theorem bothLost_eq (s : State) : bothLost s = limpEnter .ref (lossTold (lossShown s)) := rfl

theorem lossTold_within (s : State) : Within tellFoot s (lossTold s) := raise_within (fault_within .refl (by decide))

theorem lossShown_result {s : State} (hs : s.regsWf = true) : (lossShown s).regsWf = true ∧ (lossShown s).get F.CLK_STATUS_BOTH_LOST = 1 ∧
    (lossShown s).get F.CLK_SRC_TIME = 2 ∧ (lossShown s).get F.CLK_SRC_CAN = 3 := by
  obtain ⟨wf, groups⟩ := groupsLost_gets hs
  have time : (groupsLost s).get F.CLK_SRC_TIME = 2 := groups (F.CLK_SRC_TIME, false, true) (by decide)
  have can : (groupsLost s).get F.CLK_SRC_CAN = 3 := groups (F.CLK_SRC_CAN, true, true) (by decide)
  unfold lossShown
  generalize groupsLost s = u at wf time can ⊢
  refine ⟨by simp [wf], ?_, ?_, ?_⟩ <;> simp +decide [wf, time, can]

/-- Both references are lost: the bit, the cause of limp mode, the sources and the event. -/
theorem bothLost_result {s : State} (hs : s.regsWf = true) :
    (bothLost s).flag F.CLK_STATUS_BOTH_LOST = true ∧ (bothLost s).flag F.LSW_LIMP_REF = true ∧ (bothLost s).get F.CLK_SRC_TIME = 2 ∧
      (bothLost s).get F.CLK_SRC_CAN = 3 ∧ Flagged Src.CLK_BOTH_LOST (bothLost s) := by
  obtain ⟨wf, lost, time, can⟩ := lossShown_result hs
  have told := lossTold_within (lossShown s)
  have flagged : Flagged Src.CLK_BOTH_LOST (lossTold (lossShown s)) :=
    flagged_raiseArg (by decide) ((fault_within (w := tellFoot) .refl (by decide)).wf wf)
  have lost' := (told.get (f := F.CLK_STATUS_BOTH_LOST) (by decide)).trans lost
  have time' := (told.get (f := F.CLK_SRC_TIME) (by decide)).trans time
  have can' := (told.get (f := F.CLK_SRC_CAN) (by decide)).trans can
  have wf' := told.wf wf
  rw [bothLost_eq]
  generalize lossTold (lossShown s) = u at flagged lost' time' can' wf' ⊢
  have entered : Within limpFoot u (limpEnter .ref u) := limpEnter_within .refl .ref
  refine ⟨?_, limpEnter_cause .ref wf', (entered.get (by decide)).trans time', (entered.get (by decide)).trans can', entered.flags wf' _ (by decide) flagged⟩
  rw [entered.flag (by decide), State.flag, lost']
  rfl

/-! ### A cross window -/

/-- The window is noted: the reference runs, with its deviation and its run of windows. -/
def windowNoted (xtal : Bool) (dev : Int) (run : Nat) (s : State) : State :=
  (modRef xtal (fun r => { r with present := true }) (s.puts F.CLK_JUDGE_DEV dev)).put F.CLK_JUDGE_RUN run

/-- A window in tolerance after one that was not is a transient. -/
def transientNoted (xtal : Bool) (dev : Int) (s : State) : State :=
  if (refPart s xtal).bad = 1 ∧ refState s xtal ≠ 3 then
    raise0 Src.CLK_REF_TRANSIENT (fault 0x38 1 Src.CLK_REF_TRANSIENT (b2n xtal) (toBits 32 dev) 0 0 (s.bump F.CLK_CNT_TRANSIENTS 1))
  else s

def goodWindow (xtal : Bool) (dev : Int) (s : State) : State :=
  let s := modRef xtal (fun r => { r with good := r.good + 1, bad := 0 }) (transientNoted xtal dev s)
  if 8 ≤ (refPart s xtal).good then judgeRef xtal 1 s else s

def badWindow (xtal : Bool) (ringT ringX : Nat) (s : State) : State :=
  let s := modRef xtal (fun r => { r with good := 0, bad := r.bad + 1 }) s
  if (refPart s xtal).bad < 2 ∨ refState s xtal = 3 then s
  else
    let outT := !inTolerance (ringNominal false) ringT 7 100
    let outX := !inTolerance (ringNominal true) ringX 7 100
    let s := modRef xtal (fun r => { r with bad := 0 }) s
    let s := if outT then failRef false s else s
    if outX || !outT then failRef true s else s

theorem crossWindow_eq (xtal : Bool) (count ringT ringX : Nat) (s : State) : ∃ run, crossWindow xtal count ringT ringX s =
    if refState (windowNoted xtal (crossDev xtal count) run s) (!xtal) = 3 ∧ refState (windowNoted xtal (crossDev xtal count) run s) xtal ≠ 3
    then windowNoted xtal (crossDev xtal count) run s
    else if inTolerance (crossNominal xtal) count 100 1000000 then goodWindow xtal (crossDev xtal count) (windowNoted xtal (crossDev xtal count) run s)
    else badWindow xtal ringT ringX (windowNoted xtal (crossDev xtal count) run s) := ⟨_, rfl⟩

theorem windowNoted_result (xtal : Bool) (dev : Int) (run : Nat) {s : State} (hs : s.regsWf = true) :
    (windowNoted xtal dev run s).regsWf = true ∧ (∀ x, refState (windowNoted xtal dev run s) x = refState s x) ∧
      (refPart (windowNoted xtal dev run s) xtal).good = (refPart s xtal).good ∧
      (refPart (windowNoted xtal dev run s) xtal).bad = (refPart s xtal).bad ∧
      (windowNoted xtal dev run s).get F.CLK_CNT_XTAL_FAILS = s.get F.CLK_CNT_XTAL_FAILS := by
  have stands : ∀ g : Fld, F.CLK_JUDGE_DEV.apart g = true → F.CLK_JUDGE_RUN.apart g = true → FieldStands g s (windowNoted xtal dev run s) :=
    fun g dev_ run_ => .put (.parts (.puts .refl dev_) (modRef_regs _ _ _)) run_
  refine ⟨(stands F.CLK_STATUS_TCXO (by decide) (by decide) hs).1, fun x => (stands (refField x) (by cases x <;> decide) (by cases x <;> decide) hs).2,
    ?_, ?_, (stands _ (by decide) (by decide) hs).2⟩ <;> cases xtal <;> rfl

theorem transientNoted_within (xtal : Bool) (dev : Int) (s : State) :
    Within ⟨fun a => a == Reg.CLK_CNT, [.log]⟩ s (transientNoted xtal dev s) :=
  ite_within (raise_within (fault_within (put_within .refl (by decide)) (by decide))) .refl

/-- The eighth window in tolerance judges the reference stable. -/
theorem goodWindow_result {xtal : Bool} (dev : Int) {s : State} (hs : s.regsWf = true) (good : 7 ≤ (refPart s xtal).good) :
    refState (goodWindow xtal dev s) xtal = 1 := by
  have noted := transientNoted_within xtal dev s
  have clk : (transientNoted xtal dev s).clk = s.clk := noted.part .clk (by decide)
  have wf := noted.wf hs
  unfold goodWindow
  generalize transientNoted xtal dev s = u at noted clk wf ⊢
  have part : refPart u xtal = refPart s xtal := by simp only [refPart, clk]
  have eight : 8 ≤ (refPart (modRef xtal (fun r => { r with good := r.good + 1, bad := 0 }) u) xtal).good := by
    rw [refPart_modRef_same, part]
    dsimp only
    omega
  dsimp only
  rw [if_pos eight]
  exact judgeRef_get (by decide) (by cases xtal <;> exact wf) (by simp)

/-- The second window out of tolerance, with the ring in tolerance to the TCXO, fails the crystal. -/
theorem badWindow_fails {xtal : Bool} {ringT : Nat} (ringX : Nat) {s : State} (bad : (refPart s xtal).bad = 1) (working : refState s xtal ≠ 3)
    (ring : inTolerance (ringNominal false) ringT 7 100 = true) :
    ∃ u, u.regs = s.regs ∧ badWindow xtal ringT ringX s = failRef true u := by
  have second : ¬ ((refPart (modRef xtal (fun r => { r with good := 0, bad := r.bad + 1 }) s) xtal).bad < 2 ∨
      refState (modRef xtal (fun r => { r with good := 0, bad := r.bad + 1 }) s) xtal = 3) := by
    rw [refPart_modRef_same, refState_modRef]
    dsimp only
    omega
  refine ⟨modRef xtal (fun r => { r with bad := 0 }) (modRef xtal (fun r => { r with good := 0, bad := r.bad + 1 }) s), by simp, ?_⟩
  unfold badWindow
  dsimp only
  rw [if_neg second, ring]
  simp

/-! ### Coarse windows, returns and waits -/

/-- The eighth coarse window judges a reference that runs alone. -/
theorem coarseWindow_judges {xtal : Bool} {count : Nat} (inside : inTolerance (ringNominal xtal) count 7 100 = true) {s : State}
    (hs : s.regsWf = true) (alone : (refPart s (!xtal)).present = false) (seven : 7 ≤ (refPart s xtal).coarse) (unjudged : refState s xtal ≠ 1) :
    refState (coarseWindow xtal count s) xtal = 2 := by
  unfold coarseWindow
  dsimp only
  have wf : (modRef xtal (fun r => { r with present := true }) s).regsWf = true := by cases xtal <;> exact hs
  have other : (refPart (modRef xtal (fun r => { r with present := true }) s) (!xtal)).present = false := by
    rw [refPart_modRef_other, alone]
  have coarse : 7 ≤ (refPart (modRef xtal (fun r => { r with present := true }) s) xtal).coarse := by rw [refPart_modRef_same]; exact seven
  have state : refState (modRef xtal (fun r => { r with present := true }) s) xtal ≠ 1 := by rw [refState_modRef]; exact unjudged
  generalize modRef xtal (fun r => { r with present := true }) s = u at wf other coarse state ⊢
  have eight : 8 ≤ (refPart (modRef xtal (fun r => { r with coarse := r.coarse + 1 }) u) xtal).coarse := by
    rw [refPart_modRef_same]
    dsimp only
    omega
  simp only [other, Bool.not_false, Bool.true_or, Bool.not_true, Bool.false_eq_true, if_false, inside, if_true, eight]
  exact judgeRef_get (by decide) (by cases xtal <;> exact wf) (by rw [refState_modRef]; simp [state])

/-- The failure of the last reference is the loss of both. -/
theorem failRef_last {xtal : Bool} {s : State} (hs : s.regsWf = true) (own : refState s xtal ≠ 3) (other : refState s (!xtal) = 3) :
    (failRef xtal s).flag F.CLK_STATUS_BOTH_LOST = true ∧ (failRef xtal s).flag F.LSW_LIMP_REF = true ∧ (failRef xtal s).get F.CLK_SRC_TIME = 2 ∧
      (failRef xtal s).get F.CLK_SRC_CAN = 3 ∧ Flagged Src.CLK_BOTH_LOST (failRef xtal s) := by
  obtain ⟨wf, -, kept, -⟩ := failedRef_result xtal hs
  have told := toldFailure_within xtal (failedRef xtal s)
  have kept' : refState (toldFailure xtal (failedRef xtal s)) (!xtal) = 3 := ((told.get (by cases xtal <;> decide)).trans kept).trans other
  rw [failRef_eq, if_neg own, if_pos kept']
  exact bothLost_result (told.wf wf)

/-- A reference that has been stable for a second takes its groups back. -/
theorem refReturn_result {xtal : Bool} {at_ : Nat} {s : State} (hs : s.regsWf = true) (judged : (refPart s xtal).judgedAt = some at_)
    (late : at_ + sec ≤ s.now) (usable : refUsable s xtal = true) :
    (refPart (refReturn xtal s) xtal).judgedAt = none ∧ ∀ g ∈ clockGroups, g.2.1 = xtal → (refReturn xtal s).get g.1 = b2n xtal := by
  have due_ : ¬ s.now < at_ + sec := by omega
  have ran : refReturn xtal s = foldOver (fun s (g : Fld × Bool × Bool) => if g.2.1 = xtal then setSource g.1 (b2n xtal) s else s)
      (modRef xtal (fun r => { r with judgedAt := none }) s) clockGroups := by
    simp only [refReturn, judged, usable, due_, decide_false, Bool.not_true, Bool.or_self, Bool.false_eq_true, if_false]
  have wf : (modRef xtal (fun r => { r with judgedAt := none }) s).regsWf = true := by cases xtal <;> exact hs
  have none_ : (refPart (modRef xtal (fun r => { r with judgedAt := none }) s) xtal).judgedAt = none := by rw [refPart_modRef_same]
  rw [ran]
  generalize modRef xtal (fun r => { r with judgedAt := none }) s = u at wf none_ ⊢
  refine ⟨?_, fun g hg own => ?_⟩
  · have clk : (foldOver (fun s (g : Fld × Bool × Bool) => if g.2.1 = xtal then setSource g.1 (b2n xtal) s else s) u clockGroups).clk = u.clk :=
      (foldOver_within (w := sourceFoot) .refl fun _ g hg hu => ite_within (setSource_within hu (clockGroups_addr g hg).1 _) hu).part .clk
        (by decide)
    simp only [refPart, clk]
    exact none_
  · exact foldOver_setSource (f := fun s (g : Fld × Bool × Bool) => if g.2.1 = xtal then setSource g.1 (b2n xtal) s else s)
      (val := fun _ => b2n xtal) clockGroups_apart (by cases xtal <;> decide)
      (fun s g _ => by by_cases h : g.2.1 = xtal <;> simp [h]) wf g hg (fun _ => if_pos own)

/-! ### Clock gates -/

theorem gateState_put {g v : Nat} (hg : g < 12) (hv : v < 4) {s : State} (hs : s.regsWf = true) :
    gateState (setGate g v s) g = v ∧ ∀ k, k ≠ g → gateState (setGate g v s) k = gateState s k := by
  have small : setBitsAt (s.get F.CLK_GATE_STATE_STATE) (2 * g) 2 v < 2 ^ F.CLK_GATE_STATE_STATE.width :=
    setBitsAt_lt _ _ _ _ _ (State.get_lt s _) (by change 2 * g + 2 ≤ 24; omega)
  unfold gateState setGate
  rw [State.get_put_of_lt (by decide) small hs]
  refine ⟨by rw [bitsAt_setBitsAt_same, Nat.mod_eq_of_lt (show v < 2 ^ 2 from hv)], fun k hk => bitsAt_setBitsAt_apart _ _ _ _ _ _ (by omega)⟩

theorem FieldsKept.trans {l m : List Fld} {s t u : State} (h : FieldsKept l s t) (k : FieldsKept m t u) : FieldsKept (l ++ m) s u := fun g hg =>
  (k g fun f hf => hg f (List.mem_append_right _ hf)).trans (h g fun f hf => hg f (List.mem_append_left _ hf))

theorem fieldsKept_of_regs {s u : State} (h : u.regs = s.regs) (l : List Fld) : FieldsKept l s u := fun g _ => get_of_regs h g

theorem gateOpen_result {g : Nat} (hg : g < 12) {s : State} (hs : s.regsWf = true) :
    gateState (gateOpen g s) g = 0 ∧ (gateOpen g s).bit F.CLK_GATE_OPEN g = true ∧
      (∀ k, k < 12 → k ≠ g → gateState (gateOpen g s) k = gateState s k) ∧
      FieldsKept [F.CLK_GATE_OPEN, F.CLK_GATE_STATE_STATE] s (gateOpen g s) := by
  have bit_ := State.bit_putBit_same s F.CLK_GATE_OPEN g true hs (Fld.fits_iff.mp (by decide)) hg
  have wf : (s.putBit F.CLK_GATE_OPEN g true).regsWf = true := State.regsWf_put _ _ _ hs
  have before : ∀ k, gateState (s.putBit F.CLK_GATE_OPEN g true) k = gateState s k := fun k => by
    rw [gateState, State.putBit_eq_put, State.get_put_of_apart (by decide) hs, gateState]
  have kept : FieldsKept [F.CLK_GATE_OPEN] s (s.putBit F.CLK_GATE_OPEN g true) := fieldsKept_put (by decide) hs _
  unfold gateOpen
  generalize s.putBit F.CLK_GATE_OPEN g true = u at bit_ wf before kept ⊢
  obtain ⟨own, others⟩ := gateState_put (v := 0) hg (by decide) wf
  refine ⟨own, ?_, fun k _ hk => (others k hk).trans (before k), kept.trans (fieldsKept_put (by decide) wf _)⟩
  exact (congrArg (bitAt · g) (State.get_put_of_apart (f := F.CLK_GATE_STATE_STATE) (by decide) wf)).trans bit_

/-- The state with other requests to close. -/
def withClosing (l : List (Nat × Nat)) (s : State) : State := { s with clk := { s.clk with closing := l } }

theorem gateRequest_eq (g : Nat) (s : State) : gateRequest g s = if gateState (s.putBit F.CLK_GATE_OPEN g false) g = 0
    then setGate g 1 (withClosing (s.clk.closing.filter (fun e => e.1 != g) ++ [(g, s.now)]) (s.putBit F.CLK_GATE_OPEN g false))
    else s.putBit F.CLK_GATE_OPEN g false := rfl

theorem gateRequest_result {g : Nat} (hg : g < 12) {s : State} (hs : s.regsWf = true) (open_ : gateState s g = 0) :
    gateState (gateRequest g s) g = 1 ∧ (gateRequest g s).bit F.CLK_GATE_OPEN g = false ∧ (g, s.now) ∈ (gateRequest g s).clk.closing ∧
      (∀ k, k < 12 → k ≠ g → gateState (gateRequest g s) k = gateState s k) ∧
      FieldsKept [F.CLK_GATE_OPEN, F.CLK_GATE_STATE_STATE] s (gateRequest g s) := by
  have bit_ := State.bit_putBit_same s F.CLK_GATE_OPEN g false hs (Fld.fits_iff.mp (by decide)) hg
  have wf : (s.putBit F.CLK_GATE_OPEN g false).regsWf = true := State.regsWf_put _ _ _ hs
  have before : ∀ k, gateState (s.putBit F.CLK_GATE_OPEN g false) k = gateState s k := fun k => by
    rw [gateState, State.putBit_eq_put, State.get_put_of_apart (by decide) hs, gateState]
  have kept : FieldsKept [F.CLK_GATE_OPEN] s (s.putBit F.CLK_GATE_OPEN g false) := fieldsKept_put (by decide) hs _
  rw [gateRequest_eq, if_pos ((before g).trans open_)]
  generalize hu : withClosing (s.clk.closing.filter (fun e => e.1 != g) ++ [(g, s.now)]) (s.putBit F.CLK_GATE_OPEN g false) = u
  have regs : u.regs = (s.putBit F.CLK_GATE_OPEN g false).regs := by rw [← hu]; rfl
  have wf' : u.regsWf = true := by rw [← hu]; exact wf
  obtain ⟨own, others⟩ := gateState_put (v := 1) hg (by decide) wf'
  refine ⟨own, ?_, ?_, fun k _ hk => (others k hk).trans ((congrArg (bitsAt · (2 * k) 2) (get_of_regs regs _)).trans (before k)),
    kept.trans ((fieldsKept_of_regs regs []).trans (fieldsKept_put (by decide) wf' _))⟩
  · exact (congrArg (bitAt · g) ((State.get_put_of_apart (f := F.CLK_GATE_STATE_STATE) (by decide) wf').trans (get_of_regs regs _))).trans bit_
  · rw [← hu]
    exact List.mem_append_right _ (List.mem_singleton_self _)

theorem gateClose_result {g : Nat} (hg : g < 12) {s : State} (hs : s.regsWf = true) (closing : gateState s g = 1) :
    gateState (gateClose g s) g = 2 ∧ (∀ k, k < 12 → k ≠ g → gateState (gateClose g s) k = gateState s k) ∧
      FieldsKept [F.CLK_GATE_STATE_STATE] s (gateClose g s) := by
  have ran : gateClose g s = setGate g 2 (withClosing (s.clk.closing.filter (fun e => e.1 != g)) s) := if_pos closing
  rw [ran]
  generalize hu : withClosing (s.clk.closing.filter (fun e => e.1 != g)) s = u
  have regs : u.regs = s.regs := by rw [← hu]; rfl
  have wf : u.regsWf = true := by rw [← hu]; exact hs
  obtain ⟨own, others⟩ := gateState_put (v := 2) hg (by decide) wf
  exact ⟨own, fun k _ hk => (others k hk).trans (congrArg (bitsAt · (2 * k) 2) (get_of_regs regs _)),
    (fieldsKept_of_regs regs []).trans (fieldsKept_put (by decide) wf _)⟩

/-- What becomes of the descriptors and of the CAN controller behind a gate that closes by force. -/
def forcedFoot : Footprint where
  reg a := decide (0x50000 ≤ a ∧ a < 0x53000)
  parts := [.dma, .can]

theorem gateDescriptors_within {b s : State} (h : Within forcedFoot b s) (g : Nat) : Within forcedFoot b (gateDescriptors g s) :=
  foldOver_within h fun _ _ _ hu => ite_within (dma_within hu (by decide)) hu

/-- A choice that goes through a list and keeps one of its elements ends with one of them. -/
theorem foldl_mem {f : Option Nat → Nat → Option Nat} (step : ∀ b k, f b k = b ∨ f b k = some k) : ∀ (l : List Nat) (b : Option Nat) {m : List Nat},
    (∀ j, b = some j → j ∈ m) → ∀ k, l.foldl f b = some k → k ∈ m ∨ k ∈ l
  | [], b, _, start, k, h => .inl (start k h)
  | e :: l, b, m, start, k, h => by
    have next : ∀ j, f b e = some j → j ∈ e :: m := fun j hj => by
      obtain same | new := step b e
      · exact List.mem_cons_of_mem _ (start j (same ▸ hj))
      · rw [new] at hj
        exact List.mem_cons.mpr (.inl (Option.some.inj hj).symm)
    obtain before | later := foldl_mem step l (f b e) next k h
    · obtain rfl | old := List.mem_cons.mp before
      · exact .inr List.mem_cons_self
      · exact .inl old
    · exact .inr (List.mem_cons_of_mem _ later)

/-- The buffer that a controller offers is one of its three. -/
theorem offeredBuffer_lt {s : State} {n k : Nat} (h : offeredBuffer s n = some k) : k < 3 := by
  have member : k ∈ [0, 1, 2].filter (txPending s n) := by
    unfold offeredBuffer at h
    dsimp only at h
    split at h
    · exact List.mem_of_head? h
    · refine (foldl_mem (fun b k => ?_) _ none (m := []) (fun _ e => by simp at e) k h).resolve_left List.not_mem_nil
      split
      · exact .inr rfl
      · split
        · split
          · exact .inr rfl
          · exact .inl rfl
        · exact .inl rfl
  have : k ∈ [0, 1, 2] := List.mem_of_mem_filter member
  revert this
  simp only [List.mem_cons, List.not_mem_nil, or_false]
  omega

theorem gateController_within {b s : State} (h : Within forcedFoot b s) {n : Nat} (hn : n < 4) : Within forcedFoot b (gateController n s) := by
  unfold gateController
  split
  · exact h
  · next k offered =>
    have small := offeredBuffer_lt offered
    exact put_within (can_within h (by decide)) (decide_eq_true (by simp only [txState, Reg.MDB_C_TXB]; omega))

theorem gateForce_result {g at_ : Nat} (hg : g < 12) {s : State} (hs : s.regsWf = true)
    (asked : s.clk.closing.find? (fun e => e.1 == g) = some (g, at_)) (closing : gateState s g = 1) (late : at_ + 64 * us ≤ s.now) :
    (gateForce g s).regsWf = true ∧ gateState (gateForce g s) g = 3 ∧ Flagged Src.CLK_GATE_FORCED (gateForce g s) := by
  have ran : gateForce g s = raise0 Src.CLK_GATE_FORCED (setGate g 3 (withClosing (s.clk.closing.filter (fun e => e.1 != g)) s)) := by
    simp only [gateForce, asked, closing, late, and_self, if_true]
    rfl
  rw [ran]
  generalize hu : withClosing (s.clk.closing.filter (fun e => e.1 != g)) s = u
  have wf : u.regsWf = true := by rw [← hu]; exact hs
  have own := (gateState_put (v := 3) hg (by decide) wf).1
  have wf' : (setGate g 3 u).regsWf = true := State.regsWf_put _ _ _ wf
  generalize setGate g 3 u = v at own wf' ⊢
  obtain ⟨wf'', read⟩ := FieldStands.raiseArg (g := F.CLK_GATE_STATE_STATE) (src := Src.CLK_GATE_FORCED) (detail := 0xFFFF) (arg := 0)
    (b := v) .refl (by decide) wf'
  exact ⟨wf'', (congrArg (bitsAt · (2 * g) 2) read).trans own, flagged_raiseArg (by decide) wf'⟩

/-- Settles O27: the judgement of the references and the clock gates, in the order of the statement. -/
theorem clockRows : Obligations.ClockRows := by
  refine ⟨fun xtal count ringT ringX inside => ?_, fun xtal count ringT ringX out_ ring => ?_, fun xtal count ringT ringX inside => ?_,
    fun xtal => ?_, fun xtal => ?_, fun xtal at_ => ?_, ?_, ?_, fun g hg => ?_, fun g hg => ?_, fun g hg => ?_, fun g at_ hg => ?_⟩
  · refine does_of_run (fun s => if !powered s then s else if false then coarseWindow xtal count s else crossWindow xtal count ringT ringX s)
      (fun _ _ => rfl) fun b ⟨sound, on, judged, good⟩ => ?_
    obtain ⟨run, ran⟩ := crossWindow_eq xtal count ringT ringX b
    obtain ⟨wf, states, part, -, -⟩ := windowNoted_result xtal (crossDev xtal count) run (regsWf_of_sound sound)
    simp only [on, Bool.not_true, Bool.false_eq_true, if_false, ran, states, judged, inside, if_true]
    exact goodWindow_result _ wf (by rw [part]; exact good)
  · refine does_of_run (fun s => if !powered s then s else if false then coarseWindow xtal count s else crossWindow xtal count ringT ringX s)
      (fun _ _ => rfl) fun b ⟨sound, on, own, other, bad⟩ => ?_
    obtain ⟨run, ran⟩ := crossWindow_eq xtal count ringT ringX b
    obtain ⟨wf, states, -, part, count_⟩ := windowNoted_result xtal (crossDev xtal count) run (regsWf_of_sound sound)
    obtain ⟨v, regs, fails⟩ := badWindow_fails ringX (part.trans bad) (by rw [states]; exact own) ring
    simp only [on, Bool.not_true, Bool.false_eq_true, if_false, ran, states, other, out_, false_and, fails]
    have both : ∀ x, refState v x = refState b x := fun x => (get_of_regs regs _).trans (states x)
    have working : ∀ x, refState b x ≠ 3 := fun x => by
      cases xtal <;> cases x <;> assumption
    have wf' : v.regsWf = true := by
      rw [State.regsWf, regs]
      exact wf
    obtain ⟨-, failed, kept, -, told, counts⟩ := failRef_one (xtal := true) wf' (by rw [both]; exact working _) (by rw [both]; exact working _)
    refine ⟨failed, kept.trans (both false), told, ?_⟩
    rw [counts _ rfl, failedRef_xtal_count wf', get_of_regs regs, count_]
  · refine does_of_run (fun s => if !powered s then s else if true then coarseWindow xtal count s else crossWindow xtal count ringT ringX s)
      (fun _ _ => rfl) fun b ⟨sound, on, alone, seven, unjudged⟩ => ?_
    simp only [on, Bool.not_true, Bool.false_eq_true, if_false, if_true]
    exact coarseWindow_judges inside (regsWf_of_sound sound) alone seven unjudged
  · refine does_of_run (fun s => if powered s then refMissing xtal s else s) (fun _ _ => rfl) fun b ⟨sound, on, _, own, other⟩ => ?_
    have wf : (modRef xtal (fun r => { r with present := false, good := 0, coarse := 0 }) b).regsWf = true := by
      cases xtal <;> exact regsWf_of_sound sound
    obtain ⟨-, failed, -, present, told, -⟩ := failRef_one wf (by rw [refState_modRef]; exact own) (by rw [refState_modRef]; exact other)
    simp only [on, if_true, refMissing]
    exact ⟨failed, by rw [present, refPart_modRef_same], told⟩
  · refine does_of_run (fun s => if powered s then refMissing xtal s else s) (fun _ _ => rfl) fun b ⟨sound, on, _, own, other⟩ => ?_
    have wf : (modRef xtal (fun r => { r with present := false, good := 0, coarse := 0 }) b).regsWf = true := by
      cases xtal <;> exact regsWf_of_sound sound
    simp only [on, if_true, refMissing]
    exact failRef_last wf (by rw [refState_modRef]; exact own) (by rw [refState_modRef]; exact other)
  · refine does_of_run (fun s => if powered s then refReturn xtal s else s) (fun _ _ => rfl) fun b ⟨sound, on, judged, late, usable⟩ => ?_
    simp only [on, if_true]
    exact refReturn_result (regsWf_of_sound sound) judged late usable
  · refine does_of_run (fun s => if powered s then refWait s else s) (fun _ _ => rfl) fun b ⟨sound, on, tcxo, xtal, late, latched⟩ => ?_
    have late20 : ¬ b.now - b.pwr.logicAt < 20 * ms := by
      simp only [ms] at late ⊢
      omega
    have late50 : ¬ b.now - b.pwr.logicAt < 50 * ms := by omega
    have ran : refWait b = limpEnter .ref { b with clk := { b.clk with acceptCoarse := true } } := by
      simp [refWait, tcxo, xtal, late20, late50, latched]
    simp only [on, if_true, ran]
    have wf : ({ b with clk := { b.clk with acceptCoarse := true } } : State).regsWf = true := regsWf_of_sound sound
    have entered := limpEnter_within .refl .ref (s := { b with clk := { b.clk with acceptCoarse := true } })
    exact ⟨limpEnter_cause .ref wf, limpEnter_inLimp .ref wf latched, congrArg ClockPart.acceptCoarse (entered.part .clk (by decide) : _ = _)⟩
  · refine does_of_run (fun s => if powered s then refWait s else s) (fun _ _ => rfl) fun b ⟨on, tcxo, xtal, late, early⟩ => ?_
    have late20 : ¬ b.now - b.pwr.logicAt < 20 * ms := by omega
    simp [on, refWait, tcxo, xtal, late20, early]
  · refine does_of_run (fun s => if g < 12 ∧ powered s = true then gateOpen g s else s) (fun _ _ => rfl) fun b ⟨sound, on⟩ => ?_
    simp only [hg, on, and_self, if_true]
    exact gateOpen_result hg (regsWf_of_sound sound)
  · refine does_of_run (fun s => if g < 12 ∧ powered s = true then gateRequest g s else s) (fun _ _ => rfl) fun b ⟨sound, on, open_⟩ => ?_
    simp only [hg, on, and_self, if_true]
    exact gateRequest_result hg (regsWf_of_sound sound) open_
  · refine does_of_run (fun s => if g < 12 ∧ powered s = true then gateClose g s else s) (fun _ _ => rfl) fun b ⟨sound, on, closing⟩ => ?_
    simp only [hg, on, and_self, if_true]
    exact gateClose_result hg (regsWf_of_sound sound) closing
  · refine does_of_run (fun s => if gateState s g ≠ 3 ∧ gateState (gateForce g s) g = 3 then
      gateDescriptors g (if 2 ≤ g ∧ g ≤ 5 then gateController (g - 2) (gateForce g s) else gateForce g s) else gateForce g s) (fun _ _ => rfl)
      fun b ⟨sound, asked, closing, late⟩ => ?_
    obtain ⟨wf, state, flagged⟩ := gateForce_result hg (regsWf_of_sound sound) asked closing late
    generalize gateForce g b = u at wf state flagged ⊢
    have forced : Within forcedFoot u (if gateState b g ≠ 3 ∧ gateState u g = 3 then
        gateDescriptors g (if 2 ≤ g ∧ g ≤ 5 then gateController (g - 2) u else u) else u) := by
      refine ite_within (gateDescriptors_within ?_ g) .refl
      split
      · exact gateController_within .refl (by omega)
      · exact .refl
    exact ⟨(congrArg (bitsAt · (2 * g) 2) (forced.get (by decide))).trans state, forced.flags wf _ (by decide) flagged⟩

end Sys2Proof.Machine
end

section
/-!
SUPPORT. What the completion of a waiting request may change: packets, the queues of the Line and of CAN_D, and what leaves.
-/

namespace Sys2Proof.Machine

/-- What a packet that leaves, and the record of it, may change. -/
def packetFoot : Footprint where
  reg a := a == Reg.MDB_C_TXB 3 2
  parts := [.packets, .line, .can, .out]

section
variable {b s : State}

theorem offerBe_within (h : Within packetFoot b s) {type dest : Nat} {bs : Bytes} : Within packetFoot b (offerBe type dest bs s) :=
  line_within h (by decide)

theorem offerBePacket_within (h : Within packetFoot b s) {dest : Nat} {bs : Bytes} : Within packetFoot b (offerBePacket dest bs s) :=
  foldOver_within (line_within h (by decide)) fun _ _ _ hu => offerBe_within hu

theorem offerQueue_within (h : Within packetFoot b s) {x : Slot} {bs : Bytes} {u : State} (hq : offerQueue x bs s = some u) :
    Within packetFoot b u := by
  simp only [offerQueue, Option.ite_none_right_eq_some, Option.some.injEq] at hq
  obtain ⟨-, rfl⟩ := hq
  exact line_within (ite_within (line_within h (by decide)) h) (by decide)

theorem replyOverLine_within (h : Within packetFoot b s) {r : Reply} : Within packetFoot b (replyOverLine r s) := by
  unfold replyOverLine
  split
  · exact ite_within (offerBePacket_within h) (line_within h (by decide))
  · split
    · next u hq => exact offerQueue_within h hq
    · exact line_within h (by decide)

theorem loadBuffer_within (h : Within packetFoot b s) {src : Nat} {f : CanFrame} : Within packetFoot b (loadBuffer 3 2 src f s) :=
  put_within (put_within (put_within (can_within h (by decide)) (by decide)) (by decide)) (by decide)

theorem sendSegment_within (h : Within packetFoot b s) {f : CanFrame} : Within packetFoot b (sendSegment f s) :=
  ite_within (can_within (pk_within h (by decide)) (by decide)) (loadBuffer_within (pk_within h (by decide)))

theorem startTransfer_within (h : Within packetFoot b s) {dest : Nat} {bs : Bytes} : Within packetFoot b (startTransfer dest bs s) :=
  ite_within (sendSegment_within h) (ite_within (sendSegment_within h) (pk_within (sendSegment_within h) (by decide)))

theorem sendService_within (h : Within packetFoot b s) {dest : Nat} {bs : Bytes} : Within packetFoot b (sendService dest bs s) :=
  ite_within (can_within h (by decide)) (startTransfer_within h)

theorem transmit_within (h : Within packetFoot b s) {dest : Transport} {r : Reply} : Within packetFoot b (transmit dest r s) := by
  cases dest with
  | line sender entry => exact out_within (replyOverLine_within h) (by decide)
  | canD sa => exact out_within (ite_within (sendService_within h) (pk_within h (by decide))) (by decide)
  | host ip port => exact out_within h (by decide)

theorem sendPacket_within (h : Within packetFoot b s) {dest : Transport} {r : Reply} : Within packetFoot b (sendPacket dest r s) :=
  transmit_within (pk_within h (by decide))

theorem modSession_within (h : Within packetFoot b s) {n : Nat} {f : Session → Session} : Within packetFoot b (modSession n f s) := by
  unfold modSession
  split
  · exact h
  · exact pk_within h (by decide)

theorem noteRecord_within (h : Within packetFoot b s) {op : Nat} {p : Request} {r : ReqRecord} : Within packetFoot b (noteRecord op p r s) :=
  ite_within h (modSession_within h)

theorem addWaiting_within (h : Within packetFoot b s) {op : Nat} {p : Request} {j : Job} {quiet : Bool} :
    Within packetFoot b (addWaiting op p j quiet s) :=
  ite_within (pk_within h (by decide)) (sendPacket_within (pk_within h (by decide)))

theorem finish_within (h : Within packetFoot b s) {reserved : Bool} {op : Nat} {p : Request} {origin status retry : Nat} {result : Bytes} :
    Within packetFoot b (finish reserved op p origin status retry result s) :=
  ite_within (addWaiting_within (noteRecord_within h)) (sendPacket_within (noteRecord_within h))

theorem completeWaiting_within (h : Within packetFoot b s) {w : Waiting} {origin status retry : Nat} {result : Bytes} :
    Within packetFoot b (completeWaiting w origin status retry result s) :=
  ite_within (pk_within h (by decide))
    (finish_within (ite_within (pk_within h (by decide)) (pk_within (pk_within h (by decide)) (by decide))))

theorem completeOwn_within (h : Within packetFoot b s) {op : Nat} {isJob : Job → Bool} {status retry : Nat} {result : Bytes} :
    Within packetFoot b (completeOwn op isJob status retry result s) := by
  unfold completeOwn
  split
  · exact h
  · split
    · exact ite_within (completeWaiting_within h) (pk_within h (by decide))
    · exact completeWaiting_within h

end

end Sys2Proof.Machine
end

section
/-!
The rows of performance levels (R625–R632).
-/

namespace Sys2Proof.Machine

/-- What the answer to LEVEL_SET may change. -/
theorem levelAnswer_within (s : State) : Within packetFoot s (levelAnswer s) := ite_within (completeOwn_within .refl) .refl

theorem levels_lt (s : State) : curLevel s < 8 ∧ targetLevel s < 8 := by
  have req : s.get F.PWR_LEVEL_REQ < 8 := State.get_lt s _
  exact ⟨State.get_lt s _, lt_of_le_of_lt (Nat.min_le_left _ _) req⟩

theorem levelVolts_lt {n : Nat} (hn : n < 8) : levelVolts n < 2 ^ F.PWR_VCORE_YARD_MV.width := by
  simp only [levelVolts, F.PWR_VCORE_YARD_MV]
  omega

/-- A check whose canary is within its limit: the slack is noted, and no spill. -/
def slackNoted (canary : Nat) (s : State) : State := modLvl (fun l => { l with spill := false }) (noteSlack canary s)

/-- What the end of a check may report and answer. -/
def checkAnswered (s : State) : State := levelAnswer (if s.get F.PWR_LEVEL_CEIL < 3 then raise Src.PWR_LEVEL_FAULT (curLevel s) s else s)

theorem checkAnswered_within (s : State) : Within packetFoot s (checkAnswered s) :=
  Within.trans (ite_within (raise_within .refl) .refl) (levelAnswer_within _)

theorem sequencerCheck_eq {canary : Nat} {s : State} (up : s.die.yardUp = true) (lost : s.flag F.CLK_STATUS_BOTH_LOST = false)
    (idle : s.lvl.raising = none) (level : curLevel s ≠ 0) (quick : canary ≤ Config.canaryLimit (curLevel s)) (hs : s.regsWf = true) :
    sequencerCheck canary s = checkAnswered
      (if curLevel (slackNoted canary s) < targetLevel (slackNoted canary s) ∧ (slackNoted canary s).lvl.retryAt ≤ (slackNoted canary s).now then
        modLvl (fun l => { l with raising := some (curLevel (slackNoted canary s) + 1, (slackNoted canary s).now) })
          (((slackNoted canary s).put F.PWR_VCORE_YARD_MV (levelVolts (curLevel (slackNoted canary s) + 1))).put F.PWR_LEVEL_STEPPING 1)
      else if targetLevel (slackNoted canary s) < curLevel (slackNoted canary s) ∧ 1 < curLevel (slackNoted canary s) then
        setLevel (curLevel (slackNoted canary s) - 1) (slackNoted canary s)
      else slackNoted canary s) := by
  have same : curLevel (noteSlack canary s) = curLevel s := State.get_put_of_apart (by decide) hs
  have watch : watchLevel canary (noteSlack canary s) = (slackNoted canary s, false) := by
    have within_ : decide (Config.canaryLimit (curLevel s) < canary) = false := by simpa using quick
    simp only [watchLevel, same, within_, Bool.false_and, Bool.false_eq_true, if_false]
    rfl
  simp only [sequencerCheck, up, lost, idle, level, watch, Bool.not_true, Option.isSome_none, Bool.or_self, decide_false, Bool.false_eq_true,
    if_false]
  rfl

theorem slackNoted_result (canary : Nat) {s : State} (hs : s.regsWf = true) : (slackNoted canary s).regsWf = true ∧
    curLevel (slackNoted canary s) = curLevel s ∧ targetLevel (slackNoted canary s) = targetLevel s ∧
    (slackNoted canary s).now = s.now ∧ (slackNoted canary s).lvl.retryAt = s.lvl.retryAt := by
  have kept : ∀ g : Fld, F.PWR_CANARY_SLACK.apart g = true → (slackNoted canary s).get g = s.get g := fun g h => State.get_put_of_apart h hs
  refine ⟨State.regsWf_put _ _ _ hs, kept _ (by decide), ?_, rfl, rfl⟩
  simp only [targetLevel]
  rw [kept _ (by decide), kept _ (by decide), kept _ (by decide)]

/-- A level one step away. -/
theorem setLevel_result {n : Nat} (hn : n < 8) {s : State} (hs : s.regsWf = true) (other : curLevel s ≠ n) :
    (setLevel n s).regsWf = true ∧ curLevel (setLevel n s) = n ∧ Flagged Src.PWR_LEVEL_CHANGE (setLevel n s) ∧
      (setLevel n s).get F.PWR_VCORE_YARD_MV = levelVolts n := by
  have level : (s.put F.PWR_LEVEL_CUR n).get F.PWR_LEVEL_CUR = n := State.get_put_of_lt (by decide) hn hs
  have wf : (s.put F.PWR_LEVEL_CUR n).regsWf = true := State.regsWf_put _ _ _ hs
  rw [setLevel, if_neg other]
  generalize s.put F.PWR_LEVEL_CUR n = u at level wf ⊢
  have level' : (u.put F.PWR_VCORE_YARD_MV (levelVolts n)).get F.PWR_LEVEL_CUR = n := (State.get_put_of_apart (by decide) wf).trans level
  have volts : (u.put F.PWR_VCORE_YARD_MV (levelVolts n)).get F.PWR_VCORE_YARD_MV = levelVolts n :=
    State.get_put_of_lt (by decide) (levelVolts_lt hn) wf
  have wf' : (u.put F.PWR_VCORE_YARD_MV (levelVolts n)).regsWf = true := State.regsWf_put _ _ _ wf
  dsimp only
  generalize u.put F.PWR_VCORE_YARD_MV (levelVolts n) = v at level' volts wf' ⊢
  have told : Within packetFoot v (raise Src.PWR_LEVEL_CHANGE n v) := raise_within .refl
  exact ⟨told.wf wf', (told.get (f := F.PWR_LEVEL_CUR) (by decide)).trans level', flagged_raiseArg (by decide) wf', (told.get (by decide)).trans volts⟩

/-- A check starts a raise by one level. -/
theorem sequencerCheck_raises {canary : Nat} {s : State} (hs : s.regsWf = true) (up : s.die.yardUp = true)
    (lost : s.flag F.CLK_STATUS_BOTH_LOST = false) (idle : s.lvl.raising = none) (level : curLevel s ≠ 0)
    (quick : canary ≤ Config.canaryLimit (curLevel s)) (more : curLevel s < targetLevel s) (ready : s.lvl.retryAt ≤ s.now) :
    (sequencerCheck canary s).lvl.raising = some (curLevel s + 1, s.now) ∧ (sequencerCheck canary s).flag F.PWR_LEVEL_STEPPING = true ∧
      curLevel (sequencerCheck canary s) = curLevel s ∧ (sequencerCheck canary s).get F.PWR_VCORE_YARD_MV = levelVolts (curLevel s + 1) := by
  obtain ⟨wf, cur, target, now, retry⟩ := slackNoted_result canary hs
  rw [sequencerCheck_eq up lost idle level quick hs]
  generalize slackNoted canary s = u at wf cur target now retry ⊢
  rw [if_pos (by rw [cur, target, now, retry]; exact ⟨more, ready⟩), cur, now]
  have small := levels_lt s
  have below : curLevel s + 1 < 8 := by omega
  have volts : (u.put F.PWR_VCORE_YARD_MV (levelVolts (curLevel s + 1))).get F.PWR_VCORE_YARD_MV = levelVolts (curLevel s + 1) :=
    State.get_put_of_lt (by decide) (levelVolts_lt below) wf
  have cur' : (u.put F.PWR_VCORE_YARD_MV (levelVolts (curLevel s + 1))).get F.PWR_LEVEL_CUR = curLevel s :=
    (State.get_put_of_apart (by decide) wf).trans cur
  have wf' : (u.put F.PWR_VCORE_YARD_MV (levelVolts (curLevel s + 1))).regsWf = true := State.regsWf_put _ _ _ wf
  generalize u.put F.PWR_VCORE_YARD_MV (levelVolts (curLevel s + 1)) = v at volts cur' wf' ⊢
  have answered := checkAnswered_within (modLvl (fun l => { l with raising := some (curLevel s + 1, s.now) }) (v.put F.PWR_LEVEL_STEPPING 1))
  refine ⟨congrArg LevelPart.raising (answered.part .lvl (by decide) : _ = _), (answered.flag (by decide)).trans (State.flag_put_one (by decide)
    (by decide) wf'), ?_, ?_⟩
  · exact (answered.get (f := F.PWR_LEVEL_CUR) (by decide)).trans ((State.get_put_of_apart (by decide) wf').trans cur')
  · exact (answered.get (by decide)).trans ((State.get_put_of_apart (by decide) wf').trans volts)

/-- A check lowers by one level. -/
theorem sequencerCheck_lowers {canary : Nat} {s : State} (hs : s.regsWf = true) (up : s.die.yardUp = true)
    (lost : s.flag F.CLK_STATUS_BOTH_LOST = false) (idle : s.lvl.raising = none)
    (quick : canary ≤ Config.canaryLimit (curLevel s)) (less : targetLevel s < curLevel s) (above : 1 < curLevel s) :
    curLevel (sequencerCheck canary s) = curLevel s - 1 ∧ Flagged Src.PWR_LEVEL_CHANGE (sequencerCheck canary s) ∧
      (sequencerCheck canary s).get F.PWR_VCORE_YARD_MV = levelVolts (curLevel s - 1) := by
  obtain ⟨wf, cur, target, -, -⟩ := slackNoted_result canary hs
  rw [sequencerCheck_eq up lost idle (by omega) quick hs]
  generalize slackNoted canary s = u at wf cur target ⊢
  rw [if_neg (by rw [cur, target]; omega), if_pos (by rw [cur, target]; exact ⟨less, above⟩), cur]
  have small := levels_lt s
  obtain ⟨wf', level, flagged, volts⟩ := setLevel_result (n := curLevel s - 1) (by omega) wf (by omega)
  generalize setLevel (curLevel s - 1) u = v at wf' level flagged volts ⊢
  have answered := checkAnswered_within v
  exact ⟨(answered.get (f := F.PWR_LEVEL_CUR) (by decide)).trans level, answered.flags wf' _ (by decide) flagged, (answered.get (by decide)).trans volts⟩

/-! ### The end of a raise -/

theorem fails_length_of_sound {s : State} (h : s.sound = true) : s.lvl.fails.length = 8 := by
  simp only [State.sound, State.sized, Bool.and_eq_true, beq_iff_eq] at h
  tauto

/-- The raise is confirmed, and its level not yet set. -/
def raiseConfirmed (n : Nat) (s : State) : State :=
  modLvl (fun l => { l with raising := none, fails := setNth l.fails n 0, spill := false }) (s.put F.PWR_LEVEL_STEPPING 0)

/-- The voltage goes back to that of the present level. -/
def raiseAbandoned (s : State) : State :=
  modLvl (fun l => { l with raising := none }) ((s.put F.PWR_VCORE_YARD_MV (levelVolts (curLevel s))).put F.PWR_LEVEL_STEPPING 0)

/-- A raise that the canary confirms is in force. -/
theorem raiseDone_confirms {canary n from_ : Nat} {s : State} (sound : s.sound = true) (lost : s.flag F.CLK_STATUS_BOTH_LOST = false)
    (raising : s.lvl.raising = some (n, from_)) (wanted : n ≤ targetLevel s) (quick : canary ≤ Config.canaryLimit n) :
    curLevel (raiseDone canary s) = n ∧ (raiseDone canary s).lvl.raising = none ∧ (raiseDone canary s).flag F.PWR_LEVEL_STEPPING = false ∧
      levelFails (raiseDone canary s) n = 0 := by
  have hs := regsWf_of_sound sound
  have small := (levels_lt s).2
  have below : n < 8 := by omega
  have ran : raiseDone canary s = levelAnswer (noteSlack canary (setLevel n (raiseConfirmed n s))) := by
    have keep : ¬ targetLevel s < n := by omega
    simp only [raiseDone, raising, lost, Bool.false_eq_true, if_false, keep, quick, if_true, raiseConfirmed]
  have wf : (raiseConfirmed n s).regsWf = true := State.regsWf_put _ _ _ hs
  have idle : (raiseConfirmed n s).get F.PWR_LEVEL_STEPPING = 0 := State.get_put_of_lt (by decide) (by decide) hs
  have lvl : (raiseConfirmed n s).lvl.raising = none ∧ levelFails (raiseConfirmed n s) n = 0 :=
    ⟨rfl, nth_setNth_same 0 0 (by rw [show (s.put F.PWR_LEVEL_STEPPING 0).lvl = s.lvl from rfl, fails_length_of_sound sound]; exact below)⟩
  rw [ran]
  generalize raiseConfirmed n s = u at wf idle lvl ⊢
  have step : (setLevel n u).regsWf = true ∧ curLevel (setLevel n u) = n ∧ (setLevel n u).lvl = u.lvl ∧
      (setLevel n u).get F.PWR_LEVEL_STEPPING = 0 := by
    by_cases here : curLevel u = n
    · rw [setLevel, if_pos here]
      exact ⟨wf, here, rfl, idle⟩
    · obtain ⟨wf', level, -⟩ := setLevel_result below wf here
      refine ⟨wf', level, ?_, ?_⟩
      · exact (setLevel_within (w := ⟨fun a => a == Reg.PWR_LEVEL || a == Reg.PWR_VCORE, []⟩) .refl (by decide) (by decide)).part .lvl (by decide)
      · rw [setLevel, if_neg here]
        exact (FieldStands.raiseArg (.put (.put .refl (by decide)) (by decide)) (by decide) wf).2.trans idle
  generalize setLevel n u = v at step ⊢
  obtain ⟨wf', level, same, idle'⟩ := step
  have answered := levelAnswer_within (noteSlack canary v)
  have answeredLvl : (levelAnswer (noteSlack canary v)).lvl = v.lvl := answered.part .lvl (by decide)
  have lvl' := answeredLvl.trans same
  refine ⟨(answered.get (f := F.PWR_LEVEL_CUR) (by decide)).trans ((State.get_put_of_apart (by decide) wf').trans level), by rw [lvl', lvl.1], ?_,
    by rw [levelFails, lvl']; exact lvl.2⟩
  rw [answered.flag (by decide), State.flag, noteSlack, State.puts_eq_put, State.get_put_of_apart (by decide) wf', idle']
  rfl

/-- The failure is counted for its level. -/
def failCounted (n : Nat) (s : State) : State := modLvl (fun l => { l with fails := setNth l.fails n (nth l.fails n 0 + 1) }) s

theorem canaryFail_result {n : Nat} (delay : Nat) {s : State} (hs : s.regsWf = true) (hn : n < s.lvl.fails.length) :
    curLevel (canaryFail n delay s) = curLevel s ∧ (canaryFail n delay s).lvl.raising = s.lvl.raising ∧
      levelFails (canaryFail n delay s) n = levelFails s n + 1 ∧ (canaryFail n delay s).now = s.now ∧
      Flagged Src.PWR_CANARY_FAIL (canaryFail n delay s) := by
  have noted : Within ⟨fun a => a == Reg.PWR_CANARY, [.log]⟩ (failCounted n s) (canaryFail n delay s) :=
    raise_within (fault_within (put_within (put_within .refl (by decide)) (by decide)) (by decide))
  have lvl : (canaryFail n delay s).lvl = (failCounted n s).lvl := noted.part .lvl (by decide)
  refine ⟨noted.get (f := F.PWR_LEVEL_CUR) (by decide), by rw [lvl]; rfl, ?_, noted.part .now (by decide), ?_⟩
  · rw [levelFails, lvl]
    exact nth_setNth_same _ 0 hn
  · exact flagged_raiseArg (by decide) ((fault_within (w := ⟨fun a => a == Reg.PWR_CANARY, [.log]⟩) (put_within (put_within .refl (by decide))
      (by decide)) (by decide)).wf (b := failCounted n s) hs)

/-- A raise that fails for the first time is counted and waits 100 ms. -/
theorem raiseDone_fails {canary n from_ : Nat} {s : State} (sound : s.sound = true) (lost : s.flag F.CLK_STATUS_BOTH_LOST = false)
    (raising : s.lvl.raising = some (n, from_)) (wanted : n ≤ targetLevel s) (slow : Config.canaryLimit n < canary) (late : from_ + 2 * ms ≤ s.now)
    (first : levelFails s n = 0) :
    curLevel (raiseDone canary s) = curLevel s ∧ (raiseDone canary s).lvl.raising = none ∧ levelFails (raiseDone canary s) n = 1 ∧
      (raiseDone canary s).lvl.retryAt = s.now + 100 * ms ∧ Flagged Src.PWR_CANARY_FAIL (raiseDone canary s) := by
  have hs := regsWf_of_sound sound
  have small := (levels_lt s).2
  have below : n < 8 := by omega
  have wf : (raiseAbandoned s).regsWf = true := State.regsWf_put _ _ _ (State.regsWf_put _ _ _ hs)
  have cur : curLevel (raiseAbandoned s) = curLevel s :=
    (FieldStands.put (.put .refl (by decide)) (by decide) hs : _ ∧ (_ : State).get F.PWR_LEVEL_CUR = _).2
  obtain ⟨level, idle, fails, now, flagged⟩ := canaryFail_result (n := n) canary wf (by
    rw [show (raiseAbandoned s).lvl.fails = s.lvl.fails from rfl, fails_length_of_sound sound]
    exact below)
  have once : levelFails (canaryFail n canary (raiseAbandoned s)) n = 1 := by
    rw [fails, show levelFails (raiseAbandoned s) n = levelFails s n from rfl, first]
  have ran : raiseDone canary s = modLvl (fun l => { l with retryAt := (canaryFail n canary (raiseAbandoned s)).now + 100 * ms })
      (canaryFail n canary (raiseAbandoned s)) := by
    have keep : ¬ targetLevel s < n := by omega
    have bad : ¬ canary ≤ Config.canaryLimit n := by omega
    have due_ : ¬ s.now < from_ + 2 * ms := by omega
    have few : ¬ 2 ≤ levelFails (canaryFail n canary (raiseAbandoned s)) n := by omega
    simp only [raiseDone, raising, lost, Bool.false_eq_true, if_false, keep, bad, due_]
    exact if_neg few
  rw [ran, now]
  exact ⟨level.trans cur, idle, once, rfl, flagged⟩

/-! ### The face temperature -/

/-- The caps that a face temperature sets (R629). -/
def capsOf (face : Int) (s : State) : Bool × Bool :=
  (decide (face > 800) || (s.lvl.cap5 && decide (face ≥ 770)), decide (face > 950) || (s.lvl.cap3 && decide (face ≥ 920)))

/-- The level that the caps allow. -/
def capLevel (c : Bool × Bool) : Nat := if c.2 then 3 else if c.1 then 5 else 7

/-- The temperatures and the cap are shown. -/
def tempShown (face yard : Int) (sigMv : Nat) (s : State) : State :=
  ((((modLvl (fun l => { l with cap5 := (capsOf face s).1, cap3 := (capsOf face s).2, hot := decide (face > 1050) }) s).puts F.PWR_TEMP_FACE
    face).puts F.PWR_TEMP_YARD_TJ yard).put F.PWR_VCORE_SIG_MV sigMv).put F.PWR_LEVEL_CAP (capLevel (capsOf face s))

/-- The events of a cap and of the onset of over-temperature. -/
def tempTold (cap was : Nat) (onset : Bool) (s : State) : State :=
  let s := if cap < was then raise Src.PWR_CAP_IN (curLevel s) s else if was < cap then raise Src.PWR_CAP_OUT (curLevel s) s else s
  if onset then raise Src.PWR_OVER_TEMP (curLevel s) s else s

theorem faceTemp_eq (face yard : Int) (sigMv : Nat) (s : State) : faceTemp face yard sigMv s =
    tempTold (capLevel (capsOf face s)) (s.get F.PWR_LEVEL_CAP) (decide (face > 1050) && !s.lvl.hot)
      (gather 0 face (gather 1 yard (tempShown face yard sigMv s))) := rfl

theorem gathers_within (face yard : Int) (s : State) : Within tellFoot s (gather 0 face (gather 1 yard s)) :=
  ev_within (ev_within .refl (by decide)) (by decide)

/-- The cap is shown, and what is raised says so. -/
theorem faceTemp_result (face yard : Int) (sigMv : Nat) {s : State} (hs : s.regsWf = true) :
    (faceTemp face yard sigMv s).get F.PWR_LEVEL_CAP = capLevel (capsOf face s) ∧
      (capLevel (capsOf face s) < s.get F.PWR_LEVEL_CAP → Flagged Src.PWR_CAP_IN (faceTemp face yard sigMv s)) ∧
      (1050 < face → s.lvl.hot = false → Flagged Src.PWR_OVER_TEMP (faceTemp face yard sigMv s)) := by
  have small : capLevel (capsOf face s) < 2 ^ F.PWR_LEVEL_CAP.width := by
    unfold capLevel
    split
    · decide
    · split <;> decide
  have wf : (tempShown face yard sigMv s).regsWf = true :=
    State.regsWf_put _ _ _ (State.regsWf_put _ _ _ (State.regsWf_put _ _ _ (State.regsWf_put _ _ _ hs)))
  have cap : (tempShown face yard sigMv s).get F.PWR_LEVEL_CAP = capLevel (capsOf face s) :=
    State.get_put_of_lt (by decide) small (State.regsWf_put _ _ _ (State.regsWf_put _ _ _ (State.regsWf_put _ _ _ hs)))
  have gathered := gathers_within face yard (tempShown face yard sigMv s)
  rw [faceTemp_eq]
  have cap' := (gathered.get (f := F.PWR_LEVEL_CAP) (by decide)).trans cap
  have wf' := gathered.wf wf
  generalize gather 0 face (gather 1 yard (tempShown face yard sigMv s)) = u at cap' wf' ⊢
  have first : Within tellFoot u (if capLevel (capsOf face s) < s.get F.PWR_LEVEL_CAP then raise Src.PWR_CAP_IN (curLevel u) u
      else if s.get F.PWR_LEVEL_CAP < capLevel (capsOf face s) then raise Src.PWR_CAP_OUT (curLevel u) u else u) :=
    ite_within (raise_within .refl) (ite_within (raise_within .refl) .refl)
  refine ⟨?_, fun lower => ?_, fun hot fresh => ?_⟩
  · have told : Within tellFoot u (tempTold (capLevel (capsOf face s)) (s.get F.PWR_LEVEL_CAP) (decide (face > 1050) && !s.lvl.hot) u) :=
      ite_within (raise_within first) first
    exact (told.get (by decide)).trans cap'
  · have capIn : Flagged Src.PWR_CAP_IN (raise Src.PWR_CAP_IN (curLevel u) u) := flagged_raiseArg (by decide) wf'
    have wf'' : (raise Src.PWR_CAP_IN (curLevel u) u).regsWf = true := (raise_within (w := tellFoot) .refl).wf wf'
    unfold tempTold
    dsimp only
    rw [if_pos lower]
    generalize raise Src.PWR_CAP_IN (curLevel u) u = v at capIn wf'' ⊢
    exact (ite_within (raise_within .refl) .refl : Within tellFoot v _).flags wf'' _ (by decide) capIn
  · have onset : (decide (face > 1050) && !s.lvl.hot) = true := by simp [fresh, hot]
    unfold tempTold
    dsimp only
    rw [if_pos onset]
    exact flagged_raiseArg (by decide) (first.wf wf')

/-- Settles O28: the sequencer and the caps, in the order of the statement. -/
theorem levelRows : Obligations.LevelRows := by
  refine ⟨fun canary => ?_, fun canary => ?_, fun canary n from_ => ?_, fun canary n from_ => ?_, fun face yard sigMv cool => ?_,
    fun face yard sigMv low high => ?_, fun face yard sigMv hot => ?_⟩
  · refine does_of_run (fun s => if powered s then sequencerCheck canary s else s) (fun _ _ => rfl)
      fun b ⟨sound, on, up, lost, idle, level, quick, more, ready⟩ => ?_
    simp only [on, if_true]
    exact sequencerCheck_raises (regsWf_of_sound sound) up lost idle level quick more ready
  · refine does_of_run (fun s => if powered s then sequencerCheck canary s else s) (fun _ _ => rfl)
      fun b ⟨sound, on, up, lost, idle, quick, less, above⟩ => ?_
    simp only [on, if_true]
    exact sequencerCheck_lowers (regsWf_of_sound sound) up lost idle quick less above
  · refine does_of_run (fun s => if powered s then raiseDone canary s else s) (fun _ _ => rfl) fun b ⟨sound, on, lost, raising, wanted, quick⟩ => ?_
    simp only [on, if_true]
    exact raiseDone_confirms sound lost raising wanted quick
  · refine does_of_run (fun s => if powered s then raiseDone canary s else s) (fun _ _ => rfl)
      fun b ⟨sound, on, lost, raising, wanted, slow, late, first⟩ => ?_
    simp only [on, if_true]
    exact raiseDone_fails sound lost raising wanted slow late first
  · refine does_of_run (fun s => if powered s then faceTemp face yard sigMv s else s) (fun _ _ => rfl) fun b ⟨sound, on⟩ => ?_
    have caps : capsOf face b = (false, false) := by
      have h : ¬ face > 800 ∧ ¬ face ≥ 770 ∧ ¬ face > 950 ∧ ¬ face ≥ 920 := by omega
      simp [capsOf, h]
    obtain ⟨cap, -⟩ := faceTemp_result face yard sigMv (regsWf_of_sound sound)
    simp only [on, if_true]
    rw [cap, caps]
    rfl
  · refine does_of_run (fun s => if powered s then faceTemp face yard sigMv s else s) (fun _ _ => rfl) fun b ⟨sound, on⟩ => ?_
    have caps : capsOf face b = (true, false) := by
      have h : face > 800 ∧ ¬ face > 950 ∧ ¬ face ≥ 920 := by omega
      simp [capsOf, h]
    obtain ⟨cap, told, -⟩ := faceTemp_result face yard sigMv (regsWf_of_sound sound)
    simp only [on, if_true]
    rw [caps] at cap told
    exact ⟨cap, fun was => told (by rw [was]; decide)⟩
  · refine does_of_run (fun s => if powered s then faceTemp face yard sigMv s else s) (fun _ _ => rfl) fun b ⟨sound, on, fresh⟩ => ?_
    have caps : (capsOf face b).2 = true := by
      have h : face > 950 := by omega
      simp [capsOf, h]
    obtain ⟨cap, -, told⟩ := faceTemp_result face yard sigMv (regsWf_of_sound sound)
    simp only [on, if_true]
    refine ⟨?_, told hot fresh⟩
    rw [cap, capLevel, caps]
    rfl

end Sys2Proof.Machine
end

section
/-!
The rows of the logbook and of the dead-men (R705, R711–R716, R733–R739).
-/

namespace Sys2Proof.Machine

/-! ### Histograms -/

theorem takeExtreme_hist (i : Nat) (isMax : Bool) (v : Int) (opsec pcyc : Nat) (d : LogData) : (takeExtreme i isMax v opsec pcyc d).hist = d.hist := by
  unfold takeExtreme
  dsimp only
  repeat' split
  all_goals rfl

theorem histBin_lt (lo : Int) (width : Nat) (v : Int) : histBin lo width v < 32 := by
  unfold histBin clampI
  omega

/-- A sample of a quantity counts in its own histogram only. -/
theorem takeSample_hist {h : Nat} {x : Int × Nat} {opsec pcyc : Nat} {d : LogData} {lo : Int} {width : Nat} (shape : histShape h = some (lo, width)) :
    (takeSample h x opsec pcyc d).hist = putNum d.hist (32 * h + histBin (lo * x.2) (width * x.2) x.1)
      (satN 32 (histCount d h (histBin (lo * x.2) (width * x.2) x.1) + 1)) := by
  simp only [takeSample, shape, takeExtreme_hist]

theorem histCount_takeSample_other {h k b : Nat} (hb : b < 32) (other : h ≠ k) (x : Int × Nat) (opsec pcyc : Nat) (d : LogData) :
    histCount (takeSample h x opsec pcyc d) k b = histCount d k b := by
  cases shape : histShape h with
  | none => simp only [takeSample, shape]
  | some e =>
    have bin := histBin_lt (e.1 * x.2) (e.2 * x.2) x.1
    rw [histCount, takeSample_hist shape, lookupNum_putNum_ne (by omega)]
    rfl

theorem histCount_takeSample_level {b : Nat} (hb : b < 8) (opsec pcyc : Nat) (d : LogData) :
    histCount (takeSample 10 ((b : Int), 1) opsec pcyc d) 10 b = satN 32 (histCount d 10 b + 1) := by
  have shape : histShape 10 = some (0, 1) := rfl
  have bin : histBin (0 * ((1 : Nat) : Int)) (1 * 1) (b : Int) = b := by
    unfold histBin clampI
    omega
  rw [histCount, takeSample_hist shape]
  simp only [bin, lookupNum_putNum_same, Option.getD_some]

/-- The samples of a second, taken one after the other: a histogram that none of them is for stands. -/
theorem foldOver_takeSample_other {k b opsec pcyc : Nat} (hb : b < 32) : ∀ (l : List (Nat × Int × Nat)) (d : LogData), (∀ e ∈ l, e.1 ≠ k) →
    histCount (foldOver (fun d (e : Nat × Int × Nat) => takeSample e.1 e.2 opsec pcyc d) d l) k b = histCount d k b
  | [], _, _ => rfl
  | e :: l, d, others => by
    rw [foldOver_cons, foldOver_takeSample_other hb l _ fun x hx => others x (List.mem_cons_of_mem _ hx),
      histCount_takeSample_other hb (others e List.mem_cons_self)]

theorem foldOver_append {α β : Type} (f : β → α → β) : ∀ (l m : List α) (b : β), foldOver f b (l ++ m) = foldOver f (foldOver f b l) m
  | [], _, _ => rfl
  | a :: l, m, b => foldOver_append f l m (f b a)

/-- The level is sampled once a second. -/
theorem foldOver_takeSample_level {b opsec pcyc : Nat} (hb : b < 8) {before after : List (Nat × Int × Nat)} (hbefore : ∀ e ∈ before, e.1 ≠ 10)
    (hafter : ∀ e ∈ after, e.1 ≠ 10) (d : LogData) :
    histCount (foldOver (fun d (e : Nat × Int × Nat) => takeSample e.1 e.2 opsec pcyc d) d (before ++ (10, (b : Int), 1) :: after)) 10 b =
      satN 32 (histCount d 10 b + 1) := by
  rw [foldOver_append, foldOver_cons, foldOver_takeSample_other (by omega) after _ hafter, histCount_takeSample_level hb,
    foldOver_takeSample_other (by omega) before _ hbefore]

/-- Of its own quantities the module samples the level once. -/
theorem ownSamples_level (s : State) (l : List (Nat × Int)) : ∃ before after, ownSamples s ++
      (l.filter (fun e => !ownQuantity e.1 && !gathered e.1 && decide (e.1 < 61))).map (fun e => (e.1, e.2, 1)) =
        before ++ (10, (curLevel s : Int), 1) :: after ∧ (∀ e ∈ before, e.1 ≠ 10) ∧ ∀ e ∈ after, e.1 ≠ 10 := by
  refine ⟨[(6, (s.get F.LSW_TOTAL_MEAN_A : Int), 10), (7, (s.get F.LSW_TOTAL_MEAN_B : Int), 10)],
    (((if s.get F.CLE_SLACK_MIN_SLACK = 0xFFFF then [] else [(58, (s.get F.CLE_SLACK_MIN_SLACK : Int), 1)]) ++
      (if (lookupNum s.ev.second 60).isSome then [] else [(60, 0, 1)])) ++
      (s.ev.second.filter (fun e => gathered e.1)).map (fun e => (e.1, sampleOf e.1 e.2))) ++
      (l.filter (fun e => !ownQuantity e.1 && !gathered e.1 && decide (e.1 < 61))).map (fun e => (e.1, e.2, 1)),
    by simp [ownSamples], by simp, fun e he => ?_⟩
  simp only [List.mem_append, List.mem_map, List.mem_filter] at he
  rintro here
  obtain ((slack | errors) | ⟨x, ⟨-, hx⟩, rfl⟩) | ⟨x, ⟨-, hx⟩, rfl⟩ := he
  · split at slack <;> simp at slack
    rw [slack] at here
    exact absurd here (by simp)
  · split at errors <;> simp at errors
    rw [errors] at here
    exact absurd here (by decide)
  · simp only at here
    rw [here] at hx
    exact absurd hx (by decide)
  · simp only at here
    rw [here] at hx
    exact absurd hx (by decide)

/-- An operating second is counted, and the level with it. -/
theorem histogramSecond_result (l : List (Nat × Int)) {b : State} (hs : b.regsWf = true) (on : powered b = true) (full : sec ≤ partSecond b) :
    (histogramSecond l b).get F.EVR_OPSEC_OPSEC = satN 32 (b.get F.EVR_OPSEC_OPSEC + 1) ∧
      partSecond (histogramSecond l b) + sec = partSecond b ∧
      histCount (histogramSecond l b).ev.live 10 (curLevel b) = satN 32 (histCount b.ev.live 10 (curLevel b) + 1) ∧
      (histogramSecond l b).ev.second = [] ∧ RegsKept [Reg.EVR_OPSEC] b (histogramSecond l b) := by
  have counted : (b.bump F.EVR_OPSEC_OPSEC 1).get F.EVR_OPSEC_OPSEC = satN 32 (b.get F.EVR_OPSEC_OPSEC + 1) :=
    State.get_put_of_lt (by decide) (satN_lt 32 _) hs
  have level : (b.bump F.EVR_OPSEC_OPSEC 1).get F.PWR_LEVEL_CUR = b.get F.PWR_LEVEL_CUR := State.get_put_of_apart (by decide) hs
  have kept : RegsKept [Reg.EVR_OPSEC] b (b.bump F.EVR_OPSEC_OPSEC 1) := regsKept_setReg _
  have ev : (b.bump F.EVR_OPSEC_OPSEC 1).ev = b.ev := rfl
  have now : (b.bump F.EVR_OPSEC_OPSEC 1).now = b.now := rfl
  have notEarly : ¬ partSecond b < sec := by omega
  unfold histogramSecond
  rw [if_neg (by simp only [on, notEarly, Bool.not_true, decide_false, Bool.or_self, Bool.false_eq_true, not_false_eq_true])]
  generalize b.bump F.EVR_OPSEC_OPSEC 1 = u at counted level kept ev now ⊢
  have rest : ∃ q, partSecond b - sec = q ∧ q + sec = partSecond b := ⟨_, rfl, by omega⟩
  obtain ⟨q, hq, whole⟩ := rest
  rw [hq]
  have cur : curLevel (modEv (fun e => { e with partNs := q, awakeFrom := b.now }) u) = curLevel b := level
  have live : (modEv (fun e => { e with partNs := q, awakeFrom := b.now }) u).ev.live = b.ev.live := by
    rw [← ev]
    rfl
  have part : partSecond (modEv (fun e => { e with partNs := q, awakeFrom := b.now }) u) = q := by
    simp only [partSecond, modEv, now, Nat.sub_self, Nat.add_zero]
  have counted' : (modEv (fun e => { e with partNs := q, awakeFrom := b.now }) u).get F.EVR_OPSEC_OPSEC = satN 32 (b.get F.EVR_OPSEC_OPSEC + 1) :=
    counted
  have kept' : RegsKept [Reg.EVR_OPSEC] b (modEv (fun e => { e with partNs := q, awakeFrom := b.now }) u) := kept
  generalize modEv (fun e => { e with partNs := q, awakeFrom := b.now }) u = v at cur live part counted' kept' ⊢
  obtain ⟨before, after, samples, hbefore, hafter⟩ := ownSamples_level v l
  rw [cur] at samples
  dsimp only
  rw [samples, live]
  refine ⟨counted', by rw [← whole, ← part]; rfl, ?_, rfl, kept'⟩
  exact foldOver_takeSample_level (levels_lt b).1 hbefore hafter b.ev.live

/-! ### Retired flash blocks -/

theorem retire_isRetired (kind cause index unit : Nat) (s : State) : isRetired kind index unit (retire kind cause index unit s) = true := by
  have own : entryIs kind index unit (retireEntry kind cause index unit s) = true := by simp [entryIs, retireEntry]
  unfold retire
  split
  · simp [isRetired, raise0, own]
  · simp [isRetired, raise0, own, raiseArg_ev_retiredHere, State.put, State.setReg]

/-- What the retirement of a flash block may change. -/
def blockRetired (kind block : Nat) (s : State) : State := fault 0x51 2 Src.EVR_RETIRED kind block 0 0 (retire kind 0 0 block s)

theorem blockRetired_result (kind block : Nat) (s : State) : isRetired kind 0 block (blockRetired kind block s) = true := by
  have retired := retire_isRetired kind 0 0 block s
  unfold blockRetired
  generalize retire kind 0 0 block s = u at retired ⊢
  simpa [isRetired] using retired

theorem blockRetired_within (kind block : Nat) (s : State) : Within ⟨fun a => a == Reg.EVR_RETIRE, [.log]⟩ s (blockRetired kind block s) :=
  fault_within (retire_within .refl (by decide) (by decide)) (by decide)

/-- A siding set that lies on the block is not ready any more. -/
def readyLost (siding : Bool) (s : State) : State :=
  if siding && sidingState s == sReady then
    raise0 Src.CFG_READY_LOST ((State.put { s with sets := { s.sets with okFrom := [] } } F.CFG_STATE_SIDING sLoaded).put F.CFG_SIDING_CRC_CRC 0)
  else s

theorem readyLost_within (siding : Bool) (s : State) :
    Within ⟨fun a => a == Reg.CFG_STATE || a == Reg.CFG_SIDING_CRC, [.sets]⟩ s (readyLost siding s) :=
  ite_within (raise_within (put_within (put_within (sets_within .refl (by decide)) (by decide)) (by decide))) .refl

theorem isRetired_congr {s u : State} {kind index unit : Nat} (retired : u.ev.retired = s.ev.retired) (here : u.ev.retiredHere = s.ev.retiredHere) :
    isRetired kind index unit u = isRetired kind index unit s := by rw [isRetired, isRetired, retired, here]

theorem flashFail_eq (log siding : Bool) (block : Nat) {s : State} (up : s.die.yardUp = true) : flashFail log true siding block s =
    readyLost siding (if log then blockRetired (if log then 5 else 4) block s else useSpare (blockRetired (if log then 5 else 4) block s)) := by
  simp only [flashFail, up, Bool.not_true, Bool.false_eq_true, if_false]
  rfl

theorem useSpare_result {s : State} (hs : s.regsWf = true) (some_ : s.get F.DMA_RETIRED_SPARES ≠ 0) :
    (useSpare s).get F.DMA_RETIRED_SPARES = s.get F.DMA_RETIRED_SPARES - 1 := by
  have small : s.get F.DMA_RETIRED_SPARES - 1 < 2 ^ F.DMA_RETIRED_SPARES.width := lt_of_le_of_lt (Nat.sub_le _ _) (State.get_lt s _)
  have set_ : (s.put F.DMA_RETIRED_SPARES (s.get F.DMA_RETIRED_SPARES - 1)).get F.DMA_RETIRED_SPARES = s.get F.DMA_RETIRED_SPARES - 1 :=
    State.get_put_of_lt (by decide) small hs
  have wf : (s.put F.DMA_RETIRED_SPARES (s.get F.DMA_RETIRED_SPARES - 1)).regsWf = true := State.regsWf_put _ _ _ hs
  unfold useSpare
  dsimp only
  rw [if_neg some_]
  generalize s.put F.DMA_RETIRED_SPARES (s.get F.DMA_RETIRED_SPARES - 1) = u at set_ wf ⊢
  exact ((FieldStands.ite (.raiseArg (.parts .refl) (by decide)) .refl : FieldStands F.DMA_RETIRED_SPARES u _) wf).2.trans set_

theorem useSpare_ev (s : State) : (useSpare s).ev.retired = s.ev.retired ∧ (useSpare s).ev.retiredHere = s.ev.retiredHere := by
  unfold useSpare
  dsimp only
  split
  · exact ⟨rfl, rfl⟩
  · split
    · exact ⟨by rw [raise0, raiseArg_ev_retired]; rfl, by rw [raise0, raiseArg_ev_retiredHere]; rfl⟩
    · exact ⟨rfl, rfl⟩

/-! ### The dead-men -/

/-- Several parts of a footprint at once. -/
theorem Within.step {w : Footprint} {b s t : State} (h : Within w b s) (regs : t.regs = s.regs) (parts : ∀ p, p ∉ w.parts → p.Same s t) :
    Within w b t :=
  h.trans ⟨fun wf => by rw [State.regsWf, regs]; exact wf, fun a _ => by rw [State.reg, State.reg, regs],
    fun _ _ _ flagged => flagged_of_reg (fun f _ => by rw [State.reg, State.reg, regs]) flagged, parts⟩

/-- What the restart of the Signal die does to requests and messages before its registers are reset. -/
def signalQuiet (planned : Bool) (s : State) : State :=
  let hold := s.get F.LSW_CFG_HOLD * ms
  let s := logRestart 0 planned s
  let s := modDie (fun d => { d with
    sigUp := false, sigRestartAt := some s.now, holdUntil := some (s.now + hold), xoReadyAt := none,
    sigNotice := planned && d.xoUp }) s
  let s := { s with
    upd := { s.upd with booted := setNth s.upd.booted 0 false, healthFrom := [none, none] },
    eng := { s.eng with loops := s.eng.loops.map (fun x => { x with sample := none }), busyUntil := 0 },
    sets := { s.sets with sigToken := none }, load := { s.load with studLog := [] } }
  canSignalRestart (dropVerify (stopOrders s))

theorem signalDown_eq {planned : Bool} {s : State} (on : powered s = true) :
    signalDown planned s = resetBlock signalVolatile signalKeep (signalQuiet planned s) := by
  rw [signalDown, if_neg (by simp [on])]
  rfl

/-- What a restart of the Signal die may change. -/
def quietFoot : Footprint where
  reg a := decide (0x70000 ≤ a ∧ a < 0x70008)
  parts := [.log, .die, .upd, .eng, .sets, .load, .packets, .can]

/-- The slots that were verified hold unverified images again. -/
def slotsDropped (s : State) : State :=
  foldOver (fun s d =>
    let s := if s.get (F.UPD_SLOT_STATE_A d) = 3 then s.put (F.UPD_SLOT_STATE_A d) 2 else s
    if s.get (F.UPD_SLOT_STATE_B d) = 3 then s.put (F.UPD_SLOT_STATE_B d) 2 else s) s [0, 1]

theorem slotsDropped_within (s : State) : Within ⟨quietFoot.reg, []⟩ s (slotsDropped s) := by
  refine foldOver_within .refl fun u d hd hu => ?_
  have place : quietFoot.reg (Reg.UPD_SLOT d) = true := by
    revert d
    decide
  have first : Within ⟨quietFoot.reg, []⟩ s (if u.get (F.UPD_SLOT_STATE_A d) = 3 then u.put (F.UPD_SLOT_STATE_A d) 2 else u) :=
    ite_within (put_within hu place) hu
  exact ite_within (put_within first place) first

theorem dropVerify_eq (s : State) : ∃ waiting dropped, dropVerify s =
    { slotsDropped s with
      pk := { (slotsDropped s).pk with waiting := waiting }, die := { (slotsDropped s).die with dropped := dropped } } := ⟨_, _, rfl⟩

theorem dropVerify_within {b s : State} (h : Within quietFoot b s) : Within quietFoot b (dropVerify s) := by
  obtain ⟨waiting, dropped, kept⟩ := dropVerify_eq s
  have slots := h.grow (slotsDropped_within s) ⟨fun _ h => h, by simp⟩
  rw [kept]
  generalize slotsDropped s = u at slots ⊢
  exact die_within (pk_within (x := { u.pk with waiting := waiting }) slots (by decide)) (by decide)

theorem dropVerify_sigUp (s : State) : (dropVerify s).die.sigUp = s.die.sigUp := by
  obtain ⟨waiting, dropped, kept⟩ := dropVerify_eq s
  have die : (slotsDropped s).die = s.die := (slotsDropped_within s).part .die (by simp)
  rw [kept, ← die]

theorem canSignalRestart_within {b s : State} (h : Within quietFoot b s) : Within quietFoot b (canSignalRestart s) :=
  pk_within (foldOver_within h fun _ _ _ hu => can_within hu (by decide)) (by decide)

theorem canSignalRestart_die (s : State) : (canSignalRestart s).die = s.die :=
  foldOver_keeps State.die (fun s n => modControl n (fun c => { c with received := [], firmware := [] }) s) (fun _ _ => rfl) _ s

/-- The Signal die is down. -/
def signalMarked (planned : Bool) (hold : Nat) (s : State) : State :=
  modDie (fun d => { d with
    sigUp := false, sigRestartAt := some s.now, holdUntil := some (s.now + hold), xoReadyAt := none,
    sigNotice := planned && d.xoUp }) s

/-- The firmware, the loops, the token and the studs of a Signal die that is down are at rest, and so are its orders. -/
def signalAtRest (s : State) : State :=
  stopOrders { s with
    upd := { s.upd with booted := setNth s.upd.booted 0 false, healthFrom := [none, none] },
    eng := { s.eng with loops := s.eng.loops.map (fun x => { x with sample := none }), busyUntil := 0 },
    sets := { s.sets with sigToken := none }, load := { s.load with studLog := [] } }

theorem signalQuiet_eq (planned : Bool) (s : State) : signalQuiet planned s = canSignalRestart (dropVerify
    (signalAtRest (signalMarked planned (s.get F.LSW_CFG_HOLD * ms) (logRestart 0 planned s)))) := rfl

theorem signalAtRest_within {b s : State} (h : Within quietFoot b s) : Within quietFoot b (signalAtRest s) :=
  h.step rfl fun p hp => by cases p <;> simp_all [quietFoot, Part.Same, signalAtRest, stopOrders]

theorem signalQuiet_within (planned : Bool) (s : State) : Within quietFoot s (signalQuiet planned s) := by
  rw [signalQuiet_eq]
  generalize s.get F.LSW_CFG_HOLD * ms = hold
  exact canSignalRestart_within (dropVerify_within (signalAtRest_within (die_within (raise_within (fault_within .refl (by decide))) (by decide))))

theorem signalQuiet_sigUp (planned : Bool) (s : State) : (signalQuiet planned s).die.sigUp = false := by
  rw [signalQuiet_eq, canSignalRestart_die, dropVerify_sigUp]
  rfl

theorem dropVerify_ev (s : State) : (dropVerify s).ev = { s.ev with latch := (dropVerify s).ev.latch } := by
  obtain ⟨waiting, dropped, kept⟩ := dropVerify_eq s
  rw [kept]
  exact (slotsDropped_within s).part .log (by simp)

theorem canSignalRestart_ev (s : State) : (canSignalRestart s).ev = s.ev :=
  foldOver_keeps State.ev (fun s n => modControl n (fun c => { c with received := [], firmware := [] }) s) (fun _ _ => rfl) _ s

theorem signalQuiet_deadman (planned : Bool) (s : State) : (signalQuiet planned s).ev.sigDeadman = s.ev.sigDeadman := by
  rw [signalQuiet_eq, canSignalRestart_ev, dropVerify_ev]
  exact (raiseArg_ev_sigDeadman _ _ _ _).trans (fault_ev_sigDeadman _ _ _ _ _ _ _ _)

/-- A register outside the blocks that are reset stands. -/
theorem resetBlock_stands {inBlock : Nat → Bool} (keep : Nat → Nat) {g : Fld} (out_ : inBlock g.addr = false) (s : State) :
    FieldStands g s (resetBlock inBlock keep s) := fun wf => by
  obtain ⟨wf', kept⟩ := foldOver_store (a := g.addr) (v := storeGet regDefault s.regs g.addr)
    (g := fun (l : List (Nat × Word)) (e : Nat × Word) =>
      if inBlock e.1 then
        storeSet regDefault l e.1 (BitVec.ofNat 32 (Nat.land e.2.toNat (Nat.lor (regMask (fun a => a == Access.RWS) e.1) (keep e.1)) +
          ((regDefault e.1).toNat - Nat.land (regDefault e.1).toNat (Nat.lor (regMask (fun a => a == Access.RWS) e.1) (keep e.1)))))
      else l) s.regs (fun m e _ _ => by
        by_cases inside : inBlock e.1 = true
        · refine .inr ⟨e.1, _, if_pos inside, fun here => ?_⟩
          rw [here, out_] at inside
          exact absurd inside (by decide)
        · exact .inl (if_neg inside)) s.regs wf rfl
  exact ⟨wf', congrArg (fun w : Word => bitsAt w.toNat g.lo g.width) kept⟩

/-- A field that a restart of the Signal die does not touch. -/
theorem signalDown_stands {g : Fld} (far : quietFoot.touches g.addr = false) (out_ : signalVolatile g.addr = false) (planned : Bool) {s : State}
    (on : powered s = true) : FieldStands g s (signalDown planned s) := by
  rw [signalDown_eq on]
  exact ((signalQuiet_within planned s).stands far).trans (resetBlock_stands _ out_ _)

theorem signalDown_parts (planned : Bool) {s : State} (on : powered s = true) :
    (signalDown planned s).die.sigUp = false ∧ (signalDown planned s).ev.sigDeadman = s.ev.sigDeadman := by
  rw [signalDown_eq on]
  exact ⟨signalQuiet_sigUp planned s, signalQuiet_deadman planned s⟩

/-- The dead-man of the Signal die has expired: it is disarmed and counted. -/
def signalDisarmed (s : State) : State :=
  (State.put (modEv (fun e => { e with sigDeadman := none }) s) F.EVR_DEADMAN_SIG_ARMED 0).bump F.EVR_DEADMAN_SIG_EXP 1

def yardDisarmed (s : State) : State :=
  (State.put (modEv (fun e => { e with yardDeadman := none }) s) F.EVR_DEADMAN_YARD_ARMED 0).bump F.EVR_DEADMAN_YARD_EXP 1

theorem bump_satN {f : Fld} (fits : f.fits = true) {s : State} (hs : s.regsWf = true) (n : Nat) : (s.bump f n).get f = satN f.width (s.get f + n) :=
  State.get_put_satN fits hs

theorem signalDisarmed_result {s : State} (hs : s.regsWf = true) : (signalDisarmed s).regsWf = true ∧
    (signalDisarmed s).get F.EVR_DEADMAN_SIG_EXP = satN 8 (s.get F.EVR_DEADMAN_SIG_EXP + 1) ∧ (signalDisarmed s).ev.sigDeadman = none := by
  have same : (State.put (modEv (fun e => { e with sigDeadman := none }) s) F.EVR_DEADMAN_SIG_ARMED 0).get F.EVR_DEADMAN_SIG_EXP =
      s.get F.EVR_DEADMAN_SIG_EXP := State.get_put_of_apart (s := modEv (fun e => { e with sigDeadman := none }) s) (by decide) hs
  have wf : (State.put (modEv (fun e => { e with sigDeadman := none }) s) F.EVR_DEADMAN_SIG_ARMED 0).regsWf = true := State.regsWf_put _ _ _ hs
  exact ⟨State.regsWf_put _ _ _ wf, (bump_satN (by decide) wf 1).trans (by rw [same]; rfl), rfl⟩

theorem yardDisarmed_result {s : State} (hs : s.regsWf = true) : (yardDisarmed s).regsWf = true ∧
    (yardDisarmed s).get F.EVR_DEADMAN_YARD_EXP = satN 8 (s.get F.EVR_DEADMAN_YARD_EXP + 1) ∧ (yardDisarmed s).ev.yardDeadman = none := by
  have same : (State.put (modEv (fun e => { e with yardDeadman := none }) s) F.EVR_DEADMAN_YARD_ARMED 0).get F.EVR_DEADMAN_YARD_EXP =
      s.get F.EVR_DEADMAN_YARD_EXP := State.get_put_of_apart (s := modEv (fun e => { e with yardDeadman := none }) s) (by decide) hs
  have wf : (State.put (modEv (fun e => { e with yardDeadman := none }) s) F.EVR_DEADMAN_YARD_ARMED 0).regsWf = true := State.regsWf_put _ _ _ hs
  exact ⟨State.regsWf_put _ _ _ wf, (bump_satN (by decide) wf 1).trans (by rw [same]; rfl), rfl⟩

/-- An unhealthy trial is read from the slot register of its die. -/
theorem unhealthyTrial_of_slots {s u : State} {d : Nat} (_ : d < 2) (upd : u.upd = s.upd)
    (slots : ∀ g : Fld, g.addr = Reg.UPD_SLOT d → u.get g = s.get g) : unhealthyTrial u d = unhealthyTrial s d := by
  have trial : u.get (F.UPD_SLOT_TRIAL d) = s.get (F.UPD_SLOT_TRIAL d) := slots _ rfl
  have health : u.get (F.UPD_SLOT_HEALTHY d) = s.get (F.UPD_SLOT_HEALTHY d) := slots _ rfl
  simp only [unhealthyTrial, trialSlot, State.flag, trial, health, upd]

/-- What follows an expiry says so, and leaves what the log does not hold. -/
theorem deadmanExpired_within (d : Nat) (s : State) : Within tellFoot s (deadmanExpired d s) := raise_within (fault_within .refl (by decide))

theorem deadmanExpired_flagged (d : Nat) {s : State} (hs : s.regsWf = true) : Flagged Src.EVR_DEADMAN_EXPIRED (deadmanExpired d s) :=
  flagged_raiseArg (by decide) ((fault_within (w := tellFoot) .refl (by decide)).wf hs)

theorem deadmanExpired_ev (d : Nat) (s : State) : (deadmanExpired d s).ev.sigDeadman = s.ev.sigDeadman ∧
    (deadmanExpired d s).ev.yardDeadman = s.ev.yardDeadman :=
  ⟨(raiseArg_ev_sigDeadman _ _ _ _).trans (fault_ev_sigDeadman _ _ _ _ _ _ _ _),
    (raiseArg_ev_yardDeadman _ _ _ _).trans (fault_ev_yardDeadman _ _ _ _ _ _ _ _)⟩

/-! ### The restart of the Yard die, and what it leaves of the event registers -/

/-- A register of which a swap of sets takes no bit stands under the swap for one die too. -/
theorem swapDie_keeps (signal : Bool) (c : Container) {regs : List (Nat × Word)} (wf : canonical regs = true) {a : Nat}
    (free : regMask (fun x => x == Access.RWS) a = 0) :
    canonical (swapDie signal c regs) = true ∧ storeGet regDefault (swapDie signal c regs) a = storeGet regDefault regs a := by
  obtain ⟨-, new⟩ := swapRegs_keeps c wf free
  exact foldOver_store (a := a) (v := storeGet regDefault regs a)
    (g := fun (l : List (Nat × Word)) (e : Nat × Word) =>
      if regOnSignal e.1 == signal then storeSet regDefault l e.1 (storeGet regDefault (swapRegs c regs) e.1) else l)
    (regs ++ swapRegs c regs) (fun m e _ _ => by
      by_cases here : (regOnSignal e.1 == signal) = true
      · exact .inr ⟨e.1, _, if_pos here, fun at_ => by rw [at_, new]⟩
      · exact .inl (if_neg here)) regs wf rfl

theorem yardTakesSet_stands {g : Fld} (free : regMask (fun x => x == Access.RWS) g.addr = 0) (s : State) :
    FieldStands g s (yardTakesSet s) := by
  unfold yardTakesSet
  split
  · exact .refl
  · intro wf
    obtain ⟨wf', kept⟩ := swapDie_keeps false (s.sets.running.getD noContainer) wf free
    exact ⟨wf', congrArg (fun w : Word => bitsAt w.toNat g.lo g.width) kept⟩

/-- What the end of every transfer may change. -/
def dmaFoot : Footprint := spanFoot 0x90000 0x91000 [.dma]

theorem dmaFoot_reg {a : Nat} (low : 0x90000 ≤ a) (high : a < 0x91000) : dmaFoot.reg a = true := by
  simp [dmaFoot, spanFoot, low, high]

theorem closeData_within {b s : State} (h : Within dmaFoot b s) {n : Nat} (hn : n < 4) : Within dmaFoot b (closeData n s) :=
  put_within (dma_within h (by decide)) (dmaFoot_reg (by simp only [F.DMA_STR_CFG_OPEN, Reg.DMA_STR_CFG]; omega)
    (by simp only [F.DMA_STR_CFG_OPEN, Reg.DMA_STR_CFG]; omega))

theorem closeDataOf_within {b s : State} (h : Within dmaFoot b s) {p : Nat → Bool} : Within dmaFoot b (closeDataOf p s) :=
  foldOver_within h fun _ n hn hu => closeData_within hu (by simpa using (List.mem_filter.mp hn).1)

theorem stopDma_within (s : State) : Within dmaFoot s (stopDma s) := by
  refine foldOver_within (dma_within (closeDataOf_within .refl) (by decide)) fun u c hc hu => ?_
  have small : c < 32 := by simpa using hc
  exact setReg_within (setReg_within hu (dmaFoot_reg (by simp only [Reg.DMA_CH_CTRL]; omega) (by simp only [Reg.DMA_CH_CTRL]; omega)))
    (dmaFoot_reg (by simp only [Reg.DMA_CH_RING]; omega) (by simp only [Reg.DMA_CH_RING]; omega))

theorem restartLogged_within (planned : Bool) (s : State) : Within ⟨fun a => a == Reg.GNS_STEER_STATUS, [.log]⟩ s (restartLogged planned s) :=
  raise_within (fault_within (ite_within (ite_within (raise_within (put_within (put_within .refl (by decide)) (by decide))) .refl) .refl) (by decide))

/-- The Yard die and what it held are down, its registers not yet reset. -/
def yardAtRest (planned : Bool) (s : State) : State :=
  let s := modDie (fun d => { d with
    yardUp := false, yardRestartAt := some s.now, planned := planned, xoReadyAt := none,
    plannedUntil := if planned && d.xoUp then some (s.now + tPlannedGrace) else none }) s
  let s := navDown (lineDown (endAllSessions s))
  { s with
    eng := { s.eng with xpending := [] },
    upd := { s.upd with
      booted := setNth s.upd.booted 1 false, healthFrom := [none, none], asked := [], handover := none, handToken := none,
      handWanted := none },
    sets := { s.sets with throw := none, okFrom := [], token := none },
    fus := { hmapInForce := s.fus.hmapInForce },
    fn := { copies := s.fn.copies },
    steer := none,
    lvl := { s.lvl with raising := none } }

theorem yardDown_eq {planned : Bool} {s : State} (on : powered s = true) : yardDown planned s =
    (resetBlock yardVolatile yardKeep (yardAtRest planned (stopDma (yardTakesSet (restartLogged planned s))))).put F.PWR_LEVEL_STEPPING 0 := by
  rw [yardDown, if_neg (by simp [on])]
  rfl

theorem yardAtRest_keeps (planned : Bool) (s : State) : (yardAtRest planned s).regs = s.regs ∧ (yardAtRest planned s).ev = s.ev := ⟨rfl, rfl⟩

/-- A field of the Signal die's blocks that no set holds stands under a restart of the Yard die. -/
theorem yardDown_stands {g : Fld} (steer : (Footprint.mk (fun a => a == Reg.GNS_STEER_STATUS) [.log]).touches g.addr = false)
    (free : regMask (fun x => x == Access.RWS) g.addr = 0) (dma : dmaFoot.touches g.addr = false) (out_ : yardVolatile g.addr = false)
    (stepping : F.PWR_LEVEL_STEPPING.apart g = true) (planned : Bool) {s : State} (on : powered s = true) :
    FieldStands g s (yardDown planned s) := by
  rw [yardDown_eq on]
  have logged := (restartLogged_within planned s).stands steer
  generalize restartLogged planned s = u at logged ⊢
  have taken := logged.trans (yardTakesSet_stands free u)
  generalize yardTakesSet u = v at taken ⊢
  have stopped := taken.trans ((stopDma_within v).stands dma)
  generalize stopDma v = w at stopped ⊢
  exact ((stopped.parts (yardAtRest_keeps planned w).1).trans (resetBlock_stands _ out_ _)).put stepping

theorem yardDown_deadman (planned : Bool) {s : State} (on : powered s = true) : (yardDown planned s).ev.yardDeadman = s.ev.yardDeadman := by
  have logged : (restartLogged planned s).ev.yardDeadman = s.ev.yardDeadman := by
    unfold restartLogged logRestart releaseSteer raise raise0
    rw [raiseArg_ev_yardDeadman, fault_ev_yardDeadman]
    split
    · split
      · exact raiseArg_ev_yardDeadman _ _ _ _
      · rfl
    · rfl
  have kept : (yardDown planned s).ev = (restartLogged planned s).ev := by
    rw [yardDown_eq on]
    obtain ⟨regs, ahead, taken⟩ := yardTakesSet_eq (restartLogged planned s)
    obtain ⟨regs', dma, stopped⟩ := stopDma_eq (yardTakesSet (restartLogged planned s))
    have before : (stopDma (yardTakesSet (restartLogged planned s))).ev = (restartLogged planned s).ev := by rw [stopped, taken]
    generalize stopDma (yardTakesSet (restartLogged planned s)) = w at before ⊢
    have rest := (yardAtRest_keeps planned w).2.trans before
    generalize yardAtRest planned w = x at rest ⊢
    exact rest
  rw [kept, logged]

/-! ### The expiries -/

theorem signalDeadman_eq {at_ : Nat} {b : State} (on : powered b = true) (armed : b.ev.sigDeadman = some at_) (late : at_ + 95 * ms ≤ b.now)
    (healthy : unhealthyTrial (limpEnter .deadman (signalDisarmed b)) 0 = false) :
    signalDeadman b = deadmanExpired 0 (signalDown false (limpEnter .deadman (signalDisarmed b))) := by
  have due_ : ¬ b.now < at_ + tDmSig := by
    unfold tDmSig
    omega
  unfold signalDeadman
  rw [armed]
  dsimp only
  rw [if_neg (by simp [on, due_])]
  change deadmanExpired 0 (if unhealthyTrial (limpEnter .deadman (signalDisarmed b)) 0 then _ else _) = _
  rw [healthy]
  rfl

theorem yardDeadman_eq {at_ : Nat} {b : State} (on : powered b = true) (armed : b.ev.yardDeadman = some at_) (late : at_ + 475 * ms ≤ b.now)
    (healthy : unhealthyTrial (yardDisarmed b) 1 = false) : yardDeadman b = deadmanExpired 1 (yardDown false (yardDisarmed b)) := by
  have due_ : ¬ b.now < at_ + tDmYard := by
    unfold tDmYard
    omega
  unfold yardDeadman
  rw [armed]
  dsimp only
  rw [if_neg (by simp [on, due_])]
  change deadmanExpired 1 (if unhealthyTrial (yardDisarmed b) 1 then _ else _) = _
  rw [healthy]
  rfl

/-- Limp mode is entered for the dead-man of the Signal die. -/
theorem limpEnter_deadman {u : State} (wf : u.regsWf = true) (on : powered u = true) (disarmed : u.ev.sigDeadman = none) :
    (limpEnter .deadman u).regsWf = true ∧ (limpEnter .deadman u).flag F.LSW_LIMP_DEADMAN = true ∧
      (u.load.latchedMap.isSome = true → inLimp (limpEnter .deadman u) = true) ∧ (limpEnter .deadman u).ev.sigDeadman = none ∧
      (limpEnter .deadman u).get F.EVR_DEADMAN_SIG_EXP = u.get F.EVR_DEADMAN_SIG_EXP ∧
      unhealthyTrial (limpEnter .deadman u) 0 = unhealthyTrial u 0 ∧ powered (limpEnter .deadman u) = true := by
  have entered := limpEnter_within .refl .deadman (s := u)
  have upd : (limpEnter .deadman u).upd = u.upd := entered.part .upd (by decide)
  have pwr : (limpEnter .deadman u).pwr = u.pwr := entered.part .pwr (by decide)
  refine ⟨entered.wf wf, limpEnter_cause .deadman wf, limpEnter_inLimp .deadman wf, ?_, entered.get (by decide), ?_, by rw [powered, pwr]; exact on⟩
  · exact (sigDeadman_blind.limpEnter .deadman u).trans disarmed
  · exact unhealthyTrial_of_slots (by decide) upd fun g hg => entered.get (by rw [hg]; decide)

theorem signalDeadman_result {at_ : Nat} {b : State} (hs : b.regsWf = true) (on : powered b = true) (armed : b.ev.sigDeadman = some at_)
    (late : at_ + 95 * ms ≤ b.now) (healthy : unhealthyTrial b 0 = false) :
    (signalDeadman b).die.sigUp = false ∧ (signalDeadman b).ev.sigDeadman = none ∧ (signalDeadman b).flag F.LSW_LIMP_DEADMAN = true ∧
      (signalDeadman b).get F.EVR_DEADMAN_SIG_EXP = satN 8 (b.get F.EVR_DEADMAN_SIG_EXP + 1) ∧
      Flagged Src.EVR_DEADMAN_EXPIRED (signalDeadman b) ∧ (b.load.latchedMap.isSome = true → inLimp (signalDeadman b) = true) := by
  obtain ⟨wf, count, disarmed⟩ := signalDisarmed_result hs
  have on' : powered (signalDisarmed b) = true := on
  have trial : unhealthyTrial (signalDisarmed b) 0 = false := (unhealthyTrial_of_slots
    (u := signalDisarmed b) (s := b) (by decide) rfl fun g hg => by
      have first : (State.put (modEv (fun e => { e with sigDeadman := none }) b) F.EVR_DEADMAN_SIG_ARMED 0).get g = b.get g :=
        State.get_setReg_ne _ _ _ g (by rw [hg]; decide)
      exact (State.get_setReg_ne _ _ _ g (by rw [hg]; decide)).trans first).trans healthy
  have load : (signalDisarmed b).load = b.load := rfl
  obtain ⟨entered, cause, limp, armed', count', trial', on''⟩ := limpEnter_deadman wf on' disarmed
  rw [signalDeadman_eq on armed late (trial'.trans trial)]
  rw [load] at limp
  generalize limpEnter .deadman (signalDisarmed b) = u at entered cause limp armed' count' trial' on'' ⊢
  obtain ⟨down, armed''⟩ := signalDown_parts false on''
  obtain ⟨wf', count''⟩ := signalDown_stands (g := F.EVR_DEADMAN_SIG_EXP) (by decide) (by decide) false on'' entered
  obtain ⟨-, cause'⟩ := signalDown_stands (g := F.LSW_LIMP_DEADMAN) (by decide) (by decide) false on'' entered
  obtain ⟨-, limp'⟩ := signalDown_stands (g := F.LSW_LIMP_LIMP) (by decide) (by decide) false on'' entered
  generalize signalDown false u = v at down armed'' wf' count'' cause' limp' ⊢
  have told := deadmanExpired_within 0 v
  have die' : (deadmanExpired 0 v).die = v.die := told.part .die (by decide)
  refine ⟨by rw [die', down], by rw [(deadmanExpired_ev 0 v).1, armed'', armed'], ?_, ?_, deadmanExpired_flagged 0 wf', fun latched => ?_⟩
  · rw [told.flag (by decide), State.flag, cause']
    exact cause
  · exact (told.get (by decide)).trans (count''.trans (count'.trans count))
  · rw [inLimp, told.flag (by decide), State.flag, limp']
    exact limp latched

theorem yardDeadman_result {at_ : Nat} {b : State} (hs : b.regsWf = true) (on : powered b = true) (armed : b.ev.yardDeadman = some at_)
    (late : at_ + 475 * ms ≤ b.now) (healthy : unhealthyTrial b 1 = false) :
    (yardDeadman b).die.yardUp = false ∧ (yardDeadman b).ev.yardDeadman = none ∧ (yardDeadman b).die.sigUp = b.die.sigUp ∧
      (yardDeadman b).get F.EVR_DEADMAN_YARD_EXP = satN 8 (b.get F.EVR_DEADMAN_YARD_EXP + 1) ∧
      Flagged Src.EVR_DEADMAN_EXPIRED (yardDeadman b) := by
  obtain ⟨wf, count, disarmed⟩ := yardDisarmed_result hs
  have on' : powered (yardDisarmed b) = true := on
  have die : (yardDisarmed b).die = b.die := rfl
  have trial : unhealthyTrial (yardDisarmed b) 1 = false := (unhealthyTrial_of_slots
    (u := yardDisarmed b) (s := b) (by decide) rfl fun g hg => by
      have first : (State.put (modEv (fun e => { e with yardDeadman := none }) b) F.EVR_DEADMAN_YARD_ARMED 0).get g = b.get g :=
        State.get_setReg_ne _ _ _ g (by rw [hg]; decide)
      exact (State.get_setReg_ne _ _ _ g (by rw [hg]; decide)).trans first).trans healthy
  rw [yardDeadman_eq on armed late trial]
  generalize yardDisarmed b = u at wf count disarmed on' die ⊢
  obtain ⟨yard, -, -, -, -, -, -, -, -, -, sig⟩ := yardDown_result false on'
  obtain ⟨wf', count'⟩ := yardDown_stands (g := F.EVR_DEADMAN_YARD_EXP) (by decide) (by decide) (by decide) (by decide) (by decide) false on' wf
  have armed' := yardDown_deadman false on'
  generalize yardDown false u = v at yard sig wf' count' armed' ⊢
  have told := deadmanExpired_within 1 v
  have die' : (deadmanExpired 1 v).die = v.die := told.part .die (by decide)
  exact ⟨by rw [die', yard], by rw [(deadmanExpired_ev 1 v).2, armed', disarmed], by rw [die', sig, die],
    (told.get (by decide)).trans (count'.trans count), deadmanExpired_flagged 1 wf'⟩

/-- Settles O29: the logbook, the flash blocks and the dead-men, in the order of the statement. -/
theorem logbookAndDeadmanRows : Obligations.LogbookAndDeadmanRows := by
  refine ⟨fun l => ?_, fun l => ?_, ?_, ?_, fun log siding block => ?_, fun siding block => ?_, fun block => ?_, ?_, ?_, fun at_ => ?_, fun at_ => ?_⟩
  · refine does_of_run (histogramSecond l) (fun _ _ => rfl) fun b ⟨sound, on, full⟩ => ?_
    exact histogramSecond_result l (regsWf_of_sound sound) on full
  · refine does_of_run (histogramSecond l) (fun _ _ => rfl) fun b idle => ?_
    exact if_pos (by simpa using idle)
  · refine does_of_run (logCommit true) (fun _ _ => rfl) fun b ⟨sound, on, due_⟩ => ?_
    have ran : logCommit true b = commitLog b := by
      have now : ¬ b.now < b.ev.commitAt := by omega
      simp [logCommit, on, now]
    rw [ran]
    exact ⟨rfl, rfl, State.get_put_of_lt (s := modEv (fun e => { e with
      mram := e.live, opsecMram := b.get F.EVR_OPSEC_OPSEC, partMram := partSecond b, commitAt := b.now + tCommit }) b) (by decide)
      (State.get_lt b F.EVR_OPSEC_OPSEC) (regsWf_of_sound sound), rfl, rfl⟩
  · refine does_of_run (logCommit false) (fun _ _ => rfl) fun b ⟨sound, on, due_⟩ => ?_
    have ran : logCommit false b = raise0 Src.EVR_LOG_COMMIT (modEv (fun e => { e with commitAt := b.now + tCommit }) b) := by
      have now : ¬ b.now < b.ev.commitAt := by omega
      simp [logCommit, on, now]
    rw [ran]
    exact ⟨raiseArg_ev_mram _ _ _ _, flagged_raiseArg (by decide) (regsWf_of_sound sound)⟩
  · refine does_of_run (flashFail log false siding block) (fun _ _ => rfl) fun b up => ?_
    simp [flashFail, up]
  · refine does_of_run (flashFail true true siding block) (fun _ _ => rfl) fun b ⟨_, up⟩ => ?_
    have retired := blockRetired_result 5 block b
    have kept := blockRetired_within 5 block b
    rw [flashFail_eq true siding block up]
    simp only [if_true]
    generalize blockRetired 5 block b = u at retired kept ⊢
    have lost := readyLost_within siding u
    refine ⟨?_, (lost.reg _ (by decide)).trans (kept.reg _ (by decide))⟩
    have ev : (readyLost siding u).ev = { u.ev with latch := (readyLost siding u).ev.latch } := lost.part .log (by decide)
    rw [isRetired_congr (s := u) (by rw [ev]) (by rw [ev])]
    exact retired
  · refine does_of_run (flashFail false true false block) (fun _ _ => rfl) fun b ⟨sound, up, some_⟩ => ?_
    have retired := blockRetired_result 4 block b
    have kept := blockRetired_within 4 block b
    have spares : (blockRetired 4 block b).get F.DMA_RETIRED_SPARES = b.get F.DMA_RETIRED_SPARES := kept.get (by decide)
    have wf := kept.wf (regsWf_of_sound sound)
    rw [flashFail_eq false false block up]
    simp only [Bool.false_eq_true, if_false, readyLost, Bool.false_and]
    generalize blockRetired 4 block b = u at retired spares wf ⊢
    obtain ⟨list, here⟩ := useSpare_ev u
    exact ⟨(isRetired_congr list here).trans retired, by rw [useSpare_result wf (by rw [spares]; exact some_), spares]⟩
  · refine does_of_run (firmwareRestart true) (fun _ _ => rfl) fun b ⟨sound, up⟩ => ?_
    have wf := regsWf_of_sound sound
    have ran : firmwareRestart true b = State.put { b with ev := { b.ev with yardDeadman := some b.now } } F.EVR_DEADMAN_YARD_ARMED 1 := by
      simp [firmwareRestart, up, restartDeadman]
    rw [ran]
    have wf' : ({ b with ev := { b.ev with yardDeadman := some b.now } } : State).regsWf = true := wf
    exact ⟨rfl, State.flag_put_one (by decide) (by decide) wf', fieldsKept_put (by decide) wf' _⟩
  · refine does_of_run (firmwareRestart false) (fun _ _ => rfl) fun b ⟨sound, up, latched⟩ => ?_
    have wf := regsWf_of_sound sound
    have ran : firmwareRestart false b =
        (State.put { b with ev := { b.ev with sigDeadman := some b.now } } F.EVR_DEADMAN_SIG_ARMED 1).put F.LSW_LIMP_DEADMAN 0 := by
      simp [firmwareRestart, up, latched, restartDeadman]
    rw [ran]
    have wf' : ({ b with ev := { b.ev with sigDeadman := some b.now } } : State).regsWf = true := wf
    have armed := State.flag_put_one (s := { b with ev := { b.ev with sigDeadman := some b.now } }) (f := F.EVR_DEADMAN_SIG_ARMED) (by decide)
      (by decide) wf'
    have kept := fieldsKept_put (s := { b with ev := { b.ev with sigDeadman := some b.now } }) (f := F.EVR_DEADMAN_SIG_ARMED) (by decide) wf' 1
    have wf'' : (State.put { b with ev := { b.ev with sigDeadman := some b.now } } F.EVR_DEADMAN_SIG_ARMED 1).regsWf = true :=
      State.regsWf_put _ _ _ wf'
    have ev : (State.put { b with ev := { b.ev with sigDeadman := some b.now } } F.EVR_DEADMAN_SIG_ARMED 1).ev.sigDeadman = some b.now := rfl
    generalize State.put { b with ev := { b.ev with sigDeadman := some b.now } } F.EVR_DEADMAN_SIG_ARMED 1 = u at armed kept wf'' ev ⊢
    refine ⟨ev, ?_, ?_, ((fieldsKept_of_regs rfl []).trans kept).trans (fieldsKept_put (by decide) wf'' 0)⟩
    · rw [State.flag, State.get_put_of_apart (by decide) wf'']
      exact armed
    · rw [State.flag, State.get_put_of_lt (by decide) (by decide) wf'']
      rfl
  · refine does_of_run signalDeadman (fun _ _ => rfl) fun b ⟨sound, on, armed, late, healthy⟩ => ?_
    exact signalDeadman_result (regsWf_of_sound sound) on armed late healthy
  · refine does_of_run yardDeadman (fun _ _ => rfl) fun b ⟨sound, on, armed, late, healthy⟩ => ?_
    exact yardDeadman_result (regsWf_of_sound sound) on armed late healthy

end Sys2Proof.Machine
end

section
/-!
The rows of Line cycles: the boundary, misses and the limits of lost frames (R157, R167, R175, R196, R197, R204, R206).
-/

namespace Sys2Proof.Machine

/-! ### What a boundary has begun stands under what follows in it -/

/-- What the boundary of a cycle gives the new one, and what decides the operations that follow in it. -/
def cycleView (s : State) : (List Nat × List Nat × Bool × List Nat × Option Nat × Nat × Nat) × Bool × RolePart × Option Nat :=
  ((s.line.seen, s.line.done, s.line.csEarly, s.line.heard, s.line.csHops, s.line.freeRun, s.line.syncRun), s.line.yieldRole, s.role,
    s.sets.lateAt)

theorem lateAt_of_within {w : Footprint} {b s : State} (h : Within w b s) (free : .sets ∉ w.parts) : s.sets.lateAt = b.sets.lateAt := by
  have kept : s.sets = { b.sets with orders := s.sets.orders } := h.part .sets free
  rw [kept]

/-- LIN_CYCLE, the count of misses and the view of the new cycle stand. -/
structure CycleStands (b u : State) : Prop where
  cycle : FieldStands F.LIN_CYCLE_CYCLE b u
  missed : FieldStands F.LIN_STATUS_MISSED b u
  view : cycleView u = cycleView b

section
variable {b s t : State}

theorem CycleStands.refl : CycleStands b b := ⟨.refl, .refl, rfl⟩

theorem CycleStands.trans (h : CycleStands b s) (k : CycleStands s t) : CycleStands b t :=
  ⟨h.cycle.trans k.cycle, h.missed.trans k.missed, k.view.trans h.view⟩

/-- An operation that leaves the registers and the view. -/
theorem CycleStands.parts (h : CycleStands b s) (view : cycleView t = cycleView s) (regs : t.regs = s.regs) : CycleStands b t :=
  ⟨h.cycle.parts regs, h.missed.parts regs, view.trans h.view⟩

theorem CycleStands.put (h : CycleStands b s) {f : Fld} {v : Nat} (hc : f.apart F.LIN_CYCLE_CYCLE = true)
    (hm : f.apart F.LIN_STATUS_MISSED = true) : CycleStands b (s.put f v) :=
  ⟨h.cycle.put hc, h.missed.put hm, h.view⟩

theorem CycleStands.raiseArg (h : CycleStands b s) {src detail arg : Nat} : CycleStands b (raiseArg src detail arg s) where
  cycle := h.cycle.raiseArg (by decide)
  missed := h.missed.raiseArg (by decide)
  view := by
    rw [← h.view]
    simp only [cycleView, raiseArg_line, raiseArg_role, lateAt_of_within (raiseArg_within .refl : Within ⟨fun _ => false, []⟩ s _) (by simp)]

theorem CycleStands.ite {c : Prop} [Decidable c] (hs : CycleStands b s) (ht : CycleStands b t) : CycleStands b (if c then s else t) := by
  split
  · exact hs
  · exact ht

theorem CycleStands.foldOver {α : Type} {f : State → α → State} (h : CycleStands b s) (l : List α) (hf : ∀ s a, CycleStands s (f s a)) :
    CycleStands b (foldOver f s l) := by
  induction l generalizing s with
  | nil => exact h
  | cons a l ih => exact ih (h.trans (hf s a))

/-- An operation of a footprint beside the Line, the role and the sets. -/
theorem Within.cycleStands {w : Footprint} (h : Within w b s)
    (hc : w.touches Reg.LIN_CYCLE = false) (hm : w.touches Reg.LIN_STATUS = false)
    (parts : .line ∉ w.parts ∧ .role ∉ w.parts ∧ .sets ∉ w.parts) : CycleStands b s := by
  refine ⟨h.stands hc, h.stands hm, ?_⟩
  have line : s.line = b.line := h.part .line parts.1
  have role : s.role = b.role := h.part .role parts.2.1
  have lateAt : s.sets.lateAt = b.sets.lateAt := lateAt_of_within h parts.2.2
  simp only [cycleView, line, role, lateAt]

end

theorem isTerminus_of_view {b s : State} (h : CycleStands b s) (other : isTerminus b = false) : isTerminus s = false := by
  have role : s.role = b.role := congrArg (·.2.2.1) h.view
  simpa only [isTerminus, role] using other

/-! ### The throw at a boundary -/

theorem stepLeaves_cycle : StepLeaves F.LIN_CYCLE_CYCLE := by
  refine ⟨by decide, ?_, ?_, ?_, ?_, ?_, by decide, by decide, by decide⟩ <;> intro k <;>
    simp [Fld.apart, Fld.fits, F.LIN_CYCLE_CYCLE, F.SET_FN_TARGET_TARGET, F.SET_FN_STATE_PENDING, F.SET_FN_STATE_LAST, F.SET_FN_STATE_BAR_DIR,
      F.SET_FN_STATE_BAR_LEFT, Reg.SET_FN_TARGET, Reg.SET_FN_STATE, Reg.LIN_CYCLE] <;> omega

theorem stepLeaves_missed : StepLeaves F.LIN_STATUS_MISSED := by
  refine ⟨by decide, ?_, ?_, ?_, ?_, ?_, by decide, by decide, by decide⟩ <;> intro k <;>
    simp [Fld.apart, Fld.fits, F.LIN_STATUS_MISSED, F.SET_FN_TARGET_TARGET, F.SET_FN_STATE_PENDING, F.SET_FN_STATE_LAST, F.SET_FN_STATE_BAR_DIR,
      F.SET_FN_STATE_BAR_LEFT, Reg.SET_FN_TARGET, Reg.SET_FN_STATE, Reg.LIN_STATUS] <;> omega

/-- The end of one change of a step, as `endStep` does it. -/
def endOne (o : StepOutcome) (s : State) (c : Nat × Int × Int) : State :=
  (s.put (F.SET_FN_STATE_PENDING c.1) 0).put (F.SET_FN_STATE_LAST c.1) (lastCode o)

theorem revertStep_abandoned_view (first : Nat) (p : PendingStep) (s : State) : cycleView (revertStep first .abandoned p s) = cycleView s := by
  have back : cycleView (foldOver (backOne first) s p.changed) = cycleView s :=
    foldOver_keeps cycleView (backOne first) (fun u c => by unfold backOne; split <;> rfl) p.changed s
  have ended : ∀ u : State, cycleView ((endStep .abandoned p u).bump F.SET_COUNT2_ABANDONED 1) = cycleView u := fun u =>
    foldOver_keeps cycleView (endOne .abandoned) (fun _ _ => rfl) p.changed { u with fn := { u.fn with pending := none } }
  exact (CycleStands.raiseArg .refl).view.trans ((ended _).trans back)

theorem abandonStep_stands (first : Nat) (s : State) : CycleStands s (abandonStep first s) := by
  unfold abandonStep
  split
  · exact .refl
  · exact ⟨revertStep_stands stepLeaves_cycle .refl, revertStep_stands stepLeaves_missed .refl, revertStep_abandoned_view _ _ _⟩

theorem carryFn_within {b s : State} (h : Within settingFoot b s) {n : Nat} (hn : n < 48) (o : FnBefore) : Within settingFoot b (carryFn n o s) := by
  have fnP : Part.fn ∈ settingFoot.parts := by simp [settingFoot, spanFoot]
  have target : settingFoot.reg (Reg.SET_FN_TARGET n) = true := settingFoot_fn (k := 0) hn (by omega)
  have sent : settingFoot.reg (Reg.SET_FN_SENT n) = true := settingFoot_fn (k := 4) hn (by omega)
  have state_ : settingFoot.reg (Reg.SET_FN_STATE n) = true := settingFoot_fn (k := 0xC) hn (by omega)
  have mode : ∀ {u : State}, Within settingFoot b u →
      Within settingFoot b (if u.flag F.SET_CFG_SET_EN then u else (u.put (F.SET_FN_STATE_MODE n) mManual).put (F.SET_FN_STATE_SETTLING n) 0) :=
    fun hu => ite_within hu (put_within (put_within hu state_) state_)
  have values : ∀ {u : State}, Within settingFoot b u →
      Within settingFoot b ((u.puts (F.SET_FN_SENT_SENT n) o.sent).puts (F.SET_FN_TARGET_TARGET n) o.target) :=
    fun hu => puts_within (puts_within hu sent) target
  have bars : ∀ {u : State}, Within settingFoot b u → Within settingFoot b ((u.put (F.SET_FN_STATE_BAR_DIR n) 0).put (F.SET_FN_STATE_BAR_LEFT n) 0) :=
    fun hu => put_within (put_within hu state_) state_
  have part_ : Within settingFoot b (modFn n (fun _ => o.part) s) := fn_within h fnP
  have base := values (mode (bars (setReg_within part_ (v := o.word) state_)))
  exact ite_within (fn_within base fnP) (fn_within (puts_within (fn_within base fnP) target) fnP)

theorem throwSetting_within (old : List FnBefore) (s : State) : Within settingFoot s (throwSetting old s) := by
  refine foldOver_within (fn_within .refl (by simp [settingFoot, spanFoot])) fun u n hn hu => ?_
  have small : n < 48 := by simpa using hn
  refine ite_within (clearFn_within hu small) ?_
  split
  · exact startFn_within hu small
  · exact carryFn_within hu small _

theorem lineAfter_stands (s : State) : CycleStands s (lineAfter s) := by
  unfold lineAfter
  exact .parts .refl rfl rfl

theorem holdFusion_stands (before s : State) : CycleStands s (holdFusion before s) := by
  unfold holdFusion
  exact .parts .refl rfl rfl

theorem yardSwap_stands (before : State) (old : List FnBefore) (s : State) : CycleStands s (yardSwap before old s) := by
  have setting : CycleStands s (throwSetting old s) := (throwSetting_within old s).cycleStands (by decide) (by decide) (by decide)
  have held : CycleStands s (holdFusion before (lineAfter (throwSetting old s))) :=
    setting.trans ((lineAfter_stands _).trans (holdFusion_stands _ _))
  have started : ∀ {u}, CycleStands s u → CycleStands s (startTimeState u) := fun {u} hu =>
    hu.trans ((startTimeState_within .refl (by rfl) : Within ⟨fun a => a == Reg.GNS_STATUS, []⟩ u _).cycleStands
      (by decide) (by decide) (by decide))
  exact started (.ite held (.ite ((held.put (by decide) (by decide)).put (by decide) (by decide)).raiseArg held))

/-- The registers and the sets as a swap for the Yard die alone leaves them. -/
def yardSections (crc cyc : Nat) (c : Container) (s : State) : State :=
  { s with
    regs := swapDie false c s.regs
    sets := { s.sets with yardAhead := some (crc, c), token := none, barred := some (cycleNow s), swappedAt := some cyc } }

theorem yardSections_stands (crc cyc : Nat) (c : Container) (s : State) : CycleStands s (yardSections crc cyc c s) := by
  have stands : ∀ {g : Fld}, regMask (fun x => x == Access.RWS) g.addr = 0 → FieldStands g s (yardSections crc cyc c s) := fun free wf =>
    have ⟨wf', kept⟩ := swapDie_keeps false c wf free
    ⟨wf', congrArg (fun w : Word => bitsAt w.toNat _ _) kept⟩
  exact ⟨stands (by decide), stands (by decide), rfl⟩

theorem swapYard_of_siding (crc cyc : Nat) {s : State} {c : Container} (h : s.sets.siding = some c) :
    swapYard crc cyc s =
      yardSwap (abandonStep (cycleNow s) s) (settingBefore (abandonStep (cycleNow s) s)) (yardSections crc cyc c (abandonStep (cycleNow s) s)) := by
  unfold swapYard
  rw [h]
  rfl

theorem swapYard_stands (crc cyc : Nat) (s : State) : CycleStands s (swapYard crc cyc s) := by
  cases h : s.sets.siding with
  | none =>
    unfold swapYard
    rw [h]
    exact .refl
  | some c =>
    rw [swapYard_of_siding crc cyc h]
    exact (abandonStep_stands _ s).trans ((yardSections_stands crc cyc c _).trans (yardSwap_stands _ _ _))

theorem disarm_stands (s : State) : CycleStands s (disarm s) := by
  unfold disarm
  refine .put ?_ (by decide) (by decide)
  exact .parts .refl rfl rfl

/-- Without the token of the Signal die, the start of a throw swaps at most the sections of the Yard die. -/
theorem throwStart_stands {s : State} (noTok : s.sets.sigToken = none) : CycleStands s (throwStart s) := by
  unfold throwStart
  split
  · exact .refl
  · refine .ite .refl ?_
    rw [if_neg (by simp [noTok])]
    exact .ite (disarm_stands s) (.ite (swapYard_stands _ _ s) .refl)

/-! ### What else a boundary does on a module without the role -/

theorem restorePort_stands (east : Bool) (s : State) : CycleStands s (restorePort east s) := by
  have mod_ : ∀ f : PortState → PortState, CycleStands s (modPort east f s) := fun f => by
    cases east <;> exact .parts .refl rfl rfl
  have endPut : ∀ {u}, CycleStands s u → CycleStands s (u.put (endField east) 0) := fun hu => by
    cases east <;> exact hu.put (by decide) (by decide)
  unfold restorePort
  split
  · exact .refl
  · exact .ite .refl (.ite (endPut (mod_ _)).raiseArg (mod_ _))

theorem acceptOwnRegions_stands {s : State} (other : isTerminus s = false) : CycleStands s (acceptOwnRegions s) := by
  have here : acceptOwnRegions s = { s with fus := { s.fus with ownRegions := [] } } := by
    unfold acceptOwnRegions
    exact if_pos (by simpa [isTerminus] using other)
  rw [here]
  exact .parts .refl rfl rfl

theorem regsWf_storeDrop (p : Nat → Bool) {s : State} (hs : s.regsWf = true) : ({ s with regs := storeDrop p s.regs } : State).regsWf = true :=
  storeWf_storeDrop _ _ _ hs

theorem reg_storeDrop {p : Nat → Bool} {a : Nat} (keep : p a = false) (s : State) : ({ s with regs := storeDrop p s.regs } : State).reg a = s.reg a :=
  congrArg BitVec.toNat (storeGet_filter (p := fun a => !p a) (by simp [keep]) s.regs)

theorem channelsIdle_stands (s : State) : CycleStands s (channelsIdle s) := by
  have dropped : CycleStands s { s with regs := storeDrop (fun a => decide (Reg.GNS_CH_SIG 0 ≤ a) && decide (a < Reg.GNS_CH_SIG 128)) s.regs } := by
    refine ⟨fun wf => ⟨regsWf_storeDrop _ wf, ?_⟩, fun wf => ⟨regsWf_storeDrop _ wf, ?_⟩, rfl⟩ <;>
      exact congrArg (fun w => bitsAt w _ _) (reg_storeDrop (by decide) s)
  exact dropped.put (by decide) (by decide)

theorem receiverWatch_stands {s : State} (other : isTerminus s = false) : CycleStands s (receiverWatch s) := by
  have started : CycleStands s (receiverStart s) := by
    unfold receiverStart
    exact .ite .refl (.parts .refl rfl rfl)
  have stopped : ∀ u, CycleStands u (receiverStop u) := fun u => by
    unfold receiverStop
    refine .ite .refl ?_
    have halted : CycleStands u { u with nav := { u.nav with running := false } } := .parts .refl rfl rfl
    have idle : CycleStands u (channelsIdle { u with nav := { u.nav with running := false } }) := halted.trans (channelsIdle_stands _)
    have noFix := ((idle.put (f := F.GNS_STATUS_FIX) (v := 0) (by decide) (by decide)).put (f := F.GNS_STATUS_SATS) (v := 0) (by decide)
      (by decide)).put (f := F.GNS_STATUS_HEADING_VALID) (v := 0) (by decide) (by decide)
    exact .ite (CycleStands.raiseArg (.ite noFix noFix.raiseArg)) (.ite noFix noFix.raiseArg)
  have both := started.trans (stopped _)
  have here : holdoverWatch (receiverStop (receiverStart s)) = receiverStop (receiverStart s) :=
    if_neg (by simp [isTerminus_of_view both other])
  unfold receiverWatch
  rw [here]
  exact both

theorem noteHealth_stands (s : State) : CycleStands s (noteHealth s) :=
  CycleStands.foldOver .refl _ fun s d => .ite .refl (by split; exacts [.parts .refl rfl rfl, .parts .refl rfl rfl, .refl])

theorem yieldCycle_stands (s : State) : CycleStands s (yieldCycle s) := .ite .refl (.parts .refl rfl rfl)

/-! ### The boundary -/

/-- The counts of cycles with and without CYCLE_START that a boundary goes on with, on a module without the role (R167, R196). -/
def cycleCounted (s : State) : State :=
  if s.line.csHops.isSome then { s with line := { s.line with freeRun := 0, syncRun := s.line.syncRun + 1 } }
  else { s with line := { s.line with freeRun := s.line.freeRun + 1, syncRun := 0 } }.bump F.LIN_STATUS_MISSED 1

/-- What the close of a cycle notes of the time error, of the modules heard and of the mirror. -/
def cycleNoted (got : Bool) (s : State) : State :=
  let s := growTerr got s
  let s := (gather 11 (stationTerr s) (s.put F.LIN_TERR_TERR (stationTerr s))).put F.LIN_POS_HEARD (satN 7 (heardCount s))
  s.put F.LIN_STATUS_MIRROR_OK (b2n (isRelief s && decide (s.line.mirrorAt = some (cycleNow s - 1))))

/-- The Line's part as the close of a cycle leaves it. -/
def lineClosed (l : LinePart) : LinePart :=
  let onePort := fun (p : PortState) => { p with
    errors := 0, checkOk := false, checkSeen := false, goodChecks := if p.checkSeen then p.goodChecks else 0 }
  { l with
    east := onePort l.east, west := onePort l.west, seen := [], heardBefore := l.heard, heard := if l.csEarly then [0x40] else [], csHops := if l.csEarly then l.csHops else none, csEarly := false, hopsE := 0, hopsW := 0,
    joinsNow := [], done := [], laterCopies := [], mirrorCur := none, mirrorDone := if l.mirrorCur.isSome then l.mirrorCur else l.mirrorDone }

theorem cycleNoted_stands (got : Bool) (s : State) : CycleStands s (cycleNoted got s) := by
  have grown : CycleStands s (growTerr got s) := .parts .refl rfl rfl
  have gathered : ∀ {u h v}, CycleStands s u → CycleStands s (gather h v u) := fun hu => hu.parts rfl rfl
  exact ((gathered (grown.put (by decide) (by decide))).put (by decide) (by decide)).put (by decide) (by decide)

theorem cycleNoted_result (got : Bool) (s : State) :
    (∃ c g, (cycleNoted got s).line = { s.line with closedCycle := c, terrGrown := g }) ∧
    (cycleNoted got s).sets = s.sets ∧ (cycleNoted got s).role = s.role ∧ (cycleNoted got s).now = s.now ∧ (cycleNoted got s).devOff = s.devOff :=
  ⟨⟨_, _, rfl⟩, rfl, rfl, rfl, rfl⟩

/-- The counts of a boundary, with the role or without it. -/
def boundaryCounted (s : State) : State := if isTerminus s then s.put F.LIN_STATUS_MISSED 0 else cycleCounted s

theorem closeCycle_parts (s : State) : closeCycle s =
    { countSilent (cycleNoted s.line.csHops.isSome (boundaryCounted s)) with
      line := lineClosed (countSilent (cycleNoted s.line.csHops.isSome (boundaryCounted s))).line } := rfl

theorem countSilent_of_other {s : State} (other : isTerminus s = false) : countSilent s = s := by
  unfold countSilent
  rw [other]
  rfl

theorem cycleCounted_role (s : State) : (cycleCounted s).role = s.role := by
  unfold cycleCounted
  split <;> rfl

theorem closeCycle_eq {s : State} (other : isTerminus s = false) :
    closeCycle s = { cycleNoted s.line.csHops.isSome (cycleCounted s) with
      line := lineClosed (cycleNoted s.line.csHops.isSome (cycleCounted s)).line } := by
  have counted : boundaryCounted s = cycleCounted s := by
    unfold boundaryCounted
    rw [other]
    rfl
  have others : isTerminus (cycleCounted s) = false := by simpa only [isTerminus, cycleCounted_role] using other
  rw [closeCycle_parts, counted, countSilent_of_other (isTerminus_of_view (cycleNoted_stands _ _) others)]

/-- What the boundary has begun: the number of the new cycle stands in LIN_CYCLE, and the lists of the cycle are empty. -/
def cycleBegun (s : State) : State := (closeCycle s).put F.LIN_CYCLE_CYCLE (cycle32 (closeCycle s))

theorem cycleCounted_result (s : State) :
    (cycleCounted s).line = { s.line with
      freeRun := if s.line.csHops.isSome then 0 else s.line.freeRun + 1, syncRun := if s.line.csHops.isSome then s.line.syncRun + 1 else 0 } ∧
    (cycleCounted s).sets = s.sets ∧ (cycleCounted s).now = s.now ∧ (cycleCounted s).devOff = s.devOff := by
  unfold cycleCounted
  split <;> exact ⟨rfl, rfl, rfl, rfl⟩

theorem cycleCounted_missed {s : State} (hs : s.regsWf = true) : (cycleCounted s).regsWf = true ∧
    (s.line.csHops = none → (cycleCounted s).get F.LIN_STATUS_MISSED = satN 8 (s.get F.LIN_STATUS_MISSED + 1)) := by
  unfold cycleCounted
  split
  next some_ => exact ⟨hs, fun none_ => absurd some_ (by simp [none_])⟩
  · exact ⟨State.regsWf_put _ _ _ hs, fun _ => State.get_put_satN (s := { s with line := { s.line with
      freeRun := s.line.freeRun + 1, syncRun := 0 } }) (by decide) hs⟩

theorem cycle32_closeCycle {s : State} (other : isTerminus s = false) : cycle32 (closeCycle s) = cycle32 s := by
  obtain ⟨-, -, now, devOff⟩ := cycleCounted_result s
  obtain ⟨-, -, -, now', devOff'⟩ := cycleNoted_result s.line.csHops.isSome (cycleCounted s)
  rw [closeCycle_eq other]
  simp only [cycle32, cycleNow, deviceTime, now', devOff', now, devOff]

theorem cycleView_closeCycle {s : State} (other : isTerminus s = false) : cycleView (closeCycle s) =
    (([], [], false, (if s.line.csEarly then [0x40] else []), (if s.line.csEarly then s.line.csHops else none),
      (if s.line.csHops.isSome then 0 else s.line.freeRun + 1), (if s.line.csHops.isSome then s.line.syncRun + 1 else 0)),
      s.line.yieldRole, s.role, s.sets.lateAt) := by
  obtain ⟨line, sets, -, -⟩ := cycleCounted_result s
  rw [closeCycle_eq other]
  obtain ⟨⟨c, g, line'⟩, sets', role', -, -⟩ := cycleNoted_result s.line.csHops.isSome (cycleCounted s)
  generalize cycleNoted s.line.csHops.isSome (cycleCounted s) = u at line' sets' role'
  simp only [cycleView, lineClosed, line', line, sets', sets, role', cycleCounted_role]

theorem closeCycle_sets {s : State} (other : isTerminus s = false) : (closeCycle s).sets = s.sets := by
  obtain ⟨-, sets, -, -⟩ := cycleCounted_result s
  obtain ⟨-, sets', -, -, -⟩ := cycleNoted_result s.line.csHops.isSome (cycleCounted s)
  rw [closeCycle_eq other]
  exact sets'.trans sets

theorem closeCycle_missed {s : State} (other : isTerminus s = false) (hs : s.regsWf = true) : (closeCycle s).regsWf = true ∧
    (s.line.csHops = none → (closeCycle s).get F.LIN_STATUS_MISSED = satN 8 (s.get F.LIN_STATUS_MISSED + 1)) := by
  obtain ⟨wf, count⟩ := cycleCounted_missed hs
  obtain ⟨wf', same⟩ := (cycleNoted_stands s.line.csHops.isSome (cycleCounted s)).missed wf
  rw [closeCycle_eq other]
  exact ⟨wf', fun none_ => same.trans (count none_)⟩

theorem sendCycleStart_of_other {s : State} (other : isTerminus s = false) : sendCycleStart s = s := by
  unfold sendCycleStart
  rw [other]
  rfl

/-- What a boundary does after the cycle has begun, on a module without the role that swaps nothing late. -/
def boundaryRest (s : State) : State :=
  noteHealth (yieldCycle (receiverWatch (acceptOwnRegions (takeNextWords (restorePort true (restorePort false (throwStart s)))))))

theorem takeNextWords_stands (s : State) : CycleStands s (takeNextWords s) := by
  unfold takeNextWords
  exact .parts .refl rfl rfl

theorem boundaryRest_stands {s : State} (noTok : s.sets.sigToken = none) (other : isTerminus s = false) :
    CycleStands s (boundaryRest s) := by
  have taken : CycleStands s (takeNextWords (restorePort true (restorePort false (throwStart s)))) :=
    (throwStart_stands noTok).trans ((restorePort_stands false _).trans ((restorePort_stands true _).trans (takeNextWords_stands _)))
  have owned := taken.trans (acceptOwnRegions_stands (isTerminus_of_view taken other))
  have watched := owned.trans (receiverWatch_stands (isTerminus_of_view owned other))
  exact watched.trans ((yieldCycle_stands _).trans (noteHealth_stands _))

theorem lateThrow_of_none {s : State} (none_ : s.sets.lateAt = none) : lateThrow s = s := by
  unfold lateThrow
  rw [none_]

theorem cycleBoundary_eq {s : State} (past : cycleOver s = true) (other : isTerminus s = false) (noYield : s.line.yieldRole = false)
    (noTok : s.sets.sigToken = none) (noLate : s.sets.lateAt = none) :
    cycleBoundary s = boundaryRest (cycleBegun s) := by
  have noHold : stepHolds s = false := by
    unfold stepHolds
    split
    · rfl
    · simp [other]
  have tok : (cycleBegun s).sets.sigToken = none := by
    exact (congrArg SetPart.sigToken (closeCycle_sets other)).trans noTok
  have view := cycleView_closeCycle other
  have thrown := throwStart_stands tok
  have late : (throwStart (cycleBegun s)).sets.lateAt = none := by
    exact (congrArg (·.2.2.2) (thrown.view.trans view)).trans noLate
  have ports := thrown.trans ((restorePort_stands false _).trans (restorePort_stands true _))
  have keeps : (restorePort true (restorePort false (throwStart (cycleBegun s)))).line.yieldRole = false := by
    exact (congrArg (·.2.1) (ports.view.trans view)).trans noYield
  have roleBegun : isTerminus (cycleBegun s) = false := by
    exact (congrArg (fun v => v.2.2.1.role == Role.terminus) view).trans other
  have taken := ports.trans (takeNextWords_stands _)
  have owned := taken.trans (acceptOwnRegions_stands (isTerminus_of_view taken roleBegun))
  have rest := isTerminus_of_view (boundaryRest_stands tok roleBegun) roleBegun
  unfold cycleBoundary
  rw [past, noHold]
  simp only [Bool.not_true, Bool.or_self, Bool.false_eq_true, if_false]
  rw [show (closeCycle s).put F.LIN_CYCLE_CYCLE (cycle32 (closeCycle s)) = cycleBegun s from rfl, lateThrow_of_none late, keeps]
  simp only [Bool.false_eq_true, if_false]
  rw [isTerminus_of_view owned roleBegun]
  simp only [Bool.false_eq_true, if_false]
  rw [isTerminus_of_view owned roleBegun]
  simp only [Bool.false_eq_true, if_false]
  rw [show noteHealth (yieldCycle (receiverWatch (acceptOwnRegions (takeNextWords (restorePort true (restorePort false
    (throwStart (cycleBegun s)))))))) = boundaryRest (cycleBegun s) from rfl, rest]
  simp only [Bool.false_eq_true, if_false]
  exact sendCycleStart_of_other rest

theorem cycleBoundary_result {s : State} (sound : s.sound = true) (past : cycleOver s = true) (noYield : s.line.yieldRole = false)
    (noTok : s.sets.sigToken = none) (noLate : s.sets.lateAt = none) (other : isTerminus s = false) :
    (cycleBoundary s).get F.LIN_CYCLE_CYCLE = cycle32 s ∧
    (s.line.csHops = none → (cycleBoundary s).get F.LIN_STATUS_MISSED = satN 8 (s.get F.LIN_STATUS_MISSED + 1)) ∧
    cycleView (cycleBoundary s) = cycleView (closeCycle s) := by
  have tok : (cycleBegun s).sets.sigToken = none := (congrArg SetPart.sigToken (closeCycle_sets other)).trans noTok
  have roleBegun : isTerminus (cycleBegun s) = false :=
    (congrArg (fun v => v.2.2.1.role == Role.terminus) (cycleView_closeCycle other)).trans other
  obtain ⟨cycle, missed, view⟩ := boundaryRest_stands tok roleBegun
  obtain ⟨wfClosed, missedClosed⟩ := closeCycle_missed other (regsWf_of_sound sound)
  have wf : (cycleBegun s).regsWf = true := State.regsWf_put _ _ _ wfClosed
  have number : (cycleBegun s).get F.LIN_CYCLE_CYCLE = cycle32 (closeCycle s) :=
    State.get_put_of_lt (by decide) (Nat.mod_lt _ (by decide)) wfClosed
  have count : (cycleBegun s).get F.LIN_STATUS_MISSED = (closeCycle s).get F.LIN_STATUS_MISSED := State.get_put_of_apart (by decide) wfClosed
  rw [cycleBoundary_eq past other noYield noTok noLate]
  exact ⟨(cycle wf).2.trans (number.trans (cycle32_closeCycle other)),
    fun none_ => (missed wf).2.trans (count.trans (missedClosed none_)), view⟩

/-! ### Misses -/

theorem slotsFrom_entries : ∀ (n i : Nat) (b : Bytes), (∀ x ∈ slotsFrom i n b, i ≤ x.entry) ∧ ((slotsFrom i n b).map (·.entry)).Nodup
  | 0, _, _ => ⟨by simp [slotsFrom], by simp [slotsFrom]⟩
  | n + 1, i, b => by
    obtain ⟨above, nodup⟩ := slotsFrom_entries n (i + 1) (b.drop 16)
    unfold slotsFrom
    split
    · exact ⟨fun x hx => Nat.le_of_succ_le (above x hx), nodup⟩
    · refine ⟨fun x hx => ?_, ?_⟩
      · obtain rfl | hx := List.mem_cons.mp hx
        · exact le_refl i
        · exact Nat.le_of_succ_le (above x hx)
      · refine List.nodup_cons.mpr ⟨fun here => ?_, nodup⟩
        obtain ⟨x, hx, same⟩ := List.mem_map.mp here
        exact absurd (same ▸ above x hx) (by simp [slotOf])

/-- No entry stands twice in the entry table. -/
theorem slots_nodup (s : State) : ((slots s).map (·.entry)).Nodup := by
  unfold slots
  split
  · exact List.nodup_singleton _
  · exact (slotsFrom_entries _ _ _).2

/-- The misses of RESERVED entries, each counted once. -/
def missed (m : List (Nat × Nat)) (e : Nat) : List (Nat × Nat) := putNum m e (min 255 ((lookupNum m e).getD 0 + 1))

theorem lookupNum_missed_absent {e : Nat} : ∀ (l : List Nat) (m : List (Nat × Nat)), e ∉ l → lookupNum (foldOver missed m l) e = lookupNum m e
  | [], _, _ => rfl
  | a :: l, m, h => by
    obtain ⟨other, rest⟩ := not_or.mp (List.mem_cons.not.mp h)
    exact (lookupNum_missed_absent l (missed m a) rest).trans (lookupNum_putNum_ne other _ m)

theorem lookupNum_missed {e : Nat} : ∀ (l : List Nat) (m : List (Nat × Nat)), l.Nodup → e ∈ l →
    lookupNum (foldOver missed m l) e = some (min 255 ((lookupNum m e).getD 0 + 1))
  | a :: l, m, nodup, h => by
    obtain ⟨fresh, nodup⟩ := List.nodup_cons.mp nodup
    by_cases here : e = a
    · subst here
      exact (lookupNum_missed_absent l _ fresh).trans (lookupNum_putNum_same _ _ m)
    · have there : e ∈ l := (List.mem_cons.mp h).resolve_left here
      refine (lookupNum_missed l (missed m a) nodup there).trans ?_
      rw [missed, lookupNum_putNum_ne here]

/-! ### A line that is lost -/

theorem mem_distinct {a : Nat} : ∀ {l : List Nat}, a ∈ l → a ∈ distinct l
  | b :: l, h => by
    by_cases here : a = b
    · exact here ▸ List.mem_cons_self
    · have there : a ∈ distinct l := mem_distinct ((List.mem_cons.mp h).resolve_left here)
      exact List.mem_cons_of_mem _ (List.mem_filter.mpr ⟨there, by simpa using here⟩)

/-- The marks of a lost Line, and its report. -/
def lineLostTold (s : State) : State := raise0 Src.LIN_LINE_LOST ((s.put F.LIN_STATUS_LINE_LOST 1).put F.LIN_STATUS_SYNCED 0)

/-- The entries that a lost Line takes from the loops. -/
def lineEntriesLost (s : State) : State :=
  { s with eng := { s.eng with lostEntries := distinct (s.eng.lostEntries ++ usedEntries s 4) } }

theorem lineLost_eq {s : State} (other : isTerminus s = false) (up : s.die.yardUp = true) (held : s.flag F.LIN_STATUS_LINE_LOST = false)
    (count : 5 ≤ s.get F.LIN_STATUS_MISSED) : lineLost s = refreshLoss (lineEntriesLost (lineLostTold s)) := by
  unfold lineLost
  rw [other, up, held, decide_eq_false (by omega)]
  rfl

/-- What the marks of a lost Line change. -/
def lineLostFoot : Footprint := ⟨fun a => a == Reg.LIN_STATUS, []⟩

theorem lineLostTold_within (s : State) : Within lineLostFoot s (lineLostTold s) :=
  raise0_within (put_within (put_within .refl (by decide)) (by decide))

theorem lineLostFoot_loop {a : Nat} (lo : 0x40100 ≤ a) (hi : a < 0x41000) : lineLostFoot.touches a = false := by
  refine touches_eq_false ?_ (by omega) (by simp [raisePlaces]; omega)
  simp [lineLostFoot, Reg.LIN_STATUS]
  omega

/-- The entries that loops use stand in an operation that leaves the Line's marks or less. -/
theorem usedEntries_of_within {b s : State} (h : Within lineLostFoot b s) (kind : Nat) : usedEntries s kind = usedEntries b kind := by
  have field : ∀ n ∈ upFrom 0 32, ∀ f : Nat → Fld, (∀ k, 0x40100 + 0x40 * k ≤ (f k).addr ∧ (f k).addr < 0x40110 + 0x40 * k) →
      s.get (f n) = b.get (f n) := fun n hn f place => by
    have small : n < 32 := by simpa using hn
    obtain ⟨lo, hi⟩ := place n
    exact h.get (lineLostFoot_loop (by omega) (by omega))
  unfold usedEntries
  refine congrArg distinct (List.flatMap_congr fun n hn => ?_)
  have defined_ : loopDefined s n = loopDefined b n :=
    congrArg (fun v => v != 0) (field n hn F.CLE_LOOP_CFG_EN fun k => by simp only [F.CLE_LOOP_CFG_EN, Reg.CLE_LOOP_CFG]; omega)
  rw [defined_, field n hn F.CLE_LOOP_SRC_KIND fun k => by simp only [F.CLE_LOOP_SRC_KIND, Reg.CLE_LOOP_SRC]; omega,
    field n hn F.CLE_LOOP_SRC_INDEX fun k => by simp only [F.CLE_LOOP_SRC_INDEX, Reg.CLE_LOOP_SRC]; omega,
    field n hn F.CLE_LOOP_SP_KIND fun k => by simp only [F.CLE_LOOP_SP_KIND, Reg.CLE_LOOP_SP]; omega,
    field n hn F.CLE_LOOP_SP_INDEX fun k => by simp only [F.CLE_LOOP_SP_INDEX, Reg.CLE_LOOP_SP]; omega]

theorem lineLostTold_result {s : State} (hs : s.regsWf = true) : (lineLostTold s).regsWf = true ∧
    (lineLostTold s).flag F.LIN_STATUS_LINE_LOST = true ∧ (lineLostTold s).flag F.LIN_STATUS_SYNCED = false ∧
    Flagged Src.LIN_LINE_LOST (lineLostTold s) := by
  have wf1 : (s.put F.LIN_STATUS_LINE_LOST 1).regsWf = true := State.regsWf_put _ _ _ hs
  have wf2 : ((s.put F.LIN_STATUS_LINE_LOST 1).put F.LIN_STATUS_SYNCED 0).regsWf = true := State.regsWf_put _ _ _ wf1
  have lost : ((s.put F.LIN_STATUS_LINE_LOST 1).put F.LIN_STATUS_SYNCED 0).get F.LIN_STATUS_LINE_LOST = 1 :=
    (State.get_put_of_apart (by decide) wf1).trans (State.get_put_of_lt (by decide) (by decide) hs)
  have synced : ((s.put F.LIN_STATUS_LINE_LOST 1).put F.LIN_STATUS_SYNCED 0).get F.LIN_STATUS_SYNCED = 0 :=
    State.get_put_of_lt (by decide) (by decide) wf1
  have told : Within ⟨fun _ => false, []⟩ ((s.put F.LIN_STATUS_LINE_LOST 1).put F.LIN_STATUS_SYNCED 0) (lineLostTold s) := raise0_within .refl
  refine ⟨told.wf wf2, ?_, ?_, flagged_raiseArg (by decide) wf2⟩
  · rw [State.flag, told.get (by decide), lost]
    rfl
  · rw [State.flag, told.get (by decide), synced]
    rfl

theorem lineLost_result {s : State} (sound : s.sound = true) (other : isTerminus s = false) (up : s.die.yardUp = true)
    (held : s.flag F.LIN_STATUS_LINE_LOST = false) (count : 5 ≤ s.get F.LIN_STATUS_MISSED) :
    (lineLost s).flag F.LIN_STATUS_LINE_LOST = true ∧ (lineLost s).flag F.LIN_STATUS_SYNCED = false ∧ Flagged Src.LIN_LINE_LOST (lineLost s) ∧
      ∀ e ∈ usedEntries s 4, e ∈ (lineLost s).eng.lostEntries := by
  obtain ⟨wf, lost, synced, told⟩ := lineLostTold_result (regsWf_of_sound sound)
  have rest : Within lossFoot (lineLostTold s) (refreshLoss (lineEntriesLost (lineLostTold s))) :=
    Within.trans (eng_within .refl (by decide)) (refreshLoss_lossFoot _)
  rw [lineLost_eq other up held count]
  refine ⟨(rest.flag (by decide)).trans lost, (rest.flag (by decide)).trans synced, rest.flags wf _ (by decide) told, fun e he => ?_⟩
  rw [refreshLoss_eng (·.lostEntries) (fun _ _ => rfl)]
  refine mem_distinct (List.mem_append.mpr (.inr ?_))
  rwa [usedEntries_of_within (lineLostTold_within s)]

/-- Settles O30: what follows the beginning of a cycle in its boundary leaves the number, the counts and the lists of the cycle; the entries
of the table are distinct, so that each missed one is counted once; and the limits mark their fields alone. -/
theorem lineCycleRows : Obligations.LineCycleRows := by
  unfold Obligations.LineCycleRows
  refine ⟨?_, fun x => ?_, ?_, fun entry => ?_, ?_, ?_, fun c => ?_⟩
  · refine does_of_run cycleBoundary (fun _ _ => rfl) fun b ⟨sound, past, noYield, noTok, noLate, other⟩ => ?_
    obtain ⟨cycle, missed_, view⟩ := cycleBoundary_result sound past noYield noTok noLate other
    have fields := congrArg Prod.fst (view.trans (cycleView_closeCycle other))
    simp only [cycleView, Prod.mk.injEq] at fields
    obtain ⟨seen, done_, early, heard, hops, free, sync⟩ := fields
    refine ⟨cycle, seen, done_, early, heard, hops, fun got => ?_, fun none_ => ?_⟩
    · rw [free, sync, got]
      exact ⟨rfl, rfl⟩
    · rw [free, sync, none_]
      exact ⟨rfl, rfl, missed_ none_⟩
  · refine does_of_run resEndMiss (fun _ _ => rfl) fun b ⟨up, within_, window, first_, mem, cls, mine, notSent, unseen⟩ => ?_
    unfold resEndMiss
    rw [up, within_, window, first_]
    refine ⟨?_, by simp [doneNow, markDone], rfl⟩
    have listed : x.entry ∈ ((slots b).filter (fun x =>
        x.cls == 0 && addressed b x && !sends b x && !b.line.seen.contains x.entry)).map (·.entry) :=
      List.mem_map.mpr ⟨x, List.mem_filter.mpr ⟨mem, by simp [cls, mine, notSent] at unseen ⊢; exact unseen⟩, rfl⟩
    exact congrArg (fun v : Option Nat => v.getD 0) (lookupNum_missed _ b.line.misses
      ((slots_nodup b).sublist (List.filter_sublist.map Slot.entry)) listed)
  · exact does_of_run lineLost (fun _ _ => rfl) fun b ⟨sound, other, up, held, count⟩ => lineLost_result sound other up held count
  · refine does_of_run (entryMissLimit entry) (fun _ _ => rfl) fun b ⟨count, held, fresh, used⟩ => ?_
    unfold entryMissLimit
    rw [decide_eq_false (by omega), held, fresh, used]
    exact ⟨refreshLoss_eng (·.lostEntries) (fun _ _ => rfl) _, (refreshLoss_lossFoot _).part .line (by decide)⟩
  · refine does_of_run freeRunLimit (fun _ _ => rfl) fun b ⟨sound, other, long⟩ => ?_
    have wf := regsWf_of_sound sound
    unfold freeRunLimit
    rw [other, decide_eq_true long]
    refine ⟨?_, fieldsKept_put (by decide) wf 0⟩
    exact congrArg (fun v => v != 0) (State.get_put_of_lt (by decide) (by decide) wf)
  · refine does_of_run syncAchieved (fun _ _ => rfl) fun b ⟨sound, other, up, long⟩ => ?_
    have wf := regsWf_of_sound sound
    unfold syncAchieved
    rw [other, up, decide_eq_true long]
    exact ⟨State.flag_put_one (by decide) (by decide) wf, fieldsKept_put (by decide) wf 1⟩
  · refine does_of_run timetableStart (fun _ _ => rfl) fun b ⟨sound, start, up, joined, reached, out_, match_, held⟩ => ?_
    have wf := regsWf_of_sound sound
    unfold timetableStart
    simp only [start, up, joined, reached, out_, match_, held]
    exact ⟨State.flag_put_one (by decide) (by decide) wf, fieldsKept_put (by decide) wf 1⟩

end Sys2Proof.Machine
end

section
/-!
The rows of reserved frames: sending, forwarding, the copies of a DATA frame, and the first fragment of a packet
(R164–R166, R171–R175, R180).
-/

namespace Sys2Proof.Machine

/-! ### Entries and sets that stand -/

section
variable {w : Footprint} {b s : State}

theorem yardSet_of_within (h : Within w b s) (free : .sets ∉ w.parts) : yardSet s = yardSet b := by
  have kept : s.sets = { b.sets with orders := s.sets.orders } := h.part .sets free
  unfold yardSet
  rw [kept]

theorem slotNo_of_sets (yard : yardSet s = yardSet b) (running : s.sets.running = b.sets.running) (e : Nat) : slotNo s e = slotNo b e := by
  have entry : runningEntry s 0x01 0 16 e = runningEntry b 0x01 0 16 e := by
    have set_ : setFor s 0x01 = setFor b 0x01 := by
      unfold setFor
      rw [yard, running]
    unfold runningEntry
    rw [set_]
  unfold slotNo
  rw [yard, entry]

theorem slotNo_of_within (h : Within w b s) (free : .sets ∉ w.parts) (e : Nat) : slotNo s e = slotNo b e := by
  have kept : s.sets = { b.sets with orders := s.sets.orders } := h.part .sets free
  exact slotNo_of_sets (yardSet_of_within h free) (by rw [kept]) e

theorem addressed_of_within (h : Within w b s) (free : .role ∉ w.parts) (number : w.touches Reg.IDR_ROLE = false) (x : Slot) :
    addressed s x = addressed b x := by
  have role : s.role = b.role := h.part .role free
  have num : joinNum s = joinNum b := h.get number
  simp only [addressed, isTerminus, isRelief, role, num]

end

/-! ### The acceptance of a frame -/

/-- What the acceptance of a good first copy changes. -/
def acceptFoot : Footprint := ⟨fun _ => false, [.line]⟩

/-- The entry of an accepted frame is noted among the seen ones; of the rest of the Line only the modules heard and the members change. -/
structure Accepted (e : Nat) (b s : State) : Prop where
  within_ : Within acceptFoot b s
  line : ∃ heard members, s.line = { b.line with seen := e :: b.line.seen, heard := heard, members := members }

theorem noteHeard_accepted {e n : Nat} {b s : State} (h : Accepted e b s) : Accepted e b (noteHeard n s) := by
  obtain ⟨heard, members, line⟩ := h.line
  unfold noteHeard
  split
  · exact h
  · split
    · exact h
    · exact ⟨line_within h.within_ (by decide), _, members, by rw [line]⟩

theorem endMismatch_accepted {e n : Nat} {b s : State} (h : Accepted e b s) : Accepted e b (endMismatch n s) := by
  obtain ⟨heard, members, line⟩ := h.line
  unfold endMismatch
  split
  · exact ⟨raise_within (line_within h.within_ (by decide)), heard, _, (raiseArg_line _ _ _ _).trans (by rw [line])⟩
  · exact h

theorem acceptReserved_fresh {b : State} {east : Bool} {f : LineFrame} (h : FreshFrame b east f) :
    ∃ s, acceptReserved east f b = (s, true) ∧ Accepted f.entry.toNat b s := by
  obtain ⟨open_, good, cycle, set_, unseen, foreign⟩ := h
  have first_ : firstOfSequence f b = ({ b with line := { b.line with seen := f.entry.toNat :: b.line.seen } }, true) := by
    unfold firstOfSequence
    rw [if_neg (by simp [cycle, set_]), unseen]
    rfl
  have noted : Accepted f.entry.toNat b { b with line := { b.line with seen := f.entry.toNat :: b.line.seen } } :=
    ⟨line_within .refl (by decide), b.line.heard, b.line.members, rfl⟩
  have accepted : acceptReserved east f b = match numOfSrc (noteHeard f.src.toNat { b with line := { b.line with seen := f.entry.toNat :: b.line.seen } }) f.src.toNat with
      | none => (noteHeard f.src.toNat { b with line := { b.line with seen := f.entry.toNat :: b.line.seen } }, true)
      | some n => (endMismatch n (noteHeard f.src.toNat { b with line := { b.line with seen := f.entry.toNat :: b.line.seen } }), true) := by
    unfold acceptReserved
    rw [open_, good, foreign, first_]
    rfl
  have heard := noteHeard_accepted noted (n := f.src.toNat)
  generalize noteHeard f.src.toNat { b with line := { b.line with seen := f.entry.toNat :: b.line.seen } } = u at accepted heard
  rw [accepted]
  split
  · exact ⟨_, rfl, heard⟩
  · exact ⟨_, rfl, endMismatch_accepted heard⟩

/-! ### Copies that leave -/

/-- A copy that is due leaves on its open port. -/
theorem sendCopy_of_open {s : State} {east : Bool} (open_ : portOpen s east = true) (f : LineFrame) :
    sendCopy east f s = { s with out := s.out ++ [.lineFrame east f] } := by
  unfold sendCopy
  rw [open_]
  rfl

/-- What leaves, and what is kept for a later offset. -/
def copiesView (s : State) : List Emit × List (Nat × Bool × LineFrame) := (s.out, s.line.laterCopies)

theorem sendCopies_both {s : State} {x : Slot} {type : Nat} {payload : Bytes} (dueE : copyDue s x true = true) (dueW : copyDue s x false = true)
    (openE : portOpen s true = true) (openW : portOpen s false = true) :
    sendCopies x type payload s = { s with out := s.out ++ [.lineFrame true (reservedFrame s type x.sender x.entry x.len true payload)] ++
      [.lineFrame false (reservedFrame s type x.sender x.entry x.len false payload)] } := by
  unfold sendCopies
  simp only [dueE, dueW, if_true, sendCopy_of_open openE]
  generalize s.out ++ [Emit.lineFrame true (reservedFrame s type x.sender x.entry x.len true payload)] = l
  have open_ : portOpen { s with out := l } false = true := openW
  rw [sendCopy_of_open open_]

theorem sendCopies_one {s : State} {x : Slot} {type : Nat} {payload : Bytes} {east : Bool} (due_ : copyDue s x east = true)
    (later : copyDue s x (!east) = false) (open_ : portOpen s east = true) :
    copiesView (sendCopies x type payload s) =
      (s.out ++ [.lineFrame east (reservedFrame s type x.sender x.entry x.len east payload)],
        s.line.laterCopies ++ [(x.entry, !east, reservedFrame s type x.sender x.entry x.len (!east) payload)]) := by
  cases east with
  | true =>
    have later_ : copyDue s x false = false := later
    unfold sendCopies
    simp only [due_, later_, Bool.false_eq_true, if_true, if_false, sendCopy_of_open open_]
    rfl
  | false =>
    have later_ : copyDue s x true = false := later
    unfold sendCopies
    simp only [due_, later_, Bool.not_false, Bool.false_eq_true, if_true, if_false]
    generalize s.line.laterCopies ++ [(x.entry, true, reservedFrame s type x.sender x.entry x.len true payload)] = l
    have openW : portOpen { s with line := { s.line with laterCopies := l } } false = true := open_
    rw [sendCopy_of_open openW]
    rfl

theorem offerWaiting_of_none {s : State} (none_ : s.line.replyWait = []) : offerWaiting s = { s with line := { s.line with replyWait := [] } } := by
  unfold offerWaiting
  rw [none_]
  rfl

theorem offerBePacket_copies (dest : Nat) (bs : Bytes) (s : State) : copiesView (offerBePacket dest bs s) = copiesView s :=
  foldOver_keeps copiesView (fun s f => offerBe 0x16 dest f s) (fun _ _ => rfl) (fragments 24 (pktIdOf s 0xFFF) 128 0 bs) _

theorem offerQueue_copies {x : Slot} {bs : Bytes} {s u : State} (h : offerQueue x bs s = some u) : copiesView u = copiesView s := by
  simp only [offerQueue, Option.ite_none_right_eq_some, Option.some.injEq] at h
  obtain ⟨-, rfl⟩ := h
  unfold startEntry
  split <;> rfl

theorem offerWaiting_copies (s : State) : copiesView (offerWaiting s) = copiesView s := by
  refine foldOver_keeps copiesView _ (fun u e => ?_) s.line.replyWait { s with line := { s.line with replyWait := [] } }
  dsimp only
  split
  · split
    · exact offerBePacket_copies _ _ _
    · rfl
  · split
    · rfl
    · split
      · rfl
      · split
        next v hv => exact offerQueue_copies hv
        · rfl

theorem packetLeft_line (entry : Nat) (frag : Bytes) (s : State) : (packetLeft entry frag s).line = s.line ∧ (packetLeft entry frag s).out = s.out ∧
    (packetLeft entry frag s).regs = s.regs := by
  unfold packetLeft
  dsimp only
  split <;> exact ⟨rfl, rfl, rfl⟩

/-! ### A queued frame that is sent -/

/-- The state in which the copies of a queued frame leave. -/
def queueTaken (entry : Nat) (s : State) : State :=
  { markDone (16 + entry) s with line := { (markDone (16 + entry) s).line with queues := removeFirst (fun e => e.1 == entry) s.line.queues } }

theorem entrySend_eq {s : State} {x : Slot} {q : Nat × Bytes} (slot : slotNo s x.entry = some x) (real : x.entry ≠ 0) (mine : sends s x = true)
    (now_ : sendsNow s = true) (due_ : entryDue s x = true) (first_ : doneNow s (16 + x.entry) = false) (cls : x.cls = 1)
    (whole : s.flag F.LIN_STATUS_LINE_LOST = false) (head : s.line.queues.find? (fun e => e.1 == x.entry) = some q) :
    entrySend x.entry s = offerWaiting (packetLeft x.entry q.2 (noteEntryServed x.entry (sendCopies x 3 q.2 (queueTaken x.entry s)))) := by
  have queued : sendQueued x (markDone (16 + x.entry) s) =
      offerWaiting (packetLeft x.entry q.2 (noteEntryServed x.entry (sendCopies x 3 q.2 (queueTaken x.entry s)))) := by
    have whole_ : (markDone (16 + x.entry) s).flag F.LIN_STATUS_LINE_LOST = false := whole
    have head_ : (markDone (16 + x.entry) s).line.queues.find? (fun e => e.1 == x.entry) = some q := head
    unfold sendQueued
    rw [whole_, head_]
    rfl
  unfold entrySend
  rw [slot]
  dsimp only
  rw [if_neg (by simp [real, mine, now_, due_]), first_]
  simp only [Bool.false_eq_true, if_false, cls, one_ne_zero, if_true, queued]

/-! ### What arrives -/

theorem isReserved_of_data {f : LineFrame} (type : f.type = 2#8) : isReserved f = true := by simp [isReserved, type]

theorem acceptReserved_seen {b : State} {east : Bool} {f : LineFrame} (foreign : srcIsOwn b f.src.toNat = false) (open_ : portOpen b east = true)
    (good : frameGood f = true) (cycle : f.cycle.toNat = b.get F.LIN_CYCLE_CYCLE) (set_ : f.setId.toNat = ownSetId b)
    (seen : b.line.seen.contains f.entry.toNat = true) : acceptReserved east f b = (b.wrapUp F.LIN_DROP_DUPLICATES 1, false) := by
  have second : firstOfSequence f b = (b.wrapUp F.LIN_DROP_DUPLICATES 1, false) := by
    unfold firstOfSequence
    rw [if_neg (by simp [cycle, set_]), seen]
    rfl
  unfold acceptReserved
  rw [open_, good, foreign, second]
  rfl

theorem dataReceive_of_seen {b u : State} {east : Bool} {f : LineFrame} {regions : List (Nat × Nat)} {mirror : Option Mirror} (type : f.type = 2#8)
    (h : acceptReserved east f b = (u, false)) : dataReceive east f regions mirror b = u := by
  unfold dataReceive
  rw [if_neg (by simp [type]), h]
  dsimp only
  split <;> rfl

/-- The entry of a first copy, and what decides of its payload, in the state in which the frame is accepted. -/
theorem accepted_entry {b s : State} {e : Nat} (h : Accepted e b s) (x : Slot) :
    slotNo s e = slotNo b e ∧ addressed s x = addressed b x ∧ s.flag F.LIN_STATUS_LINE_LOST = b.flag F.LIN_STATUS_LINE_LOST ∧
      cycleNow s = cycleNow b ∧ s.line.valuesFrom = b.line.valuesFrom ∧ s.line.values = b.line.values ∧ e ∈ s.line.seen := by
  obtain ⟨heard, members, line⟩ := h.line
  have now_ : s.now = b.now := h.within_.part .now (by decide)
  have devOff : s.devOff = b.devOff := h.within_.part .devOff (by decide)
  refine ⟨slotNo_of_within h.within_ (by decide) e, addressed_of_within h.within_ (by decide) (by decide) x, h.within_.flag (by decide), ?_, ?_, ?_, ?_⟩
  · simp only [cycleNow, deviceTime, now_, devOff]
  all_goals simp [line]

theorem entryFound_line (entry : Nat) (s : State) : (entryFound entry s).line = s.line := by
  unfold entryFound
  split
  · exact (refreshLoss_lossFoot _).part .line (by decide)
  · rfl

theorem takeRegions_none (src entry : Nat) (payload : Bytes) (s : State) : takeRegions src entry [] payload s = s := by
  unfold takeRegions
  split <;> rfl

theorem lookupNum_filtered {α : Type} (e : Nat) : ∀ l : List (Nat × α), lookupNum (l.filter fun p => p.1 != e) e = none
  | [] => rfl
  | (k, v) :: l => by
    by_cases here : k = e
    · simp [here, lookupNum_filtered e l]
    · simp [here, lookupNum, lookupNum_filtered e l]

/-- Settles O31: a queued frame leaves in each copy whose offset has come, and the other copy waits for its own; a first copy is accepted, and
what it gives depends on the entry alone; a second copy is counted; a first fragment begins its packet. -/
theorem reservedFrameRows : Obligations.ReservedFrameRows := by
  unfold Obligations.ReservedFrameRows
  refine ⟨fun x q => ?_, fun x q east => ?_, fun east f residence => ?_, fun east f x => ?_, fun east f x => ?_,
    fun east f regions mirror => ?_, fun east f x => ?_⟩
  · refine does_from_silence (entrySend x.entry) (fun _ _ => rfl)
      fun b silent ⟨slot, real, mine, now_, dueE, dueW, first_, cls, whole, noReply, head, openE, openW⟩ => ?_
    rw [entrySend_eq slot real mine now_ (by simp [entryDue, dueE]) first_ cls whole head,
      sendCopies_both (s := queueTaken x.entry b) dueE dueW openE openW]
    generalize hu : noteEntryServed x.entry _ = u
    have outU : u.out = b.out ++ [.lineFrame true (reservedFrame b 3 x.sender x.entry x.len true q.2)] ++
        [.lineFrame false (reservedFrame b 3 x.sender x.entry x.len false q.2)] := by rw [← hu]; rfl
    have lineU : u.line.queues = removeFirst (fun e => e.1 == x.entry) b.line.queues ∧ doneNow u (16 + x.entry) = true ∧ u.regs = b.regs ∧
        u.line.replyWait = [] := by
      rw [← hu]
      exact ⟨rfl, by simp [doneNow, noteEntryServed, queueTaken, markDone], rfl, noReply⟩
    obtain ⟨queues, done_, regs, wait⟩ := lineU
    obtain ⟨line, out, regs'⟩ := packetLeft_line x.entry q.2 u
    rw [offerWaiting_of_none (by rw [line, wait])]
    refine ⟨?_, ?_, ?_, regs'.trans regs⟩
    · exact (out.trans outU).trans (by rw [silent]; rfl)
    · exact (congrArg LinePart.queues line).trans queues
    · exact (congrArg (fun l : LinePart => l.done.contains (16 + x.entry)) line).trans done_
  · refine does_from_silence (entrySend x.entry) (fun _ _ => rfl)
      fun b silent ⟨slot, real, mine, now_, due_, later, first_, cls, whole, head, open_⟩ => ?_
    have entry : entryDue b x = true := by
      cases east <;> simp [entryDue, due_]
    have sent := sendCopies_one (s := queueTaken x.entry b) (type := 3) (payload := q.2) due_ later open_
    rw [entrySend_eq slot real mine now_ entry first_ cls whole head]
    have view : copiesView (offerWaiting (packetLeft x.entry q.2 (noteEntryServed x.entry (sendCopies x 3 q.2 (queueTaken x.entry b))))) =
        copiesView (sendCopies x 3 q.2 (queueTaken x.entry b)) := by
      generalize sendCopies x 3 q.2 (queueTaken x.entry b) = u
      obtain ⟨line, out, -⟩ := packetLeft_line x.entry q.2 (noteEntryServed x.entry u)
      rw [offerWaiting_copies]
      simp only [copiesView, line, out]
      rfl
    obtain ⟨out, later'⟩ := Prod.mk.inj (view.trans sent)
    refine ⟨out.trans ?_, ?_⟩
    · exact congrArg (· ++ _) silent
    · rw [later']
      exact List.mem_append_right _ (List.mem_singleton.mpr rfl)
  · refine does_from_silence (lineForward east f residence) (fun _ _ => rfl) fun b silent ⟨reserved, open_, across, good, passes⟩ => ?_
    unfold lineForward
    rw [open_, across, good, passes, reserved]
    exact emit_of_silent silent _
  · refine does_of_run (dataReceive east f [] none) (fun _ _ => rfl) fun b ⟨type, fresh, slot, same, mine, cls, plain, whole, from_⟩ => ?_
    obtain ⟨s, accepted, here⟩ := acceptReserved_fresh fresh
    obtain ⟨slotS, mineS, wholeS, nowS, fromS, -, seenS⟩ := accepted_entry here x
    have ran : dataReceive east f [] none b = entryFound x.entry (putValue x.entry f.payload s) := by
      unfold dataReceive
      rw [if_neg (by simp [type]), accepted]
      dsimp only
      rw [slotS, slot]
      dsimp only
      rw [mineS, mine, wholeS, whole, nowS, fromS, decide_eq_false (by omega), plain, takeRegions_none]
      simp [cls]
    rw [ran, entryFound_line, missesOf, entryFound_line, same, ← nowS]
    exact ⟨by simp [putValue], seenS, by simp [putValue, lookupNum_filtered]⟩
  · refine does_of_run (dataReceive east f [] none) (fun _ _ => rfl) fun b ⟨type, fresh, slot, same, idle⟩ => ?_
    obtain ⟨s, accepted, here⟩ := acceptReserved_fresh fresh
    obtain ⟨slotS, mineS, -, nowS, fromS, valuesS, seenS⟩ := accepted_entry here x
    have ran : dataReceive east f [] none b = s := by
      unfold dataReceive
      rw [if_neg (by simp [type]), accepted]
      dsimp only
      rw [slotS, slot]
      dsimp only
      rw [mineS, nowS, fromS]
      obtain foreign | early := idle
      · rw [foreign]
        rfl
      · rw [decide_eq_true early]
        simp
    rw [ran, same]
    exact ⟨valuesS, seenS⟩
  · refine does_of_run (dataReceive east f regions mirror) (fun _ _ => rfl) fun b ⟨type, foreign, open_, good, cycle, set_, seen⟩ => ?_
    exact dataReceive_of_seen type (acceptReserved_seen foreign open_ good cycle set_ seen)
  · refine does_of_run (queuedReceive east f) (fun _ _ => rfl) fun b ⟨type, fresh, slot, same, mine, cls, first_, some_, whole⟩ => ?_
    obtain ⟨s, accepted, here⟩ := acceptReserved_fresh fresh
    obtain ⟨slotS, mineS, -, -, -, -, -⟩ := accepted_entry here x
    have taken : takeFragment x.entry f.src.toNat f.payload s = (setPartial x.entry f.src.toNat (some {
        entry := x.entry, src := f.src.toNat, pktId := fieldAt f.payload 0 1, nextFrag := 1,
        data := (f.payload.drop 4).take (fieldAt f.payload 2 2) }) s, none) := by
      unfold takeFragment
      rw [first_, if_neg (by omega)]
      rfl
    have ran : queuedReceive east f b = setPartial x.entry f.src.toNat (some {
        entry := x.entry, src := f.src.toNat, pktId := fieldAt f.payload 0 1, nextFrag := 1,
        data := (f.payload.drop 4).take (fieldAt f.payload 2 2) }) s := by
      unfold queuedReceive
      rw [if_neg (by simp [type]), accepted]
      dsimp only
      rw [slotS, slot]
      dsimp only
      rw [mineS, mine, cls, taken]
      rfl
    rw [ran, partialPacket, setPartial]
    have absent : (s.line.reassembly.filter (fun q => !(q.entry == x.entry && q.src == f.src.toNat))).find?
        (fun r => r.entry == x.entry && r.src == f.src.toNat) = none := by
      refine List.find?_eq_none.mpr fun r hr => ?_
      have apart := (List.mem_filter.mp hr).2
      rw [Bool.not_eq_true'] at apart
      rw [apart]
      decide
    rw [List.find?_append, absent]
    simp

end Sys2Proof.Machine
end

section
/-!
CYCLE_START: a module that hears two holders does not follow the one that gives up the role, although its frame is the first of the cycle.
-/

namespace Sys2Proof.Machine

/-- A good CYCLE_START of cycle 0 that names the holder 9 and no module heard. -/
def weakerHolder : LineFrame :=
  sealFrame {
    type := 1#8, src := 0x40#8, entry := 0#12, dir := false, turned := false, pastSender := false, hops := 1#8, len := 1#8, dest := 0#8,
    cycle := 0#32, setId := 0#16, hcrc := 0#16, payload := padTo 64 (cycleStartBytes 0 0 0 9 []), fcs := 0#32 }

/-- A station that follows the holder 5, which hears a module, and that has heard no CYCLE_START in the present cycle. -/
def followingStation : State :=
  State.put { servingState with
    role := { servingState.role with role := .station }
    line := { servingState.line with masterUid := 5, masterHeard := 1 } } F.LIN_STATUS_W_UP 1

/-- Refutes O32: a module follows no CYCLE_START of a holder that gives up its role (yieldingHolder, R214), first copy of the cycle or not;
weakerHolder at followingStation shows it. -/
theorem not_cycleStartRows : ¬ Obligations.CycleStartRows := by
  rintro ⟨follow, -⟩
  obtain ⟨u, hu, hops, -⟩ := follow false weakerHolder 0 (by decide) 0 followingStation (by decide +kernel)
  have ran : cycleStartReceive false weakerHolder 0 (begin_ 0 followingStation) = u := Host.Outcome.next.inj hu
  have unheard : (cycleStartReceive false weakerHolder 0 (begin_ 0 followingStation)).line.csHops = none := by decide +kernel
  rw [ran, hops] at unheard
  exact absurd unheard (by decide)

end Sys2Proof.Machine
end

section
/-!
The rows of joining: JOIN, the holder's answer, its acceptance, and silent modules (R182–R190).
-/

namespace Sys2Proof.Machine

/-! ### Best-effort frames that leave -/

section
variable {w : Footprint} {b s : State}

/-- What a best-effort frame that leaves, waits or is dropped may change. -/
def beFoot : Footprint := ⟨fun a => a == Reg.LIN_DROP, [.line, .out]⟩

theorem modPort_within (h : Within w b s) (hp : .line ∈ w.parts) {east : Bool} {f : PortState → PortState} : Within w b (modPort east f s) := by
  cases east <;> exact line_within h hp

theorem leaveBe_within (h : Within beFoot b s) {east : Bool} {f : LineFrame} : Within beFoot b (leaveBe east f s) := by
  have dropped : Within beFoot b (dropBe s) := bump_within h (by decide)
  exact ite_within dropped (ite_within dropped (ite_within dropped (out_within (modPort_within h (by decide)) (by decide))))

theorem sendBe_within (h : Within beFoot b s) {type dest : Nat} {bs : Bytes} : Within beFoot b (sendBe type dest bs s) :=
  ite_within (line_within h (by decide)) (ite_within (leaveBe_within h) (bump_within h (by decide)))

end

theorem sendPort_out (east : Bool) (f : LineFrame) (m : PortState → PortState) (s : State) :
    (sendPort east f (modPort east m s)).out = s.out ++ [.lineFrame east f] := by
  cases east <;> rfl

theorem sendPort_line {α : Type} (g : LinePart → α) (hg : ∀ l e w, g { l with east := e, west := w } = g l) (east : Bool) (f : LineFrame)
    (m : PortState → PortState) (s : State) : g (sendPort east f (modPort east m s)).line = g s.line := by
  cases east
  · exact hg s.line s.line.east _
  · exact hg s.line _ s.line.west

/-- A frame is dropped, or it leaves and makes its port busy. -/
theorem leaveBe_either {P : State → Prop} {east : Bool} {f : LineFrame} {s : State} (dropped : P (dropBe s))
    (sent : ∀ busy, P (sendPort east f (modPort east (fun p => { p with busy := busy }) s))) : P (leaveBe east f s) := by
  have either : ∀ (c : Prop) [Decidable c] (t u : State), P t → P u → P (if c then t else u) := fun c _ t u ht hu => by
    split
    · exact ht
    · exact hu
  exact either _ _ _ dropped (either _ _ _ dropped (either _ _ _ dropped (sent _)))

/-- A best-effort frame that leaves, waits or is dropped changes the ports and the waiting frames alone of the Line. -/
theorem leaveBe_line {α : Type} (g : LinePart → α) (hg : ∀ l e w, g { l with east := e, west := w } = g l) (east : Bool) (f : LineFrame)
    (s : State) : g (leaveBe east f s).line = g s.line :=
  leaveBe_either (P := fun u => g u.line = g s.line) rfl fun _ => sendPort_line g hg _ _ _ _

theorem sendBe_line {α : Type} (g : LinePart → α) (hg : ∀ l e w, g { l with east := e, west := w } = g l)
    (hq : ∀ l q, g { l with beQueue := q } = g l) (type dest : Nat) (bs : Bytes) (s : State) : g (sendBe type dest bs s).line = g s.line := by
  unfold sendBe
  split
  · exact hq _ _
  · unfold sendBeNow
    dsimp only
    split
    · exact leaveBe_line g hg _ _ s
    · rfl

/-- A frame leaves at once on an open port that is idle, in a best-effort window that has room for it. -/
theorem leaveBe_of_room {s : State} {east : Bool} {f : LineFrame} (room : LeavesNow s east f.len.toNat) :
    ∃ m, leaveBe east f s = sendPort east f (modPort east m s) := by
  obtain ⟨open_, idle, window, fits⟩ := room
  have up : portUp s east = true := (Bool.and_eq_true_iff.mp open_).1
  have noWait : windowWait s = 0 := by
    have past : resEnd s ≤ inCycle s := of_decide_eq_true window
    exact Nat.sub_eq_zero_of_le past
  unfold leaveBe
  simp only [idle, List.getLast?_nil, up, noWait]
  rw [if_neg (by simp), if_neg (by simp), if_neg (by omega)]
  exact ⟨_, rfl⟩

theorem sendBe_of_room {s : State} {type dest : Nat} {bs : Bytes} (owed : NoCheckOwed s (bePort s dest))
    (room : LeavesNow s (bePort s dest) (((bs.length + 63) / 64) % 256)) :
    ∃ m, sendBe type dest bs s = sendPort (bePort s dest) (sealFrame { beFrame s type dest bs with dir := !bePort s dest })
      (modPort (bePort s dest) m s) := by
  obtain ⟨open_, idle, window, -⟩ := id room
  have leaves : ownMayLeave s (bePort s dest) = true := by
    unfold ownMayLeave
    rw [window, idle]
    obtain none_ | done_ := owed
    · simp [none_]
    · simp [done_]
  unfold sendBe
  rw [open_, leaves]
  simp only [sendBeNow, open_, Bool.not_true, Bool.and_false, Bool.false_eq_true, if_false, if_true]
  exact leaveBe_of_room (by simpa [sealFrame, beFrame] using room)

/-! ### What the holder answers to a JOIN -/

theorem sendJoinAccept_members (uid result num start : Nat) (s : State) :
    (sendJoinAccept uid result num start s).line.members = s.line.members :=
  sendBe_line LinePart.members (fun _ _ _ => rfl) (fun _ _ => rfl) _ _ _ s

theorem putLineMember_members (m : Member) (s : State) :
    (putLineMember m s).line.members = s.line.members.filter (fun (k : Member) => k.uid != m.uid) ++ [m] := rfl

theorem holdOut_result (uid num posE code : Nat) {s : State} (hs : s.regsWf = true) :
    Flagged Src.LIN_HELD_OUT (holdOut uid num posE code s) ∧ ∃ m ∈ (holdOut uid num posE code s).line.members, m.uid = uid ∧ m.result = code := by
  have sent : ∀ m : Member, Within beFoot s (sendJoinAccept uid code num 0 (putLineMember m s)) := fun m =>
    sendBe_within (line_within .refl (by decide))
  refine ⟨flagged_raiseArg (by decide) ((sent _).wf hs), ?_⟩
  unfold holdOut
  rw [raiseArg_line, sendJoinAccept_members, putLineMember_members]
  exact ⟨_, List.mem_append_right _ (List.mem_singleton.mpr rfl), rfl, rfl⟩

theorem admitted_result (uid num posE : Nat) {s : State} (hs : s.regsWf = true)
    (fresh : (memberOfUid s uid).any (fun m => m.result == 0) = false) :
    Flagged Src.LIN_STATION_JOINED (admitted uid num posE false false s) ∧ ∃ m ∈ (admitted uid num posE false false s).line.members,
      m.uid = uid ∧ m.num = num ∧ m.result = 0 ∧ m.relief = false ∧ m.mismatch = false ∧ m.startCycle = (cycle32 s + 3) % 4294967296 := by
  have unknown : (memberOfUid s uid).any (fun k => k.result == 0 && !k.absent) = false := by
    cases h : memberOfUid s uid with
    | none => rfl
    | some m =>
      rw [h] at fresh
      have other : (m.result == 0) = false := fresh
      simp [other]
  unfold admitted
  simp only [unknown, Bool.or_self, Bool.false_eq_true, if_false]
  have sent : ∀ (m : Member) (l : List (Nat × Nat × Nat)) (start : Nat),
      Within beFoot s (sendJoinAccept uid 0 num start { putLineMember m s with line := { (putLineMember m s).line with joinsNow := l } }) :=
    fun _ _ _ => sendBe_within (line_within (line_within .refl (by decide)) (by decide))
  refine ⟨flagged_raiseArg (by decide) ((sent _ _ _).wf hs), ?_⟩
  rw [raise_eq, raiseArg_line, sendJoinAccept_members]
  exact ⟨_, List.mem_append_right _ (List.mem_singleton.mpr rfl), rfl, rfl, rfl, rfl, rfl, rfl⟩

/-! ### What a module does with the answer -/

/-- The module is held out. -/
def heldOut (code : Nat) (s : State) : State :=
  (State.put { s with role := { s.role with joined := false }, line := { s.line with startCycle := none } } F.LIN_STATUS_HOLD_OUT code).put
    F.LIN_STATUS_IN_TIMETABLE 0

/-- A claim of the relief role is granted with the acceptance. -/
def claimTaken (s : State) : State := if s.role.role == .reliefClaim then setRole .relief s else s

/-- The module has joined under a number. -/
def numbered (num start : Nat) (s : State) : State :=
  (State.put { s with
    role := { s.role with joined := true },
    line := { s.line with everJoined := true, startCycle := some start } } F.IDR_ROLE_JOIN_NUM num).put F.LIN_STATUS_HOLD_OUT 0

theorem numbered_result (num start : Nat) {b : State} (hs : b.regsWf = true) :
    let u := numbered num start (claimTaken { b with line := { b.line with joinAnswered := true } })
    u.role.joined = true ∧ u.line.everJoined = true ∧ u.line.joinAnswered = true ∧ u.get F.IDR_ROLE_JOIN_NUM = num % 64 ∧
      u.line.startCycle = some start ∧ u.get F.LIN_STATUS_HOLD_OUT = 0 := by
  have claim : (claimTaken { b with line := { b.line with joinAnswered := true } }).regsWf = true ∧
      (claimTaken { b with line := { b.line with joinAnswered := true } }).line.joinAnswered = true := by
    unfold claimTaken
    split
    · rw [setRole_eq]
      exact ⟨State.regsWf_put _ _ _ hs, rfl⟩
    · exact ⟨hs, rfl⟩
  generalize claimTaken { b with line := { b.line with joinAnswered := true } } = s at claim
  obtain ⟨wf, answered⟩ := claim
  have number : (State.put { s with role := { s.role with joined := true }, line := { s.line with everJoined := true, startCycle := some start } }
      F.IDR_ROLE_JOIN_NUM num).get F.IDR_ROLE_JOIN_NUM = num % 64 := State.get_put_mod (by decide) wf
  have wf' : (State.put { s with role := { s.role with joined := true }, line := { s.line with everJoined := true, startCycle := some start } }
      F.IDR_ROLE_JOIN_NUM num).regsWf = true := State.regsWf_put _ _ _ wf
  exact ⟨rfl, rfl, answered, (State.get_put_of_apart (by decide) wf').trans number, rfl, State.get_put_of_lt (by decide) (by decide) wf'⟩

/-- What the switching off of every channel changes. -/
def channelsFoot : Footprint := ⟨(loadFoot 32).reg, [.log, .load, .die]⟩

theorem channelsOff_foot (s : State) : Within channelsFoot s (channelsOff s) :=
  channelsOff_within .refl ⟨fun _ h => h, by decide⟩ (by decide)

theorem heldOut_result {code : Nat} {s : State} (hc : code < 8) (hs : s.regsWf = true) :
    (channelsOff (heldOut code s)).role.joined = false ∧ (channelsOff (heldOut code s)).line.startCycle = none ∧
      (channelsOff (heldOut code s)).get F.LIN_STATUS_HOLD_OUT = code ∧ (channelsOff (heldOut code s)).flag F.LIN_STATUS_IN_TIMETABLE = false := by
  have off := channelsOff_foot (heldOut code s)
  have role : (channelsOff (heldOut code s)).role = (heldOut code s).role := off.part .role (by decide)
  have line : (channelsOff (heldOut code s)).line = (heldOut code s).line := off.part .line (by decide)
  have wf : (State.put { s with role := { s.role with joined := false }, line := { s.line with startCycle := none } } F.LIN_STATUS_HOLD_OUT
      code).regsWf = true := State.regsWf_put _ _ _ hs
  have shown : (heldOut code s).get F.LIN_STATUS_HOLD_OUT = code :=
    (State.get_put_of_apart (by decide) wf).trans (State.get_put_of_lt (s := { s with
      role := { s.role with joined := false }, line := { s.line with startCycle := none } }) (by decide) hc hs)
  have out : (heldOut code s).get F.LIN_STATUS_IN_TIMETABLE = 0 := State.get_put_of_lt (by decide) (by decide) wf
  refine ⟨congrArg RolePart.joined role, congrArg LinePart.startCycle line, (off.get (by decide)).trans shown, ?_⟩
  rw [State.flag, off.get (by decide), out]
  rfl

/-- Settles O33: JOIN leaves at once where the window has room; the member that the holder notes stands while its answer leaves; the module takes
the answer's number or its code. -/
theorem joinRows : Obligations.JoinRows := by
  unfold Obligations.JoinRows
  refine ⟨?_, fun east f => ?_, fun east f => ?_, fun east f => ?_, fun east f => ?_, fun n m => ?_⟩
  · refine does_from_silence joinSend (fun _ _ => rfl) fun b silent ⟨sound, asks, again, synced, placed, unanswered, owed, room⟩ => ?_
    obtain ⟨open_, -, window, -⟩ := id room
    have up : b.die.yardUp = true := by
      simp only [portOpen, portUp, Bool.and_eq_true] at open_
      exact open_.1.1.1
    have ran : joinSend b = sendBe 0x10 (b.get F.LIN_POS_MASTER_NUM)
        (padTo 64 (leBytes 8 (ownUid b) ++ leBytes 4 (b.reg Reg.IDR_LINE_REV) ++ leBytes 4 (b.reg Reg.IDR_STRAP) ++
          leBytes 1 (b.get F.LIN_POS_POS_E) ++ leBytes 1 b.line.hopsW))
        { b with line := { b.line with joinSent := some (cycleNow b) } } := by
      have asking : (match b.role.role with
          | .station | .reliefClaim | .relief | .stoodDown | .noRole => true
          | _ => false) = true := by
        revert asks
        cases b.role.role <;> simp
      have again_ : (match b.line.joinSent with
          | none => true
          | some c => decide (c + 100 ≤ cycleNow b)) = true := by
        cases h : b.line.joinSent with
        | none => rfl
        | some c => exact decide_eq_true (again c h)
      have open_ : (b.line.joinAnswered && !b.flag F.CFG_STATE_SET_MISMATCH) = false := by
        obtain fresh | mismatch := unanswered
        · simp [fresh]
        · simp [mismatch]
      unfold joinSend
      dsimp only
      rw [if_neg]
      simp only [up, window, synced, open_]
      simp only [Bool.not_true, Bool.false_or, Bool.or_false, Bool.or_eq_true, Bool.not_eq_true', beq_iff_eq, not_or, Bool.not_eq_false]
      exact ⟨⟨asking, again_⟩, placed⟩
    generalize hp : padTo 64 (leBytes 8 (ownUid b) ++ leBytes 4 (b.reg Reg.IDR_LINE_REV) ++ leBytes 4 (b.reg Reg.IDR_STRAP) ++
      leBytes 1 (b.get F.LIN_POS_POS_E) ++ leBytes 1 b.line.hopsW) = payload at ran
    have len : payload.length = 64 := by
      rw [← hp]
      simp [padTo]
    have head : payload.take 8 = leBytes 8 (ownUid b) := by
      rw [← hp]
      simp [padTo, List.take_take]
    obtain ⟨m, sent⟩ := sendBe_of_room (s := { b with line := { b.line with joinSent := some (cycleNow b) } }) (type := 0x10)
      (dest := b.get F.LIN_POS_MASTER_NUM) (bs := payload) owed (by rw [len]; exact room)
    rw [ran, sent]
    refine ⟨?_, _, _, (sendPort_out _ _ _ _).trans (congrArg (· ++ _) silent), ?_, ?_⟩
    · exact sendPort_line LinePart.joinSent (fun _ _ _ => rfl) _ _ _ _
    · rfl
    · simp [sealFrame, beFrame, padTo, len, head, List.take_take]
  · refine does_of_run (joinReceive east f) (fun _ _ => rfl)
      fun b ⟨sound, holder, type, mine, fresh, rev, code, fault_, down, straps, other, small, free, set_⟩ => ?_
    have ran : joinReceive east f b = admitted (fieldAt f.payload 0 8) (fieldAt f.payload 16 1) (fieldAt f.payload 16 1) false false b := by
      unfold joinReceive
      rw [holder, mine]
      simp [type, joinDecide, fresh, rev, code, fault_, down, straps, other, free, set_, Nat.not_le.mpr small]
    rw [ran]
    exact admitted_result _ _ _ (regsWf_of_sound sound) fresh
  · refine does_of_run (joinReceive east f) (fun _ _ => rfl) fun b ⟨sound, holder, type, mine, fresh, rev, small⟩ => ?_
    have bounded : (if (bitAt (fieldAt f.payload 12 4) 2 && bitsAt (fieldAt f.payload 12 4) 0 2 != 2) = true then
        bitsAt (fieldAt f.payload 12 4) 8 6 else fieldAt f.payload 16 1) < 64 := by
      split
      · exact Nat.mod_lt _ (by decide)
      · exact small
    have ran : joinReceive east f b = holdOut (fieldAt f.payload 0 8) (if (bitAt (fieldAt f.payload 12 4) 2 && bitsAt (fieldAt f.payload 12 4) 0 2 != 2) = true then
        bitsAt (fieldAt f.payload 12 4) 8 6 else fieldAt f.payload 16 1) (fieldAt f.payload 16 1) 1 b := by
      unfold joinReceive
      rw [holder, mine]
      generalize hn : (if (bitAt (fieldAt f.payload 12 4) 2 && bitsAt (fieldAt f.payload 12 4) 0 2 != 2) = true then
        bitsAt (fieldAt f.payload 12 4) 8 6 else fieldAt f.payload 16 1) = num at bounded
      simp only [type, joinDecide, fresh, hn]
      simp [rev, Nat.not_le.mpr bounded]
    rw [ran]
    exact holdOut_result _ _ _ _ (regsWf_of_sound sound)
  · refine does_of_run (joinAcceptReceive east f) (fun _ _ => rfl) fun b ⟨sound, other, type, mine, own, ok⟩ => ?_
    have wf := regsWf_of_sound sound
    have ran : joinAcceptReceive east f b = numbered (fieldAt f.payload 9 1) (fieldAt f.payload 12 4)
        (claimTaken { b with line := { b.line with joinAnswered := true } }) := by
      unfold joinAcceptReceive
      rw [other, mine]
      simp only [type, own]
      rw [if_neg (by simp), if_pos ok]
      rfl
    rw [ran]
    exact numbered_result _ _ wf
  · refine does_of_run (joinAcceptReceive east f) (fun _ _ => rfl) fun b ⟨sound, other, type, mine, own, low, high⟩ => ?_
    have ran : joinAcceptReceive east f b = channelsOff (heldOut (fieldAt f.payload 8 1) { b with line := { b.line with joinAnswered := true } }) := by
      unfold joinAcceptReceive
      rw [other, mine]
      simp only [type, own]
      rw [if_neg (by simp), if_neg (by omega), if_neg (by omega)]
      rfl
    rw [ran]
    exact heldOut_result (by omega) (regsWf_of_sound sound)
  · refine does_of_run (stationAbsent n) (fun _ _ => rfl) fun b ⟨sound, holder, members, num, accepted, present, silent⟩ => ?_
    have wf := regsWf_of_sound sound
    have found : b.line.members.find? (fun k => k.num == n && k.result == 0) = some m := by simp [members, num, accepted]
    unfold stationAbsent
    rw [found]
    dsimp only
    rw [holder, present, decide_eq_false (by omega)]
    simp only [Bool.not_true, Bool.or_self, Bool.false_eq_true, if_false]
    refine ⟨?_, flagged_raiseArg (by decide) ?_⟩
    · rw [raise_eq, raiseArg_line]
      split <;> simp [members, num, accepted]
    · split <;> exact wf

end Sys2Proof.Machine
end

section
/-!
The rows of links: their drop and return, their judgement and retirement, the measurement of delays, and CHECK frames
(R177, R199–R203, R216–R217, R220–R222).
-/

namespace Sys2Proof.Machine

/-! ### Ports -/

@[simp] theorem port_modPort (east : Bool) (f : PortState → PortState) (s : State) : port (modPort east f s) east = f (port s east) := by
  cases east <;> rfl

@[simp] theorem port_modPort_other (east : Bool) (f : PortState → PortState) (s : State) : port (modPort east f s) (!east) = port s (!east) := by
  cases east <;> rfl

theorem port_of_line {s t : State} (h : t.line = s.line) (east : Bool) : port t east = port s east := by
  simp only [port, h]

/-- The three fields of a link's port in LIN_STATUS: up, ring end, retired. -/
theorem portFields (east : Bool) : (upField east).fits = true ∧ (endField east).fits = true ∧ (retiredField east).fits = true ∧
    (upField east).width = 1 ∧ (endField east).width = 1 ∧ (retiredField east).width = 1 ∧
    (upField east).addr = Reg.LIN_STATUS ∧ (endField east).addr = Reg.LIN_STATUS ∧ (retiredField east).addr = Reg.LIN_STATUS := by
  cases east <;> decide

theorem portFields_apart (east : Bool) : (upField east).apart (endField east) = true ∧ (endField east).apart (upField east) = true ∧
    (upField east).apart (upField (!east)) = true ∧ (upField east).apart (endField (!east)) = true ∧
    (endField east).apart (upField (!east)) = true ∧ (endField east).apart (endField (!east)) = true ∧
    (endField east).apart (retiredField east) = true := by
  cases east <;> decide

theorem flag_of_get {s t : State} {f : Fld} (h : t.get f = s.get f) : t.flag f = s.flag f := congrArg (fun v => v != 0) h

theorem flag_put_zero {s : State} {f : Fld} (hf : f.fits = true) (hs : s.regsWf = true) : (s.put f 0).flag f = false :=
  congrArg (fun v => v != 0) (State.get_put_of_lt hf (Nat.two_pow_pos _) hs)

/-! ### Retirement -/

theorem isRetired_of_lists {s t : State} (kind index unit : Nat)
    (h : t.ev.retired = s.ev.retired ∧ t.ev.retiredHere = s.ev.retiredHere) : isRetired kind index unit t = isRetired kind index unit s := by
  simp only [isRetired, h.1, h.2]

/-- The marks of a retired link. -/
def linkMarked (east : Bool) (s : State) : State := (s.put (retiredField east) 1).put (endField east) 1

theorem linkMarked_result (east : Bool) {s : State} (hs : s.regsWf = true) : (linkMarked east s).regsWf = true ∧
    portEnd (linkMarked east s) east = true ∧ (linkMarked east s).flag (retiredField east) = true := by
  obtain ⟨-, endFits, retFits, -, endW, retW, -, -, -⟩ := portFields east
  have wf : (s.put (retiredField east) 1).regsWf = true := State.regsWf_put _ _ _ hs
  have set_ : (s.put (retiredField east) 1).flag (retiredField east) = true := State.flag_put_one retFits (by rw [retW]; decide) hs
  refine ⟨State.regsWf_put _ _ _ wf, State.flag_put_one endFits (by rw [endW]; decide) wf, ?_⟩
  exact (flag_of_get (State.get_put_of_apart (by cases east <;> decide) wf)).trans set_

/-- A link that is retired is in the list, ends the ring, shows and is reported. -/
theorem retireLink_result (east : Bool) {s : State} (hs : s.regsWf = true) :
    isRetired 2 (b2n east) 0 (retireLink east s) = true ∧ portEnd (retireLink east s) east = true ∧
      (retireLink east s).flag (retiredField east) = true ∧ Flagged Src.LIN_LINK_RETIRED (retireLink east s) := by
  have retired := retire_isRetired 2 0 (b2n east) 0 s
  have wf : (retire 2 0 (b2n east) 0 s).regsWf = true :=
    (retire_within .refl (by decide) (by decide) : Within ⟨fun a => a == Reg.EVR_RETIRE, [.log]⟩ s _).wf hs
  unfold retireLink
  dsimp only
  generalize retire 2 0 (b2n east) 0 s = v at retired wf
  obtain ⟨wf', end_, mark⟩ := linkMarked_result east wf
  have same : isRetired 2 (b2n east) 0 (linkMarked east v) = true := retired
  rw [show (v.put (retiredField east) 1).put (endField east) 1 = linkMarked east v from rfl]
  generalize linkMarked east v = u at wf' end_ mark same
  generalize hx : modPort east (fun p => { p with pendingErr := false, goodChecks := 0, restoreAt := none, asking := false }) u = x
  have wfX : x.regsWf = true := by rw [← hx, regsWf_modPort]; exact wf'
  have listX : isRetired 2 (b2n east) 0 x = true := by
    rw [← hx]
    exact (isRetired_of_lists _ _ _ (by rw [modPort_ev]; exact ⟨rfl, rfl⟩)).trans same
  have fields : ∀ g, x.get g = u.get g := fun g => by rw [← hx, get_modPort]
  have told : Within ⟨fun _ => false, [.log]⟩ x (raise Src.LIN_LINK_RETIRED (b2n east) (fault 0x11 2 Src.LIN_LINK_RETIRED (b2n east) 0 0 0 x)) :=
    raise_within (fault_within .refl (by decide))
  have free : ∀ g : Fld, g.addr = Reg.LIN_STATUS → (⟨fun _ => false, [.log]⟩ : Footprint).touches g.addr = false := fun g hg => by
    rw [hg]
    decide
  obtain ⟨-, -, -, -, -, -, -, endAt, retAt⟩ := portFields east
  refine ⟨?_, ?_, ?_, flagged_raiseArg (by decide) ((fault_within .refl (by decide) : Within ⟨fun _ => false, [.log]⟩ x _).wf wfX)⟩
  · rw [isRetired_of_lists 2 (b2n east) 0 (s := x)]
    · exact listX
    · simp
  · exact ((told.flag (free _ endAt)).trans (flag_of_get (fields _))).trans end_
  · exact ((told.flag (free _ retAt)).trans (flag_of_get (fields _))).trans mark

/-! ### Drop and return -/

theorem linkDrop_result (east : Bool) {s : State} (hs : s.regsWf = true) (up : s.die.yardUp = true) (linked : s.flag (upField east) = true) :
    (linkDrop east s).flag (upField east) = false ∧ portEnd (linkDrop east s) east = true ∧
      (portEnd s east = false → Flagged Src.LIN_WRAP (linkDrop east s)) ∧
      (linkDrop east s).flag (upField (!east)) = s.flag (upField (!east)) ∧ portEnd (linkDrop east s) (!east) = portEnd s (!east) := by
  obtain ⟨upFits, endFits, -, -, endW, -, upAt, endAt, -⟩ := portFields east
  obtain ⟨upEnd, endUp, upUp, upEndO, endUpO, endEnd, -⟩ := portFields_apart east
  unfold linkDrop
  rw [up, linked]
  simp only [Bool.not_true, Bool.or_self, Bool.false_eq_true, if_false]
  generalize hx : modPort east _ s = x
  have wfX : x.regsWf = true := by rw [← hx, regsWf_modPort]; exact hs
  have fields : ∀ g, x.flag g = s.flag g := fun g => by rw [← hx, State.flag, get_modPort]; rfl
  have wfU : (x.put (upField east) 0).regsWf = true := State.regsWf_put _ _ _ wfX
  have down : (x.put (upField east) 0).flag (upField east) = false := flag_put_zero upFits wfX
  have others : ∀ g, (upField east).apart g = true → (x.put (upField east) 0).flag g = s.flag g := fun g hg =>
    (flag_of_get (State.get_put_of_apart hg wfX)).trans (fields g)
  have endSame : portEnd (x.put (upField east) 0) east = portEnd s east := others _ upEnd
  generalize x.put (upField east) 0 = u at wfU down others endSame
  cases h : portEnd s east
  · rw [h] at endSame
    rw [endSame, if_neg (by decide)]
    have wfE : (u.put (endField east) 1).regsWf = true := State.regsWf_put _ _ _ wfU
    have told : Within ⟨fun _ => false, []⟩ (u.put (endField east) 1) (raise Src.LIN_WRAP (b2n east) (u.put (endField east) 1)) :=
      raise_within .refl
    have keeps : ∀ g, g.addr = Reg.LIN_STATUS → (endField east).apart g = true →
        (raise Src.LIN_WRAP (b2n east) (u.put (endField east) 1)).flag g = u.flag g := fun g hg apart =>
      (told.flag (by rw [hg]; decide)).trans (flag_of_get (State.get_put_of_apart apart wfU))
    obtain ⟨-, -, -, -, -, -, upAt', endAt', -⟩ := portFields (!east)
    refine ⟨(keeps _ upAt endUp).trans down, ?_, fun _ => flagged_raiseArg (by decide) wfE, (keeps _ upAt' endUpO).trans (others _ upUp),
      (keeps _ endAt' endEnd).trans (others _ upEndO)⟩
    exact (told.flag (by rw [endAt]; decide)).trans (State.flag_put_one endFits (by rw [endW]; decide) wfU)
  · rw [h] at endSame
    rw [endSame, if_pos rfl]
    exact ⟨down, endSame, fun no => absurd no (by decide), others _ upUp, others _ upEndO⟩

theorem linkUp_result (east : Bool) {s : State} (hs : s.regsWf = true) (up : s.die.yardUp = true) (dropped : s.flag (upField east) = false)
    (kept : isRetired 2 (b2n east) 0 s = false) :
    (linkUp east s).flag (upField east) = true ∧ (port (linkUp east s) east).linked = true ∧
      portEnd (linkUp east s) east = ((port s east).linked && portEnd s east) ∧ FieldsKept [upField east, endField east] s (linkUp east s) := by
  obtain ⟨upFits, endFits, -, upW, -, -, -, -, -⟩ := portFields east
  obtain ⟨upEnd, endUp, -⟩ := portFields_apart east
  have upSet : (s.put (upField east) 1).flag (upField east) = true := State.flag_put_one upFits (by rw [upW]; decide) hs
  have wfU : (s.put (upField east) 1).regsWf = true := State.regsWf_put _ _ _ hs
  have endSame : (s.put (upField east) 1).flag (endField east) = portEnd s east := flag_of_get (State.get_put_of_apart upEnd hs)
  have keptUp : FieldsKept [upField east] s (s.put (upField east) 1) := fieldsKept_put upFits hs 1
  have listU : isRetired 2 (b2n east) 0 (s.put (upField east) 1) = false := kept
  unfold linkUp
  rw [up, dropped]
  simp only [Bool.not_true, Bool.or_self, Bool.false_eq_true, if_false]
  generalize s.put (upField east) 1 = u at upSet wfU endSame keptUp listU
  generalize hx : modPort east (fun p => { p with linked := true, goodChecks := 0, restoreAt := none }) u = x
  have wfX : x.regsWf = true := by rw [← hx, regsWf_modPort]; exact wfU
  have fields : ∀ g, x.get g = u.get g := fun g => by rw [← hx, get_modPort]
  have listX : isRetired 2 (b2n east) 0 x = false := by
    rw [← hx]
    exact (isRetired_of_lists _ _ _ (by rw [modPort_ev]; exact ⟨rfl, rfl⟩)).trans listU
  have linkedX : (port x east).linked = true := by rw [← hx, port_modPort]
  rw [listX]
  cases h : (port s east).linked
  · simp only [Bool.not_false, Bool.and_self, if_true]
    refine ⟨?_, linkedX, flag_put_zero endFits wfX, fun g other => ?_⟩
    · exact ((flag_of_get (State.get_put_of_apart endUp wfX)).trans (flag_of_get (fields _))).trans upSet
    · have kept_ : (x.put (endField east) 0).get g = x.get g := fieldsKept_put endFits wfX 0 g fun f hf => other f (by simp at hf; simp [hf])
      exact (kept_.trans (fields g)).trans (keptUp g fun f hf => other f (by simp at hf; simp [hf]))
  · simp only [Bool.not_true, Bool.false_and, Bool.false_eq_true, if_false]
    exact ⟨(flag_of_get (fields _)).trans upSet, linkedX, (flag_of_get (fields _)).trans endSame,
      fun g other => (fields g).trans (keptUp g fun f hf => other f (by simp at hf; simp [hf]))⟩

/-! ### Frames of one hop -/

theorem sendHop_of_free {s : State} {east : Bool} {type : Nat} {bs : Bytes} {len : Nat} (other : type ≠ 0x14)
    (kept : isRetired 2 (b2n east) 0 s = false) (owed : NoCheckOwed s east) (room : LeavesNow s east len) :
    sendHop east type bs s = leaveBe east (sealFrame { beFrame s type 0 bs with dir := !east }) s := by
  obtain ⟨open_, idle, window, -⟩ := room
  have up : portUp s east = true := (Bool.and_eq_true_iff.mp open_).1
  have leaves : ownMayLeave s east = true := by
    unfold ownMayLeave
    rw [window, idle]
    obtain none_ | done_ := owed
    · simp [none_]
    · simp [done_]
  unfold sendHop sendHopNow
  rw [up, leaves, kept]
  simp only [Bool.not_true, other, Bool.false_eq_true, if_false, if_true, and_false]

theorem sendHop_of_room {s : State} {east : Bool} {type : Nat} {bs : Bytes} (other : type ≠ 0x14) (kept : isRetired 2 (b2n east) 0 s = false)
    (owed : NoCheckOwed s east) (room : LeavesNow s east (((bs.length + 63) / 64) % 256)) :
    ∃ m, sendHop east type bs s = sendPort east (sealFrame { beFrame s type 0 bs with dir := !east }) (modPort east m s) := by
  rw [sendHop_of_free other kept owed room]
  exact leaveBe_of_room (by simpa [sealFrame, beFrame] using room)

/-- A frame that leaves makes its port busy; nothing else of the ports changes. -/
theorem leaveBe_port {α : Type} (g : PortState → α) (hg : ∀ p b, g { p with busy := b } = g p) (side east : Bool) (f : LineFrame) (s : State) :
    g (port (leaveBe side f s) east) = g (port s east) :=
  leaveBe_either (P := fun u => g (port u east) = g (port s east)) rfl fun _ => by
    cases side <;> cases east
    · exact hg _ _
    · rfl
    · rfl
    · exact hg _ _

theorem linkClassify_begin {s : State} {east : Bool} (past : cycleOver s = true) (first_ : doneNow s (1 + b2n east) = false)
    (kept : isRetired 2 (b2n east) 0 s = false) :
    linkClassify east s =
      if (port s east).errors > 0 then
        if (port s east).pendingErr then retireLink east (markDone (1 + b2n east) s)
        else modPort east (fun p => { p with pendingErr := true, lastErrors := p.errors }) (markDone (1 + b2n east) s)
      else if (port s east).pendingErr then
        if !(port s east).checkOk then retireLink east (markDone (1 + b2n east) s)
        else
          let u := modPort east (fun p => { p with pendingErr := false }) (markDone (1 + b2n east) s)
          raise Src.LIN_LINK_TRANSIENT (b2n east) (fault 0x10 1 Src.LIN_LINK_TRANSIENT (b2n east) (port s east).lastErrors 0 0 u)
      else markDone (1 + b2n east) s := by
  have kept_ : isRetired 2 (b2n east) 0 (markDone (1 + b2n east) s) = false := kept
  unfold linkClassify
  simp only [past, first_, kept_, Bool.not_true, Bool.or_self, Bool.false_eq_true, if_false]

/-- What an accepted CHECK frame that asks for no answer leaves of its port. -/
def checkNoted (bits : Nat) (p : PortState) : PortState :=
  { p with checkSeen := true, checkOk := p.checkOk || bitAt bits 5, goodChecks := p.goodChecks + 1, peerRetired := bitAt bits 1, asking := p.asking && bitAt bits 1 }

theorem checkReceive_quiet {s : State} {east : Bool} {f : LineFrame} (up : portUp s east = true) (good : frameGood f = true)
    (type : f.type = 0x14#8) (noAnswer : bitAt (fieldAt f.payload 0 1) 0 = false ∧ bitAt (fieldAt f.payload 0 1) 2 = false ∧
      bitAt (fieldAt f.payload 0 1) 3 = false ∧ bitAt (fieldAt f.payload 0 1) 4 = false) :
    checkReceive east f s = modPort east (checkNoted (fieldAt f.payload 0 1))
      (if bitAt (fieldAt f.payload 0 1) 1 && !(port s east).asking && !isRetired 2 (b2n east) 0 s then retireLink east s else s) := by
  obtain ⟨b0, b2, b3, b4⟩ := noAnswer
  unfold checkReceive
  rw [up, good]
  simp only [type, b0, b2, b3, b4, Bool.false_and, Bool.and_false, Bool.or_false, Bool.not_true, Bool.false_eq_true, if_false]
  rfl

/-- Settles O34: the marks of a port stand apart from one another and from the other port's; a retired link is marked and reported whatever it
is retired for; a frame of one hop leaves at once where the window has room; a CHECK frame that asks for nothing is noted at its port. -/
theorem linkRows : Obligations.LinkRows := by
  unfold Obligations.LinkRows
  refine ⟨fun east => ?_, fun east => ?_, fun east => ?_, fun east => ?_, fun east => ?_, fun east => ?_, fun east f turnaround => ?_,
    fun east f roundTrip => ?_, fun east f => ?_, fun east f => ?_, fun east f => ?_⟩
  · exact does_of_run (linkDrop east) (fun _ _ => rfl) fun b ⟨sound, up, linked⟩ => linkDrop_result east (regsWf_of_sound sound) up linked
  · exact does_of_run (linkUp east) (fun _ _ => rfl) fun b ⟨sound, up, dropped, kept⟩ => linkUp_result east (regsWf_of_sound sound) up dropped kept
  · refine does_of_run (linkClassify east) (fun _ _ => rfl) fun b ⟨past, first_, kept, errors, fresh⟩ => ?_
    rw [linkClassify_begin past first_ kept, if_pos errors, fresh]
    simp only [Bool.false_eq_true, if_false, port_modPort, modPort_regs]
    exact ⟨trivial, congrArg PortState.errors (by cases east <;> rfl), rfl⟩
  · refine does_of_run (linkClassify east) (fun _ _ => rfl) fun b ⟨sound, past, first_, kept, errors, pending⟩ => ?_
    rw [linkClassify_begin past first_ kept, if_pos errors, pending]
    exact retireLink_result east (s := markDone (1 + b2n east) b) (regsWf_of_sound sound)
  · refine does_of_run (linkClassify east) (fun _ _ => rfl) fun b ⟨sound, past, first_, kept, errors, pending, ok⟩ => ?_
    rw [linkClassify_begin past first_ kept, if_neg (by omega), pending, ok]
    simp only [Bool.not_true, Bool.false_eq_true, if_false, if_true]
    generalize hx : modPort east _ _ = x
    have wf : x.regsWf = true := by rw [← hx, regsWf_modPort]; exact regsWf_of_sound sound
    refine ⟨?_, ?_, flagged_raiseArg (by decide) ((fault_within .refl (by decide) : Within ⟨fun _ => false, [.log]⟩ x _).wf wf)⟩
    · rw [port_of_line (s := x) (by simp), ← hx, port_modPort]
    · rw [isRetired_of_lists 2 (b2n east) 0 (s := x) (by simp), ← hx, isRetired_of_lists 2 (b2n east) 0 (s := b) (by simp [modPort_ev, markDone])]
      exact kept
  · refine does_from_silence (delayProbe east) (fun _ _ => rfl) fun b silent ⟨room, owed, kept, fresh⟩ => ?_
    obtain ⟨open_, -, window, -⟩ := id room
    have up : portUp b east = true := (Bool.and_eq_true_iff.mp open_).1
    have ran : delayProbe east b = sendHop east 0x12 [] (modPort east (fun p => { p with probeAt := some (cycleNow b) }) b) := by
      unfold delayProbe
      rw [if_neg]
      simp [up, kept, window, fresh]
    have probeOut : (modPort east (fun p => { p with probeAt := some (cycleNow b) }) b).out = [] := by cases east <;> exact silent
    have room' : LeavesNow (modPort east (fun p => { p with probeAt := some (cycleNow b) }) b) east 0 := by cases east <;> exact room
    have owed' : NoCheckOwed (modPort east (fun p => { p with probeAt := some (cycleNow b) }) b) east := by cases east <;> exact owed
    have kept' : isRetired 2 (b2n east) 0 (modPort east (fun p => { p with probeAt := some (cycleNow b) }) b) = false :=
      (isRetired_of_lists _ _ _ (by rw [modPort_ev]; exact ⟨rfl, rfl⟩)).trans kept
    have probed : (port (modPort east (fun p => { p with probeAt := some (cycleNow b) }) b) east).probeAt = some (cycleNow b) := by
      rw [port_modPort]
    rw [ran]
    generalize modPort east (fun p => { p with probeAt := some (cycleNow b) }) b = u at probeOut room' owed' kept' probed
    obtain ⟨m, sent⟩ := sendHop_of_room (type := 0x12) (bs := []) (by decide) kept' owed' room'
    refine ⟨?_, sealFrame { beFrame u 0x12 0 [] with dir := !east }, ?_, rfl⟩
    · rw [sendHop_of_free (by decide) kept' owed' room']
      exact (leaveBe_port PortState.probeAt (fun _ _ => rfl) east east _ u).trans probed
    · rw [sent, sendPort_out, probeOut]
      rfl
  · refine does_from_silence (delayReqReceive east f turnaround) (fun _ _ => rfl) fun b silent ⟨room, owed, kept, good, type⟩ => ?_
    obtain ⟨open_, -⟩ := id room
    have up : portUp b east = true := (Bool.and_eq_true_iff.mp open_).1
    have ran : delayReqReceive east f turnaround b = sendHop east 0x13 (leBytes 4 turnaround) b := by
      unfold delayReqReceive
      rw [up, good]
      simp [type, kept]
    obtain ⟨m, sent⟩ := sendHop_of_room (type := 0x13) (bs := leBytes 4 turnaround) (by decide) kept owed (by simpa using room)
    refine ⟨sealFrame { beFrame b 0x13 0 (leBytes 4 turnaround) with dir := !east }, ?_, rfl, ?_⟩
    · rw [ran, sent, sendPort_out, silent]
      rfl
    · simp [sealFrame, beFrame, padTo, List.take_take]
  · refine does_of_run (delayRespReceive east f roundTrip) (fun _ _ => rfl) fun b ⟨sound, up, good, type, probed, first_⟩ => ?_
    have wf := regsWf_of_sound sound
    have ran : delayRespReceive east f roundTrip b =
        (modPort east (fun p => { p with delays := [roundTrip - fieldAt f.payload 0 4] }) b).put (delayField east)
          (satN 16 (roundDiv ((roundTrip - fieldAt f.payload 0 4 : Nat) : Int) 2).toNat) := by
      unfold delayRespReceive
      rw [up, good]
      simp [type, probed, first_]
    have fits : (delayField east).fits = true := by cases east <;> decide
    have width : (delayField east).width = 16 := by cases east <;> rfl
    rw [ran]
    generalize hx : modPort east (fun p => { p with delays := [roundTrip - fieldAt f.payload 0 4] }) b = x
    have wfX : x.regsWf = true := by rw [← hx, regsWf_modPort]; exact wf
    refine ⟨State.get_put_of_lt fits (by rw [width]; exact satN_lt 16 _) wfX, ?_, fun g other => ?_⟩
    · refine (congrArg PortState.delays (port_of_line (s := x) rfl east)).trans ?_
      rw [← hx, port_modPort]
    · refine (fieldsKept_put fits wfX _ g other).trans ?_
      rw [← hx, get_modPort]
  · refine does_from_silence (checkReceive east f) (fun _ _ => rfl) fun b silent ⟨up, good, type, bits⟩ => ?_
    rw [checkReceive_quiet up good type (by simp [bits, bitAt]), if_neg (by simp [bits, bitAt])]
    simp only [port_modPort, port_modPort_other, modPort_regs]
    refine ⟨?_, trivial, trivial, by cases east <;> exact silent⟩
    simp [checkNoted, bits, bitAt]
  · refine does_of_run (checkReceive east f) (fun _ _ => rfl) fun b ⟨up, good, type, bits⟩ => ?_
    rw [checkReceive_quiet up good type (by simp [bits, bitAt]), if_neg (by simp [bits, bitAt])]
    simp only [port_modPort, modPort_regs]
    simp [checkNoted, bits, bitAt]
  · refine does_of_run (checkReceive east f) (fun _ _ => rfl) fun b ⟨sound, up, good, type, bits, unasked, kept⟩ => ?_
    rw [checkReceive_quiet up good type (by simp [bits, bitAt]), if_pos (by simp [bits, bitAt, unasked, kept])]
    obtain ⟨list, end_, mark, told⟩ := retireLink_result east (regsWf_of_sound sound)
    refine ⟨(isRetired_of_lists _ _ _ (by rw [modPort_ev]; exact ⟨rfl, rfl⟩)).trans list, ?_, ?_, (flagged_modPort _ _ _ _).mpr told⟩
    · rw [portEnd, State.flag, get_modPort]
      exact end_
    · rw [State.flag, get_modPort]
      exact mark

end Sys2Proof.Machine
end

section
/-!
The rows of best-effort frames: the oldest waiting one leaves, a bad one is counted and passed on marked, a ring end turns one back, and the
holder relays a diagnostic datagram (R155, R176–R179, R670).
-/

namespace Sys2Proof.Machine

/-! ### The waiting frame -/

theorem sendBeNow_of_room {s : State} {type dest : Nat} {bs : Bytes} (room : LeavesNow s (bePort s dest) (((bs.length + 63) / 64) % 256)) :
    ∃ m, sendBeNow type dest bs s = sendPort (bePort s dest) (sealFrame { beFrame s type dest bs with dir := !bePort s dest })
      (modPort (bePort s dest) m s) := by
  obtain ⟨open_, -⟩ := id room
  unfold sendBeNow
  simp only [open_, if_true]
  exact leaveBe_of_room (by simpa [sealFrame, beFrame] using room)

/-- The state in which the oldest waiting frame leaves. -/
def waitingTaken (rest : List (Nat × Nat × Bytes)) (s : State) : State := { s with line := { s.line with beQueue := rest } }

theorem beFrameSend_eq {s : State} {type dest : Nat} {payload : Bytes} {rest : List (Nat × Nat × Bytes)} (up : s.die.yardUp = true)
    (window : inBestEffort s = true) (checked : doneNow s 4 = true) (queue : s.line.beQueue = (type, dest, payload) :: rest)
    (addr : dest < 0x100) (idle : portBusy s (bePort s dest) = []) :
    beFrameSend s = if type = 0x16 then packetLeft 0xFFF payload (sendBeNow type dest payload (waitingTaken rest s))
      else sendBeNow type dest payload (waitingTaken rest s) := by
  have way : waitingPort s dest = bePort s dest := if_neg (by omega)
  unfold beFrameSend
  simp only [up, window, checked, queue, way, idle, Bool.not_true, Bool.or_self, Bool.false_eq_true, if_false, if_true, gt_iff_lt,
    Nat.lt_irrefl, List.isEmpty_nil, Bool.and_false]
  rw [show sendWaiting type dest payload { s with line := { s.line with beQueue := rest } } = sendBeNow type dest payload (waitingTaken rest s) from
    if_neg (by omega)]

/-! ### Bad frames -/

/-- The count of link errors of a port. -/
def errField (east : Bool) : Fld := if east then F.LIN_ERR_E_LINK_ERR else F.LIN_ERR_W_LINK_ERR

theorem linkError_result (east : Bool) {s : State} (hs : s.regsWf = true) :
    (linkError east s).regsWf = true ∧ (port (linkError east s) east).errors = (port s east).errors + 1 ∧
      (linkError east s).get (errField east) = satN (errField east).width (s.get (errField east) + 1) := by
  have fits : (errField east).fits = true := by cases east <;> decide
  have wf : (s.bump (errField east) 1).regsWf = true := State.regsWf_put _ _ _ hs
  have count : (s.bump (errField east) 1).get (errField east) = satN (errField east).width (s.get (errField east) + 1) :=
    State.get_put_satN fits hs
  have errors : (port (s.bump (errField east) 1) east).errors = (port s east).errors := rfl
  have here : linkError east s = modPort east (fun p => { p with
      errors := p.errors + 1, goodChecks := if p.restoreAt.isSome then p.goodChecks else 0 }) (s.bump (errField east) 1) := rfl
  rw [here]
  generalize s.bump (errField east) 1 = u at wf count errors
  rw [regsWf_modPort, port_modPort, get_modPort]
  exact ⟨wf, by rw [errors], count⟩

/-- The count of link errors stands while a frame leaves. -/
theorem leaveBe_errors (side east : Bool) (f : LineFrame) (s : State) :
    (leaveBe side f s).get (errField east) = s.get (errField east) :=
  (leaveBe_within .refl).get (by cases east <;> decide)

/-- What a ring end does with a frame, where it does anything: it leaves on one of the ports. -/
theorem beTurn_either {P : State → Prop} {east : Bool} {f : LineFrame} {s : State} (idle : P s) (left_ : ∀ side g, P (leaveBe side g s)) :
    P (beTurn east f s) := by
  have either : ∀ (c : Prop) [Decidable c] (t u : State), P t → P u → P (if c then t else u) := fun c _ t u ht hu => by
    split
    · exact ht
    · exact hu
  exact either _ _ _ (either _ _ _ (left_ _ _) idle) (either _ _ _ idle (either _ _ _ idle (left_ _ _)))

/-- A frame of another module that has not been turned leaves a ring end on the port on which it came. -/
theorem beTurn_of_end {s : State} {east : Bool} {f : LineFrame} (fresh : f.turned = false) (foreign : beOwn s f = false)
    (end_ : portOpen s (!east) = false) (other : f.dest.toNat ≠ joinNum s)
    (near : s.get F.LIN_CFG_N_LINE = 0 ∨ f.hops.toNat < 2 * s.get F.LIN_CFG_N_LINE) :
    beTurn east f s = leaveBe east (passedOn f { f with hops := f.hops + 1#8, turned := true }) s := by
  have within_ : (decide (0 < s.get F.LIN_CFG_N_LINE) && decide (2 * s.get F.LIN_CFG_N_LINE ≤ f.hops.toNat)) = false := by
    obtain none_ | few := near
    · simp [none_]
    · simp [few]
  have mine : (s.role.joined && f.dest.toNat == joinNum s) = false := by simp [other]
  unfold beTurn
  simp only [foreign, end_, mine, within_, fresh, Bool.or_self, Bool.false_eq_true, if_false]

theorem noteHeard_line (n : Nat) (s : State) : ∃ heard, noteHeard n s = { s with line := { s.line with heard := heard } } := by
  unfold noteHeard
  split
  · exact ⟨_, rfl⟩
  · split <;> exact ⟨_, rfl⟩

/-- What the count of a bad frame changes. -/
def badFoot : Footprint := ⟨fun a => a == Reg.LIN_ERR_E || a == Reg.LIN_ERR_W, [.line]⟩

theorem countBad_within (east : Bool) (f : LineFrame) (s : State) : Within badFoot s (countBad east f s) := by
  cases east <;> exact ite_within (bump_within .refl (by decide)) (modPort_within (bump_within .refl (by decide)) (by decide))

theorem countBad_busy (east side : Bool) (f : LineFrame) (s : State) : portBusy (countBad east f s) side = portBusy s side := by
  unfold countBad
  split
  · rfl
  · cases east <;> cases side <;> rfl

section
variable {w : Footprint} {b s : State}

theorem beOwn_of_within (h : Within w b s) (role : .role ∉ w.parts)
    (regs : w.touches Reg.IDR_ROLE = false ∧ w.touches Reg.IDR_UID_LO = false ∧ w.touches Reg.IDR_UID_HI = false) (f : LineFrame) :
    beOwn s f = beOwn b f := by
  obtain ⟨number, lo, hi⟩ := regs
  have role_ : s.role = b.role := h.part .role role
  have num : joinNum s = joinNum b := h.get number
  have uid : ownUid s = ownUid b := by simp only [ownUid, State.get64, h.reg _ lo, h.reg _ hi]
  simp only [beOwn, srcIsOwn, isTerminus, isRelief, role_, num, uid]

theorem portOpen_of_within (h : Within w b s) (die : .die ∉ w.parts)
    (regs : w.touches Reg.LIN_STATUS = false ∧ w.touches Reg.CLK_STATUS = false) (east : Bool) : portOpen s east = portOpen b east := by
  obtain ⟨status, clock⟩ := regs
  have die_ : s.die = b.die := h.part .die die
  obtain ⟨-, -, -, -, -, -, upAt, endAt, -⟩ := portFields east
  have up : s.flag (upField east) = b.flag (upField east) := h.flag (by rw [upAt]; exact status)
  have end_ : s.flag (endField east) = b.flag (endField east) := h.flag (by rw [endAt]; exact status)
  have lost : s.flag F.CLK_STATUS_BOTH_LOST = b.flag F.CLK_STATUS_BOTH_LOST := h.flag clock
  simp only [portOpen, portUp, portEnd, die_, up, end_, lost]

theorem window_of_within (h : Within w b s) (time : .now ∉ w.parts ∧ .devOff ∉ w.parts) (cfg : w.touches Reg.LIN_CFG = false) :
    inBestEffort s = inBestEffort b ∧ inCycle s = inCycle b := by
  have now_ : s.now = b.now := h.part .now time.1
  have devOff : s.devOff = b.devOff := h.part .devOff time.2
  have end_ : s.get F.LIN_CFG_RES_END = b.get F.LIN_CFG_RES_END := h.get cfg
  have place : inCycle s = inCycle b := by simp only [inCycle, deviceTime, now_, devOff]
  have limit : resEnd s = resEnd b := by simp only [resEnd, end_]
  exact ⟨decide_eq_decide.mpr (by rw [place, limit]), place⟩

end

/-- Settles O35: a frame that leaves takes nothing but its port's time; the count of a bad one, and the note of a good one, leave what decides
where a ring end sends it. -/
theorem bestEffortRows : Obligations.BestEffortRows := by
  unfold Obligations.BestEffortRows
  refine ⟨fun type dest payload rest => ?_, fun east f => ?_, fun east f => ?_, fun east f => ?_, fun east f num n session udp ip => ?_⟩
  · refine does_from_silence beFrameSend (fun _ _ => rfl) fun b silent ⟨up, window, checked, queue, addr, short, room⟩ => ?_
    obtain ⟨-, idle, -, -⟩ := id room
    have len : ((payload.length + 63) / 64) % 256 = (payload.length + 63) / 64 := Nat.mod_eq_of_lt (by omega)
    obtain ⟨m, sent⟩ := sendBeNow_of_room (s := waitingTaken rest b) (type := type) (dest := dest) (bs := payload) (by rw [len]; exact room)
    rw [beFrameSend_eq up window checked queue addr idle]
    have line : (if type = 0x16 then packetLeft 0xFFF payload (sendBeNow type dest payload (waitingTaken rest b))
        else sendBeNow type dest payload (waitingTaken rest b)).line = (sendBeNow type dest payload (waitingTaken rest b)).line ∧
        (if type = 0x16 then packetLeft 0xFFF payload (sendBeNow type dest payload (waitingTaken rest b))
        else sendBeNow type dest payload (waitingTaken rest b)).out = (sendBeNow type dest payload (waitingTaken rest b)).out := by
      split
      · exact ⟨(packetLeft_line _ _ _).1, (packetLeft_line _ _ _).2.1⟩
      · exact ⟨rfl, rfl⟩
    rw [line.1, line.2, sent, sendPort_out]
    refine ⟨sendPort_line LinePart.beQueue (fun _ _ _ => rfl) _ _ _ _, _, congrArg (· ++ _) silent, rfl, rfl, ?_⟩
    have whole : payload.length ≤ 64 * ((payload.length + 63) / 64) := by omega
    simp [sealFrame, beFrame, padTo, List.take_take, Nat.min_eq_left whole]
  · refine does_of_run (bestEffortReceive east f) (fun _ _ => rfl) fun b ⟨sound, plain, far, open_, bad, unmarked⟩ => ?_
    obtain ⟨wf, errors, count⟩ := linkError_result east (regsWf_of_sound sound)
    have counted : countBad east f b = linkError east b := by
      unfold countBad
      rw [unmarked]
      rfl
    have ran : bestEffortReceive east f b = if headGood f then beTurn east f (linkError east b) else linkError east b := by
      unfold bestEffortReceive
      simp only [plain, far, open_, bad, counted, Bool.not_true, Bool.or_self, Bool.not_false, Bool.false_eq_true, if_false, if_true]
    rw [ran]
    split
    · exact beTurn_either (P := fun u => (port u east).errors = (port b east).errors + 1 ∧
        u.get (errField east) = satN (errField east).width (b.get (errField east) + 1)) ⟨errors, count⟩
        fun side g => ⟨(leaveBe_port PortState.errors (fun _ _ => rfl) side east g _).trans errors, (leaveBe_errors side east g _).trans count⟩
    · exact ⟨errors, count⟩
  · refine does_from_silence (bestEffortReceive east f) (fun _ _ => rfl)
      fun b silent ⟨plain, far, good, fresh, foreign, end_, other, near, notPacket, room⟩ => ?_
    obtain ⟨open_, -⟩ := id room
    obtain ⟨heard, noted⟩ := noteHeard_line f.src.toNat b
    have len : (passedOn f { f with hops := f.hops + 1#8, turned := true }).len = f.len := by simp [passedOn, good, sealFrame]
    have turned : ∀ l, ∃ m, beTurn east f { b with line := { b.line with heard := l } } =
        sendPort east (passedOn f { f with hops := f.hops + 1#8, turned := true }) (modPort east m { b with line := { b.line with heard := l } }) :=
      fun l => by
        obtain ⟨m, sent⟩ := leaveBe_of_room (f := passedOn f { f with hops := f.hops + 1#8, turned := true })
          (s := { b with line := { b.line with heard := l } }) (east := east) (by rw [len]; exact room)
        exact ⟨m, (beTurn_of_end (s := { b with line := { b.line with heard := l } }) fresh foreign end_ other near).trans sent⟩
    have start : ∃ l, (if beForMe b east f then noteHeard f.src.toNat b else b) = { b with line := { b.line with heard := l } } := by
      split
      · exact ⟨heard, noted⟩
      · exact ⟨b.line.heard, rfl⟩
    obtain ⟨l, start⟩ := start
    obtain ⟨m, here⟩ := turned l
    have noPacket : (!beForMe b east f || f.type.toNat != 0x16) = true := by
      by_contra packet
      simp only [Bool.or_eq_true, Bool.not_eq_true', bne_iff_ne, not_or, Bool.not_eq_false, ne_eq, not_not] at packet
      obtain ⟨mine, kind⟩ := packet
      simp only [beForMe, Bool.and_eq_true, Bool.or_eq_true, beq_iff_eq] at mine
      obtain ⟨-, all | own⟩ := mine
      · exact notPacket all (BitVec.eq_of_toNat_eq kind)
      · exact other own.2
    have ran : bestEffortReceive east f b = beTurn east f (if beForMe b east f then noteHeard f.src.toNat b else b) := by
      unfold bestEffortReceive
      simp only [plain, far, open_, good, noPacket, Bool.not_true, Bool.or_self, Bool.false_eq_true, if_false, if_true]
    rw [ran, start, here, sendPort_out]
    exact ⟨_, congrArg (· ++ _) silent, by simp [passedOn, good, sealFrame], by simp [passedOn, good, sealFrame], by simp [passedOn, good, sealFrame]⟩
  · refine does_from_silence (bestEffortReceive east f) (fun _ _ => rfl)
      fun b silent ⟨plain, far, head, bad, fresh, foreign, end_, other, near, room⟩ => ?_
    obtain ⟨open_, idle, window, fits⟩ := room
    have ran : bestEffortReceive east f b = beTurn east f (countBad east f b) := by
      unfold bestEffortReceive
      simp only [plain, far, open_, bad, head, Bool.not_true, Bool.or_self, Bool.not_false, Bool.false_eq_true, if_false, if_true]
    have counted := countBad_within east f b
    have silentU : (countBad east f b).out = [] := (show (countBad east f b).out = b.out from counted.part .out (by decide)).trans silent
    obtain ⟨window_, place⟩ := window_of_within counted (by decide) (by decide)
    have roomU : LeavesNow (countBad east f b) east f.len.toNat :=
      ⟨(portOpen_of_within counted (by decide) (by decide) east).trans open_, (countBad_busy east east f b).trans idle, window_.trans window,
        by rw [place]; exact fits⟩
    have foreignU : beOwn (countBad east f b) f = false := (beOwn_of_within counted (by decide) (by decide) f).trans foreign
    have endU : portOpen (countBad east f b) (!east) = false := (portOpen_of_within counted (by decide) (by decide) _).trans end_
    have numU : joinNum (countBad east f b) = joinNum b := counted.get (by decide)
    have lenU : (countBad east f b).get F.LIN_CFG_N_LINE = b.get F.LIN_CFG_N_LINE := counted.get (by decide)
    rw [ran]
    generalize countBad east f b = u at silentU roomU foreignU endU numU lenU
    obtain ⟨m, sent⟩ := leaveBe_of_room (f := passedOn f { f with hops := f.hops + 1#8, turned := true }) (s := u) (east := east)
      (by simpa [passedOn, bad, sealFrame] using roomU)
    rw [beTurn_of_end fresh foreignU endU (by rw [numU]; exact other) (by rw [lenU]; exact near), sent, sendPort_out, silentU]
    refine ⟨_, rfl, ?_, ?_, ?_⟩
    all_goals simp only [passedOn, bad, sealFrame, Bool.false_eq_true, if_false]
    rfl
  · refine does_from_silence (diagReceive east f) (fun _ _ => rfl) fun b silent ⟨holder, type, mine, relay, addr⟩ => ?_
    have ran : diagReceive east f b = emit (.datagram ip udp (f.payload.take (24 + fieldAt f.payload 20 2))) b := by
      unfold diagReceive
      rw [holder, mine]
      simp [type, relay, addr]
    rw [ran]
    exact emit_of_silent silent _

end Sys2Proof.Machine
end

section
/-!
The rows that change the terminus role: the decision of the relief terminus, the takeover, and the handover (R54, R211–R213, R765–R767).
-/

namespace Sys2Proof.Machine

/-! ### Setting functions at a takeover -/

/-- The registers of the setting engine and those behind it, and its part. -/
def settingWide : Footprint := ⟨fun a => decide (0xB0000 ≤ a), [.fn]⟩

section
variable {b s : State}

theorem modFn_within (h : Within settingWide b s) {n : Nat} {f : FnPart → FnPart} : Within settingWide b (modFn n f s) := fn_within h (by decide)

theorem copyFn_within (h : Within settingWide b s) {n : Nat} : Within settingWide b (copyFn n s) := fn_within h (by decide)

theorem putFnState_within (h : Within settingWide b s) {n lo width v : Nat} : Within settingWide b (s.put ⟨Reg.SET_FN_STATE n, lo, width⟩ v) :=
  put_within h (decide_eq_true (by simp only [Reg.SET_FN_STATE]; omega))

theorem setFnTargetFrom_within (h : Within settingWide b s) {c n : Nat} {v : Int} : Within settingWide b (setFnTargetFrom c n v s) :=
  copyFn_within (puts_within (modFn_within h) (decide_eq_true (by simp only [F.SET_FN_TARGET_TARGET, Reg.SET_FN_TARGET]; omega)))

theorem endStep_within (h : Within settingWide b s) {o : StepOutcome} {p : PendingStep} : Within settingWide b (endStep o p s) :=
  foldOver_within (fn_within h (by decide)) fun _ _ _ hu => putFnState_within (putFnState_within hu)

theorem revertStep_within (h : Within settingWide b s) {first : Nat} {o : StepOutcome} {p : PendingStep} :
    Within settingWide b (revertStep first o p s) := by
  have back : Within settingWide b (foldOver (backOne first) s p.changed) := foldOver_within h fun _ _ _ hu =>
    ite_within (putFnState_within (putFnState_within (setFnTargetFrom_within hu))) hu
  have ended : ∀ hold, Within settingWide b
      (endStep o p { foldOver (backOne first) s p.changed with fn := { (foldOver (backOne first) s p.changed).fn with holdUntil := hold } }) :=
    fun _ => endStep_within (fn_within back (by decide))
  cases o with
  | kept => exact ended _
  | reverted => exact raise0_within (bump_within (ended _) (by decide))
  | inconclusive => exact raise0_within (bump_within (ended _) (by decide))
  | abandoned => exact raise0_within (bump_within (ended _) (by decide))

theorem abandonStep_within (h : Within settingWide b s) {first : Nat} : Within settingWide b (abandonStep first s) := by
  unfold abandonStep
  split
  · exact h
  · exact revertStep_within h

theorem takeoverSetting_within (s : State) : Within settingWide s (takeoverSetting s) :=
  foldOver_within (abandonStep_within (fn_within .refl (by decide))) fun _ _ _ hu =>
    copyFn_within (ite_within (putFnState_within (modFn_within hu)) hu)

end

/-! ### Taking the role -/

/-- What the time of a holder changes at a takeover. -/
def takeoverTimeFoot : Footprint := ⟨fun a => a == Reg.GNS_STATUS, [.steer, .nav]⟩

theorem steer_within {b s : State} (h : Within takeoverTimeFoot b s) {x : Option Steer} : Within takeoverTimeFoot b { s with steer := x } :=
  h.step rfl fun p hp => by cases p <;> simp_all [takeoverTimeFoot, Part.Same]

theorem beginSlew_within {b s : State} (h : Within takeoverTimeFoot b s) {off : Int} : Within takeoverTimeFoot b (beginSlew off s) :=
  put_within (steer_within h) (by decide)

theorem takeoverTime_within (s : State) : Within takeoverTimeFoot s (takeoverTime s) := by
  have still : Within takeoverTimeFoot s { s with steer := none } := steer_within .refl
  have aligned : Within takeoverTimeFoot s (if ({ s with steer := none } : State).nav.lineAligned then
      State.put { s with steer := none } F.GNS_STATUS_TIME_VALID 1 else { s with steer := none }) := ite_within (put_within still (by decide)) still
  unfold takeoverTime
  dsimp only
  exact ite_within (put_within aligned (by decide))
    (ite_within (beginSlew_within (put_within (nav_within aligned (by decide)) (by decide))) (put_within aligned (by decide)))

/-- The marks of the holder's role in the registers. -/
def roleMarked (s : State) : State :=
  let s := (s.put F.IDR_ROLE_TAKEN_OVER 1).bump F.IDR_ROLE_TAKEOVERS 1
  ((s.put F.LIN_POS_MASTER_NUM (joinNum s)).put F.LIN_STATUS_MIRROR_OK 0).put F.LIN_STATUS_LINE_LOST 0

/-- The lists that a new holder begins with. -/
def roleLists (former : Nat) (byHandover : Bool) (s : State) : State :=
  { s with
    sets := { s.sets with throw := none, okFrom := [] },
    line := { s.line with
      run := 0, takeoverDue := false, takeoverFlag := true, mirrorThrows := [], mirrorAt := none,
      members := (withFormer former s).map (fun m =>
        if m.num = joinNum s then { m with relief := false }
        else if m.num = former ∧ byHandover = true then { m with relief := true, absent := false, silent := 0 }
        else { m with relief := m.relief && m.num != former, silent := 0 }) },
    fus := { s.fus with fed := [], frame := none },
    nav := { s.nav with blendDue := engaged s },
    upd := { s.upd with handToken := none, handover := none } }

theorem takeRole_eq (byHandover : Bool) (s : State) : takeRole byHandover s =
    takeoverSetting (roleLists (s.get F.LIN_POS_MASTER_NUM) byHandover
      (tellTakeover (takeoverRecords (roleMarked (takeoverTime (setRole .terminus { s with role := { s.role with firstCycleStart := some 0 } })))))) := by
  unfold takeRole
  dsimp only
  generalize takeoverTime (setRole .terminus { s with role := { s.role with firstCycleStart := some 0 } }) = u
  generalize hm : roleMarked u = v
  unfold roleMarked at hm
  dsimp only at hm
  rw [hm]
  generalize tellTakeover (takeoverRecords v) = x
  rfl

theorem roleMarked_result {s : State} (hs : s.regsWf = true) : (roleMarked s).regsWf = true ∧
    (roleMarked s).flag F.IDR_ROLE_TAKEN_OVER = true ∧ (roleMarked s).get F.IDR_ROLE_CUR_ROLE = s.get F.IDR_ROLE_CUR_ROLE ∧
    (roleMarked s).get F.LIN_POS_MASTER_NUM = joinNum s := by
  have wf1 : (s.put F.IDR_ROLE_TAKEN_OVER 1).regsWf = true := State.regsWf_put _ _ _ hs
  have wf2 : ((s.put F.IDR_ROLE_TAKEN_OVER 1).bump F.IDR_ROLE_TAKEOVERS 1).regsWf = true := State.regsWf_put _ _ _ wf1
  have fields : ∀ g : Fld, F.IDR_ROLE_TAKEN_OVER.apart g = true → F.IDR_ROLE_TAKEOVERS.apart g = true →
      ((s.put F.IDR_ROLE_TAKEN_OVER 1).bump F.IDR_ROLE_TAKEOVERS 1).get g = s.get g := fun g h k =>
    (State.get_put_of_apart k wf1).trans (State.get_put_of_apart h hs)
  have taken : ((s.put F.IDR_ROLE_TAKEN_OVER 1).bump F.IDR_ROLE_TAKEOVERS 1).flag F.IDR_ROLE_TAKEN_OVER = true :=
    (flag_of_get (State.get_put_of_apart (by decide) wf1)).trans (State.flag_put_one (by decide) (by decide) hs)
  have num := fields F.IDR_ROLE_JOIN_NUM (by decide) (by decide)
  have code := fields F.IDR_ROLE_CUR_ROLE (by decide) (by decide)
  unfold roleMarked
  dsimp only
  generalize (s.put F.IDR_ROLE_TAKEN_OVER 1).bump F.IDR_ROLE_TAKEOVERS 1 = u at wf2 taken num code
  have marks : ∀ n, Within ⟨fun a => a == Reg.LIN_POS || a == Reg.LIN_STATUS, []⟩ u
      (((u.put F.LIN_POS_MASTER_NUM n).put F.LIN_STATUS_MIRROR_OK 0).put F.LIN_STATUS_LINE_LOST 0) := fun n =>
    put_within (put_within (put_within .refl (by decide)) (by decide)) (by decide)
  have small : joinNum u < 2 ^ F.LIN_POS_MASTER_NUM.width := State.get_lt u F.IDR_ROLE_JOIN_NUM
  have wf3 : (u.put F.LIN_POS_MASTER_NUM (joinNum u)).regsWf = true := State.regsWf_put _ _ _ wf2
  have master : (((u.put F.LIN_POS_MASTER_NUM (joinNum u)).put F.LIN_STATUS_MIRROR_OK 0).put F.LIN_STATUS_LINE_LOST 0).get F.LIN_POS_MASTER_NUM =
      joinNum u :=
    (State.get_put_of_apart (by decide) (State.regsWf_put _ _ _ wf3)).trans ((State.get_put_of_apart (by decide) wf3).trans
      (State.get_put_of_lt (by decide) small wf2))
  exact ⟨(marks _).wf wf2, ((marks _).flag (by decide)).trans taken, ((marks _).get (by decide)).trans code, master.trans num⟩

/-- What the report of a takeover changes beside events. -/
def takeoverTellFoot : Footprint := ⟨fun _ => false, [.line, .packets]⟩

theorem takeoverRecords_within (s : State) : Within takeoverTellFoot s (takeoverRecords s) :=
  Within.refl.step rfl fun p hp => by cases p <;> simp_all [takeoverTellFoot, Part.Same, takeoverRecords]

theorem tellTakeover_within {b s : State} (h : Within takeoverTellFoot b s) : Within takeoverTellFoot b (tellTakeover s) :=
  pk_within (raise0_within h) (by decide)

theorem tellTakeover_flagged {s : State} (hs : s.regsWf = true) : Flagged Src.LIN_ROLE_TAKEOVER (tellTakeover s) :=
  (flagged_of_regs rfl).mpr (flagged_raiseArg (by decide) hs)

/-- The role, its marks and its report, and what stands, when a module takes the role. -/
structure RoleTaken (b u : State) : Prop where
  wf : u.regsWf = true
  role : u.role = { b.role with role := .terminus, firstCycleStart := some 0 }
  due_ : u.line.takeoverDue = false
  flag_ : u.line.takeoverFlag = true
  taken : u.flag F.IDR_ROLE_TAKEN_OVER = true
  code : u.get F.IDR_ROLE_CUR_ROLE = 2
  master : u.get F.LIN_POS_MASTER_NUM = joinNum b
  told : Flagged Src.LIN_ROLE_TAKEOVER u
  token : u.upd.handToken = none
  over_ : cycleOver u = cycleOver b

theorem cycleOver_of_within {w : Footprint} {b s : State} (h : Within w b s) (parts : .now ∉ w.parts ∧ .devOff ∉ w.parts ∧ .die ∉ w.parts)
    (reg : w.touches Reg.LIN_CYCLE = false) : cycleOver s = cycleOver b := by
  have now_ : s.now = b.now := h.part .now parts.1
  have devOff : s.devOff = b.devOff := h.part .devOff parts.2.1
  have die : s.die = b.die := h.part .die parts.2.2
  have number : s.get F.LIN_CYCLE_CYCLE = b.get F.LIN_CYCLE_CYCLE := h.get reg
  simp only [cycleOver, cycle32, cycleNow, deviceTime, now_, devOff, die, number]

theorem takeRole_taken (byHandover : Bool) {b : State} (hs : b.regsWf = true) : RoleTaken b (takeRole byHandover b) := by
  obtain ⟨wf1, role1, code1, fields1⟩ := setRole_result .terminus (s := { b with role := { b.role with firstCycleStart := some 0 } }) hs
  have over1 : cycleOver (setRole .terminus { b with role := { b.role with firstCycleStart := some 0 } }) = cycleOver b := by
    have number := fields1 F.LIN_CYCLE_CYCLE (by decide)
    simp only [cycleOver, number]
    rfl
  have num1 := fields1 F.IDR_ROLE_JOIN_NUM (by decide)
  rw [takeRole_eq]
  generalize setRole .terminus { b with role := { b.role with firstCycleStart := some 0 } } = u1 at wf1 role1 code1 over1 num1
  have timed := takeoverTime_within u1
  have wf2 := timed.wf wf1
  have role2 : (takeoverTime u1).role = u1.role := timed.part .role (by decide)
  have code2 := timed.get (f := F.IDR_ROLE_CUR_ROLE) (by decide)
  have num2 := timed.get (f := F.IDR_ROLE_JOIN_NUM) (by decide)
  have over2 := cycleOver_of_within timed (by decide) (by decide)
  generalize takeoverTime u1 = u2 at wf2 role2 code2 num2 over2
  obtain ⟨wf3, taken3, code3, master3⟩ := roleMarked_result wf2
  have marks : Within ⟨fun a => a == Reg.IDR_ROLE || a == Reg.LIN_POS || a == Reg.LIN_STATUS, []⟩ u2 (roleMarked u2) :=
    put_within (put_within (put_within (bump_within (put_within .refl (by decide)) (by decide)) (by decide)) (by decide)) (by decide)
  have role3 : (roleMarked u2).role = u2.role := marks.part .role (by decide)
  have over3 := cycleOver_of_within marks (by decide) (by decide)
  generalize roleMarked u2 = u3 at wf3 taken3 code3 master3 role3 over3
  have recorded := takeoverRecords_within u3
  have wf4 := recorded.wf wf3
  have told5 := tellTakeover_flagged wf4
  have all : Within takeoverTellFoot u3 (tellTakeover (takeoverRecords u3)) := tellTakeover_within recorded
  have wf5 := all.wf wf3
  have role5 : (tellTakeover (takeoverRecords u3)).role = u3.role := all.part .role (by decide)
  have taken5 := all.flag (f := F.IDR_ROLE_TAKEN_OVER) (by decide)
  have code5 := all.get (f := F.IDR_ROLE_CUR_ROLE) (by decide)
  have master5 := all.get (f := F.LIN_POS_MASTER_NUM) (by decide)
  have over5 := cycleOver_of_within all (by decide) (by decide)
  generalize tellTakeover (takeoverRecords u3) = u5 at told5 wf5 role5 taken5 code5 master5 over5
  have set_ := takeoverSetting_within (roleLists (b.get F.LIN_POS_MASTER_NUM) byHandover u5)
  have line6 : (takeoverSetting (roleLists (b.get F.LIN_POS_MASTER_NUM) byHandover u5)).line =
      (roleLists (b.get F.LIN_POS_MASTER_NUM) byHandover u5).line := set_.part .line (by decide)
  have role6 : (takeoverSetting (roleLists (b.get F.LIN_POS_MASTER_NUM) byHandover u5)).role = u5.role := set_.part .role (by decide)
  have upd6 : (takeoverSetting (roleLists (b.get F.LIN_POS_MASTER_NUM) byHandover u5)).upd =
      (roleLists (b.get F.LIN_POS_MASTER_NUM) byHandover u5).upd := set_.part .upd (by decide)
  exact {
    wf := set_.wf wf5
    role := by rw [role6, role5, role3, role2, role1]
    due_ := by rw [line6]; rfl
    flag_ := by rw [line6]; rfl
    taken := (set_.flag (by decide)).trans (taken5.trans taken3)
    code := (set_.get (by decide)).trans (code5.trans (code3.trans (code2.trans code1)))
    master := (set_.get (by decide)).trans (master5.trans (master3.trans (num2.trans num1)))
    told := set_.flags wf5 _ (by decide) told5
    token := by rw [upd6]; rfl
    over_ := (cycleOver_of_within set_ (by decide) (by decide)).trans (over5.trans (over3.trans (over2.trans over1))) }

/-! ### CYCLE_START of a new holder -/

/-- CYCLE_START that is sent leaves the registers, the updates and the role itself. -/
theorem sendCycleStart_keeps (s : State) : (sendCycleStart s).regs = s.regs ∧ (sendCycleStart s).upd = s.upd ∧
    (sendCycleStart s).role.role = s.role.role := by
  have copies : ∀ (east : Bool) (f : LineFrame) (u : State), (sendCopy east f u).regs = u.regs ∧ (sendCopy east f u).upd = u.upd ∧
      (sendCopy east f u).role = u.role := fun east f u => by
    unfold sendCopy
    split <;> exact ⟨rfl, rfl, rfl⟩
  have token : ∀ c, (ownToken c s).regs = s.regs ∧ (ownToken c s).upd = s.upd ∧ (ownToken c s).role = s.role := fun c => by
    unfold ownToken passToken
    split
    · exact ⟨rfl, rfl, rfl⟩
    · split
      · dsimp only
        split <;> exact ⟨rfl, rfl, rfl⟩
      · exact ⟨rfl, rfl, rfl⟩
  unfold sendCycleStart
  split
  · exact ⟨rfl, rfl, rfl⟩
  · dsimp only [markDone, sendBoth]
    obtain ⟨regs, upd, role⟩ := token (cycle32 s)
    generalize ownToken (cycle32 s) s = u at regs upd role
    have both : ∀ f g, (sendCopy false g (sendCopy true f u)).regs = s.regs ∧ (sendCopy false g (sendCopy true f u)).upd = s.upd ∧
        (sendCopy false g (sendCopy true f u)).role = s.role := fun f g => by
      obtain ⟨r1, u1, o1⟩ := copies true f u
      obtain ⟨r2, u2, o2⟩ := copies false g (sendCopy true f u)
      exact ⟨r2.trans (r1.trans regs), u2.trans (u1.trans upd), o2.trans (o1.trans role)⟩
    obtain ⟨r, p, o⟩ := both _ _
    exact ⟨r, p, congrArg RolePart.role o⟩

/-! ### Giving up the role -/

/-- The marks of a holder that becomes the relief terminus, its time given up. -/
def reliefMarked (s : State) : State :=
  dropDiscipline ((((setRole .relief s).put F.IDR_ROLE_TAKEN_OVER 1).bump F.IDR_ROLE_TAKEOVERS 1).put F.GNS_STATUS_TSTATE tsOff)

/-- The lists that a relief terminus begins with. -/
def reliefLists (s : State) : State :=
  { s with
    pk := { s.pk with waiting := s.pk.waiting.filter (fun w => decide (13 ≤ w.req.session.toNat)) },
    sets := { s.sets with throw := none, okFrom := [] },
    line := { s.line with
      run := 0, mirrorAt := none, lastCycleStart := none, joinAnswered := false, everJoined := true, startCycle := some (cycleNow s % 4294967296) },
    fus := { s.fus with frame := none },
    upd := { s.upd with handover := none, handWanted := none, asked := [] } }

theorem becomeRelief_eq (s : State) : becomeRelief s = dropUndelivered (reliefLists (reliefMarked s)) := rfl

theorem becomeRelief_result {s : State} (hs : s.regsWf = true) :
    (becomeRelief s).role.role = .relief ∧ (becomeRelief s).upd.handover = none ∧ (becomeRelief s).get F.IDR_ROLE_CUR_ROLE = 1 ∧
      (becomeRelief s).sets.throw = none := by
  obtain ⟨wf1, role1, code1, -⟩ := setRole_result .relief hs
  have marked : (reliefMarked s).role = (setRole .relief s).role ∧ (reliefMarked s).get F.IDR_ROLE_CUR_ROLE = 1 := by
    unfold reliefMarked
    generalize setRole .relief s = u at wf1 code1
    have wf2 : (u.put F.IDR_ROLE_TAKEN_OVER 1).regsWf = true := State.regsWf_put _ _ _ wf1
    have code3 : ((u.put F.IDR_ROLE_TAKEN_OVER 1).bump F.IDR_ROLE_TAKEOVERS 1).get F.IDR_ROLE_CUR_ROLE = 1 :=
      (State.get_put_of_apart (by decide) wf2).trans ((State.get_put_of_apart (by decide) wf1).trans code1)
    have rest : Within ⟨fun a => a == Reg.GNS_STATUS, [.nav]⟩ ((u.put F.IDR_ROLE_TAKEN_OVER 1).bump F.IDR_ROLE_TAKEOVERS 1)
        (dropDiscipline (((u.put F.IDR_ROLE_TAKEN_OVER 1).bump F.IDR_ROLE_TAKEOVERS 1).put F.GNS_STATUS_TSTATE tsOff)) :=
      dropDiscipline_within (put_within .refl (by decide)) (by decide) (by decide)
    exact ⟨rest.part .role (by decide), (rest.get (by decide)).trans code3⟩
  rw [becomeRelief_eq]
  generalize reliefMarked s = v at marked
  have undelivered : Within lossFoot (reliefLists v) (dropUndelivered (reliefLists v)) :=
    dropUndelivered_within .refl (by decide) fun _ hn => loopStatusPlace_status hn
  have role2 : (dropUndelivered (reliefLists v)).role = v.role := undelivered.part .role (by decide)
  have upd2 : (dropUndelivered (reliefLists v)).upd = (reliefLists v).upd := undelivered.part .upd (by decide)
  have sets2 : (dropUndelivered (reliefLists v)).sets =
      { (reliefLists v).sets with orders := (dropUndelivered (reliefLists v)).sets.orders } := undelivered.part .sets (by decide)
  refine ⟨?_, ?_, (undelivered.get (by decide)).trans marked.2, ?_⟩
  · rw [role2, marked.1, role1]
  · rw [upd2]
    rfl
  · rw [sets2]
    rfl

/-- A takeover with the CYCLE_START that may follow it: what is shown and reported stands. -/
theorem takeRole_started (byHandover : Bool) {b : State} (hs : b.regsWf = true) :
    let u := if cycleOver (takeRole byHandover b) then takeRole byHandover b else sendCycleStart (takeRole byHandover b)
    u.role.role = .terminus ∧ u.upd.handToken = none ∧ Flagged Src.LIN_ROLE_TAKEOVER u := by
  have taken := takeRole_taken byHandover hs
  have role : (takeRole byHandover b).role.role = .terminus := by rw [taken.role]
  dsimp only
  split
  · exact ⟨role, taken.token, taken.told⟩
  · obtain ⟨regs, upd, role'⟩ := sendCycleStart_keeps (takeRole byHandover b)
    exact ⟨role'.trans role, by rw [upd]; exact taken.token, (flagged_of_regs regs).mpr taken.told⟩

/-- Settles O36: the third cycle without CYCLE_START and with a mirror makes the takeover due; a module that takes the role shows and reports
it, whatever the setting engine gives up; a holder that hands over begins as a relief terminus. -/
theorem roleChangeRows : Obligations.RoleChangeRows := by
  unfold Obligations.RoleChangeRows
  refine ⟨fun c => ?_, ?_, fun h uid => ?_, fun h => ?_, fun n => ?_⟩
  · refine does_of_run takeoverDecision (fun _ _ => rfl) fun b ⟨relief, past, first_, missed_, many, third, mirror, recent⟩ => ?_
    have hops : (markDone 3 b).line.csHops.isSome = false := by
      rw [show (markDone 3 b).line.csHops = b.line.csHops from rfl, missed_]
      rfl
    have run : (if (markDone 3 b).line.csHops.isSome then 0
        else if heardCount (markDone 3 b) * 2 > (markDone 3 b).get F.LIN_CFG_N_LINE then (markDone 3 b).line.run + 1 else 0) = b.line.run + 1 := by
      rw [hops, if_neg Bool.false_ne_true]
      exact if_pos many
    have mirror_ : (markDone 3 b).line.mirrorAt = some c := mirror
    have ran : takeoverDecision b = { markDone 3 b with line := { (markDone 3 b).line with run := b.line.run + 1, takeoverDue := true } } := by
      unfold takeoverDecision
      rw [relief, past, first_]
      simp only [Bool.not_true, Bool.or_self, Bool.false_eq_true, if_false]
      rw [run, mirror_]
      dsimp only
      rw [if_pos]
      simp only [Bool.and_eq_true, decide_eq_true_eq]
      exact ⟨Nat.succ_le_succ third, recent⟩
    rw [ran]
    exact ⟨rfl, rfl, rfl, rfl⟩
  · refine does_of_run takeover (fun _ _ => rfl) fun b ⟨sound, due_, relief, up, past⟩ => ?_
    have taken := takeRole_taken false (regsWf_of_sound sound)
    have ran : takeover b = takeRole false b := by
      unfold takeover
      rw [due_, relief, up]
      exact if_pos (taken.over_.trans past)
    rw [ran]
    exact ⟨by rw [taken.role], taken.due_, taken.flag_, taken.taken, taken.code, taken.master, taken.told⟩
  · refine does_of_run (handover true) (fun _ _ => rfl) fun b ⟨sound, up, holder, planned, reached⟩ => ?_
    have ran : handover true b = { becomeRelief b with line := { (becomeRelief b).line with takeoverFlag := false } } := by
      unfold handover
      simp only [up, holder, planned, reached, Bool.not_true, Bool.false_eq_true, if_false, if_true]
    rw [ran]
    exact becomeRelief_result (regsWf_of_sound sound)
  · refine does_of_run (handover false) (fun _ _ => rfl) fun b ⟨sound, up, relief, token, now_, mirrored⟩ => ?_
    have other : isTerminus b = false := by
      simp only [isRelief, isTerminus, beq_iff_eq] at relief ⊢
      rw [relief]
      rfl
    have ran : handover false b = if cycleOver (takeRole true b) then takeRole true b else sendCycleStart (takeRole true b) := by
      unfold handover
      simp only [up, other, relief, token, mirrored, Bool.not_true, Bool.false_eq_true, if_false, if_true]
      rw [if_neg (by simp [now_])]
    rw [ran]
    exact takeRole_started true (regsWf_of_sound sound)
  · refine does_of_run scheduleHandover (fun _ _ => rfl) fun b ⟨wanted, holder, idle, noThrow, present⟩ => ?_
    obtain ⟨m, hm⟩ := Option.isSome_iff_exists.mp present
    have ran : scheduleHandover b = fault 0x6F 0 0xFF n ((cycleNow b + 9) % 4294967296) 0 0
        (modUpd (fun u => { u with handover := some ((cycleNow b + 9) % 4294967296, uidOf b n) }) b) := by
      unfold scheduleHandover
      simp only [wanted, holder, idle, noThrow, hm, Option.isSome_none, Option.isNone_some, Bool.not_true, Bool.or_self, Bool.false_eq_true,
        if_false]
    rw [ran]
    simp [modUpd]

end Sys2Proof.Machine
end

section
/-!
The throw: where the Yard die has swapped its sections ahead, the start of the cycle neither swaps nor disarms.
-/

namespace Sys2Proof.Machine

/-- A module that is armed for cycle 0 without a token of the Signal die, and whose Yard die has swapped ahead. -/
def aheadModule : State :=
  State.put { servingState with
    die := { servingState.die with sigUp := true }
    pwr := { servingState.pwr with power := .up }
    sets := { servingState.sets with armedFor := some 0, yardAhead := some (0, noContainer) }
    line := { servingState.line with csCycle := some 4294967295 } } F.CFG_STATE_SIDING sArmed

/-- Refutes O37: without a token the armed set is disarmed only where the Yard die has not swapped ahead (throwStart, R248); aheadModule
shows it. -/
theorem not_throwRows : ¬ Obligations.ThrowRows := by
  rintro ⟨-, -, -, disarmed, -⟩
  obtain ⟨u, hu, ready, -⟩ := disarmed 0 0 aheadModule (by decide +kernel)
  have ran : throwStart (begin_ 0 aheadModule) = u := Host.Outcome.next.inj hu
  have stays : sidingState (throwStart (begin_ 0 aheadModule)) = sArmed := by decide +kernel
  rw [ran, ready] at stays
  exact absurd stays (by decide)

end Sys2Proof.Machine
end

section
/-!
The rows of running orders: a trigger starts one, and its steps end, write, wait, check, go to another, raise, or fail it (R261–R268).
-/

namespace Sys2Proof.Machine

/-! ### The orders of a set -/

theorem orders_length_of_sound {s : State} (h : s.sound = true) : s.sets.orders.length = 16 := by
  simp only [State.sound, State.sized, Bool.and_eq_true, beq_iff_eq] at h
  tauto

theorem order_modOrder {n : Nat} (f : OrderState → OrderState) {s : State} (hn : n < s.sets.orders.length) :
    order (modOrder n f s) n = f (order s n) := nth_setNth_same _ _ hn

theorem order_modOrder_ne {n k : Nat} (other : k ≠ n) (f : OrderState → OrderState) (s : State) :
    order (modOrder n f s) k = order s k := nth_setNth_ne _ _ other

/-- The order as its next step leaves it. -/
theorem orderGo_eq {n step wait : Nat} {s : State} (small : step < 64) :
    orderGo n step wait s = modOrder n (fun o => { o with step := step, untilEnd := none, nextAt := s.now + max tOrderStep wait }) s := if_pos small

theorem orderGo_regs (n step wait : Nat) (s : State) : (orderGo n step wait s).regs = s.regs := by
  unfold orderGo
  split <;> rfl

/-! ### Raises and orders -/

theorem nth_map {α : Type} (f : α → α) (d : α) : ∀ (l : List α) (i : Nat), f d = d → nth (l.map f) i d = f (nth l i d)
  | [], _, h => h.symm
  | _ :: _, 0, _ => rfl
  | _ :: l, i + 1, h => nth_map f d l i h

/-- An order as a raise of a source leaves it. -/
def triggeredBy (src : Nat) (o : OrderState) : OrderState := if o.trigger = some src ∧ o.active = false then { o with triggered := true } else o

theorem triggeredBy_active (src : Nat) (o : OrderState) : (triggeredBy src o).active = o.active := by
  unfold triggeredBy
  split <;> rfl

theorem triggerOrders_active (src n : Nat) (s : State) : (order (triggerOrders src s) n).active = (order s n).active := by
  unfold triggerOrders
  split
  · exact (congrArg OrderState.active (nth_map (triggeredBy src) {} s.sets.orders n (if_neg (by simp)))).trans (triggeredBy_active _ _)
  · rfl

theorem setFlag_sets (src : Nat) (s : State) : (setFlag src s).sets = s.sets := by
  unfold setFlag
  split <;> rfl

theorem routeEvent_sets (r : EventRecord) (s : State) : (routeEvent r s).1.sets = s.sets := by
  unfold routeEvent
  split
  · exact foldOver_keeps State.sets (fun s n => s.bump (F.EVT_QUEUE_LOST (n - 1)) 1) (fun _ _ => rfl) _ _
  · split
    · dsimp only
      split <;> rfl
    · rfl

/-- A raise starts and ends no order: it notes triggers at most. -/
theorem raiseArg_active (src detail arg n : Nat) (s : State) : (order (raiseArg src detail arg s) n).active = (order s n).active := by
  have once : ∀ src detail arg (s : State), (order (raiseOnce src detail arg s).1 n).active = (order s n).active := fun src detail arg s => by
    unfold raiseOnce
    dsimp only
    rw [order, routeEvent_sets]
    refine (triggerOrders_active src n _).trans ?_
    rw [order, setFlag_sets]
    rfl
  unfold raiseArg
  cases h : raiseOnce src detail arg s with
  | mk t lost =>
    have here : (order t n).active = (order s n).active := by simpa [h] using once src detail arg s
    dsimp only
    split
    · exact here
    · exact (once _ _ _ t).trans here

/-! ### Failure, and a raised event -/

theorem orderEnd_result {n : Nat} {s : State} (hn : n < s.sets.orders.length) : (order (orderEnd n s) n).active = false ∧
    (order (orderEnd n s) n).nextAt = s.now + 100 * us ∧ (orderEnd n s).regs = s.regs ∧ ∀ k, k ≠ n → order (orderEnd n s) k = order s k := by
  unfold orderEnd
  rw [order_modOrder _ hn]
  exact ⟨rfl, rfl, rfl, fun k other => order_modOrder_ne other _ s⟩

theorem orderFail_result {n : Nat} {e : OrderEntry} {s : State} (hs : s.regsWf = true) (hn : n < s.sets.orders.length) (named : n < 16)
    (placed : (order s n).step < 64) (stop : e.onFail = 0) :
    (order (orderFail n e s) n).active = false ∧ Flagged Src.CFG_ORDER_FAILED (orderFail n e s) ∧
      (orderFail n e s).get F.CFG_ORDER_FAIL_ORDER = n ∧ (orderFail n e s).get F.CFG_ORDER_FAIL_STEP = (order s n).step := by
  obtain ⟨ended, -, regs, -⟩ := orderEnd_result hn
  have wf : (orderEnd n s).regsWf = true := by rwa [State.regsWf, regs]
  unfold orderFail
  rw [if_neg (by omega)]
  dsimp only
  generalize orderEnd n s = u at ended wf
  have wf1 : (u.put F.CFG_ORDER_FAIL_ORDER n).regsWf = true := State.regsWf_put _ _ _ wf
  have wf2 : ((u.put F.CFG_ORDER_FAIL_ORDER n).put F.CFG_ORDER_FAIL_STEP (order s n).step).regsWf = true := State.regsWf_put _ _ _ wf1
  have orderAt : ((u.put F.CFG_ORDER_FAIL_ORDER n).put F.CFG_ORDER_FAIL_STEP (order s n).step).get F.CFG_ORDER_FAIL_ORDER = n :=
    (State.get_put_of_apart (by decide) wf1).trans (State.get_put_of_lt (by decide) named wf)
  have stepAt : ((u.put F.CFG_ORDER_FAIL_ORDER n).put F.CFG_ORDER_FAIL_STEP (order s n).step).get F.CFG_ORDER_FAIL_STEP = (order s n).step :=
    State.get_put_of_lt (by decide) placed wf1
  have told : Within ⟨fun _ => false, []⟩ ((u.put F.CFG_ORDER_FAIL_ORDER n).put F.CFG_ORDER_FAIL_STEP (order s n).step)
      (raiseArg Src.CFG_ORDER_FAILED 0xFFFF (n + 256 * (order s n).step)
        ((u.put F.CFG_ORDER_FAIL_ORDER n).put F.CFG_ORDER_FAIL_STEP (order s n).step)) := raiseArg_within .refl
  exact ⟨(raiseArg_active _ _ _ _ _).trans ended, flagged_raiseArg (by decide) wf2, (told.get (by decide)).trans orderAt,
    (told.get (by decide)).trans stepAt⟩

theorem orderRaise_result {n : Nat} {e : OrderEntry} {s : State} (hs : s.regsWf = true) (named : n < 16) :
    Flagged Src.CFG_ORDER_EVENT (orderRaise n e s) ∧ (orderRaise n e s).get F.CFG_ORDER_RAISE_CODE = e.value % 256 ∧
      (orderRaise n e s).get F.CFG_ORDER_RAISE_ORDER = n := by
  have wf1 : (s.put F.CFG_ORDER_RAISE_CODE (e.value % 256)).regsWf = true := State.regsWf_put _ _ _ hs
  have wf2 : ((s.put F.CFG_ORDER_RAISE_CODE (e.value % 256)).put F.CFG_ORDER_RAISE_ORDER n).regsWf = true := State.regsWf_put _ _ _ wf1
  have code : ((s.put F.CFG_ORDER_RAISE_CODE (e.value % 256)).put F.CFG_ORDER_RAISE_ORDER n).get F.CFG_ORDER_RAISE_CODE = e.value % 256 :=
    (State.get_put_of_apart (by decide) wf1).trans (State.get_put_of_lt (by decide) (Nat.mod_lt _ (by decide)) hs)
  have name : ((s.put F.CFG_ORDER_RAISE_CODE (e.value % 256)).put F.CFG_ORDER_RAISE_ORDER n).get F.CFG_ORDER_RAISE_ORDER = n :=
    State.get_put_of_lt (by decide) named wf1
  unfold orderRaise orderResult
  dsimp only
  rw [if_pos rfl]
  generalize (s.put F.CFG_ORDER_RAISE_CODE (e.value % 256)).put F.CFG_ORDER_RAISE_ORDER n = u at wf2 code name
  have told : Within ⟨fun _ => false, []⟩ u (raiseArg Src.CFG_ORDER_EVENT 0xFFFF (n + 256 * (e.value % 256)) u) := raiseArg_within .refl
  have flagged : Flagged Src.CFG_ORDER_EVENT (raiseArg Src.CFG_ORDER_EVENT 0xFFFF (n + 256 * (e.value % 256)) u) := flagged_raiseArg (by decide) wf2
  have codeT := (told.get (f := F.CFG_ORDER_RAISE_CODE) (by decide)).trans code
  have nameT := (told.get (f := F.CFG_ORDER_RAISE_ORDER) (by decide)).trans name
  generalize raiseArg Src.CFG_ORDER_EVENT 0xFFFF (n + 256 * (e.value % 256)) u = v at flagged codeT nameT
  have regs := orderGo_regs n ((order v n).step + 1) 0 v
  exact ⟨(flagged_of_regs regs).mpr flagged, (State.get_of_regs regs _).trans codeT, (State.get_of_regs regs _).trans nameT⟩

/-- A step that is due is executed. -/
theorem orderStep_eq {n : Nat} {s : State} (up : s.die.sigUp = true) (active : (order s n).active = true) (due_ : (order s n).nextAt ≤ s.now) :
    orderStep n s = orderExecute n (orderEntry s n (order s n).step) s := by
  unfold orderStep
  simp only [up, active, due_, decide_true, Bool.and_self, if_true]

theorem readReg_parts (a : Nat) (s : State) : (readReg a s).2.regs = s.regs ∧ (readReg a s).2.sets = s.sets ∧ (readReg a s).2.now = s.now := by
  unfold readReg
  dsimp only
  split <;> exact ⟨rfl, rfl, rfl⟩

/-- Settles O38: an order of the sixteen is changed in its place alone, and a raise starts and ends none. -/
theorem orderRows : Obligations.OrderRows := by
  unfold Obligations.OrderRows
  refine ⟨fun n hn => ?_, fun n hn => ?_, fun n e hn op => ?_, fun n e hn op => ?_, fun n e hn op low high => ?_, fun n e hn op => ?_,
    fun n e hn op => ?_, fun n e hn op stop => ?_⟩
  · refine does_of_run (orderStart n) (fun _ _ => rfl) fun b ⟨sound, up, trigger, idle, come⟩ => ?_
    have some_ : ((order b n).triggered || periodsPassed (order b n) ((orderEntry b n 0).value * ms) b.now != 0) = true := by
      obtain triggered | passed := come
      · simp [triggered]
      · simp [passed]
    have place : n < b.sets.orders.length := by rw [orders_length_of_sound sound]; exact hn
    unfold orderStart
    dsimp only
    rw [up, trigger, if_neg (by decide), order_modOrder _ place, some_]
    simp only [idle, Bool.false_eq_true, if_false, if_true]
    exact ⟨trivial, trivial, trivial, trivial, rfl, fun k other => order_modOrder_ne other _ b⟩
  · refine does_of_run (orderStep n) (fun _ _ => rfl) fun b ⟨sound, up, active, due_, op⟩ => ?_
    rw [orderStep_eq up active due_, orderExecute, if_pos op]
    exact orderEnd_result (by rw [orders_length_of_sound sound]; exact hn)
  · refine does_of_run (orderStep n) (fun _ _ => rfl) fun b ⟨sound, up, active, due_, entry, allowed, placed⟩ => ?_
    rw [orderStep_eq up active due_, entry, orderExecute]
    simp only [op, one_ne_zero, if_false, if_true, orderWrite, allowed, orderResult]
    exact orderGo_regs _ _ _ _
  · refine does_of_run (orderStep n) (fun _ _ => rfl) fun b ⟨sound, up, active, due_, entry, placed⟩ => ?_
    rw [orderStep_eq up active due_, entry, orderExecute]
    simp only [op, OfNat.ofNat_ne_zero, OfNat.ofNat_ne_one, if_false, if_true]
    rw [orderGo_eq (by omega), order_modOrder _ (by rw [orders_length_of_sound sound]; exact hn)]
    exact ⟨active, rfl, rfl, rfl⟩
  · refine does_of_run (orderStep n) (fun _ _ => rfl) fun b ⟨sound, up, active, due_, entry, placed⟩ => ?_
    have ran : orderStep n b = orderResult n e (Nat.land (readReg e.addr b).1 e.mask == e.value) (readReg e.addr b).2 := by
      rw [orderStep_eq up active due_, entry, orderExecute]
      simp [op]
    rw [ran]
    obtain ⟨-, sets, now_⟩ := readReg_parts e.addr b
    have same : order (readReg e.addr b).2 n = order b n := by rw [order, order, sets]
    have length : (readReg e.addr b).2.sets.orders.length = 16 := by rw [sets]; exact orders_length_of_sound sound
    generalize (readReg e.addr b).2 = v at now_ same length
    have place : n < v.sets.orders.length := by rw [length]; exact hn
    unfold orderResult
    by_cases good : Nat.land (readReg e.addr b).1 e.mask = e.value
    · rw [if_pos (by simpa using good), if_pos good, orderGo_eq (by rw [same]; omega), order_modOrder _ place, same, now_]
      exact ⟨active, rfl, rfl⟩
    · rw [if_neg (by simpa using good), if_neg good, orderFail, if_pos ⟨low, high⟩, orderGo_eq high, order_modOrder _ place, same, now_]
      exact ⟨active, rfl, rfl⟩
  · refine does_of_run (orderStep n) (fun _ _ => rfl) fun b ⟨sound, up, active, due_, entry⟩ => ?_
    have ran : orderStep n b = orderGo n (e.value % 64) 0 b := by
      rw [orderStep_eq up active due_, entry, orderExecute]
      simp [op]
    rw [ran, orderGo_eq (Nat.mod_lt _ (by decide)), order_modOrder _ (by rw [orders_length_of_sound sound]; exact hn)]
    exact ⟨active, rfl, rfl, rfl⟩
  · refine does_of_run (orderStep n) (fun _ _ => rfl) fun b ⟨sound, up, active, due_, entry⟩ => ?_
    have ran : orderStep n b = orderRaise n e b := by
      rw [orderStep_eq up active due_, entry, orderExecute]
      simp [op]
    rw [ran]
    exact orderRaise_result (regsWf_of_sound sound) hn
  · refine does_of_run (orderStep n) (fun _ _ => rfl) fun b ⟨sound, up, active, due_, entry, placed⟩ => ?_
    have ran : orderStep n b = orderFail n e b := by
      rw [orderStep_eq up active due_, entry, orderExecute]
      rw [if_neg (by omega), if_neg (by omega), if_neg (by omega), if_neg (by omega), if_neg (by omega), if_neg (by omega), if_neg (by omega),
        if_neg (by omega)]
    rw [ran]
    exact orderFail_result (regsWf_of_sound sound) (by rw [orders_length_of_sound sound]; exact hn) hn placed stop

end Sys2Proof.Machine
end

section
/-!
The end of a verification (R236–R239), and the answer to the one request that waits.
-/

namespace Sys2Proof.Machine

/-! ### The one request that waits is answered -/

theorem noteRecord_eq (op : Nat) (p : Request) (r : ReqRecord) (s : State) :
    ∃ sessions, noteRecord op p r s = { s with pk := { s.pk with sessions := sessions } } := by
  unfold noteRecord modSession
  split
  · exact ⟨s.pk.sessions, rfl⟩
  · split
    · exact ⟨s.pk.sessions, rfl⟩
    · exact ⟨_, rfl⟩

theorem sendPacket_of_host (ip : BitVec 32) (port : BitVec 16) (r : Reply) (s : State) :
    ∃ pk, sendPacket (.host ip port) r s = { s with pk := pk, out := s.out ++ [.packet (.host ip port) r] } ∧ pk.waiting = s.pk.waiting :=
  ⟨_, rfl, rfl⟩

/-- Nothing but the packet layer has changed, and one packet has left. -/
structure Answered (p : Request) (status : Nat) (result : Bytes) (waiting : List Waiting) (s u : State) : Prop where
  state : ∃ pk r, u = { s with pk := pk, out := s.out ++ [.packet p.via r] } ∧ pk.waiting = waiting ∧ r.status = status ∧
    r.sequence = p.sequence.toNat ∧ r.result = result

/-- A reply that the relief terminus need not see leaves at once. -/
theorem finish_answered {reserved : Bool} {op : Nat} {p : Request} {origin status retry : Nat} {result : Bytes} {s : State} {ip : BitVec 32}
    {port : BitVec 16} (via : p.via = .host ip port) (alone : reliefPresent s = false) :
    Answered p status result s.pk.waiting s (finish reserved op p origin status retry result s) := by
  have free : (hasEffect op && isTerminus s && reliefPresent s && !forwardedIn p && decide (1 ≤ p.session.toNat) &&
      decide (p.session.toNat ≤ 12)) = false := by simp [alone]
  have sent : ∃ rec r, finish reserved op p origin status retry result s = sendPacket p.via r (noteRecord op p rec s) ∧ r.status = status ∧
      r.sequence = p.sequence.toNat ∧ r.result = result := by
    unfold finish finishAs
    simp only [free, Bool.false_eq_true, if_false]
    exact ⟨_, _, rfl, rfl, rfl, rfl⟩
  obtain ⟨rec, r, sent, status_, sequence, result_⟩ := sent
  obtain ⟨sessions, noted⟩ := noteRecord_eq op p rec s
  obtain ⟨pk, out, waiting⟩ := sendPacket_of_host ip port r { s with pk := { s.pk with sessions := sessions } }
  rw [sent, noted, via, out]
  exact ⟨pk, r, by rw [via], waiting, status_, sequence, result_⟩

/-- A request that has not been given up is answered, and waits no longer. -/
theorem completeWaiting_answered {w : Waiting} {origin status : Nat} {result : Bytes} {s : State} {ip : BitVec 32} {port : BitVec 16}
    (via : w.req.via = .host ip port) (alone : reliefPresent s = false) (held : w.orphan = false) (only : s.pk.waiting = [w]) :
    Answered w.req status result [] s (completeWaiting w origin status 0 result s) := by
  have gone : (dropWaiting w.req.session.toNat w.req.sequence.toNat s).pk.waiting = [] := by simp [dropWaiting, only, isWaitingFor]
  have answered := finish_answered (reserved := w.reserved) (op := w.opcode) (origin := origin) (status := status) (retry := 0)
    (result := result) (s := dropWaiting w.req.session.toNat w.req.sequence.toNat s) via alone
  rw [gone] at answered
  obtain ⟨pk, r, state, rest⟩ := answered.state
  unfold completeWaiting
  rw [held]
  exact ⟨pk, r, state, rest⟩

/-- The holder notes the manifest of the set that is ready. -/
def manifestNoted (crc : Nat) (l : List (Nat × Nat)) (again : Bool) (s : State) : State :=
  if isTerminus s then { s with sets := { s.sets with manifest := l, manifestCrc := crc, okFrom := if again then s.sets.okFrom else [] } } else s

theorem manifestNoted_keeps (crc : Nat) (l : List (Nat × Nat)) (again : Bool) (s : State) :
    (manifestNoted crc l again s).regs = s.regs ∧ (manifestNoted crc l again s).sets.mramArea = s.sets.mramArea := by
  unfold manifestNoted
  split <;> exact ⟨rfl, rfl⟩

/-- The siding set with its sections of the Signal die in MRAM, ready under a checksum. -/
def readyUnder (crc : Nat) (s : State) : State :=
  (State.put { s with sets := { s.sets with mramArea := (s.sets.siding.map signalSections).getD [] } } F.CFG_STATE_SIDING sReady).put
    F.CFG_SIDING_CRC_CRC crc

theorem becomeReady_eq (crc : Nat) (l : List (Nat × Nat)) {s : State} (notArmed : sidingState s ≠ sArmed) :
    becomeReady crc l s = manifestNoted crc l (sidingState s == sReady && s.get F.CFG_SIDING_CRC_CRC == crc) (readyUnder crc s) := by
  unfold becomeReady readyUnder
  rw [if_neg notArmed]
  cases s.sets.siding <;> rfl

/-- The siding set as a verification that it has passed leaves it. -/
theorem becomeReady_result {crc : Nat} {l : List (Nat × Nat)} {s : State} (hs : s.regsWf = true) (small : crc < 2 ^ 32)
    (notArmed : sidingState s ≠ sArmed) :
    sidingState (becomeReady crc l s) = sReady ∧ (becomeReady crc l s).get F.CFG_SIDING_CRC_CRC = crc ∧
      (becomeReady crc l s).sets.mramArea = (s.sets.siding.map signalSections).getD [] := by
  have wf1 : (State.put { s with sets := { s.sets with mramArea := (s.sets.siding.map signalSections).getD [] } } F.CFG_STATE_SIDING
      sReady).regsWf = true := State.regsWf_put _ _ _ hs
  have ready : (readyUnder crc s).get F.CFG_STATE_SIDING = sReady :=
    (State.get_put_of_apart (by decide) wf1).trans (State.get_put_of_lt (by decide) (by decide) hs)
  have sum : (readyUnder crc s).get F.CFG_SIDING_CRC_CRC = crc := State.get_put_of_lt (by decide) small wf1
  rw [becomeReady_eq crc l notArmed]
  obtain ⟨regs, area⟩ := manifestNoted_keeps crc l (sidingState s == sReady && s.get F.CFG_SIDING_CRC_CRC == crc) (readyUnder crc s)
  exact ⟨(State.get_of_regs regs _).trans ready, (State.get_of_regs regs _).trans sum, area⟩

theorem becomeReady_packets (crc : Nat) (l : List (Nat × Nat)) (s : State) : (becomeReady crc l s).pk = s.pk ∧
    (becomeReady crc l s).line = s.line ∧ (becomeReady crc l s).out = s.out := by
  by_cases armed : sidingState s = sArmed
  · unfold becomeReady
    rw [if_pos armed]
    exact ⟨rfl, rfl, rfl⟩
  · rw [becomeReady_eq crc l armed]
    unfold manifestNoted
    split <;> exact ⟨rfl, rfl, rfl⟩

/-- Every status of a verification fits the field that shows it. -/
theorem verifyStatus_lt (s : State) (crc : Nat) (l : List (Nat × Nat)) (relief : Option ReliefPart) :
    verifyStatus s crc l relief < 2 ^ F.CFG_STATE_LAST_STATUS.width := by
  have either : ∀ (c : Prop) [Decidable c] (m n : Nat), m < 2 ^ 16 → n < 2 ^ 16 → (if c then m else n) < 2 ^ 16 := fun c _ m n hm hn => by
    split
    · exact hm
    · exact hn
  unfold verifyStatus
  split
  · decide
  · exact either _ _ _ (by decide) (either _ _ _ (by decide) (either _ _ _ (by decide) (either _ _ _ (by decide)
      (either _ _ _ (by decide) (by decide)))))

/-- What the end of a verification does to the siding set. -/
def verdict (st crc : Nat) (l : List (Nat × Nat)) (s : State) : State :=
  if st = St.ok then becomeReady crc l s else s.put F.CFG_STATE_LAST_STATUS st

theorem verdict_packets (st crc : Nat) (l : List (Nat × Nat)) (s : State) : (verdict st crc l s).pk = s.pk ∧ (verdict st crc l s).line = s.line ∧
    (verdict st crc l s).out = s.out := by
  unfold verdict
  split
  · exact becomeReady_packets _ _ _
  · exact ⟨rfl, rfl, rfl⟩

/-- Settles O39: the request is answered with the status of the checks, and the answer changes the packet layer alone, so that what the set has
become stands. -/
theorem verifyRows : Obligations.VerifyRows := by
  unfold Obligations.VerifyRows
  refine fun w relief ip port => does_from_silence (sidingVerified relief) (fun _ _ => rfl)
    fun b silent ⟨sound, sig, yard, only, op, job, held, via, alone⟩ => ?_
  have wf := regsWf_of_sound sound
  have bound := verifyStatus_lt b (fieldAt w.req.params 0 4) (manifestOf w.req.params) relief
  have found : verifyRequest b = some w := by simp [verifyRequest, ownRequest, only, job]
  have ran : sidingVerified relief b =
      completeOwn 0x0201 (fun j => j == .verify) (verifyStatus b (fieldAt w.req.params 0 4) (manifestOf w.req.params) relief) 0
        (leBytes 4 (sidingPartCrc (verdict (verifyStatus b (fieldAt w.req.params 0 4) (manifestOf w.req.params) relief)
            (fieldAt w.req.params 0 4) (manifestOf w.req.params) b)) ++
          leBytes 1 (sidingState (verdict (verifyStatus b (fieldAt w.req.params 0 4) (manifestOf w.req.params) relief)
            (fieldAt w.req.params 0 4) (manifestOf w.req.params) b)))
        (verdict (verifyStatus b (fieldAt w.req.params 0 4) (manifestOf w.req.params) relief) (fieldAt w.req.params 0 4)
          (manifestOf w.req.params) b) := by
    unfold sidingVerified
    rw [found]
    dsimp only
    rw [sig, yard]
    rfl
  dsimp only
  rw [ran]
  generalize hst : verifyStatus b (fieldAt w.req.params 0 4) (manifestOf w.req.params) relief = st at bound
  obtain ⟨pk, line, out⟩ := verdict_packets st (fieldAt w.req.params 0 4) (manifestOf w.req.params) b
  generalize hv : verdict st (fieldAt w.req.params 0 4) (manifestOf w.req.params) b = v at pk line out
  generalize leBytes 4 (sidingPartCrc v) ++ leBytes 1 (sidingState v) = result
  have foundV : ownRequest 0x0201 (fun j => j == .verify) v = some w := by simp [ownRequest, pk, only, job]
  have answer : completeOwn 0x0201 (fun j => j == .verify) st 0 result v = completeWaiting w (joinNum v) st 0 result v := by
    unfold completeOwn
    rw [foundV]
    dsimp only
    rw [job]
  have aloneV : reliefPresent v = false := by rw [reliefPresent, line]; exact alone
  obtain ⟨pk', r, state, waiting, status, sequence, -⟩ :=
    (completeWaiting_answered (origin := joinNum v) (status := st) (result := result) via aloneV held (by rw [pk, only])).state
  rw [answer, state]
  refine ⟨waiting, ⟨r, by rw [out, silent]; rfl, status, sequence⟩, fun ok_ notArmed => ?_, fun failed => ?_⟩
  · rw [verdict, if_pos ok_] at hv
    obtain ⟨ready, crc, area⟩ := becomeReady_result (l := manifestOf w.req.params) wf (fieldAt_lt w.req.params 0 4) notArmed
    rw [hv] at ready crc area
    exact ⟨ready, crc, area⟩
  · rw [verdict, if_neg failed] at hv
    rw [← hv]
    exact ⟨rfl, State.get_put_of_lt (by decide) bound wf, fieldsKept_put (by decide) wf st⟩

end Sys2Proof.Machine
end

section
/-!
The rows of sensor streams: camera frames, lidar datagrams, blocks, completed invocations, and the loss and retirement of a stream
(R274, R278–R304).
-/

namespace Sys2Proof.Machine

/-! ### 64-bit register pairs -/

theorem State.get64_put64 {s : State} {lo hi : Nat} (apart : lo ≠ hi) (v : Nat) (hs : s.regsWf = true) :
    (s.put64 lo hi v).get64 lo hi = v % 2 ^ 64 := by
  have wf : (s.setReg lo (v % 4294967296)).regsWf = true := State.regsWf_setReg s _ _ hs
  unfold State.put64 State.get64
  rw [State.reg_setReg_ne _ _ _ _ apart, State.reg_setReg_same _ _ _ hs, State.reg_setReg_same _ _ _ wf]
  omega

theorem Within.get64 {w : Footprint} {b s : State} (h : Within w b s) {lo hi : Nat} (hl : w.touches lo = false) (hh : w.touches hi = false) :
    s.get64 lo hi = b.get64 lo hi := by
  simp only [State.get64, h.reg lo hl, h.reg hi hh]

theorem put64_within {w : Footprint} {b s : State} (h : Within w b s) {lo hi v : Nat} (hl : w.reg lo = true) (hh : w.reg hi = true) :
    Within w b (s.put64 lo hi v) := setReg_within (setReg_within h hl) hh

/-! ### One stream -/

theorem streams_length_of_sound {s : State} (h : s.sound = true) : s.fus.streams.length = 20 := by
  simp only [State.sound, State.sized, Bool.and_eq_true, beq_iff_eq] at h
  tauto

theorem stream_modStream {i : Nat} (f : StreamPart → StreamPart) {s : State} (hi : i < s.fus.streams.length) :
    stream (modStream i f s) i = f (stream s i) := nth_setNth_same _ _ hi

theorem stream_modStream_ne {i j : Nat} (other : j ≠ i) (f : StreamPart → StreamPart) (s : State) : stream (modStream i f s) j = stream s j :=
  nth_setNth_ne _ _ other

theorem streams_length_modStream (i : Nat) (f : StreamPart → StreamPart) (s : State) :
    (modStream i f s).fus.streams.length = s.fus.streams.length := setNth_length _ _ _

/-- The registers that input of a stream writes: its state, its stamps, and the gaps of data streams. -/
def arriveReg (i a : Nat) : Bool :=
  decide (0xA010C + 0x20 * i ≤ a ∧ a ≤ 0xA011C + 0x20 * i) || decide (0x90C0C ≤ a ∧ a ≤ 0x90C3C)

/-- What input of a stream may change. -/
def arriveFoot (i : Nat) : Footprint := ⟨arriveReg i, [.fus, .dma, .log]⟩

/-- What units and the model of a stream may change. -/
def offerFoot (i : Nat) : Footprint := ⟨fun a => a == Reg.FUS_STR_STATE i || decide (0x90C0C ≤ a ∧ a ≤ 0x90C3C), [.fus, .dma]⟩

/-- An operation on one stream: a footprint, with the other streams, their number, the set of a frame and the lists of retired parts. -/
structure OnStream (w : Footprint) (i : Nat) (b u : State) : Prop where
  within_ : Within w b u
  others : ∀ j, j ≠ i → stream u j = stream b j
  size : u.fus.streams.length = b.fus.streams.length
  retired : u.ev.retired = b.ev.retired ∧ u.ev.retiredHere = b.ev.retiredHere

section
variable {w : Footprint} {i : Nat} {b s t : State}

theorem OnStream.refl : OnStream w i b b := ⟨.refl, fun _ _ => rfl, rfl, rfl, rfl⟩

theorem OnStream.trans (h : OnStream w i b s) (k : OnStream w i s t) : OnStream w i b t :=
  ⟨h.within_.trans k.within_, fun j hj => (k.others j hj).trans (h.others j hj), k.size.trans h.size,
    k.retired.1.trans h.retired.1, k.retired.2.trans h.retired.2⟩

/-- An operation outside the streams and the lists. -/
theorem OnStream.aside (h : OnStream w i b s) (k : Within w s t) (fus : t.fus.streams = s.fus.streams)
    (ev : t.ev.retired = s.ev.retired ∧ t.ev.retiredHere = s.ev.retiredHere) : OnStream w i b t :=
  h.trans ⟨k, fun j _ => by simp only [stream, fus], by rw [fus], ev⟩

theorem OnStream.mod (h : OnStream w i b s) (hp : .fus ∈ w.parts) (f : StreamPart → StreamPart) : OnStream w i b (modStream i f s) :=
  h.trans ⟨fus_within .refl hp, fun _ other => stream_modStream_ne other f s, streams_length_modStream i f s, rfl, rfl⟩

theorem OnStream.ite {c : Prop} [Decidable c] (hs : OnStream w i b s) (ht : OnStream w i b t) : OnStream w i b (if c then s else t) := by
  split
  · exact hs
  · exact ht

theorem OnStream.setReg (h : OnStream w i b s) {a v : Nat} (ha : w.reg a = true) : OnStream w i b (s.setReg a v) :=
  h.aside (setReg_within .refl ha) rfl ⟨rfl, rfl⟩

theorem OnStream.put (h : OnStream w i b s) {f : Fld} {v : Nat} (ha : w.reg f.addr = true) : OnStream w i b (s.put f v) := h.setReg ha
theorem OnStream.bump (h : OnStream w i b s) {f : Fld} {n : Nat} (ha : w.reg f.addr = true) : OnStream w i b (s.bump f n) := h.setReg ha

theorem OnStream.grow {v : Footprint} (h : OnStream v i b s) (sub : v.Sub w) : OnStream w i b s :=
  ⟨h.within_.mono sub.reg sub.parts, h.others, h.size, h.retired⟩

theorem OnStream.streamRetired (h : OnStream w i b s) (j : Nat) : streamRetired s j = streamRetired b j := isRetired_of_lists _ _ _ h.retired

theorem OnStream.foldOver {α : Type} {f : State → α → State} {l : List α} (h : OnStream w i b s)
    (hf : ∀ s, ∀ a ∈ l, OnStream w i s (f s a)) : OnStream w i b (foldOver f s l) := by
  induction l generalizing s with
  | nil => exact h
  | cons a l ih => exact ih (h.trans (hf s a List.mem_cons_self)) fun s a ha => hf s a (List.mem_cons_of_mem _ ha)

end

theorem offerFoot_sub (i : Nat) : (offerFoot i).Sub (arriveFoot i) where
  reg a h := by
    simp only [offerFoot, arriveFoot, arriveReg, Bool.or_eq_true, beq_iff_eq, decide_eq_true_eq] at h ⊢
    obtain rfl | gaps := h
    · simp only [Reg.FUS_STR_STATE]
      omega
    · exact .inr gaps
  parts := by simp [offerFoot, arriveFoot]

theorem offerFoot_fus (i : Nat) : Part.fus ∈ (offerFoot i).parts := by simp [offerFoot]

theorem offerFoot_state (i : Nat) : (offerFoot i).reg (Reg.FUS_STR_STATE i) = true := by simp [offerFoot]

theorem offerFoot_gaps {i n : Nat} (hn : n < 4) : (offerFoot i).reg (Reg.DMA_STR_GAPS n) = true := by
  simp only [offerFoot, Reg.DMA_STR_GAPS, Bool.or_eq_true, decide_eq_true_eq]
  right
  omega

/-- A register that units and the model of a stream leave. -/
theorem offerFoot_free {i a : Nat} (low : 0xA0100 ≤ a) (high : a < 0xA2000) (other : a ≠ Reg.FUS_STR_STATE i) :
    (offerFoot i).touches a = false := by
  refine touches_eq_false ?_ (by omega) (by simp [raisePlaces]; omega)
  simp only [offerFoot, Bool.or_eq_false_iff, beq_eq_false_iff_ne, decide_eq_false_iff_not]
  exact ⟨other, by omega⟩

/-- A configuration register of any stream stands while input of one arrives. -/
theorem arriveFoot_cfg (i : Nat) {j : Nat} (hj : j < 20) : (arriveFoot i).touches (Reg.FUS_STR_CFG j) = false := by
  refine touches_eq_false ?_ (by simp only [Reg.FUS_STR_CFG]; omega) (by simp [raisePlaces, Reg.FUS_STR_CFG]; omega)
  simp only [arriveFoot, arriveReg, Reg.FUS_STR_CFG, Bool.or_eq_false_iff, decide_eq_false_iff_not]
  omega

/-! ### Units and models -/

theorem unitFor_stream {i n : Nat} (hn : n < 4) (unit stamp : Nat) (make : DataStream → Bytes) (s : State) :
    OnStream (offerFoot i) i s (unitFor unit stamp make s n) := by
  have mod_ : ∀ {u : State} {f : DataStream → DataStream}, OnStream (offerFoot i) i s u → OnStream (offerFoot i) i s (modData n f u) := fun h =>
    h.aside (dma_within .refl (by simp [offerFoot])) rfl ⟨rfl, rfl⟩
  have counted : OnStream (offerFoot i) i s (modData n (fun d => { d with count := d.count + 1 }) s) := mod_ .refl
  exact .ite counted (.ite ((mod_ counted).bump (offerFoot_gaps hn)) (mod_ counted))

theorem unitArrives_stream (i slot source stamp : Nat) (make : DataStream → Bytes) (s : State) :
    OnStream (offerFoot i) i s (unitArrives slot source stamp make s) := by
  refine OnStream.foldOver (.aside .refl (dma_within .refl (by simp [offerFoot])) rfl ⟨rfl, rfl⟩) fun u n hn => ?_
  have small : n < 4 := by simpa using (List.mem_filter.mp hn).1
  exact unitFor_stream small _ _ _ u

/-- Units leave the streams themselves. -/
theorem unitArrives_streams (slot source stamp : Nat) (make : DataStream → Bytes) (s : State) :
    (unitArrives slot source stamp make s).fus = s.fus := by
  refine foldOver_keeps State.fus _ (fun u n => ?_) _ _
  unfold unitFor
  dsimp only
  split
  · rfl
  · split <;> rfl

theorem skipInput_stream (i : Nat) (s : State) : OnStream (offerFoot i) i s (skipInput i s) := OnStream.refl.bump (offerFoot_state i)

theorem startInvocation_stream (i : Nat) (m : Bytes) (x : StreamInput) (s : State) : OnStream (offerFoot i) i s (startInvocation i m x s) := by
  unfold startInvocation
  exact OnStream.refl.mod (offerFoot_fus i) _

theorem offerInput_stream (i : Nat) (x : StreamInput) (s : State) : OnStream (offerFoot i) i s (offerInput i x s) := by
  unfold offerInput
  split
  · exact .refl
  · exact .ite (skipInput_stream i s) (.ite (OnStream.mod (.ite (skipInput_stream i s) .refl) (offerFoot_fus i) _)
      (startInvocation_stream i _ x s))

/-- The offer of an input changes what the model of the stream works on, and nothing else of the stream. -/
theorem offerInput_own {α : Type} (g : StreamPart → α) (hg : ∀ p r l w, g { p with running := r, lastUsed := l, waiting := w } = g p) {i : Nat}
    (x : StreamInput) {s : State} (hi : i < s.fus.streams.length) : g (stream (offerInput i x s) i) = g (stream s i) := by
  unfold offerInput
  split
  · rfl
  · split
    · rfl
    · split
      · dsimp only
        have skipped : stream (if (stream s i).waiting.isSome then skipInput i s else s) i = stream s i ∧
            (if (stream s i).waiting.isSome then skipInput i s else s).fus.streams.length = s.fus.streams.length := by
          split <;> exact ⟨rfl, rfl⟩
        rw [stream_modStream _ (by rw [skipped.2]; exact hi), skipped.1]
        exact hg _ (stream s i).running (stream s i).lastUsed _
      · unfold startInvocation
        dsimp only
        rw [stream_modStream _ hi]
        exact hg _ _ _ _

/-! ### Input that arrives -/

theorem arriveFoot_own {i a : Nat} (low : 0xA010C + 0x20 * i ≤ a) (high : a ≤ 0xA011C + 0x20 * i) : (arriveFoot i).reg a = true := by
  simp only [arriveFoot, arriveReg, Bool.or_eq_true, decide_eq_true_eq]
  exact .inl ⟨low, high⟩

theorem arriveFoot_fus (i : Nat) : Part.fus ∈ (arriveFoot i).parts := by simp [arriveFoot]

/-- What input does to its stream, a return of the stream included. -/
theorem inputArrives_result {i : Nat} {s : State} (hi : i < s.fus.streams.length) : OnStream (arriveFoot i) i s (inputArrives i s) ∧
    (stream (inputArrives i s) i).lastInput = s.now ∧ (stream (inputArrives i s) i).reconnectAt = none := by
  have noted : OnStream (arriveFoot i) i s (modStream i (fun y => { y with lastInput := s.now }) s) := OnStream.refl.mod (arriveFoot_fus i) _
  have own := stream_modStream (fun y => { y with lastInput := s.now }) hi
  have at_ : (stream (modStream i (fun y => { y with lastInput := s.now }) s) i).lastInput = s.now := by rw [own]
  unfold inputArrives
  dsimp only
  generalize modStream i (fun y => { y with lastInput := s.now }) s = u at noted at_
  split
  next none_ => exact ⟨noted, at_, none_⟩
  · have place : i < u.fus.streams.length := by rw [noted.size]; exact hi
    have back : OnStream (arriveFoot i) i s (modStream i (fun y => { y with reconnectAt := none, returnedAt := some u.now }) u) :=
      noted.mod (arriveFoot_fus i) _
    have ownBack := stream_modStream (fun y => { y with reconnectAt := none, returnedAt := some u.now }) place
    have atBack : (stream (modStream i (fun y => { y with reconnectAt := none, returnedAt := some u.now }) u) i).lastInput = s.now := by
      rw [ownBack]
      exact at_
    have noneBack : (stream (modStream i (fun y => { y with reconnectAt := none, returnedAt := some u.now }) u) i).reconnectAt = none := by
      rw [ownBack]
    generalize modStream i (fun y => { y with reconnectAt := none, returnedAt := some u.now }) u = v at back atBack noneBack
    have shown : OnStream (arriveFoot i) i s (v.put (F.FUS_STR_STATE_STATE i) stRunning) :=
      back.put (arriveFoot_own (by simp only [F.FUS_STR_STATE_STATE, Reg.FUS_STR_STATE]; omega)
        (by simp only [F.FUS_STR_STATE_STATE, Reg.FUS_STR_STATE]; omega))
    have logged : Within (arriveFoot i) (v.put (F.FUS_STR_STATE_STATE i) stRunning)
        (raise Src.FUS_STREAM_RECONNECTED i (fault 0x18 1 Src.FUS_STREAM_RECONNECTED i 0 0 0 (v.put (F.FUS_STR_STATE_STATE i) stRunning))) :=
      raise_within (fault_within .refl (by simp [arriveFoot]))
    refine ⟨shown.aside logged (by simp) (by simp), ?_, ?_⟩
    · simpa [stream] using atBack
    · simpa [stream] using noneBack

theorem stampInput_stream (i stamp stime : Nat) (s : State) : OnStream (arriveFoot i) i s (stampInput i stamp stime s) := by
  have own : ∀ k, k ≤ 12 → (arriveFoot i).reg (0xA0110 + k + 0x20 * i) = true := fun k hk => arriveFoot_own (by omega) (by omega)
  exact (((OnStream.refl.setReg (own 0 (by omega))).setReg (own 4 (by omega))).setReg (own 8 (by omega))).setReg (own 12 (by omega))

theorem stampInput_result (i stamp : Nat) (stime : BitVec 64) {s : State} (hs : s.regsWf = true) :
    (stampInput i stamp stime.toNat s).get64 (Reg.FUS_STR_STAMP_LO i) (Reg.FUS_STR_STAMP_HI i) = stamp % 2 ^ 64 ∧
      (stampInput i stamp stime.toNat s).get64 (Reg.FUS_STR_STIME_LO i) (Reg.FUS_STR_STIME_HI i) = stime.toNat := by
  have first_ := State.get64_put64 (lo := Reg.FUS_STR_STAMP_LO i) (hi := Reg.FUS_STR_STAMP_HI i)
    (by simp only [Reg.FUS_STR_STAMP_LO, Reg.FUS_STR_STAMP_HI]; omega) stamp hs
  have wf : (s.put64 (Reg.FUS_STR_STAMP_LO i) (Reg.FUS_STR_STAMP_HI i) stamp).regsWf = true :=
    State.regsWf_setReg _ _ _ (State.regsWf_setReg _ _ _ hs)
  have second := State.get64_put64 (lo := Reg.FUS_STR_STIME_LO i) (hi := Reg.FUS_STR_STIME_HI i)
    (by simp only [Reg.FUS_STR_STIME_LO, Reg.FUS_STR_STIME_HI]; omega) stime.toNat wf
  refine ⟨?_, second.trans (Nat.mod_eq_of_lt stime.isLt)⟩
  rw [← first_]
  unfold stampInput
  generalize s.put64 (Reg.FUS_STR_STAMP_LO i) (Reg.FUS_STR_STAMP_HI i) stamp = u
  have apart : ∀ a, a = Reg.FUS_STR_STAMP_LO i ∨ a = Reg.FUS_STR_STAMP_HI i →
      (u.put64 (Reg.FUS_STR_STIME_LO i) (Reg.FUS_STR_STIME_HI i) stime.toNat).reg a = u.reg a := fun a ha => by
    have other : a ≠ Reg.FUS_STR_STIME_LO i ∧ a ≠ Reg.FUS_STR_STIME_HI i := by
      obtain rfl | rfl := ha <;>
        simp only [Reg.FUS_STR_STAMP_LO, Reg.FUS_STR_STAMP_HI, Reg.FUS_STR_STIME_LO, Reg.FUS_STR_STIME_HI] <;> omega
    unfold State.put64
    rw [State.reg_setReg_ne _ _ _ _ other.2, State.reg_setReg_ne _ _ _ _ other.1]
  simp only [State.get64, apart _ (.inl rfl), apart _ (.inr rfl)]

/-! ### One stream among all -/

theorem foldOver_others {α : Type} {f : State → α → State} {s : State} : ∀ {l : List α}, (∀ j ∈ l, f s j = s) → foldOver f s l = s
  | [], _ => rfl
  | a :: l, h => by
    rw [foldOver_cons, h a List.mem_cons_self]
    exact foldOver_others fun j hj => h j (List.mem_cons_of_mem _ hj)

/-- A repetition that acts on one element alone. -/
theorem foldOver_only {f : State → Nat → State} {s : State} {i : Nat} {l : List Nat} (nodup : l.Nodup) (mem : i ∈ l)
    (before : ∀ j ∈ l, j ≠ i → f s j = s) (after : ∀ j ∈ l, j ≠ i → f (f s i) j = f s i) : foldOver f s l = f s i := by
  obtain ⟨l1, l2, rfl⟩ := List.append_of_mem mem
  obtain ⟨-, nodup2, apart⟩ := List.nodup_append.mp nodup
  have fresh1 : ∀ j ∈ l1, j ≠ i := fun j hj => apart j hj i List.mem_cons_self
  have fresh2 : ∀ j ∈ l2, j ≠ i := fun j hj e => (List.nodup_cons.mp nodup2).1 (e ▸ hj)
  rw [foldOver_append, foldOver_others fun j hj => before j (List.mem_append_left _ hj) (fresh1 j hj), foldOver_cons,
    foldOver_others fun j hj => after j (List.mem_append_right _ (List.mem_cons_of_mem _ hj)) (fresh2 j hj)]

theorem upFrom_nodup (n k : Nat) : (upFrom k n).Nodup := by
  rw [upFrom_eq_range']
  exact List.nodup_range'

theorem takesInput_of_onStream {i j kind index : Nat} {b s : State} (h : OnStream (arriveFoot i) i b s) (hj : j < 20) (other : j ≠ i) :
    takesInput s j kind index = takesInput b j kind index := by
  have die : s.die = b.die := h.within_.part .die (by simp [arriveFoot])
  have now_ : s.now = b.now := h.within_.part .now (by simp [arriveFoot])
  have kind_ : s.get (F.FUS_STR_CFG_KIND j) = b.get (F.FUS_STR_CFG_KIND j) := h.within_.get (arriveFoot_cfg i hj)
  have index_ : s.get (F.FUS_STR_CFG_INDEX j) = b.get (F.FUS_STR_CFG_INDEX j) := h.within_.get (arriveFoot_cfg i hj)
  simp only [takesInput, reconnectOver, die, now_, kind_, index_, h.streamRetired, h.others j other]

/-! ### Camera frames -/

theorem underHeld_none {f : State → State} {s : State} (h : s.fus.held = none) : underHeld f s = f s := by
  have settled : settleFusion s = s := by
    unfold settleFusion
    rw [h]
  unfold underHeld
  dsimp only
  rw [settled, h]

/-- A frame of the size that the stream of its camera takes. -/
def frameTaken (i lines len stime : Nat) (px : Pixels) (stamp : Nat) (s : State) : State :=
  offerInput i { stamp := stamp, tensor := cameraTensor len px, seen := [] }
    (unitArrives i 1 stamp (cropTensor lines len (cameraTensor len px)) (stampInput i stamp stime s))

/-- What a frame of a camera does to a stream below 16 that takes it. -/
theorem cameraFrameFor_taken {cam lines len stime stamp i : Nat} {px : Pixels} {s : State} (takes : takesInput s i 1 cam = true) (small : i < 16) :
    cameraFrameFor cam lines len stime px stamp s i =
      if (lines, len) ≠ ((inputArrives i s).get (F.FUS_PRJ_IMG_IMG_H i), (inputArrives i s).get (F.FUS_PRJ_IMG_IMG_W i)) ∨
          largerThanLargest lines len = true then skipInput i (inputArrives i s)
      else frameTaken i lines len stime px stamp (inputArrives i s) := by
  unfold cameraFrameFor
  simp only [takes, Bool.not_true, Bool.false_eq_true, if_false, small, if_true]
  rfl

theorem frameTaken_stream (i lines len stime : Nat) (px : Pixels) (stamp : Nat) (s : State) :
    OnStream (arriveFoot i) i s (frameTaken i lines len stime px stamp s) :=
  (stampInput_stream i stamp stime s).trans
    (((unitArrives_stream i i 1 stamp _ _).trans (offerInput_stream i _ _)).grow (offerFoot_sub i))

theorem cameraFrameFor_stream {cam lines len stime stamp i : Nat} {px : Pixels} {s : State} (takes : takesInput s i 1 cam = true) (small : i < 16)
    (hi : i < s.fus.streams.length) : OnStream (arriveFoot i) i s (cameraFrameFor cam lines len stime px stamp s i) := by
  rw [cameraFrameFor_taken takes small]
  exact .ite ((inputArrives_result hi).1.trans ((skipInput_stream i _).grow (offerFoot_sub i)))
    ((inputArrives_result hi).1.trans (frameTaken_stream ..))

theorem cameraFrameFor_idle {cam lines len stime stamp i : Nat} {px : Pixels} {s : State} (takes : takesInput s i 1 cam = false) :
    cameraFrameFor cam lines len stime px stamp s i = s := by
  simp [cameraFrameFor, takes]

/-- A frame of a camera that one stream takes acts on that stream alone. -/
theorem cameraFrame_only {cam lines len stime i : Nat} {px : CameraData} {s : State} (takes : takesInput s i 1 cam = true) (small : i < 16)
    (first_ : px.channel = 0) (hi : i < s.fus.streams.length) (others : ∀ j, j < 20 → j ≠ i → takesInput s j 1 cam = false) :
    cameraFrame cam lines len stime px s = cameraFrameFor cam lines len stime px.pixels (deviceTime s) s i := by
  have acts := cameraFrameFor_stream (lines := lines) (len := len) (stime := stime) (stamp := deviceTime s) (px := px.pixels) takes small hi
  unfold cameraFrame
  rw [if_neg (by simp [first_])]
  refine foldOver_only (upFrom_nodup 20 0) (by simp; omega) (fun j hj other => ?_) fun j hj other => ?_
  · exact cameraFrameFor_idle (others j (by simpa using hj) other)
  · refine cameraFrameFor_idle ?_
    rw [takesInput_of_onStream acts (by simpa using hj) other]
    exact others j (by simpa using hj) other

/-- The size of the picture that a stream takes stands while its input arrives. -/
theorem arriveFoot_image (i : Nat) {j : Nat} (hj : j < 16) : (arriveFoot i).touches (Reg.FUS_PRJ_IMG j) = false ∨ 16 ≤ i := by
  by_cases hi : i < 16
  · refine .inl (touches_eq_false ?_ (by simp only [Reg.FUS_PRJ_IMG]; omega) (by simp [raisePlaces, Reg.FUS_PRJ_IMG]; omega))
    simp only [arriveFoot, arriveReg, Reg.FUS_PRJ_IMG, Bool.or_eq_false_iff, decide_eq_false_iff_not]
    omega
  · exact .inr (by omega)

/-- A stream that is not reconnecting notes the time of its input only. -/
theorem inputArrives_steady {i : Nat} {s : State} (hi : i < s.fus.streams.length) (steady : (stream s i).reconnectAt = none) :
    inputArrives i s = modStream i (fun y => { y with lastInput := s.now }) s := by
  have own := stream_modStream (fun y => { y with lastInput := s.now }) hi
  unfold inputArrives
  dsimp only
  rw [own, steady]

/-- What units and the model of a stream leave of its stamps. -/
theorem offerFoot_stamps (i : Nat) (small : i < 16) {s u : State} (h : Within (offerFoot i) s u) :
    u.get64 (Reg.FUS_STR_STAMP_LO i) (Reg.FUS_STR_STAMP_HI i) = s.get64 (Reg.FUS_STR_STAMP_LO i) (Reg.FUS_STR_STAMP_HI i) ∧
      u.get64 (Reg.FUS_STR_STIME_LO i) (Reg.FUS_STR_STIME_HI i) = s.get64 (Reg.FUS_STR_STIME_LO i) (Reg.FUS_STR_STIME_HI i) := by
  have free : ∀ k, 0 < k → k ≤ 16 → (offerFoot i).touches (0xA010C + k + 0x20 * i) = false := fun k low high =>
    offerFoot_free (by omega) (by omega) (by simp only [Reg.FUS_STR_STATE]; omega)
  exact ⟨h.get64 (free 4 (by decide) (by decide)) (free 8 (by decide) (by decide)),
    h.get64 (free 12 (by decide) (by decide)) (free 16 (by decide) (by decide))⟩

/-- What a frame that is taken leaves of its stream. -/
theorem frameTaken_result (i lines len : Nat) (stime : BitVec 64) (px : Pixels) (stamp : Nat) {s : State} (small : i < 16)
    (hi : i < s.fus.streams.length) (hs : s.regsWf = true) :
    (frameTaken i lines len stime.toNat px stamp s).get64 (Reg.FUS_STR_STAMP_LO i) (Reg.FUS_STR_STAMP_HI i) = stamp % 2 ^ 64 ∧
      (frameTaken i lines len stime.toNat px stamp s).get64 (Reg.FUS_STR_STIME_LO i) (Reg.FUS_STR_STIME_HI i) = stime.toNat ∧
      (stream (frameTaken i lines len stime.toNat px stamp s) i).lastInput = (stream s i).lastInput ∧
      (stream (frameTaken i lines len stime.toNat px stamp s) i).reconnectAt = (stream s i).reconnectAt := by
  obtain ⟨stamp_, stime_⟩ := stampInput_result i stamp stime hs
  have fus : (stampInput i stamp stime.toNat s).fus = s.fus := rfl
  unfold frameTaken
  generalize stampInput i stamp stime.toNat s = t at stamp_ stime_ fus
  generalize hu : unitArrives i 1 stamp (cropTensor lines len (cameraTensor len px)) t = u
  have units : OnStream (offerFoot i) i t u := hu ▸ unitArrives_stream i i 1 stamp _ t
  have ufus : u.fus = s.fus := (hu ▸ unitArrives_streams i 1 stamp _ t : u.fus = t.fus).trans fus
  have ui : i < u.fus.streams.length := by rw [ufus]; exact hi
  have same : stream u i = stream s i := by simp only [stream, ufus]
  generalize hx : ({ stamp := stamp, tensor := cameraTensor len px, seen := [] } : StreamInput) = x
  obtain ⟨stamps, times⟩ := offerFoot_stamps i small (units.within_.trans (offerInput_stream i x u).within_)
  refine ⟨stamps.trans stamp_, times.trans stime_, ?_, ?_⟩
  · rw [offerInput_own StreamPart.lastInput (fun _ _ _ _ => rfl) x ui, same]
  · rw [offerInput_own StreamPart.reconnectAt (fun _ _ _ _ => rfl) x ui, same]

/-- A frame of the right size is stamped and noted. -/
theorem cameraFrame_fits {cam lines len i : Nat} {stime : BitVec 64} {px : CameraData} {b : State} (small : i < 16) (sound : b.sound = true)
    (takes : takesInput b i 1 cam = true) (first_ : px.channel = 0) (low : lines ≤ 2160) (narrow : len ≤ 3840)
    (others : ∀ j, j < 20 → j ≠ i → takesInput b j 1 cam = false)
    (height : lines = b.get (F.FUS_PRJ_IMG_IMG_H i)) (width : len = b.get (F.FUS_PRJ_IMG_IMG_W i)) (u : State)
    (hu : u = cameraFrame cam lines len stime.toNat px b) :
    u.get64 (Reg.FUS_STR_STAMP_LO i) (Reg.FUS_STR_STAMP_HI i) = deviceTime b % 2 ^ 64 ∧
      u.get64 (Reg.FUS_STR_STIME_LO i) (Reg.FUS_STR_STIME_HI i) = stime.toNat ∧ (stream u i).lastInput = b.now ∧
      (stream u i).reconnectAt = none ∧ ∀ j, j < 20 → j ≠ i → stream u j = stream b j := by
  have hi : i < b.fus.streams.length := by rw [streams_length_of_sound sound]; omega
  have hs := regsWf_of_sound sound
  obtain ⟨arrives, input, back⟩ := inputArrives_result hi
  have free := (arriveFoot_image i small).resolve_right (by omega)
  have height' : (inputArrives i b).get (F.FUS_PRJ_IMG_IMG_H i) = lines := (arrives.within_.get free).trans height.symm
  have width' : (inputArrives i b).get (F.FUS_PRJ_IMG_IMG_W i) = len := (arrives.within_.get free).trans width.symm
  have acts := cameraFrameFor_stream (lines := lines) (len := len) (stime := stime.toNat) (stamp := deviceTime b) (px := px.pixels) takes small hi
  rw [cameraFrame_only takes small first_ hi others] at hu
  have taken : u = frameTaken i lines len stime.toNat px.pixels (deviceTime b) (inputArrives i b) := by
    rw [hu, cameraFrameFor_taken takes small, height', width', if_neg (by simp [largerThanLargest]; omega)]
  obtain ⟨stamp_, stime_, last_, ends⟩ := frameTaken_result i lines len stime px.pixels (deviceTime b) small
    (by rw [arrives.size]; exact hi) (arrives.within_.wf hs)
  refine ⟨taken ▸ stamp_, taken ▸ stime_, ?_, ?_, fun j _ other => hu ▸ acts.others j other⟩
  · rw [taken, last_, input]
  · rw [taken, ends, back]

/-- A frame of another size is skipped. -/
theorem cameraFrame_skips {cam lines len i : Nat} {stime : BitVec 64} {px : CameraData} {b : State} (small : i < 16) (sound : b.sound = true)
    (takes : takesInput b i 1 cam = true) (first_ : px.channel = 0) (steady : (stream b i).reconnectAt = none)
    (others : ∀ j, j < 20 → j ≠ i → takesInput b j 1 cam = false)
    (size : lines ≠ b.get (F.FUS_PRJ_IMG_IMG_H i) ∨ len ≠ b.get (F.FUS_PRJ_IMG_IMG_W i)) (u : State)
    (hu : u = cameraFrame cam lines len stime.toNat px b) :
    u.get (F.FUS_STR_STATE_SKIPS i) = satN (F.FUS_STR_STATE_SKIPS i).width (b.get (F.FUS_STR_STATE_SKIPS i) + 1) ∧
      (stream u i).newest = (stream b i).newest ∧ (stream u i).running = (stream b i).running ∧ u.dma = b.dma ∧
      FieldsKept [F.FUS_STR_STATE_SKIPS i] b u := by
  have hi : i < b.fus.streams.length := by rw [streams_length_of_sound sound]; omega
  have hs := regsWf_of_sound sound
  have own := stream_modStream (fun y => { y with lastInput := b.now }) hi
  rw [cameraFrame_only takes small first_ hi others, cameraFrameFor_taken takes small, inputArrives_steady hi steady] at hu
  have regs : (modStream i (fun y => { y with lastInput := b.now }) b).regs = b.regs := rfl
  have dma : (modStream i (fun y => { y with lastInput := b.now }) b).dma = b.dma := rfl
  generalize modStream i (fun y => { y with lastInput := b.now }) b = v at hu own regs dma
  have get_ : ∀ f : Fld, v.get f = b.get f := State.get_of_regs regs
  rw [get_, get_, if_pos (.inl (by simpa [imp_iff_not_or] using size))] at hu
  have fits : (F.FUS_STR_STATE_SKIPS i).fits = true := rfl
  have wf : v.regsWf = true := by simpa only [State.regsWf, regs] using hs
  subst hu
  refine ⟨?_, ?_, ?_, dma, fun g other => ?_⟩
  · rw [skipInput, State.bump, State.get_put_satN fits wf, get_]
  · rw [show stream (skipInput i v) i = stream v i from rfl, own]
  · rw [show stream (skipInput i v) i = stream v i from rfl, own]
  · exact (fieldsKept_put fits wf _ g other).trans (get_ g)

/-! ### Blocks of direct streams -/

/-- What a sample does to the streams, one after the other. -/
def gatherStep (kind index : Nat) (v : Int) (stamp : Nat) (s : State) (i : Nat) : State :=
  if gathers s kind index i then modStream i (fun y => { y with gathered := y.gathered ++ [(v, stamp)] }) s else s

theorem gatherSample_eq (kind index : Nat) (v : Int) (stamp : Nat) (s : State) :
    gatherSample kind index v stamp s = foldOver (gatherStep kind index v stamp) s (upFrom 0 16) := rfl

section
variable {kind index stamp i : Nat} {v : Int}

theorem gatherStep_size (s : State) (j : Nat) :
    (gatherStep kind index v stamp s j).fus.streams.length = s.fus.streams.length := by
  unfold gatherStep
  split
  · exact streams_length_modStream _ _ _
  · rfl

theorem gatherStep_other {j : Nat} (other : i ≠ j) (s : State) : stream (gatherStep kind index v stamp s j) i = stream s i := by
  unfold gatherStep
  split
  · exact stream_modStream_ne other _ _
  · rfl

theorem gatherStep_gathers {j : Nat} (other : i ≠ j) (s : State) :
    gathers (gatherStep kind index v stamp s j) kind index i = gathers s kind index i := by
  have own := gatherStep_other (kind := kind) (index := index) (v := v) (stamp := stamp) other s
  revert own
  unfold gatherStep
  split
  · intro own
    simp only [gathers, takesInput, reconnectOver, own]
    rfl
  · exact fun _ => rfl

/-- The steps for other streams leave a stream, and whether it gathers. -/
theorem gatherSteps_others : ∀ {l : List Nat}, i ∉ l → ∀ s : State,
    stream (foldOver (gatherStep kind index v stamp) s l) i = stream s i ∧
      gathers (foldOver (gatherStep kind index v stamp) s l) kind index i = gathers s kind index i ∧
      (foldOver (gatherStep kind index v stamp) s l).fus.streams.length = s.fus.streams.length
  | [], _, _ => ⟨rfl, rfl, rfl⟩
  | j :: l, fresh, s => by
    obtain ⟨other, rest⟩ := not_or.mp (mt List.mem_cons.mpr fresh)
    obtain ⟨own, still, size⟩ := gatherSteps_others rest (gatherStep kind index v stamp s j)
    exact ⟨own.trans (gatherStep_other other s), still.trans (gatherStep_gathers other s), size.trans (gatherStep_size s j)⟩

/-- A stream that gathers a sample appends it to what it has gathered. -/
theorem gatherSample_gathered (small : i < 16) {s : State} (hi : i < s.fus.streams.length) (takes : gathers s kind index i = true) :
    (stream (gatherSample kind index v stamp s) i).gathered = (stream s i).gathered ++ [(v, stamp)] := by
  obtain ⟨l1, l2, split_⟩ := List.append_of_mem (show i ∈ upFrom 0 16 by simpa using small)
  have nodup := upFrom_nodup 16 0
  rw [split_] at nodup
  obtain ⟨-, nodup2, apart⟩ := List.nodup_append.mp nodup
  have fresh1 : i ∉ l1 := fun mem => apart i mem i List.mem_cons_self rfl
  have fresh2 : i ∉ l2 := (List.nodup_cons.mp nodup2).1
  obtain ⟨own1, still1, size1⟩ := gatherSteps_others (kind := kind) (index := index) (v := v) (stamp := stamp) fresh1 s
  rw [gatherSample_eq, split_, foldOver_append, foldOver_cons]
  generalize foldOver (gatherStep kind index v stamp) s l1 = t at own1 still1 size1
  have own : stream (gatherStep kind index v stamp t i) i = { stream s i with gathered := (stream s i).gathered ++ [(v, stamp)] } := by
    rw [gatherStep, if_pos (still1.trans takes), stream_modStream _ (by rw [size1]; exact hi), own1]
  rw [(gatherSteps_others fresh2 _).1, own]

end

/-- What a block of a direct stream does. -/
def blockTaken (i e stamp : Nat) (make : DataStream → Bytes) (x : State → StreamInput) (s : State) : State :=
  let s := modStream i (fun y => { y with gathered := y.gathered.drop (2 ^ e) }) s
  let s := unitArrives i 1 stamp make (s.put64 (Reg.FUS_STR_STAMP_LO i) (Reg.FUS_STR_STAMP_HI i) stamp)
  offerInput i (x s) s

theorem blockTaken_result {i e stamp : Nat} {make : DataStream → Bytes} {x : State → StreamInput} {s : State} (small : i < 16)
    (hi : i < s.fus.streams.length) (hs : s.regsWf = true) :
    (blockTaken i e stamp make x s).get64 (Reg.FUS_STR_STAMP_LO i) (Reg.FUS_STR_STAMP_HI i) = stamp % 2 ^ 64 ∧
      (stream (blockTaken i e stamp make x s) i).gathered = (stream s i).gathered.drop (2 ^ e) ∧
      ∀ j, j ≠ i → stream (blockTaken i e stamp make x s) j = stream s j := by
  unfold blockTaken
  dsimp only
  have own := stream_modStream (fun y => { y with gathered := y.gathered.drop (2 ^ e) }) hi
  have others : ∀ j, j ≠ i → stream (modStream i (fun y => { y with gathered := y.gathered.drop (2 ^ e) }) s) j = stream s j :=
    fun j other => stream_modStream_ne other _ s
  have size := streams_length_modStream i (fun y => { y with gathered := y.gathered.drop (2 ^ e) }) s
  have wf : (modStream i (fun y => { y with gathered := y.gathered.drop (2 ^ e) }) s).regsWf = true := hs
  generalize modStream i (fun y => { y with gathered := y.gathered.drop (2 ^ e) }) s = t at own others size wf
  have stamped := State.get64_put64 (lo := Reg.FUS_STR_STAMP_LO i) (hi := Reg.FUS_STR_STAMP_HI i)
    (by simp only [Reg.FUS_STR_STAMP_LO, Reg.FUS_STR_STAMP_HI]; omega) stamp wf
  have fus : (t.put64 (Reg.FUS_STR_STAMP_LO i) (Reg.FUS_STR_STAMP_HI i) stamp).fus = t.fus := rfl
  generalize t.put64 (Reg.FUS_STR_STAMP_LO i) (Reg.FUS_STR_STAMP_HI i) stamp = v at stamped fus
  have units := unitArrives_stream i i 1 stamp make v
  have ufus := (unitArrives_streams i 1 stamp make v).trans fus
  generalize unitArrives i 1 stamp make v = u at units ufus
  have ui : i < u.fus.streams.length := by rw [ufus, size]; exact hi
  have offers := offerInput_stream i (x u) u
  obtain ⟨stamps, -⟩ := offerFoot_stamps i small (units.within_.trans offers.within_)
  refine ⟨stamps.trans stamped, ?_, fun j other => ?_⟩
  · rw [offerInput_own StreamPart.gathered (fun _ _ _ _ => rfl) (x u) ui, stream, ufus, ← stream, own]
  · rw [offers.others j other, stream, ufus, ← stream, others j other]

/-- The last sample of a block. -/
theorem take_getLast {α : Type} (l : List α) {n : Nat} (d : α) (pos : 0 < n) (enough : n ≤ l.length) : (l.take n).getLastD d = nth l (n - 1) d := by
  rw [nth_eq_getD, List.getLastD_eq_getLast?, List.getLast?_take, if_neg (by omega), List.getD_eq_getElem?_getD]
  rw [List.getElem?_eq_getElem (by omega)]
  rfl

/-- A direct stream with enough samples takes a block of them. -/
theorem directBlock_takes {i : Nat} {s : State} (up : s.die.yardUp = true) (kept : streamRetired s i = false) (low : 3 ≤ s.get (F.FUS_STR_CFG_KIND i))
    (high : s.get (F.FUS_STR_CFG_KIND i) ≤ 5) (long : 4 ≤ s.get (F.FUS_STR_CFG_BLOCK_LOG2 i)) (short : s.get (F.FUS_STR_CFG_BLOCK_LOG2 i) ≤ 12)
    (enough : 2 ^ s.get (F.FUS_STR_CFG_BLOCK_LOG2 i) ≤ (stream s i).gathered.length) : ∃ make x, directBlock i s =
      blockTaken i (s.get (F.FUS_STR_CFG_BLOCK_LOG2 i))
        (nth (stream s i).gathered (2 ^ s.get (F.FUS_STR_CFG_BLOCK_LOG2 i) - 1) (0, 0)).2 make x s := by
  have kind : (s.get (F.FUS_STR_CFG_KIND i) == 3 || s.get (F.FUS_STR_CFG_KIND i) == 4 || s.get (F.FUS_STR_CFG_KIND i) == 5) = true := by
    simp only [Bool.or_eq_true, beq_iff_eq]
    omega
  rw [← take_getLast _ _ (Nat.two_pow_pos _) enough]
  unfold directBlock
  dsimp only
  rw [if_neg (by simp [up, kept, kind, List.length_take]; omega)]
  generalize s.get (F.FUS_STR_CFG_BLOCK_LOG2 i) = e
  generalize hl : (stream s i).gathered.take (2 ^ e) = l
  refine ⟨fun _ => l.flatMap (fun x => leBytes 2 (toBits 16 x.1)), fun u => ({
    stamp := (l.getLastD (0, 0)).2
    tensor := l.map (fun x => directSample (s.get (F.FUS_STR_CFG_KIND i)) (u.get (F.FUS_STR_CFG_SHIFT i)) x.1)
    seen := [] } : StreamInput), ?_⟩
  unfold blockTaken
  dsimp only

/-- A direct stream with too few samples waits for more. -/
theorem directBlock_waits {i : Nat} {s : State} (few : (stream s i).gathered.length < 2 ^ s.get (F.FUS_STR_CFG_BLOCK_LOG2 i)) :
    directBlock i s = s := by
  unfold directBlock
  dsimp only
  rw [if_pos (by simp [List.length_take, few])]

/-! ### Completed invocations -/

/-- A completed invocation numbers its output and ends. -/
def invocationEnded (i serial : Nat) (o : StreamOutput) (s : State) : State :=
  modStream i (fun y => { y with running := none, serial := serial, sent := [], newest := some o }) s

/-- The model of a stream takes the input that waits, or none. -/
def nextInvocation (i : Nat) (s : State) : State :=
  match (stream s i).waiting, streamModel s i with
  | some x, some b =>
    if rateAllows (stream s i) (mRate b) x.stamp then startInvocation i b x s
    else skipInput i (modStream i (fun y => { y with waiting := none }) s)
  | _, _ => s

theorem invocationDone_running {i : Nat} {v : Invocation} {s : State} (runs : (stream s i).running = some v) : ∃ o make,
    o.stamp = v.input.stamp ∧ o.serial = ((stream s i).serial + 1) % 65536 ∧ invocationDone i s =
      nextInvocation i (unitArrives i 2 v.input.stamp make (invocationEnded i (((stream s i).serial + 1) % 65536) o s)) := by
  unfold invocationDone
  rw [runs]
  exact ⟨_, _, rfl, rfl, rfl⟩

/-- What the next invocation does to a stream that has just completed one. -/
theorem nextInvocation_result {i : Nat} {s : State} (hi : i < s.fus.streams.length) (model : (streamModel s i).isSome = true) :
    (stream (nextInvocation i s) i).serial = (stream s i).serial ∧ (stream (nextInvocation i s) i).newest = (stream s i).newest ∧
      (stream (nextInvocation i s) i).waiting = none ∧ ((stream s i).waiting = none → nextInvocation i s = s) := by
  obtain ⟨b, hb⟩ := Option.isSome_iff_exists.mp model
  unfold nextInvocation
  rw [hb]
  cases hw : (stream s i).waiting with
  | none => exact ⟨rfl, rfl, hw, fun _ => rfl⟩
  | some x =>
    dsimp only
    have own : ∀ f, stream (modStream i f s) i = f (stream s i) := fun f => stream_modStream f hi
    split
    · refine ⟨?_, ?_, ?_, by simp⟩ <;> rw [startInvocation, own]
    · refine ⟨?_, ?_, ?_, by simp⟩ <;>
        rw [show stream (skipInput i (modStream i (fun y => { y with waiting := none }) s)) i =
          stream (modStream i (fun y => { y with waiting := none }) s) i from rfl, own]

/-- The model of a stream stands while its units leave. -/
theorem streamModel_of_within {i : Nat} (hi : i < 20) {s u : State} (h : Within (offerFoot i) s u) : streamModel u i = streamModel s i := by
  have free : (offerFoot i).touches (F.FUS_STR_CFG_MODEL i).addr = false := offerFoot_free
    (by simp only [F.FUS_STR_CFG_MODEL, Reg.FUS_STR_CFG]; omega) (by simp only [F.FUS_STR_CFG_MODEL, Reg.FUS_STR_CFG]; omega)
    (by simp only [F.FUS_STR_CFG_MODEL, Reg.FUS_STR_CFG, Reg.FUS_STR_STATE]; omega)
  rw [streamModel, streamModel, yardSet_of_within h (by simp [offerFoot]), h.get free]

theorem invocationDone_result {i : Nat} {v : Invocation} {b : State} (small : i < 20) (sound : b.sound = true)
    (runs : (stream b i).running = some v) (model : (streamModel b i).isSome = true) :
    (stream (invocationDone i b) i).serial = ((stream b i).serial + 1) % 65536 ∧ (stream (invocationDone i b) i).waiting = none ∧
      (∃ o, (stream (invocationDone i b) i).newest = some o ∧ o.stamp = v.input.stamp ∧ o.serial = (stream (invocationDone i b) i).serial) ∧
      ((stream b i).waiting = none → (stream (invocationDone i b) i).running = none) := by
  have hi : i < b.fus.streams.length := by rw [streams_length_of_sound sound]; exact small
  obtain ⟨o, make, stamp_, serial_, done⟩ := invocationDone_running runs
  rw [done]
  generalize ((stream b i).serial + 1) % 65536 = n at serial_ ⊢
  have own : stream (invocationEnded i n o b) i = { stream b i with running := none, serial := n, sent := [], newest := some o } :=
    stream_modStream _ hi
  have size : (invocationEnded i n o b).fus.streams.length = b.fus.streams.length := streams_length_modStream _ _ _
  have ended : Within (offerFoot i) b (invocationEnded i n o b) := fus_within .refl (offerFoot_fus i)
  generalize invocationEnded i n o b = t at own size ended
  have units := (unitArrives_stream i i 2 v.input.stamp make t).within_
  have ufus := unitArrives_streams i 2 v.input.stamp make t
  generalize unitArrives i 2 v.input.stamp make t = u at units ufus
  have uown : stream u i = { stream b i with running := none, serial := n, sent := [], newest := some o } := by
    rw [stream, ufus, ← stream, own]
  obtain ⟨serial', newest', waiting', idle⟩ := nextInvocation_result (i := i) (s := u) (by rw [ufus, size]; exact hi)
    (by rw [streamModel_of_within small (ended.trans units)]; exact model)
  refine ⟨serial'.trans (by rw [uown]), waiting', ⟨o, newest'.trans (by rw [uown]), stamp_, ?_⟩, fun none_ => ?_⟩
  · rw [serial', uown, serial_]
  · rw [idle (by rw [uown]; exact none_), uown]

/-! ### The loss and the retirement of a stream -/

/-- What the loss of a stream may change. -/
def streamFoot : Footprint where
  reg a := decide (0x90000 ≤ a ∧ a < 0x91000) || decide (0xA0100 ≤ a ∧ a < 0xA2000) || a == Reg.EVR_RETIRE || a == Reg.PWR_OUT_STAT
  parts := [.fus, .dma, .log]

theorem streamFoot_own {a : Nat} (low : 0xA0100 ≤ a) (high : a < 0xA2000) : streamFoot.reg a = true := by
  simp [streamFoot, low, high]

theorem streamFoot_state {i : Nat} (hi : i < 20) : streamFoot.reg (Reg.FUS_STR_STATE i) = true :=
  streamFoot_own (by simp only [Reg.FUS_STR_STATE]; omega) (by simp only [Reg.FUS_STR_STATE]; omega)

/-- Events and faults leave the state of a stream. -/
theorem logFoot_streamState {w : Footprint} {i : Nat} (hi : i < 20) (free : w.reg (Reg.FUS_STR_STATE i) = false) :
    w.touches (Reg.FUS_STR_STATE i) = false :=
  touches_eq_false free (by simp only [Reg.FUS_STR_STATE]; omega) (by simp [raisePlaces, Reg.FUS_STR_STATE]; omega)

theorem reconnect_result {i : Nat} (small : i < 20) {s : State} (hi : i < s.fus.streams.length) (hs : s.regsWf = true) :
    Within streamFoot s (reconnect i s) ∧ (stream (reconnect i s) i).reconnectAt = some s.now ∧
      (reconnect i s).get (F.FUS_STR_STATE_STATE i) = stReconnecting ∧
      (reconnect i s).get (F.FUS_STR_STATE_RECONNECTS i) =
        satN (F.FUS_STR_STATE_RECONNECTS i).width (s.get (F.FUS_STR_STATE_RECONNECTS i) + 1) := by
  have own := congrArg StreamPart.reconnectAt (stream_modStream (fun y => { y with reconnectAt := some s.now }) hi)
  have noted : Within streamFoot s (modStream i (fun y => { y with reconnectAt := some s.now }) s) := fus_within .refl (by decide)
  have regs : (modStream i (fun y => { y with reconnectAt := some s.now }) s).regs = s.regs := rfl
  unfold reconnect
  dsimp only
  generalize modStream i (fun y => { y with reconnectAt := some s.now }) s = t at own noted regs
  have cleared : Within streamFoot t
      (if t.get (F.FUS_STR_CFG_KIND i) = 1 then t.putBit F.PWR_OUT_STAT_CAM_LIMIT (t.get (F.FUS_STR_CFG_INDEX i)) false else t) :=
    ite_within (put_within .refl (by decide)) .refl
  have fus : (if t.get (F.FUS_STR_CFG_KIND i) = 1 then t.putBit F.PWR_OUT_STAT_CAM_LIMIT (t.get (F.FUS_STR_CFG_INDEX i)) false else t).fus =
      t.fus := by split <;> rfl
  have count : (if t.get (F.FUS_STR_CFG_KIND i) = 1 then t.putBit F.PWR_OUT_STAT_CAM_LIMIT (t.get (F.FUS_STR_CFG_INDEX i)) false else t).get
      (F.FUS_STR_STATE_RECONNECTS i) = s.get (F.FUS_STR_STATE_RECONNECTS i) := by
    split
    · have other : Reg.FUS_STR_STATE i ≠ Reg.PWR_OUT_STAT := by simp only [Reg.FUS_STR_STATE, Reg.PWR_OUT_STAT]; omega
      rw [State.putBit, State.get, State.reg_put_ne _ _ _ _ other, ← State.get, State.get_of_regs regs]
    · exact State.get_of_regs regs _
  generalize (if t.get (F.FUS_STR_CFG_KIND i) = 1 then t.putBit F.PWR_OUT_STAT_CAM_LIMIT (t.get (F.FUS_STR_CFG_INDEX i)) false else t) = v
    at cleared fus count
  have wf : v.regsWf = true := (noted.trans cleared).wf hs
  have stateFits : (F.FUS_STR_STATE_STATE i).fits = true := rfl
  have countFits : (F.FUS_STR_STATE_RECONNECTS i).fits = true := rfl
  have apart : (F.FUS_STR_STATE_STATE i).apart (F.FUS_STR_STATE_RECONNECTS i) = true := by simp [Fld.apart, Fld.fits, F.FUS_STR_STATE_STATE, F.FUS_STR_STATE_RECONNECTS]
  have apart' : (F.FUS_STR_STATE_RECONNECTS i).apart (F.FUS_STR_STATE_STATE i) = true := by simp [Fld.apart, Fld.fits, F.FUS_STR_STATE_STATE, F.FUS_STR_STATE_RECONNECTS]
  have wf' : (v.put (F.FUS_STR_STATE_STATE i) stReconnecting).regsWf = true := State.regsWf_put _ _ _ wf
  refine ⟨bump_within (put_within (noted.trans cleared) (streamFoot_state small)) (streamFoot_state small), ?_, ?_, ?_⟩
  · rw [show stream ((v.put (F.FUS_STR_STATE_STATE i) stReconnecting).bump (F.FUS_STR_STATE_RECONNECTS i) 1) i = stream t i from
      congrArg (fun p : FusionPart => nth p.streams i {}) fus]
    exact own
  · rw [State.bump, State.get_put_of_apart apart' wf', State.get_put_of_lt stateFits (by simp [stReconnecting, F.FUS_STR_STATE_STATE]) wf]
  · rw [State.bump, State.get_put_satN countFits wf', State.get_put_of_apart apart wf, count]

theorem closeDataOf_ev (p : Nat → Bool) (s : State) : (closeDataOf p s).ev = s.ev :=
  foldOver_keeps State.ev (fun s n => closeData n s) (fun _ _ => rfl) _ _
theorem closeDataOf_fus (p : Nat → Bool) (s : State) : (closeDataOf p s).fus = s.fus :=
  foldOver_keeps State.fus (fun s n => closeData n s) (fun _ _ => rfl) _ _

theorem retire_fus (kind cause index unit : Nat) (s : State) : (retire kind cause index unit s).fus = s.fus := by
  unfold retire
  split <;> simp [raise0]

theorem dmaFoot_sub_streamFoot : dmaFoot.Sub streamFoot where
  reg a h := by
    simp only [dmaFoot, spanFoot, decide_eq_true_eq] at h
    simp [streamFoot, h]
  parts := by simp [dmaFoot, spanFoot, streamFoot]

theorem retireStream_result {i : Nat} (small : i < 20) {s : State} (hi : i < s.fus.streams.length) (hs : s.regsWf = true) :
    Within streamFoot s (retireStream i s) ∧ streamRetired (retireStream i s) i = true ∧ (stream (retireStream i s) i).newest = none ∧
      (stream (retireStream i s) i).reconnectAt = none ∧ Flagged Src.FUS_STREAM_RETIRED (retireStream i s) := by
  have own := stream_modStream (fun y => { y with reconnectAt := none, running := none, waiting := none, newest := none }) hi
  have ended : Within streamFoot s (modStream i (fun y => { y with reconnectAt := none, running := none, waiting := none, newest := none }) s) :=
    fus_within .refl (by decide)
  unfold retireStream
  dsimp only
  generalize modStream i (fun y => { y with reconnectAt := none, running := none, waiting := none, newest := none }) s = t at own ended
  have out : Within streamFoot s (retire 3 0 i 0 t) := retire_within ended (by decide) (by decide)
  have is := retire_isRetired 3 0 i 0 t
  have fus := retire_fus 3 0 i 0 t
  generalize retire 3 0 i 0 t = r at out is fus
  unfold closeDataOfSlot
  have closed : Within streamFoot s (closeDataOf (fun n => r.get (F.DMA_STR_CFG_SLOT n) == i) r) :=
    out.trans ((closeDataOf_within .refl).mono dmaFoot_sub_streamFoot.reg dmaFoot_sub_streamFoot.parts)
  have cev := closeDataOf_ev (fun n => r.get (F.DMA_STR_CFG_SLOT n) == i) r
  have cfus := (closeDataOf_fus (fun n => r.get (F.DMA_STR_CFG_SLOT n) == i) r).trans fus
  generalize closeDataOf (fun n => r.get (F.DMA_STR_CFG_SLOT n) == i) r = c at closed cev cfus
  have shown : Within streamFoot s (fault 0x19 2 Src.FUS_STREAM_RETIRED i 0 0 0 (c.put (F.FUS_STR_STATE_STATE i) stRetired)) :=
    fault_within (put_within closed (streamFoot_state small)) (by decide)
  refine ⟨raise_within shown, ?_, ?_, ?_, flagged_raiseArg (by decide) (shown.wf hs)⟩
  · rw [streamRetired, isRetired_of_lists (s := r) 3 i 0 ⟨by simp [State.put, State.setReg, cev], by simp [State.put, State.setReg, cev]⟩]
    exact is
  · simp [stream, State.put, State.setReg, cfus]
    rw [← stream, own]
  · simp [stream, State.put, State.setReg, cfus]
    rw [← stream, own]

/-! ### The rows -/

theorem streamLost_reconnects {i : Nat} {b : State} (small : i < 20) (sound : b.sound = true) (watched : watchedStream b i = true)
    (steady : (stream b i).reconnectAt = none) (first_ : (stream b i).returnedAt = none)
    (late : max (stream b i).lastInput b.fus.since + 200 * ms ≤ b.now) :
    (stream (streamLost i b) i).reconnectAt = some b.now ∧ (streamLost i b).get (F.FUS_STR_STATE_STATE i) = stReconnecting ∧
      (streamLost i b).get (F.FUS_STR_STATE_RECONNECTS i) =
        satN (F.FUS_STR_STATE_RECONNECTS i).width (b.get (F.FUS_STR_STATE_RECONNECTS i) + 1) ∧ Flagged Src.FUS_STREAM_LOST (streamLost i b) := by
  have hs := regsWf_of_sound sound
  have missing : inputMissing b i = true := by
    rw [inputMissing, watched, steady, decide_eq_true late]
    rfl
  have lost : streamLost i b = reconnect i (raise Src.FUS_STREAM_LOST i b) := by
    unfold streamLost
    dsimp only
    rw [missing, first_]
    rfl
  have raised : Flagged Src.FUS_STREAM_LOST (raise Src.FUS_STREAM_LOST i b) := flagged_raiseArg (by decide) hs
  have event : Within ⟨fun _ => false, []⟩ b (raise Src.FUS_STREAM_LOST i b) := raise_within .refl
  have fus : (raise Src.FUS_STREAM_LOST i b).fus = b.fus := by simp
  have now_ : (raise Src.FUS_STREAM_LOST i b).now = b.now := by simp
  rw [lost]
  generalize raise Src.FUS_STREAM_LOST i b = r at raised event fus now_
  have wf := event.wf hs
  obtain ⟨tries, at_, state, count⟩ := reconnect_result small (s := r) (by rw [fus, streams_length_of_sound sound]; exact small) wf
  refine ⟨at_.trans (by rw [now_]), state, ?_, tries.flags wf _ (by decide) raised⟩
  rw [count, event.get (f := F.FUS_STR_STATE_RECONNECTS i) (logFoot_streamState small rfl)]

theorem streamLost_retires {i r : Nat} {b : State} (small : i < 20) (sound : b.sound = true) (watched : watchedStream b i = true)
    (steady : (stream b i).reconnectAt = none) (returned : (stream b i).returnedAt = some r)
    (late : max (stream b i).lastInput b.fus.since + 200 * ms ≤ b.now) (soon : b.now ≤ r + 10 * sec) :
    streamRetired (streamLost i b) i = true ∧ (stream (streamLost i b) i).newest = none ∧ Flagged Src.FUS_STREAM_LOST (streamLost i b) ∧
      Flagged Src.FUS_STREAM_RETIRED (streamLost i b) := by
  have hs := regsWf_of_sound sound
  have missing : inputMissing b i = true := by
    rw [inputMissing, watched, steady, decide_eq_true late]
    rfl
  have lost : streamLost i b = retireStream i (raise Src.FUS_STREAM_LOST i b) := by
    unfold streamLost
    dsimp only
    rw [missing, returned]
    rw [if_neg (by simp)]
    exact if_pos (by simpa using soon)
  have raised : Flagged Src.FUS_STREAM_LOST (raise Src.FUS_STREAM_LOST i b) := flagged_raiseArg (by decide) hs
  have event : Within ⟨fun _ => false, []⟩ b (raise Src.FUS_STREAM_LOST i b) := raise_within .refl
  have fus : (raise Src.FUS_STREAM_LOST i b).fus = b.fus := by simp
  rw [lost]
  generalize raise Src.FUS_STREAM_LOST i b = t at raised event fus
  have wf := event.wf hs
  obtain ⟨ends, out, empty, -, flagged⟩ := retireStream_result small (s := t) (by rw [fus, streams_length_of_sound sound]; exact small) wf
  exact ⟨out, empty, ends.flags wf _ (by decide) raised, flagged⟩

/-- The packets of a sweep before its last one join it. -/
theorem lidarDatagram_joins {port : Nat} {d : Bytes} {b : State} (up : b.die.yardUp = true) (mine : port = b.get F.FUS_LIDAR_PORT_UDP_PORT)
    (more : b.fus.sweep.packets + 1 < b.get F.FUS_LIDAR_PORT_SWEEP_PKTS) (u : State) (hu : u = lidarDatagram port d b) :
    u = { b with fus := { b.fus with sweep := u.fus.sweep } } ∧ u.fus.sweep.packets = b.fus.sweep.packets + 1 ∧
      u.fus.sweep.raw = b.fus.sweep.raw ++ d ∧ u.fus.sweep.points = b.fus.sweep.points ++ datagramPoints b d ∧
      (b.fus.sweep.packets = 0 → u.fus.sweep.stamp = deviceTime b) := by
  have get_ : ∀ w : SweepPart, ({ b with fus := { b.fus with sweep := w } } : State).get F.FUS_LIDAR_PORT_SWEEP_PKTS =
    b.get F.FUS_LIDAR_PORT_SWEEP_PKTS := fun _ => rfl
  unfold lidarDatagram at hu
  dsimp only at hu
  rw [if_neg (by simp [up, mine])] at hu
  by_cases fresh : b.fus.sweep.packets = 0
  · simp only [if_pos fresh] at hu
    rw [if_pos (by rw [get_]; exact more)] at hu
    subst hu
    exact ⟨rfl, rfl, rfl, rfl, fun _ => rfl⟩
  · simp only [if_neg fresh] at hu
    rw [if_pos (by rw [get_]; exact more)] at hu
    subst hu
    exact ⟨rfl, rfl, rfl, rfl, fun zero => absurd zero fresh⟩

/-- The last packet of a sweep empties it. -/
theorem lidarDatagram_ends {port : Nat} {d : Bytes} {b : State} (up : b.die.yardUp = true) (mine : port = b.get F.FUS_LIDAR_PORT_UDP_PORT)
    (last_ : b.get F.FUS_LIDAR_PORT_SWEEP_PKTS ≤ b.fus.sweep.packets + 1) : (lidarDatagram port d b).fus.sweep = {} := by
  have get_ : ∀ w : SweepPart, ({ b with fus := { b.fus with sweep := w } } : State).get F.FUS_LIDAR_PORT_SWEEP_PKTS =
    b.get F.FUS_LIDAR_PORT_SWEEP_PKTS := fun _ => rfl
  unfold lidarDatagram
  dsimp only
  rw [if_neg (by simp [up, mine]), if_neg]
  rw [get_]
  split <;> exact Nat.not_lt.mpr last_

/-- What an acoustic sample does where a direct stream gathers it. -/
theorem readInput_acoustic {i k : Nat} {c : BitVec 16} {b : State} (small : i < 16) (sound : b.sound = true) (power : powered b = true)
    (held : b.fus.held = none) (open_ : islandOpen b 1 = true) (instant_ : acousticInstant (deviceTime b) = true)
    (takes : gathers b 3 k i = true) (u : State) (hu : u = readInput (.acoustic k c) b) : u.fus.held = none ∧ RegsKept [] b u ∧
      (stream u i).gathered = (stream b i).gathered ++ [((c.toNat : Int), deviceTime b)] := by
  have hi : i < b.fus.streams.length := by rw [streams_length_of_sound sound]; omega
  have taken : takeReading (.acoustic k c) b =
      gatherSample 3 k c.toNat (deviceTime b) { b with inp := { b.inp with acoustic := putNum b.inp.acoustic k ((c.toNat : Int), deviceTime b) } } := by
    have under (t : State) (ht : t.fus.held = none) := underHeld_none (f := gatherSample 3 k c.toNat (deviceTime b)) ht
    rw [← under _ (by exact held)]
    simp [takeReading, power, open_, instant_]
  have gathered := gatherSample_gathered (v := (c.toNat : Int)) (stamp := deviceTime b) small
    (s := { b with inp := { b.inp with acoustic := putNum b.inp.acoustic k ((c.toNat : Int), deviceTime b) } }) hi takes
  have regs := gatherSample_keeps State.regs (fun _ _ _ => rfl) 3 k (c.toNat : Int) (deviceTime b)
    { b with inp := { b.inp with acoustic := putNum b.inp.acoustic k ((c.toNat : Int), deviceTime b) } }
  have keeps := gatherSample_keeps (fun s => s.fus.held) (fun _ _ _ => rfl) 3 k (c.toNat : Int) (deviceTime b)
    { b with inp := { b.inp with acoustic := putNum b.inp.acoustic k ((c.toNat : Int), deviceTime b) } }
  rw [readInput, taken] at hu
  generalize gatherSample 3 k c.toNat (deviceTime b)
    { b with inp := { b.inp with acoustic := putNum b.inp.acoustic k ((c.toNat : Int), deviceTime b) } } = t at hu gathered regs keeps
  obtain ⟨nav, kept⟩ := enableWatch_keeps t
  rw [kept] at hu
  subst hu
  exact ⟨keeps.trans held, regsKept_of_regs regs _, gathered⟩

/-- Settles O40: each row through the streams it acts on, the others left as they are. -/
theorem streamRows : Obligations.StreamRows := by
  refine ⟨fun cam lines len stime px i small => ?_, fun cam lines len stime px i small => ?_, fun cam lines len stime px other => ?_,
    fun port d => ?_, fun port d => ?_, fun port d => ?_, fun i small => ?_, fun i k c small => ?_, fun i v small => ?_, fun i small => ?_,
    fun i r small => ?_, fun i r small => ?_⟩
  · refine does_of_run (fun s => if islandOpen s (6 + cam) then underHeld (cameraFrame cam lines len stime.toNat px) s else s) (fun _ _ => rfl)
      fun b ⟨sound, held, open_, takes, first_, low, narrow, others, height, width⟩ => ?_
    rw [if_pos open_, underHeld_none held]
    exact cameraFrame_fits small sound takes first_ low narrow others height width _ rfl
  · refine does_of_run (fun s => if islandOpen s (6 + cam) then underHeld (cameraFrame cam lines len stime.toNat px) s else s) (fun _ _ => rfl)
      fun b ⟨sound, held, open_, takes, first_, _, _, steady, others, size⟩ => ?_
    rw [if_pos open_, underHeld_none held]
    exact cameraFrame_skips small sound takes first_ steady others size _ rfl
  · refine does_of_run (fun s => if islandOpen s (6 + cam) then underHeld (cameraFrame cam lines len stime.toNat px) s else s) (fun _ _ => rfl)
      fun b held => ?_
    rw [underHeld_none held, cameraFrame, if_pos other, ite_self]
  · refine does_of_run (fun s => if islandOpen s 10 then underHeld (lidarDatagram port.toNat d) s else s) (fun _ _ => rfl)
      fun b ⟨held, unfit⟩ => ?_
    rw [underHeld_none held]
    by_cases open_ : islandOpen b 10 = true
    · rw [if_pos open_, lidarDatagram, if_pos]
      obtain shut | down | foreign := unfit
      · exact absurd open_ (by simp [shut])
      · simp [down]
      · simp [foreign]
    · rw [if_neg open_]
  · refine does_of_run (fun s => if islandOpen s 10 then underHeld (lidarDatagram port.toNat d) s else s) (fun _ _ => rfl)
      fun b ⟨held, open_, up, mine, more⟩ => ?_
    rw [if_pos open_, underHeld_none held]
    exact lidarDatagram_joins up mine more _ rfl
  · refine does_of_run (fun s => if islandOpen s 10 then underHeld (lidarDatagram port.toNat d) s else s) (fun _ _ => rfl)
      fun b ⟨held, open_, up, mine, last_⟩ => ?_
    rw [if_pos open_, underHeld_none held]
    exact lidarDatagram_ends up mine last_
  · refine does_of_run (fun b => underHeld (directBlock i) b) (fun _ _ => by simp only [exec, execDirectBlock, if_pos small]; rfl)
      fun b ⟨sound, held, up, kept, low, high, long, short, enough⟩ => ?_
    obtain ⟨make, x, taken⟩ := directBlock_takes up kept low high long short enough
    rw [underHeld_none held, taken]
    obtain ⟨stamp_, own, others⟩ := blockTaken_result (i := i) (e := b.get (F.FUS_STR_CFG_BLOCK_LOG2 i))
      (stamp := (nth (stream b i).gathered (2 ^ b.get (F.FUS_STR_CFG_BLOCK_LOG2 i) - 1) (0, 0)).2) (make := make) (x := x) (s := b) small
      (by rw [streams_length_of_sound sound]; omega) (regsWf_of_sound sound)
    exact ⟨stamp_, own, fun j _ other => others j other⟩
  · refine does_of_run (fun b => underHeld (directBlock i) (readInput (.acoustic k c) b))
      (fun _ _ => by simp only [exec, execDirectBlock, if_pos small]; rfl) fun b ⟨sound, power, held, open_, instant_, takes, few⟩ => ?_
    obtain ⟨held', regs, gathered⟩ := readInput_acoustic small sound power held open_ instant_ takes _ rfl
    have waits : directBlock i (readInput (.acoustic k c) b) = readInput (.acoustic k c) b := directBlock_waits (by
      rw [gathered, State.get, regs _ (by simp), ← State.get, List.length_append]
      exact few)
    rw [underHeld_none held', waits]
    exact ⟨gathered, regs⟩
  · refine does_of_run (fun s => if i < 20 ∧ s.die.yardUp = true then underHeld (invocationDone i) s else s) (fun _ _ => rfl)
      fun b ⟨sound, held, up, runs, model⟩ => ?_
    rw [if_pos ⟨small, up⟩, underHeld_none held]
    exact invocationDone_result small sound runs model
  · refine does_of_run (fun s => if i < 20 then streamLost i s else s) (fun _ _ => rfl)
      fun b ⟨sound, watched, steady, first_, late⟩ => ?_
    rw [if_pos small]
    exact streamLost_reconnects small sound watched steady first_ late
  · refine does_of_run (fun s => if i < 20 then streamLost i s else s) (fun _ _ => rfl)
      fun b ⟨sound, watched, steady, returned, late, soon⟩ => ?_
    rw [if_pos small]
    exact streamLost_retires small sound watched steady returned late soon
  · refine does_of_run (fun s => if i < 20 then streamExpired i s else s) (fun _ _ => rfl)
      fun b ⟨sound, watched, tries, late⟩ => ?_
    have expired : streamExpired i b = retireStream i b := by
      unfold streamExpired
      rw [tries]
      exact if_pos (by simpa [watched] using late)
    rw [if_pos small, expired]
    obtain ⟨-, out, empty, over_, flagged⟩ := retireStream_result small (s := b) (by rw [streams_length_of_sound sound]; exact small)
      (regsWf_of_sound sound)
    exact ⟨out, over_, empty, flagged⟩

end Sys2Proof.Machine
end

section
/-!
The step tick: the end of the hold of R365 is compared with the start of the cycle, so a hold that ends within the cycle still holds the step.
-/

namespace Sys2Proof.Machine

/-- A set with one setting function, FUNC_ID 7, and one model. -/
def oneFunctionSet : Container where
  total := 6224
  fill := 0#8
  data := [(10, 2#8), (32, 6#8), (36, 64#8), (41, 0x18#8), (48, 0x11#8), (52, 64#8), (53, 0x18#8), (56, 16#8), (64, 7#8)]

/-- A terminus whose setting engine has a step to make at 1 ns, when its hold ends. -/
def heldWithinCycle : State :=
  let s := (((servingState.put F.SET_CFG_SET_EN 1).put F.SET_CFG_STEP_PERIOD 1).put (F.SET_FN_STATE_MODE 0) mAuto).put F.FUS_STATUS_GRID_VALID 1
  { s with now := 1, sets := { running := some oneFunctionSet }, fn := { s.fn with holdUntil := 1 } }

/-- Refutes O41: a tick compares the end of the hold with the start of its cycle, not with device time (stepTick, R361); heldWithinCycle
shows it. -/
theorem not_fusionRows : ¬ Obligations.FusionRows := by
  rintro ⟨-, -, -, -, -, step, -⟩
  obtain ⟨u, hu, starts, -⟩ := step 0 heldWithinCycle (by decide +kernel)
  have ran : stepTick (begin_ 0 heldWithinCycle) = u := Host.Outcome.next.inj hu
  have stays : (stepTick (begin_ 0 heldWithinCycle)).fn.invocation.isSome = false := by decide +kernel
  rw [ran, starts] at stays
  exact absurd stays (by decide)

end Sys2Proof.Machine
end

section
/-!
The rows of the control engine: ticks, deadlines and loss actions of the loops (R391–R431).
-/

namespace Sys2Proof.Machine

/-! ### The loops -/

theorem loops_length_of_sound {s : State} (h : s.sound = true) : s.eng.loops.length = 32 := by
  simp only [State.sound, State.sized, Bool.and_eq_true, beq_iff_eq] at h
  tauto

theorem loop_modLoop {n : Nat} (f : LoopPart → LoopPart) {s : State} (hn : n < s.eng.loops.length) :
    loop (modLoop n f s) n = f (loop s n) := nth_setNth_same _ _ hn

theorem loop_modLoop_ne {n m : Nat} (other : m ≠ n) (f : LoopPart → LoopPart) (s : State) : loop (modLoop n f s) m = loop s m :=
  nth_setNth_ne _ _ other

theorem loops_length_modLoop (n : Nat) (f : LoopPart → LoopPart) (s : State) : (modLoop n f s).eng.loops.length = s.eng.loops.length :=
  setNth_length _ _ _

/-! ### The service of samples -/

/-- A state with other loops and another end of service. -/
def withLoops (l : List LoopPart) (busy : Nat) (s : State) : State := { s with eng := { s.eng with loops := l, busyUntil := busy } }

/-- The engine serves samples: nothing else changes, and a loop whose sample does not wait stays as it is. -/
structure Serves_ (b u : State) : Prop where
  only : ∃ l busy, u = withLoops l busy b
  size : u.eng.loops.length = b.eng.loops.length
  idle : ∀ n, (∀ x, (loop b n).sample = some x → x.done ≠ none) → loop u n = loop b n

theorem Serves_.refl (b : State) : Serves_ b b := ⟨⟨_, _, rfl⟩, rfl, fun _ _ => rfl⟩

theorem Serves_.trans {b s u : State} (h : Serves_ b s) (k : Serves_ s u) : Serves_ b u := by
  obtain ⟨l, busy, rfl⟩ := h.only
  obtain ⟨l', busy', rfl⟩ := k.only
  exact ⟨⟨l', busy', rfl⟩, k.size.trans h.size, fun n idle => (k.idle n (by rw [h.idle n idle]; exact idle)).trans (h.idle n idle)⟩

theorem nextSample_mem {at_ : Nat} {e : Nat × Sample} : ∀ {l : List (Nat × Sample)}, nextSample at_ l = some e → e ∈ l
  | [], h => by simp [nextSample] at h
  | a :: l, h => by
    unfold nextSample at h
    split at h
    · split at h
      · exact List.mem_cons.mpr (.inl (Option.some.inj h).symm)
      · simp at h
    next c found =>
      split at h
      · exact List.mem_cons.mpr (.inl (Option.some.inj h).symm)
      · exact List.mem_cons_of_mem _ (nextSample_mem (found.trans h))

theorem waitingSamples_mem {n : Nat} {x : Sample} {s : State} (h : (n, x) ∈ waitingSamples s) : (loop s n).sample = some x ∧ x.done = none := by
  obtain ⟨m, -, hm⟩ := List.mem_flatMap.mp h
  split at hm
  · simp at hm
  next y sample =>
    split at hm
    next waits =>
      obtain ⟨rfl, rfl⟩ := Prod.mk.inj (List.mem_singleton.mp hm)
      exact ⟨sample, Option.isNone_iff_eq_none.mp waits⟩
    · simp at hm

theorem serveUntil_serves (limit : Nat) : ∀ (fuel : Nat) (s : State), Serves_ s (serveUntil limit fuel s)
  | 0, s => .refl s
  | fuel + 1, s => by
    unfold serveUntil
    dsimp only
    split
    · exact .refl s
    next t0 ts =>
      split
      · exact .refl s
      · split
        · exact .refl s
        next n x next_ =>
          obtain ⟨sample, waits⟩ := waitingSamples_mem (nextSample_mem next_)
          have served (e : Nat) : Serves_ s (withLoops (modLoop n (fun y => { y with sample := some { x with done := some e } }) s).eng.loops e s) :=
            
            ⟨⟨_, _, rfl⟩, loops_length_modLoop n (fun y => { y with sample := some { x with done := some e } }) s, fun m idle =>
              loop_modLoop_ne (fun same => idle x (by rw [same]; exact sample) waits) (fun y => { y with sample := some { x with done := some e } }) s⟩
          exact (served _).trans (serveUntil_serves limit fuel _)

/-! ### Values that a loop reads -/

section
variable {w : Footprint} {b s : State}

theorem Within.gets (h : Within w b s) {f : Fld} (hf : w.touches f.addr = false) : s.gets f = b.gets f := by
  rw [State.gets, State.gets, h.get hf]

/-- The registers of the channels and of the loops that a value is read from. -/
theorem rawValue_of_within (h : Within w b s) {n kind index word : Nat} (inp : .inp ∉ w.parts) (eng : .eng ∉ w.parts)
    (current : kind ≠ 3 ∨ w.touches (F.LSW_CH_CURR_CURR index).addr = false) (setpoint : w.touches (F.CLE_LOOP_SETPT_SETPT n).addr = false) :
    rawValue s n kind index word = rawValue b n kind index word := by
  have sameInp : s.inp = b.inp := h.part .inp inp
  have sameEng : s.eng = b.eng := h.part .eng eng
  unfold rawValue
  simp only [sameInp, sameEng, seenValue, h.gets setpoint]
  obtain other | free := current
  · simp only [if_neg other]
  · rw [h.gets free]

theorem runningGains_of_within (h : Within w b s) (eng : .eng ∉ w.parts) (sets : .sets ∉ w.parts) (n : Nat) :
    runningGains s n = runningGains b n := by
  have sameEng : s.eng = b.eng := h.part .eng eng
  have kept : s.sets = { b.sets with orders := s.sets.orders } := h.part .sets sets
  have table : runningTable s 0x04 n = runningTable b 0x04 n := by
    unfold runningTable setFor yardSet
    rw [kept]
  rw [runningGains, runningGains, sameEng, table]

end

/-- What the blocking of one loop's sink may change. -/
def blockedFoot (n : Nat) : Footprint := ⟨fun a => a == Reg.CLE_LOOP_STATUS n, []⟩

theorem blockedFoot_status (n : Nat) : (blockedFoot n).reg (Reg.CLE_LOOP_STATUS n) = true := by simp [blockedFoot]

theorem blockedFoot_free {n a : Nat} (low : a < 0xF0110) (other : a ≠ Reg.CLE_LOOP_STATUS n) (quiet : a ∉ raisePlaces) :
    (blockedFoot n).touches a = false := touches_eq_false (by simpa [blockedFoot] using other) low quiet

/-- A register of a loop, its STATUS excepted. -/
theorem blockedFoot_loop {n a : Nat} (low : 0x40100 ≤ a) (high : a < 0x50000) (own : a < 0x41000 ∨ a % 0x20 ≠ 0x1C) : (blockedFoot n).touches a = false :=
  blockedFoot_free (by omega) (by simp only [Reg.CLE_LOOP_STATUS]; omega) (by simp [raisePlaces]; omega)

/-- A register of a load channel. -/
theorem blockedFoot_channel {n a : Nat} (low : 0x30100 ≤ a) (high : a < 0x30500) : (blockedFoot n).touches a = false :=
  blockedFoot_free (by omega) (by simp only [Reg.CLE_LOOP_STATUS]; omega) (by simp [raisePlaces]; omega)

theorem channelsExist_iff {s : State} {n : Nat} : channelsExist s n = true ↔
    (s.get (F.CLE_LOOP_SRC_KIND n) = 3 → s.get (F.CLE_LOOP_SRC_INDEX n) < 32) ∧ (s.get (F.CLE_LOOP_SP_KIND n) = 3 → s.get (F.CLE_LOOP_SP_INDEX n) < 32) ∧
      (s.get (F.CLE_LOOP_SINK_KIND n) = 1 → s.get (F.CLE_LOOP_SINK_INDEX n) < 32) := by
  simp [channelsExist, imp_iff_not_or, and_assoc]

/-! ### The control law -/

/-- The result of the control law of a loop for a raw source value, with the fields as they stand. -/
def lawAt (s : State) (n : Nat) (src : Int) : LawResult :=
  controlLaw (runningGains s n) (s.gets (F.CLE_LOOP_SRC_OFF_SRC_OFF n)) (s.gets (F.CLE_LOOP_SRC_SCALE_SRC_SCALE n))
    (s.gets (F.CLE_LOOP_SP_OFF_SP_OFF n)) (s.gets (F.CLE_LOOP_SP_SCALE_SP_SCALE n)) (s.get (F.CLE_LOOP_CFG_PERIOD n))
    (sinkBlocked s n) (loop s n).integ (s.gets (F.CLE_LOOP_OUT_OUT n)) src (rawSetpoint s n)

/-- The registers that a sample shows its values in. -/
def showSample (n : Nat) (src : Int) (r : LawResult) (s : State) : State :=
  ((s.put (F.CLE_LOOP_RAW_RAW n) (toBits 32 src)).puts (F.CLE_LOOP_PV_PV n) r.y).puts (F.CLE_LOOP_SPV_SPV n) r.r

theorem loopSample_eq (n k upd : Nat) (s : State) : loopSample n k upd s =
    loopPend n k upd (lawAt (refreshBlocked s n) n (rawSource s n)).iNew (lawAt (refreshBlocked s n) n (rawSource s n)).u
      (lawAt (refreshBlocked s n) n (rawSource s n)).sat
      (showSample n (rawSource s n) (lawAt (refreshBlocked s n) n (rawSource s n)) (refreshBlocked s n)) := rfl

theorem sinkBlocked_of_within {n : Nat} (hn : n < 32) {b s : State} (h : Within (blockedFoot n) b s) (exist : channelsExist b n = true) :
    sinkBlocked s n = sinkBlocked b n := by
  obtain ⟨-, -, sinkIndex⟩ := channelsExist_iff.mp exist
  have kind : s.get (F.CLE_LOOP_SINK_KIND n) = b.get (F.CLE_LOOP_SINK_KIND n) := h.get
    (blockedFoot_loop (by simp only [F.CLE_LOOP_SINK_KIND, Reg.CLE_LOOP_SINK]; omega) (by simp only [F.CLE_LOOP_SINK_KIND, Reg.CLE_LOOP_SINK]; omega)
      (.inl (by simp only [F.CLE_LOOP_SINK_KIND, Reg.CLE_LOOP_SINK]; omega)))
  have index : s.get (F.CLE_LOOP_SINK_INDEX n) = b.get (F.CLE_LOOP_SINK_INDEX n) := h.get
    (blockedFoot_loop (by simp only [F.CLE_LOOP_SINK_INDEX, Reg.CLE_LOOP_SINK]; omega)
      (by simp only [F.CLE_LOOP_SINK_INDEX, Reg.CLE_LOOP_SINK]; omega) (.inl (by simp only [F.CLE_LOOP_SINK_INDEX, Reg.CLE_LOOP_SINK]; omega)))
  have sink : pwmSink s n = pwmSink b n := by rw [pwmSink, pwmSink, kind, index]
  unfold sinkBlocked
  rw [sink]
  cases found : pwmSink b n with
  | none => rfl
  | some c =>
    have hc : c < 32 := by
      simp only [pwmSink, Option.ite_none_right_eq_some, Option.some.injEq] at found
      exact found.2 ▸ sinkIndex found.1
    have stat : s.get (F.LSW_CH_STAT_CSTATE c) = b.get (F.LSW_CH_STAT_CSTATE c) := h.get (blockedFoot_channel
      (by simp only [F.LSW_CH_STAT_CSTATE, Reg.LSW_CH_STAT]; omega) (by simp only [F.LSW_CH_STAT_CSTATE, Reg.LSW_CH_STAT]; omega))
    have cmd : s.get (F.LSW_CH_CMD_STATE c) = b.get (F.LSW_CH_CMD_STATE c) := h.get (blockedFoot_channel
      (by simp only [F.LSW_CH_CMD_STATE, Reg.LSW_CH_CMD]; omega) (by simp only [F.LSW_CH_CMD_STATE, Reg.LSW_CH_CMD]; omega))
    simp only [stat, cmd]

/-- The control law stands while the blocking of the sink is judged anew. -/
theorem lawAt_of_within {n : Nat} (hn : n < 32) {b s : State} (h : Within (blockedFoot n) b s) (exist : channelsExist b n = true) (src : Int) :
    lawAt s n src = lawAt b n src := by
  have cfg {f : Fld} (low : 0x40100 ≤ f.addr) (high : f.addr < 0x41000) : s.gets f = b.gets f :=
    h.gets (blockedFoot_loop low (by omega) (.inl high))
  have cfg' {f : Fld} (low : 0x40100 ≤ f.addr) (high : f.addr < 0x41000) : s.get f = b.get f :=
    h.get (blockedFoot_loop low (by omega) (.inl high))
  have out : s.gets (F.CLE_LOOP_OUT_OUT n) = b.gets (F.CLE_LOOP_OUT_OUT n) := h.gets (blockedFoot_loop
    (by simp only [F.CLE_LOOP_OUT_OUT, Reg.CLE_LOOP_OUT]; omega) (by simp only [F.CLE_LOOP_OUT_OUT, Reg.CLE_LOOP_OUT]; omega)
    (.inr (by simp only [F.CLE_LOOP_OUT_OUT, Reg.CLE_LOOP_OUT]; omega)))
  have eng : s.eng = b.eng := h.part .eng (by simp [blockedFoot])
  obtain ⟨-, spIndex, -⟩ := channelsExist_iff.mp exist
  have set : rawSetpoint s n = rawSetpoint b n := by
    rw [rawSetpoint, rawSetpoint,
      cfg' (f := F.CLE_LOOP_SP_KIND n) (by simp only [F.CLE_LOOP_SP_KIND, Reg.CLE_LOOP_SP]; omega) (by simp only [F.CLE_LOOP_SP_KIND, Reg.CLE_LOOP_SP]; omega),
      cfg' (f := F.CLE_LOOP_SP_INDEX n) (by simp only [F.CLE_LOOP_SP_INDEX, Reg.CLE_LOOP_SP]; omega)
        (by simp only [F.CLE_LOOP_SP_INDEX, Reg.CLE_LOOP_SP]; omega),
      cfg' (f := F.CLE_LOOP_SP_WORD n) (by simp only [F.CLE_LOOP_SP_WORD, Reg.CLE_LOOP_SP]; omega) (by simp only [F.CLE_LOOP_SP_WORD, Reg.CLE_LOOP_SP]; omega)]
    refine rawValue_of_within h (by simp [blockedFoot]) (by simp [blockedFoot]) ?_ (blockedFoot_loop
      (by simp only [F.CLE_LOOP_SETPT_SETPT, Reg.CLE_LOOP_SETPT]; omega) (by simp only [F.CLE_LOOP_SETPT_SETPT, Reg.CLE_LOOP_SETPT]; omega)
      (.inr (by simp only [F.CLE_LOOP_SETPT_SETPT, Reg.CLE_LOOP_SETPT]; omega)))
    by_cases channel : b.get (F.CLE_LOOP_SP_KIND n) = 3
    · have := spIndex channel
      exact .inr (blockedFoot_channel (by simp only [F.LSW_CH_CURR_CURR, Reg.LSW_CH_CURR]; omega)
        (by simp only [F.LSW_CH_CURR_CURR, Reg.LSW_CH_CURR]; omega))
    · exact .inl channel
  unfold lawAt
  rw [runningGains_of_within h (by simp [blockedFoot]) (by simp [blockedFoot]), sinkBlocked_of_within hn h exist, out, set, loop, loop, eng,
    cfg (f := F.CLE_LOOP_SRC_OFF_SRC_OFF n) (by simp only [F.CLE_LOOP_SRC_OFF_SRC_OFF, Reg.CLE_LOOP_SRC_OFF]; omega)
      (by simp only [F.CLE_LOOP_SRC_OFF_SRC_OFF, Reg.CLE_LOOP_SRC_OFF]; omega),
    cfg (f := F.CLE_LOOP_SRC_SCALE_SRC_SCALE n) (by simp only [F.CLE_LOOP_SRC_SCALE_SRC_SCALE, Reg.CLE_LOOP_SRC_SCALE]; omega)
      (by simp only [F.CLE_LOOP_SRC_SCALE_SRC_SCALE, Reg.CLE_LOOP_SRC_SCALE]; omega),
    cfg (f := F.CLE_LOOP_SP_OFF_SP_OFF n) (by simp only [F.CLE_LOOP_SP_OFF_SP_OFF, Reg.CLE_LOOP_SP_OFF]; omega)
      (by simp only [F.CLE_LOOP_SP_OFF_SP_OFF, Reg.CLE_LOOP_SP_OFF]; omega),
    cfg (f := F.CLE_LOOP_SP_SCALE_SP_SCALE n) (by simp only [F.CLE_LOOP_SP_SCALE_SP_SCALE, Reg.CLE_LOOP_SP_SCALE]; omega)
      (by simp only [F.CLE_LOOP_SP_SCALE_SP_SCALE, Reg.CLE_LOOP_SP_SCALE]; omega),
    cfg' (f := F.CLE_LOOP_CFG_PERIOD n) (by simp only [F.CLE_LOOP_CFG_PERIOD, Reg.CLE_LOOP_CFG]; omega)
      (by simp only [F.CLE_LOOP_CFG_PERIOD, Reg.CLE_LOOP_CFG]; omega)]

/-! ### Signed fields -/

theorem satS_bounds {w : Nat} (v : Int) : -((2 ^ (w - 1) : Nat) : Int) ≤ satS w v ∧ satS w v < ((2 ^ (w - 1) : Nat) : Int) := by
  have pos : (0 : Int) < ((2 ^ (w - 1) : Nat) : Int) := by exact_mod_cast Nat.two_pow_pos (w - 1)
  unfold satS
  split
  · omega
  · split <;> omega

theorem satS_of_bounds {w : Nat} {v : Int} (lo : -((2 ^ (w - 1) : Nat) : Int) ≤ v) (hi : v < ((2 ^ (w - 1) : Nat) : Int)) : satS w v = v := by
  unfold satS
  rw [if_neg (by omega), if_neg (by omega)]

/-- A signed field takes the value within its range. -/
theorem gets_puts_satS {f : Fld} {s : State} (v : Int) (hf : f.fits = true) (hw : 0 < f.width) (hs : s.regsWf = true) :
    (s.puts f v).gets f = satS f.width v := by
  obtain ⟨lo, hi⟩ := satS_bounds (w := f.width) v
  have same : s.puts f v = s.puts f (satS f.width v) := by
    rw [State.puts, State.puts, fixS, fixS, satS_of_bounds lo hi]
  rw [same, gets_puts hf hw hs lo hi]

theorem State.gets_put_of_apart {s : State} {f g : Fld} {v : Nat} (ha : f.apart g = true) (h : s.regsWf = true) : (s.put f v).gets g = s.gets g := by
  rw [State.gets, State.gets, State.get_put_of_apart ha h]

theorem toBits_lt (w : Nat) (i : Int) : toBits w i < 2 ^ w := by
  have pos : (0 : Int) < ((2 ^ w : Nat) : Int) := by exact_mod_cast Nat.two_pow_pos w
  unfold toBits
  have := Int.emod_lt_of_pos i pos
  have := Int.emod_nonneg i pos.ne'
  omega

/-! ### Ticks -/

/-- A loop notes the instant of its tick, and samples are served up to it. -/
def ticked (n k : Nat) (s : State) : State := serveUntil k 64 (modLoop n (fun x => { x with lastTick := some k }) s)

/-- What a loop does at its tick. -/
def tickWork (n k upd : Nat) (s : State) : State :=
  if loopState s n = lHold then loopObserve n s
  else if loopState s n = lRun then
    if s.get (F.CLE_LOOP_STATUS_LOSS n) = 2 then
      (if s.get (F.CLE_LOOP_CFG_LOSS_ACT n) = 1 then loopPend n k upd (loop s n).integ (rampOutput s n) false s else s)
    else loopSample n k upd s
  else s

theorem loopTick_due {n k upd : Nat} {s : State} (defined : loopDefined s n = true) (up : s.die.sigUp = true) (idle : (loop s n).sample = none)
    (instant_ : tickInstant s n = some k) (allowed : tickAllowed s n k = true) :
    loopTick n upd s = tickWork n k upd (lossDue n (ticked n k s)) := by
  have noDeadline : loopDeadline n s = s := by
    unfold loopDeadline
    rw [idle]
  unfold loopTick
  dsimp only
  rw [noDeadline, instant_]
  simp only [defined, up, allowed, Bool.not_true, Bool.or_self, Bool.false_eq_true, if_false]
  rfl

theorem ticked_result {n k : Nat} {b : State} (hn : n < b.eng.loops.length) (idle : (loop b n).sample = none) :
    (∃ l busy, ticked n k b = withLoops l busy b) ∧ (ticked n k b).eng.loops.length = b.eng.loops.length ∧
      loop (ticked n k b) n = { loop b n with lastTick := some k } := by
  have own := loop_modLoop (fun x => { x with lastTick := some k }) hn
  have served := serveUntil_serves k 64 (modLoop n (fun x => { x with lastTick := some k }) b)
  obtain ⟨l, busy, only⟩ := served.only
  refine ⟨⟨l, busy, only⟩, served.size.trans (loops_length_modLoop n _ b), (served.idle n ?_).trans own⟩
  intro x sample
  rw [own] at sample
  exact absurd sample (by simp [idle])

theorem lossDue_none {n : Nat} {s : State} (quiet : loopState s n ≠ lRun ∨ (loop s n).lostAt = none) : lossDue n s = s := by
  unfold lossDue
  rw [if_neg]
  rintro ⟨-, runs, lost, -⟩
  obtain h | h := quiet
  · exact h runs
  · simp [h] at lost

/-- A loop on HOLD observes its source at a tick. -/
theorem loopTick_hold {n k cost : Nat} (hn : n < 32) {b : State} (sound : b.sound = true) (up : b.die.sigUp = true) (defined : loopDefined b n = true)
    (idle : (loop b n).sample = none) (instant_ : tickInstant b n = some k) (allowed : tickAllowed b n k = true) (hold : loopState b n = lHold)
    (u : State) (hu : u = loopTick n cost b) :
    u.get (F.CLE_LOOP_RAW_RAW n) = toBits 32 (rawSource b n) ∧ (loop u n).lastTick = some k ∧ (loop u n).sample = none ∧
      u.gets (F.CLE_LOOP_PV_PV n) = satS 32 ((rawSource b n - b.gets (F.CLE_LOOP_SRC_OFF_SRC_OFF n)) *
        b.gets (F.CLE_LOOP_SRC_SCALE_SRC_SCALE n)) ∧
      FieldsKept [F.CLE_LOOP_RAW_RAW n, F.CLE_LOOP_PV_PV n] b u := by
  have hs := regsWf_of_sound sound
  obtain ⟨⟨l, busy, only⟩, -, own⟩ := ticked_result (k := k) (b := b) (by rw [loops_length_of_sound sound]; exact hn) idle
  rw [loopTick_due defined up idle instant_ allowed] at hu
  generalize ticked n k b = t at only own hu
  subst only
  have state : loopState (withLoops l busy b) n = lHold := hold
  rw [lossDue_none (.inl (by rw [state]; decide)), tickWork, if_pos state] at hu
  obtain ⟨y, hy⟩ : ∃ y, y = satS 32 ((rawSource b n - b.gets (F.CLE_LOOP_SRC_OFF_SRC_OFF n)) * b.gets (F.CLE_LOOP_SRC_SCALE_SRC_SCALE n)) :=
    ⟨_, rfl⟩
  obtain ⟨raw, hraw⟩ : ∃ raw, raw = rawSource b n := ⟨_, rfl⟩
  have shown : u = ((withLoops l busy b).put (F.CLE_LOOP_RAW_RAW n) (toBits 32 raw)).puts (F.CLE_LOOP_PV_PV n) y := by
    rw [hu, hy, hraw]
    rfl
  rw [← hraw] at hy ⊢
  rw [← hy]
  have bounds : -((2 ^ 31 : Nat) : Int) ≤ y ∧ y < ((2 ^ 31 : Nat) : Int) := hy ▸ satS_bounds _
  have regs : (withLoops l busy b).regs = b.regs := rfl
  have owned : loop u n = loop (withLoops l busy b) n := by rw [shown]; rfl
  clear hu hy hraw
  generalize withLoops l busy b = t at shown regs own owned
  have wf : t.regsWf = true := by simpa only [State.regsWf, regs] using hs
  have rawFits : (F.CLE_LOOP_RAW_RAW n).fits = true := rfl
  have pvFits : (F.CLE_LOOP_PV_PV n).fits = true := rfl
  have apart : (F.CLE_LOOP_PV_PV n).apart (F.CLE_LOOP_RAW_RAW n) = true := Fld.apart_iff.mpr ⟨Fld.fits_iff.mp pvFits, .inl (by
    simp only [F.CLE_LOOP_PV_PV, F.CLE_LOOP_RAW_RAW, Reg.CLE_LOOP_PV, Reg.CLE_LOOP_RAW]; omega)⟩
  have wf' : (t.put (F.CLE_LOOP_RAW_RAW n) (toBits 32 raw)).regsWf = true := State.regsWf_put _ _ _ wf
  refine ⟨?_, by rw [owned, own], by rw [owned, own]; exact idle, ?_, fun g other => ?_⟩
  · rw [shown, State.puts, State.get_put_of_apart apart wf', State.get_put_of_lt rawFits (toBits_lt 32 raw) wf]
  · rw [shown, gets_puts pvFits (show 0 < 32 by decide) wf' bounds.1 bounds.2]
  · rw [shown, State.puts, fieldsKept_put pvFits wf' _ g (fun f hf => other f (by simp_all)), fieldsKept_put rawFits wf _ g (fun f hf => other f (by simp_all)),
      State.get_of_regs regs]

theorem showSample_reg {n a : Nat} {src : Int} {r : LawResult} {s : State} (raw : a ≠ Reg.CLE_LOOP_RAW n) (pv : a ≠ Reg.CLE_LOOP_PV n)
    (spv : a ≠ Reg.CLE_LOOP_SPV n) : (showSample n src r s).reg a = s.reg a := by
  unfold showSample State.puts
  rw [State.reg_put_ne _ _ _ _ spv, State.reg_put_ne _ _ _ _ pv, State.reg_put_ne _ _ _ _ raw]

theorem showSample_gets {n : Nat} {src : Int} {r : LawResult} {s : State} (hs : s.regsWf = true) :
    (showSample n src r s).gets (F.CLE_LOOP_PV_PV n) = satS 32 r.y ∧ (showSample n src r s).gets (F.CLE_LOOP_SPV_SPV n) = satS 32 r.r := by
  have pvFits : (F.CLE_LOOP_PV_PV n).fits = true := rfl
  have spvFits : (F.CLE_LOOP_SPV_SPV n).fits = true := rfl
  have apart : (F.CLE_LOOP_SPV_SPV n).apart (F.CLE_LOOP_PV_PV n) = true := Fld.apart_iff.mpr ⟨Fld.fits_iff.mp spvFits, .inl (by
    simp only [F.CLE_LOOP_PV_PV, F.CLE_LOOP_SPV_SPV, Reg.CLE_LOOP_PV, Reg.CLE_LOOP_SPV]; omega)⟩
  have wf : (s.put (F.CLE_LOOP_RAW_RAW n) (toBits 32 src)).regsWf = true := State.regsWf_put _ _ _ hs
  have wf' : ((s.put (F.CLE_LOOP_RAW_RAW n) (toBits 32 src)).puts (F.CLE_LOOP_PV_PV n) r.y).regsWf = true := State.regsWf_put _ _ _ wf
  unfold showSample
  refine ⟨?_, gets_puts_satS _ spvFits (show 0 < 32 by decide) wf'⟩
  rw [State.puts, State.gets_put_of_apart apart wf', gets_puts_satS _ pvFits (show 0 < 32 by decide) wf]
  rfl

/-- The law of a loop does not depend on the other loops. -/
theorem lawAt_withLoops {n busy : Nat} {l : List LoopPart} {b : State} (integ : (loop (withLoops l busy b) n).integ = (loop b n).integ) (src : Int) :
    lawAt (withLoops l busy b) n src = lawAt b n src := by
  unfold lawAt
  rw [integ]
  rfl

theorem lawAt_bounds (s : State) (n : Nat) (src : Int) : satS 32 (lawAt s n src).y = (lawAt s n src).y ∧ satS 32 (lawAt s n src).r = (lawAt s n src).r := by
  have y : ∃ v, (lawAt s n src).y = satS 32 v := ⟨_, rfl⟩
  have r : ∃ v, (lawAt s n src).r = satS 32 v := ⟨_, rfl⟩
  obtain ⟨v, hv⟩ := y
  obtain ⟨v', hv'⟩ := r
  rw [hv, hv']
  exact ⟨satS_of_bounds (satS_bounds v).1 (satS_bounds v).2, satS_of_bounds (satS_bounds v').1 (satS_bounds v').2⟩

/-- A running loop without loss computes a sample at a tick. -/
theorem loopTick_run {n k cost : Nat} (hn : n < 32) {b : State} (sound : b.sound = true) (up : b.die.sigUp = true) (defined : loopDefined b n = true)
    (idle : (loop b n).sample = none) (exist : channelsExist b n = true) (instant_ : tickInstant b n = some k) (allowed : tickAllowed b n k = true)
    (runs : loopState b n = lRun) (steady : (loop b n).lostAt = none) (noLoss : b.flag (F.CLE_LOOP_STATUS_LOSS n) = false)
    (v : State) (hv : v = loopTick n cost b) (r : LawResult) (hr : r = lawAt b n (rawSource b n)) :
    (loop v n).sample = some { tick := k, deadline := k + deadlineAfter b n, upd := cost, done := none, iNew := r.iNew, u := r.u, sat := r.sat } ∧
      v.gets (F.CLE_LOOP_PV_PV n) = r.y ∧ v.gets (F.CLE_LOOP_SPV_SPV n) = r.r ∧ v.reg (Reg.CLE_LOOP_OUT n) = b.reg (Reg.CLE_LOOP_OUT n) ∧
      (loop v n).integ = (loop b n).integ := by
  have hs := regsWf_of_sound sound
  obtain ⟨⟨l, busy, only⟩, size, own⟩ := ticked_result (k := k) (b := b) (by rw [loops_length_of_sound sound]; exact hn) idle
  rw [loopTick_due defined up idle instant_ allowed] at hv
  generalize ticked n k b = t at only own hv size
  have integ : (loop t n).integ = (loop b n).integ := by rw [own]
  have law : lawAt t n (rawSource b n) = r := by
    rw [hr, only]
    exact lawAt_withLoops (only ▸ integ) _
  have regs : t.regs = b.regs := by rw [only]; rfl
  have raw : rawSource t n = rawSource b n := by rw [only]; rfl
  have state : loopState t n = lRun := (State.get_of_regs regs _).trans runs
  have loss : t.get (F.CLE_LOOP_STATUS_LOSS n) ≠ 2 := by
    rw [State.get_of_regs regs, show b.get (F.CLE_LOOP_STATUS_LOSS n) = 0 by simpa [State.flag] using noLoss]
    decide
  have exist' : channelsExist t n = true := by
    simp only [channelsExist, State.get_of_regs regs] at exist ⊢
    exact exist
  rw [lossDue_none (.inr (by rw [own]; exact steady)), tickWork, if_neg (by rw [state]; decide), if_pos state, if_neg loss, loopSample_eq, raw] at hv
  have blocked : Within (blockedFoot n) t (refreshBlocked t n) := refreshBlocked_within .refl (blockedFoot_status n)
  rw [lawAt_of_within hn blocked exist', law] at hv
  generalize refreshBlocked t n = u at hv blocked
  have eng : u.eng = t.eng := blocked.part .eng (by simp [blockedFoot])
  have cfg {f : Fld} (low : 0x40100 ≤ f.addr) (high : f.addr < 0x41000) : (showSample n (rawSource b n) r u).get f = b.get f := by
    rw [State.get, showSample_reg (by simp only [Reg.CLE_LOOP_RAW]; omega) (by simp only [Reg.CLE_LOOP_PV]; omega)
      (by simp only [Reg.CLE_LOOP_SPV]; omega), ← State.get, blocked.get (blockedFoot_loop low (by omega) (.inl high)), State.get_of_regs regs]
  have after : deadlineAfter (showSample n (rawSource b n) r u) n = deadlineAfter b n := by
    rw [deadlineAfter, deadlineAfter,
      cfg (f := F.CLE_LOOP_CFG_PERIOD n) (by simp only [F.CLE_LOOP_CFG_PERIOD, Reg.CLE_LOOP_CFG]; omega)
        (by simp only [F.CLE_LOOP_CFG_PERIOD, Reg.CLE_LOOP_CFG]; omega),
      cfg (f := F.CLE_LOOP_CFG_DEADLINE n) (by simp only [F.CLE_LOOP_CFG_DEADLINE, Reg.CLE_LOOP_CFG]; omega)
        (by simp only [F.CLE_LOOP_CFG_DEADLINE, Reg.CLE_LOOP_CFG]; omega)]
  obtain ⟨pv, spv⟩ := showSample_gets (n := n) (src := rawSource b n) (r := r) (blocked.wf (by simpa only [State.regsWf, regs] using hs))
  have out : (showSample n (rawSource b n) r u).reg (Reg.CLE_LOOP_OUT n) = b.reg (Reg.CLE_LOOP_OUT n) := by
    rw [showSample_reg (by simp only [Reg.CLE_LOOP_OUT, Reg.CLE_LOOP_RAW]; omega) (by simp only [Reg.CLE_LOOP_OUT, Reg.CLE_LOOP_PV]; omega)
      (by simp only [Reg.CLE_LOOP_OUT, Reg.CLE_LOOP_SPV]; omega), blocked.reg _ (blockedFoot_loop (by simp only [Reg.CLE_LOOP_OUT]; omega)
      (by simp only [Reg.CLE_LOOP_OUT]; omega) (.inr (by simp only [Reg.CLE_LOOP_OUT]; omega))), State.reg, State.reg, regs]
  have shownEng : (showSample n (rawSource b n) r u).eng = t.eng := eng
  have place : n < (showSample n (rawSource b n) r u).eng.loops.length := by rw [shownEng, size, loops_length_of_sound sound]; exact hn
  obtain ⟨boundY, boundR⟩ := hr ▸ lawAt_bounds b n (rawSource b n)
  generalize showSample n (rawSource b n) r u = w at hv after pv spv out shownEng place
  have pended : loop v n = { loop w n with
      sample := some { tick := k, deadline := k + deadlineAfter b n, upd := cost, done := none, iNew := r.iNew, u := r.u, sat := r.sat } } := by
    rw [hv, loopPend, after]
    exact loop_modLoop _ place
  have vregs : v.regs = w.regs := by rw [hv]; rfl
  refine ⟨by rw [pended], ?_, ?_, ?_, ?_⟩
  · rw [State.gets, State.get_of_regs vregs, ← State.gets, pv, boundY]
  · rw [State.gets, State.get_of_regs vregs, ← State.gets, spv, boundR]
  · rw [State.reg, vregs, ← State.reg, out]
  · rw [pended, ← integ, loop, loop, shownEng]

/-! ### Deadlines -/

theorem apart_of_addr {f g : Fld} (hf : f.fits = true) (other : f.addr ≠ g.addr) : f.apart g = true :=
  Fld.apart_iff.mpr ⟨Fld.fits_iff.mp hf, .inl other⟩

/-- A sample that is served keeps its loop as it is while others are served. -/
theorem serveUntil_done {n d limit : Nat} {x : Sample} {b : State} (sample : (loop b n).sample = some x) (done : x.done = some d) :
    Serves_ b (serveUntil limit 64 b) ∧ loop (serveUntil limit 64 b) n = loop b n := by
  have served := serveUntil_serves limit 64 b
  refine ⟨served, served.idle n fun y hy => ?_⟩
  obtain rfl : x = y := Option.some.inj (sample.symm.trans hy)
  simp [done]

theorem Serves_.regs {b u : State} (h : Serves_ b u) : u.regs = b.regs := by
  obtain ⟨l, busy, only⟩ := h.only
  rw [only]
  rfl

theorem loopDeadline_done {n d : Nat} {x : Sample} {b : State} (sample : (loop b n).sample = some x) (due : x.deadline ≤ deviceTime b)
    (done : x.done = some d) : loopDeadline n b =
      if d ≤ x.deadline then loopApply n x (x.deadline - d) (serveUntil (deviceTime b) 64 b)
      else loopMiss n (serveUntil (deviceTime b) 64 b) := by
  obtain ⟨-, same⟩ := serveUntil_done (limit := deviceTime b) sample done
  unfold loopDeadline
  dsimp only
  rw [sample]
  dsimp only
  rw [if_neg (Nat.not_lt.mpr due), same, sample]
  dsimp only
  rw [done]

/-- What a value written to a sink leaves: every register but the duty of a channel, and the loops. -/
theorem writeTo_keeps (d : SinkDef) (u : Int) {s : State} {g : Fld} (other : g.addr % 0x20 ≠ 0x0C) :
    FieldStands g s (writeTo d u s) ∧ (writeTo d u s).eng.loops = s.eng.loops := by
  unfold writeTo
  dsimp only
  split
  · exact ⟨FieldStands.refl.put (apart_of_addr rfl (by simp only [F.LSW_CH_CMD_DUTY, Reg.LSW_CH_CMD]; omega)), rfl⟩
  · split
    · exact ⟨FieldStands.refl.parts, rfl⟩
    · split
      · unfold writeLineWord
        dsimp only
        split <;> exact ⟨FieldStands.refl.parts, rfl⟩
      · exact ⟨.refl, rfl⟩

/-- The integrator, the output and the flags of a sample that takes effect. -/
def shownApply (n : Nat) (x : Sample) (s : State) : State :=
  (((setInteg n x.iNew (modLoop n (fun y => { y with sample := none }) s)).puts (F.CLE_LOOP_OUT_OUT n) x.u).put (F.CLE_LOOP_STATUS_SAT n) (b2n x.sat)).put
    (F.CLE_LOOP_STATUS_MISS_LAST n) 0

/-- The smallest slack, noted. -/
def marginNoted (n margin : Nat) (s : State) : State :=
  if satN 16 margin < s.get F.CLE_SLACK_MIN_SLACK then (s.put F.CLE_SLACK_MIN_SLACK (satN 16 margin)).put F.CLE_SLACK_MIN_LOOP n else s

theorem loopApply_eq (n : Nat) (x : Sample) (margin : Nat) (s : State) : loopApply n x margin s =
    writeTo (x.sink.getD (sinkOf (marginNoted n margin (shownApply n x s)) n)) x.u (marginNoted n margin (shownApply n x s)) := rfl

theorem marginNoted_keeps (n margin : Nat) {s : State} {g : Fld} (other : g.addr ≠ Reg.CLE_SLACK) :
    FieldStands g s (marginNoted n margin s) ∧ (marginNoted n margin s).eng = s.eng := by
  refine ⟨.ite ((FieldStands.refl.put (apart_of_addr rfl other.symm)).put (apart_of_addr rfl other.symm)) .refl, ?_⟩
  unfold marginNoted
  split <;> rfl

theorem shownApply_result {n : Nat} (x : Sample) {s : State} (hn : n < s.eng.loops.length) (hs : s.regsWf = true) :
    (shownApply n x s).regsWf = true ∧ (loop (shownApply n x s) n).sample = none ∧ (loop (shownApply n x s) n).integ = x.iNew ∧
      (shownApply n x s).gets (F.CLE_LOOP_OUT_OUT n) = satS 32 x.u ∧
      (shownApply n x s).gets (F.CLE_LOOP_INTEG_INTEG n) = satS 32 (roundDiv x.iNew 65536) ∧
      (shownApply n x s).flag (F.CLE_LOOP_STATUS_SAT n) = x.sat ∧ (shownApply n x s).flag (F.CLE_LOOP_STATUS_MISS_LAST n) = false := by
  have dropped := loop_modLoop (fun y => { y with sample := none }) hn
  have size := loops_length_modLoop n (fun y => { y with sample := none }) s
  have regs : (modLoop n (fun y => { y with sample := none }) s).regs = s.regs := rfl
  unfold shownApply setInteg
  generalize modLoop n (fun y => { y with sample := none }) s = t at dropped size regs
  have own := loop_modLoop (n := n) (s := t) (fun y => { y with integ := x.iNew }) (by rw [size]; exact hn)
  have wf : (modLoop n (fun y => { y with integ := x.iNew }) t).regsWf = true := by
    rw [regsWf_modLoop, State.regsWf, regs]
    exact hs
  generalize modLoop n (fun y => { y with integ := x.iNew }) t = v at own wf
  have outFits : (F.CLE_LOOP_OUT_OUT n).fits = true := rfl
  have integFits : (F.CLE_LOOP_INTEG_INTEG n).fits = true := rfl
  have satFits : (F.CLE_LOOP_STATUS_SAT n).fits = true := rfl
  have missFits : (F.CLE_LOOP_STATUS_MISS_LAST n).fits = true := rfl
  have wf1 : (v.puts (F.CLE_LOOP_INTEG_INTEG n) (roundDiv x.iNew 65536)).regsWf = true := State.regsWf_put _ _ _ wf
  have wf2 : ((v.puts (F.CLE_LOOP_INTEG_INTEG n) (roundDiv x.iNew 65536)).puts (F.CLE_LOOP_OUT_OUT n) x.u).regsWf = true :=
    State.regsWf_put _ _ _ wf1
  have wf3 := State.regsWf_put _ (F.CLE_LOOP_STATUS_SAT n) (b2n x.sat) wf2
  have outStat : ∀ {f : Fld}, f.fits = true → f.addr = Reg.CLE_LOOP_STATUS n → f.apart (F.CLE_LOOP_OUT_OUT n) = true := fun fits at_ =>
    apart_of_addr fits (by rw [at_]; simp only [F.CLE_LOOP_OUT_OUT, Reg.CLE_LOOP_OUT, Reg.CLE_LOOP_STATUS]; omega)
  have integStat : ∀ {f : Fld}, f.fits = true → f.addr = Reg.CLE_LOOP_STATUS n → f.apart (F.CLE_LOOP_INTEG_INTEG n) = true := fun fits at_ =>
    apart_of_addr fits (by rw [at_]; simp only [F.CLE_LOOP_INTEG_INTEG, Reg.CLE_LOOP_INTEG, Reg.CLE_LOOP_STATUS]; omega)
  have integOut : (F.CLE_LOOP_OUT_OUT n).apart (F.CLE_LOOP_INTEG_INTEG n) = true :=
    apart_of_addr outFits (by simp only [F.CLE_LOOP_OUT_OUT, F.CLE_LOOP_INTEG_INTEG, Reg.CLE_LOOP_OUT, Reg.CLE_LOOP_INTEG]; omega)
  have missSat : (F.CLE_LOOP_STATUS_MISS_LAST n).apart (F.CLE_LOOP_STATUS_SAT n) = true := by
    simp [Fld.apart, Fld.fits, F.CLE_LOOP_STATUS_MISS_LAST, F.CLE_LOOP_STATUS_SAT]
  refine ⟨State.regsWf_put _ _ _ wf3, ?_, ?_, ?_, ?_, ?_, ?_⟩
  · exact (congrArg LoopPart.sample own).trans (congrArg LoopPart.sample dropped)
  · exact (congrArg LoopPart.integ own :)
  · rw [State.gets_put_of_apart (outStat missFits rfl) wf3, State.gets_put_of_apart (outStat satFits rfl) wf2,
      gets_puts_satS _ outFits (show 0 < 32 by decide) wf1]
    rfl
  · rw [State.gets_put_of_apart (integStat missFits rfl) wf3, State.gets_put_of_apart (integStat satFits rfl) wf2, State.puts,
      State.gets_put_of_apart integOut wf1, gets_puts_satS _ integFits (show 0 < 32 by decide) wf]
    rfl
  · rw [State.flag, State.get_put_of_apart missSat wf3, State.get_put_of_lt satFits (b2n_lt _ (show 1 ≤ 1 by decide)) wf2]
    cases x.sat <;> rfl
  · rw [State.flag, State.get_put_of_lt missFits (show 0 < 2 ^ 1 by decide) wf3]
    rfl

theorem loopApply_result {n margin : Nat} (x : Sample) {s : State} (hn : n < s.eng.loops.length) (hs : s.regsWf = true) :
    (loop (loopApply n x margin s) n).sample = none ∧ (loop (loopApply n x margin s) n).integ = x.iNew ∧
      (loopApply n x margin s).gets (F.CLE_LOOP_OUT_OUT n) = satS 32 x.u ∧
      (loopApply n x margin s).gets (F.CLE_LOOP_INTEG_INTEG n) = satS 32 (roundDiv x.iNew 65536) ∧
      (loopApply n x margin s).flag (F.CLE_LOOP_STATUS_SAT n) = x.sat ∧
      (loopApply n x margin s).flag (F.CLE_LOOP_STATUS_MISS_LAST n) = false := by
  obtain ⟨wf, empty, integ, out, integReg, sat, miss⟩ := shownApply_result x hn hs
  rw [loopApply_eq]
  generalize shownApply n x s = v at wf empty integ out integReg sat miss
  have stays : ∀ g : Fld, 0x41000 ≤ g.addr → g.addr % 0x20 ≠ 0x0C →
      (writeTo (x.sink.getD (sinkOf (marginNoted n margin v) n)) x.u (marginNoted n margin v)).get g = v.get g := fun g low other =>
    (((marginNoted_keeps n margin (by simp only [Reg.CLE_SLACK]; omega)).1.trans (writeTo_keeps _ _ other).1) wf).2
  have loops : (writeTo (x.sink.getD (sinkOf (marginNoted n margin v) n)) x.u (marginNoted n margin v)).eng.loops = v.eng.loops :=
    (writeTo_keeps _ _ (g := F.CLE_LOOP_OUT_OUT n) (by simp only [F.CLE_LOOP_OUT_OUT, Reg.CLE_LOOP_OUT]; omega)).2.trans
      (congrArg EnginePart.loops (marginNoted_keeps n margin (g := F.CLE_LOOP_OUT_OUT n)
        (by simp only [F.CLE_LOOP_OUT_OUT, Reg.CLE_LOOP_OUT, Reg.CLE_SLACK]; omega)).2)
  refine ⟨?_, ?_, ?_, ?_, ?_, ?_⟩
  · rw [loop, loops]
    exact empty
  · rw [loop, loops]
    exact integ
  · rw [State.gets, stays _ (by simp only [F.CLE_LOOP_OUT_OUT, Reg.CLE_LOOP_OUT]; omega) (by simp only [F.CLE_LOOP_OUT_OUT, Reg.CLE_LOOP_OUT]; omega)]
    exact out
  · rw [State.gets, stays _ (by simp only [F.CLE_LOOP_INTEG_INTEG, Reg.CLE_LOOP_INTEG]; omega)
      (by simp only [F.CLE_LOOP_INTEG_INTEG, Reg.CLE_LOOP_INTEG]; omega)]
    exact integReg
  · rw [State.flag, stays _ (by simp only [F.CLE_LOOP_STATUS_SAT, Reg.CLE_LOOP_STATUS]; omega)
      (by simp only [F.CLE_LOOP_STATUS_SAT, Reg.CLE_LOOP_STATUS]; omega)]
    exact sat
  · rw [State.flag, stays _ (by simp only [F.CLE_LOOP_STATUS_MISS_LAST, Reg.CLE_LOOP_STATUS]; omega)
      (by simp only [F.CLE_LOOP_STATUS_MISS_LAST, Reg.CLE_LOOP_STATUS]; omega)]
    exact miss

/-! ### Misses -/

/-- The flags and counts of a miss. -/
def missShown (n : Nat) (s : State) : State :=
  ((((s.put (F.CLE_LOOP_STATUS_MISS_LAST n) 1).putBit F.CLE_MISS_MISS n true).bump (F.CLE_LOOP_STATUS_MISSES n) 1).put F.CLE_SLACK_MIN_SLACK 0).put
    F.CLE_SLACK_MIN_LOOP n

/-- A miss is told. -/
def missTold (n : Nat) (first_ : Bool) (s : State) : State :=
  if first_ then
    fault 0x28 4 Src.CLE_LOOP_MISS n ((raise Src.CLE_LOOP_MISS n s).get (F.CLE_LOOP_STATUS_MISSES n)) 0 0 (raise Src.CLE_LOOP_MISS n s)
  else raise Src.CLE_LOOP_MISS n s

theorem loopMiss_eq (n : Nat) (s : State) : loopMiss n s = missTold n (!s.flag (F.CLE_LOOP_STATUS_MISS_LAST n))
    (missShown n (modLoop n (fun x => { x with sample := none, missSince := true }) s)) := rfl

theorem missTold_within (n : Nat) (first_ : Bool) (s : State) : Within ⟨fun _ => false, [.log]⟩ s (missTold n first_ s) :=
  ite_within (fault_within (raise_within .refl) (by decide)) (raise_within .refl)

theorem missTold_flagged (n : Nat) (first_ : Bool) {s : State} (hs : s.regsWf = true) : Flagged Src.CLE_LOOP_MISS (missTold n first_ s) := by
  have raised : Flagged Src.CLE_LOOP_MISS (raise Src.CLE_LOOP_MISS n s) := flagged_raiseArg (by decide) hs
  have wf : (raise Src.CLE_LOOP_MISS n s).regsWf = true := (raise_within .refl : Within ⟨fun _ => false, [.log]⟩ s _).wf hs
  unfold missTold
  split
  · exact (fault_within .refl (by decide) : Within ⟨fun _ => false, [.log]⟩ _ _).flags wf _ (by decide) raised
  · exact raised

theorem missShown_result (n : Nat) {s : State} (hs : s.regsWf = true) : (missShown n s).regsWf = true ∧
    (missShown n s).reg (Reg.CLE_LOOP_OUT n) = s.reg (Reg.CLE_LOOP_OUT n) ∧ (missShown n s).get (F.CLE_LOOP_STATUS_MISS_LAST n) = 1 ∧
      (missShown n s).get (F.CLE_LOOP_STATUS_MISSES n) = satN 16 (s.get (F.CLE_LOOP_STATUS_MISSES n) + 1) ∧
      (missShown n s).get F.CLE_SLACK_MIN_SLACK = 0 := by
  have lastFits : (F.CLE_LOOP_STATUS_MISS_LAST n).fits = true := rfl
  have countFits : (F.CLE_LOOP_STATUS_MISSES n).fits = true := rfl
  have missOther : ∀ {g : Fld}, g.addr = Reg.CLE_LOOP_STATUS n → F.CLE_MISS_MISS.apart g = true := fun at_ =>
    apart_of_addr rfl (by rw [at_]; simp only [F.CLE_MISS_MISS, Reg.CLE_MISS, Reg.CLE_LOOP_STATUS]; omega)
  have slackOther : ∀ {g : Fld}, g.addr = Reg.CLE_LOOP_STATUS n → F.CLE_SLACK_MIN_SLACK.apart g = true ∧ F.CLE_SLACK_MIN_LOOP.apart g = true :=
    fun at_ => ⟨apart_of_addr rfl (by rw [at_]; simp only [F.CLE_SLACK_MIN_SLACK, Reg.CLE_SLACK, Reg.CLE_LOOP_STATUS]; omega),
      apart_of_addr rfl (by rw [at_]; simp only [F.CLE_SLACK_MIN_LOOP, Reg.CLE_SLACK, Reg.CLE_LOOP_STATUS]; omega)⟩
  have lastCount : (F.CLE_LOOP_STATUS_MISS_LAST n).apart (F.CLE_LOOP_STATUS_MISSES n) = true := by
    simp [Fld.apart, Fld.fits, F.CLE_LOOP_STATUS_MISS_LAST, F.CLE_LOOP_STATUS_MISSES]
  have countLast : (F.CLE_LOOP_STATUS_MISSES n).apart (F.CLE_LOOP_STATUS_MISS_LAST n) = true := by
    simp [Fld.apart, Fld.fits, F.CLE_LOOP_STATUS_MISS_LAST, F.CLE_LOOP_STATUS_MISSES]
  have wf1 := State.regsWf_put s (F.CLE_LOOP_STATUS_MISS_LAST n) 1 hs
  have wf2 : ((s.put (F.CLE_LOOP_STATUS_MISS_LAST n) 1).putBit F.CLE_MISS_MISS n true).regsWf = true := State.regsWf_put _ _ _ wf1
  have wf3 : (((s.put (F.CLE_LOOP_STATUS_MISS_LAST n) 1).putBit F.CLE_MISS_MISS n true).bump (F.CLE_LOOP_STATUS_MISSES n) 1).regsWf = true :=
    State.regsWf_put _ _ _ wf2
  have wf4 := State.regsWf_put _ F.CLE_SLACK_MIN_SLACK 0 wf3
  obtain ⟨slackLast, loopLast⟩ := slackOther (g := F.CLE_LOOP_STATUS_MISS_LAST n) rfl
  obtain ⟨slackCount, loopCount⟩ := slackOther (g := F.CLE_LOOP_STATUS_MISSES n) rfl
  unfold missShown
  refine ⟨State.regsWf_put _ _ _ wf4, ?_, ?_, ?_, ?_⟩
  · have low : Reg.CLE_LOOP_OUT n ≠ Reg.CLE_SLACK ∧ Reg.CLE_LOOP_OUT n ≠ Reg.CLE_MISS ∧ Reg.CLE_LOOP_OUT n ≠ Reg.CLE_LOOP_STATUS n := by
      simp only [Reg.CLE_LOOP_OUT, Reg.CLE_SLACK, Reg.CLE_MISS, Reg.CLE_LOOP_STATUS]
      omega
    rw [State.reg_put_ne _ _ _ _ low.1, State.reg_put_ne _ _ _ _ low.1, State.bump, State.reg_put_ne _ _ _ _ low.2.2, State.putBit,
      State.reg_put_ne _ _ _ _ low.2.1, State.reg_put_ne _ _ _ _ low.2.2]
  · rw [State.get_put_of_apart loopLast wf4, State.get_put_of_apart slackLast wf3, State.bump, State.get_put_of_apart countLast wf2, State.putBit,
      State.get_put_of_apart (missOther rfl) wf1, State.get_put_of_lt lastFits (show 1 < 2 ^ 1 by decide) hs]
  · rw [State.get_put_of_apart loopCount wf4, State.get_put_of_apart slackCount wf3, State.bump, State.get_put_satN countFits wf2, State.putBit,
      State.get_put_of_apart (missOther rfl) wf1, State.get_put_of_apart lastCount hs]
    rfl
  · rw [State.get_put_of_apart (by decide) wf4, State.get_put_of_lt (by decide) (by decide) wf3]

theorem loopMiss_result {n : Nat} (hn : n < 32) {s : State} (size : n < s.eng.loops.length) (hs : s.regsWf = true) :
    (loop (loopMiss n s) n).sample = none ∧ (loop (loopMiss n s) n).integ = (loop s n).integ ∧
      (loopMiss n s).reg (Reg.CLE_LOOP_OUT n) = s.reg (Reg.CLE_LOOP_OUT n) ∧ (loopMiss n s).flag (F.CLE_LOOP_STATUS_MISS_LAST n) = true ∧
      (loopMiss n s).get (F.CLE_LOOP_STATUS_MISSES n) = satN 16 (s.get (F.CLE_LOOP_STATUS_MISSES n) + 1) ∧
      (loopMiss n s).get F.CLE_SLACK_MIN_SLACK = 0 ∧ Flagged Src.CLE_LOOP_MISS (loopMiss n s) := by
  have own := loop_modLoop (fun x => { x with sample := none, missSince := true }) size
  rw [loopMiss_eq]
  have regs : (modLoop n (fun x => { x with sample := none, missSince := true }) s).regs = s.regs := rfl
  generalize modLoop n (fun x => { x with sample := none, missSince := true }) s = t at own regs
  obtain ⟨wf, out, last_, count, slack⟩ := missShown_result n (s := t) (by simpa only [State.regsWf, regs] using hs)
  have eng : (missShown n t).eng = t.eng := rfl
  generalize missShown n t = v at wf out last_ count slack eng
  have told := missTold_within n (!s.flag (F.CLE_LOOP_STATUS_MISS_LAST n)) v
  have flagged := missTold_flagged n (!s.flag (F.CLE_LOOP_STATUS_MISS_LAST n)) wf
  generalize missTold n (!s.flag (F.CLE_LOOP_STATUS_MISS_LAST n)) v = u at told flagged
  have engU : u.eng = v.eng := told.part .eng (by decide)
  have same : loop u n = loop t n := by rw [loop, loop, engU, eng]
  have free : ∀ a, 0x41000 ≤ a → a < 0x41400 → (⟨fun _ => false, [.log]⟩ : Footprint).touches a = false := fun a low high =>
    touches_eq_false rfl (by omega) (by simp [raisePlaces]; omega)
  refine ⟨by rw [same, own], by rw [same, own], ?_, ?_, ?_, (told.get (by decide)).trans slack, flagged⟩
  · rw [told.reg _ (free _ (by simp only [Reg.CLE_LOOP_OUT]; omega) (by simp only [Reg.CLE_LOOP_OUT]; omega)), out, State.reg, regs, ← State.reg]
  · rw [State.flag, told.get (free _ (by simp only [F.CLE_LOOP_STATUS_MISS_LAST, Reg.CLE_LOOP_STATUS]; omega)
      (by simp only [F.CLE_LOOP_STATUS_MISS_LAST, Reg.CLE_LOOP_STATUS]; omega)), last_]
    rfl
  · rw [told.get (free _ (by simp only [F.CLE_LOOP_STATUS_MISSES, Reg.CLE_LOOP_STATUS]; omega)
      (by simp only [F.CLE_LOOP_STATUS_MISSES, Reg.CLE_LOOP_STATUS]; omega)), count, State.get_of_regs regs]

/-! ### The loss action -/

/-- A field of a loop at run time that the blocking of sinks leaves. -/
structure LoopField (g : Fld) : Prop where
  low : 0x41000 ≤ g.addr
  high : g.addr < 0x41400
  unblocked : ∀ m, (F.CLE_LOOP_STATUS_SINK_BLOCKED m).apart g = true

theorem loopField_loss {n : Nat} (hn : n < 32) : LoopField (F.CLE_LOOP_STATUS_LOSS n) where
  low := by simp only [F.CLE_LOOP_STATUS_LOSS, Reg.CLE_LOOP_STATUS]; omega
  high := by simp only [F.CLE_LOOP_STATUS_LOSS, Reg.CLE_LOOP_STATUS]; omega
  unblocked m := by simp [Fld.apart, Fld.fits, F.CLE_LOOP_STATUS_SINK_BLOCKED, F.CLE_LOOP_STATUS_LOSS]

theorem loopField_state {n : Nat} (hn : n < 32) : LoopField (F.CLE_LOOP_CTRL_STATE n) where
  low := by simp only [F.CLE_LOOP_CTRL_STATE, Reg.CLE_LOOP_CTRL]; omega
  high := by simp only [F.CLE_LOOP_CTRL_STATE, Reg.CLE_LOOP_CTRL]; omega
  unblocked m := apart_of_addr rfl (by
    simp only [F.CLE_LOOP_STATUS_SINK_BLOCKED, F.CLE_LOOP_CTRL_STATE, Reg.CLE_LOOP_STATUS, Reg.CLE_LOOP_CTRL]; omega)

section
variable {g : Fld} {b s : State} {c : Nat} (hg : LoopField g)
include hg

theorem LoopField.calm : calmReg g.addr = true := calmReg_of_low (by have := hg.high; omega) (by
  have := hg.low
  have := hg.high
  simp [raisePlaces]
  omega)

theorem LoopField.fault_stands (h : FieldStands g b s) {type cls source detail a0 a1 a2 : Nat} :
    FieldStands g b (fault type cls source detail a0 a1 a2 s) :=
  h.trans ((fault_within .refl (by decide) : Within ⟨fun _ => false, [.log]⟩ s _).stands
    (by simpa [calmReg, Footprint.touches] using hg.calm))

/-- A field of a load channel or of the block LSW. -/
theorem LoopField.channel (h : FieldStands g b s) {f : Fld} {v : Nat} (hf : f.fits = true) (below_ : f.addr < 0x41000) :
    FieldStands g b (s.put f v) := h.put (apart_of_addr hf (by have := hg.low; omega))

theorem LoopField.refreshBlocked_stands (h : FieldStands g b s) (n : Nat) : FieldStands g b (refreshBlocked s n) :=
  .ite (.ite h ((h.put (hg.unblocked n)).raiseArg hg.calm)) (h.put (hg.unblocked n))

theorem LoopField.refreshSinks_stands (h : FieldStands g b s) : FieldStands g b (refreshSinks s) :=
  h.foldOver _ fun _ n => hg.refreshBlocked_stands .refl n

theorem LoopField.commandOff_stands (h : FieldStands g b s) (hc : c < 32) : FieldStands g b (commandOff c s) := by
  have stat : ∀ {u : State} {lo w v : Nat}, (⟨Reg.LSW_CH_STAT c, lo, w⟩ : Fld).fits = true → FieldStands g b u →
      FieldStands g b (u.put ⟨Reg.LSW_CH_STAT c, lo, w⟩ v) := fun fits k => hg.channel k fits (by simp only [Reg.LSW_CH_STAT]; omega)
  have cancelled : ∀ {u : State}, FieldStands g b u → FieldStands g b (cancelRetry c u) := fun k =>
    .ite ((hg.channel (hg.fault_stands (stat (w := 1) rfl k).parts) (f := F.LSW_EVT_CH_CH) rfl (by decide)).raiseArg hg.calm) k
  have chan_ : ∀ {u : State} {f : ChannelPart → ChannelPart}, FieldStands g b u → FieldStands g b (modChan c f u) := fun k => k.parts
  exact stat rfl (stat rfl (chan_ (cancelled (chan_ h))))

/-- A command OFF of a channel leaves the fields of the loops. -/
theorem LoopField.commandChannel_off (h : FieldStands g b s) (hc : c < 32) : FieldStands g b (commandChannel c 0 0 s) := by
  have off : FieldStands g b (commandOff c (s.put (F.LSW_CH_CMD_STATE c) 0)) :=
    hg.commandOff_stands (hg.channel h rfl (by simp only [F.LSW_CH_CMD_STATE, Reg.LSW_CH_CMD]; omega)) hc
  have commanded : FieldStands g b (s.put (F.LSW_CH_CMD_STATE c) 0) :=
    hg.channel h rfl (by simp only [F.LSW_CH_CMD_STATE, Reg.LSW_CH_CMD]; omega)
  have zero : (if loadsBarred s then 0 else 0) = 0 := ite_self 0
  unfold commandChannel
  dsimp only
  rw [zero]
  have judged : ∀ {u : State}, FieldStands g b u → FieldStands g b (judgeAnew s c u) := fun k => .ite k.parts k
  exact .ite h (hg.refreshSinks_stands (judged (.ite commanded off)))

end

/-- What the loss action of a loop may change. -/
def lossActFoot : Footprint where
  reg a := (loadFoot 32).reg a || decide (0x41000 ≤ a ∧ a < 0x41400)
  parts := [.log, .load, .eng, .line]

theorem lossActFoot_loop {a : Nat} (low : 0x41000 ≤ a) (high : a < 0x41400) : lossActFoot.reg a = true := by
  simp [lossActFoot, low, high]

theorem Within.lossAct {b s : State} (h : Within (loadFoot 32) b s) : Within lossActFoot b s :=
  h.mono (fun a ha => by simp [lossActFoot, ha]) (by simp [loadFoot, lossActFoot])

/-- A configuration register of a loop stands. -/
theorem lossActFoot_cfg {a : Nat} (low : 0x40100 ≤ a) (high : a < 0x41000) : lossActFoot.touches a = false := by
  refine touches_eq_false ?_ (by omega) (by simp [raisePlaces]; omega)
  have channel : channelPlace 32 a = false := decide_eq_false (by omega)
  have status : loopStatusPlace a = false := decide_eq_false (by omega)
  have other : a ≠ Reg.LSW_EVT_CH ∧ a ≠ Reg.EVR_RETIRE := by simp only [Reg.LSW_EVT_CH, Reg.EVR_RETIRE]; omega
  simp [lossActFoot, loadFoot, channel, status, other]
  omega

/-- A sink is let go: the loops stand, and so do their fields but the blocking of sinks. -/
structure SinkOff (b u : State) : Prop where
  within_ : Within lossActFoot b u
  fields : ∀ g, LoopField g → FieldStands g b u
  loops : u.eng.loops = b.eng.loops

theorem SinkOff.refl (b : State) : SinkOff b b := ⟨.refl, fun _ _ => .refl, rfl⟩

theorem SinkOff.trans {b s u : State} (h : SinkOff b s) (k : SinkOff s u) : SinkOff b u :=
  ⟨h.within_.trans k.within_, fun g hg => (h.fields g hg).trans (k.fields g hg), k.loops.trans h.loops⟩

theorem SinkOff.pwmSink {b u : State} (h : SinkOff b u) {n : Nat} (hn : n < 32) : pwmSink u n = pwmSink b n := by
  have free := lossActFoot_cfg (a := Reg.CLE_LOOP_SINK n) (by simp only [Reg.CLE_LOOP_SINK]; omega) (by simp only [Reg.CLE_LOOP_SINK]; omega)
  have kind : u.get (F.CLE_LOOP_SINK_KIND n) = b.get (F.CLE_LOOP_SINK_KIND n) := h.within_.get free
  have index : u.get (F.CLE_LOOP_SINK_INDEX n) = b.get (F.CLE_LOOP_SINK_INDEX n) := h.within_.get free
  rw [Machine.pwmSink, Machine.pwmSink, kind, index]

theorem sinkOff_commandChannel {c : Nat} (hc : c < 32) (s : State) : SinkOff s (commandChannel c 0 0 s) where
  within_ := (commandChannel_within hc .refl).lossAct
  fields _ hg := hg.commandChannel_off .refl hc
  loops := congrArg EnginePart.loops ((commandChannel_within hc .refl : Within (loadFoot 32) s _).part .eng (by simp [loadFoot]))

theorem sinkOff_refreshBlocked {n : Nat} (hn : n < 32) (s : State) : SinkOff s (refreshBlocked s n) where
  within_ := refreshBlocked_within .refl (lossActFoot_loop (by simp only [Reg.CLE_LOOP_STATUS]; omega) (by simp only [Reg.CLE_LOOP_STATUS]; omega))
  fields _ hg := hg.refreshBlocked_stands .refl n
  loops := congrArg EnginePart.loops ((refreshBlocked_within .refl (blockedFoot_status n) : Within (blockedFoot n) s _).part .eng
    (by simp [blockedFoot]))

/-- The sink of a loop names a channel that exists. -/
def SinkExists (s : State) (n : Nat) : Prop := ∀ c, pwmSink s n = some c → c < 32

theorem sinkOff_writeLineWord (entry word : Nat) (v : Int) (s : State) : SinkOff s (writeLineWord entry word v s) where
  within_ := ite_within (line_within (eng_within .refl (by decide)) (by decide)) (eng_within .refl (by decide))
  fields _ _ := .ite FieldStands.refl.parts FieldStands.refl.parts
  loops := by
    unfold writeLineWord
    dsimp only
    split <;> rfl

theorem sinkOff_writeSink {n : Nat} {u : Int} {s : State} (exist : SinkExists s n) : SinkOff s (writeSink n u s) := by
  unfold writeSink writeTo
  dsimp only
  split
  next kind =>
    have hc : (sinkOf s n).index < 32 := exist _ (if_pos kind)
    refine ⟨(put_within .refl (loadFoot_cmd hc) : Within (loadFoot 32) s _).lossAct, fun g hg => hg.channel .refl rfl ?_, rfl⟩
    simp only [F.LSW_CH_CMD_DUTY, Reg.LSW_CH_CMD]
    omega
  · split
    · exact ⟨eng_within .refl (by decide), fun _ _ => FieldStands.refl.parts, rfl⟩
    · split
      · exact sinkOff_writeLineWord _ _ _ s
      · exact .refl s

theorem sinkOff_releaseSink {n : Nat} (hn : n < 32) {s : State} (exist : SinkExists s n) : SinkOff s (releaseSink n s) := by
  have written := sinkOff_writeSink (n := n) (u := s.gets (F.CLE_LOOP_SAFE_SAFE n)) exist
  unfold releaseSink
  dsimp only
  split
  · exact written
  next c sink =>
    have hc : c < 32 := exist c ((written.pwmSink hn).symm.trans sink)
    have freed : ∀ u : State, SinkOff u (u.put (F.LSW_CH_STAT_OWNED c) 0) := fun u =>
      ⟨(put_within .refl (loadFoot_stat hc) : Within (loadFoot 32) u _).lossAct,
        fun g hg => hg.channel .refl rfl (by simp only [F.LSW_CH_STAT_OWNED, Reg.LSW_CH_STAT]; omega), rfl⟩
    split
    · exact written.trans ((freed _).trans (sinkOff_commandChannel hc _))
    · exact written.trans (freed _)

/-- A loop that opens lets its sink go, and its channel is off. -/
theorem loopOff_result {n : Nat} (hn : n < 32) {s : State} (size : n < s.eng.loops.length) (hs : s.regsWf = true) (exist : SinkExists s n) :
    Within lossActFoot s (loopOff n s) ∧ (loopOff n s).get (F.CLE_LOOP_STATUS_LOSS n) = s.get (F.CLE_LOOP_STATUS_LOSS n) ∧
      (loop (loopOff n s) n).sample = none ∧ loopState (loopOff n s) n = lOpen := by
  have own := loop_modLoop (fun x => { x with sample := none }) size
  have stateFits : (F.CLE_LOOP_CTRL_STATE n).fits = true := rfl
  have lossOther : (F.CLE_LOOP_CTRL_STATE n).apart (F.CLE_LOOP_STATUS_LOSS n) = true :=
    apart_of_addr stateFits (by simp only [F.CLE_LOOP_CTRL_STATE, F.CLE_LOOP_STATUS_LOSS, Reg.CLE_LOOP_CTRL, Reg.CLE_LOOP_STATUS]; omega)
  have set : Within lossActFoot s (setLoopState n lOpen s) := put_within (modLoop_within .refl (by decide))
    (lossActFoot_loop (by simp only [F.CLE_LOOP_CTRL_STATE, Reg.CLE_LOOP_CTRL]; omega) (by simp only [F.CLE_LOOP_CTRL_STATE, Reg.CLE_LOOP_CTRL]; omega))
  have open_ : (setLoopState n lOpen s).get (F.CLE_LOOP_CTRL_STATE n) = lOpen := loopState_setLoopState hs (by decide)
  have loss : (setLoopState n lOpen s).get (F.CLE_LOOP_STATUS_LOSS n) = s.get (F.CLE_LOOP_STATUS_LOSS n) := by
    rw [setLoopState, State.get_put_of_apart lossOther (by simpa using hs), get_modLoop]
  have empty : (loop (setLoopState n lOpen s) n).sample = none := congrArg LoopPart.sample own
  have sink : pwmSink (setLoopState n lOpen s) n = pwmSink s n := by
    have free := lossActFoot_cfg (a := Reg.CLE_LOOP_SINK n) (by simp only [Reg.CLE_LOOP_SINK]; omega) (by simp only [Reg.CLE_LOOP_SINK]; omega)
    have kind : (setLoopState n lOpen s).get (F.CLE_LOOP_SINK_KIND n) = s.get (F.CLE_LOOP_SINK_KIND n) := set.get free
    have index : (setLoopState n lOpen s).get (F.CLE_LOOP_SINK_INDEX n) = s.get (F.CLE_LOOP_SINK_INDEX n) := set.get free
    rw [pwmSink, pwmSink, kind, index]
  unfold loopOff loopToOpen
  generalize setLoopState n lOpen s = t at set open_ loss empty sink
  have wf := set.wf hs
  have exist' : SinkExists t n := fun c hc => exist c (sink ▸ hc)
  have let_ : SinkOff t (refreshBlocked (releaseSink n t) n) := (sinkOff_releaseSink hn exist').trans (sinkOff_refreshBlocked hn _)
  generalize refreshBlocked (releaseSink n t) n = v at let_
  have ends : ∀ u, SinkOff t u → Within lossActFoot s u ∧ u.get (F.CLE_LOOP_STATUS_LOSS n) = s.get (F.CLE_LOOP_STATUS_LOSS n) ∧
      (loop u n).sample = none ∧ loopState u n = lOpen := fun u off =>
    ⟨set.trans off.within_, (off.fields _ (loopField_loss hn) wf).2.trans loss, by rw [loop, off.loops, ← loop, empty],
      (off.fields _ (loopField_state hn) wf).2.trans open_⟩
  dsimp only
  split
  · exact ends _ let_
  next c found => exact ends _ (let_.trans (sinkOff_commandChannel (exist' c ((let_.pwmSink hn).symm.trans found)) v))

/-- The end of the grace of a loop takes its loss action. -/
theorem lossDue_acts {n : Nat} (hn : n < 32) {b : State} (sound : b.sound = true) (up : b.die.sigUp = true) (exist : channelsExist b n = true)
    (runs : loopState b n = lRun) (lost : (loop b n).lostAt.isSome = true) (before_ : b.get (F.CLE_LOOP_STATUS_LOSS n) ≠ 2)
    (late : graceEnd b n ≤ b.now) (u : State) (hu : u = lossDue n b) :
    u.get (F.CLE_LOOP_STATUS_LOSS n) = 2 ∧ (loop u n).sample = none ∧ Flagged Src.CLE_LOOP_LOSS_ACTION u ∧
      loopState u n = (if b.get (F.CLE_LOOP_CFG_LOSS_ACT n) = 2 then lOpen else lRun) := by
  have hs := regsWf_of_sound sound
  have lossFits : (F.CLE_LOOP_STATUS_LOSS n).fits = true := rfl
  have marked : Within lossActFoot b (b.put (F.CLE_LOOP_STATUS_LOSS n) 2) := put_within .refl (lossActFoot_loop
    (by simp only [F.CLE_LOOP_STATUS_LOSS, Reg.CLE_LOOP_STATUS]; omega) (by simp only [F.CLE_LOOP_STATUS_LOSS, Reg.CLE_LOOP_STATUS]; omega))
  have two : (b.put (F.CLE_LOOP_STATUS_LOSS n) 2).get (F.CLE_LOOP_STATUS_LOSS n) = 2 := State.get_put_of_lt lossFits (show 2 < 2 ^ 2 by decide) hs
  have state : (b.put (F.CLE_LOOP_STATUS_LOSS n) 2).get (F.CLE_LOOP_CTRL_STATE n) = lRun := by
    rw [State.get_put_of_apart (apart_of_addr lossFits (by
      simp only [F.CLE_LOOP_CTRL_STATE, F.CLE_LOOP_STATUS_LOSS, Reg.CLE_LOOP_CTRL, Reg.CLE_LOOP_STATUS]; omega)) hs]
    exact runs
  have eng : (b.put (F.CLE_LOOP_STATUS_LOSS n) 2).eng = b.eng := rfl
  rw [lossDue, if_pos ⟨up, runs, lost, before_, late⟩, lossAction] at hu
  generalize b.put (F.CLE_LOOP_STATUS_LOSS n) 2 = t at hu marked two state eng
  have told : Within lossActFoot t (raise Src.CLE_LOOP_LOSS_ACTION n t) := raise_within .refl
  have flagged : Flagged Src.CLE_LOOP_LOSS_ACTION (raise Src.CLE_LOOP_LOSS_ACTION n t) := flagged_raiseArg (by decide) (marked.wf hs)
  have lossStands : FieldStands (F.CLE_LOOP_STATUS_LOSS n) t (raise Src.CLE_LOOP_LOSS_ACTION n t) := .raiseArg .refl (loopField_loss hn).calm
  have stateStands : FieldStands (F.CLE_LOOP_CTRL_STATE n) t (raise Src.CLE_LOOP_LOSS_ACTION n t) := .raiseArg .refl (loopField_state hn).calm
  have eng' : (raise Src.CLE_LOOP_LOSS_ACTION n t).eng = b.eng := by simp [eng]
  generalize raise Src.CLE_LOOP_LOSS_ACTION n t = v at hu told flagged lossStands stateStands eng'
  have wf := marked.wf hs
  have wfV := told.wf wf
  have cfg (f : Fld) (low : 0x40100 ≤ f.addr) (high : f.addr < 0x41000) : v.get f = b.get f := (marked.trans told).get (lossActFoot_cfg low high)
  have act := cfg (F.CLE_LOOP_CFG_LOSS_ACT n) (by simp only [F.CLE_LOOP_CFG_LOSS_ACT, Reg.CLE_LOOP_CFG]; omega)
    (by simp only [F.CLE_LOOP_CFG_LOSS_ACT, Reg.CLE_LOOP_CFG]; omega)
  have size : n < v.eng.loops.length := by rw [eng', loops_length_of_sound sound]; exact hn
  have sinks : SinkExists v n := by
    intro c found
    simp only [pwmSink, Option.ite_none_right_eq_some, Option.some.injEq,
      cfg (F.CLE_LOOP_SINK_KIND n) (by simp only [F.CLE_LOOP_SINK_KIND, Reg.CLE_LOOP_SINK]; omega) (by simp only [F.CLE_LOOP_SINK_KIND, Reg.CLE_LOOP_SINK]; omega),
      cfg (F.CLE_LOOP_SINK_INDEX n) (by simp only [F.CLE_LOOP_SINK_INDEX, Reg.CLE_LOOP_SINK]; omega)
        (by simp only [F.CLE_LOOP_SINK_INDEX, Reg.CLE_LOOP_SINK]; omega)] at found
    exact found.2 ▸ (channelsExist_iff.mp exist).2.2 found.1
  rw [act] at hu
  by_cases opens : b.get (F.CLE_LOOP_CFG_LOSS_ACT n) = 2
  · rw [if_pos opens] at hu ⊢
    obtain ⟨within_, loss, empty, open_⟩ := loopOff_result hn size wfV sinks
    rw [hu]
    exact ⟨loss.trans ((lossStands wf).2.trans two), empty, within_.flags wfV _ (by decide) flagged, open_⟩
  · rw [if_neg opens] at hu ⊢
    rw [hu]
    refine ⟨by rw [get_modLoop]; exact (lossStands wf).2.trans two, congrArg LoopPart.sample (loop_modLoop _ size), by simpa using flagged, ?_⟩
    rw [loopState, get_modLoop]
    exact (stateStands wf).2.trans state

/-- Settles O42: ticks, deadlines and loss actions, each through the loop it concerns; the service of other samples leaves it alone. -/
theorem loopRows : Obligations.LoopRows := by
  refine ⟨fun n cost k hn => ?_, fun n cost k hn => ?_, fun n hn => ?_, fun n x d hn => ?_, fun n x d hn => ?_, fun n hn => ?_⟩
  · refine does_of_run (fun s => if n < 32 then loopTick n cost s else s) (fun _ _ => rfl)
      fun b ⟨sound, up, defined, idle, instant_, allowed, hold⟩ => ?_
    rw [if_pos hn]
    exact loopTick_hold hn sound up defined idle instant_ allowed hold _ rfl
  · refine does_of_run (fun s => if n < 32 then loopTick n cost s else s) (fun _ _ => rfl)
      fun b ⟨sound, up, defined, idle, exist, instant_, allowed, runs, steady, noLoss⟩ => ?_
    rw [if_pos hn]
    exact loopTick_run hn sound up defined idle exist instant_ allowed runs steady noLoss _ rfl _ rfl
  · refine does_of_run (fun s => if n < 32 then loopDeadline n s else s) (fun _ _ => rfl) fun b early => ?_
    rw [if_pos hn]
    unfold loopDeadline
    split
    · rfl
    next x sample => exact if_pos (early x sample)
  · refine does_of_run (fun s => if n < 32 then loopDeadline n s else s) (fun _ _ => rfl) fun b ⟨sound, _, sample, due, done, inTime⟩ => ?_
    obtain ⟨served, -⟩ := serveUntil_done (limit := deviceTime b) sample done
    rw [if_pos hn, loopDeadline_done sample due done, if_pos inTime]
    exact loopApply_result x (by rw [served.size, loops_length_of_sound sound]; exact hn)
      (by rw [State.regsWf, served.regs]; exact regsWf_of_sound sound)
  · refine does_of_run (fun s => if n < 32 then loopDeadline n s else s) (fun _ _ => rfl) fun b ⟨sound, sample, due, done, late⟩ => ?_
    obtain ⟨served, same⟩ := serveUntil_done (limit := deviceTime b) sample done
    rw [if_pos hn, loopDeadline_done sample due done, if_neg (Nat.not_le.mpr late)]
    obtain ⟨empty, integ, out, last_, count, rest⟩ := loopMiss_result hn (s := serveUntil (deviceTime b) 64 b)
      (by rw [served.size, loops_length_of_sound sound]; exact hn) (by rw [State.regsWf, served.regs]; exact regsWf_of_sound sound)
    refine ⟨empty, integ.trans (by rw [same]), out.trans (by rw [State.reg, served.regs, ← State.reg]), last_, count.trans ?_, rest⟩
    rw [State.get_of_regs served.regs]
    rfl
  · refine does_of_run (fun s => if n < 32 then lossDue n s else s) (fun _ _ => rfl)
      fun b ⟨sound, up, exist, runs, lost, before_, late⟩ => ?_
    rw [if_pos hn]
    exact lossDue_acts hn sound up exist runs lost before_ late _ rfl

end Sys2Proof.Machine
end

section
/-!
The protection of load channels: latches, retries, the siding, inrush windows and open-load judgement (R451–R468).
-/

namespace Sys2Proof.Machine

/-! ### Registers in rows -/

/-- A field of registers that stand 32 bytes apart. -/
def Strided (f : Nat → Fld) : Prop := ∀ c, f c = ⟨(f 0).addr + 0x20 * c, (f 0).lo, (f 0).width⟩

/-- Fields of one row of registers are apart where those of row 0 are. -/
theorem apart_of_zero {f g : Nat → Fld} (c : Nat) (hf : Strided f) (hg : Strided g) (h : (f 0).apart (g 0) = true) :
    (f c).apart (g c) = true := by
  rw [hf c, hg c]
  obtain ⟨fits, apart⟩ := Fld.apart_iff.mp h
  refine Fld.apart_iff.mpr ⟨fits, ?_⟩
  simp only [Fld.Apart, ne_eq, Nat.add_right_cancel_iff] at apart ⊢
  exact apart

/-! ### The fields of a channel -/

/-- A field of the registers of the load channels. -/
structure ChanField (g : Fld) : Prop where
  low : 0x30100 ≤ g.addr
  high : g.addr < 0x30500

theorem chanField_of_strided {f : Nat → Fld} {c : Nat} (hc : c < 32) (hf : Strided f) (low : 0x30100 ≤ (f 0).addr) (high : (f 0).addr < 0x30120) :
    ChanField (f c) := by
  rw [hf c]
  exact ⟨by simp only; omega, by simp only; omega⟩

section
variable {g : Fld} {b s : State} (hg : ChanField g)
include hg

theorem ChanField.calm : calmReg g.addr = true := calmReg_of_low (by have := hg.high; omega) (by
  have := hg.low
  have := hg.high
  simp [raisePlaces]
  omega)

theorem ChanField.fault_stands (h : FieldStands g b s) {type cls source detail a0 a1 a2 : Nat} :
    FieldStands g b (fault type cls source detail a0 a1 a2 s) :=
  h.trans ((fault_within .refl (by decide) : Within ⟨fun _ => false, [.log]⟩ s _).stands
    (by simpa [calmReg, Footprint.touches] using hg.calm))

theorem ChanField.retire_stands (h : FieldStands g b s) {kind cause index unit : Nat} : FieldStands g b (retire kind cause index unit s) := by
  refine h.trans ((retire_within .refl (by decide) (by decide) : Within ⟨fun a => a == Reg.EVR_RETIRE, [.log]⟩ s _).stands ?_)
  have other : g.addr ≠ Reg.EVR_RETIRE := by
    have := hg.high
    simp only [Reg.EVR_RETIRE]
    omega
  have calm : (!(eventPlace g.addr || flagReg g.addr)) = true := hg.calm
  simp only [Bool.not_eq_true', Bool.or_eq_false_iff] at calm
  simp [Footprint.touches, other, calm]

theorem ChanField.raiseCh_stands (h : FieldStands g b s) {src c : Nat} : FieldStands g b (raiseCh src c s) :=
  (h.put (apart_of_addr rfl (by have := hg.low; simp only [F.LSW_EVT_CH_CH, Reg.LSW_EVT_CH]; omega))).raiseArg hg.calm

theorem ChanField.refreshSinks_stands (h : FieldStands g b s) : FieldStands g b (refreshSinks s) :=
  h.foldOver _ fun u n => by
    have put_ : ∀ {v w : Nat}, FieldStands g u (u.put ⟨Reg.CLE_LOOP_STATUS n, 1, 1⟩ v) := fun {v w} =>
      FieldStands.refl.put (apart_of_addr rfl (by have := hg.high; simp only [Reg.CLE_LOOP_STATUS]; omega))
    exact .ite (.ite .refl ((put_ (w := 0)).raiseArg hg.calm)) (put_ (w := 0))

end

/-! ### Operations on one channel -/

theorem channels_length_of_sound {s : State} (h : s.sound = true) : s.load.channels.length = 32 := by
  simp only [State.sound, State.sized, Bool.and_eq_true, beq_iff_eq] at h
  tauto

theorem chan_modChan {c : Nat} (f : ChannelPart → ChannelPart) {s : State} (hc : c < s.load.channels.length) :
    chan (modChan c f s) c = f (chan s c) := nth_setNth_same _ _ hc

theorem chan_modChan_ne {c k : Nat} (other : k ≠ c) (f : ChannelPart → ChannelPart) (s : State) : chan (modChan c f s) k = chan s k :=
  nth_setNth_ne _ _ other

theorem chan_of_load {b u : State} (h : u.load = b.load) (c : Nat) : chan u c = chan b c := by rw [chan, chan, h]

/-- What an operation on one load channel may change. -/
def channelFoot (c : Nat) : Footprint where
  reg a := a == Reg.LSW_EVT_CH || a == Reg.EVR_RETIRE || decide (0x30100 + 0x20 * c ≤ a ∧ a < 0x30120 + 0x20 * c) || loopStatusPlace a
  parts := [.log, .load]

theorem channelFoot_own {c a : Nat} (low : 0x30100 + 0x20 * c ≤ a) (high : a < 0x30120 + 0x20 * c) : (channelFoot c).reg a = true := by
  simp [channelFoot, low, high]

theorem channelFoot_log (c : Nat) : Part.log ∈ (channelFoot c).parts := by simp [channelFoot]

/-- The registers of another channel stand. -/
theorem channelFoot_other {c k i : Nat} (hk : k < 32) (other : k ≠ c) (hi : i < 8) : (channelFoot c).touches (Reg.LSW_CH_CFG k + 4 * i) = false := by
  refine touches_eq_false ?_ (by simp only [Reg.LSW_CH_CFG]; omega) (by simp [raisePlaces, Reg.LSW_CH_CFG]; omega)
  have noStatus : loopStatusPlace (Reg.LSW_CH_CFG k + 4 * i) = false := decide_eq_false (by simp only [Reg.LSW_CH_CFG]; omega)
  have noEvent : Reg.LSW_CH_CFG k + 4 * i ≠ Reg.LSW_EVT_CH ∧ Reg.LSW_CH_CFG k + 4 * i ≠ Reg.EVR_RETIRE := by
    simp only [Reg.LSW_CH_CFG, Reg.LSW_EVT_CH, Reg.EVR_RETIRE]
    omega
  have noOwn : ¬ (0x30100 + 0x20 * c ≤ Reg.LSW_CH_CFG k + 4 * i ∧ Reg.LSW_CH_CFG k + 4 * i < 0x30120 + 0x20 * c) := by
    simp only [Reg.LSW_CH_CFG]
    omega
  simp only [channelFoot, noStatus, decide_eq_false noOwn, beq_eq_false_iff_ne.mpr noEvent.1, beq_eq_false_iff_ne.mpr noEvent.2, Bool.or_self]

/-- An operation on one channel: the others and their number stay. -/
structure OnChannel (c : Nat) (b u : State) : Prop where
  within_ : Within (channelFoot c) b u
  others : ∀ k, k ≠ c → chan u k = chan b k
  size : u.load.channels.length = b.load.channels.length

section
variable {c : Nat} {b s t : State}

theorem OnChannel.refl : OnChannel c b b := ⟨.refl, fun _ _ => rfl, rfl⟩

theorem OnChannel.trans (h : OnChannel c b s) (k : OnChannel c s t) : OnChannel c b t :=
  ⟨h.within_.trans k.within_, fun n hn => (k.others n hn).trans (h.others n hn), k.size.trans h.size⟩

theorem OnChannel.aside (h : OnChannel c b s) (k : Within (channelFoot c) s t) (load : t.load = s.load) : OnChannel c b t :=
  h.trans ⟨k, fun n _ => chan_of_load load n, by rw [load]⟩

theorem OnChannel.mod (h : OnChannel c b s) (f : ChannelPart → ChannelPart) : OnChannel c b (modChan c f s) :=
  h.trans ⟨load_within .refl (by simp [channelFoot]), fun _ other => chan_modChan_ne other f s, setNth_length _ _ _⟩

theorem OnChannel.put (h : OnChannel c b s) {f : Fld} {v : Nat} (low : 0x30100 + 0x20 * c ≤ f.addr) (high : f.addr < 0x30120 + 0x20 * c) :
    OnChannel c b (s.put f v) := h.aside (put_within .refl (channelFoot_own low high)) rfl

theorem OnChannel.stat (h : OnChannel c b s) {lo w v : Nat} : OnChannel c b (s.put ⟨Reg.LSW_CH_STAT c, lo, w⟩ v) :=
  h.put (by simp only [Reg.LSW_CH_STAT]; omega) (by simp only [Reg.LSW_CH_STAT]; omega)

theorem OnChannel.ite {p : Prop} [Decidable p] (hs : OnChannel c b s) (ht : OnChannel c b t) : OnChannel c b (if p then s else t) := by
  split
  · exact hs
  · exact ht

theorem OnChannel.fault (h : OnChannel c b s) {type cls source detail a0 a1 a2 : Nat} :
    OnChannel c b (fault type cls source detail a0 a1 a2 s) := h.aside (fault_within .refl (channelFoot_log c)) (by simp)

theorem OnChannel.retire (h : OnChannel c b s) {kind cause index unit : Nat} : OnChannel c b (retire kind cause index unit s) :=
  h.aside (retire_within .refl (channelFoot_log c) (by simp [channelFoot])) (retire_load _ _ _ _ _)

theorem raiseCh_load (src c : Nat) (s : State) : (raiseCh src c s).load = s.load := by
  simp [raiseCh]

theorem OnChannel.raiseCh (h : OnChannel c b s) {src : Nat} : OnChannel c b (raiseCh src c s) :=
  h.aside (raise_within (put_within .refl (by simp [channelFoot, F.LSW_EVT_CH_CH]))) (raiseCh_load src c s)

theorem refreshSinks_load_eq (s : State) : (refreshSinks s).load = s.load := (refreshSinks_blockFoot s).part .load (by simp [blockFoot])

theorem OnChannel.refreshSinks (h : OnChannel c b s) : OnChannel c b (refreshSinks s) :=
  h.aside (refreshSinks_within .refl fun n hn => by simp [channelFoot, loopStatusPlace_status hn]) (refreshSinks_load_eq s)

theorem OnChannel.kept (h : OnChannel c b s) : otherChannelsKept c b s := fun k hk other =>
  ⟨h.others k other, fun _ hi => h.within_.reg _ (channelFoot_other hk other hi)⟩

end

/-! ### Latches -/

/-- The output of a channel that latches is off, and the latch is counted with its cause. -/
def latchMarked (c cause : Nat) (s : State) : State := ((outputOff c s).put (F.LSW_CH_STAT_CAUSE c) cause).bump (F.LSW_CH_CNT_LATCHES c) 1

/-- A latch in limp mode. -/
def latchLimp (c : Nat) (s : State) : State := (modChan c (fun x => { x with limpLatched := true }) s).put (F.LSW_CH_STAT_CSTATE c) cLimp

/-- A latch in the window of a retry. -/
def latchSided (c cause : Nat) (s : State) : State :=
  raiseCh Src.LSW_SIDED c (fault 0x03 2 Src.LSW_SIDED c cause 0 0
    (retire 1 cause c 0 ((s.put (F.LSW_CH_STAT_WINDOW c) 0).put (F.LSW_CH_STAT_CSTATE c) cSided)))

/-- The state of a latched channel and the time of its retry. -/
def latchWaits (c : Nat) (s : State) : State :=
  modChan c (fun x => { x with retryAt := some (s.now + s.get (F.LSW_CH_TIME_RETRY_DLY c) * ms) }) (s.put (F.LSW_CH_STAT_CSTATE c) cLatched)

/-- A latch that a retry follows. -/
def latchTimed (c cause : Nat) (s : State) : State :=
  raiseCh Src.LSW_LATCH c (fault 0x01 5 Src.LSW_LATCH c cause ((latchWaits c s).reg (Reg.LSW_CH_CURR c)) ((latchWaits c s).get (F.LSW_CH_TJ_TJ c))
    (latchWaits c s))

/-- What a latch does once it is counted. -/
def latchWay (c cause : Nat) (s : State) : State :=
  if inLimp s then latchLimp c s else if s.flag (F.LSW_CH_STAT_WINDOW c) then latchSided c cause s else latchTimed c cause s

theorem latchChannel_eq (c cause : Nat) (s : State) : latchChannel c cause s = refreshSinks (latchWay c cause (latchMarked c cause s)) := rfl

theorem latchWay_channel (c cause : Nat) (s : State) : OnChannel c s (latchWay c cause s) :=
  .ite (OnChannel.stat (.mod .refl _)) (.ite (OnChannel.raiseCh (.fault (.retire (.stat (.stat .refl))))) (OnChannel.raiseCh (.fault (.mod (.stat .refl) _))))

theorem latchWay_stands {c cause : Nat} {g : Fld} (hg : ChanField g) (state : (F.LSW_CH_STAT_CSTATE c).apart g = true)
    (window : (F.LSW_CH_STAT_WINDOW c).apart g = true) (s : State) : FieldStands g s (latchWay c cause s) :=
  .ite (FieldStands.put (FieldStands.parts .refl) state)
    (.ite (hg.raiseCh_stands (hg.fault_stands (hg.retire_stands (.put (.put .refl window) state))))
      (hg.raiseCh_stands (hg.fault_stands (FieldStands.parts (.put .refl state)))))

section
variable {c cause : Nat} {s : State}

theorem outputOff_channel (c : Nat) (s : State) : OnChannel c s (outputOff c s) := OnChannel.stat (.mod .refl _)

theorem latchMarked_channel (c cause : Nat) (s : State) : OnChannel c s (latchMarked c cause s) := by
  refine OnChannel.put (OnChannel.stat (outputOff_channel c s)) ?_ ?_ <;> simp only [F.LSW_CH_CNT_LATCHES, Reg.LSW_CH_CNT] <;> omega

theorem latchMarked_chan (hc : c < s.load.channels.length) :
    chan (latchMarked c cause s) c = { chan s c with output := false, period := 0, onCounts := 0 } :=
  chan_modChan (fun x => { x with output := false, period := 0, onCounts := 0 }) hc

theorem latchMarked_stands {g : Fld} (inrush : (F.LSW_CH_STAT_INRUSH c).apart g = true) (mark : (F.LSW_CH_STAT_CAUSE c).apart g = true)
    (count : (F.LSW_CH_CNT_LATCHES c).apart g = true) : FieldStands g s (latchMarked c cause s) :=
  (((FieldStands.refl.parts : FieldStands g s (modChan c (fun x => { x with output := false, period := 0, onCounts := 0 }) s)).put inrush).put mark).put count

theorem latchMarked_own (hs : s.regsWf = true) (small : cause < 4) : (latchMarked c cause s).get (F.LSW_CH_STAT_INRUSH c) = 0 ∧
    (latchMarked c cause s).get (F.LSW_CH_STAT_CAUSE c) = cause ∧
      (latchMarked c cause s).get (F.LSW_CH_CNT_LATCHES c) = satN 16 (s.get (F.LSW_CH_CNT_LATCHES c) + 1) := by
  have wf0 : (modChan c (fun x => { x with output := false, period := 0, onCounts := 0 }) s).regsWf = true := by simpa using hs
  have inrushFits : (F.LSW_CH_STAT_INRUSH c).fits = true := rfl
  have causeFits : (F.LSW_CH_STAT_CAUSE c).fits = true := rfl
  have countFits : (F.LSW_CH_CNT_LATCHES c).fits = true := rfl
  have causeInrush : (F.LSW_CH_STAT_CAUSE c).apart (F.LSW_CH_STAT_INRUSH c) = true := apart_of_zero c (fun _ => rfl) (fun _ => rfl) (by decide)
  have countInrush : (F.LSW_CH_CNT_LATCHES c).apart (F.LSW_CH_STAT_INRUSH c) = true := apart_of_zero c (fun _ => rfl) (fun _ => rfl) (by decide)
  have countCause : (F.LSW_CH_CNT_LATCHES c).apart (F.LSW_CH_STAT_CAUSE c) = true := apart_of_zero c (fun _ => rfl) (fun _ => rfl) (by decide)
  have causeCount : (F.LSW_CH_STAT_CAUSE c).apart (F.LSW_CH_CNT_LATCHES c) = true := apart_of_zero c (fun _ => rfl) (fun _ => rfl) (by decide)
  have inrushCount : (F.LSW_CH_STAT_INRUSH c).apart (F.LSW_CH_CNT_LATCHES c) = true := apart_of_zero c (fun _ => rfl) (fun _ => rfl) (by decide)
  unfold latchMarked outputOff
  have same : (modChan c (fun x => { x with output := false, period := 0, onCounts := 0 }) s).get (F.LSW_CH_CNT_LATCHES c) =
    s.get (F.LSW_CH_CNT_LATCHES c) := by simp
  generalize modChan c (fun x => { x with output := false, period := 0, onCounts := 0 }) s = t at wf0 same
  have wf1 := State.regsWf_put t (F.LSW_CH_STAT_INRUSH c) 0 wf0
  have wf2 := State.regsWf_put _ (F.LSW_CH_STAT_CAUSE c) cause wf1
  refine ⟨?_, ?_, ?_⟩
  · rw [State.bump, State.get_put_of_apart countInrush wf2, State.get_put_of_apart causeInrush wf1, State.get_put_of_lt inrushFits (by decide : 0 < 2 ^ 1) wf0]
  · rw [State.bump, State.get_put_of_apart countCause wf2, State.get_put_of_lt causeFits small wf1]
  · rw [State.bump, State.get_put_satN countFits wf2, State.get_put_of_apart causeCount wf1, State.get_put_of_apart inrushCount wf0, same]
    rfl

/-- A latch in limp mode waits there. -/
theorem latchLimp_result (hc : c < s.load.channels.length) (hs : s.regsWf = true) : (latchLimp c s).get (F.LSW_CH_STAT_CSTATE c) = cLimp ∧
    chan (latchLimp c s) c = { chan s c with limpLatched := true } := by
  have fits : (F.LSW_CH_STAT_CSTATE c).fits = true := rfl
  exact ⟨State.get_put_of_lt fits (show 5 < 2 ^ 3 by decide) (by simpa using hs), chan_modChan (fun x => { x with limpLatched := true }) hc⟩

/-- The register that names the channel of an event, over a raise of it. -/
theorem raiseCh_result (hc : c < 32) {src : Nat} (raisable_ : raisable src = true) (calm : (quiet src F.LSW_EVT_CH_CH) = true) (hs : s.regsWf = true) :
    (raiseCh src c s).get F.LSW_EVT_CH_CH = c ∧ Flagged src (raiseCh src c s) := by
  have wf := State.regsWf_put s F.LSW_EVT_CH_CH c hs
  refine ⟨?_, flagged_raiseArg raisable_ wf⟩
  rw [raiseCh, raise_eq, get_raiseArg calm wf, State.get_put_of_lt (by decide) hc hs]

/-- A latch in the window of a retry sides the channel. -/
theorem latchSided_result (hc : c < 32) (hs : s.regsWf = true) : (latchSided c cause s).get (F.LSW_CH_STAT_CSTATE c) = cSided ∧
    (latchSided c cause s).get (F.LSW_CH_STAT_WINDOW c) = 0 ∧ channelSided (latchSided c cause s) c = true ∧
      (latchSided c cause s).get F.LSW_EVT_CH_CH = c ∧ Flagged Src.LSW_SIDED (latchSided c cause s) ∧ chan (latchSided c cause s) c = chan s c := by
  have stateFits : (F.LSW_CH_STAT_CSTATE c).fits = true := rfl
  have windowFits : (F.LSW_CH_STAT_WINDOW c).fits = true := rfl
  have stateField : ChanField (F.LSW_CH_STAT_CSTATE c) := chanField_of_strided hc (fun _ => rfl) (by decide) (by decide)
  have windowField : ChanField (F.LSW_CH_STAT_WINDOW c) := chanField_of_strided hc (fun _ => rfl) (by decide) (by decide)
  have apart : (F.LSW_CH_STAT_CSTATE c).apart (F.LSW_CH_STAT_WINDOW c) = true := apart_of_zero c (fun _ => rfl) (fun _ => rfl) (by decide)
  have wf1 := State.regsWf_put s (F.LSW_CH_STAT_WINDOW c) 0 hs
  have wf2 := State.regsWf_put _ (F.LSW_CH_STAT_CSTATE c) cSided wf1
  have state : ((s.put (F.LSW_CH_STAT_WINDOW c) 0).put (F.LSW_CH_STAT_CSTATE c) cSided).get (F.LSW_CH_STAT_CSTATE c) = cSided :=
    State.get_put_of_lt stateFits (show cSided < 2 ^ 3 by decide) wf1
  have window : ((s.put (F.LSW_CH_STAT_WINDOW c) 0).put (F.LSW_CH_STAT_CSTATE c) cSided).get (F.LSW_CH_STAT_WINDOW c) = 0 := by
    rw [State.get_put_of_apart apart wf1, State.get_put_of_lt windowFits (by decide : 0 < 2 ^ 1) hs]
  have load : ((s.put (F.LSW_CH_STAT_WINDOW c) 0).put (F.LSW_CH_STAT_CSTATE c) cSided).load = s.load := rfl
  unfold latchSided
  generalize (s.put (F.LSW_CH_STAT_WINDOW c) 0).put (F.LSW_CH_STAT_CSTATE c) cSided = t at wf2 state window load
  have stands : ∀ {g : Fld}, ChanField g → FieldStands g t (raiseCh Src.LSW_SIDED c (fault 0x03 2 Src.LSW_SIDED c cause 0 0 (retire 1 cause c 0 t))) :=
    fun hg => hg.raiseCh_stands (hg.fault_stands (hg.retire_stands .refl))
  have retired : isRetired 1 c 0 (retire 1 cause c 0 t) = true := retire_isRetired 1 cause c 0 t
  have told : OnChannel c t (fault 0x03 2 Src.LSW_SIDED c cause 0 0 (retire 1 cause c 0 t)) := OnChannel.fault (.retire .refl)
  obtain ⟨evt, flagged⟩ := raiseCh_result hc (src := Src.LSW_SIDED) (by decide) (by decide) (told.within_.wf wf2)
  refine ⟨((stands stateField) wf2).2.trans state, ((stands windowField) wf2).2.trans window, ?_, evt, flagged, ?_⟩
  · rw [channelSided, isRetired_of_lists (s := retire 1 cause c 0 t) 1 c 0 (by simp [raiseCh, State.put, State.setReg])]
    exact retired
  · rw [chan_of_load (raiseCh_load _ _ _), chan_of_load (b := retire 1 cause c 0 t) (by simp), chan_of_load (retire_load _ _ _ _ _), chan_of_load load]

/-- A latch outside it waits for its retry. -/
theorem latchTimed_result (hc : c < 32) (size : c < s.load.channels.length) (hs : s.regsWf = true) :
    (latchTimed c cause s).get (F.LSW_CH_STAT_CSTATE c) = cLatched ∧
      chan (latchTimed c cause s) c = { chan s c with retryAt := some (s.now + s.get (F.LSW_CH_TIME_RETRY_DLY c) * ms) } ∧
      (latchTimed c cause s).get F.LSW_EVT_CH_CH = c ∧ Flagged Src.LSW_LATCH (latchTimed c cause s) := by
  have stateFits : (F.LSW_CH_STAT_CSTATE c).fits = true := rfl
  have stateField : ChanField (F.LSW_CH_STAT_CSTATE c) := chanField_of_strided hc (fun _ => rfl) (by decide) (by decide)
  have own : chan (latchWaits c s) c = { chan s c with retryAt := some (s.now + s.get (F.LSW_CH_TIME_RETRY_DLY c) * ms) } :=
    chan_modChan (fun x => { x with retryAt := some (s.now + s.get (F.LSW_CH_TIME_RETRY_DLY c) * ms) }) size
  have wf : (latchWaits c s).regsWf = true := by simp [latchWaits, hs]
  have state : (latchWaits c s).get (F.LSW_CH_STAT_CSTATE c) = cLatched := by
    rw [latchWaits, get_modChan, State.get_put_of_lt stateFits (show cLatched < 2 ^ 3 by decide) hs]
  unfold latchTimed
  generalize latchWaits c s = t at own wf state
  obtain ⟨evt, flagged⟩ := raiseCh_result hc (src := Src.LSW_LATCH) (by decide) (by decide)
    ((OnChannel.fault .refl : OnChannel c t (fault 0x01 5 Src.LSW_LATCH c cause (t.reg (Reg.LSW_CH_CURR c)) (t.get (F.LSW_CH_TJ_TJ c)) t)).within_.wf wf)
  refine ⟨((stateField.raiseCh_stands (stateField.fault_stands .refl)) wf).2.trans state, ?_, evt, flagged⟩
  rw [chan_of_load (raiseCh_load _ _ _), chan_of_load (b := t) (by simp), own]

end

/-- The state of the limp mode, over an operation on the registers of a channel. -/
theorem inLimp_of_stands {b u : State} (h : FieldStands F.LSW_LIMP_LIMP b u) (hb : b.regsWf = true) : inLimp u = inLimp b := by
  rw [inLimp, inLimp, State.flag, State.flag, (h hb).2]

theorem flag_of_stands {g : Fld} {b u : State} (h : FieldStands g b u) (hb : b.regsWf = true) : u.flag g = b.flag g := by
  rw [State.flag, State.flag, (h hb).2]

theorem blockFoot_channel {a : Nat} (high : a < 0x40000) (quiet : a ∉ raisePlaces) : blockFoot.touches a = false :=
  touches_eq_false (decide_eq_false (by omega)) (by omega) quiet

/-- What a latch leaves once it is counted, by the way it goes. -/
def LatchWent (c : Nat) (m u : State) : Prop :=
  if inLimp m then u.get (F.LSW_CH_STAT_CSTATE c) = cLimp ∧ (chan u c).limpLatched = true ∧ (chan u c).retryAt = (chan m c).retryAt
  else if m.flag (F.LSW_CH_STAT_WINDOW c) then
    u.get (F.LSW_CH_STAT_CSTATE c) = cSided ∧ u.flag (F.LSW_CH_STAT_WINDOW c) = false ∧ channelSided u c = true ∧
      u.get F.LSW_EVT_CH_CH = c ∧ Flagged Src.LSW_SIDED u
  else
    u.get (F.LSW_CH_STAT_CSTATE c) = cLatched ∧ (chan u c).retryAt = some (m.now + m.get (F.LSW_CH_TIME_RETRY_DLY c) * ms) ∧
      u.get F.LSW_EVT_CH_CH = c ∧ Flagged Src.LSW_LATCH u

theorem latchWay_result {c cause : Nat} (hc : c < 32) {m : State} (size : c < m.load.channels.length) (hm : m.regsWf = true) :
    (chan (latchWay c cause m) c).output = (chan m c).output ∧ LatchWent c m (latchWay c cause m) := by
  unfold LatchWent latchWay
  by_cases limp : inLimp m = true
  · rw [if_pos limp, if_pos limp]
    obtain ⟨state, own⟩ := latchLimp_result size hm
    exact ⟨by rw [own], state, by rw [own], by rw [own]⟩
  · rw [if_neg limp, if_neg limp]
    by_cases window : m.flag (F.LSW_CH_STAT_WINDOW c) = true
    · rw [if_pos window, if_pos window]
      obtain ⟨state, closed, sided, at_, raised, own⟩ := latchSided_result (cause := cause) hc hm
      exact ⟨by rw [own], state, by rw [State.flag, closed]; rfl, sided, at_, raised⟩
    · rw [if_neg window, if_neg window]
      obtain ⟨state, own, at_, raised⟩ := latchTimed_result (cause := cause) hc size hm
      exact ⟨by rw [own], state, by rw [own], at_, raised⟩

/-- The blocking of sinks leaves the channels. -/
theorem refreshSinks_channels {w : State} (hw : w.regsWf = true) : (refreshSinks w).regsWf = true ∧
    (∀ g, ChanField g → (refreshSinks w).get g = w.get g) ∧ (∀ c, chan (refreshSinks w) c = chan w c) ∧
      (refreshSinks w).get F.LSW_EVT_CH_CH = w.get F.LSW_EVT_CH_CH ∧
      (∀ src, blockFoot.flagsOf src = false → Flagged src w → Flagged src (refreshSinks w)) ∧
      ∀ c, channelSided (refreshSinks w) c = channelSided w c := by
  have foot := refreshSinks_blockFoot w
  have log : (refreshSinks w).ev = { w.ev with latch := (refreshSinks w).ev.latch } := foot.part .log (by decide)
  exact ⟨foot.wf hw, fun g hg => ((hg.refreshSinks_stands .refl) hw).2, chan_of_load (refreshSinks_load_eq w), foot.get (by decide), foot.flags hw,
    fun c => isRetired_of_lists 1 c 0 ⟨by rw [log], by rw [log]⟩⟩

/-- What the blocking of sinks leaves of a latch. -/
theorem latchWent_refreshSinks {c : Nat} (hc : c < 32) {m w : State} (hw : w.regsWf = true) (went : LatchWent c m w) :
    LatchWent c m (refreshSinks w) := by
  obtain ⟨-, get_, chan_, evt, flags, sided⟩ := refreshSinks_channels hw
  have state := get_ (F.LSW_CH_STAT_CSTATE c) (chanField_of_strided hc (fun _ => rfl) (by decide) (by decide))
  have window : (refreshSinks w).flag (F.LSW_CH_STAT_WINDOW c) = w.flag (F.LSW_CH_STAT_WINDOW c) := by
    rw [State.flag, State.flag, get_ _ (chanField_of_strided hc (fun _ => rfl) (by decide) (by decide))]
  unfold LatchWent at went ⊢
  rw [state, window, chan_, evt, sided]
  split at went
  next limp =>
    rw [if_pos limp]
    exact went
  next limp =>
    rw [if_neg limp]
    split at went
    next inWindow =>
      rw [if_pos inWindow]
      obtain ⟨a, b, d, e, raised⟩ := went
      exact ⟨a, b, d, e, flags _ (by decide) raised⟩
    next inWindow =>
      rw [if_neg inWindow]
      obtain ⟨a, b, d, raised⟩ := went
      exact ⟨a, b, d, flags _ (by decide) raised⟩

/-- A field that a latch of a channel leaves. -/
structure LatchSpares (c : Nat) (g : Fld) : Prop where
  field : ChanField g
  inrush : (F.LSW_CH_STAT_INRUSH c).apart g = true
  mark : (F.LSW_CH_STAT_CAUSE c).apart g = true
  count : (F.LSW_CH_CNT_LATCHES c).apart g = true
  state : (F.LSW_CH_STAT_CSTATE c).apart g = true
  window : (F.LSW_CH_STAT_WINDOW c).apart g = true

theorem latchSpares_of_strided {f : Nat → Fld} {c : Nat} (hc : c < 32) (hf : Strided f) (low : 0x30100 ≤ (f 0).addr) (high : (f 0).addr < 0x30120)
    (spared : [F.LSW_CH_STAT_INRUSH 0, F.LSW_CH_STAT_CAUSE 0, F.LSW_CH_CNT_LATCHES 0, F.LSW_CH_STAT_CSTATE 0, F.LSW_CH_STAT_WINDOW 0].all
      (·.apart (f 0)) = true) : LatchSpares c (f c) := by
  simp only [List.all_cons, List.all_nil, Bool.and_eq_true, and_true] at spared
  obtain ⟨inrush, mark, count, state, window⟩ := spared
  exact ⟨chanField_of_strided hc hf low high, apart_of_zero (f := F.LSW_CH_STAT_INRUSH) c (fun _ => rfl) hf inrush,
    apart_of_zero (f := F.LSW_CH_STAT_CAUSE) c (fun _ => rfl) hf mark, apart_of_zero (f := F.LSW_CH_CNT_LATCHES) c (fun _ => rfl) hf count,
    apart_of_zero (f := F.LSW_CH_STAT_CSTATE) c (fun _ => rfl) hf state, apart_of_zero (f := F.LSW_CH_STAT_WINDOW) c (fun _ => rfl) hf window⟩

theorem latchMarked_limp {c cause : Nat} {s : State} (hs : s.regsWf = true) : inLimp (latchMarked c cause s) = inLimp s := by
  have other {f : Fld} (low : 0x30100 ≤ f.addr) (fits : f.fits = true) : f.apart F.LSW_LIMP_LIMP = true :=
    apart_of_addr fits (by simp only [F.LSW_LIMP_LIMP, Reg.LSW_LIMP]; omega)
  exact inLimp_of_stands (latchMarked_stands (other (by simp only [F.LSW_CH_STAT_INRUSH, Reg.LSW_CH_STAT]; omega) rfl)
    (other (by simp only [F.LSW_CH_STAT_CAUSE, Reg.LSW_CH_STAT]; omega) rfl)
    (other (by simp only [F.LSW_CH_CNT_LATCHES, Reg.LSW_CH_CNT]; omega) rfl)) hs

/-- A latch of a channel, with its time and cause (R451, R455, R457, R468). -/
theorem latchChannel_result {c cause : Nat} (hc : c < 32) (small : cause < 4) {s : State} (size : c < s.load.channels.length) (hs : s.regsWf = true)
    (u : State) (hu : u = latchChannel c cause s) :
    OnChannel c s u ∧ HasLatched c cause s u ∧ ∀ g, LatchSpares c g → u.get g = s.get g := by
  have marks := latchMarked_channel c cause s
  have markedChan := latchMarked_chan (cause := cause) size
  obtain ⟨inrush, mark, count⟩ := latchMarked_own hs small
  have limp := latchMarked_limp (c := c) (cause := cause) hs
  have now_ : (latchMarked c cause s).now = s.now := marks.within_.part .now (by simp [channelFoot])
  have stands1 : ∀ g, (F.LSW_CH_STAT_INRUSH c).apart g = true → (F.LSW_CH_STAT_CAUSE c).apart g = true →
      (F.LSW_CH_CNT_LATCHES c).apart g = true → (latchMarked c cause s).get g = s.get g := fun g a1 a2 a3 => (latchMarked_stands a1 a2 a3 hs).2
  have window : (latchMarked c cause s).flag (F.LSW_CH_STAT_WINDOW c) = s.flag (F.LSW_CH_STAT_WINDOW c) := by
    rw [State.flag, State.flag, stands1 _ (apart_of_zero c (fun _ => rfl) (fun _ => rfl) (by decide))
      (apart_of_zero c (fun _ => rfl) (fun _ => rfl) (by decide)) (apart_of_zero c (fun _ => rfl) (fun _ => rfl) (by decide))]
  have delay := stands1 (F.LSW_CH_TIME_RETRY_DLY c) (apart_of_zero c (fun _ => rfl) (fun _ => rfl) (by decide))
    (apart_of_zero c (fun _ => rfl) (fun _ => rfl) (by decide)) (apart_of_zero c (fun _ => rfl) (fun _ => rfl) (by decide))
  rw [latchChannel_eq] at hu
  generalize latchMarked c cause s = m at marks markedChan inrush mark count now_ stands1 limp window delay hu
  have wf := marks.within_.wf hs
  have way := latchWay_channel c cause m
  have wfW := way.within_.wf wf
  obtain ⟨off, went⟩ := latchWay_result (cause := cause) hc (by rw [marks.size]; exact size) wf
  obtain ⟨-, get_, chan_, -, -, -⟩ := refreshSinks_channels wfW
  have ended := latchWent_refreshSinks hc wfW went
  have stands2 : ∀ g, ChanField g → (F.LSW_CH_STAT_CSTATE c).apart g = true → (F.LSW_CH_STAT_WINDOW c).apart g = true → u.get g = m.get g :=
    fun g hg a1 a2 => hu ▸ (get_ g hg).trans ((latchWay_stands hg a1 a2 m) wf).2
  have own : ∀ {f : Nat → Fld}, Strided f → 0x30100 ≤ (f 0).addr → (f 0).addr < 0x30120 → (F.LSW_CH_STAT_CSTATE 0).apart (f 0) = true →
      (F.LSW_CH_STAT_WINDOW 0).apart (f 0) = true → u.get (f c) = m.get (f c) := fun hf low high a1 a2 =>
    stands2 _ (chanField_of_strided hc hf low high) (apart_of_zero c (fun _ => rfl) hf a1) (apart_of_zero c (fun _ => rfl) hf a2)
  have spared : ∀ g, LatchSpares c g → u.get g = s.get g := fun g hg =>
    (stands2 g hg.field hg.state hg.window).trans (stands1 g hg.inrush hg.mark hg.count)
  have inrush' := (own (f := F.LSW_CH_STAT_INRUSH) (fun _ => rfl) (by decide) (by decide) (by decide) (by decide)).trans inrush
  refine ⟨hu ▸ marks.trans (.refreshSinks way), ⟨?_, by rw [State.flag, inrush']; rfl,
    (own (f := F.LSW_CH_STAT_CAUSE) (fun _ => rfl) (by decide) (by decide) (by decide) (by decide)).trans mark,
    (own (f := F.LSW_CH_CNT_LATCHES) (fun _ => rfl) (by decide) (by decide) (by decide) (by decide)).trans count,
    spared _ (latchSpares_of_strided hc (fun _ => rfl) (by decide) (by decide) (by decide)), ?_⟩, spared⟩
  · rw [hu, chan_, off, markedChan]
  · rw [← hu] at ended
    unfold LatchWent at ended
    rw [limp, window, now_, delay, markedChan] at ended
    exact ended

/-! ### An off command to a latched channel -/

/-- The retry of a latched channel, cancelled. -/
def retryCancelled (c : Nat) (s : State) : State :=
  raiseCh Src.LSW_RETRY_CANCELLED c (logUnclassified c 0 (modChan c (fun x => { x with retryAt := none }) (s.put (F.LSW_CH_STAT_WINDOW c) 0)))

/-- A channel whose off command is carried out: its output off, and the threshold in force noted. -/
def offNoted (c : Nat) (s : State) : State :=
  modChan c (fun y => { y with offAt := if (chan s c).output then some (s.now, threshold s c) else y.offAt }) s

theorem commandOff_latched {c : Nat} {s : State} (latched : s.get (F.LSW_CH_STAT_CSTATE c) = cLatched) :
    commandOff c s = (outputOff c (retryCancelled c (offNoted c s))).put (F.LSW_CH_STAT_CSTATE c) cOff := by
  have same : (offNoted c s).get (F.LSW_CH_STAT_CSTATE c) = cLatched := latched
  have cancel : cancelRetry c (offNoted c s) = retryCancelled c (offNoted c s) := by
    unfold cancelRetry retryCancelled
    rw [if_pos (.inl same)]
  rw [← cancel]
  rfl

/-- A field that an off command to a channel leaves. -/
structure OffSpares (c : Nat) (g : Fld) : Prop where
  field : ChanField g
  inrush : (F.LSW_CH_STAT_INRUSH c).apart g = true
  cmd : (F.LSW_CH_CMD_STATE c).apart g = true
  state : (F.LSW_CH_STAT_CSTATE c).apart g = true
  window : (F.LSW_CH_STAT_WINDOW c).apart g = true

theorem offSpares_of_strided {f : Nat → Fld} {c : Nat} (hc : c < 32) (hf : Strided f) (low : 0x30100 ≤ (f 0).addr) (high : (f 0).addr < 0x30120)
    (spared : [F.LSW_CH_STAT_INRUSH 0, F.LSW_CH_CMD_STATE 0, F.LSW_CH_STAT_CSTATE 0, F.LSW_CH_STAT_WINDOW 0].all (·.apart (f 0)) = true) :
    OffSpares c (f c) := by
  simp only [List.all_cons, List.all_nil, Bool.and_eq_true, and_true] at spared
  obtain ⟨inrush, cmd, state, window⟩ := spared
  exact ⟨chanField_of_strided hc hf low high, apart_of_zero (f := F.LSW_CH_STAT_INRUSH) c (fun _ => rfl) hf inrush,
    apart_of_zero (f := F.LSW_CH_CMD_STATE) c (fun _ => rfl) hf cmd, apart_of_zero (f := F.LSW_CH_STAT_CSTATE) c (fun _ => rfl) hf state,
    apart_of_zero (f := F.LSW_CH_STAT_WINDOW) c (fun _ => rfl) hf window⟩

theorem channelFoot_flagsOf {c src : Nat} {f : Fld} (hf : sourceFlag src = some f) (low : f.addr < 0x30100) (other : f.addr ≠ Reg.LSW_EVT_CH) :
    (channelFoot c).flagsOf src = false := by
  have noStatus : loopStatusPlace f.addr = false := decide_eq_false (by omega)
  have noRetire : f.addr ≠ Reg.EVR_RETIRE := by simp only [Reg.EVR_RETIRE]; omega
  have noOwn : ¬ (0x30100 + 0x20 * c ≤ f.addr ∧ f.addr < 0x30120 + 0x20 * c) := by omega
  simp only [Footprint.flagsOf, hf, channelFoot, noStatus, beq_eq_false_iff_ne.mpr noRetire, beq_eq_false_iff_ne.mpr other, decide_eq_false noOwn,
    Option.any_some, Bool.or_self]

section
variable {c : Nat} {s : State}

theorem retryCancelled_channel (c : Nat) (s : State) : OnChannel c s (retryCancelled c s) := OnChannel.raiseCh (.fault (.mod (.stat .refl) _))

theorem retryCancelled_stands {g : Fld} (hg : ChanField g) (window : (F.LSW_CH_STAT_WINDOW c).apart g = true) (s : State) :
    FieldStands g s (retryCancelled c s) := hg.raiseCh_stands (hg.fault_stands (FieldStands.parts (.put .refl window)))

theorem retryCancelled_result (hc : c < 32) (size : c < s.load.channels.length) (hs : s.regsWf = true) :
    chan (retryCancelled c s) c = { chan s c with retryAt := none } ∧ (retryCancelled c s).get F.LSW_EVT_CH_CH = c ∧
      Flagged Src.LSW_RETRY_CANCELLED (retryCancelled c s) := by
  have put_ : OnChannel c s (s.put (F.LSW_CH_STAT_WINDOW c) 0) := OnChannel.stat .refl
  have own := chan_modChan (fun x => { x with retryAt := none }) (s := s.put (F.LSW_CH_STAT_WINDOW c) 0) (by rw [put_.size]; exact size)
  have logged : OnChannel c s (logUnclassified c 0 (modChan c (fun x => { x with retryAt := none }) (s.put (F.LSW_CH_STAT_WINDOW c) 0))) :=
    OnChannel.fault (.mod put_ _)
  obtain ⟨evt, flagged⟩ := raiseCh_result hc (src := Src.LSW_RETRY_CANCELLED) (by decide) (by decide) (logged.within_.wf hs)
  refine ⟨?_, evt, flagged⟩
  rw [retryCancelled, chan_of_load (raiseCh_load _ _ _), chan_of_load
    (b := modChan c (fun x => { x with retryAt := none }) (s.put (F.LSW_CH_STAT_WINDOW c) 0)) (by simp [logUnclassified]), own]
  rfl

/-- The end of an off command: the output off, the state OFF, and open-load judgement begun anew. -/
def offEnded (before_ : State) (c : Nat) (s : State) : State := judgeAnew before_ c ((outputOff c s).put (F.LSW_CH_STAT_CSTATE c) cOff)

theorem offEnded_result {before_ : State} (size : c < s.load.channels.length) (hs : s.regsWf = true) (u : State) (hu : u = offEnded before_ c s) :
    OnChannel c s u ∧ (chan u c).output = false ∧ (chan u c).retryAt = (chan s c).retryAt ∧ u.get (F.LSW_CH_STAT_CSTATE c) = cOff ∧
      ∀ g, (F.LSW_CH_STAT_INRUSH c).apart g = true → (F.LSW_CH_STAT_CSTATE c).apart g = true → u.get g = s.get g := by
  have stateFits : (F.LSW_CH_STAT_CSTATE c).fits = true := rfl
  have off := outputOff_channel c s
  have own : chan (outputOff c s) c = { chan s c with output := false, period := 0, onCounts := 0 } :=
    chan_modChan (fun x => { x with output := false, period := 0, onCounts := 0 }) size
  have stands : ∀ {g : Fld}, (F.LSW_CH_STAT_INRUSH c).apart g = true → FieldStands g s (outputOff c s) := fun inrush =>
    (FieldStands.refl.parts : FieldStands _ s (modChan c (fun x => { x with output := false, period := 0, onCounts := 0 }) s)).put inrush
  unfold offEnded at hu
  generalize outputOff c s = x at off own stands hu
  have wf := off.within_.wf hs
  have put_ : OnChannel c x (x.put (F.LSW_CH_STAT_CSTATE c) cOff) := OnChannel.stat .refl
  have state : (x.put (F.LSW_CH_STAT_CSTATE c) cOff).get (F.LSW_CH_STAT_CSTATE c) = cOff :=
    State.get_put_of_lt stateFits (show cOff < 2 ^ 3 by decide) wf
  have putStands : ∀ {g : Fld}, (F.LSW_CH_STAT_CSTATE c).apart g = true → (x.put (F.LSW_CH_STAT_CSTATE c) cOff).get g = x.get g := fun a =>
    State.get_put_of_apart a wf
  have putChan : chan (x.put (F.LSW_CH_STAT_CSTATE c) cOff) c = chan x c := rfl
  generalize x.put (F.LSW_CH_STAT_CSTATE c) cOff = y at put_ state putStands putChan hu
  have regs : u.regs = y.regs := by
    rw [hu]
    unfold judgeAnew
    split <;> rfl
  have judged : (chan u c).output = (chan y c).output ∧ (chan u c).retryAt = (chan y c).retryAt := by
    rw [hu]
    unfold judgeAnew
    split
    · rw [chan_modChan (fun x => { x with judgedFrom := y.now }) (by rw [put_.size, off.size]; exact size)]
      exact ⟨rfl, rfl⟩
    · exact ⟨rfl, rfl⟩
  refine ⟨hu ▸ (off.trans put_).trans (.ite (.mod .refl _) .refl), ?_, ?_, (State.get_of_regs regs _).trans state, fun g a1 a2 => ?_⟩
  · rw [judged.1, putChan, own]
  · rw [judged.2, putChan, own]
  · rw [State.get_of_regs regs, putStands a2, (stands a1 hs).2]

theorem commandChannel_off {t : State} (put_ : t = s.put (F.LSW_CH_CMD_STATE c) 0) (free : channelSided s c = false)
    (latched : t.get (F.LSW_CH_STAT_CSTATE c) = cLatched) :
    commandChannel c 0 0 s = refreshSinks (offEnded s c (retryCancelled c (offNoted c t))) := by
  have zero : (if loadsBarred s then 0 else 0) = 0 := ite_self 0
  rw [offEnded, ← commandOff_latched latched, put_]
  rw [put_] at latched
  unfold commandChannel
  dsimp only
  rw [zero, if_neg (by simp [free])]
  simp only [show (0 : Nat) ≠ 2 by decide, if_false, if_true]
  rw [latched, if_neg (by decide)]

/-- An off command cancels the retry of a latched channel. -/
theorem commandChannel_latched (hc : c < 32) (size : c < s.load.channels.length) (hs : s.regsWf = true)
    (latched : s.get (F.LSW_CH_STAT_CSTATE c) = cLatched) (free : channelSided s c = false) (u : State) (hu : u = commandChannel c 0 0 s) :
    OnChannel c s u ∧ (chan u c).output = false ∧ (chan u c).retryAt = none ∧ u.get (F.LSW_CH_STAT_CSTATE c) = cOff ∧
      u.get (F.LSW_CH_CMD_STATE c) = 0 ∧ u.get F.LSW_EVT_CH_CH = c ∧ Flagged Src.LSW_RETRY_CANCELLED u ∧ ∀ g, OffSpares c g → u.get g = s.get g := by
  have cmdFits : (F.LSW_CH_CMD_STATE c).fits = true := rfl
  obtain ⟨t, put_⟩ : ∃ t, t = s.put (F.LSW_CH_CMD_STATE c) 0 := ⟨_, rfl⟩
  have cmd0 : t.get (F.LSW_CH_CMD_STATE c) = 0 := put_ ▸ State.get_put_of_lt cmdFits (by decide : 0 < 2 ^ 2) hs
  have commanded : OnChannel c s t := put_ ▸ OnChannel.put .refl
    (by simp only [F.LSW_CH_CMD_STATE, Reg.LSW_CH_CMD]; omega) (by simp only [F.LSW_CH_CMD_STATE, Reg.LSW_CH_CMD]; omega)
  have still : t.get (F.LSW_CH_STAT_CSTATE c) = cLatched :=
    put_ ▸ (State.get_put_of_apart (apart_of_zero c (fun _ => rfl) (fun _ => rfl) (by decide)) hs).trans latched
  have stand0 : ∀ g, OffSpares c g → t.get g = s.get g := fun g hg => put_ ▸ State.get_put_of_apart hg.cmd hs
  rw [commandChannel_off put_ free still] at hu
  have noted : OnChannel c s (offNoted c t) := OnChannel.mod commanded _
  have notedRegs : (offNoted c t).regs = t.regs := rfl
  generalize offNoted c t = v at noted notedRegs hu
  have wfV := noted.within_.wf hs
  obtain ⟨own, evt, flagged⟩ := retryCancelled_result hc (by rw [noted.size]; exact size) wfV
  have cancels := retryCancelled_channel c v
  have standC : ∀ {g : Fld}, ChanField g → (F.LSW_CH_STAT_WINDOW c).apart g = true → (retryCancelled c v).get g = t.get g := fun hg window =>
    ((retryCancelled_stands hg window v) wfV).2.trans (State.get_of_regs notedRegs _)
  generalize retryCancelled c v = w at own evt flagged cancels standC hu
  have wfW := cancels.within_.wf wfV
  obtain ⟨later, output, retry, state, toZ⟩ := offEnded_result (before_ := s) (by rw [cancels.size, noted.size]; exact size) wfW _ rfl
  generalize offEnded s c w = z at later output retry state toZ hu
  have wfZ := later.within_.wf wfW
  obtain ⟨-, get_, chan_, evt', flags, -⟩ := refreshSinks_channels wfZ
  have evtZ : z.get F.LSW_EVT_CH_CH = c := by
    have low : ∀ {f : Fld}, f.addr = Reg.LSW_CH_STAT c → f.fits = true → f.apart F.LSW_EVT_CH_CH = true := fun at_ fits =>
      apart_of_addr fits (by rw [at_]; simp only [F.LSW_EVT_CH_CH, Reg.LSW_EVT_CH, Reg.LSW_CH_STAT]; omega)
    rw [toZ _ (low rfl rfl) (low rfl rfl), evt]
  rw [hu]
  refine ⟨((noted.trans cancels).trans later).refreshSinks, ?_, ?_, ?_, ?_, evt'.trans evtZ, ?_, fun g hg => ?_⟩
  · rw [chan_, output]
  · rw [chan_, retry, own]
  · rw [get_ _ (chanField_of_strided hc (fun _ => rfl) (by decide) (by decide)), state]
  · rw [get_ _ (chanField_of_strided hc (fun _ => rfl) (by decide) (by decide)), toZ _ (apart_of_zero c (fun _ => rfl) (fun _ => rfl) (by decide))
      (apart_of_zero c (fun _ => rfl) (fun _ => rfl) (by decide)), standC (chanField_of_strided hc (fun _ => rfl) (by decide) (by decide))
      (apart_of_zero c (fun _ => rfl) (fun _ => rfl) (by decide)), cmd0]
  · exact flags _ (by decide) (later.within_.flags wfW _ (channelFoot_flagsOf rfl (by decide) (by decide)) flagged)
  · rw [get_ g hg.field, toZ g hg.inrush hg.state, standC hg.field hg.window, stand0 g hg]

end

/-! ### Measured values -/

/-- A measurement of a channel: nothing but its registers CURR and TJ changes. -/
structure Measures (c : Nat) (b s : State) : Prop where
  only : s = { b with regs := s.regs }
  channel : OnChannel c b s
  get_ : ∀ g, (F.LSW_CH_CURR_CURR c).apart g = true → (F.LSW_CH_TJ_TJ c).apart g = true → s.get g = b.get g

section
variable {c : Nat} {b s : State}

theorem measures_tj (c : Nat) (tj : Int) (hs : b.regsWf = true) : Measures c b (b.puts (F.LSW_CH_TJ_TJ c) tj) :=
  ⟨rfl, OnChannel.put .refl (by simp only [F.LSW_CH_TJ_TJ, Reg.LSW_CH_TJ]; omega) (by simp only [F.LSW_CH_TJ_TJ, Reg.LSW_CH_TJ]; omega),
    fun _ _ a => State.get_put_of_apart a hs⟩

theorem measures_both (c : Nat) (current tj : Int) (hs : b.regsWf = true) :
    Measures c b ((b.puts (F.LSW_CH_CURR_CURR c) current).puts (F.LSW_CH_TJ_TJ c) tj) := by
  refine ⟨rfl, OnChannel.put (OnChannel.put .refl ?_ ?_) ?_ ?_, fun g a1 a2 => ?_⟩
  · simp only [F.LSW_CH_CURR_CURR, Reg.LSW_CH_CURR]
    omega
  · simp only [F.LSW_CH_CURR_CURR, Reg.LSW_CH_CURR]
    omega
  · simp only [F.LSW_CH_TJ_TJ, Reg.LSW_CH_TJ]
    omega
  · simp only [F.LSW_CH_TJ_TJ, Reg.LSW_CH_TJ]
    omega
  · have wf : (b.puts (F.LSW_CH_CURR_CURR c) current).regsWf = true := State.regsWf_put _ _ _ hs
    rw [State.puts, State.get_put_of_apart a2 wf, State.puts, State.get_put_of_apart a1 hs]

theorem Measures.strided (h : Measures c b s) {f : Nat → Fld} (hf : Strided f) (a1 : (F.LSW_CH_CURR_CURR 0).apart (f 0) = true)
    (a2 : (F.LSW_CH_TJ_TJ 0).apart (f 0) = true) : s.get (f c) = b.get (f c) :=
  h.get_ _ (apart_of_zero (f := F.LSW_CH_CURR_CURR) c (fun _ => rfl) hf a1) (apart_of_zero (f := F.LSW_CH_TJ_TJ) c (fun _ => rfl) hf a2)

theorem Measures.chan (h : Measures c b s) (k : Nat) : chan s k = chan b k := by
  rw [h.only]
  rfl

theorem Measures.limp (h : Measures c b s) : inLimp s = inLimp b := by
  rw [inLimp, inLimp, State.flag, State.flag, h.get_ F.LSW_LIMP_LIMP
    (apart_of_addr rfl (by simp only [F.LSW_CH_CURR_CURR, F.LSW_LIMP_LIMP, Reg.LSW_CH_CURR, Reg.LSW_LIMP]; omega))
    (apart_of_addr rfl (by simp only [F.LSW_CH_TJ_TJ, F.LSW_LIMP_LIMP, Reg.LSW_CH_TJ, Reg.LSW_LIMP]; omega))]

theorem Measures.sided (h : Measures c b s) : channelSided s c = channelSided b c := by
  rw [h.only]
  rfl

theorem Measures.threshold (h : Measures c b s) : threshold s c = threshold b c := by
  unfold Machine.threshold
  rw [State.flag, State.flag, h.strided (f := F.LSW_CH_CFG_OC_THR) (fun _ => rfl) (by decide) (by decide),
    h.strided (f := F.LSW_CH_STAT_INRUSH) (fun _ => rfl) (by decide) (by decide),
    h.strided (f := F.LSW_CH_CFG_INRUSH_MULT) (fun _ => rfl) (by decide) (by decide)]

theorem Measures.offNow (h : Measures c b s) : offNow s c = offNow b c := by
  have now_ : s.now = b.now := by rw [h.only]
  unfold Machine.offNow
  rw [h.chan, now_, h.strided (f := F.LSW_CH_STAT_CSTATE) (fun _ => rfl) (by decide) (by decide)]

theorem Measures.wantsOn (h : Measures c b s) : wantsOn s c = wantsOn b c := by
  unfold Machine.wantsOn
  rw [h.chan, h.strided (f := F.LSW_CH_STAT_CSTATE) (fun _ => rfl) (by decide) (by decide)]

/-- A latch after a measurement is one of the state before it. -/
theorem Measures.hasLatched (h : Measures c b s) {cause : Nat} {u : State} (latched : HasLatched c cause s u) : HasLatched c cause b u := by
  have now_ : s.now = b.now := by rw [h.only]
  obtain ⟨output, inrush, mark, count, cmd, way⟩ := latched
  rw [h.strided (f := F.LSW_CH_CNT_LATCHES) (fun _ => rfl) (by decide) (by decide)] at count
  rw [h.strided (f := F.LSW_CH_CMD_STATE) (fun _ => rfl) (by decide) (by decide)] at cmd
  rw [h.limp, State.flag, h.strided (f := F.LSW_CH_STAT_WINDOW) (fun _ => rfl) (by decide) (by decide), ← State.flag, h.chan, now_,
    h.strided (f := F.LSW_CH_TIME_RETRY_DLY) (fun _ => rfl) (by decide) (by decide)] at way
  exact ⟨output, inrush, mark, count, cmd, way⟩

/-- A latch after a measurement: the values stand. -/
theorem latch_after {cause : Nat} (hc : c < 32) (small : cause < 4) (sound : b.sound = true) (h : Measures c b s) (u : State)
    (hu : u = latchChannel c cause s) : HasLatched c cause b u ∧ u.get (F.LSW_CH_CURR_CURR c) = s.get (F.LSW_CH_CURR_CURR c) ∧
      u.get (F.LSW_CH_TJ_TJ c) = s.get (F.LSW_CH_TJ_TJ c) ∧ otherChannelsKept c b u := by
  obtain ⟨on_, latched, spared⟩ := latchChannel_result hc small (by rw [h.channel.size, channels_length_of_sound sound]; exact hc)
    (h.channel.within_.wf (regsWf_of_sound sound)) u hu
  exact ⟨h.hasLatched latched, spared _ (latchSpares_of_strided hc (fun _ => rfl) (by decide) (by decide) (by decide)),
    spared _ (latchSpares_of_strided hc (fun _ => rfl) (by decide) (by decide) (by decide)), (h.channel.trans on_).kept⟩

/-- A latch in the access cycle of an off command, which cancels its retry (R461). -/
theorem latchOff_after {cause : Nat} (hc : c < 32) (small : cause < 4) (sound : b.sound = true) (h : Measures c b s) (noLimp : inLimp b = false)
    (free : channelSided b c = false) (closed : b.flag (F.LSW_CH_STAT_WINDOW c) = false) (u : State) (hu : u = latchOff c cause s) :
    LatchCancelled c cause b u ∧ u.get (F.LSW_CH_CURR_CURR c) = s.get (F.LSW_CH_CURR_CURR c) ∧
      u.get (F.LSW_CH_TJ_TJ c) = s.get (F.LSW_CH_TJ_TJ c) ∧ otherChannelsKept c b u := by
  have size : c < s.load.channels.length := by rw [h.channel.size, channels_length_of_sound sound]; exact hc
  have wf := h.channel.within_.wf (regsWf_of_sound sound)
  obtain ⟨on_, latched, spared⟩ := latchChannel_result hc small size wf _ rfl
  have freeL : channelSided (latchChannel c cause s) c = false := by
    have limp' : inLimp (latchMarked c cause s) = false := by rw [latchMarked_limp wf, h.limp, noLimp]
    have window' : (latchMarked c cause s).flag (F.LSW_CH_STAT_WINDOW c) = false := by
      rw [State.flag, (latchMarked_stands (apart_of_zero c (fun _ => rfl) (fun _ => rfl) (by decide))
        (apart_of_zero c (fun _ => rfl) (fun _ => rfl) (by decide)) (apart_of_zero c (fun _ => rfl) (fun _ => rfl) (by decide)) wf).2,
        h.strided (f := F.LSW_CH_STAT_WINDOW) (fun _ => rfl) (by decide) (by decide)]
      exact closed
    have marks := latchMarked_channel c cause s
    rw [latchChannel_eq, latchWay, limp', window']
    obtain ⟨-, -, -, -, -, sided⟩ := refreshSinks_channels (w := latchTimed c cause (latchMarked c cause s))
      ((OnChannel.raiseCh (.fault (.mod (.stat .refl) _)) : OnChannel c _ (latchTimed c cause (latchMarked c cause s))).within_.wf (marks.within_.wf wf))
    rw [if_neg (by simp), if_neg (by simp), sided, channelSided, isRetired_of_lists (s := s) 1 c 0 ⟨by simp [latchTimed, raiseCh, latchWaits, latchMarked,
      outputOff, State.put, State.setReg, State.bump, modChan], by simp [latchTimed, raiseCh, latchWaits, latchMarked, outputOff, State.put, State.setReg,
      State.bump, modChan]⟩]
    exact h.sided.trans free
  obtain ⟨-, -, mark, count, -, way⟩ := h.hasLatched latched
  rw [noLimp, closed] at way
  obtain ⟨state, -, -, raised⟩ := way
  obtain ⟨off, output, retry, ended, cmd, evt, told, stands⟩ := commandChannel_latched hc (by rw [on_.size]; exact size) (on_.within_.wf wf) state freeL u hu
  have own : ∀ {f : Nat → Fld}, Strided f → 0x30100 ≤ (f 0).addr → (f 0).addr < 0x30120 →
      [F.LSW_CH_STAT_INRUSH 0, F.LSW_CH_CMD_STATE 0, F.LSW_CH_STAT_CSTATE 0, F.LSW_CH_STAT_WINDOW 0].all (·.apart (f 0)) = true →
      u.get (f c) = (latchChannel c cause s).get (f c) := fun hf low high spared => stands _ (offSpares_of_strided hc hf low high spared)
  refine ⟨⟨output, ended, cmd, retry, ?_, ?_, evt, ?_, told⟩, ?_, ?_, ((h.channel.trans on_).trans off).kept⟩
  · exact (own (f := F.LSW_CH_STAT_CAUSE) (fun _ => rfl) (by decide) (by decide) (by decide)).trans mark
  · exact (own (f := F.LSW_CH_CNT_LATCHES) (fun _ => rfl) (by decide) (by decide) (by decide)).trans count
  · exact off.within_.flags (on_.within_.wf wf) _ (channelFoot_flagsOf rfl (by decide) (by decide)) raised
  · exact (own (f := F.LSW_CH_CURR_CURR) (fun _ => rfl) (by decide) (by decide) (by decide)).trans
      (spared _ (latchSpares_of_strided hc (fun _ => rfl) (by decide) (by decide) (by decide)))
  · exact (own (f := F.LSW_CH_TJ_TJ) (fun _ => rfl) (by decide) (by decide) (by decide)).trans
      (spared _ (latchSpares_of_strided hc (fun _ => rfl) (by decide) (by decide) (by decide)))

end

/-! ### Retries -/

/-- The output of a channel that is switched on again, its window begun and its period, where it has one. -/
def retryBegun (c : Nat) (s : State) : State :=
  let t := modChan c (fun x => { x with retryAt := none, windowEnd := s.now + 500 * ms, output := s.get (F.LSW_CH_CMD_STATE c) != 0 }) s
  if s.get (F.LSW_CH_CMD_STATE c) = 2 then startPeriod c t else t

/-- The states of a channel that is switched on again. -/
def retryShown (c st : Nat) (s : State) : State := (s.put (F.LSW_CH_STAT_CSTATE c) st).put (F.LSW_CH_STAT_WINDOW c) 1

theorem retryChannel_due {c : Nat} {tj : Int} {b s : State} (hs : s = b.puts (F.LSW_CH_TJ_TJ c) tj)
    (ready : s.get (F.LSW_CH_STAT_CSTATE c) = cLatched ∧ due (chan s c).retryAt s = true ∧ tj < 1500) :
    retryChannel c tj b = refreshSinks (startInrush c (retryShown c (s.get (F.LSW_CH_CMD_STATE c)) (retryBegun c s))) := by
  rw [hs] at ready ⊢
  exact if_pos ready

section
variable {c : Nat} {s : State}

theorem startPeriod_result (size : c < s.load.channels.length) : OnChannel c s (startPeriod c s) ∧ (startPeriod c s).regs = s.regs ∧
    (chan (startPeriod c s) c).output = (chan s c).output ∧ (chan (startPeriod c s) c).retryAt = (chan s c).retryAt ∧
      (chan (startPeriod c s) c).windowEnd = (chan s c).windowEnd := by
  have steps : startPeriod c s = s ∨ ∃ p n, startPeriod c s = modChan c (fun x => { x with period := p, onCounts := n, periodAt := s.now }) s := by
    unfold startPeriod
    split
    · exact .inl rfl
    · exact .inr ⟨_, _, rfl⟩
  obtain same | ⟨p, n, begun⟩ := steps
  · rw [same]
    exact ⟨.refl, rfl, rfl, rfl, rfl⟩
  · have own := chan_modChan (fun x => { x with period := p, onCounts := n, periodAt := s.now }) size
    rw [begun]
    exact ⟨.mod .refl _, rfl, by rw [own], by rw [own], by rw [own]⟩

theorem retryBegun_result (size : c < s.load.channels.length) : OnChannel c s (retryBegun c s) ∧ (retryBegun c s).regs = s.regs ∧
    (chan (retryBegun c s) c).output = (s.get (F.LSW_CH_CMD_STATE c) != 0) ∧ (chan (retryBegun c s) c).retryAt = none ∧
      (chan (retryBegun c s) c).windowEnd = s.now + 500 * ms := by
  have own := chan_modChan (fun x => { x with retryAt := none, windowEnd := s.now + 500 * ms, output := s.get (F.LSW_CH_CMD_STATE c) != 0 }) size
  have regs : (modChan c (fun x => { x with retryAt := none, windowEnd := s.now + 500 * ms, output := s.get (F.LSW_CH_CMD_STATE c) != 0 }) s).regs =
    s.regs := rfl
  have on_ : OnChannel c s (modChan c (fun x => { x with retryAt := none, windowEnd := s.now + 500 * ms, output := s.get (F.LSW_CH_CMD_STATE c) != 0 }) s) :=
    .mod .refl _
  unfold retryBegun
  dsimp only
  generalize modChan c (fun x => { x with retryAt := none, windowEnd := s.now + 500 * ms, output := s.get (F.LSW_CH_CMD_STATE c) != 0 }) s = t
    at own regs on_
  split
  · obtain ⟨period, pregs, output, retry, window⟩ := startPeriod_result (c := c) (s := t) (by rw [on_.size]; exact size)
    exact ⟨on_.trans period, pregs.trans regs, by rw [output, own], by rw [retry, own], by rw [window, own]⟩
  · exact ⟨on_, regs, by rw [own], by rw [own], by rw [own]⟩

theorem retryShown_result {st : Nat} (small : st < 4) (hs : s.regsWf = true) : OnChannel c s (retryShown c st s) ∧
    (retryShown c st s).get (F.LSW_CH_STAT_CSTATE c) = st ∧ (retryShown c st s).get (F.LSW_CH_STAT_WINDOW c) = 1 ∧
      ∀ g, (F.LSW_CH_STAT_CSTATE c).apart g = true → (F.LSW_CH_STAT_WINDOW c).apart g = true → (retryShown c st s).get g = s.get g := by
  have stateFits : (F.LSW_CH_STAT_CSTATE c).fits = true := rfl
  have windowFits : (F.LSW_CH_STAT_WINDOW c).fits = true := rfl
  have wf := State.regsWf_put s (F.LSW_CH_STAT_CSTATE c) st hs
  refine ⟨OnChannel.stat (OnChannel.stat .refl), ?_, State.get_put_of_lt windowFits (by decide : 1 < 2 ^ 1) wf, fun g a1 a2 => ?_⟩
  · rw [retryShown, State.get_put_of_apart (apart_of_zero c (fun _ => rfl) (fun _ => rfl) (by decide)) wf,
      State.get_put_of_lt stateFits (lt_of_lt_of_le small (by decide : 4 ≤ 2 ^ 3)) hs]
  · rw [retryShown, State.get_put_of_apart a2 wf, State.get_put_of_apart a1 hs]

theorem startInrush_result (size : c < s.load.channels.length) (hs : s.regsWf = true) : OnChannel c s (startInrush c s) ∧
    (chan (startInrush c s) c).output = (chan s c).output ∧ (chan (startInrush c s) c).retryAt = (chan s c).retryAt ∧
      (chan (startInrush c s) c).windowEnd = (chan s c).windowEnd ∧
      (s.get (F.LSW_CH_CFG_INRUSH_TIME c) ≠ 0 → (startInrush c s).flag (F.LSW_CH_STAT_INRUSH c) = true ∧
        (chan (startInrush c s) c).inrushFrom = s.now) ∧
      ∀ g, (F.LSW_CH_STAT_INRUSH c).apart g = true → (startInrush c s).get g = s.get g := by
  have inrushFits : (F.LSW_CH_STAT_INRUSH c).fits = true := rfl
  unfold startInrush
  split
  next zero => exact ⟨.refl, rfl, rfl, rfl, fun other => absurd zero other, fun _ _ => rfl⟩
  · have own := chan_modChan (fun x => { x with inrushFrom := s.now }) size
    have regs : (modChan c (fun x => { x with inrushFrom := s.now }) s).regs = s.regs := rfl
    have on_ : OnChannel c s (modChan c (fun x => { x with inrushFrom := s.now }) s) := .mod .refl _
    generalize modChan c (fun x => { x with inrushFrom := s.now }) s = t at own regs on_
    have putChan : chan (t.put (F.LSW_CH_STAT_INRUSH c) 1) c = chan t c := rfl
    have wf := on_.within_.wf hs
    refine ⟨OnChannel.stat on_, by rw [putChan, own], by rw [putChan, own], by rw [putChan, own], fun _ => ⟨?_, by rw [putChan, own]⟩, fun g a => ?_⟩
    · rw [State.flag, State.get_put_of_lt inrushFits (by decide : 1 < 2 ^ 1) wf]
      rfl
    · rw [State.get_put_of_apart a wf, State.get_of_regs regs]

end

/-- A retry that is made switches the channel on again, with its window (R455). -/
theorem retryChannel_made {c r : Nat} {tj : Int} {b : State} (hc : c < 32) (cool : tj < 1500) (sound : b.sound = true)
    (latched : b.get (F.LSW_CH_STAT_CSTATE c) = cLatched) (at_ : (chan b c).retryAt = some r) (late : r ≤ b.now) (u : State)
    (hu : u = retryChannel c tj b) : u.get (F.LSW_CH_STAT_CSTATE c) = b.get (F.LSW_CH_CMD_STATE c) ∧
      u.get (F.LSW_CH_CMD_STATE c) = b.get (F.LSW_CH_CMD_STATE c) ∧ u.flag (F.LSW_CH_STAT_WINDOW c) = true ∧
      (chan u c).retryAt = none ∧ (chan u c).windowEnd = b.now + 500 * ms ∧
      (chan u c).output = (b.get (F.LSW_CH_CMD_STATE c) != 0) ∧
      (b.get (F.LSW_CH_CFG_INRUSH_TIME c) ≠ 0 → u.flag (F.LSW_CH_STAT_INRUSH c) = true ∧ (chan u c).inrushFrom = b.now) ∧
      u.gets (F.LSW_CH_TJ_TJ c) = satS (F.LSW_CH_TJ_TJ c).width tj ∧ otherChannelsKept c b u := by
  have hs := regsWf_of_sound sound
  have tjFits : (F.LSW_CH_TJ_TJ c).fits = true := rfl
  have steps := measures_tj c tj hs
  have tjShown : (b.puts (F.LSW_CH_TJ_TJ c) tj).gets (F.LSW_CH_TJ_TJ c) = satS (F.LSW_CH_TJ_TJ c).width tj :=
    gets_puts_satS tj tjFits (show 0 < 16 by decide) hs
  obtain ⟨s, shown⟩ : ∃ s, s = b.puts (F.LSW_CH_TJ_TJ c) tj := ⟨_, rfl⟩
  rw [← shown] at steps tjShown
  have now_ : s.now = b.now := by rw [steps.only]
  have ready : s.get (F.LSW_CH_STAT_CSTATE c) = cLatched ∧ due (chan s c).retryAt s = true ∧ tj < 1500 := by
    refine ⟨(steps.strided (f := F.LSW_CH_STAT_CSTATE) (fun _ => rfl) (by decide) (by decide)).trans latched, ?_, cool⟩
    rw [steps.chan, at_, due, now_]
    exact decide_eq_true late
  have cmd := steps.strided (f := F.LSW_CH_CMD_STATE) (fun _ => rfl) (by decide) (by decide)
  have inrushTime := steps.strided (f := F.LSW_CH_CFG_INRUSH_TIME) (fun _ => rfl) (by decide) (by decide)
  rw [retryChannel_due shown ready, cmd] at hu
  have size : c < s.load.channels.length := by rw [steps.channel.size, channels_length_of_sound sound]; exact hc
  have wf := steps.channel.within_.wf hs
  obtain ⟨on1, regs1, out1, retry1, window1⟩ := retryBegun_result size
  generalize retryBegun c s = s1 at on1 regs1 out1 retry1 window1 hu
  have wf1 := on1.within_.wf wf
  obtain ⟨on2, state2, windowOpen, stands2⟩ := retryShown_result (c := c) (State.get_lt b (F.LSW_CH_CMD_STATE c) : _ < 4) wf1
  have chan2 : chan (retryShown c (b.get (F.LSW_CH_CMD_STATE c)) s1) c = chan s1 c := rfl
  have now2 : (retryShown c (b.get (F.LSW_CH_CMD_STATE c)) s1).now = s1.now := rfl
  generalize retryShown c (b.get (F.LSW_CH_CMD_STATE c)) s1 = s2 at on2 state2 windowOpen stands2 chan2 now2 hu
  have wf2 := on2.within_.wf wf1
  obtain ⟨on3, out3, retry3, window3, inrush3, stands3⟩ := startInrush_result (c := c) (s := s2) (by rw [on2.size, on1.size]; exact size) wf2
  generalize startInrush c s2 = s3 at on3 out3 retry3 window3 inrush3 stands3 hu
  obtain ⟨-, get_, chan_, -, -, -⟩ := refreshSinks_channels (on3.within_.wf wf2)
  have now1 : s1.now = s.now := on1.within_.part .now (by simp [channelFoot])
  have own : ∀ {f : Nat → Fld}, Strided f → 0x30100 ≤ (f 0).addr → (f 0).addr < 0x30120 → (F.LSW_CH_STAT_INRUSH 0).apart (f 0) = true →
      u.get (f c) = s2.get (f c) := fun hf low high a =>
    hu ▸ (get_ _ (chanField_of_strided hc hf low high)).trans (stands3 _ (apart_of_zero (f := F.LSW_CH_STAT_INRUSH) c (fun _ => rfl) hf a))
  have same : ∀ {f : Nat → Fld}, Strided f → (F.LSW_CH_STAT_CSTATE 0).apart (f 0) = true → (F.LSW_CH_STAT_WINDOW 0).apart (f 0) = true →
      s2.get (f c) = s.get (f c) := fun hf a1 a2 =>
    (stands2 _ (apart_of_zero (f := F.LSW_CH_STAT_CSTATE) c (fun _ => rfl) hf a1)
      (apart_of_zero (f := F.LSW_CH_STAT_WINDOW) c (fun _ => rfl) hf a2)).trans (State.get_of_regs regs1 _)
  refine ⟨?_, ?_, ?_, ?_, ?_, ?_, fun timed => ?_, ?_, ?_⟩
  · rw [own (f := F.LSW_CH_STAT_CSTATE) (fun _ => rfl) (by decide) (by decide) (by decide), state2]
  · rw [own (f := F.LSW_CH_CMD_STATE) (fun _ => rfl) (by decide) (by decide) (by decide),
      same (f := F.LSW_CH_CMD_STATE) (fun _ => rfl) (by decide) (by decide), cmd]
  · rw [State.flag, own (f := F.LSW_CH_STAT_WINDOW) (fun _ => rfl) (by decide) (by decide) (by decide), windowOpen]
    rfl
  · rw [hu, chan_, retry3, chan2, retry1]
  · rw [hu, chan_, window3, chan2, window1, now_]
  · rw [hu, chan_, out3, chan2, out1, cmd]
  · obtain ⟨flag, from_⟩ := inrush3 (by
      rw [same (f := F.LSW_CH_CFG_INRUSH_TIME) (fun _ => rfl) (by decide) (by decide), inrushTime]
      exact timed)
    refine ⟨?_, by rw [hu, chan_, from_, now2, now1, now_]⟩
    rw [hu, State.flag, get_ _ (chanField_of_strided hc (fun _ => rfl) (by decide) (by decide))]
    exact flag
  · rw [State.gets, own (f := F.LSW_CH_TJ_TJ) (fun _ => rfl) (by decide) (by decide) (by decide),
      same (f := F.LSW_CH_TJ_TJ) (fun _ => rfl) (by decide) (by decide)]
    exact tjShown
  · rw [hu]
    exact ((((steps.channel.trans on1).trans on2).trans on3).refreshSinks).kept

/-! ### The ends of windows, and open-load judgement -/

/-- An event of a channel after a change of its STAT and CNT: the channels stand. -/
theorem channelEvent_result {c src : Nat} {b s t : State} (hc : c < 32) (raisable_ : raisable src = true) (calm : quiet src F.LSW_EVT_CH_CH = true)
    (on_ : OnChannel c b s) (load : s.load = b.load) (told : OnChannel c s t) (same : t.load = s.load) (hb : b.regsWf = true) :
    (raiseCh src c t).load = b.load ∧ (raiseCh src c t).get F.LSW_EVT_CH_CH = c ∧ Flagged src (raiseCh src c t) ∧
      otherChannelsKept c b (raiseCh src c t) := by
  obtain ⟨evt, flagged⟩ := raiseCh_result hc raisable_ calm ((on_.trans told).within_.wf hb)
  exact ⟨(raiseCh_load _ _ _).trans (same.trans load), evt, flagged, ((on_.trans told).raiseCh).kept⟩

theorem retryOk_made {c : Nat} {b : State} (hc : c < 32) (sound : b.sound = true) (open_ : b.flag (F.LSW_CH_STAT_WINDOW c) = true)
    (late : (chan b c).windowEnd ≤ b.now) (u : State) (hu : u = retryOk c b) : u.flag (F.LSW_CH_STAT_WINDOW c) = false ∧ u.load = b.load ∧
      u.get (F.LSW_CH_CNT_RETRIES_OK c) = satN (F.LSW_CH_CNT_RETRIES_OK c).width (b.get (F.LSW_CH_CNT_RETRIES_OK c) + 1) ∧
      u.get (F.LSW_CH_STAT_CSTATE c) = b.get (F.LSW_CH_STAT_CSTATE c) ∧ u.get F.LSW_EVT_CH_CH = c ∧ Flagged Src.LSW_RETRY_OK u ∧
      otherChannelsKept c b u := by
  have hs := regsWf_of_sound sound
  have windowFits : (F.LSW_CH_STAT_WINDOW c).fits = true := rfl
  have countFits : (F.LSW_CH_CNT_RETRIES_OK c).fits = true := rfl
  have windowField : ChanField (F.LSW_CH_STAT_WINDOW c) := chanField_of_strided hc (fun _ => rfl) (by decide) (by decide)
  have countField : ChanField (F.LSW_CH_CNT_RETRIES_OK c) := chanField_of_strided hc (fun _ => rfl) (by decide) (by decide)
  have stateField : ChanField (F.LSW_CH_STAT_CSTATE c) := chanField_of_strided hc (fun _ => rfl) (by decide) (by decide)
  have wf1 := State.regsWf_put b (F.LSW_CH_STAT_WINDOW c) 0 hs
  have on_ : OnChannel c b ((b.put (F.LSW_CH_STAT_WINDOW c) 0).bump (F.LSW_CH_CNT_RETRIES_OK c) 1) := OnChannel.put (OnChannel.stat .refl)
    (by simp only [F.LSW_CH_CNT_RETRIES_OK, Reg.LSW_CH_CNT]; omega) (by simp only [F.LSW_CH_CNT_RETRIES_OK, Reg.LSW_CH_CNT]; omega)
  have load : ((b.put (F.LSW_CH_STAT_WINDOW c) 0).bump (F.LSW_CH_CNT_RETRIES_OK c) 1).load = b.load := rfl
  have window : ((b.put (F.LSW_CH_STAT_WINDOW c) 0).bump (F.LSW_CH_CNT_RETRIES_OK c) 1).get (F.LSW_CH_STAT_WINDOW c) = 0 := by
    rw [State.bump, State.get_put_of_apart (apart_of_zero c (fun _ => rfl) (fun _ => rfl) (by decide)) wf1,
      State.get_put_of_lt windowFits (by decide : 0 < 2 ^ 1) hs]
  have count : ((b.put (F.LSW_CH_STAT_WINDOW c) 0).bump (F.LSW_CH_CNT_RETRIES_OK c) 1).get (F.LSW_CH_CNT_RETRIES_OK c) =
      satN (F.LSW_CH_CNT_RETRIES_OK c).width (b.get (F.LSW_CH_CNT_RETRIES_OK c) + 1) := by
    have still : (b.put (F.LSW_CH_STAT_WINDOW c) 0).get (F.LSW_CH_CNT_RETRIES_OK c) = b.get (F.LSW_CH_CNT_RETRIES_OK c) :=
      State.get_put_of_apart (apart_of_zero c (fun _ => rfl) (fun _ => rfl) (by decide)) hs
    rw [State.bump, State.get_put_satN countFits wf1, still]
  have state : ((b.put (F.LSW_CH_STAT_WINDOW c) 0).bump (F.LSW_CH_CNT_RETRIES_OK c) 1).get (F.LSW_CH_STAT_CSTATE c) =
      b.get (F.LSW_CH_STAT_CSTATE c) := by
    rw [State.bump, State.get_put_of_apart (apart_of_zero c (fun _ => rfl) (fun _ => rfl) (by decide)) wf1,
      State.get_put_of_apart (apart_of_zero c (fun _ => rfl) (fun _ => rfl) (by decide)) hs]
  rw [retryOk, if_pos ⟨open_, late⟩] at hu
  dsimp only at hu
  generalize (b.put (F.LSW_CH_STAT_WINDOW c) 0).bump (F.LSW_CH_CNT_RETRIES_OK c) 1 = s at on_ load window count state hu
  have told : OnChannel c s (fault 0x02 1 Src.LSW_RETRY_OK c (s.get (F.LSW_CH_STAT_CAUSE c)) 0 0 s) := .fault .refl
  obtain ⟨load', evt, flagged, kept⟩ := channelEvent_result hc (src := Src.LSW_RETRY_OK) (by decide) (by decide) on_ load told (by simp) hs
  have stands : ∀ {g : Fld}, ChanField g → u.get g = s.get g := fun hg =>
    hu ▸ ((hg.raiseCh_stands (hg.fault_stands .refl)) (on_.within_.wf hs)).2
  refine ⟨?_, by rw [hu]; exact load', (stands countField).trans count, (stands stateField).trans state, by rw [hu]; exact evt, by rw [hu]; exact flagged,
    by rw [hu]; exact kept⟩
  rw [State.flag, stands windowField, window]
  rfl

theorem openLoad_changes {c units : Nat} {above : Bool} {b : State} (hc : c < 32) (sound : b.sound = true) (judged : openLoadJudged b c = true)
    (long : b.get (F.LSW_CH_TIME_OL_TIME c) ≤ judgedFor b c units) (other : b.flag (F.LSW_CH_STAT_OPEN_LOAD c) ≠ above) (u : State)
    (hu : u = openLoad c above units b) : u.flag (F.LSW_CH_STAT_OPEN_LOAD c) = above ∧ u.load = b.load ∧ u.get F.LSW_EVT_CH_CH = c ∧
      Flagged (if above then Src.LSW_OPEN_LOAD else Src.LSW_OPEN_LOAD_CLEAR) u ∧ otherChannelsKept c b u := by
  have hs := regsWf_of_sound sound
  have fits : (F.LSW_CH_STAT_OPEN_LOAD c).fits = true := rfl
  have field_ : ChanField (F.LSW_CH_STAT_OPEN_LOAD c) := chanField_of_strided hc (fun _ => rfl) (by decide) (by decide)
  have on_ : ∀ v, OnChannel c b (b.put (F.LSW_CH_STAT_OPEN_LOAD c) v) := fun _ => OnChannel.stat .refl
  have put_ : ∀ v, v < 2 → (b.put (F.LSW_CH_STAT_OPEN_LOAD c) v).get (F.LSW_CH_STAT_OPEN_LOAD c) = v := fun v hv =>
    State.get_put_of_lt fits (show v < 2 ^ 1 from hv) hs
  unfold openLoad at hu
  rw [if_neg (by simp [judged]; omega)] at hu
  cases above with
  | true =>
    have low : b.flag (F.LSW_CH_STAT_OPEN_LOAD c) = false := by simpa using other
    rw [if_pos (by simp [low])] at hu
    have told : OnChannel c (b.put (F.LSW_CH_STAT_OPEN_LOAD c) 1) (fault 0x06 4 Src.LSW_OPEN_LOAD c 0 0 0 (b.put (F.LSW_CH_STAT_OPEN_LOAD c) 1)) :=
      .fault .refl
    obtain ⟨load, evt, flagged, kept⟩ := channelEvent_result hc (src := Src.LSW_OPEN_LOAD) (by decide) (by decide) (on_ 1) rfl told (by simp) hs
    rw [hu]
    refine ⟨?_, load, evt, flagged, kept⟩
    rw [State.flag, ((field_.raiseCh_stands (field_.fault_stands .refl)) ((on_ 1).within_.wf hs)).2, put_ 1 (by decide)]
    rfl
  | false =>
    have high : b.flag (F.LSW_CH_STAT_OPEN_LOAD c) = true := by simpa using other
    rw [if_neg (by simp), if_pos (by simp [high])] at hu
    obtain ⟨load, evt, flagged, kept⟩ := channelEvent_result hc (src := Src.LSW_OPEN_LOAD_CLEAR) (by decide) (by decide) (on_ 0) rfl .refl rfl hs
    rw [hu]
    refine ⟨?_, load, evt, flagged, kept⟩
    rw [State.flag, ((field_.raiseCh_stands .refl) ((on_ 0).within_.wf hs)).2, put_ 0 (by decide)]
    rfl

/-! ### The rows -/

theorem currentCause_some {c thr : Nat} {current : Int} (high : (thr : Int) < current ∨ (hardLimit c : Int) < current) :
    currentCause c current thr = some (if (hardLimit c : Int) < current then 2 else 1) := by
  unfold currentCause
  split
  · rfl
  next soft => rw [if_pos (high.resolve_right soft)]

theorem currentCause_none {c thr : Nat} {current : Int} (low : current ≤ (thr : Int)) (soft : current ≤ (hardLimit c : Int)) :
    currentCause c current thr = none := by
  unfold currentCause
  rw [if_neg (by omega), if_neg (by omega)]

/-- The channel of an off command carried out in this instant is off. -/
theorem offNow_some {s : State} {c thr : Nat} (h : offNow s c = some thr) : (chan s c).output = false ∧ wantsOn s c = false := by
  unfold offNow at h
  split at h
  · simp at h
  · split at h
    next off =>
      obtain ⟨-, output, state⟩ := off
      exact ⟨output, by rw [wantsOn, state, output]; rfl⟩
    · simp at h

theorem measures_both_gets {c : Nat} {current tj : Int} {b s u : State} (hs : b.regsWf = true)
    (shown : s = (b.puts (F.LSW_CH_CURR_CURR c) current).puts (F.LSW_CH_TJ_TJ c) tj)
    (curr : u.get (F.LSW_CH_CURR_CURR c) = s.get (F.LSW_CH_CURR_CURR c)) (temp : u.get (F.LSW_CH_TJ_TJ c) = s.get (F.LSW_CH_TJ_TJ c)) :
    Measured c current tj u := by
  have currFits : (F.LSW_CH_CURR_CURR c).fits = true := rfl
  have tjFits : (F.LSW_CH_TJ_TJ c).fits = true := rfl
  have wf : (b.puts (F.LSW_CH_CURR_CURR c) current).regsWf = true := State.regsWf_put _ _ _ hs
  refine ⟨?_, ?_⟩
  · rw [State.gets, curr, shown, State.puts, State.get_put_of_apart (apart_of_zero c (fun _ => rfl) (fun _ => rfl) (by decide)) wf]
    exact gets_puts_satS current currFits (show 0 < 32 by decide) hs
  · rw [State.gets, temp, shown]
    exact gets_puts_satS tj tjFits (show 0 < 16 by decide) wf

theorem measures_tj_gets {c : Nat} {tj : Int} {b s u : State} (hs : b.regsWf = true) (shown : s = b.puts (F.LSW_CH_TJ_TJ c) tj)
    (curr : u.get (F.LSW_CH_CURR_CURR c) = s.get (F.LSW_CH_CURR_CURR c)) (temp : u.get (F.LSW_CH_TJ_TJ c) = s.get (F.LSW_CH_TJ_TJ c)) :
    Measured c (b.gets (F.LSW_CH_CURR_CURR c)) tj u := by
  have tjFits : (F.LSW_CH_TJ_TJ c).fits = true := rfl
  obtain ⟨lo, hi⟩ := sx_bounds (show 0 < 32 by decide) (b.get (F.LSW_CH_CURR_CURR c))
  refine ⟨?_, ?_⟩
  · have kept : s.get (F.LSW_CH_CURR_CURR c) = b.get (F.LSW_CH_CURR_CURR c) := by
      rw [shown, State.puts, State.get_put_of_apart (apart_of_zero c (fun _ => rfl) (fun _ => rfl) (by decide)) hs]
    rw [State.gets, curr, kept]
    exact (satS_of_bounds lo hi).symm
  · rw [State.gets, temp, shown]
    exact gets_puts_satS tj tjFits (show 0 < 16 by decide) hs

theorem cause_lt (c : Nat) (current : Int) : (if (hardLimit c : Int) < current then 2 else 1) < 4 := by
  split <;> decide

/-- A current on a channel whose output is on, or in the cycle of its off command. -/
theorem overCurrent_on {c : Nat} {current tj : Int} {b : State} (hc : c < 32) (sound : b.sound = true) (on_ : (chan b c).output = true)
    (high : (threshold b c : Int) < current ∨ (hardLimit c : Int) < current) (u : State) (hu : u = overCurrent c current tj b) :
    HasLatched c (if (hardLimit c : Int) < current then 2 else 1) b u ∧ Measured c current tj u ∧ otherChannelsKept c b u := by
  have hs := regsWf_of_sound sound
  have steps := measures_both c current tj hs
  obtain ⟨s, shown⟩ : ∃ s, s = (b.puts (F.LSW_CH_CURR_CURR c) current).puts (F.LSW_CH_TJ_TJ c) tj := ⟨_, rfl⟩
  unfold overCurrent at hu
  dsimp only at hu
  rw [← shown] at steps hu
  rw [steps.chan, steps.threshold, if_pos on_, currentCause_some high] at hu
  obtain ⟨latched, curr, temp, kept⟩ := latch_after hc (cause_lt c current) sound steps u hu
  exact ⟨latched, measures_both_gets hs shown curr temp, kept⟩

theorem overCurrent_off {c thr : Nat} {current tj : Int} {b : State} (hc : c < 32) (sound : b.sound = true) (off : offNow b c = some thr)
    (noLimp : inLimp b = false) (free : channelSided b c = false) (closed : b.flag (F.LSW_CH_STAT_WINDOW c) = false)
    (high : (thr : Int) < current ∨ (hardLimit c : Int) < current) (u : State) (hu : u = overCurrent c current tj b) :
    LatchCancelled c (if (hardLimit c : Int) < current then 2 else 1) b u ∧ Measured c current tj u ∧ otherChannelsKept c b u := by
  have hs := regsWf_of_sound sound
  have steps := measures_both c current tj hs
  obtain ⟨s, shown⟩ : ∃ s, s = (b.puts (F.LSW_CH_CURR_CURR c) current).puts (F.LSW_CH_TJ_TJ c) tj := ⟨_, rfl⟩
  unfold overCurrent at hu
  dsimp only at hu
  rw [← shown] at steps hu
  rw [steps.chan, steps.offNow, if_neg (by simp [(offNow_some off).1]), off, Option.bind_some, currentCause_some high] at hu
  obtain ⟨latched, curr, temp, kept⟩ := latchOff_after hc (cause_lt c current) sound steps noLimp free closed u hu
  exact ⟨latched, measures_both_gets hs shown curr temp, kept⟩

theorem overCurrent_fine {c : Nat} {current tj : Int} {b : State} (sound : b.sound = true)
    (on_ : (chan b c).output = true → current ≤ (threshold b c : Int) ∧ current ≤ (hardLimit c : Int))
    (off : ∀ thr ∈ offNow b c, current ≤ (thr : Int) ∧ current ≤ (hardLimit c : Int)) (u : State) (hu : u = overCurrent c current tj b) :
    u = { b with regs := u.regs } ∧ Measured c current tj u ∧ FieldsKept [F.LSW_CH_CURR_CURR c, F.LSW_CH_TJ_TJ c] b u := by
  have hs := regsWf_of_sound sound
  have steps := measures_both c current tj hs
  have currFits : (F.LSW_CH_CURR_CURR c).fits = true := rfl
  have tjFits : (F.LSW_CH_TJ_TJ c).fits = true := rfl
  have stays : u = (b.puts (F.LSW_CH_CURR_CURR c) current).puts (F.LSW_CH_TJ_TJ c) tj := by
    unfold overCurrent at hu
    dsimp only at hu
    rw [steps.chan, steps.threshold, steps.offNow] at hu
    by_cases output : (chan b c).output = true
    · rw [if_pos output, currentCause_none (on_ output).1 (on_ output).2] at hu
      exact hu
    · rw [if_neg output] at hu
      cases found : offNow b c with
      | none =>
        rw [found] at hu
        exact hu
      | some thr =>
        obtain ⟨low, soft⟩ := off thr (by simp [found])
        rw [found, Option.bind_some, currentCause_none low soft] at hu
        exact hu
  have wf : (b.puts (F.LSW_CH_CURR_CURR c) current).regsWf = true := State.regsWf_put _ _ _ hs
  refine ⟨by rw [stays]; rfl, measures_both_gets hs stays rfl rfl, fun g other => ?_⟩
  rw [stays, State.puts, fieldsKept_put tjFits wf _ g (fun f hf => other f (by simp_all)), State.puts,
    fieldsKept_put currFits hs _ g (fun f hf => other f (by simp_all))]

theorem thermal_hot {c : Nat} {tj : Int} {b : State} (hc : c < 32) (hot : 1750 ≤ tj) (sound : b.sound = true)
    (on_ : (chan b c).output = true ∨ wantsOn b c = true) (u : State) (hu : u = thermal c tj b) :
    HasLatched c 3 b u ∧ Measured c (b.gets (F.LSW_CH_CURR_CURR c)) tj u ∧ otherChannelsKept c b u := by
  have hs := regsWf_of_sound sound
  have steps := measures_tj c tj hs
  obtain ⟨s, shown⟩ : ∃ s, s = b.puts (F.LSW_CH_TJ_TJ c) tj := ⟨_, rfl⟩
  unfold thermal at hu
  dsimp only at hu
  rw [← shown] at steps hu
  rw [if_neg (by omega), steps.chan, steps.wantsOn, if_pos (by simpa using on_)] at hu
  obtain ⟨latched, curr, temp, kept⟩ := latch_after hc (by decide) sound steps u hu
  exact ⟨latched, measures_tj_gets hs shown curr temp, kept⟩

theorem thermal_off {c thr : Nat} {tj : Int} {b : State} (hc : c < 32) (hot : 1750 ≤ tj) (sound : b.sound = true) (off : offNow b c = some thr)
    (noLimp : inLimp b = false) (free : channelSided b c = false) (closed : b.flag (F.LSW_CH_STAT_WINDOW c) = false) (u : State)
    (hu : u = thermal c tj b) :
    LatchCancelled c 3 b u ∧ Measured c (b.gets (F.LSW_CH_CURR_CURR c)) tj u ∧ otherChannelsKept c b u := by
  have hs := regsWf_of_sound sound
  have steps := measures_tj c tj hs
  obtain ⟨s, shown⟩ : ∃ s, s = b.puts (F.LSW_CH_TJ_TJ c) tj := ⟨_, rfl⟩
  obtain ⟨output, idle⟩ := offNow_some off
  unfold thermal at hu
  dsimp only at hu
  rw [← shown] at steps hu
  rw [if_neg (by omega), steps.chan, steps.wantsOn, if_neg (by simp [output, idle]), steps.offNow, if_pos (by simp [off])] at hu
  obtain ⟨latched, curr, temp, kept⟩ := latchOff_after hc (by decide) sound steps noLimp free closed u hu
  exact ⟨latched, measures_tj_gets hs shown curr temp, kept⟩

/-- A junction temperature alone is shown. -/
theorem tjShown_alone {c : Nat} {tj : Int} {b : State} (sound : b.sound = true) (u : State) (hu : u = b.puts (F.LSW_CH_TJ_TJ c) tj) :
    u = { b with regs := u.regs } ∧ u.gets (F.LSW_CH_TJ_TJ c) = satS (F.LSW_CH_TJ_TJ c).width tj ∧ FieldsKept [F.LSW_CH_TJ_TJ c] b u := by
  have hs := regsWf_of_sound sound
  have tjFits : (F.LSW_CH_TJ_TJ c).fits = true := rfl
  rw [hu]
  exact ⟨rfl, gets_puts_satS tj tjFits (show 0 < 16 by decide) hs, fieldsKept_put tjFits hs _⟩

theorem thermal_fine {c : Nat} {tj : Int} {b : State} (sound : b.sound = true)
    (fine : tj < 1750 ∨ ((chan b c).output = false ∧ wantsOn b c = false ∧ offNow b c = none)) : thermal c tj b = b.puts (F.LSW_CH_TJ_TJ c) tj := by
  have steps := measures_tj c tj (regsWf_of_sound sound)
  unfold thermal
  dsimp only
  obtain cool | ⟨output, idle, noOff⟩ := fine
  · rw [if_pos cool]
  · rw [steps.chan, steps.wantsOn, steps.offNow, output, idle, noOff]
    exact ite_self _

theorem retryChannel_waits {c : Nat} {tj : Int} {b : State} (sound : b.sound = true)
    (waits : 1500 ≤ tj ∨ b.get (F.LSW_CH_STAT_CSTATE c) ≠ cLatched ∨ due (chan b c).retryAt b = false) :
    retryChannel c tj b = b.puts (F.LSW_CH_TJ_TJ c) tj := by
  have steps := measures_tj c tj (regsWf_of_sound sound)
  have state := steps.strided (f := F.LSW_CH_STAT_CSTATE) (fun _ => rfl) (by decide) (by decide)
  have when_ : due (chan (b.puts (F.LSW_CH_TJ_TJ c) tj) c).retryAt (b.puts (F.LSW_CH_TJ_TJ c) tj) = due (chan b c).retryAt b := rfl
  unfold retryChannel
  dsimp only
  rw [state, when_, if_neg]
  rintro ⟨latched, late, cool⟩
  obtain hot | other | early := waits
  · omega
  · exact other latched
  · simp [late] at early

/-- The row of a channel that a module without power leaves. -/
theorem does_unpowered {c : Nat} {i : Nat → Instr} {f : State → State}
    (run : ∀ t s, exec (i t) s = .next (if c < 32 ∧ powered (begin_ t s) = true then f (begin_ t s) else begin_ t s)) :
    Does i (fun b => powered b = false) (fun b u => u = b) :=
  does_of_run (fun s => if c < 32 ∧ powered s = true then f s else s) run fun b off => if_neg fun h => by simp [off] at h

/-- The row of a channel that does nothing in a state. -/
theorem does_idle {c : Nat} {i : Nat → Instr} {f : State → State} {cond : State → Prop}
    (run : ∀ t s, exec (i t) s = .next (if c < 32 ∧ powered (begin_ t s) = true then f (begin_ t s) else begin_ t s))
    (idle : ∀ b, cond b → f b = b) : Does i cond (fun b u => u = b) :=
  does_of_run (fun s => if c < 32 ∧ powered s = true then f s else s) run fun b h => by
    rw [idle b h, ite_self]

/-- The row of a channel that does something in a state. -/
theorem does_channel {c : Nat} (hc : c < 32) {i : Nat → Instr} {f : State → State} {cond : State → Prop} {P : State → State → Prop}
    (run : ∀ t s, exec (i t) s = .next (if c < 32 ∧ powered (begin_ t s) = true then f (begin_ t s) else begin_ t s))
    (power : ∀ b, cond b → powered b = true) (acts : ∀ b, cond b → P b (f b)) : Does i cond P :=
  does_of_run (fun s => if c < 32 ∧ powered s = true then f s else s) run fun b h => by
    rw [if_pos ⟨hc, power b h⟩]
    exact acts b h

/-- Settles O43: every path of the six rows of protection, each a latch, a retry or an end of a window on one channel. -/
theorem protectionRows : Obligations.ProtectionRows := by
  refine ⟨fun c current tj hc => ?_, fun c current tj thr hc => ?_, fun c current tj hc => ?_, fun c tj hc hot => ?_, fun c tj thr hc hot => ?_,
    fun c tj hc => ?_, fun c tj r hc cool => ?_, fun c tj hc => ?_, fun c hc => ?_, fun c hc => ?_, fun c hc => ?_, fun c hc => ?_,
    fun c above units hc => ?_, fun c above units hc => ?_, fun _ _ _ => does_unpowered fun _ _ => rfl, fun _ _ => does_unpowered fun _ _ => rfl,
    fun _ _ => does_unpowered fun _ _ => rfl, fun _ => does_unpowered fun _ _ => rfl, fun _ => does_unpowered fun _ _ => rfl,
    fun _ _ _ => does_unpowered fun _ _ => rfl⟩
  · exact does_channel hc (fun _ _ => rfl) (fun b h => h.2.1) fun b ⟨sound, _, on_, high⟩ => overCurrent_on hc sound on_ high _ rfl
  · exact does_channel hc (fun _ _ => rfl) (fun b h => h.2.1) fun b ⟨sound, _, off, noLimp, free, closed, high⟩ =>
      overCurrent_off hc sound off noLimp free closed high _ rfl
  · exact does_channel hc (fun _ _ => rfl) (fun b h => h.2.1) fun b ⟨sound, _, on_, off⟩ => overCurrent_fine sound on_ off _ rfl
  · exact does_channel hc (fun _ _ => rfl) (fun b h => h.2.1) fun b ⟨sound, _, on_⟩ => thermal_hot hc hot sound on_ _ rfl
  · exact does_channel hc (fun _ _ => rfl) (fun b h => h.2.1) fun b ⟨sound, _, off, noLimp, free, closed⟩ =>
      thermal_off hc hot sound off noLimp free closed _ rfl
  · exact does_channel hc (fun _ _ => rfl) (fun b h => h.2.1) fun b ⟨sound, _, fine⟩ => tjShown_alone sound _ (thermal_fine sound fine)
  · exact does_channel hc (fun _ _ => rfl) (fun b h => h.2.1) fun b ⟨sound, _, latched, at_, late⟩ =>
      retryChannel_made hc cool sound latched at_ late _ rfl
  · exact does_channel hc (fun _ _ => rfl) (fun b h => h.2.1) fun b ⟨sound, _, waits⟩ => tjShown_alone sound _ (retryChannel_waits sound waits)
  · exact does_channel hc (fun _ _ => rfl) (fun b h => h.2.1) fun b ⟨sound, _, open_, late⟩ => retryOk_made hc sound open_ late _ rfl
  · refine does_idle (f := retryOk c) (fun _ _ => rfl) fun b h => if_neg ?_
    rintro ⟨open_, late⟩
    obtain closed | early := h
    · simp [closed] at open_
    · omega
  · refine does_channel hc (f := inrushEnd c) (fun _ _ => rfl) (fun b h => h.2.1) fun b ⟨sound, _, runs, late⟩ => ?_
    have hs := regsWf_of_sound sound
    have fits : (F.LSW_CH_STAT_INRUSH c).fits = true := rfl
    rw [inrushEnd, if_pos ⟨runs, late⟩]
    refine ⟨rfl, ?_, fieldsKept_put fits hs _⟩
    rw [State.flag, State.get_put_of_lt fits (by decide : 0 < 2 ^ 1) hs]
    rfl
  · refine does_idle (f := inrushEnd c) (fun _ _ => rfl) fun b h => if_neg ?_
    rintro ⟨runs, late⟩
    obtain closed | early := h
    · simp [closed] at runs
    · omega
  · exact does_channel hc (fun _ _ => rfl) (fun b h => h.2.1) fun b ⟨sound, _, judged, long, other⟩ =>
      openLoad_changes hc sound judged long other _ rfl
  · refine does_idle (f := openLoad c above units) (fun _ _ => rfl) fun b h => ?_
    unfold openLoad
    obtain unjudged | short | same := h
    · rw [if_pos (by simp [unjudged])]
    · rw [if_pos (by simp [short])]
    · rw [same]
      cases above <;> simp

end Sys2Proof.Machine
end

section
/-!
The other rows of load channels: stud voltages, measurement, the pin SENSE_OUT, limp mode and the periods of PWM (R443–R478).
-/

namespace Sys2Proof.Machine

/-! ### Stud means -/

theorem foldl_add_eq_sum {α : Type} (g : α → Int) : ∀ (l : List α) (n : Int), l.foldl (fun x e => x + g e) n = n + (l.map g).sum
  | [], n => by simp
  | a :: l, n => by
    rw [List.foldl_cons, foldl_add_eq_sum g l, List.map_cons, List.sum_cons, Int.add_assoc]

/-- The means of both studs, shown. -/
def meansShown (x y : Nat) (s : State) : State := (s.put F.LSW_TOTAL_MEAN_A x).put F.LSW_TOTAL_MEAN_B y

/-- OVER, shown, and raised where it begins. -/
def overShown (high : Bool) (s : State) : State :=
  if high && !s.flag F.LSW_SUPPLY_OVER then raise0 Src.LSW_LOAD_OVER (s.put F.LSW_SUPPLY_OVER 1) else s.put F.LSW_SUPPLY_OVER (b2n high)

/-- Whether a stud or both exceed their limits, by the sums of n measurements. -/
def studsOver (x y : Int) (n : Nat) : Bool := decide (x > 100000 * n) || decide (y > 100000 * n) || decide (x + y > 140000 * n)

theorem studMean_eq (x y : Int) (s : State) (l : List (Nat × Int × Int)) (hl : l = (logStuds x y s).load.studLog) :
    studMean x y s = overShown (studsOver (l.map (·.2.1)).sum (l.map (·.2.2)).sum l.length)
      (meansShown (satU 16 (roundDiv (l.map (·.2.1)).sum (10 * l.length))) (satU 16 (roundDiv (l.map (·.2.2)).sum (10 * l.length))) (logStuds x y s)) := by
  have sumA := foldl_add_eq_sum (fun e : Nat × Int × Int => e.2.1) l 0
  have sumB := foldl_add_eq_sum (fun e : Nat × Int × Int => e.2.2) l 0
  rw [Int.zero_add] at sumA sumB
  unfold studMean
  dsimp only
  rw [← hl, sumA, sumB]
  rfl

theorem satU_lt (w : Nat) (i : Int) : satU w i < 2 ^ w := by
  have pos := Nat.two_pow_pos w
  unfold satU
  split
  · exact pos
  · split
    · omega
    next low =>
      have cast_ : ((2 ^ w - 1 : Nat) : Int) = ((2 ^ w : Nat) : Int) - 1 := by omega
      omega

theorem meansShown_result {x y : Nat} (hx : x < 2 ^ 16) (hy : y < 2 ^ 16) {s : State} (hs : s.regsWf = true) :
    (meansShown x y s).regsWf = true ∧ (meansShown x y s).get F.LSW_TOTAL_MEAN_A = x ∧ (meansShown x y s).get F.LSW_TOTAL_MEAN_B = y ∧
      FieldsKept [F.LSW_TOTAL_MEAN_A, F.LSW_TOTAL_MEAN_B] s (meansShown x y s) := by
  have wf := State.regsWf_put s F.LSW_TOTAL_MEAN_A x hs
  refine ⟨State.regsWf_put _ _ _ wf, ?_, State.get_put_of_lt (by decide) hy wf, fun g other => ?_⟩
  · rw [meansShown, State.get_put_of_apart (by decide) wf, State.get_put_of_lt (by decide) hx hs]
  · rw [meansShown, fieldsKept_put (by decide) wf _ g (fun f hf => other f (by simp_all)),
      fieldsKept_put (by decide) hs _ g (fun f hf => other f (by simp_all))]

/-- What a footprint without registers, but for those of events, leaves of the channels. -/
theorem eventFoot_channels {b u : State} (h : Within ⟨fun _ => false, [.log]⟩ b u) : ∀ c, c < 32 → channelKept c b u := fun c hc =>
  ⟨chan_of_load (h.part .load (by decide)) c, fun i hi => h.reg _ (touches_eq_false rfl (by simp only [Reg.LSW_CH_CFG]; omega)
    (by simp [raisePlaces, Reg.LSW_CH_CFG]; omega))⟩

theorem overShown_result (high : Bool) {s : State} (hs : s.regsWf = true) : (overShown high s).load = s.load ∧
    (overShown high s).get F.LSW_TOTAL_MEAN_A = s.get F.LSW_TOTAL_MEAN_A ∧ (overShown high s).get F.LSW_TOTAL_MEAN_B = s.get F.LSW_TOTAL_MEAN_B ∧
      (overShown high s).flag F.LSW_SUPPLY_OVER = high ∧
      (high = true → s.flag F.LSW_SUPPLY_OVER = false → Flagged Src.LSW_LOAD_OVER (overShown high s)) ∧
      (∀ c, c < 32 → channelKept c s (overShown high s)) ∧
      (high = false ∨ s.flag F.LSW_SUPPLY_OVER = true → overShown high s = s.put F.LSW_SUPPLY_OVER (b2n high)) := by
  have kept : ∀ v c, c < 32 → channelKept c s (s.put F.LSW_SUPPLY_OVER v) := fun v c _ =>
    ⟨rfl, fun i _ => State.reg_put_ne _ _ _ _ (by simp only [F.LSW_SUPPLY_OVER, Reg.LSW_SUPPLY, Reg.LSW_CH_CFG]; omega)⟩
  unfold overShown
  split
  next begins =>
    simp only [Bool.and_eq_true, Bool.not_eq_true'] at begins
    obtain ⟨is, was⟩ := begins
    have wf := State.regsWf_put s F.LSW_SUPPLY_OVER 1 hs
    have told : Within ⟨fun _ => false, [.log]⟩ (s.put F.LSW_SUPPLY_OVER 1) (raise0 Src.LSW_LOAD_OVER (s.put F.LSW_SUPPLY_OVER 1)) := raise0_within .refl
    have flagged : Flagged Src.LSW_LOAD_OVER (raise0 Src.LSW_LOAD_OVER (s.put F.LSW_SUPPLY_OVER 1)) := flagged_raiseArg (by decide) wf
    refine ⟨told.part .load (by decide), ?_, ?_, ?_, fun _ _ => flagged, fun c hc => ?_, fun stays => ?_⟩
    · rw [told.get (by decide), State.get_put_of_apart (by decide) hs]
    · rw [told.get (by decide), State.get_put_of_apart (by decide) hs]
    · rw [told.flag (by decide), State.flag, State.get_put_of_lt (by decide) (by decide) hs, is]
      rfl
    · obtain ⟨a, r⟩ := eventFoot_channels told c hc
      obtain ⟨a', r'⟩ := kept 1 c hc
      exact ⟨a.trans a', fun i hi => (r i hi).trans (r' i hi)⟩
    · obtain no | yes := stays
      · simp [no] at is
      · simp [yes] at was
  next calm =>
    refine ⟨rfl, State.get_put_of_apart (by decide) hs, State.get_put_of_apart (by decide) hs, ?_, fun is was => ?_, kept _, fun _ => rfl⟩
    · rw [State.flag, State.get_put_of_lt (by decide) (b2n_lt _ (by decide)) hs]
      cases high <;> rfl
    · simp [is, was] at calm

/-- The means of the last second (R447). -/
theorem studMean_result (x y : Int) {b : State} (hs : b.regsWf = true) (l : List (Nat × Int × Int))
    (hl : l = b.load.studLog.filter (fun e => decide (b.now < e.1 + sec)) ++ [(b.now, x, y)]) (u : State) (hu : u = studMean x y b) :
    u.load = { b.load with studLog := l } ∧
      u.get F.LSW_TOTAL_MEAN_A = satU 16 (roundDiv (l.map (·.2.1)).sum (10 * l.length)) ∧
      u.get F.LSW_TOTAL_MEAN_B = satU 16 (roundDiv (l.map (·.2.2)).sum (10 * l.length)) ∧
      (u.flag F.LSW_SUPPLY_OVER = true ↔ 100000 * (l.length : Int) < (l.map (·.2.1)).sum ∨
        100000 * (l.length : Int) < (l.map (·.2.2)).sum ∨ 140000 * (l.length : Int) < (l.map (·.2.1)).sum + (l.map (·.2.2)).sum) ∧
      (u.flag F.LSW_SUPPLY_OVER = true → b.flag F.LSW_SUPPLY_OVER = false → Flagged Src.LSW_LOAD_OVER u) ∧
      (∀ c, c < 32 → channelKept c b u) ∧
      (u.flag F.LSW_SUPPLY_OVER = false ∨ b.flag F.LSW_SUPPLY_OVER = true → u = { b with regs := u.regs, load := u.load } ∧
        FieldsKept [F.LSW_SUPPLY_OVER, F.LSW_TOTAL_MEAN_A, F.LSW_TOTAL_MEAN_B] b u) := by
  have logged : (logStuds x y b).load = { b.load with studLog := l } := by rw [hl]; rfl
  have regs : (logStuds x y b).regs = b.regs := rfl
  have rest : logStuds x y b = { b with load := { b.load with studLog := l } } := by rw [hl]; rfl
  rw [studMean_eq x y b l (by rw [logged])] at hu
  generalize logStuds x y b = t at logged regs rest hu
  obtain ⟨wf, meanA, meanB, keptM⟩ := meansShown_result (satU_lt 16 (roundDiv (l.map (·.2.1)).sum (10 * l.length)))
    (satU_lt 16 (roundDiv (l.map (·.2.2)).sum (10 * l.length))) (s := t) (by simpa only [State.regsWf, regs] using hs)
  have shown : meansShown (satU 16 (roundDiv (l.map (·.2.1)).sum (10 * l.length))) (satU 16 (roundDiv (l.map (·.2.2)).sum (10 * l.length))) t =
    { t with regs := (meansShown (satU 16 (roundDiv (l.map (·.2.1)).sum (10 * l.length)))
      (satU 16 (roundDiv (l.map (·.2.2)).sum (10 * l.length))) t).regs } := rfl
  have places : ∀ a, a ≠ Reg.LSW_TOTAL → (meansShown (satU 16 (roundDiv (l.map (·.2.1)).sum (10 * l.length)))
      (satU 16 (roundDiv (l.map (·.2.2)).sum (10 * l.length))) t).reg a = t.reg a := fun a other => by
    rw [meansShown, State.reg_put_ne _ _ _ _ other, State.reg_put_ne _ _ _ _ other]
  generalize meansShown (satU 16 (roundDiv (l.map (·.2.1)).sum (10 * l.length))) (satU 16 (roundDiv (l.map (·.2.2)).sum (10 * l.length))) t = v
    at wf meanA meanB keptM shown places hu
  have over0 : v.flag F.LSW_SUPPLY_OVER = b.flag F.LSW_SUPPLY_OVER := by
    rw [State.flag, State.flag, keptM _ (by decide), State.get_of_regs regs]
  have load : v.load = { b.load with studLog := l } := by rw [shown]; exact logged
  obtain ⟨loadU, a, b', over_, begins, kept, stays⟩ := overShown_result (studsOver (l.map (·.2.1)).sum (l.map (·.2.2)).sum l.length) wf
  rw [← hu] at loadU a b' over_ begins kept stays
  refine ⟨loadU.trans load, a.trans meanA, b'.trans meanB, ?_, fun is was => begins (over_ ▸ is) (over0.trans was), fun c hc => ?_, fun h => ?_⟩
  · rw [over_]
    simp [studsOver, or_assoc]
  · obtain ⟨own, regsC⟩ := kept c hc
    refine ⟨own.trans (by rw [chan, chan, load]), fun i hi => (regsC i hi).trans ?_⟩
    rw [places _ (by simp only [Reg.LSW_CH_CFG, Reg.LSW_TOTAL]; omega), State.reg, regs, ← State.reg]
  · have put_ := stays (h.imp (fun no => over_ ▸ no) fun yes => over0.trans yes)
    refine ⟨by rw [put_, shown, rest]; rfl, fun g other => ?_⟩
    rw [put_, fieldsKept_put (by decide) wf _ g fun f hf => other f (List.mem_cons.mpr (.inl (List.mem_singleton.mp hf))),
      keptM g fun f hf => other f (List.mem_cons_of_mem _ hf), State.get_of_regs regs]

/-! ### Stud voltages -/

theorem FieldsKept.apart {f g : Fld} {s t : State} (h : FieldsKept [f] s t) (ha : f.apart g = true) : t.get g = s.get g :=
  h g fun v hv => by
    rw [List.mem_singleton.mp hv]
    exact (Fld.apart_iff.mp ha).2

/-- The voltage of a stud, shown and noted. -/
def voltShown (d : Bool) (mv : Nat) (s : State) : State := gather (if d then 5 else 4) mv (s.put (studVolt d) (satU 14 (roundDiv mv 5)))

theorem studVoltage_eq (d : Bool) (mv : Nat) (s : State) : studVoltage d mv s =
    if mv < 6000 then (if (voltShown d mv s).flag (studLow d) then voltShown d mv s else raise0 Src.LSW_SUPPLY_LOW ((voltShown d mv s).put (studLow d) 1))
    else foldOver (fun u c => judgeAnew (voltShown d mv s) c u) ((voltShown d mv s).put (studLow d) 0) (upFrom 0 32) := by
  cases d <;> rfl

theorem studFields (d e : Bool) : (studVolt d).fits = true ∧ (studLow d).fits = true ∧ (studVolt d).apart (studLow e) = true ∧
    (studLow d).apart (studVolt e) = true ∧ (studVolt d).width = 14 ∧ (studLow d).width = 1 ∧ (studVolt d).addr = Reg.LSW_SUPPLY ∧
    (studLow d).addr = Reg.LSW_SUPPLY := by
  cases d <;> cases e <;> decide

theorem studVolt_other (d : Bool) : (studVolt d).apart (studVolt !d) = true ∧ (studLow d).apart (studLow !d) = true := by
  cases d <;> decide

theorem voltShown_result (d : Bool) (mv : Nat) {s : State} (hs : s.regsWf = true) : (voltShown d mv s).regsWf = true ∧
    voltShown d mv s = { s with regs := (voltShown d mv s).regs, ev := (gather (if d then 5 else 4) mv s).ev } ∧
      (voltShown d mv s).get (studVolt d) = satU 14 (roundDiv mv 5) ∧ FieldsKept [studVolt d] s (voltShown d mv s) := by
  obtain ⟨fits, -, -, -, width, -, -, -⟩ := studFields d d
  have regs : (voltShown d mv s).regs = (s.put (studVolt d) (satU 14 (roundDiv mv 5))).regs := rfl
  have wf : (s.put (studVolt d) (satU 14 (roundDiv mv 5))).regsWf = true := State.regsWf_put _ _ _ hs
  refine ⟨wf, rfl, ?_, fun g other => ?_⟩
  · rw [State.get_of_regs regs, State.get_put_of_lt fits (by rw [width]; exact satU_lt _ _) hs]
  · rw [State.get_of_regs regs, fieldsKept_put fits hs _ g other]

theorem supplyFalls {d : Bool} {mv : Nat} (low : mv < 6000) {b : State} (hs : b.regsWf = true) (was : b.flag (studLow d) = false) :
    SupplyFalls d mv b (studVoltage d mv b) := by
  obtain ⟨-, lowFits, apart, other, -, width, -, addr⟩ := studFields d d
  obtain ⟨-, -, apart', otherV, -, -, addrV', addr'⟩ := studFields (!d) d
  obtain ⟨-, -, apartO, otherO, -, -, -, -⟩ := studFields d (!d)
  obtain ⟨voltOther, lowOther⟩ := studVolt_other d
  obtain ⟨wf, only, volt, kept⟩ := voltShown_result d mv hs
  have flag0 : (voltShown d mv b).flag (studLow d) = false := by
    rw [State.flag, kept.apart apart]
    exact was
  have lowKept : (voltShown d mv b).get (studLow !d) = b.get (studLow !d) := kept.apart apartO
  have voltKept : (voltShown d mv b).get (studVolt !d) = b.get (studVolt !d) := kept.apart voltOther
  have load : (voltShown d mv b).load = b.load := by rw [only]
  rw [studVoltage_eq, if_pos low, flag0]
  generalize voltShown d mv b = t at wf volt lowKept voltKept load
  have wf1 := State.regsWf_put t (studLow d) 1 wf
  have told : Within ⟨fun _ => false, [.log]⟩ (t.put (studLow d) 1) (raise0 Src.LSW_SUPPLY_LOW (t.put (studLow d) 1)) := raise0_within .refl
  have flagged : Flagged Src.LSW_SUPPLY_LOW (raise0 Src.LSW_SUPPLY_LOW (t.put (studLow d) 1)) := flagged_raiseArg (by decide) wf1
  have loadTold : (raise0 Src.LSW_SUPPLY_LOW (t.put (studLow d) 1)).load = t.load := told.part .load (by decide)
  have calm : (⟨fun _ => false, [.log]⟩ : Footprint).touches Reg.LSW_SUPPLY = false := by decide
  refine ⟨?_, ?_, ?_, ?_, loadTold.trans load, flagged⟩
  · rw [if_neg (by simp), told.flag (by rw [addr]; exact calm), State.flag, State.get_put_of_lt lowFits (by rw [width]; decide) wf]
    rfl
  · rw [if_neg (by simp), told.get (by rw [(studFields d d).2.2.2.2.2.2.1]; exact calm), State.get_put_of_apart other wf, volt]
  · rw [if_neg (by simp), told.get (by rw [addr']; exact calm), State.get_put_of_apart lowOther wf, lowKept]
  · rw [if_neg (by simp), told.get (by rw [addrV']; exact calm), State.get_put_of_apart otherO wf, voltKept]

theorem supplyStaysLow {d : Bool} {mv : Nat} (low : mv < 6000) {b : State} (hs : b.regsWf = true) (was : b.flag (studLow d) = true) :
    SupplyStaysLow d mv b (studVoltage d mv b) := by
  obtain ⟨-, -, apart, -, -, -, -, -⟩ := studFields d d
  obtain ⟨-, only, volt, kept⟩ := voltShown_result d mv hs
  have flag0 : (voltShown d mv b).flag (studLow d) = true := by
    rw [State.flag, kept.apart apart]
    exact was
  have same : studVoltage d mv b = voltShown d mv b := by rw [studVoltage_eq, if_pos low, flag0, if_pos rfl]
  rw [same]
  exact ⟨only, volt, kept⟩

/-- Channels that are judged anew, over a list of them. -/
theorem judgeAnew_fold {b : State} : ∀ {l : List Nat} {s : State}, l.Nodup → (∀ c ∈ l, c < s.load.channels.length) →
    (foldOver (fun u c => judgeAnew b c u) s l = { s with load := (foldOver (fun u c => judgeAnew b c u) s l).load }) ∧
      (foldOver (fun u c => judgeAnew b c u) s l).load = { s.load with channels := (foldOver (fun u c => judgeAnew b c u) s l).load.channels } ∧
      ∀ c, chan (foldOver (fun u c => judgeAnew b c u) s l) c =
        if c ∈ l ∧ openLoadJudged s c = true ∧ openLoadJudged b c = false then { chan s c with judgedFrom := s.now } else chan s c
  | [], s, _, _ => ⟨rfl, rfl, fun c => by simp [foldOver]⟩
  | k :: l, s, nodup, sizes => by
    obtain ⟨fresh, nodup'⟩ := List.nodup_cons.mp nodup
    have size : k < s.load.channels.length := sizes k List.mem_cons_self
    have only : ∃ ch, judgeAnew b k s = { s with load := { s.load with channels := ch } } ∧ ch.length = s.load.channels.length := by
      unfold judgeAnew
      split
      · exact ⟨_, rfl, setNth_length _ _ _⟩
      · exact ⟨s.load.channels, rfl, rfl⟩
    have own : ∀ c, chan (judgeAnew b k s) c =
        if c = k ∧ openLoadJudged s k = true ∧ openLoadJudged b k = false then { chan s c with judgedFrom := s.now } else chan s c := fun c => by
      unfold judgeAnew
      by_cases judged : openLoadJudged s k = true ∧ openLoadJudged b k = false
      · rw [if_pos (by simp [judged])]
        by_cases here : c = k
        · rw [here, chan_modChan _ size, if_pos ⟨rfl, judged⟩]
        · rw [chan_modChan_ne here, if_neg (fun h => here h.1)]
      · rw [if_neg (by simpa using judged), if_neg (fun h => judged h.2)]
    obtain ⟨ch, next_, sameSize⟩ := only
    have judge : ∀ c, openLoadJudged (judgeAnew b k s) c = openLoadJudged s c := fun c => by rw [next_]; rfl
    have sizes' : ∀ c ∈ l, c < (judgeAnew b k s).load.channels.length := fun c hc => by
      rw [next_]
      exact sameSize ▸ sizes c (List.mem_cons_of_mem _ hc)
    obtain ⟨rest, load, later⟩ := judgeAnew_fold nodup' sizes'
    rw [foldOver_cons]
    generalize foldOver (fun u c => judgeAnew b c u) (judgeAnew b k s) l = u at rest load later
    have now_ : (judgeAnew b k s).now = s.now := by rw [next_]
    refine ⟨by rw [rest, next_], by rw [load, next_], fun c => ?_⟩
    rw [later, judge, own, now_]
    by_cases here : c = k
    · subst here
      simp [fresh]
    · simp [here]

theorem supplyHolds {d : Bool} {mv : Nat} (high : 6000 ≤ mv) {b : State} (sound : b.sound = true) : SupplyHolds d mv b (studVoltage d mv b) := by
  have hs := regsWf_of_sound sound
  obtain ⟨-, lowFits, apart, other, -, width, -, -⟩ := studFields d d
  obtain ⟨wf, only, volt, kept⟩ := voltShown_result d mv hs
  have load : (voltShown d mv b).load = b.load := by rw [only]
  have judge : ∀ c, openLoadJudged (voltShown d mv b) c = openLoadJudged b c := fun c => by
    have limp : (voltShown d mv b).flag F.LSW_LIMP_LIMP = b.flag F.LSW_LIMP_LIMP := by
      rw [State.flag, State.flag, kept _ (by cases d <;> decide)]
    have low : ∀ e, (voltShown d mv b).flag (studLow e) = b.flag (studLow e) := fun e => by
      rw [State.flag, State.flag, kept.apart (studFields d e).2.2.1]
    have lowA : (voltShown d mv b).flag F.LSW_SUPPLY_SUPPLY_LOW_A = b.flag F.LSW_SUPPLY_SUPPLY_LOW_A := low false
    have lowB : (voltShown d mv b).flag F.LSW_SUPPLY_SUPPLY_LOW_B = b.flag F.LSW_SUPPLY_SUPPLY_LOW_B := low true
    have channel : ∀ f : Fld, 0x30100 ≤ f.addr → (voltShown d mv b).get f = b.get f := fun f lo => kept f fun v hv => .inl (by
      rw [List.mem_singleton.mp hv, (studFields d d).2.2.2.2.2.2.1]
      simp only [Reg.LSW_SUPPLY]
      omega)
    have sided : channelSided (voltShown d mv b) c = channelSided b c := by rw [only]; rfl
    unfold openLoadJudged inLimp
    rw [limp, sided, State.flag, channel _ (by simp only [F.LSW_CH_CFG_OL_EN, Reg.LSW_CH_CFG]; omega), ← State.flag,
      channel _ (by simp only [F.LSW_CH_CMD_STATE, Reg.LSW_CH_CMD]; omega), channel _ (by simp only [F.LSW_CH_STAT_CSTATE, Reg.LSW_CH_STAT]; omega),
      lowA, lowB]
  rw [studVoltage_eq, if_neg (by omega)]
  generalize voltShown d mv b = t at wf only volt kept load judge
  have low0 : (t.put (studLow d) 0).get (studLow d) = 0 := State.get_put_of_lt lowFits (by rw [width]; decide) wf
  have volt0 : (t.put (studLow d) 0).get (studVolt d) = satU 14 (roundDiv mv 5) := by rw [State.get_put_of_apart other wf, volt]
  have kept0 : FieldsKept [studVolt d, studLow d] b (t.put (studLow d) 0) := fun g others => by
    rw [fieldsKept_put lowFits wf _ g fun f hf => others f (List.mem_cons_of_mem _ hf),
      kept g fun f hf => others f (List.mem_cons.mpr (.inl (List.mem_singleton.mp hf)))]
  have only0 : t.put (studLow d) 0 = { b with regs := (t.put (studLow d) 0).regs, ev := (gather (if d then 5 else 4) mv b).ev } := by rw [only]; rfl
  have chan0 : ∀ c, chan (t.put (studLow d) 0) c = chan b c := chan_of_load load
  generalize t.put (studLow d) 0 = v at low0 volt0 kept0 only0 chan0
  have loadV : v.load = b.load := by rw [only0]
  have nowV : v.now = b.now := by rw [only0]
  obtain ⟨rest, loadU, own⟩ := judgeAnew_fold (b := t) (s := v) (upFrom_nodup 32 0) fun c hc => by
    rw [loadV, channels_length_of_sound sound]
    simpa using hc
  generalize foldOver (fun u c => judgeAnew t c u) v (upFrom 0 32) = u at rest loadU own
  have regs : u.regs = v.regs := by rw [rest]
  have judgeU : ∀ c, openLoadJudged u c = openLoadJudged v c := fun c => by rw [rest]; rfl
  refine ⟨by rw [rest, only0], ?_, (State.get_of_regs regs _).trans volt0, fun g others => (State.get_of_regs regs _).trans (kept0 g others),
    by rw [loadU, loadV], fun c hc => ?_⟩
  · rw [State.flag, State.get_of_regs regs, low0]
    rfl
  · rw [own, chan0, judge, judgeU, nowV]
    simp [hc]

/-! ### The measurement of every channel -/

/-- What a measurement gives for a channel: what it brings, or the value that stands. -/
def measuredValue (l : List (Int × Int)) (s : State) (c : Nat) : Int × Int := nth l c (s.gets (F.LSW_CH_CURR_CURR c), s.gets (F.LSW_CH_TJ_TJ c))

/-- The measurement of one channel. -/
def measureOne (l : List (Int × Int)) (s : State) (c : Nat) : State :=
  gather (12 + c) (measuredValue l s c).1.natAbs (gather (junctionHist c) (measuredValue l s c).2
    ((s.puts (F.LSW_CH_CURR_CURR c) (measuredValue l s c).1).puts (F.LSW_CH_TJ_TJ c) (measuredValue l s c).2))

theorem measureAll_eq (l : List (Int × Int)) (s : State) : measureAll l s =
    logStuds (studSum false (foldOver (measureOne l) s (upFrom 0 32))) (studSum true (foldOver (measureOne l) s (upFrom 0 32)))
      (foldOver (measureOne l) s (upFrom 0 32)) := rfl

/-- The fields that a measurement of channels writes. -/
def measuredFields (l : List Nat) : List Fld := l.flatMap fun c => [F.LSW_CH_CURR_CURR c, F.LSW_CH_TJ_TJ c]

theorem measureOne_result (l : List (Int × Int)) (c : Nat) {s : State} (hs : s.regsWf = true) : (measureOne l s c).regsWf = true ∧
    measureOne l s c = { s with regs := (measureOne l s c).regs, ev := { s.ev with second := (measureOne l s c).ev.second } } ∧
      Measured c (measuredValue l s c).1 (measuredValue l s c).2 (measureOne l s c) ∧ FieldsKept (measuredFields [c]) s (measureOne l s c) := by
  have currFits : (F.LSW_CH_CURR_CURR c).fits = true := rfl
  have tjFits : (F.LSW_CH_TJ_TJ c).fits = true := rfl
  have wf : (s.puts (F.LSW_CH_CURR_CURR c) (measuredValue l s c).1).regsWf = true := State.regsWf_put _ _ _ hs
  have wf' : ((s.puts (F.LSW_CH_CURR_CURR c) (measuredValue l s c).1).puts (F.LSW_CH_TJ_TJ c) (measuredValue l s c).2).regsWf = true :=
    State.regsWf_put _ _ _ wf
  have regs : (measureOne l s c).regs =
    ((s.puts (F.LSW_CH_CURR_CURR c) (measuredValue l s c).1).puts (F.LSW_CH_TJ_TJ c) (measuredValue l s c).2).regs := rfl
  refine ⟨wf', rfl, measures_both_gets hs rfl (State.get_of_regs regs _) (State.get_of_regs regs _), fun g other => ?_⟩
  rw [State.get_of_regs regs, State.puts, fieldsKept_put tjFits wf _ g (fun f hf => other f (by simp [measuredFields, List.mem_singleton.mp hf])),
    State.puts, fieldsKept_put currFits hs _ g (fun f hf => other f (by simp [measuredFields, List.mem_singleton.mp hf]))]

/-- A channel's measurement leaves the values of another. -/
theorem measured_apart {c k : Nat} (other : k ≠ c) : ∀ f ∈ measuredFields [c], f.addr ≠ (F.LSW_CH_CURR_CURR k).addr ∧ f.addr ≠ (F.LSW_CH_TJ_TJ k).addr := by
  intro f hf
  simp only [measuredFields, List.flatMap_cons, List.flatMap_nil, List.append_nil, List.mem_cons, List.not_mem_nil, or_false] at hf
  obtain rfl | rfl := hf <;>
    simp only [F.LSW_CH_CURR_CURR, F.LSW_CH_TJ_TJ, Reg.LSW_CH_CURR, Reg.LSW_CH_TJ] <;> omega

theorem measureOne_fold (v : List (Int × Int)) : ∀ {l : List Nat} {s : State}, l.Nodup → s.regsWf = true →
    (foldOver (measureOne v) s l).regsWf = true ∧ foldOver (measureOne v) s l =
      { s with regs := (foldOver (measureOne v) s l).regs, ev := { s.ev with second := (foldOver (measureOne v) s l).ev.second } } ∧
      FieldsKept (measuredFields l) s (foldOver (measureOne v) s l) ∧
      ∀ c ∈ l, Measured c (measuredValue v s c).1 (measuredValue v s c).2 (foldOver (measureOne v) s l)
  | [], s, _, hs => ⟨hs, rfl, fun _ _ => rfl, fun c hc => by simp at hc⟩
  | k :: l, s, nodup, hs => by
    obtain ⟨fresh, nodup'⟩ := List.nodup_cons.mp nodup
    obtain ⟨wf, only, own, kept⟩ := measureOne_result v k hs
    obtain ⟨wfU, onlyU, keptU, ownU⟩ := measureOne_fold v nodup' wf
    rw [foldOver_cons]
    generalize measureOne v s k = t at wf only own kept wfU onlyU keptU ownU
    generalize foldOver (measureOne v) t l = u at wfU onlyU keptU ownU
    have first_ : ∀ f ∈ measuredFields [k], f ∈ measuredFields (k :: l) := fun f hf => by
      simp only [measuredFields, List.flatMap_cons, List.flatMap_nil, List.append_nil] at hf ⊢
      exact List.mem_append_left _ hf
    have later : ∀ f ∈ measuredFields l, f ∈ measuredFields (k :: l) := fun f hf => by
      simp only [measuredFields, List.flatMap_cons] at hf ⊢
      exact List.mem_append_right _ hf
    have value : ∀ c ∈ l, measuredValue v t c = measuredValue v s c := fun c hc => by
      have other : c ≠ k := fun e => fresh (e ▸ hc)
      have apart := measured_apart other
      unfold measuredValue State.gets
      rw [kept (F.LSW_CH_CURR_CURR c) fun f hf => .inl (apart f hf).1, kept (F.LSW_CH_TJ_TJ c) fun f hf => .inl (apart f hf).2]
    have stays : ∀ g : Fld, (∀ f ∈ measuredFields l, f.addr ≠ g.addr) → u.get g = t.get g := fun g other => keptU g fun f hf => .inl (other f hf)
    have aside : ∀ f ∈ measuredFields l, f.addr ≠ (F.LSW_CH_CURR_CURR k).addr ∧ f.addr ≠ (F.LSW_CH_TJ_TJ k).addr := fun f hf => by
      obtain ⟨c, hc, hf⟩ := List.mem_flatMap.mp hf
      exact measured_apart (fun e : k = c => fresh (by rw [e]; exact hc)) f (by simpa [measuredFields] using hf)
    refine ⟨wfU, by rw [onlyU, only], fun g other => ?_, fun c hc => ?_⟩
    · exact (keptU g fun f hf => other f (later f hf)).trans (kept g fun f hf => other f (first_ f hf))
    · obtain rfl | mem := List.mem_cons.mp hc
      · obtain ⟨curr, temp⟩ := own
        exact ⟨by rw [State.gets, stays _ fun f hf => (aside f hf).1]; exact curr, by rw [State.gets, stays _ fun f hf => (aside f hf).2]; exact temp⟩
      · rw [← value c mem]
        exact ownU c mem

theorem logStuds_result (x y : Int) (s : State) : logStuds x y s = { s with load := (logStuds x y s).load } ∧
    (logStuds x y s).load = { s.load with studLog := s.load.studLog.filter (fun e => decide (s.now < e.1 + sec)) ++ [(s.now, x, y)] } := ⟨rfl, rfl⟩

theorem studSum_of_regs {s t : State} (h : t.regs = s.regs) (d : Bool) : studSum d t = studSum d s := by
  simp only [studSum, State.gets, State.get_of_regs h]

theorem measureAll_result (v : List (Int × Int)) {b : State} (hs : b.regsWf = true) (u : State) (hu : u = measureAll v b) :
    u = { b with regs := u.regs, load := u.load, ev := { b.ev with second := u.ev.second } } ∧
      u.load = { b.load with
        studLog := b.load.studLog.filter (fun e => decide (b.now < e.1 + sec)) ++ [(b.now, studSum false u, studSum true u)] } ∧
      FieldsKept ((upFrom 0 32).flatMap (fun c => [F.LSW_CH_CURR_CURR c, F.LSW_CH_TJ_TJ c])) b u ∧
      ∀ c, c < 32 → Measured c (nth v c (b.gets (F.LSW_CH_CURR_CURR c), b.gets (F.LSW_CH_TJ_TJ c))).1
        (nth v c (b.gets (F.LSW_CH_CURR_CURR c), b.gets (F.LSW_CH_TJ_TJ c))).2 u := by
  obtain ⟨-, only, kept, own⟩ := measureOne_fold v (upFrom_nodup 32 0) hs
  rw [measureAll_eq] at hu
  generalize foldOver (measureOne v) b (upFrom 0 32) = t at only kept own hu
  obtain ⟨logged, load⟩ := logStuds_result (studSum false t) (studSum true t) t
  rw [← hu] at logged load
  have regs : u.regs = t.regs := by rw [logged]
  have sums := studSum_of_regs regs
  refine ⟨?_, ?_, fun g other => (State.get_of_regs regs _).trans (kept g other), fun c hc => ?_⟩
  · rw [logged, only]
  · have loadT : t.load = b.load := by rw [only]
    have nowT : t.now = b.now := by rw [only]
    rw [load, sums, sums, loadT, nowT]
  · obtain ⟨curr, temp⟩ := own c (by simpa using hc)
    exact ⟨by rw [State.gets, State.get_of_regs regs]; exact curr, by rw [State.gets, State.get_of_regs regs]; exact temp⟩

/-! ### Limp mode, channel by channel -/

/-- A step on one channel in limp mode: nothing is retired, and the rest of the load part stays. -/
structure LimpStep (c : Nat) (s u : State) : Prop where
  channel : OnChannel c s u
  lists : u.ev.retired = s.ev.retired ∧ u.ev.retiredHere = s.ev.retiredHere
  rest : loadRest u = loadRest s

section
variable {c : Nat} {b s t : State}

theorem LimpStep.refl : LimpStep c b b := ⟨.refl, ⟨rfl, rfl⟩, rfl⟩

theorem LimpStep.trans (h : LimpStep c b s) (k : LimpStep c s t) : LimpStep c b t :=
  ⟨h.channel.trans k.channel, ⟨k.lists.1.trans h.lists.1, k.lists.2.trans h.lists.2⟩, k.rest.trans h.rest⟩

theorem LimpStep.mod (h : LimpStep c b s) (f : ChannelPart → ChannelPart) : LimpStep c b (modChan c f s) :=
  h.trans ⟨.mod .refl f, ⟨rfl, rfl⟩, rfl⟩

theorem LimpStep.stat (h : LimpStep c b s) {lo w v : Nat} : LimpStep c b (s.put ⟨Reg.LSW_CH_STAT c, lo, w⟩ v) :=
  h.trans ⟨.stat .refl, ⟨rfl, rfl⟩, rfl⟩

theorem LimpStep.count (h : LimpStep c b s) {lo w v : Nat} : LimpStep c b (s.put ⟨Reg.LSW_CH_CNT c, lo, w⟩ v) :=
  h.trans ⟨.put .refl (by simp only [Reg.LSW_CH_CNT]; omega) (by simp only [Reg.LSW_CH_CNT]; omega), ⟨rfl, rfl⟩, rfl⟩

theorem LimpStep.fault (h : LimpStep c b s) {type cls source detail a0 a1 a2 : Nat} : LimpStep c b (fault type cls source detail a0 a1 a2 s) :=
  h.trans ⟨.fault .refl, by simp, loadRest_blind.fault _ _ _ _ _ _ _ _⟩

theorem LimpStep.ite {p : Prop} [Decidable p] (hs : LimpStep c b s) (ht : LimpStep c b t) : LimpStep c b (if p then s else t) := by
  split
  · exact hs
  · exact ht

theorem LimpStep.refreshSinks (h : LimpStep c b s) : LimpStep c b (refreshSinks s) := by
  have log : (Machine.refreshSinks s).ev = { s.ev with latch := (Machine.refreshSinks s).ev.latch } := (refreshSinks_blockFoot s).part .log (by decide)
  exact h.trans ⟨.refreshSinks .refl, ⟨by rw [log], by rw [log]⟩, loadRest_blind.refreshSinks s⟩

theorem LimpStep.sided (h : LimpStep c s t) (k : Nat) : channelSided t k = channelSided s k := isRetired_of_lists 1 k 0 h.lists

/-- A field of another row stands over a step on a channel. -/
theorem LimpStep.limp (h : LimpStep c s t) (hc : c < 32) : t.get F.LSW_LIMP_LIMP = s.get F.LSW_LIMP_LIMP ∧ t.get F.LSW_LIMP_LH_IN = s.get F.LSW_LIMP_LH_IN := by
  have free : (channelFoot c).touches Reg.LSW_LIMP = false := by
    have own : ¬ (0x30100 + 0x20 * c ≤ Reg.LSW_LIMP ∧ Reg.LSW_LIMP < 0x30120 + 0x20 * c) := by
      simp only [Reg.LSW_LIMP]
      omega
    refine touches_eq_false ?_ (by decide) (by decide)
    simp only [channelFoot, decide_eq_false own]
    decide
  exact ⟨h.channel.within_.get free, h.channel.within_.get free⟩

theorem limpStep_latchChannel {cause : Nat} (hs : s.regsWf = true) (limp : inLimp s = true) : LimpStep c s (latchChannel c cause s) := by
  have way : latchWay c cause (latchMarked c cause s) = latchLimp c (latchMarked c cause s) := by
    rw [latchWay, latchMarked_limp hs, limp, if_pos rfl]
  rw [latchChannel_eq, way]
  have marked : LimpStep c s (latchMarked c cause s) := LimpStep.count (LimpStep.stat (LimpStep.stat (.mod .refl _)))
  exact (LimpStep.stat (.mod marked _)).refreshSinks

theorem limpStep_startInrush : LimpStep c s (startInrush c s) := .ite .refl (LimpStep.stat (.mod .refl _))

theorem limpStep_switchOn (hs : s.regsWf = true) (limp : inLimp s = true) : LimpStep c s (switchOn false c s) := by
  unfold switchOn
  dsimp only
  rw [if_neg (by decide : ¬ (false = true))]
  exact .ite (limpStep_latchChannel hs limp) (.ite (.mod .refl _) (LimpStep.trans (.mod .refl _) limpStep_startInrush))

theorem limpStep_outputOff : LimpStep c s (outputOff c s) := LimpStep.stat (.mod .refl _)

theorem limpStep_limpFollow (hs : s.regsWf = true) (limp : inLimp s = true) : LimpStep c s (limpFollow s c) :=
  .ite (limpStep_switchOn hs limp) limpStep_outputOff

/-- A channel that limp mode switches on, its junction cool. -/
theorem switchOn_cool (size : c < s.load.channels.length) (hs : s.regsWf = true) (cool : s.gets (F.LSW_CH_TJ_TJ c) < 1750) :
    (chan (switchOn false c s) c).output = true ∧ (chan (switchOn false c s) c).limpWait = (chan s c).limpWait ∧
      ∀ g, (F.LSW_CH_STAT_INRUSH c).apart g = true → (switchOn false c s).get g = s.get g := by
  have own := chan_modChan (fun x => { x with output := true, period := 0, onCounts := 0 }) size
  have on_ : OnChannel c s (modChan c (fun x => { x with output := true, period := 0, onCounts := 0 }) s) := .mod .refl _
  have regs : (modChan c (fun x => { x with output := true, period := 0, onCounts := 0 }) s).regs = s.regs := rfl
  have run : switchOn false c s = if conducts s c then modChan c (fun x => { x with output := true, period := 0, onCounts := 0 }) s
      else startInrush c (modChan c (fun x => { x with output := true, period := 0, onCounts := 0 }) s) := by
    unfold switchOn
    dsimp only
    rw [if_neg (by omega), if_neg (by decide)]
  rw [run]
  generalize modChan c (fun x => { x with output := true, period := 0, onCounts := 0 }) s = v at own on_ regs
  split
  · exact ⟨by rw [own], by rw [own], fun g _ => State.get_of_regs regs g⟩
  · have started : startInrush c v = v ∨ startInrush c v = (modChan c (fun x => { x with inrushFrom := v.now }) v).put (F.LSW_CH_STAT_INRUSH c) 1 := by
      unfold startInrush
      split
      · exact .inl rfl
      · exact .inr rfl
    obtain same | begun := started
    · rw [same]
      exact ⟨by rw [own], by rw [own], fun g _ => State.get_of_regs regs g⟩
    · have ownV := chan_modChan (fun x => { x with inrushFrom := v.now }) (s := v) (by rw [on_.size]; exact size)
      have putChan : chan ((modChan c (fun x => { x with inrushFrom := v.now }) v).put (F.LSW_CH_STAT_INRUSH c) 1) c =
        chan (modChan c (fun x => { x with inrushFrom := v.now }) v) c := rfl
      rw [begun]
      refine ⟨by rw [putChan, ownV, own], by rw [putChan, ownV, own], fun g a => ?_⟩
      rw [State.get_put_of_apart a (by simpa using on_.within_.wf hs), get_modChan, State.get_of_regs regs]

theorem switchOn_hot {pwm : Bool} (hot : 1750 ≤ s.gets (F.LSW_CH_TJ_TJ c)) : switchOn pwm c s = latchChannel c 3 s := by
  unfold switchOn
  exact if_pos hot

/-- A latch leaves whether limp mode waits for the input of the channel. -/
theorem latchChannel_limpWait {cause : Nat} (size : c < s.load.channels.length) (hs : s.regsWf = true) (limp : inLimp s = true) :
    (chan (latchChannel c cause s) c).limpWait = (chan s c).limpWait := by
  have marks := latchMarked_channel c cause s
  have way : latchWay c cause (latchMarked c cause s) = latchLimp c (latchMarked c cause s) := by
    rw [latchWay, latchMarked_limp hs, limp, if_pos rfl]
  have wf := marks.within_.wf hs
  have own := (latchLimp_result (c := c) (s := latchMarked c cause s) (by rw [marks.size]; exact size) wf).2
  rw [latchChannel_eq, way, chan_of_load (refreshSinks_load_eq _), own, latchMarked_chan size]

/-- A channel that follows its input in limp mode (R463, R464). -/
theorem limpFollow_result (hc : c < 32) (size : c < s.load.channels.length) (hs : s.regsWf = true) (limp : inLimp s = true) :
    (limpFollow s c).get (F.LSW_CH_CMD_STATE c) = s.get (F.LSW_CH_CMD_STATE c) ∧
      (limpFollow s c).get (F.LSW_CH_STAT_WINDOW c) = s.get (F.LSW_CH_STAT_WINDOW c) ∧
      (s.get (F.LSW_CH_STAT_CSTATE c) = cLimp → (limpFollow s c).get (F.LSW_CH_STAT_CSTATE c) = cLimp) ∧
      (chan (limpFollow s c) c).limpWait = (chan s c).limpWait ∧
      (s.gets (F.LSW_CH_TJ_TJ c) < 1750 → (chan (limpFollow s c) c).output = limpOutput s c) ∧
      (1750 ≤ s.gets (F.LSW_CH_TJ_TJ c) → limpOutput s c = true → HasLatched c 3 s (limpFollow s c)) := by
  unfold limpFollow
  split
  next on_ =>
    obtain hot | cool := le_or_gt (1750 : Int) (s.gets (F.LSW_CH_TJ_TJ c))
    · rw [switchOn_hot hot]
      obtain ⟨-, latched, -⟩ := latchChannel_result (cause := 3) hc (by decide) size hs _ rfl
      have ⟨_, _, _, _, cmd, way⟩ := latched
      rw [limp, if_pos rfl] at way
      have window : (latchChannel c 3 s).get (F.LSW_CH_STAT_WINDOW c) = s.get (F.LSW_CH_STAT_WINDOW c) := by
        have marks := latchMarked_channel c 3 s
        have wayIs : latchWay c 3 (latchMarked c 3 s) = latchLimp c (latchMarked c 3 s) := by
          rw [latchWay, latchMarked_limp hs, limp, if_pos rfl]
        have wf := marks.within_.wf hs
        have limped : FieldStands (F.LSW_CH_STAT_WINDOW c) (latchMarked c 3 s) (latchLimp c (latchMarked c 3 s)) :=
          FieldStands.put (FieldStands.parts .refl) (apart_of_zero c (fun _ => rfl) (fun _ => rfl) (by decide))
        have markedStands : FieldStands (F.LSW_CH_STAT_WINDOW c) s (latchMarked c 3 s) := latchMarked_stands
          (apart_of_zero c (fun _ => rfl) (fun _ => rfl) (by decide)) (apart_of_zero c (fun _ => rfl) (fun _ => rfl) (by decide))
          (apart_of_zero c (fun _ => rfl) (fun _ => rfl) (by decide))
        rw [latchChannel_eq, wayIs, (refreshSinks_channels (limped wf).1).2.1 _ (chanField_of_strided hc (fun _ => rfl) (by decide) (by decide)),
          (limped wf).2, (markedStands hs).2]
      exact ⟨cmd, window, fun _ => way.1, latchChannel_limpWait size hs limp, fun cool => by omega, fun _ _ => latched⟩
    · obtain ⟨output, wait_, stands⟩ := switchOn_cool size hs cool
      exact ⟨stands _ (apart_of_zero c (fun _ => rfl) (fun _ => rfl) (by decide)), stands _ (apart_of_zero c (fun _ => rfl) (fun _ => rfl) (by decide)),
        fun state => (stands _ (apart_of_zero c (fun _ => rfl) (fun _ => rfl) (by decide))).trans state, wait_, fun _ => output.trans on_.symm,
        fun hot => by omega⟩
  next off =>
    have own : chan (outputOff c s) c = { chan s c with output := false, period := 0, onCounts := 0 } :=
      chan_modChan (fun x => { x with output := false, period := 0, onCounts := 0 }) size
    have stands : ∀ {g : Fld}, (F.LSW_CH_STAT_INRUSH c).apart g = true → (outputOff c s).get g = s.get g := fun inrush =>
      (((FieldStands.refl.parts : FieldStands _ s (modChan c (fun x => { x with output := false, period := 0, onCounts := 0 }) s)).put inrush) hs).2
    have no : limpOutput s c = false := by simpa using off
    exact ⟨stands (apart_of_zero c (fun _ => rfl) (fun _ => rfl) (by decide)), stands (apart_of_zero c (fun _ => rfl) (fun _ => rfl) (by decide)),
      fun state => (stands (apart_of_zero c (fun _ => rfl) (fun _ => rfl) (by decide))).trans state, by rw [own], fun _ => by rw [own, no],
      fun _ on_ => by simp [no] at on_⟩

end

/-! ### The channels, one after another -/

/-- A state in limp mode, with its channels. -/
structure LimpRuns (s : State) : Prop where
  wf : s.regsWf = true
  limp : inLimp s = true
  size : s.load.channels.length = 32

/-- What a channel's part in limp mode turns on is the same in both states. -/
structure ChannelAlike (c : Nat) (s t : State) : Prop where
  part : chan t c = chan s c
  row : ∀ i, i < 8 → t.reg (Reg.LSW_CH_CFG c + 4 * i) = s.reg (Reg.LSW_CH_CFG c + 4 * i)
  inputs : t.get F.LSW_LIMP_LH_IN = s.get F.LSW_LIMP_LH_IN
  sided : channelSided t c = channelSided s c
  rest : loadRest t = loadRest s

section
variable {c k : Nat} {b s t u : State}

theorem ChannelAlike.refl : ChannelAlike c s s := ⟨rfl, fun _ _ => rfl, rfl, rfl, rfl⟩

theorem ChannelAlike.trans (h : ChannelAlike c b s) (k : ChannelAlike c s t) : ChannelAlike c b t :=
  ⟨k.part.trans h.part, fun i hi => (k.row i hi).trans (h.row i hi), k.inputs.trans h.inputs, k.sided.trans h.sided, k.rest.trans h.rest⟩

theorem ChannelAlike.kept (h : ChannelAlike c s t) : channelKept c s t := ⟨h.part, h.row⟩

/-- A field of the channel's row is the same in two states that agree on the row. -/
theorem get_of_row {f : Nat → Fld} {i : Nat} (row : ∀ i, i < 8 → t.reg (Reg.LSW_CH_CFG c + 4 * i) = s.reg (Reg.LSW_CH_CFG c + 4 * i))
    (hf : Strided f) (hi : i < 8) (at_ : (f 0).addr = 0x30100 + 4 * i) : t.get (f c) = s.get (f c) := by
  have place : (f c).addr = Reg.LSW_CH_CFG c + 4 * i := by
    rw [hf c]
    simp only [Reg.LSW_CH_CFG]
    omega
  rw [State.get, State.get, place, row i hi]

theorem limpSrc_of_rest (h : loadRest t = loadRest s) (c : Nat) : limpSrc t c = limpSrc s c := by
  have map_ : t.load.latchedMap = s.load.latchedMap := (congrArg LoadPart.latchedMap h : _)
  rw [limpSrc, limpSrc, map_]

theorem ChannelAlike.output (h : ChannelAlike c s t) : limpOutput t c = limpOutput s c := by
  rw [limpOutput, limpOutput, h.sided, h.part, limpSrc_of_rest h.rest, State.bit, State.bit, h.inputs]

theorem ChannelAlike.junction (h : ChannelAlike c s t) : t.gets (F.LSW_CH_TJ_TJ c) = s.gets (F.LSW_CH_TJ_TJ c) := by
  rw [State.gets, State.gets, get_of_row (f := F.LSW_CH_TJ_TJ) (i := 6) h.row (fun _ => rfl) (by decide) rfl]

theorem LimpStep.runs (h : LimpStep c s t) (hc : c < 32) (hs : LimpRuns s) : LimpRuns t := by
  refine ⟨h.channel.within_.wf hs.wf, ?_, h.channel.size.trans hs.size⟩
  rw [inLimp, State.flag, (h.limp hc).1]
  exact hs.limp

theorem LimpStep.alike (h : LimpStep k s t) (hk : k < 32) (hc : c < 32) (other : c ≠ k) : ChannelAlike c s t :=
  ⟨h.channel.others c other, fun _ hi => h.channel.within_.reg _ (channelFoot_other hc other hi), (h.limp hk).2, h.sided c, h.rest⟩

/-- Steps on the channels of a list, one each: those of the other channels leave this one. -/
theorem foldOver_limp {f : State → Nat → State} (step : ∀ k, k < 32 → ∀ s, LimpRuns s → LimpStep k s (f s k)) (hc : c < 32) :
    ∀ {l : List Nat} {b : State}, l.Nodup → (∀ k ∈ l, k < 32) → LimpRuns b →
      (LimpRuns (foldOver f b l) ∧ (foldOver f b l).get F.LSW_LIMP_LH_IN = b.get F.LSW_LIMP_LH_IN) ∧
      (c ∉ l → ChannelAlike c b (foldOver f b l)) ∧
      (c ∈ l → ∃ s, LimpRuns s ∧ ChannelAlike c b s ∧ ChannelAlike c (f s c) (foldOver f b l))
  | [], _, _, _, runs => ⟨⟨runs, rfl⟩, fun _ => .refl, fun h => nomatch h⟩
  | k :: l, b, nodup, small, runs => by
    obtain ⟨fresh, nodup'⟩ := List.nodup_cons.mp nodup
    have hk := small k List.mem_cons_self
    have first := step k hk b runs
    obtain ⟨⟨runsT, inputs⟩, absent, present⟩ := foldOver_limp step hc nodup' (fun j hj => small j (List.mem_cons_of_mem _ hj)) (first.runs hk runs)
    rw [foldOver_cons]
    refine ⟨⟨runsT, inputs.trans (first.limp hk).2⟩, fun out => ?_, fun mem => ?_⟩
    · obtain ⟨other, out'⟩ := not_or.mp (List.mem_cons.not.mp out)
      exact (first.alike hk hc other).trans (absent out')
    · obtain rfl | mem' := List.mem_cons.mp mem
      · exact ⟨b, runs, .refl, absent fresh⟩
      · obtain ⟨s, runsS, before_, after_⟩ := present mem'
        exact ⟨s, runsS, (first.alike hk hc fun e => fresh (e ▸ mem')).trans before_, after_⟩

/-- A latch in limp mode, carried over to states that agree on what it says. -/
theorem hasLatched_carried {cause : Nat} (limpB : inLimp b = true) (limpS : inLimp s = true)
    (row : ∀ i, i < 8 → s.reg (Reg.LSW_CH_CFG c + 4 * i) = b.reg (Reg.LSW_CH_CFG c + 4 * i)) (retry : (chan s c).retryAt = (chan b c).retryAt)
    (after_ : ChannelAlike c t u) (latched : HasLatched c cause s t) : HasLatched c cause b u := by
  obtain ⟨off, inrush, mark, count, cmd, way⟩ := latched
  rw [limpS, if_pos rfl] at way
  obtain ⟨state, marked, due_⟩ := way
  have inrushU := get_of_row (f := F.LSW_CH_STAT_INRUSH) (i := 4) after_.row (fun _ => rfl) (by decide) rfl
  have markU := get_of_row (f := F.LSW_CH_STAT_CAUSE) (i := 4) after_.row (fun _ => rfl) (by decide) rfl
  have stateU := get_of_row (f := F.LSW_CH_STAT_CSTATE) (i := 4) after_.row (fun _ => rfl) (by decide) rfl
  have countU := get_of_row (f := F.LSW_CH_CNT_LATCHES) (i := 7) after_.row (fun _ => rfl) (by decide) rfl
  have cmdU := get_of_row (f := F.LSW_CH_CMD_STATE) (i := 3) after_.row (fun _ => rfl) (by decide) rfl
  have countB := get_of_row (f := F.LSW_CH_CNT_LATCHES) (i := 7) row (fun _ => rfl) (by decide) rfl
  have cmdB := get_of_row (f := F.LSW_CH_CMD_STATE) (i := 3) row (fun _ => rfl) (by decide) rfl
  rw [HasLatched, limpB, if_pos rfl, after_.part, State.flag, inrushU, markU, stateU, countU, cmdU, ← countB, ← cmdB, ← retry]
  exact ⟨off, inrush, mark, count, cmd, state, marked, due_⟩

/-- A retry that limp mode ends. -/
def retryEnded (c : Nat) (s : State) : State :=
  logUnclassified c 1 (modChan c (fun x => { x with retryAt := none }) (s.put (F.LSW_CH_STAT_WINDOW c) 0))

/-- What becomes of the retry of a channel that limp mode takes. -/
def retryTaken (c : Nat) (s : State) : State :=
  if s.get (F.LSW_CH_STAT_CSTATE c) = cLatched ∨ s.flag (F.LSW_CH_STAT_WINDOW c) = true then retryEnded c s else s

theorem limpTake_eq (s : State) (c : Nat) : limpTake s c =
    if channelSided s c then outputOff c s else limpFollow ((retryTaken c s).put (F.LSW_CH_STAT_CSTATE c) cLimp) c := rfl

theorem retryEnded_step : LimpStep c s (retryEnded c s) := LimpStep.fault (.mod (.stat .refl) _)

theorem retryTaken_stands {g : Fld} (hg : ChanField g) (window : (F.LSW_CH_STAT_WINDOW c).apart g = true) :
    FieldStands g s (retryTaken c s) := .ite (hg.fault_stands (.parts (.put .refl window))) .refl

/-- A retry ended by limp mode leaves the channel without a window, and what its output follows as it was. -/
theorem retryTaken_result (hc : c < 32) (runs : LimpRuns s) : LimpStep c s (retryTaken c s) ∧
    (retryTaken c s).get (F.LSW_CH_STAT_WINDOW c) = 0 ∧
    (retryTaken c s).get (F.LSW_CH_CMD_STATE c) = s.get (F.LSW_CH_CMD_STATE c) ∧
    (retryTaken c s).gets (F.LSW_CH_TJ_TJ c) = s.gets (F.LSW_CH_TJ_TJ c) ∧
    limpOutput (retryTaken c s) c = limpOutput s c := by
  have step : LimpStep c s (retryTaken c s) := .ite retryEnded_step .refl
  have same : limpOutput (retryTaken c s) c = limpOutput s c := by
    have part : (chan (retryTaken c s) c).limpLatched = (chan s c).limpLatched ∧ (chan (retryTaken c s) c).limpWait = (chan s c).limpWait := by
      unfold retryTaken
      split
      · have own : chan (retryEnded c s) c = { chan s c with retryAt := none } := by
          have load : (retryEnded c s).load = (modChan c (fun x => { x with retryAt := none }) s).load := by
            rw [retryEnded, logUnclassified, fault_load]
            rfl
          rw [chan_of_load load]
          exact chan_modChan _ (by rw [runs.size]; exact hc)
        rw [own]
        exact ⟨rfl, rfl⟩
      · exact ⟨rfl, rfl⟩
    rw [limpOutput, limpOutput, step.sided, part.1, part.2, limpSrc_of_rest step.rest, State.bit, State.bit, (step.limp hc).2]
  refine ⟨step, ?_, ?_, ?_, same⟩
  · unfold retryTaken
    split
    · have closed : (s.put (F.LSW_CH_STAT_WINDOW c) 0).get (F.LSW_CH_STAT_WINDOW c) = 0 :=
        State.get_put_of_lt rfl (show 0 < 2 ^ 1 by decide) runs.wf
      have field : ChanField (F.LSW_CH_STAT_WINDOW c) := chanField_of_strided hc (fun _ => rfl) (by decide) (by decide)
      exact ((field.fault_stands (.parts .refl)) (State.regsWf_put _ _ _ runs.wf)).2.trans closed
    next no => exact State.get_of_flag_false (Bool.eq_false_iff.mpr fun h => no (.inr h))
  · exact (retryTaken_stands (chanField_of_strided hc (fun _ => rfl) (by decide) (by decide)) (apart_of_zero c (fun _ => rfl) (fun _ => rfl) (by decide)) runs.wf).2
  · rw [State.gets, State.gets, (retryTaken_stands (g := F.LSW_CH_TJ_TJ c) (chanField_of_strided hc (fun _ => rfl) (by decide) (by decide))
      (apart_of_zero c (fun _ => rfl) (fun _ => rfl) (by decide)) runs.wf).2]

/-- What limp mode makes of a channel it takes (R461 to R464). -/
structure LimpTaken (c : Nat) (b u : State) : Prop where
  window : u.flag (F.LSW_CH_STAT_WINDOW c) = (channelSided b c && b.flag (F.LSW_CH_STAT_WINDOW c))
  cmd : u.get (F.LSW_CH_CMD_STATE c) = b.get (F.LSW_CH_CMD_STATE c)
  output : b.gets (F.LSW_CH_TJ_TJ c) < 1750 → (chan u c).output = limpOutput b c
  state : channelSided b c = false → u.get (F.LSW_CH_STAT_CSTATE c) = cLimp

theorem LimpTaken.alike (h : LimpTaken c s t) (before_ : ChannelAlike c b s) (after_ : ChannelAlike c t u) : LimpTaken c b u := by
  have get_ {f : Nat → Fld} {i : Nat} (hf : Strided f) (hi : i < 8) (at_ : (f 0).addr = 0x30100 + 4 * i) :
      u.get (f c) = t.get (f c) ∧ s.get (f c) = b.get (f c) := ⟨get_of_row after_.row hf hi at_, get_of_row before_.row hf hi at_⟩
  have window := get_ (f := F.LSW_CH_STAT_WINDOW) (i := 4) (fun _ => rfl) (by decide) rfl
  have cmd := get_ (f := F.LSW_CH_CMD_STATE) (i := 3) (fun _ => rfl) (by decide) rfl
  have state := get_ (f := F.LSW_CH_STAT_CSTATE) (i := 4) (fun _ => rfl) (by decide) rfl
  refine ⟨?_, cmd.1.trans (h.cmd.trans cmd.2), fun cool => ?_, fun free => state.1.trans (h.state (before_.sided.trans free))⟩
  · have shown := h.window
    rw [State.flag, State.flag, window.2, before_.sided] at shown
    rw [State.flag, State.flag, window.1]
    exact shown
  · rw [after_.part, h.output (by rw [before_.junction]; exact cool), before_.output]

theorem limpStep_limpTake (hc : c < 32) (runs : LimpRuns s) : LimpStep c s (limpTake s c) := by
  rw [limpTake_eq]
  split
  · exact limpStep_outputOff
  · have put_ := (retryTaken_result hc runs).1.stat (lo := 0) (w := 3) (v := cLimp)
    have runs' := put_.runs hc runs
    exact put_.trans (limpStep_limpFollow runs'.wf runs'.limp)

theorem limpTake_result (hc : c < 32) (runs : LimpRuns s) : LimpTaken c s (limpTake s c) := by
  rw [limpTake_eq]
  split
  next sided =>
    have own : chan (outputOff c s) c = { chan s c with output := false, period := 0, onCounts := 0 } :=
      chan_modChan (fun x => { x with output := false, period := 0, onCounts := 0 }) (by rw [runs.size]; exact hc)
    have stands : ∀ {g : Fld}, (F.LSW_CH_STAT_INRUSH c).apart g = true → (outputOff c s).get g = s.get g := fun inrush =>
      (((FieldStands.refl.parts : FieldStands _ s (modChan c (fun x => { x with output := false, period := 0, onCounts := 0 }) s)).put inrush) runs.wf).2
    refine ⟨?_, stands (apart_of_zero c (fun _ => rfl) (fun _ => rfl) (by decide)), fun _ => ?_, fun free => by rw [free] at sided; cases sided⟩
    · rw [sided, Bool.true_and, State.flag, State.flag, stands (apart_of_zero c (fun _ => rfl) (fun _ => rfl) (by decide))]
    · rw [own, limpOutput, sided]
      rfl
  next free =>
    obtain ⟨step, window, cmd, tj, output⟩ := retryTaken_result hc runs
    have runsT := step.runs hc runs
    generalize retryTaken c s = t at step window cmd tj output runsT
    have put_ : LimpStep c t (t.put (F.LSW_CH_STAT_CSTATE c) cLimp) := .stat .refl
    have runsP := put_.runs hc runsT
    have stands : ∀ {g : Fld}, (F.LSW_CH_STAT_CSTATE c).apart g = true → (t.put (F.LSW_CH_STAT_CSTATE c) cLimp).get g = t.get g := fun a =>
      State.get_put_of_apart a runsT.wf
    have shown : (t.put (F.LSW_CH_STAT_CSTATE c) cLimp).get (F.LSW_CH_STAT_CSTATE c) = cLimp :=
      State.get_put_of_lt rfl (show cLimp < 2 ^ 3 by decide) runsT.wf
    have outputP : limpOutput (t.put (F.LSW_CH_STAT_CSTATE c) cLimp) c = limpOutput t c := by
      have part : chan (t.put (F.LSW_CH_STAT_CSTATE c) cLimp) c = chan t c := rfl
      rw [limpOutput, limpOutput, put_.sided, part, limpSrc_of_rest put_.rest, State.bit, State.bit, (put_.limp hc).2]
    have tjP : (t.put (F.LSW_CH_STAT_CSTATE c) cLimp).gets (F.LSW_CH_TJ_TJ c) = t.gets (F.LSW_CH_TJ_TJ c) := by
      rw [State.gets, State.gets, stands (g := F.LSW_CH_TJ_TJ c) (apart_of_zero c (fun _ => rfl) (fun _ => rfl) (by decide))]
    obtain ⟨cmd', window', state', -, cool', -⟩ := limpFollow_result hc (by rw [runsP.size]; exact hc) runsP.wf runsP.limp
    refine ⟨?_, ?_, fun cool => ?_, fun _ => state' shown⟩
    · rw [State.flag, window', stands (apart_of_zero c (fun _ => rfl) (fun _ => rfl) (by decide)), window, Bool.eq_false_iff.mpr free]
      rfl
    · rw [cmd', stands (apart_of_zero c (fun _ => rfl) (fun _ => rfl) (by decide)), cmd]
    · rw [cool' (by rw [tjP, tj]; exact cool), outputP, output]

/-- A field that is not of a channel's row, written. -/
theorem channelAlike_put {f : Fld} {v : Nat} (hs : s.regsWf = true) (far : ∀ i, i < 8 → f.addr ≠ Reg.LSW_CH_CFG c + 4 * i)
    (inputs : f.apart F.LSW_LIMP_LH_IN = true) : ChannelAlike c s (s.put f v) :=
  ⟨rfl, fun i hi => State.reg_put_ne _ _ _ _ (far i hi).symm, State.get_put_of_apart inputs hs, rfl, rfl⟩

theorem limp_far (c : Nat) : ∀ i, i < 8 → Reg.LSW_LIMP ≠ Reg.LSW_CH_CFG c + 4 * i := fun i _ => by
  simp only [Reg.LSW_LIMP, Reg.LSW_CH_CFG]
  omega

/-- The record and the event of the entry of limp mode. -/
def limpTold (s : State) : State := raise0 Src.LSW_LIMP_ENTER (fault 0x08 4 Src.LSW_LIMP_ENTER (limpCauses s) 0 0 0 s)

theorem takeLimp_eq (s : State) : takeLimp s = refreshSinks (limpTold (foldOver limpTake s (upFrom 0 32))) := rfl

theorem limpTold_flagged (hs : s.regsWf = true) : (limpTold s).regsWf = true ∧ Flagged Src.LSW_LIMP_ENTER (limpTold s) := by
  have wf : (fault 0x08 4 Src.LSW_LIMP_ENTER (limpCauses s) 0 0 0 s).regsWf = true := by simp [hs]
  rw [limpTold, raise0]
  generalize fault 0x08 4 Src.LSW_LIMP_ENTER (limpCauses s) 0 0 0 s = t at wf
  exact ⟨by simp [wf], flagged_raiseArg (by decide) wf⟩

theorem limpTold_alike (hc : c < 32) : ChannelAlike c s (refreshSinks (limpTold s)) := by
  have told : Within ⟨fun _ => false, [.log]⟩ s (limpTold s) := raise0_within (fault_within .refl (by decide))
  have log : (refreshSinks (limpTold s)).ev = { (limpTold s).ev with latch := (refreshSinks (limpTold s)).ev.latch } :=
    (refreshSinks_blockFoot _).part .log (by decide)
  have lists : (limpTold s).ev.retired = s.ev.retired ∧ (limpTold s).ev.retiredHere = s.ev.retiredHere := by
    constructor <;> simp [limpTold, raise0]
  have load : (refreshSinks (limpTold s)).load = s.load := (refreshSinks_load_eq _).trans (told.part .load (by decide))
  refine ⟨chan_of_load load c, fun i hi => ?_, ((refreshSinks_blockFoot _).get (by decide)).trans (told.get (by decide)),
    isRetired_of_lists 1 c 0 ⟨by rw [log, lists.1], by rw [log, lists.2]⟩, by rw [loadRest, loadRest, load]⟩
  rw [(refreshSinks_blockFoot _).reg _ (blockFoot_channel (by simp only [Reg.LSW_CH_CFG]; omega) (by simp [raisePlaces, Reg.LSW_CH_CFG]; omega)),
    (eventFoot_channels told c hc).2 i hi]

/-- What becomes of the channels, and is raised, as limp mode begins (R460 to R464). -/
theorem takeLimp_result (runs : LimpRuns s) : Flagged Src.LSW_LIMP_ENTER (takeLimp s) ∧ ∀ c, c < 32 → LimpTaken c s (takeLimp s) := by
  have step : ∀ k, k < 32 → ∀ s, LimpRuns s → LimpStep k s (limpTake s k) := fun k hk s hs => limpStep_limpTake hk hs
  have small : ∀ k ∈ upFrom 0 32, k < 32 := fun k hk => by simpa using hk
  rw [takeLimp_eq]
  refine ⟨?_, fun c hc => ?_⟩
  · obtain ⟨⟨ended, -⟩, -, -⟩ := foldOver_limp (c := 0) step (by decide) (upFrom_nodup 32 0) small runs
    obtain ⟨wf, told⟩ := limpTold_flagged ended.wf
    exact (refreshSinks_channels wf).2.2.2.2.1 _ (by decide) told
  · obtain ⟨-, -, one⟩ := foldOver_limp step hc (upFrom_nodup 32 0) small runs
    obtain ⟨v, runsV, before_, after_⟩ := one (by simpa using hc)
    exact (limpTake_result hc runsV).alike before_ (after_.trans (limpTold_alike hc))

/-- A request for limp mode where none is in force and the limp map is latched (R460, R477). -/
theorem limpEnter_taken (k : LimpCause) (sound : s.regsWf = true) (size : s.load.channels.length = 32) (out : inLimp s = false)
    (latched : s.load.latchedMap.isSome = true) :
    Flagged Src.LSW_LIMP_ENTER (limpEnter k s) ∧ ∀ c, c < 32 → LimpTaken c s (limpEnter k s) := by
  have caused := limpCauses_put k sound
  have wf : (s.put (causeFld k) 1).regsWf = true := State.regsWf_put _ _ _ sound
  have alike : ∀ c, ChannelAlike c s (s.put (causeFld k) 1) := fun c => channelAlike_put sound (by cases k <;> exact limp_far c) (by cases k <;> decide)
  have stillOut : inLimp (s.put (causeFld k) 1) = false := by
    rw [inLimp, State.flag, State.get_put_of_apart (by cases k <;> decide) sound]
    exact out
  have map_ : (s.put (causeFld k) 1).load = s.load := rfl
  unfold limpEnter
  generalize s.put (causeFld k) 1 = v at caused wf alike stillOut map_
  have begins : limpBegin v = takeLimp (v.put F.LSW_LIMP_LIMP 1) := by
    rw [limpBegin_eq, if_neg]
    obtain ⟨m, some_⟩ := Option.isSome_iff_exists.mp latched
    simp [stillOut, map_, some_, caused]
  have runs : LimpRuns (v.put F.LSW_LIMP_LIMP 1) :=
    ⟨State.regsWf_put _ _ _ wf, State.flag_put_one (by decide) (by decide) wf, (congrArg (fun l : LoadPart => l.channels.length) map_).trans size⟩
  rw [begins]
  obtain ⟨told, taken⟩ := takeLimp_result runs
  exact ⟨told, fun c hc => (taken c hc).alike ((alike c).trans (channelAlike_put wf (limp_far c) (by decide))) .refl⟩

/-! ### The input LIMP_REQ -/

/-- The request for limp mode at the input, after what it wakes (R477, R799). -/
def limpAsked (s : State) : State :=
  let s := wakeUp 4 0 s
  if powered s then limpEnter .req s else s

theorem wakeUp_awake (on_ : powered s = true) : wakeUp 4 0 s = if s.pwr.sleepAt.isSome then
    State.put { s with pwr := { s.pwr with sleepAt := none } } F.PWR_WAKE_SLEEP_CANCELLED 1 else s := by
  have up : s.pwr.power = .up := by simpa [powered] using on_
  simp [wakeUp, wakesModule, up]

theorem wakeUp_limp (on_ : powered s = true) (hs : s.regsWf = true) : powered (wakeUp 4 0 s) = true ∧ (wakeUp 4 0 s).regsWf = true ∧
    (wakeUp 4 0 s).load = s.load ∧ inLimp (wakeUp 4 0 s) = inLimp s ∧ ∀ c, ChannelAlike c s (wakeUp 4 0 s) := by
  rw [wakeUp_awake on_]
  split
  · have wf : ({ s with pwr := { s.pwr with sleepAt := none } } : State).regsWf = true := hs
    have out : (State.put { s with pwr := { s.pwr with sleepAt := none } } F.PWR_WAKE_SLEEP_CANCELLED 1).get F.LSW_LIMP_LIMP = s.get F.LSW_LIMP_LIMP :=
      State.get_put_of_apart (by decide) wf
    refine ⟨on_, State.regsWf_put _ _ _ wf, rfl, by rw [inLimp, inLimp, State.flag, State.flag, out], fun c => ?_⟩
    refine .trans (s := { s with pwr := { s.pwr with sleepAt := none } }) ⟨rfl, fun _ _ => rfl, rfl, rfl, rfl⟩ (channelAlike_put wf ?_ (by decide))
    intro i _
    simp only [F.PWR_WAKE_SLEEP_CANCELLED, Reg.PWR_WAKE, Reg.LSW_CH_CFG]
    omega
  · exact ⟨on_, hs, rfl, rfl, fun _ => .refl⟩

theorem limpAsked_taken (sound : s.sound = true) (on_ : powered s = true) (out : inLimp s = false) (latched : s.load.latchedMap.isSome = true) :
    inLimp (limpAsked s) = true ∧ (limpAsked s).flag F.LSW_LIMP_REQ = true ∧ Flagged Src.LSW_LIMP_ENTER (limpAsked s) ∧
      ∀ c, c < 32 → LimpTaken c s (limpAsked s) := by
  obtain ⟨up, wf, load, limp, alike⟩ := wakeUp_limp on_ (regsWf_of_sound sound)
  have ran : limpAsked s = limpEnter .req (wakeUp 4 0 s) := if_pos up
  rw [ran]
  obtain ⟨told, taken⟩ := limpEnter_taken .req wf (by rw [load]; exact channels_length_of_sound sound) (limp.trans out) (by rw [load]; exact latched)
  exact ⟨limpEnter_inLimp .req wf (by rw [load]; exact latched), limpEnter_cause .req wf, told, fun c hc => (taken c hc).alike (alike c) .refl⟩

theorem limpAsked_idle (hs : s.regsWf = true) (on_ : powered s = true) (idle : inLimp s = true ∨ s.load.latchedMap = none) (awake : s.pwr.sleepAt = none) :
    limpAsked s = s.put F.LSW_LIMP_REQ 1 := by
  have wakes : wakeUp 4 0 s = s := by rw [wakeUp_awake on_, awake]; rfl
  have limp : inLimp (s.put F.LSW_LIMP_REQ 1) = inLimp s := by
    rw [inLimp, inLimp, State.flag, State.flag, State.get_put_of_apart (by decide) hs]
  have map_ : (s.put F.LSW_LIMP_REQ 1).load = s.load := rfl
  have same : limpBegin (s.put F.LSW_LIMP_REQ 1) = s.put F.LSW_LIMP_REQ 1 := by
    rw [limpBegin_eq, if_pos]
    rw [limp, map_]
    obtain inside | bare := idle
    · rw [inside, Bool.true_or, Bool.true_or]
    · rw [bare, Option.isNone_none, Bool.or_true, Bool.true_or]
  unfold limpAsked
  dsimp only
  rw [wakes, if_pos on_]
  exact same

theorem limpAsked_cancels (hs : s.regsWf = true) (on_ : powered s = true) (due_ : s.pwr.sleepAt.isSome = true) :
    (limpAsked s).pwr.sleepAt = none ∧ (limpAsked s).flag F.PWR_WAKE_SLEEP_CANCELLED = true ∧ (limpAsked s).flag F.LSW_LIMP_REQ = true := by
  have wakes := wakeUp_awake on_
  rw [if_pos due_] at wakes
  have wf : ({ s with pwr := { s.pwr with sleepAt := none } } : State).regsWf = true := hs
  have ran : limpAsked s = limpEnter .req (State.put { s with pwr := { s.pwr with sleepAt := none } } F.PWR_WAKE_SLEEP_CANCELLED 1) := by
    unfold limpAsked
    dsimp only
    rw [wakes]
    exact if_pos on_
  have cancelled : (State.put { s with pwr := { s.pwr with sleepAt := none } } F.PWR_WAKE_SLEEP_CANCELLED 1).flag F.PWR_WAKE_SLEEP_CANCELLED = true :=
    State.flag_put_one (by decide) (by decide) wf
  have pwr : (State.put { s with pwr := { s.pwr with sleepAt := none } } F.PWR_WAKE_SLEEP_CANCELLED 1).pwr.sleepAt = none := rfl
  have wf' : (State.put { s with pwr := { s.pwr with sleepAt := none } } F.PWR_WAKE_SLEEP_CANCELLED 1).regsWf = true := State.regsWf_put _ _ _ wf
  rw [ran]
  generalize State.put { s with pwr := { s.pwr with sleepAt := none } } F.PWR_WAKE_SLEEP_CANCELLED 1 = v at cancelled pwr wf'
  have entered : Within limpFoot v (limpEnter .req v) := limpEnter_within .refl .req
  exact ⟨(congrArg PowerPart.sleepAt (entered.part .pwr (by decide))).trans pwr, (entered.flag (by decide)).trans cancelled, limpEnter_cause .req wf'⟩

theorem limpAsked_wakes (hs : s.regsWf = true) (asleep : s.pwr.power = .asleep) :
    powered (limpAsked s) = true ∧ (limpAsked s).get F.PWR_WAKE_WAKE_SRC = 4 ∧ (limpAsked s).flag F.LSW_LIMP_REQ = true := by
  obtain ⟨up, source, -⟩ := wakeUp_result (src := 4) (ctrl := 0) rfl asleep hs (by decide) (by decide)
  have wf : (wakeUp 4 0 s).regsWf = true := by
    obtain ⟨wf', -⟩ := powerOn_result (src := 4) (ctrl := 0) (by decide) (by decide) hs
    have source_ : (if 4 = 2 then 0 else 0) = 0 := rfl
    have wakes : (!wakesModule 4 0 s) = false := rfl
    simp only [wakeUp, wakes, asleep, Bool.false_eq_true, if_false, beq_self_eq_true, if_true, source_]
    generalize powerOn 4 0 s = v at wf'
    split
    · exact wf'
    · exact wf'
  have on_ : powered (wakeUp 4 0 s) = true := by rw [powered, up]; rfl
  have ran : limpAsked s = limpEnter .req (wakeUp 4 0 s) := if_pos on_
  rw [ran]
  generalize wakeUp 4 0 s = v at up source wf
  have entered : Within limpFoot v (limpEnter .req v) := limpEnter_within .refl .req
  have power : (limpEnter .req v).pwr = v.pwr := entered.part .pwr (by decide)
  exact ⟨by rw [powered, power, up]; rfl, (entered.get (by decide)).trans source, limpEnter_cause .req wf⟩

theorem limpAsked_off (off : s.pwr.power = .off) : limpAsked s = s := by
  have wakes : wakeUp 4 0 s = s := by simp [wakeUp, wakesModule, off]
  unfold limpAsked
  dsimp only
  rw [wakes, if_neg (by simp [powered, off])]

/-! ### The inputs that limp mode follows -/

/-- The channel follows its input, which has changed. -/
def followAnew (s : State) (c : Nat) : State := limpFollow (modChan c (fun x => { x with limpWait := false }) s) c

/-- What a change of the inputs does to a channel. -/
def lhFollow (old levels : Nat) (s : State) (c : Nat) : State :=
  if limpSrc s c < 8 ∧ bitAt old (limpSrc s c) ≠ bitAt levels (limpSrc s c) ∧ channelSided s c = false then followAnew s c else s

theorem lhChange_eq (levels : Nat) (s : State) : lhChange levels s =
    if !inLimp (s.put F.LSW_LIMP_LH_IN levels) then s.put F.LSW_LIMP_LH_IN levels
    else foldOver (lhFollow (s.get F.LSW_LIMP_LH_IN) levels) (s.put F.LSW_LIMP_LH_IN levels) (upFrom 0 32) := rfl

theorem limpStep_followAnew (runs : LimpRuns s) : LimpStep c s (followAnew s c) :=
  .trans (.mod .refl _) (limpStep_limpFollow (s := modChan c (fun x => { x with limpWait := false }) s) runs.wf runs.limp)

theorem limpStep_lhFollow {old levels : Nat} (runs : LimpRuns s) : LimpStep c s (lhFollow old levels s c) :=
  .ite (limpStep_followAnew runs) .refl

/-- What a channel that follows its changed input does (R463, R464). -/
theorem followAnew_result (hc : c < 32) (runs : LimpRuns s) (source : limpSrc s c < 8) (free : channelSided s c = false) :
    (followAnew s c).get (F.LSW_CH_CMD_STATE c) = s.get (F.LSW_CH_CMD_STATE c) ∧ (chan (followAnew s c) c).limpWait = false ∧
      (s.gets (F.LSW_CH_TJ_TJ c) < 1750 →
        (chan (followAnew s c) c).output = (s.bit F.LSW_LIMP_LH_IN (limpSrc s c) && !(chan s c).limpLatched)) ∧
      (1750 ≤ s.gets (F.LSW_CH_TJ_TJ c) → s.bit F.LSW_LIMP_LH_IN (limpSrc s c) = true → (chan s c).limpLatched = false →
        HasLatched c 3 (modChan c (fun x => { x with limpWait := false }) s) (followAnew s c)) := by
  have size : c < s.load.channels.length := by rw [runs.size]; exact hc
  have step : LimpStep c s (modChan c (fun x => { x with limpWait := false }) s) := .mod .refl _
  have own := chan_modChan (fun x => { x with limpWait := false }) size
  have runsM := step.runs hc runs
  have output : limpOutput (modChan c (fun x => { x with limpWait := false }) s) c =
      (s.bit F.LSW_LIMP_LH_IN (limpSrc s c) && !(chan s c).limpLatched) := by
    have other : (limpSrc s c == 15) = false := by
      rw [beq_eq_false_iff_ne]
      omega
    rw [limpOutput, step.sided, free, limpSrc_of_rest step.rest, other, own, State.bit, (step.limp hc).2, ← State.bit]
    simp [Bool.and_comm]
  obtain ⟨cmd, -, -, wait_, cool, hot⟩ := limpFollow_result hc (by rw [runsM.size]; exact hc) runsM.wf runsM.limp
  refine ⟨cmd, wait_.trans (by rw [own]), fun h => (cool h).trans output, fun h on_ clear => hot h ?_⟩
  rw [output, on_, clear]
  rfl

/-- A change of the inputs in limp mode, at one channel. -/
theorem lhChange_result {levels : Nat} (small : levels < 2 ^ 8) (runs : LimpRuns b) (u : State) (hu : u = lhChange levels b) :
    u.get F.LSW_LIMP_LH_IN = levels ∧ ∀ c, c < 32 →
      if limpSrc b c < 8 ∧ bitAt (b.get F.LSW_LIMP_LH_IN) (limpSrc b c) ≠ bitAt levels (limpSrc b c) ∧ channelSided b c = false then
        u.get (F.LSW_CH_CMD_STATE c) = b.get (F.LSW_CH_CMD_STATE c) ∧ (chan u c).limpWait = false ∧
        (b.gets (F.LSW_CH_TJ_TJ c) < 1750 → (chan u c).output = (bitAt levels (limpSrc b c) && !(chan b c).limpLatched)) ∧
        (1750 ≤ b.gets (F.LSW_CH_TJ_TJ c) → bitAt levels (limpSrc b c) = true → (chan b c).limpLatched = false → HasLatched c 3 b u)
      else channelKept c b u := by
  have shown : (b.put F.LSW_LIMP_LH_IN levels).get F.LSW_LIMP_LH_IN = levels := State.get_put_of_lt (by decide) small runs.wf
  have limp : inLimp (b.put F.LSW_LIMP_LH_IN levels) = true := by
    rw [inLimp, State.flag, State.get_put_of_apart (by decide) runs.wf]
    exact runs.limp
  have runsP : LimpRuns (b.put F.LSW_LIMP_LH_IN levels) := ⟨State.regsWf_put _ _ _ runs.wf, limp, runs.size⟩
  have rowP : ∀ c i, i < 8 → (b.put F.LSW_LIMP_LH_IN levels).reg (Reg.LSW_CH_CFG c + 4 * i) = b.reg (Reg.LSW_CH_CFG c + 4 * i) :=
    fun c i hi => State.reg_put_ne _ _ _ _ (limp_far c i hi).symm
  have partP : ∀ c, chan (b.put F.LSW_LIMP_LH_IN levels) c = chan b c := fun _ => rfl
  have sidedP : ∀ c, channelSided (b.put F.LSW_LIMP_LH_IN levels) c = channelSided b c := fun _ => rfl
  have srcP : ∀ c, limpSrc (b.put F.LSW_LIMP_LH_IN levels) c = limpSrc b c := fun _ => rfl
  rw [lhChange_eq, limp, if_neg (by decide)] at hu
  generalize b.put F.LSW_LIMP_LH_IN levels = p at shown limp runsP rowP partP sidedP srcP hu
  generalize b.get F.LSW_LIMP_LH_IN = old at hu ⊢
  have small_ : ∀ k ∈ upFrom 0 32, k < 32 := fun k hk => by simpa using hk
  have fold : ∀ c, c < 32 → _ := fun c hc =>
    foldOver_limp (f := lhFollow old levels) (fun k _ s hs => limpStep_lhFollow (c := k) hs) hc (upFrom_nodup 32 0) small_ runsP
  rw [← hu] at fold
  have inputs : u.get F.LSW_LIMP_LH_IN = levels := by
    obtain ⟨⟨-, same⟩, -⟩ := fold 0 (by decide)
    exact same.trans shown
  refine ⟨inputs, fun c hc => ?_⟩
  obtain ⟨-, -, one⟩ := fold c hc
  obtain ⟨v, runsV, before_, after_⟩ := one (by simpa using hc)
  rw [lhFollow, limpSrc_of_rest before_.rest, before_.sided, srcP, sidedP] at after_
  split
  next follows =>
    rw [if_pos follows] at after_
    obtain ⟨source, -, free⟩ := follows
    have srcV : limpSrc v c = limpSrc b c := (limpSrc_of_rest before_.rest c).trans (srcP c)
    obtain ⟨cmd, wait_, cool, hot⟩ := followAnew_result hc runsV (srcV ▸ source) (before_.sided.trans ((sidedP c).trans free))
    have row : ∀ i, i < 8 → v.reg (Reg.LSW_CH_CFG c + 4 * i) = b.reg (Reg.LSW_CH_CFG c + 4 * i) := fun i hi => (before_.row i hi).trans (rowP c i hi)
    have tj : v.gets (F.LSW_CH_TJ_TJ c) = b.gets (F.LSW_CH_TJ_TJ c) := by
      rw [State.gets, State.gets, get_of_row (f := F.LSW_CH_TJ_TJ) (i := 6) row (fun _ => rfl) (by decide) rfl]
    have part : chan v c = chan b c := before_.part.trans (partP c)
    have bitV : v.bit F.LSW_LIMP_LH_IN (limpSrc b c) = bitAt levels (limpSrc b c) := by rw [State.bit, before_.inputs, shown]
    rw [tj, part, srcV, bitV] at cool hot
    refine ⟨?_, by rw [after_.part, wait_], fun h => by rw [after_.part, cool h], fun h on_ clear => ?_⟩
    · rw [get_of_row (f := F.LSW_CH_CMD_STATE) (i := 3) after_.row (fun _ => rfl) (by decide) rfl, cmd,
        get_of_row (f := F.LSW_CH_CMD_STATE) (i := 3) row (fun _ => rfl) (by decide) rfl]
    · have own := chan_modChan (fun x => { x with limpWait := false }) (s := v) (by rw [runsV.size]; exact hc)
      exact hasLatched_carried runs.limp (s := modChan c (fun x => { x with limpWait := false }) v) runsV.limp row
        ((congrArg ChannelPart.retryAt own).trans (by rw [part])) after_ (hot h on_ clear)
  next stays =>
    rw [if_neg stays] at after_
    have all := before_.trans after_
    exact ⟨all.part.trans (partP c), fun i hi => (all.row i hi).trans (rowP c i hi)⟩

/-- A channel with the counts of a period that begins. -/
def periodSet (p counts c : Nat) (s : State) : State :=
  modChan c (fun x => { x with period := p, onCounts := counts, periodAt := s.now }) s

theorem periodSet_chan (p counts : Nat) (size : c < s.load.channels.length) : chan (periodSet p counts c s) c =
    { chan s c with
        period := p
        periodAt := s.now
        onCounts := counts } := chan_modChan _ size

/-- A period of PWM begins (R448, R452). -/
theorem pwmPeriod_result (hc : c < 32) (sound : s.sound = true) (silent : s.out = []) (pwm : s.get (F.LSW_CH_STAT_CSTATE c) = cPwm)
    (runs : s.get (F.LSW_CH_PWM_FREQ c) ≠ 0) (p : Nat) (hp : p = (roundDiv 100000000 (s.get (F.LSW_CH_PWM_FREQ c))).toNat) (n : Nat)
    (hn : n = (roundDiv ((s.get (F.LSW_CH_CMD_DUTY c) * p : Nat) : Int) 65536).toNat) (u : State) (hu : u = pwmPeriod c s) :
    chan u c = { chan s c with
                   period := p
                   periodAt := s.now
                   onCounts := if n < 100 then 0 else if p - n < 100 then p else n } ∧
      u = { s with
              load := { s.load with channels := u.load.channels }
              out := [.pwm c p (chan u c).onCounts] } ∧
      ∀ k, k < 32 → k ≠ c → chan u k = chan s k := by
  have begun : startPeriod c s = periodSet p (if n < 100 then 0 else if p - n < 100 then p else n) c s := by
    rw [startPeriod, if_neg runs, hp, hn, hp]
    rfl
  generalize (if n < 100 then 0 else if p - n < 100 then p else n) = counts at begun ⊢
  have own := periodSet_chan p counts (c := c) (s := s) (by rw [channels_length_of_sound sound]; exact hc)
  have silentP : (periodSet p counts c s).out = [] := silent
  have onlyLoad : periodSet p counts c s = { s with load := { s.load with channels := (periodSet p counts c s).load.channels } } := rfl
  have others : ∀ k, k ≠ c → chan (periodSet p counts c s) k = chan s k := fun k other => chan_modChan_ne other _ _
  rw [pwmPeriod, if_pos ⟨pwm, runs⟩] at hu
  dsimp only at hu
  rw [begun, emit_of_silent silentP, own] at hu
  generalize periodSet p counts c s = t at own onlyLoad others hu
  have load : u.load = t.load := by rw [hu]
  have ownU := (chan_of_load load c).trans own
  refine ⟨ownU, ?_, fun k _ other => (chan_of_load load k).trans (others k other)⟩
  rw [ownU, load, hu, onlyLoad]

end

/-- Settles O44: means of the studs, measurement and SENSE_OUT on every path, limp mode channel by channel, and the periods of PWM. -/
theorem channelRows : Obligations.ChannelRows := by
  refine ⟨fun x y => ?_, fun d mv low => ?_, fun d mv low => ?_, fun d mv high => ?_, fun d mv => ?_, fun d mv low => ?_, fun d mv low => ?_,
    fun d mv high => ?_, fun d mv => ?_, fun l => ?_, fun l => ?_, fun sel => ?_, fun sel => ?_, fun sel en => ?_, ?_, ?_, ?_, ?_, ?_, ?_,
    fun levels => ?_, fun levels => ?_, fun c hc => ?_, fun c hc => ?_⟩
  case refine_1 =>
    refine does_of_run (fun s => if powered s then studMean x y s else s) (fun _ _ => rfl) fun b ⟨sound, on_⟩ => ?_
    rw [if_pos on_]
    exact studMean_result x y (regsWf_of_sound sound) _ rfl _ rfl
  case refine_2 =>
    refine does_of_run (fun s => if powered s then studVoltage d mv s else s) (fun _ _ => rfl) fun b ⟨sound, on_, was⟩ => ?_
    rw [if_pos on_]
    exact supplyFalls low (regsWf_of_sound sound) was
  case refine_3 =>
    refine does_of_run (fun s => if powered s then studVoltage d mv s else s) (fun _ _ => rfl) fun b ⟨sound, on_, was⟩ => ?_
    rw [if_pos on_]
    exact supplyStaysLow low (regsWf_of_sound sound) was
  case refine_4 =>
    refine does_of_run (fun s => if powered s then studVoltage d mv s else s) (fun _ _ => rfl) fun b ⟨sound, on_⟩ => ?_
    rw [if_pos on_]
    exact supplyHolds high sound
  case refine_5 =>
    exact does_of_run (fun s => if powered s then studVoltage d mv s else s) (fun _ _ => rfl) fun b off => if_neg (by simp [off])
  case refine_6 =>
    refine does_of_run (fun s => if powered s then studVoltage d mv s else s) (fun _ _ => rfl) fun b ⟨sound, on_, was⟩ => ?_
    rw [if_pos on_]
    exact supplyFalls low (regsWf_of_sound sound) was
  case refine_7 =>
    refine does_of_run (fun s => if powered s then studVoltage d mv s else s) (fun _ _ => rfl) fun b ⟨sound, on_, was⟩ => ?_
    rw [if_pos on_]
    exact supplyStaysLow low (regsWf_of_sound sound) was
  case refine_8 =>
    refine does_of_run (fun s => if powered s then studVoltage d mv s else s) (fun _ _ => rfl) fun b ⟨sound, on_⟩ => ?_
    rw [if_pos on_]
    exact supplyHolds high sound
  case refine_9 =>
    exact does_of_run (fun s => if powered s then studVoltage d mv s else s) (fun _ _ => rfl) fun b off => if_neg (by simp [off])
  case refine_10 =>
    refine does_of_run (fun s => if s.die.sigUp || (powered s && s.load.latchedMap.isNone) then measureAll l s else s) (fun _ _ => rfl)
      fun b ⟨sound, measures⟩ => ?_
    have due_ : (b.die.sigUp || (powered b && b.load.latchedMap.isNone)) = true := by
      obtain up | ⟨on_, fresh⟩ := measures
      · rw [up, Bool.true_or]
      · rw [on_, fresh]
        exact Bool.or_true _
    rw [if_pos due_]
    exact measureAll_result l (regsWf_of_sound sound) _ rfl
  case refine_11 =>
    refine does_of_run (fun s => if s.die.sigUp || (powered s && s.load.latchedMap.isNone) then measureAll l s else s) (fun _ _ => rfl)
      fun b ⟨down, rests⟩ => if_neg ?_
    rw [down]
    obtain off | latched := rests
    · simp [off]
    · simp [latched]
  case refine_12 =>
    refine does_from_silence (fun s => if powered s then senseSelect sel.toNat true s else s) (fun _ _ => rfl) fun b silent on_ => ?_
    rw [if_pos on_]
    exact emit_of_silent (b := { b with load := { b.load with sense := some sel.toNat } }) silent _
  case refine_13 =>
    refine does_from_silence (fun s => if powered s then senseSelect sel.toNat false s else s) (fun _ _ => rfl) fun b silent on_ => ?_
    rw [if_pos on_]
    exact emit_of_silent (b := { b with load := { b.load with sense := none } }) silent _
  case refine_14 =>
    exact does_of_run (fun s => if powered s then senseSelect sel.toNat en s else s) (fun _ _ => rfl) fun b off => if_neg (by simp [off])
  case refine_15 =>
    refine does_of_run limpAsked (fun _ _ => rfl) fun b ⟨sound, on_, out, latched⟩ => ?_
    obtain ⟨limp, asked, told, taken⟩ := limpAsked_taken sound on_ out latched
    exact ⟨limp, asked, told, fun c hc => ⟨(taken c hc).window, (taken c hc).cmd, (taken c hc).output, (taken c hc).state⟩⟩
  case refine_16 =>
    refine does_of_run limpAsked (fun _ _ => rfl) fun b ⟨sound, on_, idle, awake⟩ => ?_
    have hs := regsWf_of_sound sound
    rw [limpAsked_idle hs on_ idle awake]
    exact ⟨rfl, State.flag_put_one (by decide) (by decide) hs, fieldsKept_put (by decide) hs _⟩
  case refine_17 =>
    exact does_of_run limpAsked (fun _ _ => rfl) fun b ⟨sound, on_, due_⟩ => limpAsked_cancels (regsWf_of_sound sound) on_ due_
  case refine_18 =>
    exact does_of_run limpAsked (fun _ _ => rfl) fun b ⟨sound, asleep⟩ => limpAsked_wakes (regsWf_of_sound sound) asleep
  case refine_19 =>
    exact does_of_run limpAsked (fun _ _ => rfl) fun b off => limpAsked_off off
  case refine_20 =>
    refine does_of_run (fun s => s.put F.LSW_LIMP_REQ 0) (fun _ _ => rfl) fun b sound => ?_
    have hs := regsWf_of_sound sound
    refine ⟨rfl, ?_, fieldsKept_put (by decide) hs _⟩
    rw [State.flag, State.get_put_of_lt (by decide) (by decide) hs]
    rfl
  case refine_21 =>
    refine does_of_run (fun s => if powered s then lhChange levels.toNat s else s.put F.LSW_LIMP_LH_IN levels.toNat) (fun _ _ => rfl)
      fun b ⟨sound, out⟩ => ?_
    have hs := regsWf_of_sound sound
    have ran : (if powered b then lhChange levels.toNat b else b.put F.LSW_LIMP_LH_IN levels.toNat) = b.put F.LSW_LIMP_LH_IN levels.toNat := by
      obtain off | out := out
      · exact if_neg (by simp [off])
      · have limp : inLimp (b.put F.LSW_LIMP_LH_IN levels.toNat) = false := by
          rw [inLimp, State.flag, State.get_put_of_apart (by decide) hs]
          exact out
        rw [lhChange_eq, limp, Bool.not_false, if_pos rfl, ite_self]
    rw [ran]
    exact ⟨rfl, State.get_put_of_lt (by decide) levels.isLt hs, fieldsKept_put (by decide) hs _⟩
  case refine_22 =>
    refine does_of_run (fun s => if powered s then lhChange levels.toNat s else s.put F.LSW_LIMP_LH_IN levels.toNat) (fun _ _ => rfl)
      fun b ⟨sound, on_, limp⟩ => ?_
    rw [if_pos on_]
    exact lhChange_result levels.isLt ⟨regsWf_of_sound sound, limp, channels_length_of_sound sound⟩ _ rfl
  case refine_23 =>
    refine does_of_run (fun s => if c < 32 ∧ powered s = true then pwmPeriod c s else s) (fun _ _ => rfl) fun b idle => ?_
    obtain off | state | stops := idle
    · exact if_neg fun h => by simp [off] at h
    · have same : pwmPeriod c b = b := if_neg fun h => state h.1
      rw [same, ite_self]
    · have same : pwmPeriod c b = b := if_neg fun h => h.2 stops
      rw [same, ite_self]
  case refine_24 =>
    refine does_from_silence (fun s => if c < 32 ∧ powered s = true then pwmPeriod c s else s) (fun _ _ => rfl)
      fun b silent ⟨sound, on_, pwm, runs⟩ => ?_
    rw [if_pos ⟨hc, on_⟩]
    exact pwmPeriod_result hc sound silent pwm runs _ rfl _ rfl _ rfl

end Sys2Proof.Machine
end

section
/-!
SUPPORT. The receiver: channels and searches, the source of corrections and its frames, steps of device time, the pulse and antennas
(R488–R522).
-/

namespace Sys2Proof.Machine

/-! ### The channels of the receiver -/

/-- The three registers of a channel that measurements write. -/
def trackRegs (n : Nat) : List Nat := [Reg.GNS_CH_SIG n, Reg.GNS_CH_DOP n, Reg.GNS_CH_LOCK n]

theorem trackRegs_disjoint {k n : Nat} (other : k ≠ n) : ∀ a ∈ trackRegs k, a ∉ trackRegs n := by
  intro a ha hn
  simp only [trackRegs, Reg.GNS_CH_SIG, Reg.GNS_CH_DOP, Reg.GNS_CH_LOCK, List.mem_cons, List.not_mem_nil, or_false] at ha hn
  omega

theorem trackRegs_far {n a : Nat} (low : a < 0xC1000) : a ∉ trackRegs n := by
  simp only [trackRegs, Reg.GNS_CH_SIG, Reg.GNS_CH_DOP, Reg.GNS_CH_LOCK, List.mem_cons, List.not_mem_nil, or_false]
  omega

theorem trackKept_of_regs {n : Nat} {b u : State} (h : ∀ a ∈ trackRegs n, u.reg a = b.reg a) : trackKept n b u :=
  ⟨h _ (by simp [trackRegs]), h _ (by simp [trackRegs]), h _ (by simp [trackRegs])⟩

/-- A channel whose registers are written, and its NCO. -/
def tracked (n sig dop lock : Nat) (nco : Nco) (s : State) : State :=
  let s := (((s.setReg (Reg.GNS_CH_SIG n) sig).put (F.GNS_CH_DOP_DOPPLER n) dop).setReg (Reg.GNS_CH_LOCK n) lock)
  { s with nav := { s.nav with ncos := setNth s.nav.ncos n nco } }

section
variable {n sig dop lock : Nat} {nco : Nco} {b s t u : State}

/-- Channels whose measurements alone may have changed. -/
structure TracksOnly (l : List Nat) (b u : State) : Prop where
  wf : b.regsWf = true → u.regsWf = true
  only : u = { b with
    regs := u.regs
    nav := { b.nav with ncos := u.nav.ncos } }
  regs : ∀ a, (∀ n ∈ l, a ∉ trackRegs n) → u.reg a = b.reg a
  ncos : ∀ n, n ∉ l → nth u.nav.ncos n {} = nth b.nav.ncos n {}
  size : u.nav.ncos.length = b.nav.ncos.length

theorem TracksOnly.refl {l : List Nat} : TracksOnly l b b := ⟨id, rfl, fun _ _ => rfl, fun _ _ => rfl, rfl⟩

theorem TracksOnly.trans {l m : List Nat} (h : TracksOnly l b s) (k : TracksOnly m s t) : TracksOnly (l ++ m) b t where
  wf hb := k.wf (h.wf hb)
  only := by rw [k.only, h.only]
  regs a ha := (k.regs a fun n hn => ha n (List.mem_append_right _ hn)).trans (h.regs a fun n hn => ha n (List.mem_append_left _ hn))
  ncos n hn := (k.ncos n fun m => hn (List.mem_append_right _ m)).trans (h.ncos n fun m => hn (List.mem_append_left _ m))
  size := k.size.trans h.size

theorem TracksOnly.kept {l : List Nat} (h : TracksOnly l b u) (out : n ∉ l) : trackKept n b u ∧ nth u.nav.ncos n {} = nth b.nav.ncos n {} :=
  ⟨trackKept_of_regs fun a ha => h.regs a fun k hk => trackRegs_disjoint (fun e : n = k => out (e ▸ hk)) a ha, h.ncos n out⟩

theorem TracksOnly.get {l : List Nat} {g : Fld} (h : TracksOnly l b u) (low : g.addr < 0xC1000) : u.get g = b.get g := by
  rw [State.get, State.get, h.regs _ fun _ _ => trackRegs_far low]

/-- What a channel shows is the same where its registers are. -/
theorem trackGet_of_kept (h : trackKept n b u) : u.reg (Reg.GNS_CH_SIG n) = b.reg (Reg.GNS_CH_SIG n) ∧
    u.get (F.GNS_CH_DOP_DOPPLER n) = b.get (F.GNS_CH_DOP_DOPPLER n) ∧ u.get (F.GNS_CH_LOCK_LOCK_MS n) = b.get (F.GNS_CH_LOCK_LOCK_MS n) := by
  obtain ⟨sig, dop, lock⟩ := h
  exact ⟨sig, congrArg (bitsAt · 0 32) dop, congrArg (bitsAt · 0 32) lock⟩

theorem tracked_only : TracksOnly [n] s (tracked n sig dop lock nco s) where
  wf hs := State.regsWf_setReg _ _ _ (State.regsWf_put _ _ _ (State.regsWf_setReg _ _ _ hs))
  only := rfl
  regs a ha := by
    have out := ha n (by simp)
    simp only [trackRegs, List.mem_cons, List.not_mem_nil, or_false, not_or] at out
    obtain ⟨noSig, noDop, noLock⟩ := out
    have last : (tracked n sig dop lock nco s).reg a = (((s.setReg (Reg.GNS_CH_SIG n) sig).put (F.GNS_CH_DOP_DOPPLER n) dop).setReg (Reg.GNS_CH_LOCK n) lock).reg a := rfl
    rw [last, State.reg_setReg_ne _ _ _ _ noLock, State.reg_put_ne _ _ _ _ noDop, State.reg_setReg_ne _ _ _ _ noSig]
  ncos k hk := nth_setNth_ne _ _ fun e => hk (by simp [e])
  size := by simp [tracked]

theorem tracked_shows (hsig : sig < 2 ^ 32) (hdop : dop < 2 ^ 32) (hlock : lock < 2 ^ 32) (size : n < s.nav.ncos.length) (hs : s.regsWf = true) :
    (tracked n sig dop lock nco s).reg (Reg.GNS_CH_SIG n) = sig ∧ (tracked n sig dop lock nco s).get (F.GNS_CH_DOP_DOPPLER n) = dop ∧
      (tracked n sig dop lock nco s).get (F.GNS_CH_LOCK_LOCK_MS n) = lock ∧ nth (tracked n sig dop lock nco s).nav.ncos n {} = nco := by
  have wf1 := State.regsWf_setReg s (Reg.GNS_CH_SIG n) sig hs
  have wf2 := State.regsWf_put _ (F.GNS_CH_DOP_DOPPLER n) dop wf1
  have apart1 : Reg.GNS_CH_SIG n ≠ Reg.GNS_CH_LOCK n := by simp only [Reg.GNS_CH_SIG, Reg.GNS_CH_LOCK]; omega
  have apart2 : Reg.GNS_CH_SIG n ≠ Reg.GNS_CH_DOP n := by simp only [Reg.GNS_CH_SIG, Reg.GNS_CH_DOP]; omega
  have apart3 : Reg.GNS_CH_DOP n ≠ Reg.GNS_CH_LOCK n := by simp only [Reg.GNS_CH_LOCK, Reg.GNS_CH_DOP]; omega
  have regs : (tracked n sig dop lock nco s).regs = (((s.setReg (Reg.GNS_CH_SIG n) sig).put (F.GNS_CH_DOP_DOPPLER n) dop).setReg (Reg.GNS_CH_LOCK n) lock).regs := rfl
  refine ⟨?_, ?_, ?_, nth_setNth_same _ _ size⟩
  · have same : (tracked n sig dop lock nco s).reg (Reg.GNS_CH_SIG n) = _ := congrArg (fun r => State.reg { s with regs := r } (Reg.GNS_CH_SIG n)) regs
    exact same.trans ((State.reg_setReg_ne _ _ _ _ apart1).trans ((State.reg_put_ne _ _ _ _ apart2).trans
      ((State.reg_setReg_same _ _ _ hs).trans (Nat.mod_eq_of_lt hsig))))
  · rw [State.get_of_regs regs, State.get_setReg_ne _ _ _ _ apart3]
    exact State.get_put_of_lt rfl hdop wf1
  · rw [State.get_of_regs regs, State.get_setReg_same (a := Reg.GNS_CH_LOCK n) (f := F.GNS_CH_LOCK_LOCK_MS n) rfl wf2, Nat.mod_eq_of_lt hlock]
    exact (congrArg (· % 2 ^ 32) (Nat.div_one lock)).trans (Nat.mod_eq_of_lt hlock)

/-! ### Dumps of the correlators -/

/-- The word of SIG that a dump shows. -/
def dumpWord (x : ChannelDump) : Nat :=
  x.sig.toNat + 16 * x.sv.toNat + 4096 * b2n x.antB + 8192 * x.state.toNat + 65536 * x.cn0.toNat + 16777216 * b2n x.slip

/-- The time of lock after a dump. -/
def dumpLock (b : State) (x : ChannelDump) : Nat :=
  if lockGoesOn b x then satN 32 (b.get (F.GNS_CH_LOCK_LOCK_MS x.chan) + 1) else 0

/-- What a dump writes to the NCO. -/
def dumpNco (x : ChannelDump) : Nco :=
  { codePhase := x.codePhase, carrierPhase := x.carrierPhase, frequency := x.frequency, corr := x.corr.take 5 }

theorem dumpChannel_eq (s : State) (x : ChannelDump) : dumpChannel s x =
    if !dumpFits s x then s else tracked x.chan (dumpWord x) (fixS 32 x.doppler) (dumpLock s x) (dumpNco x) s := rfl

theorem dumpFits_of_low {x : ChannelDump} {l : List Nat} (h : TracksOnly l b u) : dumpFits u x = dumpFits b x := by
  rw [dumpFits, dumpFits, trackable, trackable, State.bit, State.bit, State.bit, State.bit, h.get (by decide), h.get (by decide)]

/-- The fields of a word of SIG. -/
theorem dumpWord_fields (x : ChannelDump) : dumpWord x < 2 ^ 32 ∧ bitsAt (dumpWord x) 0 4 = x.sig.toNat ∧ bitsAt (dumpWord x) 4 8 = x.sv.toNat ∧
    bitsAt (dumpWord x) 12 1 = b2n x.antB ∧ bitsAt (dumpWord x) 13 3 = x.state.toNat ∧ bitsAt (dumpWord x) 16 8 = x.cn0.toNat ∧
    bitsAt (dumpWord x) 24 1 = b2n x.slip := by
  have hsig := x.sig.isLt
  have hsv := x.sv.isLt
  have hst := x.state.isLt
  have hcn := x.cn0.isLt
  have hant := b2n_lt x.antB (le_refl 1)
  have hslip := b2n_lt x.slip (le_refl 1)
  simp only [bitsAt, dumpWord]
  omega

theorem flag_of_b2n {f : Fld} {v : Bool} (h : s.get f = b2n v) : s.flag f = v := by
  rw [State.flag, h]
  cases v <;> rfl

theorem sx_fixS_satS {w : Nat} (hw : 0 < w) (v : Int) : sx w (fixS w v) = satS w v := by
  obtain ⟨lo, hi⟩ := satS_bounds (w := w) v
  have same : fixS w v = fixS w (satS w v) := by rw [fixS, fixS, satS_of_bounds lo hi]
  rw [same, sx_fixS hw lo hi]

theorem gets_of_get {f : Fld} {v : Int} (hw : 0 < f.width) (h : s.get f = fixS f.width v) : s.gets f = satS f.width v := by
  rw [State.gets, h, sx_fixS_satS hw]

/-- A dump, shown in its channel (R498). -/
theorem dumped_of_shown {x : ChannelDump} (sig : u.reg (Reg.GNS_CH_SIG x.chan) = dumpWord x)
    (dop : u.get (F.GNS_CH_DOP_DOPPLER x.chan) = fixS 32 x.doppler) (lock : u.get (F.GNS_CH_LOCK_LOCK_MS x.chan) = dumpLock b x)
    (nco : nth u.nav.ncos x.chan {} = dumpNco x) : Dumped x b u := by
  obtain ⟨-, h1, h2, h3, h4, h5, h6⟩ := dumpWord_fields x
  have field {lo w v : Nat} (h : bitsAt (dumpWord x) lo w = v) : u.get ⟨Reg.GNS_CH_SIG x.chan, lo, w⟩ = v := by
    rw [State.get, sig]
    exact h
  exact ⟨field h1, field h2, flag_of_b2n (field h3), field h4, field h5, flag_of_b2n (field h6), gets_of_get (show 0 < 32 by decide) dop, lock, nco⟩

theorem dumpLock_lt (x : ChannelDump) : dumpLock b x < 2 ^ 32 := by
  unfold dumpLock
  split
  · exact satN_lt _ _
  · decide

/-- One dump: it is shown in its channel, or has no effect. -/
theorem dumpChannel_result (x : ChannelDump) (hs : s.regsWf = true) (size : s.nav.ncos.length = 128) :
    TracksOnly [x.chan] s (dumpChannel s x) ∧ if dumpFits s x then Dumped x s (dumpChannel s x) else dumpChannel s x = s := by
  rw [dumpChannel_eq]
  by_cases fits : dumpFits s x = true
  · have low : x.chan < 128 := by
      simp only [dumpFits, Bool.and_eq_true, decide_eq_true_eq] at fits
      exact fits.1.1.1
    rw [fits]
    simp only [Bool.not_true, Bool.false_eq_true, if_false, if_true]
    obtain ⟨sig, dop, lock, nco⟩ := tracked_shows (nco := dumpNco x) (dumpWord_fields x).1 (fixS_lt 32 x.doppler) (dumpLock_lt x)
      (by rw [size]; exact low) hs
    exact ⟨tracked_only, dumped_of_shown sig dop lock nco⟩
  · have no := Bool.eq_false_iff.mpr fits
    rw [no]
    exact ⟨.refl, rfl⟩

theorem dumpLock_kept {x : ChannelDump} (h : trackKept x.chan b s) : lockGoesOn s x = lockGoesOn b x ∧ dumpLock s x = dumpLock b x := by
  obtain ⟨sig, -, lock⟩ := trackGet_of_kept h
  have field (lo w : Nat) : s.get ⟨Reg.GNS_CH_SIG x.chan, lo, w⟩ = b.get ⟨Reg.GNS_CH_SIG x.chan, lo, w⟩ := congrArg (bitsAt · lo w) sig
  have same : lockGoesOn s x = lockGoesOn b x := by
    simp only [lockGoesOn, F.GNS_CH_SIG_STATE, F.GNS_CH_SIG_SV, F.GNS_CH_SIG_SIG, field]
  exact ⟨same, by rw [dumpLock, dumpLock, same, lock]⟩

/-- What a dump has shown is not undone where its channel is left. -/
theorem Dumped.kept {x : ChannelDump} (h : Dumped x b s) (left : trackKept x.chan s u)
    (nco : nth u.nav.ncos x.chan {} = nth s.nav.ncos x.chan {}) : Dumped x b u := by
  obtain ⟨sig, dop, lock⟩ := trackGet_of_kept left
  have field (lo w : Nat) : u.get ⟨Reg.GNS_CH_SIG x.chan, lo, w⟩ = s.get ⟨Reg.GNS_CH_SIG x.chan, lo, w⟩ := congrArg (bitsAt · lo w) sig
  simp only [Dumped, State.flag, State.gets, F.GNS_CH_SIG_STATE, F.GNS_CH_SIG_SV, F.GNS_CH_SIG_SIG, F.GNS_CH_SIG_ANT, F.GNS_CH_SIG_CN0,
    F.GNS_CH_SIG_SLIP, field, dop, lock, nco] at h ⊢
  exact h

/-- What a dump shows is the same from a state whose channel is the same. -/
theorem Dumped.from_ {x : ChannelDump} (h : Dumped x s u) (left : trackKept x.chan b s) : Dumped x b u := by
  obtain ⟨-, -, lock⟩ := trackGet_of_kept left
  obtain ⟨h1, h2, h3, h4, h5, h6, h7, h8, h9⟩ := h
  rw [(dumpLock_kept left).1, lock] at h8
  exact ⟨h1, h2, h3, h4, h5, h6, h7, h8, h9⟩

/-- Dumps of different channels, one after another. -/
theorem dumps_fold : ∀ {l : List ChannelDump} {b : State}, (l.map (·.chan)).Nodup → b.regsWf = true → b.nav.ncos.length = 128 →
    TracksOnly (l.map (·.chan)) b (foldOver dumpChannel b l) ∧
      ∀ x ∈ l, if dumpFits b x then Dumped x b (foldOver dumpChannel b l) else trackKept x.chan b (foldOver dumpChannel b l)
  | [], _, _, _, _ => ⟨.refl, fun _ h => nomatch h⟩
  | x :: l, b, nodup, hb, size => by
    obtain ⟨fresh, nodup'⟩ := List.nodup_cons.mp nodup
    obtain ⟨first, shown⟩ := dumpChannel_result x hb size
    obtain ⟨rest, all⟩ := dumps_fold nodup' (first.wf hb) (first.size.trans size)
    rw [foldOver_cons]
    refine ⟨first.trans rest, fun y hy => ?_⟩
    obtain rfl | mem := List.mem_cons.mp hy
    · obtain ⟨left, nco⟩ := rest.kept fresh
      split
      next fits =>
        rw [if_pos fits] at shown
        exact shown.kept left nco
      next no =>
        rw [if_neg no] at shown
        rw [shown] at left ⊢
        exact left
    · have other : y.chan ∉ [x.chan] := by
        rintro same
        rw [List.mem_singleton] at same
        exact fresh (List.mem_map.mpr ⟨y, mem, same⟩)
      have before_ := (first.kept other).1
      have one := all y mem
      rw [dumpFits_of_low first] at one
      split
      next fits =>
        rw [if_pos fits] at one
        exact one.from_ before_
      next no =>
        rw [if_neg no] at one
        obtain ⟨a1, a2, a3⟩ := one
        obtain ⟨c1, c2, c3⟩ := before_
        exact ⟨a1.trans c1, a2.trans c2, a3.trans c3⟩

/-- The start of the receiver changes the part of navigation alone. -/
theorem receiverStart_only (b : State) : receiverStart b = { b with nav := (receiverStart b).nav } ∧ (receiverStart b).nav.ncos = b.nav.ncos := by
  unfold receiverStart
  split
  · exact ⟨rfl, rfl⟩
  · exact ⟨rfl, rfl⟩

/-- The number of channels in the state LOCKED. -/
def trackingCount (s : State) : Nat := ((upFrom 0 128).filter (fun n => s.get (F.GNS_CH_SIG_STATE n) == 3)).length

theorem trackingCount_lt (s : State) : trackingCount s < 2 ^ 8 :=
  lt_of_le_of_lt (List.length_filter_le _ _) (by rw [upFrom_eq_range', List.length_range']; decide)

theorem countTracking_result (hs : s.regsWf = true) : (countTracking s).get F.GNS_STATUS_CHANNELS = trackingCount (countTracking s) ∧
    RegsKept [Reg.GNS_STATUS] s (countTracking s) := by
  have kept : RegsKept [Reg.GNS_STATUS] s (countTracking s) := fun a ha => State.reg_put_ne _ _ _ _ (List.ne_of_not_mem_cons ha)
  have same : trackingCount (countTracking s) = trackingCount s := by
    have each : ∀ n, (countTracking s).get (F.GNS_CH_SIG_STATE n) = s.get (F.GNS_CH_SIG_STATE n) := fun n => by
      rw [State.get, State.get, kept]
      simp only [F.GNS_CH_SIG_STATE, Reg.GNS_CH_SIG, Reg.GNS_STATUS, List.mem_singleton]
      omega
    simp only [trackingCount, each]
  exact ⟨(State.get_put_of_lt (by decide) (trackingCount_lt s) hs).trans same.symm, kept⟩

/-- The dumps of one interrupt, and the count of the tracked channels (R497, R498). -/
theorem dumps_counted {l : List ChannelDump} (nodup : (l.map (·.chan)).Nodup) (hb : b.regsWf = true) (size : b.nav.ncos.length = 128) (u : State)
    (hu : u = countTracking (foldOver dumpChannel (receiverStart b) l)) :
    u = { receiverStart b with
      regs := u.regs
      nav := { (receiverStart b).nav with ncos := u.nav.ncos } } ∧
    (∀ x ∈ l, if dumpFits b x then Dumped x b u else trackKept x.chan b u) ∧
    (∀ n, n < 128 → n ∉ l.map (·.chan) → trackKept n b u ∧ nth u.nav.ncos n {} = nth b.nav.ncos n {}) ∧
    u.get F.GNS_STATUS_CHANNELS = trackingCount u := by
  obtain ⟨startOnly, startNcos⟩ := receiverStart_only b
  have startRegs : (receiverStart b).regs = b.regs := by rw [startOnly]
  have keptStart : ∀ n, trackKept n b (receiverStart b) := fun n => trackKept_of_regs fun a _ => by rw [State.reg, State.reg, startRegs]
  have fitsStart : ∀ x, dumpFits (receiverStart b) x = dumpFits b x := fun x => by rw [startOnly]; rfl
  have wf : (receiverStart b).regsWf = true := by rw [startOnly]; exact hb
  obtain ⟨tracks, shown⟩ := dumps_fold nodup wf (startNcos.symm ▸ size)
  generalize receiverStart b = v at startNcos keptStart fitsStart wf tracks shown hu ⊢
  generalize foldOver dumpChannel v l = w at tracks shown hu
  obtain ⟨count, kept⟩ := countTracking_result (tracks.wf wf)
  have navU : u.nav = w.nav := by rw [hu]; rfl
  rw [← hu] at count kept
  have left : ∀ n, trackKept n w u := fun n => trackKept_of_regs fun a ha => kept a (by
    simp only [trackRegs, Reg.GNS_CH_SIG, Reg.GNS_CH_DOP, Reg.GNS_CH_LOCK, List.mem_cons, List.not_mem_nil, or_false] at ha
    simp only [Reg.GNS_STATUS, List.mem_singleton]
    omega)
  refine ⟨?_, fun x hx => ?_, fun n _ out => ?_, count⟩
  · have onlyW := tracks.only
    rw [navU, hu, countTracking]
    generalize w.nav.ncos = k at onlyW
    rw [onlyW]
    rfl
  · have one := shown x hx
    rw [fitsStart] at one
    split
    next fits =>
      rw [if_pos fits] at one
      exact (one.kept (left _) (by rw [navU])).from_ (keptStart _)
    next no =>
      rw [if_neg no] at one
      obtain ⟨a1, a2, a3⟩ := one
      obtain ⟨c1, c2, c3⟩ := keptStart x.chan
      obtain ⟨d1, d2, d3⟩ := left x.chan
      exact ⟨d1.trans (a1.trans c1), d2.trans (a2.trans c2), d3.trans (a3.trans c3)⟩
  · obtain ⟨⟨a1, a2, a3⟩, nco⟩ := tracks.kept out
    obtain ⟨c1, c2, c3⟩ := keptStart n
    obtain ⟨d1, d2, d3⟩ := left n
    exact ⟨⟨d1.trans (a1.trans c1), d2.trans (a2.trans c2), d3.trans (a3.trans c3)⟩, by rw [navU, nco, startNcos]⟩

/-! ### Searches -/

/-- The word of SIG after a search. -/
def searchWord (sig sv : Nat) (antB found : Bool) : Nat := sig % 16 + 16 * (sv % 256) + 4096 * b2n antB + 8192 * (if found then 2 else 0)

theorem searchWord_fields {sig sv : Nat} (hsig : sig < 12) (hsv : sv < 256) (antB found : Bool) :
    searchWord sig sv antB found < 2 ^ 32 ∧ bitsAt (searchWord sig sv antB found) 0 4 = sig ∧ bitsAt (searchWord sig sv antB found) 4 8 = sv ∧
      bitsAt (searchWord sig sv antB found) 12 1 = b2n antB ∧
      bitsAt (searchWord sig sv antB found) 13 3 = (if found then 2 else 0) := by
  have hant := b2n_lt antB (le_refl 1)
  have hst : (if found then 2 else 0) < 8 := by split <;> decide
  simp only [bitsAt, searchWord]
  generalize (if found then 2 else 0) = st at hst ⊢
  omega

/-- A channel with the result of a search. -/
def searched (n word : Nat) (d : Int) (s : State) : State :=
  ((s.setReg (Reg.GNS_CH_SIG n) word).setReg (Reg.GNS_CH_LOCK n) 0).puts (F.GNS_CH_DOP_DOPPLER n) d

theorem searched_result {word : Nat} {d : Int} (small : word < 2 ^ 32) (hs : s.regsWf = true) (u : State) (hu : u = searched n word d s) :
    u = { s with regs := u.regs } ∧ RegsKept (trackRegs n) s u ∧ u.reg (Reg.GNS_CH_SIG n) = word ∧
      u.get (F.GNS_CH_LOCK_LOCK_MS n) = 0 ∧ u.gets (F.GNS_CH_DOP_DOPPLER n) = satS 32 d := by
  have wf1 := State.regsWf_setReg s (Reg.GNS_CH_SIG n) word hs
  have wf2 := State.regsWf_setReg _ (Reg.GNS_CH_LOCK n) 0 wf1
  have apart1 : Reg.GNS_CH_SIG n ≠ Reg.GNS_CH_LOCK n := by simp only [Reg.GNS_CH_SIG, Reg.GNS_CH_LOCK]; omega
  have apart2 : Reg.GNS_CH_SIG n ≠ Reg.GNS_CH_DOP n := by simp only [Reg.GNS_CH_SIG, Reg.GNS_CH_DOP]; omega
  have apart3 : Reg.GNS_CH_DOP n ≠ Reg.GNS_CH_LOCK n := by simp only [Reg.GNS_CH_DOP, Reg.GNS_CH_LOCK]; omega
  have lock : ((s.setReg (Reg.GNS_CH_SIG n) word).setReg (Reg.GNS_CH_LOCK n) 0).get (F.GNS_CH_LOCK_LOCK_MS n) = 0 :=
    (State.get_setReg_same (a := Reg.GNS_CH_LOCK n) (f := F.GNS_CH_LOCK_LOCK_MS n) rfl wf1).trans (show 0 % 2 ^ 32 / 2 ^ 0 % 2 ^ 32 = 0 by decide)
  subst hu
  refine ⟨rfl, fun a out => ?_, ?_, ?_, gets_puts_satS d rfl (show 0 < 32 by decide) wf2⟩
  · simp only [trackRegs, List.mem_cons, List.not_mem_nil, or_false, not_or] at out
    obtain ⟨noSig, noDop, noLock⟩ := out
    exact (State.reg_put_ne _ _ _ _ noDop).trans ((State.reg_setReg_ne _ _ _ _ noLock).trans (State.reg_setReg_ne _ _ _ _ noSig))
  · exact (State.reg_put_ne _ _ _ _ apart2).trans ((State.reg_setReg_ne _ _ _ _ apart1).trans
      ((State.reg_setReg_same _ _ _ hs).trans (Nat.mod_eq_of_lt small)))
  · exact (State.get_put_of_apart (apart_of_addr rfl apart3) wf2).trans lock

/-- The search engine that a search has taken is free again from now. -/
def engineTaken (i : Nat) (s : State) : State := { s with nav := { s.nav with engines := setNth s.nav.engines i s.now } }

/-- What a search leaves in its channel (R499). -/
theorem search_result {n sig sv i : Nat} {antB aided found : Bool} {doppler : Int} (hn : n < 128) (hsig : sig < 12) (hsv : sv < 256)
    (hb : b.regsWf = true) (on_ : gnssOn b = true) (may : searchable b sig sv aided = true) (engine : searchEngine (receiverStart b) aided = some i)
    (u : State) (hu : u = acquisitionDone n sig sv antB aided found doppler b) :
    u = { receiverStart b with
      regs := u.regs
      nav := { (receiverStart b).nav with engines := setNth (receiverStart b).nav.engines i b.now } } ∧
    u.get (F.GNS_CH_SIG_SIG n) = sig ∧ u.get (F.GNS_CH_SIG_SV n) = sv ∧ u.flag (F.GNS_CH_SIG_ANT n) = antB ∧
    u.get (F.GNS_CH_SIG_STATE n) = (if found then 2 else 0) ∧ u.get (F.GNS_CH_LOCK_LOCK_MS n) = 0 ∧
    u.gets (F.GNS_CH_DOP_DOPPLER n) = (if found then satS 32 doppler else 0) ∧
    RegsKept [Reg.GNS_CH_SIG n, Reg.GNS_CH_DOP n, Reg.GNS_CH_LOCK n] b u := by
  obtain ⟨startOnly, -⟩ := receiverStart_only b
  have startRegs : (receiverStart b).regs = b.regs := by rw [startOnly]
  have startNow : (receiverStart b).now = b.now := by rw [startOnly]
  have startOn : gnssOn (receiverStart b) = true := by rw [startOnly]; exact on_
  have startMay : searchable (receiverStart b) sig sv aided = true := by
    unfold receiverStart
    split <;> exact may
  have wf : (receiverStart b).regsWf = true := by rw [startOnly]; exact hb
  have ran : u = searched n (searchWord sig sv antB found) (if found then doppler else 0)
      (engineTaken i (receiverStart b)) := by
    rw [hu, acquisitionDone]
    dsimp only
    rw [startOn, startMay, engine, decide_eq_false (by omega)]
    rfl
  have wfV : (engineTaken i (receiverStart b)).regsWf = true := wf
  have regsV : (engineTaken i (receiverStart b)).regs = b.regs := startRegs
  obtain ⟨small, f1, f2, f3, f4⟩ := searchWord_fields hsig hsv antB found
  obtain ⟨only, regs, word, lock, dop⟩ := searched_result small wfV u ran
  have field {lo w x : Nat} (h : bitsAt (searchWord sig sv antB found) lo w = x) : u.get ⟨Reg.GNS_CH_SIG n, lo, w⟩ = x := by
    rw [State.get, word]
    exact h
  refine ⟨?_, field f1, field f2, flag_of_b2n (field f3), field f4, lock, ?_, fun a ha => ?_⟩
  · rw [← startNow]
    exact only
  · rw [dop]
    split
    · rfl
    · decide
  · rw [regs a ha, State.reg, State.reg, regsV]

end

/-! ### The source of corrections -/

/-- What the choice of the source of corrections may change. -/
def corrFoot : Footprint where
  reg a := a == Reg.GNS_CORR || a == Reg.GNS_STATUS
  parts := [.nav]

/-- The source in use and its base station, shown. -/
def corrShown (k base : Nat) (s : State) : State := (s.put F.GNS_CORR_SRC k).put F.GNS_CORR_BASE base

/-- Ambiguity resolution starts again where the base station has changed. -/
def restartNoted (k was : Nat) (s : State) : State :=
  if k ≠ 0 ∧ s.get F.GNS_CORR_BASE ≠ was then { s with nav := { s.nav with restart := true } } else s

/-- Whether corrections are current, shown, and raised where they cease to be. -/
def corrJudged (fresh : Bool) (s : State) : State :=
  if s.flag F.GNS_STATUS_CORR_OK && !fresh then raise0 Src.GNS_CORR_STALE (s.put F.GNS_STATUS_CORR_OK 0)
  else s.put F.GNS_STATUS_CORR_OK (b2n fresh)

/-- The base station of a source. -/
def corrBase (b : State) (k : Nat) : Nat := if k = 0 then 0 else (corrSource b k).base

section
variable {k n w : Nat} {b s t u : State}

theorem refreshSource_eq (s : State) : refreshSource s =
    let v := restartNoted (chooseSource s) (s.get F.GNS_CORR_BASE)
      (corrShown (chooseSource s) (corrBase (s.put F.GNS_CORR_SRC (chooseSource s)) (chooseSource s)) s)
    corrJudged (chooseSource s != 0 && sourceCurrent v (chooseSource s)) v := rfl

theorem sourceOrder_lt {k : Nat} (hk : k ∈ sourceOrder s) : k < 4 := by
  have small (f : Fld) (hw : f.width = 2) : s.get f < 4 := by
    have := State.get_lt s f
    rw [hw] at this
    exact this
  simp only [sourceOrder, List.mem_filter, List.mem_cons, List.not_mem_nil, or_false] at hk
  obtain ⟨rfl | rfl | rfl, -⟩ := hk
  · exact small _ rfl
  · exact small _ rfl
  · exact small _ rfl

theorem mem_of_mem_before {j : Nat} : ∀ {l : List Nat}, j ∈ before k l → j ∈ l
  | [], h => h
  | a :: l, h => by
    unfold before at h
    split at h
    · cases h
    · obtain rfl | h := List.mem_cons.mp h
      · exact List.mem_cons_self
      · exact List.mem_cons_of_mem _ (mem_of_mem_before h)

theorem mem_of_mem_after {j : Nat} : ∀ {l : List Nat}, j ∈ after k l → j ∈ l
  | [], h => h
  | a :: l, h => by
    unfold after at h
    split at h
    · exact List.mem_cons_of_mem _ h
    · exact List.mem_cons_of_mem _ (mem_of_mem_after h)

theorem chooseSource_lt (s : State) : chooseSource s < 4 := by
  have use : s.get F.GNS_CORR_SRC < 4 := State.get_lt s F.GNS_CORR_SRC
  unfold chooseSource
  dsimp only
  split
  · cases found : (sourceOrder s).find? (sourceCurrent s) with
    | none => decide
    | some k => exact sourceOrder_lt (List.mem_of_find?_eq_some found)
  · split
    next k found => exact sourceOrder_lt (mem_of_mem_before (List.mem_of_find?_eq_some found))
    · split
      · exact use
      · cases found : (after (s.get F.GNS_CORR_SRC) (sourceOrder s)).find? (sourceCurrent s) with
        | none => exact use
        | some k => exact sourceOrder_lt (mem_of_mem_after (List.mem_of_find?_eq_some found))

theorem restartNoted_result (k was : Nat) (s : State) : restartNoted k was s =
    { s with nav := { s.nav with restart := s.nav.restart || (k != 0 && s.get F.GNS_CORR_BASE != was) } } := by
  unfold restartNoted
  split
  next changed =>
    have both : (k != 0 && s.get F.GNS_CORR_BASE != was) = true := by simpa using changed
    rw [both, Bool.or_true]
  next same =>
    have both : (k != 0 && s.get F.GNS_CORR_BASE != was) = false := by
      rw [Bool.eq_false_iff]
      simpa using same
    rw [both, Bool.or_false]

theorem corrJudged_result (fresh : Bool) (hs : s.regsWf = true) : Within corrFoot s (corrJudged fresh s) ∧ (corrJudged fresh s).nav = s.nav ∧
    (corrJudged fresh s).flag F.GNS_STATUS_CORR_OK = fresh ∧
    (∀ g, F.GNS_STATUS_CORR_OK.apart g = true → calmReg g.addr = true → (corrJudged fresh s).get g = s.get g) ∧
    (s.flag F.GNS_STATUS_CORR_OK = true → fresh = false → Flagged Src.GNS_CORR_STALE (corrJudged fresh s)) ∧
    (s.flag F.GNS_STATUS_CORR_OK = false ∨ fresh = true → corrJudged fresh s = s.put F.GNS_STATUS_CORR_OK (b2n fresh)) := by
  have wf := State.regsWf_put s F.GNS_STATUS_CORR_OK 0 hs
  unfold corrJudged
  split
  next stale =>
    rw [Bool.and_eq_true, Bool.not_eq_true'] at stale
    obtain ⟨was, isStale⟩ := stale
    have within_ : Within corrFoot s (raise0 Src.GNS_CORR_STALE (s.put F.GNS_STATUS_CORR_OK 0)) := raise0_within (put_within .refl (by decide))
    have off : (s.put F.GNS_STATUS_CORR_OK 0).get F.GNS_STATUS_CORR_OK = 0 := State.get_put_of_lt (by decide) (by decide) hs
    have shown : (raise0 Src.GNS_CORR_STALE (s.put F.GNS_STATUS_CORR_OK 0)).get F.GNS_STATUS_CORR_OK = 0 :=
      ((FieldStands.refl.raiseArg (by decide)) wf).2.trans off
    have stands (g : Fld) (a : F.GNS_STATUS_CORR_OK.apart g = true) (calm : calmReg g.addr = true) :
        FieldStands g s (raise0 Src.GNS_CORR_STALE (s.put F.GNS_STATUS_CORR_OK 0)) := (FieldStands.refl.put a).raiseArg calm
    exact ⟨within_, by simp [raise0], by rw [State.flag, shown, isStale]; rfl, fun g a calm => (stands g a calm hs).2,
      fun _ _ => flagged_raiseArg (by decide) wf, fun other => by simp [was, isStale] at other⟩
  next fine =>
    have shown : (s.put F.GNS_STATUS_CORR_OK (b2n fresh)).get F.GNS_STATUS_CORR_OK = b2n fresh :=
      State.get_put_of_lt (by decide) (b2n_lt _ (by decide)) hs
    exact ⟨put_within .refl (by decide), rfl, flag_of_b2n shown, fun g a _ => State.get_put_of_apart a hs,
      fun was stale => absurd (by rw [was, stale]; rfl) fine, fun _ => rfl⟩

/-- The choice of the source of corrections (R504, R505, R506). -/
theorem refreshSource_result (hb : b.regsWf = true) (u : State) (hu : u = refreshSource b) :
    Within corrFoot b u ∧ u.get F.GNS_CORR_SRC = chooseSource b ∧ u.get F.GNS_CORR_BASE = corrBase b (chooseSource b) % 4096 ∧
      u.flag F.GNS_STATUS_CORR_OK = (chooseSource b != 0 && sourceCurrent b (chooseSource b)) ∧
      (∀ g, F.GNS_STATUS_CORR_OK.apart g = true → F.GNS_CORR_SRC.apart g = true → F.GNS_CORR_BASE.apart g = true → calmReg g.addr = true →
        u.get g = b.get g) ∧
      u.nav = { b.nav with restart := b.nav.restart || (chooseSource b != 0 && u.get F.GNS_CORR_BASE != b.get F.GNS_CORR_BASE) } ∧
      (b.flag F.GNS_STATUS_CORR_OK = true → u.flag F.GNS_STATUS_CORR_OK = false → Flagged Src.GNS_CORR_STALE u) ∧
      (b.flag F.GNS_STATUS_CORR_OK = false ∨ u.flag F.GNS_STATUS_CORR_OK = true → u = { b with regs := u.regs, nav := u.nav } ∧
        FieldsKept [F.GNS_CORR_SRC, F.GNS_CORR_BASE, F.GNS_STATUS_CORR_OK] b u) := by
  have small := chooseSource_lt b
  have baseSame : corrBase (b.put F.GNS_CORR_SRC (chooseSource b)) (chooseSource b) = corrBase b (chooseSource b) := rfl
  have wf1 := State.regsWf_put b F.GNS_CORR_SRC (chooseSource b) hb
  have src : (b.put F.GNS_CORR_SRC (chooseSource b)).get F.GNS_CORR_SRC = chooseSource b := State.get_put_of_lt (by decide) small hb
  rw [refreshSource_eq, baseSame] at hu
  generalize chooseSource b = k at *
  generalize hbase : corrBase b k = base at *
  have wf2 : (corrShown k base b).regsWf = true := State.regsWf_put _ F.GNS_CORR_BASE base wf1
  have src2 : (corrShown k base b).get F.GNS_CORR_SRC = k := (State.get_put_of_apart (by decide) wf1).trans src
  have base2 : (corrShown k base b).get F.GNS_CORR_BASE = base % 4096 := State.get_put_mod (by decide) wf1
  have stands2 : ∀ g, F.GNS_CORR_SRC.apart g = true → F.GNS_CORR_BASE.apart g = true → (corrShown k base b).get g = b.get g := fun g a1 a2 =>
    (State.get_put_of_apart a2 wf1).trans (State.get_put_of_apart a1 hb)
  have kept2 : FieldsKept [F.GNS_CORR_SRC, F.GNS_CORR_BASE] b (corrShown k base b) :=
    (fieldsKept_put (by decide) hb k).trans (fieldsKept_put (by decide) wf1 base)
  have within2 : Within corrFoot b (corrShown k base b) := put_within (put_within .refl (by decide)) (by decide)
  have only2 : corrShown k base b = { b with regs := (corrShown k base b).regs } := rfl
  dsimp only at hu
  rw [restartNoted_result] at hu
  generalize corrShown k base b = v at *
  obtain ⟨m, isM⟩ : ∃ m : State, m = { v with nav := { v.nav with restart := v.nav.restart || (k != 0 && v.get F.GNS_CORR_BASE != b.get F.GNS_CORR_BASE) } } := ⟨_, rfl⟩
  have regsM : m.regs = v.regs := by rw [isM]
  have navM : m.nav = { v.nav with restart := v.nav.restart || (k != 0 && v.get F.GNS_CORR_BASE != b.get F.GNS_CORR_BASE) } := by rw [isM]
  have onlyM : m = { b with regs := m.regs, nav := m.nav } := by rw [isM, only2]
  have wfM : m.regsWf = true := by rw [isM]; exact wf2
  have withinM : Within corrFoot b m := by rw [isM]; exact nav_within within2 (by decide)
  have currentM : sourceCurrent m k = sourceCurrent b k := by
    have sources : m.nav.sources = b.nav.sources := by rw [navM, only2]
    have age : ageMax m = ageMax b := by
      rw [ageMax, ageMax, State.get_of_regs regsM, stands2 F.GNS_RTK_CFG_AGE_MAX (by decide) (by decide)]
    have now_ : m.now = b.now := by rw [onlyM]
    rw [sourceCurrent, sourceCurrent, corrSource, corrSource, sources, age, now_]
  rw [← isM, currentM] at hu
  have navB : v.nav = b.nav := by rw [only2]
  obtain ⟨within_, nav, ok, stands, stale, calm⟩ := corrJudged_result (k != 0 && sourceCurrent b k) wfM
  rw [← hu] at within_ nav ok stands stale calm
  have baseU : u.get F.GNS_CORR_BASE = base % 4096 := (stands _ (by decide) (by decide)).trans ((State.get_of_regs regsM _).trans base2)
  have okM : m.flag F.GNS_STATUS_CORR_OK = b.flag F.GNS_STATUS_CORR_OK := by
    rw [State.flag, State.flag, State.get_of_regs regsM, stands2 _ (by decide) (by decide)]
  refine ⟨withinM.trans within_, (stands _ (by decide) (by decide)).trans ((State.get_of_regs regsM _).trans src2), baseU, ok,
    fun g a1 a2 a3 c => (stands g a1 c).trans ((State.get_of_regs regsM _).trans (stands2 g a2 a3)), ?_, fun was gone => ?_, fun fine => ?_⟩
  · rw [nav, navM, navB, baseU, base2]
  · exact stale (okM.trans was) (ok ▸ gone)
  · have only := calm (by rw [okM, ← ok]; exact fine)
    refine ⟨by rw [nav, only, onlyM]; rfl, ?_⟩
    have keptM : FieldsKept [F.GNS_CORR_SRC, F.GNS_CORR_BASE] b m := fun g other => (State.get_of_regs regsM _).trans (kept2 g other)
    rw [only]
    exact keptM.trans (fieldsKept_put (by decide) wfM _)

/-! ### Frames of the sources -/

theorem corrSource_modSource {f : CorrSource → CorrSource} (size : s.nav.sources.length = 3) (lo : 1 ≤ k) (hi : k ≤ 3) :
    corrSource (modSource k f s) k = f (corrSource s k) := nth_setNth_same _ _ (by omega)

theorem corrSource_of_sources (h : u.nav.sources = s.nav.sources) (k : Nat) : corrSource u k = corrSource s k := by rw [corrSource, corrSource, h]

/-- What of a state of the receiver a frame turns on, beside its own source. -/
theorem sources_length_of_sound (h : b.sound = true) : b.nav.sources.length = 3 := by
  simp only [State.sound, State.sized, Bool.and_eq_true, beq_iff_eq] at h
  obtain ⟨-, sizes⟩ := h
  simp only [and_assoc] at sizes
  obtain ⟨-, -, -, -, -, -, -, -, sources, -⟩ := sizes
  exact sources

/-- A frame that is passed on to the relay of corrections. -/
def relayed (k : Nat) (frame : Bytes) (s : State) : State :=
  if k = 2 || !isTerminus s || !s.flag F.CST_CFG_RELAY_TX || s.get F.CST_STATUS_STATE != 2 then s
  else { s with nav := { s.nav with relay := s.nav.relay ++ [(k, frame)] } }

theorem relayed_result (k : Nat) (frame : Bytes) (s : State) : relayed k frame s =
    { s with nav := { s.nav with relay := s.nav.relay ++ (if isRelayed k s then [(k, frame)] else []) } } := by
  have turns : (k = 2 || !isTerminus s || !s.flag F.CST_CFG_RELAY_TX || s.get F.CST_STATUS_STATE != 2) = !isRelayed k s := by
    simp only [isRelayed, Bool.not_and, bne, Bool.not_not]
    rfl
  unfold relayed
  rw [turns]
  cases isRelayed k s
  · simp
  · rfl

/-- A source with an observation. -/
def sourceObserved (now base : Nat) (steady : Bool) (x : CorrSource) : CorrSource :=
  { x with
    lastObs := some now
    base := base
    since := if steady then x.since else now }

/-- An observation that is taken. -/
def observed (k : Nat) (msg : Bytes) (s : State) : State :=
  refreshSource (modSource k (sourceObserved s.now (rtcmStation msg) (sourceCurrent s k)) s)

/-- The orbit of a message, learned. -/
def orbitTaken (o : Option (Nat × Nat)) (s : State) : State :=
  match o with
  | none => s
  | some o => learnOrbit o.1 o.2 s

/-- The number under which an aiding message is kept. -/
def aidNumber (msg : Bytes) : Nat :=
  64 * rtcmNumber msg + (match rtcmOrbit (rtcmNumber msg) msg with
    | none => 0
    | some o => o.2)

/-- An aiding message that is kept, with its orbit. -/
def aidTaken (msg : Bytes) (s : State) : State :=
  orbitTaken (rtcmOrbit (rtcmNumber msg) msg) { s with nav := { s.nav with aiding := putNum s.nav.aiding (aidNumber msg) msg } }

theorem takeRtcm_eq (k : Nat) (frame msg : Bytes) (s : State) : takeRtcm k frame msg s =
    if obsMessages.contains (rtcmNumber msg) then
      if s.flag F.GNS_RTK_CFG_BASE_FILT && rtcmStation msg != s.get F.GNS_RTK_CFG_BASE_ID then s
      else if !observesTracked (rtcmNumber msg) msg then relayed k frame s
      else observed k msg (relayed k frame (s.wrapUp F.GNS_RTCM_CNT_ACCEPTED 1))
    else if aidMessages.contains (rtcmNumber msg) then relayed k frame ((aidTaken msg s).wrapUp F.GNS_RTCM_CNT_ACCEPTED 1)
    else if idleMessages.contains (rtcmNumber msg) then relayed k frame s
    else s.bump F.GNS_RTCM_CNT_UNSUPPORTED 1 := rfl

/-- A source whose buffer is what remains. -/
def bufferLeft (k : Nat) (rest : Bytes) (s : State) : State := modSource k (fun x => { x with buffer := rest }) s

theorem rtcmFrame_framed {frame msg rest : Bytes} (framed : Framed k frame msg rest b) : rtcmFrame k b =
    if frameChecks frame then takeRtcm k frame msg (bufferLeft k rest b)
    else (bufferLeft k (toPreamble ((toPreamble (corrSource b k).buffer).drop 1)) b).bump F.GNS_RTCM_CNT_CRC_FAIL 1 := by
  obtain ⟨head, whole, isFrame, isMsg, isRest⟩ := framed
  unfold rtcmFrame
  dsimp only
  rw [if_neg (by omega)]
  generalize beNat (((toPreamble (corrSource b k).buffer).drop 1).take 2) % 1024 = n at whole isFrame isMsg isRest ⊢
  generalize toPreamble (corrSource b k).buffer = l at whole isFrame isMsg isRest ⊢
  have size : frame.length = n + 6 := by
    rw [isFrame, List.length_take]
    omega
  have body : frame.take (frame.length - 3) = l.take (n + 3) := by
    rw [size, isFrame, List.take_take]
    congr 1
    omega
  have sum : frame.drop (frame.length - 3) = (l.drop (n + 3)).take 3 := by
    rw [size, isFrame, List.drop_take]
    congr 1
    · omega
  have same : (crc24q (l.take (n + 3)) ≠ beNat ((l.drop (n + 3)).take 3)) ↔ ¬ frameChecks frame := by
    rw [frameChecks, body, sum]
  by_cases good : frameChecks frame
  · rw [if_neg (fun h => same.mp h good), if_pos good, ← isFrame, ← isMsg, ← isRest]
    rfl
  · rw [if_pos (same.mpr good), if_neg good]
    rfl

/-- A buffer without a whole frame (R503). -/
theorem rtcmFrame_partial (part : (toPreamble (corrSource b k).buffer).length < 3 ∨ (toPreamble (corrSource b k).buffer).length <
    beNat (((toPreamble (corrSource b k).buffer).drop 1).take 2) % 1024 + 6) :
    rtcmFrame k b = bufferLeft k (toPreamble (corrSource b k).buffer) b := by
  unfold rtcmFrame
  dsimp only
  rw [if_pos part]
  rfl

theorem bufferLeft_result {rest : Bytes} (size : b.nav.sources.length = 3) (lo : 1 ≤ k) (hi : k ≤ 3) :
    corrSource (bufferLeft k rest b) k = { corrSource b k with buffer := rest } ∧ (bufferLeft k rest b).nav.sources.length = 3 ∧
      bufferLeft k rest b = { b with nav := { b.nav with sources := (bufferLeft k rest b).nav.sources } } :=
  ⟨corrSource_modSource size lo hi, by simp [bufferLeft, modSource, size], rfl⟩

theorem frame_failed {frame msg rest : Bytes} (lo : 1 ≤ k) (hi : k ≤ 3) (sound : b.sound = true) (framed : Framed k frame msg rest b)
    (bad : ¬ frameChecks frame) (u : State) (hu : u = rtcmFrame k b) :
    u = { b with
      regs := u.regs
      nav := { b.nav with sources := u.nav.sources } } ∧
    u.get F.GNS_RTCM_CNT_CRC_FAIL = satN 8 (b.get F.GNS_RTCM_CNT_CRC_FAIL + 1) ∧
    (corrSource u k).buffer = toPreamble ((toPreamble (corrSource b k).buffer).drop 1) ∧
    (corrSource u k).lastObs = (corrSource b k).lastObs ∧ FieldsKept [F.GNS_RTCM_CNT_CRC_FAIL] b u := by
  rw [rtcmFrame_framed framed, if_neg bad] at hu
  generalize toPreamble ((toPreamble (corrSource b k).buffer).drop 1) = left at hu ⊢
  obtain ⟨own, -, only⟩ := bufferLeft_result (rest := left) (sources_length_of_sound sound) lo hi
  have regs : (bufferLeft k left b).regs = b.regs := rfl
  have wf : (bufferLeft k left b).regsWf = true := regsWf_of_sound (s := b) sound
  generalize bufferLeft k left b = p at own only regs wf hu
  have nav : u.nav = p.nav := by rw [hu]; rfl
  have ownU := (corrSource_of_sources (congrArg NavPart.sources nav) k).trans own
  refine ⟨?_, ?_, by rw [ownU], by rw [ownU], fun g other => ?_⟩
  · rw [nav, hu, only]
    rfl
  · rw [hu, State.bump, State.get_put_of_lt (by decide) (satN_lt _ _) wf, State.get_of_regs regs]
    rfl
  · rw [hu]
    exact (fieldsKept_put (by decide) wf _ g other).trans (State.get_of_regs regs g)

theorem framePassed {frame msg rest : Bytes} (lo : 1 ≤ k) (hi : k ≤ 3) (sound : b.sound = true) (framed : Framed k frame msg rest b)
    (good : frameChecks frame) : ∃ p, rtcmFrame k b = takeRtcm k frame msg p ∧
      corrSource p k = { corrSource b k with buffer := rest } ∧ p.nav.sources.length = 3 ∧
      p = { b with nav := { b.nav with sources := p.nav.sources } } ∧ p.regsWf = true := by
  obtain ⟨own, size, only⟩ := bufferLeft_result (rest := rest) (sources_length_of_sound sound) lo hi
  exact ⟨bufferLeft k rest b, by rw [rtcmFrame_framed framed, if_pos good], own, size, only, regsWf_of_sound (s := b) sound⟩

theorem isRelayed_of {p : State} (cfg : p.get F.CST_CFG_RELAY_TX = b.get F.CST_CFG_RELAY_TX) (state : p.get F.CST_STATUS_STATE = b.get F.CST_STATUS_STATE)
    (role : p.role = b.role) (k : Nat) : isRelayed k p = isRelayed k b := by
  simp only [isRelayed, isTerminus, role, State.flag, cfg, state]

theorem frame_filtered {frame msg rest : Bytes} (lo : 1 ≤ k) (hi : k ≤ 3) (sound : b.sound = true) (framed : Framed k frame msg rest b)
    (good : frameChecks frame) (obs : obsMessages.contains (rtcmNumber msg) = true) (filter : b.flag F.GNS_RTK_CFG_BASE_FILT = true)
    (other : rtcmStation msg ≠ b.get F.GNS_RTK_CFG_BASE_ID) (u : State) (hu : u = rtcmFrame k b) :
    u = { b with nav := { b.nav with sources := u.nav.sources } } ∧ (corrSource u k).buffer = rest ∧
      (corrSource u k).lastObs = (corrSource b k).lastObs := by
  obtain ⟨p, ran, own, -, only, -⟩ := framePassed lo hi sound framed good
  have regs : p.regs = b.regs := by rw [only]
  have turned : (p.flag F.GNS_RTK_CFG_BASE_FILT && rtcmStation msg != p.get F.GNS_RTK_CFG_BASE_ID) = true := by
    rw [State.flag, State.get_of_regs regs, State.get_of_regs regs, ← State.flag, filter]
    simpa using other
  rw [ran, takeRtcm_eq, if_pos obs, if_pos turned] at hu
  rw [hu]
  exact ⟨only, by rw [own], by rw [own]⟩

/-- A frame that is passed to the relay and does nothing else. -/
theorem relayed_alone {frame rest : Bytes} {p : State} (own : corrSource p k = { corrSource b k with buffer := rest })
    (only : p = { b with nav := { b.nav with sources := p.nav.sources } }) (u : State) (hu : u = relayed k frame p) :
    FrameTaken k frame rest b u ∧ u = { b with nav := { b.nav with sources := u.nav.sources, relay := u.nav.relay } } ∧
      (corrSource u k).lastObs = (corrSource b k).lastObs := by
  have regs : p.regs = b.regs := by rw [only]
  have same := isRelayed_of (b := b) (p := p) (State.get_of_regs regs _) (State.get_of_regs regs _) (by rw [only]) k
  have relay : p.nav.relay = b.nav.relay := by rw [only]
  rw [relayed_result, same, relay] at hu
  have sources : u.nav.sources = p.nav.sources := by rw [hu]
  have ownU := (corrSource_of_sources sources k).trans own
  have relayU : u.nav.relay = b.nav.relay ++ (if isRelayed k b then [(k, frame)] else []) := by rw [hu]
  refine ⟨⟨by rw [ownU], relayU⟩, ?_, by rw [ownU]⟩
  rw [sources, relayU, hu]
  generalize p.nav.sources = l at only
  rw [only]

theorem frame_idle {frame msg rest : Bytes} (lo : 1 ≤ k) (hi : k ≤ 3) (sound : b.sound = true) (framed : Framed k frame msg rest b)
    (good : frameChecks frame) (idle : idleMessages.contains (rtcmNumber msg) = true ∨
      (obsMessages.contains (rtcmNumber msg) = true ∧ observesTracked (rtcmNumber msg) msg = false ∧
        (b.flag F.GNS_RTK_CFG_BASE_FILT = true → rtcmStation msg = b.get F.GNS_RTK_CFG_BASE_ID))) (u : State) (hu : u = rtcmFrame k b) :
    FrameTaken k frame rest b u ∧ u = { b with nav := { b.nav with sources := u.nav.sources, relay := u.nav.relay } } ∧
      (corrSource u k).lastObs = (corrSource b k).lastObs := by
  obtain ⟨p, ran, own, -, only, -⟩ := framePassed lo hi sound framed good
  have regs : p.regs = b.regs := by rw [only]
  have passes : takeRtcm k frame msg p = relayed k frame p := by
    rw [takeRtcm_eq]
    obtain isIdle | ⟨obs, untracked, station⟩ := idle
    · have kinds : ∀ n, idleMessages.contains n = true → obsMessages.contains n = false ∧ aidMessages.contains n = false := by
        intro n hn
        simp only [idleMessages, List.contains_iff_mem, List.mem_cons, List.not_mem_nil, or_false] at hn
        obtain rfl | rfl | rfl := hn <;> decide
      obtain ⟨noObs, noAid⟩ := kinds _ isIdle
      rw [noObs, noAid, isIdle]
      rfl
    · rw [if_pos obs, untracked, if_neg]
      · rfl
      · rw [State.flag, State.get_of_regs regs, State.get_of_regs regs, ← State.flag]
        intro turned
        rw [Bool.and_eq_true] at turned
        exact absurd (station turned.1) (by simpa using turned.2)
  rw [ran, passes] at hu
  exact relayed_alone own only u hu

theorem frame_unsupported {frame msg rest : Bytes} (lo : 1 ≤ k) (hi : k ≤ 3) (sound : b.sound = true) (framed : Framed k frame msg rest b)
    (good : frameChecks frame) (unknown : (obsMessages ++ aidMessages ++ idleMessages).contains (rtcmNumber msg) = false) (u : State)
    (hu : u = rtcmFrame k b) : (corrSource u k).buffer = rest ∧
      u.get F.GNS_RTCM_CNT_UNSUPPORTED = satN 8 (b.get F.GNS_RTCM_CNT_UNSUPPORTED + 1) ∧
      u = { b with
        regs := u.regs
        nav := { b.nav with sources := u.nav.sources } } ∧ FieldsKept [F.GNS_RTCM_CNT_UNSUPPORTED] b u := by
  obtain ⟨p, ran, own, -, only, wf⟩ := framePassed lo hi sound framed good
  have regs : p.regs = b.regs := by rw [only]
  have none_ : obsMessages.contains (rtcmNumber msg) = false ∧ aidMessages.contains (rtcmNumber msg) = false ∧
      idleMessages.contains (rtcmNumber msg) = false := by
    rw [List.contains_append, List.contains_append, Bool.or_eq_false_iff, Bool.or_eq_false_iff] at unknown
    exact ⟨unknown.1.1, unknown.1.2, unknown.2⟩
  obtain ⟨noObs, noAid, noIdle⟩ := none_
  rw [ran, takeRtcm_eq, noObs, noAid, noIdle] at hu
  simp only [Bool.false_eq_true, if_false] at hu
  have nav : u.nav = p.nav := by rw [hu]; rfl
  have ownU := (corrSource_of_sources (congrArg NavPart.sources nav) k).trans own
  refine ⟨by rw [ownU], ?_, ?_, fun g other => ?_⟩
  · rw [hu, State.bump, State.get_put_of_lt (by decide) (satN_lt _ _) wf, State.get_of_regs regs]
    rfl
  · rw [nav, hu, only]
    rfl
  · rw [hu]
    exact (fieldsKept_put (by decide) wf _ g other).trans (State.get_of_regs regs g)

theorem mem_putNum {α : Type} (v : α) (k : Nat) : ∀ l : List (Nat × α), (k, v) ∈ putNum l k v
  | [] => List.mem_cons_self
  | (n, w) :: r => by
    unfold putNum
    split
    · exact List.mem_cons_self
    · split
      · exact List.mem_cons_self
      · exact List.mem_cons_of_mem _ (mem_putNum v k r)

/-- An aiding message, kept with its orbit. -/
theorem aidTaken_result (msg : Bytes) (s : State) : ∃ aiding orbits,
    aidTaken msg s = { s with nav := { s.nav with aiding := aiding, orbits := orbits } } ∧ msg ∈ aiding.map (·.2) ∧
      ∀ o ∈ rtcmOrbit (rtcmNumber msg) msg, (o.1, o.2, s.now) ∈ orbits := by
  have kept : msg ∈ (putNum s.nav.aiding (aidNumber msg) msg).map (·.2) := List.mem_map.mpr ⟨_, mem_putNum msg _ _, rfl⟩
  unfold aidTaken orbitTaken
  generalize aidNumber msg = n at kept ⊢
  split
  next bare => exact ⟨_, s.nav.orbits, rfl, kept, fun o ho => by simp [bare] at ho⟩
  next o known =>
    refine ⟨_, _, rfl, kept, fun p hp => ?_⟩
    rw [known, Option.mem_some_iff] at hp
    subst hp
    exact List.mem_append_right _ List.mem_cons_self

theorem frame_aids {frame msg rest : Bytes} (lo : 1 ≤ k) (hi : k ≤ 3) (sound : b.sound = true) (framed : Framed k frame msg rest b)
    (good : frameChecks frame) (aid : aidMessages.contains (rtcmNumber msg) = true) (u : State) (hu : u = rtcmFrame k b) :
    FrameTaken k frame rest b u ∧ u.get F.GNS_RTCM_CNT_ACCEPTED = (b.get F.GNS_RTCM_CNT_ACCEPTED + 1) % 65536 ∧
      msg ∈ u.nav.aiding.map (·.2) ∧ (∀ o ∈ rtcmOrbit (rtcmNumber msg) msg, (o.1, o.2, b.now) ∈ u.nav.orbits) ∧
      u = { b with
        regs := u.regs
        nav := { b.nav with
          sources := u.nav.sources
          relay := u.nav.relay
          aiding := u.nav.aiding
          orbits := u.nav.orbits } } ∧ FieldsKept [F.GNS_RTCM_CNT_ACCEPTED] b u := by
  obtain ⟨p, ran, own, -, only, wf⟩ := framePassed lo hi sound framed good
  have regs : p.regs = b.regs := by rw [only]
  have now_ : p.now = b.now := by rw [only]
  have noObs : ∀ n, aidMessages.contains n = true → obsMessages.contains n = false := by
    intro n hn
    simp only [aidMessages, List.contains_iff_mem, List.mem_cons, List.not_mem_nil, or_false] at hn
    obtain rfl | rfl | rfl | rfl | rfl | rfl | rfl := hn <;> decide
  rw [ran, takeRtcm_eq, noObs _ aid, aid] at hu
  simp only [Bool.false_eq_true, if_false, if_true] at hu
  obtain ⟨aiding, orbits, taken, kept, known⟩ := aidTaken_result msg p
  rw [now_] at known
  have regsT : (aidTaken msg p).regs = b.regs := by rw [taken, only]
  have wfT : (aidTaken msg p).regsWf = true := by rw [taken]; exact wf
  have partT : (aidTaken msg p).role = b.role ∧ (aidTaken msg p).nav = { b.nav with
      sources := p.nav.sources
      aiding := aiding
      orbits := orbits } := by
    rw [taken, only]
    exact ⟨rfl, rfl⟩
  have onlyT : aidTaken msg p = { b with nav := (aidTaken msg p).nav } := by rw [taken, only]
  generalize aidTaken msg p = t at hu regsT wfT partT onlyT
  obtain ⟨role, navT⟩ := partT
  have count : (t.wrapUp F.GNS_RTCM_CNT_ACCEPTED 1).get F.GNS_RTCM_CNT_ACCEPTED = (b.get F.GNS_RTCM_CNT_ACCEPTED + 1) % 65536 := by
    rw [State.wrapUp, State.get_put_mod (by decide) wfT, State.get_of_regs regsT]
    rfl
  have stands : FieldsKept [F.GNS_RTCM_CNT_ACCEPTED] b (t.wrapUp F.GNS_RTCM_CNT_ACCEPTED 1) := fun g other =>
    (fieldsKept_put (by decide) wfT _ g other).trans (State.get_of_regs regsT g)
  have parts : (t.wrapUp F.GNS_RTCM_CNT_ACCEPTED 1).role = b.role ∧ (t.wrapUp F.GNS_RTCM_CNT_ACCEPTED 1).nav = t.nav := ⟨role, rfl⟩
  have onlyW : t.wrapUp F.GNS_RTCM_CNT_ACCEPTED 1 = { b with
      regs := (t.wrapUp F.GNS_RTCM_CNT_ACCEPTED 1).regs
      nav := t.nav } := by
    conv_lhs => rw [State.wrapUp, onlyT]
    conv_rhs => rw [State.wrapUp, onlyT]
    rfl
  generalize t.wrapUp F.GNS_RTCM_CNT_ACCEPTED 1 = w at hu count stands parts onlyW
  have same := isRelayed_of (stands.apart (by decide)) (stands.apart (by decide)) parts.1 k
  rw [relayed_result, same, parts.2, navT] at hu
  have regsU : u.regs = w.regs := by rw [hu]
  have navU : u.nav = { b.nav with
      sources := p.nav.sources
      aiding := aiding
      orbits := orbits
      relay := b.nav.relay ++ (if isRelayed k b then [(k, frame)] else []) } := by rw [hu]
  have ownU := (corrSource_of_sources (by rw [navU] : u.nav.sources = p.nav.sources) k).trans own
  refine ⟨⟨by rw [ownU], by rw [navU]⟩, (State.get_of_regs regsU _).trans count, by rw [navU]; exact kept, fun o ho => by rw [navU]; exact known o ho, ?_,
    fun g other => (State.get_of_regs regsU g).trans (stands g other)⟩
  rw [navU, regsU, hu, onlyW]

/-- An observation of the station that is taken (R504). -/
theorem frame_observed {frame msg rest : Bytes} (lo : 1 ≤ k) (hi : k ≤ 3) (sound : b.sound = true) (framed : Framed k frame msg rest b)
    (good : frameChecks frame) (obs : obsMessages.contains (rtcmNumber msg) = true) (tracked_ : observesTracked (rtcmNumber msg) msg = true)
    (station : b.flag F.GNS_RTK_CFG_BASE_FILT = true → rtcmStation msg = b.get F.GNS_RTK_CFG_BASE_ID) (u : State) (hu : u = rtcmFrame k b) :
    FrameTaken k frame rest b u ∧ (corrSource u k).lastObs = some b.now ∧ (corrSource u k).base = rtcmStation msg ∧
      (corrSource u k).since = (if sourceCurrent b k then (corrSource b k).since else b.now) ∧
      u.get F.GNS_RTCM_CNT_ACCEPTED = (b.get F.GNS_RTCM_CNT_ACCEPTED + 1) % 65536 := by
  obtain ⟨p, ran, own, size, only, wf⟩ := framePassed lo hi sound framed good
  have regs : p.regs = b.regs := by rw [only]
  have free : ¬ (p.flag F.GNS_RTK_CFG_BASE_FILT && rtcmStation msg != p.get F.GNS_RTK_CFG_BASE_ID) = true := by
    rw [State.flag, State.get_of_regs regs, State.get_of_regs regs, ← State.flag]
    intro turned
    rw [Bool.and_eq_true] at turned
    exact absurd (station turned.1) (by simpa using turned.2)
  rw [ran, takeRtcm_eq, if_pos obs, if_neg free, tracked_] at hu
  simp only [Bool.not_true, Bool.false_eq_true, if_false] at hu
  have count : (p.wrapUp F.GNS_RTCM_CNT_ACCEPTED 1).get F.GNS_RTCM_CNT_ACCEPTED = (b.get F.GNS_RTCM_CNT_ACCEPTED + 1) % 65536 := by
    rw [State.wrapUp, State.get_put_mod (by decide) wf, State.get_of_regs regs]
    rfl
  have stands : FieldsKept [F.GNS_RTCM_CNT_ACCEPTED] b (p.wrapUp F.GNS_RTCM_CNT_ACCEPTED 1) := fun g other =>
    (fieldsKept_put (by decide) wf _ g other).trans (State.get_of_regs regs g)
  have parts : (p.wrapUp F.GNS_RTCM_CNT_ACCEPTED 1).role = b.role ∧ (p.wrapUp F.GNS_RTCM_CNT_ACCEPTED 1).now = b.now ∧
      (p.wrapUp F.GNS_RTCM_CNT_ACCEPTED 1).nav = p.nav := ⟨(by rw [only] : p.role = b.role), (by rw [only] : p.now = b.now), rfl⟩
  have wfW : (p.wrapUp F.GNS_RTCM_CNT_ACCEPTED 1).regsWf = true := State.regsWf_put _ _ _ wf
  have relayP : p.nav.relay = b.nav.relay := by rw [only]
  generalize p.wrapUp F.GNS_RTCM_CNT_ACCEPTED 1 = w at hu count stands parts wfW
  obtain ⟨role, now_, nav⟩ := parts
  have same := isRelayed_of (stands.apart (by decide)) (stands.apart (by decide)) role k
  have relayW := relayed_result k frame w
  rw [same, nav, relayP] at relayW
  have regsR : (relayed k frame w).regs = w.regs := by rw [relayW]
  have nowR : (relayed k frame w).now = b.now := by rw [relayW]; exact now_
  have navR : (relayed k frame w).nav.sources = p.nav.sources ∧
      (relayed k frame w).nav.relay = b.nav.relay ++ (if isRelayed k b then [(k, frame)] else []) := by
    rw [relayW]
    exact ⟨rfl, rfl⟩
  generalize relayed k frame w = r at hu regsR nowR navR
  obtain ⟨sources, relay⟩ := navR
  have ownR := (corrSource_of_sources sources k).trans own
  have currentR : sourceCurrent r k = sourceCurrent b k := by
    have age : ageMax r = ageMax b := by rw [ageMax, ageMax, State.get_of_regs regsR, stands.apart (g := F.GNS_RTK_CFG_AGE_MAX) (by decide)]
    rw [sourceCurrent, sourceCurrent, ownR, age, nowR]
  rw [observed, currentR, nowR] at hu
  have ownM := corrSource_modSource (s := r) (f := sourceObserved b.now (rtcmStation msg) (sourceCurrent b k)) (by rw [sources]; exact size) lo hi
  have regsM : (modSource k (sourceObserved b.now (rtcmStation msg) (sourceCurrent b k)) r).regs = r.regs := rfl
  have relayM : (modSource k (sourceObserved b.now (rtcmStation msg) (sourceCurrent b k)) r).nav.relay = r.nav.relay := rfl
  generalize modSource k (sourceObserved b.now (rtcmStation msg) (sourceCurrent b k)) r = m at hu ownM regsM relayM
  have wfM : m.regsWf = true := by
    rw [State.regsWf, regsM, regsR]
    exact wfW
  obtain ⟨-, -, -, -, kept, navU, -⟩ := refreshSource_result wfM u hu
  have ownU := (corrSource_of_sources (by rw [navU] : u.nav.sources = m.nav.sources) k).trans ownM
  rw [ownR] at ownU
  refine ⟨⟨by rw [ownU]; rfl, ?_⟩, by rw [ownU]; rfl, by rw [ownU]; rfl, by rw [ownU]; rfl, ?_⟩
  · rw [navU]
    exact relayM.trans relay
  · rw [kept _ (by decide) (by decide) (by decide) (by decide), State.get_of_regs regsM, State.get_of_regs regsR]
    exact count

end

/-! ### Steps of device time -/

section
variable {b s u : State}

/-- The step of device time, before it is reported. -/
def steppedTime (x : TimeStep) (s : State) : State :=
  suppressPulse (((stepTime x.off { s with nav := { s.nav with
    step := none
    lastDisciplined := s.now
    lastValid := s.now } }).put F.GNS_STATUS_TSTATE tsLocked).put F.GNS_STATUS_TIME_VALID 1)

theorem timeStep_taken {x : TimeStep} (term : isTerminus b = true) (step : b.nav.step = some x) (due_ : stepDue b x = true) :
    timeStep b = raise0 (if x.first then Src.GNS_TIME_ALIGNED else Src.GNS_TIME_RESYNC) (steppedTime x b) := by
  rw [timeStep, step]
  dsimp only
  rw [term, due_]
  rfl

/-- A step of device time (R517, R518). -/
theorem timeStep_result {x : TimeStep} (hb : b.regsWf = true) (term : isTerminus b = true) (step : b.nav.step = some x) (due_ : stepDue b x = true)
    (u : State) (hu : u = timeStep b) : u.devOff = b.devOff + x.off ∧ u.steer = none ∧ u.nav.step = none ∧ u.nav.lastDisciplined = b.now ∧
      tstate u = tsLocked ∧ timeValid u = true ∧ Flagged (if x.first then Src.GNS_TIME_ALIGNED else Src.GNS_TIME_RESYNC) u ∧
      u.nav.suppressed = some (deviceTime u / sec + 1) ∧ u.nav.realigned = some (deviceTime u / sec + 2) := by
  have kinds : raisable (if x.first then Src.GNS_TIME_ALIGNED else Src.GNS_TIME_RESYNC) = true := by cases x.first <;> decide
  rw [timeStep_taken term step due_] at hu
  generalize (if x.first then Src.GNS_TIME_ALIGNED else Src.GNS_TIME_RESYNC) = src at kinds hu ⊢
  have parts : (steppedTime x b).devOff = b.devOff + x.off ∧ (steppedTime x b).steer = none ∧ (steppedTime x b).nav.step = none ∧
      (steppedTime x b).nav.lastDisciplined = b.now ∧ (steppedTime x b).nav.suppressed = some (deviceTime (steppedTime x b) / sec + 1) ∧
      (steppedTime x b).nav.realigned = some (deviceTime (steppedTime x b) / sec + 2) := ⟨rfl, rfl, rfl, rfl, rfl, rfl⟩
  have start : (stepTime x.off { b with nav := { b.nav with
    step := none
    lastDisciplined := b.now
    lastValid := b.now } }).regsWf = true := hb
  have wf : (steppedTime x b).regsWf = true := State.regsWf_put _ _ _ (State.regsWf_put _ _ _ start)
  have valid : (steppedTime x b).get F.GNS_STATUS_TIME_VALID = 1 := State.get_put_of_lt (by decide) (by decide) (State.regsWf_put _ _ _ start)
  have locked : (steppedTime x b).get F.GNS_STATUS_TSTATE = tsLocked :=
    (State.get_put_of_apart (by decide) (State.regsWf_put _ _ _ start)).trans (State.get_put_of_lt (by decide) (by decide) start)
  generalize steppedTime x b = v at parts wf valid locked hu
  obtain ⟨off, steer, step, disciplined, suppressed, realigned⟩ := parts
  have stands (g : Fld) (calm : calmReg g.addr = true) : u.get g = v.get g := by
    rw [hu]
    exact ((FieldStands.refl.raiseArg calm) wf).2
  have time : deviceTime u = deviceTime v := by rw [deviceTime, deviceTime, hu]; simp [raise0]
  refine ⟨?_, ?_, ?_, ?_, (stands _ (by decide)).trans locked, ?_, ?_, ?_, ?_⟩
  · rw [← off, hu]; simp [raise0]
  · rw [← steer, hu]; simp [raise0]
  · rw [← step, hu]; simp [raise0]
  · rw [← disciplined, hu]; simp [raise0]
  · rw [timeValid, State.flag, stands _ (by decide), valid]; rfl
  · rw [hu]; exact flagged_raiseArg kinds wf
  · rw [time, ← suppressed, hu]; simp [raise0]
  · rw [time, ← realigned, hu]; simp [raise0]

theorem timeStep_idle (idle : isTerminus b = false ∨ ∀ x ∈ b.nav.step, stepDue b x = false) : timeStep b = b := by
  unfold timeStep
  split
  · rfl
  next x step =>
    rw [if_pos]
    obtain follows | early := idle
    · rw [follows]; rfl
    · rw [early x step, Bool.not_false, Bool.or_true]

/-! ### The pulse of each second -/

/-- The word of TOP_FLAGS that goes with the pulse of a second. -/
def pulseWord (k : Nat) (s : State) : Nat :=
  b2n (tstate s == tsLocked) + 2 * b2n (tstate s == tsHoldover || tstate s == tsStepPending) + 4 * b2n (s.nav.realigned == some k) +
    8 * s.get F.GNS_STATUS_SLEWING + 65536 * satN 16 (roundDiv (terr s) 10).toNat

/-- The pulse of a second, with its time and flags. -/
def pulseMade (k : Nat) (s : State) : State :=
  let s := s.put64 Reg.GNS_TOP_LO Reg.GNS_TOP_HI (k * sec)
  let s := s.setReg Reg.GNS_TOP_FLAGS (pulseWord k s)
  emit .pps { s with nav := { s.nav with pulseAt := some s.now } }

theorem timePulse_eq (s : State) : timePulse s = match pulseSecond s with
    | none => s
    | some k =>
      if !(s.flag F.GNS_PPS_CFG_PPS_EN && pulseTime s && s.die.yardUp) || s.nav.lastPulse == some k then s
      else if s.nav.suppressed = some k then { s with nav := { s.nav with lastPulse := some k } }
      else pulseMade k { s with nav := { s.nav with lastPulse := some k } } := by
  unfold timePulse
  cases pulseSecond s <;> rfl

theorem pulseWord_fields (k : Nat) (s : State) : pulseWord k s < 2 ^ 32 ∧ bitsAt (pulseWord k s) 0 1 = b2n (tstate s == tsLocked) ∧
    bitsAt (pulseWord k s) 1 1 = b2n (tstate s == tsHoldover || tstate s == tsStepPending) ∧
    bitsAt (pulseWord k s) 2 1 = b2n (s.nav.realigned == some k) ∧ bitsAt (pulseWord k s) 3 1 = s.get F.GNS_STATUS_SLEWING ∧
    bitsAt (pulseWord k s) 16 16 = satN 16 (roundDiv (terr s) 10).toNat := by
  have h1 := b2n_lt (tstate s == tsLocked) (le_refl 1)
  have h2 := b2n_lt (tstate s == tsHoldover || tstate s == tsStepPending) (le_refl 1)
  have h3 := b2n_lt (s.nav.realigned == some k) (le_refl 1)
  have h4 : s.get F.GNS_STATUS_SLEWING < 2 := State.get_lt s F.GNS_STATUS_SLEWING
  have h5 := satN_lt 16 (roundDiv (terr s) 10).toNat
  simp only [bitsAt, pulseWord]
  generalize satN 16 (roundDiv (terr s) 10).toNat = e at *
  omega

/-- What the error estimate turns on. -/
theorem terr_of {s t : State} (status : ∀ f : Fld, f.addr = Reg.GNS_STATUS ∨ f.addr = Reg.CLK_SRC → t.get f = s.get f)
    (role : t.role = s.role) (now : t.now = s.now) (steer : t.steer = s.steer) (off : t.devOff = s.devOff)
    (disciplined : t.nav.lastDisciplined = s.nav.lastDisciplined) (from_ : t.nav.errFrom = s.nav.errFrom) (acc : t.nav.errAcc = s.nav.errAcc) :
    terr t = terr s := by
  have rate : growthRate t = growthRate s := by rw [growthRate, growthRate, status _ (.inr rfl)]
  have growth : errorGrowth t = errorGrowth s := by rw [errorGrowth, errorGrowth, rate, disciplined, from_, acc, now]
  have left : slewLeft t = slewLeft s := by rw [slewLeft, slewLeft, steer, off]
  have valid : timeValid t = timeValid s := by rw [timeValid, timeValid, State.flag, State.flag, status _ (.inl rfl)]
  have state : tstate t = tstate s := status _ (.inl rfl)
  have slewing : t.flag F.GNS_STATUS_SLEWING = s.flag F.GNS_STATUS_SLEWING := by rw [State.flag, State.flag, status _ (.inl rfl)]
  rw [terr, terr, isTerminus, isTerminus, isRelief, isRelief, role, valid, state, slewing, left, holdoverError, holdoverError, growth]

/-- The time of the next pulse is written where the word of flags does not read. -/
theorem pulseWord_timed (k : Nat) (b : State) :
    pulseWord k (State.put64 { b with nav := { b.nav with lastPulse := some k } } Reg.GNS_TOP_LO Reg.GNS_TOP_HI (k * sec)) = pulseWord k b := by
  have status (f : Fld) (far : f.addr ≠ Reg.GNS_TOP_LO ∧ f.addr ≠ Reg.GNS_TOP_HI) :
      (State.put64 { b with nav := { b.nav with lastPulse := some k } } Reg.GNS_TOP_LO Reg.GNS_TOP_HI (k * sec)).get f = b.get f :=
    (State.get_setReg_ne _ _ _ _ far.2).trans (State.get_setReg_ne _ _ _ _ far.1)
  have error : terr (State.put64 { b with nav := { b.nav with lastPulse := some k } } Reg.GNS_TOP_LO Reg.GNS_TOP_HI (k * sec)) = terr b :=
    terr_of (fun f at_ => status f (by
      obtain h | h := at_
      · rw [h]; decide
      · rw [h]; decide)) rfl rfl rfl rfl rfl rfl rfl
  have state : tstate (State.put64 { b with nav := { b.nav with lastPulse := some k } } Reg.GNS_TOP_LO Reg.GNS_TOP_HI (k * sec)) = tstate b :=
    status _ (by decide)
  rw [pulseWord, pulseWord, error, state, status F.GNS_STATUS_SLEWING (by decide)]
  rfl

theorem pulseMade_result {k : Nat} (hb : b.regsWf = true) (silent : b.out = []) (u : State)
    (hu : u = pulseMade k { b with nav := { b.nav with lastPulse := some k } }) :
    u = { b with
        regs := u.regs
        out := [.pps]
        nav := { b.nav with
          lastPulse := some k
          pulseAt := some b.now } } ∧
      u.get64 Reg.GNS_TOP_LO Reg.GNS_TOP_HI = k * sec % 2 ^ 64 ∧
      u.flag F.GNS_TOP_FLAGS_LOCK = (tstate b == tsLocked) ∧
      u.flag F.GNS_TOP_FLAGS_HOLDOVER = (tstate b == tsHoldover || tstate b == tsStepPending) ∧
      u.flag F.GNS_TOP_FLAGS_RESYNC = (b.nav.realigned == some k) ∧
      u.get F.GNS_TOP_FLAGS_SLEWING = b.get F.GNS_STATUS_SLEWING ∧
      u.get F.GNS_TOP_FLAGS_TERR_P = satN 16 (roundDiv (terr b) 10).toNat ∧
      RegsKept [Reg.GNS_TOP_LO, Reg.GNS_TOP_HI, Reg.GNS_TOP_FLAGS] b u := by
  have word := pulseWord_timed k b
  have start : ({ b with nav := { b.nav with lastPulse := some k } } : State).regsWf = true := hb
  have time := State.get64_put64 (lo := Reg.GNS_TOP_LO) (hi := Reg.GNS_TOP_HI) (by decide) (k * sec) start
  have wf : (State.put64 { b with nav := { b.nav with lastPulse := some k } } Reg.GNS_TOP_LO Reg.GNS_TOP_HI (k * sec)).regsWf = true :=
    State.regsWf_setReg _ _ _ (State.regsWf_setReg _ _ _ start)
  have kept (a : Nat) (lo : a ≠ Reg.GNS_TOP_LO) (hi : a ≠ Reg.GNS_TOP_HI) :
      (State.put64 { b with nav := { b.nav with lastPulse := some k } } Reg.GNS_TOP_LO Reg.GNS_TOP_HI (k * sec)).reg a = b.reg a :=
    (State.reg_setReg_ne _ _ _ _ hi).trans (State.reg_setReg_ne _ _ _ _ lo)
  have only : State.put64 { b with nav := { b.nav with lastPulse := some k } } Reg.GNS_TOP_LO Reg.GNS_TOP_HI (k * sec) = { b with
      regs := (State.put64 { b with nav := { b.nav with lastPulse := some k } } Reg.GNS_TOP_LO Reg.GNS_TOP_HI (k * sec)).regs
      nav := { b.nav with lastPulse := some k } } := rfl
  unfold pulseMade at hu
  dsimp only at hu
  rw [word] at hu
  generalize State.put64 { b with nav := { b.nav with lastPulse := some k } } Reg.GNS_TOP_LO Reg.GNS_TOP_HI (k * sec) = v at time wf kept only hu
  obtain ⟨small, f1, f2, f3, f4, f5⟩ := pulseWord_fields k b
  generalize pulseWord k b = w at hu small f1 f2 f3 f4 f5
  have regs : u.regs = (v.setReg Reg.GNS_TOP_FLAGS w).regs := by rw [hu]; rfl
  have reg (a : Nat) : u.reg a = (v.setReg Reg.GNS_TOP_FLAGS w).reg a := by rw [State.reg, State.reg, regs]
  have field {lo wd x : Nat} (h : bitsAt w lo wd = x) : u.get ⟨Reg.GNS_TOP_FLAGS, lo, wd⟩ = x := by
    rw [State.get, reg, State.reg_setReg_same _ _ _ wf, Nat.mod_eq_of_lt small]
    exact h
  refine ⟨?_, ?_, flag_of_b2n (field f1), flag_of_b2n (field f2), flag_of_b2n (field f3), field f4, field f5, fun a ha => ?_⟩
  · have silentV : v.out = [] := by rw [only]; exact silent
    rw [regs, hu]
    have word : v.setReg Reg.GNS_TOP_FLAGS w = { v with regs := (v.setReg Reg.GNS_TOP_FLAGS w).regs } := rfl
    generalize v.setReg Reg.GNS_TOP_FLAGS w = t at word ⊢
    have silentT : t.out = [] := by rw [word]; exact silentV
    rw [emit, silentT, word]
    generalize t.regs = r
    rw [only]
    rfl
  · rw [← time, State.get64, State.get64, reg, reg, State.reg_setReg_ne _ _ _ _ (by decide), State.reg_setReg_ne _ _ _ _ (by decide)]
  · simp only [List.mem_cons, List.not_mem_nil, or_false, not_or] at ha
    obtain ⟨lo, hi, flags⟩ := ha
    rw [reg, State.reg_setReg_ne _ _ _ _ flags, kept a lo hi]

/-- A second whose pulse is due. -/
theorem timePulse_due {k : Nat} (on_ : b.flag F.GNS_PPS_CFG_PPS_EN = true) (time : pulseTime b = true) (up : b.die.yardUp = true)
    (second : pulseSecond b = some k) (fresh : b.nav.lastPulse ≠ some k) :
    timePulse b = if b.nav.suppressed = some k then { b with nav := { b.nav with lastPulse := some k } }
      else pulseMade k { b with nav := { b.nav with lastPulse := some k } } := by
  rw [timePulse_eq, second]
  dsimp only
  rw [on_, time, up, if_neg]
  simpa using fresh

theorem timePulse_idle (idle : b.flag F.GNS_PPS_CFG_PPS_EN = false ∨ pulseTime b = false ∨ b.die.yardUp = false ∨ pulseSecond b = none ∨
    (b.nav.lastPulse.isSome = true ∧ pulseSecond b = b.nav.lastPulse)) : timePulse b = b := by
  rw [timePulse_eq]
  split
  · rfl
  next k second =>
    rw [if_pos]
    obtain off | time | down | none_ | ⟨-, same⟩ := idle
    · rw [off]; rfl
    · rw [time, Bool.and_false]; rfl
    · rw [down, Bool.and_false]; rfl
    · simp [second] at none_
    · rw [← same, second]
      simp

/-- The second of the pulse by the delay in force. -/
theorem pulseSecond_of_delay {k : Nat} (same : b.nav.ppsFrom = none) (lo : (k : Int) * sec ≤ (deviceTime b : Int) + b.gets F.GNS_PPS_DELAY_DELAY)
    (hi : (deviceTime b : Int) + b.gets F.GNS_PPS_DELAY_DELAY < (k : Int) * sec + 1000) : pulseSecond b = some k := by
  have delay : ∀ j, ppsDelayOf b j = b.gets F.GNS_PPS_DELAY_DELAY := fun j => by rw [ppsDelayOf, same]
  have secs : (sec : Int) = 1000000000 := rfl
  unfold pulseSecond
  dsimp only
  generalize b.gets F.GNS_PPS_DELAY_DELAY = v at *
  rw [delay]
  simp only [secs] at lo hi ⊢
  generalize (deviceTime b : Int) + v = d at lo hi ⊢
  have whole : d / (1000000000 : Int) = k := by omega
  rw [if_pos ⟨by omega, by omega, trivial⟩, whole]
  rfl

/-! ### The antennas -/

/-- A reading lasts since an instant or does not. -/
theorem readsFor_eq (o : Option Nat) (t : Nat) : readsFor s o t = o.any (fun a => decide (a + t ≤ s.now)) := by
  cases o <;> rfl

/-- What an antenna shows. -/
def antShown (antB : Bool) (cur : Nat) (o h : Bool) (s : State) : State := ((s.put (antCur antB) cur).put (antOpen antB) (b2n o)).put (antShort antB) (b2n h)

/-- The watch of an antenna after a reading. -/
def antWatched (antB : Bool) (cur : Nat) (low limit : Bool) (s : State) : AntWatch :=
  { lowFrom := readsFrom s (biasOn s antB && decide (cur < 3)) low (nth s.nav.ants (b2n antB) {}).lowFrom
    limitFrom := readsFrom s (biasOn s antB && decide (110 ≤ cur)) limit (nth s.nav.ants (b2n antB) {}).limitFrom }

theorem antFault_eq (antB : Bool) (cur : Nat) (low limit : Bool) (s : State) : antFault antB cur low limit s =
    let w := antWatched antB cur low limit s
    let o := readsFor s w.lowFrom sec
    let h := readsFor s w.limitFrom (10 * ms)
    let t := antShown antB (if biasOn s antB then satN 8 cur else 0) o h { s with nav := { s.nav with ants := setNth s.nav.ants (b2n antB) w } }
    if (o && !s.flag (antOpen antB)) || (h && !s.flag (antShort antB)) then raise0 Src.GNS_ANT_FAULT t else t := rfl

theorem antFields (a c : Bool) : (antCur a).fits = true ∧ (antOpen a).fits = true ∧ (antShort a).fits = true ∧
    (antCur a).apart (antOpen c) = true ∧ (antCur a).apart (antShort c) = true ∧ (antOpen a).apart (antShort c) = true ∧
    (antOpen a).apart (antCur c) = true ∧ (antShort a).apart (antCur c) = true ∧ (antShort a).apart (antOpen c) = true := by
  cases a <;> cases c <;> decide

theorem antFields_other (a : Bool) : (antCur a).apart (antCur !a) = true ∧ (antOpen a).apart (antOpen !a) = true ∧ (antShort a).apart (antShort !a) = true ∧
    calmReg (antCur a).addr = true ∧ calmReg (antOpen a).addr = true ∧ calmReg (antShort a).addr = true := by
  cases a <;> decide

theorem antShown_result {antB : Bool} {cur : Nat} (small : cur < 2 ^ 8) (o h : Bool) (hs : s.regsWf = true) :
    (antShown antB cur o h s).regsWf = true ∧ (antShown antB cur o h s).get (antCur antB) = cur ∧
    (antShown antB cur o h s).flag (antOpen antB) = o ∧ (antShown antB cur o h s).flag (antShort antB) = h ∧
    (antShown antB cur o h s).get (antCur !antB) = s.get (antCur !antB) ∧ (antShown antB cur o h s).get (antOpen !antB) = s.get (antOpen !antB) ∧
    (antShown antB cur o h s).get (antShort !antB) = s.get (antShort !antB) := by
  obtain ⟨fitsC, fitsO, fitsS, -, -, -, oc, sc, so⟩ := antFields antB antB
  obtain ⟨-, -, -, co', cs', os', oc', sc', so'⟩ := antFields antB (!antB)
  obtain ⟨cc', oo', ss', -⟩ := antFields_other antB
  have wf1 := State.regsWf_put s (antCur antB) cur hs
  have wf2 := State.regsWf_put _ (antOpen antB) (b2n o) wf1
  have width : (antCur antB).width = 8 ∧ (antOpen antB).width = 1 ∧ (antShort antB).width = 1 := by cases antB <;> decide
  have cur_ : (s.put (antCur antB) cur).get (antCur antB) = cur := State.get_put_of_lt fitsC (by rw [width.1]; exact small) hs
  have open_ : ((s.put (antCur antB) cur).put (antOpen antB) (b2n o)).get (antOpen antB) = b2n o :=
    State.get_put_of_lt fitsO (by rw [width.2.1]; exact b2n_lt o (le_refl 1)) wf1
  have short_ : (antShown antB cur o h s).get (antShort antB) = b2n h :=
    State.get_put_of_lt fitsS (by rw [width.2.2]; exact b2n_lt h (le_refl 1)) wf2
  refine ⟨State.regsWf_put _ _ _ wf2, ?_, flag_of_b2n ?_, flag_of_b2n short_, ?_, ?_, ?_⟩
  · rw [antShown, State.get_put_of_apart sc wf2, State.get_put_of_apart oc wf1, cur_]
  · rw [antShown, State.get_put_of_apart so wf2, open_]
  · rw [antShown, State.get_put_of_apart sc' wf2, State.get_put_of_apart oc' wf1, State.get_put_of_apart cc' hs]
  · rw [antShown, State.get_put_of_apart so' wf2, State.get_put_of_apart oo' wf1, State.get_put_of_apart co' hs]
  · rw [antShown, State.get_put_of_apart ss' wf2, State.get_put_of_apart os' wf1, State.get_put_of_apart cs' hs]

/-- A reading of an antenna's bias current (R492, R493). -/
theorem antFault_result {antB : Bool} {cur : Nat} {low limit : Bool} (sound : b.sound = true) (u : State) (hu : u = antFault antB cur low limit b)
    (w : AntWatch) (hw : w = nth u.nav.ants (b2n antB) {}) :
    w.lowFrom = (if biasOn b antB = true ∧ cur < 3 then
      some (if low then (nth b.nav.ants (b2n antB) {}).lowFrom.getD b.now else b.now) else none) ∧
    w.limitFrom = (if biasOn b antB = true ∧ 110 ≤ cur then
      some (if limit then (nth b.nav.ants (b2n antB) {}).limitFrom.getD b.now else b.now) else none) ∧
    u.get (antCur antB) = (if biasOn b antB then satN 8 cur else 0) ∧
    u.flag (antOpen antB) = w.lowFrom.any (fun a => decide (a + sec ≤ b.now)) ∧
    u.flag (antShort antB) = w.limitFrom.any (fun a => decide (a + 10 * ms ≤ b.now)) ∧
    (u.flag (antOpen antB) = true → b.flag (antOpen antB) = false → Flagged Src.GNS_ANT_FAULT u) ∧
    (u.flag (antShort antB) = true → b.flag (antShort antB) = false → Flagged Src.GNS_ANT_FAULT u) ∧
    u.get (antCur !antB) = b.get (antCur !antB) ∧ u.get (antOpen !antB) = b.get (antOpen !antB) ∧
    u.get (antShort !antB) = b.get (antShort !antB) ∧
    u.nav = { b.nav with ants := u.nav.ants } ∧ nth u.nav.ants (b2n !antB) {} = nth b.nav.ants (b2n !antB) {} := by
  have size : b.nav.ants.length = 2 := by
    simp only [State.sound, State.sized, Bool.and_eq_true, beq_iff_eq] at sound
    exact sound.2.1.2
  have hs := regsWf_of_sound sound
  have watch : (antWatched antB cur low limit b).lowFrom = (if biasOn b antB = true ∧ cur < 3 then
        some (if low then (nth b.nav.ants (b2n antB) {}).lowFrom.getD b.now else b.now) else none) ∧
      (antWatched antB cur low limit b).limitFrom = (if biasOn b antB = true ∧ 110 ≤ cur then
        some (if limit then (nth b.nav.ants (b2n antB) {}).limitFrom.getD b.now else b.now) else none) := by
    constructor <;> simp only [antWatched, readsFrom, Bool.and_eq_true, decide_eq_true_eq]
  have small : (if biasOn b antB then satN 8 cur else 0) < 2 ^ 8 := by
    split
    · exact satN_lt _ _
    · decide
  rw [antFault_eq] at hu
  generalize (if biasOn b antB then satN 8 cur else 0) = shown at small hu ⊢
  generalize antWatched antB cur low limit b = v at watch hu
  have start : ({ b with nav := { b.nav with ants := setNth b.nav.ants (b2n antB) v } } : State).regsWf = true := hs
  dsimp only at hu
  obtain ⟨wf, curT, openT, shortT, curO, openO, shortO⟩ :=
    antShown_result (antB := antB) small (readsFor b v.lowFrom sec) (readsFor b v.limitFrom (10 * ms)) start
  have nav : (antShown antB shown (readsFor b v.lowFrom sec) (readsFor b v.limitFrom (10 * ms))
      { b with nav := { b.nav with ants := setNth b.nav.ants (b2n antB) v } }).nav = { b.nav with ants := setNth b.nav.ants (b2n antB) v } := rfl
  generalize antShown antB shown (readsFor b v.lowFrom sec) (readsFor b v.limitFrom (10 * ms))
    { b with nav := { b.nav with ants := setNth b.nav.ants (b2n antB) v } } = t at *
  obtain ⟨-, -, -, c1, c2, c3⟩ := antFields_other antB
  obtain ⟨-, -, -, d1, d2, d3⟩ := antFields_other (!antB)
  have stands (g : Fld) (calm : calmReg g.addr = true) : u.get g = t.get g := by
    rw [hu]
    exact ((FieldStands.ite (FieldStands.refl.raiseArg calm) .refl) wf).2
  have navU : u.nav = t.nav := by
    rw [hu]
    split
    · simp [raise0]
    · rfl
  have ownW : w = v := by
    rw [hw, navU, nav]
    exact nth_setNth_same _ _ (by rw [size]; cases antB <;> decide)
  have openU : u.flag (antOpen antB) = readsFor b v.lowFrom sec := by rw [State.flag, stands _ c2]; exact openT
  have shortU : u.flag (antShort antB) = readsFor b v.limitFrom (10 * ms) := by rw [State.flag, stands _ c3]; exact shortT
  have raised (onset : (readsFor b v.lowFrom sec && !b.flag (antOpen antB) || readsFor b v.limitFrom (10 * ms) && !b.flag (antShort antB)) = true) :
      Flagged Src.GNS_ANT_FAULT u := by
    rw [hu, if_pos onset]
    exact flagged_raiseArg (by decide) wf
  refine ⟨by rw [ownW]; exact watch.1, by rw [ownW]; exact watch.2, (stands _ c1).trans curT, by rw [openU, ownW, readsFor_eq],
    by rw [shortU, ownW, readsFor_eq], fun now_ was => raised ?_, fun now_ was => raised ?_, (stands _ d1).trans curO, (stands _ d2).trans openO,
    (stands _ d3).trans shortO, by rw [navU, nav], ?_⟩
  · rw [← openU, now_, was]
    rfl
  · rw [← shortU, now_, was, Bool.or_eq_true]
    exact .inr rfl
  · rw [navU, nav]
    exact nth_setNth_ne _ _ (by cases antB <;> decide)

end

end Sys2Proof.Machine
end

section
/-!
The epochs of the receiver: navigation data, the solution, heading, attitude and position, and device time, which they discipline
(R488, R500–R522).
-/

namespace Sys2Proof.Machine

/-! ### A receiver that is switched off -/

section
variable {w : Footprint} {b s t u : State}

/-- Registers that fall back to their reset values. -/
theorem dropped_within (h : Within w b s) {p : Nat → Bool} (hp : ∀ a, p a = true → w.reg a = true) :
    Within w b { s with regs := storeDrop p s.regs } := by
  have keep (a : Nat) (ha : w.reg a = false) : ({ s with regs := storeDrop p s.regs } : State).reg a = s.reg a :=
    reg_storeDrop (Bool.eq_false_iff.mpr fun e => by simp [hp a e] at ha) s
  exact h.trans {
    wf := regsWf_storeDrop p
    reg := fun a ha => keep a (by
      simp only [Footprint.touches, Bool.or_eq_false_iff] at ha
      exact ha.2)
    flags := fun _ src free raised => flagged_of_reg (fun f hf => keep _ (by simpa [Footprint.flagsOf, hf] using free)) raised
    part := fun p _ => by cases p <;> rfl }

theorem steerSet_within (h : Within w b s) {x : Option Steer} (hp : .steer ∈ w.parts) : Within w b { s with steer := x } :=
  h.step rfl fun q hq => by
    cases q with
    | steer => exact absurd hp hq
    | _ => rfl

/-- What a receiver that stops changes. -/
def stopFoot : Footprint where
  reg a := a == Reg.GNS_STATUS || decide (0xC1000 ≤ a ∧ a < 0xC1800)
  parts := [.nav, .steer]

/-- The status of a receiver that has stopped. -/
def stopShown (s : State) : State :=
  ((channelsIdle { s with nav := { s.nav with running := false } }).put F.GNS_STATUS_FIX 0 |>.put F.GNS_STATUS_SATS 0).put F.GNS_STATUS_HEADING_VALID 0

/-- The events of a receiver that has stopped. -/
def stopTold (fix : Nat) (hdg : Bool) (s : State) : State :=
  let s := if fix = 0 then s else raise0 Src.GNS_FIX_CHANGE s
  if hdg then raise0 Src.GNS_HEADING_LOST s else s

theorem receiverStop_eq (off : gnssOn s = false) (ran : s.nav.running = true) :
    receiverStop s = stopTold (s.get F.GNS_STATUS_FIX) (s.flag F.GNS_STATUS_HEADING_VALID) (stopShown s) := by
  unfold receiverStop
  rw [off, ran]
  rfl

theorem regReset_channels : (upFrom 0 128).all (fun n => regReset (Reg.GNS_CH_SIG n) == 0) = true := by decide +kernel

theorem storeGet_storeDrop {p : Nat → Bool} {a : Nat} (gone : p a = true) : ∀ l : List (Nat × Word),
    storeGet regDefault (storeDrop p l) a = regDefault a
  | [] => rfl
  | (k, v) :: l => by
    have rest := storeGet_storeDrop gone l
    unfold storeDrop at rest ⊢
    by_cases keep : p k = true
    · rw [List.filter_cons_of_neg (by simp [keep])]
      exact rest
    · rw [List.filter_cons_of_pos (by simpa using keep), storeGet, if_neg fun e : a = k => keep (e ▸ gone)]
      exact rest

theorem channelsIdle_within (s : State) : Within stopFoot s (channelsIdle s) := by
  refine put_within (dropped_within .refl fun a ha => ?_) (by decide)
  rw [Bool.and_eq_true, decide_eq_true_eq, decide_eq_true_eq] at ha
  rw [stopFoot, Bool.or_eq_true, decide_eq_true_eq]
  exact .inr ha

/-- The channels of a receiver that has stopped are idle. -/
theorem channelsIdle_result (hs : s.regsWf = true) : (channelsIdle s).get F.GNS_STATUS_CHANNELS = 0 ∧
    ∀ n, n < 128 → (channelsIdle s).get (F.GNS_CH_SIG_STATE n) = 0 := by
  have wf := regsWf_storeDrop (fun a => decide (Reg.GNS_CH_SIG 0 ≤ a) && decide (a < Reg.GNS_CH_SIG 128)) hs
  refine ⟨State.get_put_of_lt (by decide) (by decide) wf, fun n hn => ?_⟩
  · have gone : (decide (Reg.GNS_CH_SIG 0 ≤ Reg.GNS_CH_SIG n) && decide (Reg.GNS_CH_SIG n < Reg.GNS_CH_SIG 128)) = true := by
      rw [Bool.and_eq_true]
      exact ⟨decide_eq_true (by simp only [Reg.GNS_CH_SIG]; omega), decide_eq_true (by simp only [Reg.GNS_CH_SIG]; omega)⟩
    have reset : regReset (Reg.GNS_CH_SIG n) = 0 := by
      have all := List.all_eq_true.mp regReset_channels n (by simpa using hn)
      exact beq_iff_eq.mp all
    have zero : (channelsIdle s).reg (Reg.GNS_CH_SIG n) = 0 := by
      have apart : Reg.GNS_CH_SIG n ≠ Reg.GNS_STATUS := by
        simp only [Reg.GNS_CH_SIG, Reg.GNS_STATUS]
        omega
      refine (State.reg_put_ne _ _ _ _ apart).trans ?_
      rw [State.reg, storeGet_storeDrop gone, regDefault, reset]
      rfl
    exact (congrArg (bitsAt · 13 3) zero).trans (by decide)

theorem stopShown_result (hs : s.regsWf = true) : Within stopFoot s (stopShown s) ∧ (stopShown s).nav = { s.nav with running := false } ∧
    (stopShown s).steer = s.steer ∧
    (stopShown s).get F.GNS_STATUS_FIX = 0 ∧ (stopShown s).get F.GNS_STATUS_SATS = 0 ∧ (stopShown s).get F.GNS_STATUS_CHANNELS = 0 ∧
    (stopShown s).get F.GNS_STATUS_HEADING_VALID = 0 ∧ (∀ n, n < 128 → (stopShown s).get (F.GNS_CH_SIG_STATE n) = 0) ∧
    (stopShown s).get F.GNS_STATUS_TSTATE = s.get F.GNS_STATUS_TSTATE := by
  have start : ({ s with nav := { s.nav with running := false } } : State).regsWf = true := hs
  have idle := channelsIdle_within { s with nav := { s.nav with running := false } }
  obtain ⟨channels, states⟩ := channelsIdle_result start
  have state : (channelsIdle { s with nav := { s.nav with running := false } }).get F.GNS_STATUS_TSTATE = s.get F.GNS_STATUS_TSTATE :=
    (State.get_put_of_apart (by decide) (regsWf_storeDrop _ start)).trans (congrArg (fun w => bitsAt w _ _) (reg_storeDrop (by decide) _))
  have nav : (channelsIdle { s with nav := { s.nav with running := false } }).nav = { s.nav with running := false } := rfl
  have steer : (channelsIdle { s with nav := { s.nav with running := false } }).steer = s.steer := rfl
  have wf := idle.wf start
  have within0 : Within stopFoot s (channelsIdle { s with nav := { s.nav with running := false } }) := (nav_within .refl (by decide)).trans idle
  unfold stopShown
  generalize channelsIdle { s with nav := { s.nav with running := false } } = v at *
  have wf1 := State.regsWf_put v F.GNS_STATUS_FIX 0 wf
  have wf2 := State.regsWf_put _ F.GNS_STATUS_SATS 0 wf1
  refine ⟨put_within (put_within (put_within within0 (by decide)) (by decide)) (by decide), nav, steer, ?_, ?_, ?_,
    State.get_put_of_lt (by decide) (by decide) wf2, fun n hn => ?_, ?_⟩
  · rw [State.get_put_of_apart (by decide) wf2, State.get_put_of_apart (by decide) wf1, State.get_put_of_lt (by decide) (by decide) wf]
  · rw [State.get_put_of_apart (by decide) wf2, State.get_put_of_lt (by decide) (by decide) wf1]
  · rw [State.get_put_of_apart (by decide) wf2, State.get_put_of_apart (by decide) wf1, State.get_put_of_apart (by decide) wf, channels]
  · have far (f : Fld) (at_ : f.addr = Reg.GNS_STATUS) (fits : f.fits = true) : f.apart (F.GNS_CH_SIG_STATE n) = true :=
      apart_of_addr fits (by
        rw [at_]
        simp only [F.GNS_CH_SIG_STATE, Reg.GNS_CH_SIG, Reg.GNS_STATUS]
        omega)
    rw [State.get_put_of_apart (far _ rfl (by decide)) wf2, State.get_put_of_apart (far _ rfl (by decide)) wf1,
      State.get_put_of_apart (far _ rfl (by decide)) wf, states n hn]
  · rw [State.get_put_of_apart (by decide) wf2, State.get_put_of_apart (by decide) wf1, State.get_put_of_apart (by decide) wf, state]

/-- Two events, one after another, each of them or not. -/
theorem stopTold_result (fix : Nat) (hdg : Bool) (hs : s.regsWf = true) : Within ⟨fun _ => false, []⟩ s (stopTold fix hdg s) ∧
    (fix ≠ 0 → Flagged Src.GNS_FIX_CHANGE (stopTold fix hdg s)) ∧ (hdg = true → Flagged Src.GNS_HEADING_LOST (stopTold fix hdg s)) := by
  have first : Within ⟨fun _ => false, []⟩ s (if fix = 0 then s else raise0 Src.GNS_FIX_CHANGE s) := ite_within .refl (raise0_within .refl)
  have changed : fix ≠ 0 → Flagged Src.GNS_FIX_CHANGE (if fix = 0 then s else raise0 Src.GNS_FIX_CHANGE s) := fun some_ => by
    rw [if_neg some_]
    exact flagged_raiseArg (by decide) hs
  unfold stopTold
  dsimp only
  generalize (if fix = 0 then s else raise0 Src.GNS_FIX_CHANGE s) = v at first changed
  have second : Within ⟨fun _ => false, []⟩ v (if hdg then raise0 Src.GNS_HEADING_LOST v else v) := ite_within (raise0_within .refl) .refl
  refine ⟨first.trans second, fun some_ => second.flags (first.wf hs) _ (by decide) (changed some_), fun lost => ?_⟩
  rw [if_pos lost]
  exact flagged_raiseArg (by decide) (first.wf hs)

theorem gnssOn_of_within (h : Within w b s)
    (far : ∀ a ∈ [Reg.GNS_CFG, Reg.CLK_GATE_STATE, Reg.CLK_SRC, Reg.PWR_LEVEL], w.touches a = false)
    (parts : Part.role ∉ w.parts ∧ Part.die ∉ w.parts) : gnssOn s = gnssOn b := by
  have role : s.role = b.role := h.part .role parts.1
  have die : s.die = b.die := h.part .die parts.2
  have gate (g : Nat) : gateState s g = gateState b g := by
    rw [gateState, gateState, h.get (far _ (by simp [F.CLK_GATE_STATE_STATE]))]
  simp only [gnssOn, isTerminus, isRelief, role, die, islandOpen, gate, groupStopped, State.flag, h.get (f := F.GNS_CFG_EN) (far _ (by simp [F.GNS_CFG_EN])),
    h.get (f := F.CLK_SRC_CAN) (far _ (by simp [F.CLK_SRC_CAN])), h.get (f := F.CLK_SRC_CAM) (far _ (by simp [F.CLK_SRC_CAM])),
    h.get (f := F.CLK_SRC_NET) (far _ (by simp [F.CLK_SRC_NET])), h.get (f := F.CLK_SRC_GNSS) (far _ (by simp [F.CLK_SRC_GNSS])),
    h.get (f := F.PWR_LEVEL_CUR) (far _ (by simp [F.PWR_LEVEL_CUR]))]

/-- The entry of HOLDOVER (R514). -/
theorem enterHoldover_result (hs : s.regsWf = true) : Within ⟨fun a => a == Reg.GNS_STATUS, [.steer]⟩ s (enterHoldover s) ∧
    tstate (enterHoldover s) = tsHoldover ∧ (enterHoldover s).steer = none ∧ (enterHoldover s).flag F.GNS_STATUS_SLEWING = false ∧
    Flagged Src.GNS_HOLDOVER_IN (enterHoldover s) ∧
    ∀ g, F.GNS_STATUS_TSTATE.apart g = true → F.GNS_STATUS_SLEWING.apart g = true → FieldStands g s { s.put F.GNS_STATUS_TSTATE tsHoldover with steer := none } ∧
      (calmReg g.addr = true → FieldStands g s (enterHoldover s)) := by
  have wf1 : ({ s.put F.GNS_STATUS_TSTATE tsHoldover with steer := none } : State).regsWf = true := State.regsWf_put s _ _ hs
  have state : ({ s.put F.GNS_STATUS_TSTATE tsHoldover with steer := none } : State).get F.GNS_STATUS_TSTATE = tsHoldover :=
    State.get_put_of_lt (by decide) (by decide) hs
  have within1 : Within ⟨fun a => a == Reg.GNS_STATUS, [.steer]⟩ s { s.put F.GNS_STATUS_TSTATE tsHoldover with steer := none } :=
    steerSet_within (put_within .refl (by decide)) (by decide)
  have stands1 (g : Fld) (a : F.GNS_STATUS_TSTATE.apart g = true) : FieldStands g s { s.put F.GNS_STATUS_TSTATE tsHoldover with steer := none } :=
    FieldStands.parts (.put .refl a)
  have steer : ({ s.put F.GNS_STATUS_TSTATE tsHoldover with steer := none } : State).steer = none := rfl
  have run : enterHoldover s = raise0 Src.GNS_HOLDOVER_IN
      (State.put { s.put F.GNS_STATUS_TSTATE tsHoldover with steer := none } F.GNS_STATUS_SLEWING 0) := rfl
  rw [run]
  generalize ({ s.put F.GNS_STATUS_TSTATE tsHoldover with steer := none } : State) = v at *
  have wf2 := State.regsWf_put v F.GNS_STATUS_SLEWING 0 wf1
  have slew : (v.put F.GNS_STATUS_SLEWING 0).get F.GNS_STATUS_SLEWING = 0 := State.get_put_of_lt (by decide) (by decide) wf1
  have state2 : (v.put F.GNS_STATUS_SLEWING 0).get F.GNS_STATUS_TSTATE = tsHoldover := (State.get_put_of_apart (by decide) wf1).trans state
  have told (g : Fld) (calm : calmReg g.addr = true) : (raise0 Src.GNS_HOLDOVER_IN (v.put F.GNS_STATUS_SLEWING 0)).get g = (v.put F.GNS_STATUS_SLEWING 0).get g :=
    ((FieldStands.refl.raiseArg calm) wf2).2
  refine ⟨raise0_within (put_within within1 (by decide)), (told _ (by decide)).trans state2, ?_, ?_, flagged_raiseArg (by decide) wf2,
    fun g a1 a2 => ⟨stands1 g a1, fun calm => ((stands1 g a1).put a2).raiseArg calm⟩⟩
  · rw [← steer]
    simp [raise0]
  · rw [State.flag, told _ (by decide), slew]
    rfl

theorem receiverWatch_off (off : gnssOn b = false) : receiverWatch b = holdoverWatch (receiverStop b) := by
  have start : receiverStart b = b := by
    unfold receiverStart
    rw [off]
    rfl
  rw [receiverWatch, start]

/-- A receiver that is off, and did not run. -/
theorem receiverStop_idle (idle : gnssOn b = true ∨ b.nav.running = false) : receiverStop b = b := by
  unfold receiverStop
  obtain on_ | stopped := idle
  · rw [on_]; rfl
  · rw [stopped, Bool.not_false, Bool.or_true, if_pos rfl]

/-- A receiver that stops (R500, R509). -/
theorem receiverStop_result (hs : b.regsWf = true) (off : gnssOn b = false) (ran : b.nav.running = true) (u : State) (hu : u = receiverStop b) :
    Within stopFoot b u ∧ u.nav = { b.nav with running := false } ∧ u.steer = b.steer ∧ u.get F.GNS_STATUS_FIX = 0 ∧ u.get F.GNS_STATUS_SATS = 0 ∧
      u.get F.GNS_STATUS_CHANNELS = 0 ∧ u.flag F.GNS_STATUS_HEADING_VALID = false ∧ (∀ n, n < 128 → u.get (F.GNS_CH_SIG_STATE n) = 0) ∧
      tstate u = tstate b ∧ (b.get F.GNS_STATUS_FIX ≠ 0 → Flagged Src.GNS_FIX_CHANGE u) ∧
      (b.flag F.GNS_STATUS_HEADING_VALID = true → Flagged Src.GNS_HEADING_LOST u) := by
  rw [receiverStop_eq off ran] at hu
  obtain ⟨within_, nav, steer, fix, sats, channels, heading, states, state⟩ := stopShown_result hs
  obtain ⟨told, changed, lost⟩ := stopTold_result (b.get F.GNS_STATUS_FIX) (b.flag F.GNS_STATUS_HEADING_VALID) (within_.wf hs)
  generalize stopShown b = v at *
  rw [← hu] at told changed lost
  have get_ {g : Fld} (low : g.addr < 0xF0110) (quiet_ : g.addr ∉ raisePlaces) : u.get g = v.get g := told.get (touches_eq_false rfl low quiet_)
  refine ⟨within_.trans (told.mono (by simp) (by simp)), Eq.trans (told.part .nav (by decide)) nav, Eq.trans (told.part .steer (by decide)) steer,
    (get_ (by decide) (by decide)).trans fix, (get_ (by decide) (by decide)).trans sats, (get_ (by decide) (by decide)).trans channels, ?_,
    fun n hn => (get_ ?_ ?_).trans (states n hn), (get_ (by decide) (by decide)).trans state, changed, lost⟩
  · rw [State.flag, get_ (by decide) (by decide), heading]
    rfl
  · simp only [F.GNS_CH_SIG_STATE, Reg.GNS_CH_SIG]
    omega
  · simp only [raisePlaces, F.GNS_CH_SIG_STATE, Reg.GNS_CH_SIG]
    simp only [List.mem_cons, List.not_mem_nil, or_false]
    omega

theorem holdoverWatch_within (s : State) : Within stopFoot s (holdoverWatch s) ∧ (holdoverWatch s).nav = s.nav ∧
    (s.regsWf = true → ∀ g, F.GNS_STATUS_TSTATE.apart g = true → F.GNS_STATUS_SLEWING.apart g = true → calmReg g.addr = true →
      (holdoverWatch s).get g = s.get g) := by
  unfold holdoverWatch
  split
  · have nav : (enterHoldover s).nav = s.nav := by simp [enterHoldover, raise0]
    exact ⟨raise0_within (put_within (steerSet_within (put_within .refl (by decide)) (by decide)) (by decide)), nav,
      fun hs g a1 a2 calm => (((enterHoldover_result hs).2.2.2.2.2 g a1 a2).2 calm hs).2⟩
  · exact ⟨.refl, rfl, fun _ _ _ _ _ => rfl⟩

theorem gnssEpoch_off (x : GnssFix) (off : gnssOn b = false) : gnssEpoch x b = holdoverWatch (receiverStop b) := by
  have stopped : Within stopFoot b (receiverStop b) := by
    have idle : Within stopFoot b (channelsIdle { b with nav := { b.nav with running := false } }) :=
      (nav_within .refl (by decide)).trans (channelsIdle_within _)
    have shown := put_within (put_within (put_within idle (f := F.GNS_STATUS_FIX) (v := 0) (by decide)) (f := F.GNS_STATUS_SATS) (v := 0) (by decide))
      (f := F.GNS_STATUS_HEADING_VALID) (v := 0) (by decide)
    exact ite_within .refl (ite_within (raise0_within (ite_within shown (raise0_within shown))) (ite_within shown (raise0_within shown)))
  have stays : gnssOn (holdoverWatch (receiverStop b)) = false :=
    (gnssOn_of_within (stopped.trans (holdoverWatch_within _).1) (by decide) (by decide)).trans off
  unfold gnssEpoch
  rw [receiverWatch_off off]
  dsimp only
  rw [stays]
  rfl

/-- An epoch with the receiver off, which neither ran nor is late for HOLDOVER. -/
theorem gnssEpoch_rests {x : GnssFix} (off : gnssOn b = false) (stopped : b.nav.running = false)
    (rests : isTerminus b = false ∨ b.die.yardUp = false ∨ tstate b ≠ tsLocked ∨ b.now < b.nav.lastValid + sec) : gnssEpoch x b = b := by
  rw [gnssEpoch_off x off, receiverStop_idle (.inr stopped), holdoverWatch, if_neg]
  rintro ⟨term, up, -, locked, late⟩
  obtain h | h | h | h := rests
  · simp [h] at term
  · simp [h] at up
  · exact h locked
  · omega

theorem gnssEpoch_stops {x : GnssFix} (hs : b.regsWf = true) (off : gnssOn b = false) (ran : b.nav.running = true) (u : State) (hu : u = gnssEpoch x b) :
    u.nav = { b.nav with running := false } ∧ u.get F.GNS_STATUS_FIX = 0 ∧ u.get F.GNS_STATUS_SATS = 0 ∧
      u.get F.GNS_STATUS_CHANNELS = 0 ∧ u.flag F.GNS_STATUS_HEADING_VALID = false ∧
      (∀ n, n < 128 → u.get (F.GNS_CH_SIG_STATE n) = 0) ∧ (b.get F.GNS_STATUS_FIX ≠ 0 → Flagged Src.GNS_FIX_CHANGE u) ∧
      (b.flag F.GNS_STATUS_HEADING_VALID = true → Flagged Src.GNS_HEADING_LOST u) := by
  obtain ⟨within_, nav, -, fix, sats, channels, heading, states, -, changed, lost⟩ := receiverStop_result hs off ran _ rfl
  rw [gnssEpoch_off x off] at hu
  generalize receiverStop b = v at *
  obtain ⟨watched, navU, stands⟩ := holdoverWatch_within v
  have wf := within_.wf hs
  rw [← hu] at watched navU stands
  refine ⟨navU.trans nav, (stands wf _ (by decide) (by decide) (by decide)).trans fix, (stands wf _ (by decide) (by decide) (by decide)).trans sats,
    (stands wf _ (by decide) (by decide) (by decide)).trans channels, ?_, fun n hn => ?_, fun h => watched.flags wf _ (by decide) (changed h),
    fun h => watched.flags wf _ (by decide) (lost h)⟩
  · rw [State.flag, stands wf _ (by decide) (by decide) (by decide)]
    exact heading
  · have low : (F.GNS_CH_SIG_STATE n).addr < 0xF0110 := by
      simp only [F.GNS_CH_SIG_STATE, Reg.GNS_CH_SIG]
      omega
    have far : (F.GNS_CH_SIG_STATE n).addr ∉ raisePlaces := by
      simp only [raisePlaces, F.GNS_CH_SIG_STATE, Reg.GNS_CH_SIG, List.mem_cons, List.not_mem_nil, or_false]
      omega
    have other : Reg.GNS_STATUS ≠ (F.GNS_CH_SIG_STATE n).addr := by
      simp only [F.GNS_CH_SIG_STATE, Reg.GNS_CH_SIG, Reg.GNS_STATUS]
      omega
    exact (stands wf _ (apart_of_addr (by decide) other) (apart_of_addr (by decide) other) (calmReg_of_low low far)).trans (states n hn)

theorem gnssEpoch_holds {x : GnssFix} (hs : b.regsWf = true) (off : gnssOn b = false) (term : isTerminus b = true) (up : b.die.yardUp = true)
    (locked : tstate b = tsLocked) (late : b.nav.lastValid + sec ≤ b.now) (u : State) (hu : u = gnssEpoch x b) :
    tstate u = tsHoldover ∧ u.steer = none ∧ u.flag F.GNS_STATUS_SLEWING = false ∧ Flagged Src.GNS_HOLDOVER_IN u := by
  have stopped : Within stopFoot b (receiverStop b) ∧ (receiverStop b).nav.lastValid = b.nav.lastValid ∧ tstate (receiverStop b) = tstate b := by
    by_cases ran : b.nav.running = true
    · obtain ⟨within_, nav, -, -, -, -, -, -, state, -⟩ := receiverStop_result hs off ran _ rfl
      exact ⟨within_, by rw [nav], state⟩
    · rw [receiverStop_idle (.inr (Bool.eq_false_iff.mpr ran))]
      exact ⟨.refl, rfl, rfl⟩
  rw [gnssEpoch_off x off] at hu
  generalize receiverStop b = v at *
  obtain ⟨within_, last, state⟩ := stopped
  have role : v.role = b.role := within_.part .role (by decide)
  have die : v.die = b.die := within_.part .die (by decide)
  have now_ : v.now = b.now := within_.part .now (by decide)
  have offV : gnssOn v = false := (gnssOn_of_within within_ (by decide) (by decide)).trans off
  have ran : holdoverWatch v = enterHoldover v :=
    if_pos ⟨by rw [isTerminus, role]; exact term, by rw [die]; exact up, offV, state.trans locked, by rw [last, now_]; exact late⟩
  rw [ran] at hu
  obtain ⟨-, st, steer, slewing, flagged, -⟩ := enterHoldover_result (within_.wf hs)
  rw [hu]
  exact ⟨st, steer, slewing, flagged⟩

end

/-! ### The solution of an epoch -/

section
variable {w : Footprint} {b s t u : State} {x : GnssFix}

/-- What an epoch writes before it disciplines device time. -/
def epochFoot : Footprint where
  reg a := decide (0xC0080 ≤ a ∧ a < 0xC00C8)
  parts := [.nav, .log]

/-- The receiver, which runs, with the navigation data of the epoch. -/
def epochBegun (x : GnssFix) (b : State) : State := takeNavData x (startTimeState (receiverStart b))

/-- The offset to device time of a valid solution, shown. -/
def offsetShown (valid : Bool) (off : Int) (s : State) : State :=
  if valid then State.puts { s with nav := { s.nav with lastOffset := off } } F.GNS_OFFSET_OFFSET off else s

/-- What a solution of the time does to device time. -/
def timeJudged (valid : Bool) (off : Int) (s : State) : State :=
  if isTerminus s then discipline valid off s else if valid then { s with nav := { s.nav with lastValid := s.now } } else s

/-- The solution, reported. -/
def epochReported (x : GnssFix) (valid : Bool) (off : Int) (s : State) : State := fixWatch (reportFix x (refreshSource (offsetShown valid off s)))

theorem receiverWatch_on (on_ : gnssOn b = true) : receiverWatch b = receiverStart b := by
  have only := (receiverStart_only b).1
  have stays : gnssOn (receiverStart b) = true := by rw [only]; exact on_
  rw [receiverWatch, receiverStop_idle (.inl stays), holdoverWatch, if_neg fun h => by simp [stays] at h]

/-- What the start of the receiver leaves of its part. -/
theorem receiverStart_result (on_ : gnssOn b = true) (due_ : b.nav.running = true → epochDue b = true) : receiverStart b = { b with nav := { b.nav with
      running := true
      hot := (receiverStart b).nav.hot
      engines := (receiverStart b).nav.engines
      epochAt := (receiverStart b).nav.epochAt } } ∧ (b.nav.running = false → (receiverStart b).nav.hot = hotStart b) ∧
    epochDue (receiverStart b) = true := by
  unfold receiverStart
  rw [on_]
  cases ran : b.nav.running
  · exact ⟨rfl, fun _ => rfl, rfl⟩
  · refine ⟨?_, fun h => by simp at h, due_ ran⟩
    rw [Bool.not_true, Bool.false_or, if_pos rfl, ← ran]

theorem gnssEpoch_runs (on_ : gnssOn b = true) (due_ : b.nav.running = true → epochDue b = true) : gnssEpoch x b =
    timeJudged (timeSolution (epochBegun x b) x) (timeOffset (epochBegun x b) x)
      (epochReported x (timeSolution (epochBegun x b) x) (timeOffset (epochBegun x b) x) (epochBegun x b)) := by
  have only := (receiverStart_only b).1
  have stays : gnssOn (receiverStart b) = true := by rw [only]; exact on_
  have due' := (receiverStart_result on_ due_).2.2
  unfold gnssEpoch
  rw [receiverWatch_on on_]
  dsimp only
  rw [stays, due']
  rfl

theorem gnssEpoch_early (on_ : gnssOn b = true) (ran : b.nav.running = true) (early : epochDue b = false) : gnssEpoch x b = b := by
  have same : receiverStart b = b := by
    unfold receiverStart
    rw [ran, Bool.or_true, if_pos rfl]
  unfold gnssEpoch
  rw [receiverWatch_on on_, same]
  dsimp only
  rw [early, Bool.not_false, Bool.or_true, if_pos rfl]

/-! ### Navigation data -/

theorem gathers_keep (h : Nat) : ∀ (l : List (Nat × Nat)) (s : State), ∃ ev, foldOver (fun s (e : Nat × Nat) => gather h e.2 s) s l = { s with ev := ev }
  | [], s => ⟨s.ev, rfl⟩
  | e :: l, s => by
    obtain ⟨ev, rest⟩ := gathers_keep h l (gather h e.2 s)
    exact ⟨ev, rest⟩

/-- The orbits that a satellite's ephemeris leaves known. -/
def orbitsWith (now : Nat) (orbits : List (Nat × Nat × Nat)) (o : Nat × Nat) : List (Nat × Nat × Nat) :=
  orbits.filter (fun e => !(e.1 == o.1 && e.2.1 == o.2)) ++ [(o.1, o.2, now)]

theorem mem_orbitsWith_of_mem {now : Nat} {orbits : List (Nat × Nat × Nat)} {p : Nat × Nat} (o : Nat × Nat) (h : (p.1, p.2, now) ∈ orbits) :
    (p.1, p.2, now) ∈ orbitsWith now orbits o := by
  unfold orbitsWith
  by_cases same : p.1 = o.1 ∧ p.2 = o.2
  · exact List.mem_append_right _ (by rw [same.1, same.2]; exact List.mem_cons_self)
  · refine List.mem_append_left _ (List.mem_filter.mpr ⟨h, ?_⟩)
    simp only [Bool.not_eq_true', Bool.and_eq_false_iff, beq_eq_false_iff_ne]
    exact not_and_or.mp same

theorem learns_result : ∀ (l : List (Nat × Nat)) (s : State), ∃ orbits,
    foldOver (fun s (o : Nat × Nat) => learnOrbit o.1 o.2 s) s l = { s with nav := { s.nav with orbits := orbits } } ∧
      (∀ p : Nat × Nat, (p.1, p.2, s.now) ∈ s.nav.orbits → (p.1, p.2, s.now) ∈ orbits) ∧ ∀ o ∈ l, (o.1, o.2, s.now) ∈ orbits
  | [], s => ⟨s.nav.orbits, rfl, fun _ h => h, fun _ h => nomatch h⟩
  | o :: l, s => by
    obtain ⟨orbits, rest, kept, all⟩ := learns_result l (learnOrbit o.1 o.2 s)
    refine ⟨orbits, rest, fun p h => kept p (mem_orbitsWith_of_mem o h), fun p hp => ?_⟩
    obtain rfl | mem := List.mem_cons.mp hp
    · exact kept p (List.mem_append_right _ List.mem_cons_self)
    · exact all p mem

/-- What the systems broadcast of their offsets, with that of the epoch. -/
def offsetsWith (x : GnssFix) (l : List (Nat × Int)) : List (Nat × Int) := foldOver (fun l (e : Nat × Int) => putNum l e.1 e.2) l x.offsets

theorem takeNavData_result (x : GnssFix) (s : State) : ∃ ev orbits, takeNavData x s = { s with
      ev := ev
      nav := { s.nav with
        epochAt := some (deviceTime s)
        sysOffset := offsetsWith x s.nav.sysOffset
        orbits := orbits } } ∧ ∀ o ∈ x.orbits, (o.1, o.2, s.now) ∈ orbits := by
  obtain ⟨ev, gathered⟩ := gathers_keep 59 x.used { s with nav := { s.nav with
    epochAt := some (deviceTime s)
    sysOffset := offsetsWith x s.nav.sysOffset } }
  obtain ⟨orbits, learned, -, all⟩ := learns_result x.orbits { s with
    ev := ev
    nav := { s.nav with
      epochAt := some (deviceTime s)
      sysOffset := offsetsWith x s.nav.sysOffset } }
  refine ⟨ev, orbits, ?_, all⟩
  unfold takeNavData
  dsimp only
  have first : foldOver (fun s (e : Nat × Nat) => gather 59 e.2 s) { s with nav := { s.nav with
      epochAt := some (deviceTime s)
      sysOffset := foldOver (fun l (e : Nat × Int) => putNum l e.1 e.2) s.nav.sysOffset x.offsets } } x.used = _ := gathered
  rw [first]
  exact learned

/-- What the solution of the time turns on. -/
theorem timeSolution_of {s t : State} (elev : t.get F.GNS_CFG_ELEV = s.get F.GNS_CFG_ELEV) (cn0 : t.get F.GNS_CFG_CN0_MIN = s.get F.GNS_CFG_CN0_MIN)
    (delay : t.get F.GNS_ANT_CFG_ANT_DELAY = s.get F.GNS_ANT_CFG_ANT_DELAY) (offsets : t.nav.sysOffset = s.nav.sysOffset)
    (time : deviceTime t = deviceTime s) : timeSolution t x = timeSolution s x ∧ timeOffset t x = timeOffset s x := by
  have gps : gpsTime t x = gpsTime s x := by rw [gpsTime, gpsTime, offsets]
  exact ⟨by rw [timeSolution, timeSolution, elev, cn0, gps], by rw [timeOffset, timeOffset, gps, delay, time]⟩

/-- The time state with which an epoch begins. -/
def startedState (b : State) : Nat :=
  if isTerminus b = false then tsOff else if tstate b ≠ tsOff then tstate b else if timeValid b then tsHoldover else tsAcquiring

theorem startTimeState_result (hs : s.regsWf = true) (en : s.flag F.GNS_CFG_EN = true) : startTimeState s = { s with regs := (startTimeState s).regs } ∧
    Within epochFoot s (startTimeState s) ∧ tstate (startTimeState s) = startedState s ∧
    ∀ g, F.GNS_STATUS_TSTATE.apart g = true → (startTimeState s).get g = s.get g := by
  have put_ (v : Nat) (small : v < 8) : s.put F.GNS_STATUS_TSTATE v = { s with regs := (s.put F.GNS_STATUS_TSTATE v).regs } ∧
      Within epochFoot s (s.put F.GNS_STATUS_TSTATE v) ∧ tstate (s.put F.GNS_STATUS_TSTATE v) = v ∧
      ∀ g, F.GNS_STATUS_TSTATE.apart g = true → (s.put F.GNS_STATUS_TSTATE v).get g = s.get g :=
    ⟨rfl, put_within .refl (by decide), State.get_put_of_lt (by decide) small hs, fun g a => State.get_put_of_apart a hs⟩
  unfold startTimeState startedState
  rw [en]
  by_cases term : isTerminus s = true
  · rw [term]
    simp only [Bool.not_true, Bool.or_self, Bool.false_eq_true, if_false, Bool.true_eq_false]
    split
    · exact ⟨rfl, .refl, rfl, fun _ _ => rfl⟩
    · exact put_ _ (by split <;> decide)
  · rw [Bool.eq_false_iff.mpr term]
    simp only [Bool.not_true, Bool.not_false, Bool.or_true, if_true]
    exact put_ _ (by decide)

/-- The state in which an epoch looks at the solution. -/
structure EpochBegun (x : GnssFix) (b s : State) : Prop where
  within_ : Within epochFoot b s
  state : tstate s = startedState b
  stands : ∀ g, F.GNS_STATUS_TSTATE.apart g = true → s.get g = b.get g
  nav : s.nav = { b.nav with
    running := true
    hot := s.nav.hot
    engines := s.nav.engines
    epochAt := some (deviceTime b)
    sysOffset := s.nav.sysOffset
    orbits := s.nav.orbits }
  hot : b.nav.running = false → s.nav.hot = hotStart b
  orbits : ∀ o ∈ x.orbits, (o.1, o.2, b.now) ∈ s.nav.orbits
  solution : timeSolution s x = timeSolution (takeNavData x b) x ∧ timeOffset s x = timeOffset (takeNavData x b) x

theorem epochBegun_result (hs : b.regsWf = true) (on_ : gnssOn b = true) (due_ : b.nav.running = true → epochDue b = true) :
    EpochBegun x b (epochBegun x b) := by
  obtain ⟨only, hot, -⟩ := receiverStart_result on_ due_
  have en : b.flag F.GNS_CFG_EN = true := by
    simp only [gnssOn, Bool.and_eq_true] at on_
    exact on_.1.1.1
  have regs1 : (receiverStart b).regs = b.regs := by rw [only]
  have wf1 : (receiverStart b).regsWf = true := by rw [only]; exact hs
  have within1 : Within epochFoot b (receiverStart b) := by rw [only]; exact nav_within .refl (by decide)
  have en1 : (receiverStart b).flag F.GNS_CFG_EN = true := by rw [State.flag, State.get_of_regs regs1]; exact en
  have state1 : startedState (receiverStart b) = startedState b := by rw [only]; rfl
  have time1 : deviceTime (receiverStart b) = deviceTime b := by rw [only]; rfl
  have now1 : (receiverStart b).now = b.now := by rw [only]
  have nav1 := congrArg State.nav only
  unfold epochBegun
  generalize receiverStart b = r at *
  obtain ⟨only2, within2, state2, stands2⟩ := startTimeState_result wf1 en1
  have nav2 : (startTimeState r).nav = r.nav := by rw [only2]
  have time2 : deviceTime (startTimeState r) = deviceTime b := by rw [only2]; exact time1
  have now2 : (startTimeState r).now = b.now := by rw [only2]; exact now1
  generalize startTimeState r = v at *
  obtain ⟨ev, orbits, taken, known⟩ := takeNavData_result x v
  obtain ⟨ev', orbits', takenB, -⟩ := takeNavData_result x b
  rw [time2] at taken
  rw [now2] at known
  have sys : v.nav.sysOffset = b.nav.sysOffset := by rw [nav2, nav1]
  have regs3 : (takeNavData x v).regs = v.regs := by rw [taken]
  have regsB : (takeNavData x b).regs = b.regs := by rw [takenB]
  have get3 (g : Fld) (a : F.GNS_STATUS_TSTATE.apart g = true) : (takeNavData x v).get g = b.get g := by
    rw [State.get_of_regs regs3, stands2 g a, State.get_of_regs regs1]
  have same (g : Fld) (a : F.GNS_STATUS_TSTATE.apart g = true) : (takeNavData x v).get g = (takeNavData x b).get g := by
    rw [get3 g a, State.get_of_regs regsB]
  refine ⟨?_, ?_, get3, ?_, fun stopped => ?_, fun o ho => ?_, timeSolution_of (same _ (by decide)) (same _ (by decide)) (same _ (by decide)) ?_ ?_⟩
  · rw [taken]
    exact nav_within (s := { v with ev := ev }) (ev_within (within1.trans within2) (by decide)) (by decide)
  · rw [tstate, State.get_of_regs regs3]
    exact state2.trans state1
  · rw [taken, nav2, nav1]
  · rw [taken, nav2]
    exact hot stopped
  · rw [taken]
    exact known o ho
  · rw [taken, takenB, sys]
  · rw [taken, takenB]
    exact time2

/-! ### The source of corrections in an epoch -/

/-- The choice of the source of corrections turns on little. -/
theorem chooseSource_of {s t : State} (gets : ∀ f : Fld, f.addr = Reg.GNS_CORR ∨ f.addr = Reg.GNS_RTK_CFG → t.get f = s.get f)
    (now : t.now = s.now) (sources : t.nav.sources = s.nav.sources) :
    chooseSource t = chooseSource s ∧ ∀ k, sourceCurrent t k = sourceCurrent s k ∧ corrSource t k = corrSource s k := by
  have own (k : Nat) : corrSource t k = corrSource s k := corrSource_of_sources sources k
  have age : ageMax t = ageMax s := by rw [ageMax, ageMax, gets _ (.inr rfl)]
  have current (k : Nat) : sourceCurrent t k = sourceCurrent s k := by rw [sourceCurrent, sourceCurrent, own, age, now]
  have steady : sourceSteady t = sourceSteady s := funext fun k => by rw [sourceSteady, sourceSteady, current, own, now]
  have order : sourceOrder t = sourceOrder s := by rw [sourceOrder, sourceOrder, gets _ (.inr rfl), gets _ (.inr rfl), gets _ (.inr rfl)]
  have currents : sourceCurrent t = sourceCurrent s := funext current
  exact ⟨by rw [chooseSource, chooseSource, order, currents, steady, gets _ (.inl rfl)], fun k => ⟨current k, own k⟩⟩

/-- An epoch leaves the channels. -/
theorem epochFoot_channel (a : Nat) (low : 0xC1000 ≤ a) (high : a < 0xC2000) : epochFoot.touches a = false := by
  refine touches_eq_false (decide_eq_false (by omega)) (by omega) ?_
  simp only [raisePlaces, List.mem_cons, List.not_mem_nil, or_false]
  omega

theorem Within.receiverChannel (h : Within epochFoot b s) {n : Nat} (hn : n < 128) : trackKept n b s :=
  trackKept_of_regs fun a ha => h.reg a (by
    simp only [trackRegs, Reg.GNS_CH_SIG, Reg.GNS_CH_DOP, Reg.GNS_CH_LOCK, List.mem_cons, List.not_mem_nil, or_false] at ha
    exact epochFoot_channel a (by omega) (by omega))

/-- What the tracked channels make of a solution. -/
theorem tracking_of {s t : State} (h : ∀ n, n < 128 → trackKept n s t) : carrierUsable t = carrierUsable s ∧ trackedSignals t = trackedSignals s := by
  have field (n lo w : Nat) (hn : n < 128) : t.get ⟨Reg.GNS_CH_SIG n, lo, w⟩ = s.get ⟨Reg.GNS_CH_SIG n, lo, w⟩ := congrArg (bitsAt · lo w) (h n hn).1
  have small : ∀ n ∈ upFrom 0 128, n < 128 := fun n hn => by simpa using hn
  have locked : (upFrom 0 128).filter (fun n => t.get (F.GNS_CH_SIG_STATE n) == 3) = (upFrom 0 128).filter (fun n => s.get (F.GNS_CH_SIG_STATE n) == 3) :=
    List.filter_congr fun n hn => by rw [F.GNS_CH_SIG_STATE, field n 13 3 (small n hn)]
  constructor
  · have both (n : Nat) (hn : n ∈ upFrom 0 128) : (t.get (F.GNS_CH_SIG_STATE n) == 3 && decide (1000 ≤ t.get (F.GNS_CH_LOCK_LOCK_MS n)) && !t.flag (F.GNS_CH_SIG_SLIP n)) =
        (s.get (F.GNS_CH_SIG_STATE n) == 3 && decide (1000 ≤ s.get (F.GNS_CH_LOCK_LOCK_MS n)) && !s.flag (F.GNS_CH_SIG_SLIP n)) := by
      rw [State.flag, State.flag, F.GNS_CH_SIG_STATE, F.GNS_CH_SIG_SLIP, field n 13 3 (small n hn), field n 24 1 (small n hn),
        (trackGet_of_kept (h n (small n hn))).2.2]
    rw [carrierUsable, carrierUsable, Bool.eq_iff_iff, List.any_eq_true, List.any_eq_true]
    exact exists_congr fun n => and_congr_right fun hn => by rw [both n hn]
  · rw [trackedSignals, trackedSignals, locked]
    refine List.map_congr_left fun n hn => ?_
    have low := small n (List.mem_of_mem_filter hn)
    rw [State.flag, State.flag, F.GNS_CH_SIG_SIG, F.GNS_CH_SIG_SV, F.GNS_CH_SIG_ANT, field n 0 4 low, field n 4 8 low, field n 12 1 low]

theorem fixKind_of {s t : State} (ok_ : t.flag F.GNS_STATUS_CORR_OK = s.flag F.GNS_STATUS_CORR_OK) (usable : carrierUsable t = carrierUsable s)
    (restart : t.nav.restart = s.nav.restart) : fixKind t x = fixKind s x := by
  rw [fixKind, fixKind, ok_, usable, restart]

/-- The state in which an epoch reports the solution. -/
structure EpochSourced (x : GnssFix) (b s : State) : Prop where
  within_ : Within epochFoot b s
  state : tstate s = startedState b
  stands : ∀ g, F.GNS_STATUS_TSTATE.apart g = true → F.GNS_STATUS_CORR_OK.apart g = true → g.addr = Reg.GNS_STATUS → s.get g = b.get g
  others : ∀ g : Fld, g.addr ∉ [Reg.GNS_STATUS, Reg.GNS_OFFSET, Reg.GNS_CORR] → calmReg g.addr = true → s.get g = b.get g
  fix : fixKind s x = fixKind (refreshSource b) x
  corr : s.flag F.GNS_STATUS_CORR_OK = (refreshSource b).flag F.GNS_STATUS_CORR_OK
  offset : s.gets F.GNS_OFFSET_OFFSET = (if timeSolution (takeNavData x b) x then satS 32 (timeOffset (takeNavData x b) x)
    else b.gets F.GNS_OFFSET_OFFSET)
  nav : s.nav = { b.nav with
    running := true
    hot := s.nav.hot
    engines := s.nav.engines
    epochAt := some (deviceTime b)
    sysOffset := s.nav.sysOffset
    orbits := s.nav.orbits
    lastOffset := s.nav.lastOffset
    restart := s.nav.restart }
  hot : b.nav.running = false → s.nav.hot = hotStart b
  orbits : ∀ o ∈ x.orbits, (o.1, o.2, b.now) ∈ s.nav.orbits

theorem offsetShown_result {valid : Bool} {off : Int} (hs : s.regsWf = true) : Within epochFoot s (offsetShown valid off s) ∧
    (offsetShown valid off s).nav = { s.nav with lastOffset := (offsetShown valid off s).nav.lastOffset } ∧
    (offsetShown valid off s).gets F.GNS_OFFSET_OFFSET = (if valid then satS 32 off else s.gets F.GNS_OFFSET_OFFSET) ∧
    ∀ g, F.GNS_OFFSET_OFFSET.apart g = true → (offsetShown valid off s).get g = s.get g := by
  unfold offsetShown
  cases valid
  · exact ⟨.refl, rfl, rfl, fun _ _ => rfl⟩
  · have wf : ({ s with nav := { s.nav with lastOffset := off } } : State).regsWf = true := hs
    exact ⟨puts_within (nav_within .refl (by decide)) (by decide), rfl, gets_puts_satS off (by decide) (by decide) wf,
      fun g a => State.get_put_of_apart a wf⟩

theorem epochSourced_result {v : State} (hs : b.regsWf = true) (h : EpochBegun x b v) :
    EpochSourced x b (refreshSource (offsetShown (timeSolution v x) (timeOffset v x) v)) := by
  obtain ⟨within1, state1, stands1, nav1, hot1, orbits1, solution, offset⟩ := h
  have wf1 := within1.wf hs
  rw [solution, offset]
  obtain ⟨within2, nav2, offset2, stands2⟩ := offsetShown_result (valid := timeSolution (takeNavData x b) x) (off := timeOffset (takeNavData x b) x) wf1
  have wf2 := within2.wf wf1
  generalize offsetShown (timeSolution (takeNavData x b) x) (timeOffset (takeNavData x b) x) v = o at *
  have get2 (g : Fld) (a1 : F.GNS_STATUS_TSTATE.apart g = true) (a2 : F.GNS_OFFSET_OFFSET.apart g = true) : o.get g = b.get g :=
    (stands2 g a2).trans (stands1 g a1)
  have now2 : o.now = b.now := (within1.trans within2).part .now (by decide)
  have sources : o.nav.sources = b.nav.sources := by rw [nav2, nav1]
  have elsewhere (g : Fld) (at_ : g.addr ≠ Reg.GNS_STATUS ∧ g.addr ≠ Reg.GNS_OFFSET) : o.get g = b.get g :=
    get2 g (apart_of_addr (by decide) at_.1.symm) (apart_of_addr (by decide) at_.2.symm)
  obtain ⟨choice, each⟩ := chooseSource_of (s := b) (t := o) (fun f at_ => elsewhere f (by
    obtain at_ | at_ := at_
    · rw [at_]; decide
    · rw [at_]; decide)) now2 sources
  obtain ⟨-, -, baseB, corrB, -, navB, -⟩ := refreshSource_result hs _ rfl
  obtain ⟨within3, -, base3, corr3, stands3, nav3, -⟩ := refreshSource_result wf2 _ rfl
  have baseSame : corrBase o (chooseSource o) = corrBase b (chooseSource b) := by rw [corrBase, corrBase, choice, (each _).2]
  have baseO : o.get F.GNS_CORR_BASE = b.get F.GNS_CORR_BASE := elsewhere _ (by decide)
  have corrSame : (refreshSource o).flag F.GNS_STATUS_CORR_OK = (refreshSource b).flag F.GNS_STATUS_CORR_OK := by
    rw [corr3, corrB, choice, (each _).1]
  have restartSame : (refreshSource o).nav.restart = (refreshSource b).nav.restart := by
    rw [nav3, navB, base3, baseB, baseSame, choice, baseO, nav2, nav1]
  have corrEpoch : corrFoot.Sub epochFoot := ⟨fun a ha => by
    simp only [corrFoot, Bool.or_eq_true, beq_iff_eq] at ha
    refine decide_eq_true ?_
    obtain rfl | rfl := ha <;> decide, by decide⟩
  have withinO : Within epochFoot b (refreshSource o) := (within1.trans within2).grow within3 corrEpoch
  have withinB : Within epochFoot b (refreshSource b) := Within.grow .refl (refreshSource_result hs _ rfl).1 corrEpoch
  have usable : carrierUsable (refreshSource o) = carrierUsable (refreshSource b) :=
    (tracking_of fun n hn => withinO.receiverChannel hn).1.trans (tracking_of fun n hn => withinB.receiverChannel hn).1.symm
  refine ⟨withinO, ?_, fun g a1 a2 at_ => ?_, fun g other calm => ?_, fixKind_of corrSame usable restartSame, corrSame, ?_, ?_, fun stopped => ?_,
    fun p hp => ?_⟩
  · exact (stands3 _ (by decide) (by decide) (by decide) (by decide)).trans ((stands2 _ (by decide)).trans state1)
  · have far (f : Fld) (fits : f.fits = true) (ne : f.addr ≠ Reg.GNS_STATUS) : f.apart g = true := apart_of_addr fits (by rw [at_]; exact ne)
    exact (stands3 g a2 (far _ (by decide) (by decide)) (far _ (by decide) (by decide)) (by rw [at_]; decide)).trans
      (get2 g a1 (far _ (by decide) (by decide)))
  · simp only [List.mem_cons, List.not_mem_nil, or_false, not_or] at other
    obtain ⟨n1, n2, n3⟩ := other
    exact (stands3 g (apart_of_addr (by decide) (Ne.symm n1)) (apart_of_addr (by decide) (Ne.symm n3)) (apart_of_addr (by decide) (Ne.symm n3)) calm).trans
      (elsewhere g ⟨n1, n2⟩)
  · have same : (refreshSource o).gets F.GNS_OFFSET_OFFSET = o.gets F.GNS_OFFSET_OFFSET := by
      rw [State.gets, State.gets, stands3 _ (by decide) (by decide) (by decide) (by decide)]
    have before_ : v.gets F.GNS_OFFSET_OFFSET = b.gets F.GNS_OFFSET_OFFSET := by rw [State.gets, State.gets, stands1 _ (by decide)]
    rw [same, offset2, before_]
  · rw [nav3, nav2, nav1]
  · rw [nav3, nav2]
    exact hot1 stopped
  · rw [nav3, nav2]
    exact orbits1 p hp

/-! ### The report of a solution -/

/-- Some registers of the receiver, its part, and events. -/
def listFoot (l : List Nat) : Footprint := ⟨fun a => l.contains a, [.nav]⟩

theorem listFoot_sub {l m : List Nat} (h : l ⊆ m) : (listFoot l).Sub (listFoot m) :=
  ⟨fun _ ha => List.contains_iff_mem.mpr (h (List.contains_iff_mem.mp ha)), fun _ h => h⟩

/-- The registers of a report. -/
def reportRegs : List Nat := [Reg.GNS_STATUS, Reg.GNS_VEL, Reg.GNS_HDG, Reg.GNS_ATT, Reg.GNS_LAT_LO, Reg.GNS_LAT_HI, Reg.GNS_LON_LO, Reg.GNS_LON_HI,
  Reg.GNS_HGT, Reg.GNS_LEAP]

theorem reportRegs_epoch : (listFoot reportRegs).Sub epochFoot := by
  refine ⟨fun a ha => ?_, by decide⟩
  have all : ∀ a ∈ reportRegs, epochFoot.reg a = true := by decide
  exact all a (List.contains_iff_mem.mp ha)

/-- The kind of the solution, its satellites and the speed, shown. -/
def fixShown (fix sats : Nat) (speed : Int) (s : State) : State :=
  let u := (State.put { s with nav := { s.nav with restart := false } } F.GNS_STATUS_FIX fix).put F.GNS_STATUS_SATS sats
  (if fix ≠ s.get F.GNS_STATUS_FIX then raise0 Src.GNS_FIX_CHANGE u else u).puts F.GNS_VEL_SPEED speed

/-- The heading, shown where it is valid. -/
def headingShown (valid : Bool) (heading : Nat) (s : State) : State :=
  (if valid then s.put F.GNS_HDG_HEADING heading else s).put F.GNS_STATUS_HEADING_VALID (b2n valid)

/-- The leap second, where the solution brings it. -/
def leapTaken (o : Option Int) (s : State) : State :=
  match o with
  | none => s
  | some l => (s.puts F.GNS_LEAP_LEAP l).put F.GNS_LEAP_LEAP_VALID 1

/-- The position, where the solution brings it. -/
def positionShown (fix : Nat) (x : GnssFix) (s : State) : State := if fix = 0 then s else reportPosition x.lat x.lon x.hgt s

/-- The event of a heading that is lost. -/
def headingTold (lost : Bool) (s : State) : State := if lost then raise0 Src.GNS_HEADING_LOST s else s

theorem reportFix_eq (x : GnssFix) (s : State) : reportFix x s =
    let v := fixShown (fixKind s x) (satN 6 x.used.length) x.speed s
    leapTaken x.leap (positionShown (fixKind s x) x (headingTold (v.flag F.GNS_STATUS_HEADING_VALID && !headingOk v x)
      (setAttitude x.baseline x.azimuth (headingShown (headingOk v x) (machineHeading v x.azimuth) v)))) := rfl

theorem fixKind_lt (s : State) (x : GnssFix) : fixKind s x < 2 ^ 3 := by
  unfold fixKind
  dsimp only
  have top : min x.fix.toNat 4 ≤ 4 := Nat.min_le_right _ _
  split <;> split <;> split <;> omega

theorem fixShown_result {fix sats : Nat} {speed : Int} (hf : fix < 2 ^ 3) (hn : sats < 2 ^ 6) (hs : s.regsWf = true) (u : State)
    (hu : u = fixShown fix sats speed s) : Within (listFoot [Reg.GNS_STATUS, Reg.GNS_VEL]) s u ∧ u.get F.GNS_STATUS_FIX = fix ∧
      u.get F.GNS_STATUS_SATS = sats ∧ u.gets F.GNS_VEL_SPEED = satS 16 speed ∧ (fix ≠ s.get F.GNS_STATUS_FIX → Flagged Src.GNS_FIX_CHANGE u) ∧
      u.nav = { s.nav with restart := false } ∧
      ∀ g, g.addr = Reg.GNS_STATUS → F.GNS_STATUS_FIX.apart g = true → F.GNS_STATUS_SATS.apart g = true → u.get g = s.get g := by
  have start : ({ s with nav := { s.nav with restart := false } } : State).regsWf = true := hs
  have wf1 := State.regsWf_put _ F.GNS_STATUS_FIX fix start
  have wf2 := State.regsWf_put _ F.GNS_STATUS_SATS sats wf1
  have fix2 : ((State.put { s with nav := { s.nav with restart := false } } F.GNS_STATUS_FIX fix).put F.GNS_STATUS_SATS sats).get F.GNS_STATUS_FIX = fix :=
    (State.get_put_of_apart (by decide) wf1).trans (State.get_put_of_lt (by decide) hf start)
  have sats2 : ((State.put { s with nav := { s.nav with restart := false } } F.GNS_STATUS_FIX fix).put F.GNS_STATUS_SATS sats).get F.GNS_STATUS_SATS = sats :=
    State.get_put_of_lt (by decide) hn wf1
  have stands2 (g : Fld) (a1 : F.GNS_STATUS_FIX.apart g = true) (a2 : F.GNS_STATUS_SATS.apart g = true) :
      ((State.put { s with nav := { s.nav with restart := false } } F.GNS_STATUS_FIX fix).put F.GNS_STATUS_SATS sats).get g = s.get g :=
    (State.get_put_of_apart a2 wf1).trans (State.get_put_of_apart a1 start)
  have within2 : Within (listFoot [Reg.GNS_STATUS, Reg.GNS_VEL]) s
      ((State.put { s with nav := { s.nav with restart := false } } F.GNS_STATUS_FIX fix).put F.GNS_STATUS_SATS sats) :=
    put_within (put_within (nav_within .refl (by decide)) (by decide)) (by decide)
  have nav2 : ((State.put { s with nav := { s.nav with restart := false } } F.GNS_STATUS_FIX fix).put F.GNS_STATUS_SATS sats).nav =
      { s.nav with restart := false } := rfl
  unfold fixShown at hu
  dsimp only at hu
  generalize (State.put { s with nav := { s.nav with restart := false } } F.GNS_STATUS_FIX fix).put F.GNS_STATUS_SATS sats = v at *
  have within3 : Within (listFoot []) v (if fix ≠ s.get F.GNS_STATUS_FIX then raise0 Src.GNS_FIX_CHANGE v else v) := ite_within (raise0_within .refl) .refl
  have told : fix ≠ s.get F.GNS_STATUS_FIX → Flagged Src.GNS_FIX_CHANGE (if fix ≠ s.get F.GNS_STATUS_FIX then raise0 Src.GNS_FIX_CHANGE v else v) := fun ne => by
    rw [if_pos ne]
    exact flagged_raiseArg (by decide) wf2
  have nav3 : (if fix ≠ s.get F.GNS_STATUS_FIX then raise0 Src.GNS_FIX_CHANGE v else v).nav = v.nav := by
    split
    · simp [raise0]
    · rfl
  generalize (if fix ≠ s.get F.GNS_STATUS_FIX then raise0 Src.GNS_FIX_CHANGE v else v) = r at *
  have wf3 := within3.wf wf2
  have within4 : Within (listFoot [Reg.GNS_VEL]) r u := by rw [hu]; exact puts_within .refl (by decide)
  have get_ (g : Fld) (at_ : g.addr = Reg.GNS_STATUS) : u.get g = v.get g := by
    rw [within4.get (by rw [at_]; decide), within3.get (by rw [at_]; decide)]
  refine ⟨(within2.grow within3 (listFoot_sub (by decide))).grow within4 (listFoot_sub (by decide)), (get_ _ rfl).trans fix2, (get_ _ rfl).trans sats2, ?_,
    fun ne => within4.flags wf3 _ (by decide) (told ne), ?_, fun g at_ a1 a2 => (get_ g at_).trans (stands2 g a1 a2)⟩
  · rw [hu]
    exact gets_puts_satS speed (by decide) (by decide) wf3
  · rw [← nav2, ← nav3, hu]
    rfl

theorem machineHeading_lt (s : State) (azimuth : Nat) : machineHeading s azimuth < 2 ^ 19 := by
  unfold machineHeading
  dsimp only
  generalize (azimuth : Int) - _ = v
  have := Int.emod_lt_of_pos v (show (0 : Int) < 360000 by decide)
  have := Int.emod_nonneg v (show (360000 : Int) ≠ 0 by decide)
  omega

theorem headingShown_result {valid : Bool} {heading : Nat} (small : heading < 2 ^ 19) (hs : s.regsWf = true) (u : State)
    (hu : u = headingShown valid heading s) : Within (listFoot [Reg.GNS_STATUS, Reg.GNS_HDG]) s u ∧ u.flag F.GNS_STATUS_HEADING_VALID = valid ∧
      u.get F.GNS_HDG_HEADING = (if valid then heading else s.get F.GNS_HDG_HEADING) ∧ u.nav = s.nav ∧
      ∀ g, g.addr = Reg.GNS_STATUS → F.GNS_STATUS_HEADING_VALID.apart g = true → u.get g = s.get g := by
  have first : Within (listFoot [Reg.GNS_HDG]) s (if valid then s.put F.GNS_HDG_HEADING heading else s) ∧
      (if valid then s.put F.GNS_HDG_HEADING heading else s).get F.GNS_HDG_HEADING = (if valid then heading else s.get F.GNS_HDG_HEADING) ∧
      (if valid then s.put F.GNS_HDG_HEADING heading else s).nav = s.nav := by
    cases valid
    · exact ⟨.refl, rfl, rfl⟩
    · exact ⟨put_within .refl (by decide), State.get_put_of_lt (by decide) small hs, rfl⟩
  unfold headingShown at hu
  generalize (if valid then s.put F.GNS_HDG_HEADING heading else s) = v at *
  obtain ⟨within1, own, nav⟩ := first
  have wf := within1.wf hs
  rw [hu]
  exact ⟨put_within (Within.grow .refl within1 (listFoot_sub (by decide))) (by decide),
    flag_of_b2n (State.get_put_of_lt (by decide) (b2n_lt _ (by decide)) wf), (State.get_put_of_apart (by decide) wf).trans own, nav,
    fun g at_ a => (State.get_put_of_apart a wf).trans (within1.get (by rw [at_]; decide))⟩

theorem setAttitude_result {baseline azimuth : Nat} (hs : s.regsWf = true) (u : State) (hu : u = setAttitude baseline azimuth s) :
    Within (listFoot [Reg.GNS_ATT]) s u ∧ u.gets F.GNS_ATT_ROLL = satS 16 (Config.attitude (imuMachine s) baseline azimuth).1 ∧
      u.gets F.GNS_ATT_PITCH = satS 16 (Config.attitude (imuMachine s) baseline azimuth).2 ∧ u.nav = s.nav := by
  unfold setAttitude at hu
  dsimp only at hu
  generalize Config.attitude (imuMachine s) baseline azimuth = a at *
  have wf1 := State.regsWf_put s F.GNS_ATT_ROLL (fixS 16 a.1) hs
  rw [hu]
  exact ⟨puts_within (puts_within .refl (by decide)) (by decide),
    (State.gets_put_of_apart (by decide) wf1).trans (gets_puts_satS a.1 (by decide) (by decide) hs),
    gets_puts_satS a.2 (by decide) (by decide) wf1, rfl⟩

theorem headingTold_result {lost : Bool} (hs : s.regsWf = true) (u : State) (hu : u = headingTold lost s) : Within (listFoot []) s u ∧ u.nav = s.nav ∧
    (lost = true → Flagged Src.GNS_HEADING_LOST u) := by
  rw [hu, headingTold]
  cases lost
  · exact ⟨.refl, rfl, fun h => by cases h⟩
  · exact ⟨raise0_within .refl, by simp [raise0], fun _ => flagged_raiseArg (by decide) hs⟩

/-- What the position of the machine turns on. -/
theorem machineOrigin_of {s t : State} (gets : ∀ f : Fld, f.addr ∈ [Reg.GNS_ANT_A_X, Reg.GNS_ANT_A_Y, Reg.GNS_ANT_A_Z, Reg.GNS_ATT, Reg.GNS_HDG] → t.get f = s.get f)
    (lat lon hgt : Int) : machineOrigin t lat lon hgt = machineOrigin s lat lon hgt := by
  have ax : t.gets F.GNS_ANT_A_X_V = s.gets F.GNS_ANT_A_X_V := by rw [State.gets, State.gets, gets _ (by decide)]
  have ay : t.gets F.GNS_ANT_A_Y_V = s.gets F.GNS_ANT_A_Y_V := by rw [State.gets, State.gets, gets _ (by decide)]
  have az : t.gets F.GNS_ANT_A_Z_V = s.gets F.GNS_ANT_A_Z_V := by rw [State.gets, State.gets, gets _ (by decide)]
  have roll : t.gets F.GNS_ATT_ROLL = s.gets F.GNS_ATT_ROLL := by rw [State.gets, State.gets, gets _ (by decide)]
  have pitch : t.gets F.GNS_ATT_PITCH = s.gets F.GNS_ATT_PITCH := by rw [State.gets, State.gets, gets _ (by decide)]
  have heading : t.get F.GNS_HDG_HEADING = s.get F.GNS_HDG_HEADING := gets _ (by decide)
  unfold machineOrigin
  rw [ax, ay, az, roll, pitch, heading]

/-- The registers of the position. -/
def positionRegs : List Nat := [Reg.GNS_LAT_LO, Reg.GNS_LAT_HI, Reg.GNS_LON_LO, Reg.GNS_LON_HI, Reg.GNS_HGT]

/-- A position, written. -/
def originShown (o : Int × Int × Int) (s : State) : State :=
  ((s.put64 Reg.GNS_LAT_LO Reg.GNS_LAT_HI (toBits 64 o.1)).put64 Reg.GNS_LON_LO Reg.GNS_LON_HI (toBits 64 o.2.1)).puts (⟨Reg.GNS_HGT, 0, 32⟩ : Fld) o.2.2

theorem reportPosition_eq (lat lon hgt : Int) (s : State) : reportPosition lat lon hgt s =
    { originShown (machineOrigin s lat lon hgt) s with nav := { s.nav with
      knownAt := some ((machineOrigin s lat lon hgt).1, (machineOrigin s lat lon hgt).2.1)
      posAt := deviceTime s } } := rfl

theorem toBits_lt64 (v : Int) : toBits 64 v < 2 ^ 64 := by
  have := Int.emod_lt_of_pos v (show (0 : Int) < ((2 ^ 64 : Nat) : Int) by decide)
  have := Int.emod_nonneg v (show ((2 ^ 64 : Nat) : Int) ≠ 0 by decide)
  unfold toBits
  omega

theorem originShown_result (o : Int × Int × Int) (hs : s.regsWf = true) : Within (listFoot positionRegs) s (originShown o s) ∧
    (originShown o s).nav = s.nav ∧ (originShown o s).get64 Reg.GNS_LAT_LO Reg.GNS_LAT_HI = toBits 64 o.1 ∧
      (originShown o s).get64 Reg.GNS_LON_LO Reg.GNS_LON_HI = toBits 64 o.2.1 := by
  have within1 : Within (listFoot positionRegs) s (s.put64 Reg.GNS_LAT_LO Reg.GNS_LAT_HI (toBits 64 o.1)) := put64_within .refl (by decide) (by decide)
  have lat := State.get64_put64 (lo := Reg.GNS_LAT_LO) (hi := Reg.GNS_LAT_HI) (by decide) (toBits 64 o.1) hs
  have nav1 : (s.put64 Reg.GNS_LAT_LO Reg.GNS_LAT_HI (toBits 64 o.1)).nav = s.nav := rfl
  rw [Nat.mod_eq_of_lt (toBits_lt64 _)] at lat
  unfold originShown
  generalize s.put64 Reg.GNS_LAT_LO Reg.GNS_LAT_HI (toBits 64 o.1) = v at *
  have wf1 := within1.wf hs
  have within2 : Within (listFoot [Reg.GNS_LON_LO, Reg.GNS_LON_HI, Reg.GNS_HGT]) v (v.put64 Reg.GNS_LON_LO Reg.GNS_LON_HI (toBits 64 o.2.1)) :=
    put64_within .refl (by decide) (by decide)
  have lon := State.get64_put64 (lo := Reg.GNS_LON_LO) (hi := Reg.GNS_LON_HI) (by decide) (toBits 64 o.2.1) wf1
  have nav2 : (v.put64 Reg.GNS_LON_LO Reg.GNS_LON_HI (toBits 64 o.2.1)).nav = v.nav := rfl
  rw [Nat.mod_eq_of_lt (toBits_lt64 _)] at lon
  generalize v.put64 Reg.GNS_LON_LO Reg.GNS_LON_HI (toBits 64 o.2.1) = r at *
  have within3 : Within (listFoot [Reg.GNS_HGT]) r (r.puts (⟨Reg.GNS_HGT, 0, 32⟩ : Fld) o.2.2) := puts_within .refl (by decide)
  have nav3 : (r.puts (⟨Reg.GNS_HGT, 0, 32⟩ : Fld) o.2.2).nav = r.nav := rfl
  generalize r.puts (⟨Reg.GNS_HGT, 0, 32⟩ : Fld) o.2.2 = u at *
  exact ⟨(within1.grow within2 (listFoot_sub (by decide))).grow within3 (listFoot_sub (by decide)), nav3.trans (nav2.trans nav1),
    (within3.get64 (by decide) (by decide)).trans ((within2.get64 (by decide) (by decide)).trans lat),
    (within3.get64 (by decide) (by decide)).trans lon⟩

theorem positionShown_result {fix : Nat} (hs : s.regsWf = true) (u : State) (hu : u = positionShown fix x s) :
    Within (listFoot positionRegs) s u ∧
    (fix ≠ 0 → u.get64 Reg.GNS_LAT_LO Reg.GNS_LAT_HI = toBits 64 (machineOrigin s x.lat x.lon x.hgt).1 ∧
      u.get64 Reg.GNS_LON_LO Reg.GNS_LON_HI = toBits 64 (machineOrigin s x.lat x.lon x.hgt).2.1 ∧ u.nav.posAt = deviceTime s) ∧
    (fix = 0 → u = s) ∧ u.nav = { s.nav with
      knownAt := u.nav.knownAt
      posAt := u.nav.posAt } := by
  unfold positionShown at hu
  by_cases none_ : fix = 0
  · rw [if_pos none_] at hu
    exact ⟨hu ▸ .refl, fun h => absurd none_ h, fun _ => hu, by rw [hu]⟩
  · rw [if_neg none_, reportPosition_eq] at hu
    generalize machineOrigin s x.lat x.lon x.hgt = o at *
    obtain ⟨within_, -, lat, lon⟩ := originShown_result o hs
    generalize originShown o s = v at *
    have regs : u.regs = v.regs := by rw [hu]
    have get64 (lo hi : Nat) : u.get64 lo hi = v.get64 lo hi := by rw [State.get64, State.get64, State.reg, State.reg, State.reg, State.reg, regs]
    exact ⟨hu ▸ nav_within within_ (by decide), fun _ => ⟨(get64 _ _).trans lat, (get64 _ _).trans lon, by rw [hu]⟩, fun h => absurd h none_, by rw [hu]⟩

theorem leapTaken_result {o : Option Int} (hs : s.regsWf = true) (u : State) (hu : u = leapTaken o s) : Within (listFoot [Reg.GNS_LEAP]) s u ∧
    u.nav = s.nav ∧ ∀ v ∈ o, u.gets F.GNS_LEAP_LEAP = satS 8 v ∧ u.flag F.GNS_LEAP_LEAP_VALID = true := by
  cases o with
  | none => exact ⟨hu ▸ .refl, by rw [hu]; rfl, fun v hv => by cases hv⟩
  | some l =>
    have wf1 := State.regsWf_put s F.GNS_LEAP_LEAP (fixS 8 l) hs
    have leap := gets_puts_satS (f := F.GNS_LEAP_LEAP) l (by decide) (by decide) hs
    rw [hu]
    refine ⟨put_within (puts_within .refl (by decide)) (by decide), rfl, fun v hv => ?_⟩
    obtain rfl := Option.some.inj hv
    exact ⟨(State.gets_put_of_apart (by decide) wf1).trans leap, State.flag_put_one (by decide) (by decide) wf1⟩

/-- The solution as it is shown after an epoch. -/
structure FixReported (x : GnssFix) (s u : State) : Prop where
  within_ : Within (listFoot reportRegs) s u
  fix : u.get F.GNS_STATUS_FIX = fixKind s x
  sats : u.get F.GNS_STATUS_SATS = satN 6 x.used.length
  changed : u.get F.GNS_STATUS_FIX ≠ s.get F.GNS_STATUS_FIX → Flagged Src.GNS_FIX_CHANGE u
  speed : u.gets F.GNS_VEL_SPEED = satS 16 x.speed
  valid : u.flag F.GNS_STATUS_HEADING_VALID = headingOk s x
  heading : u.get F.GNS_HDG_HEADING = (if headingOk s x then machineHeading s x.azimuth else s.get F.GNS_HDG_HEADING)
  lost : s.flag F.GNS_STATUS_HEADING_VALID = true → headingOk s x = false → Flagged Src.GNS_HEADING_LOST u
  roll : u.gets F.GNS_ATT_ROLL = satS 16 (Config.attitude (imuMachine s) x.baseline x.azimuth).1
  pitch : u.gets F.GNS_ATT_PITCH = satS 16 (Config.attitude (imuMachine s) x.baseline x.azimuth).2
  position : u.get F.GNS_STATUS_FIX ≠ 0 → u.get64 Reg.GNS_LAT_LO Reg.GNS_LAT_HI = toBits 64 (machineOrigin u x.lat x.lon x.hgt).1 ∧
    u.get64 Reg.GNS_LON_LO Reg.GNS_LON_HI = toBits 64 (machineOrigin u x.lat x.lon x.hgt).2.1 ∧ u.nav.posAt = deviceTime s
  stays : u.get F.GNS_STATUS_FIX = 0 → u.reg Reg.GNS_LAT_LO = s.reg Reg.GNS_LAT_LO ∧ u.reg Reg.GNS_LAT_HI = s.reg Reg.GNS_LAT_HI ∧
    u.reg Reg.GNS_LON_LO = s.reg Reg.GNS_LON_LO ∧ u.reg Reg.GNS_LON_HI = s.reg Reg.GNS_LON_HI
  leap : ∀ v ∈ x.leap, u.gets F.GNS_LEAP_LEAP = satS 8 v ∧ u.flag F.GNS_LEAP_LEAP_VALID = true
  nav : u.nav = { s.nav with
    restart := false
    knownAt := u.nav.knownAt
    posAt := u.nav.posAt }
  status : ∀ g, g.addr = Reg.GNS_STATUS → F.GNS_STATUS_FIX.apart g = true → F.GNS_STATUS_SATS.apart g = true →
    F.GNS_STATUS_HEADING_VALID.apart g = true → u.get g = s.get g

/-- What the heading of a solution turns on. -/
theorem heading_of {s t : State} (tracks : trackedSignals t = trackedSignals s) (imu : t.inp.imu = s.inp.imu)
    (gets : ∀ f : Fld, f.addr ∈ [Reg.GNS_ANT_A_X, Reg.GNS_ANT_A_Y, Reg.GNS_ANT_A_Z, Reg.GNS_ANT_B_X, Reg.GNS_ANT_B_Y, Reg.GNS_ANT_B_Z, Reg.GNS_IMU_QW,
      Reg.GNS_IMU_QX, Reg.GNS_IMU_QY, Reg.GNS_IMU_QZ] → t.get f = s.get f) :
    headingOk t x = headingOk s x ∧ (∀ a, machineHeading t a = machineHeading s a) ∧ imuMachine t = imuMachine s := by
  have signed (f : Fld) (hf : f.addr ∈ [Reg.GNS_ANT_A_X, Reg.GNS_ANT_A_Y, Reg.GNS_ANT_A_Z, Reg.GNS_ANT_B_X, Reg.GNS_ANT_B_Y, Reg.GNS_ANT_B_Z,
      Reg.GNS_IMU_QW, Reg.GNS_IMU_QX, Reg.GNS_IMU_QY, Reg.GNS_IMU_QZ]) : t.gets f = s.gets f := by rw [State.gets, State.gets, gets f hf]
  have both : onBoth t = onBoth s := by rw [onBoth, onBoth, tracks]
  have square : baselineSquare t = baselineSquare s := by
    rw [baselineSquare, baselineSquare, signed _ (by decide), signed _ (by decide), signed _ (by decide), signed _ (by decide), signed _ (by decide),
      signed _ (by decide)]
  refine ⟨by rw [headingOk, headingOk, both, square], fun a => ?_, ?_⟩
  · rw [machineHeading, machineHeading, signed _ (by decide), signed _ (by decide), signed _ (by decide), signed _ (by decide)]
  · unfold imuMachine
    rw [signed F.GNS_IMU_QW_V (by decide), signed F.GNS_IMU_QX_V (by decide), signed F.GNS_IMU_QY_V (by decide), signed F.GNS_IMU_QZ_V (by decide), imu]

theorem listFoot_epoch {l : List Nat} (h : l ⊆ reportRegs) : (listFoot l).Sub epochFoot :=
  ⟨fun a ha => reportRegs_epoch.reg a ((listFoot_sub h).reg a ha), reportRegs_epoch.parts⟩

theorem heading_of_epoch (h : Within epochFoot s t) :
    headingOk t x = headingOk s x ∧ (∀ a, machineHeading t a = machineHeading s a) ∧ imuMachine t = imuMachine s :=
  heading_of (tracking_of fun _ hn => h.receiverChannel hn).2 (congrArg InputPart.imu (h.part .inp (by decide) : t.inp = s.inp)) fun _ hf => h.get (by
    have all : ∀ a ∈ [Reg.GNS_ANT_A_X, Reg.GNS_ANT_A_Y, Reg.GNS_ANT_A_Z, Reg.GNS_ANT_B_X, Reg.GNS_ANT_B_Y, Reg.GNS_ANT_B_Z, Reg.GNS_IMU_QW,
      Reg.GNS_IMU_QX, Reg.GNS_IMU_QY, Reg.GNS_IMU_QZ], epochFoot.touches a = false := by decide
    exact all _ hf)

theorem reportFix_result (hs : s.regsWf = true) (u : State) (hu : u = reportFix x s) : FixReported x s u := by
  rw [reportFix_eq] at hu
  dsimp only at hu
  obtain ⟨within1, fix1, sats1, speed1, changed1, nav1, status1⟩ := fixShown_result (speed := x.speed) (fixKind_lt s x) (satN_lt 6 x.used.length) hs _ rfl
  generalize hk : fixKind s x = k at *
  generalize fixShown k (satN 6 x.used.length) x.speed s = v1 at *
  have wf1 := within1.wf hs
  have epoch1 : Within epochFoot s v1 := Within.grow .refl within1 (listFoot_epoch (by decide))
  obtain ⟨ok_, heading_, -⟩ := heading_of_epoch (x := x) epoch1
  have was : v1.flag F.GNS_STATUS_HEADING_VALID = s.flag F.GNS_STATUS_HEADING_VALID := by
    rw [State.flag, State.flag, status1 _ rfl (by decide) (by decide)]
  have small := machineHeading_lt s x.azimuth
  rw [ok_, heading_, was] at hu
  generalize hh : machineHeading s x.azimuth = h at *
  obtain ⟨within2, valid2, own2, nav2, status2⟩ := headingShown_result (valid := headingOk s x) small wf1 _ rfl
  generalize headingShown (headingOk s x) h v1 = v2 at *
  have wf2 := within2.wf wf1
  have imu2 := (heading_of_epoch (x := x) (epoch1.grow within2 (listFoot_epoch (by decide)))).2.2
  obtain ⟨within3, roll3, pitch3, nav3⟩ := setAttitude_result (baseline := x.baseline) (azimuth := x.azimuth) wf2 _ rfl
  rw [imu2] at roll3 pitch3
  generalize setAttitude x.baseline x.azimuth v2 = v3 at *
  have wf3 := within3.wf wf2
  obtain ⟨within4, nav4, lost4⟩ := headingTold_result (lost := s.flag F.GNS_STATUS_HEADING_VALID && !headingOk s x) wf3 _ rfl
  generalize headingTold (s.flag F.GNS_STATUS_HEADING_VALID && !headingOk s x) v3 = v4 at *
  have wf4 := within4.wf wf3
  obtain ⟨within5, known5, same5, nav5⟩ := positionShown_result (fix := k) (x := x) wf4 _ rfl
  generalize positionShown k x v4 = v5 at *
  have wf5 := within5.wf wf4
  obtain ⟨within6, nav6, leap6⟩ := leapTaken_result wf5 _ hu
  have tail3 : Within (listFoot (Reg.GNS_LEAP :: positionRegs)) v3 u :=
    ((Within.grow .refl within4 (listFoot_sub (by decide))).grow within5 (listFoot_sub (by decide))).grow within6 (listFoot_sub (by decide))
  have tail2 : Within (listFoot (Reg.GNS_ATT :: Reg.GNS_LEAP :: positionRegs)) v2 u :=
    (Within.grow .refl within3 (listFoot_sub (by decide))).grow tail3 (listFoot_sub (by decide))
  have tail1 : Within (listFoot (Reg.GNS_STATUS :: Reg.GNS_HDG :: Reg.GNS_ATT :: Reg.GNS_LEAP :: positionRegs)) v1 u := (Within.grow .refl within2 (listFoot_sub (by decide))).grow tail2 (listFoot_sub (by decide))
  have status (g : Fld) (at_ : g.addr = Reg.GNS_STATUS) : u.get g = v2.get g := tail2.get (by rw [at_]; decide)
  have fixU : u.get F.GNS_STATUS_FIX = k := (status _ rfl).trans ((status2 _ rfl (by decide)).trans fix1)
  have navU : u.nav = { s.nav with
      restart := false
      knownAt := u.nav.knownAt
      posAt := u.nav.posAt } := by
    rw [nav6, nav5, nav4, nav3, nav2, nav1]
  have parts4 : v4.devOff = s.devOff ∧ v4.now = s.now := by
    have all := ((epoch1.grow within2 (listFoot_epoch (by decide))).grow within3 (listFoot_epoch (by decide))).grow within4 (listFoot_epoch (by decide))
    exact ⟨all.part .devOff (by decide), all.part .now (by decide)⟩
  have time4 : deviceTime v4 = deviceTime s := by rw [deviceTime, deviceTime, parts4.1, parts4.2]
  have tail5 : Within (listFoot (Reg.GNS_LEAP :: positionRegs)) v4 u :=
    (Within.grow .refl within5 (listFoot_sub (by decide))).grow within6 (listFoot_sub (by decide))
  have originU : machineOrigin u x.lat x.lon x.hgt = machineOrigin v4 x.lat x.lon x.hgt := machineOrigin_of (fun f hf => tail5.get (by
    have all : ∀ a ∈ [Reg.GNS_ANT_A_X, Reg.GNS_ANT_A_Y, Reg.GNS_ANT_A_Z, Reg.GNS_ATT, Reg.GNS_HDG],
      (listFoot (Reg.GNS_LEAP :: positionRegs)).touches a = false := by decide
    exact all _ hf)) _ _ _
  have headingU : u.get F.GNS_HDG_HEADING = (if headingOk s x then h else s.get F.GNS_HDG_HEADING) := by
    rw [tail2.get (by decide), own2, within1.get (by decide)]
  exact {
    within_ := (Within.grow .refl within1 (listFoot_sub (by decide))).grow tail1 (listFoot_sub (by decide))
    fix := fixU.trans hk.symm
    sats := (status _ rfl).trans ((status2 _ rfl (by decide)).trans sats1)
    changed := fun ne => tail1.flags wf1 _ (by decide) (changed1 (fixU ▸ ne))
    speed := by rw [State.gets, tail1.get (by decide), ← State.gets, speed1]
    valid := by rw [State.flag, status _ rfl]; exact valid2
    heading := by rw [hh]; exact headingU
    lost := fun was gone => tail5.flags wf4 _ (by decide) (lost4 (by rw [was, gone]; rfl))
    roll := by rw [State.gets, tail3.get (by decide), ← State.gets, roll3]
    pitch := by rw [State.gets, tail3.get (by decide), ← State.gets, pitch3]
    position := fun some_ => by
      obtain ⟨lat, lon, posAt⟩ := known5 (fixU ▸ some_)
      rw [originU, within6.get64 (by decide) (by decide), within6.get64 (by decide) (by decide), nav6, ← time4]
      exact ⟨lat, lon, posAt⟩
    stays := fun none_ => by
      have same := same5 (fixU ▸ none_)
      have tail4 : Within (listFoot [Reg.GNS_LEAP]) v4 u := same ▸ within6
      have head1 : Within (listFoot [Reg.GNS_STATUS, Reg.GNS_VEL, Reg.GNS_HDG, Reg.GNS_ATT]) s v1 := Within.grow .refl within1 (listFoot_sub (by decide))
      have head4 := ((head1.grow within2 (listFoot_sub (by decide))).grow within3 (listFoot_sub (by decide))).grow within4 (listFoot_sub (by decide))
      have keep (a : Nat) (ha : a ∈ [Reg.GNS_LAT_LO, Reg.GNS_LAT_HI, Reg.GNS_LON_LO, Reg.GNS_LON_HI]) : u.reg a = s.reg a := by
        have all : ∀ a ∈ [Reg.GNS_LAT_LO, Reg.GNS_LAT_HI, Reg.GNS_LON_LO, Reg.GNS_LON_HI], (listFoot [Reg.GNS_LEAP]).touches a = false ∧
          (listFoot [Reg.GNS_STATUS, Reg.GNS_VEL, Reg.GNS_HDG, Reg.GNS_ATT]).touches a = false := by decide
        rw [tail4.reg a (all a ha).1, head4.reg a (all a ha).2]
      exact ⟨keep _ (by decide), keep _ (by decide), keep _ (by decide), keep _ (by decide)⟩
    leap := leap6
    nav := navU
    status := fun g at_ a1 a2 a3 => (status g at_).trans ((status2 g at_ a3).trans (status1 g at_ a1 a2)) }

/-! ### Device time -/

/-- What the discipline of device time may change. -/
def timeFoot : Footprint where
  reg a := a == Reg.GNS_STATUS
  parts := [.nav, .steer, .drawn]

/-- The part of the receiver with other counts of its discipline. -/
def navDisciplined (disciplined good : Nat) (acc : Int) (step : Option TimeStep) (n : NavPart) : NavPart :=
  { n with
    lastDisciplined := disciplined
    good := good
    acc := acc
    step := step }

/-- A step of the discipline: of the status it writes the time state and SLEWING alone. -/
structure Judged (s u : State) : Prop where
  within_ : Within timeFoot s u
  status : s.regsWf = true → ∀ g, g.addr = Reg.GNS_STATUS → F.GNS_STATUS_TSTATE.apart g = true → F.GNS_STATUS_SLEWING.apart g = true → u.get g = s.get g
  nav : u.nav = navDisciplined u.nav.lastDisciplined u.nav.good u.nav.acc u.nav.step s.nav

theorem Judged.refl : Judged s s := ⟨.refl, fun _ _ _ _ _ => rfl, rfl⟩

theorem Judged.trans (h : Judged b s) (k : Judged s t) : Judged b t :=
  ⟨h.within_.trans k.within_, fun hb g at_ a1 a2 => (k.status (h.within_.wf hb) g at_ a1 a2).trans (h.status hb g at_ a1 a2), by
    rw [k.nav, h.nav]
    rfl⟩

theorem Judged.state (h : Judged b s) {v : Nat} : Judged b (s.put F.GNS_STATUS_TSTATE v) :=
  h.trans ⟨put_within .refl (by decide), fun hs _ _ a _ => State.get_put_of_apart a hs, rfl⟩

theorem Judged.slewing (h : Judged b s) {v : Nat} : Judged b (s.put F.GNS_STATUS_SLEWING v) :=
  h.trans ⟨put_within .refl (by decide), fun hs _ _ _ a => State.get_put_of_apart a hs, rfl⟩

theorem Judged.counts (h : Judged b s) {d g : Nat} {a : Int} {st : Option TimeStep} : Judged b { s with nav := navDisciplined d g a st s.nav } :=
  h.trans ⟨nav_within .refl (by decide), fun _ _ _ _ _ => rfl, rfl⟩

theorem Judged.steer (h : Judged b s) {v : Option Steer} : Judged b { s with steer := v } :=
  h.trans ⟨steerSet_within .refl (by decide), fun _ _ _ _ _ => rfl, rfl⟩

theorem Judged.drawn (h : Judged b s) {v : Nat} : Judged b { s with drawn := v } :=
  h.trans ⟨drawn_within .refl (by decide), fun _ _ _ _ _ => rfl, rfl⟩

theorem Judged.raise0 (h : Judged b s) {src : Nat} : Judged b (raise0 src s) :=
  h.trans ⟨raise0_within .refl, fun hs g at_ _ _ => ((FieldStands.refl.raiseArg (by rw [at_]; decide)) hs).2, by simp [Machine.raise0, navDisciplined]⟩

theorem Judged.ite {p : Prop} [Decidable p] (hs : Judged b s) (ht : Judged b t) : Judged b (if p then s else t) := by
  split
  · exact hs
  · exact ht

/-- The instant of the last valid solution, noted. -/
def validNoted (valid : Bool) (s : State) : State := if valid then { s with nav := { s.nav with lastValid := s.now } } else s

/-- What the mean of ten offsets does. -/
def tenthOffset (st : Nat) (acc : Int) (s : State) : State :=
  let mean := roundDiv acc 10
  let s := { s with nav := { s.nav with
    good := 0
    acc := 0 } }
  if st = tsAcquiring ∨ acc.natAbs ≥ 10000 then scheduleStep mean s
  else
    Machine.raise0 Src.GNS_TIME_SLEW (beginSlew mean (State.put { s with nav := { s.nav with lastDisciplined := s.now } } F.GNS_STATUS_TSTATE tsLocked))

/-- What an epoch does where device time is not disciplined yet. -/
def offsetCounted (valid : Bool) (off : Int) (st : Nat) (s : State) : State :=
  if valid then
    if s.nav.good + 1 < 10 then { s with nav := { s.nav with
      good := s.nav.good + 1
      acc := s.nav.acc + off } }
    else tenthOffset st (s.nav.acc + off) s
  else { s with nav := { s.nav with
    good := 0
    acc := 0 } }

theorem discipline_eq (valid : Bool) (off : Int) (s : State) : discipline valid off s =
    if tstate s = tsLocked then
      if valid then disciplineLocked off (validNoted valid s)
      else if s.nav.lastValid + sec ≤ s.now then enterHoldover (validNoted valid s) else validNoted valid s
    else if tstate s = tsAcquiring ∨ tstate s = tsHoldover then offsetCounted valid off (tstate s) (validNoted valid s)
    else validNoted valid s := by
  cases valid <;> rfl

theorem scheduleStep_judged (off : Int) (s : State) : Judged s (scheduleStep off s) :=
  .state (.counts (d := s.nav.lastDisciplined) (g := s.nav.good) (a := s.nav.acc) .refl)

theorem beginSlew_judged (off : Int) (s : State) : Judged s (beginSlew off s) := .slewing (.steer .refl)

theorem tenthOffset_judged (st : Nat) (acc : Int) (s : State) : Judged s (tenthOffset st acc s) := by
  have cleared : Judged s { s with nav := { s.nav with
      good := 0
      acc := 0 } } := .counts (d := s.nav.lastDisciplined) (st := s.nav.step) .refl
  refine .ite (cleared.trans (scheduleStep_judged _ _)) (.raise0 (.trans (.state ?_) (beginSlew_judged _ _)))
  exact cleared.trans (.counts (s := { s with nav := { s.nav with
    good := 0
    acc := 0 } }) (g := 0) (a := 0) (st := s.nav.step) .refl)

theorem offsetCounted_judged (valid : Bool) (off : Int) (st : Nat) (s : State) : Judged s (offsetCounted valid off st s) :=
  .ite (.ite (.counts (d := s.nav.lastDisciplined) (st := s.nav.step) .refl) (tenthOffset_judged _ _ s))
    (.counts (d := s.nav.lastDisciplined) (st := s.nav.step) .refl)

theorem disciplineLocked_judged (off : Int) (s : State) : Judged s (disciplineLocked off s) := by
  have noted : Judged s { s with nav := { s.nav with lastDisciplined := s.now } } :=
    .counts (g := s.nav.good) (a := s.nav.acc) (st := s.nav.step) .refl
  exact .ite noted (.ite noted.drawn.steer noted.drawn.steer)

theorem enterHoldover_judged (s : State) : Judged s (enterHoldover s) := .raise0 (.slewing (.steer (.state .refl)))

theorem discipline_judged (valid : Bool) (off : Int) (s : State) : Judged (validNoted valid s) (discipline valid off s) := by
  rw [discipline_eq]
  exact .ite (.ite (disciplineLocked_judged _ _) (.ite (enterHoldover_judged _) .refl)) (.ite (offsetCounted_judged _ _ _ _) .refl)

theorem timeJudged_judged (valid : Bool) (off : Int) (s : State) : Judged (validNoted valid s) (timeJudged valid off s) :=
  .ite (discipline_judged _ _ _) .refl

/-! ### The epoch as a whole -/

/-- The state of an epoch as it comes to device time. -/
structure EpochDone (x : GnssFix) (b r : State) : Prop where
  within_ : Within epochFoot b r
  state : tstate r = startedState b
  slewing : r.get F.GNS_STATUS_SLEWING = b.get F.GNS_STATUS_SLEWING
  aligned : timeValid r = timeValid b
  fix : r.get F.GNS_STATUS_FIX = fixKind (refreshSource b) x
  corr : r.flag F.GNS_STATUS_CORR_OK = (refreshSource b).flag F.GNS_STATUS_CORR_OK
  changed : r.get F.GNS_STATUS_FIX ≠ b.get F.GNS_STATUS_FIX → Flagged Src.GNS_FIX_CHANGE r
  sats : r.get F.GNS_STATUS_SATS = satN 6 x.used.length
  speed : r.gets F.GNS_VEL_SPEED = satS 16 x.speed
  valid : r.flag F.GNS_STATUS_HEADING_VALID = headingOk b x
  heading : r.get F.GNS_HDG_HEADING = (if headingOk b x then machineHeading b x.azimuth else b.get F.GNS_HDG_HEADING)
  lost : b.flag F.GNS_STATUS_HEADING_VALID = true → headingOk b x = false → Flagged Src.GNS_HEADING_LOST r
  roll : r.gets F.GNS_ATT_ROLL = satS 16 (Config.attitude (imuMachine b) x.baseline x.azimuth).1
  pitch : r.gets F.GNS_ATT_PITCH = satS 16 (Config.attitude (imuMachine b) x.baseline x.azimuth).2
  position : r.get F.GNS_STATUS_FIX ≠ 0 → r.get64 Reg.GNS_LAT_LO Reg.GNS_LAT_HI = toBits 64 (machineOrigin r x.lat x.lon x.hgt).1 ∧
    r.get64 Reg.GNS_LON_LO Reg.GNS_LON_HI = toBits 64 (machineOrigin r x.lat x.lon x.hgt).2.1 ∧ r.nav.posAt = deviceTime b
  stays : r.get F.GNS_STATUS_FIX = 0 → r.reg Reg.GNS_LAT_LO = b.reg Reg.GNS_LAT_LO ∧ r.reg Reg.GNS_LAT_HI = b.reg Reg.GNS_LAT_HI ∧
    r.reg Reg.GNS_LON_LO = b.reg Reg.GNS_LON_LO ∧ r.reg Reg.GNS_LON_HI = b.reg Reg.GNS_LON_HI
  leap : ∀ v ∈ x.leap, r.gets F.GNS_LEAP_LEAP = satS 8 v ∧ r.flag F.GNS_LEAP_LEAP_VALID = true
  offset : r.gets F.GNS_OFFSET_OFFSET = (if timeSolution (takeNavData x b) x then satS 32 (timeOffset (takeNavData x b) x)
    else b.gets F.GNS_OFFSET_OFFSET)
  runs : r.nav.running = true ∧ r.nav.epochAt = some (deviceTime b) ∧ r.nav.restart = false
  counts : r.nav.good = b.nav.good ∧ r.nav.acc = b.nav.acc ∧ r.nav.lastValid = b.nav.lastValid
  hot : b.nav.running = false → r.nav.hot = hotStart b
  orbits : ∀ o ∈ x.orbits, (o.1, o.2, b.now) ∈ r.nav.orbits

/-- The watch of what is bad writes no register. -/
theorem fixWatch_result (s : State) : (fixWatch s).regs = s.regs ∧ Within epochFoot s (fixWatch s) ∧ (fixWatch s).nav = { s.nav with
    fixBadSince := (fixWatch s).nav.fixBadSince
    hdgBadSince := (fixWatch s).nav.hdgBadSince
    spdBadSince := (fixWatch s).nav.spdBadSince } := ⟨rfl, nav_within .refl (by decide), rfl⟩

theorem reg_eq_get (s : State) (a : Nat) : s.reg a = s.get ⟨a, 0, 32⟩ := by
  rw [State.get, bitsAt, Nat.pow_zero, Nat.div_one, Nat.mod_eq_of_lt]
  exact BitVec.isLt _

theorem epochDone_of {v r : State} (h : EpochSourced x b v) (f : FixReported x v r) : EpochDone x b r := by
  have time : deviceTime v = deviceTime b := by rw [deviceTime, deviceTime, h.within_.part .now (by decide), h.within_.part .devOff (by decide)]
  obtain ⟨ok_, heading, imu⟩ := heading_of_epoch (x := x) h.within_
  have status (g : Fld) (at_ : g.addr = Reg.GNS_STATUS) (far : ∀ f ∈ [F.GNS_STATUS_FIX, F.GNS_STATUS_SATS, F.GNS_STATUS_HEADING_VALID, F.GNS_STATUS_TSTATE,
      F.GNS_STATUS_CORR_OK], f.apart g = true) : r.get g = b.get g :=
    (f.status g at_ (far _ (by decide)) (far _ (by decide)) (far _ (by decide))).trans (h.stands g (far _ (by decide)) (far _ (by decide)) at_)
  have fixB : v.get F.GNS_STATUS_FIX = b.get F.GNS_STATUS_FIX := h.stands _ (by decide) (by decide) rfl
  have validB : v.flag F.GNS_STATUS_HEADING_VALID = b.flag F.GNS_STATUS_HEADING_VALID := by
    rw [State.flag, State.flag, h.stands _ (by decide) (by decide) rfl]
  have regB (a : Nat) (ha : a ∈ [Reg.GNS_LAT_LO, Reg.GNS_LAT_HI, Reg.GNS_LON_LO, Reg.GNS_LON_HI]) : v.reg a = b.reg a := by
    have all : ∀ a ∈ [Reg.GNS_LAT_LO, Reg.GNS_LAT_HI, Reg.GNS_LON_LO, Reg.GNS_LON_HI],
      a ∉ [Reg.GNS_STATUS, Reg.GNS_OFFSET, Reg.GNS_CORR] ∧ calmReg a = true := by decide
    have whole := h.others ⟨a, 0, 32⟩ (all a ha).1 (all a ha).2
    rw [reg_eq_get, whole, ← reg_eq_get]
  exact {
    within_ := h.within_.grow f.within_ reportRegs_epoch
    state := (f.status _ rfl (by decide) (by decide) (by decide)).trans h.state
    slewing := status _ rfl (by decide)
    aligned := by rw [timeValid, timeValid, State.flag, State.flag, status _ rfl (by decide)]
    fix := f.fix.trans h.fix
    corr := by rw [State.flag, f.status _ rfl (by decide) (by decide) (by decide)]; exact h.corr
    changed := fun ne => f.changed (fixB ▸ ne)
    sats := f.sats
    speed := f.speed
    valid := f.valid.trans ok_
    heading := by rw [f.heading, ok_, heading, h.others _ (by decide) (by decide)]
    lost := fun was gone => f.lost (validB.trans was) (ok_.trans gone)
    roll := by rw [f.roll, imu]
    pitch := by rw [f.pitch, imu]
    position := fun some_ => time ▸ f.position some_
    stays := fun none_ => by
      obtain ⟨h1, h2, h3, h4⟩ := f.stays none_
      exact ⟨h1.trans (regB _ (by decide)), h2.trans (regB _ (by decide)), h3.trans (regB _ (by decide)), h4.trans (regB _ (by decide))⟩
    leap := f.leap
    offset := by
      have same : r.gets F.GNS_OFFSET_OFFSET = v.gets F.GNS_OFFSET_OFFSET := by rw [State.gets, State.gets, f.within_.get (by decide)]
      exact same.trans h.offset
    runs := by rw [f.nav, h.nav]; exact ⟨rfl, rfl, rfl⟩
    counts := by rw [f.nav, h.nav]; exact ⟨rfl, rfl, rfl⟩
    hot := fun stopped => by rw [f.nav]; exact h.hot stopped
    orbits := fun o ho => by rw [f.nav]; exact h.orbits o ho }

/-- The watch of what is bad leaves what an epoch has reported. -/
theorem EpochDone.watched {r : State} (h : EpochDone x b r) : EpochDone x b (fixWatch r) := by
  obtain ⟨regs, within_, nav⟩ := fixWatch_result r
  generalize fixWatch r = u at *
  have get_ (g : Fld) : u.get g = r.get g := State.get_of_regs regs g
  have gets_ (g : Fld) : u.gets g = r.gets g := by rw [State.gets, State.gets, get_]
  have flag_ (g : Fld) : u.flag g = r.flag g := by rw [State.flag, State.flag, get_]
  have reg_ (a : Nat) : u.reg a = r.reg a := by rw [State.reg, State.reg, regs]
  have long_ (lo hi : Nat) : u.get64 lo hi = r.get64 lo hi := by rw [State.get64, State.get64, reg_, reg_]
  have origin : machineOrigin u x.lat x.lon x.hgt = machineOrigin r x.lat x.lon x.hgt := machineOrigin_of (fun f _ => get_ f) _ _ _
  exact {
    within_ := h.within_.trans within_
    state := (get_ _).trans h.state
    slewing := (get_ _).trans h.slewing
    aligned := (flag_ _).trans h.aligned
    fix := (get_ _).trans h.fix
    corr := (flag_ _).trans h.corr
    changed := fun ne => (flagged_of_regs regs).mpr (h.changed (get_ F.GNS_STATUS_FIX ▸ ne))
    sats := (get_ _).trans h.sats
    speed := (gets_ _).trans h.speed
    valid := (flag_ _).trans h.valid
    heading := (get_ _).trans h.heading
    lost := fun was gone => (flagged_of_regs regs).mpr (h.lost was gone)
    roll := (gets_ _).trans h.roll
    pitch := (gets_ _).trans h.pitch
    position := fun some_ => by
      rw [long_, long_, origin, nav]
      exact h.position (get_ F.GNS_STATUS_FIX ▸ some_)
    stays := fun none_ => by
      rw [reg_, reg_, reg_, reg_]
      exact h.stays (get_ F.GNS_STATUS_FIX ▸ none_)
    leap := fun v hv => by
      rw [gets_, flag_]
      exact h.leap v hv
    offset := (gets_ _).trans h.offset
    runs := by rw [nav]; exact h.runs
    counts := by rw [nav]; exact h.counts
    hot := fun stopped => by rw [nav]; exact h.hot stopped
    orbits := fun o ho => by rw [nav]; exact h.orbits o ho }

theorem gnssEpoch_done (hs : b.regsWf = true) (on_ : gnssOn b = true) (due_ : b.nav.running = true → epochDue b = true) :
    ∃ r, gnssEpoch x b = timeJudged (timeSolution (takeNavData x b) x) (timeOffset (takeNavData x b) x) r ∧ EpochDone x b r := by
  have begun := epochBegun_result (x := x) hs on_ due_
  have ran := gnssEpoch_runs (x := x) on_ due_
  obtain ⟨solution, offset⟩ := begun.solution
  generalize epochBegun x b = v at *
  have sourced := epochSourced_result hs begun
  rw [solution, offset] at ran sourced
  refine ⟨_, ran, ?_⟩
  unfold epochReported
  exact (epochDone_of sourced (reportFix_result (sourced.within_.wf hs) _ rfl)).watched

theorem validNoted_result (valid : Bool) (s : State) : (validNoted valid s).regs = s.regs ∧ Within timeFoot s (validNoted valid s) ∧
    (validNoted valid s).nav = { s.nav with lastValid := if valid then s.now else s.nav.lastValid } := by
  cases valid
  · exact ⟨rfl, .refl, rfl⟩
  · exact ⟨rfl, nav_within .refl (by decide), rfl⟩

/-- What an epoch leaves, whatever becomes of device time. -/
theorem gnssEpoch_result (hs : b.regsWf = true) (on_ : gnssOn b = true) (due_ : b.nav.running = true → epochDue b = true) (u : State)
    (hu : u = gnssEpoch x b) :
    u.nav.running = true ∧ u.nav.epochAt = some (deviceTime b) ∧ (b.nav.running = false → u.nav.hot = hotStart b) ∧
      u.get F.GNS_STATUS_FIX = fixKind (refreshSource b) x ∧ u.nav.restart = false ∧
      u.flag F.GNS_STATUS_CORR_OK = (refreshSource b).flag F.GNS_STATUS_CORR_OK ∧
      (u.get F.GNS_STATUS_FIX ≠ b.get F.GNS_STATUS_FIX → Flagged Src.GNS_FIX_CHANGE u) ∧
      u.get F.GNS_STATUS_SATS = satN 6 x.used.length ∧ u.gets F.GNS_VEL_SPEED = satS 16 x.speed ∧
      u.flag F.GNS_STATUS_HEADING_VALID = headingOk b x ∧
      u.get F.GNS_HDG_HEADING = (if headingOk b x then machineHeading b x.azimuth else b.get F.GNS_HDG_HEADING) ∧
      (b.flag F.GNS_STATUS_HEADING_VALID = true → headingOk b x = false → Flagged Src.GNS_HEADING_LOST u) ∧
      u.gets F.GNS_ATT_ROLL = satS 16 (Config.attitude (imuMachine b) x.baseline x.azimuth).1 ∧
      u.gets F.GNS_ATT_PITCH = satS 16 (Config.attitude (imuMachine b) x.baseline x.azimuth).2 ∧
      (u.get F.GNS_STATUS_FIX ≠ 0 →
        u.get64 Reg.GNS_LAT_LO Reg.GNS_LAT_HI = toBits 64 (machineOrigin u x.lat x.lon x.hgt).1 ∧
        u.get64 Reg.GNS_LON_LO Reg.GNS_LON_HI = toBits 64 (machineOrigin u x.lat x.lon x.hgt).2.1 ∧ u.nav.posAt = deviceTime b) ∧
      (u.get F.GNS_STATUS_FIX = 0 → u.reg Reg.GNS_LAT_LO = b.reg Reg.GNS_LAT_LO ∧ u.reg Reg.GNS_LAT_HI = b.reg Reg.GNS_LAT_HI ∧
        u.reg Reg.GNS_LON_LO = b.reg Reg.GNS_LON_LO ∧ u.reg Reg.GNS_LON_HI = b.reg Reg.GNS_LON_HI) ∧
      (∀ v ∈ x.leap, u.gets F.GNS_LEAP_LEAP = satS 8 v ∧ u.flag F.GNS_LEAP_LEAP_VALID = true) ∧
      (∀ o ∈ x.orbits, (o.1, o.2, b.now) ∈ u.nav.orbits) ∧
      u.gets F.GNS_OFFSET_OFFSET = (if timeSolution (takeNavData x b) x then satS 32 (timeOffset (takeNavData x b) x)
        else b.gets F.GNS_OFFSET_OFFSET) ∧
      u.nav.lastValid = (if timeSolution (takeNavData x b) x then b.now else b.nav.lastValid) := by
  obtain ⟨r, ran, h⟩ := gnssEpoch_done (x := x) hs on_ due_
  rw [ran] at hu
  obtain ⟨regsN, withinN, navN⟩ := validNoted_result (timeSolution (takeNavData x b) x) r
  have judged := timeJudged_judged (timeSolution (takeNavData x b) x) (timeOffset (takeNavData x b) x) r
  rw [← hu] at judged
  have wfR := h.within_.wf hs
  have nowR : r.now = b.now := h.within_.part .now (by decide)
  generalize validNoted (timeSolution (takeNavData x b) x) r = n at *
  have wfN := withinN.wf wfR
  obtain ⟨within_, status, nav⟩ := judged
  have all := withinN.trans within_
  have get_ (g : Fld) (far : timeFoot.touches g.addr = false) : u.get g = r.get g := all.get far
  have gets_ (g : Fld) (far : timeFoot.touches g.addr = false) : u.gets g = r.gets g := by rw [State.gets, State.gets, get_ g far]
  have shown (g : Fld) (at_ : g.addr = Reg.GNS_STATUS) (a1 : F.GNS_STATUS_TSTATE.apart g = true) (a2 : F.GNS_STATUS_SLEWING.apart g = true) :
      u.get g = r.get g := (status wfN g at_ a1 a2).trans (State.get_of_regs regsN g)
  have flag_ (g : Fld) (at_ : g.addr = Reg.GNS_STATUS) (a1 : F.GNS_STATUS_TSTATE.apart g = true) (a2 : F.GNS_STATUS_SLEWING.apart g = true) :
      u.flag g = r.flag g := by rw [State.flag, State.flag, shown g at_ a1 a2]
  have fixU : u.get F.GNS_STATUS_FIX = r.get F.GNS_STATUS_FIX := shown _ rfl (by decide) (by decide)
  have origin : machineOrigin u x.lat x.lon x.hgt = machineOrigin r x.lat x.lon x.hgt := machineOrigin_of (fun f hf => get_ f (by
    have far : ∀ a ∈ [Reg.GNS_ANT_A_X, Reg.GNS_ANT_A_Y, Reg.GNS_ANT_A_Z, Reg.GNS_ATT, Reg.GNS_HDG], timeFoot.touches a = false := by decide
    exact far _ hf)) _ _ _
  have navU : u.nav = navDisciplined u.nav.lastDisciplined u.nav.good u.nav.acc u.nav.step
      { r.nav with lastValid := if timeSolution (takeNavData x b) x then r.now else r.nav.lastValid } := by rw [← navN]; exact nav
  obtain ⟨running, epochAt, restart⟩ := h.runs
  refine ⟨?_, ?_, fun stopped => ?_, fixU.trans h.fix, ?_, (flag_ _ rfl (by decide) (by decide)).trans h.corr,
    fun ne => all.flags wfR _ (by decide) (h.changed (fixU ▸ ne)), (shown _ rfl (by decide) (by decide)).trans h.sats,
    (gets_ _ (by decide)).trans h.speed, (flag_ _ rfl (by decide) (by decide)).trans h.valid, (get_ _ (by decide)).trans h.heading,
    fun was gone => all.flags wfR _ (by decide) (h.lost was gone), (gets_ _ (by decide)).trans h.roll, (gets_ _ (by decide)).trans h.pitch,
    fun some_ => ?_, fun none_ => ?_, fun v hv => ?_, fun o ho => ?_, (gets_ _ (by decide)).trans h.offset, ?_⟩
  · rw [navU]; exact running
  · rw [navU]; exact epochAt
  · rw [navU]; exact h.hot stopped
  · rw [navU]; exact restart
  · obtain ⟨lat, lon, posAt⟩ := h.position (fixU ▸ some_)
    refine ⟨?_, ?_, by rw [navU]; exact posAt⟩
    · rw [origin, all.get64 (by decide) (by decide)]; exact lat
    · rw [origin, all.get64 (by decide) (by decide)]; exact lon
  · obtain ⟨h1, h2, h3, h4⟩ := h.stays (fixU ▸ none_)
    exact ⟨(all.reg _ (by decide)).trans h1, (all.reg _ (by decide)).trans h2, (all.reg _ (by decide)).trans h3, (all.reg _ (by decide)).trans h4⟩
  · obtain ⟨leap, valid⟩ := h.leap v hv
    refine ⟨(gets_ _ (by decide)).trans leap, ?_⟩
    rw [State.flag, get_ _ (by decide)]
    exact valid
  · rw [navU]; exact h.orbits o ho
  · rw [navU, ← nowR, ← h.counts.2.2]; rfl

/-- An epoch on the terminus is judged from the state it has reported. -/
theorem gnssEpoch_judged (hs : b.regsWf = true) (on_ : gnssOn b = true) (due_ : b.nav.running = true → epochDue b = true) (term : isTerminus b = true)
    (u : State) (hu : u = gnssEpoch x b) : ∃ r, u = discipline (timeSolution (takeNavData x b) x) (timeOffset (takeNavData x b) x) r ∧ EpochDone x b r ∧
      r.regsWf = true := by
  obtain ⟨r, ran, h⟩ := gnssEpoch_done (x := x) hs on_ due_
  have role : isTerminus r = true := by
    rw [isTerminus, h.within_.part .role (by decide)]
    exact term
  refine ⟨r, ?_, h, h.within_.wf hs⟩
  rw [hu, ran, timeJudged, if_pos role]

/-! ### The discipline of device time, case by case -/

theorem validNoted_parts (s : State) : (validNoted true s).regs = s.regs ∧ (validNoted true s).devOff = s.devOff ∧ (validNoted true s).steer = s.steer ∧
    (validNoted true s).now = s.now ∧ (validNoted true s).drawn = s.drawn ∧ (validNoted true s).nav = { s.nav with lastValid := s.now } :=
  ⟨rfl, rfl, rfl, rfl, rfl, rfl⟩

theorem states_apart : tsAcquiring ≠ tsLocked ∧ tsHoldover ≠ tsLocked ∧ tsAcquiring ≠ tsHoldover := by decide

theorem discipline_counting {valid : Bool} {off : Int} (waits : tstate s = tsAcquiring ∨ tstate s = tsHoldover) :
    discipline valid off s = offsetCounted valid off (tstate s) (validNoted valid s) := by
  have unlocked : tstate s ≠ tsLocked := by
    obtain h | h := waits
    · rw [h]; exact states_apart.1
    · rw [h]; exact states_apart.2.1
  rw [discipline_eq, if_neg unlocked, if_pos waits]

/-- An offset before the tenth is added up (R513). -/
theorem discipline_adds {off : Int} (waits : tstate s = tsAcquiring ∨ tstate s = tsHoldover) (few : s.nav.good < 9) (u : State) (hu : u = discipline true off s) :
    tstate u = tstate s ∧ u.nav.good = s.nav.good + 1 ∧ u.nav.acc = s.nav.acc + off ∧ u.devOff = s.devOff ∧ u.steer = s.steer := by
  obtain ⟨regs, devOff, steer, -, -, nav⟩ := validNoted_parts s
  rw [discipline_counting waits] at hu
  generalize validNoted true s = v at *
  have good : v.nav.good = s.nav.good := by rw [nav]
  have acc : v.nav.acc = s.nav.acc := by rw [nav]
  have ran : u = { v with nav := { v.nav with
      good := v.nav.good + 1
      acc := v.nav.acc + off } } := by
    rw [hu, offsetCounted, if_pos rfl, if_pos (by rw [good]; omega)]
  have regsU : u.regs = s.regs := by rw [ran]; exact regs
  exact ⟨State.get_of_regs regsU _, by rw [ran, good], by rw [ran, acc], by rw [ran]; exact devOff, by rw [ran]; exact steer⟩

/-- Without a valid solution the count begins again. -/
theorem discipline_clears {off : Int} (waits : tstate s = tsAcquiring ∨ tstate s = tsHoldover) (u : State) (hu : u = discipline false off s) :
    tstate u = tstate s ∧ u.nav.good = 0 ∧ u.nav.acc = 0 := by
  rw [discipline_counting waits] at hu
  have ran : u = { s with nav := { s.nav with
      good := 0
      acc := 0 } } := hu
  rw [ran]
  exact ⟨rfl, rfl, rfl⟩

/-- The tenth offset. -/
theorem discipline_tenth {off : Int} (waits : tstate s = tsAcquiring ∨ tstate s = tsHoldover) (nine : s.nav.good = 9) :
    discipline true off s = tenthOffset (tstate s) (s.nav.acc + off) (validNoted true s) := by
  obtain ⟨-, -, -, -, -, nav⟩ := validNoted_parts s
  rw [discipline_counting waits, offsetCounted, if_pos rfl, if_neg (by rw [nav, nine]; decide), nav]

/-- The instant of a step lies between 100 ms and 1.1 s ahead, at a half second. -/
theorem stepInstant_bounds (t : Nat) : t + 100 * ms ≤ (t + 100 * ms + 500 * ms - 1) / sec * sec + 500 * ms ∧
    ((t + 100 * ms + 500 * ms - 1) / sec * sec + 500 * ms) % sec = 500 * ms ∧
    (t + 100 * ms + 500 * ms - 1) / sec * sec + 500 * ms < t + 1100 * ms := by
  have h1 : ms = 1000000 := rfl
  have h2 : sec = 1000000000 := rfl
  rw [h1, h2]
  omega

/-- A step of device time is set (R517). -/
theorem discipline_steps {off : Int} (hs : s.regsWf = true) (nine : s.nav.good = 9)
    (steps : tstate s = tsAcquiring ∨ (tstate s = tsHoldover ∧ 10000 ≤ (s.nav.acc + off).natAbs)) (u : State) (hu : u = discipline true off s) :
    tstate u = tsStepPending ∧ u.nav.good = 0 ∧ u.nav.acc = 0 ∧ ∃ h first, u.nav.step =
      some { h := h, off := roundDiv (s.nav.acc + off) 10, first := first } ∧
        deviceTime s + 100 * ms ≤ h ∧ h % sec = 500 * ms ∧ h < deviceTime s + 1100 * ms ∧ first = !timeValid s := by
  have waits : tstate s = tsAcquiring ∨ tstate s = tsHoldover := steps.imp_right And.left
  have acts : tstate s = tsAcquiring ∨ (s.nav.acc + off).natAbs ≥ 10000 := steps.imp_right And.right
  rw [discipline_tenth waits nine, tenthOffset] at hu
  dsimp only at hu
  rw [if_pos acts] at hu
  generalize roundDiv (s.nav.acc + off) 10 = mean at *
  obtain ⟨lo, half, hi⟩ := stepInstant_bounds (deviceTime s)
  have wf : ({ validNoted true s with nav := { (validNoted true s).nav with
    good := 0
    acc := 0 } } : State).regsWf = true := hs
  rw [hu]
  exact ⟨State.get_put_of_lt (by decide) (by decide) wf, rfl, rfl, _, _, rfl, lo, half, hi, rfl⟩

/-- A slew that begins in LOCKED. -/
theorem slew_result {v : State} (wf : v.regsWf = true) (state : v.get F.GNS_STATUS_TSTATE = tsLocked)
    (parts : v.nav.good = 0 ∧ v.nav.acc = 0 ∧ v.nav.lastDisciplined = s.now ∧ v.now = s.now ∧ v.devOff = s.devOff) (mean : Int) (u : State)
    (hu : u = raise0 Src.GNS_TIME_SLEW (beginSlew mean v)) :
    tstate u = tsLocked ∧ u.nav.good = 0 ∧ u.nav.acc = 0 ∧ u.nav.lastDisciplined = s.now ∧ Flagged Src.GNS_TIME_SLEW u ∧
      u.flag F.GNS_STATUS_SLEWING = (mean != 0) ∧
      u.steer = if mean = 0 then none else some { start := s.now, base := s.devOff, off := mean, dur := mean.natAbs * 20000000 } := by
  obtain ⟨good, acc, disciplined, now_, devOff⟩ := parts
  have wf1 : (beginSteer mean (mean.natAbs * 20000000) v).regsWf = true := wf
  have regs1 : (beginSteer mean (mean.natAbs * 20000000) v).regs = v.regs := rfl
  have wf2 : (beginSlew mean v).regsWf = true := State.regsWf_put _ _ _ wf1
  have slewing : (beginSlew mean v).get F.GNS_STATUS_SLEWING = b2n (mean != 0) := State.get_put_of_lt (by decide) (b2n_lt _ (by decide)) wf1
  have state2 : (beginSlew mean v).get F.GNS_STATUS_TSTATE = tsLocked :=
    (State.get_put_of_apart (by decide) wf1).trans ((State.get_of_regs regs1 _).trans state)
  have steer : (beginSlew mean v).steer = if mean = 0 then none else some { start := s.now, base := s.devOff, off := mean, dur := mean.natAbs * 20000000 } := by
    rw [← now_, ← devOff]
    rfl
  have nav : (beginSlew mean v).nav = v.nav := rfl
  generalize beginSlew mean v = r at *
  have told (g : Fld) (calm : calmReg g.addr = true) : u.get g = r.get g := by
    rw [hu]
    exact ((FieldStands.refl.raiseArg calm) wf2).2
  have navU : u.nav = v.nav := by rw [← nav, hu]; simp [raise0]
  refine ⟨(told _ (by decide)).trans state2, by rw [navU, good], by rw [navU, acc], by rw [navU, disciplined], ?_, ?_, ?_⟩
  · rw [hu]
    exact flagged_raiseArg (by decide) wf2
  · exact flag_of_b2n ((told _ (by decide)).trans slewing)
  · rw [← steer, hu]
    simp [raise0]

/-- A slew of device time begins (R515, R516). -/
theorem discipline_slews {off : Int} (hs : s.regsWf = true) (nine : s.nav.good = 9) (holds : tstate s = tsHoldover)
    (small : (s.nav.acc + off).natAbs < 10000) (mean : Int) (hm : mean = roundDiv (s.nav.acc + off) 10) (u : State) (hu : u = discipline true off s) :
    tstate u = tsLocked ∧ u.nav.good = 0 ∧ u.nav.acc = 0 ∧ u.nav.lastDisciplined = s.now ∧ Flagged Src.GNS_TIME_SLEW u ∧
      u.flag F.GNS_STATUS_SLEWING = (mean != 0) ∧
      u.steer = if mean = 0 then none else some { start := s.now, base := s.devOff, off := mean, dur := mean.natAbs * 20000000 } := by
  have still : ¬ (tstate s = tsAcquiring ∨ (s.nav.acc + off).natAbs ≥ 10000) := by
    rw [holds]
    rintro (h | h)
    · exact states_apart.2.2 h.symm
    · omega
  rw [discipline_tenth (.inr holds) nine, tenthOffset] at hu
  dsimp only at hu
  rw [if_neg still, ← hm] at hu
  obtain ⟨w, isW⟩ : ∃ w : State, w = State.put { validNoted true s with nav := { (validNoted true s).nav with
    good := 0
    acc := 0
    lastDisciplined := s.now } } F.GNS_STATUS_TSTATE tsLocked := ⟨_, rfl⟩
  have start : ({ validNoted true s with nav := { (validNoted true s).nav with
    good := 0
    acc := 0
    lastDisciplined := s.now } } : State).regsWf = true := hs
  have wf : w.regsWf = true := by rw [isW]; exact State.regsWf_put _ _ _ start
  have state : w.get F.GNS_STATUS_TSTATE = tsLocked := by rw [isW]; exact State.get_put_of_lt (by decide) (by decide) start
  have parts : w.nav.good = 0 ∧ w.nav.acc = 0 ∧ w.nav.lastDisciplined = s.now ∧ w.now = s.now ∧ w.devOff = s.devOff := by
    rw [isW]
    exact ⟨rfl, rfl, rfl, rfl, rfl⟩
  have ran : u = raise0 Src.GNS_TIME_SLEW (beginSlew mean w) := by rw [hu, isW]; rfl
  exact slew_result wf state parts mean u ran

/-- The rate of a steer is at most 50 ns in a second. -/
theorem steer_slow (n r : Nat) (some_ : r ≠ 0) (slow : r ≤ 50) : n * 20000000 ≤ n * sec / r := by
  have h : sec = 1000000000 := rfl
  rw [Nat.le_div_iff_mul_le (Nat.pos_of_ne_zero some_), h]
  calc n * 20000000 * r ≤ n * 20000000 * 50 := Nat.mul_le_mul_left _ slow
    _ = n * 1000000000 := by omega

theorem steerLocked_result {off : Int} (locked : tstate s = tsLocked) (u : State) (hu : u = disciplineLocked off s) :
    tstate u = tsLocked ∧ u.nav.lastDisciplined = s.now ∧ u.devOff = s.devOff ∧ (s.flag F.GNS_STATUS_SLEWING = true → u.steer = s.steer) ∧
      (s.flag F.GNS_STATUS_SLEWING = false → ∀ v ∈ u.steer, v.start = s.now ∧ v.base = s.devOff ∧ v.off = off ∧ v.off.natAbs * 20000000 ≤ v.dur) := by
  have same : ({ s with nav := { s.nav with lastDisciplined := s.now } } : State).flag F.GNS_STATUS_SLEWING = s.flag F.GNS_STATUS_SLEWING := rfl
  unfold disciplineLocked at hu
  dsimp only at hu
  rw [same] at hu
  have slow : min 50 (Config.steerRate s.drawn).toNat ≤ 50 := Nat.min_le_left _ _
  generalize min 50 (Config.steerRate s.drawn).toNat = r at *
  split at hu
  next slews =>
    rw [hu]
    exact ⟨locked, rfl, rfl, fun _ => rfl, fun no => by rw [slews] at no; cases no⟩
  next rests =>
    split at hu
    · rw [hu]
      exact ⟨locked, rfl, rfl, fun yes => absurd yes rests, fun _ v hv => by cases hv⟩
    next some_ =>
      rw [hu]
      refine ⟨locked, rfl, rfl, fun yes => absurd yes rests, fun _ v hv => ?_⟩
      unfold beginSteer at hv
      dsimp only at hv
      split at hv
      · cases hv
      · obtain rfl := Option.some.inj hv
        exact ⟨rfl, rfl, rfl, steer_slow _ _ some_ slow⟩

/-- A valid solution in LOCKED (R513, R514). -/
theorem discipline_locked {off : Int} (locked : tstate s = tsLocked) (u : State) (hu : u = discipline true off s) :
    tstate u = tsLocked ∧ u.nav.lastDisciplined = s.now ∧ u.devOff = s.devOff ∧ (s.flag F.GNS_STATUS_SLEWING = true → u.steer = s.steer) ∧
      (s.flag F.GNS_STATUS_SLEWING = false → ∀ v ∈ u.steer, v.start = s.now ∧ v.base = s.devOff ∧ v.off = off ∧ v.off.natAbs * 20000000 ≤ v.dur) := by
  obtain ⟨regs, devOff, steer, now_, -, -⟩ := validNoted_parts s
  have slewing : (validNoted true s).flag F.GNS_STATUS_SLEWING = s.flag F.GNS_STATUS_SLEWING := by rw [State.flag, State.flag, State.get_of_regs regs]
  have state : tstate (validNoted true s) = tsLocked := (State.get_of_regs regs _).trans locked
  rw [discipline_eq, if_pos locked, if_pos rfl] at hu
  generalize validNoted true s = v at *
  rw [← devOff, ← now_, ← steer, ← slewing]
  exact steerLocked_result state u hu

/-- No valid solution in LOCKED (R514). -/
theorem discipline_lost {off : Int} (hs : s.regsWf = true) (locked : tstate s = tsLocked) (u : State) (hu : u = discipline false off s) :
    tstate u = (if s.nav.lastValid + sec ≤ s.now then tsHoldover else tsLocked) ∧
      (s.nav.lastValid + sec ≤ s.now → u.steer = none ∧ Flagged Src.GNS_HOLDOVER_IN u) := by
  rw [discipline_eq, if_pos locked, if_neg (by decide)] at hu
  have noted : validNoted false s = s := rfl
  rw [noted] at hu
  by_cases late : s.nav.lastValid + sec ≤ s.now
  · rw [if_pos late] at hu ⊢
    obtain ⟨-, state, steer, -, flagged, -⟩ := enterHoldover_result hs
    rw [hu]
    exact ⟨state, fun _ => ⟨steer, flagged⟩⟩
  · rw [if_neg late] at hu ⊢
    exact ⟨by rw [hu, locked], fun h => absurd h late⟩

end

/-! ### The rows -/

section
variable {b : State} {x : GnssFix}

theorem ncos_length_of_sound (h : b.sound = true) : b.nav.ncos.length = 128 := by
  simp only [State.sound, State.sized, Bool.and_eq_true, beq_iff_eq] at h
  obtain ⟨-, sizes⟩ := h
  exact sizes.1.1.2

/-- A search that has no effect beside the start of the receiver. -/
theorem search_idle {n sig sv : Nat} {antB aided found : Bool} {doppler : Int}
    (idle : gnssOn b = false ∨ searchable b sig sv aided = false ∨ searchEngine (receiverStart b) aided = none) :
    acquisitionDone n sig sv antB aided found doppler b = receiverStart b := by
  have only := (receiverStart_only b).1
  have on_ : gnssOn (receiverStart b) = gnssOn b := by rw [only]; rfl
  have may : searchable (receiverStart b) sig sv aided = searchable b sig sv aided := by
    unfold receiverStart
    split <;> rfl
  unfold acquisitionDone
  dsimp only
  rw [on_, may]
  obtain off | never | busy := idle
  · rw [off, Bool.not_false, Bool.or_true, Bool.true_or, if_pos rfl]
  · rw [never, Bool.not_false, Bool.or_true, if_pos rfl]
  · split
    · rfl
    · rw [busy]

theorem startedState_of_running (term : isTerminus b = true) (runs : tstate b ≠ tsOff) : startedState b = tstate b := by
  rw [startedState, if_neg (by simp [term]), if_pos runs]

theorem startedState_of_off (term : isTerminus b = true) (off : tstate b = tsOff) :
    startedState b = if timeValid b then tsHoldover else tsAcquiring := by
  rw [startedState, if_neg (by simp [term]), if_neg (by simp [off])]

theorem waiting_runs (waits : tstate b = tsAcquiring ∨ tstate b = tsHoldover) : tstate b ≠ tsOff := by
  obtain h | h := waits
  · rw [h]; decide
  · rw [h]; decide

theorem EpochDone.clock {r : State} (h : EpochDone x b r) : r.now = b.now ∧ r.devOff = b.devOff ∧ r.steer = b.steer ∧ deviceTime r = deviceTime b := by
  have now_ : r.now = b.now := h.within_.part .now (by decide)
  have devOff : r.devOff = b.devOff := h.within_.part .devOff (by decide)
  exact ⟨now_, devOff, h.within_.part .steer (by decide), by rw [deviceTime, deviceTime, now_, devOff]⟩

/-- A state in which an epoch of the terminus is due. -/
structure EpochAwaited (b : State) : Prop where
  sound : b.sound = true
  on_ : gnssOn b = true
  due_ : b.nav.running = true → epochDue b = true
  term : isTerminus b = true

/-- The row of an epoch on the terminus, by what becomes of device time. -/
theorem does_judged {cond : State → Prop} {P : State → State → Prop} (awaits : ∀ b, cond b → EpochAwaited b)
    (h : ∀ b r, cond b → isTerminus b = true → EpochDone x b r → r.regsWf = true →
      P b (discipline (timeSolution (takeNavData x b) x) (timeOffset (takeNavData x b) x) r)) : Does (fun t => .gnssEpoch t x) cond P :=
  does_of_run (gnssEpoch x) (fun _ _ => rfl) fun b hc => by
    obtain ⟨sound, on_, due_, term⟩ := awaits b hc
    obtain ⟨r, ran, done, wf⟩ := gnssEpoch_judged (x := x) (regsWf_of_sound sound) on_ due_ term _ rfl
    rw [ran]
    exact h b r hc term done wf

end

/-- Settles O45: dumps and searches in their channels, the epoch stage by stage down to device time, and the frames of the sources by their kinds. -/
theorem receiverRows : Obligations.ReceiverRows := by
  refine ⟨fun l => ?_, fun l nodup => ?_, fun n sig sv antB aided found doppler i hn hsig hsv => ?_, fun n sig sv antB aided found doppler => ?_, fun x => ?_,
    fun x => ?_, fun x => ?_, fun x => ?_, fun x => ?_, fun x => ?_, fun x => ?_, fun x => ?_, fun x => ?_, fun x => ?_, fun x => ?_, fun x => ?_, ?_, ?_,
    fun x => ?_, ?_, fun k => ?_, fun k => ?_, fun k => ?_, ?_, fun antB cur low limit => ?_, fun k => ?_, fun k lo hi => ?_, fun k frame msg rest lo hi => ?_,
    fun k frame msg rest lo hi => ?_, fun k frame msg rest lo hi => ?_, fun k frame msg rest lo hi => ?_, fun k frame msg rest lo hi => ?_,
    fun k frame msg rest lo hi => ?_, ?_, ?_⟩
  case refine_1 =>
    exact does_of_run (fun s => if gnssOn s then countTracking (foldOver dumpChannel (receiverStart s) l) else s) (fun _ _ => rfl)
      fun b off => if_neg (by simp [off])
  case refine_2 =>
    refine does_of_run (fun s => if gnssOn s then countTracking (foldOver dumpChannel (receiverStart s) l) else s) (fun _ _ => rfl)
      fun b ⟨sound, on_⟩ => ?_
    rw [if_pos on_]
    exact dumps_counted nodup (regsWf_of_sound sound) (ncos_length_of_sound sound) _ rfl
  case refine_3 =>
    exact does_of_run (acquisitionDone n sig sv antB aided found doppler) (fun _ _ => rfl)
      fun b ⟨sound, on_, may, engine⟩ => search_result hn hsig hsv (regsWf_of_sound sound) on_ may engine _ rfl
  case refine_4 =>
    exact does_of_run (acquisitionDone n sig sv antB aided found doppler) (fun _ _ => rfl) fun b idle => search_idle idle
  case refine_5 =>
    exact does_of_run (gnssEpoch x) (fun _ _ => rfl) fun b ⟨on_, ran, early⟩ => gnssEpoch_early on_ ran early
  case refine_6 =>
    exact does_of_run (gnssEpoch x) (fun _ _ => rfl) fun b ⟨off, stopped, rests⟩ => gnssEpoch_rests off stopped rests
  case refine_7 =>
    exact does_of_run (gnssEpoch x) (fun _ _ => rfl) fun b ⟨sound, off, ran⟩ => gnssEpoch_stops (regsWf_of_sound sound) off ran _ rfl
  case refine_8 =>
    exact does_of_run (gnssEpoch x) (fun _ _ => rfl) fun b ⟨sound, off, term, up, locked, late⟩ =>
      gnssEpoch_holds (regsWf_of_sound sound) off term up locked late _ rfl
  case refine_9 =>
    exact does_of_run (gnssEpoch x) (fun _ _ => rfl) fun b ⟨sound, on_, due_⟩ => gnssEpoch_result (regsWf_of_sound sound) on_ due_ _ rfl
  case refine_10 =>
    refine does_judged (fun b ⟨sound, on_, due_, term, _⟩ => ⟨sound, on_, due_, term⟩) fun b r ⟨_, _, _, _, solved, waits, few⟩ term done wf => ?_
    have state := done.state.trans (startedState_of_running term (waiting_runs waits))
    obtain ⟨good, acc, -⟩ := done.counts
    obtain ⟨-, devOff, steer, -⟩ := done.clock
    rw [solved, ← state, ← good, ← acc, ← devOff, ← steer]
    exact discipline_adds (by rw [state]; exact waits) (by rw [good]; exact few) _ rfl
  case refine_11 =>
    refine does_judged (fun b ⟨sound, on_, due_, term, _⟩ => ⟨sound, on_, due_, term⟩) fun b r ⟨_, _, _, _, solved, off, few⟩ term done wf => ?_
    have state := done.state.trans (startedState_of_off term off)
    obtain ⟨good, -⟩ := done.counts
    have waits : tstate r = tsAcquiring ∨ tstate r = tsHoldover := by
      rw [state]
      split
      · exact .inr rfl
      · exact .inl rfl
    rw [solved, ← state, ← good]
    obtain ⟨same, count, -⟩ := discipline_adds (off := timeOffset (takeNavData x b) x) waits (by rw [good]; exact few) _ rfl
    exact ⟨same, count⟩
  case refine_12 =>
    refine does_judged (fun b ⟨sound, on_, due_, term, _⟩ => ⟨sound, on_, due_, term⟩) fun b r ⟨_, _, _, _, solved, nine, steps⟩ term done wf => ?_
    have state := done.state.trans (startedState_of_running term (waiting_runs (steps.imp_right And.left)))
    obtain ⟨good, acc, -⟩ := done.counts
    obtain ⟨-, -, -, time⟩ := done.clock
    rw [solved, ← acc, ← time, ← done.aligned]
    exact discipline_steps wf (good.trans nine) (by rw [state, acc]; exact steps) _ rfl
  case refine_13 =>
    refine does_judged (fun b ⟨sound, on_, due_, term, _⟩ => ⟨sound, on_, due_, term⟩) fun b r ⟨_, _, _, _, solved, nine, holds, small⟩ term done wf => ?_
    have state := done.state.trans (startedState_of_running term (waiting_runs (.inr holds)))
    obtain ⟨good, acc, -⟩ := done.counts
    obtain ⟨now_, devOff, -, -⟩ := done.clock
    rw [solved, ← acc, ← now_, ← devOff]
    exact discipline_slews wf (good.trans nine) (state.trans holds) (by rw [acc]; exact small) _ rfl _ rfl
  case refine_14 =>
    refine does_judged (fun b ⟨sound, on_, due_, term, _⟩ => ⟨sound, on_, due_, term⟩) fun b r ⟨_, _, _, _, unsolved, waits⟩ term done wf => ?_
    have state := done.state.trans (startedState_of_running term (waiting_runs waits))
    rw [unsolved, ← state]
    exact discipline_clears (by rw [state]; exact waits) _ rfl
  case refine_15 =>
    refine does_judged (fun b ⟨sound, on_, due_, term, _⟩ => ⟨sound, on_, due_, term⟩) fun b r ⟨_, _, _, _, solved, locked⟩ term done wf => ?_
    have state := done.state.trans (startedState_of_running term (by rw [locked]; decide))
    obtain ⟨now_, devOff, steer, -⟩ := done.clock
    have slewing : r.flag F.GNS_STATUS_SLEWING = b.flag F.GNS_STATUS_SLEWING := by rw [State.flag, State.flag, done.slewing]
    rw [solved, ← now_, ← devOff, ← steer, ← slewing]
    exact discipline_locked (state.trans locked) _ rfl
  case refine_16 =>
    refine does_judged (fun b ⟨sound, on_, due_, term, _⟩ => ⟨sound, on_, due_, term⟩) fun b r ⟨_, _, _, _, unsolved, locked⟩ term done wf => ?_
    have state := done.state.trans (startedState_of_running term (by rw [locked]; decide))
    obtain ⟨-, -, last⟩ := done.counts
    obtain ⟨now_, -⟩ := done.clock
    rw [unsolved, ← last, ← now_]
    exact discipline_lost wf (state.trans locked) _ rfl
  case refine_17 =>
    refine does_of_run slewEnd (fun _ _ => rfl) fun b ⟨sound, ended⟩ => ?_
    have hs := regsWf_of_sound sound
    have ran : slewEnd b = b.put F.GNS_STATUS_SLEWING 0 := if_pos (by rw [ended]; rfl)
    rw [ran]
    exact ⟨rfl, flag_of_b2n (v := false) (State.get_put_of_lt (by decide) (by decide) hs), fieldsKept_put (by decide) hs _⟩
  case refine_18 =>
    exact does_of_run slewEnd (fun _ _ => rfl) fun b slews => if_neg (by
      obtain ⟨v, some_⟩ := Option.isSome_iff_exists.mp slews
      simp [some_])
  case refine_19 =>
    exact does_of_run timeStep (fun _ _ => rfl) fun b ⟨sound, term, step, due_⟩ => timeStep_result (regsWf_of_sound sound) term step due_ _ rfl
  case refine_20 =>
    exact does_of_run timeStep (fun _ _ => rfl) fun b idle => timeStep_idle idle
  case refine_21 =>
    refine does_from_silence timePulse (fun _ _ => rfl) fun b silent ⟨sound, en, time, up, second, fresh, open_⟩ => ?_
    rw [timePulse_due en time up second fresh, if_neg open_]
    exact pulseMade_result (regsWf_of_sound sound) silent _ rfl
  case refine_22 =>
    refine does_from_silence timePulse (fun _ _ => rfl) fun b silent ⟨en, time, up, same, lo, hi, fresh, open_⟩ => ?_
    rw [timePulse_due en time up (pulseSecond_of_delay same lo hi) fresh, if_neg open_]
    refine ⟨?_, rfl⟩
    show b.out ++ [.pps] = [.pps]
    rw [silent]
    rfl
  case refine_23 =>
    refine does_of_run timePulse (fun _ _ => rfl) fun b ⟨en, time, up, second, fresh, suppressed⟩ => ?_
    rw [timePulse_due en time up second fresh, if_pos suppressed]
  case refine_24 =>
    exact does_of_run timePulse (fun _ _ => rfl) fun b idle => timePulse_idle idle
  case refine_25 =>
    exact does_of_run (antFault antB cur low limit) (fun _ _ => rfl) fun b sound => antFault_result sound _ rfl _ rfl
  case refine_26 =>
    refine does_of_run (fun s => if gnssOn s ∧ 1 ≤ k ∧ k ≤ 3 then rtcmFrame k s else s) (fun _ _ => rfl) fun b idle => if_neg ?_
    rintro ⟨on_, lo, hi⟩
    obtain off | zero | high := idle
    · simp [off] at on_
    · omega
    · omega
  case refine_27 =>
    refine does_of_run (fun s => if gnssOn s ∧ 1 ≤ k ∧ k ≤ 3 then rtcmFrame k s else s) (fun _ _ => rfl) fun b ⟨sound, on_, part⟩ => ?_
    rw [if_pos ⟨on_, lo, hi⟩, rtcmFrame_partial part]
    obtain ⟨own, -, only⟩ := bufferLeft_result (rest := toPreamble (corrSource b k).buffer) (sources_length_of_sound sound) lo hi
    exact ⟨by rw [own], only⟩
  case refine_28 =>
    refine does_of_run (fun s => if gnssOn s ∧ 1 ≤ k ∧ k ≤ 3 then rtcmFrame k s else s) (fun _ _ => rfl) fun b ⟨sound, on_, framed, bad⟩ => ?_
    rw [if_pos ⟨on_, lo, hi⟩]
    exact frame_failed lo hi sound framed bad _ rfl
  case refine_29 =>
    refine does_of_run (fun s => if gnssOn s ∧ 1 ≤ k ∧ k ≤ 3 then rtcmFrame k s else s) (fun _ _ => rfl)
      fun b ⟨sound, on_, framed, good, obs, tracked_, station⟩ => ?_
    rw [if_pos ⟨on_, lo, hi⟩]
    exact frame_observed lo hi sound framed good obs tracked_ station _ rfl
  case refine_30 =>
    refine does_of_run (fun s => if gnssOn s ∧ 1 ≤ k ∧ k ≤ 3 then rtcmFrame k s else s) (fun _ _ => rfl)
      fun b ⟨sound, on_, framed, good, obs, filter, other⟩ => ?_
    rw [if_pos ⟨on_, lo, hi⟩]
    exact frame_filtered lo hi sound framed good obs filter other _ rfl
  case refine_31 =>
    refine does_of_run (fun s => if gnssOn s ∧ 1 ≤ k ∧ k ≤ 3 then rtcmFrame k s else s) (fun _ _ => rfl)
      fun b ⟨sound, on_, framed, good, idle⟩ => ?_
    rw [if_pos ⟨on_, lo, hi⟩]
    exact frame_idle lo hi sound framed good idle _ rfl
  case refine_32 =>
    refine does_of_run (fun s => if gnssOn s ∧ 1 ≤ k ∧ k ≤ 3 then rtcmFrame k s else s) (fun _ _ => rfl)
      fun b ⟨sound, on_, framed, good, aid⟩ => ?_
    rw [if_pos ⟨on_, lo, hi⟩]
    exact frame_aids lo hi sound framed good aid _ rfl
  case refine_33 =>
    refine does_of_run (fun s => if gnssOn s ∧ 1 ≤ k ∧ k ≤ 3 then rtcmFrame k s else s) (fun _ _ => rfl)
      fun b ⟨sound, on_, framed, good, unknown⟩ => ?_
    rw [if_pos ⟨on_, lo, hi⟩]
    exact frame_unsupported lo hi sound framed good unknown _ rfl
  case refine_34 =>
    exact does_of_run (fun s => if gnssOn s then refreshSource s else s) (fun _ _ => rfl) fun b off => if_neg (by simp [off])
  case refine_35 =>
    refine does_of_run (fun s => if gnssOn s then refreshSource s else s) (fun _ _ => rfl) fun b ⟨sound, on_⟩ => ?_
    rw [if_pos on_]
    obtain ⟨-, source, base, ok_, stands, nav, stale, fine⟩ := refreshSource_result (regsWf_of_sound sound) _ rfl
    refine ⟨source, ?_, ok_, ?_, nav, stale, fine⟩
    · rw [base, corrBase]
      split
      · rfl
      · rfl
    · exact stands _ (by decide) (by decide) (by decide) (by decide)

end Sys2Proof.Machine
end

section
/-!
Steering: what a computation of the law leaves, the blending after a takeover, the operator enable, and each cause that releases steering
(R523, R531–R537).
-/

namespace Sys2Proof.Machine

/-! ### A release that a condition asks for -/

section
variable {w : Footprint} {b s t u : State} {g : Guidance} {x : NavPoint}

/-- A release, where its cause holds. -/
def releasedIf (cause : Bool) (reason : Nat) (s : State) : State := if cause then releaseSteer reason s else s

theorem releaseSteer_of_idle {reason : Nat} (idle : engaged s = false ∨ isRelief s = true) : releaseSteer reason s = s := by
  obtain idle | idle := idle <;> simp [releaseSteer, idle]

theorem releaseSteer_nav (reason : Nat) (s : State) : (releaseSteer reason s).nav = s.nav := by
  unfold releaseSteer
  split
  · simp [raise0]
  · rfl

theorem releaseSteer_within {reason : Nat} (h : Within w b s) (hw : w.reg Reg.GNS_STEER_STATUS = true) : Within w b (releaseSteer reason s) := by
  unfold releaseSteer
  split
  · exact raise0_within (put_within (put_within h hw) hw)
  · exact h

theorem releaseSteer_blend {reason : Nat} (hs : s.regsWf = true) :
    (releaseSteer reason s).flag F.GNS_STEER_STATUS_BLEND = s.flag F.GNS_STEER_STATUS_BLEND := by
  unfold releaseSteer
  split
  · simp +decide [State.flag, raise0, hs]
  · rfl

/-- A held engagement ends with the reason, and nothing else of steering moves; otherwise nothing happens. -/
theorem releaseSteer_ifHeld {reason : Nat} (fits : reason < 256) (hs : s.regsWf = true) : ReleasedIfHeld reason s (releaseSteer reason s) :=
  ⟨fun ⟨on, holder⟩ => ⟨releaseSteer_released fits on holder hs, releaseSteer_nav reason s⟩, releaseSteer_of_idle⟩

theorem releasedIf_false {reason : Nat} : releasedIf false reason s = s := rfl

theorem releasedIf_true {reason : Nat} : releasedIf true reason s = releaseSteer reason s := rfl

theorem releasedIf_of_idle {cause : Bool} {reason : Nat} (idle : engaged s = false ∨ isRelief s = true) : releasedIf cause reason s = s := by
  cases cause
  · rfl
  · exact releaseSteer_of_idle idle

theorem releasedIf_nav (cause : Bool) (reason : Nat) (s : State) : (releasedIf cause reason s).nav = s.nav := by
  cases cause
  · rfl
  · exact releaseSteer_nav reason s

theorem releasedIf_within {cause : Bool} {reason : Nat} (h : Within w b s) (hw : w.reg Reg.GNS_STEER_STATUS = true) :
    Within w b (releasedIf cause reason s) := by
  cases cause
  · exact h
  · exact releaseSteer_within h hw

theorem releasedIf_blend {cause : Bool} {reason : Nat} (hs : s.regsWf = true) :
    (releasedIf cause reason s).flag F.GNS_STEER_STATUS_BLEND = s.flag F.GNS_STEER_STATUS_BLEND := by
  cases cause
  · rfl
  · exact releaseSteer_blend hs

/-! ### The state before a computation -/

/-- The registers that a propagated position moves. -/
def pointRegs : List Nat := Reg.GNS_VEL :: Reg.GNS_HDG :: Reg.GNS_ATT :: positionRegs

/-- The heading and the attitude between epochs. -/
def pointTurned (x : NavPoint) (s : State) : State := setAttitude 0 0 (s.put F.GNS_HDG_HEADING x.heading)

/-- The position and the speed between epochs. -/
def pointMoved (x : NavPoint) (s : State) : State := (reportPosition x.lat x.lon x.hgt s).puts F.GNS_VEL_SPEED x.speed

/-- The position last known, and its instant. -/
def positionKnown (o : Int × Int × Int) (at_ : Nat) (s : State) : State :=
  { s with nav := { s.nav with
    knownAt := some (o.1, o.2.1)
    posAt := at_ } }

theorem reportPosition_known (lat lon hgt : Int) (s : State) : reportPosition lat lon hgt s =
    positionKnown (machineOrigin s lat lon hgt) (deviceTime s) (originShown (machineOrigin s lat lon hgt) s) := rfl

/-- What a propagated position leaves. -/
structure PointShown (x : NavPoint) (b u : State) : Prop where
  within_ : Within (listFoot pointRegs) b u
  heading : u.get F.GNS_HDG_HEADING = x.heading % 524288
  speed : u.gets F.GNS_VEL_SPEED = satS 16 x.speed
  roll : u.gets F.GNS_ATT_ROLL = satS 16 (Config.attitude (imuMachine b) 0 0).1
  pitch : u.gets F.GNS_ATT_PITCH = satS 16 (Config.attitude (imuMachine b) 0 0).2
  lat : u.get64 Reg.GNS_LAT_LO Reg.GNS_LAT_HI = toBits 64 (machineOrigin u x.lat x.lon x.hgt).1
  lon : u.get64 Reg.GNS_LON_LO Reg.GNS_LON_HI = toBits 64 (machineOrigin u x.lat x.lon x.hgt).2.1

theorem imuMachine_of (imu : u.inp.imu = s.inp.imu)
    (gets : ∀ f : Fld, f.addr ∈ [Reg.GNS_IMU_QW, Reg.GNS_IMU_QX, Reg.GNS_IMU_QY, Reg.GNS_IMU_QZ] → u.get f = s.get f) : imuMachine u = imuMachine s := by
  have signed (f : Fld) (hf : f.addr ∈ [Reg.GNS_IMU_QW, Reg.GNS_IMU_QX, Reg.GNS_IMU_QY, Reg.GNS_IMU_QZ]) : u.gets f = s.gets f := by
    rw [State.gets, State.gets, gets f hf]
  unfold imuMachine
  rw [signed F.GNS_IMU_QW_V (by decide), signed F.GNS_IMU_QX_V (by decide), signed F.GNS_IMU_QY_V (by decide), signed F.GNS_IMU_QZ_V (by decide), imu]

theorem pointTurned_result (hs : b.regsWf = true) (u : State) (hu : u = pointTurned x b) : Within (listFoot [Reg.GNS_HDG, Reg.GNS_ATT]) b u ∧ u.nav = b.nav ∧
    u.get F.GNS_HDG_HEADING = x.heading % 524288 ∧ u.gets F.GNS_ATT_ROLL = satS 16 (Config.attitude (imuMachine b) 0 0).1 ∧
      u.gets F.GNS_ATT_PITCH = satS 16 (Config.attitude (imuMachine b) 0 0).2 := by
  unfold pointTurned at hu
  have within1 : Within (listFoot [Reg.GNS_HDG]) b (b.put F.GNS_HDG_HEADING x.heading) := put_within .refl (by decide)
  have heading1 : (b.put F.GNS_HDG_HEADING x.heading).get F.GNS_HDG_HEADING = x.heading % 2 ^ 19 := State.get_put_mod (by decide) hs
  have nav1 : (b.put F.GNS_HDG_HEADING x.heading).nav = b.nav := rfl
  have imu1 : imuMachine (b.put F.GNS_HDG_HEADING x.heading) = imuMachine b :=
    imuMachine_of (congrArg InputPart.imu (within1.part .inp (by decide))) fun f hf => within1.get (by
      have each : ∀ a ∈ [Reg.GNS_IMU_QW, Reg.GNS_IMU_QX, Reg.GNS_IMU_QY, Reg.GNS_IMU_QZ], (listFoot [Reg.GNS_HDG]).touches a = false := by decide
      exact each _ hf)
  generalize b.put F.GNS_HDG_HEADING x.heading = v at *
  obtain ⟨within2, roll2, pitch2, nav2⟩ := setAttitude_result (within1.wf hs) u hu
  exact ⟨(Within.grow .refl within1 (listFoot_sub (by decide))).grow within2 (listFoot_sub (by decide)), nav2.trans nav1,
    (within2.get (by decide)).trans heading1, imu1 ▸ roll2, imu1 ▸ pitch2⟩

theorem pointMoved_result (hs : b.regsWf = true) (u : State) (hu : u = pointMoved x b) : Within (listFoot (Reg.GNS_VEL :: positionRegs)) b u ∧
    (∃ known, u.nav = { b.nav with
      knownAt := known
      posAt := deviceTime b }) ∧
    u.gets F.GNS_VEL_SPEED = satS 16 x.speed ∧
    u.get64 Reg.GNS_LAT_LO Reg.GNS_LAT_HI = toBits 64 (machineOrigin u x.lat x.lon x.hgt).1 ∧
    u.get64 Reg.GNS_LON_LO Reg.GNS_LON_HI = toBits 64 (machineOrigin u x.lat x.lon x.hgt).2.1 := by
  unfold pointMoved at hu
  rw [reportPosition_known] at hu
  obtain ⟨o, ho⟩ : ∃ o, o = machineOrigin b x.lat x.lon x.hgt := ⟨_, rfl⟩
  rw [← ho] at hu
  obtain ⟨within1, nav1, lat1, lon1⟩ := originShown_result o hs
  generalize originShown o b = v at *
  have within2 : Within (listFoot positionRegs) b (positionKnown o (deviceTime b) v) := nav_within within1 (by decide)
  have regs2 : (positionKnown o (deviceTime b) v).regs = v.regs := rfl
  have nav2 : (positionKnown o (deviceTime b) v).nav = { v.nav with
    knownAt := some (o.1, o.2.1)
    posAt := deviceTime b } := rfl
  generalize positionKnown o (deviceTime b) v = r at *
  have get64 (lo hi : Nat) : r.get64 lo hi = v.get64 lo hi := by rw [State.get64, State.get64, State.reg, State.reg, State.reg, State.reg, regs2]
  have within3 : Within (listFoot [Reg.GNS_VEL]) r u := hu ▸ puts_within .refl (by decide)
  have all := (Within.grow .refl within2 (listFoot_sub (m := Reg.GNS_VEL :: positionRegs) (by decide))).grow within3 (listFoot_sub (by decide))
  have originU : machineOrigin u x.lat x.lon x.hgt = o := (machineOrigin_of (fun f hf => all.get (by
    have each : ∀ a ∈ [Reg.GNS_ANT_A_X, Reg.GNS_ANT_A_Y, Reg.GNS_ANT_A_Z, Reg.GNS_ATT, Reg.GNS_HDG],
      (listFoot (Reg.GNS_VEL :: positionRegs)).touches a = false := by decide
    exact each _ hf)) _ _ _).trans ho.symm
  have navU : u.nav = r.nav := by rw [hu]; rfl
  exact ⟨all, ⟨some (o.1, o.2.1), by rw [navU, nav2, nav1]⟩, hu ▸ gets_puts_satS x.speed (by decide) (by decide) (within2.wf hs),
    by rw [originU, within3.get64 (by decide) (by decide), get64, lat1], by rw [originU, within3.get64 (by decide) (by decide), get64, lon1]⟩

theorem overrideNow_of_regs (regs : u.regs = s.regs) (line : u.line = s.line) : overrideNow u = overrideNow s := by
  have gets (f : Fld) : u.gets f = s.gets f := by rw [State.gets, State.gets, State.get_of_regs regs]
  rw [overrideNow, overrideNow, State.flag, State.flag, State.get_of_regs regs, State.get_of_regs regs, State.get_of_regs regs, gets, lineValue, lineValue,
    line]

theorem overrideNow_of_point (h : Within (listFoot pointRegs) s u) : overrideNow u = overrideNow s := by
  rw [overrideNow, overrideNow, h.flag (by decide), h.get (by decide), h.get (by decide), State.gets, State.gets, h.get (by decide), lineValue, lineValue,
    (h.part .line (by decide) : u.line = s.line)]

/-- The part of navigation after a propagated position: the instant, the position, and what watches the fix and the override. -/
def navPropagated (at_ : Nat) (known : Option (Int × Int)) (since : Option Nat × Option Nat × Option Nat × Option Nat) (n : NavPart) : NavPart :=
  { n with
    steerAt := some at_
    knownAt := known
    posAt := at_
    fixBadSince := since.1
    hdgBadSince := since.2.1
    spdBadSince := since.2.2.1
    ovSince := since.2.2.2 }

/-- What watches a fix, and the override, after a propagation. -/
def pointWatched (s : State) : State := overrideWatch (fixWatch s)

theorem pointWatched_result (s : State) : (pointWatched s).regs = s.regs ∧ Within (listFoot []) s (pointWatched s) ∧
    (∃ fix heading speed, (pointWatched s).nav = { s.nav with
      fixBadSince := fix
      hdgBadSince := heading
      spdBadSince := speed
      ovSince := (pointWatched s).nav.ovSince }) ∧
    ((pointWatched s).nav.ovSince = none ↔ overrideNow s = false) := by
  refine ⟨rfl, nav_within (nav_within .refl (by decide)) (by decide), ⟨_, _, _, rfl⟩, ?_⟩
  show (if overrideNow (fixWatch s) then some _ else none) = none ↔ _
  rw [(overrideNow_of_regs rfl rfl : overrideNow (fixWatch s) = overrideNow s)]
  cases overrideNow s <;> simp

/-- The instant of the computation, noted. -/
def computationNoted (b : State) : State := { b with nav := { b.nav with steerAt := some (deviceTime b) } }

theorem computationNoted_result (b : State) : Within (listFoot []) b (computationNoted b) ∧ imuMachine (computationNoted b) = imuMachine b ∧
    deviceTime (computationNoted b) = deviceTime b ∧ (computationNoted b).nav = { b.nav with steerAt := some (deviceTime b) } :=
  ⟨nav_within .refl (by decide), rfl, rfl, rfl⟩

theorem steerState_eq (x : NavPoint) (b : State) : steerState x b = pointWatched (pointMoved x (pointTurned x (computationNoted b))) := rfl

theorem steerState_result (hs : b.regsWf = true) (u : State) (hu : u = steerState x b) : PointShown x b u ∧
    (∃ known since, u.nav = navPropagated (deviceTime b) known since b.nav) ∧ (u.nav.ovSince = none ↔ overrideNow b = false) := by
  rw [steerState_eq] at hu
  obtain ⟨within0, imu0, time0, nav0⟩ := computationNoted_result b
  generalize computationNoted b = s at *
  obtain ⟨within1, nav1, heading1, roll1, pitch1⟩ := pointTurned_result (x := x) (within0.wf hs) _ rfl
  have time1 : deviceTime (pointTurned x s) = deviceTime s := by
    rw [deviceTime, deviceTime, (within1.part .now (by decide) : (pointTurned x s).now = s.now),
      (within1.part .devOff (by decide) : (pointTurned x s).devOff = s.devOff)]
  generalize pointTurned x s = v at *
  obtain ⟨within2, ⟨known, nav2⟩, speed2, lat2, lon2⟩ := pointMoved_result (x := x) (within1.wf (within0.wf hs)) _ rfl
  generalize pointMoved x v = r at *
  have toR : Within (listFoot pointRegs) b r := ((Within.grow .refl within0 (listFoot_sub (by decide))).grow within1 (listFoot_sub (by decide))).grow within2
    (listFoot_sub (by decide))
  obtain ⟨regs, withinU, ⟨fix, heading, speed, navU⟩, sinceU⟩ := pointWatched_result r
  rw [← hu] at regs withinU navU sinceU
  have toU : Within (listFoot pointRegs) b u := toR.grow withinU (listFoot_sub (by decide))
  have get (f : Fld) : u.get f = r.get f := State.get_of_regs regs f
  have gets (f : Fld) : u.gets f = r.gets f := by rw [State.gets, State.gets, get]
  have get64 (lo hi : Nat) : u.get64 lo hi = r.get64 lo hi := by rw [State.get64, State.get64, State.reg, State.reg, State.reg, State.reg, regs]
  have origin : machineOrigin u x.lat x.lon x.hgt = machineOrigin r x.lat x.lon x.hgt := machineOrigin_of (fun f _ => get f) _ _ _
  have signed (f : Fld) (out : (listFoot (Reg.GNS_VEL :: positionRegs)).touches f.addr = false) : u.gets f = v.gets f := by
    rw [gets, State.gets, State.gets, within2.get out]
  exact ⟨{
      within_ := toU
      heading := (get _).trans ((within2.get (by decide)).trans heading1)
      speed := (gets _).trans speed2
      roll := by rw [signed _ (by decide), roll1, imu0]
      pitch := by rw [signed _ (by decide), pitch1, imu0]
      lat := by rw [get64, origin, lat2]
      lon := by rw [get64, origin, lon2] },
    ⟨known, (fix, heading, speed, u.nav.ovSince), by rw [navU, nav2, nav1, nav0, time1, time0]; rfl⟩, by rw [sinceU, overrideNow_of_point toR]⟩

/-! ### The computation -/

/-- What guidance moves in a computation. -/
def guideFoot : Footprint := listFoot [Reg.GNS_STEER_STATUS, Reg.GNS_STEER_XTE, Reg.GNS_STEER_HE]

/-- The lateral shift moves on. -/
def shiftMoved (g : Guidance) (s : State) : State := { s with nav := { s.nav with shiftNow := shiftStep g s.nav.shiftNow } }

/-- The errors that blending takes over at its start. -/
def blendNoted (e : F64 × F64) (s : State) : State := { s with nav := { s.nav with
  blendDue := false
  blend := some (s.now, gSub s.nav.mirEy e.1, gSub s.nav.mirEpsi e.2) } }

/-- Blending starts at the first computation after a takeover. -/
def blendBegun (e : F64 × F64) (s : State) : State := if s.nav.blendDue then (blendNoted e s).put F.GNS_STEER_STATUS_BLEND 1 else s

/-- The errors under a blend. -/
def weighted (e : F64 × F64) (now : Nat) : Option (Nat × F64 × F64) → F64 × F64
  | none => e
  | some (t0, dy, dp) =>
    if t0 + 2 * sec ≤ now then e
    else
      (gAdd e.1 (gMul dy (gSub (gInt 1) (gRat ((now - t0 : Nat) : Int) (2 * sec)))),
        gAdd e.2 (gMul dp (gSub (gInt 1) (gRat ((now - t0 : Nat) : Int) (2 * sec)))))

theorem blendErrors_eq (s : State) (e : F64 × F64) : blendErrors s e =
    (blendBegun e s, (weighted e (blendBegun e s).now (blendBegun e s).nav.blend).1, (weighted e (blendBegun e s).now (blendBegun e s).nav.blend).2) := by
  show (match (blendBegun e s).nav.blend with
    | none => (blendBegun e s, e.1, e.2)
    | some (t0, dy, dp) =>
      if t0 + 2 * sec ≤ (blendBegun e s).now then (blendBegun e s, e.1, e.2)
      else
        (blendBegun e s, gAdd e.1 (gMul dy (gSub (gInt 1) (gRat (((blendBegun e s).now - t0 : Nat) : Int) (2 * sec)))),
          gAdd e.2 (gMul dp (gSub (gInt 1) (gRat (((blendBegun e s).now - t0 : Nat) : Int) (2 * sec)))))) = _
  generalize blendBegun e s = v
  unfold weighted
  cases v.nav.blend with
  | none => rfl
  | some k =>
    dsimp only
    split <;> rfl

/-- The errors and the wheel angle, as last computed. -/
def errorsNoted (ey epsi delta : F64) (s : State) : State := { s with nav := { s.nav with
  ey := ey
  epsi := epsi
  delta := delta } }

/-- The errors and the wheel angle, reported. -/
def wheelTurned (ey epsi delta : F64) (s : State) : State :=
  ((errorsNoted ey epsi delta s).puts F.GNS_STEER_XTE_XTE (gScaled ey 1000 1)).puts F.GNS_STEER_HE_HE (gScaled (gDiv epsi gPi) 180000 1)

/-- Guidance, with the errors of the base path. -/
def guidedBy (ey epsi kap : F64) (s : State) : State :=
  wheelTurned ey epsi (wheelAngle (blendBegun (ey, epsi) s) (weighted (ey, epsi) (blendBegun (ey, epsi) s).now (blendBegun (ey, epsi) s).nav.blend).1
    (weighted (ey, epsi) (blendBegun (ey, epsi) s).now (blendBegun (ey, epsi) s).nav.blend).2 kap) (blendBegun (ey, epsi) s)

/-- The computation, without its releases. -/
def steerGuided (s : State) : State :=
  match s.nav.guide with
  | none => s
  | some g =>
    match errorsNow (shiftMoved g s) g with
    | none => shiftMoved g s
    | some (ey, epsi, kap) => guidedBy ey epsi kap (shiftMoved g s)

/-- The machine is off its path by more than REL_XTE. -/
def steerOff (s : State) : Bool :=
  match s.nav.guide with
  | none => false
  | some g =>
    match errorsNow (shiftMoved g s) g with
    | none => false
    | some e => offBy e.1 (s.get F.GNS_STEER_ENG_REL_XTE)

/-- The causes that a computation judges last. -/
def lateCauses (s : State) : State :=
  releasedIf (steerPathFault (releasedIf (decide (3000 < (0 - s.gets F.GNS_VEL_SPEED) * 36)) 8 s)) 9
    (releasedIf (decide (3000 < (0 - s.gets F.GNS_VEL_SPEED) * 36)) 8 s)

theorem blendBegun_result {e : F64 × F64} (hs : s.regsWf = true) (u : State) (hu : u = blendBegun e s) : Within (listFoot [Reg.GNS_STEER_STATUS]) s u ∧
    u.nav = { s.nav with
      blendDue := false
      blend := if s.nav.blendDue then some (s.now, gSub s.nav.mirEy e.1, gSub s.nav.mirEpsi e.2) else s.nav.blend } ∧
    (s.nav.blendDue = true → u.flag F.GNS_STEER_STATUS_BLEND = true) ∧ ∀ g : Fld, F.GNS_STEER_STATUS_BLEND.apart g = true → u.get g = s.get g := by
  unfold blendBegun at hu
  cases hd : s.nav.blendDue with
  | false =>
    rw [hd, if_neg Bool.false_ne_true] at hu
    refine ⟨hu ▸ .refl, ?_, fun h => absurd h Bool.false_ne_true, fun g _ => by rw [hu]⟩
    rw [hu, if_neg Bool.false_ne_true]
    have same : s.nav = { s.nav with
      blendDue := s.nav.blendDue
      blend := s.nav.blend } := rfl
    rw [hd] at same
    exact same
  | true =>
    rw [hd, if_pos rfl] at hu
    have noted : Within (listFoot []) s (blendNoted e s) := nav_within .refl (by decide)
    have nav : (blendNoted e s).nav = { s.nav with
      blendDue := false
      blend := some (s.now, gSub s.nav.mirEy e.1, gSub s.nav.mirEpsi e.2) } := rfl
    have regs : (blendNoted e s).regs = s.regs := rfl
    generalize blendNoted e s = v at *
    have navU : u.nav = v.nav := by rw [hu]; rfl
    refine ⟨?_, by rw [navU, nav, if_pos rfl], fun _ => ?_, fun g far => ?_⟩
    · exact hu ▸ put_within (Within.grow .refl noted (listFoot_sub (by decide))) (by decide)
    · exact hu ▸ State.flag_put_one (by decide) (by decide) (noted.wf hs)
    · exact hu ▸ (State.get_put_of_apart far (noted.wf hs)).trans (State.get_of_regs regs g)

theorem wheelTurned_result {ey epsi delta : F64} (hs : s.regsWf = true) (u : State) (hu : u = wheelTurned ey epsi delta s) :
    Within (listFoot [Reg.GNS_STEER_XTE, Reg.GNS_STEER_HE]) s u ∧
    u.nav = { s.nav with
      ey := ey
      epsi := epsi
      delta := delta } ∧
    u.gets F.GNS_STEER_XTE_XTE = satS 32 (gScaled ey 1000 1) ∧ u.gets F.GNS_STEER_HE_HE = satS 32 (gScaled (gDiv epsi gPi) 180000 1) := by
  unfold wheelTurned at hu
  have noted : Within (listFoot []) s (errorsNoted ey epsi delta s) := nav_within .refl (by decide)
  have nav : (errorsNoted ey epsi delta s).nav = { s.nav with
    ey := ey
    epsi := epsi
    delta := delta } := rfl
  generalize errorsNoted ey epsi delta s = v at *
  have within1 : Within (listFoot [Reg.GNS_STEER_XTE]) v (v.puts F.GNS_STEER_XTE_XTE (gScaled ey 1000 1)) := puts_within .refl (by decide)
  have xte := gets_puts_satS (f := F.GNS_STEER_XTE_XTE) (gScaled ey 1000 1) (by decide) (by decide) (noted.wf hs)
  have nav1 : (v.puts F.GNS_STEER_XTE_XTE (gScaled ey 1000 1)).nav = v.nav := rfl
  generalize v.puts F.GNS_STEER_XTE_XTE (gScaled ey 1000 1) = r at *
  have within2 : Within (listFoot [Reg.GNS_STEER_HE]) r u := hu ▸ puts_within .refl (by decide)
  have navU : u.nav = r.nav := by rw [hu]; rfl
  exact ⟨((Within.grow .refl noted (listFoot_sub (by decide))).grow within1 (listFoot_sub (by decide))).grow within2 (listFoot_sub (by decide)),
    by rw [navU, nav1, nav], by rw [State.gets, within2.get (by decide), ← State.gets]; exact xte,
    hu ▸ gets_puts_satS _ (by decide) (by decide) (within1.wf (noted.wf hs))⟩

theorem wheelAngle_of (h : Within guideFoot s u) (delta : u.nav.delta = s.nav.delta) (ey epsi kap : F64) :
    wheelAngle u ey epsi kap = wheelAngle s ey epsi kap := by
  unfold wheelAngle
  rw [h.get (by decide), h.get (by decide), h.get (by decide), h.get (by decide), h.get (by decide), h.flag (by decide), delta]

/-- What guidance with errors leaves. -/
structure GuidedTo (ey epsi kap : F64) (s u : State) : Prop where
  within_ : Within guideFoot s u
  nav : u.nav = { s.nav with
    blendDue := false
    blend := u.nav.blend
    ey := ey
    epsi := epsi
    delta := u.nav.delta }
  blend : u.nav.blend = if s.nav.blendDue then some (s.now, gSub s.nav.mirEy ey, gSub s.nav.mirEpsi epsi) else s.nav.blend
  delta : u.nav.delta = wheelAngle s (weighted (ey, epsi) s.now u.nav.blend).1 (weighted (ey, epsi) s.now u.nav.blend).2 kap
  shown : s.nav.blendDue = true → u.flag F.GNS_STEER_STATUS_BLEND = true
  xte : u.gets F.GNS_STEER_XTE_XTE = satS 32 (gScaled ey 1000 1)
  he : u.gets F.GNS_STEER_HE_HE = satS 32 (gScaled (gDiv epsi gPi) 180000 1)
  status : ∀ g : Fld, g.addr = Reg.GNS_STEER_STATUS → F.GNS_STEER_STATUS_BLEND.apart g = true → u.get g = s.get g

theorem guidedBy_result {ey epsi kap : F64} (hs : s.regsWf = true) (u : State) (hu : u = guidedBy ey epsi kap s) : GuidedTo ey epsi kap s u := by
  unfold guidedBy at hu
  obtain ⟨within1, nav1, shown1, status1⟩ := blendBegun_result (e := (ey, epsi)) hs _ rfl
  generalize blendBegun (ey, epsi) s = v at *
  have now1 : v.now = s.now := within1.part .now (by decide)
  have angle := wheelAngle_of (Within.grow .refl within1 (listFoot_sub (by decide))) (show v.nav.delta = s.nav.delta by rw [nav1])
  obtain ⟨within2, nav2, xte2, he2⟩ := wheelTurned_result (within1.wf hs) _ hu
  have blend : u.nav.blend = v.nav.blend := by rw [nav2]
  exact {
    within_ := (Within.grow .refl within1 (listFoot_sub (by decide))).grow within2 (listFoot_sub (by decide))
    nav := by
      rw [nav2, nav1]
    blend := by rw [blend, nav1]
    delta := by
      rw [blend, ← now1, ← angle, nav2]
    shown := fun due_ => (within2.flag (by decide)).trans (shown1 due_)
    xte := xte2
    he := he2
    status := fun g at_ far => (within2.get (by rw [at_]; decide)).trans (status1 g far) }

theorem shiftMoved_within (g : Guidance) (s : State) : Within (listFoot []) s (shiftMoved g s) := nav_within .refl (by decide)

/-- What a computation leaves before its releases. -/
theorem steerGuided_result (hs : s.regsWf = true) (u : State) (hu : u = steerGuided s) : Within guideFoot s u ∧
    (u.nav.shiftNow = match s.nav.guide with | none => s.nav.shiftNow | some g => shiftStep g s.nav.shiftNow) ∧
    u.nav.guide = s.nav.guide ∧ u.nav.ovSince = s.nav.ovSince ∧ u.nav.steerAt = s.nav.steerAt ∧ u.nav.posAt = s.nav.posAt ∧ u.nav.stBad = s.nav.stBad ∧
    ∀ g : Fld, g.addr = Reg.GNS_STEER_STATUS → F.GNS_STEER_STATUS_BLEND.apart g = true → u.get g = s.get g := by
  unfold steerGuided at hu
  cases hg : s.nav.guide with
  | none =>
    rw [hg] at hu
    subst hu
    exact ⟨.refl, rfl, hg, rfl, rfl, rfl, rfl, fun _ _ _ => rfl⟩
  | some g =>
    rw [hg] at hu
    dsimp only at hu
    have moved : Within guideFoot s (shiftMoved g s) := Within.grow .refl (shiftMoved_within g s) (listFoot_sub (by decide))
    cases he : errorsNow (shiftMoved g s) g with
    | none =>
      rw [he] at hu
      subst hu
      exact ⟨moved, rfl, hg, rfl, rfl, rfl, rfl, fun _ _ _ => rfl⟩
    | some e =>
      obtain ⟨ey, epsi, kap⟩ := e
      rw [he] at hu
      have done := guidedBy_result (moved.wf hs) u hu
      have nav := done.nav
      refine ⟨moved.trans done.within_, by rw [nav]; rfl, ?_, by rw [nav]; rfl, by rw [nav]; rfl, by rw [nav]; rfl, by rw [nav]; rfl, done.status⟩
      rw [nav]
      exact hg

theorem steerCompute_parts (hs : s.regsWf = true) (u : State) (hu : u = overrideWatch s) :
    steerCompute s = lateCauses (releasedIf (steerOff u) 7 (steerGuided u)) := by
  have wf : u.regsWf = true := hu ▸ hs
  have body : (match u.nav.guide with
    | none => u
    | some g =>
      match errorsNow (shiftMoved g u) g with
      | none => shiftMoved g u
      | some (ey, epsi, kap) =>
        releasedIf (offBy ey ((guidedBy ey epsi kap (shiftMoved g u)).get F.GNS_STEER_ENG_REL_XTE)) 7 (guidedBy ey epsi kap (shiftMoved g u))) =
      releasedIf (steerOff u) 7 (steerGuided u) := by
    unfold steerOff steerGuided
    cases u.nav.guide with
    | none => rfl
    | some g =>
      dsimp only
      cases errorsNow (shiftMoved g u) g with
      | none => rfl
      | some e =>
        obtain ⟨ey, epsi, kap⟩ := e
        have done := guidedBy_result (ey := ey) (epsi := epsi) (kap := kap) ((shiftMoved_within g u).wf wf) _ rfl
        have same : (guidedBy ey epsi kap (shiftMoved g u)).get F.GNS_STEER_ENG_REL_XTE = u.get F.GNS_STEER_ENG_REL_XTE :=
          (done.within_.get (by decide)).trans ((shiftMoved_within g u).get (by decide))
        dsimp only
        rw [same]
  rw [← body]
  unfold steerCompute
  rw [← hu]
  simp only [blendErrors_eq]
  unfold lateCauses releasedIf
  simp only [decide_eq_true_eq]
  rfl

/-! ### The releases of a computation -/

theorem steerPathFault_of (line : u.line = s.line) (station : u.get F.GNS_STEER_SP_STATION = s.get F.GNS_STEER_SP_STATION)
    (entry : u.get F.GNS_STEER_FB_FB_ENTRY = s.get F.GNS_STEER_FB_FB_ENTRY) (bad : u.nav.stBad = s.nav.stBad) : steerPathFault u = steerPathFault s := by
  rw [steerPathFault, steerPathFault, joinFault, joinFault, missesOf, missesOf, line, station, entry, bad]

theorem lateCauses_of_idle (idle : engaged s = false ∨ isRelief s = true) : lateCauses s = s := by
  rw [lateCauses, releasedIf_of_idle idle, releasedIf_of_idle idle]

theorem lateCauses_of_slow (slow : (0 - s.gets F.GNS_VEL_SPEED) * 36 ≤ 3000) : lateCauses s = releasedIf (steerPathFault s) 9 s := by
  rw [lateCauses, decide_eq_false (by omega), releasedIf_false]

theorem lateCauses_of_fast (fast : 3000 < (0 - s.gets F.GNS_VEL_SPEED) * 36) (on : engaged s = true) (holder : isRelief s = false) (hs : s.regsWf = true) :
    Released 8 (lateCauses s) := by
  have done := releaseSteer_released (reason := 8) (by decide) on holder hs
  rw [lateCauses, decide_eq_true fast, releasedIf_true, releasedIf_of_idle (.inl done.1)]
  exact done

theorem lateCauses_result (hs : s.regsWf = true) (u : State) (hu : u = lateCauses s) : Within (listFoot [Reg.GNS_STEER_STATUS]) s u ∧ u.nav = s.nav ∧
    u.flag F.GNS_STEER_STATUS_BLEND = s.flag F.GNS_STEER_STATUS_BLEND := by
  have first : Within (listFoot [Reg.GNS_STEER_STATUS]) s (releasedIf (decide (3000 < (0 - s.gets F.GNS_VEL_SPEED) * 36)) 8 s) :=
    releasedIf_within .refl (by decide)
  rw [hu, lateCauses]
  exact ⟨releasedIf_within first (by decide), (releasedIf_nav _ _ _).trans (releasedIf_nav _ _ _),
    (releasedIf_blend (first.wf hs)).trans (releasedIf_blend hs)⟩

/-- A computation at a propagated position. -/
def steerRun (x : NavPoint) (b : State) : State := steerCompute (propagate x (computationNoted b))

theorem overrideWatch_wf (s : State) : (overrideWatch s).regsWf = s.regsWf := rfl

theorem steerState_watched (x : NavPoint) (b : State) : steerState x b = overrideWatch (propagate x (computationNoted b)) := rfl

theorem steerRun_eq (hs : b.regsWf = true) :
    steerRun x b = lateCauses (releasedIf (steerOff (steerState x b)) 7 (steerGuided (steerState x b))) :=
  have wf := (steerState_result (x := x) hs _ rfl).1.within_.wf hs
  steerCompute_parts (by rw [← overrideWatch_wf, ← steerState_watched]; exact wf) _ (steerState_watched x b)

theorem steerState_guide (hs : b.regsWf = true) : (steerState x b).nav.guide = b.nav.guide := by
  obtain ⟨-, ⟨known, since, nav⟩, -⟩ := steerState_result (x := x) hs _ rfl
  rw [nav]
  rfl

theorem steerOff_of_errors {e : F64 × F64 × F64} (hs : b.regsWf = true) (guide : b.nav.guide = some g)
    (errors : errorsNow (steerShifted x g b) g = some e) : steerOff (steerState x b) = offBy e.1 (b.get F.GNS_STEER_ENG_REL_XTE) := by
  have limit : (steerState x b).get F.GNS_STEER_ENG_REL_XTE = b.get F.GNS_STEER_ENG_REL_XTE :=
    (steerState_result (x := x) hs _ rfl).1.within_.get (by decide)
  have errors : errorsNow (shiftMoved g (steerState x b)) g = some e := errors
  rw [steerOff, (steerState_guide hs).trans guide]
  dsimp only
  rw [errors, limit]

theorem steerOff_false (hs : b.regsWf = true)
    (near : ∀ g ∈ b.nav.guide, ∀ e ∈ errorsNow (steerShifted x g b) g, offBy e.1 (b.get F.GNS_STEER_ENG_REL_XTE) = false) :
    steerOff (steerState x b) = false := by
  cases hg : b.nav.guide with
  | none => rw [steerOff, (steerState_guide hs).trans hg]
  | some g =>
    cases he : errorsNow (steerShifted x g b) g with
    | some e => exact (steerOff_of_errors hs hg he).trans (near g hg e he)
    | none =>
      have errors : errorsNow (shiftMoved g (steerState x b)) g = none := he
      rw [steerOff, (steerState_guide hs).trans hg]
      dsimp only
      rw [errors]

/-- What a computation leaves before its releases, seen from the state it began in. -/
theorem steerGuided_state (hs : b.regsWf = true) (v : State) (hv : v = steerGuided (steerState x b)) : v.regsWf = true ∧ engaged v = engaged b ∧
    v.get F.GNS_STEER_STATUS_REASON = b.get F.GNS_STEER_STATUS_REASON ∧ isRelief v = isRelief b ∧ steerPathFault v = steerPathFault b ∧
    v.gets F.GNS_VEL_SPEED = satS 16 x.speed := by
  obtain ⟨point, ⟨known, since, nav⟩, -⟩ := steerState_result (x := x) hs _ rfl
  have bad : (steerState x b).nav.stBad = b.nav.stBad := by rw [nav]; rfl
  generalize steerState x b = p at *
  obtain ⟨guided, -, -, -, -, -, badV, status⟩ := steerGuided_result (point.within_.wf hs) v hv
  refine ⟨guided.wf (point.within_.wf hs), ?_, ?_, ?_, ?_, ?_⟩
  · rw [engaged, engaged, State.flag, State.flag, status _ rfl (by decide), point.within_.get (by decide)]
  · exact (status _ rfl (by decide)).trans (point.within_.get (by decide))
  · rw [isRelief, isRelief, (guided.part .role (by decide) : v.role = p.role), (point.within_.part .role (by decide) : p.role = b.role)]
  · exact steerPathFault_of (Eq.trans (guided.part .line (by decide) : v.line = p.line) (point.within_.part .line (by decide) : p.line = b.line))
      ((guided.get (by decide)).trans (point.within_.get (by decide))) ((guided.get (by decide)).trans (point.within_.get (by decide))) (badV.trans bad)
  · rw [State.gets, guided.get (by decide), ← State.gets, point.speed]

theorem holder_of_terminus (h : isTerminus s = true) : isRelief s = false := by
  rw [isTerminus, beq_iff_eq] at h
  rw [isRelief, h]
  rfl

theorem steerRun_off (hs : b.regsWf = true) (on : engaged b = true) (term : isTerminus b = true) (off : steerOff (steerState x b) = true) :
    Released 7 (steerRun x b) := by
  obtain ⟨wf, on_, -, relief, -, -⟩ := steerGuided_state (x := x) hs _ rfl
  have done := releaseSteer_released (reason := 7) (by decide) (on_.trans on) (relief.trans (holder_of_terminus term)) wf
  rw [steerRun_eq hs, off, releasedIf_true, lateCauses_of_idle (.inl done.1)]
  exact done

theorem steerRun_fast (hs : b.regsWf = true) (on : engaged b = true) (term : isTerminus b = true) (near : steerOff (steerState x b) = false)
    (fast : 3000 < (0 - satS 16 x.speed) * 36) : Released 8 (steerRun x b) := by
  obtain ⟨wf, on_, -, relief, -, speed⟩ := steerGuided_state (x := x) hs _ rfl
  rw [steerRun_eq hs, near, releasedIf_false]
  exact lateCauses_of_fast (speed.symm ▸ fast) (on_.trans on) (relief.trans (holder_of_terminus term)) wf

theorem steerRun_fault (hs : b.regsWf = true) (on : engaged b = true) (term : isTerminus b = true) (near : steerOff (steerState x b) = false)
    (slow : (0 - satS 16 x.speed) * 36 ≤ 3000) (fault_ : steerPathFault b = true) : Released 9 (steerRun x b) := by
  obtain ⟨wf, on_, -, relief, path, speed⟩ := steerGuided_state (x := x) hs _ rfl
  rw [steerRun_eq hs, near, releasedIf_false, lateCauses_of_slow (speed.symm ▸ slow), path, fault_, releasedIf_true]
  exact releaseSteer_released (by decide) (on_.trans on) (relief.trans (holder_of_terminus term)) wf

theorem steerRun_idle (hs : b.regsWf = true) (idle : engaged b = false ∨ isRelief b = true ∨
      (steerOff (steerState x b) = false ∧ (0 - satS 16 x.speed) * 36 ≤ 3000 ∧ steerPathFault b = false)) :
    steerRun x b = steerGuided (steerState x b) := by
  obtain ⟨-, on_, -, relief, path, speed⟩ := steerGuided_state (x := x) hs _ rfl
  rw [steerRun_eq hs]
  obtain off | rel | ⟨near, slow, sound⟩ := idle
  · rw [releasedIf_of_idle (.inl (on_.trans off)), lateCauses_of_idle (.inl (on_.trans off))]
  · rw [releasedIf_of_idle (.inr (relief.trans rel)), lateCauses_of_idle (.inr (relief.trans rel))]
  · rw [near, releasedIf_false, lateCauses_of_slow (speed.symm ▸ slow), path, sound, releasedIf_false]

/-- The releases of a computation move nothing else of it. -/
theorem steerRun_guided (hs : b.regsWf = true) (u : State) (hu : u = steerRun x b) :
    Within (listFoot [Reg.GNS_STEER_STATUS]) (steerGuided (steerState x b)) u ∧ u.nav = (steerGuided (steerState x b)).nav ∧
      u.flag F.GNS_STEER_STATUS_BLEND = (steerGuided (steerState x b)).flag F.GNS_STEER_STATUS_BLEND := by
  obtain ⟨wf, -⟩ := steerGuided_state (x := x) hs _ rfl
  have first : Within (listFoot [Reg.GNS_STEER_STATUS]) (steerGuided (steerState x b))
      (releasedIf (steerOff (steerState x b)) 7 (steerGuided (steerState x b))) := releasedIf_within .refl (by decide)
  obtain ⟨within_, nav, blend⟩ := lateCauses_result (first.wf wf) u (hu.trans (steerRun_eq hs))
  exact ⟨first.trans within_, nav.trans (releasedIf_nav _ _ _), blend.trans (releasedIf_blend wf)⟩

/-- A computation with errors, seen from the state it began in. -/
structure SteeredBy (x : NavPoint) (g : Guidance) (ey epsi kap : F64) (b u : State) : Prop where
  lateral : u.nav.ey = ey
  angular : u.nav.epsi = epsi
  due_ : u.nav.blendDue = false
  blend : u.nav.blend = if b.nav.blendDue then some (b.now, gSub b.nav.mirEy ey, gSub b.nav.mirEpsi epsi) else b.nav.blend
  delta : u.nav.delta = wheelAngle (steerState x b) (weighted (ey, epsi) b.now u.nav.blend).1 (weighted (ey, epsi) b.now u.nav.blend).2 kap
  shown : b.nav.blendDue = true → u.flag F.GNS_STEER_STATUS_BLEND = true
  xte : u.gets F.GNS_STEER_XTE_XTE = satS 32 (gScaled ey 1000 1)
  he : u.gets F.GNS_STEER_HE_HE = satS 32 (gScaled (gDiv epsi gPi) 180000 1)

theorem steerRun_steered {ey epsi kap : F64} (hs : b.regsWf = true) (guide : b.nav.guide = some g)
    (errors : errorsNow (steerShifted x g b) g = some (ey, epsi, kap)) (u : State) (hu : u = steerRun x b) : SteeredBy x g ey epsi kap b u := by
  obtain ⟨last, navU, blendU⟩ := steerRun_guided hs u hu
  obtain ⟨point, ⟨known, since, navP⟩, -⟩ := steerState_result (x := x) hs _ rfl
  have errors : errorsNow (shiftMoved g (steerState x b)) g = some (ey, epsi, kap) := errors
  have guide := (steerState_guide (x := x) hs).trans guide
  generalize hp : steerState x b = p at *
  have moved := shiftMoved_within g p
  have same : steerGuided p = guidedBy ey epsi kap (shiftMoved g p) := by
    unfold steerGuided
    rw [guide]
    dsimp only
    rw [errors]
  have done := guidedBy_result (moved.wf (point.within_.wf hs)) _ same
  have angle := wheelAngle_of (Within.grow .refl moved (listFoot_sub (by decide))) rfl
  have nowM : (shiftMoved g p).now = b.now := point.within_.part .now (by decide)
  have navM : (shiftMoved g p).nav.blendDue = b.nav.blendDue ∧ (shiftMoved g p).nav.blend = b.nav.blend ∧ (shiftMoved g p).nav.mirEy = b.nav.mirEy ∧
      (shiftMoved g p).nav.mirEpsi = b.nav.mirEpsi := by
    show p.nav.blendDue = _ ∧ p.nav.blend = _ ∧ p.nav.mirEy = _ ∧ p.nav.mirEpsi = _
    rw [navP]
    exact ⟨rfl, rfl, rfl, rfl⟩
  obtain ⟨due_, blend, mirEy, mirEpsi⟩ := navM
  have nav := done.nav
  have blendV := done.blend
  have deltaV := done.delta
  rw [due_, blend, mirEy, mirEpsi, nowM] at blendV
  rw [nowM, angle] at deltaV
  exact {
    lateral := by rw [navU, nav]
    angular := by rw [navU, nav]
    due_ := by rw [navU, nav]
    blend := by rw [navU, blendV]
    delta := by rw [navU, hp, deltaV]
    shown := fun was => blendU.trans (done.shown (due_.trans was))
    xte := by rw [State.gets, last.get (by decide), ← State.gets, done.xte]
    he := by rw [State.gets, last.get (by decide), ← State.gets, done.he] }

theorem steerRun_result (hs : b.regsWf = true) (u : State) (hu : u = steerRun x b) :
    u.nav.steerAt = some (deviceTime b) ∧ u.get F.GNS_HDG_HEADING = x.heading % 524288 ∧
      u.gets F.GNS_VEL_SPEED = satS 16 x.speed ∧ u.nav.posAt = deviceTime b ∧
      u.gets F.GNS_ATT_ROLL = satS 16 (Config.attitude (imuMachine b) 0 0).1 ∧
      u.gets F.GNS_ATT_PITCH = satS 16 (Config.attitude (imuMachine b) 0 0).2 ∧
      u.get64 Reg.GNS_LAT_LO Reg.GNS_LAT_HI = toBits 64 (machineOrigin u x.lat x.lon x.hgt).1 ∧
      u.get64 Reg.GNS_LON_LO Reg.GNS_LON_HI = toBits 64 (machineOrigin u x.lat x.lon x.hgt).2.1 ∧
      u.nav.shiftNow = (match b.nav.guide with | none => b.nav.shiftNow | some g => shiftStep g b.nav.shiftNow) ∧
      u.nav.guide = b.nav.guide ∧ (u.nav.ovSince = none ↔ overrideNow b = false) := by
  obtain ⟨last, navU, -⟩ := steerRun_guided hs u hu
  obtain ⟨point, ⟨known, since, navP⟩, override⟩ := steerState_result (x := x) hs _ rfl
  generalize steerState x b = p at *
  obtain ⟨guided, shift, guide, over_, at_, pos, -⟩ := steerGuided_result (point.within_.wf hs) _ rfl
  generalize steerGuided p = v at *
  have all : Within guideFoot p u := guided.grow last (listFoot_sub (by decide))
  have origin : machineOrigin u x.lat x.lon x.hgt = machineOrigin p x.lat x.lon x.hgt := machineOrigin_of (fun f hf => all.get (by
    have each : ∀ a ∈ [Reg.GNS_ANT_A_X, Reg.GNS_ANT_A_Y, Reg.GNS_ANT_A_Z, Reg.GNS_ATT, Reg.GNS_HDG], guideFoot.touches a = false := by decide
    exact each _ hf)) _ _ _
  have signed (f : Fld) (out : guideFoot.touches f.addr = false) : u.gets f = p.gets f := by rw [State.gets, State.gets, all.get out]
  refine ⟨by rw [navU, at_, navP]; rfl, (all.get (by decide)).trans point.heading, (signed _ (by decide)).trans point.speed, by rw [navU, pos, navP]; rfl,
    (signed _ (by decide)).trans point.roll, (signed _ (by decide)).trans point.pitch, ?_, ?_, ?_, ?_, ?_⟩
  · rw [origin, all.get64 (by decide) (by decide), point.lat]
  · rw [origin, all.get64 (by decide) (by decide), point.lon]
  · rw [navU, shift, navP]
    rfl
  · rw [navU, guide, navP]
    rfl
  · rw [navU, over_, override]

/-! ### The operator enable, the expiries and the end of a blend -/

theorem enableFilter_changed (changed : enableNow b ≠ b.nav.enRaw) : enableFilter b = { b with nav := { b.nav with
    enRaw := enableNow b
    enSince := b.now } } := by
  have watched : enableWatch b = { b with nav := { b.nav with
    enRaw := enableNow b
    enSince := b.now } } := if_neg changed
  unfold enableFilter
  rw [watched]
  refine if_neg fun ⟨_, late⟩ => ?_
  have late : b.now + 20 * ms ≤ b.now := late
  have whole : ms = 1000000 := rfl
  omega

/-- The operator enable follows its inputs. -/
def enableTaken (s : State) : State := { s with nav := { s.nav with enabled := s.nav.enRaw } }

theorem enableFilter_eq (b : State) : enableFilter b =
    if (enableWatch b).nav.enRaw ≠ (enableWatch b).nav.enabled ∧ (enableWatch b).nav.enSince + 20 * ms ≤ (enableWatch b).now then
      if (enableTaken (enableWatch b)).nav.enabled then enableTaken (enableWatch b) else releaseSteer 2 (enableTaken (enableWatch b))
    else enableWatch b := rfl

theorem enableFilter_same (same : enableNow b = b.nav.enRaw) : enableFilter b =
    if b.nav.enRaw ≠ b.nav.enabled ∧ b.nav.enSince + 20 * ms ≤ b.now then
      if b.nav.enRaw then enableTaken b else releaseSteer 2 (enableTaken b)
    else b := by
  have watched : enableWatch b = b := if_pos same
  have taken : (enableTaken b).nav.enabled = b.nav.enRaw := rfl
  rw [enableFilter_eq, watched, taken]

/-- A watch that has run out. -/
def ranOut (grace now : Nat) : Option Nat → Bool
  | none => false
  | some t => decide (t + grace ≤ now)

theorem ranOut_false {o : Option Nat} {grace now : Nat} (early : ∀ a ∈ o, now < a + grace) : ranOut grace now o = false := by
  cases o with
  | none => rfl
  | some a => exact decide_eq_false (Nat.not_le.mpr (early a rfl))

theorem ranOut_true {since grace now : Nat} (late : since + grace ≤ now) : ranOut grace now (some since) = true := decide_eq_true late

theorem graceExpiry_eq (b : State) : graceExpiry b =
    if ranOut (b.get F.GNS_STEER_SPD_FIX_GRACE * 100 * ms) b.now b.nav.fixBadSince then releaseSteer 4 b
    else if ranOut (b.get F.GNS_STEER_SPD_FIX_GRACE * 100 * ms) b.now b.nav.hdgBadSince then releaseSteer 5 b else b := by
  unfold graceExpiry ranOut
  rfl

/-- A blend that is over is dropped. -/
def blendDropped (s : State) : State := { s with nav := { s.nav with blend := none } }

/-- The end of a blend, once it has lasted 2 s. -/
def blendEnded (s : State) : State :=
  match s.nav.blend with
  | none => s
  | some (start, _) => if start + 2 * sec ≤ s.now then (blendDropped s).put F.GNS_STEER_STATUS_BLEND 0 else s

theorem blendEnded_result {start : Nat} {err : F64 × F64} (hs : b.regsWf = true) (blend : b.nav.blend = some (start, err))
    (late : start + 2 * sec ≤ b.now) (u : State) (hu : u = blendEnded b) :
    u = { b with
      regs := u.regs
      nav := { b.nav with blend := none } } ∧
    u.flag F.GNS_STEER_STATUS_BLEND = false ∧ FieldsKept [F.GNS_STEER_STATUS_BLEND] b u := by
  have ran : u = (blendDropped b).put F.GNS_STEER_STATUS_BLEND 0 := by
    rw [hu, blendEnded, blend]
    exact if_pos late
  have shape : blendDropped b = { b with nav := { b.nav with blend := none } } := rfl
  have regs : (blendDropped b).regs = b.regs := rfl
  have wf : (blendDropped b).regsWf = true := hs
  have kept := fieldsKept_put (f := F.GNS_STEER_STATUS_BLEND) (by decide) wf 0
  have off : ((blendDropped b).put F.GNS_STEER_STATUS_BLEND 0).get F.GNS_STEER_STATUS_BLEND = 0 := State.get_put_of_lt (by decide) (by decide) wf
  rw [← ran] at kept off
  refine ⟨?_, by rw [State.flag, off]; rfl, FieldsKept.trans (fieldsKept_of_regs regs []) kept⟩
  have only : u = { blendDropped b with regs := u.regs } := by rw [ran]; rfl
  rw [shape] at only
  exact only

theorem overrideExpiry_began (over_ : overrideNow b = true) (since_ : b.nav.ovSince = none) (some_ : b.get F.GNS_STEER_OVR_OV_TIME ≠ 0) :
    overrideExpiry (overrideWatch b) = { b with nav := { b.nav with ovSince := some b.now } } := by
  have watched : overrideWatch b = { b with nav := { b.nav with ovSince := some b.now } } := by rw [overrideWatch, over_, since_]; rfl
  have time : (overrideWatch b).get F.GNS_STEER_OVR_OV_TIME = b.get F.GNS_STEER_OVR_OV_TIME := rfl
  have now : (overrideWatch b).now = b.now := rfl
  have since : (overrideWatch b).nav.ovSince = some b.now := by rw [watched]
  rw [← watched, overrideExpiry, since]
  dsimp only
  rw [time, now]
  refine if_neg fun late => ?_
  rw [show ms = 1000000 from rfl] at late
  omega

theorem overrideWatch_of_same (same : (if overrideNow b then some (b.nav.ovSince.getD b.now) else none) = b.nav.ovSince) : overrideWatch b = b := by
  unfold overrideWatch
  rw [same]

end

/-! ### The rows -/

theorem does_computed {x : NavPoint} {cond : State → Prop} {P : State → State → Prop}
    (runs : ∀ b, cond b → b.sound = true ∧ gnssOn b = true ∧ steerDue b = true) (result : ∀ b, cond b → P b (steerRun x b)) :
    Does (fun t => .steerCompute t x) cond P := by
  refine does_of_run (fun s => if gnssOn s && steerDue s then steerRun x s else s) (fun _ _ => rfl) fun b met => ?_
  obtain ⟨-, on_, due_⟩ := runs b met
  rw [if_pos (by rw [on_, due_]; rfl)]
  exact result b met

/-- Settles O46: each row under its own lemmas; a computation is the propagated state, guidance, and releases in the order of their causes. -/
theorem steeringRows : Obligations.SteeringRows := by
  refine ⟨fun x => ?_, fun x => ?_, fun x g ey epsi kap => ?_, fun x g ey epsi kap => ?_, fun x g ey epsi kap t0 dy dp => ?_, fun x g ey epsi kap => ?_,
    fun x => ?_, fun x => ?_, fun x => ?_, ?_, ?_, ?_, ?_, ?_, ?_, fun since => ?_, fun since => ?_, ?_, fun since => ?_, fun since => ?_, ?_, ?_,
    fun since => ?_, ?_, fun start err => ?_, ?_⟩
  case refine_1 =>
    refine does_of_run (fun s => if gnssOn s && steerDue s then steerRun x s else s) (fun _ _ => rfl) fun b off => if_neg ?_
    obtain off | off := off <;> simp [off]
  case refine_2 =>
    exact does_computed (fun b ⟨sound, on_, due_⟩ => ⟨sound, on_, due_⟩) fun b ⟨sound, _⟩ => steerRun_result (regsWf_of_sound sound) _ rfl
  case refine_3 =>
    refine does_computed (fun b ⟨sound, on_, due_, _⟩ => ⟨sound, on_, due_⟩) fun b ⟨sound, _, _, guide, blend, began, errors⟩ => ?_
    have done := steerRun_steered (regsWf_of_sound sound) guide errors _ rfl
    have still := done.blend
    rw [began, blend] at still
    have delta := done.delta
    rw [still] at delta
    exact ⟨done.lateral, done.angular, delta, done.xte, done.he⟩
  case refine_4 =>
    refine does_computed (fun b ⟨sound, on_, due_, _⟩ => ⟨sound, on_, due_⟩) fun b ⟨sound, _, _, guide, began, errors⟩ => ?_
    have done := steerRun_steered (regsWf_of_sound sound) guide errors _ rfl
    have blend := done.blend
    rw [began, if_pos rfl] at blend
    exact ⟨done.due_, blend, done.shown began, done.lateral, done.angular⟩
  case refine_5 =>
    refine does_computed (fun b ⟨sound, on_, due_, _⟩ => ⟨sound, on_, due_⟩) fun b ⟨sound, _, _, guide, began, blend, errors⟩ => ?_
    have done := steerRun_steered (regsWf_of_sound sound) guide errors _ rfl
    have still := done.blend
    rw [began, if_neg Bool.false_ne_true] at still
    have delta := done.delta
    rw [still, blend, weighted] at delta
    refine ⟨done.lateral, done.angular, still, delta.trans ?_⟩
    split <;> rfl
  case refine_6 =>
    exact does_computed (fun b ⟨sound, on_, due_, _⟩ => ⟨sound, on_, due_⟩) fun b ⟨sound, _, _, on, term, guide, errors, off⟩ =>
      steerRun_off (regsWf_of_sound sound) on term ((steerOff_of_errors (regsWf_of_sound sound) guide errors).trans off)
  case refine_7 =>
    exact does_computed (fun b ⟨sound, on_, due_, _⟩ => ⟨sound, on_, due_⟩) fun b ⟨sound, _, _, on, term, near, fast⟩ =>
      steerRun_fast (regsWf_of_sound sound) on term (steerOff_false (regsWf_of_sound sound) near) fast
  case refine_8 =>
    exact does_computed (fun b ⟨sound, on_, due_, _⟩ => ⟨sound, on_, due_⟩) fun b ⟨sound, _, _, on, term, near, slow, fault_⟩ =>
      steerRun_fault (regsWf_of_sound sound) on term (steerOff_false (regsWf_of_sound sound) near) slow fault_
  case refine_9 =>
    refine does_computed (fun b ⟨sound, on_, due_, _⟩ => ⟨sound, on_, due_⟩) fun b ⟨sound, _, _, idle⟩ => ?_
    have hs := regsWf_of_sound sound
    rw [steerRun_idle hs (idle.imp_right (Or.imp_right fun ⟨near, slow, path⟩ => ⟨steerOff_false hs near, slow, path⟩))]
    obtain ⟨-, on_, reason, -⟩ := steerGuided_state (x := x) hs _ rfl
    exact ⟨on_, reason⟩
  case refine_10 =>
    exact does_of_run enableFilter (fun _ _ => rfl) fun b changed => enableFilter_changed changed
  case refine_11 =>
    refine does_of_run enableFilter (fun _ _ => rfl) fun b ⟨same, rests⟩ => (enableFilter_same same).trans (if_neg fun ⟨differs, late⟩ => ?_)
    exact rests.elim differs (Nat.not_lt.mpr late)
  case refine_12 =>
    refine does_of_run enableFilter (fun _ _ => rfl) fun b ⟨off, raw, same, late⟩ => ?_
    rw [enableFilter_same (same.trans raw.symm), raw, off, if_pos ⟨by decide, late⟩, if_pos rfl, enableTaken, raw]
  case refine_13 =>
    refine does_of_run enableFilter (fun _ _ => rfl) fun b ⟨sound, on, raw, same, late⟩ => ?_
    rw [enableFilter_same (same.trans raw.symm), raw, on, if_pos ⟨by decide, late⟩, if_neg Bool.false_ne_true]
    rw [enableTaken, raw]
    exact ⟨releaseSteer_nav 2 { b with nav := { b.nav with enabled := false } },
      releaseSteer_ifHeld (s := { b with nav := { b.nav with enabled := false } }) (by decide) (regsWf_of_sound sound)⟩
  case refine_14 =>
    refine does_of_run edgeTimeout (fun _ _ => rfl) fun b ⟨sound, mode, late⟩ => ?_
    rw [edgeTimeout, if_pos ⟨mode, late⟩]
    exact releaseSteer_ifHeld (by decide) (regsWf_of_sound sound)
  case refine_15 =>
    exact does_of_run edgeTimeout (fun _ _ => rfl) fun b rests => if_neg fun ⟨mode, late⟩ => rests.elim (fun other => other mode) (Nat.not_lt.mpr late)
  case refine_16 =>
    refine does_of_run graceExpiry (fun _ _ => rfl) fun b ⟨sound, bad, late⟩ => ?_
    rw [graceExpiry_eq, bad, ranOut_true late, if_pos rfl]
    exact releaseSteer_ifHeld (by decide) (regsWf_of_sound sound)
  case refine_17 =>
    refine does_of_run graceExpiry (fun _ _ => rfl) fun b ⟨sound, early, bad, late⟩ => ?_
    rw [graceExpiry_eq, ranOut_false early, if_neg Bool.false_ne_true, bad, ranOut_true late, if_pos rfl]
    exact releaseSteer_ifHeld (by decide) (regsWf_of_sound sound)
  case refine_18 =>
    refine does_of_run graceExpiry (fun _ _ => rfl) fun b ⟨early, earlier⟩ => ?_
    rw [graceExpiry_eq, ranOut_false early, if_neg Bool.false_ne_true, ranOut_false earlier, if_neg Bool.false_ne_true]
  case refine_19 =>
    refine does_of_run (fun s => overrideExpiry (overrideWatch s)) (fun _ _ => rfl) fun b ⟨sound, over_, since_, late⟩ => ?_
    rw [overrideWatch_of_same (by rw [over_, since_]; rfl), overrideExpiry, since_]
    dsimp only
    rw [if_pos late]
    exact releaseSteer_ifHeld (by decide) (regsWf_of_sound sound)
  case refine_20 =>
    refine does_of_run (fun s => overrideExpiry (overrideWatch s)) (fun _ _ => rfl) fun b ⟨over_, since_, early⟩ => ?_
    rw [overrideWatch_of_same (by rw [over_, since_]; rfl), overrideExpiry, since_]
    exact if_neg (Nat.not_le.mpr early)
  case refine_21 =>
    refine does_of_run (fun s => overrideExpiry (overrideWatch s)) (fun _ _ => rfl) fun b ⟨over_, since_, some_⟩ => ?_
    exact overrideExpiry_began over_ since_ some_
  case refine_22 =>
    refine does_of_run (fun s => overrideExpiry (overrideWatch s)) (fun _ _ => rfl) fun b calm => ?_
    have watched : overrideWatch b = { b with nav := { b.nav with ovSince := none } } := by rw [overrideWatch, calm]; rfl
    rw [watched]
    rfl
  case refine_23 =>
    refine does_of_run speedExpiry (fun _ _ => rfl) fun b ⟨sound, bad, late⟩ => ?_
    rw [speedExpiry, bad]
    dsimp only
    rw [if_pos late]
    exact releaseSteer_ifHeld (by decide) (regsWf_of_sound sound)
  case refine_24 =>
    refine does_of_run speedExpiry (fun _ _ => rfl) fun b early => ?_
    rw [speedExpiry]
    cases hb : b.nav.spdBadSince with
    | none => rfl
    | some a => exact if_neg (Nat.not_le.mpr (early a hb))
  case refine_25 =>
    exact does_of_run blendEnded (fun _ _ => rfl) fun b ⟨sound, blend, late⟩ => blendEnded_result (regsWf_of_sound sound) blend late _ rfl
  case refine_26 =>
    refine does_of_run blendEnded (fun _ _ => rfl) fun b early => ?_
    rw [blendEnded]
    cases hb : b.nav.blend with
    | none => rfl
    | some k => exact if_neg (Nat.not_le.mpr (early k hb))

end Sys2Proof.Machine

end

section
/-!
Yield mapping: what a sample and a cut instant leave while no field is open, and when the open field's tiles are written (R552–R554, R560).
-/

namespace Sys2Proof.Machine

section
variable {b s : State}

/-- Mass that no cell takes moves the open field's data only. -/
theorem addUnmapped_only (m : F64) (s : State) : ∃ live, addUnmapped m s = { s with yld := { s.yld with live := live } } := by
  unfold addUnmapped
  split
  · exact ⟨_, rfl⟩
  · exact ⟨s.yld.live, rfl⟩

theorem addUnmapped_closed {m : F64} (closed : s.yld.openId = none) : addUnmapped m s = s := by
  rw [addUnmapped, closed]
  rfl

theorem unmappedOver_only : ∀ (l : List YieldSample) (s : State), ∃ live,
    foldOver (fun s x => if x.assigned then s else addUnmapped (sampleMass x) s) s l = { s with yld := { s.yld with live := live } }
  | [], s => ⟨s.yld.live, rfl⟩
  | x :: xs, s => by
    rw [foldOver_cons]
    split
    · exact unmappedOver_only xs s
    · obtain ⟨live, here⟩ := addUnmapped_only (sampleMass x) s
      obtain ⟨live', rest⟩ := unmappedOver_only xs (addUnmapped (sampleMass x) s)
      exact ⟨live', by rw [rest, here]⟩

/-- Samples that are 32 s old leave, and those they were waiting with stay. -/
theorem dropSamples_only (now : Nat) (s : State) : ∃ live, dropSamples now s = { s with yld := { s.yld with
    live := live
    samples := s.yld.samples.filter (fun x => !decide (x.at_ + 32 * sec ≤ now)) } } := by
  obtain ⟨live, same⟩ := unmappedOver_only (s.yld.samples.filter fun x => decide (x.at_ + 32 * sec ≤ now))
    { s with yld := { s.yld with samples := s.yld.samples.filter (fun x => !decide (x.at_ + 32 * sec ≤ now)) } }
  exact ⟨live, same⟩

theorem yieldSample_idle (idle : yieldOn b = false ∨ cycleOver b = true ∨ onMultiple b (100 * ms) = none) : yieldSample b = b := by
  have none_ : (if yieldOn b && !cycleOver b then onMultiple b (100 * ms) else none) = none := by
    obtain off | over_ | between := idle
    · rw [off]; rfl
    · rw [over_, Bool.not_true, Bool.and_false]; rfl
    · rw [between, ite_self]
  unfold yieldSample
  rw [none_]

/-- A sample is taken at a whole 100 ms. -/
theorem yieldSample_taken {t : Nat} (on_ : yieldOn b = true) (cycle : cycleOver b = false) (whole : onMultiple b (100 * ms) = some t)
    (fresh : b.yld.samples.any (fun x => x.at_ == t) = false) : ∃ x flow moist,
    (x.at_ = t ∧ x.assigned = false ∧ x.fix = b.get F.GNS_STATUS_FIX ∧ x.headland = b.fn.headland) ∧
    yieldSample b = dropSamples t { b with yld := { b.yld with
      samples := b.yld.samples ++ [x]
      nextCut := some (if b.yld.samples.all (fun x => decide (x.at_ + 32 * sec ≤ t)) then t else b.yld.nextCut.getD t)
      flowNow := flow
      moistNow := moist } } := by
  have some_ : (if yieldOn b && !cycleOver b then onMultiple b (100 * ms) else none) = some t := by
    rw [on_, cycle, whole]
    rfl
  unfold yieldSample
  rw [some_]
  dsimp only
  rw [fresh, if_neg Bool.false_ne_true]
  refine ⟨_, _, _, ?_, rfl⟩
  exact ⟨rfl, rfl, rfl, rfl⟩

/-! ### A cut instant without an open field -/

/-- The sample of an instant, assigned. -/
def assignedAt (t : Nat) (l : List YieldSample) : List YieldSample := l.map (fun y => if y.at_ = t then { y with assigned := true } else y)

theorem find_assignedAt {t : Nat} {x : YieldSample} : ∀ {l : List YieldSample}, (assignedAt t l).find? (fun x => x.at_ == t) = some x → x.assigned = true := by
  intro l found
  obtain ⟨y, -, same⟩ := List.mem_map.mp (List.mem_of_find?_eq_some found)
  have at_ := List.find?_some found
  rw [beq_iff_eq] at at_
  split at same
  · rw [← same]
  next other => exact absurd (same ▸ at_) other

theorem assignMass_result (t : Nat) (s : State) : ∃ m l, assignMass t s = (m, { s with yld := { s.yld with samples := l } }) ∧
    ∀ x, l.find? (fun x => x.at_ == t) = some x → x.assigned = true := by
  unfold assignMass
  cases found : sampleAt s t with
  | none => exact ⟨_, s.yld.samples, rfl, fun x here => by
      rw [sampleAt] at found
      rw [found] at here
      cases here⟩
  | some y =>
    dsimp only
    split
    next assigned => exact ⟨_, s.yld.samples, rfl, fun x here => by
        rw [sampleAt] at found
        rw [found] at here
        exact Option.some.inj here ▸ assigned⟩
    · exact ⟨_, _, rfl, fun x => find_assignedAt⟩

/-- Without an open field a cut assigns its mass and places none. -/
theorem placeCut_closed (tau : Nat) (closed : s.yld.openId = none) : ∃ l, placeCut tau s = { s with yld := { s.yld with
      samples := l
      mapping := false } } ∧
    ∀ x, l.find? (fun x => x.at_ == tau + s.get F.YLD_DELAY_FLOW_DELAY * 100 * ms) = some x → x.assigned = true := by
  obtain ⟨m, l, ran, marks⟩ := assignMass_result (tau + s.get F.YLD_DELAY_FLOW_DELAY * 100 * ms) s
  refine ⟨l, ?_, marks⟩
  unfold placeCut
  rw [ran]
  dsimp only
  rw [closed]
  simp only [Option.bind_none]
  exact addUnmapped_closed (s := { s with yld := { s.yld with
    openId := none
    samples := l
    mapping := false } }) rfl

/-- The next cut instant is 100 ms later. -/
def cutAdvanced (tau : Nat) (s : State) : State := { s with yld := { s.yld with nextCut := some (tau + 100 * ms) } }

theorem cutInstant_due {tau : Nat} (on_ : yieldOn b = true) (cut : b.yld.nextCut = some tau)
    (late : tau + max (b.get F.YLD_DELAY_FLOW_DELAY) (b.get F.YLD_DELAY_MOIST_DELAY) * 100 * ms ≤ deviceTime b) :
    cutInstant b = placeCut tau (cutAdvanced tau b) := by
  have runs : ¬((!yieldOn b || decide (deviceTime b < tau + max (b.get F.YLD_DELAY_FLOW_DELAY) (b.get F.YLD_DELAY_MOIST_DELAY) * 100 * ms)) = true) := by
    rw [on_, decide_eq_false (Nat.not_lt.mpr late)]
    decide
  unfold cutInstant
  rw [cut]
  exact if_neg runs

theorem cutInstant_idle (idle : yieldOn b = false ∨ b.yld.nextCut = none ∨ ∃ tau, b.yld.nextCut = some tau ∧
      deviceTime b < tau + max (b.get F.YLD_DELAY_FLOW_DELAY) (b.get F.YLD_DELAY_MOIST_DELAY) * 100 * ms) : cutInstant b = b := by
  unfold cutInstant
  cases cut : b.yld.nextCut with
  | none => rfl
  | some tau =>
    refine if_pos ?_
    obtain off | none_ | ⟨tau', cut', early⟩ := idle
    · rw [off]; rfl
    · rw [cut] at none_; cases none_
    · obtain rfl := Option.some.inj (cut.symm.trans cut')
      rw [decide_eq_true early, Bool.or_true]

/-! ### The flush -/

/-- The tiles of the open field are written every 10 s. -/
def flushTick (s : State) : State := if s.die.yardUp = true ∧ s.yld.flushedAt + 10 * sec ≤ s.now then flushField s else s

theorem flushTick_writes {id : Nat} (up : b.die.yardUp = true) (late : b.yld.flushedAt + 10 * sec ≤ b.now) (open_ : b.yld.openId = some id) :
    flushTick b = { b with yld := { b.yld with
      flushedAt := b.now
      fields := b.yld.fields.map (fun x => if x.id = id then { x with data := b.yld.live } else x) } } := by
  rw [flushTick, if_pos ⟨up, late⟩, flushField, open_]
  rfl

end

/-- Settles O47: a sample, a cut and a flush change the yield part only, each as its own lemma says. -/
theorem yieldRows : Obligations.YieldRows := by
  refine ⟨?_, fun t0 => ?_, ?_, fun tau => ?_, fun id => ?_, ?_⟩
  case refine_1 => exact does_of_run yieldSample (fun _ _ => rfl) fun b idle => yieldSample_idle idle
  case refine_2 =>
    refine does_of_run yieldSample (fun _ _ => rfl) fun b ⟨on_, cycle, whole, fresh⟩ => ?_
    obtain ⟨x, flow, moist, ⟨at_, still, fix, head⟩, ran⟩ := yieldSample_taken on_ cycle whole fresh
    obtain ⟨live, dropped⟩ := dropSamples_only t0 { b with yld := { b.yld with
      samples := b.yld.samples ++ [x]
      nextCut := some (if b.yld.samples.all (fun x => decide (x.at_ + 32 * sec ≤ t0)) then t0 else b.yld.nextCut.getD t0)
      flowNow := flow
      moistNow := moist } }
    have young : 0 < 32 * sec := by decide
    rw [ran, dropped]
    refine ⟨rfl, rfl, rfl, rfl, ⟨x, List.mem_filter.mpr ⟨List.mem_append_right _ (List.mem_singleton.mpr rfl), ?_⟩, at_, still, fix, head⟩, fun y hy later => ?_⟩
    · rw [at_, decide_eq_false (by omega)]
      rfl
    · refine List.mem_filter.mpr ⟨List.mem_append_left _ hy, ?_⟩
      rw [decide_eq_false (Nat.not_le.mpr later)]
      rfl
  case refine_3 => exact does_of_run cutInstant (fun _ _ => rfl) fun b idle => cutInstant_idle idle
  case refine_4 =>
    refine does_of_run cutInstant (fun _ _ => rfl) fun b ⟨on_, cut, closed, late⟩ => ?_
    rw [cutInstant_due on_ cut late]
    obtain ⟨l, ran, marks⟩ := placeCut_closed (s := cutAdvanced tau b) tau closed
    rw [ran]
    exact ⟨rfl, rfl, rfl, rfl, marks⟩
  case refine_5 =>
    refine does_of_run flushTick (fun _ _ => rfl) fun b ⟨up, late, open_⟩ => ?_
    rw [flushTick_writes up late open_]
    refine ⟨rfl, rfl, rfl, fun f hf named => ?_⟩
    obtain ⟨x, -, same⟩ := List.mem_map.mp hf
    split at same
    · rw [← same]
    next other => exact absurd (same ▸ named) other
  case refine_6 =>
    exact does_of_run flushTick (fun _ _ => rfl) fun b early => if_neg fun ⟨_, late⟩ => Nat.not_lt.mpr late early

end Sys2Proof.Machine

end

section
/-!
The datagrams of a consist: the checks each passes, and what one that has passed does by its TYPE (R576–R594).
-/

namespace Sys2Proof.Machine

section
variable {b s t u : State} {x : Datagram} {d : Bytes}

/-! ### The checks -/

/-- The windows of the senders, noted. -/
def replayed (r : List Replay) (s : State) : State := modCst (fun c => { c with replay := r }) s

theorem noteSeq_only (sender seq : Nat) (s : State) : ∃ r, noteSeq sender seq s = replayed r s := by
  unfold noteSeq
  cases replayOf s sender with
  | none => exact ⟨_, rfl⟩
  | some q => exact ⟨_, rfl⟩

/-- A datagram that passes leaves its SEQ noted. -/
theorem openDatagram_some (opened : (openDatagram d s).2 = some x) : x.type = fieldAt d 3 1 ∧ ∃ r, (openDatagram d s).1 = replayed r s := by
  unfold openDatagram at opened ⊢
  dsimp only at opened ⊢
  split at opened
  · cases opened
  next whole =>
    rw [if_neg whole]
    split at opened
    · cases opened
    next k _ =>
      split at opened
      · cases opened
      next tag =>
        rw [if_neg tag]
        split at opened
        · cases opened
        next fresh =>
          rw [if_neg fresh]
          exact ⟨(Option.some.inj opened) ▸ rfl, noteSeq_only _ _ s⟩

/-- One that fails is counted under one of two causes. -/
theorem openDatagram_none (failed : (openDatagram d s).2 = none) :
    (openDatagram d s).1 = authFail s ∨ (openDatagram d s).1 = s.bump F.CST_CNT_REPLAY 1 := by
  unfold openDatagram at failed ⊢
  dsimp only at failed ⊢
  split
  · exact .inl rfl
  next whole =>
    rw [if_neg whole] at failed
    cases hk : s.cst.keys.find? (fun k => k.keyId == fieldAt d 9 1) with
    | none => exact .inl rfl
    | some k =>
      rw [hk] at failed
      dsimp only at failed ⊢
      split
      · exact .inl rfl
      next tag =>
        rw [if_neg tag] at failed
        split
        · exact .inr rfl
        next fresh =>
          rw [if_neg fresh] at failed
          cases failed

/-- What a failed datagram may change. -/
def refusalFoot : Footprint := ⟨fun a => a == Reg.CST_CNT, [.cst]⟩

theorem authFail_cases (s : State) : authFail s = s.bump F.CST_CNT_AUTH_FAIL 1 ∨
    authFail s = raise0 Src.CST_AUTH_FAIL (modCst (fun c => { c with authFailAt := some s.now }) (s.bump F.CST_CNT_AUTH_FAIL 1)) := by
  unfold authFail
  dsimp only
  exact ite_eq_or_eq _ _ _

theorem authFail_result (hs : s.regsWf = true) (u : State) (hu : u = authFail s) : Within refusalFoot s u ∧
    (∃ at_, u.cst = { s.cst with authFailAt := at_ }) ∧ u.get F.CST_CNT_AUTH_FAIL = satN 8 (s.get F.CST_CNT_AUTH_FAIL + 1) := by
  have within1 : Within refusalFoot s (s.bump F.CST_CNT_AUTH_FAIL 1) := bump_within .refl (by decide)
  have count : (s.bump F.CST_CNT_AUTH_FAIL 1).get F.CST_CNT_AUTH_FAIL = satN 8 (s.get F.CST_CNT_AUTH_FAIL + 1) :=
    State.get_put_of_lt (by decide) (satN_lt 8 _) hs
  have cst1 : (s.bump F.CST_CNT_AUTH_FAIL 1).cst = s.cst := rfl
  have ran := authFail_cases s
  rw [← hu] at ran
  generalize s.bump F.CST_CNT_AUTH_FAIL 1 = v at *
  have wf := within1.wf hs
  obtain rfl | ran := ran
  · exact ⟨within1, ⟨u.cst.authFailAt, by rw [← cst1]⟩, count⟩
  · have noted : Within refusalFoot v (modCst (fun c => { c with authFailAt := some s.now }) v) := cst_within .refl (by decide)
    have cst2 : (modCst (fun c => { c with authFailAt := some s.now }) v).cst = { v.cst with authFailAt := some s.now } := rfl
    have regs2 : (modCst (fun c => { c with authFailAt := some s.now }) v).regs = v.regs := rfl
    generalize modCst (fun c => { c with authFailAt := some s.now }) v = r at *
    have raised : (raise0 Src.CST_AUTH_FAIL r).get F.CST_CNT_AUTH_FAIL = r.get F.CST_CNT_AUTH_FAIL := get_raiseArg (by decide) (noted.wf wf)
    rw [ran]
    refine ⟨raise0_within (within1.trans noted), ⟨some s.now, ?_⟩, raised.trans ((State.get_of_regs regs2 _).trans count)⟩
    rw [show (raise0 Src.CST_AUTH_FAIL r).cst = r.cst from by simp [raise0], cst2, cst1]

/-- A datagram that fails changes a count and nothing of the consist. -/
theorem openDatagram_failed (hs : s.regsWf = true) (failed : (openDatagram d s).2 = none) (u : State) (hu : u = (openDatagram d s).1) :
    u.cst.members = s.cst.members ∧ u.cst.replay = s.cst.replay ∧ u.cst.rdv = s.cst.rdv ∧ cstState u = cstState s ∧
      (u.get F.CST_CNT_AUTH_FAIL = satN 8 (s.get F.CST_CNT_AUTH_FAIL + 1) ∨ u.get F.CST_CNT_REPLAY = satN 8 (s.get F.CST_CNT_REPLAY + 1)) := by
  obtain auth | replay := openDatagram_none failed
  · obtain ⟨within_, ⟨at_, cst⟩, count⟩ := authFail_result hs u (hu.trans auth)
    rw [cst]
    exact ⟨rfl, rfl, rfl, within_.get (by decide), .inl count⟩
  · rw [replay] at hu
    have count : u.get F.CST_CNT_REPLAY = satN 8 (s.get F.CST_CNT_REPLAY + 1) := hu ▸ State.get_put_of_lt (by decide) (satN_lt 8 _) hs
    have state : u.get F.CST_STATUS_STATE = s.get F.CST_STATUS_STATE := hu ▸ State.get_put_of_apart (by decide) hs
    have cst : u.cst = s.cst := by rw [hu]; rfl
    rw [cst]
    exact ⟨rfl, rfl, rfl, state, .inr count⟩

theorem receiveDatagram_fragmented {type : Nat} {f : Datagram → State → State} {d : UdpDatagram} (frag : d.fragmented = true) :
    receiveDatagram type f d b = b := by
  unfold receiveDatagram
  rw [frag]
  rfl

theorem receiveDatagram_failed {type : Nat} {f : Datagram → State → State} (on_ : consistOn b = true) (typed : fieldAt d 3 1 = type)
    (failed : (openDatagram d b).2 = none) : receiveDatagram type f { bytes := d } b = (openDatagram d b).1 := by
  unfold receiveDatagram
  dsimp only
  rw [on_, typed, bne_self_eq_false, Bool.and_false, if_neg (by decide)]
  generalize openDatagram d b = o at *
  obtain ⟨v, o⟩ := o
  dsimp only at failed
  rw [failed]

theorem receiveDatagram_heard {type : Nat} {f : Datagram → State → State} (heard : Heard type d x b) : ∃ r,
    receiveDatagram type f { bytes := d } b = f x (replayed r b) := by
  obtain ⟨on_, -, typed, opened⟩ := heard
  obtain ⟨same, r, noted⟩ := openDatagram_some opened
  refine ⟨r, ?_⟩
  unfold receiveDatagram
  dsimp only
  rw [on_, typed, bne_self_eq_false, Bool.and_false, if_neg (by decide)]
  generalize openDatagram d b = o at *
  obtain ⟨v, o⟩ := o
  dsimp only at opened noted
  rw [opened]
  dsimp only
  rw [if_pos (same.trans typed), noted]

/-! ### Heartbeats and leaving -/

theorem mem_putMember {m k : ConsistMember} (other : m.num ≠ k.num) : ∀ l : List ConsistMember, k ∈ putMember m l ↔ k ∈ l
  | [] => by
    have differs : k ≠ m := fun e => other (congrArg ConsistMember.num e.symm)
    simp [putMember, differs]
  | y :: ys => by
    have differs : k ≠ m := fun e => other (congrArg ConsistMember.num e.symm)
    unfold putMember
    split
    · simp [differs]
    · split
      next same =>
        have apart_ : k ≠ y := fun e => other (same.trans (congrArg ConsistMember.num e.symm))
        simp [differs, apart_]
      · simp [mem_putMember other ys]

theorem mem_putMember_self (m : ConsistMember) : ∀ l : List ConsistMember, m ∈ putMember m l
  | [] => List.mem_singleton.mpr rfl
  | y :: ys => by
    unfold putMember
    split
    · exact List.mem_cons_self
    · split
      · exact List.mem_cons_self
      · exact List.mem_cons_of_mem _ (mem_putMember_self m ys)

/-- A module that listens notes whom it hears. -/
def memberHeard (n : Nat) (s : State) : State :=
  if s.cst.listenEnd.isSome then modCst (fun c => { c with heard := if c.heard.contains n then c.heard else c.heard ++ [n] }) s else s

theorem memberHeard_only (n : Nat) (s : State) : ∃ l, memberHeard n s = modCst (fun c => { c with heard := l }) s := by
  unfold memberHeard
  split
  · exact ⟨_, rfl⟩
  · exact ⟨s.cst.heard, rfl⟩

/-- The row of the table that a heartbeat gives. -/
def memberRow (x : Datagram) (now : Nat) : ConsistMember where
  num := x.member
  machine := fieldAt x.payload 0 8
  kind := fieldAt x.payload 8 1
  state := fieldAt x.payload 9 1
  fix := fieldAt x.payload 10 1
  tank := fieldAt x.payload 11 1
  lat := fieldAt x.payload 20 8
  lon := fieldAt x.payload 28 8
  at_ := now
  absent := false

theorem takeHeartbeat_eq (x : Datagram) (s : State) : takeHeartbeat x s =
    if cstState (memberHeard x.member s) = cstMember ∧ x.member = ownMember (memberHeard x.member s) then
      if fieldAt x.payload 0 8 < machineId (memberHeard x.member s) then
        raise0 Src.CST_MEMBER_CONFLICT (startListening (consistId (memberHeard x.member s)) cstConflict (memberHeard x.member s))
      else memberHeard x.member s
    else if x.member > 31 then memberHeard x.member s
    else modCst (fun c => { c with members := putMember (memberRow x (memberHeard x.member s).now) c.members }) (memberHeard x.member s) := rfl

/-- A heartbeat of another member sets its row of the table. -/
theorem takeHeartbeat_member (low : x.member ≤ 31) (other : cstState s ≠ cstMember ∨ x.member ≠ ownMember s) (u : State) (hu : u = takeHeartbeat x s) :
    (∃ m ∈ u.cst.members, m.num = x.member ∧ m.absent = false ∧ m.at_ = s.now ∧ m.machine = fieldAt x.payload 0 8 ∧
        m.kind = fieldAt x.payload 8 1 ∧ m.fix = fieldAt x.payload 10 1) ∧
      (∀ m : ConsistMember, m.num ≠ x.member → (m ∈ u.cst.members ↔ m ∈ s.cst.members)) ∧ u.regs = s.regs := by
  obtain ⟨l, heard⟩ := memberHeard_only x.member s
  rw [takeHeartbeat_eq, heard] at hu
  have not_own : ¬(cstState (modCst (fun c => { c with heard := l }) s) = cstMember ∧ x.member = ownMember (modCst (fun c => { c with heard := l }) s)) :=
    fun ⟨state, own⟩ => other.elim (fun h => h state) (fun h => h own)
  rw [if_neg not_own, if_neg (Nat.not_lt.mpr low)] at hu
  rw [hu]
  exact ⟨⟨_, mem_putMember_self _ _, rfl, rfl, rfl, rfl, rfl, rfl⟩, fun m ne => mem_putMember (Ne.symm ne) _, rfl⟩

/-- A lower machine with this module's number stops it. -/
theorem takeHeartbeat_conflict (state : cstState s = cstMember) (own : x.member = ownMember s) (lower : fieldAt x.payload 0 8 < machineId s)
    (hs : s.regsWf = true) (u : State) (hu : u = takeHeartbeat x s) :
    cstState u = cstConflict ∧ u.cst.listenEnd = some (s.now + 3 * sec) ∧ Flagged Src.CST_MEMBER_CONFLICT u := by
  obtain ⟨l, heard⟩ := memberHeard_only x.member s
  rw [takeHeartbeat_eq, heard] at hu
  have regs : (modCst (fun c => { c with heard := l }) s).regs = s.regs := rfl
  have now : (modCst (fun c => { c with heard := l }) s).now = s.now := rfl
  have id_ : machineId (modCst (fun c => { c with heard := l }) s) = machineId s := rfl
  have wf : (modCst (fun c => { c with heard := l }) s).regsWf = true := hs
  have state' : cstState (modCst (fun c => { c with heard := l }) s) = cstMember := state
  have own' : x.member = ownMember (modCst (fun c => { c with heard := l }) s) := own
  rw [if_pos ⟨state', own'⟩, if_pos (id_ ▸ lower)] at hu
  generalize modCst (fun c => { c with heard := l }) s = v at *
  have small : consistId v < 2 ^ 32 := by
    rw [consistId, reg_eq_get]
    exact State.get_lt v ⟨Reg.CST_CONSIST, 0, 32⟩
  obtain ⟨state, -, listens⟩ := startListening_result (st := cstConflict) small (by decide) wf
  have wf2 : (startListening (consistId v) cstConflict v).regsWf = true := State.regsWf_setReg _ _ _ (State.regsWf_put _ _ _ wf)
  have now2 : (startListening (consistId v) cstConflict v).now = v.now := rfl
  rw [now2, now] at listens
  generalize startListening (consistId v) cstConflict v = r at *
  rw [hu]
  refine ⟨?_, ?_, flagged_raiseArg (by decide) wf2⟩
  · exact (get_raiseArg (by decide) wf2 : (raise0 Src.CST_MEMBER_CONFLICT r).get F.CST_STATUS_STATE = r.get F.CST_STATUS_STATE).trans state
  · rw [show (raise0 Src.CST_MEMBER_CONFLICT r).cst = r.cst from by simp [raise0]]
    exact listens

theorem takeLeave_result (apart_ : s.get F.CST_RDV_RDV_STATE ≠ 2) (u : State) (hu : u = takeLeave x s) :
    u.regs = s.regs ∧ ∀ m, m ∈ u.cst.members ↔ m ∈ s.cst.members ∧ m.machine ≠ fieldAt x.payload 0 8 := by
  unfold takeLeave at hu
  dsimp only at hu
  cases found : s.cst.members.find? (fun m => m.machine == fieldAt x.payload 0 8) with
  | none =>
    rw [found] at hu
    dsimp only at hu
    subst hu
    refine ⟨rfl, fun m => ⟨fun here => ⟨here, fun same => ?_⟩, And.left⟩⟩
    exact absurd (beq_iff_eq.mpr same) (List.find?_eq_none.mp found m here)
  | some k =>
    rw [found] at hu
    have free : partnerGone k.num (modCst (fun c => { c with members := c.members.filter (fun y => y.machine != fieldAt x.payload 0 8) }) s) =
        modCst (fun c => { c with members := c.members.filter (fun y => y.machine != fieldAt x.payload 0 8) }) s :=
      if_neg fun ⟨tracking, _⟩ => apart_ tracking
    dsimp only at hu
    rw [free] at hu
    rw [hu]
    exact ⟨rfl, fun m => by rw [show (modCst _ s).cst.members = s.cst.members.filter _ from rfl, List.mem_filter, bne_iff_ne]⟩

/-! ### Coverage -/

/-- A tile that has gained OTHER flags only. -/
structure TileGrown (t t' : YieldTile) : Prop where
  te : t'.te = t.te
  tn : t'.tn = t.tn
  own : ∀ i, (tileCell t' i).own = (tileCell t i).own
  other : ∀ i, (tileCell t i).other = true → (tileCell t' i).other = true

theorem TileGrown.refl {t : YieldTile} : TileGrown t t := ⟨rfl, rfl, fun _ => rfl, fun _ => id⟩

theorem TileGrown.trans {t t' t'' : YieldTile} (h : TileGrown t t') (k : TileGrown t' t'') : TileGrown t t'' :=
  ⟨k.te.trans h.te, k.tn.trans h.tn, fun i => (k.own i).trans (h.own i), fun i o => k.other i (h.other i o)⟩

/-- A tile whose cell has been covered. -/
def cellCovered (i sec_ : Nat) (t : YieldTile) : YieldTile :=
  { t with
    cells := putNum t.cells i { tileCell t i with other := true }
    last := sec_
    gen := (t.gen + 1) % 4294967296 }

theorem cellCovered_same (i sec_ : Nat) (t : YieldTile) : tileCell (cellCovered i sec_ t) i = { tileCell t i with other := true } := by
  unfold tileCell cellCovered
  rw [lookupNum_putNum_same]
  rfl

theorem cellCovered_ne {i k : Nat} (ne : k ≠ i) (sec_ : Nat) (t : YieldTile) : tileCell (cellCovered i sec_ t) k = tileCell t k := by
  unfold tileCell cellCovered
  rw [lookupNum_putNum_ne ne]

theorem cellCovered_grown (i sec_ : Nat) (t : YieldTile) : TileGrown t (cellCovered i sec_ t) where
  te := rfl
  tn := rfl
  own k := by
    by_cases same : k = i
    · rw [same, cellCovered_same]
    · rw [cellCovered_ne same]
  other k on := by
    by_cases same : k = i
    · rw [same, cellCovered_same]
    · rw [cellCovered_ne same, on]

/-- The cell and the tile of a row and a column. -/
theorem cell_of_row {te tn : Int} {row c : Nat} (hrow : row ≤ 31) (hc : c < 32) : (32 * te + (c : Int)) / 32 = te ∧ (32 * tn + (row : Int)) / 32 = tn ∧
    ((32 * tn + (row : Int) - 32 * ((32 * tn + (row : Int)) / 32)) * 32 + (32 * te + (c : Int) - 32 * ((32 * te + (c : Int)) / 32))).toNat =
      32 * row + c := by
  have east : (32 * te + (c : Int)) / 32 = te := by omega
  have north : (32 * tn + (row : Int)) / 32 = tn := by omega
  rw [east, north]
  exact ⟨rfl, rfl, by omega⟩

theorem findTile_single {t : YieldTile} : findTile [t] t.te t.tn = some t := by
  simp [findTile]

theorem coverCell_grows {t : YieldTile} {row c : Nat} (tiles : s.yld.live.tiles = [t]) (hrow : row ≤ 31) (hc : c < 32) : ∃ t',
    (coverCell t.te t.tn row c s).yld.live.tiles = [t'] ∧ TileGrown t t' ∧ (tileCell t' (32 * row + c)).other = true := by
  unfold coverCell
  dsimp only
  rw [tiles, findTile_single]
  dsimp only
  by_cases was : (tileCell t (32 * row + c)).other = true
  · rw [if_pos was]
    exact ⟨t, tiles, .refl, was⟩
  · obtain ⟨east, north, index⟩ := cell_of_row (te := t.te) (tn := t.tn) hrow hc
    have changed : changeCell (32 * t.te + (c : Int)) (32 * t.tn + (row : Int)) (fun x => { x with other := true }) s =
        some (modLive (fun d => { d with tiles := d.tiles.map (fun k =>
          if k.te == t.te && k.tn == t.tn then cellCovered (32 * row + c) (deviceTime s / sec) k else k) }) s) := by
      unfold changeCell
      dsimp only
      rw [index, east, north, tiles, findTile_single]
      rfl
    rw [if_neg was, changed]
    refine ⟨cellCovered (32 * row + c) (deviceTime s / sec) t, ?_, cellCovered_grown _ _ _, by rw [cellCovered_same]⟩
    show s.yld.live.tiles.map _ = _
    rw [tiles]
    simp

theorem coverRow_grows {t0 : YieldTile} {row bits : Nat} (hrow : row ≤ 31) : ∀ (l : List Nat) (s : State) (t : YieldTile), (∀ c ∈ l, c < 32) →
    s.yld.live.tiles = [t] → TileGrown t0 t →
    ∃ t', (foldOver (fun s c => if bitAt bits c then coverCell t0.te t0.tn row c s else s) s l).yld.live.tiles = [t'] ∧ TileGrown t t' ∧
      ∀ c ∈ l, bitAt bits c = true → (tileCell t' (32 * row + c)).other = true
  | [], s, t, _, tiles, _ => ⟨t, tiles, .refl, fun c hc => absurd hc List.not_mem_nil⟩
  | c :: cs, s, t, small, tiles, grown => by
    rw [foldOver_cons]
    have rest := fun c hc => small c (List.mem_cons_of_mem _ hc)
    cases set : bitAt bits c with
    | false =>
      rw [if_neg Bool.false_ne_true]
      obtain ⟨t', after, grows, covered⟩ := coverRow_grows hrow cs s t rest tiles grown
      refine ⟨t', after, grows, fun k hk on => ?_⟩
      obtain rfl | hk := List.mem_cons.mp hk
      · rw [set] at on
        cases on
      · exact covered k hk on
    | true =>
      rw [if_pos rfl]
      obtain ⟨t1, here, grows1, covered1⟩ := coverCell_grows tiles hrow (small c List.mem_cons_self)
      rw [grown.te, grown.tn] at here
      obtain ⟨t', after, grows, covered⟩ := coverRow_grows hrow cs _ t1 rest here (grown.trans grows1)
      refine ⟨t', after, grows1.trans grows, fun k hk on => ?_⟩
      obtain rfl | hk := List.mem_cons.mp hk
      · exact grows.other _ covered1
      · exact covered k hk on

/-- Coverage of the open field sets OTHER in the cells of its rows. -/
theorem takeCoverage_row {f : Field} {tile : YieldTile} (open_ : s.yld.openId.bind (findField s) = some f) (named : f.id = fieldAt x.payload 0 4)
    (origin : originCrc f = fieldAt x.payload 4 4) (one : fieldAt x.payload 8 1 = 1) (length : x.payload.length = 24) (row : fieldAt x.payload 16 1 ≤ 31)
    (tiles : s.yld.live.tiles = [tile]) (te : tile.te = sfieldAt x.payload 12 2) (tn : tile.tn = sfieldAt x.payload 14 2) (u : State)
    (hu : u = takeCoverage x s) : u.yld.live.tiles.length = 1 ∧ ∀ c, c < 32 → bitAt (fieldAt x.payload 20 4) c = true →
      ∃ t' ∈ u.yld.live.tiles, (tileCell t' (32 * fieldAt x.payload 16 1 + c)).other = true ∧
        (tileCell t' (32 * fieldAt x.payload 16 1 + c)).own = (tileCell tile (32 * fieldAt x.payload 16 1 + c)).own := by
  have rows : rowEntries (fieldAt x.payload 8 1) (x.payload.drop 12) = [x.payload.drop 12] := by
    rw [one, rowEntries, rowEntries, List.take_of_length_le (by simp [length])]
  have ran : takeCoverage x s = takeRow s (x.payload.drop 12) := by
    unfold takeCoverage
    dsimp only
    rw [open_]
    dsimp only
    rw [if_neg (not_or.mpr ⟨not_not.mpr named, not_not.mpr origin⟩), rows]
    rfl
  have row_ : takeRow s (x.payload.drop 12) =
      foldOver (fun s c => if bitAt (fieldAt x.payload 20 4) c then coverCell tile.te tile.tn (fieldAt x.payload 16 1) c s else s) s (upFrom 0 32) := by
    unfold takeRow
    dsimp only
    rw [sfieldAt, sfieldAt, fieldAt_drop, fieldAt_drop, fieldAt_drop, fieldAt_drop, if_neg (Nat.not_lt.mpr row), te, tn]
    rfl
  obtain ⟨t', after, grown, covered⟩ := coverRow_grows (t0 := tile) (bits := fieldAt x.payload 20 4) row (upFrom 0 32) s tile
    (fun c hc => (mem_upFrom.mp hc).2.trans_eq (Nat.zero_add 32)) tiles .refl
  rw [hu, ran, row_, after]
  exact ⟨rfl, fun c hc on => ⟨t', List.mem_singleton.mpr rfl, covered c (mem_upFrom.mpr ⟨Nat.zero_le c, by omega⟩) on, grown.own _⟩⟩

theorem takeCoverage_foreign (foreign : s.yld.openId.bind (findField s) = none ∨
      ∃ f, s.yld.openId.bind (findField s) = some f ∧ (f.id ≠ fieldAt x.payload 0 4 ∨ originCrc f ≠ fieldAt x.payload 4 4)) :
    takeCoverage x s = s.bump F.CST_CNT_FOREIGN 1 := by
  unfold takeCoverage
  dsimp only
  obtain closed | ⟨f, open_, other⟩ := foreign
  · rw [closed]
  · rw [open_]
    exact if_pos other

/-! ### Rendezvous and corrections -/

/-- The partner ends the rendezvous. -/
theorem takeRdv_end {r : Rdv} (state : cstState s = cstMember) (kind : fieldAt x.payload 4 1 = 6) (mine : fieldAt x.payload 5 1 = ownMember s)
    (rdv : s.cst.rdv = some r) (named : r.id = fieldAt x.payload 0 4) (tracking : s.get F.CST_RDV_RDV_STATE = 2) (partner : r.target = x.member) :
    takeRdv x s = endRdv 2 s := by
  unfold takeRdv
  simp [state, kind, mine, rdv, named, tracking, partner]

/-- What a change of the rendezvous may change. -/
def closeFoot : Footprint := ⟨fun a => a == Reg.CST_RDV, [.cst]⟩

/-- A rendezvous that changes its state shows it with its partner, and tells of it. -/
theorem setRdvState_changed {st partner : Nat} (hst : st < 4) (hp : partner < 256) (was : s.get F.CST_RDV_RDV_STATE ≠ st) (hs : s.regsWf = true) (u : State)
    (hu : u = setRdvState st partner s) : u.get F.CST_RDV_RDV_STATE = st ∧ u.get F.CST_RDV_PARTNER = partner ∧
      u.get F.CST_RDV_REASON = s.get F.CST_RDV_REASON ∧ Flagged Src.CST_RDV_CHANGE u ∧ u.cst = s.cst ∧ u.out = s.out ∧ Within closeFoot s u := by
  have wf1 := State.regsWf_put s F.CST_RDV_RDV_STATE st hs
  have wf2 := State.regsWf_put _ F.CST_RDV_PARTNER partner wf1
  have state : ((s.put F.CST_RDV_RDV_STATE st).put F.CST_RDV_PARTNER partner).get F.CST_RDV_RDV_STATE = st :=
    (State.get_put_of_apart (by decide) wf1).trans (State.get_put_of_lt (by decide) (Nat.lt_of_lt_of_le hst (by decide)) hs)
  have with_ : ((s.put F.CST_RDV_RDV_STATE st).put F.CST_RDV_PARTNER partner).get F.CST_RDV_PARTNER = partner :=
    State.get_put_of_lt (by decide) hp wf1
  have reason : ((s.put F.CST_RDV_RDV_STATE st).put F.CST_RDV_PARTNER partner).get F.CST_RDV_REASON = s.get F.CST_RDV_REASON :=
    (State.get_put_of_apart (by decide) wf1).trans (State.get_put_of_apart (by decide) hs)
  have within_ : Within closeFoot s ((s.put F.CST_RDV_RDV_STATE st).put F.CST_RDV_PARTNER partner) :=
    put_within (put_within .refl (by decide)) (by decide)
  have cst : ((s.put F.CST_RDV_RDV_STATE st).put F.CST_RDV_PARTNER partner).cst = s.cst := rfl
  have out : ((s.put F.CST_RDV_RDV_STATE st).put F.CST_RDV_PARTNER partner).out = s.out := rfl
  unfold setRdvState at hu
  dsimp only at hu
  rw [if_neg was] at hu
  generalize (s.put F.CST_RDV_RDV_STATE st).put F.CST_RDV_PARTNER partner = r at *
  have keep (g : Fld) (calm : quiet Src.CST_RDV_CHANGE g = true) : u.get g = r.get g := hu ▸ get_raiseArg calm wf2
  have cstU : u.cst = r.cst := by rw [hu]; simp [raise0]
  have outU : u.out = r.out := by rw [hu]; simp [raise0]
  exact ⟨(keep _ (by decide)).trans state, (keep _ (by decide)).trans with_, (keep _ (by decide)).trans reason, hu ▸ flagged_raiseArg (by decide) wf2,
    cstU.trans cst, outU.trans out, hu ▸ raise0_within within_⟩

/-- The close of a rendezvous that was asked for or tracked: its state, its reason, and that it changed. -/
theorem rdvClosed_result {reason : Nat} (small : reason < 256) (was : s.get F.CST_RDV_RDV_STATE ≠ 0) (hs : s.regsWf = true) (u : State)
    (hu : u = setRdvState 0 0xFF ((modCst (fun c => { c with rdv := none }) s).put F.CST_RDV_REASON reason)) :
    RdvOver reason u ∧ u.cst = { s.cst with rdv := none } ∧ u.out = s.out ∧ Within closeFoot s u := by
  have within1 : Within closeFoot s (modCst (fun c => { c with rdv := none }) s) := cst_within .refl (by decide)
  have cst1 : (modCst (fun c => { c with rdv := none }) s).cst = { s.cst with rdv := none } := rfl
  have out1 : (modCst (fun c => { c with rdv := none }) s).out = s.out := rfl
  have state1 : (modCst (fun c => { c with rdv := none }) s).get F.CST_RDV_RDV_STATE ≠ 0 := was
  generalize modCst (fun c => { c with rdv := none }) s = v at *
  have wf1 := within1.wf hs
  have within2 : Within closeFoot v (v.put F.CST_RDV_REASON reason) := put_within .refl (by decide)
  have differs : (v.put F.CST_RDV_REASON reason).get F.CST_RDV_RDV_STATE ≠ 0 := by rwa [State.get_put_of_apart (by decide) wf1]
  have told : (v.put F.CST_RDV_REASON reason).get F.CST_RDV_REASON = reason := State.get_put_of_lt (by decide) small wf1
  have cst2 : (v.put F.CST_RDV_REASON reason).cst = v.cst := rfl
  have out2 : (v.put F.CST_RDV_REASON reason).out = v.out := rfl
  generalize v.put F.CST_RDV_REASON reason = r at *
  obtain ⟨state, partner, why, changed, cst, out, within3⟩ := setRdvState_changed (by decide) (by decide) differs (within2.wf wf1) u hu
  have cstU : u.cst = { s.cst with rdv := none } := cst.trans (cst2.trans cst1)
  exact ⟨⟨by rw [cstU], state, partner, why.trans told, changed⟩, cstU, out.trans (out2.trans out1), (within1.trans within2).trans within3⟩

theorem endRdv_partner {r : Rdv} (rdv : s.cst.rdv = some r) (tracking : s.get F.CST_RDV_RDV_STATE = 2) (quiet_ : s.out = []) (hs : s.regsWf = true)
    (u : State) (hu : u = endRdv 2 s) : u.cst.rdv = none ∧ u.get F.CST_RDV_RDV_STATE = 0 ∧ u.get F.CST_RDV_PARTNER = 0xFF ∧ u.get F.CST_RDV_REASON = 2 ∧
      u.out = [] ∧ Flagged Src.CST_RDV_CHANGE u := by
  unfold endRdv at hu
  rw [rdv] at hu
  dsimp only at hu
  rw [if_pos rfl] at hu
  obtain ⟨⟨gone, state, partner, reason, told⟩, -, out, -⟩ := rdvClosed_result (reason := 2) (by decide) (by rw [tracking]; decide) hs u hu
  exact ⟨gone, state, partner, reason, out.trans quiet_, told⟩

/-- An offer joins those that wait, and none is chosen in the first second. -/
theorem takeRdv_offer {r : Rdv} (state : cstState s = cstMember) (kind : fieldAt x.payload 4 1 = 2) (mine : fieldAt x.payload 5 1 = ownMember s)
    (rdv : s.cst.rdv = some r) (asks : r.requester = true) (named : r.id = fieldAt x.payload 0 4) (open_ : s.get F.CST_RDV_RDV_STATE = 1)
    (new : r.offers.any (fun o => o.1 == x.member) = false) (early : s.now < r.firstAt + sec) (u : State) (hu : u = takeRdv x s) :
    u.regs = s.regs ∧ u.cst.rdv = some { r with offers := r.offers ++ [(x.member, fieldAt x.payload 42 2, placeOfPayload x.payload)] } := by
  obtain ⟨v, hv⟩ : ∃ v, v = modRdv (fun r => { r with offers := r.offers ++ [(x.member, fieldAt x.payload 42 2, placeOfPayload x.payload)] }) s := ⟨_, rfl⟩
  have ran : takeRdv x s = offerSelect v := by
    unfold takeRdv
    simp [state, kind, mine, rdv, asks, named, open_, new, hv]
  have rdvV : v.cst.rdv = some { r with offers := r.offers ++ [(x.member, fieldAt x.payload 42 2, placeOfPayload x.payload)] } := by
    rw [hv]
    show s.cst.rdv.map _ = _
    rw [rdv]
    rfl
  have now : v.now = s.now := by rw [hv]; rfl
  have waits : offerSelect v = v := by
    unfold offerSelect
    rw [rdvV]
    cases consistOn v
    · rfl
    · exact if_pos (.inr (.inr (now ▸ early)))
  rw [hu, ran, waits]
  exact ⟨by rw [hv]; rfl, rdvV⟩

theorem takeCorrections_relayed (relays : s.flag F.CST_CFG_RELAY_RX = true) (from_ : s.get F.CST_TANK_RELAY_FROM = x.member) (low : x.member ≤ 31)
    (size : s.nav.sources.length = 3) (u : State) (hu : u = takeCorrections x s) :
    (corrSource u 2).buffer = (corrSource s 2).buffer ++ x.payload.drop 4 ∧ u.regs = s.regs := by
  have named : x.member ≠ 0xFF := by omega
  have ran : takeCorrections x s = feedSource 2 (x.payload.drop 4) s := by
    unfold takeCorrections
    simp [relays, from_, named]
  rw [hu, ran, feedSource, corrSource_modSource size (by decide) (by decide)]
  exact ⟨rfl, rfl⟩

end

theorem does_fragmented {type : Nat} {f : Datagram → State → State} {d : UdpDatagram} {c : Nat → Instr}
    (hexec : ∀ t s, exec (c t) s = .next (receiveDatagram type f d (begin_ t s))) (frag : d.fragmented = true) :
    Does c (fun _ => True) (fun b u => u = b) :=
  does_of_run (receiveDatagram type f d) hexec fun _ _ => receiveDatagram_fragmented frag

/-- A datagram that passes its checks does what its TYPE says, beside noting its SEQ. -/
theorem does_heard {type : Nat} {f : Datagram → State → State} {d : Bytes} {x : Datagram} {c : Nat → Instr} {cond : State → Prop}
    {P : State → State → Prop} (hexec : ∀ t s, exec (c t) s = .next (receiveDatagram type f { bytes := d } (begin_ t s)))
    (heard : ∀ b, cond b → Heard type d x b) (result : ∀ b r, b.out = [] → cond b → P b (f x (replayed r b))) : Does c cond P := fun t s met => by
  obtain ⟨r, ran⟩ := receiveDatagram_heard (f := f) (heard _ met)
  exact ⟨_, hexec t s, ran ▸ result _ r (begin_out t s) met⟩

/-- Settles O48: a datagram that passes is taken by its TYPE with its SEQ noted; one that fails is counted. -/
theorem consistDatagramRows : Obligations.ConsistDatagramRows := by
  refine ⟨fun d frag => ?_, fun d frag => ?_, fun d frag => ?_, fun d frag => ?_, fun d frag => ?_, fun d => ?_, fun d x => ?_, fun d x => ?_, fun d x => ?_,
    fun d x f tile => ?_, fun d x r => ?_, fun d x r => ?_, fun d x => ?_, fun d x => ?_⟩
  case refine_1 => exact does_fragmented (fun _ _ => rfl) frag
  case refine_2 => exact does_fragmented (fun _ _ => rfl) frag
  case refine_3 => exact does_fragmented (fun _ _ => rfl) frag
  case refine_4 => exact does_fragmented (fun _ _ => rfl) frag
  case refine_5 => exact does_fragmented (fun _ _ => rfl) frag
  case refine_6 =>
    refine does_of_run (receiveDatagram 0x01 takeHeartbeat { bytes := d }) (fun _ _ => rfl) fun b ⟨sound, on_, _, typed, failed⟩ => ?_
    rw [receiveDatagram_failed on_ typed failed]
    exact openDatagram_failed (regsWf_of_sound sound) failed _ rfl
  case refine_7 =>
    exact does_heard (fun _ _ => rfl) (fun b met => met.1) fun b r _ ⟨_, low, other⟩ => takeHeartbeat_member (s := replayed r b) low other _ rfl
  case refine_8 =>
    exact does_heard (fun _ _ => rfl) (fun b met => met.2.1) fun b r _ ⟨sound, _, state, own, lower⟩ =>
      takeHeartbeat_conflict (s := replayed r b) state own lower (regsWf_of_sound sound) _ rfl
  case refine_9 =>
    refine does_heard (fun _ _ => rfl) (fun b met => met.2.1) fun b r _ ⟨sound, _, foreign⟩ => ?_
    have wf := regsWf_of_sound sound
    have noted : (replayed r b).regs = b.regs := rfl
    have wfR : (replayed r b).regsWf = true := wf
    rw [takeCoverage_foreign (s := replayed r b) foreign]
    refine ⟨rfl, ?_, FieldsKept.trans (fieldsKept_of_regs noted []) (fieldsKept_put (by decide) wfR _)⟩
    exact State.get_put_of_lt (by decide) (satN_lt 8 _) wfR
  case refine_10 =>
    exact does_heard (fun _ _ => rfl) (fun b met => met.1) fun b r _ ⟨_, open_, named, origin, one, length, row, tiles, te, tn⟩ =>
      takeCoverage_row (s := replayed r b) open_ named origin one length row tiles te tn _ rfl
  case refine_11 =>
    refine does_heard (fun _ _ => rfl) (fun b met => met.2.1) fun b q quiet_ ⟨sound, _, state, kind, mine, rdv, named, tracking, partner⟩ => ?_
    rw [takeRdv_end (s := replayed q b) state kind mine rdv named tracking partner]
    exact endRdv_partner (s := replayed q b) rdv tracking quiet_ (regsWf_of_sound sound) _ rfl
  case refine_12 =>
    exact does_heard (fun _ _ => rfl) (fun b met => met.1) fun b q _ ⟨_, state, kind, mine, rdv, asks, named, open_, new, early⟩ =>
      takeRdv_offer (s := replayed q b) state kind mine rdv asks named open_ new early _ rfl
  case refine_13 =>
    exact does_heard (fun _ _ => rfl) (fun b met => met.2.1) fun b r _ ⟨sound, _, relays, from_, low⟩ =>
      takeCorrections_relayed (s := replayed r b) relays from_ low (sources_length_of_sound sound) _ rfl
  case refine_14 =>
    exact does_heard (fun _ _ => rfl) (fun b met => met.1) fun b r _ ⟨_, free⟩ => takeLeave_result (s := replayed r b) free _ rfl

end Sys2Proof.Machine

end

section
/-!
What a consist sends, and what happens when its times run out (R576–R594). A run of datagrams leaves under one key with consecutive
sequence numbers.
-/

namespace Sys2Proof.Machine

/-! ### A run of datagrams -/

section
variable {b s t u : State} {k : ConsistKey} {type consist member : Nat}

/-- What the sending of consist datagrams may change. -/
def sendFoot : Footprint := ⟨fun a => a == Reg.CST_STATUS, [.cst, .out]⟩

/-- What the sending of consist datagrams leaves: all but sequence numbers, KEY_ID and what has left. -/
structure SendKept (b s : State) : Prop where
  within_ : Within sendFoot b s
  get : ∀ g : Fld, F.CST_STATUS_KEY_ID.apart g = true → s.get g = b.get g
  cst : ∃ next end_ mark, s.cst = { b.cst with
    seqNext := next
    seqEnd := end_
    seqMark := mark }

theorem SendKept.refl : SendKept s s := ⟨.refl, fun _ _ => rfl, s.cst.seqNext, s.cst.seqEnd, s.cst.seqMark, rfl⟩

theorem SendKept.trans (h : SendKept b s) (k : SendKept s t) : SendKept b t := by
  obtain ⟨_, _, _, cst1⟩ := h.cst
  obtain ⟨next, end_, mark, cst2⟩ := k.cst
  exact ⟨h.within_.trans k.within_, fun g far => (k.get g far).trans (h.get g far), next, end_, mark, by rw [cst2, cst1]⟩

theorem SendKept.flag (h : SendKept b s) {f : Fld} (far : F.CST_STATUS_KEY_ID.apart f = true) : s.flag f = b.flag f := by
  rw [State.flag, State.flag, h.get f far]

theorem SendKept.reg (h : SendKept b s) {a : Nat} (far : F.CST_STATUS_KEY_ID.apart ⟨a, 0, 32⟩ = true) : s.reg a = b.reg a := by
  rw [reg_eq_get, reg_eq_get, h.get _ far]

theorem SendKept.named (h : SendKept b s) : consistId s = consistId b := h.reg (by decide)

theorem SendKept.own (h : SendKept b s) : ownMember s = ownMember b := h.get _ (by decide)

theorem SendKept.state (h : SendKept b s) : cstState s = cstState b := h.get _ (by decide)

theorem consistOn_of (role : s.role = b.role) (en : s.flag F.CST_CFG_EN = b.flag F.CST_CFG_EN) (die : s.die = b.die) : consistOn s = consistOn b := by
  rw [consistOn, consistOn, isTerminus, isTerminus, role, en, die]

theorem SendKept.on (h : SendKept b s) : consistOn s = consistOn b :=
  consistOn_of (h.within_.part .role (by decide)) (h.flag (by decide)) (h.within_.part .die (by decide))

/-- The state has the keys, the sequence and the addresses of another, and nothing has left in it. -/
structure SendsAs (b s : State) : Prop where
  keys : s.cst.keys = b.cst.keys
  next : s.cst.seqNext = b.cst.seqNext
  end_ : s.cst.seqEnd = b.cst.seqEnd
  mark : s.cst.seqMark = b.cst.seqMark
  get : ∀ g : Fld, g.addr ∈ [Reg.CST_PEER, Reg.CST_CFG, Reg.IDR_UID_LO, Reg.IDR_UID_HI] → s.get g = b.get g

theorem datagramsFrom_of (get : ∀ g : Fld, g.addr ∈ [Reg.CST_PEER, Reg.CST_CFG, Reg.IDR_UID_LO, Reg.IDR_UID_HI] → s.get g = b.get g) :
    ∀ (l : List Bytes) (n : Nat), datagramsFrom s k type consist member n l = datagramsFrom b k type consist member n l
  | [], _ => rfl
  | p :: l, n => by
    have uid : ownUid s = ownUid b := by
      rw [ownUid, ownUid, State.get64, State.get64, reg_eq_get, reg_eq_get, reg_eq_get, reg_eq_get, get _ (by decide), get _ (by decide)]
    rw [datagramsFrom, datagramsFrom, datagramsFrom_of get l, uid, reg_eq_get, reg_eq_get, get _ (by decide), get _ (by decide)]

/-- The sequence numbers of a module whose next datagram leaves. -/
def seqReady (s : State) : State := if s.cst.seqNext < s.cst.seqEnd then s else reserveSeq s

theorem seqReady_result (s : State) : seqReady s = { s with cst := (seqReady s).cst } ∧ (seqReady s).cst.seqNext = sendSeq s ∧
    (seqReady s).cst.seqEnd = (if s.cst.seqNext < s.cst.seqEnd then s.cst.seqEnd else s.cst.seqMark + 1048576) ∧
    ∃ next end_ mark, (seqReady s).cst = { s.cst with
      seqNext := next
      seqEnd := end_
      seqMark := mark } := by
  unfold seqReady sendSeq
  split
  · exact ⟨rfl, rfl, rfl, s.cst.seqNext, s.cst.seqEnd, s.cst.seqMark, rfl⟩
  · exact ⟨rfl, rfl, rfl, _, _, _, rfl⟩

theorem seqReady_room {n : Nat} (room : seqRoom s (n + 1)) : sendSeq s + 1 + n ≤ (seqReady s).cst.seqEnd := by
  rw [(seqReady_result s).2.2.1]
  unfold sendSeq
  obtain within_ | ⟨used, few⟩ := room
  · rw [if_pos (by omega), if_pos (by omega)]
    omega
  · rw [if_neg (by omega), if_neg (by omega)]
    omega

/-- The sequence number used, and KEY_ID shown. -/
def seqUsed (key : Nat) (s : State) : State :=
  (modCst (fun c => { c with seqNext := c.seqNext + 1 }) s).put F.CST_STATUS_KEY_ID key

theorem sendConsist_some {p : Bytes} (on : consistOn s = true) (key : sendKey s consist = some k) : sendConsist type consist member p s =
    emit (.datagram ((seqUsed k.keyId (seqReady s)).reg Reg.CST_PEER) ((seqUsed k.keyId (seqReady s)).get F.CST_CFG_UDP_PORT)
      (sealDatagram k.key type consist member k.keyId (ownUid (seqUsed k.keyId (seqReady s))) (seqReady s).cst.seqNext p)) (seqUsed k.keyId (seqReady s)) := by
  unfold sendConsist
  rw [if_pos on, key]
  rfl

theorem sendConsist_none {p : Bytes} (on : consistOn s = true) (key : sendKey s consist = none) : sendConsist type consist member p s = s := by
  unfold sendConsist
  rw [if_pos on, key]

theorem seqUsed_kept {key : Nat} (hs : s.regsWf = true) : SendKept s (seqUsed key s) ∧ (seqUsed key s).cst.seqNext = s.cst.seqNext + 1 ∧
    (seqUsed key s).cst.seqEnd = s.cst.seqEnd ∧ (seqUsed key s).out = s.out := by
  refine ⟨⟨put_within (cst_within .refl (by decide)) (by decide), fun g far => ?_, s.cst.seqNext + 1, s.cst.seqEnd, s.cst.seqMark, rfl⟩, rfl, rfl, rfl⟩
  exact (State.get_put_of_apart far (s := modCst (fun c => { c with seqNext := c.seqNext + 1 }) s) hs).trans (State.get_of_regs rfl g)

/-- One datagram leaves under the newest key. -/
theorem sendConsist_sent {p : Bytes} (on : consistOn s = true) (key : sendKey s consist = some k) (hs : s.regsWf = true) (u : State)
    (hu : u = sendConsist type consist member p s) : SendKept s u ∧ u.out = s.out ++ datagramsFrom s k type consist member (sendSeq s) [p] ∧
      u.cst.seqNext = sendSeq s + 1 ∧ u.cst.seqEnd = (seqReady s).cst.seqEnd := by
  obtain ⟨only, next, -, ⟨n, e, m, cst⟩⟩ := seqReady_result s
  rw [sendConsist_some on key] at hu
  have ready : SendKept s (seqReady s) := ⟨only ▸ cst_within .refl (by decide), fun g _ => by rw [only]; rfl, n, e, m, cst⟩
  have quiet_ : (seqReady s).out = s.out := by rw [only]
  generalize seqReady s = r at *
  obtain ⟨used, nextU, endU, outU⟩ := seqUsed_kept (key := k.keyId) (ready.within_.wf hs)
  generalize seqUsed k.keyId r = v at *
  have all := ready.trans used
  have told := datagramsFrom_of (k := k) (type := type) (consist := consist) (member := member) (s := v) (b := s) (fun g at_ => all.get g (by
    refine apart_of_addr (by decide) fun same => ?_
    rw [← same] at at_
    exact absurd at_ (by decide))) [p] (sendSeq s)
  have out : u.out = v.out ++ datagramsFrom v k type consist member r.cst.seqNext [p] := by rw [hu]; rfl
  have cstU : u.cst = v.cst := by rw [hu]; rfl
  have left : SendKept v u := hu ▸ ⟨out_within .refl (by decide), fun _ _ => rfl, v.cst.seqNext, v.cst.seqEnd, v.cst.seqMark, rfl⟩
  refine ⟨all.trans left, ?_, ?_, by rw [cstU, endU]⟩
  · rw [out, outU, quiet_, next, told]
  · rw [cstU, nextU, next]

/-- Datagrams with these payloads, one after another. -/
def sendRun (type consist member : Nat) (l : List Bytes) (s : State) : State := foldOver (fun s p => sendConsist type consist member p s) s l

theorem sendRun_none (on : consistOn s = true) (key : sendKey s consist = none) : ∀ l, sendRun type consist member l s = s
  | [] => rfl
  | p :: l => by
    rw [sendRun, foldOver_cons, sendConsist_none on key]
    exact sendRun_none on key l

theorem sendKey_of (keys : s.cst.keys = b.cst.keys) : sendKey s consist = sendKey b consist := by rw [sendKey, sendKey, keys]

theorem SendKept.keys (h : SendKept b s) : sendKey s consist = sendKey b consist := by
  obtain ⟨_, _, _, cst⟩ := h.cst
  exact sendKey_of (by rw [cst])

theorem sendRun_some : ∀ (l : List Bytes) (s : State), consistOn s = true → sendKey s consist = some k → s.regsWf = true → seqRoom s l.length →
    SendKept s (sendRun type consist member l s) ∧
    (sendRun type consist member l s).out = s.out ++ datagramsFrom s k type consist member (sendSeq s) l ∧
    (sendRun type consist member l s).cst.seqNext = if l.isEmpty then s.cst.seqNext else sendSeq s + l.length
  | [], s, _, _, _, _ => ⟨.refl, (List.append_nil _).symm, rfl⟩
  | p :: l, s, on, key, hs, room => by
    obtain ⟨kept, out, next, end_⟩ := sendConsist_sent (type := type) (member := member) (p := p) on key hs _ rfl
    have fits := seqReady_room room
    rw [sendRun, foldOver_cons]
    show SendKept s (sendRun type consist member l (sendConsist type consist member p s)) ∧ _
    generalize sendConsist type consist member p s = v at *
    have roomV : seqRoom v l.length := .inl (by rw [next, end_]; exact fits)
    obtain ⟨rest, outR, nextR⟩ := sendRun_some l v (kept.on.trans on) (kept.keys.trans key) (kept.within_.wf hs) roomV
    have told := datagramsFrom_of (k := k) (type := type) (consist := consist) (member := member) (s := v) (b := s) (fun g at_ => kept.get g (by
      refine apart_of_addr (by decide) fun same => ?_
      rw [← same] at at_
      exact absurd at_ (by decide))) l
    cases l with
    | nil => exact ⟨kept.trans rest, outR.trans (by rw [out, datagramsFrom, List.append_nil]), nextR.trans next⟩
    | cons q l =>
      have ready : sendSeq v = sendSeq s + 1 := by
        rw [sendSeq, if_pos (by rw [next, end_]; rw [List.length_cons] at fits; omega), next]
      refine ⟨kept.trans rest, ?_, ?_⟩
      · show (sendRun type consist member (q :: l) v).out = _
        rw [outR, out, told, ready, List.append_assoc]
        rfl
      · show (sendRun type consist member (q :: l) v).cst.seqNext = _
        rw [nextR, ready]
        simp only [List.isEmpty_cons, Bool.false_eq_true, if_false, List.length_cons]
        omega

/-- A run of datagrams, seen from the state whose keys and sequence it uses. -/
theorem sendRun_result {l : List Bytes} (as : SendsAs b s) (silent : s.out = []) (on : consistOn s = true) (hs : s.regsWf = true)
    (room : seqRoom b l.length) (u : State) (hu : u = sendRun type consist member l s) : SendKept s u ∧ Sent type consist member l b u := by
  have key : sendKey s consist = sendKey b consist := sendKey_of as.keys
  have seq : sendSeq s = sendSeq b := by rw [sendSeq, sendSeq, as.next, as.end_, as.mark]
  unfold Sent
  cases hk : sendKey b consist with
  | none =>
    rw [sendRun_none on (key.trans hk)] at hu
    rw [hu]
    exact ⟨.refl, silent, as.next⟩
  | some k =>
    have roomS : seqRoom s l.length := by rwa [seqRoom, as.next, as.end_]
    obtain ⟨kept, out, next⟩ := sendRun_some (type := type) (member := member) l s on (key.trans hk) hs roomS
    rw [← hu] at kept out next
    exact ⟨kept, by rw [out, silent, seq, datagramsFrom_of as.get]; rfl, by rw [next, seq, as.next]⟩

theorem SendsAs.of_regs (regs : s.regs = b.regs) (keys : s.cst.keys = b.cst.keys) (next : s.cst.seqNext = b.cst.seqNext)
    (end_ : s.cst.seqEnd = b.cst.seqEnd) (mark : s.cst.seqMark = b.cst.seqMark) : SendsAs b s :=
  ⟨keys, next, end_, mark, fun g _ => State.get_of_regs regs g⟩

theorem SendsAs.refl : SendsAs b b := ⟨rfl, rfl, rfl, rfl, fun _ _ => rfl⟩

theorem seqRoom_one (s : State) : seqRoom s 1 := by
  unfold seqRoom
  omega

/-- One datagram, seen so. -/
theorem sendConsist_result {p : Bytes} (as : SendsAs b s) (silent : s.out = []) (on : consistOn s = true) (hs : s.regsWf = true) (u : State)
    (hu : u = sendConsist type consist member p s) : SendKept s u ∧ Sent type consist member [p] b u :=
  sendRun_result (l := [p]) as silent on hs (seqRoom_one b) u hu

/-- Payloads computed on the way are those computed at the start. -/
theorem sendOver_eq {α : Type} {payload : State → α → Bytes} {run : State → α → State}
    (same : ∀ v, SendKept s v → ∀ a, payload v a = payload s a) (runs : ∀ v, SendKept s v → ∀ a, run v a = sendConsist type consist member (payload v a) v)
    (hs : s.regsWf = true) (on : consistOn s = true) : ∀ (l : List α) (v : State), SendKept s v →
    foldOver run v l = sendRun type consist member (l.map (payload s)) v
  | [], _, _ => rfl
  | a :: l, v, kept => by
    rw [foldOver_cons, runs v kept, same v kept]
    have next : SendKept s (sendConsist type consist member (payload s a) v) := by
      cases hk : sendKey v consist with
      | none => rwa [sendConsist_none (kept.on.trans on) hk]
      | some k => exact kept.trans (sendConsist_sent (kept.on.trans on) hk (kept.within_.wf hs) _ rfl).1
    rw [sendOver_eq same runs hs on l _ next]
    rfl

/-! ### Heartbeats -/

/-- The second of the last heartbeat, noted. -/
def beatNoted (beat : Nat) (s : State) : State := modCst (fun c => { c with beatAt := some beat }) s

theorem heartbeatSend_due (on : consistOn b = true) (state : cstState b = cstMember) (due_ : ownMember b * 20 * ms ≤ deviceTime b)
    (new : b.cst.beatAt ≠ some ((deviceTime b - ownMember b * 20 * ms) / sec)) (v : State)
    (hv : v = beatNoted ((deviceTime b - ownMember b * 20 * ms) / sec) b) : heartbeatSend b =
    if (deviceTime b - ownMember b * 20 * ms) % sec > 100 * ms then v.bump F.CST_CNT_SKIPPED 1
    else sendConsist 0x01 (consistId v) (ownMember v) (heartbeatPayload v
      (b2n (decide (0 < if v.flag F.YLD_CFG_EN then
          cutWidth v (toBits 32 (lineValue v (v.get F.YLD_SECT_SECT_ENTRY) (v.get F.YLD_SECT_SECT_WORD))) v.fn.headland else 0)) +
        2 * b2n (Config.unloading v.drawn) + 4 * b2n (engaged v) + 8 * v.get F.CST_CFG_RELAY_TX + 16 * v.get F.CST_RDV_AVAILABLE) (tankFill v)
      (if v.flag F.YLD_CFG_EN then
          cutWidth v (toBits 32 (lineValue v (v.get F.YLD_SECT_SECT_ENTRY) (v.get F.YLD_SECT_SECT_WORD))) v.fn.headland else 0))
      { v with drawn := v.drawn + 1 } := by
  subst hv
  have runs : ¬((!consistOn b || decide (cstState b ≠ cstMember) || decide (deviceTime b < ownMember b * 20 * ms) ||
      decide (b.cst.beatAt = some ((deviceTime b - ownMember b * 20 * ms) / sec))) = true) := by
    rw [on, decide_eq_false (not_not.mpr state), decide_eq_false (Nat.not_lt.mpr due_), decide_eq_false new]
    decide
  unfold heartbeatSend
  exact if_neg runs

theorem heartbeatSend_idle (idle : consistOn b = false ∨ cstState b ≠ cstMember ∨ deviceTime b < ownMember b * 20 * ms ∨
      b.cst.beatAt = some ((deviceTime b - ownMember b * 20 * ms) / sec)) : heartbeatSend b = b := by
  unfold heartbeatSend
  refine if_pos ?_
  obtain off | out | early | sent := idle
  · rw [off]; rfl
  · rw [decide_eq_true out, Bool.or_true]; rfl
  · rw [decide_eq_true early, Bool.or_true]; rfl
  · rw [decide_eq_true sent, Bool.or_true]

theorem heartbeatSend_sent {w st : Nat} (hs : b.regsWf = true) (silent : b.out = []) (on : consistOn b = true) (state : cstState b = cstMember)
    (due_ : ownMember b * 20 * ms ≤ deviceTime b) (new : b.cst.beatAt ≠ some ((deviceTime b - ownMember b * 20 * ms) / sec))
    (soon : (deviceTime b - ownMember b * 20 * ms) % sec ≤ 100 * ms)
    (hw : w = if b.flag F.YLD_CFG_EN then
      cutWidth b (toBits 32 (lineValue b (b.get F.YLD_SECT_SECT_ENTRY) (b.get F.YLD_SECT_SECT_WORD))) b.fn.headland else 0)
    (hst : st = b2n (decide (0 < w)) + 2 * b2n (Config.unloading b.drawn) + 4 * b2n (engaged b) + 8 * b.get F.CST_CFG_RELAY_TX +
      16 * b.get F.CST_RDV_AVAILABLE) (u : State) (hu : u = heartbeatSend b) :
    Sent 1 (consistId b) (ownMember b) [heartbeatPayload b st (tankFill b) w] b u ∧ u.drawn = b.drawn + 1 ∧
      u.cst.beatAt = some ((deviceTime b - ownMember b * 20 * ms) / sec) ∧ u.cst.members = b.cst.members := by
  obtain ⟨n, hn⟩ : ∃ n, n = (deviceTime b - ownMember b * 20 * ms) / sec := ⟨_, rfl⟩
  have ran := heartbeatSend_due on state due_ new (beatNoted n b) (by rw [hn])
  rw [if_neg (Nat.not_lt.mpr soon)] at ran
  have ranB : heartbeatSend b = sendConsist 0x01 (consistId b) (ownMember b) (heartbeatPayload b st (tankFill b) w)
      { beatNoted n b with drawn := b.drawn + 1 } := by
    rw [ran, hst, hw]
    rfl
  obtain ⟨kept, sent⟩ := sendConsist_result (b := b) (s := { beatNoted n b with drawn := b.drawn + 1 }) (.of_regs rfl rfl rfl rfl rfl) silent on hs u
    (hu.trans ranB)
  obtain ⟨_, _, _, cst⟩ := kept.cst
  exact ⟨sent, kept.within_.part .drawn (by decide), by rw [cst, ← hn]; rfl, by rw [cst]; rfl⟩

theorem heartbeatSend_skipped (hs : b.regsWf = true) (silent : b.out = []) (on : consistOn b = true) (state : cstState b = cstMember)
    (due_ : ownMember b * 20 * ms ≤ deviceTime b) (new : b.cst.beatAt ≠ some ((deviceTime b - ownMember b * 20 * ms) / sec))
    (late : 100 * ms < (deviceTime b - ownMember b * 20 * ms) % sec) (u : State) (hu : u = heartbeatSend b) :
    u.out = [] ∧ u.get F.CST_CNT_SKIPPED = satN 8 (b.get F.CST_CNT_SKIPPED + 1) ∧ FieldsKept [F.CST_CNT_SKIPPED] b u ∧
      u.cst = { b.cst with beatAt := some ((deviceTime b - ownMember b * 20 * ms) / sec) } := by
  have ran := heartbeatSend_due on state due_ new _ rfl
  rw [if_pos late] at ran
  rw [hu, ran]
  exact ⟨silent, State.get_put_of_lt (by decide) (satN_lt 8 _) hs,
    FieldsKept.trans (fieldsKept_of_regs (s := b) rfl []) (fieldsKept_put (s := beatNoted _ b) (by decide) hs _), rfl⟩

/-! ### Coverage -/

/-- What a coverage takes leaves for the next one. -/
def coverageTaken (b : State) : ConsistPart :=
  { b.cst with
    coverAt := some b.now
    rows := ((b.cst.rows ++ ((b.cst.again.filter (fun a => decide (a.1 ≤ b.now))).map Prod.snd).filter (fun r => !b.cst.rows.contains r)).drop 792).filter
      (fun r => b.cst.rows.contains r)
    again := b.cst.again.filter (fun a => !decide (a.1 ≤ b.now)) ++
      (((coverageRows b).filter (fun r => b.cst.rows.contains r)).map (fun r => (b.now + 5 * sec, r)) ++
        (((b.cst.rows ++ ((b.cst.again.filter (fun a => decide (a.1 ≤ b.now))).map Prod.snd).filter (fun r => !b.cst.rows.contains r)).drop 792).filter
          (fun r => !b.cst.rows.contains r)).map (fun r => (b.now, r))) }

/-- One coverage datagram. -/
def coverageOne (f : Field) (s : State) (l : List (Int × Int × Nat)) : State :=
  sendConsist 0x02 (consistId s) (ownMember s) (coveragePayload s f l) s

/-- Less than a second has passed since the last coverage. -/
def coverWaits (b : State) : Bool :=
  match b.cst.coverAt with
  | none => false
  | some t => decide (b.now < t + sec)

/-- The state in which the datagrams of a coverage leave. -/
def coverageBegun (b : State) : State := { b with cst := coverageTaken b }

theorem coverWaits_false (waited : b.cst.coverAt.all (fun t0 => decide (t0 + sec ≤ b.now)) = true) : coverWaits b = false := by
  unfold coverWaits
  cases hc : b.cst.coverAt with
  | none => rfl
  | some t =>
    rw [hc, Option.all_some, decide_eq_true_eq] at waited
    dsimp only
    rw [decide_eq_false_iff_not]
    exact Nat.not_lt.mpr waited

theorem coverWaits_true (early : b.cst.coverAt.any (fun t0 => decide (b.now < t0 + sec)) = true) : coverWaits b = true := by
  unfold coverWaits
  cases hc : b.cst.coverAt with
  | none => rw [hc] at early; cases early
  | some t =>
    rw [hc, Option.any_some] at early
    exact early

theorem coverageSend_eq (b : State) : coverageSend b =
    match (if consistOn b && cstState b == cstMember && !coverWaits b then b.yld.openId.bind (findField b) else none) with
    | none => b
    | some f => foldOver (coverageOne f) (coverageBegun b) (chunks 99 8 (coverageRows b)) := by
  unfold coverageSend coverWaits
  rfl

theorem coverageSend_due {f : Field} (on : consistOn b = true) (state : cstState b = cstMember)
    (waited : b.cst.coverAt.all (fun t0 => decide (t0 + sec ≤ b.now)) = true) (open_ : b.yld.openId.bind (findField b) = some f) :
    coverageSend b = foldOver (coverageOne f) (coverageBegun b) (chunks 99 8 (coverageRows b)) := by
  rw [coverageSend_eq, coverWaits_false waited, on, beq_iff_eq.mpr state, open_]
  rfl

theorem coverageSend_idle (idle : consistOn b = false ∨ cstState b ≠ cstMember ∨ b.yld.openId.bind (findField b) = none ∨
      b.cst.coverAt.any (fun t0 => decide (b.now < t0 + sec)) = true) : coverageSend b = b := by
  rw [coverageSend_eq]
  obtain off | out | closed | early := idle
  · rw [off]; rfl
  · rw [beq_eq_false_iff_ne.mpr out, Bool.and_false, Bool.false_and]; rfl
  · rw [closed, ite_self]
  · rw [coverWaits_true early, Bool.not_true, Bool.and_false]; rfl

theorem coverage_rows_rest {α : Type} [BEq α] [LawfulBEq α] (fresh due_ : List α) (n : Nat) :
    ((fresh ++ due_.filter (fun r => !fresh.contains r)).drop n).filter (fun r => fresh.contains r) = fresh.drop n := by
  rw [List.drop_append, List.filter_append, List.filter_eq_self.mpr fun r hr => List.contains_iff_mem.mpr (List.mem_of_mem_drop hr),
    List.filter_eq_nil_iff.mpr, List.append_nil]
  intro r hr
  have kept := (List.mem_filter.mp (List.mem_of_mem_drop hr)).2
  rw [Bool.not_eq_true'] at kept
  rw [kept]
  decide

theorem chunks_length_le {α : Type} (n : Nat) : ∀ (fuel : Nat) (l : List α), (chunks n fuel l).length ≤ fuel
  | 0, _ => Nat.le_refl 0
  | fuel + 1, l => by
    unfold chunks
    split
    · exact Nat.zero_le _
    · exact Nat.succ_le_succ (chunks_length_le n fuel _)

theorem seqRoom.mono {m n : Nat} (room : seqRoom s n) (le : m ≤ n) : seqRoom s m := by
  obtain room | ⟨used, room⟩ := room
  · exact .inl (by omega)
  · exact .inr ⟨used, by omega⟩

theorem coveragePayload_of (yld : s.yld = b.yld) (f : Field) (l : List (Int × Int × Nat)) : coveragePayload s f l = coveragePayload b f l := by
  have row : rowEntry s = rowEntry b := by
    funext r
    rw [rowEntry, rowEntry, yld]
  rw [coveragePayload, coveragePayload, row]

theorem coverageSend_sent {f : Field} (hs : b.regsWf = true) (silent : b.out = []) (on : consistOn b = true) (state : cstState b = cstMember)
    (waited : b.cst.coverAt.all (fun t0 => decide (t0 + sec ≤ b.now)) = true) (open_ : b.yld.openId.bind (findField b) = some f) (room : seqRoom b 8)
    (u : State) (hu : u = coverageSend b) :
    Sent 2 (consistId b) (ownMember b) ((chunks 99 8 (coverageRows b)).map (coveragePayload b f)) b u ∧
      u.cst.rows = b.cst.rows.drop 792 ∧ u.cst.coverAt = some b.now ∧ u.yld = b.yld ∧
      (∀ r ∈ b.cst.rows.take 792, (b.now + 5 * sec, r) ∈ u.cst.again) ∧ ∀ a ∈ b.cst.again, b.now < a.1 → a ∈ u.cst.again := by
  rw [coverageSend_due on state waited open_] at hu
  obtain ⟨s, hv⟩ : ∃ s : State, s = coverageBegun b := ⟨_, rfl⟩
  have as : SendsAs b s := hv ▸ .of_regs rfl rfl rfl rfl rfl
  have cstS : s.cst = coverageTaken b := by rw [hv]; rfl
  have yldS : s.yld = b.yld := by rw [hv]; rfl
  have outS : s.out = [] := by rw [hv]; exact silent
  have onS : consistOn s = true := by rw [hv]; exact on
  have wfS : s.regsWf = true := by rw [hv]; exact hs
  have idS : consistId s = consistId b := by rw [hv]; rfl
  have ownS : ownMember s = ownMember b := by rw [hv]; rfl
  rw [← hv] at hu
  have few : ((chunks 99 8 (coverageRows b)).map (coveragePayload b f)).length ≤ 8 := by
    rw [List.length_map]
    exact chunks_length_le _ _ _
  have whole := sendOver_eq (type := 0x02) (consist := consistId b) (member := ownMember b) (s := s) (payload := fun v l => coveragePayload v f l)
    (run := coverageOne f) (fun v kept l => coveragePayload_of (kept.within_.part .yld (by decide)) f l)
    (fun v kept l => by rw [coverageOne, kept.named, kept.own, idS, ownS]) wfS onS (chunks 99 8 (coverageRows b)) s .refl
  have same : coveragePayload s f = coveragePayload b f := funext (coveragePayload_of yldS f)
  rw [whole, show (fun l => coveragePayload s f l) = coveragePayload b f from same] at hu
  obtain ⟨kept, sent⟩ := sendRun_result as outS onS wfS (room.mono few) u hu
  obtain ⟨_, _, _, cst⟩ := kept.cst
  refine ⟨sent, ?_, by rw [cst, cstS]; rfl, Eq.trans (kept.within_.part .yld (by decide) : u.yld = s.yld) yldS, fun r hr => ?_, fun a ha later => ?_⟩
  · rw [cst, cstS]
    exact coverage_rows_rest _ _ _
  · rw [cst, cstS]
    refine List.mem_append_right _ (List.mem_append_left _ (List.mem_map.mpr ⟨r, List.mem_filter.mpr ⟨?_, ?_⟩, rfl⟩))
    · rw [coverageRows, List.take_append]
      exact List.mem_append_left _ hr
    · exact List.contains_iff_mem.mpr (List.mem_of_mem_take hr)
  · rw [cst, cstS]
    refine List.mem_append_left _ (List.mem_filter.mpr ⟨ha, ?_⟩)
    rw [decide_eq_false (Nat.not_le.mpr later)]
    rfl

/-! ### Leaving, and members that fall silent -/

theorem of_all_some {α : Type} {p : α → Prop} [DecidablePred p] {o : Option α} {a : α} (some_ : o = some a) (all : o.all (fun a => decide (p a)) = true) :
    p a := by
  rwa [some_, Option.all_some, decide_eq_true_eq] at all

theorem leaveRepeat_sent {id m at_ : Nat} (hs : b.regsWf = true) (silent : b.out = []) (on : consistOn b = true)
    (leaving : b.cst.leaving = some (id, m, at_)) (late : at_ ≤ b.now) (u : State) (hu : u = leaveRepeat b) :
    u.cst.leaving = none ∧ Sent 5 id m [leBytes 8 (machineId b)] b u := by
  have ran : leaveRepeat b = sendConsist 0x05 id m (leBytes 8 (machineId b)) (modCst (fun c => { c with leaving := none }) b) := by
    unfold leaveRepeat
    rw [if_pos on, leaving]
    exact if_neg (Nat.not_lt.mpr late)
  obtain ⟨kept, sent⟩ := sendConsist_result (b := b) (s := modCst (fun c => { c with leaving := none }) b) (.of_regs rfl rfl rfl rfl rfl) silent on hs u
    (hu.trans ran)
  obtain ⟨_, _, _, cst⟩ := kept.cst
  exact ⟨by rw [cst]; rfl, sent⟩

theorem leaveRepeat_idle (idle : consistOn b = false ∨ b.cst.leaving.all (fun e => decide (b.now < e.2.2)) = true) : leaveRepeat b = b := by
  unfold leaveRepeat
  obtain off | early := idle
  · rw [off]; rfl
  · cases hl : b.cst.leaving with
    | none => rw [ite_self]
    | some e =>
      have before_ := of_all_some hl early
      cases consistOn b
      · rfl
      · exact if_pos before_

/-- A member that has fallen silent, marked absent, and told of. -/
def memberAbsent (m : ConsistMember) (s : State) : State :=
  raise0 Src.CST_MEMBER_LOST (modCst (fun c => { c with members := putMember { m with absent := true } c.members }) s)

theorem memberAbsent_result {m : ConsistMember} (hs : s.regsWf = true) (u : State) (hu : u = memberAbsent m s) :
    u.cst = { s.cst with members := putMember { m with absent := true } s.cst.members } ∧ Flagged Src.CST_MEMBER_LOST u ∧ u.out = s.out ∧
      Within ⟨fun _ => false, [.cst]⟩ s u ∧ ∀ g, quiet Src.CST_MEMBER_LOST g = true → u.get g = s.get g := by
  obtain ⟨v, hv⟩ : ∃ v, v = modCst (fun c => { c with members := putMember { m with absent := true } c.members }) s := ⟨_, rfl⟩
  have cst : v.cst = { s.cst with members := putMember { m with absent := true } s.cst.members } := by rw [hv]; rfl
  have out : v.out = s.out := by rw [hv]; rfl
  have within_ : Within ⟨fun _ => false, [.cst]⟩ s v := hv ▸ cst_within .refl (by decide)
  have regs : v.regs = s.regs := by rw [hv]; rfl
  have ran : u = raise0 Src.CST_MEMBER_LOST v := by rw [hu, hv]; rfl
  have wf := within_.wf hs
  refine ⟨?_, ran ▸ flagged_raiseArg (by decide) wf, ?_, ran ▸ raise0_within within_, fun g calm => ?_⟩
  · rw [ran, ← cst]
    simp [raise0]
  · rw [ran, ← out]
    simp [raise0]
  · rw [ran]
    exact (get_raiseArg calm wf).trans (State.get_of_regs regs g)

theorem memberLost_due {n : Nat} {m : ConsistMember} (on : consistOn b = true) (found : b.cst.members.find? (fun x => x.num == n && !x.absent) = some m)
    (late : m.at_ + 5 * sec ≤ b.now) : memberLost n b = partnerGone n (memberAbsent m b) := by
  unfold memberLost
  rw [if_pos on, found]
  exact if_neg (Nat.not_lt.mpr late)

theorem memberLost_idle {n : Nat} (idle : consistOn b = false ∨
      (b.cst.members.find? (fun x => x.num == n && !x.absent)).all (fun m => decide (b.now < m.at_ + 5 * sec)) = true) : memberLost n b = b := by
  unfold memberLost
  obtain off | early := idle
  · rw [off]; rfl
  · cases hf : b.cst.members.find? (fun x => x.num == n && !x.absent) with
    | none => rw [ite_self]
    | some m =>
      have before_ := of_all_some hf early
      cases consistOn b
      · rfl
      · exact if_pos before_

theorem mem_memberRemove {n : Nat} (on : consistOn b = true) : memberRemove n b = { b with cst := { b.cst with members := (memberRemove n b).cst.members } } ∧
    ∀ m, m ∈ (memberRemove n b).cst.members ↔ m ∈ b.cst.members ∧ (m.num ≠ n ∨ b.now < m.at_ + 60 * sec) := by
  have ran : memberRemove n b = modCst (fun c => { c with members := c.members.filter (fun m => !(m.num == n && decide (m.at_ + 60 * sec ≤ b.now))) }) b := by
    unfold memberRemove
    rw [on]
    rfl
  rw [ran]
  refine ⟨rfl, fun m => ?_⟩
  show m ∈ b.cst.members.filter _ ↔ _
  rw [List.mem_filter, Bool.not_eq_true', Bool.and_eq_false_iff, beq_eq_false_iff_ne, decide_eq_false_iff_not, Nat.not_le]

/-! ### Listening that ends -/

/-- The lowest number not heard, taken. -/
def numberTaken (n key : Nat) (beat : Option Nat) (s : State) : State :=
  raise0 Src.CST_MEMBER_JOINED ((((modCst (fun c => { c with
    listenEnd := none
    heard := []
    beatAt := beat }) s).put F.CST_STATUS_STATE cstMember).put F.CST_STATUS_MEMBER n).put F.CST_STATUS_KEY_ID key)

theorem numberTaken_result {n key : Nat} {beat : Option Nat} (hn : n < 32) (hs : s.regsWf = true) (u : State) (hu : u = numberTaken n key beat s) :
    cstState u = cstMember ∧ ownMember u = n ∧ u.cst.listenEnd = none ∧ u.cst.members = s.cst.members ∧ Flagged Src.CST_MEMBER_JOINED u ∧ u.out = s.out ∧
      u.pk.waiting = s.pk.waiting ∧ u.line = s.line := by
  unfold numberTaken at hu
  obtain ⟨v, hv⟩ : ∃ v, v = modCst (fun c => { c with
    listenEnd := none
    heard := []
    beatAt := beat }) s := ⟨_, rfl⟩
  have same : v.cst.listenEnd = none ∧ v.cst.members = s.cst.members ∧ v.out = s.out ∧ v.pk = s.pk ∧ v.line = s.line ∧ v.regsWf = true := by
    rw [hv]
    exact ⟨rfl, rfl, rfl, rfl, rfl, hs⟩
  rw [← hv] at hu
  obtain ⟨listens, members, out, pk, line, wf⟩ := same
  have small : n < 2 ^ F.CST_STATUS_MEMBER.width := Nat.lt_of_lt_of_le hn (by decide)
  have wf1 := State.regsWf_put v F.CST_STATUS_STATE cstMember wf
  have wf2 := State.regsWf_put _ F.CST_STATUS_MEMBER n wf1
  have wf3 := State.regsWf_put _ F.CST_STATUS_KEY_ID key wf2
  have state : (((v.put F.CST_STATUS_STATE cstMember).put F.CST_STATUS_MEMBER n).put F.CST_STATUS_KEY_ID key).get F.CST_STATUS_STATE = cstMember :=
    (State.get_put_of_apart (by decide) wf2).trans ((State.get_put_of_apart (by decide) wf1).trans (State.get_put_of_lt (by decide) (by decide) wf))
  have own : (((v.put F.CST_STATUS_STATE cstMember).put F.CST_STATUS_MEMBER n).put F.CST_STATUS_KEY_ID key).get F.CST_STATUS_MEMBER = n :=
    (State.get_put_of_apart (by decide) wf2).trans (State.get_put_of_lt (by decide) small wf1)
  have cst : (((v.put F.CST_STATUS_STATE cstMember).put F.CST_STATUS_MEMBER n).put F.CST_STATUS_KEY_ID key).cst = v.cst := rfl
  have outR : (((v.put F.CST_STATUS_STATE cstMember).put F.CST_STATUS_MEMBER n).put F.CST_STATUS_KEY_ID key).out = v.out := rfl
  have pkR : (((v.put F.CST_STATUS_STATE cstMember).put F.CST_STATUS_MEMBER n).put F.CST_STATUS_KEY_ID key).pk = v.pk := rfl
  have lineR : (((v.put F.CST_STATUS_STATE cstMember).put F.CST_STATUS_MEMBER n).put F.CST_STATUS_KEY_ID key).line = v.line := rfl
  generalize ((v.put F.CST_STATUS_STATE cstMember).put F.CST_STATUS_MEMBER n).put F.CST_STATUS_KEY_ID key = r at *
  have keep (g : Fld) (calm : quiet Src.CST_MEMBER_JOINED g = true) : u.get g = r.get g := hu ▸ get_raiseArg calm wf3
  have cstU : u.cst = r.cst := by rw [hu]; simp [raise0]
  refine ⟨(keep _ (by decide)).trans state, (keep _ (by decide)).trans own, by rw [cstU, cst, listens], by rw [cstU, cst, members],
    hu ▸ flagged_raiseArg (by decide) wf3, ?_, ?_, ?_⟩
  · rw [hu, show (raise0 Src.CST_MEMBER_JOINED r).out = r.out from by simp [raise0], outR, out]
  · rw [hu, show (raise0 Src.CST_MEMBER_JOINED r).pk.waiting = r.pk.waiting from by simp [raise0], pkR, pk]
  · rw [hu, show (raise0 Src.CST_MEMBER_JOINED r).line = r.line from by simp [raise0], lineR, line]

theorem lowest_free {heard : List Nat} {n : Nat} (hn : n < 32) (free : heard.contains n = false) (taken : ∀ k, k < n → heard.contains k = true) :
    (upFrom 0 32).find? (fun n => !heard.contains n) = some n := by
  rw [upFrom_eq_range', List.find?_range'_eq_some]
  refine ⟨by rw [free]; rfl, List.mem_range'_1.mpr ⟨Nat.zero_le n, by omega⟩, fun j _ hj => ?_⟩
  rw [taken j hj]
  rfl

theorem listenOver_number {at_ n : Nat} (listens : b.cst.listenEnd = some at_) (late : at_ ≤ b.now)
    (lowest : (upFrom 0 32).find? (fun n => !b.cst.heard.contains n) = some n) : ∃ key beat, listenOver b = some (numberTaken n key beat b, some n) := by
  unfold listenOver
  rw [listens]
  dsimp only
  rw [if_neg (Nat.not_lt.mpr late), lowest]
  exact ⟨_, _, rfl⟩

theorem listenOver_full {at_ : Nat} (listens : b.cst.listenEnd = some at_) (late : at_ ≤ b.now)
    (full : (upFrom 0 32).all (fun k => b.cst.heard.contains k) = true) : listenOver b = some (leaveTable b, none) := by
  have none_ : (upFrom 0 32).find? (fun n => !b.cst.heard.contains n) = none := List.find?_eq_none.mpr fun k hk => by
    rw [List.all_eq_true.mp full k hk]
    decide
  unfold listenOver
  rw [listens]
  dsimp only
  rw [if_neg (Nat.not_lt.mpr late), none_]

/-- What a waiting request to join is told. -/
def waiterTold (r : Option Nat) (s : State) (w : Waiting) : State :=
  match r with
  | some n => completeWaiting w (joinNum s) St.ok 0 (leBytes 1 n) s
  | none => completeWaiting w (joinNum s) St.consistFull 0 [] s

theorem joinListenEnd_over {v : State} {r : Option Nat} (on : consistOn b = true) (over_ : listenOver b = some (v, r)) : joinListenEnd b =
    foldOver (waiterTold r) v (v.pk.waiting.filter (fun w => w.job == Job.listen)) := by
  unfold joinListenEnd
  rw [if_pos on, over_]
  cases r with
  | none => rfl
  | some n => rfl

theorem joinListenEnd_idle (idle : consistOn b = false ∨ b.cst.listenEnd.all (fun e => decide (b.now < e)) = true) : joinListenEnd b = b := by
  have none_ : (if consistOn b then listenOver b else none) = none := by
    obtain off | early := idle
    · rw [off]; rfl
    · have waits : listenOver b = none := by
        unfold listenOver
        cases hl : b.cst.listenEnd with
        | none => rfl
        | some e => exact if_pos (of_all_some hl early)
      rw [waits, ite_self]
  unfold joinListenEnd
  rw [none_]

theorem listeners_only {w : Waiting} (waits : s.pk.waiting = [w]) (job : w.job = .listen) : s.pk.waiting.filter (fun w => w.job == Job.listen) = [w] := by
  rw [waits, List.filter_cons_of_pos (by rw [job]; rfl)]
  rfl

theorem leaveTable_parts (s : State) : (leaveTable s).cst.listenEnd = none ∧ (leaveTable s).out = s.out ∧ (leaveTable s).pk = s.pk ∧
    (leaveTable s).line = s.line := ⟨rfl, rfl, rfl, rfl⟩

theorem reliefPresent_of_line (line : u.line = s.line) : reliefPresent u = reliefPresent s := by rw [reliefPresent, reliefPresent, line]

/-! ### Rendezvous -/

theorem sendRdv_eq {id kind target side reason eta : Nat} (state : cstState s = cstMember) : sendRdv id kind target side reason eta s =
    sendConsist 0x03 (consistId s) (ownMember s) (rdvPayload s id kind target side reason eta) s := if_neg (not_not.mpr state)

/-- A rendezvous datagram that leaves while the rendezvous is noted. -/
theorem sendRdv_noted {id kind target side reason eta : Nat} {f : ConsistPart → ConsistPart} (keys : (f b.cst).keys = b.cst.keys)
    (next : (f b.cst).seqNext = b.cst.seqNext) (end_ : (f b.cst).seqEnd = b.cst.seqEnd) (mark : (f b.cst).seqMark = b.cst.seqMark)
    (hs : b.regsWf = true) (silent : b.out = []) (on : consistOn b = true) (state : cstState b = cstMember) (u : State)
    (hu : u = sendRdv id kind target side reason eta (modCst f b)) :
    SendKept (modCst f b) u ∧ Sent 3 (consistId b) (ownMember b) [rdvPayload b id kind target side reason eta] b u := by
  have state' : cstState (modCst f b) = cstMember := state
  rw [sendRdv_eq state'] at hu
  exact sendConsist_result (b := b) (s := modCst f b) (.of_regs rfl keys next end_ mark) silent on hs u hu

theorem requestSend_sent {r : Rdv} (hs : b.regsWf = true) (silent : b.out = []) (on : consistOn b = true) (state : cstState b = cstMember)
    (rdv : b.cst.rdv = some r) (asks : b.get F.CST_RDV_RDV_STATE = 1) (late : r.sentAt + sec ≤ b.now) (u : State) (hu : u = requestSend b) :
    u.cst.rdv = some { r with sentAt := b.now } ∧ Sent 3 (consistId b) (ownMember b) [rdvPayload b r.id 1 r.target r.side 0 0] b u := by
  have ran : requestSend b = sendRdv r.id 1 r.target r.side 0 0 (modRdv (fun r => { r with sentAt := b.now }) b) := by
    unfold requestSend
    rw [if_pos on, rdv]
    exact if_pos ⟨state, asks, late⟩
  obtain ⟨kept, sent⟩ := sendRdv_noted (f := fun c => { c with rdv := c.rdv.map fun r => { r with sentAt := b.now } }) rfl rfl rfl rfl hs silent on state u
    (hu.trans ran)
  obtain ⟨_, _, _, cst⟩ := kept.cst
  have noted : u.cst.rdv = b.cst.rdv.map fun r => { r with sentAt := b.now } := by rw [cst]; rfl
  exact ⟨by rw [noted, rdv]; rfl, sent⟩

theorem requestSend_idle (idle : consistOn b = false ∨ cstState b ≠ cstMember ∨ b.get F.CST_RDV_RDV_STATE ≠ 1 ∨
      b.cst.rdv.all (fun r => decide (b.now < r.sentAt + sec)) = true) : requestSend b = b := by
  unfold requestSend
  cases hr : b.cst.rdv with
  | none => rw [ite_self]
  | some r =>
    cases on : consistOn b with
    | false => rfl
    | true =>
      refine if_neg fun ⟨state, asks, late⟩ => ?_
      obtain off | out | other | early := idle
      · rw [on] at off; cases off
      · exact out state
      · exact other asks
      · exact Nat.not_lt.mpr late (of_all_some (p := fun r : Rdv => b.now < r.sentAt + sec) hr early)

theorem trackSend_sent {r : Rdv} {t0 : Nat} (hs : b.regsWf = true) (silent : b.out = []) (on : consistOn b = true) (state : cstState b = cstMember)
    (rdv : b.cst.rdv = some r) (tracks : b.get F.CST_RDV_RDV_STATE = 2) (whole : onMultiple b (100 * ms) = some t0) (new : r.trackSent ≠ t0)
    (u : State) (hu : u = trackSend b) :
    u.cst.rdv = some { r with trackSent := t0 } ∧ Sent 3 (consistId b) (ownMember b) [rdvPayload b r.id 5 r.target r.side 0 0] b u := by
  have ran : trackSend b = sendRdv r.id 5 r.target r.side 0 0 (modRdv (fun r => { r with trackSent := t0 }) b) := by
    unfold trackSend
    rw [if_pos on, rdv, whole]
    exact if_pos ⟨state, tracks, new⟩
  obtain ⟨kept, sent⟩ := sendRdv_noted (f := fun c => { c with rdv := c.rdv.map fun r => { r with trackSent := t0 } }) rfl rfl rfl rfl hs silent on state u
    (hu.trans ran)
  obtain ⟨_, _, _, cst⟩ := kept.cst
  have noted : u.cst.rdv = b.cst.rdv.map fun r => { r with trackSent := t0 } := by rw [cst]; rfl
  exact ⟨by rw [noted, rdv]; rfl, sent⟩

theorem trackSend_idle (idle : consistOn b = false ∨ cstState b ≠ cstMember ∨ b.get F.CST_RDV_RDV_STATE ≠ 2 ∨ onMultiple b (100 * ms) = none ∨
      b.cst.rdv.all (fun r => onMultiple b (100 * ms) == some r.trackSent) = true) : trackSend b = b := by
  unfold trackSend
  generalize onMultiple b (100 * ms) = whole at *
  cases hr : b.cst.rdv with
  | none => rw [ite_self]
  | some r =>
    cases on : consistOn b with
    | false => rfl
    | true =>
      cases whole with
      | none => rfl
      | some t =>
        refine if_neg fun ⟨state, tracks, new⟩ => ?_
        obtain off | out | other | none_ | sent := idle
        · rw [on] at off; cases off
        · exact out state
        · exact other tracks
        · cases none_
        · rw [hr, Option.all_some, beq_iff_eq] at sent
          exact new (Option.some.inj sent).symm

/-- A rendezvous that this side ends: its datagram leaves, and the rendezvous is over. -/
theorem endRdv_sent {r : Rdv} {reason : Nat} (own : reason ≠ 2) (small : reason < 256) (as : SendsAs b s) (idS : consistId s = consistId b)
    (ownS : ownMember s = ownMember b) (payload : rdvPayload s r.id 6 r.target r.side reason 0 = rdvPayload b r.id 6 r.target r.side reason 0)
    (silent : s.out = []) (on : consistOn s = true) (state : cstState s = cstMember) (rdv : s.cst.rdv = some r)
    (runs : s.get F.CST_RDV_RDV_STATE ≠ 0) (hs : s.regsWf = true) (u : State) (hu : u = endRdv reason s) :
    RdvOver reason u ∧ u.cst.members = s.cst.members ∧ Within ⟨fun a => a == Reg.CST_RDV || a == Reg.CST_STATUS, [.cst, .out]⟩ s u ∧
      Sent 3 (consistId b) (ownMember b) [rdvPayload b r.id 6 r.target r.side reason 0] b u := by
  unfold endRdv at hu
  rw [rdv] at hu
  dsimp only at hu
  rw [if_neg own, sendRdv_eq state, idS, ownS, payload] at hu
  obtain ⟨kept, sent⟩ := sendConsist_result as silent on hs _ rfl
  generalize sendConsist 0x03 (consistId b) (ownMember b) (rdvPayload b r.id 6 r.target r.side reason 0) s = v at *
  have was : v.get F.CST_RDV_RDV_STATE ≠ 0 := by rwa [kept.get _ (by decide)]
  obtain ⟨over_, cst, out, close⟩ := rdvClosed_result small was (kept.within_.wf hs) u hu
  obtain ⟨_, _, _, cstV⟩ := kept.cst
  have sub1 : sendFoot.Sub ⟨fun a => a == Reg.CST_RDV || a == Reg.CST_STATUS, [.cst, .out]⟩ :=
    ⟨fun _ ha => Bool.or_eq_true_iff.mpr (.inr ha), by decide⟩
  have sub2 : closeFoot.Sub ⟨fun a => a == Reg.CST_RDV || a == Reg.CST_STATUS, [.cst, .out]⟩ :=
    ⟨fun _ ha => Bool.or_eq_true_iff.mpr (.inl ha), by decide⟩
  refine ⟨over_, by rw [cst, cstV], (Within.grow .refl kept.within_ sub1).grow close sub2, ?_⟩
  unfold Sent at sent ⊢
  rw [out, cst]
  exact sent

theorem rdvPayload_of (nav : s.nav = b.nav)
    (get : ∀ g : Fld, g.addr ∈ [Reg.GNS_LAT_LO, Reg.GNS_LAT_HI, Reg.GNS_LON_LO, Reg.GNS_LON_HI, Reg.GNS_HDG, Reg.GNS_VEL, Reg.CST_SPOUT] →
      s.get g = b.get g) (id kind target side reason eta : Nat) :
    rdvPayload s id kind target side reason eta = rdvPayload b id kind target side reason eta := by
  unfold rdvPayload
  rw [nav, State.get64, State.get64, State.get64, State.get64, reg_eq_get, reg_eq_get, reg_eq_get, reg_eq_get, reg_eq_get b, reg_eq_get b, reg_eq_get b,
    reg_eq_get b, get ⟨Reg.GNS_LAT_LO, 0, 32⟩ (by decide), get ⟨Reg.GNS_LAT_HI, 0, 32⟩ (by decide), get ⟨Reg.GNS_LON_LO, 0, 32⟩ (by decide),
    get ⟨Reg.GNS_LON_HI, 0, 32⟩ (by decide), get F.GNS_HDG_HEADING (by decide), get F.GNS_VEL_SPEED (by decide), get F.CST_SPOUT_REF_X (by decide),
    get F.CST_SPOUT_REF_Y (by decide)]

theorem SendKept.payload (h : SendKept b s) (id kind target side reason eta : Nat) :
    rdvPayload s id kind target side reason eta = rdvPayload b id kind target side reason eta :=
  rdvPayload_of (h.within_.part .nav (by decide)) (fun g at_ => h.get g (by
    refine apart_of_addr (by decide) fun same => ?_
    rw [← same] at at_
    exact absurd at_ (by decide))) _ _ _ _ _ _

theorem offerTimeout_idle (idle : consistOn b = false ∨ b.get F.CST_RDV_RDV_STATE ≠ 1 ∨
      b.cst.rdv.all (fun r => decide (b.now < r.firstAt + 10 * sec) || !r.offers.isEmpty) = true) : offerTimeout b = b := by
  unfold offerTimeout
  cases hr : b.cst.rdv with
  | none => rw [ite_self]
  | some r =>
    cases on : consistOn b with
    | false => rfl
    | true =>
      refine if_neg fun ⟨asks, empty, late⟩ => ?_
      obtain off | other | waits := idle
      · rw [on] at off; cases off
      · exact other asks
      · rw [hr, Option.all_some, empty, Bool.not_true, Bool.or_false, decide_eq_true_eq] at waits
        exact Nat.not_lt.mpr late waits

theorem trackTimeout_idle (idle : consistOn b = false ∨ b.get F.CST_RDV_RDV_STATE ≠ 2 ∨
      b.cst.rdv.all (fun r => decide (b.now < r.trackAt + 3 * sec)) = true) : trackTimeout b = b := by
  unfold trackTimeout
  cases hr : b.cst.rdv with
  | none => rw [ite_self]
  | some r =>
    cases on : consistOn b with
    | false => rfl
    | true =>
      refine if_neg fun ⟨tracks, late⟩ => ?_
      obtain off | other | early := idle
      · rw [on] at off; cases off
      · exact other tracks
      · exact Nat.not_lt.mpr late (of_all_some (p := fun r : Rdv => b.now < r.trackAt + 3 * sec) hr early)

/-- The partner of a rendezvous falls silent. -/
theorem memberLost_partner {n : Nat} {m : ConsistMember} {r : Rdv} (hs : b.regsWf = true) (silent : b.out = []) (on : consistOn b = true)
    (found : b.cst.members.find? (fun x => x.num == n && !x.absent) = some m) (late : m.at_ + 5 * sec ≤ b.now) (state : cstState b = cstMember)
    (tracks : b.get F.CST_RDV_RDV_STATE = 2) (partner : b.get F.CST_RDV_PARTNER = n) (rdv : b.cst.rdv = some r) (u : State) (hu : u = memberLost n b) :
    u.cst.members = putMember { m with absent := true } b.cst.members ∧ Flagged Src.CST_MEMBER_LOST u ∧ RdvOver 5 u ∧
      Sent 3 (consistId b) (ownMember b) [rdvPayload b r.id 6 r.target r.side 5 0] b u := by
  rw [memberLost_due on found late] at hu
  obtain ⟨cst, lost, out, within_, keep⟩ := memberAbsent_result (m := m) hs _ rfl
  generalize memberAbsent m b = s at *
  have wf := within_.wf hs
  have tracksS : s.get F.CST_RDV_RDV_STATE = 2 := (keep _ (by decide)).trans tracks
  have ran : partnerGone n s = endRdv 5 s := if_pos ⟨tracksS, (keep _ (by decide)).trans partner⟩
  have get {l : List Nat} (quiet_ : ∀ a ∈ l, (⟨fun _ => false, [.cst]⟩ : Footprint).touches a = false) (g : Fld) (at_ : g.addr ∈ l) : s.get g = b.get g :=
    within_.get (quiet_ _ at_)
  have as : SendsAs b s := ⟨by rw [cst], by rw [cst], by rw [cst], by rw [cst], get (by decide)⟩
  have onS : consistOn s = true := (consistOn_of (within_.part .role (by decide)) (within_.flag (by decide)) (within_.part .die (by decide))).trans on
  have idS : consistId s = consistId b := within_.reg _ (by decide)
  obtain ⟨over_, members, rest, sent⟩ := endRdv_sent (b := b) (s := s) (r := r) (reason := 5) (by decide) (by decide) as idS (keep _ (by decide))
    (rdvPayload_of (within_.part .nav (by decide)) (get (by decide)) _ _ _ _ _ _) (out.trans silent) onS ((keep _ (by decide)).trans state)
    (by rw [cst]; exact rdv) (by rw [tracksS]; decide) wf u (hu.trans ran)
  exact ⟨by rw [members, cst], rest.flags wf _ (by decide) lost, over_, sent⟩

/-! ### The choice of an offer -/

theorem bestOffer_none : ∀ {l : List (Nat × Nat × RdvPlace)}, bestOffer l = none → l = []
  | [], _ => rfl
  | a :: l, none_ => by
    unfold bestOffer at none_
    split at none_
    · cases none_
    · split at none_ <;> cases none_

/-- The best offer is the earliest, of the lowest member. -/
theorem bestOffer_least : ∀ {l : List (Nat × Nat × RdvPlace)} {o : Nat × Nat × RdvPlace}, bestOffer l = some o →
    o ∈ l ∧ ∀ q ∈ l, o.2.1 < q.2.1 ∨ (o.2.1 = q.2.1 ∧ o.1 ≤ q.1)
  | [], _, h => by cases h
  | a :: l, o, h => by
    unfold bestOffer at h
    cases hl : bestOffer l with
    | none =>
      rw [hl] at h
      obtain rfl := Option.some.inj h
      rw [bestOffer_none hl]
      exact ⟨List.mem_singleton.mpr rfl, fun q hq => .inr (List.mem_singleton.mp hq ▸ ⟨rfl, Nat.le_refl _⟩)⟩
    | some c =>
      obtain ⟨hc, least⟩ := bestOffer_least hl
      rw [hl] at h
      dsimp only at h
      split at h
      next first =>
        obtain rfl := Option.some.inj h
        refine ⟨List.mem_cons_self, fun q hq => ?_⟩
        obtain rfl | hq := List.mem_cons.mp hq
        · exact .inr ⟨rfl, Nat.le_refl _⟩
        · have := least q hq
          omega
      next later =>
        obtain rfl := Option.some.inj h
        refine ⟨List.mem_cons_of_mem _ hc, fun q hq => ?_⟩
        obtain rfl | hq := List.mem_cons.mp hq
        · omega
        · exact least q hq

theorem foldOver_skip {α : Type} {p : α → Prop} [DecidablePred p] (f : State → α → State) : ∀ (l : List α) (s : State),
    foldOver (fun s a => if p a then s else f s a) s l = foldOver f s (l.filter fun a => !decide (p a))
  | [], _ => rfl
  | a :: l, s => by
    rw [foldOver_cons]
    by_cases skip : p a
    · rw [if_pos skip, List.filter_cons_of_neg (by rw [decide_eq_true skip]; decide)]
      exact foldOver_skip f l s
    · rw [if_neg skip, List.filter_cons_of_pos (by rw [decide_eq_false skip]; rfl), foldOver_cons]
      exact foldOver_skip f l _

/-- The datagrams of a choice: START to the cart chosen, and a refusal to each of the others. -/
def choicePayloads (r : Rdv) (o : Nat × Nat × RdvPlace) (b : State) : List Bytes :=
  rdvPayload b r.id 3 o.1 r.side 0 0 :: (r.offers.filter (fun q => q.1 != o.1)).map (fun q => rdvPayload b r.id 4 q.1 r.side 0 0)

/-- The offer chosen is the partner from now on. -/
def offerTaken (o : Nat × Nat × RdvPlace) (s : State) : State :=
  modRdv (fun r => { r with target := o.1, offers := [], trackAt := s.now, place := some o.2.2 }) s

theorem offerSelect_due {r : Rdv} {o : Nat × Nat × RdvPlace} (hs : b.regsWf = true) (on : consistOn b = true) (state : cstState b = cstMember)
    (rdv : b.cst.rdv = some r) (asks : b.get F.CST_RDV_RDV_STATE = 1) (late : r.firstAt + sec ≤ b.now) (best : bestOffer r.offers = some o) :
    offerSelect b = setRdvState 2 o.1 (offerTaken o (sendRun 0x03 (consistId b) (ownMember b) (choicePayloads r o b) b)) := by
  have runs : ¬(cstState b ≠ cstMember ∨ b.get F.CST_RDV_RDV_STATE ≠ 1 ∨ b.now < r.firstAt + sec) := by
    rw [state, asks]
    rintro (h | h | h)
    · exact h rfl
    · exact h rfl
    · exact Nat.not_lt.mpr late h
  have first : sendRdv r.id 3 o.1 r.side 0 0 b = sendConsist 0x03 (consistId b) (ownMember b) (rdvPayload b r.id 3 o.1 r.side 0 0) b := sendRdv_eq state
  have kept : SendKept b (sendRdv r.id 3 o.1 r.side 0 0 b) := by
    rw [first]
    cases hk : sendKey b (consistId b) with
    | none =>
      rw [sendConsist_none on hk]
      exact .refl
    | some k => exact (sendConsist_sent on hk hs _ rfl).1
  have others := sendOver_eq (type := 0x03) (consist := consistId b) (member := ownMember b) (s := b)
    (payload := fun v (q : Nat × Nat × RdvPlace) => rdvPayload v r.id 4 q.1 r.side 0 0)
    (run := fun v q => sendRdv r.id 4 q.1 r.side 0 0 v) (fun v k q => k.payload _ _ _ _ _ _)
    (fun v k q => by rw [sendRdv_eq (k.state.trans state), k.named, k.own]) hs on (r.offers.filter (fun q => q.1 != o.1)) _ kept
  have told : foldOver (fun s (q : Nat × Nat × RdvPlace) => if q.1 = o.1 then s else sendRdv r.id 4 q.1 r.side 0 0 s)
      (sendRdv r.id 3 o.1 r.side 0 0 b) r.offers = sendRun 0x03 (consistId b) (ownMember b) (choicePayloads r o b) b := by
    rw [foldOver_skip (p := fun q : Nat × Nat × RdvPlace => q.1 = o.1) (fun s q => sendRdv r.id 4 q.1 r.side 0 0 s)]
    have same : (fun q : Nat × Nat × RdvPlace => !decide (q.1 = o.1)) = fun q => q.1 != o.1 := rfl
    rw [same, others, choicePayloads, sendRun, sendRun, foldOver_cons, first]
  unfold offerSelect
  rw [if_pos on, rdv]
  dsimp only
  rw [if_neg runs, best]
  dsimp only
  rw [told]
  rfl

theorem offerSelect_idle (idle : consistOn b = false ∨ cstState b ≠ cstMember ∨ b.get F.CST_RDV_RDV_STATE ≠ 1 ∨
      b.cst.rdv.all (fun r => decide (b.now < r.firstAt + sec) || r.offers.isEmpty) = true) : offerSelect b = b := by
  unfold offerSelect
  cases hr : b.cst.rdv with
  | none => rw [ite_self]
  | some r =>
    cases on : consistOn b with
    | false => rfl
    | true =>
      rw [if_pos rfl]
      dsimp only
      by_cases held : cstState b ≠ cstMember ∨ b.get F.CST_RDV_RDV_STATE ≠ 1 ∨ b.now < r.firstAt + sec
      · exact if_pos held
      · rw [if_neg held]
        simp only [not_or, not_not, Nat.not_lt] at held
        obtain ⟨state, asks, late⟩ := held
        obtain off | out | other | waits := idle
        · rw [on] at off; cases off
        · exact absurd state out
        · exact absurd asks other
        · rw [hr, Option.all_some, decide_eq_false (Nat.not_lt.mpr late), Bool.false_or, List.isEmpty_iff] at waits
          rw [waits]
          rfl

theorem offerSelect_chosen {r : Rdv} {o : Nat × Nat × RdvPlace} (hs : b.regsWf = true) (silent : b.out = []) (on : consistOn b = true)
    (state : cstState b = cstMember) (rdv : b.cst.rdv = some r) (asks : b.get F.CST_RDV_RDV_STATE = 1) (late : r.firstAt + sec ≤ b.now)
    (best : bestOffer r.offers = some o) (small : o.1 < 256) (room : seqRoom b r.offers.length) (u : State) (hu : u = offerSelect b) :
    u.get F.CST_RDV_RDV_STATE = 2 ∧ u.get F.CST_RDV_PARTNER = o.1 ∧ Flagged Src.CST_RDV_CHANGE u ∧
      u.cst.rdv = some { r with target := o.1, offers := [], trackAt := b.now, place := some o.2.2 } ∧
      Sent 3 (consistId b) (ownMember b) (choicePayloads r o b) b u := by
  rw [offerSelect_due hs on state rdv asks late best] at hu
  have few : (choicePayloads r o b).length ≤ r.offers.length := by
    rw [choicePayloads, List.length_cons, List.length_map]
    exact List.length_filter_lt_length_iff_exists.mpr ⟨o, (bestOffer_least best).1, by simp⟩
  obtain ⟨kept, sent⟩ := sendRun_result (l := choicePayloads r o b) (type := 3) (consist := consistId b) (member := ownMember b) (.refl : SendsAs b b) silent on
    hs (room.mono few) _ rfl
  generalize sendRun 3 (consistId b) (ownMember b) (choicePayloads r o b) b = v at *
  obtain ⟨_, _, _, cstV⟩ := kept.cst
  have rdvV : v.cst.rdv = some r := by rw [cstV]; exact rdv
  have nowV : v.now = b.now := kept.within_.part .now (by decide)
  have wfT : (offerTaken o v).regsWf = true := kept.within_.wf hs
  have cstT : (offerTaken o v).cst = { v.cst with rdv := v.cst.rdv.map fun r => { r with
    target := o.1
    offers := []
    trackAt := v.now
    place := some o.2.2 } } := rfl
  have outT : (offerTaken o v).out = v.out := rfl
  have regsT : (offerTaken o v).regs = v.regs := rfl
  have stateT : (offerTaken o v).get F.CST_RDV_RDV_STATE ≠ 2 := by
    rw [State.get_of_regs regsT, kept.get _ (by decide), asks]
    decide
  generalize offerTaken o v = w at *
  obtain ⟨stateU, partner, -, changed, cst, out, -⟩ := setRdvState_changed (by decide) small stateT wfT u hu
  refine ⟨stateU, partner, changed, ?_, ?_⟩
  · rw [cst, cstT, rdvV, ← nowV]
    rfl
  · unfold Sent at sent ⊢
    rw [out, outT, cst, cstT]
    exact sent

/-! ### The relay of corrections -/

theorem sendConsist_nav (n : NavPart) (p : Bytes) (s : State) :
    sendConsist type consist member p { s with nav := n } = { sendConsist type consist member p s with nav := n } := by
  unfold sendConsist
  show (match (if consistOn s then sendKey s consist else none) with
    | none => _
    | some k => _) = _
  cases (if consistOn s then sendKey s consist else none) with
  | none => rfl
  | some k =>
    dsimp only
    split <;> rfl

theorem relayGroup_rest (k : Nat) : ∀ (room : Nat) (l : List (Nat × Bytes)), (relayGroup k room l).2 <:+ l
  | _, [] => List.suffix_refl _
  | room, (j, x) :: l => by
    unfold relayGroup
    split
    · exact (relayGroup_rest k _ l).trans (List.suffix_cons _ _)
    · exact List.suffix_refl _

theorem relayGroup_first {k : Nat} {x : Bytes} {l : List (Nat × Bytes)} (fits : x.length ≤ 1196) : relayGroup k 1196 ((k, x) :: l) =
    (x :: (relayGroup k (1196 - x.length) l).1, (relayGroup k (1196 - x.length) l).2) := by
  rw [relayGroup, if_pos ⟨rfl, fits⟩]

theorem relayPayloads_length_le (s : State) : ∀ (n : Nat) (l : List (Nat × Bytes)), (relayPayloads s n l).length ≤ n
  | 0, _ => Nat.le_refl 0
  | _ + 1, [] => Nat.zero_le _
  | n + 1, (_, _) :: _ => Nat.succ_le_succ (relayPayloads_length_le s n _)

theorem relayPayloads_of (sources : s.nav.sources = b.nav.sources) : ∀ (n : Nat) (l : List (Nat × Bytes)), relayPayloads s n l = relayPayloads b n l
  | 0, _ => rfl
  | _ + 1, [] => rfl
  | n + 1, (k, x) :: l => by rw [relayPayloads, relayPayloads, relayPayloads_of sources n, corrSource_of_sources sources]

/-- The frames that wait to be relayed. -/
def relayLeft (l : List (Nat × Bytes)) (s : State) : State := { s with nav := { s.nav with relay := l } }

theorem relayAll_eq : ∀ (n : Nat) (s : State), s.regsWf = true → consistOn s = true → (∀ e ∈ s.nav.relay, e.2.length ≤ 1196) → s.nav.relay.length ≤ n →
    relayAll n s = sendRun 0x04 (consistId s) (ownMember s) (relayPayloads s n s.nav.relay) (relayLeft [] s)
  | 0, s, _, _, _, few => by
    have empty : s.nav.relay = [] := List.eq_nil_of_length_eq_zero (Nat.le_zero.mp few)
    show s = { s with nav := { s.nav with relay := [] } }
    rw [← empty]
  | n + 1, s, hs, on, fits, few => by
    cases hl : s.nav.relay with
    | nil =>
      rw [relayAll, hl]
      show s = { s with nav := { s.nav with relay := [] } }
      rw [← hl]
    | cons e l =>
      obtain ⟨k, x⟩ := e
      have small : x.length ≤ 1196 := fits (k, x) (by rw [hl]; exact List.mem_cons_self)
      obtain ⟨first, rest⟩ := (⟨relayGroup_first small, relayGroup_rest k (1196 - x.length) l⟩ : relayGroup k 1196 ((k, x) :: l) = _ ∧ _ <:+ l)
      obtain ⟨g, hg⟩ : ∃ g, g = relayGroup k (1196 - x.length) l := ⟨_, rfl⟩
      rw [← hg] at first rest
      obtain ⟨p, hp⟩ : ∃ p, p = leBytes 2 (corrSource s k).base ++ leBytes 1 (x :: g.1).length ++ leBytes 1 0 ++ (x :: g.1).flatten := ⟨_, rfl⟩
      have step : relayAll (n + 1) s = relayAll n (sendConsist 0x04 (consistId s) (ownMember s) p (relayLeft g.2 s)) := by
        rw [relayAll, hl]
        dsimp only
        rw [first, hp]
        rfl
      have payloads : relayPayloads s (n + 1) ((k, x) :: l) = p :: relayPayloads s n g.2 := by
        rw [relayPayloads, first, hp]
      have kept : SendKept (relayLeft g.2 s) (sendConsist 0x04 (consistId s) (ownMember s) p (relayLeft g.2 s)) := by
        have onL : consistOn (relayLeft g.2 s) = true := on
        cases hk : sendKey (relayLeft g.2 s) (consistId s) with
        | none =>
          rw [sendConsist_none onL hk]
          exact .refl
        | some c => exact (sendConsist_sent onL hk hs _ rfl).1
      have left : relayLeft [] (sendConsist 0x04 (consistId s) (ownMember s) p (relayLeft g.2 s)) =
          sendConsist 0x04 (consistId s) (ownMember s) p (relayLeft [] s) := by
        have here : sendConsist 0x04 (consistId s) (ownMember s) p (relayLeft g.2 s) =
          { sendConsist 0x04 (consistId s) (ownMember s) p s with nav := { s.nav with relay := g.2 } } := sendConsist_nav _ p s
        have there : sendConsist 0x04 (consistId s) (ownMember s) p (relayLeft [] s) =
          { sendConsist 0x04 (consistId s) (ownMember s) p s with nav := { s.nav with relay := [] } } := sendConsist_nav _ p s
        rw [here, there]
        rfl
      have navK : (sendConsist 0x04 (consistId s) (ownMember s) p (relayLeft g.2 s)).nav = { s.nav with relay := g.2 } := kept.within_.part .nav (by decide)
      have idK := kept.named
      have ownK := kept.own
      have wfK := kept.within_.wf (show (relayLeft g.2 s).regsWf = true from hs)
      have onK := kept.on.trans (show consistOn (relayLeft g.2 s) = true from on)
      rw [step, payloads, sendRun, foldOver_cons, ← left]
      generalize sendConsist 0x04 (consistId s) (ownMember s) p (relayLeft g.2 s) = v at *
      have relayV : v.nav.relay = g.2 := by rw [navK]
      rw [relayAll_eq n v wfK onK
          (fun e he => fits e (by rw [hl]; exact List.mem_cons_of_mem _ (rest.subset (relayV ▸ he))))
          (by have := rest.length_le; rw [hl, List.length_cons] at few; rw [relayV]; omega),
        relayV, relayPayloads_of (b := s) (by rw [navK]), idK, ownK]
      rfl

theorem relayAll_sent (hs : b.regsWf = true) (silent : b.out = []) (on : consistOn b = true)
    (fits : b.nav.relay.all (fun e => decide (e.2.length ≤ 1196)) = true) (room : seqRoom b b.nav.relay.length) (u : State)
    (hu : u = relayAll b.nav.relay.length b) : u.nav = { b.nav with relay := [] } ∧
      Sent 4 (consistId b) (ownMember b) (relayPayloads b b.nav.relay.length b.nav.relay) b u := by
  rw [relayAll_eq _ b hs on (fun e he => of_decide_eq_true (List.all_eq_true.mp fits e he)) (Nat.le_refl _)] at hu
  obtain ⟨kept, sent⟩ := sendRun_result (b := b) (s := relayLeft [] b) (.of_regs rfl rfl rfl rfl rfl) silent on hs (room.mono (relayPayloads_length_le _ _ _)) u hu
  exact ⟨kept.within_.part .nav (by decide), sent⟩

end

/-! ### The rows -/

theorem does_sent {cond : State → Prop} {P : State → State → Prop} {c : Nat → Instr} (f : State → State)
    (hexec : ∀ t s, exec (c t) s = .next (f (begin_ t s))) (result : ∀ b, b.out = [] → cond b → P b (f b)) : Does c cond P :=
  fun t s met => ⟨_, hexec t s, result _ (begin_out t s) met⟩

/-- Settles O49: each row sends one run of datagrams, and what its time does beside it is said by the row's own lemma. -/
theorem consistTimeRows : Obligations.ConsistTimeRows := by
  refine ⟨fun w st => ?_, ?_, ?_, fun f => ?_, ?_, fun id m at_ => ?_, ?_, fun n m => ?_, fun n m r => ?_, fun n => ?_, fun n => ?_, fun n => ?_,
    fun at_ n hn => ?_, fun at_ n w ip port hn => ?_, fun at_ w ip port => ?_, ?_, fun r => ?_, ?_, fun r o => ?_, ?_, fun r t0 => ?_, ?_, fun r => ?_, ?_,
    fun r => ?_, ?_, ?_, ?_⟩
  case refine_1 =>
    exact does_sent heartbeatSend (fun _ _ => rfl) fun b silent ⟨sound, on, state, due_, new, soon, hw, hst⟩ =>
      heartbeatSend_sent (regsWf_of_sound sound) silent on state due_ new soon hw hst _ rfl
  case refine_2 =>
    exact does_sent heartbeatSend (fun _ _ => rfl) fun b silent ⟨sound, on, state, due_, new, late⟩ =>
      heartbeatSend_skipped (regsWf_of_sound sound) silent on state due_ new late _ rfl
  case refine_3 => exact does_of_run heartbeatSend (fun _ _ => rfl) fun b idle => heartbeatSend_idle idle
  case refine_4 =>
    exact does_sent coverageSend (fun _ _ => rfl) fun b silent ⟨sound, on, state, waited, open_, room⟩ =>
      coverageSend_sent (regsWf_of_sound sound) silent on state waited open_ room _ rfl
  case refine_5 => exact does_of_run coverageSend (fun _ _ => rfl) fun b idle => coverageSend_idle idle
  case refine_6 =>
    exact does_sent leaveRepeat (fun _ _ => rfl) fun b silent ⟨sound, on, leaving, late⟩ =>
      leaveRepeat_sent (regsWf_of_sound sound) silent on leaving late _ rfl
  case refine_7 => exact does_of_run leaveRepeat (fun _ _ => rfl) fun b idle => leaveRepeat_idle idle
  case refine_8 =>
    refine does_sent (memberLost n) (fun _ _ => rfl) fun b silent ⟨sound, on, found, late, free⟩ => ?_
    obtain ⟨cst, lost, out, -, keep⟩ := memberAbsent_result (m := m) (regsWf_of_sound sound) _ rfl
    have stays : partnerGone n (memberAbsent m b) = memberAbsent m b := if_neg fun ⟨tracks, partner⟩ =>
      free.elim (fun h => h ((keep _ (by decide)).symm.trans tracks)) (fun h => h ((keep _ (by decide)).symm.trans partner))
    rw [memberLost_due on found late, stays]
    exact ⟨cst, lost, out.trans silent⟩
  case refine_9 =>
    exact does_sent (memberLost n) (fun _ _ => rfl) fun b silent ⟨sound, on, found, late, state, tracks, partner, rdv⟩ =>
      memberLost_partner (regsWf_of_sound sound) silent on found late state tracks partner rdv _ rfl
  case refine_10 => exact does_of_run (memberLost n) (fun _ _ => rfl) fun b idle => memberLost_idle idle
  case refine_11 => exact does_of_run (memberRemove n) (fun _ _ => rfl) fun b on => mem_memberRemove on
  case refine_12 => exact does_of_run (memberRemove n) (fun _ _ => rfl) fun b off => if_pos (by rw [off]; rfl)
  case refine_13 =>
    refine does_sent joinListenEnd (fun _ _ => rfl) fun b silent ⟨sound, on, listens, late, free, taken, unasked⟩ => ?_
    obtain ⟨key, beat, over_⟩ := listenOver_number listens late (lowest_free hn free taken)
    obtain ⟨state, own, ended, members, joined, out, waiting, -⟩ := numberTaken_result (key := key) (beat := beat) hn (regsWf_of_sound sound) _ rfl
    have nobody : (numberTaken n key beat b).pk.waiting.filter (fun w => w.job == Job.listen) = [] := by
      rw [waiting, List.filter_eq_nil_iff]
      exact fun w hw => by simpa using List.any_eq_false.mp unasked w hw
    rw [joinListenEnd_over on over_, nobody]
    exact ⟨state, own, ended, members, joined, out.trans silent⟩
  case refine_14 =>
    refine does_sent joinListenEnd (fun _ _ => rfl) fun b silent ⟨sound, on, listens, late, free, taken, only, job, held, via, alone⟩ => ?_
    obtain ⟨key, beat, over_⟩ := listenOver_number listens late (lowest_free hn free taken)
    obtain ⟨state, own, -, -, joined, out, waiting, line⟩ := numberTaken_result (key := key) (beat := beat) hn (regsWf_of_sound sound) _ rfl
    rw [joinListenEnd_over on over_, listeners_only (waiting.trans only) job]
    generalize numberTaken n key beat b = v at *
    obtain ⟨pk, r, told, none_, status, sequence, result⟩ :=
      (completeWaiting_answered (origin := joinNum v) (status := St.ok) (result := leBytes 1 n) (s := v) via ((reliefPresent_of_line line).trans alone) held
        (waiting.trans only)).state
    have ran : foldOver (waiterTold (some n)) v [w] = { v with pk := pk, out := v.out ++ [.packet w.req.via r] } := told
    rw [ran]
    exact ⟨state, own, none_, joined, r, by rw [out, silent]; rfl, status, result, sequence⟩
  case refine_15 =>
    refine does_sent joinListenEnd (fun _ _ => rfl) fun b silent ⟨sound, on, listens, late, full, only, job, held, via, alone⟩ => ?_
    obtain ⟨-, state, id, members⟩ := leaveTable_result (s := b) (regsWf_of_sound sound)
    obtain ⟨ended, out, pk', line⟩ := leaveTable_parts b
    have waits : (leaveTable b).pk.waiting = [w] := by rw [pk', only]
    rw [joinListenEnd_over on (listenOver_full listens late full), listeners_only waits job]
    generalize leaveTable b = v at *
    obtain ⟨pk, r, told, none_, status, sequence, -⟩ :=
      (completeWaiting_answered (origin := joinNum v) (status := St.consistFull) (result := []) (s := v) via ((reliefPresent_of_line line).trans alone) held
        waits).state
    have ran : foldOver (waiterTold none) v [w] = { v with pk := pk, out := v.out ++ [.packet w.req.via r] } := told
    rw [ran]
    exact ⟨state, id, members, ended, none_, r, by rw [out, silent]; rfl, status, sequence⟩
  case refine_16 => exact does_of_run joinListenEnd (fun _ _ => rfl) fun b idle => joinListenEnd_idle idle
  case refine_17 =>
    exact does_sent requestSend (fun _ _ => rfl) fun b silent ⟨sound, on, state, rdv, asks, late⟩ =>
      requestSend_sent (regsWf_of_sound sound) silent on state rdv asks late _ rfl
  case refine_18 => exact does_of_run requestSend (fun _ _ => rfl) fun b idle => requestSend_idle idle
  case refine_19 =>
    refine does_sent offerSelect (fun _ _ => rfl) fun b silent ⟨sound, on, state, rdv, asks, late, best, small, room⟩ => ?_
    obtain ⟨among, least⟩ := bestOffer_least best
    exact ⟨among, least, offerSelect_chosen (regsWf_of_sound sound) silent on state rdv asks late best small room _ rfl⟩
  case refine_20 => exact does_of_run offerSelect (fun _ _ => rfl) fun b idle => offerSelect_idle idle
  case refine_21 =>
    exact does_sent trackSend (fun _ _ => rfl) fun b silent ⟨sound, on, state, rdv, tracks, whole, new⟩ =>
      trackSend_sent (regsWf_of_sound sound) silent on state rdv tracks whole new _ rfl
  case refine_22 => exact does_of_run trackSend (fun _ _ => rfl) fun b idle => trackSend_idle idle
  case refine_23 =>
    refine does_sent offerTimeout (fun _ _ => rfl) fun b silent ⟨sound, on, state, rdv, asks, empty, late⟩ => ?_
    have ran : offerTimeout b = endRdv 3 b := by
      unfold offerTimeout
      rw [if_pos on, rdv]
      exact if_pos ⟨asks, by rw [empty]; rfl, late⟩
    obtain ⟨over_, -, -, sent⟩ := endRdv_sent (reason := 3) (by decide) (by decide) (.refl : SendsAs b b) rfl rfl rfl silent on state rdv (by rw [asks]; decide)
      (regsWf_of_sound sound) _ ran
    exact ⟨over_, sent⟩
  case refine_24 => exact does_of_run offerTimeout (fun _ _ => rfl) fun b idle => offerTimeout_idle idle
  case refine_25 =>
    refine does_sent trackTimeout (fun _ _ => rfl) fun b silent ⟨sound, on, state, rdv, tracks, late⟩ => ?_
    have ran : trackTimeout b = endRdv 4 b := by
      unfold trackTimeout
      rw [if_pos on, rdv]
      exact if_pos ⟨tracks, late⟩
    obtain ⟨over_, -, -, sent⟩ := endRdv_sent (reason := 4) (by decide) (by decide) (.refl : SendsAs b b) rfl rfl rfl silent on state rdv
      (by rw [tracks]; decide) (regsWf_of_sound sound) _ ran
    exact ⟨over_, sent⟩
  case refine_26 => exact does_of_run trackTimeout (fun _ _ => rfl) fun b idle => trackTimeout_idle idle
  case refine_27 =>
    refine does_sent (fun s => if consistOn s ∧ cstState s = cstMember then relayAll s.nav.relay.length s else s) (fun _ _ => rfl)
      fun b silent ⟨sound, on, state, fits, room⟩ => ?_
    rw [if_pos ⟨on, state⟩]
    exact relayAll_sent (regsWf_of_sound sound) silent on fits room _ rfl
  case refine_28 =>
    refine does_of_run (fun s => if consistOn s ∧ cstState s = cstMember then relayAll s.nav.relay.length s else s) (fun _ _ => rfl)
      fun b idle => if_neg fun ⟨on, state⟩ => ?_
    exact idle.elim (fun off => Bool.false_ne_true (off.symm.trans on)) fun out => out state

end Sys2Proof.Machine

end

section
/-!
The DMA engine: descriptors that start, complete and fail, the patrol scrub, pages that are retired, and the units of data streams
(R640–R671).
-/

namespace Sys2Proof.Machine

/-! ### The registers of a channel -/

/-- A field of the registers of the DMA channels. -/
structure DmaField (g : Fld) : Prop where
  low : 0x90100 ≤ g.addr
  high : g.addr < 0x90500

theorem dmaField_of_strided {f : Nat → Fld} {c : Nat} (hc : c < 32) (hf : Strided f) (low : 0x90100 ≤ (f 0).addr) (high : (f 0).addr < 0x90120) :
    DmaField (f c) := by
  rw [hf c]
  exact ⟨by simp only; omega, by simp only; omega⟩

theorem DmaField.calm {g : Fld} (hg : DmaField g) : calmReg g.addr = true := calmReg_of_low (by have := hg.high; omega) (by
  have := hg.low
  have := hg.high
  simp [raisePlaces]
  omega)

/-- Channels of unlike numbers have unlike registers. -/
theorem fits_of_zero {f : Nat → Fld} (c : Nat) (hf : Strided f) (h : (f 0).fits = true) : (f c).fits = true := by
  rw [hf c]
  exact h

section
variable {b s t u : State} {c : Nat}

/-! ### One channel and the memories -/

theorem dmaChannels_length_of_sound (h : s.sound = true) : s.dma.channels.length = 32 := by
  simp only [State.sound, State.sized, Bool.and_eq_true, beq_iff_eq] at h
  tauto

theorem memory_of_sound (h : s.sound = true) : storeWf (fun _ => 0#8) 0 s.dma.mem = true := by
  simp only [State.sound, State.wf, Bool.and_eq_true] at h
  exact h.1.2

/-- Beside registers and events, an operation moves one channel of the engine. -/
structure OnDma (c : Nat) (s u : State) : Prop where
  now : u.now = s.now
  die : u.die = s.die
  size : u.dma.channels.length = s.dma.channels.length
  mem : u.dma.mem = s.dma.mem
  others : ∀ k, k ≠ c → dmaChan u k = dmaChan s k

theorem OnDma.refl : OnDma c s s := ⟨rfl, rfl, rfl, rfl, fun _ _ => rfl⟩

theorem OnDma.trans (h : OnDma c b s) (k : OnDma c s t) : OnDma c b t :=
  ⟨k.now.trans h.now, k.die.trans h.die, k.size.trans h.size, k.mem.trans h.mem, fun j ne => (k.others j ne).trans (h.others j ne)⟩

theorem OnDma.of_parts (now : u.now = s.now) (die : u.die = s.die) (dma : u.dma = s.dma) : OnDma c s u :=
  ⟨now, die, by rw [dma], by rw [dma], fun k _ => by rw [dmaChan, dmaChan, dma]⟩

theorem dmaChan_of_dma (dma : u.dma = s.dma) : dmaChan u c = dmaChan s c := by rw [dmaChan, dmaChan, dma]

theorem modDma_result (f : DmaChannel → DmaChannel) (hc : c < s.dma.channels.length) : dmaChan (modDma c f s) c = f (dmaChan s c) ∧
    OnDma c s (modDma c f s) :=
  ⟨nth_setNth_same _ _ hc, rfl, rfl, setNth_length _ _ _, rfl, fun _ ne => nth_setNth_ne _ _ ne⟩

theorem raise_onDma {src detail : Nat} : OnDma c s (raise src detail s) :=
  .of_parts (by simp [raise]) (by simp [raise]) (by simp [raise])

theorem raise_dmaChan {src detail : Nat} : dmaChan (raise src detail s) c = dmaChan s c := dmaChan_of_dma (by simp [raise])

/-! ### A descriptor that is offered -/

/-- The entry of a descriptor that is offered. -/
def offeredEntry (c : Nat) (again : Bool) (d : Descriptor) (s : State) : RingEntry where
  d := d
  at_ := s.now
  ahead := (dmaChan s c).ring.length
  wait := waitField ((dmaChan s c).ring.length * dmaMean (dmaChan s c))
  again := again

theorem offerDescriptor_result {again : Bool} {d : Descriptor} (hc : c < 32) (size : s.dma.channels.length = 32) (room : (dmaChan s c).ring.length < 256)
    (hs : s.regsWf = true) (u : State) (hu : u = offerDescriptor c again d s) :
    dmaChan u c = { dmaChan s c with ring := (dmaChan s c).ring ++ [offeredEntry c again d s] } ∧ OnDma c s u ∧ u.regsWf = true ∧
      u.get (F.DMA_CH_RING_PROD c) = (s.get (F.DMA_CH_RING_PROD c) + 1) % 65536 ∧
      ∀ g : Fld, (F.DMA_CH_RING_PROD c).apart g = true → u.get g = s.get g := by
  have ran : offerDescriptor c again d s =
      (modDma c (fun ch => { ch with ring := ch.ring ++ [offeredEntry c again d s] }) s).wrapUp (F.DMA_CH_RING_PROD c) 1 := if_neg (Nat.not_le.mpr room)
  obtain ⟨chan, on⟩ := modDma_result (fun ch => { ch with ring := ch.ring ++ [offeredEntry c again d s] }) (hc.trans_eq size.symm)
  have regs : (modDma c (fun ch => { ch with ring := ch.ring ++ [offeredEntry c again d s] }) s).regs = s.regs := rfl
  rw [ran] at hu
  generalize modDma c (fun ch => { ch with ring := ch.ring ++ [offeredEntry c again d s] }) s = v at *
  have wf : v.regsWf = true := by rw [State.regsWf, regs]; exact hs
  have put : u = v.put (F.DMA_CH_RING_PROD c) (v.get (F.DMA_CH_RING_PROD c) + 1) := hu
  have dma : u.dma = v.dma := by rw [hu]; rfl
  refine ⟨(dmaChan_of_dma dma).trans chan, on.trans (.of_parts (by rw [hu]; rfl) (by rw [hu]; rfl) dma), ?_, ?_, fun g far => ?_⟩
  · rw [put]
    exact State.regsWf_put _ _ _ wf
  · rw [put, State.get_put_mod (fits_of_zero c (fun _ => rfl) (by decide)) wf, State.get_of_regs regs]
    rfl
  · rw [put, State.get_put_of_apart far wf, State.get_of_regs regs]

theorem malformed_of_mem (mem : u.dma.mem = s.dma.mem) (d : Descriptor) : malformed u d = malformed s d := by
  have table : offsetTable u d = offsetTable s d := by
    have bytes : memByte u = memByte s := funext fun a => by rw [memByte, memByte, mem]
    rw [offsetTable, offsetTable, bytes]
  rw [malformed, malformed, table]

/-- A granted channel whose next descriptor is in order starts it. -/
theorem startDescriptor_result {e : RingEntry} {rest : List RingEntry} (hc : c < 32) (size : s.dma.channels.length = 32) (up : s.die.yardUp = true)
    (ring : (dmaChan s c).ring = e :: rest) (granted : dmaGranted s c = true) (whole : malformed s e.d = false) (hs : s.regsWf = true) (u : State)
    (hu : u = startDescriptor c s) : dmaChan u c = { dmaChan s c with
      active := true
      startedAt := s.now
      gated := false } ∧ OnDma c s u ∧ u.get (F.DMA_CH_CTRL_STATE c) = 1 ∧
      ∀ g : Fld, (F.DMA_CH_CTRL_STATE c).apart g = true → (F.DMA_CH_CFG_REQ c).apart g = true → u.get g = s.get g := by
  unfold startDescriptor at hu
  rw [up, granted, if_neg (by decide), ring] at hu
  dsimp only at hu
  obtain ⟨chan, on⟩ := modDma_result (fun ch => { ch with
    active := true
    startedAt := s.now
    gated := false }) (hc.trans_eq size.symm)
  have regs : (modDma c (fun ch => { ch with
    active := true
    startedAt := s.now
    gated := false }) s).regs = s.regs := rfl
  generalize modDma c (fun ch => { ch with
    active := true
    startedAt := s.now
    gated := false }) s = v at *
  have wf : v.regsWf = true := by rw [State.regsWf, regs]; exact hs
  generalize (if e.d.req.toNat = 0xFF then 0 else e.d.req.toNat) = req at *
  have wf1 := State.regsWf_put v (F.DMA_CH_CTRL_STATE c) 1 wf
  have mem : ((v.put (F.DMA_CH_CTRL_STATE c) 1).put (F.DMA_CH_CFG_REQ c) req).dma.mem = s.dma.mem := on.mem
  rw [malformed_of_mem mem, whole, if_neg Bool.false_ne_true] at hu
  have dma : u.dma = v.dma := by rw [hu]; rfl
  have configApart : (F.DMA_CH_CFG_REQ c).apart (F.DMA_CH_CTRL_STATE c) = true := apart_of_zero c (fun _ => rfl) (fun _ => rfl) (by decide)
  refine ⟨(dmaChan_of_dma dma).trans chan, on.trans (.of_parts (by rw [hu]; rfl) (by rw [hu]; rfl) dma), ?_, fun g far1 far2 => ?_⟩
  · rw [hu, State.get_put_of_apart configApart wf1]
    exact State.get_put_of_lt (fits_of_zero c (fun _ => rfl) (by decide)) (show 1 < 2 ^ 2 by decide) wf
  · rw [hu, State.get_put_of_apart far2 wf1, State.get_put_of_apart far1 wf, State.get_of_regs regs]

theorem dmaGranted_reserved (ring : (dmaChan s c).ring ≠ []) (idle : (dmaChan s c).active = false) (runs : s.flag (F.DMA_CH_CTRL_STOP c) = false)
    (reserved : dmaClass c = 0) : dmaGranted s c = true := by
  have some_ : (dmaChan s c).ring.isEmpty = false := List.isEmpty_eq_false_iff.mpr ring
  rw [dmaGranted, dmaReady, some_, idle, runs, reserved]
  rfl

theorem startDescriptor_stopped (stopped : s.flag (F.DMA_CH_CTRL_STOP c) = true) : startDescriptor c s = s := by
  have none_ : dmaGranted s c = false := by
    rw [dmaGranted, dmaReady, stopped, Bool.not_true, Bool.and_false, Bool.false_and]
  unfold startDescriptor
  rw [none_, Bool.not_false, Bool.or_true, if_pos rfl]

/-! ### The bytes of a linear copy -/

theorem memWrite_untouched {l : List (Nat × Byte)} {a : Nat} : ∀ {m : List (Nat × Byte)}, a ∉ l.map Prod.fst →
    storeGet (fun _ => 0#8) (foldOver (fun m (e : Nat × Byte) => storeSet (fun _ => 0#8) m e.1 e.2) m l) a = storeGet (fun _ => 0#8) m a := by
  induction l with
  | nil => intro m _; rfl
  | cons e l ih =>
    intro m out
    rw [List.map_cons, List.mem_cons, not_or] at out
    rw [foldOver_cons, ih out.2, storeGet_storeSet_ne _ _ _ _ _ out.1]

theorem memWrite_written {l : List (Nat × Byte)} {a : Nat} {v : Byte} : ∀ {m : List (Nat × Byte)}, (l.map Prod.fst).Nodup →
    storeWf (fun _ => 0#8) 0 m = true → (a, v) ∈ l →
    storeGet (fun _ => 0#8) (foldOver (fun m (e : Nat × Byte) => storeSet (fun _ => 0#8) m e.1 e.2) m l) a = v := by
  induction l with
  | nil => intro m _ _ here; cases here
  | cons e l ih =>
    intro m nodup wf here
    rw [List.map_cons, List.nodup_cons] at nodup
    obtain ⟨first, rest⟩ := nodup
    rw [foldOver_cons]
    obtain same | here := List.mem_cons.mp here
    · rw [← same] at first ⊢
      rw [memWrite_untouched first]
      exact storeGet_storeSet_same _ _ 0 _ _ wf
    · exact ih rest (storeWf_storeSet _ _ _ _ wf) here

/-- The writes of a linear copy: each byte with its address. -/
def copyWrites (src dst len : Nat) (s : State) : List (Nat × Byte) := (upFrom 0 len).map fun i => (dst + i, memByte s (src + i))

theorem copyWrites_addresses (src dst len : Nat) (s : State) : (copyWrites src dst len s).map Prod.fst = (upFrom 0 len).map (dst + ·) := by
  rw [copyWrites, List.map_map]
  rfl

/-- A linear copy between memories moves exactly its bytes. -/
theorem copyWrites_result {src dst len : Nat} (wf : storeWf (fun _ => 0#8) 0 s.dma.mem = true) (u : State)
    (hu : u.dma.mem = (memWrite (copyWrites src dst len s) s).dma.mem) :
    (∀ i, i < len → memByte u (dst + i) = memByte s (src + i)) ∧ ∀ a, a < dst ∨ dst + len ≤ a → memByte u a = memByte s a := by
  have stored (a : Nat) : memByte u a = storeGet (fun _ => 0#8)
      (foldOver (fun m (e : Nat × Byte) => storeSet (fun _ => 0#8) m e.1 e.2) s.dma.mem (copyWrites src dst len s)) a := by
    rw [memByte, hu]
    rfl
  refine ⟨fun i hi => ?_, fun a out => ?_⟩
  · rw [stored]
    refine memWrite_written ?_ wf (List.mem_map.mpr ⟨i, mem_upFrom.mpr ⟨Nat.zero_le i, by omega⟩, rfl⟩)
    rw [copyWrites_addresses]
    exact (upFrom_nodup _ _).map fun _ _ h => Nat.add_left_cancel h
  · rw [stored]
    refine memWrite_untouched fun here => ?_
    rw [copyWrites_addresses] at here
    obtain ⟨i, hi, rfl⟩ := List.mem_map.mp here
    have := (mem_upFrom.mp hi).2
    omega

theorem sideRuns_linear {d : Descriptor} {off : List Nat} (linear : d.pattern.toNat = 0) :
    sideRuns d off true = [((d.src.toNat : Int), d.srcLen.toNat)] ∧ sideRuns d off false = [((d.dst.toNat : Int), d.srcLen.toNat)] := by
  unfold sideRuns
  rw [linear]
  exact ⟨rfl, rfl⟩

theorem beatsWithin_single (r : Int × Nat) : beatsWithin r.2 [r] = runBeats r := by
  rw [beatsWithin, if_pos (Nat.le_refl _), beatsWithin]
  rfl

theorem sideBeats_single (r : Int × Nat) : sideBeats [r] = runBeats r := Nat.zero_add _

theorem bytesOfBeats_single (r : Int × Nat) : bytesOfBeats (runBeats r) [r] = r.2 := by
  rw [bytesOfBeats, if_pos (Nat.le_refl _), bytesOfBeats]
  rfl

theorem reachable_single {r : Int × Nat} (region : (yardRegion r.1).isSome = true) : reachable [r] = r.2 := by
  have some_ : (yardRegion r.1).isNone = false := by rw [← Option.not_isSome, region]; rfl
  rw [reachable, some_, if_neg Bool.false_ne_true, reachable]
  rfl

/-- A linear copy within the regions ends with what the transfer met. -/
theorem firstError_linear {x y : Int} {n : Nat} {e : DmaEnd} (from_ : (yardRegion x).isSome = true) (to_ : (yardRegion y).isSome = true) :
    (e.err = .none → firstError [(x, n)] [(y, n)] false e = (0, runBeats (y, n))) ∧
    (e.err = .readback → inPorts y = false → firstError [(x, n)] [(y, n)] false e = (4, runBeats (y, n))) := by
  have source : beatsWithin (reachable [(x, n)]) [(y, n)] = runBeats (y, n) := by
    rw [reachable_single from_]
    exact beatsWithin_single (y, n)
  have target : beatsWithin (reachable [(y, n)]) [(y, n)] = runBeats (y, n) := by
    rw [reachable_single to_]
    exact beatsWithin_single (y, n)
  refine ⟨fun met => ?_, fun met memory => ?_⟩
  · unfold firstError
    dsimp only
    rw [source, target, sideBeats_single, met, if_neg (fun h => Nat.lt_irrefl _ h.1), if_neg (fun h => Nat.lt_irrefl _ h.1)]
    rfl
  · have inMemory : ([(y, n)].any fun r => !inPorts r.1) = true := by rw [List.any_cons, memory]; rfl
    unfold firstError
    dsimp only
    rw [source, target, sideBeats_single, met, if_neg (fun h => Nat.lt_irrefl _ h.1), if_neg (fun h => Nat.lt_irrefl _ h.1), inMemory]
    rfl

theorem runAddrs_single (a n : Nat) : runAddrs [((a : Int), n)] = (upFrom 0 n).map (a + ·) := by
  unfold runAddrs
  rw [List.flatMap_singleton]
  exact List.map_congr_left fun i _ => by
    show ((a : Int) + (i : Int)).toNat = a + i
    omega

/-! ### A descriptor that ends -/

/-- Errors of inline ECC are counted; without one that is not corrected nothing is raised. -/
theorem noteEcc_result {cor : Nat} (hs : s.regsWf = true) (u : State) (hu : u = noteEcc cor 0 s) :
    Within ⟨fun a => a == Reg.DMA_ECC, [.log]⟩ s u ∧ u.get F.DMA_ECC_CORRECTED = satN 16 (s.get F.DMA_ECC_CORRECTED + cor) ∧
      u.ev.retired = s.ev.retired ∧ u.ev.retiredHere = s.ev.retiredHere := by
  have wf1 := State.regsWf_put s F.DMA_ECC_CORRECTED (satN 16 (s.get F.DMA_ECC_CORRECTED + cor)) hs
  have counted : ((s.bump F.DMA_ECC_CORRECTED cor).bump F.DMA_ECC_UNCORRECTED 0).get F.DMA_ECC_CORRECTED = satN 16 (s.get F.DMA_ECC_CORRECTED + cor) :=
    (State.get_put_of_apart (by decide) wf1).trans (State.get_put_of_lt (by decide) (satN_lt 16 _) hs)
  have within_ : Within ⟨fun a => a == Reg.DMA_ECC, [.log]⟩ s ((s.bump F.DMA_ECC_CORRECTED cor).bump F.DMA_ECC_UNCORRECTED 0) :=
    bump_within (bump_within .refl (by decide)) (by decide)
  have ev : ((s.bump F.DMA_ECC_CORRECTED cor).bump F.DMA_ECC_UNCORRECTED 0).ev = s.ev := rfl
  unfold noteEcc at hu
  rw [if_pos rfl] at hu
  generalize (s.bump F.DMA_ECC_CORRECTED cor).bump F.DMA_ECC_UNCORRECTED 0 = v at *
  rw [hu]
  exact ⟨ev_within within_ (by decide), counted, (congrArg EventPart.retired ev : v.ev.retired = s.ev.retired),
    (congrArg EventPart.retiredHere ev : v.ev.retiredHere = s.ev.retiredHere)⟩

/-- The entry leaves the ring, with what the engine writes back. -/
def entryDone (c : Nat) (e : RingEntry) (rest : List RingEntry) (wb : WriteBack) (s : State) : State :=
  modDma c (fun ch => { ch with
    ring := rest
    active := false
    gated := false
    last := some (e.d, wb)
    service := ((s.now - ch.startedAt) :: ch.service).take 64 }) s

/-- The entry is counted, and its end is told where it asks for that. -/
def entryCounted (c : Nat) (event : Bool) (s : State) : State :=
  let s := ((s.wrapUp (F.DMA_CH_RING_CONS c) 1).wrapUp (F.DMA_CH_DONE_DESCS c) 1).put (F.DMA_CH_CTRL_STATE c)
    (if s.flag (F.DMA_CH_CTRL_STOP c) then 3 else 0)
  if event then raise Src.DMA_DESC_DONE c s else s

/-- What a completion writes back. -/
def writtenBack (c code residue : Nat) (e : RingEntry) : WriteBack where
  status := if code = 0 then 1 else 2
  code := code
  admitted := dmaClass c
  qpos := min 255 e.ahead
  wait := e.wait
  residue := residue

/-- A descriptor that has ended BAD is counted with its code, and told of. -/
def badCounted (c code residue : Nat) (s : State) : State :=
  raise Src.DMA_DESC_BAD c (((s.bump (F.DMA_CH_DONE_BAD c) 1).put (F.DMA_CH_LAST_CODE c) code).put (F.DMA_CH_LAST_RESIDUE c) (satN 24 residue))

theorem completeDescriptor_eq {e : RingEntry} {rest : List RingEntry} (code residue : Nat) (ring : (dmaChan s c).ring = e :: rest) :
    completeDescriptor c code residue s =
      if code = 0 then entryCounted c e.d.event (entryDone c e rest (writtenBack c code residue e) s)
      else descriptorBad c e code (badCounted c code residue (entryCounted c e.d.event (entryDone c e rest (writtenBack c code residue e) s))) := by
  unfold completeDescriptor
  dsimp only
  rw [ring]
  rfl

/-- A raise moves no field of a channel. -/
theorem raise_dmaField {src detail : Nat} {g : Fld} (hg : DmaField g) (hs : s.regsWf = true) : (raise src detail s).get g = s.get g :=
  ((FieldStands.refl (g := g) (b := s)).raiseArg hg.calm hs).2

theorem raised_wf {src detail : Nat} (hs : s.regsWf = true) : (raise src detail s).regsWf = true :=
  (raise_within .refl : Within ⟨fun _ => false, []⟩ s (raise src detail s)).wf hs

theorem entryCounted_result {event : Bool} (hc : c < 32) (hs : s.regsWf = true) (u : State) (hu : u = entryCounted c event s) :
    u.regsWf = true ∧ OnDma c s u ∧ dmaChan u c = dmaChan s c ∧ u.get (F.DMA_CH_DONE_DESCS c) = (s.get (F.DMA_CH_DONE_DESCS c) + 1) % 2 ^ 24 ∧
      u.get (F.DMA_CH_DONE_BAD c) = s.get (F.DMA_CH_DONE_BAD c) := by
  have descs : DmaField (F.DMA_CH_DONE_DESCS c) := dmaField_of_strided hc (fun _ => rfl) (by decide) (by decide)
  have bad : DmaField (F.DMA_CH_DONE_BAD c) := dmaField_of_strided hc (fun _ => rfl) (by decide) (by decide)
  obtain ⟨st, hst⟩ : ∃ st, st = if s.flag (F.DMA_CH_CTRL_STOP c) then 3 else 0 := ⟨_, rfl⟩
  unfold entryCounted at hu
  dsimp only at hu
  rw [← hst] at hu
  have wf1 : (s.wrapUp (F.DMA_CH_RING_CONS c) 1).regsWf = true := State.regsWf_put _ _ _ hs
  have wf2 : ((s.wrapUp (F.DMA_CH_RING_CONS c) 1).wrapUp (F.DMA_CH_DONE_DESCS c) 1).regsWf = true := State.regsWf_put _ _ _ wf1
  have wf3 := State.regsWf_put _ (F.DMA_CH_CTRL_STATE c) st wf2
  have value : (((s.wrapUp (F.DMA_CH_RING_CONS c) 1).wrapUp (F.DMA_CH_DONE_DESCS c) 1).put (F.DMA_CH_CTRL_STATE c) st).get (F.DMA_CH_DONE_DESCS c) =
      (s.get (F.DMA_CH_DONE_DESCS c) + 1) % 2 ^ 24 := by
    rw [State.get_put_of_apart (apart_of_zero c (fun _ => rfl) (fun _ => rfl) (by decide)) wf2, State.wrapUp_eq_put,
      State.get_put_mod (fits_of_zero c (fun _ => rfl) (by decide)) wf1, State.wrapUp_eq_put,
      State.get_put_of_apart (apart_of_zero c (fun _ => rfl) (fun _ => rfl) (by decide)) hs]
    rfl
  have kept : (((s.wrapUp (F.DMA_CH_RING_CONS c) 1).wrapUp (F.DMA_CH_DONE_DESCS c) 1).put (F.DMA_CH_CTRL_STATE c) st).get (F.DMA_CH_DONE_BAD c) =
      s.get (F.DMA_CH_DONE_BAD c) := by
    rw [State.get_put_of_apart (apart_of_zero c (fun _ => rfl) (fun _ => rfl) (by decide)) wf2, State.wrapUp_eq_put,
      State.get_put_of_apart (apart_of_zero c (fun _ => rfl) (fun _ => rfl) (by decide)) wf1, State.wrapUp_eq_put,
      State.get_put_of_apart (apart_of_zero c (fun _ => rfl) (fun _ => rfl) (by decide)) hs]
  have parts : OnDma c s (((s.wrapUp (F.DMA_CH_RING_CONS c) 1).wrapUp (F.DMA_CH_DONE_DESCS c) 1).put (F.DMA_CH_CTRL_STATE c) st) := .of_parts rfl rfl rfl
  have chan : dmaChan (((s.wrapUp (F.DMA_CH_RING_CONS c) 1).wrapUp (F.DMA_CH_DONE_DESCS c) 1).put (F.DMA_CH_CTRL_STATE c) st) c = dmaChan s c := rfl
  generalize ((s.wrapUp (F.DMA_CH_RING_CONS c) 1).wrapUp (F.DMA_CH_DONE_DESCS c) 1).put (F.DMA_CH_CTRL_STATE c) st = v at *
  cases event with
  | false =>
    subst hu
    exact ⟨wf3, parts, chan, value, kept⟩
  | true =>
    rw [if_pos rfl] at hu
    subst hu
    exact ⟨raised_wf wf3, parts.trans raise_onDma, raise_dmaChan.trans chan, (raise_dmaField descs wf3).trans value, (raise_dmaField bad wf3).trans kept⟩

theorem badCounted_result {code residue : Nat} (hc : c < 32) (small : code < 256) (hs : s.regsWf = true) (u : State) (hu : u = badCounted c code residue s) :
    OnDma c s u ∧ dmaChan u c = dmaChan s c ∧ u.get (F.DMA_CH_LAST_CODE c) = code ∧ u.get (F.DMA_CH_LAST_RESIDUE c) = satN 24 residue ∧
      u.get (F.DMA_CH_DONE_BAD c) = satN 8 (s.get (F.DMA_CH_DONE_BAD c) + 1) ∧ Flagged Src.DMA_DESC_BAD u := by
  have field {f : Nat → Fld} (hf : Strided f) (low : 0x90100 ≤ (f 0).addr) (high : (f 0).addr < 0x90120) : DmaField (f c) :=
    dmaField_of_strided hc hf low high
  unfold badCounted at hu
  have wf1 : (s.bump (F.DMA_CH_DONE_BAD c) 1).regsWf = true := State.regsWf_put _ _ _ hs
  have wf2 := State.regsWf_put _ (F.DMA_CH_LAST_CODE c) code wf1
  have wf3 := State.regsWf_put _ (F.DMA_CH_LAST_RESIDUE c) (satN 24 residue) wf2
  have codeV : (((s.bump (F.DMA_CH_DONE_BAD c) 1).put (F.DMA_CH_LAST_CODE c) code).put (F.DMA_CH_LAST_RESIDUE c) (satN 24 residue)).get
      (F.DMA_CH_LAST_CODE c) = code := by
    rw [State.get_put_of_apart (apart_of_zero c (fun _ => rfl) (fun _ => rfl) (by decide)) wf2]
    exact State.get_put_of_lt (fits_of_zero c (fun _ => rfl) (by decide)) small wf1
  have residueV : (((s.bump (F.DMA_CH_DONE_BAD c) 1).put (F.DMA_CH_LAST_CODE c) code).put (F.DMA_CH_LAST_RESIDUE c) (satN 24 residue)).get
      (F.DMA_CH_LAST_RESIDUE c) = satN 24 residue :=
    State.get_put_of_lt (fits_of_zero c (fun _ => rfl) (by decide)) (satN_lt 24 _) wf2
  have badV : (((s.bump (F.DMA_CH_DONE_BAD c) 1).put (F.DMA_CH_LAST_CODE c) code).put (F.DMA_CH_LAST_RESIDUE c) (satN 24 residue)).get
      (F.DMA_CH_DONE_BAD c) = satN 8 (s.get (F.DMA_CH_DONE_BAD c) + 1) := by
    rw [State.get_put_of_apart (apart_of_zero c (fun _ => rfl) (fun _ => rfl) (by decide)) wf2,
      State.get_put_of_apart (apart_of_zero c (fun _ => rfl) (fun _ => rfl) (by decide)) wf1]
    exact State.get_put_of_lt (fits_of_zero c (fun _ => rfl) (by decide)) (satN_lt 8 _) hs
  have parts : OnDma c s (((s.bump (F.DMA_CH_DONE_BAD c) 1).put (F.DMA_CH_LAST_CODE c) code).put (F.DMA_CH_LAST_RESIDUE c) (satN 24 residue)) :=
    .of_parts rfl rfl rfl
  have chan : dmaChan (((s.bump (F.DMA_CH_DONE_BAD c) 1).put (F.DMA_CH_LAST_CODE c) code).put (F.DMA_CH_LAST_RESIDUE c) (satN 24 residue)) c =
      dmaChan s c := rfl
  generalize ((s.bump (F.DMA_CH_DONE_BAD c) 1).put (F.DMA_CH_LAST_CODE c) code).put (F.DMA_CH_LAST_RESIDUE c) (satN 24 residue) = v at *
  subst hu
  exact ⟨parts.trans raise_onDma, raise_dmaChan.trans chan, (raise_dmaField (field (fun _ => rfl) (by decide) (by decide)) wf3).trans codeV,
    (raise_dmaField (field (fun _ => rfl) (by decide) (by decide)) wf3).trans residueV,
    (raise_dmaField (field (fun _ => rfl) (by decide) (by decide)) wf3).trans badV, flagged_raiseArg (by decide) wf3⟩

/-- The state in which a linear copy completes. -/
def linearMoved (d : Descriptor) (s : State) : State := noteEcc 0 0 (memWrite (copyWrites d.src.toNat d.dst.toNat d.srcLen.toNat s) s)

/-- A linear copy between memories. -/
structure LinearCopy (c : Nat) (r : RingEntry) (rest : List RingEntry) (b : State) : Prop where
  up : b.die.yardUp = true
  active : (dmaChan b c).active = true
  open_ : (dmaChan b c).gated = false
  ring : (dmaChan b c).ring = r :: rest
  linear : r.d.pattern.toNat = 0
  source : inPorts r.d.src.toNat = false
  target : inPorts r.d.dst.toNat = false
  from_ : (yardRegion r.d.src.toNat).isSome = true
  to_ : (yardRegion r.d.dst.toNat).isSome = true

theorem endDescriptor_linear {r : RingEntry} {rest : List RingEntry} {e : DmaEnd} {code : Nat} (h : LinearCopy c r rest b)
    (corrected : e.corrected = 0) (uncorrected : e.uncorrected = 0) (plain : code ≠ 5)
    (met : firstError [((r.d.src.toNat : Int), r.d.srcLen.toNat)] [((r.d.dst.toNat : Int), r.d.srcLen.toNat)] false e =
      (code, runBeats ((r.d.dst.toNat : Int), r.d.srcLen.toNat))) : endDescriptor c e b =
    completeDescriptor c code (if code = 0 then 0 else if code = 4 then 1 else 0) (linearMoved r.d b) := by
  have table : (offsetTable b r.d).getD [] = [] := by
    rw [offsetTable, if_pos (by rw [h.linear]; decide)]
    rfl
  obtain ⟨runsA, runsB⟩ := sideRuns_linear (off := []) h.linear
  have memA : ([((r.d.src.toNat : Int), r.d.srcLen.toNat)].any fun x => inPorts x.1) = false := by rw [List.any_cons, h.source]; rfl
  have memB : ([((r.d.dst.toNat : Int), r.d.srcLen.toNat)].any fun x => inPorts x.1) = false := by rw [List.any_cons, h.target]; rfl
  have writes : (runAddrs [((r.d.dst.toNat : Int), r.d.srcLen.toNat)]).zip
      (((runAddrs [((r.d.src.toNat : Int), r.d.srcLen.toNat)]).take r.d.srcLen.toNat).map (memByte b)) =
      copyWrites r.d.src.toNat r.d.dst.toNat r.d.srcLen.toNat b := by
    rw [runAddrs_single, runAddrs_single, List.take_of_length_le (by rw [List.length_map, upFrom_length]), List.map_map, List.zip_map']
    rfl
  unfold endDescriptor
  dsimp only
  rw [h.up, h.active, if_neg (by decide), h.ring]
  dsimp only
  rw [table, runsA, runsB, h.open_, met]
  dsimp only
  rw [memA, memB, if_neg Bool.false_ne_true, if_neg Bool.false_ne_true, if_neg (c := c ≤ 4 ∧ false = true) (fun k => Bool.false_ne_true k.2), if_neg plain, bytesOfBeats_single, writes,
    corrected, uncorrected, sideBeats_single, Nat.sub_self]
  rfl

theorem linearMoved_result {r : RingEntry} (hs : b.regsWf = true) (u : State)
    (hu : u = linearMoved r.d b) : u.regsWf = true ∧ u.now = b.now ∧ u.dma.channels = b.dma.channels ∧
      u.dma.mem = (memWrite (copyWrites r.d.src.toNat r.d.dst.toNat r.d.srcLen.toNat b) b).dma.mem ∧ ∀ g : Fld, DmaField g → u.get g = b.get g := by
  unfold linearMoved at hu
  obtain ⟨v, hv⟩ : ∃ v, v = memWrite (copyWrites r.d.src.toNat r.d.dst.toNat r.d.srcLen.toNat b) b := ⟨_, rfl⟩
  have same : v.regs = b.regs ∧ v.now = b.now ∧ v.dma.channels = b.dma.channels := by rw [hv]; exact ⟨rfl, rfl, rfl⟩
  rw [← hv] at hu ⊢
  obtain ⟨regs, now, channels⟩ := same
  have wf : v.regsWf = true := by rw [State.regsWf, regs]; exact hs
  obtain ⟨within_, -, -⟩ := noteEcc_result wf u hu
  have dma : u.dma = v.dma := within_.part .dma (by decide)
  refine ⟨within_.wf wf, Eq.trans (within_.part .now (by decide) : u.now = v.now) now, by rw [dma, channels], by rw [dma], fun g hg => ?_⟩
  refine (within_.get ?_).trans (State.get_of_regs regs g)
  have calm : (!(eventPlace g.addr || flagReg g.addr)) = true := hg.calm
  simp only [Bool.not_eq_true', Bool.or_eq_false_iff] at calm
  have other : g.addr ≠ Reg.DMA_ECC := by
    have := hg.low
    simp only [Reg.DMA_ECC]
    omega
  simp [Footprint.touches, other, calm]

/-- The entry of a linear copy that ends is counted, and its bytes stand at the destination. -/
structure LinearDone (c code residue : Nat) (r : RingEntry) (rest : List RingEntry) (b v : State) : Prop where
  wf : v.regsWf = true
  size : v.dma.channels.length = 32
  chan : dmaChan v c = { dmaChan b c with
    ring := rest
    active := false
    gated := false
    last := some (r.d, writtenBack c code residue r)
    service := (dmaChan v c).service }
  mem : v.dma.mem = (memWrite (copyWrites r.d.src.toNat r.d.dst.toNat r.d.srcLen.toNat b) b).dma.mem
  descs : v.get (F.DMA_CH_DONE_DESCS c) = (b.get (F.DMA_CH_DONE_DESCS c) + 1) % 2 ^ 24
  bad : v.get (F.DMA_CH_DONE_BAD c) = b.get (F.DMA_CH_DONE_BAD c)

theorem linearDone_of {r : RingEntry} {rest : List RingEntry} {code residue : Nat} (hc : c < 32)
    (size : b.dma.channels.length = 32) (hs : b.regsWf = true) : LinearDone c code residue r rest b
      (entryCounted c r.d.event (entryDone c r rest (writtenBack c code residue r) (linearMoved r.d b))) := by
  obtain ⟨wf1, -, channels, mem1, fields⟩ := linearMoved_result hs _ rfl
  have chan1 : dmaChan (linearMoved r.d b) c = dmaChan b c := by rw [dmaChan, dmaChan, channels]
  generalize linearMoved r.d b = s at *
  have size1 : s.dma.channels.length = 32 := by rw [channels, size]
  obtain ⟨chan2, on2⟩ := modDma_result (s := s) (fun ch => { ch with
    ring := rest
    active := false
    gated := false
    last := some (r.d, writtenBack c code residue r)
    service := ((s.now - ch.startedAt) :: ch.service).take 64 }) (hc.trans_eq size1.symm)
  have done : entryDone c r rest (writtenBack c code residue r) s = modDma c (fun ch => { ch with
    ring := rest
    active := false
    gated := false
    last := some (r.d, writtenBack c code residue r)
    service := ((s.now - ch.startedAt) :: ch.service).take 64 }) s := rfl
  have regs2 : (entryDone c r rest (writtenBack c code residue r) s).regs = s.regs := rfl
  rw [← done] at chan2 on2
  clear done
  generalize entryDone c r rest (writtenBack c code residue r) s = v at *
  have wf2 : v.regsWf = true := by rw [State.regsWf, regs2]; exact wf1
  obtain ⟨wf3, on3, chan3, descs, bad⟩ := entryCounted_result (event := r.d.event) hc wf2 _ rfl
  have all := on2.trans on3
  refine ⟨wf3, by rw [all.size, size1], ?_, by rw [all.mem, mem1], ?_, ?_⟩
  · rw [chan3, chan2, chan1]
  · rw [descs, State.get_of_regs regs2, fields _ (dmaField_of_strided hc (fun _ => rfl) (by decide) (by decide))]
  · rw [bad, State.get_of_regs regs2, fields _ (dmaField_of_strided hc (fun _ => rfl) (by decide) (by decide))]

/-- A linear copy that meets nothing completes. -/
theorem linear_completed {r : RingEntry} {rest : List RingEntry} {e : DmaEnd} (hc : c < 32) (none_ : e.err = .none) (corrected : e.corrected = 0)
    (uncorrected : e.uncorrected = 0) (h : LinearCopy c r rest b) (size : b.dma.channels.length = 32) (hs : b.regsWf = true) :
    LinearDone c 0 0 r rest b (endDescriptor c e b) := by
  have ring : (dmaChan (linearMoved r.d b) c).ring = r :: rest := by
    rw [dmaChan, (linearMoved_result hs _ rfl).2.2.1]
    exact h.ring
  rw [endDescriptor_linear h corrected uncorrected (by decide) ((firstError_linear h.from_ h.to_).1 none_), completeDescriptor_eq 0 _ ring, if_pos rfl,
    if_pos rfl]
  exact linearDone_of hc size hs

/-- The entry waits for its resubmission with its code. -/
theorem linear_readback {r : RingEntry} {rest : List RingEntry} {e : DmaEnd} (hc : c < 32) (err : e.err = .readback) (corrected : e.corrected = 0)
    (uncorrected : e.uncorrected = 0) (first : r.again = false) (h : LinearCopy c r rest b) (size : b.dma.channels.length = 32) (hs : b.regsWf = true)
    (u : State) (hu : u = endDescriptor c e b) : (dmaChan u c).ring = rest ∧ (dmaChan u c).bad = (dmaChan b c).bad ++ [(r, 4)] ∧
        u.get (F.DMA_CH_LAST_CODE c) = 4 ∧ u.get (F.DMA_CH_LAST_RESIDUE c) = 1 ∧
        u.get (F.DMA_CH_DONE_BAD c) = satN 8 (b.get (F.DMA_CH_DONE_BAD c) + 1) ∧ Flagged Src.DMA_DESC_BAD u := by
  have ring : (dmaChan (linearMoved r.d b) c).ring = r :: rest := by
    rw [dmaChan, (linearMoved_result hs _ rfl).2.2.1]
    exact h.ring
  rw [endDescriptor_linear h corrected uncorrected (by decide) ((firstError_linear h.from_ h.to_).2 err h.target), completeDescriptor_eq 4 _ ring,
    if_neg (by decide), if_neg (by decide), if_pos rfl] at hu
  have done := linearDone_of (r := r) (rest := rest) (code := 4) (residue := 1) hc size hs
  generalize entryCounted c r.d.event (entryDone c r rest (writtenBack c 4 1 r) (linearMoved r.d b)) = v at *
  obtain ⟨on, chan, code, residue, bad, told⟩ := badCounted_result (code := 4) (residue := 1) hc (by decide) done.wf _ rfl
  generalize badCounted c 4 1 v = w at *
  have waits : descriptorBad c r 4 w = modDma c (fun ch => { ch with bad := ch.bad ++ [(r, 4)] }) w := by
    rw [descriptorBad, first, if_neg Bool.false_ne_true, if_neg (by decide)]
  obtain ⟨chanU, -⟩ := modDma_result (s := w) (fun ch => { ch with bad := ch.bad ++ [(r, 4)] }) (by rw [on.size, done.size]; exact hc)
  have regs : (modDma c (fun ch => { ch with bad := ch.bad ++ [(r, 4)] }) w).regs = w.regs := rfl
  rw [waits] at hu
  rw [← hu] at chanU regs
  refine ⟨?_, ?_, (State.get_of_regs regs _).trans code, (State.get_of_regs regs _).trans (residue.trans (by decide)), ?_, (flagged_of_regs regs).mpr told⟩
  · rw [chanU, chan, done.chan]
  · rw [chanU, chan, done.chan]
  · rw [State.get_of_regs regs, bad, done.bad]

/-! ### Resubmission -/

/-- Whether a BAD descriptor may be submitted again: one with code GATE waits for its island. -/
def mayGo (c : Nat) (s : State) (e : RingEntry × Nat) : Bool :=
  e.2 != 6 || (match dmaIsland c with
    | some g => islandOpen s g
    | none => true)

theorem resubmit_eq (c : Nat) (s : State) : resubmit c s =
    if (!s.die.yardUp || decide (256 ≤ (dmaChan s c).ring.length)) = true then s
    else ((dmaChan s c).bad.find? (mayGo c s)).elim s
      fun e => offerDescriptor c true e.1.d (modDma c (fun ch => { ch with bad := removeFirst (mayGo c s) ch.bad }) s) := by
  have cases_ : resubmit c s = if (!s.die.yardUp || decide (256 ≤ (dmaChan s c).ring.length)) = true then s
      else match (dmaChan s c).bad.find? (mayGo c s) with
        | none => s
        | some e => offerDescriptor c true e.1.d (modDma c (fun ch => { ch with bad := removeFirst (mayGo c s) ch.bad }) s) := rfl
  rw [cases_]
  split
  · rfl
  · cases (dmaChan s c).bad.find? (mayGo c s) <;> rfl

/-- A BAD descriptor whose code is not GATE goes again. -/
theorem resubmit_result {r : RingEntry} {code : Nat} (hc : c < 32) (other : code ≠ 6) (up : b.die.yardUp = true) (ring : (dmaChan b c).ring = [])
    (bad : (dmaChan b c).bad = [(r, code)]) (size : b.dma.channels.length = 32) (hs : b.regsWf = true) (u : State) (hu : u = resubmit c b) :
    (dmaChan u c).bad = [] ∧ (∃ e, (dmaChan u c).ring = [e] ∧ e.d = r.d ∧ e.again = true) ∧ u.dma.mem = b.dma.mem := by
  obtain ⟨may, goes, ran⟩ : ∃ may : RingEntry × Nat → Bool, may (r, code) = true ∧
      resubmit c b = offerDescriptor c true r.d (modDma c (fun ch => { ch with bad := removeFirst may ch.bad }) b) := by
    refine ⟨mayGo c b, by rw [mayGo, bne_iff_ne.mpr other, Bool.true_or], ?_⟩
    rw [resubmit_eq, up, ring, bad, List.find?_cons_of_pos (by rw [mayGo, bne_iff_ne.mpr other, Bool.true_or])]
    rfl
  obtain ⟨chan, on⟩ := modDma_result (s := b) (fun ch => { ch with bad := removeFirst may ch.bad }) (hc.trans_eq size.symm)
  have wf : (modDma c (fun ch => { ch with bad := removeFirst may ch.bad }) b).regsWf = true := hs
  rw [ran] at hu
  generalize modDma c (fun ch => { ch with bad := removeFirst may ch.bad }) b = v at *
  have ringV : (dmaChan v c).ring = [] := by rw [chan]; exact ring
  have badV : (dmaChan v c).bad = [] := by
    rw [chan]
    show removeFirst may (dmaChan b c).bad = []
    rw [bad, removeFirst, if_pos goes]
  obtain ⟨chanU, onU, -⟩ := offerDescriptor_result (again := true) (d := r.d) hc (on.size.trans size) (by rw [ringV]; decide) wf u hu
  refine ⟨by rw [chanU]; exact badV, ⟨offeredEntry c true r.d v, ?_, rfl, rfl⟩, onU.mem.trans on.mem⟩
  rw [chanU]
  show (dmaChan v c).ring ++ _ = _
  rw [ringV]
  rfl

/-! ### Pages -/

theorem patrolPass_again {page cor : Nat} (small : page < 3932160) (some_ : 0 < cor) (hs : b.regsWf = true) (up : b.die.yardUp = true)
    (seen : b.dma.lastErr.contains page = true) (fresh : b.dma.marked.contains page = false) (kept : isRetired 6 0 page b = false) (u : State)
    (hu : u = patrolPass [(page, cor, 0)] b) : u.dma.marked = b.dma.marked ++ [page] ∧ u.dma.lastErr = [page] ∧
      u.get F.DMA_ECC_CORRECTED = satN 16 (b.get F.DMA_ECC_CORRECTED + cor) := by
  obtain ⟨within_, count, retired, here⟩ := noteEcc_result (cor := cor) hs _ rfl
  have errs : ([(page, cor, 0)].filter (fun e : Nat × Nat × Nat => decide (0 < e.2.1 + e.2.2) && decide (e.1 < 3932160))).map (·.1) = [page] := by
    rw [List.filter_cons_of_pos (by rw [decide_eq_true (show 0 < cor + 0 by omega), decide_eq_true small]; rfl)]
    rfl
  have ran : patrolPass [(page, cor, 0)] b =
      { noteEcc cor 0 b with dma := { (noteEcc cor 0 b).dma with
        lastErr := [page]
        marked := (noteEcc cor 0 b).dma.marked ++ [page].filter (fun p => (noteEcc cor 0 b).dma.lastErr.contains p &&
          !(noteEcc cor 0 b).dma.marked.contains p && !isRetired 6 0 p (noteEcc cor 0 b)) } } := by
    unfold patrolPass
    rw [up, if_neg (by decide)]
    dsimp only
    rw [errs]
    rfl
  rw [ran] at hu
  generalize noteEcc cor 0 b = v at *
  have dma : v.dma = b.dma := within_.part .dma (by decide)
  have two : [page].filter (fun p => v.dma.lastErr.contains p && !v.dma.marked.contains p && !isRetired 6 0 p v) = [page] := by
    rw [List.filter_cons_of_pos (by rw [dma, seen, fresh, isRetired_congr retired here, kept]; rfl)]
    rfl
  rw [hu]
  refine ⟨?_, rfl, count⟩
  show v.dma.marked ++ _ = _
  rw [two, dma]

theorem retirePage_idle {page : Nat} (idle : b.dma.marked.contains page = false ∨ pageInUse b page = true) : retirePage page b = b := by
  unfold retirePage
  refine if_pos ?_
  obtain fresh | used := idle
  · rw [fresh, Bool.not_false, Bool.or_true, Bool.true_or]
  · rw [used, Bool.or_true]

theorem retirePage_retires {page : Nat} (up : b.die.yardUp = true) (marked : b.dma.marked.contains page = true) (free : pageInUse b page = false) (u : State)
    (hu : u = retirePage page b) : isRetired 6 0 page u = true ∧ u.dma.marked.contains page = false := by
  obtain ⟨v, hv⟩ : ∃ v : State, v = { b with dma := { b.dma with marked := b.dma.marked.filter (fun p => p != page) } } := ⟨_, rfl⟩
  have ran : retirePage page b = fault 0x49 2 Src.EVR_RETIRED 0xFFFF page 0 0 (retire 6 0 0 page v) := by
    unfold retirePage
    rw [up, marked, free, if_neg (by decide), hv]
  have dmaV : v.dma.marked = b.dma.marked.filter (fun p => p != page) := by rw [hv]
  have within_ : Within ⟨fun a => a == Reg.EVR_RETIRE, [.log]⟩ v u := by
    rw [hu, ran]
    exact fault_within (retire_within .refl (by decide) (by decide)) (by decide)
  have dma : u.dma = v.dma := within_.part .dma (by decide)
  have retired := retire_isRetired 6 0 0 page v
  refine ⟨?_, ?_⟩
  · rw [hu, ran, isRetired_congr (fault_ev_retired ..) (fault_ev_retiredHere ..)]
    exact retired
  · rw [dma, dmaV]
    simp

/-! ### The units of a stream -/

/-- A field of the registers of the data streams. -/
theorem strided_stream {f g : Nat → Fld} (n : Nat) (hf : ∀ k, f k = ⟨(f 0).addr + 0x10 * k, (f 0).lo, (f 0).width⟩)
    (hg : ∀ k, g k = ⟨(g 0).addr + 0x10 * k, (g 0).lo, (g 0).width⟩) (h : (f 0).apart (g 0) = true) : (f n).apart (g n) = true := by
  rw [hf n, hg n]
  obtain ⟨fits, apart⟩ := Fld.apart_iff.mp h
  refine Fld.apart_iff.mpr ⟨fits, ?_⟩
  simp only [Fld.Apart, ne_eq, Nat.add_right_cancel_iff] at apart ⊢
  exact apart

theorem dataStreams_length_of_sound (h : s.sound = true) : s.dma.streams.length = 4 := by
  simp only [State.sound, State.sized, Bool.and_eq_true, beq_iff_eq] at h
  tauto

/-- Beside the streams, an operation leaves registers, sessions and what is sent. -/
structure DataKept (s u : State) : Prop where
  regs : u.regs = s.regs
  pk : u.pk = s.pk
  out : u.out = s.out
  size : u.dma.streams.length = s.dma.streams.length

theorem modData_result {n : Nat} (f : DataStream → DataStream) (hn : n < s.dma.streams.length) :
    dataStream (modData n f s) n = f (dataStream s n) ∧ DataKept s (modData n f s) :=
  ⟨nth_setNth_same _ _ hn, rfl, rfl, rfl, setNth_length _ _ _⟩

/-- The header of a unit's datagram. -/
def unitHeader (n : Nat) (d : DataStream) (x : StreamUnit) (gap : Bool) : Bytes :=
  leBytes 2 0x5A44 ++ leBytes 1 n ++
    leBytes 1 (b2n (d.offset == 0) + 2 * b2n (decide (x.data.length ≤ d.offset + 1408)) + 4 * b2n gap) ++
    leBytes 4 x.unit ++ leBytes 4 d.offset ++ leBytes 8 x.stamp ++ leBytes 2 ((x.data.drop d.offset).take 1408).length ++ leBytes 2 0

theorem unitDatagram_whole {n : Nat} {d : DataStream} {x : StreamUnit} {gap : Bool} (start : d.offset = 0) (small : x.data.length ≤ 1408) :
    (unitDatagram n d x gap).length = 24 + x.data.length ∧ (unitDatagram n d x gap).drop 24 = x.data ∧ fieldAt (unitDatagram n d x gap) 0 2 = 0x5A44 := by
  have shape : unitDatagram n d x gap = unitHeader n d x gap ++ x.data := by
    show unitHeader n d x gap ++ (x.data.drop d.offset).take 1408 = _
    rw [start, List.drop_zero, List.take_of_length_le small]
  have header : (unitHeader n d x gap).length = 24 := by
    simp only [unitHeader, List.length_append, leBytes_length]
  rw [shape]
  refine ⟨by rw [List.length_append, header], by rw [← header, List.drop_left], ?_⟩
  have magic : ((unitHeader n d x gap ++ x.data).drop 0).take 2 = leBytes 2 0x5A44 := by
    rw [List.drop_zero, unitHeader]
    simp only [List.append_assoc]
    exact List.take_left' (leBytes_length 2 _)
  rw [fieldAt, magic]
  decide

theorem sendUnits_empty {n fuel : Nat} (queue : (dataStream s n).queue = []) : sendUnits n (fuel + 1) s = s := by
  rw [sendUnits]
  dsimp only
  rw [queue]

/-- The stream behind a unit that is sent whole. -/
def unitLeft (rest : List StreamUnit) (d : DataStream) : DataStream := { d with queue := rest, offset := 0 }

theorem sendUnits_done {n fuel : Nat} {x : StreamUnit} {rest : List StreamUnit} (queue : (dataStream s n).queue = x :: rest)
    (done : x.data.length ≤ (dataStream s n).offset) :
    sendUnits n (fuel + 1) s = sendUnits n fuel ((modData n (unitLeft rest) s).wrapUp (F.DMA_STR_UNITS_UNITS n) 1) := by
  rw [sendUnits]
  dsimp only
  rw [queue]
  exact if_pos done

/-- The stream behind a datagram to a port. -/
def partLeft (cost : Nat) (gap : Bool) (d : DataStream) : DataStream :=
  { d with offset := d.offset + 1408, used := d.used + cost, gap := gap, lost := if d.offset = 0 then false else d.lost }

theorem sendUnits_begins {n fuel : Nat} {x : StreamUnit} {rest : List StreamUnit} {bs : Bytes} (queue : (dataStream s n).queue = x :: rest)
    (start : (dataStream s n).offset = 0) (some_ : 0 < x.data.length) (sink : s.flag (F.DMA_STR_CFG_SINK n) = false)
    (hbs : bs = unitDatagram n (dataStream s n) x (dataStream s n).lost)
    (cheap : (dataStream s n).used + bs.length ≤ s.get (F.DMA_STR_PORT_RATE n)) : sendUnits n (fuel + 1) s =
      sendUnits n fuel (sendDatagram n bs (modData n (partLeft bs.length (dataStream s n).lost) s)) := by
  rw [sendUnits]
  dsimp only
  rw [queue]
  dsimp only
  rw [if_neg (by omega), if_pos start, ← hbs, sink, if_neg Bool.false_ne_true, if_neg (Nat.not_lt.mpr cheap)]
  rfl

theorem sendDatagram_host {n ip : Nat} {bs : Bytes} (sink : s.flag (F.DMA_STR_CFG_SINK n) = false)
    (address : sessionAddress s (s.get (F.DMA_STR_CFG_SESSION n)) = some ip) :
    sendDatagram n bs s = emit (.datagram ip (s.get (F.DMA_STR_PORT_UDP_PORT n)) bs) s := by
  rw [sendDatagram, sink, Bool.false_and, if_neg Bool.false_ne_true, address]

/-- The first datagram of a unit to a session's port. -/
theorem unit_begun {n ip : Nat} {bs : Bytes} (hn : n < s.dma.streams.length) (sink : s.flag (F.DMA_STR_CFG_SINK n) = false)
    (address : sessionAddress s (s.get (F.DMA_STR_CFG_SESSION n)) = some ip) (u : State)
    (hu : u = sendDatagram n bs (modData n (partLeft bs.length (dataStream s n).lost) s)) :
    dataStream u n = partLeft bs.length (dataStream s n).lost (dataStream s n) ∧ u.regs = s.regs ∧
      u.dma.streams.length = s.dma.streams.length ∧ u.out = s.out ++ [.datagram ip (s.get (F.DMA_STR_PORT_UDP_PORT n)) bs] := by
  obtain ⟨stream, on⟩ := modData_result (partLeft bs.length (dataStream s n).lost) hn
  generalize modData n (partLeft bs.length (dataStream s n).lost) s = v at *
  have addressV : sessionAddress v (v.get (F.DMA_STR_CFG_SESSION n)) = some ip := by
    rw [State.get_of_regs on.regs, sessionAddress, on.pk]
    exact address
  rw [sendDatagram_host ((congrArg (fun m => m != 0) (State.get_of_regs on.regs _)).trans sink) addressV] at hu
  subst hu
  refine ⟨stream, on.regs, on.size, ?_⟩
  show v.out ++ [.datagram ip (v.get (F.DMA_STR_PORT_UDP_PORT n)) bs] = _
  rw [on.out, State.get_of_regs on.regs]

/-- The stream in a millisecond of device time. -/
def inMs (m : Nat) (d : DataStream) : DataStream := if d.msNo = m then d else { d with msNo := m, used := 0 }

/-- A unit of one datagram is sent to the session's port and counted. -/
theorem streamUnitSend_one {n ip : Nat} {x : StreamUnit} (hn : n < 4) (some_ : 0 < x.data.length) (small : x.data.length ≤ 1408)
    (size : b.dma.streams.length = 4) (hs : b.regsWf = true) (silent : b.out = []) (up : b.die.yardUp = true)
    (opened : b.flag (F.DMA_STR_CFG_OPEN n) = true) (sink : b.flag (F.DMA_STR_CFG_SINK n) = false) (queue : (dataStream b n).queue = [x])
    (start : (dataStream b n).offset = 0) (fresh : (dataStream b n).msNo ≠ deviceTime b / ms)
    (cheap : 24 + x.data.length ≤ b.get (F.DMA_STR_PORT_RATE n))
    (address : sessionAddress b (b.get (F.DMA_STR_CFG_SESSION n)) = some ip) (u : State) (hu : u = streamUnitSend n b) :
    (dataStream u n).queue = [] ∧ u.get (F.DMA_STR_UNITS_UNITS n) = (b.get (F.DMA_STR_UNITS_UNITS n) + 1) % 2 ^ 32 ∧
      ∃ bs, u.out = [.datagram ip (b.get (F.DMA_STR_PORT_UDP_PORT n)) bs] ∧ bs.length = 24 + x.data.length ∧
        bs.drop 24 = x.data ∧ fieldAt bs 0 2 = 0x5A44 := by
  have ran : streamUnitSend n b = sendUnits n (131069 + 1 + 1 + 1) (modData n (inMs (deviceTime b / ms)) b) := by
    rw [streamUnitSend, up, opened, if_neg (by decide)]
    rfl
  rw [ran] at hu
  clear ran
  obtain ⟨stream, on⟩ := modData_result (inMs (deviceTime b / ms)) (hn.trans_eq size.symm)
  rw [inMs, if_neg fresh] at stream
  generalize modData n (inMs (deviceTime b / ms)) b = v at *
  have queueV : (dataStream v n).queue = [x] := by rw [stream]; exact queue
  have startV : (dataStream v n).offset = 0 := by rw [stream]; exact start
  have usedV : (dataStream v n).used = 0 := by rw [stream]
  have sinkV : v.flag (F.DMA_STR_CFG_SINK n) = false := (congrArg (fun m => m != 0) (State.get_of_regs on.regs _)).trans sink
  have addressV : sessionAddress v (v.get (F.DMA_STR_CFG_SESSION n)) = some ip := by
    rw [State.get_of_regs on.regs, sessionAddress, on.pk]
    exact address
  obtain ⟨bs, hbs⟩ : ∃ bs, bs = unitDatagram n (dataStream v n) x (dataStream v n).lost := ⟨_, rfl⟩
  obtain ⟨long, data, magic⟩ := unitDatagram_whole (n := n) (gap := (dataStream v n).lost) startV small
  rw [← hbs] at long data magic
  rw [sendUnits_begins queueV startV some_ sinkV hbs (by rw [usedV, State.get_of_regs on.regs, long, Nat.zero_add]; exact cheap)] at hu
  obtain ⟨streamW, regsW, sizeW, outW⟩ := unit_begun (by rw [on.size, size]; exact hn) sinkV addressV _ rfl
  generalize sendDatagram n bs (modData n (partLeft bs.length (dataStream v n).lost) v) = w at *
  have queueW : (dataStream w n).queue = [x] := by rw [streamW]; exact queueV
  rw [sendUnits_done queueW (by
    rw [streamW]
    show _ ≤ (dataStream v n).offset + 1408
    omega)] at hu
  obtain ⟨streamX, onX⟩ := modData_result (unitLeft []) (s := w) (n := n) (by rw [sizeW, on.size, size]; exact hn)
  generalize modData n (unitLeft []) w = y at *
  have regs : y.regs = b.regs := onX.regs.trans (regsW.trans on.regs)
  have wf : y.regsWf = true := by rw [State.regsWf, regs]; exact hs
  have done : (dataStream (y.wrapUp (F.DMA_STR_UNITS_UNITS n) 1) n).queue = [] := by
    show (dataStream y n).queue = []
    rw [streamX]
    rfl
  rw [sendUnits_empty done] at hu
  subst hu
  refine ⟨done, ?_, bs, ?_, long, data, magic⟩
  · rw [State.wrapUp, State.get_put_mod (f := F.DMA_STR_UNITS_UNITS n) rfl wf, State.get_of_regs regs]
    rfl
  · show y.out = _
    rw [onX.out, outW, on.out, silent, State.get_of_regs on.regs]
    rfl

/-! ### The rows -/

theorem streamUnitSend_closed {n : Nat} (closed : b.flag (F.DMA_STR_CFG_OPEN n) = false) : streamUnitSend n b = b := by
  unfold streamUnitSend
  rw [closed, Bool.not_false, Bool.or_true, if_pos rfl]

/-- One descriptor is offered, and the channel starts its next one where it may. -/
theorem descriptorStart_one {d : Descriptor} (hc : c < 32) (up : s.die.yardUp = true) :
    (if c < 32 ∧ s.die.yardUp = true then startDescriptor c (foldOver (fun s d => offerDescriptor c false d s) s [d]) else s) =
      startDescriptor c (offerDescriptor c false d s) := if_pos ⟨hc, up⟩

/-- On a reserved channel a descriptor that is in order starts at once. -/
theorem descriptor_starts {d : Descriptor} (hc : c < 32) (reserved : dmaClass c = 0) (size : b.dma.channels.length = 32) (hs : b.regsWf = true)
    (up : b.die.yardUp = true) (ring : (dmaChan b c).ring = []) (idle : (dmaChan b c).active = false) (runs : b.flag (F.DMA_CH_CTRL_STOP c) = false)
    (whole : malformed b d = false) (u : State) (hu : u = startDescriptor c (offerDescriptor c false d b)) :
    (dmaChan u c).active = true ∧ (dmaChan u c).startedAt = b.now ∧ u.get (F.DMA_CH_CTRL_STATE c) = 1 ∧
      (∃ e, (dmaChan u c).ring = [e] ∧ e.d = d ∧ e.again = false ∧ e.at_ = b.now) ∧
      u.get (F.DMA_CH_RING_PROD c) = (b.get (F.DMA_CH_RING_PROD c) + 1) % 65536 ∧ u.dma.mem = b.dma.mem ∧
      ∀ k, k < 32 → k ≠ c → dmaChan u k = dmaChan b k := by
  obtain ⟨chanV, onV, wfV, prodV, farV⟩ := offerDescriptor_result (again := false) (d := d) hc size (by rw [ring]; decide) hs _ rfl
  generalize offerDescriptor c false d b = v at *
  have ringV : (dmaChan v c).ring = [offeredEntry c false d b] := by rw [chanV]; show (dmaChan b c).ring ++ _ = _; rw [ring]; rfl
  have runsV : v.flag (F.DMA_CH_CTRL_STOP c) = false :=
    (congrArg (fun m => m != 0) (farV _ (apart_of_zero c (fun _ => rfl) (fun _ => rfl) (by decide)))).trans runs
  have granted := dmaGranted_reserved (by rw [ringV]; exact List.cons_ne_nil _ _) (by rw [chanV]; exact idle) runsV reserved
  obtain ⟨chanU, onU, stateU, farU⟩ := startDescriptor_result hc (onV.size.trans size) (onV.die ▸ up) ringV granted
    ((malformed_of_mem onV.mem d).trans whole) wfV u hu
  have on := onV.trans onU
  refine ⟨by rw [chanU], by rw [chanU]; exact onV.now, stateU, ⟨offeredEntry c false d b, by rw [chanU]; exact ringV, rfl, rfl, rfl⟩, ?_, on.mem,
    fun k _ ne => on.others k ne⟩
  rw [farU _ (apart_of_zero c (fun _ => rfl) (fun _ => rfl) (by decide)) (apart_of_zero c (fun _ => rfl) (fun _ => rfl) (by decide)), prodV]

/-- A descriptor on a stopped channel waits. -/
theorem descriptor_waits {d : Descriptor} (hc : c < 32) (size : b.dma.channels.length = 32) (hs : b.regsWf = true)
    (stopped : b.flag (F.DMA_CH_CTRL_STOP c) = true) (room : (dmaChan b c).ring.length < 256) (u : State)
    (hu : u = startDescriptor c (offerDescriptor c false d b)) :
    (dmaChan u c).active = (dmaChan b c).active ∧ (dmaChan u c).ring.length = (dmaChan b c).ring.length + 1 := by
  obtain ⟨chanV, onV, wfV, prodV, farV⟩ := offerDescriptor_result (again := false) (d := d) hc size room hs _ rfl
  generalize offerDescriptor c false d b = v at *
  have stoppedV : v.flag (F.DMA_CH_CTRL_STOP c) = true :=
    (congrArg (fun m => m != 0) (farV _ (apart_of_zero c (fun _ => rfl) (fun _ => rfl) (by decide)))).trans stopped
  rw [hu, startDescriptor_stopped stoppedV, chanV]
  exact ⟨rfl, List.length_append⟩

end

/-- Settles O50: each row is the one operation on its channel, page or stream; a linear copy between memories meets no error of its own. -/
theorem transferRows : Obligations.TransferRows := by
  refine ⟨fun c d hc reserved => ?_, fun c d hc => ?_, fun c e r rest lastA lastB hc none_ cor unc => ?_,
    fun c e r rest lastA lastB hc err cor unc => ?_, fun c r code hc other => ?_, fun page cor small some_ => ?_, fun page => ?_, fun page => ?_,
    fun n hn => ?_, fun n x ip hn some_ small => ?_⟩
  case refine_1 =>
    refine does_of_run (fun s => if c < 32 ∧ s.die.yardUp = true then startDescriptor c (foldOver (fun s d => offerDescriptor c false d s) s [d]) else s)
      (fun _ _ => rfl) fun b ⟨sound, up, ring, idle, runs, whole⟩ => ?_
    exact descriptor_starts hc reserved (dmaChannels_length_of_sound sound) (regsWf_of_sound sound) up ring idle runs whole _ (descriptorStart_one hc up)
  case refine_2 =>
    refine does_of_run (fun s => if c < 32 ∧ s.die.yardUp = true then startDescriptor c (foldOver (fun s d => offerDescriptor c false d s) s [d]) else s)
      (fun _ _ => rfl) fun b ⟨sound, up, stopped, room⟩ => ?_
    exact descriptor_waits hc (dmaChannels_length_of_sound sound) (regsWf_of_sound sound) stopped room _ (descriptorStart_one hc up)
  case refine_3 =>
    refine does_of_run (fun s => if c < 32 then endDescriptor c e s else s) (fun _ _ => rfl)
      fun b ⟨sound, up, active, open_, ring, linear, source, target, from_, to_⟩ => ?_
    have copy : LinearCopy c r rest b := ⟨up, active, open_, ring, linear, source, target, by rw [from_]; rfl, by rw [to_]; rfl⟩
    have done := linear_completed hc none_ cor unc copy (dmaChannels_length_of_sound sound) (regsWf_of_sound sound)
    rw [show (if c < 32 then endDescriptor c e b else b) = endDescriptor c e b from if_pos hc]
    obtain ⟨written, kept⟩ := copyWrites_result (memory_of_sound sound) _ done.mem
    exact ⟨by rw [done.chan], by rw [done.chan], ⟨_, by rw [done.chan], rfl, rfl, rfl⟩, done.descs, done.bad, written, kept⟩
  case refine_4 =>
    refine does_of_run (fun s => if c < 32 then endDescriptor c e s else s) (fun _ _ => rfl)
      fun b ⟨sound, up, active, open_, ring, first, linear, source, target, from_, to_⟩ => ?_
    have copy : LinearCopy c r rest b := ⟨up, active, open_, ring, linear, source, target, by rw [from_]; rfl, by rw [to_]; rfl⟩
    exact linear_readback hc err cor unc first copy (dmaChannels_length_of_sound sound) (regsWf_of_sound sound) _ (if_pos hc)
  case refine_5 =>
    exact does_of_run (fun s => if c < 32 then resubmit c s else s) (fun _ _ => rfl) fun b ⟨sound, up, ring, bad⟩ =>
      resubmit_result hc other up ring bad (dmaChannels_length_of_sound sound) (regsWf_of_sound sound) _ (if_pos hc)
  case refine_6 =>
    exact does_of_run (patrolPass [(page, cor, 0)]) (fun _ _ => rfl) fun b ⟨sound, up, seen, fresh, kept⟩ =>
      patrolPass_again small some_ (regsWf_of_sound sound) up seen fresh kept _ rfl
  case refine_7 =>
    exact does_of_run (retirePage page) (fun _ _ => rfl) fun b ⟨up, marked, free⟩ => retirePage_retires up marked free _ rfl
  case refine_8 =>
    exact does_of_run (retirePage page) (fun _ _ => rfl) fun b idle => retirePage_idle idle
  case refine_9 =>
    exact does_of_run (fun s => if n < 4 then streamUnitSend n s else s) (fun _ _ => rfl) fun b closed =>
      (if_pos hn).trans (streamUnitSend_closed closed)
  case refine_10 =>
    exact does_sent (fun s => if n < 4 then streamUnitSend n s else s) (fun _ _ => rfl)
      fun b silent ⟨sound, up, opened, sink, queue, start, fresh, cheap, address⟩ =>
      streamUnitSend_one hn some_ small (dataStreams_length_of_sound sound) (regsWf_of_sound sound) silent up opened sink queue start fresh cheap address _
        (if_pos hn)

end Sys2Proof.Machine

end

section
/-!
The CAN controllers: messages that fall due, frames sent and in error, bus-off and its end, the address claim, reception and time-outs
(R677–R698).
-/

namespace Sys2Proof.Machine

/-! ### The registers of a controller -/

/-- A register among those of the controllers. -/
def busReg (a : Nat) : Bool := decide (0x50000 ≤ a) && decide (a < 0x50400)

theorem busReg_touches {w : Footprint} {a : Nat} (ha : busReg a = true) (free : w.reg a = false) : w.touches a = false := by
  obtain ⟨low, high⟩ := (Bool.and_eq_true _ _).mp ha
  have low := of_decide_eq_true low
  have high := of_decide_eq_true high
  exact touches_eq_false free (by omega) (by simp [raisePlaces]; omega)

theorem apart_of_bus {f g : Nat → Fld} {n : Nat} (hn : n < 4) (h : ∀ m < 4, (f m).apart (g m) = true) : (f n).apart (g n) = true := h n hn

theorem fits_of_bus {f : Nat → Fld} {n : Nat} (hn : n < 4) (h : ∀ m < 4, (f m).fits = true) : (f n).fits = true := h n hn

theorem apart_to_buffer {f : Nat → Fld} {g : Nat → Nat → Fld} {n k : Nat} (hn : n < 4) (hk : k < 3)
    (h : ∀ m < 4, ∀ j < 3, (f m).apart (g m j) = true) : (f n).apart (g n k) = true := h n hn k hk

theorem apart_of_buffer {f : Nat → Nat → Fld} {g : Nat → Fld} {n k : Nat} (hn : n < 4) (hk : k < 3)
    (h : ∀ m < 4, ∀ j < 3, (f m j).apart (g m) = true) : (f n k).apart (g n) = true := h n hn k hk

theorem apart_in_buffer {f g : Nat → Nat → Fld} {n k : Nat} (hn : n < 4) (hk : k < 3) (h : ∀ m < 4, ∀ j < 3, (f m j).apart (g m j) = true) :
    (f n k).apart (g n k) = true := h n hn k hk

theorem fits_of_buffer {f : Nat → Nat → Fld} {n k : Nat} (hn : n < 4) (hk : k < 3) (h : ∀ m < 4, ∀ j < 3, (f m j).fits = true) :
    (f n k).fits = true := h n hn k hk

theorem apart_of_buffers {f : Nat → Nat → Fld} {n k j : Nat} (hn : n < 4) (hk : k < 3) (hj : j < 3) (other : j ≠ k)
    (h : ∀ m < 4, ∀ k < 3, ∀ j < 3, j ≠ k → (f m k).apart (f m j) = true) : (f n k).apart (f n j) = true := h n hn k hk j hj other

section
variable {b s t u : State} {n k : Nat}

/-- A register of a controller that an operation does not write reads the same behind it. -/
theorem Within.busGet {w : Footprint} {g : Fld} (h : Within w b u) (hg : busReg g.addr = true) (free : w.reg g.addr = false) : u.get g = b.get g :=
  h.get (busReg_touches hg free)

/-! ### The buffers of a controller -/

theorem controls_length_of_sound (h : s.sound = true) : s.can.controls.length = 4 := by
  simp only [State.sound, State.sized, Bool.and_eq_true, beq_iff_eq] at h
  tauto

theorem bufs_length_of_sound (h : s.sound = true) (hn : n < 4) : (control s n).bufs.length = 3 := by
  have size := controls_length_of_sound h
  have all : s.can.controls.all (fun c => c.bufs.length == 3) = true := by
    simp only [State.sound, State.sized, Bool.and_eq_true] at h
    tauto
  have mem : control s n ∈ s.can.controls := by
    rw [control, nth_eq_getD, List.getD_eq_getElem _ _ (by omega)]
    exact List.getElem_mem _
  exact beq_iff_eq.mp (List.all_eq_true.mp all _ mem)

theorem control_modControl (f : CanControl → CanControl) (hn : n < s.can.controls.length) : control (modControl n f s) n = f (control s n) :=
  nth_setNth_same _ _ hn

theorem control_modBuffer (f : TxBuffer → TxBuffer) (hn : n < s.can.controls.length) :
    control (modBuffer n k f s) n = { control s n with bufs := setNth (control s n).bufs k (f (txBuffer s n k)) } := control_modControl _ hn

theorem txBuffer_of_control (h : control u n = control s n) : txBuffer u n k = txBuffer s n k := by rw [txBuffer, txBuffer, h]

theorem control_of_can (h : u.can = s.can) : control u n = control s n := by rw [control, control, h]

theorem txPending_iff : txPending s n k = true ↔ s.get (txState n k) = 1 := beq_iff_eq

theorem txPending_of_get (h : u.get (txState n k) = s.get (txState n k)) : txPending u n k = txPending s n k := by rw [txPending, txPending, h]

/-- A fold that keeps what it has or takes the element ends with an element or with what it began with. -/
theorem foldl_picks {α : Type} {f : Option α → α → Option α} (pick : ∀ o a, f o a = some a ∨ f o a = o) {x : α} :
    ∀ (l : List α) (o : Option α), l.foldl f o = some x → x ∈ l ∨ o = some x
  | [], _, h => .inr h
  | a :: l, o, h => by
    obtain inside | start := foldl_picks pick l (f o a) h
    · exact .inl (List.mem_cons_of_mem _ inside)
    · obtain taken | kept := pick o a
      · exact .inl (Option.some.inj (taken.symm.trans start) ▸ List.mem_cons_self)
      · exact .inr (kept ▸ start)

theorem mem_of_offered (h : offeredBuffer s n = some k) : k ∈ [0, 1, 2].filter (txPending s n) := by
  unfold offeredBuffer at h
  dsimp only at h
  split at h
  · exact List.mem_of_mem_head? h
  · refine (foldl_picks (fun o j => ?_) _ _ h).resolve_right (by simp)
    cases o with
    | none => exact .inl rfl
    | some i =>
      dsimp only
      split
      · split
        · exact .inl rfl
        · exact .inr rfl
      · exact .inr rfl

theorem pending_of_offered (h : offeredBuffer s n = some k) : txPending s n k = true := (List.mem_filter.mp (mem_of_offered h)).2

/-! ### Events of a controller -/

theorem mdbEvent_within {w : Footprint} {src : Nat} (h : Within w b s) (hw : w.reg Reg.MDB_EVT_CTL = true) : Within w b (mdbEvent src n s) :=
  raise_within (put_within h hw)

theorem mdbEvent_flagged {src : Nat} (hr : raisable src = true) (hs : s.regsWf = true) : Flagged src (mdbEvent src n s) :=
  flagged_raiseArg hr (State.regsWf_put _ _ _ hs)

/-- What the judgement of the error counters may touch. -/
def judgeFoot (n : Nat) : Footprint := ⟨fun a => a == Reg.MDB_C_STATUS n || a == Reg.MDB_EVT_CTL, []⟩

theorem judgePassive_within : Within (judgeFoot n) s (judgePassive n s) := by
  unfold judgePassive
  dsimp only
  refine ite_within ?_ (ite_within ?_ .refl)
  · exact mdbEvent_within (put_within .refl (by simp [judgeFoot, F.MDB_C_STATUS_STATE])) (by simp [judgeFoot])
  · exact put_within .refl (by simp [judgeFoot, F.MDB_C_STATUS_STATE])

theorem judgePassive_same (hn : n < 4) (on : canMode s n ≠ 0) (hs : s.regsWf = true) (mode : canMode (judgePassive n s) n = canMode s n)
    (same : busState (judgePassive n s) n = busState s n) : judgePassive n s = s := by
  have here (v : State) (c : canMode v n = canMode s n) {m : Nat} (g : v.get (F.MDB_C_STATUS_STATE n) = m) (some_ : m ≠ 0) : busState v n = m := by
    rw [busState, c, if_neg on, g, if_neg some_]
  have written (m : Nat) (small : m < 4) : (s.put (F.MDB_C_STATUS_STATE n) m).get (F.MDB_C_STATUS_STATE n) = m :=
    State.get_put_of_lt (fits_of_bus hn (by decide)) small hs
  unfold judgePassive at mode same ⊢
  dsimp only at mode same ⊢
  split_ifs at mode same ⊢ with active passive
  · have told : (mdbEvent Src.MDB_ERR_PASSIVE n (s.put (F.MDB_C_STATUS_STATE n) 2)).get (F.MDB_C_STATUS_STATE n) = 2 :=
      (Within.busGet (w := ⟨fun a => a == Reg.MDB_EVT_CTL, []⟩) (mdbEvent_within .refl (by simp))
        ((by decide : ∀ m < 4, busReg (F.MDB_C_STATUS_STATE m).addr = true) n hn)
        ((by decide : ∀ m < 4, ((F.MDB_C_STATUS_STATE m).addr == Reg.MDB_EVT_CTL) = false) n hn)).trans (written 2 (by decide))
    rw [here _ mode told (by decide), active.1] at same
    exact absurd same (by decide)
  · rw [here _ mode (written 1 (by decide)) (by decide), passive.1] at same
    exact absurd same (by decide)
  · rfl

/-! ### A message that falls due -/

/-- A buffer that is loaded. -/
theorem loadBuffer_result {src : Nat} {f : CanFrame} (hn : n < 4) (hk : k < 3) (small : src < 64) (size : s.can.controls.length = 4)
    (bufs : (control s n).bufs.length = 3) (hs : s.regsWf = true) (u : State) (hu : u = loadBuffer n k src f s) :
    txBuffer u n k = ⟨some f, 0⟩ ∧ u.get (txState n k) = 1 ∧ u.get (txSrc n k) = src ∧ u.get (txRetries n k) = 0 ∧
      (∀ j, j ≠ k → txBuffer u n j = txBuffer s n j) ∧ Within ⟨fun a => a == Reg.MDB_C_TXB n k, [.can]⟩ s u ∧
      u.can = (modBuffer n k (fun _ => ⟨some f, 0⟩) s).can := by
  have control_ := control_modBuffer (k := k) (fun _ => ⟨some f, 0⟩) (hn.trans_eq size.symm)
  have regs : (modBuffer n k (fun _ => ⟨some f, 0⟩) s).regs = s.regs := rfl
  have within_ : Within ⟨fun a => a == Reg.MDB_C_TXB n k, [.can]⟩ s (modBuffer n k (fun _ => ⟨some f, 0⟩) s) :=
    can_within .refl List.mem_cons_self
  unfold loadBuffer at hu
  generalize modBuffer n k (fun _ => ⟨some f, 0⟩) s = v at *
  have wf1 : v.regsWf = true := within_.wf hs
  have wf2 := State.regsWf_put v (txState n k) 1 wf1
  have wf3 := State.regsWf_put _ (txSrc n k) src wf2
  have can : u.can = v.can := by rw [hu]; rfl
  have buffer : txBuffer v n k = ⟨some f, 0⟩ := by
    rw [txBuffer, control_]
    exact nth_setNth_same _ _ (by omega)
  refine ⟨(txBuffer_of_control (control_of_can can)).trans buffer, ?_, ?_, ?_, fun j other => (txBuffer_of_control (control_of_can can)).trans ?_,
    hu ▸ put_within (put_within (put_within within_ (by simp [txState])) (by simp [txSrc])) (by simp [txRetries]), can⟩
  · rw [hu, State.get_put_of_apart (apart_in_buffer hn hk (by decide)) wf3, State.get_put_of_apart (apart_in_buffer hn hk (by decide)) wf2,
      State.get_put_of_lt (fits_of_buffer hn hk (by decide)) (show 1 < 2 ^ 3 by decide) wf1]
  · rw [hu, State.get_put_of_apart (apart_in_buffer hn hk (by decide)) wf3, State.get_put_of_lt (fits_of_buffer hn hk (by decide)) small wf2]
  · rw [hu, State.get_put_of_lt (fits_of_buffer hn hk (by decide)) (Nat.two_pow_pos _) wf3]
  · rw [txBuffer, control_]
    exact nth_setNth_ne _ _ other

theorem loadWaiting_none {fuel : Nat} (idle : (control s n).waiting = []) : loadWaiting n fuel s = s := by
  cases fuel with
  | zero => rfl
  | succ fuel =>
    rw [loadWaiting, idle]

/-- An instance that waits alone takes the first buffer. -/
theorem loadWaiting_one {due_ m fuel : Nat} (one : (control s n).waiting = [(due_, m)]) (free : txPending s n 0 = false) :
    loadWaiting n (fuel + 1) s = loadWaiting n fuel (loadMessage n 0 m (modControl n (fun c => { c with waiting := [] }) s)) := by
  rw [loadWaiting, one, List.find?_cons_of_pos (by rw [free]; rfl)]

/-- What an instance is made of stands while only the controllers' own state moves. -/
theorem messageFrame_of_can {x : CanPart} (m : Nat) : messageFrame { s with can := x } m = messageFrame s m := rfl

theorem dueInstant_of_can {x : CanPart} (m : Nat) : dueInstant { s with can := x } m = dueInstant s m := rfl

theorem messageDue_periodic {m at_ : Nat} (on : s.flag (F.MDB_TX_CFG_EN m) = true) (period : s.get (F.MDB_TX_CFG_PERIOD m) ≠ 0)
    (due_ : dueInstant s m = some at_) (since : s.can.since ≤ at_) (new : lookupNum s.can.lastDue m ≠ some at_) :
    messageDue m s = sendInstance m at_ { s with can := { s.can with lastDue := putNum s.can.lastDue m at_ } } := by
  unfold messageDue
  rw [on, if_neg (by decide), if_neg period, due_]
  exact if_neg (not_or.mpr ⟨Nat.not_lt.mpr since, new⟩)

theorem sendInstance_first {m at_ : Nat} (ctrl : s.get (F.MDB_TX_CFG_CTRL m) = n) (can : canSend s n = true) (idle : (control s n).waiting = [])
    (free0 : txPending s n 0 = false) (free1 : txPending s n 1 = false) :
    sendInstance m at_ s = loadWaiting n 2 (modControl n (fun c => { c with waiting := waitIn (at_, m) c.waiting }) s) := by
  unfold sendInstance
  dsimp only
  rw [ctrl, can, idle, if_neg (by decide), List.any_nil, if_neg Bool.false_ne_true,
    List.find?_eq_none.mpr (by
      simp only [List.mem_cons, List.not_mem_nil, or_false]
      rintro j (rfl | rfl)
      · rw [free0, Bool.false_and, Bool.false_and]
        decide
      · rw [free1, Bool.false_and, Bool.false_and]
        decide)]

/-- A message that falls due with nothing before it takes the first buffer. -/
theorem messageDue_result {m at_ : Nat} (hm : m < 32) (hn : n < 4) (size : s.can.controls.length = 4) (bufs : (control s n).bufs.length = 3)
    (hs : s.regsWf = true) (on : s.flag (F.MDB_TX_CFG_EN m) = true) (period : s.get (F.MDB_TX_CFG_PERIOD m) ≠ 0)
    (due_ : dueInstant s m = some at_) (since : s.can.since ≤ at_) (new : lookupNum s.can.lastDue m ≠ some at_)
    (ctrl : s.get (F.MDB_TX_CFG_CTRL m) = n) (can : canSend s n = true) (idle : (control s n).waiting = []) (free0 : txPending s n 0 = false)
    (free1 : txPending s n 1 = false) (u : State) (hu : u = messageDue m s) :
    (txBuffer u n 0).frame = some (messageFrame s m) ∧ txPending u n 0 = true ∧ u.get (txSrc n 0) = m ∧ u.get (txRetries n 0) = 0 ∧
      lookupNum u.can.lastDue m = some at_ ∧ txBuffer u n 1 = txBuffer s n 1 := by
  rw [messageDue_periodic on period due_ since new] at hu
  obtain ⟨x, hx⟩ : ∃ x : CanPart, x = { s.can with lastDue := putNum s.can.lastDue m at_ } := ⟨_, rfl⟩
  have last : lookupNum x.lastDue m = some at_ := by rw [hx]; exact lookupNum_putNum_same _ _ _
  have controls : x.controls = s.can.controls := by rw [hx]
  rw [← hx] at hu
  clear hx
  have controlV : control { s with can := x } n = control s n := by rw [control, control, ← controls]
  have frameV := messageFrame_of_can (s := s) (x := x) m
  have sizeV : ({ s with can := x } : State).can.controls.length = 4 := (congrArg List.length controls).trans size
  have wfV : ({ s with can := x } : State).regsWf = true := hs
  have lastV : lookupNum ({ s with can := x } : State).can.lastDue m = some at_ := last
  have ctrlV : ({ s with can := x } : State).get (F.MDB_TX_CFG_CTRL m) = n := ctrl
  have canV : canSend { s with can := x } n = true := can
  have free1V : txPending { s with can := x } n 1 = false := free1
  have free0V : txPending { s with can := x } n 0 = false := free0
  clear last controls can
  generalize ({ s with can := x } : State) = v at *
  rw [sendInstance_first ctrlV canV (by rw [controlV]; exact idle) free0V free1V] at hu
  have waits := control_modControl (fun c => { c with waiting := waitIn (at_, m) c.waiting }) (hn.trans_eq sizeV.symm)
  have sizeW : (modControl n (fun c => { c with waiting := waitIn (at_, m) c.waiting }) v).can.controls.length = 4 :=
    (setNth_length _ _ _).trans sizeV
  have wfW : (modControl n (fun c => { c with waiting := waitIn (at_, m) c.waiting }) v).regsWf = true := wfV
  have frameW : messageFrame (modControl n (fun c => { c with waiting := waitIn (at_, m) c.waiting }) v) m = messageFrame v m := rfl
  have lastW : (modControl n (fun c => { c with waiting := waitIn (at_, m) c.waiting }) v).can.lastDue = v.can.lastDue := rfl
  have freeW : txPending (modControl n (fun c => { c with waiting := waitIn (at_, m) c.waiting }) v) n 0 = false := free0V
  rw [controlV] at waits
  generalize modControl n (fun c => { c with waiting := waitIn (at_, m) c.waiting }) v = w at *
  have one : (control w n).waiting = [(at_, m)] := by
    rw [waits]
    show waitIn (at_, m) (control s n).waiting = _
    rw [idle]
    rfl
  rw [loadWaiting_one one freeW] at hu
  have emptied := control_modControl (fun c => { c with waiting := [] }) (hn.trans_eq sizeW.symm)
  have sizeX : (modControl n (fun c => { c with waiting := [] }) w).can.controls.length = 4 := (setNth_length _ _ _).trans sizeW
  have wfX : (modControl n (fun c => { c with waiting := [] }) w).regsWf = true := wfW
  have frameX : messageFrame (modControl n (fun c => { c with waiting := [] }) w) m = messageFrame w m := rfl
  have lastX : (modControl n (fun c => { c with waiting := [] }) w).can.lastDue = w.can.lastDue := rfl
  generalize modControl n (fun c => { c with waiting := [] }) w = y at *
  obtain ⟨buffer, state, src, retries, others, -, canU⟩ := loadBuffer_result (f := messageFrame y m) hn (by decide : 0 < 3) (by omega : m < 64) sizeX
    (by rw [emptied, waits]; exact bufs) wfX _ rfl
  have waitingU : (control (loadMessage n 0 m y) n).waiting = [] := by
    show (control (loadBuffer n 0 m (messageFrame y m) y) n).waiting = []
    rw [control_of_can canU, control_modBuffer _ (hn.trans_eq sizeX.symm), emptied]
  rw [loadWaiting_none waitingU] at hu
  have same : loadMessage n 0 m y = loadBuffer n 0 m (messageFrame y m) y := rfl
  rw [same] at hu
  rw [← hu] at buffer state src retries others canU
  refine ⟨?_, txPending_iff.mpr state, src, retries, ?_, ?_⟩
  · rw [buffer, frameX, frameW, frameV]
  · rw [canU]
    show lookupNum y.can.lastDue m = _
    rw [lastX, lastW, lastV]
  · rw [others 1 (by decide)]
    refine Eq.trans ?_ (txBuffer_of_control controlV)
    rw [txBuffer, txBuffer, emptied, waits, controlV]

/-! ### A frame that is sent -/

theorem nextFirmware_none (idle : (control s n).firmware = []) : nextFirmware n s = s := by
  rw [nextFirmware, idle]

theorem refill_idle (idle : (control s n).waiting = []) (none_ : (control s n).firmware = []) : refill n s = s := by
  rw [refill, loadWaiting_none idle, ite_self, nextFirmware_none none_]

/-- The buffer of a frame that was sent. -/
def bufferSent (n k : Nat) (s : State) : State :=
  ((modBuffer n k (fun _ => {}) s).put (txState n k) 2).put (txRetries n k) (satN 8 (txBuffer s n k).errors)

/-- The counters of a frame that was sent. -/
def sentCounted (n : Nat) (s : State) : State := (s.wrapUp (F.MDB_C_CNT_TX_FRAMES n) 1).put (F.MDB_C_ERR_TEC n) (s.get (F.MDB_C_ERR_TEC n) - 1)

/-- A frame of the service path that was sent begins N_As of the next. -/
def sentSegment (n k : Nat) (f : CanFrame) (s : State) : State := if n = 3 ∧ k = 2 then restartAs (refill n (segmentSent f s)) else refill n s

theorem frameSent_eq {f : CanFrame} (drives : mayDrive s n = true) (offered : offeredBuffer s n = some k) (frame : (txBuffer s n k).frame = some f) :
    frameSent n s = sentSegment n k f (emit (.canFrame n f) (judgePassive n (sentCounted n (bufferSent n k s)))) := by
  unfold frameSent
  dsimp only
  rw [drives, if_neg (by decide), offered]
  dsimp only
  rw [frame]
  dsimp only
  unfold sentSegment
  by_cases service : n = 3 ∧ k = 2
  · rw [if_pos service, if_pos service, if_pos service]
    rfl
  · rw [if_neg service, if_neg service, if_neg service]
    rfl

theorem sentSegment_result {f : CanFrame} (idle : (control s n).waiting = []) (none_ : (control s n).firmware = []) (u : State)
    (hu : u = sentSegment n k f s) : u.regs = s.regs ∧ u.out = s.out ∧ u.can = s.can := by
  have can : (segmentSent f s).can = s.can := rfl
  unfold sentSegment at hu
  split at hu
  · rw [refill_idle (by rw [control_of_can can]; exact idle) (by rw [control_of_can can]; exact none_)] at hu
    rw [hu]
    exact ⟨rfl, rfl, rfl⟩
  · rw [refill_idle idle none_] at hu
    rw [hu]
    exact ⟨rfl, rfl, rfl⟩

theorem bufferSent_result (hn : n < 4) (hk : k < 3) (size : s.can.controls.length = 4) (bufs : (control s n).bufs.length = 3) (hs : s.regsWf = true)
    (u : State) (hu : u = bufferSent n k s) : txBuffer u n k = {} ∧ u.get (txState n k) = 2 ∧ (control u n).waiting = (control s n).waiting ∧
      (control u n).firmware = (control s n).firmware ∧ Within ⟨fun a => a == Reg.MDB_C_TXB n k, [.can]⟩ s u := by
  have control_ := control_modBuffer (k := k) (fun _ => {}) (hn.trans_eq size.symm)
  have within_ : Within ⟨fun a => a == Reg.MDB_C_TXB n k, [.can]⟩ s (modBuffer n k (fun _ => {}) s) := can_within .refl List.mem_cons_self
  unfold bufferSent at hu
  generalize modBuffer n k (fun _ => {}) s = v at *
  have wf1 : v.regsWf = true := within_.wf hs
  have can : u.can = v.can := by rw [hu]; rfl
  refine ⟨?_, ?_, ?_, ?_, hu ▸ put_within (put_within within_ (by simp [txState])) (by simp [txRetries])⟩
  · rw [txBuffer, control_of_can can, control_]
    exact nth_setNth_same _ _ (by omega)
  · rw [hu, State.get_put_of_apart (apart_in_buffer hn hk (by decide)) (State.regsWf_put _ _ _ wf1),
      State.get_put_of_lt (fits_of_buffer hn hk (by decide)) (show 2 < 2 ^ 3 by decide) wf1]
  · rw [control_of_can can, control_]
  · rw [control_of_can can, control_]

/-- What the counters of a frame touch. -/
def countFoot (n : Nat) : Footprint := ⟨fun a => a == Reg.MDB_C_CNT n || a == Reg.MDB_C_ERR n, []⟩

theorem sentCounted_result (hn : n < 4) (hs : s.regsWf = true) (u : State) (hu : u = sentCounted n s) : Within (countFoot n) s u ∧
    u.get (F.MDB_C_CNT_TX_FRAMES n) = (s.get (F.MDB_C_CNT_TX_FRAMES n) + 1) % 65536 ∧ u.get (F.MDB_C_ERR_TEC n) = s.get (F.MDB_C_ERR_TEC n) - 1 := by
  have wf1 : (s.wrapUp (F.MDB_C_CNT_TX_FRAMES n) 1).regsWf = true := State.regsWf_put _ _ _ hs
  have small : s.get (F.MDB_C_ERR_TEC n) - 1 < 2 ^ 8 := (Nat.sub_le _ _).trans_lt (s.get_lt (F.MDB_C_ERR_TEC n))
  rw [hu]
  refine ⟨put_within (put_within .refl (by simp [countFoot, F.MDB_C_CNT_TX_FRAMES])) (by simp [countFoot, F.MDB_C_ERR_TEC]), ?_, ?_⟩
  · rw [sentCounted, State.get_put_of_apart (apart_of_bus hn (by decide)) wf1, State.wrapUp_eq_put, State.get_put_mod (fits_of_bus hn (by decide)) hs]
    rfl
  · rw [sentCounted, State.get_put_of_lt (fits_of_bus hn (by decide)) small wf1]

/-- A frame that is sent leaves its buffer free and is counted. -/
theorem frameSent_result {f : CanFrame} (hn : n < 4) (hk : k < 3) (size : s.can.controls.length = 4) (bufs : (control s n).bufs.length = 3)
    (hs : s.regsWf = true) (silent : s.out = []) (drives : mayDrive s n = true) (offered : offeredBuffer s n = some k)
    (frame : (txBuffer s n k).frame = some f) (idle : (control s n).waiting = []) (none_ : (control s n).firmware = []) (u : State)
    (hu : u = frameSent n s) : u.out = [.canFrame n f] ∧ u.get (txState n k) = 2 ∧ txBuffer u n k = {} ∧
      u.get (F.MDB_C_CNT_TX_FRAMES n) = (s.get (F.MDB_C_CNT_TX_FRAMES n) + 1) % 65536 ∧
      u.get (F.MDB_C_ERR_TEC n) = s.get (F.MDB_C_ERR_TEC n) - 1 := by
  rw [frameSent_eq drives offered frame] at hu
  obtain ⟨buffer, state, waits, queue, within1⟩ := bufferSent_result hn hk size bufs hs _ rfl
  generalize bufferSent n k s = v at *
  obtain ⟨within2, frames, tec⟩ := sentCounted_result hn (within1.wf hs) _ rfl
  generalize sentCounted n v = w at *
  have within3 : Within (judgeFoot n) w (judgePassive n w) := judgePassive_within
  generalize judgePassive n w = x at *
  have can : x.can = v.can := Eq.trans (within3.part .can List.not_mem_nil : x.can = w.can) (within2.part .can List.not_mem_nil)
  have out : x.out = s.out := Eq.trans (within3.part .out List.not_mem_nil : x.out = w.out)
    (Eq.trans (within2.part .out List.not_mem_nil : w.out = v.out) (within1.part .out (by simp)))
  obtain ⟨regsU, outU, canU⟩ := sentSegment_result (by rw [control_of_can (u := emit (.canFrame n f) x) can, waits, idle])
    (by rw [control_of_can (u := emit (.canFrame n f) x) can, queue, none_]) u hu
  have getU (g : Fld) : u.get g = x.get g := State.get_of_regs regsU g
  refine ⟨?_, ?_, ?_, ?_, ?_⟩
  · rw [outU]
    show x.out ++ _ = _
    rw [out, silent]
    rfl
  · rw [getU, within3.busGet ((by decide : ∀ m < 4, ∀ j < 3, busReg (txState m j).addr = true) n hn k hk)
      ((by decide : ∀ m < 4, ∀ j < 3, (judgeFoot m).reg (txState m j).addr = false) n hn k hk),
      within2.busGet ((by decide : ∀ m < 4, ∀ j < 3, busReg (txState m j).addr = true) n hn k hk)
      ((by decide : ∀ m < 4, ∀ j < 3, (countFoot m).reg (txState m j).addr = false) n hn k hk), state]
  · rw [txBuffer_of_control (control_of_can (canU.trans can)), buffer]
  · rw [getU, within3.busGet ((by decide : ∀ m < 4, busReg (F.MDB_C_CNT_TX_FRAMES m).addr = true) n hn)
      ((by decide : ∀ m < 4, (judgeFoot m).reg (F.MDB_C_CNT_TX_FRAMES m).addr = false) n hn), frames,
      within1.busGet ((by decide : ∀ m < 4, busReg (F.MDB_C_CNT_TX_FRAMES m).addr = true) n hn)
      ((by decide : ∀ m < 4, ∀ j < 3, ((F.MDB_C_CNT_TX_FRAMES m).addr == Reg.MDB_C_TXB m j) = false) n hn k hk)]
  · rw [getU, within3.busGet ((by decide : ∀ m < 4, busReg (F.MDB_C_ERR_TEC m).addr = true) n hn)
      ((by decide : ∀ m < 4, (judgeFoot m).reg (F.MDB_C_ERR_TEC m).addr = false) n hn), tec,
      within1.busGet ((by decide : ∀ m < 4, busReg (F.MDB_C_ERR_TEC m).addr = true) n hn)
      ((by decide : ∀ m < 4, ∀ j < 3, ((F.MDB_C_ERR_TEC m).addr == Reg.MDB_C_TXB m j) = false) n hn k hk)]

/-! ### Transmit errors and bus-off -/

/-- What TEC becomes with a transmit error. -/
def tecAfter (n err : Nat) (s : State) : Nat := s.get (F.MDB_C_ERR_TEC n) + (if err = 3 ∧ busState s n = 2 then 0 else 8)

/-- A transmit error is counted at its buffer and in ERR. -/
def errorCounted (n k err : Nat) (s : State) : State :=
  (((modBuffer n k (fun b => { b with errors := (txBuffer s n k).errors + 1 }) s).put (F.MDB_C_ERR_LAST_ERR n) err).put (F.MDB_C_ERR_TEC n)
    (satN 8 (tecAfter n err s))).put (txRetries n k) (satN 8 (txBuffer s n k).errors)

theorem transmitError_eq {err : Nat} (drives : mayDrive s n = true) (offered : offeredBuffer s n = some k) : transmitError n err s =
    if 255 < tecAfter n err s then busOff n (errorCounted n k err s)
    else if (judgePassive n (errorCounted n k err s)).get (F.MDB_C_CFG_RETRY n) ≤ (txBuffer s n k).errors then
      abortRetry n k err (judgePassive n (errorCounted n k err s))
    else judgePassive n (errorCounted n k err s) := by
  unfold transmitError
  dsimp only
  rw [drives, if_neg (by decide), offered]
  rfl

/-- What a transmit error touches. -/
def errorFoot (n k : Nat) : Footprint := ⟨fun a => a == Reg.MDB_C_TXB n k || a == Reg.MDB_C_ERR n, [.can]⟩

theorem errorCounted_result {err : Nat} (hn : n < 4) (hk : k < 3) (code : err ≤ 6) (size : s.can.controls.length = 4)
    (bufs : (control s n).bufs.length = 3) (hs : s.regsWf = true) (u : State) (hu : u = errorCounted n k err s) :
    txBuffer u n k = { txBuffer s n k with errors := (txBuffer s n k).errors + 1 } ∧ u.get (F.MDB_C_ERR_LAST_ERR n) = err ∧
      u.get (F.MDB_C_ERR_TEC n) = satN 8 (tecAfter n err s) ∧ u.get (F.MDB_C_ERR_BUSOFFS n) = s.get (F.MDB_C_ERR_BUSOFFS n) ∧
      u.get (txState n k) = s.get (txState n k) ∧ u.can.controls.length = 4 ∧ Within (errorFoot n k) s u := by
  have control_ := control_modBuffer (k := k) (fun b => { b with errors := (txBuffer s n k).errors + 1 }) (hn.trans_eq size.symm)
  have within_ : Within (errorFoot n k) s (modBuffer n k (fun b => { b with errors := (txBuffer s n k).errors + 1 }) s) :=
    can_within .refl List.mem_cons_self
  have size1 : (modBuffer n k (fun b => { b with errors := (txBuffer s n k).errors + 1 }) s).can.controls.length = 4 := (setNth_length _ _ _).trans size
  have regs : (modBuffer n k (fun b => { b with errors := (txBuffer s n k).errors + 1 }) s).regs = s.regs := rfl
  unfold errorCounted at hu
  generalize modBuffer n k (fun b => { b with errors := (txBuffer s n k).errors + 1 }) s = v at *
  have wf1 : v.regsWf = true := within_.wf hs
  have wf2 := State.regsWf_put v (F.MDB_C_ERR_LAST_ERR n) err wf1
  have wf3 := State.regsWf_put _ (F.MDB_C_ERR_TEC n) (satN 8 (tecAfter n err s)) wf2
  have can : u.can = v.can := by rw [hu]; rfl
  refine ⟨?_, ?_, ?_, ?_, ?_, by rw [can, size1], ?_⟩
  · rw [txBuffer, control_of_can can, control_]
    exact nth_setNth_same _ _ (by omega)
  · rw [hu, State.get_put_of_apart (apart_of_buffer hn hk (by decide)) wf3, State.get_put_of_apart (apart_of_bus hn (by decide)) wf2,
      State.get_put_of_lt (fits_of_bus hn (by decide)) (show err < 2 ^ 8 by omega) wf1]
  · rw [hu, State.get_put_of_apart (apart_of_buffer hn hk (by decide)) wf3,
      State.get_put_of_lt (fits_of_bus hn (by decide)) (satN_lt 8 _) wf2]
  · rw [hu, State.get_put_of_apart (apart_of_buffer hn hk (by decide)) wf3, State.get_put_of_apart (apart_of_bus hn (by decide)) wf2,
      State.get_put_of_apart (apart_of_bus hn (by decide)) wf1, State.get_of_regs regs]
  · rw [hu, State.get_put_of_apart (apart_in_buffer hn hk (by decide)) wf3, State.get_put_of_apart (apart_to_buffer hn hk (by decide)) wf2,
      State.get_put_of_apart (apart_to_buffer hn hk (by decide)) wf1, State.get_of_regs regs]
  · rw [hu]
    exact put_within (put_within (put_within within_ (by simp [errorFoot, F.MDB_C_ERR_LAST_ERR])) (by simp [errorFoot, F.MDB_C_ERR_TEC]))
      (by simp [errorFoot, txRetries])

/-- A transmit error within the limits is counted, and its buffer stays offered. -/
theorem transmitError_result {err : Nat} (hn : n < 4) (hk : k < 3) (code : err ≤ 6) (size : s.can.controls.length = 4)
    (bufs : (control s n).bufs.length = 3) (hs : s.regsWf = true) (silent : s.out = []) (drives : mayDrive s n = true) (active : busState s n = 1)
    (offered : offeredBuffer s n = some k) (low : s.get (F.MDB_C_ERR_TEC n) < 120)
    (few : (txBuffer s n k).errors < s.get (F.MDB_C_CFG_RETRY n)) (u : State) (hu : u = transmitError n err s) :
    (txBuffer u n k).errors = (txBuffer s n k).errors + 1 ∧ (txBuffer u n k).frame = (txBuffer s n k).frame ∧
      u.get (F.MDB_C_ERR_TEC n) = s.get (F.MDB_C_ERR_TEC n) + 8 ∧ u.get (F.MDB_C_ERR_LAST_ERR n) = err ∧ u.out = [] ∧
      txPending u n k = true := by
  have tec : tecAfter n err s = s.get (F.MDB_C_ERR_TEC n) + 8 := by
    rw [tecAfter, active, if_neg (fun both => absurd both.2 (by decide))]
  rw [transmitError_eq drives offered, if_neg (by omega)] at hu
  obtain ⟨buffer, last, tecV, -, state, -, within1⟩ := errorCounted_result hn hk code size bufs hs _ rfl
  generalize errorCounted n k err s = v at *
  have within2 : Within (judgeFoot n) v (judgePassive n v) := judgePassive_within
  have get2 {f : Nat → Fld} (h : ∀ m < 4, busReg (f m).addr = true ∧ (judgeFoot m).reg (f m).addr = false) :
      (judgePassive n v).get (f n) = v.get (f n) := within2.busGet (h n hn).1 (h n hn).2
  rw [get2 (f := F.MDB_C_CFG_RETRY) (by decide), within1.busGet ((by decide : ∀ m < 4, busReg (F.MDB_C_CFG_RETRY m).addr = true) n hn)
    ((by decide : ∀ m < 4, ∀ j < 3, (errorFoot m j).reg (F.MDB_C_CFG_RETRY m).addr = false) n hn k hk), if_neg (Nat.not_le.mpr few)] at hu
  rw [← hu] at get2 within2
  have bufferU := (txBuffer_of_control (k := k) (control_of_can (n := n) (within2.part .can List.not_mem_nil : u.can = v.can))).trans buffer
  refine ⟨by rw [bufferU], by rw [bufferU], ?_, (get2 (f := F.MDB_C_ERR_LAST_ERR) (by decide)).trans last, ?_, ?_⟩
  · rw [get2 (f := F.MDB_C_ERR_TEC) (by decide), tecV, tec, satN, if_pos (by omega)]
  · exact Eq.trans (within2.part .out List.not_mem_nil : u.out = v.out) (Eq.trans (within1.part .out (by simp [errorFoot])) silent)
  · rw [txPending_iff, within2.busGet ((by decide : ∀ m < 4, ∀ j < 3, busReg (txState m j).addr = true) n hn k hk)
      ((by decide : ∀ m < 4, ∀ j < 3, (judgeFoot m).reg (txState m j).addr = false) n hn k hk), state]
    exact txPending_iff.mp (pending_of_offered offered)

/-- A pending buffer is aborted. -/
def abortPending (n : Nat) (s : State) (k : Nat) : State :=
  if txPending s n k then ((modBuffer n k (fun _ => {}) s).put (txState n k) 4).bump (F.MDB_C_DROP_ABORTS n) 1 else s

/-- What the aborts of a bus-off touch. -/
def abortFoot (n : Nat) : Footprint := ⟨fun a => a == Reg.MDB_C_DROP n || [0, 1, 2].any (fun k => a == Reg.MDB_C_TXB n k), [.can]⟩

theorem abortPending_result (hn : n < 4) (hk : k < 3) (hs : s.regsWf = true) (u : State) (hu : u = abortPending n s k) :
    txPending u n k = false ∧ (∀ j, j < 3 → txPending s n j = false → txPending u n j = false) ∧
      u.can.controls.length = s.can.controls.length ∧ Within (abortFoot n) s u := by
  unfold abortPending at hu
  split at hu
  case isFalse free =>
    rw [hu]
    exact ⟨Bool.eq_false_iff.mpr free, fun _ _ h => h, rfl, .refl⟩
  case isTrue =>
    have within_ : Within (abortFoot n) s (modBuffer n k (fun _ => {}) s) := can_within .refl List.mem_cons_self
    have size : (modBuffer n k (fun _ => {}) s).can.controls.length = s.can.controls.length := setNth_length _ _ _
    have regs : (modBuffer n k (fun _ => {}) s).regs = s.regs := rfl
    generalize modBuffer n k (fun _ => {}) s = v at *
    have wf1 : v.regsWf = true := within_.wf hs
    have wf2 := State.regsWf_put v (txState n k) 4 wf1
    have kept {j : Nat} (hj : j < 3) : u.get (txState n j) = (v.put (txState n k) 4).get (txState n j) := by
      rw [hu]
      exact State.get_put_of_apart (apart_to_buffer hn hj (by decide)) wf2
    have own : txPending u n k = false := by
      rw [txPending, kept hk, State.get_put_of_lt (fits_of_buffer hn hk (by decide)) (show 4 < 2 ^ 3 by decide) wf1]
      rfl
    refine ⟨own, fun j hj free => ?_, by rw [hu]; exact size, ?_⟩
    · by_cases same : j = k
      · rw [same, own]
      · rw [← free, txPending, txPending, kept hj, State.get_put_of_apart (apart_of_buffers hn hk hj same (by decide)) wf1, State.get_of_regs regs]
    · rw [hu]
      refine put_within (put_within within_ ?_) (by simp [abortFoot, F.MDB_C_DROP_ABORTS])
      show (_ || [0, 1, 2].any (fun j => Reg.MDB_C_TXB n k == Reg.MDB_C_TXB n j)) = true
      have own : [0, 1, 2].any (fun j => Reg.MDB_C_TXB n k == Reg.MDB_C_TXB n j) = true :=
        List.any_eq_true.mpr ⟨k, by rw [List.mem_cons, List.mem_cons, List.mem_singleton]; omega, beq_self_eq_true _⟩
      rw [own, Bool.or_true]

theorem abortAll_result (hn : n < 4) (hs : s.regsWf = true) (u : State) (hu : u = foldOver (abortPending n) s [0, 1, 2]) :
    (∀ j, j < 3 → txPending u n j = false) ∧ u.can.controls.length = s.can.controls.length ∧ Within (abortFoot n) s u := by
  rw [foldOver_cons, foldOver_cons, foldOver_cons, foldOver_nil] at hu
  obtain ⟨free0, -, size0, within0⟩ := abortPending_result hn (by decide : 0 < 3) hs _ rfl
  generalize abortPending n s 0 = v at *
  obtain ⟨free1, kept1, size1, within1⟩ := abortPending_result hn (by decide : 1 < 3) (within0.wf hs) _ rfl
  generalize abortPending n v 1 = w at *
  obtain ⟨free2, kept2, size2, within2⟩ := abortPending_result hn (by decide : 2 < 3) (within1.wf (within0.wf hs)) u hu
  refine ⟨fun j hj => ?_, size2.trans (size1.trans size0), within0.trans (within1.trans within2)⟩
  obtain rfl | rfl | rfl : j = 0 ∨ j = 1 ∨ j = 2 := by omega
  · exact kept2 0 (by decide) (kept1 0 (by decide) free0)
  · exact kept2 1 (by decide) free1
  · exact free2

/-- What waits at a controller is dropped. -/
def canDropped (n : Nat) (s : State) : State :=
  if n = 3 then restartAs (modControl n (fun c => { c with waiting := [], firmware := [] }) s)
  else modControl n (fun c => { c with waiting := [], firmware := [] }) s

theorem canDropped_result (size : n < s.can.controls.length) (u : State) (hu : u = canDropped n s) :
    u.regs = s.regs ∧ (control u n).waiting = [] := by
  have emptied := control_modControl (fun c => { c with waiting := [], firmware := [] }) size
  have regs : (modControl n (fun c => { c with waiting := [], firmware := [] }) s).regs = s.regs := rfl
  unfold canDropped at hu
  generalize modControl n (fun c => { c with waiting := [], firmware := [] }) s = v at *
  have parts : u.regs = v.regs ∧ u.can = v.can := by
    split at hu <;> (rw [hu]; exact ⟨rfl, rfl⟩)
  exact ⟨parts.1.trans regs, by rw [control_of_can parts.2, emptied]⟩

theorem busOff_eq (n : Nat) (s : State) : busOff n s = mdbEvent Src.MDB_BUS_OFF n
    (((canDropped n (foldOver (abortPending n) s [0, 1, 2])).put (F.MDB_C_STATUS_STATE n) 3).bump (F.MDB_C_ERR_BUSOFFS n) 1) := rfl

theorem busOff_result (hn : n < 4) (size : s.can.controls.length = 4) (hs : s.regsWf = true) (u : State) (hu : u = busOff n s) :
    u.get (F.MDB_C_STATUS_STATE n) = 3 ∧ (∀ j, j < 3 → txPending u n j = false) ∧ (control u n).waiting = [] ∧
      u.get (F.MDB_C_ERR_BUSOFFS n) = satN 8 (s.get (F.MDB_C_ERR_BUSOFFS n) + 1) ∧ Flagged Src.MDB_BUS_OFF u := by
  rw [busOff_eq] at hu
  obtain ⟨free, size1, within1⟩ := abortAll_result hn hs _ rfl
  generalize foldOver (abortPending n) s [0, 1, 2] = v at *
  obtain ⟨regs, waits⟩ := canDropped_result (n := n) (by rw [size1, size]; exact hn) _ rfl
  generalize canDropped n v = w at *
  have wf1 : w.regsWf = true := by rw [State.regsWf, regs]; exact within1.wf hs
  have wf2 := State.regsWf_put w (F.MDB_C_STATUS_STATE n) 3 wf1
  have wf3 : ((w.put (F.MDB_C_STATUS_STATE n) 3).bump (F.MDB_C_ERR_BUSOFFS n) 1).regsWf = true := State.regsWf_put _ _ _ wf2
  have state : ((w.put (F.MDB_C_STATUS_STATE n) 3).bump (F.MDB_C_ERR_BUSOFFS n) 1).get (F.MDB_C_STATUS_STATE n) = 3 := by
    rw [State.bump_eq_put, State.get_put_of_apart (apart_of_bus hn (by decide)) wf2,
      State.get_put_of_lt (fits_of_bus hn (by decide)) (show 3 < 2 ^ 2 by decide) wf1]
  have count : ((w.put (F.MDB_C_STATUS_STATE n) 3).bump (F.MDB_C_ERR_BUSOFFS n) 1).get (F.MDB_C_ERR_BUSOFFS n) =
      satN 8 (s.get (F.MDB_C_ERR_BUSOFFS n) + 1) := by
    rw [State.bump_eq_put]
    refine (State.get_put_satN (fits_of_bus hn (by decide)) wf2).trans ?_
    rw [State.get_put_of_apart (apart_of_bus hn (by decide)) wf1, State.get_of_regs regs,
      within1.busGet ((by decide : ∀ m < 4, busReg (F.MDB_C_ERR_BUSOFFS m).addr = true) n hn)
      ((by decide : ∀ m < 4, (abortFoot m).reg (F.MDB_C_ERR_BUSOFFS m).addr = false) n hn)]
    rfl
  have states {j : Nat} (hj : j < 3) : ((w.put (F.MDB_C_STATUS_STATE n) 3).bump (F.MDB_C_ERR_BUSOFFS n) 1).get (txState n j) = v.get (txState n j) := by
    rw [State.bump_eq_put, State.get_put_of_apart (apart_to_buffer hn hj (by decide)) wf2,
      State.get_put_of_apart (apart_to_buffer hn hj (by decide)) wf1, State.get_of_regs regs]
  have can : ((w.put (F.MDB_C_STATUS_STATE n) 3).bump (F.MDB_C_ERR_BUSOFFS n) 1).can = w.can := rfl
  generalize (w.put (F.MDB_C_STATUS_STATE n) 3).bump (F.MDB_C_ERR_BUSOFFS n) 1 = x at *
  have told : Within ⟨fun a => a == Reg.MDB_EVT_CTL, []⟩ x u := hu ▸ mdbEvent_within .refl (by simp)
  refine ⟨(told.busGet ((by decide : ∀ m < 4, busReg (F.MDB_C_STATUS_STATE m).addr = true) n hn)
      ((by decide : ∀ m < 4, ((F.MDB_C_STATUS_STATE m).addr == Reg.MDB_EVT_CTL) = false) n hn)).trans state, fun j hj => ?_, ?_,
    (told.busGet ((by decide : ∀ m < 4, busReg (F.MDB_C_ERR_BUSOFFS m).addr = true) n hn)
      ((by decide : ∀ m < 4, ((F.MDB_C_ERR_BUSOFFS m).addr == Reg.MDB_EVT_CTL) = false) n hn)).trans count,
    hu ▸ mdbEvent_flagged (by decide) wf3⟩
  · refine (txPending_of_get ?_).trans (free j hj)
    exact (told.busGet ((by decide : ∀ m < 4, ∀ j < 3, busReg (txState m j).addr = true) n hn j hj)
      ((by decide : ∀ m < 4, ∀ j < 3, ((txState m j).addr == Reg.MDB_EVT_CTL) = false) n hn j hj)).trans (states hj)
  · rw [control_of_can (Eq.trans (told.part .can List.not_mem_nil : u.can = x.can) can), waits]

theorem transmitError_off {err : Nat} (hn : n < 4) (hk : k < 3) (code : err ≤ 6) (heard : err ≠ 3) (size : s.can.controls.length = 4)
    (bufs : (control s n).bufs.length = 3) (hs : s.regsWf = true) (drives : mayDrive s n = true) (offered : offeredBuffer s n = some k)
    (high : 247 < s.get (F.MDB_C_ERR_TEC n)) (u : State) (hu : u = transmitError n err s) :
    u.get (F.MDB_C_STATUS_STATE n) = 3 ∧ (∀ j, j < 3 → txPending u n j = false) ∧ (control u n).waiting = [] ∧
      u.get (F.MDB_C_ERR_BUSOFFS n) = satN 8 (s.get (F.MDB_C_ERR_BUSOFFS n) + 1) ∧ Flagged Src.MDB_BUS_OFF u := by
  have tec : tecAfter n err s = s.get (F.MDB_C_ERR_TEC n) + 8 := by rw [tecAfter, if_neg (fun both => heard both.1)]
  rw [transmitError_eq drives offered, if_pos (by omega)] at hu
  obtain ⟨-, -, -, offs, -, sizeV, within1⟩ := errorCounted_result hn hk code size bufs hs _ rfl
  rw [← offs]
  exact busOff_result hn sizeV (within1.wf hs) u hu

theorem busOn_result (hn : n < 4) (hs : s.regsWf = true) (on : canOn s n = true) (off : busState s n = 3) (u : State) (hu : u = busOn n s) :
    u.get (F.MDB_C_STATUS_STATE n) = 1 ∧ u.get (F.MDB_C_ERR_TEC n) = 0 ∧ u.get (F.MDB_C_ERR_REC n) = 0 ∧ Flagged Src.MDB_BUS_ON u := by
  have wf1 := State.regsWf_put s (F.MDB_C_STATUS_STATE n) 1 hs
  have wf2 := State.regsWf_put _ (F.MDB_C_ERR_TEC n) 0 wf1
  have wf3 := State.regsWf_put _ (F.MDB_C_ERR_REC n) 0 wf2
  have state : (((s.put (F.MDB_C_STATUS_STATE n) 1).put (F.MDB_C_ERR_TEC n) 0).put (F.MDB_C_ERR_REC n) 0).get (F.MDB_C_STATUS_STATE n) = 1 := by
    rw [State.get_put_of_apart (apart_of_bus hn (by decide)) wf2, State.get_put_of_apart (apart_of_bus hn (by decide)) wf1,
      State.get_put_of_lt (fits_of_bus hn (by decide)) (show 1 < 2 ^ 2 by decide) hs]
  have tec : (((s.put (F.MDB_C_STATUS_STATE n) 1).put (F.MDB_C_ERR_TEC n) 0).put (F.MDB_C_ERR_REC n) 0).get (F.MDB_C_ERR_TEC n) = 0 := by
    rw [State.get_put_of_apart (apart_of_bus hn (by decide)) wf2,
      State.get_put_of_lt (fits_of_bus hn (by decide)) (Nat.two_pow_pos _) wf1]
  have rec_ : (((s.put (F.MDB_C_STATUS_STATE n) 1).put (F.MDB_C_ERR_TEC n) 0).put (F.MDB_C_ERR_REC n) 0).get (F.MDB_C_ERR_REC n) = 0 :=
    State.get_put_of_lt (fits_of_bus hn (by decide)) (Nat.two_pow_pos _) wf2
  unfold busOn at hu
  rw [on, off] at hu
  dsimp only at hu
  generalize ((s.put (F.MDB_C_STATUS_STATE n) 1).put (F.MDB_C_ERR_TEC n) 0).put (F.MDB_C_ERR_REC n) 0 = v at *
  obtain ⟨w, hw⟩ : ∃ w, w = if canMode v n = 3 then
      State.put { v with can := { v.can with claimDue := true, claimAt := none } } (F.MDB_C_STATUS_CLAIMED n) 0 else v := ⟨_, rfl⟩
  have claim : w.regsWf = true ∧ ∀ g, (F.MDB_C_STATUS_CLAIMED n).apart g = true → w.get g = v.get g := by
    split at hw
    · rw [hw]
      exact ⟨State.regsWf_put _ _ _ wf3, fun g far => State.get_put_of_apart far wf3⟩
    · rw [hw]
      exact ⟨wf3, fun _ _ => rfl⟩
  obtain ⟨wfW, keptW⟩ := claim
  have ran : u = mdbEvent Src.MDB_BUS_ON n w := by rw [hu, hw]; rfl
  have told : Within ⟨fun a => a == Reg.MDB_EVT_CTL, []⟩ w u := ran ▸ mdbEvent_within .refl (by simp)
  have get_ {f : Nat → Fld} (h : ∀ m < 4, busReg (f m).addr = true ∧ ((f m).addr == Reg.MDB_EVT_CTL) = false ∧
      (F.MDB_C_STATUS_CLAIMED m).apart (f m) = true) : u.get (f n) = v.get (f n) :=
    (told.busGet (h n hn).1 (h n hn).2.1).trans (keptW _ (h n hn).2.2)
  exact ⟨(get_ (f := F.MDB_C_STATUS_STATE) (by decide)).trans state, (get_ (f := F.MDB_C_ERR_TEC) (by decide)).trans tec,
    (get_ (f := F.MDB_C_ERR_REC) (by decide)).trans rec_, ran ▸ mdbEvent_flagged (by decide) wfW⟩

/-! ### The address claim -/

/-- No address is held. -/
def unclaimed (s : State) : State := (s.put (F.MDB_C_STATUS_CLAIMED 0) 0).put (F.MDB_C_STATUS_ADDRESS 0) 0xFE

theorem claimFrame_of_names (addr : Nat) (lo : u.reg Reg.MDB_NAME_LO = s.reg Reg.MDB_NAME_LO) (hi : u.reg Reg.MDB_NAME_HI = s.reg Reg.MDB_NAME_HI) :
    claimFrame u addr = claimFrame s addr := by
  rw [claimFrame, claimFrame, isoName, isoName, State.get64, State.get64, lo, hi]

theorem addressClaim_due (bus : isoBus s = true) (due_ : s.can.claimDue = true) : addressClaim s =
    sendFirmware 0 (claimFrame (unclaimed s) ((unclaimed s).get F.MDB_ADDR_PREF_ADDR))
      { unclaimed s with can := { (unclaimed s).can with claimDue := false, claimAt := some (unclaimed s).now } } := by
  unfold addressClaim
  rw [bus, due_]
  rfl

/-- A claim that is due is sent. -/
theorem addressClaim_sent (size : s.can.controls.length = 4) (bufs : (control s 0).bufs.length = 3) (hs : s.regsWf = true) (bus : isoBus s = true)
    (due_ : s.can.claimDue = true) (free : txPending s 0 2 = false) (u : State) (hu : u = addressClaim s) :
    u.can.claimDue = false ∧ u.can.claimAt = some s.now ∧ u.flag (F.MDB_C_STATUS_CLAIMED 0) = false ∧
      u.get (F.MDB_C_STATUS_ADDRESS 0) = 0xFE ∧ (txBuffer u 0 2).frame = some (claimFrame s (s.get F.MDB_ADDR_PREF_ADDR)) := by
  rw [addressClaim_due bus due_] at hu
  have wf1 := State.regsWf_put s (F.MDB_C_STATUS_CLAIMED 0) 0 hs
  have wf2 : (unclaimed s).regsWf = true := State.regsWf_put _ _ _ wf1
  have claimed : (unclaimed s).get (F.MDB_C_STATUS_CLAIMED 0) = 0 := by
    rw [unclaimed, State.get_put_of_apart (by decide) wf1, State.get_put_of_lt (by decide) (by decide) hs]
  have address : (unclaimed s).get (F.MDB_C_STATUS_ADDRESS 0) = 0xFE := State.get_put_of_lt (by decide) (by decide) wf1
  have pref : (unclaimed s).get F.MDB_ADDR_PREF_ADDR = s.get F.MDB_ADDR_PREF_ADDR := by
    rw [unclaimed, State.get_put_of_apart (by decide) wf1, State.get_put_of_apart (by decide) hs]
  have pending : (unclaimed s).get (txState 0 2) = s.get (txState 0 2) := by
    rw [unclaimed, State.get_put_of_apart (by decide) wf1, State.get_put_of_apart (by decide) hs]
  have frame : claimFrame (unclaimed s) (s.get F.MDB_ADDR_PREF_ADDR) = claimFrame s (s.get F.MDB_ADDR_PREF_ADDR) :=
    claimFrame_of_names _ (by rw [unclaimed, State.reg_put_of_ne (by decide), State.reg_put_of_ne (by decide)])
      (by rw [unclaimed, State.reg_put_of_ne (by decide), State.reg_put_of_ne (by decide)])
  have now : (unclaimed s).now = s.now := rfl
  have can : (unclaimed s).can = s.can := rfl
  generalize unclaimed s = v at *
  rw [pref, frame, now] at hu
  obtain ⟨w, hw⟩ : ∃ w : State, w = { v with can := { v.can with claimDue := false, claimAt := some s.now } } := ⟨_, rfl⟩
  have facts : w.regs = v.regs ∧ w.can.claimDue = false ∧ w.can.claimAt = some s.now ∧ w.can.controls = v.can.controls := by
    rw [hw]
    exact ⟨rfl, rfl, rfl, rfl⟩
  rw [← hw] at hu
  clear hw
  obtain ⟨regs, sent, at_, controls⟩ := facts
  have controlW : control w 0 = control s 0 := by rw [control, control, controls, can]
  have freeW : txPending w 0 2 = false := (txPending_of_get ((State.get_of_regs regs _).trans pending)).trans free
  rw [sendFirmware, freeW, if_neg Bool.false_ne_true] at hu
  obtain ⟨buffer, -, -, -, -, within_, canU⟩ := loadBuffer_result (n := 0) (k := 2) (by decide) (by decide) (by decide : 63 < 64)
    (by rw [controls, can, size]) (by rw [controlW, bufs]) (by rw [State.regsWf, regs]; exact wf2) u hu
  have status {g : Fld} (hg : busReg g.addr = true) (free : (g.addr == Reg.MDB_C_TXB 0 2) = false) : u.get g = v.get g :=
    (within_.busGet hg free).trans (State.get_of_regs regs _)
  refine ⟨by rw [canU]; exact sent, by rw [canU]; exact at_, ?_, (status (by decide) (by decide)).trans address, by rw [buffer]⟩
  rw [State.flag, status (by decide) (by decide), claimed]
  rfl

/-- A claim without contention for 250 ms is held. -/
theorem addressClaim_held {at_ : Nat} (hs : s.regsWf = true) (bus : isoBus s = true) (sent : s.can.claimDue = false) (claim : s.can.claimAt = some at_)
    (over_ : at_ + 250 * ms ≤ s.now) (u : State) (hu : u = addressClaim s) : u.can.claimAt = none ∧ u.flag (F.MDB_C_STATUS_CLAIMED 0) = true ∧
      u.get (F.MDB_C_STATUS_ADDRESS 0) = s.get F.MDB_ADDR_PREF_ADDR := by
  obtain ⟨v, hv⟩ : ∃ v : State, v = { s with can := { s.can with claimAt := none } } := ⟨_, rfl⟩
  have ran : addressClaim s = (v.put (F.MDB_C_STATUS_CLAIMED 0) 1).put (F.MDB_C_STATUS_ADDRESS 0) (s.get F.MDB_ADDR_PREF_ADDR) := by
    unfold addressClaim
    rw [bus, sent, claim, if_neg (by decide), if_neg Bool.false_ne_true, hv]
    exact if_neg (Nat.not_lt.mpr over_)
  have regs : v.regs = s.regs := by rw [hv]
  have none_ : v.can.claimAt = none := by rw [hv]
  have wf1 : v.regsWf = true := by rw [State.regsWf, regs]; exact hs
  have wf2 := State.regsWf_put v (F.MDB_C_STATUS_CLAIMED 0) 1 wf1
  rw [hu, ran]
  refine ⟨none_, ?_, State.get_put_of_lt (by decide) (s.get_lt F.MDB_ADDR_PREF_ADDR) wf2⟩
  rw [State.flag, State.get_put_of_apart (by decide) wf2, State.get_put_of_lt (by decide) (by decide) wf1]
  rfl

/-! ### Time-outs -/

theorem rxTimeout_result {r : Nat} (hr : r < 32) (hs : s.regsWf = true) (on : s.flag (F.MDB_RX_CFG_EN r) = true)
    (limit : s.get (F.MDB_RX_CFG_TIMEOUT r) ≠ 0) (fresh : s.bit F.MDB_RX_STALE_STALE r = false)
    (late : max s.can.since ((lookupNum s.can.lastRx r).getD 0) + s.get (F.MDB_RX_CFG_TIMEOUT r) * ms ≤ deviceTime s) (u : State)
    (hu : u = rxTimeout r s) : u.bit F.MDB_RX_STALE_STALE r = true ∧ Flagged Src.MDB_RX_TIMEOUT u := by
  unfold rxTimeout at hu
  dsimp only at hu
  rw [on, fresh, beq_eq_false_iff_ne.mpr limit, decide_eq_false (Nat.not_lt.mpr late), if_neg (by decide)] at hu
  have bit : (s.putBit F.MDB_RX_STALE_STALE r true).bit F.MDB_RX_STALE_STALE r = true :=
    State.bit_putBit_same _ _ _ _ hs (Fld.fits_iff.mp (by decide)) hr
  have wf : (s.putBit F.MDB_RX_STALE_STALE r true).regsWf = true := State.regsWf_put _ _ _ hs
  generalize s.putBit F.MDB_RX_STALE_STALE r true = v at *
  have told : Within ⟨fun a => a == Reg.MDB_EVT_CTL, []⟩ v u := hu ▸ mdbEvent_within .refl (by simp)
  exact ⟨(told.bit (touches_eq_false (by decide) (by decide) (by decide))).trans bit, hu ▸ mdbEvent_flagged (by decide) wf⟩

/-! ### Reception -/

/-- A filter that decides about a frame. -/
def filterHit (s : State) (n : Nat) (f : CanFrame) (k : Nat) : Bool :=
  let w := s.reg (Reg.MDB_C_FLT_ID n k)
  let m := bitsAt (s.reg (Reg.MDB_C_FLT_MASK n k)) 0 29
  let a := bitsAt w 30 2
  (a == 1 || a == 2) && Nat.land f.id m == Nat.land (bitsAt w 0 29) m && bitAt w 29 == f.ide

theorem filterFor_eq (s : State) (n : Nat) (f : CanFrame) :
    filterFor s n f = ((upFrom 0 32).find? (filterHit s n f)).map fun k => (k, bitsAt (s.reg (Reg.MDB_C_FLT_ID n k)) 30 2) := by
  have cases_ : filterFor s n f = match (upFrom 0 32).find? (filterHit s n f) with
      | none => none
      | some k => some (k, bitsAt (s.reg (Reg.MDB_C_FLT_ID n k)) 30 2) := rfl
  rw [cases_]
  cases (upFrom 0 32).find? (filterHit s n f) <;> rfl

/-- The registers that say what is received. -/
def SameFilters (s u : State) : Prop := ∀ a, 0x51000 ≤ a → a < 0x52A00 → u.reg a = s.reg a

theorem filterHit_same {f : CanFrame} {j : Nat} (h : SameFilters s u) (hn : n < 4) (hj : j < 32) : filterHit u n f j = filterHit s n f j := by
  rw [filterHit, filterHit, h _ (by simp only [Reg.MDB_C_FLT_ID]; omega) (by simp only [Reg.MDB_C_FLT_ID]; omega),
    h _ (by simp only [Reg.MDB_C_FLT_MASK]; omega) (by simp only [Reg.MDB_C_FLT_MASK]; omega)]

theorem find?_of_same {α : Type} {p q : α → Bool} : ∀ {l : List α}, (∀ a ∈ l, p a = q a) → l.find? p = l.find? q
  | [], _ => rfl
  | a :: l, h => by
    rw [List.find?_cons, List.find?_cons, h a List.mem_cons_self, find?_of_same fun b hb => h b (List.mem_cons_of_mem _ hb)]

theorem filterFor_same {f : CanFrame} (h : SameFilters s u) (hn : n < 4) : filterFor u n f = filterFor s n f := by
  have hits : (upFrom 0 32).find? (filterHit u n f) = (upFrom 0 32).find? (filterHit s n f) :=
    find?_of_same fun j hj => filterHit_same h hn (by have := mem_upFrom.mp hj; omega)
  rw [filterFor_eq, filterFor_eq, hits]
  cases found : (upFrom 0 32).find? (filterHit s n f) with
  | none => rfl
  | some j =>
    have hj : j < 32 := by
      have := mem_upFrom.mp (List.mem_of_find?_eq_some found)
      omega
    rw [Option.map_some, Option.map_some, h _ (by simp only [Reg.MDB_C_FLT_ID]; omega) (by simp only [Reg.MDB_C_FLT_ID]; omega)]

theorem messagesFor_same {f : CanFrame} (h : SameFilters s u) : messagesFor u n f = messagesFor s n f := by
  refine List.filter_congr fun r hr => ?_
  have hr : r < 32 := by
    have := mem_upFrom.mp hr
    omega
  have cfg : u.reg (Reg.MDB_RX_CFG r) = s.reg (Reg.MDB_RX_CFG r) :=
    h _ (by simp only [Reg.MDB_RX_CFG]; omega) (by simp only [Reg.MDB_RX_CFG]; omega)
  have id : u.reg (Reg.MDB_RX_ID r) = s.reg (Reg.MDB_RX_ID r) :=
    h _ (by simp only [Reg.MDB_RX_ID]; omega) (by simp only [Reg.MDB_RX_ID]; omega)
  simp only [State.flag, State.get, F.MDB_RX_CFG_EN, F.MDB_RX_CFG_CTRL, F.MDB_RX_ID_ID, F.MDB_RX_ID_IDE, cfg, id]

/-- What a received frame moves before it is judged: REC, STATE and the event of the judgement. -/
def heardFoot (n : Nat) : Footprint := ⟨fun a => a == Reg.MDB_C_ERR n || a == Reg.MDB_C_STATUS n || a == Reg.MDB_EVT_CTL, []⟩

/-- A frame is received without error. -/
def frameHeard (n : Nat) (s : State) : State := judgePassive n (s.put (F.MDB_C_ERR_REC n) (s.get (F.MDB_C_ERR_REC n) - 1))

theorem frameHeard_within : Within (heardFoot n) s (frameHeard n s) :=
  (put_within .refl (by simp [heardFoot, F.MDB_C_ERR_REC])).trans
    (judgePassive_within.mono (fun a ha => by
      simp only [judgeFoot, Bool.or_eq_true, beq_iff_eq] at ha
      simp only [heardFoot, Bool.or_eq_true, beq_iff_eq]
      tauto) (List.nil_subset _))

theorem heard_filters (hn : n < 4) (h : Within (heardFoot n) s u) : SameFilters s u := fun a low high => by
  refine h.reg a (touches_eq_false ?_ (by omega) (by simp [raisePlaces]; omega))
  simp only [heardFoot, Reg.MDB_C_ERR, Reg.MDB_C_STATUS, Reg.MDB_EVT_CTL, Bool.or_eq_false_iff, beq_eq_false_iff_ne]
  omega

theorem receiveFrame_heard {f : CanFrame} (hn : n < 3) (on : canOn s n = true) (runs : busState s n ≠ 3) (classical : f.fdf = false)
    (whole : f.remote = false) : receiveFrame n f s = (filterFor (frameHeard n s) n f).elim ((frameHeard n s).bump (F.MDB_C_DROP_NO_MATCH n) 1)
      fun e =>
        let v := (frameHeard n s).wrapUp (F.MDB_C_CNT_RX_FRAMES n) 1
        let v := if e.2 = 2 then copyMatch n e.1 f v else v
        let v := foldOver (receiveMessage f) v (messagesFor v n f)
        if n = 0 ∧ canMode v 0 = 3 ∧ isoFrame f = true then queueFirmware n f v else v := by
  have segment : serviceSegment (frameHeard n s) n f = false := by
    rw [serviceSegment, beq_eq_false_iff_ne.mpr (by omega : n ≠ 3), Bool.false_and, Bool.false_and, Bool.false_and, Bool.false_and,
      Bool.false_and, Bool.false_and]
  unfold receiveFrame
  rw [on, beq_eq_false_iff_ne.mpr runs, classical, whole, if_neg (by decide), Bool.false_and, if_neg Bool.false_ne_true]
  dsimp only
  rw [if_neg Bool.false_ne_true, show judgePassive n (s.put (F.MDB_C_ERR_REC n) (s.get (F.MDB_C_ERR_REC n) - 1)) = frameHeard n s from rfl, segment,
    if_neg Bool.false_ne_true]
  cases filterFor (frameHeard n s) n f <;> rfl

theorem takeQueued_empty {handle : Nat → Bytes → State → State} (up : s.die.sigUp = true) (none_ : (control s n).received = []) :
    takeQueued handle n s = modControl n (fun c => { c with received := [] }) s := by
  unfold takeQueued
  rw [up, if_neg (by decide), none_]
  rfl

theorem canMode_same (hn : n < 3) (sets : u.sets.running = s.sets.running) (mode : u.get (F.MDB_C_CFG_MODE n) = s.get (F.MDB_C_CFG_MODE n)) :
    canMode u n = canMode s n := by
  rw [canMode, canMode, if_neg (fun both => absurd both.1 (by omega)),
    if_neg (c := n = 3 ∧ (s.sets.running.isNone || s.flag F.IDR_STRAP_STRAP_FAULT || s.role.role == .stoodDown) = true)
      (fun both => absurd both.1 (by omega)), sets, mode]

theorem busState_same (mode : canMode u n = canMode s n) (state : u.get (F.MDB_C_STATUS_STATE n) = s.get (F.MDB_C_STATUS_STATE n)) :
    busState u n = busState s n := by
  rw [busState, busState, mode, state]

/-- A frame that no filter wants is counted. -/
theorem canReceive_unwanted {f : CanFrame} (hn : n < 3) (hs : s.regsWf = true) (on : canOn s n = true) (runs : busState s n ≠ 3)
    (up : s.die.sigUp = true) (none_ : (control s n).received = []) (classical : f.fdf = false) (whole : f.remote = false)
    (unwanted : filterFor s n f = none) (u : State) (hu : u = canReceive n f s) :
    u.get (F.MDB_C_DROP_NO_MATCH n) = satN 8 (s.get (F.MDB_C_DROP_NO_MATCH n) + 1) ∧
      u.get (F.MDB_C_CNT_RX_FRAMES n) = s.get (F.MDB_C_CNT_RX_FRAMES n) ∧ u.can.lastRx = s.can.lastRx ∧ u.line = s.line ∧
      (busState u n = busState s n → FieldsKept [F.MDB_C_DROP_NO_MATCH n, F.MDB_C_ERR_REC n] s u) := by
  have hn4 : n < 4 := by omega
  have heard : Within (heardFoot n) s (frameHeard n s) := frameHeard_within
  have filter : filterFor (frameHeard n s) n f = none := (filterFor_same (heard_filters hn4 heard) hn4).trans unwanted
  have got : receiveFrame n f s = (frameHeard n s).bump (F.MDB_C_DROP_NO_MATCH n) 1 := by
    rw [receiveFrame_heard hn on runs classical whole, filter]
    rfl
  have modeOf : ∀ v : State, Within (heardFoot n) s v → canMode v n = canMode s n := fun v h =>
    canMode_same hn (Eq.trans (congrArg SetPart.running (h.part .sets List.not_mem_nil : v.sets = { s.sets with orders := v.sets.orders })) rfl) (h.busGet ((by decide : ∀ m < 4, busReg (F.MDB_C_CFG_MODE m).addr = true) n hn4)
      ((by decide : ∀ m < 4, (heardFoot m).reg (F.MDB_C_CFG_MODE m).addr = false) n hn4))
  have mode := modeOf _ heard
  have active : canMode s n ≠ 0 := by
    simp only [canOn, Bool.and_eq_true, bne_iff_ne] at on
    exact on.1.2
  have same : busState (frameHeard n s) n = busState s n →
      frameHeard n s = s.put (F.MDB_C_ERR_REC n) (s.get (F.MDB_C_ERR_REC n) - 1) := by
    intro state
    have put : Within (heardFoot n) s (s.put (F.MDB_C_ERR_REC n) (s.get (F.MDB_C_ERR_REC n) - 1)) :=
      put_within .refl (by simp [heardFoot, F.MDB_C_ERR_REC])
    have modeP := modeOf _ put
    refine judgePassive_same hn4 (by rw [modeP]; exact active) (put.wf hs) (mode.trans modeP.symm) (state.trans (busState_same modeP ?_).symm)
    exact State.get_put_of_apart (apart_of_bus hn4 (by decide)) hs
  have parts : (frameHeard n s).can = s.can ∧ (frameHeard n s).die = s.die ∧ (frameHeard n s).line = s.line :=
    ⟨heard.part .can List.not_mem_nil, heard.part .die List.not_mem_nil, heard.part .line List.not_mem_nil⟩
  have recKept : FieldsKept [F.MDB_C_ERR_REC n] s (s.put (F.MDB_C_ERR_REC n) (s.get (F.MDB_C_ERR_REC n) - 1)) :=
    fieldsKept_put (fits_of_bus hn4 (by decide)) hs _
  have drop := heard.busGet ((by decide : ∀ m < 4, busReg (F.MDB_C_DROP_NO_MATCH m).addr = true) n hn4)
    ((by decide : ∀ m < 4, (heardFoot m).reg (F.MDB_C_DROP_NO_MATCH m).addr = false) n hn4)
  have frames := heard.busGet ((by decide : ∀ m < 4, busReg (F.MDB_C_CNT_RX_FRAMES m).addr = true) n hn4)
    ((by decide : ∀ m < 4, (heardFoot m).reg (F.MDB_C_CNT_RX_FRAMES m).addr = false) n hn4)
  have wf := heard.wf hs
  generalize frameHeard n s = v at *
  obtain ⟨can, die, line⟩ := parts
  have dropKept : FieldsKept [F.MDB_C_DROP_NO_MATCH n] v (v.bump (F.MDB_C_DROP_NO_MATCH n) 1) := fieldsKept_put (fits_of_bus hn4 (by decide)) wf _
  have counted : (v.bump (F.MDB_C_DROP_NO_MATCH n) 1).get (F.MDB_C_DROP_NO_MATCH n) = satN 8 (s.get (F.MDB_C_DROP_NO_MATCH n) + 1) := by
    rw [State.bump_eq_put]
    exact (State.get_put_satN (fits_of_bus hn4 (by decide)) wf).trans (by rw [drop]; rfl)
  have far {f : Nat → Fld} (h : ∀ m < 4, (F.MDB_C_DROP_NO_MATCH m).apart (f m) = true) : (v.bump (F.MDB_C_DROP_NO_MATCH n) 1).get (f n) = v.get (f n) :=
    State.get_put_of_apart (h n hn4) wf
  have sets : (v.bump (F.MDB_C_DROP_NO_MATCH n) 1).sets = v.sets := rfl
  have can1 : (v.bump (F.MDB_C_DROP_NO_MATCH n) 1).can = v.can := rfl
  have die1 : (v.bump (F.MDB_C_DROP_NO_MATCH n) 1).die = v.die := rfl
  have line1 : (v.bump (F.MDB_C_DROP_NO_MATCH n) 1).line = v.line := rfl
  rw [canReceive, got] at hu
  clear got
  generalize v.bump (F.MDB_C_DROP_NO_MATCH n) 1 = w at *
  rw [takeQueued_empty (by rw [die1, die, up]) (by rw [control_of_can (can1.trans can), none_])] at hu
  have regs : u.regs = w.regs := by rw [hu]; rfl
  have setsU : u.sets = w.sets := by rw [hu]; rfl
  refine ⟨(State.get_of_regs regs _).trans counted, ?_, ?_, ?_, fun state => ?_⟩
  · rw [State.get_of_regs regs, far (f := F.MDB_C_CNT_RX_FRAMES) (by decide), frames]
  · rw [hu, ← can, ← can1]
    rfl
  · rw [hu, ← line, ← line1]
    rfl
  · have modeU : canMode u n = canMode v n :=
      canMode_same hn (congrArg SetPart.running (setsU.trans sets)) ((State.get_of_regs regs _).trans (far (f := F.MDB_C_CFG_MODE) (by decide)))
    have stateU := busState_same modeU ((State.get_of_regs regs _).trans (far (f := F.MDB_C_STATUS_STATE) (by decide)))
    rw [← same (stateU.symm.trans state)] at recKept
    intro g apart
    rw [State.get_of_regs regs, dropKept g fun f hf => apart f (by rw [List.mem_singleton.mp hf]; exact List.mem_cons_self),
      recKept g fun f hf => apart f (by rw [List.mem_singleton.mp hf]; exact List.mem_cons_of_mem _ List.mem_cons_self)]

/-! ### A message that is received -/

/-- What the values of a received message move. -/
def valueFoot : Footprint := ⟨fun _ => false, [.nav, .eng, .line]⟩

theorem publishWord_within {w : Footprint} {entry word : Nat} {v : Int} (h : Within w b s) (eng : .eng ∈ w.parts) (line : .line ∈ w.parts) :
    Within w b (publishWord entry word v s) := by
  unfold publishWord
  dsimp only
  split
  · exact line_within (eng_within (x := { s.eng with linePending := putNum s.eng.linePending (1024 * entry + word) (BitVec.ofInt 32 v) }) h eng) line
  · exact eng_within h eng

theorem publish_within {f : CanFrame} {i : Nat} (h : Within valueFoot b s) : Within valueFoot b (publish f s i) := by
  unfold publish
  split
  · exact h
  · exact publishWord_within h (by decide) (by decide)

/-- A message that is received is fresh. -/
def messageSeen (r : Nat) (s : State) : State :=
  State.putBit { s with can := { s.can with lastRx := putNum s.can.lastRx r (deviceTime s) } } F.MDB_RX_STALE_STALE r false

theorem receiveMessage_within {f : CanFrame} {r : Nat} : Within valueFoot (messageSeen r s) (receiveMessage f s r) := by
  have cases_ : receiveMessage f s r = if (messageSeen r s).flag (F.MDB_RX_CFG_STREAM r) then
      (if isTerminus (messageSeen r s) && (messageSeen r s).die.yardUp && (messageSeen r s).die.xoUp then feedSource 3 f.data (messageSeen r s)
        else messageSeen r s)
      else foldOver (publish f) (messageSeen r s) ((upFrom 0 64).filter (fun i => (messageSeen r s).flag (F.MDB_RSIG_CFG_EN i) &&
        (messageSeen r s).get (F.MDB_RSIG_CFG_MSG i) == r)) := rfl
  rw [cases_]
  generalize messageSeen r s = v
  exact ite_within (ite_within (nav_within .refl (by decide)) .refl) (foldOver_within .refl fun _ _ _ h => publish_within h)

theorem receiveMessage_result {f : CanFrame} {r : Nat} (hr : r < 32) (hs : s.regsWf = true) (u : State) (hu : u = receiveMessage f s r) :
    lookupNum u.can.lastRx r = some (deviceTime s) ∧ u.bit F.MDB_RX_STALE_STALE r = false ∧
      Within ⟨fun a => a == Reg.MDB_RX_STALE, [.can, .nav, .eng, .line]⟩ s u := by
  have values : Within valueFoot (messageSeen r s) u := hu ▸ receiveMessage_within
  have seen : Within ⟨fun a => a == Reg.MDB_RX_STALE, [.can, .nav, .eng, .line]⟩ s (messageSeen r s) :=
    put_within (can_within .refl List.mem_cons_self) (by decide)
  have bit : (messageSeen r s).bit F.MDB_RX_STALE_STALE r = false := State.bit_putBit_same _ _ _ _ hs (Fld.fits_iff.mp (by decide)) hr
  have last : lookupNum (messageSeen r s).can.lastRx r = some (deviceTime s) := lookupNum_putNum_same _ _ _
  generalize messageSeen r s = v at *
  refine ⟨?_, (values.bit (touches_eq_false rfl (by decide) (by decide))).trans bit,
    seen.trans (values.mono (fun a ha => absurd ha (by simp [valueFoot])) (by decide))⟩
  have can : u.can = v.can := values.part .can (by decide)
  rw [can, last]

theorem receiveMessage_received {f : CanFrame} {r : Nat} : (control (receiveMessage f s r) n).received = (control s n).received := by
  have can : (receiveMessage f s r).can = (messageSeen r s).can := receiveMessage_within.part .can (by decide)
  rw [control, can]
  rfl

/-- A frame that a filter takes and one message matches is that message. -/
theorem canReceive_message {r : Nat} {f : CanFrame} (bus : n = 1 ∨ n = 2) (hr : r < 32) (hs : s.regsWf = true) (on : canOn s n = true)
    (runs : busState s n ≠ 3) (up : s.die.sigUp = true) (none_ : (control s n).received = [])
    (classical : f.fdf = false) (whole : f.remote = false) (wanted : filterFor s n f = some (k, 1)) (one : messagesFor s n f = [r]) (u : State)
    (hu : u = canReceive n f s) : u.get (F.MDB_C_CNT_RX_FRAMES n) = (s.get (F.MDB_C_CNT_RX_FRAMES n) + 1) % 65536 ∧
      lookupNum u.can.lastRx r = some (deviceTime s) ∧ u.bit F.MDB_RX_STALE_STALE r = false := by
  have hn : n < 3 := by omega
  have hn4 : n < 4 := by omega
  have heard : Within (heardFoot n) s (frameHeard n s) := frameHeard_within
  have filters := heard_filters hn4 heard
  have got := receiveFrame_heard hn on runs classical whole
  rw [filterFor_same filters hn4, wanted, Option.elim_some] at got
  dsimp only at got
  rw [if_neg (by decide : (1 : Nat) ≠ 2)] at got
  have count : Within (heardFoot n) s (frameHeard n s) → ((frameHeard n s).wrapUp (F.MDB_C_CNT_RX_FRAMES n) 1).get (F.MDB_C_CNT_RX_FRAMES n) =
      (s.get (F.MDB_C_CNT_RX_FRAMES n) + 1) % 65536 := by
    intro _
    rw [State.wrapUp_eq_put, State.get_put_mod (fits_of_bus hn4 (by decide)) (heard.wf hs),
      heard.busGet ((by decide : ∀ m < 4, busReg (F.MDB_C_CNT_RX_FRAMES m).addr = true) n hn4)
      ((by decide : ∀ m < 4, (heardFoot m).reg (F.MDB_C_CNT_RX_FRAMES m).addr = false) n hn4)]
    rfl
  have counted := count heard
  clear count
  have wf : ((frameHeard n s).wrapUp (F.MDB_C_CNT_RX_FRAMES n) 1).regsWf = true := State.regsWf_put _ _ _ (heard.wf hs)
  have messages : messagesFor ((frameHeard n s).wrapUp (F.MDB_C_CNT_RX_FRAMES n) 1) n f = [r] := by
    refine (messagesFor_same (s := s) fun a low high => ?_).trans one
    refine Eq.trans (State.reg_put_ne _ _ _ _ ?_) (filters a low high)
    simp only [F.MDB_C_CNT_RX_FRAMES, Reg.MDB_C_CNT]
    omega
  have parts : Within ⟨fun a => a == Reg.MDB_C_CNT n, []⟩ (frameHeard n s) ((frameHeard n s).wrapUp (F.MDB_C_CNT_RX_FRAMES n) 1) :=
    put_within .refl (by simp [F.MDB_C_CNT_RX_FRAMES])
  have die := Eq.trans (parts.part .die List.not_mem_nil : _ = (frameHeard n s).die) (heard.part .die List.not_mem_nil : _ = s.die)
  have can := Eq.trans (parts.part .can List.not_mem_nil : _ = (frameHeard n s).can) (heard.part .can List.not_mem_nil : _ = s.can)
  have now := Eq.trans (parts.part .now List.not_mem_nil : _ = (frameHeard n s).now) (heard.part .now List.not_mem_nil : _ = s.now)
  have off := Eq.trans (parts.part .devOff List.not_mem_nil : _ = (frameHeard n s).devOff) (heard.part .devOff List.not_mem_nil : _ = s.devOff)
  generalize (frameHeard n s).wrapUp (F.MDB_C_CNT_RX_FRAMES n) 1 = w at *
  rw [messages, foldOver_cons, foldOver_nil, if_neg (fun all => absurd all.1 (by omega))] at got
  have time : deviceTime w = deviceTime s := by rw [deviceTime, deviceTime, now, off]
  obtain ⟨last, bit, within_⟩ := receiveMessage_result hr wf _ got
  have dieX : (receiveFrame n f s).die = w.die := within_.part .die (by decide)
  have receivedX : (control (receiveFrame n f s) n).received = [] := by
    rw [got, receiveMessage_received, control_of_can can, none_]
  have cnt := within_.busGet ((by decide : ∀ m < 4, busReg (F.MDB_C_CNT_RX_FRAMES m).addr = true) n hn4)
    ((by decide : ∀ m < 4, ((F.MDB_C_CNT_RX_FRAMES m).addr == Reg.MDB_RX_STALE) = false) n hn4)
  rw [canReceive] at hu
  generalize receiveFrame n f s = x at *
  rw [takeQueued_empty (by rw [dieX, die, up]) receivedX] at hu
  have regs : u.regs = x.regs := by rw [hu]; rfl
  refine ⟨?_, ?_, ?_⟩
  · rw [State.get_of_regs regs, cnt, counted]
  · rw [hu, ← time, ← last]
    rfl
  · rw [State.bit, State.get_of_regs regs]
    exact bit

end

/-! ### The rows -/

/-- Settles O51: each row is the one operation on its controller, and what goes unnamed is judged, told and refilled without touching what
is said. -/
theorem messageBusRows : Obligations.MessageBusRows := by
  refine ⟨fun m hm => ?_, fun m n at_ hm => ?_, fun n k f hn hk => ?_, fun n k err hn hk low high => ?_, fun n k err hn hk low high heard => ?_,
    fun n hn => ?_, ?_, fun at_ => ?_, fun n f hn => ?_, fun n k r f bus hr => ?_, fun r hr => ?_⟩
  case refine_1 =>
    refine does_of_run (fun s => if m < 32 then messageDue m s else s) (fun _ _ => rfl) fun b off => (if_pos hm).trans ?_
    unfold messageDue
    rw [off]
    exact if_pos rfl
  case refine_2 =>
    refine does_of_run (fun s => if m < 32 then messageDue m s else s) (fun _ _ => rfl)
      fun b ⟨sound, on, period, due_, since, new, ctrl, can, idle, free0, free1⟩ => ?_
    have hn : n < 4 := ctrl ▸ b.get_lt (F.MDB_TX_CFG_CTRL m)
    exact messageDue_result hm hn (controls_length_of_sound sound) (bufs_length_of_sound sound hn) (regsWf_of_sound sound) on period due_ since new ctrl
      can idle free0 free1 _ (if_pos hm)
  case refine_3 =>
    exact does_sent (fun s => if n < 4 then frameSent n s else s) (fun _ _ => rfl) fun b silent ⟨sound, drives, offered, frame, idle, none_⟩ =>
      frameSent_result hn hk (controls_length_of_sound sound) (bufs_length_of_sound sound hn) (regsWf_of_sound sound) silent drives offered frame idle
        none_ _ (if_pos hn)
  case refine_4 =>
    exact does_sent (fun s => if n < 4 ∧ 1 ≤ err ∧ err ≤ 6 then transmitError n err s else s) (fun _ _ => rfl)
      fun b silent ⟨sound, drives, active, offered, few, errors⟩ =>
      transmitError_result hn hk high (controls_length_of_sound sound) (bufs_length_of_sound sound hn) (regsWf_of_sound sound) silent drives active
        offered few errors _ (if_pos ⟨hn, low, high⟩)
  case refine_5 =>
    exact does_of_run (fun s => if n < 4 ∧ 1 ≤ err ∧ err ≤ 6 then transmitError n err s else s) (fun _ _ => rfl)
      fun b ⟨sound, drives, offered, many⟩ =>
      transmitError_off hn hk high heard (controls_length_of_sound sound) (bufs_length_of_sound sound hn) (regsWf_of_sound sound) drives offered many _
        (if_pos ⟨hn, low, high⟩)
  case refine_6 =>
    exact does_of_run (fun s => if n < 4 then busOn n s else s) (fun _ _ => rfl) fun b ⟨sound, on, off⟩ =>
      busOn_result hn (regsWf_of_sound sound) on off _ (if_pos hn)
  case refine_7 =>
    exact does_of_run addressClaim (fun _ _ => rfl) fun b ⟨sound, bus, due_, free⟩ =>
      addressClaim_sent (controls_length_of_sound sound) (bufs_length_of_sound sound (by decide)) (regsWf_of_sound sound) bus due_ free _ rfl
  case refine_8 =>
    exact does_of_run addressClaim (fun _ _ => rfl) fun b ⟨sound, bus, sent, claim, ended⟩ =>
      addressClaim_held (regsWf_of_sound sound) bus sent claim ended _ rfl
  case refine_9 =>
    exact does_of_run (fun s => if n < 4 then canReceive n f s else s) (fun _ _ => rfl)
      fun b ⟨sound, on, runs, up, none_, classical, whole, unwanted⟩ =>
      canReceive_unwanted hn (regsWf_of_sound sound) on runs up none_ classical whole unwanted _ (if_pos (by omega))
  case refine_10 =>
    exact does_of_run (fun s => if n < 4 then canReceive n f s else s) (fun _ _ => rfl)
      fun b ⟨sound, on, runs, up, none_, classical, whole, wanted, one⟩ =>
      canReceive_message bus hr (regsWf_of_sound sound) on runs up none_ classical whole wanted one _ (if_pos (by omega))
  case refine_11 =>
    exact does_of_run (fun s => if r < 32 then rxTimeout r s else s) (fun _ _ => rfl) fun b ⟨sound, on, limit, fresh, late⟩ =>
      rxTimeout_result hr (regsWf_of_sound sound) on limit fresh late _ (if_pos hr)

end Sys2Proof.Machine

end

section
/-!
Images and update runs: verification, activation, health, the fallback of a trial, and the runs that are accepted or answered at once
(R746–R776).
-/

namespace Sys2Proof.Machine

/-! ### The boot records -/

theorem slotFld_addr (d k : Nat) : (slotFld d k).addr = Reg.UPD_SLOT d := by
  unfold slotFld
  split <;> rfl

theorem targetSlot_lt {s : State} (d : Nat) : targetSlot s d < 2 := by
  rw [targetSlot]
  omega

/-- A register among those of the images. -/
def imageReg (a : Nat) : Bool := decide (0x70000 ≤ a) && decide (a < 0x70018)

theorem imageReg_slot {d : Nat} (hd : d < 2) {g : Fld} (hg : g.addr = Reg.UPD_SLOT d) : imageReg g.addr = true := by
  rw [hg]
  exact (by decide : ∀ e < 2, imageReg (Reg.UPD_SLOT e) = true) d hd

theorem imageReg_touches {w : Footprint} {a : Nat} (ha : imageReg a = true) (free : w.reg a = false) : w.touches a = false := by
  obtain ⟨low, high⟩ := (Bool.and_eq_true _ _).mp ha
  have low := of_decide_eq_true low
  have high := of_decide_eq_true high
  exact touches_eq_false free (by omega) (by simp [raisePlaces]; omega)

section
variable {b s t u : State} {d k : Nat}

/-- A field of a boot record that an operation does not write reads the same behind it. -/
theorem Within.slotGet {w : Footprint} {g : Fld} (h : Within w b u) (hd : d < 2) (hg : g.addr = Reg.UPD_SLOT d)
    (free : w.reg (Reg.UPD_SLOT d) = false) : u.get g = b.get g :=
  h.get (imageReg_touches (imageReg_slot hd hg) (hg ▸ free))

theorem slotState_of_get (h : u.get (slotFld d k) = s.get (slotFld d k)) : slotState u d k = slotState s d k := h

theorem trialSlot_of_get (h : u.get (F.UPD_SLOT_TRIAL d) = s.get (F.UPD_SLOT_TRIAL d)) : trialSlot u d = trialSlot s d := by
  rw [trialSlot, trialSlot, h]

theorem slots_length_of_sound (h : s.sound = true) : s.upd.slots.length = 4 := by
  simp only [State.sound, State.sized, Bool.and_eq_true, beq_iff_eq] at h
  tauto

/-- The state of a slot is apart from the rest of its boot record. -/
theorem slotFld_apart {g : Nat → Fld} (h : ∀ e < 2, (F.UPD_SLOT_STATE_A e).apart (g e) = true ∧ (F.UPD_SLOT_STATE_B e).apart (g e) = true)
    (hd : d < 2) : (slotFld d k).apart (g d) = true := by
  unfold slotFld
  split
  · exact (h d hd).1
  · exact (h d hd).2

theorem apart_slotFld {g : Nat → Fld} (h : ∀ e < 2, (g e).apart (F.UPD_SLOT_STATE_A e) = true ∧ (g e).apart (F.UPD_SLOT_STATE_B e) = true)
    (hd : d < 2) : (g d).apart (slotFld d k) = true := by
  unfold slotFld
  split
  · exact (h d hd).1
  · exact (h d hd).2

/-! ### The end of a verification -/

theorem verifyAnswer_within {status : Nat} (h : Within packetFoot b s) : Within packetFoot b (verifyAnswer d status s) :=
  completeOwn_within (foldOver_within h fun _ _ _ hu => completeWaiting_within hu)

theorem verifyDone_eq (verifying : slotState s d (targetSlot s d) = uVerifying) (up : s.die.sigUp = true) : verifyDone d s =
    if (imageSigned s (imageSlot s d (targetSlot s d)) && rollbackOk s d (imageSlot s d (targetSlot s d)).header) = true then
      verifyAnswer d St.ok (raise0 Src.UPD_IMAGE_VERIFIED (setSlotState d (targetSlot s d) uVerified s))
    else
      verifyAnswer d (if imageSigned s (imageSlot s d (targetSlot s d)) then St.imageRollback else St.imageSignature)
        (fault 0x68 4 0xFF d (imVersion (imageSlot s d (targetSlot s d)).header) (b2n (imageSigned s (imageSlot s d (targetSlot s d)))) 0
          (emptySlot d (targetSlot s d) s)) := by
  unfold verifyDone
  dsimp only
  rw [if_neg (not_or.mpr ⟨not_not.mpr verifying, by rw [up]; decide⟩)]

/-- An image that is signed and not rolled back is VERIFIED. -/
theorem verifyDone_good (hd : d < 2) (hs : s.regsWf = true) (verifying : slotState s d (targetSlot s d) = uVerifying) (up : s.die.sigUp = true)
    (signed : imageSigned s (imageSlot s d (targetSlot s d)) = true) (forward : rollbackOk s d (imageSlot s d (targetSlot s d)).header = true)
    (u : State) (hu : u = verifyDone d s) :
    slotState u d (targetSlot s d) = uVerified ∧ u.upd = s.upd ∧ Flagged Src.UPD_IMAGE_VERIFIED u := by
  rw [verifyDone_eq verifying up, signed, forward, if_pos (by decide)] at hu
  have state := slotState_setSlotState (d := d) (k := targetSlot s d) (show uVerified < 8 by decide) hs
  have wf : (setSlotState d (targetSlot s d) uVerified s).regsWf = true := State.regsWf_put _ _ _ hs
  have upd : (setSlotState d (targetSlot s d) uVerified s).upd = s.upd := rfl
  generalize setSlotState d (targetSlot s d) uVerified s = v at *
  have raised : Within ⟨fun _ => false, []⟩ v (raise0 Src.UPD_IMAGE_VERIFIED v) := raise0_within .refl
  have told : Flagged Src.UPD_IMAGE_VERIFIED (raise0 Src.UPD_IMAGE_VERIFIED v) := flagged_raiseArg (by decide) wf
  have wf2 := raised.wf wf
  have stateR := raised.slotGet hd (slotFld_addr d (targetSlot s d)) rfl
  have updR : (raise0 Src.UPD_IMAGE_VERIFIED v).upd = v.upd := raised.part .upd List.not_mem_nil
  generalize raise0 Src.UPD_IMAGE_VERIFIED v = w at *
  have answered : Within packetFoot w u := hu ▸ verifyAnswer_within .refl
  refine ⟨?_, ?_, answered.flags wf2 _ (by decide) told⟩
  · exact ((answered.slotGet hd (slotFld_addr d _) ((by decide : ∀ e < 2, packetFoot.reg (Reg.UPD_SLOT e) = false) d hd)).trans stateR).trans state
  · exact Eq.trans (answered.part .upd (by decide) : u.upd = w.upd) (updR.trans upd)

/-- A slot that gets new content has its state, and the rest of its boot record stands. -/
theorem setSlot_result {st : Nat} {x : ImageSlot} (hd : d < 2) (small : st < 8) (hs : s.regsWf = true) (u : State) (hu : u = setSlot d k st x s) :
    u.regsWf = true ∧ slotState u d k = st ∧
      ∀ g : Fld, g.addr = Reg.UPD_SLOT d → (slotFld d k).apart g = true → u.get g = s.get g := by
  have state := slotState_setSlotState (d := d) (k := k) small hs
  have wf : (setSlotState d k st s).regsWf = true := State.regsWf_put _ _ _ hs
  have kept (g : Fld) (far : (slotFld d k).apart g = true) : (setSlotState d k st s).get g = s.get g := State.get_put_of_apart far hs
  unfold setSlot at hu
  generalize setSlotState d k st s = v at *
  have shown : Within ⟨fun a => a == Reg.UPD_VER (2 * d + k), [.upd]⟩ v u := by
    rw [hu]
    exact put_within (put_within (upd_within .refl (by simp)) (by simp [F.UPD_VER_VERSION])) (by simp [F.UPD_VER_ROLLBACK])
  have free : (Reg.UPD_SLOT d == Reg.UPD_VER (2 * d + k)) = false := by
    rw [beq_eq_false_iff_ne]
    simp only [Reg.UPD_SLOT, Reg.UPD_VER]
    omega
  exact ⟨shown.wf wf, (shown.slotGet hd (slotFld_addr d k) free).trans state, fun g hg far => (shown.slotGet hd hg free).trans (kept g far)⟩

/-- An image that fails its verification is gone. -/
theorem verifyDone_bad (hd : d < 2) (hs : s.regsWf = true) (four : s.upd.slots.length = 4) (verifying : slotState s d (targetSlot s d) = uVerifying)
    (up : s.die.sigUp = true)
    (bad : imageSigned s (imageSlot s d (targetSlot s d)) = false ∨ rollbackOk s d (imageSlot s d (targetSlot s d)).header = false)
    (u : State) (hu : u = verifyDone d s) : slotState u d (targetSlot s d) = uEmpty ∧ imageSlot u d (targetSlot s d) = {} ∧
      u.get (F.UPD_SLOT_TRIAL d) = s.get (F.UPD_SLOT_TRIAL d) := by
  have fails : ¬ (imageSigned s (imageSlot s d (targetSlot s d)) && rollbackOk s d (imageSlot s d (targetSlot s d)).header) = true := by
    rw [Bool.and_eq_true]
    rintro ⟨signed, forward⟩
    obtain no | no := bad
    · exact absurd (signed.symm.trans no) (by decide)
    · exact absurd (forward.symm.trans no) (by decide)
  rw [verifyDone_eq verifying up, if_neg fails] at hu
  have lt := targetSlot_lt (s := s) d
  obtain ⟨wf, state, kept⟩ := setSlot_result (k := targetSlot s d) (x := {}) hd (show uEmpty < 8 by decide) hs _ rfl
  have slot := imageSlot_setSlot (k := targetSlot s d) (st := uEmpty) (x := {}) (by omega : d ≤ 1) (by omega) four
  have trial := kept (F.UPD_SLOT_TRIAL d) rfl (slotFld_apart (by decide) hd)
  clear kept
  rw [emptySlot] at hu
  generalize setSlot d (targetSlot s d) uEmpty {} s = v at *
  generalize imVersion (imageSlot s d (targetSlot s d)).header = version at *
  generalize imageSigned s (imageSlot s d (targetSlot s d)) = signed at *
  have logged : Within ⟨packetFoot.reg, [.packets, .line, .can, .out, .log]⟩ v u := by
    have faulted : Within ⟨packetFoot.reg, [.packets, .line, .can, .out, .log]⟩ v (fault 0x68 4 0xFF d version (b2n signed) 0 v) :=
      fault_within .refl (by decide)
    rw [hu]
    exact faulted.trans ((verifyAnswer_within .refl).mono (fun _ h => h) (by decide))
  have free : packetFoot.reg (Reg.UPD_SLOT d) = false := (by decide : ∀ e < 2, packetFoot.reg (Reg.UPD_SLOT e) = false) d hd
  refine ⟨(logged.slotGet hd (slotFld_addr d _) free).trans state, ?_, (logged.slotGet hd rfl free).trans trial⟩
  have upd : u.upd = v.upd := logged.part .upd (by decide)
  rw [imageSlot, upd]
  exact slot

/-! ### A restart and the boot records -/

/-- A slot that was being verified holds an unverified image again. -/
theorem lowered_get {f g : Fld} (far : f.apart g = true ∨ f = g ∧ s.get g ≠ 3) (hs : s.regsWf = true) (u : State)
    (hu : u = if s.get f = 3 then s.put f 2 else s) : u.regsWf = true ∧ u.get g = s.get g := by
  split at hu
  case isTrue three =>
    obtain apart | ⟨same, other⟩ := far
    · rw [hu]
      exact ⟨State.regsWf_put _ _ _ hs, State.get_put_of_apart apart hs⟩
    · exact absurd (same ▸ three) other
  case isFalse =>
    rw [hu]
    exact ⟨hs, rfl⟩

/-- A field of the boot records that the loss of a verification leaves. -/
def Unlowered (s : State) (g : Fld) : Prop :=
  ∀ e < 2, ((F.UPD_SLOT_STATE_A e).apart g = true ∨ F.UPD_SLOT_STATE_A e = g ∧ s.get g ≠ 3) ∧
    ((F.UPD_SLOT_STATE_B e).apart g = true ∨ F.UPD_SLOT_STATE_B e = g ∧ s.get g ≠ 3)

theorem slotsDropped_get {g : Fld} (far : Unlowered s g) (hs : s.regsWf = true) : (slotsDropped s).regsWf = true ∧ (slotsDropped s).get g = s.get g := by
  obtain ⟨farA0, farB0⟩ := far 0 (by decide)
  obtain ⟨farA1, farB1⟩ := far 1 (by decide)
  unfold slotsDropped
  rw [foldOver_cons, foldOver_cons, foldOver_nil]
  dsimp only
  obtain ⟨wf1, get1⟩ := lowered_get farA0 hs _ rfl
  generalize (if s.get (F.UPD_SLOT_STATE_A 0) = 3 then s.put (F.UPD_SLOT_STATE_A 0) 2 else s) = s1 at *
  rw [← get1] at farB0 farA1 farB1
  obtain ⟨wf2, get2⟩ := lowered_get farB0 wf1 _ rfl
  generalize (if s1.get (F.UPD_SLOT_STATE_B 0) = 3 then s1.put (F.UPD_SLOT_STATE_B 0) 2 else s1) = s2 at *
  rw [← get2] at farA1 farB1
  obtain ⟨wf3, get3⟩ := lowered_get farA1 wf2 _ rfl
  generalize (if s2.get (F.UPD_SLOT_STATE_A 1) = 3 then s2.put (F.UPD_SLOT_STATE_A 1) 2 else s2) = s3 at *
  rw [← get3] at farB1
  obtain ⟨wf4, get4⟩ := lowered_get farB1 wf3 _ rfl
  exact ⟨wf4, get4.trans (get3.trans (get2.trans get1))⟩

theorem dropVerify_regs (s : State) : (dropVerify s).regs = (slotsDropped s).regs ∧ (dropVerify s).upd = s.upd := by
  obtain ⟨waiting, dropped, kept⟩ := dropVerify_eq s
  have upd : (slotsDropped s).upd = s.upd := (slotsDropped_within s).part .upd List.not_mem_nil
  rw [kept]
  exact ⟨rfl, upd⟩

theorem canSignalRestart_keeps (s : State) : (canSignalRestart s).regs = s.regs ∧ (canSignalRestart s).upd = s.upd :=
  ⟨foldOver_keeps State.regs (fun s n => modControl n (fun c => { c with received := [], firmware := [] }) s) (fun _ _ => rfl) _ s,
    foldOver_keeps State.upd (fun s n => modControl n (fun c => { c with received := [], firmware := [] }) s) (fun _ _ => rfl) _ s⟩

theorem signalAtRest_keeps (planned : Bool) (hold : Nat) (s : State) :
    (signalAtRest (signalMarked planned hold s)).regs = s.regs ∧ (signalAtRest (signalMarked planned hold s)).upd.yardNext = s.upd.yardNext := ⟨rfl, rfl⟩

/-- A restart of the Signal die keeps the boot records, and what is to follow on the Yard die. -/
theorem signalDown_slots (planned : Bool) (on : powered s = true) (hs : s.regsWf = true) (u : State) (hu : u = signalDown planned s) :
    u.die.sigUp = false ∧ u.upd.yardNext = s.upd.yardNext ∧
      ∀ d < 2, ∀ g : Fld, g.addr = Reg.UPD_SLOT d → Unlowered s g → u.get g = s.get g := by
  have up := (signalDown_parts planned on).1
  rw [← hu] at up
  rw [signalDown_eq on, signalQuiet_eq] at hu
  have logged : Within ⟨fun _ => false, [.log]⟩ s (logRestart 0 planned s) := raise_within (fault_within .refl (by decide))
  obtain ⟨hold, hhold⟩ : ∃ hold, hold = s.get F.LSW_CFG_HOLD * ms := ⟨_, rfl⟩
  rw [← hhold] at hu
  generalize logRestart 0 planned s = v at *
  obtain ⟨regs1, next1⟩ := signalAtRest_keeps planned hold v
  generalize signalAtRest (signalMarked planned hold v) = w at *
  have wf : w.regsWf = true := by rw [State.regsWf, regs1]; exact logged.wf hs
  obtain ⟨regs2, upd2⟩ := dropVerify_regs w
  obtain ⟨regs3, upd3⟩ := canSignalRestart_keeps (dropVerify w)
  generalize canSignalRestart (dropVerify w) = x at *
  have updU : u.upd = x.upd := by rw [hu]; rfl
  have updV : v.upd = s.upd := logged.part .upd (by decide)
  refine ⟨up, by rw [updU, upd3, upd2, next1, updV], fun d hd g hg far => ?_⟩
  have getW : w.get g = s.get g := (State.get_of_regs regs1 g).trans (logged.slotGet hd hg rfl)
  obtain ⟨wfD, getD_⟩ := slotsDropped_get (s := w) (g := g) (fun e he => by rw [getW]; exact far e he) wf
  have wfX : x.regsWf = true := by rw [State.regsWf, regs3, regs2]; exact wfD
  have out_ : signalVolatile g.addr = false := by
    rw [hg]
    exact (by decide : ∀ e < 2, signalVolatile (Reg.UPD_SLOT e) = false) d hd
  rw [hu, (resetBlock_stands signalKeep out_ x wfX).2, State.get_of_regs (regs3.trans regs2), getD_, getW]

theorem settle_signal (due_ : s.upd.restartDue = [0]) : settle s = signalDown true (modUpd (fun u => { u with restartDue := [] }) s) := by
  unfold settle
  rw [due_]
  rfl

theorem settle_yard (due_ : s.upd.restartDue = [1]) : settle s = yardDown true (modUpd (fun u => { u with restartDue := [] }) s) := by
  unfold settle
  rw [due_]
  rfl

/-! ### Activation -/

/-- The boot record of a die takes its target slot as trial. -/
theorem activateDie_result (hd : d < 2) (hs : s.regsWf = true) (u : State) (hu : u = activateDie d s) : u.regsWf = true ∧
    u.get (F.UPD_SLOT_TRIAL d) = targetSlot s d + 1 ∧ u.get (F.UPD_SLOT_TRIES d) = 0 ∧ u.get (F.UPD_SLOT_HEALTHY d) = 0 ∧
      u.get (F.UPD_SLOT_ACTIVE d) = s.get (F.UPD_SLOT_ACTIVE d) ∧ u.upd.yardNext = s.upd.yardNext ∧
      u.upd.restartDue = s.upd.restartDue.filter (fun x => x != d) ++ [d] ∧ u.pwr = s.pwr := by
  have small := targetSlot_lt (s := s) d
  have wf1 := State.regsWf_put s (F.UPD_SLOT_TRIAL d) (targetSlot s d + 1) hs
  have wf2 := State.regsWf_put _ (F.UPD_SLOT_TRIES d) 0 wf1
  have wf3 := State.regsWf_put _ (F.UPD_SLOT_HEALTHY d) 0 wf2
  have regs : u.regs = (((s.put (F.UPD_SLOT_TRIAL d) (targetSlot s d + 1)).put (F.UPD_SLOT_TRIES d) 0).put (F.UPD_SLOT_HEALTHY d) 0).regs := by
    rw [hu]
    rfl
  have apart {f g : Nat → Fld} (h : ∀ e < 2, (f e).apart (g e) = true) : (f d).apart (g d) = true := h d hd
  have fits {f : Nat → Fld} (h : ∀ e < 2, (f e).fits = true) : (f d).fits = true := h d hd
  refine ⟨by rw [State.regsWf, regs]; exact wf3, ?_, ?_, ?_, ?_, by rw [hu]; rfl, by rw [hu]; rfl, by rw [hu]; rfl⟩
  · rw [State.get_of_regs regs, State.get_put_of_apart (apart (by decide)) wf2, State.get_put_of_apart (apart (by decide)) wf1,
      State.get_put_of_lt (fits (by decide)) (show targetSlot s d + 1 < 2 ^ 2 by omega) hs]
  · rw [State.get_of_regs regs, State.get_put_of_apart (apart (by decide)) wf2, State.get_put_of_lt (fits (by decide)) (Nat.two_pow_pos _) wf1]
  · rw [State.get_of_regs regs, State.get_put_of_lt (fits (by decide)) (Nat.two_pow_pos _) wf2]
  · rw [State.get_of_regs regs, State.get_put_of_apart (apart (by decide)) wf2, State.get_put_of_apart (apart (by decide)) wf1,
      State.get_put_of_apart (apart (by decide)) hs]

/-- When the dies of a module were activated. -/
def activatedMarks (sig yard : Nat) (s : State) : State :=
  modUpd (fun u => { u with activatedAt := (if canActivate s 0 sig then s.now else nth s.upd.activatedAt 0 0) ::
    [if canActivate s 1 yard then s.now else nth s.upd.activatedAt 1 0] }) s

theorem activateModule_eq (sig yard : Nat) (s : State) : activateModule sig yard s =
    if canActivate s 0 sig then modUpd (fun u => { u with yardNext := canActivate s 1 yard }) (activateDie 0 (activatedMarks sig yard s))
    else if canActivate s 1 yard then activateDie 1 (activatedMarks sig yard s) else activatedMarks sig yard s := rfl

theorem targetSlot_of_regs (h : u.regs = s.regs) : targetSlot u d = targetSlot s d := by
  rw [targetSlot, targetSlot, activeSlot, activeSlot, State.get_of_regs h]

/-- Every field of a boot record beside the states of its slots. -/
theorem unlowered_record {g : Nat → Fld} (h : ∀ d < 2, ∀ e < 2, (F.UPD_SLOT_STATE_A e).apart (g d) = true ∧ (F.UPD_SLOT_STATE_B e).apart (g d) = true)
    (hd : d < 2) : Unlowered s (g d) := fun e he => ⟨.inl (h d hd e he).1, .inl (h d hd e he).2⟩

/-- A module that can activate the image of its Signal die restarts into its trial. -/
theorem moduleActivate_signal {sig yard : Nat} (hs : s.regsWf = true) (on : powered s = true) (none_ : s.upd.restartDue = [])
    (can : canActivate s 0 sig = true) (u : State) (hu : u = settle (activateModule sig yard s)) :
    u.get (F.UPD_SLOT_TRIAL 0) = targetSlot s 0 + 1 ∧ u.get (F.UPD_SLOT_TRIES 0) = 0 ∧ u.flag (F.UPD_SLOT_HEALTHY 0) = false ∧
      u.die.sigUp = false ∧ u.upd.yardNext = canActivate s 1 yard ∧ u.get (F.UPD_SLOT_ACTIVE 0) = s.get (F.UPD_SLOT_ACTIVE 0) := by
  rw [activateModule_eq, if_pos can] at hu
  generalize canActivate s 1 yard = next at *
  have regs1 : (activatedMarks sig yard s).regs = s.regs := rfl
  have due1 : (activatedMarks sig yard s).upd.restartDue = [] := none_
  have pwr1 : (activatedMarks sig yard s).pwr = s.pwr := rfl
  generalize activatedMarks sig yard s = v at *
  obtain ⟨wf, trial, tries, healthy, active, -, due2, pwr2⟩ := activateDie_result (d := 0) (by decide) (by rw [State.regsWf, regs1]; exact hs) _ rfl
  generalize activateDie 0 v = w at *
  rw [due1] at due2
  obtain ⟨y, hy⟩ : ∃ y, y = modUpd (fun u => { u with restartDue := [] }) (modUpd (fun u => { u with yardNext := next }) w) := ⟨_, rfl⟩
  have ran : u = signalDown true y := by
    rw [hu, hy]
    exact settle_signal due2
  have facts : y.regs = w.regs ∧ y.upd.yardNext = next ∧ y.pwr = w.pwr := by
    rw [hy]
    exact ⟨rfl, rfl, rfl⟩
  obtain ⟨regs3, next3, pwr3⟩ := facts
  have onY : powered y = true := by rw [powered, pwr3, pwr2, pwr1]; exact on
  obtain ⟨down, nextU, kept⟩ := signalDown_slots true onY (by rw [State.regsWf, regs3]; exact wf) u ran
  have get_ {g : Nat → Fld} (place : (g 0).addr = Reg.UPD_SLOT 0)
      (h : ∀ d < 2, ∀ e < 2, (F.UPD_SLOT_STATE_A e).apart (g d) = true ∧ (F.UPD_SLOT_STATE_B e).apart (g d) = true) : u.get (g 0) = w.get (g 0) :=
    (kept 0 (by decide) (g 0) place (unlowered_record h (by decide))).trans (State.get_of_regs regs3 _)
  refine ⟨?_, ?_, ?_, down, nextU.trans next3, ?_⟩
  · rw [get_ (g := F.UPD_SLOT_TRIAL) rfl (by decide), trial, targetSlot_of_regs regs1]
  · rw [get_ (g := F.UPD_SLOT_TRIES) rfl (by decide), tries]
  · rw [State.flag, get_ (g := F.UPD_SLOT_HEALTHY) rfl (by decide), healthy]
    rfl
  · rw [get_ (g := F.UPD_SLOT_ACTIVE) rfl (by decide), active, State.get_of_regs regs1]

/-- A module that has nothing to activate notes when it was asked. -/
theorem moduleActivate_none {sig yard : Nat} (none_ : s.upd.restartDue = []) (no0 : canActivate s 0 sig = false) (no1 : canActivate s 1 yard = false) :
    settle (activateModule sig yard s) = activatedMarks sig yard s := by
  rw [activateModule_eq, if_neg (by rw [no0]; decide), if_neg (by rw [no1]; decide)]
  exact settle_of_none_due none_

/-! ### Health -/

/-- Since when the items hold for a die. -/
def noteDie (s : State) (d : Nat) : State :=
  if (trialSlot s d).isNone then s
  else
    match nth s.upd.healthFrom d none, healthItems s d with
    | none, true => modUpd (fun u => { u with healthFrom := setNth u.healthFrom d (some s.now) }) s
    | some _, false => modUpd (fun u => { u with healthFrom := setNth u.healthFrom d none }) s
    | _, _ => s

/-- A trial that has been healthy for its time is judged healthy. -/
def judgeDie (s : State) (d : Nat) : State :=
  match nth s.upd.healthFrom d none with
  | none => s
  | some t =>
    if (trialSlot s d).isSome ∧ s.get (F.UPD_SLOT_HEALTHY d) = 0 ∧ t + tSoak ≤ s.now then
      raise0 Src.UPD_IMAGE_HEALTHY (s.put (F.UPD_SLOT_HEALTHY d) 1)
    else s

theorem trialHealthy_eq (s : State) : trialHealthy s = judgeDie (judgeDie (noteDie (noteDie s 0) 1) 0) 1 := rfl

theorem noteDie_held {from_ : Nat} (since : nth s.upd.healthFrom d none = some from_) (items : healthItems s d = true) : noteDie s d = s := by
  unfold noteDie
  rw [since, items]
  exact ite_self s

theorem healthItems_of_from {x : List (Option Nat)} : healthItems (modUpd (fun u => { u with healthFrom := x }) s) d = healthItems s d := rfl

/-- What is noted of one die leaves the other. -/
theorem noteDie_other {e : Nat} (other : e ≠ d) : (noteDie s d).regs = s.regs ∧ (noteDie s d).now = s.now ∧
    healthItems (noteDie s d) e = healthItems s e ∧ nth (noteDie s d).upd.healthFrom e none = nth s.upd.healthFrom e none := by
  unfold noteDie
  split
  · exact ⟨rfl, rfl, rfl, rfl⟩
  · split
    · exact ⟨rfl, rfl, healthItems_of_from, nth_setNth_ne _ _ other⟩
    · exact ⟨rfl, rfl, healthItems_of_from, nth_setNth_ne _ _ other⟩
    · exact ⟨rfl, rfl, rfl, rfl⟩

theorem judgeDie_within : Within ⟨fun a => a == Reg.UPD_SLOT d, []⟩ s (judgeDie s d) := by
  unfold judgeDie
  split
  · exact .refl
  · exact ite_within (raise0_within (put_within .refl (by simp [F.UPD_SLOT_HEALTHY]))) .refl

theorem judgeDie_healthy {from_ : Nat} (hd : d < 2) (hs : s.regsWf = true) (trial : (trialSlot s d).isSome = true)
    (since : nth s.upd.healthFrom d none = some from_) (unjudged : s.get (F.UPD_SLOT_HEALTHY d) = 0) (long : from_ + tSoak ≤ s.now) :
    (judgeDie s d).flag (F.UPD_SLOT_HEALTHY d) = true ∧ Flagged Src.UPD_IMAGE_HEALTHY (judgeDie s d) := by
  have ran : judgeDie s d = raise0 Src.UPD_IMAGE_HEALTHY (s.put (F.UPD_SLOT_HEALTHY d) 1) := by
    unfold judgeDie
    rw [since]
    exact if_pos ⟨trial, unjudged, long⟩
  rw [ran]
  have wf := State.regsWf_put s (F.UPD_SLOT_HEALTHY d) 1 hs
  have set_ : (s.put (F.UPD_SLOT_HEALTHY d) 1).flag (F.UPD_SLOT_HEALTHY d) = true :=
    State.flag_put_one ((by decide : ∀ e < 2, (F.UPD_SLOT_HEALTHY e).fits = true) d hd) rfl hs
  generalize s.put (F.UPD_SLOT_HEALTHY d) 1 = v at *
  have raised : Within ⟨fun _ => false, []⟩ v (raise0 Src.UPD_IMAGE_HEALTHY v) := raise0_within .refl
  exact ⟨(congrArg (fun m => m != 0) (raised.slotGet hd rfl rfl)).trans set_, flagged_raiseArg (by decide) wf⟩

/-- A trial whose items have held for tSOAK is healthy. -/
theorem trialHealthy_result {from_ : Nat} (hd : d < 2) (hs : s.regsWf = true) (trial : (trialSlot s d).isSome = true)
    (since : nth s.upd.healthFrom d none = some from_) (items : healthItems s d = true) (unjudged : s.get (F.UPD_SLOT_HEALTHY d) = 0)
    (long : from_ + tSoak ≤ s.now) (u : State) (hu : u = trialHealthy s) :
    u.flag (F.UPD_SLOT_HEALTHY d) = true ∧ Flagged Src.UPD_IMAGE_HEALTHY u := by
  rw [trialHealthy_eq] at hu
  obtain rfl | rfl : d = 0 ∨ d = 1 := by omega
  · rw [noteDie_held since items] at hu
    obtain ⟨regs, now, -, from1⟩ := noteDie_other (s := s) (d := 1) (e := 0) (by decide)
    generalize noteDie s 1 = v at *
    have wf : v.regsWf = true := by rw [State.regsWf, regs]; exact hs
    obtain ⟨set_, told⟩ := judgeDie_healthy (d := 0) (by decide) wf (by rw [trialSlot_of_get (State.get_of_regs regs _)]; exact trial)
      (from1.trans since) ((State.get_of_regs regs _).trans unjudged) (now ▸ long)
    have first : Within ⟨fun a => a == Reg.UPD_SLOT 0, []⟩ v (judgeDie v 0) := judgeDie_within
    have wf2 := first.wf wf
    generalize judgeDie v 0 = w at *
    have second : Within ⟨fun a => a == Reg.UPD_SLOT 1, []⟩ w u := hu ▸ judgeDie_within
    exact ⟨(congrArg (fun m => m != 0) (second.slotGet (d := 0) (by decide) rfl (by decide))).trans set_, second.flags wf2 _ (by decide) told⟩
  · obtain ⟨regs, now, items1, from1⟩ := noteDie_other (s := s) (d := 0) (e := 1) (by decide)
    generalize noteDie s 0 = v at *
    rw [noteDie_held (from1.trans since) (items1.trans items)] at hu
    have wf : v.regsWf = true := by rw [State.regsWf, regs]; exact hs
    have first : Within ⟨fun a => a == Reg.UPD_SLOT 0, []⟩ v (judgeDie v 0) := judgeDie_within
    generalize judgeDie v 0 = w at *
    have slot {g : Fld} (hg : g.addr = Reg.UPD_SLOT 1) : w.get g = s.get g :=
      (first.slotGet (d := 1) (by decide) hg (by decide)).trans (State.get_of_regs regs g)
    have upd : w.upd = v.upd := first.part .upd List.not_mem_nil
    have time : w.now = s.now := Eq.trans (first.part .now List.not_mem_nil : w.now = v.now) now
    rw [hu]
    exact judgeDie_healthy (d := 1) (by decide) (first.wf wf) (by rw [trialSlot_of_get (slot rfl)]; exact trial) (by rw [upd, from1, since])
      ((slot rfl).trans unjudged) (time ▸ long)

/-! ### Fallback -/

/-- A trial that falls back: its slot is VERIFIED again, and the record names no trial. -/
structure FellBack (d k : Nat) (s u : State) : Prop where
  wf : u.regsWf = true
  trial : u.get (F.UPD_SLOT_TRIAL d) = 0
  slot : slotState u d k = uVerified
  active : u.get (F.UPD_SLOT_ACTIVE d) = s.get (F.UPD_SLOT_ACTIVE d)
  told : Flagged Src.UPD_FALLBACK u
  pwr : u.pwr = s.pwr

/-- The record of a die whose trial is dropped. -/
def trialDropped (d k : Nat) (s : State) : State :=
  modUpd (fun u => { u with trialAt := setNth u.trialAt d none, healthFrom := setNth u.healthFrom d none })
    (setSlotState d k uVerified (s.put (F.UPD_SLOT_TRIAL d) 0))

theorem dropTrial_eq {cause : Nat} (trial : trialSlot s d = some k) : dropTrial d cause s =
    raise0 Src.UPD_FALLBACK (fault 0x6B 2 Src.UPD_FALLBACK d (imVersion (imageSlot s d k).header) cause 0 (trialDropped d k s)) := by
  unfold dropTrial
  rw [trial]
  rfl

/-- What a fallback of one die touches. -/
def fallFoot (d : Nat) : Footprint := ⟨fun a => a == Reg.UPD_SLOT d, [.log, .upd]⟩

theorem dropTrial_result {cause : Nat} (hd : d < 2) (hs : s.regsWf = true) (trial : trialSlot s d = some k) (u : State) (hu : u = dropTrial d cause s) :
    FellBack d k s u ∧ u.upd.restartDue = s.upd.restartDue ∧ Within (fallFoot d) s u := by
  rw [dropTrial_eq trial] at hu
  generalize imVersion (imageSlot s d k).header = version at *
  have fits := (by decide : ∀ e < 2, (F.UPD_SLOT_TRIAL e).fits = true) d hd
  have wf1 := State.regsWf_put s (F.UPD_SLOT_TRIAL d) 0 hs
  have state := slotState_setSlotState (d := d) (k := k) (show uVerified < 8 by decide) wf1
  have kept (g : Fld) (far : (slotFld d k).apart g = true) : (setSlotState d k uVerified (s.put (F.UPD_SLOT_TRIAL d) 0)).get g =
      (s.put (F.UPD_SLOT_TRIAL d) 0).get g := State.get_put_of_apart far wf1
  have none_ := (kept (F.UPD_SLOT_TRIAL d) (slotFld_apart (by decide) hd)).trans (State.get_put_of_lt fits (Nat.two_pow_pos _) hs)
  have active := (kept (F.UPD_SLOT_ACTIVE d) (slotFld_apart (by decide) hd)).trans
    (State.get_put_of_apart ((by decide : ∀ e < 2, (F.UPD_SLOT_TRIAL e).apart (F.UPD_SLOT_ACTIVE e) = true) d hd) hs)
  have within1 : Within (fallFoot d) s (trialDropped d k s) :=
    upd_within (put_within (put_within .refl (by simp [fallFoot, F.UPD_SLOT_TRIAL])) (by rw [slotFld_addr]; simp [fallFoot])) (by simp [fallFoot])
  have regs : (trialDropped d k s).regs = (setSlotState d k uVerified (s.put (F.UPD_SLOT_TRIAL d) 0)).regs := rfl
  have due_ : (trialDropped d k s).upd.restartDue = s.upd.restartDue := rfl
  generalize setSlotState d k uVerified (s.put (F.UPD_SLOT_TRIAL d) 0) = x at *
  generalize trialDropped d k s = v at *
  have faulted : Within ⟨fun _ => false, [.log]⟩ v (fault 0x6B 2 Src.UPD_FALLBACK d version cause 0 v) := fault_within .refl (by decide)
  have wf2 := faulted.wf (within1.wf hs)
  have told : Flagged Src.UPD_FALLBACK u := hu ▸ flagged_raiseArg (by decide) wf2
  have raised : Within ⟨fun _ => false, [.log]⟩ v u := hu ▸ raise0_within faulted
  have slot {g : Fld} (hg : g.addr = Reg.UPD_SLOT d) : u.get g = x.get g := (raised.slotGet hd hg rfl).trans (State.get_of_regs regs g)
  have all : Within (fallFoot d) s u := within1.trans (raised.mono (fun _ h => absurd h Bool.false_ne_true) (by simp [fallFoot]))
  have upd : u.upd = v.upd := raised.part .upd (by decide)
  exact ⟨⟨all.wf hs, (slot rfl).trans none_, (slot (slotFld_addr d k)).trans state, (slot rfl).trans active, told, all.part .pwr (by simp [fallFoot])⟩,
    by rw [upd, due_], all⟩

theorem fallBack_eq {cause : Nat} (trial : trialSlot s d = some k) : fallBack d cause s = dropTogether d cause (wantRestart d (dropTrial d cause s)) := by
  unfold fallBack
  rw [trial]
  rfl

theorem dropTogether_alone {cause : Nat} (alone : trialSlot s (1 - d) = none) :
    dropTogether d cause s = modUpd (fun u => { u with yardNext := false }) s := by
  have other : trialSlot (modUpd (fun u => { u with yardNext := false }) s) (1 - d) = none := alone
  unfold dropTogether
  dsimp only
  rw [other]
  rfl

/-- The fallback of one die leaves its restart due. -/
theorem fallBack_result {cause : Nat} (hd : d < 2) (hs : s.regsWf = true) (none_ : s.upd.restartDue = []) (trial : trialSlot s d = some k)
    (alone : trialSlot s (1 - d) = none) (u : State) (hu : u = fallBack d cause s) : FellBack d k s u ∧ u.upd.restartDue = [d] := by
  rw [fallBack_eq trial] at hu
  obtain ⟨fell, due_, within_⟩ := dropTrial_result (cause := cause) hd hs trial _ rfl
  generalize dropTrial d cause s = v at *
  have other : v.get (F.UPD_SLOT_TRIAL (1 - d)) = s.get (F.UPD_SLOT_TRIAL (1 - d)) :=
    within_.slotGet (d := 1 - d) (by omega) rfl ((by decide : ∀ e < 2, (fallFoot e).reg (Reg.UPD_SLOT (1 - e)) = false) d hd)
  rw [dropTogether_alone (s := wantRestart d v) ((trialSlot_of_get (u := v) other).trans alone)] at hu
  have facts : u.regs = v.regs ∧ u.pwr = v.pwr ∧ u.upd.restartDue = v.upd.restartDue.filter (fun x => x != d) ++ [d] := by
    rw [hu]
    exact ⟨rfl, rfl, rfl⟩
  obtain ⟨regs, pwr, dueU⟩ := facts
  refine ⟨⟨by rw [State.regsWf, regs]; exact fell.wf, (State.get_of_regs regs _).trans fell.trial, (State.get_of_regs regs _).trans fell.slot,
    (State.get_of_regs regs _).trans fell.active, (flagged_of_regs regs).mpr fell.told, pwr.trans fell.pwr⟩, ?_⟩
  rw [dueU, due_, none_]
  rfl

theorem confirmTimeout_late {at_ : Nat} (on : powered s = true) (since : nth s.upd.trialAt d none = some at_)
    (unjudged : s.get (F.UPD_SLOT_HEALTHY d) = 0) (late : at_ + tConfirm ≤ s.now) : confirmTimeout d s = fallBack d 0 s := by
  unfold confirmTimeout
  rw [since]
  exact if_pos ⟨on, unjudged, late⟩

/-- The state of a slot that is VERIFIED outlasts the loss of a verification. -/
theorem unlowered_verified (hd : d < 2) (hk : k < 2) (verified : slotState s d k = uVerified) : Unlowered s (slotFld d k) := by
  have other : s.get (slotFld d k) ≠ 3 := by
    rw [show s.get (slotFld d k) = uVerified from verified]
    decide
  have all : ∀ d < 2, ∀ k < 2, ∀ e < 2, ((F.UPD_SLOT_STATE_A e).apart (slotFld d k) = true ∨ F.UPD_SLOT_STATE_A e = slotFld d k) ∧
      ((F.UPD_SLOT_STATE_B e).apart (slotFld d k) = true ∨ F.UPD_SLOT_STATE_B e = slotFld d k) := by decide
  exact fun e he => ⟨(all d hd k hk e he).1.imp_right fun same => ⟨same, other⟩, (all d hd k hk e he).2.imp_right fun same => ⟨same, other⟩⟩

/-- The Signal die falls back and restarts. -/
theorem signal_fellBack (hk : k < 2) (on : powered s = true) (fell : FellBack 0 k b s) (due_ : s.upd.restartDue = [0]) (u : State) (hu : u = settle s) :
    trialSlot u 0 = none ∧ slotState u 0 k = uVerified ∧ u.get (F.UPD_SLOT_ACTIVE 0) = b.get (F.UPD_SLOT_ACTIVE 0) ∧ dieDown u 0 = true := by
  rw [settle_signal due_] at hu
  obtain ⟨v, hv⟩ : ∃ v, v = modUpd (fun u => { u with restartDue := [] }) s := ⟨_, rfl⟩
  have facts : v.regs = s.regs ∧ v.pwr = s.pwr := by
    rw [hv]
    exact ⟨rfl, rfl⟩
  obtain ⟨regs, pwr⟩ := facts
  rw [← hv] at hu
  obtain ⟨down, -, kept⟩ := signalDown_slots true (by rw [powered, pwr]; exact on) (by rw [State.regsWf, regs]; exact fell.wf) u hu
  have slotV : slotState v 0 k = uVerified := (State.get_of_regs regs _).trans fell.slot
  refine ⟨trialSlot_eq_none ?_, ?_, ?_, ?_⟩
  · rw [kept 0 (by decide) _ rfl (unlowered_record (g := F.UPD_SLOT_TRIAL) (by decide) (by decide)), State.get_of_regs regs, fell.trial]
  · exact (kept 0 (by decide) _ (slotFld_addr 0 k) (unlowered_verified (by decide) hk slotV)).trans slotV
  · rw [kept 0 (by decide) _ rfl (unlowered_record (g := F.UPD_SLOT_ACTIVE) (by decide) (by decide)), State.get_of_regs regs, fell.active]
  · rw [dieDown, if_pos rfl, down]
    rfl

/-- A restart of the Yard die keeps its boot record and the events of images. -/
theorem yardDown_record {g : Fld} (hg : g.addr = Reg.UPD_SLOT 1) (on : powered s = true) : FieldStands g s (yardDown true s) :=
  yardDown_stands (by rw [hg]; decide) (by rw [hg]; decide) (by rw [hg]; decide) (by rw [hg]; decide)
    (apart_of_addr (by decide) (by rw [hg]; decide)) true on

theorem yardDown_told (on : powered s = true) (hs : s.regsWf = true) (told : Flagged Src.UPD_FALLBACK s) : Flagged Src.UPD_FALLBACK (yardDown true s) := by
  rw [yardDown_eq on]
  have logged := (restartLogged_within true s).flags hs Src.UPD_FALLBACK (by decide) told
  have wf1 := (restartLogged_within true s).wf hs
  generalize restartLogged true s = v at *
  have flag {x y : State} (stands : FieldStands F.UPD_EVT_FALLBACK x y) (wf : x.regsWf = true) (hx : Flagged Src.UPD_FALLBACK x) :
      Flagged Src.UPD_FALLBACK y := by
    obtain ⟨f, hf, set_⟩ := hx
    obtain rfl : F.UPD_EVT_FALLBACK = f := Option.some.inj ((by decide : sourceFlag Src.UPD_FALLBACK = some F.UPD_EVT_FALLBACK).symm.trans hf)
    exact ⟨_, hf, (congrArg (fun m => m != 0) (stands wf).2).trans set_⟩
  have taken : FieldStands F.UPD_EVT_FALLBACK v (yardTakesSet v) := yardTakesSet_stands (by decide) v
  have told2 := flag taken wf1 logged
  have wf2 := (taken wf1).1
  generalize yardTakesSet v = w at *
  have told3 := (stopDma_within w).flags wf2 _ (by decide) told2
  have wf3 := (stopDma_within w).wf wf2
  generalize stopDma w = x at *
  have regs := (yardAtRest_keeps true x).1
  generalize yardAtRest true x = y at *
  have wf4 : y.regsWf = true := by rw [State.regsWf, regs]; exact wf3
  have last : FieldStands F.UPD_EVT_FALLBACK y ((resetBlock yardVolatile yardKeep y).put F.PWR_LEVEL_STEPPING 0) :=
    (resetBlock_stands yardKeep (by decide) y).put (by decide)
  exact flag last wf4 ((flagged_of_regs regs).mpr told3)

/-- The Yard die falls back and restarts. -/
theorem yard_fellBack (on : powered s = true) (fell : FellBack 1 k b s) (due_ : s.upd.restartDue = [1]) (u : State) (hu : u = settle s) :
    trialSlot u 1 = none ∧ slotState u 1 k = uVerified ∧ u.get (F.UPD_SLOT_ACTIVE 1) = b.get (F.UPD_SLOT_ACTIVE 1) ∧ dieDown u 1 = true ∧
      Flagged Src.UPD_FALLBACK u := by
  rw [settle_yard due_] at hu
  obtain ⟨v, hv⟩ : ∃ v, v = modUpd (fun u => { u with restartDue := [] }) s := ⟨_, rfl⟩
  have facts : v.regs = s.regs ∧ v.pwr = s.pwr := by
    rw [hv]
    exact ⟨rfl, rfl⟩
  obtain ⟨regs, pwr⟩ := facts
  rw [← hv] at hu
  have onV : powered v = true := by rw [powered, pwr]; exact on
  have wf : v.regsWf = true := by rw [State.regsWf, regs]; exact fell.wf
  have slot {g : Fld} (hg : g.addr = Reg.UPD_SLOT 1) : u.get g = s.get g := by
    rw [hu, (yardDown_record hg onV wf).2, State.get_of_regs regs]
  refine ⟨trialSlot_eq_none ((slot rfl).trans fell.trial), (slot (slotFld_addr 1 k)).trans fell.slot, (slot rfl).trans fell.active, ?_,
    hu ▸ yardDown_told onV wf ((flagged_of_regs regs).mpr fell.told)⟩
  rw [dieDown, if_neg (by decide), hu, (yardDown_result true onV).1]
  rfl

/-- A trial that is not healthy in time falls back. -/
theorem confirmTimeout_result {at_ : Nat} (hd : d < 2) (hs : s.regsWf = true) (on : powered s = true) (none_ : s.upd.restartDue = [])
    (trial : trialSlot s d = some k) (alone : trialSlot s (1 - d) = none) (since : nth s.upd.trialAt d none = some at_)
    (unjudged : s.get (F.UPD_SLOT_HEALTHY d) = 0) (late : at_ + tConfirm ≤ s.now) (u : State) (hu : u = settle (confirmTimeout d s)) :
    trialSlot u d = none ∧ slotState u d k = uVerified ∧ u.get (F.UPD_SLOT_ACTIVE d) = s.get (F.UPD_SLOT_ACTIVE d) ∧
      dieDown u d = true ∧ (d = 1 → Flagged Src.UPD_FALLBACK u) := by
  rw [confirmTimeout_late on since unjudged late] at hu
  obtain ⟨fell, due_⟩ := fallBack_result (cause := 0) hd hs none_ trial alone _ rfl
  generalize fallBack d 0 s = v at *
  have onV : powered v = true := by rw [powered, fell.pwr]; exact on
  have hk : k < 2 := by have := trialSlot_le trial; omega
  obtain rfl | rfl : d = 0 ∨ d = 1 := by omega
  · obtain ⟨none0, slot, active, down⟩ := signal_fellBack hk onV fell due_ u hu
    exact ⟨none0, slot, active, down, fun h => absurd h (by decide)⟩
  · obtain ⟨none1, slot, active, down, told⟩ := yard_fellBack onV fell due_ u hu
    exact ⟨none1, slot, active, down, fun _ => told⟩

/-! ### Runs -/

/-- The reports of the modules in the timetable. -/
def lineReports (l : List RunReport) (s : State) : List RunReport := (lineModules s).filterMap (reportOf l s)

/-- The entry of a module in a run. -/
def runEntry (sig yard : Nat) (reps : List RunReport) (n : Nat) : RunEntry :=
  match reps.find? (fun r => r.num == n) with
  | some r => ({ num := n, outcome := if repAt r sig yard && !repOnTrial r then some 1 else none } : RunEntry)
  | none => { num := n }

theorem runEntry_num (sig yard : Nat) (reps : List RunReport) (n : Nat) : (runEntry sig yard reps n).num = n := by
  unfold runEntry
  split <;> rfl

/-- The record of a run of two versions. -/
def runRecord (sig yard : Nat) (l : List RunReport) (s : State) : RunRecord where
  sig := sig
  yard := yard
  terminus := joinNum s
  relief := reliefNum s
  step := 0
  entries := (runOrder s).map (runEntry sig yard (lineReports l s))
  handed := false
  result := 0

/-- Two versions are asked for no more. -/
def askedNoMore (v : Nat × Nat) (s : State) : State := modUpd (fun u => { u with asked := u.asked.filter (fun w => w != v) }) s

/-- What a run of two versions is answered, or that it begins, once its modules have reported. -/
theorem decideRun_eq (sig yard : Nat) (l : List RunReport) (s : State) : decideRun sig yard l s =
    if (lineReports l s).length < (lineModules s).length then s
    else if ((lineReports l s).all (fun r => repAt r sig yard && !repOnTrial r)) = true then
      completeRun (sig, yard) St.ok (runResult (runRecord sig yard l s)) (askedNoMore (sig, yard) s)
    else if s.upd.run.isSome = true then completeRun (sig, yard) St.slotState [] (askedNoMore (sig, yard) s)
    else if s.sets.throw.isSome = true then s
    else
      match (lineReports l s).filter (fun r => lacks sig yard r != 0) with
      | b :: _ => completeRun (sig, yard) (lacks sig yard b) (((lineReports l s).filter (fun r => lacks sig yard r != 0)).flatMap (fun r => leBytes 1 r.num))
          (askedNoMore (sig, yard) s)
      | [] =>
        if ((lineReports l s).any (repMajor yard) && !s.flag F.UPD_RUN_PARKED) = true then
          completeRun (sig, yard) St.slotState [] (askedNoMore (sig, yard) s)
        else if noReliefNow s = true then completeRun (sig, yard) St.noRelief [] (askedNoMore (sig, yard) s)
        else showRun (modUpd (fun u => { u with run := some (runRecord sig yard l s) }) (askedNoMore (sig, yard) s)) := rfl

theorem runStep_asked {sig yard : Nat} (l : List RunReport) (here : isTerminus s = true) (yardUp : s.die.yardUp = true) (sigUp : s.die.sigUp = true)
    (none_ : s.upd.run = none) (asked : s.upd.asked = [(sig, yard)]) : runStep l s = decideRun sig yard l s := by
  unfold runStep
  rw [here, yardUp, sigUp, if_neg (by decide)]
  dsimp only
  rw [none_, asked, foldOver_cons, foldOver_nil]

theorem runStep_idle (l : List RunReport)
    (idle : isTerminus s = false ∨ s.die.yardUp = false ∨ s.die.sigUp = false ∨ s.upd.run = none ∧ s.upd.asked = []) : runStep l s = s := by
  unfold runStep
  obtain no | no | no | ⟨none_, asked⟩ := idle
  · rw [no]
    rfl
  · rw [no, Bool.not_false, Bool.or_true, Bool.true_or, if_pos rfl]
  · rw [no, Bool.not_false, Bool.or_true, if_pos rfl]
  · dsimp only
    rw [none_, asked, foldOver_nil]
    exact ite_self s

/-- A run that nothing forbids is taken. -/
theorem decideRun_taken {sig yard : Nat} {l : List RunReport} (none_ : s.upd.run = none) (still : s.sets.throw = none)
    (all : (lineReports l s).length = (lineModules s).length) (some_ : (lineReports l s).any (fun r => !(repAt r sig yard && !repOnTrial r)) = true)
    (fit : (lineReports l s).all (fun r => lacks sig yard r == 0 && !repMajor yard r) = true) (relief : noReliefNow s = false) :
    decideRun sig yard l s = showRun (modUpd (fun u => { u with run := some (runRecord sig yard l s) }) (askedNoMore (sig, yard) s)) := by
  have open_ : ¬ ((lineReports l s).all (fun r => repAt r sig yard && !repOnTrial r)) = true := by
    intro done
    obtain ⟨r, mem, other⟩ := List.any_eq_true.mp some_
    rw [List.all_eq_true.mp done r mem] at other
    exact absurd other (by decide)
  have fits : ∀ r ∈ lineReports l s, lacks sig yard r = 0 ∧ repMajor yard r = false := fun r mem => by
    have both := List.all_eq_true.mp fit r mem
    rw [Bool.and_eq_true, beq_iff_eq, Bool.not_eq_true'] at both
    exact both
  have bad : (lineReports l s).filter (fun r => lacks sig yard r != 0) = [] :=
    List.filter_eq_nil_iff.mpr fun r mem => by rw [(fits r mem).1]; decide
  have major : (lineReports l s).any (repMajor yard) = false := List.any_eq_false.mpr fun r mem => by rw [(fits r mem).2]; decide
  rw [decideRun_eq, if_neg (by omega), if_neg open_, none_, if_neg (by decide), still, if_neg (by decide), bad]
  dsimp only
  rw [major, Bool.false_and, if_neg Bool.false_ne_true, relief, if_neg Bool.false_ne_true]

theorem showRun_step (hs : s.regsWf = true) {r : RunRecord} (run : s.upd.run = some r) : (showRun s).get F.UPD_RUN_STEP = r.step % 8 := by
  unfold showRun
  rw [run]
  dsimp only
  rw [State.get_setReg_ne _ _ _ _ (by decide), State.get_setReg_ne _ _ _ _ (by decide)]
  have wf1 := State.regsWf_put s F.UPD_RUN_STEP r.step hs
  rw [State.get_put_of_apart (by decide) (State.regsWf_put _ _ _ wf1), State.get_put_of_apart (by decide) wf1, State.get_put_mod (by decide) hs]
  rfl

/-- A run that is asked for is accepted. -/
theorem runStep_accepts {sig yard : Nat} {l : List RunReport} (hs : s.regsWf = true) (here : isTerminus s = true) (yardUp : s.die.yardUp = true)
    (sigUp : s.die.sigUp = true) (due_ : s.upd.restartDue = []) (none_ : s.upd.run = none) (asked : s.upd.asked = [(sig, yard)])
    (still : s.sets.throw = none) (all : (lineReports l s).length = (lineModules s).length)
    (some_ : (lineReports l s).any (fun r => !(repAt r sig yard && !repOnTrial r)) = true)
    (fit : (lineReports l s).all (fun r => lacks sig yard r == 0 && !repMajor yard r) = true) (relief : noReliefNow s = false) (u : State)
    (hu : u = settle (runStep l s)) : u.upd.asked = [] ∧ u.get F.UPD_RUN_STEP = 0 ∧
      ∃ r, u.upd.run = some r ∧ r.sig = sig ∧ r.yard = yard ∧ r.terminus = joinNum s ∧ r.entries.map (fun e => e.num) = runOrder s := by
  rw [runStep_asked l here yardUp sigUp none_ asked, decideRun_taken none_ still all some_ fit relief] at hu
  have nums : (runRecord sig yard l s).entries.map (fun e => e.num) = runOrder s := by
    show ((runOrder s).map (runEntry sig yard (lineReports l s))).map _ = _
    rw [List.map_map]
    exact List.map_id'' (fun n => runEntry_num sig yard (lineReports l s) n) _
  obtain ⟨r, hr⟩ : ∃ r, r = runRecord sig yard l s := ⟨_, rfl⟩
  have named : r.sig = sig ∧ r.yard = yard ∧ r.terminus = joinNum s ∧ r.step = 0 := by
    rw [hr]
    exact ⟨rfl, rfl, rfl, rfl⟩
  rw [← hr] at hu nums
  clear hr
  obtain ⟨v, hv⟩ : ∃ v, v = modUpd (fun u => { u with run := some r }) (askedNoMore (sig, yard) s) := ⟨_, rfl⟩
  have facts : v.regs = s.regs ∧ v.upd.run = some r ∧ v.upd.restartDue = s.upd.restartDue ∧ v.upd.asked = s.upd.asked.filter (fun w => w != (sig, yard)) := by
    rw [hv]
    exact ⟨rfl, rfl, rfl, rfl⟩
  rw [← hv] at hu
  clear hv
  obtain ⟨regs, run, due2, asked2⟩ := facts
  have shown : Within runFoot v (showRun v) := showRun_within .refl
  have upd : (showRun v).upd = v.upd := shown.part .upd (by decide)
  rw [settle_of_none_due (by rw [upd, due2, due_])] at hu
  have step := showRun_step (s := v) (by rw [State.regsWf, regs]; exact hs) run
  generalize showRun v = w at *
  obtain ⟨sig_, yard_, terminus_, zero⟩ := named
  rw [hu]
  refine ⟨?_, by rw [step, zero], r, by rw [upd, run], sig_, yard_, terminus_, nums⟩
  rw [upd, asked2, asked]
  simp

/-- A run of versions that every module runs is answered at once. -/
theorem runStep_done {sig yard : Nat} {l : List RunReport} {w : Waiting} {ip : BitVec 32} {port : BitVec 16} (silent : s.out = [])
    (here : isTerminus s = true) (yardUp : s.die.yardUp = true) (sigUp : s.die.sigUp = true) (due_ : s.upd.restartDue = []) (none_ : s.upd.run = none)
    (asked : s.upd.asked = [(sig, yard)]) (one : s.pk.waiting = [w]) (job : w.job = .run) (named : namedVersions w.req = (sig, yard))
    (held : w.orphan = false) (via : w.req.via = .host ip port) (alone : reliefPresent s = false)
    (all : (lineReports l s).length = (lineModules s).length)
    (done : (lineReports l s).all (fun r => repAt r sig yard && !repOnTrial r) = true) (u : State) (hu : u = settle (runStep l s)) :
    u.upd.asked = [] ∧ u.upd.run = none ∧ u.pk.waiting = [] ∧ ∃ r, u.out = [.packet w.req.via r] ∧ r.status = St.ok := by
  rw [runStep_asked l here yardUp sigUp none_ asked, decideRun_eq, if_neg (by omega), if_pos done] at hu
  generalize runResult (runRecord sig yard l s) = result at *
  obtain ⟨v, hv⟩ : ∃ v, v = askedNoMore (sig, yard) s := ⟨_, rfl⟩
  have facts : v.pk = s.pk ∧ v.out = s.out ∧ v.upd.restartDue = s.upd.restartDue ∧ v.upd.asked = s.upd.asked.filter (fun w => w != (sig, yard)) ∧
      v.upd.run = s.upd.run ∧ reliefPresent v = reliefPresent s := by
    rw [hv]
    exact ⟨rfl, rfl, rfl, rfl, rfl, rfl⟩
  rw [← hv] at hu
  clear hv
  obtain ⟨pk, out, due2, asked2, run2, relief2⟩ := facts
  have only : v.pk.waiting.filter (fun w => w.job == .run && namedVersions w.req == (sig, yard)) = [w] := by
    rw [pk, one, List.filter_cons_of_pos (by rw [job, named, beq_self_eq_true, beq_self_eq_true]; rfl)]
    rfl
  rw [completeRun, only, foldOver_cons, foldOver_nil] at hu
  obtain ⟨pk2, r, state, gone, status, -, -⟩ := (completeWaiting_answered (origin := joinNum v) (status := St.ok) (result := result) via
    (relief2.trans alone) held (by rw [pk, one])).state
  have upd : (completeWaiting w (joinNum v) St.ok 0 result v).upd = v.upd := by rw [state]
  have outW : (completeWaiting w (joinNum v) St.ok 0 result v).out = [.packet w.req.via r] := by rw [state, out, silent]; rfl
  have goneW : (completeWaiting w (joinNum v) St.ok 0 result v).pk.waiting = [] := by rw [state]; exact gone
  clear state
  generalize completeWaiting w (joinNum v) St.ok 0 result v = x at *
  rw [settle_of_none_due (by rw [upd, due2, due_])] at hu
  rw [hu]
  refine ⟨?_, by rw [upd, run2, none_], goneW, r, outW, status⟩
  rw [upd, asked2, asked]
  simp

end

/-! ### The rows -/

/-- Settles O52: each row by its own lemma; the restart that an activation or a fallback makes due keeps the boot records. -/
theorem imageRows : Obligations.ImageRows := by
  refine ⟨fun d hd => ?_, fun d hd => ?_, fun sig yard => ?_, fun sig yard => ?_, fun d from_ hd => ?_, fun d k at_ hd => ?_, fun l => ?_,
    fun l sig yard => ?_, fun l sig yard w ip port => ?_⟩
  case refine_1 =>
    exact does_of_run (fun s => if d < 2 then verifyDone d s else s) (fun _ _ => rfl) fun b ⟨sound, verifying, up, _, signed, forward⟩ =>
      verifyDone_good hd (regsWf_of_sound sound) verifying up signed forward _ (if_pos hd)
  case refine_2 =>
    exact does_of_run (fun s => if d < 2 then verifyDone d s else s) (fun _ _ => rfl) fun b ⟨sound, verifying, up, _, bad⟩ =>
      verifyDone_bad hd (regsWf_of_sound sound) (slots_length_of_sound sound) verifying up bad _ (if_pos hd)
  case refine_3 =>
    refine does_of_run (fun s => if s.die.sigUp && powered s then settle (activateModule sig.toNat yard.toNat s) else s) (fun _ _ => rfl)
      fun b ⟨sound, up, on, none_, can⟩ => ?_
    exact moduleActivate_signal (regsWf_of_sound sound) on none_ can _ (if_pos (by rw [up, on]; rfl))
  case refine_4 =>
    refine does_of_run (fun s => if s.die.sigUp && powered s then settle (activateModule sig.toNat yard.toNat s) else s) (fun _ _ => rfl)
      fun b ⟨none_, no0, no1⟩ => ?_
    have ran := moduleActivate_none none_ no0 no1
    obtain ⟨u, hu⟩ : ∃ u, u = if b.die.sigUp && powered b then settle (activateModule sig.toNat yard.toNat b) else b := ⟨_, rfl⟩
    rw [← hu]
    rw [ran] at hu
    split at hu <;> (rw [hu]; exact ⟨rfl, rfl, rfl⟩)
  case refine_5 =>
    exact does_of_run trialHealthy (fun _ _ => rfl) fun b ⟨sound, trial, since, items, unjudged, long⟩ =>
      trialHealthy_result hd (regsWf_of_sound sound) trial since items unjudged long _ rfl
  case refine_6 =>
    exact does_of_run (fun s => if d < 2 then settle (confirmTimeout d s) else s) (fun _ _ => rfl)
      fun b ⟨sound, on, none_, trial, alone, since, unjudged, late⟩ =>
      confirmTimeout_result hd (regsWf_of_sound sound) on none_ trial alone since unjudged late _ (if_pos hd)
  case refine_7 =>
    exact does_of_run (fun s => settle (runStep l s)) (fun _ _ => rfl) fun b ⟨none_, idle⟩ => by
      rw [runStep_idle l idle, settle_of_none_due none_]
  case refine_8 =>
    exact does_of_run (fun s => settle (runStep l s)) (fun _ _ => rfl)
      fun b ⟨sound, here, yardUp, sigUp, due_, none_, asked, still, all, some_, fit, relief⟩ =>
      runStep_accepts (regsWf_of_sound sound) here yardUp sigUp due_ none_ asked still all some_ fit relief _ rfl
  case refine_9 =>
    exact does_sent (fun s => settle (runStep l s)) (fun _ _ => rfl)
      fun b silent ⟨here, yardUp, sigUp, due_, none_, asked, one, job, named, held, via, alone, all, done⟩ =>
      runStep_done silent here yardUp sigUp due_ none_ asked one job named held via alone all done _ rfl

end Sys2Proof.Machine

end

section
/-!
SUPPORT for O59. What a row of one family may change: its own parts of the state and registers of its own blocks, and beside them what
every raise may change. The blocks of a register decide; the counters of dropped events stand in their block because every session has a
number of R98.
-/

namespace Sys2Proof.Machine

/-- A family of rows: its own parts of the state and its own register blocks. -/
structure Family where
  parts : List Part
  blocks : List Block

/-- A register of one of the family's blocks, or of a block that raises, faults and rings write. -/
def Family.place (w : Family) (a : Nat) : Bool :=
  (blockOf a).any fun k => decide (k ∈ [Block.EVR, Block.EVT, Block.DMA] ++ w.blocks)

/-- Every session has a number of R98. -/
def State.numbered (s : State) : Prop := ∀ x ∈ s.pk.sessions, sessionNumber x.num = true

/-- The state u differs from b by the rows of one family only. -/
structure OwnOnly (w : Family) (b u : State) : Prop where
  pending : u.pending = b.pending
  part : ∀ p, p ∉ w.parts → p.Same b u
  pk : u.pk = { b.pk with sessions := u.pk.sessions, isoRx := u.pk.isoRx, isoTx := u.pk.isoTx, asUntil := u.pk.asUntil }
  numbers : b.numbered → u.numbered
  reg : b.numbered → ∀ a, w.place a = false → u.reg a = b.reg a

section
variable {w : Family} {b s t : State}

theorem OwnOnly.refl : OwnOnly w b b := ⟨rfl, fun p _ => .refl p b, rfl, id, fun _ _ _ => rfl⟩

theorem OwnOnly.trans (h : OwnOnly w b s) (k : OwnOnly w s t) : OwnOnly w b t where
  pending := k.pending.trans h.pending
  part p hp := (h.part p hp).trans (k.part p hp)
  pk := by rw [k.pk, h.pk]
  numbers n := k.numbers (h.numbers n)
  reg n a ha := (k.reg (h.numbers n) a ha).trans (h.reg n a ha)

/-! ### Registers -/

theorem setReg_own (h : OwnOnly w b s) {a v : Nat} (ha : w.place a = true) : OwnOnly w b (s.setReg a v) :=
  h.trans {
    pending := rfl
    part := fun p _ => by cases p <;> rfl
    pk := rfl
    numbers := id
    reg := fun _ c hc => State.reg_setReg_ne s a c v (fun e => by simp [e, ha] at hc) }

theorem put_own (h : OwnOnly w b s) {f : Fld} {v : Nat} (hf : w.place f.addr = true) : OwnOnly w b (s.put f v) :=
  setReg_own h hf

theorem puts_own (h : OwnOnly w b s) {f : Fld} {v : Int} (hf : w.place f.addr = true) : OwnOnly w b (s.puts f v) :=
  setReg_own h hf

theorem bump_own (h : OwnOnly w b s) {f : Fld} {n : Nat} (hf : w.place f.addr = true) : OwnOnly w b (s.bump f n) :=
  setReg_own h hf

theorem wrapUp_own (h : OwnOnly w b s) {f : Fld} {n : Nat} (hf : w.place f.addr = true) : OwnOnly w b (s.wrapUp f n) :=
  setReg_own h hf

theorem putBit_own (h : OwnOnly w b s) {f : Fld} {i : Nat} {v : Bool} (hf : w.place f.addr = true) :
    OwnOnly w b (s.putBit f i v) := setReg_own h hf

theorem put64_own (h : OwnOnly w b s) {lo hi v : Nat} (hl : w.place lo = true)
    (hh : w.place hi = true) : OwnOnly w b (s.put64 lo hi v) :=
  setReg_own (setReg_own h hl) hh

/-! ### Parts -/

/-- A change of the state outside the packets, the registers and the queue that keeps the parts of others. -/
theorem own_of_parts (h : OwnOnly w b s) (pending : t.pending = s.pending) (pk : t.pk = s.pk) (regs : t.regs = s.regs)
    (part : ∀ p, p ∉ w.parts → p.Same s t) : OwnOnly w b t :=
  h.trans {
    pending := pending
    part := part
    pk := by rw [pk]
    numbers := fun n x hx => n x (pk ▸ hx)
    reg := fun _ a _ => reg_of_regs regs a }

theorem ev_own (h : OwnOnly w b s) {x : EventPart} (hp : .log ∈ w.parts) : OwnOnly w b { s with ev := x } :=
  own_of_parts h rfl rfl rfl fun q hq => by
    cases q with
    | log => exact absurd hp hq
    | _ => rfl

theorem load_own (h : OwnOnly w b s) {x : LoadPart} (hp : .load ∈ w.parts) : OwnOnly w b { s with load := x } :=
  own_of_parts h rfl rfl rfl fun q hq => by
    cases q with
    | load => exact absurd hp hq
    | _ => rfl

theorem nav_own (h : OwnOnly w b s) {x : NavPart} (hp : .nav ∈ w.parts) : OwnOnly w b { s with nav := x } :=
  own_of_parts h rfl rfl rfl fun q hq => by
    cases q with
    | nav => exact absurd hp hq
    | _ => rfl

theorem yld_own (h : OwnOnly w b s) {x : YieldPart} (hp : .yld ∈ w.parts) : OwnOnly w b { s with yld := x } :=
  own_of_parts h rfl rfl rfl fun q hq => by
    cases q with
    | yld => exact absurd hp hq
    | _ => rfl

theorem cst_own (h : OwnOnly w b s) {x : ConsistPart} (hp : .cst ∈ w.parts) : OwnOnly w b { s with cst := x } :=
  own_of_parts h rfl rfl rfl fun q hq => by
    cases q with
    | cst => exact absurd hp hq
    | _ => rfl

theorem dma_own (h : OwnOnly w b s) {x : DmaPart} (hp : .dma ∈ w.parts) : OwnOnly w b { s with dma := x } :=
  own_of_parts h rfl rfl rfl fun q hq => by
    cases q with
    | dma => exact absurd hp hq
    | _ => rfl

theorem can_own (h : OwnOnly w b s) {x : CanPart} (hp : .can ∈ w.parts) : OwnOnly w b { s with can := x } :=
  own_of_parts h rfl rfl rfl fun q hq => by
    cases q with
    | can => exact absurd hp hq
    | _ => rfl

theorem steer_own (h : OwnOnly w b s) {x : Option Steer} (hp : .steer ∈ w.parts) : OwnOnly w b { s with steer := x } :=
  own_of_parts h rfl rfl rfl fun q hq => by
    cases q with
    | steer => exact absurd hp hq
    | _ => rfl

theorem out_own (h : OwnOnly w b s) {x : List Emit} (hp : .out ∈ w.parts) : OwnOnly w b { s with out := x } :=
  own_of_parts h rfl rfl rfl fun q hq => by
    cases q with
    | out => exact absurd hp hq
    | _ => rfl

theorem drawn_own (h : OwnOnly w b s) {x : Nat} (hp : .drawn ∈ w.parts) : OwnOnly w b { s with drawn := x } :=
  own_of_parts h rfl rfl rfl fun q hq => by
    cases q with
    | drawn => exact absurd hp hq
    | _ => rfl

theorem emit_own (h : OwnOnly w b s) {e : Emit} (hp : .out ∈ w.parts) : OwnOnly w b (emit e s) := out_own h hp

/-- The transfer of the service path changes. -/
theorem service_own (h : OwnOnly w b s) {rx tx : Option IsoTp} {until_ : Option Nat} (hp : .packets ∈ w.parts) :
    OwnOnly w b { s with pk := { s.pk with isoRx := rx, isoTx := tx, asUntil := until_ } } :=
  h.trans {
    pending := rfl
    part := fun q hq => by
      cases q with
      | packets => exact absurd hp hq
      | _ => rfl
    pk := rfl
    numbers := id
    reg := fun _ _ _ => rfl }

/-! ### Raises -/

theorem queueEvent_num (r : EventRecord) (now : Nat) (x : Session) : (queueEvent r now x).1.num = x.num := by
  unfold queueEvent
  split <;> rfl

/-- An event that is offered keeps the numbers of the sessions, and is lost for sessions of the list only. -/
theorem offerSessions_numbers (b : State) (r : EventRecord) {P : Nat → Prop} : ∀ {l : List Session}, (∀ x ∈ l, P x.num) →
    (∀ x ∈ (offerSessions b r l).1, P x.num) ∧ ∀ n ∈ (offerSessions b r l).2, P n
  | [], _ => ⟨by simp [offerSessions], by simp [offerSessions]⟩
  | x :: l, h => by
    obtain ⟨kept, lost⟩ := offerSessions_numbers b r fun y hy => h y (List.mem_cons_of_mem x hy)
    have own := h x List.mem_cons_self
    simp only [offerSessions]
    split
    · refine ⟨fun y hy => ?_, fun n hn => ?_⟩
      · obtain rfl | hy := List.mem_cons.mp hy
        · exact (queueEvent_num r b.now x).symm ▸ own
        · exact kept y hy
      · split at hn
        · obtain rfl | hn := List.mem_cons.mp hn
          · exact own
          · exact lost n hn
        · exact lost n hn
    · refine ⟨fun y hy => ?_, lost⟩
      obtain rfl | hy := List.mem_cons.mp hy
      · exact own
      · exact kept y hy

/-- The registers that every raise may write stand in blocks of every family. -/
theorem place_of_base {a : Nat} {k : Block} (h : blockOf a = some k) (base : k ∈ [Block.EVR, Block.EVT, Block.DMA]) :
    w.place a = true := by
  simp only [Family.place, h, Option.any_some, decide_eq_true_eq, List.mem_append]
  exact .inl base

/-- A register outside the blocks of every family is none of those that a raise writes beside the flags and the queues. -/
theorem ne_of_base {a c : Nat} (h : w.place c = false) {k : Block} (place : blockOf a = some k)
    (base : k ∈ [Block.EVR, Block.EVT, Block.DMA]) : c ≠ a := by
  rintro rfl
  rw [place_of_base place base] at h
  exact absurd h (by decide)

theorem place_of_queue {n : Nat} (h : sessionNumber n = true) : w.place (F.EVT_QUEUE_LOST (n - 1)).addr = true := by
  have bound : 1 ≤ n ∧ n ≤ 16 := by simpa [sessionNumber] using h
  refine place_of_base (k := .EVT) ?_ (by decide)
  exact (by decide : ∀ m < 16, blockOf (F.EVT_QUEUE_LOST m).addr = some .EVT) (n - 1) (by omega)

theorem deliver_numbered (r : EventRecord) (h : s.numbered) : (deliver r s).1.numbered := by
  have same : (deliver r s).1.pk.sessions = (offerSessions s r s.pk.sessions).1 := by
    unfold deliver
    simp only
    refine foldOver_preserves (fun x : State => x.pk.sessions = (offerSessions s r s.pk.sessions).1)
      (fun u n => u.bump (F.EVT_QUEUE_LOST (n - 1)) 1) (fun _ _ h => h) _ _ ?_
    rfl
  intro x hx
  exact (offerSessions_numbers s r (P := fun n => sessionNumber n = true) h).1 x (same ▸ hx)

theorem deliver_kept (r : EventRecord) (h : s.numbered) {a : Nat} (ha : w.place a = false) : (deliver r s).1.reg a = s.reg a := by
  obtain ⟨-, lost⟩ := offerSessions_numbers s r (P := fun n => sessionNumber n = true) h
  have ring : a ≠ Reg.DMA_RING_IDX 56 := ne_of_base ha (k := .DMA) (by decide) (by decide)
  have ring' : a ≠ Reg.DMA_RING_IDX 57 := ne_of_base ha (k := .DMA) (by decide) (by decide)
  have queues : ∀ (l : List Nat) (u : State), (∀ n ∈ l, sessionNumber n = true) →
      (foldOver (fun s n => s.bump (F.EVT_QUEUE_LOST (n - 1)) 1) u l).reg a = u.reg a := by
    intro l
    induction l with
    | nil => exact fun _ _ => rfl
    | cons n l ih =>
      intro u hl
      rw [foldOver_cons, ih _ fun m hm => hl m (List.mem_cons_of_mem n hm)]
      refine State.reg_put_ne _ _ _ _ fun e => ?_
      rw [e, place_of_queue (hl n List.mem_cons_self)] at ha
      exact absurd ha (by decide)
  unfold deliver
  simp only
  rw [queues _ _ lost]
  split
  · rw [passRing_reg _ _ _ ring]
    rfl
  · rw [passRing_reg _ _ _ ring']
    rfl

theorem routeEvent_numbered (r : EventRecord) (h : s.numbered) : (routeEvent r s).1.numbered := by
  unfold routeEvent
  split
  · exact deliver_numbered r h
  · split
    · dsimp only
      split <;> exact h
    · exact h

theorem routeEvent_kept (r : EventRecord) (h : s.numbered) {a : Nat} (ha : w.place a = false) : (routeEvent r s).1.reg a = s.reg a := by
  unfold routeEvent
  split
  · exact deliver_kept r h ha
  · split
    · dsimp only
      split
      · exact State.reg_put_ne _ _ _ _ (ne_of_base ha (k := .EVR) (by decide) (by decide))
      · rfl
    · rfl

theorem triggerOrders_pk (src : Nat) (s : State) : (triggerOrders src s).pk = s.pk := by
  unfold triggerOrders
  split <;> rfl

theorem setFlag_pk (src : Nat) (s : State) : (setFlag src s).pk = s.pk := by
  unfold setFlag
  split <;> rfl

theorem raiseOnce_numbered {src detail arg : Nat} (h : s.numbered) : (raiseOnce src detail arg s).1.numbered := by
  refine routeEvent_numbered _ ?_
  simpa only [State.numbered, triggerOrders_pk, setFlag_pk] using h

theorem raiseOnce_kept {src detail arg a : Nat} (h : s.numbered) (hsrc : (sourceFlag src).all (fun f => w.place f.addr) = true)
    (ha : w.place a = false) : (raiseOnce src detail arg s).1.reg a = s.reg a := by
  have numbered : (triggerOrders src (setFlag src s)).numbered := by simpa only [State.numbered, triggerOrders_pk, setFlag_pk] using h
  have flag : ∀ f, sourceFlag src = some f → a ≠ f.addr := by
    rintro f hf rfl
    rw [hf, Option.all_some, ha] at hsrc
    exact absurd hsrc (by decide)
  unfold raiseOnce
  rw [routeEvent_kept _ numbered ha, reg_of_regs (triggerOrders_regs _ _), setFlag_reg src s a flag]

theorem raiseArg_numbered {src detail arg : Nat} (h : s.numbered) : (raiseArg src detail arg s).numbered := by
  have first := raiseOnce_numbered (src := src) (detail := detail) (arg := arg) h
  unfold raiseArg
  split
  next u l hr =>
    rw [hr] at first
    split
    · exact first
    · exact raiseOnce_numbered first

theorem raiseArg_kept {src detail arg a : Nat} (h : s.numbered) (hsrc : (sourceFlag src).all (fun f => w.place f.addr) = true)
    (ha : w.place a = false) : (raiseArg src detail arg s).reg a = s.reg a := by
  have first := raiseOnce_kept (detail := detail) (arg := arg) h hsrc ha
  have numbered := raiseOnce_numbered (src := src) (detail := detail) (arg := arg) h
  have lost : (sourceFlag Src.EVR_EVENT_LOST).all (fun f => w.place f.addr) = true := by
    rw [show sourceFlag Src.EVR_EVENT_LOST = some F.EVR_EVT_EVENT_LOST from by decide, Option.all_some]
    exact place_of_base (k := .EVR) (by decide) (by decide)
  unfold raiseArg
  split
  next u l hr =>
    rw [hr] at first numbered
    split
    · exact first
    · exact (raiseOnce_kept numbered lost ha).trans first

/-- A source whose flag stands in a block of the family is raised. -/
theorem raiseArg_own (h : OwnOnly w b s) {src detail arg : Nat}
    (hsrc : (sourceFlag src).all (fun f => w.place f.addr) = true) : OwnOnly w b (raiseArg src detail arg s) :=
  h.trans {
    pending := (raiseArg_same src detail arg s).pending
    part := fun p _ => (raiseArg_within (w := ⟨fun _ => false, []⟩) .refl).part p List.not_mem_nil
    pk := by
      have same := (raiseArg_same src detail arg s).pk
      rw [same]
    numbers := raiseArg_numbered
    reg := fun n _ ha => raiseArg_kept n hsrc ha }

theorem raise_own (h : OwnOnly w b s) {src detail : Nat} (hsrc : (sourceFlag src).all (fun f => w.place f.addr) = true) :
    OwnOnly w b (raise src detail s) := raiseArg_own h hsrc

theorem raise0_own (h : OwnOnly w b s) {src : Nat} (hsrc : (sourceFlag src).all (fun f => w.place f.addr) = true) :
    OwnOnly w b (raise0 src s) := raiseArg_own h hsrc

/-- A source of the register of events of the logbook. -/
theorem logSource {src : Nat} (h : ((sourceFlag src).bind fun f => blockOf f.addr) = some .EVR) :
    (sourceFlag src).all (fun f => w.place f.addr) = true := by
  cases hf : sourceFlag src with
  | none => rfl
  | some f => exact place_of_base (k := .EVR) (by simpa [hf] using h) (by decide)

/-- A fault is logged. -/
theorem fault_own (h : OwnOnly w b s) {type cls source detail a0 a1 a2 : Nat} (hp : .log ∈ w.parts) :
    OwnOnly w b (fault type cls source detail a0 a1 a2 s) := by
  obtain ⟨r, q, k | k⟩ := fault_cases type cls source detail a0 a1 a2 s
  · rw [k]
    exact ev_own h hp
  · rw [k]
    exact raiseArg_own (ev_own h hp) (logSource (by decide))

/-- A part is retired. -/
theorem retire_own (h : OwnOnly w b s) {kind cause index unit : Nat} (hp : .log ∈ w.parts) :
    OwnOnly w b (retire kind cause index unit s) := by
  unfold retire
  split
  · exact raise0_own (ev_own h hp) (logSource (by decide))
  · exact fault_own (raise0_own (put_own (ev_own h hp) (place_of_base (k := .EVR) (by decide) (by decide))) (logSource (by decide))) hp

/-- A value joins the averages of its second. -/
theorem gather_own (h : OwnOnly w b s) {n : Nat} {v : Int} (hp : .log ∈ w.parts) : OwnOnly w b (gather n v s) := ev_own h hp

/-- A field that the family has once for each of its parts stands in its blocks. -/
theorem placed {f : Nat → Fld} {n m : Nat} (hm : m < n) (h : ∀ k < n, w.place (f k).addr = true) :
    w.place (f m).addr = true := h m hm

/-! ### Branches and repetitions -/

theorem ite_own {c : Prop} [Decidable c] (hs : OwnOnly w b s) (ht : OwnOnly w b t) : OwnOnly w b (if c then s else t) := by
  split
  · exact hs
  · exact ht

theorem foldOver_own {α : Type} {f : State → α → State} {l : List α} (h : OwnOnly w b s)
    (hf : ∀ s a, a ∈ l → OwnOnly w b s → OwnOnly w b (f s a)) : OwnOnly w b (foldOver f s l) := by
  induction l generalizing s with
  | nil => exact h
  | cons a l ih => exact ih (hf s a List.mem_cons_self h) fun s x hx => hf s x (List.mem_cons_of_mem a hx)

/-- A row that does something under a guard only. -/
theorem own_of_guard {c : Prop} [Decidable c] {u : State} (run : (Host.Outcome.next (if c then s else b) : Res) = .next u)
    (h : c → OwnOnly w b s) : OwnOnly w b u := by
  obtain rfl := Host.Outcome.next.inj run
  split
  next hc => exact h hc
  · exact .refl

/-! ### From the relation to the frame -/

theorem place_eq_false {a : Nat} (h : ∀ k ∈ [Block.EVR, Block.EVT, Block.DMA] ++ w.blocks, blockOf a ≠ some k) :
    w.place a = false := by
  unfold Family.place
  cases hb : blockOf a with
  | none => rfl
  | some k =>
    rw [Option.any_some, decide_eq_false_iff_not]
    exact fun mem => h k mem hb

theorem OwnOnly.blocksKept (h : OwnOnly w b s) (n : b.numbered) : blocksKept w.blocks b s := fun _ ha => h.reg n _ (place_eq_false ha)

end

theorem numbered_of_sound {s : State} (h : s.sound = true) (t : Nat) : (begin_ t s).numbered := by
  have all : s.pk.sessions.all (fun x => sessionNumber x.num) = true := by
    simp only [State.sound, State.sized, Bool.and_eq_true] at h
    tauto
  intro x hx
  exact List.all_eq_true.mp all x (by simpa using hx)

end Sys2Proof.Machine
end

section
/-!
SUPPORT for O59. The rows of the load channels change the load part and registers of LSW and CLE.
-/

namespace Sys2Proof.Machine

/-- The rows of the load channels. -/
def loadFamily : Family := ⟨[.log, .out, .load], [.LSW, .CLE]⟩

section
variable {b s u : State} {c : Nat} {cause levels duty st : Nat} {current tj : Int}

theorem raiseCh_own (h : OwnOnly loadFamily b s) {src : Nat}
    (hsrc : (sourceFlag src).all (fun f => loadFamily.place f.addr) = true) : OwnOnly loadFamily b (raiseCh src c s) :=
  raise_own (put_own h (by decide)) hsrc

theorem startPeriod_own (h : OwnOnly loadFamily b s) : OwnOnly loadFamily b (startPeriod c s) := ite_own h (load_own h (by decide))

theorem judgeAnew_own (h : OwnOnly loadFamily b s) : OwnOnly loadFamily b (judgeAnew u c s) := ite_own (load_own h (by decide)) h

theorem startInrush_own (h : OwnOnly loadFamily b s) (hc : c < 32) : OwnOnly loadFamily b (startInrush c s) :=
  ite_own h (put_own (load_own h (by decide)) (placed hc (by decide)))

theorem outputOff_own (h : OwnOnly loadFamily b s) (hc : c < 32) : OwnOnly loadFamily b (outputOff c s) :=
  put_own (load_own h (by decide)) (placed hc (by decide))

theorem refreshBlocked_own (h : OwnOnly loadFamily b s) (hc : c < 32) : OwnOnly loadFamily b (refreshBlocked s c) :=
  ite_own (ite_own h (raise_own (put_own h (placed hc (by decide))) (by decide))) (put_own h (placed hc (by decide)))

theorem refreshSinks_own (h : OwnOnly loadFamily b s) : OwnOnly loadFamily b (refreshSinks s) :=
  foldOver_own h fun _ _ hn k => refreshBlocked_own k (by simpa [mem_upFrom] using hn)

theorem latchChannel_own (h : OwnOnly loadFamily b s) (hc : c < 32) : OwnOnly loadFamily b (latchChannel c cause s) := by
  have off : OwnOnly loadFamily b (((outputOff c s).put (F.LSW_CH_STAT_CAUSE c) cause).bump (F.LSW_CH_CNT_LATCHES c) 1) :=
    bump_own (put_own (outputOff_own h hc) (placed hc (by decide))) (placed hc (by decide))
  refine refreshSinks_own (ite_own ?_ (ite_own ?_ ?_))
  · exact put_own (load_own off (by decide)) (placed hc (by decide))
  · exact raiseCh_own (fault_own (retire_own (put_own (put_own off (placed hc (by decide)))
      (placed hc (by decide))) (by decide)) (by decide)) (by decide)
  · exact raiseCh_own (fault_own (load_own (put_own off (placed hc (by decide))) (by decide)) (by decide)) (by decide)

theorem switchOn_own (h : OwnOnly loadFamily b s) (hc : c < 32) {pwm : Bool} : OwnOnly loadFamily b (switchOn pwm c s) := by
  refine ite_own (latchChannel_own h hc) (ite_own (ite_own ?_ (ite_own ?_ ?_)) (ite_own ?_ ?_))
  · exact startInrush_own (startPeriod_own (load_own h (by decide))) hc
  · exact startPeriod_own (load_own h (by decide))
  · exact load_own h (by decide)
  · exact load_own h (by decide)
  · exact startInrush_own (load_own h (by decide)) hc

theorem cancelRetry_own (h : OwnOnly loadFamily b s) (hc : c < 32) : OwnOnly loadFamily b (cancelRetry c s) :=
  ite_own (raiseCh_own (fault_own (load_own (put_own h (placed hc (by decide))) (by decide)) (by decide)) (by decide)) h

theorem commandOff_own (h : OwnOnly loadFamily b s) (hc : c < 32) : OwnOnly loadFamily b (commandOff c s) :=
  put_own (outputOff_own (cancelRetry_own (load_own h (by decide)) hc) hc) (placed hc (by decide))

theorem commandChannel_own (h : OwnOnly loadFamily b s) (hc : c < 32) : OwnOnly loadFamily b (commandChannel c st duty s) := by
  have commanded : ∀ {x : Nat}, OwnOnly loadFamily b (s.put (F.LSW_CH_CMD_STATE c) x) := put_own h (placed hc (by decide))
  refine ite_own h (refreshSinks_own (judgeAnew_own (ite_own ?_ (ite_own (commandOff_own ?_ hc) (ite_own ?_ (switchOn_own
    (put_own ?_ (placed hc (by decide))) hc))))))
  all_goals exact ite_own (put_own commanded (placed hc (by decide))) commanded

theorem limpFollow_own (h : OwnOnly loadFamily b s) (hc : c < 32) : OwnOnly loadFamily b (limpFollow s c) :=
  ite_own (switchOn_own h hc) (outputOff_own h hc)

theorem lhChange_own (h : OwnOnly loadFamily b s) : OwnOnly loadFamily b (lhChange levels s) :=
  ite_own (put_own h (by decide)) (foldOver_own (put_own h (by decide)) fun _ _ hn k =>
    ite_own (limpFollow_own (load_own k (by decide)) (by simpa [mem_upFrom] using hn)) k)

theorem latchOff_own (h : OwnOnly loadFamily b s) (hc : c < 32) : OwnOnly loadFamily b (latchOff c cause s) :=
  commandChannel_own (latchChannel_own h hc) hc

theorem overCurrent_own (h : OwnOnly loadFamily b s) (hc : c < 32) : OwnOnly loadFamily b (overCurrent c current tj s) := by
  have measured : OwnOnly loadFamily b ((s.puts (F.LSW_CH_CURR_CURR c) current).puts (F.LSW_CH_TJ_TJ c) tj) :=
    puts_own (puts_own h (placed hc (by decide))) (placed hc (by decide))
  unfold overCurrent
  dsimp only
  split
  · split
    · exact measured
    · exact latchChannel_own measured hc
  · split
    · exact measured
    · exact latchOff_own measured hc

theorem thermal_own (h : OwnOnly loadFamily b s) (hc : c < 32) : OwnOnly loadFamily b (thermal c tj s) := by
  have measured : OwnOnly loadFamily b (s.puts (F.LSW_CH_TJ_TJ c) tj) := puts_own h (placed hc (by decide))
  exact ite_own measured (ite_own (latchChannel_own measured hc) (ite_own (latchOff_own measured hc) measured))

theorem retryChannel_own (h : OwnOnly loadFamily b s) (hc : c < 32) : OwnOnly loadFamily b (retryChannel c tj s) := by
  have measured : OwnOnly loadFamily b (s.puts (F.LSW_CH_TJ_TJ c) tj) := puts_own h (placed hc (by decide))
  refine ite_own (refreshSinks_own (startInrush_own (put_own (put_own (ite_own ?_ ?_) (placed hc (by decide)))
      (placed hc (by decide))) hc)) measured
  · exact startPeriod_own (load_own measured (by decide))
  · exact load_own measured (by decide)

theorem retryOk_own (h : OwnOnly loadFamily b s) (hc : c < 32) : OwnOnly loadFamily b (retryOk c s) :=
  ite_own (raiseCh_own (fault_own (bump_own (put_own h (placed hc (by decide))) (placed hc (by decide))) (by decide)) (by decide)) h

theorem inrushEnd_own (h : OwnOnly loadFamily b s) (hc : c < 32) : OwnOnly loadFamily b (inrushEnd c s) :=
  ite_own (put_own h (placed hc (by decide))) h

theorem openLoad_own (h : OwnOnly loadFamily b s) (hc : c < 32) {above : Bool} {units : Nat} :
    OwnOnly loadFamily b (openLoad c above units s) :=
  ite_own h (ite_own (raiseCh_own (fault_own (put_own h (placed hc (by decide))) (by decide)) (by decide)) (ite_own (raiseCh_own
      (put_own h (placed hc (by decide))) (by decide)) h))

theorem studMean_own (h : OwnOnly loadFamily b s) {x y : Int} : OwnOnly loadFamily b (studMean x y s) := by
  have logged : OwnOnly loadFamily b (logStuds x y s) := load_own h (by decide)
  exact ite_own (raise0_own (put_own (put_own (put_own logged (by decide)) (by decide)) (by decide)) (by decide)) (put_own (put_own
      (put_own logged (by decide)) (by decide)) (by decide))

theorem studVoltage_own (h : OwnOnly loadFamily b s) {second : Bool} {mv : Nat} : OwnOnly loadFamily b (studVoltage second mv s) := by
  cases second
  all_goals
    exact ite_own (ite_own (gather_own (put_own h (by decide)) (by decide)) (raise0_own (put_own (gather_own
        (put_own h (by decide)) (by decide)) (by decide)) (by decide)))
      (foldOver_own (put_own (gather_own (put_own h (by decide)) (by decide)) (by decide)) fun _ _ _ k => judgeAnew_own k)

theorem measureAll_own (h : OwnOnly loadFamily b s) {l : List (Int × Int)} : OwnOnly loadFamily b (measureAll l s) := by
  refine load_own (foldOver_own h fun _ n hn k => ?_) (by decide)
  have hc : n < 32 := by simpa [mem_upFrom] using hn
  exact gather_own (gather_own (puts_own (puts_own k (placed hc (by decide))) (placed hc (by decide))) (by decide)) (by decide)

theorem senseSelect_own (h : OwnOnly loadFamily b s) {sel : Nat} {on_ : Bool} : OwnOnly loadFamily b (senseSelect sel on_ s) :=
  emit_own (load_own h (by decide)) (by decide)

theorem pwmPeriod_own (h : OwnOnly loadFamily b s) : OwnOnly loadFamily b (pwmPeriod c s) :=
  ite_own (emit_own (startPeriod_own h) (by decide)) h

end

/-- A row of the load channels stays within its family. -/
theorem loadRow_own {c : Instr} {s u : State} (row : isLoadRow c = true) (run : exec c s = .next u) :
    ∃ t, OwnOnly loadFamily (begin_ t s) u := by
  cases c with
  | overCurrentLatch => exact ⟨_, own_of_guard run fun hc => overCurrent_own .refl hc.1⟩
  | thermalLatch => exact ⟨_, own_of_guard run fun hc => thermal_own .refl hc.1⟩
  | retry => exact ⟨_, own_of_guard run fun hc => retryChannel_own .refl hc.1⟩
  | retryOk => exact ⟨_, own_of_guard run fun hc => retryOk_own .refl hc.1⟩
  | inrushWindowEnd => exact ⟨_, own_of_guard run fun hc => inrushEnd_own .refl hc.1⟩
  | openLoadJudgement => exact ⟨_, own_of_guard run fun hc => openLoad_own .refl hc.1⟩
  | studMean => exact ⟨_, own_of_guard run fun _ => studMean_own .refl⟩
  | supplyLow => exact ⟨_, own_of_guard run fun _ => studVoltage_own .refl⟩
  | supplyLowClear => exact ⟨_, own_of_guard run fun _ => studVoltage_own .refl⟩
  | currentMeasure => exact ⟨_, own_of_guard run fun _ => measureAll_own .refl⟩
  | senseSelect => exact ⟨_, own_of_guard run fun _ => senseSelect_own .refl⟩
  | limpReqLow t => exact ⟨t, Host.Outcome.next.inj run ▸ put_own .refl (by decide)⟩
  | lhInChange t levels =>
    obtain rfl := Host.Outcome.next.inj run
    exact ⟨t, ite_own (lhChange_own .refl) (put_own .refl (by decide))⟩
  | pwmPeriodStart => exact ⟨_, own_of_guard run fun _ => pwmPeriod_own .refl⟩
  | _ => exact absurd row Bool.false_ne_true

end Sys2Proof.Machine
end

section
/-!
SUPPORT for O59. The rows of navigation change the navigation part, the steering of device time, the free values and registers of GNS.
-/

namespace Sys2Proof.Machine

/-- The rows of navigation. -/
def navFamily : Family := ⟨[.log, .out, .nav, .steer, .drawn], [.GNS]⟩

section
variable {b s : State} {off : Int} {x : GnssFix}

theorem beginSteer_own (h : OwnOnly navFamily b s) {dur : Nat} : OwnOnly navFamily b (beginSteer off dur s) := steer_own h (by decide)

theorem modSource_own (h : OwnOnly navFamily b s) {k : Nat} {f : CorrSource → CorrSource} : OwnOnly navFamily b (modSource k f s) :=
  nav_own h (by decide)

theorem refreshSource_own (h : OwnOnly navFamily b s) : OwnOnly navFamily b (refreshSource s) := by
  have chosen : ∀ {x y : Nat}, OwnOnly navFamily b ((s.put F.GNS_CORR_SRC x).put F.GNS_CORR_BASE y) := put_own
      (put_own h (by decide)) (by decide)
  refine ite_own (raise0_own (put_own (ite_own ?_ chosen) (by decide)) (by decide)) (put_own (ite_own ?_ chosen) (by decide))
  all_goals exact nav_own chosen (by decide)

theorem learnOrbit_own (h : OwnOnly navFamily b s) {sys sv : Nat} : OwnOnly navFamily b (learnOrbit sys sv s) := nav_own h (by decide)

theorem takeRtcm_own (h : OwnOnly navFamily b s) {k : Nat} {frame msg : Bytes} : OwnOnly navFamily b (takeRtcm k frame msg s) := by
  unfold takeRtcm
  dsimp only
  split
  · refine ite_own h (ite_own (ite_own h (nav_own h (by decide))) (refreshSource_own (modSource_own (ite_own ?_ (nav_own ?_ (by decide))))))
    all_goals exact wrapUp_own h (by decide)
  · split
    · cases rtcmOrbit (rtcmNumber msg) msg with
      | none => exact ite_own (wrapUp_own (nav_own h (by decide)) (by decide)) (nav_own (wrapUp_own
          (nav_own h (by decide)) (by decide)) (by decide))
      | some o => exact ite_own (wrapUp_own (learnOrbit_own (nav_own h (by decide))) (by decide)) (nav_own (wrapUp_own (learnOrbit_own
          (nav_own h (by decide))) (by decide)) (by decide))
    · exact ite_own (ite_own h (nav_own h (by decide))) (bump_own h (by decide))

theorem rtcmFrame_own (h : OwnOnly navFamily b s) {k : Nat} : OwnOnly navFamily b (rtcmFrame k s) :=
  ite_own (modSource_own h) (ite_own (bump_own (modSource_own h) (by decide)) (takeRtcm_own (modSource_own h)))

theorem scheduleStep_own (h : OwnOnly navFamily b s) : OwnOnly navFamily b (scheduleStep off s) :=
  put_own (nav_own h (by decide)) (by decide)

theorem beginSlew_own (h : OwnOnly navFamily b s) : OwnOnly navFamily b (beginSlew off s) := put_own (beginSteer_own h) (by decide)

theorem disciplineLocked_own (h : OwnOnly navFamily b s) : OwnOnly navFamily b (disciplineLocked off s) :=
  ite_own (nav_own h (by decide)) (ite_own (steer_own (drawn_own (nav_own h (by decide)) (by decide)) (by decide)) (beginSteer_own
      (drawn_own (nav_own h (by decide)) (by decide))))

theorem enterHoldover_own (h : OwnOnly navFamily b s) : OwnOnly navFamily b (enterHoldover s) :=
  raise0_own (put_own (steer_own (put_own h (by decide)) (by decide)) (by decide)) (by decide)

theorem discipline_own (h : OwnOnly navFamily b s) {valid : Bool} : OwnOnly navFamily b (discipline valid off s) := by
  have noted : OwnOnly navFamily b (if valid then { s with nav := { s.nav with lastValid := s.now } } else s) := ite_own
      (nav_own h (by decide)) h
  refine ite_own (ite_own (disciplineLocked_own noted) (ite_own (enterHoldover_own noted) noted)) (ite_own (ite_own ?_
      (nav_own noted (by decide))) noted)
  exact ite_own (nav_own noted (by decide)) (ite_own (scheduleStep_own (nav_own noted (by decide))) (raise0_own (beginSlew_own (put_own
      (nav_own (nav_own noted (by decide)) (by decide)) (by decide))) (by decide)))

theorem startTimeState_own (h : OwnOnly navFamily b s) : OwnOnly navFamily b (startTimeState s) :=
  ite_own (put_own h (by decide)) (ite_own h (put_own h (by decide)))

theorem receiverStart_own (h : OwnOnly navFamily b s) : OwnOnly navFamily b (receiverStart s) := ite_own h (nav_own h (by decide))

/-- The registers of the channels stand in GNS. -/
theorem channel_placed {a : Nat} (h : Reg.GNS_CH_SIG 0 ≤ a ∧ a < Reg.GNS_CH_SIG 128) : navFamily.place a = true := by
  simp only [Reg.GNS_CH_SIG] at h
  have block : blockOf a = some .GNS := by
    unfold blockOf
    repeat rw [if_neg (by omega)]
    rw [if_pos (by omega)]
  rw [Family.place, block]
  rfl

theorem channelsIdle_own (h : OwnOnly navFamily b s) : OwnOnly navFamily b (channelsIdle s) := by
  refine put_own (h.trans ?_) (by decide)
  exact {
    pending := rfl
    part := fun p _ => by cases p <;> rfl
    pk := rfl
    numbers := id
    reg := fun _ a ha => reg_storeDrop (Bool.eq_false_iff.mpr fun drop => by
      rw [Bool.and_eq_true, decide_eq_true_eq, decide_eq_true_eq] at drop
      rw [channel_placed drop] at ha
      exact absurd ha (by decide)) s }

theorem receiverStop_own (h : OwnOnly navFamily b s) : OwnOnly navFamily b (receiverStop s) := by
  have idle : OwnOnly navFamily b ((((channelsIdle { s with nav := { s.nav with running := false } }).put F.GNS_STATUS_FIX 0).put
      F.GNS_STATUS_SATS 0).put F.GNS_STATUS_HEADING_VALID 0) := put_own (put_own (put_own (channelsIdle_own
          (nav_own h (by decide))) (by decide)) (by decide)) (by decide)
  exact ite_own h (ite_own (raise0_own (ite_own idle (raise0_own idle (by decide))) (by decide)) (ite_own idle
      (raise0_own idle (by decide))))

theorem receiverWatch_own (h : OwnOnly navFamily b s) : OwnOnly navFamily b (receiverWatch s) := by
  have stopped := receiverStop_own (receiverStart_own h)
  exact ite_own (enterHoldover_own stopped) stopped

theorem setAttitude_own (h : OwnOnly navFamily b s) {baseline azimuth : Nat} : OwnOnly navFamily b (setAttitude baseline azimuth s) :=
  puts_own (puts_own h (by decide)) (by decide)

theorem reportPosition_own (h : OwnOnly navFamily b s) {lat lon hgt : Int} : OwnOnly navFamily b (reportPosition lat lon hgt s) :=
  nav_own (puts_own (put64_own (put64_own h (by decide) (by decide)) (by decide) (by decide)) (by decide)) (by decide)

theorem fixShown_own (h : OwnOnly navFamily b s) {fix sats : Nat} {speed : Int} : OwnOnly navFamily b (fixShown fix sats speed s) :=
  puts_own (ite_own (raise0_own (put_own (put_own (nav_own h (by decide)) (by decide)) (by decide)) (by decide)) (put_own (put_own
      (nav_own h (by decide)) (by decide)) (by decide))) (by decide)

theorem headingShown_own (h : OwnOnly navFamily b s) {valid : Bool} {heading : Nat} : OwnOnly navFamily b (headingShown valid heading s) :=
  put_own (ite_own (put_own h (by decide)) h) (by decide)

theorem leapTaken_own (h : OwnOnly navFamily b s) {leap : Option Int} : OwnOnly navFamily b (leapTaken leap s) := by
  cases leap with
  | none => exact h
  | some l => exact put_own (puts_own h (by decide)) (by decide)

theorem positionShown_own (h : OwnOnly navFamily b s) {fix : Nat} : OwnOnly navFamily b (positionShown fix x s) :=
  ite_own h (reportPosition_own h)

theorem headingTold_own (h : OwnOnly navFamily b s) {lost : Bool} : OwnOnly navFamily b (headingTold lost s) :=
  ite_own (raise0_own h (by decide)) h

theorem reportFix_own (h : OwnOnly navFamily b s) : OwnOnly navFamily b (reportFix x s) := by
  rw [reportFix_eq]
  exact leapTaken_own (positionShown_own (headingTold_own (setAttitude_own (headingShown_own (fixShown_own h)))))

theorem fixWatch_own (h : OwnOnly navFamily b s) : OwnOnly navFamily b (fixWatch s) := nav_own h (by decide)

theorem takeNavData_own (h : OwnOnly navFamily b s) : OwnOnly navFamily b (takeNavData x s) :=
  foldOver_own (foldOver_own (nav_own h (by decide)) fun _ _ _ k => gather_own k (by decide)) fun _ _ _ k => learnOrbit_own k

theorem offsetShown_own (h : OwnOnly navFamily b s) {valid : Bool} : OwnOnly navFamily b (offsetShown valid off s) :=
  ite_own (puts_own (nav_own h (by decide)) (by decide)) h

theorem timeJudged_own (h : OwnOnly navFamily b s) {valid : Bool} : OwnOnly navFamily b (timeJudged valid off s) :=
  ite_own (discipline_own h) (ite_own (nav_own h (by decide)) h)

theorem gnssEpoch_own (h : OwnOnly navFamily b s) : OwnOnly navFamily b (gnssEpoch x s) := by
  have watched := receiverWatch_own h
  have taken := takeNavData_own (x := x) (startTimeState_own watched)
  exact ite_own watched (timeJudged_own (fixWatch_own (reportFix_own (refreshSource_own (offsetShown_own taken)))))

theorem slewEnd_own (h : OwnOnly navFamily b s) : OwnOnly navFamily b (slewEnd s) := ite_own (put_own h (by decide)) h

theorem timePulse_own (h : OwnOnly navFamily b s) : OwnOnly navFamily b (timePulse s) := by
  unfold timePulse
  split
  · exact h
  · exact ite_own h (ite_own (nav_own h (by decide)) (emit_own (nav_own (setReg_own (put64_own
      (nav_own h (by decide)) (by decide) (by decide)) (by decide)) (by decide)) (by decide)))

theorem antFault_own (h : OwnOnly navFamily b s) {second : Bool} {cur : Nat} {low limit : Bool} :
    OwnOnly navFamily b (antFault second cur low limit s) := by
  cases second
  all_goals exact ite_own (raise0_own (put_own (put_own (put_own
      (nav_own h (by decide)) (by decide)) (by decide)) (by decide)) (by decide)) (put_own (put_own (put_own
      (nav_own h (by decide)) (by decide)) (by decide)) (by decide))

theorem dumpChannel_own (h : OwnOnly navFamily b s) {x : ChannelDump} : OwnOnly navFamily b (dumpChannel s x) := by
  unfold dumpChannel
  split
  · exact h
  next fits =>
    have bound : x.chan < 128 := by
      simp only [dumpFits, Bool.not_eq_true', Bool.not_eq_false, Bool.and_eq_true, decide_eq_true_eq] at fits
      exact fits.1.1.1
    exact nav_own (setReg_own (puts_own (setReg_own h (placed (f := F.GNS_CH_SIG_SIG) bound (by decide))) (placed bound (by decide)))
      (placed (f := F.GNS_CH_LOCK_LOCK_MS) bound (by decide))) (by decide)

theorem countTracking_own (h : OwnOnly navFamily b s) : OwnOnly navFamily b (countTracking s) := put_own h (by decide)

theorem acquisitionDone_own (h : OwnOnly navFamily b s) {n sig sv : Nat} {second aided found : Bool} {doppler : Int} :
    OwnOnly navFamily b (acquisitionDone n sig sv second aided found doppler s) := by
  have started := receiverStart_own h
  unfold acquisitionDone
  dsimp only
  split
  · exact started
  next search =>
    have bound : n < 128 := by
      simp only [Bool.or_eq_true, decide_eq_true_eq, not_or] at search
      omega
    split
    · exact started
    · exact puts_own (setReg_own (setReg_own (nav_own started (by decide)) (placed (f := F.GNS_CH_SIG_SIG) bound (by decide)))
        (placed (f := F.GNS_CH_LOCK_LOCK_MS) bound (by decide))) (placed bound (by decide))

theorem releaseSteer_own (h : OwnOnly navFamily b s) {reason : Nat} : OwnOnly navFamily b (releaseSteer reason s) :=
  ite_own (raise0_own (put_own (put_own h (by decide)) (by decide)) (by decide)) h

theorem edgeTimeout_own (h : OwnOnly navFamily b s) : OwnOnly navFamily b (edgeTimeout s) := ite_own (releaseSteer_own h) h

theorem enableWatch_own (h : OwnOnly navFamily b s) : OwnOnly navFamily b (enableWatch s) := ite_own h (nav_own h (by decide))

theorem enableFilter_own (h : OwnOnly navFamily b s) : OwnOnly navFamily b (enableFilter s) :=
  ite_own (ite_own (nav_own (enableWatch_own h) (by decide)) (releaseSteer_own (nav_own (enableWatch_own h) (by decide))))
      (enableWatch_own h)

theorem overrideWatch_own (h : OwnOnly navFamily b s) : OwnOnly navFamily b (overrideWatch s) := nav_own h (by decide)

theorem overrideExpiry_own (h : OwnOnly navFamily b s) : OwnOnly navFamily b (overrideExpiry s) := by
  unfold overrideExpiry
  split
  · exact h
  · exact ite_own (releaseSteer_own h) h

theorem graceExpiry_own (h : OwnOnly navFamily b s) : OwnOnly navFamily b (graceExpiry s) :=
  ite_own (releaseSteer_own h) (ite_own (releaseSteer_own h) h)

theorem speedExpiry_own (h : OwnOnly navFamily b s) : OwnOnly navFamily b (speedExpiry s) := by
  unfold speedExpiry
  split
  · exact h
  · exact ite_own (releaseSteer_own h) h

theorem propagate_own (h : OwnOnly navFamily b s) {x : NavPoint} : OwnOnly navFamily b (propagate x s) :=
  fixWatch_own (puts_own (reportPosition_own (setAttitude_own (put_own h (by decide)))) (by decide))

/-- The steering law with the release that its own error causes. -/
def lawApplied (s : State) : State :=
  match s.nav.guide with
  | none => s
  | some g =>
    match errorsNow (shiftMoved g s) g with
    | none => shiftMoved g s
    | some (ey, epsi, kap) =>
      releasedIf (offBy ey ((guidedBy ey epsi kap (shiftMoved g s)).get F.GNS_STEER_ENG_REL_XTE)) 7 (guidedBy ey epsi kap (shiftMoved g s))

theorem steerCompute_law (s : State) : steerCompute s = lateCauses (lawApplied (overrideWatch s)) := by
  unfold steerCompute
  simp only [blendErrors_eq]
  unfold lateCauses releasedIf
  simp only [decide_eq_true_eq]
  rfl

theorem releasedIf_own (h : OwnOnly navFamily b s) {cause : Bool} {reason : Nat} : OwnOnly navFamily b (releasedIf cause reason s) :=
  ite_own (releaseSteer_own h) h

theorem guidedBy_own (h : OwnOnly navFamily b s) {ey epsi kap : F64} : OwnOnly navFamily b (guidedBy ey epsi kap s) :=
  puts_own (puts_own (nav_own (ite_own (put_own (nav_own h (by decide)) (by decide)) h) (by decide)) (by decide)) (by decide)

theorem lawApplied_own (h : OwnOnly navFamily b s) : OwnOnly navFamily b (lawApplied s) := by
  unfold lawApplied
  split
  · exact h
  · split
    · exact nav_own h (by decide)
    · exact releasedIf_own (guidedBy_own (nav_own h (by decide)))

theorem steerCompute_own (h : OwnOnly navFamily b s) : OwnOnly navFamily b (steerCompute s) := by
  rw [steerCompute_law]
  exact releasedIf_own (releasedIf_own (lawApplied_own (overrideWatch_own h)))

end

/-- A row of navigation stays within its family. -/
theorem navigationRow_own {c : Instr} {s u : State} (row : isNavigationRow c = true) (run : exec c s = .next u) :
    ∃ t, OwnOnly navFamily (begin_ t s) u := by
  cases c with
  | correlatorDump =>
    have dumped {b : State} {l : List ChannelDump} : OwnOnly navFamily b (foldOver dumpChannel (receiverStart b) l) :=
      foldOver_own (receiverStart_own .refl) fun _ _ _ k => dumpChannel_own k
    exact ⟨_, own_of_guard run fun _ => countTracking_own dumped⟩
  | acquisitionDone t => exact ⟨t, Host.Outcome.next.inj run ▸ acquisitionDone_own .refl⟩
  | gnssEpoch t => exact ⟨t, Host.Outcome.next.inj run ▸ gnssEpoch_own .refl⟩
  | slewEnd t => exact ⟨t, Host.Outcome.next.inj run ▸ slewEnd_own .refl⟩
  | timePulse t => exact ⟨t, Host.Outcome.next.inj run ▸ timePulse_own .refl⟩
  | antFault t => exact ⟨t, Host.Outcome.next.inj run ▸ antFault_own .refl⟩
  | rtcmFrame => exact ⟨_, own_of_guard run fun _ => rtcmFrame_own .refl⟩
  | corrStale => exact ⟨_, own_of_guard run fun _ => refreshSource_own .refl⟩
  | steerCompute => exact ⟨_, own_of_guard run fun _ => steerCompute_own (propagate_own (nav_own .refl (by decide)))⟩
  | enableFilter t => exact ⟨t, Host.Outcome.next.inj run ▸ enableFilter_own .refl⟩
  | edgeHoldTimeout t => exact ⟨t, Host.Outcome.next.inj run ▸ edgeTimeout_own .refl⟩
  | fixGraceExpiry t => exact ⟨t, Host.Outcome.next.inj run ▸ graceExpiry_own .refl⟩
  | overrideExpiry t => exact ⟨t, Host.Outcome.next.inj run ▸ overrideExpiry_own (overrideWatch_own .refl)⟩
  | speedExpiry t => exact ⟨t, Host.Outcome.next.inj run ▸ speedExpiry_own .refl⟩
  | blendEnd t =>
    obtain rfl := Host.Outcome.next.inj run
    refine ⟨t, ?_⟩
    split
    · exact .refl
    · exact ite_own (put_own (nav_own .refl (by decide)) (by decide)) .refl
  | _ => exact absurd row Bool.false_ne_true

end Sys2Proof.Machine
end

section
/-!
SUPPORT for O59. The rows of the consist change the consist and yield parts, the buffers of corrections, the free values and registers of CST
and YLD.
-/

namespace Sys2Proof.Machine

/-- The rows of the consist. -/
def consistFamily : Family := ⟨[.log, .out, .cst, .yld, .nav, .drawn], [.CST, .YLD]⟩

section
variable {b s : State} {x : Datagram}

theorem modCst_own (h : OwnOnly consistFamily b s) {f : ConsistPart → ConsistPart} : OwnOnly consistFamily b (modCst f s) :=
  cst_own h (by decide)

theorem modLive_own (h : OwnOnly consistFamily b s) {f : FieldData → FieldData} : OwnOnly consistFamily b (modLive f s) :=
  yld_own h (by decide)

theorem fieldFull_own (h : OwnOnly consistFamily b s) : OwnOnly consistFamily b (fieldFull s) :=
  ite_own h (raise0_own (yld_own h (by decide)) (by decide))

theorem changeCell_own (h : OwnOnly consistFamily b s) {e n : Int} {f : YieldCell → YieldCell} {u : State} (hu : changeCell e n f s = some u) :
    OwnOnly consistFamily b u := by
  unfold changeCell at hu
  dsimp only at hu
  split at hu
  · exact Option.some.inj hu ▸ modLive_own h
  · split at hu
    · exact Option.some.inj hu ▸ modLive_own h
    · exact absurd hu (by simp)

theorem sendConsist_own (h : OwnOnly consistFamily b s) {type consist member : Nat} {payload : Bytes} :
    OwnOnly consistFamily b (sendConsist type consist member payload s) := by
  unfold sendConsist
  split
  · exact h
  · exact emit_own (put_own (modCst_own (ite_own h (modCst_own h))) (by decide)) (by decide)

theorem authFail_own (h : OwnOnly consistFamily b s) : OwnOnly consistFamily b (authFail s) :=
  ite_own (bump_own h (by decide)) (raise0_own (modCst_own (bump_own h (by decide))) (by decide))

theorem noteSeq_own (h : OwnOnly consistFamily b s) {sender seq : Nat} : OwnOnly consistFamily b (noteSeq sender seq s) := by
  unfold noteSeq
  split <;> exact modCst_own h

theorem openDatagram_own (h : OwnOnly consistFamily b s) {d : Bytes} : OwnOnly consistFamily b (openDatagram d s).1 := by
  unfold openDatagram
  dsimp only
  split
  · exact authFail_own h
  · split
    · exact authFail_own h
    · split
      · exact authFail_own h
      · split
        · exact bump_own h (by decide)
        · exact noteSeq_own h

/-- A datagram that is received is opened, and its message is taken. -/
theorem receiveDatagram_own (h : OwnOnly consistFamily b s) {type : Nat} {f : Datagram → State → State} {d : UdpDatagram}
    (hf : ∀ y u, OwnOnly consistFamily b u → OwnOnly consistFamily b (f y u)) : OwnOnly consistFamily b (receiveDatagram type f d s) := by
  have opened := openDatagram_own h (d := d.bytes)
  unfold receiveDatagram
  refine ite_own h ?_
  split
  next u ho =>
    rw [ho] at opened
    exact opened
  next u y ho =>
    rw [ho] at opened
    exact ite_own (hf y u opened) opened

theorem setRdvState_own (h : OwnOnly consistFamily b s) {st partner : Nat} : OwnOnly consistFamily b (setRdvState st partner s) :=
  ite_own (put_own (put_own h (by decide)) (by decide)) (raise0_own (put_own (put_own h (by decide)) (by decide)) (by decide))

theorem sendRdv_own (h : OwnOnly consistFamily b s) {id kind target side reason eta : Nat} :
    OwnOnly consistFamily b (sendRdv id kind target side reason eta s) := ite_own h (sendConsist_own h)

theorem endRdv_own (h : OwnOnly consistFamily b s) {reason : Nat} : OwnOnly consistFamily b (endRdv reason s) := by
  unfold endRdv
  split
  · exact h
  · exact setRdvState_own (put_own (modCst_own (ite_own h (sendRdv_own h))) (by decide))

theorem partnerGone_own (h : OwnOnly consistFamily b s) {m : Nat} : OwnOnly consistFamily b (partnerGone m s) := ite_own (endRdv_own h) h

theorem startListening_own (h : OwnOnly consistFamily b s) {consist st : Nat} : OwnOnly consistFamily b (startListening consist st s) :=
  cst_own (setReg_own (put_own h (by decide)) (by decide)) (by decide)

theorem takeHeartbeat_own (h : OwnOnly consistFamily b s) : OwnOnly consistFamily b (takeHeartbeat x s) := by
  have heard {f : ConsistPart → ConsistPart} : OwnOnly consistFamily b (if s.cst.listenEnd.isSome then modCst f s else s) :=
    ite_own (modCst_own h) h
  exact ite_own (ite_own (raise0_own (startListening_own heard) (by decide)) heard) (ite_own heard (modCst_own heard))

theorem takeLeave_own (h : OwnOnly consistFamily b s) : OwnOnly consistFamily b (takeLeave x s) := by
  unfold takeLeave
  dsimp only
  split
  · exact h
  · exact partnerGone_own (modCst_own h)

theorem coverCell_own (h : OwnOnly consistFamily b s) {te tn : Int} {row c : Nat} : OwnOnly consistFamily b (coverCell te tn row c s) := by
  refine ite_own h ?_
  split
  · exact ite_own h (fieldFull_own h)
  next u hu => exact changeCell_own h hu

theorem takeRow_own (h : OwnOnly consistFamily b s) {bytes : Bytes} : OwnOnly consistFamily b (takeRow s bytes) :=
  ite_own h (foldOver_own h fun _ _ _ k => ite_own (coverCell_own k) k)

theorem takeCoverage_own (h : OwnOnly consistFamily b s) : OwnOnly consistFamily b (takeCoverage x s) := by
  unfold takeCoverage
  dsimp only
  split
  · exact bump_own h (by decide)
  · exact ite_own (bump_own h (by decide)) (foldOver_own h fun _ _ _ k => takeRow_own k)

theorem modRdv_own (h : OwnOnly consistFamily b s) {f : Rdv → Rdv} : OwnOnly consistFamily b (modRdv f s) := modCst_own h

theorem offerSelect_own (h : OwnOnly consistFamily b s) : OwnOnly consistFamily b (offerSelect s) := by
  unfold offerSelect
  split
  · exact h
  · refine ite_own h ?_
    split
    · exact h
    · exact setRdvState_own (modRdv_own (foldOver_own (sendRdv_own h) fun _ _ _ k => ite_own k (sendRdv_own k)))

theorem takeRdv_own (h : OwnOnly consistFamily b s) : OwnOnly consistFamily b (takeRdv x s) := by
  refine ite_own h (ite_own (ite_own (sendRdv_own (modCst_own (drawn_own h (by decide)))) h) (ite_own h (ite_own ?_ (ite_own ?_ (ite_own
      (modCst_own h) ?_)))))
  · split
    · exact h
    · exact ite_own (offerSelect_own (modRdv_own h)) h
  · exact ite_own (setRdvState_own (modCst_own h)) h
  · split
    · exact h
    · exact ite_own h (ite_own (modRdv_own h) (ite_own (endRdv_own h) h))

theorem takeCorrections_own (h : OwnOnly consistFamily b s) : OwnOnly consistFamily b (takeCorrections x s) :=
  ite_own (nav_own h (by decide)) h

end

/-- A row of the consist stays within its family. -/
theorem consistRow_own {c : Instr} {s u : State} (row : isConsistRow c = true) (run : exec c s = .next u) :
    ∃ t, OwnOnly consistFamily (begin_ t s) u := by
  cases c with
  | heartbeatReceive t => exact ⟨t, Host.Outcome.next.inj run ▸ receiveDatagram_own .refl fun _ _ k => takeHeartbeat_own k⟩
  | coverageReceive t => exact ⟨t, Host.Outcome.next.inj run ▸ receiveDatagram_own .refl fun _ _ k => takeCoverage_own k⟩
  | rendezvousReceive t => exact ⟨t, Host.Outcome.next.inj run ▸ receiveDatagram_own .refl fun _ _ k => takeRdv_own k⟩
  | correctionsReceive t => exact ⟨t, Host.Outcome.next.inj run ▸ receiveDatagram_own .refl fun _ _ k => takeCorrections_own k⟩
  | leaveReceive t => exact ⟨t, Host.Outcome.next.inj run ▸ receiveDatagram_own .refl fun _ _ k => takeLeave_own k⟩
  | _ => exact absurd row Bool.false_ne_true

end Sys2Proof.Machine
end

section
/-!
SUPPORT for O59. The rows of descriptors change the part of the DMA engine and registers of DMA and FUS.
-/

namespace Sys2Proof.Machine

/-- The rows of descriptors. -/
def transferFamily : Family := ⟨[.log, .out, .dma], [.FUS]⟩

section
variable {b s : State} {c n code residue : Nat}

theorem modDma_own (h : OwnOnly transferFamily b s) {f : DmaChannel → DmaChannel} : OwnOnly transferFamily b (modDma c f s) :=
  dma_own h (by decide)

theorem modData_own (h : OwnOnly transferFamily b s) {f : DataStream → DataStream} : OwnOnly transferFamily b (modData n f s) :=
  dma_own h (by decide)

theorem unitLost_own (h : OwnOnly transferFamily b s) (hn : n < 4) : OwnOnly transferFamily b (unitLost n s) :=
  bump_own (modData_own h) (placed hn (by decide))

theorem memWrite_own (h : OwnOnly transferFamily b s) {l : List (Nat × Byte)} : OwnOnly transferFamily b (memWrite l s) :=
  dma_own h (by decide)

theorem offerDescriptor_own (h : OwnOnly transferFamily b s) (hc : c < 32) {again : Bool} {d : Descriptor} :
    OwnOnly transferFamily b (offerDescriptor c again d s) := ite_own h (wrapUp_own (modDma_own h) (placed hc (by decide)))

theorem ownerLoss_own (h : OwnOnly transferFamily b s) : OwnOnly transferFamily b (ownerLoss c s) := by
  unfold ownerLoss
  split
  · refine foldOver_own h fun u i hi k => bump_own k (placed (n := 20) ?_ (by decide))
    simpa using (List.mem_filter.mp hi).1
  · split
    next range => exact ite_own h (unitLost_own (modData_own h) (by omega))
    · exact h

theorem descriptorBad_own (h : OwnOnly transferFamily b s) (hc : c < 32) {e : RingEntry} : OwnOnly transferFamily b (descriptorBad c e code s) :=
  ite_own (ownerLoss_own (fault_own (raise_own (bump_own h (placed hc (by decide))) (by decide)) (by decide))) (ite_own h (modDma_own h))

theorem completeDescriptor_own (h : OwnOnly transferFamily b s) (hc : c < 32) :
    OwnOnly transferFamily b (completeDescriptor c code residue s) := by
  unfold completeDescriptor
  dsimp only
  split
  · exact h
  · have counted {f : DmaChannel → DmaChannel} {st : Nat} : OwnOnly transferFamily b ((((modDma c f s).wrapUp
      (F.DMA_CH_RING_CONS c) 1).wrapUp
        (F.DMA_CH_DONE_DESCS c) 1).put (F.DMA_CH_CTRL_STATE c) st) :=
      put_own (wrapUp_own (wrapUp_own (modDma_own h) (placed hc (by decide))) (placed hc (by decide))) (placed hc (by decide))
    have done {p : Prop} [Decidable p] {u : State} (hu : OwnOnly transferFamily b u) :
        OwnOnly transferFamily b (if p then raise Src.DMA_DESC_DONE c u else u) := ite_own (raise_own hu (by decide)) hu
    exact ite_own (done counted) (descriptorBad_own (raise_own (put_own (put_own (bump_own (done counted) (placed hc (by decide)))
        (placed hc (by decide))) (placed hc (by decide))) (by decide)) hc)

theorem startDescriptor_own (h : OwnOnly transferFamily b s) (hc : c < 32) : OwnOnly transferFamily b (startDescriptor c s) := by
  refine ite_own h ?_
  split
  · exact h
  · have started {f : DmaChannel → DmaChannel} {st req : Nat} : OwnOnly transferFamily b (((modDma c f s).put
      (F.DMA_CH_CTRL_STATE c) st).put
        (F.DMA_CH_CFG_REQ c) req) := put_own (put_own (modDma_own h) (placed hc (by decide))) (placed hc (by decide))
    exact ite_own (completeDescriptor_own started hc) started

theorem noteEcc_own (h : OwnOnly transferFamily b s) {corrected uncorrected : Nat} : OwnOnly transferFamily b (noteEcc corrected uncorrected s) :=
  ite_own (gather_own (bump_own (bump_own h (by decide)) (by decide)) (by decide)) (raise0_own (gather_own (bump_own
      (bump_own h (by decide)) (by decide)) (by decide)) (by decide))

theorem endDescriptor_own (h : OwnOnly transferFamily b s) (hc : c < 32) {e : DmaEnd} : OwnOnly transferFamily b (endDescriptor c e s) := by
  refine ite_own h ?_
  split
  · exact h
  · refine completeDescriptor_own (noteEcc_own (ite_own ?_ (memWrite_own h))) hc
    exact bump_own (memWrite_own h) (placed hc (by decide))

theorem resubmit_own (h : OwnOnly transferFamily b s) (hc : c < 32) : OwnOnly transferFamily b (resubmit c s) := by
  refine ite_own h ?_
  split
  · exact h
  · exact offerDescriptor_own (modDma_own h) hc

end

/-- A row of descriptors stays within its family. -/
theorem transferRow_own {c : Instr} {s u : State} (row : isTransferRow c = true) (run : exec c s = .next u) :
    ∃ t, OwnOnly transferFamily (begin_ t s) u := by
  cases c with
  | descriptorStart =>
    exact ⟨_, own_of_guard run fun hc => startDescriptor_own (foldOver_own .refl fun _ _ _ k => offerDescriptor_own k hc.1) hc.1⟩
  | descriptorComplete => exact ⟨_, own_of_guard run fun hc => endDescriptor_own .refl hc⟩
  | descResubmit => exact ⟨_, own_of_guard run fun hc => resubmit_own .refl hc⟩
  | _ => exact absurd row Bool.false_ne_true

end Sys2Proof.Machine
end

section
/-!
SUPPORT for O59. The rows of the CAN controllers change the part of the controllers, the transfer of the service path and registers of MDB.
-/

namespace Sys2Proof.Machine

/-- The rows of the CAN controllers. -/
def transmitFamily : Family := ⟨[.log, .out, .can, .packets], [.MDB]⟩

section
variable {b s : State} {n k m due_ err : Nat} {frame : CanFrame}

theorem modControl_own (h : OwnOnly transmitFamily b s) {f : CanControl → CanControl} : OwnOnly transmitFamily b (modControl n f s) :=
  can_own h (by decide)

theorem modBuffer_own (h : OwnOnly transmitFamily b s) {f : TxBuffer → TxBuffer} : OwnOnly transmitFamily b (modBuffer n k f s) :=
  can_own h (by decide)

/-- The registers of the transmit buffers stand in MDB. -/
theorem buffer_placed (hn : n < 4) (hk : k < 3) : transmitFamily.place (Reg.MDB_C_TXB n k) = true :=
  (by decide : ∀ n < 4, ∀ k < 3, transmitFamily.place (Reg.MDB_C_TXB n k) = true) n hn k hk

theorem loadBuffer_own (h : OwnOnly transmitFamily b s) (hn : n < 4) (hk : k < 3) {src : Nat} :
    OwnOnly transmitFamily b (loadBuffer n k src frame s) :=
  put_own (put_own (put_own (modBuffer_own h) (buffer_placed hn hk)) (buffer_placed hn hk)) (buffer_placed hn hk)

theorem sendFirmware_own (h : OwnOnly transmitFamily b s) (hn : n < 4) : OwnOnly transmitFamily b (sendFirmware n frame s) :=
  ite_own (modControl_own h) (loadBuffer_own h hn (by decide))

theorem nextFirmware_own (h : OwnOnly transmitFamily b s) (hn : n < 4) : OwnOnly transmitFamily b (nextFirmware n s) := by
  unfold nextFirmware
  split
  · exact h
  · exact ite_own h (loadBuffer_own (modControl_own h) hn (by decide))

theorem segmentSent_own (h : OwnOnly transmitFamily b s) : OwnOnly transmitFamily b (segmentSent frame s) := service_own h (by decide)

theorem restartAs_own (h : OwnOnly transmitFamily b s) : OwnOnly transmitFamily b (restartAs s) := service_own h (by decide)

theorem mdbEvent_own (h : OwnOnly transmitFamily b s) {src : Nat}
    (hsrc : (sourceFlag src).all (fun f => transmitFamily.place f.addr) = true) : OwnOnly transmitFamily b (mdbEvent src n s) :=
  raise_own (put_own h (by decide)) hsrc

theorem loadMessage_own (h : OwnOnly transmitFamily b s) (hn : n < 4) (hk : k < 3) : OwnOnly transmitFamily b (loadMessage n k m s) :=
  loadBuffer_own h hn hk

/-- One of the two buffers of messages. -/
theorem lt_of_messageBuffer {p : Nat → Bool} (h : [0, 1].find? p = some k) : k < 2 := by
  have mem := List.mem_of_find?_eq_some h
  simp only [List.mem_cons, List.not_mem_nil, or_false] at mem
  omega

theorem loadWaiting_own (hn : n < 4) : ∀ {fuel : Nat} {s : State}, OwnOnly transmitFamily b s → OwnOnly transmitFamily b (loadWaiting n fuel s)
  | 0, _, h => h
  | fuel + 1, s, h => by
    unfold loadWaiting
    split
    next k _ found =>
      have hk := lt_of_messageBuffer found
      exact loadWaiting_own hn (loadMessage_own (modControl_own h) hn (by omega))
    · exact h

theorem sendInstance_own (h : OwnOnly transmitFamily b s) : OwnOnly transmitFamily b (sendInstance m due_ s) := by
  have hn : s.get (F.MDB_TX_CFG_CTRL m) < 4 := State.get_lt s (F.MDB_TX_CFG_CTRL m)
  refine ite_own h (ite_own h ?_)
  split
  next k found =>
    have hk := lt_of_messageBuffer found
    refine loadMessage_own (put_own (modBuffer_own h) (buffer_placed hn (by omega))) hn ?_
    split <;> omega
  · exact loadWaiting_own hn (modControl_own h)

theorem messageDue_own (h : OwnOnly transmitFamily b s) : OwnOnly transmitFamily b (messageDue m s) := by
  refine ite_own h (ite_own (ite_own h (ite_own h (sendInstance_own (can_own h (by decide))))) ?_)
  split
  · exact h
  · exact ite_own h (sendInstance_own (can_own h (by decide)))

theorem refill_own (h : OwnOnly transmitFamily b s) (hn : n < 4) : OwnOnly transmitFamily b (refill n s) :=
  nextFirmware_own (ite_own (loadWaiting_own hn h) h) hn

theorem judgePassive_own (h : OwnOnly transmitFamily b s) (hn : n < 4) : OwnOnly transmitFamily b (judgePassive n s) :=
  ite_own (mdbEvent_own (put_own h (placed hn (by decide))) (by decide)) (ite_own (put_own h (placed hn (by decide))) h)

theorem lt_of_offered (h : offeredBuffer s n = some k) : k < 3 := by
  have mem := (List.mem_filter.mp (mem_of_offered h)).1
  simp only [List.mem_cons, List.not_mem_nil, or_false] at mem
  omega

theorem frameSent_own (h : OwnOnly transmitFamily b s) (hn : n < 4) : OwnOnly transmitFamily b (frameSent n s) := by
  refine ite_own h ?_
  split
  · exact h
  next k offered =>
    have hk := lt_of_offered offered
    have sent {st errors tec : Nat} {f : TxBuffer → TxBuffer} : OwnOnly transmitFamily b (judgePassive n (((((modBuffer n k f s).put
        (txState n k) st).put (txRetries n k) errors).wrapUp (F.MDB_C_CNT_TX_FRAMES n) 1).put (F.MDB_C_ERR_TEC n) tec)) :=
      judgePassive_own (put_own (wrapUp_own (put_own (put_own (modBuffer_own h) (buffer_placed hn hk)) (buffer_placed hn hk))
          (placed hn (by decide)))
        (placed hn (by decide))) hn
    dsimp only
    cases (txBuffer s n k).frame with
    | none => exact ite_own (restartAs_own (refill_own sent hn)) (refill_own sent hn)
    | some f =>
      have out {tec : Nat} :=
        emit_own (e := .canFrame n f) (sent (st := 2) (errors := satN 8 (txBuffer s n k).errors) (tec := tec)
            (f := fun _ => {})) (by decide)
      exact ite_own (restartAs_own (refill_own (ite_own (segmentSent_own out) out) hn)) (refill_own (ite_own (segmentSent_own out) out) hn)

theorem busOff_own (h : OwnOnly transmitFamily b s) (hn : n < 4) : OwnOnly transmitFamily b (busOff n s) := by
  have aborted : OwnOnly transmitFamily b (canDropped n (foldOver (abortPending n) s [0, 1, 2])) := by
    have cleared : OwnOnly transmitFamily b (foldOver (abortPending n) s [0, 1, 2]) := foldOver_own h fun u k hk own => by
      have hk : k < 3 := by
        simp only [List.mem_cons, List.not_mem_nil, or_false] at hk
        omega
      exact ite_own (bump_own (put_own (modBuffer_own own) (buffer_placed hn hk)) (placed hn (by decide))) own
    exact ite_own (restartAs_own (modControl_own cleared)) (modControl_own cleared)
  rw [busOff_eq]
  exact mdbEvent_own (bump_own (put_own aborted (placed hn (by decide))) (placed hn (by decide))) (by decide)

theorem abortRetry_own (h : OwnOnly transmitFamily b s) (hn : n < 4) (hk : k < 3) : OwnOnly transmitFamily b (abortRetry n k err s) := by
  have aborted : OwnOnly transmitFamily b (mdbEvent Src.MDB_TX_ABORT n (((modBuffer n k (fun _ => {}) s).put (txState n k) 3).bump
      (F.MDB_C_DROP_ABORTS n) 1)) := mdbEvent_own (bump_own (put_own (modBuffer_own h) (buffer_placed hn hk))
          (placed hn (by decide))) (by decide)
  exact ite_own (restartAs_own (refill_own (fault_own aborted (by decide)) hn)) (refill_own (fault_own aborted (by decide)) hn)

theorem transmitError_own (h : OwnOnly transmitFamily b s) (hn : n < 4) : OwnOnly transmitFamily b (transmitError n err s) := by
  refine ite_own h ?_
  split
  · exact h
  next k offered =>
    have hk := lt_of_offered offered
    have counted {x y z : Nat} {f : TxBuffer → TxBuffer} : OwnOnly transmitFamily b ((((modBuffer n k f s).put
        (F.MDB_C_ERR_LAST_ERR n) x).put
        (F.MDB_C_ERR_TEC n) y).put (txRetries n k) z) :=
      put_own (put_own (put_own (modBuffer_own h) (placed hn (by decide))) (placed hn (by decide))) (buffer_placed hn hk)
    exact ite_own (busOff_own counted hn) (ite_own (abortRetry_own (judgePassive_own counted hn) hn hk) (judgePassive_own counted hn))

theorem busOn_own (h : OwnOnly transmitFamily b s) (hn : n < 4) : OwnOnly transmitFamily b (busOn n s) := by
  have active : OwnOnly transmitFamily b (((s.put (F.MDB_C_STATUS_STATE n) 1).put (F.MDB_C_ERR_TEC n) 0).put (F.MDB_C_ERR_REC n) 0) :=
    put_own (put_own (put_own h (placed hn (by decide))) (placed hn (by decide))) (placed hn (by decide))
  exact ite_own h (mdbEvent_own (ite_own (put_own (can_own active (by decide)) (placed hn (by decide))) active) (by decide))

theorem addressClaim_own (h : OwnOnly transmitFamily b s) : OwnOnly transmitFamily b (addressClaim s) := by
  refine ite_own h (ite_own (sendFirmware_own (can_own (put_own (put_own h (by decide)) (by decide)) (by decide)) (by decide)) ?_)
  split
  · exact h
  · exact ite_own h (put_own (put_own (can_own h (by decide)) (by decide)) (by decide))

theorem rxTimeout_own (h : OwnOnly transmitFamily b s) {r : Nat} : OwnOnly transmitFamily b (rxTimeout r s) :=
  ite_own h (mdbEvent_own (putBit_own h (by decide)) (by decide))

end

/-- A row of the CAN controllers stays within its family. -/
theorem transmitRow_own {c : Instr} {s u : State} (row : isTransmitRow c = true) (run : exec c s = .next u) :
    ∃ t, OwnOnly transmitFamily (begin_ t s) u := by
  cases c with
  | messageDue => exact ⟨_, own_of_guard run fun _ => messageDue_own .refl⟩
  | canFrameSent => exact ⟨_, own_of_guard run fun hc => frameSent_own .refl hc⟩
  | txError => exact ⟨_, own_of_guard run fun hc => transmitError_own .refl hc.1⟩
  | busOn => exact ⟨_, own_of_guard run fun hc => busOn_own .refl hc⟩
  | addressClaim t => exact ⟨t, Host.Outcome.next.inj run ▸ addressClaim_own .refl⟩
  | rxTimeout => exact ⟨_, own_of_guard run fun _ => rxTimeout_own .refl⟩
  | _ => exact absurd row Bool.false_ne_true

end Sys2Proof.Machine
end

section
/-!
Frames of five families of rows: beside registers and events they change their own part of the state only, and registers of their own blocks
only.
-/

namespace Sys2Proof.Machine

/-- States whose fields agree are the same. -/
theorem State.eq_of_fields {s t : State} (pending : s.pending = t.pending) (now : s.now = t.now) (devOff : s.devOff = t.devOff)
    (steer : s.steer = t.steer) (regs : s.regs = t.regs) (hiLatch : s.hiLatch = t.hiLatch) (out : s.out = t.out)
    (drawn : s.drawn = t.drawn) (ev : s.ev = t.ev) (pk : s.pk = t.pk) (role : s.role = t.role) (die : s.die = t.die)
    (sets : s.sets = t.sets) (line : s.line = t.line) (load : s.load = t.load) (inp : s.inp = t.inp) (eng : s.eng = t.eng)
    (fus : s.fus = t.fus) (fn : s.fn = t.fn) (nav : s.nav = t.nav) (yld : s.yld = t.yld) (cst : s.cst = t.cst) (clk : s.clk = t.clk)
    (lvl : s.lvl = t.lvl) (dma : s.dma = t.dma) (can : s.can = t.can) (pwr : s.pwr = t.pwr) (upd : s.upd = t.upd) : s = t := by
  cases s
  cases t
  simp only at *
  subst_vars
  rfl

section
variable {b u : State}

theorem load_frame (h : OwnOnly loadFamily b u) : u = { eventsOnly b u with load := u.load } := by
  have same := h.part
  exact State.eq_of_fields h.pending (same .now (by decide)) (same .devOff (by decide)) (same .steer (by decide)) rfl
    (same .hiLatch (by decide)) rfl (same .drawn (by decide)) rfl (same .packets (by decide)) (same .role (by decide))
    (same .die (by decide)) (same .sets (by decide)) (same .line (by decide)) rfl (same .inp (by decide)) (same .eng (by decide))
    (same .fus (by decide)) (same .fn (by decide)) (same .nav (by decide)) (same .yld (by decide)) (same .cst (by decide))
    (same .clk (by decide)) (same .lvl (by decide)) (same .dma (by decide)) (same .can (by decide)) (same .pwr (by decide))
    (same .upd (by decide))

theorem nav_frame (h : OwnOnly navFamily b u) : u = { eventsOnly b u with nav := u.nav, steer := u.steer, drawn := u.drawn } := by
  have same := h.part
  exact State.eq_of_fields h.pending (same .now (by decide)) (same .devOff (by decide)) rfl rfl (same .hiLatch (by decide)) rfl rfl rfl
    (same .packets (by decide)) (same .role (by decide)) (same .die (by decide)) (same .sets (by decide)) (same .line (by decide))
    (same .load (by decide)) (same .inp (by decide)) (same .eng (by decide)) (same .fus (by decide)) (same .fn (by decide)) rfl
    (same .yld (by decide)) (same .cst (by decide)) (same .clk (by decide)) (same .lvl (by decide)) (same .dma (by decide))
    (same .can (by decide)) (same .pwr (by decide)) (same .upd (by decide))

theorem consist_frame (h : OwnOnly consistFamily b u) : u = { eventsOnly b u with cst := u.cst, yld := u.yld, nav := u.nav, drawn := u.drawn } := by
  have same := h.part
  exact State.eq_of_fields h.pending (same .now (by decide)) (same .devOff (by decide)) (same .steer (by decide)) rfl
    (same .hiLatch (by decide)) rfl rfl rfl (same .packets (by decide)) (same .role (by decide)) (same .die (by decide))
    (same .sets (by decide)) (same .line (by decide)) (same .load (by decide)) (same .inp (by decide)) (same .eng (by decide))
    (same .fus (by decide)) (same .fn (by decide)) rfl rfl rfl (same .clk (by decide)) (same .lvl (by decide)) (same .dma (by decide))
    (same .can (by decide)) (same .pwr (by decide)) (same .upd (by decide))

theorem transfer_frame (h : OwnOnly transferFamily b u) : u = { eventsOnly b u with dma := u.dma } := by
  have same := h.part
  exact State.eq_of_fields h.pending (same .now (by decide)) (same .devOff (by decide)) (same .steer (by decide)) rfl
    (same .hiLatch (by decide)) rfl (same .drawn (by decide)) rfl (same .packets (by decide)) (same .role (by decide))
    (same .die (by decide)) (same .sets (by decide)) (same .line (by decide)) (same .load (by decide)) (same .inp (by decide))
    (same .eng (by decide)) (same .fus (by decide)) (same .fn (by decide)) (same .nav (by decide)) (same .yld (by decide))
    (same .cst (by decide)) (same .clk (by decide)) (same .lvl (by decide)) rfl (same .can (by decide)) (same .pwr (by decide))
    (same .upd (by decide))

theorem transmit_frame (h : OwnOnly transmitFamily b u) : u = { eventsOnly b u with
      can := u.can
      pk := { b.pk with sessions := u.pk.sessions, isoRx := u.pk.isoRx, isoTx := u.pk.isoTx, asUntil := u.pk.asUntil } } := by
  have same := h.part
  exact State.eq_of_fields h.pending (same .now (by decide)) (same .devOff (by decide)) (same .steer (by decide)) rfl
    (same .hiLatch (by decide)) rfl (same .drawn (by decide)) rfl h.pk (same .role (by decide)) (same .die (by decide))
    (same .sets (by decide)) (same .line (by decide)) (same .load (by decide)) (same .inp (by decide)) (same .eng (by decide))
    (same .fus (by decide)) (same .fn (by decide)) (same .nav (by decide)) (same .yld (by decide)) (same .cst (by decide))
    (same .clk (by decide)) (same .lvl (by decide)) (same .dma (by decide)) rfl (same .pwr (by decide)) (same .upd (by decide))

end

/-- Settles O59: every function that the rows of a family use keeps the frame of the family (`OwnOnly`), so the rows do. -/
theorem familiesKeepTheRest : Obligations.FamiliesKeepTheRest := by
  intro c s u sound run
  have numbered := numbered_of_sound sound
  refine ⟨fun row => ?_, fun row => ?_, fun row => ?_, fun row => ?_, fun row => ?_⟩
  · obtain ⟨t, own⟩ := loadRow_own row run
    exact ⟨t, load_frame own, own.blocksKept (numbered t)⟩
  · obtain ⟨t, own⟩ := navigationRow_own row run
    exact ⟨t, nav_frame own, own.blocksKept (numbered t)⟩
  · obtain ⟨t, own⟩ := consistRow_own row run
    exact ⟨t, consist_frame own, own.blocksKept (numbered t)⟩
  · obtain ⟨t, own⟩ := transferRow_own row run
    exact ⟨t, transfer_frame own, own.blocksKept (numbered t)⟩
  · obtain ⟨t, own⟩ := transmitRow_own row run
    have frame := transmit_frame own
    rw [begin__pk] at frame
    exact ⟨t, frame, own.blocksKept (numbered t)⟩

end Sys2Proof.Machine
end

section
/-!
What stands under every command: time, the queue, the keys in OTP, and, but for the commands that may change them, what is stored and
the memories. One lemma for each function of the model, from the operations on the state up to the commands.
-/

namespace Sys2Proof.Machine

/-- Which of the rare changes a computation may make: a request may write what is stored, and a completed descriptor moves bytes. -/
structure Latitude where
  request : Bool
  moves : Bool

/-- What a computation leaves standing between two states: time does not run back, and the queue and the keys in OTP are as they were; but
for requests, so are the level keys and the stored limp map; and but for completed descriptors, the memories are as they were or lost
whole. -/
structure Lasts (k : Latitude) (b s : State) : Prop where
  now : b.now ≤ s.now
  pending : s.pending = b.pending
  keys : s.upd.keys = b.upd.keys
  stored : k.request = false →
    s.pk.levelKeys = b.pk.levelKeys ∧ s.load.storedMap = b.load.storedMap ∧ s.load.storedCrc = b.load.storedCrc
  mem : k.moves = false → s.dma.mem = b.dma.mem ∨ s.dma.mem = []

/-- All of a state that Lasts looks at. -/
def State.view (s : State) :=
  (s.now, s.pending, s.upd.keys, s.pk.levelKeys, s.load.storedMap, s.load.storedCrc, s.dma.mem)

section
variable {k : Latitude} {b s t : State}

theorem Lasts.refl : Lasts k s s := ⟨le_rfl, rfl, rfl, fun _ => ⟨rfl, rfl, rfl⟩, fun _ => .inl rfl⟩

/-- What is not looked at may change. -/
theorem Lasts.of_view (h : Lasts k b s) (same : t.view = s.view) : Lasts k b t := by
  simp only [State.view, Prod.mk.injEq] at same
  obtain ⟨now, pending, keys, levelKeys, storedMap, storedCrc, mem⟩ := same
  refine ⟨now ▸ h.now, pending.trans h.pending, keys.trans h.keys, ?_, ?_⟩
  · rw [levelKeys, storedMap, storedCrc]
    exact h.stored
  · rw [mem]
    exact h.mem

theorem Lasts.fst {α : Type} {p : State × α} {a : α} (h : Lasts k b p.1) (e : p = (s, a)) : Lasts k b s := by
  rwa [e] at h

theorem Lasts.snd {α : Type} {p : α × State} {a : α} (h : Lasts k b p.2) (e : p = (a, s)) : Lasts k b s := by
  rwa [e] at h

theorem ite_lasts {c : Prop} [Decidable c] (hs : Lasts k b s) (ht : Lasts k b t) : Lasts k b (if c then s else t) := by
  split
  · exact hs
  · exact ht

theorem ite_fst_lasts {α : Type} {c : Prop} [Decidable c] {p q : State × α} (hp : Lasts k b p.1) (hq : Lasts k b q.1) :
    Lasts k b (if c then p else q).1 := by
  split
  · exact hp
  · exact hq

theorem ite_snd_lasts {α : Type} {c : Prop} [Decidable c] {p q : α × State} (hp : Lasts k b p.2) (hq : Lasts k b q.2) :
    Lasts k b (if c then p else q).2 := by
  split
  · exact hp
  · exact hq

theorem ite_st_lasts {c : Prop} [Decidable c] {p q : Answer} (hp : Lasts k b p.st) (hq : Lasts k b q.st) :
    Lasts k b (if c then p else q).st := by
  split
  · exact hp
  · exact hq

theorem foldOver_lasts {α : Type} {f : State → α → State} {l : List α} (h : Lasts k b s)
    (hf : ∀ s a, Lasts k b s → Lasts k b (f s a)) : Lasts k b (foldOver f s l) :=
  foldOver_preserves (Lasts k b) f hf l s h

/-- An entry of the opcode table carries out its requests so that what stands under requests stands. -/
def RunLasts (k : Latitude) (b : State) (info : OpInfo) : Prop := ∀ p s, Lasts k b s → Lasts k b (info.run p s).st

/-- Every entry of a table of opcodes does. -/
def TableLasts (k : Latitude) (b : State) (tbl : Nat → Option OpInfo) : Prop := ∀ op info, tbl op = some info → RunLasts k b info

theorem OpInfo.run_lasts {info : OpInfo} {p : Request} (h : Lasts k b s) (hi : RunLasts k b info) : Lasts k b (info.run p s).st := hi p s h

/-! ### Parts of the state change -/

theorem ev_lasts (h : Lasts k b s) {x : EventPart} : Lasts k b { s with ev := x } := .of_view h rfl

theorem role_lasts (h : Lasts k b s) {x : RolePart} : Lasts k b { s with role := x } := .of_view h rfl

theorem die_lasts (h : Lasts k b s) {x : DiePart} : Lasts k b { s with die := x } := .of_view h rfl

theorem sets_lasts (h : Lasts k b s) {x : SetPart} : Lasts k b { s with sets := x } := .of_view h rfl

theorem line_lasts (h : Lasts k b s) {x : LinePart} : Lasts k b { s with line := x } := .of_view h rfl

theorem eng_lasts (h : Lasts k b s) {x : EnginePart} : Lasts k b { s with eng := x } := .of_view h rfl

theorem fus_lasts (h : Lasts k b s) {x : FusionPart} : Lasts k b { s with fus := x } := .of_view h rfl

theorem fn_lasts (h : Lasts k b s) {x : SettingPart} : Lasts k b { s with fn := x } := .of_view h rfl

theorem nav_lasts (h : Lasts k b s) {x : NavPart} : Lasts k b { s with nav := x } := .of_view h rfl

theorem yld_lasts (h : Lasts k b s) {x : YieldPart} : Lasts k b { s with yld := x } := .of_view h rfl

theorem clk_lasts (h : Lasts k b s) {x : ClockPart} : Lasts k b { s with clk := x } := .of_view h rfl

theorem lvl_lasts (h : Lasts k b s) {x : LevelPart} : Lasts k b { s with lvl := x } := .of_view h rfl

theorem can_lasts (h : Lasts k b s) {x : CanPart} : Lasts k b { s with can := x } := .of_view h rfl

theorem pwr_lasts (h : Lasts k b s) {x : PowerPart} : Lasts k b { s with pwr := x } := .of_view h rfl

theorem steer_lasts (h : Lasts k b s) {x : Option Steer} : Lasts k b { s with steer := x } := .of_view h rfl

theorem drawn_lasts (h : Lasts k b s) {x : Nat} : Lasts k b { s with drawn := x } := .of_view h rfl

theorem pk_lasts (h : Lasts k b s) {x : PacketPart} (keys : x.levelKeys = s.pk.levelKeys) : Lasts k b { s with pk := x } :=
  .of_view h (by simp only [State.view, keys])

theorem load_lasts (h : Lasts k b s) {x : LoadPart} (map : x.storedMap = s.load.storedMap)
    (crc : x.storedCrc = s.load.storedCrc) : Lasts k b { s with load := x } := .of_view h (by simp only [State.view, map, crc])

/-! ### Operations on the state -/

theorem steerOn_lasts (h : Lasts k b s) : Lasts k b (steerOn s) := by
  unfold steerOn
  split
  · exact h
  · exact .of_view h rfl

theorem beginSteer_lasts {off : Int} {dur : Nat} (h : Lasts k b s) : Lasts k b (beginSteer off dur s) := .of_view h rfl

theorem stepTime_lasts {off : Int} (h : Lasts k b s) : Lasts k b (stepTime off s) := .of_view h rfl

theorem begin_lasts {t : Nat} (h : Lasts k b s) : Lasts k b (begin_ t s) := steerOn_lasts { h with now := h.now.trans (le_max_left _ _) }

theorem emit_lasts {e : Emit} (h : Lasts k b s) : Lasts k b (emit e s) := .of_view h rfl

theorem gather_lasts {h' : Nat} {v : Int} (h : Lasts k b s) : Lasts k b (gather h' v s) := .of_view h rfl

theorem State.setReg_lasts {a v : Nat} (h : Lasts k b s) : Lasts k b (State.setReg s a v) := .of_view h rfl

theorem State.put_lasts {f : Fld} {v : Nat} (h : Lasts k b s) : Lasts k b (State.put s f v) := State.setReg_lasts h

theorem State.puts_lasts {f : Fld} {v : Int} (h : Lasts k b s) : Lasts k b (State.puts s f v) := State.put_lasts h

theorem State.bump_lasts {f : Fld} {n : Nat} (h : Lasts k b s) : Lasts k b (State.bump s f n) := State.put_lasts h

theorem State.wrapUp_lasts {f : Fld} {n : Nat} (h : Lasts k b s) : Lasts k b (State.wrapUp s f n) := State.put_lasts h

theorem State.putBit_lasts {f : Fld} {i : Nat} {b' : Bool} (h : Lasts k b s) : Lasts k b (State.putBit s f i b') := State.put_lasts h

theorem State.put64_lasts {lo hi v : Nat} (h : Lasts k b s) : Lasts k b (State.put64 s lo hi v) := State.setReg_lasts (State.setReg_lasts h)

theorem passRing_lasts {n : Nat} (h : Lasts k b s) : Lasts k b (passRing n s) := State.wrapUp_lasts (State.wrapUp_lasts h)

theorem deliver_lasts {r : EventRecord} (h : Lasts k b s) : Lasts k b (deliver r s).1 := by
  unfold deliver
  split
  · exact foldOver_lasts (passRing_lasts (.of_view h rfl)) (fun _ _ h' => State.bump_lasts h')

theorem routeEvent_lasts {r : EventRecord} (h : Lasts k b s) : Lasts k b (routeEvent r s).1 := by
  unfold routeEvent
  split
  · exact deliver_lasts h
  · split
    · split
      · exact ite_lasts (State.bump_lasts (.of_view h rfl)) (.of_view h rfl)
    · exact h

theorem setFlag_lasts {src : Nat} (h : Lasts k b s) : Lasts k b (setFlag src s) := by
  unfold setFlag
  split
  · exact h
  · exact State.put_lasts h

theorem triggerOrders_lasts {src : Nat} (h : Lasts k b s) : Lasts k b (triggerOrders src s) := ite_lasts (.of_view h rfl) h

theorem raiseOnce_lasts {src detail arg : Nat} (h : Lasts k b s) : Lasts k b (raiseOnce src detail arg s).1 :=
  routeEvent_lasts (triggerOrders_lasts (setFlag_lasts h))

theorem raiseArg_lasts {src detail arg : Nat} (h : Lasts k b s) : Lasts k b (raiseArg src detail arg s) := by
  unfold raiseArg
  split
  next _ _ _ x4 => exact ite_lasts (Lasts.fst (raiseOnce_lasts h) x4) (raiseOnce_lasts (Lasts.fst (raiseOnce_lasts h) x4))

theorem raise_lasts {src detail : Nat} (h : Lasts k b s) : Lasts k b (raise src detail s) := raiseArg_lasts h

theorem raise0_lasts {src : Nat} (h : Lasts k b s) : Lasts k b (raise0 src s) := raiseArg_lasts h

theorem writeFault_lasts {f : FaultRec} (h : Lasts k b s) : Lasts k b (writeFault f s) := by
  unfold writeFault
  split
  · exact ite_lasts (ev_lasts h) (ite_lasts (raise0_lasts (ev_lasts h)) (ev_lasts h))
  · exact ite_lasts (raise0_lasts (ev_lasts h)) (ev_lasts h)

theorem fault_lasts {type cls source detail a0 a1 a2 : Nat} (h : Lasts k b s) :
    Lasts k b (fault type cls source detail a0 a1 a2 s) := ite_lasts (writeFault_lasts h) (.of_view h rfl)

theorem flushFaults_lasts (h : Lasts k b s) : Lasts k b (flushFaults s) :=
  foldOver_lasts (.of_view h rfl) (fun _ _ h' => writeFault_lasts h')

theorem retire_lasts {kind cause index unit : Nat} (h : Lasts k b s) : Lasts k b (retire kind cause index unit s) :=
  ite_lasts (raise0_lasts (.of_view h rfl)) (fault_lasts (raise0_lasts (State.put_lasts (.of_view h rfl))))

theorem unretire_lasts {kind index src : Nat} (h : Lasts k b s) : Lasts k b (unretire kind index src s) := fault_lasts (.of_view h rfl)

/-! ### Units of data streams -/

theorem modData_lasts {n : Nat} {f : DataStream → DataStream} (h : Lasts k b s) : Lasts k b (modData n f s) := .of_view h rfl

theorem unitLost_lasts {n : Nat} (h : Lasts k b s) : Lasts k b (unitLost n s) := State.bump_lasts (modData_lasts h)

theorem unitFor_lasts {unit stamp : Nat} {make : DataStream → Bytes} {n : Nat} (h : Lasts k b s) :
    Lasts k b (unitFor unit stamp make s n) :=
  ite_lasts (modData_lasts h) (ite_lasts (unitLost_lasts (modData_lasts h)) (modData_lasts (modData_lasts h)))

theorem unitArrives_lasts {slot source stamp : Nat} {make : DataStream → Bytes} (h : Lasts k b s) :
    Lasts k b (unitArrives slot source stamp make s) := foldOver_lasts (.of_view h rfl) (fun _ _ h' => unitFor_lasts h')

theorem closeData_lasts {n : Nat} (h : Lasts k b s) : Lasts k b (closeData n s) := State.put_lasts (modData_lasts h)

theorem closeDataOf_lasts {p : Nat → Bool} (h : Lasts k b s) : Lasts k b (closeDataOf p s) :=
  foldOver_lasts h (fun _ _ h' => closeData_lasts h')

theorem closeDataOfSlot_lasts {slot : Nat} (h : Lasts k b s) : Lasts k b (closeDataOfSlot slot s) := closeDataOf_lasts h

theorem closeDataOfSession_lasts {num : Nat} (h : Lasts k b s) : Lasts k b (closeDataOfSession num s) := closeDataOf_lasts h

/-! ### Frames that the controllers send -/

theorem modControl_lasts {n : Nat} {f : CanControl → CanControl} (h : Lasts k b s) : Lasts k b (modControl n f s) := .of_view h rfl

theorem modBuffer_lasts {n k' : Nat} {f : TxBuffer → TxBuffer} (h : Lasts k b s) : Lasts k b (modBuffer n k' f s) := modControl_lasts h

theorem loadBuffer_lasts {n k' src : Nat} {f : CanFrame} (h : Lasts k b s) : Lasts k b (loadBuffer n k' src f s) :=
  State.put_lasts (State.put_lasts (State.put_lasts (modBuffer_lasts h)))

theorem sendFirmware_lasts {n : Nat} {f : CanFrame} (h : Lasts k b s) : Lasts k b (sendFirmware n f s) :=
  ite_lasts (modControl_lasts h) (loadBuffer_lasts h)

theorem nextFirmware_lasts {n : Nat} (h : Lasts k b s) : Lasts k b (nextFirmware n s) := by
  unfold nextFirmware
  split
  · exact h
  · exact ite_lasts h (loadBuffer_lasts (modControl_lasts h))

theorem sendSegment_lasts {f : CanFrame} (h : Lasts k b s) : Lasts k b (sendSegment f s) := sendFirmware_lasts (.of_view h rfl)

theorem startTransfer_lasts {dest : Nat} {bs : Bytes} (h : Lasts k b s) : Lasts k b (startTransfer dest bs s) :=
  ite_lasts (sendSegment_lasts h) (ite_lasts (sendSegment_lasts h) (.of_view (sendSegment_lasts h) rfl))

theorem sendService_lasts {dest : Nat} {bs : Bytes} (h : Lasts k b s) : Lasts k b (sendService dest bs s) :=
  ite_lasts (.of_view h rfl) (startTransfer_lasts h)

theorem nextTransfers_lasts : ∀ {l : List (Nat × Bytes)} {s : State}, Lasts k b s → Lasts k b (nextTransfers l s)
  | [], _, h => .of_view h rfl
  | p :: l, s, h => by
    unfold nextTransfers
    exact ite_lasts (.of_view h rfl) (nextTransfers_lasts (startTransfer_lasts h))

theorem endTransfer_lasts (h : Lasts k b s) : Lasts k b (endTransfer s) := nextTransfers_lasts (.of_view h rfl)

theorem flowControl_lasts {from_ status bs : Nat} (h : Lasts k b s) : Lasts k b (flowControl from_ status bs s) := by
  unfold flowControl
  split
  · exact h
  · exact ite_lasts h (ite_lasts (ite_lasts (endTransfer_lasts (foldOver_lasts h (fun _ _ h' => sendSegment_lasts h')))
    (.of_view (foldOver_lasts h (fun _ _ h' => sendSegment_lasts h')) rfl)) (ite_lasts (.of_view h rfl) (endTransfer_lasts h)))

theorem takeSegment_lasts {from_ : Nat} {d : Bytes} (h : Lasts k b s) : Lasts k b (takeSegment from_ d s).1 := by
  unfold takeSegment
  dsimp only
  split
  · exact ite_fst_lasts h (.of_view h rfl)
  · split
    · exact ite_fst_lasts h (.of_view (sendSegment_lasts h) rfl)
    · split
      · split
        · exact h
        · exact ite_fst_lasts h (ite_fst_lasts (.of_view h rfl) (ite_fst_lasts (.of_view h rfl) (.of_view h rfl)))
      · exact ite_fst_lasts (flowControl_lasts h) h

theorem asTimeout_lasts (h : Lasts k b s) : Lasts k b (asTimeout s) := by
  unfold asTimeout
  split
  · exact h
  · exact ite_lasts h (endTransfer_lasts (State.put_lasts (.of_view (modBuffer_lasts (modControl_lasts h)) rfl)))

theorem segmentSent_lasts {f : CanFrame} (h : Lasts k b s) : Lasts k b (segmentSent f s) := .of_view h rfl

theorem restartAs_lasts (h : Lasts k b s) : Lasts k b (restartAs s) := .of_view h rfl

theorem isoTimeout_lasts (h : Lasts k b s) : Lasts k b (isoTimeout s) := by
  have quiet := asTimeout_lasts h
  unfold isoTimeout
  generalize asTimeout s = u at quiet ⊢
  dsimp only
  cases u.pk.isoRx with
  | none =>
    dsimp only
    split
    · exact ite_lasts (endTransfer_lasts quiet) quiet
    · exact quiet
  | some x =>
    have dropped : Lasts k b (if due x.deadline u then { u with pk := { u.pk with isoRx := none } } else u) := ite_lasts
        (pk_lasts quiet rfl) quiet
    dsimp only
    split
    · exact ite_lasts (endTransfer_lasts dropped) dropped
    · exact dropped

/-! ### The sets -/

theorem yardTakesSet_lasts (h : Lasts k b s) : Lasts k b (yardTakesSet s) := by
  unfold yardTakesSet
  split
  · exact h
  · exact .of_view h rfl

end

end Sys2Proof.Machine
end

section
/-!
SUPPORT for O60. What stands under requests and their replies.
-/

namespace Sys2Proof.Machine

section
variable {k : Latitude} {b s t : State}

/-! ### Requests -/

theorem ok_lasts {r : Bytes} (h : Lasts k b s) : Lasts k b (ok s r).st := h

theorem refuse_lasts {status : Nat} (h : Lasts k b s) : Lasts k b (refuse s status).st := h

theorem putSession_lasts {x : Session} (h : Lasts k b s) : Lasts k b (putSession x s) := .of_view h rfl

theorem modSession_lasts {n : Nat} {f : Session → Session} (h : Lasts k b s) : Lasts k b (modSession n f s) := by
  unfold modSession
  split
  · exact h
  · exact putSession_lasts h

theorem clearDelivery_lasts {n : Nat} (h : Lasts k b s) : Lasts k b (clearDelivery n s) :=
  State.setReg_lasts (State.setReg_lasts (foldOver_lasts h (fun _ _ h' => State.setReg_lasts h')))

theorem endSession_lasts {n : Nat} (h : Lasts k b s) : Lasts k b (endSession n s) :=
  closeDataOfSession_lasts (clearDelivery_lasts (.of_view h rfl))

theorem startEntry_lasts {entry : Nat} (h : Lasts k b s) : Lasts k b (startEntry entry s) := ite_lasts (.of_view h rfl) h

theorem noteEntryServed_lasts {entry : Nat} (h : Lasts k b s) : Lasts k b (noteEntryServed entry s) := .of_view h rfl

theorem offerQueue_lasts {x : Slot} {bs : Bytes} {u : State} (h : Lasts k b s) (hu : offerQueue x bs s = some u) : Lasts k b u := by
  simp only [offerQueue, Option.ite_none_right_eq_some, Option.some.injEq] at hu
  obtain ⟨-, rfl⟩ := hu
  exact .of_view (startEntry_lasts h) rfl

theorem offerReserved_lasts {x : Slot} {bs : Bytes} (h : Lasts k b s) : Lasts k b (offerReserved x bs s) :=
  .of_view (startEntry_lasts h) rfl

theorem offerBe_lasts {type dest : Nat} {payload : Bytes} (h : Lasts k b s) : Lasts k b (offerBe type dest payload s) := .of_view h rfl

theorem offerBePacket_lasts {dest : Nat} {bs : Bytes} (h : Lasts k b s) : Lasts k b (offerBePacket dest bs s) :=
  foldOver_lasts (.of_view h rfl) (fun _ _ h' => offerBe_lasts h')

theorem offerBeReserved_lasts {dest : Nat} {bs : Bytes} (h : Lasts k b s) : Lasts k b (offerBeReserved dest bs s) := .of_view h rfl

theorem replyOverLine_lasts {r : Reply} (h : Lasts k b s) : Lasts k b (replyOverLine r s) := by
  unfold replyOverLine
  split
  · exact ite_lasts (offerBePacket_lasts h) (.of_view h rfl)
  next _ _ x3 =>
    split
    next _ _ x3 => exact offerQueue_lasts h x3
    · exact .of_view h rfl

theorem transmit_lasts {dest : Transport} {r : Reply} (h : Lasts k b s) : Lasts k b (transmit dest r s) := by
  unfold transmit
  split
  · exact emit_lasts (replyOverLine_lasts h)
  · exact emit_lasts (ite_lasts (sendService_lasts h) (.of_view h rfl))
  · exact emit_lasts h

theorem sendPacket_lasts {dest : Transport} {r : Reply} (h : Lasts k b s) : Lasts k b (sendPacket dest r s) :=
  transmit_lasts (.of_view h rfl)

theorem joinWaiting_lasts {w : Waiting} {quiet : Bool} (h : Lasts k b s) : Lasts k b (joinWaiting w quiet s) :=
  ite_lasts (.of_view h rfl) (sendPacket_lasts (.of_view h rfl))

theorem addWaiting_lasts {op : Nat} {p : Request} {j : Job} {quiet : Bool} (h : Lasts k b s) :
    Lasts k b (addWaiting op p j quiet s) := joinWaiting_lasts h

theorem packetLeft_lasts {entry : Nat} {frag : Bytes} (h : Lasts k b s) : Lasts k b (packetLeft entry frag s) :=
  ite_lasts h (.of_view h rfl)

theorem dropWaiting_lasts {session seq : Nat} (h : Lasts k b s) : Lasts k b (dropWaiting session seq s) := .of_view h rfl

theorem noteRecord_lasts {op : Nat} {p : Request} {r : ReqRecord} (h : Lasts k b s) : Lasts k b (noteRecord op p r s) :=
  ite_lasts h (modSession_lasts h)

theorem finishAs_lasts {eff reserved : Bool} {op : Nat} {p : Request} {origin status retry : Nat} {result : Bytes}
    (h : Lasts k b s) : Lasts k b (finishAs eff reserved op p origin status retry result s) :=
  ite_lasts (addWaiting_lasts (noteRecord_lasts h)) (sendPacket_lasts (noteRecord_lasts h))

theorem finish_lasts {reserved : Bool} {op : Nat} {p : Request} {origin status retry : Nat} {result : Bytes} (h : Lasts k b s) :
    Lasts k b (finish reserved op p origin status retry result s) := finishAs_lasts h

theorem answerNow_lasts {op : Nat} {p : Request} {status retry : Nat} (h : Lasts k b s) :
    Lasts k b (answerNow op p status retry s) := sendPacket_lasts h

theorem holdOff_lasts {op : Nat} {p : Request} {status retry : Nat} (h : Lasts k b s) : Lasts k b
    (holdOff op p status retry s) := ite_lasts h (.of_view h rfl)

theorem answerNotTerminus_lasts {op : Nat} {p : Request} (h : Lasts k b s) : Lasts k b (answerNotTerminus op p s) :=
  answerNow_lasts (holdOff_lasts h)

theorem takeReserved_lasts {op : Nat} {p : Request} (h : Lasts k b s) : Lasts k b (takeReserved op p s).2 :=
  ite_snd_lasts h (ite_snd_lasts (.of_view h rfl) h)

theorem concludeRun_lasts {reserved quiet : Bool} {op : Nat} {p : Request} {a : Answer} (h : Lasts k b a.st) :
    Lasts k b (concludeRun reserved quiet op p a) := by
  unfold concludeRun
  split
  · exact joinWaiting_lasts (modSession_lasts h)
  · refine ite_lasts ?_ (finishAs_lasts (holdOff_lasts h))
    exact ite_lasts (addWaiting_lasts (endSession_lasts (holdOff_lasts h))) (sendPacket_lasts (endSession_lasts (holdOff_lasts h)))

theorem queueFull_lasts {op : Nat} {p : Request} {mean : Nat} (h : Lasts k b s) : Lasts k b (queueFull op p mean s) :=
  finish_lasts (holdOff_lasts h)

theorem queueHere_lasts {info : OpInfo} {reserved : Bool} {p : Request} (h : Lasts k b s) :
    Lasts k b (queueHere info reserved p s) := joinWaiting_lasts (modSession_lasts h)

theorem executeHere_lasts {info : OpInfo} {reserved : Bool} {p : Request} (h : Lasts k b s) (hi : RunLasts k b info) :
    Lasts k b (executeHere info reserved p s) :=
  ite_lasts (finish_lasts (holdOff_lasts h)) (ite_lasts (queueHere_lasts h) (concludeRun_lasts
    (OpInfo.run_lasts h hi)))

theorem offerToModule_lasts {m : Member} {reserved : Bool} {bs : Bytes} {u : State} {e i : Nat} (h : Lasts k b s)
    (hu : offerToModule m reserved bs s = some (u, e, i)) : Lasts k b u := by
  unfold offerToModule at hu
  split at hu
  next x _ =>
    split at hu
    · simp only [Option.some.injEq, Prod.mk.injEq] at hu
      exact hu.1 ▸ offerReserved_lasts h
    · simp only [Option.map_eq_some_iff, Prod.mk.injEq] at hu
      obtain ⟨v, offered, rfl, -⟩ := hu
      exact offerQueue_lasts h offered
  next =>
    split at hu
    · simp only [Option.some.injEq, Prod.mk.injEq] at hu
      exact hu.1 ▸ offerBeReserved_lasts h
    · simp only [Option.ite_none_right_eq_some, Option.some.injEq, Prod.mk.injEq] at hu
      exact hu.2.1 ▸ offerBePacket_lasts h

theorem forwardTo_lasts {info : OpInfo} {n : Nat} {reserved : Bool} {p : Request} (h : Lasts k b s) :
    Lasts k b (forwardTo info n reserved p s) := by
  unfold forwardTo
  dsimp only
  split
  · exact finish_lasts h
  · split
    · exact finish_lasts h
    · split
      · exact queueFull_lasts h
      next _ _ _ _ x5 => exact joinWaiting_lasts (noteRecord_lasts (offerToModule_lasts h x5))

theorem offerBroadcast_lasts {ms_ : List Member} {bs : Bytes} (h : Lasts k b s) : Lasts k b (offerBroadcast ms_ bs s).1 := by
  have offered : ∀ acc : State × List (Nat × Nat × List Nat) × List Nat, Lasts k b acc.1 → ∀ (x : Slot) (nums : List Nat),
      Lasts k b (match offerQueue x bs acc.1 with
        | some u => (u, acc.2.1 ++ [(x.entry, pktIdOf acc.1 x.entry, nums)], acc.2.2)
        | none => (acc.1, acc.2.1, acc.2.2 ++ nums)).1 := by
    intro acc hacc x nums
    split
    next u taken => exact offerQueue_lasts hacc taken
    · exact hacc
  unfold offerBroadcast
  refine foldOver_preserves (fun acc : State × List (Nat × Nat × List Nat) × List Nat => Lasts k b acc.1) _ (fun acc m hacc => ?_) _ _
    (foldOver_preserves (fun acc : State × List (Nat × Nat × List Nat) × List Nat => Lasts k b acc.1) _
      (fun acc x hacc => offered acc hacc x _) _ _ h)
  exact ite_fst_lasts (ite_fst_lasts (offerBePacket_lasts hacc) hacc) hacc

theorem broadcastAll_lasts {info : OpInfo} {served : Bool} {p : Request} (h : Lasts k b s) (hi : RunLasts k b info) :
    Lasts k b (broadcastAll info served p s) := by
  have ran : Lasts k b (if info.needsSignal p && signalLost s then refuse s St.signalDown else info.run p s).st :=
    ite_st_lasts (refuse_lasts h) (OpInfo.run_lasts h hi)
  unfold broadcastAll
  dsimp only
  split
  · exact queueHere_lasts h
  · generalize (if info.needsSignal p && signalLost s then refuse s St.signalDown else info.run p s) = a at ran ⊢
    have sent := offerBroadcast_lasts ran (ms_ := a.st.line.members.filter fun m => packetsReach m && m.num != joinNum a.st)
      (bs := forwardBytes a.st info.code p)
    exact ite_lasts (finish_lasts sent) (joinWaiting_lasts (modSession_lasts sent))

theorem admitAt_lasts {info : OpInfo} {place : Place} {p : Request} (h : Lasts k b s) (hi : RunLasts k b info) :
    Lasts k b (admitAt info place p s) := by
  unfold admitAt
  split
  next _ _ _ x4 =>
    split
    · exact queueFull_lasts (Lasts.snd (takeReserved_lasts h) x4)
    · split
      · exact executeHere_lasts (Lasts.snd (takeReserved_lasts h) x4) hi
      · exact forwardTo_lasts (Lasts.snd (takeReserved_lasts h) x4)
      · exact broadcastAll_lasts (Lasts.snd (takeReserved_lasts h) x4) hi
      · exact finish_lasts (Lasts.snd (takeReserved_lasts h) x4)

theorem admitAndExecute_lasts {tbl : Nat → Option OpInfo} {op : Nat} {p : Request} (h : Lasts k b s) (ht : TableLasts k b tbl) :
    Lasts k b (admitAndExecute tbl op p s) := by
  unfold admitAndExecute
  split
  · exact finish_lasts h
  · split
    · exact finish_lasts h
    next _ _ x3 =>
      split
      · exact finish_lasts h
      · split
        · exact finish_lasts h
        · exact ite_lasts (admitAt_lasts h (ht _ _ x3)) (finish_lasts h)

theorem examineSequence_lasts {tbl : Nat → Option OpInfo} {op : Nat} {p : Request} {x : Session} (h : Lasts k b s)
    (ht : TableLasts k b tbl) : Lasts k b (examineSequence tbl op p x s) := by
  unfold examineSequence
  dsimp only
  split
  · exact admitAndExecute_lasts (putSession_lasts h) ht
  · split
    · exact admitAndExecute_lasts (putSession_lasts h) ht
    · split
      · split
        · exact answerNow_lasts h
        · exact ite_lasts (answerNow_lasts h) (ite_lasts (ite_lasts (admitAndExecute_lasts h ht) (sendPacket_lasts h))
          (sendPacket_lasts h))
      · exact answerNow_lasts h

theorem examineSession_lasts {tbl : Nat → Option OpInfo} {op : Nat} {p : Request} (h : Lasts k b s) (ht : TableLasts k b tbl) :
    Lasts k b (examineSession tbl op p s) := by
  unfold examineSession
  split
  · split
    · exact examineSequence_lasts h ht
    · exact ite_lasts (admitAndExecute_lasts (putSession_lasts h) ht) (answerNow_lasts h)
  · split
    · exact answerNow_lasts h
    · exact ite_lasts (answerNow_lasts h) (ite_lasts (.of_view h rfl) (ite_lasts (answerNotTerminus_lasts h) (ite_lasts
      (answerNow_lasts h) (examineSequence_lasts (putSession_lasts h) ht))))

theorem answerOpen_lasts {info : OpInfo} {p : Request} (h : Lasts k b s) (hi : RunLasts k b info) :
    Lasts k b (answerOpen info p s) := by
  unfold answerOpen
  dsimp only
  split
  · exact ite_lasts (addWaiting_lasts h) (sendPacket_lasts h)
  · exact ite_lasts (addWaiting_lasts (holdOff_lasts (OpInfo.run_lasts h hi))) (sendPacket_lasts (holdOff_lasts
    (OpInfo.run_lasts h hi)))

theorem openHere_lasts {info : OpInfo} {p : Request} (h : Lasts k b s) (hi : RunLasts k b info) :
    Lasts k b (openHere info p s) :=
  ite_lasts (ite_lasts (answerNow_lasts h) (putSession_lasts (endSession_lasts h))) (ite_lasts (answerNow_lasts
    (holdOff_lasts h)) (ite_lasts (joinWaiting_lasts h) (answerOpen_lasts h hi)))

theorem openRequest_lasts {tbl : Nat → Option OpInfo} {op : Nat} {p : Request} (h : Lasts k b s) (ht : TableLasts k b tbl) :
    Lasts k b (match tbl op with
      | none => s
      | some info =>
        if isRelief s && !forwardedIn p && decide (1 ≤ p.session.toNat) && decide (p.session.toNat ≤ 12) then answerNotTerminus op p s
        else
        match placeOf s op info.bcast p with
        | .refused st => if st = St.notTerminus then answerNotTerminus op p s else answerNow op p st 0 s
        | .module n =>
          if op = 0x0002 then answerNow op p St.badTarget 0 s
          else if info.lenOk p.params then forwardTo info n false p s
          else answerNow op p St.badLength 0 s
        | .all => answerNow op p St.noBroadcast 0 s
        | .here => if !info.lenOk p.params then answerNow op p St.badLength 0 s else openHere info p s) := by
  split
  · exact h
  next info found =>
    refine ite_lasts (answerNotTerminus_lasts h) ?_
    split
    · exact ite_lasts (answerNotTerminus_lasts h) (answerNow_lasts h)
    · exact ite_lasts (answerNow_lasts h) (ite_lasts (forwardTo_lasts h) (answerNow_lasts h))
    · exact answerNow_lasts h
    · exact ite_lasts (answerNow_lasts h) (openHere_lasts h (ht _ _ found))

theorem acceptPacket_lasts {tbl : Nat → Option OpInfo} {op : Nat} {p : Request} (h : Lasts k b s) (ht : TableLasts k b tbl) :
    Lasts k b (acceptPacket tbl op p s) := by
  have counted : Lasts k b { s with pk := { s.pk with received := (s.pk.received + 1) % 4294967296 } } := pk_lasts h rfl
  unfold acceptPacket
  refine ite_lasts h ?_
  generalize ({ s with pk := { s.pk with received := (s.pk.received + 1) % 4294967296 } } : State) = v at counted ⊢
  exact ite_lasts (pk_lasts counted rfl) (ite_lasts (pk_lasts counted rfl) (ite_lasts (pk_lasts counted rfl) (ite_lasts counted (ite_lasts
    (answerNow_lasts counted) (ite_lasts (openRequest_lasts counted ht) (examineSession_lasts counted ht))))))

theorem keepInterim_lasts {w : Waiting} (h : Lasts k b s) : Lasts k b (keepInterim w s) := .of_view h rfl

theorem serveOne_lasts {tbl : Nat → Option OpInfo} {w : Waiting} (h : Lasts k b s) (ht : TableLasts k b tbl) :
    Lasts k b (serveOne tbl w s) := by
  have served {x : PacketPart} (keys : x.levelKeys = (dropWaiting w.req.session.toNat w.req.sequence.toNat s).pk.levelKeys) :
      Lasts k b { dropWaiting w.req.session.toNat w.req.sequence.toNat s with pk := x } := pk_lasts (dropWaiting_lasts h) keys
  unfold serveOne
  dsimp only
  split
  · exact served rfl
  next info found =>
    refine ite_lasts (answerOpen_lasts (served rfl) (ht _ _ found)) (keepInterim_lasts (ite_lasts ?_ (concludeRun_lasts ?_)))
    · exact broadcastAll_lasts (served rfl) (ht _ _ found)
    · exact OpInfo.run_lasts (served rfl) (ht _ _ found)

theorem completeWaiting_lasts {w : Waiting} {origin status retry : Nat} {result : Bytes} (h : Lasts k b s) :
    Lasts k b (completeWaiting w origin status retry result s) :=
  ite_lasts (dropWaiting_lasts h) (finish_lasts (holdOff_lasts (dropWaiting_lasts h)))

theorem completeAll_lasts {p : Waiting → Bool} {status retry : Nat} (h : Lasts k b s) :
    Lasts k b (completeAll p status retry s) := foldOver_lasts h (fun _ _ h' => completeWaiting_lasts h')

theorem noteBroadcast_lasts {w : Waiting} {waiting : List (Nat × Option Nat)} {entries : List (Nat × Nat × Nat)}
    {n admitted status : Nat} (h : Lasts k b s) : Lasts k b (noteBroadcast w waiting entries n admitted status s) :=
  ite_lasts (completeWaiting_lasts h) (.of_view h rfl)

theorem completeOwn_lasts {op : Nat} {isJob : Job → Bool} {status retry : Nat} {result : Bytes} (h : Lasts k b s) :
    Lasts k b (completeOwn op isJob status retry result s) := by
  unfold completeOwn
  split
  · exact h
  · split
    · exact noteBroadcast_lasts h
    · exact completeWaiting_lasts h

theorem noteVerified_lasts {n status : Nat} {w : Waiting} (h : Lasts k b s) : Lasts k b (noteVerified n status w s) :=
  ite_lasts (.of_view h rfl) h

theorem noteDiag_lasts {n status : Nat} {result : Bytes} {w : Waiting} (h : Lasts k b s) :
    Lasts k b (noteDiag n status result w s) := by
  unfold noteDiag
  split
  · exact .of_view h rfl
  · split
    · exact .of_view h rfl
    · split
      · split
        · exact ite_lasts (.of_view h rfl) h
        · exact h
      · exact h

theorem takeForwardedReply_lasts {n : Nat} {r : Reply} (h : Lasts k b s) : Lasts k b (takeForwardedReply n r s) := by
  unfold takeForwardedReply
  split
  · exact h
  · split
    · exact ite_lasts h (ite_lasts (ite_lasts (.of_view h rfl) (sendPacket_lasts (.of_view h rfl))) (ite_lasts
      (noteDiag_lasts (noteVerified_lasts (dropWaiting_lasts h))) (ite_lasts (addWaiting_lasts (holdOff_lasts
      (noteRecord_lasts (noteDiag_lasts (noteVerified_lasts (dropWaiting_lasts h)))))) (sendPacket_lasts (holdOff_lasts
      (noteRecord_lasts (noteDiag_lasts (noteVerified_lasts (dropWaiting_lasts h)))))))))
    · exact ite_lasts h (ite_lasts (.of_view h rfl) (noteBroadcast_lasts (noteVerified_lasts h)))
    · exact h

theorem forwardTimedOut_lasts {w : Waiting} (h : Lasts k b s) : Lasts k b (forwardTimedOut w s) := by
  unfold forwardTimedOut
  split
  · exact ite_lasts h (completeWaiting_lasts (ite_lasts (.of_view h rfl) h))
  · exact ite_lasts h (ite_lasts (completeWaiting_lasts h) (.of_view h rfl))
  · exact h

theorem forwardTimeouts_lasts (h : Lasts k b s) : Lasts k b (forwardTimeouts s) := foldOver_lasts h (fun _ _ h' => forwardTimedOut_lasts h')

end

end Sys2Proof.Machine
end

section
/-!
SUPPORT for O60. What stands under load channels, loops and sets.
-/

namespace Sys2Proof.Machine

section
variable {k : Latitude} {b s t : State}

/-! ### Loads -/

theorem modChan_lasts {c : Nat} {f : ChannelPart → ChannelPart} (h : Lasts k b s) : Lasts k b (modChan c f s) := .of_view h rfl

theorem raiseCh_lasts {src c : Nat} (h : Lasts k b s) : Lasts k b (raiseCh src c s) := raise_lasts (State.put_lasts h)

theorem startPeriod_lasts {c : Nat} (h : Lasts k b s) : Lasts k b (startPeriod c s) := ite_lasts h (modChan_lasts h)

theorem judgeAnew_lasts {before : State} {c : Nat} (h : Lasts k b s) : Lasts k b (judgeAnew before c s) := ite_lasts (modChan_lasts h) h

theorem startInrush_lasts {c : Nat} (h : Lasts k b s) : Lasts k b (startInrush c s) := ite_lasts h (State.put_lasts (modChan_lasts h))

theorem outputOff_lasts {c : Nat} (h : Lasts k b s) : Lasts k b (outputOff c s) := State.put_lasts (modChan_lasts h)

theorem refreshBlocked_lasts {n : Nat} (h : Lasts k b s) : Lasts k b (refreshBlocked s n) :=
  ite_lasts (ite_lasts h (raise_lasts (State.put_lasts h))) (State.put_lasts h)

theorem refreshSinks_lasts (h : Lasts k b s) : Lasts k b (refreshSinks s) := foldOver_lasts h (fun _ _ h' => refreshBlocked_lasts h')

theorem logUnclassified_lasts {c why : Nat} (h : Lasts k b s) : Lasts k b (logUnclassified c why s) := fault_lasts h

theorem latchChannel_lasts {c cause : Nat} (h : Lasts k b s) : Lasts k b (latchChannel c cause s) :=
  refreshSinks_lasts (ite_lasts (State.put_lasts (modChan_lasts (State.bump_lasts (State.put_lasts
    (outputOff_lasts h))))) (ite_lasts (raiseCh_lasts (fault_lasts (retire_lasts (State.put_lasts (State.put_lasts
    (State.bump_lasts (State.put_lasts (outputOff_lasts h)))))))) (raiseCh_lasts (fault_lasts (modChan_lasts
    (State.put_lasts (State.bump_lasts (State.put_lasts (outputOff_lasts h)))))))))

theorem switchOn_lasts {pwm : Bool} {c : Nat} (h : Lasts k b s) : Lasts k b (switchOn pwm c s) :=
  ite_lasts (latchChannel_lasts h) (ite_lasts (ite_lasts (startInrush_lasts (startPeriod_lasts (modChan_lasts h)))
    (ite_lasts (startPeriod_lasts (modChan_lasts h)) (modChan_lasts h))) (ite_lasts (modChan_lasts h) (startInrush_lasts
    (modChan_lasts h))))

theorem cancelRetry_lasts {c : Nat} (h : Lasts k b s) : Lasts k b (cancelRetry c s) :=
  ite_lasts (raiseCh_lasts (logUnclassified_lasts (modChan_lasts (State.put_lasts h)))) h

theorem commandOff_lasts {c : Nat} (h : Lasts k b s) : Lasts k b (commandOff c s) :=
  State.put_lasts (outputOff_lasts (cancelRetry_lasts (modChan_lasts h)))

theorem commandChannel_lasts {c st duty : Nat} (h : Lasts k b s) : Lasts k b (commandChannel c st duty s) :=
  ite_lasts h (refreshSinks_lasts (judgeAnew_lasts (ite_lasts (ite_lasts (State.put_lasts (State.put_lasts h))
    (State.put_lasts h)) (ite_lasts (commandOff_lasts (ite_lasts (State.put_lasts (State.put_lasts h))
    (State.put_lasts h))) (ite_lasts (ite_lasts (State.put_lasts (State.put_lasts h)) (State.put_lasts h)) (switchOn_lasts
    (State.put_lasts (ite_lasts (State.put_lasts (State.put_lasts h)) (State.put_lasts h)))))))))

theorem allChannelsOff_lasts (h : Lasts k b s) : Lasts k b (allChannelsOff s) := foldOver_lasts h (fun _ _ h' => commandChannel_lasts h')

theorem loadExecute_lasts {l : List (Nat × Nat × Nat)} (h : Lasts k b s) : Lasts k b (loadExecute l s) :=
  foldOver_lasts h (fun _ _ h' => commandChannel_lasts h')

theorem runLoadSet_lasts {p : Request} (h : Lasts k b s) : Lasts k b (runLoadSet p s).st := by
  unfold runLoadSet
  dsimp only
  split
  · exact h
  · exact ok_lasts (loadExecute_lasts h)

theorem runLoadReinstate_lasts {p : Request} (h : Lasts k b s) : Lasts k b (runLoadReinstate p s).st :=
  ite_st_lasts (refuse_lasts h) (ite_st_lasts (ok_lasts h) (ok_lasts (refreshSinks_lasts (raiseCh_lasts
    (judgeAnew_lasts (ite_lasts (modChan_lasts (State.put_lasts (State.put_lasts (State.put_lasts (unretire_lasts h)))))
    (State.put_lasts (State.put_lasts (State.put_lasts (unretire_lasts h))))))))))

theorem limpFollow_lasts {c : Nat} (h : Lasts k b s) : Lasts k b (limpFollow s c) := ite_lasts (switchOn_lasts h) (outputOff_lasts h)

theorem limpTake_lasts {c : Nat} (h : Lasts k b s) : Lasts k b (limpTake s c) :=
  ite_lasts (outputOff_lasts h) (limpFollow_lasts (State.put_lasts (ite_lasts (logUnclassified_lasts (modChan_lasts
    (State.put_lasts h))) h)))

theorem limpBegin_lasts (h : Lasts k b s) : Lasts k b (limpBegin s) :=
  ite_lasts h (refreshSinks_lasts (raise0_lasts (fault_lasts (foldOver_lasts (State.put_lasts h)
    (fun _ _ h' => limpTake_lasts h')))))

theorem limpEnter_lasts {k' : LimpCause} (h : Lasts k b s) : Lasts k b (limpEnter k' s) := limpBegin_lasts (State.put_lasts h)

theorem limpRelease_lasts {c : Nat} (h : Lasts k b s) : Lasts k b (limpRelease s c) :=
  ite_lasts (State.put_lasts (State.put_lasts (modChan_lasts (outputOff_lasts (ite_lasts
    (logUnclassified_lasts h) h))))) (State.put_lasts (State.put_lasts (modChan_lasts (outputOff_lasts (ite_lasts
    (logUnclassified_lasts h) h)))))

theorem limpExit_lasts (h : Lasts k b s) : Lasts k b (limpExit s) :=
  raise0_lasts (refreshSinks_lasts (foldOver_lasts (State.put_lasts (State.put_lasts (foldOver_lasts h
    (fun _ _ h' => limpRelease_lasts h')))) (fun _ _ h' => judgeAnew_lasts h')))

theorem lhChange_lasts {levels : Nat} (h : Lasts k b s) : Lasts k b (lhChange levels s) :=
  ite_lasts (State.put_lasts h) (foldOver_lasts (State.put_lasts h) (fun _ _ h' => ite_lasts (limpFollow_lasts
    (modChan_lasts h')) h'))

theorem latchMap_lasts (h : Lasts k b s) : Lasts k b (latchMap s) :=
  limpBegin_lasts (ite_lasts (State.put_lasts (State.put_lasts (.of_view h rfl))) (raise0_lasts (State.put_lasts
    (State.put_lasts (.of_view h rfl)))))

theorem runLimpMapRead_lasts {p : Request} (h : Lasts k b s) : Lasts k b (runLimpMapRead p s).st :=
  ite_st_lasts (refuse_lasts h) (ok_lasts h)

/-- A request that may write what is stored keeps the rest. -/
theorem Lasts.of_request (h : Lasts k b s) (hk : k.request = true)
    (same : (t.now, t.pending, t.upd.keys, t.dma.mem) = (s.now, s.pending, s.upd.keys, s.dma.mem)) : Lasts k b t := by
  simp only [Prod.mk.injEq] at same
  obtain ⟨now, pending, keys, mem⟩ := same
  refine ⟨now ▸ h.now, pending.trans h.pending, keys.trans h.keys, fun no => ?_, ?_⟩
  · rw [hk] at no
    exact absurd no (by decide)
  · rw [mem]
    exact h.mem

theorem runLimpMapWrite_lasts {p : Request} (h : Lasts k b s) (hk : k.request = true) : Lasts k b (runLimpMapWrite p s).st := by
  unfold runLimpMapWrite
  refine ite_st_lasts (refuse_lasts h) (ite_st_lasts (refuse_lasts h) (ok_lasts (fault_lasts ?_)))
  exact .of_request h hk rfl

theorem latchOff_lasts {c cause : Nat} (h : Lasts k b s) : Lasts k b (latchOff c cause s) := commandChannel_lasts (latchChannel_lasts h)

theorem overCurrent_lasts {c : Nat} {current tj : Int} (h : Lasts k b s) : Lasts k b (overCurrent c current tj s) := by
  unfold overCurrent
  dsimp only
  split
  · split
    · exact State.puts_lasts (State.puts_lasts h)
    · exact latchChannel_lasts (State.puts_lasts (State.puts_lasts h))
  · split
    · exact State.puts_lasts (State.puts_lasts h)
    · exact latchOff_lasts (State.puts_lasts (State.puts_lasts h))

theorem thermal_lasts {c : Nat} {tj : Int} (h : Lasts k b s) : Lasts k b (thermal c tj s) :=
  ite_lasts (State.puts_lasts h) (ite_lasts (latchChannel_lasts (State.puts_lasts h)) (ite_lasts (latchOff_lasts
    (State.puts_lasts h)) (State.puts_lasts h)))

theorem retryChannel_lasts {c : Nat} {tj : Int} (h : Lasts k b s) : Lasts k b (retryChannel c tj s) :=
  ite_lasts (refreshSinks_lasts (startInrush_lasts (State.put_lasts (State.put_lasts (ite_lasts (startPeriod_lasts
    (modChan_lasts (State.puts_lasts h))) (modChan_lasts (State.puts_lasts h))))))) (State.puts_lasts h)

theorem retryOk_lasts {c : Nat} (h : Lasts k b s) : Lasts k b (retryOk c s) :=
  ite_lasts (raiseCh_lasts (fault_lasts (State.bump_lasts (State.put_lasts h)))) h

theorem inrushEnd_lasts {c : Nat} (h : Lasts k b s) : Lasts k b (inrushEnd c s) := ite_lasts (State.put_lasts h) h

theorem openLoad_lasts {c : Nat} {above : Bool} {units : Nat} (h : Lasts k b s) : Lasts k b (openLoad c above units s) :=
  ite_lasts h (ite_lasts (raiseCh_lasts (fault_lasts (State.put_lasts h))) (ite_lasts (raiseCh_lasts
    (State.put_lasts h)) h))

theorem logStuds_lasts {a b' : Int} (h : Lasts k b s) : Lasts k b (logStuds a b' s) := .of_view h rfl

theorem studMean_lasts {a b' : Int} (h : Lasts k b s) : Lasts k b (studMean a b' s) :=
  ite_lasts (raise0_lasts (State.put_lasts (State.put_lasts (State.put_lasts (logStuds_lasts h))))) (State.put_lasts
    (State.put_lasts (State.put_lasts (logStuds_lasts h))))

theorem studVoltage_lasts {b' : Bool} {mv : Nat} (h : Lasts k b s) : Lasts k b (studVoltage b' mv s) :=
  ite_lasts (ite_lasts (gather_lasts (State.put_lasts h)) (raise0_lasts (State.put_lasts (gather_lasts
    (State.put_lasts h))))) (foldOver_lasts (State.put_lasts (gather_lasts (State.put_lasts h)))
    (fun _ _ h' => judgeAnew_lasts h'))

theorem measureAll_lasts {l : List (Int × Int)} (h : Lasts k b s) : Lasts k b (measureAll l s) :=
  logStuds_lasts (foldOver_lasts h (fun _ _ h' => gather_lasts (gather_lasts (State.puts_lasts (State.puts_lasts h')))))

theorem senseSelect_lasts {sel : Nat} {en : Bool} (h : Lasts k b s) : Lasts k b (senseSelect sel en s) := emit_lasts (.of_view h rfl)

theorem pwmPeriod_lasts {c : Nat} (h : Lasts k b s) : Lasts k b (pwmPeriod c s) := ite_lasts (emit_lasts (startPeriod_lasts h)) h

/-! ### Loops -/

theorem modLoop_lasts {n : Nat} {f : LoopPart → LoopPart} (h : Lasts k b s) : Lasts k b (modLoop n f s) := .of_view h rfl

theorem writeLineWord_lasts {entry word : Nat} {v : Int} (h : Lasts k b s) : Lasts k b (writeLineWord entry word v s) :=
  ite_lasts (.of_view (.of_view h rfl) rfl) (.of_view h rfl)

theorem publishWord_lasts {entry word : Nat} {v : Int} (h : Lasts k b s) : Lasts k b (publishWord entry word v s) :=
  ite_lasts (.of_view (.of_view h rfl) rfl) (.of_view h rfl)

theorem takeNextWords_lasts (h : Lasts k b s) : Lasts k b (takeNextWords s) := .of_view h rfl

theorem flushLineWords_lasts (h : Lasts k b s) : Lasts k b (flushLineWords s) := .of_view h rfl

theorem writeTo_lasts {d : SinkDef} {u : Int} (h : Lasts k b s) : Lasts k b (writeTo d u s) :=
  ite_lasts (State.put_lasts h) (ite_lasts (.of_view h rfl) (ite_lasts (writeLineWord_lasts h) h))

theorem writeSink_lasts {n : Nat} {u : Int} (h : Lasts k b s) : Lasts k b (writeSink n u s) := writeTo_lasts h

theorem ownSink_lasts {n : Nat} (h : Lasts k b s) : Lasts k b (ownSink n s) := by
  unfold ownSink
  split
  · exact h
  · exact commandChannel_lasts (State.put_lasts (State.put_lasts h))

theorem releaseSink_lasts {n : Nat} (h : Lasts k b s) : Lasts k b (releaseSink n s) := by
  unfold releaseSink
  dsimp only
  split
  · exact writeSink_lasts h
  · exact ite_lasts (commandChannel_lasts (State.put_lasts (writeSink_lasts h))) (State.put_lasts (writeSink_lasts h))

theorem setLoopState_lasts {n st : Nat} (h : Lasts k b s) : Lasts k b (setLoopState n st s) := State.put_lasts (modLoop_lasts h)

theorem setInteg_lasts {n : Nat} {i : Int} (h : Lasts k b s) : Lasts k b (setInteg n i s) := State.puts_lasts (modLoop_lasts h)

theorem loopToOpen_lasts {n : Nat} (h : Lasts k b s) : Lasts k b (loopToOpen n s) :=
  refreshBlocked_lasts (releaseSink_lasts (setLoopState_lasts h))

theorem loopOff_lasts {n : Nat} (h : Lasts k b s) : Lasts k b (loopOff n s) := by
  unfold loopOff
  dsimp only
  split
  · exact loopToOpen_lasts h
  · exact commandChannel_lasts (loopToOpen_lasts h)

theorem beginGrace_lasts {n : Nat} (h : Lasts k b s) : Lasts k b (beginGrace n s) := raise_lasts (State.put_lasts h)

theorem noLoss_lasts {n : Nat} (h : Lasts k b s) : Lasts k b (noLoss n s) := State.put_lasts (modLoop_lasts h)

theorem refreshLoopLoss_lasts {n : Nat} (h : Lasts k b s) : Lasts k b (refreshLoopLoss s n) := by
  unfold refreshLoopLoss
  split
  · exact h
  · split
    · exact ite_lasts (beginGrace_lasts (modLoop_lasts h)) (modLoop_lasts h)
    · exact ite_lasts (raise_lasts (noLoss_lasts h)) h
    · exact h

theorem refreshLoss_lasts (h : Lasts k b s) : Lasts k b (refreshLoss s) := foldOver_lasts h (fun _ _ h' => refreshLoopLoss_lasts h')

theorem lossAction_lasts {n : Nat} (h : Lasts k b s) : Lasts k b (lossAction n s) :=
  ite_lasts (loopOff_lasts (raise_lasts (State.put_lasts h))) (modLoop_lasts (raise_lasts (State.put_lasts h)))

theorem lossDue_lasts {n : Nat} (h : Lasts k b s) : Lasts k b (lossDue n s) := ite_lasts (lossAction_lasts h) h

theorem enterLost_lasts {n : Nat} (h : Lasts k b s) : Lasts k b (enterLost n s) :=
  ite_lasts h (ite_lasts (State.put_lasts h) (ite_lasts h (beginGrace_lasts h)))

theorem lossAtReturn_lasts (h : Lasts k b s) : Lasts k b (lossAtReturn s) :=
  foldOver_lasts (refreshLoss_lasts h) (fun _ _ h' => ite_lasts (enterLost_lasts h') h')

theorem loopToRun_lasts {n : Nat} (h : Lasts k b s) : Lasts k b (loopToRun n s) :=
  refreshBlocked_lasts (enterLost_lasts (ownSink_lasts (setLoopState_lasts (ite_lasts (State.puts_lasts
    (setInteg_lasts h)) h))))

theorem loopRequest_lasts {n st : Nat} (h : Lasts k b s) : Lasts k b (loopRequest n st s).st :=
  ite_st_lasts (refuse_lasts h) (ite_st_lasts (ok_lasts h) (ite_st_lasts (ok_lasts (loopToOpen_lasts h))
    (ite_st_lasts (refuse_lasts h) (ite_st_lasts (ite_st_lasts (ok_lasts (loopToRun_lasts h)) (refuse_lasts h))
    (ite_st_lasts (ok_lasts (setLoopState_lasts h)) (refuse_lasts h))))))

theorem runLoopOpen_lasts {p : Request} (h : Lasts k b s) : Lasts k b (runLoopOpen p s).st := loopRequest_lasts h

theorem runLoopRun_lasts {p : Request} (h : Lasts k b s) : Lasts k b (runLoopRun p s).st := loopRequest_lasts h

theorem runLoopHold_lasts {p : Request} (h : Lasts k b s) : Lasts k b (runLoopHold p s).st := loopRequest_lasts h

theorem runLoopSetpoint_lasts {p : Request} (h : Lasts k b s) : Lasts k b (runLoopSetpoint p s).st :=
  ite_st_lasts (refuse_lasts h) (ok_lasts (State.setReg_lasts h))

theorem runLoopStatus_lasts {p : Request} (h : Lasts k b s) : Lasts k b (runLoopStatus p s).st :=
  ite_st_lasts (ok_lasts h) (ite_st_lasts (refuse_lasts h) (ok_lasts h))

theorem serveUntil_lasts {limit fuel : Nat} (h : Lasts k b s) : Lasts k b (serveUntil limit fuel s) := by
  induction fuel generalizing s with
  | zero => exact h
  | succ fuel ih =>
    unfold serveUntil
    dsimp only
    split
    · exact h
    · refine ite_lasts h ?_
      split
      · exact h
      · exact ih (eng_lasts (modLoop_lasts h))

theorem loopMiss_lasts {n : Nat} (h : Lasts k b s) : Lasts k b (loopMiss n s) :=
  ite_lasts (fault_lasts (raise_lasts (State.put_lasts (State.put_lasts (State.bump_lasts (State.putBit_lasts
    (State.put_lasts (modLoop_lasts h)))))))) (raise_lasts (State.put_lasts (State.put_lasts (State.bump_lasts
    (State.putBit_lasts (State.put_lasts (modLoop_lasts h)))))))

theorem loopApply_lasts {n : Nat} {x : Sample} {margin : Nat} (h : Lasts k b s) : Lasts k b (loopApply n x margin s) :=
  writeTo_lasts (ite_lasts (State.put_lasts (State.put_lasts (State.put_lasts (State.put_lasts (State.puts_lasts
    (setInteg_lasts (modLoop_lasts h))))))) (State.put_lasts (State.put_lasts (State.puts_lasts (setInteg_lasts
    (modLoop_lasts h))))))

theorem loopDeadline_lasts {n : Nat} (h : Lasts k b s) : Lasts k b (loopDeadline n s) := by
  unfold loopDeadline
  split
  · exact h
  · split
    · exact h
    · dsimp only
      split
      · exact serveUntil_lasts h
      · split
        · exact loopMiss_lasts (serveUntil_lasts h)
        · exact ite_lasts (loopApply_lasts (serveUntil_lasts h)) (loopMiss_lasts (serveUntil_lasts h))

theorem loopPend_lasts {n k' upd : Nat} {iNew u : Int} {sat : Bool} (h : Lasts k b s) :
    Lasts k b (loopPend n k' upd iNew u sat s) := by
  unfold loopPend
  exact modLoop_lasts h

theorem loopSample_lasts {n k' upd : Nat} (h : Lasts k b s) : Lasts k b (loopSample n k' upd s) :=
  loopPend_lasts (State.puts_lasts (State.puts_lasts (State.put_lasts (refreshBlocked_lasts h))))

theorem loopObserve_lasts {n : Nat} (h : Lasts k b s) : Lasts k b (loopObserve n s) := State.puts_lasts (State.put_lasts h)

theorem loopTick_lasts {n upd : Nat} (h : Lasts k b s) : Lasts k b (loopTick n upd s) := by
  unfold loopTick
  split
  · exact h
  · dsimp only
    split
    · exact loopDeadline_lasts h
    · exact ite_lasts (loopDeadline_lasts h) (ite_lasts (loopObserve_lasts (lossDue_lasts (serveUntil_lasts (modLoop_lasts
      (loopDeadline_lasts h))))) (ite_lasts (ite_lasts (ite_lasts (loopPend_lasts (lossDue_lasts (serveUntil_lasts
      (modLoop_lasts (loopDeadline_lasts h))))) (lossDue_lasts (serveUntil_lasts (modLoop_lasts (loopDeadline_lasts h)))))
      (loopSample_lasts (lossDue_lasts (serveUntil_lasts (modLoop_lasts (loopDeadline_lasts h)))))) (lossDue_lasts
      (serveUntil_lasts (modLoop_lasts (loopDeadline_lasts h))))))

theorem statusTaken_lasts {entry : Nat} (h : Lasts k b s) : Lasts k b (statusTaken entry s) :=
  foldOver_lasts h (fun _ _ h' => ite_lasts (modLoop_lasts h') h')

/-! ### Configuration sets -/

theorem putSiding_lasts {c : Container} (h : Lasts k b s) : Lasts k b (putSiding c s) :=
  ite_lasts (raise0_lasts (sets_lasts (State.put_lasts (State.put_lasts (sets_lasts h))))) (State.put_lasts
    (State.put_lasts (sets_lasts h)))

theorem copiedSiding_lasts (h : Lasts k b s) : Lasts k b (copiedSiding s) := by
  unfold copiedSiding
  split
  · exact h
  · exact ite_lasts (putSiding_lasts h) h

theorem changeSiding_lasts {f : Container → Container} (h : Lasts k b s) : Lasts k b (changeSiding f s).1 := by
  unfold changeSiding
  split
  · exact h
  · split
    · exact h
    · exact putSiding_lasts h

theorem runSidingLoad_lasts {p : Request} (h : Lasts k b s) : Lasts k b (runSidingLoad p s).st := by
  unfold runSidingLoad
  dsimp only
  split
  · exact refuse_lasts h
  · split
    · exact ite_st_lasts (refuse_lasts h) (ok_lasts (putSiding_lasts (.of_view h rfl)))
    · split
      · exact refuse_lasts h
      · exact ite_st_lasts (refuse_lasts h) (ok_lasts (putSiding_lasts h))

theorem runSidingClear_lasts {p : Request} (h : Lasts k b s) :
    Lasts k b (runSidingClear p s).st := ite_st_lasts (refuse_lasts h) (ok_lasts (State.put_lasts (State.put_lasts (.of_view h rfl))))

theorem runSetInfo_lasts {p : Request} (h : Lasts k b s) :
    Lasts k b (runSetInfo p s).st := ok_lasts h

theorem runSidingVerify_lasts {p : Request} (h : Lasts k b s) : Lasts k b (runSidingVerify p s).st :=
  ite_st_lasts (refuse_lasts h) (ite_st_lasts (refuse_lasts h) h)

theorem loadOrders_lasts (h : Lasts k b s) : Lasts k b (loadOrders s) := .of_view h rfl

end

end Sys2Proof.Machine
end

section
/-!
SUPPORT for O60. What stands under fusion and setting.
-/

namespace Sys2Proof.Machine

section
variable {k : Latitude} {b s t : State}

/-! ### Fusion -/

theorem modStream_lasts {i : Nat} {f : StreamPart → StreamPart} (h : Lasts k b s) : Lasts k b (modStream i f s) := .of_view h rfl

theorem withSet_lasts {v : FusionSet} (h : Lasts k b s) : Lasts k b (withSet v s) := .of_view h rfl

theorem remap_lasts (h : Lasts k b s) : Lasts k b (remap s) := .of_view h rfl

theorem fusionAfter_lasts {before : State} (h : Lasts k b s) : Lasts k b (fusionAfter before s) := remap_lasts (.of_view h rfl)

theorem holdFusion_lasts {before : State} (h : Lasts k b s) : Lasts k b (holdFusion before s) := .of_view h rfl

theorem settleFusion_lasts (h : Lasts k b s) : Lasts k b (settleFusion s) := by
  unfold settleFusion
  split
  · exact h
  · exact ite_lasts h (fusionAfter_lasts (.of_view h rfl))

theorem underHeld_lasts {f : State → State} (h : Lasts k b s) (hf : ∀ s, Lasts k b s → Lasts k b (f s)) :
    Lasts k b (underHeld f s) := by
  unfold underHeld
  dsimp only
  split
  · exact hf _ (settleFusion_lasts h)
  · exact withSet_lasts (hf _ (withSet_lasts (settleFusion_lasts h)))

theorem skipInput_lasts {i : Nat} (h : Lasts k b s) : Lasts k b (skipInput i s) := State.bump_lasts h

theorem startInvocation_lasts {i : Nat} {b' : Bytes} {x : StreamInput} (h : Lasts k b s) :
    Lasts k b (startInvocation i b' x s) := by
  unfold startInvocation
  exact modStream_lasts h

theorem offerInput_lasts {i : Nat} {x : StreamInput} (h : Lasts k b s) : Lasts k b (offerInput i x s) := by
  unfold offerInput
  split
  · exact h
  · exact ite_lasts (skipInput_lasts h) (ite_lasts (modStream_lasts (ite_lasts (skipInput_lasts h) h))
    (startInvocation_lasts h))

theorem invocationDone_lasts {i : Nat} (h : Lasts k b s) : Lasts k b (invocationDone i s) := by
  unfold invocationDone
  split
  · exact h
  · dsimp only
    split
    · exact ite_lasts (startInvocation_lasts (unitArrives_lasts (modStream_lasts h))) (skipInput_lasts (modStream_lasts
      (unitArrives_lasts (modStream_lasts h))))
    · exact unitArrives_lasts (modStream_lasts h)

theorem stampInput_lasts {i stamp stime : Nat} (h : Lasts k b s) : Lasts k b (stampInput i stamp stime s) :=
  State.put64_lasts (State.put64_lasts h)

theorem inputArrives_lasts {i : Nat} (h : Lasts k b s) : Lasts k b (inputArrives i s) := by
  unfold inputArrives
  dsimp only
  split
  · exact modStream_lasts h
  · exact raise_lasts (fault_lasts (State.put_lasts (modStream_lasts (modStream_lasts h))))

theorem retireStream_lasts {i : Nat} (h : Lasts k b s) : Lasts k b (retireStream i s) :=
  raise_lasts (fault_lasts (State.put_lasts (closeDataOfSlot_lasts (retire_lasts (modStream_lasts h)))))

theorem reconnect_lasts {i : Nat} (h : Lasts k b s) : Lasts k b (reconnect i s) :=
  State.bump_lasts (State.put_lasts (ite_lasts (State.putBit_lasts (modStream_lasts h)) (modStream_lasts h)))

theorem streamLost_lasts {i : Nat} (h : Lasts k b s) : Lasts k b (streamLost i s) := by
  unfold streamLost
  dsimp only
  split
  · exact h
  · split
    · exact ite_lasts (retireStream_lasts (raise_lasts h)) (reconnect_lasts (raise_lasts h))
    · exact reconnect_lasts (raise_lasts h)

theorem streamExpired_lasts {i : Nat} (h : Lasts k b s) : Lasts k b (streamExpired i s) := by
  unfold streamExpired
  split
  · exact h
  · exact ite_lasts (retireStream_lasts h) h

theorem cameraFrameFor_lasts {cam lines len stime : Nat} {px : Pixels} {stamp i : Nat} (h : Lasts k b s) :
    Lasts k b (cameraFrameFor cam lines len stime px stamp s i) :=
  ite_lasts h (ite_lasts (skipInput_lasts (inputArrives_lasts h)) (offerInput_lasts (unitArrives_lasts
    (stampInput_lasts (inputArrives_lasts h)))))

theorem cameraFrame_lasts {cam lines len stime : Nat} {px : CameraData} (h : Lasts k b s) :
    Lasts k b (cameraFrame cam lines len stime px s) := ite_lasts h (foldOver_lasts h (fun _ _ h' => cameraFrameFor_lasts h'))

theorem sweepFor_lasts {i : Nat} (h : Lasts k b s) : Lasts k b (sweepFor s i) :=
  ite_lasts h (offerInput_lasts (unitArrives_lasts (stampInput_lasts (inputArrives_lasts h))))

theorem lidarDatagram_lasts {port : Nat} {d : Bytes} (h : Lasts k b s) : Lasts k b (lidarDatagram port d s) :=
  ite_lasts h (ite_lasts (fus_lasts h) (fus_lasts (foldOver_lasts (fus_lasts h) (fun _ _ h' => sweepFor_lasts h'))))

theorem gatherSample_lasts {kind index : Nat} {v : Int} {stamp : Nat} (h : Lasts k b s) :
    Lasts k b (gatherSample kind index v stamp s) := foldOver_lasts h (fun _ _ h' => ite_lasts (modStream_lasts h') h')

theorem directBlock_lasts {i : Nat} (h : Lasts k b s) : Lasts k b (directBlock i s) :=
  ite_lasts h (offerInput_lasts (unitArrives_lasts (State.put64_lasts (modStream_lasts h))))

theorem acceptTile_lasts {k' : Nat} {t : Tile} (h : Lasts k b s) : Lasts k b (acceptTile k' t s) := .of_view h rfl

theorem foreignTile_lasts (h : Lasts k b s) : Lasts k b (foreignTile s) := ite_lasts h (raise0_lasts (.of_view h rfl))

theorem noteState_lasts {k' state : Nat} (h : Lasts k b s) : Lasts k b (noteState k' state s) := .of_view h rfl

theorem acceptRegion_lasts {join place kind : Nat} {b' : Bytes} (h : Lasts k b s) :
    Lasts k b (acceptRegion join place kind b' s) := by
  unfold acceptRegion
  split
  · exact h
  · refine foldOver_lasts ?_ ?_
    · split
      · exact settleFusion_lasts h
      · dsimp only
        split
        · exact .of_view (settleFusion_lasts h) rfl
        · exact noteState_lasts (.of_view (settleFusion_lasts h) rfl)
    · intro s' a h'
      split
      · split
        · exact foreignTile_lasts h'
        · exact ite_lasts (acceptTile_lasts h') (foreignTile_lasts h')

theorem acceptOwnRegions_lasts (h : Lasts k b s) : Lasts k b (acceptOwnRegions s) := by
  unfold acceptOwnRegions
  refine ite_lasts (fus_lasts h) (foldOver_lasts (settleFusion_lasts (fus_lasts h)) fun _ _ h' => ?_)
  split
  split
  · exact foldOver_lasts h' (fun _ _ h'' => foreignTile_lasts h'')
  · exact foldOver_lasts (noteState_lasts h') (fun _ _ h'' => ite_lasts (acceptTile_lasts h'') (foreignTile_lasts h''))

theorem fusionFrame_lasts (h : Lasts k b s) : Lasts k b (fusionFrame s) := by
  have settled := settleFusion_lasts h
  unfold fusionFrame
  dsimp only
  split
  · exact settled
  · refine ite_lasts (fus_lasts settled) ?_
    split
    · exact raise0_lasts (State.bump_lasts (fus_lasts (fus_lasts settled)))
    · exact fus_lasts (fus_lasts settled)

theorem raiseResults_lasts {frame c : Nat} {logged : List (Nat × Nat)} {l : List CellResult} (h : Lasts k b s) :
    Lasts k b (raiseResults frame c logged l s) := by
  induction l generalizing c logged s with
  | nil => exact h
  | cons r l ih =>
    have raised := foldOver_lasts (f := fun s k => raise Src.FUS_SOURCE_STALE k s) (l := r.stale) h fun _ _ h => raise_lasts h
    have cleared := ite_lasts (c := r.clear = true) (raise_lasts (src := Src.FUS_CONTRA_CLEAR) (detail := contraDetail c) raised) raised
    unfold raiseResults
    dsimp only
    split
    · exact ih cleared
    · exact ite_lasts (ih (raise_lasts cleared)) (ih (fault_lasts (raise_lasts cleared)))

theorem frameReadable_lasts (h : Lasts k b s) : Lasts k b (frameReadable s) := by
  unfold frameReadable
  split
  · exact h
  · exact raiseResults_lasts (ite_lasts (raise0_lasts (State.put_lasts (State.put_lasts (State.put_lasts (State.put_lasts
    (.of_view h rfl)))))) (State.put_lasts (State.put_lasts (State.put_lasts (State.put_lasts (.of_view h rfl))))))

theorem runStreamStatus_lasts {p : Request} (h : Lasts k b s) : Lasts k b (runStreamStatus p s).st :=
  ite_st_lasts (ok_lasts h) (ite_st_lasts (refuse_lasts h) (ok_lasts h))

theorem runStreamReinstate_lasts {p : Request} (h : Lasts k b s) : Lasts k b (runStreamReinstate p s).st :=
  ite_st_lasts (refuse_lasts h) (ite_st_lasts (ok_lasts h) (ok_lasts (reconnect_lasts (modStream_lasts
    (unretire_lasts h)))))

theorem runGridRead_lasts {p : Request} (h : Lasts k b s) : Lasts k b (runGridRead p s).st :=
  ite_st_lasts (refuse_lasts h) (ite_st_lasts (refuse_lasts h) (ok_lasts h))

theorem runModelLoad_lasts {p : Request} (h : Lasts k b s) : Lasts k b (runModelLoad p s).st := by
  have copied := copiedSiding_lasts h
  unfold runModelLoad
  generalize copiedSiding s = u at copied ⊢
  dsimp only
  split
  · exact refuse_lasts h
  · split
    · exact refuse_lasts h
    · split
      · exact refuse_lasts h
      · split
        · exact refuse_lasts copied
        · split
          · exact refuse_lasts copied
          · split
            · exact refuse_lasts copied
            · split
              · exact refuse_lasts copied
              · have written {c : Container} {x : SetPart} : Lasts k b (putSiding c { u with sets := x }) := putSiding_lasts
                  (sets_lasts copied)
                refine ite_st_lasts (refuse_lasts copied) ?_
                split <;> exact written

theorem runModelInfo_lasts {p : Request} (h : Lasts k b s) : Lasts k b (runModelInfo p s).st := ite_st_lasts (refuse_lasts h) (ok_lasts h)

/-! ### Setting functions -/

theorem modFn_lasts {n : Nat} {f : FnPart → FnPart} (h : Lasts k b s) : Lasts k b (modFn n f s) := .of_view h rfl

theorem copyFn_lasts {n : Nat} (h : Lasts k b s) : Lasts k b (copyFn n s) := .of_view h rfl

theorem setFnTargetFrom_lasts {c n : Nat} {v : Int} (h : Lasts k b s) : Lasts k b (setFnTargetFrom c n v s) :=
  copyFn_lasts (State.puts_lasts (modFn_lasts h))

theorem setFnTarget_lasts {n : Nat} {v : Int} (h : Lasts k b s) : Lasts k b (setFnTarget n v s) := setFnTargetFrom_lasts h

theorem setFnMode_lasts {n m : Nat} (h : Lasts k b s) : Lasts k b (setFnMode n m s) := copyFn_lasts (State.put_lasts h)

theorem slewAll_lasts (h : Lasts k b s) : Lasts k b (slewAll s) := foldOver_lasts h (fun _ _ h' => State.puts_lasts h')

theorem startFn_lasts {n : Nat} (h : Lasts k b s) : Lasts k b (startFn s n) :=
  copyFn_lasts (State.setReg_lasts (State.puts_lasts (State.puts_lasts (modFn_lasts h))))

theorem clearFn_lasts {n : Nat} (h : Lasts k b s) : Lasts k b (clearFn s n) :=
  State.setReg_lasts (State.setReg_lasts (State.setReg_lasts (modFn_lasts h)))

theorem startSetting_lasts (h : Lasts k b s) : Lasts k b (startSetting s) :=
  foldOver_lasts (.of_view h rfl) (fun _ _ h' => ite_lasts (clearFn_lasts h') (startFn_lasts h'))

theorem endStep_lasts {o : StepOutcome} {p : PendingStep} (h : Lasts k b s) : Lasts k b (endStep o p s) :=
  foldOver_lasts (.of_view h rfl) (fun _ _ h' => State.put_lasts (State.put_lasts h'))

theorem revertStep_lasts {first : Nat} {o : StepOutcome} {p : PendingStep} (h : Lasts k b s) :
    Lasts k b (revertStep first o p s) := by
  unfold revertStep
  dsimp only
  split
  · exact endStep_lasts (.of_view (foldOver_lasts h (fun _ _ h' => ite_lasts (State.put_lasts (State.put_lasts
    (setFnTargetFrom_lasts h'))) h')) rfl)
  · exact raise0_lasts (State.bump_lasts (endStep_lasts (.of_view (foldOver_lasts h (fun _ _ h' => ite_lasts
    (State.put_lasts (State.put_lasts (setFnTargetFrom_lasts h'))) h')) rfl)))
  · exact raise0_lasts (State.bump_lasts (endStep_lasts (.of_view (foldOver_lasts h (fun _ _ h' => ite_lasts
    (State.put_lasts (State.put_lasts (setFnTargetFrom_lasts h'))) h')) rfl)))
  · exact raise0_lasts (State.bump_lasts (endStep_lasts (.of_view (foldOver_lasts h (fun _ _ h' => ite_lasts
    (State.put_lasts (State.put_lasts (setFnTargetFrom_lasts h'))) h')) rfl)))

theorem decideStep_lasts (h : Lasts k b s) : Lasts k b (decideStep s) := by
  unfold decideStep
  split
  · exact h
  · split
    · exact raise0_lasts (State.bump_lasts (endStep_lasts h))
    · exact revertStep_lasts h

theorem abandonStep_lasts {first : Nat} (h : Lasts k b s) : Lasts k b (abandonStep first s) := by
  unfold abandonStep
  split
  · exact h
  · exact revertStep_lasts h

theorem abandonIfChanged_lasts {n : Nat} (h : Lasts k b s) : Lasts k b (abandonIfChanged n s) := by
  unfold abandonIfChanged
  split
  · exact h
  · exact ite_lasts (abandonStep_lasts h) h

/-- The step of a tick, judged. -/
theorem stepJudged_lasts {t : Nat} (h : Lasts k b s) : Lasts k b (match s.fn.pending with
    | some p => if p.evalEnd + 8 * ms ≤ t then decideStep s else s
    | none =>
      if t < s.fn.holdUntil ∨ (usedFns s).any (eligible s) = false ∨ (policyModel s).isNone = true ∨
          s.flag F.FUS_STATUS_GRID_VALID = false then s
      else { s with fn := { s.fn with invocation := some (policyInput s) } }) := by
  split
  · exact ite_lasts (decideStep_lasts h) h
  · exact ite_lasts h (fn_lasts h)

theorem stepTick_lasts (h : Lasts k b s) : Lasts k b (stepTick s) := by
  refine ite_lasts h (stepJudged_lasts (ite_lasts (raise0_lasts (State.bump_lasts (fn_lasts ?_))) ?_))
  all_goals exact foldOver_lasts (fn_lasts h) fun _ _ h' => State.put_lasts h'

theorem policyDone_lasts (h : Lasts k b s) : Lasts k b (policyDone s) := by
  unfold policyDone
  split
  · exact h
  · exact ite_lasts (fn_lasts h) (ite_lasts (fn_lasts h) (fn_lasts (foldOver_lasts (fn_lasts h)
      (fun _ _ h' => State.put_lasts (setFnTarget_lasts (State.puts_lasts h'))))))

theorem pathFault_lasts {n : Nat} (h : Lasts k b s) : Lasts k b (pathFault s n).1 := fn_lasts h

theorem faultStep_lasts {n : Nat} (h : Lasts k b s) : Lasts k b (faultStep s n) :=
  ite_lasts (raise_lasts (fault_lasts (State.put_lasts (pathFault_lasts h)))) (State.put_lasts (pathFault_lasts h))

theorem startSettling_lasts {n : Nat} (h : Lasts k b s) : Lasts k b (startSettling n s) := State.put_lasts (modFn_lasts h)

theorem freezeStep_lasts {old n : Nat} (h : Lasts k b s) : Lasts k b (freezeStep old s n) :=
  ite_lasts (State.put_lasts h) (ite_lasts (ite_lasts (abandonIfChanged_lasts (ite_lasts (raise_lasts
    (State.put_lasts (State.put_lasts h))) (State.put_lasts (State.put_lasts h)))) (ite_lasts (raise_lasts (State.put_lasts
    (State.put_lasts h))) (State.put_lasts (State.put_lasts h)))) (ite_lasts (startSettling_lasts (State.put_lasts h))
    (State.put_lasts h)))

theorem headlandStep_lasts (h : Lasts k b s) : Lasts k b (headlandStep s) :=
  ite_lasts h (ite_lasts (raise0_lasts (.of_view h rfl)) (ite_lasts (raise0_lasts (.of_view h rfl)) h))

theorem holdMeasures_lasts (h : Lasts k b s) : Lasts k b (holdMeasures s) := .of_view h rfl

theorem settingFrame_lasts (h : Lasts k b s) : Lasts k b (settingFrame s) :=
  ite_lasts h (foldOver_lasts (foldOver_lasts (holdMeasures_lasts h) (fun _ _ h' => faultStep_lasts h'))
    (fun _ _ h' => freezeStep_lasts h'))

theorem settlingEnd_lasts {n : Nat} (h : Lasts k b s) : Lasts k b (settlingEnd n s) := ite_lasts (raise_lasts (State.put_lasts h)) h

theorem runFunctionManual_lasts {p : Request} (h : Lasts k b s) : Lasts k b (runFunctionManual p s).st :=
  ite_st_lasts (refuse_lasts h) (ite_st_lasts (refuse_lasts h) (ite_st_lasts (refuse_lasts h) (ite_st_lasts
    (refuse_lasts h) (ok_lasts (ite_lasts (raise_lasts (setFnTarget_lasts (ite_lasts (abandonIfChanged_lasts
    (State.put_lasts (setFnMode_lasts h))) (State.put_lasts (setFnMode_lasts h))))) (setFnTarget_lasts (ite_lasts
    (abandonIfChanged_lasts (State.put_lasts (setFnMode_lasts h))) (State.put_lasts (setFnMode_lasts h)))))))))

theorem runFunctionAuto_lasts {p : Request} (h : Lasts k b s) : Lasts k b (runFunctionAuto p s).st :=
  ite_st_lasts (refuse_lasts h) (ite_st_lasts (refuse_lasts h) (ite_st_lasts (refuse_lasts h) (ite_st_lasts
    (ok_lasts h) (ite_st_lasts (refuse_lasts h) (ite_st_lasts (refuse_lasts h) (ok_lasts (raise_lasts (startSettling_lasts
    (setFnMode_lasts h)))))))))

theorem runFunctionStatus_lasts {p : Request} (h : Lasts k b s) : Lasts k b (runFunctionStatus p s).st :=
  ite_st_lasts (refuse_lasts h) (ite_st_lasts (ok_lasts h) (ite_st_lasts (refuse_lasts h) (ok_lasts h)))

theorem carryFn_lasts {n : Nat} {o : FnBefore} (h : Lasts k b s) : Lasts k b (carryFn n o s) :=
  ite_lasts (copyFn_lasts (State.puts_lasts (State.puts_lasts (ite_lasts (State.put_lasts (State.put_lasts
    (State.setReg_lasts (modFn_lasts h)))) (State.put_lasts (State.put_lasts (State.put_lasts (State.put_lasts
    (State.setReg_lasts (modFn_lasts h)))))))))) (setFnTargetFrom_lasts (State.puts_lasts (State.puts_lasts (ite_lasts
    (State.put_lasts (State.put_lasts (State.setReg_lasts (modFn_lasts h)))) (State.put_lasts (State.put_lasts
    (State.put_lasts (State.put_lasts (State.setReg_lasts (modFn_lasts h))))))))))

theorem throwSetting_lasts {old : List FnBefore} (h : Lasts k b s) : Lasts k b (throwSetting old s) := by
  unfold throwSetting
  refine foldOver_lasts (.of_view h rfl) ?_
  intro s' a h'
  split
  · exact clearFn_lasts h'
  · split
    · exact startFn_lasts h'
    · exact carryFn_lasts h'

theorem takeoverSetting_lasts (h : Lasts k b s) : Lasts k b (takeoverSetting s) :=
  foldOver_lasts (abandonStep_lasts (.of_view h rfl)) (fun _ _ h' => copyFn_lasts (ite_lasts
    (startSettling_lasts h') h'))

theorem resumeSetting_lasts (h : Lasts k b s) : Lasts k b (resumeSetting s) :=
  foldOver_lasts (startSetting_lasts h) (fun _ _ h' => ite_lasts h' (ite_lasts (raise_lasts (copyFn_lasts
    (modFn_lasts (State.puts_lasts (State.puts_lasts h'))))) (copyFn_lasts (modFn_lasts (State.puts_lasts
    (State.puts_lasts h'))))))

/-! ### Readings -/

theorem scanDigital_lasts {l d : Nat} (h : Lasts k b s) : Lasts k b (scanDigital l d s) := .of_view h rfl

theorem countEdges_lasts {i : Nat} {ago : List Nat} {d : Nat} (h : Lasts k b s) : Lasts k b (countEdges i ago d s) :=
  underHeld_lasts (ite_lasts h (.of_view h rfl)) (fun _ h' => gatherSample_lasts h')

theorem takeReading_lasts {r : Reading} (h : Lasts k b s) : Lasts k b (takeReading r s) := by
  unfold takeReading
  dsimp only
  split
  · exact h
  · split
    · exact ite_lasts h (underHeld_lasts (.of_view h rfl) (fun _ h' => gatherSample_lasts h'))
    · exact .of_view h rfl
    · exact ite_lasts h (countEdges_lasts h)
    · exact ite_lasts h (underHeld_lasts (.of_view h rfl) (fun _ h' => gatherSample_lasts h'))
    · exact pwr_lasts (State.put_lasts (gather_lasts (State.put_lasts h)))
    · exact scanDigital_lasts h
    · exact ite_lasts h (.of_view h rfl)

end

end Sys2Proof.Machine
end

section
/-!
SUPPORT for O60. What stands under navigation and steering.
-/

namespace Sys2Proof.Machine

section
variable {k : Latitude} {b s t : State}

/-! ### The receiver -/

theorem modSource_lasts {k' : Nat} {f : CorrSource → CorrSource} (h : Lasts k b s) : Lasts k b (modSource k' f s) := .of_view h rfl

theorem refreshSource_lasts (h : Lasts k b s) : Lasts k b (refreshSource s) := by
  have chosen : ∀ {x y : Nat}, Lasts k b ((s.put F.GNS_CORR_SRC x).put F.GNS_CORR_BASE y) := State.put_lasts (State.put_lasts h)
  refine ite_lasts (raise0_lasts (State.put_lasts (ite_lasts ?_ chosen))) (State.put_lasts (ite_lasts ?_ chosen))
  all_goals exact nav_lasts chosen

theorem learnOrbit_lasts {sys sv : Nat} (h : Lasts k b s) : Lasts k b (learnOrbit sys sv s) := .of_view h rfl

theorem takeRtcm_lasts {k' : Nat} {frame msg : Bytes} (h : Lasts k b s) : Lasts k b (takeRtcm k' frame msg s) := by
  unfold takeRtcm
  dsimp only
  split
  · refine ite_lasts h (ite_lasts (ite_lasts h (nav_lasts h)) (refreshSource_lasts (modSource_lasts (ite_lasts ?_ (nav_lasts ?_)))))
    all_goals exact State.wrapUp_lasts h
  · split
    · cases rtcmOrbit (rtcmNumber msg) msg with
      | none => exact ite_lasts (State.wrapUp_lasts (nav_lasts h)) (nav_lasts (State.wrapUp_lasts (nav_lasts h)))
      | some o =>
        exact ite_lasts (State.wrapUp_lasts (learnOrbit_lasts (nav_lasts h))) (nav_lasts (State.wrapUp_lasts (learnOrbit_lasts
            (nav_lasts h))))
    · exact ite_lasts (ite_lasts h (nav_lasts h)) (State.bump_lasts h)

theorem rtcmFrame_lasts {k' : Nat} (h : Lasts k b s) : Lasts k b (rtcmFrame k' s) :=
  ite_lasts (modSource_lasts h) (ite_lasts (State.bump_lasts (modSource_lasts h)) (takeRtcm_lasts (modSource_lasts h)))

theorem feedSource_lasts {k' : Nat} {b' : Bytes} (h : Lasts k b s) : Lasts k b (feedSource k' b' s) := modSource_lasts h

theorem runRtcmFeed_lasts {p : Request} (h : Lasts k b s) : Lasts k b (runRtcmFeed p s).st :=
  ite_st_lasts (refuse_lasts h) (ite_st_lasts (refuse_lasts h) (ok_lasts (feedSource_lasts h)))

theorem scheduleStep_lasts {off : Int} (h : Lasts k b s) : Lasts k b (scheduleStep off s) := State.put_lasts (.of_view h rfl)

theorem beginSlew_lasts {off : Int} (h : Lasts k b s) : Lasts k b (beginSlew off s) := State.put_lasts (beginSteer_lasts h)

theorem disciplineLocked_lasts {off : Int} (h : Lasts k b s) : Lasts k b (disciplineLocked off s) :=
  ite_lasts (.of_view h rfl) (ite_lasts (.of_view (.of_view (.of_view h rfl) rfl) rfl) (beginSteer_lasts (.of_view
    (.of_view h rfl) rfl)))

theorem enterHoldover_lasts (h : Lasts k b s) : Lasts k b (enterHoldover s) :=
  raise0_lasts (State.put_lasts (steer_lasts (State.put_lasts h)))

theorem discipline_lasts {valid : Bool} {off : Int} (h : Lasts k b s) : Lasts k b (discipline valid off s) := by
  have noted : Lasts k b (if valid then { s with nav := { s.nav with lastValid := s.now } } else s) := ite_lasts (nav_lasts h) h
  refine ite_lasts (ite_lasts (disciplineLocked_lasts noted) (ite_lasts (enterHoldover_lasts noted) noted))
    (ite_lasts (ite_lasts (ite_lasts (nav_lasts noted) (ite_lasts (scheduleStep_lasts (nav_lasts noted)) ?_)) (nav_lasts noted)) noted)
  exact raise0_lasts (beginSlew_lasts (State.put_lasts (nav_lasts (nav_lasts noted))))

theorem startTimeState_lasts (h : Lasts k b s) : Lasts k b (startTimeState s) :=
  ite_lasts (State.put_lasts h) (ite_lasts h (State.put_lasts h))

theorem receiverStart_lasts (h : Lasts k b s) : Lasts k b (receiverStart s) := ite_lasts h (.of_view h rfl)

theorem channelsIdle_lasts (h : Lasts k b s) : Lasts k b (channelsIdle s) := State.put_lasts (.of_view h rfl)

theorem receiverStop_lasts (h : Lasts k b s) : Lasts k b (receiverStop s) :=
  ite_lasts h (ite_lasts (raise0_lasts (ite_lasts (State.put_lasts (State.put_lasts (State.put_lasts
    (channelsIdle_lasts (.of_view h rfl))))) (raise0_lasts (State.put_lasts (State.put_lasts (State.put_lasts
    (channelsIdle_lasts (.of_view h rfl)))))))) (ite_lasts (State.put_lasts (State.put_lasts (State.put_lasts
    (channelsIdle_lasts (.of_view h rfl))))) (raise0_lasts (State.put_lasts (State.put_lasts (State.put_lasts
    (channelsIdle_lasts (.of_view h rfl))))))))

theorem holdoverWatch_lasts (h : Lasts k b s) : Lasts k b (holdoverWatch s) := ite_lasts (enterHoldover_lasts h) h

theorem receiverWatch_lasts (h : Lasts k b s) : Lasts k b (receiverWatch s) :=
  holdoverWatch_lasts (receiverStop_lasts (receiverStart_lasts h))

theorem setAttitude_lasts {baseline azimuth : Nat} (h : Lasts k b s) : Lasts k b (setAttitude baseline azimuth s) :=
  State.puts_lasts (State.puts_lasts h)

theorem reportPosition_lasts {lat lon hgt : Int} (h : Lasts k b s) : Lasts k b (reportPosition lat lon hgt s) :=
  nav_lasts (State.puts_lasts (State.put64_lasts (State.put64_lasts h)))

theorem fixShown_lasts (h : Lasts k b s) {fix sats : Nat} {speed : Int} : Lasts k b (fixShown fix sats speed s) :=
  State.puts_lasts (ite_lasts (raise0_lasts (State.put_lasts (State.put_lasts (nav_lasts h)))) (State.put_lasts (State.put_lasts
      (nav_lasts h))))

theorem headingShown_lasts (h : Lasts k b s) {valid : Bool} {heading : Nat} : Lasts k b (headingShown valid heading s) :=
  State.put_lasts (ite_lasts (State.put_lasts h) h)

theorem leapTaken_lasts (h : Lasts k b s) {leap : Option Int} : Lasts k b (leapTaken leap s) := by
  cases leap with
  | none => exact h
  | some l => exact State.put_lasts (State.puts_lasts h)

theorem reportFix_lasts {x : GnssFix} (h : Lasts k b s) : Lasts k b (reportFix x s) := by
  have shown {valid : Bool} {heading : Nat} {v : State} (hv : Lasts k b v) :
      Lasts k b (setAttitude x.baseline x.azimuth (headingShown valid heading v)) := setAttitude_lasts (headingShown_lasts hv)
  have told {lost : Bool} {v : State} (hv : Lasts k b v) : Lasts k b (headingTold lost v) := ite_lasts (raise0_lasts hv) hv
  have located {fix : Nat} {v : State} (hv : Lasts k b v) : Lasts k b (positionShown fix x v) := ite_lasts hv (reportPosition_lasts hv)
  rw [reportFix_eq]
  exact leapTaken_lasts (located (told (shown (fixShown_lasts h))))

theorem fixWatch_lasts (h : Lasts k b s) : Lasts k b (fixWatch s) := .of_view h rfl

theorem takeNavData_lasts {x : GnssFix} (h : Lasts k b s) : Lasts k b (takeNavData x s) :=
  foldOver_lasts (foldOver_lasts (.of_view h rfl) (fun _ _ h' => gather_lasts h')) (fun _ _ h' => learnOrbit_lasts h')

theorem gnssEpoch_lasts {x : GnssFix} (h : Lasts k b s) : Lasts k b (gnssEpoch x s) := by
  have watched := receiverWatch_lasts h
  have offset {valid : Bool} {off : Int} {v : State} (hv : Lasts k b v) : Lasts k b (offsetShown valid off v) :=
    ite_lasts (State.puts_lasts (nav_lasts hv)) hv
  have judged {valid : Bool} {off : Int} {v : State} (hv : Lasts k b v) : Lasts k b (timeJudged valid off v) :=
    ite_lasts (discipline_lasts hv) (ite_lasts (nav_lasts hv) hv)
  exact ite_lasts watched (judged (fixWatch_lasts (reportFix_lasts (refreshSource_lasts (offset (takeNavData_lasts
      (startTimeState_lasts watched)))))))

theorem slewEnd_lasts (h : Lasts k b s) : Lasts k b (slewEnd s) := ite_lasts (State.put_lasts h) h

theorem suppressPulse_lasts (h : Lasts k b s) : Lasts k b (suppressPulse s) := .of_view h rfl

theorem timeStep_lasts (h : Lasts k b s) : Lasts k b (timeStep s) := by
  unfold timeStep
  split
  · exact h
  · exact ite_lasts h (raise0_lasts (suppressPulse_lasts (State.put_lasts (State.put_lasts (stepTime_lasts
    (.of_view h rfl))))))

theorem dropDiscipline_lasts (h : Lasts k b s) : Lasts k b (dropDiscipline s) := State.put_lasts (.of_view h rfl)

theorem noteTstat_lasts {tstat : Nat} (h : Lasts k b s) : Lasts k b (noteTstat tstat s) := .of_view h rfl

theorem timePulse_lasts (h : Lasts k b s) : Lasts k b (timePulse s) := by
  unfold timePulse
  split
  · exact h
  · exact ite_lasts h (ite_lasts (nav_lasts h) (emit_lasts (nav_lasts (State.setReg_lasts (State.put64_lasts (nav_lasts h))))))

theorem writePpsDelay_lasts {v : Int} (h : Lasts k b s) : Lasts k b (writePpsDelay v s).1 :=
  ite_fst_lasts h (State.puts_lasts (.of_view h rfl))

theorem runPpsDelaySet_lasts {p : Request} (h : Lasts k b s) : Lasts k b (runPpsDelaySet p s).st := by
  unfold runPpsDelaySet
  split
  next _ _ _ x4 => exact ite_st_lasts (ok_lasts (Lasts.fst (writePpsDelay_lasts h) x4)) (refuse_lasts h)

theorem antFault_lasts {antB : Bool} {cur : Nat} {low limit : Bool} (h : Lasts k b s) :
    Lasts k b (antFault antB cur low limit s) :=
  ite_lasts (raise0_lasts (State.put_lasts (State.put_lasts (State.put_lasts (.of_view h rfl))))) (State.put_lasts
    (State.put_lasts (State.put_lasts (.of_view h rfl))))

theorem dumpChannel_lasts {x : ChannelDump} (h : Lasts k b s) : Lasts k b (dumpChannel s x) :=
  ite_lasts h (nav_lasts (State.setReg_lasts (State.puts_lasts (State.setReg_lasts h))))

theorem countTracking_lasts (h : Lasts k b s) : Lasts k b (countTracking s) := State.put_lasts h

theorem acquisitionDone_lasts {n sig sv : Nat} {antB aided found : Bool} {doppler : Int} (h : Lasts k b s) :
    Lasts k b (acquisitionDone n sig sv antB aided found doppler s) := by
  unfold acquisitionDone
  dsimp only
  split
  · exact receiverStart_lasts h
  · split
    · exact receiverStart_lasts h
    · exact State.puts_lasts (State.setReg_lasts (State.setReg_lasts (.of_view (receiverStart_lasts h) rfl)))

theorem runGnssStatus_lasts {p : Request} (h : Lasts k b s) : Lasts k b (runGnssStatus p s).st :=
  ite_st_lasts (ok_lasts h) (ite_st_lasts (ok_lasts h) (ite_st_lasts (ok_lasts h) (refuse_lasts h)))

/-! ### Steering -/

theorem releaseSteer_lasts {reason : Nat} (h : Lasts k b s) : Lasts k b (releaseSteer reason s) :=
  ite_lasts (raise0_lasts (State.put_lasts (State.put_lasts h))) h

theorem runGuidanceSet_lasts {p : Request} (h : Lasts k b s) : Lasts k b (runGuidanceSet p s).st :=
  ite_st_lasts (refuse_lasts h) (ite_st_lasts (refuse_lasts h) (ok_lasts (State.setReg_lasts (State.put_lasts
    (ite_lasts (.of_view h rfl) (State.put_lasts (.of_view h rfl)))))))

theorem edgeFrame_lasts {f : FusionFrame} (h : Lasts k b s) : Lasts k b (edgeFrame f s) := by
  unfold edgeFrame
  split
  · exact h
  · exact ite_lasts h (ite_lasts (State.put_lasts (.of_view h rfl)) (ite_lasts (State.put_lasts (.of_view h rfl))
    (raise0_lasts (State.put_lasts (.of_view h rfl)))))

theorem edgeTimeout_lasts (h : Lasts k b s) : Lasts k b (edgeTimeout s) := ite_lasts (releaseSteer_lasts h) h

theorem enableWatch_lasts (h : Lasts k b s) : Lasts k b (enableWatch s) := ite_lasts h (.of_view h rfl)

theorem enableFilter_lasts (h : Lasts k b s) : Lasts k b (enableFilter s) :=
  ite_lasts (ite_lasts (.of_view (enableWatch_lasts h) rfl) (releaseSteer_lasts (.of_view (enableWatch_lasts h) rfl)))
    (enableWatch_lasts h)

theorem overrideWatch_lasts (h : Lasts k b s) : Lasts k b (overrideWatch s) := .of_view h rfl

theorem overrideExpiry_lasts (h : Lasts k b s) : Lasts k b (overrideExpiry s) := by
  unfold overrideExpiry
  split
  · exact h
  · exact ite_lasts (releaseSteer_lasts h) h

theorem graceExpiry_lasts (h : Lasts k b s) : Lasts k b (graceExpiry s) :=
  ite_lasts (releaseSteer_lasts h) (ite_lasts (releaseSteer_lasts h) h)

theorem speedExpiry_lasts (h : Lasts k b s) : Lasts k b (speedExpiry s) := by
  unfold speedExpiry
  split
  · exact h
  · exact ite_lasts (releaseSteer_lasts h) h

theorem steerCycle_lasts (h : Lasts k b s) : Lasts k b (steerCycle s) := ite_lasts h (State.puts_lasts (.of_view h rfl))

theorem propagate_lasts {x : NavPoint} (h : Lasts k b s) : Lasts k b (propagate x s) :=
  fixWatch_lasts (State.puts_lasts (reportPosition_lasts (setAttitude_lasts (State.put_lasts h))))

theorem releasedIf_lasts (h : Lasts k b s) {cause : Bool} {reason : Nat} : Lasts k b (releasedIf cause reason s) :=
  ite_lasts (releaseSteer_lasts h) h

theorem guidedBy_lasts (h : Lasts k b s) {ey epsi kap : F64} : Lasts k b (guidedBy ey epsi kap s) :=
  State.puts_lasts (State.puts_lasts (nav_lasts (ite_lasts (State.put_lasts (nav_lasts h)) h)))

theorem lawApplied_lasts (h : Lasts k b s) : Lasts k b (lawApplied s) := by
  unfold lawApplied
  split
  · exact h
  · split
    · exact nav_lasts h
    · exact releasedIf_lasts (guidedBy_lasts (nav_lasts h))

theorem steerCompute_lasts (h : Lasts k b s) : Lasts k b (steerCompute s) := by
  rw [steerCompute_law]
  exact releasedIf_lasts (releasedIf_lasts (lawApplied_lasts (overrideWatch_lasts h)))

theorem runSteerEngage_lasts {p : Request} (h : Lasts k b s) : Lasts k b (runSteerEngage p s).st := by
  unfold runSteerEngage
  dsimp only
  split
  · exact refuse_lasts h
  · split
    · exact ok_lasts (State.put_lasts h)
    · split
      · exact State.put_lasts h
      · split
        · split
          · exact State.put_lasts h
          · exact State.put_lasts h
        · split
          · exact State.put_lasts h
          · exact ok_lasts (raise0_lasts (State.put_lasts (State.put_lasts (State.puts_lasts (nav_lasts h)))))

theorem runSteerRelease_lasts {p : Request} (h : Lasts k b s) : Lasts k b (runSteerRelease p s).st :=
  ite_st_lasts (refuse_lasts h) (ok_lasts (releaseSteer_lasts h))

theorem readInput_lasts {r : Reading} (h : Lasts k b s) : Lasts k b (readInput r s) := enableWatch_lasts (takeReading_lasts h)

end

end Sys2Proof.Machine
end

section
/-!
SUPPORT for O60. What stands under yield mapping and the consist.
-/

namespace Sys2Proof.Machine

section
variable {k : Latitude} {b s t : State}

/-! ### Yield mapping -/

theorem modField_lasts {id : Nat} {f : Field → Field} (h : Lasts k b s) : Lasts k b (modField id f s) := .of_view h rfl

theorem flushField_lasts (h : Lasts k b s) : Lasts k b (flushField s) := by
  unfold flushField
  split
  · exact h
  · exact modField_lasts (.of_view h rfl)

theorem fieldFull_lasts (h : Lasts k b s) : Lasts k b (fieldFull s) := ite_lasts h (raise0_lasts (.of_view h rfl))

theorem modLive_lasts {f : FieldData → FieldData} (h : Lasts k b s) : Lasts k b (modLive f s) := .of_view h rfl

theorem addUnmapped_lasts {m : F64} (h : Lasts k b s) : Lasts k b (addUnmapped m s) := ite_lasts (modLive_lasts h) h

theorem changeCell_lasts {e n : Int} {f : YieldCell → YieldCell} {u : State} (h : Lasts k b s) (hu : changeCell e n f s = some u) :
    Lasts k b u := by
  unfold changeCell at hu
  dsimp only at hu
  split at hu
  · exact Option.some.inj hu ▸ modLive_lasts h
  · simp only [Option.ite_none_right_eq_some, Option.some.injEq] at hu
    exact hu.2 ▸ modLive_lasts h

theorem noteRow_lasts {e n : Int} (h : Lasts k b s) : Lasts k b (noteRow e n s) := ite_lasts h (.of_view h rfl)

theorem contribute_lasts {pt : F64 × F64} {mass area moist : F64} {lowFix : Bool} (h : Lasts k b s) :
    Lasts k b (contribute pt mass area moist lowFix s) := by
  unfold contribute
  dsimp only
  split
  · exact fieldFull_lasts (addUnmapped_lasts h)
  next _ _ x3 => exact ite_lasts (noteRow_lasts (modLive_lasts (changeCell_lasts h x3))) (modLive_lasts
    (changeCell_lasts h x3))

theorem yieldCycle_lasts (h : Lasts k b s) : Lasts k b (yieldCycle s) := ite_lasts h (.of_view h rfl)

theorem dropSamples_lasts {now : Nat} (h : Lasts k b s) : Lasts k b (dropSamples now s) :=
  foldOver_lasts (.of_view h rfl) (fun _ _ h' => ite_lasts h' (addUnmapped_lasts h'))

theorem yieldSample_lasts (h : Lasts k b s) : Lasts k b (yieldSample s) := by
  unfold yieldSample
  split
  · exact h
  · exact ite_lasts h (dropSamples_lasts (.of_view h rfl))

theorem placeSection_lasts {m w : F64} {wTotal k' : Nat} {p0 p1 left : F64 × F64} {d : F64} {low : Bool} {i : Nat}
    (h : Lasts k b s) : Lasts k b (placeSection m w wTotal k' p0 p1 left d low s i) :=
  foldOver_lasts h (fun _ _ h' => foldOver_lasts h' (fun _ _ h'' => contribute_lasts h''))

theorem assignMass_lasts {t : Nat} (h : Lasts k b s) : Lasts k b (assignMass t s).2 := by
  unfold assignMass
  split
  · exact h
  · exact ite_snd_lasts h (.of_view h rfl)

theorem logCut_lasts {tau : Nat} {x : YieldSample} {p : F64 × F64} {w : Nat} (h : Lasts k b s) :
    Lasts k b (logCut tau x p w s) := ite_lasts (modLive_lasts h) h

theorem cutLogged_lasts (h : Lasts k b s) {field : Option Field} {x : Option YieldSample} {tau : Nat} : Lasts k b (match field, x with
    | some f, some x => logCut tau x (samplePlace s f x) (cutWidth s x.sect x.headland) s
    | _, _ => s) := by
  split
  · exact logCut_lasts h
  · exact h

theorem placeCut_lasts {tau : Nat} (h : Lasts k b s) : Lasts k b (placeCut tau s) := by
  have assigned := assignMass_lasts h (t := tau + s.get F.YLD_DELAY_FLOW_DELAY * 100 * ms)
  unfold placeCut
  generalize assignMass _ s = r at assigned ⊢
  obtain ⟨m, u⟩ := r
  have logged {field : Option Field} {x : Option YieldSample} := cutLogged_lasts (field := field) (x := x) (tau := tau)
    (yld_lasts assigned (x := { u.yld with mapping := false }))
  dsimp only at logged ⊢
  split
  · refine ite_lasts (addUnmapped_lasts logged) (foldOver_lasts (yld_lasts logged) fun _ _ h' => placeSection_lasts h')
  · exact addUnmapped_lasts logged

theorem cutInstant_lasts (h : Lasts k b s) : Lasts k b (cutInstant s) := by
  unfold cutInstant
  split
  · exact h
  · exact ite_lasts h (placeCut_lasts (.of_view h rfl))

theorem restartYield_lasts (h : Lasts k b s) : Lasts k b (restartYield s) := .of_view h rfl

theorem closeField_lasts (h : Lasts k b s) : Lasts k b (closeField s) := by
  unfold closeField
  split
  · exact h
  next id _ =>
    have written {span : Nat × Nat} : Lasts k b (modField id (fun f => { f with genF := (f.genF + 1) % 4294967296 })
        (flushField (modLive (fun d => { d with openings := d.openings ++ [span] }) s))) :=
      modField_lasts (flushField_lasts (modLive_lasts h))
    exact raise0_lasts (.of_view written rfl)

theorem openField_lasts {f : Field} (h : Lasts k b s) : Lasts k b (openField f s) := raise0_lasts (.of_view h rfl)

theorem runFieldOpen_lasts {p : Request} (h : Lasts k b s) : Lasts k b (runFieldOpen p s).st := by
  unfold runFieldOpen
  dsimp only
  split
  · exact refuse_lasts h
  · split
    · exact refuse_lasts h
    · split
      · exact ok_lasts h
      · split
        · exact ite_st_lasts (refuse_lasts h) (ok_lasts (openField_lasts (closeField_lasts h)))
        · exact ite_st_lasts (refuse_lasts h) (ok_lasts (openField_lasts (.of_view (closeField_lasts h) rfl)))

theorem runFieldClose_lasts {p : Request} (h : Lasts k b s) : Lasts k b (runFieldClose p s).st :=
  ite_st_lasts (refuse_lasts h) (ite_st_lasts (ok_lasts (ite_lasts (closeField_lasts h) h)) (ite_st_lasts
    (ite_st_lasts (refuse_lasts h) (ok_lasts (.of_view h rfl))) (refuse_lasts h)))

theorem runYieldTileRead_lasts {p : Request} (h : Lasts k b s) : Lasts k b (runYieldTileRead p s).st := by
  unfold runYieldTileRead
  dsimp only
  split
  · exact refuse_lasts h
  · exact ite_st_lasts (ite_st_lasts (refuse_lasts h) (ok_lasts h)) (ite_st_lasts (ok_lasts h) (refuse_lasts h))

theorem runYieldStatus_lasts {p : Request} (h : Lasts k b s) :
    Lasts k b (runYieldStatus p s).st := ok_lasts h

theorem runTaskExport_lasts {p : Request} (h : Lasts k b s) : Lasts k b (runTaskExport p s).st := by
  unfold runTaskExport
  dsimp only
  split
  · exact refuse_lasts h
  · split
    · exact refuse_lasts h
    · split
      · exact refuse_lasts h
      · exact ok_lasts h

/-! ### The consist -/

theorem modCst_lasts {f : ConsistPart → ConsistPart} (h : Lasts k b s) : Lasts k b (modCst f s) := .of_view h rfl

theorem reserveSeq_lasts (h : Lasts k b s) : Lasts k b (reserveSeq s) := modCst_lasts h

theorem sendConsist_lasts {type consist member : Nat} {payload : Bytes} (h : Lasts k b s) :
    Lasts k b (sendConsist type consist member payload s) := by
  unfold sendConsist
  split
  · exact h
  · exact emit_lasts (State.put_lasts (modCst_lasts (ite_lasts h (reserveSeq_lasts h))))

theorem authFail_lasts (h : Lasts k b s) : Lasts k b (authFail s) :=
  ite_lasts (State.bump_lasts h) (raise0_lasts (modCst_lasts (State.bump_lasts h)))

theorem noteSeq_lasts {sender seq : Nat} (h : Lasts k b s) : Lasts k b (noteSeq sender seq s) := by
  unfold noteSeq
  split
  · exact modCst_lasts h
  · exact modCst_lasts h

theorem openDatagram_lasts {d : Bytes} (h : Lasts k b s) : Lasts k b (openDatagram d s).1 := by
  unfold openDatagram
  dsimp only
  split
  · exact authFail_lasts h
  · split
    · exact authFail_lasts h
    · exact ite_fst_lasts (authFail_lasts h) (ite_fst_lasts (State.bump_lasts h) (noteSeq_lasts h))

theorem receiveDatagram_lasts {type : Nat} {f : Datagram → State → State} {d : UdpDatagram} (h : Lasts k b s)
    (hf : ∀ x s, Lasts k b s → Lasts k b (f x s)) : Lasts k b (receiveDatagram type f d s) := by
  unfold receiveDatagram
  refine ite_lasts h ?_
  split
  next opened => exact .fst (openDatagram_lasts h) opened
  next x opened => exact ite_lasts (hf x _ (.fst (openDatagram_lasts h) opened)) (.fst (openDatagram_lasts h) opened)

theorem runConsistKeySet_lasts {p : Request} (h : Lasts k b s) : Lasts k b (runConsistKeySet p s).st :=
  ite_st_lasts (refuse_lasts h) (ok_lasts (modCst_lasts h))

theorem setRdvState_lasts {st partner : Nat} (h : Lasts k b s) : Lasts k b (setRdvState st partner s) :=
  ite_lasts (State.put_lasts (State.put_lasts h)) (raise0_lasts (State.put_lasts (State.put_lasts h)))

theorem sendRdv_lasts {id kind target side reason eta : Nat} (h : Lasts k b s) :
    Lasts k b (sendRdv id kind target side reason eta s) := ite_lasts h (sendConsist_lasts h)

theorem endRdv_lasts {reason : Nat} (h : Lasts k b s) : Lasts k b (endRdv reason s) := by
  unfold endRdv
  split
  · exact h
  · exact setRdvState_lasts (State.put_lasts (modCst_lasts (ite_lasts h (sendRdv_lasts h))))

theorem partnerGone_lasts {m : Nat} (h : Lasts k b s) : Lasts k b (partnerGone m s) := ite_lasts (endRdv_lasts h) h

theorem startListening_lasts {consist st : Nat} (h : Lasts k b s) : Lasts k b (startListening consist st s) := by
  unfold startListening
  exact modCst_lasts (State.setReg_lasts (State.put_lasts h))

theorem leaveTable_lasts (h : Lasts k b s) : Lasts k b (leaveTable s) := by
  unfold leaveTable
  exact modCst_lasts (State.setReg_lasts (State.put_lasts (State.put_lasts h)))

theorem leaveConsist_lasts (h : Lasts k b s) : Lasts k b (leaveConsist s) :=
  ite_lasts (leaveTable_lasts (endRdv_lasts h)) (ite_lasts h (leaveTable_lasts (modCst_lasts (sendConsist_lasts
    (endRdv_lasts h)))))

theorem leaveRepeat_lasts (h : Lasts k b s) : Lasts k b (leaveRepeat s) := by
  unfold leaveRepeat
  split
  · exact h
  · exact ite_lasts h (sendConsist_lasts (modCst_lasts h))

theorem runConsistJoin_lasts {p : Request} (h : Lasts k b s) : Lasts k b (runConsistJoin p s).st :=
  ite_st_lasts (refuse_lasts h) (ite_st_lasts (ok_lasts h) (ite_st_lasts (refuse_lasts h) (ite_st_lasts
    (refuse_lasts h) (startListening_lasts (leaveTable_lasts (leaveConsist_lasts h))))))

theorem listenOver_lasts {u : State} {r : Option Nat} (h : Lasts k b s) (hu : listenOver s = some (u, r)) : Lasts k b u := by
  unfold listenOver at hu
  split at hu
  · cases hu
  · split at hu
    · cases hu
    · split at hu
      · simp only [Option.some.injEq, Prod.mk.injEq] at hu
        exact hu.1 ▸ leaveTable_lasts h
      · simp only [Option.some.injEq, Prod.mk.injEq] at hu
        exact hu.1 ▸ raise0_lasts (State.put_lasts (State.put_lasts (State.put_lasts (modCst_lasts h))))

theorem joinListenEnd_lasts (h : Lasts k b s) : Lasts k b (joinListenEnd s) := by
  unfold joinListenEnd
  split
  · exact h
  next u r listened =>
    have left : Lasts k b u := listenOver_lasts h (Option.ite_none_right_eq_some.mp listened).2
    refine foldOver_lasts left fun s w hs => ?_
    split <;> exact completeWaiting_lasts hs

theorem runConsistLeave_lasts {p : Request} (h : Lasts k b s) : Lasts k b (runConsistLeave p s).st :=
  ite_st_lasts (refuse_lasts h) (ok_lasts (leaveConsist_lasts h))

theorem heartbeatSend_lasts (h : Lasts k b s) : Lasts k b (heartbeatSend s) :=
  ite_lasts h (ite_lasts (State.bump_lasts (modCst_lasts h)) (sendConsist_lasts (drawn_lasts (modCst_lasts h))))

theorem takeHeartbeat_lasts {x : Datagram} (h : Lasts k b s) : Lasts k b (takeHeartbeat x s) :=
  ite_lasts (ite_lasts (raise0_lasts (startListening_lasts (ite_lasts (modCst_lasts h) h))) (ite_lasts
    (modCst_lasts h) h)) (ite_lasts (ite_lasts (modCst_lasts h) h) (modCst_lasts (ite_lasts (modCst_lasts h) h)))

theorem memberLost_lasts {n : Nat} (h : Lasts k b s) : Lasts k b (memberLost n s) := by
  unfold memberLost
  split
  · exact h
  · exact ite_lasts h (partnerGone_lasts (raise0_lasts (modCst_lasts h)))

theorem memberRemove_lasts {n : Nat} (h : Lasts k b s) : Lasts k b (memberRemove n s) := ite_lasts h (modCst_lasts h)

theorem takeLeave_lasts {x : Datagram} (h : Lasts k b s) : Lasts k b (takeLeave x s) := by
  unfold takeLeave
  dsimp only
  split
  · exact h
  · exact partnerGone_lasts (modCst_lasts h)

theorem restartConsist_lasts (h : Lasts k b s) : Lasts k b (restartConsist s) := by
  unfold restartConsist
  exact modCst_lasts (leaveTable_lasts (State.put_lasts (State.put_lasts (State.put_lasts h))))

theorem coverageSend_lasts (h : Lasts k b s) : Lasts k b (coverageSend s) := by
  unfold coverageSend
  dsimp only
  split
  · exact h
  · exact foldOver_lasts (modCst_lasts h) (fun _ _ h' => sendConsist_lasts h')

theorem coverCell_lasts {te tn : Int} {row c : Nat} (h : Lasts k b s) : Lasts k b (coverCell te tn row c s) := by
  refine ite_lasts h ?_
  split
  · exact ite_lasts h (fieldFull_lasts h)
  next found => exact changeCell_lasts h found

theorem takeRow_lasts {b' : Bytes} (h : Lasts k b s) : Lasts k b (takeRow s b') :=
  ite_lasts h (foldOver_lasts h (fun _ _ h' => ite_lasts (coverCell_lasts h') h'))

theorem takeCoverage_lasts {x : Datagram} (h : Lasts k b s) : Lasts k b (takeCoverage x s) := by
  unfold takeCoverage
  dsimp only
  split
  · exact State.bump_lasts h
  · exact ite_lasts (State.bump_lasts h) (foldOver_lasts h (fun _ _ h' => takeRow_lasts h'))

theorem modRdv_lasts {f : Rdv → Rdv} (h : Lasts k b s) : Lasts k b (modRdv f s) := modCst_lasts h

theorem offerSelect_lasts (h : Lasts k b s) : Lasts k b (offerSelect s) := by
  unfold offerSelect
  split
  · exact h
  · split
    · exact h
    · split
      · exact h
      · exact setRdvState_lasts (modRdv_lasts (foldOver_lasts (sendRdv_lasts h) (fun _ _ h' => ite_lasts h'
        (sendRdv_lasts h'))))

theorem offerTimeout_lasts (h : Lasts k b s) : Lasts k b (offerTimeout s) := by
  unfold offerTimeout
  split
  · exact h
  · exact ite_lasts (endRdv_lasts h) h

theorem trackTimeout_lasts (h : Lasts k b s) : Lasts k b (trackTimeout s) := by
  unfold trackTimeout
  split
  · exact h
  · exact ite_lasts (endRdv_lasts h) h

theorem requestSend_lasts (h : Lasts k b s) : Lasts k b (requestSend s) := by
  unfold requestSend
  split
  · exact h
  · exact ite_lasts (sendRdv_lasts (modRdv_lasts h)) h

theorem trackSend_lasts (h : Lasts k b s) : Lasts k b (trackSend s) := by
  unfold trackSend
  split
  · exact ite_lasts (sendRdv_lasts (modRdv_lasts h)) h
  · exact h

theorem takeRdv_lasts {x : Datagram} (h : Lasts k b s) : Lasts k b (takeRdv x s) := by
  unfold takeRdv
  dsimp only
  split
  · exact h
  · split
    · exact ite_lasts (sendRdv_lasts (modCst_lasts (.of_view h rfl))) h
    · split
      · exact h
      · split
        · split
          · exact h
          · exact ite_lasts (offerSelect_lasts (modRdv_lasts h)) h
        · split
          · exact ite_lasts (setRdvState_lasts (modCst_lasts h)) h
          · split
            · exact modCst_lasts h
            · split
              · exact h
              · exact ite_lasts h (ite_lasts (modRdv_lasts h) (ite_lasts (endRdv_lasts h) h))

theorem runRendezvousRequest_lasts {p : Request} (h : Lasts k b s) : Lasts k b (runRendezvousRequest p s).st :=
  ite_st_lasts (refuse_lasts h) (ite_st_lasts (ite_st_lasts (refuse_lasts h) (ok_lasts (setRdvState_lasts
    (sendRdv_lasts (modCst_lasts h))))) (ite_st_lasts (ok_lasts (endRdv_lasts h)) (ite_st_lasts (ok_lasts
    (State.put_lasts h)) (ite_st_lasts (ok_lasts (State.put_lasts h)) (refuse_lasts h)))))

theorem relayAll_lasts {fuel : Nat} (h : Lasts k b s) : Lasts k b (relayAll fuel s) := by
  induction fuel generalizing s with
  | zero => exact h
  | succ fuel ih =>
    unfold relayAll
    split
    · exact h
    · exact ite_lasts (.of_view h rfl) (ih (sendConsist_lasts (.of_view h rfl)))

theorem takeCorrections_lasts {x : Datagram} (h : Lasts k b s) : Lasts k b (takeCorrections x s) := ite_lasts (feedSource_lasts h) h

theorem runConsistStatus_lasts {p : Request} (h : Lasts k b s) : Lasts k b (runConsistStatus p s).st :=
  ite_st_lasts (ok_lasts h) (ite_st_lasts (ok_lasts h) (refuse_lasts h))

end

end Sys2Proof.Machine
end

section
/-!
SUPPORT for O60. What stands under clocks, levels, transfers and the CAN controllers.
-/

namespace Sys2Proof.Machine

section
variable {k : Latitude} {b s t : State}

/-! ### Clocks and levels -/

theorem modRef_lasts {xtal : Bool} {f : RefPart → RefPart} (h : Lasts k b s) : Lasts k b (modRef xtal f s) :=
  ite_lasts (.of_view h rfl) (.of_view h rfl)

theorem setSource_lasts {f : Fld} {v : Nat} (h : Lasts k b s) : Lasts k b (setSource f v s) :=
  ite_lasts h (raise0_lasts (State.put_lasts (ite_lasts (.of_view h rfl) h)))

theorem leaveRef_lasts {xtal : Bool} (h : Lasts k b s) : Lasts k b (leaveRef xtal s) :=
  foldOver_lasts h (fun _ _ h' => ite_lasts h' (ite_lasts (setSource_lasts h') (setSource_lasts h')))

theorem takeIdle_lasts {xtal : Bool} (h : Lasts k b s) : Lasts k b (takeIdle xtal s) :=
  foldOver_lasts h (fun _ _ h' => ite_lasts (setSource_lasts h') h')

theorem bothLost_lasts (h : Lasts k b s) : Lasts k b (bothLost s) :=
  limpEnter_lasts (raise0_lasts (fault_lasts (State.bump_lasts (State.put_lasts (foldOver_lasts h
    (fun _ _ h' => setSource_lasts h'))))))

theorem failRef_lasts {xtal : Bool} (h : Lasts k b s) : Lasts k b (failRef xtal s) :=
  ite_lasts h (ite_lasts (bothLost_lasts (raise0_lasts (fault_lasts (State.bump_lasts (modRef_lasts
    (State.put_lasts h)))))) (leaveRef_lasts (raise0_lasts (fault_lasts (State.bump_lasts (modRef_lasts
    (State.put_lasts h)))))))

theorem regain_lasts {xtal : Bool} (h : Lasts k b s) : Lasts k b (regain xtal s) :=
  ite_lasts (State.put_lasts (State.put_lasts (foldOver_lasts h (fun _ _ h' => ite_lasts (setSource_lasts h') h'))))
    (ite_lasts (raise0_lasts (limpExit_lasts (State.put_lasts (State.put_lasts (State.put_lasts (foldOver_lasts h
    (fun _ _ h' => ite_lasts (setSource_lasts h') h'))))))) (State.put_lasts (State.put_lasts (State.put_lasts
    (foldOver_lasts h (fun _ _ h' => ite_lasts (setSource_lasts h') h'))))))

theorem judgeRef_lasts {xtal : Bool} {code : Nat} (h : Lasts k b s) : Lasts k b (judgeRef xtal code s) := by
  refine ite_lasts h (ite_lasts (regain_lasts (ite_lasts (raise0_lasts (modRef_lasts ?_)) ?_))
    (takeIdle_lasts (ite_lasts (raise0_lasts (modRef_lasts ?_)) ?_)))
  all_goals exact clk_lasts (State.put_lasts h)

theorem crossWindow_lasts {xtal : Bool} {count ringT ringX : Nat} (h : Lasts k b s) :
    Lasts k b (crossWindow xtal count ringT ringX s) :=
  ite_lasts (State.put_lasts (modRef_lasts (State.puts_lasts h))) (ite_lasts (ite_lasts (judgeRef_lasts
    (modRef_lasts (ite_lasts (raise0_lasts (fault_lasts (State.bump_lasts (State.put_lasts (modRef_lasts
    (State.puts_lasts h)))))) (State.put_lasts (modRef_lasts (State.puts_lasts h)))))) (modRef_lasts (ite_lasts
    (raise0_lasts (fault_lasts (State.bump_lasts (State.put_lasts (modRef_lasts (State.puts_lasts h)))))) (State.put_lasts
    (modRef_lasts (State.puts_lasts h)))))) (ite_lasts (modRef_lasts (State.put_lasts (modRef_lasts (State.puts_lasts h))))
    (ite_lasts (failRef_lasts (ite_lasts (failRef_lasts (modRef_lasts (modRef_lasts (State.put_lasts (modRef_lasts
    (State.puts_lasts h)))))) (modRef_lasts (modRef_lasts (State.put_lasts (modRef_lasts (State.puts_lasts h)))))))
    (ite_lasts (failRef_lasts (modRef_lasts (modRef_lasts (State.put_lasts (modRef_lasts (State.puts_lasts h))))))
    (modRef_lasts (modRef_lasts (State.put_lasts (modRef_lasts (State.puts_lasts h)))))))))

theorem coarseWindow_lasts {xtal : Bool} {count : Nat} (h : Lasts k b s) : Lasts k b (coarseWindow xtal count s) :=
  ite_lasts (modRef_lasts h) (ite_lasts (ite_lasts (judgeRef_lasts (modRef_lasts (modRef_lasts h))) (modRef_lasts
    (modRef_lasts h))) (ite_lasts (modRef_lasts (modRef_lasts h)) (failRef_lasts (modRef_lasts (modRef_lasts h)))))

theorem refMissing_lasts {xtal : Bool} (h : Lasts k b s) : Lasts k b (refMissing xtal s) := failRef_lasts (modRef_lasts h)

theorem refReturn_lasts {xtal : Bool} (h : Lasts k b s) : Lasts k b (refReturn xtal s) := by
  unfold refReturn
  split
  · exact h
  · exact ite_lasts h (foldOver_lasts (modRef_lasts h) (fun _ _ h' => ite_lasts (setSource_lasts h') h'))

theorem refWait_lasts (h : Lasts k b s) : Lasts k b (refWait s) :=
  ite_lasts h (ite_lasts (.of_view h rfl) (ite_lasts (limpEnter_lasts (.of_view h rfl)) (.of_view (.of_view h rfl) rfl)))

theorem setGate_lasts {g v : Nat} (h : Lasts k b s) : Lasts k b (setGate g v s) := State.put_lasts h

theorem gateOpen_lasts {g : Nat} (h : Lasts k b s) : Lasts k b (gateOpen g s) := clk_lasts (setGate_lasts (State.putBit_lasts h))

theorem gateRequest_lasts {g : Nat} (h : Lasts k b s) : Lasts k b (gateRequest g s) :=
  ite_lasts (setGate_lasts (clk_lasts (State.putBit_lasts h))) (State.putBit_lasts h)

theorem gateClose_lasts {g : Nat} (h : Lasts k b s) : Lasts k b (gateClose g s) := ite_lasts (setGate_lasts (.of_view h rfl)) h

theorem gateForce_lasts {g : Nat} (h : Lasts k b s) : Lasts k b (gateForce g s) := by
  unfold gateForce
  split
  · exact h
  · exact ite_lasts (raise0_lasts (setGate_lasts (.of_view h rfl))) h

theorem setLevel_lasts {n : Nat} (h : Lasts k b s) : Lasts k b (setLevel n s) :=
  ite_lasts h (raise_lasts (State.put_lasts (State.put_lasts h)))

theorem modLvl_lasts {f : LevelPart → LevelPart} (h : Lasts k b s) : Lasts k b (modLvl f s) := .of_view h rfl

theorem canaryFail_lasts {n delay : Nat} (h : Lasts k b s) : Lasts k b (canaryFail n delay s) :=
  raise_lasts (fault_lasts (State.bump_lasts (State.put_lasts (modLvl_lasts h))))

theorem lowerCeiling_lasts {n delay : Nat} (h : Lasts k b s) : Lasts k b (lowerCeiling n delay s) := fault_lasts (State.put_lasts h)

theorem levelAnswer_lasts (h : Lasts k b s) : Lasts k b (levelAnswer s) := ite_lasts (completeOwn_lasts h) h

theorem noteSlack_lasts {delay : Nat} (h : Lasts k b s) : Lasts k b (noteSlack delay s) := State.puts_lasts h

theorem watchLevel_lasts {delay : Nat} (h : Lasts k b s) : Lasts k b (watchLevel delay s).1 := by
  unfold watchLevel
  dsimp only
  split
  · exact ite_lasts (lowerCeiling_lasts (canaryFail_lasts (modLvl_lasts h))) (canaryFail_lasts (modLvl_lasts h))
  · exact lvl_lasts h

theorem sequencerCheck_lasts {delay : Nat} (h : Lasts k b s) : Lasts k b (sequencerCheck delay s) := by
  unfold sequencerCheck
  split
  · exact h
  · split
    next _ _ _ x4 => exact levelAnswer_lasts (ite_lasts (raise_lasts (ite_lasts (modLvl_lasts (State.put_lasts
      (State.put_lasts (Lasts.fst (watchLevel_lasts (noteSlack_lasts h)) x4)))) (ite_lasts (setLevel_lasts (Lasts.fst
      (watchLevel_lasts (noteSlack_lasts h)) x4)) (Lasts.fst (watchLevel_lasts (noteSlack_lasts h)) x4)))) (ite_lasts
      (modLvl_lasts (State.put_lasts (State.put_lasts (Lasts.fst (watchLevel_lasts (noteSlack_lasts h)) x4)))) (ite_lasts
      (setLevel_lasts (Lasts.fst (watchLevel_lasts (noteSlack_lasts h)) x4)) (Lasts.fst (watchLevel_lasts
      (noteSlack_lasts h)) x4))))

theorem raiseDone_lasts {delay : Nat} (h : Lasts k b s) : Lasts k b (raiseDone delay s) := by
  unfold raiseDone
  split
  · exact h
  · exact ite_lasts h (ite_lasts (levelAnswer_lasts (modLvl_lasts (State.put_lasts (State.put_lasts h)))) (ite_lasts
    (levelAnswer_lasts (noteSlack_lasts (setLevel_lasts (modLvl_lasts (State.put_lasts h))))) (ite_lasts h (ite_lasts
    (levelAnswer_lasts (raise_lasts (lowerCeiling_lasts (canaryFail_lasts (modLvl_lasts (State.put_lasts
    (State.put_lasts h))))))) (modLvl_lasts (canaryFail_lasts (modLvl_lasts (State.put_lasts (State.put_lasts h)))))))))

theorem faceTemp_lasts {face yard : Int} {sigMv : Nat} (h : Lasts k b s) : Lasts k b (faceTemp face yard sigMv s) :=
  ite_lasts (raise_lasts (ite_lasts (raise_lasts (gather_lasts (gather_lasts (State.put_lasts (State.put_lasts
    (State.puts_lasts (State.puts_lasts (modLvl_lasts h)))))))) (ite_lasts (raise_lasts (gather_lasts (gather_lasts
    (State.put_lasts (State.put_lasts (State.puts_lasts (State.puts_lasts (modLvl_lasts h)))))))) (gather_lasts
    (gather_lasts (State.put_lasts (State.put_lasts (State.puts_lasts (State.puts_lasts (modLvl_lasts h))))))))))
    (ite_lasts (raise_lasts (gather_lasts (gather_lasts (State.put_lasts (State.put_lasts (State.puts_lasts
    (State.puts_lasts (modLvl_lasts h)))))))) (ite_lasts (raise_lasts (gather_lasts (gather_lasts (State.put_lasts
    (State.put_lasts (State.puts_lasts (State.puts_lasts (modLvl_lasts h)))))))) (gather_lasts (gather_lasts
    (State.put_lasts (State.put_lasts (State.puts_lasts (State.puts_lasts (modLvl_lasts h)))))))))

theorem runLevelSet_lasts {p : Request} (h : Lasts k b s) : Lasts k b (runLevelSet p s).st :=
  ite_st_lasts (refuse_lasts h) (ite_st_lasts (ok_lasts h) (ite_st_lasts (refuse_lasts h) (ite_st_lasts
    (refuse_lasts h) (ite_st_lasts (die_lasts (State.put_lasts h)) (ite_st_lasts (ok_lasts (State.put_lasts h))
    (State.put_lasts h))))))

theorem runLevelStatus_lasts {p : Request} (h : Lasts k b s) :
    Lasts k b (runLevelStatus p s).st := ok_lasts h

theorem runResume_lasts {p : Request} (h : Lasts k b s) :
    Lasts k b (runResume p s).st := ite_st_lasts (ok_lasts h) (ite_st_lasts (ok_lasts (limpExit_lasts h)) (refuse_lasts h))

/-! ### Descriptors and data streams -/

theorem memWrite_lasts {l : List (Nat × Byte)} (h : Lasts k b s) (hm : k.moves = true) : Lasts k b (memWrite l s) :=
  ⟨h.now, h.pending, h.keys, h.stored, fun no => absurd (hm.symm.trans no) (by decide)⟩

theorem modDma_lasts {c : Nat} {f : DmaChannel → DmaChannel} (h : Lasts k b s) : Lasts k b (modDma c f s) := .of_view h rfl

theorem offerDescriptor_lasts {c : Nat} {again : Bool} {d : Descriptor} (h : Lasts k b s) :
    Lasts k b (offerDescriptor c again d s) := ite_lasts h (State.wrapUp_lasts (modDma_lasts h))

theorem ownerLoss_lasts {c : Nat} (h : Lasts k b s) : Lasts k b (ownerLoss c s) :=
  ite_lasts (foldOver_lasts h (fun _ _ h' => skipInput_lasts h')) (ite_lasts (ite_lasts h (unitLost_lasts
    (modData_lasts h))) h)

theorem descriptorBad_lasts {c : Nat} {e : RingEntry} {code : Nat} (h : Lasts k b s) : Lasts k b (descriptorBad c e code s) :=
  ite_lasts (ownerLoss_lasts (fault_lasts (raise_lasts (State.bump_lasts h)))) (ite_lasts h (modDma_lasts h))

theorem completeDescriptor_lasts {c code residue : Nat} (h : Lasts k b s) : Lasts k b (completeDescriptor c code residue s) := by
  unfold completeDescriptor
  dsimp only
  split
  · exact h
  · exact ite_lasts (ite_lasts (raise_lasts (State.put_lasts (State.wrapUp_lasts (State.wrapUp_lasts (modDma_lasts h)))))
    (State.put_lasts (State.wrapUp_lasts (State.wrapUp_lasts (modDma_lasts h))))) (descriptorBad_lasts (raise_lasts
    (State.put_lasts (State.put_lasts (State.bump_lasts (ite_lasts (raise_lasts (State.put_lasts (State.wrapUp_lasts
    (State.wrapUp_lasts (modDma_lasts h))))) (State.put_lasts (State.wrapUp_lasts (State.wrapUp_lasts
    (modDma_lasts h))))))))))

theorem startDescriptor_lasts {c : Nat} (h : Lasts k b s) : Lasts k b (startDescriptor c s) := by
  unfold startDescriptor
  split
  · exact h
  · split
    · exact h
    · exact ite_lasts (completeDescriptor_lasts (State.put_lasts (State.put_lasts (modDma_lasts h)))) (State.put_lasts
      (State.put_lasts (modDma_lasts h)))

theorem noteEcc_lasts {corrected uncorrected : Nat} (h : Lasts k b s) : Lasts k b (noteEcc corrected uncorrected s) :=
  ite_lasts (gather_lasts (State.bump_lasts (State.bump_lasts h))) (raise0_lasts (gather_lasts (State.bump_lasts
    (State.bump_lasts h))))

theorem endDescriptor_lasts {c : Nat} {e : DmaEnd} (h : Lasts k b s) (hm : k.moves = true) :
    Lasts k b (endDescriptor c e s) := by
  refine ite_lasts h ?_
  split
  · exact h
  · exact completeDescriptor_lasts (noteEcc_lasts (ite_lasts (State.bump_lasts (memWrite_lasts h hm)) (memWrite_lasts h hm)))

theorem resubmit_lasts {c : Nat} (h : Lasts k b s) : Lasts k b (resubmit c s) := by
  unfold resubmit
  dsimp only
  split
  · exact h
  · split
    · exact h
    · exact offerDescriptor_lasts (modDma_lasts h)

theorem writeStop_lasts {c : Nat} {v : Bool} (h : Lasts k b s) : Lasts k b (writeStop c v s) :=
  ite_lasts h (State.put_lasts (State.put_lasts h))

theorem stopDma_lasts (h : Lasts k b s) : Lasts k b (stopDma s) := by
  unfold stopDma
  have closed := closeDataOf_lasts (p := fun _ => true) h
  refine foldOver_lasts ?_ fun s c hs => State.setReg_lasts (State.setReg_lasts hs)
  exact ⟨closed.now, closed.pending, closed.keys, closed.stored, fun _ => .inr rfl⟩

theorem gateDescriptors_lasts {g : Nat} (h : Lasts k b s) : Lasts k b (gateDescriptors g s) :=
  foldOver_lasts h (fun _ _ h' => ite_lasts (modDma_lasts h') h')

theorem patrolPass_lasts {l : List (Nat × Nat × Nat)} (h : Lasts k b s) : Lasts k b (patrolPass l s) :=
  ite_lasts h (.of_view (foldOver_lasts h (fun _ _ h' => noteEcc_lasts h')) rfl)

theorem retirePage_lasts {page : Nat} (h : Lasts k b s) : Lasts k b (retirePage page s) :=
  ite_lasts h (fault_lasts (retire_lasts (.of_view h rfl)))

theorem runStreamOpen_lasts {p : Request} (h : Lasts k b s) : Lasts k b (runStreamOpen p s).st := by
  unfold runStreamOpen
  dsimp only
  split
  · exact refuse_lasts h
  · split
    · exact refuse_lasts h
    · split
      · exact ok_lasts h
      · exact refuse_lasts h
      · exact ite_st_lasts (refuse_lasts h) (ok_lasts (State.put_lasts (State.put_lasts (State.put_lasts (State.put_lasts
        (State.put_lasts (State.put_lasts (State.put_lasts (State.put_lasts (modData_lasts h))))))))))

theorem runStreamClose_lasts {p : Request} (h : Lasts k b s) : Lasts k b (runStreamClose p s).st :=
  ite_st_lasts (refuse_lasts h) (ok_lasts (ite_lasts (closeData_lasts h) h))

theorem sendDatagram_lasts {n : Nat} {bs : Bytes} (h : Lasts k b s) : Lasts k b (sendDatagram n bs s) := by
  unfold sendDatagram
  split
  · exact ite_lasts (modData_lasts h) (offerBe_lasts h)
  · split
    · exact h
    · exact emit_lasts h

theorem sendUnits_lasts {n fuel : Nat} (h : Lasts k b s) : Lasts k b (sendUnits n fuel s) := by
  induction fuel generalizing s with
  | zero => exact h
  | succ fuel ih =>
    unfold sendUnits
    dsimp only
    split
    · exact h
    · refine ite_lasts (ih (State.wrapUp_lasts (modData_lasts h))) (ite_lasts h (ih ?_))
      exact sendDatagram_lasts (modData_lasts h)

theorem streamUnitSend_lasts {n : Nat} (h : Lasts k b s) : Lasts k b (streamUnitSend n s) := ite_lasts h (sendUnits_lasts (modData_lasts h))

theorem runDmaStatus_lasts {p : Request} (h : Lasts k b s) : Lasts k b (runDmaStatus p s).st :=
  ite_st_lasts (ok_lasts h) (ite_st_lasts (ok_lasts h) (refuse_lasts h))

/-! ### The CAN controllers -/

theorem mdbEvent_lasts {src n : Nat} (h : Lasts k b s) : Lasts k b (mdbEvent src n s) := raise_lasts (State.put_lasts h)

theorem loadMessage_lasts {n k' m : Nat} (h : Lasts k b s) : Lasts k b (loadMessage n k' m s) := loadBuffer_lasts h

theorem loadWaiting_lasts {n fuel : Nat} (h : Lasts k b s) : Lasts k b (loadWaiting n fuel s) := by
  induction fuel generalizing s with
  | zero => exact h
  | succ fuel ih =>
    unfold loadWaiting
    split
    · exact ih (loadMessage_lasts (modControl_lasts h))
    · exact h

theorem sendInstance_lasts {m due_ : Nat} (h : Lasts k b s) : Lasts k b (sendInstance m due_ s) := by
  unfold sendInstance
  dsimp only
  split
  · exact h
  · split
    · exact h
    · split
      · exact loadMessage_lasts (State.put_lasts (modBuffer_lasts h))
      · exact loadWaiting_lasts (modControl_lasts h)

theorem messageDue_lasts {m : Nat} (h : Lasts k b s) : Lasts k b (messageDue m s) := by
  unfold messageDue
  split
  · exact h
  · split
    · exact ite_lasts h (ite_lasts h (sendInstance_lasts (.of_view h rfl)))
    · split
      · exact h
      · exact ite_lasts h (sendInstance_lasts (.of_view h rfl))

theorem refill_lasts {n : Nat} (h : Lasts k b s) : Lasts k b (refill n s) := nextFirmware_lasts (ite_lasts (loadWaiting_lasts h) h)

theorem judgePassive_lasts {n : Nat} (h : Lasts k b s) : Lasts k b (judgePassive n s) :=
  ite_lasts (mdbEvent_lasts (State.put_lasts h)) (ite_lasts (State.put_lasts h) h)

theorem frameSent_lasts {n : Nat} (h : Lasts k b s) : Lasts k b (frameSent n s) := by
  refine ite_lasts h ?_
  split
  · exact h
  next k' _ =>
    have sent {x y z : Nat} {f : TxBuffer → TxBuffer} : Lasts k b (judgePassive n (((((modBuffer n k' f s).put
        (txState n k') x).put (txRetries n k') y).wrapUp (F.MDB_C_CNT_TX_FRAMES n) 1).put (F.MDB_C_ERR_TEC n) z)) :=
      judgePassive_lasts (State.put_lasts (State.wrapUp_lasts (State.put_lasts (State.put_lasts (modBuffer_lasts h)))))
    dsimp only
    cases (txBuffer s n k').frame with
    | none => exact ite_lasts (restartAs_lasts (refill_lasts sent)) (refill_lasts sent)
    | some f =>
      have out {z : Nat} := emit_lasts (e := .canFrame n f) (sent (x := 2) (y := satN 8 (txBuffer s n k').errors) (z := z)
          (f := fun _ => {}))
      exact ite_lasts (restartAs_lasts (refill_lasts (ite_lasts (segmentSent_lasts out) out))) (refill_lasts (ite_lasts
          (segmentSent_lasts out) out))

theorem busOff_lasts {n : Nat} (h : Lasts k b s) : Lasts k b (busOff n s) :=
  mdbEvent_lasts (State.bump_lasts (State.put_lasts (ite_lasts (restartAs_lasts (modControl_lasts (foldOver_lasts h
    (fun _ _ h' => ite_lasts (State.bump_lasts (State.put_lasts (modBuffer_lasts h'))) h')))) (modControl_lasts
    (foldOver_lasts h (fun _ _ h' => ite_lasts (State.bump_lasts (State.put_lasts (modBuffer_lasts h'))) h'))))))

theorem abortRetry_lasts {n k' err : Nat} (h : Lasts k b s) : Lasts k b (abortRetry n k' err s) :=
  ite_lasts (restartAs_lasts (refill_lasts (fault_lasts (mdbEvent_lasts (State.bump_lasts (State.put_lasts
    (modBuffer_lasts h))))))) (refill_lasts (fault_lasts (mdbEvent_lasts (State.bump_lasts (State.put_lasts
    (modBuffer_lasts h))))))

theorem transmitError_lasts {n err : Nat} (h : Lasts k b s) : Lasts k b (transmitError n err s) := by
  unfold transmitError
  split
  · exact h
  · split
    · exact h
    · exact ite_lasts (busOff_lasts (State.put_lasts (State.put_lasts (State.put_lasts (modBuffer_lasts h))))) (ite_lasts
      (abortRetry_lasts (judgePassive_lasts (State.put_lasts (State.put_lasts (State.put_lasts (modBuffer_lasts h))))))
      (judgePassive_lasts (State.put_lasts (State.put_lasts (State.put_lasts (modBuffer_lasts h))))))

theorem busOn_lasts {n : Nat} (h : Lasts k b s) : Lasts k b (busOn n s) := by
  refine ite_lasts h (mdbEvent_lasts (ite_lasts (State.put_lasts (can_lasts ?_)) ?_))
  all_goals exact State.put_lasts (State.put_lasts (State.put_lasts h))

theorem gateController_lasts {n : Nat} (h : Lasts k b s) : Lasts k b (gateController n s) := by
  unfold gateController
  split
  · exact h
  · exact State.put_lasts (modBuffer_lasts h)

theorem addressClaim_lasts (h : Lasts k b s) : Lasts k b (addressClaim s) := by
  refine ite_lasts h (ite_lasts (sendFirmware_lasts (can_lasts (State.put_lasts (State.put_lasts h)))) ?_)
  split
  · exact h
  · exact ite_lasts h (State.put_lasts (State.put_lasts (can_lasts h)))

theorem contend_lasts {other : Nat} (h : Lasts k b s) : Lasts k b (contend other s) := by
  unfold contend
  split
  · exact h
  · exact ite_lasts (sendFirmware_lasts h) (mdbEvent_lasts (sendFirmware_lasts (can_lasts (State.put_lasts (State.put_lasts h)))))

theorem takeIsoFrame_lasts {f : CanFrame} (h : Lasts k b s) : Lasts k b (takeIsoFrame f s) :=
  ite_lasts h (ite_lasts (ite_lasts (contend_lasts h) h) (ite_lasts (ite_lasts h (sendFirmware_lasts h)) h))

theorem copyMatch_lasts {n k' : Nat} {f : CanFrame} (h : Lasts k b s) : Lasts k b (copyMatch n k' f s) :=
  raise0_lasts (foldOver_lasts (State.put64_lasts (State.setReg_lasts (State.setReg_lasts (ite_lasts
    (State.bump_lasts h) h)))) (fun _ _ h' => State.setReg_lasts h'))

theorem publish_lasts {f : CanFrame} {i : Nat} (h : Lasts k b s) : Lasts k b (publish f s i) := by
  unfold publish
  split
  · exact h
  · exact publishWord_lasts h

theorem receiveMessage_lasts {f : CanFrame} {r : Nat} (h : Lasts k b s) : Lasts k b (receiveMessage f s r) :=
  ite_lasts (ite_lasts (feedSource_lasts (State.putBit_lasts (.of_view h rfl))) (State.putBit_lasts (.of_view h rfl)))
    (foldOver_lasts (State.putBit_lasts (.of_view h rfl)) (fun _ _ h' => publish_lasts h'))

theorem queueFirmware_lasts {n : Nat} {f : CanFrame} (h : Lasts k b s) : Lasts k b (queueFirmware n f s) :=
  ite_lasts (modControl_lasts h) (ite_lasts (State.bump_lasts h) (mdbEvent_lasts (can_lasts (State.bump_lasts h))))

theorem receiveFrame_lasts {n : Nat} {f : CanFrame} (h : Lasts k b s) : Lasts k b (receiveFrame n f s) := by
  unfold receiveFrame
  split
  · exact h
  · split
    · exact judgePassive_lasts (State.put_lasts (State.bump_lasts h))
    · dsimp only
      split
      · exact State.bump_lasts (judgePassive_lasts (State.put_lasts h))
      · split
        · exact queueFirmware_lasts (foldOver_lasts (State.wrapUp_lasts (judgePassive_lasts (State.put_lasts h)))
          (fun _ _ h' => receiveMessage_lasts h'))
        · split
          · exact State.bump_lasts (judgePassive_lasts (State.put_lasts h))
          · exact ite_lasts (queueFirmware_lasts (foldOver_lasts (ite_lasts (copyMatch_lasts (State.wrapUp_lasts
            (judgePassive_lasts (State.put_lasts h)))) (State.wrapUp_lasts (judgePassive_lasts (State.put_lasts h))))
            (fun _ _ h' => receiveMessage_lasts h'))) (foldOver_lasts (ite_lasts (copyMatch_lasts (State.wrapUp_lasts
            (judgePassive_lasts (State.put_lasts h)))) (State.wrapUp_lasts (judgePassive_lasts (State.put_lasts h))))
            (fun _ _ h' => receiveMessage_lasts h'))

theorem takeQueued_lasts {handle : Nat → Bytes → State → State} {n : Nat} (h : Lasts k b s)
    (hh : ∀ a bs s, Lasts k b s → Lasts k b (handle a bs s)) : Lasts k b (takeQueued handle n s) := by
  unfold takeQueued
  refine ite_lasts h (foldOver_lasts (modControl_lasts h) fun s f hs => ite_lasts ?_ (takeIsoFrame_lasts hs))
  split
  next taken => exact .fst (takeSegment_lasts hs) taken
  next taken => exact hh _ _ _ (.fst (takeSegment_lasts hs) taken)

theorem rxTimeout_lasts {r : Nat} (h : Lasts k b s) : Lasts k b (rxTimeout r s) := ite_lasts h (mdbEvent_lasts (State.putBit_lasts h))

theorem canSwap_lasts {before : State} (h : Lasts k b s) : Lasts k b (canSwap before s) :=
  ite_lasts (State.put_lasts (State.put_lasts (.of_view (.of_view (foldOver_lasts h
    (fun _ _ h' => modControl_lasts h')) rfl) rfl))) (.of_view (foldOver_lasts h (fun _ _ h' => modControl_lasts h')) rfl)

theorem canSignalRestart_lasts (h : Lasts k b s) : Lasts k b (canSignalRestart s) :=
  .of_view (foldOver_lasts h (fun _ _ h' => modControl_lasts h')) rfl

end

end Sys2Proof.Machine
end

section
/-!
SUPPORT for O60. What stands under the dies, updates, the logbook and power.
-/

namespace Sys2Proof.Machine

section
variable {k : Latitude} {b s t : State}

/-! ### Restarts of the dies -/

theorem modDie_lasts {f : DiePart → DiePart} (h : Lasts k b s) : Lasts k b (modDie f s) := .of_view h rfl

theorem resetBlock_lasts {inBlock : Nat → Bool} {keep : Nat → Nat} (h : Lasts k b s) :
    Lasts k b (resetBlock inBlock keep s) := .of_view h rfl

theorem loseValues_lasts (h : Lasts k b s) : Lasts k b (loseValues s) := .of_view h rfl

theorem xoLoss_lasts (h : Lasts k b s) : Lasts k b (xoLoss s) :=
  ite_lasts h (refreshLoss_lasts (ite_lasts (raise0_lasts (modDie_lasts (.of_view h rfl))) (loseValues_lasts
    (raise0_lasts (modDie_lasts (.of_view h rfl))))))

theorem xoWatch_lasts {yard : Bool} (h : Lasts k b s) : Lasts k b (xoWatch yard s) := ite_lasts (xoLoss_lasts h) h

theorem xoHeard_lasts {yard : Bool} (h : Lasts k b s) : Lasts k b (xoHeard yard s) :=
  ite_lasts (ite_lasts (modDie_lasts h) h) (ite_lasts (modDie_lasts h) h)

theorem bothReady_lasts (h : Lasts k b s) : Lasts k b (bothReady s) := ite_lasts (modDie_lasts h) h

/-- A delivered record of the latch raises EVENT_LOST where a session lost it. -/
theorem lostRaised_lasts {r : EventRecord} {p : State × List Nat} (h : Lasts k b p.1) :
    Lasts k b (if p.2.isEmpty || r.source == Src.EVR_EVENT_LOST then p.1 else (raiseOnce Src.EVR_EVENT_LOST 0xFFFF 0 p.1).1) :=
  ite_lasts h (raiseOnce_lasts h)

theorem drainLatch_lasts {n : Nat} (h : Lasts k b s) : Lasts k b (drainLatch n s) := by
  induction n generalizing s with
  | zero => exact h
  | succ n ih =>
    unfold drainLatch
    refine ite_lasts h ?_
    split
    · exact ih (lostRaised_lasts (deliver_lasts (ev_lasts h)))
    · exact ih (lostRaised_lasts (deliver_lasts (ev_lasts h)))
    · exact h

theorem drainOne_lasts (h : Lasts k b s) : Lasts k b (drainOne s) := by
  unfold drainOne
  split
  · exact h
  · dsimp only
    split
    · exact drainLatch_lasts h
    · exact ite_lasts (.of_view (drainLatch_lasts h) rfl) (drainLatch_lasts h)

theorem takeCross_lasts {e : Nat × Option Int} (h : Lasts k b s) : Lasts k b (takeCross e s) := by
  unfold takeCross
  split
  · exact .of_view h rfl
  · exact .of_view h rfl

theorem flushCross_lasts (h : Lasts k b s) : Lasts k b (flushCross s) :=
  ite_lasts h (refreshLoss_lasts (foldOver_lasts (.of_view h rfl) (fun _ _ h' => takeCross_lasts h')))

theorem flushSeen_lasts (h : Lasts k b s) : Lasts k b (flushSeen s) := .of_view h rfl

theorem flushCanOut_lasts (h : Lasts k b s) : Lasts k b (flushCanOut s) :=
  foldOver_lasts (.of_view h rfl) (fun _ _ h' => sendService_lasts h')

theorem passToken_lasts (h : Lasts k b s) : Lasts k b (passToken s) := by
  unfold passToken
  split
  · exact h
  · exact ite_lasts (.of_view h rfl) h

theorem channelsOff_lasts (h : Lasts k b s) : Lasts k b (channelsOff s) :=
  ite_lasts (allChannelsOff_lasts (modDie_lasts h)) (modDie_lasts h)

theorem xoComesUp_lasts (h : Lasts k b s) : Lasts k b (xoComesUp s) := by
  unfold xoComesUp
  split
  · exact h
  · exact ite_lasts h (refreshLoss_lasts (passToken_lasts (flushCanOut_lasts (flushCross_lasts (flushSeen_lasts
    (flushLineWords_lasts (ite_lasts (channelsOff_lasts (modDie_lasts h)) (modDie_lasts h))))))))

theorem stopOrders_lasts (h : Lasts k b s) : Lasts k b (stopOrders s) := .of_view h rfl

theorem logRestart_lasts {die : Nat} {planned : Bool} (h : Lasts k b s) : Lasts k b (logRestart die planned s) :=
  raise_lasts (fault_lasts h)

theorem dropVerify_lasts (h : Lasts k b s) : Lasts k b (dropVerify s) :=
  .of_view (foldOver_lasts h (fun _ _ h' => ite_lasts (State.put_lasts (ite_lasts (State.put_lasts h') h')) (ite_lasts
    (State.put_lasts h') h'))) rfl

theorem signalDown_lasts {planned : Bool} (h : Lasts k b s) : Lasts k b (signalDown planned s) :=
  ite_lasts h (resetBlock_lasts (canSignalRestart_lasts (dropVerify_lasts (stopOrders_lasts (.of_view (modDie_lasts
    (logRestart_lasts h)) rfl)))))

theorem holdExpires_lasts (h : Lasts k b s) : Lasts k b (holdExpires s) := by
  unfold holdExpires
  split
  · exact h
  · exact ite_lasts h (completeAll_lasts (limpEnter_lasts (modDie_lasts h)))

theorem restartDeadman_lasts {yard : Bool} (h : Lasts k b s) : Lasts k b (restartDeadman yard s) :=
  ite_lasts (State.put_lasts (.of_view h rfl)) (State.put_lasts (State.put_lasts (.of_view h rfl)))

theorem signalBack_lasts (h : Lasts k b s) : Lasts k b (signalBack s) :=
  bothReady_lasts (lossAtReturn_lasts (refreshSinks_lasts (ite_lasts (restartDeadman_lasts (flushFaults_lasts
    (nextTransfers_lasts (State.put_lasts (stopOrders_lasts (modDie_lasts h)))))) (flushFaults_lasts (nextTransfers_lasts
    (State.put_lasts (stopOrders_lasts (modDie_lasts h))))))))

theorem endAllSessions_lasts (h : Lasts k b s) : Lasts k b (endAllSessions s) := .of_view h rfl

theorem lineDown_lasts (h : Lasts k b s) : Lasts k b (lineDown s) := .of_view h rfl

theorem navDown_lasts (h : Lasts k b s) : Lasts k b (navDown s) := .of_view h rfl

theorem yardDown_lasts {planned : Bool} (h : Lasts k b s) : Lasts k b (yardDown planned s) := by
  unfold yardDown
  split
  · exact h
  · extract_lets s1 s2 s3 s4 s5
    have h1 : Lasts k b s1 := logRestart_lasts (ite_lasts (releaseSteer_lasts h) h)
    have h2 : Lasts k b s2 := stopDma_lasts (yardTakesSet_lasts h1)
    have h4 : Lasts k b s4 := navDown_lasts (lineDown_lasts (endAllSessions_lasts (modDie_lasts h2)))
    clear_value s4
    exact State.put_lasts (resetBlock_lasts (.of_view h4 rfl))

theorem plannedEnd_lasts (h : Lasts k b s) : Lasts k b (plannedEnd s) := by
  unfold plannedEnd
  split
  · exact h
  · exact ite_lasts h (foldOver_lasts (refreshLoss_lasts (loseValues_lasts h)) (fun _ _ h' => lossDue_lasts h'))

/-! ### Images -/

theorem modUpd_lasts {f : UpdatePart → UpdatePart} (h : Lasts k b s) (hf : ∀ u, (f u).keys = u.keys) : Lasts k b (modUpd f s) :=
  .of_view h (by simp [State.view, modUpd, hf])

theorem setSlotState_lasts {d k' v : Nat} (h : Lasts k b s) : Lasts k b (setSlotState d k' v s) := State.put_lasts h

theorem showVersion_lasts {d k' version rollback : Nat} (h : Lasts k b s) : Lasts k b (showVersion d k' version rollback s) :=
  State.put_lasts (State.put_lasts h)

theorem setSlot_lasts {d k' st : Nat} {x : ImageSlot} (h : Lasts k b s) : Lasts k b (setSlot d k' st x s) :=
  showVersion_lasts (modUpd_lasts (setSlotState_lasts h) (fun _ => rfl))

theorem emptySlot_lasts {d k' : Nat} (h : Lasts k b s) : Lasts k b (emptySlot d k' s) := setSlot_lasts h

theorem verifyAnswer_lasts {d status : Nat} (h : Lasts k b s) : Lasts k b (verifyAnswer d status s) :=
  completeOwn_lasts (foldOver_lasts h (fun _ _ h' => completeWaiting_lasts h'))

theorem runUpdateBegin_lasts {p : Request} (h : Lasts k b s) : Lasts k b (runUpdateBegin p s).st :=
  ite_st_lasts (refuse_lasts h) (ite_st_lasts (refuse_lasts h) (ite_st_lasts (refuse_lasts h) (ite_st_lasts
    (refuse_lasts h) (ite_st_lasts (ok_lasts h) (ok_lasts (ite_lasts (verifyAnswer_lasts (State.put_lasts
    (setSlot_lasts h))) (State.put_lasts (setSlot_lasts h))))))))

theorem runUpdateChunk_lasts {p : Request} (h : Lasts k b s) : Lasts k b (runUpdateChunk p s).st :=
  ite_st_lasts (refuse_lasts h) (ite_st_lasts (refuse_lasts h) (ite_st_lasts (refuse_lasts h) (ok_lasts
    (State.put_lasts (setSlot_lasts h)))))

theorem runUpdateVerify_lasts {p : Request} (h : Lasts k b s) : Lasts k b (runUpdateVerify p s).st :=
  ite_st_lasts (refuse_lasts h) (ite_st_lasts (ok_lasts (State.put_lasts h)) (ite_st_lasts (State.put_lasts h)
    (setSlotState_lasts (State.put_lasts h))))

theorem verifyDone_lasts {d : Nat} (h : Lasts k b s) : Lasts k b (verifyDone d s) :=
  ite_lasts h (ite_lasts (verifyAnswer_lasts (raise0_lasts (setSlotState_lasts h))) (verifyAnswer_lasts (fault_lasts
    (emptySlot_lasts h))))

theorem runImage_lasts {d k' : Nat} (h : Lasts k b s) : Lasts k b (runImage d k' s) :=
  ite_lasts (State.setReg_lasts (modUpd_lasts (setSlotState_lasts (ite_lasts (setSlotState_lasts h) h))
    (fun _ => rfl))) (reserveSeq_lasts (State.setReg_lasts (State.setReg_lasts (State.setReg_lasts (modUpd_lasts
    (setSlotState_lasts (ite_lasts (setSlotState_lasts h) h)) (fun _ => rfl))))))

theorem dropTrial_lasts {d cause : Nat} (h : Lasts k b s) : Lasts k b (dropTrial d cause s) := by
  unfold dropTrial
  split
  · exact h
  · exact raise0_lasts (fault_lasts (modUpd_lasts (setSlotState_lasts (State.put_lasts h)) (fun _ => rfl)))

theorem wantRestart_lasts {d : Nat} (h : Lasts k b s) : Lasts k b (wantRestart d s) := modUpd_lasts h (fun _ => rfl)

theorem dropTogether_lasts {d cause : Nat} (h : Lasts k b s) : Lasts k b (dropTogether d cause s) :=
  ite_lasts (wantRestart_lasts (dropTrial_lasts (modUpd_lasts h (fun _ => rfl)))) (modUpd_lasts h (fun _ => rfl))

theorem fallBack_lasts {d cause : Nat} (h : Lasts k b s) : Lasts k b (fallBack d cause s) :=
  ite_lasts h (dropTogether_lasts (wantRestart_lasts (dropTrial_lasts h)))

theorem runTrial_lasts {d k' : Nat} (h : Lasts k b s) : Lasts k b (runTrial d k' s) :=
  ite_lasts (raise0_lasts (fault_lasts (modUpd_lasts (runImage_lasts (State.put_lasts h)) (fun _ => rfl))))
    (runImage_lasts (State.put_lasts h))

theorem bootActive_lasts {d : Nat} (h : Lasts k b s) : Lasts k b (bootActive d s) :=
  ite_lasts (runImage_lasts h) (ite_lasts (runImage_lasts (State.put_lasts h)) (modUpd_lasts h (fun _ => rfl)))

theorem boot_lasts {d : Nat} (h : Lasts k b s) : Lasts k b (boot d s) := by
  unfold boot
  split
  · exact h
  · split
    · exact bootActive_lasts h
    · exact ite_lasts (bootActive_lasts (dropTogether_lasts (dropTrial_lasts h))) (runTrial_lasts h)

theorem settle_lasts (h : Lasts k b s) : Lasts k b (settle s) :=
  ite_lasts (yardDown_lasts (ite_lasts (signalDown_lasts (modUpd_lasts h (fun _ => rfl))) (modUpd_lasts h
    (fun _ => rfl)))) (ite_lasts (signalDown_lasts (modUpd_lasts h (fun _ => rfl))) (modUpd_lasts h (fun _ => rfl)))

theorem activateDie_lasts {d : Nat} (h : Lasts k b s) : Lasts k b (activateDie d s) :=
  wantRestart_lasts (State.put_lasts (State.put_lasts (State.put_lasts h)))

theorem activateModule_lasts {sig yard : Nat} (h : Lasts k b s) : Lasts k b (activateModule sig yard s) :=
  ite_lasts (modUpd_lasts (activateDie_lasts (modUpd_lasts h (fun _ => rfl))) (fun _ => rfl)) (ite_lasts
    (activateDie_lasts (modUpd_lasts h (fun _ => rfl))) (modUpd_lasts h (fun _ => rfl)))

theorem activateYardNext_lasts (h : Lasts k b s) : Lasts k b (activateYardNext s) :=
  ite_lasts (activateDie_lasts (modUpd_lasts h (fun _ => rfl))) h

theorem noteHealth_lasts (h : Lasts k b s) : Lasts k b (noteHealth s) := by
  unfold noteHealth
  refine foldOver_lasts h ?_
  intro s' a h'
  split
  · exact h'
  · split
    · exact modUpd_lasts h' (fun _ => rfl)
    · exact modUpd_lasts h' (fun _ => rfl)
    · exact h'

theorem trialHealthy_lasts (h : Lasts k b s) : Lasts k b (trialHealthy s) := by
  unfold trialHealthy
  refine foldOver_lasts (noteHealth_lasts h) ?_
  intro s' a h'
  split
  · exact h'
  · exact ite_lasts (raise0_lasts (State.put_lasts h')) h'

theorem confirmTimeout_lasts {d : Nat} (h : Lasts k b s) : Lasts k b (confirmTimeout d s) := by
  unfold confirmTimeout
  split
  · exact h
  · exact ite_lasts (fallBack_lasts h) h

theorem revokeBelow_lasts {k' : Nat} (h : Lasts k b s) : Lasts k b (revokeBelow k' s) := ite_lasts h (fault_lasts (State.put_lasts h))

theorem confirmDie_lasts {d : Nat} (h : Lasts k b s) : Lasts k b (confirmDie d s) := by
  unfold confirmDie
  split
  · exact h
  · exact fault_lasts (raise0_lasts (modUpd_lasts (setSlotState_lasts (State.put_lasts (State.put_lasts (ite_lasts
    (revokeBelow_lasts (State.put_lasts h)) (State.put_lasts h))))) (fun _ => rfl)))

theorem confirmModule_lasts {action sig yard : Nat} (h : Lasts k b s) : Lasts k b (confirmModule action sig yard s).1 := by
  unfold confirmModule
  split
  · split
    · exact confirmDie_lasts (confirmDie_lasts h)
    · exact h
    · exact h
  · exact ite_fst_lasts (fallBack_lasts (fallBack_lasts h)) h

theorem runUpdateConfirm_lasts {p : Request} (h : Lasts k b s) : Lasts k b (runUpdateConfirm p s).st := by
  unfold runUpdateConfirm
  split
  next _ _ _ x4 => exact Lasts.fst (confirmModule_lasts h) x4

theorem slotsAtPowerUp_lasts (h : Lasts k b s) : Lasts k b (slotsAtPowerUp s) :=
  foldOver_lasts h (fun _ _ h' => ite_lasts (fault_lasts (emptySlot_lasts h')) h')

/-! ### Update runs -/

theorem modRun_lasts {f : RunRecord → RunRecord} (h : Lasts k b s) : Lasts k b (modRun f s) := modUpd_lasts h (fun _ => rfl)

theorem showRun_lasts (h : Lasts k b s) : Lasts k b (showRun s) := by
  unfold showRun
  split
  · exact State.setReg_lasts (State.setReg_lasts (State.put_lasts (State.put_lasts (State.put_lasts h))))
  · exact State.setReg_lasts (State.setReg_lasts (State.put_lasts (State.put_lasts (State.put_lasts h))))

theorem runUpdateStatus_lasts {p : Request} (h : Lasts k b s) :
    Lasts k b (runUpdateStatus p s).st := ok_lasts h

theorem runParkedDeclare_lasts {p : Request} (h : Lasts k b s) : Lasts k b (runParkedDeclare p s).st :=
  ite_st_lasts (refuse_lasts h) (ok_lasts (State.put_lasts h))

theorem completeRun_lasts {v : Nat × Nat} {status : Nat} {result : Bytes} (h : Lasts k b s) :
    Lasts k b (completeRun v status result s) := foldOver_lasts h (fun _ _ h' => completeWaiting_lasts h')

theorem decideRun_lasts {sig yard : Nat} {l : List RunReport} (h : Lasts k b s) : Lasts k b (decideRun sig yard l s) := by
  unfold decideRun
  dsimp only
  split
  · exact h
  · split
    · exact completeRun_lasts (modUpd_lasts h (fun _ => rfl))
    · split
      · exact completeRun_lasts (modUpd_lasts h (fun _ => rfl))
      · split
        · exact h
        · split
          · exact completeRun_lasts (modUpd_lasts h (fun _ => rfl))
          · exact ite_lasts (completeRun_lasts (modUpd_lasts h (fun _ => rfl))) (ite_lasts (completeRun_lasts
              (modUpd_lasts h (fun _ => rfl))) (showRun_lasts (modUpd_lasts (modUpd_lasts h (fun _ => rfl)) (fun _ => rfl))))

theorem beginStep_lasts {k' : Nat} (h : Lasts k b s) : Lasts k b (beginStep k' s) := by
  unfold beginStep
  split
  · exact h
  · exact ite_lasts h (raise0_lasts (modRun_lasts h))

theorem instructActivate_lasts {n : Nat} (h : Lasts k b s) : Lasts k b (instructActivate n s) := by
  unfold instructActivate
  split
  · exact h
  · exact ite_lasts (activateModule_lasts (modRun_lasts h)) (emit_lasts (modRun_lasts h))

theorem instructConfirm_lasts {action n : Nat} (h : Lasts k b s) : Lasts k b (instructConfirm action n s) := by
  unfold instructConfirm
  split
  · exact h
  · exact ite_lasts (confirmModule_lasts h) (emit_lasts h)

theorem endRun_lasts {status : Nat} (h : Lasts k b s) : Lasts k b (endRun status s) := by
  unfold endRun
  split
  · exact h
  · exact showRun_lasts (modUpd_lasts (raise0_lasts (completeRun_lasts h)) (fun _ => rfl))

theorem confirmAll_lasts {status : Nat} (h : Lasts k b s) : Lasts k b (confirmAll status s) := by
  unfold confirmAll
  split
  · exact h
  · exact endRun_lasts (foldOver_lasts (beginStep_lasts h) (fun _ _ h' => modRun_lasts (instructConfirm_lasts h')))

theorem wantHandover_lasts {n : Nat} (h : Lasts k b s) : Lasts k b (wantHandover n s) := modUpd_lasts h (fun _ => rfl)

theorem rollOn_lasts (h : Lasts k b s) : Lasts k b (rollOn s) := by
  unfold rollOn
  split
  · exact h
  · exact ite_lasts (endRun_lasts (foldOver_lasts h (fun _ _ h' => modRun_lasts (instructConfirm_lasts h')))) (ite_lasts
    (wantHandover_lasts (foldOver_lasts h (fun _ _ h' => modRun_lasts (instructConfirm_lasts h')))) (endRun_lasts
    (instructConfirm_lasts (modRun_lasts (foldOver_lasts h (fun _ _ h' => modRun_lasts (instructConfirm_lasts h')))))))

theorem rollBack_lasts {failing : Nat} (h : Lasts k b s) : Lasts k b (rollBack failing s) := by
  unfold rollBack
  split
  · exact h
  · exact rollOn_lasts (raise0_lasts (fault_lasts (modRun_lasts h)))

theorem nextModule_lasts {fuel : Nat} (h : Lasts k b s) : Lasts k b (nextModule fuel s) := by
  induction fuel generalizing s with
  | zero => exact h
  | succ fuel ih =>
    unfold nextModule
    dsimp only
    split
    · exact h
    · split
      · exact confirmAll_lasts h
      · refine ite_lasts ?_ (ite_lasts (ih (modRun_lasts h)) (ite_lasts (ite_lasts (confirmAll_lasts (modRun_lasts h)) ?_) ?_))
        · split
          · exact h
          · exact wantHandover_lasts (beginStep_lasts h)
        · exact instructActivate_lasts (beginStep_lasts h)
        · exact instructActivate_lasts (beginStep_lasts h)

theorem activateAll_lasts (h : Lasts k b s) : Lasts k b (activateAll s) := by
  unfold activateAll
  split
  · exact h
  · exact foldOver_lasts (beginStep_lasts h) (fun _ _ h' => instructActivate_lasts h')

theorem runStep_lasts {l : List RunReport} (h : Lasts k b s) : Lasts k b (runStep l s) := by
  unfold runStep
  split
  · exact h
  · dsimp only
    split
    · exact foldOver_lasts h (fun _ _ h' => decideRun_lasts h')
    · refine showRun_lasts ?_
      split
      · exact rollOn_lasts (modRun_lasts (foldOver_lasts h (fun _ _ h' => decideRun_lasts h')))
      · split
        · exact rollBack_lasts (modRun_lasts (foldOver_lasts h (fun _ _ h' => decideRun_lasts h')))
        · exact ite_lasts (modRun_lasts (foldOver_lasts h (fun _ _ h' => decideRun_lasts h'))) (ite_lasts (activateAll_lasts
          (modRun_lasts (foldOver_lasts h (fun _ _ h' => decideRun_lasts h')))) (nextModule_lasts (modRun_lasts
          (foldOver_lasts h (fun _ _ h' => decideRun_lasts h')))))

theorem runUpdateActivate_lasts {p : Request} (h : Lasts k b s) : Lasts k b (runUpdateActivate p s).st :=
  ite_st_lasts (ok_lasts h) (ite_st_lasts h (ite_lasts h (modUpd_lasts h (fun _ => rfl))))

theorem scheduleHandover_lasts (h : Lasts k b s) : Lasts k b (scheduleHandover s) := by
  unfold scheduleHandover
  split
  · exact h
  · exact ite_lasts h (fault_lasts (modUpd_lasts h (fun _ => rfl)))

/-! ### The return of the dies -/

theorem dropUndelivered_lasts (h : Lasts k b s) : Lasts k b (dropUndelivered s) :=
  ite_lasts (refreshLoss_lasts h) (refreshLoss_lasts (.of_view h rfl))

theorem setRole_lasts {r : Role} (h : Lasts k b s) : Lasts k b (setRole r s) := State.put_lasts (.of_view h rfl)

theorem standDown_lasts (h : Lasts k b s) : Lasts k b (standDown s) :=
  channelsOff_lasts (dropUndelivered_lasts (dropDiscipline_lasts (State.put_lasts (State.put_lasts (State.put_lasts
    (State.put_lasts (setRole_lasts (.of_view h rfl))))))))

theorem strapFault_lasts (h : Lasts k b s) : Lasts k b (strapFault s) := setRole_lasts (State.put_lasts (.of_view h rfl))

theorem latchStraps_lasts {v : Nat} (h : Lasts k b s) : Lasts k b (latchStraps v s) :=
  ite_lasts (strapFault_lasts (State.put_lasts (State.put_lasts (State.put_lasts (.of_view h rfl))))) (ite_lasts
    (setRole_lasts (State.put_lasts (State.put_lasts (State.put_lasts (.of_view h rfl))))) (ite_lasts (strapFault_lasts
    (State.put_lasts (State.put_lasts (State.put_lasts (.of_view h rfl))))) (setRole_lasts (State.put_lasts (State.put_lasts
    (State.put_lasts (.of_view h rfl)))))))

theorem strapSample_lasts {v : Nat} (h : Lasts k b s) : Lasts k b (strapSample v s) :=
  ite_lasts h (ite_lasts (.of_view (.of_view h rfl) rfl) (ite_lasts (latchStraps_lasts (.of_view h rfl)) (ite_lasts
    (strapFault_lasts (.of_view h rfl)) (.of_view (.of_view h rfl) rfl))))

theorem becomeTerminus_lasts (h : Lasts k b s) : Lasts k b (becomeTerminus s) :=
  startSetting_lasts (startTimeState_lasts (State.put_lasts (State.put_lasts (State.put_lasts (State.put_lasts
    (State.put_lasts (setRole_lasts (.of_view h rfl))))))))

theorem becomeRelief_lasts (h : Lasts k b s) : Lasts k b (becomeRelief s) := by
  have dropped : Lasts k b (dropDiscipline ((((setRole .relief s).put F.IDR_ROLE_TAKEN_OVER 1).bump F.IDR_ROLE_TAKEOVERS 1).put
      F.GNS_STATUS_TSTATE tsOff)) := dropDiscipline_lasts (State.put_lasts (State.bump_lasts (State.put_lasts (setRole_lasts h))))
  unfold becomeRelief
  dsimp only
  generalize dropDiscipline _ = u at dropped ⊢
  exact dropUndelivered_lasts (.of_view dropped rfl)

theorem masterListenEnd_lasts (h : Lasts k b s) : Lasts k b (masterListenEnd s) :=
  ite_lasts (ite_lasts (standDown_lasts (.of_view h rfl)) (becomeTerminus_lasts h)) h

theorem outputReclaim_lasts (h : Lasts k b s) : Lasts k b (outputReclaim s) :=
  ite_lasts h (ite_lasts (boot_lasts h) (settle_lasts (activateYardNext_lasts (signalBack_lasts (boot_lasts h)))))

theorem runningInForce_lasts (h : Lasts k b s) : Lasts k b (runningInForce s) := by
  unfold runningInForce
  split
  · exact State.put_lasts (State.put_lasts h)
  · exact State.put_lasts (State.put_lasts (loadOrders_lasts (remap_lasts (.of_view h rfl))))

theorem limpMapLatch_lasts (h : Lasts k b s) : Lasts k b (limpMapLatch s) := by
  have armed : Lasts k b (State.put { latchMap (boot 0 s) with ev := { (latchMap (boot 0 s)).ev with
      sigDeadman := some (latchMap (boot 0 s)).now } } F.EVR_DEADMAN_SIG_ARMED 1) := State.put_lasts (ev_lasts (latchMap_lasts
          (boot_lasts h)))
  unfold limpMapLatch
  refine ite_lasts h ?_
  dsimp only
  generalize State.put _ F.EVR_DEADMAN_SIG_ARMED 1 = u at armed ⊢
  have told : Lasts k b (if u.clk.refDue then limpEnter .ref { u with clk := { u.clk with refDue := false } } else u) :=
    ite_lasts (limpEnter_lasts (clk_lasts armed)) armed
  generalize (if u.clk.refDue then limpEnter .ref { u with clk := { u.clk with refDue := false } } else u) = v at told ⊢
  exact ite_lasts told (flushFaults_lasts (refreshLoss_lasts (loseValues_lasts (refreshSinks_lasts (can_lasts (stopOrders_lasts
    (modDie_lasts (runningInForce_lasts told))))))))

theorem levelAtReturn_lasts (h : Lasts k b s) : Lasts k b (levelAtReturn s) := setLevel_lasts h

theorem portReturns_lasts {east link : Bool} (h : Lasts k b s) : Lasts k b (portReturns east link s) := by
  cases east <;> exact State.put_lasts (State.put_lasts (line_lasts h))

theorem resumeRole_lasts {holder : Bool} (h : Lasts k b s) : Lasts k b (resumeRole holder s) :=
  ite_lasts (ite_lasts (becomeRelief_lasts h) (ite_lasts (raise0_lasts (restartConsist_lasts (restartYield_lasts
    (resumeSetting_lasts (startTimeState_lasts (State.put_lasts (State.put_lasts (State.put_lasts (State.put_lasts
    (State.put_lasts h)))))))))) (restartConsist_lasts (restartYield_lasts (resumeSetting_lasts (startTimeState_lasts
    (State.put_lasts (State.put_lasts (State.put_lasts (State.put_lasts (State.put_lasts h))))))))))) (ite_lasts
    (.of_view h rfl) h)

theorem functionsAtReturn_lasts {holder : Bool} (h : Lasts k b s) : Lasts k b (functionsAtReturn holder s) :=
  ite_lasts h (startSetting_lasts h)

theorem yardBack_lasts {linkE linkW holder : Bool} (h : Lasts k b s) : Lasts k b (yardBack linkE linkW holder s) :=
  ite_lasts h (ite_lasts (boot_lasts h) (settle_lasts (bothReady_lasts (modDie_lasts (resumeRole_lasts
    (functionsAtReturn_lasts (restartDeadman_lasts (portReturns_lasts (portReturns_lasts (remap_lasts (fus_lasts
    (modDie_lasts (levelAtReturn_lasts (boot_lasts h))))))))))))))

theorem sendCross_lasts {l : List Nat} (h : Lasts k b s) : Lasts k b (sendCross l s) :=
  ite_lasts h (flushCross_lasts (foldOver_lasts h (fun _ _ h' => .of_view h' rfl)))

theorem runLoadStatus_lasts {p : Request} (h : Lasts k b s) : Lasts k b (runLoadStatus p s).st :=
  ite_st_lasts (ok_lasts h) (ite_st_lasts (refuse_lasts h) (ok_lasts h))

/-! ### Logbook -/

theorem modEv_lasts {f : EventPart → EventPart} (h : Lasts k b s) : Lasts k b (modEv f s) := .of_view h rfl

theorem histogramSecond_lasts {l : List (Nat × Int)} (h : Lasts k b s) : Lasts k b (histogramSecond l s) :=
  ite_lasts h (modEv_lasts (modEv_lasts (State.bump_lasts h)))

theorem commitLog_lasts (h : Lasts k b s) : Lasts k b (commitLog s) := State.put_lasts (modEv_lasts h)

theorem logCommit_lasts {done : Bool} (h : Lasts k b s) : Lasts k b (logCommit done s) :=
  ite_lasts h (ite_lasts (commitLog_lasts h) (raise0_lasts (modEv_lasts h)))

theorem runLogbookRead_lasts {p : Request} (h : Lasts k b s) : Lasts k b (runLogbookRead p s).st :=
  ite_st_lasts (ite_st_lasts (refuse_lasts h) (ok_lasts h)) (ite_st_lasts (ite_st_lasts (refuse_lasts h)
    (ok_lasts h)) (ite_st_lasts (ite_st_lasts (refuse_lasts h) (ok_lasts h)) (refuse_lasts h)))

theorem runLogbookInfo_lasts {p : Request} (h : Lasts k b s) :
    Lasts k b (runLogbookInfo p s).st := ok_lasts h

theorem runRetirementRead_lasts {p : Request} (h : Lasts k b s) : Lasts k b (runRetirementRead p s).st :=
  ite_st_lasts (refuse_lasts h) (ok_lasts h)

theorem deadmanExpired_lasts {die : Nat} (h : Lasts k b s) : Lasts k b (deadmanExpired die s) := raise_lasts (fault_lasts h)

theorem signalDeadman_lasts (h : Lasts k b s) : Lasts k b (signalDeadman s) := by
  unfold signalDeadman
  split
  · exact h
  · exact ite_lasts h (deadmanExpired_lasts (ite_lasts (settle_lasts (fallBack_lasts (limpEnter_lasts (State.bump_lasts
    (State.put_lasts (modEv_lasts h)))))) (signalDown_lasts (limpEnter_lasts (State.bump_lasts (State.put_lasts
    (modEv_lasts h)))))))

theorem yardDeadman_lasts (h : Lasts k b s) : Lasts k b (yardDeadman s) := by
  unfold yardDeadman
  split
  · exact h
  · exact ite_lasts h (deadmanExpired_lasts (ite_lasts (settle_lasts (fallBack_lasts (State.bump_lasts (State.put_lasts
    (modEv_lasts h))))) (yardDown_lasts (State.bump_lasts (State.put_lasts (modEv_lasts h))))))

theorem firmwareRestart_lasts {yard : Bool} (h : Lasts k b s) : Lasts k b (firmwareRestart yard s) :=
  ite_lasts (ite_lasts (restartDeadman_lasts h) h) (ite_lasts (restartDeadman_lasts h) h)

theorem useSpare_lasts (h : Lasts k b s) : Lasts k b (useSpare s) :=
  ite_lasts (.of_view h rfl) (ite_lasts (raise0_lasts (.of_view (State.put_lasts h) rfl)) (State.put_lasts h))

theorem flashFail_lasts {log again siding : Bool} {block : Nat} (h : Lasts k b s) :
    Lasts k b (flashFail log again siding block s) :=
  ite_lasts h (ite_lasts (fault_lasts h) (ite_lasts (raise0_lasts (State.put_lasts (State.put_lasts (.of_view
    (ite_lasts (fault_lasts (retire_lasts h)) (useSpare_lasts (fault_lasts (retire_lasts h)))) rfl)))) (ite_lasts
    (fault_lasts (retire_lasts h)) (useSpare_lasts (fault_lasts (retire_lasts h))))))

theorem runEventSubscribe_lasts {p : Request} (h : Lasts k b s) : Lasts k b (runEventSubscribe p s).st :=
  ite_st_lasts (refuse_lasts h) (ok_lasts (foldOver_lasts h (fun _ _ h' => State.setReg_lasts h')))

theorem sendEvent_lasts {n : Nat} (h : Lasts k b s) : Lasts k b (sendEvent n s) := by
  unfold sendEvent
  split
  · exact h
  · exact ite_lasts h (transmit_lasts (putSession_lasts (State.put_lasts h)))

/-! ### Power -/

theorem cleared_lasts {keep : Nat → Nat} (h : Lasts k b s) : Lasts k b (cleared keep s) := by
  unfold cleared
  refine restartYield_lasts (showRun_lasts (State.put_lasts ?_))
  exact ⟨h.now, h.pending, h.keys, h.stored, fun _ => .inr rfl⟩

theorem sideRetired_lasts {c : Nat} (h : Lasts k b s) : Lasts k b (sideRetired s c) := ite_lasts (State.put_lasts h) h

theorem powerOn_lasts {src ctrl : Nat} (h : Lasts k b s) : Lasts k b (powerOn src ctrl s) :=
  State.put_lasts (State.put_lasts (State.bump_lasts (State.put_lasts (ite_lasts (.of_view (.of_view
    (slotsAtPowerUp_lasts (foldOver_lasts (cleared_lasts h) (fun _ _ h' => sideRetired_lasts h'))) rfl) rfl) (.of_view
    (slotsAtPowerUp_lasts (foldOver_lasts (cleared_lasts h) (fun _ _ h' => sideRetired_lasts h'))) rfl)))))

theorem goDark_lasts {p : Power} (h : Lasts k b s) : Lasts k b (goDark p s) := by
  have off := foldOver_lasts (f := fun s c => outputOff c s) (l := upFrom 0 32) h fun _ _ h => outputOff_lasts h
  unfold goDark
  generalize foldOver _ s (upFrom 0 32) = u at off ⊢
  have dark : Lasts k b (emit (.sense none) { u with load := { u.load with sense := none } }) := emit_lasts (load_lasts off rfl rfl)
  exact pwr_lasts (cleared_lasts (commitLog_lasts (flushFaults_lasts dark)))

theorem runSleep_lasts {p : Request} (h : Lasts k b s) : Lasts k b (runSleep p s).st :=
  ite_st_lasts (refuse_lasts h) (ite_st_lasts (ok_lasts (.of_view h rfl)) (refuse_lasts h))

theorem sleepEntry_lasts (h : Lasts k b s) : Lasts k b (sleepEntry s) := ite_lasts (goDark_lasts h) h

theorem ignOff_lasts (h : Lasts k b s) : Lasts k b (ignOff s) := by
  unfold ignOff
  dsimp only
  split
  · exact h
  · exact ite_lasts h (.of_view h rfl)

theorem wakeUp_lasts {src ctrl : Nat} (h : Lasts k b s) : Lasts k b (wakeUp src ctrl s) :=
  ite_lasts h (ite_lasts (ite_lasts (emit_lasts (emit_lasts (powerOn_lasts h))) (powerOn_lasts h)) (ite_lasts
    (State.put_lasts (.of_view h rfl)) h))

theorem tellCanWake_lasts (h : Lasts k b s) : Lasts k b (tellCanWake s) := ite_lasts (mdbEvent_lasts h) h

end

end Sys2Proof.Machine
end

section
/-!
SUPPORT for O60. What stands under register access, sessions and frames of the Line.
-/

namespace Sys2Proof.Machine

section
variable {k : Latitude} {b s t : State}

/-! ### Register access -/

theorem readReg_lasts {a : Nat} (h : Lasts k b s) : Lasts k b (readReg a s).2 := ite_lasts (.of_view h rfl) h

theorem writeImage_lasts {w : RegWrite} (h : Lasts k b s) : Lasts k b (writeImage w s) := ite_lasts h (changeSiding_lasts h)

theorem writeClear_lasts {w : RegWrite} (h : Lasts k b s) : Lasts k b (writeClear w s) := ite_lasts h (State.setReg_lasts h)

theorem writeNow_lasts {w : RegWrite} (h : Lasts k b s) : Lasts k b (writeNow w s) := by
  unfold writeNow
  dsimp only
  split
  · exact .of_view h rfl
  · split
    · exact h
    · split
      · exact foldOver_lasts h (fun _ _ h' => ite_lasts (ite_lasts (gateOpen_lasts h') (gateRequest_lasts h')) h')
      · split
        · exact writePpsDelay_lasts h
        · split
          · exact loadExecute_lasts h
          · split
            · exact loopRequest_lasts h
            · split
              · exact writeStop_lasts h
              · exact State.setReg_lasts h

theorem writeOne_lasts {w : RegWrite} (h : Lasts k b s) : Lasts k b (writeOne w s) := writeNow_lasts (writeImage_lasts (writeClear_lasts h))

theorem writeGroup_lasts {l : List RegWrite} (h : Lasts k b s) : Lasts k b (writeGroup l s) :=
  foldOver_lasts (foldOver_lasts h (fun _ _ h' => writeClear_lasts h')) (fun _ _ h' => writeNow_lasts
    (writeImage_lasts h'))

theorem writeAll_lasts {l : List RegWrite} (h : Lasts k b s) : Lasts k b (writeAll l s) := by
  unfold writeAll
  split
  · exact h
  · exact writeGroup_lasts (writeGroup_lasts h)

theorem readAll_lasts {l : List Nat} (h : Lasts k b s) : Lasts k b (readAll l s).2 := by
  induction l generalizing s with
  | nil => exact h
  | cons a l ih => exact ih (readReg_lasts h)

theorem runRegRead_lasts {p : Request} (h : Lasts k b s) : Lasts k b (runRegRead p s).st := by
  unfold runRegRead
  dsimp only
  split
  · exact ok_lasts (readAll_lasts h)
  · exact refuse_lasts h

theorem refuseWrites_lasts {session st : Nat} {l : List RegWrite} (h : Lasts k b s) : Lasts k b (refuseWrites s session st l).st := h

theorem runRegWrite_lasts {p : Request} (h : Lasts k b s) : Lasts k b (runRegWrite p s).st :=
  ite_st_lasts (ok_lasts (writeAll_lasts h)) (refuseWrites_lasts h)

theorem runRegModify_lasts {p : Request} (h : Lasts k b s) : Lasts k b (runRegModify p s).st :=
  ite_st_lasts (ok_lasts (writeAll_lasts h)) (refuseWrites_lasts h)

theorem runTableInfo_lasts {p : Request} (h : Lasts k b s) : Lasts k b (runTableInfo p s).st := by
  unfold runTableInfo
  split
  · exact refuse_lasts h
  · exact ok_lasts h

theorem runTableRead_lasts {p : Request} (h : Lasts k b s) : Lasts k b (runTableRead p s).st := by
  unfold runTableRead
  dsimp only
  split
  · exact refuse_lasts h
  · split
    · exact refuse_lasts h
    · split
      · exact refuse_lasts h
      · split
        · exact refuse_lasts h
        · exact ok_lasts h

theorem runTableWrite_lasts {p : Request} (h : Lasts k b s) : Lasts k b (runTableWrite p s).st := by
  unfold runTableWrite
  dsimp only
  split
  · exact refuse_lasts h
  · split
    · exact refuse_lasts h
    · split
      · exact refuse_lasts h
      · split
        · split
          · exact refuse_lasts h
          · split
            · exact refuse_lasts h
            · split
              · exact refuse_lasts h
              · split
                · exact refuse_lasts h
                · exact ok_lasts (eng_lasts h)
        · exact ite_st_lasts (refuse_lasts (ite_lasts h (copiedSiding_lasts h))) (ite_st_lasts (refuse_lasts h) (ok_lasts
            (changeSiding_lasts h)))

theorem runBlockUnlock_lasts {p : Request} (h : Lasts k b s) : Lasts k b (runBlockUnlock p s).st :=
  ite_st_lasts (refuse_lasts h) (ok_lasts (modSession_lasts h))

theorem runBlockLock_lasts {p : Request} (h : Lasts k b s) : Lasts k b (runBlockLock p s).st :=
  ite_st_lasts (refuse_lasts h) (ok_lasts (modSession_lasts h))

theorem unlockExpiry_lasts {n : Nat} (h : Lasts k b s) : Lasts k b (unlockExpiry n s) := modSession_lasts h

/-! ### Sessions -/

theorem runHello_lasts {p : Request} (h : Lasts k b s) :
    Lasts k b (runHello p s).st := ok_lasts h

theorem runIdentify_lasts {p : Request} (h : Lasts k b s) :
    Lasts k b (runIdentify p s).st := ok_lasts h

theorem runEcho_lasts {p : Request} (h : Lasts k b s) : Lasts k b (runEcho p s).st := ok_lasts h

theorem runCountersRead_lasts {p : Request} (h : Lasts k b s) :
    Lasts k b (runCountersRead p s).st := ok_lasts h

theorem setFailures_lasts {l : Nat} {v : Nat × Nat} (h : Lasts k b s) : Lasts k b (setFailures l v s) := .of_view h rfl

theorem dropPending_lasts (h : Lasts k b s) : Lasts k b (dropPending s) := .of_view h rfl

theorem openPhase1_lasts {p : Request} (h : Lasts k b s) : Lasts k b (openPhase1 p s).st := by
  have dropped := dropPending_lasts h
  unfold openPhase1
  generalize dropPending s = u at dropped ⊢
  dsimp only
  split
  · exact dropped
  · split
    · exact dropped
    · split
      · exact dropped
      · split
        · exact dropped
        · split
          · exact dropped
          · exact drawn_lasts (putSession_lasts dropped)

theorem tellSession_lasts {opcode n : Nat} (h : Lasts k b s) : Lasts k b (tellSession opcode n s) :=
  ite_lasts (foldOver_lasts h (fun _ _ h' => emit_lasts h')) h

theorem openFails_lasts {x : Session} (h : Lasts k b s) : Lasts k b (openFails x s).st := by
  have noted : Lasts k b (setFailures x.level ((nth s.pk.failures (x.level - 1) (0, 0)).1 + 1, timeAwake s)
      (if x.isOpen then s else endSession x.num s)) := setFailures_lasts (ite_lasts h (endSession_lasts h))
  exact refuse_lasts (pk_lasts noted rfl)

theorem openPhase2_lasts {p : Request} (h : Lasts k b s) : Lasts k b (openPhase2 p s).st := by
  unfold openPhase2
  split
  · exact refuse_lasts h
  · exact ite_st_lasts (ite_st_lasts (ok_lasts h) (openFails_lasts h)) (ite_st_lasts (refuse_lasts (dropPending_lasts h))
    (ite_st_lasts (openFails_lasts h) (ok_lasts (tellSession_lasts (setFailures_lasts (putSession_lasts h))))))

theorem runSessionOpen_lasts {p : Request} (h : Lasts k b s) : Lasts k b (runSessionOpen p s).st :=
  ite_st_lasts (openPhase1_lasts h) (ite_st_lasts (openPhase2_lasts h) (refuse_lasts h))

theorem runSessionClose_lasts {p : Request} (h : Lasts k b s) : Lasts k b (runSessionClose p s).st := by
  have told : Lasts k b (if forwardedIn p then s else tellSession 0x0003 p.session.toNat s) := ite_lasts h (tellSession_lasts h)
  exact told

theorem runSessionKeep_lasts {p : Request} (h : Lasts k b s) :
    Lasts k b (runSessionKeep p s).st := ok_lasts h

theorem runSessionKeySet_lasts {p : Request} (h : Lasts k b s) (hk : k.request = true) : Lasts k b (runSessionKeySet p s).st :=
  ite_st_lasts (refuse_lasts h) (ok_lasts (.of_request h hk rfl))

theorem runRequestCancel_lasts {p : Request} (h : Lasts k b s) : Lasts k b (runRequestCancel p s).st := by
  unfold runRequestCancel
  dsimp only
  split
  · exact refuse_lasts h
  · exact ok_lasts (completeWaiting_lasts h)

theorem repeatInterims_lasts (h : Lasts k b s) : Lasts k b (repeatInterims s) :=
  ite_lasts h (foldOver_lasts (.of_view h rfl) (fun _ _ h' => sendPacket_lasts h'))

theorem openPendingExpiry_lasts {n : Nat} (h : Lasts k b s) : Lasts k b (openPendingExpiry n s) := by
  unfold openPendingExpiry
  split
  · exact h
  · exact ite_lasts (endSession_lasts h) h

theorem idleClose_lasts {n : Nat} (h : Lasts k b s) : Lasts k b (idleClose n s) := by
  unfold idleClose
  split
  · exact h
  · exact ite_lasts (endSession_lasts (tellSession_lasts h)) h

theorem noteArmed_lasts {n : Nat} {r : Reply} (h : Lasts k b s) : Lasts k b (noteArmed n r s) := by
  unfold noteArmed
  split
  · exact h
  · exact ite_lasts (.of_view h rfl) h

theorem forwardedReply_lasts {n : Nat} {r : Reply} (h : Lasts k b s) : Lasts k b (forwardedReply n r s) := by
  unfold forwardedReply
  split
  · exact h
  · split
    · exact noteArmed_lasts h
    · split
      · split
        · exact h
        · exact ite_lasts (transmit_lasts h) h
      · exact takeForwardedReply_lasts h

theorem openFrom_lasts {op : Nat} {r : Reply} (h : Lasts k b s) : Lasts k b (openFrom op r s) := ite_lasts (modSession_lasts h) h

theorem releaseMirrored_lasts (h : Lasts k b s) : Lasts k b (releaseMirrored s) := by
  unfold releaseMirrored
  split
  · exact h
  · refine foldOver_lasts h ?_
    intro s' a h'
    split
    · exact ite_lasts h' (ite_lasts (modSession_lasts (dropWaiting_lasts h')) (sendPacket_lasts (openFrom_lasts
      (modSession_lasts (dropWaiting_lasts h')))))
    · exact h'

theorem serveStanding_lasts {tbl : Nat → Option OpInfo} (h : Lasts k b s) (ht : TableLasts k b tbl) :
    Lasts k b (serveStanding tbl s) := by
  unfold serveStanding
  split
  · exact h
  · split
    · exact h
    · exact serveOne_lasts h ht

theorem answerDropped_lasts (h : Lasts k b s) : Lasts k b (answerDropped s) :=
  ite_lasts h (foldOver_lasts (.of_view h rfl) (fun _ _ h' => ite_lasts h' (finish_lasts (holdOff_lasts h'))))

theorem hostProbe_lasts {q : NetProbe} (h : Lasts k b s) : Lasts k b (hostProbe q s) := ite_lasts (emit_lasts h) h

/-! ### Frames of the Line -/

theorem modPort_lasts {east : Bool} {f : PortState → PortState} (h : Lasts k b s) : Lasts k b (modPort east f s) :=
  ite_lasts (.of_view h rfl) (.of_view h rfl)

theorem sendPort_lasts {east : Bool} {f : LineFrame} (h : Lasts k b s) : Lasts k b (sendPort east f s) := emit_lasts h

theorem linkError_lasts {east : Bool} (h : Lasts k b s) : Lasts k b (linkError east s) := modPort_lasts (State.bump_lasts h)

theorem countBad_lasts {east : Bool} {f : LineFrame} (h : Lasts k b s) : Lasts k b (countBad east f s) :=
  ite_lasts (State.bump_lasts h) (linkError_lasts h)

theorem noteHeard_lasts {src : Nat} (h : Lasts k b s) : Lasts k b (noteHeard src s) := by
  unfold noteHeard
  split
  · exact h
  · exact ite_lasts h (.of_view h rfl)

theorem markDone_lasts {k' : Nat} (h : Lasts k b s) : Lasts k b (markDone k' s) := .of_view h rfl

theorem dropBe_lasts (h : Lasts k b s) : Lasts k b (dropBe s) := State.bump_lasts h

theorem leaveBe_lasts {east : Bool} {f : LineFrame} (h : Lasts k b s) : Lasts k b (leaveBe east f s) :=
  ite_lasts (dropBe_lasts h) (ite_lasts (dropBe_lasts h) (ite_lasts (dropBe_lasts h) (sendPort_lasts
    (modPort_lasts h))))

theorem sendBeNow_lasts {type dest : Nat} {payload : Bytes} (h : Lasts k b s) : Lasts k b (sendBeNow type dest payload s) :=
  ite_lasts (leaveBe_lasts h) (dropBe_lasts h)

theorem sendBe_lasts {type dest : Nat} {payload : Bytes} (h : Lasts k b s) : Lasts k b (sendBe type dest payload s) :=
  ite_lasts (offerBe_lasts h) (sendBeNow_lasts h)

theorem sendHopNow_lasts {east : Bool} {type : Nat} {payload : Bytes} (h : Lasts k b s) :
    Lasts k b (sendHopNow east type payload s) := ite_lasts (dropBe_lasts h) (leaveBe_lasts h)

theorem sendHop_lasts {east : Bool} {type : Nat} {payload : Bytes} (h : Lasts k b s) :
    Lasts k b (sendHop east type payload s) :=
  ite_lasts (sendHopNow_lasts h) (ite_lasts (ite_lasts (sendHopNow_lasts h) (.of_view h rfl)) (ite_lasts
    (sendHopNow_lasts h) (offerBe_lasts h)))

theorem sendWaiting_lasts {type dest : Nat} {payload : Bytes} (h : Lasts k b s) :
    Lasts k b (sendWaiting type dest payload s) := ite_lasts (sendHopNow_lasts h) (sendBeNow_lasts h)

theorem sendCheck_lasts {east request answer : Bool} (h : Lasts k b s) : Lasts k b (sendCheck east request answer s) :=
  sendHop_lasts (modPort_lasts h)

theorem sendChecks_lasts (h : Lasts k b s) : Lasts k b (sendChecks s) :=
  ite_lasts (sendCheck_lasts (ite_lasts (sendCheck_lasts (markDone_lasts h)) (markDone_lasts h))) (ite_lasts
    (sendCheck_lasts (markDone_lasts h)) (markDone_lasts h))

theorem retireLink_lasts {east : Bool} (h : Lasts k b s) : Lasts k b (retireLink east s) :=
  raise_lasts (fault_lasts (modPort_lasts (State.put_lasts (State.put_lasts (retire_lasts h)))))

theorem linkClassify_lasts {east : Bool} (h : Lasts k b s) : Lasts k b (linkClassify east s) :=
  ite_lasts h (ite_lasts (markDone_lasts h) (ite_lasts (ite_lasts (retireLink_lasts (markDone_lasts h))
    (modPort_lasts (markDone_lasts h))) (ite_lasts (ite_lasts (retireLink_lasts (markDone_lasts h)) (raise_lasts
    (fault_lasts (modPort_lasts (markDone_lasts h))))) (markDone_lasts h))))

theorem unretireLink_lasts {east : Bool} (h : Lasts k b s) : Lasts k b (unretireLink east s) := State.put_lasts (unretire_lasts h)

theorem runLinkReinstate_lasts {p : Request} (h : Lasts k b s) : Lasts k b (runLinkReinstate p s).st :=
  ite_st_lasts (refuse_lasts h) (ite_st_lasts (ok_lasts h) (ok_lasts (modPort_lasts (unretireLink_lasts h))))

theorem checkReceive_lasts {east : Bool} {f : LineFrame} (h : Lasts k b s) : Lasts k b (checkReceive east f s) :=
  ite_lasts h (ite_lasts (countBad_lasts h) (ite_lasts h (ite_lasts (sendCheck_lasts (modPort_lasts (ite_lasts
    (retireLink_lasts (ite_lasts (unretireLink_lasts h) h)) (ite_lasts (unretireLink_lasts h) h)))) (modPort_lasts
    (ite_lasts (retireLink_lasts (ite_lasts (unretireLink_lasts h) h)) (ite_lasts (unretireLink_lasts h) h))))))

theorem restorePort_lasts {east : Bool} (h : Lasts k b s) : Lasts k b (restorePort east s) := by
  unfold restorePort
  split
  · exact h
  · exact ite_lasts h (ite_lasts (raise_lasts (State.put_lasts (modPort_lasts h))) (modPort_lasts h))

theorem linkDrop_lasts {east : Bool} (h : Lasts k b s) : Lasts k b (linkDrop east s) :=
  ite_lasts h (ite_lasts (State.put_lasts (modPort_lasts h)) (raise_lasts (State.put_lasts (State.put_lasts
    (modPort_lasts h)))))

theorem linkUp_lasts {east : Bool} (h : Lasts k b s) : Lasts k b (linkUp east s) :=
  ite_lasts h (ite_lasts (State.put_lasts (modPort_lasts (State.put_lasts h))) (modPort_lasts (State.put_lasts h)))

theorem delayProbe_lasts {east : Bool} (h : Lasts k b s) : Lasts k b (delayProbe east s) := ite_lasts h (sendHop_lasts (modPort_lasts h))

theorem delayReqReceive_lasts {east : Bool} {f : LineFrame} {turnaround : Nat} (h : Lasts k b s) :
    Lasts k b (delayReqReceive east f turnaround s) := ite_lasts h (ite_lasts (countBad_lasts h) (ite_lasts h (sendHop_lasts h)))

theorem delayRespReceive_lasts {east : Bool} {f : LineFrame} {roundTrip : Nat} (h : Lasts k b s) :
    Lasts k b (delayRespReceive east f roundTrip s) :=
  ite_lasts h (ite_lasts (countBad_lasts h) (ite_lasts h (State.put_lasts (modPort_lasts h))))

end

end Sys2Proof.Machine
end

section
/-!
SUPPORT for O60. What stands under orders, the throw, cycles, joining and roles.
-/

namespace Sys2Proof.Machine

section
variable {k : Latitude} {b s t : State}

/-! ### Running orders -/

theorem modOrder_lasts {n : Nat} {f : OrderState → OrderState} (h : Lasts k b s) : Lasts k b (modOrder n f s) := .of_view h rfl

theorem orderStart_lasts {n : Nat} (h : Lasts k b s) : Lasts k b (orderStart n s) := ite_lasts h (modOrder_lasts h)

theorem orderEnd_lasts {n : Nat} (h : Lasts k b s) : Lasts k b (orderEnd n s) := modOrder_lasts h

theorem orderGo_lasts {n step wait : Nat} (h : Lasts k b s) : Lasts k b (orderGo n step wait s) :=
  ite_lasts (modOrder_lasts h) (orderEnd_lasts h)

theorem orderFail_lasts {n : Nat} {e : OrderEntry} (h : Lasts k b s) : Lasts k b (orderFail n e s) :=
  ite_lasts (orderGo_lasts h) (raiseArg_lasts (State.put_lasts (State.put_lasts (orderEnd_lasts h))))

theorem orderResult_lasts {n : Nat} {e : OrderEntry} {good : Bool} (h : Lasts k b s) : Lasts k b (orderResult n e good s) :=
  ite_lasts (orderGo_lasts h) (orderFail_lasts h)

theorem orderWrite_lasts {n : Nat} {e : OrderEntry} (h : Lasts k b s) : Lasts k b (orderWrite n e s) :=
  ite_lasts (orderResult_lasts (writeOne_lasts h)) (orderFail_lasts h)

theorem orderUntil_lasts {n : Nat} {e : OrderEntry} {good : Bool} (h : Lasts k b s) : Lasts k b (orderUntil n e good s) :=
  ite_lasts (orderResult_lasts h) (ite_lasts (orderFail_lasts h) (modOrder_lasts h))

theorem orderRaise_lasts {n : Nat} {e : OrderEntry} (h : Lasts k b s) : Lasts k b (orderRaise n e s) :=
  orderResult_lasts (raiseArg_lasts (State.put_lasts (State.put_lasts h)))

theorem orderExecute_lasts {n : Nat} {e : OrderEntry} (h : Lasts k b s) : Lasts k b (orderExecute n e s) :=
  ite_lasts (orderEnd_lasts h) (ite_lasts (orderWrite_lasts h) (ite_lasts (orderGo_lasts h) (ite_lasts
    (orderUntil_lasts (readReg_lasts h)) (ite_lasts (orderResult_lasts (readReg_lasts h)) (ite_lasts (orderResult_lasts
    (readReg_lasts h)) (ite_lasts (orderGo_lasts h) (ite_lasts (orderRaise_lasts h) (orderFail_lasts h))))))))

theorem orderStep_lasts {n : Nat} (h : Lasts k b s) : Lasts k b (orderStep n s) := ite_lasts (orderExecute_lasts h) h

/-! ### Throw -/

theorem loopBefore_lasts {c : Container} {n : Nat} (h : Lasts k b s) : Lasts k b (loopBefore c s n) := by
  unfold loopBefore
  split
  · exact h
  · split
    · exact noLoss_lasts (ite_lasts h (loopToOpen_lasts h))
    · split
      · exact h
      · split
        · exact h
        · exact modLoop_lasts h

theorem disownAfter_lasts {before : State} {n : Nat} (h : Lasts k b s) : Lasts k b (disownAfter before s n) := by
  unfold disownAfter
  split
  · exact h
  · exact ite_lasts (State.put_lasts h) h

theorem ownAfter_lasts {before : State} {n : Nat} (h : Lasts k b s) : Lasts k b (ownAfter before s n) := by
  unfold ownAfter
  split
  · exact h
  · exact ite_lasts (State.put_lasts (State.put_lasts h)) h

theorem retimed_lasts {before : State} {n : Nat} (h : Lasts k b s) : Lasts k b (retimed before s n) := ite_lasts h (modLoop_lasts h)

theorem loopAfter_lasts {before : State} {n : Nat} (h : Lasts k b s) : Lasts k b (loopAfter before s n) :=
  ite_lasts h (ite_lasts (State.put_lasts (setInteg_lasts (modLoop_lasts (State.put_lasts h)))) (retimed_lasts
    (setInteg_lasts h)))

theorem channelAfter_lasts {c : Nat} (h : Lasts k b s) : Lasts k b (channelAfter s c) := ite_lasts (commandChannel_lasts h) h

theorem lineAfter_lasts (h : Lasts k b s) : Lasts k b (lineAfter s) := .of_view h rfl

theorem yardSwap_lasts {before : State} {old : List FnBefore} (h : Lasts k b s) : Lasts k b (yardSwap before old s) :=
  startTimeState_lasts (ite_lasts (holdFusion_lasts (lineAfter_lasts (throwSetting_lasts h))) (releaseSteer_lasts
    (holdFusion_lasts (lineAfter_lasts (throwSetting_lasts h)))))

theorem copiesAfter_lasts {before : State} (h : Lasts k b s) : Lasts k b (copiesAfter before s) := .of_view h rfl

theorem swapYard_lasts {crc cyc : Nat} (h : Lasts k b s) : Lasts k b (swapYard crc cyc s) := by
  unfold swapYard
  split
  · exact h
  · exact yardSwap_lasts (.of_view (abandonStep_lasts h) rfl)

theorem swapSets_lasts {crc cyc : Nat} {late : Bool} (h : Lasts k b s) : Lasts k b (swapSets crc cyc late s) := by
  unfold swapSets
  split
  · exact h
  · exact ite_lasts (foldOver_lasts (canSwap_lasts (dropUndelivered_lasts (refreshSinks_lasts (loadOrders_lasts
    (foldOver_lasts (foldOver_lasts (foldOver_lasts (foldOver_lasts (foldOver_lasts (ite_lasts (raise0_lasts
    (State.bump_lasts (raise0_lasts (fault_lasts (State.bump_lasts (State.put_lasts (State.put_lasts (State.put_lasts
    (State.put_lasts (State.put_lasts (.of_view (foldOver_lasts (ite_lasts h (abandonStep_lasts h))
    (fun _ _ h' => loopBefore_lasts h')) rfl))))))))))) (raise0_lasts (fault_lasts (State.bump_lasts (State.put_lasts
    (State.put_lasts (State.put_lasts (State.put_lasts (State.put_lasts (.of_view (foldOver_lasts (ite_lasts h
    (abandonStep_lasts h)) (fun _ _ h' => loopBefore_lasts h')) rfl)))))))))) (fun _ _ h' => loopAfter_lasts h'))
    (fun _ _ h' => disownAfter_lasts h')) (fun _ _ h' => ownAfter_lasts h')) (fun _ _ h' => channelAfter_lasts h'))
    (fun _ _ h' => judgeAnew_lasts h')))))) (fun _ _ h' => copyFn_lasts h')) (ite_lasts (yardSwap_lasts (canSwap_lasts
    (dropUndelivered_lasts (refreshSinks_lasts (loadOrders_lasts (foldOver_lasts (foldOver_lasts (foldOver_lasts
    (foldOver_lasts (foldOver_lasts (ite_lasts (raise0_lasts (State.bump_lasts (raise0_lasts (fault_lasts
    (State.bump_lasts (State.put_lasts (State.put_lasts (State.put_lasts (State.put_lasts (State.put_lasts (.of_view
    (foldOver_lasts (ite_lasts h (abandonStep_lasts h)) (fun _ _ h' => loopBefore_lasts h')) rfl))))))))))) (raise0_lasts
    (fault_lasts (State.bump_lasts (State.put_lasts (State.put_lasts (State.put_lasts (State.put_lasts (State.put_lasts
    (.of_view (foldOver_lasts (ite_lasts h (abandonStep_lasts h)) (fun _ _ h' => loopBefore_lasts h')) rfl))))))))))
    (fun _ _ h' => loopAfter_lasts h')) (fun _ _ h' => disownAfter_lasts h')) (fun _ _ h' => ownAfter_lasts h'))
    (fun _ _ h' => channelAfter_lasts h')) (fun _ _ h' => judgeAnew_lasts h'))))))) (copiesAfter_lasts (canSwap_lasts
    (dropUndelivered_lasts (refreshSinks_lasts (loadOrders_lasts (foldOver_lasts (foldOver_lasts (foldOver_lasts
    (foldOver_lasts (foldOver_lasts (ite_lasts (raise0_lasts (State.bump_lasts (raise0_lasts (fault_lasts
    (State.bump_lasts (State.put_lasts (State.put_lasts (State.put_lasts (State.put_lasts (State.put_lasts (.of_view
    (foldOver_lasts (ite_lasts h (abandonStep_lasts h)) (fun _ _ h' => loopBefore_lasts h')) rfl))))))))))) (raise0_lasts
    (fault_lasts (State.bump_lasts (State.put_lasts (State.put_lasts (State.put_lasts (State.put_lasts (State.put_lasts
    (.of_view (foldOver_lasts (ite_lasts h (abandonStep_lasts h)) (fun _ _ h' => loopBefore_lasts h')) rfl))))))))))
    (fun _ _ h' => loopAfter_lasts h')) (fun _ _ h' => disownAfter_lasts h')) (fun _ _ h' => ownAfter_lasts h'))
    (fun _ _ h' => channelAfter_lasts h')) (fun _ _ h' => judgeAnew_lasts h'))))))))

theorem disarm_lasts (h : Lasts k b s) : Lasts k b (disarm s) := State.put_lasts (.of_view h rfl)

theorem throwStart_lasts (h : Lasts k b s) : Lasts k b (throwStart s) := by
  unfold throwStart
  split
  · exact h
  · exact ite_lasts h (ite_lasts (swapSets_lasts h) (ite_lasts (disarm_lasts h) (ite_lasts (swapYard_lasts h) h)))

theorem lateThrow_lasts (h : Lasts k b s) : Lasts k b (lateThrow s) := by
  unfold lateThrow
  split
  · exact h
  · exact ite_lasts h (ite_lasts (swapSets_lasts h) (.of_view h rfl))

theorem armSiding_lasts {n : Nat} (h : Lasts k b s) : Lasts k b (armSiding n s) := State.put_lasts (State.put_lasts (.of_view h rfl))

theorem runPointsThrow_lasts {p : Request} (h : Lasts k b s) : Lasts k b (runPointsThrow p s).st :=
  ite_st_lasts (ok_lasts h) (ite_st_lasts h (ite_st_lasts (refuse_lasts h) (armSiding_lasts (.of_view h rfl))))

/-- A packet that is queued, or that finds no room. -/
theorem offerQueue_getD_lasts {x : Slot} {bs : Bytes} (h : Lasts k b s) : Lasts k b ((offerQueue x bs s).getD s) := by
  cases offered : offerQueue x bs s with
  | none => exact h
  | some u => exact offerQueue_lasts h offered

theorem sendArming_lasts (h : Lasts k b s) : Lasts k b (sendArming s) := by
  unfold sendArming
  split
  · exact h
  · refine ite_lasts h (foldOver_lasts (foldOver_lasts ?_ ?_) ?_)
    · exact .of_view h rfl
    · exact fun _ _ h => offerQueue_getD_lasts h
    · exact fun _ _ h => offerBePacket_lasts h

theorem armingRequest_lasts {p : Request} (h : Lasts k b s) : Lasts k b (armingRequest p s) :=
  ite_lasts h (sendPacket_lasts (ite_lasts (armSiding_lasts h) h))

theorem commitDecision_lasts (h : Lasts k b s) : Lasts k b (commitDecision s) := by
  unfold commitDecision
  split
  · exact h
  · exact ite_lasts h (.of_view h rfl)

theorem ownToken_lasts {c : Nat} (h : Lasts k b s) : Lasts k b (ownToken c s) := by
  unfold ownToken
  split
  · exact h
  · exact ite_lasts (passToken_lasts (.of_view h rfl)) h

theorem answerThrow_lasts {w : Waiting} (h : Lasts k b s) : Lasts k b (answerThrow s w) := by
  unfold answerThrow
  split
  · exact h
  · exact ite_lasts h (ite_lasts (completeWaiting_lasts h) (completeWaiting_lasts (raise0_lasts (State.bump_lasts h))))

theorem throwFinal_lasts (h : Lasts k b s) : Lasts k b (throwFinal s) := by
  unfold throwFinal
  split
  · exact h
  · dsimp only
    split
    · exact foldOver_lasts h (fun _ _ h' => answerThrow_lasts h')
    · exact ite_lasts (.of_view (foldOver_lasts h (fun _ _ h' => answerThrow_lasts h')) rfl) (foldOver_lasts h
      (fun _ _ h' => answerThrow_lasts h'))

/-! ### Cycles -/

theorem sendCopy_lasts {east : Bool} {f : LineFrame} (h : Lasts k b s) : Lasts k b (sendCopy east f s) := ite_lasts (sendPort_lasts h) h

theorem sendBoth_lasts {type sender entry len : Nat} {payload : Bytes} (h : Lasts k b s) :
    Lasts k b (sendBoth type sender entry len payload s) := sendCopy_lasts (sendCopy_lasts h)

theorem sendCopies_lasts {x : Slot} {type : Nat} {payload : Bytes} (h : Lasts k b s) : Lasts k b (sendCopies x type payload s) := by
  have first {c : Prop} [Decidable c] {f : LineFrame} {east : Bool} {l : LinePart} :
      Lasts k b (if c then sendCopy east f s else { s with line := l }) := ite_lasts (sendCopy_lasts h) (line_lasts h)
  exact ite_lasts (sendCopy_lasts first) (line_lasts first)

theorem sendLater_lasts {x : Slot} (h : Lasts k b s) : Lasts k b (sendLater x s) :=
  foldOver_lasts (.of_view h rfl) (fun _ _ h' => sendCopy_lasts h')

theorem sendCycleStart_lasts (h : Lasts k b s) : Lasts k b (sendCycleStart s) :=
  ite_lasts h (markDone_lasts (.of_view (sendBoth_lasts (ownToken_lasts h)) rfl))

theorem fillRegions_lasts {x : Slot} {b' : Bytes} (h : Lasts k b s) : Lasts k b (fillRegions x b' s).2 := by
  unfold fillRegions
  refine foldOver_preserves (fun acc : Bytes × State => Lasts k b acc.2) _ (fun acc i hacc => ?_) _ _ h
  have moved {l : FusionPart} {p : StreamPart} : Lasts k b (modStream i (fun _ => p) { acc.2 with fus := l }) := modStream_lasts
      (fus_lasts hacc)
  dsimp only
  split
  · exact hacc
  · exact moved

theorem putValue_lasts {entry : Nat} {payload : Bytes} (h : Lasts k b s) : Lasts k b (putValue entry payload s) := .of_view h rfl

theorem entryFound_lasts {entry : Nat} (h : Lasts k b s) : Lasts k b (entryFound entry s) :=
  ite_lasts (refreshLoss_lasts (.of_view h rfl)) h

theorem offerWaiting_lasts (h : Lasts k b s) : Lasts k b (offerWaiting s) := by
  unfold offerWaiting
  refine foldOver_lasts (.of_view h rfl) ?_
  intro s' a h'
  dsimp only
  split
  · exact ite_lasts (offerBePacket_lasts h') (.of_view h' rfl)
  · split
    · exact h'
    next _ _ x3 =>
      split
      · exact .of_view h' rfl
      · split
        next _ _ x3 => exact offerQueue_lasts h' x3
        · exact .of_view h' rfl

theorem sendData_lasts {x : Slot} (h : Lasts k b s) : Lasts k b (sendData x s) := by
  unfold sendData
  split
  · exact sendCopies_lasts (.of_view h rfl)
  · split
    next _ _ _ x4 => exact ite_lasts (entryFound_lasts (putValue_lasts (sendCopies_lasts (statusTaken_lasts (Lasts.snd
      (fillRegions_lasts h) x4))))) (sendCopies_lasts (statusTaken_lasts (Lasts.snd (fillRegions_lasts h) x4)))

theorem sendQueued_lasts {x : Slot} (h : Lasts k b s) : Lasts k b (sendQueued x s) := by
  unfold sendQueued
  split
  · exact h
  · split
    · exact h
    · exact offerWaiting_lasts (packetLeft_lasts (noteEntryServed_lasts (sendCopies_lasts (.of_view h rfl))))

theorem entrySend_lasts {entry : Nat} (h : Lasts k b s) : Lasts k b (entrySend entry s) := by
  unfold entrySend
  split
  · exact h
  · exact ite_lasts h (ite_lasts (sendLater_lasts h) (ite_lasts (sendData_lasts (markDone_lasts h)) (ite_lasts
    (sendQueued_lasts (markDone_lasts h)) (markDone_lasts h))))

theorem lineForward_lasts {east : Bool} {f : LineFrame} {residence : Nat} (h : Lasts k b s) :
    Lasts k b (lineForward east f residence s) := ite_lasts h (ite_lasts (sendPort_lasts h) (leaveBe_lasts h))

theorem firstOfSequence_lasts {f : LineFrame} (h : Lasts k b s) : Lasts k b (firstOfSequence f s).1 :=
  ite_fst_lasts (State.bump_lasts h) (ite_fst_lasts (State.wrapUp_lasts h) (.of_view h rfl))

theorem endMismatch_lasts {n : Nat} (h : Lasts k b s) : Lasts k b (endMismatch n s) := ite_lasts (raise_lasts (.of_view h rfl)) h

theorem acceptReserved_lasts {east : Bool} {f : LineFrame} (h : Lasts k b s) : Lasts k b (acceptReserved east f s).1 := by
  have heard := firstOfSequence_lasts (f := f) h
  unfold acceptReserved
  split
  · exact h
  · split
    · exact countBad_lasts h
    · split
      · exact h
      · split
        next found =>
          rw [found] at heard
          exact heard
        next found =>
          rw [found] at heard
          dsimp only
          split
          · exact noteHeard_lasts heard
          · exact endMismatch_lasts (noteHeard_lasts heard)

theorem takeMirror_lasts {m : Mirror} (h : Lasts k b s) : Lasts k b (takeMirror m s) := .of_view h rfl

theorem takeRegions_lasts {src entry : Nat} {regions : List (Nat × Nat)} {payload : Bytes} (h : Lasts k b s) :
    Lasts k b (takeRegions src entry regions payload s) := by
  unfold takeRegions
  split
  · exact h
  · exact foldOver_lasts h (fun _ _ h' => acceptRegion_lasts h')

theorem dataReceive_lasts {east : Bool} {f : LineFrame} {regions : List (Nat × Nat)} {mirror : Option Mirror} (h : Lasts k b s) :
    Lasts k b (dataReceive east f regions mirror s) := by
  unfold dataReceive
  split
  · exact h
  · split
    next _ _ _ x4 =>
      split
      · exact Lasts.fst (acceptReserved_lasts h) x4
      · split
        · exact Lasts.fst (acceptReserved_lasts h) x4
        · split
          · split
            · exact ite_lasts (takeMirror_lasts (Lasts.fst (acceptReserved_lasts h) x4)) (Lasts.fst
              (acceptReserved_lasts h) x4)
            · exact Lasts.fst (acceptReserved_lasts h) x4
          · exact ite_lasts (Lasts.fst (acceptReserved_lasts h) x4) (entryFound_lasts (putValue_lasts (takeRegions_lasts
            (Lasts.fst (acceptReserved_lasts h) x4))))

theorem followTime_lasts {step : Bool} {bound : Nat} {err : Int} (h : Lasts k b s) :
    Lasts k b (followTime step bound err s) := ite_lasts (stepTime_lasts h) (beginSteer_lasts h)

theorem takePosition_lasts {f : LineFrame} (h : Lasts k b s) : Lasts k b (takePosition f s) :=
  ite_lasts (ite_lasts (.of_view h rfl) (.of_view h rfl)) (ite_lasts (State.put_lasts (ite_lasts (.of_view h rfl)
    (.of_view h rfl))) (ite_lasts (State.put_lasts (ite_lasts (.of_view h rfl) (.of_view h rfl))) (ite_lasts (.of_view h rfl)
    (.of_view h rfl))))

theorem takeTime_lasts {east merged : Bool} {f : LineFrame} (h : Lasts k b s) : Lasts k b (takeTime east merged f s) :=
  ite_lasts (followTime_lasts h) (ite_lasts (suppressPulse_lasts (followTime_lasts (.of_view h rfl))) (ite_lasts
    (.of_view h rfl) (followTime_lasts h)))

theorem takeToken_lasts {f : LineFrame} (h : Lasts k b s) : Lasts k b (takeToken f s) :=
  ite_lasts (passToken_lasts (.of_view h rfl)) (ite_lasts (.of_view h rfl) h)

theorem compareSets_lasts {f : LineFrame} (h : Lasts k b s) : Lasts k b (compareSets f s) :=
  ite_lasts (ite_lasts (disarm_lasts (State.put_lasts (.of_view h rfl))) (State.put_lasts (.of_view h rfl)))
    (ite_lasts (ite_lasts (.of_view h rfl) (.of_view (.of_view h rfl) rfl)) (ite_lasts (.of_view h rfl) (raise0_lasts
    (State.put_lasts (State.put_lasts (.of_view h rfl))))))

theorem resumeEntries_lasts (h : Lasts k b s) : Lasts k b (resumeEntries s) := ite_lasts (State.put_lasts (.of_view h rfl)) h

theorem firstCopy_lasts {east fresh : Bool} {f : LineFrame} {holder : Nat} (h : Lasts k b s) :
    Lasts k b (firstCopy east fresh f holder s) := by
  have timed : Lasts k b (((noteTstat (fieldAt f.payload 12 1) (takeTime east (otherHolderNow s f) f (takePosition f s))).put
      F.LIN_POS_MASTER_NUM holder).put F.LIN_STATUS_MISSED 0) :=
    State.put_lasts (State.put_lasts (noteTstat_lasts (takeTime_lasts (takePosition_lasts h))))
  unfold firstCopy
  extract_lets uid tstat merged lost s1 s2 _ s3 _ s4 s5 _ s6 s7 _ s8
  have h3 : Lasts k b s3 := line_lasts (s := s2) timed
  have h4 : Lasts k b s4 := ite_lasts (noteHeard_lasts (line_lasts h3)) h3
  have h5 : Lasts k b s5 := compareSets_lasts h4
  have h6 : Lasts k b s6 := ite_lasts (takeToken_lasts (line_lasts h5)) h5
  have h7 : Lasts k b s7 := ite_lasts (raise0_lasts h6) h6
  exact resumeEntries_lasts (ite_lasts (raise0_lasts (State.put_lasts (line_lasts h7))) h7)

theorem cycleStartReceive_lasts {east : Bool} {f : LineFrame} {holder : Nat} (h : Lasts k b s) :
    Lasts k b (cycleStartReceive east f holder s) := by
  have heard : Lasts k b (firstOfSequence f
      (if s.role.role == .terminusClaim then { s with role := { s.role with heardHolder := true } } else s)).1 :=
    firstOfSequence_lasts (ite_lasts (role_lasts h) h)
  refine ite_lasts h (ite_lasts (countBad_lasts h) ?_)
  dsimp only
  generalize firstOfSequence f _ = r at heard ⊢
  refine ite_lasts heard ?_
  split
  · exact firstCopy_lasts heard
  · refine ite_lasts (line_lasts (firstCopy_lasts heard)) (ite_lasts (takeTime_lasts (line_lasts ?_)) ?_)
    all_goals exact takePosition_lasts heard

theorem countSilent_lasts (h : Lasts k b s) : Lasts k b (countSilent s) := ite_lasts h (.of_view h rfl)

theorem growTerr_lasts {got : Bool} (h : Lasts k b s) : Lasts k b (growTerr got s) := .of_view h rfl

theorem closeCycle_lasts (h : Lasts k b s) : Lasts k b (closeCycle s) := by
  unfold closeCycle
  extract_lets got _ s1 s2 s3 s4 s5
  have h1 : Lasts k b s1 := ite_lasts (State.put_lasts h) (ite_lasts (line_lasts h) (State.bump_lasts (line_lasts h)))
  have h4 : Lasts k b s4 := State.put_lasts (State.put_lasts (gather_lasts (State.put_lasts (growTerr_lasts h1))))
  exact line_lasts (s := s5) (countSilent_lasts h4)

theorem cycleBoundary_lasts (h : Lasts k b s) : Lasts k b (cycleBoundary s) := by
  unfold cycleBoundary
  split
  · exact h
  · extract_lets s1 s2 s3 s4 _ s5 s6 s7 s8 s9
    have h3 : Lasts k b s3 := lateThrow_lasts (throwStart_lasts (State.put_lasts (closeCycle_lasts h)))
    have h4 : Lasts k b s4 := restorePort_lasts (restorePort_lasts h3)
    have h5 : Lasts k b s5 := ite_lasts (becomeRelief_lasts (line_lasts h4)) h4
    have h6 : Lasts k b s6 := acceptOwnRegions_lasts (takeNextWords_lasts h5)
    have h7 : Lasts k b s7 := ite_lasts (steerCycle_lasts h6) h6
    have h8 : Lasts k b s8 := ite_lasts (slewAll_lasts h7) h7
    have h9 : Lasts k b s9 := noteHealth_lasts (yieldCycle_lasts (receiverWatch_lasts h8))
    exact sendCycleStart_lasts (ite_lasts (sendArming_lasts h9) h9)

theorem resEndMiss_lasts (h : Lasts k b s) : Lasts k b (resEndMiss s) := ite_lasts h (markDone_lasts (.of_view h rfl))

theorem entryMissLimit_lasts {entry : Nat} (h : Lasts k b s) : Lasts k b (entryMissLimit entry s) :=
  ite_lasts h (refreshLoss_lasts (.of_view h rfl))

theorem lineLost_lasts (h : Lasts k b s) : Lasts k b (lineLost s) :=
  ite_lasts h (refreshLoss_lasts (.of_view (raise0_lasts (State.put_lasts (State.put_lasts h))) rfl))

theorem freeRunLimit_lasts (h : Lasts k b s) : Lasts k b (freeRunLimit s) := ite_lasts (State.put_lasts h) h

theorem syncAchieved_lasts (h : Lasts k b s) : Lasts k b (syncAchieved s) := ite_lasts (State.put_lasts h) h

theorem stationAbsent_lasts {n : Nat} (h : Lasts k b s) : Lasts k b (stationAbsent n s) := by
  unfold stationAbsent
  split
  · exact h
  · exact ite_lasts h (raise_lasts (ite_lasts (.of_view (.of_view h rfl) rfl) (.of_view h rfl)))

/-! ### Joining and roles -/

theorem beTurn_lasts {east : Bool} {f : LineFrame} (h : Lasts k b s) : Lasts k b (beTurn east f s) :=
  ite_lasts (ite_lasts (leaveBe_lasts h) h) (ite_lasts h (ite_lasts h (leaveBe_lasts h)))

theorem beFrameSend_lasts (h : Lasts k b s) : Lasts k b (beFrameSend s) := by
  have checked : Lasts k b (if doneNow s 4 then s else sendChecks s) := ite_lasts h (sendChecks_lasts h)
  refine ite_lasts h ?_
  dsimp only
  generalize (if doneNow s 4 then s else sendChecks s) = t at checked ⊢
  refine ite_lasts checked ?_
  split
  · exact checked
  · refine ite_lasts checked (ite_lasts (packetLeft_lasts (sendWaiting_lasts (line_lasts checked))) (sendWaiting_lasts
      (line_lasts checked)))

theorem joinSend_lasts (h : Lasts k b s) : Lasts k b (joinSend s) := ite_lasts h (sendBe_lasts (.of_view h rfl))

theorem sendJoinAccept_lasts {uid result num start : Nat} (h : Lasts k b s) :
    Lasts k b (sendJoinAccept uid result num start s) := sendBe_lasts h

theorem putLineMember_lasts {m : Member} (h : Lasts k b s) : Lasts k b (putLineMember m s) := .of_view h rfl

theorem holdOut_lasts {uid num posE code : Nat} (h : Lasts k b s) : Lasts k b (holdOut uid num posE code s) :=
  raiseArg_lasts (sendJoinAccept_lasts (putLineMember_lasts h))

theorem admitted_lasts {uid num posE : Nat} {relief mismatch : Bool} (h : Lasts k b s) :
    Lasts k b (admitted uid num posE relief mismatch s) := by
  refine ite_lasts (sendJoinAccept_lasts (line_lasts ?_)) (raise_lasts (sendJoinAccept_lasts (line_lasts ?_)))
  all_goals exact putLineMember_lasts h

theorem admitRelief_lasts {uid num posE : Nat} {mismatch : Bool} (h : Lasts k b s) :
    Lasts k b (admitRelief uid num posE mismatch s) := by
  unfold admitRelief
  split
  · exact admitted_lasts h
  · exact ite_lasts (admitted_lasts (holdOut_lasts h)) (holdOut_lasts h)

theorem joinDecide_lasts {uid rev strap posE setId : Nat} (h : Lasts k b s) :
    Lasts k b (joinDecide uid rev strap posE setId s) := by
  refine ite_lasts h (ite_lasts (line_lasts (ite_lasts (admitted_lasts h) (admitRelief_lasts h))) (ite_lasts (holdOut_lasts h)
    (ite_lasts (holdOut_lasts h) (ite_lasts (holdOut_lasts h) (ite_lasts (holdOut_lasts h) ?_)))))
  split
  · exact ite_lasts (ite_lasts (admitRelief_lasts (holdOut_lasts h)) (admitted_lasts (holdOut_lasts h))) (holdOut_lasts h)
  · exact ite_lasts (admitRelief_lasts h) (admitted_lasts h)

theorem joinReceive_lasts {east : Bool} {f : LineFrame} (h : Lasts k b s) : Lasts k b (joinReceive east f s) :=
  ite_lasts h (joinDecide_lasts h)

theorem joinAcceptReceive_lasts {east : Bool} {f : LineFrame} (h : Lasts k b s) : Lasts k b (joinAcceptReceive east f s) := by
  unfold joinAcceptReceive
  extract_lets _ _ _ s1 s2 _ _ s3
  have h1 : Lasts k b s1 := line_lasts h
  have h2 : Lasts k b s2 := ite_lasts (setRole_lasts h1) h1
  have h3 : Lasts k b s3 := by
    subst s3
    clear_value s2
    exact State.put_lasts (.of_view h2 rfl)
  clear_value s1
  refine ite_lasts h (ite_lasts (State.put_lasts h3) (ite_lasts (standDown_lasts (line_lasts h1)) ?_))
  exact channelsOff_lasts (State.put_lasts (State.put_lasts (.of_view h1 rfl)))

theorem timetableStart_lasts (h : Lasts k b s) : Lasts k b (timetableStart s) := by
  unfold timetableStart
  split
  · exact h
  · exact ite_lasts (State.put_lasts h) h

theorem tellTakeover_lasts (h : Lasts k b s) : Lasts k b (tellTakeover s) := .of_view (raise0_lasts h) rfl

theorem takeoverTime_lasts (h : Lasts k b s) : Lasts k b (takeoverTime s) := by
  have stopped : Lasts k b { s with steer := none } := steer_lasts h
  have valid : Lasts k b
      (if s.nav.lineAligned then State.put { s with steer := none } F.GNS_STATUS_TIME_VALID 1 else { s with steer := none }) :=
    ite_lasts (State.put_lasts stopped) stopped
  exact ite_lasts (State.put_lasts valid) (ite_lasts (beginSlew_lasts (State.put_lasts (nav_lasts valid))) (State.put_lasts valid))

theorem takeoverRecords_lasts (h : Lasts k b s) : Lasts k b (takeoverRecords s) := .of_view h rfl

theorem takeRole_lasts {byHandover : Bool} (h : Lasts k b s) : Lasts k b (takeRole byHandover s) := by
  unfold takeRole
  extract_lets former _ s1 s2 s3 s4
  have h1 : Lasts k b s1 := takeoverTime_lasts (setRole_lasts (role_lasts h))
  have h3 : Lasts k b s3 := State.put_lasts (State.put_lasts (State.put_lasts (State.bump_lasts (State.put_lasts h1))))
  have h4 : Lasts k b s4 := tellTakeover_lasts (takeoverRecords_lasts h3)
  clear_value s4
  exact takeoverSetting_lasts (.of_view h4 rfl)

theorem takeoverDecision_lasts (h : Lasts k b s) : Lasts k b (takeoverDecision s) :=
  ite_lasts h (ite_lasts (line_lasts (line_lasts (markDone_lasts h))) (line_lasts (markDone_lasts h)))

theorem takeover_lasts (h : Lasts k b s) : Lasts k b (takeover s) :=
  ite_lasts h (ite_lasts (takeRole_lasts h) (sendCycleStart_lasts (takeRole_lasts h)))

theorem handover_lasts {taken : Bool} (h : Lasts k b s) : Lasts k b (handover taken s) := by
  unfold handover
  split
  · exact h
  · split
    · split
      · exact h
      · exact ite_lasts h (ite_lasts (.of_view (becomeRelief_lasts h) rfl) (ite_lasts (modUpd_lasts h (fun _ => rfl))
        (sendCycleStart_lasts (modUpd_lasts h (fun _ => rfl)))))
    · split
      · split
        · exact h
        · exact ite_lasts h (ite_lasts (ite_lasts (takeRole_lasts h) (sendCycleStart_lasts (takeRole_lasts h)))
          (modUpd_lasts h (fun _ => rfl)))
      · exact h

theorem otherCycleStart_lasts {east : Bool} {f : LineFrame} (h : Lasts k b s) : Lasts k b (otherCycleStart east f s) :=
  ite_lasts h (ite_lasts (countBad_lasts h) (ite_lasts h (ite_lasts (ite_lasts (standDown_lasts
    (firstOfSequence_lasts h)) (firstOfSequence_lasts h)) (ite_lasts (raise0_lasts (.of_view (firstOfSequence_lasts h) rfl))
    (firstOfSequence_lasts h)))))

theorem diagReceive_lasts {east : Bool} {f : LineFrame} (h : Lasts k b s) : Lasts k b (diagReceive east f s) := by
  unfold diagReceive
  split
  · exact h
  · split
    · exact h
    · split
      · exact h
      · exact emit_lasts h

theorem runLineStatus_lasts {p : Request} (h : Lasts k b s) :
    Lasts k b (runLineStatus p s).st := ok_lasts h

/-! ### Verification -/

theorem becomeReady_lasts {crc : Nat} {l : List (Nat × Nat)} (h : Lasts k b s) : Lasts k b (becomeReady crc l s) := by
  have ready {area : List (Nat × Nat × Bytes)} : Lasts k b ((State.put { s with sets := { s.sets with mramArea := area } }
      F.CFG_STATE_SIDING sReady).put F.CFG_SIDING_CRC_CRC crc) := State.put_lasts (State.put_lasts (sets_lasts h))
  exact ite_lasts h (ite_lasts (sets_lasts ready) ready)

theorem sidingVerified_lasts {relief : Option ReliefPart} (h : Lasts k b s) : Lasts k b (sidingVerified relief s) := by
  unfold sidingVerified
  split
  · exact h
  · exact ite_lasts h (completeOwn_lasts (ite_lasts (becomeReady_lasts h) (State.put_lasts h)))

end

end Sys2Proof.Machine
end

section
/-!
SUPPORT for O60. What stands under the opcodes.
-/

namespace Sys2Proof.Machine

section
variable {k : Latitude} {b s t : State}

/-! ### The opcode table -/

theorem opsA_lasts (hk : k.request = true) : ∀ info ∈ opsA, RunLasts k b info := by
  simp only [opsA, List.forall_mem_cons]
  exact ⟨fun p _ h => runHello_lasts (p := p) h,
    fun _ _ h => runSessionOpen_lasts h,
    fun _ _ h => runSessionClose_lasts h,
    fun p _ h => runSessionKeep_lasts (p := p) h,
    fun p _ h => runIdentify_lasts (p := p) h,
    fun _ _ h => runSessionKeySet_lasts h hk,
    fun _ _ h => runRequestCancel_lasts h,
    fun _ _ h => runRegRead_lasts h,
    fun _ _ h => runRegWrite_lasts h,
    fun _ _ h => runRegModify_lasts h,
    fun _ _ h => runTableInfo_lasts h,
    fun _ _ h => runTableRead_lasts h,
    fun _ _ h => runTableWrite_lasts h,
    fun _ _ h => runBlockUnlock_lasts h,
    fun _ _ h => runBlockLock_lasts h,
    fun _ _ h => runSidingLoad_lasts h,
    fun _ _ h => runSidingVerify_lasts h,
    fun _ _ h => runPointsThrow_lasts h,
    fun p _ h => runSidingClear_lasts (p := p) h,
    fun p _ h => runSetInfo_lasts (p := p) h,
    fun _ _ h => runLoadSet_lasts h, fun _ none => absurd none List.not_mem_nil⟩

theorem opsB_lasts (hk : k.request = true) : ∀ info ∈ opsB, RunLasts k b info := by
  simp only [opsB, List.forall_mem_cons]
  exact ⟨fun _ _ h => runLoadStatus_lasts h,
    fun _ _ h => runLoadReinstate_lasts h,
    fun _ _ h => runLimpMapRead_lasts h,
    fun _ _ h => runLimpMapWrite_lasts h hk,
    fun _ _ h => runLoopOpen_lasts h,
    fun _ _ h => runLoopRun_lasts h,
    fun _ _ h => runLoopHold_lasts h,
    fun _ _ h => runLoopSetpoint_lasts h,
    fun _ _ h => runLoopStatus_lasts h,
    fun _ _ h => runModelLoad_lasts h,
    fun _ _ h => runModelInfo_lasts h,
    fun _ _ h => runStreamStatus_lasts h,
    fun _ _ h => runStreamReinstate_lasts h,
    fun _ _ h => runGridRead_lasts h,
    fun _ _ h => runFunctionAuto_lasts h,
    fun _ _ h => runFunctionManual_lasts h,
    fun _ _ h => runFunctionStatus_lasts h,
    fun _ _ h => runSteerEngage_lasts h,
    fun _ _ h => runSteerRelease_lasts h,
    fun _ _ h => runGuidanceSet_lasts h,
    fun _ _ h => runRtcmFeed_lasts h, fun _ none => absurd none List.not_mem_nil⟩

theorem opsC_lasts : ∀ info ∈ opsC, RunLasts k b info := by
  simp only [opsC, List.forall_mem_cons]
  exact ⟨fun _ _ h => runGnssStatus_lasts h,
    fun _ _ h => runPpsDelaySet_lasts h,
    fun _ _ h => runFieldOpen_lasts h,
    fun _ _ h => runFieldClose_lasts h,
    fun p _ h => runYieldStatus_lasts (p := p) h,
    fun _ _ h => runYieldTileRead_lasts h,
    fun _ _ h => runTaskExport_lasts h,
    fun _ _ h => runConsistJoin_lasts h,
    fun _ _ h => runConsistLeave_lasts h,
    fun _ _ h => runConsistKeySet_lasts h,
    fun _ _ h => runConsistStatus_lasts h,
    fun _ _ h => runRendezvousRequest_lasts h,
    fun _ _ h => runStreamOpen_lasts h,
    fun _ _ h => runStreamClose_lasts h,
    fun _ _ h => runDmaStatus_lasts h,
    fun _ _ h => runLogbookRead_lasts h,
    fun p _ h => runLogbookInfo_lasts (p := p) h,
    fun _ _ h => runRetirementRead_lasts h,
    fun _ _ h => runUpdateBegin_lasts h,
    fun _ _ h => runUpdateChunk_lasts h,
    fun _ _ h => runUpdateVerify_lasts h, fun _ none => absurd none List.not_mem_nil⟩

theorem opsD_lasts : ∀ info ∈ opsD, RunLasts k b info := by
  simp only [opsD, List.forall_mem_cons]
  exact ⟨fun _ _ h => runUpdateActivate_lasts h,
    fun _ _ h => runUpdateConfirm_lasts h,
    fun p _ h => runUpdateStatus_lasts (p := p) h,
    fun p _ h => runLineStatus_lasts (p := p) h,
    fun _ _ h => runLinkReinstate_lasts h,
    fun _ _ h => runParkedDeclare_lasts h,
    fun _ _ h => runLevelSet_lasts h,
    fun p _ h => runLevelStatus_lasts (p := p) h,
    fun p _ h => runResume_lasts (p := p) h,
    fun _ _ h => runSleep_lasts h,
    fun _ _ h => runEventSubscribe_lasts h,
    fun _ _ h => runEcho_lasts h,
    fun p _ h => runCountersRead_lasts (p := p) h, fun _ none => absurd none List.not_mem_nil⟩

/-- Every opcode of the table carries out its requests so that what stands under requests stands. -/
theorem opTable_lasts (hk : k.request = true) : TableLasts k b opTable := by
  intro op info found
  have listed := List.mem_of_find?_eq_some found
  simp only [ops, List.mem_append] at listed
  obtain ((inA | inB) | inC) | inD := listed
  · exact opsA_lasts hk info inA
  · exact opsB_lasts hk info inB
  · exact opsC_lasts info inC
  · exact opsD_lasts info inD

theorem examine_lasts {op : Nat} {p : Request} (h : Lasts k b s) (hk : k.request = true) : Lasts k b (examine op p s) :=
  ite_lasts (armingRequest_lasts h) (settle_lasts (acceptPacket_lasts h (opTable_lasts hk)))

theorem shortPacket_lasts {via : Transport} (h : Lasts k b s) : Lasts k b (shortPacket via s) := ite_lasts (.of_view h rfl) h

theorem acceptBytes_lasts {via : Transport} {b' : Bytes} (h : Lasts k b s) (hk : k.request = true) :
    Lasts k b (acceptBytes via b' s) := ite_lasts (shortPacket_lasts h) (examine_lasts h hk)

theorem linePacket_lasts {sender : Nat} {num entry : Option Nat} {b' : Bytes} (h : Lasts k b s) (hk : k.request = true) :
    Lasts k b (linePacket sender num entry b' s) := by
  unfold linePacket
  dsimp only
  split
  · split
    · exact h
    · exact forwardedReply_lasts h
  · exact acceptBytes_lasts h hk

theorem setPartial_lasts {entry src : Nat} {r : Option Reassembly} (h : Lasts k b s) : Lasts k b (setPartial entry src r s) :=
  .of_view h rfl

theorem takeFragment_lasts {entry src : Nat} {payload : Bytes} (h : Lasts k b s) :
    Lasts k b (takeFragment entry src payload s).1 := by
  unfold takeFragment
  dsimp only
  split
  · exact setPartial_lasts h
  · split
    · exact ite_fst_lasts (setPartial_lasts h) (setPartial_lasts h)
    · split
      · exact h
      · exact ite_fst_lasts (ite_fst_lasts (setPartial_lasts h) (setPartial_lasts h)) (setPartial_lasts h)

theorem queuedReceive_lasts {east : Bool} {f : LineFrame} (h : Lasts k b s) (hk : k.request = true) :
    Lasts k b (queuedReceive east f s) := by
  have accepted := acceptReserved_lasts (east := east) (f := f) h
  unfold queuedReceive
  refine ite_lasts h ?_
  generalize acceptReserved east f s = r at accepted ⊢
  dsimp only
  split
  · exact accepted
  next x _ =>
    refine ite_lasts accepted ?_
    have taken := takeFragment_lasts (entry := x.entry) (src := f.src.toNat) (payload := f.payload) accepted
    split
    next found =>
      rw [found] at taken
      exact taken
    next found =>
      rw [found] at taken
      exact linePacket_lasts taken hk

theorem bestEffortReceive_lasts {east : Bool} {f : LineFrame} (h : Lasts k b s) (hk : k.request = true) :
    Lasts k b (bestEffortReceive east f s) := by
  have turned : Lasts k b (beTurn east f (if beForMe s east f then noteHeard f.src.toNat s else s)) :=
    beTurn_lasts (ite_lasts (noteHeard_lasts h) h)
  unfold bestEffortReceive
  refine ite_lasts h (ite_lasts (ite_lasts (beTurn_lasts (countBad_lasts h)) (countBad_lasts h)) ?_)
  dsimp only
  generalize beTurn east f _ = u at turned ⊢
  refine ite_lasts turned ?_
  have taken := takeFragment_lasts (entry := 0xFFF) (src := f.src.toNat) (payload := f.payload) turned
  split
  next found =>
    rw [found] at taken
    exact taken
  next found =>
    rw [found] at taken
    exact linePacket_lasts taken hk

theorem canPacket_lasts {sa : Nat} {b' : Bytes} (h : Lasts k b s) (hk : k.request = true) : Lasts k b (canPacket sa b' s) :=
  ite_lasts (acceptBytes_lasts h hk) (.of_view h rfl)

theorem serve_lasts (h : Lasts k b s) (hk : k.request = true) : Lasts k b (serve s) := by
  unfold serve
  split
  · exact ite_lasts (acceptBytes_lasts (.of_view h rfl) hk) (settle_lasts (serveStanding_lasts h (opTable_lasts hk)))
  · exact settle_lasts (serveStanding_lasts h (opTable_lasts hk))

theorem canReceive_lasts {n : Nat} {f : CanFrame} (h : Lasts k b s) (hk : k.request = true) : Lasts k b (canReceive n f s) :=
  takeQueued_lasts (receiveFrame_lasts h) (fun _ _ _ h' => canPacket_lasts h' hk)

end

end Sys2Proof.Machine
end

section
/-!
Every command keeps the queue, the order of time, the keys in OTP and what is stored.
-/

namespace Sys2Proof.Machine

/-- The only command that moves bytes of the memories. -/
def movesBytes : Instr → Bool
  | .descriptorComplete .. => true
  | _ => false

theorem Lasts.of_next {k : Latitude} {b u v : State} (h : Lasts k b v) (next : Host.Outcome.next (φ := Fault) (ρ := Refusal) v = .next u) :
    Lasts k b u := by
  cases next
  exact h

/-- A command that brings a request. -/
def isPacket : Instr → Bool
  | .hello .. | .identify .. | .sessionOpen .. | .sessionClose .. | .sessionKeep .. | .sessionKeySet .. | .requestCancel ..
  | .regRead .. | .regWrite .. | .regModify .. | .tableInfo .. | .tableRead .. | .tableWrite .. | .blockUnlock .. | .blockLock ..
  | .sidingLoad .. | .sidingVerify .. | .pointsThrow .. | .sidingClear .. | .setInfo .. | .loadSet .. | .loadStatus ..
  | .loadReinstate .. | .limpMapRead .. | .limpMapWrite .. | .loopOpen .. | .loopRun .. | .loopHold .. | .loopSetpoint ..
  | .loopStatus .. | .modelLoad .. | .modelInfo .. | .streamStatus .. | .streamReinstate .. | .gridRead .. | .functionAuto ..
  | .functionManual .. | .functionStatus .. | .steerEngage .. | .steerRelease .. | .guidanceSet .. | .rtcmFeed .. | .gnssStatus ..
  | .ppsDelaySet .. | .fieldOpen .. | .fieldClose .. | .yieldStatus .. | .yieldTileRead .. | .taskExport .. | .consistJoin ..
  | .consistLeave .. | .consistKeySet .. | .consistStatus .. | .rendezvousRequest .. | .streamOpen .. | .streamClose .. | .dmaStatus ..
  | .logbookRead .. | .logbookInfo .. | .retirementRead .. | .updateBegin .. | .updateChunk .. | .updateVerify .. | .updateActivate ..
  | .updateConfirm .. | .updateStatus .. | .lineStatus .. | .linkReinstate .. | .parkedDeclare .. | .levelSet .. | .levelStatus ..
  | .resume .. | .sleep .. | .event .. | .eventSubscribe .. | .echo .. | .countersRead .. => true
  | _ => false

theorem packet_lasts {k : Latitude} {c : Instr} {s u : State} (hk : k.request = true) (row : isPacket c = true)
    (next : exec c s = .next u) : Lasts k s u := by
  cases c with
  | hello | identify | sessionOpen | sessionClose | sessionKeep | sessionKeySet | requestCancel | regRead | regWrite | regModify
  | tableInfo | tableRead | tableWrite | blockUnlock | blockLock | sidingLoad | sidingVerify | pointsThrow | sidingClear | setInfo
  | loadSet | loadStatus | loadReinstate | limpMapRead | limpMapWrite | loopOpen | loopRun | loopHold | loopSetpoint | loopStatus
  | modelLoad | modelInfo | streamStatus | streamReinstate | gridRead | functionAuto | functionManual | functionStatus | steerEngage
  | steerRelease | guidanceSet | rtcmFeed | gnssStatus | ppsDelaySet | fieldOpen | fieldClose | yieldStatus | yieldTileRead | taskExport
  | consistJoin | consistLeave | consistKeySet | consistStatus | rendezvousRequest | streamOpen | streamClose | dmaStatus | logbookRead
  | logbookInfo | retirementRead | updateBegin | updateChunk | updateVerify | updateActivate | updateConfirm | updateStatus | lineStatus
  | linkReinstate | parkedDeclare | levelSet | levelStatus | resume | sleep | event | eventSubscribe | echo | countersRead =>
    exact .of_next (examine_lasts (begin_lasts .refl) hk) next
  | _ => exact absurd row Bool.false_ne_true

theorem loadRow_lasts {k : Latitude} {c : Instr} {s u : State} (row : isLoadRow c = true) (next : exec c s = .next u) : Lasts k s u := by
  have h : Lasts k s s := .refl
  cases c with
  | overCurrentLatch => exact .of_next (ite_lasts (overCurrent_lasts (begin_lasts h)) (begin_lasts h)) next
  | thermalLatch => exact .of_next (ite_lasts (thermal_lasts (begin_lasts h)) (begin_lasts h)) next
  | retry => exact .of_next (ite_lasts (retryChannel_lasts (begin_lasts h)) (begin_lasts h)) next
  | retryOk => exact .of_next (ite_lasts (retryOk_lasts (begin_lasts h)) (begin_lasts h)) next
  | inrushWindowEnd => exact .of_next (ite_lasts (inrushEnd_lasts (begin_lasts h)) (begin_lasts h)) next
  | openLoadJudgement => exact .of_next (ite_lasts (openLoad_lasts (begin_lasts h)) (begin_lasts h)) next
  | studMean => exact .of_next (ite_lasts (studMean_lasts (begin_lasts h)) (begin_lasts h)) next
  | supplyLow => exact .of_next (ite_lasts (studVoltage_lasts (begin_lasts h)) (begin_lasts h)) next
  | currentMeasure => exact .of_next (ite_lasts (measureAll_lasts (begin_lasts h)) (begin_lasts h)) next
  | senseSelect => exact .of_next (ite_lasts (senseSelect_lasts (begin_lasts h)) (begin_lasts h)) next
  | lhInChange => exact .of_next (ite_lasts (lhChange_lasts (begin_lasts h)) (State.put_lasts (begin_lasts h))) next
  | limpReqLow => exact .of_next (State.put_lasts (begin_lasts h)) next
  | supplyLowClear => exact .of_next (ite_lasts (studVoltage_lasts (begin_lasts h)) (begin_lasts h)) next
  | pwmPeriodStart => exact .of_next (ite_lasts (pwmPeriod_lasts (begin_lasts h)) (begin_lasts h)) next
  | _ => exact absurd row Bool.false_ne_true

theorem navigationRow_lasts {k : Latitude} {c : Instr} {s u : State} (row : isNavigationRow c = true)
    (next : exec c s = .next u) : Lasts k s u := by
  have h : Lasts k s s := .refl
  cases c with
  | correlatorDump =>
    exact .of_next (ite_lasts (countTracking_lasts (foldOver_lasts (receiverStart_lasts (begin_lasts h))
        (fun _ _ h' => dumpChannel_lasts h'))) (begin_lasts h)) next
  | acquisitionDone => exact .of_next (acquisitionDone_lasts (begin_lasts h)) next
  | gnssEpoch => exact .of_next (gnssEpoch_lasts (begin_lasts h)) next
  | slewEnd => exact .of_next (slewEnd_lasts (begin_lasts h)) next
  | timePulse => exact .of_next (timePulse_lasts (begin_lasts h)) next
  | antFault => exact .of_next (antFault_lasts (begin_lasts h)) next
  | rtcmFrame => exact .of_next (ite_lasts (rtcmFrame_lasts (begin_lasts h)) (begin_lasts h)) next
  | corrStale => exact .of_next (ite_lasts (refreshSource_lasts (begin_lasts h)) (begin_lasts h)) next
  | steerCompute => exact .of_next (ite_lasts (steerCompute_lasts (propagate_lasts (nav_lasts (begin_lasts h)))) (begin_lasts h)) next
  | enableFilter => exact .of_next (enableFilter_lasts (begin_lasts h)) next
  | edgeHoldTimeout => exact .of_next (edgeTimeout_lasts (begin_lasts h)) next
  | fixGraceExpiry => exact .of_next (graceExpiry_lasts (begin_lasts h)) next
  | overrideExpiry => exact .of_next (overrideExpiry_lasts (overrideWatch_lasts (begin_lasts h))) next
  | speedExpiry => exact .of_next (speedExpiry_lasts (begin_lasts h)) next
  | blendEnd =>
    refine .of_next ?_ next
    split
    · exact begin_lasts h
    · exact ite_lasts (State.put_lasts (nav_lasts (begin_lasts h))) (begin_lasts h)
  | _ => exact absurd row Bool.false_ne_true

theorem consistRow_lasts {k : Latitude} {c : Instr} {s u : State} (row : isConsistRow c = true)
    (next : exec c s = .next u) : Lasts k s u := by
  have h : Lasts k s s := .refl
  cases c with
  | heartbeatReceive => exact .of_next (receiveDatagram_lasts (begin_lasts h) (fun _ _ h' => takeHeartbeat_lasts h')) next
  | coverageReceive => exact .of_next (receiveDatagram_lasts (begin_lasts h) (fun _ _ h' => takeCoverage_lasts h')) next
  | rendezvousReceive => exact .of_next (receiveDatagram_lasts (begin_lasts h) (fun _ _ h' => takeRdv_lasts h')) next
  | correctionsReceive => exact .of_next (receiveDatagram_lasts (begin_lasts h) (fun _ _ h' => takeCorrections_lasts h')) next
  | leaveReceive => exact .of_next (receiveDatagram_lasts (begin_lasts h) (fun _ _ h' => takeLeave_lasts h')) next
  | _ => exact absurd row Bool.false_ne_true

theorem transferRow_lasts {k : Latitude} {c : Instr} {s u : State} (hm : movesBytes c = k.moves)
    (row : isTransferRow c = true) (next : exec c s = .next u) : Lasts k s u := by
  have h : Lasts k s s := .refl
  cases c with
  | descriptorStart =>
    exact .of_next (ite_lasts (startDescriptor_lasts (foldOver_lasts (begin_lasts h) (fun _ _ h' => offerDescriptor_lasts h')))
        (begin_lasts h)) next
  | descriptorComplete => exact .of_next (ite_lasts (endDescriptor_lasts (begin_lasts h) hm.symm) (begin_lasts h)) next
  | descResubmit => exact .of_next (ite_lasts (resubmit_lasts (begin_lasts h)) (begin_lasts h)) next
  | _ => exact absurd row Bool.false_ne_true

theorem transmitRow_lasts {k : Latitude} {c : Instr} {s u : State} (row : isTransmitRow c = true)
    (next : exec c s = .next u) : Lasts k s u := by
  have h : Lasts k s s := .refl
  cases c with
  | messageDue => exact .of_next (ite_lasts (messageDue_lasts (begin_lasts h)) (begin_lasts h)) next
  | txError => exact .of_next (ite_lasts (transmitError_lasts (begin_lasts h)) (begin_lasts h)) next
  | busOn => exact .of_next (ite_lasts (busOn_lasts (begin_lasts h)) (begin_lasts h)) next
  | addressClaim => exact .of_next (addressClaim_lasts (begin_lasts h)) next
  | rxTimeout => exact .of_next (ite_lasts (rxTimeout_lasts (begin_lasts h)) (begin_lasts h)) next
  | canFrameSent => exact .of_next (ite_lasts (frameSent_lasts (begin_lasts h)) (begin_lasts h)) next
  | _ => exact absurd row Bool.false_ne_true

/-- What stands under a command: the level keys and the stored limp map under all that bring no request, the memories under all that
complete no descriptor, and the rest under every command. -/
theorem exec_lasts {c : Instr} {s u : State} (next : exec c s = .next u) : Lasts ⟨!bringsNoRequest c, movesBytes c⟩ s u := by
  have h : Lasts ⟨!bringsNoRequest c, movesBytes c⟩ s s := .refl
  cases c with
  | hello | identify | sessionOpen | sessionClose | sessionKeep | sessionKeySet | requestCancel | regRead | regWrite | regModify
  | tableInfo | tableRead | tableWrite | blockUnlock | blockLock | sidingLoad | sidingVerify | pointsThrow | sidingClear | setInfo
  | loadSet | loadStatus | loadReinstate | limpMapRead | limpMapWrite | loopOpen | loopRun | loopHold | loopSetpoint | loopStatus
  | modelLoad | modelInfo | streamStatus | streamReinstate | gridRead | functionAuto | functionManual | functionStatus | steerEngage
  | steerRelease | guidanceSet | rtcmFeed | gnssStatus | ppsDelaySet | fieldOpen | fieldClose | yieldStatus | yieldTileRead | taskExport
  | consistJoin | consistLeave | consistKeySet | consistStatus | rendezvousRequest | streamOpen | streamClose | dmaStatus | logbookRead
  | logbookInfo | retirementRead | updateBegin | updateChunk | updateVerify | updateActivate | updateConfirm | updateStatus | lineStatus
  | linkReinstate | parkedDeclare | levelSet | levelStatus | resume | sleep | event | eventSubscribe | echo | countersRead =>
    exact packet_lasts rfl rfl next
  | overCurrentLatch | thermalLatch | retry | retryOk | inrushWindowEnd | openLoadJudgement | studMean | supplyLow | currentMeasure
  | senseSelect | lhInChange | limpReqLow | supplyLowClear | pwmPeriodStart => exact loadRow_lasts rfl next
  | correlatorDump | acquisitionDone | gnssEpoch | slewEnd | timePulse | antFault | rtcmFrame | corrStale | steerCompute | enableFilter
  | edgeHoldTimeout | fixGraceExpiry | overrideExpiry | speedExpiry | blendEnd => exact navigationRow_lasts rfl next
  | heartbeatReceive | coverageReceive | rendezvousReceive | correctionsReceive | leaveReceive => exact consistRow_lasts rfl next
  | descriptorStart | descriptorComplete | descResubmit => exact transferRow_lasts rfl rfl next
  | messageDue | txError | busOn | addressClaim | rxTimeout | canFrameSent => exact transmitRow_lasts rfl next
  | strapSample => exact .of_next (strapSample_lasts (begin_lasts h)) next
  | masterListenEnd => exact .of_next (masterListenEnd_lasts (begin_lasts h)) next
  | cycleStartFromHolder => exact .of_next (otherCycleStart_lasts (begin_lasts h)) next
  | xoKeepAlive => exact .of_next (xoHeard_lasts (begin_lasts h)) next
  | xoLost => exact .of_next (xoWatch_lasts (begin_lasts h)) next
  | crossoverUp => exact .of_next (xoComesUp_lasts (begin_lasts h)) next
  | crossoverValueSend => exact .of_next (sendCross_lasts (begin_lasts h)) next
  | eventLatchDrain => exact .of_next (drainOne_lasts (begin_lasts h)) next
  | signalDieRestart => exact .of_next (signalDown_lasts (begin_lasts h)) next
  | outputReclaim => exact .of_next (outputReclaim_lasts (begin_lasts h)) next
  | holdExpiry => exact .of_next (holdExpires_lasts (begin_lasts h)) next
  | yardDieRestart => exact .of_next (yardDown_lasts (begin_lasts h)) next
  | yardDieBack => exact .of_next (yardBack_lasts (begin_lasts h)) next
  | plannedGraceEnd => exact .of_next (plannedEnd_lasts (begin_lasts h)) next
  | dieBoot => exact .of_next (settle_lasts (boot_lasts (begin_lasts h))) next
  | gnsPpsDelayWrite => exact .of_next (writePpsDelay_lasts (begin_lasts h)) next
  | registerWrite => exact .of_next (ite_lasts (writeOne_lasts (begin_lasts h)) (begin_lasts h)) next
  | minSlackRestart => exact .of_next (State.put_lasts (begin_lasts h)) next
  | hmapWrite => exact .of_next (ite_lasts (State.setReg_lasts (begin_lasts h)) (begin_lasts h)) next
  | remapDone => exact .of_next (ite_lasts (remap_lasts (begin_lasts h)) (begin_lasts h)) next
  | gateOpen => exact .of_next (ite_lasts (gateOpen_lasts (begin_lasts h)) (begin_lasts h)) next
  | gateCloseRequest => exact .of_next (ite_lasts (gateRequest_lasts (begin_lasts h)) (begin_lasts h)) next
  | gateClose => exact .of_next (ite_lasts (gateClose_lasts (begin_lasts h)) (begin_lasts h)) next
  | gateForced =>
    exact .of_next (ite_lasts (gateDescriptors_lasts (ite_lasts (gateController_lasts (gateForce_lasts (begin_lasts h)))
        (gateForce_lasts (begin_lasts h)))) (gateForce_lasts (begin_lasts h))) next
  | dmaStopWrite => exact .of_next (ite_lasts (writeStop_lasts (begin_lasts h)) (begin_lasts h)) next
  | interimRepeat => exact .of_next (repeatInterims_lasts (begin_lasts h)) next
  | forwardTimeout => exact .of_next (ite_lasts (forwardTimeouts_lasts (begin_lasts h)) (begin_lasts h)) next
  | openPendingExpiry => exact .of_next (openPendingExpiry_lasts (begin_lasts h)) next
  | sessionIdleClose => exact .of_next (idleClose_lasts (begin_lasts h)) next
  | unlockExpiry => exact .of_next (unlockExpiry_lasts (begin_lasts h)) next
  | forwardedReply => exact .of_next (forwardedReply_lasts (begin_lasts h)) next
  | mirroredReplyRelease => exact .of_next (releaseMirrored_lasts (begin_lasts h)) next
  | standingServe => exact .of_next (serve_lasts (begin_lasts h) rfl) next
  | ownerRestartReply => exact .of_next (answerDropped_lasts (begin_lasts h)) next
  | isoTpTimeout => exact .of_next (isoTimeout_lasts (begin_lasts h)) next
  | hostArpIcmp => exact .of_next (hostProbe_lasts (begin_lasts h)) next
  | sensorArpIcmp => exact .of_next (ite_lasts (emit_lasts (begin_lasts h)) (begin_lasts h)) next
  | cycleBoundary => exact .of_next (cycleBoundary_lasts (begin_lasts h)) next
  | entrySend => exact .of_next (entrySend_lasts (begin_lasts h)) next
  | lineFrameForward => exact .of_next (lineForward_lasts (begin_lasts h)) next
  | reservedFrameReceive => exact .of_next (dataReceive_lasts (begin_lasts h)) next
  | cycleStartReceive => exact .of_next (cycleStartReceive_lasts (begin_lasts h)) next
  | queuedFrameReceive => exact .of_next (queuedReceive_lasts (begin_lasts h) rfl) next
  | joinSend => exact .of_next (joinSend_lasts (begin_lasts h)) next
  | joinReceive => exact .of_next (joinReceive_lasts (begin_lasts h)) next
  | joinAcceptReceive => exact .of_next (joinAcceptReceive_lasts (begin_lasts h)) next
  | timetableStart => exact .of_next (timetableStart_lasts (begin_lasts h)) next
  | delayProbe => exact .of_next (delayProbe_lasts (begin_lasts h)) next
  | delayReqReceive => exact .of_next (delayReqReceive_lasts (begin_lasts h)) next
  | delayRespReceive => exact .of_next (delayRespReceive_lasts (begin_lasts h)) next
  | checkReceive => exact .of_next (checkReceive_lasts (begin_lasts h)) next
  | beFrameSend => exact .of_next (beFrameSend_lasts (begin_lasts h)) next
  | beFrameReceive => exact .of_next (bestEffortReceive_lasts (begin_lasts h) rfl) next
  | diagReceive => exact .of_next (diagReceive_lasts (begin_lasts h)) next
  | resEndMiss => exact .of_next (resEndMiss_lasts (begin_lasts h)) next
  | linkClassify => exact .of_next (linkClassify_lasts (begin_lasts h)) next
  | takeoverDecision => exact .of_next (takeoverDecision_lasts (begin_lasts h)) next
  | takeover => exact .of_next (takeover_lasts (begin_lasts h)) next
  | phyLinkDrop => exact .of_next (linkDrop_lasts (begin_lasts h)) next
  | phyLinkUp => exact .of_next (linkUp_lasts (begin_lasts h)) next
  | lineLost => exact .of_next (lineLost_lasts (begin_lasts h)) next
  | entryMissLimit => exact .of_next (entryMissLimit_lasts (begin_lasts h)) next
  | stationAbsent => exact .of_next (stationAbsent_lasts (begin_lasts h)) next
  | freeRunLimit => exact .of_next (freeRunLimit_lasts (begin_lasts h)) next
  | syncAchieved => exact .of_next (syncAchieved_lasts (begin_lasts h)) next
  | armingRequest => exact .of_next (armingRequest_lasts (begin_lasts h)) next
  | throwCommitDecision => exact .of_next (commitDecision_lasts (begin_lasts h)) next
  | throwSwap => exact .of_next (throwStart_lasts (begin_lasts h)) next
  | lateThrow => exact .of_next (lateThrow_lasts (begin_lasts h)) next
  | throwFinalReply => exact .of_next (throwFinal_lasts (begin_lasts h)) next
  | orderStart => exact .of_next (orderStart_lasts (begin_lasts h)) next
  | orderStep => exact .of_next (orderStep_lasts (begin_lasts h)) next
  | cameraFrame => exact .of_next (ite_lasts (underHeld_lasts (begin_lasts h) (fun _ h' => cameraFrame_lasts h')) (begin_lasts h)) next
  | lidarDatagram =>
    exact .of_next (ite_lasts (underHeld_lasts (begin_lasts h) (fun _ h' => lidarDatagram_lasts h')) (begin_lasts h)) next
  | directBlock =>
    exact .of_next (ite_lasts (underHeld_lasts (foldOver_lasts (begin_lasts h) (fun _ _ h' => readInput_lasts h'))
        (fun _ h' => directBlock_lasts h')) (foldOver_lasts (begin_lasts h) (fun _ _ h' => readInput_lasts h'))) next
  | modelInvocationDone =>
    exact .of_next (ite_lasts (underHeld_lasts (begin_lasts h) (fun _ h' => invocationDone_lasts h')) (begin_lasts h)) next
  | streamLost => exact .of_next (ite_lasts (streamLost_lasts (begin_lasts h)) (begin_lasts h)) next
  | streamRetired => exact .of_next (ite_lasts (streamExpired_lasts (begin_lasts h)) (begin_lasts h)) next
  | fusionFrame => exact .of_next (headlandStep_lasts (fusionFrame_lasts (begin_lasts h))) next
  | fusionFrameDone =>
    refine .of_next ?_ next
    split
    · exact begin_lasts h
    · exact ite_lasts (edgeFrame_lasts (settingFrame_lasts (frameReadable_lasts (begin_lasts h)))) (begin_lasts h)
  | stepTick => exact .of_next (stepTick_lasts (begin_lasts h)) next
  | policyDone => exact .of_next (policyDone_lasts (begin_lasts h)) next
  | settlingEnd => exact .of_next (ite_lasts (settlingEnd_lasts (begin_lasts h)) (begin_lasts h)) next
  | loopTick => exact .of_next (ite_lasts (loopTick_lasts (begin_lasts h)) (begin_lasts h)) next
  | loopDeadline => exact .of_next (ite_lasts (loopDeadline_lasts (begin_lasts h)) (begin_lasts h)) next
  | loopLossAction => exact .of_next (ite_lasts (lossDue_lasts (begin_lasts h)) (begin_lasts h)) next
  | limpReq => exact .of_next (ite_lasts (limpEnter_lasts (wakeUp_lasts (begin_lasts h))) (wakeUp_lasts (begin_lasts h))) next
  | limpMapLatch =>
    exact .of_next (ite_lasts (tellCanWake_lasts (limpMapLatch_lasts (begin_lasts h))) (limpMapLatch_lasts (begin_lasts h))) next
  | timeStep => exact .of_next (timeStep_lasts (begin_lasts h)) next
  | yieldSample => exact .of_next (yieldSample_lasts (begin_lasts h)) next
  | cutInstant => exact .of_next (cutInstant_lasts (begin_lasts h)) next
  | tileFlush => exact .of_next (ite_lasts (flushField_lasts (begin_lasts h)) (begin_lasts h)) next
  | heartbeatSend => exact .of_next (heartbeatSend_lasts (begin_lasts h)) next
  | coverageSend => exact .of_next (coverageSend_lasts (begin_lasts h)) next
  | leaveRepeat => exact .of_next (leaveRepeat_lasts (begin_lasts h)) next
  | memberLost => exact .of_next (memberLost_lasts (begin_lasts h)) next
  | memberRemove => exact .of_next (memberRemove_lasts (begin_lasts h)) next
  | joinListenEnd => exact .of_next (joinListenEnd_lasts (begin_lasts h)) next
  | requestSend => exact .of_next (requestSend_lasts (begin_lasts h)) next
  | offerSelect => exact .of_next (offerSelect_lasts (begin_lasts h)) next
  | trackSend => exact .of_next (trackSend_lasts (begin_lasts h)) next
  | offerTimeout => exact .of_next (offerTimeout_lasts (begin_lasts h)) next
  | trackTimeout => exact .of_next (trackTimeout_lasts (begin_lasts h)) next
  | correctionRelay => exact .of_next (ite_lasts (relayAll_lasts (begin_lasts h)) (begin_lasts h)) next
  | refWindow =>
    exact .of_next (ite_lasts (begin_lasts h) (ite_lasts (coarseWindow_lasts (begin_lasts h)) (crossWindow_lasts (begin_lasts h)))) next
  | refMissing => exact .of_next (ite_lasts (refMissing_lasts (begin_lasts h)) (begin_lasts h)) next
  | refReturn => exact .of_next (ite_lasts (refReturn_lasts (begin_lasts h)) (begin_lasts h)) next
  | refWaitTimeout => exact .of_next (ite_lasts (refWait_lasts (begin_lasts h)) (begin_lasts h)) next
  | sequencerCheck => exact .of_next (ite_lasts (sequencerCheck_lasts (begin_lasts h)) (begin_lasts h)) next
  | levelRaiseDone => exact .of_next (ite_lasts (raiseDone_lasts (begin_lasts h)) (begin_lasts h)) next
  | faceTempRead => exact .of_next (ite_lasts (faceTemp_lasts (begin_lasts h)) (begin_lasts h)) next
  | patrolScrub => exact .of_next (patrolPass_lasts (begin_lasts h)) next
  | pageRetirement => exact .of_next (retirePage_lasts (begin_lasts h)) next
  | streamUnitSend => exact .of_next (ite_lasts (streamUnitSend_lasts (begin_lasts h)) (begin_lasts h)) next
  | canFrameReceive => exact .of_next (ite_lasts (canReceive_lasts (begin_lasts h) rfl) (begin_lasts h)) next
  | canWake => exact .of_next (wakeUp_lasts (begin_lasts h)) next
  | eventSend => exact .of_next (sendEvent_lasts (begin_lasts h)) next
  | histogramSecond => exact .of_next (histogramSecond_lasts (begin_lasts h)) next
  | logCommit => exact .of_next (logCommit_lasts (begin_lasts h)) next
  | signalDeadmanExpiry => exact .of_next (signalDeadman_lasts (begin_lasts h)) next
  | yardDeadmanExpiry => exact .of_next (yardDeadman_lasts (begin_lasts h)) next
  | flashOperationFail => exact .of_next (flashFail_lasts (begin_lasts h)) next
  | verifyDone => exact .of_next (ite_lasts (verifyDone_lasts (begin_lasts h)) (begin_lasts h)) next
  | moduleActivate => exact .of_next (ite_lasts (settle_lasts (activateModule_lasts (begin_lasts h))) (begin_lasts h)) next
  | trialHealthy => exact .of_next (trialHealthy_lasts (begin_lasts h)) next
  | confirmTimeout => exact .of_next (ite_lasts (settle_lasts (confirmTimeout_lasts (begin_lasts h))) (begin_lasts h)) next
  | handoverStart => exact .of_next (scheduleHandover_lasts (begin_lasts h)) next
  | handover => exact .of_next (handover_lasts (begin_lasts h)) next
  | runStep => exact .of_next (settle_lasts (runStep_lasts (begin_lasts h))) next
  | powerUp => exact .of_next (ite_lasts (State.put_lasts (powerOn_lasts (begin_lasts h))) (begin_lasts h)) next
  | powerFail => exact .of_next (ite_lasts (begin_lasts h) (ite_lasts (goDark_lasts (begin_lasts h)) (pwr_lasts (begin_lasts h)))) next
  | ignOffTimeout => exact .of_next (ignOff_lasts (begin_lasts h)) next
  | sleepEntry => exact .of_next (sleepEntry_lasts (begin_lasts h)) next
  | wake => exact .of_next (wakeUp_lasts (begin_lasts h)) next
  | camLimit => exact .of_next (ite_lasts (State.putBit_lasts (begin_lasts h)) (begin_lasts h)) next
  | deadmanRestart => exact .of_next (firmwareRestart_lasts (begin_lasts h)) next
  | inputSample => exact .of_next (readInput_lasts (begin_lasts h)) next
  | sidingVerifyDone => exact .of_next (sidingVerified_lasts (begin_lasts h)) next
  | sensLimit => exact .of_next (ite_lasts (State.put_lasts (begin_lasts h)) (begin_lasts h)) next

/-- Settles O60: what stands under every command, read off for the commands that bring no request and for those that complete no
descriptor. -/
theorem queueTimeAndStoresStand : Obligations.QueueTimeAndStoresStand := by
  intro c s u next
  have stands := exec_lasts next
  refine ⟨⟨stands.now, stands.pending, stands.keys⟩, fun noRequest => stands.stored (by simp [noRequest]), fun other => stands.mem ?_⟩
  cases c
  case descriptorComplete t n e => exact absurd rfl (other t n e)
  all_goals rfl

end Sys2Proof.Machine
end
